-- ==== Sys2Proof/Word.lean ====
section
/-!
DEFINITION. The machine's bytes and words: the byte type, byte strings, and the little-endian and
network-order readings of a byte string (R7).
-/
namespace Sys2Proof

/-- One byte, as the manual counts bytes. -/
abbrev Byte := BitVec 8

/-- A byte string, lowest offset first. -/
abbrev Bytes := List Byte

/-- The number a byte string spells with its first byte least significant (R7, R33). -/
def leNat : Bytes → Nat
  | [] => 0
  | b :: r => b.toNat + 256 * leNat r

/-- The `n` bytes of `v`, least significant first. -/
def leBytes : Nat → Nat → Bytes
  | 0, _ => []
  | n + 1, v => BitVec.ofNat 8 v :: leBytes n (v / 256)

/-- The number a byte string spells in network order, first byte most significant (R7). -/
def beNat (bs : Bytes) : Nat := bs.foldl (fun a b => a * 256 + b.toNat) 0

/-- The `n` bytes of `v` in network order. -/
def beBytes (n v : Nat) : Bytes := (leBytes n v).reverse

/-- The bytes from offset `o`, `n` of them. -/
def slice (o n : Nat) (bs : Bytes) : Bytes := (bs.drop o).take n

/-- `bs` padded with zero bytes, or cut, to `n` bytes. -/
def fit (n : Nat) (bs : Bytes) : Bytes := bs.take n ++ List.replicate (n - bs.length) 0#8

/-- The field of `w` bits at bit `lo` of `v`. -/
def bits (v lo w : Nat) : Nat := (v >>> lo) % 2 ^ w

/-- Bit `i` of `v`. -/
def bit (v i : Nat) : Bool := v.testBit i

/-- `v` with bit `i` set to `b`. -/
def setBit (v i : Nat) (b : Bool) : Nat :=
  if b then v ||| (1 <<< i) else if v.testBit i then v ^^^ (1 <<< i) else v

/-- The two's complement pattern of `x` in `w` bits. -/
def toTwos (w : Nat) (x : Int) : Nat := (x % (2 ^ w : Int)).toNat

/-- The signed number a two's complement pattern of `w` bits spells. -/
def ofTwos (w v : Nat) : Int := if v % 2 ^ w < 2 ^ (w - 1) then (v % 2 ^ w : Nat) else ((v % 2 ^ w : Nat) : Int) - 2 ^ w

/-- One for true. -/
def boolNat (b : Bool) : Nat := if b then 1 else 0

/-- Division rounded up. -/
def ceilDiv (a b : Nat) : Nat := (a + b - 1) / b

end Sys2Proof
end

