-- ==== Sys2Proof/Syntax.lean ====
section
/-!
DEFINITION. The commands of the ISF3232: one constructor of `Instr` per row of spec/opcode_table.json, with the
operands the row's rule gives it, and the types of those operands.
A command is a dictionary access, a message, a pin or a line event, or the end of something the device started
itself. What the outside world decides (a measurement, a calibration result, the bytes of a frame) is an operand.
-/
namespace Sys2Proof

/-- The four masters of the dictionary engine (R42), in the order they are served in one Hub clock. -/
inductive Master where
  | pcie | ring | debug | sydin
deriving DecidableEq, Repr

/-- Who issued a dictionary request: the master and the session identifier it carries (R42, R62). -/
structure Req where
  master : Master
  session : Nat
deriving DecidableEq, Repr

/-- The address block of R31. -/
structure AddrBlock where
  group : Nat
  row : Nat
  whole : Bool
  table : Bool
  sub : Nat
  index : Nat
deriving DecidableEq, Repr

/-- The three transports of sessions (R62). -/
inductive Transport where
  | ring | pcie | debug
deriving DecidableEq, Repr

/-- A Holloth Ring message as received (R58); `reserved` are bytes 14 and 15, `crc` is the CRC field, `tag` the 8 tag bytes as
a number in network order. -/
structure RingMsg where
  dst : Nat
  src : Nat
  type : Nat
  flags : Nat
  session : Nat
  counter : Nat
  reserved : Nat
  payload : Bytes
  tag : Nat
  crc : Nat
deriving DecidableEq, Repr

/-- A frame as a port receives it: the bytes from destination address to the last byte before the FCS, whether the
FCS and code blocks were good (R100), and the raw arrival stamp of R116 in units of 2⁻¹⁶ ns. -/
structure RxFrame where
  port : Nat
  data : Bytes
  good : Bool
  stamp : Nat
deriving DecidableEq, Repr

/-- A descriptor as read from host memory (R73); `pcieError` says that the transfer of its buffer failed. -/
structure Descriptor where
  address : Nat
  length : Nat
  kind : Bytes
  pcieError : Bool
deriving DecidableEq, Repr

/-- What a port receives (R105, PORT_LINK of R106). -/
inductive RxState where
  | noSignal | noAlign | localFault | remoteFault | up
deriving DecidableEq, Repr

/-- What the memory device returned for a line (R313, R324): all good, good after `n` corrections, good only on the
second read, failed twice, or the node line at `level` of R318 (1 to 6) that failed twice on the way down the tree; in
these three `n` is the number of uncorrectable codewords the reads brought, and a failed tag brings none. The last two give
the bytes that both reads returned, so that the tags of R320 decide: ciphertext and tag of the line, or the node line at
`level` and its node tag. -/
inductive LineOutcome where
  | ok
  | corrected (n : Nat)
  | retried (n : Nat)
  | failed (n : Nat)
  | nodeFailed (level n : Nat)
  | raw (cipher tag : Bytes)
  | rawNode (level : Nat) (line tag : Bytes)
deriving DecidableEq, Repr

/-- What the memory scrubber found in a codeword (R329). -/
inductive ScrubOutcome where
  | clean | corrected | badData | badNode | locked
deriving DecidableEq, Repr

/-- How a retrial compared (R207). -/
inductive RetrialOutcome where
  | umpire | core | neither
deriving DecidableEq, Repr

/-- What the host writes into the MSI-X table (address, data and mask bit of an entry) or into the MSI-X capability (enable
and function mask) (R69, R75). -/
inductive MsixWrite where
  | entry (e address data : Nat) (masked : Bool)
  | control (enable functionMask : Bool)
deriving DecidableEq, Repr

/-- What resets the host port (R68). -/
inductive PortResetCause where
  | perst | flr | linkDown
deriving DecidableEq, Repr

/-- The object of a receive SC that RXSC_ENTRY_MAINTAIN writes (R240). -/
inductive RxscObject where
  | scDir | scPort | scSci | hostPort | cls | scCa | returnSc
deriving DecidableEq, Repr

/-- A visit of the vault scrubber: a vault slot or a resident SA slot (R291). -/
inductive ScrubTarget where
  | vault (slot : Nat)
  | context (slot : Nat)
deriving DecidableEq, Repr

/-- The lookaside parameter block of R305, as read from host memory, with the source and additional data bytes. -/
structure LaParams where
  dst : Nat
  aadAddr : Nat
  aadLen : Nat
  ivSource : Nat
  tagLen : Nat
  reserved : Nat
  iv : Bytes
  tag : Bytes
  readError : Bool
deriving DecidableEq, Repr

/-- The reason a row of a macro is spared (R405): an uncorrectable word of it, with the frame whose cell or state it held when
that cannot be told from the row (a frame that is parked, a word of queue state), or the count of corrected symbols. -/
inductive SpareCause where
  | uncorrectable (word : Nat) (frame : Option Nat)
  | corrected
deriving DecidableEq, Repr

/-- What of a cipher bank an uncorrectable word was (R205): neither of these, the cached round keys of a resident slot, or the
GCM context entry of a frame. -/
inductive BankWord where
  | none
  | schedule (slot : Nat)
  | context (frame : Nat)
deriving DecidableEq, Repr

/-- The detail of a sampled fault: the bytes of its record (R375), and what of a cipher bank it was found in. -/
structure FaultDetail where
  bytes : Bytes
  lost : BankWord
deriving DecidableEq, Repr

/-- A Peer Link message (R249); `crc` and `tag` are the fields as received. -/
structure PeerMsg where
  type : Nat
  hops : Nat
  origin : Nat
  count : Nat
  sequence : Nat
  payload : Bytes
  tag : Nat
  crc : Nat
deriving DecidableEq, Repr

/-- The commands, one constructor per row of spec/opcode_table.json, in the table's order. -/
inductive Instr where
  -- the object dictionary (R43 to R48)
  | dictWrite (r : Req) (a : AddrBlock) (v : Bytes)
  | groupShadowWrite (r : Req) (a : AddrBlock) (v : Bytes)
  | groupOpen (r : Req) (g : Nat)
  | commitNow (r : Req) (g : Nat)
  | commitAt (r : Req) (g : Nat)
  | groupCancel (r : Req) (g : Nat)
  | groupRelease (r : Req) (g : Nat)
  | lockClaim (r : Req)
  | lockRelease (r : Req)
  | lockBreak (r : Req)
  | lockLeaseExpiry
  -- the Holloth Ring (R51 to R66)
  | ringCharacterLock (place status : Byte)
  | ringLockLoss
  | ringMessageForward (m : RingMsg)
  | ringMessageInsert
  | ringHoldAssert
  | join
  | address (m : RingMsg)
  | request (m : RingMsg)
  | ringOpen (m : RingMsg)
  | ringProve (m : RingMsg)
  | proveTimeout (row : Nat)
  | proofLockoutEnd (t : Transport)
  | sessionClose (r : Req) (row : Nat)
  | sessionIdleExpiry (row : Nat)
  -- the PCIe host port (R68 to R75)
  | pcieWindowRead (w session : Nat) (a : AddrBlock)
  | pcieWindowWrite (w session : Nat) (a : AddrBlock) (v : Bytes)
  | pcieWindowOpen (w : Nat) (payload : Bytes)
  | pcieWindowProve (w : Nat) (payload : Bytes)
  | pcieWindowClose (w session : Nat)
  | pciePortReset (c : PortResetCause)
  | apertureRead (offset length : Nat)
  | apertureWrite (offset : Nat) (v : Bytes)
  | ringEnableSet (r : Req) (n : Nat)
  | ringEnableClear (r : Req) (n : Nat)
  | doorbell (n tail : Nat)
  | dmaDescriptorProcess (d : Descriptor)
  | dmaIrqTimer (n : Nat)
  | msixUnmask (w : MsixWrite)
  -- JTAG and the debug access port (R76, R77)
  | bypass
  | idcode
  | samplePreload (chain : Nat)
  | extest (chain : Nat)
  | dapRead (session : Nat) (a : AddrBlock)
  | dapWrite (session : Nat) (a : AddrBlock) (length : Nat)
  | valueIn (offset : Nat) (v : Nat)
  | valueOut (offset : Nat)
  | dapStatus
  | dapOpen
  | dapProve
  | dapClose (session : Nat)
  -- operating modes and start-up (R78 to R92)
  | goRun (r : Req)
  | goStage (r : Req)
  | goDrain (r : Req)
  | resumeRun (r : Req)
  | modeCmdReset (r : Req)
  | pwrGoodLow
  | resetNLow
  | resetRelease
  | bootPllsLocked
  | entropyStartupTests (passed : Bool)
  | sydinImageVerified
  | memTrainingDone (failed : Nat)
  | serdesCalibrationDone (lineFailed hostFailed durationUs : Nat)
  | bootComplete
  | drainFlushComplete
  | drainFlushExpiry
  | takeOut (r : Req) (s : Nat)
  | gate (r : Req) (s : Nat)
  | sliceReturn (r : Req) (s : Nat)
  | sliceReturnDone (s failed : Nat)
  -- lanes and Ethernet ports (R93 to R109)
  | laneSignalDetect (l : Nat)
  | laneAcquisitionDone (l : Nat)
  | laneAcquisitionTimeout (l : Nat)
  | laneSignalLoss (l : Nat)
  | portLinkChange (p : Nat) (rx : RxState)
  | fecUncorrLimit (p codewords : Nat)
  | macControlRx (p : Nat) (data : Bytes)
  | pauseExpiry (p c : Nat)
  | xoffRefresh (p : Nat)
  | portRecalArm (r : Req) (p : Nat)
  | portRecalCancel (r : Req) (p : Nat)
  | receiverFreeze (p : Nat) (cut : Option Nat)
  | recalAlignmentRegained (p : Nat) (rx : RxState)
  | recalTimeout (p : Nat)
  -- network time (R110 to R132)
  | phcSet (r : Req)
  | phcStep (r : Req)
  | phcSlew (r : Req)
  | phcSlewStop (r : Req)
  | phcFreqAdjWrite (r : Req) (v : Int)
  | phcChangeEffect
  | slewComplete
  | leapApply
  | tsCalCmd (r : Req) (p : Nat)
  | tsPhaseMeasured (p : Nat) (ok : Bool) (rxPhase txPhase : Int)
  | tsRegionTempRead (p : Nat) (temp : Int)
  | tcScheduledDeparture (f : Nat) (lineFree : Bool)
  | ppsOutEdge
  | ppsOutFall
  | todOutMessage
  | ppsInEdge (stamp : Nat)
  | todInMessage (v : Bytes)
  | timeLockTimeout
  -- gun times (R134 to R143)
  | gunIssue (e : Nat)
  | gunFire (e : Nat)
  | gunMessageRx (m : RingMsg)
  -- the frame pipeline and MACsec (R144 to R195)
  | hostFrameRx (f : RxFrame)
  | lineFrameRx (f : RxFrame)
  | callroomLookupReturn (f : Nat) (ok : Bool)
  | callroomTimeout (f : Nat)
  | schedulerFrameStart (sd : Nat)
  | pnAssign (f : Nat)
  | stopHoldExpiry (sc : Nat)
  | keystreamApply (f cell : Nat)
  | frameTxComplete (f : Nat)
  | decryptTailVerify (f : Nat)
  | parserLoadA (r : Req) (s : Nat)
  | parserLoadB (r : Req) (s : Nat)
  | parserArm (r : Req) (s : Nat)
  | parserCancel (r : Req) (s : Nat)
  | puntDeliver (f : Nat) (d : Descriptor)
  | puntDescriptorTimeout (f : Nat)
  | injectDescriptor (n : Nat) (d : Descriptor) (data : Bytes)
  | injectComplete (f stamp : Nat)
  | injectSendTimeout (f : Nat)
  -- cipher banks (R196 to R212)
  | bankTurn (b : Nat) (mismatch : Bool)
  | retrialResult (b : Nat) (o : RetrialOutcome)
  | coreStrikeRetire (b core : Nat)
  | coreTakeoverDone (b : Nat)
  | bankKat (b core : Nat) (passed : Bool)
  | umpireLfsrReseed (b : Nat)
  | bankRetire (r : Req) (b core : Nat)
  | katNow (r : Req) (b core : Nat) (passed : Bool)
  | keyScheduleLoadDone (b slot : Nat) (ok : Bool)
  -- secure association life (R215 to R231)
  | saProvision (r : Req) (pr : Nat)
  | saLoad (r : Req) (pr : Nat)
  | saArm (r : Req) (pr : Nat)
  | saCancel (r : Req) (pr : Nat)
  | saRetire (r : Req) (pr : Nat)
  | saUnload (r : Req) (pr : Nat)
  | saRelease (r : Req) (pr : Nat)
  | saDrained (pr : Nat)
  -- classification and learning (R233 to R253)
  | clsWrite (r : Req) (s : Nat)
  | clsDelete (r : Req) (s : Nat)
  | clsRead (r : Req) (s : Nat)
  | rxscEntryMaintain (r : Req) (sc : Nat) (o : RxscObject) (v : Nat)
  | insertEngineDone
  | agingScanVisit (b : Nat)
  | batonProcess
  | learnFlush (r : Req) (ca : Nat)
  | peerMessageRx (lane : Nat) (m : PeerMsg)
  | peerBlockLock (lane : Nat) (locked : Bool)
  | tagRenormalize
  | lapWritebackDone
  -- key store (R283 to R300)
  | vaultImport (r : Req) (s : Nat)
  | vaultDerive (r : Req) (s : Nat)
  | deriveSuccessor (r : Req) (s : Nat)
  | zeroizeSlot (r : Req) (s : Nat)
  | zeroizeTenant (r : Req) (s : Nat)
  | zeroizeAll (r : Req) (s : Nat)
  | vaultScrubVisit (t : ScrubTarget) (ok : Bool)
  | drbgReseed
  | entropyTestFail
  | entropyRestartDone (passed : Bool)
  | drbgReinstantiate (passed : Bool)
  -- lookaside cipher engine (R301 to R311)
  | lookasideJobStart (n : Nat) (d : Descriptor) (p : LaParams) (src aad : Bytes)
  | lookasideSliceYield (n : Nat)
  | lookasideJobComplete (n : Nat) (pcieError : Bool)
  -- external memory (R312 to R334)
  | memLineRead (line : Nat) (o : LineOutcome)
  | memFullLineWrite (line : Nat) (v : Bytes)
  | memPartialWrite (offset : Nat) (v : Bytes) (o : LineOutcome)
  | treeNodeEvict (c level n : Nat)
  | memScrubVisit (c line word : Nat) (o : ScrubOutcome)
  | memChRetire (r : Req) (c : Nat)
  | memChUncorrRetire (c : Nat)
  | memCalibrationLost (c : Nat)
  | memRehashSwitch
  | memEvacuationDone
  | memWinRead (r : Req) (s : Nat)
  | memWinWrite (r : Req) (s : Nat)
  | readCiphertext (r : Req) (s : Nat)
  | memReinit (r : Req) (s : Nat)
  -- life-cycle states and debug (R335 to R348)
  | sealTest (r : Req)
  | lcUnlock (r : Req)
  | personalize (r : Req)
  | takeOwnership (r : Req)
  | lcReturn (r : Req)
  | scrap (r : Req)
  | rmaUnlock (r : Req)
  | lcRebuildDone
  | debugSessionExpiry (row : Nat)
  | dbgSramRead (r : Req) (s : Nat) (uncorrectable : Bool)
  -- firmware and attestation (R349 to R364)
  | fwErase (r : Req)
  | fwWrite (r : Req)
  | fwVerify (r : Req)
  | fwPrefer (r : Req)
  | activateReset (r : Req)
  | activateHot (r : Req)
  | hotActivationDone
  | fwDiscard (r : Req)
  | commitVersion (r : Req)
  | attBuildTop (r : Req)
  | bottomTreeBuildDone
  | attSign (r : Req) (s : Nat)
  | epochRollover
  -- fault collection (R365 to R380)
  | faultSample (src code base : Nat) (detail : FaultDetail)
  | brokenWire (src : Nat)
  | wireRestored (src : Nat) (fault : Bool)
  | fltSrcAck (r : Req) (src : Nat)
  | fltAckAll (r : Req)
  | eventRingDeliver (n : Nat) (d : Descriptor)
  | sydinWatchdog
  -- environment monitors (R382 to R389)
  | monitorEvent (ch : Nat) (value : Int) (region region2 : Nat)
  | monitorRearm (ch : Nat) (value : Int)
  -- performance counters (R391 to R401)
  | pmcSampleCapture (row f skid : Nat)
  | pmcSampleTimeout (row : Nat)
  | pmcValueRead (r : Req) (row : Nat)
  -- change in service and the rest
  | sramSpareCmd (r : Req) (m row : Nat)
  | sramRowSpare (m row : Nat) (c : SpareCause)
  | thermNAssert (temp : Int)
  | pcieLinkUp (width speed : Nat)
  | ringIdleSetRx (position place status : Byte)
  | pllLockRegained (src : Nat)
  | memCalibrationLoss (c : Nat)
  | memCalibrationRegained (c : Nat)
  | pmcClockCountWrap (row : Nat)
deriving DecidableEq, Repr

end Sys2Proof
end

