-- ==== Sys2Proof/Config.lean ====
section
/-!
DEFINITION. The values the specification leaves open, as constants without a body: nothing can be proved of what they
are. Each is applied to the model's own draw counter (`Device.draws`), so that every use is a value of its own.
-/
namespace Sys2Proof.Config

/-- Output of the DRBG (R298), of the cipher banks' LFSR seeds (R206) and of any choice the device makes at random
(R241): the n-th draw. FREE VALUE, log entry 1. -/
opaque draw : Nat → Nat

/-- A measurement the device makes that no rule gives a value (a digest of a signature, a key of the attestation tree):
the n-th such value. FREE VALUE, log entry 1. -/
opaque unstated : Nat → Nat

/-- The 32-bit LFSR of a cipher bank `n` clocks after it was loaded with a seed (R206): the manual does not give its
taps. FREE VALUE, log entry 1. -/
opaque lfsrAfter : Nat → Nat → Nat

/-- The vendor's HSS public key held in ROM (R343, R350), 60 bytes as a number, first byte least significant. FREE VALUE. -/
opaque vendorKey : Nat

/-- The silicon stepping of the die (R49), four bytes as a number, and its number in IDCODE (R76). FREE VALUE. -/
opaque dieStepping : Nat
opaque steppingNumber : Nat

/-- Ehruc's assigned manufacturer identity in IDCODE (R76). FREE VALUE. -/
opaque manufacturer : Nat

/-- Ehruc's assigned PCI Vendor ID (R68). FREE VALUE. -/
opaque vendorId : Nat

/-- The identifier of the Wilorn file of the running firmware release (R49). FREE VALUE. -/
opaque wilornSchema : Nat

/-- SHA-256 of the boot ROM (R354), as a number. FREE VALUE. -/
opaque romDigest : Nat

/-- The LM-OTS public key of leaf `q` under a seed and an identifier (R352, R359): the manual gives seed and identifier,
and not how a leaf's one-time key comes from them. FREE VALUE. -/
opaque lmotsPublic : Nat → Nat → Nat → Nat

/-- The factory values of a port's timestamp latency in OTP (R116): port, and 0 receive base, 1 transmit base, 2 receive
coefficient, 3 transmit coefficient. The manual gives their words no place. FREE VALUE. -/
opaque factoryTs : Nat → Nat → Nat

end Sys2Proof.Config
end

