-- ==== Sys2Proof/Machine/Crypto.lean ====
section
/-!
DEFINITION. The standard functions the specification names and does not restate: CRC-32 and CRC-32C, SHA-256, AES,
CMAC, the counter-mode key derivation, AES key wrap, GHASH, GCM and the LMS signature check of RFC 8554. PRESUMED from
the standards named by the rules (log entry 3).
-/
namespace Sys2Proof.Machine

/-- Byte-wise exclusive or of two strings of one length. -/
def xorBytes (a b : Bytes) : Bytes := List.zipWith (· ^^^ ·) a b

/-- The first `n` bytes of the characters of `s`. -/
def asciiBytes (s : String) : Bytes := s.toList.map (fun c => BitVec.ofNat 8 c.toNat)

/-- Cut into blocks of `n` bytes, `fuel` of them at most; the last may be shorter. -/
def chunksAux (n : Nat) : Nat → Bytes → List Bytes
  | 0, _ => []
  | fuel + 1, bs => if bs = [] then [] else bs.take n :: chunksAux n fuel (bs.drop n)

/-- Cut into blocks of `n` bytes. -/
def chunks (n : Nat) (bs : Bytes) : List Bytes := chunksAux n bs.length bs

/-! ### Cyclic redundancy checks (R58, R128, R236) -/

/-- One bit of a reflected CRC. -/
def crcBit (poly c : Nat) : Nat := if c % 2 = 1 then (c / 2) ^^^ poly else c / 2

/-- One byte of a reflected CRC: the byte enters at the least significant end (R236). -/
def crcByte (poly c : Nat) (b : Byte) : Nat :=
  (List.range 8).foldl (fun c _ => crcBit poly c) (c ^^^ b.toNat)

/-- A reflected CRC of 32 bits from the initial value `init`, final exclusive or of all ones. -/
def crcFrom (poly init : Nat) (bs : Bytes) : Nat := (bs.foldl (crcByte poly) init) ^^^ 0xFFFFFFFF

/-- IEEE 802.3 CRC-32. -/
def crc32 (bs : Bytes) : Nat := crcFrom 0xEDB88320 0xFFFFFFFF bs

/-! ### SHA-256 -/

def shaK : List Nat :=
  [0x428a2f98, 0x71374491, 0xb5c0fbcf, 0xe9b5dba5, 0x3956c25b, 0x59f111f1, 0x923f82a4, 0xab1c5ed5] ++
  [0xd807aa98, 0x12835b01, 0x243185be, 0x550c7dc3, 0x72be5d74, 0x80deb1fe, 0x9bdc06a7, 0xc19bf174] ++
  [0xe49b69c1, 0xefbe4786, 0x0fc19dc6, 0x240ca1cc, 0x2de92c6f, 0x4a7484aa, 0x5cb0a9dc, 0x76f988da] ++
  [0x983e5152, 0xa831c66d, 0xb00327c8, 0xbf597fc7, 0xc6e00bf3, 0xd5a79147, 0x06ca6351, 0x14292967] ++
  [0x27b70a85, 0x2e1b2138, 0x4d2c6dfc, 0x53380d13, 0x650a7354, 0x766a0abb, 0x81c2c92e, 0x92722c85] ++
  [0xa2bfe8a1, 0xa81a664b, 0xc24b8b70, 0xc76c51a3, 0xd192e819, 0xd6990624, 0xf40e3585, 0x106aa070] ++
  [0x19a4c116, 0x1e376c08, 0x2748774c, 0x34b0bcb5, 0x391c0cb3, 0x4ed8aa4a, 0x5b9cca4f, 0x682e6ff3] ++
  [0x748f82ee, 0x78a5636f, 0x84c87814, 0x8cc70208, 0x90befffa, 0xa4506ceb, 0xbef9a3f7, 0xc67178f2]

def shaInit : List Nat :=
  [0x6a09e667, 0xbb67ae85, 0x3c6ef372, 0xa54ff53a, 0x510e527f, 0x9b05688c, 0x1f83d9ab, 0x5be0cd19]

/-- Rotation right of a 32-bit word. -/
def ror32 (x n : Nat) : Nat := ((x >>> n) ||| (x <<< (32 - n))) % 2 ^ 32

/-- The message schedule, newest word first. -/
def shaSchedule (w : List Nat) : List Nat :=
  (List.range 48).foldl (fun w _ =>
    let a := w.getD 14 0
    let b := w.getD 1 0
    let s0 := ror32 a 7 ^^^ ror32 a 18 ^^^ (a >>> 3)
    let s1 := ror32 b 17 ^^^ ror32 b 19 ^^^ (b >>> 10)
    ((w.getD 15 0 + s0 + w.getD 6 0 + s1) % 2 ^ 32) :: w) w

/-- One round on the eight working words. -/
def shaRound (v : List Nat) (k w : Nat) : List Nat :=
  match v with
  | [a, b, c, d, e, f, g, h] =>
    let s1 := ror32 e 6 ^^^ ror32 e 11 ^^^ ror32 e 25
    let ch := (e &&& f) ^^^ ((e ^^^ 0xFFFFFFFF) &&& g)
    let t1 := h + s1 + ch + k + w
    let s0 := ror32 a 2 ^^^ ror32 a 13 ^^^ ror32 a 22
    let mj := (a &&& b) ^^^ (a &&& c) ^^^ (b &&& c)
    [(t1 + s0 + mj) % 2 ^ 32, a, b, c, (d + t1) % 2 ^ 32, e, f, g]
  | v => v

/-- The compression of one 64-byte block. -/
def shaBlock (h : List Nat) (blk : Bytes) : List Nat :=
  let w := (shaSchedule ((chunks 4 blk).map beNat).reverse).reverse
  let v := (List.zip shaK w).foldl (fun v p => shaRound v p.1 p.2) h
  List.zipWith (fun a b => (a + b) % 2 ^ 32) h v

/-- SHA-256 of a byte string, 32 bytes. -/
def sha256 (m : Bytes) : Bytes :=
  let pad := List.replicate ((119 - m.length % 64) % 64) 0#8
  let p := m ++ (0x80#8 :: pad) ++ beBytes 8 (8 * m.length)
  (((chunks 64 p).foldl shaBlock shaInit).map (beBytes 4)).flatten

/-! ### AES -/

/-- Multiplication by x in the AES field. -/
def xtime (b : Byte) : Byte := (b <<< 1) ^^^ (if b.getLsbD 7 then 0x1B#8 else 0#8)

/-- Multiplication of `b` in the AES field by a coefficient `m` below 16. -/
def gmul (m b : Byte) : Byte :=
  ((List.range 4).foldl (fun (p : Byte × Byte) i =>
    (if m.getLsbD i then p.1 ^^^ p.2 else p.1, xtime p.2)) (0#8, b)).1

/-- The S-box of FIPS 197 (Figure 7), a number for each row, its leftmost entry most significant. -/
def sBox : List Nat :=
  [0x637c777bf26b6fc53001672bfed7ab76, 0xca82c97dfa5947f0add4a2af9ca472c0, 0xb7fd9326363ff7cc34a5e5f171d83115, 0x04c723c31896059a071280e2eb27b275] ++
  [0x09832c1a1b6e5aa0523bd6b329e32f84, 0x53d100ed20fcb15b6acbbe394a4c58cf, 0xd0efaafb434d338545f9027f503c9fa8, 0x51a3408f929d38f5bcb6da2110fff3d2] ++
  [0xcd0c13ec5f974417c4a77e3d645d1973, 0x60814fdc222a908846eeb814de5e0bdb, 0xe0323a0a4906245cc2d3ac629195e479, 0xe7c8376d8dd54ea96c56f4ea657aae08] ++
  [0xba78252e1ca6b4c6e8dd741f4bbd8b8a, 0x703eb5664803f60e613557b986c11d9e, 0xe1f8981169d98e949b1e87e9ce5528df, 0x8ca1890dbfe6426841992d0fb054bb16]

/-- The inverse S-box of FIPS 197 (Figure 14). -/
def invSBox : List Nat :=
  [0x52096ad53036a538bf40a39e81f3d7fb, 0x7ce339829b2fff87348e4344c4dee9cb, 0x547b9432a6c2233dee4c950b42fac34e, 0x082ea16628d924b2765ba2496d8bd125] ++
  [0x72f8f66486689816d4a45ccc5d65b692, 0x6c704850fdedb9da5e154657a78d9d84, 0x90d8ab008cbcd30af7e45805b8b34506, 0xd02c1e8fca3f0f02c1afbd0301138a6b] ++
  [0x3a9111414f67dcea97f2cfcef0b4e673, 0x96ac7422e7ad3585e2f937e81c75df6e, 0x47f11a711d29c5896fb7620eaa18be1b, 0xfc563e4bc6d279209adbc0fe78cd5af4] ++
  [0x1fdda8338807c731b11210592780ec5f, 0x60517fa919b54a0d2de57a9f93c99cef, 0xa0e03b4dae2af5b0c8ebbb3c83539961, 0x172b047eba77d626e169146355210c7d]

/-- Entry `b` of a table of 16 rows. -/
def boxByte (rows : List Nat) (b : Byte) : Byte := BitVec.ofNat 8 (rows.getD (b.toNat / 16) 0 >>> (8 * (15 - b.toNat % 16)))

/-- The S-box. -/
def subByte (b : Byte) : Byte := boxByte sBox b

/-- The inverse S-box. -/
def invSubByte (b : Byte) : Byte := boxByte invSBox b

/-- The block whose byte `i` is byte `f i` of `s`. -/
def permuteBlock (f : Nat → Nat) (s : Bytes) : Bytes := (List.range 16).map (fun i => s.getD (f i) 0#8)

/-- ShiftRows and its inverse on the column order of FIPS 197. -/
def shiftRows (s : Bytes) : Bytes := permuteBlock (fun i => (5 * i) % 16) s
def invShiftRows (s : Bytes) : Bytes := permuteBlock (fun i => (13 * i) % 16) s

/-- Multiplication of each column by the circulant matrix of first row `m`. -/
def mixWith (m : List Byte) (s : Bytes) : Bytes :=
  (List.range 16).map (fun i =>
    (List.range 4).foldl (fun a j =>
      a ^^^ gmul (m.getD ((4 + j - i % 4) % 4) 0#8) (s.getD (i / 4 * 4 + j) 0#8)) 0#8)

/-- Expansion of a key of 16 or 32 bytes into its round keys of 16 bytes. -/
def aesExpand (key : Bytes) : List Bytes :=
  let nk := key.length / 4
  let w0 := (chunks 4 key).reverse
  let ws := (List.range (4 * (nk + 7) - nk)).foldl (fun (p : List Bytes × Byte) k =>
    let i := k + nk
    let t := p.1.headD []
    let old := p.1.getD (nk - 1) []
    if i % nk = 0 then
      let r := (t.drop 1 ++ t.take 1).map subByte
      let r := xorBytes r [p.2, 0#8, 0#8, 0#8]
      (xorBytes old r :: p.1, xtime p.2)
    else if nk > 6 && i % nk = 4 then (xorBytes old (t.map subByte) :: p.1, p.2)
    else (xorBytes old t :: p.1, p.2)) (w0, 1#8)
  chunks 16 (ws.1.reverse.flatten)

/-- AES encryption of one block under a key of 16 or 32 bytes. -/
def aesEnc (key blk : Bytes) : Bytes :=
  match aesExpand key with
  | [] => blk
  | k0 :: ks =>
    let mid := ks.dropLast
    let last := ks.getLastD []
    let s := mid.foldl (fun s k => xorBytes (mixWith [2, 3, 1, 1] (shiftRows (s.map subByte))) k) (xorBytes blk k0)
    xorBytes (shiftRows (s.map subByte)) last

/-- AES decryption of one block. -/
def aesDec (key blk : Bytes) : Bytes :=
  match (aesExpand key).reverse with
  | [] => blk
  | k0 :: ks =>
    let mid := ks.dropLast
    let last := ks.getLastD []
    let s := mid.foldl (fun s k => mixWith [14, 11, 13, 9] (xorBytes ((invShiftRows s).map invSubByte) k)) (xorBytes blk k0)
    xorBytes ((invShiftRows s).map invSubByte) last

/-! ### CMAC, key derivation, key wrap -/

/-- Doubling in the field of CMAC. -/
def cmacDouble (b : Bytes) : Bytes :=
  let v := beNat b * 2
  beBytes 16 (if v ≥ 2 ^ 128 then (v % 2 ^ 128) ^^^ 0x87 else v)

/-- CMAC of `m`, 16 bytes. -/
def cmac (key m : Bytes) : Bytes :=
  let k1 := cmacDouble (aesEnc key (List.replicate 16 0#8))
  let bs := chunks 16 m
  let last := bs.getLastD []
  let lastX := if last.length = 16 then xorBytes last k1
    else xorBytes (fit 16 (last ++ [0x80#8])) (cmacDouble k1)
  let c := bs.dropLast.foldl (fun c b => aesEnc key (xorBytes c b)) (List.replicate 16 0#8)
  aesEnc key (xorBytes c lastX)

/-- The counter-mode KDF of R292: `len` bytes from the key `ki` under `label` and `context`. -/
def kdf (ki label context : Bytes) (len : Nat) : Bytes :=
  (((List.range (ceilDiv len 16)).map (fun i =>
    cmac ki (beBytes 4 (i + 1) ++ label ++ (0#8 :: context) ++ beBytes 4 (8 * len)))).flatten).take len

/-- The block of RFC 3394's default initial value. -/
def kwIv : Bytes := List.replicate 8 0xA6#8

/-- One step of the RFC 3394 wrap on (A, registers). -/
def kwWrapStep (key : Bytes) (n : Nat) (st : Bytes × List Bytes) (t : Nat) : Bytes × List Bytes :=
  let i := t % n
  let b := aesEnc key (st.1 ++ st.2.getD i [])
  (xorBytes (b.take 8) (beBytes 8 (t + 1)), st.2.set i (b.drop 8))

/-- AES key wrap of a string of whole 8-byte registers. -/
def kwWrap (key p : Bytes) : Bytes :=
  let r := chunks 8 p
  let st := (List.range (6 * r.length)).foldl (kwWrapStep key r.length) (kwIv, r)
  st.1 ++ st.2.flatten

/-- One step of the unwrap, for step number `t` counted down. -/
def kwUnwrapStep (key : Bytes) (n : Nat) (st : Bytes × List Bytes) (t : Nat) : Bytes × List Bytes :=
  let i := t % n
  let b := aesDec key (xorBytes st.1 (beBytes 8 (t + 1)) ++ st.2.getD i [])
  (b.take 8, st.2.set i (b.drop 8))

/-- AES key unwrap: the plaintext, or nothing where the initial value does not come back. -/
def kwUnwrap (key c : Bytes) : Option Bytes :=
  let r := chunks 8 (c.drop 8)
  let st := ((List.range (6 * r.length)).reverse).foldl (kwUnwrapStep key r.length) (c.take 8, r)
  if st.1 = kwIv then some st.2.flatten else none

/-! ### GHASH and GCM -/

/-- Multiplication in GCM's field; blocks as numbers, first bit most significant (R202). -/
def gfMul (x y : Nat) : Nat :=
  ((List.range 128).foldl (fun (p : Nat × Nat) i =>
    (if x.testBit (127 - i) then p.1 ^^^ p.2 else p.1,
     if p.2 % 2 = 1 then (p.2 / 2) ^^^ (0xE1 <<< 120) else p.2 / 2)) (0, y)).1

/-- GHASH of a list of blocks under `h`, from the state `y`. -/
def ghashFrom (h y : Nat) (bs : List Bytes) : Nat :=
  bs.foldl (fun y b => gfMul (y ^^^ beNat (fit 16 b)) h) y

/-- GCM over whole strings, for an IV of 12 bytes: ciphertext and 16-byte tag. `dec` says that `p` is ciphertext. -/
def gcm (key iv aad p : Bytes) (dec : Bool) : Bytes × Bytes :=
  let h := beNat (aesEnc key (List.replicate 16 0#8))
  let ctr := fun (n : Nat) => aesEnc key (iv ++ beBytes 4 n)
  let bs := chunks 16 p
  let out := (List.zipWith (fun i b => xorBytes b (ctr (i + 2))) (List.range bs.length) bs).flatten
  let c := if dec then p else out
  let y := ghashFrom h 0 (chunks 16 aad ++ chunks 16 c ++ [beBytes 8 (8 * aad.length) ++ beBytes 8 (8 * c.length)])
  (out, xorBytes (ctr 1) (beBytes 16 y))

/-! ### HSS with the parameters of R352 (RFC 8554: LMS_SHA256_M32_H15 over H10,
LMOTS_SHA256_N32_W4; the type codes are those the rule gives) -/

/-- The 4-bit digits of a string, most significant first. -/
def lmsDigits (bs : Bytes) : List Nat := (bs.map (fun b => [b.toNat / 16, b.toNat % 16])).flatten

/-- The public key candidate of an LM-OTS signature `y` of `msg` with randomizer `c`. -/
def lmotsCandidate (ident : Bytes) (q : Nat) (c y msg : Bytes) : Bytes :=
  let qm := sha256 (ident ++ beBytes 4 q ++ beBytes 2 0x8181 ++ c ++ msg)
  let ck := (lmsDigits qm).foldl (fun a d => a + (15 - d)) 0
  let ds := lmsDigits qm ++ (lmsDigits (beBytes 2 (ck * 16))).take 3
  let z := List.zipWith (fun (i : Nat) (p : Nat × Bytes) =>
    (List.range (15 - p.1)).foldl (fun t j =>
      sha256 (ident ++ beBytes 4 q ++ beBytes 2 i ++ beBytes 1 (p.1 + j) ++ t)) p.2)
    (List.range ds.length) (List.zip ds (chunks 32 y))
  sha256 (ident ++ beBytes 4 q ++ beBytes 2 0x8080 ++ z.flatten)

/-- The root that the LMS signature `sig` of `msg` leads to, in a tree of height `h`. -/
def lmsRoot (ident : Bytes) (h : Nat) (sig msg : Bytes) : Bytes :=
  let q := beNat (sig.take 4)
  let kc := lmotsCandidate ident q (slice 8 32 sig) (slice 40 2144 sig) msg
  let leaf := 2 ^ h + q
  let t0 := sha256 (ident ++ beBytes 4 leaf ++ beBytes 2 0x8282 ++ kc)
  (List.range h).foldl (fun t i =>
    let node := leaf / 2 ^ i
    let sib := slice (2188 + 32 * i) 32 sig
    let pr := if node % 2 = 1 then sib ++ t else t ++ sib
    sha256 (ident ++ beBytes 4 (node / 2) ++ beBytes 2 0x8383 ++ pr)) t0

/-- Whether an LMS signature has the type codes and leaf range of the tree of height `h` and type `ty`, and leads to
the root of the LMS public key `pk` of 56 bytes. -/
def lmsVerify (pk : Bytes) (ty h : Nat) (sig msg : Bytes) : Bool :=
  beNat (pk.take 4) == ty && beNat (slice 4 4 pk) == 3 && beNat (slice 4 4 sig) == 3 &&
  beNat (slice 2184 4 sig) == ty && decide (beNat (sig.take 4) < 2 ^ h) &&
  decide (sig.length = 2188 + 32 * h) && lmsRoot (slice 8 16 pk) h sig msg == slice 24 32 pk

/-- The HSS check of R352: public key of 60 bytes, signature of 5,236. -/
def hssVerify (pk sig msg : Bytes) : Bool :=
  let sub := slice 2672 56 sig
  beNat (pk.take 4) == 2 && beNat (sig.take 4) == 1 && decide (sig.length = 5236) &&
  lmsVerify (pk.drop 4) 9 15 (slice 4 2668 sig) sub && lmsVerify sub 8 10 (sig.drop 2728) msg

end Sys2Proof.Machine
end

