-- ==== Sys2Proof/Machine/Objects.lean ====
section
/-!
DEFINITION. The objects of the dictionary (chapter 2, R30 to R39) as the tables of the chapters give them: one number
per object (index times 256 plus subindex), and one descriptor row per object with its type, access code, roles and
stated range. The order is the dictionary's.
-/
namespace Sys2Proof.Machine

/-- The value types of R33. The number is the size in bytes. -/
inductive Ty where
  | bool | u (n : Nat) | i (n : Nat) | enum | bits32 | time96 | octets (n : Nat) | vstr (n : Nat) | keyref | cmd
deriving DecidableEq, Repr

/-- Bytes of a value (R33). A CMD object is read as a U32 result word and written as a U32 argument (R36). -/
def Ty.size : Ty → Nat
  | .bool | .enum => 1
  | .u n | .i n | .octets n | .vstr n => n
  | .bits32 | .keyref | .cmd => 4
  | .time96 => 12

/-- The access codes of R35. -/
inductive Acc where
  | ro | rw | wo | rws | rwg | cmd
deriving DecidableEq, Repr

/-- One record of the dictionary: the object, whether it is a table object, its type, access code, the roles of its
Roles column (bit 0 OWNER, 1 OPERATOR, 2 TENANT_VIEW, 3 SERVICE, 4 DEBUG) and its stated range. -/
structure Desc where
  obj : Nat
  table : Bool
  ty : Ty
  acc : Acc
  roles : Nat
  lo : Int
  hi : Int
deriving DecidableEq, Repr

namespace O

/-- 0x1000:01, VSTR[32] (R49). -/
abbrev VENDOR_NAME : Nat := 0x100001

/-- 0x1000:02, VSTR[16] (R49). -/
abbrev PART_NUMBER : Nat := 0x100002

/-- 0x1000:03, VSTR[4] (R49). -/
abbrev DIE_STEPPING : Nat := 0x100003

/-- 0x1000:04, OCTETS[16] (R49). -/
abbrev DEVICE_SERIAL : Nat := 0x100004

/-- 0x1000:05, U32 (R49). -/
abbrev WILORN_SCHEMA : Nat := 0x100005

/-- 0x1001:01, BITS32 (R49). -/
abbrev SKU_SLICE_MASK : Nat := 0x100101

/-- 0x1001:02, U16 (R49). -/
abbrev SKU_LANES_PER_SIDE : Nat := 0x100102

/-- 0x1001:03, U16 (R49). -/
abbrev SKU_PORTS_PER_SIDE : Nat := 0x100103

/-- 0x1001:04, U32 (R49). -/
abbrev SKU_TENANTS : Nat := 0x100104

/-- 0x1001:05, U32 (R49). -/
abbrev SKU_SCS : Nat := 0x100105

/-- 0x1001:06, U32 (R49). -/
abbrev SKU_RESIDENT_SAS : Nat := 0x100106

/-- 0x1001:07, U32 (R49). -/
abbrev SKU_PROVISIONED_SAS : Nat := 0x100107

/-- 0x1001:08, U32 (R49). -/
abbrev SKU_TENANT_QUEUES : Nat := 0x100108

/-- 0x1001:09, U16 (R49). -/
abbrev SKU_PORT_CLASS_NODES : Nat := 0x100109

/-- 0x1001:0A, U16 (R49). -/
abbrev SKU_AES_CORES : Nat := 0x10010A

/-- 0x1001:0B, U16 (R49). -/
abbrev SKU_PERF_COUNTERS : Nat := 0x10010B

/-- 0x1020[r]:01, ENUM8 (R363). -/
abbrev FW_SLOT_STATE : Nat := 0x102001

/-- 0x1020[r]:02, OCTETS[32] (R363). -/
abbrev FW_SLOT_DIGEST : Nat := 0x102002

/-- 0x1020[r]:03, U32 (R363). -/
abbrev FW_SLOT_VERSION : Nat := 0x102003

/-- 0x1020[r]:04, OCTETS[16] (R363). -/
abbrev FW_SLOT_BUILD_ID : Nat := 0x102004

/-- 0x1030:01, U8 (R363). -/
abbrev FW_STAGE_TARGET : Nat := 0x103001

/-- 0x1030:02, U32 (R363). -/
abbrev FW_STAGE_OFFSET : Nat := 0x103002

/-- 0x1030:03, OCTETS[1,000] (R363). -/
abbrev FW_STAGE_DATA : Nat := 0x103003

/-- 0x1030:04, CMD (R363). -/
abbrev FW_CMD : Nat := 0x103004

/-- 0x1030:05, U8 (R363). -/
abbrev FW_ROLLBACK_COUNT : Nat := 0x103005

/-- 0x1030:06, BOOL (R363). -/
abbrev FW_M_MISMATCH : Nat := 0x103006

/-- 0x1030:07, U32 (R363). -/
abbrev FW_HOT_COUNT : Nat := 0x103007

/-- 0x1030:08, OCTETS[32] (R363). -/
abbrev FW_M : Nat := 0x103008

/-- 0x1040:01, ENUM8 (R89). -/
abbrev BOOT_STATUS : Nat := 0x104001

/-- 0x1040:02, BITS32 (R89). -/
abbrev BOOT_FLAGS : Nat := 0x104002

/-- 0x1040:03, ENUM8 (R89). -/
abbrev BOOT_RESET_CAUSE : Nat := 0x104003

/-- 0x1040:04, ENUM8 (R89). -/
abbrev BOOT_IMAGE : Nat := 0x104004

/-- 0x1040:05, U16 (R89). -/
abbrev BOOT_EPOCH : Nat := 0x104005

/-- 0x1040:06, U8 (R89). -/
abbrev BOOT_LC_RESUME_STEP : Nat := 0x104006

/-- 0x1040:07, U32 (R89). -/
abbrev BOOT_T_STAGE_US : Nat := 0x104007

/-- 0x1040:08, U32 (R89). -/
abbrev BOOT_T_SERDES_US : Nat := 0x104008

/-- 0x1040:09, BITS32 (R89). -/
abbrev BOOT_LINE_LANES_FAILED : Nat := 0x104009

/-- 0x1040:0A, BITS32 (R89). -/
abbrev BOOT_HOST_LANES_FAILED : Nat := 0x10400A

/-- 0x1040:0B, TIME96 (R89). -/
abbrev BOOT_PHC_FIRST_SET : Nat := 0x10400B

/-- 0x1400:01, U8 (R67). -/
abbrev RING_POSITION : Nat := 0x140001

/-- 0x1400:02, U8 (R67). -/
abbrev RING_BOARD_PLACE : Nat := 0x140002

/-- 0x1400:03, U8 (R67). -/
abbrev RING_UPSTREAM_EXPECTED : Nat := 0x140003

/-- 0x1400:04, U8 (R67). -/
abbrev RING_UPSTREAM_SEEN : Nat := 0x140004

/-- 0x1400:05, ENUM8 (R67). -/
abbrev RING_UPSTREAM_PRESENT : Nat := 0x140005

/-- 0x1400:06, BOOL (R67). -/
abbrev RING_SYNC : Nat := 0x140006

/-- 0x1400:07, U16 (R67). -/
abbrev RING_SESSION_IDLE_S : Nat := 0x140007

/-- 0x1400:08, U32 (R67). -/
abbrev RING_EVENT_SESSION : Nat := 0x140008

/-- 0x1401:01, U64 (R67). -/
abbrev RING_CRC_ERRORS : Nat := 0x140101

/-- 0x1401:02, U64 (R67). -/
abbrev RING_TAG_ERRORS : Nat := 0x140102

/-- 0x1401:03, U64 (R67). -/
abbrev RING_REPLAY_DROPS : Nat := 0x140103

/-- 0x1401:04, U64 (R67). -/
abbrev RING_RETURNED : Nat := 0x140104

/-- 0x1401:05, U64 (R67). -/
abbrev RING_BAD_MESSAGES : Nat := 0x140105

/-- 0x1410:00, U32 (R44). -/
abbrev LOCK : Nat := 0x141000

/-- 0x1411:00, U32 (R44). -/
abbrev LOCK_LEASE_MS : Nat := 0x141100

/-- 0x1412:00, CMD (R44). -/
abbrev LOCK_BREAK : Nat := 0x141200

/-- 0x1420[g]:01, U32 (R46). -/
abbrev GROUP_OWNER : Nat := 0x142001

/-- 0x1420[g]:02, ENUM8 (R46). -/
abbrev GROUP_STATE : Nat := 0x142002

/-- 0x1420[g]:03, CMD (R46). -/
abbrev GROUP_CMD : Nat := 0x142003

/-- 0x1420[g]:04, TIME96 (R46). -/
abbrev GROUP_GUN_TIME : Nat := 0x142004

/-- 0x1420[g]:05, BOOL (R46). -/
abbrev GROUP_LATE_OK : Nat := 0x142005

/-- 0x1420[g]:06, U16 (R46). -/
abbrev GROUP_WRITES : Nat := 0x142006

/-- 0x1420[g]:07, OCTETS[8] (R46). -/
abbrev GROUP_FAIL_ADDRESS : Nat := 0x142007

/-- 0x1420[g]:08, BITS32 (R46). -/
abbrev GROUP_FLAGS : Nat := 0x142008

/-- 0x1430[s]:01, ENUM8 (R67). -/
abbrev SESSION_STATE : Nat := 0x143001

/-- 0x1430[s]:02, ENUM8 (R67). -/
abbrev SESSION_ROLE : Nat := 0x143002

/-- 0x1430[s]:03, U16 (R67). -/
abbrev SESSION_CA : Nat := 0x143003

/-- 0x1430[s]:04, U32 (R67). -/
abbrev SESSION_ID : Nat := 0x143004

/-- 0x1430[s]:05, U32 (R67). -/
abbrev SESSION_LAST_COUNTER : Nat := 0x143005

/-- 0x1430[s]:06, CMD (R67). -/
abbrev SESSION_CLOSE : Nat := 0x143006

/-- 0x1438[r]:01, KEYREF (R67). -/
abbrev ROLE_ROOT : Nat := 0x143801

/-- 0x1440:01, U8 (R72). -/
abbrev PCIE_LINK_WIDTH : Nat := 0x144001

/-- 0x1440:02, ENUM8 (R72). -/
abbrev PCIE_LINK_SPEED : Nat := 0x144002

/-- 0x1440:03, U8 (R72). -/
abbrev PCIE_WINDOW_VECTOR : Nat := 0x144003

/-- 0x1440:04, U32 (R72). -/
abbrev PCIE_APERTURE_SESSION : Nat := 0x144004

/-- 0x1440:05, U64 (R72). -/
abbrev PCIE_APERTURE_REFUSED : Nat := 0x144005

/-- 0x1450[n]:01, ENUM8 (R72). -/
abbrev RING_KIND : Nat := 0x145001

/-- 0x1450[n]:02, BOOL (R72). -/
abbrev RING_ENABLE : Nat := 0x145002

/-- 0x1450[n]:03, U64 (R72). -/
abbrev RING_BASE : Nat := 0x145003

/-- 0x1450[n]:04, U16 (R72). -/
abbrev RING_SIZE : Nat := 0x145004

/-- 0x1450[n]:05, U32 (R72). -/
abbrev RING_BUF_MAX : Nat := 0x145005

/-- 0x1450[n]:06, U16 (R72). -/
abbrev RING_HEAD : Nat := 0x145006

/-- 0x1450[n]:07, U16 (R72). -/
abbrev RING_TAIL : Nat := 0x145007

/-- 0x1450[n]:08, U8 (R72). -/
abbrev RING_VECTOR : Nat := 0x145008

/-- 0x1450[n]:09, U16 (R72). -/
abbrev RING_IRQ_COUNT : Nat := 0x145009

/-- 0x1450[n]:0A, U32 (R72). -/
abbrev RING_IRQ_NS : Nat := 0x14500A

/-- 0x1450[n]:0B, ENUM8 (R72). -/
abbrev RING_STATE : Nat := 0x14500B

/-- 0x1450[n]:0C, U64 (R72). -/
abbrev RING_COMPLETED : Nat := 0x14500C

/-- 0x1450[n]:0D, U64 (R72). -/
abbrev RING_REJECTED : Nat := 0x14500D

/-- 0x1450[n]:0E, U32 (R72). -/
abbrev RING_SESSION : Nat := 0x14500E

/-- 0x1460[r]:01, U8 (R168). -/
abbrev PUNT_RING : Nat := 0x146001

/-- 0x1460[r]:02, U32 (R168). -/
abbrev PUNT_RATE_PPS : Nat := 0x146002

/-- 0x1460[r]:03, U64 (R168). -/
abbrev PUNT_FRAMES : Nat := 0x146003

/-- 0x1460[r]:04, U64 (R168). -/
abbrev PUNT_RATE_DROPS : Nat := 0x146004

/-- 0x1460[r]:05, U64 (R168). -/
abbrev PUNT_RING_DROPS : Nat := 0x146005

/-- 0x1468:01, OCTETS[16] (R168). -/
abbrev INJECT_CLEAR_ETHERTYPES : Nat := 0x146801

/-- 0x1468:02, U64 (R168). -/
abbrev INJECT_REFUSED : Nat := 0x146802

/-- 0x1800:01, ENUM8 (R79). -/
abbrev MODE : Nat := 0x180001

/-- 0x1800:02, CMD (R79). -/
abbrev MODE_CMD : Nat := 0x180002

/-- 0x1800:03, TIME96 (R79). -/
abbrev MODE_ENTERED_AT : Nat := 0x180003

/-- 0x1800:04, ENUM8 (R79). -/
abbrev MODE_CAUSE : Nat := 0x180004

/-- 0x1800:05, TIME96 (R79). -/
abbrev DRAIN_GUN_TIME : Nat := 0x180005

/-- 0x1800:06, BOOL (R79). -/
abbrev DRAIN_LATE_OK : Nat := 0x180006

/-- 0x1800:07, U32 (R79). -/
abbrev DRAIN_FLUSH_US : Nat := 0x180007

/-- 0x1800:08, U64 (R79). -/
abbrev DRAIN_DISCARDED : Nat := 0x180008

/-- 0x1800:09, U64 (R79). -/
abbrev DRAIN_REFUSED_ARRIVALS : Nat := 0x180009

/-- 0x1810[s]:01, ENUM8 (R92). -/
abbrev SLICE_STATE : Nat := 0x181001

/-- 0x1810[s]:02, CMD (R92). -/
abbrev SLICE_CMD : Nat := 0x181002

/-- 0x1810[s]:03, ENUM8 (R92). -/
abbrev SLICE_CAUSE : Nat := 0x181003

/-- 0x1810[s]:04, U64 (R92). -/
abbrev SLICE_DISCARDED : Nat := 0x181004

/-- 0x1820[s]:01, BOOL (R155). -/
abbrev RUNAHEAD_ENABLE : Nat := 0x182001

/-- 0x1820[s]:02, U8 (R155). -/
abbrev RUNAHEAD_DEPTH_CELLS : Nat := 0x182002

/-- 0x1820[s]:03, U64 (R155). -/
abbrev RUNAHEAD_USED : Nat := 0x182003

/-- 0x1820[s]:04, U64 (R155). -/
abbrev RUNAHEAD_FALSE_STARTS : Nat := 0x182004

/-- 0x1820[s]:05, U64 (R155). -/
abbrev RUNAHEAD_WASTED_CELLS : Nat := 0x182005

/-- 0x1830[b]:01, ENUM8 (R211). -/
abbrev BANK_STATE : Nat := 0x183001

/-- 0x1830[b]:02, U8 (R211). -/
abbrev BANK_SUBST_CORE : Nat := 0x183002

/-- 0x1830[b]:03, BITS32 (R211). -/
abbrev BANK_RETIRED_MASK : Nat := 0x183003

/-- 0x1830[b]:04, U64 (R211). -/
abbrev BANK_SAMPLED : Nat := 0x183004

/-- 0x1830[b]:05, U64 (R211). -/
abbrev BANK_MISMATCHES : Nat := 0x183005

/-- 0x1830[b]:06, U64 (R211). -/
abbrev BANK_RETRIALS : Nat := 0x183006

/-- 0x1830[b]:07, U64 (R211). -/
abbrev BANK_DISCARDS : Nat := 0x183007

/-- 0x1830[b]:08, U32 (R211). -/
abbrev BANK_KAT_FAILS : Nat := 0x183008

/-- 0x1830[b]:09, U8 (R211). -/
abbrev BANK_STRIKE_LIMIT : Nat := 0x183009

/-- 0x1830[b]:0A, U32 (R211). -/
abbrev BANK_STRIKE_WINDOW_MS : Nat := 0x18300A

/-- 0x1830[b]:0B, U16 (R211). -/
abbrev BANK_KAT_INTERVAL_MS : Nat := 0x18300B

/-- 0x1830[b]:0C, CMD (R211). -/
abbrev BANK_CMD : Nat := 0x18300C

/-- 0x1830[b]:0D, U64 (R211). -/
abbrev BANK_KS_HITS : Nat := 0x18300D

/-- 0x1830[b]:0E, U64 (R211). -/
abbrev BANK_KS_MISSES : Nat := 0x18300E

/-- 0x1830[b]:0F, U64 (R211). -/
abbrev BANK_KS_STALLS : Nat := 0x18300F

/-- 0x1830[b]:10, U16 (R211). -/
abbrev BANK_STRIKES_C0 : Nat := 0x183010

/-- 0x1830[b]:11, U16 (R211). -/
abbrev BANK_STRIKES_C1 : Nat := 0x183011

/-- 0x1830[b]:12, U16 (R211). -/
abbrev BANK_STRIKES_C2 : Nat := 0x183012

/-- 0x1830[b]:13, U16 (R211). -/
abbrev BANK_STRIKES_C3 : Nat := 0x183013

/-- 0x1830[b]:14, U16 (R211). -/
abbrev BANK_STRIKES_C4 : Nat := 0x183014

/-- 0x1830[b]:15, U16 (R211). -/
abbrev BANK_STRIKES_C5 : Nat := 0x183015

/-- 0x1830[b]:16, U16 (R211). -/
abbrev BANK_STRIKES_C6 : Nat := 0x183016

/-- 0x1830[b]:17, U16 (R211). -/
abbrev BANK_STRIKES_C7 : Nat := 0x183017

/-- 0x1830[b]:18, U16 (R211). -/
abbrev BANK_STRIKES_C8 : Nat := 0x183018

/-- 0x2000:01, ENUM8 (R347). -/
abbrev LC_STATE : Nat := 0x200001

/-- 0x2000:02, ENUM8 (R347). -/
abbrev LC_PENDING : Nat := 0x200002

/-- 0x2000:03, U8 (R347). -/
abbrev LC_TOKENS_LEFT : Nat := 0x200003

/-- 0x2000:04, BOOL (R347). -/
abbrev LC_RMA_UNLOCKED : Nat := 0x200004

/-- 0x2000:05, CMD (R347). -/
abbrev LC_CMD : Nat := 0x200005

/-- 0x2000:06, OCTETS[32] (R347). -/
abbrev LC_OWNER_KEY_HASH : Nat := 0x200006

/-- 0x2010:01, OCTETS[32] (R347). -/
abbrev LC_ARG_TOKEN : Nat := 0x201001

/-- 0x2010:02, OCTETS[288] (R347). -/
abbrev LC_ARG_HASHES : Nat := 0x201002

/-- 0x2010:03, OCTETS[16] (R347). -/
abbrev LC_ARG_SERIAL : Nat := 0x201003

/-- 0x2010:04, OCTETS[32] (R347). -/
abbrev LC_ARG_OWNER_ROOT : Nat := 0x201004

/-- 0x2010:05, OCTETS[32] (R347). -/
abbrev LC_ARG_OWNER_KEY_HASH : Nat := 0x201005

/-- 0x2010:06, OCTETS[16] (R347). -/
abbrev LC_ARG_CONFIRM : Nat := 0x201006

/-- 0x2020[w]:01, U32 (R347). -/
abbrev OTP_WORD : Nat := 0x202001

/-- 0x2030[s]:01, OCTETS[1,000] (R347). -/
abbrev DBG_CERT_PART_0 : Nat := 0x203001

/-- 0x2030[s]:02, OCTETS[1,000] (R347). -/
abbrev DBG_CERT_PART_1 : Nat := 0x203002

/-- 0x2030[s]:03, OCTETS[1,000] (R347). -/
abbrev DBG_CERT_PART_2 : Nat := 0x203003

/-- 0x2030[s]:04, OCTETS[1,000] (R347). -/
abbrev DBG_CERT_PART_3 : Nat := 0x203004

/-- 0x2030[s]:05, OCTETS[1,000] (R347). -/
abbrev DBG_CERT_PART_4 : Nat := 0x203005

/-- 0x2030[s]:06, OCTETS[1,000] (R347). -/
abbrev DBG_CERT_PART_5 : Nat := 0x203006

/-- 0x2030[s]:07, BITS32 (R347). -/
abbrev DBG_CERT_SCOPE : Nat := 0x203007

/-- 0x2030[s]:08, TIME96 (R347). -/
abbrev DBG_CERT_EXPIRES : Nat := 0x203008

/-- 0x2060[s]:01, ENUM8 (R347). -/
abbrev DBG_SRAM_PART : Nat := 0x206001

/-- 0x2060[s]:02, U32 (R347). -/
abbrev DBG_SRAM_OFFSET : Nat := 0x206002

/-- 0x2060[s]:03, OCTETS[64] (R347). -/
abbrev DBG_SRAM_DATA : Nat := 0x206003

/-- 0x2060[s]:04, CMD (R347). -/
abbrev DBG_SRAM_CMD : Nat := 0x206004

/-- 0x2070:01, ENUM8 (R363). -/
abbrev ATT_STATE : Nat := 0x207001

/-- 0x2070:02, OCTETS[60] (R363). -/
abbrev ATT_TOP_PUBLIC : Nat := 0x207002

/-- 0x2070:03, U16 (R363). -/
abbrev ATT_EPOCH : Nat := 0x207003

/-- 0x2070:04, U16 (R363). -/
abbrev ATT_LEAVES_LEFT : Nat := 0x207004

/-- 0x2070:05, U16 (R363). -/
abbrev ATT_EPOCHS_LEFT : Nat := 0x207005

/-- 0x2070:06, CMD (R363). -/
abbrev ATT_BUILD_TOP : Nat := 0x207006

/-- 0x2080[s]:01, OCTETS[32] (R363). -/
abbrev ATT_NONCE : Nat := 0x208001

/-- 0x2080[s]:02, CMD (R363). -/
abbrev ATT_CMD : Nat := 0x208002

/-- 0x2080[s]:03, OCTETS[1,000] (R363). -/
abbrev ATT_EVIDENCE_PART_0 : Nat := 0x208003

/-- 0x2080[s]:04, OCTETS[1,000] (R363). -/
abbrev ATT_EVIDENCE_PART_1 : Nat := 0x208004

/-- 0x2080[s]:05, OCTETS[1,000] (R363). -/
abbrev ATT_EVIDENCE_PART_2 : Nat := 0x208005

/-- 0x2080[s]:06, OCTETS[1,000] (R363). -/
abbrev ATT_EVIDENCE_PART_3 : Nat := 0x208006

/-- 0x2080[s]:07, OCTETS[1,000] (R363). -/
abbrev ATT_EVIDENCE_PART_4 : Nat := 0x208007

/-- 0x2080[s]:08, OCTETS[1,000] (R363). -/
abbrev ATT_EVIDENCE_PART_5 : Nat := 0x208008

/-- 0x2800[k]:01, ENUM8 (R299). -/
abbrev VAULT_STATE : Nat := 0x280001

/-- 0x2800[k]:02, KEYREF (R299). -/
abbrev VAULT_HANDLE : Nat := 0x280002

/-- 0x2800[k]:03, U8 (R299). -/
abbrev VAULT_LEVEL : Nat := 0x280003

/-- 0x2800[k]:04, ENUM8 (R299). -/
abbrev VAULT_PURPOSE : Nat := 0x280004

/-- 0x2800[k]:05, U16 (R299). -/
abbrev VAULT_KEY_BITS : Nat := 0x280005

/-- 0x2800[k]:06, BOOL (R299). -/
abbrev VAULT_COUNTED : Nat := 0x280006

/-- 0x2800[k]:07, U32 (R299). -/
abbrev VAULT_USES_LEFT : Nat := 0x280007

/-- 0x2800[k]:08, ENUM8 (R299). -/
abbrev VAULT_ORIGIN : Nat := 0x280008

/-- 0x2800[k]:09, U16 (R299). -/
abbrev VAULT_PARENT : Nat := 0x280009

/-- 0x2800[k]:0A, TIME96 (R299). -/
abbrev VAULT_CREATED_AT : Nat := 0x28000A

/-- 0x2810[s]:01, KEYREF (R299). -/
abbrev VAULT_ARG_KEY : Nat := 0x281001

/-- 0x2810[s]:02, OCTETS[48] (R299). -/
abbrev VAULT_ARG_BLOB : Nat := 0x281002

/-- 0x2810[s]:03, OCTETS[32] (R299). -/
abbrev VAULT_ARG_LABEL : Nat := 0x281003

/-- 0x2810[s]:04, OCTETS[64] (R299). -/
abbrev VAULT_ARG_CONTEXT : Nat := 0x281004

/-- 0x2810[s]:05, U8 (R299). -/
abbrev VAULT_ARG_CONTEXT_LEN : Nat := 0x281005

/-- 0x2810[s]:06, ENUM8 (R299). -/
abbrev VAULT_ARG_PURPOSE : Nat := 0x281006

/-- 0x2810[s]:07, U8 (R299). -/
abbrev VAULT_ARG_LEVEL : Nat := 0x281007

/-- 0x2810[s]:08, U32 (R299). -/
abbrev VAULT_ARG_USES : Nat := 0x281008

/-- 0x2810[s]:09, U16 (R299). -/
abbrev VAULT_ARG_KEY_BITS : Nat := 0x281009

/-- 0x2810[s]:0A, U16 (R299). -/
abbrev VAULT_ARG_CA : Nat := 0x28100A

/-- 0x2810[s]:0B, CMD (R299). -/
abbrev VAULT_CMD : Nat := 0x28100B

/-- 0x2810[s]:0C, KEYREF (R299). -/
abbrev VAULT_RESULT_HANDLE : Nat := 0x28100C

/-- 0x2820:01, U16 (R299). -/
abbrev VAULT_FREE_SLOTS : Nat := 0x282001

/-- 0x2820:02, U32 (R299). -/
abbrev VAULT_CHECK_FAILS : Nat := 0x282002

/-- 0x2820:03, U32 (R299). -/
abbrev VAULT_SCRUB_MS : Nat := 0x282003

/-- 0x2820:04, U64 (R299). -/
abbrev VAULT_SCRUB_PASSES : Nat := 0x282004

/-- 0x2820:05, ENUM8 (R299). -/
abbrev DRBG_STATE : Nat := 0x282005

/-- 0x2820:06, U64 (R299). -/
abbrev DRBG_RESEEDS : Nat := 0x282006

/-- 0x2820:07, U32 (R299). -/
abbrev ENTROPY_TEST_FAILS : Nat := 0x282007

/-- 0x2830:01, U16 (R310). -/
abbrev LA_SLICE_KIB : Nat := 0x283001

/-- 0x2830:02, U32 (R310). -/
abbrev LA_STAGING_KIB : Nat := 0x283002

/-- 0x2830:03, U64 (R310). -/
abbrev LA_JOBS : Nat := 0x283003

/-- 0x2830:04, U64 (R310). -/
abbrev LA_BYTES : Nat := 0x283004

/-- 0x2830:05, U64 (R310). -/
abbrev LA_AUTH_FAILS : Nat := 0x283005

/-- 0x2830:06, U8 (R310). -/
abbrev LA_CONTEXTS_BUSY : Nat := 0x283006

/-- 0x2840[k]:01, U64 (R310). -/
abbrev LA_RANDOM_IV_JOBS : Nat := 0x284001

/-- 0x3000:01, TIME96 (R114). -/
abbrev PHC_NOW : Nat := 0x300001

/-- 0x3000:02, I64 (R114). -/
abbrev PHC_FREQ_ADJ : Nat := 0x300002

/-- 0x3000:03, TIME96 (R114). -/
abbrev PHC_SET_VALUE : Nat := 0x300003

/-- 0x3000:04, I64 (R114). -/
abbrev PHC_STEP_DELTA : Nat := 0x300004

/-- 0x3000:05, I64 (R114). -/
abbrev PHC_SLEW_DELTA : Nat := 0x300005

/-- 0x3000:06, U16 (R114). -/
abbrev PHC_SLEW_PPM : Nat := 0x300006

/-- 0x3000:07, CMD (R114). -/
abbrev PHC_CMD : Nat := 0x300007

/-- 0x3000:08, I64 (R114). -/
abbrev PHC_SLEW_REMAINING : Nat := 0x300008

/-- 0x3000:09, U32 (R114). -/
abbrev PHC_STEP_COUNT : Nat := 0x300009

/-- 0x3000:0A, TIME96 (R114). -/
abbrev PHC_LAST_STEP_AT : Nat := 0x30000A

/-- 0x3000:0B, ENUM8 (R114). -/
abbrev PHC_STATE : Nat := 0x30000B

/-- 0x3000:0C, I32 (R114). -/
abbrev PHC_UTC_OFFSET : Nat := 0x30000C

/-- 0x3000:0D, TIME96 (R114). -/
abbrev PHC_LEAP_AT : Nat := 0x30000D

/-- 0x3000:0E, ENUM8 (R114). -/
abbrev PHC_LEAP_KIND : Nat := 0x30000E

/-- 0x3100[p]:01, I32 (R116). -/
abbrev TS_RX_BASE : Nat := 0x310001

/-- 0x3100[p]:02, I32 (R116). -/
abbrev TS_TX_BASE : Nat := 0x310002

/-- 0x3100[p]:03, I32 (R116). -/
abbrev TS_RX_TEMPCO : Nat := 0x310003

/-- 0x3100[p]:04, I32 (R116). -/
abbrev TS_TX_TEMPCO : Nat := 0x310004

/-- 0x3100[p]:05, I32 (R116). -/
abbrev TS_RX_LATENCY : Nat := 0x310005

/-- 0x3100[p]:06, I32 (R116). -/
abbrev TS_TX_LATENCY : Nat := 0x310006

/-- 0x3100[p]:07, CMD (R116). -/
abbrev TS_CAL_CMD : Nat := 0x310007

/-- 0x3100[p]:08, TIME96 (R116). -/
abbrev TS_CAL_AT : Nat := 0x310008

/-- 0x3100[p]:09, BOOL (R116). -/
abbrev TS_CAL_OK : Nat := 0x310009

/-- 0x3100[p]:0A, I32 (R116). -/
abbrev TS_REGION_TEMP : Nat := 0x31000A

/-- 0x3200[p]:01, ENUM8 (R125). -/
abbrev TC_MODE : Nat := 0x320001

/-- 0x3200[p]:02, U32 (R125). -/
abbrev TC_SCHED_LEAD_NS : Nat := 0x320002

/-- 0x3200[p]:03, U64 (R125). -/
abbrev TC_CORRECTED : Nat := 0x320003

/-- 0x3200[p]:04, U64 (R125). -/
abbrev TC_SCHEDULED : Nat := 0x320004

/-- 0x3200[p]:05, U64 (R125). -/
abbrev TC_DEPARTURE_MISSED : Nat := 0x320005

/-- 0x3200[p]:06, U64 (R125). -/
abbrev TC_MALFORMED : Nat := 0x320006

/-- 0x3200[p]:07, U64 (R125). -/
abbrev TC_SATURATED : Nat := 0x320007

/-- 0x3300:01, BOOL (R132). -/
abbrev PPS_OUT_ENABLE : Nat := 0x330001

/-- 0x3300:02, U32 (R132). -/
abbrev PPS_OUT_WIDTH_NS : Nat := 0x330002

/-- 0x3300:03, I32 (R132). -/
abbrev PPS_OUT_OFFSET_NS : Nat := 0x330003

/-- 0x3300:04, BOOL (R132). -/
abbrev TOD_OUT_ENABLE : Nat := 0x330004

/-- 0x3300:05, BOOL (R132). -/
abbrev PPS_IN_ENABLE : Nat := 0x330005

/-- 0x3300:06, TIME96 (R132). -/
abbrev PPS_IN_STAMP : Nat := 0x330006

/-- 0x3300:07, I64 (R132). -/
abbrev PPS_IN_ERROR : Nat := 0x330007

/-- 0x3300:08, BOOL (R132). -/
abbrev PPS_IN_VALID : Nat := 0x330008

/-- 0x3300:09, U32 (R132). -/
abbrev PPS_IN_COUNT : Nat := 0x330009

/-- 0x3300:0A, U32 (R132). -/
abbrev PPS_IN_GLITCHES : Nat := 0x33000A

/-- 0x3300:0B, U64 (R132). -/
abbrev TOD_IN_SECONDS : Nat := 0x33000B

/-- 0x3300:0C, U32 (R132). -/
abbrev TOD_IN_ERRORS : Nat := 0x33000C

/-- 0x3300:0D, I32 (R132). -/
abbrev TIME_UPSTREAM_DELAY_PRESENT : Nat := 0x33000D

/-- 0x3300:0E, I32 (R132). -/
abbrev TIME_UPSTREAM_DELAY_BYPASSED : Nat := 0x33000E

/-- 0x3300:0F, U8 (R132). -/
abbrev TIME_BYPASS_EXPECTED : Nat := 0x33000F

/-- 0x3300:10, ENUM8 (R132). -/
abbrev TIME_UPSTREAM_SEL : Nat := 0x330010

/-- 0x3300:11, ENUM8 (R132). -/
abbrev TIME_FOLLOW : Nat := 0x330011

/-- 0x3300:12, U16 (R132). -/
abbrev TIME_FOLLOW_GAIN : Nat := 0x330012

/-- 0x3300:13, U32 (R132). -/
abbrev TIME_FOLLOW_STEP_NS : Nat := 0x330013

/-- 0x3300:14, BOOL (R132). -/
abbrev TIME_LOCKED : Nat := 0x330014

/-- 0x3300:15, BOOL (R132). -/
abbrev TIME_HOLD_STATE : Nat := 0x330015

/-- 0x3400[e]:01, ENUM8 (R136). -/
abbrev GUN_STATE : Nat := 0x340001

/-- 0x3400[e]:02, ENUM8 (R136). -/
abbrev GUN_POOL : Nat := 0x340002

/-- 0x3400[e]:03, U16 (R136). -/
abbrev GUN_OWNER : Nat := 0x340003

/-- 0x3400[e]:04, U32 (R136). -/
abbrev GUN_TARGET_ROW : Nat := 0x340004

/-- 0x3400[e]:05, TIME96 (R136). -/
abbrev GUN_TIME : Nat := 0x340005

/-- 0x3400[e]:06, U32 (R136). -/
abbrev GUN_SEQ : Nat := 0x340006

/-- 0x3400[e]:07, U32 (R136). -/
abbrev GUN_TAG : Nat := 0x340007

/-- 0x3400[e]:08, U64 (R136). -/
abbrev GUN_TARGET_CYCLE : Nat := 0x340008

/-- 0x3400[e]:09, TIME96 (R136). -/
abbrev GUN_FIRED_AT : Nat := 0x340009

/-- 0x3400[e]:0A, BITS32 (R136). -/
abbrev GUN_FLAGS : Nat := 0x34000A

/-- 0x3401:01, U16 (R136). -/
abbrev GUN_FREE_LAP : Nat := 0x340101

/-- 0x3401:02, U16 (R136). -/
abbrev GUN_FREE_HANDOVER : Nat := 0x340102

/-- 0x3401:03, U16 (R136). -/
abbrev GUN_FREE_SHARED : Nat := 0x340103

/-- 0x3401:04, U32 (R136). -/
abbrev GUN_LATE_COUNT : Nat := 0x340104

/-- 0x3401:05, U32 (R136). -/
abbrev GUN_STEPPED_COUNT : Nat := 0x340105

/-- 0x3401:06, BITS32 (R136). -/
abbrev GUN_ANNOUNCE : Nat := 0x340106

/-- 0x3401:07, U32 (R136). -/
abbrev GUN_PEER_MISMATCH : Nat := 0x340107

/-- 0x3402[g]:01, U32 (R136). -/
abbrev GUN_GROUP_TAG : Nat := 0x340201

/-- 0x3800[l]:01, ENUM8 (R94). -/
abbrev LANE_RATE : Nat := 0x380001

/-- 0x3800[l]:02, BOOL (R94). -/
abbrev LANE_TX_POLARITY : Nat := 0x380002

/-- 0x3800[l]:03, BOOL (R94). -/
abbrev LANE_RX_POLARITY : Nat := 0x380003

/-- 0x3800[l]:04, BITS32 (R94). -/
abbrev LANE_TX_EQ : Nat := 0x380004

/-- 0x3800[l]:05, BOOL (R94). -/
abbrev LANE_SIGNAL : Nat := 0x380005

/-- 0x3800[l]:06, ENUM8 (R94). -/
abbrev LANE_ADAPT : Nat := 0x380006

/-- 0x3800[l]:07, U16 (R94). -/
abbrev LANE_SNR_CDB : Nat := 0x380007

/-- 0x3800[l]:08, U64 (R94). -/
abbrev LANE_FEC_SYMBOL_ERRORS : Nat := 0x380008

/-- 0x3800[l]:09, ENUM8 (R94). -/
abbrev LANE_PRBS : Nat := 0x380009

/-- 0x3800[l]:0A, U64 (R94). -/
abbrev LANE_PRBS_ERRORS : Nat := 0x38000A

/-- 0x3810[p]:01, ENUM8 (R106). -/
abbrev PORT_MODE : Nat := 0x381001

/-- 0x3810[p]:02, U16 (R106). -/
abbrev PORT_MAX_FRAME : Nat := 0x381002

/-- 0x3810[p]:03, ENUM8 (R106). -/
abbrev PORT_FC : Nat := 0x381003

/-- 0x3810[p]:04, BITS32 (R106). -/
abbrev PORT_PFC_LOSSLESS : Nat := 0x381004

/-- 0x3810[p]:05, OCTETS[6] (R106). -/
abbrev PORT_MAC_ADDR : Nat := 0x381005

/-- 0x3810[p]:06, U16 (R106). -/
abbrev PORT_FAULT_PARTNER : Nat := 0x381006

/-- 0x3810[p]:07, TIME96 (R106). -/
abbrev PORT_RECAL_GUN_TIME : Nat := 0x381007

/-- 0x3810[p]:08, BOOL (R106). -/
abbrev PORT_RECAL_LATE_OK : Nat := 0x381008

/-- 0x3810[p]:09, U32 (R106). -/
abbrev PORT_RECAL_GUARD_NS : Nat := 0x381009

/-- 0x3810[p]:0A, CMD (R106). -/
abbrev PORT_RECAL_CMD : Nat := 0x38100A

/-- 0x3810[p]:0B, U32 (R106). -/
abbrev PORT_FEC_UNCORR_LIMIT : Nat := 0x38100B

/-- 0x3820[p]:01, ENUM8 (R106). -/
abbrev PORT_LINK : Nat := 0x382001

/-- 0x3820[p]:02, U64 (R106). -/
abbrev PORT_LINK_CHANGES : Nat := 0x382002

/-- 0x3820[p]:03, U64 (R106). -/
abbrev PORT_RX_FRAMES : Nat := 0x382003

/-- 0x3820[p]:04, U64 (R106). -/
abbrev PORT_RX_BYTES : Nat := 0x382004

/-- 0x3820[p]:05, U64 (R106). -/
abbrev PORT_RX_FCS_ERRORS : Nat := 0x382005

/-- 0x3820[p]:06, U64 (R106). -/
abbrev PORT_RX_UNDERSIZE : Nat := 0x382006

/-- 0x3820[p]:07, U64 (R106). -/
abbrev PORT_RX_OVERSIZE : Nat := 0x382007

/-- 0x3820[p]:08, U64 (R106). -/
abbrev PORT_RX_MAC_CONTROL_DROPS : Nat := 0x382008

/-- 0x3820[p]:09, U64 (R106). -/
abbrev PORT_TX_FRAMES : Nat := 0x382009

/-- 0x3820[p]:0A, U64 (R106). -/
abbrev PORT_TX_BYTES : Nat := 0x38200A

/-- 0x3820[p]:0B, U64 (R106). -/
abbrev PORT_TX_POISONED : Nat := 0x38200B

/-- 0x3820[p]:0C, U64 (R106). -/
abbrev PORT_TX_TRUNCATED : Nat := 0x38200C

/-- 0x3820[p]:0D, U64 (R106). -/
abbrev PORT_FEC_CORRECTED_CW : Nat := 0x38200D

/-- 0x3820[p]:0E, U64 (R106). -/
abbrev PORT_FEC_UNCORRECTED_CW : Nat := 0x38200E

/-- 0x3820[p]:0F, U64 (R106). -/
abbrev PORT_PCS_ALIGN_LOSS : Nat := 0x38200F

/-- 0x3820[p]:10, ENUM8 (R106). -/
abbrev PORT_RECAL_STATE : Nat := 0x382010

/-- 0x3820[p]:11, BITS32 (R106). -/
abbrev PORT_RECAL_FLAGS : Nat := 0x382011

/-- 0x3820[p]:12, ENUM8 (R106). -/
abbrev PORT_TX_SIGNAL : Nat := 0x382012

/-- 0x3820[p]:13, U64 (R106). -/
abbrev PORT_RX_RECAL_DROPS : Nat := 0x382013

/-- 0x3820[p]:20, U64 (R106). -/
abbrev PORT_FC_RX_XOFF_C0 : Nat := 0x382020

/-- 0x3820[p]:21, U64 (R106). -/
abbrev PORT_FC_RX_XOFF_C1 : Nat := 0x382021

/-- 0x3820[p]:22, U64 (R106). -/
abbrev PORT_FC_RX_XOFF_C2 : Nat := 0x382022

/-- 0x3820[p]:23, U64 (R106). -/
abbrev PORT_FC_RX_XOFF_C3 : Nat := 0x382023

/-- 0x3820[p]:24, U64 (R106). -/
abbrev PORT_FC_RX_XOFF_C4 : Nat := 0x382024

/-- 0x3820[p]:25, U64 (R106). -/
abbrev PORT_FC_RX_XOFF_C5 : Nat := 0x382025

/-- 0x3820[p]:26, U64 (R106). -/
abbrev PORT_FC_RX_XOFF_C6 : Nat := 0x382026

/-- 0x3820[p]:27, U64 (R106). -/
abbrev PORT_FC_RX_XOFF_C7 : Nat := 0x382027

/-- 0x3820[p]:28, U64 (R106). -/
abbrev PORT_FC_TX_XOFF_C0 : Nat := 0x382028

/-- 0x3820[p]:29, U64 (R106). -/
abbrev PORT_FC_TX_XOFF_C1 : Nat := 0x382029

/-- 0x3820[p]:2A, U64 (R106). -/
abbrev PORT_FC_TX_XOFF_C2 : Nat := 0x38202A

/-- 0x3820[p]:2B, U64 (R106). -/
abbrev PORT_FC_TX_XOFF_C3 : Nat := 0x38202B

/-- 0x3820[p]:2C, U64 (R106). -/
abbrev PORT_FC_TX_XOFF_C4 : Nat := 0x38202C

/-- 0x3820[p]:2D, U64 (R106). -/
abbrev PORT_FC_TX_XOFF_C5 : Nat := 0x38202D

/-- 0x3820[p]:2E, U64 (R106). -/
abbrev PORT_FC_TX_XOFF_C6 : Nat := 0x38202E

/-- 0x3820[p]:2F, U64 (R106). -/
abbrev PORT_FC_TX_XOFF_C7 : Nat := 0x38202F

/-- 0x3830[p]:01, ENUM8 (R161). -/
abbrev PIPE_MODE : Nat := 0x383001

/-- 0x3830[p]:02, BOOL (R161). -/
abbrev PIPE_OVERTAKE : Nat := 0x383002

/-- 0x3830[p]:03, U64 (R161). -/
abbrev PIPE_FORCED_SAF : Nat := 0x383003

/-- 0x3830[p]:04, U64 (R161). -/
abbrev CALLROOM_PARKED : Nat := 0x383004

/-- 0x3830[p]:05, U64 (R161). -/
abbrev CALLROOM_ORDER_DROPS : Nat := 0x383005

/-- 0x3830[p]:06, U64 (R161). -/
abbrev CALLROOM_TIMEOUT_DROPS : Nat := 0x383006

/-- 0x4000[ca]:01, BOOL (R172). -/
abbrev CA_ENABLE : Nat := 0x400001

/-- 0x4000[ca]:02, ENUM8 (R172). -/
abbrev CA_CIPHERSUITE : Nat := 0x400002

/-- 0x4000[ca]:03, ENUM8 (R172). -/
abbrev CA_CONFIDENTIALITY : Nat := 0x400003

/-- 0x4000[ca]:04, U8 (R172). -/
abbrev CA_CLEAR_TAGS : Nat := 0x400004

/-- 0x4000[ca]:05, BOOL (R172). -/
abbrev CA_REPLAY_PROTECT : Nat := 0x400005

/-- 0x4000[ca]:06, U32 (R172). -/
abbrev CA_REPLAY_WINDOW : Nat := 0x400006

/-- 0x4000[ca]:07, U64 (R172). -/
abbrev CA_PN_THRESHOLD : Nat := 0x400007

/-- 0x4000[ca]:08, U32 (R172). -/
abbrev CA_STOP_HOLD_US : Nat := 0x400008

/-- 0x4000[ca]:09, U64 (R172). -/
abbrev CA_CLEAR_PASS_TX : Nat := 0x400009

/-- 0x4000[ca]:0A, U64 (R172). -/
abbrev CA_CLEAR_PASS_RX : Nat := 0x40000A

/-- 0x4100[sc]:01, ENUM8 (R174). -/
abbrev SC_DIR : Nat := 0x410001

/-- 0x4100[sc]:02, U16 (R174). -/
abbrev SC_CA : Nat := 0x410002

/-- 0x4100[sc]:03, OCTETS[8] (R174). -/
abbrev SC_SCI : Nat := 0x410003

/-- 0x4100[sc]:04, U16 (R174). -/
abbrev SC_PORT : Nat := 0x410004

/-- 0x4100[sc]:05, ENUM8 (R174). -/
abbrev SC_TX_SCI_MODE : Nat := 0x410005

/-- 0x4100[sc]:06, BITS32 (R174). -/
abbrev SC_STATUS : Nat := 0x410006

/-- 0x4100[sc]:07, U64 (R174). -/
abbrev SC_TX_NO_SA_DROPS : Nat := 0x410007

/-- 0x4100[sc]:08, U64 (R174). -/
abbrev SC_RX_NO_SA : Nat := 0x410008

/-- 0x4100[sc]:09, U64 (R174). -/
abbrev SC_RX_LATE : Nat := 0x410009

/-- 0x4100[sc]:0A, U64 (R174). -/
abbrev SC_RX_TAG_MISMATCH : Nat := 0x41000A

/-- 0x4100[sc]:0B, U64 (R174). -/
abbrev SC_BAD_KEY_DROPS : Nat := 0x41000B

/-- 0x4200[pr]:01, ENUM8 (R229). -/
abbrev SA_STATE : Nat := 0x420001

/-- 0x4200[pr]:02, KEYREF (R229). -/
abbrev SA_KEK : Nat := 0x420002

/-- 0x4200[pr]:03, OCTETS[40] (R229). -/
abbrev SA_WRAPPED_SAK : Nat := 0x420003

/-- 0x4200[pr]:04, OCTETS[12] (R229). -/
abbrev SA_SALT : Nat := 0x420004

/-- 0x4200[pr]:05, U32 (R229). -/
abbrev SA_SSCI : Nat := 0x420005

/-- 0x4200[pr]:06, U64 (R229). -/
abbrev SA_INIT_PN : Nat := 0x420006

/-- 0x4200[pr]:07, OCTETS[16] (R229). -/
abbrev SA_KI : Nat := 0x420007

/-- 0x4200[pr]:08, TIME96 (R229). -/
abbrev SA_GUN_TIME : Nat := 0x420008

/-- 0x4200[pr]:09, BOOL (R229). -/
abbrev SA_LATE_OK : Nat := 0x420009

/-- 0x4200[pr]:0A, U32 (R229). -/
abbrev SA_GUN_TAG : Nat := 0x42000A

/-- 0x4200[pr]:0B, CMD (R229). -/
abbrev SA_CMD : Nat := 0x42000B

/-- 0x4200[pr]:0C, U64 (R229). -/
abbrev SA_NEXT_PN : Nat := 0x42000C

/-- 0x4200[pr]:0D, U64 (R229). -/
abbrev SA_LOWEST_PN : Nat := 0x42000D

/-- 0x4200[pr]:0E, U32 (R229). -/
abbrev SA_SLOT : Nat := 0x42000E

/-- 0x4200[pr]:0F, BITS32 (R229). -/
abbrev SA_FLAGS : Nat := 0x42000F

/-- 0x4200[pr]:10, TIME96 (R229). -/
abbrev SA_CHANGED_AT : Nat := 0x420010

/-- 0x4210[sc]:01, U32 (R230). -/
abbrev SCSA_SLOT0_ROW : Nat := 0x421001

/-- 0x4210[sc]:02, U32 (R230). -/
abbrev SCSA_SLOT1_ROW : Nat := 0x421002

/-- 0x4210[sc]:03, U8 (R230). -/
abbrev SCSA_IN_FORCE_AN : Nat := 0x421003

/-- 0x4210[sc]:04, BOOL (R230). -/
abbrev SCSA_ZONE_OPEN : Nat := 0x421004

/-- 0x4210[sc]:05, BOOL (R230). -/
abbrev SCSA_EARLY_ON_STOP : Nat := 0x421005

/-- 0x4210[sc]:06, U32 (R230). -/
abbrev SCSA_HANDOVERS : Nat := 0x421006

/-- 0x4400[sa]:01, U64 (R193). -/
abbrev SA_STAT_PKTS : Nat := 0x440001

/-- 0x4400[sa]:02, U64 (R193). -/
abbrev SA_STAT_OCTETS : Nat := 0x440002

/-- 0x4400[sa]:03, U64 (R193). -/
abbrev SA_STAT_PKTS_ENCRYPTED : Nat := 0x440003

/-- 0x4400[sa]:04, U64 (R193). -/
abbrev SA_STAT_NOT_VALID : Nat := 0x440004

/-- 0x4400[sa]:05, U64 (R193). -/
abbrev SA_STAT_COMMIT_LATE : Nat := 0x440005

/-- 0x4400[sa]:06, U64 (R193). -/
abbrev SA_STAT_TX_LOST : Nat := 0x440006

/-- 0x4500[p]:01, ENUM8 (R192). -/
abbrev MP_EAPOL : Nat := 0x450001

/-- 0x4500[p]:02, OCTETS[8] (R192). -/
abbrev MP_RX_IMPLICIT_SCI : Nat := 0x450002

/-- 0x4500[p]:03, U64 (R192). -/
abbrev MP_NO_RESULT_DROPS : Nat := 0x450003

/-- 0x4500[p]:04, U64 (R192). -/
abbrev MP_POLICY_DROPS : Nat := 0x450004

/-- 0x4500[p]:05, U64 (R192). -/
abbrev MP_RX_BAD_TAG : Nat := 0x450005

/-- 0x4500[p]:06, U64 (R192). -/
abbrev MP_RX_BAD_LENGTH : Nat := 0x450006

/-- 0x4500[p]:07, U64 (R192). -/
abbrev MP_RX_NO_SC : Nat := 0x450007

/-- 0x4500[p]:08, U64 (R192). -/
abbrev MP_EAPOL_DROPS : Nat := 0x450008

/-- 0x5000[s]:01, ENUM8 (R153). -/
abbrev PARSER_ACTIVE_IMAGE : Nat := 0x500001

/-- 0x5000[s]:02, OCTETS[32] (R153). -/
abbrev PARSER_ACTIVE_DIGEST : Nat := 0x500002

/-- 0x5000[s]:03, ENUM8 (R153). -/
abbrev PARSER_SHADOW_STATE : Nat := 0x500003

/-- 0x5000[s]:04, OCTETS[32] (R153). -/
abbrev PARSER_SHADOW_DIGEST : Nat := 0x500004

/-- 0x5000[s]:05, TIME96 (R153). -/
abbrev PARSER_SWAP_GUN_TIME : Nat := 0x500005

/-- 0x5000[s]:06, BOOL (R153). -/
abbrev PARSER_SWAP_LATE_OK : Nat := 0x500006

/-- 0x5000[s]:07, U32 (R153). -/
abbrev PARSER_SWAP_TAG : Nat := 0x500007

/-- 0x5000[s]:08, CMD (R153). -/
abbrev PARSER_CMD : Nat := 0x500008

/-- 0x5000[s]:09, BITS32 (R153). -/
abbrev PARSER_SWAP_FLAGS : Nat := 0x500009

/-- 0x5000[s]:0A, U64 (R153). -/
abbrev PARSER_EXCEPTIONS : Nat := 0x50000A

/-- 0x5010[k]:01, OCTETS[8] (R234). -/
abbrev PROFILE_FIELDS : Nat := 0x501001

/-- 0x5010[k]:02, BOOL (R234). -/
abbrev PROFILE_PORT : Nat := 0x501002

/-- 0x5020[ca]:01, U32 (R246). -/
abbrev LEARN_LIMIT : Nat := 0x502001

/-- 0x5020[ca]:02, ENUM8 (R246). -/
abbrev LEARN_OVERFLOW : Nat := 0x502002

/-- 0x5020[ca]:03, BOOL (R246). -/
abbrev LEARN_MOVE : Nat := 0x502003

/-- 0x5020[ca]:04, U64 (R246). -/
abbrev LEARN_OVERFLOW_DROPS : Nat := 0x502004

/-- 0x5020[ca]:05, U64 (R246). -/
abbrev LEARN_UNPINNED : Nat := 0x502005

/-- 0x5020[ca]:06, U64 (R246). -/
abbrev LEARN_CONFLICTS : Nat := 0x502006

/-- 0x5020[ca]:07, U32 (R246). -/
abbrev LEARN_ENTRIES : Nat := 0x502007

/-- 0x5020[ca]:08, CMD (R246). -/
abbrev LEARN_FLUSH : Nat := 0x502008

/-- 0x5030[sc]:01, U16 (R240). -/
abbrev RXSC_HOST_PORT : Nat := 0x503001

/-- 0x5030[sc]:02, U8 (R240). -/
abbrev RXSC_CLASS : Nat := 0x503002

/-- 0x5030[sc]:03, U32 (R240). -/
abbrev RXSC_RETURN_SC : Nat := 0x503003

/-- 0x5030[sc]:04, BOOL (R240). -/
abbrev RXSC_LEARN : Nat := 0x503004

/-- 0x5030[sc]:05, ENUM8 (R240). -/
abbrev RXSC_ENTRY : Nat := 0x503005

/-- 0x5040[s]:01, U16 (R159). -/
abbrev CALLROOM_TIMEOUT_US : Nat := 0x504001

/-- 0x5040[s]:02, U16 (R159). -/
abbrev CALLROOM_OCCUPANCY : Nat := 0x504002

/-- 0x5040[s]:03, U16 (R159). -/
abbrev CALLROOM_PEAK : Nat := 0x504003

/-- 0x5040[s]:04, U16 (R251). -/
abbrev CALLROOM_XOFF_THRESHOLD : Nat := 0x504004

/-- 0x5040[s]:05, U64 (R251). -/
abbrev CALLROOM_FULL_DROPS : Nat := 0x504005

/-- 0x5050[s]:01, OCTETS[24] (R239). -/
abbrev CLS_KEY : Nat := 0x505001

/-- 0x5050[s]:02, OCTETS[8] (R239). -/
abbrev CLS_RESULT : Nat := 0x505002

/-- 0x5050[s]:03, CMD (R239). -/
abbrev CLS_CMD : Nat := 0x505003

/-- 0x5050[s]:04, BOOL (R239). -/
abbrev CLS_FOUND : Nat := 0x505004

/-- 0x5060[i]:01, OCTETS[24] (R239). -/
abbrev CLS_DUMP_KEY : Nat := 0x506001

/-- 0x5060[i]:02, OCTETS[8] (R239). -/
abbrev CLS_DUMP_RESULT : Nat := 0x506002

/-- 0x5070:01, U16 (R243). -/
abbrev CLS_AGE_S : Nat := 0x507001

/-- 0x5070:02, ENUM8 (R243). -/
abbrev CLS_EVICT : Nat := 0x507002

/-- 0x5070:03, OCTETS[8] (R243). -/
abbrev CLS_SEED : Nat := 0x507003

/-- 0x5070:04, U32 (R243). -/
abbrev CLS_ENTRIES : Nat := 0x507004

/-- 0x5070:05, U64 (R243). -/
abbrev CLS_INSERTS : Nat := 0x507005

/-- 0x5070:06, U64 (R243). -/
abbrev CLS_MOVES : Nat := 0x507006

/-- 0x5070:07, U64 (R243). -/
abbrev CLS_EVICTIONS : Nat := 0x507007

/-- 0x5070:08, U64 (R243). -/
abbrev CLS_INSERT_FAILS : Nat := 0x507008

/-- 0x5070:09, U64 (R243). -/
abbrev CLS_AGED : Nat := 0x507009

/-- 0x5070:0A, U64 (R243). -/
abbrev CLS_WRONG_SLICE : Nat := 0x50700A

/-- 0x5070:0B, U64 (R243). -/
abbrev CLS_CACHE_HITS : Nat := 0x50700B

/-- 0x5070:0C, U64 (R243). -/
abbrev CLS_CACHE_MISSES : Nat := 0x50700C

/-- 0x5070:0D, U64 (R243). -/
abbrev LEARN_BATON_DROPS : Nat := 0x50700D

/-- 0x5800[q]:01, U16 (R263). -/
abbrev QUEUE_WEIGHT : Nat := 0x580001

/-- 0x5800[q]:02, I32 (R263). -/
abbrev QUEUE_OVERHEAD : Nat := 0x580002

/-- 0x5800[q]:03, U32 (R263). -/
abbrev QUEUE_MAX_CELLS : Nat := 0x580003

/-- 0x5800[q]:04, U8 (R263). -/
abbrev QUEUE_RESERVE : Nat := 0x580004

/-- 0x5800[q]:05, U32 (R263). -/
abbrev PACER_CIR : Nat := 0x580005

/-- 0x5800[q]:06, U32 (R263). -/
abbrev PACER_CBS : Nat := 0x580006

/-- 0x5800[q]:07, U32 (R263). -/
abbrev PACER_PIR : Nat := 0x580007

/-- 0x5800[q]:08, U32 (R263). -/
abbrev PACER_PBS : Nat := 0x580008

/-- 0x5800[q]:09, U32 (R263). -/
abbrev POL_CIR : Nat := 0x580009

/-- 0x5800[q]:0A, U32 (R263). -/
abbrev POL_CBS : Nat := 0x58000A

/-- 0x5800[q]:0B, U32 (R263). -/
abbrev POL_PIR : Nat := 0x58000B

/-- 0x5800[q]:0C, U32 (R263). -/
abbrev POL_PBS : Nat := 0x58000C

/-- 0x5800[q]:0D, I64 (R263). -/
abbrev PACER_C_LEVEL : Nat := 0x58000D

/-- 0x5800[q]:0E, I64 (R263). -/
abbrev PACER_P_LEVEL : Nat := 0x58000E

/-- 0x5800[q]:0F, I64 (R263). -/
abbrev POL_C_LEVEL : Nat := 0x58000F

/-- 0x5800[q]:10, I64 (R263). -/
abbrev POL_P_LEVEL : Nat := 0x580010

/-- 0x5800[q]:11, U32 (R263). -/
abbrev QUEUE_OCCUPANCY : Nat := 0x580011

/-- 0x5800[q]:12, U16 (R263). -/
abbrev QUEUE_NODE : Nat := 0x580012

/-- 0x5800[q]:13, U64 (R263). -/
abbrev POL_RED_FRAMES : Nat := 0x580013

/-- 0x5800[q]:14, U64 (R263). -/
abbrev POL_RED_BYTES : Nat := 0x580014

/-- 0x5800[q]:15, U64 (R263). -/
abbrev POL_YELLOW_FRAMES : Nat := 0x580015

/-- 0x5800[q]:16, U64 (R263). -/
abbrev POL_YELLOW_BYTES : Nat := 0x580016

/-- 0x5800[q]:17, U64 (R263). -/
abbrev QUEUE_DROP_FRAMES : Nat := 0x580017

/-- 0x5800[q]:18, U64 (R263). -/
abbrev QUEUE_DROP_BYTES : Nat := 0x580018

/-- 0x5800[q]:19, U64 (R263). -/
abbrev PACER_EXCESS_BYTES : Nat := 0x580019

/-- 0x5880[n]:01, U16 (R264). -/
abbrev NODE_WEIGHT : Nat := 0x588001

/-- 0x5880[n]:02, U64 (R264). -/
abbrev NODE_VTIME : Nat := 0x588002

/-- 0x5880[n]:03, U32 (R264). -/
abbrev NODE_ACTIVE_QUEUES : Nat := 0x588003

/-- 0x5880[n]:04, BOOL (R264). -/
abbrev NODE_PAUSED : Nat := 0x588004

/-- 0x5880[n]:05, U64 (R264). -/
abbrev NODE_TX_FRAMES : Nat := 0x588005

/-- 0x5880[n]:06, U64 (R264). -/
abbrev NODE_INJECT_FRAMES : Nat := 0x588006

/-- 0x58C0[r]:01, U16 (R265). -/
abbrev BUFP_OWNER : Nat := 0x58C001

/-- 0x58C0[r]:02, U32 (R265). -/
abbrev BUFP_SIZE_CELLS : Nat := 0x58C002

/-- 0x58C0[r]:03, U32 (R265). -/
abbrev BUFP_USED_CELLS : Nat := 0x58C003

/-- 0x58C0[r]:04, U32 (R265). -/
abbrev BUFP_PEAK_CELLS : Nat := 0x58C004

/-- 0x58E0[p]:01, U16 (R272). -/
abbrev BUF_CABLE_M : Nat := 0x58E001

/-- 0x58E0[p]:02, U32 (R272). -/
abbrev BUF_PARTNER_NS : Nat := 0x58E002

/-- 0x58E0[p]:03, U32 (R272). -/
abbrev BUF_LL_XOFF_CELLS : Nat := 0x58E003

/-- 0x58E0[p]:04, U32 (R272). -/
abbrev BUF_LL_XON_GAP : Nat := 0x58E004

/-- 0x58E0[p]:05, U32 (R272). -/
abbrev BUF_HEADROOM_CELLS : Nat := 0x58E005

/-- 0x58E0[p]:06, U32 (R272). -/
abbrev BUF_SLACK_CELLS : Nat := 0x58E006

/-- 0x58E0[p]:07, U32 (R272). -/
abbrev BUF_HEADROOM_USED : Nat := 0x58E007

/-- 0x58E0[p]:08, U64 (R272). -/
abbrev BUF_HEADROOM_DROPS : Nat := 0x58E008

/-- 0x58E0[p]:09, U64 (R272). -/
abbrev BUF_INGRESS_OVERRUNS : Nat := 0x58E009

/-- 0x58F0:01, U8 (R272). -/
abbrev BUF_ALPHA_SHIFT : Nat := 0x58F001

/-- 0x58F0:02, U32 (R272). -/
abbrev BUF_YELLOW_FREE_CELLS : Nat := 0x58F002

/-- 0x58F0:03, U64 (R272). -/
abbrev BUF_PUNT_FULL_DROPS : Nat := 0x58F003

/-- 0x5900:01, U32 (R281). -/
abbrev LAP_LAST_SEQ : Nat := 0x590001

/-- 0x5900:02, U32 (R281). -/
abbrev LAP_CLOSES : Nat := 0x590002

/-- 0x5900:03, U32 (R281). -/
abbrev LAP_ABSORBED : Nat := 0x590003

/-- 0x5910[r]:01, U32 (R281). -/
abbrev LAP_DIR_SEQ : Nat := 0x591001

/-- 0x5910[r]:02, ENUM8 (R281). -/
abbrev LAP_DIR_STATE : Nat := 0x591002

/-- 0x5910[r]:03, TIME96 (R281). -/
abbrev LAP_DIR_START : Nat := 0x591003

/-- 0x5910[r]:04, TIME96 (R281). -/
abbrev LAP_DIR_END : Nat := 0x591004

/-- 0x5910[r]:05, U32 (R281). -/
abbrev LAP_DIR_MINUTE : Nat := 0x591005

/-- 0x5910[r]:06, BITS32 (R281). -/
abbrev LAP_DIR_FLAGS : Nat := 0x591006

/-- 0x5920[row]:01, OCTETS[64] (R281). -/
abbrev LAP_RECORD : Nat := 0x592001

/-- 0x5920[row]:02, U64 (R281). -/
abbrev LAP_PROTECTED_FRAMES : Nat := 0x592002

/-- 0x5920[row]:03, U64 (R281). -/
abbrev LAP_PROTECTED_BYTES : Nat := 0x592003

/-- 0x5920[row]:04, U64 (R281). -/
abbrev LAP_POLICE_FRAMES : Nat := 0x592004

/-- 0x5920[row]:05, U64 (R281). -/
abbrev LAP_POLICE_BYTES : Nat := 0x592005

/-- 0x5920[row]:06, U64 (R281). -/
abbrev LAP_OTHER_FRAMES : Nat := 0x592006

/-- 0x5920[row]:07, U64 (R281). -/
abbrev LAP_OTHER_BYTES : Nat := 0x592007

/-- 0x5920[row]:08, U64 (R281). -/
abbrev LAP_EXCESS_BYTES : Nat := 0x592008

/-- 0x6000:01, U32 (R19). -/
abbrev PART_SA_CONTEXT_KIB : Nat := 0x600001

/-- 0x6000:02, U32 (R19). -/
abbrev PART_FRAME_BUFFER_KIB : Nat := 0x600002

/-- 0x6000:03, U32 (R19). -/
abbrev PART_CLASS_CACHE_KIB : Nat := 0x600003

/-- 0x6000:04, U32 (R19). -/
abbrev PART_QUEUE_STATE_KIB : Nat := 0x600004

/-- 0x6000:05, U32 (R19). -/
abbrev PART_TREE_CACHE_KIB : Nat := 0x600005

/-- 0x6000:06, U32 (R19). -/
abbrev PART_HUB_KIB : Nat := 0x600006

/-- 0x6000:07, U32 (R19). -/
abbrev PART_TOTAL_KIB : Nat := 0x600007

/-- 0x6010:01, BITS32 (R22). -/
abbrev EXT_CHANNELS_IN_SERVICE : Nat := 0x601001

/-- 0x6010:02, U32 (R22). -/
abbrev EXT_DATA_KIB : Nat := 0x601002

/-- 0x6010:03, U32 (R22). -/
abbrev EXT_TAG_KIB : Nat := 0x601003

/-- 0x6010:04, U32 (R22). -/
abbrev EXT_COUNTER_KIB : Nat := 0x601004

/-- 0x6010:05, U32 (R22). -/
abbrev EXT_TREE_KIB : Nat := 0x601005

/-- 0x6010:06, U32 (R22). -/
abbrev EXT_RESERVED_KIB : Nat := 0x601006

/-- 0x6010:07, U32 (R22). -/
abbrev EXT_ASSIGNED_KIB : Nat := 0x601007

/-- 0x6020[c]:01, ENUM8 (R333). -/
abbrev MEM_CH_STATE : Nat := 0x602001

/-- 0x6020[c]:02, CMD (R333). -/
abbrev MEM_CH_CMD : Nat := 0x602002

/-- 0x6020[c]:03, ENUM8 (R333). -/
abbrev MEM_CH_CAUSE : Nat := 0x602003

/-- 0x6020[c]:04, U16 (R333). -/
abbrev MEM_CH_RETIRE_UNCORR : Nat := 0x602004

/-- 0x6020[c]:05, U64 (R333). -/
abbrev MEM_CH_CORRECTED : Nat := 0x602005

/-- 0x6020[c]:06, U64 (R333). -/
abbrev MEM_CH_UNCORRECTABLE : Nat := 0x602006

/-- 0x6030:01, U64 (R333). -/
abbrev MEM_TAG_FAILS : Nat := 0x603001

/-- 0x6030:02, U32 (R333). -/
abbrev MEM_NODE_FAILS : Nat := 0x603002

/-- 0x6030:03, U32 (R333). -/
abbrev MEM_CTR_READONLY : Nat := 0x603003

/-- 0x6030:04, U32 (R333). -/
abbrev MEM_POISON_COUNT : Nat := 0x603004

/-- 0x6030:05, U64 (R333). -/
abbrev MEM_TREE_HITS : Nat := 0x603005

/-- 0x6030:06, U64 (R333). -/
abbrev MEM_TREE_MISSES : Nat := 0x603006

/-- 0x6030:07, U32 (R333). -/
abbrev MEM_SCRUB_S : Nat := 0x603007

/-- 0x6030:08, U64 (R333). -/
abbrev MEM_SCRUB_PASSES : Nat := 0x603008

/-- 0x6030:09, U32 (R333). -/
abbrev MEM_REHASH_DONE : Nat := 0x603009

/-- 0x6030:0A, U32 (R333). -/
abbrev MEM_REHASH_LOST : Nat := 0x60300A

/-- 0x6038[e]:01, U32 (R333). -/
abbrev MEM_POISON_OFFSET : Nat := 0x603801

/-- 0x6038[e]:02, TIME96 (R333). -/
abbrev MEM_POISON_AT : Nat := 0x603802

/-- 0x6038[e]:03, ENUM8 (R333). -/
abbrev MEM_POISON_CAUSE : Nat := 0x603803

/-- 0x6040[s]:01, U32 (R333). -/
abbrev MEM_WIN_OFFSET : Nat := 0x604001

/-- 0x6040[s]:02, U8 (R333). -/
abbrev MEM_WIN_LEN : Nat := 0x604002

/-- 0x6040[s]:03, OCTETS[64] (R333). -/
abbrev MEM_WIN_DATA : Nat := 0x604003

/-- 0x6040[s]:04, CMD (R333). -/
abbrev MEM_WIN_CMD : Nat := 0x604004

/-- 0x6050[m]:01, ENUM8 (R406). -/
abbrev SRAM_PARTITION : Nat := 0x605001

/-- 0x6050[m]:02, U8 (R406). -/
abbrev SRAM_SPARES_LEFT : Nat := 0x605002

/-- 0x6050[m]:03, U16 (R406). -/
abbrev SRAM_ROWS_SPARED : Nat := 0x605003

/-- 0x6050[m]:04, U16 (R406). -/
abbrev SRAM_ROWS_RETIRED : Nat := 0x605004

/-- 0x6050[m]:05, CMD (R406). -/
abbrev SRAM_SPARE_CMD : Nat := 0x605005

/-- 0x6058:01, U8 (R406). -/
abbrev SRAM_SPARE_CORRECTED : Nat := 0x605801

/-- 0x6800[src]:01, ENUM8 (R379). -/
abbrev FLT_SRC_STATE : Nat := 0x680001

/-- 0x6800[src]:02, ENUM8 (R379). -/
abbrev FLT_SRC_CLASS : Nat := 0x680002

/-- 0x6800[src]:03, U16 (R379). -/
abbrev FLT_SRC_N : Nat := 0x680003

/-- 0x6800[src]:04, U32 (R379). -/
abbrev FLT_SRC_W_MS : Nat := 0x680004

/-- 0x6800[src]:05, ENUM8 (R379). -/
abbrev FLT_SRC_CAP : Nat := 0x680005

/-- 0x6800[src]:06, U64 (R379). -/
abbrev FLT_SRC_EVENTS : Nat := 0x680006

/-- 0x6800[src]:07, TIME96 (R379). -/
abbrev FLT_SRC_LAST_AT : Nat := 0x680007

/-- 0x6800[src]:08, CMD (R379). -/
abbrev FLT_SRC_ACK : Nat := 0x680008

/-- 0x6880:01, BITS32 (R379). -/
abbrev FLT_STATUS : Nat := 0x688001

/-- 0x6880:02, CMD (R379). -/
abbrev FLT_ACK_ALL : Nat := 0x688002

/-- 0x6880:03, BOOL (R379). -/
abbrev FLT_FATAL_SINCE_BOOT : Nat := 0x688003

/-- 0x6880:04, U32 (R379). -/
abbrev FLT_LOG_LAST_SEQ : Nat := 0x688004

/-- 0x6880:05, U32 (R379). -/
abbrev FLT_LOG_OVERWRITTEN : Nat := 0x688005

/-- 0x6880:06, ENUM8 (R379). -/
abbrev FLT_EVENT_MIN_CLASS : Nat := 0x688006

/-- 0x6880:07, U64 (R379). -/
abbrev FLT_EVENT_LOST : Nat := 0x688007

/-- 0x6880:08, OCTETS[64] (R379). -/
abbrev FLT_FIRST_SEVERE : Nat := 0x688008

/-- 0x6890[e]:01, OCTETS[64] (R379). -/
abbrev FLT_LOG_RECORD : Nat := 0x689001

/-- 0x6900[ch]:01, ENUM8 (R390). -/
abbrev MON_KIND : Nat := 0x690001

/-- 0x6900[ch]:02, BOOL (R390). -/
abbrev MON_ENABLE : Nat := 0x690002

/-- 0x6900[ch]:03, I32 (R390). -/
abbrev MON_LIMIT_LO : Nat := 0x690003

/-- 0x6900[ch]:04, I32 (R390). -/
abbrev MON_LIMIT_HI : Nat := 0x690004

/-- 0x6900[ch]:05, U16 (R390). -/
abbrev MON_HEAT_N : Nat := 0x690005

/-- 0x6900[ch]:06, U32 (R390). -/
abbrev MON_HEAT_W_MS : Nat := 0x690006

/-- 0x6900[ch]:07, I32 (R390). -/
abbrev MON_VALUE : Nat := 0x690007

/-- 0x6900[ch]:08, ENUM8 (R390). -/
abbrev MON_STATE : Nat := 0x690008

/-- 0x6900[ch]:09, U64 (R390). -/
abbrev MON_EVENTS : Nat := 0x690009

/-- 0x6900[ch]:0A, BOOL (R390). -/
abbrev MON_HOT : Nat := 0x69000A

/-- 0x6900[ch]:0B, BOOL (R390). -/
abbrev MON_ACTIVE_HIGH : Nat := 0x69000B

/-- 0x6980[e]:01, OCTETS[32] (R390). -/
abbrev TAMPER_LOG_ENTRY : Nat := 0x698001

/-- 0x6990:01, U32 (R390). -/
abbrev TAMPER_LOG_LAST_SEQ : Nat := 0x699001

/-- 0x6990:02, U32 (R390). -/
abbrev TAMPER_LOG_OVERWRITTEN : Nat := 0x699002

/-- 0x6990:03, OCTETS[32] (R390). -/
abbrev TAMPER_FIRST : Nat := 0x699003

/-- 0x7000[n]:01, BOOL (R402). -/
abbrev PMC_ENABLE : Nat := 0x700001

/-- 0x7000[n]:02, U16 (R402). -/
abbrev PMC_EVENT : Nat := 0x700002

/-- 0x7000[n]:03, U64 (R402). -/
abbrev PMC_VALUE : Nat := 0x700003

/-- 0x7000[n]:04, U64 (R402). -/
abbrev PMC_PAIR_HIGH : Nat := 0x700004

/-- 0x7000[n]:05, BOOL (R402). -/
abbrev PMC_CHAIN : Nat := 0x700005

/-- 0x7000[n]:06, BITS32 (R402). -/
abbrev PMC_CLASS_MASK : Nat := 0x700006

/-- 0x7000[n]:07, U32 (R402). -/
abbrev PMC_RANGE_LO : Nat := 0x700007

/-- 0x7000[n]:08, U32 (R402). -/
abbrev PMC_RANGE_HI : Nat := 0x700008

/-- 0x7000[n]:09, BITS32 (R402). -/
abbrev PMC_ROLE_MASK : Nat := 0x700009

/-- 0x7000[n]:0A, BITS32 (R402). -/
abbrev PMC_MASTER_MASK : Nat := 0x70000A

/-- 0x7000[n]:0B, U16 (R402). -/
abbrev PMC_TENANT : Nat := 0x70000B

/-- 0x7000[n]:0C, BOOL (R402). -/
abbrev PMC_TENANT_READ : Nat := 0x70000C

/-- 0x7000[n]:0D, BOOL (R402). -/
abbrev PMC_SAMPLE : Nat := 0x70000D

/-- 0x7000[n]:0E, BOOL (R402). -/
abbrev PMC_IRQ : Nat := 0x70000E

/-- 0x7000[n]:0F, BITS32 (R402). -/
abbrev PMC_STATUS : Nat := 0x70000F

/-- 0x7000[n]:10, OCTETS[32] (R402). -/
abbrev PMC_SAMPLE_DATA : Nat := 0x700010

/-- 0x7080:01, U8 (R402). -/
abbrev PMC_VECTOR : Nat := 0x708001

/-- 0x7800:01, BITS32 (R250). -/
abbrev PEER_ENABLE : Nat := 0x780001

/-- 0x7800:02, KEYREF (R250). -/
abbrev PEER_KEY : Nat := 0x780002

/-- 0x7800:03, U8 (R250). -/
abbrev PEER_HOPS : Nat := 0x780003

/-- 0x7800:04, BOOL (R250). -/
abbrev PEER_SEND_BATONS : Nat := 0x780004

/-- 0x7800:05, BITS32 (R250). -/
abbrev PEER_SYNC : Nat := 0x780005

/-- 0x7800:06, U64 (R250). -/
abbrev PEER_RX_MESSAGES : Nat := 0x780006

/-- 0x7800:07, U64 (R250). -/
abbrev PEER_RX_ERRORS : Nat := 0x780007

/-- 0x7800:08, U64 (R250). -/
abbrev PEER_RX_DUPLICATES : Nat := 0x780008

/-- 0x7800:09, U64 (R250). -/
abbrev PEER_MOVED_AWAY : Nat := 0x780009

end O

/-- Objects of 0x1000 to 0x10FF, part 1. -/
def descs10_0 : List Desc := [
  ⟨0x100001, false, .vstr 32, .ro, 31, 0, 115792089237316195423570985008687907853269984665640564039457584007913129639935⟩,
  ⟨0x100002, false, .vstr 16, .ro, 31, 0, 340282366920938463463374607431768211455⟩,
  ⟨0x100003, false, .vstr 4, .ro, 31, 0, 4294967295⟩,
  ⟨0x100004, false, .octets 16, .ro, 27, 0, 340282366920938463463374607431768211455⟩,
  ⟨0x100005, false, .u 4, .ro, 31, 0, 4294967295⟩,
  ⟨0x100101, false, .bits32, .ro, 31, 0, 4294967295⟩,
  ⟨0x100102, false, .u 2, .ro, 31, 0, 65535⟩,
  ⟨0x100103, false, .u 2, .ro, 31, 0, 65535⟩,
  ⟨0x100104, false, .u 4, .ro, 31, 0, 4294967295⟩,
  ⟨0x100105, false, .u 4, .ro, 31, 0, 4294967295⟩,
  ⟨0x100106, false, .u 4, .ro, 31, 0, 4294967295⟩,
  ⟨0x100107, false, .u 4, .ro, 31, 0, 4294967295⟩,
  ⟨0x100108, false, .u 4, .ro, 31, 0, 4294967295⟩,
  ⟨0x100109, false, .u 2, .ro, 31, 0, 65535⟩,
  ⟨0x10010A, false, .u 2, .ro, 31, 0, 65535⟩,
  ⟨0x10010B, false, .u 2, .ro, 31, 0, 65535⟩,
  ⟨0x102001, true, .enum, .ro, 11, 0, 255⟩,
  ⟨0x102002, true, .octets 32, .ro, 11, 0, 115792089237316195423570985008687907853269984665640564039457584007913129639935⟩,
  ⟨0x102003, true, .u 4, .ro, 11, 0, 4294967295⟩,
  ⟨0x102004, true, .octets 16, .ro, 11, 0, 340282366920938463463374607431768211455⟩,
  ⟨0x103001, false, .u 1, .rw, 9, 0, 255⟩,
  ⟨0x103002, false, .u 4, .rw, 9, 0, 4294967295⟩,
  ⟨0x103003, false, .octets 1000, .wo, 9, 0, 173766203193809456599982445949435627061939786100117250547173286503262376022458008465094333630120854338003194362163007597987225472483598640843335685441710193966274131338557192586399006789292714554767500194796127964596906605976605873665859580600161998556511368530960400907199253450604168622770350228527124626728538626805418833470107651091641919900725415994689920112219170907023561354484047025713734651608777544579846111001059482132180956689444108315785401642188044178788629853592228467331730519810763559577944882016286493908631503101121166109571682295769470379514531105239965209245314082665518579335511291525230373316486697786532335206274149240813489201828773854353041855598709390675430960381072270432383913542702130202430186637321862331068861776780211082856984506050024895394320139435868484643843368002496089956046419964019877586845530207748994394501505588146979082629871366088121763790555364513243984244004147636040219136443410377798011608722717131323621700159335786445601947601694025107888293017058178562647175461026384343438874861406516767158373279032321096262126551620255666605185789463207944391905756886829667520553014724372245300878786091700563444079107099009003380230356461989260377273986023281444076082783406824471703499844642915587790146384758051663547775336021829171033411043796977042190519657861762804226147480755555085278062866268677842432851421790544407006581148631979148571299417963950579210719961422405768071335213324842709316205032078384168750091017964584060285240107161561019930505687950233196051962261970932008838279760834318101044311710769457048672103958655016388894770892065267451228938951370237422841366052736174160431593023473217066764172949768821843606479073866252864377064398085101223216558344281956767163876579889759124956035672317578122141070933058555310274598884089982879647974020264495921703064439532898207943134374576254840272047075633856749514044298135927611328433323640657533550512376900773273703275329924651465759145114579174356770593439987135755889403613364529029604049868233807295134382284730745937309910703657676103447124097631074153287120040247837143656624045055614076111832245239612708339272798262887437416818440064925049838443370805645609424314780108030016683461562597569371539974003402697903023830108053034645133078208043917492087248958344081026378788915528519967248989338592027124423914083391771884524464968645052058218151010508471258285907685355807229880747677634789375⟩,
  ⟨0x103004, false, .cmd, .cmd, 9, 0, 4294967295⟩]

/-- Objects of 0x1000 to 0x10FF, part 2. -/
def descs10_1 : List Desc := [
  ⟨0x103005, false, .u 1, .ro, 11, 0, 255⟩,
  ⟨0x103006, false, .bool, .ro, 11, 0, 1⟩,
  ⟨0x103007, false, .u 4, .ro, 11, 0, 4294967295⟩,
  ⟨0x103008, false, .octets 32, .ro, 11, 0, 115792089237316195423570985008687907853269984665640564039457584007913129639935⟩,
  ⟨0x104001, false, .enum, .ro, 27, 0, 255⟩,
  ⟨0x104002, false, .bits32, .ro, 27, 0, 4294967295⟩,
  ⟨0x104003, false, .enum, .ro, 27, 0, 255⟩,
  ⟨0x104004, false, .enum, .ro, 27, 0, 255⟩,
  ⟨0x104005, false, .u 2, .ro, 27, 0, 65535⟩,
  ⟨0x104006, false, .u 1, .ro, 27, 0, 255⟩,
  ⟨0x104007, false, .u 4, .ro, 27, 0, 4294967295⟩,
  ⟨0x104008, false, .u 4, .ro, 27, 0, 4294967295⟩,
  ⟨0x104009, false, .bits32, .ro, 27, 0, 4294967295⟩,
  ⟨0x10400A, false, .bits32, .ro, 27, 0, 4294967295⟩,
  ⟨0x10400B, false, .time96, .ro, 27, 0, 79228162514264337593543950335⟩]

/-- Objects of 0x1400 to 0x14FF, part 1. -/
def descs14_0 : List Desc := [
  ⟨0x140001, false, .u 1, .ro, 11, 0, 255⟩,
  ⟨0x140002, false, .u 1, .rw, 3, 0, 255⟩,
  ⟨0x140003, false, .u 1, .rw, 3, 0, 255⟩,
  ⟨0x140004, false, .u 1, .ro, 11, 0, 255⟩,
  ⟨0x140005, false, .enum, .ro, 11, 0, 255⟩,
  ⟨0x140006, false, .bool, .ro, 11, 0, 1⟩,
  ⟨0x140007, false, .u 2, .rw, 1, 1, 3600⟩,
  ⟨0x140008, false, .u 4, .rw, 3, 0, 4294967295⟩,
  ⟨0x140101, false, .u 8, .ro, 11, 0, 18446744073709551615⟩,
  ⟨0x140102, false, .u 8, .ro, 11, 0, 18446744073709551615⟩,
  ⟨0x140103, false, .u 8, .ro, 11, 0, 18446744073709551615⟩,
  ⟨0x140104, false, .u 8, .ro, 11, 0, 18446744073709551615⟩,
  ⟨0x140105, false, .u 8, .ro, 11, 0, 18446744073709551615⟩,
  ⟨0x141000, false, .u 4, .rw, 27, 0, 4294967295⟩,
  ⟨0x141100, false, .u 4, .rw, 1, 100, 600000⟩,
  ⟨0x141200, false, .cmd, .cmd, 1, 0, 4294967295⟩,
  ⟨0x142001, true, .u 4, .ro, 3, 0, 4294967295⟩,
  ⟨0x142002, true, .enum, .ro, 3, 0, 255⟩,
  ⟨0x142003, true, .cmd, .cmd, 3, 0, 4294967295⟩,
  ⟨0x142004, true, .time96, .rw, 3, 0, 79228162514264337593543950335⟩,
  ⟨0x142005, true, .bool, .rw, 3, 0, 1⟩,
  ⟨0x142006, true, .u 2, .ro, 3, 0, 65535⟩,
  ⟨0x142007, true, .octets 8, .ro, 3, 0, 18446744073709551615⟩,
  ⟨0x142008, true, .bits32, .ro, 3, 0, 4294967295⟩]

/-- Objects of 0x1400 to 0x14FF, part 2. -/
def descs14_1 : List Desc := [
  ⟨0x143001, true, .enum, .ro, 3, 0, 255⟩,
  ⟨0x143002, true, .enum, .ro, 3, 0, 255⟩,
  ⟨0x143003, true, .u 2, .ro, 3, 0, 65535⟩,
  ⟨0x143004, true, .u 4, .ro, 3, 0, 4294967295⟩,
  ⟨0x143005, true, .u 4, .ro, 3, 0, 4294967295⟩,
  ⟨0x143006, true, .cmd, .cmd, 1, 0, 4294967295⟩,
  ⟨0x143801, true, .keyref, .rw, 1, 0, 4294967295⟩,
  ⟨0x144001, false, .u 1, .ro, 11, 0, 255⟩,
  ⟨0x144002, false, .enum, .ro, 11, 0, 255⟩,
  ⟨0x144003, false, .u 1, .rw, 3, 0, 255⟩,
  ⟨0x144004, false, .u 4, .rw, 1, 0, 4294967295⟩,
  ⟨0x144005, false, .u 8, .ro, 11, 0, 18446744073709551615⟩,
  ⟨0x145001, true, .enum, .rw, 3, 0, 4⟩,
  ⟨0x145002, true, .bool, .rw, 3, 0, 1⟩,
  ⟨0x145003, true, .u 8, .rw, 3, 0, 18446744073709551615⟩,
  ⟨0x145004, true, .u 2, .rw, 3, 16, 4096⟩,
  ⟨0x145005, true, .u 4, .rw, 3, 64, 1073741824⟩,
  ⟨0x145006, true, .u 2, .ro, 3, 0, 65535⟩,
  ⟨0x145007, true, .u 2, .ro, 3, 0, 65535⟩,
  ⟨0x145008, true, .u 1, .rw, 3, 0, 63⟩,
  ⟨0x145009, true, .u 2, .rw, 3, 1, 4096⟩,
  ⟨0x14500A, true, .u 4, .rw, 3, 0, 4294967295⟩,
  ⟨0x14500B, true, .enum, .ro, 3, 0, 255⟩,
  ⟨0x14500C, true, .u 8, .ro, 3, 0, 18446744073709551615⟩]

/-- Objects of 0x1400 to 0x14FF, part 3. -/
def descs14_2 : List Desc := [
  ⟨0x14500D, true, .u 8, .ro, 3, 0, 18446744073709551615⟩,
  ⟨0x14500E, true, .u 4, .rw, 3, 0, 4294967295⟩,
  ⟨0x146001, true, .u 1, .rw, 3, 0, 255⟩,
  ⟨0x146002, true, .u 4, .rw, 3, 0, 10000000⟩,
  ⟨0x146003, true, .u 8, .ro, 11, 0, 18446744073709551615⟩,
  ⟨0x146004, true, .u 8, .ro, 11, 0, 18446744073709551615⟩,
  ⟨0x146005, true, .u 8, .ro, 11, 0, 18446744073709551615⟩,
  ⟨0x146801, false, .octets 16, .rw, 1, 0, 340282366920938463463374607431768211455⟩,
  ⟨0x146802, false, .u 8, .ro, 11, 0, 18446744073709551615⟩]

/-- Objects of 0x1800 to 0x18FF, part 1. -/
def descs18_0 : List Desc := [
  ⟨0x180001, false, .enum, .ro, 27, 0, 255⟩,
  ⟨0x180002, false, .cmd, .cmd, 3, 0, 4294967295⟩,
  ⟨0x180003, false, .time96, .ro, 11, 0, 79228162514264337593543950335⟩,
  ⟨0x180004, false, .enum, .ro, 11, 0, 255⟩,
  ⟨0x180005, false, .time96, .rw, 3, 0, 79228162514264337593543950335⟩,
  ⟨0x180006, false, .bool, .rw, 3, 0, 1⟩,
  ⟨0x180007, false, .u 4, .rw, 3, 0, 1000000⟩,
  ⟨0x180008, false, .u 8, .ro, 11, 0, 18446744073709551615⟩,
  ⟨0x180009, false, .u 8, .ro, 11, 0, 18446744073709551615⟩,
  ⟨0x181001, true, .enum, .ro, 11, 0, 255⟩,
  ⟨0x181002, true, .cmd, .cmd, 3, 0, 4294967295⟩,
  ⟨0x181003, true, .enum, .ro, 11, 0, 255⟩,
  ⟨0x181004, true, .u 8, .ro, 11, 0, 18446744073709551615⟩,
  ⟨0x182001, true, .bool, .rw, 3, 0, 1⟩,
  ⟨0x182002, true, .u 1, .rw, 3, 1, 4⟩,
  ⟨0x182003, true, .u 8, .ro, 11, 0, 18446744073709551615⟩,
  ⟨0x182004, true, .u 8, .ro, 11, 0, 18446744073709551615⟩,
  ⟨0x182005, true, .u 8, .ro, 11, 0, 18446744073709551615⟩,
  ⟨0x183001, true, .enum, .ro, 11, 0, 255⟩,
  ⟨0x183002, true, .u 1, .ro, 11, 0, 255⟩,
  ⟨0x183003, true, .bits32, .ro, 11, 0, 4294967295⟩,
  ⟨0x183004, true, .u 8, .ro, 11, 0, 18446744073709551615⟩,
  ⟨0x183005, true, .u 8, .ro, 11, 0, 18446744073709551615⟩,
  ⟨0x183006, true, .u 8, .ro, 11, 0, 18446744073709551615⟩]

/-- Objects of 0x1800 to 0x18FF, part 2. -/
def descs18_1 : List Desc := [
  ⟨0x183007, true, .u 8, .ro, 11, 0, 18446744073709551615⟩,
  ⟨0x183008, true, .u 4, .ro, 11, 0, 4294967295⟩,
  ⟨0x183009, true, .u 1, .rw, 1, 1, 15⟩,
  ⟨0x18300A, true, .u 4, .rw, 1, 1, 3600000⟩,
  ⟨0x18300B, true, .u 2, .rw, 1, 10, 10000⟩,
  ⟨0x18300C, true, .cmd, .cmd, 9, 0, 4294967295⟩,
  ⟨0x18300D, true, .u 8, .ro, 11, 0, 18446744073709551615⟩,
  ⟨0x18300E, true, .u 8, .ro, 11, 0, 18446744073709551615⟩,
  ⟨0x18300F, true, .u 8, .ro, 11, 0, 18446744073709551615⟩,
  ⟨0x183010, true, .u 2, .ro, 11, 0, 65535⟩,
  ⟨0x183011, true, .u 2, .ro, 11, 0, 65535⟩,
  ⟨0x183012, true, .u 2, .ro, 11, 0, 65535⟩,
  ⟨0x183013, true, .u 2, .ro, 11, 0, 65535⟩,
  ⟨0x183014, true, .u 2, .ro, 11, 0, 65535⟩,
  ⟨0x183015, true, .u 2, .ro, 11, 0, 65535⟩,
  ⟨0x183016, true, .u 2, .ro, 11, 0, 65535⟩,
  ⟨0x183017, true, .u 2, .ro, 11, 0, 65535⟩,
  ⟨0x183018, true, .u 2, .ro, 11, 0, 65535⟩]

/-- Objects of 0x2000 to 0x20FF, part 1. -/
def descs20_0 : List Desc := [
  ⟨0x200001, false, .enum, .ro, 31, 0, 255⟩,
  ⟨0x200002, false, .enum, .ro, 31, 0, 255⟩,
  ⟨0x200003, false, .u 1, .ro, 9, 0, 255⟩,
  ⟨0x200004, false, .bool, .ro, 9, 0, 1⟩,
  ⟨0x200005, false, .cmd, .cmd, 9, 0, 4294967295⟩,
  ⟨0x200006, false, .octets 32, .ro, 9, 0, 115792089237316195423570985008687907853269984665640564039457584007913129639935⟩,
  ⟨0x201001, false, .octets 32, .wo, 8, 0, 115792089237316195423570985008687907853269984665640564039457584007913129639935⟩,
  ⟨0x201002, false, .octets 288, .rw, 8, 0, 3742053650892133432367999773538322459225928823527575869347258443714776254479140165467924450143929014376701328043796892084250680644651644268919891406030558009514559848402392186697349032657288467726728117428485865736692545611669179323917560467904459270003565249200768855069969069462910188335948939853235385655600614050799627402904169955617680686939217306230732743306013312855692685442723231659949822010462888578091073832552856131420378840703853686445535243055462767679945780563431553986820134725467051353840270015201262955847832589866641019681571016376279703475133297517542073557917754709550486937454822846451632280550418910946262563991699255138480187856382366661603621981981643212128456085078015⟩,
  ⟨0x201003, false, .octets 16, .rw, 8, 0, 340282366920938463463374607431768211455⟩,
  ⟨0x201004, false, .octets 32, .wo, 1, 0, 115792089237316195423570985008687907853269984665640564039457584007913129639935⟩,
  ⟨0x201005, false, .octets 32, .rw, 1, 0, 115792089237316195423570985008687907853269984665640564039457584007913129639935⟩,
  ⟨0x201006, false, .octets 16, .rw, 1, 0, 340282366920938463463374607431768211455⟩,
  ⟨0x202001, true, .u 4, .ro, 27, 0, 4294967295⟩,
  ⟨0x203001, true, .octets 1000, .wo, 24, 0, 173766203193809456599982445949435627061939786100117250547173286503262376022458008465094333630120854338003194362163007597987225472483598640843335685441710193966274131338557192586399006789292714554767500194796127964596906605976605873665859580600161998556511368530960400907199253450604168622770350228527124626728538626805418833470107651091641919900725415994689920112219170907023561354484047025713734651608777544579846111001059482132180956689444108315785401642188044178788629853592228467331730519810763559577944882016286493908631503101121166109571682295769470379514531105239965209245314082665518579335511291525230373316486697786532335206274149240813489201828773854353041855598709390675430960381072270432383913542702130202430186637321862331068861776780211082856984506050024895394320139435868484643843368002496089956046419964019877586845530207748994394501505588146979082629871366088121763790555364513243984244004147636040219136443410377798011608722717131323621700159335786445601947601694025107888293017058178562647175461026384343438874861406516767158373279032321096262126551620255666605185789463207944391905756886829667520553014724372245300878786091700563444079107099009003380230356461989260377273986023281444076082783406824471703499844642915587790146384758051663547775336021829171033411043796977042190519657861762804226147480755555085278062866268677842432851421790544407006581148631979148571299417963950579210719961422405768071335213324842709316205032078384168750091017964584060285240107161561019930505687950233196051962261970932008838279760834318101044311710769457048672103958655016388894770892065267451228938951370237422841366052736174160431593023473217066764172949768821843606479073866252864377064398085101223216558344281956767163876579889759124956035672317578122141070933058555310274598884089982879647974020264495921703064439532898207943134374576254840272047075633856749514044298135927611328433323640657533550512376900773273703275329924651465759145114579174356770593439987135755889403613364529029604049868233807295134382284730745937309910703657676103447124097631074153287120040247837143656624045055614076111832245239612708339272798262887437416818440064925049838443370805645609424314780108030016683461562597569371539974003402697903023830108053034645133078208043917492087248958344081026378788915528519967248989338592027124423914083391771884524464968645052058218151010508471258285907685355807229880747677634789375⟩,
  ⟨0x203002, true, .octets 1000, .wo, 24, 0, 173766203193809456599982445949435627061939786100117250547173286503262376022458008465094333630120854338003194362163007597987225472483598640843335685441710193966274131338557192586399006789292714554767500194796127964596906605976605873665859580600161998556511368530960400907199253450604168622770350228527124626728538626805418833470107651091641919900725415994689920112219170907023561354484047025713734651608777544579846111001059482132180956689444108315785401642188044178788629853592228467331730519810763559577944882016286493908631503101121166109571682295769470379514531105239965209245314082665518579335511291525230373316486697786532335206274149240813489201828773854353041855598709390675430960381072270432383913542702130202430186637321862331068861776780211082856984506050024895394320139435868484643843368002496089956046419964019877586845530207748994394501505588146979082629871366088121763790555364513243984244004147636040219136443410377798011608722717131323621700159335786445601947601694025107888293017058178562647175461026384343438874861406516767158373279032321096262126551620255666605185789463207944391905756886829667520553014724372245300878786091700563444079107099009003380230356461989260377273986023281444076082783406824471703499844642915587790146384758051663547775336021829171033411043796977042190519657861762804226147480755555085278062866268677842432851421790544407006581148631979148571299417963950579210719961422405768071335213324842709316205032078384168750091017964584060285240107161561019930505687950233196051962261970932008838279760834318101044311710769457048672103958655016388894770892065267451228938951370237422841366052736174160431593023473217066764172949768821843606479073866252864377064398085101223216558344281956767163876579889759124956035672317578122141070933058555310274598884089982879647974020264495921703064439532898207943134374576254840272047075633856749514044298135927611328433323640657533550512376900773273703275329924651465759145114579174356770593439987135755889403613364529029604049868233807295134382284730745937309910703657676103447124097631074153287120040247837143656624045055614076111832245239612708339272798262887437416818440064925049838443370805645609424314780108030016683461562597569371539974003402697903023830108053034645133078208043917492087248958344081026378788915528519967248989338592027124423914083391771884524464968645052058218151010508471258285907685355807229880747677634789375⟩,
  ⟨0x203003, true, .octets 1000, .wo, 24, 0, 173766203193809456599982445949435627061939786100117250547173286503262376022458008465094333630120854338003194362163007597987225472483598640843335685441710193966274131338557192586399006789292714554767500194796127964596906605976605873665859580600161998556511368530960400907199253450604168622770350228527124626728538626805418833470107651091641919900725415994689920112219170907023561354484047025713734651608777544579846111001059482132180956689444108315785401642188044178788629853592228467331730519810763559577944882016286493908631503101121166109571682295769470379514531105239965209245314082665518579335511291525230373316486697786532335206274149240813489201828773854353041855598709390675430960381072270432383913542702130202430186637321862331068861776780211082856984506050024895394320139435868484643843368002496089956046419964019877586845530207748994394501505588146979082629871366088121763790555364513243984244004147636040219136443410377798011608722717131323621700159335786445601947601694025107888293017058178562647175461026384343438874861406516767158373279032321096262126551620255666605185789463207944391905756886829667520553014724372245300878786091700563444079107099009003380230356461989260377273986023281444076082783406824471703499844642915587790146384758051663547775336021829171033411043796977042190519657861762804226147480755555085278062866268677842432851421790544407006581148631979148571299417963950579210719961422405768071335213324842709316205032078384168750091017964584060285240107161561019930505687950233196051962261970932008838279760834318101044311710769457048672103958655016388894770892065267451228938951370237422841366052736174160431593023473217066764172949768821843606479073866252864377064398085101223216558344281956767163876579889759124956035672317578122141070933058555310274598884089982879647974020264495921703064439532898207943134374576254840272047075633856749514044298135927611328433323640657533550512376900773273703275329924651465759145114579174356770593439987135755889403613364529029604049868233807295134382284730745937309910703657676103447124097631074153287120040247837143656624045055614076111832245239612708339272798262887437416818440064925049838443370805645609424314780108030016683461562597569371539974003402697903023830108053034645133078208043917492087248958344081026378788915528519967248989338592027124423914083391771884524464968645052058218151010508471258285907685355807229880747677634789375⟩,
  ⟨0x203004, true, .octets 1000, .wo, 24, 0, 173766203193809456599982445949435627061939786100117250547173286503262376022458008465094333630120854338003194362163007597987225472483598640843335685441710193966274131338557192586399006789292714554767500194796127964596906605976605873665859580600161998556511368530960400907199253450604168622770350228527124626728538626805418833470107651091641919900725415994689920112219170907023561354484047025713734651608777544579846111001059482132180956689444108315785401642188044178788629853592228467331730519810763559577944882016286493908631503101121166109571682295769470379514531105239965209245314082665518579335511291525230373316486697786532335206274149240813489201828773854353041855598709390675430960381072270432383913542702130202430186637321862331068861776780211082856984506050024895394320139435868484643843368002496089956046419964019877586845530207748994394501505588146979082629871366088121763790555364513243984244004147636040219136443410377798011608722717131323621700159335786445601947601694025107888293017058178562647175461026384343438874861406516767158373279032321096262126551620255666605185789463207944391905756886829667520553014724372245300878786091700563444079107099009003380230356461989260377273986023281444076082783406824471703499844642915587790146384758051663547775336021829171033411043796977042190519657861762804226147480755555085278062866268677842432851421790544407006581148631979148571299417963950579210719961422405768071335213324842709316205032078384168750091017964584060285240107161561019930505687950233196051962261970932008838279760834318101044311710769457048672103958655016388894770892065267451228938951370237422841366052736174160431593023473217066764172949768821843606479073866252864377064398085101223216558344281956767163876579889759124956035672317578122141070933058555310274598884089982879647974020264495921703064439532898207943134374576254840272047075633856749514044298135927611328433323640657533550512376900773273703275329924651465759145114579174356770593439987135755889403613364529029604049868233807295134382284730745937309910703657676103447124097631074153287120040247837143656624045055614076111832245239612708339272798262887437416818440064925049838443370805645609424314780108030016683461562597569371539974003402697903023830108053034645133078208043917492087248958344081026378788915528519967248989338592027124423914083391771884524464968645052058218151010508471258285907685355807229880747677634789375⟩,
  ⟨0x203005, true, .octets 1000, .wo, 24, 0, 173766203193809456599982445949435627061939786100117250547173286503262376022458008465094333630120854338003194362163007597987225472483598640843335685441710193966274131338557192586399006789292714554767500194796127964596906605976605873665859580600161998556511368530960400907199253450604168622770350228527124626728538626805418833470107651091641919900725415994689920112219170907023561354484047025713734651608777544579846111001059482132180956689444108315785401642188044178788629853592228467331730519810763559577944882016286493908631503101121166109571682295769470379514531105239965209245314082665518579335511291525230373316486697786532335206274149240813489201828773854353041855598709390675430960381072270432383913542702130202430186637321862331068861776780211082856984506050024895394320139435868484643843368002496089956046419964019877586845530207748994394501505588146979082629871366088121763790555364513243984244004147636040219136443410377798011608722717131323621700159335786445601947601694025107888293017058178562647175461026384343438874861406516767158373279032321096262126551620255666605185789463207944391905756886829667520553014724372245300878786091700563444079107099009003380230356461989260377273986023281444076082783406824471703499844642915587790146384758051663547775336021829171033411043796977042190519657861762804226147480755555085278062866268677842432851421790544407006581148631979148571299417963950579210719961422405768071335213324842709316205032078384168750091017964584060285240107161561019930505687950233196051962261970932008838279760834318101044311710769457048672103958655016388894770892065267451228938951370237422841366052736174160431593023473217066764172949768821843606479073866252864377064398085101223216558344281956767163876579889759124956035672317578122141070933058555310274598884089982879647974020264495921703064439532898207943134374576254840272047075633856749514044298135927611328433323640657533550512376900773273703275329924651465759145114579174356770593439987135755889403613364529029604049868233807295134382284730745937309910703657676103447124097631074153287120040247837143656624045055614076111832245239612708339272798262887437416818440064925049838443370805645609424314780108030016683461562597569371539974003402697903023830108053034645133078208043917492087248958344081026378788915528519967248989338592027124423914083391771884524464968645052058218151010508471258285907685355807229880747677634789375⟩,
  ⟨0x203006, true, .octets 1000, .wo, 24, 0, 173766203193809456599982445949435627061939786100117250547173286503262376022458008465094333630120854338003194362163007597987225472483598640843335685441710193966274131338557192586399006789292714554767500194796127964596906605976605873665859580600161998556511368530960400907199253450604168622770350228527124626728538626805418833470107651091641919900725415994689920112219170907023561354484047025713734651608777544579846111001059482132180956689444108315785401642188044178788629853592228467331730519810763559577944882016286493908631503101121166109571682295769470379514531105239965209245314082665518579335511291525230373316486697786532335206274149240813489201828773854353041855598709390675430960381072270432383913542702130202430186637321862331068861776780211082856984506050024895394320139435868484643843368002496089956046419964019877586845530207748994394501505588146979082629871366088121763790555364513243984244004147636040219136443410377798011608722717131323621700159335786445601947601694025107888293017058178562647175461026384343438874861406516767158373279032321096262126551620255666605185789463207944391905756886829667520553014724372245300878786091700563444079107099009003380230356461989260377273986023281444076082783406824471703499844642915587790146384758051663547775336021829171033411043796977042190519657861762804226147480755555085278062866268677842432851421790544407006581148631979148571299417963950579210719961422405768071335213324842709316205032078384168750091017964584060285240107161561019930505687950233196051962261970932008838279760834318101044311710769457048672103958655016388894770892065267451228938951370237422841366052736174160431593023473217066764172949768821843606479073866252864377064398085101223216558344281956767163876579889759124956035672317578122141070933058555310274598884089982879647974020264495921703064439532898207943134374576254840272047075633856749514044298135927611328433323640657533550512376900773273703275329924651465759145114579174356770593439987135755889403613364529029604049868233807295134382284730745937309910703657676103447124097631074153287120040247837143656624045055614076111832245239612708339272798262887437416818440064925049838443370805645609424314780108030016683461562597569371539974003402697903023830108053034645133078208043917492087248958344081026378788915528519967248989338592027124423914083391771884524464968645052058218151010508471258285907685355807229880747677634789375⟩,
  ⟨0x203007, true, .bits32, .ro, 24, 0, 4294967295⟩,
  ⟨0x203008, true, .time96, .ro, 24, 0, 79228162514264337593543950335⟩,
  ⟨0x206001, true, .enum, .rw, 16, 1, 6⟩,
  ⟨0x206002, true, .u 4, .rw, 16, 0, 4294967295⟩,
  ⟨0x206003, true, .octets 64, .ro, 16, 0, 13407807929942597099574024998205846127479365820592393377723561443721764030073546976801874298166903427690031858186486050853753882811946569946433649006084095⟩]

/-- Objects of 0x2000 to 0x20FF, part 2. -/
def descs20_1 : List Desc := [
  ⟨0x206004, true, .cmd, .cmd, 16, 0, 4294967295⟩,
  ⟨0x207001, false, .enum, .ro, 11, 0, 255⟩,
  ⟨0x207002, false, .octets 60, .ro, 31, 0, 3121748550315992231381597229793166305748598142664971150859156959625371738819765620120306103063491971159826931121406622895447975679288285306290175⟩,
  ⟨0x207003, false, .u 2, .ro, 11, 0, 65535⟩,
  ⟨0x207004, false, .u 2, .ro, 11, 0, 65535⟩,
  ⟨0x207005, false, .u 2, .ro, 11, 0, 65535⟩,
  ⟨0x207006, false, .cmd, .cmd, 8, 0, 4294967295⟩,
  ⟨0x208001, true, .octets 32, .rw, 11, 0, 115792089237316195423570985008687907853269984665640564039457584007913129639935⟩,
  ⟨0x208002, true, .cmd, .cmd, 11, 0, 4294967295⟩,
  ⟨0x208003, true, .octets 1000, .ro, 11, 0, 173766203193809456599982445949435627061939786100117250547173286503262376022458008465094333630120854338003194362163007597987225472483598640843335685441710193966274131338557192586399006789292714554767500194796127964596906605976605873665859580600161998556511368530960400907199253450604168622770350228527124626728538626805418833470107651091641919900725415994689920112219170907023561354484047025713734651608777544579846111001059482132180956689444108315785401642188044178788629853592228467331730519810763559577944882016286493908631503101121166109571682295769470379514531105239965209245314082665518579335511291525230373316486697786532335206274149240813489201828773854353041855598709390675430960381072270432383913542702130202430186637321862331068861776780211082856984506050024895394320139435868484643843368002496089956046419964019877586845530207748994394501505588146979082629871366088121763790555364513243984244004147636040219136443410377798011608722717131323621700159335786445601947601694025107888293017058178562647175461026384343438874861406516767158373279032321096262126551620255666605185789463207944391905756886829667520553014724372245300878786091700563444079107099009003380230356461989260377273986023281444076082783406824471703499844642915587790146384758051663547775336021829171033411043796977042190519657861762804226147480755555085278062866268677842432851421790544407006581148631979148571299417963950579210719961422405768071335213324842709316205032078384168750091017964584060285240107161561019930505687950233196051962261970932008838279760834318101044311710769457048672103958655016388894770892065267451228938951370237422841366052736174160431593023473217066764172949768821843606479073866252864377064398085101223216558344281956767163876579889759124956035672317578122141070933058555310274598884089982879647974020264495921703064439532898207943134374576254840272047075633856749514044298135927611328433323640657533550512376900773273703275329924651465759145114579174356770593439987135755889403613364529029604049868233807295134382284730745937309910703657676103447124097631074153287120040247837143656624045055614076111832245239612708339272798262887437416818440064925049838443370805645609424314780108030016683461562597569371539974003402697903023830108053034645133078208043917492087248958344081026378788915528519967248989338592027124423914083391771884524464968645052058218151010508471258285907685355807229880747677634789375⟩,
  ⟨0x208004, true, .octets 1000, .ro, 11, 0, 173766203193809456599982445949435627061939786100117250547173286503262376022458008465094333630120854338003194362163007597987225472483598640843335685441710193966274131338557192586399006789292714554767500194796127964596906605976605873665859580600161998556511368530960400907199253450604168622770350228527124626728538626805418833470107651091641919900725415994689920112219170907023561354484047025713734651608777544579846111001059482132180956689444108315785401642188044178788629853592228467331730519810763559577944882016286493908631503101121166109571682295769470379514531105239965209245314082665518579335511291525230373316486697786532335206274149240813489201828773854353041855598709390675430960381072270432383913542702130202430186637321862331068861776780211082856984506050024895394320139435868484643843368002496089956046419964019877586845530207748994394501505588146979082629871366088121763790555364513243984244004147636040219136443410377798011608722717131323621700159335786445601947601694025107888293017058178562647175461026384343438874861406516767158373279032321096262126551620255666605185789463207944391905756886829667520553014724372245300878786091700563444079107099009003380230356461989260377273986023281444076082783406824471703499844642915587790146384758051663547775336021829171033411043796977042190519657861762804226147480755555085278062866268677842432851421790544407006581148631979148571299417963950579210719961422405768071335213324842709316205032078384168750091017964584060285240107161561019930505687950233196051962261970932008838279760834318101044311710769457048672103958655016388894770892065267451228938951370237422841366052736174160431593023473217066764172949768821843606479073866252864377064398085101223216558344281956767163876579889759124956035672317578122141070933058555310274598884089982879647974020264495921703064439532898207943134374576254840272047075633856749514044298135927611328433323640657533550512376900773273703275329924651465759145114579174356770593439987135755889403613364529029604049868233807295134382284730745937309910703657676103447124097631074153287120040247837143656624045055614076111832245239612708339272798262887437416818440064925049838443370805645609424314780108030016683461562597569371539974003402697903023830108053034645133078208043917492087248958344081026378788915528519967248989338592027124423914083391771884524464968645052058218151010508471258285907685355807229880747677634789375⟩,
  ⟨0x208005, true, .octets 1000, .ro, 11, 0, 173766203193809456599982445949435627061939786100117250547173286503262376022458008465094333630120854338003194362163007597987225472483598640843335685441710193966274131338557192586399006789292714554767500194796127964596906605976605873665859580600161998556511368530960400907199253450604168622770350228527124626728538626805418833470107651091641919900725415994689920112219170907023561354484047025713734651608777544579846111001059482132180956689444108315785401642188044178788629853592228467331730519810763559577944882016286493908631503101121166109571682295769470379514531105239965209245314082665518579335511291525230373316486697786532335206274149240813489201828773854353041855598709390675430960381072270432383913542702130202430186637321862331068861776780211082856984506050024895394320139435868484643843368002496089956046419964019877586845530207748994394501505588146979082629871366088121763790555364513243984244004147636040219136443410377798011608722717131323621700159335786445601947601694025107888293017058178562647175461026384343438874861406516767158373279032321096262126551620255666605185789463207944391905756886829667520553014724372245300878786091700563444079107099009003380230356461989260377273986023281444076082783406824471703499844642915587790146384758051663547775336021829171033411043796977042190519657861762804226147480755555085278062866268677842432851421790544407006581148631979148571299417963950579210719961422405768071335213324842709316205032078384168750091017964584060285240107161561019930505687950233196051962261970932008838279760834318101044311710769457048672103958655016388894770892065267451228938951370237422841366052736174160431593023473217066764172949768821843606479073866252864377064398085101223216558344281956767163876579889759124956035672317578122141070933058555310274598884089982879647974020264495921703064439532898207943134374576254840272047075633856749514044298135927611328433323640657533550512376900773273703275329924651465759145114579174356770593439987135755889403613364529029604049868233807295134382284730745937309910703657676103447124097631074153287120040247837143656624045055614076111832245239612708339272798262887437416818440064925049838443370805645609424314780108030016683461562597569371539974003402697903023830108053034645133078208043917492087248958344081026378788915528519967248989338592027124423914083391771884524464968645052058218151010508471258285907685355807229880747677634789375⟩,
  ⟨0x208006, true, .octets 1000, .ro, 11, 0, 173766203193809456599982445949435627061939786100117250547173286503262376022458008465094333630120854338003194362163007597987225472483598640843335685441710193966274131338557192586399006789292714554767500194796127964596906605976605873665859580600161998556511368530960400907199253450604168622770350228527124626728538626805418833470107651091641919900725415994689920112219170907023561354484047025713734651608777544579846111001059482132180956689444108315785401642188044178788629853592228467331730519810763559577944882016286493908631503101121166109571682295769470379514531105239965209245314082665518579335511291525230373316486697786532335206274149240813489201828773854353041855598709390675430960381072270432383913542702130202430186637321862331068861776780211082856984506050024895394320139435868484643843368002496089956046419964019877586845530207748994394501505588146979082629871366088121763790555364513243984244004147636040219136443410377798011608722717131323621700159335786445601947601694025107888293017058178562647175461026384343438874861406516767158373279032321096262126551620255666605185789463207944391905756886829667520553014724372245300878786091700563444079107099009003380230356461989260377273986023281444076082783406824471703499844642915587790146384758051663547775336021829171033411043796977042190519657861762804226147480755555085278062866268677842432851421790544407006581148631979148571299417963950579210719961422405768071335213324842709316205032078384168750091017964584060285240107161561019930505687950233196051962261970932008838279760834318101044311710769457048672103958655016388894770892065267451228938951370237422841366052736174160431593023473217066764172949768821843606479073866252864377064398085101223216558344281956767163876579889759124956035672317578122141070933058555310274598884089982879647974020264495921703064439532898207943134374576254840272047075633856749514044298135927611328433323640657533550512376900773273703275329924651465759145114579174356770593439987135755889403613364529029604049868233807295134382284730745937309910703657676103447124097631074153287120040247837143656624045055614076111832245239612708339272798262887437416818440064925049838443370805645609424314780108030016683461562597569371539974003402697903023830108053034645133078208043917492087248958344081026378788915528519967248989338592027124423914083391771884524464968645052058218151010508471258285907685355807229880747677634789375⟩,
  ⟨0x208007, true, .octets 1000, .ro, 11, 0, 173766203193809456599982445949435627061939786100117250547173286503262376022458008465094333630120854338003194362163007597987225472483598640843335685441710193966274131338557192586399006789292714554767500194796127964596906605976605873665859580600161998556511368530960400907199253450604168622770350228527124626728538626805418833470107651091641919900725415994689920112219170907023561354484047025713734651608777544579846111001059482132180956689444108315785401642188044178788629853592228467331730519810763559577944882016286493908631503101121166109571682295769470379514531105239965209245314082665518579335511291525230373316486697786532335206274149240813489201828773854353041855598709390675430960381072270432383913542702130202430186637321862331068861776780211082856984506050024895394320139435868484643843368002496089956046419964019877586845530207748994394501505588146979082629871366088121763790555364513243984244004147636040219136443410377798011608722717131323621700159335786445601947601694025107888293017058178562647175461026384343438874861406516767158373279032321096262126551620255666605185789463207944391905756886829667520553014724372245300878786091700563444079107099009003380230356461989260377273986023281444076082783406824471703499844642915587790146384758051663547775336021829171033411043796977042190519657861762804226147480755555085278062866268677842432851421790544407006581148631979148571299417963950579210719961422405768071335213324842709316205032078384168750091017964584060285240107161561019930505687950233196051962261970932008838279760834318101044311710769457048672103958655016388894770892065267451228938951370237422841366052736174160431593023473217066764172949768821843606479073866252864377064398085101223216558344281956767163876579889759124956035672317578122141070933058555310274598884089982879647974020264495921703064439532898207943134374576254840272047075633856749514044298135927611328433323640657533550512376900773273703275329924651465759145114579174356770593439987135755889403613364529029604049868233807295134382284730745937309910703657676103447124097631074153287120040247837143656624045055614076111832245239612708339272798262887437416818440064925049838443370805645609424314780108030016683461562597569371539974003402697903023830108053034645133078208043917492087248958344081026378788915528519967248989338592027124423914083391771884524464968645052058218151010508471258285907685355807229880747677634789375⟩,
  ⟨0x208008, true, .octets 1000, .ro, 11, 0, 173766203193809456599982445949435627061939786100117250547173286503262376022458008465094333630120854338003194362163007597987225472483598640843335685441710193966274131338557192586399006789292714554767500194796127964596906605976605873665859580600161998556511368530960400907199253450604168622770350228527124626728538626805418833470107651091641919900725415994689920112219170907023561354484047025713734651608777544579846111001059482132180956689444108315785401642188044178788629853592228467331730519810763559577944882016286493908631503101121166109571682295769470379514531105239965209245314082665518579335511291525230373316486697786532335206274149240813489201828773854353041855598709390675430960381072270432383913542702130202430186637321862331068861776780211082856984506050024895394320139435868484643843368002496089956046419964019877586845530207748994394501505588146979082629871366088121763790555364513243984244004147636040219136443410377798011608722717131323621700159335786445601947601694025107888293017058178562647175461026384343438874861406516767158373279032321096262126551620255666605185789463207944391905756886829667520553014724372245300878786091700563444079107099009003380230356461989260377273986023281444076082783406824471703499844642915587790146384758051663547775336021829171033411043796977042190519657861762804226147480755555085278062866268677842432851421790544407006581148631979148571299417963950579210719961422405768071335213324842709316205032078384168750091017964584060285240107161561019930505687950233196051962261970932008838279760834318101044311710769457048672103958655016388894770892065267451228938951370237422841366052736174160431593023473217066764172949768821843606479073866252864377064398085101223216558344281956767163876579889759124956035672317578122141070933058555310274598884089982879647974020264495921703064439532898207943134374576254840272047075633856749514044298135927611328433323640657533550512376900773273703275329924651465759145114579174356770593439987135755889403613364529029604049868233807295134382284730745937309910703657676103447124097631074153287120040247837143656624045055614076111832245239612708339272798262887437416818440064925049838443370805645609424314780108030016683461562597569371539974003402697903023830108053034645133078208043917492087248958344081026378788915528519967248989338592027124423914083391771884524464968645052058218151010508471258285907685355807229880747677634789375⟩]

/-- Objects of 0x2800 to 0x28FF, part 1. -/
def descs28_0 : List Desc := [
  ⟨0x280001, true, .enum, .ro, 9, 0, 255⟩,
  ⟨0x280002, true, .keyref, .ro, 1, 0, 4294967295⟩,
  ⟨0x280003, true, .u 1, .ro, 9, 0, 255⟩,
  ⟨0x280004, true, .enum, .ro, 9, 0, 255⟩,
  ⟨0x280005, true, .u 2, .ro, 9, 0, 65535⟩,
  ⟨0x280006, true, .bool, .ro, 9, 0, 1⟩,
  ⟨0x280007, true, .u 4, .ro, 9, 0, 4294967295⟩,
  ⟨0x280008, true, .enum, .ro, 9, 0, 255⟩,
  ⟨0x280009, true, .u 2, .ro, 9, 0, 65535⟩,
  ⟨0x28000A, true, .time96, .ro, 9, 0, 79228162514264337593543950335⟩,
  ⟨0x281001, true, .keyref, .rw, 1, 0, 4294967295⟩,
  ⟨0x281002, true, .octets 48, .wo, 1, 0, 39402006196394479212279040100143613805079739270465446667948293404245721771497210611414266254884915640806627990306815⟩,
  ⟨0x281003, true, .octets 32, .rw, 1, 0, 115792089237316195423570985008687907853269984665640564039457584007913129639935⟩,
  ⟨0x281004, true, .octets 64, .rw, 1, 0, 13407807929942597099574024998205846127479365820592393377723561443721764030073546976801874298166903427690031858186486050853753882811946569946433649006084095⟩,
  ⟨0x281005, true, .u 1, .rw, 1, 0, 64⟩,
  ⟨0x281006, true, .enum, .rw, 1, 0, 255⟩,
  ⟨0x281007, true, .u 1, .rw, 1, 1, 2⟩,
  ⟨0x281008, true, .u 4, .rw, 1, 0, 4294967295⟩,
  ⟨0x281009, true, .u 2, .rw, 1, 0, 65535⟩,
  ⟨0x28100A, true, .u 2, .rw, 1, 0, 65535⟩,
  ⟨0x28100B, true, .cmd, .cmd, 1, 0, 4294967295⟩,
  ⟨0x28100C, true, .keyref, .ro, 1, 0, 4294967295⟩,
  ⟨0x282001, false, .u 2, .ro, 11, 0, 65535⟩,
  ⟨0x282002, false, .u 4, .ro, 11, 0, 4294967295⟩]

/-- Objects of 0x2800 to 0x28FF, part 2. -/
def descs28_1 : List Desc := [
  ⟨0x282003, false, .u 4, .rw, 1, 100, 60000⟩,
  ⟨0x282004, false, .u 8, .ro, 11, 0, 18446744073709551615⟩,
  ⟨0x282005, false, .enum, .ro, 11, 0, 255⟩,
  ⟨0x282006, false, .u 8, .ro, 11, 0, 18446744073709551615⟩,
  ⟨0x282007, false, .u 4, .ro, 11, 0, 4294967295⟩,
  ⟨0x283001, false, .u 2, .rw, 3, 4, 1024⟩,
  ⟨0x283002, false, .u 4, .ro, 11, 0, 4294967295⟩,
  ⟨0x283003, false, .u 8, .ro, 11, 0, 18446744073709551615⟩,
  ⟨0x283004, false, .u 8, .ro, 11, 0, 18446744073709551615⟩,
  ⟨0x283005, false, .u 8, .ro, 11, 0, 18446744073709551615⟩,
  ⟨0x283006, false, .u 1, .ro, 11, 0, 255⟩,
  ⟨0x284001, true, .u 8, .ro, 9, 0, 18446744073709551615⟩]

/-- Objects of 0x3000 to 0x30FF. -/
def descs30 : List Desc := [
  ⟨0x300001, false, .time96, .ro, 27, 0, 79228162514264337593543950335⟩,
  ⟨0x300002, false, .i 8, .rw, 3, (-32768000000), 32768000000⟩,
  ⟨0x300003, false, .time96, .rw, 3, 0, 79228162514264337593543950335⟩,
  ⟨0x300004, false, .i 8, .rw, 3, (-9223372036854775808), 9223372036854775807⟩,
  ⟨0x300005, false, .i 8, .rw, 3, (-65536000000000), 65536000000000⟩,
  ⟨0x300006, false, .u 2, .rw, 3, 1, 1000⟩,
  ⟨0x300007, false, .cmd, .cmd, 3, 0, 4294967295⟩,
  ⟨0x300008, false, .i 8, .ro, 11, (-9223372036854775808), 9223372036854775807⟩,
  ⟨0x300009, false, .u 4, .ro, 11, 0, 4294967295⟩,
  ⟨0x30000A, false, .time96, .ro, 11, 0, 79228162514264337593543950335⟩,
  ⟨0x30000B, false, .enum, .ro, 31, 0, 255⟩,
  ⟨0x30000C, false, .i 4, .rw, 3, 0, 255⟩,
  ⟨0x30000D, false, .time96, .rw, 3, 0, 79228162514264337593543950335⟩,
  ⟨0x30000E, false, .enum, .rw, 3, 0, 2⟩]

/-- Objects of 0x3100 to 0x31FF. -/
def descs31 : List Desc := [
  ⟨0x310001, true, .i 4, .rw, 1, (-2147483648), 2147483647⟩,
  ⟨0x310002, true, .i 4, .rw, 1, (-2147483648), 2147483647⟩,
  ⟨0x310003, true, .i 4, .rw, 1, (-2147483648), 2147483647⟩,
  ⟨0x310004, true, .i 4, .rw, 1, (-2147483648), 2147483647⟩,
  ⟨0x310005, true, .i 4, .ro, 11, (-2147483648), 2147483647⟩,
  ⟨0x310006, true, .i 4, .ro, 11, (-2147483648), 2147483647⟩,
  ⟨0x310007, true, .cmd, .cmd, 3, 0, 4294967295⟩,
  ⟨0x310008, true, .time96, .ro, 11, 0, 79228162514264337593543950335⟩,
  ⟨0x310009, true, .bool, .ro, 11, 0, 1⟩,
  ⟨0x31000A, true, .i 4, .ro, 11, (-2147483648), 2147483647⟩]

/-- Objects of 0x3200 to 0x32FF. -/
def descs32 : List Desc := [
  ⟨0x320001, true, .enum, .rw, 3, 0, 2⟩,
  ⟨0x320002, true, .u 4, .rw, 3, 0, 20000⟩,
  ⟨0x320003, true, .u 8, .ro, 11, 0, 18446744073709551615⟩,
  ⟨0x320004, true, .u 8, .ro, 11, 0, 18446744073709551615⟩,
  ⟨0x320005, true, .u 8, .ro, 11, 0, 18446744073709551615⟩,
  ⟨0x320006, true, .u 8, .ro, 11, 0, 18446744073709551615⟩,
  ⟨0x320007, true, .u 8, .ro, 11, 0, 18446744073709551615⟩]

/-- Objects of 0x3300 to 0x33FF. -/
def descs33 : List Desc := [
  ⟨0x330001, false, .bool, .rw, 3, 0, 1⟩,
  ⟨0x330002, false, .u 4, .rw, 3, 100, 400000000⟩,
  ⟨0x330003, false, .i 4, .rw, 3, (-500000), 500000⟩,
  ⟨0x330004, false, .bool, .rw, 3, 0, 1⟩,
  ⟨0x330005, false, .bool, .rw, 3, 0, 1⟩,
  ⟨0x330006, false, .time96, .ro, 11, 0, 79228162514264337593543950335⟩,
  ⟨0x330007, false, .i 8, .ro, 11, (-9223372036854775808), 9223372036854775807⟩,
  ⟨0x330008, false, .bool, .ro, 11, 0, 1⟩,
  ⟨0x330009, false, .u 4, .ro, 11, 0, 4294967295⟩,
  ⟨0x33000A, false, .u 4, .ro, 11, 0, 4294967295⟩,
  ⟨0x33000B, false, .u 8, .ro, 11, 0, 18446744073709551615⟩,
  ⟨0x33000C, false, .u 4, .ro, 11, 0, 4294967295⟩,
  ⟨0x33000D, false, .i 4, .rw, 3, (-2147483648), 2147483647⟩,
  ⟨0x33000E, false, .i 4, .rw, 3, (-2147483648), 2147483647⟩,
  ⟨0x33000F, false, .u 1, .rw, 3, 0, 255⟩,
  ⟨0x330010, false, .enum, .ro, 11, 0, 255⟩,
  ⟨0x330011, false, .enum, .rw, 1, 0, 1⟩,
  ⟨0x330012, false, .u 2, .rw, 1, 0, 65535⟩,
  ⟨0x330013, false, .u 4, .rw, 1, 1000, 100000000⟩,
  ⟨0x330014, false, .bool, .ro, 11, 0, 1⟩,
  ⟨0x330015, false, .bool, .ro, 11, 0, 1⟩]

/-- Objects of 0x3400 to 0x34FF. -/
def descs34 : List Desc := [
  ⟨0x340001, true, .enum, .ro, 11, 0, 255⟩,
  ⟨0x340002, true, .enum, .ro, 11, 0, 255⟩,
  ⟨0x340003, true, .u 2, .ro, 11, 0, 65535⟩,
  ⟨0x340004, true, .u 4, .ro, 11, 0, 4294967295⟩,
  ⟨0x340005, true, .time96, .ro, 11, 0, 79228162514264337593543950335⟩,
  ⟨0x340006, true, .u 4, .ro, 11, 0, 4294967295⟩,
  ⟨0x340007, true, .u 4, .ro, 11, 0, 4294967295⟩,
  ⟨0x340008, true, .u 8, .ro, 11, 0, 18446744073709551615⟩,
  ⟨0x340009, true, .time96, .ro, 11, 0, 79228162514264337593543950335⟩,
  ⟨0x34000A, true, .bits32, .ro, 11, 0, 4294967295⟩,
  ⟨0x340101, false, .u 2, .ro, 11, 0, 65535⟩,
  ⟨0x340102, false, .u 2, .ro, 11, 0, 65535⟩,
  ⟨0x340103, false, .u 2, .ro, 11, 0, 65535⟩,
  ⟨0x340104, false, .u 4, .ro, 11, 0, 4294967295⟩,
  ⟨0x340105, false, .u 4, .ro, 11, 0, 4294967295⟩,
  ⟨0x340106, false, .bits32, .rw, 3, 0, 4294967295⟩,
  ⟨0x340107, false, .u 4, .ro, 11, 0, 4294967295⟩,
  ⟨0x340201, true, .u 4, .rw, 3, 0, 4294967295⟩]

/-- Objects of 0x3800 to 0x38FF, part 1. -/
def descs38_0 : List Desc := [
  ⟨0x380001, true, .enum, .ro, 11, 0, 255⟩,
  ⟨0x380002, true, .bool, .rws, 3, 0, 1⟩,
  ⟨0x380003, true, .bool, .rws, 3, 0, 1⟩,
  ⟨0x380004, true, .bits32, .rws, 3, 0, 4294967295⟩,
  ⟨0x380005, true, .bool, .ro, 11, 0, 1⟩,
  ⟨0x380006, true, .enum, .ro, 11, 0, 255⟩,
  ⟨0x380007, true, .u 2, .ro, 11, 0, 65535⟩,
  ⟨0x380008, true, .u 8, .ro, 11, 0, 18446744073709551615⟩,
  ⟨0x380009, true, .enum, .rws, 11, 0, 2⟩,
  ⟨0x38000A, true, .u 8, .ro, 11, 0, 18446744073709551615⟩,
  ⟨0x381001, true, .enum, .rws, 3, 0, 8⟩,
  ⟨0x381002, true, .u 2, .rws, 3, 1518, 12288⟩,
  ⟨0x381003, true, .enum, .rws, 3, 0, 2⟩,
  ⟨0x381004, true, .bits32, .rws, 3, 0, 4294967295⟩,
  ⟨0x381005, true, .octets 6, .rw, 3, 0, 281474976710655⟩,
  ⟨0x381006, true, .u 2, .rw, 3, 0, 65535⟩,
  ⟨0x381007, true, .time96, .rw, 3, 0, 79228162514264337593543950335⟩,
  ⟨0x381008, true, .bool, .rw, 3, 0, 1⟩,
  ⟨0x381009, true, .u 4, .rw, 3, 0, 100000⟩,
  ⟨0x38100A, true, .cmd, .cmd, 3, 0, 4294967295⟩,
  ⟨0x38100B, true, .u 4, .rw, 3, 0, 4294967295⟩,
  ⟨0x382001, true, .enum, .ro, 11, 0, 255⟩,
  ⟨0x382002, true, .u 8, .ro, 11, 0, 18446744073709551615⟩,
  ⟨0x382003, true, .u 8, .ro, 11, 0, 18446744073709551615⟩]

/-- Objects of 0x3800 to 0x38FF, part 2. -/
def descs38_1 : List Desc := [
  ⟨0x382004, true, .u 8, .ro, 11, 0, 18446744073709551615⟩,
  ⟨0x382005, true, .u 8, .ro, 11, 0, 18446744073709551615⟩,
  ⟨0x382006, true, .u 8, .ro, 11, 0, 18446744073709551615⟩,
  ⟨0x382007, true, .u 8, .ro, 11, 0, 18446744073709551615⟩,
  ⟨0x382008, true, .u 8, .ro, 11, 0, 18446744073709551615⟩,
  ⟨0x382009, true, .u 8, .ro, 11, 0, 18446744073709551615⟩,
  ⟨0x38200A, true, .u 8, .ro, 11, 0, 18446744073709551615⟩,
  ⟨0x38200B, true, .u 8, .ro, 11, 0, 18446744073709551615⟩,
  ⟨0x38200C, true, .u 8, .ro, 11, 0, 18446744073709551615⟩,
  ⟨0x38200D, true, .u 8, .ro, 11, 0, 18446744073709551615⟩,
  ⟨0x38200E, true, .u 8, .ro, 11, 0, 18446744073709551615⟩,
  ⟨0x38200F, true, .u 8, .ro, 11, 0, 18446744073709551615⟩,
  ⟨0x382010, true, .enum, .ro, 11, 0, 255⟩,
  ⟨0x382011, true, .bits32, .ro, 11, 0, 4294967295⟩,
  ⟨0x382012, true, .enum, .ro, 11, 0, 255⟩,
  ⟨0x382013, true, .u 8, .ro, 11, 0, 18446744073709551615⟩,
  ⟨0x382020, true, .u 8, .ro, 11, 0, 18446744073709551615⟩,
  ⟨0x382021, true, .u 8, .ro, 11, 0, 18446744073709551615⟩,
  ⟨0x382022, true, .u 8, .ro, 11, 0, 18446744073709551615⟩,
  ⟨0x382023, true, .u 8, .ro, 11, 0, 18446744073709551615⟩,
  ⟨0x382024, true, .u 8, .ro, 11, 0, 18446744073709551615⟩,
  ⟨0x382025, true, .u 8, .ro, 11, 0, 18446744073709551615⟩,
  ⟨0x382026, true, .u 8, .ro, 11, 0, 18446744073709551615⟩,
  ⟨0x382027, true, .u 8, .ro, 11, 0, 18446744073709551615⟩]

/-- Objects of 0x3800 to 0x38FF, part 3. -/
def descs38_2 : List Desc := [
  ⟨0x382028, true, .u 8, .ro, 11, 0, 18446744073709551615⟩,
  ⟨0x382029, true, .u 8, .ro, 11, 0, 18446744073709551615⟩,
  ⟨0x38202A, true, .u 8, .ro, 11, 0, 18446744073709551615⟩,
  ⟨0x38202B, true, .u 8, .ro, 11, 0, 18446744073709551615⟩,
  ⟨0x38202C, true, .u 8, .ro, 11, 0, 18446744073709551615⟩,
  ⟨0x38202D, true, .u 8, .ro, 11, 0, 18446744073709551615⟩,
  ⟨0x38202E, true, .u 8, .ro, 11, 0, 18446744073709551615⟩,
  ⟨0x38202F, true, .u 8, .ro, 11, 0, 18446744073709551615⟩,
  ⟨0x383001, true, .enum, .rw, 3, 0, 1⟩,
  ⟨0x383002, true, .bool, .rw, 3, 0, 1⟩,
  ⟨0x383003, true, .u 8, .ro, 11, 0, 18446744073709551615⟩,
  ⟨0x383004, true, .u 8, .ro, 11, 0, 18446744073709551615⟩,
  ⟨0x383005, true, .u 8, .ro, 11, 0, 18446744073709551615⟩,
  ⟨0x383006, true, .u 8, .ro, 11, 0, 18446744073709551615⟩]

/-- Objects of 0x4000 to 0x40FF. -/
def descs40 : List Desc := [
  ⟨0x400001, true, .bool, .rw, 3, 0, 1⟩,
  ⟨0x400002, true, .enum, .rw, 1, 1, 4⟩,
  ⟨0x400003, true, .enum, .rw, 1, 0, 3⟩,
  ⟨0x400004, true, .u 1, .rw, 3, 0, 2⟩,
  ⟨0x400005, true, .bool, .rw, 3, 0, 1⟩,
  ⟨0x400006, true, .u 4, .rw, 3, 0, 4294967295⟩,
  ⟨0x400007, true, .u 8, .rw, 3, 0, 18446744073709551615⟩,
  ⟨0x400008, true, .u 4, .rw, 3, 0, 1000000⟩,
  ⟨0x400009, true, .u 8, .ro, 15, 0, 18446744073709551615⟩,
  ⟨0x40000A, true, .u 8, .ro, 15, 0, 18446744073709551615⟩]

/-- Objects of 0x4100 to 0x41FF. -/
def descs41 : List Desc := [
  ⟨0x410001, true, .enum, .rw, 3, 0, 2⟩,
  ⟨0x410002, true, .u 2, .rw, 3, 0, 65535⟩,
  ⟨0x410003, true, .octets 8, .rw, 3, 0, 18446744073709551615⟩,
  ⟨0x410004, true, .u 2, .rw, 3, 0, 65535⟩,
  ⟨0x410005, true, .enum, .rw, 3, 0, 1⟩,
  ⟨0x410006, true, .bits32, .ro, 15, 0, 4294967295⟩,
  ⟨0x410007, true, .u 8, .ro, 15, 0, 18446744073709551615⟩,
  ⟨0x410008, true, .u 8, .ro, 15, 0, 18446744073709551615⟩,
  ⟨0x410009, true, .u 8, .ro, 15, 0, 18446744073709551615⟩,
  ⟨0x41000A, true, .u 8, .ro, 15, 0, 18446744073709551615⟩,
  ⟨0x41000B, true, .u 8, .ro, 15, 0, 18446744073709551615⟩]

/-- Objects of 0x4200 to 0x42FF. -/
def descs42 : List Desc := [
  ⟨0x420001, true, .enum, .ro, 15, 0, 255⟩,
  ⟨0x420002, true, .keyref, .rw, 1, 0, 4294967295⟩,
  ⟨0x420003, true, .octets 40, .wo, 1, 0, 2135987035920910082395021706169552114602704522356652769947041607822219725780640550022962086936575⟩,
  ⟨0x420004, true, .octets 12, .rw, 3, 0, 79228162514264337593543950335⟩,
  ⟨0x420005, true, .u 4, .rw, 3, 0, 4294967295⟩,
  ⟨0x420006, true, .u 8, .rw, 3, 1, 18446744073709551615⟩,
  ⟨0x420007, true, .octets 16, .rw, 3, 0, 340282366920938463463374607431768211455⟩,
  ⟨0x420008, true, .time96, .rw, 3, 0, 79228162514264337593543950335⟩,
  ⟨0x420009, true, .bool, .rw, 3, 0, 1⟩,
  ⟨0x42000A, true, .u 4, .rw, 3, 0, 4294967295⟩,
  ⟨0x42000B, true, .cmd, .cmd, 3, 0, 4294967295⟩,
  ⟨0x42000C, true, .u 8, .ro, 15, 0, 18446744073709551615⟩,
  ⟨0x42000D, true, .u 8, .ro, 15, 0, 18446744073709551615⟩,
  ⟨0x42000E, true, .u 4, .ro, 11, 0, 4294967295⟩,
  ⟨0x42000F, true, .bits32, .ro, 11, 0, 4294967295⟩,
  ⟨0x420010, true, .time96, .ro, 11, 0, 79228162514264337593543950335⟩,
  ⟨0x421001, true, .u 4, .ro, 15, 0, 4294967295⟩,
  ⟨0x421002, true, .u 4, .ro, 15, 0, 4294967295⟩,
  ⟨0x421003, true, .u 1, .ro, 15, 0, 255⟩,
  ⟨0x421004, true, .bool, .ro, 15, 0, 1⟩,
  ⟨0x421005, true, .bool, .rw, 3, 0, 1⟩,
  ⟨0x421006, true, .u 4, .ro, 15, 0, 4294967295⟩]

/-- Objects of 0x4400 to 0x44FF. -/
def descs44 : List Desc := [
  ⟨0x440001, true, .u 8, .ro, 15, 0, 18446744073709551615⟩,
  ⟨0x440002, true, .u 8, .ro, 15, 0, 18446744073709551615⟩,
  ⟨0x440003, true, .u 8, .ro, 15, 0, 18446744073709551615⟩,
  ⟨0x440004, true, .u 8, .ro, 15, 0, 18446744073709551615⟩,
  ⟨0x440005, true, .u 8, .ro, 15, 0, 18446744073709551615⟩,
  ⟨0x440006, true, .u 8, .ro, 15, 0, 18446744073709551615⟩]

/-- Objects of 0x4500 to 0x45FF. -/
def descs45 : List Desc := [
  ⟨0x450001, true, .enum, .rw, 3, 0, 2⟩,
  ⟨0x450002, true, .octets 8, .rw, 3, 0, 18446744073709551615⟩,
  ⟨0x450003, true, .u 8, .ro, 11, 0, 18446744073709551615⟩,
  ⟨0x450004, true, .u 8, .ro, 11, 0, 18446744073709551615⟩,
  ⟨0x450005, true, .u 8, .ro, 11, 0, 18446744073709551615⟩,
  ⟨0x450006, true, .u 8, .ro, 11, 0, 18446744073709551615⟩,
  ⟨0x450007, true, .u 8, .ro, 11, 0, 18446744073709551615⟩,
  ⟨0x450008, true, .u 8, .ro, 11, 0, 18446744073709551615⟩]

/-- Objects of 0x5000 to 0x50FF, part 1. -/
def descs50_0 : List Desc := [
  ⟨0x500001, true, .enum, .ro, 11, 0, 255⟩,
  ⟨0x500002, true, .octets 32, .ro, 11, 0, 115792089237316195423570985008687907853269984665640564039457584007913129639935⟩,
  ⟨0x500003, true, .enum, .ro, 11, 0, 255⟩,
  ⟨0x500004, true, .octets 32, .ro, 11, 0, 115792089237316195423570985008687907853269984665640564039457584007913129639935⟩,
  ⟨0x500005, true, .time96, .rw, 3, 0, 79228162514264337593543950335⟩,
  ⟨0x500006, true, .bool, .rw, 3, 0, 1⟩,
  ⟨0x500007, true, .u 4, .rw, 3, 0, 4294967295⟩,
  ⟨0x500008, true, .cmd, .cmd, 3, 0, 4294967295⟩,
  ⟨0x500009, true, .bits32, .ro, 11, 0, 4294967295⟩,
  ⟨0x50000A, true, .u 8, .ro, 11, 0, 18446744073709551615⟩,
  ⟨0x501001, true, .octets 8, .rwg, 3, 0, 18446744073709551615⟩,
  ⟨0x501002, true, .bool, .rwg, 3, 0, 1⟩,
  ⟨0x502001, true, .u 4, .rw, 3, 0, 2097152⟩,
  ⟨0x502002, true, .enum, .rw, 3, 0, 1⟩,
  ⟨0x502003, true, .bool, .rw, 3, 0, 1⟩,
  ⟨0x502004, true, .u 8, .ro, 15, 0, 18446744073709551615⟩,
  ⟨0x502005, true, .u 8, .ro, 15, 0, 18446744073709551615⟩,
  ⟨0x502006, true, .u 8, .ro, 15, 0, 18446744073709551615⟩,
  ⟨0x502007, true, .u 4, .ro, 15, 0, 4294967295⟩,
  ⟨0x502008, true, .cmd, .cmd, 3, 0, 4294967295⟩,
  ⟨0x503001, true, .u 2, .rw, 3, 0, 65535⟩,
  ⟨0x503002, true, .u 1, .rw, 3, 0, 7⟩,
  ⟨0x503003, true, .u 4, .rw, 3, 0, 4294967295⟩,
  ⟨0x503004, true, .bool, .rw, 3, 0, 1⟩]

/-- Objects of 0x5000 to 0x50FF, part 2. -/
def descs50_1 : List Desc := [
  ⟨0x503005, true, .enum, .ro, 11, 0, 255⟩,
  ⟨0x504001, true, .u 2, .rw, 3, 1, 1000⟩,
  ⟨0x504002, true, .u 2, .ro, 11, 0, 65535⟩,
  ⟨0x504003, true, .u 2, .ro, 11, 0, 65535⟩,
  ⟨0x504004, true, .u 2, .rw, 3, 512, 4096⟩,
  ⟨0x504005, true, .u 8, .ro, 11, 0, 18446744073709551615⟩,
  ⟨0x505001, true, .octets 24, .rw, 3, 0, 6277101735386680763835789423207666416102355444464034512895⟩,
  ⟨0x505002, true, .octets 8, .rw, 3, 0, 18446744073709551615⟩,
  ⟨0x505003, true, .cmd, .cmd, 3, 0, 4294967295⟩,
  ⟨0x505004, true, .bool, .ro, 3, 0, 1⟩,
  ⟨0x506001, true, .octets 24, .ro, 11, 0, 6277101735386680763835789423207666416102355444464034512895⟩,
  ⟨0x506002, true, .octets 8, .ro, 11, 0, 18446744073709551615⟩,
  ⟨0x507001, false, .u 2, .rw, 3, 0, 32767⟩,
  ⟨0x507002, false, .enum, .rw, 3, 0, 1⟩,
  ⟨0x507003, false, .octets 8, .rws, 1, 0, 18446744073709551615⟩,
  ⟨0x507004, false, .u 4, .ro, 11, 0, 4294967295⟩,
  ⟨0x507005, false, .u 8, .ro, 11, 0, 18446744073709551615⟩,
  ⟨0x507006, false, .u 8, .ro, 11, 0, 18446744073709551615⟩,
  ⟨0x507007, false, .u 8, .ro, 11, 0, 18446744073709551615⟩,
  ⟨0x507008, false, .u 8, .ro, 11, 0, 18446744073709551615⟩,
  ⟨0x507009, false, .u 8, .ro, 11, 0, 18446744073709551615⟩,
  ⟨0x50700A, false, .u 8, .ro, 11, 0, 18446744073709551615⟩,
  ⟨0x50700B, false, .u 8, .ro, 11, 0, 18446744073709551615⟩,
  ⟨0x50700C, false, .u 8, .ro, 11, 0, 18446744073709551615⟩]

/-- Objects of 0x5000 to 0x50FF, part 3. -/
def descs50_2 : List Desc := [
  ⟨0x50700D, false, .u 8, .ro, 11, 0, 18446744073709551615⟩]

/-- Objects of 0x5800 to 0x58FF, part 1. -/
def descs58_0 : List Desc := [
  ⟨0x580001, true, .u 2, .rwg, 3, 1, 4096⟩,
  ⟨0x580002, true, .i 4, .rwg, 3, (-64), 127⟩,
  ⟨0x580003, true, .u 4, .rw, 3, 0, 262144⟩,
  ⟨0x580004, true, .u 1, .rw, 3, 0, 255⟩,
  ⟨0x580005, true, .u 4, .rwg, 3, 0, 800000000⟩,
  ⟨0x580006, true, .u 4, .rwg, 3, 0, 16777216⟩,
  ⟨0x580007, true, .u 4, .rwg, 3, 0, 800000000⟩,
  ⟨0x580008, true, .u 4, .rwg, 3, 0, 16777216⟩,
  ⟨0x580009, true, .u 4, .rwg, 3, 0, 800000000⟩,
  ⟨0x58000A, true, .u 4, .rwg, 3, 0, 4294967295⟩,
  ⟨0x58000B, true, .u 4, .rwg, 3, 0, 800000000⟩,
  ⟨0x58000C, true, .u 4, .rwg, 3, 0, 4294967295⟩,
  ⟨0x58000D, true, .i 8, .ro, 11, (-9223372036854775808), 9223372036854775807⟩,
  ⟨0x58000E, true, .i 8, .ro, 11, (-9223372036854775808), 9223372036854775807⟩,
  ⟨0x58000F, true, .i 8, .ro, 11, (-9223372036854775808), 9223372036854775807⟩,
  ⟨0x580010, true, .i 8, .ro, 11, (-9223372036854775808), 9223372036854775807⟩,
  ⟨0x580011, true, .u 4, .ro, 15, 0, 4294967295⟩,
  ⟨0x580012, true, .u 2, .ro, 11, 0, 65535⟩,
  ⟨0x580013, true, .u 8, .ro, 15, 0, 18446744073709551615⟩,
  ⟨0x580014, true, .u 8, .ro, 15, 0, 18446744073709551615⟩,
  ⟨0x580015, true, .u 8, .ro, 15, 0, 18446744073709551615⟩,
  ⟨0x580016, true, .u 8, .ro, 15, 0, 18446744073709551615⟩,
  ⟨0x580017, true, .u 8, .ro, 15, 0, 18446744073709551615⟩,
  ⟨0x580018, true, .u 8, .ro, 15, 0, 18446744073709551615⟩]

/-- Objects of 0x5800 to 0x58FF, part 2. -/
def descs58_1 : List Desc := [
  ⟨0x580019, true, .u 8, .ro, 15, 0, 18446744073709551615⟩,
  ⟨0x588001, true, .u 2, .rwg, 3, 0, 4096⟩,
  ⟨0x588002, true, .u 8, .ro, 11, 0, 18446744073709551615⟩,
  ⟨0x588003, true, .u 4, .ro, 11, 0, 4294967295⟩,
  ⟨0x588004, true, .bool, .ro, 11, 0, 1⟩,
  ⟨0x588005, true, .u 8, .ro, 11, 0, 18446744073709551615⟩,
  ⟨0x588006, true, .u 8, .ro, 11, 0, 18446744073709551615⟩,
  ⟨0x58C001, true, .u 2, .rw, 1, 0, 5⟩,
  ⟨0x58C002, true, .u 4, .rws, 1, 0, 4294967295⟩,
  ⟨0x58C003, true, .u 4, .ro, 11, 0, 4294967295⟩,
  ⟨0x58C004, true, .u 4, .ro, 11, 0, 4294967295⟩,
  ⟨0x58E001, true, .u 2, .rws, 3, 0, 1000⟩,
  ⟨0x58E002, true, .u 4, .rws, 3, 0, 100000⟩,
  ⟨0x58E003, true, .u 4, .rw, 3, 64, 65536⟩,
  ⟨0x58E004, true, .u 4, .rw, 3, 16, 65536⟩,
  ⟨0x58E005, true, .u 4, .ro, 11, 0, 4294967295⟩,
  ⟨0x58E006, true, .u 4, .ro, 11, 0, 4294967295⟩,
  ⟨0x58E007, true, .u 4, .ro, 11, 0, 4294967295⟩,
  ⟨0x58E008, true, .u 8, .ro, 11, 0, 18446744073709551615⟩,
  ⟨0x58E009, true, .u 8, .ro, 11, 0, 18446744073709551615⟩,
  ⟨0x58F001, false, .u 1, .rw, 3, 0, 7⟩,
  ⟨0x58F002, false, .u 4, .rw, 3, 0, 4294967295⟩,
  ⟨0x58F003, false, .u 8, .ro, 11, 0, 18446744073709551615⟩]

/-- Objects of 0x5900 to 0x59FF. -/
def descs59 : List Desc := [
  ⟨0x590001, false, .u 4, .ro, 11, 0, 4294967295⟩,
  ⟨0x590002, false, .u 4, .ro, 11, 0, 4294967295⟩,
  ⟨0x590003, false, .u 4, .ro, 11, 0, 4294967295⟩,
  ⟨0x591001, true, .u 4, .ro, 11, 0, 4294967295⟩,
  ⟨0x591002, true, .enum, .ro, 11, 0, 255⟩,
  ⟨0x591003, true, .time96, .ro, 11, 0, 79228162514264337593543950335⟩,
  ⟨0x591004, true, .time96, .ro, 11, 0, 79228162514264337593543950335⟩,
  ⟨0x591005, true, .u 4, .ro, 11, 0, 4294967295⟩,
  ⟨0x591006, true, .bits32, .ro, 11, 0, 4294967295⟩,
  ⟨0x592001, true, .octets 64, .ro, 7, 0, 13407807929942597099574024998205846127479365820592393377723561443721764030073546976801874298166903427690031858186486050853753882811946569946433649006084095⟩,
  ⟨0x592002, true, .u 8, .ro, 7, 0, 18446744073709551615⟩,
  ⟨0x592003, true, .u 8, .ro, 7, 0, 18446744073709551615⟩,
  ⟨0x592004, true, .u 8, .ro, 7, 0, 18446744073709551615⟩,
  ⟨0x592005, true, .u 8, .ro, 7, 0, 18446744073709551615⟩,
  ⟨0x592006, true, .u 8, .ro, 7, 0, 18446744073709551615⟩,
  ⟨0x592007, true, .u 8, .ro, 7, 0, 18446744073709551615⟩,
  ⟨0x592008, true, .u 8, .ro, 7, 0, 18446744073709551615⟩]

/-- Objects of 0x6000 to 0x60FF, part 1. -/
def descs60_0 : List Desc := [
  ⟨0x600001, false, .u 4, .ro, 11, 0, 4294967295⟩,
  ⟨0x600002, false, .u 4, .ro, 11, 0, 4294967295⟩,
  ⟨0x600003, false, .u 4, .ro, 11, 0, 4294967295⟩,
  ⟨0x600004, false, .u 4, .ro, 11, 0, 4294967295⟩,
  ⟨0x600005, false, .u 4, .ro, 11, 0, 4294967295⟩,
  ⟨0x600006, false, .u 4, .ro, 11, 0, 4294967295⟩,
  ⟨0x600007, false, .u 4, .ro, 11, 0, 4294967295⟩,
  ⟨0x601001, false, .bits32, .ro, 11, 0, 4294967295⟩,
  ⟨0x601002, false, .u 4, .ro, 11, 0, 4294967295⟩,
  ⟨0x601003, false, .u 4, .ro, 11, 0, 4294967295⟩,
  ⟨0x601004, false, .u 4, .ro, 11, 0, 4294967295⟩,
  ⟨0x601005, false, .u 4, .ro, 11, 0, 4294967295⟩,
  ⟨0x601006, false, .u 4, .ro, 11, 0, 4294967295⟩,
  ⟨0x601007, false, .u 4, .ro, 11, 0, 4294967295⟩,
  ⟨0x602001, true, .enum, .ro, 11, 0, 255⟩,
  ⟨0x602002, true, .cmd, .cmd, 1, 0, 4294967295⟩,
  ⟨0x602003, true, .enum, .ro, 11, 0, 255⟩,
  ⟨0x602004, true, .u 2, .rw, 1, 1, 65535⟩,
  ⟨0x602005, true, .u 8, .ro, 11, 0, 18446744073709551615⟩,
  ⟨0x602006, true, .u 8, .ro, 11, 0, 18446744073709551615⟩,
  ⟨0x603001, false, .u 8, .ro, 11, 0, 18446744073709551615⟩,
  ⟨0x603002, false, .u 4, .ro, 11, 0, 4294967295⟩,
  ⟨0x603003, false, .u 4, .ro, 11, 0, 4294967295⟩,
  ⟨0x603004, false, .u 4, .ro, 11, 0, 4294967295⟩]

/-- Objects of 0x6000 to 0x60FF, part 2. -/
def descs60_1 : List Desc := [
  ⟨0x603005, false, .u 8, .ro, 11, 0, 18446744073709551615⟩,
  ⟨0x603006, false, .u 8, .ro, 11, 0, 18446744073709551615⟩,
  ⟨0x603007, false, .u 4, .rw, 1, 60, 86400⟩,
  ⟨0x603008, false, .u 8, .ro, 11, 0, 18446744073709551615⟩,
  ⟨0x603009, false, .u 4, .ro, 11, 0, 4294967295⟩,
  ⟨0x60300A, false, .u 4, .ro, 11, 0, 4294967295⟩,
  ⟨0x603801, true, .u 4, .ro, 11, 0, 4294967295⟩,
  ⟨0x603802, true, .time96, .ro, 11, 0, 79228162514264337593543950335⟩,
  ⟨0x603803, true, .enum, .ro, 11, 0, 255⟩,
  ⟨0x604001, true, .u 4, .rw, 27, 0, 4294967295⟩,
  ⟨0x604002, true, .u 1, .rw, 27, 1, 64⟩,
  ⟨0x604003, true, .octets 64, .rw, 27, 0, 13407807929942597099574024998205846127479365820592393377723561443721764030073546976801874298166903427690031858186486050853753882811946569946433649006084095⟩,
  ⟨0x604004, true, .cmd, .cmd, 27, 0, 4294967295⟩,
  ⟨0x605001, true, .enum, .ro, 11, 0, 255⟩,
  ⟨0x605002, true, .u 1, .ro, 11, 0, 255⟩,
  ⟨0x605003, true, .u 2, .ro, 11, 0, 65535⟩,
  ⟨0x605004, true, .u 2, .ro, 11, 0, 65535⟩,
  ⟨0x605005, true, .cmd, .cmd, 9, 0, 4294967295⟩,
  ⟨0x605801, false, .u 1, .rw, 1, 1, 255⟩]

/-- Objects of 0x6800 to 0x68FF. -/
def descs68 : List Desc := [
  ⟨0x680001, true, .enum, .ro, 11, 0, 255⟩,
  ⟨0x680002, true, .enum, .ro, 11, 0, 255⟩,
  ⟨0x680003, true, .u 2, .rw, 1, 0, 65535⟩,
  ⟨0x680004, true, .u 4, .rw, 1, 1, 3600000⟩,
  ⟨0x680005, true, .enum, .rw, 1, 3, 4⟩,
  ⟨0x680006, true, .u 8, .ro, 11, 0, 18446744073709551615⟩,
  ⟨0x680007, true, .time96, .ro, 11, 0, 79228162514264337593543950335⟩,
  ⟨0x680008, true, .cmd, .cmd, 3, 0, 4294967295⟩,
  ⟨0x688001, false, .bits32, .ro, 11, 0, 4294967295⟩,
  ⟨0x688002, false, .cmd, .cmd, 3, 0, 4294967295⟩,
  ⟨0x688003, false, .bool, .ro, 11, 0, 1⟩,
  ⟨0x688004, false, .u 4, .ro, 11, 0, 4294967295⟩,
  ⟨0x688005, false, .u 4, .ro, 11, 0, 4294967295⟩,
  ⟨0x688006, false, .enum, .rw, 3, 0, 4⟩,
  ⟨0x688007, false, .u 8, .ro, 11, 0, 18446744073709551615⟩,
  ⟨0x688008, false, .octets 64, .ro, 11, 0, 13407807929942597099574024998205846127479365820592393377723561443721764030073546976801874298166903427690031858186486050853753882811946569946433649006084095⟩,
  ⟨0x689001, true, .octets 64, .ro, 11, 0, 13407807929942597099574024998205846127479365820592393377723561443721764030073546976801874298166903427690031858186486050853753882811946569946433649006084095⟩]

/-- Objects of 0x6900 to 0x69FF. -/
def descs69 : List Desc := [
  ⟨0x690001, true, .enum, .ro, 11, 0, 255⟩,
  ⟨0x690002, true, .bool, .rw, 1, 0, 1⟩,
  ⟨0x690003, true, .i 4, .rw, 1, (-2147483648), 2147483647⟩,
  ⟨0x690004, true, .i 4, .rw, 1, (-2147483648), 2147483647⟩,
  ⟨0x690005, true, .u 2, .rw, 1, 1, 255⟩,
  ⟨0x690006, true, .u 4, .rw, 1, 1, 3600000⟩,
  ⟨0x690007, true, .i 4, .ro, 11, (-2147483648), 2147483647⟩,
  ⟨0x690008, true, .enum, .ro, 11, 0, 255⟩,
  ⟨0x690009, true, .u 8, .ro, 11, 0, 18446744073709551615⟩,
  ⟨0x69000A, true, .bool, .rw, 1, 0, 1⟩,
  ⟨0x69000B, true, .bool, .rw, 1, 0, 1⟩,
  ⟨0x698001, true, .octets 32, .ro, 11, 0, 115792089237316195423570985008687907853269984665640564039457584007913129639935⟩,
  ⟨0x699001, false, .u 4, .ro, 11, 0, 4294967295⟩,
  ⟨0x699002, false, .u 4, .ro, 11, 0, 4294967295⟩,
  ⟨0x699003, false, .octets 32, .ro, 11, 0, 115792089237316195423570985008687907853269984665640564039457584007913129639935⟩]

/-- Objects of 0x7000 to 0x70FF. -/
def descs70 : List Desc := [
  ⟨0x700001, true, .bool, .rw, 3, 0, 1⟩,
  ⟨0x700002, true, .u 2, .rw, 3, 0, 65535⟩,
  ⟨0x700003, true, .u 8, .rw, 15, 0, 281474976710655⟩,
  ⟨0x700004, true, .u 8, .ro, 15, 0, 18446744073709551615⟩,
  ⟨0x700005, true, .bool, .rw, 3, 0, 1⟩,
  ⟨0x700006, true, .bits32, .rw, 3, 0, 4294967295⟩,
  ⟨0x700007, true, .u 4, .rw, 3, 0, 4294967295⟩,
  ⟨0x700008, true, .u 4, .rw, 3, 0, 4294967295⟩,
  ⟨0x700009, true, .bits32, .rw, 3, 0, 4294967295⟩,
  ⟨0x70000A, true, .bits32, .rw, 3, 0, 4294967295⟩,
  ⟨0x70000B, true, .u 2, .rw, 1, 0, 65535⟩,
  ⟨0x70000C, true, .bool, .rw, 1, 0, 1⟩,
  ⟨0x70000D, true, .bool, .rw, 3, 0, 1⟩,
  ⟨0x70000E, true, .bool, .rw, 3, 0, 1⟩,
  ⟨0x70000F, true, .bits32, .rw, 11, 0, 4294967295⟩,
  ⟨0x700010, true, .octets 32, .ro, 11, 0, 115792089237316195423570985008687907853269984665640564039457584007913129639935⟩,
  ⟨0x708001, false, .u 1, .rw, 3, 0, 63⟩]

/-- Objects of 0x7800 to 0x78FF. -/
def descs78 : List Desc := [
  ⟨0x780001, false, .bits32, .rw, 3, 0, 4294967295⟩,
  ⟨0x780002, false, .keyref, .rw, 1, 0, 4294967295⟩,
  ⟨0x780003, false, .u 1, .rw, 3, 1, 31⟩,
  ⟨0x780004, false, .bool, .rw, 3, 0, 1⟩,
  ⟨0x780005, false, .bits32, .ro, 11, 0, 4294967295⟩,
  ⟨0x780006, false, .u 8, .ro, 11, 0, 18446744073709551615⟩,
  ⟨0x780007, false, .u 8, .ro, 11, 0, 18446744073709551615⟩,
  ⟨0x780008, false, .u 8, .ro, 11, 0, 18446744073709551615⟩,
  ⟨0x780009, false, .u 8, .ro, 11, 0, 18446744073709551615⟩]

/-- The records of the page (index / 256) an index lies in. -/
def descPage (page : Nat) : List Desc :=
  if page = 0x10 then descs10_0 ++ descs10_1 else
  if page = 0x14 then descs14_0 ++ descs14_1 ++ descs14_2 else
  if page = 0x18 then descs18_0 ++ descs18_1 else
  if page = 0x20 then descs20_0 ++ descs20_1 else
  if page = 0x28 then descs28_0 ++ descs28_1 else
  if page = 0x30 then descs30 else
  if page = 0x31 then descs31 else
  if page = 0x32 then descs32 else
  if page = 0x33 then descs33 else
  if page = 0x34 then descs34 else
  if page = 0x38 then descs38_0 ++ descs38_1 ++ descs38_2 else
  if page = 0x40 then descs40 else
  if page = 0x41 then descs41 else
  if page = 0x42 then descs42 else
  if page = 0x44 then descs44 else
  if page = 0x45 then descs45 else
  if page = 0x50 then descs50_0 ++ descs50_1 ++ descs50_2 else
  if page = 0x58 then descs58_0 ++ descs58_1 else
  if page = 0x59 then descs59 else
  if page = 0x60 then descs60_0 ++ descs60_1 else
  if page = 0x68 then descs68 else
  if page = 0x69 then descs69 else
  if page = 0x70 then descs70 else
  if page = 0x78 then descs78 else
  []

/-- The records of one index, in subindex order. -/
def descsOf (index : Nat) : List Desc := (descPage (index / 256)).filter (fun e => e.obj / 256 == index)

/-- The record of one object. -/
def descOf (obj : Nat) : Option Desc := (descPage (obj / 65536)).find? (fun e => e.obj == obj)

end Sys2Proof.Machine
end

