-- ==== Sys2Proof/Machine/Defaults.lean ====
section
/-!
DEFINITION. The defaults of the dictionary's objects (R39): what each object reads on entry to BOOT. Objects that read
zero are not named. The file is one function per page of the index range.
-/
namespace Sys2Proof.Machine

/-- The owners of the buffer partitions (R265). -/
def bufpOwnerDflt (r : Nat) : Nat :=
  if r = 0 then 1 else if r = 1 then 2 else if r = 2 then 2 else if r = 3 then 3 else if r < 8 then 0 else 1

/-- The sizes of the buffer partitions (R265); row 0 is computed when it is read. -/
def bufpSizeDflt (r : Nat) : Nat := if r = 3 then 4096 else if 8 ≤ r ∧ r < 16 then 2048 else 0

/-- The partition of SRAM macro `m`, coded as the subindices of 0x6000 (R406). -/
def sramPartition (m : Nat) : Nat :=
  if m < 96 then 1 else if m < 224 then 2 else if m < 288 then 3 else if m < 336 then 4 else if m < 352 then 5 else 6

/-- The kind of environment channel `c` (R382, R390): 0 voltage, 1 clock, 2 temperature, 3 gradient, 4 tamper. -/
def monKind (c : Nat) : Nat :=
  if c < 6 then 0 else if c < 9 then 1 else if c = 9 then 2 else if c = 11 then 3 else 4

/-- The default limits and heat of R384 and R390. -/
def monLoDflt (c : Nat) : Nat :=
  if monKind c = 0 then toTwos 32 (-60) else if monKind c = 1 then toTwos 32 (-2000) else 0

def monHiDflt (c : Nat) : Nat :=
  if monKind c = 0 then 60 else if monKind c = 1 then 2000 else if monKind c = 2 then 1680 else
  if monKind c = 3 then 30 else 0

def monNDflt (c : Nat) : Nat :=
  if monKind c = 0 then 4 else if monKind c = 1 then 2 else if monKind c = 4 then 1 else 3

/-- Defaults of 0x1000 to 0x10FF other than zero. -/
def dflt10 (o : Nat) : Nat :=
  if o = O.BOOT_RESET_CAUSE then 1 else
  if o = O.BOOT_EPOCH then 65535 else
  if o = O.FW_STAGE_TARGET then 255 else
  if o = O.VENDOR_NAME then leNat (asciiBytes "Ehruc Microsystems") else
  0

/-- Defaults of 0x1400 to 0x14FF other than zero. -/
def dflt14 (o r : Nat) : Nat :=
  if o = O.LOCK_LEASE_MS then 10000 else
  if o = O.RING_POSITION then 254 else
  if o = O.RING_SESSION_IDLE_S then 60 else
  if o = O.RING_SIZE then 256 else
  if o = O.RING_BUF_MAX then 16384 else
  if o = O.RING_IRQ_COUNT then 1 else
  if o = O.PUNT_RING then 255 else
  if o = O.PUNT_RATE_PPS then 10000 else
  if o = O.RING_VECTOR then r else
  if o = O.INJECT_CLEAR_ETHERTYPES then 0x88CC888E else
  0

/-- Defaults of 0x1800 to 0x18FF other than zero. -/
def dflt18 (o : Nat) : Nat :=
  if o = O.MODE then 2 else
  if o = O.MODE_CAUSE then 1 else
  if o = O.DRAIN_FLUSH_US then 2000 else
  if o = O.SLICE_STATE then 1 else
  if o = O.RUNAHEAD_ENABLE then 1 else
  if o = O.RUNAHEAD_DEPTH_CELLS then 4 else
  if o = O.BANK_SUBST_CORE then 255 else
  if o = O.BANK_STRIKE_LIMIT then 2 else
  if o = O.BANK_STRIKE_WINDOW_MS then 1000 else
  if o = O.BANK_KAT_INTERVAL_MS then 100 else
  0

/-- Defaults of 0x2000 to 0x20FF other than zero. -/
def dflt20 (o : Nat) : Nat :=
  if o = O.LC_PENDING then 255 else
  if o = O.ATT_EPOCH then 65535 else
  0

/-- Defaults of 0x2800 to 0x28FF other than zero. -/
def dflt28 (o : Nat) : Nat :=
  if o = O.VAULT_ARG_LEVEL then 1 else
  if o = O.VAULT_ARG_KEY_BITS then 256 else
  if o = O.VAULT_FREE_SLOTS then 1020 else
  if o = O.VAULT_SCRUB_MS then 1000 else
  if o = O.LA_SLICE_KIB then 64 else
  if o = O.LA_STAGING_KIB then 2048 else
  0

/-- Defaults of 0x3000 to 0x30FF other than zero. -/
def dflt30 (o : Nat) : Nat :=
  if o = O.PHC_SLEW_PPM then 100 else
  if o = O.PHC_UTC_OFFSET then 37 else
  0

/-- Defaults of 0x3100 to 0x31FF: the factory values of OTP, as I32 (R116). -/
def dflt31 (o r : Nat) : Nat :=
  if O.TS_RX_BASE ≤ o ∧ o ≤ O.TS_TX_TEMPCO then Config.factoryTs r (o - O.TS_RX_BASE) % 2 ^ 32 else 0

/-- Defaults of 0x3300 to 0x33FF other than zero. -/
def dflt33 (o : Nat) : Nat :=
  if o = O.PPS_OUT_WIDTH_NS then 100000000 else
  if o = O.TIME_FOLLOW_GAIN then 4096 else
  if o = O.TIME_FOLLOW_STEP_NS then 1000000 else
  0

/-- Defaults of 0x3400 to 0x34FF other than zero. -/
def dflt34 (o r : Nat) : Nat :=
  if o = O.GUN_FREE_LAP then 4 else
  if o = O.GUN_FREE_HANDOVER then 768 else
  if o = O.GUN_FREE_SHARED then 252 else
  if o = O.GUN_POOL then (if r < 4 then 0 else if r < 772 then 1 else 2) else
  0

/-- Defaults of 0x3800 to 0x38FF other than zero. -/
def dflt38 (o r : Nat) : Nat :=
  if o = O.LANE_TX_EQ then 63488 else
  if o = O.PORT_MAX_FRAME then 12288 else
  if o = O.PORT_FAULT_PARTNER then 65535 else
  if o = O.PORT_RECAL_GUARD_NS then 2000 else
  if o = O.PORT_FEC_UNCORR_LIMIT then 1 else
  if o = O.PORT_MAC_ADDR then 0x02 + r * 2 ^ 40 else
  0

/-- Defaults of 0x4000 to 0x40FF other than zero. -/
def dflt40 (o : Nat) : Nat :=
  if o = O.CA_CIPHERSUITE then 4 else
  if o = O.CA_CONFIDENTIALITY then 1 else
  if o = O.CA_REPLAY_PROTECT then 1 else
  if o = O.CA_STOP_HOLD_US then 1000 else
  0

/-- Defaults of 0x4100 to 0x41FF other than zero. -/
def dflt41 (o : Nat) : Nat :=
  if o = O.SC_PORT then 65535 else
  0

/-- Defaults of 0x4200 to 0x42FF other than zero. -/
def dflt42 (o : Nat) : Nat :=
  if o = O.SA_INIT_PN then 1 else
  if o = O.SA_SLOT then 4294967295 else
  if o = O.SCSA_SLOT0_ROW then 4294967295 else
  if o = O.SCSA_SLOT1_ROW then 4294967295 else
  if o = O.SCSA_IN_FORCE_AN then 255 else
  if o = O.SCSA_EARLY_ON_STOP then 1 else
  0

/-- Defaults of 0x4500 to 0x45FF other than zero. -/
def dflt45 (o r : Nat) : Nat :=
  if o = O.MP_EAPOL then (if r < 32 then 0 else 1) else
  0

/-- Defaults of 0x5000 to 0x50FF other than zero. -/
def dflt50 (o r : Nat) : Nat :=
  if o = O.CALLROOM_TIMEOUT_US then 20 else
  if o = O.RXSC_HOST_PORT then 65535 else
  if o = O.RXSC_RETURN_SC then 4294967295 else
  if o = O.CLS_AGE_S then 300 else
  if o = O.LEARN_LIMIT then 4096 else
  if o = O.CALLROOM_XOFF_THRESHOLD then 3584 else
  if o = O.PROFILE_FIELDS then (if r = 14 then 0x0619 else 0) else
  if o = O.PROFILE_PORT then (if r = 14 then 0 else 1) else
  0

/-- Defaults of 0x5800 to 0x58FF other than zero. -/
def dflt58 (o r : Nat) : Nat :=
  if o = O.QUEUE_WEIGHT then 64 else
  if o = O.QUEUE_RESERVE then 255 else
  if o = O.PACER_CBS then 16384 else
  if o = O.PACER_PBS then 16384 else
  if o = O.POL_CBS then 16384 else
  if o = O.POL_PBS then 16384 else
  if o = O.QUEUE_NODE then 65535 else
  if o = O.BUF_CABLE_M then 100 else
  if o = O.BUF_PARTNER_NS then 2000 else
  if o = O.BUF_LL_XOFF_CELLS then 1024 else
  if o = O.BUF_LL_XON_GAP then 128 else
  if o = O.BUF_ALPHA_SHIFT then 1 else
  if o = O.BUF_YELLOW_FREE_CELLS then 32768 else
  if o = O.QUEUE_OVERHEAD then (if r % 2 = 0 then 52 else 20) else
  if o = O.BUFP_OWNER then bufpOwnerDflt r else
  if o = O.BUFP_SIZE_CELLS then bufpSizeDflt r else
  0

/-- Defaults of 0x6000 to 0x60FF other than zero. -/
def dflt60 (o r : Nat) : Nat :=
  if o = O.PART_SA_CONTEXT_KIB then 24576 else
  if o = O.PART_FRAME_BUFFER_KIB then 32768 else
  if o = O.PART_CLASS_CACHE_KIB then 16384 else
  if o = O.PART_QUEUE_STATE_KIB then 12288 else
  if o = O.PART_TREE_CACHE_KIB then 4096 else
  if o = O.PART_HUB_KIB then 8192 else
  if o = O.PART_TOTAL_KIB then 98304 else
  if o = O.MEM_CH_RETIRE_UNCORR then 16 else
  if o = O.MEM_SCRUB_S then 3600 else
  if o = O.MEM_WIN_LEN then 64 else
  if o = O.SRAM_SPARES_LEFT then 8 else
  if o = O.SRAM_SPARE_CORRECTED then 4 else
  if o = O.SRAM_PARTITION then sramPartition r else
  0

/-- Defaults of 0x6800 to 0x68FF other than zero. -/
def dflt68 (o : Nat) : Nat :=
  if o = O.FLT_SRC_CLASS then 255 else
  if o = O.FLT_SRC_CAP then 3 else
  if o = O.FLT_SRC_N then 16 else
  if o = O.FLT_SRC_W_MS then 1000 else
  0

/-- Defaults of 0x6900 to 0x69FF other than zero. -/
def dflt69 (o r : Nat) : Nat :=
  if o = O.MON_ENABLE then 1 else
  if o = O.MON_ACTIVE_HIGH then 1 else
  if o = O.MON_KIND then monKind r else
  if o = O.MON_LIMIT_LO then monLoDflt r else
  if o = O.MON_LIMIT_HI then monHiDflt r else
  if o = O.MON_HEAT_N then monNDflt r else
  if o = O.MON_HEAT_W_MS then (if monKind r = 2 ∨ monKind r = 3 then 60000 else 1000) else
  0

/-- Defaults of 0x7000 to 0x70FF other than zero. -/
def dflt70 (o : Nat) : Nat :=
  if o = O.PMC_CLASS_MASK then 255 else
  if o = O.PMC_RANGE_HI then 4294967295 else
  if o = O.PMC_ROLE_MASK then 63 else
  if o = O.PMC_MASTER_MASK then 15 else
  if o = O.PMC_TENANT then 65535 else
  0

/-- Defaults of 0x7800 to 0x78FF other than zero. -/
def dflt78 (o : Nat) : Nat :=
  if o = O.PEER_HOPS then 31 else
  0

/-- What object `o` reads in row `r` when nothing has changed it (R39, and the Default columns). -/
def dfltOf (o r : Nat) : Nat :=
  let p := o / 65536
  if p = 0x10 then dflt10 o else
  if p = 0x14 then dflt14 o r else
  if p = 0x18 then dflt18 o else
  if p = 0x20 then dflt20 o else
  if p = 0x28 then dflt28 o else
  if p = 0x30 then dflt30 o else
  if p = 0x31 then dflt31 o r else
  if p = 0x33 then dflt33 o else
  if p = 0x34 then dflt34 o r else
  if p = 0x38 then dflt38 o r else
  if p = 0x40 then dflt40 o else
  if p = 0x41 then dflt41 o else
  if p = 0x42 then dflt42 o else
  if p = 0x45 then dflt45 o r else
  if p = 0x50 then dflt50 o r else
  if p = 0x58 then dflt58 o r else
  if p = 0x60 then dflt60 o r else
  if p = 0x68 then dflt68 o else
  if p = 0x69 then dflt69 o r else
  if p = 0x70 then dflt70 o else
  if p = 0x78 then dflt78 o else
  0

end Sys2Proof.Machine
end

