-- ==== Sys2Proof/Machine/Sparse.lean ====
section
/-!
DEFINITION. Tables held as plain data: a list of (key, value) pairs in one canonical form, keys strictly rising and no
entry equal to what an unlisted key reads as. The dictionary, memory, flash and every table of the device are held so;
equal tables are equal lists.
-/
namespace Sys2Proof.Machine.Sparse

variable {α : Type}

/-- What key `k` reads as; an unlisted key reads `dflt k`. -/
def get (dflt : Nat → α) : List (Nat × α) → Nat → α
  | [], k => dflt k
  | e :: r, k => if e.1 = k then e.2 else get dflt r k

/-- The list with `(k, v)` put before the first larger key. -/
def ins (k : Nat) (v : α) : List (Nat × α) → List (Nat × α)
  | [] => [(k, v)]
  | e :: r => if k < e.1 then (k, v) :: e :: r else e :: ins k v r

/-- The list without key `k`. -/
def erase (k : Nat) : List (Nat × α) → List (Nat × α)
  | [] => []
  | e :: r => if e.1 = k then erase k r else e :: erase k r

/-- Write `v` at key `k`. Writing what an unlisted key reads as removes the entry. -/
def put [DecidableEq α] (dflt : Nat → α) (l : List (Nat × α)) (k : Nat) (v : α) : List (Nat × α) :=
  if v = dflt k then erase k l else ins k v (erase k l)

/-- Keys strictly rising, all above `lo`. -/
def risingAbove : Option Nat → List (Nat × α) → Bool
  | _, [] => true
  | lo, e :: r => (match lo with | none => true | some x => decide (x < e.1)) && risingAbove (some e.1) r

/-- The canonical form. -/
def wf [DecidableEq α] (dflt : Nat → α) (l : List (Nat × α)) : Bool :=
  risingAbove none l && l.all (fun e => decide (e.2 ≠ dflt e.1))

end Sys2Proof.Machine.Sparse
end

