-- ==== Sys2Proof/Machine/State.lean ====
section
/-!
DEFINITION. The state of the ISF3232: the device, as plain data, and the queue of waiting commands.
Everything the dictionary shows lives in `Device.dict`, one number per object and row; what it does not show stands in
the typed fields below. The marks and log entries are those of notes/assumptions.
-/
namespace Sys2Proof.Machine

/-- The two parts (R1). -/
inductive Part where
  | isf3232 | isf3216
deriving DecidableEq, Repr

/-- The six modes (R79). -/
inductive Mode where
  | reset | boot | stage | run | drain | safe
deriving DecidableEq, Repr

/-- A change of PHC value or rate that waits for its cell boundary (R139). `delta` and `value` are in 2⁻¹⁶ ns. -/
inductive PhcChange where
  | set (value : Nat)
  | step (delta : Int)
  | slew (delta : Int) (ppm : Nat)
  | slewStop
  | freqAdj (adj : Int)
deriving DecidableEq, Repr

/-- The PHC (R110 to R112). `acc` counts 2⁻¹⁶ ns / 1,250,000,000, so that the increments of R111 and R112 on one slice
edge are whole numbers; `slewRem` is in the same unit, and so are `jumps`, the sum of all steps, which residence times leave
out (R113). `pend` holds the changes on their way, with the cycle of each. -/
structure Clock where
  acc : Nat
  jumps : Int
  adj : Int
  slewRem : Int
  slewPpm : Nat
  pend : List (Nat × PhcChange)
deriving DecidableEq, Repr

/-- The edge of the last step: its cycle and the PHC value that edge would have had without it (R140). -/
structure StepEdge where
  cyc : Nat
  without : Nat
deriving DecidableEq, Repr

/-- What a session row holds that the dictionary does not show (R63 to R67, R70, R344): nonces, key, the cycle at which
an OPENING row is freed, the cycle of the last accepted request, the cached response, the counter of the device's own
messages, the generation of the row, and the identifier whose proof did not come within its second (R63; 0 none). -/
structure SessX where
  nm : Nat
  nd : Nat
  ks : Nat
  openBy : Nat
  lastAt : Nat
  cache : Bytes
  evCounter : Nat
  gen : Nat
  timedOut : Nat
deriving DecidableEq, Repr

/-- An empty session row. -/
def SessX.empty : SessX := ⟨0, 0, 0, 0, 0, [], 0, 0, 0⟩

/-- A write in a commit group's shadow (R47). -/
structure ShadowWrite where
  addr : AddrBlock
  val : Bytes
deriving DecidableEq, Repr

/-- What a commit group holds besides its objects: the shadow, and the gun entry it has armed (R46, R47). -/
structure GroupX where
  shadow : List ShadowWrite
  entry : Option Nat
deriving DecidableEq, Repr

/-- An idle group. -/
def GroupX.empty : GroupX := ⟨[], none⟩

/-- What leaves the device: the model's own record of it, newest last (log entry 4). A `hostWrite` puts `data` at a host
address; `descriptor` are bytes 8 to 11 and 16 to 31 of the descriptor it belongs to, where it has one. -/
inductive Out where
  | resp (m : Master) (session abort : Nat) (value : Bytes)
  | ringMsg (m : RingMsg)
  | ringForward (m : RingMsg)
  | peer (lane : Nat) (m : PeerMsg)
  | frame (port : Nat) (data : Bytes) (fcs : Nat) (fcsGood : Bool) (stamp : Nat)
  | truncated (port : Nat)
  | macControl (port : Nat) (data : Bytes)
  | msix (entry address data : Nat)
  | hostWrite (ring address : Nat) (data descriptor : Bytes)
  | completion (ring status length : Nat) (kind : Bytes)
  | aperture (offset : Nat) (abort : Bool) (data : Bytes)
  | tapOut (v : Nat)
  | boundary (chain : Nat)
  | tod (data : Bytes)
  | pin (name : String) (level : Option Bool)
deriving DecidableEq, Repr

/-- The ring receiver and transmitter (R52 to R56): the cycle since which the lock has held and since which idle sets
have been sent, the cycle at which RING_HOLD rose and whether JOIN has been sent since, the messages waiting for
insertion, the cycle at which an insertion ends, the characters in the insertion buffer, and the upstream status byte. -/
structure RingX where
  lockedSince : Nat
  idleSince : Nat
  holdSince : Nat
  joined : Bool
  insertQ : List RingMsg
  insertUntil : Nat
  buffered : Nat
  upStatus : Nat
deriving DecidableEq, Repr

/-- The progress of the boot sequence (R87): PLLs locked, DRBG instantiated, Sydin image settled, memory trained, lanes
calibrated, and the failures of the entropy start-up tests in a row. -/
structure BootX where
  plls : Bool
  drbg : Bool
  image : Bool
  memory : Bool
  serdes : Bool
  entropyFails : Nat
deriving DecidableEq, Repr

/-- A PCIe request window's registers (R70). -/
structure WinReg where
  address : Nat
  session : Nat
  length : Nat
  op : Nat
  busy : Bool
  abort : Nat
  value : Bytes
deriving DecidableEq, Repr

/-- An untouched window. -/
def WinReg.empty : WinReg := ⟨0, 0, 0, 0, false, 0, []⟩

/-- What the device writes into a descriptor it completes (R73): status, bytes transferred, bytes 16 to 31. -/
structure Completion where
  status : Nat
  length : Nat
  kind : Bytes
deriving DecidableEq, Repr

/-- A descriptor taken and not yet completed: the frame or job it belongs to, and how it ended once it has. -/
structure TakenDesc where
  tag : Nat
  fin : Option Completion
deriving DecidableEq, Repr

/-- What a DMA ring holds besides its objects (R74): completions not yet signalled and the cycle of the oldest, the fault
records that wait for a descriptor of an event ring, each with the cycle of its event (R117, R378), the descriptors taken and not yet completed in their order, and
whether the ring stops once they are. -/
structure DmaX where
  unsignalled : Nat
  oldest : Nat
  events : List (Nat × Bytes)
  taken : List TakenDesc
  stopping : Bool
deriving DecidableEq, Repr

/-- An idle ring. -/
def DmaX.empty : DmaX := ⟨0, 0, [], [], false⟩

/-- The host port besides its objects: windows, the MSI-X table (R69, R75: address and data of each entry, mask bits, pending
bits, the enable and the function mask of the capability), the ring served last (R74). -/
structure PcieX where
  windows : List (Nat × WinReg)
  dma : List (Nat × DmaX)
  masked : Nat
  pendBits : Nat
  lastServed : Nat
  vectors : List (Nat × Nat)
  msixOn : Bool
  funcMask : Bool
deriving DecidableEq, Repr

/-- The TAP instructions of R76. -/
inductive Tap where
  | bypass | idcode | sample | extest | dapAccess
deriving DecidableEq, Repr

/-- JTAG (R76, R77): the current instruction, the boundary chain, the DAP data register, the value buffer and the abort
of the last request. -/
structure JtagX where
  tap : Tap
  chain : Nat
  dr : Nat
  buf : List (Nat × Nat)
  abort : Nat
deriving DecidableEq, Repr

/-- The pins the device reads or drives besides frames and messages. A pin the device does not drive is `none`. -/
structure Pins where
  pwrGood : Bool
  resetN : Bool
  ringHold : Option Bool
  timeHold : Option Bool
  ppsOut : Bool
  thermN : Bool
  ringReady : Bool
deriving DecidableEq, Repr

/-- A vault slot besides its objects (R287 to R289): the 32 key bytes, the generation, which outlives the key, and the
check code. -/
structure VaultX where
  key : Bytes
  gen : Nat
  check : Nat
deriving DecidableEq, Repr

/-- A slot that has never been filled. -/
def VaultX.empty : VaultX := ⟨[], 0, 0⟩

/-- A provisioned SA record (R217): the SAK wrapped under the SA storage key, its length, and what the context needs; the
ciphersuite it was provisioned under (R231); `bad` says that its line fails verification. -/
structure SaRec where
  wrapped : Bytes
  keyBits : Nat
  suite : Nat
  salt : Nat
  ssci : Nat
  initPn : Nat
  bad : Bool
deriving DecidableEq, Repr

/-- The zero record. -/
def SaRec.empty : SaRec := ⟨[], 0, 0, 0, 0, 0, false⟩

/-- A resident SA context (R290). -/
structure SaCtx where
  sak : Bytes
  h : List Nat
  ivBase : Nat
  pn : Nat
  gap : Nat
  attr : Nat
  check : Nat
deriving DecidableEq, Repr

/-- An empty resident slot. -/
def SaCtx.empty : SaCtx := ⟨[], [], 0, 0, 0, 0, 0⟩

/-- A key-schedule cache entry (R204): the resident slot and the key its round keys were expanded from. The list of a
bank is in order of use, oldest first. -/
structure CacheEnt where
  slot : Nat
  key : Bytes
deriving DecidableEq, Repr

/-- A keystream cell held for a retrial (R207): the core sampled, the frame, the cell, whether it was computed ahead, and
whether the retrial has been issued. -/
structure Held where
  core : Nat
  frame : Nat
  cell : Nat
  ahead : Bool
  issued : Bool
deriving DecidableEq, Repr

/-- What a turn of a bank computes (R200): a demand cell, a run-ahead cell, or one block on one core, for a retrial or a
known-answer test. -/
inductive TurnKind where
  | demand
  | ahead
  | retrial (core : Nat)
  | kat (core : Nat)
deriving DecidableEq, Repr

/-- A turn issued: its cycle, its kind, and the frame and keystream cell it is for. -/
structure Turn where
  at_ : Nat
  kind : TurnKind
  frame : Nat
  cell : Nat
deriving DecidableEq, Repr

/-- A takeover in progress (R210): the core, the cycle of its cell boundary, the fault code it is reported with, the turns
whose blocks of that core are issued again, and how many of them are still to be issued. -/
structure Takeover where
  core : Nat
  at_ : Nat
  cause : Nat
  redo : List Turn
  left : Nat
deriving DecidableEq, Repr

/-- A cipher bank besides its objects (R198 to R210): the LFSR with the cycle of its last reseed, the strikes (core and
cycle), the key-schedule cache, the slots whose load is in progress with the cycle it begins, the mismatches that wait for
their retrials, the takeover in progress, the cycle of each core's last known-answer test, the turns of the last 15 clocks,
newest first, and the ports served last by demand and by run-ahead. -/
structure BankX where
  lfsr : Nat
  lfsrAt : Nat
  strikes : List (Nat × Nat)
  cache : List CacheEnt
  loads : List (Nat × Nat)
  held : List Held
  takeover : Option Takeover
  katAt : List (Nat × Nat)
  turns : List Turn
  lastPort : Nat
  lastAhead : Nat
deriving DecidableEq, Repr

/-- An idle bank. -/
def BankX.empty : BankX := ⟨0, 0, [], [], [], [], none, [], [], 63, 63⟩

/-- Where a frame stands in its pipeline (R147, R148). -/
inductive Stage where
  | parked      -- in the call room, its lookup outstanding (R157)
  | waiting     -- in the call room behind a parked frame (R158)
  | queued      -- in its tenant or inject queue (E6, D5)
  | started     -- chosen by the scheduler, before the ordering point (E7 to E9) or before its keystream (D6)
  | sending     -- its cells are going to the egress MAC (E12 on, D8 on)
  | tail        -- all cells applied, GHASH finished, the ICV to be compared (decrypt)
  | punt        -- waits for a punt descriptor (R165)
  | late        -- late at D4, its key load still to be checked (R185)
deriving DecidableEq, Repr

/-- Where a buffer cell came from (R266, R271). -/
inductive CellSrc where
  | part (row : Nat)
  | shared
  | lossless
  | slack
  | headroom
deriving DecidableEq, Repr

/-- A buffer cell as its frame holds it (R144, R266): its handle, the partition it came from, and its link word: the handle of
the frame's next cell (0 while there is none), the count of its valid bytes (0 for 128), and the parity of the two. -/
structure Cell where
  handle : Nat
  src : CellSrc
  next : Nat
  valid : Nat
  parity : Bool
deriving DecidableEq, Repr

/-- The kind of a GCM context entry (R199); code 3 is reserved. -/
inductive CtxKind where
  | assigned | predicted | decrypt
deriving DecidableEq, Repr

/-- A GCM context entry (R199): 512 bits, of which the bank resumes a frame between any two of its cells. -/
structure GcmCtx where
  iv : Nat
  nextCounter : Nat
  tagMask : Nat
  ghashX : Nat
  aadBytes : Nat
  textBytes : Nat
  saRow : Nat
  port : Nat
  kind : CtxKind
  key256 : Bool
  encrypt : Bool
  offset : Nat
  pn : Nat
deriving DecidableEq, Repr

/-- The order that a frame in the overtake log stands in (R159, R164): its SC, its tenant queue when it is clear, its reason
when it is punted; none for a frame that is dropped. -/
inductive OrderSet where
  | sc (n : Nat)
  | clear (q : Nat)
  | punt (reason : Nat)
  | none
deriving DecidableEq, Repr

/-- A run-ahead prediction (R154): the provisioned row, the PN, and the cells computed. -/
structure Pred where
  sa : Nat
  pn : Nat
  cells : Nat
deriving DecidableEq, Repr

/-- The external read of a parked frame, as it was granted (R237): whether both buckets verified, the result of the matching way,
and the buckets that have been written since. -/
structure LookupRead where
  ok : Bool
  result : Option Nat
  stale : List Nat
deriving DecidableEq, Repr

/-- A frame in flight and its context (R145, R199).
Arrival: the direction, the ingress port (the egress port for an injected frame), the bytes its cells hold, L (R100),
whether it ends in error, whether it has been counted as oversize, whether a cell of it was lost while it was parked (R170), its receive timestamp with and without the steps of the PHC (2⁻¹⁶ ns), the cycle of cell 0 and of
its last byte, TC_MODE of its port.
Classification: key, profile and flag word, what its lookup returned (nothing while it is outstanding), the cycle it was
parked, policy protect, the tenant, SC, egress port and class, the reason of a punt.
Protection: SecTAG and ICV as received or sent, clear tags, SA row and its resident slot, PN, e bit, confidentiality offset, IV, the powers of H,
the key its keystream is made with, the resident slot whose load it waits for, its GCM context entry, the bytes its GHASH
aligner carries (R202), its prediction until E10, whether one was made, keystream cells computed, the cycle it was started,
the cycle it passed the ordering point, the last cell (plus one) counted as stalled, and whether a received one has committed
or failed.
Sending: stage, the buffer cells it holds and how many it has taken in all, the bytes it sends before its FCS as far as they
have passed E12 or D8, cells past E12 or D8, cells handed to the egress MAC, whether it is poisoned, a scheduled departure
with whether it has been met, whether its correction saturated, and the clock without steps at which its first bit left the
egress MAC (2⁻¹⁶ ns).
The rest: its colour, the inject ring and whether its descriptor is complete, and the move flag of
the baton its commit sends. -/
structure Frame where
  id : Nat
  decrypt : Bool
  port : Nat
  data : Bytes
  len : Nat
  bad : Bool
  tooLong : Bool
  spoiled : Bool
  stamp : Nat
  base : Int
  arrival : Nat
  ends : Nat
  tc : Nat
  stage : Stage
  key : Nat
  profile : Nat
  flags : Nat
  looked : Option (Option Nat)
  learnSeen : Option (Option Nat)
  parkedAt : Option Nat
  read : Option LookupRead
  prot : Bool
  secTag : Bytes
  icv : Bytes
  clear : Nat
  ca : Nat
  sc : Nat
  sa : Nat
  slot : Nat
  pn : Nat
  enc : Bool
  offset : Nat
  iv : Nat
  h : List Nat
  schedKey : Option Bytes
  wait : Option Nat
  ctx : Option GcmCtx
  carry : Bytes
  pred : Option Pred
  predicted : Bool
  turns : Nat
  started : Nat
  ordered : Option Nat
  stalled : Nat
  settled : Bool
  committed : Bool
  egress : Nat
  cls : Nat
  yellow : Bool
  saf : Bool
  cells : List Cell
  taken : Nat
  full : Bytes
  applied : Nat
  sent : Nat
  poison : Bool
  depart : Option Nat
  tcDone : Bool
  tcSat : Bool
  txAt : Option Int
  reason : Nat
  ring : Option Nat
  done : Bool
  learn : Option Nat
deriving DecidableEq, Repr

/-- A classification entry (R235): key and result as numbers, the key in network order; for a learned entry the SC_PORT of
the receive SC that learned it, which its count goes by (R245). -/
structure ClsEnt where
  key : Nat
  result : Nat
  port : Nat
deriving DecidableEq, Repr

/-- An empty way. -/
def ClsEnt.empty : ClsEnt := ⟨0, 0, 0⟩

/-- A WRITE that waits for the insert engine (R241): the staging row, key and result. -/
structure InsJob where
  row : Nat
  key : Nat
  result : Nat
deriving DecidableEq, Repr

/-- Classification and learning besides their objects: the table by position 4 × bucket + way; for each cache frame twice
the bucket it holds plus two, and one more when its bits have changed; the insert engine's work; the index of the aging
scan's next visit, counted over all passes; the learned counts by port and CA (R245); the baton queue, each with whether
it came over the Peer Link (R248); the Peer Link's sequence number and one more than the last of each origin (R249); and by
table position the result that a cached way shows where its bits differ from the external copy (R237). -/
structure ClsX where
  table : List (Nat × ClsEnt)
  cache : List (Nat × Nat)
  jobs : List InsJob
  scan : Nat
  counts : List (Nat × Nat)
  batons : List (Bool × Bytes)
  peerSeq : Nat
  peerLast : List (Nat × Nat)
  shown : List (Nat × Nat)
deriving DecidableEq, Repr

/-- The four bucket levels of a tenant queue in 2⁻³² byte with the residue of the gain (R259), the cycle they are up to
date at, and the tags of R257 with the node they belong to, the last one the queue was active in (0xFFFF none). The committed
and peak pacer buckets come first, then those of the policer. -/
structure QueueX where
  levels : List Int
  residue : List Nat
  at_ : Nat
  start : Nat
  finish : Nat
  node : Nat
  active : Bool
  frames : List Nat
  shared : Nat
deriving DecidableEq, Repr

/-- A tenant queue that has carried nothing since BOOT: each level at its bucket's default size (R259, R263), and the finish
tag that R258 has brought it to. -/
def QueueX.idle (finish : Nat) : QueueX :=
  ⟨[16384 * 2 ^ 32, 16384 * 2 ^ 32, 16384 * 2 ^ 32, 16384 * 2 ^ 32], [0, 0, 0, 0], 0, 0, finish, 0xFFFF, false, [], 0⟩

/-- A port-class node besides its objects: the largest finish tag, the node's own tags at its port with whether it is
active there, and the inject queue (R255 to R257). -/
structure NodeX where
  fmax : Nat
  start : Nat
  finish : Nat
  active : Bool
  inject : List Nat
deriving DecidableEq, Repr

/-- An untouched node. -/
def NodeX.empty : NodeX := ⟨0, 0, 0, false, []⟩

/-- The lap counters of one queue (R275, R280). -/
structure LapCnt where
  protFrames : Nat
  protBytes : Nat
  polFrames : Nat
  polBytes : Nat
  othFrames : Nat
  othBytes : Nat
  excess : Nat
deriving DecidableEq, Repr

/-- Nothing counted. -/
def LapCnt.zero : LapCnt := ⟨0, 0, 0, 0, 0, 0, 0⟩

/-- A closed lap while it is written back (R276, R280): sequence number, minute, flags, PHC at its two edges, and the bank. -/
structure ClosedLap where
  seq : Nat
  minute : Nat
  flags : Nat
  start : Nat
  stop : Nat
  bank : List (Nat × LapCnt)
deriving DecidableEq, Repr

/-- The metering unit besides its objects (R275 to R280): the open lap's counters by queue, its sequence number, flags
and start; the closed lap being written back; the cycle of the last close; the history by lap slot and queue; and the
leap flag of the minute that each live gun entry of the lap pool ends. -/
structure LapX where
  open_ : List (Nat × LapCnt)
  seq : Nat
  flags : Nat
  start : Nat
  closing : Option ClosedLap
  closeAt : Option Nat
  history : List (Nat × LapCnt)
  leap : List (Nat × Nat)
deriving DecidableEq, Repr

/-- The fault collector besides its objects (R367 to R370, R375): the number of the next record, the event history of every
source (source and slice cycle, newest first), stamp and number of the last record, and the classes each source holds
latched (source, mask of classes). -/
structure FaultX where
  seq : Nat
  events : List (Nat × Nat)
  lastEdge : Option (Nat × Nat)
  held : List (Nat × Nat)
deriving DecidableEq, Repr

/-- A gun entry besides its objects (R134 to R142): the cycle at which it was armed and whether it was armed late. -/
structure GunX where
  armedAt : Nat
  late : Bool
deriving DecidableEq, Repr

/-- A port besides its objects (R96 to R109): what it receives, the cycle until which each class is paused by the
partner, the causes that hold each class toward the partner (bit 0 lossless pair, 1 call room, 2 staging, 3 drain,
4 recalibration) with the cycle of the last XOFF, the cycle of freeze of a running window, and the uncorrected
codewords of a PHC second. -/
structure PortX where
  rx : RxState
  pausedTo : List (Nat × Nat)
  holds : List (Nat × Nat)
  xoffAt : List (Nat × Nat)
  windowAt : Nat
  frozen : Bool
  fecSecond : Nat
  fecCount : Nat
  fecRaised : Bool
deriving DecidableEq, Repr

/-- An untouched port. -/
def PortX.empty : PortX := ⟨.noSignal, [], [], [], 0, false, 0, 0, false⟩

/-- The cells of a lossless (port, class) pair (R266, R267). -/
structure PairX where
  shared : Nat
  slack : Nat
  headroom : Nat
  refused : Bool
deriving DecidableEq, Repr

/-- An empty pair. -/
def PairX.empty : PairX := ⟨0, 0, 0, false⟩

/-- Performance counters besides their objects (R396, R397): samples to be captured (row, cycle of the overflow) and the
rows whose captured sample has not been read; the fifth parts of a Hub clock that slice clocks have left over; the
cells that have passed the cell stage of each slice-direction and have not been matched with a clock (R400). -/
structure PmcX where
  due : List (Nat × Nat)
  unread : List Nat
  hubPhase : Nat
  cells : List (Nat × Nat)
deriving DecidableEq, Repr

/-- The key store besides its objects (R283, R284, R289, R291, R298): the slots, the per-boot check key and SA storage key, the
start-up tests failed in a row, the cycle until which the DRBG serves while its source restarts, the next place of the scrubber and
the cycle its pass began at, and the cycle of the last reseed with the requests since. -/
structure KeysX where
  vault : List (Nat × VaultX)
  checkKey : Bytes
  storeKey : Bytes
  entropyFails : Nat
  restartBy : Nat
  scrubAt : Nat
  scrubFrom : Nat
  reseedAt : Nat
  requests : Nat
deriving DecidableEq, Repr

/-- The SA store (R217): provisioned records by row, resident contexts by slot. `holdUntil` is the cycle at which the
hold of a stopped SC ends, by SC row (R183); `lastPn` the last PN the SC assigned. -/
structure SasX where
  recs : List (Nat × SaRec)
  ctxs : List (Nat × SaCtx)
  holdUntil : List (Nat × Nat)
  lastPn : List (Nat × Nat)
deriving DecidableEq, Repr

/-- The pipelines (R144 to R170): the frames in flight in order of arrival, the next frame number, the parser programs
by slice (active, and shadow), the overtake log (port, what it is compared by, frame number, which rises with arrival), the
punts counted in each PHC second (reason, second, count), the last protected SC of each host port for R154, the port each
slice-direction served last, the transmit credit of each port in tenths of a byte with its cycle (R256), each port's virtual
time and largest finish tag, for each slice-direction the first cycle in which it may start another frame, the buffer handles
that have been returned, oldest first, and the first one never used (R144), the cells in the ingress staging of each
slice-direction with the cycle they are counted at (R270), and the finish tag of the queues that have carried nothing
(R258). -/
structure PipeX where
  frames : List Frame
  nextId : Nat
  active : List (Nat × List Nat)
  shadow : List (Nat × List Nat)
  shadowImage : List (Nat × Nat)
  overtake : List (Nat × OrderSet × Nat)
  punts : List (Nat × Nat × Nat)
  lastSc : List (Nat × Nat)
  served : List (Nat × Nat)
  credit : List (Nat × Int × Nat)
  portV : List (Nat × Nat × Nat)
  startAt : List (Nat × Nat)
  freed : List Nat
  nextCell : Nat
  staged : List (Nat × Nat × Nat)
  idleTag : Nat
deriving DecidableEq, Repr

/-- What a memory request asks for: the read of a protected line and what it brings, a full-line write, a partial write, a visit
of the scrubber, or the two buckets of a parked frame's lookup. -/
inductive MemOp where
  | lineRead (p : Nat) (o : LineOutcome)
  | fullLine (p : Nat) (v : Bytes)
  | partialWrite (o : Nat) (v : Bytes) (r : LineOutcome)
  | scrub (c line word : Nat) (o : ScrubOutcome)
  | lookup (id : Nat)
deriving DecidableEq, Repr

/-- A memory request (R23): the channels it needs, its class, what it asks for, and how many grants of its channels have gone to
other classes while it waits. -/
structure MemReq where
  chans : List Nat
  cls : Nat
  op : MemOp
  passed : Nat
deriving DecidableEq, Repr

/-- External memory and its protection (R312 to R334): the plaintext of the byte regions by protected offset; the counter
of each data line and of each node line by physical key; the poisoned protected lines, each with the counter its data is
encrypted under; the lines and nodes that are read-only; the general area of the tree cache, least recently used first,
each node with its dirty flag; how many of its lines are lost; the keys of the boot; the uncorrectable codewords of a PHC
second by channel; the channels out of calibration with the cycle; the channel being retired, whether that is forced, and
whether the rehash has ended; the nodes whose lines fail in memory; how many lines of the retired stripe had been copied when
the channel failed; the requests that wait for a grant (R23), oldest first; the cycle at which the scrubber's pass began; and whether the keys are
zeroized (R339). -/
structure MemX where
  cells : List Host.Cell
  ctr : List (Nat × Nat)
  nodeCtr : List (Nat × Nat)
  poisoned : List (Nat × Nat)
  frozen : List Nat
  cached : List (Nat × Bool)
  lostLines : Nat
  kEnc : Nat
  kTwk : Nat
  kMac : Nat
  uncorr : List (Nat × Nat × Nat)
  calib : List (Nat × Nat)
  retiring : Option (Nat × Bool)
  switched : Bool
  badNodes : List Nat
  copied : Nat
  waiting : List MemReq
  scrubFrom : Nat
  zeroed : Bool
deriving DecidableEq, Repr

/-- Life-cycle state that no OTP bit holds (R339, R342): TEST_UNLOCKED in force, and a rebuild that has not ended. -/
structure LcX where
  unlocked : Bool
  rebuilding : Bool
deriving DecidableEq, Repr

/-- Firmware besides its objects (R354, R356, R358): the slot of the staged manifest, the seven measured digests, and the
slot a hot activation in progress starts. -/
structure FwX where
  staged : Option Nat
  measured : List Nat
  hot : Option Nat
deriving DecidableEq, Repr

/-- Attestation besides its objects (R359 to R362): whether a bottom tree is being built at boot, the next bottom leaf, and
the session rows whose SIGN waits for a build. -/
structure AttX where
  leaf : Nat
  waiting : List Nat
deriving DecidableEq, Repr

/-- On-chip SRAM (R20, R404 to R406): the rows spared and the rows retired (macro and row), the buffer cells lost, the
resident slots and the classification cache frames withheld, and the words marked unusable (macro, row and word). -/
structure SramX where
  lostCells : Nat
  spared : List (Nat × Nat)
  retired : List (Nat × Nat)
  slots : List Nat
  frames : List Nat
  unusable : List (Nat × Nat × Nat)
deriving DecidableEq, Repr

/-- Network time besides its objects (R116, R127 to R132): the phase measured at each port (receive, transmit); the cycle
of the last PPS_OUT edge, the PHC up to which its instants have been seen, the cycle of its fall, and of the ToD message that follows it; the number of the next ToD message; the
cycle of the last accepted PPS_IN edge, the second a ToD message has named with its cycle, the cycle of the last change of
the delay selection, the accepted edges in a row within 16 ns, the cycle of the last valid
edge; and the cycle at which the change of a PHC_CMD in progress acts (R139). -/
structure TimeX where
  phase : List (Nat × Int × Int)
  ppsAt : Option Nat
  ppsSeen : Nat
  ppsFall : Option Nat
  todDue : Option Nat
  todSeq : Nat
  inAt : Option Nat
  named : Option (Nat × Nat)
  selAt : Nat
  lockRun : Nat
  validAt : Option Nat
  cmdAt : Option Nat
deriving DecidableEq, Repr

/-- Monitors besides their objects (R385, R387): the number of the next entry, the events of the tamper channels (channel
and cycle), stamp and number of the last entry, and of each channel that has been beyond its limit the regions and the
cycle of its last sample beyond. -/
structure MonX where
  seq : Nat
  events : List (Nat × Nat)
  lastEdge : Option (Nat × Nat)
  beyond : List (Nat × Nat × Nat × Nat)
deriving DecidableEq, Repr

/-- A lookaside job in its context (R301): ring, core, vault slot, working key, mode, op, pad, the descriptor's address,
length and kind bytes, the parameter block, source and additional data, the bytes processed in all, and whether it has
yielded. -/
structure LaJob where
  ring : Nat
  core : Nat
  slot : Nat
  key : Bytes
  mode : Nat
  op : Nat
  pad : Nat
  addr : Nat
  kind : Bytes
  params : LaParams
  src : Bytes
  aad : Bytes
  done : Nat
  yielded : Bool
deriving DecidableEq, Repr

/-- The lookaside engine (R301): its jobs in the order they took a context, the ring served last, and the zeroizations that report
their completion after running jobs (R300): the row of VAULT_CMD, whether it is ZEROIZE_ALL, and the rings whose jobs run. -/
structure LaX where
  jobs : List LaJob
  last : Nat
  zeroing : List (Nat × Bool × List Nat)
deriving DecidableEq, Repr

/-- The device. `clockOn` says that the slice clocks run, `resetLatch` is the reset-cause latch (R85),
`acqAt` the cycle at which each lane's acquisition began (R96), `drainAt` the cycle at which DRAIN closed admission (R83). -/
structure Device where
  part : Part
  mode : Mode
  clockOn : Bool
  boot : BootX
  resetLatch : Nat
  cyc : Nat
  clk : Clock
  edge : StepEdge
  draws : Nat
  dict : List (Nat × Nat)
  out : List Out
  sess : List (Nat × SessX)
  proofFails : List (Transport × Nat)
  lockoutUntil : List (Transport × Nat)
  lockRenewed : Nat
  groups : List (Nat × GroupX)
  ring : RingX
  pcie : PcieX
  jtag : JtagX
  pins : Pins
  acqAt : List (Nat × Nat)
  drainAt : Nat
  gunSeq : Nat
  guns : List (Nat × GunX)
  faults : FaultX
  keys : KeysX
  sas : SasX
  banks : List (Nat × BankX)
  pipe : PipeX
  clsx : ClsX
  queues : List (Nat × QueueX)
  nodes : List (Nat × NodeX)
  pairs : List (Nat × PairX)
  ports : List (Nat × PortX)
  laps : LapX
  pmc : PmcX
  mem : MemX
  otp : List (Nat × Nat)
  flash : List (Nat × Nat)
  lc : LcX
  fw : FwX
  att : AttX
  sram : SramX
  time : TimeX
  mon : MonX
  la : LaX
deriving DecidableEq, Repr

/-- External memory before any key is drawn. -/
def MemX.empty : MemX :=
  { cells := [], ctr := [], nodeCtr := [], poisoned := [], frozen := [], cached := [], lostLines := 0, kEnc := 0, kTwk := 0,
    kMac := 0, uncorr := [], calib := [], retiring := none, switched := false, badNodes := [], copied := 0, waiting := [], scrubFrom := 0,
    zeroed := false }

/-- A device of part `part` that has just entered RESET (R79, R85): nothing held, every object at its default, the gun
list empty. What outlives a reset is put back by the operation that enters RESET. -/
def Device.fresh (part : Part) : Device :=
  { part := part
    mode := .reset
    clockOn := false
    boot := ⟨false, false, false, false, false, 0⟩
    resetLatch := 1
    cyc := 0
    clk := ⟨0, 0, 0, 0, 0, []⟩
    edge := ⟨0, 0⟩
    draws := 0
    dict := []
    out := []
    sess := []
    proofFails := []
    lockoutUntil := []
    lockRenewed := 0
    groups := []
    ring := ⟨0, 0, 0, false, [], 0, 0, 0⟩
    pcie := ⟨[], [], 2 ^ 64 - 1, 0, 63, [], false, false⟩
    jtag := ⟨.idcode, 0, 0, [], 0⟩
    pins := ⟨false, false, none, none, false, true, false⟩
    acqAt := []
    drainAt := 0
    gunSeq := 1
    guns := []
    faults := ⟨1, [], none, []⟩
    keys := ⟨[], [], [], 0, 0, 0, 0, 0, 0⟩
    sas := ⟨[], [], [], []⟩
    banks := []
    pipe := ⟨[], 0, [], [], [], [], [], [], [], [], [], [], [], 0, [], 0⟩
    clsx := ⟨[], [], [], 0, [], [], 0, [], []⟩
    queues := []
    nodes := []
    pairs := []
    ports := []
    laps := ⟨[], 1, 32, 0, none, none, [], []⟩
    pmc := ⟨[], [], 0, []⟩
    mem := MemX.empty
    otp := []
    flash := []
    lc := ⟨false, false⟩
    fw := ⟨none, [], none⟩
    att := ⟨0, []⟩
    sram := ⟨0, [], [], [], [], []⟩
    time := ⟨[], none, 0, none, none, 0, none, none, 0, 0, none, none⟩
    mon := ⟨1, [], none, []⟩
    la := ⟨[], 63, []⟩ }

/-- The machine: the device and the commands that wait, first in first out. -/
structure State where
  dev : Device
  pending : List Instr
deriving DecidableEq, Repr

/-- Right after power comes up (R79, R85): RESET, both reset pins low, OTP blank and flash erased (log entry 9), no command
waiting. The part is an ISF3232 (log entry 9). -/
def State.reset : State := ⟨Device.fresh .isf3232, []⟩

/-- No command of this block faults: every error the specification names is a refusal code, a counter or a record of
the device itself. The constructor is raised by nothing; it keeps the type inhabited for the host's interface. -/
inductive Fault where
  | none
deriving DecidableEq, Repr

/-- Why the model declines a command. `notModelled` is raised by an arm of `exec` that has no meaning yet (safe). -/
inductive Refusal where
  | notModelled (mnemonic : String)
deriving DecidableEq, Repr

/-- Run a pure operation on the device. -/
def State.on (f : Device → Device) (s : State) : Host.Outcome State Fault Refusal := .next { s with dev := f s.dev }

end Sys2Proof.Machine
end

