-- ==== Sys2Proof/Machine/Ops.lean ====
section
/-!
DEFINITION. The named operations over the device that every family shares: reading and writing objects, counters, the
clock, random draws, outputs, the stored parts of sessions, groups, windows and rings, and interrupts.
-/
namespace Sys2Proof.Machine

/-! ### Small list helpers -/

/-- The value of key `k` in an association list of numbers; zero where there is none. -/
def natAt (l : List (Nat × Nat)) (k : Nat) : Nat := Sparse.get (fun _ => 0) l k
def natPut (l : List (Nat × Nat)) (k v : Nat) : List (Nat × Nat) := Sparse.put (fun _ => 0) l k v

/-! ### Objects -/

/-- The key of object `o` in row `r`; a row has 24 bits (R30). -/
def keyOf (o r : Nat) : Nat := o * 2 ^ 24 + r % 2 ^ 24

/-- What a key reads as when nothing has changed it. -/
def dfltKey (k : Nat) : Nat := dfltOf (k / 2 ^ 24) (k % 2 ^ 24)

namespace Device

/-- The stored value of object `o`, row `r`. -/
def rd (d : Device) (o : Nat) (r : Nat := 0) : Nat := Sparse.get dfltKey d.dict (keyOf o r)

/-- Store a value. -/
def wr (d : Device) (o r v : Nat) : Device := { d with dict := Sparse.put dfltKey d.dict (keyOf o r) v }

/-- A stored value as a Boolean. -/
def rdB (d : Device) (o : Nat) (r : Nat := 0) : Bool := d.rd o r != 0

/-- A stored I32 or I64 (`w` bits). -/
def rdI (d : Device) (w o : Nat) (r : Nat := 0) : Int := ofTwos w (d.rd o r)

/-- Add to a U64 counter. A counter at its end wraps (log entry 5). -/
def add64 (d : Device) (o r n : Nat) : Device := d.wr o r ((d.rd o r + n) % 2 ^ 64)

/-- Take `n` out of a U64 counter again. -/
def sub64 (d : Device) (o r n : Nat) : Device := d.wr o r ((d.rd o r + (2 ^ 64 - n)) % 2 ^ 64)

/-- Count one in a U64 counter. -/
def inc64 (d : Device) (o : Nat) (r : Nat := 0) : Device := d.add64 o r 1

/-- Count one in a U32 counter. -/
def inc32 (d : Device) (o : Nat) (r : Nat := 0) : Device := d.wr o r ((d.rd o r + 1) % 2 ^ 32)

/-- Reset an object of a row to its default. -/
def clr (d : Device) (o r : Nat) : Device := d.wr o r (dfltOf o r)

/-- Set or clear one bit of a stored value. -/
def wrBit (d : Device) (o r i : Nat) (b : Bool) : Device := d.wr o r (setBit (d.rd o r) i b)

/-! ### Random values and outputs -/

/-- The next draw of the DRBG or of another random choice of the device: a free value. -/
def draw (d : Device) : Nat × Device := (Config.draw d.draws, { d with draws := d.draws + 1 })

/-- The next value no rule gives: a free value. -/
def unstated (d : Device) : Nat × Device := (Config.unstated d.draws, { d with draws := d.draws + 1 })

/-- Put on record what leaves the device. -/
def emit (d : Device) (o : Out) : Device := { d with out := d.out ++ [o] }

/-! ### Capacities of the part (R1 to R3) -/

def slices (d : Device) : Nat := match d.part with | .isf3232 => 4 | .isf3216 => 2
def lanesPerSide (d : Device) : Nat := 8 * d.slices
def numCas (d : Device) : Nat := 4096 * d.slices
def numScs (d : Device) : Nat := 16384 * d.slices
def numQueues (d : Device) : Nat := 8192 * d.slices

/-- Port or lane row `l` exists: rows 0 to 31 are the host side, 32 to 63 the line side (R93). -/
def laneOk (d : Device) (l : Nat) : Bool := decide (l < 64 ∧ l % 32 < d.lanesPerSide)

/-- The rows of 0x6800: the sources of R366 on this part. -/
def sourceOk (d : Device) (src : Nat) : Bool :=
  src == 0 || (decide (0x100 ≤ src) && decide ((src - 0x100) / 0x40 < d.slices) && decide ((src - 0x100) % 0x40 < 12)) ||
  (decide (0x200 ≤ src) && decide (src ≤ 0x208)) || (decide (0x300 ≤ src) && decide (src ≤ 0x305)) ||
  (decide (0x400 ≤ src) && decide (src ≤ 0x40F))

end Device

/-- The slice of a port or lane row: eight lanes of each side per slice (R93). -/
def sliceOfPort (p : Nat) : Nat := p % 32 / 8

/-- The line side. -/
def isLine (p : Nat) : Bool := decide (32 ≤ p)

/-- The fault source of slice `s` at offset `o` (R365). -/
def sliceSrc (s o : Nat) : Nat := 0x100 + 0x40 * s + o

/-! ### Time (R33, R110) -/

/-- A TIME96 as a count of 2⁻¹⁶ ns. -/
def ticksOf (t : Nat) : Nat := (bits t 48 48 * 1000000000 + bits t 16 32) * 65536 + bits t 0 16

/-- A count of 2⁻¹⁶ ns as a TIME96. -/
def timeOf (n : Nat) : Nat :=
  let ns := n / 65536
  (ns / 1000000000 % 2 ^ 48) * 2 ^ 48 + (ns % 1000000000) * 65536 + n % 65536

/-- The part of an NS32 (R33). -/
def ns32Of (n : Nat) : Nat := n / 65536 % 2 ^ 32

/-- Clock edges per second. -/
def edgesPerS : Nat := 1250000000

/-- Slice cycles in `n` milliseconds, microseconds, nanoseconds (rounded up to a whole edge). -/
def msCycles (n : Nat) : Nat := n * 1250000
def usCycles (n : Nat) : Nat := n * 1250
def nsCycles (n : Nat) : Nat := ceilDiv (n * 5) 4

/-- The PHC in 2⁻¹⁶ ns. -/
def Clock.ticks (c : Clock) : Nat := c.acc / edgesPerS

/-- The nominal increment of one edge with the frequency adjustment, in accumulator units (R111). -/
def Clock.base (c : Clock) : Int := 65536 * 1000000000 + c.adj

/-- The slew added on one full edge, without sign (R112). -/
def Clock.slewStep (c : Clock) : Nat := 65536 * 1000 * c.slewPpm

/-- The slew that the next edge adds. -/
def Clock.slewNow (c : Clock) : Int :=
  if c.slewRem < 0 then - min (- c.slewRem) (c.slewStep : Int) else min c.slewRem (c.slewStep : Int)

/-- One slice clock edge (R110 to R112). -/
def Clock.tick (c : Clock) : Clock :=
  { c with acc := (c.acc + c.base + c.slewNow).toNat, slewRem := c.slewRem - c.slewNow }

/-- Edges until the slew in progress is complete. -/
def Clock.slewEdges (c : Clock) : Nat :=
  if c.slewStep = 0 then 0 else ceilDiv c.slewRem.natAbs c.slewStep

/-- The clock after `n` edges with no change pending. -/
def Clock.run (c : Clock) (n : Nat) : Clock :=
  let total : Int := min (c.slewRem.natAbs : Int) (n * c.slewStep : Nat)
  let s := if c.slewRem < 0 then - total else total
  { c with acc := (c.acc + n * c.base + s).toNat, slewRem := c.slewRem - s }

/-- The fewest edges after which the clock is at or above `t` accumulator units, no change pending. -/
def Clock.edgesTo (c : Clock) (t : Nat) : Nat :=
  if t ≤ c.acc then 0 else
  let need : Int := (t : Int) - c.acc
  let up (x : Int) (s : Int) : Nat := ((x + s - 1) / s).toNat
  let s1 := c.base + (if c.slewRem < 0 then - (c.slewStep : Int) else c.slewStep)
  let n1 := up need s1
  if n1 < c.slewEdges then n1 else max c.slewEdges (up (need - c.slewRem) c.base)

/-- A pending change acts on the clock (R112). -/
def PhcChange.apply (ch : PhcChange) (c : Clock) : Clock :=
  match ch with
  | .set v => { c with acc := v * edgesPerS, jumps := c.jumps + ((v * edgesPerS : Nat) - c.acc), slewRem := 0 }
  | .step δ => { c with acc := ((c.acc : Int) + δ * edgesPerS).toNat, jumps := c.jumps + δ * edgesPerS, slewRem := 0 }
  | .slew δ p => { c with slewRem := δ * edgesPerS, slewPpm := p }
  | .slewStop => { c with slewRem := 0 }
  | .freqAdj a => { c with adj := a }

/-- The first cycle, from cycle `cyc` on, whose PHC is at or above `t` accumulator units, every pending change counted
at its own cycle (R138, R139). -/
def reachFrom : List (Nat × PhcChange) → Clock → Nat → Nat → Nat
  | [], c, cyc, t => cyc + c.edgesTo t
  | e :: r, c, cyc, t =>
    let m := e.1 - cyc
    let n := c.edgesTo t
    if n < m then cyc + n else
    let c1 := e.2.apply (c.run m)
    if t ≤ c1.acc then cyc + m else reachFrom r c1 (cyc + m) t

/-- The clock at cycle `t`, every pending change counted. -/
def clockAtFrom : List (Nat × PhcChange) → Clock → Nat → Nat → Clock
  | [], c, cyc, t => c.run (t - cyc)
  | e :: r, c, cyc, t => if t < e.1 then c.run (t - cyc) else clockAtFrom r (e.2.apply (c.run (e.1 - cyc))) (max cyc e.1) t

/-- The time that has passed on a clock without its steps, in 2⁻¹⁶ ns (R113). -/
def Clock.stepless (c : Clock) : Int := ((c.acc : Int) - c.jumps) / (edgesPerS : Int)

/-- The PHC in 2⁻¹⁶ ns at cycle `at`, every pending change counted. -/
def ticksAtFrom : List (Nat × PhcChange) → Clock → Nat → Nat → Nat
  | [], c, cyc, t => (c.run (t - cyc)).ticks
  | e :: r, c, cyc, t =>
    if t < e.1 then (c.run (t - cyc)).ticks else
    let c1 := e.2.apply (c.run (e.1 - cyc))
    ticksAtFrom r c1 (max cyc e.1) t

namespace Device

/-- The PHC now, in 2⁻¹⁶ ns and as a TIME96. -/
def phc (d : Device) : Nat := d.clk.ticks
def phcTime (d : Device) : Nat := timeOf d.phc

/-- The first cycle whose PHC is at or above `t` (in 2⁻¹⁶ ns). -/
def reach (d : Device) (t : Nat) : Nat := reachFrom d.clk.pend d.clk d.cyc (t * edgesPerS)

/-- The PHC at a later cycle. -/
def ticksAt (d : Device) (cyc : Nat) : Nat := ticksAtFrom d.clk.pend d.clk d.cyc cyc

/-! ### Sessions: stored parts -/

def sessOf (d : Device) (row : Nat) : SessX := Sparse.get (fun _ => SessX.empty) d.sess row
def setSess (d : Device) (row : Nat) (x : SessX) : Device :=
  { d with sess := Sparse.put (fun _ => SessX.empty) d.sess row x }

def setLockRenewed (d : Device) (n : Nat) : Device := { d with lockRenewed := n }

def groupOf (d : Device) (g : Nat) : GroupX := Sparse.get (fun _ => GroupX.empty) d.groups g
def setGroup (d : Device) (g : Nat) (x : GroupX) : Device :=
  { d with groups := Sparse.put (fun _ => GroupX.empty) d.groups g x }

def winOf (d : Device) (w : Nat) : WinReg := Sparse.get (fun _ => WinReg.empty) d.pcie.windows w
def setWin (d : Device) (w : Nat) (x : WinReg) : Device :=
  { d with pcie := { d.pcie with windows := Sparse.put (fun _ => WinReg.empty) d.pcie.windows w x } }

def dmaOf (d : Device) (n : Nat) : DmaX := Sparse.get (fun _ => DmaX.empty) d.pcie.dma n
def setDma (d : Device) (n : Nat) (x : DmaX) : Device :=
  { d with pcie := { d.pcie with dma := Sparse.put (fun _ => DmaX.empty) d.pcie.dma n x } }

/-- The row of the open session with identifier `id`, if one is open (R62, R66). -/
def openRow (d : Device) (id : Nat) : Option Nat :=
  let row := id % 256
  if 1 ≤ row ∧ row ≤ 52 ∧ d.rd O.SESSION_STATE row = 2 ∧ d.rd O.SESSION_ID row = id then some row else none

/-! ### Interrupts (R75) -/

/-- Address and data of MSI-X entry `e`: 8 bytes of address below 4 of data. -/
def vectorOf (d : Device) (e : Nat) : Nat := natAt d.pcie.vectors e

/-- Write the message of entry `e`. -/
def msixSend (d : Device) (e : Nat) : Device := d.emit (.msix e (d.vectorOf e % 2 ^ 64) (d.vectorOf e / 2 ^ 64 % 2 ^ 32))

/-- Entry `e` may send: MSI-X is enabled, and neither the function nor the entry is masked (R75, PRESUMED from PCIe Base 5.0,
log entry 8). -/
def msixLive (d : Device) (e : Nat) : Bool := d.pcie.msixOn && !d.pcie.funcMask && !d.pcie.masked.testBit e

/-- Entry `e` is pending. -/
def msixPend (d : Device) (e : Nat) : Device := { d with pcie := { d.pcie with pendBits := setBit d.pcie.pendBits e true } }

/-- Signal MSI-X entry `e`: sent, or pending while it may not send (R75). An entry of 64 and above does not exist; R75 states
no range for PCIE_WINDOW_VECTOR, and signalling such an entry does nothing (DESIGN CHOICE, log entry 8). -/
def msix (d : Device) (e : Nat) : Device :=
  if 64 ≤ e then d
  else if d.msixLive e then d.msixSend e
  else d.msixPend e

end Device
end Sys2Proof.Machine
end

