-- ==== Sys2Proof/Machine/Pmc.lean ====
section
/-!
DEFINITION. Performance counters (R391 to R401): counting an event through the filters, chaining, overflow, the sample
taken after it, and the side effects of a read.
-/
namespace Sys2Proof.Machine
namespace Device

def setPmc (d : Device) (x : PmcX) : Device := { d with pmc := x }

/-- Row `n` is the odd half of a chained pair (R395). -/
def pmcChainedOdd (d : Device) (n : Nat) : Bool := n % 2 == 1 && d.rdB O.PMC_CHAIN (n - 1)

/-- Row `n` is a slice row (R391). -/
def pmcSliceRow (n : Nat) : Bool := decide (n < 128)

/-- Row `n` overflows: status, sample, interrupt (R396). -/
def pmcOverflow (d : Device) (n : Nat) : Device :=
  let d := d.wrBit O.PMC_STATUS n 0 true
  let d := if d.rdB O.PMC_SAMPLE n ∧ pmcSliceRow n
    then d.setPmc { d.pmc with due := d.pmc.due.filter (fun e => e.1 != n) ++ [(n, d.cyc)] } else d
  if d.rdB O.PMC_IRQ n then d.msix (d.rd O.PMC_VECTOR) else d

/-- Add `k` to row `n` modulo 2⁴⁸; whether it wrapped. -/
def pmcBump (d : Device) (n k : Nat) : Bool × Device :=
  (decide (2 ^ 48 ≤ d.rd O.PMC_VALUE n + k), d.wr O.PMC_VALUE n ((d.rd O.PMC_VALUE n + k) % 2 ^ 48))

/-- Count `k` events on row `n` (R391, R395, R396). A pair overflows with its odd row, and is configured and reports through its
even row. -/
def pmcAdd (d : Device) (n k : Nat) : Device :=
  let r := d.pmcBump n k
  if ¬ r.1 then r.2
  else if n % 2 = 0 ∧ r.2.rdB O.PMC_CHAIN n then
    let r2 := r.2.pmcBump (n + 1) 1
    if r2.1 then r2.2.pmcOverflow n else r2.2
  else r.2.pmcOverflow n

/-- Row `n` is enabled, counts event `code`, and is not the odd half of a pair. -/
def pmcCounts (d : Device) (code n : Nat) : Bool :=
  d.rdB O.PMC_ENABLE n && d.rd O.PMC_EVENT n % 512 == code && !d.pmcChainedOdd n

/-- Count a Hub event (rows 128 to 143) that passes `pass`. -/
def pmcHub (d : Device) (code k : Nat) (pass : Device → Nat → Bool) : Device :=
  ((List.range 16).map (· + 128)).foldl (fun d n => if d.pmcCounts code n && pass d n then d.pmcAdd n k else d) d

/-- Count a slice event of slice-direction `sd` that passes `pass`. -/
def pmcSlice (d : Device) (sd code k : Nat) (pass : Device → Nat → Bool) : Device :=
  ((List.range 32).map (· + 32 * (sd / 2))).foldl
    (fun d n => if d.pmcCounts (code + 256 * (sd % 2)) n && pass d n then d.pmcAdd n k else d) d

/-- No filter applies. -/
def passAll : Device → Nat → Bool := fun _ _ => true

/-- The filters of a frame: class (when `c`), SC range, tenant (R394). -/
def passFrame (f : Frame) (useClass : Bool) : Device → Nat → Bool := fun d n =>
  (!useClass || (d.rd O.PMC_CLASS_MASK n).testBit f.cls) &&
  (decide (d.rd O.PMC_RANGE_LO n ≤ f.sc ∧ f.sc ≤ d.rd O.PMC_RANGE_HI n ∧ f.sc ≠ 0xFFFFFFFF) ||
    (d.rd O.PMC_RANGE_LO n == 0 && d.rd O.PMC_RANGE_HI n == 0xFFFFFFFF)) &&
  (d.rd O.PMC_TENANT n == 0xFFFF || d.rd O.PMC_TENANT n == f.ca)

/-- The master's bit of PMC_MASTER_MASK (R394). -/
def masterBit (m : Master) : Nat :=
  match m with | .ring => 0 | .pcie => 1 | .debug => 2 | .sydin => 3

/-- Role and master filters (R394); role 0 is work without a session. -/
def passRole (role : Nat) (m : Master) : Device → Nat → Bool := fun d n =>
  (d.rd O.PMC_ROLE_MASK n).testBit role && (d.rd O.PMC_MASTER_MASK n).testBit (masterBit m)

/-- The role filter alone. -/
def passRoleOnly (role : Nat) : Device → Nat → Bool := fun d n => (d.rd O.PMC_ROLE_MASK n).testBit role

/-- The address filter (R394). -/
def passAddr (off : Nat) : Device → Nat → Bool := fun d n =>
  decide (d.rd O.PMC_RANGE_LO n ≤ off ∧ off ≤ d.rd O.PMC_RANGE_HI n)

/-- Slice counters of slice `s` restart from 0 (R391). -/
def pmcRestart (d : Device) (s : Nat) : Device :=
  ((List.range 32).map (· + 32 * s)).foldl (fun d n => d.wr O.PMC_VALUE n 0) d

/-- Samples that can no longer be taken because slice `s` left ACTIVE are dropped (R401). -/
def pmcForget (d : Device) (s : Nat) : Device :=
  d.setPmc { d.pmc with due := d.pmc.due.filter (fun e => e.1 / 32 != s) }

/-- Count a DMA descriptor completed on ring `n` (event 0x46): the role of the ring's session, the PCIe master. -/
def pmcDma (d : Device) (n : Nat) : Device :=
  let role := (d.openRow (d.rd O.RING_SESSION n)).elim 0 (fun row => d.rd O.SESSION_ROLE row)
  d.pmcHub 0x46 1 (passRole role .pcie)

end Device
end Sys2Proof.Machine
end

