-- ==== Sys2Proof/Machine/Messages.lean ====
section
/-!
DEFINITION. Operations that leave a trace outside: DMA completions (R73, R74), ring messages (R58, R59, R66), fault
records without a reaction (R375 to R378), Peer Link messages (R249), gun entries (R134 to R143), and commit groups as
far as cancelling and releasing them goes (R46 to R48).
-/
namespace Sys2Proof.Machine
namespace Device

/-- Raise the ring's vector and start counting its completions afresh (R74). -/
def dmaSignal (d : Device) (n : Nat) : Device :=
  (d.setDma n { d.dmaOf n with unsignalled := 0 }).msix (d.rd O.RING_VECTOR n)

/-- Put a completion into its descriptor (R73): it is written back, counted, and signalled when enough have come (R74). -/
def dmaWriteBack (d : Device) (n : Nat) (c : Completion) : Device :=
  let d := d.emit (.completion n c.status c.length c.kind)
  let d := (if c.status = 0 then d.inc64 O.RING_COMPLETED n else d.inc64 O.RING_REJECTED n).pmcDma n
  let x := d.dmaOf n
  let d := d.setDma n { x with unsignalled := x.unsignalled + 1, oldest := if x.unsignalled = 0 then d.cyc else x.oldest }
  if (d.dmaOf n).unsignalled ≥ d.rd O.RING_IRQ_COUNT n then d.dmaSignal n else d

/-- Ring `n` has had its turn (R74). -/
def setServed (d : Device) (n : Nat) : Device := { d with pcie := { d.pcie with lastServed := n } }

/-- Step RING_HEAD past the descriptor taken. -/
def dmaAdvance (d : Device) (n : Nat) : Device :=
  (d.setServed n).wr O.RING_HEAD n ((d.rd O.RING_HEAD n + 1) % d.rd O.RING_SIZE n)

/-- Complete `k` waiting descriptors with status 0x0005. -/
def dmaFlush : Nat → Nat → Device → Device
  | 0, _, d => d
  | k + 1, n, d => dmaFlush k n (d.dmaWriteBack n ⟨5, 0, []⟩)

def setTaken (d : Device) (n : Nat) (l : List TakenDesc) : Device := d.setDma n { d.dmaOf n with taken := l }

/-- The ring has stopped (R74): the descriptors left are flushed, and it stands at index 0. One enabled again meanwhile runs
on. -/
def dmaEnd (d : Device) (n : Nat) : Device :=
  let size := d.rd O.RING_SIZE n
  let d := dmaFlush ((d.rd O.RING_TAIL n + size - d.rd O.RING_HEAD n) % size) n d
  let d := d.setDma n { d.dmaOf n with events := [], taken := [], stopping := false }
  ((d.wr O.RING_STATE n (d.rd O.RING_ENABLE n)).wr O.RING_HEAD n 0).wr O.RING_TAIL n 0

/-- Write back the descriptors at the front that have ended, in order (R74). -/
def dmaDrain : Nat → List TakenDesc → Device → List TakenDesc × Device
  | _, [], d => ([], d)
  | n, t :: r, d => t.fin.elim (t :: r, d) (fun c => dmaDrain n r (d.dmaWriteBack n c))

/-- Write back what has ended; a ring that waited for its last descriptor stops. -/
def dmaSettle (d : Device) (n : Nat) : Device :=
  let x := dmaDrain n (d.dmaOf n).taken d
  let d := x.2.setTaken n x.1
  if x.1 = [] ∧ (d.dmaOf n).stopping = true then d.dmaEnd n else d

/-- A descriptor of ring `n` has been taken for frame or job `tag`; it completes later. -/
def dmaTake (d : Device) (n tag : Nat) : Device := d.setTaken n ((d.dmaOf n).taken ++ [⟨tag, none⟩])

/-- The descriptor taken for `tag` has ended. Descriptors are written back in their order (R74). -/
def dmaFinish (d : Device) (n tag status length : Nat) (kind : Bytes) : Device :=
  (d.setTaken n ((d.dmaOf n).taken.map (fun t => if t.tag = tag ∧ t.fin = none then { t with fin := some ⟨status, length, kind⟩ } else t))).dmaSettle n

/-- A descriptor of ring `n` is completed at once, behind those taken before it: `length` bytes transferred, `kind` its bytes
16 to 31 (R73, R74). -/
def dmaComplete (d : Device) (n status length : Nat) (kind : Bytes) : Device :=
  (d.setTaken n ((d.dmaOf n).taken ++ [⟨0, some ⟨status, length, kind⟩⟩])).dmaSettle n

/-- Stop ring `n` (R74): the descriptors in progress finish, then the rest is flushed. The ring is enabled no longer:
RING_ENABLE reads false (log entry 6). -/
def dmaHalt (d : Device) (n : Nat) : Device :=
  let d := d.wr O.RING_ENABLE n 0
  if d.rd O.RING_STATE n = 0 then d
  else if (d.dmaOf n).taken = [] then d.dmaEnd n
  else d.setDma n { d.dmaOf n with stopping := true }

end Device

/-! ### Ring messages (R58, R59, R66) -/

/-- Bytes 0 to 15 of a message. -/
def ringHeader (m : RingMsg) : Bytes :=
  leBytes 1 m.dst ++ leBytes 1 m.src ++ leBytes 1 m.type ++ leBytes 1 m.flags ++ leBytes 4 m.session ++
  leBytes 4 m.counter ++ leBytes 2 m.payload.length ++ leBytes 2 m.reserved

/-- The tag of R66 under the session key `ks`. -/
def ringTag (m : RingMsg) (ks : Bytes) : Nat := beNat ((cmac ks (ringHeader m ++ m.payload)).take 8)

/-- A message is tagged when flags bit 0 is set. -/
def ringTagged (m : RingMsg) : Bool := m.flags.testBit 0

/-- Every byte the CRC covers. -/
def ringCovered (m : RingMsg) : Bytes :=
  ringHeader m ++ m.payload ++ (if ringTagged m then beBytes 8 m.tag else [])

/-- The message with its CRC. -/
def ringSealCrc (m : RingMsg) : RingMsg := { m with crc := crc32 (ringCovered m) }

/-- The message with tag and CRC under `ks`. -/
def ringSealTag (m : RingMsg) (ks : Bytes) : RingMsg := ringSealCrc { m with tag := ringTag m ks }

/-- Characters of a message on the ring, with its delimiters (R52, R58). -/
def ringChars (m : RingMsg) : Nat := (ringCovered m).length + 6

/-- A stored write names object `o` in row `r`: by its subindex, or as part of a whole write (R48). -/
def ShadowWrite.names (w : ShadowWrite) (o r : Nat) : Bool :=
  w.addr.index == o / 256 && (w.addr.whole || w.addr.sub == o % 256) && (!w.addr.table || w.addr.row == r)

namespace Device

/-- Queue a message of the device's own for insertion (R53). -/
def ringSend (d : Device) (m : RingMsg) : Device := { d with ring := { d.ring with insertQ := d.ring.insertQ ++ [m] } }

/-- The session key of a row. -/
def ksOf (d : Device) (row : Nat) : Bytes := leBytes 32 (d.sessOf row).ks

/-- Return group `g` to IDLE and discard its shadow (R47). What its last commit left is kept until then (R46). -/
def groupIdle (d : Device) (g : Nat) : Device :=
  ((((d.setGroup g GroupX.empty).wr O.GROUP_STATE g 0).wr O.GROUP_OWNER g 0).wr O.GROUP_WRITES g 0).wr
    O.GROUP_FAIL_ADDRESS g 0 |>.wr O.GROUP_FLAGS g 0

/-! ### Sessions (R67) -/

/-- The fields of a session row after it closes; the generation stays (R62). -/
def clearSession (d : Device) (row : Nat) : Device :=
  let d := d.setSess row { SessX.empty with gen := (d.sessOf row).gen }
  ((((d.wr O.SESSION_STATE row 0).wr O.SESSION_ROLE row 0).wr O.SESSION_CA row 0).wr O.SESSION_ID row 0).wr
    O.SESSION_LAST_COUNTER row 0

/-! ### Records of the fault collector (R375 to R378) -/

/-- A record still waits within 1.0 s of its event (R117). -/
def eventFresh (d : Device) (e : Nat × Bytes) : Bool := decide (d.cyc ≤ e.1 + msCycles 1000)

/-- Records of ring `n` that have waited for more than 1.0 s: no descriptor may carry them any more (R117). They count as lost;
the log keeps them (DESIGN CHOICE, log entry 32). -/
def eventsExpire (d : Device) (n : Nat) : Device :=
  let x := d.dmaOf n
  let l := x.events.filter d.eventFresh
  if l.length = x.events.length then d
  else (d.setDma n { x with events := l }).add64 O.FLT_EVENT_LOST 0 (x.events.length - l.length)

/-- Queue a record on ring `n` of kind event, or count it as lost (R378). -/
def eventRingQueue (rcd : Bytes) (d : Device) (n : Nat) : Device :=
  if d.rd O.RING_STATE n = 1 ∧ d.rd O.RING_KIND n = 4 then
    let d := d.eventsExpire n
    let x := d.dmaOf n
    if x.events.length < 64 then d.setDma n { x with events := x.events ++ [(d.cyc, rcd)] } else d.inc64 O.FLT_EVENT_LOST
  else d

/-- The code of MODE now (0 stands for RESET, which no master reads; R75, R79). -/
def modeCode (d : Device) : Nat :=
  match d.mode with | .reset => 0 | .boot => 1 | .stage => 2 | .run => 3 | .drain => 4 | .safe => 5

/-- Mark the record with sequence number `seq` as sharing its stamp (R375, flags bit 2). -/
def markShared (d : Device) (seq : Nat) : Device :=
  let d := d.wr O.FLT_LOG_RECORD (seq % 512) (setBit (d.rd O.FLT_LOG_RECORD (seq % 512)) (23 * 8 + 2) true)
  if bits (d.rd O.FLT_FIRST_SEVERE) 0 32 = seq then
    d.wr O.FLT_FIRST_SEVERE 0 (setBit (d.rd O.FLT_FIRST_SEVERE) (23 * 8 + 2) true) else d

/-- The sequence number of the last record, when it has the stamp of now (R368, R375). -/
def sharesWith (d : Device) : Option Nat :=
  match d.faults.lastEdge with
  | some e => if e.1 = d.phc then some e.2 else none
  | none => none

/-- The 64 bytes of a record (R375). -/
def recordBytes (d : Device) (src code cls base kind flags reaction window : Nat) (detail : Bytes) : Bytes :=
  leBytes 4 d.faults.seq ++ leBytes 12 d.phcTime ++ leBytes 2 src ++ leBytes 2 code ++ leBytes 1 cls ++ leBytes 1 base ++
  leBytes 1 kind ++ leBytes 1 (flags + (if d.sharesWith.isSome then 4 else 0) + (if d.mode = .boot then 8 else 0)) ++
  leBytes 1 reaction ++ leBytes 1 d.modeCode ++ leBytes 2 (min window 65535) ++ leBytes 4 0 ++ fit 32 detail

/-- Step the record number and remember the stamp. -/
def nextRecord (d : Device) : Device :=
  { d with faults := { d.faults with seq := (d.faults.seq + 1) % 2 ^ 32, lastEdge := some (d.phc, d.faults.seq) } }

/-- The count window of a source: the heat of an environment channel, its own object otherwise (R370, R385). -/
def srcW (d : Device) (src : Nat) : Nat :=
  if 0x400 ≤ src then d.rd O.MON_HEAT_W_MS (src - 0x400) else d.rd O.FLT_SRC_W_MS src

/-- Events of a source within its window, of whatever class (R370, R375). -/
def windowCount (d : Device) (src : Nat) : Nat :=
  (d.faults.events.filter (fun e => e.1 == src && decide (d.cyc < e.2 + msCycles (d.srcW src)))).length

/-- An event of a source. -/
def addEvent (d : Device) (src : Nat) : Device :=
  { d with faults := { d.faults with events := (src, d.cyc) :: d.faults.events } }

/-- Put a record into the log (R377): the row, the newest number, the count of overwritten records, the source's own
counts, and the first SEVERE or FATAL. -/
def logRecord (d : Device) (src cls kind : Nat) (r64 : Bytes) : Device :=
  let seq := d.faults.seq
  let d := d.sharesWith.elim d d.markShared
  let d := d.nextRecord
  let d := if seq > 512 then d.inc32 O.FLT_LOG_OVERWRITTEN else d
  let d := d.wr O.FLT_LOG_RECORD (seq % 512) (leNat r64)
  let d := d.wr O.FLT_LOG_LAST_SEQ 0 seq
  let d := (d.inc64 O.FLT_SRC_EVENTS src).wr O.FLT_SRC_LAST_AT src d.phcTime
  if kind = 0 ∧ (cls = 3 ∨ cls = 4) ∧ d.rd O.FLT_FIRST_SEVERE = 0 then d.wr O.FLT_FIRST_SEVERE 0 (leNat r64) else d

/-- The reading of source `src`'s pair is broken: its faults are not seen (R367). -/
def srcUnseen (d : Device) (src : Nat) : Bool := d.rd O.FLT_SRC_STATE src == 2

/-! ### Keys by handle (R287) and the Peer Link (R249) -/

def vaultOf (d : Device) (k : Nat) : VaultX := Sparse.get (fun _ => VaultX.empty) d.keys.vault k
def setVault (d : Device) (k : Nat) (x : VaultX) : Device :=
  { d with keys := { d.keys with vault := Sparse.put (fun _ => VaultX.empty) d.keys.vault k x } }

/-- The slot a handle names, if it names one: index below 1024, reserved bits zero, the slot not EMPTY and of the
handle's generation (R287). -/
def slotOf (d : Device) (handle : Nat) : Option Nat :=
  let k := handle % 65536
  if handle ≠ 0 ∧ k < 1024 ∧ d.rd O.VAULT_STATE k ≠ 0 ∧ handle / 65536 = (d.vaultOf k).gen then some k else none

/-- The key bytes of slot `k`: 16 or 32 of them (R288). -/
def keyBytes (d : Device) (k : Nat) : Bytes := (d.vaultOf k).key.take (d.rd O.VAULT_KEY_BITS k / 8)

/-- The check code of a vault slot (R289). -/
def vaultCheck (d : Device) (k gen purpose level bits : Nat) (counted : Bool) (key : Bytes) : Nat :=
  leNat ((cmac d.keys.checkKey (leBytes 2 k ++ fit 32 key ++ leBytes 2 gen ++ leBytes 1 purpose ++ leBytes 1 level ++
    leBytes 1 (if bits = 256 then 1 else 0) ++ leBytes 1 (boolNat counted))).take 4)

/-- The stored check code of slot `k` agrees with its contents (R291). -/
def vaultGood (d : Device) (k : Nat) : Bool :=
  (d.vaultOf k).check == d.vaultCheck k (d.vaultOf k).gen (d.rd O.VAULT_PURPOSE k) (d.rd O.VAULT_LEVEL k)
    (d.rd O.VAULT_KEY_BITS k) (d.rdB O.VAULT_COUNTED k) (d.vaultOf k).key

/-- The bytes of a Peer Link message that its tag covers (R249). -/
def peerCovered (m : PeerMsg) : Bytes :=
  leBytes 1 m.type ++ leBytes 1 m.hops ++ leBytes 1 m.origin ++ leBytes 1 m.count ++ leBytes 4 m.sequence ++ m.payload

/-- The message with tag and CRC under `key`. -/
def peerSeal (key : Bytes) (m : PeerMsg) : PeerMsg :=
  let tag := beNat ((cmac key (peerCovered m)).take 8)
  { m with tag := tag, crc := crc32 (peerCovered m ++ beBytes 8 tag) }

/-- The key of PEER_KEY, when it names a slot that may be used (R249, R285). -/
def peerKey (d : Device) : Option Bytes :=
  match d.slotOf (d.rd O.PEER_KEY) with
  | some k => if d.rd O.VAULT_STATE k = 1 then some (d.keyBytes k) else none
  | none => none

def setCls (d : Device) (x : ClsX) : Device := { d with clsx := x }
def setPeerSeq (d : Device) (n : Nat) : Device := d.setCls { d.clsx with peerSeq := n }

/-- Send a message of the device's own on every enabled lane (R249). -/
def peerSend (d : Device) (type count : Nat) (payload : Bytes) : Device :=
  match d.peerKey with
  | none => d
  | some key =>
    if d.rd O.RING_POSITION = 0xFE ∨ d.rd O.PEER_ENABLE % 4 = 0 then d else
    let seq := (d.clsx.peerSeq + 1) % 2 ^ 32
    let m := peerSeal key { type := type, hops := d.rd O.PEER_HOPS, origin := d.rd O.RING_POSITION, count := count,
                            sequence := seq, payload := payload, tag := 0, crc := 0 }
    let d := d.setPeerSeq seq
    let d := if (d.rd O.PEER_ENABLE).testBit 0 then d.emit (.peer 0 m) else d
    if (d.rd O.PEER_ENABLE).testBit 1 then d.emit (.peer 1 m) else d

/-! ### Gun entries (R134 to R143) -/

def gunOf (d : Device) (e : Nat) : GunX := Sparse.get (fun _ => ⟨0, false⟩) d.guns e
def setGun (d : Device) (e : Nat) (x : GunX) : Device := { d with guns := Sparse.put (fun _ => ⟨0, false⟩) d.guns e x }

/-- The entry is FREE, DONE or CANCELLED (R135). -/
def gunFreeRow (d : Device) (e : Nat) : Bool :=
  d.rd O.GUN_STATE e == 0 || d.rd O.GUN_STATE e == 3 || d.rd O.GUN_STATE e == 4

/-- The entry is ARMED or ISSUED. -/
def gunLive (d : Device) (e : Nat) : Bool := d.rd O.GUN_STATE e == 1 || d.rd O.GUN_STATE e == 2

/-- The pair of entry `e` has been issued and its target has come: its action has taken place, and GUN_FIRE ends it (R141). -/
def gunDue (d : Device) (e : Nat) : Bool := d.rd O.GUN_STATE e == 2 && decide (d.rd O.GUN_TARGET_CYCLE e ≤ d.cyc)

/-- A live entry that may still be cancelled. -/
def gunStops (d : Device) (e : Nat) : Bool := d.gunLive e && !d.gunDue e

/-- The lowest free entry of the pool that begins at `lo` with `n` rows. -/
def gunFreeIn (d : Device) (lo n : Nat) : Option Nat := ((List.range n).map (· + lo)).find? d.gunFreeRow

/-- The lowest free entry of the pool of feature `code` (R134, R135). -/
def gunPool (d : Device) (code : Nat) : Option Nat :=
  if code = 5 then d.gunFreeIn 0 4 else if code = 2 ∨ code = 3 then d.gunFreeIn 4 768 else d.gunFreeIn 772 252

/-- The live entry of feature `code` for target row `row`, if any (R136). -/
def gunFind (d : Device) (code row : Nat) : Option Nat :=
  (List.range 1024).find? (fun e => d.gunLive e && d.rd O.GUN_OWNER e == code && d.rd O.GUN_TARGET_ROW e == row)

/-- A gun time is past (R137). -/
def gunPast (d : Device) (t : Nat) : Bool := decide (ticksOf t < d.phc + 512 * 65536)

/-- The GUN payload of entry `e` (R143). -/
def gunPayload (d : Device) (op e : Nat) : Bytes :=
  leBytes 1 op ++ leBytes 1 (d.rd O.GUN_OWNER e) ++ leBytes 1 (d.rd O.GUN_FLAGS e) ++ leBytes 1 0 ++ leBytes 2 e ++ leBytes 2 0 ++
  leBytes 4 (d.rd O.GUN_TAG e) ++ leBytes 12 (d.rd O.GUN_TIME e) ++ leBytes 12 (if op = 2 then d.rd O.GUN_FIRED_AT e else 0)

/-! ### What a change of an object does to armed groups that name it (R48) -/

/-- Group `g` is ARMED, its action has not taken place, and it holds a write to object `o`, row `r`. -/
def armedNames (d : Device) (o r g : Nat) : Bool :=
  d.rd O.GROUP_STATE g == 2 && !(d.groupOf g).entry.elim false d.gunDue && (d.groupOf g).shadow.any (fun w => w.names o r)

/-- The groups that a change of object `o`, row `r` cancels. -/
def groupsNaming (d : Device) (o r : Nat) : List Nat := (List.range 17).filter (d.armedNames o r)

/-- A record to the event rings alone: the session that would carry its EVENT is about to close. -/
def noteUnsent (d : Device) (src code : Nat) (detail : Bytes) : Device :=
  if d.srcUnseen src then d else
  let d := d.addEvent src
  let r64 := d.recordBytes src code 0 0 0 0 0 (d.windowCount src) detail
  let d := d.logRecord src 0 0 r64
  if d.rd O.FLT_EVENT_MIN_CLASS = 0 then (List.range 64).foldl (eventRingQueue r64) d else d

/-- Announce entry `e` on the Peer Link (R143). -/
def gunAnnouncePeer (d : Device) (op e : Nat) : Device :=
  if d.rd O.GUN_TAG e ≠ 0 ∧ (d.rd O.GUN_ANNOUNCE).testBit 1 then d.peerSend 8 0 (d.gunPayload op e) else d

/-- A live entry is CANCELLED: an issued pair is withdrawn with bit 3 set (R136, R141). -/
def gunDrop (d : Device) (e : Nat) : Device :=
  let d := if d.rd O.GUN_STATE e = 2 then d.wrBit O.GUN_FLAGS e 3 true else d
  d.wr O.GUN_STATE e 4

/-- An entry that has fired or is cancelled belongs to no feature (R45); subindices 05 to 0A stay (R136). -/
def gunFree (d : Device) (e : Nat) : Device := d.wr O.GUN_OWNER e 0

/-- Free the group's gun entry, announced on the Peer Link alone, and move it to CANCELLED with its NOTE. -/
def groupOverruledUnsent (d : Device) (g : Nat) : Device :=
  let d := (d.groupOf g).entry.elim d (fun e => if d.gunStops e then ((d.gunDrop e).gunAnnouncePeer 3 e).gunFree e else d)
  ((d.setGroup g { d.groupOf g with entry := none }).wr O.GROUP_STATE g 5).noteUnsent 0x0204 0x0B00 (leBytes 4 g)

/-! ### The close of a session (R67) -/

/-- The DMA rings bound to session `id`. -/
def boundRings (d : Device) (id : Nat) : List Nat := (List.range 64).filter (fun n => d.rd O.RING_SESSION n == id && id != 0)

/-- The objects that the close of row `row` changes: the lock it holds and the enables of its rings. -/
def closeChanges (d : Device) (row : Nat) : List (Nat × Nat) :=
  let id := d.rd O.SESSION_ID row
  (if d.rd O.LOCK = id then [(O.LOCK, 0)] else []) ++
  ((d.boundRings id).filter (fun n => d.rdB O.RING_ENABLE n)).map (fun n => (O.RING_ENABLE, n))

/-- Close the session in row `row`: the lock, its OPEN groups and its DMA rings are released (R67). -/
def closeRow (d : Device) (row : Nat) : Device :=
  let id := d.rd O.SESSION_ID row
  let d := if d.rd O.LOCK = id then d.wr O.LOCK 0 0 else d
  let d := (List.range 17).foldl (fun d g =>
    if d.rd O.GROUP_STATE g = 1 ∧ d.rd O.GROUP_OWNER g = id then d.groupIdle g else d) d
  ((d.boundRings id).foldl dmaHalt d).clearSession row

/-- Close the session of row `row` whose own counter would pass its end (R66). -/
def closeSpent (d : Device) (row : Nat) : Device :=
  (((d.closeChanges row).flatMap (fun e => d.groupsNaming e.1 e.2)).eraseDups.foldl groupOverruledUnsent d).closeRow row

/-! ### Events on the ring, records delivered, gun entries announced -/

/-- Send an EVENT (0x04) or GUN (0x08) message in the device counter space to RING_EVENT_SESSION (R59, R66). A session
that is not an open ring session gets none; one whose counter would pass its end is closed. -/
def ringEvent (d : Device) (type : Nat) (payload : Bytes) : Device :=
  match d.openRow (d.rd O.RING_EVENT_SESSION) with
  | none => d
  | some row =>
    if 32 < row then d else
    let x := d.sessOf row
    if 0xFFFFFFFF ≤ x.evCounter then d.closeSpent row else
    let m : RingMsg := { dst := 0, src := d.rd O.RING_POSITION, type := type, flags := 3,
                         session := d.rd O.SESSION_ID row, counter := x.evCounter + 1, reserved := 0, payload := payload, tag := 0, crc := 0 }
    (d.setSess row { x with evCounter := x.evCounter + 1 }).ringSend (ringSealTag m (d.ksOf row))

/-- Deliver a record (R378). -/
def deliver (d : Device) (rcd : Bytes) : Device :=
  let d := (List.range 64).foldl (eventRingQueue rcd) d
  d.ringEvent 4 (slice 16 4 rcd ++ slice 4 12 rcd ++ slice 20 44 rcd)

/-- Write one record (R375, R377) and deliver it when its class asks for it (R378). -/
def writeRecord (d : Device) (src code cls base kind flags reaction window : Nat) (detail : Bytes) : Device :=
  let r64 := d.recordBytes src code cls base kind flags reaction window detail
  let d := d.logRecord src cls kind r64
  if kind = 1 ∨ d.rd O.FLT_EVENT_MIN_CLASS ≤ cls then d.deliver r64 else d

/-- Log a NOTE of source `src`: record only (R369, R371). -/
def note (d : Device) (src code : Nat) (detail : Bytes) : Device :=
  if d.srcUnseen src then d else
  let d := d.addEvent src
  d.writeRecord src code 0 0 0 0 0 (d.windowCount src) detail

/-- Announce entry `e` on the ring and the Peer Link (R143). -/
def gunAnnounce (d : Device) (op e : Nat) : Device :=
  if d.rd O.GUN_TAG e = 0 then d else
  let d := if (d.rd O.GUN_ANNOUNCE).testBit 0 then d.ringEvent 8 (d.gunPayload op e) else d
  if (d.rd O.GUN_ANNOUNCE).testBit 1 then d.peerSend 8 0 (d.gunPayload op e) else d

def setGunSeq (d : Device) (n : Nat) : Device := { d with gunSeq := n }

/-- Take entry `e` for feature `code` (R134 to R137, R142). -/
def gunTake (d : Device) (e code row time tag : Nat) (lateOk : Bool) : Device :=
  let late := lateOk && d.gunPast time
  let d := d.setGun e ⟨d.cyc, late⟩
  let seq := d.gunSeq
  let d := d.setGunSeq ((seq + 1) % 2 ^ 32)
  let d := d.wr O.GUN_STATE e 1
  let d := d.wr O.GUN_OWNER e code
  let d := d.wr O.GUN_TARGET_ROW e row
  let d := d.wr O.GUN_TIME e time
  let d := d.wr O.GUN_SEQ e seq
  let d := d.wr O.GUN_TAG e tag
  let d := d.wr O.GUN_TARGET_CYCLE e 0
  let d := d.wr O.GUN_FIRED_AT e 0
  let d := d.wr O.GUN_FLAGS e (if lateOk then 4 else 0)
  d.gunAnnounce 1 e

/-- Live entry `e` is cancelled and announced. -/
def gunCancelNow (d : Device) (e : Nat) : Device := ((d.gunDrop e).gunAnnounce 3 e).gunFree e

/-- Cancel live entry `e` on the device's own account or by its feature's command, unless its action has taken place (R136,
R141). -/
def gunCancel (d : Device) (e : Nat) : Device := if d.gunStops e then d.gunCancelNow e else d

/-- Entry `e` has fired: DONE, and the flags and counts of R137, R138 and R140. -/
def gunDone (d : Device) (e : Nat) (stepped : Bool) : Device :=
  let late := (d.gunOf e).late
  let d := d.wr O.GUN_FIRED_AT e d.phcTime
  let d := if d.rd O.GUN_TARGET_CYCLE e = 0 then d.wr O.GUN_TARGET_CYCLE e d.cyc else d
  let d := if late then (d.wrBit O.GUN_FLAGS e 0 true).inc32 O.GUN_LATE_COUNT else d
  let d := if stepped then (d.wrBit O.GUN_FLAGS e 1 true).inc32 O.GUN_STEPPED_COUNT else d
  (((d.wr O.GUN_STATE e 3).pmcHub 0x49 1 passAll).gunAnnounce 2 e).gunFree e

/-! ### Commit groups: cancel and release (R47, R48) -/

/-- Free the group's gun entry and move it to CANCELLED (R47, R48). -/
def groupCancelled (d : Device) (g : Nat) : Device :=
  let d := match (d.groupOf g).entry with | some e => d.gunCancel e | none => d
  (d.setGroup g { d.groupOf g with entry := none }).wr O.GROUP_STATE g 5

/-! ### A command or a reaction changes an object (R48) -/

/-- A group is cancelled because an object it names changes; the collector notes it (R48, R366). -/
def groupOverruled (d : Device) (g : Nat) : Device := (d.groupCancelled g).note 0x0204 0x0B00 (leBytes 4 g)

/-- Before a command or a reaction changes object `o` of row `r`: armed groups that name it are cancelled (R48). -/
def touch (d : Device) (o r : Nat) : Device := (d.groupsNaming o r).foldl groupOverruled d

/-- A command or reaction writes an object. -/
def wrCmd (d : Device) (o r v : Nat) : Device := if d.rd o r = v then d else (d.touch o r).wr o r v

/-- Stop ring `n` on the device's own account. -/
def dmaStop (d : Device) (n : Nat) : Device := (if d.rdB O.RING_ENABLE n then d.touch O.RING_ENABLE n else d).dmaHalt n

/-- Close the session in row `row` (R67). -/
def closeSession (d : Device) (row : Nat) : Device :=
  if d.rd O.SESSION_STATE row = 0 then d else
  ((d.closeChanges row).foldl (fun d e => d.touch e.1 e.2) d).closeRow row

/-- Close every session in rows `lo` to `hi`. -/
def closeSessions (d : Device) (lo hi : Nat) : Device :=
  ((List.range (hi + 1 - lo)).map (· + lo)).foldl closeSession d

end Device
end Sys2Proof.Machine
end

