-- ==== Sys2Proof/Machine/Gcm.lean ====
section
/-!
DEFINITION. GCM of a frame, cell by cell (R179 to R181, R197, R199, R202): AAD and text of a frame, counter blocks, the GHASH
aligner with its groups of at most eight blocks, what a cell leaves as, and the finish behind the last cell.
-/
namespace Sys2Proof.Machine

/-- The cells of a frame of `n` stored bytes (R145). -/
def cellCount (n : Nat) : Nat := max 1 (ceilDiv n 128)

/-! ### AAD and P (R179, R180) -/

/-- Bytes ahead of the user data: the addresses and the clear tags. -/
def Frame.hdr (f : Frame) : Nat := 12 + 4 * f.clear

/-- Bytes of user data. -/
def Frame.userLen (f : Frame) : Nat := f.data.length - f.hdr

/-- Bytes of P (R180). -/
def Frame.textLen (f : Frame) : Nat := if f.enc then f.userLen - f.offset else 0

/-- Bytes of user data that stay in clear. -/
def Frame.clearUser (f : Frame) : Nat := f.userLen - f.textLen

/-- The AAD and the text of a frame. -/
def Frame.aad (f : Frame) : Bytes := f.data.take f.hdr ++ f.secTag ++ Sys2Proof.slice f.hdr f.clearUser f.data
def Frame.text (f : Frame) : Bytes := f.data.drop (f.hdr + f.clearUser)

/-- Bytes of data in the first `k` cells; of AAD and of P that they bring, the SecTAG inserted behind the clear tags. -/
def Frame.dataBy (f : Frame) (k : Nat) : Nat := min f.data.length (128 * k)
def Frame.aadBy (f : Frame) (k : Nat) : Nat :=
  if f.dataBy k < f.hdr then f.dataBy k else min f.aad.length (f.dataBy k + f.secTag.length)
def Frame.textBy (f : Frame) (k : Nat) : Nat := f.dataBy k - (f.hdr + f.clearUser)

/-! ### Counter blocks (R181, R197) -/

/-- Counter block `n` of an IV, encrypted: block 1 is the tag mask, block 2 covers the first bytes of P. -/
def counterBlock (key : Bytes) (iv n : Nat) : Bytes := aesEnc key (beBytes 12 iv ++ beBytes 4 (n % 2 ^ 32))

/-- The keystream of the `n` bytes of P from byte `a` on. -/
def keystream (key : Bytes) (iv a n : Nat) : Bytes :=
  ((((List.range (ceilDiv (a + n) 16 - a / 16)).map (fun i => counterBlock key iv (a / 16 + i + 2))).flatten).drop (a % 16)).take n

/-- A turn of a frame has been issued: its first one makes the tag mask. -/
def GcmCtx.turn (key : Bytes) (first : Bool) (c : GcmCtx) : GcmCtx :=
  { c with nextCounter := (c.nextCounter + 8) % 2 ^ 32, tagMask := if first then beNat (counterBlock key c.iv 1) else c.tagMask }

/-! ### GHASH (R202) -/

/-- One step on a group of at most eight blocks, under the powers of H, H¹ first. -/
def ghashGroup (h : List Nat) (x : Nat) (bs : List Bytes) : Nat :=
  if bs = [] then x else
  (bs.zipIdx).foldl (fun a e =>
    a ^^^ gfMul ((if e.2 = 0 then x else 0) ^^^ beNat (fit 16 e.1)) (h.getD (bs.length - 1 - e.2) 0)) 0

/-- Zero bytes that fill `n` bytes up to whole blocks. -/
def padTo16 (n : Nat) : Bytes := List.replicate ((16 - n % 16) % 16) 0#8

/-- The aligner takes more bytes: at most eight whole blocks go into the step, and the rest is carried. -/
def absorb (h : List Nat) (x : Nat) (bytes : Bytes) : Nat × Bytes :=
  let n := 16 * min 8 (bytes.length / 16)
  (ghashGroup h x (chunks 16 (bytes.take n)), bytes.drop n)

/-- The length block. -/
def lengthBlock (c : GcmCtx) : Bytes := beBytes 8 (8 * c.aadBytes) ++ beBytes 8 (8 * c.textBytes)

/-- The context and the aligner after the bytes `aad` (the last of the AAD when `ends`) and the ciphertext `ct`. -/
def GcmCtx.take (h : List Nat) (carry aad : Bytes) (ends : Bool) (ct : Bytes) (c : GcmCtx) : GcmCtx × Bytes :=
  let n := c.aadBytes + aad.length
  let y := absorb h c.ghashX (carry ++ aad ++ (if ends then padTo16 n else []) ++ ct)
  ({ c with ghashX := y.1, aadBytes := n, textBytes := c.textBytes + ct.length }, y.2)

/-- The finish: the carried blocks, the padded partial block and the length block. -/
def GcmCtx.finish (h : List Nat) (carry : Bytes) (c : GcmCtx) : GcmCtx :=
  { c with ghashX := ghashGroup h c.ghashX (chunks 16 (carry ++ padTo16 carry.length) ++ [lengthBlock c]) }

/-- The tag. -/
def GcmCtx.tag (c : GcmCtx) : Bytes := beBytes 16 (c.ghashX ^^^ c.tagMask)

/-! ### A cell at the keystream stage (E12, D8) -/

/-- What cell `applied` of a protected frame leaves as, with its context: encrypted behind its share of the AAD, or decrypted. -/
def Frame.gcmCell (f : Frame) (c : GcmCtx) : Frame :=
  let k := f.applied + 1
  let aad := (f.aad.take (f.aadBy k)).drop c.aadBytes
  let p := (f.text.take (f.textBy k)).drop c.textBytes
  let out := xorBytes p (keystream (f.schedKey.getD []) c.iv c.textBytes p.length)
  let y := c.take f.h f.carry aad (f.aadBy k == f.aad.length && decide (c.aadBytes < f.aad.length)) (if f.decrypt then p else out)
  let clear := if f.decrypt then (f.data.take (min (f.dataBy k) (f.hdr + f.clearUser))).drop (128 * f.applied) else aad
  { f with ctx := some y.1, carry := y.2, full := f.full ++ clear ++ out, applied := k }

/-- The next cell of a frame passes: a clear one as it is. -/
def Frame.passOne (f : Frame) : Frame :=
  if f.prot then f.ctx.elim f f.gcmCell
  else { f with full := f.full ++ Sys2Proof.slice (128 * f.applied) 128 f.data, applied := f.applied + 1 }

/-- All cells of a frame have passed: the ICV is appended and the entry freed (encrypt), or the frame is held for its tail
(decrypt); R148, R198. -/
def Frame.endCells (f : Frame) : Frame :=
  if ¬ f.prot then { f with stage := .sending } else
  let c := f.ctx.map (GcmCtx.finish f.h f.carry)
  if f.decrypt then { f with ctx := c, carry := [], stage := .tail }
  else { f with full := f.full ++ c.elim [] GcmCtx.tag, ctx := none, carry := [], stage := .sending }

/-- The ICV agrees. -/
def Frame.icvGood (f : Frame) : Bool := f.ctx.elim false (fun c => c.tag == f.icv)

/-- A frame of which nothing follows behind byte `n`: one whose cells have all passed then ends. -/
def Frame.cutAt (f : Frame) (n : Nat) : Frame :=
  let g := { f with data := f.data.take n }
  if f.applied ≠ 0 ∧ cellCount g.data.length ≤ f.applied ∧ f.applied < cellCount f.data.length then g.endCells else g

end Sys2Proof.Machine
end

