-- ==== Sys2Proof/Machine/Frames.lean ====
section
/-!
DEFINITION. Ports and frames in flight as every family shares them: port shapes and speeds (R93, R97), the signalling
row of a port (R105), flow control toward the partner (R104, R267), the buffer cells of a frame (R266), lap counts
(R275), and how a frame is discarded (R86, R156, R162, R170).
-/
namespace Sys2Proof.Machine

/-! ### Port shapes (R97) -/

/-- Lanes, speed in Gb/s and lane rate code of a PORT_MODE. -/
def modeLanes (m : Nat) : Nat :=
  if m = 1 ∨ m = 3 then 1 else if m = 2 ∨ m = 5 then 2 else if m = 4 ∨ m = 7 then 4 else if m = 6 ∨ m = 8 then 8 else 0
def modeSpeed (m : Nat) : Nat :=
  if m = 1 then 50 else if m = 2 ∨ m = 3 then 100 else if m = 4 ∨ m = 5 then 200 else
  if m = 6 ∨ m = 7 then 400 else if m = 8 then 800 else 0
def modeRate (m : Nat) : Nat :=
  if m = 1 ∨ m = 2 ∨ m = 4 ∨ m = 6 then 1 else if m = 3 ∨ m = 5 ∨ m = 7 ∨ m = 8 then 2 else 0

namespace Device

def portOf (d : Device) (p : Nat) : PortX := Sparse.get (fun _ => PortX.empty) d.ports p
def setPort (d : Device) (p : Nat) (x : PortX) : Device :=
  { d with ports := Sparse.put (fun _ => PortX.empty) d.ports p x }

def portEnabled (d : Device) (p : Nat) : Bool := d.rd O.PORT_MODE p != 0
def portSpeed (d : Device) (p : Nat) : Nat := modeSpeed (d.rd O.PORT_MODE p)

/-- The enabled port that lane `l` belongs to. -/
def laneOwner (d : Device) (l : Nat) : Option Nat :=
  ((List.range 8).map (fun k => l / 8 * 8 + k)).find? (fun p =>
    d.portEnabled p && decide (p ≤ l) && decide (l < p + modeLanes (d.rd O.PORT_MODE p)))

/-- LANE_RATE (R93, R94): the rate of the enabled ports of the lane's quad. -/
def laneRate (d : Device) (l : Nat) : Nat :=
  (((List.range 4).map (fun k => l / 4 * 4 + k)).findSome? (fun l =>
    (d.laneOwner l).map (fun p => modeRate (d.rd O.PORT_MODE p)))).getD 0

/-- A lane of the port has failed calibration: the lane stays idle and the port down (R88, R96). -/
def portFailed (d : Device) (p : Nat) : Bool :=
  (List.range (modeLanes (d.rd O.PORT_MODE p))).any (fun k => d.rd O.LANE_ADAPT (p + k) == 4)

/-- The mode carries frames: RUN or DRAIN (R79). -/
def carrying (d : Device) : Bool := d.mode == .run || d.mode == .drain

/-- Row of R105 in force for port `p` (PORT_TX_SIGNAL). -/
def portSignal (d : Device) (p : Nat) : Nat :=
  let st := d.rd O.SLICE_STATE (sliceOfPort p)
  let partner := d.rd O.PORT_FAULT_PARTNER p
  let link := d.rd O.PORT_LINK partner
  if d.mode = .reset ∨ d.mode = .boot ∨ st = 3 ∨ st = 4 ∨ ¬ d.portEnabled p ∨ d.rd O.LANE_PRBS p ≠ 0 then 0
  else if ¬ d.carrying ∨ st = 2 ∨ st = 5 then 1
  else if partner ≠ 0xFFFF ∧ link ≠ 5 ∧ link ≠ 6 then 2
  else if d.portFailed p then 3
  else if d.rd O.PORT_LINK p ≠ 6 ∧ ((d.portOf p).rx = .localFault ∨ (d.portOf p).rx = .noSignal ∨ (d.portOf p).rx = .noAlign) then 3
  else if d.rd O.PORT_LINK p ≠ 6 ∧ (d.portOf p).rx = .remoteFault then 3
  else 4

/-- What a port transmits (R105): nothing, the PRBS pattern, Remote or Local Fault ordered sets, idles, or frames. -/
inductive TxSignal where
  | idleElectrically | prbs | remoteFault | localFault | idle | frames
deriving DecidableEq, Repr

/-- The fault ordered sets of a port: Remote Fault on the line side, Local Fault on the host side (R105). -/
def faultSets (p : Nat) : TxSignal := if isLine p then .remoteFault else .localFault

/-- What port `p` transmits, by the row of R105 in force. Row 3 of PORT_TX_SIGNAL is Remote Fault after a received Local Fault
and idle after a received Remote Fault. -/
def portTransmit (d : Device) (p : Nat) : TxSignal :=
  match d.portSignal p with
  | 0 => if d.rd O.LANE_PRBS p ≠ 0 ∧ d.mode ≠ .reset ∧ d.mode ≠ .boot ∧ d.rd O.SLICE_STATE (sliceOfPort p) ≠ 3 ∧
            d.rd O.SLICE_STATE (sliceOfPort p) ≠ 4 then .prbs else .idleElectrically
  | 1 | 2 => faultSets p
  | 3 => if d.portFailed p = false ∧ (d.portOf p).rx = .remoteFault then .idle else .remoteFault
  | _ => .frames

/-- The port carries frames (R91, R105). -/
def portSends (d : Device) (p : Nat) : Bool := d.portSignal p == 4

/-- The slice is ACTIVE and its ports are in a mode that carries frames (R91). -/
def sliceCarries (d : Device) (s : Nat) : Bool := d.rd O.SLICE_STATE s == 1 && d.carrying

/-! ### XOFF and XON toward the partner (R104, R267) -/

/-- The pause or PFC frame of port `p` with `quanta` for the classes `cs`, up to its FCS (R102, R104): to
01-80-C2-00-00-01 from PORT_MAC_ADDR, and padded to 60 bytes. The places of opcode, class vector and quanta are those of
802.3 and 802.1Q (PRESUMED, log entry 21). -/
def flowFrame (d : Device) (p : Nat) (cs : List Nat) (quanta : Nat) : Bytes :=
  fit 60 (beBytes 6 0x0180C2000001 ++ leBytes 6 (d.rd O.PORT_MAC_ADDR p) ++ beBytes 2 0x8808 ++
    (if d.rd O.PORT_FC p = 2 then
      beBytes 2 0x0101 ++ beBytes 2 ((cs.map (fun c => 2 ^ c)).sum) ++
        (List.range 8).flatMap (fun c => beBytes 2 (if cs.contains c then quanta else 0))
    else beBytes 2 0x0001 ++ beBytes 2 quanta))

/-- XOFF of class `c` goes out: counted, and the next one is due half the quanta later. -/
def noteXoff (p quanta : Nat) (d : Device) (c : Nat) : Device :=
  let d := d.setPort p { d.portOf p with xoffAt := natPut (d.portOf p).xoffAt c d.cyc }
  if quanta = 0 then d else d.inc64 (O.PORT_FC_TX_XOFF_C0 + c % 8) p

/-- Send one pause or PFC frame of the port for the classes `cs` (R104). -/
def sendFlow (d : Device) (p : Nat) (cs : List Nat) (quanta : Nat) : Device :=
  if cs ≠ [] ∧ d.portSends p then cs.foldl (noteXoff p quanta) (d.emit (.macControl p (d.flowFrame p cs quanta)))
  else d

/-- Set or clear one cause that holds class `c` of port `p`. -/
def markHold (p cause : Nat) (on : Bool) (d : Device) (c : Nat) : Device :=
  d.setPort p { d.portOf p with holds := natPut (d.portOf p).holds c (setBit (natAt (d.portOf p).holds c) cause on) }

/-- Set or clear one cause that holds the classes `cs` of port `p`: for a class, the first cause sends XOFF and the last
XON; the classes that change together share one frame. -/
def setHolds (d : Device) (p cause : Nat) (on : Bool) (cs : List Nat) : Device :=
  let news := cs.filter (fun c => natAt (d.portOf p).holds c == 0 && on)
  let ends := cs.filter (fun c => natAt (d.portOf p).holds c != 0 && setBit (natAt (d.portOf p).holds c) cause on == 0)
  let d := cs.foldl (markHold p cause on) d
  (d.sendFlow p news 0xFFFF).sendFlow p ends 0

/-- The classes a cause of the buffer or the call room holds on port `p`: the lossless classes of a PFC port, the one
class of a pause port (R102, R251, R270). -/
def flowClasses (d : Device) (p : Nat) : List Nat :=
  if d.rd O.PORT_FC p = 2 then (List.range 8).filter (fun c => (d.rd O.PORT_PFC_LOSSLESS p).testBit c)
  else if d.rd O.PORT_FC p = 1 then [0] else []

/-- The enabled ports of slice `s`, both sides. -/
def slicePorts (d : Device) (s : Nat) : List Nat :=
  (((List.range 8).map (fun k => 8 * s + k)) ++ ((List.range 8).map (fun k => 32 + 8 * s + k))).filter d.portEnabled

/-- Every port row of the part. -/
def allPorts (d : Device) : List Nat := (List.range 64).filter (fun p => d.laneOk p)

/-! ### Lap counts (R275) -/

def setLaps (d : Device) (x : LapX) : Device := { d with laps := x }

/-- Set flag bits of the open lap. -/
def lapFlag (d : Device) (b : Nat) : Device := d.setLaps { d.laps with flags := d.laps.flags ||| b }

/-- Add to the open lap's counters of queue `q`. -/
def lapAdd (d : Device) (q : Nat) (f : LapCnt → LapCnt) : Device :=
  let l := Sparse.put (fun _ => LapCnt.zero) d.laps.open_ q (f (Sparse.get (fun _ => LapCnt.zero) d.laps.open_ q))
  d.setLaps { d.laps with open_ := l }

def lapOther (d : Device) (q len : Nat) : Device :=
  d.lapAdd q (fun c => { c with othFrames := c.othFrames + 1, othBytes := c.othBytes + len })
def lapProtected (d : Device) (q len : Nat) : Device :=
  d.lapAdd q (fun c => { c with protFrames := c.protFrames + 1, protBytes := c.protBytes + len })
def lapPolice (d : Device) (q len : Nat) : Device :=
  d.lapAdd q (fun c => { c with polFrames := c.polFrames + 1, polBytes := c.polBytes + len })
def lapExcess (d : Device) (q len : Nat) : Device := d.lapAdd q (fun c => { c with excess := c.excess + len })

/-! ### Frames and their cells -/

def setPipe (d : Device) (x : PipeX) : Device := { d with pipe := x }
def setFrames (d : Device) (l : List Frame) : Device := d.setPipe { d.pipe with frames := l }

/-- The frame with number `id`. -/
def frame? (d : Device) (id : Nat) : Option Frame := d.pipe.frames.find? (fun f => f.id == id)

/-- Replace the frame of the same number. -/
def setFrame (d : Device) (f : Frame) : Device :=
  d.setFrames (d.pipe.frames.map (fun g => if g.id = f.id then f else g))

def queueOf (d : Device) (q : Nat) : QueueX := Sparse.get (fun _ => QueueX.idle d.pipe.idleTag) d.queues q
def setQueue (d : Device) (q : Nat) (x : QueueX) : Device :=
  { d with queues := Sparse.put (fun _ => QueueX.idle d.pipe.idleTag) d.queues q x }
def nodeOf (d : Device) (n : Nat) : NodeX := Sparse.get (fun _ => NodeX.empty) d.nodes n
def setNode (d : Device) (n : Nat) (x : NodeX) : Device := { d with nodes := Sparse.put (fun _ => NodeX.empty) d.nodes n x }
def pairOf (d : Device) (k : Nat) : PairX := Sparse.get (fun _ => PairX.empty) d.pairs k
def setPair (d : Device) (k : Nat) (x : PairX) : Device := { d with pairs := Sparse.put (fun _ => PairX.empty) d.pairs k x }

end Device

/-- The tenant of a frame is known (R275); `0xFFFF` stands for none, as in R166. -/
def Frame.known (f : Frame) : Bool := f.ca != 0xFFFF

/-- The tenant queue of a frame (R254). -/
def Frame.q (f : Frame) : Nat := 2 * f.ca + boolNat f.decrypt

/-- The port-class node of a frame (R255). -/
def Frame.node (f : Frame) : Nat := 8 * f.egress + f.cls

/-- The (ingress port, class) pair of a frame (R267): a pause port has one pair. -/
def Frame.pairKey (f : Frame) : Nat := 8 * f.port + f.cls

/-- The slice a frame is in, and its slice-direction 2s + d. -/
def Frame.slice (f : Frame) : Nat := sliceOfPort f.port
def Frame.sd (f : Frame) : Nat := 2 * f.slice + boolNat f.decrypt

/-- The parity bit of a link word: even over handle and count (the sense is a DESIGN CHOICE, log entry 33). -/
def linkParity (next valid : Nat) : Bool :=
  ((List.range 18).map (fun i => boolNat (next.testBit i)) ++ (List.range 7).map (fun i => boolNat (valid.testBit i))).sum % 2 == 1

/-- The last cell of a frame, of `n` valid bytes: a count of 0 stands for 128 (R144). -/
def Cell.last (handle n : Nat) (src : CellSrc) : Cell := ⟨handle, src, 0, n % 128, linkParity 0 (n % 128)⟩

/-- The cells of a frame with the last one linked to `handle`. -/
def linkTo (handle : Nat) : List Cell → List Cell
  | [] => []
  | [c] => [{ c with next := handle, parity := linkParity handle c.valid }]
  | c :: l => c :: linkTo handle l

namespace Device

/-- The row of the frame buffer that a handle stands for has been retired (R404, R406). -/
def handleLost (d : Device) (h : Nat) : Bool := d.sram.retired.contains (96 + h / 2048, h % 2048)

/-- The first handle from `h` on that is not lost. -/
def nextHandle (d : Device) (h : Nat) : Nat :=
  (((List.range (d.sram.retired.length + 1)).map (· + h)).find? (fun x => !d.handleLost x)).getD h

/-- Take a handle: the one returned earliest, else the lowest never used (DESIGN CHOICE, log entry 33). -/
def takeHandle (d : Device) : Nat × Device :=
  match d.pipe.freed with
  | h :: l => (h, d.setPipe { d.pipe with freed := l })
  | [] => (d.nextHandle d.pipe.nextCell, d.setPipe { d.pipe with nextCell := d.nextHandle d.pipe.nextCell + 1 })

/-- A handle comes back. -/
def giveHandle (d : Device) (h : Nat) : Device :=
  if d.handleLost h then d else d.setPipe { d.pipe with freed := d.pipe.freed ++ [h] }

/-- The next cell of `f` stands in the buffer, taken from `src`. -/
def addCell (d : Device) (f : Frame) (src : CellSrc) : Frame × Device :=
  let x := d.takeHandle
  ({ f with cells := linkTo x.1 f.cells ++ [Cell.last x.1 (min 128 (f.data.length - 128 * f.taken)) src], taken := f.taken + 1 }, x.2)

/-- The cycle at which cell `n` of a frame has arrived: cell 0 at clock 0, later ones at the rate of the ingress port, the last
with the frame's end (R146). -/
def cellArrives (d : Device) (f : Frame) (n : Nat) : Nat :=
  if cellCount f.data.length ≤ n + 1 then f.ends else f.arrival + ceilDiv (1280 * n) (max 1 (d.portSpeed f.port))

/-- How many cells of a frame have arrived. -/
def cellsArrived (d : Device) (f : Frame) : Nat :=
  ((List.range (cellCount f.data.length)).filter (fun n => decide (d.cellArrives f n ≤ d.cyc))).length

/-- The bytes of a frame that have been received: of one still arriving, those of its whole clocks (R146, R163). -/
def bytesReceived (d : Device) (f : Frame) : Nat :=
  if f.ends ≤ d.cyc then f.data.length else min f.data.length (128 + (d.cyc - f.arrival) * d.portSpeed f.port / 10)

/-- The pair key of a frame on this device: class 0 on a pause port. -/
def pairKeyOf (d : Device) (f : Frame) : Nat := if d.rd O.PORT_FC f.port = 1 then 8 * f.port else f.pairKey

/-- Count cells of a partition up or down (R265). -/
def useCell (d : Device) (row : Nat) : Device :=
  let n := d.rd O.BUFP_USED_CELLS row + 1
  let d := d.wr O.BUFP_USED_CELLS row n
  if d.rd O.BUFP_PEAK_CELLS row < n then d.wr O.BUFP_PEAK_CELLS row n else d
def unuseCell (d : Device) (row : Nat) : Device := d.wr O.BUFP_USED_CELLS row (d.rd O.BUFP_USED_CELLS row - 1)

/-- XON of a lossless pair when its cells allow it (R267). -/
def pairXon (d : Device) (k : Nat) : Device :=
  let x := d.pairOf k
  let p := k / 8
  if x.slack = 0 ∧ x.headroom = 0 ∧ x.shared ≤ d.rd O.BUF_LL_XOFF_CELLS p - d.rd O.BUF_LL_XON_GAP p then
    (d.setPair k { x with refused := false }).setHolds p 0 false [k % 8]
  else d

/-- Free one cell of a frame; it returns to the source it came from (R266). -/
def freeCell (f : Frame) (d : Device) (c : Cell) : Device :=
  let k := d.pairKeyOf f
  let x := d.pairOf k
  let d := d.giveHandle c.handle
  let d := match c.src with
    | .part r => d.unuseCell r
    | .shared => (d.unuseCell 0).setQueue f.q { d.queueOf f.q with shared := (d.queueOf f.q).shared - 1 }
    | .lossless => ((d.unuseCell 0).setPair k { x with shared := x.shared - 1 }).pairXon k
    | .slack => ((d.unuseCell 2).setPair k { x with slack := x.slack - 1 }).pairXon k
    | .headroom => (((d.unuseCell 1).setPair k { x with headroom := x.headroom - 1 }).wr O.BUF_HEADROOM_USED f.port
        (d.rd O.BUF_HEADROOM_USED f.port - 1)).pairXon k
  if f.reason = 0 ∧ f.ring = none then d.wr O.QUEUE_OCCUPANCY f.q (d.rd O.QUEUE_OCCUPANCY f.q - 1) else d

/-- Free every cell a frame still holds. -/
def freeCells (d : Device) (f : Frame) : Device := (f.cells.foldl (freeCell f) d).setFrame { f with cells := [] }

/-- Update QUEUE_NODE from the head of the queue (R254, R263). -/
def refreshNode (d : Device) (q : Nat) : Device :=
  d.wr O.QUEUE_NODE q (match (d.queueOf q).frames with
    | [] => 0xFFFF
    | id :: _ => ((d.frame? id).map Frame.node).getD 0xFFFF)

/-- Take a frame out of its tenant or inject queue. -/
def unqueue (d : Device) (f : Frame) : Device :=
  if f.ring.isSome then
    d.setNode f.node { d.nodeOf f.node with inject := (d.nodeOf f.node).inject.filter (fun i => i != f.id) }
  else
    (d.setQueue f.q { d.queueOf f.q with frames := (d.queueOf f.q).frames.filter (fun i => i != f.id) }).refreshNode f.q

/-- Recount the call room of a slice (R157, R251): occupancy, peak, and the XOFF it asks for. -/
def callroomRecount (d : Device) (s : Nat) : Device :=
  let n := (d.pipe.frames.filter (fun f => f.slice == s && (f.stage == .parked || f.stage == .waiting))).length
  let d := d.wr O.CALLROOM_OCCUPANCY s n
  let d := if d.rd O.CALLROOM_PEAK s < n then d.wr O.CALLROOM_PEAK s n else d
  let t := d.rd O.CALLROOM_XOFF_THRESHOLD s
  if t ≤ n then (d.slicePorts s).foldl (fun d p => d.setHolds p 1 true (d.flowClasses p)) d
  else if n + 512 ≤ t then (d.slicePorts s).foldl (fun d p => d.setHolds p 1 false (d.flowClasses p)) d
  else d

/-- Overtake-log entries with no older parked frame of their port leave the log (R159). -/
def pruneOvertake (d : Device) : Device :=
  d.setPipe { d.pipe with overtake := d.pipe.overtake.filter (fun e =>
    d.pipe.frames.any (fun f => f.port == e.1 && (f.stage == .parked || f.stage == .waiting) && decide (f.id < e.2.2))) }

/-- Remove a frame from the device altogether. -/
def removeFrame (d : Device) (f : Frame) : Device :=
  let d := d.freeCells f
  let d := if f.stage = .queued then d.unqueue f else d
  let d := d.setFrames (d.pipe.frames.filter (fun g => g.id != f.id))
  if f.stage = .parked ∨ f.stage = .waiting then (d.callroomRecount f.slice).pruneOvertake else d

/-- Complete the inject descriptor of frame `f` of ring `n` with status 0x0004 and a detail code (R168). The bytes of its
buffer have been transferred. -/
def injectRefuse (d : Device) (f : Frame) (n detail : Nat) : Device :=
  (d.dmaFinish n f.id 4 (f.len - 4) (leBytes 12 0 ++ leBytes 2 detail ++ leBytes 2 0)).inc64 O.INJECT_REFUSED

/-- The counts of a frame that is discarded: the lost PN (R182, R194), and the lap's other drops (R275), unless its commit has counted
it as protected. -/
def countLost (d : Device) (f : Frame) : Device :=
  let d := if ¬ f.decrypt ∧ f.prot ∧ f.pn ≠ 0 then d.inc64 O.SA_STAT_TX_LOST f.sa else d
  if f.known ∧ f.ring = none ∧ ¬ f.committed then d.lapOther f.q f.len else d

/-- Cells of slice-direction `sd` that have passed and have no clock yet (R400). -/
def slotCells (d : Device) (sd : Nat) : Nat := natAt d.pmc.cells sd
def setSlotCells (d : Device) (sd n : Nat) : Device := d.setPmc { d.pmc with cells := natPut d.pmc.cells sd n }

/-- Slots whose cells or keystream end: retired (0x02) or wasted (0x03). -/
def endSlots (d : Device) (sd code n : Nat) : Device := if n = 0 then d else d.pmcSlice sd code n passAll

/-- The precomputed cells of a prediction that did not hold are zeroed and counted, and so is the false start (R155, R170). -/
def falseStart (d : Device) (f : Frame) (p : Pred) : Device :=
  let d := (d.inc64 O.RUNAHEAD_FALSE_STARTS f.slice).add64 O.RUNAHEAD_WASTED_CELLS f.slice p.cells
  let d := d.pmcSlice f.sd 0x0A 1 (passFrame f false)
  (d.endSlots f.sd 0x03 p.cells).setSlotCells f.sd (d.slotCells f.sd + p.cells)

/-- The frame is on the lane: handed over, and not held for its scheduled departure (R124). -/
def onLane (f : Frame) : Bool := f.sent != 0 && (f.depart.isNone || f.tcDone)

/-- Frame `g` was scheduled to the egress port of `f` before it. -/
def ahead (f g : Frame) : Bool :=
  g.egress == f.egress && (g.stage == .started || g.stage == .sending || g.stage == .tail) &&
  (decide (g.started < f.started) || (g.started == f.started && decide (g.id < f.id)))

/-- A frame that the egress MAC holds begins to leave when no frame is ahead of it: its first bit goes `gap` (2⁻¹⁶ ns) from now
(R115, R123). -/
def macStart (gap : Int) (d : Device) (f : Frame) : Device :=
  if onLane f ∧ f.txAt = none ∧ d.pipe.frames.all (fun g => !ahead f g) then
    d.setFrame { f with txAt := some (d.clk.stepless + gap) } else d

/-- The frame of port `p` whose turn it is begins to leave. -/
def macStarts (d : Device) (p : Nat) (gap : Int) : Device :=
  (d.pipe.frames.filter (fun f => f.egress == p)).foldl (macStart gap) d

/-- Preamble and inter-frame gap, 20 bytes on average (R101), in 2⁻¹⁶ ns. -/
def macGap (d : Device) (p : Nat) : Int := ((160 * 65536 / max 1 (d.portSpeed p) : Nat) : Int)

/-- Drop a frame whole: nothing of it has left (R162). -/
def dropWhole (d : Device) (f : Frame) : Device :=
  let d := (f.pred.elim d (d.falseStart f)).endSlots f.sd 0x03 f.applied
  ((d.countLost f).removeFrame f).macStarts f.egress 0

/-- Count a transmitted frame of `n` bytes (R101). -/
def txCount (d : Device) (p n : Nat) : Device := (d.inc64 O.PORT_TX_FRAMES p).add64 O.PORT_TX_BYTES p n

/-- Bytes of a frame that its egress MAC has been handed: whole cells, the first with the SecTAG, the last with the ICV. -/
def sentBytes (f : Frame) : Nat :=
  if f.sent = 0 then 0 else if f.data.length ≤ 128 * f.sent then f.full.length
  else 128 * f.sent + (if f.decrypt then 0 else f.secTag.length)

/-- End a frame in transmission with an error control block (R86, R101). -/
def truncateFrame (d : Device) (f : Frame) : Device :=
  let d := (d.txCount f.egress (sentBytes f)).inc64 O.PORT_TX_TRUNCATED f.egress
  (d.emit (.truncated f.egress)).dropWhole f

/-- The inject ring whose descriptor the frame has not completed. -/
def openRing (f : Frame) : Option Nat := if f.done then none else f.ring


/-- Traffic stops under a frame (R86, R170): it is truncated when it is being sent, else discarded; an injected frame's
descriptor completes with detail 0x0007. -/
def stopFrame (d : Device) (f : Frame) : Device :=
  let d := (openRing f).elim d (fun n => d.injectRefuse f n 7)
  if onLane f then d.truncateFrame f else d.dropWhole f

/-- Stop every frame of the slices that `sel` selects. -/
def stopFrames (d : Device) (sel : Nat → Bool) : Device :=
  (d.pipe.frames.filter (fun f => sel f.slice)).foldl stopFrame d

/-- How many frames that stops. -/
def stopCount (d : Device) (sel : Nat → Bool) : Nat := (d.pipe.frames.filter (fun f => sel f.slice)).length

/-- Drop a frame whole; the descriptor of an injected one completes with detail 0x0007 (R168). -/
def dropOpen (d : Device) (f : Frame) : Device :=
  (openRing f).elim (d.dropWhole f) (fun n => (d.injectRefuse f n 7).dropWhole f)

/-- Discard a frame for a reason that leaves the device running: poisoned when a cell has left, dropped whole
otherwise (R162). -/
def discardFrame (d : Device) (f : Frame) : Device :=
  if f.sent ≠ 0 then d.setFrame { f with poison := true } else d.dropOpen f

/-- Discard a frame whose GCM context is lost: poisoned after the cells that have passed the keystream stage, or dropped whole
(R162, R163). The ICV that an encrypted one still ends with is then a free value: the spec gives none (log entry 34). -/
def cutShort (d : Device) (f : Frame) : Device :=
  if f.sent = 0 then d.dropOpen f else
  let open_ := f.prot && f.ctx.isSome
  let icv := if open_ && !f.decrypt then beBytes 16 d.unstated.1 else []
  let d := if open_ && !f.decrypt then d.unstated.2 else d
  d.freeCells { f with poison := true, data := if open_ then f.data.take (128 * f.applied) else f.data, full := f.full ++ icv,
                       ctx := none, stage := .sending, sent := f.applied, settled := true }

/-- A frame that has been counted as received without error (R100) is not: taken out of the counts of its port. -/
def uncountRx (d : Device) (f : Frame) : Device :=
  (d.sub64 O.PORT_RX_FRAMES f.port 1).sub64 O.PORT_RX_BYTES f.port (f.data.length + 4 + f.secTag.length + f.icv.length)

/-- The reception of a frame ends early: what has been received is all there is of it, and it is discarded (R108, R163). -/
def cutReception (d : Device) (f : Frame) : Device :=
  if f.ends ≤ d.cyc then d else
  let g := { f.cutAt (d.bytesReceived f) with bad := true, ends := d.cyc }
  ((if f.bad then d else d.uncountRx f).setFrame g).discardFrame g

/-! ### Ingress staging (R270) -/

/-- The ingress ports of a slice-direction. -/
def sdIngress (sd : Nat) : List Nat := (List.range 8).map (fun k => (if sd % 2 = 0 then 0 else 32) + 8 * (sd / 2) + k)

/-- Cells in the ingress staging of a slice-direction: they move on at one in a clock (R146, R169). Cells behind cell 0 come in
more slowly than that and add nothing (DEDUCED, log entry 36). -/
def staged (d : Device) (sd : Nat) : Nat := (d.pipe.staged.find? (fun e => e.1 == sd)).elim 0 (fun e => e.2.1 - (d.cyc - e.2.2))

def setStaged (d : Device) (sd n : Nat) : Device :=
  d.setPipe { d.pipe with staged := (sd, n, d.cyc) :: d.pipe.staged.filter (fun e => e.1 != sd) }

/-- XOFF toward the ingress ports at 128 cells, XON below 64. -/
def stageHolds (d : Device) (sd : Nat) : Device :=
  let n := d.staged sd
  let ps := (sdIngress sd).filter d.portEnabled
  if 128 ≤ n then ps.foldl (fun d p => d.setHolds p 2 true (d.flowClasses p)) d
  else if n < 64 then ps.foldl (fun d p => d.setHolds p 2 false (d.flowClasses p)) d
  else d

/-- One more cell in the staging of a slice-direction. -/
def stageCell (d : Device) (sd : Nat) : Device := (d.setStaged sd (d.staged sd + 1)).stageHolds sd

/-! ### Banks and contexts -/

def bankOf (d : Device) (b : Nat) : BankX := Sparse.get (fun _ => BankX.empty) d.banks b
def setBank (d : Device) (b : Nat) (x : BankX) : Device := { d with banks := Sparse.put (fun _ => BankX.empty) d.banks b x }

/-- Clear the key-schedule caches of the selected slices' banks (R205). A mismatch whose retrial is outstanding still brings its
strike, and a takeover completes (R212). -/
def clearBanks (d : Device) (sel : Nat → Bool) : Device :=
  ((List.range 8).filter (fun b => sel (b / 2))).foldl
    (fun d b => d.setBank b { d.bankOf b with cache := [], loads := [] }) d

/-- The known-answer test of a core has run (R209). -/
def setKat (d : Device) (b core : Nat) : Device := d.setBank b { d.bankOf b with katAt := natPut (d.bankOf b).katAt core d.cyc }

/-- The tests of every core of the selected slices' banks, at BOOT and at RETURN: those that no command has run run now and
pass (R92, R208, R209; log entry 35). -/
def runKats (d : Device) (sel : Nat → Bool) : Device :=
  ((List.range (2 * d.slices)).filter (fun b => sel (b / 2))).foldl (fun d b =>
    ((List.range 9).filter (fun k => !(d.rd O.BANK_RETIRED_MASK b).testBit k)).foldl (fun d k => d.setKat b k) d) d

/-- Drop slot `slot` from every bank's cache (R205). -/
def uncache (d : Device) (slot : Nat) : Device :=
  (List.range 8).foldl (fun d b => d.setBank b { d.bankOf b with cache := (d.bankOf b).cache.filter (fun e => e.slot != slot) }) d

end Device
end Sys2Proof.Machine
end

