-- ==== Sys2Proof/Machine/Reactions.lean ====
section
/-!
DEFINITION. What a fault does: its class and record (R368 to R370), the reaction of the class (R371), entry to SAFE
(R79 to R81), zeroization (R297) and the closing of sessions (R67). Every family raises its faults through `fault`.
-/
namespace Sys2Proof.Machine
namespace Device

/-! ### Zeroization (R297) -/

/-- The objects of type KEYREF. -/
def keyrefObjs : List Nat := [O.ROLE_ROOT, O.VAULT_ARG_KEY, O.VAULT_RESULT_HANDLE, O.SA_KEK, O.PEER_KEY]

/-- Every KEYREF object that names slot `k` reads 0 afterwards. -/
def clearRefs (d : Device) (k : Nat) : Device :=
  (d.dict.filter (fun e => keyrefObjs.contains (e.1 / 2 ^ 24) && e.2 % 65536 == k && e.2 != 0)).foldl
    (fun d e => d.wrCmd (e.1 / 2 ^ 24) (e.1 % 2 ^ 24) 0) d

/-- The objects of a vault slot, as an EMPTY slot reads them. -/
def clearSlotObjs (d : Device) (k : Nat) : Device :=
  ([O.VAULT_STATE, O.VAULT_HANDLE, O.VAULT_LEVEL, O.VAULT_PURPOSE, O.VAULT_KEY_BITS, O.VAULT_COUNTED, O.VAULT_USES_LEFT,
    O.VAULT_ORIGIN, O.VAULT_PARENT, O.VAULT_CREATED_AT]).foldl (fun d o => d.clr o k) d

/-- Overwrite vault slot `k` with zeros. -/
def zeroSlot (d : Device) (k : Nat) : Device :=
  if d.rd O.VAULT_STATE k = 0 then d else
  ((d.clearRefs k).setVault k { VaultX.empty with gen := (d.vaultOf k).gen }).clearSlotObjs k

def recOf (d : Device) (pr : Nat) : SaRec := Sparse.get (fun _ => SaRec.empty) d.sas.recs pr
def setRec (d : Device) (pr : Nat) (x : SaRec) : Device :=
  { d with sas := { d.sas with recs := Sparse.put (fun _ => SaRec.empty) d.sas.recs pr x } }
def ctxOf (d : Device) (slot : Nat) : SaCtx := Sparse.get (fun _ => SaCtx.empty) d.sas.ctxs slot
def setCtx (d : Device) (slot : Nat) (x : SaCtx) : Device :=
  { d with sas := { d.sas with ctxs := Sparse.put (fun _ => SaCtx.empty) d.sas.ctxs slot x } }
def setHoldUntil (d : Device) (sc v : Nat) : Device :=
  { d with sas := { d.sas with holdUntil := natPut d.sas.holdUntil sc v } }
def setLastPn (d : Device) (sc v : Nat) : Device :=
  { d with sas := { d.sas with lastPn := natPut d.sas.lastPn sc v } }

/-- Change the state of an SA; the change records its time (R219). -/
def setSaState (d : Device) (pr st : Nat) : Device := (d.wr O.SA_STATE pr st).wr O.SA_CHANGED_AT pr d.phcTime

/-- The provisioned row that holds a resident slot (R216). -/
def slotRow (d : Device) (slot : Nat) : Nat :=
  if slot % 2 = 0 then d.rd O.SCSA_SLOT0_ROW (slot / 2) else d.rd O.SCSA_SLOT1_ROW (slot / 2)

/-- The resident slots that hold a context of SA `pr`: its own, and one that frames of an earlier life of the row still need
(R219). -/
def slotsOf (d : Device) (pr : Nat) : List Nat :=
  [2 * (pr / 4), 2 * (pr / 4) + 1].filter (fun k => d.slotRow k == pr)

/-- Free resident slot `slot` of row `pr`: zeroed, out of the caches (R205, R219). -/
def freeSlotOf (pr : Nat) (d : Device) (slot : Nat) : Device :=
  let d := (d.setCtx slot SaCtx.empty).uncache slot
  let d := if slot % 2 = 0 then d.wr O.SCSA_SLOT0_ROW (slot / 2) 0xFFFFFFFF else d.wr O.SCSA_SLOT1_ROW (slot / 2) 0xFFFFFFFF
  if d.rd O.SA_SLOT pr = slot then d.wr O.SA_SLOT pr 0xFFFFFFFF else d

/-- Free the resident slot an SA holds. -/
def freeSaSlot (d : Device) (pr : Nat) : Device :=
  if d.rd O.SA_SLOT pr = 0xFFFFFFFF then d else freeSlotOf pr d (d.rd O.SA_SLOT pr)

/-- The live gun entry of an SA: code 2 or 3 for its SC while the SA is ARMED; a receive SA that became BAD while it was
ARMED keeps its zone end (R136, R223, R224, R226). -/
def saGun (d : Device) (pr : Nat) : Option Nat :=
  if d.rd O.SA_STATE pr = 3 then (d.gunFind 2 (pr / 4)).or (d.gunFind 3 (pr / 4))
  else if d.rd O.SA_STATE pr = 7 ∧ d.rd O.SC_DIR (pr / 4) = 2 ∧ ¬ (List.range 4).any (fun an => d.rd O.SA_STATE (pr / 4 * 4 + an) == 3)
  then d.gunFind 3 (pr / 4) else none

/-- An SA of the SC is receiving, or a transmit SA is active (SC_STATUS bit 0); the zone is open while one is ARMED
beside the ACTIVE one (R174, R226, R230). -/
def refreshSc (d : Device) (sc : Nat) : Device :=
  let st := fun an => d.rd O.SA_STATE (4 * sc + an)
  let ans := List.range 4
  let act := ans.any (fun an => st an == 4)
  let rx := d.rd O.SC_DIR sc == 2
  let on := act || (rx && ans.any (fun an => st an == 3))
  (d.wrBit O.SC_STATUS sc 0 on).wr O.SCSA_ZONE_OPEN sc (boolNat (rx && act && ans.any (fun an => st an == 3)))

/-- The statistics record of an SA row, zeroed (R193). -/
def clearStats (d : Device) (pr : Nat) : Device :=
  ([O.SA_STAT_PKTS, O.SA_STAT_OCTETS, O.SA_STAT_PKTS_ENCRYPTED, O.SA_STAT_NOT_VALID, O.SA_STAT_COMMIT_LATE,
    O.SA_STAT_TX_LOST]).foldl (fun d o => d.clr o pr) d

/-- A frame holds a context entry of SA `pr`, or was looked up under it on the receive side and would commit to it (R195, R205).
That the latter is discarded too, and counted alike, is a DESIGN CHOICE (log entry 34). -/
def holdsSa (d : Device) (pr : Nat) (f : Frame) : Bool :=
  f.ctx.elim false (fun c => d.slotRow c.saRow == pr) || (f.decrypt && f.prot && f.sa == pr && !f.settled)

/-- A frame whose key has been zeroized: its GCM context is discarded with it, and it is counted (R205). -/
def discardZeroed (d : Device) (f : Frame) : Device := (d.inc64 O.BANK_DISCARDS f.sd).cutShort f

/-- Zeroize one SA: its gun entry is cancelled with bit 4, its frames are discarded and counted, slots, record and
statistics are zeroed, and the row is EMPTY (R205, R219, R231). -/
def zeroSa (d : Device) (pr : Nat) : Device :=
  if d.rd O.SA_STATE pr = 0 ∧ d.slotsOf pr = [] then d else
  let d := (d.saGun pr).elim d (fun e => (d.gunCancel e).wrBit O.SA_FLAGS pr 4 true)
  let d := (d.pipe.frames.filter (d.holdsSa pr)).foldl discardZeroed d
  let d := (d.slotsOf pr).foldl (freeSlotOf pr) d
  let d := ((d.setRec pr SaRec.empty).clearStats pr).setSaState pr 0
  let sc := pr / 4
  let d := if d.rd O.SCSA_IN_FORCE_AN sc = pr % 4 then d.wr O.SCSA_IN_FORCE_AN sc 0xFF else d
  d.refreshSc sc

/-- The SA rows that hold anything, a slot of an EMPTY row included. -/
def saRows (d : Device) : List Nat :=
  (d.dict.filter (fun e => (e.1 / 2 ^ 24 == O.SA_STATE && e.2 != 0))).map (fun e => e.1 % 2 ^ 24) ++
  (d.dict.filter (fun e => (e.1 / 2 ^ 24 == O.SCSA_SLOT0_ROW || e.1 / 2 ^ 24 == O.SCSA_SLOT1_ROW) && e.2 != 0xFFFFFFFF)).map (·.2)

/-- The vault slots that hold anything. -/
def vaultRows (d : Device) : List Nat :=
  (d.dict.filter (fun e => e.1 / 2 ^ 24 == O.VAULT_STATE && e.2 != 0)).map (fun e => e.1 % 2 ^ 24)

/-- Every vault slot, SA context and record. -/
def zeroKeys (d : Device) : Device :=
  let d := d.saRows.foldl zeroSa d
  d.vaultRows.foldl zeroSlot d

/-- Every vault slot, SA context and record, and every session key; every session closes (R297, ZEROIZE_ALL). -/
def zeroAll (d : Device) : Device := d.zeroKeys.closeSessions 1 52

def setKeys (d : Device) (k : KeysX) : Device := { d with keys := k }

/-- The per-boot keys of R284 and the DRBG state as well (R297, FATAL and life-cycle rows). -/
def zeroPerBoot (d : Device) : Device :=
  (d.setKeys { d.keys with checkKey := [], storeKey := [], entropyFails := 0 }).wr O.DRBG_STATE 0 0

/-! ### Modes (R78 to R81, R86) -/

def setModeField (d : Device) (m : Mode) : Device := { d with mode := m }

/-- Enter a mode: MODE, MODE_CAUSE and MODE_ENTERED_AT (R79). -/
def enterMode (d : Device) (m : Mode) (cause : Nat) : Device :=
  let d := d.setModeField m
  ((d.wr O.MODE 0 d.modeCode).wr O.MODE_CAUSE 0 cause).wr O.MODE_ENTERED_AT 0 d.phcTime

/-- The armed or issued drain entry (R82). -/
def drainEntry (d : Device) : Option Nat := d.gunFind 7 0

/-- The drain entry whose action has not taken place. -/
def drainStops (d : Device) : Option Nat := d.drainEntry.filter (fun e => !d.gunDue e)

/-- A mode command has taken effect on this very edge: MODE_CAUSE 2 with the PHC value of now (R79, R89). -/
def modeJustSet (d : Device) : Bool := d.rd O.MODE_CAUSE == 2 && d.rd O.MODE_ENTERED_AT == d.phcTime

/-- The reaction wins over a mode command of the same cell boundary: the command's result word reports 0xA303 (R81). -/
def overruleMode (d : Device) : Device :=
  if d.modeJustSet then d.wr O.MODE_CMD 0 (0xA303 * 65536 + 3 * 256 + d.rd O.MODE_CMD % 256) else d

/-- A running recalibration window holds its classes no longer: it ends without XON (R109). -/
def muteWindow (d : Device) (p : Nat) : Device := (List.range 8).foldl (markHold p 4 false) d
def muteWindows (d : Device) : Device := (d.allPorts.filter (fun p => d.rd O.PORT_RECAL_STATE p == 2)).foldl muteWindow d

/-- SAFE is entered: frames in transmission are truncated and buffered frames discarded, an armed drain entry is
cancelled with a NOTE (R80, R81, R86, R109, R371). -/
def enterSafe (d : Device) : Device :=
  let d := d.overruleMode
  let d := d.drainStops.elim d (fun e => (d.gunCancel e).note 0x0204 0x0B00 (leBytes 4 e))
  (d.muteWindows.stopFrames (fun _ => true)).enterMode .safe 3

/-! ### Classification of a fault (R368 to R370) -/

/-- The count of a source's rule: the heat of an environment channel, its own object otherwise (R370, R385). -/
def srcN (d : Device) (src : Nat) : Nat :=
  if 0x400 ≤ src then d.rd O.MON_HEAT_N (src - 0x400) else d.rd O.FLT_SRC_N src

/-- The class the count rule reaches (R370). -/
def countRule (d : Device) (src base : Nat) : Nat :=
  if 1 ≤ base ∧ base ≤ 3 ∧ d.srcN src ≠ 0 ∧ d.srcN src ≤ d.windowCount src ∧ base < d.rd O.FLT_SRC_CAP src
  then base + 1 else base

/-- The class the repeat rule reaches from `cls` (R370). -/
def repeatRule (d : Device) (cls : Nat) : Nat :=
  if d.mode ≠ .boot ∧ (cls = 2 ∨ cls = 3) ∧ (d.rd O.FLT_STATUS).testBit cls then cls + 1 else cls

def setHeld (d : Device) (src mask : Nat) : Device :=
  { d with faults := { d.faults with held := natPut d.faults.held src mask } }

/-- FLT_STATUS bit c is set while any source holds class c (R373). -/
def refreshStatus (d : Device) : Device :=
  [2, 3, 4].foldl (fun d c => d.wrBit O.FLT_STATUS 0 c (d.faults.held.any (fun e => e.2.testBit c))) d

/-- The highest class of a mask; 0xFF for none. -/
def highestClass (m : Nat) : Nat := if m.testBit 4 then 4 else if m.testBit 3 then 3 else if m.testBit 2 then 2 else 0xFF

/-- Source `src` holds the classes of `mask`. -/
def holdClasses (d : Device) (src mask : Nat) : Device :=
  ((d.setHeld src mask).wr O.FLT_SRC_CLASS src (highestClass mask)).refreshStatus

/-- Latch a class at its source and in FLT_STATUS (R369). -/
def latch (d : Device) (src cls : Nat) : Device := d.holdClasses src (setBit (natAt d.faults.held src) cls true)

/-- The reaction byte of a record (R375). -/
def reactionCode (d : Device) (cls : Nat) : Nat :=
  if cls = 3 then (if d.mode = .safe then 3 else 1) else if cls = 4 then (if d.mode = .safe then 4 else 2) else 0

def setLa (d : Device) (x : LaX) : Device := { d with la := x }

/-- A zeroization reports its completion, and ZEROIZE_ALL closes every session then (R297, R300). -/
def zeroReport (d : Device) (e : Nat × Bool × List Nat) : Device :=
  let d := d.wr O.VAULT_CMD e.1 (2 * 256 + d.rd O.VAULT_CMD e.1 % 256)
  if e.2.1 then d.closeSessions 1 52 else d

/-- The job of ring `n` has ended: zeroizations that wait for no other job report their completion. -/
def jobGone (d : Device) (n : Nat) : Device :=
  let l := d.la.zeroing.map (fun e => (e.1, e.2.1, e.2.2.filter (· != n)))
  (l.filter (fun e => e.2.2 == [])).foldl zeroReport (d.setLa { d.la with zeroing := l.filter (fun e => e.2.2 != []) })

/-- Every lookaside job stops: its key is gone, and it completes with detail 0x000B (R311). -/
def stopJobs (d : Device) : Device :=
  let js := d.la.jobs
  js.foldl (fun d j => d.dmaFinish j.ring 0 4 0 (j.kind.take 14 ++ leBytes 2 0x000B))
    ((js.map LaJob.ring).foldl jobGone ((d.setLa { d.la with jobs := [] }).wr O.LA_CONTEXTS_BUSY 0 0))

/-- The keys stay zeroized when a FATAL reaction comes during a transition (R348): no rebuild follows. -/
def noRebuild (d : Device) : Device := { d with lc := { d.lc with rebuilding := false } }

/-- The zeroization of FATAL, with the banks cleared and every session closed (R205, R297, R371). -/
def fatalZeroize (d : Device) : Device :=
  (((d.noRebuild.stopJobs.zeroAll).zeroPerBoot).clearBanks (fun _ => true)).wr O.FLT_FATAL_SINCE_BOOT 0 1

/-- The reaction of a class (R371). During BOOT the mode changes when boot ends (R80, R88). -/
def react (d : Device) (cls : Nat) : Device :=
  let d := if 3 ≤ cls ∧ d.mode ≠ .safe ∧ d.mode ≠ .boot ∧ d.mode ≠ .reset then d.enterSafe else d
  if cls = 4 then d.fatalZeroize else d

/-- A fault of source `src` with code `code` and base class `base` is sampled (R368, R370, R371). Nothing is seen of a
source whose pair is broken (R367), or before the collector is active (R87). -/
def fault (d : Device) (src code base : Nat) (detail : Bytes) : Device :=
  if d.srcUnseen src ∨ d.mode = .reset then d else
  let d := d.addEvent src
  let c1 := d.countRule src base
  let c2 := d.repeatRule c1
  let d := d.writeRecord src code c2 base 0 ((if base < c1 then 1 else 0) + (if c1 < c2 then 2 else 0))
    (d.reactionCode c2) (d.windowCount src) detail
  if 2 ≤ c2 then (d.latch src c2).react c2 else d

/-- CORRECTED, DEGRADED and SEVERE faults with the unit and the whole index in the detail (R375, R376). -/
def faultUnit (d : Device) (src cause unit base : Nat) : Device :=
  d.fault src (cause * 256 + unit % 256) base (leBytes 4 unit)

/-- A NOTE with the row it names. -/
def noteRow (d : Device) (src cause unit row : Nat) : Device := d.note src (cause * 256 + unit % 256) (leBytes 4 row)

/-- A protection event: a record without class (R184, R375). -/
def protEvent (d : Device) (slice code sc an pn : Nat) : Device :=
  d.writeRecord (sliceSrc slice 1) code 0xFF 0xFF 1 0 0 0 (leBytes 4 sc ++ leBytes 1 an ++ leBytes 3 0 ++ leBytes 8 pn)

end Device
end Sys2Proof.Machine
end

