-- ==== Sys2Proof/Machine/Dictionary.lean ====
section
/-!
DEFINITION. The dictionary engine's checks that every request passes (R30 to R48): address, session and role, access
code, mode, lock, and the encoding of a value, in the order of R40.
-/
namespace Sys2Proof.Machine

/-- The first code of a list of (condition, code) whose condition holds; 0 when none does. -/
def firstFail : List (Bool × Nat) → Nat
  | [] => 0
  | e :: r => if e.1 then e.2 else firstFail r

/-! ### Address (R30 to R32) -/

/-- The index holds objects. -/
def indexKnown (i : Nat) : Bool := decide (i < 0x8000) && !(descsOf i).isEmpty

/-- The index is a table. -/
def indexTable (i : Nat) : Bool := (descsOf i).any (fun e => e.table)

/-- The index has more than one subindex, and so a subindex 0x00 that holds the highest (R30). An index whose table lists the
one subindex 0x01 has neither a highest subindex nor a single value at 0x00: its subindex 0x00 does not exist, 0xA002
(DESIGN CHOICE, log entry 23). -/
def indexMulti (i : Nat) : Bool := decide (1 < (descsOf i).length)

/-- The highest subindex of an index. -/
def highestSub (i : Nat) : Nat := (descsOf i).foldl (fun m e => max m (e.obj % 256)) 0

/-- The record of one subindex; subindex 0x00 of an index with several is RO and U8, and lists every role that some
other subindex lists. -/
def subDesc (i s : Nat) : Option Desc :=
  if s = 0 ∧ indexMulti i then
    some ⟨i * 256, indexTable i, .u 1, .ro, (descsOf i).foldl (fun m e => m ||| e.roles) 0, 0, 255⟩
  else descOf (i * 256 + s)

/-- Session tables: rows are session rows and belong to their session (R239, R299, R333, R347, R363). -/
def ownRowTable (i : Nat) : Bool :=
  i == 0x2030 || i == 0x2060 || i == 0x2080 || i == 0x2810 || i == 0x5050 || i == 0x6040

/-- The object a single-subindex request addresses. -/
def addrObj (a : AddrBlock) : Nat := a.index * 256 + a.sub

namespace Device

/-- Buckets of the classification table in service (R236). -/
def buckets (d : Device) : Nat :=
  if d.mem.switched || (List.range 4).any (fun c => d.rd O.MEM_CH_STATE c == 2) then 393216 else 524288

/-- Row `r` of table `i` exists on this part (R3, R32, and the tables' own rules). -/
def rowOk (d : Device) (i r : Nat) : Bool :=
  let p := i / 256
  if p = 0x10 then decide (r < 2 + 2 * d.slices)
  else if i = 0x1420 ∨ i = 0x3402 then decide (1 ≤ r ∧ r ≤ 16)
  else if i = 0x1430 ∨ ownRowTable i then decide (1 ≤ r ∧ r ≤ 52)
  else if i = 0x1438 ∨ i = 0x1460 then decide (1 ≤ r ∧ r ≤ 3)
  else if i = 0x1450 ∨ i = 0x5910 then decide (r < 64)
  else if i = 0x1810 ∨ i = 0x1820 ∨ i = 0x5000 ∨ i = 0x5040 then decide (r < d.slices)
  else if i = 0x1830 then decide (r < 2 * d.slices)
  else if i = 0x2020 then decide (r < 2048)
  else if i = 0x2800 ∨ i = 0x2840 then decide (r < 1024)
  else if p = 0x31 ∨ p = 0x32 ∨ p = 0x38 ∨ i = 0x4500 ∨ i = 0x58E0 then d.laneOk r
  else if i = 0x3400 then decide (r < 1024)
  else if i = 0x4000 ∨ i = 0x5020 then decide (r < d.numCas)
  else if i = 0x4100 ∨ i = 0x4210 ∨ i = 0x5030 then decide (r < d.numScs)
  else if i = 0x4200 ∨ i = 0x4400 then decide (r < 4 * d.numScs)
  else if i = 0x5010 then decide (r < 16)
  else if i = 0x5060 then decide (r < 4 * d.buckets)
  else if i = 0x5800 then decide (r < d.numQueues)
  else if i = 0x5880 then decide (r < 512) && d.laneOk (r / 8)
  else if i = 0x58C0 then decide (r < 8 + 2 * d.slices)
  else if i = 0x5920 then decide (r < 64 * 32768) && decide (r % 32768 < d.numQueues)
  else if i = 0x6020 then decide (r < 4)
  else if i = 0x6038 then decide (r < 256)
  else if i = 0x6050 then decide (r < 384)
  else if i = 0x6800 then d.sourceOk r
  else if i = 0x6890 then decide (r < 512)
  else if i = 0x6900 then decide (r < 16)
  else if i = 0x6980 then decide (r < 256)
  else if i = 0x7000 then decide (r < 144) && (decide (128 ≤ r) || decide (r < 32 * d.slices))
  else false

/-- Step 1 of R40: the address of a request, `rdg` for a read. -/
def addrCheck (d : Device) (a : AddrBlock) (rdg : Bool) : Nat :=
  firstFail
    [(!indexKnown a.index, 0xA001),
     (!a.whole && (subDesc a.index a.sub).isNone, 0xA002),
     (a.table != indexTable a.index || (rdg && a.group != 0) || (!rdg && decide (16 < a.group)) ||
        (!a.table && a.row != 0), 0xA006),
     (a.table && !d.rowOk a.index a.row, 0xA105)]

/-! ### Sessions and roles (R37, R38, R62, R66, R338, R345) -/

end Device

/-- The transport a session row belongs to (R62). -/
def rowTransport (row : Nat) : Transport := if row ≤ 32 then .ring else if row ≤ 48 then .pcie else .debug

/-- Whether sessions of a row may be used by a master: its own transport's; Sydin acts under any open session (log
entry 7). -/
def masterMay (m : Master) (row : Nat) : Bool :=
  match m with
  | .ring => rowTransport row == .ring
  | .pcie => rowTransport row == .pcie
  | .debug => rowTransport row == .debug
  | .sydin => true

/-- The area of R8 an index lies in, in the order of that table. -/
def areaOf (i : Nat) : Nat :=
  if i < 0x1400 then 0 else if i < 0x1800 then 1 else if i < 0x2000 then 2 else if i < 0x2800 then 3 else
  if i < 0x3000 then 4 else if i < 0x3800 then 5 else if i < 0x4000 then 6 else if i < 0x5000 then 7 else
  if i < 0x5800 then 8 else if i < 0x6000 then 9 else if i < 0x6800 then 10 else if i < 0x7000 then 11 else
  if i < 0x7800 then 12 else 13

/-- The restricted set of R338: identity, the boot record, and 0x2000 to 0x202F. -/
def restrictedIndex (i : Nat) : Bool :=
  i == 0x1000 || i == 0x1001 || i == 0x1040 || (decide (0x2000 ≤ i) && decide (i ≤ 0x202F))

namespace Device

/-- The open session a request names on its master's transport. -/
def sessionRow (d : Device) (r : Req) : Option Nat :=
  match d.openRow r.session with
  | some row => if masterMay r.master row then some row else none
  | none => none

/-- The role code of a request's session; 0 for work without a session (R394). -/
def roleOf (d : Device) (r : Req) : Nat := (d.sessionRow r).elim 0 (fun row => d.rd O.SESSION_ROLE row)

/-- An index that session-0 reads of SAFE after FATAL may reach (R66). -/
def fatalLogIndex (i : Nat) : Bool := i == 0x6800 || i == 0x6880 || i == 0x6890 || i == 0x6980 || i == 0x6990

/-- The records a request covers: one subindex, or those a whole read or write takes (R34). A whole read of an index
with several subindices begins with subindex 0, which is RO (R30). -/
def covered (a : AddrBlock) (rdg : Bool) : List Desc :=
  if a.whole then
    (if rdg ∧ indexMulti a.index then (subDesc a.index 0).toList else []) ++ (descsOf a.index).filter (fun e =>
      if rdg then e.acc != .wo else e.acc == .rw || e.acc == .rws || e.acc == .rwg || e.acc == .wo)
  else (subDesc a.index a.sub).toList

/-- Untagged reads with session 0 (R66). -/
def session0Read (d : Device) (r : Req) (a : AddrBlock) (rdg : Bool) : Bool :=
  r.master == .ring && r.session == 0 && rdg &&
  ((covered a rdg).all (fun e => e.roles == 31) ||
   (d.mode == .safe && d.rdB O.FLT_FATAL_SINCE_BOOT && fatalLogIndex a.index))

/-- The life-cycle state closes the index to a role, for reading or writing (R338): in SCRAP only LC_CMD is written. -/
def lcExcludes (d : Device) (role i : Nat) (rdg : Bool) : Bool :=
  let st := d.rd O.LC_STATE
  if restrictedIndex i then st == 6 && !rdg && i != 0x2000
  else if st = 6 then true
  else if role = 4 ∨ role = 5 then st == 1 || (st == 5 && !d.rdB O.LC_RMA_UNLOCKED)
  else false

/-- The certificate scope excludes the access (R345). -/
def scopeExcludes (d : Device) (role row i : Nat) (rdg : Bool) : Bool :=
  (role == 4 || role == 5) &&
  (!(d.rd O.DBG_CERT_SCOPE row).testBit (areaOf i) || (!rdg && !(d.rd O.DBG_CERT_SCOPE row).testBit 31))

/-- The rows bound to CA `ca` (R38, R281, R399). -/
def tenantRow (d : Device) (i r ca : Nat) : Bool :=
  if i = 0x4000 ∨ i = 0x5020 then r == ca
  else if i = 0x4100 ∨ i = 0x4210 ∨ i = 0x5030 then d.rd O.SC_CA r == ca && d.rd O.SC_DIR r != 0
  else if i = 0x4200 ∨ i = 0x4400 then d.rd O.SC_CA (r / 4) == ca && d.rd O.SC_DIR (r / 4) != 0
  else if i = 0x5800 then r / 2 == ca
  else if i = 0x5920 then r % 32768 / 2 == ca
  else if i = 0x7000 then
    let e := d.rd O.PMC_EVENT r % 256
    d.rdB O.PMC_TENANT_READ r && d.rd O.PMC_TENANT r == ca &&
    (decide (6 ≤ e ∧ e ≤ 8) || e == 0x0A || e == 0x0C || e == 0x0E || e == 0x10 || e == 0x11)
  else !indexTable i

/-- An object whose Roles column also lists "own session": SESSION_CLOSE (R67). -/
def ownSession (o row r : Nat) : Bool := o == O.SESSION_CLOSE && r == row

/-- The role may not make this access (R37, R38). -/
def roleExcludes (d : Device) (role row : Nat) (a : AddrBlock) (rdg : Bool) : Bool :=
  (covered a rdg).any (fun e => !e.roles.testBit (role - 1) && !ownSession e.obj row a.row) ||
  (role == 3 && ((!rdg && !ownSession (addrObj a) row a.row) || !d.tenantRow a.index a.row (d.rd O.SESSION_CA row))) ||
  (role == 2 && !rdg && (covered a rdg).any (fun e => e.ty == .keyref ||
    (decide (0x2000 ≤ a.index ∧ a.index ≤ 0x2FFF) &&
      !(e.obj == O.ATT_NONCE || e.obj == O.ATT_CMD || e.obj == O.LA_SLICE_KIB)))) ||
  (ownRowTable a.index && a.row != row)

/-- A SERVICE or DEBUG session in OPENING writes its certificate parts, and nothing else (R344). -/
def certWrite (d : Device) (r : Req) (a : AddrBlock) (rdg : Bool) : Bool :=
  let row := r.session % 256
  !rdg && a.index == 0x2030 && a.table && a.row == row && decide (1 ≤ row ∧ row ≤ 52) && masterMay r.master row &&
  d.rd O.SESSION_STATE row == 1 && d.rd O.SESSION_ID row == r.session && decide (4 ≤ d.rd O.SESSION_ROLE row)

/-- Step 2 of R40: session, life-cycle state, role. -/
def whoCheck (d : Device) (r : Req) (a : AddrBlock) (rdg : Bool) : Nat :=
  match d.sessionRow r with
  | none => if d.certWrite r a rdg then 0 else
            if d.session0Read r a rdg then (if d.lcExcludes 0 a.index true then 0xA401 else 0) else 0xA007
  | some row =>
    let role := d.rd O.SESSION_ROLE row
    firstFail
      [(d.lcExcludes role a.index rdg, 0xA401),
       (d.roleExcludes role row a rdg || d.scopeExcludes role row a.index rdg, 0xA003)]

/-- Step 3 of R40: the access code. -/
def accCheck (a : AddrBlock) (rdg : Bool) : Nat :=
  if a.whole then 0 else
  match subDesc a.index a.sub with
  | none => 0
  | some e => if rdg then (if e.acc = .wo then 0xA005 else 0) else (if e.acc = .ro then 0xA004 else 0)

/-! ### Mode and lock (R40, R44, R88) -/

/-- The device serves this index in the present mode and boot status (R70, R79, R88, R358). -/
def notServed (d : Device) (o : Nat) : Bool :=
  let i := o / 256
  d.mode == .reset || d.mode == .boot || d.fw.hot.isSome ||
  ((d.rd O.BOOT_STATUS == 1 || (d.rd O.BOOT_STATUS == 3 && d.rd O.BOOT_IMAGE == 0xFF)) &&
    !(decide (0x1000 ≤ i ∧ i ≤ 0x17FF) || decide (0x2000 ≤ i ∧ i ≤ 0x27FF) || o == O.MODE))

/-- A request to `a` covers an object that is not served now. -/
def unserved (d : Device) (a : AddrBlock) (rdg : Bool) : Bool :=
  if a.whole then d.mode == .reset || d.mode == .boot || (covered a rdg).any (fun e => d.notServed e.obj)
  else d.notServed (addrObj a)

/-- Some armed group names one of the objects a direct write covers (R48). -/
def armedConflict (d : Device) (a : AddrBlock) : Bool :=
  (covered a false).any (fun e => (List.range 17).any (fun g => d.armedNames e.obj a.row g))

/-- Another session holds the lock (R44). -/
def lockBlocks (d : Device) (r : Req) : Bool := d.rd O.LOCK != 0 && d.rd O.LOCK != r.session

/-! ### Accepted requests (R67) -/

/-- A request that names an open session on its own transport counts as accepted: idle time and, for the holder, the
lease of the lock start again (R44, R67). -/
def accept (d : Device) (r : Req) : Device :=
  match d.sessionRow r with
  | none => d
  | some row =>
    let d := d.setSess row { d.sessOf row with lastAt := d.cyc }
    if d.rd O.LOCK = r.session then d.setLockRenewed d.cyc else d

/-- Count an executed or refused request (R393, events 0x41 and 0x42). -/
def countRequest (d : Device) (r : Req) (role abort : Nat) : Device :=
  d.pmcHub (if abort = 0 then 0x41 else 0x42) 1 (passRole role r.master)

/-- The response of the dictionary engine: counted under the role the request had and handed to the master (R42). -/
def respond (d : Device) (r : Req) (role abort : Nat) (v : Bytes) : Device :=
  (d.countRequest r role abort).emit (.resp r.master r.session abort v)

end Device

/-! ### Values (R33, R34) -/

/-- The bits of a BITS32 object that are not reserved (R6). -/
def bitsMask (o : Nat) : Nat :=
  if o = O.LANE_TX_EQ then 0x00FFFFFF
  else if o = O.GUN_ANNOUNCE ∨ o = O.PEER_ENABLE ∨ o = O.PMC_STATUS then 3
  else if o = O.PORT_PFC_LOSSLESS ∨ o = O.PMC_CLASS_MASK then 0xFF
  else if o = O.PMC_ROLE_MASK then 0x3F
  else if o = O.PMC_MASTER_MASK then 0xF
  else 0xFFFFFFFF

/-- The reserved bits of a U16 or U64 object with named fields (R6). -/
def storedValue (e : Desc) (v : Nat) : Nat :=
  if e.ty = .bits32 then v &&& bitsMask e.obj
  else if e.obj = O.PMC_EVENT then v % 512
  else v

/-- A VSTR value: characters 0x20 to 0x7E, then only 0x00. -/
def vstrOk : Bytes → Bool
  | [] => true
  | b :: r => if b = 0#8 then r.all (· == 0#8) else decide (0x20 ≤ b.toNat ∧ b.toNat ≤ 0x7E) && vstrOk r

/-- The length of a written value (R34). -/
def lengthCheck (e : Desc) (v : Bytes) : Nat :=
  match e.ty with
  | .octets n | .vstr n => if n < v.length then 0xA103 else 0
  | t => if v.length ≠ t.size then 0xA102 else 0

/-- Step 6 of R40 as far as type and stated range go (R33): 0xA101, then the length codes, then 0xA104. Handle 0 names no slot
(R287); two objects take it for none (R63, R249). -/
def typeCheck (d : Device) (e : Desc) (v : Bytes) : Nat :=
  let n := leNat v
  let inRange (w : Nat) : Bool := decide (e.lo ≤ ofTwos w n ∧ ofTwos w n ≤ e.hi)
  let ln := lengthCheck e v
  if ln ≠ 0 then ln else
  match e.ty with
  | .bool => if 1 < n then 0xA101 else 0
  | .u _ | .enum => if (n : Int) < e.lo ∨ e.hi < n then 0xA101 else 0
  | .i 4 => if inRange 32 then 0 else 0xA101
  | .i _ => if inRange 64 then 0 else 0xA101
  | .time96 => if 1000000000 ≤ bits n 16 32 then 0xA104 else 0
  | .vstr _ => if vstrOk v then 0 else 0xA101
  | .keyref => if (n = 0 ∧ (e.obj = O.ROLE_ROOT ∨ e.obj = O.PEER_KEY)) ∨ (d.slotOf n).isSome then 0 else 0xA101
  | _ => 0

/-- The pieces a whole write carries, one per writable subindex in order; nothing where the length is wrong (R34). -/
def splitWhole : List Desc → Bytes → Option (List (Desc × Bytes))
  | [], [] => some []
  | [], _ :: _ => none
  | e :: r, v => if v.length < e.ty.size then none else
      (splitWhole r (v.drop e.ty.size)).map (fun l => (e, v.take e.ty.size) :: l)

end Sys2Proof.Machine
end

