-- ==== Sys2Proof/Machine/Engine.lean ====
section
/-!
DEFINITION. How a command object runs (R35, R36, R40): the checks of R40 in order, the result word, and the response.
Every family states a command as its own conditions of steps 4, 6 and 7 and its body; `runCmd` is the one place that
orders them.
-/
namespace Sys2Proof.Machine

/-- The address of object `o` in row `row`, as a direct request carries it. -/
def directAddr (o row : Nat) : AddrBlock :=
  ⟨0, row, false, indexTable (o / 256), o % 256, o / 256⟩

/-- The conditions of one command: an operand beyond the part's capacity (step 1), a role of step 2 that its own rule
narrows, step 4 (0xA303 and up, ascending), step 6, step 7 (R40), and whether the lock never refuses it (R44). -/
structure Conds where
  s1 : List (Bool × Nat)
  s2 : List (Bool × Nat)
  s4 : List (Bool × Nat)
  s6 : List (Bool × Nat)
  s7 : List (Bool × Nat)
  exempt : Bool

/-- A command with no condition of its own. -/
def Conds.none : Conds := ⟨[], [], [], [], [], false⟩

namespace Device

/-- The status field of a result word (R36). -/
def cmdStatus (d : Device) (o row : Nat) : Nat := bits (d.rd o row) 8 2

/-- Write a result word: abort, status, sequence (R36). -/
def setResult (d : Device) (o row abort status seq : Nat) : Device := d.wr o row (abort * 65536 + status * 256 + seq % 256)

/-- An accepted start: the sequence counts up and the status is running (R36). The abort field of a running action, whose
meaning R36 gives for an ended one, reads 0 (DESIGN CHOICE, log entry 25). -/
def startCmd (d : Device) (o row : Nat) : Device := d.setResult o row 0 1 (d.rd o row % 256 + 1)

/-- The action of a command object has ended with an abort code (R36). -/
def endCmd (d : Device) (o row abort : Nat) : Device :=
  d.setResult o row abort (if abort = 0 then 2 else 3) (d.rd o row % 256)

/-- Steps 1 to 7 of R40 for a command written to object `o` of row `row`. -/
def cmdCheck (d : Device) (r : Req) (o row : Nat) (c : Conds) : Nat :=
  let a := directAddr o row
  firstFail
    ([(d.addrCheck a false != 0, d.addrCheck a false)] ++ c.s1 ++
     [(d.whoCheck r a false != 0, d.whoCheck r a false)] ++ c.s2 ++
     [(d.cmdStatus o row == 1, 0xA302),
      (d.notServed o, 0xA303)] ++ c.s4 ++
     [(!c.exempt && d.lockBlocks r, 0xA203)] ++ c.s6 ++ c.s7)

/-- Run a command: refused with its first failing check, or started; the body ends it with an abort code, or leaves it
running (none). -/
def runCmd (r : Req) (o row : Nat) (c : Conds) (body : Device → Option Nat × Device) (d : Device) : Nat × Device :=
  let e := d.cmdCheck r o row c
  if e ≠ 0 then (e, d) else
  let x := body (d.startCmd o row)
  (0, x.1.elim x.2 (fun abort => x.2.endCmd o row abort))

/-- The wrapper of a request that a master makes directly: it counts as accepted, executes, and is answered. In RESET no
request reaches the dictionary and none is answered; in BOOT the device is not in the ring, and every other master is
answered with 0xA303 at once (R54, R70, R79). -/
def direct (r : Req) (f : Device → Nat × Device) (d : Device) : Device :=
  if d.mode = .reset ∨ d.mode = .boot ∧ r.master = .ring then d else
  if d.mode = .boot then d.respond r 0 0xA303 [] else
  let x := f (d.accept r)
  if x.2.mode = .reset then x.2 else x.2.respond r (d.roleOf r) x.1 []

end Device
end Sys2Proof.Machine
end

