-- ==== Sys2Proof/Machine/Keystore.lean ====
section
/-!
DEFINITION. The operations of the key store that other families use: verifying and counting a use of a vault slot
(R286, R291), filling a slot (R287 to R289, R293), and random draws as bytes (R298).
-/
namespace Sys2Proof.Machine
namespace Device

/-! ### Random data (R298) -/

/-- The DRBG can serve: instantiated, not FAILED, not between a FATAL and its new instantiation, and for at most 1 s while
its source restarts (R297, R298). -/
def drbgReady (d : Device) : Bool := d.rd O.DRBG_STATE == 1 || (d.rd O.DRBG_STATE == 2 && decide (d.cyc ≤ d.keys.restartBy))

/-- The DRBG has a fresh seed. -/
def seeded (d : Device) : Device := d.setKeys { d.keys with reseedAt := d.cyc, requests := 0 }

/-- `n` random bytes, as a number below 256 to the `n`: a free value. One generate request. -/
def drawBytes (d : Device) (n : Nat) : Nat × Device :=
  ((d.draw).1 % 256 ^ n, (d.draw).2.setKeys { d.keys with requests := d.keys.requests + 1 })

/-! ### A use of a slot (R285, R286, R291) -/

/-- Slot `k` fails its check: BAD, counted, and a DEGRADED fault names it (R291, R376). -/
def vaultFails (d : Device) (k : Nat) : Device :=
  ((d.wr O.VAULT_STATE k 2).inc32 O.VAULT_CHECK_FAILS).faultUnit 0x0201 0x04 k 2

/-- The Hub is about to use slot `k`: 0, or 0xA404 when it is BAD or EXHAUSTED, or fails its check now. -/
def slotUse (d : Device) (k : Nat) : Nat × Device :=
  if d.rd O.VAULT_STATE k = 2 ∨ d.rd O.VAULT_STATE k = 3 then (0xA404, d)
  else if d.vaultGood k then (0, d)
  else (0xA404, d.vaultFails k)

/-- Take one use of a counted slot; the last one exhausts it (R286). -/
def takeUse (d : Device) (k : Nat) : Device :=
  if d.rdB O.VAULT_COUNTED k then
    let n := d.rd O.VAULT_USES_LEFT k - 1
    let d := d.wr O.VAULT_USES_LEFT k n
    if n = 0 then d.wr O.VAULT_STATE k 3 else d
  else d

/-! ### Filling a slot (R287, R288, R289) -/

/-- The generation after `g`: from 65,535 back to 1. -/
def nextGen (g : Nat) : Nat := if g = 65535 then 1 else g + 1

/-- Store a key in slot `k`: the generation rises, the attributes, the handle and the check code are set. -/
def fillSlot (d : Device) (k : Nat) (key : Bytes) (bits level purpose uses origin parent : Nat) : Device :=
  let gen := nextGen (d.vaultOf k).gen
  let d := d.setVault k ⟨fit 32 key, gen, d.vaultCheck k gen purpose level bits (uses != 0) (fit 32 key)⟩
  let d := d.wr O.VAULT_STATE k 1
  let d := d.wr O.VAULT_HANDLE k (gen * 65536 + k)
  let d := d.wr O.VAULT_LEVEL k level
  let d := d.wr O.VAULT_PURPOSE k purpose
  let d := d.wr O.VAULT_KEY_BITS k bits
  let d := d.wr O.VAULT_COUNTED k (boolNat (uses != 0))
  let d := d.wr O.VAULT_USES_LEFT k uses
  let d := d.wr O.VAULT_ORIGIN k origin
  let d := d.wr O.VAULT_PARENT k parent
  (d.wr O.VAULT_CREATED_AT k d.phcTime).wr O.LA_RANDOM_IV_JOBS k 0

/-- The lowest EMPTY slot from slot 4 upward (R293). -/
def freeSlot (d : Device) : Option Nat := ((List.range 1020).map (· + 4)).find? (fun k => d.rd O.VAULT_STATE k == 0)

/-- EMPTY slots from slot 4 upward (VAULT_FREE_SLOTS). -/
def freeSlots (d : Device) : Nat := ((d.vaultRows.filter (fun k => decide (4 ≤ k))).length : Nat) |> (1020 - ·)

end Device
end Sys2Proof.Machine
end

