-- ==== Sys2Proof/Machine/Buckets.lean ====
section
/-!
DEFINITION. Buckets and credits (R256, R259, R262), and what holds a frame at the head of its queue back (R273): pauses, pacers,
a holding SC, a port that is not ready.
-/
namespace Sys2Proof.Machine
namespace Device

/-! ### Buckets (R259, R262) -/

/-- Rate and size objects of the four buckets. -/
def rateObj (i : Nat) : Nat := [O.PACER_CIR, O.PACER_PIR, O.POL_CIR, O.POL_PIR].getD i 0
def sizeObj (i : Nat) : Nat := [O.PACER_CBS, O.PACER_PBS, O.POL_CBS, O.POL_PBS].getD i 0

/-- Bucket `i` of queue `q` after `n` cycles: level and residue. -/
def bucketAfter (d : Device) (q n i : Nat) (x : QueueX) : Int × Nat :=
  let l := x.levels.getD i 0
  let r := x.residue.getD i 0
  let rate := d.rd (rateObj i) q
  if rate = 0 then (l, r) else
  let g := rate * n * 2 ^ 32 + r
  (min (l + (g / 10 ^ 7 : Nat)) (d.rd (sizeObj i) q * 2 ^ 32 : Nat), g % 10 ^ 7)

/-- A queue with its levels up to date. -/
def queueNow (d : Device) (q : Nat) : QueueX :=
  let x := d.queueOf q
  let bs := (List.range 4).map (fun i => d.bucketAfter q (d.cyc - x.at_) i x)
  { x with levels := bs.map (·.1), residue := bs.map (·.2), at_ := d.cyc }

/-- Bring the levels of a queue up to date. -/
def refreshLevels (d : Device) (q : Nat) : Device := d.setQueue q (d.queueNow q)

/-- The level of bucket `i`, up to date. -/
def level (d : Device) (q i : Nat) : Int := (d.queueNow q).levels.getD i 0

/-- Charge `n` bytes to bucket `i`. -/
def charge (d : Device) (q i : Nat) (n : Int) : Device :=
  let x := d.queueNow q
  d.setQueue q { x with levels := x.levels.set i (x.levels.getD i 0 - n * 2 ^ 32) }

/-! ### Back-pressure (R273) -/

/-- A node is paused by its partner (R103). -/
def nodeHeld (d : Device) (n : Nat) : Bool := decide (d.cyc < natAt (d.portOf (n / 8)).pausedTo (n % 8))

/-- The transmit credit of a port, in tenths of a byte. -/
def creditOf (d : Device) (p : Nat) : Int :=
  match d.pipe.credit.find? (fun e => e.1 == p) with
  | none => 10240
  | some e => min 10240 (e.2.1 + ((d.cyc - e.2.2) * d.portSpeed p : Nat))

/-- A port is ready: it carries frames, and its transmit credit is at least 0 (R256). -/
def portReady (d : Device) (p : Nat) : Bool := d.portEnabled p && d.portSends p && decide (0 ≤ d.creditOf p)

/-- The egress ports of a slice-direction. -/
def sdPorts (sd : Nat) : List Nat := (List.range 8).map (fun k => (if sd % 2 = 0 then 32 else 0) + 8 * (sd / 2) + k)

/-- The head frame of a queue. -/
def headFrame (d : Device) (q : Nat) : Option Frame := ((d.queueOf q).frames.head?).bind d.frame?

/-- The SC is holding (R183). -/
def scHolding (d : Device) (sc : Nat) : Bool := (d.rd O.SC_STATUS sc).testBit 3

/-- A peak pacer bucket below 0 holds the queue back (R260). -/
def pacerHolds (d : Device) (q : Nat) : Bool := d.rd O.PACER_PIR q != 0 && decide (d.level q 1 < 0)

/-- The first cycle from now on at which the peak bucket of `q`, which holds it back, is at least 0. -/
def pacerUntil (d : Device) (q : Nat) : Nat :=
  let x := d.queueNow q
  d.cyc + ceilDiv ((-(x.levels.getD 1 0)).toNat * 10 ^ 7 - x.residue.getD 1 0) (d.rd O.PACER_PIR q * 2 ^ 32)

/-- The first cycle from now on at which the credit of port `p` is at least 0. -/
def creditUntil (d : Device) (p : Nat) : Nat := d.cyc + ceilDiv (-(d.creditOf p)).toNat (max 1 (d.portSpeed p))

/-- The cycle until which one of the reasons of R273 holds frame `f` back; none when only something else can end it. -/
def heldUntil (d : Device) (f : Frame) : Option Nat :=
  if ¬ (d.portEnabled f.egress ∧ d.portSends f.egress) then none else
  some (max (max (natAt (d.portOf f.egress).pausedTo f.cls) (d.creditUntil f.egress))
    (max (if f.ring.isNone ∧ d.pacerHolds f.q then d.pacerUntil f.q else 0)
      (if f.prot ∧ ¬ f.decrypt ∧ d.scHolding f.sc then natAt d.sas.holdUntil f.sc else 0)))

/-- Frames of slice-direction `sd` at the head of their queues. -/
def heads (d : Device) (sd : Nat) : List Frame :=
  d.pipe.frames.filter (fun f => f.sd == sd && f.stage == .queued &&
    (if f.ring.isSome then (d.nodeOf f.node).inject.head? == some f.id else (d.queueOf f.q).frames.head? == some f.id))

/-- Of the next `n` clocks, those in which slice-direction `sd` holds a frame back (R273, R400). -/
def heldClocks (d : Device) (sd n : Nat) : Nat :=
  (d.heads sd).foldl (fun k f => max k ((d.heldUntil f).elim n (fun c => min n (c - d.cyc)))) 0

end Device
end Sys2Proof.Machine
end

