-- ==== Sys2Proof/Machine/Clockwork.lean ====
section
/-!
DEFINITION. The passing of time: slice clock edges, the PHC with them (R110 to R112), and the performance counters that
count clocks (R393, R400). An event command that stands for a moment in time lets the clock run to that moment first.
-/
namespace Sys2Proof.Machine
namespace Device

def setClk (d : Device) (c : Clock) : Device := { d with clk := c }
def setCyc (d : Device) (n : Nat) : Device := { d with cyc := n }

/-- A node of slice-direction `sd` of a class that row `n` selects is paused (event 0x0F). -/
def nodePaused (sd : Nat) (d : Device) (n : Nat) : Bool :=
  ((List.range 8).map (fun k => (if sd % 2 = 0 then 32 else 0) + 8 * (sd / 2) + k)).any (fun p =>
    (List.range 8).any (fun c => (d.rd O.PMC_CLASS_MASK n).testBit c && decide (d.cyc < natAt (d.portOf p).pausedTo c)))

/-- A cell of `sd` waits at the keystream stage: for a turn, a retrial or the round keys of its SA (R201, R204). -/
def keystreamWait (d : Device) (sd : Nat) : Bool :=
  d.pipe.frames.any (fun f => f.sd == sd && (f.stage == .started || f.stage == .sending) &&
    (f.stalled == f.applied + 1 || (f.ctx.isSome && f.wait.isSome)))

/-- The slots of `n` clocks in which no cell passed, by class (R400, rows 4 to 6). -/
def emptySlots (d : Device) (sd n : Nat) : Device :=
  if d.keystreamWait sd then (d.pmcSlice sd 0x0B n passAll).pmcSlice sd 0x04 n passAll
  else
    let k := d.heldClocks sd n
    let d := if k = 0 then d else d.pmcSlice sd 0x05 k passAll
    if n = k then d else d.pmcSlice sd 0x04 (n - k) passAll

/-- The clock events of one slice-direction over `n` clocks. -/
def clocksOf (n : Nat) (d : Device) (sd : Nat) : Device :=
  if d.rd O.SLICE_STATE (sd / 2) = 3 ∨ d.rd O.SLICE_STATE (sd / 2) = 4 then d else
  let k := min n (d.slotCells sd)
  let d := d.setSlotCells sd (d.slotCells sd - k)
  let d := d.pmcSlice sd 0x01 n passAll
  let d := d.pmcSlice sd 0x09 (n * d.rd O.CALLROOM_OCCUPANCY (sd / 2)) passAll
  let d := d.pmcSlice sd 0x0F n (nodePaused sd)
  if n = k then d else d.emptySlots sd (n - k)

/-- The Hub clocks of `n` slice clocks: 1.0 GHz against 1.25 GHz (R24). -/
def hubClocks (d : Device) (n : Nat) : Device :=
  let x := d.pmc.hubPhase + 4 * n
  (d.setPmc { d.pmc with hubPhase := x % 5 }).pmcHub 0x40 (x / 5) passAll

/-- `n` slice clock edges pass. -/
def advance (d : Device) (n : Nat) : Device :=
  let d := ((List.range (2 * d.slices)).foldl (clocksOf n) d).hubClocks n
  (d.setClk (d.clk.run n)).setCyc (d.cyc + n)

/-- Time runs to cycle `c`, if it lies ahead and the clocks run. -/
def passTo (d : Device) (c : Nat) : Device := if d.clockOn ∧ d.cyc < c then d.advance (c - d.cyc) else d

end Device
end Sys2Proof.Machine
end

