-- ==== Sys2Proof/Machine/Memory.lean ====
section
/-!
DEFINITION. External memory below its commands (R312 to R327): placement of lines, counters and the tree cache, full-line
writes, poison writes, and the retirement conditions of a channel.
-/
namespace Sys2Proof.Machine
namespace Device

def setMem (d : Device) (x : MemX) : Device := { d with mem := x }

/-- The byte at protected offset `o` of a region that holds bytes (log area, host scratch). A byte nothing has written
reads zero (R321). -/
def memByte (d : Device) (o : Nat) : Byte := Sparse.get (fun _ => 0#8) d.mem.cells o

/-- Write one byte. -/
def memPut (d : Device) (o : Nat) (b : Byte) : Device :=
  d.setMem { d.mem with cells := Sparse.put (fun _ => 0#8) d.mem.cells o b }

/-- Write a byte string from offset `o` on. -/
def memPutBytes (d : Device) (o : Nat) (bs : Bytes) : Device :=
  (bs.zipIdx).foldl (fun d e => d.memPut (o + e.2) e.1) d

/-! ### Placement (R314 to R316) -/

/-- The channel that is out of service for placement: retired, or not built at BOOT. -/
def lostChannel (d : Device) : Option Nat := (List.range 4).find? (fun c => d.rd O.MEM_CH_STATE c == 2)

/-- The channel that is out of service for the classification table, which moves first (R331). -/
def tableLost (d : Device) : Option Nat := if d.mem.switched then d.mem.retiring.map (·.1) else d.lostChannel

/-- The physical channel and channel line of protected line `p` (R316). -/
def place (d : Device) (p : Nat) : Nat × Nat :=
  match (if p < 1048576 then d.tableLost else d.lostChannel) with
  | none =>
    if p < 1048576 then (p / 2 % 4, 2 * (p / 2 / 4) + p % 2)
    else ((p - 1048576) % 4, 262144 + (p - 1048576) / 4)
  | some x =>
    let at3 := fun c => ((List.range 4).filter (· != x)).getD c 0
    if p < 1048576 then (at3 (p / 2 % 3), 1245184 + 2 * (p / 2 / 3) + p % 2)
    else
      let r := p - 1048576
      let q := r / 4
      if r % 4 ≠ x then (r % 4, 262144 + q)
      else (at3 (q % 3), if q / 3 < 262144 then q / 3 else 1507328 + (q / 3 - 262144))

/-- Protected offset `o` is mapped (R314). -/
def mapped (d : Device) (o : Nat) : Bool :=
  (d.tableLost.isNone || !decide (0x03000000 ≤ o ∧ o < 0x04000000)) &&
  decide (o < if d.lostChannel.isNone then 0x18000000 else 0x13000000)

/-! ### Counters and the tree cache (R321 to R323) -/

/-- The key of a physical line or node: channel and number. -/
def physKey (c i : Nat) : Nat := c * 2 ^ 21 + i

/-- The parent of node `n` of a channel (R315): `none` for a level-5 line, whose counter is a root counter. -/
def nodeParent (n : Nat) : Option Nat :=
  if n < 196608 then some (196608 + n / 8)
  else
    let t := n - 196608
    if t < 24576 then some (196608 + 24576 + t / 8)
    else if t < 27648 then some (196608 + 27648 + (t - 24576) / 8)
    else if t < 28032 then some (196608 + 28032 + (t - 27648) / 8)
    else if t < 28080 then some (196608 + 28080 + (t - 28032) / 8)
    else none

/-- The counter of data line (c, i). -/
def lineCtr (d : Device) (c i : Nat) : Nat := natAt d.mem.ctr (physKey c i)

/-- Counter line `j` of channel `c` is held in the compact area: it counts lines of the classification table, and its
counters lie within 65,535 of each other (R322). -/
def compact (d : Device) (c j : Nat) : Bool :=
  let cs := (List.range 8).map (fun k => d.lineCtr c (8 * j + k))
  (match d.tableLost with
    | none => decide (j < 32768)
    | some _ => decide (155648 ≤ j ∧ j < 155648 + 32768)) &&
  decide (cs.foldl max 0 ≤ cs.foldl min (cs.headD 0) + 65535)

def setCached (d : Device) (l : List (Nat × Bool)) : Device := d.setMem { d.mem with cached := l }

/-- A node is in the general area of the tree cache. -/
def nodeCached (d : Device) (k : Nat) : Bool := d.mem.cached.any (fun e => e.1 == k)

/-- Put node `k` at the recent end; its dirty flag is kept or set. -/
def cacheNode (d : Device) (k : Nat) (dirty : Bool) : Device :=
  let was := d.mem.cached.any (fun e => e.1 == k && e.2)
  d.setCached (d.mem.cached.filter (fun e => e.1 != k) ++ [(k, dirty || was)])

/-- A counter is at its end: the line or node is read-only, counted, and a SEVERE fault names the channel (R323). -/
def counterEnd (d : Device) (c k : Nat) : Device :=
  ((d.setMem { d.mem with frozen := k :: d.mem.frozen }).inc32 O.MEM_CTR_READONLY).fault (0x300 + c) (0x0800 + c) 3
    (leBytes 4 k)

/-- Node `n` and its ancestors up to the first that is cached are fetched, verified and cached (R322); the topmost first. The fuel is
the height of the tree. -/
def fetchNodes : Nat → Nat → Nat → Device → Device
  | 0, _, _, d => d
  | k + 1, c, n, d =>
    if d.nodeCached (physKey c n) then d else
    ((nodeParent n).elim d (fun m => fetchNodes k c m d)).cacheNode (physKey c n) false

/-- Write a dirty node line back (R321, R322): its parent is fetched, its counter there rises first, and the parent becomes dirty. -/
def nodeWriteBack (d : Device) (c n : Nat) : Device :=
  let k := physKey c n
  if natAt d.mem.nodeCtr k = 2 ^ 64 - 1 then d.counterEnd c (2 ^ 23 + k) else
  let d := d.setMem { d.mem with nodeCtr := natPut d.mem.nodeCtr k (natAt d.mem.nodeCtr k + 1)
                                 badNodes := d.mem.badNodes.filter (· != k) }
  (nodeParent n).elim d (fun m => (fetchNodes 6 c m d).cacheNode (physKey c m) true)

/-- Evict node `n` of channel `c`: written back when it is dirty. -/
def evictNode (d : Device) (c n : Nat) : Device :=
  let k := physKey c n
  let dirty := d.mem.cached.any (fun e => e.1 == k && e.2)
  let d := d.setCached (d.mem.cached.filter (fun e => e.1 != k))
  if dirty then d.nodeWriteBack c n else d

/-- Lines of the general area: 1 MiB, less the rows that SRAM has lost (R406). -/
def cacheLines (d : Device) : Nat := 16384 - d.mem.lostLines

/-- While the general area is over its size, the least recently used line goes: at most `k` of them. -/
def trimTo : Nat → Device → Device
  | 0, d => d
  | k + 1, d =>
    if d.mem.cached.length ≤ d.cacheLines then d else
    match d.mem.cached with
    | [] => d
    | e :: _ => trimTo k (d.evictNode (e.1 / 2 ^ 21) (e.1 % 2 ^ 21))

/-- The general area is brought back to its size; an eviction may fetch the ancestors of the line that goes. -/
def trimCache (d : Device) : Device := trimTo (16 + d.mem.cached.length - d.cacheLines) d

/-- Cache node `n` and its ancestors up to the first that is cached (R322). The fuel is the height of the tree. -/
def walkUp : Nat → Nat → Nat → Device → Device
  | 0, _, _, d => d
  | k + 1, c, n, d =>
    if d.nodeCached (physKey c n) then d else
    (((nodeParent n).elim d (fun m => walkUp k c m d)).cacheNode (physKey c n) false).trimCache

/-- Fetch the counter of data line (c, i) of protected offset `off`: a hit or a miss of the tree cache. -/
def fetchCounter (d : Device) (c i off : Nat) : Device :=
  let j := i / 8
  if d.compact c j ∨ d.nodeCached (physKey c j) then
    let d := d.inc64 O.MEM_TREE_HITS
    if d.compact c j then d else d.cacheNode (physKey c j) false
  else walkUp 6 c j ((d.inc64 O.MEM_TREE_MISSES).pmcHub 0x44 1 (passAddr off))

/-- The nodes that have to be verified before the counter of data line (c, i) can be trusted: from its counter line
up to the first cached one. The fuel is the height of the tree. -/
def uncachedChain : Nat → Nat → Nat → Device → List Nat
  | 0, _, _, _ => []
  | k + 1, c, n, d =>
    if d.nodeCached (physKey c n) then [] else
    physKey c n :: (nodeParent n).elim [] (fun m => uncachedChain k c m d)

/-- The counter of data line (c, i) cannot be verified: a node line on the way fails (R324). -/
def unverifiable (d : Device) (c i : Nat) : Bool :=
  !d.mem.badNodes.isEmpty && !d.compact c (i / 8) && (uncachedChain 6 c (i / 8) d).any (fun k => d.mem.badNodes.contains k)

/-- A node line of channel `c` fails its tag, or is uncorrectable twice (R324). -/
def memNodeFail (d : Device) (c off : Nat) : Device :=
  (d.inc32 O.MEM_NODE_FAILS).fault (0x300 + c) (0x0A00 + c) 3 (leBytes 4 off)

/-! ### Poison, full-line and partial writes (R324 to R326) -/

/-- The line's tag fails whenever it is verified. -/
def poisonedLine (d : Device) (p : Nat) : Bool := d.mem.poisoned.any (fun e => e.1 == p)

/-- The line takes no further write (R323). -/
def frozenLine (d : Device) (c i : Nat) : Bool :=
  d.mem.frozen.contains (physKey c i) ||
  (let j := i / 8
   let up := fun n => (nodeParent n).getD n
   [j, up j, up (up j), up (up (up j)), up (up (up (up j))), up (up (up (up (up j))))].any
     (fun n => d.mem.frozen.contains (2 ^ 23 + physKey c n)))

/-- Count one write of data line (c, i): false when its counter is at its end. -/
def bumpLine (d : Device) (c i : Nat) : Bool × Device :=
  if d.frozenLine c i then (false, d)
  else if d.lineCtr c i = 2 ^ 64 - 1 then (false, d.counterEnd c (physKey c i))
  else
    let d := d.setMem { d.mem with ctr := natPut d.mem.ctr (physKey c i) (d.lineCtr c i + 1) }
    (true, if d.compact c (i / 8) then d else d.cacheNode (physKey c (i / 8)) true)

/-- The poison log takes an entry (R326). -/
def poisonLog (d : Device) (off cause : Nat) : Device :=
  let e := d.rd O.MEM_POISON_COUNT % 256
  (((d.inc32 O.MEM_POISON_COUNT).wr O.MEM_POISON_OFFSET e off).wr O.MEM_POISON_AT e d.phcTime).wr O.MEM_POISON_CAUSE e cause

/-- What a statistics record had counted in external memory is lost with its line; what is counted from here on is staged
until the record is rewritten (R332, R334). -/
def loseStats (d : Device) (p : Nat) : Device :=
  if 0x06000000 ≤ 64 * p ∧ 64 * p < 0x07000000 then d.clearStats (p - 0x180000) else d

/-- A poison write of protected line `p` (R326): the counter rises, the tag becomes zero, the data stays. -/
def poisonWrite (d : Device) (p cause : Nat) : Device :=
  let c := (d.place p).1
  let i := (d.place p).2
  let b := d.bumpLine c i
  if ¬ b.1 then b.2 else
  let was := d.lineCtr c i
  let d := if b.2.poisonedLine p then b.2 else b.2.setMem { b.2.mem with poisoned := (p, was) :: b.2.mem.poisoned }
  (d.loseStats p).poisonLog (64 * p) cause

/-- A full-line write by the engine (R325) of protected line `p`, as far as counters and poison go: false when the line
is read-only. -/
def fullLine (d : Device) (p : Nat) : Bool × Device :=
  let c := (d.place p).1
  let i := (d.place p).2
  if d.unverifiable c i then (false, d.memNodeFail c (64 * p)) else
  let b := (d.fetchCounter c i (64 * p)).bumpLine c i
  if b.1 then (true, b.2.setMem { b.2.mem with poisoned := b.2.mem.poisoned.filter (fun e => e.1 != p) }) else b

/-- The verification of a line fails for good: counted, and a DEGRADED fault names MEM and the channel (R324). -/
def tagFail (d : Device) (p : Nat) : Device :=
  (d.inc64 O.MEM_TAG_FAILS).fault 0x304 (0x0A00 + (d.place p).1) 2 (leBytes 4 (64 * p))

/-- A read of protected line `p` whose device data is good (R324): false when the line is poisoned, which writes poison
again and is reported. -/
def readLine (d : Device) (p : Nat) : Bool × Device :=
  if d.mem.zeroed then (false, d) else
  if d.unverifiable (d.place p).1 (d.place p).2 then (false, d.memNodeFail (d.place p).1 (64 * p)) else
  let d := d.fetchCounter (d.place p).1 (d.place p).2 (64 * p)
  if d.poisonedLine p then (false, (d.poisonWrite p 1).tagFail p) else (true, d)

/-! ### Errors and retirement conditions (R313, R324, R330) -/

/-- A codeword of channel `c` is corrected (R313). -/
def memCorrected (d : Device) (c : Nat) : Device :=
  (d.inc64 O.MEM_CH_CORRECTED c).fault (0x300 + c) (0x0100 + c) 1 (leBytes 4 c)

/-- A channel is retired, or its retirement runs. -/
def retireTaken (d : Device) : Bool := (List.range 4).any (fun c => d.rd O.MEM_CH_STATE c != 0)

def setRetiring (d : Device) (x : Option (Nat × Bool)) (sw : Bool) : Device :=
  d.setMem { d.mem with retiring := x, switched := sw, copied := 0 }

/-- The channel of a planned retirement can no longer be read (R332): the retirement is forced from the copy point on.
How many lines have been copied is a matter of time, and a free value. -/
def forceRetire (d : Device) (c : Nat) : Device :=
  if d.mem.retiring = some (c, false) then
    let x := d.unstated
    x.2.setMem { x.2.mem with retiring := some (c, true), copied := if d.mem.switched then x.1 % 983041 else 0 }
  else d

/-- Channel `c` is retired in service (R330, R331): EVACUATING, its cause, and a DEGRADED fault; with another channel
already out it raises SEVERE instead and stays in service. -/
def startRetire (d : Device) (c cause : Nat) (forced : Bool) : Device :=
  if d.rd O.MEM_CH_STATE c ≠ 0 then (if forced then d.forceRetire c else d)
  else if d.retireTaken then d.fault (0x300 + c) (0x0300 + c) 3 (leBytes 4 c)
  else
    let d := (d.wr O.MEM_CH_STATE c 1).wr O.MEM_CH_CAUSE c cause
    let d := (d.wr O.MEM_REHASH_DONE 0 0).setRetiring (some (c, forced)) false
    d.fault (0x300 + c) (0x0300 + c) 2 (leBytes 4 c)

/-- The PHC second now. -/
def phcSecond (d : Device) : Nat := d.phc / (65536 * 1000000000)

/-- Uncorrectable codewords of channel `c` in the present PHC second. -/
def uncorrNow (d : Device) (c : Nat) : Nat :=
  (d.mem.uncorr.filter (fun e => e.1 == c && e.2.1 == d.phcSecond)).foldl (fun n e => n + e.2.2) 0

/-- An uncorrectable codeword of channel `c` is counted (R313, R330). -/
def memUncorrectable (d : Device) (c : Nat) : Device :=
  let n := d.uncorrNow c + 1
  (d.setMem { d.mem with uncorr := (c, d.phcSecond, n) :: d.mem.uncorr.filter (fun e => e.1 != c) }).inc64
    O.MEM_CH_UNCORRECTABLE c

/-! ### Initialization (R317, R321) -/

/-- The keys of the boot and zeros everywhere. The tree cache keeps the lines SRAM has lost. -/
def memInit (d : Device) : Device :=
  let a := d.drawBytes 32
  let b := a.2.drawBytes 32
  let c := b.2.drawBytes 32
  c.2.setMem { MemX.empty with kEnc := a.1, kTwk := b.1, kMac := c.1, lostLines := d.mem.lostLines, scrubFrom := d.cyc }

/-- The memory keys are zeroized (R339): until the rebuild, external memory serves nothing. -/
def memZero (d : Device) : Device := d.setMem { d.mem with kEnc := 0, kTwk := 0, kMac := 0, zeroed := true }

end Device
end Sys2Proof.Machine
end

