-- ==== Sys2Proof/Machine/Otp.lean ====
section
/-!
DEFINITION. The OTP (R335 to R337): its words, its fields with their check words, and the life-cycle vote; and the boot
flash as bytes (R349).
-/
namespace Sys2Proof.Machine

/-- The life-cycle codes of R336, by LC_STATE; TEST_UNLOCKED has none of its own. -/
def lcCode (st : Nat) : Nat :=
  if st = 0 then 0 else if st = 1 ∨ st = 2 then 0xFFFF else if st = 3 then 0xFFFFFFFF
  else if st = 4 then 0xFFFFFFFFFFFF else if st = 5 then 0xFFFFFFFFFFFFFF else 0xFFFFFFFFFFFFFFFF

/-- The state a code stands for. -/
def lcState (code : Nat) : Option Nat := [0, 1, 3, 4, 5, 6].find? (fun st => lcCode st == code)

/-- The number of bits set in the low `n` bits of `v`. -/
def countOnes (n v : Nat) : Nat := ((List.range n).filter (fun i => v.testBit i)).length

namespace Device

/-! ### Words and fields -/

/-- OTP word `w`: bits 32w + 31 to 32w. -/
def otpWord (d : Device) (w : Nat) : Nat := natAt d.otp w

/-- `n` words from word `w` on, as one number. -/
def otpWords (d : Device) : Nat → Nat → Nat
  | _, 0 => 0
  | w, n + 1 => d.otpWord w + 2 ^ 32 * otpWords d (w + 1) n

/-- The `n` bits from OTP bit `lo` on. -/
def otpBits (d : Device) (lo n : Nat) : Nat := bits (d.otpWords (lo / 32) (n / 32 + 2)) (lo % 32) n

/-- Burn the set bits of `v` (R335: a bit goes from 0 to 1 only) into word `w`. -/
def burnWord (d : Device) (w v : Nat) : Device := { d with otp := natPut d.otp w (d.otpWord w ||| (v % 2 ^ 32)) }

/-- Burn the words of `v` from word `w` on. -/
def burnWords : Nat → Nat → Nat → Device → Device
  | 0, _, _, d => d
  | n + 1, w, v, d => burnWords n (w + 1) (v / 2 ^ 32) (d.burnWord w v)

/-- Burn the set bits of an `n`-bit value at OTP bit `lo`. -/
def burnBits (d : Device) (lo n v : Nat) : Device := burnWords (n / 32 + 2) (lo / 32) ((v % 2 ^ n) <<< (lo % 32)) d

/-- The check word of a field's value (R335). -/
def checkWord (n v : Nat) : Nat := leNat ((sha256 (leBytes n v)).take 4)

/-- DEVICE_SERIAL (R335). -/
def serial (d : Device) : Nat := d.otpBits 3696 128

/-- DUS field A or B (R335): the value, and whether its check word verifies. -/
def dusField (d : Device) (b : Bool) : Nat := d.otpBits (if b then 2864 else 2576) 256
/-- No bit of DUS field A (or B) is burned, the check word's included (R340). -/
def dusBlank (d : Device) (b : Bool) : Bool := d.otpBits (if b then 2864 else 2576) 288 == 0
def dusValid (d : Device) (b : Bool) : Bool :=
  d.otpBits (if b then 3120 else 2832) 32 == checkWord 32 (d.dusField b)

/-- The DUS in use: field A when it is valid, otherwise field B (R335). -/
def dus (d : Device) : Nat := if d.dusValid false then d.dusField false else d.dusField true

/-- The owner field (R335). -/
def ownerRoot (d : Device) : Nat := d.otpBits 3152 256
def ownerHashField (d : Device) : Nat := d.otpBits 3408 256

/-- LC_OWNER_KEY_HASH: 0 before OWNED (R347). -/
def ownerKeyHash (d : Device) : Nat := if d.rd O.LC_STATE < 4 then 0 else d.ownerHashField

/-- Test-token slots whose hash is not zero and whose used bit is clear (R347). -/
def tokenFree (d : Device) (n : Nat) : Bool := d.otpBits (256 + 256 * n) 256 != 0 && !(d.otpBits 2304 8).testBit n
def tokensLeft (d : Device) : Nat := ((List.range 8).filter (fun n => d.tokenFree n)).length

/-- What OTP_WORD shows: words of the DUS fields and of the Owner Root read 0 (R347). -/
def otpShown (d : Device) (w : Nat) : Nat :=
  if (80 ≤ w ∧ w ≤ 88) ∨ (89 ≤ w ∧ w ≤ 97) ∨ (98 ≤ w ∧ w ≤ 106) then 0 else d.otpWord w

/-- FW_ROLLBACK_COUNT (R357). -/
def rollback (d : Device) : Nat := countOnes 64 (d.otpWords 520 2)

/-- The attestation top root (R335, R360). -/
def topRoot (d : Device) : Nat := d.otpWords 512 8

/-- The lowest unburned epoch bit (R361). -/
def nextEpoch (d : Device) : Option Nat := (List.range 32768).find? (fun e => !(d.otpWord (1024 + e / 32)).testBit (e % 32))

/-- Unburned epoch bits. -/
def epochsLeft (d : Device) : Nat := ((List.range 32768).filter (fun e => !(d.otpWord (1024 + e / 32)).testBit (e % 32))).length

/-! ### The vote (R337) -/

/-- Copy `k` of the life-cycle code. -/
def lcCopy (d : Device) (k : Nat) : Nat := d.otpBits (64 * k) 64

/-- The code at least two copies hold, when it is one of R336. -/
def lcVote (d : Device) : Option Nat :=
  if d.lcCopy 0 = d.lcCopy 1 ∨ d.lcCopy 0 = d.lcCopy 2 then lcState (d.lcCopy 0)
  else if d.lcCopy 1 = d.lcCopy 2 then lcState (d.lcCopy 1) else none

/-- A copy is outvoted (R366). -/
def lcOutvoted (d : Device) : Bool := d.lcVote.isSome && !(d.lcCopy 0 == d.lcCopy 1 && d.lcCopy 1 == d.lcCopy 2)

/-! ### Boot flash (R349) -/

/-- A flash byte; an erased one reads 0xFF. -/
def flashByte (d : Device) (o : Nat) : Nat := Sparse.get (fun _ => 255) d.flash o
def flashPut (d : Device) (o v : Nat) : Device := { d with flash := Sparse.put (fun _ => 255) d.flash o (v % 256) }

/-- `n` flash bytes from offset `o`. -/
def flashBytes (d : Device) (o n : Nat) : Bytes := (List.range n).map (fun i => BitVec.ofNat 8 (d.flashByte (o + i)))

/-- Write bytes into the flash. -/
def flashWrite (d : Device) (o : Nat) (bs : Bytes) : Device :=
  (bs.zipIdx).foldl (fun d e => d.flashPut (o + e.2) e.1.toNat) d

/-- Erase `n` bytes from offset `o`. -/
def flashErase (d : Device) (o n : Nat) : Device := { d with flash := d.flash.filter (fun e => decide (e.1 < o ∨ o + n ≤ e.1)) }

end Device
end Sys2Proof.Machine
end

