-- ==== Sys2Proof/Machine/Sessions.lean ====
section
/-!
DEFINITION. Sessions (R62 to R67, R343 to R345): opening, proving, expiry and closing, as every transport uses them, and
the commands SESSION_CLOSE, PROOF_LOCKOUT_END, SESSION_IDLE_EXPIRY and DEBUG_SESSION_EXPIRY.
-/
namespace Sys2Proof.Machine

/-- The rows of a transport (R62): the first row and how many. -/
def transportRows (t : Transport) : Nat × Nat := match t with | .ring => (1, 32) | .pcie => (33, 16) | .debug => (49, 4)

/-- The transport code in the key derivation of R63 and R344. -/
def transportCode (t : Transport) : Nat := match t with | .ring => 0 | .pcie => 1 | .debug => 2

/-- What an OPEN carries (R59). -/
structure OpenReq where
  role : Nat
  ca : Nat
  nm : Bytes
deriving DecidableEq, Repr

/-- The OPEN payload of R59: role, reserved, CA, nonce. -/
def openReq (p : Bytes) : OpenReq := ⟨leNat (p.take 1), leNat (slice 2 2 p), slice 4 16 p⟩

/-- How an OPEN is admitted (R63, R65, R338, R344): refused, open at once, a proof under a vault slot's root, or under a
certificate. -/
inductive Admission where
  | refuse (abort : Nat)
  | open_
  | root (slot : Nat)
  | cert
deriving DecidableEq, Repr

namespace Device

/-! ### Lockout (R65) -/

def failsOf (d : Device) (t : Transport) : List (Transport × Nat) :=
  d.proofFails.filter (fun e => decide (e.1 = t ∧ d.cyc < e.2 + msCycles 10000))

def setProofFails (d : Device) (l : List (Transport × Nat)) : Device := { d with proofFails := l }
def setLockouts (d : Device) (l : List (Transport × Nat)) : Device := { d with lockoutUntil := l }

/-- The transport refuses OPENs. -/
def lockedOut (d : Device) (t : Transport) : Bool := d.lockoutUntil.any (fun e => decide (e.1 = t ∧ d.cyc < e.2))

/-- A proof failed: the fourth within 10 s locks the transport for 10 s and is noted; the count then starts afresh. -/
def proofFailed (d : Device) (t : Transport) : Device :=
  let l := d.failsOf t ++ [(t, d.cyc)]
  let others := d.proofFails.filter (fun e => decide (e.1 ≠ t))
  if 4 ≤ l.length then
    ((d.setProofFails others).setLockouts (d.lockoutUntil.filter (fun e => decide (e.1 ≠ t)) ++
      [(t, d.cyc + msCycles 10000)])).note 0x0205 0x0C00 (leBytes 4 (transportCode t))
  else d.setProofFails (others ++ l)

/-! ### Admission (R63, R65, R338, R341) -/

/-- A SERVICE or DEBUG role in the present life-cycle state (R338, R341). -/
def admitService (d : Device) (t : Transport) (role : Nat) : Admission :=
  let st := d.rd O.LC_STATE
  if st = 6 ∨ d.rd O.LC_PENDING ≠ 0xFF ∨ (t = .ring ∧ st ≠ 4) then .refuse 0xA401
  else if role = 5 ∧ (st = 1 ∨ (st = 5 ∧ ¬ d.rdB O.LC_RMA_UNLOCKED)) then .refuse 0xA401
  else if st = 3 ∨ st = 4 then .cert else .open_

/-- A role with a root (R63, R65). R63 and R65 give the debug transport none: there these roles are refused with 0xA405
(DESIGN CHOICE, log entry 28). -/
def admitRoot (d : Device) (t : Transport) (role : Nat) : Admission :=
  let h := d.rd O.ROLE_ROOT role
  if t = .debug then .refuse 0xA405
  else if h = 0 then (if role = 1 ∧ t = .pcie then .open_ else .refuse 0xA405)
  else (d.slotOf h).elim (.refuse 0xA405) .root

def admission (d : Device) (t : Transport) (role : Nat) : Admission :=
  if 4 ≤ role then d.admitService t role else d.admitRoot t role

/-- The lowest free row of a transport. -/
def freeSession (d : Device) (t : Transport) : Option Nat :=
  ((List.range (transportRows t).2).map (· + (transportRows t).1)).find? (fun row => d.rd O.SESSION_STATE row == 0)

/-- The refusals of an OPEN (R40, R62, R63, R65, R79, R298), the lockout before the rest. -/
def openCheck (d : Device) (t : Transport) (o : OpenReq) : Nat :=
  firstFail
    [(d.mode == .boot || d.mode == .reset, 0xA303),
     (d.lockedOut t, 0xA405),
     (decide (o.role = 0 ∨ 5 < o.role), 0xA101),
     (o.role == 3 && decide (d.numCas ≤ o.ca), 0xA105),
     (d.admission t o.role == .refuse 0xA401, 0xA401),
     (!d.drbgReady, 0xA303),
     (o.role != 3 && o.ca != 0, 0xA101),
     (d.admission t o.role == .refuse 0xA405, 0xA405),
     ((d.freeSession t).isNone, 0xA206)]

/-! ### Keys (R63, R344) -/

/-- Ks of a session whose root is in slot `k`. -/
def rootKs (d : Device) (k : Nat) (t : Transport) (o : OpenReq) (nd s : Nat) : Bytes :=
  let top := d.keyBytes k
  let ki := if o.role = 3 then kdf top (asciiBytes "TENANT") (leBytes 2 o.ca) 32 else top
  kdf ki (asciiBytes "HOLLOTH-SESSION")
    (fit 16 o.nm ++ leBytes 16 nd ++ leBytes 4 s ++ leBytes 1 o.role ++ leBytes 2 o.ca ++ leBytes 1 (transportCode t)) 32

/-- Ks of a certificate session on the ring, under the Owner Root of slot 1. -/
def certKs (d : Device) (o : OpenReq) (nd s : Nat) : Bytes :=
  kdf (d.keyBytes 1) (asciiBytes "EHRUC-DEBUG-SESSION")
    (fit 16 o.nm ++ leBytes 16 nd ++ leBytes 4 s ++ leBytes 1 o.role ++ leBytes 1 0) 32

/-! ### Rows -/

/-- Allocate row `row` (R62): the identifier, the role, the state. The generation counts up at each use. -/
def allocSession (d : Device) (row state : Nat) (o : OpenReq) (nd ks : Nat) : Device :=
  let x := d.sessOf row
  let id := x.gen * 256 + row
  let d := d.setSess row ⟨leNat (fit 16 o.nm), nd, ks, d.cyc + msCycles 1000, d.cyc, [], 0, (x.gen + 1) % 2 ^ 24, x.timedOut⟩
  let d := d.wr O.SESSION_STATE row state
  let d := d.wr O.SESSION_ROLE row o.role
  let d := d.wr O.SESSION_CA row (if o.role = 3 then o.ca else 0)
  let d := d.wr O.SESSION_ID row id
  let d := d.wr O.SESSION_LAST_COUNTER row 0
  let d := d.wr O.DBG_CERT_EXPIRES row 0
  d.wr O.DBG_CERT_SCOPE row (if state = 2 ∧ 4 ≤ o.role then 0xFFFFFFFF else 0)

/-- The identifier row `row` gets next. -/
def nextSession (d : Device) (row : Nat) : Nat := (d.sessOf row).gen * 256 + row

/-- OPEN (R62 to R65): abort, session identifier, device nonce. -/
def openSession (d : Device) (t : Transport) (o : OpenReq) : (Nat × Nat × Nat) × Device :=
  let e := d.openCheck t o
  if e ≠ 0 then ((e, 0, 0), d) else
  let row := (d.freeSession t).getD 0
  let s := d.nextSession row
  let nd := (d.drawBytes 16).1
  let d1 := (d.drawBytes 16).2
  match d.admission t o.role with
  | .refuse a => ((a, 0, 0), d)
  | .open_ => ((0, s, nd), d1.allocSession row 2 o nd 0)
  | .root k =>
    let u := d1.slotUse k
    if u.1 ≠ 0 then ((u.1, 0, 0), u.2) else
    ((0, s, nd), (u.2.takeUse k).allocSession row 1 o nd (leNat (u.2.rootKs k t o nd s)))
  | .cert =>
    if t ≠ .ring then ((0, s, nd), d1.allocSession row 1 o nd 0) else
    if d1.rd O.VAULT_STATE 1 = 0 then ((0xA402, 0, 0), d) else
    let u := d1.slotUse 1
    if u.1 ≠ 0 then ((u.1, 0, 0), u.2) else
    ((0, s, nd), u.2.allocSession row 1 o nd (leNat (u.2.certKs o nd s)))

/-! ### Debug certificates (R343, R344) -/

/-- The certificate of row `row`: parts 0 to 5 together. -/
def certBytes (d : Device) (row : Nat) : Bytes :=
  (((List.range 6).map (fun i => leBytes 1000 (d.rd (O.DBG_CERT_PART_0 + i) row))).flatten).take 5364

/-- Every check of R343 and R344 on the certificate of an OPENING row. -/
def certGood (d : Device) (row : Nat) : Bool :=
  let c := d.certBytes row
  let x := d.sessOf row
  let st := d.rd O.LC_STATE
  let life := leNat (slice 44 4 c)
  leNat (c.take 1) == 1 && leNat (slice 1 1 c) == d.rd O.SESSION_ROLE row &&
  leNat (slice 2 1 c) == (if st = 3 then 1 else 2) && leNat (slice 3 1 c) == 0 &&
  leNat (slice 4 16 c) == d.serial && leNat (slice 20 16 c) == x.nd && leNat (slice 36 4 c) == d.rd O.SESSION_ID row &&
  decide (1 ≤ life ∧ life ≤ 86400) && leNat (slice 48 1 c) == st && leNat (slice 49 15 c) == 0 &&
  leNat (slice 124 4 c) == 0 &&
  (if st = 3 then leNat (slice 64 60 c) == Config.vendorKey
   else leNat (sha256 (slice 64 60 c)) == d.ownerKeyHash) &&
  hssVerify (slice 64 60 c) (slice 128 5236 c) (c.take 128)

/-- Free an OPENING row whose proof has not come good. -/
def freeOpening (d : Device) (row : Nat) : Device := d.clearSession row

/-- Row `row` becomes OPEN. -/
def becomeOpen (d : Device) (row : Nat) : Device :=
  (d.setSess row { d.sessOf row with lastAt := d.cyc }).wr O.SESSION_STATE row 2

/-- Row `row` becomes OPEN under its certificate: scope and expiry (R344, R345). -/
def becomeOpenCert (d : Device) (row : Nat) : Device :=
  let c := d.certBytes row
  let d := d.becomeOpen row
  let d := d.wr O.DBG_CERT_SCOPE row (leNat (slice 40 4 c))
  d.wr O.DBG_CERT_EXPIRES row (timeOf (d.phc + leNat (slice 44 4 c) * (1000000000 * 65536)))

/-- The OPENING row a PROVE names on its transport. -/
def openingRow (d : Device) (t : Transport) (id : Nat) : Option Nat :=
  let row := id % 256
  if 1 ≤ row ∧ row ≤ 52 ∧ rowTransport row = t ∧ d.rd O.SESSION_STATE row = 1 ∧ d.rd O.SESSION_ID row = id
  then some row else none

/-- The proof expected in row `row` (R63, R344). -/
def proofWanted (d : Device) (t : Transport) (row : Nat) : Bytes :=
  let x := d.sessOf row
  if 4 ≤ d.rd O.SESSION_ROLE row ∧ t ≠ .ring then (sha256 ((d.certBytes row).take 128)).take 16
  else cmac (leBytes 32 x.ks) (asciiBytes "PROVE" ++ leBytes 4 (d.rd O.SESSION_ID row) ++ leBytes 16 x.nm ++ leBytes 16 x.nd)

/-- The identifier's proof did not come within its second (R63). -/
def provedLate (d : Device) (t : Transport) (id : Nat) : Bool :=
  decide (1 ≤ id % 256 ∧ id % 256 ≤ 52) && rowTransport (id % 256) == t && (d.sessOf (id % 256)).timedOut == id

/-- PROVE (R63, R65, R344): the abort. One that comes after its second gets 0xA405 (log entry 27). -/
def proveSession (d : Device) (t : Transport) (id : Nat) (proof : Bytes) : Nat × Device :=
  if d.mode = .boot ∨ d.mode = .reset then (0xA303, d) else
  match d.openingRow t id with
  | none => (if d.provedLate t id then 0xA405 else 0xA007, d)
  | some row =>
    let cert := decide (4 ≤ d.rd O.SESSION_ROLE row)
    if proof ≠ d.proofWanted t row then
      (if cert then 0xA402 else 0xA405, (d.freeOpening row).proofFailed t)
    else if cert then
      (if d.certGood row then (0, d.becomeOpenCert row) else (0xA402, d.freeOpening row))
    else (0, d.becomeOpen row)

/-- CLOSE of a window or of the debug port: the session named, on its own transport. -/
def closeOn (d : Device) (t : Transport) (id : Nat) : Nat × Device :=
  if d.mode = .boot ∨ d.mode = .reset then (0xA303, d) else
  match d.openRow id with
  | some row => if rowTransport row = t then (0, d.closeSession row) else (0xA007, d)
  | none => (0xA007, d)

/-! ### Commands and events -/

/-- SESSION_CLOSE (R44, R67): any argument but 1 is refused with 0xA101. -/
def sessionCloseCore (r : Req) (row : Nat) : Device → Nat × Device :=
  runCmd r O.SESSION_CLOSE row { Conds.none with exempt := true } (fun d => (some 0, d.closeSession row))

def sessionClose (r : Req) (row : Nat) (d : Device) : Device := d.direct r (sessionCloseCore r row)

/-- The lockout of a transport ends (R65). -/
def proofLockoutEnd (t : Transport) (d : Device) : Device :=
  match d.lockoutUntil.find? (fun e => decide (e.1 = t)) with
  | none => d
  | some e => (d.passTo e.2).setLockouts (d.lockoutUntil.filter (fun e => decide (e.1 ≠ t)))

/-- Idle expiry of a ring or PCIe session (R67). -/
def sessionIdleExpiry (row : Nat) (d : Device) : Device :=
  if d.rd O.SESSION_STATE row = 2 ∧ row ≤ 48 then
    (d.passTo ((d.sessOf row).lastAt + msCycles (1000 * d.rd O.RING_SESSION_IDLE_S))).closeSession row
  else d

/-- The lifetime of a certificate session ends (R344). -/
def debugSessionExpiry (row : Nat) (d : Device) : Device :=
  if d.rd O.SESSION_STATE row = 2 ∧ d.rd O.DBG_CERT_EXPIRES row ≠ 0 then
    (d.passTo (d.reach (ticksOf (d.rd O.DBG_CERT_EXPIRES row)))).closeSession row
  else d

end Device

def execSessionClose (r : Req) (row : Nat) (s : State) := s.on (Device.sessionClose r row)
def execProofLockoutEnd (t : Transport) (s : State) := s.on (Device.proofLockoutEnd t)
def execSessionIdleExpiry (row : Nat) (s : State) := s.on (Device.sessionIdleExpiry row)
def execDebugSessionExpiry (row : Nat) (s : State) := s.on (Device.debugSessionExpiry row)

end Sys2Proof.Machine
end

