-- ==== Sys2Proof/Machine/Ring.lean ====
section
/-!
DEFINITION. The Holloth Ring (R51 to R61): character lock, forwarding, insertion, RING_HOLD and JOIN, addressing, and the
session messages OPEN and PROVE.
-/
namespace Sys2Proof.Machine
namespace Device

def setRing (d : Device) (x : RingX) : Device := { d with ring := x }
def setPins (d : Device) (x : Pins) : Device := { d with pins := x }

/-- Drive RING_HOLD, or stop driving it. -/
def setRingHold (d : Device) (l : Option Bool) : Device := (d.setPins { d.pins with ringHold := l }).emit (.pin "RING_HOLD" l)

/-- RING_HOLD is high: the bypass switch is open and the device is in the ring (R54). -/
def inRing (d : Device) : Bool := d.pins.ringHold == some true

/-- The modes in which ring and time logic serve (R54, R130). -/
def serving (d : Device) : Bool := d.mode == .stage || d.mode == .run || d.mode == .drain || d.mode == .safe

/-- The idle ordered set the device sends between messages (R52, R57, R130), behind its K28.5. -/
structure IdleSet where
  position : Nat
  place : Nat
  status : Nat
deriving DecidableEq, Repr

/-- Position, place, and the status byte: bit 0 ring logic ready, bit 1 exactly while TIME_HOLD is high. A device that does
not transmit (R85) sends none. -/
def idleSet (d : Device) : Option IdleSet :=
  if d.clockOn then
    some ⟨d.rd O.RING_POSITION, d.rd O.RING_BOARD_PLACE, boolNat d.pins.ringReady + 2 * boolNat (d.pins.timeHold == some true)⟩
  else none

/-! ### Character lock and idle sets (R52, R57) -/

def setTime (d : Device) (x : TimeX) : Device := { d with time := x }

/-- TIME_UPSTREAM_SEL (R131). -/
def selNow (d : Device) : Nat :=
  if ¬ d.rdB O.RING_SYNC then 0
  else if d.rd O.RING_UPSTREAM_PRESENT = 1 ∧ d.ring.upStatus.testBit 1 then 1
  else if d.rd O.RING_UPSTREAM_PRESENT = 2 ∧ d.rd O.RING_UPSTREAM_SEEN = d.rd O.TIME_BYPASS_EXPECTED ∧
      d.ring.upStatus.testBit 1 then 2
  else 3

/-- The delay selection follows what RING_IN shows; its changes are remembered (R129, R131). -/
def refreshSel (d : Device) : Device :=
  if d.rd O.TIME_UPSTREAM_SEL = d.selNow then d else
  (d.wr O.TIME_UPSTREAM_SEL 0 d.selNow).setTime { d.time with selAt := d.cyc }

/-- RING_UPSTREAM_PRESENT (R57), and the delay selection with it. -/
def refreshUpstream (d : Device) : Device :=
  (d.wr O.RING_UPSTREAM_PRESENT 0
    (if d.rd O.RING_UPSTREAM_EXPECTED = 0 ∨ ¬ d.rdB O.RING_SYNC then 0
     else if d.rd O.RING_UPSTREAM_SEEN = d.rd O.RING_UPSTREAM_EXPECTED then 1 else 2)).refreshSel

/-- The characters left in the insertion buffer after an idle ordered set: it drains by the four characters of the set, but
not while a message of the device's own is being sent (R53). -/
def drained (d : Device) : Nat := if d.cyc < d.ring.insertUntil then d.ring.buffered else d.ring.buffered - 4

/-- What an idle ordered set tells: the place and the status byte; it also lets the insertion buffer drain (R53). -/
def takeIdleSet (d : Device) (place status : Byte) : Device :=
  ((d.setRing { d.ring with upStatus := status.toNat, buffered := d.drained }).wr
    O.RING_UPSTREAM_SEEN 0 place.toNat).refreshUpstream

/-- Eight valid idle sets in a row: character lock (R52). -/
def ringCharacterLock (place status : Byte) (d : Device) : Device :=
  if ¬ d.clockOn ∨ d.rdB O.RING_SYNC then d else
  ((d.setRing { d.ring with lockedSince := d.cyc }).wr O.RING_SYNC 0 1).takeIdleSet place status

/-- Four errors within 64 characters: the lock is lost (R52). RING_HOLD needs the lock (R54). -/
def ringLockLoss (d : Device) : Device :=
  if ¬ d.rdB O.RING_SYNC then d else
  let d := (d.wr O.RING_SYNC 0 0).refreshUpstream
  if d.inRing then d.setRingHold (some false) else d

/-- An idle ordered set while the lock holds (R57). -/
def ringIdleSetRx (_position place status : Byte) (d : Device) : Device :=
  if d.rdB O.RING_SYNC then d.takeIdleSet place status else d

/-! ### Forwarding and insertion (R53) -/

/-- A message arrives while one of the device's own is being sent: it waits in the insertion buffer. -/
def bufferDuring (d : Device) (m : RingMsg) : Device :=
  if d.cyc < d.ring.insertUntil then d.setRing { d.ring with buffered := min 1054 (d.ring.buffered + ringChars m) } else d

/-- Send a received message on. -/
def forward (d : Device) (m : RingMsg) : Device := (d.bufferDuring m).emit (.ringForward m)

/-- The device accepts messages: it has a position (R56). -/
def addressed (d : Device) : Bool := d.rd O.RING_POSITION != 0xFE

/-- The message is for this device. -/
def forMe (d : Device) (m : RingMsg) : Bool := d.addressed && m.dst == d.rd O.RING_POSITION

/-- The message types of R59. -/
def knownType (t : Nat) : Bool := decide (1 ≤ t ∧ t ≤ 9)

/-- A message whose destination the device is: the checks of R59 and R60 before it is looked at. -/
def ringAccept (d : Device) (m : RingMsg) : Bool × Device :=
  if m.crc ≠ crc32 (ringCovered m) then (false, d.inc64 O.RING_CRC_ERRORS)
  else if ¬ knownType m.type ∨ 1024 < m.payload.length then (false, d.inc64 O.RING_BAD_MESSAGES)
  else (true, d)

/-- Insert the oldest message of the device's own, once the insertion buffer is empty (R53). A character takes 32 ns,
which is 40 slice cycles. -/
def ringMessageInsert (d : Device) : Device :=
  match d.ring.insertQ with
  | [] => d
  | m :: q =>
    if ¬ d.inRing ∨ ¬ d.rdB O.RING_SYNC ∨ d.ring.buffered ≠ 0 then d else
    let d := d.passTo d.ring.insertUntil
    (d.setRing { d.ring with insertQ := q, insertUntil := d.cyc + 40 * ringChars m }).emit (.ringMsg m)

/-! ### RING_HOLD and JOIN (R54, R55) -/

/-- The conditions of R54 have held for 10 µs. -/
def ringHoldAssert (d : Device) : Device :=
  if ¬ d.serving ∨ ¬ d.pins.ringReady ∨ ¬ d.rdB O.RING_SYNC ∨ d.inRing then d else
  let d := d.passTo (max d.ring.lockedSince d.ring.idleSince + usCycles 10)
  (d.setRing { d.ring with holdSince := d.cyc, joined := false }).setRingHold (some true)

/-- 10 µs after RING_HOLD went high: one JOIN message to position 0. A device without a position sends it with source 0xFE,
the value RING_POSITION reads then: no rule gives it another (DESIGN CHOICE, log entry 26). -/
def join (d : Device) : Device :=
  if ¬ d.inRing ∨ d.ring.joined then d else
  let d := d.passTo (d.ring.holdSince + usCycles 10)
  (d.setRing { d.ring with joined := true }).ringSend (ringSealCrc
    { dst := 0, src := d.rd O.RING_POSITION, type := 9, flags := 0, session := 0, counter := 0,
      reserved := 0, payload := leBytes 16 d.serial, tag := 0, crc := 0 })

/-! ### ADDRESS (R56) -/

/-- The ADDRESS that goes on: the byte incremented while it is at most 31. -/
def addressOn (m : RingMsg) : RingMsg :=
  let b := leNat (m.payload.take 1)
  if b ≤ 31 ∧ m.payload ≠ [] then ringSealCrc { m with payload := leBytes 1 (b + 1) ++ m.payload.drop 1 } else m

/-- An ADDRESS broadcast whose CRC and length hold (R56): the position, the message that goes on, and every ring session closed.
One without its payload byte gives no position: it goes on as it is, and the sessions close (DESIGN CHOICE, log entry 26). -/
def takeAddress (d : Device) (m : RingMsg) : Device :=
  let b := leNat (m.payload.take 1)
  let d := if m.payload = [] then d else d.wr O.RING_POSITION 0 (if b ≤ 31 then b else 0xFE)
  (d.closeSessions 1 32).forward (addressOn m)

/-- A message on RING_IN (R53): a returned one is removed, one for this device is taken off the ring, any other and
every broadcast goes on; an ADDRESS is handled as R56 says. One of the device's own messages that was sent without a position
is not known again when it returns, and goes on (log entry 26). -/
def ringArrive (d : Device) (m : RingMsg) : Device :=
  if ¬ d.inRing then d
  else if m.type = 1 ∧ m.dst = 0xFF then
    let c := d.ringAccept m
    if c.1 then d.takeAddress m else c.2.forward m
  else if d.addressed ∧ m.src = d.rd O.RING_POSITION then (if m.dst = 0xFF then d else d.inc64 O.RING_RETURNED)
  else if d.forMe m then (d.ringAccept m).2
  else if m.dst = 0xFF ∧ d.addressed then (d.forward m).ringAccept m |>.2
  else d.forward m

/-- A message that the device sees pass. -/
def ringMessageForward (m : RingMsg) (d : Device) : Device := d.ringArrive m

/-- An ADDRESS broadcast. A message that is none is handled as what it is. -/
def address (m : RingMsg) (d : Device) : Device := d.ringArrive m

/-! ### OPEN and PROVE on the ring (R59, R63) -/

/-- Answer `m` with a message of type `t`; untagged. -/
def ringAnswer (d : Device) (m : RingMsg) (t : Nat) (payload : Bytes) : Device :=
  d.ringSend (ringSealCrc { dst := m.src, src := d.rd O.RING_POSITION, type := t, flags := 0, session := 0, counter := 0,
                            reserved := 0, payload := payload, tag := 0, crc := 0 })

/-- The CHALLENGE of an OPEN (R59): abort, session, device nonce. -/
def challenge (a s nd : Nat) : Bytes := leBytes 2 a ++ leBytes 2 0 ++ leBytes 4 s ++ leBytes 16 nd

/-- OPEN on the ring: answered with a CHALLENGE. A payload of another length than 20 bytes is refused with 0xA102. A message
that is no OPEN for this device is handled as what it is. -/
def ringOpen (m : RingMsg) (d : Device) : Device :=
  if ¬ d.inRing ∨ ¬ d.forMe m ∨ m.type ≠ 5 then d.ringArrive m else
  let c := d.ringAccept m
  if ¬ c.1 then c.2
  else if m.payload.length ≠ 20 then d.ringAnswer m 6 (challenge 0xA102 0 0)
  else
    let x := d.openSession .ring (openReq m.payload)
    x.2.ringAnswer m 6 (challenge x.1.1 x.1.2.1 x.1.2.2)

/-- PROVE on the ring: answered with an untagged RESPONSE that carries the abort: its payload is the abort and the reserved
field alone, since a PROVE has no address block to echo (DESIGN CHOICE, log entry 26). -/
def ringProve (m : RingMsg) (d : Device) : Device :=
  if ¬ d.inRing ∨ ¬ d.forMe m ∨ m.type ≠ 7 then d.ringArrive m else
  let c := d.ringAccept m
  if ¬ c.1 then c.2
  else if m.payload.length ≠ 20 then d.ringAnswer m 3 (leBytes 2 0xA102 ++ leBytes 2 0)
  else
    let x := d.proveSession .ring (leNat (m.payload.take 4)) (m.payload.drop 4)
    x.2.ringAnswer m 3 (leBytes 2 x.1 ++ leBytes 2 0)

/-- No PROVE within 1 s: the row is freed as a failed proof (R63, R65), and the device answers 0xA405: on the ring with a
RESPONSE to the ring master at once, on every transport to a PROVE that comes late (DESIGN CHOICE, log entry 27). -/
def proveTimeout (row : Nat) (d : Device) : Device :=
  if d.rd O.SESSION_STATE row = 1 then
    let d := d.passTo (d.sessOf row).openBy
    let id := d.rd O.SESSION_ID row
    let d := (d.freeOpening row).proofFailed (rowTransport row)
    let d := d.setSess row { d.sessOf row with timedOut := id }
    if rowTransport row = .ring then
      d.ringSend (ringSealCrc { dst := 0, src := d.rd O.RING_POSITION, type := 3, flags := 0, session := 0, counter := 0,
                                reserved := 0, payload := leBytes 2 0xA405 ++ leBytes 2 0, tag := 0, crc := 0 })
    else d
  else d

end Device

def execProveTimeout (row : Nat) (s : State) := s.on (Device.proveTimeout row)
def execRingCharacterLock (place status : Byte) (s : State) := s.on (Device.ringCharacterLock place status)
def execRingLockLoss (s : State) := s.on Device.ringLockLoss
def execRingIdleSetRx (position place status : Byte) (s : State) := s.on (Device.ringIdleSetRx position place status)
def execRingMessageForward (m : RingMsg) (s : State) := s.on (Device.ringMessageForward m)
def execRingMessageInsert (s : State) := s.on Device.ringMessageInsert
def execRingHoldAssert (s : State) := s.on Device.ringHoldAssert
def execJoin (s : State) := s.on Device.join
def execAddress (m : RingMsg) (s : State) := s.on (Device.address m)
def execRingOpen (m : RingMsg) (s : State) := s.on (Device.ringOpen m)
def execRingProve (m : RingMsg) (s : State) := s.on (Device.ringProve m)

end Sys2Proof.Machine
end

