-- ==== Sys2Proof/Machine/Pcie.lean ====
section
/-!
DEFINITION. The PCIe host port (R68 to R75) as far as it is not a dictionary request: link and port reset, the session ops
of the request windows, DMA rings, doorbells, interrupts.
-/
namespace Sys2Proof.Machine
namespace Device

def setPcie (d : Device) (x : PcieX) : Device := { d with pcie := x }

/-! ### Link and reset (R68) -/

/-- The link trains: width and speed code. Configuration requests are answered from then on. In RESET the link is down. -/
def pcieLinkUp (width speed : Nat) (d : Device) : Device :=
  if d.mode = .reset ∨ width = 0 ∨ 4 < width ∨ speed = 0 ∨ 5 < speed then d else
  (d.wr O.PCIE_LINK_WIDTH 0 width).wr O.PCIE_LINK_SPEED 0 speed

/-- Ring `n` forgets the descriptors it has taken: the host port that would write them back is gone (R68). -/
def dmaForget (d : Device) (n : Nat) : Device := d.setTaken n []

/-- The host port is reset: PCIe sessions close, DMA rings stop, windows idle, and MSI-X is disabled with every entry
masked again, as PCIe Base 5.0 has it after a reset (PRESUMED, log entry 8). Lookaside jobs end without completion (R311). -/
def hostPortReset (d : Device) : Device :=
  let rings := d.la.jobs.map LaJob.ring
  let d := rings.foldl jobGone
    (((List.range 64).foldl dmaForget (d.setLa { d.la with jobs := [] })).wr O.LA_CONTEXTS_BUSY 0 0)
  let d := (List.range 64).foldl (fun d n => d.dmaStop n) (d.closeSessions 33 48)
  d.setPcie { d.pcie with windows := [], masked := 2 ^ 64 - 1, pendBits := 0, vectors := [], msixOn := false, funcMask := false }

/-- PCIE_PERST_N and link down take the link down; a Function Level Reset does not (R68). -/
def pciePortReset (c : PortResetCause) (d : Device) : Device :=
  if d.mode = .reset then d else
  let d := d.hostPortReset
  if c = .flr then d else (d.wr O.PCIE_LINK_WIDTH 0 0).wr O.PCIE_LINK_SPEED 0 0

/-! ### Request windows (R70) -/

/-- The registers of window `w` after the host has written a request into it. -/
def windowSubmit (d : Device) (w address session length op : Nat) (value : Bytes) : Device :=
  d.setWin w ⟨address, session, length, op, true, (d.winOf w).abort, value⟩

/-- A window request completes: status and value are written, busy clears, the vector is signalled. -/
def windowDone (d : Device) (w abort : Nat) (value : Bytes) : Device :=
  (d.setWin w { d.winOf w with busy := false, abort := abort, value := value }).msix (d.rd O.PCIE_WINDOW_VECTOR)

/-- The window takes requests: it exists and is not busy, and the device is out of RESET, in which the link is down. -/
def windowReady (d : Device) (w : Nat) : Bool := d.mode != .reset && decide (w < 4) && !(d.winOf w).busy

/-- Op OPEN with the payload of R59: the value is that of a CHALLENGE. In BOOT every op completes with 0xA303. -/
def pcieWindowOpen (w : Nat) (payload : Bytes) (d : Device) : Device :=
  if ¬ d.windowReady w then d else
  let d := d.windowSubmit w 0 0 payload.length 3 payload
  if d.mode = .boot then d.windowDone w 0xA303 [] else
  if payload.length ≠ 20 then d.windowDone w 0xA102 [] else
  let x := d.openSession .pcie (openReq payload)
  x.2.windowDone w x.1.1 (challenge x.1.1 x.1.2.1 x.1.2.2)

/-- Op PROVE with the payload of R59. -/
def pcieWindowProve (w : Nat) (payload : Bytes) (d : Device) : Device :=
  if ¬ d.windowReady w then d else
  let d := d.windowSubmit w 0 0 payload.length 4 payload
  if d.mode = .boot then d.windowDone w 0xA303 [] else
  if payload.length ≠ 20 then d.windowDone w 0xA102 [] else
  let x := d.proveSession .pcie (leNat (payload.take 4)) (payload.drop 4)
  x.2.windowDone w x.1 []

/-- Op CLOSE of the session in the window's session field. -/
def pcieWindowClose (w session : Nat) (d : Device) : Device :=
  if ¬ d.windowReady w then d else
  let d := d.windowSubmit w 0 session 0 5 []
  let x := d.closeOn .pcie session
  x.2.windowDone w x.1 []

/-! ### DMA rings (R72, R74) -/

/-- RING_ENABLE becomes true: the ring runs from index 0 (R72, R74). One that still finishes its last descriptor runs from
there once it has stopped. Completions not yet signalled stay so. -/
def ringStart (d : Device) (n : Nat) : Device :=
  let d := d.wr O.RING_ENABLE n 1
  if d.rd O.RING_STATE n = 1 then d else
  (((d.wr O.RING_STATE n 1).wr O.RING_HEAD n 0).wr O.RING_TAIL n 0).setDma n
    { DmaX.empty with unsignalled := (d.dmaOf n).unsignalled, oldest := (d.dmaOf n).oldest }

/-- An enable needs an open PCIe session in RING_SESSION (R72). -/
def ringSessionOpen (d : Device) (n : Nat) : Bool :=
  (d.openRow (d.rd O.RING_SESSION n)).elim false (fun row => rowTransport row == .pcie)

/-- A doorbell write: a new tail, or ignored (R74). -/
def doorbell (n tail : Nat) (d : Device) : Device :=
  if d.mode = .reset ∨ 64 ≤ n ∨ d.rd O.RING_STATE n ≠ 1 ∨ d.rd O.RING_SIZE n ≤ tail then d else d.wr O.RING_TAIL n tail

/-- Ring `n` has a descriptor to take, and is not about to stop. -/
def ringReady (d : Device) (n : Nat) : Bool :=
  d.rd O.RING_STATE n == 1 && !(d.dmaOf n).stopping && d.rd O.RING_HEAD n != d.rd O.RING_TAIL n

/-- The next ready ring after the one served last, round-robin (R74). -/
def nextRing (d : Device) : Option Nat :=
  ((List.range 64).map (fun k => (d.pcie.lastServed + 1 + k) % 64)).find? (fun n => d.ringReady n)

/-- The status a descriptor is rejected with before any transfer (R73); 0 when it is not. -/
def descCheck (d : Device) (n : Nat) (x : Descriptor) : Nat :=
  if d.rd O.RING_BUF_MAX n < x.length then 1 else if x.length = 0 ∨ x.address % 8 ≠ 0 then 2 else 0

/-- The oldest completion of ring `n` that has not been signalled is RING_IRQ_NS old (R74). -/
def dmaIrqTimer (n : Nat) (d : Device) : Device :=
  if d.mode = .reset ∨ (d.dmaOf n).unsignalled = 0 ∨ d.rd O.RING_IRQ_NS n = 0 then d else
  (d.passTo ((d.dmaOf n).oldest + nsCycles (d.rd O.RING_IRQ_NS n))).dmaSignal n

/-! ### MSI-X (R69, R75) -/

/-- A pending interrupt of entry `e` that may be sent now is sent, once. -/
def msixRelease (d : Device) (e : Nat) : Device :=
  if d.pcie.pendBits.testBit e && d.msixLive e then
    (d.setPcie { d.pcie with pendBits := setBit d.pcie.pendBits e false }).msixSend e
  else d

/-- What the host writes: a table entry with its mask bit, or the enable and the function mask of the capability. -/
def msixStore (d : Device) (w : MsixWrite) : Device :=
  match w with
  | .entry e address data masked =>
    if 64 ≤ e then d else
    d.setPcie { d.pcie with vectors := natPut d.pcie.vectors e (data % 2 ^ 32 * 2 ^ 64 + address % 2 ^ 64), masked := setBit d.pcie.masked e masked }
  | .control enable functionMask => d.setPcie { d.pcie with msixOn := enable, funcMask := functionMask }

/-- The host writes the MSI-X table or capability; every pending interrupt that the write lets go is raised once. -/
def msixUnmask (w : MsixWrite) (d : Device) : Device :=
  if d.mode = .reset then d else (List.range 64).foldl msixRelease (d.msixStore w)

/-! ### What the host port shows (R68, R69) -/

/-- What configuration space says of the one function (R68): Device and Vendor ID, class code, AER, the largest payload and
read request in bytes; no SR-IOV and no ATS. -/
structure HostPortId where
  device : Nat
  vendor : Nat
  classCode : Nat
  aer : Bool
  maxPayload : Nat
  maxReadRequest : Nat
  sriov : Bool
  ats : Bool
deriving DecidableEq, Repr

/-- The identity of the endpoint. -/
def hostPortId (d : Device) : HostPortId :=
  ⟨match d.part with | .isf3232 => 0x3232 | .isf3216 => 0x3216, Config.vendorId % 65536, 0x108000, true, 512, 4096, false, false⟩

/-- The bytes of request window `w` as the host reads them back (R70): go and reserved bits read 0. -/
def windowBytes (d : Device) (w : Nat) : Bytes :=
  let x := d.winOf w
  leBytes 8 x.address ++ leBytes 4 x.session ++ leBytes 2 x.length ++ leBytes 2 0 ++ leBytes 4 (x.op % 16) ++
  leBytes 4 (boolNat x.busy * 2 ^ 31 + x.abort % 65536) ++ leBytes 40 0 ++ fit 4032 x.value

/-- The 16 bytes of MSI-X entry `e`: address, data, vector control (R69, R75). -/
def msixEntryBytes (d : Device) (e : Nat) : Bytes :=
  leBytes 12 (d.vectorOf e) ++ leBytes 4 (boolNat (d.pcie.masked.testBit e))

/-- The four bytes at offset `o` of BAR0 (R69). A reserved offset reads 0, and so does a doorbell, which R69 names as a place
to write (DESIGN CHOICE, log entry 8). -/
def bar0Read (d : Device) (o : Nat) : Nat :=
  if o < 0x4000 then leNat (slice (o % 0x1000) 4 (d.windowBytes (o / 0x1000)))
  else if 0x20000 ≤ o ∧ o < 0x20400 then leNat (slice (o % 16) 4 (d.msixEntryBytes ((o - 0x20000) / 16)))
  else if 0x21000 ≤ o ∧ o < 0x21008 then leNat (slice (o - 0x21000) 4 (leBytes 8 d.pcie.pendBits))
  else 0

end Device

def execPcieLinkUp (width speed : Nat) (s : State) := s.on (Device.pcieLinkUp width speed)
def execPciePortReset (c : PortResetCause) (s : State) := s.on (Device.pciePortReset c)
def execPcieWindowOpen (w : Nat) (payload : Bytes) (s : State) := s.on (Device.pcieWindowOpen w payload)
def execPcieWindowProve (w : Nat) (payload : Bytes) (s : State) := s.on (Device.pcieWindowProve w payload)
def execPcieWindowClose (w session : Nat) (s : State) := s.on (Device.pcieWindowClose w session)
def execDoorbell (n tail : Nat) (s : State) := s.on (Device.doorbell n tail)
def execDmaIrqTimer (n : Nat) (s : State) := s.on (Device.dmaIrqTimer n)
def execMsixUnmask (w : MsixWrite) (s : State) := s.on (Device.msixUnmask w)

end Sys2Proof.Machine
end

