-- ==== Sys2Proof/Machine/Jtag.lean ====
section
/-!
DEFINITION. JTAG and the debug access port (R76, R77) as far as it is not a dictionary request: the TAP instructions, the
value buffer, STATUS, and the session ops.
-/
namespace Sys2Proof.Machine
namespace Device

def setJtag (d : Device) (x : JtagX) : Device := { d with jtag := x }
def setTap (d : Device) (t : Tap) : Device := d.setJtag { d.jtag with tap := t }

/-- The part number in IDCODE (R76). -/
def partCode (d : Device) : Nat := match d.part with | .isf3232 => 0x3232 | .isf3216 => 0x3216

/-- The IDCODE value (R76). -/
def idcodeValue (d : Device) : Nat :=
  Config.steppingNumber % 16 * 2 ^ 28 + d.partCode * 2 ^ 12 + Config.manufacturer % 2048 * 2 + 1

def bypass (d : Device) : Device := d.setTap .bypass

def idcode (d : Device) : Device := (d.setTap .idcode).emit (.tapOut d.idcodeValue)

/-- The chain captures the pins, whose levels the outside sets: a free value is shifted out while `chain` goes in. -/
def chainCapture (d : Device) (chain : Nat) : Device :=
  let x := d.unstated
  (x.2.setJtag { x.2.jtag with chain := chain }).emit (.tapOut x.1)

def samplePreload (chain : Nat) (d : Device) : Device := (d.setTap .sample).chainCapture chain

/-- EXTEST drives the pins from the chain in RESET and holds the device there; elsewhere it acts as BYPASS (R76). -/
def extest (chain : Nat) (d : Device) : Device :=
  if d.mode = .reset then ((d.setTap .extest).chainCapture chain).emit (.boundary chain) else d.bypass

/-! ### DAP_ACCESS (R77) -/

/-- The 128-bit register: address block, session or value, op, argument. -/
def dapWord (address session op arg : Nat) : Nat :=
  address * 2 ^ 64 + session % 2 ^ 32 * 2 ^ 32 + op * 2 ^ 24 + arg % 2 ^ 24

/-- A scan shifts out what the previous operation left; the register then holds `v`. -/
def dapScan (d : Device) (v : Nat) : Device :=
  ((d.setTap .dapAccess).emit (.tapOut d.jtag.dr)).setJtag { d.jtag with tap := .dapAccess, dr := v }

def setDapAbort (d : Device) (a : Nat) : Device := d.setJtag { d.jtag with abort := a }

/-- The bytes of the value buffer, and a buffer that begins with `v`. -/
def dapBytes (d : Device) (o n : Nat) : Bytes := (List.range n).map (fun i => BitVec.ofNat 8 (natAt d.jtag.buf (o + i)))
def dapStore (d : Device) (o : Nat) (v : Bytes) : Device :=
  d.setJtag { d.jtag with buf := (v.zipIdx).foldl (fun l e => natPut l (o + e.2) e.1.toNat) d.jtag.buf }

/-- The offset of VALUE_IN and VALUE_OUT: a multiple of 4 below 4,032 (bits 23 to 12 are zero then). -/
def dapOffsetOk (o : Nat) : Bool := o % 4 == 0 && decide (o < 4032)

def valueIn (offset v : Nat) (d : Device) : Device :=
  if d.mode = .reset then d else
  let d := d.dapScan (dapWord 0 v 3 offset)
  if dapOffsetOk offset then d.dapStore offset (leBytes 4 v) else d.setDapAbort 0xA101

def valueOut (offset : Nat) (d : Device) : Device :=
  if d.mode = .reset then d else
  if dapOffsetOk offset then d.dapScan (dapWord 0 (leNat (d.dapBytes offset 4)) 4 offset)
  else (d.dapScan (dapWord 0 0 4 offset)).setDapAbort 0xA101

/-- After STATUS the register holds busy in bit 31 (a debug request ends within its command) and the abort (R77); the bits R77
does not name read 0 (DESIGN CHOICE, log entry 29). In BOOT it returns 0xA303 (R79). -/
def dapStatus (d : Device) : Device :=
  if d.mode = .reset then d else d.dapScan (if d.mode = .boot then 0xA303 else d.jtag.abort)

/-- OPEN: the payload of R59 stands at the start of the value buffer, and the CHALLENGE takes its place. -/
def dapOpen (d : Device) : Device :=
  if d.mode = .reset then d else
  let d := d.dapScan (dapWord 0 0 6 0)
  let x := d.openSession .debug (openReq (d.dapBytes 0 20))
  (x.2.dapStore 0 (challenge x.1.1 x.1.2.1 x.1.2.2)).setDapAbort x.1.1

/-- PROVE: session and proof stand at the start of the value buffer. -/
def dapProve (d : Device) : Device :=
  if d.mode = .reset then d else
  let d := d.dapScan (dapWord 0 0 7 0)
  let x := d.proveSession .debug (leNat (d.dapBytes 0 4)) (d.dapBytes 4 16)
  x.2.setDapAbort x.1

def dapClose (session : Nat) (d : Device) : Device :=
  if d.mode = .reset then d else
  let d := d.dapScan (dapWord 0 session 8 0)
  let x := d.closeOn .debug session
  x.2.setDapAbort x.1

end Device

def execBypass (s : State) := s.on Device.bypass
def execIdcode (s : State) := s.on Device.idcode
def execSamplePreload (chain : Nat) (s : State) := s.on (Device.samplePreload chain)
def execExtest (chain : Nat) (s : State) := s.on (Device.extest chain)
def execValueIn (offset v : Nat) (s : State) := s.on (Device.valueIn offset v)
def execValueOut (offset : Nat) (s : State) := s.on (Device.valueOut offset)
def execDapStatus (s : State) := s.on Device.dapStatus
def execDapOpen (s : State) := s.on Device.dapOpen
def execDapProve (s : State) := s.on Device.dapProve
def execDapClose (session : Nat) (s : State) := s.on (Device.dapClose session)

end Sys2Proof.Machine
end

