-- ==== Sys2Proof/Machine/Firmware.lean ====
section
/-!
DEFINITION. Firmware images, measurement and attestation (R349 to R364), except the command that enters RESET: slots and
manifests, parser programs as images (R150, R152), FW_CMD, the hot activation, epochs and Nymlos evidence records.
-/
namespace Sys2Proof.Machine

/-! ### Parser programs (R150 to R152) -/

/-- The fields of an instruction word. -/
def pOp (w : Nat) : Nat := bits w 60 4
def pWidth (w : Nat) : Nat := bits w 57 3 + 1
def pOffset (w : Nat) : Nat := bits w 50 7
def pValue (w : Nat) : Nat := bits w 34 16
def pMask (w : Nat) : Nat := bits w 18 16
def pTarget (w : Nat) : Nat := bits w 9 9
def pArg (w : Nat) : Nat := bits w 0 9

/-- Every path from instruction `i` reaches an END within `n` instructions. An END stops, so a path that is longer has a
cycle or is too long; running past instruction 511 reaches none. -/
def pathsEnd (prog : List Nat) : Nat → Nat → Bool
  | 0, _ => false
  | n + 1, i =>
    if 512 ≤ i then false else
    let w := prog.getD i 0
    match pOp w with
    | 0 => true
    | 2 => pathsEnd prog n (pTarget w) && pathsEnd prog n (i + 1)
    | 6 => pathsEnd prog n (pTarget w)
    | _ => pathsEnd prog n (i + 1)

/-- The conditions of R152. -/
def programOk (prog : List Nat) : Bool :=
  prog.all (fun w => decide (pOp w ≤ 6) && !(pOp w == 0 && bits (pArg w) 4 2 == 3)) &&
  pathsEnd prog 16 0 && pathsEnd prog 16 256

/-- The 512 words of a 4,096-byte parser image. -/
def programOf (img : Bytes) : List Nat := (List.range 512).map (fun i => leNat (slice (8 * i) 8 img))

/-- The image of a program, and its digest. -/
def programBytes (prog : List Nat) : Bytes := (prog.map (leBytes 8)).flatten
def programDigest (prog : List Nat) : Nat := leNat (sha256 (programBytes prog))

/-! ### Slots (R349, R355) -/

/-- Flash offset and size of slot row `r`. -/
def slotBase (r : Nat) : Nat :=
  if r = 0 then 0 else if r = 1 then 0x500000 else 0xA00000 + 0x10000 * (2 * (r / 2 - 1) + r % 2)
def slotSize (r : Nat) : Nat := if r < 2 then 0x500000 else 0x10000

/-- Bit of the manifest's parts byte for this device. -/
def partBit (p : Part) : Nat := match p with | .isf3232 => 0 | .isf3216 => 1

namespace Device

def setFw (d : Device) (x : FwX) : Device := { d with fw := x }
def setAtt (d : Device) (x : AttX) : Device := { d with att := x }

/-- The manifest of slot `r`, its fields, and its image. -/
def manifest (d : Device) (r : Nat) : Bytes := d.flashBytes (slotBase r) 10632
def manNat (d : Device) (r o n : Nat) : Nat := leNat (d.flashBytes (slotBase r + o) n)
def imageLen (d : Device) (r : Nat) : Nat := d.manNat r 12 4
def slotImage (d : Device) (r : Nat) : Bytes := d.flashBytes (slotBase r + 0x4000) (d.imageLen r)
def imageDigest (d : Device) (r : Nat) : Nat := d.manNat r 16 32

/-- The owner's counter-signature of slot `r` verifies under a key whose hash is `hash` (R353, R339). -/
def ownerSigned (d : Device) (r hash : Nat) : Bool :=
  let m := d.manifest r
  leNat (sha256 (slice 96 60 m)) == hash && hssVerify (slice 96 60 m) (slice 5396 5236 m) (m.take 5396)

/-- The checks of R353 on slot `r`, in order, for a device in life-cycle state `lc` with owner key hash `hash`. -/
def imageOk (d : Device) (r : Nat) : Bool :=
  let m := d.manifest r
  let sydin := decide (r < 2)
  let sv := d.manNat r 8 4
  (beNat (m.take 4) == 0x4953464D && leNat (slice 4 1 m) == 1 && leNat (slice 5 1 m) == (if sydin then 1 else 2) &&
    decide (leNat (slice 6 1 m) < 4) && (leNat (slice 6 1 m)).testBit (partBit d.part) &&
    decide (leNat (slice 7 1 m) ≤ (if sydin then 1 else 0)) && leNat (slice 156 4 m) == 0) &&
  hssVerify (leBytes 60 Config.vendorKey) (slice 160 5236 m) (m.take 160) &&
  (d.rd O.LC_STATE != 4 || d.ownerSigned r d.ownerKeyHash) &&
  (if sydin then decide (1 ≤ d.imageLen r ∧ d.imageLen r ≤ 4194304) else d.imageLen r == 4096) &&
  leNat (sha256 (d.slotImage r)) == d.imageDigest r &&
  (!sydin || decide (d.rollback ≤ sv))

/-- The slot is erased. -/
def slotErased (d : Device) (r : Nat) : Bool :=
  !d.flash.any (fun e => decide (slotBase r ≤ e.1 ∧ e.1 < slotBase r + slotSize r))

/-- Slot `r` takes state `st`; a verified or running slot reports its manifest (R363). -/
def setSlot (d : Device) (r st : Nat) : Device :=
  let d := d.wr O.FW_SLOT_STATE r st
  if st = 2 ∨ st = 4 then
    ((d.wr O.FW_SLOT_DIGEST r (d.imageDigest r)).wr O.FW_SLOT_VERSION r (d.manNat r 8 4)).wr O.FW_SLOT_BUILD_ID r (d.manNat r 80 16)
  else ((d.wr O.FW_SLOT_DIGEST r 0).wr O.FW_SLOT_VERSION r 0).wr O.FW_SLOT_BUILD_ID r 0

/-- The slot of the Sydin image that runs, or none (BOOT_IMAGE). -/
def runningSlot (d : Device) : Option Nat := if d.rd O.BOOT_IMAGE = 0xFF then none else some (d.rd O.BOOT_IMAGE)

/-- Slot row of image `x` of slice `s`. -/
def parserSlot (s x : Nat) : Nat := 2 * (1 + s) + x

/-! ### Programs in the pipelines -/

def progAt (l : List (Nat × List Nat)) (s : Nat) : List Nat := Sparse.get (fun _ => []) l s
def progPut (l : List (Nat × List Nat)) (s : Nat) (p : List Nat) : List (Nat × List Nat) := Sparse.put (fun _ => []) l s p

/-- The program of slot `r`. -/
def slotProgram (d : Device) (r : Nat) : List Nat := programOf (d.slotImage r)

/-- Program `prog` from image `x` is the active one of slice `s`. -/
def setActive (d : Device) (s x : Nat) (prog : List Nat) : Device :=
  let d := d.setPipe { d.pipe with active := progPut d.pipe.active s prog }
  (d.wr O.PARSER_ACTIVE_IMAGE s x).wr O.PARSER_ACTIVE_DIGEST s (programDigest prog)

/-- The shadow of slice `s` becomes empty. -/
def emptyShadow (d : Device) (s : Nat) : Device :=
  let d := d.setPipe { d.pipe with shadow := progPut d.pipe.shadow s [], shadowImage := natPut d.pipe.shadowImage s 0 }
  (d.wr O.PARSER_SHADOW_STATE s 0).wr O.PARSER_SHADOW_DIGEST s 0

/-- The shadow of slice `s` holds program `prog` of image `x`. -/
def loadShadow (d : Device) (s x : Nat) (prog : List Nat) : Device :=
  let d := d.setPipe { d.pipe with shadow := progPut d.pipe.shadow s prog, shadowImage := natPut d.pipe.shadowImage s x }
  (d.wr O.PARSER_SHADOW_STATE s 1).wr O.PARSER_SHADOW_DIGEST s (programDigest prog)

/-! ### Loading at BOOT (R350) -/

/-- The preference byte of the control block for byte `k`: erased counts as A. -/
def prefers (d : Device) (k : Nat) : Nat := if d.flashByte (0xF00000 + k) = 1 then 1 else 0

/-- What FW_SLOT_STATE reads before any check: EMPTY or WRITTEN. -/
def slotsFromFlash (d : Device) : Device :=
  (List.range (2 + 2 * d.slices)).foldl (fun d r => d.setSlot r (if d.slotErased r then 0 else 1)) d

/-- A slot that has failed the check of BOOT: FAILED, unless it is erased. -/
def slotFails (d : Device) (r : Nat) : Device := d.setSlot r (if d.slotErased r then 0 else 3)

/-- The ROM tries the preferred Sydin slot, then the other. -/
def loadSydin (d : Device) : Device :=
  let a := d.prefers 0
  let b := 1 - a
  if d.imageOk a then (d.setSlot a 4).wr O.BOOT_IMAGE 0 a
  else
    let d := d.slotFails a
    if d.imageOk b then (d.setSlot b 4).wr O.BOOT_IMAGE 0 b
    else ((d.slotFails b).wr O.BOOT_IMAGE 0 0xFF).wr O.BOOT_STATUS 0
      (if d.rd O.BOOT_STATUS = 3 then 3 else 1)

/-- Slot `r` holds a parser program that may be loaded (R152, R353). -/
def parserGood (d : Device) (r : Nat) : Bool := d.imageOk r && programOk (d.slotProgram r)

/-- The ROM loads the parser program of slice `s`; with neither slot good the slice is FAILED (R91, R350), which
the first lap shows (R280). -/
def loadParser (d : Device) (s : Nat) : Device :=
  let a := d.prefers (1 + s)
  if d.parserGood (parserSlot s a) then
    (d.setActive s a (d.slotProgram (parserSlot s a))).setSlot (parserSlot s a) 4
  else if d.parserGood (parserSlot s (1 - a)) then
    ((d.slotFails (parserSlot s a)).setActive s (1 - a) (d.slotProgram (parserSlot s (1 - a)))).setSlot (parserSlot s (1 - a)) 4
  else
    (((((((d.slotFails (parserSlot s a)).slotFails (parserSlot s (1 - a))).lapFlag 16).wr O.PARSER_ACTIVE_DIGEST s 0).wr O.SLICE_STATE s 5).wr O.SLICE_CAUSE s 2).fault (sliceSrc s 5) (0x0A00 + s) 2
      (leBytes 4 s)).fault (sliceSrc s 0) (0x0300 + s) 2 (leBytes 4 s)

/-! ### Measurement (R354) -/

/-- The security digest. -/
def securityDigest (d : Device) : Nat :=
  leNat (sha256 (leBytes 1 (d.rd O.LC_STATE) ++ leBytes 32 d.ownerKeyHash ++
    (((List.range 392).map (fun i => leBytes 4 (d.otpWord (120 + i)))).flatten)))

/-- The seven digests at the end of BOOT, with Sydin's given. -/
def digests (d : Device) (sydin : Nat) : List Nat :=
  [Config.romDigest % 2 ^ 256, sydin] ++
  (List.range 4).map (fun s => if d.slices ≤ s ∨ d.rd O.SLICE_STATE s = 5 then 0 else d.rd O.PARSER_ACTIVE_DIGEST s) ++
  [d.securityDigest]

/-- The chain of a list of digests. -/
def chain (l : List Nat) : Nat := leNat (l.foldl (fun m x => sha256 (m ++ leBytes 32 x)) (List.replicate 32 0#8))

def setMeasured (d : Device) (l : List Nat) : Device := d.setFw { d.fw with measured := l }

/-- FW_M_MISMATCH: the running image's manifest names another chain (R354). -/
def mismatch (d : Device) : Bool := d.runningSlot.elim false (fun r => d.manNat r 48 32 != d.rd O.FW_M)

/-- M is built at BOOT. -/
def measure (d : Device) : Device :=
  let l := d.digests (d.runningSlot.elim 0 d.imageDigest)
  let d := (d.setMeasured l).wr O.FW_M 0 (chain l)
  d.wr O.FW_M_MISMATCH 0 (boolNat d.mismatch)

/-! ### The staged manifest (R356, R300) -/

/-- Slot 3 and the keys derived from it are zeroized. -/
def dropSlot3 (d : Device) : Device :=
  ((d.vaultRows.filter (fun k => decide (4 ≤ k) && d.rd O.VAULT_PARENT k == 3 && d.rd O.VAULT_ORIGIN k == 3)).foldl zeroSlot d).zeroSlot 3

/-- The staged manifest is discarded. -/
def unstage (d : Device) : Device :=
  if d.fw.staged.isSome then (d.setFw { d.fw with staged := none }).dropSlot3 else d

/-- M′ of the staged manifest. -/
def successorM (d : Device) : Option Nat := d.fw.staged.map (fun r => d.manNat r 48 32)

/-! ### FW_CMD (R355 to R358) -/

/-- OWNER, and SERVICE before OWNED (R355): another role is refused with 0xA003. -/
def fwRole (d : Device) (r : Req) : Bool := d.roleOf r == 4 && decide (4 ≤ d.rd O.LC_STATE)

/-- The target names a slot row of this part. -/
def fwTargetOk (d : Device) : Bool := decide (d.rd O.FW_STAGE_TARGET < 2 + 2 * d.slices)

/-- The target may not be rewritten (R355). -/
def fwTargetBusy (d : Device) : Bool :=
  let t := d.rd O.FW_STAGE_TARGET
  let s := t / 2 - 1
  if t < 2 then d.runningSlot == some t
  else (d.rd O.PARSER_ACTIVE_IMAGE s == t % 2 && d.rd O.PARSER_ACTIVE_DIGEST s != 0) ||
       (d.rd O.PARSER_SHADOW_STATE s == 2 && natAt d.pipe.shadowImage s == t % 2)

def fwConds (d : Device) (r : Req) (s4 s6 : List (Bool × Nat)) : Conds :=
  { Conds.none with s2 := [(d.fwRole r, 0xA003)], s4 := s4, s6 := s6 }

/-- A slot's contents change: a staged manifest in it is discarded. -/
def slotTouched (d : Device) (t : Nat) : Device := if d.fw.staged = some t then d.unstage else d

def fwEraseCore (r : Req) (d : Device) : Nat × Device :=
  runCmd r O.FW_CMD 0 (d.fwConds r [] [(!d.fwTargetOk || d.fwTargetBusy, 0xA106)]) (fun d =>
    let t := d.rd O.FW_STAGE_TARGET
    (some 0, ((d.flashErase (slotBase t) (slotSize t)).setSlot t 0).slotTouched t)) d

/-- WRITE. An offset that is no multiple of 1,000 is refused with 0xA101, one beyond the slot with 0xA106: R355 names no codes
(DESIGN CHOICE, log entry 55). -/
def fwWriteCore (r : Req) (d : Device) : Nat × Device :=
  runCmd r O.FW_CMD 0 (d.fwConds r [] [(d.rd O.FW_STAGE_OFFSET % 1000 != 0, 0xA101), (!d.fwTargetOk || d.fwTargetBusy ||
      decide (slotSize (d.rd O.FW_STAGE_TARGET) ≤ d.rd O.FW_STAGE_OFFSET), 0xA106)]) (fun d =>
    let t := d.rd O.FW_STAGE_TARGET
    let o := d.rd O.FW_STAGE_OFFSET
    let v := (leBytes 1000 (d.rd O.FW_STAGE_DATA)).take (slotSize t - o)
    (some 0, ((d.flashWrite (slotBase t + o) v).setSlot t 1).slotTouched t)) d

/-- VERIFY: the slot is VERIFIED or FAILED; a Sydin slot other than the running one becomes the staged one (R356). The
slot that runs stays RUNNING when it passes, and what is staged already stays staged. -/
def fwVerifySlot (d : Device) (t : Nat) : Nat × Device :=
  if d.imageOk t then
    if d.rd O.FW_SLOT_STATE t = 4 then (0, d)
    else
      let d := d.setSlot t 2
      (0, if 2 ≤ t ∨ d.fw.staged = some t then d else d.unstage.setFw { d.unstage.fw with staged := some t })
  else (0xA406, (d.setSlot t 3).slotTouched t)

def fwVerifyCore (r : Req) (d : Device) : Nat × Device :=
  runCmd r O.FW_CMD 0 (d.fwConds r [] [(!d.fwTargetOk, 0xA106)]) (fun d =>
    let x := d.fwVerifySlot (d.rd O.FW_STAGE_TARGET)
    (some x.1, x.2)) d

/-- The control block prefers image `x` of kind `c` (R349). -/
def preferSlot (d : Device) (t : Nat) : Device :=
  let block := (List.range 64).map (fun k => if k < 5 then BitVec.ofNat 8 (d.flashByte (0xF00000 + k)) else 0#8)
  (d.flashWrite 0xF00000 block).flashPut (0xF00000 + t / 2) (t % 2)

def fwPreferCore (r : Req) (d : Device) : Nat × Device :=
  runCmd r O.FW_CMD 0 (d.fwConds r [] [(!d.fwTargetOk || d.rd O.FW_SLOT_STATE (d.rd O.FW_STAGE_TARGET) != 2, 0xA106)])
    (fun d => (some 0, d.preferSlot (d.rd O.FW_STAGE_TARGET))) d

def fwDiscardCore (r : Req) (d : Device) : Nat × Device :=
  runCmd r O.FW_CMD 0 (d.fwConds r [] []) (fun d => (some 0, d.unstage)) d

/-- The thermometer up to `n` burned bits (R357). -/
def burnRollback (d : Device) (n : Nat) : Device := burnWords 2 520 (2 ^ min n 64 - 1) d

/-- A verified Sydin slot below the new count is FAILED (R364). -/
def failOld (d : Device) : Device :=
  [0, 1].foldl (fun d r => if d.rd O.FW_SLOT_STATE r = 2 ∧ d.rd O.FW_SLOT_VERSION r < d.rollback
    then (d.setSlot r 3).slotTouched r else d) d

def commitVersionCore (r : Req) (d : Device) : Nat × Device :=
  runCmd r O.FW_CMD 0 (d.fwConds r [] []) (fun d =>
    (some 0, d.runningSlot.elim d (fun t => if d.rollback < d.manNat t 8 4
      then (d.burnRollback (d.manNat t 8 4)).failOld else d))) d

/-! ### Attestation (R359 to R362) -/

/-- The top identifier I and the top seed (R359). -/
def attI (d : Device) : Nat := leNat (kdf (leBytes 32 d.dus) (asciiBytes "NYMLOS-SEED") (leBytes 1 2 ++ leBytes 16 d.serial) 16)
def attSeed (d : Device) : Nat := leNat (kdf (leBytes 32 d.dus) (asciiBytes "NYMLOS-SEED") (leBytes 1 1 ++ leBytes 16 d.serial) 32)

/-- Node `r` from its two sons (RFC 8554, D_INTR), and leaf node `r` from its key (D_LEAF). -/
def lmsNode (i r : Nat) (a b : Bytes) : Bytes := sha256 (leBytes 16 i ++ beBytes 4 r ++ beBytes 2 0x8383 ++ a ++ b)
def lmsLeaf (i r k : Nat) : Bytes := sha256 (leBytes 16 i ++ beBytes 4 r ++ beBytes 2 0x8282 ++ leBytes 32 k)

/-- Top node `r` at height `h` above the leaves. -/
def topNode (d : Device) : Nat → Nat → Bytes
  | 0, r => lmsLeaf d.attI r (Config.lmotsPublic d.attSeed d.attI (r - 32768))
  | h + 1, r => lmsNode d.attI r (topNode d h (2 * r)) (topNode d h (2 * r + 1))

/-- The height of node `r` in a tree of height 15. -/
def topHeight (r : Nat) : Nat := 15 - Nat.log2 r

/-- The flash offset of top node `r` (R360). -/
def nodeOffset (r : Nat) : Nat := 0xB00000 + 32 * (r - 1)

/-- The root over node `r` with value `v` and the sibling nodes of the node area; the fuel is the height. -/
def pathRoot (d : Device) : Nat → Nat → Bytes → Bytes
  | 0, _, v => v
  | h + 1, r, v =>
    let sib := d.flashBytes (nodeOffset (if r % 2 = 0 then r + 1 else r - 1)) 32
    pathRoot d h (r / 2) (if r % 2 = 0 then lmsNode d.attI (r / 2) v sib else lmsNode d.attI (r / 2) sib v)

/-- The path of leaf `e` recomputes the root in OTP. -/
def pathGood (d : Device) (e : Nat) : Bool := leNat (d.pathRoot 15 (32768 + e) (d.topNode 0 (32768 + e))) == d.topRoot

/-- ATT_TOP_PUBLIC (R359); zero while no root is burned. -/
def attPublic (d : Device) : Nat :=
  if d.topRoot = 0 then 0 else
  leNat (beBytes 4 2 ++ beBytes 4 9 ++ beBytes 4 3 ++ leBytes 16 d.attI ++ leBytes 32 d.topRoot)

/-- Burn epoch bit `e`. -/
def burnEpoch (d : Device) (e : Nat) : Device := d.burnWord (1024 + e / 32) (2 ^ (e % 32))

/-- Steps 1 to 3 of R361: the next epoch is taken and the build of its bottom tree begins. -/
def epochStep (d : Device) : Device :=
  let d := (d.wr O.ATT_LEAVES_LEFT 0 0).wr O.ATT_EPOCH 0 0xFFFF
  if d.topRoot = 0 then d.wr O.ATT_STATE 0 0 else
  match d.nextEpoch with
  | none => (d.wr O.ATT_STATE 0 2).wrBit O.BOOT_FLAGS 0 1 true
  | some e =>
    if ¬ d.pathGood e then d.wr O.ATT_STATE 0 3
    else ((d.burnEpoch e).wr O.ATT_STATE 0 4).wr O.ATT_EPOCH 0 e

/-- The 480 bytes of an evidence record before its signature (R362). -/
def evidence (d : Device) (row leaf : Nat) : Bytes :=
  asciiBytes "NYML" ++ leBytes 1 1 ++ leBytes 1 (d.rd O.LC_STATE) ++ leBytes 1 (d.rd O.BOOT_IMAGE) ++
  leBytes 1 (boolNat (d.rd O.FW_HOT_COUNT != 0) + 2 * boolNat (d.rd O.PHC_STATE == 1) + 4 * (d.rd O.BOOT_FLAGS % 2) +
    8 * d.rd O.FW_M_MISMATCH) ++
  leBytes 16 d.serial ++ leBytes 2 (d.rd O.ATT_EPOCH) ++ leBytes 2 leaf ++ leBytes 4 d.rollback ++
  leBytes 32 (d.rd O.ATT_NONCE row) ++ leBytes 12 d.phcTime ++ leBytes 4 0 ++ leBytes 32 (d.rd O.FW_M) ++
  (d.fw.measured.map (leBytes 32)).flatten ++
  ((List.range 4).map (fun s => leBytes 32 (if d.slices ≤ s then 0 else d.rd O.PARSER_ACTIVE_DIGEST s))).flatten ++
  leBytes 16 d.attI

/-- Write the parts of a record for session row `row`. -/
def putEvidence (d : Device) (row : Nat) (rcd : Bytes) : Device :=
  (List.range 6).foldl (fun d i => d.wr (O.ATT_EVIDENCE_PART_0 + i) row (leNat (slice (1000 * i) 1000 rcd))) d

/-- Sign for session row `row` with the next bottom leaf (R361, R362). The signature is a free value: its one-time keys
come from drawn seeds. -/
def signNow (d : Device) (row : Nat) : Device :=
  let body := d.evidence row d.att.leaf
  let x := d.unstated
  let d := x.2.putEvidence row (body ++ leBytes 5236 x.1)
  let d := d.setAtt { d.att with leaf := d.att.leaf + 1 }
  let d := d.wr O.ATT_LEAVES_LEFT 0 (1024 - d.att.leaf)
  d.endCmd O.ATT_CMD row 0

/-- Serve the SIGNs that waited, while leaves are left. -/
def signWaiting : List Nat → Device → Device
  | [], d => d
  | row :: r, d =>
    if d.rd O.ATT_LEAVES_LEFT = 0 then signWaiting r (d.setAtt { d.att with waiting := d.att.waiting ++ [row] })
    else signWaiting r (d.signNow row)

/-- A bottom tree is built (R361): seed and identifier drawn, 1,024 leaves, signing available, waiting SIGNs served. -/
def bottomTreeBuildDone (d : Device) : Device :=
  if d.rd O.ATT_STATE ≠ 4 then d else
  let d := (d.draw).2
  let w := d.att.waiting
  let d := d.setAtt ⟨0, []⟩
  let d := (d.wr O.ATT_STATE 0 1).wr O.ATT_LEAVES_LEFT 0 1024
  signWaiting w d

/-- A new epoch; without one, the SIGNs that wait end with 0xA303. -/
def newEpoch (d : Device) : Device :=
  let d := d.epochStep
  if d.rd O.ATT_STATE = 4 then d
  else (d.att.waiting.foldl (fun d row => d.endCmd O.ATT_CMD row 0xA303) d).setAtt ⟨d.att.leaf, []⟩

/-- The SIGN with bottom leaf 1,023 has completed: a new epoch (R361). -/
def epochRollover (d : Device) : Device :=
  if d.rd O.ATT_STATE = 1 ∧ d.rd O.ATT_LEAVES_LEFT = 0 then d.newEpoch else d

/-- SIGN (R362, R363): refused while no tree can sign; it waits in state running while one is being built. -/
def attSignCore (r : Req) (row : Nat) (d : Device) : Nat × Device :=
  runCmd r O.ATT_CMD row
    { Conds.none with s4 := [(d.rd O.ATT_STATE == 0 || d.rd O.ATT_STATE == 2 || d.rd O.ATT_STATE == 3, 0xA303)] }
    (fun d =>
      if d.rd O.ATT_STATE = 4 ∨ d.rd O.ATT_LEAVES_LEFT = 0 then
        (none, d.setAtt { d.att with waiting := d.att.waiting ++ [row] })
      else (none, d.signNow row)) d

/-- ATT_BUILD_TOP (R360). -/
def attBuildTopCore (r : Req) (d : Device) : Nat × Device :=
  runCmd r O.ATT_BUILD_TOP 0 { Conds.none with s4 := [(d.rd O.LC_STATE != 3 || d.topRoot != 0, 0xA303)] } (fun d =>
    let d := (List.range 65535).foldl (fun d k => d.flashWrite (nodeOffset (k + 1)) (d.topNode (topHeight (k + 1)) (k + 1))) d
    (some 0, burnWords 8 512 (leNat (d.topNode 15 1)) d)) d

/-! ### Hot activation (R358, R409) -/

/-- The chain with the digest of slot `t` in place of Sydin's (R358). -/
def hotChain (d : Device) (t : Nat) : Nat := chain (d.fw.measured.set 1 (d.imageDigest t))

/-- The staged manifest does not allow a hot activation. -/
def hotForbidden (d : Device) : Bool :=
  d.fw.staged.elim true (fun t => !(d.manNat t 7 1).testBit 0 || d.manNat t 48 32 != d.hotChain t)

def activateHotCore (r : Req) (d : Device) : Nat × Device :=
  runCmd r O.FW_CMD 0
    (d.fwConds r
      [((d.mode == .safe && d.rdB O.FLT_FATAL_SINCE_BOOT) || (List.range 4).any (fun s => d.rd O.SLICE_STATE s == 4) ||
        (List.range 4).any (fun c => d.rd O.MEM_CH_STATE c == 1), 0xA303)]
      [(d.hotForbidden, 0xA106)])
    (fun d => d.fw.staged.elim (some 0, d) (fun t =>
      (none, ((d.preferSlot t).closeSessions 1 52).setFw { d.fw with hot := some t }))) d

/-- The key of slot 3 moves to slot 2; keys derived from the former slot 2 are zeroized (R358). Keys derived from slot 3
now name slot 2 as their parent. -/
def moveSlot3 (d : Device) : Device :=
  let old := d.vaultRows.filter (fun k => decide (4 ≤ k) && d.rd O.VAULT_PARENT k == 2 && d.rd O.VAULT_ORIGIN k == 3)
  let d := old.foldl zeroSlot d
  let has := d.rd O.VAULT_STATE 3 == 1
  let key := d.keyBytes 3
  let d := (d.vaultRows.filter (fun k => decide (4 ≤ k) && d.rd O.VAULT_PARENT k == 3 && d.rd O.VAULT_ORIGIN k == 3)).foldl
    (fun d k => d.wr O.VAULT_PARENT k 2) d
  let d := (d.zeroSlot 2).zeroSlot 3
  if has then d.fillSlot 2 key 256 2 0x12 0 5 1 else d

/-- The hot activation ends (R358). The old image's slot is VERIFIED from then on. -/
def hotActivationDone (d : Device) : Device :=
  match d.fw.hot with
  | none => d
  | some t =>
    let d := d.runningSlot.elim d (fun o => d.setSlot o 2)
    let d := (d.setSlot t 4).wr O.BOOT_IMAGE 0 t
    let d := d.setFw { d.fw with staged := none, hot := none, measured := d.fw.measured.set 1 (d.imageDigest t) }
    let d := (d.wr O.FW_M 0 (chain d.fw.measured)).wr O.FW_M_MISMATCH 0 0
    let d := (d.moveSlot3.newEpoch).bottomTreeBuildDone
    (d.inc32 O.FW_HOT_COUNT).endCmd O.FW_CMD 0 0

end Device

def execFwErase (r : Req) (s : State) := s.on (fun d => d.direct r fun d => d.fwEraseCore r)
def execFwWrite (r : Req) (s : State) := s.on (fun d => d.direct r fun d => d.fwWriteCore r)
def execFwVerify (r : Req) (s : State) := s.on (fun d => d.direct r fun d => d.fwVerifyCore r)
def execFwPrefer (r : Req) (s : State) := s.on (fun d => d.direct r fun d => d.fwPreferCore r)
def execFwDiscard (r : Req) (s : State) := s.on (fun d => d.direct r fun d => d.fwDiscardCore r)
def execCommitVersion (r : Req) (s : State) := s.on (fun d => d.direct r fun d => d.commitVersionCore r)
def execActivateHot (r : Req) (s : State) := s.on (fun d => d.direct r fun d => d.activateHotCore r)
def execHotActivationDone (s : State) := s.on Device.hotActivationDone
def execAttBuildTop (r : Req) (s : State) := s.on (fun d => d.direct r fun d => d.attBuildTopCore r)
def execBottomTreeBuildDone (s : State) := s.on Device.bottomTreeBuildDone
def execAttSign (r : Req) (row : Nat) (s : State) := s.on (fun d => d.direct r fun d => d.attSignCore r row)
def execEpochRollover (s : State) := s.on Device.epochRollover

end Sys2Proof.Machine
end

