-- ==== Sys2Proof/Machine/LifeCycle.lean ====
section
/-!
DEFINITION. Life-cycle states (R335 to R348): progress marks and their resumption at BOOT, the roots and per-boot keys that
BOOT builds, the transitions of LC_CMD, and the debug SRAM window.
-/
namespace Sys2Proof.Machine

/-- The five transitions that leave marks (R340), in the order of their mark bytes: T1, T3, T4, T5, T6. -/
inductive Trans where
  | t1 | t3 | t4 | t5 | t6
deriving DecidableEq, Repr

/-- Mark byte, target state and number of steps of a transition (R339, R340). -/
def Trans.idx : Trans → Nat | .t1 => 0 | .t3 => 1 | .t4 => 2 | .t5 => 3 | .t6 => 4
def Trans.target : Trans → Nat | .t1 => 1 | .t3 => 3 | .t4 => 4 | .t5 => 5 | .t6 => 6
def Trans.steps : Trans → Nat | .t6 => 4 | _ => 3

def allTrans : List Trans := [.t1, .t3, .t4, .t5, .t6]

namespace Device

def setLc (d : Device) (x : LcX) : Device := { d with lc := x }

/-! ### The zeroize step and the rebuild (R297, R339) -/

/-- The life-cycle row of R297: every key of the device, the per-boot and memory keys and the DRBG state; every session
closes; the staged manifest goes with them (R364). -/
def lcZeroize (d : Device) : Device := (((d.unstage.zeroAll).zeroPerBoot).clearBanks (fun _ => true)).memZero

/-- Every classification entry is gone, and with it what counts entries. -/
def clsLost (d : Device) : Device :=
  let d := d.setCls { d.clsx with table := [], cache := [], counts := [], shown := [] }
  let gone := d.dict.filter (fun e => e.1 / 2 ^ 24 == O.LEARN_ENTRIES || e.1 / 2 ^ 24 == O.RXSC_ENTRY)
  gone.foldl (fun d e => d.wr (e.1 / 2 ^ 24) (e.1 % 2 ^ 24) 0) (d.wr O.CLS_ENTRIES 0 0)

/-- What external memory held is lost with its keys: it reads zeros (R321). Classification, statistics and lap history live
there (R22). -/
def memContentsLost (d : Device) : Device :=
  let d := d.clsLost
  let d := d.setLaps { d.laps with history := [] }
  d.saRows.foldl clearStats d

/-- The per-boot keys of R284. -/
def perBootKeys (d : Device) : Device :=
  let a := d.drawBytes 32
  let b := a.2.drawBytes 32
  b.2.setKeys { b.2.keys with checkKey := leBytes 32 a.1, storeKey := leBytes 32 b.1 }

/-- A field of OTP fails its check (R366). -/
def otpFieldFail (d : Device) (unit : Nat) : Device := d.faultUnit 0x206 0x04 unit 2

/-- The owner field verifies (R335). -/
def ownerFieldValid (d : Device) : Bool :=
  d.otpBits 3664 32 == checkWord 64 (d.ownerRoot + 2 ^ 256 * d.ownerHashField)

/-- Slots 0 and 1 (R284). -/
def fillRoots (d : Device) : Device :=
  let st := d.rd O.LC_STATE
  let d := if 3 ≤ st ∧ st ≤ 5 then
      (if d.dusValid false ∨ d.dusValid true then d.fillSlot 0 (leBytes 32 d.dus) 256 2 0x10 0 1 0 else d.otpFieldFail 0)
    else d
  if st = 4 then
    (if d.ownerFieldValid then d.fillSlot 1 (leBytes 32 d.ownerRoot) 256 2 0x11 0 1 0 else d.otpFieldFail 1)
  else d

/-- Slot 2, once M stands (R284). -/
def fillSealing (d : Device) : Device :=
  if d.rd O.VAULT_STATE 1 = 1 then
    d.fillSlot 2 (kdf (d.keyBytes 1) (asciiBytes "SEALING-ROOT") (leBytes 32 (d.rd O.FW_M)) 32) 256 2 0x12 0 2 1
  else d

/-- The Hub has rebuilt what BOOT builds after the vote (R339). -/
def lcRebuildDone (d : Device) : Device :=
  if ¬ d.lc.rebuilding then d else
  let d := (d.setLc { d.lc with rebuilding := false }).wr O.DRBG_STATE 0 1
  (((d.seeded.perBootKeys).memInit).memContentsLost).fillRoots.fillSealing

/-! ### Marks and steps (R339, R340) -/

/-- Mark `k` of a transition, and burning it. -/
def mark (d : Device) (t : Trans) (k : Nat) : Bool := (d.otpBits 192 40).testBit (8 * t.idx + k - 1)
def burnMark (d : Device) (t : Trans) (k : Nat) : Device := d.burnBits (192 + 8 * t.idx + k - 1) 1 1

/-- All three copies hold the target code, or a later one. -/
def transComplete (d : Device) (t : Trans) : Bool :=
  (List.range 3).all (fun k => d.lcCopy k &&& lcCode t.target == lcCode t.target)

/-- Burn the code of a state into copies A, B and C. -/
def burnCode (d : Device) (st : Nat) : Device :=
  [0, 1, 2].foldl (fun d k => d.burnBits (64 * k) 64 (lcCode st)) d

/-- Burn a DUS with its check word into field A or B. -/
def burnDus (d : Device) (b : Bool) (v : Nat) : Device :=
  d.burnBits (if b then 2864 else 2576) 288 (v + 2 ^ 256 * checkWord 32 v)

/-- Draw a DUS and burn it into field A, or into B when A is not zero (R339). -/
def drawDus (d : Device) : Device :=
  let x := d.drawBytes 32
  x.2.burnDus (!d.dusBlank false) x.1

/-- The values a command supplies (R341): serial and hashes of SEAL_TEST, the owner field of TAKE_OWNERSHIP. -/
def burnSealValues (d : Device) : Device :=
  let h := d.rd O.LC_ARG_HASHES
  ((d.burnBits 3696 128 (d.rd O.LC_ARG_SERIAL)).burnBits 256 2048 (h % 2 ^ 2048)).burnBits 2320 256 (h / 2 ^ 2048)

/-- The owner field that the arguments spell. -/
def ownerFieldArg (d : Device) : Nat :=
  let v := d.rd O.LC_ARG_OWNER_ROOT + 2 ^ 256 * d.rd O.LC_ARG_OWNER_KEY_HASH
  v + 2 ^ 512 * checkWord 64 v

def burnOwnerField (d : Device) : Device := d.burnBits 3152 544 d.ownerFieldArg

/-- Erase the owner field, and both DUS fields: every bit to 1 (R335). -/
def eraseOwner (d : Device) : Device := d.burnBits 3152 544 (2 ^ 544 - 1)
def eraseDus (d : Device) : Device := d.burnBits 2576 576 (2 ^ 576 - 1)

/-- Step `k` of a transition (R339). -/
def transStep (d : Device) (t : Trans) (k : Nat) : Device :=
  if k = 1 then d.lcZeroize
  else if k = t.steps then d.burnCode t.target
  else match t with
    | .t1 => d.burnSealValues
    | .t3 => d.drawDus
    | .t4 => d.burnOwnerField
    | .t5 => d.eraseOwner
    | .t6 => if k = 2 then (d.eraseDus).eraseOwner else d.burnBits 2304 8 255

/-- Steps `k` and the `n` after it, each after its mark (R340). -/
def runSteps (t : Trans) : Nat → Nat → Device → Device
  | 0, _, d => d
  | n + 1, k, d => runSteps t n (k + 1) ((d.burnMark t k).transStep t k)

/-- The state a device reports: TEST_UNLOCKED over TEST_LOCKED (R336). -/
def showState (d : Device) (st : Nat) : Device := d.wr O.LC_STATE 0 (if st = 1 ∧ d.lc.unlocked then 2 else st)

/-- A transition runs from step 1 and completes: the new state, and the rebuild begins. -/
def runTrans (d : Device) (t : Trans) : Device :=
  let d := runSteps t t.steps 1 d
  ((d.setLc ⟨false, true⟩).wr O.LC_PENDING 0 0xFF).wr O.LC_STATE 0 t.target

/-! ### Resumption at BOOT (R340, R341) -/

/-- The highest mark burned of a transition; 0 for none. -/
def highMark (d : Device) (t : Trans) : Nat :=
  ((List.range t.steps).filter (fun k => d.mark t (k + 1))).foldl (fun _ k => k + 1) 0

/-- T3 step 2 is resumed on the DUS fields (R340); false when both are marred. -/
def resumeDus (d : Device) : Bool × Device :=
  if d.dusBlank false then (true, (d.drawBytes 32).2.burnDus false (d.drawBytes 32).1)
  else if d.dusValid false then (true, d)
  else if d.dusBlank true then (true, (d.drawBytes 32).2.burnDus true (d.drawBytes 32).1)
  else (d.dusValid true, d)

/-- Step `k` must be supplied again by its command (R341). -/
def suppliedStep (t : Trans) (k : Nat) : Bool := (t == .t1 || t == .t4) && k == 2

/-- The ROM resumes one transition that has a mark and is not complete. -/
def resumeTrans (d : Device) (t : Trans) : Device :=
  let k := d.highMark t
  if k = 0 ∨ d.transComplete t then d
  else if suppliedStep t k then d.wr O.LC_PENDING 0 t.target
  else
    let d := (d.wrBit O.BOOT_FLAGS 0 0 true).wr O.BOOT_LC_RESUME_STEP 0 k
    if t = .t3 ∧ k = 2 then
      let x := d.resumeDus
      if x.1 then runSteps t 1 3 x.2 else runSteps .t6 4 1 x.2
    else if suppliedStep t (k + 1) then ((d.transStep t k).burnMark t (k + 1)).wr O.LC_PENDING 0 t.target
    else runSteps t (t.steps - k) (k + 1) (d.transStep t k)

/-- The vote (R337), with its NOTE or the SCRAP behaviour of R88. -/
def voteLc (d : Device) : Device :=
  match d.lcVote with
  | some st =>
    let d := d.wr O.LC_STATE 0 st
    if d.lcOutvoted then d.note 0x206 0x0B00 (leBytes 4 st) else d
  | none => (d.wr O.LC_STATE 0 6).wr O.BOOT_STATUS 0 3

/-- Interrupted transitions first, SCRAP before the rest, then the vote (R337, R348). -/
def bootLc (d : Device) : Device := ([.t6, .t1, .t3, .t4, .t5].foldl resumeTrans d).voteLc

/-! ### LC_CMD (R339 to R342) -/

/-- The marks of a command: its role, source state and what it awaits. -/
def lcConds (d : Device) (r : Req) (role from_ target : Nat) (s4 s6 s7 : List (Bool × Nat)) : Conds :=
  { Conds.none with
    s2 := [(d.roleOf r != role, 0xA003)]
    s4 := [((d.mode != .stage && d.mode != .safe) || d.rd O.LC_STATE != from_ ||
            (d.rd O.LC_PENDING != 0xFF && d.rd O.LC_PENDING != target), 0xA303)] ++ s4
    s6 := s6, s7 := s7 }

/-- When a command of the table ends, the token and the Owner Root arguments are overwritten (R339). -/
def lcArgsZero (d : Device) : Device := (d.wrCmd O.LC_ARG_TOKEN 0 0).wrCmd O.LC_ARG_OWNER_ROOT 0 0

/-- Pending values must set every bit already burned (R341). -/
def sealCovers (d : Device) : Bool :=
  let h := d.rd O.LC_ARG_HASHES
  let cov := fun (lo n v : Nat) => d.otpBits lo n &&& v == d.otpBits lo n
  cov 3696 128 (d.rd O.LC_ARG_SERIAL) && cov 256 2048 (h % 2 ^ 2048) && cov 2320 256 (h / 2 ^ 2048)

def ownerCovers (d : Device) : Bool := d.otpBits 3152 544 &&& d.ownerFieldArg == d.otpBits 3152 544

/-- The arguments are read before the zeroize step, which clears none of them. -/
def transBody (t : Trans) (d : Device) : Option Nat × Device := (some 0, (d.runTrans t).lcArgsZero)

def sealTestCore (r : Req) (d : Device) : Nat × Device :=
  runCmd r O.LC_CMD 0 (d.lcConds r 4 0 1 [] [(d.rd O.LC_PENDING == 1 && !d.sealCovers, 0xA106)] []) (transBody .t1) d

def personalizeCore (r : Req) (d : Device) : Nat × Device :=
  runCmd r O.LC_CMD 0 (d.lcConds r 4 2 3 [(!d.drbgReady, 0xA303)] [] []) (transBody .t3) d

def takeOwnershipCore (r : Req) (d : Device) : Nat × Device :=
  runCmd r O.LC_CMD 0 (d.lcConds r 1 3 4 [] [(d.rd O.LC_PENDING == 4 && !d.ownerCovers, 0xA106)]
    [(!(d.ownerSigned 0 (d.rd O.LC_ARG_OWNER_KEY_HASH) || d.ownerSigned 1 (d.rd O.LC_ARG_OWNER_KEY_HASH)), 0xA406)])
    (transBody .t4) d

def lcReturnCore (r : Req) (d : Device) : Nat × Device :=
  runCmd r O.LC_CMD 0 (d.lcConds r 1 4 5 [] [(d.rd O.LC_ARG_CONFIRM != d.serial, 0xA106)] []) (transBody .t5) d

/-- SCRAP: from any state, OWNER in OWNED and SERVICE otherwise; accepted while another transition is pending. -/
def scrapCore (r : Req) (d : Device) : Nat × Device :=
  runCmd r O.LC_CMD 0
    { Conds.none with
      s2 := [(d.roleOf r != (if d.rd O.LC_STATE = 4 then 1 else 4), 0xA003)]
      s4 := [(d.mode != .stage && d.mode != .safe, 0xA303)] } (transBody .t6) d

/-- The lowest unused token slot whose hash the token matches (R342, R348). -/
def tokenMatch (d : Device) : Option Nat :=
  let h := leNat (sha256 (leBytes 32 (d.rd O.LC_ARG_TOKEN)))
  (List.range 8).find? (fun n => d.tokenFree n && d.otpBits (256 + 256 * n) 256 == h)

/-- Consume token slot `n` and enter TEST_UNLOCKED (R342). -/
def unlockWith (d : Device) (n : Nat) : Device :=
  let d := (d.lcZeroize).burnBits (2304 + n) 1 1
  (d.setLc ⟨true, true⟩).wr O.LC_STATE 0 2

/-- UNLOCK: a token that matches nothing is refused with 0xA405 and noted. -/
def unlockCore (r : Req) (d : Device) : Nat × Device :=
  let x := runCmd r O.LC_CMD 0
    (d.lcConds r 4 1 2 [(d.tokensLeft == 0, 0xA303)] [] [(d.tokenMatch.isNone, 0xA405)])
    (fun d => (some 0, (d.tokenMatch.elim d d.unlockWith).lcArgsZero)) d
  if x.1 = 0xA405 then (x.1, x.2.note 0x205 0x0C00 (leBytes 4 0)) else x

/-- RMA_UNLOCK (R342). -/
def rmaUnlockCore (r : Req) (d : Device) : Nat × Device :=
  runCmd r O.LC_CMD 0
    (d.lcConds r 4 5 7 [] [] [(leNat (sha256 (leBytes 32 (d.rd O.LC_ARG_TOKEN))) != d.otpBits 2320 256, 0xA405)])
    (fun d => (some 0, (d.wr O.LC_RMA_UNLOCKED 0 1).lcArgsZero)) d

/-! ### The debug SRAM window (R338, R346) -/

/-- Partition `p` may be read in the present state (R338, R346). -/
def sramReadable (d : Device) (p : Nat) : Bool :=
  let st := d.rd O.LC_STATE
  if p = 1 ∨ p = 6 then false
  else if p = 2 then st == 0 || st == 2 || st == 5
  else st != 1 && st != 6

/-- Bytes of partition `p` (R19). -/
def sramBytes (d : Device) (p : Nat) : Nat := 1024 * d.rd (O.PART_SA_CONTEXT_KIB + (p - 1))

/-- DBG_SRAM_CMD READ (R346). What an SRAM word holds is laid out by no rule: the data is a free value, zeros when a word
is uncorrectable, and the command then ends with 0xA404. -/
def dbgSramReadCore (r : Req) (row : Nat) (uncorr : Bool) (d : Device) : Nat × Device :=
  let p := d.rd O.DBG_SRAM_PART row
  let o := d.rd O.DBG_SRAM_OFFSET row
  let st := d.rd O.LC_STATE
  runCmd r O.DBG_SRAM_CMD row
    { Conds.none with
      s2 := [(p != 0 && !d.sramReadable p, 0xA401),
             ((st == 3 || st == 4) && !(d.rd O.DBG_CERT_SCOPE row).testBit 30, 0xA003)]
      s6 := [(p == 0 || o % 64 != 0 || decide (d.sramBytes p < o + 64), 0xA101)] }
    (fun d => if uncorr then (some 0xA404, d.wr O.DBG_SRAM_DATA row 0)
      else (some 0, (d.unstated.2).wr O.DBG_SRAM_DATA row ((d.unstated.1) % 2 ^ 512))) d

end Device

def execSealTest (r : Req) (s : State) := s.on (fun d => d.direct r fun d => d.sealTestCore r)
def execLcUnlock (r : Req) (s : State) := s.on (fun d => d.direct r fun d => d.unlockCore r)
def execPersonalize (r : Req) (s : State) := s.on (fun d => d.direct r fun d => d.personalizeCore r)
def execTakeOwnership (r : Req) (s : State) := s.on (fun d => d.direct r fun d => d.takeOwnershipCore r)
def execLcReturn (r : Req) (s : State) := s.on (fun d => d.direct r fun d => d.lcReturnCore r)
def execScrap (r : Req) (s : State) := s.on (fun d => d.direct r fun d => d.scrapCore r)
def execRmaUnlock (r : Req) (s : State) := s.on (fun d => d.direct r fun d => d.rmaUnlockCore r)
def execLcRebuildDone (s : State) := s.on Device.lcRebuildDone
def execDbgSramRead (r : Req) (row : Nat) (uncorrectable : Bool) (s : State) :=
  s.on (fun d => d.direct r fun d => d.dbgSramReadCore r row uncorrectable)

end Sys2Proof.Machine
end

