-- ==== Sys2Proof/Machine/Ports.lean ====
section
/-!
DEFINITION. Lanes and Ethernet ports (R93 to R109): receive adaptation, link state and fault signalling, received MAC
control frames, the refresh of XOFF, and recalibration windows.
-/
namespace Sys2Proof.Machine

/-- The fault source of a lane or port row: host side + 0x07, line side + 0x08 of its slice (R366). -/
def portSrc (p : Nat) : Nat := sliceSrc (sliceOfPort p) (if isLine p then 8 else 7)

/-- PORT_LINK of a received state (R106). -/
def linkCode (rx : RxState) : Nat :=
  match rx with | .noSignal => 1 | .noAlign => 2 | .localFault => 3 | .remoteFault => 4 | .up => 5

/-- The received state has alignment. -/
def rxAligned (rx : RxState) : Bool := match rx with | .noSignal | .noAlign => false | _ => true

/-- The lanes of a port (R97). -/
def portLanes (mode p : Nat) : List Nat := (List.range (modeLanes mode)).map (· + p)

/-- The quads of a port: four lanes of one side each (R93). -/
def portQuads (mode p : Nat) : List Nat := ((portLanes mode p).map (· / 4)).eraseDups

/-- Slice cycles that `quanta` pause quanta of 512 bit times last at `speed` Gb/s (R104). -/
def quantaCycles (quanta speed : Nat) : Nat := if speed = 0 then 0 else ceilDiv (quanta * 640) speed

namespace Device

/-! ### Link state and signalling (R105) -/

/-- The frame has left its queue for the egress MAC. -/
def onItsWay (f : Frame) : Bool := f.stage == .started || f.stage == .sending || f.stage == .tail

/-- End the frames that port `p` is sending or has started: none of them starts on the lane any more (R86, R105). -/
def cutPort (d : Device) (p : Nat) : Device :=
  (d.pipe.frames.filter (fun f => f.egress == p && (onLane f || onItsWay f))).foldl stopFrame d

/-- The ports of slice `s` whose transmission a change has stopped end their frames; those that carry frames again release
the partner's hold of a past DRAIN with XON (R83, R105). `sent` says which ports sent frames before. -/
def resignal (sent : Nat → Bool) (d : Device) (p : Nat) : Device :=
  if sent p && !d.portSends p then (if d.portSignal p ≤ 1 then d.muteWindow p else d).cutPort p
  else if d.portSends p ∧ d.mode ≠ .drain ∧ (d.portOf p).holds ≠ []
  then d.setHolds p 3 false (List.range 8)
  else d

/-- Apply a change and let every port follow R105. -/
def withSignals (f : Device → Device) (d : Device) : Device :=
  let sent := fun p => d.portSends p
  let d' := f d
  d'.allPorts.foldl (resignal sent) d'

/-- PORT_LINK takes a value; a change is counted and noted (R105, R106). -/
def setLink (d : Device) (p code : Nat) : Device :=
  if d.rd O.PORT_LINK p = code then d else
  ((d.wr O.PORT_LINK p code).inc64 O.PORT_LINK_CHANGES p).noteRow (portSrc p) 0x0B p p

/-- The recalibration window of port `p` runs. -/
def recalRuns (d : Device) (p : Nat) : Bool := d.rd O.PORT_RECAL_STATE p == 2

/-- What port `p` receives changes. During a window PORT_LINK stays RECAL (R105, R108). -/
def receive (d : Device) (p : Nat) (rx : RxState) : Device :=
  let was := (d.portOf p).rx
  let d := d.setPort p { d.portOf p with rx := rx }
  if d.recalRuns p then d else
  let d := if rxAligned was ∧ ¬ rxAligned rx then d.inc64 O.PORT_PCS_ALIGN_LOSS p else d
  d.setLink p (linkCode rx)

/-- What the receivers of port `p` report; a port with a failed lane receives nothing (R88). -/
def portLinkChange (p : Nat) (rx : RxState) (d : Device) : Device :=
  if ¬ d.laneOk p ∨ ¬ d.portEnabled p ∨ d.mode = .reset ∨ d.mode = .boot then d
  else withSignals (fun d => d.receive p (if d.portFailed p then .noSignal else rx)) d

/-! ### Receive adaptation (R96) -/

def setAcq (d : Device) (l n : Nat) : Device := { d with acqAt := natPut d.acqAt l n }

/-- Lane `l` begins or waits to acquire. -/
def acquire (d : Device) (l : Nat) : Device :=
  if d.rd O.LANE_ADAPT l = 4 then d else (d.wr O.LANE_ADAPT l 1).setAcq l d.cyc

/-- The lane belongs to an enabled port of a device that has booted. -/
def laneInUse (d : Device) (l : Nat) : Bool := d.laneOk l && (d.laneOwner l).isSome && d.mode != .reset && d.mode != .boot

/-- The receiver of lane `l` has power: a signal can be detected whether or not a port uses the lane (R94). -/
def laneSees (d : Device) (l : Nat) : Bool :=
  d.laneOk l && d.mode != .reset && d.mode != .boot && d.rd O.SLICE_STATE (sliceOfPort l) != 3

/-- The signal of lane `l` has come or gone: a lane of an enabled port acquires or waits, unless it is frozen (R96, R108). -/
def laneFollow (d : Device) (l : Nat) : Device :=
  if ¬ d.laneInUse l ∨ d.rd O.LANE_ADAPT l = 3 then d else d.acquire l

def laneSignalDetect (l : Nat) (d : Device) : Device :=
  if ¬ d.laneSees l ∨ d.rdB O.LANE_SIGNAL l then d else (d.wr O.LANE_SIGNAL l 1).laneFollow l

/-- Acquisition ends: the lane tracks; its SNR is a measurement. -/
def laneAcquisitionDone (l : Nat) (d : Device) : Device :=
  if ¬ d.laneInUse l ∨ ¬ d.rdB O.LANE_SIGNAL l ∨ d.rd O.LANE_ADAPT l ≠ 1 then d else
  let x := d.unstated
  (x.2.wr O.LANE_ADAPT l 2).wr O.LANE_SNR_CDB l (x.1 % 65536)

/-- 20 ms have passed without an end: acquisition starts again. -/
def laneAcquisitionTimeout (l : Nat) (d : Device) : Device :=
  if ¬ d.laneInUse l ∨ ¬ d.rdB O.LANE_SIGNAL l ∨ d.rd O.LANE_ADAPT l ≠ 1 then d else
  let d := d.passTo (natAt d.acqAt l + msCycles 20)
  d.setAcq l d.cyc

def laneSignalLoss (l : Nat) (d : Device) : Device :=
  if ¬ d.laneSees l ∨ ¬ d.rdB O.LANE_SIGNAL l then d else (d.wr O.LANE_SIGNAL l 0).laneFollow l

/-! ### FEC limit (R99) -/

def setFec (d : Device) (p sec n : Nat) (raised : Bool) : Device :=
  d.setPort p { d.portOf p with fecSecond := sec, fecCount := n, fecRaised := raised }

/-- `codewords` uncorrected codewords of port `p` come in within the present PHC second. -/
def fecUncorrLimit (p codewords : Nat) (d : Device) : Device :=
  if ¬ d.laneOk p ∨ ¬ d.portEnabled p ∨ d.mode = .reset ∨ d.mode = .boot then d else
  let x := d.portOf p
  let same := x.fecSecond == d.phcSecond
  let n := (if same then x.fecCount else 0) + codewords
  let above := d.rd O.PORT_FEC_UNCORR_LIMIT p != 0 && decide (d.rd O.PORT_FEC_UNCORR_LIMIT p < n)
  let was := same && x.fecRaised
  let d := (d.add64 O.PORT_FEC_UNCORRECTED_CW p codewords).setFec p d.phcSecond n (above || was)
  if above && !was then d.faultUnit (portSrc p) 0x08 p 2 else d

/-! ### Pause and PFC (R103, R104) -/

/-- Class `c` of port `p` may start no frame before cycle `until` (R103). -/
def pauseClass (until_ : Nat) (p : Nat) (d : Device) (c : Nat) : Device :=
  (d.setPort p { d.portOf p with pausedTo := natPut (d.portOf p).pausedTo c until_ }).wr O.NODE_PAUSED (8 * p + c)
    (boolNat (decide (d.cyc < until_)))

/-- A class takes the quanta of a received frame; XOFF is counted, pause frames in C0. -/
def takePause (d : Device) (p c count quanta : Nat) : Device :=
  let d := if quanta ≠ 0 ∧ count ≠ 8 then d.inc64 (O.PORT_FC_RX_XOFF_C0 + count % 8) p else d
  d.pauseClass (if quanta = 0 then 0 else d.cyc + quantaCycles quanta (d.portSpeed p)) p c

/-- Field of a received MAC control frame, in network order. -/
def macField (data : Bytes) (o : Nat) : Nat := beNat (slice o 2 data)

/-- A received MAC control frame (R103). Frozen receivers see none (R108). -/
def macControlRx (p : Nat) (data : Bytes) (d : Device) : Device :=
  if ¬ d.laneOk p ∨ ¬ d.portEnabled p ∨ d.mode = .reset ∨ d.mode = .boot ∨ (d.portOf p).frozen ∨ macField data 12 ≠ 0x8808 then d
  else if macField data 14 = 0x0101 ∧ d.rd O.PORT_FC p = 2 then
    (List.range 8).foldl (fun d c =>
      if (macField data 16).testBit c then d.takePause p c c (macField data (18 + 2 * c)) else d) d
  else if macField data 14 = 0x0001 ∧ d.rd O.PORT_FC p = 1 then
    (List.range 8).foldl (fun d c => d.takePause p c (if c = 0 then 0 else 8) (macField data 16)) d
  else d.inc64 O.PORT_RX_MAC_CONTROL_DROPS p

/-- The quanta of class `c` run out. -/
def pauseExpiry (p c : Nat) (d : Device) : Device :=
  if natAt (d.portOf p).pausedTo c = 0 then d else
  (d.passTo (natAt (d.portOf p).pausedTo c)).pauseClass 0 p c

/-- Classes of port `p` that a cause still holds; that of a past DRAIN is not refreshed (R83). -/
def heldClasses (d : Device) (p : Nat) : List Nat :=
  (List.range 8).filter (fun c =>
    let h := natAt (d.portOf p).holds c
    if d.mode = .drain then h != 0 else setBit h 3 false != 0)

/-- The cycle at which the XOFF of a held class goes out again: half of 0xFFFF quanta after the last one. -/
def xoffDue (d : Device) (p c : Nat) : Nat := natAt (d.portOf p).xoffAt c + quantaCycles 0xFFFF (d.portSpeed p) / 2

/-- Half the quanta sent have elapsed: XOFF goes out again for the classes still held (R104). -/
def xoffRefresh (p : Nat) (d : Device) : Device :=
  match d.heldClasses p with
  | [] => d
  | c :: cs =>
    let d := (d.passTo (cs.foldl (fun t k => min t (d.xoffDue p k)) (d.xoffDue p c))).stageHolds
      (2 * sliceOfPort p + boolNat (isLine p))
    d.sendFlow p ((c :: cs).filter (fun k => (d.heldClasses p).contains k && decide (d.xoffDue p k ≤ d.cyc))) 0xFFFF

/-! ### Recalibration windows (R107 to R109) -/

/-- Cycles a window claims its engines from its start. -/
def recalSpan (d : Device) (p : Nat) : Nat := nsCycles (d.rd O.PORT_RECAL_GUARD_NS p) + msCycles 20

/-- The cycle at which port `q`'s window starts: of its entry, or of the window that runs. -/
def recalStart (d : Device) (q : Nat) : Nat :=
  if d.recalRuns q then (d.portOf q).windowAt
  else (d.gunFind 6 q).elim d.cyc (fun e => d.reach (ticksOf (d.rd O.GUN_TIME e)))

/-- Another window claims an engine of port `p`'s quads at the same time. -/
def recalOverlap (d : Device) (p : Nat) : Bool :=
  let a := d.reach (ticksOf (d.rd O.PORT_RECAL_GUN_TIME p))
  d.allPorts.any (fun q => q != p && (d.rd O.PORT_RECAL_STATE q == 1 || d.rd O.PORT_RECAL_STATE q == 2) &&
    (portQuads (d.rd O.PORT_MODE q) q).any (fun k => (portQuads (d.rd O.PORT_MODE p) p).contains k) &&
    decide (d.recalStart q < a + d.recalSpan p) && decide (a < d.recalStart q + d.recalSpan q))

def recalBusy (d : Device) (p : Nat) : Bool := d.rd O.PORT_RECAL_STATE p == 1 || d.rd O.PORT_RECAL_STATE p == 2

/-- ARM (R107). -/
def portRecalArmCore (r : Req) (p : Nat) (d : Device) : Nat × Device :=
  runCmd r O.PORT_RECAL_CMD p
    { Conds.none with
      s4 := [(d.gunPast (d.rd O.PORT_RECAL_GUN_TIME p) && !d.rdB O.PORT_RECAL_LATE_OK p, 0xA306)]
      s6 := [(!d.portEnabled p, 0xA106)]
      s7 := [(d.recalBusy p || d.recalOverlap p, 0xA201), ((d.gunPool 6).isNone, 0xA205)] }
    (fun d => (some 0, (d.gunPool 6).elim d (fun e =>
      ((d.wr O.PORT_RECAL_STATE p 1).wr O.PORT_RECAL_FLAGS p 0).gunTake e 6 p (d.rd O.PORT_RECAL_GUN_TIME p) 0
        (d.rdB O.PORT_RECAL_LATE_OK p)))) d

/-- The entry of an armed window, not yet issued. -/
def recalArmed (d : Device) (p : Nat) : Option Nat := (d.gunFind 6 p).filter (fun e => d.rd O.GUN_STATE e == 1)

/-- CANCEL frees an armed window; a running, an issued or no window is refused with 0xA303 (R107, R136). -/
def portRecalCancelCore (r : Req) (p : Nat) (d : Device) : Nat × Device :=
  runCmd r O.PORT_RECAL_CMD p { Conds.none with s4 := [((d.recalArmed p).isNone, 0xA303)] }
    (fun d => (some 0, (d.recalArmed p).elim d (fun e => (d.gunCancel e).wr O.PORT_RECAL_STATE p 5))) d

/-- The classes a window holds toward the partner: all of a PFC port, the pause of a pause port. -/
def recalClasses (d : Device) (p : Nat) : List Nat :=
  if d.rd O.PORT_FC p = 2 then List.range 8 else if d.rd O.PORT_FC p = 1 then [0] else []

def setWindow (d : Device) (p at_ : Nat) (frozen : Bool) : Device :=
  d.setPort p { d.portOf p with windowAt := at_, frozen := frozen }

/-- The mode and the slice let port `p` send pause frames: row 1 or 2 of R105 does not apply (R109). -/
def recalPauses (d : Device) (p : Nat) : Bool := decide (2 ≤ d.portSignal p)

/-- The gun time of port `p`'s window (R108): it opens. In STAGE or SAFE, or with the slice OUT or FAILED, it runs without
pause or XON (R109). -/
def recalOpen (d : Device) (p : Nat) : Device :=
  withSignals (fun d =>
    let d := (((d.wr O.PORT_RECAL_STATE p 2).setWindow p d.cyc false).setLink p 6)
    if d.recalPauses p then d.setHolds p 4 true (d.recalClasses p) else d) d

/-- The gun time comes with the slice GATED or RETURNING (R109): cancelled with a NOTE. -/
def recalCancelled (d : Device) (p : Nat) : Device :=
  (d.wr O.PORT_RECAL_STATE p 5).noteRow (portSrc p) 0x0B p p

/-- Lane `l` enters an adaptation state; a failed lane stays failed (R96). -/
def adaptTo (d : Device) (st l : Nat) : Device := if d.rd O.LANE_ADAPT l = 4 then d else d.wr O.LANE_ADAPT l st

/-- The receivers freeze; the frame being received is lost (R108). -/
def receiverFreeze (p : Nat) (cut : Option Nat) (d : Device) : Device :=
  if ¬ d.recalRuns p ∨ (d.portOf p).frozen then d else
  let d := d.passTo ((d.portOf p).windowAt + nsCycles (d.rd O.PORT_RECAL_GUARD_NS p))
  let d := d.setWindow p (d.portOf p).windowAt true
  let d := (portLanes (d.rd O.PORT_MODE p) p).foldl (fun d l => (d.adaptTo 3 l).setAcq l d.cyc) d
  cut.elim d (fun id => (d.inc64 O.PORT_RX_RECAL_DROPS p) |> fun d => (d.frame? id).elim d d.cutReception)

/-- The window ends: its hold is released, with XON, and the port follows R105 again. -/
def recalEnd (d : Device) (p state : Nat) (rx : RxState) (adapt : Nat) : Device :=
  withSignals (fun d =>
    let d := (d.wr O.PORT_RECAL_STATE p state).setPort p { d.portOf p with rx := rx, frozen := false }
    let d := (portLanes (d.rd O.PORT_MODE p) p).foldl (fun d l => d.adaptTo adapt l) d
    (d.setLink p (linkCode rx)).setHolds p 4 false (d.recalClasses p)) d

def recalAlignmentRegained (p : Nat) (rx : RxState) (d : Device) : Device :=
  if ¬ d.recalRuns p ∨ ¬ (d.portOf p).frozen ∨ ¬ rxAligned rx ∨ d.portFailed p then d else d.recalEnd p 3 rx 2

/-- What a port without alignment receives: no signal when a lane of it has none. -/
def unaligned (d : Device) (p : Nat) : RxState :=
  if (portLanes (d.rd O.PORT_MODE p) p).all (fun l => d.rdB O.LANE_SIGNAL l) then .noAlign else .noSignal

/-- Alignment has not come back by guard + 20 ms (R108). -/
def recalTimeout (p : Nat) (d : Device) : Device :=
  if ¬ d.recalRuns p then d else
  let d := d.passTo ((d.portOf p).windowAt + d.recalSpan p)
  (d.recalEnd p 4 (d.unaligned p) 1).faultUnit (portSrc p) 0x06 p 2

end Device

def execLaneSignalDetect (l : Nat) (s : State) := s.on (Device.laneSignalDetect l)
def execLaneAcquisitionDone (l : Nat) (s : State) := s.on (Device.laneAcquisitionDone l)
def execLaneAcquisitionTimeout (l : Nat) (s : State) := s.on (Device.laneAcquisitionTimeout l)
def execLaneSignalLoss (l : Nat) (s : State) := s.on (Device.laneSignalLoss l)
def execPortLinkChange (p : Nat) (rx : RxState) (s : State) := s.on (Device.portLinkChange p rx)
def execFecUncorrLimit (p codewords : Nat) (s : State) := s.on (Device.fecUncorrLimit p codewords)
def execMacControlRx (p : Nat) (data : Bytes) (s : State) := s.on (Device.macControlRx p data)
def execPauseExpiry (p c : Nat) (s : State) := s.on (Device.pauseExpiry p c)
def execXoffRefresh (p : Nat) (s : State) := s.on (Device.xoffRefresh p)
def execPortRecalArm (r : Req) (p : Nat) (s : State) := s.on (fun d => d.direct r fun d => d.portRecalArmCore r p)
def execPortRecalCancel (r : Req) (p : Nat) (s : State) := s.on (fun d => d.direct r fun d => d.portRecalCancelCore r p)
def execReceiverFreeze (p : Nat) (cut : Option Nat) (s : State) := s.on (Device.receiverFreeze p cut)
def execRecalAlignmentRegained (p : Nat) (rx : RxState) (s : State) := s.on (Device.recalAlignmentRegained p rx)
def execRecalTimeout (p : Nat) (s : State) := s.on (Device.recalTimeout p)

end Sys2Proof.Machine
end

