-- ==== Sys2Proof/Machine/Monitors.lean ====
section
/-!
DEFINITION. Environment and tamper monitors (R382 to R390): the tamper log, events and re-arming of the sixteen channels.
-/
namespace Sys2Proof.Machine

/-- A channel that feeds the fault collector (R382). -/
def envChannel (ch : Nat) : Bool := decide (ch < 10) || ch == 11

namespace Device

def setMon (d : Device) (x : MonX) : Device := { d with mon := x }

/-! ### The tamper log (R387, R388) -/

/-- Set flag bit 1 in the entry with sequence number `seq`, and in TAMPER_FIRST when that is the entry kept. -/
def tamperShared (d : Device) (seq : Nat) : Device :=
  let d := d.wr O.TAMPER_LOG_ENTRY (seq % 256) (setBit (d.rd O.TAMPER_LOG_ENTRY (seq % 256)) (18 * 8 + 1) true)
  if bits (d.rd O.TAMPER_FIRST) 0 32 = seq then
    d.wr O.TAMPER_FIRST 0 (setBit (d.rd O.TAMPER_FIRST) (18 * 8 + 1) true) else d

/-- The number of the last entry, when it has the stamp of now. -/
def tamperTwin (d : Device) : Option Nat :=
  match d.mon.lastEdge with
  | some e => if e.1 = d.phc then some e.2 else none
  | none => none

/-- The 32 bytes of an entry; `tail` are its last eight. -/
def tamperBytes (d : Device) (ch kind flags count : Nat) (tail : Bytes) : Bytes :=
  leBytes 4 d.mon.seq ++ leBytes 12 d.phcTime ++ leBytes 1 ch ++ leBytes 1 kind ++
  leBytes 1 (flags + (if d.tamperTwin.isSome then 2 else 0) + (if d.rd O.PHC_STATE = 0 then 4 else 0)) ++ leBytes 1 0 ++
  leBytes 2 (min count 65535) ++ leBytes 2 0 ++ tail

/-- Put an entry into the log. -/
def tamperStore (d : Device) (ch kind : Nat) (e : Bytes) : Device :=
  let seq := d.mon.seq
  let d := d.tamperTwin.elim d d.tamperShared
  let d := d.setMon { d.mon with seq := (seq + 1) % 2 ^ 32, lastEdge := some (d.phc, seq) }
  let d := if 256 < seq then d.inc32 O.TAMPER_LOG_OVERWRITTEN else d
  let d := (d.wr O.TAMPER_LOG_ENTRY (seq % 256) (leNat e)).wr O.TAMPER_LOG_LAST_SEQ 0 seq
  if ch < 16 ∧ ¬ envChannel ch ∧ (kind = 0 ∨ kind = 4) ∧ d.rd O.TAMPER_FIRST = 0 then d.wr O.TAMPER_FIRST 0 (leNat e) else d

/-- Write an entry, and send it as a ring EVENT. -/
def tamperEntry (d : Device) (ch kind flags count : Nat) (tail : Bytes) : Device :=
  let e := d.tamperBytes ch kind flags count tail
  let stamp := d.phcTime
  (d.tamperStore ch kind e).ringEvent 4 (leBytes 2 (0x400 + ch) ++ leBytes 2 kind ++ leBytes 12 stamp ++ e)

/-- The last eight bytes of an entry that carries a measurement. -/
def monTail (value : Int) (region region2 : Nat) : Bytes :=
  leBytes 4 (toTwos 32 value) ++ leBytes 1 region ++ leBytes 1 region2 ++ leBytes 2 0

/-- The entry of BOOT: kind 2, time 0 (R388). -/
def tamperBoot (d : Device) : Device :=
  d.tamperEntry 0xFF 2 0 0 (monTail (d.rd O.BOOT_RESET_CAUSE) 0xFF 0xFF)

/-- The entry of the first set or step; `before` is the PHC value just before it, in 2⁻¹⁶ ns (R388). -/
def tamperTimeSet (d : Device) (before : Nat) : Device := d.tamperEntry 0xFF 3 0 0 (leBytes 8 (before / 65536))

/-! ### Events (R382 to R386) -/

/-- The measurement lies beyond the limits of its channel (R384): the gradient channel has one limit per quantity, told
apart by bit 7 of the region; a tamper event carries no measurement. -/
def monBeyond (d : Device) (ch : Nat) (value : Int) (region : Nat) : Bool :=
  if ch < 10 then decide (value < d.rdI 32 O.MON_LIMIT_LO ch) || decide (d.rdI 32 O.MON_LIMIT_HI ch < value)
  else if ch = 11 then decide ((if region.testBit 7 then (400 : Int) else 30) < value)
  else true

/-- Slice `s` is GATED, RETURNING or fused off. -/
def sliceOut (d : Device) (s : Nat) : Bool :=
  decide (s < 4) && (decide (d.slices ≤ s) || d.rd O.SLICE_STATE s == 3 || d.rd O.SLICE_STATE s == 4)

/-- A clock or temperature sensor that is left out takes part in the measurement (R383). The rails are monitored all the same. -/
def monMasked (d : Device) (ch region region2 : Nat) : Bool :=
  (ch == 6 || ch == 9 || (ch == 11 && region.testBit 7)) && (d.sliceOut (region % 128) || d.sliceOut region2)

/-- Channel `ch` has a sample beyond its limit now. -/
def sawBeyond (d : Device) (ch region region2 : Nat) : Device :=
  d.setMon { d.mon with beyond := (ch, region, region2, d.cyc) :: d.mon.beyond.filter (fun e => e.1 != ch) }

/-- The condition of channel `ch` has lasted within limits for 1 ms; a channel whose slice is masked re-arms at once (R389). -/
def monSettled (d : Device) (ch : Nat) : Device :=
  match d.mon.beyond.find? (fun e => e.1 == ch) with
  | none => d
  | some e => if d.monMasked ch e.2.1 e.2.2.1 then d else d.passTo (e.2.2.2 + msCycles 1)

/-- Events of a tamper channel within its heat window (R385). -/
def heatCount (d : Device) (ch : Nat) : Nat :=
  (d.mon.events.filter (fun e => e.1 == ch && decide (d.cyc < e.2 + msCycles (d.rd O.MON_HEAT_W_MS ch)))).length

/-- The collector reads state `v` at source `src` unless its pair is broken (R367, R386). -/
def setSrcState (d : Device) (src v : Nat) : Device := if d.srcUnseen src then d else d.wr O.FLT_SRC_STATE src v

/-- An event of an environment channel: entry and DEGRADED fault; the heat is the source's count rule. -/
def envEvent (d : Device) (ch : Nat) (value : Int) (region region2 : Nat) : Device :=
  let src := 0x400 + ch
  let n := d.windowCount src + 1
  let hot := decide (d.rd O.MON_HEAT_N ch ≤ n)
  let d := d.tamperEntry ch 0 (boolNat hot + 8 * boolNat (!d.srcUnseen src)) n (monTail value region region2)
  (d.setSrcState src 1).fault src (0x0900 + (if region = 0xFF then 0 else region % 128)) 2 (leBytes 4 ch)

/-- An event of a tamper channel: recorded only. Within the first millisecond of sampling it is found active at boot. -/
def tamperEvent (d : Device) (ch : Nat) : Device :=
  let n := d.heatCount ch + 1
  let hot := decide (d.rd O.MON_HEAT_N ch ≤ n)
  let d := d.setMon { d.mon with events := (ch, d.cyc) :: d.mon.events }
  let d := d.tamperEntry ch (if d.cyc ≤ msCycles 1 then 4 else 0) (boolNat hot) n (monTail 0 0xFF 0xFF)
  if hot then d.wr O.MON_HOT ch 1 else d

/-- A qualified measurement of channel `ch`. One within limits is only a new value; a channel beyond its limit or
disabled has no further event. -/
def monitorEvent (ch : Nat) (value : Int) (region region2 : Nat) (d : Device) : Device :=
  if ¬ d.clockOn ∨ 16 ≤ ch ∨ d.rd O.MON_STATE ch = 2 ∨ d.monMasked ch region region2 then d else
  let d := if envChannel ch then d.wr O.MON_VALUE ch (toTwos 32 value) else d
  if ¬ d.monBeyond ch value region then d else
  let d := d.sawBeyond ch region region2
  if d.rd O.MON_STATE ch = 1 then d else
  let d := (d.wr O.MON_STATE ch 1).inc64 O.MON_EVENTS ch
  if envChannel ch then d.envEvent ch value region region2 else d.tamperEvent ch

/-- The condition has stayed within limits for 1 ms, or its slice is masked: the channel re-arms. -/
def monitorRearm (ch : Nat) (value : Int) (d : Device) : Device :=
  if ¬ d.clockOn ∨ 16 ≤ ch ∨ d.rd O.MON_STATE ch ≠ 1 ∨ (ch < 10 ∧ d.monBeyond ch value 0) then d else
  let d := (d.monSettled ch).wr O.MON_STATE ch 0
  if envChannel ch then
    let d := (d.wr O.MON_VALUE ch (toTwos 32 value)).setSrcState (0x400 + ch) 0
    d.tamperEntry ch 1 0 (d.windowCount (0x400 + ch)) (monTail value 0xFF 0xFF)
  else d.tamperEntry ch 1 0 (d.heatCount ch) (monTail 0 0xFF 0xFF)

/-- The comparator of THERM_N (R435): low from 115 °C, released below 110 °C; `temp` in 1/16 °C. It needs no clock. -/
def thermNAssert (temp : Int) (d : Device) : Device :=
  let v := if 1840 ≤ temp then false else if temp < 1760 then true else d.pins.thermN
  if v = d.pins.thermN then d else
  (d.setPins { d.pins with thermN := v }).emit (.pin "THERM_N" (some v))

end Device

def execMonitorEvent (ch : Nat) (value : Int) (region region2 : Nat) (s : State) :=
  s.on (Device.monitorEvent ch value region region2)
def execMonitorRearm (ch : Nat) (value : Int) (s : State) := s.on (Device.monitorRearm ch value)
def execThermNAssert (temp : Int) (s : State) := s.on (Device.thermNAssert temp)

end Sys2Proof.Machine
end

