-- ==== Sys2Proof/Machine/Laps.lean ====
section
/-!
DEFINITION. Tenant metering and lap records (R275 to R281): the UTC minute boundaries the metering unit keeps armed, the
close of a lap and its write-back, and reading a record. What a lap counts is in Frames.lean and where frames are counted.
-/
namespace Sys2Proof.Machine

/-- 2⁻¹⁶ ns in a second. -/
def tickS : Nat := 65536 * 1000000000

namespace Device

/-! ### Boundaries (R277) -/

/-- The instant and kind of the leap second announced; kind 0 when none is (a zero PHC_LEAP_AT announces none). -/
def leapAt (d : Device) : Nat := ticksOf (d.rd O.PHC_LEAP_AT) / tickS
def leapKind (d : Device) : Nat := if d.rd O.PHC_LEAP_AT = 0 then 0 else d.rd O.PHC_LEAP_KIND

/-- offset_at. -/
def offsetAt (d : Device) (x : Nat) : Int :=
  let o := d.rdI 32 O.PHC_UTC_OFFSET
  if d.leapKind = 0 ∨ x < d.leapAt then o else if d.leapKind = 1 then o + 1 else o - 1

/-- The whole second `b` ends a UTC minute. -/
def minuteEnds (d : Device) (b : Nat) : Bool :=
  decide (((b : Int) - d.offsetAt b) % 60 = 0) && !(d.leapKind == 1 && b + 1 == d.leapAt)

/-- The boundary before `b`. -/
def prevBoundary (d : Device) (b : Nat) : Nat :=
  (((List.range 62).map (fun k => b - 1 - k)).find? d.minuteEnds).getD (b - 60)

/-- GUN_TAG of the boundary: the UTC minute that ends (R142). -/
def lapTag (d : Device) (b : Nat) : Nat := toTwos 32 (((b : Int) - d.offsetAt b) / 60 - 1)

/-- The flag of a minute of 61 s or 59 s (R280). -/
def leapFlag (d : Device) (b : Nat) : Nat :=
  if b - d.prevBoundary b = 61 then 1 else if b - d.prevBoundary b = 59 then 2 else 0

/-! ### The lap pool (R277) -/

/-- The live entries of the lap pool. -/
def lapLive (d : Device) : List Nat := (List.range 4).filter d.gunLive

/-- The seconds for which boundaries are armed. -/
def lapArmed (d : Device) : List Nat := d.lapLive.map (fun e => ticksOf (d.rd O.GUN_TIME e) / tickS)

/-- The second after which the armed boundaries lie: `start`, or where the first of them waits after a backward step (R278), a
second of the minute that it ends. -/
def lapFloor (d : Device) (start : Nat) : Nat :=
  let first := d.lapArmed.foldl min (2 ^ 48)
  if d.lapLive = [] ∨ first ≤ start + 61 then start else first - 59

/-- The first boundary above second `t` that no entry is armed for. -/
def lapMissing (d : Device) (t : Nat) : Nat :=
  (((List.range 400).map (fun k => t + 1 + k)).find? (fun b => d.minuteEnds b && !d.lapArmed.contains b)).getD (t + 1)

/-- Arm the first boundary above second `t` that is not armed. -/
def lapArm (t : Nat) (d : Device) : Device :=
  (d.gunPool 5).elim d (fun e =>
    let b := d.lapMissing t
    let d := d.setLaps { d.laps with leap := natPut d.laps.leap e (d.leapFlag b) }
    d.gunTake e 5 0 (timeOf (b * tickS)) (d.lapTag b) false)

/-- Cancel an armed entry that ends no minute any more. One whose time has come stands: it acts on this edge, before what has changed
(R141, R276). -/
def lapDrop (d : Device) (e : Nat) : Device :=
  if ticksOf (d.rd O.GUN_TIME e) ≤ d.phc ∨ d.minuteEnds (ticksOf (d.rd O.GUN_TIME e) / tickS) then d else d.gunCancel e

/-- Keep the next four boundaries armed while PHC_STATE is 1: wrong ones are cancelled, and each missing one is armed. `start`
is the instant (in 2⁻¹⁶ ns) after which the first may lie. -/
def lapReconcile (d : Device) (start : Nat) : Device :=
  if d.rd O.PHC_STATE = 0 then d else
  let t := d.lapFloor (start / tickS)
  let d := d.lapLive.foldl lapDrop d
  (List.range (4 - d.lapLive.length)).foldl (fun d _ => lapArm t d) d

/-- The host or a leap has changed what R277 computes with; a boundary nearer than a gun time may be (R137) is past. -/
def lapRetime (d : Device) : Device := d.lapReconcile (d.phc + 512 * 65536)

/-! ### Closing (R276, R278) -/

/-- Some slice of the part is not ACTIVE. -/
def sliceMissing (d : Device) : Bool := (List.range d.slices).any (fun s => d.rd O.SLICE_STATE s != 1)

/-- The protected offset of lap slot and queue in the lap history (R22, R314). -/
def lapOffset (seq q : Nat) : Nat := 0x07000000 + (seq % 63) * 0x200000 + 64 * q

/-- The directory row of a lap (R281). -/
def lapDir (d : Device) (c : ClosedLap) : Device :=
  let r := c.seq % 64
  let d := d.wr O.LAP_DIR_SEQ r c.seq
  let d := d.wr O.LAP_DIR_STATE r 1
  let d := d.wr O.LAP_DIR_START r c.start
  let d := d.wr O.LAP_DIR_END r c.stop
  let d := d.wr O.LAP_DIR_MINUTE r c.minute
  d.wr O.LAP_DIR_FLAGS r c.flags

/-- A lap leaves the directory. -/
def lapForget (d : Device) (r : Nat) : Device :=
  [O.LAP_DIR_SEQ, O.LAP_DIR_STATE, O.LAP_DIR_START, O.LAP_DIR_END, O.LAP_DIR_MINUTE, O.LAP_DIR_FLAGS].foldl
    (fun d o => d.wr o r 0) d

/-- Readable, grace, gone (R279). -/
def lapAge (d : Device) (n : Nat) : Device :=
  let d := if 60 < n then d.wr O.LAP_DIR_STATE ((n - 60) % 64) 2 else d
  if 62 < n then d.lapForget ((n - 62) % 64) else d

def lapPut (d : Device) (k : Nat) (c : LapCnt) : Device :=
  d.setLaps { d.laps with history := Sparse.put (fun _ => LapCnt.zero) d.laps.history k c }

/-- What the records of lap slot `slot` say of their lap, minute and flags: kept beside the history, since a slot keeps its
records after its lap has left the directory. -/
def slotHead (slot : Nat) : Nat := 2 ^ 21 + slot
def lapHead (c : ClosedLap) (d : Device) : Device := d.lapPut (slotHead (c.seq % 63)) ⟨c.minute, c.flags, 0, 0, 0, 0, 0⟩

/-- The counters of one queue go to their line of the history (R276, R325). -/
def lapStore (c : ClosedLap) (d : Device) (q : Nat) : Device :=
  let x := d.fullLine (lapOffset c.seq q / 64)
  if x.1 then x.2.lapPut (c.seq % 63 * 32768 + q) (Sparse.get (fun _ => LapCnt.zero) c.bank q) else x.2

/-- The write-back of a closed lap ends: it becomes readable. -/
def lapWritebackDone (d : Device) : Device :=
  match d.laps.closing with
  | none => d
  | some c =>
    let d := (List.range d.numQueues).foldl (lapStore c) (lapHead c d)
    let d := d.setLaps { d.laps with closing := none }
    ((d.lapDir c).lapAge c.seq).wr O.LAP_LAST_SEQ 0 c.seq

/-- The lap that closes now. -/
def lapEnding (d : Device) (tag leap : Nat) : ClosedLap :=
  ⟨d.laps.seq, tag, d.laps.flags ||| leap, d.laps.start, d.phcTime, d.laps.open_⟩

/-- The metering unit after the close: the other bank, from zero. -/
def lapNext (d : Device) (tag leap : Nat) : LapX :=
  ⟨[], d.laps.seq + 1, if d.sliceMissing then 16 else 0, d.phcTime, some (d.lapEnding tag leap), some d.cyc, d.laps.history,
   d.laps.leap⟩

/-- Close the open lap with the minute `tag` and the leap flag of that minute; the next lap opens on this edge. -/
def lapClose (d : Device) (tag leap : Nat) : Device :=
  let d := d.lapWritebackDone
  (d.setLaps (d.lapNext tag leap)).inc32 O.LAP_CLOSES

/-- A close within 50 ms of the last one, or on its edge. -/
def lapTooSoon (d : Device) : Bool := d.laps.closeAt.elim false (fun c => decide (d.cyc < c + msCycles 50))

/-- Gun entry `e` of the lap pool takes effect. -/
def lapFired (d : Device) (e : Nat) : Device :=
  if d.lapTooSoon then (d.lapFlag 8).inc32 O.LAP_ABSORBED
  else d.lapClose (d.rd O.GUN_TAG e) (natAt d.laps.leap e)

/-- The PHC is stepped (R277, R278): the lap is flagged, and with the first step the boundaries are armed. -/
def lapStepped (d : Device) : Device :=
  let d := d.lapFlag 4
  if d.lapLive = [] then d.lapReconcile (d.phc + tickS) else d

/-! ### Reading (R280, R281) -/

/-- The counters of history row `row`. -/
def lapCounters (d : Device) (row : Nat) : LapCnt :=
  Sparse.get (fun _ => LapCnt.zero) d.laps.history (d.rd O.LAP_DIR_SEQ (row / 32768) % 63 * 32768 + row % 32768)

/-- The seven counters in record order, as U64. -/
def lapList (c : LapCnt) : List Nat :=
  [c.protFrames, c.protBytes, c.polFrames, c.polBytes, c.othFrames, c.othBytes, c.excess].map (· % 2 ^ 64)

/-- The 64 bytes of a record (R280). -/
def lapBytes (minute flags : Nat) (c : LapCnt) : Bytes :=
  leBytes 4 minute ++ leBytes 1 flags ++ leBytes 3 0 ++ ((lapList c).map (leBytes 8)).flatten

/-- The record that lies in lap slot `slot` of queue `q`. -/
def slotRecord (d : Device) (slot q : Nat) : Bytes :=
  let h := Sparse.get (fun _ => LapCnt.zero) d.laps.history (slotHead slot)
  if d.numQueues ≤ q then leBytes 64 0
  else lapBytes h.protFrames h.protBytes (Sparse.get (fun _ => LapCnt.zero) d.laps.history (slot * 32768 + q))

/-- The record of a history row, as external memory holds it. -/
def lapRecord (d : Device) (row : Nat) : Bytes := d.slotRecord (d.rd O.LAP_DIR_SEQ (row / 32768) % 63) (row % 32768)

/-- The row's lap is readable or in grace. -/
def lapReadable (d : Device) (row : Nat) : Bool := d.rd O.LAP_DIR_STATE (row / 32768) != 0

end Device

def execLapWritebackDone (s : State) := s.on Device.lapWritebackDone

end Sys2Proof.Machine
end

