-- ==== Sys2Proof/Machine/Modes.lean ====
section
/-!
DEFINITION. Operating modes and start-up (R78 to R92): entry to RESET and the way out of it, the boot sequence, the commands
of MODE_CMD and SLICE_CMD, DRAIN, and slice sub-states, with the firmware command that enters RESET (R355).
-/
namespace Sys2Proof.Machine
namespace Device

/-! ### RESET (R79, R80, R85) -/

/-- What a reset leaves of a device: fuses and flash, the reset-cause latch, the input pins, the TAP; and the model's own
records (outputs, draws). Everything else is as after power-up. -/
def cleared (d : Device) (latch : Nat) : Device :=
  { Device.fresh d.part with
    resetLatch := latch, draws := d.draws, out := d.out, otp := d.otp, flash := d.flash
    jtag := ⟨d.jtag.tap, d.jtag.chain, 0, [], 0⟩
    pins := ⟨d.pins.pwrGood, d.pins.resetN, none, none, false, d.pins.thermN, false⟩ }

/-- Both HOLD pins stop being driven (R85). -/
def undrive (d : Device) : Device :=
  let d := if d.pins.ringHold.isSome then d.emit (.pin "RING_HOLD" none) else d
  if d.pins.timeHold.isSome then d.emit (.pin "TIME_HOLD" none) else d

/-- Enter RESET for reset cause `latch` (R85, R86): frames in transmission are truncated and the lanes fall silent. -/
def enterReset (latch : Nat) (d : Device) : Device :=
  if d.mode = .reset then d else ((d.stopFrames (fun _ => true)).undrive).cleared latch

def setLatch (d : Device) (n : Nat) : Device := { d with resetLatch := n }

/-- PWR_GOOD falls: a power-on reset. -/
def pwrGoodLow (d : Device) : Device :=
  let d := d.enterReset 1
  (d.setLatch 1).setPins { d.pins with pwrGood := false }

/-- RESET_N falls. -/
def resetNLow (d : Device) : Device :=
  let d := d.enterReset 2
  d.setPins { d.pins with resetN := false }

/-- PWR_GOOD and RESET_N are both high and clearing is complete: BOOT, unless EXTEST is the current instruction, which
holds the device in RESET and becomes the cause (R76, R80, R89). -/
def resetRelease (d : Device) : Device :=
  let d := d.setPins { d.pins with pwrGood := true, resetN := true }
  if d.mode ≠ .reset then d
  else if d.jtag.tap = .extest then d.setLatch 4
  else ((d.setModeField .boot).wr O.MODE 0 1).wr O.BOOT_RESET_CAUSE 0 d.resetLatch

/-! ### The boot sequence (R87, R88, R350) -/

def setBoot (d : Device) (x : BootX) : Device := { d with boot := x }
def setClockOn (d : Device) : Device := { d with clockOn := true }

/-- The PLLs lock: cycle counts and PHC run from zero, the collector and the monitors work; then the OTP is read, with the
resumption and the vote of the life-cycle states. -/
def bootPllsLocked (d : Device) : Device :=
  if d.mode ≠ .boot ∨ d.boot.plls then d else
  ((d.setBoot { d.boot with plls := true }).setClockOn.tamperBoot).bootLc

/-- CLS_SEED comes from the DRBG at BOOT (R243). -/
def drawSeed (d : Device) : Device := (d.drawBytes 8).2.wr O.CLS_SEED 0 (d.drawBytes 8).1

/-- Load the LFSR of bank `b` from the DRBG (R206). -/
def seedLfsr (d : Device) (b : Nat) : Device :=
  (d.drawBytes 4).2.setBank b { d.bankOf b with lfsr := (d.drawBytes 4).1, lfsrAt := d.cyc }

/-- The LFSRs of every bank. -/
def seedBanks (d : Device) : Device := (List.range (2 * d.slices)).foldl seedLfsr d

/-- The entropy source's start-up tests at BOOT. The third failure in a row leaves the device in BOOT for good (R88, R298). -/
def entropyStartupTests (passed : Bool) (d : Device) : Device :=
  if d.mode ≠ .boot ∨ ¬ d.boot.plls ∨ d.boot.drbg ∨ 3 ≤ d.boot.entropyFails then d
  else if passed then
    ((((d.setBoot { d.boot with drbg := true }).wr O.DRBG_STATE 0 1).seeded).perBootKeys).fillRoots.drawSeed.seedBanks
  else
    let n := d.boot.entropyFails + 1
    let d := (d.setBoot { d.boot with entropyFails := n }).inc32 O.ENTROPY_TEST_FAILS
    if n = 3 then (d.wr O.DRBG_STATE 0 3).fault 0x0202 0x0E00 3 [] else d

/-- Images are loaded and measured, the chain M stands, the Sealing Root is derived, and the epoch is taken (R87, R350,
R354, R361). -/
def sydinImageVerified (d : Device) : Device :=
  if d.mode ≠ .boot ∨ ¬ d.boot.drbg ∨ d.boot.image then d else
  let d := (d.setBoot { d.boot with image := true }).slotsFromFlash.loadSydin
  let d := (List.range d.slices).foldl loadParser d
  let d := d.measure.fillSealing.epochStep
  d.wr O.BOOT_EPOCH 0 (d.rd O.ATT_EPOCH)

/-- Sydin runs: the two steps it starts can end. -/
def sydinRuns (d : Device) : Bool := d.mode == .boot && d.boot.image && d.rd O.BOOT_IMAGE != 0xFF

/-- A memory channel fails training: retired at boot, or SEVERE when another one has failed (R88, R330). -/
def trainingFailed (d : Device) (c : Nat) : Device :=
  if d.retireTaken then d.fault (0x300 + c) (0x0600 + c) 3 (leBytes 4 c) else
  (((d.wr O.MEM_CH_STATE c 2).wr O.MEM_CH_CAUSE c 2).wrBit O.BOOT_FLAGS 0 3 true).fault (0x300 + c) (0x0600 + c) 2 (leBytes 4 c)

/-- Memory training ends: keys, tags, counters and trees (R87, R317, R321). `failed` has a bit per channel that failed. -/
def memTrainingDone (failed : Nat) (d : Device) : Device :=
  if ¬ d.sydinRuns ∨ d.boot.memory then d else
  let d := d.setBoot { d.boot with memory := true }
  let d := ((List.range 4).filter (fun c => failed.testBit c)).foldl trainingFailed d
  d.memInit

/-- A lane fails calibration (R88). -/
def laneFailed (d : Device) (l : Nat) : Device :=
  ((d.wr O.LANE_ADAPT l 4).wrBit O.BOOT_FLAGS 0 2 true).fault (portSrc l) (0x0600 + l) 2 (leBytes 4 l)

/-- The lanes of the part that a mask names, on one side. -/
def maskLanes (d : Device) (mask base : Nat) : List Nat :=
  ((List.range d.lanesPerSide).filter (fun n => mask.testBit n)).map (· + base)

/-- SerDes calibration ends, with the lanes of each side that failed and its duration: at least that much of the boot has
passed. -/
def serdesCalibrationDone (lineFailed hostFailed us : Nat) (d : Device) : Device :=
  if ¬ d.sydinRuns ∨ d.boot.serdes then d else
  let d := d.setBoot { d.boot with serdes := true }
  let d := d.wr O.BOOT_LINE_LANES_FAILED 0 (lineFailed % 2 ^ d.lanesPerSide)
  let d := d.wr O.BOOT_HOST_LANES_FAILED 0 (hostFailed % 2 ^ d.lanesPerSide)
  let d := (d.maskLanes hostFailed 0 ++ d.maskLanes lineFailed 32).foldl laneFailed d
  (d.passTo (usCycles us)).wr O.BOOT_T_SERDES_US 0 (us % 2 ^ 32)

/-- Every step has ended, a bottom tree under way included; without Sydin the steps it starts do not take place. -/
def bootReady (d : Device) : Bool :=
  d.mode == .boot && d.boot.image && d.rd O.ATT_STATE != 4 && ((d.boot.memory && d.boot.serdes) || d.rd O.BOOT_IMAGE == 0xFF)

def ringAwake (d : Device) : Device :=
  (d.setRing { d.ring with idleSince := d.cyc }).setPins { d.pins with ringReady := true }

/-- Boot ends in STAGE, or in SAFE when a SEVERE or FATAL fault is latched (R80, R88). BOOT_T_STAGE_US is what the cycle count
shows since the PLLs locked and the free time, of at most 1,000 µs, that they took from t = 0 (R87). -/
def bootComplete (d : Device) : Device :=
  if ¬ d.bootReady then d else
  let bad := (d.rd O.FLT_STATUS).testBit 3 || (d.rd O.FLT_STATUS).testBit 4
  let us := d.cyc / 1250 + d.unstated.1 % 1001
  let d := (((d.unstated).2.wr O.BOOT_T_STAGE_US 0 us).ringAwake).runKats (fun _ => true)
  if bad then d.enterMode .safe 3 else d.enterMode .stage 1

/-! ### Mode commands (R80 to R84) -/

/-- Discard what is buffered, counted in DRAIN_DISCARDED. -/
def drainDiscard (d : Device) : Device :=
  (d.add64 O.DRAIN_DISCARDED 0 (d.stopCount (fun _ => true))).stopFrames (fun _ => true)

/-- GO_STAGE leaves DRAIN with the drain entry armed: no rule says what becomes of it. It is cancelled, as a mode change may
(R136), without a NOTE (DESIGN CHOICE, log entry 31). -/
def dropDrainEntry (d : Device) : Device := d.drainEntry.elim d (gunCancel d)

/-- STAGE is entered from RUN or DRAIN. -/
def toStage (cause : Nat) : Device → Device := withSignals (fun d => (d.muteWindows.dropDrainEntry.drainDiscard).enterMode .stage cause)

/-- The life-cycle state permits traffic (R338, R341). -/
def trafficAllowed (d : Device) : Bool :=
  (d.rd O.LC_STATE == 2 || d.rd O.LC_STATE == 3 || d.rd O.LC_STATE == 4) && d.rd O.LC_PENDING == 0xFF

def goRunCore (r : Req) (d : Device) : Nat × Device :=
  runCmd r O.MODE_CMD 0
    { Conds.none with s4 := [(d.mode != .stage || d.rd O.BOOT_STATUS != 0 || !d.trafficAllowed, 0xA303)] }
    (fun d => (some 0, withSignals (fun d => d.enterMode .run 2) d)) d

/-- GO_STAGE applies: from RUN or DRAIN, or from SAFE with no FATAL since BOOT and every latch cleared. -/
def goStageOk (d : Device) : Bool :=
  d.mode == .run || d.mode == .drain ||
  (d.mode == .safe && !d.rdB O.FLT_FATAL_SINCE_BOOT && d.rd O.FLT_STATUS == 0)

def goStageCore (r : Req) (d : Device) : Nat × Device :=
  runCmd r O.MODE_CMD 0 { Conds.none with s4 := [(!d.goStageOk, 0xA303)] } (fun d =>
    (some 0, if d.mode = .safe then d.enterMode .stage 2 else d.toStage 2)) d

/-- GO_DRAIN takes a gun entry of the shared pool (R82). -/
def goDrainCore (r : Req) (d : Device) : Nat × Device :=
  let t := d.rd O.DRAIN_GUN_TIME
  let late := d.rdB O.DRAIN_LATE_OK
  runCmd r O.MODE_CMD 0
    { Conds.none with
      s4 := [(d.mode != .run, 0xA303), (d.gunPast t && !late, 0xA306)]
      s7 := [(d.drainEntry.isSome, 0xA201), ((d.gunPool 7).isNone, 0xA205)] }
    (fun d => (some 0, (d.gunPool 7).elim d (fun e => (d.gunTake e 7 0 t 0 late).enterMode .drain 2))) d

/-- The drain entry, while it is ARMED. -/
def drainArmed (d : Device) : Option Nat := d.drainEntry.filter (fun e => d.rd O.GUN_STATE e == 1)

def resumeRunCore (r : Req) (d : Device) : Nat × Device :=
  runCmd r O.MODE_CMD 0 { Conds.none with s4 := [(d.mode != .drain || d.drainArmed.isNone, 0xA303)] }
    (fun d => (some 0, (d.drainArmed.elim d (gunCancel d)).enterMode .run 2)) d

/-- MODE_CMD RESET: OWNER alone; not in SAFE after a FATAL fault. -/
def modeCmdResetCore (r : Req) (d : Device) : Nat × Device :=
  runCmd r O.MODE_CMD 0
    { Conds.none with
      s2 := [(d.roleOf r == 2, 0xA003)]
      s4 := [(d.mode == .safe && d.rdB O.FLT_FATAL_SINCE_BOOT, 0xA303)] }
    (fun d => (none, d.enterReset 3)) d

/-- FW_CMD ACTIVATE_RESET (R355). -/
def activateResetCore (r : Req) (d : Device) : Nat × Device :=
  runCmd r O.FW_CMD 0 (d.fwConds r [(d.mode != .stage, 0xA303)] []) (fun d => (none, d.enterReset 5)) d

/-! ### DRAIN (R83) -/

/-- Admission is closed: the drain entry has fired and the mode is still DRAIN. -/
def admissionClosed (d : Device) : Bool := d.mode == .drain && d.drainEntry.isNone

def setDrainAt (d : Device) (n : Nat) : Device := { d with drainAt := n }

/-- The classes that DRAIN holds toward a partner: all eight of a PFC port, the pause of the others. -/
def drainHold (d : Device) (p : Nat) : Device :=
  d.setHolds p 3 true (if d.rd O.PORT_FC p = 2 then List.range 8 else [0])

/-- The drain gun time: admission closes on every port, and the partners are paused. -/
def drainClose (d : Device) : Device :=
  if d.mode ≠ .drain then d else
  (d.allPorts.filter d.portEnabled).foldl drainHold (d.setDrainAt d.cyc)

/-- The last admitted frame has left. -/
def drainFlushComplete (d : Device) : Device :=
  if d.admissionClosed ∧ d.pipe.frames = [] then d.toStage 5 else d

/-- DRAIN_FLUSH_US have elapsed since the drain gun time. -/
def drainFlushExpiry (d : Device) : Device :=
  if d.admissionClosed then (d.passTo (d.drainAt + usCycles (d.rd O.DRAIN_FLUSH_US))).toStage 5 else d

/-! ### Slices (R91, R92) -/

/-- A slice stops: its frames are discarded and counted, the bank's caches are cleared, its lap is flagged (R86, R92, R170,
R205, R278). -/
def sliceStop (d : Device) (s : Nat) : Device :=
  let d := d.add64 O.SLICE_DISCARDED s (d.stopCount (· == s))
  let d := ((d.stopFrames (· == s)).clearBanks (· == s)).pmcForget s
  d.lapFlag 16

/-- A slice leaves ACTIVE for sub-state `st` with `cause`. -/
def sliceExit (s st cause : Nat) : Device → Device :=
  withSignals (fun d => ((d.sliceStop s).wr O.SLICE_STATE s st).wr O.SLICE_CAUSE s cause)

/-- A region-level action (R11, R92): the slice is FAILED, with a DEGRADED fault of its region source. Cause 3 is a
calibration, the others a unit taken out of service. A slice that is OUT fails as well (R416). -/
def sliceFail (d : Device) (s cause : Nat) : Device :=
  let code := (if cause = 3 then 0x0600 else 0x0300) + s
  if d.rd O.SLICE_STATE s = 1 then (sliceExit s 5 cause d).fault (sliceSrc s 0) code 2 (leBytes 4 s)
  else if d.rd O.SLICE_STATE s = 2 ∨ d.rd O.SLICE_STATE s = 4 then
    ((d.wr O.SLICE_STATE s 5).wr O.SLICE_CAUSE s cause).fault (sliceSrc s 0) code 2 (leBytes 4 s)
  else d

def takeOutCore (r : Req) (s : Nat) (d : Device) : Nat × Device :=
  runCmd r O.SLICE_CMD s { Conds.none with s4 := [(d.rd O.SLICE_STATE s != 1, 0xA303)] }
    (fun d => (some 0, sliceExit s 2 1 d)) d

/-- The lanes of slice `s`, both sides. -/
def sliceLanes (s : Nat) : List Nat := ((List.range 8).map (· + 8 * s)) ++ ((List.range 8).map (· + 32 + 8 * s))

/-- Receivers without power see nothing. -/
def laneOff (d : Device) (l : Nat) : Device := (d.wr O.LANE_ADAPT l 0).wr O.LANE_SIGNAL l 0

/-- The rail is gated: lanes idle. -/
def gateSlice (s : Nat) : Device → Device :=
  withSignals (fun d =>
    let d := (d.slicePorts s).foldl (fun d p => d.receive p .noSignal) ((sliceLanes s).foldl laneOff d)
    d.wr O.SLICE_STATE s 3)

def gateCore (r : Req) (s : Nat) (d : Device) : Nat × Device :=
  runCmd r O.SLICE_CMD s { Conds.none with s4 := [(d.rd O.SLICE_STATE s != 2 && d.rd O.SLICE_STATE s != 5, 0xA303)] }
    (fun d => (some 0, gateSlice s d)) d

/-- RETURN waits for the acknowledgement of the region source when the slice was gated from FAILED. -/
def returnHeld (d : Device) (s : Nat) : Bool :=
  (d.rd O.SLICE_CAUSE s == 2 || d.rd O.SLICE_CAUSE s == 3) && d.rd O.FLT_SRC_CLASS (sliceSrc s 0) != 0xFF

/-- The slot of the active program still verifies and holds that program (R92). -/
def activeGood (d : Device) (s : Nat) : Bool :=
  let r := parserSlot s (d.rd O.PARSER_ACTIVE_IMAGE s)
  d.imageOk r && programDigest (d.slotProgram r) == d.rd O.PARSER_ACTIVE_DIGEST s

/-- RETURN: the program is read again, the shadow is empty. -/
def returnSlice (d : Device) (s : Nat) : Device :=
  let d := (d.wr O.SLICE_STATE s 4).emptyShadow s
  if d.activeGood s then d.setActive s (d.rd O.PARSER_ACTIVE_IMAGE s) (d.slotProgram (parserSlot s (d.rd O.PARSER_ACTIVE_IMAGE s)))
  else d.sliceFail s 2

def sliceReturnCore (r : Req) (s : Nat) (d : Device) : Nat × Device :=
  runCmd r O.SLICE_CMD s { Conds.none with s4 := [(d.rd O.SLICE_STATE s != 3 || d.returnHeld s, 0xA303)] }
    (fun d => (some 0, d.returnSlice s)) d

/-- A lane of the slice is calibrated and acquires when its port is enabled. -/
def laneOn (d : Device) (l : Nat) : Device :=
  if (d.laneOwner l).isSome then (d.wr O.LANE_ADAPT l 1).setAcq l d.cyc else d.wr O.LANE_ADAPT l 0

/-- The lanes of slice `s` that a mask of 16 names: its host lanes first, then its line lanes. -/
def failedLanes (s failed : Nat) : List Nat := ((sliceLanes s).zipIdx.filter (fun e => failed.testBit e.2)).map (fun e => e.1)

/-- A lane whose calibration failed at RETURN (R96). -/
def laneLost (d : Device) (l : Nat) : Device := d.wr O.LANE_ADAPT l 4

/-- Calibration of a RETURNING slice ends, with the lanes that failed: ACTIVE, or FAILED. -/
def sliceReturnDone (s failed : Nat) (d : Device) : Device :=
  if d.slices ≤ s ∨ d.rd O.SLICE_STATE s ≠ 4 then d
  else if failedLanes s failed = [] then
    withSignals (fun d => (((sliceLanes s).foldl laneOn ((d.wr O.SLICE_STATE s 1).wr O.SLICE_CAUSE s 0)).pmcRestart s).runKats (· == s)) d
  else ((failedLanes s failed).foldl laneLost d).sliceFail s 3

end Device

def execPwrGoodLow (s : State) := s.on Device.pwrGoodLow
def execResetNLow (s : State) := s.on Device.resetNLow
def execResetRelease (s : State) := s.on Device.resetRelease
def execBootPllsLocked (s : State) := s.on Device.bootPllsLocked
def execEntropyStartupTests (passed : Bool) (s : State) := s.on (Device.entropyStartupTests passed)
def execSydinImageVerified (s : State) := s.on Device.sydinImageVerified
def execMemTrainingDone (failed : Nat) (s : State) := s.on (Device.memTrainingDone failed)
def execSerdesCalibrationDone (lineFailed hostFailed us : Nat) (s : State) :=
  s.on (Device.serdesCalibrationDone lineFailed hostFailed us)
def execBootComplete (s : State) := s.on Device.bootComplete
def execGoRun (r : Req) (s : State) := s.on (fun d => d.direct r fun d => d.goRunCore r)
def execGoStage (r : Req) (s : State) := s.on (fun d => d.direct r fun d => d.goStageCore r)
def execGoDrain (r : Req) (s : State) := s.on (fun d => d.direct r fun d => d.goDrainCore r)
def execResumeRun (r : Req) (s : State) := s.on (fun d => d.direct r fun d => d.resumeRunCore r)
def execModeCmdReset (r : Req) (s : State) := s.on (fun d => d.direct r fun d => d.modeCmdResetCore r)
def execActivateReset (r : Req) (s : State) := s.on (fun d => d.direct r fun d => d.activateResetCore r)
def execDrainFlushComplete (s : State) := s.on Device.drainFlushComplete
def execDrainFlushExpiry (s : State) := s.on Device.drainFlushExpiry
def execTakeOut (r : Req) (sl : Nat) (s : State) := s.on (fun d => d.direct r fun d => d.takeOutCore r sl)
def execGate (r : Req) (sl : Nat) (s : State) := s.on (fun d => d.direct r fun d => d.gateCore r sl)
def execSliceReturn (r : Req) (sl : Nat) (s : State) := s.on (fun d => d.direct r fun d => d.sliceReturnCore r sl)
def execSliceReturnDone (sl failed : Nat) (s : State) := s.on (Device.sliceReturnDone sl failed)

end Sys2Proof.Machine
end

