-- ==== Sys2Proof/Machine/Time.lean ====
section
/-!
DEFINITION. Network time (R110 to R132): PHC commands and the changes that wait for their boundary, leap seconds, timestamp
latencies, PPS and ToD in both directions, the time chain, and TIME_FOLLOW. The transparent clock is with the pipelines.
-/
namespace Sys2Proof.Machine

/-- A quotient rounded down, or up, as the free value says; no rule gives the rounding (log entry 1). -/
def roundFree (free : Nat) (num den : Int) : Int :=
  if num % den = 0 then num / den else num / den + (free % 2 : Nat)

namespace Device

/-! ### The time chain (R130) -/

/-- TIME_HOLD is to be high. -/
def wantTimeHold (d : Device) : Bool :=
  d.serving && d.rd O.PHC_STATE == 1 && d.rdB O.PPS_OUT_ENABLE && d.rdB O.TOD_OUT_ENABLE

/-- Drive TIME_HOLD as its conditions say; below them it goes low, and stays undriven where it has never been driven. -/
def refreshTimeHold (d : Device) : Device :=
  let want := d.wantTimeHold
  if (d.pins.timeHold == some true) = want then d else
  ((d.setPins { d.pins with timeHold := some want }).emit (.pin "TIME_HOLD" (some want))).wr O.TIME_HOLD_STATE 0 (boolNat want)

/-! ### Changes of the PHC (R111, R112, R139) -/

def setTimeCmd (d : Device) (c : Option Nat) : Device := d.setTime { d.time with cmdAt := c }

/-- The cycle at which a change accepted now acts: the first cell boundary at least 768 ns later. -/
def phcDue (d : Device) : Nat := d.cyc + nsCycles 768

/-- Put a change on its way. -/
def phcPend (d : Device) (ch : PhcChange) : Device := d.setClk { d.clk with pend := d.clk.pend ++ [(d.phcDue, ch)] }

/-- TIME_FOLLOW refuses every PHC command (R112). -/
def followRefuses (d : Device) : Bool × Nat := (d.rdB O.TIME_FOLLOW, 0xA106)

/-- A PHC command runs until its change acts. -/
def phcStart (ch : PhcChange) (d : Device) : Option Nat × Device := (none, (d.phcPend ch).setTimeCmd (some d.phcDue))

def phcSetCore (r : Req) (d : Device) : Nat × Device :=
  runCmd r O.PHC_CMD 0 { Conds.none with s6 := [d.followRefuses] } (phcStart (.set (ticksOf (d.rd O.PHC_SET_VALUE)))) d

/-- The PHC after a step by `δ`, or not: negative, or past the seconds field. -/
def stepBad (d : Device) (δ : Int) : Bool :=
  let v := (d.ticksAt d.phcDue : Int) + δ
  decide (v < 0) || decide ((2 ^ 48 * tickS : Nat) ≤ v)

def phcStepCore (r : Req) (d : Device) : Nat × Device :=
  let δ := d.rdI 64 O.PHC_STEP_DELTA
  runCmd r O.PHC_CMD 0 { Conds.none with s6 := [(d.stepBad δ, 0xA101), d.followRefuses] } (phcStart (.step δ)) d

def phcSlewCore (r : Req) (d : Device) : Nat × Device :=
  runCmd r O.PHC_CMD 0 { Conds.none with s6 := [d.followRefuses] }
    (phcStart (.slew (d.rdI 64 O.PHC_SLEW_DELTA) (d.rd O.PHC_SLEW_PPM))) d

def phcSlewStopCore (r : Req) (d : Device) : Nat × Device :=
  runCmd r O.PHC_CMD 0 { Conds.none with s6 := [d.followRefuses] } (phcStart .slewStop) d

/-! ### Leap seconds (R114) -/

/-- A leap second is announced and its instant has been reached. -/
def leapDue (d : Device) : Bool := d.leapKind != 0 && decide (ticksOf (d.rd O.PHC_LEAP_AT) ≤ d.phc)

/-- The offset changes and the announcement is cleared. -/
def leapNow (d : Device) : Device :=
  if ¬ d.leapDue then d else
  let o := d.rdI 32 O.PHC_UTC_OFFSET + (if d.leapKind = 1 then 1 else -1)
  let d := d.wrCmd O.PHC_UTC_OFFSET 0 (toTwos 32 o)
  let d := (d.wrCmd O.PHC_LEAP_AT 0 0).wrCmd O.PHC_LEAP_KIND 0 0
  d.lapRetime

/-- The PHC reaches PHC_LEAP_AT. -/
def leapApply (d : Device) : Device :=
  if d.leapKind = 0 then d else (d.passTo (d.reach (ticksOf (d.rd O.PHC_LEAP_AT)))).leapNow

/-! ### The change acts (R112, R139, R140) -/

/-- A backward step meets entry `e`: a pair issued for a target that does not lie before the step is withdrawn, to be issued
again, and a late entry whose gun time lies ahead again fires when the PHC reaches it (R140). -/
def gunWithdraw (d : Device) (e : Nat) : Device :=
  if ¬ d.gunLive e then d else
  let d := if d.phc < ticksOf (d.rd O.GUN_TIME e) then d.setGun e { d.gunOf e with late := false } else d
  if d.rd O.GUN_STATE e = 2 ∧ d.cyc ≤ d.rd O.GUN_TARGET_CYCLE e then
    ((d.wr O.GUN_STATE e 1).wr O.GUN_TARGET_CYCLE e 0).wrBit O.GUN_FLAGS e 3 true
  else d

def setEdge (d : Device) (x : StepEdge) : Device := { d with edge := x }

/-- A set or step has acted; `before` is the PHC that the edge would have had without it (R112, R140, R278, R388). -/
def stepped (d : Device) (before : Nat) : Device :=
  let first := d.rd O.PHC_STEP_COUNT = 0
  let d := (d.setEdge ⟨d.cyc, before⟩).inc32 O.PHC_STEP_COUNT
  let d := (d.wr O.PHC_LAST_STEP_AT 0 d.phcTime).wr O.PHC_STATE 0 1
  let d := if first then (d.wr O.BOOT_PHC_FIRST_SET 0 d.phcTime).tamperTimeSet before else d
  let d := if d.phc < before then (List.range 1024).foldl gunWithdraw d else d
  let d := d.setTime { d.time with ppsSeen := d.phc }
  d.leapNow.lapStepped.refreshTimeHold

/-- The change is a set or a step. -/
def isStep (ch : PhcChange) : Bool := match ch with | .set _ | .step _ => true | _ => false

/-- The PHC_CMD whose change has acted ends. -/
def phcCmdEnds (d : Device) (c : Nat) : Device :=
  if d.time.cmdAt = some c ∧ ¬ d.clk.pend.any (fun e => e.1 == c) then (d.setTimeCmd none).endCmd O.PHC_CMD 0 0 else d

/-- The oldest change on its way acts at its boundary. -/
def phcChangeEffect (d : Device) : Device :=
  match d.clk.pend with
  | [] => d
  | e :: r =>
    let d := d.passTo e.1
    let before := d.phc
    let d := d.setClk (e.2.apply { d.clk with pend := r })
    (if isStep e.2 then d.stepped before else d).phcCmdEnds e.1

/-- The slew in progress has been applied whole. -/
def slewComplete (d : Device) : Device := if d.clk.slewRem = 0 then d else d.passTo (d.cyc + d.clk.slewEdges)

/-! ### Timestamp latencies (R116, R407) -/

/-- base + phase + tempco × (temperature − 55 °C), the temperature in 1/16 °C. -/
def latencyOf (d : Device) (p base tempco : Nat) (phase : Int) : Nat × Device :=
  let x := d.unstated
  (toTwos 32 (d.rdI 32 base p + phase + roundFree x.1 (d.rdI 32 tempco p * (d.rdI 32 O.TS_REGION_TEMP p - 880)) 16), x.2)

/-- The phases of port `p`. -/
def phaseOf (d : Device) (p : Nat) : Int × Int := Sparse.get (fun _ => ((0 : Int), (0 : Int))) d.time.phase p
def setPhase (d : Device) (p : Nat) (x : Int × Int) : Device :=
  d.setTime { d.time with phase := Sparse.put (fun _ => ((0 : Int), (0 : Int))) d.time.phase p x }

/-- The latencies in use follow base, phase and temperature. -/
def refreshLatency (d : Device) (p : Nat) : Device :=
  let a := d.latencyOf p O.TS_RX_BASE O.TS_RX_TEMPCO (d.phaseOf p).1
  let b := (a.2.wr O.TS_RX_LATENCY p a.1).latencyOf p O.TS_TX_BASE O.TS_TX_TEMPCO (d.phaseOf p).2
  b.2.wr O.TS_TX_LATENCY p b.1

def tsCalCore (r : Req) (p : Nat) (d : Device) : Nat × Device :=
  runCmd r O.TS_CAL_CMD p { Conds.none with s6 := [(!d.portEnabled p, 0xA106)] } (fun d => (none, d)) d

/-- A measurement of a port's phases ends; one that cannot complete leaves phase 0 and a DEGRADED fault. -/
def tsPhaseMeasured (p : Nat) (ok : Bool) (rx tx : Int) (d : Device) : Device :=
  if ¬ d.laneOk p ∨ ¬ d.portEnabled p ∨ d.mode = .reset ∨ d.mode = .boot then d else
  let d := (d.setPhase p (if ok then (rx, tx) else (0, 0))).refreshLatency p
  let d := (d.wr O.TS_CAL_OK p (boolNat ok)).wr O.TS_CAL_AT p d.phcTime
  let d := if d.cmdStatus O.TS_CAL_CMD p = 1 then d.endCmd O.TS_CAL_CMD p 0 else d
  if ok then d else d.faultUnit (sliceSrc (sliceOfPort p) 9) 0x06 p 2

/-- The region temperature of port `p` is read. -/
def tsRegionTempRead (p : Nat) (temp : Int) (d : Device) : Device :=
  if ¬ d.clockOn ∨ ¬ d.laneOk p then d else (d.wr O.TS_REGION_TEMP p (toTwos 32 temp)).refreshLatency p

/-! ### PPS_OUT and TOD_OUT (R127, R128) -/

/-- The second whose edge comes next: its instant lies above PHC value `t`. -/
def ppsSecond (d : Device) (t : Nat) : Nat :=
  (((t : Int) - d.rdI 32 O.PPS_OUT_OFFSET_NS * 65536) / tickS + 1).toNat

/-- The instant of the edge of second `s`. -/
def ppsInstant (d : Device) (s : Nat) : Nat := ((s : Int) * tickS + d.rdI 32 O.PPS_OUT_OFFSET_NS * 65536).toNat


/-- PPS_OUT rises. -/
def ppsRise (d : Device) : Device :=
  let d := (d.setPins { d.pins with ppsOut := true }).emit (.pin "PPS_OUT" (some true))
  d.setTime { d.time with
    ppsAt := some d.cyc, ppsFall := some (d.cyc + nsCycles (d.rd O.PPS_OUT_WIDTH_NS)), todDue := some (d.cyc + msCycles 100) }

/-- An edge that would follow the last by less than 500 ms. -/
def ppsTooSoon (d : Device) : Bool := d.time.ppsAt.elim false (fun c => decide (d.cyc < c + msCycles 500))

/-- The PHC passes the next instant. -/
def ppsOutEdge (d : Device) : Device :=
  if ¬ d.clockOn ∨ ¬ d.rdB O.PPS_OUT_ENABLE then d else
  let d := d.passTo (d.reach (d.ppsInstant (d.ppsSecond d.time.ppsSeen)))
  let d := d.setTime { d.time with ppsSeen := d.phc }
  if d.ppsTooSoon then d else d.ppsRise

/-- The pulse has lasted PPS_OUT_WIDTH_NS. -/
def ppsOutFall (d : Device) : Device :=
  match d.time.ppsFall with
  | none => d
  | some c =>
    let d := d.passTo c
    let d := d.setTime { d.time with ppsFall := none }
    (d.setPins { d.pins with ppsOut := false }).emit (.pin "PPS_OUT" (some false))

/-- The second of the next rising edge: the next instant's, or the one after it when the next would come too soon after the last
edge (R127, R128). -/
def ppsNext (d : Device) : Nat :=
  let s := d.ppsSecond d.time.ppsSeen
  if d.time.ppsAt.elim false (fun c => decide (d.reach (d.ppsInstant s) < c + msCycles 500)) then s + 1 else s

/-- Fields 0 to 19 of a ToD message. -/
def todBody (d : Device) : Bytes :=
  leBytes 1 0xA5 ++ leBytes 1 1 ++ leBytes 1 20 ++
  leBytes 1 (boolNat (d.rd O.PHC_STATE == 1) + 2 * d.rd O.TIME_LOCKED + 4 * boolNat (d.leapKind != 0) +
    8 * boolNat (d.leapKind == 2)) ++
  leBytes 6 d.ppsNext ++ leBytes 2 (d.rd O.PHC_UTC_OFFSET) ++ leBytes 6 (bits (d.rd O.PHC_LEAP_AT) 48 48) ++
  leBytes 2 d.time.todSeq

/-- 100 ms after the edge the message begins, if TOD_OUT is enabled then. -/
def todOutMessage (d : Device) : Device :=
  match d.time.todDue with
  | none => d
  | some c =>
    let d := d.passTo c
    if ¬ d.rdB O.TOD_OUT_ENABLE then d.setTime { d.time with todDue := none } else
    let b := d.todBody
    let d := d.setTime { d.time with todDue := none, todSeq := (d.time.todSeq + 1) % 65536 }
    d.emit (.tod (b ++ leBytes 4 (crc32 b)))

/-! ### PPS_IN, TOD_IN and TIME_FOLLOW (R129, R131, R132) -/

/-- The delay of the present selection. -/
def selDelay (d : Device) : Int :=
  if d.rd O.TIME_UPSTREAM_SEL = 1 then d.rdI 32 O.TIME_UPSTREAM_DELAY_PRESENT else d.rdI 32 O.TIME_UPSTREAM_DELAY_BYPASSED

/-- The second expected for an edge at `t` (stamp − delay): the one named within the last second, else the nearest. -/
def expected (d : Device) (t : Int) : Int :=
  match d.time.named with
  | some n => if d.cyc ≤ n.2 + msCycles 1000 then (n.1 * tickS : Nat) else (2 * t + tickS) / (2 * tickS) * tickS
  | none => (2 * t + tickS) / (2 * tickS) * tickS

/-- TIME_FOLLOW steers the PHC by error `e` (R132). A frequency beyond the range of R111 is stated by no rule: a free value
within it. -/
def follow (d : Device) (e : Int) : Device :=
  if ¬ d.rdB O.TIME_FOLLOW then d
  else if (d.rd O.TIME_FOLLOW_STEP_NS * 65536 : Nat) < e.natAbs then d.phcPend (.step (-e))
  else
    let x := d.unstated
    let y := x.2.unstated
    let a := d.rdI 64 O.PHC_FREQ_ADJ - roundFree x.1 (e * d.rd O.TIME_FOLLOW_GAIN) 65536
    let a := if a.natAbs ≤ 32768000000 then a else ((y.1 % 65536000001 : Nat) : Int) - 32768000000
    let d := (y.2.phcPend (.slew (-e) (d.rd O.PHC_SLEW_PPM))).phcPend (.freqAdj a)
    d.wr O.PHC_FREQ_ADJ 0 (toTwos 64 a)

/-- Four edges in a row within 16 ns lock; one beyond unlocks. -/
def lockStep (d : Device) (e : Int) : Device :=
  let n := if e.natAbs < 16 * 65536 then d.time.lockRun + 1 else 0
  let d := d.setTime { d.time with lockRun := n }
  if n = 0 then d.wr O.TIME_LOCKED 0 0 else if 4 ≤ n then d.wr O.TIME_LOCKED 0 1 else d

/-- The edge is a valid one. -/
def edgeValid (d : Device) : Device := (d.wr O.PPS_IN_VALID 0 1).setTime { d.time with validAt := some d.cyc }

/-- The last edge gives no error. -/
def edgeInvalid (d : Device) : Device := (d.wr O.PPS_IN_VALID 0 0).setTime { d.time with lockRun := 0 }

/-- An accepted edge with its error. It counts toward the lock, and is valid unless the delay selection has changed within
the last 10 ms (R129, R132). -/
def edgeError (d : Device) (stamp : Nat) : Device :=
  let t := (stamp : Int) - d.selDelay
  let e := t - d.expected t
  let d := (d.wr O.PPS_IN_ERROR 0 (toTwos 64 e)).lockStep e
  if d.cyc < d.time.selAt + msCycles 10 then d.wr O.PPS_IN_VALID 0 0 else d.edgeValid.follow e

/-- A rising edge of PPS_IN, stamped `stamp` (2⁻¹⁶ ns of the PHC). -/
def ppsInEdge (stamp : Nat) (d : Device) : Device :=
  if ¬ d.clockOn ∨ ¬ d.rdB O.PPS_IN_ENABLE then d else
  let d := d.passTo (d.reach stamp)
  if d.time.inAt.elim false (fun c => decide (d.cyc < c + msCycles 900)) then d.inc32 O.PPS_IN_GLITCHES else
  let d := (d.wr O.PPS_IN_STAMP 0 (timeOf stamp)).inc32 O.PPS_IN_COUNT
  let d := d.setTime { d.time with inAt := some d.cyc }
  if d.rd O.TIME_UPSTREAM_SEL = 0 ∨ d.rd O.TIME_UPSTREAM_SEL = 3 then d.edgeInvalid else d.edgeError stamp

/-- A ToD message is accepted: CRC, start, version, and its time after an accepted edge. -/
def todGood (d : Device) (v : Bytes) : Bool :=
  decide (v.length = 24) && leNat (v.take 1) == 0xA5 && leNat (slice 1 1 v) == 1 &&
  leNat (slice 20 4 v) == crc32 (v.take 20) &&
  d.time.inAt.elim false (fun c => decide (c + msCycles 10 ≤ d.cyc ∧ d.cyc ≤ c + msCycles 990))

/-- A message of TOD_IN ends. -/
def todInMessage (v : Bytes) (d : Device) : Device :=
  if ¬ d.clockOn ∨ ¬ d.rdB O.PPS_IN_ENABLE then d
  else if ¬ d.todGood v then d.inc32 O.TOD_IN_ERRORS
  else
    let s := leNat (slice 4 6 v)
    (d.wr O.TOD_IN_SECONDS 0 s).setTime { d.time with named := some (s, d.cyc) }

/-- No valid edge has come for 1.1 s. -/
def timeLockTimeout (d : Device) : Device :=
  match d.time.validAt with
  | none => d
  | some c =>
    let d := d.passTo (c + msCycles 1100)
    (d.wr O.TIME_LOCKED 0 0).setTime { d.time with lockRun := 0, validAt := none }

end Device

def execPhcSet (r : Req) (s : State) := s.on (fun d => d.direct r fun d => d.phcSetCore r)
def execPhcStep (r : Req) (s : State) := s.on (fun d => d.direct r fun d => d.phcStepCore r)
def execPhcSlew (r : Req) (s : State) := s.on (fun d => d.direct r fun d => d.phcSlewCore r)
def execPhcSlewStop (r : Req) (s : State) := s.on (fun d => d.direct r fun d => d.phcSlewStopCore r)
def execPhcChangeEffect (s : State) := s.on Device.phcChangeEffect
def execSlewComplete (s : State) := s.on Device.slewComplete
def execLeapApply (s : State) := s.on Device.leapApply
def execTsCalCmd (r : Req) (p : Nat) (s : State) := s.on (fun d => d.direct r fun d => d.tsCalCore r p)
def execTsPhaseMeasured (p : Nat) (ok : Bool) (rxPhase txPhase : Int) (s : State) :=
  s.on (Device.tsPhaseMeasured p ok rxPhase txPhase)
def execTsRegionTempRead (p : Nat) (temp : Int) (s : State) := s.on (Device.tsRegionTempRead p temp)
def execPpsOutEdge (s : State) := s.on Device.ppsOutEdge
def execPpsOutFall (s : State) := s.on Device.ppsOutFall
def execTodOutMessage (s : State) := s.on Device.todOutMessage
def execPpsInEdge (stamp : Nat) (s : State) := s.on (Device.ppsInEdge stamp)
def execTodInMessage (v : Bytes) (s : State) := s.on (Device.todInMessage v)
def execTimeLockTimeout (s : State) := s.on Device.timeLockTimeout

end Sys2Proof.Machine
end

