-- ==== Sys2Proof/Machine/Faults.lean ====
section
/-!
DEFINITION. The commands and events of the fault collector (R365 to R380): sampling a source, broken pairs, acknowledgement,
delivery on event rings, the watchdog of the management controller, and the end of a PLL's lasting condition.
-/
namespace Sys2Proof.Machine

/-- The source is a PLL: a slice's, or the Hub's and MEM's (R366). -/
def pllSource (src : Nat) : Bool :=
  src == 0x208 || (decide (0x100 ≤ src) && decide (src < 0x200) && (src - 0x100) % 0x40 == 0x0B)

namespace Device

/-- A source that drives a pair: one of R366 other than the collector path itself; tamper channels never report. -/
def drivesPair (d : Device) (src : Nat) : Bool :=
  d.sourceOk src && src != 0 && (decide (src < 0x400) || envChannel (src - 0x400))

/-- The classes a source raises as a base class (R366), a mask of bits 0 to 3. -/
def baseClasses (src : Nat) : Nat :=
  if src = 0 then 5 else if src < 0x200 then
    [4, 0, 6, 6, 7, 6, 6, 5, 5, 4, 4, 8].getD ((src - 0x100) % 0x40) 0
  else if src < 0x300 then [6, 12, 12, 8, 1, 1, 5, 8, 8].getD (src - 0x200) 0
  else if src < 0x304 then 14 else if src = 0x304 then 4 else if src = 0x305 then 6 else if src < 0x400 then 0
  else 4

/-! ### Sampling (R367, R370) -/

/-- Once its record has been taken, a source reads 0 again unless its condition lasts: an environment channel, a PLL, or a
memory channel that is out of calibration (R367). -/
def recordTaken (d : Device) (src : Nat) : Device :=
  if 0x400 ≤ src then d
  else if pllSource src then d.setSrcState src 1
  else if 0x300 ≤ src ∧ src < 0x304 ∧ d.mem.calib.any (fun e => e.1 == src - 0x300) then d
  else d.setSrcState src 0

/-- A fault of source `src` is sampled. A base class the source does not raise, or a source that is not there, is no fault. -/
def faultSample (src code base : Nat) (detail : Bytes) (d : Device) : Device :=
  if ¬ d.clockOn ∨ ¬ d.drivesPair src ∨ ¬ (baseClasses src).testBit base ∨ d.srcUnseen src then d else
  if base = 0 then (d.note src code detail).recordTaken src
  else (d.recordTaken src).fault src code base detail

/-! ### Broken pairs (R367) -/

/-- The pair of `src` has read (0,0) or (1,1) for four Hub clocks: state 2, and a DEGRADED fault of the collector path. -/
def brokenWire (src : Nat) (d : Device) : Device :=
  if ¬ d.clockOn ∨ ¬ d.drivesPair src ∨ d.srcUnseen src then d else
  (d.wr O.FLT_SRC_STATE src 2).fault 0 0x0F00 2 (leBytes 2 src)

/-- The pair has read validly for 1 ms: the state returns to that reading, and a NOTE names the source. -/
def wireRestored (src : Nat) (fault : Bool) (d : Device) : Device :=
  if ¬ d.clockOn ∨ ¬ d.drivesPair src ∨ ¬ d.srcUnseen src then d else
  (d.wr O.FLT_SRC_STATE src (boolNat fault)).note 0 0x0F00 (leBytes 2 src)

/-- A PLL has regained lock: its lasting condition ends (R367). -/
def pllLockRegained (src : Nat) (d : Device) : Device :=
  if ¬ d.clockOn ∨ ¬ d.sourceOk src ∨ ¬ pllSource src then d else d.setSrcState src 0

/-- Sydin has not answered its watchdog for 100 ms (R366): a SEVERE fault of source 0x0207. Without a running image there
is nothing to watch. -/
def sydinWatchdog (d : Device) : Device :=
  if ¬ d.clockOn ∨ ¬ d.boot.image ∨ d.rd O.BOOT_IMAGE = 0xFF then d else d.fault 0x207 0 3 []

/-! ### Acknowledgement (R373) -/

/-- The latch of `src` clears. -/
def unlatch (d : Device) (src : Nat) : Device := d.holdClasses src 0

def fltSrcAckCore (r : Req) (src : Nat) : Device → Nat × Device :=
  fun d => runCmd r O.FLT_SRC_ACK src
    { Conds.none with
      s4 := [(d.rd O.FLT_SRC_STATE src == 1 || d.rd O.FLT_SRC_STATE src == 2 ||
              (natAt d.faults.held src).testBit 4, 0xA303)] }
    (fun d => (some 0, d.unlatch src)) d

/-- Sources that FLT_ACK_ALL clears: state 0, and no FATAL latch. -/
def ackable (d : Device) : List Nat :=
  (d.faults.held.filter (fun e => !e.2.testBit 4 && d.rd O.FLT_SRC_STATE e.1 == 0)).map (fun e => e.1)

def fltAckAllCore (r : Req) (d : Device) : Nat × Device :=
  runCmd r O.FLT_ACK_ALL 0 Conds.none (fun d => (some 0, d.ackable.foldl unlatch d)) d

/-! ### Event rings (R378) -/

/-- Bytes 16 to 31 of a completed event descriptor. -/
def eventKind (rcd : Bytes) (detail : Nat) : Bytes :=
  slice 0 4 rcd ++ slice 16 2 rcd ++ slice 18 2 rcd ++ slice 20 1 rcd ++ slice 22 1 rcd ++ leBytes 2 detail ++
  leBytes 4 (ns32Of (ticksOf (leNat (slice 4 12 rcd))))

/-- The oldest waiting record leaves the ring's queue. -/
def popEvent (d : Device) (n : Nat) : Device := d.setDma n { d.dmaOf n with events := (d.dmaOf n).events.drop 1 }

/-- The next descriptor of event ring `n` takes the oldest waiting record. A buffer shorter than 64 bytes is refused, and
the record waits for the next descriptor. -/
def eventRingDeliver (n : Nat) (x : Descriptor) (d : Device) : Device :=
  if d.mode = .reset ∨ 64 ≤ n ∨ d.rd O.RING_KIND n ≠ 4 ∨ ¬ d.ringReady n then d else
  let d := d.eventsExpire n
  match (d.dmaOf n).events with
  | [] => d
  | (_, rcd) :: _ =>
    let d := d.dmaAdvance n
    let e := d.descCheck n x
    if e ≠ 0 then d.dmaComplete n e 0 (fit 16 x.kind)
    else if x.length < 64 then d.dmaComplete n 4 0 (eventKind rcd 1)
    else if x.pcieError then d.dmaComplete n 3 0 (fit 16 x.kind)
    else ((d.emit (.hostWrite n x.address rcd (leBytes 4 64 ++ eventKind rcd 0))).popEvent n).dmaComplete n 0 64 (eventKind rcd 0)

end Device

def execBrokenWire (src : Nat) (s : State) := s.on (Device.brokenWire src)
def execWireRestored (src : Nat) (fault : Bool) (s : State) := s.on (Device.wireRestored src fault)
def execPllLockRegained (src : Nat) (s : State) := s.on (Device.pllLockRegained src)
def execSydinWatchdog (s : State) := s.on Device.sydinWatchdog
def execFltSrcAck (r : Req) (src : Nat) (s : State) := s.on (fun d => d.direct r fun d => d.fltSrcAckCore r src)
def execFltAckAll (r : Req) (s : State) := s.on (fun d => d.direct r fun d => d.fltAckAllCore r)
def execEventRingDeliver (n : Nat) (x : Descriptor) (s : State) := s.on (Device.eventRingDeliver n x)

end Sys2Proof.Machine
end

