-- ==== Sys2Proof/Machine/Counters.lean ====
section
/-!
DEFINITION. The events of the performance counters (R391 to R401): the sample after an overflow, its timeout, and the wrap
of a counter that counts clocks. Counting itself is in Machine/Pmc.lean, reading in Machine/Objects reads.
-/
namespace Sys2Proof.Machine
namespace Device

/-- The slice-direction that row `n` counts (R391, R393). -/
def pmcSd (d : Device) (n : Nat) : Nat := 2 * (n / 32) + d.rd O.PMC_EVENT n / 256 % 2

/-- The cycle of the overflow of row `n` whose sample is outstanding. -/
def pmcDue (d : Device) (n : Nat) : Option Nat := (d.pmc.due.find? (fun e => e.1 == n)).map (fun e => e.2)

def pmcUndue (d : Device) (n : Nat) : Device := d.setPmc { d.pmc with due := d.pmc.due.filter (fun e => e.1 != n) }

/-- The 32 bytes of a sample (R397). -/
def sampleBytes (d : Device) (n skid : Nat) (f : Frame) : Bytes :=
  leBytes 2 n ++ leBytes 2 skid ++ leBytes 12 d.phcTime ++ leBytes 2 f.port ++ leBytes 2 f.ca ++ leBytes 4 f.sc ++
  leBytes 1 f.cls ++
  leBytes 1 (boolNat f.decrypt + 2 * boolNat f.prot + 4 * boolNat f.parkedAt.isSome + 8 * boolNat f.predicted) ++ leBytes 6 0

/-- A sample is stored; one that has not been read is lost with it. -/
def storeSample (d : Device) (n : Nat) (v : Bytes) : Device :=
  let d := if d.pmc.unread.contains n then d.wrBit O.PMC_STATUS n 1 true else d
  (d.wr O.PMC_SAMPLE_DATA n (leNat v)).setPmc { d.pmc with unread := n :: d.pmc.unread.filter (· != n) }

/-- The cycle at which a frame reached its ordering point E9, or D3, which starts 28 clocks after cell 0 (R147, R148). -/
def reachedAt (f : Frame) : Option Nat := if f.decrypt then some (f.arrival + 28) else f.ordered

/-- The frame has reached E9, or D3, since cycle `c`. -/
def reachedSince (f : Frame) (c : Nat) : Bool := (reachedAt f).any (fun o => decide (c ≤ o))

/-- No other frame of its slice-direction that has reached E9, or D3, since cycle `c` did so before `f` (R397). -/
def firstSince (d : Device) (f : Frame) (c : Nat) : Bool :=
  reachedSince f c && d.pipe.frames.all (fun g => g.sd != f.sd || !reachedSince g c ||
    decide ((reachedAt f).getD 0 ≤ (reachedAt g).getD 0))

/-- Frame `id` is the first of the counter's slice-direction to reach E9 or D3 after the overflow, `skid` frames on; a capture
comes within 1 ms, from a frame at most 64 frames on. -/
def pmcSampleCapture (n id skid : Nat) (d : Device) : Device :=
  match d.pmcDue n, d.frame? id with
  | some c, some f =>
    if f.sd = d.pmcSd n ∧ d.firstSince f c ∧ skid ≤ 64 ∧ d.cyc ≤ c + msCycles 1 then (d.pmcUndue n).storeSample n (d.sampleBytes n skid f) else d
  | _, _ => d

/-- No frame has started within 1 ms of the overflow: no sample is taken. -/
def pmcSampleTimeout (n : Nat) (d : Device) : Device :=
  (d.pmcDue n).elim d (fun c => (d.passTo (c + msCycles 1)).pmcUndue n)

/-- What row `n` counts in one clock of its domain, for the events that count clocks (R393). -/
def clockRate (d : Device) (n : Nat) : Nat :=
  let sd := d.pmcSd n
  match d.rd O.PMC_EVENT n % 256 with
  | 0x01 => 1
  | 0x09 => d.rd O.CALLROOM_OCCUPANCY (sd / 2)
  | 0x0F => boolNat (nodePaused sd d n)
  | 0x40 => 1
  | _ => 0

/-- Slice clocks until row `n` wraps, counting as now; none when it does not count clocks. -/
def wrapClocks (d : Device) (n : Nat) : Option Nat :=
  let k := ceilDiv (2 ^ 48 - d.rd O.PMC_VALUE n) (d.clockRate n)
  if ¬ d.rdB O.PMC_ENABLE n ∨ d.pmcChainedOdd n ∨ d.clockRate n = 0 then none
  else if pmcSliceRow n then
    if d.rd O.SLICE_STATE (n / 32) = 3 ∨ d.rd O.SLICE_STATE (n / 32) = 4 then none else some k
  else some (ceilDiv (5 * k - d.pmc.hubPhase) 4)

/-- A counter of clocks, of waiting nodes or of occupancy runs on until it wraps. -/
def pmcClockCountWrap (n : Nat) (d : Device) : Device :=
  if n < 144 then (d.wrapClocks n).elim d (fun k => d.passTo (d.cyc + k)) else d

end Device

def execPmcSampleCapture (row f skid : Nat) (s : State) := s.on (Device.pmcSampleCapture row f skid)
def execPmcSampleTimeout (row : Nat) (s : State) := s.on (Device.pmcSampleTimeout row)
def execPmcClockCountWrap (row : Nat) (s : State) := s.on (Device.pmcClockCountWrap row)

end Sys2Proof.Machine
end

