-- ==== Sys2Proof/Machine/Sa.lean ====
section
/-!
DEFINITION. Secure associations (R215 to R231): provisioning, loading, arming, cancelling, retiring, unloading and releasing;
transmit handover, early handover and the end of an exchange zone; a context whose check code fails.
-/
namespace Sys2Proof.Machine
namespace Device

/-! ### Ciphersuites (R172, R181, R182) -/

def suite (d : Device) (ca : Nat) : Nat := d.rd O.CA_CIPHERSUITE ca
def xpn (d : Device) (ca : Nat) : Bool := decide (3 ≤ d.suite ca)

/-- SAK length in bytes. -/
def sakLen (d : Device) (ca : Nat) : Nat := if d.suite ca = 1 ∨ d.suite ca = 3 then 16 else 32

/-- The last PN of the suite (R182). -/
def pnMax (d : Device) (ca : Nat) : Nat := if d.xpn ca then 2 ^ 64 - 1 else 2 ^ 32 - 1

/-- The threshold in force (R172). -/
def pnThreshold (d : Device) (ca : Nat) : Nat :=
  if d.rd O.CA_PN_THRESHOLD ca ≠ 0 then d.rd O.CA_PN_THRESHOLD ca
  else if d.xpn ca then 0x4000000000000000 else 0xC0000000

/-! ### Looking up SAs -/

/-- The CA of an SC. -/
def caOf (d : Device) (sc : Nat) : Nat := d.rd O.SC_CA sc

/-- The ACTIVE SA of an SC. -/
def activeSa (d : Device) (sc : Nat) : Option Nat :=
  ((List.range 4).map (4 * sc + ·)).find? (fun pr => d.rd O.SA_STATE pr == 4)

/-- The SA in force of a transmit SC: the ACTIVE one, or the BAD one that R224 keeps in force. -/
def saInForce (d : Device) (sc : Nat) : Option Nat :=
  if d.rd O.SCSA_IN_FORCE_AN sc < 4 then some (4 * sc + d.rd O.SCSA_IN_FORCE_AN sc) else none

/-- The ARMED SA of an SC. -/
def armedSa (d : Device) (sc : Nat) : Option Nat :=
  ((List.range 4).map (4 * sc + ·)).find? (fun pr => d.rd O.SA_STATE pr == 3)

/-- The SA of an SC holds a resident slot. -/
def scResident (d : Device) (sc : Nat) : Bool :=
  d.rd O.SCSA_SLOT0_ROW sc != 0xFFFFFFFF || d.rd O.SCSA_SLOT1_ROW sc != 0xFFFFFFFF

/-- Frames that still need the context in `slot` of SA `pr`: they carry one of its PNs, or were looked up under it and have
neither committed nor failed (R227). -/
def slotInFlight (d : Device) (pr slot : Nat) : Bool :=
  d.pipe.frames.any (fun f => f.prot && f.sa == pr && f.slot == slot && (if f.decrypt then !f.settled else f.pn != 0))

/-- Frames that still need the SA (R227). -/
def saInFlight (d : Device) (pr : Nat) : Bool := d.slotInFlight pr (d.rd O.SA_SLOT pr)

/-! ### Contexts (R289 to R291) -/

/-- The check code of a context in slot `slot`. -/
def ctxCheck (d : Device) (slot : Nat) (x : SaCtx) : Nat :=
  leNat ((cmac d.keys.checkKey (leBytes 4 slot ++ fit 32 x.sak ++ (x.h.map (beBytes 16)).flatten ++ beBytes 12 x.ivBase ++
    leBytes 4 x.attr)).take 4)

/-- The stored check code agrees with the context. -/
def ctxGood (d : Device) (slot : Nat) : Bool := (d.ctxOf slot).check == d.ctxCheck slot (d.ctxOf slot)

/-- The hold of SC `sc` ends (R183). -/
def endHold (d : Device) (sc : Nat) : Device := (d.setHoldUntil sc 0).wrBit O.SC_STATUS sc 3 false

/-- An SA becomes BAD (R219, R224): an ARMED transmit SA loses its gun entry, a receive SA stops receiving, and an SA in
force of a transmit SC stays in force. Frames under it complete. -/
def saBad (d : Device) (pr : Nat) : Device :=
  let sc := pr / 4
  let st := d.rd O.SA_STATE pr
  if st < 2 ∨ 5 < st then d else
  let d := if st = 3 ∧ d.rd O.SC_DIR sc = 1 then
      (d.saGun pr).elim d (fun e => (d.gunCancel e).wrBit O.SA_FLAGS pr 4 true) else d
  let d := d.setSaState pr 7
  let d := if d.rd O.SC_DIR sc = 2 ∧ d.rd O.SCSA_IN_FORCE_AN sc = pr % 4 then d.wr O.SCSA_IN_FORCE_AN sc 0xFF else d
  (d.uncache (d.rd O.SA_SLOT pr)).refreshSc sc

/-- The check of slot `slot` fails (R291): its SA is BAD, counted, and a DEGRADED fault names the slot. -/
def ctxFails (d : Device) (slot : Nat) : Device :=
  (((d.saBad (d.slotRow slot)).inc32 O.VAULT_CHECK_FAILS)).faultUnit 0x201 0x04 slot 2

/-! ### PROVISION (R217, R220) -/

/-- The protected line of an SA record's first half (R22, R314). -/
def recLine (pr : Nat) : Nat := (0x04000000 + 128 * pr) / 64

/-- Write a record in full: both of its lines. False when one of them is read-only. -/
def writeRec (d : Device) (pr : Nat) (x : SaRec) : Bool × Device :=
  let a := d.fullLine (recLine pr)
  let b := a.2.fullLine (recLine pr + 1)
  if a.1 && b.1 then (true, b.2.setRec pr x) else (false, b.2)

/-- A FATAL fault has come up within the command: its result is 0xA303 (R300). -/
def fatalResult (was : Bool) (x : Nat × Device) : Nat × Device :=
  if ¬ was ∧ x.2.rdB O.FLT_FATAL_SINCE_BOOT then (0xA303, x.2) else x

/-- The KEK in `handle` unwraps `blob`: the plaintext, or the code of R294. A use is taken once the slot may be used. -/
def kekUnwrap (d : Device) (handle : Nat) (blob : Bytes) : (Nat × Bytes) × Device :=
  match d.slotOf handle with
  | none => ((0xA101, []), d)
  | some k =>
    if d.rd O.VAULT_PURPOSE k ≠ 1 then ((0xA403, []), d) else
    let u := d.slotUse k
    if u.1 ≠ 0 then ((u.1, []), u.2) else
    let key := u.2.keyBytes k
    ((kwUnwrap key blob).elim (0xA106, []) (fun p => (0, p)), u.2.takeUse k)

/-- The action of PROVISION. -/
def provision (d : Device) (pr : Nat) : Nat × Device :=
  let n := d.sakLen (d.caOf (pr / 4))
  let u := d.kekUnwrap (d.rd O.SA_KEK pr) (leBytes (n + 8) (d.rd O.SA_WRAPPED_SAK pr))
  if u.1.1 ≠ 0 then (u.1.1, u.2) else
  let d := u.2
  let x : SaRec := ⟨kwWrap d.keys.storeKey u.1.2, 8 * n, d.suite (d.caOf (pr / 4)), d.rd O.SA_SALT pr, d.rd O.SA_SSCI pr, d.rd O.SA_INIT_PN pr, false⟩
  let w := d.writeRec pr x
  if ¬ w.1 then (0xA404, w.2) else (0, ((w.2.clearStats pr).wr O.SA_FLAGS pr 0).setSaState pr 1)

def saStateIn (d : Device) (pr : Nat) (l : List Nat) : Bool := l.contains (d.rd O.SA_STATE pr)

/-- The SC is a transmit or a receive SC (R220, R221). -/
def scUsed (d : Device) (sc : Nat) : Bool := d.rd O.SC_DIR sc == 1 || d.rd O.SC_DIR sc == 2

def saProvisionCore (r : Req) (pr : Nat) (d : Device) : Nat × Device :=
  runCmd r O.SA_CMD pr
    { Conds.none with
      s2 := [(d.roleOf r == 2, 0xA003)]
      s6 := [(!d.saStateIn pr [0, 1, 6] || !d.scUsed (pr / 4) ||
              decide (d.pnMax (d.caOf (pr / 4)) < d.rd O.SA_INIT_PN pr), 0xA106)] }
    (fun d =>
      let x := fatalResult (d.rdB O.FLT_FATAL_SINCE_BOOT) (d.provision pr)
      (some x.1, x.2.wrCmd O.SA_WRAPPED_SAK pr 0)) d

/-! ### LOAD (R203, R216, R221, R290) -/

/-- The lower-numbered free resident slot of an SC; one that SRAM withholds is not free (R406). -/
def freeResident (d : Device) (sc : Nat) : Option Nat :=
  [2 * sc, 2 * sc + 1].find? (fun k => d.slotRow k == 0xFFFFFFFF && !d.sram.slots.contains k)

/-- H and its powers, H¹ first (R203). -/
def hPowers (sak : Bytes) : List Nat :=
  let h := beNat (aesEnc sak (List.replicate 16 0#8))
  (List.range 8).foldl (fun l _ => l ++ [(l.getLast?).elim h (fun x => gfMul x h)]) []

/-- The IV base (R290). The salt and the SCI are held with their first byte least significant. -/
def ivBase (d : Device) (pr : Nat) (x : SaRec) : Nat :=
  if d.xpn (d.caOf (pr / 4)) then beNat (leBytes 12 x.salt) ^^^ (x.ssci * 2 ^ 64)
  else beNat (leBytes 8 (d.rd O.SC_SCI (pr / 4))) * 2 ^ 32

/-- The attribute word (R290): AN, XPN, key length, direction. -/
def ctxAttr (d : Device) (pr : Nat) (x : SaRec) : Nat :=
  16 * (pr % 4) + 8 * boolNat (d.xpn (d.caOf (pr / 4))) + 4 * boolNat (x.keyBits == 256) +
  (if d.rd O.SC_DIR (pr / 4) = 2 then 2 else 1)

/-- Store a context with its check code. -/
def storeCtx (d : Device) (slot : Nat) (x : SaCtx) : Device := d.setCtx slot { x with check := d.ctxCheck slot x }

/-- The action of LOAD into `slot`. -/
def loadSa (d : Device) (pr slot : Nat) : Nat × Device :=
  let a := d.readLine (recLine pr)
  let b := a.2.readLine (recLine pr + 1)
  let d := b.2
  let x := d.recOf pr
  match (if a.1 && b.1 && !x.bad then kwUnwrap d.keys.storeKey x.wrapped else none) with
  | none => (0xA404, d)
  | some sak =>
    let d := d.storeCtx slot ⟨sak, hPowers sak, d.ivBase pr x, x.initPn, 0, d.ctxAttr pr x, 0⟩
    let d := if slot % 2 = 0 then d.wr O.SCSA_SLOT0_ROW (pr / 4) pr else d.wr O.SCSA_SLOT1_ROW (pr / 4) pr
    (0, (d.wr O.SA_SLOT pr slot).setSaState pr 2)

def saLoadCore (r : Req) (pr : Nat) (d : Device) : Nat × Device :=
  let sc := pr / 4
  runCmd r O.SA_CMD pr
    { Conds.none with
      s6 := [(!d.saStateIn pr [1] || !d.scUsed sc || d.rd O.SC_PORT sc == 0xFFFF ||
              (d.recOf pr).keyBits != 8 * d.sakLen (d.caOf sc) || (d.recOf pr).suite != d.suite (d.caOf sc), 0xA106)]
      s7 := [((d.freeResident sc).isNone, 0xA206)] }
    (fun d => (d.freeResident sc).elim (some 0xA206, d) (fun slot =>
      let x := fatalResult (d.rdB O.FLT_FATAL_SINCE_BOOT) (d.loadSa pr slot)
      (some x.1, x.2))) d

/-! ### Becoming ACTIVE (R219, R223, R226) -/

/-- The ACTIVE SA of an SC, if any, goes to RETIRING. -/
def retireActive (d : Device) (sc : Nat) : Device := (d.activeSa sc).elim d (fun old => d.setSaState old 5)

/-- SA `pr` becomes ACTIVE: the old one RETIRING, SC_STATUS bits [3:1] clear, a hold ends. -/
def saActivate (d : Device) (pr : Nat) : Device :=
  let sc := pr / 4
  let d := (d.retireActive sc).setSaState pr 4
  let d := (d.wr O.SC_STATUS sc (d.rd O.SC_STATUS sc % 2)).setHoldUntil sc 0
  ((d.wr O.SCSA_IN_FORCE_AN sc (pr % 4)).inc32 O.SCSA_HANDOVERS sc).refreshSc sc

/-- Copy the late and stepped bits of a fired entry (R229). -/
def copyFire (d : Device) (pr : Nat) (late stepped : Bool) : Device :=
  (d.wrBit O.SA_FLAGS pr 0 late).wrBit O.SA_FLAGS pr 1 stepped

/-- TX_HANDOVER of SC `sc` fires (R223). -/
def txHandover (d : Device) (sc : Nat) (late stepped : Bool) : Device :=
  (d.armedSa sc).elim d (fun pr => (d.copyFire pr late stepped).saActivate pr)

/-- The BAD SA that a zone end was armed for: one of the SC that is not in force. -/
def zoneBad (d : Device) (sc : Nat) : Option Nat :=
  ((List.range 4).map (4 * sc + ·)).find? (fun pr => d.rd O.SA_STATE pr == 7 && d.rd O.SCSA_IN_FORCE_AN sc != pr % 4)

/-- ZONE_END of SC `sc` fires (R226): an ARMED SA that has become BAD leaves the old one receiving. -/
def zoneEnd (d : Device) (sc : Nat) (late stepped : Bool) : Device :=
  match d.armedSa sc with
  | some pr => (d.copyFire pr late stepped).saActivate pr
  | none => (d.zoneBad sc).elim d (fun pr =>
      ((d.copyFire pr late stepped).wrBit O.SA_FLAGS pr 5 true).note 0x204 0x0B00 (leBytes 4 sc))

/-- The early handover of R225: the ARMED SA becomes ACTIVE as the SA in force stops. -/
def earlyHandover (d : Device) (sc : Nat) : Device :=
  if ¬ d.rdB O.SCSA_EARLY_ON_STOP sc then d else
  (d.armedSa sc).elim d (fun pr =>
    let d := (d.saGun pr).elim d (gunCancel d)
    (d.wrBit O.SA_FLAGS pr 2 true).saActivate pr)

/-! ### ARM (R223, R226) -/

/-- A receive SA whose SC has no other ACTIVE SA takes no gun entry. -/
def armDirect (d : Device) (pr : Nat) : Bool := d.rd O.SC_DIR (pr / 4) == 2 && (d.activeSa (pr / 4)).isNone

/-- ARM takes a gun entry: of a transmit SA, and of a receive SA whose SC has another ACTIVE SA. -/
def armGuns (d : Device) (pr : Nat) : Bool :=
  d.rd O.SC_DIR (pr / 4) == 1 || (d.rd O.SC_DIR (pr / 4) == 2 && (d.activeSa (pr / 4)).isSome)

/-- The feature code of an ARM: TX_HANDOVER or ZONE_END. -/
def armCode (d : Device) (pr : Nat) : Nat := if d.rd O.SC_DIR (pr / 4) = 2 then 3 else 2

/-- The action of ARM. -/
def armSa (d : Device) (pr : Nat) : Device :=
  if d.armDirect pr then d.saActivate pr else
  (d.gunPool 2).elim d (fun e =>
    ((d.setSaState pr 3).gunTake e (d.armCode pr) (pr / 4) (d.rd O.SA_GUN_TIME pr) (d.rd O.SA_GUN_TAG pr)
      (d.rdB O.SA_LATE_OK pr)).refreshSc (pr / 4))

def saArmCore (r : Req) (pr : Nat) (d : Device) : Nat × Device :=
  let g := d.armGuns pr
  runCmd r O.SA_CMD pr
    { Conds.none with
      s4 := [(d.mode == .drain, 0xA303), (g && d.gunPast (d.rd O.SA_GUN_TIME pr) && !d.rdB O.SA_LATE_OK pr, 0xA306)]
      s6 := [(!d.saStateIn pr [2], 0xA106)]
      s7 := [(g && ((d.armedSa (pr / 4)).isSome || (d.gunFind (d.armCode pr) (pr / 4)).isSome), 0xA201),
             (g && (d.gunPool 2).isNone, 0xA205)] }
    (fun d => (some 0, d.armSa pr)) d

/-! ### CANCEL, RETIRE, UNLOAD, RELEASE (R219, R222, R224) -/

/-- The gun entry of an ARMED SA has been issued: too late to cancel (R136). -/
def saIssued (d : Device) (pr : Nat) : Bool := (d.saGun pr).elim false (fun e => d.rd O.GUN_STATE e == 2)

/-- CANCEL: the entry is freed. A receive SA stops receiving once its frames have finished (R195, R219). -/
def cancelSa (d : Device) (pr : Nat) : Device :=
  let d := (d.saGun pr).elim d (gunCancel d)
  if d.rd O.SC_DIR (pr / 4) = 2 ∧ d.saInFlight pr then d else (d.setSaState pr 2).refreshSc (pr / 4)

def saCancelCore (r : Req) (pr : Nat) (d : Device) : Nat × Device :=
  runCmd r O.SA_CMD pr
    { Conds.none with
      s4 := [(d.saStateIn pr [3] && d.saIssued pr, 0xA303)]
      s6 := [(!d.saStateIn pr [3], 0xA106)] }
    (fun d => (some 0, d.cancelSa pr)) d

/-- An SA in force stops being in force. -/
def leaveForce (d : Device) (pr : Nat) : Device :=
  if d.rd O.SCSA_IN_FORCE_AN (pr / 4) = pr % 4 then d.wr O.SCSA_IN_FORCE_AN (pr / 4) 0xFF else d

/-- A BAD SA goes to RETIRED: a zone end armed for it stays armed (R136), its slot stays until its frames have finished. -/
def retireBad (d : Device) (pr : Nat) : Device :=
  let d := ((d.leaveForce pr).setSaState pr 6).refreshSc (pr / 4)
  if d.saInFlight pr then d else d.freeSaSlot pr

/-- RETIRE: ACTIVE to RETIRING, BAD to RETIRED. -/
def retireSa (d : Device) (pr : Nat) : Device :=
  if d.rd O.SA_STATE pr = 7 then d.retireBad pr else ((d.leaveForce pr).setSaState pr 5).refreshSc (pr / 4)

def saRetireCore (r : Req) (pr : Nat) (d : Device) : Nat × Device :=
  runCmd r O.SA_CMD pr { Conds.none with s6 := [(!d.saStateIn pr [4, 7], 0xA106)] } (fun d => (some 0, d.retireSa pr)) d

/-- UNLOAD: RESIDENT to PROVISIONED or, once used, RETIRED; BAD to RETIRED. -/
def unloadSa (d : Device) (pr : Nat) : Device :=
  if d.rd O.SA_STATE pr = 7 then d.retireBad pr
  else (d.freeSaSlot pr).setSaState pr (if (d.rd O.SA_FLAGS pr).testBit 3 then 6 else 1)

def saUnloadCore (r : Req) (pr : Nat) (d : Device) : Nat × Device :=
  runCmd r O.SA_CMD pr { Conds.none with s6 := [(!d.saStateIn pr [2, 7], 0xA106)] } (fun d => (some 0, d.unloadSa pr)) d

/-- RELEASE: record and statistics are zeroed. -/
def releaseSa (d : Device) (pr : Nat) : Device :=
  let w := d.writeRec pr SaRec.empty
  ((w.2.setRec pr SaRec.empty).clearStats pr).setSaState pr 0

def saReleaseCore (r : Req) (pr : Nat) (d : Device) : Nat × Device :=
  runCmd r O.SA_CMD pr { Conds.none with s6 := [(!d.saStateIn pr [1, 6], 0xA106)] } (fun d => (some 0, d.releaseSa pr)) d

/-! ### Draining (R195, R219, R227) -/

/-- The slots of a row that no state of it needs any more: those of an earlier life, and those it kept for frames. -/
def slotsLeft (d : Device) (pr : Nat) : List Nat :=
  (d.slotsOf pr).filter (fun k => !d.slotInFlight pr k && (d.rd O.SA_SLOT pr != k || d.saStateIn pr [0, 1, 6]))

/-- The last frame that needs the SA has finished: a RETIRING SA is RETIRED, slots that waited for it are zeroed and freed,
and a receive SA whose CANCEL waited for it is RESIDENT. -/
def saDrained (pr : Nat) (d : Device) : Device :=
  let d := (d.slotsLeft pr).foldl (freeSlotOf pr) d
  let st := d.rd O.SA_STATE pr
  if d.saInFlight pr ∨ d.rd O.SA_SLOT pr = 0xFFFFFFFF then d
  else if st = 5 then (d.freeSaSlot pr).setSaState pr 6
  else if st = 3 ∧ (d.saGun pr).isNone then (d.setSaState pr 2).refreshSc (pr / 4)
  else d

end Device

def execSaProvision (r : Req) (pr : Nat) (s : State) := s.on (fun d => d.direct r fun d => d.saProvisionCore r pr)
def execSaLoad (r : Req) (pr : Nat) (s : State) := s.on (fun d => d.direct r fun d => d.saLoadCore r pr)
def execSaArm (r : Req) (pr : Nat) (s : State) := s.on (fun d => d.direct r fun d => d.saArmCore r pr)
def execSaCancel (r : Req) (pr : Nat) (s : State) := s.on (fun d => d.direct r fun d => d.saCancelCore r pr)
def execSaRetire (r : Req) (pr : Nat) (s : State) := s.on (fun d => d.direct r fun d => d.saRetireCore r pr)
def execSaUnload (r : Req) (pr : Nat) (s : State) := s.on (fun d => d.direct r fun d => d.saUnloadCore r pr)
def execSaRelease (r : Req) (pr : Nat) (s : State) := s.on (fun d => d.direct r fun d => d.saReleaseCore r pr)
def execSaDrained (pr : Nat) (s : State) := s.on (Device.saDrained pr)

end Sys2Proof.Machine
end

