-- ==== Sys2Proof/Machine/Vault.lean ====
section
/-!
DEFINITION. The commands and events of the key store (R283 to R300): import, derivation, zeroization, the scrubber, and the
entropy source with its DRBG.
-/
namespace Sys2Proof.Machine
namespace Device

/-- The conditions of every VAULT_CMD: not in SAFE after FATAL (R299). -/
def vaultConds (d : Device) (s4 s6 s7 : List (Bool × Nat)) : Conds :=
  { Conds.none with
    s4 := (d.mode == .safe && d.rdB O.FLT_FATAL_SINCE_BOOT, 0xA303) :: s4
    s6 := s6
    s7 := s7 }

/-- The slot that VAULT_ARG_KEY of session row `s` names. -/
def argSlot (d : Device) (s : Nat) : Option Nat := d.slotOf (d.rd O.VAULT_ARG_KEY s)

/-! ### IMPORT (R294) -/

/-- The 40 bytes of an import plaintext obey its table. -/
def importOk (p : Bytes) : Bool :=
  let flags := leNat (slice 2 1 p)
  let uses := leNat (slice 4 4 p)
  p.length == 40 && leNat (slice 0 1 p) == 1 && decide (1 ≤ leNat (slice 1 1 p) ∧ leNat (slice 1 1 p) ≤ 5) &&
  decide (flags < 4) && leNat (slice 3 1 p) == 0 && (flags.testBit 1 == (uses != 0)) &&
  (flags.testBit 0 || leNat (slice 24 16 p) == 0)

/-- Store an imported key and hand out its handle. -/
def importStore (d : Device) (s k : Nat) (p : Bytes) : Device :=
  let d := d.fillSlot k (slice 8 32 p) (if (leNat (slice 2 1 p)).testBit 0 then 256 else 128) 1 (leNat (slice 1 1 p))
    (leNat (slice 4 4 p)) 4 0
  d.wr O.VAULT_RESULT_HANDLE s (d.rd O.VAULT_HANDLE k)

/-- The steps of IMPORT in order. -/
def importKey (d : Device) (s : Nat) : Nat × Device :=
  let u := d.kekUnwrap (d.rd O.VAULT_ARG_KEY s) (leBytes 48 (d.rd O.VAULT_ARG_BLOB s))
  if u.1.1 ≠ 0 then (u.1.1, u.2)
  else if ¬ importOk u.1.2 then (0xA106, u.2)
  else u.2.freeSlot.elim (0xA206, u.2) (fun k => (0, u.2.importStore s k u.1.2))

def vaultImportCore (r : Req) (s : Nat) (d : Device) : Nat × Device :=
  runCmd r O.VAULT_CMD s (d.vaultConds [] [] []) (fun d =>
    let x := fatalResult (d.rdB O.FLT_FATAL_SINCE_BOOT) (d.importKey s)
    (some x.1, x.2.wrCmd O.VAULT_ARG_BLOB s 0)) d

/-! ### DERIVE (R285, R292, R293) -/

/-- The label: the bytes before the first zero byte. -/
def argLabel (d : Device) (s : Nat) : Bytes := (leBytes 32 (d.rd O.VAULT_ARG_LABEL s)).takeWhile (· != 0#8)

/-- The labels the device uses itself, and those that begin with its own mark (R292). -/
def labelReserved (l : Bytes) : Bool :=
  ["SEALING-ROOT", "TENANT", "HOLLOTH-SESSION", "NYMLOS-SEED"].any (fun t => asciiBytes t == l) ||
  l.take 6 == asciiBytes "EHRUC-"

/-- A parent of purpose `p` may derive a key of purpose `t` (R285). -/
def deriveOk (p t : Nat) : Bool :=
  (p == 0x11 && (decide (1 ≤ t ∧ t ≤ 5) || t == 0x13)) || (p == 0x12 && t == 3) ||
  (p == 0x13 && ((decide (1 ≤ t ∧ t ≤ 5) && t != 3) || t == 0x13))

/-- Level and purpose of the target agree (R293). -/
def levelOk (level t : Nat) : Bool := if level = 2 then t == 0x13 else decide (t < 0x10)

/-- The arguments of DERIVE that R293 refuses with 0xA101. -/
def deriveArgsBad (d : Device) (s : Nat) : Bool :=
  let l := d.argLabel s
  let bits := d.rd O.VAULT_ARG_KEY_BITS s
  (d.argSlot s).isNone || l.isEmpty || labelReserved l ||
  (d.rd O.VAULT_ARG_LEVEL s == 2 && (d.rd O.VAULT_ARG_USES s != 0 || bits != 256)) || (bits != 128 && bits != 256)

/-- Parent and target do not match (R285, R293). -/
def deriveMismatch (d : Device) (s : Nat) : Bool :=
  (d.argSlot s).elim false (fun k =>
    d.rd O.VAULT_LEVEL k != 2 || !deriveOk (d.rd O.VAULT_PURPOSE k) (d.rd O.VAULT_ARG_PURPOSE s) ||
    !levelOk (d.rd O.VAULT_ARG_LEVEL s) (d.rd O.VAULT_ARG_PURPOSE s))

/-- Derive from slot `p` into slot `k`. -/
def deriveInto (d : Device) (s p k : Nat) : Nat × Device :=
  let u := d.slotUse p
  if u.1 ≠ 0 then u else
  let d := u.2
  let bits := d.rd O.VAULT_ARG_KEY_BITS s
  let key := kdf (d.keyBytes p) (d.argLabel s) (leBytes (d.rd O.VAULT_ARG_CONTEXT_LEN s) (d.rd O.VAULT_ARG_CONTEXT s)) (bits / 8)
  let d := d.fillSlot k key bits (d.rd O.VAULT_ARG_LEVEL s) (d.rd O.VAULT_ARG_PURPOSE s) (d.rd O.VAULT_ARG_USES s) 3 p
  (0, d.wr O.VAULT_RESULT_HANDLE s (d.rd O.VAULT_HANDLE k))

def vaultDeriveCore (r : Req) (s : Nat) (d : Device) : Nat × Device :=
  let bad := (d.argSlot s).elim false (fun k => d.rd O.VAULT_STATE k != 1)
  runCmd r O.VAULT_CMD s
    (d.vaultConds [] [(d.deriveArgsBad s, 0xA101)]
      [(d.freeSlot.isNone, 0xA206), (d.deriveMismatch s, 0xA403), (bad, 0xA404)])
    (fun d => (d.argSlot s).elim (some 0xA101, d) (fun p => d.freeSlot.elim (some 0xA206, d) (fun k =>
      let x := d.deriveInto s p k
      (some x.1, x.2)))) d

/-! ### DERIVE_SUCCESSOR (R296) -/

/-- Derive the successor sealing root into slot 3. -/
def deriveSlot3 (d : Device) (m : Nat) : Nat × Device :=
  let u := d.slotUse 1
  if u.1 ≠ 0 then u else
  (0, u.2.fillSlot 3 (kdf (u.2.keyBytes 1) (asciiBytes "SEALING-ROOT") (leBytes 32 m) 32) 256 2 0x12 0 5 1)

def deriveSuccessorCore (r : Req) (s : Nat) (d : Device) : Nat × Device :=
  runCmd r O.VAULT_CMD s
    (d.vaultConds [(d.successorM.isNone, 0xA303)] [(d.rd O.VAULT_STATE 1 == 0, 0xA101)] [(d.rd O.VAULT_STATE 3 == 1, 0xA201)])
    (fun d => d.successorM.elim (some 0xA303, d) (fun m =>
      let x := d.deriveSlot3 m
      (some x.1, x.2))) d

/-! ### Zeroization (R297) -/

/-- A zeroization of row `s` has been done: it reports completion now, or after the jobs that `uses` selects (R300). -/
def afterJobs (d : Device) (s : Nat) (all : Bool) (uses : LaJob → Bool) : Option Nat × Device :=
  let l := (d.la.jobs.filter uses).map LaJob.ring
  if l = [] then (some 0, if all then d.closeSessions 1 52 else d)
  else (none, d.setLa { d.la with zeroing := d.la.zeroing ++ [(s, all, l)] })

def zeroizeSlotCore (r : Req) (s : Nat) (d : Device) : Nat × Device :=
  runCmd r O.VAULT_CMD s
    (d.vaultConds [] [((d.argSlot s).isNone, 0xA101)] [((d.argSlot s).elim false (fun k => decide (k < 3)), 0xA403)])
    (fun d => (d.argSlot s).elim (some 0, d) (fun k =>
      (d.zeroSlot k).afterJobs s false (fun j => j.slot == k))) d

/-- The SA rows of the SCs of a CA. -/
def tenantSas (d : Device) (ca : Nat) : List Nat := d.saRows.filter (fun pr => d.rd O.SC_CA (pr / 4) == ca)

def zeroizeTenantCore (r : Req) (s : Nat) (d : Device) : Nat × Device :=
  runCmd r O.VAULT_CMD s (d.vaultConds [] [] [])
    (fun d => (some 0, (d.tenantSas (d.rd O.VAULT_ARG_CA s)).foldl zeroSa d)) d

/-- ZEROIZE_ALL: the result word is written first, then every session closes with its keys. -/
def zeroizeAllCore (r : Req) (s : Nat) (d : Device) : Nat × Device :=
  runCmd r O.VAULT_CMD s (d.vaultConds [] [] []) (fun d => d.zeroKeys.afterJobs s true (fun _ => true)) d

/-! ### The scrubber (R291) -/

/-- The resident slots that hold a context. -/
def residentSlots (d : Device) : List Nat :=
  (d.dict.filter (fun e => e.1 / 2 ^ 24 == O.SA_SLOT && e.2 != 0xFFFFFFFF)).map (fun e => e.2)

/-- The place of a target in the scrubber's round: vault slots, then resident slots. -/
def scrubPos (t : ScrubTarget) : Nat := match t with | .vault k => k | .context k => 1024 + k

/-- The places of everything a round visits now. -/
def scrubPlaces (d : Device) : List Nat :=
  (d.vaultRows.filter (fun k => d.rd O.VAULT_STATE k == 1)) ++ (d.residentSlots.map (1024 + ·))

/-- Slice cycles of a pass. -/
def scrubPeriod (d : Device) : Nat := msCycles (d.rd O.VAULT_SCRUB_MS)

/-- The cycle at which the pass comes to place `p`: its visits are spread evenly over the period. -/
def scrubCycle (d : Device) (p : Nat) : Nat :=
  d.keys.scrubFrom + (d.scrubPlaces.filter (fun q => decide (q < p))).length * d.scrubPeriod / max 1 d.scrubPlaces.length

/-- The round goes on after place `p`; past its last place a pass is complete. -/
def scrubMove (d : Device) (p : Nat) : Device :=
  if d.scrubPlaces.any (fun q => decide (p < q)) then d.setKeys { d.keys with scrubAt := p + 1 }
  else (d.setKeys { d.keys with scrubAt := 0, scrubFrom := d.keys.scrubFrom + d.scrubPeriod }).inc64 O.VAULT_SCRUB_PASSES

/-- Place `p` is the next one of the pass. -/
def scrubNext (d : Device) (p : Nat) : Bool :=
  d.scrubPlaces.contains p && decide (d.keys.scrubAt ≤ p) &&
  d.scrubPlaces.all (fun q => !(decide (d.keys.scrubAt ≤ q) && decide (q < p)))

/-- A visit verifies one check code; `ok` says that the words read without an uncorrectable error. -/
def vaultScrubVisit (t : ScrubTarget) (ok : Bool) (d : Device) : Device :=
  let p := scrubPos t
  if ¬ d.clockOn ∨ ¬ d.scrubNext p then d else
  let d := d.passTo (d.scrubCycle p)
  let d' := d.scrubMove p
  match t with
  | .vault k => if ok && d.vaultGood k then d' else d'.vaultFails k
  | .context k => if ok && d.ctxGood k then d' else d'.ctxFails k

/-! ### Entropy source and DRBG (R297, R298) -/

/-- The DRBG is reseeded: a second after the last time, or after 2²⁰ generate requests. -/
def drbgReseed (d : Device) : Device :=
  if d.rd O.DRBG_STATE ≠ 1 then d else
  let d := if 2 ^ 20 ≤ d.keys.requests then d else d.passTo (d.keys.reseedAt + msCycles 1000)
  d.seeded.inc64 O.DRBG_RESEEDS

/-- A continuous test fails: the source restarts. -/
def entropyTestFail (d : Device) : Device :=
  if d.rd O.DRBG_STATE ≠ 1 then d else
  let d := (d.inc32 O.ENTROPY_TEST_FAILS).wr O.DRBG_STATE 0 2
  (d.setKeys { d.keys with entropyFails := 0, restartBy := d.cyc + msCycles 1000 }).fault 0x202 0x0E00 2 []

/-- A start-up test fails; the third in a row is SEVERE and leaves the DRBG FAILED until the next BOOT. -/
def startupFail (d : Device) : Device :=
  let n := d.keys.entropyFails + 1
  let d := (d.setKeys { d.keys with entropyFails := n }).inc32 O.ENTROPY_TEST_FAILS
  if n = 3 then (d.wr O.DRBG_STATE 0 3).fault 0x202 0x0E00 3 [] else d

/-- The start-up tests after a restart of the source end. -/
def entropyRestartDone (passed : Bool) (d : Device) : Device :=
  if d.rd O.DRBG_STATE ≠ 2 then d
  else if passed then (d.setKeys { d.keys with entropyFails := 0 }).wr O.DRBG_STATE 0 1 else d.startupFail

/-- After FATAL the DRBG is instantiated again, with its start-up tests. -/
def drbgReinstantiate (passed : Bool) (d : Device) : Device :=
  if ¬ d.rdB O.FLT_FATAL_SINCE_BOOT ∨ d.rd O.DRBG_STATE ≠ 0 ∨ d.mode = .boot then d
  else if passed then ((d.setKeys { d.keys with entropyFails := 0 }).wr O.DRBG_STATE 0 1).seeded else d.startupFail

end Device

def execVaultImport (r : Req) (row : Nat) (s : State) := s.on (fun d => d.direct r fun d => d.vaultImportCore r row)
def execVaultDerive (r : Req) (row : Nat) (s : State) := s.on (fun d => d.direct r fun d => d.vaultDeriveCore r row)
def execDeriveSuccessor (r : Req) (row : Nat) (s : State) := s.on (fun d => d.direct r fun d => d.deriveSuccessorCore r row)
def execZeroizeSlot (r : Req) (row : Nat) (s : State) := s.on (fun d => d.direct r fun d => d.zeroizeSlotCore r row)
def execZeroizeTenant (r : Req) (row : Nat) (s : State) := s.on (fun d => d.direct r fun d => d.zeroizeTenantCore r row)
def execZeroizeAll (r : Req) (row : Nat) (s : State) := s.on (fun d => d.direct r fun d => d.zeroizeAllCore r row)
def execVaultScrubVisit (t : ScrubTarget) (ok : Bool) (s : State) := s.on (Device.vaultScrubVisit t ok)
def execDrbgReseed (s : State) := s.on Device.drbgReseed
def execEntropyTestFail (s : State) := s.on Device.entropyTestFail
def execEntropyRestartDone (passed : Bool) (s : State) := s.on (Device.entropyRestartDone passed)
def execDrbgReinstantiate (passed : Bool) (s : State) := s.on (Device.drbgReinstantiate passed)

end Sys2Proof.Machine
end

