-- ==== Sys2Proof/Machine/Lookaside.lean ====
section
/-!
DEFINITION. The lookaside cipher engine (R301 to R311): taking a job from a ring, its checks in order, yielding a context, and
completing with the result of its mode.
-/
namespace Sys2Proof.Machine

/-! ### Modes (R306) -/

/-- CBC encryption of whole blocks. -/
def cbcEnc (key iv : Bytes) (bs : List Bytes) : Bytes :=
  (bs.foldl (fun (x : Bytes × Bytes) b => let c := aesEnc key (xorBytes x.1 b); (c, x.2 ++ c)) (iv, [])).2

/-- CBC decryption of whole blocks. -/
def cbcDec (key iv : Bytes) (bs : List Bytes) : Bytes :=
  (bs.foldl (fun (x : Bytes × Bytes) b => (b, x.2 ++ xorBytes x.1 (aesDec key b))) (iv, [])).2

/-- CTR with a 32-bit big-endian counter at the end of the block; a partial block takes the leading keystream bytes. -/
def ctrCrypt (key ctr p : Bytes) : Bytes :=
  let c0 := beNat (slice 12 4 ctr)
  ((chunks 16 p).zipIdx.map (fun e => xorBytes e.1 (aesEnc key (ctr.take 12 ++ beBytes 4 (c0 + e.2))))).flatten

/-- CFB-128 in either direction. -/
def cfbCrypt (key iv p : Bytes) (dec : Bool) : Bytes :=
  ((chunks 16 p).foldl (fun (x : Bytes × Bytes) b =>
    let o := xorBytes b (aesEnc key x.1)
    (if dec then b else o, x.2 ++ o)) (iv, [])).2

/-- The padding appended to a source of `n` bytes (R306). -/
def padBytes (pad n : Nat) : Bytes :=
  let k := 16 - n % 16
  if pad = 1 then List.replicate k (BitVec.ofNat 8 k)
  else if pad = 2 then 0x80#8 :: List.replicate (k - 1) 0#8 else []

/-- The plaintext without its padding; nothing where the padding is bad. -/
def unpad (pad : Nat) (p : Bytes) : Option Bytes :=
  let last := p.drop (p.length - 16)
  if pad = 0 then some p
  else if pad = 1 then
    let k := ((last.getLast?).getD 0#8).toNat
    if 1 ≤ k ∧ k ≤ 16 ∧ (last.drop (16 - k)).all (fun b => b.toNat == k) then some (p.take (p.length - k)) else none
  else
    let z := (last.reverse.takeWhile (· == 0#8)).length
    if (last.reverse.drop z).head? = some 0x80#8 then some (p.take (p.length - z - 1)) else none

/-- What a job writes: the destination bytes, the tag it generates, and whether its authentication failed (R308). -/
structure LaResult where
  out : Bytes
  tag : Bytes
  bad : Bool
deriving DecidableEq, Repr

/-- The result of a job (R306, R308). -/
def laResult (j : LaJob) : LaResult :=
  let iv := j.params.iv
  let want := j.params.tag.take j.params.tagLen
  match j.mode with
  | 1 =>
    if j.op = 0 then ⟨cbcEnc j.key iv (chunks 16 (j.src ++ padBytes j.pad j.src.length)), [], false⟩
    else
      let p := cbcDec j.key iv (chunks 16 j.src)
      (unpad j.pad p).elim ⟨p.take (p.length - 16), [], true⟩ (fun q => ⟨q, [], false⟩)
  | 2 => ⟨ctrCrypt j.key iv j.src, [], false⟩
  | 3 => ⟨cfbCrypt j.key iv j.src (j.op == 1), [], false⟩
  | 4 =>
    let g := gcm j.key (iv.take 12) j.aad j.src (j.op == 1)
    if j.op = 0 then ⟨g.1, g.2.take j.params.tagLen, false⟩
    else if g.2.take j.params.tagLen = want then ⟨g.1, [], false⟩
    else ⟨List.replicate j.src.length 0#8, [], true⟩
  | 5 =>
    let t := (cmac j.key j.src).take j.params.tagLen
    if j.op = 0 then ⟨[], t, false⟩ else ⟨[], [], t != want⟩
  | _ =>
    if j.op = 0 then ⟨kwWrap j.key j.src, [], false⟩
    else (kwUnwrap j.key j.src).elim ⟨[], [], true⟩ (fun q => ⟨q, [], false⟩)

/-! ### The fields of a descriptor (R304) -/

def laParamsAddr (x : Descriptor) : Nat := leNat (slice 0 8 x.kind)
def laHandle (x : Descriptor) : Nat := leNat (slice 8 4 x.kind)
def laMode (x : Descriptor) : Nat := leNat (slice 12 1 x.kind) % 16
def laOp (x : Descriptor) : Nat := leNat (slice 12 1 x.kind) / 16
def laPad (x : Descriptor) : Nat := leNat (slice 13 1 x.kind)

/-- The purpose that permits a mode (R306). -/
def laPurpose (mode : Nat) : Nat := if mode = 5 then 5 else if mode = 6 then 3 else 4

/-- The destination length of a job (R306), before any padding is removed. -/
def laOutLen (mode op pad n : Nat) : Nat :=
  if mode = 5 then 0 else if mode = 6 then (if op = 0 then n + 8 else n - 8)
  else if mode = 1 ∧ op = 0 ∧ pad ≠ 0 then n + 16 - n % 16 else n

/-- Lengths and addresses break R305 or R306 (order 6 of R309). -/
def laLengthBad (x : Descriptor) (p : LaParams) : Bool :=
  let m := laMode x
  let op := laOp x
  let n := x.length
  let out := laOutLen m op (laPad x) n
  (if m = 4 then decide (65536 < p.aadLen) || decide (p.tagLen < 12 ∨ 16 < p.tagLen)
   else if m = 5 then p.aadLen != 0 || decide (p.tagLen < 4 ∨ 16 < p.tagLen) || p.dst != 0
   else p.aadLen != 0 || p.tagLen != 0) ||
  (m == 1 && (op == 1 || laPad x == 0) && n % 16 != 0) ||
  (m == 6 && (n % 8 != 0 || decide (n < 16 + 8 * op ∨ 524280 + 8 * op < n))) ||
  (m != 5 && p.dst != x.address && decide (p.dst < x.address + n) && decide (x.address < p.dst + out))

/-- The counter of a CTR job would pass its limit (R306). -/
def laCtrBad (x : Descriptor) (p : LaParams) : Bool :=
  laMode x == 2 && decide (2 ^ 32 < (if p.ivSource = 1 then 1 else beNat (slice 12 4 p.iv)) + ceilDiv x.length 16)

/-- The iv_source is one that R307 forbids, or the counter would pass its limit (order 7). -/
def laIvBad (x : Descriptor) (p : LaParams) : Bool :=
  decide (1 < p.ivSource) || (laMode x == 4 && laOp x == 0 && p.ivSource != 1) ||
  (p.ivSource == 1 && (laOp x == 1 || laMode x == 5 || laMode x == 6)) || laCtrBad x p

namespace Device

/-! ### Contexts (R301) -/

/-- Jobs that hold a context. -/
def laBusy (d : Device) : Nat := (d.la.jobs.filter (fun j => !j.yielded)).length

/-- Store the jobs and show how many contexts are in use. -/
def setJobs (d : Device) (l : List LaJob) : Device :=
  let d := d.setLa { d.la with jobs := l }
  d.wr O.LA_CONTEXTS_BUSY 0 d.laBusy

def setLaLast (d : Device) (n : Nat) : Device := d.setLa { d.la with last := n }

/-- The job of ring `n`. -/
def jobOf (d : Device) (n : Nat) : Option LaJob := d.la.jobs.find? (fun j => j.ring == n)

/-- Ring `n` waits for a context: its job has yielded, or it has a ready descriptor and no job. -/
def laWaits (d : Device) (n : Nat) : Bool :=
  (d.jobOf n).elim (d.rd O.RING_KIND n == 3 && d.ringReady n) (fun j => j.yielded)

/-- The next ring of the rotation that waits. -/
def laNext (d : Device) : Option Nat := ((List.range 64).map (fun k => (d.la.last + 1 + k) % 64)).find? d.laWaits

/-- The contexts of core `c` that are in use. -/
def laOn (d : Device) (c : Nat) : Nat := (d.la.jobs.filter (fun j => j.core == c && !j.yielded)).length

/-- The core whose context is given away next: the one with fewer in use (DESIGN CHOICE, log entry 42). -/
def laCore (d : Device) : Nat := if d.laOn 0 ≤ d.laOn 1 then 0 else 1

/-- A context is free: the next ring of the rotation takes it when its job had yielded; a new job is taken by the command
LOOKASIDE_JOB_START. -/
def laRotate (d : Device) : Device :=
  if 32 ≤ d.laBusy then d else
  match d.laNext with
  | none => d
  | some n =>
    if (d.jobOf n).isNone then d else
    (d.setLaLast n).setJobs (d.la.jobs.map (fun j => if j.ring = n then { j with yielded := false, core := d.laCore } else j))

/-- A KW job waits for its core's KW area, which an earlier one of the core has (R303). -/
def kwWaits (d : Device) (j : LaJob) : Bool :=
  j.mode == 6 && ((d.la.jobs.filter (fun i => i.mode == 6 && i.core == j.core)).head?).elim false (fun i => i.ring != j.ring)

/-! ### Checks (R309) -/

/-- The kind bytes of a completion with detail `e` (R304). -/
def laKind (x : Descriptor) (e : Nat) : Bytes := (fit 16 x.kind).take 14 ++ leBytes 2 e

/-- Orders 1 to 4 of R309: 0, or the detail. -/
def laCheckA (d : Device) (n : Nat) (x : Descriptor) (p : LaParams) : Nat :=
  let role := (d.openRow (d.rd O.RING_SESSION n)).elim 0 (fun row => d.rd O.SESSION_ROLE row)
  firstFail
    [(p.readError, 0x000A),
     (laMode x == 0 || decide (6 < laMode x) || decide (1 < laOp x) || decide (2 < laPad x) || p.reserved != 0 ||
       (laPad x != 0 && laMode x != 1), 0x0004),
     ((d.slotOf (laHandle x)).isNone, 0x0001),
     ((d.slotOf (laHandle x)).elim false (fun k =>
       d.rd O.VAULT_PURPOSE k != laPurpose (laMode x) || (d.rd O.VAULT_PURPOSE k == 3 && role != 1)), 0x0002)]

/-- Orders 6 to 9 for slot `k`. -/
def laCheckB (d : Device) (k : Nat) (x : Descriptor) (p : LaParams) : Nat :=
  firstFail
    [(laLengthBad x p, 0x0005), (laIvBad x p, 0x0006),
     (p.ivSource == 1 && d.rd O.DRBG_STATE != 1, 0x0008),
     (p.ivSource == 1 && decide (2 ^ 32 ≤ d.rd O.LA_RANDOM_IV_JOBS k), 0x0007)]

/-- The IV of the job: the host's, or drawn from the DRBG (R307). -/
def laIv (d : Device) (x : Descriptor) (p : LaParams) : Bytes × Device :=
  if p.ivSource ≠ 1 then (fit 16 p.iv, d)
  else if laMode x = 1 ∨ laMode x = 3 then (leBytes 16 (d.drawBytes 16).1, (d.drawBytes 16).2)
  else (leBytes 12 (d.drawBytes 12).1 ++ (if laMode x = 2 then beBytes 4 1 else beBytes 4 0), (d.drawBytes 12).2)

/-- An accepted job takes its use and its context. -/
def laAccept (d : Device) (n k core : Nat) (x : Descriptor) (p : LaParams) (src aad : Bytes) : Device :=
  let key := d.keyBytes k
  let d := (d.takeUse k).inc64 O.LA_JOBS
  let d := if p.ivSource = 1 then d.inc64 O.LA_RANDOM_IV_JOBS k else d
  if x.pcieError then d.dmaComplete n 3 0 (laKind x 0) else
  let v := d.laIv x p
  let j : LaJob := ⟨n, core, k, key, laMode x, laOp x, laPad x, x.address, fit 16 x.kind, { p with iv := v.1 }, fit x.length src, aad.take p.aadLen, 0, false⟩
  (v.2.setJobs (v.2.la.jobs ++ [j])).dmaTake n 0

/-- A descriptor that has been taken is checked in the order of R309, and accepted or completed. -/
def laTake (d : Device) (n : Nat) (x : Descriptor) (p : LaParams) (src aad : Bytes) : Device :=
  let e := d.descCheck n x
  if e ≠ 0 then d.dmaComplete n e 0 (fit 16 x.kind) else
  let a := d.laCheckA n x p
  if a ≠ 0 then d.dmaComplete n 4 0 (laKind x a) else
  (d.slotOf (laHandle x)).elim d (fun k =>
    let u := d.slotUse k
    if u.1 ≠ 0 then u.2.dmaComplete n 4 0 (laKind x 0x0003) else
    let b := u.2.laCheckB k x p
    if b ≠ 0 then u.2.dmaComplete n 4 0 (laKind x b) else u.2.laAccept n k u.2.laCore x p src aad)

/-- The next descriptor of lookaside ring `n` is taken, and the rotation goes on. -/
def lookasideJobStart (n : Nat) (x : Descriptor) (p : LaParams) (src aad : Bytes) (d : Device) : Device :=
  if d.mode = .reset ∨ 64 ≤ n ∨ 32 ≤ d.laBusy ∨ d.laNext ≠ some n ∨ (d.jobOf n).isSome then d else
  (((d.dmaAdvance n).setLaLast n).laTake n x p src aad).laRotate

/-! ### Progress and completion (R301, R304, R308) -/

/-- `n` source bytes of a job of ring `ring` have been processed (R310, event 0x47). -/
def laProcessed (d : Device) (ring n : Nat) : Device :=
  let role := (d.openRow (d.rd O.RING_SESSION ring)).elim 0 (fun row => d.rd O.SESSION_ROLE row)
  (d.add64 O.LA_BYTES 0 n).pmcHub 0x47 n (passRoleOnly role)

/-- The job of ring `n` has used its time slice while other rings wait: it yields its context. -/
def lookasideSliceYield (n : Nat) (d : Device) : Device :=
  let k := 1024 * d.rd O.LA_SLICE_KIB
  match d.jobOf n with
  | none => d
  | some j =>
    if j.yielded ∨ j.mode = 6 ∨ j.src.length ≤ j.done + k ∨ ¬ (List.range 64).any (fun m => m != n && d.laWaits m) then d else
    let d := d.setJobs (d.la.jobs.map (fun i => if i.ring = n then { i with done := i.done + k, yielded := true } else i))
    (d.laProcessed n k).laRotate

/-- Write the destination, and the parameter fields that the device writes back. -/
def laWrite (d : Device) (j : LaJob) (res : LaResult) (kind : Bytes) : Device :=
  let d := if res.out = [] then d else d.emit (.hostWrite j.ring j.params.dst res.out (leBytes 4 res.out.length ++ kind))
  let a := leNat (slice 0 8 j.kind)
  let d := if j.params.ivSource = 1 then d.emit (.hostWrite j.ring (a + 24) j.params.iv []) else d
  if res.tag = [] then d else d.emit (.hostWrite j.ring (a + 40) res.tag [])

/-- Job `j` is done: its result is written and its descriptor completed. How far an error of the host port lets the destination be
written is a free value (R309; log entry 42). -/
def laEnd (d : Device) (j : LaJob) (pcieError : Bool) : Device :=
  let kind := fun e => j.kind.take 14 ++ leBytes 2 e
  let res := laResult j
  if pcieError then d.unstated.2.dmaFinish j.ring 0 4 (d.unstated.1 % (res.out.length + 1)) (kind 0x000A)
  else if res.bad then ((d.inc64 O.LA_AUTH_FAILS).laWrite j res (kind 0x0009)).dmaFinish j.ring 0 4 res.out.length (kind 0x0009)
  else (d.laWrite j res (kind 0)).dmaFinish j.ring 0 0 res.out.length (kind 0)

/-- The job of ring `n` ends. -/
def lookasideJobComplete (n : Nat) (pcieError : Bool) (d : Device) : Device :=
  match d.jobOf n with
  | none => d
  | some j =>
    if j.yielded ∨ d.kwWaits j then d else
    ((((d.setJobs (d.la.jobs.filter (fun i => i.ring != n))).laProcessed n (j.src.length - j.done)).laEnd j pcieError).jobGone n).laRotate

end Device

def execLookasideJobStart (n : Nat) (x : Descriptor) (p : LaParams) (src aad : Bytes) (s : State) :=
  s.on (Device.lookasideJobStart n x p src aad)
def execLookasideSliceYield (n : Nat) (s : State) := s.on (Device.lookasideSliceYield n)
def execLookasideJobComplete (n : Nat) (pcieError : Bool) (s : State) := s.on (Device.lookasideJobComplete n pcieError)

end Sys2Proof.Machine
end

