-- ==== Sys2Proof/Machine/Classifier.lean ====
section
/-!
DEFINITION. The classification table (R233 to R243): keys and buckets, the cache, lookups, the insert engine, the staging
rows of the owner, receive-SC entries, and the aging scan. An entry is held once, with the result a cached copy shows beside it
where its bits differ; a cache frame records that they do, so that it is written back when it is replaced (R237).
-/
namespace Sys2Proof.Machine

/-! ### Fields of keys and results (R233, R235) -/

def keyProfile (k : Nat) : Nat := bits k 188 4
def keyNoport (k : Nat) : Bool := k.testBit 183
def keyPort (k : Nat) : Nat := bits k 176 6
def keyReserved (k : Nat) : Bool := bits k 184 4 != 0 || k.testBit 182

/-- A key of profile `pf`: the port when it is included, and 22 data bytes. -/
def makeKey (pf : Nat) (port : Option Nat) (data : Nat) : Nat :=
  pf * 2 ^ 188 + (port.elim (2 ^ 183) (fun p => p % 64 * 2 ^ 176)) + data % 2 ^ 176

/-- The learned-address key of profile 14 (R234, R244). -/
def learnKey (vid mac : Nat) : Nat := makeKey 14 none (vid % 4096 * 2 ^ 160 + mac % 2 ^ 48 * 2 ^ 112)

/-- The receive-SCI key of profile 15 (R234). -/
def sciKey (port sci : Nat) : Nat := makeKey 15 (some port) (sci % 2 ^ 64 * 2 ^ 112)

def resValid (r : Nat) : Bool := r.testBit 63
def resPolicy (r : Nat) : Nat := bits r 61 2
def resPunt (r : Nat) : Bool := r.testBit 60
def resKind (r : Nat) : Nat := bits r 58 2
def resHit (r : Nat) : Bool := r.testBit 57
def resClass (r : Nat) : Nat := bits r 54 3
def resEgress (r : Nat) : Nat := bits r 48 6
def resSc (r : Nat) : Nat := bits r 32 16
def resCa (r : Nat) : Nat := bits r 18 14
def resStamp (r : Nat) : Nat := bits r 0 16

/-- A valid result of policy protect (R240, R244). -/
def protectResult (kind cls egress sc ca stamp : Nat) : Nat :=
  2 ^ 63 + kind % 4 * 2 ^ 58 + cls % 8 * 2 ^ 54 + egress % 64 * 2 ^ 48 + sc % 65536 * 2 ^ 32 + ca % 16384 * 2 ^ 18 + stamp % 65536

/-- A result with its hit bit and stamp replaced. -/
def withHit (r : Nat) (hit : Bool) : Nat := setBit r 57 hit
def withStamp (r stamp : Nat) : Nat := r - resStamp r + stamp % 65536

/-- The entry is learned. -/
def ClsEnt.learned (e : ClsEnt) : Bool := resValid e.result && resKind e.result == 1

namespace Device

/-! ### Buckets and ways (R235, R236) -/

/-- The two candidate buckets of a key (R236). -/
def candidates (d : Device) (key : Nat) : Nat × Nat :=
  let seed := d.rd O.CLS_SEED
  let i0 := crcFrom 0x82F63B78 (seed % 2 ^ 32) (beBytes 24 key) * d.buckets / 2 ^ 32
  let i1 := crcFrom 0xEDB88320 (seed / 2 ^ 32) (beBytes 24 key) * d.buckets / 2 ^ 32
  (i0, if i1 = i0 then (i0 + 1) % d.buckets else i1)

/-- The other candidate bucket of a key that lies in bucket `b`. -/
def otherBucket (d : Device) (key b : Nat) : Nat := if (d.candidates key).1 = b then (d.candidates key).2 else (d.candidates key).1

/-- The entry at table position `pos`. -/
def way (d : Device) (pos : Nat) : ClsEnt := Sparse.get (fun _ => ClsEnt.empty) d.clsx.table pos

/-- Cache frames. -/
def cacheFrames : Nat := 131072

/-- Bucket `b` is cached. -/
def cachedBucket (d : Device) (b : Nat) : Bool := natAt d.clsx.cache (b % cacheFrames) / 2 == b + 1

/-- The result that the cached copy of position `pos` shows. -/
def shownResult (d : Device) (pos : Nat) : Nat :=
  if natAt d.clsx.shown pos = 0 then (d.way pos).result else natAt d.clsx.shown pos

/-- The entry at a position as the engines and lookups see it: the cached copy where there is one. -/
def wayNow (d : Device) (pos : Nat) : ClsEnt := { d.way pos with result := d.shownResult pos }

/-- The positions of a bucket. -/
def waysOf (b : Nat) : List Nat := [4 * b, 4 * b + 1, 4 * b + 2, 4 * b + 3]

/-- The lowest free way of a bucket. -/
def freeWay (d : Device) (b : Nat) : Option Nat := (waysOf b).find? (fun p => !resValid (d.way p).result)

/-- The way of bucket `b` that holds `key`. -/
def wayWith (d : Device) (key b : Nat) : Option Nat :=
  (waysOf b).find? (fun p => resValid (d.way p).result && (d.way p).key == key)

/-- The way that holds `key`. -/
def findKey (d : Device) (key : Nat) : Option Nat :=
  (d.wayWith key (d.candidates key).1).or (d.wayWith key (d.candidates key).2)

/-- The protected lines of a bucket and of a way (R235). -/
def wayLine (pos : Nat) : Nat := pos / 2

/-! ### Counts of entries (R243, R245) -/

/-- The learned count of a (line port, CA) pair. -/
def pairCount (d : Device) (port ca : Nat) : Nat := natAt d.clsx.counts (port * 16384 + ca)
def setPairCount (d : Device) (port ca n : Nat) : Device :=
  d.setCls { d.clsx with counts := natPut d.clsx.counts (port * 16384 + ca) n }

/-- An entry joins the table, or leaves it. -/
def countEntry (e : ClsEnt) (d : Device) : Device :=
  if ¬ resValid e.result then d else
  let d := d.wr O.CLS_ENTRIES 0 (d.rd O.CLS_ENTRIES + 1)
  if ¬ e.learned then d else
  (d.setPairCount e.port (resCa e.result) (d.pairCount e.port (resCa e.result) + 1)).wr O.LEARN_ENTRIES (resCa e.result)
    (d.rd O.LEARN_ENTRIES (resCa e.result) + 1)
def uncountEntry (e : ClsEnt) (d : Device) : Device :=
  if ¬ resValid e.result then d else
  let d := d.wr O.CLS_ENTRIES 0 (d.rd O.CLS_ENTRIES - 1)
  if ¬ e.learned then d else
  (d.setPairCount e.port (resCa e.result) (d.pairCount e.port (resCa e.result) - 1)).wr O.LEARN_ENTRIES (resCa e.result)
    (d.rd O.LEARN_ENTRIES (resCa e.result) - 1)

def setTable (d : Device) (l : List (Nat × ClsEnt)) : Device := d.setCls { d.clsx with table := l }

/-- Put an entry at a position, with the counts. -/
def setWay (d : Device) (pos : Nat) (e : ClsEnt) : Device :=
  let d := countEntry e (uncountEntry (d.way pos) d)
  d.setTable (Sparse.put (fun _ => ClsEnt.empty) d.clsx.table pos e)

/-- Replace the result bits of an entry, which changes no count. -/
def setBits (d : Device) (pos result : Nat) : Device :=
  d.setTable (Sparse.put (fun _ => ClsEnt.empty) d.clsx.table pos { d.way pos with result := result })

/-! ### The cache (R237) -/

def setCacheFrame (d : Device) (f v : Nat) : Device := d.setCls { d.clsx with cache := natPut d.clsx.cache f v }

/-- The cached copy of bucket `b` has changed bits. -/
def markDirty (d : Device) (b : Nat) : Device :=
  if d.cachedBucket b then d.setCacheFrame (b % cacheFrames) (2 * (b + 1) + 1) else d

/-- Position `pos` shows result `r` in the cached copy: 0 leaves it as the external copy has it. -/
def setShown (d : Device) (pos r : Nat) : Device := d.setCls { d.clsx with shown := natPut d.clsx.shown pos r }

/-- The external copy of a position takes what the cached copy shows. -/
def syncWay (d : Device) (pos : Nat) : Device :=
  if natAt d.clsx.shown pos = 0 then d else (d.setBits pos (d.shownResult pos)).setShown pos 0

/-- Write line `l` of the table in full, with the bits its cached copy shows. -/
def writeLineBits (d : Device) (l : Nat) : Device :=
  let w := d.fullLine l
  if w.1 then (w.2.syncWay (2 * l)).syncWay (2 * l + 1) else w.2

/-- Write back the two lines of bucket `b`. -/
def writeBucket (d : Device) (b : Nat) : Device := (d.writeLineBits (2 * b)).writeLineBits (2 * b + 1)

/-- The cached copy of bucket `b` is gone, and what it alone showed with it. -/
def hideBucket (d : Device) (b : Nat) : Device := (waysOf b).foldl (fun d p => d.setShown p 0) d

/-- Cache frame `f` holds nothing any more, without a write-back. -/
def dropFrame (d : Device) (f : Nat) : Device :=
  let v := natAt d.clsx.cache f
  if v = 0 then d else (d.hideBucket (v / 2 - 1)).setCacheFrame f 0

/-- Fill bucket `b` into its frame; a replaced frame whose bits have changed is written back first. A frame that SRAM
withholds is never filled (R406). -/
def fillBucket (d : Device) (b : Nat) : Device :=
  let f := b % cacheFrames
  let v := natAt d.clsx.cache f
  if d.sram.frames.contains f ∨ v / 2 = b + 1 then d else
  let d := if v % 2 = 1 then d.writeBucket (v / 2 - 1) else d
  (d.dropFrame f).setCacheFrame f (2 * (b + 1))

/-- Change an entry's bits: in the cached copy, or in the external bucket. -/
def touchBits (d : Device) (pos result : Nat) : Device :=
  if d.shownResult pos = result then d else
  if d.cachedBucket (pos / 4) then (d.setShown pos result).markDirty (pos / 4)
  else
    let w := d.fullLine (wayLine pos)
    if w.1 then w.2.setBits pos result else w.2

/-- Look `key` up in the cache only: a position, none when it is absent, and nothing when the read is a miss. -/
def probe (d : Device) (key : Nat) : Option (Option Nat) :=
  let c := d.candidates key
  let hit := (if d.cachedBucket c.1 then d.wayWith key c.1 else none).or
    (if d.cachedBucket c.2 then d.wayWith key c.2 else none)
  match hit with
  | some p => some (some p)
  | none => if d.cachedBucket c.1 && d.cachedBucket c.2 then some none else none

/-- Lookup units of external work at bucket `b` (R252). -/
def lookupUnits (d : Device) (b n : Nat) : Device := d.pmcHub 0x43 n (passAddr (128 * b))

/-- The lookup of a frame (R237): the result when it hits, with its hit bit set; none when it is absent; nothing on a
miss, which goes to external memory when the frame can be parked. -/
def lookup (d : Device) (key : Nat) : Option (Option Nat) × Device :=
  match d.probe key with
  | some (some p) =>
    (some (some (d.shownResult p)), (d.inc64 O.CLS_CACHE_HITS).touchBits p (withHit (d.shownResult p) true))
  | some none => (some none, d.inc64 O.CLS_CACHE_HITS)
  | none => (none, d)

/-- Both lines of bucket `b` verify. -/
def readBucket (d : Device) (b : Nat) : Bool × Device :=
  let x := d.readLine (2 * b)
  let y := x.2.readLine (2 * b + 1)
  (x.1 && y.1, y.2)

/-- The external read of a missed lookup (R237): both buckets as external memory holds them. -/
def readLookup (d : Device) (key : Nat) : LookupRead × Device :=
  let x := d.readBucket (d.candidates key).1
  let y := x.2.readBucket (d.candidates key).2
  (⟨x.1 && y.1, (y.2.findKey key).map (fun p => (y.2.way p).result), []⟩, y.2)

/-- Bucket `b` is filled from a read that no write has overtaken. -/
def fillRead (d : Device) (x : LookupRead) (b : Nat) : Device := if x.stale.contains b then d else d.fillBucket b

/-- An entry that an external read matched shows its hit bit, if no write has overtaken the read. -/
def hitKey (d : Device) (x : LookupRead) (key : Nat) : Device :=
  ((d.findKey key).filter (fun p => !x.stale.contains (p / 4))).elim d (fun p => d.touchBits p (withHit (d.shownResult p) true))

/-- The external read of a missed lookup returns (R157, R237): the result that was read, or none when nothing matched or MEM
reports an error. Both buckets are filled, i0 last, so that it is the one kept when they share a frame. -/
def lookupReturn (d : Device) (key : Nat) (x : LookupRead) : Option Nat × Device :=
  if ¬ x.ok then (none, d) else
  let d := (d.fillRead x (d.candidates key).2).fillRead x (d.candidates key).1
  (x.result, if x.result.isSome then d.hitKey x key else d)

/-! ### The insert engine (R241, R242) -/

/-- The element of a list that a random number chooses. -/
def pick (l : List Nat) (n : Nat) : Option Nat := l[n % l.length]?

/-- The engine reads bucket `b`: its cached copy, or external memory. -/
def engineRead (d : Device) (b : Nat) : Bool × Device := if d.cachedBucket b then (true, d) else d.readBucket b

/-- The engine reads both buckets of a key: the cached copies, or external memory. -/
def engineReads (d : Device) (key : Nat) : Bool × Device :=
  let x := d.engineRead (d.candidates key).1
  let y := x.2.engineRead (d.candidates key).2
  (x.1 && y.1, y.2)

/-- The ways of `b` whose entry's other candidate bucket is not `prev`; all four when there is none. -/
def allowedWays (d : Device) (b : Nat) (prev : Option Nat) : List Nat :=
  let l := (waysOf b).filter (fun p => some (d.otherBucket (d.way p).key b) != prev)
  if l.isEmpty then waysOf b else l

/-- The random walk of R241 from bucket `b`: the positions to move and the bucket each moves to, first step first. -/
def walk : Nat → Nat → Option Nat → List (Nat × Nat) → Device → Option (List (Nat × Nat)) × Device
  | 0, _, _, _, d => (none, d)
  | k + 1, b, prev, path, d =>
    match pick (d.allowedWays b prev) d.draw.1 with
    | none => (none, d)
    | some p =>
      let a := d.otherBucket (d.way p).key b
      let x := d.draw.2.engineRead a
      if ¬ x.1 then (none, x.2)
      else if (x.2.freeWay a).isSome then (some (path ++ [(p, a)]), x.2)
      else walk k a (some b) (path ++ [(p, a)]) x.2

/-- PHC seconds mod 65,536. -/
def now16 (d : Device) : Nat := d.phcSecond % 65536

/-- The learned entry that makes room: a random one, or the one with the oldest stamp. -/
def victim (d : Device) (c : Nat × Nat) : Option Nat × Device :=
  let l := (waysOf c.1 ++ waysOf c.2).filter (fun p => (d.way p).learned)
  if d.rd O.CLS_EVICT = 0 then (pick l d.draw.1, d.draw.2)
  else
    let age := fun p => (d.now16 + 65536 - resStamp (d.shownResult p)) % 65536
    (l.foldl (fun (best : Option Nat) p => match best with
      | none => some p
      | some q => if age q < age p then some p else some q) none, d)

/-- Where the key goes (R241): the moves that come first, and the position that is written. The search reads the table
and changes nothing in it. -/
def plan (d : Device) (key : Nat) : Option (List (Nat × Nat) × Nat) × Device :=
  let c := d.candidates key
  let y := d.engineReads key
  let d := y.2
  if ¬ y.1 then (none, d) else
  match (d.findKey key).or ((d.freeWay c.1).or (d.freeWay c.2)) with
  | some p => (some ([], p), d)
  | none =>
    let w := d.walk 8 c.1 none []
    match w.1 with
    | some path => (path.head?.map (fun e => (path, e.1)), w.2)
    | none => let v := w.2.victim c
              (v.1.map (fun p => ([], p)), v.2)

/-- The search finds a way (R239, R240). -/
def placeable (d : Device) (key : Nat) : Bool := (d.plan key).1.isSome

/-- A lookup's read of bucket `b` has been overtaken by a write (R237). -/
def staleRead (b : Nat) (f : Frame) : Frame :=
  { f with read := f.read.map (fun x => { x with stale := b :: x.stale }) }

/-- Reads of bucket `b` that have been granted and not returned are overtaken. -/
def staleReads (d : Device) (b : Nat) : Device :=
  d.setPipe { d.pipe with frames := d.pipe.frames.map (fun f => if f.read.isSome then staleRead b f else f) }

/-- Write an entry: the external line in full, with what the cached copy shows of its other way, then the table and the cached copy.
False when the line is read-only (R334). -/
def writeWay (d : Device) (pos : Nat) (e : ClsEnt) : Bool × Device :=
  let w := d.fullLine (wayLine pos)
  if w.1 then
    let l := wayLine pos
    (true, ((((w.2.syncWay (2 * l)).syncWay (2 * l + 1)).setWay pos e).setShown pos 0).staleReads (pos / 4))
  else (false, w.2)

/-- Delete the entry at a position. -/
def deleteWay (d : Device) (pos : Nat) : Device := (d.writeWay pos ClsEnt.empty).2

/-- Move an entry: copied to a free way of bucket `a`, then deleted where it was. -/
def moveEntry (ok : Bool × Device) (m : Nat × Nat) : Bool × Device :=
  let d := ok.2
  if ¬ ok.1 then ok else
  match d.freeWay m.2 with
  | none => (false, d)
  | some q =>
    let w := d.writeWay q (d.wayNow m.1)
    if ¬ w.1 then w else
    let d := (w.2.inc64 O.CLS_MOVES).lookupUnits (m.1 / 4) 2
    d.writeWay m.1 ClsEnt.empty

/-- The planned position holds a learned entry of another key: it is evicted. -/
def evictAt (d : Device) (pos key : Nat) : Device :=
  if (d.way pos).learned ∧ (d.way pos).key ≠ key then d.inc64 O.CLS_EVICTIONS else d

/-- Insert or rewrite an entry by R241: false when no way was found. -/
def insert (d : Device) (e : ClsEnt) : Bool × Device :=
  let x := d.plan e.key
  match x.1 with
  | none => (false, x.2)
  | some t =>
    let m := t.1.reverse.foldl moveEntry (true, x.2)
    if ¬ m.1 then m else
    let d := (m.2.evictAt t.2 e.key).lookupUnits (m.2.candidates e.key).1 3
    let w := d.writeWay t.2 e
    if w.1 then (true, w.2.inc64 O.CLS_INSERTS) else w

/-- Serve one WRITE: its command ends. -/
def serveJob (d : Device) (j : InsJob) : Device :=
  let x := d.insert ⟨j.key, j.result, 0⟩
  x.2.endCmd O.CLS_CMD j.row (if x.1 then 0 else 0xA206)

def setInserts (d : Device) (l : List InsJob) : Device := d.setCls { d.clsx with jobs := l }

/-- Serve every WRITE that waits, before work that has arrived later. -/
def drainJobs (d : Device) : Device := d.clsx.jobs.foldl serveJob (d.setInserts [])

/-- The insert engine has placed the key of the WRITE it serves. -/
def insertEngineDone (d : Device) : Device :=
  match d.clsx.jobs with
  | [] => d
  | j :: r => (d.setInserts r).serveJob j

/-! ### Staging rows (R239) -/

/-- The key of a staging row, in network order. -/
def clsKey (d : Device) (s : Nat) : Nat := beNat (leBytes 24 (d.rd O.CLS_KEY s))

/-- The result that WRITE stores: hit and stamp are 0. -/
def clsStatic (d : Device) (s : Nat) : Nat := withStamp (withHit (d.rd O.CLS_RESULT s) false) 0

/-- A transmit SC named by an entry that fails R175. -/
def badSc (d : Device) (sc egress ca : Nat) : Bool :=
  d.rd O.SC_DIR sc == 1 && (d.rd O.SC_PORT sc != egress || d.rd O.SC_CA sc != ca)

def clsWriteCore (r : Req) (s : Nat) (d : Device) : Nat × Device :=
  let key := d.clsKey s
  let res := d.rd O.CLS_RESULT s
  let p := keyPort key
  let eg := resEgress res
  let withPort := !keyNoport key
  runCmd r O.CLS_CMD s
    { Conds.none with
      s1 := [((withPort && !d.laneOk p) || !d.laneOk eg || decide (d.numCas ≤ resCa res) || decide (d.numScs ≤ resSc res), 0xA105)]
      s6 := [(keyProfile key == 15 || resKind res != 0 || !resValid res || resPolicy res == 3 || keyReserved key || bits res 16 2 != 0, 0xA101),
             ((withPort && isLine eg == isLine p) ||
              (resPolicy res == 0 && ((withPort && isLine p) || d.badSc (resSc res) eg (resCa res))), 0xA106),
             (withPort && sliceOfPort eg != sliceOfPort p, 0xA107)]
      s7 := [(!d.placeable key, 0xA206)] }
    (fun d => (none, d.setInserts (d.clsx.jobs ++ [⟨s, key, d.clsStatic s⟩]))) d

/-- DELETE: a static or learned entry goes. A bucket that does not verify ends it with 0xA404 (DESIGN CHOICE, log entry 41). -/
def clsDelete (d : Device) (s : Nat) : Nat × Device :=
  let x := d.drainJobs.engineReads (d.clsKey s)
  if ¬ x.1 then (0xA404, x.2) else
  match x.2.findKey (d.clsKey s) with
  | none => (0, x.2.wr O.CLS_FOUND s 0)
  | some p => (0, (x.2.deleteWay p).wr O.CLS_FOUND s 1)

def clsDeleteCore (r : Req) (s : Nat) (d : Device) : Nat × Device :=
  let kind2 := (d.findKey (d.clsKey s)).elim false (fun p => resKind (d.way p).result == 2)
  runCmd r O.CLS_CMD s { Conds.none with s6 := [(kind2, 0xA106)] } (fun d => (some (d.clsDelete s).1, (d.clsDelete s).2)) d

/-- READ. -/
def clsRead (d : Device) (s : Nat) : Nat × Device :=
  let x := d.engineReads (d.clsKey s)
  if ¬ x.1 then (0xA404, x.2) else
  match x.2.findKey (d.clsKey s) with
  | none => (0, x.2.wr O.CLS_FOUND s 0)
  | some p => (0, (x.2.wr O.CLS_FOUND s 1).wrCmd O.CLS_RESULT s (x.2.shownResult p))

def clsReadCore (r : Req) (s : Nat) (d : Device) : Nat × Device :=
  runCmd r O.CLS_CMD s Conds.none (fun d => (some (d.clsRead s).1, (d.clsRead s).2)) d

/-! ### Receive-SC entries (R240) -/

/-- An SCI in network order. -/
def sciOf (d : Device) (sc : Nat) : Nat := beNat (leBytes 8 (d.rd O.SC_SCI sc))

/-- The objects of a receive SC are complete. -/
def rxscComplete (d : Device) (sc : Nat) : Bool :=
  d.rd O.SC_DIR sc == 2 && d.rd O.SC_PORT sc != 0xFFFF && d.rd O.SC_SCI sc != 0 && d.rd O.RXSC_HOST_PORT sc != 0xFFFF

/-- The key of a receive SC. -/
def rxscKey (d : Device) (sc : Nat) : Nat := sciKey (d.rd O.SC_PORT sc) (d.sciOf sc)

/-- The entry of a receive SC. -/
def rxscEnt (d : Device) (sc : Nat) : ClsEnt :=
  ⟨d.rxscKey sc, protectResult 2 (d.rd O.RXSC_CLASS sc) (d.rd O.RXSC_HOST_PORT sc) sc (d.rd O.SC_CA sc) 0, 0⟩

/-- The key the installed entry of `sc` has. -/
def rxscInstalled (d : Device) (sc : Nat) : Option Nat := if d.rdB O.RXSC_ENTRY sc then some (d.rxscKey sc) else none

/-- Delete the entry with `key`, if one stands. -/
def deleteKey (d : Device) (key : Nat) : Device := (d.findKey key).elim d d.deleteWay

/-- The objects of `sc` have changed; `old` is the key its installed entry has. The entry is inserted, rewritten or deleted. -/
def rxscMaintain (old : Option Nat) (sc : Nat) (d : Device) : Device :=
  let d := d.drainJobs
  if d.rxscComplete sc then
    let x := d.insert (d.rxscEnt sc)
    let d := old.elim x.2 (fun k => if k = d.rxscKey sc then x.2 else x.2.deleteKey k)
    d.wr O.RXSC_ENTRY sc (boolNat x.1)
  else (old.elim d d.deleteKey).wr O.RXSC_ENTRY sc 0

/-! ### Aging (R243) -/

/-- One learned entry is visited. -/
def agePos (d : Device) (pos : Nat) : Device :=
  let e := d.wayNow pos
  if ¬ e.learned then d else
  let diff := ofTwos 16 (d.now16 + 65536 - resStamp e.result)
  if resHit e.result then d.touchBits pos (withStamp (withHit e.result false) d.now16)
  else if diff < 0 then d.touchBits pos (withStamp e.result d.now16)
  else if d.rd O.CLS_AGE_S ≠ 0 ∧ (d.rd O.CLS_AGE_S : Int) ≤ diff then (d.deleteWay pos).inc64 O.CLS_AGED
  else d

/-- The next visit of bucket `b`, counted over all passes of the scan. -/
def nextVisit (d : Device) (b : Nat) : Nat :=
  let s := d.clsx.scan
  s + (b + d.buckets - s % d.buckets) % d.buckets

/-- No learned entry is visited before bucket `b`. -/
def visitNext (d : Device) (b : Nat) : Bool :=
  d.clsx.table.all (fun e => !e.2.learned || decide (d.nextVisit b ≤ d.nextVisit (e.1 / 4)))

/-- The cycle of visit `v`: buckets are spread evenly over each second of the slice cycle count. -/
def visitCycle (d : Device) (v : Nat) : Nat := v * 1250000000 / d.buckets

def setScan (d : Device) (n : Nat) : Device := d.setCls { d.clsx with scan := n }

/-- A rehash runs: aging is suspended (R331). -/
def rehashing (d : Device) : Bool := d.mem.retiring.isSome && !d.mem.switched

/-- The aging scan visits bucket `b`: its cached copy, or the external bucket, which a failing read leaves unvisited. Buckets that
hold no learned entry may be passed over. -/
def agingScanVisit (b : Nat) (d : Device) : Device :=
  if ¬ d.clockOn ∨ d.buckets ≤ b ∨ d.rehashing ∨ ¬ d.visitNext b then d else
  let v := d.nextVisit b
  let d := (d.passTo (d.visitCycle v)).setScan (v + 1)
  let x := d.engineRead b
  if x.1 then (waysOf b).foldl agePos x.2 else x.2

end Device

def execClsWrite (r : Req) (w : Nat) (s : State) := s.on (fun d => d.direct r fun d => d.clsWriteCore r w)
def execClsDelete (r : Req) (w : Nat) (s : State) := s.on (fun d => d.direct r fun d => d.clsDeleteCore r w)
def execClsRead (r : Req) (w : Nat) (s : State) := s.on (fun d => d.direct r fun d => d.clsReadCore r w)
def execInsertEngineDone (s : State) := s.on Device.insertEngineDone
def execAgingScanVisit (b : Nat) (s : State) := s.on (Device.agingScanVisit b)

end Sys2Proof.Machine
end

