-- ==== Sys2Proof/Machine/Learning.lean ====
section
/-!
DEFINITION. Learning and the Peer Link (R143, R244 to R250): what a frame's learn key decides, the batons, the learn engine,
messages of other devices, and what a device does with a GUN message.
-/
namespace Sys2Proof.Machine
namespace Device

/-! ### The disposition of a learning frame (R244, R245) -/

/-- The VID of the first clear tag (0 when there is none), and the source address. -/
def frameVid (f : Frame) : Nat := if f.clear = 0 then 0 else beNat (slice 14 2 f.data) % 4096
def frameMac (f : Frame) : Nat := beNat (slice 6 6 f.data)
def frameLearnKey (f : Frame) : Nat := learnKey (frameVid f) (frameMac f)

/-- LEARN_OVERFLOW of the CA applies: whether the frame goes on. -/
def learnOverflow (d : Device) (ca : Nat) : Bool × Device :=
  if d.rd O.LEARN_OVERFLOW ca = 0 then (false, d.inc64 O.LEARN_OVERFLOW_DROPS ca) else (true, d.inc64 O.LEARN_UNPINNED ca)

/-- What the cache says of the learn key of a frame at D3 (R245): its entry's result, absent, or not cached. -/
def learnProbe (d : Device) (f : Frame) : Option (Option Nat) :=
  (d.probe (frameLearnKey f)).map (fun p => p.map (fun q => d.shownResult q))

/-- The entry of the frame's learn key shows its hit bit, if it still stands in the cache. -/
def learnHit (d : Device) (f : Frame) : Device :=
  ((d.probe (frameLearnKey f)).bind id).elim d (fun p => d.touchBits p (withHit (d.shownResult p) true))

/-- What the cache said of the learn key of frame `f` at D3 decides at D4 (R245): whether the frame goes on, and the move flag of
the baton that its commit sends. -/
def learnDecide (d : Device) (f : Frame) : (Bool × Option Nat) × Device :=
  if ¬ d.rdB O.RXSC_LEARN f.sc then ((true, none), d) else
  let ca := d.rd O.SC_CA f.sc
  let drop := fun (x : Bool × Device) => ((x.1, (none : Option Nat)), x.2)
  match f.learnSeen with
  | none => ((true, some 0), d)
  | some none =>
    if d.pairCount (d.rd O.SC_PORT f.sc) ca < d.rd O.LEARN_LIMIT ca then ((true, some 0), d) else drop (d.learnOverflow ca)
  | some (some r) =>
    if resCa r = ca then
      if resKind r ≠ 1 then ((true, none), d)
      else if resSc r = d.rd O.RXSC_RETURN_SC f.sc then ((true, none), d.learnHit f)
      else ((true, some 1), d)
    else if resKind r = 1 ∧ d.rdB O.LEARN_MOVE (resCa r) then ((true, some 1), d)
    else drop ((d.inc64 O.LEARN_CONFLICTS ca).learnOverflow ca)

/-! ### Batons (R247, R248) -/

/-- The baton of a committed frame (R247); `time` is the TIME96 of its receive timestamp. -/
def batonOf (d : Device) (f : Frame) (move : Nat) : Bytes :=
  leBytes 1 1 ++ leBytes 1 move ++ leBytes 2 (d.rd O.SC_CA f.sc) ++ leBytes 2 (frameVid f) ++ beBytes 6 (frameMac f) ++
  leBytes 12 (timeOf f.stamp) ++ leBytes 1 (d.rd O.RING_POSITION) ++ leBytes 1 f.slice ++ leBytes 2 f.port ++ leBytes 4 f.sc

def batonCa (b : Bytes) : Nat := leNat (slice 2 2 b)
def batonKey (b : Bytes) : Nat := learnKey (leNat (slice 4 2 b)) (beNat (slice 6 6 b))
def batonSeconds (b : Bytes) : Nat := bits (leNat (slice 12 12 b)) 48 48
def batonOrigin (b : Bytes) : Nat := leNat (slice 24 1 b)
def batonSc (b : Bytes) : Nat := leNat (slice 28 4 b)

/-- Two batons that are coalesced into one (R246): the same key, CA and sc, of the same origin. -/
def sameBaton (x y : Bool × Bytes) : Bool :=
  x.1 == y.1 && batonKey x.2 == batonKey y.2 && batonCa x.2 == batonCa y.2 && batonSc x.2 == batonSc y.2 && batonOrigin x.2 == batonOrigin y.2

def setBatons (d : Device) (l : List (Bool × Bytes)) : Device := d.setCls { d.clsx with batons := l }

/-- A baton arrives at the learn engine's queue; one of another op is discarded (R247). In DRAIN none is sent, and those of other
devices are discarded (R83). -/
def queueBaton (d : Device) (b : Bool × Bytes) : Device :=
  if leNat (slice 0 1 b.2) ≠ 1 ∨ d.mode = .drain ∨ d.clsx.batons.any (sameBaton b) then d
  else if 4096 ≤ d.clsx.batons.length then d.inc64 O.LEARN_BATON_DROPS
  else d.setBatons (d.clsx.batons ++ [b])

/-- A verified frame commits what it learned (R188, R245). -/
def learnCommit (d : Device) (f : Frame) : Device := f.learn.elim d (fun m => d.queueBaton (false, d.batonOf f m))

/-! ### The learn engine (R246) -/

/-- A baton leaves its address unbound. -/
def unpinned (d : Device) (ca : Nat) : Device := d.inc64 O.LEARN_UNPINNED ca

/-- The learn engine inserts the entry of a baton; the baton goes on over the Peer Link. -/
def learnInsert (d : Device) (b : Bytes) (ret port : Nat) : Device :=
  let ca := batonCa b
  let x := d.insert ⟨batonKey b, protectResult 1 (d.rd O.RXSC_CLASS (batonSc b)) (d.rd O.SC_PORT ret) ret ca (batonSeconds b), port⟩
  if ¬ x.1 then x.2.inc64 O.CLS_INSERT_FAILS
  else if x.2.rdB O.PEER_SEND_BATONS then x.2.peerSend 1 1 b else x.2

/-- A local baton is checked against the table as it stands (R246); where a bucket does not verify, nothing is inserted, as when no way
is found (DESIGN CHOICE, log entry 41). -/
def learnLocal (d : Device) (b : Bytes) : Device :=
  let ca := batonCa b
  let sc := batonSc b
  let ret := d.rd O.RXSC_RETURN_SC sc
  let port := d.rd O.SC_PORT sc
  if ret = 0xFFFFFFFF then d.unpinned ca else
  let full := decide (d.rd O.LEARN_LIMIT ca ≤ d.pairCount port ca)
  let x := d.engineReads (batonKey b)
  let d := x.2
  if ¬ x.1 then d.inc64 O.CLS_INSERT_FAILS else
  match (d.findKey (batonKey b)).map d.wayNow with
  | none => if full then d.unpinned ca else d.learnInsert b ret port
  | some e =>
    let r := e.result
    if resKind r ≠ 1 then (if resCa r = ca then d else (d.inc64 O.LEARN_CONFLICTS ca).unpinned ca)
    else if resCa r = ca ∧ resSc r = ret then d
    else if resCa r ≠ ca ∧ ¬ d.rdB O.LEARN_MOVE (resCa r) then (d.inc64 O.LEARN_CONFLICTS ca).unpinned ca
    else if ¬ (e.port = port ∧ resCa r = ca) ∧ full then d.unpinned ca
    else d.learnInsert b ret port

/-- A baton of the Peer Link removes a local learned entry, or claims its address (R250). -/
def learnPeer (d : Device) (b : Bytes) : Device :=
  let d := if (d.probe (batonKey b)).isNone then d.lookupUnits (d.candidates (batonKey b)).1 1 else d
  let x := d.engineReads (batonKey b)
  let d := x.2
  if ¬ x.1 then d else
  match d.findKey (batonKey b) with
  | none => d
  | some p =>
    let r := d.shownResult p
    if resKind r ≠ 1 then d else
    let diff := ofTwos 16 (batonSeconds b % 65536 + 65536 - resStamp r)
    let newer := decide (0 < diff) || (diff == 0 && decide (batonOrigin b < d.rd O.RING_POSITION))
    if newer ∧ (resCa r = batonCa b ∨ d.rdB O.LEARN_MOVE (resCa r)) then (d.deleteWay p).inc64 O.PEER_MOVED_AWAY
    else if resCa r ≠ batonCa b then d.inc64 O.LEARN_CONFLICTS (resCa r)
    else d

/-- The learn engine takes the oldest baton, after the inserts that arrived before it. -/
def batonProcess (d : Device) : Device :=
  match d.clsx.batons with
  | [] => d
  | b :: r =>
    let d := ((d.setBatons r).pmcHub 0x48 1 passAll).drainJobs
    if d.mode = .drain then d
    else if b.1 then d.learnPeer b.2 else d.learnLocal b.2

/-- LEARN_FLUSH: every learned entry of the CA goes. -/
def flushLearned (d : Device) (ca : Nat) : Device :=
  let d := d.drainJobs
  (d.clsx.table.filter (fun e => e.2.learned && resCa e.2.result == ca)).foldl (fun d e => d.deleteWay e.1) d

def learnFlushCore (r : Req) (ca : Nat) (d : Device) : Nat × Device :=
  runCmd r O.LEARN_FLUSH ca Conds.none (fun d => (some 0, d.flushLearned ca)) d

/-! ### GUN messages received (R143) -/

/-- The own ARMED or ISSUED entry of the same code and tag whose gun time differs from the message's. -/
def gunMismatch (d : Device) (v : Bytes) : Option Nat :=
  (List.range 1024).find? (fun e => d.gunLive e && d.rd O.GUN_OWNER e == leNat (slice 1 1 v) &&
    d.rd O.GUN_TAG e == leNat (slice 8 4 v) && d.rd O.GUN_TIME e != leNat (slice 12 12 v))

/-- The payload of an accepted GUN message: an ARMED one is compared with the own entries; nothing is armed or cancelled. -/
def gunHeard (d : Device) (v : Bytes) : Device :=
  if d.mode = .reset ∨ v.length ≠ 36 ∨ leNat (slice 0 1 v) ≠ 1 ∨ leNat (slice 8 4 v) = 0 then d else
  (d.gunMismatch v).elim d (fun e => (d.inc32 O.GUN_PEER_MISMATCH).note 0x204 0x0B00 (leBytes 4 e))

/-- A GUN message of the ring master in open session row `row`: its tag and its counter are checked as those of a REQUEST
(R66); it counts among the master's messages of the session (DESIGN CHOICE, log entry 30). -/
def gunTagged (d : Device) (m : RingMsg) (row : Nat) : Device :=
  let last := d.rd O.SESSION_LAST_COUNTER row
  if ¬ ringTagged m ∨ m.tag ≠ ringTag m (d.ksOf row) then d.inc64 O.RING_TAG_ERRORS
  else if last = 0xFFFFFFFF ∧ m.counter = 0 then d.closeSession row
  else if m.counter ≠ last + 1 then d.inc64 O.RING_REPLAY_DROPS
  else
    let d := (d.wr O.SESSION_LAST_COUNTER row m.counter).setSess row { d.sessOf row with cache := [] }
    d.gunHeard m.payload

/-- A GUN message on the ring for this device. One that names no open ring session has no key its tag could hold under (R60).
A message that is no GUN message for this device is handled as what it is. -/
def gunMessageRx (m : RingMsg) (d : Device) : Device :=
  if ¬ d.inRing ∨ ¬ d.forMe m ∨ m.type ≠ 8 then d.ringArrive m else
  let c := d.ringAccept m
  if ¬ c.1 then c.2 else
  (c.2.sessionRow ⟨.ring, m.session⟩).elim (c.2.inc64 O.RING_TAG_ERRORS) (c.2.gunTagged m)

/-! ### The Peer Link (R249) -/

/-- A message's CRC and tag hold under `key`. -/
def peerGood (key : Bytes) (m : PeerMsg) : Bool :=
  m.crc == crc32 (peerCovered m ++ beBytes 8 m.tag) && m.tag == beNat ((cmac key (peerCovered m)).take 8)

/-- The message is of the device's own origin, or its sequence is not later than the last one accepted from its origin. -/
def peerStale (d : Device) (m : PeerMsg) : Bool :=
  let last := natAt d.clsx.peerLast m.origin
  m.origin == d.rd O.RING_POSITION ||
  (last != 0 && decide (ofTwos 32 (m.sequence + 2 ^ 32 - (last - 1)) ≤ 0))

def setPeerLast (d : Device) (origin seq : Nat) : Device :=
  d.setCls { d.clsx with peerLast := natPut d.clsx.peerLast origin (seq + 1) }

/-- Forward an accepted message on the other lane with one hop less; hops are under the tag, so it is sealed again. -/
def peerForward (d : Device) (key : Bytes) (lane : Nat) (m : PeerMsg) : Device :=
  if 1 < m.hops ∧ (d.rd O.PEER_ENABLE).testBit (1 - lane) ∧ d.rd O.RING_POSITION ≠ 0xFE
  then d.emit (.peer (1 - lane) (peerSeal key { m with hops := m.hops - 1 })) else d

/-- An accepted message is used: its batons are queued, or its GUN payload is compared. -/
def peerUse (d : Device) (m : PeerMsg) : Device :=
  if m.type = 1 then ((chunks 32 m.payload).take m.count).foldl (fun d b => d.queueBaton (true, b)) d
  else if m.type = 8 then d.gunHeard m.payload
  else d

/-- A message arrives on a lane. -/
def peerMessageRx (lane : Nat) (m : PeerMsg) (d : Device) : Device :=
  if d.mode = .reset ∨ 2 ≤ lane ∨ ¬ (d.rd O.PEER_ENABLE).testBit lane then d else
  d.peerKey.elim d (fun key =>
    if ¬ peerGood key m then d.inc64 O.PEER_RX_ERRORS
    else if d.peerStale m then d.inc64 O.PEER_RX_DUPLICATES
    else (((d.inc64 O.PEER_RX_MESSAGES).setPeerLast m.origin m.sequence).peerForward key lane m).peerUse m)

/-- A lane gains or loses block lock. -/
def peerBlockLock (lane : Nat) (locked : Bool) (d : Device) : Device :=
  if d.mode = .reset ∨ 2 ≤ lane then d else d.wrBit O.PEER_SYNC 0 lane locked

end Device

def execBatonProcess (s : State) := s.on Device.batonProcess
def execLearnFlush (r : Req) (ca : Nat) (s : State) := s.on (fun d => d.direct r fun d => d.learnFlushCore r ca)
def execGunMessageRx (m : RingMsg) (s : State) := s.on (Device.gunMessageRx m)
def execPeerMessageRx (lane : Nat) (m : PeerMsg) (s : State) := s.on (Device.peerMessageRx lane m)
def execPeerBlockLock (lane : Nat) (locked : Bool) (s : State) := s.on (Device.peerBlockLock lane locked)

end Sys2Proof.Machine
end

