-- ==== Sys2Proof/Machine/MemEngine.lean ====
section
/-!
DEFINITION. The protection engine (R23, R313 to R329): what a line holds, its ciphertext and tag, verified reads, full-line and
partial writes, the scrubber, and the arbitration of memory requests.
-/
namespace Sys2Proof.Machine

/-- The content regions of R314, and what is left of the offsets. -/
inductive Region where
  | table | saRecords | stats | laps | log | scratch | unassigned
deriving DecidableEq, Repr

/-- The region of a protected offset (R314). -/
def regionOf (o : Nat) : Region :=
  if o < 0x04000000 then .table else if o < 0x06000000 then .saRecords else if o < 0x07000000 then .stats else
  if o < 0x0EE00000 then .laps else if o < 0x0F200000 then .log else if o < 0x0F600000 then .scratch else .unassigned

/-- The range lies within one line. -/
def inLine (o n : Nat) : Bool := decide (o % 64 + n ≤ 64)

namespace Device

/-- Memory holds protected content: it is initialized before STAGE (R321), and its keys stand (R339). -/
def memReady (d : Device) : Bool := d.mode != .reset && d.mode != .boot && !d.mem.zeroed

/-! ### What a line holds -/

/-- The 32 bytes of a way (R235). -/
def wayBytes (d : Device) (pos : Nat) : Bytes := beBytes 24 (d.way pos).key ++ leBytes 8 (d.way pos).result

/-- The statistics record of an SA row (R193). -/
def statRecord (d : Device) (pr : Nat) : Bytes :=
  ([O.SA_STAT_PKTS, O.SA_STAT_OCTETS, O.SA_STAT_PKTS_ENCRYPTED, O.SA_STAT_NOT_VALID, O.SA_STAT_COMMIT_LATE,
    O.SA_STAT_TX_LOST].map (fun o => leBytes 8 (d.rd o pr))).flatten ++ leBytes 16 0

/-- The 64 plaintext bytes of protected line `p`. -/
def linePlain (d : Device) (p : Nat) : Bytes :=
  let o := 64 * p
  match regionOf o with
  | .table => d.wayBytes (2 * p) ++ d.wayBytes (2 * p + 1)
  | .saRecords => leBytes 64 0
  | .stats => d.statRecord ((o - 0x06000000) / 64)
  | .laps => d.slotRecord ((o - 0x07000000) / 0x200000) ((o - 0x07000000) % 0x200000 / 64)
  | .log | .scratch => (List.range 64).map (fun i => d.memByte (o + i))
  | .unassigned => leBytes 64 0

/-! ### Ciphertext (R318, R319) -/

/-- The block of R318, most significant byte first. -/
def tweakBlock (ctr index level chan blk dom : Nat) : Bytes :=
  beBytes 16 (ctr % 2 ^ 64 * 2 ^ 64 + index % 2 ^ 32 * 2 ^ 32 + level * 2 ^ 12 + chan * 2 ^ 10 + blk * 2 ^ 8 + dom)

/-- Block `j` of data line (c, i) under counter `ctr`. -/
def cipherBlock (d : Device) (ctr c i : Nat) (plain : Bytes) (j : Nat) : Bytes :=
  let t := aesEnc (leBytes 32 d.mem.kTwk) (tweakBlock ctr i 0 c j 0)
  xorBytes (aesEnc (leBytes 32 d.mem.kEnc) (xorBytes (slice (16 * j) 16 plain) t)) t

/-- The counter the data of line `p` is encrypted under: that of the last write of its data. -/
def dataCtr (d : Device) (p : Nat) : Nat :=
  ((d.mem.poisoned.find? (fun e => e.1 == p)).map (·.2)).getD (d.lineCtr (d.place p).1 (d.place p).2)

/-- The stored ciphertext of line `p`. Of a line lost with its channel, whose place holds what an earlier use left, no
rule gives the bytes: a free value (log entry 1). -/
def lineCipher (d : Device) (p : Nat) : Bytes × Device :=
  if d.dataCtr p = 2 ^ 64 then (leBytes 64 d.unstated.1, d.unstated.2) else
  (((List.range 4).map (d.cipherBlock (d.dataCtr p) (d.place p).1 (d.place p).2 (d.linePlain p))).flatten, d)

/-! ### Tags (R320) -/

/-- H_m of R317. -/
def macH (d : Device) : Nat := beNat (aesEnc (leBytes 32 d.mem.kMac) (leBytes 16 0))

/-- The tag of the 64 bytes `x` of the line of `level` that has number `index` in it, under counter `ctr`. -/
def memTag (d : Device) (ctr index level chan : Nat) (x : Bytes) : Bytes :=
  (xorBytes (beBytes 16 (ghashFrom d.macH 0 (chunks 16 (fit 64 x))))
    (aesEnc (leBytes 32 d.mem.kMac) (tweakBlock ctr index level chan 0 1))).take 8

/-- The tag that ciphertext `x` of data line `p` must have. -/
def dataTag (d : Device) (p : Nat) (x : Bytes) : Bytes :=
  let c := (d.place p).1
  let i := (d.place p).2
  d.memTag (d.lineCtr c i) i 0 c x

/-! ### Reads and writes of a line (R324 to R326) -/

/-- `f` done `n` times. -/
def times (f : Device → Device) (n : Nat) (d : Device) : Device := (List.range n).foldl (fun d _ => f d) d

/-- The node line at `level` above data line (c, i). -/
def nodeAbove (i : Nat) : Nat → Option Nat
  | 0 => none
  | 1 => some (i / 8)
  | k + 1 => (nodeAbove i k).bind nodeParent

/-- The first node of each level of R318, as R315 numbers the nodes of a channel. -/
def levelBase (level : Nat) : Nat := [0, 0, 196608, 221184, 224256, 224640, 224688].getD level 0

/-- The node tag that the bytes `x` of the node line at `level` above line `p` must have: under the node's counter in its parent
or in the root. -/
def nodeTag (d : Device) (p level : Nat) (x : Bytes) : Bytes :=
  let c := (d.place p).1
  (nodeAbove (d.place p).2 level).elim [] (fun n => d.memTag (natAt d.mem.nodeCtr (physKey c n)) (n - levelBase level) level c x)

/-- The node line at `level` above line `p` fails its verification: it is unverifiable until it is written again. -/
def failNode (d : Device) (p level : Nat) : Device :=
  let c := (d.place p).1
  let d := (nodeAbove (d.place p).2 level).elim d (fun n =>
    d.setMem { d.mem with badNodes := physKey c n :: d.mem.badNodes.filter (· != physKey c n) })
  d.memNodeFail c (64 * p)

/-- Node `m` has been read to verify the counter of line `p`: it is on the way up and not in the tree cache (R322). -/
def nodeRead (d : Device) (p m : Nat) : Bool :=
  !d.compact (d.place p).1 ((d.place p).2 / 8) &&
  (uncachedChain 6 (d.place p).1 ((d.place p).2 / 8) d).contains (physKey (d.place p).1 m)

/-- What the read of line `p` can find: a node line that is not read cannot fail, and bytes whose tag holds are good ones
(R320). -/
def lineFound (d : Device) (p : Nat) (o : LineOutcome) : LineOutcome :=
  let reads := fun level => (nodeAbove (d.place p).2 level).elim false (d.nodeRead p)
  match o with
  | .nodeFailed level n => if reads level then .nodeFailed level n else .ok
  | .raw x tag => if d.dataTag p x = tag then .ok else .failed 0
  | .rawNode level x tag => if reads level ∧ d.nodeTag p level x ≠ tag then .nodeFailed level 0 else .ok
  | o => o

/-- The counter of line `p` is fetched, and node line `m` on the way fails: only what lies above it is verified and cached. -/
def walkAbove (d : Device) (p m : Nat) : Device :=
  let d := (d.inc64 O.MEM_TREE_MISSES).pmcHub 0x44 1 (passAddr (64 * p))
  (nodeParent m).elim d (fun q => walkUp 6 (d.place p).1 q d)

/-- The walk for line `p` up to the failing node line at `level`. -/
def walkFails (d : Device) (p level : Nat) : Device :=
  ((nodeAbove (d.place p).2 level).elim d (d.walkAbove p)).failNode p level

/-- The re-read of a line of channel `c` was good: the device has corrected it by itself, and says so (R9, R10; DESIGN CHOICE of
the code, log entry 40). -/
def retryGood (d : Device) (c : Nat) : Device := d.faultUnit (0x300 + c) 0x02 c 1

/-- A verified read of protected line `p` (R324): false when the requester gets an error. `keep` leaves out the poison
write, as a partial write has it (R326). -/
def verifyLine (d : Device) (p : Nat) (o : LineOutcome) (keep : Bool) : Bool × Device :=
  let c := (d.place p).1
  if d.unverifiable c (d.place p).2 then (false, d.memNodeFail c (64 * p)) else
  let fail := fun (d : Device) => (false, (if keep then d else d.poisonWrite p 1).tagFail p)
  let good := fun (d : Device) => if d.poisonedLine p then fail d else (true, d)
  let f := d.fetchCounter c (d.place p).2 (64 * p)
  match d.lineFound p o with
  | .corrected n => good (times (fun d => d.memCorrected c) n f)
  | .retried n => good ((times (fun d => d.memUncorrectable c) n f).retryGood c)
  | .failed n => fail (times (fun d => d.memUncorrectable c) n f)
  | .nodeFailed level n => (false, (times (fun d => d.memUncorrectable c) n d).walkFails p level)
  | .ok | .raw _ _ | .rawNode _ _ _ => good f

/-- The line's bytes are replaced where the engine's clients keep bytes; every other region's content is written by
commands of its own, and the line is written with it as it stands. -/
def putLine (d : Device) (p : Nat) (v : Bytes) : Device :=
  match regionOf (64 * p) with
  | .log | .scratch => d.memPutBytes (64 * p) (fit 64 v)
  | _ => d

/-- A full-line write by the engine (R325). -/
def writeLine (d : Device) (p : Nat) (v : Bytes) : Bool × Device :=
  let w := d.fullLine p
  if w.1 then (true, w.2.putLine p v) else w

/-- A partial write of bytes `v` from offset `o` on, within one line (R326): false when it is abandoned, or the line is
read-only. -/
def partialWrite (d : Device) (o : Nat) (v : Bytes) (r : LineOutcome) : Bool × Device :=
  let p := o / 64
  let x := d.verifyLine p r true
  let b := x.2.bumpLine (x.2.place p).1 (x.2.place p).2
  if x.1 then (if b.1 then (true, b.2.memPutBytes o v) else b)
  else match d.lineFound p r with
    | .nodeFailed _ _ => (false, x.2)
    | _ => (false, if d.unverifiable (d.place p).1 (d.place p).2 then x.2 else x.2.poisonWrite p 2)

/-! ### The scrubber (R329) -/

/-- The protected line that lies at data line (c, i), if one does (R316). -/
def protectedAt (d : Device) (c i : Nat) : Option Nat :=
  let rank := fun (x : Nat) => ((List.range 4).filter (· != x)).idxOf c
  let cand := [4 * (i / 2) * 2 + 2 * c + i % 2, 1048576 + 4 * (i - 262144) + c] ++
    ((d.tableLost.elim [] (fun x => [2 * (3 * ((i - 1245184) / 2) + rank x) + i % 2])) ++
     (d.lostChannel.elim [] (fun x =>
       [1048576 + 4 * (3 * i + rank x) + x, 1048576 + 4 * (3 * (262144 + i - 1507328) + rank x) + x])))
  cand.find? (fun p => d.mapped (64 * p) && d.place p == (c, i))

/-- An uncorrectable codeword of the data or the tag of data line (c, i): the line is poison-written with cause 3. -/
def scrubData (d : Device) (c i : Nat) : Device :=
  let d := d.memUncorrectable c
  (d.protectedAt c i).elim d (fun p => d.poisonWrite p 3)

/-- An uncorrectable codeword of node `n` or of its tag. -/
def scrubNode (d : Device) (c n : Nat) : Device :=
  let d := d.memUncorrectable c
  (d.setMem { d.mem with badNodes := physKey c n :: d.mem.badNodes.filter (· != physKey c n) }).memNodeFail c (64 * n)

/-- Slice cycles of a pass of the scrubber. -/
def memScrubPeriod (d : Device) : Nat := d.rd O.MEM_SCRUB_S * 1250000000

/-- The scrubber has read every codeword: channels in ascending order, codewords in ascending order (log entry 17). -/
def scrubPass (d : Device) (c line word : Nat) : Device :=
  if line = 2097151 ∧ word = 7 ∧ (List.range 4).all (fun k => decide (k ≤ c) || d.rd O.MEM_CH_STATE k == 2)
  then (d.setMem { d.mem with scrubFrom := d.mem.scrubFrom + d.memScrubPeriod }).inc64 O.MEM_SCRUB_PASSES else d

/-- What the scrubber found in codeword `word` of channel line `line`. -/
def scrubFound (d : Device) (c line word : Nat) (o : ScrubOutcome) : Device :=
  match o with
  | .clean | .locked => d
  | .corrected => d.memCorrected c
  | .badData =>
    if line < 1572864 then d.scrubData c line
    else if line < 1769472 then d.scrubData c (8 * (line - 1572864) + word) else d
  | .badNode =>
    if 1769472 ≤ line ∧ line < 1994166 then d.scrubNode c (line - 1769472)
    else if 1994752 ≤ line ∧ 8 * (line - 1994752) + word < 224694 then d.scrubNode c (8 * (line - 1994752) + word) else d


/-! ### Arbitration (R23) -/

def setWaiting (d : Device) (l : List MemReq) : Device := d.setMem { d.mem with waiting := l }

/-- The class of R23 of an access to line `p` by the engine's clients: by the content of its region. -/
def classOf (p : Nat) : Nat :=
  match regionOf (64 * p) with
  | .table => 2
  | .saRecords => 3
  | .stats | .laps => 4
  | .log | .scratch | .unassigned => 5

/-- Channel `c` gives no grants: it is in service, out of calibration, and the 10 ms of R330 have not passed (DESIGN CHOICE, log
entry 39). -/
def channelStalled (d : Device) (c : Nat) : Bool :=
  d.rd O.MEM_CH_STATE c == 0 && d.mem.calib.any (fun e => e.1 == c && decide (d.cyc < e.2 + msCycles 10))

/-- The protected lines that a request is for. -/
def opLines (d : Device) : MemOp → List Nat
  | .lineRead p _ | .fullLine p _ => [p]
  | .partialWrite o _ _ => [o / 64]
  | .scrub c line _ _ => (d.protectedAt c line).toList
  | .lookup id => (d.frame? id).elim [] (fun f =>
      [(d.candidates f.key).1, (d.candidates f.key).2].flatMap (fun b => [2 * b, 2 * b + 1]))

/-- The request can be granted now: its channels give grants, and no earlier request waits for one of its lines (R327). -/
def grantable (d : Device) (r : MemReq) : Bool :=
  !r.chans.any d.channelStalled &&
  (d.mem.waiting.takeWhile (· != r)).all (fun q => !(d.opLines q.op).any (d.opLines r.op).contains)

/-- Grants to other classes after which a waiting request goes ahead of priority. Each of the other five classes can stand before
it with a request that has waited as long, so that its class has a grant within any 64. -/
def starveLimit : Nat := 58

/-- Request `r` is granted before `q`, which arrived earlier: one that has waited its limit first, then by class. -/
def grantedBefore (r q : MemReq) : Bool :=
  let rs := decide (starveLimit ≤ r.passed)
  let qs := decide (starveLimit ≤ q.passed)
  (rs && !qs) || (rs == qs && decide (r.cls < q.cls))

/-- The request that is granted next. -/
def nextGrant (d : Device) : Option MemReq :=
  (d.mem.waiting.filter d.grantable).foldl (fun (best : Option MemReq) r => match best with
    | none => some r
    | some q => if grantedBefore r q then some r else some q) none

/-- Another request has been granted: one of its own class makes the wait begin anew. -/
def passOver (g r : MemReq) : MemReq :=
  if r.chans.any g.chans.contains then { r with passed := if r.cls = g.cls then 0 else r.passed + 1 } else r

/-- A parked frame's lookup is granted (R237): both buckets are read, and the frame keeps what they held. -/
def grantLookup (d : Device) (id : Nat) : Device :=
  (d.frame? id).elim d (fun f =>
    if f.stage ≠ .parked ∨ f.read.isSome then d else
    let x := d.readLookup f.key
    x.2.setFrame { f with read := some x.1 })

/-- What a granted request does. -/
def serveMem (d : Device) : MemOp → Device
  | .lineRead p o => (d.verifyLine p o false).2
  | .fullLine p v => (d.writeLine p v).2
  | .partialWrite o v r => (d.partialWrite o v r).2
  | .scrub c line word o => (d.scrubFound c line word o).scrubPass c line word
  | .lookup id => d.grantLookup id

/-- Grant requests one by one while one can be granted. -/
def grantAll : Nat → Device → Device
  | 0, d => d
  | k + 1, d => d.nextGrant.elim d (fun r =>
      grantAll k ((d.setWaiting ((d.mem.waiting.erase r).map (passOver r))).serveMem r.op))

/-- Grant what can be granted. -/
def grants (d : Device) : Device := grantAll d.mem.waiting.length d

/-- A request arrives. -/
def memRequest (d : Device) (chans : List Nat) (cls : Nat) (op : MemOp) : Device :=
  (d.setWaiting (d.mem.waiting ++ [⟨chans, cls, op, 0⟩])).grants

end Device
end Sys2Proof.Machine
end

