-- ==== Sys2Proof/Machine/Parser.lean ====
section
/-!
DEFINITION. Parser programs (R149 to R153, R234): running one over cell 0, building a classification key from its field
vector, loading and swapping programs.
-/
namespace Sys2Proof.Machine

/-! ### Running a program (R149, R151, R152) -/

/-- A parser engine: the cursor, the sixteen fields and the flag word. -/
structure Parse where
  cursor : Nat
  fields : List Nat
  flags : Nat
deriving DecidableEq, Repr

/-- How a program ended: the engine, key profile, disposition, and whether a read fell outside the window. -/
structure Parsed where
  engine : Parse
  profile : Nat
  disposition : Nat
  exception : Bool
deriving DecidableEq, Repr

/-- The bytes at `o`, `n` of them, in network order; none beyond byte 127 or the frame's end. -/
def windowRead (frame : Bytes) (o n : Nat) : Option Nat :=
  if o + n ≤ min 128 frame.length then some (beNat (slice o n frame)) else none

/-- The end of a program that read outside the window: key profile 0, classify, flag 31. -/
def Parse.outside (p : Parse) : Parsed := ⟨{ p with flags := setBit p.flags 31 true }, 0, 0, true⟩

/-- Copy a value into field `i`. -/
def Parse.setField (p : Parse) (i v : Nat) : Parse := { p with fields := p.fields.set i v }

/-- Run from instruction `i`, at most `fuel` instructions (a loaded program ends within 16). -/
def runProgram (prog : List Nat) (frame : Bytes) : Nat → Nat → Parse → Parsed
  | 0, _, p => p.outside
  | n + 1, i, p =>
    let w := prog.getD i 0
    let at_ := p.cursor + pOffset w
    match pOp w with
    | 0 => ⟨p, bits (pArg w) 0 4, bits (pArg w) 4 2, false⟩
    | 1 => (windowRead frame at_ (pWidth w)).elim p.outside (fun v => runProgram prog frame n (i + 1) (p.setField (pArg w % 16) v))
    | 2 => (windowRead frame at_ 2).elim p.outside (fun v =>
        runProgram prog frame n (if v &&& pMask w = pValue w then pTarget w else i + 1) p)
    | 3 => runProgram prog frame n (i + 1) { p with cursor := p.cursor + pArg w }
    | 4 => (windowRead frame at_ 1).elim p.outside (fun v =>
        runProgram prog frame n (i + 1) { p with cursor := p.cursor + (v &&& pMask w % 256) * (pValue w % 16) })
    | 5 => runProgram prog frame n (i + 1) { p with flags := setBit p.flags (pArg w % 32) true }
    | _ => runProgram prog frame n (pTarget w) p

/-- Parse a frame: instruction 0 for host-side frames, 256 for line-side frames. -/
def parseFrame (prog : List Nat) (line : Bool) (frame : Bytes) : Parsed :=
  runProgram prog frame 16 (if line then 256 else 0) ⟨0, List.replicate 16 0, 0⟩

/-! ### The key builder (R234) -/

/-- The value and width in bytes that a list byte takes from the field vector. -/
def keyPiece (fields : List Nat) (c : Nat) : Nat × Nat :=
  let f := fields.getD (c / 16) 0
  if c % 16 = 9 then (f % 4096, 2) else (f % 256 ^ (c % 16), c % 16)

/-- The bytes of a field list up to the first 0x00. -/
def fieldList (v : Nat) : List Nat := ((leBytes 8 v).map (·.toNat)).takeWhile (· != 0)

/-- The 22 data bytes of a key. -/
def keyData (list : Nat) (fields : List Nat) : Nat :=
  let x := (fieldList list).foldl (fun (a : Nat × Nat) c =>
    ((a.1 * 256 ^ (keyPiece fields c).2 + (keyPiece fields c).1), a.2 + (keyPiece fields c).2)) (0, 0)
  x.1 * 256 ^ (22 - x.2)

/-- A field list is valid: codes 1 to 9, at most 22 bytes. -/
def fieldListOk (v : Nat) : Bool :=
  (fieldList v).all (fun c => decide (1 ≤ c % 16 ∧ c % 16 ≤ 9)) &&
  decide (((fieldList v).map (fun c => (keyPiece [] c).2)).sum ≤ 22)

namespace Device

/-- The key of profile `pf` for a frame of port `p`. -/
def buildKey (d : Device) (pf p : Nat) (fields : List Nat) : Nat :=
  makeKey pf (if d.rdB O.PROFILE_PORT pf then some p else none) (keyData (d.rd O.PROFILE_FIELDS pf) fields)

/-! ### PARSER_CMD (R153) -/

/-- LOAD of image `x`: the slot is verified, then its program is checked. -/
def parserLoadCore (r : Req) (s x : Nat) (d : Device) : Nat × Device :=
  let slot := parserSlot s x
  runCmd r O.PARSER_CMD s
    { Conds.none with
      s4 := [(d.rd O.PARSER_SHADOW_STATE s == 2, 0xA303)]
      s6 := [(d.imageOk slot && !programOk (d.slotProgram slot), 0xA106)]
      s7 := [(!d.imageOk slot, 0xA406)] }
    (fun d => (some 0, d.loadShadow s x (d.slotProgram slot))) d

/-- ARM takes a gun entry of the shared pool (R134). -/
def armSwap (d : Device) (s : Nat) : Device :=
  (d.gunPool 4).elim d (fun e =>
    (d.gunTake e 4 s (d.rd O.PARSER_SWAP_GUN_TIME s) (d.rd O.PARSER_SWAP_TAG s) (d.rdB O.PARSER_SWAP_LATE_OK s)).wr
      O.PARSER_SHADOW_STATE s 2)

def parserArmCore (r : Req) (s : Nat) (d : Device) : Nat × Device :=
  runCmd r O.PARSER_CMD s
    { Conds.none with
      s4 := [(d.gunPast (d.rd O.PARSER_SWAP_GUN_TIME s) && !d.rdB O.PARSER_SWAP_LATE_OK s, 0xA306)]
      s6 := [(d.rd O.PARSER_SHADOW_STATE s == 0, 0xA106)]
      s7 := [((d.gunFind 4 s).isSome, 0xA201), ((d.gunPool 4).isNone, 0xA205)] }
    (fun d => (some 0, d.armSwap s)) d

/-- CANCEL applies while the swap's entry is ARMED. -/
def parserCancelCore (r : Req) (s : Nat) (d : Device) : Nat × Device :=
  let e := (d.gunFind 4 s).filter (fun e => d.rd O.GUN_STATE e == 1)
  runCmd r O.PARSER_CMD s { Conds.none with s4 := [(e.isNone, 0xA303)] } (fun d =>
    (some 0, (e.elim d (gunCancel d)).wr O.PARSER_SHADOW_STATE s (boolNat (progAt d.pipe.shadow s != [])))) d

/-! ### The swap (R153, R412) -/

/-- Slot `r` runs program `prog` no more, or does again, as FW_SLOT_STATE shows it (R363). -/
def slotRuns (d : Device) (r : Nat) (prog : List Nat) (run : Bool) : Device :=
  if run then (if d.rd O.FW_SLOT_STATE r = 2 ∧ d.slotProgram r = prog then d.setSlot r 4 else d)
  else if d.rd O.FW_SLOT_STATE r = 4 then d.setSlot r 2 else d

/-- Active and shadow program change places. -/
def swapPrograms (d : Device) (s : Nat) : Device :=
  let a := progAt d.pipe.active s
  let b := progAt d.pipe.shadow s
  let x := d.rd O.PARSER_ACTIVE_IMAGE s
  let y := natAt d.pipe.shadowImage s
  let d := (d.setActive s y b).loadShadow s x a
  (d.slotRuns (parserSlot s x) a false).slotRuns (parserSlot s y) b true

/-- PARSER_SWAP of slice `s` fires: cancelled with a NOTE while the slice is GATED or RETURNING; without effect when the
shadow is no longer armed. True when the entry has fired. -/
def parserSwap (d : Device) (s : Nat) (late stepped : Bool) : Bool × Device :=
  if d.rd O.SLICE_STATE s = 3 ∨ d.rd O.SLICE_STATE s = 4 then (false, (d.emptyShadow s).note 0x204 0x0B00 (leBytes 4 s))
  else
    let d := (d.wrBit O.PARSER_SWAP_FLAGS s 0 late).wrBit O.PARSER_SWAP_FLAGS s 1 stepped
    (true, if d.rd O.PARSER_SHADOW_STATE s = 2 then d.swapPrograms s else d)

end Device

def execParserLoadA (r : Req) (w : Nat) (s : State) := s.on (fun d => d.direct r fun d => d.parserLoadCore r w 0)
def execParserLoadB (r : Req) (w : Nat) (s : State) := s.on (fun d => d.direct r fun d => d.parserLoadCore r w 1)
def execParserArm (r : Req) (w : Nat) (s : State) := s.on (fun d => d.direct r fun d => d.parserArmCore r w)
def execParserCancel (r : Req) (w : Nat) (s : State) := s.on (fun d => d.direct r fun d => d.parserCancelCore r w)

end Sys2Proof.Machine
end

