-- ==== Sys2Proof/Machine/Queues.lean ====
section
/-!
DEFINITION. Queues, pacing and policing (R254 to R274): buckets, the policer, the admission of cells to the buffer, virtual
time, and the choice of the frame that a slice-direction starts.
-/
namespace Sys2Proof.Machine

/-- The colour the policer gives a frame (R261). -/
inductive Colour where
  | green | yellow | red
deriving DecidableEq, Repr

/-- The signed 64-bit difference of two tags is negative (R258). -/
def tagBefore (a b : Nat) : Bool := decide (ofTwos 64 (a + 2 ^ 64 - b % 2 ^ 64) < 0)

/-- The later of two tags. -/
def tagMax (a b : Nat) : Nat := if tagBefore a b then b else a

/-- A tag that `cost` bytes at `weight` further on (R257). -/
def tagStep (s cost weight : Nat) : Nat := (s + ceilDiv (cost * 4096) weight) % 2 ^ 64

namespace Device

/-- L′ of a frame (R257). -/
def lprime (d : Device) (f : Frame) : Int := f.len + (if f.ring.isSome then 0 else d.rdI 32 O.QUEUE_OVERHEAD f.q)

/-! ### The policer (R261) -/

/-- A red frame is counted. -/
def countRed (d : Device) (f : Frame) : Device :=
  (((d.inc64 O.POL_RED_FRAMES f.q).add64 O.POL_RED_BYTES f.q f.len).lapPolice f.q f.len).pmcSlice f.sd 0x10 1 (passFrame f true)

/-- The policer's verdict on a frame, with its charges and counts. -/
def police (d : Device) (f : Frame) : Colour × Device :=
  let q := f.q
  let n := d.lprime f
  if d.rd O.POL_PIR q = 0 then (.green, d)
  else if d.level q 3 < 0 then (.red, d.countRed f)
  else if d.rd O.POL_CIR q = 0 ∨ d.level q 2 < 0 then
    (.yellow, ((d.charge q 3 n).inc64 O.POL_YELLOW_FRAMES q).add64 O.POL_YELLOW_BYTES q f.len)
  else (.green, (d.charge q 2 n).charge q 3 n)

/-! ### Partitions (R265, R268) -/

/-- Lossless pairs of a port (R102, R268). -/
def losslessPairs (d : Device) (p : Nat) : Nat := if d.portEnabled p then (d.flowClasses p).length else 0

/-- The size of a buffer partition in cells; the shared pool is what the others leave. -/
def partFixed (d : Device) (r : Nat) : Nat :=
  if r = 1 then (d.allPorts.map (fun p => d.rd O.BUF_HEADROOM_CELLS p * d.losslessPairs p)).sum
  else if r = 2 then (d.allPorts.map (fun p => d.rd O.BUF_SLACK_CELLS p * d.losslessPairs p)).sum
  else d.rd O.BUFP_SIZE_CELLS r
def partSize (d : Device) (r : Nat) : Nat :=
  if r ≠ 0 then d.partFixed r
  else 262144 - d.sram.lostCells - ((List.range (7 + 2 * d.slices)).map (fun k => d.partFixed (k + 1))).sum

/-- Slack and headroom per lossless pair of a port of the given speed (R268). -/
def pairSlack (maxFrame : Nat) : Nat := ceilDiv (maxFrame + 52) 128
def pairHeadroom (speed cable partner maxFrame : Nat) : Nat :=
  64 * ceilDiv (ceilDiv (speed * (10 * cable + 120 + partner) + 8 * (maxFrame + 52)) 1024) 64

/-- Size the pairs of port `p` anew (R268). -/
def sizePairs (d : Device) (p : Nat) : Device :=
  if d.losslessPairs p = 0 then (d.wr O.BUF_HEADROOM_CELLS p 0).wr O.BUF_SLACK_CELLS p 0 else
  let m := d.rd O.PORT_MAX_FRAME p
  (d.wr O.BUF_HEADROOM_CELLS p (pairHeadroom (d.portSpeed p) (d.rd O.BUF_CABLE_M p) (d.rd O.BUF_PARTNER_NS p) m)).wr
    O.BUF_SLACK_CELLS p (pairSlack m)

/-! ### Admission of cells (R266, R267) -/

/-- Free cells of the shared pool. -/
def sharedFree (d : Device) : Nat := d.partSize 0 - d.rd O.BUFP_USED_CELLS

/-- The shared-pool limit of one queue or pair. -/
def sharedLimit (d : Device) : Nat := d.sharedFree >>> d.rd O.BUF_ALPHA_SHIFT

/-- A frame is lossless (R266). -/
def lossless (d : Device) (f : Frame) : Bool :=
  d.rd O.PORT_FC f.port == 1 || (d.rd O.PORT_FC f.port == 2 && (d.rd O.PORT_PFC_LOSSLESS f.port).testBit f.cls)

/-- A partition row has room. -/
def partRoom (d : Device) (r : Nat) : Bool := decide (d.rd O.BUFP_USED_CELLS r < d.partSize r)

/-- The source of a lossy cell, if one has room. -/
def lossySource (d : Device) (f : Frame) : Option CellSrc :=
  let r := d.rd O.QUEUE_RESERVE f.q
  let cap := d.rd O.QUEUE_MAX_CELLS f.q
  if cap ≠ 0 ∧ cap ≤ d.rd O.QUEUE_OCCUPANCY f.q then none
  else if r ≠ 0xFF ∧ d.partRoom r then some (.part r)
  else if d.partRoom (8 + f.sd) then some (.part (8 + f.sd))
  else if (d.queueOf f.q).shared < d.sharedLimit ∧ (f.yellow → d.rd O.BUF_YELLOW_FREE_CELLS ≤ d.sharedFree) then some .shared
  else none

/-- The pair asks its partner to stop (R267). -/
def pairXoff (d : Device) (k : Nat) : Device := (d.setPair k { d.pairOf k with refused := true }).setHolds (k / 8) 0 true [k % 8]

/-- The limits of the pairs of port `p` have been written: XOFF or XON of each follows them (R267). -/
def pairLimits (d : Device) (p : Nat) : Device :=
  (d.flowClasses p).foldl (fun d c =>
    let k := 8 * p + c
    if d.rd O.BUF_LL_XOFF_CELLS p ≤ (d.pairOf k).shared then (if (d.pairOf k).refused then d else d.pairXoff k)
    else d.pairXon k) d

/-- Take one cell from the shared pool for a lossless pair. -/
def pairShared (d : Device) (k : Nat) : Device :=
  let d := (d.useCell 0).setPair k { d.pairOf k with shared := (d.pairOf k).shared + 1 }
  if d.rd O.BUF_LL_XOFF_CELLS (k / 8) ≤ (d.pairOf k).shared then d.pairXoff k else d

/-- Take one cell for a lossless frame: shared pool, slack, headroom. -/
def losslessCell (d : Device) (f : Frame) : Option CellSrc × Device :=
  let k := d.pairKeyOf f
  let x := d.pairOf k
  if ¬ x.refused ∧ x.shared < d.sharedLimit then (some .lossless, d.pairShared k) else
  let d := if x.refused then d else d.pairXoff k
  let x := d.pairOf k
  if x.slack < d.rd O.BUF_SLACK_CELLS f.port then (some .slack, (d.useCell 2).setPair k { x with slack := x.slack + 1 })
  else if x.headroom < d.rd O.BUF_HEADROOM_CELLS f.port then
    (some .headroom, ((d.useCell 1).setPair k { x with headroom := x.headroom + 1 }).wr O.BUF_HEADROOM_USED f.port
      (d.rd O.BUF_HEADROOM_USED f.port + 1))
  else (none, d)

/-- Take one cell of a lossy frame. -/
def lossyCell (d : Device) (f : Frame) : Option CellSrc × Device :=
  match d.lossySource f with
  | some (.part r) => (some (.part r), d.useCell r)
  | some c => (some c, (d.useCell 0).setQueue f.q { d.queueOf f.q with shared := (d.queueOf f.q).shared + 1 })
  | none => (none, d)

/-- Admit `n` more cells of frame `f`, one at a time; false when one is refused. -/
def takeCells : Nat → Frame → Device → Bool × Frame × Device
  | 0, f, d => (true, f, d)
  | n + 1, f, d =>
    let x := if d.lossless f then d.losslessCell f else d.lossyCell f
    match x.1 with
    | none => (false, f, x.2)
    | some c =>
      let y := x.2.addCell f c
      takeCells n y.1 (y.2.wr O.QUEUE_OCCUPANCY f.q (y.2.rd O.QUEUE_OCCUPANCY f.q + 1))

/-- Update the counts of active queues of the nodes (NODE_ACTIVE_QUEUES), and the virtual time of a node that has none
(R257). -/
def refreshNodeCount (d : Device) (n : Nat) : Device :=
  let k := (d.queues.filter (fun e => e.2.active && e.2.node == n)).length
  let d := d.wr O.NODE_ACTIVE_QUEUES n k
  if k = 0 then d.wr O.NODE_VTIME n (d.nodeOf n).fmax else d

/-- A cell of a frame finds no source (R266): the frame is counted, and dropped whole, or poisoned behind the cells it has when
one of them has left. -/
def refuseFrame (d : Device) (f : Frame) : Device :=
  let d := (d.inc64 O.QUEUE_DROP_FRAMES f.q).add64 O.QUEUE_DROP_BYTES f.q f.len
  let d := if d.lossless f then (d.inc64 O.BUF_HEADROOM_DROPS f.port).noteRow (sliceSrc f.slice 4) 0x0B f.port f.port else d
  if f.sent = 0 then d.dropWhole f else d.setFrame { f.cutAt (128 * f.taken) with bad := true, poison := true }

/-- The frame keeps its cells until its ICV has been checked (R161, R266). -/
def keepsCells (f : Frame) : Bool := f.saf && f.decrypt && f.prot

/-- The cells of a frame that has left its queue are read from the buffer, and freed (E8, D7; R266). -/
def readCells (d : Device) (f : Frame) : Device := if keepsCells f then d else d.freeCells f

/-- The frame is in a tenant queue or has been started from one. -/
def buffered (f : Frame) : Bool :=
  f.ring.isNone && (f.stage == .queued || f.stage == .started || f.stage == .sending) && f.taken != 0

/-- The cells of a buffered frame that have arrived since are admitted; those of a frame that has been started are read at
once. -/
def arriveCells (d : Device) (f : Frame) : Device :=
  let n := d.cellsArrived f - f.taken
  if ¬ buffered f ∨ n = 0 then d else
  let x := takeCells n f d
  let d := x.2.2.setFrame x.2.1
  if ¬ x.1 then d.refuseFrame x.2.1 else if x.2.1.stage = .queued then d else d.readCells x.2.1

/-- What has arrived by now of every frame. -/
def arriveAll (d : Device) : Device := d.pipe.frames.foldl (fun d f => (d.frame? f.id).elim d d.arriveCells) d

/-- E6 and D5: the cells of a frame that have arrived are admitted, and the frame joins its tenant queue (R254, R266). -/
def enqueue (d : Device) (f : Frame) : Device :=
  let d := d.arriveAll
  let x := takeCells (d.cellsArrived f) f d
  let f := x.2.1
  if ¬ x.1 then (x.2.2.setFrame f).refuseFrame f else
  let d := x.2.2.setFrame { f with stage := .queued }
  (d.setQueue f.q { d.queueOf f.q with frames := (d.queueOf f.q).frames ++ [f.id] }).refreshNode f.q

/-! ### SAs and contexts as the scheduler sees them (R182, R183, R198) -/

/-- The next PN of a resident SA. -/
def nextPn (d : Device) (sa : Nat) : Nat := (d.ctxOf (d.rd O.SA_SLOT sa)).pn

/-- The SC is stopped (R183). -/
def scStopped (d : Device) (sc : Nat) : Bool := (d.rd O.SC_STATUS sc).testBit 2

/-- A transmit SC has no usable SA: CA disabled, not a transmit SC, no SA in force, or stopped past its hold (R182, R183). -/
def txDead (d : Device) (sc : Nat) : Bool :=
  !d.rdB O.CA_ENABLE (d.caOf sc) || d.rd O.SC_DIR sc != 1 ||
  (!d.scHolding sc && ((d.saInForce sc).isNone || d.scStopped sc))

/-- Frames of the SC between E7 and E9. -/
def atOrdering (d : Device) (sc : Nat) : Nat :=
  (d.pipe.frames.filter (fun f => f.prot && !f.decrypt && f.sc == sc && f.stage == .started && f.ordered.isNone)).length

/-- The SC is not holding and has PNs left for another frame. -/
def pnsLeft (d : Device) (sc : Nat) : Bool :=
  !d.scHolding sc && (d.saInForce sc).elim false (fun sa => decide (d.atOrdering sc + d.nextPn sa ≤ d.pnMax (d.caOf sc)))

/-- A GCM context entry of slice-direction `sd` is free (R198). -/
def ctxFree (d : Device) (sd : Nat) : Bool := decide ((d.pipe.frames.filter (fun f => f.sd == sd && f.ctx.isSome)).length < 32)

/-- The frame may be started as far as its SA and context go. -/
def mayStart (d : Device) (f : Frame) : Bool :=
  if f.decrypt then !f.prot || f.ctx.isSome || d.ctxFree f.sd else !f.prot || d.pnsLeft f.sc

/-- A tenant queue is eligible at its node (R256). -/
def eligible (d : Device) (q : Nat) : Bool :=
  (d.headFrame q).elim false (fun f => d.mayStart f && !d.pacerHolds q)

/-! ### Becoming active (R257) -/

/-- The node at which queue `q` is eligible now. -/
def eligibleAt (d : Device) (q : Nat) : Option Nat := if d.eligible q then (d.headFrame q).map Frame.node else none

/-- An active queue that is no longer eligible at its node leaves it. -/
def leaveNode (d : Device) (q : Nat) : Device :=
  let x := d.queueOf q
  if x.active ∧ d.eligibleAt q ≠ some x.node then (d.setQueue q { x with active := false }).refreshNodeCount x.node else d

/-- A queue that is eligible becomes active at its node, with S at the virtual time or at its finish tag. -/
def joinNode (d : Device) (q : Nat) : Device :=
  let x := d.queueOf q
  if x.active then d else
  (d.eligibleAt q).elim d (fun n =>
    let v := d.rd O.NODE_VTIME n
    (d.setQueue q { x with active := true, node := n, start := if tagBefore x.finish v then v else x.finish }).refreshNodeCount n)

/-- The queues that hold frames or are active. -/
def busyQueues (d : Device) : List Nat := (d.queues.filter (fun e => e.2.active || e.2.frames != [])).map (·.1)

/-- Queues follow their eligibility: those that leave their nodes first. -/
def followQueues (d : Device) : Device := d.busyQueues.foldl joinNode (d.busyQueues.foldl leaveNode d)

/-! ### Proposals (R256, R257) -/

/-- The committed tier (R260). -/
def committed (d : Device) (q : Nat) : Bool := d.rd O.PACER_CIR q != 0 && decide (0 ≤ d.level q 0)

/-- The queue with the smallest start tag, ties to the lower row: `l` is in rising order of row. -/
def firstQueue (d : Device) (l : List Nat) : Option Nat :=
  l.foldl (fun (best : Option Nat) q => match best with
    | none => some q
    | some b => if tagBefore (d.queueOf q).start (d.queueOf b).start then some q else some b) none

/-- The frame a node proposes, with its queue (none for an inject queue). -/
def proposal (d : Device) (n : Nat) : Option (Frame × Option Nat) :=
  if d.nodeHeld n then none else
  match (d.nodeOf n).inject with
  | id :: _ => (d.frame? id).bind (fun f => if d.mayStart f then some (f, none) else none)
  | [] =>
    let l := (d.queues.filter (fun e => e.2.active && e.2.node == n)).map (·.1)
    let q := (d.firstQueue (l.filter d.committed)).or (d.firstQueue l)
    q.bind (fun q => (d.headFrame q).map (fun f => (f, some q)))

/-! ### The port level (R256) -/

/-- The line time of a frame in bytes (R169). -/
def lineTime (d : Device) (f : Frame) : Nat :=
  f.len + (if f.decrypt ∨ ¬ f.prot then 20 else if d.rd O.SC_TX_SCI_MODE f.sc = 1 then 44 else 52)

/-- Charge a frame's line time to its port. -/
def chargePort (d : Device) (f : Frame) : Device :=
  let c := d.creditOf f.egress - (10 * d.lineTime f : Nat)
  d.setPipe { d.pipe with credit := (f.egress, c, d.cyc) :: d.pipe.credit.filter (fun e => e.1 != f.egress) }

/-- Virtual time and largest finish tag of a port. -/
def portTags (d : Device) (p : Nat) : Nat × Nat := ((d.pipe.portV.find? (fun e => e.1 == p)).map (·.2)).getD (0, 0)
def setPortTags (d : Device) (p v fmax : Nat) : Device :=
  d.setPipe { d.pipe with portV := (p, v, fmax) :: d.pipe.portV.filter (fun e => e.1 != p) }

/-- A weighted node proposes a frame. -/
def weightedOn (d : Device) (n : Nat) : Bool := (d.proposal n).isSome && d.rd O.NODE_WEIGHT n != 0

/-- A weighted node that no longer proposes a frame leaves, and one that does joins, with its tag at the port's virtual time or
its own finish tag. -/
def nodeLeaves (d : Device) (n : Nat) : Device :=
  if (d.nodeOf n).active ∧ ¬ d.weightedOn n then d.setNode n { d.nodeOf n with active := false } else d
def nodeJoins (d : Device) (n : Nat) : Device :=
  let x := d.nodeOf n
  let v := (d.portTags (n / 8)).1
  if ¬ x.active ∧ d.weightedOn n then
    d.setNode n { x with active := true, start := if tagBefore x.finish v then v else x.finish } else d

def portNodes (p : Nat) : List Nat := (List.range 8).map (8 * p + ·)

/-- The nodes of a port follow; the virtual time of a port without an active node is its largest finish tag. -/
def followPort (d : Device) (p : Nat) : Device :=
  let d := (portNodes p).foldl nodeLeaves d
  let d := if (portNodes p).any (fun n => (d.nodeOf n).active) ∨ (d.portTags p).1 = (d.portTags p).2 then d
           else d.setPortTags p (d.portTags p).2 (d.portTags p).2
  (portNodes p).foldl nodeJoins d

/-- Ports with a node that is active or may propose a frame. -/
def busyPorts (d : Device) : List Nat :=
  (((d.queues.filter (fun (e : Nat × QueueX) => e.2.active)).map (fun (e : Nat × QueueX) => e.2.node / 8)) ++
   ((d.nodes.filter (fun (e : Nat × NodeX) => e.2.active || e.2.inject != [])).map (fun (e : Nat × NodeX) => e.1 / 8))).eraseDups

/-- Queues and nodes are up to date with everything that has happened (R257). -/
def settle (d : Device) : Device :=
  let d := d.followQueues
  d.busyPorts.foldl followPort d

/-- The node a port serves: strict ones first, in descending class, then the smallest start tag. -/
def portNode (d : Device) (p : Nat) : Option Nat :=
  let l := (portNodes p).filter (fun n => (d.proposal n).isSome)
  ((l.filter (fun n => d.rd O.NODE_WEIGHT n == 0)).getLast?).or
    ((l.filter (fun n => d.rd O.NODE_WEIGHT n != 0)).foldl (fun (best : Option Nat) n => match best with
      | none => some n
      | some b => if tagBefore (d.nodeOf n).start (d.nodeOf b).start then some n else some b) none)

/-- The next port of the round: ready, sending frames, and with a proposal. -/
def nextPort (d : Device) (sd : Nat) : Option Nat :=
  let last := natAt d.pipe.served sd
  ((List.range 8).map (fun k => (last + k) % 8)).findSome? (fun k =>
    let p := (sdPorts sd).getD k 0
    if d.portReady p && (d.portNode p).isSome then some p else none)

/-! ### Starting a frame (R256, R257, R260) -/

/-- Charge a weighted node's tags at its port. -/
def chargeNode (d : Device) (n : Nat) (f : Frame) : Device :=
  let w := d.rd O.NODE_WEIGHT n
  if w = 0 then d else
  let x := d.nodeOf n
  let fin := tagStep x.start (d.lprime f).toNat w
  (d.setNode n { x with start := fin, finish := fin }).setPortTags (n / 8) x.start (tagMax (d.portTags (n / 8)).2 fin)

/-- Charge a tenant queue: virtual time, pacer, excess. -/
def chargeQueue (d : Device) (n q : Nat) (f : Frame) : Device :=
  let c := d.committed q
  let x := d.queueOf q
  let fin := tagStep x.start (d.lprime f).toNat (d.rd O.QUEUE_WEIGHT q)
  let d := (d.wr O.NODE_VTIME n x.start).setQueue q { x with start := fin, finish := fin }
  let d := d.setNode n { d.nodeOf n with fmax := tagMax (d.nodeOf n).fmax fin }
  let d := if d.rd O.PACER_PIR q = 0 then d else d.charge q 1 (d.lprime f)
  if c then d.charge q 0 (d.lprime f) else
  ((d.add64 O.PACER_EXCESS_BYTES q f.len).lapExcess q f.len).pmcSlice f.sd 0x11 f.len (passFrame f true)

/-- The counts of a start (R264, R393). -/
def countStart (d : Device) (n : Nat) (f : Frame) : Device :=
  let d := if f.ring.isSome then d.inc64 O.NODE_INJECT_FRAMES n else d.inc64 O.NODE_TX_FRAMES n
  (d.pmcSlice f.sd 0x06 1 (passFrame f true)).pmcSlice f.sd 0x07 f.len (passFrame f true)

/-- A GCM context entry for frame `f` (R199). -/
def newCtx (d : Device) (f : Frame) (kind : CtxKind) : GcmCtx :=
  { iv := f.iv, nextCounter := 1, tagMask := 0, ghashX := 0, aadBytes := 0, textBytes := 0, saRow := f.slot, port := f.port % 8,
    kind := kind, key256 := (d.ctxOf f.slot).attr.testBit 2, encrypt := f.enc, offset := f.offset, pn := f.pn }

/-- A frame verified under an SA takes a context entry when it has none (R198). -/
def takeEntry (d : Device) (f : Frame) : Frame :=
  if f.decrypt ∧ f.prot ∧ f.ctx.isNone then { f with ctx := some (d.newCtx f .decrypt) } else f

/-- Frame `f` of node `n` leaves its queue for E8 or D7, where its cells are read. -/
def startFrame (d : Device) (n : Nat) (f : Frame) (q : Option Nat) : Device :=
  let d := ((d.chargeNode n f).chargePort f).countStart n f
  let d := (q.elim d (fun q => d.chargeQueue n q f)).unqueue f
  let f := d.takeEntry { f with stage := .started, started := d.cyc }
  let d := (d.setFrame f).readCells f
  d.setPipe { d.pipe with served := natPut d.pipe.served f.sd (f.egress % 8 + 1), startAt := natPut d.pipe.startAt f.sd (d.cyc + 1) }

/-- A protected frame whose SC has no usable SA (R182, R183). -/
def deadFrame (d : Device) (f : Frame) : Bool := f.prot && !f.decrypt && d.txDead f.sc

/-- A dead frame at the head of its queue is dropped; of an injected one the descriptor completes with detail 0x0002. -/
def dropDead (d : Device) (f : Frame) : Device :=
  let d := d.inc64 O.SC_TX_NO_SA_DROPS f.sc
  ((openRing f).elim d (fun n => d.injectRefuse f n 2)).dropWhole f

/-- The dead frames that stand one behind the other at the head of a list of frame numbers. -/
def dropDeadHeads : List Nat → Device → Device
  | [], d => d
  | id :: l, d => (d.frame? id).elim d (fun f => if d.deadFrame f then dropDeadHeads l (d.dropDead f) else d)

/-- Every tenant queue and every inject queue. -/
def dropDeadFrames (d : Device) : Device :=
  (d.queues.map (·.2.frames) ++ d.nodes.map (·.2.inject)).foldl (fun d l => dropDeadHeads l d) d

/-- A slice-direction starts one frame (R256). -/
def schedulerFrameStart (sd : Nat) (d : Device) : Device :=
  if 2 * d.slices ≤ sd ∨ ¬ d.sliceCarries (sd / 2) then d else
  let d := (((d.passTo (natAt d.pipe.startAt sd)).stageHolds sd).arriveAll.dropDeadFrames).settle
  match d.nextPort sd with
  | none => d
  | some p => (d.portNode p).elim d (fun n => (d.proposal n).elim d (fun x => (d.startFrame n x.1 x.2)))

/-- The scheduler's state of every queue. -/
def setQueues (d : Device) (l : List (Nat × QueueX)) : Device := { d with queues := l }

/-- Finish tag `t` of a queue that is not active in node `n`: brought up to V(n) when it lies behind it. -/
def raisedTo (d : Device) (active : Bool) (node t n : Nat) : Nat :=
  if active ∧ node = n then t else tagMax t (d.rd O.NODE_VTIME n)

/-- Once per second of the slice cycle count the finish tag of every queue that is not active in a node and lies behind its
virtual time is brought up to it (R258), for node after node in the order of their rows (DEDUCED, log entry 37). -/
def tagRenormalize (d : Device) : Device :=
  if ¬ d.clockOn then d else
  let d := (d.passTo ((d.cyc / 1250000000 + 1) * 1250000000)).settle
  let up := fun (x : QueueX) => { x with finish := (List.range 512).foldl (d.raisedTo x.active x.node) x.finish }
  let tag := (List.range 512).foldl (d.raisedTo false 0xFFFF) d.pipe.idleTag
  (d.setQueues (d.queues.map (fun e => (e.1, up e.2)))).setPipe { d.pipe with idleTag := tag }

end Device

/-- Run an operation on the frames: the queues are up to date before it and after it (R257). -/
def State.onQueues (f : Device → Device) (s : State) : Host.Outcome State Fault Refusal := s.on (fun d => (f d.settle).settle)

def execSchedulerFrameStart (sd : Nat) (s : State) := s.onQueues (Device.schedulerFrameStart sd)
def execTagRenormalize (s : State) := s.on Device.tagRenormalize

end Sys2Proof.Machine
end

