-- ==== Sys2Proof/Machine/Banks.lean ====
section
/-!
DEFINITION. Cipher banks (R196 to R212): the turns of a frame, the key-schedule cache, the turn scheduler, the umpire core with
its retrials and strikes, known-answer tests, the retirement of cores and the takeover.
-/
namespace Sys2Proof.Machine

/-! ### The text of a frame and its turns (R180, R197) -/

/-- Turns that make the tag mask and the keystream of `n` bytes. -/
def turnsFor (n : Nat) : Nat := ceilDiv (ceilDiv n 16 + 1) 8

/-- Turns of a frame (R197). -/
def Frame.turnsNeeded (f : Frame) : Nat := turnsFor f.textLen

/-- Turns that the frame's first `k` cells need. -/
def Frame.turnsBy (f : Frame) (k : Nat) : Nat := turnsFor (min f.textLen (128 * k - f.hdr - f.offset))

/-- The data cell that first needs keystream cell `k` (R197). -/
def Frame.cellOfTurn (f : Frame) (k : Nat) : Nat := (f.hdr + f.clearUser + (128 * k - 16)) / 128

/-- The fault source of a bank (R366). -/
def bankSrc (b : Nat) : Nat := sliceSrc (b / 2) (2 + b % 2)

namespace Device

/-! ### The key-schedule cache (R204) -/

/-- A slot is pinned in bank `b`: a frame of its SA holds a context entry, a predicted one included, or its load is in
progress. -/
def pinned (d : Device) (b slot : Nat) : Bool :=
  d.pipe.frames.any (fun f => f.sd == b && (f.ctx.elim false (fun c => c.saRow == slot) || f.wait == some slot))

/-- The cached round keys of a slot, held as the key they come from. -/
def cachedKey (d : Device) (b slot : Nat) : Option Bytes :=
  ((d.bankOf b).cache.find? (fun e => e.slot == slot)).map (·.key)

/-- A lookup makes its entry the one used last. -/
def useCached (d : Device) (b slot : Nat) (key : Bytes) : Device :=
  d.setBank b { d.bankOf b with cache := (d.bankOf b).cache.filter (fun e => e.slot != slot) ++ [⟨slot, key⟩] }

/-- The cache without its least recently used unpinned entry when it is full; nothing when every entry is pinned. -/
def cacheRoom (d : Device) (b : Nat) : Option (List CacheEnt) :=
  let l := (d.bankOf b).cache
  if l.length < 256 then some l else (l.find? (fun e => !d.pinned b e.slot)).map (fun v => l.filter (fun e => e.slot != v.slot))

/-- A load of `slot` begins, unless one is in progress: in the next clock in which the expander has accepted no other. -/
def startLoad (d : Device) (b slot : Nat) : Device :=
  let x := d.bankOf b
  if x.loads.any (fun e => e.1 == slot) then d else
  d.setBank b { x with loads := x.loads ++ [(slot, x.loads.foldl (fun m e => max m (e.2 + 1)) d.cyc)] }

/-- The lookup of frame `f` for SA `sa` (E4, D3, or E9 when another SA is in force): the frame takes the powers of H that the
context holds (R203) and the cached schedule, or waits for a load. -/
def keyLookup (d : Device) (f : Frame) (sa : Nat) : Frame × Device :=
  let b := f.sd
  let slot := d.rd O.SA_SLOT sa
  let f := { f with sa := sa, slot := slot, h := (d.ctxOf slot).h }
  match d.cachedKey b slot with
  | some key => ({ f with schedKey := some key, wait := none }, (d.inc64 O.BANK_KS_HITS b).useCached b slot key)
  | none => ({ f with schedKey := none, wait := some slot },
      ((d.inc64 O.BANK_KS_MISSES b).pmcSlice b 0x0C 1 (passFrame f false)).startLoad b slot)

/-- The direction attribute of a context fits the bank (R204, R290). -/
def attrFits (d : Device) (b slot : Nat) : Bool := (d.ctxOf slot).attr % 4 == 1 + b % 2

/-- Frames of bank `b` that wait for `slot`. -/
def waiters (d : Device) (b slot : Nat) : List Frame := d.pipe.frames.filter (fun f => f.sd == b && f.wait == some slot)

/-- A frame that was late at D4 is dropped once its key has passed its check (R185). -/
def lateDrop (d : Device) (f : Frame) : Device := (d.inc64 O.SC_RX_LATE f.sc).dropWhole f

/-- A waiting frame takes its schedule; one whose SA has left the slot meanwhile waits for none, and is looked up anew at E9
(R182). -/
def takeSchedule (slot : Nat) (d : Device) (f : Frame) : Device :=
  if f.stage = .late then d.lateDrop f
  else if d.slotRow slot = f.sa then d.setFrame { f with wait := none, schedKey := some (d.ctxOf slot).sak }
  else d.setFrame { f with wait := none }

/-- A frame whose key slot is BAD is dropped (R182, R185, R194). -/
def badKeyDrop (d : Device) (f : Frame) : Device :=
  (if ¬ f.decrypt ∧ f.pn ≠ 0 then d else d.inc64 O.SC_BAD_KEY_DROPS f.sc).discardFrame f

/-- The load of a slot whose SA has left it ends without an entry; so does that of a BAD slot, whose frames are dropped. -/
def slotEmpty (d : Device) (slot : Nat) : Bool := d.slotRow slot == 0xFFFFFFFF
def deadSlot (d : Device) (slot : Nat) : Bool := d.rd O.SA_STATE (d.slotRow slot) == 7

def endLoad (d : Device) (b slot : Nat) : Device :=
  d.setBank b { d.bankOf b with loads := (d.bankOf b).loads.filter (fun e => e.1 != slot) }

def setCache (d : Device) (b : Nat) (l : List CacheEnt) : Device := d.setBank b { d.bankOf b with cache := l }

/-- The load of `slot` completes; `ok` says that its check code agrees in the bank. A load that finds every entry pinned
waits. -/
def keyScheduleLoadDone (b slot : Nat) (ok : Bool) (d : Device) : Device :=
  match (d.bankOf b).loads.find? (fun e => e.1 == slot) with
  | none => d
  | some e =>
    let d := d.passTo (e.2 + 24)
    if d.slotEmpty slot then (d.waiters b slot).foldl (takeSchedule slot) (d.endLoad b slot)
    else if d.deadSlot slot then (d.waiters b slot).foldl badKeyDrop (d.endLoad b slot)
    else if ok && d.ctxGood slot && d.attrFits b slot then
      (d.cacheRoom b).elim d (fun l =>
        (d.waiters b slot).foldl (takeSchedule slot) ((d.endLoad b slot).setCache b (l ++ [⟨slot, (d.ctxOf slot).sak⟩])))
    else (d.waiters b slot).foldl badKeyDrop ((d.endLoad b slot).ctxFails slot)

/-! ### The keystream buffer (R198) -/

/-- Keystream cells of a frame that have been applied whole (R197): their last block covers the bytes up to 16 short of
it. -/
def ksUsed (f : Frame) : Nat :=
  if cellCount f.data.length ≤ f.applied then f.turns else min f.turns (f.ctx.elim 0 (fun c => (c.textBytes + 16) / 128))

/-- Keystream cells a frame holds: those computed and not yet applied. -/
def ksHeld (f : Frame) : Nat := f.turns - ksUsed f + f.pred.elim 0 (·.cells)

/-- One more keystream cell of port `p` fits: 64 in the bank, 8 of a port. -/
def ksRoom (d : Device) (b p : Nat) : Bool :=
  let l := d.pipe.frames.filter (fun f => f.sd == b)
  decide ((l.map ksHeld).sum < 64) && decide (((l.filter (fun f => f.port == p)).map ksHeld).sum < 8)

/-- Keystream cells of a frame that are held: those of demand turns whose retrial is outstanding, and those that a takeover
issues again (R207, R210). -/
def heldCells (d : Device) (f : Frame) : List Nat :=
  ((d.bankOf f.sd).held.filter (fun h => h.frame == f.id && !h.ahead)).map (·.cell) ++
  (d.bankOf f.sd).takeover.elim [] (fun t => (t.redo.filter (fun x => x.frame == f.id)).map (·.cell))

/-- Keystream cells of a frame that are settled: those before the first one that is held. -/
def turnsReady (d : Device) (f : Frame) : Nat := (d.heldCells f).foldl min f.turns

/-! ### The turn scheduler (R200) -/

/-- A context entry of kind 0 or 2 (R199). -/
def demandCtx (f : Frame) : Bool := f.ctx.elim false (fun c => c.kind != .predicted)

/-- A frame has a demand job: a context entry of kind 0 or 2, its schedule, and a cell still to be computed. -/
def hasDemand (d : Device) (b : Nat) (f : Frame) : Bool :=
  f.sd == b && demandCtx f && f.schedKey.isSome && decide (f.turns < f.turnsNeeded) && d.ksRoom b f.port

/-- How far port `p` comes after the port served last. -/
def portTurn (last p : Nat) : Nat := (p % 8 + 16 - last % 8 - 1) % 8

/-- The clocks from the write of a cell to the start of E12 or D8 (R147, R148). -/
def toKeystream (f : Frame) : Nat := if f.decrypt then 58 else 95

/-- The cycle at which cell 0 comes to E12, 9 clocks after E9, or to D8, 6 clocks after D6; of a frame that has taken its entry
at D3 and is still queued, 58 clocks after its clock 0. -/
def headAtKeystream (f : Frame) : Nat :=
  if ¬ f.decrypt then f.ordered.getD f.started + 9 else if f.stage = .queued then f.arrival + 58 else f.started + 6

/-- The deadline of a job (R200): the cycle at which the data cell that first needs keystream cell `k` comes to E12 or D8, one
cell in a clock and none before it has arrived. -/
def deadline (d : Device) (f : Frame) (k : Nat) : Nat :=
  let n := f.cellOfTurn k
  max (headAtKeystream f + n) (if f.saf then 0 else d.cellArrives f n + toKeystream f)

/-- The better of two jobs: the earlier deadline, then the port's turn. -/
def sooner (d : Device) (last : Nat) (f g : Frame) : Bool :=
  decide (d.deadline f f.turns < d.deadline g g.turns) ||
  (d.deadline f f.turns == d.deadline g g.turns && decide (portTurn last f.port < portTurn last g.port))

/-- The demand job of bank `b`. -/
def demandJob (d : Device) (b : Nat) : Option Frame :=
  (d.pipe.frames.filter (d.hasDemand b)).foldl (fun (best : Option Frame) f => match best with
    | none => some f
    | some g => if d.sooner (d.bankOf b).lastPort f g then some f else some g) none

/-- The SC that a prediction is for. -/
def predSc (f : Frame) : Nat := f.pred.elim f.sc (fun p => p.sa / 4)

/-- What R273 names stops run-ahead computation for the port (R154): the egress paused, the pacer, a holding SC, a port that is
not ready, or the buffer's XOFF. Node and port are known once the frame is classified. -/
def aheadHeld (d : Device) (f : Frame) : Bool :=
  (f.stage == .queued && (d.nodeHeld f.node || !d.portReady f.egress || (f.ring.isNone && d.pacerHolds f.q))) ||
  d.scHolding (predSc f) || (List.range 8).any (fun c => (natAt (d.portOf f.port).holds c).testBit 0)

/-- A frame has a run-ahead job. -/
def hasAhead (d : Device) (b : Nat) (f : Frame) : Bool :=
  f.sd == b && f.pred.elim false (fun p =>
    decide (p.cells < d.rd O.RUNAHEAD_DEPTH_CELLS f.slice) && (d.cachedKey b (d.rd O.SA_SLOT p.sa)).isSome) &&
  d.ksRoom b f.port && !d.aheadHeld f

/-- The run-ahead job of bank `b`, round-robin over ports. -/
def aheadJob (d : Device) (b : Nat) : Option Frame :=
  (d.pipe.frames.filter (d.hasAhead b)).foldl (fun (best : Option Frame) f => match best with
    | none => some f
    | some g => if portTurn (d.bankOf b).lastAhead f.port < portTurn (d.bankOf b).lastAhead g.port then some f else some g) none

/-- The umpire core of bank `b` audits (R206). -/
def audits (d : Device) (b : Nat) : Bool := d.rd O.BANK_STATE b == 0 && (d.bankOf b).takeover.isNone

/-- The working core whose block the umpire recomputes. -/
def sampledCore (d : Device) (b : Nat) : Nat :=
  Config.lfsrAfter (d.bankOf b).lfsr (d.cyc - (d.bankOf b).lfsrAt) % 8

/-- A turn is issued: it is kept for the clocks it takes. -/
def keepTurn (d : Device) (b : Nat) (t : Turn) : Device :=
  d.setBank b { d.bankOf b with turns := t :: (d.bankOf b).turns.filter (fun x => decide (d.cyc < x.at_ + 15)) }

/-- A turn is issued and sampled (R206). -/
def countTurn (d : Device) (b : Nat) (kind : TurnKind) (frame cell : Nat) : Device :=
  let d := d.keepTurn b ⟨d.cyc, kind, frame, cell⟩
  if d.audits b then d.inc64 O.BANK_SAMPLED b else d

/-- The comparison of a turn differs: the cell is held (R207). -/
def holdCell (d : Device) (b : Nat) (f : Frame) (cell : Nat) (ahead : Bool) : Device :=
  let d := (d.inc64 O.BANK_MISMATCHES b).pmcSlice b 0x0D 1 passAll
  d.setBank b { d.bankOf b with held := (d.bankOf b).held ++ [⟨d.sampledCore b, f.id, cell, ahead, false⟩] }

/-- The first waiting retrial, of a demand cell or of a run-ahead cell. -/
def retrialWaits (d : Device) (b : Nat) (ahead : Bool) : Option Held :=
  (d.bankOf b).held.find? (fun h => h.ahead == ahead && !h.issued)

/-- The core a retrial runs on (R207). -/
def retrialCore (h : Held) : Nat := (h.core + 1) % 8

/-- A retrial is issued on the next core. It is sampled like any turn: when the umpire takes that core's block and differs, the
block is held again (R206, R207). -/
def issueRetrial (d : Device) (b : Nat) (mismatch : Bool) (h : Held) : Device :=
  let again := mismatch && d.audits b && d.sampledCore b == retrialCore h
  let d := (d.inc64 O.BANK_RETRIALS b).countTurn b (.retrial (retrialCore h)) h.frame h.cell
  let d := d.setBank b { d.bankOf b with held := (d.bankOf b).held.map (fun x => if x = h then { x with issued := true } else x) }
  if ¬ again then d else
  let d := (d.inc64 O.BANK_MISMATCHES b).pmcSlice b 0x0D 1 passAll
  d.setBank b { d.bankOf b with held := (d.bankOf b).held ++ [⟨retrialCore h, h.frame, h.cell, h.ahead, false⟩] }

/-- The next retrial of a takeover is issued, on the umpire core (R210). -/
def issueRedo (d : Device) (b : Nat) (t : Takeover) : Device :=
  let d := (d.inc64 O.BANK_RETRIALS b).keepTurn b ⟨d.cyc, .retrial 8, 0, 0⟩
  d.setBank b { d.bankOf b with takeover := some { t with left := t.left - 1 } }

def setLastPort (d : Device) (b p : Nat) : Device := d.setBank b { d.bankOf b with lastPort := p % 8 }
def setLastAhead (d : Device) (b p : Nat) : Device := d.setBank b { d.bankOf b with lastAhead := p % 8 }

/-- A demand job is issued. -/
def issueDemand (d : Device) (b : Nat) (mismatch : Bool) (f : Frame) : Device :=
  let d := (d.countTurn b .demand f.id f.turns).setLastPort b f.port
  let d := if mismatch && d.audits b then d.holdCell b f f.turns false else d
  d.setFrame { f with turns := f.turns + 1, ctx := f.ctx.map (GcmCtx.turn (f.schedKey.getD []) (f.turns == 0)) }

/-- A keystream cell computed ahead is discarded: a wasted slot (R155, R170). -/
def wasteAhead (d : Device) (f : Frame) : Device :=
  ((d.inc64 O.RUNAHEAD_WASTED_CELLS f.slice).endSlots f.sd 0x03 1).setSlotCells f.sd (d.slotCells f.sd + 1)

/-- A run-ahead job is issued. A cell that differs is discarded at once. -/
def issueAhead (d : Device) (b : Nat) (mismatch : Bool) (f : Frame) : Device :=
  let n := f.pred.elim 0 (·.cells)
  let d := (d.countTurn b .ahead f.id n).setLastAhead b f.port
  if mismatch && d.audits b then (d.holdCell b f n true).wasteAhead f
  else
    let key := (f.ctx.bind (fun c => d.cachedKey b c.saRow)).getD []
    d.setFrame { f with pred := f.pred.map (fun p => { p with cells := p.cells + 1 }), ctx := f.ctx.map (GcmCtx.turn key (n == 0)) }

/-- The bank has clocks: its slice is neither GATED nor RETURNING (R91). -/
def bankClocked (d : Device) (b : Nat) : Bool :=
  d.clockOn && d.rd O.SLICE_STATE (b / 2) != 3 && d.rd O.SLICE_STATE (b / 2) != 4

/-- The first clock in which bank `b` may issue another turn. -/
def nextTurn (d : Device) (b : Nat) : Nat := (d.bankOf b).turns.head?.elim 0 (fun t => t.at_ + 1)

/-! ### Known-answer tests that fall due (R209) -/

/-- The cycle at which the test of a core falls due. -/
def katDue (d : Device) (b core : Nat) : Nat := natAt (d.bankOf b).katAt core + msCycles (d.rd O.BANK_KAT_INTERVAL_MS b)

/-- The cores whose tests are due. -/
def katsDue (d : Device) (b : Nat) : List Nat :=
  (List.range 9).filter (fun k => !(d.rd O.BANK_RETIRED_MASK b).testBit k && decide (d.katDue b k ≤ d.cyc))

/-- Tests that have fallen due while the bank had idle clocks have run in them and have passed: one that fails is commanded
(DESIGN CHOICE, log entry 35). -/
def idleKats (d : Device) (b : Nat) : Device :=
  ((d.katsDue b).take (d.cyc - d.nextTurn b)).foldl (fun d k => d.setKat b k) d

/-- The turn of a known-answer test. -/
def katTurn (d : Device) (b core : Nat) : Device := d.keepTurn b ⟨d.cyc, .kat core, 0, 0⟩

/-- A test that is due takes the turn: an idle one, or the next when it is 1 ms late (R209). -/
def katTakes (d : Device) (b : Nat) (demand : Bool) : Option Nat :=
  (d.katsDue b).find? (fun k => !demand || decide (d.katDue b k + msCycles 1 ≤ d.cyc))

/-- The turn is the test's, and the test passes; a demand cell that it delays counts as stalled. -/
def issueKat (d : Device) (b core : Nat) : Device :=
  let d := if (d.demandJob b).isSome then d.inc64 O.BANK_KS_STALLS b else d
  (d.katTurn b core).setKat b core

/-- What bank `b` issues below the retrials: the demand job with the earliest deadline, a known-answer test, the retrial of a
run-ahead cell, or a run-ahead job. -/
def issueBelow (d : Device) (b : Nat) (mismatch : Bool) : Device :=
  match d.katTakes b (d.demandJob b).isSome, d.demandJob b, d.retrialWaits b true, d.aheadJob b with
  | some k, _, _, _ => d.issueKat b k
  | none, some f, _, _ => d.issueDemand b mismatch f
  | none, none, some h, _ => d.issueRetrial b mismatch h
  | none, none, none, some f => d.issueAhead b mismatch f
  | none, none, none, none => d

/-- The retrials of a takeover that are still to be issued. -/
def redoLeft (d : Device) (b : Nat) : Option Takeover := (d.bankOf b).takeover.filter (fun t => t.left != 0)

/-- Bank `b` issues a turn (R200): a retrial first, in a slice that still has clocks; the rest while the slice carries
frames. -/
def bankTurn (b : Nat) (mismatch : Bool) (d : Device) : Device :=
  if 2 * d.slices ≤ b ∨ ¬ d.bankClocked b ∨ d.rd O.BANK_STATE b = 3 then d else
  let d := (d.passTo (d.nextTurn b)).idleKats b
  match d.redoLeft b, d.retrialWaits b false with
  | some t, _ => d.issueRedo b t
  | none, some h => d.issueRetrial b mismatch h
  | none, none => if d.sliceCarries (b / 2) then d.issueBelow b mismatch else d

/-! ### Retirement and takeover (R208, R210, R212) -/

def setTakeover (d : Device) (b : Nat) (x : Option Takeover) : Device := d.setBank b { d.bankOf b with takeover := x }

/-- No core can stand in: a DEGRADED fault names the core, the bank is FAILED, and the region level takes the slice out of
service (R11, R208). -/
def bankFail (d : Device) (b core cause : Nat) : Device :=
  let d := (d.wr O.BANK_STATE b 3).faultUnit (bankSrc b) cause core 2
  let st := d.rd O.SLICE_STATE (b / 2)
  if st = 1 ∨ st = 4 then d.sliceFail (b / 2) 2 else d

/-- The turn gave core `core` a block. -/
def usesCore (core : Nat) (t : Turn) : Bool := match t.kind with
  | .demand | .ahead => true
  | .retrial c => c == core
  | .kat _ => false

/-- The umpire core begins to take over working core `core`: the blocks that core took in the last 15 clocks are to be issued
again. -/
def startTakeover (d : Device) (b core cause : Nat) : Device :=
  let redo := (d.bankOf b).turns.filter (fun t => decide (d.cyc < t.at_ + 15) && usesCore core t)
  d.setTakeover b (some ⟨core, d.cyc, cause, redo, redo.length⟩)

/-- A core is retired (R208): `cause` is 0x03, or 0x05 after a failed known-answer test. -/
def retireCore (d : Device) (b core cause : Nat) : Device :=
  if (d.rd O.BANK_RETIRED_MASK b).testBit core then d else
  let d := d.wrBit O.BANK_RETIRED_MASK b core true
  if ¬ d.audits b then d.bankFail b core cause
  else if core = 8 then (d.wr O.BANK_STATE b 1).faultUnit (bankSrc b) cause 8 2
  else d.startTakeover b core cause

/-- The 15 clocks of a takeover are over. A bank that has failed meanwhile stays FAILED, its fault reported by the region. -/
def coreTakeoverDone (b : Nat) (d : Device) : Device :=
  (d.bankOf b).takeover.elim d (fun t =>
    let d := ((d.passTo (t.at_ + 15)).add64 O.BANK_RETRIALS b t.left).setTakeover b none
    let d := d.wr O.BANK_SUBST_CORE b t.core
    if d.rd O.BANK_STATE b = 3 then d else (d.wr O.BANK_STATE b 2).faultUnit (bankSrc b) t.cause t.core 2)

/-! ### Strikes (R207, R208) -/

/-- The strikes of a core within the window, newest first. -/
def strikesOf (d : Device) (b core : Nat) : List Nat :=
  ((d.bankOf b).strikes.filter (fun e => e.1 == core && decide (d.cyc < e.2 + msCycles (d.rd O.BANK_STRIKE_WINDOW_MS b)))).map (·.2)

/-- A strike: CORRECTED, naming bank and core. -/
def strike (b : Nat) (d : Device) (core : Nat) : Device :=
  (d.setBank b { d.bankOf b with strikes := (core, d.cyc) :: (d.bankOf b).strikes }).faultUnit (bankSrc b) 0x05 core 1

/-- A core has reached its limit and is not retired. -/
def strikeDue (d : Device) (b core : Nat) : Bool :=
  decide (d.rd O.BANK_STRIKE_LIMIT b ≤ (d.strikesOf b core).length) && !(d.rd O.BANK_RETIRED_MASK b).testBit core

/-- Another core is due before `core`: at an earlier edge, or on the same one with a lower number (R212). -/
def dueBefore (d : Device) (b core k : Nat) : Bool :=
  let t := fun c => (d.strikesOf b c).headD 0
  k != core && d.strikeDue b k && (decide (t k < t core) || (t k == t core && decide (k < core)))

def coreStrikeRetire (b core : Nat) (d : Device) : Device :=
  if 2 * d.slices ≤ b ∨ 8 < core ∨ ¬ d.strikeDue b core ∨ (List.range 9).any (d.dueBefore b core) then d
  else d.retireCore b core 3

/-- The retrial equals neither: the frame is discarded and a DEGRADED fault names the bank. -/
def retrialNeither (d : Device) (b : Nat) (h : Held) : Device :=
  let d := (if h.ahead then none else d.frame? h.frame).elim d (fun f => (d.inc64 O.BANK_DISCARDS b).discardFrame f)
  d.fault (bankSrc b) 0x0500 2 (leBytes 4 b)

/-- The oldest retrial issued in bank `b` has its result (R207). -/
def retrialResult (b : Nat) (o : RetrialOutcome) (d : Device) : Device :=
  ((d.bankOf b).held.find? (·.issued)).elim d (fun h =>
    let d := d.setBank b { d.bankOf b with held := (d.bankOf b).held.filter (fun x => x != h) }
    match o with
    | .umpire => d.strike b h.core
    | .core => d.strike b 8
    | .neither => ([h.core, (h.core + 1) % 8, 8].foldl (strike b) d).retrialNeither b h)

/-! ### Known-answer tests and the LFSR (R206, R209) -/

/-- A test has run. -/
def katEnd (d : Device) (b core : Nat) (passed : Bool) : Device :=
  let d := d.setKat b core
  if passed then d else (d.inc32 O.BANK_KAT_FAILS b).retireCore b core 5

/-- A test that has waited 1 ms for an idle turn goes ahead of demand, and delays a cell (R209). -/
def katDelays (d : Device) (b due : Nat) : Device :=
  if (d.demandJob b).isSome then (d.passTo (due + msCycles 1)).inc64 O.BANK_KS_STALLS b else d

/-- Pending retrials are issued before the test (R212), one in a clock. -/
def retrialsFirst : Nat → Nat → Device → Device
  | 0, _, d => d
  | k + 1, b, d => (d.retrialWaits b false).elim d (fun h => retrialsFirst k b ((d.passTo (d.nextTurn b)).issueRetrial b false h))

/-- The test of a core falls due and takes a turn: every BANK_KAT_INTERVAL_MS, and at once in BOOT and while the slice returns
(R92, R208, R209). A retired core is not tested, nor one without a clock. -/
def bankKat (b core : Nat) (passed : Bool) (d : Device) : Device :=
  let st := d.rd O.SLICE_STATE (b / 2)
  if 2 * d.slices ≤ b ∨ 8 < core ∨ ¬ d.clockOn ∨ st = 3 ∨ (d.rd O.BANK_RETIRED_MASK b).testBit core then d else
  if d.mode = .boot ∨ st = 4 then ((d.passTo (d.nextTurn b)).katTurn b core).katEnd b core passed else
  let due := d.katDue b core
  let d := retrialsFirst (d.bankOf b).held.length b ((d.passTo due).katDelays b due)
  ((d.passTo (d.nextTurn b)).katTurn b core).katEnd b core passed

/-- The LFSR of bank `b` is reseeded from the DRBG every 1 ms. A DRBG that cannot serve leaves it as it is. -/
def umpireLfsrReseed (b : Nat) (d : Device) : Device :=
  if 2 * d.slices ≤ b ∨ ¬ d.clockOn ∨ ¬ d.drbgReady then d
  else (d.passTo ((d.bankOf b).lfsrAt + msCycles 1)).seedLfsr b

/-! ### BANK_CMD (R211) -/

def bankRetireCore (r : Req) (b core : Nat) (d : Device) : Nat × Device :=
  runCmd r O.BANK_CMD b
    { Conds.none with
      s4 := [(decide (core < 8) && d.rd O.BANK_STATE b != 0, 0xA303)]
      s6 := [(decide (8 < core), 0xA101), ((d.rd O.BANK_RETIRED_MASK b).testBit core, 0xA106)] }
    (fun d => (some 0, d.retireCore b core 3)) d

def katNowCore (r : Req) (b core : Nat) (passed : Bool) (d : Device) : Nat × Device :=
  runCmd r O.BANK_CMD b
    { Conds.none with
      s4 := [(d.rd O.SLICE_STATE (b / 2) != 1, 0xA303)]
      s6 := [(decide (8 < core), 0xA101)] }
    (fun d => (some 0, ((d.passTo (d.nextTurn b)).katTurn b core).katEnd b core passed)) d

end Device

def execBankTurn (b : Nat) (mismatch : Bool) (s : State) := s.on (Device.bankTurn b mismatch)
def execRetrialResult (b : Nat) (o : RetrialOutcome) (s : State) := s.on (Device.retrialResult b o)
def execCoreStrikeRetire (b core : Nat) (s : State) := s.on (Device.coreStrikeRetire b core)
def execCoreTakeoverDone (b : Nat) (s : State) := s.on (Device.coreTakeoverDone b)
def execBankKat (b core : Nat) (passed : Bool) (s : State) := s.on (Device.bankKat b core passed)
def execUmpireLfsrReseed (b : Nat) (s : State) := s.on (Device.umpireLfsrReseed b)
def execBankRetire (r : Req) (b core : Nat) (s : State) := s.on (fun d => d.direct r fun d => d.bankRetireCore r b core)
def execKatNow (r : Req) (b core : Nat) (passed : Bool) (s : State) := s.on (fun d => d.direct r fun d => d.katNowCore r b core passed)
def execKeyScheduleLoadDone (b slot : Nat) (ok : Bool) (s : State) := s.onQueues (Device.keyScheduleLoadDone b slot ok)

end Sys2Proof.Machine
end

