-- ==== Sys2Proof/Machine/TransClock.lean ====
section
/-!
DEFINITION. The transparent clock (R119 to R125): recognizing a PTP event frame in plaintext, the corrected correctionField,
and the repair of the UDP checksum.
-/
namespace Sys2Proof.Machine

/-! ### Reading a frame -/

/-- The 16-bit word at `o`, in network order. -/
def word16 (data : Bytes) (o : Nat) : Nat := beNat (slice o 2 data)
def byteAt (data : Bytes) (o : Nat) : Nat := beNat (slice o 1 data)

/-- `data` with the bytes from `o` on replaced by `bs`. -/
def patch (data : Bytes) (o : Nat) (bs : Bytes) : Bytes := data.take o ++ bs ++ data.drop (o + bs.length)

/-- The word at `o` is the TPID of a VLAN tag (R176). -/
def isTag (data : Bytes) (o : Nat) : Bool := word16 data o == 0x8100 || word16 data o == 0x88A8

/-- VLAN tags directly after the source address, at most two. -/
def tagCount (data : Bytes) : Nat := if isTag data 12 then (if isTag data 16 then 2 else 1) else 0

/-- The offset of the EtherType behind the tags, and the EtherType. -/
def typeAt (data : Bytes) : Nat := 12 + 4 * tagCount data
def etherType (data : Bytes) : Nat := word16 data (typeAt data)

/-! ### PTP event frames (R119) -/

/-- A PTP frame: the offset of its header, that of its UDP checksum with whether it is IPv6, the message type, and whether
messageLength is in order. -/
structure Ptp where
  at_ : Nat
  udp : Option (Nat × Bool)
  type : Nat
  lengthOk : Bool
deriving DecidableEq, Repr

/-- Where the PTP header begins, with the place of a UDP checksum. -/
def ptpPlace (data : Bytes) : Option (Nat × Option (Nat × Bool)) :=
  let o := typeAt data + 2
  let u4 := o + 4 * (byteAt data o % 16)
  let u6 := o + 40
  if etherType data = 0x88F7 then some (o, none)
  else if etherType data = 0x0800 ∧ byteAt data o / 16 = 4 ∧ byteAt data (o + 9) = 17 ∧ word16 data (u4 + 2) = 319 then
    some (u4 + 8, some (u4 + 6, false))
  else if etherType data = 0x86DD ∧ byteAt data (o + 6) = 17 ∧ word16 data (u6 + 2) = 319 then some (u6 + 8, some (u6 + 6, true))
  else none

/-- The frame is a PTP event frame, but perhaps for its messageLength. -/
def ptpOf (data : Bytes) : Option Ptp :=
  (ptpPlace data).bind (fun x =>
    let o := x.1
    let n := word16 data (o + 2)
    if byteAt data (o + 1) % 16 = 2 ∧ byteAt data o % 16 ≤ 3 ∧ o + 16 ≤ min 128 data.length then
      some ⟨o, x.2, byteAt data o % 16, decide (34 ≤ n ∧ n ≤ data.length - o)⟩
    else none)

/-- TC_MODE `mode` corrects messages of this type (R120). -/
def tcCorrects (mode type : Nat) : Bool := (mode == 1 && decide (type ≤ 1)) || mode == 2

/-! ### The correction (R121, R122) -/

/-- The largest correctionField. -/
def corrMax : Int := 0x7FFFFFFFFFFFFFFF

/-- The new correctionField, and whether it is saturated. -/
def corrected (old residence : Int) : Int × Bool :=
  if old = corrMax ∨ corrMax < old + residence then (corrMax, true) else (old + residence, false)

/-- One's complement folding of a sum. -/
def fold16 (s : Nat) : Nat := let t := s % 65536 + s / 65536; t % 65536 + t / 65536

/-- A UDP checksum after bytes change from `old` to `new`, by RFC 1624. -/
def repairSum (sum : Nat) (old new : Bytes) : Nat :=
  let f := fun (bs : Bytes) => [0, 2, 4, 6].map (word16 bs)
  0xFFFF - fold16 ((0xFFFF - sum) + ((f old).map (0xFFFF - ·)).sum + (f new).sum)

/-- Repair the UDP checksum at `u`: an IPv4 checksum of zero stays, an IPv6 result of zero is sent as 0xFFFF. -/
def repairAt (u : Nat × Bool) (old new data : Bytes) : Bytes :=
  let c := word16 data u.1
  let r := repairSum c old new
  if ¬ u.2 ∧ c = 0 then data else patch data u.1 (beBytes 2 (if u.2 ∧ r = 0 then 0xFFFF else r))

/-- The frame with `residence` added to its correctionField, and whether that saturated. -/
def correctFrame (p : Ptp) (residence : Int) (data : Bytes) : Bytes × Bool :=
  let old := slice (p.at_ + 8) 8 data
  let x := corrected (ofTwos 64 (beNat old)) residence
  let new := beBytes 8 (toTwos 64 x.1)
  let data := patch data (p.at_ + 8) new
  (p.udp.elim data (fun u => repairAt u old new data), x.2)

namespace Device

/-- The PTP event frame that `f` is, when its ingress port corrects it; one whose messageLength is out of order is counted,
whatever TC_MODE says, and forwarded unchanged (R119, R120). Injected frames are never corrected. -/
def tcFrame (d : Device) (f : Frame) (data : Bytes) : Option Ptp × Device :=
  if f.ring.isSome then (none, d) else
  match ptpOf data with
  | none => (none, d)
  | some p => if ¬ p.lengthOk then (none, d.inc64 O.TC_MALFORMED f.port)
              else (if tcCorrects f.tc p.type then some p else none, d)

/-- The transmit latency of a port in 2⁻¹⁶ ns (R116). -/
def txLatency (d : Device) (p : Nat) : Int := d.rdI 32 O.TS_TX_LATENCY p

/-- A frame in flight as it leaves (R123): corrected by its residence up to the instant its first bit left the ball; `tcDone` and
`tcSat` say what is to be counted. -/
def tcInFlight (d : Device) (f : Frame) : Frame × Device :=
  let x := d.tcFrame f f.full
  match x.1 with
  | none => (f, x.2)
  | some p =>
    let y := correctFrame p (f.txAt.getD d.clk.stepless + d.txLatency f.egress - f.base) f.full
    ({ f with full := y.1, tcDone := true, tcSat := y.2 }, x.2)

/-! ### Scheduled departures (R113, R124) -/

/-- The lead in force at a port, in ns. -/
def tcLead (d : Device) (p : Nat) : Nat :=
  let lead := d.rd O.TC_SCHED_LEAD_NS p
  if lead ≠ 0 then lead else
  if d.portSpeed p = 50 then 3000 else if d.portSpeed p = 100 then 1600 else if d.portSpeed p = 200 then 900
  else if d.portSpeed p = 400 then 500 else 350

/-- The wait for the port's next transmit block boundary, whose place no rule gives: a free value of less than one block. -/
def blockWait (d : Device) (p : Nat) : Nat × Device := (d.unstated.1 % (ceilDiv 80 (max 1 (d.portSpeed p)) + 1), d.unstated.2)

/-- The clock at a later cycle, every pending change counted. -/
def clockAt (d : Device) (cyc : Nat) : Clock := clockAtFrom d.clk.pend d.clk d.cyc cyc

/-- A pending change as far as it changes the rate: of a step, that it ends the slew (R112, R113). -/
def rateOnly (c : PhcChange) : PhcChange := match c with | .set _ | .step _ => .slewStop | _ => c

/-- The first cycle at which `ns` nanoseconds have passed at the rates in force and pending, steps left out (R113). -/
def cycleAfter (d : Device) (ns : Nat) : Nat :=
  reachFrom (d.clk.pend.map (fun e => (e.1, rateOnly e.2))) d.clk d.cyc (d.clk.acc + ns * 65536 * edgesPerS)

/-- Fix the departure of a frame whose PN is being assigned, and write its residence into the plaintext. -/
def tcSchedule (d : Device) (f : Frame) : Frame × Device :=
  let x := d.tcFrame f f.data
  match x.1 with
  | none => (f, x.2)
  | some p =>
    let w := x.2.blockWait f.egress
    let at_ := d.cycleAfter (d.tcLead f.egress) + w.1
    let y := correctFrame p ((d.clockAt at_).stepless - f.base) f.data
    ({ f with data := y.1, depart := some at_, tcSat := y.2 }, w.2)

end Device
end Sys2Proof.Machine
end

