-- ==== Sys2Proof/Machine/Macsec.lean ====
section
/-!
DEFINITION. MACsec on the wire (R176 to R189): the SecTAG as sent and as received, the AAD and the text of a frame, protection
and verification, PN recovery, and the commit of a verified frame.
-/
namespace Sys2Proof.Machine

/-! ### The SecTAG (R176 to R178) -/

/-- Offset of the EtherType 0x88E5, the TCI/AN byte, SL, and the tag's length, of a frame received with a SecTAG. -/
def tciOf (data : Bytes) : Nat := byteAt data (typeAt data + 2)
def slOf (data : Bytes) : Nat := byteAt data (typeAt data + 3)
def tagLen (data : Bytes) : Nat := if (tciOf data).testBit 5 then 16 else 8

/-- Bytes of secure data. -/
def secureLen (data : Bytes) : Nat := data.length - (typeAt data + tagLen data + 16)

/-- A received SecTAG is bad (R186). -/
def badTag (data : Bytes) : Bool :=
  let t := tciOf data
  t.testBit 7 || (t.testBit 6 && t.testBit 5) || (t.testBit 5 && t.testBit 4) || (t.testBit 3 != t.testBit 2) ||
  slOf data / 64 != 0 || decide (data.length < typeAt data + tagLen data + 18)

/-- SL is inconsistent (R178). -/
def badLength (data : Bytes) : Bool :=
  (slOf data != 0 && slOf data != secureLen data) || (slOf data == 0 && decide (secureLen data < 48))

/-- The frame without SecTAG and ICV (R145). -/
def stripTag (data : Bytes) : Bytes :=
  data.take (typeAt data) ++ slice (typeAt data + tagLen data) (secureLen data) data

/-- The PN field of a SecTAG. -/
def pnField (tag : Bytes) : Nat := beNat (slice 4 4 tag)

/-- The SecTAG of a transmitted frame (R176 to R178): `sci` is empty for an implicit SCI. -/
def buildTag (enc : Bool) (an userLen pn : Nat) (sci : Bytes) : Bytes :=
  beBytes 2 0x88E5 ++ leBytes 1 ((if sci = [] then 0 else 32) + (if enc then 12 else 0) + an) ++
  leBytes 1 (if userLen < 48 then userLen else 0) ++ beBytes 4 (pn % 2 ^ 32) ++ sci

/-! ### PN recovery (R187) -/

/-- The PN of a received frame: none when the high word is exhausted. -/
def recoverPn (xpn : Bool) (lo lowest : Nat) : Option Nat :=
  if ¬ xpn then some lo
  else if lowest % 2 ^ 32 ≤ lo then some (lowest / 2 ^ 32 * 2 ^ 32 + lo)
  else if lowest / 2 ^ 32 = 0xFFFFFFFF then none
  else some ((lowest / 2 ^ 32 + 1) * 2 ^ 32 + lo)

namespace Device

/-! ### Contexts of a frame -/

/-- The lowest acceptable PN of the receive SA in a resident slot (R290). -/
def lowestPn (d : Device) (slot : Nat) : Nat := (d.ctxOf slot).pn - (d.ctxOf slot).gap

/-- The confidentiality offset of a CA (R180). -/
def confOffset (d : Device) (ca : Nat) : Nat :=
  if d.rd O.CA_CONFIDENTIALITY ca = 2 then 30 else if d.rd O.CA_CONFIDENTIALITY ca = 3 then 50 else 0

/-- The IV of the SA in a resident slot for a PN (R181, R290). -/
def ivOf (d : Device) (slot pn : Nat) : Nat := (d.ctxOf slot).ivBase ^^^ pn

/-- What a transmit CA gives a frame before its PN: clear tags, e and offset (R177, R179). -/
def txShape (d : Device) (f : Frame) (sc : Nat) : Frame :=
  let ca := d.caOf sc
  { f with prot := true, sc := sc, clear := min (d.rd O.CA_CLEAR_TAGS ca) (tagCount f.data),
           enc := d.rd O.CA_CONFIDENTIALITY ca != 0, offset := d.confOffset ca }

/-- The SCI that a transmit SecTAG carries. -/
def tagSci (d : Device) (sc : Nat) : Bytes := if d.rd O.SC_TX_SCI_MODE sc = 0 then leBytes 8 (d.rd O.SC_SCI sc) else []

/-- The frame with its PN: SecTAG and IV (R181, R182). -/
def withPn (d : Device) (f : Frame) (pn : Nat) : Frame :=
  { f with pn := pn, iv := d.ivOf f.slot pn, ordered := some d.cyc,
           secTag := buildTag f.enc (f.sa % 4) f.userLen pn (d.tagSci f.sc) }

/-! ### The commit of a verified frame (R188) -/

/-- The replay state after PN `pn`. -/
def replayStep (d : Device) (ca pn : Nat) (x : SaCtx) : SaCtx :=
  if pn < x.pn then x else
  let next := pn + 1
  let w := d.rd O.CA_REPLAY_WINDOW ca
  let low := if w < next then max (x.pn - x.gap) (next - w) else x.pn - x.gap
  { x with pn := next, gap := next - low }

/-- Packets, octets and encrypted packets of an SA (R193). -/
def saStats (d : Device) (f : Frame) : Device :=
  let d := (d.inc64 O.SA_STAT_PKTS f.sa).add64 O.SA_STAT_OCTETS f.sa f.userLen
  if f.enc then d.inc64 O.SA_STAT_PKTS_ENCRYPTED f.sa else d

/-- Replay protection finds the frame late at its commit. -/
def commitLate (d : Device) (f : Frame) : Bool :=
  d.rdB O.CA_REPLAY_PROTECT f.ca && decide (f.pn < d.lowestPn f.slot)

/-- Commit: replay state, the used flag (R222), statistics, lap, learning. -/
def rxCommit (d : Device) (f : Frame) : Device :=
  let d := (d.setCtx f.slot (d.replayStep f.ca f.pn (d.ctxOf f.slot))).wrBit O.SA_FLAGS f.sa 3 true
  ((d.saStats f).lapProtected f.q f.len).learnCommit f

end Device
end Sys2Proof.Machine
end

