-- ==== Sys2Proof/Machine/HostPath.lean ====
section
/-!
DEFINITION. Frames in flight as they begin, and the host's paths into and out of the pipelines: punted and injected frames
(R165 to R168, R271).
-/
namespace Sys2Proof.Machine

/-- A frame of `n` stored bytes as it begins: everything that later stages fill is empty. -/
def Frame.begin (id : Nat) (decrypt : Bool) (port : Nat) (data : Bytes) (now : Nat) : Frame :=
  { id := id, decrypt := decrypt, port := port, data := data, len := data.length + 4, bad := false, stamp := 0, base := 0,
    tooLong := false, spoiled := false, arrival := now, ends := now, tc := 0, stage := .started, key := 0, profile := 0, flags := 0, looked := none,
    learnSeen := none, parkedAt := none, read := none, prot := false, secTag := [], icv := [], clear := 0, ca := 0xFFFF, sc := 0xFFFFFFFF, sa := 0,
    slot := 0xFFFFFFFF, pn := 0, enc := false, offset := 0, iv := 0, h := [], schedKey := none, wait := none, ctx := none,
    carry := [], pred := none, predicted := false, turns := 0, started := 0, ordered := none, stalled := 0, settled := false, committed := false,
    egress := 0, cls := 0, yellow := false, saf := false, cells := [], taken := 0, full := [],
    applied := 0, sent := 0, poison := false, depart := none, tcDone := false, tcSat := false, txAt := none, reason := 0, ring := none, done := false,
    learn := none }

namespace Device

/-- A frame joins the frames in flight. -/
def addFrame (d : Device) (f : Frame) : Device :=
  d.setPipe { d.pipe with frames := d.pipe.frames ++ [f], nextId := d.pipe.nextId + 1 }

/-- Drop a frame whose tenant no lap counts (R275). -/
def dropQuiet (d : Device) (f : Frame) : Device := d.dropWhole { f with ca := 0xFFFF }

/-- A frame of a cut-through port is forwarded store-and-forward (R160). -/
def forceSaf (d : Device) (f : Frame) : Frame × Device :=
  if f.saf then (f, d) else ({ f with saf := true }, d.inc64 O.PIPE_FORCED_SAF f.port)

/-! ### Punt (R165, R166) -/

/-- Punts of a reason in the present PHC second. -/
def puntsNow (d : Device) (reason : Nat) : Nat :=
  (d.pipe.punts.find? (fun e => e.1 == reason && e.2.1 == d.phcSecond)).elim 0 (·.2.2)
def countPunt (d : Device) (reason : Nat) : Device :=
  let n := d.puntsNow reason + 1
  d.setPipe { d.pipe with punts := (reason, d.phcSecond, n) :: d.pipe.punts.filter (fun e => e.1 != reason) }

/-- The RUNNING ring of kind punt for a reason. -/
def puntRing (d : Device) (reason : Nat) : Option Nat :=
  let n := d.rd O.PUNT_RING reason
  if n < 64 ∧ d.rd O.RING_STATE n = 1 ∧ d.rd O.RING_KIND n = 1 then some n else none

/-- Cells of the punt and inject partition are free for `n` stored bytes. -/
def puntRoom (d : Device) (n : Nat) : Bool := decide (d.rd O.BUFP_USED_CELLS 3 + cellCount n ≤ d.partSize 3)

/-- Take the frame's cells from the punt and inject partition. -/
def takePart3 (d : Device) (f : Frame) : Frame × Device :=
  (List.range (cellCount f.data.length)).foldl (fun x _ => (x.2.useCell 3).addCell x.1 (.part 3)) (f, d)

/-- A frame received whole is punted for `reason`. -/
def puntWhole (d : Device) (f : Frame) (reason : Nat) : Device :=
  if d.rd O.PUNT_RATE_PPS reason ≤ d.puntsNow reason then (d.inc64 O.PUNT_RATE_DROPS reason).dropWhole f
  else
    let d := d.countPunt reason
    if (d.puntRing reason).isNone then (d.inc64 O.PUNT_RING_DROPS reason).dropWhole f
    else if ¬ d.puntRoom f.data.length then (d.inc64 O.BUF_PUNT_FULL_DROPS).dropWhole f
    else
      let x := d.takePart3 { f with stage := .punt, reason := reason }
      x.2.setFrame x.1

/-- Punt a frame: its run-ahead work is discarded, and it is received whole first. -/
def puntFrame (d : Device) (f : Frame) (reason : Nat) : Device :=
  let x := d.forceSaf f
  let d := x.1.pred.elim x.2 (x.2.falseStart x.1)
  let f := { x.1 with pred := none, ctx := none }
  let d := (d.setFrame f).passTo f.ends
  if f.bad then d.dropWhole f else d.puntWhole f reason

/-- Bytes 16 to 31 of a punt descriptor (R166). -/
def puntKind (f : Frame) (truncated : Bool) : Bytes :=
  leBytes 4 (ns32Of f.stamp) ++ leBytes 2 f.port ++ leBytes 1 f.reason ++
  leBytes 1 (boolNat truncated + 2 * boolNat (f.decrypt && f.prot) + 4 * boolNat (isLine f.port)) ++
  leBytes 2 f.ca ++ leBytes 2 0 ++ leBytes 4 f.sc

/-- No older frame of the same port and reason waits (R164). -/
def puntFirst (d : Device) (f : Frame) : Bool :=
  d.pipe.frames.all (fun g => !(g.stage == .punt && g.port == f.port && g.reason == f.reason && decide (g.id < f.id)))

/-- The latest cycle at which a punted frame may take a descriptor: 500 ms after its arrival, a step of the PHC or not (R117,
R165). -/
def puntLimit (f : Frame) : Nat := f.arrival + msCycles 500

/-- A punted frame takes the next descriptor of ring `n`. One that is refused, or whose buffer fails, leaves it waiting. -/
def puntInto (d : Device) (f : Frame) (n : Nat) (x : Descriptor) : Device :=
  let d := d.dmaAdvance n
  let e := d.descCheck n x
  if e ≠ 0 then d.dmaComplete n e 0 (fit 16 x.kind)
  else if x.pcieError then d.dmaComplete n 3 0 (fit 16 x.kind)
  else
    let data := f.data.take x.length
    let kind := puntKind f (decide (x.length < f.data.length))
    let d := (d.emit (.hostWrite n x.address data (leBytes 4 data.length ++ kind))).inc64 O.PUNT_FRAMES f.reason
    (d.dmaComplete n 0 data.length kind).removeFrame f

def puntDeliver (id : Nat) (x : Descriptor) (d : Device) : Device :=
  (d.frame? id).elim d (fun f =>
    if f.stage ≠ .punt ∨ ¬ d.puntFirst f ∨ puntLimit f < d.cyc then d else
    (d.puntRing f.reason).elim d (fun n => if d.ringReady n then d.puntInto f n x else d))

/-- No descriptor has come free within 500 ms. -/
def puntDescriptorTimeout (id : Nat) (d : Device) : Device :=
  (d.frame? id).elim d (fun f =>
    if f.stage ≠ .punt then d else
    let d := d.passTo (puntLimit f)
    (d.inc64 O.PUNT_RING_DROPS f.reason).dropWhole f)

/-! ### Inject (R167, R168) -/

def injPort (x : Descriptor) : Nat := leNat (slice 0 2 x.kind)
def injOp (x : Descriptor) : Nat := leNat (slice 2 1 x.kind)
def injClass (x : Descriptor) : Nat := leNat (slice 3 1 x.kind) % 8
def injSc (x : Descriptor) : Nat := leNat (slice 4 4 x.kind)

/-- An EtherType that CLEAR frames to a line port may carry. -/
def clearType (d : Device) (et : Nat) : Bool :=
  et != 0 && (List.range 8).any (fun i => bits (d.rd O.INJECT_CLEAR_ETHERTYPES) (16 * i) 16 == et)

/-- PROTECT names a transmit SC of the port's slice that has an SA in force. -/
def injScOk (d : Device) (p sc : Nat) : Bool :=
  decide (sc < d.numScs) && d.rd O.SC_DIR sc == 1 && d.rd O.SC_PORT sc != 0xFFFF &&
  sliceOfPort (d.rd O.SC_PORT sc) == sliceOfPort p && (d.activeSa sc).isSome

/-- The detail code of an inject descriptor, 0 when it is accepted (R168). An op above 1 has no meaning: the SC it names is
not a transmit SC of anything. -/
def injCheck (d : Device) (x : Descriptor) (data : Bytes) : Nat :=
  let p := injPort x
  let protect := injOp x == 1
  firstFail
    [(!d.laneOk p || !d.portEnabled p || !d.portSends p, 1),
     (decide (1 < injOp x) || (protect && !d.injScOk p (injSc x)), 2),
     (decide (data.length < 60) || decide (d.rd O.PORT_MAX_FRAME p < data.length + 4), 3),
     (injOp x == 0 && isLine p && !d.clearType (etherType data), 4),
     (protect && !isLine p, 5)]

/-- The frame of an accepted descriptor. It goes the encrypt direction to a line port. -/
def injFrame (d : Device) (n : Nat) (x : Descriptor) (data : Bytes) : Frame :=
  { Frame.begin d.pipe.nextId (!isLine (injPort x)) (injPort x) data d.cyc with
    stage := .queued, stamp := d.phc, egress := injPort x, cls := injClass x, saf := true, ring := some n }

/-- A PROTECT frame meets its SC at E4. -/
def injProtect (d : Device) (x : Descriptor) (f : Frame) : Frame × Device :=
  if injOp x = 0 then (f, d) else
  let f := d.txShape f (injSc x)
  (d.saInForce f.sc).elim (f, d) (fun sa => d.keyLookup f sa)

/-- An accepted frame joins the inject queue of its node. -/
def injQueue (d : Device) (n : Nat) (x : Descriptor) (data : Bytes) : Device :=
  let y := d.injProtect x (d.injFrame n x data)
  let z := y.2.takePart3 y.1
  let d := (z.2.addFrame z.1).dmaTake n z.1.id
  d.setNode z.1.node { d.nodeOf z.1.node with inject := (d.nodeOf z.1.node).inject ++ [z.1.id] }

/-- The next descriptor of inject ring `n`, with the bytes of its buffer. It is read only when there is room for its frame. -/
def injectDescriptor (n : Nat) (x : Descriptor) (data : Bytes) (d : Device) : Device :=
  if d.mode = .reset ∨ 64 ≤ n ∨ d.rd O.RING_KIND n ≠ 2 ∨ ¬ d.ringReady n then d else
  let e := d.descCheck n x
  let data := fit x.length data
  if e = 0 ∧ ¬ d.puntRoom x.length then d else
  let d := d.dmaAdvance n
  if e ≠ 0 then d.dmaComplete n e 0 (fit 16 x.kind)
  else if x.pcieError then d.dmaComplete n 3 0 (fit 16 x.kind)
  else
    let c := d.injCheck x data
    if c ≠ 0 then (d.dmaComplete n 4 x.length ((fit 16 x.kind).take 12 ++ leBytes 2 c ++ leBytes 2 0)).inc64 O.INJECT_REFUSED
    else d.injQueue n x data

/-- Bytes 16 to 31 of a completed inject descriptor with the egress stamp. -/
def injKind (f : Frame) (stamp : Nat) : Bytes :=
  leBytes 2 f.egress ++ leBytes 1 (boolNat f.prot) ++ leBytes 1 f.cls ++ leBytes 4 (if f.prot then f.sc else 0) ++
  leBytes 4 (ns32Of stamp) ++ leBytes 4 0

/-- The first bit of an injected frame has left; `stamp` is the raw reading of R116. -/
def injectComplete (id stamp : Nat) (d : Device) : Device :=
  (d.frame? id).elim d (fun f => (openRing f).elim d (fun n =>
    if ¬ onLane f then d else
    (d.setFrame { f with done := true }).dmaFinish n f.id 0 (f.len - 4) (injKind f ((stamp : Int) + d.txLatency f.egress).toNat)))

/-- An injected frame has not been sent 1.0 s after it was read. -/
def injectSendTimeout (id : Nat) (d : Device) : Device :=
  (d.frame? id).elim d (fun f => (openRing f).elim d (fun n =>
    if onLane f then d else
    ((d.passTo (f.arrival + msCycles 1000)).injectRefuse f n 6).dropWhole f))

end Device

def execPuntDeliver (f : Nat) (x : Descriptor) (s : State) := s.on (Device.puntDeliver f x)
def execPuntDescriptorTimeout (f : Nat) (s : State) := s.on (Device.puntDescriptorTimeout f)
def execInjectDescriptor (n : Nat) (x : Descriptor) (data : Bytes) (s : State) := s.on (Device.injectDescriptor n x data)
def execInjectComplete (f stamp : Nat) (s : State) := s.on (Device.injectComplete f stamp)
def execInjectSendTimeout (f : Nat) (s : State) := s.on (Device.injectSendTimeout f)

end Sys2Proof.Machine
end

