-- ==== Sys2Proof/Machine/Ingress.lean ====
section
/-!
DEFINITION. Frames from their arrival to their queue (R83, R100, R144 to R162, R182 to R192, R237, R238, R244, R251): checks of
the MAC, run-ahead prediction, parsing, the classification result, the call room, the decisions at E4 and at D3 and D4,
policing and admission to the buffer.
-/
namespace Sys2Proof.Machine

/-- L of a received frame (R100). -/
def frameLen (p : Nat) (data : Bytes) : Nat :=
  if isLine p ∧ etherType data = 0x88E5 then data.length + 4 - (tagLen data + 16) else data.length + 4

/-- A line frame with a SecTAG takes the path of D1 to D4. -/
def takesTag (p : Nat) (data : Bytes) : Bool := isLine p && etherType data == 0x88E5

namespace Device

/-! ### Admission to the buffer (E6, D5) -/

/-- A frame that is forwarded store-and-forward is received whole first; one that is in error is then dropped. -/
def admitFrame (d : Device) (f : Frame) : Device :=
  let d := d.setFrame f
  if ¬ f.saf then d.enqueue f else
  let d := d.passTo f.ends
  if f.bad then d.dropWhole f else d.enqueue f

/-- The frame was still parked when its last cell arrived. -/
def parkedToEnd (d : Device) (f : Frame) : Bool := f.parkedAt.elim false (fun t => decide (t < f.ends ∧ f.ends ≤ d.cyc))

/-- The frame is received more slowly than its egress port sends, or was parked until its end: it is forwarded
store-and-forward (R160). -/
def chooseSaf (d : Device) (f : Frame) : Frame × Device :=
  if d.portSpeed f.port < d.portSpeed f.egress ∨ d.parkedToEnd f then d.forceSaf f else (f, d)

/-- The frame exceeds PORT_MAX_FRAME of its egress port (R100): the smaller limit is the one that ends it, and it is counted as
oversize and as nothing else. -/
def egressLimit (d : Device) (f : Frame) : Frame × Device :=
  let m := d.rd O.PORT_MAX_FRAME f.egress
  if f.len ≤ m then (f, d) else
  let d' := if f.bad then d.sub64 O.PORT_RX_FCS_ERRORS f.port 1 else d.uncountRx f
  ({ f with bad := true, tooLong := true, len := m + 1, data := f.data.take (m + 1) },
   if f.tooLong then d else d'.inc64 O.PORT_RX_OVERSIZE f.port)

/-- A red frame is dropped; its counts have been made. -/
def dropRed (d : Device) (f : Frame) : Device := d.dropQuiet f

/-- E5 and E6 of a frame whose tenant, egress port and class are known. -/
def police6 (d : Device) (f : Frame) : Device :=
  let a := d.egressLimit f
  let b := a.2.chooseSaf a.1
  let c := b.2.police b.1
  match c.1 with
  | .red => c.2.dropRed b.1
  | .yellow => c.2.admitFrame { b.1 with yellow := true }
  | .green => c.2.admitFrame b.1

/-! ### The classification result (R182, R190, R238) -/

/-- A frame without a result (R190). -/
def noResult (d : Device) (f : Frame) : Device := (d.inc64 O.MP_NO_RESULT_DROPS f.port).dropQuiet f

/-- The egress port lies in another slice or on the ingress side (R238). -/
def wrongSlice (d : Device) (p eg : Nat) : Bool := !d.laneOk eg || sliceOfPort eg != sliceOfPort p || isLine eg == isLine p

/-- The SC of an entry is a transmit SC of its egress port. -/
def txScOf (d : Device) (sc eg : Nat) : Bool := d.rd O.SC_DIR sc == 1 && d.rd O.SC_PORT sc == eg

/-- E4 of a frame that is to be protected under `sc` (R182). -/
def protectTx (d : Device) (f : Frame) (sc : Nat) : Device :=
  let f := { d.txShape f sc with ca := d.caOf sc }
  if d.txDead sc then (d.inc64 O.SC_TX_NO_SA_DROPS sc).dropWhole f else
  match d.saInForce sc with
  | none => d.police6 f
  | some sa =>
    if d.rd O.SA_STATE sa = 7 then (d.inc64 O.SC_BAD_KEY_DROPS sc).dropWhole f else
    let x := d.keyLookup f sa
    x.2.police6 x.1

/-- Apply a result to a frame without a SecTAG. -/
def applyResult (d : Device) (f : Frame) (r : Nat) : Device :=
  if d.wrongSlice f.port (resEgress r) then (d.inc64 O.CLS_WRONG_SLICE).noResult f
  else if resPunt r then
    d.puntFrame { f with ca := resCa r, sc := if resPolicy r = 0 then resSc r else 0xFFFFFFFF } 2
  else if resPolicy r = 0 ∧ (f.decrypt ∨ ¬ d.txScOf (resSc r) (resEgress r)) then d.noResult f
  else if resPolicy r = 2 then (d.inc64 O.MP_POLICY_DROPS f.port).dropQuiet f
  else
    let f := { f with egress := resEgress r, cls := resClass r }
    if resPolicy r = 1 then d.police6 { f with ca := resCa r } else d.protectTx f (resSc r)

/-! ### Receive SAs (R185 to R187) -/

/-- An SA of a receive SC is receiving: ACTIVE, or ARMED, until a change that waits for its frames takes place (R195, R226). -/
def receiving (d : Device) (sa : Nat) : Bool := d.rd O.SA_STATE sa == 4 || d.rd O.SA_STATE sa == 3

/-- A BAD SA whose slot is still held. -/
def badSa (d : Device) (sa : Nat) : Bool := d.rd O.SA_STATE sa == 7

/-- The frame is late at its pre-check (R185, D4). -/
def preLate (d : Device) (f : Frame) (pn : Option Nat) : Bool :=
  pn.elim true (fun pn => d.rdB O.CA_REPLAY_PROTECT f.ca && decide (pn < d.lowestPn f.slot))

/-- A verified frame takes a context entry at D3 when its queue is empty and an entry is free (R198). -/
def takeCtx (d : Device) (f : Frame) : Frame :=
  if (d.queueOf f.q).frames = [] ∧ d.ctxFree f.sd then { f with ctx := some (d.newCtx f .decrypt) } else f

/-- D4 of a frame of receive SA `sa` with PN `pn`: policing, learning, and admission. -/
def rxAdmit (d : Device) (f : Frame) : Device :=
  let a := d.egressLimit f
  let b := a.2.chooseSaf a.1
  let c := b.2.police b.1
  if c.1 = .red then c.2.dropRed b.1 else
  let l := c.2.learnDecide b.1
  let f := { b.1 with yellow := decide (c.1 = .yellow), learn := l.1.2 }
  if ¬ l.1.1 then l.2.dropWhole f else l.2.admitFrame f

/-- A frame that is late (D4): dropped, once the load of its key has passed when one was started at D3. -/
def rxLate (d : Device) (f : Frame) : Device := if f.wait.isSome then d.setFrame { f with stage := .late } else d.lateDrop f

/-- The frame belongs to receiving SA `sa`: its key is looked up at D3, and D4 follows. -/
def rxUnder (d : Device) (f : Frame) (sa : Nat) : Device :=
  let x := d.keyLookup f sa
  let f := x.1
  let pn := recoverPn (d.xpn f.ca) (pnField f.secTag) (d.lowestPn f.slot)
  if d.preLate f pn then x.2.rxLate f else
  let f := { f with prot := true, pn := pn.getD 0, iv := d.ivOf f.slot (pn.getD 0),
                    offset := if f.enc then d.confOffset f.ca else 0 }
  x.2.rxAdmit (x.2.takeCtx f)

/-- D3 with the receive SC found (R185). -/
def rxInSc (d : Device) (f : Frame) : Device :=
  let ca := f.ca
  let sa := 4 * f.sc + byteAt f.secTag 2 % 4
  if d.rd O.CA_CLEAR_TAGS ca < f.clear then (d.inc64 O.SC_RX_TAG_MISMATCH f.sc).dropWhole f
  else if ¬ d.xpn ca ∧ pnField f.secTag = 0 then (d.inc64 O.MP_RX_BAD_TAG f.port).dropQuiet f
  else if d.rdB O.CA_ENABLE ca ∧ d.badSa sa then (d.inc64 O.SC_BAD_KEY_DROPS f.sc).dropWhole f
  else if ¬ d.rdB O.CA_ENABLE ca ∨ ¬ d.receiving sa then (d.inc64 O.SC_RX_NO_SA f.sc).dropWhole f
  else d.rxUnder f sa

/-- No receive SC has the frame's port and SCI. -/
def noSc (d : Device) (f : Frame) : Device := (d.inc64 O.MP_RX_NO_SC f.port).dropQuiet f

/-- Apply the result of a profile 15 lookup. -/
def applySci (d : Device) (f : Frame) (r : Nat) : Device :=
  if d.wrongSlice f.port (resEgress r) then (d.inc64 O.CLS_WRONG_SLICE).noSc f
  else if resKind r ≠ 2 then d.noSc f
  else d.rxInSc { f with sc := resSc r, ca := d.caOf (resSc r), egress := resEgress r, cls := resClass r }

/-! ### From the lookup on (R157 to R159) -/

/-- The final result of a frame's lookup applies. -/
def classified (d : Device) (f : Frame) (r : Option Nat) : Device :=
  if f.secTag ≠ [] then r.elim (d.noSc f) (d.applySci f) else r.elim (d.noResult f) (d.applyResult f)

/-- The order of R164 that a result puts a frame in. -/
def orderOf (f : Frame) (r : Option Nat) : OrderSet :=
  r.elim .none (fun r =>
    if f.secTag ≠ [] then .sc (resSc r) else if resPunt r then .punt 2
    else if resPolicy r = 0 then .sc (resSc r)
    else if resPolicy r = 1 then .clear (2 * resCa r + boolNat f.decrypt) else .none)

/-- Frames of port `p` in the call room, in order of arrival. -/
def inRoom (d : Device) (p : Nat) : List Frame :=
  d.pipe.frames.filter (fun f => f.port == p && (f.stage == .parked || f.stage == .waiting))

/-- The call room of slice `s` is full. -/
def roomFull (d : Device) (s : Nat) : Bool := decide (4096 ≤ d.rd O.CALLROOM_OCCUPANCY s)

/-- A frame that finds the call room full is dropped (R251). -/
def roomDrop (d : Device) (f : Frame) : Device := (d.inc64 O.CALLROOM_FULL_DROPS f.slice).dropQuiet f

/-- Park a frame whose lookup has missed: it is sent to external memory. -/
def park (d : Device) (f : Frame) : Device :=
  if d.roomFull f.slice then d.roomDrop f else
  let d := d.setFrame { f with stage := .parked, parkedAt := some (f.arrival + (if f.decrypt then 38 else 40)) }
  let d := ((d.inc64 O.CALLROOM_PARKED f.port).pmcSlice f.sd 0x08 1 (passFrame f false)).callroomRecount f.slice
  let c := d.candidates f.key
  ((d.inc64 O.CLS_CACHE_MISSES).lookupUnits c.1 1).memRequest [(d.place (2 * c.1)).1, (d.place (2 * c.2)).1] 2 (.lookup f.id)

/-- A frame waits behind the oldest parked frame of its port. -/
def waitRoom (d : Device) (f : Frame) (r : Option Nat) : Device :=
  if d.roomFull f.slice then d.roomDrop f else
  (d.setFrame { f with stage := .waiting, looked := some r }).callroomRecount f.slice

/-- The frame may pass the parked frames of its port (R159): allowed, and the overtake log has room. -/
def mayOvertake (d : Device) (p : Nat) : Bool :=
  d.rdB O.PIPE_OVERTAKE p && decide ((d.pipe.overtake.filter (fun e => e.1 == p)).length < 32)

/-- The frame is recorded in the overtake log: its SC, or the order that a frame without one keeps (R164; DESIGN CHOICE, log
entry 38). -/
def logOvertake (d : Device) (f : Frame) (r : Option Nat) : Device :=
  d.setPipe { d.pipe with overtake := d.pipe.overtake ++ [(f.port, orderOf f r, f.id)] }

/-- What the cache lookup of a frame says decides where it goes. -/
def looked (d : Device) (f : Frame) (res : Option (Option Nat)) : Device :=
  match res with
  | none => d.park f
  | some r =>
    if d.inRoom f.port = [] then d.classified f r
    else if d.mayOvertake f.port then (d.logOvertake f r).classified f r
    else d.waitRoom f r

/-- A later frame of the port and of the same order has passed the frame. -/
def passed (d : Device) (f : Frame) (r : Option Nat) : Bool :=
  orderOf f r != .none && d.pipe.overtake.any (fun e => e.1 == f.port && e.2.1 == orderOf f r && decide (f.id < e.2.2))

/-- The tenant that a result gives a frame (R275). -/
def tenantOf (d : Device) (f : Frame) (r : Option Nat) : Nat :=
  r.elim 0xFFFF (fun r => if f.secTag ≠ [] ∨ resPolicy r = 0 then d.caOf (resSc r) else resCa r)

/-- A frame leaves the call room with its result; one that a later frame of its order has passed is dropped (R159), and one
that has lost a cell (R170). -/
def leaveRoom (d : Device) (f : Frame) (r : Option Nat) : Device :=
  let g := { f with stage := .started }
  let d := ((d.setFrame g).callroomRecount f.slice)
  let lost := { g with ca := d.tenantOf f r }
  if f.spoiled then (d.dropWhole lost).pruneOvertake
  else if d.passed f r then ((d.inc64 O.CALLROOM_ORDER_DROPS f.port).dropWhole lost).pruneOvertake
  else (d.classified g r).pruneOvertake

/-- Frames of port `p` resume in order up to the next one that is waiting for its lookup. -/
def resume : Nat → Nat → Device → Device
  | 0, _, d => d
  | k + 1, p, d =>
    match d.inRoom p with
    | [] => d
    | f :: _ => f.looked.elim d (fun r => resume k p (d.leaveRoom f r))

/-- The cycle at which a parked frame's time runs out (R157). -/
def roomLimit (d : Device) (f : Frame) : Nat := f.parkedAt.getD 0 + usCycles (d.rd O.CALLROOM_TIMEOUT_US f.slice)

/-- The external lookup of frame `f`, granted as `x`, returns; `ok` is false when MEM reports an error. -/
def lookupBack (d : Device) (f : Frame) (x : LookupRead) (ok : Bool) : Device :=
  let y := (d.passTo (f.parkedAt.getD 0)).lookupReturn f.key { x with ok := x.ok && ok }
  let d := y.2.setFrame { f with looked := some y.1, read := none }
  resume (d.inRoom f.port).length f.port d

/-- The external lookup of a parked frame returns, once MEM has granted it. -/
def callroomLookupReturn (id : Nat) (ok : Bool) (d : Device) : Device :=
  (d.frame? id).elim d (fun f =>
    if f.stage ≠ .parked ∨ f.looked.isSome ∨ d.roomLimit f < d.cyc then d else
    f.read.elim d (fun x => d.lookupBack f x ok))

/-- Nothing has returned in time: the frame is dropped whole, and those behind it go on. -/
def callroomTimeout (id : Nat) (d : Device) : Device :=
  (d.frame? id).elim d (fun f =>
    if f.stage ≠ .parked ∨ f.looked.isSome then d else
    let d := ((d.passTo (d.roomLimit f)).inc64 O.CALLROOM_TIMEOUT_DROPS f.port).dropQuiet f
    resume (d.inRoom f.port).length f.port d)

/-! ### Parsing (R149 to R152, R185, R191) -/

/-- E1 to E3, and D1 to D3 of a frame without a SecTAG: the parser program, the key, the lookup. -/
def parseClear (d : Device) (f : Frame) : Device :=
  let x := parseFrame (progAt d.pipe.active f.slice) (isLine f.port) f.data
  let d := if x.exception then d.inc64 O.PARSER_EXCEPTIONS f.slice else d
  let f := { f with profile := x.profile, flags := x.engine.flags }
  if x.disposition = 1 then d.puntFrame f 3
  else if x.disposition = 2 then (d.inc64 O.MP_POLICY_DROPS f.port).dropQuiet f
  else
    let key := d.buildKey x.profile f.port x.engine.fields
    let y := d.lookup key
    (y.2.setFrame { f with key := key }).looked { f with key := key } y.1

/-- A frame without a SecTAG: EAPOL is decided first (R191). -/
def clearFrame (d : Device) (f : Frame) : Device :=
  let m := d.rd O.MP_EAPOL f.port
  if etherType f.data = 0x888E ∧ m = 1 then d.puntFrame f 1
  else if etherType f.data = 0x888E ∧ m = 2 then (d.inc64 O.MP_EAPOL_DROPS f.port).dropQuiet f
  else d.parseClear f

/-- The SCI of a frame with a SecTAG (R185, D2). -/
def rxSci (d : Device) (f : Frame) : Nat :=
  if (byteAt f.secTag 2).testBit 5 then beNat (slice 8 8 f.secTag)
  else if (byteAt f.secTag 2).testBit 6 then beNat (slice 6 6 f.data) * 65536 + 1
  else beNat (leBytes 8 (d.rd O.MP_RX_IMPLICIT_SCI f.port))

/-- The frame with its SecTAG and ICV taken out (R145). -/
def untag (f : Frame) (raw : Bytes) : Frame :=
  { f with data := stripTag raw, secTag := slice (typeAt raw) (tagLen raw) raw, icv := raw.drop (raw.length - 16),
           clear := tagCount raw, enc := (tciOf raw).testBit 3 }

/-- D1 to D3 of a frame with a SecTAG; `raw` are its bytes as received. -/
def taggedFrame (d : Device) (f : Frame) (raw : Bytes) : Device :=
  if badTag raw then (d.inc64 O.MP_RX_BAD_TAG f.port).dropQuiet f
  else if badLength raw then (d.inc64 O.MP_RX_BAD_LENGTH f.port).dropQuiet f
  else
    let f := untag f raw
    if d.rxSci f = 0 then d.noSc f else
    let f := { f with key := sciKey f.port (d.rxSci f), profile := 15, learnSeen := d.learnProbe f }
    let y := d.lookup f.key
    (y.2.setFrame f).looked f y.1

/-! ### Run-ahead prediction (R154, R198) -/

/-- Frames classified to an SC that have not passed the ordering point. -/
def beforeOrdering (d : Device) (sc : Nat) : Nat :=
  (d.pipe.frames.filter (fun f => !f.decrypt && f.prot && f.sc == sc && f.ordered.isNone)).length

/-- The frame as its prediction takes it: the shape that the SC gives it, and the IV. -/
def asPredicted (d : Device) (f : Frame) (sa pn : Nat) : Frame :=
  let slot := d.rd O.SA_SLOT sa
  { d.txShape f (sa / 4) with slot := slot, pn := pn, iv := d.ivOf slot pn }

/-- The prediction of a frame at its clock 0. -/
def predict (d : Device) (f : Frame) : Frame :=
  let last := natAt d.pipe.lastSc f.port
  if f.decrypt ∨ ¬ d.rdB O.RUNAHEAD_ENABLE f.slice ∨ last = 0 ∨ ¬ d.ctxFree f.sd ∨ ¬ d.ksRoom f.sd f.port then f else
  (d.saInForce (last - 1)).elim f (fun sa =>
    let pn := d.nextPn sa + d.beforeOrdering (last - 1)
    { f with ctx := some (d.newCtx (d.asPredicted f sa pn) .predicted), predicted := true, pred := some ⟨sa, pn, 0⟩ })

/-! ### Arrival (R83, R91, R100, R146) -/

/-- Port `p` receives frames. -/
def receives (d : Device) (p : Nat) : Bool :=
  d.laneOk p && d.portEnabled p && d.mode != .reset && d.mode != .boot && (d.portOf p).rx == .up && !(d.portOf p).frozen

/-- Count a frame that has come in without error, or the error (R100). An oversize frame is counted as that alone. -/
def countRx (d : Device) (p : Nat) (x : RxFrame) (over_ : Bool) : Device :=
  if over_ then d.inc64 O.PORT_RX_OVERSIZE p
  else if ¬ x.good then d.inc64 O.PORT_RX_FCS_ERRORS p
  else (d.inc64 O.PORT_RX_FRAMES p).add64 O.PORT_RX_BYTES p (x.data.length + 4)

/-- The cycle at which the last of `n` bytes of a frame that begins now arrives. -/
def endsAt (d : Device) (p n : Nat) : Nat := d.cyc + ceilDiv ((n - 128) * 10) (max 1 (d.portSpeed p))

/-- The frame that begins at clock 0, with `data` the bytes that are kept of it. -/
def beginFrame (d : Device) (x : RxFrame) (data : Bytes) (len : Nat) (over_ : Bool) : Frame :=
  let stamp := (x.stamp : Int) - d.rdI 32 O.TS_RX_LATENCY x.port
  { Frame.begin d.pipe.nextId (isLine x.port) x.port data d.cyc with
    len := len, bad := over_ || !x.good, tooLong := over_, stamp := stamp.toNat, base := stamp - d.clk.jumps / (edgesPerS : Int),
    ends := d.endsAt x.port x.data.length, tc := d.rd O.TC_MODE x.port, saf := d.rd O.PIPE_MODE x.port != 0 }

/-- A frame enters the pipeline of its direction. -/
def enterPipe (d : Device) (x : RxFrame) (over_ : Bool) : Device :=
  let m := d.rd O.PORT_MAX_FRAME x.port
  let extra := x.data.length + 4 - frameLen x.port x.data
  let data := if over_ then x.data.take (m + 1 + extra) else x.data
  let f := d.beginFrame x data (min (frameLen x.port x.data) (m + 1)) over_
  let d := (d.stageCell f.sd).addFrame f
  if takesTag x.port x.data then d.taggedFrame f data
  else
    let g := d.predict f
    (d.setFrame g).clearFrame g

/-- The slice-direction that frames of a port enter. -/
def portSd (p : Nat) : Nat := 2 * sliceOfPort p + boolNat (isLine p)

/-- A frame arrives at a port that receives. One whose cell 0 finds the staging full is lost (R270). -/
def arrive (d : Device) (x : RxFrame) : Device :=
  let p := x.port
  let len := frameLen p x.data
  let over_ := decide (d.rd O.PORT_MAX_FRAME p < len)
  if len < 64 then d.inc64 O.PORT_RX_UNDERSIZE p
  else if word16 x.data 12 = 0x8808 then
    (if over_ then d.inc64 O.PORT_RX_OVERSIZE p else if x.good then d.macControlRx p x.data else d.inc64 O.PORT_RX_FCS_ERRORS p)
  else
    let d := d.countRx p x over_
    if d.admissionClosed then d.inc64 O.DRAIN_REFUSED_ARRIVALS
    else if ¬ d.sliceCarries (sliceOfPort p) then d
    else if 256 ≤ d.staged (portSd p) then d.inc64 O.BUF_INGRESS_OVERRUNS p
    else d.enterPipe x over_

def hostFrameRx (x : RxFrame) (d : Device) : Device := if ¬ isLine x.port ∧ d.receives x.port then d.arrive x else d
def lineFrameRx (x : RxFrame) (d : Device) : Device := if isLine x.port ∧ d.receives x.port then d.arrive x else d

end Device

def execHostFrameRx (f : RxFrame) (s : State) := s.onQueues (Device.hostFrameRx f)
def execLineFrameRx (f : RxFrame) (s : State) := s.onQueues (Device.lineFrameRx f)
def execCallroomLookupReturn (f : Nat) (ok : Bool) (s : State) := s.onQueues (Device.callroomLookupReturn f ok)
def execCallroomTimeout (f : Nat) (s : State) := s.onQueues (Device.callroomTimeout f)

end Sys2Proof.Machine
end

