-- ==== Sys2Proof/Machine/Egress.lean ====
section
/-!
DEFINITION. Frames from the ordering point to the egress MAC (R124, R125, R154 to R156, R161 to R163, R182 to R189, R201): PNs,
the stop of an SC, keystream applied cell by cell, the tail of a verified frame, scheduled departures, and what counts when a
frame has left.
-/
namespace Sys2Proof.Machine
namespace Device

/-! ### The ordering point (E9 to E11) -/

/-- The last frame of a host port to pass the ordering point: its SC plus one, or 0 when it was not protected (R154). -/
def setLastSc (d : Device) (f : Frame) (v : Nat) : Device :=
  if f.ring.isSome then d else d.setPipe { d.pipe with lastSc := natPut d.pipe.lastSc f.port v }

/-- Drop an encrypt-direction frame at the ordering point for want of an SA. -/
def dropNoSa (d : Device) (f : Frame) : Device :=
  ((openRing f).elim d (fun n => d.injectRefuse f n 2)).dropWhole f

/-- The slice whose MACsec source reports an SC (R184). -/
def scSlice (d : Device) (sc : Nat) : Nat := sliceOfPort (d.rd O.SC_PORT sc)

/-- The hold of a stopped SC ends with no active SA (R183). -/
def holdExpired (d : Device) (sc : Nat) : Device :=
  (d.endHold sc).protEvent (d.scSlice sc) 3 sc (d.rd O.SCSA_IN_FORCE_AN sc) (natAt d.sas.lastPn sc)

/-- The SC begins to hold; a hold of 0 ends at once. -/
def startHold (d : Device) (sc : Nat) : Device :=
  let us := d.rd O.CA_STOP_HOLD_US (d.caOf sc)
  let d := (d.wrBit O.SC_STATUS sc 3 true).setHoldUntil sc (d.cyc + usCycles us)
  if us = 0 then d.holdExpired sc else d

/-- The SA in force has assigned its last PN (R182, R183, R225). -/
def stopSc (d : Device) (sc an pn : Nat) : Device :=
  let d := (d.wrBit O.SC_STATUS sc 2 true).protEvent (d.scSlice sc) 2 sc an pn
  if d.rdB O.SCSA_EARLY_ON_STOP sc ∧ (d.armedSa sc).isSome then d.earlyHandover sc else d.startHold sc

/-- The events that a PN raises, the threshold first (R184). -/
def pnEvents (d : Device) (sc an pn : Nat) : Device :=
  let ca := d.caOf sc
  let d := if pn = d.pnThreshold ca then (d.wrBit O.SC_STATUS sc 1 true).protEvent (d.scSlice sc) 1 sc an pn else d
  if pn = d.pnMax ca then d.stopSc sc an pn else d

/-- The prediction of a frame holds: SA, with the resident slot it was in, and PN (R155). -/
def predictedRight (f : Frame) (p : Pred) : Bool := p.sa == f.sa && p.pn == f.pn && f.ctx.elim false (fun c => c.saRow == f.slot)

/-- E10: the prediction holds, or it was a false start (R155). The context entry becomes that of the assigned SA and PN, with the
turns of a prediction that holds. -/
def checkPrediction (d : Device) (f : Frame) : Frame × Device :=
  let c := d.newCtx f .assigned
  match f.pred with
  | none => ({ f with ctx := some c }, d)
  | some p =>
    if predictedRight f p then
      ({ f with pred := none, turns := p.cells, ctx := f.ctx.map (fun o => { c with nextCounter := o.nextCounter, tagMask := o.tagMask }) },
       d.inc64 O.RUNAHEAD_USED f.slice)
    else ({ f with pred := none, ctx := some c }, d.falseStart f p)

/-- Step the next PN of an SA, which is used from now on (R182, R222). -/
def takePn (d : Device) (f : Frame) : Device :=
  ((d.setCtx f.slot { d.ctxOf f.slot with pn := f.pn + 1 }).wrBit O.SA_FLAGS f.sa 3 true).setLastPn f.sc f.pn

/-- The frame takes the next PN of the SA it has been looked up for. -/
def assignPn (d : Device) (f : Frame) : Device :=
  let x := d.tcSchedule f
  let f := x.2.withPn x.1 (x.2.ctxOf f.slot).pn
  let y := (x.2.takePn f).checkPrediction f
  ((y.2.setFrame y.1).setLastSc f (f.sc + 1)).pnEvents f.sc (f.sa % 4) f.pn

/-- The frame has been looked up for SA `sa`, in the slot and under the key that it has now (R182). -/
def lookedUp (d : Device) (f : Frame) (sa : Nat) : Bool :=
  f.sa == sa && f.slot == d.rd O.SA_SLOT sa && (f.wait == some f.slot || f.schedKey == some (d.ctxOf f.slot).sak)

/-- A protected frame at the ordering point: it takes the SA in force now. It waits for a context entry, and for PNs. -/
def orderFrame (d : Device) (f : Frame) : Device :=
  match (if d.rdB O.CA_ENABLE (d.caOf f.sc) then d.saInForce f.sc else none) with
  | none => (d.inc64 O.SC_TX_NO_SA_DROPS f.sc).dropNoSa f
  | some sa =>
    if d.pnMax (d.caOf f.sc) < d.nextPn sa ∨ (f.ctx.isNone ∧ ¬ d.ctxFree f.sd) then d
    else if d.lookedUp f sa then d.assignPn f
    else if d.rd O.SA_STATE sa = 7 then (d.inc64 O.SC_BAD_KEY_DROPS f.sc).dropNoSa f
    else
      let x := d.keyLookup f sa
      x.2.assignPn x.1

/-- Of the frames of a slice-direction that have been started and have not passed the ordering point, the one that was started
first (R147). -/
def nextToOrder (d : Device) (sd : Nat) : Option Frame :=
  (d.pipe.frames.filter (fun f => f.sd == sd && !f.decrypt && f.stage == .started && f.ordered.isNone)).foldl
    (fun (best : Option Frame) f => match best with
      | none => some f
      | some g => if f.started < g.started then some f else some g) none

/-- A frame that is not to be protected passes the ordering point: a prediction made for it was a false start (R154, R155). -/
def orderClear (d : Device) (f : Frame) : Device :=
  let d := f.pred.elim d (d.falseStart f)
  (d.setFrame { f with ordered := some d.cyc, pred := none, ctx := none }).setLastSc f 0

/-- Frames that are not to be protected pass, in schedule order, until one waits that takes a PN. -/
def orderClears : Nat → Nat → Device → Device
  | 0, _, d => d
  | k + 1, sd, d => (d.nextToOrder sd).elim d (fun f => if f.prot then d else orderClears k sd (d.orderClear f))

/-- A frame of the encrypt direction passes the ordering point when it is its turn (R147; R182, E9). -/
def pnAssign (id : Nat) (d : Device) : Device :=
  (d.frame? id).elim d (fun f =>
    if f.stage ≠ .started ∨ f.decrypt ∨ f.ordered.isSome then d else
    let d := orderClears d.pipe.frames.length f.sd d
    if (d.nextToOrder f.sd).map Frame.id = some id then d.orderFrame f else d)

/-- A handover of the SC is due: it applies, and nothing is dropped (R195). -/
def handoverDue (d : Device) (sc : Nat) : Bool := (d.gunFind 2 sc).elim false d.gunDue

/-- The hold of a stopped SC ends. -/
def stopHoldExpiry (sc : Nat) (d : Device) : Device :=
  if ¬ d.scHolding sc then d else
  let d := d.passTo (natAt d.sas.holdUntil sc)
  if d.handoverDue sc then d else d.holdExpired sc

/-! ### The keystream stage (E12, D8) -/

/-- The frame has cells that have not passed; one of them waits at E12 or D8 (R201). -/
def cellsLeft (f : Frame) : Bool := decide (f.applied < cellCount f.data.length)
def cellWaits (f : Frame) : Bool := f.stalled == f.applied + 1 && cellsLeft f

/-- No frame scheduled earlier to the port still has cells to apply, and no cell of another frame of the slice-direction waits:
its pipeline advances none meanwhile (R201). -/
def cellsTurn (d : Device) (f : Frame) : Bool :=
  d.pipe.frames.all (fun g => !(ahead f g && cellsLeft g) && !(g.sd == f.sd && g.id != f.id && cellWaits g))

/-- The keystream of the frame's next cell is ready. -/
def cellReady (d : Device) (f : Frame) : Bool :=
  !f.prot || (f.schedKey.isSome && f.ctx.isSome && decide (f.turnsBy (f.applied + 1) ≤ d.turnsReady f))

/-- The cell waits: it is counted once (R201). -/
def stallCell (d : Device) (f : Frame) : Device :=
  if f.stalled = f.applied + 1 then d
  else (d.inc64 O.BANK_KS_STALLS f.sd).setFrame { f with stalled := f.applied + 1 }

/-- The frame leaves encrypted. -/
def leavesProtected (f : Frame) : Bool := f.prot && !f.decrypt

/-- How many cells of a frame its egress MAC has been handed once `f` has passed `f.applied` of them: the last cell of a verified
frame is held for its tail, and every cell of it when it is forwarded store-and-forward (R148, R161). -/
def handed (f : Frame) : Nat :=
  if f.decrypt && f.prot then (if f.saf then 0 else if cellsLeft f then f.applied else f.applied - 1) else f.applied

/-- The next cell passes the keystream stage. -/
def passCell (d : Device) (f : Frame) : Device :=
  let g := f.passOne
  let g := if cellsLeft g then { g with stage := .sending } else g.endCells
  let d := (d.setFrame { g with sent := handed g, poison := f.poison || f.bad }).setSlotCells f.sd (d.slotCells f.sd + 1)
  d.macStarts f.egress 0

/-- Cell `cell` of a frame may come to E12 or D8: the frame has been started and ordered, and it is the cell's turn. -/
def cellComes (d : Device) (f : Frame) (cell : Nat) : Bool :=
  (f.stage == .started || f.stage == .sending) && cell == f.applied && cellsLeft f && (f.decrypt || f.ordered.isSome) && d.cellsTurn f

/-- A cell that has come waits for its keystream, or passes. A frame in error of which nothing has left is dropped whole once its
end has been received. -/
def cellStage (d : Device) (f : Frame) : Device :=
  if ¬ d.cellReady f then d.stallCell f
  else if f.applied = 0 ∧ f.bad ∧ f.ends ≤ d.cyc then d.dropWhole f
  else d.passCell f

/-- Cell `cell` of a frame comes to E12 or D8, when it has arrived. -/
def keystreamApply (id cell : Nat) (d : Device) : Device :=
  (d.frame? id).elim d (fun f =>
    let d := if f.prot then d else orderClears d.pipe.frames.length f.sd d
    (d.frame? id).elim d (fun f =>
      if ¬ d.cellComes f cell then d else
      let d := (d.passTo (d.cellArrives f cell)).arriveCells f
      (d.frame? id).elim d (fun f => if cellsLeft f then d.cellStage f else d)))

/-! ### The tail of a verified frame (R185, R188, R189) -/

/-- The frame fails at its tail: dropped whole when store-and-forward, else poisoned. -/
def tailFail (d : Device) (f : Frame) : Device :=
  if f.saf then d.dropWhole f
  else (d.setFrame { f with ctx := none, poison := true, stage := .sending, sent := f.applied, settled := true }).macStarts f.egress 0

/-- A frame has committed: the cells kept for its tail are freed, and it leaves (R161, R188, R266). -/
def tailPass (d : Device) (f : Frame) : Device :=
  ((d.rxCommit f).freeCells { f with ctx := none, stage := .sending, sent := f.applied, settled := true,
                                     committed := true }).macStarts f.egress 0

/-- The ICV of a frame is compared. A frame that is in error already commits nothing. -/
def decryptTailVerify (id : Nat) (d : Device) : Device :=
  (d.frame? id).elim d (fun f =>
    if f.stage ≠ .tail then d
    else if f.poison then d.tailFail f
    else if ¬ f.icvGood then (d.inc64 O.SA_STAT_NOT_VALID f.sa).tailFail f
    else if d.commitLate f then (d.inc64 O.SA_STAT_COMMIT_LATE f.sa).tailFail f
    else d.tailPass f)

/-! ### Scheduled departures (R124, R125) -/

/-- The departure of a frame comes: it starts exactly now, or is dropped because the line is not free or its first cell has
not reached the MAC. One that is poisoned already counts only as poisoned (R126). -/
def tcScheduledDeparture (id : Nat) (lineFree : Bool) (d : Device) : Device :=
  (d.frame? id).elim d (fun f => f.depart.elim d (fun t =>
    if f.tcDone then d else
    let d := d.passTo t
    if lineFree ∧ f.sent ≠ 0 then
      if f.poison then (d.setFrame { f with depart := none }).macStarts f.egress 0
      else ((d.setFrame { f with tcDone := true }).macStarts f.egress 0).inc64 O.TC_SCHEDULED f.egress
    else (d.inc64 O.TC_DEPARTURE_MISSED f.egress).dropWhole f))

/-! ### A frame has left (R101, R156, R163, R190) -/

/-- The last cell has left unpoisoned: statistics, lap, clear-pass counts, corrections. -/
def leftGood (d : Device) (f : Frame) : Device :=
  let d := d.endSlots f.sd 0x02 f.applied
  let d := if f.tcDone ∧ f.depart.isNone then d.inc64 O.TC_CORRECTED f.egress else d
  let d := if f.tcSat then d.inc64 O.TC_SATURATED f.egress else d
  if f.prot then
    if f.decrypt then d else
    let d := d.saStats f
    if f.known ∧ f.ring.isNone then d.lapProtected f.q f.len else d
  else if f.ring.isSome then d
  else if f.decrypt then d.inc64 O.CA_CLEAR_PASS_RX f.ca else d.inc64 O.CA_CLEAR_PASS_TX f.ca

/-- A frame that met its scheduled departure unpoisoned and is poisoned after all counts only as poisoned (R126). -/
def uncountScheduled (d : Device) (f : Frame) : Device :=
  if f.depart.isSome ∧ f.tcDone then d.sub64 O.TC_SCHEDULED f.egress 1 else d

/-- The frame has ended with the stomped FCS. -/
def leftPoisoned (d : Device) (f : Frame) : Device :=
  (((d.inc64 O.PORT_TX_POISONED f.egress).pmcSlice f.sd 0x0E 1 (passFrame f true)).endSlots f.sd 0x03 f.applied).countLost f

/-- The frame has been handed over whole, its departure and its inject descriptor are settled, and no frame is ahead of it. -/
def mayEnd (d : Device) (f : Frame) : Bool :=
  f.stage == .sending && f.sent == cellCount f.data.length && (f.depart.isNone || f.tcDone) && (openRing f).isNone &&
  d.pipe.frames.all (fun g => !ahead f g)

/-- The frame as it leaves: one that is not encrypted is corrected in flight. What a poisoned frame would count does not count
(R126). -/
def leaving (d : Device) (f : Frame) : Frame × Device :=
  if leavesProtected f then (f, d) else
  let x := d.tcInFlight f
  if f.poison then (x.1, d) else x

/-- The FCS of a frame: the CRC-32 of the bytes sent, inverted when it is stomped (R163). -/
def fcsOf (f : Frame) : Nat := if f.poison then 0xFFFFFFFF - crc32 f.full else crc32 f.full

/-- The last byte of a frame leaves with its FCS. -/
def frameTxComplete (id : Nat) (d : Device) : Device :=
  (d.frame? id).elim d (fun f =>
    if ¬ d.mayEnd f then d else
    let x := d.leaving f
    let f := x.1
    let d := (x.2.txCount f.egress (f.full.length + 4)).emit (.frame f.egress f.full (fcsOf f) (!f.poison) x.2.phc)
    ((if f.poison then d.leftPoisoned f else d.leftGood f).removeFrame f).macStarts f.egress (d.macGap f.egress))

end Device

def execPnAssign (f : Nat) (s : State) := s.onQueues (Device.pnAssign f)
def execStopHoldExpiry (sc : Nat) (s : State) := s.onQueues (Device.stopHoldExpiry sc)
def execKeystreamApply (f cell : Nat) (s : State) := s.onQueues (Device.keystreamApply f cell)
def execDecryptTailVerify (f : Nat) (s : State) := s.onQueues (Device.decryptTailVerify f)
def execTcScheduledDeparture (f : Nat) (lineFree : Bool) (s : State) := s.onQueues (Device.tcScheduledDeparture f lineFree)
def execFrameTxComplete (f : Nat) (s : State) := s.onQueues (Device.frameTxComplete f)

end Sys2Proof.Machine
end

