-- ==== Sys2Proof/Machine/ExtMem.lean ====
section
/-!
DEFINITION. External memory as commands see it (R324 to R334): reads and writes of lines and what they find, the scrubber,
eviction of tree nodes, retirement of a channel, and access through the memory window and the BAR2 aperture (R71).
-/
namespace Sys2Proof.Machine

namespace Device

/-! ### Reads and writes of a line (R324 to R327) -/

/-- A read of line `p` by one of the engine's clients. -/
def memLineRead (p : Nat) (o : LineOutcome) (d : Device) : Device :=
  if ¬ d.memReady ∨ ¬ d.mapped (64 * p) then d else d.memRequest [(d.place p).1] (classOf p) (.lineRead p o)

def memFullLineWrite (p : Nat) (v : Bytes) (d : Device) : Device :=
  if ¬ d.memReady ∨ ¬ d.mapped (64 * p) then d else d.memRequest [(d.place p).1] (classOf p) (.fullLine p v)

/-- The partial-write path of the engine. Only host scratch takes partial writes (R328). -/
def memPartialWrite (o : Nat) (v : Bytes) (r : LineOutcome) (d : Device) : Device :=
  if ¬ d.memReady ∨ regionOf o ≠ .scratch ∨ ¬ inLine o v.length then d
  else d.memRequest [(d.place (o / 64)).1] 5 (.partialWrite o v r)

/-- Node `n` of level `level` (R318): the counter lines, then the five levels of the tree (R315). -/
def nodeNumber (level n : Nat) : Option Nat :=
  let base := [0, 196608, 221184, 224256, 224640, 224688]
  let size := [196608, 24576, 3072, 384, 48, 6]
  if 1 ≤ level ∧ level ≤ 6 ∧ n < size.getD (level - 1) 0 then some (base.getD (level - 1) 0 + n) else none

/-- A node line leaves the tree cache; a dirty one is written back (R322). -/
def treeNodeEvict (c level n : Nat) (d : Device) : Device :=
  (nodeNumber level n).elim d (fun k => if d.nodeCached (physKey c k) then d.evictNode c k else d)

/-- The channels that the scrubber reads, in ascending order. -/
def scrubChannels (d : Device) : List Nat := (List.range 4).filter (fun c => d.rd O.MEM_CH_STATE c != 2)

/-- The cycle at which the pass comes to a codeword: every codeword once in each MEM_SCRUB_S, at an even rate (DESIGN CHOICE, log
entry 17). -/
def memScrubCycle (d : Device) (c line word : Nat) : Nat :=
  d.mem.scrubFrom + (d.scrubChannels.idxOf c * 16777216 + 8 * line + word) * d.memScrubPeriod / (max 1 d.scrubChannels.length * 16777216)

/-- The scrubber visits a codeword (R329), at the lowest priority of R23. Codewords in which nothing is found may be passed over. -/
def memScrubVisit (c line word : Nat) (o : ScrubOutcome) (d : Device) : Device :=
  if ¬ d.memReady ∨ 4 ≤ c ∨ 2097152 ≤ line ∨ 8 ≤ word ∨ d.rd O.MEM_CH_STATE c = 2 then d
  else (d.passTo (d.memScrubCycle c line word)).memRequest [c] 6 (.scrub c line word o)

/-! ### Retirement (R330 to R332) -/

def memChRetireCore (r : Req) (c : Nat) (d : Device) : Nat × Device :=
  runCmd r O.MEM_CH_CMD c
    { Conds.none with s4 := [(d.retireTaken, 0xA303)], s6 := [(d.rd O.MEM_CH_STATE c != 0, 0xA106)] }
    (fun d => (some 0, d.startRetire c 1 false)) d

/-- The uncorrectable codewords of one PHC second reach the limit. -/
def memChUncorrRetire (c : Nat) (d : Device) : Device :=
  if ¬ d.memReady ∨ 4 ≤ c ∨ d.rd O.MEM_CH_STATE c = 2 ∨ d.uncorrNow c < d.rd O.MEM_CH_RETIRE_UNCORR c then d
  else d.startRetire c 3 true

/-- A channel's controller loses calibration: a lasting condition of its source (R367). -/
def memCalibrationLoss (c : Nat) (d : Device) : Device :=
  if ¬ d.memReady ∨ 4 ≤ c ∨ d.rd O.MEM_CH_STATE c = 2 ∨ d.mem.calib.any (fun e => e.1 == c) then d else
  (d.setMem { d.mem with calib := d.mem.calib ++ [(c, d.cyc)] }).setSrcState (0x300 + c) 1

/-- It is calibrated again: the condition ends. -/
def endCalib (d : Device) (c : Nat) : Device :=
  (d.setMem { d.mem with calib := d.mem.calib.filter (fun e => e.1 != c) }).setSrcState (0x300 + c) 0

def memCalibrationRegained (c : Nat) (d : Device) : Device :=
  if d.mem.calib.any (fun e => e.1 == c) then (d.endCalib c).grants else d

/-- It has not been regained within 10 ms. -/
def memCalibrationLost (c : Nat) (d : Device) : Device :=
  (d.mem.calib.find? (fun e => e.1 == c)).elim d (fun e => ((d.passTo (e.2 + msCycles 10)).startRetire c 4 true).grants)

/-- The rehash reads bucket `b` of the old table; the positions of the entries it finds readable come after the list. -/
def rehashRead (lost : Option Nat) (acc : List Nat × Device) (b : Nat) : List Nat × Device :=
  if lost = some (b % 4) then acc else
  let x := acc.2.readLine (2 * b)
  let y := x.2.readLine (2 * b + 1)
  let ways := (if x.1 then [4 * b, 4 * b + 1] else []) ++ (if y.1 then [4 * b + 2, 4 * b + 3] else [])
  (acc.1 ++ ways.filter (fun p => resValid (y.2.way p).result), y.2)

/-- An entry as the new table holds it: a learned one is stamped with the present PHC seconds. -/
def rehashEnt (d : Device) (e : ClsEnt) : ClsEnt := if e.learned then { e with result := withStamp e.result d.now16 } else e

/-- An entry of the old table does not come into the new one: a static one is counted, a receive SC has none. -/
def rehashLose (d : Device) (e : ClsEnt) : Device :=
  if resKind e.result = 0 then d.inc32 O.MEM_REHASH_LOST
  else if resKind e.result = 2 then d.wr O.RXSC_ENTRY (resSc e.result) 0 else d

/-- Insert one readable entry into the new table. -/
def rehashPut (d : Device) (e : ClsEnt) : Device :=
  let x := d.insert (d.rehashEnt e)
  if x.1 then x.2 else x.2.rehashLose e

/-- A receive SC whose entry lay on the lost channel is inserted again from its objects (R240, R332). -/
def rehashAgain (d : Device) (e : ClsEnt) : Device :=
  let sc := resSc e.result
  if resKind e.result = 2 ∧ d.rxscComplete sc then
    let x := d.insert (d.rxscEnt sc)
    x.2.wr O.RXSC_ENTRY sc (boolNat x.1)
  else d.rehashLose e

/-- A lookup in flight at the switch completes against the old table: what it has read fills no bucket of the new one (R331). -/
def oldRead (d : Device) (f : Frame) : Frame :=
  { f with read := f.read.map (fun x => { x with stale := [(d.candidates f.key).1, (d.candidates f.key).2] }) }

/-- Table and cache are empty, and the new table is the one in force. The aging scan goes on in the second it is in, with the new
count of buckets. -/
def switchTable (d : Device) : Device :=
  let d := d.setScan (ceilDiv (d.clsx.scan * 393216) 524288)
  let d := (d.clsx.table.map (·.1)).foldl (fun d p => d.setWay p ClsEnt.empty) d
  let d := (d.setCls { d.clsx with cache := [], shown := [] }).setMem { d.mem with switched := true }
  d.setPipe { d.pipe with frames := d.pipe.frames.map d.oldRead }

/-- The rehash ends (R331): entries that could be read are in the new table, the others are lost; the switch is at one
cell boundary. -/
def memRehashSwitch (d : Device) : Device :=
  match d.mem.retiring with
  | none => d
  | some cf =>
    if d.mem.switched ∨ d.rdB O.FLT_FATAL_SINCE_BOOT then d else
    let d := d.drainJobs
    let x := (List.range 524288).foldl (rehashRead (if cf.2 then some cf.1 else none)) ([], d)
    let all := (x.2.clsx.table.map (·.1)).filter (fun p => resValid (x.2.way p).result)
    let good := x.1.map x.2.wayNow
    let lost := (all.filter (fun p => !x.1.contains p)).map x.2.wayNow
    let d := (x.2.switchTable).wr O.MEM_REHASH_DONE 0 524288
    let d := good.foldl rehashPut d
    if cf.2 then lost.foldl rehashAgain d else lost.foldl rehashLose d

/-- Lines of the retired stripe that have a place with three channels (R314, R316). -/
def stripeLines : Nat := 983040

/-- Line `q` of stripe `x` is in its new place: copied by R325, or lost and poison-written with cause 4 (R332). -/
def evacuateLine (x : Nat) (lostFrom : Nat) (d : Device) (q : Nat) : Device :=
  let p := 1048576 + 4 * q + x
  if q < lostFrom then
    if d.poisonedLine p then d.poisonWrite p 1
    else (d.bumpLine (d.place p).1 (d.place p).2).2
  else
    let d := d.setMem { d.mem with poisoned := (p, 2 ^ 64) :: d.mem.poisoned.filter (fun e => e.1 != p) }
    d.poisonWrite p 4

/-- Evacuation ends: the stripe has its new places, and the channel is RETIRED. -/
def memEvacuationDone (d : Device) : Device :=
  match d.mem.retiring with
  | none => d
  | some cf =>
    if ¬ d.mem.switched ∨ d.rdB O.FLT_FATAL_SINCE_BOOT then d else
    let lostFrom := if cf.2 then d.mem.copied else stripeLines
    let d := (d.wr O.MEM_CH_STATE cf.1 2).setRetiring none false
    let d := d.setCached (d.mem.cached.filter (fun e => e.1 / 2 ^ 21 != cf.1))
    let d := (List.range stripeLines).foldl (evacuateLine cf.1 lostFrom) d
    if d.mem.calib.any (fun e => e.1 == cf.1) then d.endCalib cf.1 else d

/-! ### Rights (R328, R338) -/

/-- How a role may read external memory: not at all, ciphertext only, or plaintext. -/
def memReadRight (d : Device) (role : Nat) (g : Region) : Nat :=
  if g = .saRecords ∨ g = .unassigned then 0
  else if role = 1 ∨ role = 2 then 2
  else if role = 4 ∨ role = 5 then
    let st := d.rd O.LC_STATE
    if st = 0 ∨ st = 2 ∨ st = 5 then 2 else if st = 3 ∨ st = 4 then 1 else 0
  else 0

/-- Writing is for host scratch. -/
def memWriteRight (d : Device) (role : Nat) (g : Region) : Bool := g == .scratch && d.memReadRight role g == 2

/-- Count a memory-window or BAR2 line access at offset `off` (event 0x45, R393): address, role and master filters. -/
def countAccess (d : Device) (off role : Nat) (m : Master) : Device :=
  d.pmcHub 0x45 1 (fun d n => passAddr off d n && passRole role m d n)

/-! ### The memory window (R333) -/

/-- Offset, length and role of the window row `s`. -/
def winOffset (d : Device) (s : Nat) : Nat := d.rd O.MEM_WIN_OFFSET s
def winLen (d : Device) (s : Nat) : Nat := d.rd O.MEM_WIN_LEN s
def winCount (d : Device) (r : Req) (s : Nat) : Device := d.countAccess (d.winOffset s) (d.roleOf r) r.master
def winPlain (d : Device) (s : Nat) (line : Bytes) : Nat := leNat (slice (d.winOffset s % 64) (d.winLen s) line)

/-- The conditions of a window command: the right on its region, an offset that is mapped, a range within one line. -/
def winConds (d : Device) (s : Nat) (right : Bool) : Conds :=
  { Conds.none with
    s2 := [(d.mapped (d.winOffset s) && !right, 0xA003)]
    s6 := [(!d.mapped (d.winOffset s) || !inLine (d.winOffset s) (d.winLen s), 0xA101)] }

def memWinReadCore (r : Req) (s : Nat) (d : Device) : Nat × Device :=
  runCmd r O.MEM_WIN_CMD s (d.winConds s (d.memReadRight (d.roleOf r) (regionOf (d.winOffset s)) == 2))
    (fun d =>
      let x := (d.winCount r s).readLine (d.winOffset s / 64)
      if x.1 then (some 0, x.2.wrCmd O.MEM_WIN_DATA s (d.winPlain s (x.2.linePlain (d.winOffset s / 64))))
      else (some 0xA404, x.2)) d

def memWinWriteCore (r : Req) (s : Nat) (d : Device) : Nat × Device :=
  runCmd r O.MEM_WIN_CMD s (d.winConds s (d.memWriteRight (d.roleOf r) (regionOf (d.winOffset s))))
    (fun d =>
      let x := (d.winCount r s).partialWrite (d.winOffset s) (leBytes (d.winLen s) (d.rd O.MEM_WIN_DATA s)) .ok
      (some (if x.1 then 0 else 0xA404), x.2)) d

def readCiphertextCore (r : Req) (s : Nat) (d : Device) : Nat × Device :=
  runCmd r O.MEM_WIN_CMD s (d.winConds s (d.memReadRight (d.roleOf r) (regionOf (d.winOffset s)) != 0))
    (fun d =>
      let x := (d.winCount r s).lineCipher (d.winOffset s / 64)
      (some 0, x.2.wrCmd O.MEM_WIN_DATA s (d.winPlain s x.1))) d

def memReinitCore (r : Req) (s : Nat) (d : Device) : Nat × Device :=
  runCmd r O.MEM_WIN_CMD s (d.winConds s (d.roleOf r == 1 && regionOf (d.winOffset s) == .scratch))
    (fun d =>
      let x := (d.winCount r s).writeLine (d.winOffset s / 64) (leBytes 64 0)
      (some (if x.1 then 0 else 0xA404), x.2)) d

/-! ### The BAR2 aperture (R71) -/

/-- The role under which BAR2 acts; 0 where no open session is named, or its life-cycle state closes external memory to it. -/
def apertureRole (d : Device) : Nat :=
  (d.openRow (d.rd O.PCIE_APERTURE_SESSION)).elim 0 (fun row =>
    let role := d.rd O.SESSION_ROLE row
    if d.lcExcludes role 0x6040 true then 0 else role)

/-- The lines of a range, and whether each of its lines is mapped and its region open to `right`. -/
def rangeLines (o n : Nat) : List Nat := if n = 0 then [] else (List.range ((o % 64 + n + 63) / 64)).map (· + o / 64)
def rangeOpen (d : Device) (o n : Nat) (right : Region → Bool) : Bool :=
  d.memReady && (rangeLines o n).all (fun p => d.mapped (64 * p) && right (regionOf (64 * p)))

def apertureRefuse (d : Device) : Device := d.inc64 O.PCIE_APERTURE_REFUSED

/-- Read one line after the lines before it: its bytes are added, or the read has failed. A role with no more than the right to
ciphertext gets that, unverified (R328). -/
def apertureLine (acc : Option Bytes × Device) (p : Nat) : Option Bytes × Device :=
  let d := acc.2.countAccess (64 * p) acc.2.apertureRole .pcie
  if d.memReadRight d.apertureRole (regionOf (64 * p)) = 1 then
    let x := d.lineCipher p
    (acc.1.map (· ++ x.1), x.2)
  else
    let x := d.readLine p
    (if x.1 then acc.1.map (· ++ x.2.linePlain p) else none, x.2)

/-- A BAR2 read: its bytes, or Completer Abort. -/
def apertureRead (o n : Nat) (d : Device) : Device :=
  if d.mode = .reset then d else
  if ¬ d.rangeOpen o n (fun g => d.memReadRight d.apertureRole g != 0) then (d.apertureRefuse).emit (.aperture o true []) else
  let x := (rangeLines o n).foldl apertureLine (some [], d)
  x.1.elim ((x.2.apertureRefuse).emit (.aperture o true [])) (fun v => x.2.emit (.aperture o false (slice (o % 64) n v)))

/-- The part of a write that falls into line `p`. -/
def aperturePart (o : Nat) (v : Bytes) (acc : Bool × Device) (p : Nat) : Bool × Device :=
  let lo := max o (64 * p)
  let hi := min (o + v.length) (64 * p + 64)
  let x := (acc.2.countAccess lo acc.2.apertureRole .pcie).partialWrite lo (slice (lo - o) (hi - lo) v) .ok
  (acc.1 && x.1, x.2)

/-- A BAR2 write: through the partial-write path, or dropped. -/
def apertureWrite (o : Nat) (v : Bytes) (d : Device) : Device :=
  if d.mode = .reset then d else
  if ¬ d.rangeOpen o v.length (d.memWriteRight d.apertureRole) then d.apertureRefuse else
  let x := (rangeLines o v.length).foldl (aperturePart o v) (true, d)
  if x.1 then x.2 else x.2.apertureRefuse

end Device

def execMemLineRead (line : Nat) (o : LineOutcome) (s : State) := s.on (Device.memLineRead line o)
def execMemFullLineWrite (line : Nat) (v : Bytes) (s : State) := s.on (Device.memFullLineWrite line v)
def execMemPartialWrite (offset : Nat) (v : Bytes) (o : LineOutcome) (s : State) := s.on (Device.memPartialWrite offset v o)
def execTreeNodeEvict (c level n : Nat) (s : State) := s.on (Device.treeNodeEvict c level n)
def execMemScrubVisit (c line word : Nat) (o : ScrubOutcome) (s : State) := s.on (Device.memScrubVisit c line word o)
def execMemChRetire (r : Req) (c : Nat) (s : State) := s.on (fun d => d.direct r fun d => d.memChRetireCore r c)
def execMemChUncorrRetire (c : Nat) (s : State) := s.on (Device.memChUncorrRetire c)
def execMemCalibrationLost (c : Nat) (s : State) := s.on (Device.memCalibrationLost c)
def execMemCalibrationLoss (c : Nat) (s : State) := s.on (Device.memCalibrationLoss c)
def execMemCalibrationRegained (c : Nat) (s : State) := s.on (Device.memCalibrationRegained c)
def execMemRehashSwitch (s : State) := s.on Device.memRehashSwitch
def execMemEvacuationDone (s : State) := s.on Device.memEvacuationDone
def execMemWinRead (r : Req) (w : Nat) (s : State) := s.on (fun d => d.direct r fun d => d.memWinReadCore r w)
def execMemWinWrite (r : Req) (w : Nat) (s : State) := s.on (fun d => d.direct r fun d => d.memWinWriteCore r w)
def execReadCiphertext (r : Req) (w : Nat) (s : State) := s.on (fun d => d.direct r fun d => d.readCiphertextCore r w)
def execMemReinit (r : Req) (w : Nat) (s : State) := s.on (fun d => d.direct r fun d => d.memReinitCore r w)
def execApertureRead (offset length : Nat) (s : State) := s.on (Device.apertureRead offset length)
def execApertureWrite (offset : Nat) (v : Bytes) (s : State) := s.on (Device.apertureWrite offset v)

end Sys2Proof.Machine
end

