-- ==== Sys2Proof/Machine/Sram.lean ====
section
/-!
DEFINITION. SRAM row sparing (R404 to R406, R416): a row is redirected to a spare, or retired with what its partition loses.
-/
namespace Sys2Proof.Machine
namespace Device

def setSram (d : Device) (x : SramX) : Device := { d with sram := x }

/-- The slice a macro of the frame buffer, the classification cache or the queue state belongs to: the first two are
spread evenly over the slices (log entry 18). -/
def sramSlice (d : Device) (m : Nat) : Nat :=
  if m < 224 then (m - 96) * d.slices / 128 else if m < 288 then (m - 224) * d.slices / 64 else (m - 288) / 12

/-- The source that detects errors of macro `m` (R366). -/
def sramSource (d : Device) (m : Nat) : Nat :=
  if m < 96 ∨ 352 ≤ m then 0x200
  else if 336 ≤ m then 0x305
  else if d.slices ≤ d.sramSlice m then 0x200
  else sliceSrc (d.sramSlice m) (if m < 224 then 4 else if m < 288 then 5 else 6)

/-- Row `row` of macro `m` is redirected to a spare: CORRECTED from source `src` (R405). -/
def spareRow (d : Device) (m row src : Nat) : Device :=
  let d := (d.wr O.SRAM_SPARES_LEFT m (d.rd O.SRAM_SPARES_LEFT m - 1)).wr O.SRAM_ROWS_SPARED m (d.rd O.SRAM_ROWS_SPARED m + 1)
  (d.setSram { d.sram with spared := (m, row) :: d.sram.spared.filter (· != (m, row)) }).faultUnit src 0x01 m 1

/-! ### Retired rows (R406) -/

/-- The resident slots whose contexts of 192 bytes overlap a row of the SA context partition. -/
def rowSlots (m row : Nat) : List Nat :=
  let o := (m * 2048 + row) * 128
  (List.range ((o + 127) / 192 + 1 - o / 192)).map (· + o / 192)

/-- A resident slot is withheld until RESET, and its SA becomes BAD. -/
def withhold (d : Device) (slot : Nat) : Device :=
  let d := if d.slotRow slot = 0xFFFFFFFF then d else d.saBad (d.slotRow slot)
  d.setSram { d.sram with slots := slot :: d.sram.slots.filter (· != slot) }

/-- A cache frame is never filled again. -/
def loseFrame (d : Device) (f : Nat) : Device :=
  (d.dropFrame f).setSram { d.sram with frames := f :: d.sram.frames.filter (· != f) }

/-- Two lines of the general area of the tree cache are lost. -/
def loseTreeLines (d : Device) : Device :=
  let d := d.setMem { d.mem with lostLines := d.mem.lostLines + 2 }
  d.trimCache.trimCache

/-- The DEGRADED fault of a retired row: an uncorrectable word. -/
def rowFault (d : Device) (m : Nat) : Device := d.faultUnit (d.sramSource m) 0x02 m 2

/-- What the partition of macro `m` loses with its row. -/
def loseRow (d : Device) (m row : Nat) : Device :=
  if m < 96 then (rowSlots m row).foldl withhold (d.rowFault m)
  else if m < 224 then (d.rowFault m).setSram { (d.rowFault m).sram with lostCells := d.sram.lostCells + 1 }
  else if m < 288 then (d.rowFault m).loseFrame ((m - 224) * 2048 + row)
  else if m < 336 then
    let s := d.sramSlice m
    if s < d.slices ∧ (d.rd O.SLICE_STATE s = 1 ∨ d.rd O.SLICE_STATE s = 2 ∨ d.rd O.SLICE_STATE s = 4) then d.sliceFail s 2
    else d.rowFault m
  else if m < 352 then (d.rowFault m).loseTreeLines
  else (d.rowFault m).faultUnit 0x200 0x03 m 3

/-- The row is retired; the cell of a row of the frame buffer is handed out no more. -/
def retireRow (d : Device) (m row : Nat) : Device :=
  let d := d.wr O.SRAM_ROWS_RETIRED m (d.rd O.SRAM_ROWS_RETIRED m + 1)
  let d := d.setPipe { d.pipe with freed := d.pipe.freed.filter (fun h => h != (m - 96) * 2048 + row || decide (m < 96 ∨ 224 ≤ m)) }
  (d.setSram { d.sram with retired := (m, row) :: d.sram.retired }).loseRow m row

/-! ### Uncorrectable words (R20, R162, R170, R205) -/

/-- The frame that holds the buffer cell of a row of macro `m`. -/
def cellOwner (d : Device) (m row : Nat) : Option Frame :=
  d.pipe.frames.find? (fun f => f.cells.any (fun c => c.handle == (m - 96) * 2048 + row))

/-- A frame loses one of its cells or state words: it is poisoned or dropped whole, in the call room when it resumes (R162,
R170). -/
def loseCell (d : Device) (f : Frame) : Device :=
  if f.stage = .parked ∨ f.stage = .waiting then d.setFrame { f with spoiled := true } else d.discardFrame f

/-- A state or key word is marked unusable. -/
def markUnusable (d : Device) (m row word : Nat) : Device :=
  d.setSram { d.sram with unusable := (m, row, word) :: d.sram.unusable.filter (· != (m, row, word)) }

/-- The SA context that word `word` of a row belongs to is unusable: its SA becomes BAD. -/
def loseContext (d : Device) (m row word : Nat) : Device :=
  let slot := ((m * 2048 + row) * 128 + 16 * (word % 8)) / 192
  if d.slotRow slot = 0xFFFFFFFF then d else d.saBad (d.slotRow slot)

/-- What is lost with an uncorrectable word: a cell of the frame that is found in it or named, an SA context, a frame of the
classification cache, a word of state with the frame it was of. -/
def loseWord (d : Device) (m row word : Nat) (named : Option Frame) : Device :=
  if 96 ≤ m ∧ m < 224 then ((d.cellOwner m row).or named).elim d d.loseCell
  else
    let d := named.elim (d.markUnusable m row word) (d.markUnusable m row word).loseCell
    if m < 96 then d.loseContext m row word
    else if m < 288 then d.dropFrame ((m - 224) * 2048 + row) else d

/-- A row must be spared (R405): an uncorrectable word is reported for its block with what is lost (R20), and the row goes to a
spare, or is retired where none is left. -/
def sramRowSpare (m row : Nat) (c : SpareCause) (d : Device) : Device :=
  if ¬ d.clockOn ∨ 384 ≤ m ∨ 2048 ≤ row ∨ d.sram.retired.contains (m, row) then d else
  let d := match c with
    | .uncorrectable w f => d.loseWord m row w (f.bind d.frame?)
    | .corrected => d
  if d.rd O.SRAM_SPARES_LEFT m = 0 then d.retireRow m row
  else (if c = .corrected then d else d.rowFault m).spareRow m row (d.sramSource m)

/-! ### Uncorrectable words of a cipher bank (R205) -/

/-- A frame waits for the reload of its round keys. -/
def awaitKeys (slot : Nat) (d : Device) (f : Frame) : Device := d.setFrame { f with schedKey := none, wait := some slot }

/-- A cached schedule is invalidated and loaded again, and the frames that use it wait. -/
def reloadKeys (d : Device) (b slot : Nat) : Device :=
  let users := d.pipe.frames.filter (fun f => f.sd == b && f.schedKey.isSome && f.ctx.elim false (fun c => c.saRow == slot))
  users.foldl (awaitKeys slot) ((d.setCache b ((d.bankOf b).cache.filter (fun e => e.slot != slot))).startLoad b slot)

/-- A GCM context entry is lost: its frame is discarded and counted. -/
def loseEntry (d : Device) (b id : Nat) : Device :=
  ((d.frame? id).filter (fun f => f.sd == b && f.ctx.isSome)).elim d (fun f => (d.inc64 O.BANK_DISCARDS b).cutShort f)

def loseBankWord (d : Device) (b : Nat) : BankWord → Device
  | .none => d
  | .schedule slot => if (d.cachedKey b slot).isSome then d.reloadKeys b slot else d
  | .context id => d.loseEntry b id

/-- A source fault is sampled; the DEGRADED fault of a bank brings what the word was. -/
def faultSampled (src code base : Nat) (detail : Bytes) (lost : BankWord) (d : Device) : Device :=
  let d' := d.faultSample src code base detail
  let b := (List.range (2 * d.slices)).find? (fun b => bankSrc b == src)
  if ¬ d.clockOn ∨ base ≠ 2 ∨ d.srcUnseen src then d' else b.elim d' (fun b => d'.loseBankWord b lost)

def sramSpareCore (r : Req) (m row : Nat) (d : Device) : Nat × Device :=
  runCmd r O.SRAM_SPARE_CMD m
    { Conds.none with
      s6 := [(decide (2047 < row), 0xA101), (d.sram.spared.contains (m, row), 0xA106)]
      s7 := [(d.rd O.SRAM_SPARES_LEFT m == 0, 0xA206)] }
    (fun d => (some 0, d.spareRow m row 0x200)) d

end Device

def execSramSpareCmd (r : Req) (m row : Nat) (s : State) := s.on (fun d => d.direct r fun d => d.sramSpareCore r m row)
def execFaultSample (src code base : Nat) (detail : FaultDetail) (s : State) :=
  s.on (Device.faultSampled src code base detail.bytes detail.lost)
def execSramRowSpare (m row : Nat) (c : SpareCause) (s : State) := s.on (Device.sramRowSpare m row c)

end Sys2Proof.Machine
end

