-- ==== Sys2Proof/Machine/Writes.lean ====
section
/-!
DEFINITION. Writes of values (R33 to R35, R40, R43): the pieces of a write, the checks that each object's own rule adds to
the steps of R40, the store, and what follows from it.
-/
namespace Sys2Proof.Machine

/-- One value to be stored: the record it belongs to, its row, and the bytes. -/
structure Piece where
  e : Desc
  row : Nat
  val : Bytes
deriving DecidableEq, Repr

/-- The number a piece spells, padded as R34 says. -/
def Piece.num (p : Piece) : Nat := leNat (fit p.e.ty.size p.val)

/-- How a write comes in: directly, into a shadow (R47, mode checks deferred), or out of a shadow at its commit. -/
inductive Phase where
  | direct | shadow | commit
deriving DecidableEq, Repr

/-- A write under its checks: the session, how it comes in, the device with this write stored, and with all writes of its group
stored, and all the pieces stored together. -/
structure Trial where
  session : Nat
  phase : Phase
  own : Device
  grp : Device
  all : List Piece
deriving DecidableEq, Repr

/-- The least code of a list of (condition, code) whose condition holds; 0 when none does. -/
def leastFail (l : List (Bool × Nat)) : Nat :=
  ((l.filter (fun e => e.1)).map (fun e => e.2)).foldl (fun m c => if m = 0 then c else min m c) 0

/-- Bits set in the low `n` bits of `v`. -/
def popCount (n v : Nat) : Nat := ((List.range n).filter v.testBit).length

/-- The magnitude of an 8-bit two's complement tap. -/
def tapSize (v lo : Nat) : Nat := (ofTwos 8 (bits v lo 8)).natAbs

namespace Device

/-! ### Pieces (R34) -/

/-- An RW object that is read-only in this row: count rules of environment channels (R379), limits of the gradient and
tamper channels (R384). -/
def readOnlyHere (o r : Nat) : Bool :=
  ((o == O.FLT_SRC_N || o == O.FLT_SRC_W_MS) && decide (0x400 ≤ r) && envChannel (r - 0x400)) ||
  ((o == O.MON_LIMIT_LO || o == O.MON_LIMIT_HI) && decide (10 ≤ r))

/-- The writable records of a row, which a whole write carries. -/
def writable (a : AddrBlock) : List Desc := (covered a false).filter (fun e => !readOnlyHere e.obj a.row)

/-- The pieces of a write; nothing when a whole write has the wrong length. -/
def pieces (a : AddrBlock) (v : Bytes) : Option (List Piece) :=
  if a.whole then (splitWhole (writable a) v).map (fun l => l.map (fun x => ⟨x.1, a.row, x.2⟩))
  else (subDesc a.index a.sub).map (fun e => [⟨e, a.row, v⟩])

/-! ### Storing -/

/-- The value the object holds after piece `p` is written by session `s`: the lock holds the claimant, a hot flag is only
cleared, a status bit is cleared by writing 1. -/
def newValue (d : Device) (s : Nat) (p : Piece) : Nat :=
  let o := p.e.obj
  let v := storedValue p.e p.num
  if o = O.LOCK then (if v = 0 then 0 else s)
  else if o = O.MON_HOT then (if v = 0 then 0 else d.rd o p.row)
  else if o = O.PMC_STATUS then d.rd o p.row - (d.rd o p.row &&& v)
  else v

/-- The objects that size a port's lossless pairs (R268). -/
def sizesPairs (o : Nat) : Bool :=
  o == O.PORT_MODE || o == O.PORT_FC || o == O.PORT_PFC_LOSSLESS || o == O.PORT_MAX_FRAME || o == O.BUF_CABLE_M ||
  o == O.BUF_PARTNER_NS

def storePiece (s : Nat) (d : Device) (p : Piece) : Device :=
  let x := d.wr p.e.obj p.row (d.newValue s p)
  if sizesPairs p.e.obj then x.sizePairs p.row else x

def storePieces (s : Nat) (ps : List Piece) (d : Device) : Device := ps.foldl (storePiece s) d

/-- The rows in which object `o` does not have its default. -/
def listed (d : Device) (o : Nat) : List Nat :=
  (d.dict.filter (fun e => e.1 / 2 ^ 24 == o)).map (fun e => e.1 % 2 ^ 24)

/-! ### References beyond the part (step 1: R3, R41) -/

def beyondPart (d : Device) (p : Piece) : Bool :=
  let o := p.e.obj
  let v := p.num
  if o = O.SC_PORT then decide (32 ≤ v ∧ v ≤ 63) && !d.laneOk v
  else if o = O.RXSC_HOST_PORT then decide (v ≤ 63) && !d.laneOk v
  else if o = O.SC_CA ∨ o = O.VAULT_ARG_CA then decide (d.numCas ≤ v)
  else if o = O.RXSC_RETURN_SC then v != 0xFFFFFFFF && decide (d.numScs ≤ v)
  else if o = O.FW_STAGE_TARGET then decide (v ≤ 9) && decide (2 + 2 * d.slices ≤ v)
  else false

/-! ### Values of step 6, by chapter -/

/-- Time (R114, R124). -/
def timeRel (d : Device) (p : Piece) : List (Bool × Nat) :=
  let o := p.e.obj
  let v := p.num
  if o = O.PHC_FREQ_ADJ then [d.followRefuses]
  else if o = O.PHC_LEAP_AT then [(v % 2 ^ 48 != 0, 0xA101)]
  else if o = O.TC_SCHED_LEAD_NS then [(v != 0 && decide (v < 100), 0xA101)]
  else if o = O.LOCK then [(decide (1 < v), 0xA101)]
  else []

/-- Two lane ranges meet. -/
def meets (p k q j : Nat) : Bool := decide (p < q + j) && decide (q < p + k)

/-- The shapes of `x` break R98 at port `p`. -/
def shapeBad (x : Device) (p : Nat) : Bool :=
  let m := x.rd O.PORT_MODE p
  let k := modeLanes m
  let mine := portQuads m p
  k != 0 &&
  (p % k != 0 || (portLanes m p).any (fun l => x.rd O.LANE_PRBS l != 0) ||
   x.allPorts.any (fun q => q != p && x.portEnabled q &&
     (meets p k q (modeLanes (x.rd O.PORT_MODE q)) ||
      (modeRate (x.rd O.PORT_MODE q) != modeRate m && (portQuads (x.rd O.PORT_MODE q) q).any mine.contains))))

/-- The buffer partitions of `x` break R265. -/
def noRoom (x : Device) : Bool := decide (49152 < x.partFixed 1) || decide (x.partSize 0 < 16384)

/-- Ports and lanes (R95, R98, R102, R105, R265, R268). -/
def portRel (d : Device) (t : Trial) (p : Piece) : List (Bool × Nat) :=
  let o := p.e.obj
  let v := p.num
  let r := p.row
  let late := t.phase == .shadow
  let room := if late then t.own else t.grp
  if o = O.LANE_TX_EQ then [(decide (48 < tapSize v 16 + tapSize v 8 + tapSize v 0), 0xA101)]
  else if o = O.LANE_PRBS then [(v != 0 && (d.laneOwner r).isSome, 0xA106)]
  else if o = O.PORT_MODE then [(!late && (shapeBad t.grp r || d.recalBusy r || t.grp.noRoom), 0xA106)]
  else if o = O.PORT_FC then [((!late && v != 2 && t.grp.rd O.PORT_PFC_LOSSLESS r != 0) || room.noRoom, 0xA106)]
  else if o = O.PORT_PFC_LOSSLESS then
    [(decide (2 < popCount 8 v), 0xA101), ((!late && v % 256 != 0 && t.grp.rd O.PORT_FC r != 2) || room.noRoom, 0xA106)]
  else if o = O.PORT_MAX_FRAME ∨ o = O.BUF_CABLE_M ∨ o = O.BUF_PARTNER_NS then
    [(room.noRoom, 0xA106)]
  else if o = O.PORT_FAULT_PARTNER then
    [(v != 0xFFFF && !(d.laneOk v && sliceOfPort v == sliceOfPort r && isLine v != isLine r), 0xA106)]
  else []

/-- DMA and punt rings (R72, R168). -/
def ringRel (d : Device) (t : Trial) (p : Piece) : List (Bool × Nat) :=
  let o := p.e.obj
  let v := p.num
  let on := (d.rdB O.RING_ENABLE p.row, 0xA106)
  if o = O.RING_KIND ∨ o = O.RING_BUF_MAX ∨ o = O.RING_SESSION then [on]
  else if o = O.RING_BASE then [(v % 64 != 0, 0xA101), on]
  else if o = O.RING_SIZE then [(popCount 16 v != 1, 0xA101), on]
  else if o = O.PUNT_RING then
    [(decide (63 < v) && v != 255, 0xA101), (decide (v ≤ 63) && t.own.rd O.RING_KIND v != 1, 0xA106)]
  else []

/-- An SC of the CA holds a resident SA (R173). -/
def caResident (d : Device) (ca : Nat) : Bool :=
  (d.listed O.SCSA_SLOT0_ROW ++ d.listed O.SCSA_SLOT1_ROW).any (fun sc => d.rd O.SC_CA sc == ca && d.scResident sc)

/-- Window or threshold of a CA lies outside the range of its suite (R173). -/
def caOutside (x : Device) (ca : Nat) : Bool :=
  if x.xpn ca then decide (0x3FFFFFFF < x.rd O.CA_REPLAY_WINDOW ca) else decide (0xFFFFFFFF < x.rd O.CA_PN_THRESHOLD ca)

/-- Another SC has the same port, direction and SCI (R175). -/
def sciTwice (x : Device) (sc : Nat) : Bool :=
  x.scUsed sc && x.rd O.SC_SCI sc != 0 && x.rd O.SC_PORT sc != 0xFFFF &&
  (x.listed O.SC_SCI).any (fun s => s != sc && x.rd O.SC_SCI s == x.rd O.SC_SCI sc && x.rd O.SC_PORT s == x.rd O.SC_PORT sc &&
    x.rd O.SC_DIR s == x.rd O.SC_DIR sc)

/-- The slices of two SCs' ports differ; an SC without a port has no slice yet (R240). -/
def slicesDiffer (x : Device) (a b : Nat) : Bool :=
  x.rd O.SC_PORT a != 0xFFFF && x.rd O.SC_PORT b != 0xFFFF && sliceOfPort (x.rd O.SC_PORT a) != sliceOfPort (x.rd O.SC_PORT b)

/-- RXSC_RETURN_SC of `sc` names an SC of another CA or another slice. -/
def returnBad (x : Device) (sc : Nat) : Bool :=
  let t := x.rd O.RXSC_RETURN_SC sc
  t != 0xFFFFFFFF && (x.rd O.SC_CA sc != x.rd O.SC_CA t || x.slicesDiffer sc t)

/-- RXSC_HOST_PORT of `sc` is a host port of another slice than SC_PORT. -/
def hostPortOff (x : Device) (sc : Nat) : Bool :=
  let h := x.rd O.RXSC_HOST_PORT sc
  h != 0xFFFF && x.rd O.SC_PORT sc != 0xFFFF && sliceOfPort h != sliceOfPort (x.rd O.SC_PORT sc)

/-- The relations of R240 that a write of SC_DIR, SC_PORT or SC_CA of `sc` would break. -/
def scRel (x : Device) (sc : Nat) : List (Bool × Nat) :=
  [((x.rd O.SC_DIR sc == 2 && x.returnBad sc) ||
    (x.listed O.RXSC_RETURN_SC).any (fun s => x.rd O.RXSC_RETURN_SC s == sc && x.rd O.SC_DIR s == 2 && x.returnBad s), 0xA106),
   (x.rd O.SC_DIR sc == 2 && x.hostPortOff sc, 0xA107)]

/-- CAs, SCs and profiles (R173, R175, R192, R234, R240). -/
def macRel (d : Device) (t : Trial) (p : Piece) : List (Bool × Nat) :=
  let o := p.e.obj
  let v := p.num
  let r := p.row
  let x := t.own
  let held := (d.scResident r, 0xA106)
  if o = O.CA_CIPHERSUITE ∨ o = O.CA_CONFIDENTIALITY ∨ o = O.CA_CLEAR_TAGS then [(d.caResident r || x.caOutside r, 0xA106)]
  else if o = O.CA_REPLAY_WINDOW ∨ o = O.CA_PN_THRESHOLD then [(x.caOutside r, 0xA106)]
  else if o = O.SC_DIR then [held, (x.sciTwice r, 0xA106)] ++ x.scRel r
  else if o = O.SC_CA then [held] ++ x.scRel r
  else if o = O.SC_SCI then [held, (x.sciTwice r, 0xA106)]
  else if o = O.SC_PORT then
    [(v != 0xFFFF && !decide (32 ≤ v ∧ v ≤ 63), 0xA101), held, (x.sciTwice r, 0xA106)] ++ x.scRel r
  else if o = O.RXSC_HOST_PORT then
    [(v != 0xFFFF && decide (63 < v), 0xA101), (v != 0xFFFF && isLine v, 0xA106), (x.hostPortOff r, 0xA107)]
  else if o = O.RXSC_RETURN_SC then
    [(x.returnBad r || (v == 0xFFFFFFFF && x.rdB O.RXSC_LEARN r), 0xA106)]
  else if o = O.RXSC_LEARN then [(v == 1 && x.rd O.RXSC_RETURN_SC r == 0xFFFFFFFF, 0xA106)]
  else if o = O.MP_RX_IMPLICIT_SCI then [(v != 0 && !isLine r, 0xA106)]
  else if o = O.PROFILE_FIELDS then [(!fieldListOk v, 0xA101), (decide (14 ≤ r), 0xA106)]
  else if o = O.PROFILE_PORT then [(decide (14 ≤ r), 0xA106)]
  else []

/-- Classification (R233, R243). -/
def clsRel (d : Device) (p : Piece) : List (Bool × Nat) :=
  let o := p.e.obj
  if o = O.CLS_KEY then [(keyReserved (beNat (fit 24 p.val)), 0xA101)]
  else if o = O.CLS_SEED then [(d.rd O.CLS_ENTRIES != 0, 0xA106)]
  else if o = O.CLS_AGE_S then [(p.num == 1, 0xA101)]
  else []

/-- A queue draws on partition `r`. -/
def reserveNamed (d : Device) (r : Nat) : Bool := (d.listed O.QUEUE_RESERVE).any (fun q => d.rd O.QUEUE_RESERVE q == r)

/-- Queues and partitions (R262, R263, R265, R272). -/
def queueRel (d : Device) (t : Trial) (p : Piece) : List (Bool × Nat) :=
  let o := p.e.obj
  let v := p.num
  let r := p.row
  let bothRates := fun cir pir => [(t.phase != .shadow && t.grp.rd pir r != 0 && decide (t.grp.rd pir r < t.grp.rd cir r), 0xA106)]
  if o = O.QUEUE_RESERVE then
    [(!decide (4 ≤ v ∧ v ≤ 7) && v != 255, 0xA101), (v != 255 && t.own.rd O.BUFP_OWNER v != 5, 0xA106)]
  else if o = O.PACER_CIR ∨ o = O.PACER_PIR then bothRates O.PACER_CIR O.PACER_PIR
  else if o = O.POL_CIR ∨ o = O.POL_PIR then bothRates O.POL_CIR O.POL_PIR
  else if o = O.BUFP_OWNER then
    [(!decide (4 ≤ r ∧ r ≤ 7) || decide (1 ≤ v ∧ v ≤ 4) || (v == 0 && d.reserveNamed r), 0xA106)]
  else if o = O.BUFP_SIZE_CELLS then
    [(decide (r ≤ 2) || (decide (4 ≤ r ∧ r ≤ 7) && d.reserveNamed r) || (if t.phase = .shadow then t.own else t.grp).noRoom, 0xA106)]
  else if o = O.BUF_LL_XON_GAP then [(decide (t.own.rd O.BUF_LL_XOFF_CELLS r < v), 0xA101)]
  else if o = O.BUF_LL_XOFF_CELLS then [(decide (v < t.own.rd O.BUF_LL_XON_GAP r), 0xA106)]
  else []

/-- The purpose codes of R285. -/
def purposeCode (v : Nat) : Bool := (decide (0x10 ≤ v) && decide (v ≤ 0x13)) || (decide (1 ≤ v) && decide (v ≤ 5))

/-- SAs, keys and firmware (R229, R285, R299, R355). -/
def keyRel (d : Device) (t : Trial) (p : Piece) : List (Bool × Nat) :=
  let o := p.e.obj
  let v := p.num
  if o = O.SA_KEK ∨ o = O.SA_WRAPPED_SAK ∨ o = O.SA_SALT ∨ o = O.SA_SSCI ∨ o = O.SA_INIT_PN ∨ o = O.SA_KI then
    [(!d.saStateIn p.row [0, 1, 6], 0xA106)]
  else if o = O.VAULT_ARG_KEY_BITS then [(v != 128 && v != 256, 0xA101)]
  else if o = O.VAULT_ARG_PURPOSE then [(!purposeCode v, 0xA101)]
  else if o = O.PEER_KEY then [((d.slotOf v).elim false (fun k => d.rdB O.VAULT_COUNTED k), 0xA106)]
  else if o = O.FW_STAGE_TARGET then [(decide (9 < v) && v != 255, 0xA101), (v != 255 && t.own.fwTargetBusy, 0xA106)]
  else []

/-- The writable range of a monitor limit (R384). -/
def limitRange (r : Nat) (hi : Bool) : Int × Int :=
  if monKind r = 0 then (if hi then (20, 200) else (-200, -20))
  else if monKind r = 1 then (if hi then (100, 50000) else (-50000, -100))
  else (-640, 2000)

/-- Monitors (R383, R384, R390). -/
def monRel (t : Trial) (p : Piece) : List (Bool × Nat) :=
  let o := p.e.obj
  let r := p.row
  let v := ofTwos 32 p.num
  let x := t.own
  if o = O.MON_ENABLE then [(p.num == 0 && envChannel r, 0xA106)]
  else if o = O.MON_LIMIT_LO ∨ o = O.MON_LIMIT_HI then
    let g := limitRange r (o == O.MON_LIMIT_HI)
    [(decide (v < g.1 ∨ g.2 < v), 0xA101), (decide (x.rdI 32 O.MON_LIMIT_HI r < x.rdI 32 O.MON_LIMIT_LO r), 0xA106)]
  else if o = O.MON_ACTIVE_HIGH then [(decide (r < 12), 0xA106)]
  else []

/-- The codes of R393. -/
def eventKnown (c : Nat) : Bool := decide (c ≤ 0x11) || decide (0x40 ≤ c ∧ c ≤ 0x49)

/-- Performance counters (R392 to R396). -/
def pmcRel (d : Device) (t : Trial) (p : Piece) : List (Bool × Nat) :=
  let o := p.e.obj
  let v := p.num
  let r := p.row
  let on := (d.rdB O.PMC_ENABLE r, 0xA106)
  let c := v % 256
  if o = O.PMC_EVENT then
    [(!eventKnown c || (decide (0x40 ≤ c) && v.testBit 8), 0xA101), on,
     (c != 0 && pmcSliceRow r == decide (0x40 ≤ c), 0xA106)]
  else if o = O.PMC_CHAIN then [on, (r % 2 == 1, 0xA106)]
  else if o = O.PMC_RANGE_LO ∨ o = O.PMC_RANGE_HI then
    [on, (decide (t.own.rd O.PMC_RANGE_HI r < t.own.rd O.PMC_RANGE_LO r), 0xA106)]
  else if o = O.PMC_CLASS_MASK ∨ o = O.PMC_ROLE_MASK ∨ o = O.PMC_MASTER_MASK ∨ o = O.PMC_TENANT ∨ o = O.PMC_TENANT_READ then [on]
  else if o = O.PMC_SAMPLE then [(!pmcSliceRow r, 0xA106)]
  else []

/-- Step 6 of R40 for one piece: type and range first, then the rules of its own chapter. A value of the wrong length has
no other property. -/
def valueFails (d : Device) (t : Trial) (p : Piece) : List (Bool × Nat) :=
  if lengthCheck p.e p.val ≠ 0 then [(true, lengthCheck p.e p.val)] else
  (typeCheck d p.e p.val != 0, typeCheck d p.e p.val) ::
  (d.timeRel p ++ d.portRel t p ++ d.ringRel t p ++ d.macRel t p ++ d.clsRel p ++ d.queueRel t p ++ d.keyRel t p ++
   monRel t p ++ d.pmcRel t p)

/-! ### The other steps of one piece -/

/-- Step 2: an enable of a ring needs its session (R72). -/
def sessionFails (t : Trial) (p : Piece) : Bool :=
  p.e.obj == O.RING_ENABLE && p.num == 1 && !t.own.ringSessionOpen p.row

/-- Step 4: modes that RWS asks for (R35), the gun time of an armed drain (R82), and gun objects of an armed SA (R229). -/
def stateFails (d : Device) (p : Piece) : List (Bool × Nat) :=
  let o := p.e.obj
  [(p.e.acc == .rws && d.mode != .stage, 0xA301),
   (o == O.DRAIN_GUN_TIME && d.drainEntry.isSome, 0xA304),
   ((o == O.SA_GUN_TIME || o == O.SA_LATE_OK || o == O.SA_GUN_TAG) && (d.saGun p.row).isSome, 0xA304)]

/-- The purpose of a slot named by a KEYREF object fails what the object is for (R67, R285). -/
def purposeFails (d : Device) (p : Piece) : Bool :=
  (p.e.obj == O.ROLE_ROOT || p.e.obj == O.PEER_KEY) &&
  (d.slotOf p.num).elim false (fun k => d.rd O.VAULT_PURPOSE k != 2)

/-- The receive SC an object belongs to, when its entry follows that object (R240). -/
def entryOf (p : Piece) : Option Nat :=
  let o := p.e.obj
  if o = O.SC_DIR ∨ o = O.SC_PORT ∨ o = O.SC_SCI ∨ o = O.SC_CA ∨ o = O.RXSC_HOST_PORT ∨ o = O.RXSC_CLASS then some p.row else none

/-- The receive SCs whose entry follows a change of these pieces (R240). -/
def entriesOf (old d : Device) (ps : List Piece) : List Nat :=
  ((ps.filter (fun p => old.rd p.e.obj p.row != d.rd p.e.obj p.row)).filterMap entryOf).eraseDups.filter
    (fun sc => old.rdB O.RXSC_ENTRY sc || d.rxscComplete sc)

/-- The entries of the receive SCs that these stored pieces change follow, one after the other. -/
def maintainEntries (old d : Device) (ps : List Piece) : Device :=
  (entriesOf old d ps).foldl (fun d sc => rxscMaintain (old.rxscInstalled sc) sc d) d

/-- Of the receive SCs that these pieces change together, those complete ones that would find no way (R240). The search is made on a
copy, after the WRITEs that wait. -/
def entriesLost (d : Device) (s : Nat) (ps : List Piece) : List Nat :=
  let x := d.storePieces s ps
  let y := maintainEntries d x ps
  (entriesOf d x ps).filter (fun sc => x.rxscComplete sc && !y.rdB O.RXSC_ENTRY sc)

/-- A piece that changes its object: the entry to be installed has no way (R240). -/
def entryFails (d : Device) (t : Trial) (p : Piece) : Bool :=
  (entryOf p).elim false (fun sc =>
    d.rd p.e.obj p.row != t.own.rd p.e.obj p.row && (d.entriesLost t.session t.all).contains sc)

/-- Step 7 of one piece (R44 to R46, R67, R240, R285). -/
def resourceFails (d : Device) (t : Trial) (p : Piece) : List (Bool × Nat) :=
  let o := p.e.obj
  [((o == O.GROUP_GUN_TIME || o == O.GROUP_LATE_OK) && d.rd O.GROUP_OWNER p.row != t.session, 0xA201),
   (o == O.LOCK && p.num != 0 && d.rd O.LOCK != 0 && d.rd O.LOCK != t.session, 0xA202),
   (d.entryFails t p, 0xA206),
   (d.purposeFails p, 0xA403)]

/-! ### The whole check (R40, R47) -/

/-- The write is a claim of the lock, which has its own code instead of 0xA203 (R44). -/
def lockClaimed (ps : List Piece) : Bool := !ps.isEmpty && ps.all (fun p => p.e.obj == O.LOCK && p.val == leBytes 4 1)

/-- The objects a write covers, whatever the length of its value: what steps 3 to 5 of R40 look at. -/
def blanks (a : AddrBlock) : List Piece := (writable a).map (fun e => ⟨e, a.row, []⟩)

/-- Step 2 of R40 for a write. -/
def writeWho (d : Device) (r : Req) (a : AddrBlock) (t : Trial) (ps : List Piece) : Nat :=
  if d.whoCheck r a false = 0xA007 ∨ ps.any (sessionFails t) then 0xA007 else d.whoCheck r a false

/-- Step 4 of R40 for a write; into a shadow, only what the group and the device as a whole allow (R47). -/
def writeState (d : Device) (a : AddrBlock) (t : Trial) (ps : List Piece) : Nat :=
  let off := (d.unserved a false, 0xA303)
  if t.phase = .shadow then leastFail [off, (d.rd O.GROUP_STATE a.group != 1, 0xA305)]
  else leastFail (off :: (d.armedConflict a, 0xA304) :: ps.flatMap d.stateFails)

/-- Step 6: a command never stands in a group (R47). -/
def writeValue (d : Device) (a : AddrBlock) (t : Trial) (ps : Option (List Piece)) : Nat :=
  ps.elim 0xA102 (fun ps =>
    leastFail ((t.phase == .shadow && !a.whole && ps.any (fun p => p.e.acc == .cmd), 0xA106) :: ps.flatMap (d.valueFails t)))

/-- A stored write that a write to `a` replaces: one to the same object, or one that a whole write covers (R47). -/
def replaced (a : AddrBlock) (w : ShadowWrite) : Bool :=
  w.addr == a || (a.whole && w.addr.index == a.index && w.addr.table == a.table && w.addr.row == a.row)

/-- Step 7; for a shadow write the group's own conditions (R46). -/
def writeResource (d : Device) (a : AddrBlock) (t : Trial) (ps : List Piece) : Nat :=
  if t.phase = .shadow then
    leastFail [(d.rd O.GROUP_OWNER a.group != t.session, 0xA201),
               (decide (4096 ≤ ((d.groupOf a.group).shadow.filter (fun w => !replaced a w)).length), 0xA204)]
  else leastFail (ps.flatMap (d.resourceFails t))

/-- Every step of R40 for a write of `v` to `a`. A whole write to an object or row that has no writable subindex is refused
with 0xA004, as a write to an RO subindex is (DESIGN CHOICE, log entry 24: R34 names no code for it). -/
def writeCheck (d : Device) (r : Req) (a : AddrBlock) (v : Bytes) (phase : Phase) (grp : Option (Device × List Piece)) : Nat :=
  let ps := pieces a v
  let l := ps.getD []
  let own := d.storePieces r.session l
  let t : Trial := ⟨r.session, phase, own, (grp.getD (own, l)).1, (grp.getD (own, l)).2⟩
  let acc := if accCheck a false ≠ 0 then accCheck a false else
    if (if a.whole then (writable a).isEmpty else l.any (fun p => readOnlyHere p.e.obj p.row)) then 0xA004 else 0
  firstFail
    ([(d.addrCheck a false != 0, d.addrCheck a false), (l.any d.beyondPart, 0xA105)] ++
     ([d.writeWho r a t l, acc, d.writeState a t (blanks a),
       if d.lockBlocks r && !lockClaimed l then 0xA203 else 0,
       d.writeValue a t ps, d.writeResource a t l].map (fun c => (c != 0, c))))

/-! ### What follows from a write -/

/-- Bring the bucket levels of a queue up to date before its rates or sizes change (R262). -/
def bucketObj (o : Nat) : Bool :=
  (List.range 4).any (fun i => rateObj i == o || sizeObj i == o)

def levelsBefore (d : Device) (p : Piece) : Device := if bucketObj p.e.obj then d.refreshLevels p.row else d

/-- Positive credit above a size is clipped (R262). -/
def clipLevels (d : Device) (q : Nat) : Device :=
  let x := d.queueOf q
  d.setQueue q { x with levels := (x.levels.zipIdx).map (fun e => min e.1 (d.rd (sizeObj e.2) q * 2 ^ 32 : Nat)) }

/-- A unit stops measuring: what it has counted since the last read is a free amount. -/
def lastCount (o r : Nat) (d : Device) : Device := d.unstated.2.add64 o r d.unstated.1

/-- Lanes of a port that its old shape used go idle. -/
def shapeDown (old : Device) (d : Device) (p : Nat) : Device :=
  let lanes := portLanes (old.rd O.PORT_MODE p) p
  let d := if lanes = [] then d else lastCount O.PORT_FEC_CORRECTED_CW p (lanes.foldl (fun d l => lastCount O.LANE_FEC_SYMBOL_ERRORS l d) d)
  let d := lanes.foldl (fun d l =>
    d.adaptTo 0 l) d
  (d.setPort p { d.portOf p with rx := .noSignal }).setLink p 0

/-- Lanes of a port's new shape wait for a signal (R96). -/
def shapeUp (d : Device) (p : Nat) : Device :=
  if ¬ d.portEnabled p then d else
  ((portLanes (d.rd O.PORT_MODE p) p).foldl (fun d l => d.acquire l) d).setLink p 1

/-- The ports whose shape has changed. -/
def shapesOf (old d : Device) (ps : List Piece) : List Nat :=
  ((ps.filter (fun p => p.e.obj == O.PORT_MODE)).map (fun p => p.row)).filter
    (fun p => old.rd O.PORT_MODE p != d.rd O.PORT_MODE p)

/-- New shapes take effect together (R96 to R98). -/
def reshape (old : Device) (ps : List Piece) (d : Device) : Device :=
  let l := shapesOf old d ps
  l.foldl shapeUp (l.foldl (shapeDown old) d)

/-- RING_ENABLE has been written (R72): the ring starts or stops. -/
def ringSwitch (old d : Device) (n : Nat) : Device :=
  if d.rdB O.RING_ENABLE n then d.ringStart n
  else if old.rdB O.RING_ENABLE n then d.dmaHalt n else d

/-- What one stored piece brings about in its unit. -/
def pieceEffect (old : Device) (d : Device) (p : Piece) : Device :=
  let o := p.e.obj
  let r := p.row
  if o = O.PHC_FREQ_ADJ then d.phcPend (.freqAdj (d.rdI 64 O.PHC_FREQ_ADJ))
  else if o = O.PHC_UTC_OFFSET ∨ o = O.PHC_LEAP_AT ∨ o = O.PHC_LEAP_KIND then d.leapNow.lapRetime
  else if o = O.PPS_OUT_ENABLE then
    (if old.rdB O.PPS_OUT_ENABLE then d else d.setTime { d.time with ppsSeen := d.phc }).refreshTimeHold
  else if o = O.TOD_OUT_ENABLE then d.refreshTimeHold
  else if o = O.RING_UPSTREAM_EXPECTED then d.refreshUpstream
  else if o = O.TIME_BYPASS_EXPECTED then d.refreshSel
  else if o = O.TS_RX_BASE ∨ o = O.TS_TX_BASE ∨ o = O.TS_RX_TEMPCO ∨ o = O.TS_TX_TEMPCO then d.refreshLatency r
  else if o = O.LANE_PRBS then
    (if d.rd o r = 0 then (if old.rd o r = 0 then d else lastCount O.LANE_PRBS_ERRORS r d)
     else if old.rd o r = 0 then d.wr O.LANE_PRBS_ERRORS r 0 else d)
  else if bucketObj o then d.clipLevels r
  else if o = O.RING_ENABLE then ringSwitch old d r
  else if o = O.LOCK then (if d.rd O.LOCK ≠ 0 ∧ old.rd O.LOCK = 0 then d.setLockRenewed d.cyc else d)
  else if o = O.MON_ENABLE then
    (if ¬ d.rdB o r then d.wr O.MON_STATE r 2 else if d.rd O.MON_STATE r = 2 then d.wr O.MON_STATE r 0 else d)
  else if o = O.CALLROOM_XOFF_THRESHOLD then (List.range d.slices).foldl callroomRecount d
  else if o = O.BUF_LL_XOFF_CELLS ∨ o = O.BUF_LL_XON_GAP then d.pairLimits r
  else d

/-- Store the pieces of accepted writes, all on one edge, and let everything that depends on them follow (R43, R47). -/
def applyPieces (s : Nat) (ps : List Piece) (d : Device) : Device :=
  let old := ps.foldl levelsBefore d
  let x := withSignals (fun d => reshape old ps (storePieces s ps d)) old
  let x := ps.foldl (pieceEffect old) x
  maintainEntries old x ps

/-- A direct write (R35, R43): the abort. -/
def writeDirect (r : Req) (a : AddrBlock) (v : Bytes) (d : Device) : Nat × Device :=
  let e := d.writeCheck r a v .direct none
  if e ≠ 0 then (e, d) else (0, applyPieces r.session ((pieces a v).getD []) d)

end Device
end Sys2Proof.Machine
end

