-- ==== Sys2Proof/Machine/Groups.lean ====
section
/-!
DEFINITION. The lock (R44), commit groups (R46 to R48), and the issue and firing of gun entries (R137 to R141).
-/
namespace Sys2Proof.Machine
namespace Device

/-! ### The lock (R44) -/

/-- Write `v` to LOCK. -/
def lockWrite (r : Req) (v : Nat) (d : Device) : Nat × Device := writeDirect r (directAddr O.LOCK 0) (leBytes 4 v) d

def lockBreakCore (r : Req) (d : Device) : Nat × Device :=
  runCmd r O.LOCK_BREAK 0 { Conds.none with exempt := true } (fun d => (some 0, d.wrCmd O.LOCK 0 0)) d

/-- The lease runs out without renewal. -/
def lockLeaseExpiry (d : Device) : Device :=
  if d.rd O.LOCK = 0 then d else (d.passTo (d.lockRenewed + msCycles (d.rd O.LOCK_LEASE_MS))).wrCmd O.LOCK 0 0

/-! ### Shadow writes (R47) -/

def setShadow (d : Device) (g : Nat) (l : List ShadowWrite) : Device :=
  (d.setGroup g { d.groupOf g with shadow := l }).wr O.GROUP_WRITES g l.length

/-- A write into an OPEN group: checked through step 6, then stored. -/
def shadowWrite (r : Req) (a : AddrBlock) (v : Bytes) (d : Device) : Nat × Device :=
  let e := d.writeCheck r a v .shadow none
  if e ≠ 0 then (e, d) else
  (0, d.setShadow a.group ((d.groupOf a.group).shadow.filter (fun w => !replaced a w) ++ [⟨a, v⟩]))

/-! ### Commands of a group (R46 to R48) -/

/-- The session may release the group: its owner, or any once the owner's session has closed and the group has ended. -/
def mayRelease (d : Device) (r : Req) (g : Nat) : Bool :=
  let st := d.rd O.GROUP_STATE g
  d.rd O.GROUP_OWNER g == r.session || ((d.openRow (d.rd O.GROUP_OWNER g)).isNone && decide (3 ≤ st ∧ st ≤ 5))

/-- Another session than the owner starts a command of the group. -/
def notOwner (d : Device) (r : Req) (g : Nat) : Bool := d.rd O.GROUP_OWNER g != r.session

def groupOpenCore (r : Req) (g : Nat) (d : Device) : Nat × Device :=
  runCmd r O.GROUP_CMD g { Conds.none with s4 := [(d.rd O.GROUP_STATE g != 0, 0xA305)] }
    (fun d => (some 0, ((d.setGroup g GroupX.empty).wr O.GROUP_STATE g 1).wr O.GROUP_OWNER g r.session)) d

/-- The pieces of a shadow, in the order they were stored. -/
def shadowPieces (l : List ShadowWrite) : List Piece := l.flatMap (fun w => (pieces w.addr w.val).getD [])

/-- The first stored write that fails its checks, with its code (R47). -/
def commitFails (d : Device) (r : Req) (g : Nat) : Option (ShadowWrite × Nat) :=
  let l := (d.groupOf g).shadow
  let all := (d.storePieces r.session (shadowPieces l), shadowPieces l)
  (l.map (fun w => (w, d.writeCheck r w.addr w.val .commit (some all)))).find? (fun x => x.2 != 0)

/-- The wire form of an address block (R31). -/
def addrBytes (a : AddrBlock) : Bytes :=
  leBytes 2 a.index ++ leBytes 1 a.sub ++ leBytes 1 (boolNat a.table + 2 * boolNat a.whole) ++ leBytes 3 a.row ++ leBytes 1 a.group

/-- A commit fails: no write takes effect. -/
def commitFailed (d : Device) (g : Nat) (w : ShadowWrite) : Device :=
  (d.wr O.GROUP_STATE g 4).wr O.GROUP_FAIL_ADDRESS g (leNat (addrBytes w.addr))

/-- All stored writes of a group take effect on one edge. -/
def applyGroup (d : Device) (g : Nat) : Device :=
  (applyPieces (d.rd O.GROUP_OWNER g) (shadowPieces (d.groupOf g).shadow) d).wr O.GROUP_STATE g 3

def commitNowCore (r : Req) (g : Nat) (d : Device) : Nat × Device :=
  runCmd r O.GROUP_CMD g
    { Conds.none with s4 := [(d.rd O.GROUP_STATE g != 1, 0xA305)], s7 := [(d.notOwner r g, 0xA201)] }
    (fun d => match d.commitFails r g with
      | some x => (some x.2, d.commitFailed g x.1)
      | none => (some 0, (d.applyGroup g).wr O.GROUP_FLAGS g 0)) d

/-- The shadow holds an RWS object. -/
def holdsRws (d : Device) (g : Nat) : Bool := (shadowPieces (d.groupOf g).shadow).any (fun p => p.e.acc == .rws)

/-- The group is armed with entry `e`. -/
def commitArm (d : Device) (g e : Nat) : Device :=
  ((d.setGroup g { d.groupOf g with entry := some e }).wr O.GROUP_STATE g 2).gunTake e 1 g (d.rd O.GROUP_GUN_TIME g)
    (d.rd O.GUN_GROUP_TAG g) (d.rdB O.GROUP_LATE_OK g)

def commitAtCore (r : Req) (g : Nat) (d : Device) : Nat × Device :=
  runCmd r O.GROUP_CMD g
    { Conds.none with
      s4 := [(d.rd O.GROUP_STATE g != 1 || d.holdsRws g, 0xA305),
             (d.gunPast (d.rd O.GROUP_GUN_TIME g) && !d.rdB O.GROUP_LATE_OK g, 0xA306)]
      s7 := [(d.notOwner r g, 0xA201), ((d.gunPool 1).isNone, 0xA205)] }
    (fun d => match d.commitFails r g with
      | some x => (some x.2, d.commitFailed g x.1)
      | none => (some 0, (d.gunPool 1).elim d (fun e => (d.wr O.GROUP_FLAGS g 0).commitArm g e))) d

/-- The entry of an armed group has been issued: too late to cancel (R136). -/
def groupIssued (d : Device) (g : Nat) : Bool := (d.groupOf g).entry.elim false (fun e => d.rd O.GUN_STATE e == 2)

def groupCancelCore (r : Req) (g : Nat) (d : Device) : Nat × Device :=
  runCmd r O.GROUP_CMD g
    { Conds.none with
      s4 := [(d.rd O.GROUP_STATE g == 2 && d.groupIssued g, 0xA303), (d.rd O.GROUP_STATE g != 2, 0xA305)]
      s7 := [(d.notOwner r g, 0xA201)], exempt := d.mayRelease r g }
    (fun d => (some 0, d.groupCancelled g)) d

def groupReleaseCore (r : Req) (g : Nat) (d : Device) : Nat × Device :=
  let st := d.rd O.GROUP_STATE g
  runCmd r O.GROUP_CMD g
    { Conds.none with
      s4 := [(st == 0 || st == 2, 0xA305)], s7 := [(!d.mayRelease r g, 0xA201)], exempt := d.mayRelease r g }
    (fun d => (some 0, d.groupIdle g)) d

/-! ### Target cycles and order (R137, R138, R141) -/

/-- The cycle at which a live entry would fire without a step: a late one 256 ns after its arm, any other where the PHC first
reaches its gun time. -/
def gunPlain (d : Device) (e : Nat) : Nat :=
  let x := d.gunOf e
  if x.late then x.armedAt + nsCycles 256 else max x.armedAt (d.reach (ticksOf (d.rd O.GUN_TIME e)))

/-- The last step moved the PHC back. -/
def steppedBack (d : Device) : Bool := decide (ticksOf (d.rd O.PHC_LAST_STEP_AT) < d.edge.without)

/-- The cycle at which a live entry fires. On the edge of a backward step none does; on that of a forward step every entry armed
by then does whose gun time the PHC has reached (R140). -/
def gunTarget (d : Device) (e : Nat) : Nat :=
  let t := d.gunPlain e
  if d.edge.cyc ≤ (d.gunOf e).armedAt then t
  else if d.steppedBack then max t (d.edge.cyc + 1)
  else if ticksOf (d.rd O.GUN_TIME e) ≤ ticksOf (d.rd O.PHC_LAST_STEP_AT) then min t d.edge.cyc
  else t

/-- Entries in the order they act (R141): by target cycle; on one edge LAP_CLOSE first, then gun time, then GUN_SEQ. -/
def gunKey (d : Device) (e : Nat) : List Nat :=
  [max d.cyc (d.gunTarget e), boolNat (d.rd O.GUN_OWNER e != 5), ticksOf (d.rd O.GUN_TIME e), d.rd O.GUN_SEQ e]

/-- No live entry acts before entry `e`. -/
def gunFirst (d : Device) (e : Nat) : Bool :=
  (d.listed O.GUN_STATE).all (fun x => x == e || !d.gunLive x || !decide (d.gunKey x < d.gunKey e))

/-- The Hub issues the pair of an ARMED entry, 512 ns to 256 ns before its target (R138). -/
def gunIssue (e : Nat) (d : Device) : Device :=
  if ¬ d.clockOn ∨ d.rd O.GUN_STATE e ≠ 1 then d else
  let t := d.gunTarget e
  let d := d.passTo (t - nsCycles 512)
  (d.wr O.GUN_STATE e 2).wr O.GUN_TARGET_CYCLE e t

/-- The last step of the PHC brought entry `e` forward (R140). -/
def gunStepped (d : Device) (e : Nat) : Bool :=
  let t := ticksOf (d.rd O.GUN_TIME e)
  !(d.gunOf e).late && decide ((d.gunOf e).armedAt ≤ d.edge.cyc) && decide (d.edge.without < t) &&
  decide (t ≤ ticksOf (d.rd O.PHC_LAST_STEP_AT))

/-! ### Firing (R134, R138) -/

/-- A group fires: its writes apply, and its flags say how (R47). -/
def groupFire (d : Device) (g : Nat) (late stepped : Bool) : Device :=
  ((d.setGroup g { d.groupOf g with entry := none }).applyGroup g).wr O.GROUP_FLAGS g (boolNat late + 2 * boolNat stepped)

/-- A recalibration window opens, or is cancelled while its slice is GATED or RETURNING (R108, R109). -/
def recalFire (d : Device) (p : Nat) (late stepped : Bool) : Bool × Device :=
  let st := d.rd O.SLICE_STATE (sliceOfPort p)
  if st = 3 ∨ st = 4 then (false, d.recalCancelled p)
  else (true, (d.wr O.PORT_RECAL_FLAGS p (boolNat late + 2 * boolNat stepped)).recalOpen p)

/-- The action of entry `e`; false when its home chapter cancels it instead. -/
def gunAct (d : Device) (e : Nat) (late stepped : Bool) : Bool × Device :=
  let row := d.rd O.GUN_TARGET_ROW e
  match d.rd O.GUN_OWNER e with
  | 1 => (true, d.groupFire row late stepped)
  | 2 => (true, d.txHandover row late stepped)
  | 3 => (true, d.zoneEnd row late stepped)
  | 4 => d.parserSwap row late stepped
  | 5 => (true, d.lapFired e)
  | 6 => d.recalFire row late stepped
  | _ => (true, d.drainClose)

/-- Entry `e` takes effect at its target cycle. After a lap close the next boundary is armed (R277). -/
def gunFire (e : Nat) (d : Device) : Device :=
  if ¬ d.clockOn ∨ ¬ d.gunLive e ∨ ¬ d.gunFirst e then d else
  let d := d.passTo (d.gunTarget e)
  let stepped := d.gunStepped e
  let lap := d.rd O.GUN_OWNER e == 5
  let x := d.gunAct e (d.gunOf e).late stepped
  let d := if x.1 then x.2.gunDone e stepped else x.2.gunCancelNow e
  if lap then d.lapRetime else d

end Device

def execLockClaim (r : Req) (s : State) := s.on (fun d => d.direct r (Device.lockWrite r 1))
def execLockRelease (r : Req) (s : State) := s.on (fun d => d.direct r (Device.lockWrite r 0))
def execLockBreak (r : Req) (s : State) := s.on (fun d => d.direct r fun d => d.lockBreakCore r)
def execLockLeaseExpiry (s : State) := s.on Device.lockLeaseExpiry
def execGroupOpen (r : Req) (g : Nat) (s : State) := s.on (fun d => d.direct r fun d => d.groupOpenCore r g)
def execCommitNow (r : Req) (g : Nat) (s : State) := s.on (fun d => d.direct r fun d => d.commitNowCore r g)
def execCommitAt (r : Req) (g : Nat) (s : State) := s.on (fun d => d.direct r fun d => d.commitAtCore r g)
def execGroupCancel (r : Req) (g : Nat) (s : State) := s.on (fun d => d.direct r fun d => d.groupCancelCore r g)
def execGroupRelease (r : Req) (g : Nat) (s : State) := s.on (fun d => d.direct r fun d => d.groupReleaseCore r g)
def execGunIssue (e : Nat) (s : State) := s.on (Device.gunIssue e)
def execGunFire (e : Nat) (s : State) := s.on (Device.gunFire e)

end Sys2Proof.Machine
end

