-- ==== Sys2Proof/Machine/ReadObj.lean ====
section
/-!
DEFINITION. Reads (R34, R35, R40): the objects whose value the device works out from its state, the external lines a read
takes, what a read changes, and the checks of a read.
-/
namespace Sys2Proof.Machine

/-- A part of a tamper channel's row that the collector does not sample (R366, R386). -/
def tamperSource (r : Nat) : Bool := decide (0x400 ≤ r) && !envChannel (r - 0x400)

namespace Device

/-! ### Identity and capacity (R3, R19, R21, R22, R49) -/

/-- Channels in service. -/
def channelMask (d : Device) : Nat := ((List.range 4).map (fun c => if d.rd O.MEM_CH_STATE c = 2 then 0 else 2 ^ c)).sum
def channelCount (d : Device) : Nat := ((List.range 4).filter (fun c => d.rd O.MEM_CH_STATE c != 2)).length

def readIdentity (d : Device) (o : Nat) : Option Nat :=
  let n := d.slices
  if o = O.PART_NUMBER then some (leNat (asciiBytes (match d.part with | .isf3232 => "ISF3232" | .isf3216 => "ISF3216")))
  else if o = O.DIE_STEPPING then some Config.dieStepping
  else if o = O.DEVICE_SERIAL then some d.serial
  else if o = O.WILORN_SCHEMA then some Config.wilornSchema
  else if o = O.SKU_SLICE_MASK then some (2 ^ n - 1)
  else if o = O.SKU_LANES_PER_SIDE ∨ o = O.SKU_PORTS_PER_SIDE then some (8 * n)
  else if o = O.SKU_TENANTS then some d.numCas
  else if o = O.SKU_SCS then some d.numScs
  else if o = O.SKU_RESIDENT_SAS then some (2 * d.numScs)
  else if o = O.SKU_PROVISIONED_SAS then some (4 * d.numScs)
  else if o = O.SKU_TENANT_QUEUES then some d.numQueues
  else if o = O.SKU_PORT_CLASS_NODES then some (128 * n)
  else if o = O.SKU_AES_CORES then some (18 * n)
  else if o = O.SKU_PERF_COUNTERS then some (32 * n + 16)
  else if o = O.EXT_CHANNELS_IN_SERVICE then some d.channelMask
  else if o = O.EXT_DATA_KIB then some (98304 * d.channelCount)
  else if o = O.EXT_TAG_KIB ∨ o = O.EXT_COUNTER_KIB then some (12288 * d.channelCount)
  else if o = O.EXT_TREE_KIB then some (1792 * d.channelCount)
  else if o = O.EXT_RESERVED_KIB then some (6400 * d.channelCount)
  else if o = O.EXT_ASSIGNED_KIB then some (if d.channelCount = 4 then 251904 else 235520)
  else none

/-! ### Life cycle, firmware, attestation (R347, R359, R363) -/

def readOtp (d : Device) (o r : Nat) : Option Nat :=
  if o = O.LC_TOKENS_LEFT then some d.tokensLeft
  else if o = O.LC_OWNER_KEY_HASH then some d.ownerKeyHash
  else if o = O.OTP_WORD then some (d.otpShown r)
  else if o = O.FW_ROLLBACK_COUNT then some d.rollback
  else if o = O.ATT_TOP_PUBLIC then some d.attPublic
  else if o = O.ATT_EPOCHS_LEFT then some d.epochsLeft
  else if o = O.VAULT_FREE_SLOTS then some d.freeSlots
  else none

/-! ### Ports, time, guns, banks (R94, R105, R114, R136, R211) -/

/-- Free entries of a gun pool (R136). -/
def poolFree (d : Device) (lo n : Nat) : Nat :=
  n - ((d.listed O.GUN_STATE).filter (fun e => decide (lo ≤ e ∧ e < lo + n) && d.gunLive e)).length

def readUnit (d : Device) (o r : Nat) : Option Nat :=
  if o = O.MODE then some d.modeCode
  else if o = O.LANE_RATE then some (d.laneRate r)
  else if o = O.PORT_TX_SIGNAL then some (d.portSignal r)
  else if o = O.PHC_NOW then some d.phcTime
  else if o = O.GUN_FREE_LAP then some (d.poolFree 0 4)
  else if o = O.GUN_FREE_HANDOVER then some (d.poolFree 4 768)
  else if o = O.GUN_FREE_SHARED then some (d.poolFree 772 252)
  else if O.BANK_STRIKES_C0 ≤ o ∧ o ≤ O.BANK_STRIKES_C8 then some (d.strikesOf r (o - O.BANK_STRIKES_C0)).length
  else none

/-! ### SAs, tables, queues, laps, faults, counters -/

/-- Next or lowest PN of a resident SA (R229). -/
def readPn (d : Device) (o pr : Nat) : Nat :=
  if d.rd O.SA_SLOT pr = 0xFFFFFFFF then 0
  else if o = O.SA_NEXT_PN then (d.ctxOf (d.rd O.SA_SLOT pr)).pn
  else if d.rd O.SC_DIR (pr / 4) = 2 then d.lowestPn (d.rd O.SA_SLOT pr) else 0

/-- A bucket level in whole bytes, rounded toward −∞ (R263). -/
def readLevel (d : Device) (q i : Nat) : Nat := toTwos 64 (d.level q i / (2 ^ 32 : Int))

/-- A table position of the classification dump (R239). -/
def readDump (d : Device) (o pos : Nat) : Nat :=
  let e := d.wayNow pos
  if ¬ resValid e.result then 0 else if o = O.CLS_DUMP_KEY then leNat (beBytes 24 e.key) else e.result

/-- A lap record, or one of its counters (R280, R281). -/
def readLap (d : Device) (o row : Nat) : Nat :=
  if o = O.LAP_RECORD then leNat (d.lapRecord row) else (lapList (d.lapCounters row)).getD (o - O.LAP_PROTECTED_FRAMES) 0

def readTable (d : Device) (o r : Nat) : Option Nat :=
  if o = O.SA_NEXT_PN ∨ o = O.SA_LOWEST_PN then some (d.readPn o r)
  else if o = O.PACER_C_LEVEL then some (d.readLevel r 0)
  else if o = O.PACER_P_LEVEL then some (d.readLevel r 1)
  else if o = O.POL_C_LEVEL then some (d.readLevel r 2)
  else if o = O.POL_P_LEVEL then some (d.readLevel r 3)
  else if o = O.BUFP_SIZE_CELLS then some (d.partSize r)
  else if o = O.NODE_VTIME ∨ o = O.NODE_ACTIVE_QUEUES then some (d.settle.rd o r)
  else if o = O.CLS_DUMP_KEY ∨ o = O.CLS_DUMP_RESULT then some (d.readDump o r)
  else if o / 256 = 0x5920 then some (d.readLap o r)
  else if o = O.FLT_SRC_STATE ∧ tamperSource r then some 3
  else if o = O.FLT_SRC_N ∧ readOnlyHere o r then some (d.srcN r)
  else if o = O.FLT_SRC_W_MS ∧ readOnlyHere o r then some (d.srcW r)
  else if o = O.PMC_VALUE ∧ r < 128 ∧ (d.rd O.SLICE_STATE (r / 32) = 3 ∨ d.rd O.SLICE_STATE (r / 32) = 4) then some 0
  else none

/-- The value of object `o` in row `r`. -/
def readValue (d : Device) (o r : Nat) : Nat :=
  if o % 256 = 0 ∧ indexMulti (o / 256) then highestSub (o / 256) else
  (((d.readIdentity o).or (d.readOtp o r)).or ((d.readUnit o r).or (d.readTable o r))).getD (d.rd o r)

/-! ### Measurements (R94, R99, R114) -/

/-- The lane or port is in use, so that its receiver measures. -/
def measures (d : Device) (o r : Nat) : Bool :=
  if o = O.LANE_SNR_CDB then d.rd O.LANE_ADAPT r == 2
  else if o = O.LANE_FEC_SYMBOL_ERRORS then (d.laneOwner r).isSome
  else if o = O.PORT_FEC_CORRECTED_CW then d.portEnabled r
  else o == O.LANE_PRBS_ERRORS && d.rd O.LANE_PRBS r != 0

/-- What a lane's receiver has measured since is a free value: a count that has gone up by some amount, or a new SNR. -/
def observe (o r : Nat) (d : Device) : Device :=
  if ¬ d.measures o r then d else
  let x := d.unstated
  if o = O.LANE_SNR_CDB then x.2.wr o r (x.1 % 65536) else x.2.add64 o r x.1

/-- The slew not yet applied, in 2⁻¹⁶ ns; how a fraction is rounded is a free value. -/
def slewLeft (d : Device) : Nat × Device :=
  (toTwos 64 (roundFree d.unstated.1 d.clk.slewRem (edgesPerS : Int)), d.unstated.2)

/-! ### External lines (R281, R324) -/

/-- The protected line a read takes, when the object lies in external memory. -/
def lineOf (d : Device) (o r : Nat) : Option Nat :=
  if o / 256 = 0x5920 then some (lapOffset (d.rd O.LAP_DIR_SEQ (r / 32768)) (r % 32768) / 64)
  else if o / 256 = 0x4400 then some ((0x06000000 + 64 * r) / 64)
  else if (o = O.CLS_DUMP_KEY ∨ o = O.CLS_DUMP_RESULT) ∧ ¬ d.cachedBucket (r / 4) then some (wayLine r)
  else none

/-- Read the lines of the records; false when one does not verify. -/
def readLines (d : Device) (l : List Nat) : Bool × Device :=
  l.foldl (fun x p => let y := x.2.readLine p; (x.1 && y.1, y.2)) (true, d)

/-! ### What a read changes (R395, R397) -/

/-- A read of PMC_VALUE latches the odd half of a pair; a read of a sample leaves it read. -/
def readEffect (o r : Nat) (d : Device) : Device :=
  if o = O.PMC_VALUE ∧ r % 2 = 0 ∧ d.rdB O.PMC_CHAIN r then d.wr O.PMC_PAIR_HIGH r (d.readValue O.PMC_VALUE (r + 1))
  else if o = O.PMC_SAMPLE_DATA then d.setPmc { d.pmc with unread := d.pmc.unread.filter (· != r) }
  else d

/-- Read one record: its bytes, in its own length. -/
def readPiece (acc : Bytes × Device) (x : Desc × Nat) : Bytes × Device :=
  let o := x.1.obj
  let d := readEffect o x.2 (observe o x.2 acc.2)
  let v := if o = O.PHC_SLEW_REMAINING then d.slewLeft else (d.readValue o x.2, d)
  (acc.1 ++ leBytes x.1.ty.size v.1, v.2)

/-! ### The checks of a read (R40) -/

/-- Steps 1 to 6 of R40 for a read. -/
def readCheck (d : Device) (r : Req) (a : AddrBlock) : Nat :=
  firstFail
    [(d.addrCheck a true != 0, d.addrCheck a true),
     (d.whoCheck r a true != 0, d.whoCheck r a true),
     (accCheck a true != 0, accCheck a true),
     (d.unserved a true, 0xA303),
     (a.index == 0x5920 && !d.lapReadable a.row, 0xA106)]

/-- The lines of external memory that a read takes. -/
def readNeeds (d : Device) (a : AddrBlock) : List Nat := ((covered a true).filterMap (fun e => d.lineOf e.obj a.row)).eraseDups

/-- A read (R35): the abort and the value. A line that does not verify gives 0xA404 (R324). -/
def readObject (r : Req) (a : AddrBlock) (d : Device) : (Nat × Bytes) × Device :=
  let e := d.readCheck r a
  if e ≠ 0 then ((e, []), d) else
  let x := d.readLines (d.readNeeds a)
  if ¬ x.1 then ((0xA404, []), x.2) else
  let y := ((covered a true).map (fun e => (e, a.row))).foldl readPiece ([], x.2)
  ((0, y.1), y.2)

/-- A direct read of PMC_VALUE (R395). -/
def pmcValueRead (r : Req) (row : Nat) (d : Device) : Device :=
  if d.mode = .reset then d else
  let x := readObject r (directAddr O.PMC_VALUE row) (d.accept r)
  x.2.respond r (d.roleOf r) x.1.1 x.1.2

end Device

def execPmcValueRead (r : Req) (row : Nat) (s : State) := s.on (Device.pmcValueRead r row)

end Sys2Proof.Machine
end

