-- ==== Sys2Proof/Machine/Requests.lean ====
section
/-!
DEFINITION. Requests as they reach the dictionary engine (R36, R42 to R48) from the Holloth Ring (R60, R61, R66), the
request windows (R70) and the debug access port (R77): a write of any address starts its command, goes into a shadow, or
is a direct write; and the next descriptor of the DMA rings (R74).
-/
namespace Sys2Proof.Machine

/-- The address block that 8 bytes spell (R31). -/
def addrOf (b : Bytes) : AddrBlock :=
  let f := leNat (slice 3 1 b)
  ⟨leNat (slice 7 1 b), leNat (slice 4 3 b), f.testBit 1, f.testBit 0, leNat (slice 2 1 b), leNat (slice 0 2 b)⟩

/-- The object of RXSC_ENTRY_MAINTAIN, with its length. -/
def rxscObj (o : RxscObject) : Nat × Nat :=
  match o with
  | .scDir => (O.SC_DIR, 1)
  | .scPort => (O.SC_PORT, 2)
  | .scSci => (O.SC_SCI, 8)
  | .hostPort => (O.RXSC_HOST_PORT, 2)
  | .cls => (O.RXSC_CLASS, 1)
  | .scCa => (O.SC_CA, 2)
  | .returnSc => (O.RXSC_RETURN_SC, 4)

namespace Device

/-! ### Commands by object and argument (R36) -/

/-- An argument that names no command of the object. -/
def noCommand (r : Req) (o row : Nat) : Device → Nat × Device :=
  runCmd r o row { Conds.none with s6 := [(true, 0xA101)] } (fun d => (none, d))

/-- One command that only the argument 1 starts. -/
def onlyOne (r : Req) (o row v : Nat) (f : Device → Nat × Device) : Device → Nat × Device :=
  if v = 1 then f else noCommand r o row

/-- BANK_CMD: op and core in one argument, whose reserved bits are ignored (R6, R211). The outcome of a test is a free value
here. -/
def bankCommand (r : Req) (b v : Nat) (d : Device) : Nat × Device :=
  if v % 16 ≤ 8 ∧ v / 16 % 16 = 1 then bankRetireCore r b (v % 16) d
  else if v % 16 ≤ 8 ∧ v / 16 % 16 = 2 then katNowCore r b (v % 16) (d.unstated.1 % 2 == 0) d.unstated.2
  else noCommand r O.BANK_CMD b d

/-- Commands of the dictionary, of the modes and of time. -/
def systemCommand (r : Req) (o row v : Nat) : Option (Device → Nat × Device) :=
  if o = O.LOCK_BREAK then some (onlyOne r o row v (lockBreakCore r))
  else if o = O.GROUP_CMD then some (match v with
    | 1 => groupOpenCore r row | 2 => commitNowCore r row | 3 => commitAtCore r row | 4 => groupCancelCore r row
    | 5 => groupReleaseCore r row | _ => noCommand r o row)
  else if o = O.SESSION_CLOSE then some (onlyOne r o row v (sessionCloseCore r row))
  else if o = O.MODE_CMD then some (match v with
    | 1 => goRunCore r | 2 => goStageCore r | 3 => goDrainCore r | 4 => resumeRunCore r | 5 => modeCmdResetCore r
    | _ => noCommand r o row)
  else if o = O.SLICE_CMD then some (match v with
    | 1 => takeOutCore r row | 2 => gateCore r row | 3 => sliceReturnCore r row | _ => noCommand r o row)
  else if o = O.PORT_RECAL_CMD then some (match v with
    | 1 => portRecalArmCore r row | 2 => portRecalCancelCore r row | _ => noCommand r o row)
  else if o = O.PHC_CMD then some (match v with
    | 1 => phcSetCore r | 2 => phcStepCore r | 3 => phcSlewCore r | 4 => phcSlewStopCore r | _ => noCommand r o row)
  else if o = O.TS_CAL_CMD then some (onlyOne r o row v (tsCalCore r row))
  else if o = O.BANK_CMD then some (bankCommand r row v)
  else none

/-- Commands of the pipelines, SAs, classification and keys. -/
def pathCommand (r : Req) (o row v : Nat) : Option (Device → Nat × Device) :=
  if o = O.PARSER_CMD then some (match v with
    | 1 => parserLoadCore r row 0 | 2 => parserLoadCore r row 1 | 3 => parserArmCore r row | 4 => parserCancelCore r row
    | _ => noCommand r o row)
  else if o = O.SA_CMD then some (match v with
    | 1 => saProvisionCore r row | 2 => saLoadCore r row | 3 => saArmCore r row | 4 => saCancelCore r row
    | 5 => saRetireCore r row | 6 => saUnloadCore r row | 7 => saReleaseCore r row | _ => noCommand r o row)
  else if o = O.CLS_CMD then some (match v with
    | 1 => clsWriteCore r row | 2 => clsDeleteCore r row | 3 => clsReadCore r row | _ => noCommand r o row)
  else if o = O.LEARN_FLUSH then some (onlyOne r o row v (learnFlushCore r row))
  else if o = O.VAULT_CMD then some (match v with
    | 1 => vaultImportCore r row | 2 => vaultDeriveCore r row | 3 => deriveSuccessorCore r row | 4 => zeroizeSlotCore r row
    | 5 => zeroizeTenantCore r row | 6 => zeroizeAllCore r row | _ => noCommand r o row)
  else none

/-- Commands of memory, life cycle, firmware and faults. What only the device finds out is a free value here. -/
def careCommand (r : Req) (o row v : Nat) : Option (Device → Nat × Device) :=
  if o = O.MEM_CH_CMD then some (onlyOne r o row v (memChRetireCore r row))
  else if o = O.MEM_WIN_CMD then some (match v with
    | 1 => memWinReadCore r row | 2 => memWinWriteCore r row | 3 => readCiphertextCore r row | 4 => memReinitCore r row
    | _ => noCommand r o row)
  else if o = O.LC_CMD then some (match v with
    | 1 => sealTestCore r | 2 => unlockCore r | 3 => personalizeCore r | 4 => takeOwnershipCore r | 5 => lcReturnCore r
    | 6 => scrapCore r | 7 => rmaUnlockCore r | _ => noCommand r o row)
  else if o = O.DBG_SRAM_CMD then
    some (onlyOne r o row v (fun d => dbgSramReadCore r row (d.unstated.1 % 2 == 0) d.unstated.2))
  else if o = O.FW_CMD then some (match v with
    | 1 => fwEraseCore r | 2 => fwWriteCore r | 3 => fwVerifyCore r | 4 => fwPreferCore r | 5 => activateResetCore r
    | 6 => activateHotCore r | 7 => fwDiscardCore r | 8 => commitVersionCore r | _ => noCommand r o row)
  else if o = O.ATT_BUILD_TOP then some (attBuildTopCore r)
  else if o = O.ATT_CMD then some (onlyOne r o row v (attSignCore r row))
  else if o = O.FLT_SRC_ACK then some (onlyOne r o row v (fltSrcAckCore r row))
  else if o = O.FLT_ACK_ALL then some (onlyOne r o row v (fltAckAllCore r))
  else if o = O.SRAM_SPARE_CMD then some (sramSpareCore r row v)
  else none

/-- The command that a write of `v` to CMD object `o` of row `row` starts. -/
def command (r : Req) (o row v : Nat) : Device → Nat × Device :=
  (((systemCommand r o row v).or (pathCommand r o row v)).or (careCommand r o row v)).getD (noCommand r o row)

/-! ### Any request (R31, R40, R42) -/

/-- A write to a CMD object, whose argument is a U32. -/
def commandWrite (r : Req) (a : AddrBlock) (v : Bytes) (d : Device) : Nat × Device :=
  if d.addrCheck a false ≠ 0 then (d.addrCheck a false, d)
  else if v.length ≠ 4 then runCmd r (addrObj a) a.row { Conds.none with s6 := [(true, 0xA102)] } (fun d => (none, d)) d
  else command r (addrObj a) a.row (leNat v) d

/-- The address is that of one CMD object. -/
def isCommand (a : AddrBlock) : Bool := !a.whole && (subDesc a.index a.sub).elim false (fun e => e.acc == .cmd)

/-- A WRITE (R43, R47). -/
def performWrite (r : Req) (a : AddrBlock) (v : Bytes) (d : Device) : Nat × Device :=
  if a.group ≠ 0 then shadowWrite r a v d else if isCommand a then commandWrite r a v d else writeDirect r a v d

/-- Bytes that a read of `a` returns. -/
def readLength (a : AddrBlock) : Nat := ((covered a true).map (fun e => e.ty.size)).sum

/-- A READ on a transport that carries at most `limit` bytes (R60, R70). -/
def performRead (limit : Nat) (r : Req) (a : AddrBlock) (d : Device) : (Nat × Bytes) × Device :=
  if limit < readLength a ∧ (d.readCheck r a = 0 ∨ d.readCheck r a = 0xA106) then ((0xA102, []), d) else readObject r a d

/-- A dictionary write as a master of R42 makes it. -/
def dictWrite (r : Req) (a : AddrBlock) (v : Bytes) (d : Device) : Device := d.direct r (performWrite r a v)

/-- A write into a commit group (R47). -/
def groupShadowWrite (r : Req) (a : AddrBlock) (v : Bytes) (d : Device) : Device := d.direct r (performWrite r a v)

/-- A write of PHC_FREQ_ADJ (R111, R139). -/
def freqAdjWrite (r : Req) (v : Int) (d : Device) : Nat × Device :=
  writeDirect r (directAddr O.PHC_FREQ_ADJ 0) (leBytes 8 (toTwos 64 v)) d

/-- A write of one object of a receive SC (R240). -/
def rxscWrite (r : Req) (sc : Nat) (o : RxscObject) (v : Nat) (d : Device) : Nat × Device :=
  writeDirect r (directAddr (rxscObj o).1 sc) (leBytes (rxscObj o).2 v) d

/-! ### The ring (R60, R61, R66) -/

/-- A RESPONSE to `m`, tagged under `ks` where the request was (R66); an untagged one names session 0 (R58). -/
def ringRespond (d : Device) (m : RingMsg) (ks : Option Bytes) (payload : Bytes) : Device :=
  if d.mode = .reset then d else
  let x : RingMsg := ⟨m.src, d.rd O.RING_POSITION, 3, boolNat ks.isSome, if ks.isSome then m.session else 0, m.counter, 0, payload, 0, 0⟩
  d.ringSend (ks.elim (ringSealCrc x) (ringSealTag x))

/-- The payload of a RESPONSE (R59). -/
def responsePayload (m : RingMsg) (x : Nat × Bytes) : Bytes :=
  leBytes 2 x.1 ++ leBytes 2 0 ++ fit 8 (slice 4 8 m.payload) ++ x.2

/-- The session a REQUEST acts under. Session 0 is for untagged messages: a tagged one that names it names no session (R66). -/
def requestSession (m : RingMsg) : Nat := if ringTagged m ∧ m.session = 0 then 0xFF else m.session

/-- Run the READ or WRITE of a REQUEST: its payload, and the device. A payload without a whole address block is refused
with 0xA102, an op other than READ and WRITE with 0xA101. -/
def ringExecute (m : RingMsg) (d : Device) : Bytes × Device :=
  let r : Req := ⟨.ring, requestSession m⟩
  let a := addrOf (slice 4 8 m.payload)
  let d := d.accept r
  let role := d.roleOf r
  let x : (Nat × Bytes) × Device :=
    if m.payload.length < 12 then ((0xA102, []), d)
    else if leNat (m.payload.take 1) = 1 then performRead 1012 r a d
    else if leNat (m.payload.take 1) = 2 then
      let y := performWrite r a (m.payload.drop 12) d
      ((y.1, []), y.2)
    else ((0xA101, []), d)
  (responsePayload m x.1, x.2.countRequest r role x.1.1)

/-- A tagged REQUEST of open session row `row`: its counter decides (R66). The session closes when the counter would pass its
end: the last one accepted was 0xFFFFFFFF and the next request would carry 0. -/
def ringTaggedRequest (m : RingMsg) (row : Nat) (d : Device) : Device :=
  let ks := d.ksOf row
  let last := d.rd O.SESSION_LAST_COUNTER row
  if ¬ ringTagged m ∨ m.tag ≠ ringTag m ks then d.inc64 O.RING_TAG_ERRORS
  else if m.counter = last ∧ (d.sessOf row).cache ≠ [] then
    (d.accept ⟨.ring, m.session⟩).ringRespond m (some ks) (d.sessOf row).cache
  else if last = 0xFFFFFFFF ∧ m.counter = 0 then d.closeSession row
  else if m.counter ≠ last + 1 then d.inc64 O.RING_REPLAY_DROPS
  else
    let x := ringExecute m (d.wr O.SESSION_LAST_COUNTER row m.counter)
    let d := if x.2.openRow m.session = some row then x.2.setSess row { x.2.sessOf row with cache := x.1 } else x.2
    d.ringRespond m (some ks) x.1

/-- A REQUEST for this device (R53, R60, R66). A message that is none is handled as what it is. -/
def request (m : RingMsg) (d : Device) : Device :=
  if ¬ d.inRing ∨ ¬ d.forMe m ∨ m.type ≠ 2 then d.ringArrive m else
  let c := d.ringAccept m
  if ¬ c.1 then c.2 else
  match c.2.sessionRow ⟨.ring, m.session⟩ with
  | some row => ringTaggedRequest m row c.2
  | none => let x := ringExecute m c.2
            x.2.ringRespond m none x.1

/-! ### Request windows (R70) -/

def addrWord (a : AddrBlock) : Nat := leNat (addrBytes a)

/-- Op READ of window `w`. In BOOT every op completes with 0xA303. -/
def pcieWindowRead (w session : Nat) (a : AddrBlock) (d : Device) : Device :=
  if ¬ d.windowReady w then d else
  let d := d.windowSubmit w (addrWord a) session 0 1 []
  if d.mode = .boot then d.windowDone w 0xA303 [] else
  let r : Req := ⟨.pcie, session⟩
  let x := performRead 4032 r a (d.accept r)
  (x.2.countRequest r (d.roleOf r) x.1.1).windowDone w x.1.1 x.1.2

/-- Op WRITE of window `w`. -/
def pcieWindowWrite (w session : Nat) (a : AddrBlock) (v : Bytes) (d : Device) : Device :=
  if ¬ d.windowReady w then d else
  let d := d.windowSubmit w (addrWord a) session v.length 2 v
  if d.mode = .boot then d.windowDone w 0xA303 [] else
  if 4032 < v.length then d.windowDone w 0xA102 [] else
  let r : Req := ⟨.pcie, session⟩
  let x := performWrite r a v (d.accept r)
  if x.2.mode = .reset then x.2 else (x.2.countRequest r (d.roleOf r) x.1).windowDone w x.1 []

/-! ### The debug access port (R77) -/

/-- Op READ: the value goes to the value buffer. -/
def dapRead (session : Nat) (a : AddrBlock) (d : Device) : Device :=
  if d.mode = .reset then d else
  let d := d.dapScan (dapWord (addrWord a) session 1 0)
  if d.mode = .boot then d.setDapAbort 0xA303 else
  let r : Req := ⟨.debug, session⟩
  let x := performRead 4032 r a (d.accept r)
  ((x.2.countRequest r (d.roleOf r) x.1.1).dapStore 0 x.1.2).setDapAbort x.1.1

/-- Op WRITE: `n` bytes of the value buffer. R77 does not say where the length of the value stands; it is taken from the
argument (DESIGN CHOICE, log entry 29). -/
def dapWrite (session : Nat) (a : AddrBlock) (n : Nat) (d : Device) : Device :=
  if d.mode = .reset then d else
  let d := d.dapScan (dapWord (addrWord a) session 2 n)
  if d.mode = .boot then d.setDapAbort 0xA303 else
  if 4032 < n then d.setDapAbort 0xA102 else
  let r : Req := ⟨.debug, session⟩
  let x := performWrite r a (d.dapBytes 0 n) (d.accept r)
  (x.2.countRequest r (d.roleOf r) x.1).setDapAbort x.1

/-! ### DMA rings (R72 to R74) -/

/-- A write of RING_ENABLE. -/
def ringEnableWrite (r : Req) (n v : Nat) (d : Device) : Nat × Device :=
  writeDirect r (directAddr O.RING_ENABLE n) (leBytes 1 v) d

/-- The oldest punted frame that waits for a descriptor of ring `n`. -/
def puntWaiting (d : Device) (n : Nat) : Option Frame :=
  d.pipe.frames.find? (fun f => f.stage == .punt && d.puntRing f.reason == some n && d.puntFirst f)

/-- Ring `n` has a descriptor, and what its kind does with one. -/
def ringWorks (d : Device) (n : Nat) : Bool :=
  d.ringReady n && (if d.rd O.RING_KIND n = 1 then (d.puntWaiting n).isSome
    else if d.rd O.RING_KIND n = 4 then !(d.dmaOf n).events.isEmpty
    else if d.rd O.RING_KIND n = 3 then d.laNext == some n && (d.jobOf n).isNone && decide (d.laBusy < 32) else true)

/-- The ring whose turn it is. -/
def turnRing (d : Device) : Option Nat :=
  ((List.range 64).map (fun k => (d.pcie.lastServed + 1 + k) % 64)).find? (fun n => d.ringWorks n)

/-- `n` bytes of host memory, which no operand gives: free values. -/
def hostBytes (d : Device) (n : Nat) : Bytes × Device := (leBytes n d.unstated.1, d.unstated.2)

/-- The parameter block of R305. -/
def paramsOf (b : Bytes) : LaParams :=
  let f := fun o n => leNat (slice o n b)
  ⟨f 0 8, f 8 8, f 16 4, f 20 1, f 21 1, f 22 2 + f 56 8, slice 24 16 b, slice 40 16 b, false⟩

/-- A lookaside descriptor of the ring whose turn it is, with what host memory holds. -/
def jobFromHost (n : Nat) (x : Descriptor) (d : Device) : Device :=
  let p := d.hostBytes 64
  let s := p.2.hostBytes x.length
  let a := s.2.hostBytes (paramsOf p.1).aadLen
  a.2.lookasideJobStart n x (paramsOf p.1) s.1 a.1

/-- The next descriptor, of the ring whose turn it is, is taken as its kind says. A ring of kind none has nothing to do
with a good one. -/
def dmaDescriptorProcess (x : Descriptor) (d : Device) : Device :=
  if d.mode = .reset then d else
  (d.turnRing).elim d (fun n =>
    if d.rd O.RING_KIND n = 1 then (d.puntWaiting n).elim d (fun f => d.puntDeliver f.id x)
    else if d.rd O.RING_KIND n = 2 then
      let b := d.hostBytes x.length
      b.2.injectDescriptor n x b.1
    else if d.rd O.RING_KIND n = 3 then d.jobFromHost n x
    else if d.rd O.RING_KIND n = 4 then d.eventRingDeliver n x
    else
      let e := d.descCheck n x
      (d.dmaAdvance n).dmaComplete n (if e ≠ 0 then e else if x.pcieError then 3 else 0) 0 (fit 16 x.kind))

end Device

def execDictWrite (r : Req) (a : AddrBlock) (v : Bytes) (s : State) := s.on (Device.dictWrite r a v)
def execGroupShadowWrite (r : Req) (a : AddrBlock) (v : Bytes) (s : State) := s.on (Device.groupShadowWrite r a v)
def execRequest (m : RingMsg) (s : State) := s.on (Device.request m)
def execPcieWindowRead (w session : Nat) (a : AddrBlock) (s : State) := s.on (Device.pcieWindowRead w session a)
def execPcieWindowWrite (w session : Nat) (a : AddrBlock) (v : Bytes) (s : State) := s.on (Device.pcieWindowWrite w session a v)
def execRingEnableSet (r : Req) (n : Nat) (s : State) := s.on (fun d => d.direct r (Device.ringEnableWrite r n 1))
def execRingEnableClear (r : Req) (n : Nat) (s : State) := s.on (fun d => d.direct r (Device.ringEnableWrite r n 0))
def execDmaDescriptorProcess (x : Descriptor) (s : State) := s.on (Device.dmaDescriptorProcess x)
def execDapRead (session : Nat) (a : AddrBlock) (s : State) := s.on (Device.dapRead session a)
def execDapWrite (session : Nat) (a : AddrBlock) (length : Nat) (s : State) := s.on (Device.dapWrite session a length)
def execPhcFreqAdjWrite (r : Req) (v : Int) (s : State) := s.on (fun d => d.direct r (Device.freqAdjWrite r v))
def execRxscEntryMaintain (r : Req) (sc : Nat) (o : RxscObject) (v : Nat) (s : State) :=
  s.on (fun d => d.direct r (Device.rxscWrite r sc o v))

end Sys2Proof.Machine
end

