-- ==== Sys2Proof/Machine/Dispatch.lean ====
section
/-!
DEFINITION. What each command does: one arm per command, one call of its meaning.
-/
namespace Sys2Proof.Machine

def exec (i : Instr) (s : State) : Host.Outcome State Fault Refusal :=
  match i with
  | .dictWrite r a v => Sys2Proof.Machine.execDictWrite r a v s
  | .groupShadowWrite r a v => Sys2Proof.Machine.execGroupShadowWrite r a v s
  | .groupOpen r g => Sys2Proof.Machine.execGroupOpen r g s
  | .commitNow r g => Sys2Proof.Machine.execCommitNow r g s
  | .commitAt r g => Sys2Proof.Machine.execCommitAt r g s
  | .groupCancel r g => Sys2Proof.Machine.execGroupCancel r g s
  | .groupRelease r g => Sys2Proof.Machine.execGroupRelease r g s
  | .lockClaim r => Sys2Proof.Machine.execLockClaim r s
  | .lockRelease r => Sys2Proof.Machine.execLockRelease r s
  | .lockBreak r => Sys2Proof.Machine.execLockBreak r s
  | .lockLeaseExpiry => Sys2Proof.Machine.execLockLeaseExpiry s
  | .ringCharacterLock place status => Sys2Proof.Machine.execRingCharacterLock place status s
  | .ringLockLoss => Sys2Proof.Machine.execRingLockLoss s
  | .ringMessageForward m => Sys2Proof.Machine.execRingMessageForward m s
  | .ringMessageInsert => Sys2Proof.Machine.execRingMessageInsert s
  | .ringHoldAssert => Sys2Proof.Machine.execRingHoldAssert s
  | .join => Sys2Proof.Machine.execJoin s
  | .address m => Sys2Proof.Machine.execAddress m s
  | .request m => Sys2Proof.Machine.execRequest m s
  | .ringOpen m => Sys2Proof.Machine.execRingOpen m s
  | .ringProve m => Sys2Proof.Machine.execRingProve m s
  | .proveTimeout row => Sys2Proof.Machine.execProveTimeout row s
  | .proofLockoutEnd t => Sys2Proof.Machine.execProofLockoutEnd t s
  | .sessionClose r row => Sys2Proof.Machine.execSessionClose r row s
  | .sessionIdleExpiry row => Sys2Proof.Machine.execSessionIdleExpiry row s
  | .pcieWindowRead w session a => Sys2Proof.Machine.execPcieWindowRead w session a s
  | .pcieWindowWrite w session a v => Sys2Proof.Machine.execPcieWindowWrite w session a v s
  | .pcieWindowOpen w payload => Sys2Proof.Machine.execPcieWindowOpen w payload s
  | .pcieWindowProve w payload => Sys2Proof.Machine.execPcieWindowProve w payload s
  | .pcieWindowClose w session => Sys2Proof.Machine.execPcieWindowClose w session s
  | .pciePortReset c => Sys2Proof.Machine.execPciePortReset c s
  | .apertureRead offset length => Sys2Proof.Machine.execApertureRead offset length s
  | .apertureWrite offset v => Sys2Proof.Machine.execApertureWrite offset v s
  | .ringEnableSet r n => Sys2Proof.Machine.execRingEnableSet r n s
  | .ringEnableClear r n => Sys2Proof.Machine.execRingEnableClear r n s
  | .doorbell n tail => Sys2Proof.Machine.execDoorbell n tail s
  | .dmaDescriptorProcess d => Sys2Proof.Machine.execDmaDescriptorProcess d s
  | .dmaIrqTimer n => Sys2Proof.Machine.execDmaIrqTimer n s
  | .msixUnmask w => Sys2Proof.Machine.execMsixUnmask w s
  | .bypass => Sys2Proof.Machine.execBypass s
  | .idcode => Sys2Proof.Machine.execIdcode s
  | .samplePreload chain => Sys2Proof.Machine.execSamplePreload chain s
  | .extest chain => Sys2Proof.Machine.execExtest chain s
  | .dapRead session a => Sys2Proof.Machine.execDapRead session a s
  | .dapWrite session a length => Sys2Proof.Machine.execDapWrite session a length s
  | .valueIn offset v => Sys2Proof.Machine.execValueIn offset v s
  | .valueOut offset => Sys2Proof.Machine.execValueOut offset s
  | .dapStatus => Sys2Proof.Machine.execDapStatus s
  | .dapOpen => Sys2Proof.Machine.execDapOpen s
  | .dapProve => Sys2Proof.Machine.execDapProve s
  | .dapClose session => Sys2Proof.Machine.execDapClose session s
  | .goRun r => Sys2Proof.Machine.execGoRun r s
  | .goStage r => Sys2Proof.Machine.execGoStage r s
  | .goDrain r => Sys2Proof.Machine.execGoDrain r s
  | .resumeRun r => Sys2Proof.Machine.execResumeRun r s
  | .modeCmdReset r => Sys2Proof.Machine.execModeCmdReset r s
  | .pwrGoodLow => Sys2Proof.Machine.execPwrGoodLow s
  | .resetNLow => Sys2Proof.Machine.execResetNLow s
  | .resetRelease => Sys2Proof.Machine.execResetRelease s
  | .bootPllsLocked => Sys2Proof.Machine.execBootPllsLocked s
  | .entropyStartupTests passed => Sys2Proof.Machine.execEntropyStartupTests passed s
  | .sydinImageVerified => Sys2Proof.Machine.execSydinImageVerified s
  | .memTrainingDone failed => Sys2Proof.Machine.execMemTrainingDone failed s
  | .serdesCalibrationDone lineFailed hostFailed durationUs => Sys2Proof.Machine.execSerdesCalibrationDone lineFailed hostFailed durationUs s
  | .bootComplete => Sys2Proof.Machine.execBootComplete s
  | .drainFlushComplete => Sys2Proof.Machine.execDrainFlushComplete s
  | .drainFlushExpiry => Sys2Proof.Machine.execDrainFlushExpiry s
  | .takeOut r s_ => Sys2Proof.Machine.execTakeOut r s_ s
  | .gate r s_ => Sys2Proof.Machine.execGate r s_ s
  | .sliceReturn r s_ => Sys2Proof.Machine.execSliceReturn r s_ s
  | .sliceReturnDone s_ failed => Sys2Proof.Machine.execSliceReturnDone s_ failed s
  | .laneSignalDetect l => Sys2Proof.Machine.execLaneSignalDetect l s
  | .laneAcquisitionDone l => Sys2Proof.Machine.execLaneAcquisitionDone l s
  | .laneAcquisitionTimeout l => Sys2Proof.Machine.execLaneAcquisitionTimeout l s
  | .laneSignalLoss l => Sys2Proof.Machine.execLaneSignalLoss l s
  | .portLinkChange p rx => Sys2Proof.Machine.execPortLinkChange p rx s
  | .fecUncorrLimit p codewords => Sys2Proof.Machine.execFecUncorrLimit p codewords s
  | .macControlRx p data => Sys2Proof.Machine.execMacControlRx p data s
  | .pauseExpiry p c => Sys2Proof.Machine.execPauseExpiry p c s
  | .xoffRefresh p => Sys2Proof.Machine.execXoffRefresh p s
  | .portRecalArm r p => Sys2Proof.Machine.execPortRecalArm r p s
  | .portRecalCancel r p => Sys2Proof.Machine.execPortRecalCancel r p s
  | .receiverFreeze p cut => Sys2Proof.Machine.execReceiverFreeze p cut s
  | .recalAlignmentRegained p rx => Sys2Proof.Machine.execRecalAlignmentRegained p rx s
  | .recalTimeout p => Sys2Proof.Machine.execRecalTimeout p s
  | .phcSet r => Sys2Proof.Machine.execPhcSet r s
  | .phcStep r => Sys2Proof.Machine.execPhcStep r s
  | .phcSlew r => Sys2Proof.Machine.execPhcSlew r s
  | .phcSlewStop r => Sys2Proof.Machine.execPhcSlewStop r s
  | .phcFreqAdjWrite r v => Sys2Proof.Machine.execPhcFreqAdjWrite r v s
  | .phcChangeEffect => Sys2Proof.Machine.execPhcChangeEffect s
  | .slewComplete => Sys2Proof.Machine.execSlewComplete s
  | .leapApply => Sys2Proof.Machine.execLeapApply s
  | .tsCalCmd r p => Sys2Proof.Machine.execTsCalCmd r p s
  | .tsPhaseMeasured p ok rxPhase txPhase => Sys2Proof.Machine.execTsPhaseMeasured p ok rxPhase txPhase s
  | .tsRegionTempRead p temp => Sys2Proof.Machine.execTsRegionTempRead p temp s
  | .tcScheduledDeparture f lineFree => Sys2Proof.Machine.execTcScheduledDeparture f lineFree s
  | .ppsOutEdge => Sys2Proof.Machine.execPpsOutEdge s
  | .ppsOutFall => Sys2Proof.Machine.execPpsOutFall s
  | .todOutMessage => Sys2Proof.Machine.execTodOutMessage s
  | .ppsInEdge stamp => Sys2Proof.Machine.execPpsInEdge stamp s
  | .todInMessage v => Sys2Proof.Machine.execTodInMessage v s
  | .timeLockTimeout => Sys2Proof.Machine.execTimeLockTimeout s
  | .gunIssue e => Sys2Proof.Machine.execGunIssue e s
  | .gunFire e => Sys2Proof.Machine.execGunFire e s
  | .gunMessageRx m => Sys2Proof.Machine.execGunMessageRx m s
  | .hostFrameRx f => Sys2Proof.Machine.execHostFrameRx f s
  | .lineFrameRx f => Sys2Proof.Machine.execLineFrameRx f s
  | .callroomLookupReturn f ok => Sys2Proof.Machine.execCallroomLookupReturn f ok s
  | .callroomTimeout f => Sys2Proof.Machine.execCallroomTimeout f s
  | .schedulerFrameStart sd => Sys2Proof.Machine.execSchedulerFrameStart sd s
  | .pnAssign f => Sys2Proof.Machine.execPnAssign f s
  | .stopHoldExpiry sc => Sys2Proof.Machine.execStopHoldExpiry sc s
  | .keystreamApply f cell => Sys2Proof.Machine.execKeystreamApply f cell s
  | .frameTxComplete f => Sys2Proof.Machine.execFrameTxComplete f s
  | .decryptTailVerify f => Sys2Proof.Machine.execDecryptTailVerify f s
  | .parserLoadA r s_ => Sys2Proof.Machine.execParserLoadA r s_ s
  | .parserLoadB r s_ => Sys2Proof.Machine.execParserLoadB r s_ s
  | .parserArm r s_ => Sys2Proof.Machine.execParserArm r s_ s
  | .parserCancel r s_ => Sys2Proof.Machine.execParserCancel r s_ s
  | .puntDeliver f d => Sys2Proof.Machine.execPuntDeliver f d s
  | .puntDescriptorTimeout f => Sys2Proof.Machine.execPuntDescriptorTimeout f s
  | .injectDescriptor n d data => Sys2Proof.Machine.execInjectDescriptor n d data s
  | .injectComplete f stamp => Sys2Proof.Machine.execInjectComplete f stamp s
  | .injectSendTimeout f => Sys2Proof.Machine.execInjectSendTimeout f s
  | .bankTurn b mismatch => Sys2Proof.Machine.execBankTurn b mismatch s
  | .retrialResult b o => Sys2Proof.Machine.execRetrialResult b o s
  | .coreStrikeRetire b core => Sys2Proof.Machine.execCoreStrikeRetire b core s
  | .coreTakeoverDone b => Sys2Proof.Machine.execCoreTakeoverDone b s
  | .bankKat b core passed => Sys2Proof.Machine.execBankKat b core passed s
  | .umpireLfsrReseed b => Sys2Proof.Machine.execUmpireLfsrReseed b s
  | .bankRetire r b core => Sys2Proof.Machine.execBankRetire r b core s
  | .katNow r b core passed => Sys2Proof.Machine.execKatNow r b core passed s
  | .keyScheduleLoadDone b slot ok => Sys2Proof.Machine.execKeyScheduleLoadDone b slot ok s
  | .saProvision r pr => Sys2Proof.Machine.execSaProvision r pr s
  | .saLoad r pr => Sys2Proof.Machine.execSaLoad r pr s
  | .saArm r pr => Sys2Proof.Machine.execSaArm r pr s
  | .saCancel r pr => Sys2Proof.Machine.execSaCancel r pr s
  | .saRetire r pr => Sys2Proof.Machine.execSaRetire r pr s
  | .saUnload r pr => Sys2Proof.Machine.execSaUnload r pr s
  | .saRelease r pr => Sys2Proof.Machine.execSaRelease r pr s
  | .saDrained pr => Sys2Proof.Machine.execSaDrained pr s
  | .clsWrite r s_ => Sys2Proof.Machine.execClsWrite r s_ s
  | .clsDelete r s_ => Sys2Proof.Machine.execClsDelete r s_ s
  | .clsRead r s_ => Sys2Proof.Machine.execClsRead r s_ s
  | .rxscEntryMaintain r sc o v => Sys2Proof.Machine.execRxscEntryMaintain r sc o v s
  | .insertEngineDone => Sys2Proof.Machine.execInsertEngineDone s
  | .agingScanVisit b => Sys2Proof.Machine.execAgingScanVisit b s
  | .batonProcess => Sys2Proof.Machine.execBatonProcess s
  | .learnFlush r ca => Sys2Proof.Machine.execLearnFlush r ca s
  | .peerMessageRx lane m => Sys2Proof.Machine.execPeerMessageRx lane m s
  | .peerBlockLock lane locked => Sys2Proof.Machine.execPeerBlockLock lane locked s
  | .tagRenormalize => Sys2Proof.Machine.execTagRenormalize s
  | .lapWritebackDone => Sys2Proof.Machine.execLapWritebackDone s
  | .vaultImport r s_ => Sys2Proof.Machine.execVaultImport r s_ s
  | .vaultDerive r s_ => Sys2Proof.Machine.execVaultDerive r s_ s
  | .deriveSuccessor r s_ => Sys2Proof.Machine.execDeriveSuccessor r s_ s
  | .zeroizeSlot r s_ => Sys2Proof.Machine.execZeroizeSlot r s_ s
  | .zeroizeTenant r s_ => Sys2Proof.Machine.execZeroizeTenant r s_ s
  | .zeroizeAll r s_ => Sys2Proof.Machine.execZeroizeAll r s_ s
  | .vaultScrubVisit t ok => Sys2Proof.Machine.execVaultScrubVisit t ok s
  | .drbgReseed => Sys2Proof.Machine.execDrbgReseed s
  | .entropyTestFail => Sys2Proof.Machine.execEntropyTestFail s
  | .entropyRestartDone passed => Sys2Proof.Machine.execEntropyRestartDone passed s
  | .drbgReinstantiate passed => Sys2Proof.Machine.execDrbgReinstantiate passed s
  | .lookasideJobStart n d p src aad => Sys2Proof.Machine.execLookasideJobStart n d p src aad s
  | .lookasideSliceYield n => Sys2Proof.Machine.execLookasideSliceYield n s
  | .lookasideJobComplete n pcieError => Sys2Proof.Machine.execLookasideJobComplete n pcieError s
  | .memLineRead line o => Sys2Proof.Machine.execMemLineRead line o s
  | .memFullLineWrite line v => Sys2Proof.Machine.execMemFullLineWrite line v s
  | .memPartialWrite offset v o => Sys2Proof.Machine.execMemPartialWrite offset v o s
  | .treeNodeEvict c level n => Sys2Proof.Machine.execTreeNodeEvict c level n s
  | .memScrubVisit c line word o => Sys2Proof.Machine.execMemScrubVisit c line word o s
  | .memChRetire r c => Sys2Proof.Machine.execMemChRetire r c s
  | .memChUncorrRetire c => Sys2Proof.Machine.execMemChUncorrRetire c s
  | .memCalibrationLost c => Sys2Proof.Machine.execMemCalibrationLost c s
  | .memRehashSwitch => Sys2Proof.Machine.execMemRehashSwitch s
  | .memEvacuationDone => Sys2Proof.Machine.execMemEvacuationDone s
  | .memWinRead r s_ => Sys2Proof.Machine.execMemWinRead r s_ s
  | .memWinWrite r s_ => Sys2Proof.Machine.execMemWinWrite r s_ s
  | .readCiphertext r s_ => Sys2Proof.Machine.execReadCiphertext r s_ s
  | .memReinit r s_ => Sys2Proof.Machine.execMemReinit r s_ s
  | .sealTest r => Sys2Proof.Machine.execSealTest r s
  | .lcUnlock r => Sys2Proof.Machine.execLcUnlock r s
  | .personalize r => Sys2Proof.Machine.execPersonalize r s
  | .takeOwnership r => Sys2Proof.Machine.execTakeOwnership r s
  | .lcReturn r => Sys2Proof.Machine.execLcReturn r s
  | .scrap r => Sys2Proof.Machine.execScrap r s
  | .rmaUnlock r => Sys2Proof.Machine.execRmaUnlock r s
  | .lcRebuildDone => Sys2Proof.Machine.execLcRebuildDone s
  | .debugSessionExpiry row => Sys2Proof.Machine.execDebugSessionExpiry row s
  | .dbgSramRead r s_ uncorrectable => Sys2Proof.Machine.execDbgSramRead r s_ uncorrectable s
  | .fwErase r => Sys2Proof.Machine.execFwErase r s
  | .fwWrite r => Sys2Proof.Machine.execFwWrite r s
  | .fwVerify r => Sys2Proof.Machine.execFwVerify r s
  | .fwPrefer r => Sys2Proof.Machine.execFwPrefer r s
  | .activateReset r => Sys2Proof.Machine.execActivateReset r s
  | .activateHot r => Sys2Proof.Machine.execActivateHot r s
  | .hotActivationDone => Sys2Proof.Machine.execHotActivationDone s
  | .fwDiscard r => Sys2Proof.Machine.execFwDiscard r s
  | .commitVersion r => Sys2Proof.Machine.execCommitVersion r s
  | .attBuildTop r => Sys2Proof.Machine.execAttBuildTop r s
  | .bottomTreeBuildDone => Sys2Proof.Machine.execBottomTreeBuildDone s
  | .attSign r s_ => Sys2Proof.Machine.execAttSign r s_ s
  | .epochRollover => Sys2Proof.Machine.execEpochRollover s
  | .faultSample src code base detail => Sys2Proof.Machine.execFaultSample src code base detail s
  | .brokenWire src => Sys2Proof.Machine.execBrokenWire src s
  | .wireRestored src fault => Sys2Proof.Machine.execWireRestored src fault s
  | .fltSrcAck r src => Sys2Proof.Machine.execFltSrcAck r src s
  | .fltAckAll r => Sys2Proof.Machine.execFltAckAll r s
  | .eventRingDeliver n d => Sys2Proof.Machine.execEventRingDeliver n d s
  | .sydinWatchdog => Sys2Proof.Machine.execSydinWatchdog s
  | .monitorEvent ch value region region2 => Sys2Proof.Machine.execMonitorEvent ch value region region2 s
  | .monitorRearm ch value => Sys2Proof.Machine.execMonitorRearm ch value s
  | .pmcSampleCapture row f skid => Sys2Proof.Machine.execPmcSampleCapture row f skid s
  | .pmcSampleTimeout row => Sys2Proof.Machine.execPmcSampleTimeout row s
  | .pmcValueRead r row => Sys2Proof.Machine.execPmcValueRead r row s
  | .sramSpareCmd r m row => Sys2Proof.Machine.execSramSpareCmd r m row s
  | .sramRowSpare m row c => Sys2Proof.Machine.execSramRowSpare m row c s
  | .thermNAssert temp => Sys2Proof.Machine.execThermNAssert temp s
  | .pcieLinkUp width speed => Sys2Proof.Machine.execPcieLinkUp width speed s
  | .ringIdleSetRx position place status => Sys2Proof.Machine.execRingIdleSetRx position place status s
  | .pllLockRegained src => Sys2Proof.Machine.execPllLockRegained src s
  | .memCalibrationLoss c => Sys2Proof.Machine.execMemCalibrationLoss c s
  | .memCalibrationRegained c => Sys2Proof.Machine.execMemCalibrationRegained c s
  | .pmcClockCountWrap row => Sys2Proof.Machine.execPmcClockCountWrap row s

end Sys2Proof.Machine
end

