-- ==== Sys2Proof/Machine/Step.lean ====
section
/-!
DEFINITION. One step: the command at the front of the queue takes its effect; on an empty queue one slice clock passes
(log entry 2).
-/
namespace Sys2Proof.Machine

/-- One slice clock edge, when the clocks run (log entry 2). -/
def tick (s : State) : State := { s with dev := s.dev.passTo (s.dev.cyc + 1) }

/-- Take the first waiting command; without one, let a slice clock pass. -/
def step (s : State) : Host.Outcome State Fault Refusal :=
  match s.pending with
  | [] => .next (tick s)
  | c :: rest => exec c { s with pending := rest }

/-- The state with the command that the word spells put at the front of the queue; unchanged when it spells none. -/
def State.withFetchWord (s : State) (nbits w : Nat) : State :=
  match Sys2Proof.decodeTableWord nbits w with
  | some c => { s with pending := c :: s.pending }
  | none => s

end Sys2Proof.Machine
end

