-- ==== Sys2Proof/Keeps.lean ====
section
/-!
DEFINITION. What an operation leaves as it was, in the terms the statements use. A place of the device is one number: an
object of the dictionary (all its rows), or, from 2^24 on, one of the fields that the dictionary does not show.
-/
namespace Sys2Proof.Machine

/-! ### The fields beside the dictionary -/
namespace F
def mode : Nat := 0x1000000
def clockOn : Nat := 0x1000001
def boot : Nat := 0x1000002
def resetLatch : Nat := 0x1000003
def cyc : Nat := 0x1000004
def clk : Nat := 0x1000005
def edge : Nat := 0x1000006
def draws : Nat := 0x1000007
def out : Nat := 0x1000008
def sess : Nat := 0x1000009
def proofFails : Nat := 0x100000A
def lockoutUntil : Nat := 0x100000B
def lockRenewed : Nat := 0x100000C
def groups : Nat := 0x100000D
def ring : Nat := 0x100000E
def pcieWindows : Nat := 0x100000F
def pcieDma : Nat := 0x1000010
def pcieMasked : Nat := 0x1000011
def pciePending : Nat := 0x1000012
def pcieServed : Nat := 0x1000013
def jtag : Nat := 0x1000014
def pins : Nat := 0x1000015
def acqAt : Nat := 0x1000016
def drainAt : Nat := 0x1000017
def gunSeq : Nat := 0x1000018
def guns : Nat := 0x1000019
def faults : Nat := 0x100001A
def vault : Nat := 0x100001B
def checkKey : Nat := 0x100001C
def storeKey : Nat := 0x100001D
def keyTests : Nat := 0x100001E
def keyRestart : Nat := 0x100001F
def keyScrub : Nat := 0x1000020
def saRecs : Nat := 0x1000021
def saCtxs : Nat := 0x1000022
def saHolds : Nat := 0x1000023
def saLastPn : Nat := 0x1000024
def banks : Nat := 0x1000025
def pipe : Nat := 0x1000026
def clsx : Nat := 0x1000027
def queues : Nat := 0x1000028
def nodes : Nat := 0x1000029
def pairs : Nat := 0x100002A
def ports : Nat := 0x100002B
def laps : Nat := 0x100002C
def pmc : Nat := 0x100002D
def memCells : Nat := 0x100002E
def memRest : Nat := 0x100002F
def otp : Nat := 0x1000030
def flash : Nat := 0x1000031
def lc : Nat := 0x1000032
def fw : Nat := 0x1000033
def att : Nat := 0x1000034
def sram : Nat := 0x1000035
def time : Nat := 0x1000036
def mon : Nat := 0x1000037
def la : Nat := 0x1000038
def pcieVectors : Nat := 0x1000039
def pcieMsixOn : Nat := 0x100003A
def pcieFuncMask : Nat := 0x100003B
def keyScrubFrom : Nat := 0x100003C
def keyReseed : Nat := 0x100003D
def keyRequests : Nat := 0x100003E

/-- Any object of the dictionary: a write whose address is an operand. -/
def objects : Nat := 0x10000FF

end F

/-- What external memory holds beside the bytes of its regions. -/
def MemX.rest (m : MemX) : MemX := { m with cells := [] }

/-- Field `k` of the two devices is the same. -/
def sameField (k : Nat) (a b : Device) : Prop :=
  match k with
  | 0 => b.mode = a.mode
  | 1 => b.clockOn = a.clockOn
  | 2 => b.boot = a.boot
  | 3 => b.resetLatch = a.resetLatch
  | 4 => b.cyc = a.cyc
  | 5 => b.clk = a.clk
  | 6 => b.edge = a.edge
  | 7 => b.draws = a.draws
  | 8 => b.out = a.out
  | 9 => b.sess = a.sess
  | 10 => b.proofFails = a.proofFails
  | 11 => b.lockoutUntil = a.lockoutUntil
  | 12 => b.lockRenewed = a.lockRenewed
  | 13 => b.groups = a.groups
  | 14 => b.ring = a.ring
  | 15 => b.pcie.windows = a.pcie.windows
  | 16 => b.pcie.dma = a.pcie.dma
  | 17 => b.pcie.masked = a.pcie.masked
  | 18 => b.pcie.pendBits = a.pcie.pendBits
  | 19 => b.pcie.lastServed = a.pcie.lastServed
  | 20 => b.jtag = a.jtag
  | 21 => b.pins = a.pins
  | 22 => b.acqAt = a.acqAt
  | 23 => b.drainAt = a.drainAt
  | 24 => b.gunSeq = a.gunSeq
  | 25 => b.guns = a.guns
  | 26 => b.faults = a.faults
  | 27 => b.keys.vault = a.keys.vault
  | 28 => b.keys.checkKey = a.keys.checkKey
  | 29 => b.keys.storeKey = a.keys.storeKey
  | 30 => b.keys.entropyFails = a.keys.entropyFails
  | 31 => b.keys.restartBy = a.keys.restartBy
  | 32 => b.keys.scrubAt = a.keys.scrubAt
  | 33 => b.sas.recs = a.sas.recs
  | 34 => b.sas.ctxs = a.sas.ctxs
  | 35 => b.sas.holdUntil = a.sas.holdUntil
  | 36 => b.sas.lastPn = a.sas.lastPn
  | 37 => b.banks = a.banks
  | 38 => b.pipe = a.pipe
  | 39 => b.clsx = a.clsx
  | 40 => b.queues = a.queues
  | 41 => b.nodes = a.nodes
  | 42 => b.pairs = a.pairs
  | 43 => b.ports = a.ports
  | 44 => b.laps = a.laps
  | 45 => b.pmc = a.pmc
  | 46 => b.mem.cells = a.mem.cells
  | 47 => b.mem.rest = a.mem.rest
  | 48 => b.otp = a.otp
  | 49 => b.flash = a.flash
  | 50 => b.lc = a.lc
  | 51 => b.fw = a.fw
  | 52 => b.att = a.att
  | 53 => b.sram = a.sram
  | 54 => b.time = a.time
  | 55 => b.mon = a.mon
  | 56 => b.la = a.la
  | 57 => b.pcie.vectors = a.pcie.vectors
  | 58 => b.pcie.msixOn = a.pcie.msixOn
  | 59 => b.pcie.funcMask = a.pcie.funcMask
  | 60 => b.keys.scrubFrom = a.keys.scrubFrom
  | 61 => b.keys.reseedAt = a.keys.reseedAt
  | 62 => b.keys.requests = a.keys.requests
  | _ => True

/-- `b` is `a` but for the places of `W`, and the part is the same. -/
structure Keeps (W : List Nat) (a b : Device) : Prop where
  part : b.part = a.part
  objs : F.objects ∉ W → ∀ o r, o ∉ W → b.rd o r = a.rd o r
  fields : ∀ k, 0x1000000 + k ∉ W → sameField k a b

end Sys2Proof.Machine
end

