-- ==== Sys2Proof/Safety.lean ====
section
/-!
DEFINITION. What a safe run is, and the terms the statements use: a request that passes the checks every request passes, the
result word and the response of a command, and what a command leaves as it was.
-/
namespace Sys2Proof.Machine

/-- An outcome that is a next state. -/
def answers (o : Host.Outcome State Fault Refusal) : Prop := ∃ t, o = .next t

/-- `k` steps from `s` neither fault nor are refused. -/
def safeFor (k : Nat) (s : State) : Prop := answers (Sys2Proof.core.run k s)

/-- The dictionary's canonical form: keys strictly rising, no entry at its default. -/
def dictCanonical (d : Device) : Prop := Sparse.wf dfltKey d.dict = true

/-- The canonical form of external memory's bytes, OTP and flash. -/
def memCanonical (d : Device) : Prop :=
  Sparse.wf (fun _ => (0#8 : Byte)) d.mem.cells = true ∧ Sparse.wf (fun _ => 0) d.otp = true ∧
  Sparse.wf (fun _ => 255) d.flash = true

/-! ### Requests -/

/-- A request of `r` to command object `o` of row `row` passes every check of R40 that does not depend on the command
itself: it reaches the dictionary, its address is served, its session is open and has the role, the last command of the
object has ended, and no other session holds the lock. -/
def Asked (r : Req) (o row : Nat) (d : Device) : Prop := d.mode ≠ .reset ∧ d.cmdCheck r o row Conds.none = 0

/-- The same for a command that the lock never refuses (R44). -/
def AskedFree (r : Req) (o row : Nat) (d : Device) : Prop :=
  d.mode ≠ .reset ∧ d.cmdCheck r o row { Conds.none with exempt := true } = 0

/-- A direct write of `v` to `a` by `r` passes every check of R40. -/
def Passes (r : Req) (a : AddrBlock) (v : Bytes) (d : Device) : Prop :=
  d.mode ≠ .reset ∧ (d.accept r).writeCheck r a v .direct none = 0

/-- The result word of object `o`, row `row`, says in `b` that a command accepted in `a` has this abort code and status
(1 running, 2 done, 3 aborted), under the next sequence number (R36). -/
def Result (o row abort status : Nat) (a b : Device) : Prop :=
  b.rd o row = abort * 65536 + status * 256 + (a.rd o row % 256 + 1) % 256

/-- The last thing the device put out is the response to `r` with this abort code (R42). -/
def Answers (r : Req) (abort : Nat) (d : Device) : Prop :=
  d.out.getLast? = some (.resp r.master r.session abort [])

/-! ### Frames -/

/-- What any request may change besides the effect of what it asks: the counters of R393 with their overflow, the
response, and when the session and the lock were last renewed (R44, R67). -/
def asked : List Nat := [O.PMC_VALUE, O.PMC_STATUS, F.out, F.sess, F.lockRenewed, F.pciePending, F.pmc]

/-- What the passing of time changes: the clock and the counters that count clocks (R110, R400). -/
def passing : List Nat := [O.PMC_VALUE, O.PMC_STATUS, F.cyc, F.clk, F.out, F.pciePending, F.pmc]

/-- The session that gets events and gun messages, if one is open, has room for 64 more of the device's own messages: a
session whose counter would pass its end is closed instead (R66). -/
def EventRoom (d : Device) : Prop :=
  ∀ row, d.openRow (d.rd O.RING_EVENT_SESSION) = some row → (d.sessOf row).evCounter + 64 < 0xFFFFFFFF

/-- What a message to the event session changes. -/
def told : List Nat := [F.sess, F.ring]

/-- What the announcement of a gun entry changes (R143). -/
def announced : List Nat := [F.out, F.sess, F.ring, F.clsx]

/-- What a record without a class changes: the log, the counts of its source, and its delivery (R375 to R378). -/
def noted : List Nat :=
  [O.FLT_LOG_LAST_SEQ, O.FLT_LOG_OVERWRITTEN, O.FLT_EVENT_LOST, O.FLT_FIRST_SEVERE, O.FLT_SRC_EVENTS, O.FLT_SRC_LAST_AT,
   O.FLT_LOG_RECORD, F.sess, F.ring, F.pcieDma, F.faults]

/-- The objects whose write has more consequences than the store (R43): those that shape a port, a bucket, a clock or an
entry, that start or stop a unit, that a write does not simply overwrite, or that the device itself writes meanwhile. -/
def moreThanStore : List Nat :=
  [O.LOCK, O.RING_ENABLE, O.RING_UPSTREAM_EXPECTED, O.TIME_BYPASS_EXPECTED, O.MON_ENABLE, O.MON_HOT, O.PMC_STATUS,
   O.PORT_MODE, O.PORT_FC, O.PORT_PFC_LOSSLESS, O.PORT_MAX_FRAME, O.PORT_FAULT_PARTNER, O.PORT_LINK, O.LANE_PRBS, O.SLICE_STATE,
   O.BUF_CABLE_M, O.BUF_PARTNER_NS, O.BUF_LL_XOFF_CELLS, O.BUF_LL_XON_GAP, O.LANE_ADAPT, O.CALLROOM_XOFF_THRESHOLD, O.PHC_FREQ_ADJ, O.PHC_UTC_OFFSET, O.PHC_LEAP_AT,
   O.PHC_LEAP_KIND, O.PPS_OUT_ENABLE, O.TOD_OUT_ENABLE, O.TS_RX_BASE, O.TS_TX_BASE, O.TS_RX_TEMPCO, O.TS_TX_TEMPCO,
   O.PACER_CIR, O.PACER_PIR, O.POL_CIR, O.POL_PIR, O.PACER_CBS, O.PACER_PBS, O.POL_CBS, O.POL_PBS,
   O.SC_DIR, O.SC_PORT, O.SC_SCI, O.SC_CA, O.RXSC_HOST_PORT, O.RXSC_CLASS, O.GROUP_STATE, O.GROUP_FLAGS, O.GROUP_CMD,
   O.GUN_STATE, O.GUN_TARGET_CYCLE, O.GUN_FIRED_AT, O.GUN_FLAGS, O.GUN_LATE_COUNT, O.GUN_STEPPED_COUNT, O.PMC_VALUE,
   O.SESSION_STATE, O.SESSION_ID, O.SESSION_ROLE, O.SESSION_LAST_COUNTER, O.RING_POSITION, O.BOOT_STATUS]

/-- No port holds a class toward its partner (R104). -/
def Quiet (d : Device) : Prop := ∀ p, (d.portOf p).holds = []

/-- Of the objects only the rows `R` and any row of `W` differ, and of the fields beside the dictionary those of `W`. -/
def Only (R : List (Nat × Nat)) (W : List Nat) (a b : Device) : Prop :=
  Keeps (R.map (·.1) ++ W) a b ∧
  ∀ o r, o ∉ W → (∀ e ∈ R, e.1 = o → r % 2 ^ 24 ≠ e.2 % 2 ^ 24) → b.rd o r = a.rd o r

end Sys2Proof.Machine
end

