-- ==== Sys2Proof/Certificates/Slice0/Obligations.lean ====
section
/-!
DEFINITION. The statements for the provers. A statement about a command says of every state that meets its hypotheses that
`exec` answers a next state, what that state holds, and what it leaves as it was.
-/
open Sys2Proof Sys2Proof.Machine

namespace Sys2Proof.Machine

/-! ### What commands may change besides their own effect -/

/-- No commit group is armed: a command's own change of an object overrules none (R48). -/
def Unarmed (d : Device) : Prop := ∀ g, d.rd O.GROUP_STATE g ≠ 2

/-- What closing sessions changes: the rows, the lock, the groups and the rings they held, and what the cancelling of a group
that names one of these tells (R48, R67). -/
def closing : List Nat :=
  [O.LOCK, O.GROUP_OWNER, O.GROUP_STATE, O.GROUP_WRITES, O.GROUP_FAIL_ADDRESS, O.GROUP_FLAGS, O.SESSION_STATE, O.SESSION_ROLE,
   O.SESSION_CA, O.SESSION_ID, O.SESSION_LAST_COUNTER, O.RING_ENABLE, O.RING_STATE, O.RING_HEAD, O.RING_TAIL, O.RING_COMPLETED,
   O.RING_REJECTED, O.PMC_VALUE, O.PMC_STATUS, F.out, F.sess, F.groups, F.pcieDma, F.pciePending, F.pmc,
   O.GUN_FLAGS, O.GUN_OWNER, O.GUN_STATE, F.clsx] ++ noted

/-- What frames change when they are discarded, truncated or handed back: the pipelines and their buffers, and the pause and
PFC frames that follow (R86, R104, R162, R266). -/
def traffic : List Nat :=
  [O.BUFP_USED_CELLS, O.BUF_HEADROOM_USED, O.CALLROOM_OCCUPANCY, O.CALLROOM_PEAK, O.INJECT_REFUSED, O.PMC_STATUS, O.PMC_VALUE,
   O.PORT_FC_TX_XOFF_C0, O.PORT_FC_TX_XOFF_C1, O.PORT_FC_TX_XOFF_C2, O.PORT_FC_TX_XOFF_C3, O.PORT_FC_TX_XOFF_C4,
   O.PORT_FC_TX_XOFF_C5, O.PORT_FC_TX_XOFF_C6, O.PORT_FC_TX_XOFF_C7, O.PORT_TX_BYTES, O.PORT_TX_FRAMES, O.PORT_TX_TRUNCATED,
   O.QUEUE_NODE, O.QUEUE_OCCUPANCY, O.RING_COMPLETED, O.RING_HEAD, O.RING_REJECTED, O.RING_STATE, O.RING_TAIL, O.RUNAHEAD_FALSE_STARTS, O.RUNAHEAD_WASTED_CELLS,
   O.SA_STAT_TX_LOST, F.draws, F.laps, F.nodes, F.out, F.pairs, F.pcieDma, F.pciePending, F.pipe, F.pmc, F.ports, F.queues]

/-- What the zeroization of keys changes (R297): vault, SAs, sessions, and the frames and groups that depend on them. -/
def zeroized : List Nat :=
  [O.VAULT_STATE, O.VAULT_HANDLE, O.VAULT_LEVEL, O.VAULT_PURPOSE, O.VAULT_KEY_BITS, O.VAULT_COUNTED, O.VAULT_USES_LEFT,
   O.VAULT_ORIGIN, O.VAULT_PARENT, O.VAULT_CREATED_AT, O.VAULT_ARG_KEY, O.VAULT_RESULT_HANDLE, O.ROLE_ROOT, O.PEER_KEY, O.SA_KEK,
   O.SA_CHANGED_AT, O.SA_FLAGS, O.SA_SLOT, O.SA_STATE, O.SA_STAT_COMMIT_LATE, O.SA_STAT_NOT_VALID, O.SA_STAT_OCTETS,
   O.SA_STAT_PKTS, O.SA_STAT_PKTS_ENCRYPTED, O.SCSA_IN_FORCE_AN, O.SCSA_SLOT0_ROW, O.SCSA_SLOT1_ROW, O.SCSA_ZONE_OPEN,
   O.SC_STATUS, O.BANK_DISCARDS, O.DRBG_STATE, O.GUN_FLAGS, O.GUN_STATE, O.LA_CONTEXTS_BUSY, F.vault, F.saRecs, F.saCtxs, F.banks,
   F.clsx, F.checkKey, F.storeKey, F.keyTests, F.keyRestart, F.keyScrub, F.keyScrubFrom, F.keyReseed, F.keyRequests,
   F.la, O.VAULT_CMD] ++ traffic ++ closing

/-- What a DEGRADED fault changes: its record, its latch, and the count of its source (R369, R371). -/
def degraded : List Nat := O.FLT_SRC_CLASS :: O.FLT_STATUS :: noted

/-- What a fault of any class may change (R371). -/
def faulting : List Nat :=
  [O.FLT_SRC_CLASS, O.FLT_STATUS, O.FLT_FATAL_SINCE_BOOT, O.MODE, O.MODE_CAUSE, O.MODE_CMD, O.MODE_ENTERED_AT, F.mode, F.lc] ++ zeroized

/-- The count rule does not reach source `src` with its next event (R370). -/
def Uncounted (src : Nat) (d : Device) : Prop := d.srcN src = 0 ∨ d.windowCount src + 1 < d.srcN src

/-- A fault of source `src` with base class `cls` keeps that class: the count rule does not reach the source, and no fault of
the class is latched (R370). -/
def Calm (src cls : Nat) (d : Device) : Prop := Uncounted src d ∧ (d.rd O.FLT_STATUS).testBit cls = false

/-- External memory is sound: its keys stand, no node line fails, nothing is read-only, no counter is near its end,
and the tree cache is no larger than memory. -/
def MemSound (d : Device) : Prop :=
  d.mem.zeroed = false ∧ d.mem.cached.length < 2 ^ 32 ∧ d.mem.badNodes = [] ∧ d.mem.frozen = [] ∧ ∀ k, natAt d.mem.ctr k < 2 ^ 63 ∧ natAt d.mem.nodeCtr k < 2 ^ 63

/-- What an access to sound memory changes besides its data: counters of lines and nodes, the tree cache and its counts. -/
def memUsed : List Nat := [O.MEM_TREE_HITS, O.MEM_TREE_MISSES, O.PMC_VALUE, O.PMC_STATUS, F.memRest, F.out, F.pciePending, F.pmc]

/-- Every OTP word holds 32 bits, and every flash cell a byte (R335, R349). -/
def CellsFit (d : Device) : Prop := (∀ w, d.otpWord w < 2 ^ 32) ∧ ∀ o, d.flashByte o < 256

end Sys2Proof.Machine

/-! ### The block as a whole -/

/-- The queue is first in, first out (R42: requests execute one at a time, in the order they reach the input). -/
def Obligations.StepTakesTheFrontCommand : Prop :=
  (∀ (c : Instr) (rest : List Instr) (s : State), s.pending = c :: rest → step s = exec c { s with pending := rest }) ∧
  State.reset.pending = []

/-- The passing of time. That an empty queue lets one clock pass is the model's choice (log entry 2); the increment is
that of R110 to R112. -/
def Obligations.EmptyQueueLetsOneClockPass : Prop :=
  ∀ s : State, s.pending = [] →
    ∃ t, step s = .next t ∧ t.pending = [] ∧
      (s.dev.clockOn = true → t.dev.cyc = s.dev.cyc + 1 ∧ t.dev.clk = s.dev.clk.run 1 ∧ Keeps passing s.dev t.dev) ∧
      (s.dev.clockOn = false → t.dev = s.dev)

/-- Every error the specification names is a code, a counter or a record of the device itself. -/
def Obligations.EveryCommandAnswersANextState : Prop :=
  ∀ (c : Instr) (s : State), ∃ t, exec c s = .next t ∧ t.pending = s.pending ∧ t.dev.part = s.dev.part ∧
    s.dev.out <+: t.dev.out

/-- Equal contents are equal data, in every state a step can reach from such a state. -/
def Obligations.StepKeepsTheTablesCanonical : Prop :=
  ∀ s t : State, dictCanonical s.dev → memCanonical s.dev → step s = .next t →
    dictCanonical t.dev ∧ memCanonical t.dev ∧ (CellsFit s.dev → CellsFit t.dev)

/-- What power-up leaves. That the part is an ISF3232 with blank fuses and erased flash is the model's choice (log entry 9). -/
def Obligations.ResetIsPowerUp : Prop :=
  State.reset.dev.mode = .reset ∧ State.reset.dev.clockOn = false ∧ State.reset.pending = [] ∧
  dictCanonical State.reset.dev ∧ memCanonical State.reset.dev ∧ CellsFit State.reset.dev ∧
  (∀ o r, State.reset.dev.rd o r = dfltKey (keyOf o r)) ∧
  (∀ g, State.reset.dev.groupOf g = GroupX.empty) ∧ (∀ row, State.reset.dev.sessOf row = SessX.empty) ∧
  (∀ e, State.reset.dev.rd O.GUN_STATE e = 0)

/-- OTP is one-way (R335). -/
def Obligations.FusesOnlyEverBurn : Prop :=
  ∀ s t : State, step s = .next t → ∀ w i, (s.dev.otpWord w).testBit i = true → (t.dev.otpWord w).testBit i = true

/-- The draw counter and the record of outputs are the model's own (log entries 1 and 4). -/
def Obligations.FreeValuesAreNeverReused : Prop :=
  ∀ s t : State, step s = .next t → s.dev.draws ≤ t.dev.draws ∧ s.dev.out <+: t.dev.out

namespace Sys2Proof.Machine

/-- The commands that may change a byte of external memory, or that carry out another command: the writes of the memory
path, its initialization, a reset, and the requests that can start any command. -/
def storesMemory : Instr → Bool
  | .memFullLineWrite _ _ | .memPartialWrite _ _ _ | .memWinWrite _ _ | .memReinit _ _ | .apertureWrite _ _
  | .memTrainingDone _ | .lcRebuildDone => true
  | .dictWrite _ _ _ | .groupShadowWrite _ _ _ | .request _ | .pcieWindowWrite _ _ _ _ | .dapWrite _ _ _ => true
  | .pwrGoodLow | .resetNLow | .modeCmdReset _ | .activateReset _ => true
  | _ => false

/-- The commands that may burn a fuse or change flash, or that carry out another command. -/
def storesFuses : Instr → Bool
  | .commitVersion _ | .hotActivationDone | .attBuildTop _ | .epochRollover | .sealTest _ | .lcUnlock _ | .personalize _
  | .takeOwnership _ | .lcReturn _ | .scrap _ | .bootPllsLocked | .sydinImageVerified => true
  | .fwErase _ | .fwWrite _ | .fwPrefer _ | .activateHot _ => true
  | .dictWrite _ _ _ | .groupShadowWrite _ _ _ | .request _ | .pcieWindowWrite _ _ _ _ | .dapWrite _ _ _ => true
  | _ => false

/-- The memory requests that store, once they are granted (R23). -/
def storesLine : MemOp → Bool
  | .fullLine _ _ | .partialWrite _ _ _ => true
  | .lineRead _ _ | .scrub _ _ _ _ | .lookup _ => false

end Sys2Proof.Machine

/-- The frame of memory, for every command that stores nothing. -/
def Obligations.OnlyMemoryCommandsStore : Prop :=
  ∀ c s t, storesMemory c = false → (∀ q ∈ s.dev.mem.waiting, storesLine q.op = false) → exec c s = .next t →
    t.dev.mem.cells = s.dev.mem.cells

/-- The frame of what outlives a reset. -/
def Obligations.OnlyLifeCycleAndFirmwareBurn : Prop :=
  ∀ c s t, storesFuses c = false → exec c s = .next t → t.dev.otp = s.dev.otp ∧ t.dev.flash = s.dev.flash

/-! ### The lock and commit groups (R43 to R48) -/

/-- R44: a claim, a release, LOCK_BREAK and the lease. -/
def Obligations.LockCommandsMoveTheLock : Prop :=
  (∀ r s, Passes r (directAddr O.LOCK 0) (leBytes 4 1) s.dev → Quiet s.dev →
    ∃ t, exec (.lockClaim r) s = .next t ∧ t.dev.rd O.LOCK = r.session ∧ Answers r 0 t.dev ∧
      Only [(O.LOCK, 0)] asked s.dev t.dev) ∧
  (∀ r s, Passes r (directAddr O.LOCK 0) (leBytes 4 0) s.dev → Quiet s.dev →
    ∃ t, exec (.lockRelease r) s = .next t ∧ t.dev.rd O.LOCK = 0 ∧ Answers r 0 t.dev ∧ Only [(O.LOCK, 0)] asked s.dev t.dev) ∧
  (∀ r s, AskedFree r O.LOCK_BREAK 0 s.dev → Unarmed s.dev →
    ∃ t, exec (.lockBreak r) s = .next t ∧ t.dev.rd O.LOCK = 0 ∧ Result O.LOCK_BREAK 0 0 2 s.dev t.dev ∧ Answers r 0 t.dev ∧
      Only [(O.LOCK, 0), (O.LOCK_BREAK, 0)] asked s.dev t.dev) ∧
  (∀ s, s.dev.rd O.LOCK ≠ 0 → s.dev.clockOn = true → Unarmed s.dev →
    ∃ t, exec .lockLeaseExpiry s = .next t ∧ t.dev.rd O.LOCK = 0 ∧
      t.dev.cyc = max s.dev.cyc (s.dev.lockRenewed + msCycles (s.dev.rd O.LOCK_LEASE_MS)) ∧
      Only [(O.LOCK, 0)] passing s.dev t.dev)

/-- R47, the five commands of a group. -/
def Obligations.GroupCommandsMoveTheGroup : Prop :=
  (∀ r g s, Asked r O.GROUP_CMD g s.dev → s.dev.rd O.GROUP_STATE g = 0 →
    ∃ t, exec (.groupOpen r g) s = .next t ∧ t.dev.rd O.GROUP_STATE g = 1 ∧ t.dev.rd O.GROUP_OWNER g = r.session ∧
      (t.dev.groupOf g).shadow = [] ∧ Result O.GROUP_CMD g 0 2 s.dev t.dev ∧ Answers r 0 t.dev ∧
      Only [(O.GROUP_CMD, g), (O.GROUP_STATE, g), (O.GROUP_OWNER, g)] (F.groups :: asked) s.dev t.dev) ∧
  (∀ r g s, Asked r O.GROUP_CMD g s.dev → s.dev.rd O.GROUP_STATE g = 1 → s.dev.rd O.GROUP_OWNER g = r.session →
    Device.commitFails ((s.dev.accept r).startCmd O.GROUP_CMD g) r g = none → Quiet s.dev →
    (∀ p ∈ Device.shadowPieces (s.dev.groupOf g).shadow, p.e.obj ∉ moreThanStore) →
    ∃ t, exec (.commitNow r g) s = .next t ∧ t.dev.rd O.GROUP_STATE g = 3 ∧ t.dev.rd O.GROUP_FLAGS g = 0 ∧
      (∀ l p m, Device.shadowPieces (s.dev.groupOf g).shadow = l ++ p :: m →
        (∀ q ∈ m, q.e.obj ≠ p.e.obj ∨ q.row % 2 ^ 24 ≠ p.row % 2 ^ 24) →
        t.dev.rd p.e.obj p.row = storedValue p.e p.num) ∧
      Result O.GROUP_CMD g 0 2 s.dev t.dev ∧ Answers r 0 t.dev ∧
      Only ((O.GROUP_CMD, g) :: (O.GROUP_STATE, g) :: (O.GROUP_FLAGS, g) ::
        (Device.shadowPieces (s.dev.groupOf g).shadow).map (fun p => (p.e.obj, p.row))) asked s.dev t.dev) ∧
  (∀ r g s e, Asked r O.GROUP_CMD g s.dev → s.dev.rd O.GROUP_STATE g = 1 → s.dev.rd O.GROUP_OWNER g = r.session →
    s.dev.holdsRws g = false → (s.dev.gunPast (s.dev.rd O.GROUP_GUN_TIME g) = false ∨ s.dev.rdB O.GROUP_LATE_OK g = true) →
    s.dev.gunPool 1 = some e → Device.commitFails ((s.dev.accept r).startCmd O.GROUP_CMD g) r g = none → EventRoom s.dev →
    ∃ t, exec (.commitAt r g) s = .next t ∧ t.dev.rd O.GROUP_STATE g = 2 ∧ (t.dev.groupOf g).entry = some e ∧
      (t.dev.groupOf g).shadow = (s.dev.groupOf g).shadow ∧
      t.dev.rd O.GUN_STATE e = 1 ∧ t.dev.rd O.GUN_OWNER e = 1 ∧ t.dev.rd O.GUN_TARGET_ROW e = g ∧
      t.dev.rd O.GUN_TIME e = s.dev.rd O.GROUP_GUN_TIME g ∧ Result O.GROUP_CMD g 0 2 s.dev t.dev ∧ Answers r 0 t.dev ∧
      Only [(O.GROUP_CMD, g), (O.GROUP_STATE, g), (O.GROUP_FLAGS, g), (O.GUN_STATE, e), (O.GUN_OWNER, e), (O.GUN_TARGET_ROW, e),
        (O.GUN_TIME, e), (O.GUN_SEQ, e), (O.GUN_TAG, e), (O.GUN_TARGET_CYCLE, e), (O.GUN_FIRED_AT, e), (O.GUN_FLAGS, e)]
        (F.groups :: F.guns :: F.gunSeq :: announced ++ asked) s.dev t.dev) ∧
  (∀ r g s e, AskedFree r O.GROUP_CMD g s.dev → s.dev.rd O.GROUP_STATE g = 2 → s.dev.rd O.GROUP_OWNER g = r.session →
    (s.dev.groupOf g).entry = some e → s.dev.rd O.GUN_STATE e = 1 → EventRoom s.dev →
    ∃ t, exec (.groupCancel r g) s = .next t ∧ t.dev.rd O.GROUP_STATE g = 5 ∧ (t.dev.groupOf g).entry = none ∧
      t.dev.rd O.GUN_STATE e = 4 ∧ t.dev.rd O.GUN_OWNER e = 0 ∧ Result O.GROUP_CMD g 0 2 s.dev t.dev ∧ Answers r 0 t.dev ∧
      Only [(O.GROUP_CMD, g), (O.GROUP_STATE, g), (O.GUN_STATE, e), (O.GUN_OWNER, e)] (F.groups :: announced ++ asked) s.dev t.dev) ∧
  (∀ r g s, AskedFree r O.GROUP_CMD g s.dev → s.dev.rd O.GROUP_STATE g ≠ 0 → s.dev.rd O.GROUP_STATE g ≠ 2 →
    s.dev.rd O.GROUP_OWNER g = r.session →
    ∃ t, exec (.groupRelease r g) s = .next t ∧ t.dev.rd O.GROUP_STATE g = 0 ∧ t.dev.rd O.GROUP_OWNER g = 0 ∧
      t.dev.groupOf g = GroupX.empty ∧ Result O.GROUP_CMD g 0 2 s.dev t.dev ∧ Answers r 0 t.dev ∧
      Only [(O.GROUP_CMD, g), (O.GROUP_STATE, g), (O.GROUP_OWNER, g), (O.GROUP_WRITES, g), (O.GROUP_FAIL_ADDRESS, g),
        (O.GROUP_FLAGS, g)] (F.groups :: asked) s.dev t.dev)

/-- R137, R138 and R47: issue, and the firing of a commit group. -/
def Obligations.GunEntriesIssueAndFire : Prop :=
  (∀ e s, s.dev.clockOn = true → s.dev.rd O.GUN_STATE e = 1 →
    ∃ t, exec (.gunIssue e) s = .next t ∧ t.dev.rd O.GUN_STATE e = 2 ∧ t.dev.rd O.GUN_TARGET_CYCLE e = s.dev.gunTarget e ∧
      t.dev.cyc = max s.dev.cyc (s.dev.gunTarget e - nsCycles 512) ∧
      Only [(O.GUN_STATE, e), (O.GUN_TARGET_CYCLE, e)] passing s.dev t.dev) ∧
  (∀ e g s, s.dev.clockOn = true → s.dev.gunLive e = true → s.dev.gunFirst e = true → s.dev.rd O.GUN_OWNER e = 1 →
    s.dev.rd O.GUN_TARGET_ROW e = g → Quiet s.dev → EventRoom s.dev →
    (∀ p ∈ Device.shadowPieces (s.dev.groupOf g).shadow, p.e.obj ∉ moreThanStore) →
    ∃ t, exec (.gunFire e) s = .next t ∧ t.dev.rd O.GROUP_STATE g = 3 ∧
      t.dev.rd O.GROUP_FLAGS g = boolNat (s.dev.gunOf e).late + 2 * boolNat ((s.dev.passTo (s.dev.gunTarget e)).gunStepped e) ∧
      (∀ l p m, Device.shadowPieces (s.dev.groupOf g).shadow = l ++ p :: m →
        (∀ q ∈ m, q.e.obj ≠ p.e.obj ∨ q.row % 2 ^ 24 ≠ p.row % 2 ^ 24) →
        t.dev.rd p.e.obj p.row = storedValue p.e p.num) ∧
      t.dev.rd O.GUN_STATE e = 3 ∧ t.dev.rd O.GUN_OWNER e = 0 ∧ t.dev.rd O.GUN_FIRED_AT e = t.dev.phcTime ∧
      t.dev.cyc = max s.dev.cyc (s.dev.gunTarget e) ∧
      Only ((O.GROUP_STATE, g) :: (O.GROUP_FLAGS, g) :: (O.GUN_STATE, e) :: (O.GUN_OWNER, e) :: (O.GUN_TARGET_CYCLE, e) :: (O.GUN_FIRED_AT, e) ::
        (O.GUN_FLAGS, e) :: (O.GUN_LATE_COUNT, 0) :: (O.GUN_STEPPED_COUNT, 0) ::
        (Device.shadowPieces (s.dev.groupOf g).shadow).map (fun p => (p.e.obj, p.row)))
        (F.groups :: announced ++ passing) s.dev t.dev) ∧
  (∀ e s, s.dev.clockOn = true → s.dev.gunLive e = true → s.dev.gunFirst e = true → s.dev.rd O.GUN_OWNER e ≠ 5 →
    ∃ t, exec (.gunFire e) s = .next t ∧ t.dev.gunLive e = false)

/-! ### The Holloth Ring (R51 to R57) -/

/-- R52 and R57. -/
def Obligations.RingLockFollowsTheLine : Prop :=
  (∀ place status s, s.dev.clockOn = true → s.dev.rd O.RING_SYNC = 0 →
    ∃ t, exec (.ringCharacterLock place status) s = .next t ∧ t.dev.rd O.RING_SYNC = 1 ∧
      t.dev.rd O.RING_UPSTREAM_SEEN = place.toNat ∧ t.dev.ring.upStatus = status.toNat ∧ t.dev.ring.lockedSince = s.dev.cyc ∧
      t.dev.rd O.RING_UPSTREAM_PRESENT = (if s.dev.rd O.RING_UPSTREAM_EXPECTED = 0 then 0
        else if place.toNat = s.dev.rd O.RING_UPSTREAM_EXPECTED then 1 else 2) ∧
      Only [(O.RING_SYNC, 0), (O.RING_UPSTREAM_SEEN, 0), (O.RING_UPSTREAM_PRESENT, 0), (O.TIME_UPSTREAM_SEL, 0)] [F.ring, F.time]
        s.dev t.dev) ∧
  (∀ position place status s, s.dev.rd O.RING_SYNC ≠ 0 →
    ∃ t, exec (.ringIdleSetRx position place status) s = .next t ∧ t.dev.rd O.RING_UPSTREAM_SEEN = place.toNat ∧
      t.dev.ring = { s.dev.ring with upStatus := status.toNat, buffered :=
        if s.dev.cyc < s.dev.ring.insertUntil then s.dev.ring.buffered else s.dev.ring.buffered - 4 } ∧
      t.dev.rd O.RING_UPSTREAM_PRESENT = (if s.dev.rd O.RING_UPSTREAM_EXPECTED = 0 then 0
        else if place.toNat = s.dev.rd O.RING_UPSTREAM_EXPECTED then 1 else 2) ∧
      Only [(O.RING_UPSTREAM_SEEN, 0), (O.RING_UPSTREAM_PRESENT, 0), (O.TIME_UPSTREAM_SEL, 0)] [F.ring, F.time] s.dev t.dev) ∧
  (∀ s, s.dev.rd O.RING_SYNC ≠ 0 →
    ∃ t, exec .ringLockLoss s = .next t ∧ t.dev.rd O.RING_SYNC = 0 ∧ t.dev.rd O.RING_UPSTREAM_PRESENT = 0 ∧
      t.dev.inRing = false ∧ t.dev.rd O.TIME_UPSTREAM_SEL = 0 ∧
      Only [(O.RING_SYNC, 0), (O.RING_UPSTREAM_PRESENT, 0), (O.TIME_UPSTREAM_SEL, 0)] [F.out, F.pins, F.time] s.dev t.dev)

/-- R53 and R56. -/
def Obligations.RingMessagesGoOn : Prop :=
  (∀ m s, s.dev.inRing = true → (m.type = 1 → m.dst ≠ 0xFF) → (s.dev.addressed = true → m.src ≠ s.dev.rd O.RING_POSITION) →
    s.dev.forMe m = false → (m.dst = 0xFF → s.dev.addressed = false) →
    ∃ t, exec (.ringMessageForward m) s = .next t ∧ t.dev.out = s.dev.out ++ [.ringForward m] ∧
      Only [] [F.out, F.ring] s.dev t.dev) ∧
  (∀ m s, s.dev.inRing = true → m.dst ≠ 0xFF → s.dev.addressed = true → m.src = s.dev.rd O.RING_POSITION →
    ∃ t, exec (.ringMessageForward m) s = .next t ∧
      t.dev.rd O.RING_RETURNED = (s.dev.rd O.RING_RETURNED + 1) % 2 ^ 64 ∧ Only [(O.RING_RETURNED, 0)] [] s.dev t.dev) ∧
  (∀ m s, s.dev.inRing = true → m.dst ≠ 0xFF → s.dev.forMe m = true → m.src ≠ s.dev.rd O.RING_POSITION →
    m.crc = crc32 (ringCovered m) → Device.knownType m.type = true → m.payload.length ≤ 1024 →
    ∃ t, exec (.ringMessageForward m) s = .next t ∧ t.dev = s.dev) ∧
  (∀ m s, s.dev.inRing = true → m.type = 1 → m.dst = 0xFF → m.crc = crc32 (ringCovered m) → m.payload ≠ [] →
    ∃ t, exec (.address m) s = .next t ∧
      t.dev.rd O.RING_POSITION = (if leNat (m.payload.take 1) ≤ 31 then leNat (m.payload.take 1) else 0xFE) ∧
      (∀ row, 1 ≤ row → row ≤ 32 → t.dev.rd O.SESSION_STATE row = 0) ∧
      t.dev.out.getLast? = some (.ringForward (Device.addressOn m)) ∧
      Only [(O.RING_POSITION, 0)] (F.ring :: closing) s.dev t.dev)

/-- R53 to R55. -/
def Obligations.RingJoinsAndSends : Prop :=
  (∀ s, s.dev.serving = true → s.dev.pins.ringReady = true → s.dev.rd O.RING_SYNC ≠ 0 → s.dev.inRing = false →
    s.dev.clockOn = true →
    ∃ t, exec .ringHoldAssert s = .next t ∧ t.dev.inRing = true ∧ t.dev.ring.joined = false ∧
      t.dev.cyc = max s.dev.cyc (max s.dev.ring.lockedSince s.dev.ring.idleSince + usCycles 10) ∧
      t.dev.ring.holdSince = t.dev.cyc ∧ t.dev.out.getLast? = some (.pin "RING_HOLD" (some true)) ∧
      Only [] (F.ring :: F.pins :: passing) s.dev t.dev) ∧
  (∀ s, s.dev.inRing = true → s.dev.ring.joined = false → s.dev.clockOn = true →
    ∃ t m, exec .join s = .next t ∧ t.dev.ring.joined = true ∧ t.dev.ring.insertQ = s.dev.ring.insertQ ++ [m] ∧
      m.type = 9 ∧ m.dst = 0 ∧ m.src = s.dev.rd O.RING_POSITION ∧ m.payload = leBytes 16 s.dev.serial ∧
      m.crc = crc32 (ringCovered m) ∧ t.dev.cyc = max s.dev.cyc (s.dev.ring.holdSince + usCycles 10) ∧
      Only [] (F.ring :: passing) s.dev t.dev) ∧
  (∀ m q s, s.dev.ring.insertQ = m :: q → s.dev.inRing = true → s.dev.rd O.RING_SYNC ≠ 0 → s.dev.ring.buffered = 0 →
    s.dev.clockOn = true →
    ∃ t, exec .ringMessageInsert s = .next t ∧ t.dev.ring.insertQ = q ∧ t.dev.out.getLast? = some (.ringMsg m) ∧
      t.dev.cyc = max s.dev.cyc s.dev.ring.insertUntil ∧ t.dev.ring.insertUntil = t.dev.cyc + 40 * ringChars m ∧
      Only [] (F.ring :: passing) s.dev t.dev)

namespace Sys2Proof.Machine

/-! ### Sessions (R58 to R67, R343 to R345) -/

/-- What an admitted OPEN leaves in its row. -/
def opened (t : Transport) (o : OpenReq) (row : Nat) (a b : Device) : Prop :=
  b.rd O.SESSION_STATE row = (if a.admission t o.role = .open_ then 2 else 1) ∧ b.rd O.SESSION_ROLE row = o.role ∧
  b.rd O.SESSION_CA row = (if o.role = 3 then o.ca else 0) ∧ b.rd O.SESSION_ID row = (a.sessOf row).gen * 256 + row ∧
  (b.sessOf row).openBy = a.cyc + msCycles 1000 ∧ (b.sessOf row).evCounter = 0 ∧ b.rd O.SESSION_LAST_COUNTER row = 0 ∧
  (∀ k, a.admission t o.role = .root k →
    (b.sessOf row).ks = leNat (a.rootKs k t o (b.sessOf row).nd (b.rd O.SESSION_ID row)))

/-- What a good OPEN may change besides its answer. -/
def openingTouches (row : Nat) : List (Nat × Nat) :=
  [(O.SESSION_STATE, row), (O.SESSION_ROLE, row), (O.SESSION_CA, row), (O.SESSION_ID, row), (O.SESSION_LAST_COUNTER, row),
   (O.DBG_CERT_EXPIRES, row), (O.DBG_CERT_SCOPE, row)]

end Sys2Proof.Machine

/-- R59, R62, R63, R70 and R77: OPEN on the ring, in a request window, and on the debug port. -/
def Obligations.OpensAreChallenged : Prop :=
  (∀ m row s, s.dev.inRing = true → s.dev.forMe m = true → m.type = 5 → m.crc = crc32 (ringCovered m) → m.payload.length = 20 →
    (s.dev.openSession .ring (openReq m.payload)).1.1 = 0 → s.dev.freeSession .ring = some row →
    ∃ t x, exec (.ringOpen m) s = .next t ∧ opened .ring (openReq m.payload) row s.dev t.dev ∧
      t.dev.ring.insertQ = s.dev.ring.insertQ ++ [x] ∧ x.type = 6 ∧ x.dst = m.src ∧
      x.payload = Device.challenge 0 (t.dev.rd O.SESSION_ID row) (t.dev.sessOf row).nd ∧
      Only (openingTouches row) [O.VAULT_USES_LEFT, O.VAULT_STATE, F.draws, F.keyRequests, F.sess, F.ring] s.dev t.dev) ∧
  (∀ m s, s.dev.inRing = true → s.dev.forMe m = true → m.type = 5 → m.crc = crc32 (ringCovered m) → m.payload.length = 20 →
    s.dev.openCheck .ring (openReq m.payload) ≠ 0 →
    ∃ t x, exec (.ringOpen m) s = .next t ∧ t.dev.ring.insertQ = s.dev.ring.insertQ ++ [x] ∧ x.type = 6 ∧ x.dst = m.src ∧
      x.payload = Device.challenge (s.dev.openCheck .ring (openReq m.payload)) 0 0 ∧ Only [] [F.ring] s.dev t.dev) ∧
  (∀ w p row s, s.dev.windowReady w = true → p.length = 20 → (s.dev.openSession .pcie (openReq p)).1.1 = 0 →
    s.dev.freeSession .pcie = some row →
    ∃ t, exec (.pcieWindowOpen w p) s = .next t ∧ opened .pcie (openReq p) row s.dev t.dev ∧
      t.dev.winOf w = ⟨0, 0, 20, 3, false, 0, Device.challenge 0 (t.dev.rd O.SESSION_ID row) (t.dev.sessOf row).nd⟩ ∧
      Only (openingTouches row) [O.VAULT_USES_LEFT, O.VAULT_STATE, F.draws, F.keyRequests, F.sess, F.pcieWindows, F.out, F.pciePending]
        s.dev t.dev) ∧
  (∀ row s, s.dev.mode ≠ .reset → (s.dev.openSession .debug (openReq (s.dev.dapBytes 0 20))).1.1 = 0 →
    s.dev.freeSession .debug = some row →
    ∃ t, exec .dapOpen s = .next t ∧ opened .debug (openReq (s.dev.dapBytes 0 20)) row s.dev t.dev ∧ t.dev.jtag.abort = 0 ∧
      t.dev.dapBytes 0 24 = Device.challenge 0 (t.dev.rd O.SESSION_ID row) (t.dev.sessOf row).nd ∧
      Only (openingTouches row) [O.VAULT_USES_LEFT, O.VAULT_STATE, F.draws, F.keyRequests, F.sess, F.jtag, F.out] s.dev t.dev)

/-- R63, R65 and R344 on the three transports. -/
def Obligations.ProofsOpenSessions : Prop :=
  (∀ m row s, s.dev.inRing = true → s.dev.forMe m = true → m.type = 7 → m.crc = crc32 (ringCovered m) → m.payload.length = 20 →
    s.dev.mode ≠ .boot → s.dev.mode ≠ .reset → s.dev.openingRow .ring (leNat (m.payload.take 4)) = some row →
    m.payload.drop 4 = s.dev.proofWanted .ring row →
    (s.dev.rd O.SESSION_ROLE row < 4 →
      ∃ t x, exec (.ringProve m) s = .next t ∧ t.dev.rd O.SESSION_STATE row = 2 ∧ (t.dev.sessOf row).lastAt = s.dev.cyc ∧
        t.dev.ring.insertQ = s.dev.ring.insertQ ++ [x] ∧ x.type = 3 ∧ x.payload = leBytes 4 0 ∧
        Only [(O.SESSION_STATE, row)] [F.sess, F.ring] s.dev t.dev) ∧
    (4 ≤ s.dev.rd O.SESSION_ROLE row →
      ∃ t x, exec (.ringProve m) s = .next t ∧ t.dev.ring.insertQ = s.dev.ring.insertQ ++ [x] ∧ x.type = 3 ∧ x.dst = m.src ∧
        (s.dev.certGood row = true → t.dev.rd O.SESSION_STATE row = 2 ∧ x.payload = leBytes 4 0 ∧
          t.dev.rd O.DBG_CERT_SCOPE row = leNat (slice 40 4 (s.dev.certBytes row)) ∧
          t.dev.rd O.DBG_CERT_EXPIRES row = timeOf (s.dev.phc + leNat (slice 44 4 (s.dev.certBytes row)) * (1000000000 * 65536)) ∧
          Only [(O.SESSION_STATE, row), (O.DBG_CERT_SCOPE, row), (O.DBG_CERT_EXPIRES, row)] [F.sess, F.ring] s.dev t.dev) ∧
        (s.dev.certGood row = false → t.dev.rd O.SESSION_STATE row = 0 ∧ x.payload = leBytes 2 0xA402 ++ leBytes 2 0 ∧
          Only [(O.SESSION_STATE, row), (O.SESSION_ROLE, row), (O.SESSION_CA, row), (O.SESSION_ID, row),
            (O.SESSION_LAST_COUNTER, row)] [F.sess, F.ring] s.dev t.dev))) ∧
  (∀ m row s, s.dev.inRing = true → s.dev.forMe m = true → m.type = 7 → m.crc = crc32 (ringCovered m) → m.payload.length = 20 →
    s.dev.mode ≠ .boot → s.dev.mode ≠ .reset → s.dev.openingRow .ring (leNat (m.payload.take 4)) = some row →
    m.payload.drop 4 ≠ s.dev.proofWanted .ring row → EventRoom s.dev →
    ∃ t x, exec (.ringProve m) s = .next t ∧ t.dev.rd O.SESSION_STATE row = 0 ∧
      (3 ≤ (s.dev.failsOf .ring).length → t.dev.lockedOut .ring = true) ∧
      t.dev.ring.insertQ.getLast? = some x ∧ x.type = 3 ∧ x.dst = m.src ∧
      x.payload = leBytes 2 (if 4 ≤ s.dev.rd O.SESSION_ROLE row then 0xA402 else 0xA405) ++ leBytes 2 0 ∧
      Only [(O.SESSION_STATE, row), (O.SESSION_ROLE, row), (O.SESSION_CA, row), (O.SESSION_ID, row), (O.SESSION_LAST_COUNTER, row)]
        (F.proofFails :: F.lockoutUntil :: F.ring :: F.out :: F.pciePending :: noted) s.dev t.dev) ∧
  (∀ w p row s, s.dev.windowReady w = true → s.dev.mode ≠ .boot → p.length = 20 →
    s.dev.openingRow .pcie (leNat (p.take 4)) = some row → p.drop 4 = s.dev.proofWanted .pcie row →
    s.dev.rd O.SESSION_ROLE row < 4 →
    ∃ t, exec (.pcieWindowProve w p) s = .next t ∧ t.dev.rd O.SESSION_STATE row = 2 ∧
      t.dev.winOf w = ⟨0, 0, 20, 4, false, 0, []⟩ ∧
      Only [(O.SESSION_STATE, row)] [F.sess, F.pcieWindows, F.out, F.pciePending] s.dev t.dev) ∧
  (∀ row s, s.dev.mode ≠ .boot → s.dev.mode ≠ .reset → s.dev.openingRow .debug (leNat (s.dev.dapBytes 0 4)) = some row →
    s.dev.dapBytes 4 16 = s.dev.proofWanted .debug row → s.dev.rd O.SESSION_ROLE row < 4 ∨ s.dev.certGood row = true →
    ∃ t, exec .dapProve s = .next t ∧ t.dev.rd O.SESSION_STATE row = 2 ∧ t.dev.jtag.abort = 0 ∧
      Only [(O.SESSION_STATE, row), (O.DBG_CERT_SCOPE, row), (O.DBG_CERT_EXPIRES, row)] [F.sess, F.jtag, F.out] s.dev t.dev)

/-- R67: closing and expiry. -/
def Obligations.SessionsEnd : Prop :=
  (∀ r row s, AskedFree r O.SESSION_CLOSE row s.dev → s.dev.rd O.SESSION_STATE row ≠ 0 →
    ∃ t, exec (.sessionClose r row) s = .next t ∧ t.dev.rd O.SESSION_STATE row = 0 ∧ t.dev.rd O.SESSION_ID row = 0 ∧
      (s.dev.rd O.LOCK = s.dev.rd O.SESSION_ID row → t.dev.rd O.LOCK = 0) ∧
      (∀ g, g ≤ 16 → s.dev.rd O.GROUP_STATE g = 1 → s.dev.rd O.GROUP_OWNER g = s.dev.rd O.SESSION_ID row →
        t.dev.rd O.GROUP_STATE g = 0 ∧ t.dev.groupOf g = GroupX.empty) ∧
      (∀ n, n < 64 → s.dev.rd O.RING_SESSION n = s.dev.rd O.SESSION_ID row → s.dev.rd O.SESSION_ID row ≠ 0 →
        t.dev.rd O.RING_ENABLE n = 0 ∧ ((s.dev.dmaOf n).taken = [] → t.dev.rd O.RING_STATE n = 0)) ∧
      Result O.SESSION_CLOSE row 0 2 s.dev t.dev ∧ Answers r 0 t.dev ∧
      Only [(O.SESSION_CLOSE, row)] (closing ++ asked) s.dev t.dev) ∧
  (∀ w id row s, s.dev.windowReady w = true → s.dev.mode ≠ .boot → s.dev.openRow id = some row → rowTransport row = .pcie →
    ∃ t, exec (.pcieWindowClose w id) s = .next t ∧ t.dev.rd O.SESSION_STATE row = 0 ∧
      t.dev.winOf w = ⟨0, id, 0, 5, false, 0, []⟩ ∧ Only [] (F.pcieWindows :: closing) s.dev t.dev) ∧
  (∀ id row s, s.dev.mode ≠ .reset → s.dev.mode ≠ .boot → s.dev.openRow id = some row → rowTransport row = .debug →
    ∃ t, exec (.dapClose id) s = .next t ∧ t.dev.rd O.SESSION_STATE row = 0 ∧ t.dev.jtag.abort = 0 ∧
      Only [] (F.jtag :: closing) s.dev t.dev) ∧
  (∀ row s, s.dev.clockOn = true → s.dev.rd O.SESSION_STATE row = 2 → row ≤ 48 →
    ∃ t, exec (.sessionIdleExpiry row) s = .next t ∧ t.dev.rd O.SESSION_STATE row = 0 ∧
      t.dev.cyc = max s.dev.cyc ((s.dev.sessOf row).lastAt + msCycles (1000 * s.dev.rd O.RING_SESSION_IDLE_S)) ∧
      Only [] (closing ++ passing) s.dev t.dev) ∧
  (∀ row s, s.dev.clockOn = true → s.dev.rd O.SESSION_STATE row = 2 → s.dev.rd O.DBG_CERT_EXPIRES row ≠ 0 →
    ∃ t, exec (.debugSessionExpiry row) s = .next t ∧ t.dev.rd O.SESSION_STATE row = 0 ∧
      t.dev.cyc = max s.dev.cyc (s.dev.reach (ticksOf (s.dev.rd O.DBG_CERT_EXPIRES row))) ∧
      Only [] (closing ++ passing) s.dev t.dev) ∧
  (∀ row s, s.dev.clockOn = true → s.dev.rd O.SESSION_STATE row = 1 → EventRoom s.dev →
    ∃ t, exec (.proveTimeout row) s = .next t ∧ t.dev.rd O.SESSION_STATE row = 0 ∧
      t.dev.cyc = max s.dev.cyc (s.dev.sessOf row).openBy ∧
      (3 ≤ ((s.dev.passTo (s.dev.sessOf row).openBy).failsOf (rowTransport row)).length →
        t.dev.lockedOut (rowTransport row) = true) ∧
      (t.dev.sessOf row).timedOut = s.dev.rd O.SESSION_ID row ∧
      (rowTransport row = .ring → ∃ x, t.dev.ring.insertQ.getLast? = some x ∧ x.type = 3 ∧ x.dst = 0 ∧ x.session = 0 ∧
        x.payload = leBytes 2 0xA405 ++ leBytes 2 0) ∧
      Only [(O.SESSION_STATE, row), (O.SESSION_ROLE, row), (O.SESSION_CA, row), (O.SESSION_ID, row), (O.SESSION_LAST_COUNTER, row)]
        (F.proofFails :: F.lockoutUntil :: noted ++ passing) s.dev t.dev) ∧
  (∀ tr e s, s.dev.clockOn = true → s.dev.lockoutUntil.find? (fun e => decide (e.1 = tr)) = some e →
    ∃ t, exec (.proofLockoutEnd tr) s = .next t ∧ t.dev.lockedOut tr = false ∧ t.dev.cyc = max s.dev.cyc e.2 ∧
      Only [] (F.lockoutUntil :: passing) s.dev t.dev)

/-- R66 on the ring. -/
def Obligations.RingRequestsKeepTheirOrder : Prop :=
  (∀ (m : RingMsg) row (p : Piece) (s : State), s.dev.inRing = true → s.dev.forMe m = true → m.type = 2 → m.crc = crc32 (ringCovered m) →
    12 ≤ m.payload.length → m.payload.length ≤ 1024 → s.dev.sessionRow ⟨.ring, m.session⟩ = some row → ringTagged m = true →
    m.tag = ringTag m (s.dev.ksOf row) → s.dev.rd O.SESSION_LAST_COUNTER row < 0xFFFFFFFF →
    m.counter = s.dev.rd O.SESSION_LAST_COUNTER row + 1 → leNat (m.payload.take 1) = 2 →
    (addrOf (slice 4 8 m.payload)).group = 0 → Device.isCommand (addrOf (slice 4 8 m.payload)) = false →
    Passes ⟨.ring, m.session⟩ (addrOf (slice 4 8 m.payload)) (m.payload.drop 12)
      (s.dev.wr O.SESSION_LAST_COUNTER row m.counter) →
    Device.pieces (addrOf (slice 4 8 m.payload)) (m.payload.drop 12) = some [p] → p.e.obj ∉ moreThanStore → Quiet s.dev →
    ∃ t x, exec (.request m) s = .next t ∧ t.dev.rd p.e.obj p.row = storedValue p.e p.num ∧
      t.dev.rd O.SESSION_LAST_COUNTER row = m.counter ∧ (t.dev.sessOf row).cache = Device.responsePayload m (0, []) ∧
      t.dev.ring.insertQ = s.dev.ring.insertQ ++ [x] ∧ x.type = 3 ∧ x.dst = m.src ∧ x.counter = m.counter ∧
      x.payload = Device.responsePayload m (0, []) ∧
      Only [(p.e.obj, p.row), (O.SESSION_LAST_COUNTER, row)] (F.ring :: asked) s.dev t.dev) ∧
  (∀ m row s, s.dev.inRing = true → s.dev.forMe m = true → m.type = 2 → m.crc = crc32 (ringCovered m) → m.payload.length ≤ 1024 →
    s.dev.sessionRow ⟨.ring, m.session⟩ = some row → ringTagged m = true → m.tag = ringTag m (s.dev.ksOf row) →
    m.counter = s.dev.rd O.SESSION_LAST_COUNTER row → (s.dev.sessOf row).cache ≠ [] → s.dev.mode ≠ .reset →
    ∃ t x, exec (.request m) s = .next t ∧ t.dev.ring.insertQ = s.dev.ring.insertQ ++ [x] ∧ x.payload = (s.dev.sessOf row).cache ∧
      Only [] [F.ring, F.sess, F.lockRenewed] s.dev t.dev) ∧
  (∀ m row s, s.dev.inRing = true → s.dev.forMe m = true → m.type = 2 → m.crc = crc32 (ringCovered m) → m.payload.length ≤ 1024 →
    s.dev.sessionRow ⟨.ring, m.session⟩ = some row → (ringTagged m = false ∨ m.tag ≠ ringTag m (s.dev.ksOf row)) →
    ∃ t, exec (.request m) s = .next t ∧ t.dev.rd O.RING_TAG_ERRORS = (s.dev.rd O.RING_TAG_ERRORS + 1) % 2 ^ 64 ∧
      Only [(O.RING_TAG_ERRORS, 0)] [] s.dev t.dev) ∧
  (∀ m row s, s.dev.inRing = true → s.dev.forMe m = true → m.type = 2 → m.crc = crc32 (ringCovered m) → m.payload.length ≤ 1024 →
    s.dev.sessionRow ⟨.ring, m.session⟩ = some row → ringTagged m = true → m.tag = ringTag m (s.dev.ksOf row) →
    ¬ (s.dev.rd O.SESSION_LAST_COUNTER row = 0xFFFFFFFF ∧ m.counter = 0) →
    m.counter ≠ s.dev.rd O.SESSION_LAST_COUNTER row → m.counter ≠ s.dev.rd O.SESSION_LAST_COUNTER row + 1 →
    ∃ t, exec (.request m) s = .next t ∧ t.dev.rd O.RING_REPLAY_DROPS = (s.dev.rd O.RING_REPLAY_DROPS + 1) % 2 ^ 64 ∧
      Only [(O.RING_REPLAY_DROPS, 0)] [] s.dev t.dev) ∧
  (∀ m row s, s.dev.inRing = true → s.dev.forMe m = true → m.type = 2 → m.crc = crc32 (ringCovered m) → m.payload.length ≤ 1024 →
    s.dev.sessionRow ⟨.ring, m.session⟩ = some row → ringTagged m = true → m.tag = ringTag m (s.dev.ksOf row) →
    s.dev.rd O.SESSION_LAST_COUNTER row = 0xFFFFFFFF → m.counter = 0 →
    ∃ t, exec (.request m) s = .next t ∧ t.dev.rd O.SESSION_STATE row = 0 ∧ Only [] closing s.dev t.dev)

namespace Sys2Proof.Machine

/-! ### Dictionary requests (R30 to R48, R70, R77) -/

/-- The commands of MODE_CMD, SLICE_CMD, PORT_RECAL_CMD, PHC_CMD and the rest that a 4-byte argument starts (R36): the
object, the argument, and the row of the table that the write is. -/
def startedBy : List (Nat × Nat × (Req → Nat → Instr)) :=
  [(O.LOCK_BREAK, 1, fun r _ => .lockBreak r), (O.GROUP_CMD, 1, .groupOpen), (O.GROUP_CMD, 2, .commitNow),
   (O.GROUP_CMD, 3, .commitAt), (O.GROUP_CMD, 4, .groupCancel), (O.GROUP_CMD, 5, .groupRelease),
   (O.SESSION_CLOSE, 1, .sessionClose), (O.MODE_CMD, 1, fun r _ => .goRun r), (O.MODE_CMD, 2, fun r _ => .goStage r),
   (O.MODE_CMD, 3, fun r _ => .goDrain r), (O.MODE_CMD, 4, fun r _ => .resumeRun r), (O.MODE_CMD, 5, fun r _ => .modeCmdReset r),
   (O.SLICE_CMD, 1, .takeOut), (O.SLICE_CMD, 2, .gate), (O.SLICE_CMD, 3, .sliceReturn),
   (O.PORT_RECAL_CMD, 1, .portRecalArm), (O.PORT_RECAL_CMD, 2, .portRecalCancel), (O.PHC_CMD, 1, fun r _ => .phcSet r),
   (O.PHC_CMD, 2, fun r _ => .phcStep r), (O.PHC_CMD, 3, fun r _ => .phcSlew r), (O.PHC_CMD, 4, fun r _ => .phcSlewStop r),
   (O.TS_CAL_CMD, 1, .tsCalCmd)] ++
  [(O.PARSER_CMD, 1, .parserLoadA), (O.PARSER_CMD, 2, .parserLoadB), (O.PARSER_CMD, 3, .parserArm),
   (O.PARSER_CMD, 4, .parserCancel), (O.SA_CMD, 1, .saProvision), (O.SA_CMD, 2, .saLoad), (O.SA_CMD, 3, .saArm),
   (O.SA_CMD, 4, .saCancel), (O.SA_CMD, 5, .saRetire), (O.SA_CMD, 6, .saUnload), (O.SA_CMD, 7, .saRelease),
   (O.CLS_CMD, 1, .clsWrite), (O.CLS_CMD, 2, .clsDelete), (O.CLS_CMD, 3, .clsRead), (O.LEARN_FLUSH, 1, .learnFlush),
   (O.VAULT_CMD, 1, .vaultImport), (O.VAULT_CMD, 2, .vaultDerive), (O.VAULT_CMD, 3, .deriveSuccessor),
   (O.VAULT_CMD, 4, .zeroizeSlot), (O.VAULT_CMD, 5, .zeroizeTenant), (O.VAULT_CMD, 6, .zeroizeAll)] ++
  [(O.MEM_CH_CMD, 1, .memChRetire), (O.MEM_WIN_CMD, 1, .memWinRead), (O.MEM_WIN_CMD, 2, .memWinWrite),
   (O.MEM_WIN_CMD, 3, .readCiphertext), (O.MEM_WIN_CMD, 4, .memReinit), (O.LC_CMD, 1, fun r _ => .sealTest r),
   (O.LC_CMD, 2, fun r _ => .lcUnlock r), (O.LC_CMD, 3, fun r _ => .personalize r), (O.LC_CMD, 4, fun r _ => .takeOwnership r),
   (O.LC_CMD, 5, fun r _ => .lcReturn r), (O.LC_CMD, 6, fun r _ => .scrap r), (O.LC_CMD, 7, fun r _ => .rmaUnlock r),
   (O.FW_CMD, 1, fun r _ => .fwErase r), (O.FW_CMD, 2, fun r _ => .fwWrite r), (O.FW_CMD, 3, fun r _ => .fwVerify r),
   (O.FW_CMD, 4, fun r _ => .fwPrefer r), (O.FW_CMD, 5, fun r _ => .activateReset r), (O.FW_CMD, 6, fun r _ => .activateHot r),
   (O.FW_CMD, 7, fun r _ => .fwDiscard r), (O.FW_CMD, 8, fun r _ => .commitVersion r), (O.ATT_BUILD_TOP, 1, fun r _ => .attBuildTop r),
   (O.ATT_CMD, 1, .attSign), (O.FLT_SRC_ACK, 1, .fltSrcAck), (O.FLT_ACK_ALL, 1, fun r _ => .fltAckAll r)]

end Sys2Proof.Machine

/-- R35 and R36: commands are writes. -/
def Obligations.ArgumentsStartCommands : Prop :=
  (∀ e ∈ startedBy, ∀ r row s, (indexTable (e.1 / 256) = false → row = 0) →
    exec (.dictWrite r (directAddr e.1 row) (leBytes 4 e.2.1)) s = exec (e.2.2 r row) s) ∧
  (∀ r m row s, row < 2 ^ 32 → exec (.dictWrite r (directAddr O.SRAM_SPARE_CMD m) (leBytes 4 row)) s = exec (.sramSpareCmd r m row) s) ∧
  (∀ r b core s, core ≤ 8 → exec (.dictWrite r (directAddr O.BANK_CMD b) (leBytes 4 (16 + core))) s = exec (.bankRetire r b core) s) ∧
  (∀ r s, exec (.dictWrite r (directAddr O.LOCK 0) (leBytes 4 1)) s = exec (.lockClaim r) s ∧
    exec (.dictWrite r (directAddr O.LOCK 0) (leBytes 4 0)) s = exec (.lockRelease r) s) ∧
  (∀ r n s, exec (.dictWrite r (directAddr O.RING_ENABLE n) (leBytes 1 1)) s = exec (.ringEnableSet r n) s ∧
    exec (.dictWrite r (directAddr O.RING_ENABLE n) (leBytes 1 0)) s = exec (.ringEnableClear r n) s) ∧
  (∀ r (v : Int) s, exec (.dictWrite r (directAddr O.PHC_FREQ_ADJ 0) (leBytes 8 (toTwos 64 v))) s = exec (.phcFreqAdjWrite r v) s)

/-- R43 and R47. -/
def Obligations.WritesStoreOrAreRefused : Prop :=
  (∀ r a v (ps : List Piece) (s : State), Passes r a v s.dev → a.group = 0 → Device.isCommand a = false → Device.pieces a v = some ps →
    (∀ p ∈ ps, p.e.obj ∉ moreThanStore) → Quiet s.dev →
    ∃ t, exec (.dictWrite r a v) s = .next t ∧
      (∀ l p m, ps = l ++ p :: m → (∀ q ∈ m, q.e.obj ≠ p.e.obj) → t.dev.rd p.e.obj p.row = storedValue p.e p.num) ∧
      Answers r 0 t.dev ∧ Only (ps.map (fun p => (p.e.obj, p.row))) asked s.dev t.dev) ∧
  (∀ r a v s, s.dev.mode ≠ .reset → s.dev.mode ≠ .boot → a.group = 0 → Device.isCommand a = false → (s.dev.accept r).writeCheck r a v .direct none ≠ 0 →
    ∃ t, exec (.dictWrite r a v) s = .next t ∧ Answers r ((s.dev.accept r).writeCheck r a v .direct none) t.dev ∧
      Only [] asked s.dev t.dev) ∧
  (∀ r a v s, s.dev.mode ≠ .reset → s.dev.mode ≠ .boot → a.group ≠ 0 → (s.dev.accept r).writeCheck r a v .shadow none = 0 →
    ∃ t, exec (.groupShadowWrite r a v) s = .next t ∧
      (t.dev.groupOf a.group).shadow = (s.dev.groupOf a.group).shadow.filter (fun w => !Device.replaced a w) ++ [⟨a, v⟩] ∧
      (t.dev.groupOf a.group).entry = (s.dev.groupOf a.group).entry ∧
      t.dev.rd O.GROUP_WRITES a.group = (t.dev.groupOf a.group).shadow.length ∧ Answers r 0 t.dev ∧
      Only [(O.GROUP_WRITES, a.group)] (F.groups :: asked) s.dev t.dev)

namespace Sys2Proof.Machine

/-- A read of one subindex that every check of R40 lets through, of an object that lies in the device, that no reading
changes and that nothing measures. -/
def PlainRead (r : Req) (a : AddrBlock) (e : Desc) (d : Device) : Prop :=
  d.mode ≠ .reset ∧ d.mode ≠ .boot ∧ (d.accept r).readCheck r a = 0 ∧ a.whole = false ∧ subDesc a.index a.sub = some e ∧
  d.lineOf e.obj a.row = none ∧ d.measures e.obj a.row = false ∧ e.ty.size ≤ 1012 ∧
  e.obj ∉ [O.PMC_VALUE, O.PMC_SAMPLE_DATA, O.PHC_SLEW_REMAINING]

end Sys2Proof.Machine

/-- R70, R77 and R395. -/
def Obligations.WindowsAndDebugPortCarryRequests : Prop :=
  (∀ w id a e s, s.dev.windowReady w = true → PlainRead ⟨.pcie, id⟩ a e s.dev →
    ∃ t, exec (.pcieWindowRead w id a) s = .next t ∧
      (t.dev.winOf w).busy = false ∧ (t.dev.winOf w).abort = 0 ∧ (t.dev.winOf w).value = leBytes e.ty.size (s.dev.readValue e.obj a.row) ∧
      Only [] (F.pcieWindows :: asked) s.dev t.dev) ∧
  (∀ w id a v (p : Piece) (s : State), s.dev.windowReady w = true → s.dev.mode ≠ .boot → v.length ≤ 4032 →
    Passes ⟨.pcie, id⟩ a v s.dev → a.group = 0 → Device.isCommand a = false → Device.pieces a v = some [p] →
    p.e.obj ∉ moreThanStore → Quiet s.dev →
    ∃ t, exec (.pcieWindowWrite w id a v) s = .next t ∧ t.dev.rd p.e.obj p.row = storedValue p.e p.num ∧
      (t.dev.winOf w).busy = false ∧ (t.dev.winOf w).abort = 0 ∧ (t.dev.winOf w).value = [] ∧
      Only [(p.e.obj, p.row)] (F.pcieWindows :: asked) s.dev t.dev) ∧
  (∀ id a e s, PlainRead ⟨.debug, id⟩ a e s.dev →
    ∃ t, exec (.dapRead id a) s = .next t ∧ t.dev.jtag.abort = 0 ∧
      t.dev.dapBytes 0 e.ty.size = leBytes e.ty.size (s.dev.readValue e.obj a.row) ∧
      (∀ i, e.ty.size ≤ i → natAt t.dev.jtag.buf i = natAt s.dev.jtag.buf i) ∧ Only [] (F.jtag :: asked) s.dev t.dev) ∧
  (∀ id a n (p : Piece) (s : State), s.dev.mode ≠ .boot → n ≤ 4032 → Passes ⟨.debug, id⟩ a (s.dev.dapBytes 0 n) s.dev →
    a.group = 0 → Device.isCommand a = false → Device.pieces a (s.dev.dapBytes 0 n) = some [p] → p.e.obj ∉ moreThanStore → Quiet s.dev →
    ∃ t, exec (.dapWrite id a n) s = .next t ∧ t.dev.rd p.e.obj p.row = storedValue p.e p.num ∧ t.dev.jtag.abort = 0 ∧
      t.dev.jtag.buf = s.dev.jtag.buf ∧ Only [(p.e.obj, p.row)] (F.jtag :: asked) s.dev t.dev) ∧
  (∀ r row s, s.dev.mode ≠ .reset → s.dev.mode ≠ .boot → (s.dev.accept r).readCheck r (directAddr O.PMC_VALUE row) = 0 →
    ∃ t, exec (.pmcValueRead r row) s = .next t ∧
      t.dev.out.getLast? = some (.resp r.master r.session 0 (leBytes 8 (s.dev.readValue O.PMC_VALUE row))) ∧
      (row % 2 = 0 → s.dev.rdB O.PMC_CHAIN row = true → t.dev.rd O.PMC_PAIR_HIGH row = s.dev.readValue O.PMC_VALUE (row + 1)) ∧
      Only [(O.PMC_PAIR_HIGH, row)] asked s.dev t.dev)

/-- R76 and R77. -/
def Obligations.JtagShiftsAndKeepsItsBuffer : Prop :=
  (∀ s, ∃ t, exec .bypass s = .next t ∧ t.dev.jtag = { s.dev.jtag with tap := .bypass } ∧ Only [] [F.jtag] s.dev t.dev) ∧
  (∀ s, ∃ t, exec .idcode s = .next t ∧ t.dev.jtag = { s.dev.jtag with tap := .idcode } ∧
    t.dev.out = s.dev.out ++ [.tapOut s.dev.idcodeValue] ∧ Only [] [F.jtag, F.out] s.dev t.dev) ∧
  (∀ c s, ∃ t, exec (.samplePreload c) s = .next t ∧ t.dev.jtag = { s.dev.jtag with tap := .sample, chain := c } ∧
    Only [] [F.jtag, F.out, F.draws] s.dev t.dev) ∧
  (∀ c s, (s.dev.mode = .reset → ∃ t, exec (.extest c) s = .next t ∧ t.dev.jtag = { s.dev.jtag with tap := .extest, chain := c } ∧
      t.dev.out.getLast? = some (.boundary c) ∧ Only [] [F.jtag, F.out, F.draws] s.dev t.dev) ∧
    (s.dev.mode ≠ .reset → exec (.extest c) s = exec .bypass s)) ∧
  (∀ o v s, s.dev.mode ≠ .reset → Device.dapOffsetOk o = true →
    ∃ t, exec (.valueIn o v) s = .next t ∧ t.dev.dapBytes o 4 = leBytes 4 v ∧
      (∀ i, i < o ∨ o + 4 ≤ i → natAt t.dev.jtag.buf i = natAt s.dev.jtag.buf i) ∧ t.dev.jtag.abort = s.dev.jtag.abort ∧
      t.dev.out = s.dev.out ++ [.tapOut s.dev.jtag.dr] ∧ Only [] [F.jtag, F.out] s.dev t.dev) ∧
  (∀ o v s, s.dev.mode ≠ .reset → Device.dapOffsetOk o = false →
    ∃ t, exec (.valueIn o v) s = .next t ∧ t.dev.jtag.buf = s.dev.jtag.buf ∧ t.dev.jtag.abort = 0xA101 ∧
      Only [] [F.jtag, F.out] s.dev t.dev) ∧
  (∀ o s, s.dev.mode ≠ .reset → Device.dapOffsetOk o = true →
    ∃ t, exec (.valueOut o) s = .next t ∧ t.dev.jtag.dr = Device.dapWord 0 (leNat (s.dev.dapBytes o 4)) 4 o ∧
      t.dev.jtag.buf = s.dev.jtag.buf ∧ t.dev.out = s.dev.out ++ [.tapOut s.dev.jtag.dr] ∧ Only [] [F.jtag, F.out] s.dev t.dev) ∧
  (∀ o s, s.dev.mode ≠ .reset → Device.dapOffsetOk o = false →
    ∃ t, exec (.valueOut o) s = .next t ∧ t.dev.jtag.buf = s.dev.jtag.buf ∧ t.dev.jtag.abort = 0xA101 ∧
      Only [] [F.jtag, F.out] s.dev t.dev) ∧
  (∀ s, s.dev.mode ≠ .reset →
    ∃ t, exec .dapStatus s = .next t ∧
      t.dev.jtag = { s.dev.jtag with tap := .dapAccess, dr := if s.dev.mode = .boot then 0xA303 else s.dev.jtag.abort } ∧
      t.dev.out = s.dev.out ++ [.tapOut s.dev.jtag.dr] ∧ Only [] [F.jtag, F.out] s.dev t.dev)

/-! ### The PCIe host port (R68 to R75) -/

/-- R72 and R74. That a stop clears RING_ENABLE is the model's choice (log entry 6). -/
def Obligations.RingsStartAndStop : Prop :=
  (∀ r n s, Passes r (directAddr O.RING_ENABLE n) (leBytes 1 1) s.dev → s.dev.rd O.RING_STATE n ≠ 1 → Quiet s.dev →
    ∃ t, exec (.ringEnableSet r n) s = .next t ∧ t.dev.rd O.RING_ENABLE n = 1 ∧ t.dev.rd O.RING_STATE n = 1 ∧
      t.dev.rd O.RING_HEAD n = 0 ∧ t.dev.rd O.RING_TAIL n = 0 ∧
      t.dev.dmaOf n = ⟨(s.dev.dmaOf n).unsignalled, (s.dev.dmaOf n).oldest, [], [], false⟩ ∧ Answers r 0 t.dev ∧
      Only [(O.RING_ENABLE, n), (O.RING_STATE, n), (O.RING_HEAD, n), (O.RING_TAIL, n)] (F.pcieDma :: asked) s.dev t.dev) ∧
  (∀ r n s, Passes r (directAddr O.RING_ENABLE n) (leBytes 1 0) s.dev → s.dev.rd O.RING_STATE n ≠ 0 →
    s.dev.rd O.RING_ENABLE n ≠ 0 → (s.dev.dmaOf n).taken = [] → Quiet s.dev →
    ∃ t, exec (.ringEnableClear r n) s = .next t ∧ t.dev.rd O.RING_ENABLE n = 0 ∧ t.dev.rd O.RING_STATE n = 0 ∧
      t.dev.rd O.RING_HEAD n = 0 ∧ t.dev.rd O.RING_TAIL n = 0 ∧ (t.dev.dmaOf n).events = [] ∧
      (s.dev.rd O.RING_REJECTED n < 2 ^ 64 → t.dev.rd O.RING_REJECTED n =
        (s.dev.rd O.RING_REJECTED n + (s.dev.rd O.RING_TAIL n + s.dev.rd O.RING_SIZE n - s.dev.rd O.RING_HEAD n) %
          s.dev.rd O.RING_SIZE n) % 2 ^ 64) ∧ Answers r 0 t.dev ∧
      Only [(O.RING_ENABLE, n), (O.RING_STATE, n), (O.RING_HEAD, n), (O.RING_TAIL, n), (O.RING_REJECTED, n)] (F.pcieDma :: asked)
        s.dev t.dev) ∧
  (∀ r n s, Passes r (directAddr O.RING_ENABLE n) (leBytes 1 0) s.dev → s.dev.rd O.RING_STATE n ≠ 0 →
    s.dev.rd O.RING_ENABLE n ≠ 0 → (s.dev.dmaOf n).taken ≠ [] → Quiet s.dev →
    ∃ t, exec (.ringEnableClear r n) s = .next t ∧ t.dev.rd O.RING_ENABLE n = 0 ∧
      t.dev.dmaOf n = { s.dev.dmaOf n with stopping := true } ∧ t.dev.ringReady n = false ∧ Answers r 0 t.dev ∧
      Only [(O.RING_ENABLE, n)] (F.pcieDma :: asked) s.dev t.dev) ∧
  (∀ n tail s, s.dev.mode ≠ .reset → n < 64 → s.dev.rd O.RING_STATE n = 1 → tail < s.dev.rd O.RING_SIZE n →
    ∃ t, exec (.doorbell n tail) s = .next t ∧ t.dev.rd O.RING_TAIL n = tail ∧ Only [(O.RING_TAIL, n)] [] s.dev t.dev) ∧
  (∀ n tail s, (64 ≤ n ∨ s.dev.rd O.RING_STATE n ≠ 1 ∨ s.dev.rd O.RING_SIZE n ≤ tail) → exec (.doorbell n tail) s = .next s)

/-- R73 and R74. -/
def Obligations.DescriptorsAreCompleted : Prop :=
  (∀ x n s, s.dev.mode ≠ .reset → s.dev.turnRing = some n → s.dev.rd O.RING_KIND n = 0 →
    (s.dev.dmaOf n).taken = [] →
    ∃ t l, exec (.dmaDescriptorProcess x) s = .next t ∧
      t.dev.rd O.RING_HEAD n = (s.dev.rd O.RING_HEAD n + 1) % s.dev.rd O.RING_SIZE n ∧
      t.dev.out = s.dev.out ++ .completion n (if s.dev.descCheck n x ≠ 0 then s.dev.descCheck n x else if x.pcieError then 3 else 0)
        0 (fit 16 x.kind) :: l ∧
      t.dev.rd O.RING_COMPLETED n = (if s.dev.descCheck n x = 0 ∧ x.pcieError = false then (s.dev.rd O.RING_COMPLETED n + 1) % 2 ^ 64
        else s.dev.rd O.RING_COMPLETED n) ∧
      t.dev.rd O.RING_REJECTED n = (if s.dev.descCheck n x = 0 ∧ x.pcieError = false then s.dev.rd O.RING_REJECTED n
        else (s.dev.rd O.RING_REJECTED n + 1) % 2 ^ 64) ∧ t.dev.pcie.lastServed = n ∧
      Only [(O.RING_HEAD, n), (O.RING_COMPLETED, n), (O.RING_REJECTED, n)]
        [O.PMC_VALUE, O.PMC_STATUS, F.pmc, F.out, F.pcieDma, F.pcieServed, F.pciePending] s.dev t.dev) ∧
  (∀ x n f s, s.dev.mode ≠ .reset → s.dev.turnRing = some n → s.dev.rd O.RING_KIND n = 1 → s.dev.puntWaiting n = some f →
    exec (.dmaDescriptorProcess x) s = exec (.puntDeliver f.id x) s) ∧
  (∀ x n s, s.dev.mode ≠ .reset → s.dev.turnRing = some n → s.dev.rd O.RING_KIND n = 4 →
    exec (.dmaDescriptorProcess x) s = exec (.eventRingDeliver n x) s) ∧
  (∀ n s, s.dev.clockOn = true → s.dev.mode ≠ .reset → (s.dev.dmaOf n).unsignalled ≠ 0 → s.dev.rd O.RING_IRQ_NS n ≠ 0 →
    s.dev.rd O.RING_VECTOR n < 64 →
    ∃ t, exec (.dmaIrqTimer n) s = .next t ∧ (t.dev.dmaOf n).unsignalled = 0 ∧ (t.dev.dmaOf n).events = (s.dev.dmaOf n).events ∧
      t.dev.cyc = max s.dev.cyc ((s.dev.dmaOf n).oldest + nsCycles (s.dev.rd O.RING_IRQ_NS n)) ∧
      (s.dev.msixLive (s.dev.rd O.RING_VECTOR n) = true → t.dev.out.getLast? = some (.msix (s.dev.rd O.RING_VECTOR n)
        (s.dev.vectorOf (s.dev.rd O.RING_VECTOR n) % 2 ^ 64) (s.dev.vectorOf (s.dev.rd O.RING_VECTOR n) / 2 ^ 64 % 2 ^ 32))) ∧
      (s.dev.msixLive (s.dev.rd O.RING_VECTOR n) = false → t.dev.pcie.pendBits.testBit (s.dev.rd O.RING_VECTOR n) = true) ∧
      Only [] (F.pcieDma :: passing) s.dev t.dev)

namespace Sys2Proof.Machine

/-- No interrupt that may be sent is pending: it would have been sent when it became so (R75). -/
def Settled (d : Device) : Prop := ∀ e, e < 64 → d.pcie.pendBits.testBit e = true → d.msixLive e = false

end Sys2Proof.Machine

/-- R68 and R75; what MSI-X does beyond R75 is presumed (log entry 8). -/
def Obligations.HostPortLinksAndResets : Prop :=
  (∀ w sp s, s.dev.mode ≠ .reset → 1 ≤ w → w ≤ 4 → 1 ≤ sp → sp ≤ 5 →
    ∃ t, exec (.pcieLinkUp w sp) s = .next t ∧ t.dev.rd O.PCIE_LINK_WIDTH = w ∧ t.dev.rd O.PCIE_LINK_SPEED = sp ∧
      Only [(O.PCIE_LINK_WIDTH, 0), (O.PCIE_LINK_SPEED, 0)] [] s.dev t.dev) ∧
  (∀ c s, s.dev.mode ≠ .reset →
    ∃ t, exec (.pciePortReset c) s = .next t ∧ (∀ row, 33 ≤ row → row ≤ 48 → t.dev.rd O.SESSION_STATE row = 0) ∧
      (∀ n, n < 64 → t.dev.rd O.RING_STATE n = 0 ∧ t.dev.rd O.RING_ENABLE n = 0) ∧ (∀ w, t.dev.winOf w = WinReg.empty) ∧
      (∀ e, e < 64 → t.dev.pcie.masked.testBit e = true ∧ t.dev.vectorOf e = 0) ∧ t.dev.pcie.pendBits = 0 ∧
      t.dev.pcie.msixOn = false ∧ t.dev.la.jobs = [] ∧
      t.dev.rd O.LA_CONTEXTS_BUSY = 0 ∧
      t.dev.rd O.PCIE_LINK_WIDTH = (if c = .flr then s.dev.rd O.PCIE_LINK_WIDTH else 0) ∧
      t.dev.rd O.PCIE_LINK_SPEED = (if c = .flr then s.dev.rd O.PCIE_LINK_SPEED else 0) ∧
      Only [(O.LA_CONTEXTS_BUSY, 0), (O.PCIE_LINK_WIDTH, 0), (O.PCIE_LINK_SPEED, 0)]
        (O.VAULT_CMD :: F.pcieWindows :: F.pcieMasked :: F.pcieVectors :: F.pcieMsixOn :: F.pcieFuncMask :: F.la :: closing) s.dev t.dev) ∧
  (∀ e a v s, s.dev.mode ≠ .reset → e < 64 → a < 2 ^ 64 → v < 2 ^ 32 → s.dev.pcie.msixOn = true → s.dev.pcie.funcMask = false →
    Settled s.dev →
    ∃ t, exec (.msixUnmask (.entry e a v false)) s = .next t ∧ t.dev.pcie.masked.testBit e = false ∧
      t.dev.pcie.pendBits.testBit e = false ∧ (∀ k, k ≠ e → t.dev.pcie.masked.testBit k = s.dev.pcie.masked.testBit k ∧
        t.dev.pcie.pendBits.testBit k = s.dev.pcie.pendBits.testBit k ∧ t.dev.vectorOf k = s.dev.vectorOf k) ∧
      t.dev.out = s.dev.out ++ (if s.dev.pcie.pendBits.testBit e then [.msix e a v] else []) ∧
      Only [] [F.pcieMasked, F.pciePending, F.pcieVectors, F.out] s.dev t.dev) ∧
  (∀ e a v s, s.dev.mode ≠ .reset → e < 64 → Settled s.dev →
    ∃ t, exec (.msixUnmask (.entry e a v true)) s = .next t ∧ t.dev.pcie.masked.testBit e = true ∧
      t.dev.pcie.pendBits = s.dev.pcie.pendBits ∧ Only [] [F.pcieMasked, F.pcieVectors] s.dev t.dev) ∧
  (∀ on fm s, s.dev.mode ≠ .reset →
    ∃ t, exec (.msixUnmask (.control on fm)) s = .next t ∧ t.dev.pcie.msixOn = on ∧ t.dev.pcie.funcMask = fm ∧
      (∀ e, e < 64 → t.dev.pcie.pendBits.testBit e =
        (s.dev.pcie.pendBits.testBit e && !(on && !fm && !s.dev.pcie.masked.testBit e))) ∧
      (∀ e, e < 64 → s.dev.pcie.pendBits.testBit e = true → on = true → fm = false → s.dev.pcie.masked.testBit e = false →
        .msix e (s.dev.vectorOf e % 2 ^ 64) (s.dev.vectorOf e / 2 ^ 64 % 2 ^ 32) ∈ t.dev.out) ∧
      Only [] [F.pcieMsixOn, F.pcieFuncMask, F.pciePending, F.out] s.dev t.dev)

namespace Sys2Proof.Machine

/-! ### Operating modes (R78 to R86) -/

/-- Mode `m` has been entered by a command or event of cause `c` (R79). -/
def entered (m : Mode) (code c : Nat) (b : Device) : Prop :=
  b.mode = m ∧ b.rd O.MODE = code ∧ b.rd O.MODE_CAUSE = c ∧ b.rd O.MODE_ENTERED_AT = b.phcTime

/-- The objects that a change of mode writes. -/
def modeRows : List (Nat × Nat) := [(O.MODE, 0), (O.MODE_CAUSE, 0), (O.MODE_ENTERED_AT, 0), (O.MODE_CMD, 0)]

end Sys2Proof.Machine

/-- R80 to R83. -/
def Obligations.ModeCommandsChangeTheMode : Prop :=
  (∀ r s, Asked r O.MODE_CMD 0 s.dev → s.dev.mode = .stage → s.dev.rd O.BOOT_STATUS = 0 → s.dev.trafficAllowed = true →
    ∃ t, exec (.goRun r) s = .next t ∧ entered .run 3 2 t.dev ∧ Result O.MODE_CMD 0 0 2 s.dev t.dev ∧ Answers r 0 t.dev ∧
      Only modeRows (F.mode :: traffic ++ asked) s.dev t.dev) ∧
  (∀ r s, Asked r O.MODE_CMD 0 s.dev → (s.dev.mode = .run ∨ s.dev.mode = .drain) → EventRoom s.dev →
    ∃ t, exec (.goStage r) s = .next t ∧ entered .stage 2 2 t.dev ∧ t.dev.pipe.frames = [] ∧
      (∀ e, s.dev.drainEntry = some e → s.dev.gunDue e = false → t.dev.rd O.GUN_STATE e = 4 ∧ t.dev.rd O.GUN_OWNER e = 0) ∧
      t.dev.rd O.DRAIN_DISCARDED = (s.dev.rd O.DRAIN_DISCARDED + s.dev.pipe.frames.length) % 2 ^ 64 ∧
      Result O.MODE_CMD 0 0 2 s.dev t.dev ∧ Answers r 0 t.dev ∧
      Only ((O.DRAIN_DISCARDED, 0) :: modeRows) (F.mode :: O.GUN_STATE :: O.GUN_FLAGS :: O.GUN_OWNER :: announced ++ traffic ++ asked) s.dev t.dev) ∧
  (∀ r s, Asked r O.MODE_CMD 0 s.dev → s.dev.mode = .safe → s.dev.rd O.FLT_FATAL_SINCE_BOOT = 0 → s.dev.rd O.FLT_STATUS = 0 →
    ∃ t, exec (.goStage r) s = .next t ∧ entered .stage 2 2 t.dev ∧ Result O.MODE_CMD 0 0 2 s.dev t.dev ∧ Answers r 0 t.dev ∧
      Only modeRows (F.mode :: asked) s.dev t.dev) ∧
  (∀ r e s, Asked r O.MODE_CMD 0 s.dev → s.dev.mode = .drain → s.dev.drainArmed = some e → EventRoom s.dev →
    ∃ t, exec (.resumeRun r) s = .next t ∧ entered .run 3 2 t.dev ∧ t.dev.rd O.GUN_STATE e = 4 ∧ t.dev.rd O.GUN_OWNER e = 0 ∧
      Result O.MODE_CMD 0 0 2 s.dev t.dev ∧ Answers r 0 t.dev ∧
      Only ((O.GUN_STATE, e) :: (O.GUN_OWNER, e) :: modeRows) (F.mode :: announced ++ asked) s.dev t.dev)

/-- R82, whole. -/
def Obligations.DrainTakesOneEntry : Prop :=
  (∀ r e s, Asked r O.MODE_CMD 0 s.dev → s.dev.mode = .run → s.dev.drainEntry = none →
    (s.dev.gunPast (s.dev.rd O.DRAIN_GUN_TIME) = false ∨ s.dev.rdB O.DRAIN_LATE_OK = true) → s.dev.gunPool 7 = some e →
    ∃ t, exec (.goDrain r) s = .next t ∧ entered .drain 4 2 t.dev ∧ t.dev.rd O.GUN_STATE e = 1 ∧ t.dev.rd O.GUN_OWNER e = 7 ∧
      t.dev.rd O.GUN_TIME e = s.dev.rd O.DRAIN_GUN_TIME ∧ 772 ≤ e ∧ e < 1024 ∧ t.dev.rd O.GUN_TAG e = 0 ∧
      Result O.MODE_CMD 0 0 2 s.dev t.dev ∧ Answers r 0 t.dev ∧
      Only ((O.GUN_STATE, e) :: (O.GUN_OWNER, e) :: (O.GUN_TARGET_ROW, e) :: (O.GUN_TIME, e) :: (O.GUN_SEQ, e) :: (O.GUN_TAG, e) ::
        (O.GUN_TARGET_CYCLE, e) :: (O.GUN_FIRED_AT, e) :: (O.GUN_FLAGS, e) :: modeRows) (F.mode :: F.guns :: F.gunSeq :: asked)
        s.dev t.dev) ∧
  (∀ r s, Asked r O.MODE_CMD 0 s.dev → s.dev.mode = .run → s.dev.drainEntry = none →
    (s.dev.gunPast (s.dev.rd O.DRAIN_GUN_TIME) = false ∨ s.dev.rdB O.DRAIN_LATE_OK = true) → s.dev.gunPool 7 = none →
    ∃ t, exec (.goDrain r) s = .next t ∧ Answers r 0xA205 t.dev ∧ t.dev.mode = .run ∧ Only [] asked s.dev t.dev) ∧
  (∀ r s, Asked r O.MODE_CMD 0 s.dev → s.dev.mode = .run → s.dev.gunPast (s.dev.rd O.DRAIN_GUN_TIME) = true →
    s.dev.rdB O.DRAIN_LATE_OK = false →
    ∃ t, exec (.goDrain r) s = .next t ∧ Answers r 0xA306 t.dev ∧ t.dev.mode = .run ∧ Only [] asked s.dev t.dev) ∧
  (∀ r v e s, s.dev.mode ≠ .reset → s.dev.drainEntry = some e → s.dev.whoCheck r (directAddr O.DRAIN_GUN_TIME 0) false = 0 →
    s.dev.notServed O.DRAIN_GUN_TIME = false →
    ∃ t, exec (.dictWrite r (directAddr O.DRAIN_GUN_TIME 0) v) s = .next t ∧ Answers r 0xA304 t.dev ∧
      t.dev.rd O.DRAIN_GUN_TIME = s.dev.rd O.DRAIN_GUN_TIME ∧ Only [] asked s.dev t.dev)

/-- R83. -/
def Obligations.DrainEndsInStage : Prop :=
  (∀ s, s.dev.mode = .drain → s.dev.drainEntry = none → s.dev.pipe.frames = [] →
    ∃ t, exec .drainFlushComplete s = .next t ∧ entered .stage 2 5 t.dev ∧ t.dev.pipe.frames = [] ∧
      Only ((O.DRAIN_DISCARDED, 0) :: modeRows) (F.mode :: traffic) s.dev t.dev) ∧
  (∀ s, s.dev.clockOn = true → s.dev.mode = .drain → s.dev.drainEntry = none →
    ∃ t, exec .drainFlushExpiry s = .next t ∧ entered .stage 2 5 t.dev ∧ t.dev.pipe.frames = [] ∧
      t.dev.cyc = max s.dev.cyc (s.dev.drainAt + usCycles (s.dev.rd O.DRAIN_FLUSH_US)) ∧
      t.dev.rd O.DRAIN_DISCARDED = (s.dev.rd O.DRAIN_DISCARDED + s.dev.pipe.frames.length) % 2 ^ 64 ∧
      Only ((O.DRAIN_DISCARDED, 0) :: modeRows) (F.mode :: traffic ++ passing) s.dev t.dev) ∧
  (∀ e s, s.dev.clockOn = true → s.dev.gunLive e = true → s.dev.gunFirst e = true → s.dev.rd O.GUN_OWNER e = 7 →
    s.dev.mode = .drain → EventRoom s.dev →
    ∃ t, exec (.gunFire e) s = .next t ∧ t.dev.mode = .drain ∧ t.dev.rd O.GUN_STATE e = 3 ∧ t.dev.rd O.GUN_OWNER e = 0 ∧ t.dev.drainAt = t.dev.cyc ∧
      (∀ p ∈ s.dev.allPorts, s.dev.portEnabled p = true → (natAt (t.dev.portOf p).holds 0).testBit 3 = true) ∧
      Keeps (F.drainAt :: O.GUN_STATE :: O.GUN_OWNER :: O.GUN_TARGET_CYCLE :: O.GUN_FIRED_AT :: O.GUN_FLAGS :: O.GUN_LATE_COUNT ::
        O.GUN_STEPPED_COUNT :: announced ++ traffic ++ passing) s.dev t.dev)

namespace Sys2Proof.Machine

/-- A device in RESET for reset cause `latch`. -/
def afterReset (latch : Nat) (a b : Device) : Prop :=
  b.mode = .reset ∧ b.resetLatch = latch ∧ b.clockOn = false ∧ b.cyc = 0 ∧ (∀ o r, b.rd o r = dfltKey (keyOf o r)) ∧
  (∀ row, b.sessOf row = SessX.empty) ∧ (∀ g, b.groupOf g = GroupX.empty) ∧ b.pipe.frames = [] ∧ b.keys.vault = [] ∧
  b.sas.recs = [] ∧ b.sas.ctxs = [] ∧ b.mem = MemX.empty ∧ b.clsx.table = [] ∧ b.pins.ringHold = none ∧ b.pins.timeHold = none ∧
  b.otp = a.otp ∧ b.flash = a.flash ∧ b.jtag.tap = a.jtag.tap ∧ b.part = a.part ∧ b.draws = a.draws ∧ a.out <+: b.out

end Sys2Proof.Machine

/-- R80, R85 and R89. -/
def Obligations.ResetClearsAllButFuses : Prop :=
  (∀ s, s.dev.mode ≠ .reset → ∃ t, exec .pwrGoodLow s = .next t ∧ afterReset 1 s.dev t.dev ∧ t.dev.pins.pwrGood = false) ∧
  (∀ s, s.dev.mode ≠ .reset → ∃ t, exec .resetNLow s = .next t ∧ afterReset 2 s.dev t.dev ∧ t.dev.pins.resetN = false) ∧
  (∀ r s, Asked r O.MODE_CMD 0 s.dev → s.dev.roleOf r ≠ 2 → (s.dev.mode ≠ .safe ∨ s.dev.rd O.FLT_FATAL_SINCE_BOOT = 0) →
    ∃ t, exec (.modeCmdReset r) s = .next t ∧ afterReset 3 s.dev t.dev) ∧
  (∀ r s, Asked r O.FW_CMD 0 s.dev → s.dev.fwRole r = false → s.dev.mode = .stage →
    ∃ t, exec (.activateReset r) s = .next t ∧ afterReset 5 s.dev t.dev) ∧
  (∀ s, s.dev.mode = .reset → s.dev.jtag.tap ≠ .extest →
    ∃ t, exec .resetRelease s = .next t ∧ t.dev.mode = .boot ∧ t.dev.rd O.MODE = 1 ∧
      t.dev.rd O.BOOT_RESET_CAUSE = s.dev.resetLatch ∧ t.dev.pins.pwrGood = true ∧ t.dev.pins.resetN = true ∧
      Only [(O.MODE, 0), (O.BOOT_RESET_CAUSE, 0)] [F.mode, F.pins] s.dev t.dev) ∧
  (∀ s, s.dev.mode = .reset → s.dev.jtag.tap = .extest →
    ∃ t, exec .resetRelease s = .next t ∧ t.dev.mode = .reset ∧ t.dev.resetLatch = 4 ∧ Only [] [F.resetLatch, F.pins] s.dev t.dev)

namespace Sys2Proof.Machine

/-! ### Start-up (R87 to R90) -/

/-- What the tamper log and its delivery change. -/
def tampered : List Nat :=
  [O.TAMPER_LOG_ENTRY, O.TAMPER_LOG_LAST_SEQ, O.TAMPER_LOG_OVERWRITTEN, O.TAMPER_FIRST, F.mon, F.sess, F.ring]

end Sys2Proof.Machine

/-- R87 and R88, step by step. -/
def Obligations.BootStepsInOrder : Prop :=
  (∀ s, s.dev.mode = .boot → s.dev.boot.plls = false → EventRoom s.dev → (∀ tr, s.dev.highMark tr = 0) →
    ∃ t, exec .bootPllsLocked s = .next t ∧ t.dev.boot = { s.dev.boot with plls := true } ∧ t.dev.clockOn = true ∧
      t.dev.rd O.TAMPER_LOG_LAST_SEQ = s.dev.mon.seq ∧ bits (t.dev.rd O.TAMPER_LOG_ENTRY (s.dev.mon.seq % 256)) (17 * 8) 8 = 2 ∧
      (∀ st, s.dev.lcVote = some st → t.dev.rd O.LC_STATE = st) ∧
      (s.dev.lcVote = none → t.dev.rd O.LC_STATE = 6 ∧ t.dev.rd O.BOOT_STATUS = 3) ∧
      Only [(O.LC_STATE, 0), (O.BOOT_STATUS, 0)] (F.boot :: F.clockOn :: tampered ++ noted) s.dev t.dev) ∧
  (∀ s, s.dev.mode = .boot → s.dev.boot.plls = true → s.dev.boot.drbg = false → s.dev.boot.entropyFails < 3 →
    s.dev.rd O.LC_STATE < 3 →
    ∃ t, exec (.entropyStartupTests true) s = .next t ∧ t.dev.boot = { s.dev.boot with drbg := true } ∧
      t.dev.rd O.DRBG_STATE = 1 ∧ t.dev.keys.checkKey.length = 32 ∧ t.dev.keys.storeKey.length = 32 ∧
      Only [(O.DRBG_STATE, 0), (O.CLS_SEED, 0)] [F.boot, F.checkKey, F.storeKey, F.keyReseed, F.keyRequests, F.draws, F.banks]
        s.dev t.dev) ∧
  (∀ s, s.dev.mode = .boot → s.dev.boot.plls = true → s.dev.boot.drbg = false → s.dev.boot.entropyFails < 3 →
    s.dev.rd O.LC_STATE = 4 → (s.dev.dusValid false = true ∨ s.dev.dusValid true = true) → s.dev.ownerFieldValid = true →
    ∃ t, exec (.entropyStartupTests true) s = .next t ∧ t.dev.rd O.DRBG_STATE = 1 ∧
      t.dev.rd O.VAULT_STATE 0 = 1 ∧ t.dev.keyBytes 0 = leBytes 32 s.dev.dus ∧ t.dev.rd O.VAULT_PURPOSE 0 = 0x10 ∧
      t.dev.rd O.VAULT_STATE 1 = 1 ∧ t.dev.keyBytes 1 = leBytes 32 s.dev.ownerRoot ∧ t.dev.rd O.VAULT_PURPOSE 1 = 0x11 ∧
      t.dev.vaultGood 0 = true ∧ t.dev.vaultGood 1 = true) ∧
  (∀ s, s.dev.mode = .boot → s.dev.boot.plls = true → s.dev.boot.drbg = false → s.dev.boot.entropyFails < 2 →
    ∃ t, exec (.entropyStartupTests false) s = .next t ∧ t.dev.boot.entropyFails = s.dev.boot.entropyFails + 1 ∧
      t.dev.boot.drbg = false ∧ Only [(O.ENTROPY_TEST_FAILS, 0)] [F.boot] s.dev t.dev) ∧
  (∀ s, s.dev.mode = .boot → s.dev.boot.plls = true → s.dev.boot.drbg = false → s.dev.boot.entropyFails = 2 →
    ∃ t, exec (.entropyStartupTests false) s = .next t ∧ t.dev.boot.entropyFails = 3 ∧ t.dev.mode = .boot ∧
      Keeps (O.ENTROPY_TEST_FAILS :: F.boot :: faulting) s.dev t.dev) ∧
  (∀ s, s.dev.mode = .boot → s.dev.boot.drbg = true → s.dev.boot.image = false →
    ∃ t, exec .sydinImageVerified s = .next t ∧ t.dev.boot = { s.dev.boot with image := true } ∧ t.dev.mode = .boot ∧
      t.dev.fw.measured.length = 7 ∧ t.dev.rd O.FW_M = Device.chain t.dev.fw.measured ∧
      t.dev.rd O.BOOT_EPOCH = t.dev.rd O.ATT_EPOCH ∧
      (s.dev.imageOk (s.dev.prefers 0) = true → t.dev.rd O.BOOT_IMAGE = s.dev.prefers 0 ∧
        t.dev.rd O.FW_SLOT_STATE (s.dev.prefers 0) = 4) ∧
      (s.dev.imageOk 0 = false → s.dev.imageOk 1 = false → t.dev.rd O.BOOT_IMAGE = 0xFF) ∧ t.dev.flash = s.dev.flash) ∧
  (∀ s, s.dev.sydinRuns = true → s.dev.boot.memory = false →
    ∃ t, exec (.memTrainingDone 0) s = .next t ∧ t.dev.boot = { s.dev.boot with memory := true } ∧
      t.dev.mem = { MemX.empty with kEnc := t.dev.mem.kEnc, kTwk := t.dev.mem.kTwk, kMac := t.dev.mem.kMac,
                                    lostLines := s.dev.mem.lostLines, scrubFrom := s.dev.cyc } ∧
      Only [] [F.boot, F.memCells, F.memRest, F.draws, F.keyRequests] s.dev t.dev) ∧
  (∀ c s, s.dev.sydinRuns = true → s.dev.boot.memory = false → c < 4 → s.dev.retireTaken = false →
    ∃ t, exec (.memTrainingDone (2 ^ c)) s = .next t ∧ t.dev.boot.memory = true ∧ t.dev.rd O.MEM_CH_STATE c = 2 ∧
      t.dev.rd O.MEM_CH_CAUSE c = 2 ∧ (t.dev.rd O.BOOT_FLAGS).testBit 3 = true ∧ t.dev.mem.cells = [] ∧
      Keeps (O.MEM_CH_STATE :: O.MEM_CH_CAUSE :: O.BOOT_FLAGS :: F.boot :: F.memCells :: F.memRest :: F.draws :: F.keyRequests ::
        faulting)
        s.dev t.dev) ∧
  (∀ line host us s, s.dev.sydinRuns = true → s.dev.boot.serdes = false →
    ∃ t, exec (.serdesCalibrationDone line host us) s = .next t ∧ t.dev.boot = { s.dev.boot with serdes := true } ∧
      t.dev.rd O.BOOT_LINE_LANES_FAILED = line % 2 ^ s.dev.lanesPerSide ∧
      t.dev.rd O.BOOT_HOST_LANES_FAILED = host % 2 ^ s.dev.lanesPerSide ∧ t.dev.rd O.BOOT_T_SERDES_US = us % 2 ^ 32 ∧
      (s.dev.clockOn = true → t.dev.cyc = max s.dev.cyc (usCycles us)) ∧
      (∀ l, l < s.dev.lanesPerSide → (host.testBit l = true → t.dev.rd O.LANE_ADAPT l = 4) ∧
        (line.testBit l = true → t.dev.rd O.LANE_ADAPT (32 + l) = 4)) ∧
      Keeps (O.BOOT_LINE_LANES_FAILED :: O.BOOT_HOST_LANES_FAILED :: O.BOOT_T_SERDES_US :: O.LANE_ADAPT :: O.BOOT_FLAGS :: F.boot ::
        faulting ++ passing) s.dev t.dev) ∧
  (∀ s, s.dev.bootReady = true →
    ∃ t, exec .bootComplete s = .next t ∧
      ((s.dev.rd O.FLT_STATUS).testBit 3 = false → (s.dev.rd O.FLT_STATUS).testBit 4 = false → entered .stage 2 1 t.dev) ∧
      ((s.dev.rd O.FLT_STATUS).testBit 3 = true ∨ (s.dev.rd O.FLT_STATUS).testBit 4 = true → entered .safe 5 3 t.dev) ∧
      t.dev.pins.ringReady = true ∧ t.dev.ring.idleSince = s.dev.cyc ∧ (∃ k, k ≤ 1000 ∧ t.dev.rd O.BOOT_T_STAGE_US = s.dev.cyc / 1250 + k) ∧
      Only [(O.MODE, 0), (O.MODE_CAUSE, 0), (O.MODE_ENTERED_AT, 0), (O.BOOT_T_STAGE_US, 0)] [F.mode, F.ring, F.pins, F.draws, F.banks]
        s.dev t.dev)

/-! ### Slices (R91, R92) -/

/-- R91 and R92. -/
def Obligations.SlicesLeaveAndReturn : Prop :=
  (∀ r k s, Asked r O.SLICE_CMD k s.dev → s.dev.rd O.SLICE_STATE k = 1 →
    ∃ t, exec (.takeOut r k) s = .next t ∧ t.dev.rd O.SLICE_STATE k = 2 ∧ t.dev.rd O.SLICE_CAUSE k = 1 ∧
      (∀ f ∈ t.dev.pipe.frames, f.slice ≠ k) ∧
      t.dev.rd O.SLICE_DISCARDED k =
        (s.dev.rd O.SLICE_DISCARDED k + (s.dev.pipe.frames.filter (fun f => f.slice == k)).length) % 2 ^ 64 ∧
      Result O.SLICE_CMD k 0 2 s.dev t.dev ∧ Answers r 0 t.dev ∧
      Only [(O.SLICE_STATE, k), (O.SLICE_CAUSE, k), (O.SLICE_DISCARDED, k), (O.SLICE_CMD, k)] (F.banks :: traffic ++ asked)
        s.dev t.dev) ∧
  (∀ r k s, Asked r O.SLICE_CMD k s.dev → (s.dev.rd O.SLICE_STATE k = 2 ∨ s.dev.rd O.SLICE_STATE k = 5) → EventRoom s.dev →
    ∃ t, exec (.gate r k) s = .next t ∧ t.dev.rd O.SLICE_STATE k = 3 ∧
      (∀ l ∈ Device.sliceLanes k, t.dev.rd O.LANE_ADAPT l = 0 ∧ t.dev.rd O.LANE_SIGNAL l = 0) ∧
      (∀ p ∈ s.dev.slicePorts k, (t.dev.portOf p).rx = .noSignal) ∧ Result O.SLICE_CMD k 0 2 s.dev t.dev ∧ Answers r 0 t.dev ∧
      Only ([(O.SLICE_STATE, k), (O.SLICE_CMD, k)] ++ (Device.sliceLanes k).map (fun l => (O.LANE_ADAPT, l)) ++
        (Device.sliceLanes k).map (fun l => (O.LANE_SIGNAL, l)))
        (O.PORT_LINK :: O.PORT_LINK_CHANGES :: O.PORT_PCS_ALIGN_LOSS :: noted ++ traffic ++ asked) s.dev t.dev) ∧
  (∀ r k s, Asked r O.SLICE_CMD k s.dev → s.dev.rd O.SLICE_STATE k = 3 → s.dev.returnHeld k = false →
    ∃ t, exec (.sliceReturn r k) s = .next t ∧ t.dev.rd O.PARSER_SHADOW_STATE k = 0 ∧
      (s.dev.activeGood k = true → t.dev.rd O.SLICE_STATE k = 4 ∧
        Device.progAt t.dev.pipe.active k = s.dev.slotProgram (Device.parserSlot k (s.dev.rd O.PARSER_ACTIVE_IMAGE k)) ∧
        Result O.SLICE_CMD k 0 2 s.dev t.dev ∧ Answers r 0 t.dev ∧
        Only [(O.SLICE_STATE, k), (O.SLICE_CMD, k), (O.PARSER_SHADOW_STATE, k), (O.PARSER_SHADOW_DIGEST, k),
          (O.PARSER_ACTIVE_IMAGE, k), (O.PARSER_ACTIVE_DIGEST, k)] (F.pipe :: asked) s.dev t.dev) ∧
      (s.dev.activeGood k = false → t.dev.rd O.SLICE_STATE k = 5 ∧ t.dev.rd O.SLICE_CAUSE k = 2 ∧
        Keeps (O.SLICE_STATE :: O.SLICE_CAUSE :: O.SLICE_CMD :: O.PARSER_SHADOW_STATE :: O.PARSER_SHADOW_DIGEST :: F.pipe ::
          faulting ++ asked) s.dev t.dev)) ∧
  (∀ k m s, k < s.dev.slices → s.dev.rd O.SLICE_STATE k = 4 → Device.failedLanes k m = [] →
    ∃ t, exec (.sliceReturnDone k m) s = .next t ∧ t.dev.rd O.SLICE_STATE k = 1 ∧ t.dev.rd O.SLICE_CAUSE k = 0 ∧
      (∀ l ∈ Device.sliceLanes k, t.dev.rd O.LANE_ADAPT l = (if (s.dev.laneOwner l).isSome then 1 else 0)) ∧
      Only ([(O.SLICE_STATE, k), (O.SLICE_CAUSE, k)] ++ (Device.sliceLanes k).map (fun l => (O.LANE_ADAPT, l)))
        (F.acqAt :: F.banks :: traffic) s.dev t.dev) ∧
  (∀ k m s, k < s.dev.slices → s.dev.rd O.SLICE_STATE k = 4 → Device.failedLanes k m ≠ [] →
    ∃ t, exec (.sliceReturnDone k m) s = .next t ∧ t.dev.rd O.SLICE_STATE k = 5 ∧ t.dev.rd O.SLICE_CAUSE k = 3 ∧
      (∀ l ∈ Device.failedLanes k m, t.dev.rd O.LANE_ADAPT l = 4) ∧
      Keeps (O.SLICE_STATE :: O.SLICE_CAUSE :: O.LANE_ADAPT :: faulting) s.dev t.dev)

/-! ### Lanes and Ethernet ports (R93 to R109) -/

/-- R96. -/
def Obligations.LanesAcquireAndTrack : Prop :=
  (∀ l s, s.dev.laneSees l = true → s.dev.rd O.LANE_SIGNAL l = 0 →
    ∃ t, exec (.laneSignalDetect l) s = .next t ∧ t.dev.rd O.LANE_SIGNAL l = 1 ∧
      (s.dev.laneInUse l = true → s.dev.rd O.LANE_ADAPT l ≠ 3 → s.dev.rd O.LANE_ADAPT l ≠ 4 →
        t.dev.rd O.LANE_ADAPT l = 1 ∧ natAt t.dev.acqAt l = s.dev.cyc) ∧
      (s.dev.laneInUse l = false ∨ s.dev.rd O.LANE_ADAPT l = 3 ∨ s.dev.rd O.LANE_ADAPT l = 4 → t.dev.rd O.LANE_ADAPT l = s.dev.rd O.LANE_ADAPT l) ∧
      Only [(O.LANE_SIGNAL, l), (O.LANE_ADAPT, l)] [F.acqAt] s.dev t.dev) ∧
  (∀ l s, s.dev.laneSees l = true → s.dev.rd O.LANE_SIGNAL l ≠ 0 →
    ∃ t, exec (.laneSignalLoss l) s = .next t ∧ t.dev.rd O.LANE_SIGNAL l = 0 ∧
      (s.dev.laneInUse l = true → s.dev.rd O.LANE_ADAPT l ≠ 3 → s.dev.rd O.LANE_ADAPT l ≠ 4 →
        t.dev.rd O.LANE_ADAPT l = 1 ∧ natAt t.dev.acqAt l = s.dev.cyc) ∧
      (s.dev.laneInUse l = false ∨ s.dev.rd O.LANE_ADAPT l = 3 ∨ s.dev.rd O.LANE_ADAPT l = 4 → t.dev.rd O.LANE_ADAPT l = s.dev.rd O.LANE_ADAPT l) ∧
      Only [(O.LANE_SIGNAL, l), (O.LANE_ADAPT, l)] [F.acqAt] s.dev t.dev) ∧
  (∀ l s, s.dev.laneInUse l = true → s.dev.rd O.LANE_SIGNAL l ≠ 0 → s.dev.rd O.LANE_ADAPT l = 1 →
    ∃ t, exec (.laneAcquisitionDone l) s = .next t ∧ t.dev.rd O.LANE_ADAPT l = 2 ∧ t.dev.rd O.LANE_SNR_CDB l < 65536 ∧
      Only [(O.LANE_ADAPT, l), (O.LANE_SNR_CDB, l)] [F.draws] s.dev t.dev) ∧
  (∀ l s, s.dev.clockOn = true → s.dev.laneInUse l = true → s.dev.rd O.LANE_SIGNAL l ≠ 0 → s.dev.rd O.LANE_ADAPT l = 1 →
    ∃ t, exec (.laneAcquisitionTimeout l) s = .next t ∧ t.dev.cyc = max s.dev.cyc (natAt s.dev.acqAt l + msCycles 20) ∧
      natAt t.dev.acqAt l = t.dev.cyc ∧ t.dev.rd O.LANE_ADAPT l = 1 ∧ Only [] (F.acqAt :: passing) s.dev t.dev)

namespace Sys2Proof.Machine

/-- What the receivers of a port report counts: a port with a failed lane receives nothing (R88). -/
def seenRx (d : Device) (p : Nat) (rx : RxState) : RxState := if d.portFailed p then .noSignal else rx

end Sys2Proof.Machine

/-- R99, R105 and R106. -/
def Obligations.PortsFollowTheirReceivers : Prop :=
  (∀ p rx s, s.dev.laneOk p = true → s.dev.portEnabled p = true → s.dev.mode ≠ .reset → s.dev.mode ≠ .boot →
    s.dev.recalRuns p = false → EventRoom s.dev →
    ∃ t, exec (.portLinkChange p rx) s = .next t ∧ (t.dev.portOf p).rx = seenRx s.dev p rx ∧
      t.dev.rd O.PORT_LINK p = linkCode (seenRx s.dev p rx) ∧
      t.dev.rd O.PORT_LINK_CHANGES p = (if s.dev.rd O.PORT_LINK p = linkCode (seenRx s.dev p rx) then s.dev.rd O.PORT_LINK_CHANGES p
        else (s.dev.rd O.PORT_LINK_CHANGES p + 1) % 2 ^ 64) ∧
      t.dev.rd O.PORT_PCS_ALIGN_LOSS p = (if rxAligned (s.dev.portOf p).rx = true ∧ rxAligned (seenRx s.dev p rx) = false
        then (s.dev.rd O.PORT_PCS_ALIGN_LOSS p + 1) % 2 ^ 64 else s.dev.rd O.PORT_PCS_ALIGN_LOSS p) ∧
      Only [(O.PORT_LINK, p), (O.PORT_LINK_CHANGES, p), (O.PORT_PCS_ALIGN_LOSS, p)] (noted ++ traffic) s.dev t.dev) ∧
  (∀ p rx s, s.dev.laneOk p = true → s.dev.portEnabled p = true → s.dev.mode ≠ .reset → s.dev.mode ≠ .boot →
    s.dev.recalRuns p = true →
    ∃ t, exec (.portLinkChange p rx) s = .next t ∧ (t.dev.portOf p).rx = seenRx s.dev p rx ∧ Only [] traffic s.dev t.dev) ∧
  (∀ p n s, s.dev.laneOk p = true → s.dev.portEnabled p = true → s.dev.mode ≠ .reset → s.dev.mode ≠ .boot →
    (s.dev.rd O.PORT_FEC_UNCORR_LIMIT p = 0 ∨
      (if (s.dev.portOf p).fecSecond = s.dev.phcSecond then (s.dev.portOf p).fecCount else 0) + n ≤ s.dev.rd O.PORT_FEC_UNCORR_LIMIT p) →
    ∃ t, exec (.fecUncorrLimit p n) s = .next t ∧
      t.dev.rd O.PORT_FEC_UNCORRECTED_CW p = (s.dev.rd O.PORT_FEC_UNCORRECTED_CW p + n) % 2 ^ 64 ∧
      Only [(O.PORT_FEC_UNCORRECTED_CW, p)] [F.ports] s.dev t.dev) ∧
  (∀ p n s, s.dev.laneOk p = true → s.dev.portEnabled p = true → s.dev.mode ≠ .reset → s.dev.mode ≠ .boot →
    s.dev.rd O.PORT_FEC_UNCORR_LIMIT p ≠ 0 → s.dev.rd O.PORT_FEC_UNCORR_LIMIT p < n → s.dev.srcUnseen (portSrc p) = false →
    (s.dev.portOf p).fecSecond ≠ s.dev.phcSecond →
    ∃ t, exec (.fecUncorrLimit p n) s = .next t ∧
      t.dev.rd O.PORT_FEC_UNCORRECTED_CW p = (s.dev.rd O.PORT_FEC_UNCORRECTED_CW p + n) % 2 ^ 64 ∧
      (t.dev.portOf p).fecRaised = true ∧ 2 ≤ t.dev.rd O.FLT_SRC_CLASS (portSrc p) ∧ t.dev.rd O.FLT_SRC_CLASS (portSrc p) ≤ 4 ∧
      Keeps (O.PORT_FEC_UNCORRECTED_CW :: faulting) s.dev t.dev)

namespace Sys2Proof.Machine

/-- The quanta of a received frame last until this cycle. -/
def pausedUntil (d : Device) (p q : Nat) : Nat := if q = 0 then 0 else d.cyc + quantaCycles q (d.portSpeed p)

end Sys2Proof.Machine

/-- R103 and R104. -/
def Obligations.PauseHoldsClasses : Prop :=
  (∀ p v s, s.dev.laneOk p = true → s.dev.portEnabled p = true → s.dev.mode ≠ .reset → s.dev.mode ≠ .boot →
    (s.dev.portOf p).frozen = false → Device.macField v 12 = 0x8808 → Device.macField v 14 = 0x0101 → s.dev.rd O.PORT_FC p = 2 →
    ∃ t, exec (.macControlRx p v) s = .next t ∧
      (∀ c, c < 8 → natAt (t.dev.portOf p).pausedTo c = (if (Device.macField v 16).testBit c
        then pausedUntil s.dev p (Device.macField v (18 + 2 * c)) else natAt (s.dev.portOf p).pausedTo c)) ∧
      (∀ c, c < 8 → (Device.macField v 16).testBit c = true →
        t.dev.rd O.NODE_PAUSED (8 * p + c) = boolNat (decide (s.dev.cyc < pausedUntil s.dev p (Device.macField v (18 + 2 * c))))) ∧
      (t.dev.portOf p).holds = (s.dev.portOf p).holds ∧ (t.dev.portOf p).rx = (s.dev.portOf p).rx ∧
      Only ((List.range 8).map (fun c => (O.NODE_PAUSED, 8 * p + c)) ++ (List.range 8).map (fun c => (O.PORT_FC_RX_XOFF_C0 + c, p)))
        [F.ports] s.dev t.dev) ∧
  (∀ p v s, s.dev.laneOk p = true → s.dev.portEnabled p = true → s.dev.mode ≠ .reset → s.dev.mode ≠ .boot →
    (s.dev.portOf p).frozen = false → Device.macField v 12 = 0x8808 → Device.macField v 14 = 0x0001 → s.dev.rd O.PORT_FC p = 1 →
    ∃ t, exec (.macControlRx p v) s = .next t ∧
      (∀ c, c < 8 → natAt (t.dev.portOf p).pausedTo c = pausedUntil s.dev p (Device.macField v 16)) ∧
      t.dev.rd O.PORT_FC_RX_XOFF_C0 p = (if Device.macField v 16 = 0 then s.dev.rd O.PORT_FC_RX_XOFF_C0 p
        else (s.dev.rd O.PORT_FC_RX_XOFF_C0 p + 1) % 2 ^ 64) ∧
      Only ((O.PORT_FC_RX_XOFF_C0, p) :: (List.range 8).map (fun c => (O.NODE_PAUSED, 8 * p + c))) [F.ports] s.dev t.dev) ∧
  (∀ p v s, s.dev.laneOk p = true → s.dev.portEnabled p = true → s.dev.mode ≠ .reset → s.dev.mode ≠ .boot →
    (s.dev.portOf p).frozen = false → Device.macField v 12 = 0x8808 → ¬ (Device.macField v 14 = 0x0101 ∧ s.dev.rd O.PORT_FC p = 2) →
    ¬ (Device.macField v 14 = 0x0001 ∧ s.dev.rd O.PORT_FC p = 1) →
    ∃ t, exec (.macControlRx p v) s = .next t ∧
      t.dev.rd O.PORT_RX_MAC_CONTROL_DROPS p = (s.dev.rd O.PORT_RX_MAC_CONTROL_DROPS p + 1) % 2 ^ 64 ∧
      Only [(O.PORT_RX_MAC_CONTROL_DROPS, p)] [] s.dev t.dev) ∧
  (∀ p v s, (s.dev.portOf p).frozen = true → exec (.macControlRx p v) s = .next s) ∧
  (∀ p c s, s.dev.clockOn = true → natAt (s.dev.portOf p).pausedTo c ≠ 0 →
    ∃ t, exec (.pauseExpiry p c) s = .next t ∧ natAt (t.dev.portOf p).pausedTo c = 0 ∧
      t.dev.rd O.NODE_PAUSED (8 * p + c) = 0 ∧ t.dev.cyc = max s.dev.cyc (natAt (s.dev.portOf p).pausedTo c) ∧
      Only [(O.NODE_PAUSED, 8 * p + c)] (F.ports :: passing) s.dev t.dev) ∧
  (∀ p c s, s.dev.clockOn = true → s.dev.heldClasses p = [c] → s.dev.portSends p = true →
    s.dev.pipe.staged = [] → (∀ q k, (natAt (s.dev.portOf q).holds k).testBit 2 = false) →
    ∃ t, exec (.xoffRefresh p) s = .next t ∧ t.dev.cyc = max s.dev.cyc (s.dev.xoffDue p c) ∧
      t.dev.out.getLast? = some (.macControl p (s.dev.flowFrame p [c] 0xFFFF)) ∧ natAt (t.dev.portOf p).xoffAt c = t.dev.cyc ∧
      t.dev.rd (O.PORT_FC_TX_XOFF_C0 + c % 8) p = (s.dev.rd (O.PORT_FC_TX_XOFF_C0 + c % 8) p + 1) % 2 ^ 64 ∧
      (∀ q k, natAt (t.dev.portOf q).holds k = natAt (s.dev.portOf q).holds k) ∧
      Only [(O.PORT_FC_TX_XOFF_C0 + c % 8, p)] (F.ports :: passing) s.dev t.dev)

/-- R107 and R108. -/
def Obligations.RecalibrationWindows : Prop :=
  (∀ r p e s, Asked r O.PORT_RECAL_CMD p s.dev → s.dev.portEnabled p = true → s.dev.recalBusy p = false →
    s.dev.recalOverlap p = false →
    (s.dev.gunPast (s.dev.rd O.PORT_RECAL_GUN_TIME p) = false ∨ s.dev.rdB O.PORT_RECAL_LATE_OK p = true) → s.dev.gunPool 6 = some e →
    ∃ t, exec (.portRecalArm r p) s = .next t ∧ t.dev.rd O.PORT_RECAL_STATE p = 1 ∧ t.dev.rd O.PORT_RECAL_FLAGS p = 0 ∧
      t.dev.rd O.GUN_STATE e = 1 ∧ t.dev.rd O.GUN_OWNER e = 6 ∧ t.dev.rd O.GUN_TARGET_ROW e = p ∧
      t.dev.rd O.GUN_TIME e = s.dev.rd O.PORT_RECAL_GUN_TIME p ∧ Result O.PORT_RECAL_CMD p 0 2 s.dev t.dev ∧ Answers r 0 t.dev ∧
      Only [(O.PORT_RECAL_CMD, p), (O.PORT_RECAL_STATE, p), (O.PORT_RECAL_FLAGS, p), (O.GUN_STATE, e), (O.GUN_OWNER, e),
        (O.GUN_TARGET_ROW, e), (O.GUN_TIME, e), (O.GUN_SEQ, e), (O.GUN_TAG, e), (O.GUN_TARGET_CYCLE, e), (O.GUN_FIRED_AT, e),
        (O.GUN_FLAGS, e)] (F.guns :: F.gunSeq :: asked) s.dev t.dev) ∧
  (∀ r p e s, Asked r O.PORT_RECAL_CMD p s.dev → s.dev.recalArmed p = some e → EventRoom s.dev →
    ∃ t, exec (.portRecalCancel r p) s = .next t ∧ t.dev.rd O.PORT_RECAL_STATE p = 5 ∧ t.dev.rd O.GUN_STATE e = 4 ∧
      t.dev.rd O.GUN_OWNER e = 0 ∧
      Result O.PORT_RECAL_CMD p 0 2 s.dev t.dev ∧ Answers r 0 t.dev ∧
      Only [(O.PORT_RECAL_CMD, p), (O.PORT_RECAL_STATE, p), (O.GUN_STATE, e), (O.GUN_OWNER, e)] (announced ++ asked) s.dev t.dev) ∧
  (∀ e p s, s.dev.clockOn = true → s.dev.gunLive e = true → s.dev.gunFirst e = true → s.dev.rd O.GUN_OWNER e = 6 →
    s.dev.rd O.GUN_TARGET_ROW e = p → s.dev.rd O.SLICE_STATE (sliceOfPort p) = 1 → EventRoom s.dev →
    ∃ t, exec (.gunFire e) s = .next t ∧ t.dev.rd O.PORT_RECAL_STATE p = 2 ∧ t.dev.rd O.PORT_LINK p = 6 ∧
      (t.dev.portOf p).windowAt = t.dev.cyc ∧ (t.dev.portOf p).frozen = false ∧ t.dev.rd O.GUN_STATE e = 3 ∧
      t.dev.rd O.GUN_OWNER e = 0 ∧
      Only [(O.PORT_RECAL_STATE, p), (O.PORT_RECAL_FLAGS, p), (O.PORT_LINK, p), (O.PORT_LINK_CHANGES, p), (O.GUN_STATE, e), (O.GUN_OWNER, e),
        (O.GUN_TARGET_CYCLE, e), (O.GUN_FIRED_AT, e), (O.GUN_FLAGS, e), (O.GUN_LATE_COUNT, 0), (O.GUN_STEPPED_COUNT, 0)]
        (announced ++ noted ++ traffic ++ passing) s.dev t.dev) ∧
  (∀ p s, s.dev.clockOn = true → s.dev.recalRuns p = true → (s.dev.portOf p).frozen = false →
    ∃ t, exec (.receiverFreeze p none) s = .next t ∧ (t.dev.portOf p).frozen = true ∧
      t.dev.cyc = max s.dev.cyc ((s.dev.portOf p).windowAt + nsCycles (s.dev.rd O.PORT_RECAL_GUARD_NS p)) ∧
      (∀ l ∈ portLanes (s.dev.rd O.PORT_MODE p) p, t.dev.rd O.LANE_ADAPT l = (if s.dev.rd O.LANE_ADAPT l = 4 then 4 else 3)) ∧
      Only ((portLanes (s.dev.rd O.PORT_MODE p) p).map (fun l => (O.LANE_ADAPT, l))) (F.acqAt :: F.ports :: passing) s.dev t.dev) ∧
  (∀ p rx s, s.dev.recalRuns p = true → (s.dev.portOf p).frozen = true → rxAligned rx = true → s.dev.portFailed p = false →
    EventRoom s.dev →
    ∃ t, exec (.recalAlignmentRegained p rx) s = .next t ∧ t.dev.rd O.PORT_RECAL_STATE p = 3 ∧
      (t.dev.portOf p).frozen = false ∧ (t.dev.portOf p).rx = rx ∧ t.dev.rd O.PORT_LINK p = linkCode rx ∧
      (∀ l ∈ portLanes (s.dev.rd O.PORT_MODE p) p, t.dev.rd O.LANE_ADAPT l = 2) ∧
      Only ([(O.PORT_RECAL_STATE, p), (O.PORT_LINK, p), (O.PORT_LINK_CHANGES, p)] ++
        (portLanes (s.dev.rd O.PORT_MODE p) p).map (fun l => (O.LANE_ADAPT, l))) (noted ++ traffic) s.dev t.dev) ∧
  (∀ p s, s.dev.clockOn = true → s.dev.recalRuns p = true → s.dev.srcUnseen (portSrc p) = false → s.dev.mode ≠ .reset →
    ∃ t, exec (.recalTimeout p) s = .next t ∧ t.dev.rd O.PORT_RECAL_STATE p = 4 ∧
      t.dev.cyc = max s.dev.cyc ((s.dev.portOf p).windowAt + s.dev.recalSpan p) ∧
      t.dev.rd O.PORT_LINK p = linkCode (s.dev.unaligned p) ∧
      (∀ l ∈ portLanes (s.dev.rd O.PORT_MODE p) p, t.dev.rd O.LANE_ADAPT l = (if s.dev.rd O.LANE_ADAPT l = 4 then 4 else 1)) ∧
      2 ≤ t.dev.rd O.FLT_SRC_CLASS (portSrc p) ∧ t.dev.rd O.FLT_SRC_CLASS (portSrc p) ≤ 4 ∧
      Keeps (O.PORT_RECAL_STATE :: O.PORT_LINK :: O.PORT_LINK_CHANGES :: O.LANE_ADAPT :: passing ++ faulting) s.dev t.dev)

namespace Sys2Proof.Machine

/-! ### Network time (R110 to R132) -/

/-- What the records, announcements and lap boundaries that follow a change of time touch. -/
def retimed : List Nat :=
  [O.GUN_FIRED_AT, O.GUN_FLAGS, O.GUN_OWNER, O.GUN_SEQ, O.GUN_STATE, O.GUN_TAG, O.GUN_TARGET_CYCLE, O.GUN_TARGET_ROW, O.GUN_TIME,
   O.PHC_LEAP_AT, O.PHC_LEAP_KIND, O.PHC_UTC_OFFSET, O.TAMPER_FIRST, O.TAMPER_LOG_ENTRY, O.TAMPER_LOG_LAST_SEQ,
   O.TAMPER_LOG_OVERWRITTEN, F.clsx, F.guns, F.gunSeq, F.laps, F.mon] ++ noted ++ closing ++ passing

/-- A PHC_CMD that starts: it runs, and `ch` is on its way. -/
def phcOnItsWay (r : Req) (ch : PhcChange) (a b : Device) : Prop :=
  b.clk = { a.clk with pend := a.clk.pend ++ [(a.cyc + nsCycles 768, ch)] } ∧ b.time = { a.time with cmdAt := some (a.cyc + nsCycles 768) } ∧
  Result O.PHC_CMD 0 0 1 a b ∧ Answers r 0 b ∧ Only [(O.PHC_CMD, 0)] (F.clk :: F.time :: asked) a b

end Sys2Proof.Machine

/-- R111, R112 and R139. -/
def Obligations.PhcCommandsActAtABoundary : Prop :=
  (∀ r s, Asked r O.PHC_CMD 0 s.dev → s.dev.rd O.TIME_FOLLOW = 0 →
    (∃ t, exec (.phcSet r) s = .next t ∧ phcOnItsWay r (.set (ticksOf (s.dev.rd O.PHC_SET_VALUE))) s.dev t.dev) ∧
    (s.dev.stepBad (s.dev.rdI 64 O.PHC_STEP_DELTA) = false →
      ∃ t, exec (.phcStep r) s = .next t ∧ phcOnItsWay r (.step (s.dev.rdI 64 O.PHC_STEP_DELTA)) s.dev t.dev) ∧
    (s.dev.stepBad (s.dev.rdI 64 O.PHC_STEP_DELTA) = true →
      ∃ t, exec (.phcStep r) s = .next t ∧ Answers r 0xA101 t.dev ∧ Only [] asked s.dev t.dev) ∧
    (∃ t, exec (.phcSlew r) s = .next t ∧
      phcOnItsWay r (.slew (s.dev.rdI 64 O.PHC_SLEW_DELTA) (s.dev.rd O.PHC_SLEW_PPM)) s.dev t.dev) ∧
    (∃ t, exec (.phcSlewStop r) s = .next t ∧ phcOnItsWay r .slewStop s.dev t.dev)) ∧
  (∀ r s i, Asked r O.PHC_CMD 0 s.dev → s.dev.rd O.TIME_FOLLOW ≠ 0 → i ∈ [Instr.phcSet r, .phcSlew r, .phcSlewStop r] →
    ∃ t, exec i s = .next t ∧ Answers r 0xA106 t.dev ∧ Only [] asked s.dev t.dev) ∧
  (∀ r v s, Passes r (directAddr O.PHC_FREQ_ADJ 0) (leBytes 8 (toTwos 64 v)) s.dev → -(2 ^ 63 : Int) ≤ v → v < 2 ^ 63 → Quiet s.dev →
    ∃ t, exec (.phcFreqAdjWrite r v) s = .next t ∧ t.dev.rd O.PHC_FREQ_ADJ = toTwos 64 v ∧
      t.dev.clk = { s.dev.clk with pend := s.dev.clk.pend ++ [(s.dev.cyc + nsCycles 768, .freqAdj v)] } ∧ Answers r 0 t.dev ∧
      Only [(O.PHC_FREQ_ADJ, 0)] (F.clk :: asked) s.dev t.dev) ∧
  (∀ c ch rest (s : State), s.dev.clockOn = true → s.dev.clk.pend = (c, ch) :: rest → Device.isStep ch = false →
    ∃ t, exec .phcChangeEffect s = .next t ∧ t.dev.cyc = max s.dev.cyc c ∧
      t.dev.clk = ch.apply { s.dev.clk.run (c - s.dev.cyc) with pend := rest } ∧
      (s.dev.time.cmdAt = some c → rest.all (fun e => e.1 != c) = true →
        t.dev.time.cmdAt = none ∧ t.dev.rd O.PHC_CMD = 2 * 256 + s.dev.rd O.PHC_CMD % 256) ∧
      (s.dev.time.cmdAt ≠ some c → t.dev.time = s.dev.time ∧ t.dev.rd O.PHC_CMD = s.dev.rd O.PHC_CMD) ∧
      Only [(O.PHC_CMD, 0)] (F.time :: passing) s.dev t.dev) ∧
  (∀ c ch rest (s : State), s.dev.clockOn = true → s.dev.clk.pend = (c, ch) :: rest → Device.isStep ch = true →
    ∃ t, exec .phcChangeEffect s = .next t ∧ t.dev.cyc = max s.dev.cyc c ∧
      t.dev.clk = ch.apply { s.dev.clk.run (c - s.dev.cyc) with pend := rest } ∧
      t.dev.edge = ⟨t.dev.cyc, (s.dev.clk.run (c - s.dev.cyc)).ticks⟩ ∧ t.dev.rd O.PHC_STATE = 1 ∧
      t.dev.rd O.PHC_STEP_COUNT = (s.dev.rd O.PHC_STEP_COUNT + 1) % 2 ^ 32 ∧ t.dev.rd O.PHC_LAST_STEP_AT = t.dev.phcTime ∧
      (s.dev.rd O.PHC_STEP_COUNT = 0 → t.dev.rd O.BOOT_PHC_FIRST_SET = t.dev.phcTime) ∧
      (s.dev.time.cmdAt = some c → rest.all (fun e => e.1 != c) = true →
        t.dev.time.cmdAt = none ∧ t.dev.rd O.PHC_CMD = 2 * 256 + s.dev.rd O.PHC_CMD % 256) ∧
      Keeps (O.PHC_STATE :: O.PHC_STEP_COUNT :: O.PHC_LAST_STEP_AT :: O.BOOT_PHC_FIRST_SET :: O.PHC_CMD :: O.TIME_HOLD_STATE ::
        F.edge :: F.time :: F.pins :: retimed) s.dev t.dev) ∧
  (∀ s : State, s.dev.clockOn = true → s.dev.clk.slewRem ≠ 0 → s.dev.clk.slewPpm ≠ 0 →
    ∃ t, exec .slewComplete s = .next t ∧ t.dev.cyc = s.dev.cyc + s.dev.clk.slewEdges ∧ t.dev.clk.slewRem = 0 ∧
      Only [] passing s.dev t.dev)

namespace Sys2Proof.Machine

/-- A latency of port `p` is base + phase + tempco × (temperature − 55 °C), to the next whole number below or above. -/
def latencyIs (d : Device) (p o base tempco : Nat) (phase temp : Int) : Prop :=
  ∃ x : Int, d.rd o p = toTwos 32 (d.rdI 32 base p + phase + x) ∧
    16 * x < d.rdI 32 tempco p * (temp - 880) + 16 ∧ d.rdI 32 tempco p * (temp - 880) - 16 < 16 * x

end Sys2Proof.Machine

/-- R114, R116 and R407. -/
def Obligations.LeapSecondsAndLatencies : Prop :=
  (∀ s : State, s.dev.clockOn = true → s.dev.clk.pend = [] → s.dev.clk.slewRem = 0 → 0 < s.dev.clk.base → s.dev.leapKind ≠ 0 →
    ∃ t, exec .leapApply s = .next t ∧ ticksOf (s.dev.rd O.PHC_LEAP_AT) ≤ t.dev.phc ∧
      t.dev.rd O.PHC_UTC_OFFSET = toTwos 32 (s.dev.rdI 32 O.PHC_UTC_OFFSET + if s.dev.leapKind = 1 then 1 else -1) ∧
      t.dev.rd O.PHC_LEAP_AT = 0 ∧ t.dev.rd O.PHC_LEAP_KIND = 0 ∧ Keeps retimed s.dev t.dev) ∧
  (∀ r p s, Asked r O.TS_CAL_CMD p s.dev → s.dev.portEnabled p = true →
    ∃ t, exec (.tsCalCmd r p) s = .next t ∧ Result O.TS_CAL_CMD p 0 1 s.dev t.dev ∧ Answers r 0 t.dev ∧
      Only [(O.TS_CAL_CMD, p)] asked s.dev t.dev) ∧
  (∀ r p s, Asked r O.TS_CAL_CMD p s.dev → s.dev.portEnabled p = false →
    ∃ t, exec (.tsCalCmd r p) s = .next t ∧ Answers r 0xA106 t.dev ∧ Only [] asked s.dev t.dev) ∧
  (∀ p rx tx s, s.dev.laneOk p = true → s.dev.portEnabled p = true → s.dev.mode ≠ .reset → s.dev.mode ≠ .boot →
    ∃ t, exec (.tsPhaseMeasured p true rx tx) s = .next t ∧
      latencyIs t.dev p O.TS_RX_LATENCY O.TS_RX_BASE O.TS_RX_TEMPCO rx (s.dev.rdI 32 O.TS_REGION_TEMP p) ∧
      latencyIs t.dev p O.TS_TX_LATENCY O.TS_TX_BASE O.TS_TX_TEMPCO tx (s.dev.rdI 32 O.TS_REGION_TEMP p) ∧
      t.dev.rd O.TS_CAL_OK p = 1 ∧ t.dev.rd O.TS_CAL_AT p = s.dev.phcTime ∧
      (s.dev.cmdStatus O.TS_CAL_CMD p = 1 → t.dev.rd O.TS_CAL_CMD p = 2 * 256 + s.dev.rd O.TS_CAL_CMD p % 256) ∧
      (s.dev.cmdStatus O.TS_CAL_CMD p ≠ 1 → t.dev.rd O.TS_CAL_CMD p = s.dev.rd O.TS_CAL_CMD p) ∧
      Only [(O.TS_RX_LATENCY, p), (O.TS_TX_LATENCY, p), (O.TS_CAL_OK, p), (O.TS_CAL_AT, p), (O.TS_CAL_CMD, p)] [F.time, F.draws]
        s.dev t.dev) ∧
  (∀ p rx tx s, s.dev.laneOk p = true → s.dev.portEnabled p = true → s.dev.mode ≠ .reset → s.dev.mode ≠ .boot →
    ∃ t, exec (.tsPhaseMeasured p false rx tx) s = .next t ∧ t.dev.rd O.TS_CAL_OK p = 0 ∧
      latencyIs t.dev p O.TS_RX_LATENCY O.TS_RX_BASE O.TS_RX_TEMPCO 0 (s.dev.rdI 32 O.TS_REGION_TEMP p) ∧
      latencyIs t.dev p O.TS_TX_LATENCY O.TS_TX_BASE O.TS_TX_TEMPCO 0 (s.dev.rdI 32 O.TS_REGION_TEMP p) ∧
      Keeps (O.TS_RX_LATENCY :: O.TS_TX_LATENCY :: O.TS_CAL_OK :: O.TS_CAL_AT :: O.TS_CAL_CMD :: F.time :: F.draws :: faulting)
        s.dev t.dev) ∧
  (∀ p temp s, s.dev.clockOn = true → s.dev.laneOk p = true → -(2 ^ 31 : Int) ≤ temp → temp < 2 ^ 31 →
    ∃ t, exec (.tsRegionTempRead p temp) s = .next t ∧ t.dev.rd O.TS_REGION_TEMP p = toTwos 32 temp ∧
      latencyIs t.dev p O.TS_RX_LATENCY O.TS_RX_BASE O.TS_RX_TEMPCO (s.dev.phaseOf p).1 temp ∧
      latencyIs t.dev p O.TS_TX_LATENCY O.TS_TX_BASE O.TS_TX_TEMPCO (s.dev.phaseOf p).2 temp ∧
      Only [(O.TS_REGION_TEMP, p), (O.TS_RX_LATENCY, p), (O.TS_TX_LATENCY, p)] [F.draws] s.dev t.dev)

/-- R127 to R132. -/
def Obligations.TheTimeChainGoesInAndOut : Prop :=
  (∀ (c : Nat) (s : State), s.dev.clockOn = true → s.dev.rd O.PPS_OUT_ENABLE ≠ 0 →
    c = max s.dev.cyc (s.dev.reach (s.dev.ppsInstant (s.dev.ppsSecond s.dev.time.ppsSeen))) →
    ∃ t, exec .ppsOutEdge s = .next t ∧ t.dev.cyc = c ∧ t.dev.time.ppsSeen = t.dev.phc ∧
      ((∀ x, s.dev.time.ppsAt = some x → x + msCycles 500 ≤ c) →
        t.dev.pins = { s.dev.pins with ppsOut := true } ∧ t.dev.time.ppsAt = some c ∧
        t.dev.time.ppsFall = some (c + nsCycles (s.dev.rd O.PPS_OUT_WIDTH_NS)) ∧
        t.dev.time.todDue = some (c + msCycles 100) ∧
        t.dev.out.getLast? = some (.pin "PPS_OUT" (some true))) ∧
      (∀ x, s.dev.time.ppsAt = some x → c < x + msCycles 500 → t.dev.pins = s.dev.pins ∧ t.dev.time.ppsAt = some x) ∧
      Only [] (F.time :: F.pins :: passing) s.dev t.dev) ∧
  (∀ c (s : State), s.dev.clockOn = true → s.dev.time.ppsFall = some c →
    ∃ t, exec .ppsOutFall s = .next t ∧ t.dev.cyc = max s.dev.cyc c ∧ t.dev.pins = { s.dev.pins with ppsOut := false } ∧
      t.dev.time = { s.dev.time with ppsFall := none } ∧ t.dev.out.getLast? = some (.pin "PPS_OUT" (some false)) ∧
      Only [] (F.time :: F.pins :: passing) s.dev t.dev) ∧
  (∀ c (s : State), s.dev.clockOn = true → s.dev.time.todDue = some c → s.dev.rd O.TOD_OUT_ENABLE ≠ 0 →
    ∃ t, exec .todOutMessage s = .next t ∧ t.dev.cyc = max s.dev.cyc c ∧
      t.dev.out.getLast? = some (.tod ((s.dev.passTo c).todBody ++ leBytes 4 (crc32 (s.dev.passTo c).todBody))) ∧
      t.dev.time = { s.dev.time with todDue := none, todSeq := (s.dev.time.todSeq + 1) % 65536 } ∧
      Only [] (F.time :: passing) s.dev t.dev) ∧
  (∀ c (s : State), s.dev.clockOn = true → s.dev.time.todDue = some c → s.dev.rd O.TOD_OUT_ENABLE = 0 →
    ∃ t, exec .todOutMessage s = .next t ∧ t.dev.cyc = max s.dev.cyc c ∧ t.dev.time = { s.dev.time with todDue := none } ∧
      Only [] (F.time :: passing) s.dev t.dev) ∧
  (∀ stamp x (s : State), s.dev.clockOn = true → s.dev.rd O.PPS_IN_ENABLE ≠ 0 → s.dev.time.inAt = some x →
    max s.dev.cyc (s.dev.reach stamp) < x + msCycles 900 →
    ∃ t, exec (.ppsInEdge stamp) s = .next t ∧ t.dev.rd O.PPS_IN_GLITCHES = (s.dev.rd O.PPS_IN_GLITCHES + 1) % 2 ^ 32 ∧
      Only [(O.PPS_IN_GLITCHES, 0)] passing s.dev t.dev) ∧
  (∀ stamp (s : State), s.dev.clockOn = true → s.dev.rd O.PPS_IN_ENABLE ≠ 0 →
    (∀ x, s.dev.time.inAt = some x → x + msCycles 900 ≤ max s.dev.cyc (s.dev.reach stamp)) →
    s.dev.rd O.TIME_UPSTREAM_SEL = 0 ∨ s.dev.rd O.TIME_UPSTREAM_SEL = 3 →
    ∃ t, exec (.ppsInEdge stamp) s = .next t ∧ t.dev.rd O.PPS_IN_STAMP = timeOf stamp ∧
      t.dev.rd O.PPS_IN_COUNT = (s.dev.rd O.PPS_IN_COUNT + 1) % 2 ^ 32 ∧ t.dev.rd O.PPS_IN_VALID = 0 ∧
      t.dev.time.lockRun = 0 ∧ t.dev.time.inAt = some t.dev.cyc ∧
      Only [(O.PPS_IN_STAMP, 0), (O.PPS_IN_COUNT, 0), (O.PPS_IN_VALID, 0)] (F.time :: passing) s.dev t.dev) ∧
  (∀ stamp e n (s u : State), s.dev.clockOn = true → s.dev.rd O.PPS_IN_ENABLE ≠ 0 →
    (∀ x, s.dev.time.inAt = some x → x + msCycles 900 ≤ max s.dev.cyc (s.dev.reach stamp)) →
    s.dev.rd O.TIME_UPSTREAM_SEL = 1 ∨ s.dev.rd O.TIME_UPSTREAM_SEL = 2 →
    u.dev = s.dev.passTo (s.dev.reach stamp) → s.dev.time.selAt + msCycles 10 ≤ u.dev.cyc →
    e = (stamp : Int) - s.dev.selDelay - u.dev.expected ((stamp : Int) - s.dev.selDelay) →
    n = (if e.natAbs < 16 * 65536 then s.dev.time.lockRun + 1 else 0) →
    ∃ t, exec (.ppsInEdge stamp) s = .next t ∧ t.dev.rd O.PPS_IN_ERROR = toTwos 64 e ∧ t.dev.rd O.PPS_IN_VALID = 1 ∧
      t.dev.time.lockRun = n ∧ t.dev.time.validAt = some u.dev.cyc ∧
      (n = 0 → t.dev.rd O.TIME_LOCKED = 0) ∧ (4 ≤ n → t.dev.rd O.TIME_LOCKED = 1) ∧
      (0 < n → n < 4 → t.dev.rd O.TIME_LOCKED = s.dev.rd O.TIME_LOCKED) ∧
      (s.dev.rd O.TIME_FOLLOW = 0 → t.dev.clk = u.dev.clk ∧ t.dev.rd O.PHC_FREQ_ADJ = s.dev.rd O.PHC_FREQ_ADJ) ∧
      (s.dev.rd O.TIME_FOLLOW ≠ 0 → s.dev.rd O.TIME_FOLLOW_STEP_NS * 65536 < e.natAbs →
        t.dev.clk.pend = s.dev.clk.pend ++ [(u.dev.cyc + nsCycles 768, .step (-e))] ∧
        t.dev.rd O.PHC_FREQ_ADJ = s.dev.rd O.PHC_FREQ_ADJ) ∧
      (s.dev.rd O.TIME_FOLLOW ≠ 0 → e.natAbs ≤ s.dev.rd O.TIME_FOLLOW_STEP_NS * 65536 →
        ∃ a x : Int, 65536 * x < e * s.dev.rd O.TIME_FOLLOW_GAIN + 65536 ∧ e * s.dev.rd O.TIME_FOLLOW_GAIN - 65536 < 65536 * x ∧
          ((s.dev.rdI 64 O.PHC_FREQ_ADJ - x).natAbs ≤ 32768000000 → a = s.dev.rdI 64 O.PHC_FREQ_ADJ - x) ∧
          a.natAbs ≤ 32768000000 ∧ t.dev.rd O.PHC_FREQ_ADJ = toTwos 64 a ∧
          t.dev.clk.pend = s.dev.clk.pend ++ [(u.dev.cyc + nsCycles 768, .slew (-e) (s.dev.rd O.PHC_SLEW_PPM)),
            (u.dev.cyc + nsCycles 768, .freqAdj a)]) ∧
      Only [(O.PPS_IN_STAMP, 0), (O.PPS_IN_COUNT, 0), (O.PPS_IN_VALID, 0), (O.PPS_IN_ERROR, 0), (O.TIME_LOCKED, 0),
        (O.PHC_FREQ_ADJ, 0)] (F.time :: F.draws :: passing) s.dev t.dev) ∧
  (∀ stamp e n (s u : State), s.dev.clockOn = true → s.dev.rd O.PPS_IN_ENABLE ≠ 0 →
    (∀ x, s.dev.time.inAt = some x → x + msCycles 900 ≤ max s.dev.cyc (s.dev.reach stamp)) →
    s.dev.rd O.TIME_UPSTREAM_SEL = 1 ∨ s.dev.rd O.TIME_UPSTREAM_SEL = 2 →
    u.dev = s.dev.passTo (s.dev.reach stamp) → u.dev.cyc < s.dev.time.selAt + msCycles 10 →
    e = (stamp : Int) - s.dev.selDelay - u.dev.expected ((stamp : Int) - s.dev.selDelay) →
    n = (if e.natAbs < 16 * 65536 then s.dev.time.lockRun + 1 else 0) →
    ∃ t, exec (.ppsInEdge stamp) s = .next t ∧ t.dev.rd O.PPS_IN_ERROR = toTwos 64 e ∧ t.dev.rd O.PPS_IN_VALID = 0 ∧
      t.dev.time.lockRun = n ∧ t.dev.time.validAt = s.dev.time.validAt ∧
      (n = 0 → t.dev.rd O.TIME_LOCKED = 0) ∧ (4 ≤ n → t.dev.rd O.TIME_LOCKED = 1) ∧
      (0 < n → n < 4 → t.dev.rd O.TIME_LOCKED = s.dev.rd O.TIME_LOCKED) ∧ t.dev.clk = u.dev.clk ∧
      Only [(O.PPS_IN_STAMP, 0), (O.PPS_IN_COUNT, 0), (O.PPS_IN_VALID, 0), (O.PPS_IN_ERROR, 0), (O.TIME_LOCKED, 0)]
        (F.time :: passing) s.dev t.dev) ∧
  (∀ v (s : State), s.dev.clockOn = true → s.dev.rd O.PPS_IN_ENABLE ≠ 0 → s.dev.todGood v = true →
    ∃ t, exec (.todInMessage v) s = .next t ∧ t.dev.rd O.TOD_IN_SECONDS = leNat (slice 4 6 v) ∧
      t.dev.time = { s.dev.time with named := some (leNat (slice 4 6 v), s.dev.cyc) } ∧
      Only [(O.TOD_IN_SECONDS, 0)] [F.time] s.dev t.dev) ∧
  (∀ v (s : State), s.dev.clockOn = true → s.dev.rd O.PPS_IN_ENABLE ≠ 0 → s.dev.todGood v = false →
    ∃ t, exec (.todInMessage v) s = .next t ∧ t.dev.rd O.TOD_IN_ERRORS = (s.dev.rd O.TOD_IN_ERRORS + 1) % 2 ^ 32 ∧
      Only [(O.TOD_IN_ERRORS, 0)] [] s.dev t.dev) ∧
  (∀ c (s : State), s.dev.clockOn = true → s.dev.time.validAt = some c →
    ∃ t, exec .timeLockTimeout s = .next t ∧ t.dev.cyc = max s.dev.cyc (c + msCycles 1100) ∧ t.dev.rd O.TIME_LOCKED = 0 ∧
      t.dev.time = { s.dev.time with lockRun := 0, validAt := none } ∧ Only [(O.TIME_LOCKED, 0)] (F.time :: passing) s.dev t.dev)

namespace Sys2Proof.Machine

/-! ### Frames (R100, R145 to R163, R182 to R191, R251, R256) -/

/-- The command by which frame `x` comes in. -/
def arrives (x : RxFrame) : Instr := if isLine x.port then .lineFrameRx x else .hostFrameRx x

/-- The MAC's counts of a frame (R100): oversize first, then the FCS, then frames and bytes. -/
def rxCounted (x : RxFrame) (a b : Device) : Prop :=
  let p := x.port
  let long := a.rd O.PORT_MAX_FRAME p < frameLen p x.data
  b.rd O.PORT_RX_OVERSIZE p = (if long then (a.rd O.PORT_RX_OVERSIZE p + 1) % 2 ^ 64 else a.rd O.PORT_RX_OVERSIZE p) ∧
  b.rd O.PORT_RX_FCS_ERRORS p =
    (if ¬ long ∧ x.good = false then (a.rd O.PORT_RX_FCS_ERRORS p + 1) % 2 ^ 64 else a.rd O.PORT_RX_FCS_ERRORS p) ∧
  b.rd O.PORT_RX_FRAMES p = (if ¬ long ∧ x.good = true then (a.rd O.PORT_RX_FRAMES p + 1) % 2 ^ 64 else a.rd O.PORT_RX_FRAMES p) ∧
  b.rd O.PORT_RX_BYTES p =
    (if ¬ long ∧ x.good = true then (a.rd O.PORT_RX_BYTES p + (x.data.length + 4)) % 2 ^ 64 else a.rd O.PORT_RX_BYTES p)

/-- The queues and nodes are up to date (R257): after every command on frames they are. -/
def Followed (d : Device) : Prop := d.settle = d

/-- What queues and nodes that follow a change of their frames change besides `traffic` (R257). -/
def following : List Nat := [O.NODE_VTIME, O.NODE_ACTIVE_QUEUES]

/-- Frame `id` is no longer in the device; all others are, in their order. -/
def Gone (id : Nat) (a b : Device) : Prop :=
  b.pipe.frames.map Frame.id = (a.pipe.frames.map Frame.id).filter (fun i => i != id)

/-- Frame `id` is `f`, but for the instant at which it may have begun to leave (R123). -/
def IsNow (d : Device) (id : Nat) (f : Frame) : Prop := ∃ g, d.frame? id = some g ∧ { g with txAt := f.txAt } = f

/-- All cells of a buffered frame that have arrived by now are admitted. -/
def CellsIn (d : Device) (f : Frame) : Prop := d.cellsArrived f ≤ f.taken

/-- A frame of at least 64 bytes that is no MAC control frame comes in at a port that receives. -/
def ComesIn (x : RxFrame) (d : Device) : Prop :=
  d.receives x.port = true ∧ word16 x.data 12 ≠ 0x8808 ∧ 64 ≤ frameLen x.port x.data ∧ Followed d

/-- It enters the pipeline of its slice, whose staging has room. -/
def Enters (x : RxFrame) (d : Device) : Prop :=
  ComesIn x d ∧ d.admissionClosed = false ∧ d.sliceCarries (sliceOfPort x.port) = true ∧ d.staged (Device.portSd x.port) < 256

/-- It has no SecTAG, is not EAPOL, no SC is predicted for it, and the parser program hands it to classification. -/
def Classifies (x : RxFrame) (d : Device) : Prop :=
  Enters x d ∧ frameLen x.port x.data ≤ d.rd O.PORT_MAX_FRAME x.port ∧ takesTag x.port x.data = false ∧
  etherType x.data ≠ 0x888E ∧ d.rd O.RUNAHEAD_ENABLE (sliceOfPort x.port) = 0 ∧
  (parseFrame (Device.progAt d.pipe.active (sliceOfPort x.port)) (isLine x.port) x.data).disposition = 0

/-- The key that the parser program and the key builder give it. -/
def keyOfFrame (x : RxFrame) (d : Device) : Nat :=
  let z := parseFrame (Device.progAt d.pipe.active (sliceOfPort x.port)) (isLine x.port) x.data
  d.buildKey z.profile x.port z.engine.fields

/-- Cells of the slice-direction's own partition are free for a lossy frame of queue `q` with `n` cells. -/
def HasRoom (d : Device) (p sd q n : Nat) : Prop :=
  d.rd O.PORT_FC p = 0 ∧ d.rd O.QUEUE_RESERVE q = 0xFF ∧ d.rd O.QUEUE_MAX_CELLS q = 0 ∧ d.rd O.POL_PIR q = 0 ∧
  d.rd O.BUFP_USED_CELLS (8 + sd) + n ≤ d.rd O.BUFP_SIZE_CELLS (8 + sd)

/-- What an arriving frame may change besides its own counters. -/
def arriving (p : Nat) : List (Nat × Nat) :=
  [(O.PORT_RX_OVERSIZE, p), (O.PORT_RX_FCS_ERRORS, p), (O.PORT_RX_FRAMES, p), (O.PORT_RX_BYTES, p)]

end Sys2Proof.Machine

/-- R100, R270, and E1 to E6 with D1 to D3 of R147 and R148, as far as the cache answers. -/
def Obligations.ArrivingFramesAreCountedParkedOrQueued : Prop :=
  (∀ x s, s.dev.receives x.port = false → Followed s.dev → ∃ t, exec (arrives x) s = .next t ∧ t = s) ∧
  (∀ x s, s.dev.receives x.port = true → Followed s.dev → frameLen x.port x.data < 64 →
    ∃ t, exec (arrives x) s = .next t ∧ t.dev.rd O.PORT_RX_UNDERSIZE x.port = (s.dev.rd O.PORT_RX_UNDERSIZE x.port + 1) % 2 ^ 64 ∧
      Only [(O.PORT_RX_UNDERSIZE, x.port)] (following ++ traffic) s.dev t.dev) ∧
  (∀ x s, s.dev.receives x.port = true → Followed s.dev → word16 x.data 12 = 0x8808 → 64 ≤ frameLen x.port x.data →
    frameLen x.port x.data ≤ s.dev.rd O.PORT_MAX_FRAME x.port → x.good = true →
    ∃ t, exec (.macControlRx x.port x.data) s = .next t ∧ exec (arrives x) s = .next { t with dev := t.dev.settle }) ∧
  (∀ x o s, s.dev.receives x.port = true → Followed s.dev → word16 x.data 12 = 0x8808 → 64 ≤ frameLen x.port x.data →
    (s.dev.rd O.PORT_MAX_FRAME x.port < frameLen x.port x.data ∧ o = O.PORT_RX_OVERSIZE) ∨
      (frameLen x.port x.data ≤ s.dev.rd O.PORT_MAX_FRAME x.port ∧ x.good = false ∧ o = O.PORT_RX_FCS_ERRORS) →
    ∃ t, exec (arrives x) s = .next t ∧ t.dev.rd o x.port = (s.dev.rd o x.port + 1) % 2 ^ 64 ∧
      Only [(o, x.port)] (following ++ traffic) s.dev t.dev) ∧
  (∀ x s, ComesIn x s.dev → s.dev.admissionClosed = true →
    ∃ t, exec (arrives x) s = .next t ∧ rxCounted x s.dev t.dev ∧
      t.dev.rd O.DRAIN_REFUSED_ARRIVALS = (s.dev.rd O.DRAIN_REFUSED_ARRIVALS + 1) % 2 ^ 64 ∧
      Only ((O.DRAIN_REFUSED_ARRIVALS, 0) :: arriving x.port) (following ++ traffic) s.dev t.dev) ∧
  (∀ x s, ComesIn x s.dev → s.dev.admissionClosed = false → s.dev.sliceCarries (sliceOfPort x.port) = false →
    ∃ t, exec (arrives x) s = .next t ∧ rxCounted x s.dev t.dev ∧ Only (arriving x.port) (following ++ traffic) s.dev t.dev) ∧
  (∀ x s, ComesIn x s.dev → s.dev.admissionClosed = false → s.dev.sliceCarries (sliceOfPort x.port) = true →
    256 ≤ s.dev.staged (Device.portSd x.port) →
    ∃ t, exec (arrives x) s = .next t ∧ rxCounted x s.dev t.dev ∧ t.dev.pipe = s.dev.pipe ∧
      t.dev.rd O.BUF_INGRESS_OVERRUNS x.port = (s.dev.rd O.BUF_INGRESS_OVERRUNS x.port + 1) % 2 ^ 64 ∧
      Only ((O.BUF_INGRESS_OVERRUNS, x.port) :: arriving x.port) (following ++ traffic) s.dev t.dev) ∧
  (∀ x o s, Enters x s.dev → frameLen x.port x.data ≤ s.dev.rd O.PORT_MAX_FRAME x.port → takesTag x.port x.data = true →
    o = (if badTag x.data then O.MP_RX_BAD_TAG else O.MP_RX_BAD_LENGTH) → (badTag x.data = true ∨ badLength x.data = true) →
    ∃ t, exec (arrives x) s = .next t ∧ rxCounted x s.dev t.dev ∧ t.dev.rd o x.port = (s.dev.rd o x.port + 1) % 2 ^ 64 ∧
      Gone s.dev.pipe.nextId s.dev t.dev ∧ Only ((o, x.port) :: arriving x.port) (following ++ traffic) s.dev t.dev) ∧
  (∀ x s, Enters x s.dev → frameLen x.port x.data ≤ s.dev.rd O.PORT_MAX_FRAME x.port → takesTag x.port x.data = false →
    etherType x.data = 0x888E → s.dev.rd O.MP_EAPOL x.port = 2 → s.dev.rd O.RUNAHEAD_ENABLE (sliceOfPort x.port) = 0 →
    ∃ t, exec (arrives x) s = .next t ∧ rxCounted x s.dev t.dev ∧
      t.dev.rd O.MP_EAPOL_DROPS x.port = (s.dev.rd O.MP_EAPOL_DROPS x.port + 1) % 2 ^ 64 ∧
      Gone s.dev.pipe.nextId s.dev t.dev ∧
      Only ((O.MP_EAPOL_DROPS, x.port) :: arriving x.port) (following ++ traffic) s.dev t.dev) ∧
  (∀ x s, Classifies x s.dev → s.dev.probe (keyOfFrame x s.dev) = none → s.dev.roomFull (sliceOfPort x.port) = false →
    s.dev.mem.waiting = [] → MemSound s.dev → (∀ g ∈ s.dev.pipe.frames, g.id ≠ s.dev.pipe.nextId) →
    ∃ t, exec (arrives x) s = .next t ∧ rxCounted x s.dev t.dev ∧
      t.dev.rd O.CLS_CACHE_MISSES = (s.dev.rd O.CLS_CACHE_MISSES + 1) % 2 ^ 64 ∧
      t.dev.rd O.CALLROOM_PARKED x.port = (s.dev.rd O.CALLROOM_PARKED x.port + 1) % 2 ^ 64 ∧
      (∃ g ∈ t.dev.pipe.frames, g.id = s.dev.pipe.nextId ∧ g.port = x.port ∧ g.data = x.data ∧ g.key = keyOfFrame x s.dev ∧
        g.stage = .parked ∧ g.looked = none ∧ g.parkedAt = some (s.dev.cyc + (if isLine x.port then 38 else 40)) ∧ g.bad = !x.good ∧
        ((∀ c, s.dev.channelStalled c = false) → g.read.isSome = true) ∧
        g.stamp = ((x.stamp : Int) - s.dev.rdI 32 O.TS_RX_LATENCY x.port).toNat) ∧
      Only ((O.CLS_CACHE_MISSES, 0) :: (O.CALLROOM_PARKED, x.port) :: (O.PARSER_EXCEPTIONS, sliceOfPort x.port) ::
        arriving x.port) (memUsed ++ following ++ traffic) s.dev t.dev) ∧
  (∀ x pos r s, Classifies x s.dev → s.dev.probe (keyOfFrame x s.dev) = some (some pos) → r = s.dev.shownResult pos →
    s.dev.inRoom x.port = [] → s.dev.wrongSlice x.port (resEgress r) = false → resPunt r = false → resPolicy r = 2 →
    ∃ t, exec (arrives x) s = .next t ∧ rxCounted x s.dev t.dev ∧
      t.dev.rd O.CLS_CACHE_HITS = (s.dev.rd O.CLS_CACHE_HITS + 1) % 2 ^ 64 ∧ t.dev.shownResult pos = withHit r true ∧
      t.dev.rd O.MP_POLICY_DROPS x.port = (s.dev.rd O.MP_POLICY_DROPS x.port + 1) % 2 ^ 64 ∧
      Gone s.dev.pipe.nextId s.dev t.dev ∧
      Only ((O.CLS_CACHE_HITS, 0) :: (O.MP_POLICY_DROPS, x.port) :: (O.PARSER_EXCEPTIONS, sliceOfPort x.port) :: arriving x.port)
        (F.clsx :: following ++ traffic) s.dev t.dev) ∧
  (∀ x pos r q s, Classifies x s.dev → s.dev.probe (keyOfFrame x s.dev) = some (some pos) → r = s.dev.shownResult pos →
    s.dev.inRoom x.port = [] → s.dev.wrongSlice x.port (resEgress r) = false → resPunt r = false → resPolicy r = 1 →
    x.good = true → s.dev.rd O.PIPE_MODE x.port = 0 → s.dev.portSpeed (resEgress r) ≤ s.dev.portSpeed x.port →
    frameLen x.port x.data ≤ s.dev.rd O.PORT_MAX_FRAME (resEgress r) → q = 2 * resCa r + boolNat (isLine x.port) →
    (∀ g ∈ s.dev.pipe.frames, g.id ≠ s.dev.pipe.nextId ∧ (Device.buffered g = true → CellsIn s.dev g)) →
    HasRoom s.dev x.port (Device.portSd x.port) q (cellCount x.data.length) →
    ∃ t, exec (arrives x) s = .next t ∧ rxCounted x s.dev t.dev ∧ t.dev.cyc = s.dev.cyc ∧
      (∃ g ∈ t.dev.pipe.frames, g.id = s.dev.pipe.nextId ∧ g.port = x.port ∧ g.data = x.data ∧ g.stage = .queued ∧
        g.egress = resEgress r ∧ g.cls = resClass r ∧ g.ca = resCa r ∧ g.prot = false ∧ g.saf = false ∧
        g.taken = s.dev.cellsArrived g ∧ g.cells.length = g.taken ∧
        t.dev.rd O.QUEUE_OCCUPANCY q = s.dev.rd O.QUEUE_OCCUPANCY q + g.taken) ∧
      (t.dev.queueOf q).frames = (s.dev.queueOf q).frames ++ [s.dev.pipe.nextId] ∧
      Keeps (O.CLS_CACHE_HITS :: O.PARSER_EXCEPTIONS :: O.BUFP_PEAK_CELLS :: F.clsx :: (arriving x.port).map (·.1) ++ following ++ traffic)
        s.dev t.dev)

namespace Sys2Proof.Machine

/-- The oldest and only frame `f` in the room of its port waits for the lookup that has been granted as `x`. -/
def Waits (d : Device) (id : Nat) (f : Frame) (x : LookupRead) : Prop :=
  d.frame? id = some f ∧ f.stage = .parked ∧ f.looked = none ∧ f.read = some x ∧ d.cyc ≤ d.roomLimit f ∧ d.inRoom f.port = [f] ∧
  Followed d

end Sys2Proof.Machine

/-- R157 to R159. -/
def Obligations.TheCallRoomReleasesFrames : Prop :=
  (∀ id f x s, Waits s.dev id f x → f.spoiled = false → s.dev.pipe.overtake = [] →
    ∃ t, exec (.callroomLookupReturn id false) s = .next t ∧ t.dev.cyc = (s.dev.passTo (f.parkedAt.getD 0)).cyc ∧
      (f.secTag = [] → t.dev.rd O.MP_NO_RESULT_DROPS f.port = (s.dev.rd O.MP_NO_RESULT_DROPS f.port + 1) % 2 ^ 64) ∧
      (f.secTag ≠ [] → t.dev.rd O.MP_RX_NO_SC f.port = (s.dev.rd O.MP_RX_NO_SC f.port + 1) % 2 ^ 64) ∧
      Gone id s.dev t.dev ∧
      Only [(O.MP_NO_RESULT_DROPS, f.port), (O.MP_RX_NO_SC, f.port)] (passing ++ following ++ traffic) s.dev t.dev) ∧
  (∀ id f g rest x s, s.dev.frame? id = some f → f.stage = .parked → f.looked = none → f.read = some x → s.dev.cyc ≤ s.dev.roomLimit f →
    s.dev.inRoom f.port = g :: rest → g.id ≠ id → g.looked = none → Followed s.dev →
    ∃ t, exec (.callroomLookupReturn id false) s = .next t ∧ t.dev.frame? id = some { f with looked := some none, read := none } ∧
      Only [] (passing ++ following ++ traffic) s.dev t.dev) ∧
  (∀ id f x r s, Waits s.dev id f x → f.spoiled = false → s.dev.pipe.overtake = [] → f.secTag = [] → x.ok = true → x.result = some r →
    s.dev.wrongSlice f.port (resEgress r) = false → resPunt r = false → resPolicy r = 2 →
    ∃ t, exec (.callroomLookupReturn id true) s = .next t ∧
      t.dev.rd O.MP_POLICY_DROPS f.port = (s.dev.rd O.MP_POLICY_DROPS f.port + 1) % 2 ^ 64 ∧ Gone id s.dev t.dev ∧
      Keeps (O.MP_POLICY_DROPS :: F.clsx :: memUsed ++ passing ++ following ++ traffic) s.dev t.dev) ∧
  (∀ id f x r i s, Waits s.dev id f x → f.spoiled = false → f.secTag = [] → x.ok = true → x.result = some r → resPunt r = false → resPolicy r = 1 →
    (f.port, .clear (2 * resCa r + boolNat f.decrypt), i) ∈ s.dev.pipe.overtake → id < i →
    ∃ t, exec (.callroomLookupReturn id true) s = .next t ∧
      t.dev.rd O.CALLROOM_ORDER_DROPS f.port = (s.dev.rd O.CALLROOM_ORDER_DROPS f.port + 1) % 2 ^ 64 ∧ Gone id s.dev t.dev ∧
      Keeps (O.CALLROOM_ORDER_DROPS :: F.clsx :: memUsed ++ passing ++ following ++ traffic) s.dev t.dev) ∧
  (∀ id f x s, Waits s.dev id f x → f.spoiled = true →
    ∃ t, exec (.callroomLookupReturn id false) s = .next t ∧ Gone id s.dev t.dev ∧
      Only [] (passing ++ following ++ traffic) s.dev t.dev) ∧
  (∀ id f s, s.dev.frame? id = some f → f.stage = .parked → f.read = none → Followed s.dev →
    ∃ t, exec (.callroomLookupReturn id true) s = .next t ∧ t = s) ∧
  (∀ id f s, s.dev.clockOn = true → s.dev.frame? id = some f → f.stage = .parked → f.looked = none → s.dev.inRoom f.port = [f] →
    Followed s.dev →
    ∃ t, exec (.callroomTimeout id) s = .next t ∧ t.dev.cyc = max s.dev.cyc (s.dev.roomLimit f) ∧
      t.dev.rd O.CALLROOM_TIMEOUT_DROPS f.port = (s.dev.rd O.CALLROOM_TIMEOUT_DROPS f.port + 1) % 2 ^ 64 ∧
      Gone id s.dev t.dev ∧
      Only [(O.CALLROOM_TIMEOUT_DROPS, f.port)] (passing ++ following ++ traffic) s.dev t.dev)

namespace Sys2Proof.Machine

/-- `f` is the only frame in flight, a clear one that has arrived and waits in its slice-direction `sd` for an idle port. -/
def WaitsAlone (sd : Nat) (f : Frame) (d : Device) : Prop :=
  d.clockOn = true ∧ sd < 2 * d.slices ∧ d.sliceCarries (sd / 2) = true ∧ d.pipe.frames = [f] ∧ f.stage = .queued ∧ f.prot = false ∧
  f.sd = sd ∧ f.egress ∈ Device.sdPorts sd ∧ f.cls < 8 ∧ f.taken = cellCount f.data.length ∧ d.portEnabled f.egress = true ∧
  d.portSends f.egress = true ∧ d.pipe.credit = [] ∧ d.nodeHeld f.node = false

/-- Protected frame `f` is the next to pass the ordering point of its slice-direction (R147), with nothing to correct or to
compare with a prediction. -/
def Orders (d : Device) (id : Nat) (f : Frame) : Prop :=
  d.frame? id = some f ∧ f.stage = .started ∧ f.decrypt = false ∧ f.ordered = none ∧ d.nextToOrder f.sd = some f ∧ f.prot = true ∧
  f.ring = none ∧ f.tc = 0 ∧ f.pred = none ∧ Followed d

/-- SA `sa` is in force for it, looked up, and its next PN is `pn`. -/
def Numbers (d : Device) (f : Frame) (sa pn : Nat) : Prop :=
  f.ctx.isSome = true ∧ d.rdB O.CA_ENABLE (d.caOf f.sc) = true ∧ d.saInForce f.sc = some sa ∧ d.lookedUp f sa = true ∧ pn = d.nextPn sa

/-- Cell `k` of frame `f` has arrived and comes to the keystream stage (R147, R148). -/
def Comes (d : Device) (id k : Nat) (f : Frame) : Prop :=
  d.frame? id = some f ∧ (f.prot = false → f.decrypt = false → f.ordered.isSome = true) ∧ d.cellComes f k = true ∧
  d.cellArrives f k ≤ d.cyc ∧ CellsIn d f ∧ Followed d

/-- The frame behind a cell that passes: with that cell, and with its end when it was the last. -/
def afterCell (f : Frame) : Frame :=
  let g := if Device.cellsLeft f.passOne then { f.passOne with stage := .sending } else f.passOne.endCells
  { g with sent := Device.handed g, poison := f.poison || f.bad }

end Sys2Proof.Machine

/-- R256; E9 to E14 and D8 to D10 of R147 and R148; R182 to R189; R124. -/
def Obligations.FramesAreStartedNumberedAndSent : Prop :=
  (∀ sd f (s : State), WaitsAlone sd f s.dev → f.ring ≠ none → s.dev.queues = [] →
    (∀ n, (s.dev.nodeOf n).inject = if n = f.node then [f.id] else []) →
    ∃ t, exec (.schedulerFrameStart sd) s = .next t ∧ t.dev.cyc = max s.dev.cyc (natAt s.dev.pipe.startAt sd) ∧
      t.dev.frame? f.id = some { f with stage := .started, started := t.dev.cyc, cells := [] } ∧ (t.dev.nodeOf f.node).inject = [] ∧
      t.dev.rd O.NODE_INJECT_FRAMES f.node = (s.dev.rd O.NODE_INJECT_FRAMES f.node + 1) % 2 ^ 64 ∧
      t.dev.creditOf f.egress = 10240 - 10 * (f.len + 20 : Nat) ∧
      Only [(O.NODE_INJECT_FRAMES, f.node)] (passing ++ following ++ traffic) s.dev t.dev) ∧
  (∀ sd f x (s : State), WaitsAlone sd f s.dev → f.ring = none → s.dev.queues = [(f.q, x)] → x.frames = [f.id] → x.active = false →
    s.dev.nodes = [] → s.dev.rd O.PACER_PIR f.q = 0 → s.dev.rd O.PACER_CIR f.q = 0 →
    ∃ t, exec (.schedulerFrameStart sd) s = .next t ∧ t.dev.cyc = max s.dev.cyc (natAt s.dev.pipe.startAt sd) ∧
      t.dev.frame? f.id = some { f with stage := .started, started := t.dev.cyc, cells := [] } ∧ (t.dev.queueOf f.q).frames = [] ∧
      t.dev.rd O.NODE_TX_FRAMES f.node = (s.dev.rd O.NODE_TX_FRAMES f.node + 1) % 2 ^ 64 ∧
      t.dev.rd O.PACER_EXCESS_BYTES f.q = (s.dev.rd O.PACER_EXCESS_BYTES f.q + f.len) % 2 ^ 64 ∧
      t.dev.creditOf f.egress = 10240 - 10 * (f.len + 20 : Nat) ∧
      Only [(O.NODE_TX_FRAMES, f.node), (O.PACER_EXCESS_BYTES, f.q)] (passing ++ following ++ traffic) s.dev t.dev) ∧
  (∀ id f s, s.dev.frame? id = some f → f.stage = .started → f.decrypt = false → f.ordered = none → s.dev.nextToOrder f.sd = some f →
    f.prot = false → f.ring = none → Followed s.dev →
    ∃ t, exec (.pnAssign id) s = .next t ∧ natAt t.dev.pipe.lastSc f.port = 0 ∧
      t.dev.frame? id = some { f with ordered := some s.dev.cyc, pred := none, ctx := none } ∧
      Only [] (following ++ traffic) s.dev t.dev) ∧
  (∀ id f sa pn g s, Orders s.dev id f → Numbers s.dev f sa pn → pn < s.dev.pnMax (s.dev.caOf f.sc) →
    pn ≠ s.dev.pnThreshold (s.dev.caOf f.sc) → g = s.dev.withPn f pn →
    ∃ t, exec (.pnAssign id) s = .next t ∧ t.dev.frame? id = some { g with ctx := some (s.dev.newCtx g .assigned) } ∧
      t.dev.nextPn sa = pn + 1 ∧ (t.dev.rd O.SA_FLAGS sa).testBit 3 = true ∧ natAt t.dev.sas.lastPn f.sc = pn ∧
      natAt t.dev.pipe.lastSc f.port = f.sc + 1 ∧
      Only [(O.SA_FLAGS, sa), (O.TC_MALFORMED, f.port)] (F.saCtxs :: F.saLastPn :: following ++ traffic) s.dev t.dev) ∧
  (∀ id f sa pn g s, Orders s.dev id f → Numbers s.dev f sa pn → pn = s.dev.pnMax (s.dev.caOf f.sc) →
    s.dev.rd O.SCSA_EARLY_ON_STOP f.sc = 0 → s.dev.rd O.CA_STOP_HOLD_US (s.dev.caOf f.sc) ≠ 0 → EventRoom s.dev →
    g = s.dev.withPn f pn →
    ∃ t, exec (.pnAssign id) s = .next t ∧ t.dev.frame? id = some { g with ctx := some (s.dev.newCtx g .assigned) } ∧
      t.dev.nextPn sa = pn + 1 ∧ t.dev.scStopped f.sc = true ∧ t.dev.scHolding f.sc = true ∧
      natAt t.dev.sas.holdUntil f.sc = s.dev.cyc + usCycles (s.dev.rd O.CA_STOP_HOLD_US (s.dev.caOf f.sc)) ∧
      Only [(O.SA_FLAGS, sa), (O.SC_STATUS, f.sc), (O.TC_MALFORMED, f.port)]
        (F.saCtxs :: F.saLastPn :: F.saHolds :: following ++ traffic ++ noted) s.dev t.dev) ∧
  (∀ id f sa s, Orders s.dev id f → s.dev.rdB O.CA_ENABLE (s.dev.caOf f.sc) = true → s.dev.saInForce f.sc = some sa →
    s.dev.pnMax (s.dev.caOf f.sc) < s.dev.nextPn sa → ∃ t, exec (.pnAssign id) s = .next t ∧ t = s) ∧
  (∀ id f s, Orders s.dev id f → s.dev.rdB O.CA_ENABLE (s.dev.caOf f.sc) = false ∨ s.dev.saInForce f.sc = none →
    ∃ t, exec (.pnAssign id) s = .next t ∧ t.dev.rd O.SC_TX_NO_SA_DROPS f.sc = (s.dev.rd O.SC_TX_NO_SA_DROPS f.sc + 1) % 2 ^ 64 ∧
      Gone id s.dev t.dev ∧ Only [(O.SC_TX_NO_SA_DROPS, f.sc)] (following ++ traffic) s.dev t.dev) ∧
  (∀ sc (s : State), s.dev.clockOn = true → s.dev.scHolding sc = true → s.dev.gunFind 2 sc = none → EventRoom s.dev → Followed s.dev →
    ∃ t, exec (.stopHoldExpiry sc) s = .next t ∧ t.dev.cyc = max s.dev.cyc (natAt s.dev.sas.holdUntil sc) ∧
      t.dev.rd O.SC_STATUS sc = setBit (s.dev.rd O.SC_STATUS sc) 3 false ∧
      Only [(O.SC_STATUS, sc)] (F.saHolds :: noted ++ passing ++ following ++ traffic) s.dev t.dev) ∧
  (∀ id f k s, Comes s.dev id k f → f.prot = true → s.dev.cellReady f = false → f.stalled ≠ k + 1 →
    ∃ t, exec (.keystreamApply id k) s = .next t ∧ t.dev.rd O.BANK_KS_STALLS f.sd = (s.dev.rd O.BANK_KS_STALLS f.sd + 1) % 2 ^ 64 ∧
      t.dev.frame? id = some { f with stalled := k + 1 } ∧ Only [(O.BANK_KS_STALLS, f.sd)] (following ++ traffic) s.dev t.dev) ∧
  (∀ id f k s, Comes s.dev id k f → s.dev.cellReady f = true → ¬ (k = 0 ∧ f.bad = true ∧ f.ends ≤ s.dev.cyc) →
    ∃ t, exec (.keystreamApply id k) s = .next t ∧ IsNow t.dev id (afterCell f) ∧ Only [] (following ++ traffic) s.dev t.dev) ∧
  (∀ id f s, Comes s.dev id 0 f → s.dev.cellReady f = true → f.bad = true → f.ends ≤ s.dev.cyc →
    ∃ t, exec (.keystreamApply id 0) s = .next t ∧ Gone id s.dev t.dev ∧ Only [] (following ++ traffic) s.dev t.dev) ∧
  (∀ id f o s, s.dev.frame? id = some f → f.stage = .tail → f.poison = false → Followed s.dev →
    ((f.icvGood = false ∧ o = O.SA_STAT_NOT_VALID) ∨ (f.icvGood = true ∧ s.dev.commitLate f = true ∧ o = O.SA_STAT_COMMIT_LATE)) →
    ∃ t, exec (.decryptTailVerify id) s = .next t ∧ t.dev.rd o f.sa = (s.dev.rd o f.sa + 1) % 2 ^ 64 ∧
      (f.saf = true → Gone id s.dev t.dev) ∧
      (f.saf = false → IsNow t.dev id { f with ctx := none, poison := true, stage := .sending, sent := f.applied, settled := true }) ∧
      Only [(o, f.sa)] (following ++ traffic) s.dev t.dev) ∧
  (∀ id f s, s.dev.frame? id = some f → f.stage = .tail → f.poison = false → f.icvGood = true → s.dev.commitLate f = false →
    Followed s.dev →
    ∃ t, exec (.decryptTailVerify id) s = .next t ∧
      IsNow t.dev id { f with cells := [], ctx := none, stage := .sending, sent := f.applied, settled := true, committed := true } ∧
      t.dev.ctxOf f.slot = s.dev.replayStep f.ca f.pn (s.dev.ctxOf f.slot) ∧ (t.dev.rd O.SA_FLAGS f.sa).testBit 3 = true ∧
      t.dev.rd O.SA_STAT_PKTS f.sa = (s.dev.rd O.SA_STAT_PKTS f.sa + 1) % 2 ^ 64 ∧
      t.dev.rd O.SA_STAT_OCTETS f.sa = (s.dev.rd O.SA_STAT_OCTETS f.sa + f.userLen) % 2 ^ 64 ∧
      t.dev.rd O.SA_STAT_PKTS_ENCRYPTED f.sa =
        (if f.enc then (s.dev.rd O.SA_STAT_PKTS_ENCRYPTED f.sa + 1) % 2 ^ 64 else s.dev.rd O.SA_STAT_PKTS_ENCRYPTED f.sa) ∧
      Keeps (O.SA_FLAGS :: O.SA_STAT_PKTS :: O.SA_STAT_OCTETS :: O.SA_STAT_PKTS_ENCRYPTED :: O.LEARN_BATON_DROPS :: F.saCtxs ::
        F.clsx :: following ++ traffic) s.dev t.dev) ∧
  (∀ id f c free s, s.dev.clockOn = true → s.dev.frame? id = some f → f.depart = some c → f.tcDone = false → Followed s.dev →
    ∃ t, exec (.tcScheduledDeparture id free) s = .next t ∧ t.dev.cyc = max s.dev.cyc c ∧
      (free = true → f.sent ≠ 0 → f.poison = false → IsNow t.dev id { f with tcDone := true } ∧
        t.dev.rd O.TC_SCHEDULED f.egress = (s.dev.rd O.TC_SCHEDULED f.egress + 1) % 2 ^ 64) ∧
      (free = true → f.sent ≠ 0 → f.poison = true → IsNow t.dev id { f with depart := none }) ∧
      (free = false ∨ f.sent = 0 → Gone id s.dev t.dev ∧
        t.dev.rd O.TC_DEPARTURE_MISSED f.egress = (s.dev.rd O.TC_DEPARTURE_MISSED f.egress + 1) % 2 ^ 64) ∧
      Only [(O.TC_SCHEDULED, f.egress), (O.TC_DEPARTURE_MISSED, f.egress)] (passing ++ following ++ traffic) s.dev t.dev) ∧
  (∀ id f g s, s.dev.frame? id = some f → s.dev.mayEnd f = true → g = (s.dev.leaving f).1 → Followed s.dev →
    ∃ t, exec (.frameTxComplete id) s = .next t ∧ Gone id s.dev t.dev ∧
      Out.frame f.egress g.full (if f.poison then 0xFFFFFFFF - crc32 g.full else crc32 g.full) (!f.poison) s.dev.phc ∈
        t.dev.out.drop s.dev.out.length ∧
      t.dev.rd O.PORT_TX_FRAMES f.egress = (s.dev.rd O.PORT_TX_FRAMES f.egress + 1) % 2 ^ 64 ∧
      t.dev.rd O.PORT_TX_BYTES f.egress = (s.dev.rd O.PORT_TX_BYTES f.egress + (g.full.length + 4)) % 2 ^ 64 ∧
      t.dev.rd O.PORT_TX_POISONED f.egress =
        (if f.poison then (s.dev.rd O.PORT_TX_POISONED f.egress + 1) % 2 ^ 64 else s.dev.rd O.PORT_TX_POISONED f.egress) ∧
      (f.poison = false → f.prot = true → f.decrypt = false →
        t.dev.rd O.SA_STAT_PKTS f.sa = (s.dev.rd O.SA_STAT_PKTS f.sa + 1) % 2 ^ 64) ∧
      (f.poison = false → f.prot = false → f.decrypt = false → f.ring = none →
        t.dev.rd O.CA_CLEAR_PASS_TX f.ca = (s.dev.rd O.CA_CLEAR_PASS_TX f.ca + 1) % 2 ^ 64) ∧
      Keeps (O.PORT_TX_POISONED :: O.CA_CLEAR_PASS_TX :: O.CA_CLEAR_PASS_RX :: O.SA_STAT_PKTS :: O.SA_STAT_OCTETS ::
        O.SA_STAT_PKTS_ENCRYPTED :: O.TC_CORRECTED :: O.TC_SATURATED :: O.TC_MALFORMED :: O.TC_SCHEDULED :: following ++ traffic)
        s.dev t.dev)

/-! ### The host's paths and the parser (R149 to R153, R165 to R168) -/

/-- R165 to R168. -/
def Obligations.PuntAndInjectReachTheHost : Prop :=
  (∀ id f n x kind s, s.dev.frame? id = some f → f.stage = .punt → s.dev.puntFirst f = true → s.dev.cyc ≤ Device.puntLimit f →
    s.dev.puntRing f.reason = some n → s.dev.ringReady n = true → (s.dev.dmaOf n).taken = [] → s.dev.descCheck n x = 0 → x.pcieError = false →
    kind = Device.puntKind f (decide (x.length < f.data.length)) →
    ∃ t, exec (.puntDeliver id x) s = .next t ∧
      Out.hostWrite n x.address (f.data.take x.length) (leBytes 4 (f.data.take x.length).length ++ kind) ∈
        t.dev.out.drop s.dev.out.length ∧
      Out.completion n 0 (f.data.take x.length).length kind ∈ t.dev.out.drop s.dev.out.length ∧
      t.dev.rd O.PUNT_FRAMES f.reason = (s.dev.rd O.PUNT_FRAMES f.reason + 1) % 2 ^ 64 ∧
      t.dev.rd O.RING_HEAD n = (s.dev.rd O.RING_HEAD n + 1) % s.dev.rd O.RING_SIZE n ∧
      Gone id s.dev t.dev ∧
      Only [(O.PUNT_FRAMES, f.reason), (O.RING_HEAD, n)] (F.pcieServed :: traffic) s.dev t.dev) ∧
  (∀ id f n x s, s.dev.frame? id = some f → f.stage = .punt → s.dev.puntFirst f = true → s.dev.cyc ≤ Device.puntLimit f →
    s.dev.puntRing f.reason = some n → s.dev.ringReady n = true → (s.dev.dmaOf n).taken = [] → s.dev.descCheck n x ≠ 0 →
    ∃ t, exec (.puntDeliver id x) s = .next t ∧
      Out.completion n (s.dev.descCheck n x) 0 (fit 16 x.kind) ∈ t.dev.out.drop s.dev.out.length ∧ t.dev.pipe = s.dev.pipe ∧
      Only [(O.RING_HEAD, n), (O.RING_REJECTED, n)]
        [O.PMC_VALUE, O.PMC_STATUS, F.pmc, F.out, F.pcieDma, F.pcieServed, F.pciePending] s.dev t.dev) ∧
  (∀ id f (s : State), s.dev.clockOn = true → s.dev.frame? id = some f → f.stage = .punt →
    ∃ t, exec (.puntDescriptorTimeout id) s = .next t ∧ t.dev.cyc = max s.dev.cyc (Device.puntLimit f) ∧
      t.dev.rd O.PUNT_RING_DROPS f.reason = (s.dev.rd O.PUNT_RING_DROPS f.reason + 1) % 2 ^ 64 ∧
      Gone id s.dev t.dev ∧
      Only [(O.PUNT_RING_DROPS, f.reason)] (passing ++ traffic) s.dev t.dev) ∧
  (∀ n x data d s, s.dev.mode ≠ .reset → n < 64 → s.dev.rd O.RING_KIND n = 2 → s.dev.ringReady n = true → s.dev.descCheck n x = 0 →
    s.dev.puntRoom x.length = true → x.pcieError = false → d = fit x.length data → s.dev.injCheck x d = 0 → Device.injOp x = 0 →
    ∃ t, exec (.injectDescriptor n x data) s = .next t ∧
      t.dev.rd O.RING_HEAD n = (s.dev.rd O.RING_HEAD n + 1) % s.dev.rd O.RING_SIZE n ∧ t.dev.out = s.dev.out ∧
      (∃ g, t.dev.pipe.frames = s.dev.pipe.frames ++ [g] ∧ g.cells.length = cellCount x.length ∧ (∀ c ∈ g.cells, c.src = .part 3) ∧
        { g with cells := [], taken := 0 } = s.dev.injFrame n x d) ∧
      (t.dev.dmaOf n).taken = (s.dev.dmaOf n).taken ++ [⟨s.dev.pipe.nextId, none⟩] ∧
      (t.dev.nodeOf (8 * Device.injPort x + Device.injClass x)).inject =
        (s.dev.nodeOf (8 * Device.injPort x + Device.injClass x)).inject ++ [s.dev.pipe.nextId] ∧
      t.dev.rd O.BUFP_USED_CELLS 3 = s.dev.rd O.BUFP_USED_CELLS 3 + cellCount x.length ∧
      Only [(O.RING_HEAD, n), (O.BUFP_USED_CELLS, 3), (O.BUFP_PEAK_CELLS, 3)] [F.pipe, F.nodes, F.pcieServed, F.pcieDma] s.dev t.dev) ∧
  (∀ n x data c s, s.dev.mode ≠ .reset → n < 64 → s.dev.rd O.RING_KIND n = 2 → s.dev.ringReady n = true → s.dev.descCheck n x = 0 →
    s.dev.puntRoom x.length = true → x.pcieError = false → c = s.dev.injCheck x (fit x.length data) → c ≠ 0 → (s.dev.dmaOf n).taken = [] →
    ∃ t, exec (.injectDescriptor n x data) s = .next t ∧
      Out.completion n 4 x.length ((fit 16 x.kind).take 12 ++ leBytes 2 c ++ leBytes 2 0) ∈ t.dev.out.drop s.dev.out.length ∧
      t.dev.rd O.INJECT_REFUSED = (s.dev.rd O.INJECT_REFUSED + 1) % 2 ^ 64 ∧ t.dev.pipe = s.dev.pipe ∧
      Only [(O.RING_HEAD, n), (O.RING_REJECTED, n), (O.INJECT_REFUSED, 0)]
        [O.PMC_VALUE, O.PMC_STATUS, F.pmc, F.out, F.pcieDma, F.pcieServed, F.pciePending] s.dev t.dev) ∧
  (∀ id stamp f n s, s.dev.frame? id = some f → f.done = false → f.ring = some n → Device.onLane f = true →
    (s.dev.dmaOf n).taken = [⟨id, none⟩] → (s.dev.dmaOf n).stopping = false →
    ∃ t, exec (.injectComplete id stamp) s = .next t ∧ t.dev.frame? id = some { f with done := true } ∧
      Out.completion n 0 (f.len - 4) (Device.injKind f ((stamp : Int) + s.dev.txLatency f.egress).toNat) ∈ t.dev.out.drop s.dev.out.length ∧
      t.dev.rd O.RING_COMPLETED n = (s.dev.rd O.RING_COMPLETED n + 1) % 2 ^ 64 ∧
      Only [(O.RING_COMPLETED, n)] [O.PMC_VALUE, O.PMC_STATUS, F.pmc, F.out, F.pcieDma, F.pciePending, F.pipe] s.dev t.dev) ∧
  (∀ id stamp f n a l s, s.dev.frame? id = some f → f.done = false → f.ring = some n → Device.onLane f = true →
    (s.dev.dmaOf n).taken = ⟨a, none⟩ :: l → a ≠ id →
    ∃ t, exec (.injectComplete id stamp) s = .next t ∧ t.dev.frame? id = some { f with done := true } ∧
      Only [] [F.pcieDma, F.pipe] s.dev t.dev) ∧
  (∀ id f n (s : State), s.dev.clockOn = true → s.dev.frame? id = some f → f.done = false → f.ring = some n → Device.onLane f = false →
    (s.dev.dmaOf n).taken = [⟨id, none⟩] →
    ∃ t, exec (.injectSendTimeout id) s = .next t ∧ t.dev.cyc = max s.dev.cyc (f.arrival + msCycles 1000) ∧
      Out.completion n 4 (f.len - 4) (leBytes 12 0 ++ leBytes 2 6 ++ leBytes 2 0) ∈ t.dev.out.drop s.dev.out.length ∧
      t.dev.rd O.INJECT_REFUSED = (s.dev.rd O.INJECT_REFUSED + 1) % 2 ^ 64 ∧
      Gone id s.dev t.dev ∧ Only [] (passing ++ traffic) s.dev t.dev)

namespace Sys2Proof.Machine

/-- The objects of gun entry `e`. -/
def gunRows (e : Nat) : List (Nat × Nat) :=
  [(O.GUN_STATE, e), (O.GUN_OWNER, e), (O.GUN_TARGET_ROW, e), (O.GUN_TIME, e), (O.GUN_SEQ, e), (O.GUN_TAG, e),
   (O.GUN_TARGET_CYCLE, e), (O.GUN_FIRED_AT, e), (O.GUN_FLAGS, e)]

end Sys2Proof.Machine

/-- R153. -/
def Obligations.ParserProgramsLoadArmAndSwap : Prop :=
  (∀ r k x i s, Asked r O.PARSER_CMD k s.dev → (x = 0 ∧ i = Instr.parserLoadA r k ∨ x = 1 ∧ i = Instr.parserLoadB r k) →
    s.dev.rd O.PARSER_SHADOW_STATE k ≠ 2 →
    ∃ t, exec i s = .next t ∧
      (s.dev.imageOk (Device.parserSlot k x) = true → programOk (s.dev.slotProgram (Device.parserSlot k x)) = true →
        t.dev.rd O.PARSER_SHADOW_STATE k = 1 ∧
        Device.progAt t.dev.pipe.shadow k = s.dev.slotProgram (Device.parserSlot k x) ∧ natAt t.dev.pipe.shadowImage k = x ∧
        t.dev.rd O.PARSER_SHADOW_DIGEST k = programDigest (s.dev.slotProgram (Device.parserSlot k x)) ∧
        t.dev.pipe.active = s.dev.pipe.active ∧ t.dev.pipe.frames = s.dev.pipe.frames ∧
        Result O.PARSER_CMD k 0 2 s.dev t.dev ∧ Answers r 0 t.dev ∧
        Only [(O.PARSER_CMD, k), (O.PARSER_SHADOW_STATE, k), (O.PARSER_SHADOW_DIGEST, k)] (F.pipe :: asked) s.dev t.dev) ∧
      (s.dev.imageOk (Device.parserSlot k x) = true → programOk (s.dev.slotProgram (Device.parserSlot k x)) = false →
        Answers r 0xA106 t.dev ∧ Only [] asked s.dev t.dev) ∧
      (s.dev.imageOk (Device.parserSlot k x) = false → Answers r 0xA406 t.dev ∧ Only [] asked s.dev t.dev)) ∧
  (∀ r k e s, Asked r O.PARSER_CMD k s.dev → s.dev.rd O.PARSER_SHADOW_STATE k ≠ 0 →
    (s.dev.gunPast (s.dev.rd O.PARSER_SWAP_GUN_TIME k) = false ∨ s.dev.rdB O.PARSER_SWAP_LATE_OK k = true) →
    s.dev.gunFind 4 k = none → s.dev.gunPool 4 = some e → EventRoom s.dev →
    ∃ t, exec (.parserArm r k) s = .next t ∧ t.dev.rd O.PARSER_SHADOW_STATE k = 2 ∧ t.dev.rd O.GUN_STATE e = 1 ∧
      t.dev.rd O.GUN_OWNER e = 4 ∧ t.dev.rd O.GUN_TARGET_ROW e = k ∧ t.dev.rd O.GUN_TIME e = s.dev.rd O.PARSER_SWAP_GUN_TIME k ∧
      t.dev.rd O.GUN_TAG e = s.dev.rd O.PARSER_SWAP_TAG k ∧ Result O.PARSER_CMD k 0 2 s.dev t.dev ∧ Answers r 0 t.dev ∧
      Only ((O.PARSER_CMD, k) :: (O.PARSER_SHADOW_STATE, k) :: gunRows e) (F.guns :: F.gunSeq :: announced ++ asked) s.dev t.dev) ∧
  (∀ r k e s, Asked r O.PARSER_CMD k s.dev → s.dev.gunFind 4 k = some e → s.dev.rd O.GUN_STATE e = 1 →
    EventRoom s.dev →
    ∃ t, exec (.parserCancel r k) s = .next t ∧ t.dev.rd O.PARSER_SHADOW_STATE k = boolNat (Device.progAt s.dev.pipe.shadow k != []) ∧ t.dev.rd O.GUN_STATE e = 4 ∧
      t.dev.rd O.GUN_OWNER e = 0 ∧
      Result O.PARSER_CMD k 0 2 s.dev t.dev ∧ Answers r 0 t.dev ∧
      Only [(O.PARSER_CMD, k), (O.PARSER_SHADOW_STATE, k), (O.GUN_STATE, e), (O.GUN_OWNER, e)] (announced ++ asked) s.dev t.dev) ∧
  (∀ e k s, s.dev.clockOn = true → s.dev.gunLive e = true → s.dev.gunFirst e = true → s.dev.rd O.GUN_OWNER e = 4 →
    s.dev.rd O.GUN_TARGET_ROW e = k → s.dev.rd O.SLICE_STATE k = 1 → s.dev.rd O.PARSER_SHADOW_STATE k = 2 → EventRoom s.dev →
    ∃ t, exec (.gunFire e) s = .next t ∧ t.dev.rd O.GUN_STATE e = 3 ∧ t.dev.rd O.GUN_OWNER e = 0 ∧
      Device.progAt t.dev.pipe.active k = Device.progAt s.dev.pipe.shadow k ∧
      Device.progAt t.dev.pipe.shadow k = Device.progAt s.dev.pipe.active k ∧
      t.dev.rd O.PARSER_ACTIVE_IMAGE k = natAt s.dev.pipe.shadowImage k ∧ t.dev.rd O.PARSER_SHADOW_STATE k = 1 ∧
      t.dev.pipe.frames = s.dev.pipe.frames)

namespace Sys2Proof.Machine

/-! ### Cipher banks (R196 to R212) -/

/-- Bank `b` may issue a turn now, of a slice that carries frames, with no retrial of a takeover left and no test due. -/
def BankFree (b : Nat) (d : Device) : Prop :=
  d.clockOn = true ∧ b < 2 * d.slices ∧ d.sliceCarries (b / 2) = true ∧ d.rd O.BANK_STATE b ≠ 3 ∧ d.nextTurn b ≤ d.cyc ∧
  d.redoLeft b = none ∧ d.katsDue b = []

/-- A core of bank `b` may be tested. -/
def MayTest (b core : Nat) (d : Device) : Prop :=
  d.clockOn = true ∧ b < 2 * d.slices ∧ core ≤ 8 ∧ d.rd O.SLICE_STATE (b / 2) ≠ 3 ∧ (d.rd O.BANK_RETIRED_MASK b).testBit core = false

/-- The turns of bank `b` in the last 15 clocks that gave core `core` a block (R210). -/
def blocksOf (b core : Nat) (d : Device) : List Turn :=
  (d.bankOf b).turns.filter (fun x => decide (d.cyc < x.at_ + 15) && Device.usesCore core x)

/-- Slot `slot` holds the SA of a row that is not BAD, and its load into bank `b` has begun at `c`. -/
def Loading (b slot c : Nat) (d : Device) : Prop :=
  d.clockOn = true ∧ (d.bankOf b).loads.find? (fun e => e.1 == slot) = some (slot, c) ∧ d.slotEmpty slot = false ∧
  d.deadSlot slot = false ∧ Followed d

end Sys2Proof.Machine

/-- R200 to R212. -/
def Obligations.BanksServeAuditAndRetire : Prop :=
  (∀ b x (s : State), s.dev.clockOn = true → b < 2 * s.dev.slices → s.dev.sliceCarries (b / 2) = true → s.dev.rd O.BANK_STATE b ≠ 3 →
    s.dev.nextTurn b ≤ s.dev.cyc → s.dev.katsDue b = [] → s.dev.redoLeft b = some x →
    ∃ t, exec (.bankTurn b false) s = .next t ∧ t.dev.rd O.BANK_RETRIALS b = (s.dev.rd O.BANK_RETRIALS b + 1) % 2 ^ 64 ∧
      (t.dev.bankOf b).takeover = some { x with left := x.left - 1 } ∧
      (t.dev.bankOf b).turns.head? = some ⟨s.dev.cyc, .retrial 8, 0, 0⟩ ∧ Only [(O.BANK_RETRIALS, b)] [F.banks] s.dev t.dev) ∧
  (∀ b h (s : State), BankFree b s.dev → s.dev.retrialWaits b false = some h →
    ∃ t, exec (.bankTurn b false) s = .next t ∧ t.dev.rd O.BANK_RETRIALS b = (s.dev.rd O.BANK_RETRIALS b + 1) % 2 ^ 64 ∧
      (t.dev.bankOf b).held = (s.dev.bankOf b).held.map (fun x => if x = h then { x with issued := true } else x) ∧
      (t.dev.bankOf b).turns.head? = some ⟨s.dev.cyc, .retrial ((h.core + 1) % 8), h.frame, h.cell⟩ ∧
      Only [(O.BANK_RETRIALS, b), (O.BANK_SAMPLED, b)] [F.banks] s.dev t.dev) ∧
  (∀ b h (s : State), BankFree b s.dev → s.dev.retrialWaits b false = some h → s.dev.audits b = true →
    s.dev.sampledCore b = (h.core + 1) % 8 →
    ∃ t, exec (.bankTurn b true) s = .next t ∧ t.dev.rd O.BANK_RETRIALS b = (s.dev.rd O.BANK_RETRIALS b + 1) % 2 ^ 64 ∧
      t.dev.rd O.BANK_MISMATCHES b = (s.dev.rd O.BANK_MISMATCHES b + 1) % 2 ^ 64 ∧
      (t.dev.bankOf b).held.getLast? = some ⟨(h.core + 1) % 8, h.frame, h.cell, h.ahead, false⟩ ∧
      Only [(O.BANK_RETRIALS, b), (O.BANK_SAMPLED, b), (O.BANK_MISMATCHES, b)] [F.banks, F.pmc, O.PMC_VALUE, O.PMC_STATUS, F.out, F.pciePending]
        s.dev t.dev) ∧
  (∀ b m f (s : State), BankFree b s.dev → s.dev.retrialWaits b false = none → s.dev.demandJob b = some f →
    (m = false ∨ s.dev.audits b = false) →
    ∃ t, exec (.bankTurn b m) s = .next t ∧
      t.dev.frame? f.id =
        some { f with turns := f.turns + 1, ctx := f.ctx.map (GcmCtx.turn (f.schedKey.getD []) (f.turns == 0)) } ∧
      t.dev.rd O.BANK_SAMPLED b = (if s.dev.audits b then (s.dev.rd O.BANK_SAMPLED b + 1) % 2 ^ 64 else s.dev.rd O.BANK_SAMPLED b) ∧
      (t.dev.bankOf b).lastPort = f.port % 8 ∧ (t.dev.bankOf b).held = (s.dev.bankOf b).held ∧
      Only [(O.BANK_SAMPLED, b)] [F.banks, F.pipe] s.dev t.dev) ∧
  (∀ b f (s : State), BankFree b s.dev → s.dev.retrialWaits b false = none → s.dev.demandJob b = some f → s.dev.audits b = true →
    ∃ t, exec (.bankTurn b true) s = .next t ∧ (∃ g, t.dev.frame? f.id = some g ∧ g.turns = f.turns + 1) ∧
      t.dev.rd O.BANK_MISMATCHES b = (s.dev.rd O.BANK_MISMATCHES b + 1) % 2 ^ 64 ∧
      (t.dev.bankOf b).held = (s.dev.bankOf b).held ++ [⟨s.dev.sampledCore b, f.id, f.turns, false, false⟩] ∧
      Only [(O.BANK_SAMPLED, b), (O.BANK_MISMATCHES, b)] [F.banks, F.pipe, F.pmc, O.PMC_VALUE, O.PMC_STATUS, F.out, F.pciePending]
        s.dev t.dev) ∧
  (∀ b h o c s, (s.dev.bankOf b).held.find? (·.issued) = some h → (o = .umpire ∧ c = h.core ∨ o = .core ∧ c = 8) →
    Uncounted (bankSrc b) s.dev → EventRoom s.dev →
    ∃ t, exec (.retrialResult b o) s = .next t ∧ (t.dev.bankOf b).held = (s.dev.bankOf b).held.filter (fun x => x != h) ∧
      (t.dev.bankOf b).strikes = (c, s.dev.cyc) :: (s.dev.bankOf b).strikes ∧ Only [] (F.banks :: noted) s.dev t.dev) ∧
  (∀ b h s, (s.dev.bankOf b).held.find? (·.issued) = some h →
    ∃ t, exec (.retrialResult b .neither) s = .next t ∧ h ∉ (t.dev.bankOf b).held ∧
      (∀ c ∈ [h.core, (h.core + 1) % 8, 8], (c, s.dev.cyc) ∈ (t.dev.bankOf b).strikes) ∧ Keeps faulting s.dev t.dev) ∧
  (∀ b core s, b < 2 * s.dev.slices → core < 8 → s.dev.strikeDue b core = true → (∀ k, k < 9 → s.dev.dueBefore b core k = false) →
    s.dev.audits b = true →
    ∃ t, exec (.coreStrikeRetire b core) s = .next t ∧
      t.dev.rd O.BANK_RETIRED_MASK b = setBit (s.dev.rd O.BANK_RETIRED_MASK b) core true ∧
      (t.dev.bankOf b).takeover = some ⟨core, s.dev.cyc, 3, blocksOf b core s.dev, (blocksOf b core s.dev).length⟩ ∧
      Only [(O.BANK_RETIRED_MASK, b)] [F.banks] s.dev t.dev) ∧
  (∀ b core y s, b < 2 * s.dev.slices → core ≤ 8 → s.dev.strikeDue b core = true → (∀ k, k < 9 → s.dev.dueBefore b core k = false) →
    (core = 8 ∧ s.dev.audits b = true ∧ y = 1 ∨ s.dev.audits b = false ∧ y = 3) →
    ∃ t, exec (.coreStrikeRetire b core) s = .next t ∧
      t.dev.rd O.BANK_RETIRED_MASK b = setBit (s.dev.rd O.BANK_RETIRED_MASK b) core true ∧ t.dev.rd O.BANK_STATE b = y ∧
      Keeps (O.BANK_RETIRED_MASK :: O.BANK_STATE :: O.SLICE_STATE :: O.SLICE_CAUSE :: O.SLICE_DISCARDED :: faulting) s.dev t.dev) ∧
  (∀ b x (s : State), s.dev.clockOn = true → (s.dev.bankOf b).takeover = some x → s.dev.rd O.BANK_STATE b ≠ 3 →
    ∃ t, exec (.coreTakeoverDone b) s = .next t ∧ t.dev.cyc = max s.dev.cyc (x.at_ + 15) ∧ (t.dev.bankOf b).takeover = none ∧
      t.dev.rd O.BANK_SUBST_CORE b = x.core ∧ t.dev.rd O.BANK_STATE b = 2 ∧
      t.dev.rd O.BANK_RETRIALS b = (s.dev.rd O.BANK_RETRIALS b + x.left) % 2 ^ 64 ∧
      Keeps (O.BANK_SUBST_CORE :: O.BANK_RETRIALS :: O.BANK_STATE :: passing ++ faulting) s.dev t.dev) ∧
  (∀ b core c (s : State), MayTest b core s.dev → s.dev.mode = .boot ∨ s.dev.rd O.SLICE_STATE (b / 2) = 4 →
    c = max s.dev.cyc (s.dev.nextTurn b) →
    ∃ t, exec (.bankKat b core true) s = .next t ∧ t.dev.cyc = c ∧ natAt (t.dev.bankOf b).katAt core = c ∧
      (t.dev.bankOf b).turns.head? = some ⟨c, .kat core, 0, 0⟩ ∧ Only [] (F.banks :: passing) s.dev t.dev) ∧
  (∀ b core c (s : State), MayTest b core s.dev → s.dev.mode ≠ .boot → s.dev.rd O.SLICE_STATE (b / 2) ≠ 4 → s.dev.demandJob b = none →
    s.dev.retrialWaits b false = none → c = max (max s.dev.cyc (s.dev.katDue b core)) (s.dev.nextTurn b) →
    ∃ t, exec (.bankKat b core true) s = .next t ∧ t.dev.cyc = c ∧ natAt (t.dev.bankOf b).katAt core = c ∧
      (t.dev.bankOf b).turns.head? = some ⟨c, .kat core, 0, 0⟩ ∧ Only [] (F.banks :: passing) s.dev t.dev) ∧
  (∀ b core (s : State), MayTest b core s.dev → s.dev.rd O.SLICE_STATE (b / 2) ≠ 4 → s.dev.demandJob b = none →
    s.dev.retrialWaits b false = none →
    ∃ t, exec (.bankKat b core false) s = .next t ∧ t.dev.rd O.BANK_KAT_FAILS b = (s.dev.rd O.BANK_KAT_FAILS b + 1) % 2 ^ 32 ∧
      t.dev.rd O.BANK_RETIRED_MASK b = setBit (s.dev.rd O.BANK_RETIRED_MASK b) core true ∧
      Keeps (O.BANK_KAT_FAILS :: O.BANK_RETIRED_MASK :: O.BANK_STATE :: O.SLICE_STATE :: O.SLICE_CAUSE ::
        O.SLICE_DISCARDED :: passing ++ faulting) s.dev t.dev) ∧
  (∀ b (s : State), s.dev.clockOn = true → b < 2 * s.dev.slices → s.dev.drbgReady = true →
    ∃ t, exec (.umpireLfsrReseed b) s = .next t ∧ t.dev.cyc = max s.dev.cyc ((s.dev.bankOf b).lfsrAt + msCycles 1) ∧
      (t.dev.bankOf b).lfsrAt = t.dev.cyc ∧ (t.dev.bankOf b).lfsr < 2 ^ 32 ∧
      Only [] (F.banks :: F.draws :: F.keyRequests :: passing) s.dev t.dev) ∧
  (∀ r b core s, Asked r O.BANK_CMD b s.dev → core < 8 → (s.dev.rd O.BANK_RETIRED_MASK b).testBit core = false →
    s.dev.audits b = true →
    ∃ t, exec (.bankRetire r b core) s = .next t ∧
      t.dev.rd O.BANK_RETIRED_MASK b = setBit (s.dev.rd O.BANK_RETIRED_MASK b) core true ∧
      (t.dev.bankOf b).takeover = some ⟨core, s.dev.cyc, 3, blocksOf b core s.dev, (blocksOf b core s.dev).length⟩ ∧
      Result O.BANK_CMD b 0 2 s.dev t.dev ∧ Answers r 0 t.dev ∧
      Only [(O.BANK_CMD, b), (O.BANK_RETIRED_MASK, b)] (F.banks :: asked) s.dev t.dev) ∧
  (∀ r b y s, Asked r O.BANK_CMD b s.dev → (s.dev.rd O.BANK_RETIRED_MASK b).testBit 8 = false →
    y = (if s.dev.audits b then 1 else 3) →
    ∃ t, exec (.bankRetire r b 8) s = .next t ∧
      t.dev.rd O.BANK_RETIRED_MASK b = setBit (s.dev.rd O.BANK_RETIRED_MASK b) 8 true ∧ t.dev.rd O.BANK_STATE b = y ∧
      Result O.BANK_CMD b 0 2 s.dev t.dev ∧ Answers r 0 t.dev ∧
      Keeps (O.BANK_CMD :: O.BANK_RETIRED_MASK :: O.BANK_STATE :: O.SLICE_STATE :: O.SLICE_CAUSE ::
        O.SLICE_DISCARDED :: asked ++ faulting) s.dev t.dev) ∧
  (∀ r b core s, Asked r O.BANK_CMD b s.dev → core ≤ 8 → s.dev.rd O.SLICE_STATE (b / 2) = 1 →
    ∃ t, exec (.katNow r b core true) s = .next t ∧ t.dev.cyc = (s.dev.passTo (s.dev.nextTurn b)).cyc ∧
      natAt (t.dev.bankOf b).katAt core = t.dev.cyc ∧
      Result O.BANK_CMD b 0 2 s.dev t.dev ∧ Answers r 0 t.dev ∧ Only [(O.BANK_CMD, b)] (F.banks :: passing ++ asked) s.dev t.dev) ∧
  (∀ b slot c l (s : State), Loading b slot c s.dev → s.dev.ctxGood slot = true → s.dev.attrFits b slot = true →
    s.dev.cacheRoom b = some l → (∀ f ∈ s.dev.waiters b slot, f.stage ≠ .late) →
    ∃ t, exec (.keyScheduleLoadDone b slot true) s = .next t ∧ t.dev.cyc = max s.dev.cyc (c + 24) ∧
      (t.dev.bankOf b).cache = l ++ [⟨slot, (s.dev.ctxOf slot).sak⟩] ∧
      (t.dev.bankOf b).loads = (s.dev.bankOf b).loads.filter (fun e => e.1 != slot) ∧ t.dev.waiters b slot = [] ∧
      (∀ f ∈ s.dev.waiters b slot, f.sa = s.dev.slotRow slot → ∃ g ∈ t.dev.pipe.frames, g.id = f.id ∧
        g.schedKey = some (s.dev.ctxOf slot).sak) ∧
      Only [] (F.banks :: passing ++ following ++ traffic) s.dev t.dev) ∧
  (∀ b slot c l f (s : State), Loading b slot c s.dev → s.dev.ctxGood slot = true → s.dev.attrFits b slot = true →
    s.dev.cacheRoom b = some l → s.dev.waiters b slot = [f] → f.stage = .late →
    ∃ t, exec (.keyScheduleLoadDone b slot true) s = .next t ∧
      t.dev.rd O.SC_RX_LATE f.sc = (s.dev.rd O.SC_RX_LATE f.sc + 1) % 2 ^ 64 ∧ Gone f.id s.dev t.dev ∧
      Only [(O.SC_RX_LATE, f.sc)] (F.banks :: passing ++ following ++ traffic) s.dev t.dev) ∧
  (∀ b slot c (s : State), Loading b slot c s.dev → s.dev.rd O.SA_STATE (s.dev.slotRow slot) = 2 → Calm 0x201 2 s.dev →
    ∃ t, exec (.keyScheduleLoadDone b slot false) s = .next t ∧ t.dev.rd O.SA_STATE (s.dev.slotRow slot) = 7 ∧
      t.dev.rd O.VAULT_CHECK_FAILS = (s.dev.rd O.VAULT_CHECK_FAILS + 1) % 2 ^ 32 ∧
      Keeps (O.VAULT_CHECK_FAILS :: O.SC_BAD_KEY_DROPS :: passing ++ following ++ faulting) s.dev t.dev)

namespace Sys2Proof.Machine

/-! ### Secure associations (R215 to R231) -/

/-- The statistics of an SA row. -/
def saStatRows (pr : Nat) : List (Nat × Nat) :=
  [(O.SA_STAT_PKTS, pr), (O.SA_STAT_OCTETS, pr), (O.SA_STAT_PKTS_ENCRYPTED, pr), (O.SA_STAT_NOT_VALID, pr),
   (O.SA_STAT_COMMIT_LATE, pr), (O.SA_STAT_TX_LOST, pr)]

end Sys2Proof.Machine

/-- R216, R217, R220 to R222, R290. -/
def Obligations.SaRecordsAreProvisionedLoadedAndReleased : Prop :=
  (∀ r pr n k sak s, Asked r O.SA_CMD pr s.dev → s.dev.roleOf r ≠ 2 → s.dev.rd O.SA_STATE pr ∈ [0, 1, 6] →
    s.dev.scUsed (pr / 4) = true → s.dev.rd O.SA_INIT_PN pr ≤ s.dev.pnMax (s.dev.caOf (pr / 4)) → n = s.dev.sakLen (s.dev.caOf (pr / 4)) →
    s.dev.slotOf (s.dev.rd O.SA_KEK pr) = some k → s.dev.rd O.VAULT_PURPOSE k = 1 → s.dev.rd O.VAULT_STATE k = 1 →
    s.dev.vaultGood k = true → kwUnwrap (s.dev.keyBytes k) (leBytes (n + 8) (s.dev.rd O.SA_WRAPPED_SAK pr)) = some sak → MemSound s.dev →
    Unarmed s.dev →
    ∃ t, exec (.saProvision r pr) s = .next t ∧ t.dev.rd O.SA_STATE pr = 1 ∧ t.dev.rd O.SA_WRAPPED_SAK pr = 0 ∧
      t.dev.rd O.SA_FLAGS pr = 0 ∧ (∀ e ∈ saStatRows pr, t.dev.rd e.1 e.2 = 0) ∧
      t.dev.recOf pr = ⟨kwWrap s.dev.keys.storeKey sak, 8 * n, s.dev.suite (s.dev.caOf (pr / 4)), s.dev.rd O.SA_SALT pr,
        s.dev.rd O.SA_SSCI pr, s.dev.rd O.SA_INIT_PN pr, false⟩ ∧
      (s.dev.rd O.VAULT_COUNTED k ≠ 0 → t.dev.rd O.VAULT_USES_LEFT k = s.dev.rd O.VAULT_USES_LEFT k - 1 ∧
        (s.dev.rd O.VAULT_USES_LEFT k = 1 → t.dev.rd O.VAULT_STATE k = 3)) ∧
      Result O.SA_CMD pr 0 2 s.dev t.dev ∧ Answers r 0 t.dev ∧
      Only ([(O.SA_CMD, pr), (O.SA_STATE, pr), (O.SA_CHANGED_AT, pr), (O.SA_WRAPPED_SAK, pr), (O.SA_FLAGS, pr),
        (O.VAULT_USES_LEFT, k), (O.VAULT_STATE, k)] ++ saStatRows pr) (F.saRecs :: memUsed ++ asked) s.dev t.dev) ∧
  (∀ r pr s, Asked r O.SA_CMD pr s.dev → s.dev.roleOf r = 2 →
    ∃ t, exec (.saProvision r pr) s = .next t ∧ Answers r 0xA003 t.dev ∧ Only [] asked s.dev t.dev) ∧
  (∀ r pr sc slot sak (s : State), Asked r O.SA_CMD pr s.dev → sc = pr / 4 → s.dev.rd O.SA_STATE pr = 1 → s.dev.scUsed sc = true →
    s.dev.rd O.SC_PORT sc ≠ 0xFFFF → (s.dev.recOf pr).keyBits = 8 * s.dev.sakLen (s.dev.caOf sc) →
    (s.dev.recOf pr).suite = s.dev.suite (s.dev.caOf sc) →
    slot = (if s.dev.slotRow (2 * sc) = 0xFFFFFFFF ∧ 2 * sc ∉ s.dev.sram.slots then 2 * sc else 2 * sc + 1) →
    s.dev.slotRow slot = 0xFFFFFFFF → slot ∉ s.dev.sram.slots →
    (s.dev.recOf pr).bad = false → kwUnwrap s.dev.keys.storeKey (s.dev.recOf pr).wrapped = some sak → MemSound s.dev →
    s.dev.poisonedLine (Device.recLine pr) = false → s.dev.poisonedLine (Device.recLine pr + 1) = false →
    ∃ t, exec (.saLoad r pr) s = .next t ∧ t.dev.rd O.SA_STATE pr = 2 ∧ t.dev.rd O.SA_SLOT pr = slot ∧ t.dev.slotRow slot = pr ∧
      t.dev.ctxOf slot = { sak := sak, h := Device.hPowers sak, ivBase := s.dev.ivBase pr (s.dev.recOf pr),
                           pn := (s.dev.recOf pr).initPn, gap := 0, attr := s.dev.ctxAttr pr (s.dev.recOf pr),
                           check := (t.dev.ctxOf slot).check } ∧ t.dev.ctxGood slot = true ∧
      Result O.SA_CMD pr 0 2 s.dev t.dev ∧ Answers r 0 t.dev ∧
      Only [(O.SA_CMD, pr), (O.SA_STATE, pr), (O.SA_CHANGED_AT, pr), (O.SA_SLOT, pr), (O.SCSA_SLOT0_ROW, sc), (O.SCSA_SLOT1_ROW, sc)]
        (F.saCtxs :: memUsed ++ asked) s.dev t.dev) ∧
  (∀ r pr sc (s : State), Asked r O.SA_CMD pr s.dev → sc = pr / 4 → s.dev.rd O.SA_STATE pr = 1 → s.dev.scUsed sc = true →
    s.dev.rd O.SC_PORT sc ≠ 0xFFFF → (s.dev.recOf pr).keyBits = 8 * s.dev.sakLen (s.dev.caOf sc) →
    (s.dev.recOf pr).suite = s.dev.suite (s.dev.caOf sc) →
    s.dev.slotRow (2 * sc) ≠ 0xFFFFFFFF → s.dev.slotRow (2 * sc + 1) ≠ 0xFFFFFFFF →
    ∃ t, exec (.saLoad r pr) s = .next t ∧ Answers r 0xA206 t.dev ∧ Only [] asked s.dev t.dev) ∧
  (∀ r pr s, Asked r O.SA_CMD pr s.dev → s.dev.rd O.SA_STATE pr ∈ [1, 6] → MemSound s.dev →
    ∃ t, exec (.saRelease r pr) s = .next t ∧ t.dev.rd O.SA_STATE pr = 0 ∧ t.dev.recOf pr = SaRec.empty ∧
      (∀ e ∈ saStatRows pr, t.dev.rd e.1 e.2 = 0) ∧ Result O.SA_CMD pr 0 2 s.dev t.dev ∧ Answers r 0 t.dev ∧
      Only ([(O.SA_CMD, pr), (O.SA_STATE, pr), (O.SA_CHANGED_AT, pr)] ++ saStatRows pr) (F.saRecs :: memUsed ++ asked) s.dev t.dev)

/-- R219, R222 to R227. -/
def Obligations.SasAreArmedHandedOverAndRetired : Prop :=
  (∀ r pr sc e s, Asked r O.SA_CMD pr s.dev → sc = pr / 4 → s.dev.mode ≠ .drain → s.dev.rd O.SA_STATE pr = 2 →
    (s.dev.rd O.SC_DIR sc = 1 ∨ s.dev.rd O.SC_DIR sc = 2 ∧ s.dev.activeSa sc ≠ none) →
    (s.dev.gunPast (s.dev.rd O.SA_GUN_TIME pr) = false ∨ s.dev.rdB O.SA_LATE_OK pr = true) → s.dev.armedSa sc = none →
    s.dev.gunFind (s.dev.armCode pr) sc = none → s.dev.gunPool 2 = some e → EventRoom s.dev →
    ∃ t, exec (.saArm r pr) s = .next t ∧ t.dev.rd O.SA_STATE pr = 3 ∧ t.dev.rd O.GUN_STATE e = 1 ∧
      t.dev.rd O.GUN_OWNER e = (if s.dev.rd O.SC_DIR sc = 2 then 3 else 2) ∧ t.dev.rd O.GUN_TARGET_ROW e = sc ∧
      t.dev.rd O.GUN_TIME e = s.dev.rd O.SA_GUN_TIME pr ∧ t.dev.rd O.GUN_TAG e = s.dev.rd O.SA_GUN_TAG pr ∧
      t.dev.rd O.SCSA_ZONE_OPEN sc = (if s.dev.rd O.SC_DIR sc = 2 then 1 else 0) ∧
      Result O.SA_CMD pr 0 2 s.dev t.dev ∧ Answers r 0 t.dev ∧
      Only ([(O.SA_CMD, pr), (O.SA_STATE, pr), (O.SA_CHANGED_AT, pr), (O.SC_STATUS, sc), (O.SCSA_ZONE_OPEN, sc)] ++ gunRows e)
        (F.guns :: F.gunSeq :: announced ++ asked) s.dev t.dev) ∧
  (∀ r pr sc s, Asked r O.SA_CMD pr s.dev → sc = pr / 4 → s.dev.mode ≠ .drain → s.dev.rd O.SA_STATE pr = 2 →
    s.dev.rd O.SC_DIR sc = 2 → s.dev.activeSa sc = none →
    ∃ t, exec (.saArm r pr) s = .next t ∧ t.dev.rd O.SA_STATE pr = 4 ∧ t.dev.rd O.SCSA_IN_FORCE_AN sc = pr % 4 ∧
      t.dev.rd O.SC_STATUS sc = 1 ∧ t.dev.rd O.SCSA_HANDOVERS sc = (s.dev.rd O.SCSA_HANDOVERS sc + 1) % 2 ^ 32 ∧
      Result O.SA_CMD pr 0 2 s.dev t.dev ∧ Answers r 0 t.dev ∧
      Only [(O.SA_CMD, pr), (O.SA_STATE, pr), (O.SA_CHANGED_AT, pr), (O.SC_STATUS, sc), (O.SCSA_IN_FORCE_AN, sc),
        (O.SCSA_HANDOVERS, sc), (O.SCSA_ZONE_OPEN, sc)] (F.saHolds :: asked) s.dev t.dev) ∧
  (∀ r pr s, Asked r O.SA_CMD pr s.dev → s.dev.mode = .drain →
    ∃ t, exec (.saArm r pr) s = .next t ∧ Answers r 0xA303 t.dev ∧ Only [] asked s.dev t.dev) ∧
  (∀ r pr sc e s, Asked r O.SA_CMD pr s.dev → sc = pr / 4 → s.dev.rd O.SA_STATE pr = 3 → s.dev.saGun pr = some e →
    s.dev.rd O.GUN_STATE e = 1 → (s.dev.rd O.SC_DIR sc = 2 → s.dev.saInFlight pr = false) → EventRoom s.dev →
    ∃ t, exec (.saCancel r pr) s = .next t ∧ t.dev.rd O.SA_STATE pr = 2 ∧ t.dev.rd O.GUN_STATE e = 4 ∧
      t.dev.rd O.GUN_OWNER e = 0 ∧
      Result O.SA_CMD pr 0 2 s.dev t.dev ∧ Answers r 0 t.dev ∧
      Only [(O.SA_CMD, pr), (O.SA_STATE, pr), (O.SA_CHANGED_AT, pr), (O.SC_STATUS, sc), (O.SCSA_ZONE_OPEN, sc), (O.GUN_STATE, e),
        (O.GUN_OWNER, e)] (announced ++ asked) s.dev t.dev) ∧
  (∀ r pr e s, Asked r O.SA_CMD pr s.dev → s.dev.rd O.SA_STATE pr = 3 → s.dev.saGun pr = some e → s.dev.rd O.GUN_STATE e = 1 →
    s.dev.rd O.SC_DIR (pr / 4) = 2 → s.dev.saInFlight pr = true → EventRoom s.dev →
    ∃ t, exec (.saCancel r pr) s = .next t ∧ t.dev.rd O.SA_STATE pr = 3 ∧ t.dev.rd O.GUN_STATE e = 4 ∧ t.dev.saGun pr ≠ some e ∧
      Result O.SA_CMD pr 0 2 s.dev t.dev ∧ Answers r 0 t.dev ∧
      Only [(O.SA_CMD, pr), (O.GUN_STATE, e), (O.GUN_OWNER, e)] (announced ++ asked) s.dev t.dev) ∧
  (∀ r pr e s, Asked r O.SA_CMD pr s.dev → s.dev.rd O.SA_STATE pr = 3 → s.dev.saGun pr = some e → s.dev.rd O.GUN_STATE e = 2 →
    ∃ t, exec (.saCancel r pr) s = .next t ∧ Answers r 0xA303 t.dev ∧ Only [] asked s.dev t.dev) ∧
  (∀ r pr sc s, Asked r O.SA_CMD pr s.dev → sc = pr / 4 → s.dev.rd O.SA_STATE pr = 4 →
    ∃ t, exec (.saRetire r pr) s = .next t ∧ t.dev.rd O.SA_STATE pr = 5 ∧
      t.dev.rd O.SCSA_IN_FORCE_AN sc = (if s.dev.rd O.SCSA_IN_FORCE_AN sc = pr % 4 then 0xFF else s.dev.rd O.SCSA_IN_FORCE_AN sc) ∧
      Result O.SA_CMD pr 0 2 s.dev t.dev ∧ Answers r 0 t.dev ∧
      Only [(O.SA_CMD, pr), (O.SA_STATE, pr), (O.SA_CHANGED_AT, pr), (O.SC_STATUS, sc), (O.SCSA_IN_FORCE_AN, sc),
        (O.SCSA_ZONE_OPEN, sc)] asked s.dev t.dev) ∧
  (∀ r pr sc i s, Asked r O.SA_CMD pr s.dev → sc = pr / 4 → s.dev.rd O.SA_STATE pr = 7 → s.dev.saInFlight pr = false →
    s.dev.rd O.SA_SLOT pr ≠ 0xFFFFFFFF → s.dev.rd O.SA_SLOT pr / 2 = sc → i ∈ [Instr.saRetire r pr, .saUnload r pr] →
    ∃ t, exec i s = .next t ∧ t.dev.rd O.SA_STATE pr = 6 ∧ t.dev.rd O.SA_SLOT pr = 0xFFFFFFFF ∧
      t.dev.ctxOf (s.dev.rd O.SA_SLOT pr) = SaCtx.empty ∧ Result O.SA_CMD pr 0 2 s.dev t.dev ∧ Answers r 0 t.dev ∧
      Only [(O.SA_CMD, pr), (O.SA_STATE, pr), (O.SA_CHANGED_AT, pr), (O.SC_STATUS, sc), (O.SCSA_IN_FORCE_AN, sc),
        (O.SCSA_ZONE_OPEN, sc), (O.SA_SLOT, pr), (O.SCSA_SLOT0_ROW, sc), (O.SCSA_SLOT1_ROW, sc)] (F.banks :: F.saCtxs :: asked)
        s.dev t.dev) ∧
  (∀ r pr sc s, Asked r O.SA_CMD pr s.dev → sc = pr / 4 → s.dev.rd O.SA_STATE pr = 2 → s.dev.rd O.SA_SLOT pr ≠ 0xFFFFFFFF →
    s.dev.rd O.SA_SLOT pr / 2 = sc →
    ∃ t, exec (.saUnload r pr) s = .next t ∧ t.dev.rd O.SA_STATE pr = (if (s.dev.rd O.SA_FLAGS pr).testBit 3 then 6 else 1) ∧
      t.dev.rd O.SA_SLOT pr = 0xFFFFFFFF ∧ t.dev.ctxOf (s.dev.rd O.SA_SLOT pr) = SaCtx.empty ∧
      (∀ b, b < 8 → t.dev.cachedKey b (s.dev.rd O.SA_SLOT pr) = none) ∧ Result O.SA_CMD pr 0 2 s.dev t.dev ∧ Answers r 0 t.dev ∧
      Only [(O.SA_CMD, pr), (O.SA_STATE, pr), (O.SA_CHANGED_AT, pr), (O.SA_SLOT, pr), (O.SCSA_SLOT0_ROW, sc), (O.SCSA_SLOT1_ROW, sc)]
        (F.banks :: F.saCtxs :: asked) s.dev t.dev) ∧
  (∀ pr s, s.dev.saInFlight pr = false → s.dev.rd O.SA_SLOT pr ≠ 0xFFFFFFFF → s.dev.slotsOf pr = [s.dev.rd O.SA_SLOT pr] →
    s.dev.rd O.SA_STATE pr ∈ [0, 1, 5, 6] →
    ∃ t, exec (.saDrained pr) s = .next t ∧ t.dev.rd O.SA_SLOT pr = 0xFFFFFFFF ∧
      t.dev.ctxOf (s.dev.rd O.SA_SLOT pr) = SaCtx.empty ∧
      t.dev.rd O.SA_STATE pr = (if s.dev.rd O.SA_STATE pr = 5 then 6 else s.dev.rd O.SA_STATE pr) ∧
      Only [(O.SA_STATE, pr), (O.SA_CHANGED_AT, pr), (O.SA_SLOT, pr), (O.SCSA_SLOT0_ROW, pr / 4), (O.SCSA_SLOT1_ROW, pr / 4)]
        [F.banks, F.saCtxs] s.dev t.dev) ∧
  (∀ pr s, s.dev.saInFlight pr = false → s.dev.rd O.SA_SLOT pr ≠ 0xFFFFFFFF → s.dev.slotsOf pr = [s.dev.rd O.SA_SLOT pr] →
    s.dev.rd O.SA_STATE pr = 3 → s.dev.saGun pr = none →
    ∃ t, exec (.saDrained pr) s = .next t ∧ t.dev.rd O.SA_STATE pr = 2 ∧ t.dev.rd O.SA_SLOT pr = s.dev.rd O.SA_SLOT pr ∧
      Only [(O.SA_STATE, pr), (O.SA_CHANGED_AT, pr), (O.SC_STATUS, pr / 4), (O.SCSA_ZONE_OPEN, pr / 4)] [] s.dev t.dev) ∧
  (∀ pr s, s.dev.saInFlight pr = true → s.dev.slotsOf pr = [s.dev.rd O.SA_SLOT pr] →
    ∃ t, exec (.saDrained pr) s = .next t ∧ t = s) ∧
  (∀ e sc pr s, s.dev.clockOn = true → s.dev.gunLive e = true → s.dev.gunFirst e = true →
    (s.dev.rd O.GUN_OWNER e = 2 ∨ s.dev.rd O.GUN_OWNER e = 3) → s.dev.rd O.GUN_TARGET_ROW e = sc → s.dev.armedSa sc = some pr →
    EventRoom s.dev →
    ∃ t, exec (.gunFire e) s = .next t ∧ t.dev.rd O.SA_STATE pr = 4 ∧ t.dev.rd O.SCSA_IN_FORCE_AN sc = pr % 4 ∧
      (∀ o, s.dev.activeSa sc = some o → t.dev.rd O.SA_STATE o = 5) ∧ t.dev.scHolding sc = false ∧ t.dev.scStopped sc = false ∧
      (t.dev.rd O.SA_FLAGS pr).testBit 0 = (s.dev.gunOf e).late ∧ t.dev.rd O.GUN_STATE e = 3 ∧ t.dev.rd O.GUN_OWNER e = 0 ∧
      Keeps (O.SA_STATE :: O.SA_CHANGED_AT :: O.SA_FLAGS :: O.SC_STATUS :: O.SCSA_IN_FORCE_AN :: O.SCSA_HANDOVERS ::
        O.SCSA_ZONE_OPEN :: O.GUN_STATE :: O.GUN_OWNER :: O.GUN_TARGET_CYCLE :: O.GUN_FIRED_AT :: O.GUN_FLAGS :: O.GUN_LATE_COUNT ::
        O.GUN_STEPPED_COUNT :: F.saHolds :: announced ++ passing) s.dev t.dev)

namespace Sys2Proof.Machine

/-! ### Classification, learning and the Peer Link (R234 to R250) -/

/-- The lines of both buckets of `key` read well. -/
def ReadsWell (key : Nat) (d : Device) : Prop :=
  MemSound d ∧
  ∀ i, i < 2 → d.poisonedLine (2 * (d.candidates key).1 + i) = false ∧ d.poisonedLine (2 * (d.candidates key).2 + i) = false

/-- `key` is in neither of its buckets, `p` is the first free way of them, and their lines read well. -/
def FreeFor (key p : Nat) (d : Device) : Prop :=
  ReadsWell key d ∧ d.findKey key = none ∧ (d.freeWay (d.candidates key).1).or (d.freeWay (d.candidates key).2) = some p

/-- The entry at position `p` is now `e`, as lookups and engines see it, and every other is what it was (R237). -/
def WayIs (p : Nat) (e : ClsEnt) (a b : Device) : Prop := b.wayNow p = e ∧ ∀ q, q ≠ p → b.wayNow q = a.wayNow q

/-- What WRITE demands of a staging row (R239). -/
def ClsWritable (w : Nat) (d : Device) : Prop :=
  let key := d.clsKey w
  let res := d.rd O.CLS_RESULT w
  d.laneOk (resEgress res) = true ∧ resCa res < d.numCas ∧ resSc res < d.numScs ∧ keyProfile key ≠ 15 ∧ resKind res = 0 ∧
  resValid res = true ∧ resPolicy res ≠ 3 ∧ keyReserved key = false ∧ bits res 16 2 = 0 ∧
  (keyNoport key = false → d.laneOk (keyPort key) = true ∧ isLine (resEgress res) ≠ isLine (keyPort key) ∧
    sliceOfPort (resEgress res) = sliceOfPort (keyPort key)) ∧
  (resPolicy res = 0 → (keyNoport key = true ∨ isLine (keyPort key) = false) ∧ d.badSc (resSc res) (resEgress res) (resCa res) = false)

/-- What a change of the table may change besides its entries. -/
def tableUsed : List Nat := [O.CLS_ENTRIES, O.CLS_INSERTS, O.LEARN_ENTRIES, F.clsx, F.pipe] ++ memUsed

end Sys2Proof.Machine

/-- R239 to R243. -/
def Obligations.EntriesArePlacedReadAndDeleted : Prop :=
  (∀ r w s, Asked r O.CLS_CMD w s.dev → ClsWritable w s.dev → s.dev.placeable (s.dev.clsKey w) = true →
    ∃ t, exec (.clsWrite r w) s = .next t ∧
      t.dev.clsx = { s.dev.clsx with jobs := s.dev.clsx.jobs ++ [⟨w, s.dev.clsKey w, s.dev.clsStatic w⟩] } ∧
      Result O.CLS_CMD w 0 1 s.dev t.dev ∧ Answers r 0 t.dev ∧ Only [(O.CLS_CMD, w)] (F.clsx :: asked) s.dev t.dev) ∧
  (∀ j rest p s, s.dev.clsx.jobs = j :: rest → FreeFor j.key p s.dev → resValid j.result = true → resKind j.result = 0 →
    ∃ t, exec .insertEngineDone s = .next t ∧ WayIs p ⟨j.key, j.result, 0⟩ s.dev t.dev ∧ t.dev.clsx.jobs = rest ∧
      t.dev.rd O.CLS_ENTRIES = s.dev.rd O.CLS_ENTRIES + 1 ∧
      t.dev.rd O.CLS_INSERTS = (s.dev.rd O.CLS_INSERTS + 1) % 2 ^ 64 ∧
      t.dev.rd O.CLS_CMD j.row = 2 * 256 + s.dev.rd O.CLS_CMD j.row % 256 ∧
      Only [(O.CLS_CMD, j.row)] tableUsed s.dev t.dev) ∧
  (∀ r w s, Asked r O.CLS_CMD w s.dev → ReadsWell (s.dev.clsKey w) s.dev → Unarmed s.dev →
    ∃ t, exec (.clsRead r w) s = .next t ∧
      (s.dev.findKey (s.dev.clsKey w) = none → t.dev.rd O.CLS_FOUND w = 0 ∧ t.dev.rd O.CLS_RESULT w = s.dev.rd O.CLS_RESULT w) ∧
      (∀ p, s.dev.findKey (s.dev.clsKey w) = some p → t.dev.rd O.CLS_FOUND w = 1 ∧ t.dev.rd O.CLS_RESULT w = s.dev.shownResult p) ∧
      Result O.CLS_CMD w 0 2 s.dev t.dev ∧ Answers r 0 t.dev ∧
      Only [(O.CLS_CMD, w), (O.CLS_FOUND, w), (O.CLS_RESULT, w)] (memUsed ++ asked) s.dev t.dev) ∧
  (∀ r w p s, Asked r O.CLS_CMD w s.dev → s.dev.clsx.jobs = [] → ReadsWell (s.dev.clsKey w) s.dev → s.dev.findKey (s.dev.clsKey w) = some p →
    resKind (s.dev.way p).result ≠ 2 →
    ∃ t, exec (.clsDelete r w) s = .next t ∧ WayIs p ClsEnt.empty s.dev t.dev ∧
      t.dev.rd O.CLS_FOUND w = 1 ∧ t.dev.rd O.CLS_ENTRIES = s.dev.rd O.CLS_ENTRIES - 1 ∧
      Result O.CLS_CMD w 0 2 s.dev t.dev ∧ Answers r 0 t.dev ∧
      Only [(O.CLS_CMD, w), (O.CLS_FOUND, w)] (tableUsed ++ asked) s.dev t.dev) ∧
  (∀ r w p s, Asked r O.CLS_CMD w s.dev → s.dev.findKey (s.dev.clsKey w) = some p → resKind (s.dev.way p).result = 2 →
    ∃ t, exec (.clsDelete r w) s = .next t ∧ Answers r 0xA106 t.dev ∧ Only [] asked s.dev t.dev) ∧
  (∀ r sc v p s, Passes r (directAddr O.RXSC_HOST_PORT sc) (leBytes 2 v) s.dev → v < 0xFFFF → s.dev.rd O.RXSC_HOST_PORT sc ≠ v →
    s.dev.rd O.RXSC_ENTRY sc = 0 → s.dev.rd O.SC_DIR sc = 2 → s.dev.rd O.SC_PORT sc ≠ 0xFFFF → s.dev.rd O.SC_SCI sc ≠ 0 →
    s.dev.clsx.jobs = [] → FreeFor (s.dev.rxscKey sc) p s.dev → Quiet s.dev →
    ∃ t, exec (.rxscEntryMaintain r sc .hostPort v) s = .next t ∧ t.dev.rd O.RXSC_HOST_PORT sc = v ∧ t.dev.rd O.RXSC_ENTRY sc = 1 ∧
      WayIs p ⟨s.dev.rxscKey sc, protectResult 2 (s.dev.rd O.RXSC_CLASS sc) v sc (s.dev.rd O.SC_CA sc) 0, 0⟩ s.dev t.dev ∧ Answers r 0 t.dev ∧
      Only [(O.RXSC_HOST_PORT, sc), (O.RXSC_ENTRY, sc)] (tableUsed ++ asked) s.dev t.dev) ∧
  (∀ r sc p s, Passes r (directAddr O.RXSC_HOST_PORT sc) (leBytes 2 0xFFFF) s.dev → s.dev.rd O.RXSC_HOST_PORT sc ≠ 0xFFFF →
    s.dev.rd O.RXSC_ENTRY sc ≠ 0 → s.dev.clsx.jobs = [] → MemSound s.dev → s.dev.findKey (s.dev.rxscKey sc) = some p → Quiet s.dev →
    ∃ t, exec (.rxscEntryMaintain r sc .hostPort 0xFFFF) s = .next t ∧ t.dev.rd O.RXSC_HOST_PORT sc = 0xFFFF ∧
      t.dev.rd O.RXSC_ENTRY sc = 0 ∧ WayIs p ClsEnt.empty s.dev t.dev ∧ Answers r 0 t.dev ∧
      Only [(O.RXSC_HOST_PORT, sc), (O.RXSC_ENTRY, sc)] (tableUsed ++ asked) s.dev t.dev) ∧
  (∀ b s, s.dev.clockOn = true → b < s.dev.buckets → s.dev.rehashing = false → s.dev.visitNext b = true → s.dev.cachedBucket b = true →
    MemSound s.dev →
    ∃ t, exec (.agingScanVisit b) s = .next t ∧ t.dev.cyc = max s.dev.cyc (s.dev.visitCycle (s.dev.nextVisit b)) ∧
      t.dev.clsx.scan = s.dev.nextVisit b + 1 ∧
      (∀ p ∈ Device.waysOf b, (s.dev.wayNow p).learned = false → t.dev.wayNow p = s.dev.wayNow p) ∧
      (∀ p ∈ Device.waysOf b, (s.dev.wayNow p).learned = true → resHit (s.dev.wayNow p).result = true →
        t.dev.wayNow p = { s.dev.wayNow p with result := withStamp (withHit (s.dev.wayNow p).result false) t.dev.now16 }) ∧
      (∀ p ∈ Device.waysOf b, (s.dev.wayNow p).learned = true → resHit (s.dev.wayNow p).result = false → s.dev.rd O.CLS_AGE_S ≠ 0 →
        (s.dev.rd O.CLS_AGE_S : Int) ≤ ofTwos 16 (t.dev.now16 + 65536 - resStamp (s.dev.wayNow p).result) →
        t.dev.wayNow p = ClsEnt.empty) ∧
      (∀ q, q ∉ Device.waysOf b → t.dev.wayNow q = s.dev.wayNow q) ∧
      Keeps (O.CLS_AGED :: tableUsed ++ passing) s.dev t.dev)

/-- R143, R245 to R250. -/
def Obligations.LearningAndPeerMessages : Prop :=
  (∀ b rest sc ret port ca p s, s.dev.clsx.batons = (false, b) :: rest → s.dev.clsx.jobs = [] → s.dev.mode ≠ .drain →
    leNat (slice 0 1 b) = 1 → sc = Device.batonSc b → ret = s.dev.rd O.RXSC_RETURN_SC sc → ret ≠ 0xFFFFFFFF →
    port = s.dev.rd O.SC_PORT sc → ca = Device.batonCa b → s.dev.pairCount port ca < s.dev.rd O.LEARN_LIMIT ca →
    FreeFor (Device.batonKey b) p s.dev → s.dev.rd O.PEER_SEND_BATONS = 0 →
    ∃ t, exec .batonProcess s = .next t ∧ t.dev.clsx.batons = rest ∧
      WayIs p ⟨Device.batonKey b,
        protectResult 1 (s.dev.rd O.RXSC_CLASS sc) (s.dev.rd O.SC_PORT ret) ret ca (Device.batonSeconds b), port⟩ s.dev t.dev ∧
      t.dev.rd O.CLS_INSERTS = (s.dev.rd O.CLS_INSERTS + 1) % 2 ^ 64 ∧
      Only [] tableUsed s.dev t.dev) ∧
  (∀ b rest sc port ca s, s.dev.clsx.batons = (false, b) :: rest → s.dev.clsx.jobs = [] → s.dev.mode ≠ .drain →
    leNat (slice 0 1 b) = 1 → sc = Device.batonSc b → s.dev.rd O.RXSC_RETURN_SC sc ≠ 0xFFFFFFFF → port = s.dev.rd O.SC_PORT sc →
    ca = Device.batonCa b → s.dev.rd O.LEARN_LIMIT ca ≤ s.dev.pairCount port ca → s.dev.findKey (Device.batonKey b) = none →
    ReadsWell (Device.batonKey b) s.dev →
    ∃ t, exec .batonProcess s = .next t ∧ t.dev.clsx = { s.dev.clsx with batons := rest } ∧
      t.dev.rd O.LEARN_UNPINNED ca = (s.dev.rd O.LEARN_UNPINNED ca + 1) % 2 ^ 64 ∧
      Only [(O.LEARN_UNPINNED, ca)] (F.clsx :: memUsed) s.dev t.dev) ∧
  (∀ b rest ca p s, s.dev.clsx.batons = (true, b) :: rest → s.dev.clsx.jobs = [] → s.dev.mode ≠ .drain → leNat (slice 0 1 b) = 1 →
    ca = Device.batonCa b → ReadsWell (Device.batonKey b) s.dev → s.dev.findKey (Device.batonKey b) = some p →
    resKind (s.dev.shownResult p) = 1 → resCa (s.dev.shownResult p) = ca →
    0 < ofTwos 16 (Device.batonSeconds b % 65536 + 65536 - resStamp (s.dev.shownResult p)) →
    ∃ t, exec .batonProcess s = .next t ∧ t.dev.clsx.batons = rest ∧ WayIs p ClsEnt.empty s.dev t.dev ∧
      t.dev.rd O.PEER_MOVED_AWAY = (s.dev.rd O.PEER_MOVED_AWAY + 1) % 2 ^ 64 ∧
      Only [(O.PEER_MOVED_AWAY, 0)] tableUsed s.dev t.dev) ∧
  (∀ b rest s, s.dev.clsx.batons = b :: rest → s.dev.clsx.jobs = [] → s.dev.mode = .drain →
    ∃ t, exec .batonProcess s = .next t ∧ t.dev.clsx = { s.dev.clsx with batons := rest } ∧
      Only [] (F.clsx :: memUsed) s.dev t.dev) ∧
  (∀ r ca s, Asked r O.LEARN_FLUSH ca s.dev → s.dev.clsx.jobs = [] → MemSound s.dev →
    Sparse.wf (fun _ => ClsEnt.empty) s.dev.clsx.table = true → s.dev.clsx.table.length < 2 ^ 32 →
    ∃ t, exec (.learnFlush r ca) s = .next t ∧
      (∀ p, (s.dev.way p).learned = true → resCa (s.dev.way p).result = ca → t.dev.wayNow p = ClsEnt.empty) ∧
      (∀ p, ¬ ((s.dev.way p).learned = true ∧ resCa (s.dev.way p).result = ca) → t.dev.wayNow p = s.dev.wayNow p) ∧
      Result O.LEARN_FLUSH ca 0 2 s.dev t.dev ∧ Answers r 0 t.dev ∧ Only [(O.LEARN_FLUSH, ca)] (tableUsed ++ asked) s.dev t.dev) ∧
  (∀ lane m key o s, s.dev.mode ≠ .reset → lane < 2 → (s.dev.rd O.PEER_ENABLE).testBit lane = true → s.dev.peerKey = some key →
    (Device.peerGood key m = false ∧ o = O.PEER_RX_ERRORS ∨
      Device.peerGood key m = true ∧ s.dev.peerStale m = true ∧ o = O.PEER_RX_DUPLICATES) →
    ∃ t, exec (.peerMessageRx lane m) s = .next t ∧ t.dev.rd o = (s.dev.rd o + 1) % 2 ^ 64 ∧ Only [(o, 0)] [] s.dev t.dev) ∧
  (∀ lane m key s, s.dev.mode ≠ .reset → s.dev.mode ≠ .drain → lane < 2 → (s.dev.rd O.PEER_ENABLE).testBit lane = true →
    s.dev.peerKey = some key → Device.peerGood key m = true → s.dev.peerStale m = false → m.type = 1 → m.count = 1 →
    m.payload.length = 32 → leNat (slice 0 1 m.payload) = 1 → s.dev.clsx.batons.any (Device.sameBaton (true, m.payload)) = false → s.dev.clsx.batons.length < 4096 →
    ∃ t, exec (.peerMessageRx lane m) s = .next t ∧ t.dev.rd O.PEER_RX_MESSAGES = (s.dev.rd O.PEER_RX_MESSAGES + 1) % 2 ^ 64 ∧
      t.dev.clsx.batons = s.dev.clsx.batons ++ [(true, m.payload)] ∧ natAt t.dev.clsx.peerLast m.origin = m.sequence + 1 ∧
      (1 < m.hops → (s.dev.rd O.PEER_ENABLE).testBit (1 - lane) = true → s.dev.rd O.RING_POSITION ≠ 0xFE →
        t.dev.out = s.dev.out ++ [.peer (1 - lane) (Device.peerSeal key { m with hops := m.hops - 1 })]) ∧
      Only [(O.PEER_RX_MESSAGES, 0)] [F.clsx, F.out] s.dev t.dev) ∧
  (∀ lane locked s, s.dev.mode ≠ .reset → lane < 2 →
    ∃ t, exec (.peerBlockLock lane locked) s = .next t ∧ t.dev.rd O.PEER_SYNC = setBit (s.dev.rd O.PEER_SYNC) lane locked ∧
      Only [(O.PEER_SYNC, 0)] [] s.dev t.dev) ∧
  (∀ m row x e (s : State), s.dev.inRing = true → s.dev.forMe m = true → m.type = 8 → (s.dev.ringAccept m).1 = true →
    s.dev.sessionRow ⟨.ring, m.session⟩ = some row → ringTagged m = true → m.tag = ringTag m (s.dev.ksOf row) →
    m.counter = s.dev.rd O.SESSION_LAST_COUNTER row + 1 → x = m.payload → x.length = 36 → leNat (slice 0 1 x) = 1 →
    leNat (slice 8 4 x) ≠ 0 → s.dev.gunMismatch x = some e → EventRoom s.dev →
    ∃ t, exec (.gunMessageRx m) s = .next t ∧ t.dev.rd O.GUN_PEER_MISMATCH = (s.dev.rd O.GUN_PEER_MISMATCH + 1) % 2 ^ 32 ∧
      t.dev.rd O.SESSION_LAST_COUNTER row = m.counter ∧
      Only [(O.GUN_PEER_MISMATCH, 0), (O.SESSION_LAST_COUNTER, row)] noted s.dev t.dev) ∧
  (∀ m row x (s : State), s.dev.inRing = true → s.dev.forMe m = true → m.type = 8 → (s.dev.ringAccept m).1 = true →
    s.dev.sessionRow ⟨.ring, m.session⟩ = some row → ringTagged m = true → m.tag = ringTag m (s.dev.ksOf row) →
    m.counter = s.dev.rd O.SESSION_LAST_COUNTER row + 1 → x = m.payload →
    s.dev.gunMismatch x = none ∨ leNat (slice 0 1 x) ≠ 1 →
    ∃ t, exec (.gunMessageRx m) s = .next t ∧ t.dev.rd O.SESSION_LAST_COUNTER row = m.counter ∧
      Only [(O.SESSION_LAST_COUNTER, row)] [F.sess] s.dev t.dev) ∧
  (∀ m row (s : State), s.dev.inRing = true → s.dev.forMe m = true → m.type = 8 → (s.dev.ringAccept m).1 = true →
    s.dev.sessionRow ⟨.ring, m.session⟩ = some row → ringTagged m = false ∨ m.tag ≠ ringTag m (s.dev.ksOf row) →
    ∃ t, exec (.gunMessageRx m) s = .next t ∧ t.dev.rd O.RING_TAG_ERRORS = (s.dev.rd O.RING_TAG_ERRORS + 1) % 2 ^ 64 ∧
      Only [(O.RING_TAG_ERRORS, 0)] [] s.dev t.dev)

/-- R258, R276 and R279 to R281. -/
def Obligations.TagsAndLapsAreKept : Prop :=
  (∀ c (s u : State), s.dev.clockOn = true → c = (s.dev.cyc / 1250000000 + 1) * 1250000000 → u.dev = (s.dev.passTo c).settle →
    (∀ n, n < 512 → u.dev.rd O.NODE_VTIME n < 2 ^ 63) → (∀ q, (u.dev.queueOf q).finish < 2 ^ 63) →
    ∃ t, exec .tagRenormalize s = .next t ∧ t.dev.cyc = c ∧
      (∀ q x, x = u.dev.queueOf q → ∃ g, t.dev.queueOf q = { x with finish := g } ∧ x.finish ≤ g ∧
        (∀ n, n < 512 → ¬ (x.active = true ∧ x.node = n) → u.dev.rd O.NODE_VTIME n ≤ g) ∧
        (g = x.finish ∨ ∃ n, n < 512 ∧ ¬ (x.active = true ∧ x.node = n) ∧ g = u.dev.rd O.NODE_VTIME n)) ∧
      Only [] (F.queues :: F.nodes :: F.pipe :: following ++ passing) s.dev t.dev) ∧
  (∀ c s, s.dev.laps.closing = some c → c.seq < 2 ^ 32 → MemSound s.dev →
    ∃ t, exec .lapWritebackDone s = .next t ∧ t.dev.laps.closing = none ∧ t.dev.laps.open_ = s.dev.laps.open_ ∧
      t.dev.rd O.LAP_LAST_SEQ = c.seq ∧ t.dev.rd O.LAP_DIR_SEQ (c.seq % 64) = c.seq ∧ t.dev.rd O.LAP_DIR_STATE (c.seq % 64) = 1 ∧
      t.dev.rd O.LAP_DIR_START (c.seq % 64) = c.start ∧ t.dev.rd O.LAP_DIR_END (c.seq % 64) = c.stop ∧
      t.dev.rd O.LAP_DIR_MINUTE (c.seq % 64) = c.minute ∧ t.dev.rd O.LAP_DIR_FLAGS (c.seq % 64) = c.flags ∧
      (60 < c.seq → t.dev.rd O.LAP_DIR_STATE ((c.seq - 60) % 64) = 2) ∧
      (62 < c.seq → t.dev.rd O.LAP_DIR_STATE ((c.seq - 62) % 64) = 0 ∧ t.dev.rd O.LAP_DIR_SEQ ((c.seq - 62) % 64) = 0) ∧
      (∀ q, q < s.dev.numQueues →
        t.dev.slotRecord (c.seq % 63) q = Device.lapBytes c.minute c.flags (Sparse.get (fun _ => LapCnt.zero) c.bank q)) ∧
      Keeps (O.LAP_LAST_SEQ :: O.LAP_DIR_SEQ :: O.LAP_DIR_STATE :: O.LAP_DIR_START :: O.LAP_DIR_END :: O.LAP_DIR_MINUTE ::
        O.LAP_DIR_FLAGS :: F.laps :: memUsed) s.dev t.dev)

namespace Sys2Proof.Machine

/-! ### Key store (R283 to R300) -/

/-- The objects that storing a key in vault slot `k` writes. -/
def slotRows (k : Nat) : List (Nat × Nat) :=
  [(O.VAULT_STATE, k), (O.VAULT_HANDLE, k), (O.VAULT_LEVEL, k), (O.VAULT_PURPOSE, k), (O.VAULT_KEY_BITS, k), (O.VAULT_COUNTED, k),
   (O.VAULT_USES_LEFT, k), (O.VAULT_ORIGIN, k), (O.VAULT_PARENT, k), (O.VAULT_CREATED_AT, k), (O.LA_RANDOM_IV_JOBS, k)]

/-- Slot `k` has been filled with `key` and these attributes: VALID, of the next generation, under a check code that agrees
(R287 to R289, R293). -/
def Filled (k : Nat) (key : Bytes) (bits level purpose uses origin parent : Nat) (a b : Device) : Prop :=
  b.rd O.VAULT_STATE k = 1 ∧ (b.vaultOf k).key = fit 32 key ∧
  (b.vaultOf k).gen = (if (a.vaultOf k).gen = 65535 then 1 else (a.vaultOf k).gen + 1) ∧
  b.rd O.VAULT_HANDLE k = (b.vaultOf k).gen * 65536 + k ∧ b.rd O.VAULT_KEY_BITS k = bits ∧ b.rd O.VAULT_LEVEL k = level ∧
  b.rd O.VAULT_PURPOSE k = purpose ∧ b.rd O.VAULT_USES_LEFT k = uses ∧ b.rdB O.VAULT_COUNTED k = (uses != 0) ∧
  b.rd O.VAULT_ORIGIN k = origin ∧ b.rd O.VAULT_PARENT k = parent ∧ b.rd O.VAULT_CREATED_AT k = a.phcTime ∧ b.vaultGood k = true ∧
  ∀ j, j ≠ k → b.vaultOf j = a.vaultOf j

/-- A use has been taken of slot `q`: the last one of a counted slot exhausts it (R286). -/
def UseTaken (q : Nat) (a b : Device) : Prop :=
  b.rd O.VAULT_USES_LEFT q = (if a.rdB O.VAULT_COUNTED q then a.rd O.VAULT_USES_LEFT q - 1 else a.rd O.VAULT_USES_LEFT q) ∧
  b.rd O.VAULT_STATE q = (if a.rdB O.VAULT_COUNTED q ∧ a.rd O.VAULT_USES_LEFT q ≤ 1 then 3 else a.rd O.VAULT_STATE q)

/-- The key store takes commands: the device is not in SAFE after FATAL (R299). -/
def KeysServed (d : Device) : Prop := d.mode ≠ .safe ∨ d.rd O.FLT_FATAL_SINCE_BOOT = 0

end Sys2Proof.Machine

/-- R285 to R297. -/
def Obligations.KeysAreImportedDerivedAndZeroized : Prop :=
  (∀ r row q p k s, Asked r O.VAULT_CMD row s.dev → KeysServed s.dev → s.dev.slotOf (s.dev.rd O.VAULT_ARG_KEY row) = some q →
    s.dev.rd O.VAULT_PURPOSE q = 1 → s.dev.rd O.VAULT_STATE q = 1 → s.dev.vaultGood q = true →
    kwUnwrap (s.dev.keyBytes q) (leBytes 48 (s.dev.rd O.VAULT_ARG_BLOB row)) = some p → Device.importOk p = true →
    s.dev.freeSlot = some k → Unarmed s.dev →
    ∃ t, exec (.vaultImport r row) s = .next t ∧
      Filled k (slice 8 32 p) (if (leNat (slice 2 1 p)).testBit 0 then 256 else 128) 1 (leNat (slice 1 1 p)) (leNat (slice 4 4 p)) 4 0
        s.dev t.dev ∧ UseTaken q s.dev t.dev ∧ t.dev.rd O.VAULT_RESULT_HANDLE row = t.dev.rd O.VAULT_HANDLE k ∧
      t.dev.rd O.VAULT_ARG_BLOB row = 0 ∧ Result O.VAULT_CMD row 0 2 s.dev t.dev ∧ Answers r 0 t.dev ∧
      Only ([(O.VAULT_CMD, row), (O.VAULT_ARG_BLOB, row), (O.VAULT_RESULT_HANDLE, row), (O.VAULT_USES_LEFT, q), (O.VAULT_STATE, q)] ++
        slotRows k) (F.vault :: asked) s.dev t.dev) ∧
  (∀ r row q e s, Asked r O.VAULT_CMD row s.dev → KeysServed s.dev → s.dev.slotOf (s.dev.rd O.VAULT_ARG_KEY row) = some q →
    s.dev.rd O.VAULT_PURPOSE q = 1 → s.dev.rd O.VAULT_STATE q = 1 → s.dev.vaultGood q = true →
    ((∀ p, kwUnwrap (s.dev.keyBytes q) (leBytes 48 (s.dev.rd O.VAULT_ARG_BLOB row)) = some p → Device.importOk p = false) ∧ e = 0xA106 ∨
      (∃ p, kwUnwrap (s.dev.keyBytes q) (leBytes 48 (s.dev.rd O.VAULT_ARG_BLOB row)) = some p ∧ Device.importOk p = true) ∧
        s.dev.freeSlot = none ∧ e = 0xA206) → Unarmed s.dev →
    ∃ t, exec (.vaultImport r row) s = .next t ∧ UseTaken q s.dev t.dev ∧ t.dev.rd O.VAULT_ARG_BLOB row = 0 ∧
      Result O.VAULT_CMD row e 3 s.dev t.dev ∧ Answers r 0 t.dev ∧
      Only [(O.VAULT_CMD, row), (O.VAULT_ARG_BLOB, row), (O.VAULT_USES_LEFT, q), (O.VAULT_STATE, q)] asked s.dev t.dev) ∧
  (∀ r row e s, Asked r O.VAULT_CMD row s.dev → KeysServed s.dev →
    (s.dev.slotOf (s.dev.rd O.VAULT_ARG_KEY row) = none ∧ e = 0xA101 ∨
      (∃ q, s.dev.slotOf (s.dev.rd O.VAULT_ARG_KEY row) = some q ∧ (s.dev.rd O.VAULT_PURPOSE q ≠ 1 ∧ e = 0xA403 ∨
        s.dev.rd O.VAULT_PURPOSE q = 1 ∧ (s.dev.rd O.VAULT_STATE q = 2 ∨ s.dev.rd O.VAULT_STATE q = 3) ∧ e = 0xA404))) → Unarmed s.dev →
    ∃ t, exec (.vaultImport r row) s = .next t ∧ t.dev.rd O.VAULT_ARG_BLOB row = 0 ∧ Result O.VAULT_CMD row e 3 s.dev t.dev ∧
      Answers r 0 t.dev ∧ Only [(O.VAULT_CMD, row), (O.VAULT_ARG_BLOB, row)] asked s.dev t.dev) ∧
  (∀ r row q k bits s, Asked r O.VAULT_CMD row s.dev → KeysServed s.dev → s.dev.slotOf (s.dev.rd O.VAULT_ARG_KEY row) = some q →
    bits = s.dev.rd O.VAULT_ARG_KEY_BITS row → (bits = 256 ∨ bits = 128 ∧ s.dev.rd O.VAULT_ARG_LEVEL row ≠ 2) →
    (s.dev.rd O.VAULT_ARG_LEVEL row = 2 → s.dev.rd O.VAULT_ARG_USES row = 0) →
    s.dev.argLabel row ≠ [] → Device.labelReserved (s.dev.argLabel row) = false → s.dev.rd O.VAULT_LEVEL q = 2 →
    Device.deriveOk (s.dev.rd O.VAULT_PURPOSE q) (s.dev.rd O.VAULT_ARG_PURPOSE row) = true →
    Device.levelOk (s.dev.rd O.VAULT_ARG_LEVEL row) (s.dev.rd O.VAULT_ARG_PURPOSE row) = true → s.dev.rd O.VAULT_STATE q = 1 →
    s.dev.vaultGood q = true → s.dev.freeSlot = some k →
    ∃ t, exec (.vaultDerive r row) s = .next t ∧
      Filled k (kdf (s.dev.keyBytes q) (s.dev.argLabel row)
          (leBytes (s.dev.rd O.VAULT_ARG_CONTEXT_LEN row) (s.dev.rd O.VAULT_ARG_CONTEXT row)) (bits / 8))
        bits (s.dev.rd O.VAULT_ARG_LEVEL row) (s.dev.rd O.VAULT_ARG_PURPOSE row) (s.dev.rd O.VAULT_ARG_USES row) 3 q s.dev t.dev ∧
      t.dev.rd O.VAULT_RESULT_HANDLE row = t.dev.rd O.VAULT_HANDLE k ∧ Result O.VAULT_CMD row 0 2 s.dev t.dev ∧ Answers r 0 t.dev ∧
      Only ([(O.VAULT_CMD, row), (O.VAULT_RESULT_HANDLE, row)] ++ slotRows k) (F.vault :: asked) s.dev t.dev) ∧
  (∀ r row q e s, Asked r O.VAULT_CMD row s.dev → KeysServed s.dev → s.dev.slotOf (s.dev.rd O.VAULT_ARG_KEY row) = some q →
    s.dev.deriveArgsBad row = false →
    (s.dev.freeSlot = none ∧ e = 0xA206 ∨ s.dev.freeSlot ≠ none ∧ s.dev.rd O.VAULT_LEVEL q ≠ 2 ∧ e = 0xA403 ∨
      s.dev.freeSlot ≠ none ∧ Device.deriveOk (s.dev.rd O.VAULT_PURPOSE q) (s.dev.rd O.VAULT_ARG_PURPOSE row) = false ∧ e = 0xA403 ∨
      s.dev.freeSlot ≠ none ∧ s.dev.deriveMismatch row = false ∧ s.dev.rd O.VAULT_STATE q = 2 ∧ e = 0xA404) →
    ∃ t, exec (.vaultDerive r row) s = .next t ∧ Answers r e t.dev ∧ Only [] asked s.dev t.dev) ∧
  (∀ r row m s, Asked r O.VAULT_CMD row s.dev → KeysServed s.dev → s.dev.successorM = some m → s.dev.rd O.VAULT_STATE 1 = 1 →
    s.dev.vaultGood 1 = true → s.dev.rd O.VAULT_STATE 3 ≠ 1 →
    ∃ t, exec (.deriveSuccessor r row) s = .next t ∧
      Filled 3 (kdf (s.dev.keyBytes 1) (asciiBytes "SEALING-ROOT") (leBytes 32 m) 32) 256 2 0x12 0 5 1 s.dev t.dev ∧
      Result O.VAULT_CMD row 0 2 s.dev t.dev ∧ Answers r 0 t.dev ∧
      Only ((O.VAULT_CMD, row) :: slotRows 3) (F.vault :: asked) s.dev t.dev) ∧
  (∀ r row e s, Asked r O.VAULT_CMD row s.dev → KeysServed s.dev →
    (s.dev.successorM = none ∧ e = 0xA303 ∨ s.dev.successorM ≠ none ∧ s.dev.rd O.VAULT_STATE 1 = 0 ∧ e = 0xA101 ∨
      s.dev.successorM ≠ none ∧ s.dev.rd O.VAULT_STATE 1 ≠ 0 ∧ s.dev.rd O.VAULT_STATE 3 = 1 ∧ e = 0xA201) →
    ∃ t, exec (.deriveSuccessor r row) s = .next t ∧ Answers r e t.dev ∧ Only [] asked s.dev t.dev) ∧
  (∀ r row k s, Asked r O.VAULT_CMD row s.dev → KeysServed s.dev → s.dev.slotOf (s.dev.rd O.VAULT_ARG_KEY row) = some k → 3 ≤ k →
    Unarmed s.dev → (∀ j ∈ s.dev.la.jobs, j.slot ≠ k) →
    ∃ t, exec (.zeroizeSlot r row) s = .next t ∧ t.dev.rd O.VAULT_STATE k = 0 ∧ (t.dev.vaultOf k).key = VaultX.empty.key ∧
      (t.dev.vaultOf k).gen = (s.dev.vaultOf k).gen ∧ (∀ e ∈ slotRows k, e.1 ≠ O.LA_RANDOM_IV_JOBS → t.dev.rd e.1 k = 0) ∧
      (∀ j, j < 1024 → j ≠ k → t.dev.vaultOf j = s.dev.vaultOf j ∧ t.dev.rd O.VAULT_STATE j = s.dev.rd O.VAULT_STATE j) ∧
      t.dev.rd O.VAULT_ARG_KEY row = 0 ∧ (s.dev.rd O.PEER_KEY % 65536 = k → t.dev.rd O.PEER_KEY = 0) ∧
      Result O.VAULT_CMD row 0 2 s.dev t.dev ∧ Answers r 0 t.dev ∧
      Keeps ((slotRows k).map (·.1) ++ [O.VAULT_CMD, O.ROLE_ROOT, O.VAULT_ARG_KEY, O.VAULT_RESULT_HANDLE, O.SA_KEK, O.PEER_KEY] ++
        F.vault :: asked) s.dev t.dev) ∧
  (∀ r row k j s, Asked r O.VAULT_CMD row s.dev → KeysServed s.dev → s.dev.slotOf (s.dev.rd O.VAULT_ARG_KEY row) = some k → 3 ≤ k →
    Unarmed s.dev → s.dev.la.jobs = [j] → j.slot = k →
    ∃ t, exec (.zeroizeSlot r row) s = .next t ∧ t.dev.rd O.VAULT_STATE k = 0 ∧ (t.dev.vaultOf k).key = VaultX.empty.key ∧
      t.dev.la.zeroing = s.dev.la.zeroing ++ [(row, false, [j.ring])] ∧ t.dev.la.jobs = [j] ∧
      Result O.VAULT_CMD row 0 1 s.dev t.dev ∧ Answers r 0 t.dev ∧
      Keeps ((slotRows k).map (·.1) ++ [O.VAULT_CMD, O.ROLE_ROOT, O.VAULT_ARG_KEY, O.VAULT_RESULT_HANDLE, O.SA_KEK, O.PEER_KEY] ++
        F.vault :: F.la :: asked) s.dev t.dev) ∧
  (∀ r row k s, Asked r O.VAULT_CMD row s.dev → KeysServed s.dev → s.dev.slotOf (s.dev.rd O.VAULT_ARG_KEY row) = some k → k < 3 →
    ∃ t, exec (.zeroizeSlot r row) s = .next t ∧ Answers r 0xA403 t.dev ∧ Only [] asked s.dev t.dev) ∧
  (∀ r row s, Asked r O.VAULT_CMD row s.dev → KeysServed s.dev →
    ∃ t, exec (.zeroizeTenant r row) s = .next t ∧ Answers r 0 t.dev ∧ Result O.VAULT_CMD row 0 2 s.dev t.dev ∧
      (∀ pr, pr < 2 ^ 24 → s.dev.rd O.SC_CA (pr / 4) = s.dev.rd O.VAULT_ARG_CA row → t.dev.rd O.SA_STATE pr = 0) ∧
      (∀ pr, pr < 2 ^ 24 → s.dev.rd O.SC_CA (pr / 4) ≠ s.dev.rd O.VAULT_ARG_CA row → t.dev.rd O.SA_STATE pr = s.dev.rd O.SA_STATE pr) ∧
      t.dev.keys.vault = s.dev.keys.vault ∧ Keeps (O.VAULT_CMD :: zeroized ++ asked) s.dev t.dev) ∧
  (∀ r row s, Asked r O.VAULT_CMD row s.dev → KeysServed s.dev → s.dev.la.jobs ≠ [] →
    ∃ t, exec (.zeroizeAll r row) s = .next t ∧ Result O.VAULT_CMD row 0 1 s.dev t.dev ∧ (∀ k, k < 1024 → t.dev.rd O.VAULT_STATE k = 0) ∧
      (∀ n, t.dev.rd O.SESSION_STATE n = s.dev.rd O.SESSION_STATE n) ∧ Answers r 0 t.dev ∧
      t.dev.la.zeroing = s.dev.la.zeroing ++ [(row, true, s.dev.la.jobs.map LaJob.ring)] ∧
      Keeps (O.VAULT_CMD :: zeroized ++ asked) s.dev t.dev) ∧
  (∀ r row s, Asked r O.VAULT_CMD row s.dev → KeysServed s.dev → s.dev.la.jobs = [] →
    ∃ t, exec (.zeroizeAll r row) s = .next t ∧ Result O.VAULT_CMD row 0 2 s.dev t.dev ∧
      (∀ k, k < 1024 → t.dev.rd O.VAULT_STATE k = 0 ∧ (s.dev.rd O.VAULT_STATE k ≠ 0 → (t.dev.vaultOf k).key = VaultX.empty.key)) ∧
      (∀ pr, t.dev.rd O.SA_STATE pr = 0) ∧ (∀ n, 1 ≤ n → n ≤ 52 → t.dev.rd O.SESSION_STATE n = 0) ∧ Answers r 0 t.dev ∧
      Keeps (O.VAULT_CMD :: zeroized ++ asked) s.dev t.dev) ∧
  (∀ r row i s, Asked r O.VAULT_CMD row s.dev → s.dev.mode = .safe → s.dev.rd O.FLT_FATAL_SINCE_BOOT = 1 →
    i ∈ [Instr.vaultImport r row, .vaultDerive r row, .deriveSuccessor r row, .zeroizeSlot r row, .zeroizeTenant r row,
      .zeroizeAll r row] →
    ∃ t, exec i s = .next t ∧ Answers r 0xA303 t.dev ∧ Only [] asked s.dev t.dev)

namespace Sys2Proof.Machine

/-- The fault collector sees source `src`: its pair is not broken and the device is not in RESET (R367). -/
def Seen (src : Nat) (d : Device) : Prop := d.rd O.FLT_SRC_STATE src ≠ 2 ∧ d.mode ≠ .reset

end Sys2Proof.Machine

/-- R291, R297, R298. -/
def Obligations.KeysAreScrubbedAndRandomnessIsTested : Prop :=
  (∀ x p (s : State), s.dev.clockOn = true → p = Device.scrubPos x → s.dev.scrubNext p = true →
    (∀ k, x = .vault k → s.dev.vaultGood k = true) → (∀ k, x = .context k → s.dev.ctxGood k = true) →
    ∃ t, exec (.vaultScrubVisit x true) s = .next t ∧ t.dev.cyc = max s.dev.cyc (s.dev.scrubCycle p) ∧
      ((∃ q ∈ s.dev.scrubPlaces, p < q) → t.dev.keys.scrubAt = p + 1 ∧ t.dev.rd O.VAULT_SCRUB_PASSES = s.dev.rd O.VAULT_SCRUB_PASSES) ∧
      ((∀ q ∈ s.dev.scrubPlaces, q ≤ p) → t.dev.keys.scrubAt = 0 ∧ t.dev.keys.scrubFrom = s.dev.keys.scrubFrom + s.dev.scrubPeriod ∧
        t.dev.rd O.VAULT_SCRUB_PASSES = (s.dev.rd O.VAULT_SCRUB_PASSES + 1) % 2 ^ 64) ∧
      Only [(O.VAULT_SCRUB_PASSES, 0)] (F.keyScrub :: F.keyScrubFrom :: passing) s.dev t.dev) ∧
  (∀ k ok (s : State), s.dev.clockOn = true → k < 1024 → s.dev.scrubNext k = true → (ok = false ∨ s.dev.vaultGood k = false) →
    Calm 0x201 2 s.dev → Seen 0x201 s.dev → EventRoom s.dev →
    ∃ t, exec (.vaultScrubVisit (.vault k) ok) s = .next t ∧ t.dev.rd O.VAULT_STATE k = 2 ∧
      t.dev.rd O.VAULT_CHECK_FAILS = (s.dev.rd O.VAULT_CHECK_FAILS + 1) % 2 ^ 32 ∧ (t.dev.rd O.FLT_STATUS).testBit 2 = true ∧
      Only [(O.VAULT_STATE, k), (O.VAULT_CHECK_FAILS, 0), (O.VAULT_SCRUB_PASSES, 0), (O.FLT_SRC_CLASS, 0x201)]
        (F.keyScrub :: F.keyScrubFrom :: O.FLT_STATUS :: (noted ++ passing)) s.dev t.dev) ∧
  (∀ k ok (s : State), s.dev.clockOn = true → s.dev.scrubNext (1024 + k) = true → (ok = false ∨ s.dev.ctxGood k = false) →
    s.dev.rd O.SA_STATE (s.dev.slotRow k) ∈ [2, 3, 4, 5] → Calm 0x201 2 s.dev → Seen 0x201 s.dev →
    ∃ t, exec (.vaultScrubVisit (.context k) ok) s = .next t ∧ t.dev.rd O.SA_STATE (s.dev.slotRow k) = 7 ∧
      t.dev.rd O.VAULT_CHECK_FAILS = (s.dev.rd O.VAULT_CHECK_FAILS + 1) % 2 ^ 32 ∧ (t.dev.rd O.FLT_STATUS).testBit 2 = true ∧
      Keeps (O.VAULT_CHECK_FAILS :: O.VAULT_SCRUB_PASSES :: (faulting ++ passing)) s.dev t.dev) ∧
  (∀ s, s.dev.rd O.DRBG_STATE = 1 → 2 ^ 20 ≤ s.dev.keys.requests ∨ s.dev.clockOn = true →
    ∃ t, exec .drbgReseed s = .next t ∧ t.dev.rd O.DRBG_RESEEDS = (s.dev.rd O.DRBG_RESEEDS + 1) % 2 ^ 64 ∧
      t.dev.keys.requests = 0 ∧ t.dev.keys.reseedAt = t.dev.cyc ∧
      (2 ^ 20 ≤ s.dev.keys.requests → t.dev.cyc = s.dev.cyc) ∧
      (s.dev.keys.requests < 2 ^ 20 → t.dev.cyc = max s.dev.cyc (s.dev.keys.reseedAt + msCycles 1000)) ∧
      Only [(O.DRBG_RESEEDS, 0)] (F.keyReseed :: F.keyRequests :: passing) s.dev t.dev) ∧
  (∀ s, s.dev.rd O.DRBG_STATE = 1 → Calm 0x202 2 s.dev → Seen 0x202 s.dev → EventRoom s.dev →
    ∃ t, exec .entropyTestFail s = .next t ∧ t.dev.rd O.DRBG_STATE = 2 ∧ t.dev.drbgReady = true ∧
      t.dev.keys.restartBy = s.dev.cyc + msCycles 1000 ∧
      t.dev.rd O.ENTROPY_TEST_FAILS = (s.dev.rd O.ENTROPY_TEST_FAILS + 1) % 2 ^ 32 ∧ (t.dev.rd O.FLT_STATUS).testBit 2 = true ∧
      Only [(O.DRBG_STATE, 0), (O.ENTROPY_TEST_FAILS, 0), (O.FLT_SRC_CLASS, 0x202)]
        (F.keyTests :: F.keyRestart :: O.FLT_STATUS :: noted) s.dev t.dev) ∧
  (∀ s, s.dev.rd O.DRBG_STATE = 2 →
    ∃ t, exec (.entropyRestartDone true) s = .next t ∧ t.dev.rd O.DRBG_STATE = 1 ∧ Only [(O.DRBG_STATE, 0)] [F.keyTests] s.dev t.dev) ∧
  (∀ s, s.dev.rd O.DRBG_STATE = 2 → s.dev.keys.entropyFails < 2 →
    ∃ t, exec (.entropyRestartDone false) s = .next t ∧ t.dev.rd O.DRBG_STATE = 2 ∧
      t.dev.keys.entropyFails = s.dev.keys.entropyFails + 1 ∧
      t.dev.rd O.ENTROPY_TEST_FAILS = (s.dev.rd O.ENTROPY_TEST_FAILS + 1) % 2 ^ 32 ∧
      Only [(O.ENTROPY_TEST_FAILS, 0)] [F.keyTests] s.dev t.dev) ∧
  (∀ i s, (i = Instr.entropyRestartDone false ∧ s.dev.rd O.DRBG_STATE = 2 ∨
      i = .drbgReinstantiate false ∧ s.dev.rd O.FLT_FATAL_SINCE_BOOT = 1 ∧ s.dev.rd O.DRBG_STATE = 0 ∧ s.dev.mode ≠ .boot) →
    s.dev.keys.entropyFails = 2 → Calm 0x202 3 s.dev → Seen 0x202 s.dev →
    ∃ t, exec i s = .next t ∧ t.dev.rd O.DRBG_STATE = 3 ∧ t.dev.drbgReady = false ∧ (t.dev.rd O.FLT_STATUS).testBit 3 = true ∧
      (s.dev.mode ≠ .boot → t.dev.mode = .safe) ∧ Keeps (O.ENTROPY_TEST_FAILS :: F.keyTests :: faulting) s.dev t.dev) ∧
  (∀ s, s.dev.rd O.FLT_FATAL_SINCE_BOOT = 1 → s.dev.rd O.DRBG_STATE = 0 → s.dev.mode ≠ .boot →
    ∃ t, exec (.drbgReinstantiate true) s = .next t ∧ t.dev.rd O.DRBG_STATE = 1 ∧ t.dev.keys.requests = 0 ∧
      t.dev.keys.reseedAt = s.dev.cyc ∧ Only [(O.DRBG_STATE, 0)] [F.keyTests, F.keyReseed, F.keyRequests] s.dev t.dev) ∧
  (∀ i s, (i = Instr.drbgReseed ∧ s.dev.rd O.DRBG_STATE ≠ 1 ∨ i = .entropyTestFail ∧ s.dev.rd O.DRBG_STATE ≠ 1 ∨
      (∃ b, i = .entropyRestartDone b) ∧ s.dev.rd O.DRBG_STATE ≠ 2 ∨ (∃ b, i = .drbgReinstantiate b) ∧ s.dev.rd O.DRBG_STATE ≠ 0) →
    ∃ t, exec i s = .next t ∧ t = s)

namespace Sys2Proof.Machine

/-! ### Lookaside engine (R301 to R311) -/

/-- What completing a descriptor changes beside the ring's own counts (R74, R75, R393). -/
def completing : List Nat := [O.PMC_VALUE, O.PMC_STATUS, F.pmc, F.out, F.pcieDma, F.pciePending]

/-- A job apart from whether it holds a context, and of which core. -/
def bareJob (j : LaJob) : LaJob := { j with core := 0, yielded := false }

/-- Ring `n` is the next of the lookaside rotation, with a descriptor ready, no job, and none taken; a context is free (R301). -/
def LaTurn (n : Nat) (d : Device) : Prop :=
  d.mode ≠ .reset ∧ n < 64 ∧ d.laBusy < 32 ∧ d.laNext = some n ∧ d.jobOf n = none ∧ (d.dmaOf n).taken = []

/-- Job `j` of ring `n` runs: it holds its context, and its core's KW area where it needs it; its descriptor is the one its ring
has taken. -/
def Runs (n : Nat) (j : LaJob) (d : Device) : Prop :=
  d.jobOf n = some j ∧ j.yielded = false ∧ d.kwWaits j = false ∧ (d.dmaOf n).taken = [⟨0, none⟩] ∧ (d.dmaOf n).stopping = false

end Sys2Proof.Machine

/-- R301 to R311. -/
def Obligations.LookasideJobsAreTakenSlicedAndCompleted : Prop :=
  (∀ n x p src aad k (s : State), LaTurn n s.dev → s.dev.descCheck n x = 0 → s.dev.laCheckA n x p = 0 → s.dev.slotOf (laHandle x) = some k →
    s.dev.rd O.VAULT_STATE k = 1 → s.dev.vaultGood k = true → s.dev.laCheckB k x p = 0 → x.pcieError = false →
    ∃ t v, exec (.lookasideJobStart n x p src aad) s = .next t ∧
      t.dev.la.jobs.map bareJob = s.dev.la.jobs.map bareJob ++ [⟨n, 0, k, s.dev.keyBytes k, laMode x, laOp x, laPad x, x.address, fit 16 x.kind,
        { p with iv := v }, fit x.length src, aad.take p.aadLen, 0, false⟩] ∧
      t.dev.jobOf n = some ⟨n, s.dev.laCore, k, s.dev.keyBytes k, laMode x, laOp x, laPad x, x.address, fit 16 x.kind,
        { p with iv := v }, fit x.length src, aad.take p.aadLen, 0, false⟩ ∧ (t.dev.dmaOf n).taken = [⟨0, none⟩] ∧
      ((∀ j ∈ s.dev.la.jobs, j.yielded = false) → t.dev.la.last = n) ∧
      (p.ivSource ≠ 1 → v = fit 16 p.iv) ∧ (p.ivSource = 1 → v.length = 16 ∧ (laMode x = 2 → v.drop 12 = beBytes 4 1)) ∧
      UseTaken k s.dev t.dev ∧ t.dev.rd O.LA_JOBS = (s.dev.rd O.LA_JOBS + 1) % 2 ^ 64 ∧
      t.dev.rd O.LA_RANDOM_IV_JOBS k = s.dev.rd O.LA_RANDOM_IV_JOBS k + (if p.ivSource = 1 then 1 else 0) ∧
      t.dev.rd O.LA_CONTEXTS_BUSY = t.dev.laBusy ∧ s.dev.laBusy + 1 ≤ t.dev.laBusy ∧
      t.dev.rd O.RING_HEAD n = (s.dev.rd O.RING_HEAD n + 1) % s.dev.rd O.RING_SIZE n ∧
      Only [(O.LA_JOBS, 0), (O.LA_RANDOM_IV_JOBS, k), (O.LA_CONTEXTS_BUSY, 0), (O.VAULT_USES_LEFT, k), (O.VAULT_STATE, k), (O.RING_HEAD, n)]
        [F.la, F.draws, F.keyRequests, F.pcieServed, F.pcieDma] s.dev t.dev) ∧
  (∀ n x p src aad k (s : State), LaTurn n s.dev → s.dev.descCheck n x = 0 → s.dev.laCheckA n x p = 0 → s.dev.slotOf (laHandle x) = some k →
    s.dev.rd O.VAULT_STATE k = 1 → s.dev.vaultGood k = true → s.dev.laCheckB k x p = 0 → x.pcieError = true →
    ∃ t, exec (.lookasideJobStart n x p src aad) s = .next t ∧
      Out.completion n 3 0 (Device.laKind x 0) ∈ t.dev.out.drop s.dev.out.length ∧
      t.dev.la.jobs.map bareJob = s.dev.la.jobs.map bareJob ∧
      t.dev.rd O.LA_RANDOM_IV_JOBS k = s.dev.rd O.LA_RANDOM_IV_JOBS k + (if p.ivSource = 1 then 1 else 0) ∧
      UseTaken k s.dev t.dev ∧ t.dev.rd O.LA_JOBS = (s.dev.rd O.LA_JOBS + 1) % 2 ^ 64 ∧
      Only [(O.LA_JOBS, 0), (O.LA_RANDOM_IV_JOBS, k), (O.LA_CONTEXTS_BUSY, 0), (O.VAULT_USES_LEFT, k), (O.VAULT_STATE, k), (O.RING_HEAD, n),
          (O.RING_REJECTED, n)]
        (F.la :: F.pcieServed :: completing) s.dev t.dev) ∧
  (∀ n x p src aad e (s : State), LaTurn n s.dev → s.dev.descCheck n x = 0 →
    (s.dev.laCheckA n x p = e ∧ e ≠ 0 ∨ s.dev.laCheckA n x p = 0 ∧ (∃ k, s.dev.slotOf (laHandle x) = some k ∧
      ((s.dev.rd O.VAULT_STATE k = 2 ∨ s.dev.rd O.VAULT_STATE k = 3) ∧ e = 3 ∨
        s.dev.rd O.VAULT_STATE k = 1 ∧ s.dev.vaultGood k = true ∧ s.dev.laCheckB k x p = e ∧ e ≠ 0))) →
    ∃ t, exec (.lookasideJobStart n x p src aad) s = .next t ∧
      Out.completion n 4 0 ((fit 16 x.kind).take 14 ++ leBytes 2 e) ∈ t.dev.out.drop s.dev.out.length ∧
      t.dev.rd O.RING_HEAD n = (s.dev.rd O.RING_HEAD n + 1) % s.dev.rd O.RING_SIZE n ∧ t.dev.la.jobs.map bareJob = s.dev.la.jobs.map bareJob ∧
      Only [(O.RING_HEAD, n), (O.RING_REJECTED, n), (O.LA_CONTEXTS_BUSY, 0)] (F.la :: F.pcieServed :: completing) s.dev t.dev) ∧
  (∀ n j m k (s : State), s.dev.jobOf n = some j → j.yielded = false → j.mode ≠ 6 → k = 1024 * s.dev.rd O.LA_SLICE_KIB →
    j.done + k < j.src.length → m < 64 → m ≠ n → s.dev.laWaits m = true →
    ∃ t, exec (.lookasideSliceYield n) s = .next t ∧ t.dev.rd O.LA_BYTES = (s.dev.rd O.LA_BYTES + k) % 2 ^ 64 ∧
      (∃ y, t.dev.jobOf n = some { j with done := j.done + k, yielded := y } ∧ (s.dev.la.last = n → y = true)) ∧
      Only [(O.LA_BYTES, 0), (O.LA_CONTEXTS_BUSY, 0)] (F.la :: completing) s.dev t.dev) ∧
  (∀ n j (s : State), Runs n j s.dev → s.dev.la.zeroing = [] → (laResult j).bad = false →
    ∃ t, exec (.lookasideJobComplete n false) s = .next t ∧ t.dev.jobOf n = none ∧
      t.dev.rd O.LA_BYTES = (s.dev.rd O.LA_BYTES + (j.src.length - j.done)) % 2 ^ 64 ∧
      Out.completion n 0 (laResult j).out.length (j.kind.take 14 ++ leBytes 2 0) ∈ t.dev.out.drop s.dev.out.length ∧
      ((laResult j).out ≠ [] → Out.hostWrite n j.params.dst (laResult j).out
        (leBytes 4 (laResult j).out.length ++ (j.kind.take 14 ++ leBytes 2 0)) ∈ t.dev.out.drop s.dev.out.length) ∧
      (j.params.ivSource = 1 →
        Out.hostWrite n (leNat (slice 0 8 j.kind) + 24) j.params.iv [] ∈ t.dev.out.drop s.dev.out.length) ∧
      ((laResult j).tag ≠ [] →
        Out.hostWrite n (leNat (slice 0 8 j.kind) + 40) (laResult j).tag [] ∈ t.dev.out.drop s.dev.out.length) ∧
      t.dev.rd O.RING_COMPLETED n = (s.dev.rd O.RING_COMPLETED n + 1) % 2 ^ 64 ∧
      Only [(O.LA_BYTES, 0), (O.LA_CONTEXTS_BUSY, 0), (O.RING_COMPLETED, n)] (F.la :: completing) s.dev t.dev) ∧
  (∀ n j (s : State), Runs n j s.dev → s.dev.la.zeroing = [] → (laResult j).bad = true →
    ∃ t, exec (.lookasideJobComplete n false) s = .next t ∧ t.dev.jobOf n = none ∧
      t.dev.rd O.LA_AUTH_FAILS = (s.dev.rd O.LA_AUTH_FAILS + 1) % 2 ^ 64 ∧
      Out.completion n 4 (laResult j).out.length (j.kind.take 14 ++ leBytes 2 9) ∈ t.dev.out.drop s.dev.out.length ∧
      (j.mode = 4 → j.src ≠ [] →
        ∃ c, Out.hostWrite n j.params.dst (List.replicate j.src.length 0#8) c ∈ t.dev.out.drop s.dev.out.length) ∧
      (5 ≤ j.mode → j.params.ivSource = 0 → ∀ a b c, Out.hostWrite n a b c ∉ t.dev.out.drop s.dev.out.length) ∧
      Only [(O.LA_BYTES, 0), (O.LA_AUTH_FAILS, 0), (O.LA_CONTEXTS_BUSY, 0), (O.RING_REJECTED, n)] (F.la :: completing) s.dev t.dev) ∧
  (∀ n j (s : State), Runs n j s.dev → s.dev.la.zeroing = [] →
    ∃ t, exec (.lookasideJobComplete n true) s = .next t ∧ t.dev.jobOf n = none ∧
      (∃ c, c ≤ (laResult j).out.length ∧
        Out.completion n 4 c (j.kind.take 14 ++ leBytes 2 0x000A) ∈ t.dev.out.drop s.dev.out.length) ∧
      Only [(O.LA_BYTES, 0), (O.LA_CONTEXTS_BUSY, 0), (O.RING_REJECTED, n)] (F.la :: F.draws :: completing) s.dev t.dev) ∧
  (∀ n j v o (s : State), Runs n j s.dev → s.dev.la.zeroing = [(v, false, [n])] →
    ∃ t, exec (.lookasideJobComplete n o) s = .next t ∧ t.dev.jobOf n = none ∧ t.dev.la.zeroing = [] ∧
      t.dev.rd O.VAULT_CMD v = 2 * 256 + s.dev.rd O.VAULT_CMD v % 256) ∧
  (∀ n j o (s : State), s.dev.jobOf n = some j → (j.yielded = true ∨ s.dev.kwWaits j = true) →
    ∃ t, exec (.lookasideJobComplete n o) s = .next t ∧ t = s)

namespace Sys2Proof.Machine

/-! ### External memory (R312 to R334) -/

/-- The objects a poison write changes besides the memory itself (R326). -/
def poisonRows : List Nat := [O.MEM_POISON_COUNT, O.MEM_POISON_OFFSET, O.MEM_POISON_AT, O.MEM_POISON_CAUSE]

/-- Protected line `p` has been poison-written for `cause`: its tag fails from now on, and the log names it (R326). -/
def Poisoned (p cause : Nat) (a b : Device) : Prop :=
  b.poisonedLine p = true ∧ b.rd O.MEM_POISON_COUNT = (a.rd O.MEM_POISON_COUNT + 1) % 2 ^ 32 ∧
  b.rd O.MEM_POISON_OFFSET (a.rd O.MEM_POISON_COUNT % 256) = 64 * p ∧ b.rd O.MEM_POISON_CAUSE (a.rd O.MEM_POISON_COUNT % 256) = cause

/-- The bytes from protected offset `o` on are `v`, and every other byte is as before. -/
def BytesPut (o : Nat) (v : Bytes) (a b : Device) : Prop :=
  ∀ x, b.memByte x = (if o ≤ x ∧ x < o + v.length then v.getD (x - o) 0#8 else a.memByte x)

/-- Channel `c` gives grants, and no request waits (R23). -/
def MemIdle (c : Nat) (d : Device) : Prop := d.mem.waiting = [] ∧ d.channelStalled c = false

end Sys2Proof.Machine

/-- R313 to R329. -/
def Obligations.MemoryIsReadWrittenAndScrubbed : Prop :=
  (∀ p o (s : State), MemSound s.dev → MemIdle (s.dev.place p).1 s.dev → s.dev.memReady = true → s.dev.mapped (64 * p) = true →
    s.dev.poisonedLine p = false →
    (o = .ok ∨ (∃ x tag, o = .raw x tag ∧ s.dev.dataTag p x = tag) ∨ ∃ l x tag, o = .rawNode l x tag ∧ s.dev.nodeTag p l x = tag) →
    ∃ t, exec (.memLineRead p o) s = .next t ∧
      (t.dev.rd O.MEM_TREE_HITS = (s.dev.rd O.MEM_TREE_HITS + 1) % 2 ^ 64 ∧ t.dev.rd O.MEM_TREE_MISSES = s.dev.rd O.MEM_TREE_MISSES ∨
        t.dev.rd O.MEM_TREE_MISSES = (s.dev.rd O.MEM_TREE_MISSES + 1) % 2 ^ 64 ∧ t.dev.rd O.MEM_TREE_HITS = s.dev.rd O.MEM_TREE_HITS) ∧
      t.dev.linePlain p = s.dev.linePlain p ∧ t.dev.poisonedLine p = false ∧ Only [] memUsed s.dev t.dev) ∧
  (∀ p n c (s : State), MemSound s.dev → MemIdle c s.dev → s.dev.memReady = true → s.dev.mapped (64 * p) = true →
    s.dev.poisonedLine p = false → c = (s.dev.place p).1 →
    (∃ t, exec (.memLineRead p (.retried n)) s = .next t ∧
      t.dev.rd O.MEM_CH_UNCORRECTABLE c = (s.dev.rd O.MEM_CH_UNCORRECTABLE c + n) % 2 ^ 64 ∧ t.dev.poisonedLine p = false ∧
      Keeps (O.MEM_CH_UNCORRECTABLE :: memUsed ++ faulting) s.dev t.dev) ∧
    (∃ t, exec (.memLineRead p (.corrected n)) s = .next t ∧
      t.dev.rd O.MEM_CH_CORRECTED c = (s.dev.rd O.MEM_CH_CORRECTED c + n) % 2 ^ 64 ∧ t.dev.poisonedLine p = false ∧
      Keeps (O.MEM_CH_CORRECTED :: memUsed ++ faulting) s.dev t.dev)) ∧
  (∀ p o n (s : State), MemSound s.dev → MemIdle (s.dev.place p).1 s.dev → s.dev.memReady = true → s.dev.mapped (64 * p) = true →
    (o = .failed n ∨ (∃ x tag, o = .raw x tag ∧ s.dev.dataTag p x ≠ tag ∧ n = 0) ∨ o = .ok ∧ s.dev.poisonedLine p = true ∧ n = 0) → Calm 0x304 2 s.dev → Seen 0x304 s.dev → EventRoom s.dev →
    ∃ t, exec (.memLineRead p o) s = .next t ∧ Poisoned p 1 s.dev t.dev ∧
      t.dev.rd O.MEM_TAG_FAILS = (s.dev.rd O.MEM_TAG_FAILS + 1) % 2 ^ 64 ∧
      t.dev.rd O.MEM_CH_UNCORRECTABLE (s.dev.place p).1 = (s.dev.rd O.MEM_CH_UNCORRECTABLE (s.dev.place p).1 + n) % 2 ^ 64 ∧
      (t.dev.rd O.FLT_STATUS).testBit 2 = true ∧ t.dev.mem.cells = s.dev.mem.cells ∧
      Keeps (O.MEM_TAG_FAILS :: O.MEM_CH_UNCORRECTABLE :: O.SA_STAT_PKTS :: O.SA_STAT_OCTETS :: O.SA_STAT_PKTS_ENCRYPTED ::
        O.SA_STAT_NOT_VALID :: O.SA_STAT_COMMIT_LATE :: O.SA_STAT_TX_LOST :: poisonRows ++ memUsed ++ degraded) s.dev t.dev) ∧
  (∀ p o level n m c (s : State), MemSound s.dev → MemIdle c s.dev → s.dev.memReady = true → s.dev.mapped (64 * p) = true →
    c = (s.dev.place p).1 →
    (o = .nodeFailed level n ∨ ∃ x tag, o = .rawNode level x tag ∧ s.dev.nodeTag p level x ≠ tag ∧ n = 0) →
    Device.nodeAbove (s.dev.place p).2 level = some m → s.dev.nodeRead p m = true → Calm (0x300 + c) 3 s.dev → Seen (0x300 + c) s.dev →
    ∃ t, exec (.memLineRead p o) s = .next t ∧
      t.dev.rd O.MEM_NODE_FAILS = (s.dev.rd O.MEM_NODE_FAILS + 1) % 2 ^ 32 ∧ t.dev.mem.badNodes = [Device.physKey c m] ∧
      (t.dev.rd O.FLT_STATUS).testBit 3 = true ∧ t.dev.mode = .safe ∧
      Keeps (O.MEM_NODE_FAILS :: O.MEM_CH_UNCORRECTABLE :: memUsed ++ faulting) s.dev t.dev) ∧
  (∀ p v (s : State), MemSound s.dev → MemIdle (s.dev.place p).1 s.dev → s.dev.memReady = true → s.dev.mapped (64 * p) = true →
    ∃ t, exec (.memFullLineWrite p v) s = .next t ∧ t.dev.poisonedLine p = false ∧
      t.dev.lineCtr (s.dev.place p).1 (s.dev.place p).2 = s.dev.lineCtr (s.dev.place p).1 (s.dev.place p).2 + 1 ∧
      (regionOf (64 * p) ∈ [Region.log, .scratch] → BytesPut (64 * p) (fit 64 v) s.dev t.dev) ∧
      (regionOf (64 * p) ∉ [Region.log, .scratch] → t.dev.mem.cells = s.dev.mem.cells) ∧
      Only [] (F.memCells :: memUsed) s.dev t.dev) ∧
  (∀ o v (s : State), MemSound s.dev → MemIdle (s.dev.place (o / 64)).1 s.dev → s.dev.memReady = true → regionOf o = .scratch →
    inLine o v.length = true → s.dev.poisonedLine (o / 64) = false →
    ∃ t, exec (.memPartialWrite o v .ok) s = .next t ∧ BytesPut o v s.dev t.dev ∧ Only [] (F.memCells :: memUsed) s.dev t.dev) ∧
  (∀ o v x n (s : State), MemSound s.dev → MemIdle (s.dev.place (o / 64)).1 s.dev → s.dev.memReady = true → regionOf o = .scratch →
    inLine o v.length = true →
    (x = .failed n ∨ (∃ y tag, x = .raw y tag ∧ s.dev.dataTag (o / 64) y ≠ tag) ∨ x = .ok ∧ s.dev.poisonedLine (o / 64) = true) → Calm 0x304 2 s.dev → Seen 0x304 s.dev →
    ∃ t, exec (.memPartialWrite o v x) s = .next t ∧ Poisoned (o / 64) 2 s.dev t.dev ∧ t.dev.mem.cells = s.dev.mem.cells ∧
      (t.dev.rd O.FLT_STATUS).testBit 2 = true ∧ t.dev.rd O.MEM_TAG_FAILS = (s.dev.rd O.MEM_TAG_FAILS + 1) % 2 ^ 64 ∧
      Keeps (O.MEM_TAG_FAILS :: O.MEM_CH_UNCORRECTABLE :: poisonRows ++ memUsed ++ faulting) s.dev t.dev) ∧
  (∀ c level n k (s : State), Device.nodeNumber level n = some k → MemSound s.dev → s.dev.nodeCached (Device.physKey c k) = true →
    ∃ t, exec (.treeNodeEvict c level n) s = .next t ∧ t.dev.nodeCached (Device.physKey c k) = false ∧
      natAt t.dev.mem.nodeCtr (Device.physKey c k) = natAt s.dev.mem.nodeCtr (Device.physKey c k) +
        (if (Device.physKey c k, true) ∈ s.dev.mem.cached then 1 else 0) ∧ Only [] memUsed s.dev t.dev) ∧
  (∀ c line word x (s : State), s.dev.clockOn = true → MemIdle c s.dev → s.dev.memReady = true → c < 4 → line < 2097152 → word < 8 → s.dev.rd O.MEM_CH_STATE c ≠ 2 →
    (x = .clean ∨ x = .locked) →
    ∃ t, exec (.memScrubVisit c line word x) s = .next t ∧ t.dev.cyc = max s.dev.cyc (s.dev.memScrubCycle c line word) ∧
      ((line = 2097151 ∧ word = 7 ∧ ∀ k, k < 4 → c < k → s.dev.rd O.MEM_CH_STATE k = 2) →
        t.dev.rd O.MEM_SCRUB_PASSES = (s.dev.rd O.MEM_SCRUB_PASSES + 1) % 2 ^ 64) ∧
      ((line ≠ 2097151 ∨ word ≠ 7) → t.dev.rd O.MEM_SCRUB_PASSES = s.dev.rd O.MEM_SCRUB_PASSES) ∧
      Only [(O.MEM_SCRUB_PASSES, 0)] (F.memRest :: passing) s.dev t.dev) ∧
  (∀ c line word p i (s : State), MemSound s.dev → MemIdle c s.dev → s.dev.memReady = true → c < 4 → word < 8 → s.dev.rd O.MEM_CH_STATE c ≠ 2 →
    (line < 1572864 ∧ i = line ∨ 1572864 ≤ line ∧ line < 1769472 ∧ i = 8 * (line - 1572864) + word) → s.dev.protectedAt c i = some p →
    ∃ t, exec (.memScrubVisit c line word .badData) s = .next t ∧ Poisoned p 3 s.dev t.dev ∧ t.dev.mem.cells = s.dev.mem.cells ∧
      t.dev.rd O.MEM_CH_UNCORRECTABLE c = (s.dev.rd O.MEM_CH_UNCORRECTABLE c + 1) % 2 ^ 64 ∧
      Keeps (O.MEM_CH_UNCORRECTABLE :: O.SA_STAT_PKTS :: O.SA_STAT_OCTETS :: O.SA_STAT_PKTS_ENCRYPTED :: O.SA_STAT_NOT_VALID ::
        O.SA_STAT_COMMIT_LATE :: O.SA_STAT_TX_LOST :: poisonRows ++ memUsed ++ passing) s.dev t.dev) ∧
  (∀ c line word n (s : State), MemIdle c s.dev → s.dev.memReady = true → c < 4 → word < 8 → s.dev.rd O.MEM_CH_STATE c ≠ 2 →
    (1769472 ≤ line ∧ line < 1994166 ∧ n = line - 1769472 ∨
      1994752 ≤ line ∧ line < 2097151 ∧ n = 8 * (line - 1994752) + word ∧ n < 224694) →
    ∃ t, exec (.memScrubVisit c line word .badNode) s = .next t ∧
      t.dev.rd O.MEM_NODE_FAILS = (s.dev.rd O.MEM_NODE_FAILS + 1) % 2 ^ 32 ∧ Device.physKey c n ∈ t.dev.mem.badNodes ∧
      t.dev.rd O.MEM_CH_UNCORRECTABLE c = (s.dev.rd O.MEM_CH_UNCORRECTABLE c + 1) % 2 ^ 64 ∧
      Keeps (O.MEM_NODE_FAILS :: O.MEM_CH_UNCORRECTABLE :: memUsed ++ passing ++ faulting) s.dev t.dev) ∧
  (∀ c line word (s : State), MemIdle c s.dev → s.dev.memReady = true → c < 4 → line < 2097151 → word < 8 → s.dev.rd O.MEM_CH_STATE c ≠ 2 →
    ∃ t, exec (.memScrubVisit c line word .corrected) s = .next t ∧
      t.dev.rd O.MEM_CH_CORRECTED c = (s.dev.rd O.MEM_CH_CORRECTED c + 1) % 2 ^ 64 ∧
      Keeps (O.MEM_CH_CORRECTED :: F.memRest :: passing ++ faulting) s.dev t.dev) ∧
  (∀ p o (s : State), s.dev.channelStalled (s.dev.place p).1 = true → s.dev.mem.waiting = [] → s.dev.memReady = true →
    s.dev.mapped (64 * p) = true →
    ∃ t, exec (.memLineRead p o) s = .next t ∧
      t.dev.mem.waiting = [⟨[(s.dev.place p).1], Device.classOf p, .lineRead p o, 0⟩] ∧ Only [] [F.memRest] s.dev t.dev) ∧
  (∀ q (d : Device), d.nextGrant = some q →
    q ∈ d.mem.waiting ∧ d.grantable q = true ∧
      ((∀ x ∈ d.mem.waiting, x.passed < Device.starveLimit) → ∀ x ∈ d.mem.waiting, d.grantable x = true → q.cls ≤ x.cls) ∧
      (∀ x ∈ d.mem.waiting, d.grantable x = true → Device.starveLimit ≤ x.passed → Device.starveLimit ≤ q.passed))

/-- R328 to R333, and R71. -/
def Obligations.ChannelsRetireAndMastersReachMemory : Prop :=
  (∀ r c s, Asked r O.MEM_CH_CMD c s.dev → (∀ k, k < 4 → s.dev.rd O.MEM_CH_STATE k = 0) → Calm (0x300 + c) 2 s.dev →
    Seen (0x300 + c) s.dev → EventRoom s.dev →
    ∃ t, exec (.memChRetire r c) s = .next t ∧ t.dev.rd O.MEM_CH_STATE c = 1 ∧ t.dev.rd O.MEM_CH_CAUSE c = 1 ∧
      t.dev.rd O.MEM_REHASH_DONE = 0 ∧ t.dev.mem.retiring = some (c, false) ∧ (t.dev.rd O.FLT_STATUS).testBit 2 = true ∧
      Result O.MEM_CH_CMD c 0 2 s.dev t.dev ∧ Answers r 0 t.dev ∧
      Only [(O.MEM_CH_CMD, c), (O.MEM_CH_STATE, c), (O.MEM_CH_CAUSE, c), (O.MEM_REHASH_DONE, 0), (O.FLT_SRC_CLASS, 0x300 + c)]
        (F.memRest :: O.FLT_STATUS :: noted ++ asked) s.dev t.dev) ∧
  (∀ r c k s, Asked r O.MEM_CH_CMD c s.dev → k < 4 → s.dev.rd O.MEM_CH_STATE k ≠ 0 →
    ∃ t, exec (.memChRetire r c) s = .next t ∧ Answers r 0xA303 t.dev ∧ Only [] asked s.dev t.dev) ∧
  (∀ c (s : State), s.dev.memReady = true → c < 4 → (∀ k, k < 4 → s.dev.rd O.MEM_CH_STATE k = 0) →
    s.dev.rd O.MEM_CH_RETIRE_UNCORR c ≤ s.dev.uncorrNow c → Calm (0x300 + c) 2 s.dev → Seen (0x300 + c) s.dev → EventRoom s.dev →
    ∃ t, exec (.memChUncorrRetire c) s = .next t ∧ t.dev.rd O.MEM_CH_STATE c = 1 ∧ t.dev.rd O.MEM_CH_CAUSE c = 3 ∧
      t.dev.mem.retiring = some (c, true) ∧ (t.dev.rd O.FLT_STATUS).testBit 2 = true ∧
      Only [(O.MEM_CH_STATE, c), (O.MEM_CH_CAUSE, c), (O.MEM_REHASH_DONE, 0), (O.FLT_SRC_CLASS, 0x300 + c)]
        (F.memRest :: O.FLT_STATUS :: noted) s.dev t.dev) ∧
  (∀ c k (s : State), s.dev.memReady = true → c < 4 → s.dev.rd O.MEM_CH_STATE c = 0 → k < 4 → s.dev.rd O.MEM_CH_STATE k ≠ 0 →
    s.dev.rd O.MEM_CH_RETIRE_UNCORR c ≤ s.dev.uncorrNow c → Calm (0x300 + c) 3 s.dev → Seen (0x300 + c) s.dev →
    ∃ t, exec (.memChUncorrRetire c) s = .next t ∧ t.dev.rd O.MEM_CH_STATE c = 0 ∧ (t.dev.rd O.FLT_STATUS).testBit 3 = true ∧
      t.dev.mode = .safe ∧ Keeps faulting s.dev t.dev) ∧
  (∀ c (s : State), s.dev.memReady = true → c < 4 → s.dev.rd O.MEM_CH_STATE c ≠ 2 → (∀ e ∈ s.dev.mem.calib, e.1 ≠ c) →
    Seen (0x300 + c) s.dev →
    ∃ t, exec (.memCalibrationLoss c) s = .next t ∧ t.dev.mem.calib = s.dev.mem.calib ++ [(c, s.dev.cyc)] ∧
      t.dev.rd O.FLT_SRC_STATE (0x300 + c) = 1 ∧ Only [(O.FLT_SRC_STATE, 0x300 + c)] [F.memRest] s.dev t.dev) ∧
  (∀ c e (s : State), e ∈ s.dev.mem.calib → e.1 = c → s.dev.mem.waiting = [] → Seen (0x300 + c) s.dev →
    ∃ t, exec (.memCalibrationRegained c) s = .next t ∧ (∀ x ∈ t.dev.mem.calib, x.1 ≠ c) ∧ t.dev.rd O.FLT_SRC_STATE (0x300 + c) = 0 ∧
      Only [(O.FLT_SRC_STATE, 0x300 + c)] [F.memRest] s.dev t.dev) ∧
  (∀ c at0 (s : State), s.dev.clockOn = true → s.dev.mem.calib.find? (fun e => e.1 == c) = some (c, at0) →
    (∀ k, k < 4 → s.dev.rd O.MEM_CH_STATE k = 0) → c < 4 → s.dev.mem.waiting = [] → Calm (0x300 + c) 2 s.dev → Seen (0x300 + c) s.dev →
    ∃ t, exec (.memCalibrationLost c) s = .next t ∧ t.dev.cyc = max s.dev.cyc (at0 + msCycles 10) ∧ t.dev.rd O.MEM_CH_STATE c = 1 ∧
      t.dev.rd O.MEM_CH_CAUSE c = 4 ∧ t.dev.mem.retiring = some (c, true) ∧ (t.dev.rd O.FLT_STATUS).testBit 2 = true ∧
      Keeps (O.MEM_CH_STATE :: O.MEM_CH_CAUSE :: O.MEM_REHASH_DONE :: F.memRest :: passing ++ faulting) s.dev t.dev) ∧
  (∀ c p (s : State), MemSound s.dev → s.dev.mem.calib = [(c, s.dev.cyc)] → c = (s.dev.place p).1 → s.dev.poisonedLine p = false →
    s.dev.mem.waiting = [⟨[c], Device.classOf p, .lineRead p .ok, 0⟩] → s.dev.rd O.FLT_SRC_STATE (0x300 + c) = 1 → Seen (0x300 + c) s.dev →
    ∃ t, exec (.memCalibrationRegained c) s = .next t ∧ t.dev.mem.waiting = [] ∧ t.dev.mem.calib = [] ∧
      t.dev.rd O.MEM_TREE_HITS + t.dev.rd O.MEM_TREE_MISSES ≠ s.dev.rd O.MEM_TREE_HITS + s.dev.rd O.MEM_TREE_MISSES ∧
      Only [(O.FLT_SRC_STATE, 0x300 + c)] memUsed s.dev t.dev) ∧
  (∀ c forced (s : State), s.dev.mem.retiring = some (c, forced) → s.dev.mem.switched = false → s.dev.rd O.FLT_FATAL_SINCE_BOOT = 0 →
    MemSound s.dev → (∀ p, s.dev.poisonedLine p = false) → s.dev.clsx.jobs = [] →
    ∃ t, exec .memRehashSwitch s = .next t ∧ t.dev.rd O.MEM_REHASH_DONE = 524288 ∧ t.dev.tableLost = some c ∧
      (∀ p, (t.dev.way p).learned = true → resStamp (t.dev.way p).result = s.dev.phcSecond % 65536) ∧
      Keeps (O.CLS_ENTRIES :: O.CLS_EVICTIONS :: O.CLS_INSERTS :: O.CLS_MOVES :: O.LEARN_ENTRIES :: O.MEM_REHASH_DONE ::
        O.MEM_REHASH_LOST :: O.MEM_TAG_FAILS :: O.MEM_CTR_READONLY :: O.MEM_NODE_FAILS :: O.RXSC_ENTRY :: F.draws :: F.pipe ::
        poisonRows ++ memUsed ++ faulting) s.dev t.dev) ∧
  (∀ c forced (s : State), s.dev.mem.retiring = some (c, forced) → s.dev.mem.switched = true → s.dev.rd O.FLT_FATAL_SINCE_BOOT = 0 →
    c < 4 → (∀ k, k < 4 → k ≠ c → s.dev.rd O.MEM_CH_STATE k = 0) → MemSound s.dev →
    ∃ t, exec .memEvacuationDone s = .next t ∧ t.dev.rd O.MEM_CH_STATE c = 2 ∧ t.dev.mem.retiring = none ∧
      t.dev.lostChannel = some c ∧ t.dev.mem.cells = s.dev.mem.cells ∧
      (forced = true → ∀ q, s.dev.mem.copied ≤ q → q < 983040 → t.dev.poisonedLine (1048576 + 4 * q + c) = true) ∧
      (forced = false → ∀ p, t.dev.poisonedLine p = s.dev.poisonedLine p) ∧
      Keeps (O.FLT_SRC_STATE :: O.MEM_CH_STATE :: O.SA_STAT_PKTS :: O.SA_STAT_OCTETS :: O.SA_STAT_PKTS_ENCRYPTED ::
        O.SA_STAT_NOT_VALID :: O.SA_STAT_COMMIT_LATE :: O.SA_STAT_TX_LOST :: poisonRows ++ memUsed) s.dev t.dev) ∧
  (∀ r w o (s : State), Asked r O.MEM_WIN_CMD w s.dev → o = s.dev.rd O.MEM_WIN_OFFSET w → s.dev.mapped o = true →
    s.dev.memReadRight (s.dev.roleOf r) (regionOf o) = 2 → inLine o (s.dev.rd O.MEM_WIN_LEN w) = true → MemSound s.dev →
    s.dev.poisonedLine (o / 64) = false → Unarmed s.dev →
    ∃ t, exec (.memWinRead r w) s = .next t ∧
      t.dev.rd O.MEM_WIN_DATA w = leNat (slice (o % 64) (s.dev.rd O.MEM_WIN_LEN w) (s.dev.linePlain (o / 64))) ∧
      Result O.MEM_WIN_CMD w 0 2 s.dev t.dev ∧ Answers r 0 t.dev ∧
      Only [(O.MEM_WIN_CMD, w), (O.MEM_WIN_DATA, w)] (memUsed ++ asked) s.dev t.dev) ∧
  (∀ r w o (s : State), Asked r O.MEM_WIN_CMD w s.dev → o = s.dev.rd O.MEM_WIN_OFFSET w → s.dev.mapped o = true →
    s.dev.memReadRight (s.dev.roleOf r) (regionOf o) = 2 → inLine o (s.dev.rd O.MEM_WIN_LEN w) = true → MemSound s.dev →
    s.dev.poisonedLine (o / 64) = true → Calm 0x304 2 s.dev →
    ∃ t, exec (.memWinRead r w) s = .next t ∧ t.dev.rd O.MEM_WIN_DATA w = s.dev.rd O.MEM_WIN_DATA w ∧
      Result O.MEM_WIN_CMD w 0xA404 3 s.dev t.dev ∧ Answers r 0 t.dev ∧
      Keeps (O.MEM_WIN_CMD :: O.MEM_TAG_FAILS :: poisonRows ++ memUsed ++ asked ++ faulting) s.dev t.dev) ∧
  (∀ r w o (s : State), Asked r O.MEM_WIN_CMD w s.dev → o = s.dev.rd O.MEM_WIN_OFFSET w → regionOf o = .scratch →
    s.dev.memWriteRight (s.dev.roleOf r) .scratch = true → inLine o (s.dev.rd O.MEM_WIN_LEN w) = true → MemSound s.dev →
    s.dev.poisonedLine (o / 64) = false →
    ∃ t, exec (.memWinWrite r w) s = .next t ∧
      BytesPut o (leBytes (s.dev.rd O.MEM_WIN_LEN w) (s.dev.rd O.MEM_WIN_DATA w)) s.dev t.dev ∧
      Result O.MEM_WIN_CMD w 0 2 s.dev t.dev ∧ Answers r 0 t.dev ∧
      Only [(O.MEM_WIN_CMD, w)] (F.memCells :: memUsed ++ asked) s.dev t.dev) ∧
  (∀ r w o (s : State), Asked r O.MEM_WIN_CMD w s.dev → o = s.dev.rd O.MEM_WIN_OFFSET w → s.dev.mapped o = true →
    s.dev.memReadRight (s.dev.roleOf r) (regionOf o) ≠ 0 → inLine o (s.dev.rd O.MEM_WIN_LEN w) = true →
    s.dev.dataCtr (o / 64) < 2 ^ 64 → Unarmed s.dev →
    ∃ t, exec (.readCiphertext r w) s = .next t ∧
      t.dev.rd O.MEM_WIN_DATA w = leNat (slice (o % 64) (s.dev.rd O.MEM_WIN_LEN w) (((List.range 4).map
        (s.dev.cipherBlock (s.dev.dataCtr (o / 64)) (s.dev.place (o / 64)).1 (s.dev.place (o / 64)).2 (s.dev.linePlain (o / 64)))).flatten)) ∧
      Result O.MEM_WIN_CMD w 0 2 s.dev t.dev ∧ Answers r 0 t.dev ∧
      Only [(O.MEM_WIN_CMD, w), (O.MEM_WIN_DATA, w)] asked s.dev t.dev) ∧
  (∀ r w o (s : State), Asked r O.MEM_WIN_CMD w s.dev → o = s.dev.rd O.MEM_WIN_OFFSET w → regionOf o = .scratch → s.dev.roleOf r = 1 →
    inLine o (s.dev.rd O.MEM_WIN_LEN w) = true → MemSound s.dev →
    ∃ t, exec (.memReinit r w) s = .next t ∧ BytesPut (64 * (o / 64)) (leBytes 64 0) s.dev t.dev ∧
      t.dev.poisonedLine (o / 64) = false ∧ Result O.MEM_WIN_CMD w 0 2 s.dev t.dev ∧ Answers r 0 t.dev ∧
      Only [(O.MEM_WIN_CMD, w)] (F.memCells :: memUsed ++ asked) s.dev t.dev) ∧
  (∀ r w i e o role g (s : State), Asked r O.MEM_WIN_CMD w s.dev → o = s.dev.rd O.MEM_WIN_OFFSET w → role = s.dev.roleOf r → g = regionOf o →
    (s.dev.mapped o = true ∧ e = 0xA003 ∧ (i = Instr.memWinRead r w ∧ s.dev.memReadRight role g ≠ 2 ∨
        i = .memWinWrite r w ∧ s.dev.memWriteRight role g = false ∨ i = .readCiphertext r w ∧ s.dev.memReadRight role g = 0 ∨
        i = .memReinit r w ∧ (role ≠ 1 ∨ g ≠ .scratch)) ∨
      s.dev.mapped o = false ∧ e = 0xA101 ∧ i ∈ [Instr.memWinRead r w, .memWinWrite r w, .readCiphertext r w, .memReinit r w] ∨
      s.dev.mapped o = true ∧ e = 0xA101 ∧ inLine o (s.dev.rd O.MEM_WIN_LEN w) = false ∧
        (i = .memWinRead r w ∧ s.dev.memReadRight role g = 2 ∨ i = .memWinWrite r w ∧ s.dev.memWriteRight role g = true)) →
    ∃ t, exec i s = .next t ∧ Answers r e t.dev ∧ Only [] asked s.dev t.dev) ∧
  (∀ o n (s : State), s.dev.memReady = true → 0 < n → inLine o n = true → s.dev.mapped (64 * (o / 64)) = true →
    s.dev.memReadRight s.dev.apertureRole (regionOf (64 * (o / 64))) = 2 → MemSound s.dev → s.dev.poisonedLine (o / 64) = false →
    ∃ t, exec (.apertureRead o n) s = .next t ∧
      t.dev.out.getLast? = some (.aperture o false (slice (o % 64) n (s.dev.linePlain (o / 64)))) ∧
      Only [] (F.out :: memUsed) s.dev t.dev) ∧
  (∀ o n p (s : State), s.dev.memReady = true → 0 < n → inLine o n = true → p = o / 64 → s.dev.mapped (64 * p) = true →
    s.dev.memReadRight s.dev.apertureRole (regionOf (64 * p)) = 1 → s.dev.dataCtr p < 2 ^ 64 →
    ∃ t, exec (.apertureRead o n) s = .next t ∧
      t.dev.out.getLast? = some (.aperture o false (slice (o % 64) n (((List.range 4).map (s.dev.cipherBlock (s.dev.dataCtr p)
        (s.dev.place p).1 (s.dev.place p).2 (s.dev.linePlain p))).flatten))) ∧
      Only [] [O.PMC_VALUE, O.PMC_STATUS, F.out, F.pciePending, F.pmc] s.dev t.dev) ∧
  (∀ o n (s : State), s.dev.mode ≠ .reset → s.dev.rangeOpen o n (fun g => s.dev.memReadRight s.dev.apertureRole g != 0) = false →
    ∃ t, exec (.apertureRead o n) s = .next t ∧ t.dev.out = s.dev.out ++ [.aperture o true []] ∧
      t.dev.rd O.PCIE_APERTURE_REFUSED = (s.dev.rd O.PCIE_APERTURE_REFUSED + 1) % 2 ^ 64 ∧
      Only [(O.PCIE_APERTURE_REFUSED, 0)] [F.out] s.dev t.dev) ∧
  (∀ o v (s : State), s.dev.memReady = true → v ≠ [] → inLine o v.length = true → regionOf (64 * (o / 64)) = .scratch →
    s.dev.memWriteRight s.dev.apertureRole .scratch = true → MemSound s.dev → s.dev.poisonedLine (o / 64) = false →
    ∃ t, exec (.apertureWrite o v) s = .next t ∧ BytesPut o v s.dev t.dev ∧ Only [] (F.memCells :: memUsed) s.dev t.dev) ∧
  (∀ o v (s : State), s.dev.mode ≠ .reset → s.dev.rangeOpen o v.length (s.dev.memWriteRight s.dev.apertureRole) = false →
    ∃ t, exec (.apertureWrite o v) s = .next t ∧
      t.dev.rd O.PCIE_APERTURE_REFUSED = (s.dev.rd O.PCIE_APERTURE_REFUSED + 1) % 2 ^ 64 ∧
      Only [(O.PCIE_APERTURE_REFUSED, 0)] [] s.dev t.dev)

namespace Sys2Proof.Machine

/-! ### Life-cycle states (R335 to R348) -/

/-- The life-cycle row of R297 has been carried out: no key, SA or session is left, nor the per-boot and memory keys or the
DRBG state. -/
def KeysGone (b : Device) : Prop :=
  (∀ k, k < 1024 → b.rd O.VAULT_STATE k = 0) ∧ (∀ pr, b.rd O.SA_STATE pr = 0) ∧ (∀ n, 1 ≤ n → n ≤ 52 → b.rd O.SESSION_STATE n = 0) ∧
  b.keys.checkKey = [] ∧ b.keys.storeKey = [] ∧ b.rd O.DRBG_STATE = 0 ∧ b.mem.kEnc = 0 ∧ b.mem.kTwk = 0 ∧ b.mem.kMac = 0

/-- Transition `x` has run to its end for request `r`: marks and code are burned, the keys are gone, the Hub rebuilds, and
the mode is as it was (R339, R340). -/
def Transited (r : Req) (x : Machine.Trans) (a b : Device) : Prop :=
  b.rd O.LC_STATE = x.target ∧ b.rd O.LC_PENDING = 0xFF ∧ (∀ k, k < 3 → b.lcCopy k = a.lcCopy k ||| lcCode x.target) ∧
  (∀ k, k < x.steps → b.mark x (k + 1) = true) ∧ KeysGone b ∧ b.lc.rebuilding = true ∧ b.mode = a.mode ∧
  b.rd O.LC_ARG_TOKEN = 0 ∧ b.rd O.LC_ARG_OWNER_ROOT = 0 ∧ Result O.LC_CMD 0 0 2 a b ∧ Answers r 0 b ∧
  Keeps (O.LC_CMD :: O.LC_STATE :: O.LC_PENDING :: O.LC_ARG_TOKEN :: O.LC_ARG_OWNER_ROOT :: F.otp :: F.lc :: F.fw :: F.memRest ::
    F.draws :: zeroized ++ asked) a b

/-- Request `r` may give a command of the table that starts from life-cycle state `st` under role `role`, with nothing
pending (R339). -/
def MayTransit (r : Req) (role st : Nat) (d : Device) : Prop :=
  Asked r O.LC_CMD 0 d ∧ d.roleOf r = role ∧ (d.mode = .stage ∨ d.mode = .safe) ∧ d.rd O.LC_STATE = st ∧ d.rd O.LC_PENDING = 0xFF

end Sys2Proof.Machine

/-- R335 to R347. -/
def Obligations.LifeCycleTransitionsRunToTheirEnd : Prop :=
  (∀ r s, MayTransit r 4 0 s.dev → CellsFit s.dev →
    ∃ t, exec (.sealTest r) s = .next t ∧ Transited r .t1 s.dev t.dev ∧
      t.dev.otpBits 3696 128 = s.dev.otpBits 3696 128 ||| (s.dev.rd O.LC_ARG_SERIAL % 2 ^ 128) ∧
      t.dev.otpBits 256 2048 = s.dev.otpBits 256 2048 ||| (s.dev.rd O.LC_ARG_HASHES % 2 ^ 2048) ∧
      t.dev.otpBits 2320 256 = s.dev.otpBits 2320 256 ||| (s.dev.rd O.LC_ARG_HASHES / 2 ^ 2048 % 2 ^ 256)) ∧
  (∀ r s, MayTransit r 4 2 s.dev → CellsFit s.dev → s.dev.drbgReady = true → s.dev.otpBits 2576 288 = 0 →
    ∃ t, exec (.personalize r) s = .next t ∧ Transited r .t3 s.dev t.dev ∧ t.dev.dusValid false = true) ∧
  (∀ r h s, MayTransit r 1 3 s.dev → CellsFit s.dev → h = s.dev.rd O.LC_ARG_OWNER_KEY_HASH →
    ∃ t, exec (.takeOwnership r) s = .next t ∧
      (s.dev.ownerSigned 0 h = true ∨ s.dev.ownerSigned 1 h = true → Transited r .t4 s.dev t.dev ∧
        t.dev.otpBits 3152 544 = s.dev.otpBits 3152 544 ||| (s.dev.ownerFieldArg % 2 ^ 544)) ∧
      (s.dev.ownerSigned 0 h = false → s.dev.ownerSigned 1 h = false → Answers r 0xA406 t.dev ∧ Only [] asked s.dev t.dev)) ∧
  (∀ r s, MayTransit r 1 4 s.dev → CellsFit s.dev → s.dev.rd O.LC_ARG_CONFIRM = s.dev.serial →
    ∃ t, exec (.lcReturn r) s = .next t ∧ Transited r .t5 s.dev t.dev ∧ t.dev.otpBits 3152 544 = 2 ^ 544 - 1) ∧
  (∀ r s, MayTransit r 1 4 s.dev → s.dev.rd O.LC_ARG_CONFIRM ≠ s.dev.serial →
    ∃ t, exec (.lcReturn r) s = .next t ∧ Answers r 0xA106 t.dev ∧ Only [] asked s.dev t.dev) ∧
  (∀ r s, Asked r O.LC_CMD 0 s.dev → CellsFit s.dev → (s.dev.mode = .stage ∨ s.dev.mode = .safe) →
    s.dev.roleOf r = (if s.dev.rd O.LC_STATE = 4 then 1 else 4) →
    ∃ t, exec (.scrap r) s = .next t ∧ Transited r .t6 s.dev t.dev ∧ t.dev.otpBits 2576 576 = 2 ^ 576 - 1 ∧
      t.dev.otpBits 3152 544 = 2 ^ 544 - 1 ∧ t.dev.otpBits 2304 8 = 255) ∧
  (∀ r i role y s, Asked r O.LC_CMD 0 s.dev → s.dev.roleOf r = role →
    ((i, role, y) ∈ [(Instr.sealTest r, 4, 0), (.lcUnlock r, 4, 1), (.personalize r, 4, 2), (.takeOwnership r, 1, 3), (.lcReturn r, 1, 4),
      (.rmaUnlock r, 4, 5)]) → (s.dev.rd O.LC_STATE ≠ y ∨ s.dev.mode = .run ∨ s.dev.mode = .drain) →
    ∃ t, exec i s = .next t ∧ Answers r 0xA303 t.dev ∧ Only [] asked s.dev t.dev) ∧
  (∀ r i role s, Asked r O.LC_CMD 0 s.dev → s.dev.roleOf r ≠ role →
    ((i, role) ∈ [(Instr.sealTest r, 4), (.lcUnlock r, 4), (.personalize r, 4), (.takeOwnership r, 1), (.lcReturn r, 1), (.rmaUnlock r, 4),
      (.scrap r, if s.dev.rd O.LC_STATE = 4 then 1 else 4)]) →
    ∃ t, exec i s = .next t ∧ Answers r 0xA003 t.dev ∧ Only [] asked s.dev t.dev) ∧
  (∀ r n s, MayTransit r 4 1 s.dev → CellsFit s.dev → s.dev.tokenMatch = some n →
    ∃ t, exec (.lcUnlock r) s = .next t ∧ t.dev.rd O.LC_STATE = 2 ∧ t.dev.lc = ⟨true, true⟩ ∧ KeysGone t.dev ∧
      t.dev.otpBits 2304 8 = s.dev.otpBits 2304 8 ||| 2 ^ n ∧ t.dev.rd O.LC_ARG_TOKEN = 0 ∧ t.dev.mode = s.dev.mode ∧
      Result O.LC_CMD 0 0 2 s.dev t.dev ∧ Answers r 0 t.dev ∧
      Keeps (O.LC_CMD :: O.LC_STATE :: O.LC_ARG_TOKEN :: O.LC_ARG_OWNER_ROOT :: F.otp :: F.lc :: F.fw :: F.memRest :: zeroized ++ asked)
        s.dev t.dev) ∧
  (∀ r s, MayTransit r 4 1 s.dev → s.dev.tokenMatch = none →
    ∃ t, exec (.lcUnlock r) s = .next t ∧ Answers r (if s.dev.tokensLeft = 0 then 0xA303 else 0xA405) t.dev ∧
      t.dev.rd O.LC_STATE = 1 ∧ Keeps (noted ++ closing ++ asked) s.dev t.dev) ∧
  (∀ r s, MayTransit r 4 5 s.dev →
    (leNat (sha256 (leBytes 32 (s.dev.rd O.LC_ARG_TOKEN))) = s.dev.otpBits 2320 256 →
      Unarmed s.dev → ∃ t, exec (.rmaUnlock r) s = .next t ∧ t.dev.rd O.LC_RMA_UNLOCKED = 1 ∧ t.dev.rd O.LC_ARG_TOKEN = 0 ∧
        Result O.LC_CMD 0 0 2 s.dev t.dev ∧ Answers r 0 t.dev ∧
        Only [(O.LC_CMD, 0), (O.LC_RMA_UNLOCKED, 0), (O.LC_ARG_TOKEN, 0), (O.LC_ARG_OWNER_ROOT, 0)] asked s.dev t.dev) ∧
    (leNat (sha256 (leBytes 32 (s.dev.rd O.LC_ARG_TOKEN))) ≠ s.dev.otpBits 2320 256 →
      ∃ t, exec (.rmaUnlock r) s = .next t ∧ Answers r 0xA405 t.dev ∧ Only [] asked s.dev t.dev)) ∧
  (∀ s, s.dev.lc.rebuilding = true → (3 ≤ s.dev.rd O.LC_STATE ∧ s.dev.rd O.LC_STATE ≤ 5 → s.dev.dusValid false = true ∨ s.dev.dusValid true = true) →
    (s.dev.rd O.LC_STATE = 4 → s.dev.ownerFieldValid = true) →
    ∃ t, exec .lcRebuildDone s = .next t ∧ t.dev.lc.rebuilding = false ∧ t.dev.rd O.DRBG_STATE = 1 ∧ (∀ o, t.dev.memByte o = 0#8) ∧
      t.dev.clsx.table = [] ∧ t.dev.keys.checkKey.length = 32 ∧ t.dev.keys.storeKey.length = 32 ∧
      (3 ≤ s.dev.rd O.LC_STATE ∧ s.dev.rd O.LC_STATE ≤ 5 → t.dev.rd O.VAULT_STATE 0 = 1 ∧ t.dev.rd O.VAULT_PURPOSE 0 = 0x10 ∧
        (t.dev.vaultOf 0).key = leBytes 32 s.dev.dus) ∧
      (s.dev.rd O.LC_STATE = 4 → t.dev.rd O.VAULT_STATE 1 = 1 ∧ t.dev.rd O.VAULT_PURPOSE 1 = 0x11 ∧
        (t.dev.vaultOf 1).key = leBytes 32 s.dev.ownerRoot ∧ t.dev.rd O.VAULT_STATE 2 = 1 ∧ t.dev.rd O.VAULT_PURPOSE 2 = 0x12 ∧
        (t.dev.vaultOf 2).key =
          fit 32 (kdf (leBytes 32 s.dev.ownerRoot) (asciiBytes "SEALING-ROOT") (leBytes 32 (s.dev.rd O.FW_M)) 32)) ∧
      Keeps ([O.DRBG_STATE, O.CLS_ENTRIES, O.LEARN_ENTRIES, O.RXSC_ENTRY, O.SA_STAT_PKTS, O.SA_STAT_OCTETS, O.SA_STAT_PKTS_ENCRYPTED,
        O.SA_STAT_NOT_VALID, O.SA_STAT_COMMIT_LATE, O.SA_STAT_TX_LOST, F.lc, F.draws, F.keyReseed, F.keyRequests, F.vault, F.checkKey, F.storeKey, F.memCells,
        F.memRest, F.clsx, F.laps] ++ (slotRows 0).map (·.1)) s.dev t.dev) ∧
  (∀ r row p o u s, Asked r O.DBG_SRAM_CMD row s.dev → p = s.dev.rd O.DBG_SRAM_PART row → o = s.dev.rd O.DBG_SRAM_OFFSET row → p ≠ 0 →
    s.dev.sramReadable p = true →
    (s.dev.rd O.LC_STATE = 3 ∨ s.dev.rd O.LC_STATE = 4 → (s.dev.rd O.DBG_CERT_SCOPE row).testBit 30 = true) → o % 64 = 0 →
    o + 64 ≤ s.dev.sramBytes p →
    ∃ t, exec (.dbgSramRead r row u) s = .next t ∧ (u = true → t.dev.rd O.DBG_SRAM_DATA row = 0) ∧ t.dev.rd O.DBG_SRAM_DATA row < 2 ^ 512 ∧
      Result O.DBG_SRAM_CMD row (if u then 0xA404 else 0) (if u then 3 else 2) s.dev t.dev ∧ Answers r 0 t.dev ∧
      Only [(O.DBG_SRAM_CMD, row), (O.DBG_SRAM_DATA, row)] (F.draws :: asked) s.dev t.dev) ∧
  (∀ r row p u s, Asked r O.DBG_SRAM_CMD row s.dev → p = s.dev.rd O.DBG_SRAM_PART row → p ≠ 0 →
    (p = 1 ∨ p = 6 ∨ p = 2 ∧ s.dev.rd O.LC_STATE ∈ [1, 3, 4, 6] ∨ s.dev.rd O.LC_STATE = 1 ∨ s.dev.rd O.LC_STATE = 6) →
    ∃ t, exec (.dbgSramRead r row u) s = .next t ∧ Answers r 0xA401 t.dev ∧ Only [] asked s.dev t.dev)

namespace Sys2Proof.Machine

/-! ### Firmware and attestation (R349 to R364) -/

/-- The objects of firmware slot row `t`. -/
def slotObjs (t : Nat) : List (Nat × Nat) :=
  [(O.FW_SLOT_STATE, t), (O.FW_SLOT_DIGEST, t), (O.FW_SLOT_VERSION, t), (O.FW_SLOT_BUILD_ID, t)]

/-- The flash bytes from offset `o` on are `v`, and every other byte is as before. -/
def FlashPut (o : Nat) (v : Bytes) (a b : Device) : Prop :=
  ∀ x, b.flashByte x = (if o ≤ x ∧ x < o + v.length then (v.getD (x - o) 0#8).toNat else a.flashByte x)

/-- The parts of an evidence record. -/
def evidenceRows (row : Nat) : List (Nat × Nat) :=
  [(O.ATT_EVIDENCE_PART_0, row), (O.ATT_EVIDENCE_PART_1, row), (O.ATT_EVIDENCE_PART_2, row), (O.ATT_EVIDENCE_PART_3, row),
   (O.ATT_EVIDENCE_PART_4, row), (O.ATT_EVIDENCE_PART_5, row)]

/-- What discarding the staged manifest changes: slot 3, the keys derived from it, and what names them (R300, R356). -/
def unstaged : List Nat :=
  [F.fw, F.vault, O.VAULT_STATE, O.VAULT_HANDLE, O.VAULT_LEVEL, O.VAULT_PURPOSE, O.VAULT_KEY_BITS, O.VAULT_COUNTED,
   O.VAULT_USES_LEFT, O.VAULT_ORIGIN, O.VAULT_PARENT, O.VAULT_CREATED_AT, O.VAULT_ARG_KEY, O.VAULT_RESULT_HANDLE, O.ROLE_ROOT,
   O.PEER_KEY, O.SA_KEK, O.GUN_FLAGS, O.GUN_STATE, F.clsx] ++ noted ++ closing

end Sys2Proof.Machine

/-- R349 to R363. -/
def Obligations.FirmwareIsStagedActivatedAndAttested : Prop :=
  (∀ r x s, Asked r O.FW_CMD 0 s.dev → s.dev.fwRole r = false → x = s.dev.rd O.FW_STAGE_TARGET → s.dev.fwTargetOk = true →
    s.dev.fwTargetBusy = false →
    ∃ t, exec (.fwErase r) s = .next t ∧ t.dev.rd O.FW_SLOT_STATE x = 0 ∧ t.dev.rd O.FW_SLOT_DIGEST x = 0 ∧
      FlashPut (slotBase x) (List.replicate (slotSize x) 255#8) s.dev t.dev ∧
      (s.dev.fw.staged = some x → t.dev.fw.staged = none ∧ t.dev.rd O.VAULT_STATE 3 = 0) ∧
      Result O.FW_CMD 0 0 2 s.dev t.dev ∧ Answers r 0 t.dev ∧
      (s.dev.fw.staged ≠ some x → Only ((O.FW_CMD, 0) :: slotObjs x) (F.flash :: asked) s.dev t.dev) ∧
      Keeps (O.FW_CMD :: (slotObjs x).map (·.1) ++ F.flash :: unstaged ++ asked) s.dev t.dev) ∧
  (∀ r x o v s, Asked r O.FW_CMD 0 s.dev → s.dev.fwRole r = false → x = s.dev.rd O.FW_STAGE_TARGET → s.dev.fwTargetOk = true →
    s.dev.fwTargetBusy = false → o = s.dev.rd O.FW_STAGE_OFFSET → o % 1000 = 0 → o < slotSize x →
    v = (leBytes 1000 (s.dev.rd O.FW_STAGE_DATA)).take (slotSize x - o) →
    ∃ t, exec (.fwWrite r) s = .next t ∧ t.dev.rd O.FW_SLOT_STATE x = 1 ∧ t.dev.rd O.FW_SLOT_DIGEST x = 0 ∧
      FlashPut (slotBase x + o) v s.dev t.dev ∧
      (s.dev.fw.staged = some x → t.dev.fw.staged = none ∧ t.dev.rd O.VAULT_STATE 3 = 0) ∧
      Result O.FW_CMD 0 0 2 s.dev t.dev ∧ Answers r 0 t.dev ∧
      (s.dev.fw.staged ≠ some x → Only ((O.FW_CMD, 0) :: slotObjs x) (F.flash :: asked) s.dev t.dev) ∧
      Keeps (O.FW_CMD :: (slotObjs x).map (·.1) ++ F.flash :: unstaged ++ asked) s.dev t.dev) ∧
  (∀ r i s, Asked r O.FW_CMD 0 s.dev → s.dev.fwRole r = false → (s.dev.fwTargetOk = false ∨ s.dev.fwTargetBusy = true) →
    (i = .fwErase r ∨ (i = .fwWrite r ∧ s.dev.rd O.FW_STAGE_OFFSET % 1000 = 0)) →
    ∃ t, exec i s = .next t ∧ Answers r 0xA106 t.dev ∧ Only [] asked s.dev t.dev) ∧
  (∀ r s, Asked r O.FW_CMD 0 s.dev → s.dev.fwRole r = false → s.dev.rd O.FW_STAGE_OFFSET % 1000 ≠ 0 →
    ∃ t, exec (.fwWrite r) s = .next t ∧ Answers r 0xA101 t.dev ∧ Only [] asked s.dev t.dev) ∧
  (∀ r i s, Asked r O.FW_CMD 0 s.dev → s.dev.fwRole r = true →
    i ∈ [Instr.fwErase r, .fwWrite r, .fwVerify r, .fwPrefer r, .fwDiscard r, .commitVersion r, .activateHot r] →
    ∃ t, exec i s = .next t ∧ Answers r 0xA003 t.dev ∧ Only [] asked s.dev t.dev) ∧
  (∀ r x s, Asked r O.FW_CMD 0 s.dev → s.dev.fwRole r = false → x = s.dev.rd O.FW_STAGE_TARGET → s.dev.fwTargetOk = true →
    s.dev.rd O.FW_SLOT_STATE x ≠ 4 →
    ∃ t, exec (.fwVerify r) s = .next t ∧ Answers r 0 t.dev ∧
      Keeps (O.FW_CMD :: (slotObjs x).map (·.1) ++ unstaged ++ asked) s.dev t.dev ∧
      (s.dev.imageOk x = true → t.dev.rd O.FW_SLOT_STATE x = 2 ∧ t.dev.rd O.FW_SLOT_DIGEST x = s.dev.imageDigest x ∧
        t.dev.rd O.FW_SLOT_VERSION x = s.dev.manNat x 8 4 ∧ t.dev.rd O.FW_SLOT_BUILD_ID x = s.dev.manNat x 80 16 ∧
        t.dev.fw.staged = (if x < 2 then some x else s.dev.fw.staged) ∧ (x < 2 → s.dev.fw.staged ≠ none → s.dev.fw.staged ≠ some x → t.dev.rd O.VAULT_STATE 3 = 0) ∧
        Result O.FW_CMD 0 0 2 s.dev t.dev ∧
        (s.dev.fw.staged = none ∨ s.dev.fw.staged = some x ∨ 2 ≤ x → Only ((O.FW_CMD, 0) :: slotObjs x) (F.fw :: asked) s.dev t.dev)) ∧
      (s.dev.imageOk x = false → t.dev.rd O.FW_SLOT_STATE x = 3 ∧ Result O.FW_CMD 0 0xA406 3 s.dev t.dev ∧
        (s.dev.fw.staged = some x → t.dev.fw.staged = none ∧ t.dev.rd O.VAULT_STATE 3 = 0) ∧
        (s.dev.fw.staged ≠ some x → Only ((O.FW_CMD, 0) :: slotObjs x) asked s.dev t.dev))) ∧
  (∀ r x s, Asked r O.FW_CMD 0 s.dev → s.dev.fwRole r = false → x = s.dev.rd O.FW_STAGE_TARGET → s.dev.fwTargetOk = true →
    s.dev.rd O.FW_SLOT_STATE x = 4 →
    ∃ t, exec (.fwVerify r) s = .next t ∧ Answers r 0 t.dev ∧
      (s.dev.imageOk x = true → Result O.FW_CMD 0 0 2 s.dev t.dev ∧ Only [(O.FW_CMD, 0)] asked s.dev t.dev) ∧
      (s.dev.imageOk x = false → t.dev.rd O.FW_SLOT_STATE x = 3 ∧ Result O.FW_CMD 0 0xA406 3 s.dev t.dev ∧
        (s.dev.fw.staged ≠ some x → Only ((O.FW_CMD, 0) :: slotObjs x) asked s.dev t.dev))) ∧
  (∀ r x s, Asked r O.FW_CMD 0 s.dev → s.dev.fwRole r = false → x = s.dev.rd O.FW_STAGE_TARGET → s.dev.fwTargetOk = true →
    CellsFit s.dev → (s.dev.rd O.FW_SLOT_STATE x = 2 →
      ∃ t, exec (.fwPrefer r) s = .next t ∧ t.dev.prefers (x / 2) = x % 2 ∧
        (∀ k, k < 5 → k ≠ x / 2 → t.dev.prefers k = s.dev.prefers k) ∧
        (∀ o, o < 0xF00000 → t.dev.flashByte o = s.dev.flashByte o) ∧ Result O.FW_CMD 0 0 2 s.dev t.dev ∧ Answers r 0 t.dev ∧
        Only [(O.FW_CMD, 0)] (F.flash :: asked) s.dev t.dev) ∧
    (s.dev.rd O.FW_SLOT_STATE x ≠ 2 →
      ∃ t, exec (.fwPrefer r) s = .next t ∧ Answers r 0xA106 t.dev ∧ Only [] asked s.dev t.dev)) ∧
  (∀ r s, Asked r O.FW_CMD 0 s.dev → s.dev.fwRole r = false →
    ∃ t, exec (.fwDiscard r) s = .next t ∧ t.dev.fw.staged = none ∧ (s.dev.fw.staged ≠ none → t.dev.rd O.VAULT_STATE 3 = 0) ∧
      Result O.FW_CMD 0 0 2 s.dev t.dev ∧ Answers r 0 t.dev ∧
      (s.dev.fw.staged = none → Only [(O.FW_CMD, 0)] asked s.dev t.dev) ∧ Keeps (O.FW_CMD :: unstaged ++ asked) s.dev t.dev) ∧
  (∀ r x v s, Asked r O.FW_CMD 0 s.dev → s.dev.fwRole r = false → s.dev.runningSlot = some x → v = s.dev.manNat x 8 4 →
    v ≤ 64 → CellsFit s.dev → s.dev.otpWords 520 2 = 2 ^ s.dev.rollback - 1 → s.dev.fw.staged = none →
    (∀ y, y < 2 → s.dev.rd O.FW_SLOT_STATE y = 2 → v ≤ s.dev.rd O.FW_SLOT_VERSION y) →
    ∃ t, exec (.commitVersion r) s = .next t ∧ t.dev.rollback = max s.dev.rollback v ∧ Result O.FW_CMD 0 0 2 s.dev t.dev ∧
      Answers r 0 t.dev ∧ Only [(O.FW_CMD, 0)] (F.otp :: asked) s.dev t.dev) ∧
  (∀ r x s, Asked r O.FW_CMD 0 s.dev → s.dev.fwRole r = false → (s.dev.mode = .safe → s.dev.rd O.FLT_FATAL_SINCE_BOOT = 0) →
    (∀ k, k < 4 → s.dev.rd O.SLICE_STATE k ≠ 4 ∧ s.dev.rd O.MEM_CH_STATE k ≠ 1) → s.dev.fw.staged = some x → x < 2 →
    (s.dev.hotForbidden = false →
      ∃ t, exec (.activateHot r) s = .next t ∧ t.dev.fw.hot = some x ∧ t.dev.prefers 0 = x ∧
        (∀ n, 1 ≤ n → n ≤ 52 → t.dev.rd O.SESSION_STATE n = 0) ∧ Result O.FW_CMD 0 0 1 s.dev t.dev ∧ Answers r 0 t.dev ∧
        Keeps (O.FW_CMD :: F.flash :: F.fw :: closing ++ asked) s.dev t.dev) ∧
    (s.dev.hotForbidden = true →
      ∃ t, exec (.activateHot r) s = .next t ∧ Answers r 0xA106 t.dev ∧ Only [] asked s.dev t.dev)) ∧
  (∀ x s, s.dev.fw.hot = some x →
    ∃ t, exec .hotActivationDone s = .next t ∧ t.dev.fw.hot = none ∧ t.dev.fw.staged = none ∧ t.dev.rd O.BOOT_IMAGE = x ∧
      t.dev.rd O.FW_SLOT_STATE x = 4 ∧ t.dev.rd O.FW_M = s.dev.hotChain x ∧
      t.dev.rd O.FW_HOT_COUNT = (s.dev.rd O.FW_HOT_COUNT + 1) % 2 ^ 32 ∧ t.dev.cmdStatus O.FW_CMD 0 = 2 ∧ t.dev.rd O.VAULT_STATE 3 = 0 ∧
      (s.dev.rd O.VAULT_STATE 3 = 1 → t.dev.rd O.VAULT_STATE 2 = 1 ∧ t.dev.rd O.VAULT_PURPOSE 2 = 0x12 ∧
        (t.dev.vaultOf 2).key = fit 32 (s.dev.keyBytes 3)) ∧
      t.dev.mode = s.dev.mode ∧ t.dev.pipe = s.dev.pipe ∧ t.dev.sas = s.dev.sas ∧
      Keeps ([O.FW_CMD, O.FW_HOT_COUNT, O.FW_M, O.FW_M_MISMATCH, O.FW_SLOT_STATE, O.FW_SLOT_DIGEST, O.FW_SLOT_VERSION,
        O.FW_SLOT_BUILD_ID, O.BOOT_IMAGE, O.BOOT_FLAGS, O.ATT_STATE, O.ATT_EPOCH, O.ATT_LEAVES_LEFT, O.ATT_CMD, O.LA_RANDOM_IV_JOBS,
        O.ATT_EVIDENCE_PART_0, O.ATT_EVIDENCE_PART_1, O.ATT_EVIDENCE_PART_2, O.ATT_EVIDENCE_PART_3, O.ATT_EVIDENCE_PART_4,
        O.ATT_EVIDENCE_PART_5, F.att, F.otp, F.draws] ++ unstaged) s.dev t.dev) ∧
  (∀ r s, Asked r O.ATT_BUILD_TOP 0 s.dev → CellsFit s.dev →
    (s.dev.rd O.LC_STATE = 3 → s.dev.topRoot = 0 →
      ∃ t, exec (.attBuildTop r) s = .next t ∧ t.dev.topRoot = leNat (s.dev.topNode 15 1) ∧
        (∀ k, 1 ≤ k → k ≤ 65535 →
          t.dev.flashBytes (Device.nodeOffset k) 32 = s.dev.topNode (Device.topHeight k) k) ∧
        Result O.ATT_BUILD_TOP 0 0 2 s.dev t.dev ∧ Answers r 0 t.dev ∧
        Only [(O.ATT_BUILD_TOP, 0)] (F.flash :: F.otp :: asked) s.dev t.dev) ∧
    ((s.dev.rd O.LC_STATE ≠ 3 ∨ s.dev.topRoot ≠ 0) →
      ∃ t, exec (.attBuildTop r) s = .next t ∧ Answers r 0xA303 t.dev ∧ Only [] asked s.dev t.dev)) ∧
  (∀ s, s.dev.rd O.ATT_STATE = 4 → s.dev.att.waiting = [] →
    ∃ t, exec .bottomTreeBuildDone s = .next t ∧ t.dev.rd O.ATT_STATE = 1 ∧ t.dev.rd O.ATT_LEAVES_LEFT = 1024 ∧ t.dev.att = ⟨0, []⟩ ∧
      Only [(O.ATT_STATE, 0), (O.ATT_LEAVES_LEFT, 0)] [F.att, F.draws] s.dev t.dev) ∧
  (∀ row s, s.dev.rd O.ATT_STATE = 4 → s.dev.att.waiting = [row] →
    ∃ t, exec .bottomTreeBuildDone s = .next t ∧ t.dev.rd O.ATT_STATE = 1 ∧ t.dev.rd O.ATT_LEAVES_LEFT = 1023 ∧
      t.dev.att = ⟨1, []⟩ ∧ t.dev.cmdStatus O.ATT_CMD row = 2 ∧
      Only ([(O.ATT_STATE, 0), (O.ATT_LEAVES_LEFT, 0), (O.ATT_CMD, row)] ++ evidenceRows row) [F.att, F.draws] s.dev t.dev) ∧
  (∀ r row s, Asked r O.ATT_CMD row s.dev → s.dev.rd O.ATT_STATE = 1 → s.dev.rd O.ATT_LEAVES_LEFT ≠ 0 → s.dev.fw.measured.length = 7 →
    ∃ t, exec (.attSign r row) s = .next t ∧
      t.dev.rd O.ATT_EVIDENCE_PART_0 row % 2 ^ (8 * 480) = leNat (s.dev.evidence row s.dev.att.leaf) ∧
      t.dev.att = { s.dev.att with leaf := s.dev.att.leaf + 1 } ∧ t.dev.rd O.ATT_LEAVES_LEFT = 1024 - (s.dev.att.leaf + 1) ∧
      Result O.ATT_CMD row 0 2 s.dev t.dev ∧ Answers r 0 t.dev ∧
      Only ([(O.ATT_CMD, row), (O.ATT_LEAVES_LEFT, 0)] ++ evidenceRows row) (F.att :: F.draws :: asked) s.dev t.dev) ∧
  (∀ r row s, Asked r O.ATT_CMD row s.dev → s.dev.rd O.ATT_STATE = 4 →
    ∃ t, exec (.attSign r row) s = .next t ∧ t.dev.att.waiting = s.dev.att.waiting ++ [row] ∧ Result O.ATT_CMD row 0 1 s.dev t.dev ∧
      Answers r 0 t.dev ∧ Only [(O.ATT_CMD, row)] (F.att :: asked) s.dev t.dev) ∧
  (∀ r row s, Asked r O.ATT_CMD row s.dev → s.dev.rd O.ATT_STATE ∈ [0, 2, 3] →
    ∃ t, exec (.attSign r row) s = .next t ∧ Answers r 0xA303 t.dev ∧ Only [] asked s.dev t.dev) ∧
  (∀ s, s.dev.rd O.ATT_STATE = 1 → s.dev.rd O.ATT_LEAVES_LEFT = 0 → s.dev.att.waiting = [] → s.dev.topRoot ≠ 0 →
    ∃ t, exec .epochRollover s = .next t ∧
      (∀ e, s.dev.nextEpoch = some e → s.dev.pathGood e = true →
        (t.dev.otpWord (1024 + e / 32)).testBit (e % 32) = true ∧ t.dev.rd O.ATT_STATE = 4 ∧ t.dev.rd O.ATT_EPOCH = e) ∧
      (∀ e, s.dev.nextEpoch = some e → s.dev.pathGood e = false → t.dev.otp = s.dev.otp ∧ t.dev.rd O.ATT_STATE = 3) ∧
      (s.dev.nextEpoch = none → t.dev.otp = s.dev.otp ∧ t.dev.rd O.ATT_STATE = 2 ∧ (t.dev.rd O.BOOT_FLAGS).testBit 1 = true) ∧
      Only [(O.ATT_STATE, 0), (O.ATT_EPOCH, 0), (O.ATT_LEAVES_LEFT, 0), (O.BOOT_FLAGS, 0)] [F.att, F.otp] s.dev t.dev) ∧
  (∀ s, (s.dev.rd O.ATT_STATE ≠ 1 ∨ s.dev.rd O.ATT_LEAVES_LEFT ≠ 0) → ∃ t, exec .epochRollover s = .next t ∧ t = s)

namespace Sys2Proof.Machine

/-! ### Fault collection (R365 to R380) -/

/-- The record with number `seq` in the log says what a fault of source `src` was (R375). -/
def Logged (src code cls base : Nat) (a b : Device) : Prop :=
  b.rd O.FLT_LOG_LAST_SEQ = a.faults.seq ∧ bits (b.rd O.FLT_LOG_RECORD (a.faults.seq % 512)) 0 32 = a.faults.seq % 2 ^ 32 ∧
  bits (b.rd O.FLT_LOG_RECORD (a.faults.seq % 512)) 32 96 = a.phcTime % 2 ^ 96 ∧
  bits (b.rd O.FLT_LOG_RECORD (a.faults.seq % 512)) 128 16 = src ∧
  bits (b.rd O.FLT_LOG_RECORD (a.faults.seq % 512)) 144 16 = code % 65536 ∧
  bits (b.rd O.FLT_LOG_RECORD (a.faults.seq % 512)) 160 8 = cls ∧ bits (b.rd O.FLT_LOG_RECORD (a.faults.seq % 512)) 168 8 = base ∧
  b.rd O.FLT_SRC_EVENTS src = (a.rd O.FLT_SRC_EVENTS src + 1) % 2 ^ 64 ∧ b.rd O.FLT_SRC_LAST_AT src = a.phcTime

/-- A fault of source `src` with base class `base` can be sampled now (R366, R367). -/
def Samples (src base : Nat) (d : Device) : Prop :=
  d.clockOn = true ∧ d.drivesPair src = true ∧ (Device.baseClasses src).testBit base = true ∧ d.rd O.FLT_SRC_STATE src ≠ 2 ∧ d.mode ≠ .reset

end Sys2Proof.Machine

/-- R409. -/
def Obligations.HotActivationWaitsForSlicesAndChannels : Prop :=
  ∀ r k s, Asked r O.FW_CMD 0 s.dev → s.dev.fwRole r = false → k < 4 → (s.dev.rd O.SLICE_STATE k = 4 ∨ s.dev.rd O.MEM_CH_STATE k = 1) →
    ∃ t, exec (.activateHot r) s = .next t ∧ Answers r 0xA303 t.dev ∧ t.dev.fw = s.dev.fw ∧ Only [] asked s.dev t.dev

/-- R366 to R378. -/
def Obligations.FaultsAreClassifiedLatchedAndAcknowledged : Prop :=
  (∀ src code x w (s : State), Samples src 0 s.dev → EventRoom s.dev →
    ∃ t, exec (.faultSample src code 0 ⟨x, w⟩) s = .next t ∧ Logged src code 0 0 s.dev t.dev ∧
      Only [(O.FLT_SRC_STATE, src)] noted s.dev t.dev) ∧
  (∀ src code x w (s : State), Samples src 1 s.dev → Uncounted src s.dev → EventRoom s.dev →
    ∃ t, exec (.faultSample src code 1 ⟨x, w⟩) s = .next t ∧ Logged src code 1 1 s.dev t.dev ∧
      Only [(O.FLT_SRC_STATE, src)] noted s.dev t.dev) ∧
  (∀ src code x (s : State), Samples src 2 s.dev → Calm src 2 s.dev → EventRoom s.dev →
    ∃ t, exec (.faultSample src code 2 ⟨x, .none⟩) s = .next t ∧ Logged src code 2 2 s.dev t.dev ∧ (t.dev.rd O.FLT_STATUS).testBit 2 = true ∧
      (natAt t.dev.faults.held src).testBit 2 = true ∧ Only [(O.FLT_SRC_STATE, src), (O.FLT_SRC_CLASS, src)] (O.FLT_STATUS :: noted) s.dev t.dev) ∧
  (∀ src code x w (s : State), Samples src 3 s.dev → Calm src 3 s.dev → EventRoom s.dev →
    ∃ t, exec (.faultSample src code 3 ⟨x, w⟩) s = .next t ∧ (t.dev.rd O.FLT_STATUS).testBit 3 = true ∧
      (natAt t.dev.faults.held src).testBit 3 = true ∧ (s.dev.mode ≠ .boot → t.dev.mode = .safe) ∧ t.dev.keys = s.dev.keys ∧
      Keeps (O.FLT_SRC_STATE :: faulting) s.dev t.dev) ∧
  (∀ src code x (s : State), Samples src 2 s.dev → Uncounted src s.dev → s.dev.mode ≠ .boot → (s.dev.rd O.FLT_STATUS).testBit 2 = true →
    ∃ t, exec (.faultSample src code 2 ⟨x, .none⟩) s = .next t ∧ (t.dev.rd O.FLT_STATUS).testBit 3 = true ∧
      (natAt t.dev.faults.held src).testBit 3 = true ∧ t.dev.mode = .safe ∧ Keeps (O.FLT_SRC_STATE :: faulting) s.dev t.dev) ∧
  (∀ src code x w (s : State), Samples src 3 s.dev → Uncounted src s.dev → s.dev.mode ≠ .boot → (s.dev.rd O.FLT_STATUS).testBit 3 = true →
    ∃ t, exec (.faultSample src code 3 ⟨x, w⟩) s = .next t ∧ (t.dev.rd O.FLT_STATUS).testBit 4 = true ∧ t.dev.rd O.FLT_FATAL_SINCE_BOOT = 1 ∧
      t.dev.mode = .safe ∧ (∀ k, k < 1024 → t.dev.rd O.VAULT_STATE k = 0) ∧ (∀ pr, t.dev.rd O.SA_STATE pr = 0) ∧
      (∀ n, 1 ≤ n → n ≤ 52 → t.dev.rd O.SESSION_STATE n = 0) ∧ t.dev.keys.checkKey = [] ∧ t.dev.keys.storeKey = [] ∧
      t.dev.rd O.DRBG_STATE = 0 ∧ t.dev.la.jobs = [] ∧ t.dev.mem = s.dev.mem ∧ Keeps (O.FLT_SRC_STATE :: faulting) s.dev t.dev) ∧
  (∀ code x b slot (s : State), b < 2 * s.dev.slices → Samples (bankSrc b) 2 s.dev → Calm (bankSrc b) 2 s.dev → EventRoom s.dev →
    s.dev.cachedKey b slot ≠ none →
    ∃ t, exec (.faultSample (bankSrc b) code 2 ⟨x, .schedule slot⟩) s = .next t ∧ (t.dev.rd O.FLT_STATUS).testBit 2 = true ∧
      t.dev.cachedKey b slot = none ∧ slot ∈ (t.dev.bankOf b).loads.map (·.1) ∧
      (∀ id f c, s.dev.frame? id = some f → f.sd = b → f.schedKey ≠ none → f.ctx = some c → c.saRow = slot →
        (t.dev.frame? id).bind Frame.schedKey = none ∧ (t.dev.frame? id).bind Frame.wait = some slot) ∧
      Only [(O.FLT_SRC_STATE, bankSrc b), (O.FLT_SRC_CLASS, bankSrc b)] (O.FLT_STATUS :: F.banks :: F.pipe :: noted) s.dev t.dev) ∧
  (∀ code x b id f (s : State), b < 2 * s.dev.slices → Samples (bankSrc b) 2 s.dev → Calm (bankSrc b) 2 s.dev → EventRoom s.dev →
    s.dev.frame? id = some f → f.sd = b → f.ctx ≠ none →
    ∃ t, exec (.faultSample (bankSrc b) code 2 ⟨x, .context id⟩) s = .next t ∧ (t.dev.rd O.FLT_STATUS).testBit 2 = true ∧
      t.dev.rd O.BANK_DISCARDS b = (s.dev.rd O.BANK_DISCARDS b + 1) % 2 ^ 64 ∧
      (f.sent = 0 → Gone id s.dev t.dev) ∧
      (f.sent ≠ 0 → (t.dev.frame? id).map Frame.poison = some true ∧ (t.dev.frame? id).bind Frame.ctx = none) ∧
      Only [(O.FLT_SRC_STATE, bankSrc b), (O.FLT_SRC_CLASS, bankSrc b), (O.BANK_DISCARDS, b)] (O.FLT_STATUS :: traffic ++ noted)
        s.dev t.dev) ∧
  (∀ src code x (s : State), Samples src 2 s.dev → s.dev.srcN src ≠ 0 → s.dev.srcN src ≤ s.dev.windowCount src + 1 → 0 < s.dev.srcW src →
    2 < s.dev.rd O.FLT_SRC_CAP src → (s.dev.rd O.FLT_STATUS).testBit 3 = false →
    ∃ t, exec (.faultSample src code 2 ⟨x, .none⟩) s = .next t ∧ (t.dev.rd O.FLT_STATUS).testBit 3 = true ∧
      (s.dev.mode ≠ .boot → t.dev.mode = .safe) ∧ Keeps (O.FLT_SRC_STATE :: faulting) s.dev t.dev) ∧
  (∀ src (s : State), s.dev.clockOn = true → s.dev.drivesPair src = true → s.dev.rd O.FLT_SRC_STATE src ≠ 2 → Calm 0 2 s.dev →
    Seen 0 s.dev → EventRoom s.dev →
    ∃ t, exec (.brokenWire src) s = .next t ∧ t.dev.rd O.FLT_SRC_STATE src = 2 ∧ Logged 0 0x0F00 2 2 s.dev t.dev ∧
      (t.dev.rd O.FLT_STATUS).testBit 2 = true ∧
      Only [(O.FLT_SRC_STATE, src), (O.FLT_SRC_CLASS, 0)] (O.FLT_STATUS :: noted) s.dev t.dev) ∧
  (∀ src i (s : State), s.dev.rd O.FLT_SRC_STATE src = 2 → (i = Instr.brokenWire src ∨ ∃ code base x w, i = .faultSample src code base ⟨x, w⟩) →
    ∃ t, exec i s = .next t ∧ t = s) ∧
  (∀ src b (s : State), s.dev.clockOn = true → s.dev.drivesPair src = true → s.dev.rd O.FLT_SRC_STATE src = 2 → Seen 0 s.dev → EventRoom s.dev →
    ∃ t, exec (.wireRestored src b) s = .next t ∧ t.dev.rd O.FLT_SRC_STATE src = (if b then 1 else 0) ∧ Logged 0 0x0F00 0 0 s.dev t.dev ∧
      Only [(O.FLT_SRC_STATE, src)] noted s.dev t.dev) ∧
  (∀ src (s : State), s.dev.clockOn = true → s.dev.sourceOk src = true → pllSource src = true → Seen src s.dev →
    ∃ t, exec (.pllLockRegained src) s = .next t ∧ t.dev.rd O.FLT_SRC_STATE src = 0 ∧ Only [(O.FLT_SRC_STATE, src)] [] s.dev t.dev) ∧
  (∀ (s : State), s.dev.clockOn = true → s.dev.boot.image = true → s.dev.rd O.BOOT_IMAGE ≠ 0xFF → Calm 0x207 3 s.dev → Seen 0x207 s.dev →
    ∃ t, exec .sydinWatchdog s = .next t ∧ (t.dev.rd O.FLT_STATUS).testBit 3 = true ∧ (s.dev.mode ≠ .boot → t.dev.mode = .safe) ∧
      Keeps faulting s.dev t.dev) ∧
  (∀ r src s, Asked r O.FLT_SRC_ACK src s.dev → s.dev.rd O.FLT_SRC_STATE src ≠ 1 → s.dev.rd O.FLT_SRC_STATE src ≠ 2 →
    (natAt s.dev.faults.held src).testBit 4 = false →
    ∃ t, exec (.fltSrcAck r src) s = .next t ∧ t.dev.rd O.FLT_SRC_CLASS src = 0xFF ∧ natAt t.dev.faults.held src = 0 ∧
      (∀ x, x ≠ src → natAt t.dev.faults.held x = natAt s.dev.faults.held x) ∧
      (∀ c ∈ [2, 3, 4], (t.dev.rd O.FLT_STATUS).testBit c = t.dev.faults.held.any (fun e => e.2.testBit c)) ∧
      Result O.FLT_SRC_ACK src 0 2 s.dev t.dev ∧ Answers r 0 t.dev ∧
      Only [(O.FLT_SRC_ACK, src), (O.FLT_SRC_CLASS, src), (O.FLT_STATUS, 0)] (F.faults :: asked) s.dev t.dev) ∧
  (∀ r src s, Asked r O.FLT_SRC_ACK src s.dev →
    (s.dev.rd O.FLT_SRC_STATE src = 1 ∨ s.dev.rd O.FLT_SRC_STATE src = 2 ∨ (natAt s.dev.faults.held src).testBit 4 = true) →
    ∃ t, exec (.fltSrcAck r src) s = .next t ∧ Answers r 0xA303 t.dev ∧ Only [] asked s.dev t.dev) ∧
  (∀ r s, Asked r O.FLT_ACK_ALL 0 s.dev →
    ∃ t, exec (.fltAckAll r) s = .next t ∧
      (∀ src, s.dev.rd O.FLT_SRC_STATE src = 0 → (∀ e ∈ s.dev.faults.held, e.1 = src → e.2.testBit 4 = false) →
        natAt t.dev.faults.held src = 0) ∧
      (∀ src, (s.dev.rd O.FLT_SRC_STATE src ≠ 0 ∨ ∀ e ∈ s.dev.faults.held, e.1 = src → e.2.testBit 4 = true) →
        natAt t.dev.faults.held src = natAt s.dev.faults.held src) ∧
      Result O.FLT_ACK_ALL 0 0 2 s.dev t.dev ∧ Answers r 0 t.dev ∧
      Keeps (O.FLT_ACK_ALL :: O.FLT_SRC_CLASS :: O.FLT_STATUS :: F.faults :: asked) s.dev t.dev) ∧
  (∀ n x c rcd rest s, s.dev.mode ≠ .reset → n < 64 → s.dev.rd O.RING_KIND n = 4 → s.dev.ringReady n = true →
    (∀ e ∈ (s.dev.dmaOf n).events, s.dev.eventFresh e = true) → (s.dev.dmaOf n).events = (c, rcd) :: rest → (s.dev.dmaOf n).taken = [] →
    s.dev.descCheck n x = 0 → 64 ≤ x.length → x.pcieError = false →
    ∃ t, exec (.eventRingDeliver n x) s = .next t ∧
      Out.hostWrite n x.address rcd (leBytes 4 64 ++ Device.eventKind rcd 0) ∈ t.dev.out.drop s.dev.out.length ∧
      Out.completion n 0 64 (Device.eventKind rcd 0) ∈ t.dev.out.drop s.dev.out.length ∧ (t.dev.dmaOf n).events = rest ∧
      t.dev.rd O.RING_HEAD n = (s.dev.rd O.RING_HEAD n + 1) % s.dev.rd O.RING_SIZE n ∧
      Only [(O.RING_HEAD, n), (O.RING_COMPLETED, n)] (F.pcieServed :: completing) s.dev t.dev) ∧
  (∀ n x c rcd rest e k s, s.dev.mode ≠ .reset → n < 64 → s.dev.rd O.RING_KIND n = 4 → s.dev.ringReady n = true →
    (∀ e ∈ (s.dev.dmaOf n).events, s.dev.eventFresh e = true) → (s.dev.dmaOf n).events = (c, rcd) :: rest → (s.dev.dmaOf n).taken = [] →
    (s.dev.descCheck n x = e ∧ e ≠ 0 ∧ k = fit 16 x.kind ∨ s.dev.descCheck n x = 0 ∧ x.length < 64 ∧ e = 4 ∧ k = Device.eventKind rcd 1 ∨
      s.dev.descCheck n x = 0 ∧ 64 ≤ x.length ∧ x.pcieError = true ∧ e = 3 ∧ k = fit 16 x.kind) →
    ∃ t, exec (.eventRingDeliver n x) s = .next t ∧ Out.completion n e 0 k ∈ t.dev.out.drop s.dev.out.length ∧
      (t.dev.dmaOf n).events = (c, rcd) :: rest ∧
      Only [(O.RING_HEAD, n), (O.RING_REJECTED, n)] (F.pcieServed :: completing) s.dev t.dev) ∧
  (∀ n x s, s.dev.mode ≠ .reset → n < 64 → s.dev.rd O.RING_KIND n = 4 → s.dev.ringReady n = true → (s.dev.dmaOf n).events ≠ [] →
    (∀ e ∈ (s.dev.dmaOf n).events, s.dev.eventFresh e = false) →
    ∃ t, exec (.eventRingDeliver n x) s = .next t ∧ (t.dev.dmaOf n).events = [] ∧
      t.dev.rd O.FLT_EVENT_LOST = (s.dev.rd O.FLT_EVENT_LOST + (s.dev.dmaOf n).events.length) % 2 ^ 64 ∧
      Only [(O.FLT_EVENT_LOST, 0)] [F.pcieDma] s.dev t.dev)

namespace Sys2Proof.Machine

/-! ### Monitors, counters and SRAM rows (R382 to R406, R435) -/

/-- The newest entry of the tamper log is of channel `ch` and of this kind (R387). -/
def Entered (ch kind : Nat) (a b : Device) : Prop :=
  b.rd O.TAMPER_LOG_LAST_SEQ = a.mon.seq ∧ bits (b.rd O.TAMPER_LOG_ENTRY (a.mon.seq % 256)) 0 32 = a.mon.seq % 2 ^ 32 ∧
  bits (b.rd O.TAMPER_LOG_ENTRY (a.mon.seq % 256)) 32 96 = b.phcTime % 2 ^ 96 ∧
  bits (b.rd O.TAMPER_LOG_ENTRY (a.mon.seq % 256)) 128 8 = ch ∧ bits (b.rd O.TAMPER_LOG_ENTRY (a.mon.seq % 256)) 136 8 = kind

/-- A fault of source `src` with base class DEGRADED, and a CORRECTED one after it, keep their classes (R370). -/
def CalmTwice (src : Nat) (d : Device) : Prop :=
  (d.srcN src = 0 ∨ d.windowCount src + 2 < d.srcN src) ∧ (d.rd O.FLT_STATUS).testBit 2 = false

end Sys2Proof.Machine

/-- R382 to R387, R396, R397, R404 to R406, R435. -/
def Obligations.MonitorsCountersAndRowsAct : Prop :=
  (∀ ch v g h (s : State), s.dev.clockOn = true → ch < 16 → envChannel ch = true → s.dev.rd O.MON_STATE ch = 0 →
    s.dev.monMasked ch g h = false → s.dev.monBeyond ch v g = false →
    ∃ t, exec (.monitorEvent ch v g h) s = .next t ∧ t.dev.rd O.MON_VALUE ch = toTwos 32 v ∧ Only [(O.MON_VALUE, ch)] [] s.dev t.dev) ∧
  (∀ ch v g h (s : State), s.dev.clockOn = true → s.dev.mode ≠ .reset → ch < 16 → envChannel ch = true → s.dev.rd O.MON_STATE ch = 0 →
    s.dev.monMasked ch g h = false → s.dev.monBeyond ch v g = true → Calm (0x400 + ch) 2 s.dev → Seen (0x400 + ch) s.dev →
    EventRoom s.dev →
    ∃ t, exec (.monitorEvent ch v g h) s = .next t ∧ t.dev.rd O.MON_VALUE ch = toTwos 32 v ∧ t.dev.rd O.MON_STATE ch = 1 ∧
      t.dev.rd O.MON_EVENTS ch = (s.dev.rd O.MON_EVENTS ch + 1) % 2 ^ 64 ∧ t.dev.rd O.FLT_SRC_STATE (0x400 + ch) = 1 ∧
      Entered ch 0 s.dev t.dev ∧ (t.dev.rd O.FLT_STATUS).testBit 2 = true ∧
      Only [(O.MON_VALUE, ch), (O.MON_STATE, ch), (O.MON_EVENTS, ch), (O.FLT_SRC_STATE, 0x400 + ch), (O.FLT_SRC_CLASS, 0x400 + ch)]
        (O.FLT_STATUS :: tampered ++ noted) s.dev t.dev) ∧
  (∀ ch v g h (s : State), s.dev.clockOn = true → s.dev.mode ≠ .reset → s.dev.mode ≠ .boot → ch < 16 → envChannel ch = true →
    s.dev.rd O.MON_STATE ch = 0 → s.dev.monMasked ch g h = false → s.dev.monBeyond ch v g = true →
    s.dev.rd O.MON_HEAT_N ch ≠ 0 → 0 < s.dev.rd O.MON_HEAT_W_MS ch → s.dev.rd O.MON_HEAT_N ch ≤ s.dev.windowCount (0x400 + ch) + 1 →
    2 < s.dev.rd O.FLT_SRC_CAP (0x400 + ch) → Seen (0x400 + ch) s.dev → (s.dev.rd O.FLT_STATUS).testBit 3 = false →
    ∃ t, exec (.monitorEvent ch v g h) s = .next t ∧ t.dev.mode = .safe ∧ (t.dev.rd O.FLT_STATUS).testBit 3 = true ∧
      Keeps (O.MON_VALUE :: O.MON_STATE :: O.MON_EVENTS :: O.FLT_SRC_STATE :: tampered ++ faulting) s.dev t.dev) ∧
  (∀ ch v g h (s : State), s.dev.clockOn = true → ch < 16 → envChannel ch = false → s.dev.rd O.MON_STATE ch = 0 → EventRoom s.dev →
    ∃ t, exec (.monitorEvent ch v g h) s = .next t ∧ t.dev.rd O.MON_STATE ch = 1 ∧
      t.dev.rd O.MON_EVENTS ch = (s.dev.rd O.MON_EVENTS ch + 1) % 2 ^ 64 ∧
      Entered ch (if s.dev.cyc ≤ msCycles 1 then 4 else 0) s.dev t.dev ∧
      (s.dev.rd O.MON_HEAT_N ch ≤ s.dev.heatCount ch + 1 → t.dev.rd O.MON_HOT ch = 1) ∧ t.dev.mode = s.dev.mode ∧
      Only [(O.MON_STATE, ch), (O.MON_EVENTS, ch), (O.MON_HOT, ch)] tampered s.dev t.dev) ∧
  (∀ ch v g h (s : State), (s.dev.rd O.MON_STATE ch = 2 ∨ s.dev.monMasked ch g h = true) →
    ∃ t, exec (.monitorEvent ch v g h) s = .next t ∧ t = s) ∧
  (∀ ch v g h (s : State), s.dev.clockOn = true → ch < 16 → envChannel ch = true → s.dev.rd O.MON_STATE ch = 1 →
    s.dev.monMasked ch g h = false → s.dev.monBeyond ch v g = true →
    ∃ t, exec (.monitorEvent ch v g h) s = .next t ∧ t.dev.mon.beyond.head? = some (ch, g, h, s.dev.cyc) ∧
      t.dev.rd O.MON_VALUE ch = toTwos 32 v ∧ Only [(O.MON_VALUE, ch)] [F.mon] s.dev t.dev) ∧
  (∀ ch v g h c (s : State), s.dev.clockOn = true → s.dev.mode ≠ .reset → ch < 16 → s.dev.rd O.MON_STATE ch = 1 →
    s.dev.mon.beyond.find? (fun e => e.1 == ch) = some (ch, g, h, c) →
    (ch < 10 → s.dev.monBeyond ch v 0 = false) → EventRoom s.dev →
    ∃ t, exec (.monitorRearm ch v) s = .next t ∧
      t.dev.cyc = (if s.dev.monMasked ch g h then s.dev.cyc else max s.dev.cyc (c + msCycles 1)) ∧ t.dev.rd O.MON_STATE ch = 0 ∧ Entered ch 1 s.dev t.dev ∧
      (envChannel ch = true → Seen (0x400 + ch) s.dev → t.dev.rd O.FLT_SRC_STATE (0x400 + ch) = 0) ∧
      Only [(O.MON_STATE, ch), (O.MON_VALUE, ch), (O.FLT_SRC_STATE, 0x400 + ch)] (tampered ++ passing) s.dev t.dev) ∧
  (∀ v (s : State), ∃ t, exec (.thermNAssert v) s = .next t ∧
    (1840 ≤ v → t.dev.pins.thermN = false ∧ (s.dev.pins.thermN = true → t.dev.out = s.dev.out ++ [.pin "THERM_N" (some false)])) ∧
    (v < 1760 → t.dev.pins.thermN = true ∧ (s.dev.pins.thermN = false → t.dev.out = s.dev.out ++ [.pin "THERM_N" (some true)])) ∧
    (1760 ≤ v → v < 1840 → t = s) ∧ Only [] [F.pins, F.out] s.dev t.dev) ∧
  (∀ n id skid c f (s : State), s.dev.pmcDue n = some c → s.dev.frame? id = some f → f.sd = s.dev.pmcSd n →
    s.dev.firstSince f c = true → skid ≤ 64 →
    s.dev.cyc ≤ c + msCycles 1 →
    ∃ t, exec (.pmcSampleCapture n id skid) s = .next t ∧ t.dev.rd O.PMC_SAMPLE_DATA n = leNat (s.dev.sampleBytes n skid f) ∧
      t.dev.pmcDue n = none ∧ n ∈ t.dev.pmc.unread ∧ (n ∈ s.dev.pmc.unread → (t.dev.rd O.PMC_STATUS n).testBit 1 = true) ∧
      Only [(O.PMC_SAMPLE_DATA, n), (O.PMC_STATUS, n)] [F.pmc] s.dev t.dev) ∧
  (∀ n c (s : State), s.dev.clockOn = true → s.dev.pmcDue n = some c → c + msCycles 1 ≤ s.dev.cyc →
    ∃ t, exec (.pmcSampleTimeout n) s = .next t ∧ t.dev.pmcDue n = none ∧ t.dev.rd O.PMC_SAMPLE_DATA n = s.dev.rd O.PMC_SAMPLE_DATA n ∧
      Only [] [F.pmc] s.dev t.dev) ∧
  (∀ n c (s : State), s.dev.clockOn = true → s.dev.pmcDue n = some c →
    ∃ t, exec (.pmcSampleTimeout n) s = .next t ∧ t.dev.cyc = max s.dev.cyc (c + msCycles 1) ∧ t.dev.pmcDue n = none ∧
      Only [] passing s.dev t.dev) ∧
  (∀ n v (s : State), s.dev.clockOn = true → n < 32 * s.dev.slices → n < 128 → s.dev.rdB O.PMC_ENABLE n = true →
    s.dev.rd O.PMC_EVENT n % 256 = 1 → s.dev.pmcChainedOdd n = false → s.dev.rd O.PMC_CHAIN n = 0 → s.dev.rd O.SLICE_STATE (n / 32) ≠ 3 →
    s.dev.rd O.SLICE_STATE (n / 32) ≠ 4 → v = s.dev.rd O.PMC_VALUE n → v < 2 ^ 48 →
    ∃ t, exec (.pmcClockCountWrap n) s = .next t ∧ t.dev.cyc = s.dev.cyc + (2 ^ 48 - v) ∧ t.dev.rd O.PMC_VALUE n = 0 ∧
      (t.dev.rd O.PMC_STATUS n).testBit 0 = true ∧ Only [] passing s.dev t.dev) ∧
  (∀ r m row s, Asked r O.SRAM_SPARE_CMD m s.dev → row < 2048 → (m, row) ∉ s.dev.sram.spared → s.dev.rd O.SRAM_SPARES_LEFT m ≠ 0 →
    Uncounted 0x200 s.dev → EventRoom s.dev →
    ∃ t, exec (.sramSpareCmd r m row) s = .next t ∧ t.dev.rd O.SRAM_SPARES_LEFT m = s.dev.rd O.SRAM_SPARES_LEFT m - 1 ∧
      t.dev.rd O.SRAM_ROWS_SPARED m = s.dev.rd O.SRAM_ROWS_SPARED m + 1 ∧ (m, row) ∈ t.dev.sram.spared ∧
      Result O.SRAM_SPARE_CMD m 0 2 s.dev t.dev ∧ Answers r 0 t.dev ∧
      Only [(O.SRAM_SPARE_CMD, m), (O.SRAM_SPARES_LEFT, m), (O.SRAM_ROWS_SPARED, m)] (F.sram :: noted ++ asked) s.dev t.dev) ∧
  (∀ r m row e s, Asked r O.SRAM_SPARE_CMD m s.dev →
    (2048 ≤ row ∧ e = 0xA101 ∨ row < 2048 ∧ (m, row) ∈ s.dev.sram.spared ∧ e = 0xA106 ∨
      row < 2048 ∧ (m, row) ∉ s.dev.sram.spared ∧ s.dev.rd O.SRAM_SPARES_LEFT m = 0 ∧ e = 0xA206) →
    ∃ t, exec (.sramSpareCmd r m row) s = .next t ∧ Answers r e t.dev ∧ Only [] asked s.dev t.dev) ∧
  (∀ m row (s : State), s.dev.clockOn = true → m < 384 → row < 2048 → (m, row) ∉ s.dev.sram.retired →
    s.dev.rd O.SRAM_SPARES_LEFT m ≠ 0 → Uncounted (s.dev.sramSource m) s.dev → EventRoom s.dev →
    ∃ t, exec (.sramRowSpare m row .corrected) s = .next t ∧ t.dev.rd O.SRAM_SPARES_LEFT m = s.dev.rd O.SRAM_SPARES_LEFT m - 1 ∧
      t.dev.rd O.SRAM_ROWS_SPARED m = s.dev.rd O.SRAM_ROWS_SPARED m + 1 ∧ (m, row) ∈ t.dev.sram.spared ∧
      Only [(O.SRAM_SPARES_LEFT, m), (O.SRAM_ROWS_SPARED, m)] (F.sram :: noted) s.dev t.dev) ∧
  (∀ m row w n (s : State), s.dev.clockOn = true → m < 384 → row < 2048 → (m, row) ∉ s.dev.sram.retired → s.dev.rd O.SRAM_SPARES_LEFT m ≠ 0 →
    ∃ t, exec (.sramRowSpare m row (.uncorrectable w n)) s = .next t ∧ t.dev.rd O.SRAM_SPARES_LEFT m = s.dev.rd O.SRAM_SPARES_LEFT m - 1 ∧
      (m, row) ∈ t.dev.sram.spared ∧
      ((m < 96 ∨ 224 ≤ m) → (m, row, w) ∈ t.dev.sram.unusable) ∧
      Keeps (O.SRAM_SPARES_LEFT :: O.SRAM_ROWS_SPARED :: F.sram :: faulting) s.dev t.dev) ∧
  (∀ m row w n f (s : State), s.dev.clockOn = true → m < 384 → row < 2048 → (m, row) ∉ s.dev.sram.retired →
    s.dev.rd O.SRAM_SPARES_LEFT m ≠ 0 → CalmTwice (s.dev.sramSource m) s.dev → EventRoom s.dev →
    (96 ≤ m ∧ m < 224 ∧ s.dev.cellOwner m row = some f ∨
      (m < 96 ∨ 224 ≤ m ∨ s.dev.cellOwner m row = none) ∧ n = some f.id ∧ s.dev.frame? f.id = some f) →
    ∃ t, exec (.sramRowSpare m row (.uncorrectable w n)) s = .next t ∧
      (f.stage = .parked ∨ f.stage = .waiting → (t.dev.frame? f.id).map Frame.spoiled = some true) ∧
      (f.stage ≠ .parked → f.stage ≠ .waiting → f.sent = 0 → Gone f.id s.dev t.dev) ∧
      (f.stage ≠ .parked → f.stage ≠ .waiting → f.sent ≠ 0 → (t.dev.frame? f.id).map Frame.poison = some true)) ∧
  (∀ m row w slot (s : State), s.dev.clockOn = true → m < 96 → row < 2048 → (m, row) ∉ s.dev.sram.retired →
    s.dev.rd O.SRAM_SPARES_LEFT m ≠ 0 → CalmTwice (s.dev.sramSource m) s.dev → w < 8 → slot = ((m * 2048 + row) * 128 + 16 * w) / 192 →
    s.dev.slotRow slot ≠ 0xFFFFFFFF → s.dev.rd O.SA_STATE (s.dev.slotRow slot) ∈ [2, 3, 4, 5] →
    ∃ t, exec (.sramRowSpare m row (.uncorrectable w none)) s = .next t ∧ t.dev.rd O.SA_STATE (s.dev.slotRow slot) = 7) ∧
  (∀ m row w (s : State), s.dev.clockOn = true → 224 ≤ m → m < 288 → row < 2048 → (m, row) ∉ s.dev.sram.retired →
    s.dev.rd O.SRAM_SPARES_LEFT m ≠ 0 →
    ∃ t, exec (.sramRowSpare m row (.uncorrectable w none)) s = .next t ∧ natAt t.dev.clsx.cache ((m - 224) * 2048 + row) = 0) ∧
  (∀ m row c (s : State), s.dev.clockOn = true → m < 384 → row < 2048 → (m, row) ∉ s.dev.sram.retired → s.dev.rd O.SRAM_SPARES_LEFT m = 0 →
    ∃ t, exec (.sramRowSpare m row c) s = .next t ∧ t.dev.rd O.SRAM_ROWS_RETIRED m = s.dev.rd O.SRAM_ROWS_RETIRED m + 1 ∧
      (m, row) ∈ t.dev.sram.retired ∧
      (m < 96 → ∀ k ∈ Device.rowSlots m row, k ∈ t.dev.sram.slots) ∧
      (m < 96 → Calm (s.dev.sramSource m) 2 s.dev →
        ∀ k ∈ Device.rowSlots m row, s.dev.rd O.SA_STATE (s.dev.slotRow k) ∈ [2, 4, 5] → s.dev.slotRow k ≠ 0xFFFFFFFF →
        t.dev.rd O.SA_STATE (s.dev.slotRow k) = 7) ∧
      (96 ≤ m → m < 224 → t.dev.sram.lostCells = s.dev.sram.lostCells + 1) ∧
      (224 ≤ m → m < 288 → (m - 224) * 2048 + row ∈ t.dev.sram.frames) ∧
      (288 ≤ m → m < 336 → s.dev.sramSlice m < s.dev.slices → s.dev.rd O.SLICE_STATE (s.dev.sramSlice m) ∈ [1, 2, 4] →
        t.dev.rd O.SLICE_STATE (s.dev.sramSlice m) = 5 ∧ t.dev.rd O.SLICE_CAUSE (s.dev.sramSlice m) = 2) ∧
      (336 ≤ m → m < 352 → t.dev.mem.lostLines = s.dev.mem.lostLines + 2) ∧
      (352 ≤ m → Seen 0x200 s.dev → (t.dev.rd O.FLT_STATUS).testBit 3 = true) ∧
      Keeps (O.SRAM_ROWS_RETIRED :: O.MEM_CTR_READONLY :: O.SLICE_STATE :: O.SLICE_CAUSE :: O.SLICE_DISCARDED :: F.sram :: F.memRest :: faulting) s.dev t.dev)
end

