-- ==== Sys2Proof/Laws/Sparse.lean ====
section
/-!
SUPPORT. What a table in canonical form reads as after a write, and that writes, erasures and cuts keep the form.
-/
set_option Elab.async false
namespace Sys2Proof.Machine.Sparse

variable {α : Type}

@[simp] theorem get_nil (dflt : Nat → α) (k : Nat) : get dflt [] k = dflt k := rfl

theorem get_cons (dflt : Nat → α) (e : Nat × α) (r : List (Nat × α)) (k : Nat) :
    get dflt (e :: r) k = if e.1 = k then e.2 else get dflt r k := rfl

/-- An erased key reads as unlisted. -/
@[simp] theorem get_erase_self (dflt : Nat → α) (l : List (Nat × α)) (k : Nat) :
    get dflt (erase k l) k = dflt k := by
  induction l with
  | nil => rfl
  | cons e r ih => by_cases h : e.1 = k <;> simp [erase, get_cons, h, ih]

/-- Erasing a key leaves the others. -/
theorem get_erase_ne (dflt : Nat → α) (l : List (Nat × α)) {k j : Nat} (h : j ≠ k) :
    get dflt (erase k l) j = get dflt l j := by
  induction l with
  | nil => rfl
  | cons e r ih =>
    by_cases h1 : e.1 = k
    · have h2 : e.1 ≠ j := fun h2 => h (h2 ▸ h1)
      simp [erase, get_cons, h1, ih, Ne.symm h]
    · simp [erase, get_cons, h1, ih]

/-- A key that no entry lists reads the value put in. -/
theorem get_ins_erase_self (dflt : Nat → α) (l : List (Nat × α)) (k : Nat) (v : α) :
    get dflt (ins k v (erase k l)) k = v := by
  induction l with
  | nil => simp [erase, ins, get_cons]
  | cons e r ih =>
    by_cases h : e.1 = k
    · simp [erase, h, ih]
    · by_cases h2 : k < e.1 <;> simp [erase, ins, get_cons, h, h2, ih]

theorem get_ins_ne (dflt : Nat → α) (l : List (Nat × α)) {k j : Nat} (h : j ≠ k) (v : α) :
    get dflt (ins k v l) j = get dflt l j := by
  induction l with
  | nil => simp [ins, get_cons, Ne.symm h]
  | cons e r ih => by_cases h2 : k < e.1 <;> simp [ins, get_cons, h2, ih, Ne.symm h]

/-- A key that was written reads the value written. -/
@[simp] theorem get_put_self [DecidableEq α] (dflt : Nat → α) (l : List (Nat × α)) (k : Nat) (v : α) :
    get dflt (put dflt l k v) k = v := by
  by_cases h : v = dflt k
  · simp [put, h]
  · simp [put, h, get_ins_erase_self]

/-- A write leaves every other key. -/
theorem get_put_ne [DecidableEq α] (dflt : Nat → α) (l : List (Nat × α)) {k j : Nat} (h : j ≠ k) (v : α) :
    get dflt (put dflt l k v) j = get dflt l j := by
  by_cases h2 : v = dflt k
  · simp [put, h2, get_erase_ne dflt l h]
  · simp [put, h2, get_ins_ne dflt _ h, get_erase_ne dflt l h]

/-! ### The canonical form is kept -/

/-- Keys strictly rising. -/
abbrev Rising (l : List (Nat × α)) : Prop := l.Pairwise (fun a b => a.1 < b.1)

theorem risingAbove_some (lo : Nat) (l : List (Nat × α)) :
    risingAbove (some lo) l = true ↔ Rising l ∧ ∀ e ∈ l, lo < e.1 := by
  induction l generalizing lo with
  | nil => simp [risingAbove]
  | cons e r ih =>
    simp only [risingAbove, Bool.and_eq_true, decide_eq_true_eq, ih, Rising, List.pairwise_cons, List.mem_cons,
      forall_eq_or_imp]
    constructor
    · rintro ⟨h1, h2, h3⟩
      exact ⟨⟨h3, h2⟩, h1, fun a ha => lt_trans h1 (h3 a ha)⟩
    · rintro ⟨⟨h3, h2⟩, h1, -⟩
      exact ⟨h1, h2, h3⟩

theorem risingAbove_none (l : List (Nat × α)) : risingAbove none l = true ↔ Rising l := by
  cases l with
  | nil => simp [risingAbove]
  | cons e r => simp [risingAbove, risingAbove_some, Rising, and_comm]

theorem wf_iff [DecidableEq α] (dflt : Nat → α) (l : List (Nat × α)) :
    wf dflt l = true ↔ Rising l ∧ ∀ e ∈ l, e.2 ≠ dflt e.1 := by
  simp [wf, risingAbove_none, List.all_eq_true]

theorem mem_erase {k : Nat} {l : List (Nat × α)} {e : Nat × α} (h : e ∈ erase k l) : e ∈ l ∧ e.1 ≠ k := by
  induction l with
  | nil => simp [erase] at h
  | cons a r ih =>
    by_cases h1 : a.1 = k
    · simp only [erase, h1, if_true] at h
      exact ⟨List.mem_cons_of_mem _ (ih h).1, (ih h).2⟩
    · simp only [erase, h1, if_false, List.mem_cons] at h
      rcases h with h | h
      · exact ⟨h ▸ List.mem_cons_self, h ▸ h1⟩
      · exact ⟨List.mem_cons_of_mem _ (ih h).1, (ih h).2⟩

theorem mem_ins {k : Nat} {v : α} {l : List (Nat × α)} {e : Nat × α} (h : e ∈ ins k v l) : e = (k, v) ∨ e ∈ l := by
  induction l with
  | nil => simp only [ins, List.mem_singleton] at h; exact Or.inl h
  | cons a r ih =>
    by_cases h1 : k < a.1
    · simpa [ins, h1] using h
    · simp only [ins, h1, if_false, List.mem_cons] at h
      rcases h with h | h
      · exact Or.inr (h ▸ List.mem_cons_self)
      · exact (ih h).imp id (List.mem_cons_of_mem _)

theorem rising_erase {k : Nat} {l : List (Nat × α)} (h : Rising l) : Rising (erase k l) := by
  induction l with
  | nil => simp_all [erase]
  | cons a r ih =>
    have h' := List.pairwise_cons.1 h
    by_cases h1 : a.1 = k
    · simpa [erase, h1] using ih h'.2
    · simp only [erase, h1, if_false]
      exact List.pairwise_cons.2 ⟨fun b hb => h'.1 b (mem_erase hb).1, ih h'.2⟩

theorem rising_ins {k : Nat} {v : α} {l : List (Nat × α)} (h : Rising l) (hk : ∀ e ∈ l, e.1 ≠ k) :
    Rising (ins k v l) := by
  induction l with
  | nil => simp [ins, Rising]
  | cons a r ih =>
    have h' := List.pairwise_cons.1 h
    by_cases h1 : k < a.1
    · simp only [ins, h1, if_true]
      refine List.pairwise_cons.2 ⟨fun b hb => ?_, h⟩
      rcases List.mem_cons.1 hb with hb | hb
      · exact hb ▸ h1
      · exact lt_trans h1 (h'.1 b hb)
    · simp only [ins, h1, if_false]
      refine List.pairwise_cons.2 ⟨fun b hb => ?_, ih h'.2 (fun e he => hk e (List.mem_cons_of_mem _ he))⟩
      rcases mem_ins hb with hb | hb
      · have h2 := hk a List.mem_cons_self
        subst hb; dsimp only; omega
      · exact h'.1 b hb

/-- A write keeps the canonical form. -/
theorem wf_put [DecidableEq α] {dflt : Nat → α} {l : List (Nat × α)} (h : wf dflt l = true) (k : Nat) (v : α) :
    wf dflt (put dflt l k v) = true := by
  rw [wf_iff] at h ⊢
  by_cases h2 : v = dflt k
  · simp only [put, h2, if_true]
    exact ⟨rising_erase h.1, fun e he => h.2 e (mem_erase he).1⟩
  · simp only [put, h2, if_false]
    refine ⟨rising_ins (rising_erase h.1) (fun e he => (mem_erase he).2), fun e he => ?_⟩
    rcases mem_ins he with he | he
    · subst he; exact h2
    · exact h.2 e (mem_erase he).1

/-- Cutting entries out keeps the canonical form. -/
theorem wf_filter [DecidableEq α] {dflt : Nat → α} {l : List (Nat × α)} (h : wf dflt l = true) (p : Nat × α → Bool) :
    wf dflt (l.filter p) = true := by
  rw [wf_iff] at h ⊢
  exact ⟨h.1.filter _, fun e he => h.2 e (List.mem_filter.1 he).1⟩

/-- A table whose keys do not repeat reads each of its entries. -/
theorem get_mem {dflt : Nat → α} {l : List (Nat × α)} (h : Rising l) {e : Nat × α} (he : e ∈ l) : get dflt l e.1 = e.2 := by
  induction l with
  | nil => simp at he
  | cons a r ih =>
    have h' := List.pairwise_cons.1 h
    rcases List.mem_cons.1 he with he | he
    · subst he; simp [get_cons]
    · have h1 := h'.1 e he
      rw [get_cons, if_neg (by omega), ih h'.2 he]

end Sys2Proof.Machine.Sparse
end

