-- ==== Sys2Proof/Laws/Keeps.lean ====
section
/-!
SUPPORT. The calculus of `Keeps`: one combinator per construct the operations are written with, and the objects' own read
and write laws. Each operation of Machine/ has one lemma in Laws/Keeps<File>.lean that says which places it may change.
-/
set_option Elab.async false
namespace Sys2Proof.Machine

theorem keyOf_ne {o o' r r' : Nat} (h : o ≠ o') : keyOf o r ≠ keyOf o' r' := by unfold keyOf; omega

theorem keyOf_row {o r r' : Nat} (h : r % 2 ^ 24 ≠ r' % 2 ^ 24) : keyOf o r ≠ keyOf o r' := by unfold keyOf; omega

namespace Device

theorem rd_wr_self (d : Device) (o r v : Nat) : (d.wr o r v).rd o r = v := Sparse.get_put_self _ _ _ _

theorem rd_wr_obj (d : Device) {o o' : Nat} (r r' v : Nat) (h : o ≠ o') : (d.wr o r v).rd o' r' = d.rd o' r' :=
  Sparse.get_put_ne _ _ (keyOf_ne (Ne.symm h)) _

theorem rd_wr_row (d : Device) (o : Nat) {r r' : Nat} (v : Nat) (h : r % 2 ^ 24 ≠ r' % 2 ^ 24) :
    (d.wr o r v).rd o r' = d.rd o r' :=
  Sparse.get_put_ne _ _ (keyOf_row (Ne.symm h)) _

/-- Every read after a write. -/
theorem rd_wr (d : Device) (o r v o' r' : Nat) :
    (d.wr o r v).rd o' r' = if o = o' ∧ r % 2 ^ 24 = r' % 2 ^ 24 then v else d.rd o' r' := by
  split
  · rename_i h
    obtain ⟨rfl, h⟩ := h
    have : keyOf o r = keyOf o r' := by unfold keyOf; omega
    unfold rd wr
    rw [this]
    exact Sparse.get_put_self _ _ _ _
  · rename_i h
    by_cases ho : o = o'
    · subst ho
      exact rd_wr_row d o v (fun x => h ⟨rfl, x⟩)
    · exact rd_wr_obj d r r' v ho

end Device

/-! ### Lists of places -/

/-- Every place of `x` is one of `y`. -/
def Sub (x y : List Nat) : Prop := ∀ k ∈ x, k ∈ y

/-- Every place of `x` is met in one pass over `y`, both in rising order. -/
def subS : List Nat → List Nat → Bool
  | [], _ => true
  | _ :: _, [] => false
  | a :: x, b :: y => cond (Nat.beq a b) (subS x y) (subS (a :: x) y)

theorem subS_sound {x y : List Nat} (h : subS x y = true) : Sub x y := by
  induction y generalizing x with
  | nil => cases x with
    | nil => intro k hk; cases hk
    | cons a x => simp [subS] at h
  | cons b y ih =>
    cases x with
    | nil => intro k hk; cases hk
    | cons a x =>
      unfold subS at h
      cases hb : Nat.beq a b with
      | true =>
        rw [hb] at h
        have := Nat.eq_of_beq_eq_true hb
        intro k hk
        rcases List.mem_cons.1 hk with e | hk
        · simp [e, this]
        · exact List.mem_cons_of_mem _ (ih h k hk)
      | false =>
        rw [hb] at h
        intro k hk
        exact List.mem_cons_of_mem _ (ih h k hk)

/-- A write of object `k` is one that `y` allows: it names the object, or any. -/
def Here (k : Nat) (y : List Nat) : Prop := k ∈ y ∨ F.objects ∈ y

theorem memT {x y : List Nat} {k : Nat} (hk : x.contains k = true) (h : Sub x y) : Here k y := Or.inl (h k (by simpa using hk))

theorem memF {x y : List Nat} {k : Nat} (hk : x.contains k = true) (h : Sub x y) : k ∈ y := h k (by simpa using hk)

theorem memAny {x y : List Nat} {k : Nat} (hk : x.contains F.objects = true) (h : Sub x y) : Here k y :=
  Or.inr (h _ (by simpa using hk))

theorem memR {x y : List Nat} {o n i : Nat} (hx : (List.range n).all (fun j => x.contains (o + j)) = true) (hi : i < n)
    (h : Sub x y) : Here (o + i) y := by
  rw [List.all_eq_true] at hx
  exact Or.inl (h _ (by simpa using hx i (by simpa using hi)))

theorem subT {x y z : List Nat} (h : subS x y = true) (k : Sub y z) : Sub x z := fun i hi => k i (subS_sound h i hi)

namespace Keeps

theorem refl (W : List Nat) (a : Device) : Keeps W a a :=
  ⟨rfl, fun _ _ _ _ => rfl, fun k _ => by unfold sameField; split <;> trivial⟩

theorem sameField_trans {k : Nat} {a b c : Device} (h : sameField k a b) (g : sameField k b c) : sameField k a c := by
  unfold sameField at *
  split <;> first | exact Eq.trans g h | trivial

theorem trans {W : List Nat} {a b c : Device} (h : Keeps W a b) (g : Keeps W b c) : Keeps W a c :=
  ⟨g.part.trans h.part, fun y o r x => (g.objs y o r x).trans (h.objs y o r x),
   fun k x => sameField_trans (h.fields k x) (g.fields k x)⟩

theorem mono {V W : List Nat} {a b : Device} (hs : Sub V W) (h : Keeps V a b) : Keeps W a b :=
  ⟨h.part, fun z o r x => h.objs (fun y => z (hs _ y)) o r (fun y => x (hs _ y)), fun k x => h.fields k (fun y => x (hs _ y))⟩

/-- One step that changes no object. -/
theorem same {W : List Nat} {a d e : Device} (h : Keeps W a d) (hp : e.part = d.part) (hd : e.dict = d.dict)
    (hf : ∀ k, 0x1000000 + k ∉ W → sameField k d e) : Keeps W a e :=
  h.trans ⟨hp, fun _ o r _ => by unfold Device.rd; rw [hd], hf⟩

theorem wr {W : List Nat} {a d : Device} {o r v : Nat} (ho : Here o W) (h : Keeps W a d) : Keeps W a (d.wr o r v) :=
  h.trans ⟨rfl, fun y o' r' x => Device.rd_wr_obj d r r' v (fun e => ho.elim (fun z => x (e ▸ z)) y),
    fun k _ => by unfold sameField; split <;> first | rfl | trivial⟩

theorem ite {W : List Nat} {a d e : Device} {c : Prop} [Decidable c] (h : Keeps W a d) (k : Keeps W a e) :
    Keeps W a (if c then d else e) := by split <;> assumption

theorem elim {W : List Nat} {a d : Device} {β : Type} {o : Option β} {f : β → Device} (h : Keeps W a d)
    (k : ∀ x, Keeps W a (f x)) : Keeps W a (o.elim d f) := by cases o <;> simp [h, k]

theorem foldl {W : List Nat} {a d : Device} {β : Type} {l : List β} {f : Device → β → Device} (h : Keeps W a d)
    (k : ∀ x y, Keeps W a x → Keeps W a (f x y)) : Keeps W a (l.foldl f d) := by
  induction l generalizing d with
  | nil => exact h
  | cons x r ih => exact ih (k d x h)

theorem foldl_mem {W : List Nat} {a d : Device} {β : Type} {l : List β} {f : Device → β → Device} (h : Keeps W a d)
    (k : ∀ x, ∀ y ∈ l, Keeps W a x → Keeps W a (f x y)) : Keeps W a (l.foldl f d) := by
  induction l generalizing d with
  | nil => exact h
  | cons x r ih => exact ih (k d x (by simp) h) (fun x y hy => k x y (by simp [hy]))

theorem foldr {W : List Nat} {a d : Device} {β : Type} {l : List β} {f : β → Device → Device} (h : Keeps W a d)
    (k : ∀ x y, Keeps W a x → Keeps W a (f y x)) : Keeps W a (l.foldr f d) := by
  induction l with
  | nil => exact h
  | cons x r ih => exact k _ x ih

theorem ite2 {W : List Nat} {a : Device} {β : Type} {x y : β × Device} {c : Prop} [Decidable c] (h : Keeps W a x.2)
    (k : Keeps W a y.2) : Keeps W a (if c then x else y).2 := by split <;> assumption

theorem elim2 {W : List Nat} {a : Device} {β γ : Type} {o : Option β} {d : γ × Device} {f : β → γ × Device}
    (h : Keeps W a d.2) (k : ∀ x, Keeps W a (f x).2) : Keeps W a (o.elim d f).2 := by cases o <;> simp [h, k]

theorem foldl2 {W : List Nat} {a : Device} {β γ : Type} {d : γ × Device} {l : List β} {f : γ × Device → β → γ × Device}
    (h : Keeps W a d.2) (k : ∀ x y, Keeps W a x.2 → Keeps W a (f x y).2) : Keeps W a (l.foldl f d).2 := by
  induction l generalizing d with
  | nil => exact h
  | cons x r ih => exact ih (k d x h)

end Keeps
end Sys2Proof.Machine
end

