-- ==== Sys2Proof/Laws/KeepsOps.lean ====
section
/-!
SUPPORT. The places that each operation of Machine/Ops.lean may change (Laws/Keeps.lean).
-/
set_option Elab.async false
set_option linter.all false
set_option linter.unusedTactic false
set_option linter.unreachableTactic false
set_option linter.style.longLine false
namespace Sys2Proof.Machine

theorem Device.wr_keeps {W : List Nat} {a : Device} {d : Device} {o : Nat} {r : Nat} {v : Nat} (ho : Here o W) (h : Keeps W a d) :
    Keeps W a (Device.wr d o r v) := Keeps.wr ho h

theorem Device.add64_keeps {W : List Nat} {a : Device} {d : Device} {o : Nat} {r : Nat} {n : Nat} (ho : Here o W) (h : Keeps W a d) :
    Keeps W a (Device.add64 d o r n) := by
  unfold Device.add64
  try dsimp only
  repeat' first
    | with_reducible exact h | with_reducible exact ho | with_reducible refine Device.wr_keeps ?_ ?_

theorem Device.sub64_keeps {W : List Nat} {a : Device} {d : Device} {o : Nat} {r : Nat} {n : Nat} (ho : Here o W) (h : Keeps W a d) :
    Keeps W a (Device.sub64 d o r n) := by
  unfold Device.sub64
  try dsimp only
  repeat' first
    | with_reducible exact h | with_reducible exact ho | with_reducible refine Device.wr_keeps ?_ ?_

theorem Device.inc64_keeps {W : List Nat} {a : Device} {d : Device} {o : Nat} {r : Nat} (ho : Here o W) (h : Keeps W a d) :
    Keeps W a (Device.inc64 d o r) := by
  unfold Device.inc64
  try dsimp only
  repeat' first
    | with_reducible exact h | with_reducible exact ho | with_reducible refine Device.add64_keeps ?_ ?_

theorem Device.inc32_keeps {W : List Nat} {a : Device} {d : Device} {o : Nat} {r : Nat} (ho : Here o W) (h : Keeps W a d) :
    Keeps W a (Device.inc32 d o r) := by
  unfold Device.inc32
  try dsimp only
  repeat' first
    | with_reducible exact h | with_reducible exact ho | with_reducible refine Device.wr_keeps ?_ ?_

theorem Device.clr_keeps {W : List Nat} {a : Device} {d : Device} {o : Nat} {r : Nat} (ho : Here o W) (h : Keeps W a d) :
    Keeps W a (Device.clr d o r) := by
  unfold Device.clr
  try dsimp only
  repeat' first
    | with_reducible exact h | with_reducible exact ho | with_reducible refine Device.wr_keeps ?_ ?_

theorem Device.wrBit_keeps {W : List Nat} {a : Device} {d : Device} {o : Nat} {r : Nat} {i : Nat} {b : Bool} (ho : Here o W) (h : Keeps W a d) :
    Keeps W a (Device.wrBit d o r i b) := by
  unfold Device.wrBit
  try dsimp only
  repeat' first
    | with_reducible exact h | with_reducible exact ho | with_reducible refine Device.wr_keeps ?_ ?_

def Touch.draw : List Nat :=
  [F.draws]

theorem Device.draw_keeps {W : List Nat} {a : Device} {d : Device} (hW : Sub Touch.draw W) (h : Keeps W a d) :
    Keeps W a (Device.draw d).2 := by
  unfold Device.draw
  try dsimp only
  repeat' first
    | with_reducible exact h
    | exact h.same rfl rfl (fun k hk => by unfold sameField; split <;> first | rfl | exact absurd (memF (by decide +kernel) hW) hk | trivial)

def Touch.unstated : List Nat :=
  [F.draws]

theorem Device.unstated_keeps {W : List Nat} {a : Device} {d : Device} (hW : Sub Touch.unstated W) (h : Keeps W a d) :
    Keeps W a (Device.unstated d).2 := by
  unfold Device.unstated
  try dsimp only
  repeat' first
    | with_reducible exact h
    | exact h.same rfl rfl (fun k hk => by unfold sameField; split <;> first | rfl | exact absurd (memF (by decide +kernel) hW) hk | trivial)

def Touch.emit : List Nat :=
  [F.out]

theorem Device.emit_keeps {W : List Nat} {a : Device} {d : Device} {o : Out} (hW : Sub Touch.emit W) (h : Keeps W a d) :
    Keeps W a (Device.emit d o) := 
  h.same rfl rfl (fun k hk => by
    unfold sameField
    split <;> first | rfl | exact absurd (memF (by decide +kernel) hW) hk | trivial)

def Touch.setSess : List Nat :=
  [F.sess]

theorem Device.setSess_keeps {W : List Nat} {a : Device} {d : Device} {row : Nat} {x : SessX} (hW : Sub Touch.setSess W) (h : Keeps W a d) :
    Keeps W a (Device.setSess d row x) := 
  h.same rfl rfl (fun k hk => by
    unfold sameField
    split <;> first | rfl | exact absurd (memF (by decide +kernel) hW) hk | trivial)

def Touch.setLockRenewed : List Nat :=
  [F.lockRenewed]

theorem Device.setLockRenewed_keeps {W : List Nat} {a : Device} {d : Device} {n : Nat} (hW : Sub Touch.setLockRenewed W) (h : Keeps W a d) :
    Keeps W a (Device.setLockRenewed d n) := 
  h.same rfl rfl (fun k hk => by
    unfold sameField
    split <;> first | rfl | exact absurd (memF (by decide +kernel) hW) hk | trivial)

def Touch.setGroup : List Nat :=
  [F.groups]

theorem Device.setGroup_keeps {W : List Nat} {a : Device} {d : Device} {g : Nat} {x : GroupX} (hW : Sub Touch.setGroup W) (h : Keeps W a d) :
    Keeps W a (Device.setGroup d g x) := 
  h.same rfl rfl (fun k hk => by
    unfold sameField
    split <;> first | rfl | exact absurd (memF (by decide +kernel) hW) hk | trivial)

def Touch.setWin : List Nat :=
  [F.pcieWindows]

theorem Device.setWin_keeps {W : List Nat} {a : Device} {d : Device} {w : Nat} {x : WinReg} (hW : Sub Touch.setWin W) (h : Keeps W a d) :
    Keeps W a (Device.setWin d w x) := 
  h.same rfl rfl (fun k hk => by
    unfold sameField
    split <;> first | rfl | exact absurd (memF (by decide +kernel) hW) hk | trivial)

def Touch.setDma : List Nat :=
  [F.pcieDma]

theorem Device.setDma_keeps {W : List Nat} {a : Device} {d : Device} {n : Nat} {x : DmaX} (hW : Sub Touch.setDma W) (h : Keeps W a d) :
    Keeps W a (Device.setDma d n x) := 
  h.same rfl rfl (fun k hk => by
    unfold sameField
    split <;> first | rfl | exact absurd (memF (by decide +kernel) hW) hk | trivial)

def Touch.msixSend : List Nat :=
  [F.out, F.pciePending]

theorem Device.msixSend_keeps {W : List Nat} {a : Device} {d : Device} {e : Nat} (hW : Sub Touch.msixSend W) (h : Keeps W a d) :
    Keeps W a (Device.msixSend d e) := by
  unfold Device.msixSend
  try dsimp only
  repeat' first
    | with_reducible exact h | with_reducible refine Device.emit_keeps (subT (by decide +kernel) hW) ?_
    | with_reducible refine Device.msix_keeps (subT (by decide +kernel) hW) ?_

def Touch.msixPend : List Nat :=
  [F.pciePending]

theorem Device.msixPend_keeps {W : List Nat} {a : Device} {d : Device} {e : Nat} (hW : Sub Touch.msixPend W) (h : Keeps W a d) :
    Keeps W a (Device.msixPend d e) := 
  h.same rfl rfl (fun k hk => by
    unfold sameField
    split <;> first | rfl | exact absurd (memF (by decide +kernel) hW) hk | trivial)

def Touch.msix : List Nat :=
  [F.out, F.pciePending]

theorem Device.msix_keeps {W : List Nat} {a : Device} {d : Device} {e : Nat} (hW : Sub Touch.msix W) (h : Keeps W a d) :
    Keeps W a (Device.msix d e) := by
  unfold Device.msix
  try dsimp only
  repeat' first
    | with_reducible exact h | with_reducible apply Keeps.ite
    | with_reducible refine Device.msixSend_keeps (subT (by decide +kernel) hW) ?_
    | with_reducible refine Device.msixPend_keeps (subT (by decide +kernel) hW) ?_ | split

end Sys2Proof.Machine
end

