-- ==== Sys2Proof/Laws/KeepsPmc.lean ====
section
/-!
SUPPORT. The places that each operation of Machine/Pmc.lean may change (Laws/Keeps.lean).
-/
set_option Elab.async false
set_option linter.all false
set_option linter.unusedTactic false
set_option linter.unreachableTactic false
set_option linter.style.longLine false
namespace Sys2Proof.Machine

def Touch.setPmc : List Nat :=
  [F.pmc]

theorem Device.setPmc_keeps {W : List Nat} {a : Device} {d : Device} {x : PmcX} (hW : Sub Touch.setPmc W) (h : Keeps W a d) :
    Keeps W a (Device.setPmc d x) := 
  h.same rfl rfl (fun k hk => by
    unfold sameField
    split <;> first | rfl | exact absurd (memF (by decide +kernel) hW) hk | trivial)

def Touch.pmcOverflow : List Nat :=
  [O.PMC_STATUS, F.out, F.pciePending, F.pmc]

theorem Device.pmcOverflow_keeps {W : List Nat} {a : Device} {d : Device} {n : Nat} (hW : Sub Touch.pmcOverflow W) (h : Keeps W a d) :
    Keeps W a (Device.pmcOverflow d n) := by
  unfold Device.pmcOverflow
  try dsimp only
  repeat' first
    | with_reducible exact h | with_reducible assumption | exact memT (by decide +kernel) hW
    | with_reducible apply Keeps.ite | with_reducible refine Device.wrBit_keeps ?_ ?_
    | with_reducible refine Device.setPmc_keeps (subT (by decide +kernel) hW) ?_
    | with_reducible refine Device.msix_keeps (subT (by decide +kernel) hW) ?_ | intro _ _ hq | intro _ | split

def Touch.pmcBump : List Nat :=
  [O.PMC_VALUE]

theorem Device.pmcBump_keeps {W : List Nat} {a : Device} {d : Device} {n : Nat} {k : Nat} (hW : Sub Touch.pmcBump W) (h : Keeps W a d) :
    Keeps W a (Device.pmcBump d n k).2 := by
  unfold Device.pmcBump
  try dsimp only
  repeat' first
    | with_reducible exact h | exact memT (by decide +kernel) hW | with_reducible refine Device.wr_keeps ?_ ?_

def Touch.pmcAdd : List Nat :=
  [O.PMC_VALUE, O.PMC_STATUS, F.out, F.pciePending, F.pmc]

theorem Device.pmcAdd_keeps {W : List Nat} {a : Device} {d : Device} {n : Nat} {k : Nat} (hW : Sub Touch.pmcAdd W) (h : Keeps W a d) :
    Keeps W a (Device.pmcAdd d n k) := by
  unfold Device.pmcAdd
  try dsimp only
  repeat' first
    | with_reducible exact h | with_reducible apply Keeps.ite
    | with_reducible refine Device.pmcBump_keeps (subT (by decide +kernel) hW) ?_
    | with_reducible refine Device.pmcOverflow_keeps (subT (by decide +kernel) hW) ?_
    | with_reducible apply Keeps.ite2 | split

def Touch.pmcHub : List Nat :=
  Touch.pmcAdd

theorem Device.pmcHub_keeps {W : List Nat} {a : Device} {d : Device} {code : Nat} {k : Nat} {pass : Device → Nat → Bool} (hW : Sub Touch.pmcHub W) (h : Keeps W a d) :
    Keeps W a (Device.pmcHub d code k pass) := by
  unfold Device.pmcHub
  try dsimp only
  repeat' first
    | with_reducible exact h | with_reducible assumption | with_reducible apply Keeps.ite
    | with_reducible apply Keeps.foldl | with_reducible refine Device.pmcAdd_keeps (subT (by decide +kernel) hW) ?_
    | intro _ _ hq | intro _ | split | dsimp only

def Touch.pmcSlice : List Nat :=
  Touch.pmcAdd

theorem Device.pmcSlice_keeps {W : List Nat} {a : Device} {d : Device} {sd : Nat} {code : Nat} {k : Nat} {pass : Device → Nat → Bool} (hW : Sub Touch.pmcSlice W) (h : Keeps W a d) :
    Keeps W a (Device.pmcSlice d sd code k pass) := by
  unfold Device.pmcSlice
  try dsimp only
  repeat' first
    | with_reducible exact h | with_reducible assumption | with_reducible apply Keeps.ite
    | with_reducible apply Keeps.foldl | with_reducible refine Device.pmcAdd_keeps (subT (by decide +kernel) hW) ?_
    | intro _ _ hq | intro _ | split | dsimp only

def Touch.pmcRestart : List Nat :=
  [O.PMC_VALUE]

theorem Device.pmcRestart_keeps {W : List Nat} {a : Device} {d : Device} {s : Nat} (hW : Sub Touch.pmcRestart W) (h : Keeps W a d) :
    Keeps W a (Device.pmcRestart d s) := by
  unfold Device.pmcRestart
  try dsimp only
  repeat' first
    | with_reducible exact h | with_reducible assumption | exact memT (by decide +kernel) hW
    | with_reducible apply Keeps.foldl | with_reducible refine Device.wr_keeps ?_ ?_ | intro _ _ hq | intro _
    | dsimp only

def Touch.pmcForget : List Nat :=
  [F.pmc]

theorem Device.pmcForget_keeps {W : List Nat} {a : Device} {d : Device} {s : Nat} (hW : Sub Touch.pmcForget W) (h : Keeps W a d) :
    Keeps W a (Device.pmcForget d s) := by
  unfold Device.pmcForget
  try dsimp only
  repeat' first
    | with_reducible exact h | with_reducible assumption
    | with_reducible refine Device.setPmc_keeps (subT (by decide +kernel) hW) ?_ | intro _ _ hq | intro _

def Touch.pmcDma : List Nat :=
  Touch.pmcAdd

theorem Device.pmcDma_keeps {W : List Nat} {a : Device} {d : Device} {n : Nat} (hW : Sub Touch.pmcDma W) (h : Keeps W a d) :
    Keeps W a (Device.pmcDma d n) := by
  unfold Device.pmcDma
  try dsimp only
  repeat' first
    | with_reducible exact h | with_reducible assumption | with_reducible apply Keeps.elim
    | with_reducible refine Device.pmcHub_keeps (subT (by decide +kernel) hW) ?_ | intro _ _ hq | intro _

end Sys2Proof.Machine
end

