-- ==== Sys2Proof/Laws/KeepsMessages.lean ====
section
/-!
SUPPORT. The places that each operation of Machine/Messages.lean may change (Laws/Keeps.lean).
-/
set_option Elab.async false
set_option linter.all false
set_option linter.unusedTactic false
set_option linter.unreachableTactic false
set_option linter.style.longLine false
namespace Sys2Proof.Machine

def Touch.dmaSignal : List Nat :=
  [F.out, F.pcieDma, F.pciePending]

theorem Device.dmaSignal_keeps {W : List Nat} {a : Device} {d : Device} {n : Nat} (hW : Sub Touch.dmaSignal W) (h : Keeps W a d) :
    Keeps W a (Device.dmaSignal d n) := by
  unfold Device.dmaSignal
  try dsimp only
  repeat' first
    | with_reducible exact h | with_reducible refine Device.setDma_keeps (subT (by decide +kernel) hW) ?_
    | with_reducible refine Device.msix_keeps (subT (by decide +kernel) hW) ?_

def Touch.dmaWriteBack : List Nat :=
  [O.RING_COMPLETED, O.RING_REJECTED, O.PMC_VALUE, O.PMC_STATUS, F.out, F.pcieDma, F.pciePending, F.pmc]

theorem Device.dmaWriteBack_keeps {W : List Nat} {a : Device} {d : Device} {n : Nat} {c : Completion} (hW : Sub Touch.dmaWriteBack W) (h : Keeps W a d) :
    Keeps W a (Device.dmaWriteBack d n c) := by
  unfold Device.dmaWriteBack
  try dsimp only
  repeat' first
    | with_reducible exact h | exact memT (by decide +kernel) hW | with_reducible apply Keeps.ite
    | with_reducible refine Device.emit_keeps (subT (by decide +kernel) hW) ?_
    | with_reducible refine Device.inc64_keeps ?_ ?_
    | with_reducible refine Device.pmcDma_keeps (subT (by decide +kernel) hW) ?_
    | with_reducible refine Device.setDma_keeps (subT (by decide +kernel) hW) ?_
    | with_reducible refine Device.dmaSignal_keeps (subT (by decide +kernel) hW) ?_ | split

def Touch.setServed : List Nat :=
  [F.pcieServed]

theorem Device.setServed_keeps {W : List Nat} {a : Device} {d : Device} {n : Nat} (hW : Sub Touch.setServed W) (h : Keeps W a d) :
    Keeps W a (Device.setServed d n) := 
  h.same rfl rfl (fun k hk => by
    unfold sameField
    split <;> first | rfl | exact absurd (memF (by decide +kernel) hW) hk | trivial)

def Touch.dmaAdvance : List Nat :=
  [O.RING_HEAD, F.pcieServed]

theorem Device.dmaAdvance_keeps {W : List Nat} {a : Device} {d : Device} {n : Nat} (hW : Sub Touch.dmaAdvance W) (h : Keeps W a d) :
    Keeps W a (Device.dmaAdvance d n) := by
  unfold Device.dmaAdvance
  try dsimp only
  repeat' first
    | with_reducible exact h | exact memT (by decide +kernel) hW
    | with_reducible refine Device.setServed_keeps (subT (by decide +kernel) hW) ?_
    | with_reducible refine Device.wr_keeps ?_ ?_

def Touch.dmaFlush : List Nat :=
  Touch.dmaWriteBack

theorem Device.dmaFlush_keeps {W : List Nat} {a : Device} {x0 : Nat} {x1 : Nat} {d : Device} (hW : Sub Touch.dmaFlush W) (h : Keeps W a d) :
    Keeps W a (Device.dmaFlush x0 x1 d) := by
  induction x0 generalizing x1 d with
  | zero =>
    unfold Device.dmaFlush
    try dsimp only
    repeat' first
      | with_reducible exact h | with_reducible assumption
      | with_reducible refine Device.dmaWriteBack_keeps (subT (by decide +kernel) hW) ?_ | split
  | succ _ ih =>
    unfold Device.dmaFlush
    try dsimp only
    repeat' first
      | with_reducible exact h | with_reducible apply ih | with_reducible assumption
      | with_reducible refine Device.dmaWriteBack_keeps (subT (by decide +kernel) hW) ?_ | split

def Touch.setTaken : List Nat :=
  [F.pcieDma]

theorem Device.setTaken_keeps {W : List Nat} {a : Device} {d : Device} {n : Nat} {l : List TakenDesc} (hW : Sub Touch.setTaken W) (h : Keeps W a d) :
    Keeps W a (Device.setTaken d n l) := by
  unfold Device.setTaken
  try dsimp only
  repeat' first
    | with_reducible exact h | with_reducible refine Device.setDma_keeps (subT (by decide +kernel) hW) ?_

def Touch.dmaEnd : List Nat :=
  [O.RING_HEAD, O.RING_TAIL, O.RING_STATE, O.RING_COMPLETED, O.RING_REJECTED, O.PMC_VALUE, O.PMC_STATUS, F.out,
  F.pcieDma, F.pciePending, F.pmc]

theorem Device.dmaEnd_keeps {W : List Nat} {a : Device} {d : Device} {n : Nat} (hW : Sub Touch.dmaEnd W) (h : Keeps W a d) :
    Keeps W a (Device.dmaEnd d n) := by
  unfold Device.dmaEnd
  try dsimp only
  repeat' first
    | with_reducible exact h | exact memT (by decide +kernel) hW
    | with_reducible refine Device.dmaFlush_keeps (subT (by decide +kernel) hW) ?_
    | with_reducible refine Device.setDma_keeps (subT (by decide +kernel) hW) ?_
    | with_reducible refine Device.wr_keeps ?_ ?_

def Touch.dmaDrain : List Nat :=
  Touch.dmaWriteBack

theorem Device.dmaDrain_keeps {W : List Nat} {a : Device} {x0 : Nat} {x1 : List TakenDesc} {d : Device} (hW : Sub Touch.dmaDrain W) (h : Keeps W a d) :
    Keeps W a (Device.dmaDrain x0 x1 d).2 := by
  induction x1 generalizing x0 d with
  | nil =>
    unfold Device.dmaDrain
    try dsimp only
    repeat' first
      | with_reducible exact h | with_reducible assumption | with_reducible apply Keeps.elim
      | with_reducible refine Device.dmaWriteBack_keeps (subT (by decide +kernel) hW) ?_
      | with_reducible apply Keeps.elim2 | intro _ _ hq | intro _ | split
  | cons _ _ ih =>
    unfold Device.dmaDrain
    try dsimp only
    repeat' first
      | with_reducible exact h | with_reducible apply ih | with_reducible assumption
      | with_reducible apply Keeps.elim
      | with_reducible refine Device.dmaWriteBack_keeps (subT (by decide +kernel) hW) ?_
      | with_reducible apply Keeps.elim2 | intro _ _ hq | intro _ | split

def Touch.dmaSettle : List Nat :=
  Touch.dmaEnd

theorem Device.dmaSettle_keeps {W : List Nat} {a : Device} {d : Device} {n : Nat} (hW : Sub Touch.dmaSettle W) (h : Keeps W a d) :
    Keeps W a (Device.dmaSettle d n) := by
  unfold Device.dmaSettle
  try dsimp only
  repeat' first
    | with_reducible exact h | with_reducible apply Keeps.ite
    | with_reducible refine Device.dmaDrain_keeps (subT (by decide +kernel) hW) ?_
    | with_reducible refine Device.setTaken_keeps (subT (by decide +kernel) hW) ?_
    | with_reducible refine Device.dmaEnd_keeps (subT (by decide +kernel) hW) ?_ | with_reducible apply Keeps.ite2
    | split

def Touch.dmaTake : List Nat :=
  [F.pcieDma]

theorem Device.dmaTake_keeps {W : List Nat} {a : Device} {d : Device} {n : Nat} {tag : Nat} (hW : Sub Touch.dmaTake W) (h : Keeps W a d) :
    Keeps W a (Device.dmaTake d n tag) := by
  unfold Device.dmaTake
  try dsimp only
  repeat' first
    | with_reducible exact h | with_reducible refine Device.setTaken_keeps (subT (by decide +kernel) hW) ?_

def Touch.dmaFinish : List Nat :=
  Touch.dmaEnd

theorem Device.dmaFinish_keeps {W : List Nat} {a : Device} {d : Device} {n : Nat} {tag : Nat} {status : Nat} {length : Nat} {kind : Bytes} (hW : Sub Touch.dmaFinish W) (h : Keeps W a d) :
    Keeps W a (Device.dmaFinish d n tag status length kind) := by
  unfold Device.dmaFinish
  try dsimp only
  repeat' first
    | with_reducible exact h | with_reducible assumption | with_reducible apply Keeps.ite
    | with_reducible refine Device.setTaken_keeps (subT (by decide +kernel) hW) ?_
    | with_reducible refine Device.dmaSettle_keeps (subT (by decide +kernel) hW) ?_ | intro _ _ hq | intro _ | split
    | dsimp only

def Touch.dmaComplete : List Nat :=
  Touch.dmaEnd

theorem Device.dmaComplete_keeps {W : List Nat} {a : Device} {d : Device} {n : Nat} {status : Nat} {length : Nat} {kind : Bytes} (hW : Sub Touch.dmaComplete W) (h : Keeps W a d) :
    Keeps W a (Device.dmaComplete d n status length kind) := by
  unfold Device.dmaComplete
  try dsimp only
  repeat' first
    | with_reducible exact h | with_reducible refine Device.setTaken_keeps (subT (by decide +kernel) hW) ?_
    | with_reducible refine Device.dmaSettle_keeps (subT (by decide +kernel) hW) ?_

def Touch.dmaHalt : List Nat :=
  [O.RING_ENABLE, O.RING_HEAD, O.RING_TAIL, O.RING_STATE, O.RING_COMPLETED, O.RING_REJECTED, O.PMC_VALUE,
  O.PMC_STATUS, F.out, F.pcieDma, F.pciePending, F.pmc]

theorem Device.dmaHalt_keeps {W : List Nat} {a : Device} {d : Device} {n : Nat} (hW : Sub Touch.dmaHalt W) (h : Keeps W a d) :
    Keeps W a (Device.dmaHalt d n) := by
  unfold Device.dmaHalt
  try dsimp only
  repeat' first
    | with_reducible exact h | exact memT (by decide +kernel) hW | with_reducible apply Keeps.ite
    | with_reducible refine Device.wr_keeps ?_ ?_
    | with_reducible refine Device.dmaEnd_keeps (subT (by decide +kernel) hW) ?_
    | with_reducible refine Device.setDma_keeps (subT (by decide +kernel) hW) ?_ | split

def Touch.ringSend : List Nat :=
  [F.ring]

theorem Device.ringSend_keeps {W : List Nat} {a : Device} {d : Device} {m : RingMsg} (hW : Sub Touch.ringSend W) (h : Keeps W a d) :
    Keeps W a (Device.ringSend d m) := 
  h.same rfl rfl (fun k hk => by
    unfold sameField
    split <;> first | rfl | exact absurd (memF (by decide +kernel) hW) hk | trivial)

def Touch.groupIdle : List Nat :=
  [O.GROUP_OWNER, O.GROUP_STATE, O.GROUP_WRITES, O.GROUP_FAIL_ADDRESS, O.GROUP_FLAGS, F.groups]

theorem Device.groupIdle_keeps {W : List Nat} {a : Device} {d : Device} {g : Nat} (hW : Sub Touch.groupIdle W) (h : Keeps W a d) :
    Keeps W a (Device.groupIdle d g) := by
  unfold Device.groupIdle
  try dsimp only
  repeat' first
    | with_reducible exact h | exact memT (by decide +kernel) hW
    | with_reducible refine Device.setGroup_keeps (subT (by decide +kernel) hW) ?_
    | with_reducible refine Device.wr_keeps ?_ ?_

def Touch.clearSession : List Nat :=
  [O.SESSION_STATE, O.SESSION_ROLE, O.SESSION_CA, O.SESSION_ID, O.SESSION_LAST_COUNTER, F.sess]

theorem Device.clearSession_keeps {W : List Nat} {a : Device} {d : Device} {row : Nat} (hW : Sub Touch.clearSession W) (h : Keeps W a d) :
    Keeps W a (Device.clearSession d row) := by
  unfold Device.clearSession
  try dsimp only
  repeat' first
    | with_reducible exact h | exact memT (by decide +kernel) hW
    | with_reducible refine Device.setSess_keeps (subT (by decide +kernel) hW) ?_
    | with_reducible refine Device.wr_keeps ?_ ?_

def Touch.eventsExpire : List Nat :=
  [O.FLT_EVENT_LOST, F.pcieDma]

theorem Device.eventsExpire_keeps {W : List Nat} {a : Device} {d : Device} {n : Nat} (hW : Sub Touch.eventsExpire W) (h : Keeps W a d) :
    Keeps W a (Device.eventsExpire d n) := by
  unfold Device.eventsExpire
  try dsimp only
  repeat' first
    | with_reducible exact h | exact memT (by decide +kernel) hW | with_reducible apply Keeps.ite
    | with_reducible refine Device.setDma_keeps (subT (by decide +kernel) hW) ?_
    | with_reducible refine Device.add64_keeps ?_ ?_ | split

def Touch.eventRingQueue : List Nat :=
  [O.FLT_EVENT_LOST, F.pcieDma]

theorem Device.eventRingQueue_keeps {W : List Nat} {a : Device} {rcd : Bytes} {d : Device} {n : Nat} (hW : Sub Touch.eventRingQueue W) (h : Keeps W a d) :
    Keeps W a (Device.eventRingQueue rcd d n) := by
  unfold Device.eventRingQueue
  try dsimp only
  repeat' first
    | with_reducible exact h | exact memT (by decide +kernel) hW | with_reducible apply Keeps.ite
    | with_reducible refine Device.eventsExpire_keeps (subT (by decide +kernel) hW) ?_
    | with_reducible refine Device.setDma_keeps (subT (by decide +kernel) hW) ?_
    | with_reducible refine Device.inc64_keeps ?_ ?_ | split

def Touch.markShared : List Nat :=
  [O.FLT_FIRST_SEVERE, O.FLT_LOG_RECORD]

theorem Device.markShared_keeps {W : List Nat} {a : Device} {d : Device} {seq : Nat} (hW : Sub Touch.markShared W) (h : Keeps W a d) :
    Keeps W a (Device.markShared d seq) := by
  unfold Device.markShared
  try dsimp only
  repeat' first
    | with_reducible exact h | exact memT (by decide +kernel) hW | with_reducible apply Keeps.ite
    | with_reducible refine Device.wr_keeps ?_ ?_ | split

def Touch.nextRecord : List Nat :=
  [F.faults]

theorem Device.nextRecord_keeps {W : List Nat} {a : Device} {d : Device} (hW : Sub Touch.nextRecord W) (h : Keeps W a d) :
    Keeps W a (Device.nextRecord d) := 
  h.same rfl rfl (fun k hk => by
    unfold sameField
    split <;> first | rfl | exact absurd (memF (by decide +kernel) hW) hk | trivial)

def Touch.addEvent : List Nat :=
  [F.faults]

theorem Device.addEvent_keeps {W : List Nat} {a : Device} {d : Device} {src : Nat} (hW : Sub Touch.addEvent W) (h : Keeps W a d) :
    Keeps W a (Device.addEvent d src) := 
  h.same rfl rfl (fun k hk => by
    unfold sameField
    split <;> first | rfl | exact absurd (memF (by decide +kernel) hW) hk | trivial)

def Touch.logRecord : List Nat :=
  [O.FLT_SRC_EVENTS, O.FLT_SRC_LAST_AT, O.FLT_LOG_LAST_SEQ, O.FLT_LOG_OVERWRITTEN, O.FLT_FIRST_SEVERE,
  O.FLT_LOG_RECORD, F.faults]

theorem Device.logRecord_keeps {W : List Nat} {a : Device} {d : Device} {src : Nat} {cls : Nat} {kind : Nat} {r64 : Bytes} (hW : Sub Touch.logRecord W) (h : Keeps W a d) :
    Keeps W a (Device.logRecord d src cls kind r64) := by
  unfold Device.logRecord
  try dsimp only
  repeat' first
    | with_reducible exact h | with_reducible assumption | exact memT (by decide +kernel) hW
    | with_reducible apply Keeps.ite | with_reducible apply Keeps.elim
    | with_reducible refine Device.markShared_keeps (subT (by decide +kernel) hW) ?_
    | with_reducible refine Device.nextRecord_keeps (subT (by decide +kernel) hW) ?_
    | with_reducible refine Device.inc32_keeps ?_ ?_ | with_reducible refine Device.wr_keeps ?_ ?_
    | with_reducible refine Device.inc64_keeps ?_ ?_ | intro _ _ hq | intro _ | split

def Touch.setVault : List Nat :=
  [F.vault]

theorem Device.setVault_keeps {W : List Nat} {a : Device} {d : Device} {k : Nat} {x : VaultX} (hW : Sub Touch.setVault W) (h : Keeps W a d) :
    Keeps W a (Device.setVault d k x) := 
  h.same rfl rfl (fun k hk => by
    unfold sameField
    split <;> first | rfl | exact absurd (memF (by decide +kernel) hW) hk | trivial)

def Touch.setCls : List Nat :=
  [F.clsx]

theorem Device.setCls_keeps {W : List Nat} {a : Device} {d : Device} {x : ClsX} (hW : Sub Touch.setCls W) (h : Keeps W a d) :
    Keeps W a (Device.setCls d x) := 
  h.same rfl rfl (fun k hk => by
    unfold sameField
    split <;> first | rfl | exact absurd (memF (by decide +kernel) hW) hk | trivial)

def Touch.setPeerSeq : List Nat :=
  [F.clsx]

theorem Device.setPeerSeq_keeps {W : List Nat} {a : Device} {d : Device} {n : Nat} (hW : Sub Touch.setPeerSeq W) (h : Keeps W a d) :
    Keeps W a (Device.setPeerSeq d n) := by
  unfold Device.setPeerSeq
  try dsimp only
  repeat' first
    | with_reducible exact h | with_reducible refine Device.setCls_keeps (subT (by decide +kernel) hW) ?_

def Touch.peerSend : List Nat :=
  [F.out, F.clsx]

theorem Device.peerSend_keeps {W : List Nat} {a : Device} {d : Device} {type : Nat} {count : Nat} {payload : Bytes} (hW : Sub Touch.peerSend W) (h : Keeps W a d) :
    Keeps W a (Device.peerSend d type count payload) := by
  unfold Device.peerSend
  try dsimp only
  repeat' first
    | with_reducible exact h | with_reducible assumption | with_reducible apply Keeps.ite
    | with_reducible refine Device.setPeerSeq_keeps (subT (by decide +kernel) hW) ?_
    | with_reducible refine Device.emit_keeps (subT (by decide +kernel) hW) ?_ | split

def Touch.setGun : List Nat :=
  [F.guns]

theorem Device.setGun_keeps {W : List Nat} {a : Device} {d : Device} {e : Nat} {x : GunX} (hW : Sub Touch.setGun W) (h : Keeps W a d) :
    Keeps W a (Device.setGun d e x) := 
  h.same rfl rfl (fun k hk => by
    unfold sameField
    split <;> first | rfl | exact absurd (memF (by decide +kernel) hW) hk | trivial)

def Touch.noteUnsent : List Nat :=
  [O.FLT_SRC_EVENTS, O.FLT_SRC_LAST_AT, O.FLT_LOG_LAST_SEQ, O.FLT_LOG_OVERWRITTEN, O.FLT_EVENT_LOST,
  O.FLT_FIRST_SEVERE, O.FLT_LOG_RECORD, F.pcieDma, F.faults]

theorem Device.noteUnsent_keeps {W : List Nat} {a : Device} {d : Device} {src : Nat} {code : Nat} {detail : Bytes} (hW : Sub Touch.noteUnsent W) (h : Keeps W a d) :
    Keeps W a (Device.noteUnsent d src code detail) := by
  unfold Device.noteUnsent
  try dsimp only
  repeat' first
    | with_reducible exact h | with_reducible assumption | with_reducible apply Keeps.ite
    | with_reducible apply Keeps.foldl | with_reducible refine Device.addEvent_keeps (subT (by decide +kernel) hW) ?_
    | with_reducible refine Device.logRecord_keeps (subT (by decide +kernel) hW) ?_
    | with_reducible refine Device.eventRingQueue_keeps (subT (by decide +kernel) hW) ?_ | intro _ _ hq | intro _
    | split

def Touch.gunAnnouncePeer : List Nat :=
  [F.out, F.clsx]

theorem Device.gunAnnouncePeer_keeps {W : List Nat} {a : Device} {d : Device} {op : Nat} {e : Nat} (hW : Sub Touch.gunAnnouncePeer W) (h : Keeps W a d) :
    Keeps W a (Device.gunAnnouncePeer d op e) := by
  unfold Device.gunAnnouncePeer
  try dsimp only
  repeat' first
    | with_reducible exact h | with_reducible apply Keeps.ite
    | with_reducible refine Device.peerSend_keeps (subT (by decide +kernel) hW) ?_ | split

def Touch.gunDrop : List Nat :=
  [O.GUN_STATE, O.GUN_FLAGS]

theorem Device.gunDrop_keeps {W : List Nat} {a : Device} {d : Device} {e : Nat} (hW : Sub Touch.gunDrop W) (h : Keeps W a d) :
    Keeps W a (Device.gunDrop d e) := by
  unfold Device.gunDrop
  try dsimp only
  repeat' first
    | with_reducible exact h | exact memT (by decide +kernel) hW | with_reducible apply Keeps.ite
    | with_reducible refine Device.wrBit_keeps ?_ ?_ | with_reducible refine Device.wr_keeps ?_ ?_ | split

def Touch.gunFree : List Nat :=
  [O.GUN_OWNER]

theorem Device.gunFree_keeps {W : List Nat} {a : Device} {d : Device} {e : Nat} (hW : Sub Touch.gunFree W) (h : Keeps W a d) :
    Keeps W a (Device.gunFree d e) := by
  unfold Device.gunFree
  try dsimp only
  repeat' first
    | with_reducible exact h | exact memT (by decide +kernel) hW | with_reducible refine Device.wr_keeps ?_ ?_

def Touch.groupOverruledUnsent : List Nat :=
  [O.GROUP_STATE, O.GUN_STATE, O.GUN_OWNER, O.GUN_FLAGS, O.FLT_SRC_EVENTS, O.FLT_SRC_LAST_AT, O.FLT_LOG_LAST_SEQ,
  O.FLT_LOG_OVERWRITTEN, O.FLT_EVENT_LOST, O.FLT_FIRST_SEVERE, O.FLT_LOG_RECORD, F.out, F.groups, F.pcieDma,
  F.faults, F.clsx]

theorem Device.groupOverruledUnsent_keeps {W : List Nat} {a : Device} {d : Device} {g : Nat} (hW : Sub Touch.groupOverruledUnsent W) (h : Keeps W a d) :
    Keeps W a (Device.groupOverruledUnsent d g) := by
  unfold Device.groupOverruledUnsent
  try dsimp only
  repeat' first
    | with_reducible exact h | with_reducible assumption | exact memT (by decide +kernel) hW
    | with_reducible apply Keeps.ite | with_reducible apply Keeps.elim
    | with_reducible refine Device.gunDrop_keeps (subT (by decide +kernel) hW) ?_
    | with_reducible refine Device.gunAnnouncePeer_keeps (subT (by decide +kernel) hW) ?_
    | with_reducible refine Device.gunFree_keeps (subT (by decide +kernel) hW) ?_
    | with_reducible refine Device.setGroup_keeps (subT (by decide +kernel) hW) ?_
    | with_reducible refine Device.wr_keeps ?_ ?_
    | with_reducible refine Device.noteUnsent_keeps (subT (by decide +kernel) hW) ?_ | intro _ _ hq | intro _ | split

def Touch.closeRow : List Nat :=
  [O.LOCK, O.GROUP_OWNER, O.GROUP_STATE, O.GROUP_WRITES, O.GROUP_FAIL_ADDRESS, O.GROUP_FLAGS, O.SESSION_STATE,
  O.SESSION_ROLE, O.SESSION_CA, O.SESSION_ID, O.SESSION_LAST_COUNTER, O.RING_ENABLE, O.RING_HEAD, O.RING_TAIL,
  O.RING_STATE, O.RING_COMPLETED, O.RING_REJECTED, O.PMC_VALUE, O.PMC_STATUS, F.out, F.sess, F.groups, F.pcieDma,
  F.pciePending, F.pmc]

theorem Device.closeRow_keeps {W : List Nat} {a : Device} {d : Device} {row : Nat} (hW : Sub Touch.closeRow W) (h : Keeps W a d) :
    Keeps W a (Device.closeRow d row) := by
  unfold Device.closeRow
  try dsimp only
  repeat' first
    | with_reducible exact h | with_reducible assumption | exact memT (by decide +kernel) hW
    | with_reducible apply Keeps.ite | with_reducible apply Keeps.foldl | with_reducible refine Device.wr_keeps ?_ ?_
    | with_reducible refine Device.groupIdle_keeps (subT (by decide +kernel) hW) ?_
    | with_reducible refine Device.dmaHalt_keeps (subT (by decide +kernel) hW) ?_
    | with_reducible refine Device.clearSession_keeps (subT (by decide +kernel) hW) ?_ | intro _ _ hq | intro _
    | split

def Touch.closeSpent : List Nat :=
  [O.LOCK, O.GROUP_OWNER, O.GROUP_STATE, O.GROUP_WRITES, O.GROUP_FAIL_ADDRESS, O.GROUP_FLAGS, O.SESSION_STATE,
  O.SESSION_ROLE, O.SESSION_CA, O.SESSION_ID, O.SESSION_LAST_COUNTER, O.RING_ENABLE, O.RING_HEAD, O.RING_TAIL,
  O.RING_STATE, O.RING_COMPLETED, O.RING_REJECTED, O.GUN_STATE, O.GUN_OWNER, O.GUN_FLAGS, O.FLT_SRC_EVENTS,
  O.FLT_SRC_LAST_AT, O.FLT_LOG_LAST_SEQ, O.FLT_LOG_OVERWRITTEN, O.FLT_EVENT_LOST, O.FLT_FIRST_SEVERE,
  O.FLT_LOG_RECORD, O.PMC_VALUE, O.PMC_STATUS, F.out, F.sess, F.groups, F.pcieDma, F.pciePending, F.faults, F.clsx,
  F.pmc]

theorem Device.closeSpent_keeps {W : List Nat} {a : Device} {d : Device} {row : Nat} (hW : Sub Touch.closeSpent W) (h : Keeps W a d) :
    Keeps W a (Device.closeSpent d row) := by
  unfold Device.closeSpent
  try dsimp only
  repeat' first
    | with_reducible exact h | with_reducible assumption | with_reducible apply Keeps.foldl
    | with_reducible refine Device.groupOverruledUnsent_keeps (subT (by decide +kernel) hW) ?_
    | with_reducible refine Device.closeRow_keeps (subT (by decide +kernel) hW) ?_
    | with_reducible apply Keeps.foldl2 | intro _ _ hq | intro _

def Touch.ringEvent : List Nat :=
  [O.LOCK, O.GROUP_OWNER, O.GROUP_STATE, O.GROUP_WRITES, O.GROUP_FAIL_ADDRESS, O.GROUP_FLAGS, O.SESSION_STATE,
  O.SESSION_ROLE, O.SESSION_CA, O.SESSION_ID, O.SESSION_LAST_COUNTER, O.RING_ENABLE, O.RING_HEAD, O.RING_TAIL,
  O.RING_STATE, O.RING_COMPLETED, O.RING_REJECTED, O.GUN_STATE, O.GUN_OWNER, O.GUN_FLAGS, O.FLT_SRC_EVENTS,
  O.FLT_SRC_LAST_AT, O.FLT_LOG_LAST_SEQ, O.FLT_LOG_OVERWRITTEN, O.FLT_EVENT_LOST, O.FLT_FIRST_SEVERE,
  O.FLT_LOG_RECORD, O.PMC_VALUE, O.PMC_STATUS, F.out, F.sess, F.groups, F.ring, F.pcieDma, F.pciePending, F.faults,
  F.clsx, F.pmc]

theorem Device.ringEvent_keeps {W : List Nat} {a : Device} {d : Device} {type : Nat} {payload : Bytes} (hW : Sub Touch.ringEvent W) (h : Keeps W a d) :
    Keeps W a (Device.ringEvent d type payload) := by
  unfold Device.ringEvent
  try dsimp only
  repeat' first
    | with_reducible exact h | with_reducible assumption | with_reducible apply Keeps.ite
    | with_reducible refine Device.closeSpent_keeps (subT (by decide +kernel) hW) ?_
    | with_reducible refine Device.setSess_keeps (subT (by decide +kernel) hW) ?_
    | with_reducible refine Device.ringSend_keeps (subT (by decide +kernel) hW) ?_ | split

def Touch.deliver : List Nat :=
  Touch.ringEvent

theorem Device.deliver_keeps {W : List Nat} {a : Device} {d : Device} {rcd : Bytes} (hW : Sub Touch.deliver W) (h : Keeps W a d) :
    Keeps W a (Device.deliver d rcd) := by
  unfold Device.deliver
  try dsimp only
  repeat' first
    | with_reducible exact h | with_reducible assumption | with_reducible apply Keeps.foldl
    | with_reducible refine Device.eventRingQueue_keeps (subT (by decide +kernel) hW) ?_
    | with_reducible refine Device.ringEvent_keeps (subT (by decide +kernel) hW) ?_ | intro _ _ hq | intro _

def Touch.writeRecord : List Nat :=
  Touch.ringEvent

theorem Device.writeRecord_keeps {W : List Nat} {a : Device} {d : Device} {src : Nat} {code : Nat} {cls : Nat} {base : Nat} {kind : Nat} {flags : Nat} {reaction : Nat} {window : Nat} {detail : Bytes} (hW : Sub Touch.writeRecord W) (h : Keeps W a d) :
    Keeps W a (Device.writeRecord d src code cls base kind flags reaction window detail) := by
  unfold Device.writeRecord
  try dsimp only
  repeat' first
    | with_reducible exact h | with_reducible apply Keeps.ite
    | with_reducible refine Device.logRecord_keeps (subT (by decide +kernel) hW) ?_
    | with_reducible refine Device.deliver_keeps (subT (by decide +kernel) hW) ?_ | split

def Touch.note : List Nat :=
  Touch.ringEvent

theorem Device.note_keeps {W : List Nat} {a : Device} {d : Device} {src : Nat} {code : Nat} {detail : Bytes} (hW : Sub Touch.note W) (h : Keeps W a d) :
    Keeps W a (Device.note d src code detail) := by
  unfold Device.note
  try dsimp only
  repeat' first
    | with_reducible exact h | with_reducible apply Keeps.ite
    | with_reducible refine Device.addEvent_keeps (subT (by decide +kernel) hW) ?_
    | with_reducible refine Device.writeRecord_keeps (subT (by decide +kernel) hW) ?_ | split

def Touch.gunAnnounce : List Nat :=
  Touch.ringEvent

theorem Device.gunAnnounce_keeps {W : List Nat} {a : Device} {d : Device} {op : Nat} {e : Nat} (hW : Sub Touch.gunAnnounce W) (h : Keeps W a d) :
    Keeps W a (Device.gunAnnounce d op e) := by
  unfold Device.gunAnnounce
  try dsimp only
  repeat' first
    | with_reducible exact h | with_reducible apply Keeps.ite
    | with_reducible refine Device.ringEvent_keeps (subT (by decide +kernel) hW) ?_
    | with_reducible refine Device.peerSend_keeps (subT (by decide +kernel) hW) ?_ | split

def Touch.setGunSeq : List Nat :=
  [F.gunSeq]

theorem Device.setGunSeq_keeps {W : List Nat} {a : Device} {d : Device} {n : Nat} (hW : Sub Touch.setGunSeq W) (h : Keeps W a d) :
    Keeps W a (Device.setGunSeq d n) := 
  h.same rfl rfl (fun k hk => by
    unfold sameField
    split <;> first | rfl | exact absurd (memF (by decide +kernel) hW) hk | trivial)

def Touch.gunTake : List Nat :=
  [O.LOCK, O.GROUP_OWNER, O.GROUP_STATE, O.GROUP_WRITES, O.GROUP_FAIL_ADDRESS, O.GROUP_FLAGS, O.SESSION_STATE,
  O.SESSION_ROLE, O.SESSION_CA, O.SESSION_ID, O.SESSION_LAST_COUNTER, O.RING_ENABLE, O.RING_HEAD, O.RING_TAIL,
  O.RING_STATE, O.RING_COMPLETED, O.RING_REJECTED, O.GUN_STATE, O.GUN_OWNER, O.GUN_TARGET_ROW, O.GUN_TIME,
  O.GUN_SEQ, O.GUN_TAG, O.GUN_TARGET_CYCLE, O.GUN_FIRED_AT, O.GUN_FLAGS, O.FLT_SRC_EVENTS, O.FLT_SRC_LAST_AT,
  O.FLT_LOG_LAST_SEQ, O.FLT_LOG_OVERWRITTEN, O.FLT_EVENT_LOST, O.FLT_FIRST_SEVERE, O.FLT_LOG_RECORD, O.PMC_VALUE,
  O.PMC_STATUS, F.out, F.sess, F.groups, F.ring, F.pcieDma, F.pciePending, F.gunSeq, F.guns, F.faults, F.clsx,
  F.pmc]

theorem Device.gunTake_keeps {W : List Nat} {a : Device} {d : Device} {e : Nat} {code : Nat} {row : Nat} {time : Nat} {tag : Nat} {lateOk : Bool} (hW : Sub Touch.gunTake W) (h : Keeps W a d) :
    Keeps W a (Device.gunTake d e code row time tag lateOk) := by
  unfold Device.gunTake
  try dsimp only
  repeat' first
    | with_reducible exact h | exact memT (by decide +kernel) hW | with_reducible apply Keeps.ite
    | with_reducible refine Device.setGun_keeps (subT (by decide +kernel) hW) ?_
    | with_reducible refine Device.setGunSeq_keeps (subT (by decide +kernel) hW) ?_
    | with_reducible refine Device.wr_keeps ?_ ?_
    | with_reducible refine Device.gunAnnounce_keeps (subT (by decide +kernel) hW) ?_ | split

def Touch.gunCancelNow : List Nat :=
  Touch.ringEvent

theorem Device.gunCancelNow_keeps {W : List Nat} {a : Device} {d : Device} {e : Nat} (hW : Sub Touch.gunCancelNow W) (h : Keeps W a d) :
    Keeps W a (Device.gunCancelNow d e) := by
  unfold Device.gunCancelNow
  try dsimp only
  repeat' first
    | with_reducible exact h | with_reducible refine Device.gunDrop_keeps (subT (by decide +kernel) hW) ?_
    | with_reducible refine Device.gunAnnounce_keeps (subT (by decide +kernel) hW) ?_
    | with_reducible refine Device.gunFree_keeps (subT (by decide +kernel) hW) ?_

def Touch.gunCancel : List Nat :=
  Touch.ringEvent

theorem Device.gunCancel_keeps {W : List Nat} {a : Device} {d : Device} {e : Nat} (hW : Sub Touch.gunCancel W) (h : Keeps W a d) :
    Keeps W a (Device.gunCancel d e) := by
  unfold Device.gunCancel
  try dsimp only
  repeat' first
    | with_reducible exact h | with_reducible apply Keeps.ite
    | with_reducible refine Device.gunCancelNow_keeps (subT (by decide +kernel) hW) ?_ | split

def Touch.gunDone : List Nat :=
  [O.LOCK, O.GROUP_OWNER, O.GROUP_STATE, O.GROUP_WRITES, O.GROUP_FAIL_ADDRESS, O.GROUP_FLAGS, O.SESSION_STATE,
  O.SESSION_ROLE, O.SESSION_CA, O.SESSION_ID, O.SESSION_LAST_COUNTER, O.RING_ENABLE, O.RING_HEAD, O.RING_TAIL,
  O.RING_STATE, O.RING_COMPLETED, O.RING_REJECTED, O.GUN_STATE, O.GUN_OWNER, O.GUN_TARGET_CYCLE, O.GUN_FIRED_AT,
  O.GUN_FLAGS, O.GUN_LATE_COUNT, O.GUN_STEPPED_COUNT, O.FLT_SRC_EVENTS, O.FLT_SRC_LAST_AT, O.FLT_LOG_LAST_SEQ,
  O.FLT_LOG_OVERWRITTEN, O.FLT_EVENT_LOST, O.FLT_FIRST_SEVERE, O.FLT_LOG_RECORD, O.PMC_VALUE, O.PMC_STATUS, F.out,
  F.sess, F.groups, F.ring, F.pcieDma, F.pciePending, F.faults, F.clsx, F.pmc]

theorem Device.gunDone_keeps {W : List Nat} {a : Device} {d : Device} {e : Nat} {stepped : Bool} (hW : Sub Touch.gunDone W) (h : Keeps W a d) :
    Keeps W a (Device.gunDone d e stepped) := by
  unfold Device.gunDone
  try dsimp only
  repeat' first
    | with_reducible exact h | exact memT (by decide +kernel) hW | with_reducible apply Keeps.ite
    | with_reducible refine Device.wr_keeps ?_ ?_ | with_reducible refine Device.wrBit_keeps ?_ ?_
    | with_reducible refine Device.inc32_keeps ?_ ?_
    | with_reducible refine Device.pmcHub_keeps (subT (by decide +kernel) hW) ?_
    | with_reducible refine Device.gunAnnounce_keeps (subT (by decide +kernel) hW) ?_
    | with_reducible refine Device.gunFree_keeps (subT (by decide +kernel) hW) ?_ | split

def Touch.groupCancelled : List Nat :=
  Touch.ringEvent

theorem Device.groupCancelled_keeps {W : List Nat} {a : Device} {d : Device} {g : Nat} (hW : Sub Touch.groupCancelled W) (h : Keeps W a d) :
    Keeps W a (Device.groupCancelled d g) := by
  unfold Device.groupCancelled
  try dsimp only
  repeat' first
    | with_reducible exact h | with_reducible assumption | exact memT (by decide +kernel) hW
    | with_reducible refine Device.gunCancel_keeps (subT (by decide +kernel) hW) ?_
    | with_reducible refine Device.setGroup_keeps (subT (by decide +kernel) hW) ?_
    | with_reducible refine Device.wr_keeps ?_ ?_ | split

def Touch.groupOverruled : List Nat :=
  Touch.ringEvent

theorem Device.groupOverruled_keeps {W : List Nat} {a : Device} {d : Device} {g : Nat} (hW : Sub Touch.groupOverruled W) (h : Keeps W a d) :
    Keeps W a (Device.groupOverruled d g) := by
  unfold Device.groupOverruled
  try dsimp only
  repeat' first
    | with_reducible exact h | with_reducible refine Device.groupCancelled_keeps (subT (by decide +kernel) hW) ?_
    | with_reducible refine Device.note_keeps (subT (by decide +kernel) hW) ?_

def Touch.touch : List Nat :=
  Touch.ringEvent

theorem Device.touch_keeps {W : List Nat} {a : Device} {d : Device} {o : Nat} {r : Nat} (hW : Sub Touch.touch W) (h : Keeps W a d) :
    Keeps W a (Device.touch d o r) := by
  unfold Device.touch
  try dsimp only
  repeat' first
    | with_reducible exact h | with_reducible assumption | with_reducible apply Keeps.foldl
    | with_reducible refine Device.groupOverruled_keeps (subT (by decide +kernel) hW) ?_ | intro _ _ hq | intro _

def Touch.wrCmd : List Nat :=
  Touch.ringEvent

theorem Device.wrCmd_keeps {W : List Nat} {a : Device} {d : Device} {o : Nat} {r : Nat} {v : Nat} (ho : Here o W) (hW : Sub Touch.wrCmd W) (h : Keeps W a d) :
    Keeps W a (Device.wrCmd d o r v) := by
  unfold Device.wrCmd
  try dsimp only
  repeat' first
    | with_reducible exact h | with_reducible exact ho | exact memT (by decide +kernel) hW
    | with_reducible apply Keeps.ite | with_reducible refine Device.touch_keeps (subT (by decide +kernel) hW) ?_
    | with_reducible refine Device.wr_keeps ?_ ?_ | split

def Touch.dmaStop : List Nat :=
  Touch.ringEvent

theorem Device.dmaStop_keeps {W : List Nat} {a : Device} {d : Device} {n : Nat} (hW : Sub Touch.dmaStop W) (h : Keeps W a d) :
    Keeps W a (Device.dmaStop d n) := by
  unfold Device.dmaStop
  try dsimp only
  repeat' first
    | with_reducible exact h | with_reducible apply Keeps.ite
    | with_reducible refine Device.touch_keeps (subT (by decide +kernel) hW) ?_
    | with_reducible refine Device.dmaHalt_keeps (subT (by decide +kernel) hW) ?_ | split

def Touch.closeSession : List Nat :=
  Touch.ringEvent

theorem Device.closeSession_keeps {W : List Nat} {a : Device} {d : Device} {row : Nat} (hW : Sub Touch.closeSession W) (h : Keeps W a d) :
    Keeps W a (Device.closeSession d row) := by
  unfold Device.closeSession
  try dsimp only
  repeat' first
    | with_reducible exact h | with_reducible assumption | with_reducible apply Keeps.ite
    | with_reducible apply Keeps.foldl | with_reducible refine Device.touch_keeps (subT (by decide +kernel) hW) ?_
    | with_reducible refine Device.closeRow_keeps (subT (by decide +kernel) hW) ?_ | with_reducible apply Keeps.ite2
    | with_reducible apply Keeps.foldl2 | intro _ _ hq | intro _ | split

def Touch.closeSessions : List Nat :=
  Touch.ringEvent

theorem Device.closeSessions_keeps {W : List Nat} {a : Device} {d : Device} {lo : Nat} {hi : Nat} (hW : Sub Touch.closeSessions W) (h : Keeps W a d) :
    Keeps W a (Device.closeSessions d lo hi) := by
  unfold Device.closeSessions
  try dsimp only
  repeat' first
    | with_reducible exact h | with_reducible assumption | with_reducible apply Keeps.foldl
    | with_reducible refine Device.closeSession_keeps (subT (by decide +kernel) hW) ?_ | intro _ _ hq | intro _
    | dsimp only

end Sys2Proof.Machine
end

