-- ==== Sys2Proof/Laws/KeepsFrames.lean ====
section
/-!
SUPPORT. The places that each operation of Machine/Frames.lean may change (Laws/Keeps.lean).
-/
set_option Elab.async false
set_option linter.all false
set_option linter.unusedTactic false
set_option linter.unreachableTactic false
set_option linter.style.longLine false
namespace Sys2Proof.Machine

def Touch.setPort : List Nat :=
  [F.ports]

theorem Device.setPort_keeps {W : List Nat} {a : Device} {d : Device} {p : Nat} {x : PortX} (hW : Sub Touch.setPort W) (h : Keeps W a d) :
    Keeps W a (Device.setPort d p x) := 
  h.same rfl rfl (fun k hk => by
    unfold sameField
    split <;> first | rfl | exact absurd (memF (by decide +kernel) hW) hk | trivial)

def Touch.noteXoff : List Nat :=
  [O.PORT_FC_TX_XOFF_C0, O.PORT_FC_TX_XOFF_C1, O.PORT_FC_TX_XOFF_C2, O.PORT_FC_TX_XOFF_C3, O.PORT_FC_TX_XOFF_C4,
  O.PORT_FC_TX_XOFF_C5, O.PORT_FC_TX_XOFF_C6, O.PORT_FC_TX_XOFF_C7, F.ports]

theorem Device.noteXoff_keeps {W : List Nat} {a : Device} {p : Nat} {quanta : Nat} {d : Device} {c : Nat} (hW : Sub Touch.noteXoff W) (h : Keeps W a d) :
    Keeps W a (Device.noteXoff p quanta d c) := by
  unfold Device.noteXoff
  try dsimp only
  repeat' first
    | with_reducible exact h | exact memT (by decide +kernel) hW | with_reducible apply Keeps.ite
    | with_reducible refine Device.setPort_keeps (subT (by decide +kernel) hW) ?_
    | with_reducible refine Device.inc64_keeps ?_ ?_
    | exact memR (n := 8) (by decide +kernel) (Nat.mod_lt _ (by decide)) hW | split

def Touch.sendFlow : List Nat :=
  [O.PORT_FC_TX_XOFF_C0, O.PORT_FC_TX_XOFF_C1, O.PORT_FC_TX_XOFF_C2, O.PORT_FC_TX_XOFF_C3, O.PORT_FC_TX_XOFF_C4,
  O.PORT_FC_TX_XOFF_C5, O.PORT_FC_TX_XOFF_C6, O.PORT_FC_TX_XOFF_C7, F.out, F.ports]

theorem Device.sendFlow_keeps {W : List Nat} {a : Device} {d : Device} {p : Nat} {cs : List Nat} {quanta : Nat} (hW : Sub Touch.sendFlow W) (h : Keeps W a d) :
    Keeps W a (Device.sendFlow d p cs quanta) := by
  unfold Device.sendFlow
  try dsimp only
  repeat' first
    | with_reducible exact h | with_reducible assumption | with_reducible apply Keeps.ite
    | with_reducible apply Keeps.foldl | with_reducible refine Device.noteXoff_keeps (subT (by decide +kernel) hW) ?_
    | with_reducible refine Device.emit_keeps (subT (by decide +kernel) hW) ?_ | intro _ _ hq | intro _ | split

def Touch.markHold : List Nat :=
  [F.ports]

theorem Device.markHold_keeps {W : List Nat} {a : Device} {p : Nat} {cause : Nat} {on : Bool} {d : Device} {c : Nat} (hW : Sub Touch.markHold W) (h : Keeps W a d) :
    Keeps W a (Device.markHold p cause on d c) := by
  unfold Device.markHold
  try dsimp only
  repeat' first
    | with_reducible exact h | with_reducible refine Device.setPort_keeps (subT (by decide +kernel) hW) ?_

def Touch.setHolds : List Nat :=
  Touch.sendFlow

theorem Device.setHolds_keeps {W : List Nat} {a : Device} {d : Device} {p : Nat} {cause : Nat} {on : Bool} {cs : List Nat} (hW : Sub Touch.setHolds W) (h : Keeps W a d) :
    Keeps W a (Device.setHolds d p cause on cs) := by
  unfold Device.setHolds
  try dsimp only
  repeat' first
    | with_reducible exact h | with_reducible assumption | with_reducible apply Keeps.foldl
    | with_reducible refine Device.markHold_keeps (subT (by decide +kernel) hW) ?_
    | with_reducible refine Device.sendFlow_keeps (subT (by decide +kernel) hW) ?_ | intro _ _ hq | intro _

def Touch.setLaps : List Nat :=
  [F.laps]

theorem Device.setLaps_keeps {W : List Nat} {a : Device} {d : Device} {x : LapX} (hW : Sub Touch.setLaps W) (h : Keeps W a d) :
    Keeps W a (Device.setLaps d x) := 
  h.same rfl rfl (fun k hk => by
    unfold sameField
    split <;> first | rfl | exact absurd (memF (by decide +kernel) hW) hk | trivial)

def Touch.lapFlag : List Nat :=
  [F.laps]

theorem Device.lapFlag_keeps {W : List Nat} {a : Device} {d : Device} {b : Nat} (hW : Sub Touch.lapFlag W) (h : Keeps W a d) :
    Keeps W a (Device.lapFlag d b) := by
  unfold Device.lapFlag
  try dsimp only
  repeat' first
    | with_reducible exact h | with_reducible refine Device.setLaps_keeps (subT (by decide +kernel) hW) ?_

def Touch.lapAdd : List Nat :=
  [F.laps]

theorem Device.lapAdd_keeps {W : List Nat} {a : Device} {d : Device} {q : Nat} {f : LapCnt → LapCnt} (hW : Sub Touch.lapAdd W) (h : Keeps W a d) :
    Keeps W a (Device.lapAdd d q f) := by
  unfold Device.lapAdd
  try dsimp only
  repeat' first
    | with_reducible exact h | with_reducible assumption
    | with_reducible refine Device.setLaps_keeps (subT (by decide +kernel) hW) ?_ | intro _ _ hq | intro _

def Touch.lapOther : List Nat :=
  [F.laps]

theorem Device.lapOther_keeps {W : List Nat} {a : Device} {d : Device} {q : Nat} {len : Nat} (hW : Sub Touch.lapOther W) (h : Keeps W a d) :
    Keeps W a (Device.lapOther d q len) := by
  unfold Device.lapOther
  try dsimp only
  repeat' first
    | with_reducible exact h | with_reducible assumption
    | with_reducible refine Device.lapAdd_keeps (subT (by decide +kernel) hW) ?_ | intro _ _ hq | intro _

def Touch.lapProtected : List Nat :=
  [F.laps]

theorem Device.lapProtected_keeps {W : List Nat} {a : Device} {d : Device} {q : Nat} {len : Nat} (hW : Sub Touch.lapProtected W) (h : Keeps W a d) :
    Keeps W a (Device.lapProtected d q len) := by
  unfold Device.lapProtected
  try dsimp only
  repeat' first
    | with_reducible exact h | with_reducible assumption
    | with_reducible refine Device.lapAdd_keeps (subT (by decide +kernel) hW) ?_ | intro _ _ hq | intro _

def Touch.lapPolice : List Nat :=
  [F.laps]

theorem Device.lapPolice_keeps {W : List Nat} {a : Device} {d : Device} {q : Nat} {len : Nat} (hW : Sub Touch.lapPolice W) (h : Keeps W a d) :
    Keeps W a (Device.lapPolice d q len) := by
  unfold Device.lapPolice
  try dsimp only
  repeat' first
    | with_reducible exact h | with_reducible assumption
    | with_reducible refine Device.lapAdd_keeps (subT (by decide +kernel) hW) ?_ | intro _ _ hq | intro _

def Touch.lapExcess : List Nat :=
  [F.laps]

theorem Device.lapExcess_keeps {W : List Nat} {a : Device} {d : Device} {q : Nat} {len : Nat} (hW : Sub Touch.lapExcess W) (h : Keeps W a d) :
    Keeps W a (Device.lapExcess d q len) := by
  unfold Device.lapExcess
  try dsimp only
  repeat' first
    | with_reducible exact h | with_reducible assumption
    | with_reducible refine Device.lapAdd_keeps (subT (by decide +kernel) hW) ?_ | intro _ _ hq | intro _

def Touch.setPipe : List Nat :=
  [F.pipe]

theorem Device.setPipe_keeps {W : List Nat} {a : Device} {d : Device} {x : PipeX} (hW : Sub Touch.setPipe W) (h : Keeps W a d) :
    Keeps W a (Device.setPipe d x) := 
  h.same rfl rfl (fun k hk => by
    unfold sameField
    split <;> first | rfl | exact absurd (memF (by decide +kernel) hW) hk | trivial)

def Touch.setFrames : List Nat :=
  [F.pipe]

theorem Device.setFrames_keeps {W : List Nat} {a : Device} {d : Device} {l : List Frame} (hW : Sub Touch.setFrames W) (h : Keeps W a d) :
    Keeps W a (Device.setFrames d l) := by
  unfold Device.setFrames
  try dsimp only
  repeat' first
    | with_reducible exact h | with_reducible refine Device.setPipe_keeps (subT (by decide +kernel) hW) ?_

def Touch.setFrame : List Nat :=
  [F.pipe]

theorem Device.setFrame_keeps {W : List Nat} {a : Device} {d : Device} {f : Frame} (hW : Sub Touch.setFrame W) (h : Keeps W a d) :
    Keeps W a (Device.setFrame d f) := by
  unfold Device.setFrame
  try dsimp only
  repeat' first
    | with_reducible exact h | with_reducible assumption | with_reducible apply Keeps.ite
    | with_reducible refine Device.setFrames_keeps (subT (by decide +kernel) hW) ?_ | intro _ _ hq | intro _ | split
    | dsimp only

def Touch.setQueue : List Nat :=
  [F.queues]

theorem Device.setQueue_keeps {W : List Nat} {a : Device} {d : Device} {q : Nat} {x : QueueX} (hW : Sub Touch.setQueue W) (h : Keeps W a d) :
    Keeps W a (Device.setQueue d q x) := 
  h.same rfl rfl (fun k hk => by
    unfold sameField
    split <;> first | rfl | exact absurd (memF (by decide +kernel) hW) hk | trivial)

def Touch.setNode : List Nat :=
  [F.nodes]

theorem Device.setNode_keeps {W : List Nat} {a : Device} {d : Device} {n : Nat} {x : NodeX} (hW : Sub Touch.setNode W) (h : Keeps W a d) :
    Keeps W a (Device.setNode d n x) := 
  h.same rfl rfl (fun k hk => by
    unfold sameField
    split <;> first | rfl | exact absurd (memF (by decide +kernel) hW) hk | trivial)

def Touch.setPair : List Nat :=
  [F.pairs]

theorem Device.setPair_keeps {W : List Nat} {a : Device} {d : Device} {k : Nat} {x : PairX} (hW : Sub Touch.setPair W) (h : Keeps W a d) :
    Keeps W a (Device.setPair d k x) := 
  h.same rfl rfl (fun k hk => by
    unfold sameField
    split <;> first | rfl | exact absurd (memF (by decide +kernel) hW) hk | trivial)

def Touch.takeHandle : List Nat :=
  [F.pipe]

theorem Device.takeHandle_keeps {W : List Nat} {a : Device} {d : Device} (hW : Sub Touch.takeHandle W) (h : Keeps W a d) :
    Keeps W a (Device.takeHandle d).2 := by
  unfold Device.takeHandle
  try dsimp only
  repeat' first
    | with_reducible exact h | with_reducible assumption
    | with_reducible refine Device.setPipe_keeps (subT (by decide +kernel) hW) ?_ | split

def Touch.giveHandle : List Nat :=
  [F.pipe]

theorem Device.giveHandle_keeps {W : List Nat} {a : Device} {d : Device} {h : Nat} (hW : Sub Touch.giveHandle W) (h_h : Keeps W a d) :
    Keeps W a (Device.giveHandle d h) := by
  unfold Device.giveHandle
  try dsimp only
  repeat' first
    | with_reducible exact h_h | with_reducible apply Keeps.ite
    | with_reducible refine Device.setPipe_keeps (subT (by decide +kernel) hW) ?_ | split

def Touch.addCell : List Nat :=
  [F.pipe]

theorem Device.addCell_keeps {W : List Nat} {a : Device} {d : Device} {f : Frame} {src : CellSrc} (hW : Sub Touch.addCell W) (h : Keeps W a d) :
    Keeps W a (Device.addCell d f src).2 := by
  unfold Device.addCell
  try dsimp only
  repeat' first
    | with_reducible exact h | with_reducible refine Device.takeHandle_keeps (subT (by decide +kernel) hW) ?_

def Touch.useCell : List Nat :=
  [O.BUFP_USED_CELLS, O.BUFP_PEAK_CELLS]

theorem Device.useCell_keeps {W : List Nat} {a : Device} {d : Device} {row : Nat} (hW : Sub Touch.useCell W) (h : Keeps W a d) :
    Keeps W a (Device.useCell d row) := by
  unfold Device.useCell
  try dsimp only
  repeat' first
    | with_reducible exact h | exact memT (by decide +kernel) hW | with_reducible apply Keeps.ite
    | with_reducible refine Device.wr_keeps ?_ ?_ | split

def Touch.unuseCell : List Nat :=
  [O.BUFP_USED_CELLS]

theorem Device.unuseCell_keeps {W : List Nat} {a : Device} {d : Device} {row : Nat} (hW : Sub Touch.unuseCell W) (h : Keeps W a d) :
    Keeps W a (Device.unuseCell d row) := by
  unfold Device.unuseCell
  try dsimp only
  repeat' first
    | with_reducible exact h | exact memT (by decide +kernel) hW | with_reducible refine Device.wr_keeps ?_ ?_

def Touch.pairXon : List Nat :=
  [O.PORT_FC_TX_XOFF_C0, O.PORT_FC_TX_XOFF_C1, O.PORT_FC_TX_XOFF_C2, O.PORT_FC_TX_XOFF_C3, O.PORT_FC_TX_XOFF_C4,
  O.PORT_FC_TX_XOFF_C5, O.PORT_FC_TX_XOFF_C6, O.PORT_FC_TX_XOFF_C7, F.out, F.pairs, F.ports]

theorem Device.pairXon_keeps {W : List Nat} {a : Device} {d : Device} {k : Nat} (hW : Sub Touch.pairXon W) (h : Keeps W a d) :
    Keeps W a (Device.pairXon d k) := by
  unfold Device.pairXon
  try dsimp only
  repeat' first
    | with_reducible exact h | with_reducible apply Keeps.ite
    | with_reducible refine Device.setPair_keeps (subT (by decide +kernel) hW) ?_
    | with_reducible refine Device.setHolds_keeps (subT (by decide +kernel) hW) ?_ | split

def Touch.freeCell : List Nat :=
  [O.PORT_FC_TX_XOFF_C0, O.PORT_FC_TX_XOFF_C1, O.PORT_FC_TX_XOFF_C2, O.PORT_FC_TX_XOFF_C3, O.PORT_FC_TX_XOFF_C4,
  O.PORT_FC_TX_XOFF_C5, O.PORT_FC_TX_XOFF_C6, O.PORT_FC_TX_XOFF_C7, O.QUEUE_OCCUPANCY, O.BUFP_USED_CELLS,
  O.BUF_HEADROOM_USED, F.out, F.pipe, F.queues, F.pairs, F.ports]

theorem Device.freeCell_keeps {W : List Nat} {a : Device} {f : Frame} {d : Device} {c : Cell} (hW : Sub Touch.freeCell W) (h : Keeps W a d) :
    Keeps W a (Device.freeCell f d c) := by
  unfold Device.freeCell
  try dsimp only
  repeat' first
    | with_reducible exact h | with_reducible assumption | exact memT (by decide +kernel) hW
    | with_reducible apply Keeps.ite | with_reducible refine Device.giveHandle_keeps (subT (by decide +kernel) hW) ?_
    | with_reducible refine Device.unuseCell_keeps (subT (by decide +kernel) hW) ?_
    | with_reducible refine Device.setQueue_keeps (subT (by decide +kernel) hW) ?_
    | with_reducible refine Device.setPair_keeps (subT (by decide +kernel) hW) ?_
    | with_reducible refine Device.pairXon_keeps (subT (by decide +kernel) hW) ?_
    | with_reducible refine Device.wr_keeps ?_ ?_ | split

def Touch.freeCells : List Nat :=
  Touch.freeCell

theorem Device.freeCells_keeps {W : List Nat} {a : Device} {d : Device} {f : Frame} (hW : Sub Touch.freeCells W) (h : Keeps W a d) :
    Keeps W a (Device.freeCells d f) := by
  unfold Device.freeCells
  try dsimp only
  repeat' first
    | with_reducible exact h | with_reducible assumption | with_reducible apply Keeps.foldl
    | with_reducible refine Device.freeCell_keeps (subT (by decide +kernel) hW) ?_
    | with_reducible refine Device.setFrame_keeps (subT (by decide +kernel) hW) ?_ | intro _ _ hq | intro _

def Touch.refreshNode : List Nat :=
  [O.QUEUE_NODE]

theorem Device.refreshNode_keeps {W : List Nat} {a : Device} {d : Device} {q : Nat} (hW : Sub Touch.refreshNode W) (h : Keeps W a d) :
    Keeps W a (Device.refreshNode d q) := by
  unfold Device.refreshNode
  try dsimp only
  repeat' first
    | with_reducible exact h | with_reducible assumption | exact memT (by decide +kernel) hW
    | with_reducible refine Device.wr_keeps ?_ ?_ | split

def Touch.unqueue : List Nat :=
  [O.QUEUE_NODE, F.queues, F.nodes]

theorem Device.unqueue_keeps {W : List Nat} {a : Device} {d : Device} {f : Frame} (hW : Sub Touch.unqueue W) (h : Keeps W a d) :
    Keeps W a (Device.unqueue d f) := by
  unfold Device.unqueue
  try dsimp only
  repeat' first
    | with_reducible exact h | with_reducible assumption | with_reducible apply Keeps.ite
    | with_reducible refine Device.setNode_keeps (subT (by decide +kernel) hW) ?_
    | with_reducible refine Device.setQueue_keeps (subT (by decide +kernel) hW) ?_
    | with_reducible refine Device.refreshNode_keeps (subT (by decide +kernel) hW) ?_ | intro _ _ hq | intro _
    | split

def Touch.callroomRecount : List Nat :=
  [O.PORT_FC_TX_XOFF_C0, O.PORT_FC_TX_XOFF_C1, O.PORT_FC_TX_XOFF_C2, O.PORT_FC_TX_XOFF_C3, O.PORT_FC_TX_XOFF_C4,
  O.PORT_FC_TX_XOFF_C5, O.PORT_FC_TX_XOFF_C6, O.PORT_FC_TX_XOFF_C7, O.CALLROOM_OCCUPANCY, O.CALLROOM_PEAK, F.out,
  F.ports]

theorem Device.callroomRecount_keeps {W : List Nat} {a : Device} {d : Device} {s : Nat} (hW : Sub Touch.callroomRecount W) (h : Keeps W a d) :
    Keeps W a (Device.callroomRecount d s) := by
  unfold Device.callroomRecount
  try dsimp only
  repeat' first
    | with_reducible exact h | with_reducible assumption | exact memT (by decide +kernel) hW
    | with_reducible apply Keeps.ite | with_reducible apply Keeps.foldl | with_reducible refine Device.wr_keeps ?_ ?_
    | with_reducible refine Device.setHolds_keeps (subT (by decide +kernel) hW) ?_ | intro _ _ hq | intro _ | split

def Touch.pruneOvertake : List Nat :=
  [F.pipe]

theorem Device.pruneOvertake_keeps {W : List Nat} {a : Device} {d : Device} (hW : Sub Touch.pruneOvertake W) (h : Keeps W a d) :
    Keeps W a (Device.pruneOvertake d) := by
  unfold Device.pruneOvertake
  try dsimp only
  repeat' first
    | with_reducible exact h | with_reducible assumption
    | with_reducible refine Device.setPipe_keeps (subT (by decide +kernel) hW) ?_ | intro _ _ hq | intro _

def Touch.removeFrame : List Nat :=
  [O.PORT_FC_TX_XOFF_C0, O.PORT_FC_TX_XOFF_C1, O.PORT_FC_TX_XOFF_C2, O.PORT_FC_TX_XOFF_C3, O.PORT_FC_TX_XOFF_C4,
  O.PORT_FC_TX_XOFF_C5, O.PORT_FC_TX_XOFF_C6, O.PORT_FC_TX_XOFF_C7, O.CALLROOM_OCCUPANCY, O.CALLROOM_PEAK,
  O.QUEUE_OCCUPANCY, O.QUEUE_NODE, O.BUFP_USED_CELLS, O.BUF_HEADROOM_USED, F.out, F.pipe, F.queues, F.nodes,
  F.pairs, F.ports]

theorem Device.removeFrame_keeps {W : List Nat} {a : Device} {d : Device} {f : Frame} (hW : Sub Touch.removeFrame W) (h : Keeps W a d) :
    Keeps W a (Device.removeFrame d f) := by
  unfold Device.removeFrame
  try dsimp only
  repeat' first
    | with_reducible exact h | with_reducible assumption | with_reducible apply Keeps.ite
    | with_reducible refine Device.freeCells_keeps (subT (by decide +kernel) hW) ?_
    | with_reducible refine Device.unqueue_keeps (subT (by decide +kernel) hW) ?_
    | with_reducible refine Device.setFrames_keeps (subT (by decide +kernel) hW) ?_
    | with_reducible refine Device.callroomRecount_keeps (subT (by decide +kernel) hW) ?_
    | with_reducible refine Device.pruneOvertake_keeps (subT (by decide +kernel) hW) ?_ | intro _ _ hq | intro _
    | split

def Touch.injectRefuse : List Nat :=
  [O.RING_HEAD, O.RING_TAIL, O.RING_STATE, O.RING_COMPLETED, O.RING_REJECTED, O.INJECT_REFUSED, O.PMC_VALUE,
  O.PMC_STATUS, F.out, F.pcieDma, F.pciePending, F.pmc]

theorem Device.injectRefuse_keeps {W : List Nat} {a : Device} {d : Device} {f : Frame} {n : Nat} {detail : Nat} (hW : Sub Touch.injectRefuse W) (h : Keeps W a d) :
    Keeps W a (Device.injectRefuse d f n detail) := by
  unfold Device.injectRefuse
  try dsimp only
  repeat' first
    | with_reducible exact h | exact memT (by decide +kernel) hW
    | with_reducible refine Device.dmaFinish_keeps (subT (by decide +kernel) hW) ?_
    | with_reducible refine Device.inc64_keeps ?_ ?_

def Touch.countLost : List Nat :=
  [O.SA_STAT_TX_LOST, F.laps]

theorem Device.countLost_keeps {W : List Nat} {a : Device} {d : Device} {f : Frame} (hW : Sub Touch.countLost W) (h : Keeps W a d) :
    Keeps W a (Device.countLost d f) := by
  unfold Device.countLost
  try dsimp only
  repeat' first
    | with_reducible exact h | exact memT (by decide +kernel) hW | with_reducible apply Keeps.ite
    | with_reducible refine Device.inc64_keeps ?_ ?_
    | with_reducible refine Device.lapOther_keeps (subT (by decide +kernel) hW) ?_ | split

def Touch.setSlotCells : List Nat :=
  [F.pmc]

theorem Device.setSlotCells_keeps {W : List Nat} {a : Device} {d : Device} {sd : Nat} {n : Nat} (hW : Sub Touch.setSlotCells W) (h : Keeps W a d) :
    Keeps W a (Device.setSlotCells d sd n) := by
  unfold Device.setSlotCells
  try dsimp only
  repeat' first
    | with_reducible exact h | with_reducible refine Device.setPmc_keeps (subT (by decide +kernel) hW) ?_

def Touch.endSlots : List Nat :=
  Touch.pmcAdd

theorem Device.endSlots_keeps {W : List Nat} {a : Device} {d : Device} {sd : Nat} {code : Nat} {n : Nat} (hW : Sub Touch.endSlots W) (h : Keeps W a d) :
    Keeps W a (Device.endSlots d sd code n) := by
  unfold Device.endSlots
  try dsimp only
  repeat' first
    | with_reducible exact h | with_reducible apply Keeps.ite
    | with_reducible refine Device.pmcSlice_keeps (subT (by decide +kernel) hW) ?_ | split

def Touch.falseStart : List Nat :=
  [O.RUNAHEAD_FALSE_STARTS, O.RUNAHEAD_WASTED_CELLS, O.PMC_VALUE, O.PMC_STATUS, F.out, F.pciePending, F.pmc]

theorem Device.falseStart_keeps {W : List Nat} {a : Device} {d : Device} {f : Frame} {p : Pred} (hW : Sub Touch.falseStart W) (h : Keeps W a d) :
    Keeps W a (Device.falseStart d f p) := by
  unfold Device.falseStart
  try dsimp only
  repeat' first
    | with_reducible exact h | exact memT (by decide +kernel) hW | with_reducible refine Device.inc64_keeps ?_ ?_
    | with_reducible refine Device.add64_keeps ?_ ?_
    | with_reducible refine Device.pmcSlice_keeps (subT (by decide +kernel) hW) ?_
    | with_reducible refine Device.endSlots_keeps (subT (by decide +kernel) hW) ?_
    | with_reducible refine Device.setSlotCells_keeps (subT (by decide +kernel) hW) ?_

def Touch.macStart : List Nat :=
  [F.pipe]

theorem Device.macStart_keeps {W : List Nat} {a : Device} {gap : Int} {d : Device} {f : Frame} (hW : Sub Touch.macStart W) (h : Keeps W a d) :
    Keeps W a (Device.macStart gap d f) := by
  unfold Device.macStart
  try dsimp only
  repeat' first
    | with_reducible exact h | with_reducible assumption | with_reducible apply Keeps.ite
    | with_reducible refine Device.setFrame_keeps (subT (by decide +kernel) hW) ?_ | intro _ _ hq | intro _ | split

def Touch.macStarts : List Nat :=
  [F.pipe]

theorem Device.macStarts_keeps {W : List Nat} {a : Device} {d : Device} {p : Nat} {gap : Int} (hW : Sub Touch.macStarts W) (h : Keeps W a d) :
    Keeps W a (Device.macStarts d p gap) := by
  unfold Device.macStarts
  try dsimp only
  repeat' first
    | with_reducible exact h | with_reducible assumption | with_reducible apply Keeps.foldl
    | with_reducible refine Device.macStart_keeps (subT (by decide +kernel) hW) ?_ | intro _ _ hq | intro _

def Touch.dropWhole : List Nat :=
  [O.RUNAHEAD_FALSE_STARTS, O.RUNAHEAD_WASTED_CELLS, O.PORT_FC_TX_XOFF_C0, O.PORT_FC_TX_XOFF_C1,
  O.PORT_FC_TX_XOFF_C2, O.PORT_FC_TX_XOFF_C3, O.PORT_FC_TX_XOFF_C4, O.PORT_FC_TX_XOFF_C5, O.PORT_FC_TX_XOFF_C6,
  O.PORT_FC_TX_XOFF_C7, O.SA_STAT_TX_LOST, O.CALLROOM_OCCUPANCY, O.CALLROOM_PEAK, O.QUEUE_OCCUPANCY, O.QUEUE_NODE,
  O.BUFP_USED_CELLS, O.BUF_HEADROOM_USED, O.PMC_VALUE, O.PMC_STATUS, F.out, F.pciePending, F.pipe, F.queues,
  F.nodes, F.pairs, F.ports, F.laps, F.pmc]

theorem Device.dropWhole_keeps {W : List Nat} {a : Device} {d : Device} {f : Frame} (hW : Sub Touch.dropWhole W) (h : Keeps W a d) :
    Keeps W a (Device.dropWhole d f) := by
  unfold Device.dropWhole
  try dsimp only
  repeat' first
    | with_reducible exact h | with_reducible assumption | with_reducible apply Keeps.elim
    | with_reducible refine Device.falseStart_keeps (subT (by decide +kernel) hW) ?_
    | with_reducible refine Device.endSlots_keeps (subT (by decide +kernel) hW) ?_
    | with_reducible refine Device.countLost_keeps (subT (by decide +kernel) hW) ?_
    | with_reducible refine Device.removeFrame_keeps (subT (by decide +kernel) hW) ?_
    | with_reducible refine Device.macStarts_keeps (subT (by decide +kernel) hW) ?_ | intro _ _ hq | intro _

def Touch.txCount : List Nat :=
  [O.PORT_TX_FRAMES, O.PORT_TX_BYTES]

theorem Device.txCount_keeps {W : List Nat} {a : Device} {d : Device} {p : Nat} {n : Nat} (hW : Sub Touch.txCount W) (h : Keeps W a d) :
    Keeps W a (Device.txCount d p n) := by
  unfold Device.txCount
  try dsimp only
  repeat' first
    | with_reducible exact h | exact memT (by decide +kernel) hW | with_reducible refine Device.inc64_keeps ?_ ?_
    | with_reducible refine Device.add64_keeps ?_ ?_

def Touch.truncateFrame : List Nat :=
  [O.RUNAHEAD_FALSE_STARTS, O.RUNAHEAD_WASTED_CELLS, O.PORT_TX_FRAMES, O.PORT_TX_BYTES, O.PORT_TX_TRUNCATED,
  O.PORT_FC_TX_XOFF_C0, O.PORT_FC_TX_XOFF_C1, O.PORT_FC_TX_XOFF_C2, O.PORT_FC_TX_XOFF_C3, O.PORT_FC_TX_XOFF_C4,
  O.PORT_FC_TX_XOFF_C5, O.PORT_FC_TX_XOFF_C6, O.PORT_FC_TX_XOFF_C7, O.SA_STAT_TX_LOST, O.CALLROOM_OCCUPANCY,
  O.CALLROOM_PEAK, O.QUEUE_OCCUPANCY, O.QUEUE_NODE, O.BUFP_USED_CELLS, O.BUF_HEADROOM_USED, O.PMC_VALUE,
  O.PMC_STATUS, F.out, F.pciePending, F.pipe, F.queues, F.nodes, F.pairs, F.ports, F.laps, F.pmc]

theorem Device.truncateFrame_keeps {W : List Nat} {a : Device} {d : Device} {f : Frame} (hW : Sub Touch.truncateFrame W) (h : Keeps W a d) :
    Keeps W a (Device.truncateFrame d f) := by
  unfold Device.truncateFrame
  try dsimp only
  repeat' first
    | with_reducible exact h | exact memT (by decide +kernel) hW
    | with_reducible refine Device.txCount_keeps (subT (by decide +kernel) hW) ?_
    | with_reducible refine Device.inc64_keeps ?_ ?_
    | with_reducible refine Device.emit_keeps (subT (by decide +kernel) hW) ?_
    | with_reducible refine Device.dropWhole_keeps (subT (by decide +kernel) hW) ?_

def Touch.stopFrame : List Nat :=
  [O.RING_HEAD, O.RING_TAIL, O.RING_STATE, O.RING_COMPLETED, O.RING_REJECTED, O.INJECT_REFUSED,
  O.RUNAHEAD_FALSE_STARTS, O.RUNAHEAD_WASTED_CELLS, O.PORT_TX_FRAMES, O.PORT_TX_BYTES, O.PORT_TX_TRUNCATED,
  O.PORT_FC_TX_XOFF_C0, O.PORT_FC_TX_XOFF_C1, O.PORT_FC_TX_XOFF_C2, O.PORT_FC_TX_XOFF_C3, O.PORT_FC_TX_XOFF_C4,
  O.PORT_FC_TX_XOFF_C5, O.PORT_FC_TX_XOFF_C6, O.PORT_FC_TX_XOFF_C7, O.SA_STAT_TX_LOST, O.CALLROOM_OCCUPANCY,
  O.CALLROOM_PEAK, O.QUEUE_OCCUPANCY, O.QUEUE_NODE, O.BUFP_USED_CELLS, O.BUF_HEADROOM_USED, O.PMC_VALUE,
  O.PMC_STATUS, F.out, F.pcieDma, F.pciePending, F.pipe, F.queues, F.nodes, F.pairs, F.ports, F.laps, F.pmc]

theorem Device.stopFrame_keeps {W : List Nat} {a : Device} {d : Device} {f : Frame} (hW : Sub Touch.stopFrame W) (h : Keeps W a d) :
    Keeps W a (Device.stopFrame d f) := by
  unfold Device.stopFrame
  try dsimp only
  repeat' first
    | with_reducible exact h | with_reducible assumption | with_reducible apply Keeps.ite
    | with_reducible apply Keeps.elim
    | with_reducible refine Device.injectRefuse_keeps (subT (by decide +kernel) hW) ?_
    | with_reducible refine Device.truncateFrame_keeps (subT (by decide +kernel) hW) ?_
    | with_reducible refine Device.dropWhole_keeps (subT (by decide +kernel) hW) ?_ | intro _ _ hq | intro _ | split

def Touch.stopFrames : List Nat :=
  Touch.stopFrame

theorem Device.stopFrames_keeps {W : List Nat} {a : Device} {d : Device} {sel : Nat → Bool} (hW : Sub Touch.stopFrames W) (h : Keeps W a d) :
    Keeps W a (Device.stopFrames d sel) := by
  unfold Device.stopFrames
  try dsimp only
  repeat' first
    | with_reducible exact h | with_reducible assumption | with_reducible apply Keeps.foldl
    | with_reducible refine Device.stopFrame_keeps (subT (by decide +kernel) hW) ?_ | intro _ _ hq | intro _

def Touch.dropOpen : List Nat :=
  [O.RING_HEAD, O.RING_TAIL, O.RING_STATE, O.RING_COMPLETED, O.RING_REJECTED, O.INJECT_REFUSED,
  O.RUNAHEAD_FALSE_STARTS, O.RUNAHEAD_WASTED_CELLS, O.PORT_FC_TX_XOFF_C0, O.PORT_FC_TX_XOFF_C1,
  O.PORT_FC_TX_XOFF_C2, O.PORT_FC_TX_XOFF_C3, O.PORT_FC_TX_XOFF_C4, O.PORT_FC_TX_XOFF_C5, O.PORT_FC_TX_XOFF_C6,
  O.PORT_FC_TX_XOFF_C7, O.SA_STAT_TX_LOST, O.CALLROOM_OCCUPANCY, O.CALLROOM_PEAK, O.QUEUE_OCCUPANCY, O.QUEUE_NODE,
  O.BUFP_USED_CELLS, O.BUF_HEADROOM_USED, O.PMC_VALUE, O.PMC_STATUS, F.out, F.pcieDma, F.pciePending, F.pipe,
  F.queues, F.nodes, F.pairs, F.ports, F.laps, F.pmc]

theorem Device.dropOpen_keeps {W : List Nat} {a : Device} {d : Device} {f : Frame} (hW : Sub Touch.dropOpen W) (h : Keeps W a d) :
    Keeps W a (Device.dropOpen d f) := by
  unfold Device.dropOpen
  try dsimp only
  repeat' first
    | with_reducible exact h | with_reducible assumption | with_reducible apply Keeps.elim
    | with_reducible refine Device.dropWhole_keeps (subT (by decide +kernel) hW) ?_
    | with_reducible refine Device.injectRefuse_keeps (subT (by decide +kernel) hW) ?_ | intro _ _ hq | intro _

def Touch.discardFrame : List Nat :=
  Touch.dropOpen

theorem Device.discardFrame_keeps {W : List Nat} {a : Device} {d : Device} {f : Frame} (hW : Sub Touch.discardFrame W) (h : Keeps W a d) :
    Keeps W a (Device.discardFrame d f) := by
  unfold Device.discardFrame
  try dsimp only
  repeat' first
    | with_reducible exact h | with_reducible apply Keeps.ite
    | with_reducible refine Device.setFrame_keeps (subT (by decide +kernel) hW) ?_
    | with_reducible refine Device.dropOpen_keeps (subT (by decide +kernel) hW) ?_ | split

def Touch.cutShort : List Nat :=
  [O.RING_HEAD, O.RING_TAIL, O.RING_STATE, O.RING_COMPLETED, O.RING_REJECTED, O.INJECT_REFUSED,
  O.RUNAHEAD_FALSE_STARTS, O.RUNAHEAD_WASTED_CELLS, O.PORT_FC_TX_XOFF_C0, O.PORT_FC_TX_XOFF_C1,
  O.PORT_FC_TX_XOFF_C2, O.PORT_FC_TX_XOFF_C3, O.PORT_FC_TX_XOFF_C4, O.PORT_FC_TX_XOFF_C5, O.PORT_FC_TX_XOFF_C6,
  O.PORT_FC_TX_XOFF_C7, O.SA_STAT_TX_LOST, O.CALLROOM_OCCUPANCY, O.CALLROOM_PEAK, O.QUEUE_OCCUPANCY, O.QUEUE_NODE,
  O.BUFP_USED_CELLS, O.BUF_HEADROOM_USED, O.PMC_VALUE, O.PMC_STATUS, F.draws, F.out, F.pcieDma, F.pciePending,
  F.pipe, F.queues, F.nodes, F.pairs, F.ports, F.laps, F.pmc]

theorem Device.cutShort_keeps {W : List Nat} {a : Device} {d : Device} {f : Frame} (hW : Sub Touch.cutShort W) (h : Keeps W a d) :
    Keeps W a (Device.cutShort d f) := by
  unfold Device.cutShort
  try dsimp only
  repeat' first
    | with_reducible exact h | with_reducible apply Keeps.ite
    | with_reducible refine Device.dropOpen_keeps (subT (by decide +kernel) hW) ?_
    | with_reducible refine Device.unstated_keeps (subT (by decide +kernel) hW) ?_
    | with_reducible refine Device.freeCells_keeps (subT (by decide +kernel) hW) ?_ | with_reducible apply Keeps.ite2
    | split

def Touch.uncountRx : List Nat :=
  [O.PORT_RX_FRAMES, O.PORT_RX_BYTES]

theorem Device.uncountRx_keeps {W : List Nat} {a : Device} {d : Device} {f : Frame} (hW : Sub Touch.uncountRx W) (h : Keeps W a d) :
    Keeps W a (Device.uncountRx d f) := by
  unfold Device.uncountRx
  try dsimp only
  repeat' first
    | with_reducible exact h | exact memT (by decide +kernel) hW | with_reducible refine Device.sub64_keeps ?_ ?_

def Touch.cutReception : List Nat :=
  [O.RING_HEAD, O.RING_TAIL, O.RING_STATE, O.RING_COMPLETED, O.RING_REJECTED, O.INJECT_REFUSED,
  O.RUNAHEAD_FALSE_STARTS, O.RUNAHEAD_WASTED_CELLS, O.PORT_RX_FRAMES, O.PORT_RX_BYTES, O.PORT_FC_TX_XOFF_C0,
  O.PORT_FC_TX_XOFF_C1, O.PORT_FC_TX_XOFF_C2, O.PORT_FC_TX_XOFF_C3, O.PORT_FC_TX_XOFF_C4, O.PORT_FC_TX_XOFF_C5,
  O.PORT_FC_TX_XOFF_C6, O.PORT_FC_TX_XOFF_C7, O.SA_STAT_TX_LOST, O.CALLROOM_OCCUPANCY, O.CALLROOM_PEAK,
  O.QUEUE_OCCUPANCY, O.QUEUE_NODE, O.BUFP_USED_CELLS, O.BUF_HEADROOM_USED, O.PMC_VALUE, O.PMC_STATUS, F.out,
  F.pcieDma, F.pciePending, F.pipe, F.queues, F.nodes, F.pairs, F.ports, F.laps, F.pmc]

theorem Device.cutReception_keeps {W : List Nat} {a : Device} {d : Device} {f : Frame} (hW : Sub Touch.cutReception W) (h : Keeps W a d) :
    Keeps W a (Device.cutReception d f) := by
  unfold Device.cutReception
  try dsimp only
  repeat' first
    | with_reducible exact h | with_reducible apply Keeps.ite
    | with_reducible refine Device.uncountRx_keeps (subT (by decide +kernel) hW) ?_
    | with_reducible refine Device.setFrame_keeps (subT (by decide +kernel) hW) ?_
    | with_reducible refine Device.discardFrame_keeps (subT (by decide +kernel) hW) ?_ | split

def Touch.setStaged : List Nat :=
  [F.pipe]

theorem Device.setStaged_keeps {W : List Nat} {a : Device} {d : Device} {sd : Nat} {n : Nat} (hW : Sub Touch.setStaged W) (h : Keeps W a d) :
    Keeps W a (Device.setStaged d sd n) := by
  unfold Device.setStaged
  try dsimp only
  repeat' first
    | with_reducible exact h | with_reducible assumption
    | with_reducible refine Device.setPipe_keeps (subT (by decide +kernel) hW) ?_ | intro _ _ hq | intro _

def Touch.stageHolds : List Nat :=
  Touch.sendFlow

theorem Device.stageHolds_keeps {W : List Nat} {a : Device} {d : Device} {sd : Nat} (hW : Sub Touch.stageHolds W) (h : Keeps W a d) :
    Keeps W a (Device.stageHolds d sd) := by
  unfold Device.stageHolds
  try dsimp only
  repeat' first
    | with_reducible exact h | with_reducible assumption | with_reducible apply Keeps.ite
    | with_reducible apply Keeps.foldl | with_reducible refine Device.setHolds_keeps (subT (by decide +kernel) hW) ?_
    | intro _ _ hq | intro _ | split

def Touch.stageCell : List Nat :=
  [O.PORT_FC_TX_XOFF_C0, O.PORT_FC_TX_XOFF_C1, O.PORT_FC_TX_XOFF_C2, O.PORT_FC_TX_XOFF_C3, O.PORT_FC_TX_XOFF_C4,
  O.PORT_FC_TX_XOFF_C5, O.PORT_FC_TX_XOFF_C6, O.PORT_FC_TX_XOFF_C7, F.out, F.pipe, F.ports]

theorem Device.stageCell_keeps {W : List Nat} {a : Device} {d : Device} {sd : Nat} (hW : Sub Touch.stageCell W) (h : Keeps W a d) :
    Keeps W a (Device.stageCell d sd) := by
  unfold Device.stageCell
  try dsimp only
  repeat' first
    | with_reducible exact h | with_reducible refine Device.setStaged_keeps (subT (by decide +kernel) hW) ?_
    | with_reducible refine Device.stageHolds_keeps (subT (by decide +kernel) hW) ?_

def Touch.setBank : List Nat :=
  [F.banks]

theorem Device.setBank_keeps {W : List Nat} {a : Device} {d : Device} {b : Nat} {x : BankX} (hW : Sub Touch.setBank W) (h : Keeps W a d) :
    Keeps W a (Device.setBank d b x) := 
  h.same rfl rfl (fun k hk => by
    unfold sameField
    split <;> first | rfl | exact absurd (memF (by decide +kernel) hW) hk | trivial)

def Touch.clearBanks : List Nat :=
  [F.banks]

theorem Device.clearBanks_keeps {W : List Nat} {a : Device} {d : Device} {sel : Nat → Bool} (hW : Sub Touch.clearBanks W) (h : Keeps W a d) :
    Keeps W a (Device.clearBanks d sel) := by
  unfold Device.clearBanks
  try dsimp only
  repeat' first
    | with_reducible exact h | with_reducible assumption | with_reducible apply Keeps.foldl
    | with_reducible refine Device.setBank_keeps (subT (by decide +kernel) hW) ?_ | intro _ _ hq | intro _

def Touch.setKat : List Nat :=
  [F.banks]

theorem Device.setKat_keeps {W : List Nat} {a : Device} {d : Device} {b : Nat} {core : Nat} (hW : Sub Touch.setKat W) (h : Keeps W a d) :
    Keeps W a (Device.setKat d b core) := by
  unfold Device.setKat
  try dsimp only
  repeat' first
    | with_reducible exact h | with_reducible refine Device.setBank_keeps (subT (by decide +kernel) hW) ?_

def Touch.runKats : List Nat :=
  [F.banks]

theorem Device.runKats_keeps {W : List Nat} {a : Device} {d : Device} {sel : Nat → Bool} (hW : Sub Touch.runKats W) (h : Keeps W a d) :
    Keeps W a (Device.runKats d sel) := by
  unfold Device.runKats
  try dsimp only
  repeat' first
    | with_reducible exact h | with_reducible assumption | with_reducible apply Keeps.foldl
    | with_reducible refine Device.setKat_keeps (subT (by decide +kernel) hW) ?_ | intro _ _ hq | intro _

def Touch.uncache : List Nat :=
  [F.banks]

theorem Device.uncache_keeps {W : List Nat} {a : Device} {d : Device} {slot : Nat} (hW : Sub Touch.uncache W) (h : Keeps W a d) :
    Keeps W a (Device.uncache d slot) := by
  unfold Device.uncache
  try dsimp only
  repeat' first
    | with_reducible exact h | with_reducible assumption | with_reducible apply Keeps.foldl
    | with_reducible refine Device.setBank_keeps (subT (by decide +kernel) hW) ?_ | intro _ _ hq | intro _

end Sys2Proof.Machine
end

