-- ==== Sys2Proof/Laws/KeepsReactions.lean ====
section
/-!
SUPPORT. The places that each operation of Machine/Reactions.lean may change (Laws/Keeps.lean).
-/
set_option Elab.async false
set_option linter.all false
set_option linter.unusedTactic false
set_option linter.unreachableTactic false
set_option linter.style.longLine false
namespace Sys2Proof.Machine

def Touch.clearRefs : List Nat :=
  [O.LOCK, O.GROUP_OWNER, O.GROUP_STATE, O.GROUP_WRITES, O.GROUP_FAIL_ADDRESS, O.GROUP_FLAGS, O.SESSION_STATE,
  O.SESSION_ROLE, O.SESSION_CA, O.SESSION_ID, O.SESSION_LAST_COUNTER, O.ROLE_ROOT, O.RING_ENABLE, O.RING_HEAD,
  O.RING_TAIL, O.RING_STATE, O.RING_COMPLETED, O.RING_REJECTED, O.VAULT_ARG_KEY, O.VAULT_RESULT_HANDLE,
  O.GUN_STATE, O.GUN_OWNER, O.GUN_FLAGS, O.SA_KEK, O.FLT_SRC_EVENTS, O.FLT_SRC_LAST_AT, O.FLT_LOG_LAST_SEQ,
  O.FLT_LOG_OVERWRITTEN, O.FLT_EVENT_LOST, O.FLT_FIRST_SEVERE, O.FLT_LOG_RECORD, O.PMC_VALUE, O.PMC_STATUS,
  O.PEER_KEY, F.out, F.sess, F.groups, F.ring, F.pcieDma, F.pciePending, F.faults, F.clsx, F.pmc]

theorem Device.clearRefs_keeps {W : List Nat} {a d : Device} {k : Nat} (hW : Sub Touch.clearRefs W)
    (h : Keeps W a d) : Keeps W a (d.clearRefs k) := by
  unfold Device.clearRefs
  refine Keeps.foldl_mem h (fun x e he hq => ?_)
  have hm : e.1 / 2 ^ 24 ∈ Device.keyrefObjs := by
    simp only [List.mem_filter, Bool.and_eq_true] at he
    simpa using he.2.1.1
  exact Device.wrCmd_keeps (Or.inl (subT (by decide +kernel) hW _ hm)) (subT (by decide +kernel) hW) hq

def Touch.clearSlotObjs : List Nat :=
  [O.VAULT_STATE, O.VAULT_HANDLE, O.VAULT_LEVEL, O.VAULT_PURPOSE, O.VAULT_KEY_BITS, O.VAULT_COUNTED,
  O.VAULT_USES_LEFT, O.VAULT_ORIGIN, O.VAULT_PARENT, O.VAULT_CREATED_AT]

theorem Device.clearSlotObjs_keeps {W : List Nat} {a d : Device} {k : Nat} (hW : Sub Touch.clearSlotObjs W) (h : Keeps W a d) :
    Keeps W a (d.clearSlotObjs k) := by
  unfold Device.clearSlotObjs
  refine Keeps.foldl_mem h (fun x o ho hq => ?_)
  have hm : Here o W := Or.inl (subT (by decide +kernel) hW o ho)
  exact Device.clr_keeps hm hq

def Touch.zeroSlot : List Nat :=
  [O.LOCK, O.GROUP_OWNER, O.GROUP_STATE, O.GROUP_WRITES, O.GROUP_FAIL_ADDRESS, O.GROUP_FLAGS, O.SESSION_STATE,
  O.SESSION_ROLE, O.SESSION_CA, O.SESSION_ID, O.SESSION_LAST_COUNTER, O.ROLE_ROOT, O.RING_ENABLE, O.RING_HEAD,
  O.RING_TAIL, O.RING_STATE, O.RING_COMPLETED, O.RING_REJECTED, O.VAULT_STATE, O.VAULT_HANDLE, O.VAULT_LEVEL,
  O.VAULT_PURPOSE, O.VAULT_KEY_BITS, O.VAULT_COUNTED, O.VAULT_USES_LEFT, O.VAULT_ORIGIN, O.VAULT_PARENT,
  O.VAULT_CREATED_AT, O.VAULT_ARG_KEY, O.VAULT_RESULT_HANDLE, O.GUN_STATE, O.GUN_OWNER, O.GUN_FLAGS, O.SA_KEK,
  O.FLT_SRC_EVENTS, O.FLT_SRC_LAST_AT, O.FLT_LOG_LAST_SEQ, O.FLT_LOG_OVERWRITTEN, O.FLT_EVENT_LOST,
  O.FLT_FIRST_SEVERE, O.FLT_LOG_RECORD, O.PMC_VALUE, O.PMC_STATUS, O.PEER_KEY, F.out, F.sess, F.groups, F.ring,
  F.pcieDma, F.pciePending, F.faults, F.vault, F.clsx, F.pmc]

theorem Device.zeroSlot_keeps {W : List Nat} {a : Device} {d : Device} {k : Nat} (hW : Sub Touch.zeroSlot W) (h : Keeps W a d) :
    Keeps W a (Device.zeroSlot d k) := by
  unfold Device.zeroSlot
  try dsimp only
  repeat' first
    | with_reducible exact h | with_reducible apply Keeps.ite
    | with_reducible refine Device.clearRefs_keeps (subT (by decide +kernel) hW) ?_
    | with_reducible refine Device.setVault_keeps (subT (by decide +kernel) hW) ?_
    | with_reducible refine Device.clearSlotObjs_keeps (subT (by decide +kernel) hW) ?_ | split

def Touch.setRec : List Nat :=
  [F.saRecs]

theorem Device.setRec_keeps {W : List Nat} {a : Device} {d : Device} {pr : Nat} {x : SaRec} (hW : Sub Touch.setRec W) (h : Keeps W a d) :
    Keeps W a (Device.setRec d pr x) := 
  h.same rfl rfl (fun k hk => by
    unfold sameField
    split <;> first | rfl | exact absurd (memF (by decide +kernel) hW) hk | trivial)

def Touch.setCtx : List Nat :=
  [F.saCtxs]

theorem Device.setCtx_keeps {W : List Nat} {a : Device} {d : Device} {slot : Nat} {x : SaCtx} (hW : Sub Touch.setCtx W) (h : Keeps W a d) :
    Keeps W a (Device.setCtx d slot x) := 
  h.same rfl rfl (fun k hk => by
    unfold sameField
    split <;> first | rfl | exact absurd (memF (by decide +kernel) hW) hk | trivial)

def Touch.setHoldUntil : List Nat :=
  [F.saHolds]

theorem Device.setHoldUntil_keeps {W : List Nat} {a : Device} {d : Device} {sc : Nat} {v : Nat} (hW : Sub Touch.setHoldUntil W) (h : Keeps W a d) :
    Keeps W a (Device.setHoldUntil d sc v) := 
  h.same rfl rfl (fun k hk => by
    unfold sameField
    split <;> first | rfl | exact absurd (memF (by decide +kernel) hW) hk | trivial)

def Touch.setLastPn : List Nat :=
  [F.saLastPn]

theorem Device.setLastPn_keeps {W : List Nat} {a : Device} {d : Device} {sc : Nat} {v : Nat} (hW : Sub Touch.setLastPn W) (h : Keeps W a d) :
    Keeps W a (Device.setLastPn d sc v) := 
  h.same rfl rfl (fun k hk => by
    unfold sameField
    split <;> first | rfl | exact absurd (memF (by decide +kernel) hW) hk | trivial)

def Touch.setSaState : List Nat :=
  [O.SA_STATE, O.SA_CHANGED_AT]

theorem Device.setSaState_keeps {W : List Nat} {a : Device} {d : Device} {pr : Nat} {st : Nat} (hW : Sub Touch.setSaState W) (h : Keeps W a d) :
    Keeps W a (Device.setSaState d pr st) := by
  unfold Device.setSaState
  try dsimp only
  repeat' first
    | with_reducible exact h | exact memT (by decide +kernel) hW | with_reducible refine Device.wr_keeps ?_ ?_

def Touch.freeSlotOf : List Nat :=
  [O.SA_SLOT, O.SCSA_SLOT0_ROW, O.SCSA_SLOT1_ROW, F.saCtxs, F.banks]

theorem Device.freeSlotOf_keeps {W : List Nat} {a : Device} {pr : Nat} {d : Device} {slot : Nat} (hW : Sub Touch.freeSlotOf W) (h : Keeps W a d) :
    Keeps W a (Device.freeSlotOf pr d slot) := by
  unfold Device.freeSlotOf
  try dsimp only
  repeat' first
    | with_reducible exact h | exact memT (by decide +kernel) hW | with_reducible apply Keeps.ite
    | with_reducible refine Device.setCtx_keeps (subT (by decide +kernel) hW) ?_
    | with_reducible refine Device.uncache_keeps (subT (by decide +kernel) hW) ?_
    | with_reducible refine Device.wr_keeps ?_ ?_ | split

def Touch.freeSaSlot : List Nat :=
  Touch.freeSlotOf

theorem Device.freeSaSlot_keeps {W : List Nat} {a : Device} {d : Device} {pr : Nat} (hW : Sub Touch.freeSaSlot W) (h : Keeps W a d) :
    Keeps W a (Device.freeSaSlot d pr) := by
  unfold Device.freeSaSlot
  try dsimp only
  repeat' first
    | with_reducible exact h | with_reducible apply Keeps.ite
    | with_reducible refine Device.freeSlotOf_keeps (subT (by decide +kernel) hW) ?_ | split

def Touch.refreshSc : List Nat :=
  [O.SC_STATUS, O.SCSA_ZONE_OPEN]

theorem Device.refreshSc_keeps {W : List Nat} {a : Device} {d : Device} {sc : Nat} (hW : Sub Touch.refreshSc W) (h : Keeps W a d) :
    Keeps W a (Device.refreshSc d sc) := by
  unfold Device.refreshSc
  try dsimp only
  repeat' first
    | with_reducible exact h | with_reducible assumption | exact memT (by decide +kernel) hW
    | with_reducible refine Device.wrBit_keeps ?_ ?_ | with_reducible refine Device.wr_keeps ?_ ?_ | intro _ _ hq
    | intro _

def Touch.clearStats : List Nat :=
  [O.SA_STAT_PKTS, O.SA_STAT_OCTETS, O.SA_STAT_PKTS_ENCRYPTED, O.SA_STAT_NOT_VALID, O.SA_STAT_COMMIT_LATE,
  O.SA_STAT_TX_LOST]

theorem Device.clearStats_keeps {W : List Nat} {a d : Device} {pr : Nat} (hW : Sub Touch.clearStats W) (h : Keeps W a d) :
    Keeps W a (d.clearStats pr) := by
  unfold Device.clearStats
  refine Keeps.foldl_mem h (fun x o ho hq => ?_)
  have hm : Here o W := Or.inl (subT (by decide +kernel) hW o ho)
  exact Device.clr_keeps hm hq

def Touch.discardZeroed : List Nat :=
  [O.RING_HEAD, O.RING_TAIL, O.RING_STATE, O.RING_COMPLETED, O.RING_REJECTED, O.INJECT_REFUSED,
  O.RUNAHEAD_FALSE_STARTS, O.RUNAHEAD_WASTED_CELLS, O.BANK_DISCARDS, O.PORT_FC_TX_XOFF_C0, O.PORT_FC_TX_XOFF_C1,
  O.PORT_FC_TX_XOFF_C2, O.PORT_FC_TX_XOFF_C3, O.PORT_FC_TX_XOFF_C4, O.PORT_FC_TX_XOFF_C5, O.PORT_FC_TX_XOFF_C6,
  O.PORT_FC_TX_XOFF_C7, O.SA_STAT_TX_LOST, O.CALLROOM_OCCUPANCY, O.CALLROOM_PEAK, O.QUEUE_OCCUPANCY, O.QUEUE_NODE,
  O.BUFP_USED_CELLS, O.BUF_HEADROOM_USED, O.PMC_VALUE, O.PMC_STATUS, F.draws, F.out, F.pcieDma, F.pciePending,
  F.pipe, F.queues, F.nodes, F.pairs, F.ports, F.laps, F.pmc]

theorem Device.discardZeroed_keeps {W : List Nat} {a : Device} {d : Device} {f : Frame} (hW : Sub Touch.discardZeroed W) (h : Keeps W a d) :
    Keeps W a (Device.discardZeroed d f) := by
  unfold Device.discardZeroed
  try dsimp only
  repeat' first
    | with_reducible exact h | exact memT (by decide +kernel) hW | with_reducible refine Device.inc64_keeps ?_ ?_
    | with_reducible refine Device.cutShort_keeps (subT (by decide +kernel) hW) ?_

def Touch.zeroSa : List Nat :=
  [O.LOCK, O.GROUP_OWNER, O.GROUP_STATE, O.GROUP_WRITES, O.GROUP_FAIL_ADDRESS, O.GROUP_FLAGS, O.SESSION_STATE,
  O.SESSION_ROLE, O.SESSION_CA, O.SESSION_ID, O.SESSION_LAST_COUNTER, O.RING_ENABLE, O.RING_HEAD, O.RING_TAIL,
  O.RING_STATE, O.RING_COMPLETED, O.RING_REJECTED, O.INJECT_REFUSED, O.RUNAHEAD_FALSE_STARTS,
  O.RUNAHEAD_WASTED_CELLS, O.BANK_DISCARDS, O.GUN_STATE, O.GUN_OWNER, O.GUN_FLAGS, O.PORT_FC_TX_XOFF_C0,
  O.PORT_FC_TX_XOFF_C1, O.PORT_FC_TX_XOFF_C2, O.PORT_FC_TX_XOFF_C3, O.PORT_FC_TX_XOFF_C4, O.PORT_FC_TX_XOFF_C5,
  O.PORT_FC_TX_XOFF_C6, O.PORT_FC_TX_XOFF_C7, O.SC_STATUS, O.SA_STATE, O.SA_SLOT, O.SA_FLAGS, O.SA_CHANGED_AT,
  O.SCSA_SLOT0_ROW, O.SCSA_SLOT1_ROW, O.SCSA_IN_FORCE_AN, O.SCSA_ZONE_OPEN, O.SA_STAT_PKTS, O.SA_STAT_OCTETS,
  O.SA_STAT_PKTS_ENCRYPTED, O.SA_STAT_NOT_VALID, O.SA_STAT_COMMIT_LATE, O.SA_STAT_TX_LOST, O.CALLROOM_OCCUPANCY,
  O.CALLROOM_PEAK, O.QUEUE_OCCUPANCY, O.QUEUE_NODE, O.BUFP_USED_CELLS, O.BUF_HEADROOM_USED, O.FLT_SRC_EVENTS,
  O.FLT_SRC_LAST_AT, O.FLT_LOG_LAST_SEQ, O.FLT_LOG_OVERWRITTEN, O.FLT_EVENT_LOST, O.FLT_FIRST_SEVERE,
  O.FLT_LOG_RECORD, O.PMC_VALUE, O.PMC_STATUS, F.draws, F.out, F.sess, F.groups, F.ring, F.pcieDma, F.pciePending,
  F.faults, F.saRecs, F.saCtxs, F.banks, F.pipe, F.clsx, F.queues, F.nodes, F.pairs, F.ports, F.laps, F.pmc]

theorem Device.zeroSa_keeps {W : List Nat} {a : Device} {d : Device} {pr : Nat} (hW : Sub Touch.zeroSa W) (h : Keeps W a d) :
    Keeps W a (Device.zeroSa d pr) := by
  unfold Device.zeroSa
  try dsimp only
  repeat' first
    | with_reducible exact h | with_reducible assumption | exact memT (by decide +kernel) hW
    | with_reducible apply Keeps.ite | with_reducible apply Keeps.elim | with_reducible apply Keeps.foldl
    | with_reducible refine Device.gunCancel_keeps (subT (by decide +kernel) hW) ?_
    | with_reducible refine Device.wrBit_keeps ?_ ?_
    | with_reducible refine Device.discardZeroed_keeps (subT (by decide +kernel) hW) ?_
    | with_reducible refine Device.freeSlotOf_keeps (subT (by decide +kernel) hW) ?_
    | with_reducible refine Device.setRec_keeps (subT (by decide +kernel) hW) ?_
    | with_reducible refine Device.clearStats_keeps (subT (by decide +kernel) hW) ?_
    | with_reducible refine Device.setSaState_keeps (subT (by decide +kernel) hW) ?_
    | with_reducible refine Device.wr_keeps ?_ ?_
    | with_reducible refine Device.refreshSc_keeps (subT (by decide +kernel) hW) ?_ | intro _ _ hq | intro _ | split

def Touch.zeroKeys : List Nat :=
  [O.LOCK, O.GROUP_OWNER, O.GROUP_STATE, O.GROUP_WRITES, O.GROUP_FAIL_ADDRESS, O.GROUP_FLAGS, O.SESSION_STATE,
  O.SESSION_ROLE, O.SESSION_CA, O.SESSION_ID, O.SESSION_LAST_COUNTER, O.ROLE_ROOT, O.RING_ENABLE, O.RING_HEAD,
  O.RING_TAIL, O.RING_STATE, O.RING_COMPLETED, O.RING_REJECTED, O.INJECT_REFUSED, O.RUNAHEAD_FALSE_STARTS,
  O.RUNAHEAD_WASTED_CELLS, O.BANK_DISCARDS, O.VAULT_STATE, O.VAULT_HANDLE, O.VAULT_LEVEL, O.VAULT_PURPOSE,
  O.VAULT_KEY_BITS, O.VAULT_COUNTED, O.VAULT_USES_LEFT, O.VAULT_ORIGIN, O.VAULT_PARENT, O.VAULT_CREATED_AT,
  O.VAULT_ARG_KEY, O.VAULT_RESULT_HANDLE, O.GUN_STATE, O.GUN_OWNER, O.GUN_FLAGS, O.PORT_FC_TX_XOFF_C0,
  O.PORT_FC_TX_XOFF_C1, O.PORT_FC_TX_XOFF_C2, O.PORT_FC_TX_XOFF_C3, O.PORT_FC_TX_XOFF_C4, O.PORT_FC_TX_XOFF_C5,
  O.PORT_FC_TX_XOFF_C6, O.PORT_FC_TX_XOFF_C7, O.SC_STATUS, O.SA_STATE, O.SA_KEK, O.SA_SLOT, O.SA_FLAGS,
  O.SA_CHANGED_AT, O.SCSA_SLOT0_ROW, O.SCSA_SLOT1_ROW, O.SCSA_IN_FORCE_AN, O.SCSA_ZONE_OPEN, O.SA_STAT_PKTS,
  O.SA_STAT_OCTETS, O.SA_STAT_PKTS_ENCRYPTED, O.SA_STAT_NOT_VALID, O.SA_STAT_COMMIT_LATE, O.SA_STAT_TX_LOST,
  O.CALLROOM_OCCUPANCY, O.CALLROOM_PEAK, O.QUEUE_OCCUPANCY, O.QUEUE_NODE, O.BUFP_USED_CELLS, O.BUF_HEADROOM_USED,
  O.FLT_SRC_EVENTS, O.FLT_SRC_LAST_AT, O.FLT_LOG_LAST_SEQ, O.FLT_LOG_OVERWRITTEN, O.FLT_EVENT_LOST,
  O.FLT_FIRST_SEVERE, O.FLT_LOG_RECORD, O.PMC_VALUE, O.PMC_STATUS, O.PEER_KEY, F.draws, F.out, F.sess, F.groups,
  F.ring, F.pcieDma, F.pciePending, F.faults, F.vault, F.saRecs, F.saCtxs, F.banks, F.pipe, F.clsx, F.queues,
  F.nodes, F.pairs, F.ports, F.laps, F.pmc]

theorem Device.zeroKeys_keeps {W : List Nat} {a : Device} {d : Device} (hW : Sub Touch.zeroKeys W) (h : Keeps W a d) :
    Keeps W a (Device.zeroKeys d) := by
  unfold Device.zeroKeys
  try dsimp only
  repeat' first
    | with_reducible exact h | with_reducible assumption | with_reducible apply Keeps.foldl
    | with_reducible refine Device.zeroSa_keeps (subT (by decide +kernel) hW) ?_
    | with_reducible refine Device.zeroSlot_keeps (subT (by decide +kernel) hW) ?_ | intro _ _ hq | intro _

def Touch.zeroAll : List Nat :=
  Touch.zeroKeys

theorem Device.zeroAll_keeps {W : List Nat} {a : Device} {d : Device} (hW : Sub Touch.zeroAll W) (h : Keeps W a d) :
    Keeps W a (Device.zeroAll d) := by
  unfold Device.zeroAll
  try dsimp only
  repeat' first
    | with_reducible exact h | with_reducible refine Device.zeroKeys_keeps (subT (by decide +kernel) hW) ?_
    | with_reducible refine Device.closeSessions_keeps (subT (by decide +kernel) hW) ?_

def Touch.setKeys : List Nat :=
  [F.checkKey, F.storeKey, F.keyTests, F.keyRestart, F.keyScrub, F.keyScrubFrom, F.keyReseed, F.keyRequests]

theorem Device.setKeys_keeps {W : List Nat} {a d : Device} {x : KeysX} (hW : Sub Touch.setKeys W) (h : Keeps W a d)
    (hx : x.vault = d.keys.vault) : Keeps W a (d.setKeys x) :=
  h.same rfl rfl (fun k hk => by
    unfold sameField
    split <;> first | exact hx | exact absurd (memF (by decide +kernel) hW) hk | rfl | trivial)

def Touch.zeroPerBoot : List Nat :=
  [O.DRBG_STATE, F.checkKey, F.storeKey, F.keyTests, F.keyRestart, F.keyScrub, F.keyScrubFrom, F.keyReseed,
  F.keyRequests]

theorem Device.zeroPerBoot_keeps {W : List Nat} {a : Device} {d : Device} (hW : Sub Touch.zeroPerBoot W) (h : Keeps W a d) :
    Keeps W a (Device.zeroPerBoot d) := by
  unfold Device.zeroPerBoot
  try dsimp only
  repeat' first
    | with_reducible exact h | exact memT (by decide +kernel) hW
    | with_reducible refine Device.setKeys_keeps (subT (by decide +kernel) hW) ?_ rfl
    | with_reducible refine Device.wr_keeps ?_ ?_

def Touch.setModeField : List Nat :=
  [F.mode]

theorem Device.setModeField_keeps {W : List Nat} {a : Device} {d : Device} {m : Mode} (hW : Sub Touch.setModeField W) (h : Keeps W a d) :
    Keeps W a (Device.setModeField d m) := 
  h.same rfl rfl (fun k hk => by
    unfold sameField
    split <;> first | rfl | exact absurd (memF (by decide +kernel) hW) hk | trivial)

def Touch.enterMode : List Nat :=
  [O.MODE, O.MODE_ENTERED_AT, O.MODE_CAUSE, F.mode]

theorem Device.enterMode_keeps {W : List Nat} {a : Device} {d : Device} {m : Mode} {cause : Nat} (hW : Sub Touch.enterMode W) (h : Keeps W a d) :
    Keeps W a (Device.enterMode d m cause) := by
  unfold Device.enterMode
  try dsimp only
  repeat' first
    | with_reducible exact h | exact memT (by decide +kernel) hW
    | with_reducible refine Device.setModeField_keeps (subT (by decide +kernel) hW) ?_
    | with_reducible refine Device.wr_keeps ?_ ?_

def Touch.overruleMode : List Nat :=
  [O.MODE_CMD]

theorem Device.overruleMode_keeps {W : List Nat} {a : Device} {d : Device} (hW : Sub Touch.overruleMode W) (h : Keeps W a d) :
    Keeps W a (Device.overruleMode d) := by
  unfold Device.overruleMode
  try dsimp only
  repeat' first
    | with_reducible exact h | exact memT (by decide +kernel) hW | with_reducible apply Keeps.ite
    | with_reducible refine Device.wr_keeps ?_ ?_ | split

def Touch.muteWindow : List Nat :=
  [F.ports]

theorem Device.muteWindow_keeps {W : List Nat} {a : Device} {d : Device} {p : Nat} (hW : Sub Touch.muteWindow W) (h : Keeps W a d) :
    Keeps W a (Device.muteWindow d p) := by
  unfold Device.muteWindow
  try dsimp only
  repeat' first
    | with_reducible exact h | with_reducible assumption | with_reducible apply Keeps.foldl
    | with_reducible refine Device.markHold_keeps (subT (by decide +kernel) hW) ?_ | intro _ _ hq | intro _

def Touch.muteWindows : List Nat :=
  [F.ports]

theorem Device.muteWindows_keeps {W : List Nat} {a : Device} {d : Device} (hW : Sub Touch.muteWindows W) (h : Keeps W a d) :
    Keeps W a (Device.muteWindows d) := by
  unfold Device.muteWindows
  try dsimp only
  repeat' first
    | with_reducible exact h | with_reducible assumption | with_reducible apply Keeps.foldl
    | with_reducible refine Device.muteWindow_keeps (subT (by decide +kernel) hW) ?_ | intro _ _ hq | intro _

def Touch.enterSafe : List Nat :=
  [O.LOCK, O.GROUP_OWNER, O.GROUP_STATE, O.GROUP_WRITES, O.GROUP_FAIL_ADDRESS, O.GROUP_FLAGS, O.SESSION_STATE,
  O.SESSION_ROLE, O.SESSION_CA, O.SESSION_ID, O.SESSION_LAST_COUNTER, O.RING_ENABLE, O.RING_HEAD, O.RING_TAIL,
  O.RING_STATE, O.RING_COMPLETED, O.RING_REJECTED, O.INJECT_REFUSED, O.MODE, O.MODE_CMD, O.MODE_ENTERED_AT,
  O.MODE_CAUSE, O.RUNAHEAD_FALSE_STARTS, O.RUNAHEAD_WASTED_CELLS, O.GUN_STATE, O.GUN_OWNER, O.GUN_FLAGS,
  O.PORT_TX_FRAMES, O.PORT_TX_BYTES, O.PORT_TX_TRUNCATED, O.PORT_FC_TX_XOFF_C0, O.PORT_FC_TX_XOFF_C1,
  O.PORT_FC_TX_XOFF_C2, O.PORT_FC_TX_XOFF_C3, O.PORT_FC_TX_XOFF_C4, O.PORT_FC_TX_XOFF_C5, O.PORT_FC_TX_XOFF_C6,
  O.PORT_FC_TX_XOFF_C7, O.SA_STAT_TX_LOST, O.CALLROOM_OCCUPANCY, O.CALLROOM_PEAK, O.QUEUE_OCCUPANCY, O.QUEUE_NODE,
  O.BUFP_USED_CELLS, O.BUF_HEADROOM_USED, O.FLT_SRC_EVENTS, O.FLT_SRC_LAST_AT, O.FLT_LOG_LAST_SEQ,
  O.FLT_LOG_OVERWRITTEN, O.FLT_EVENT_LOST, O.FLT_FIRST_SEVERE, O.FLT_LOG_RECORD, O.PMC_VALUE, O.PMC_STATUS, F.mode,
  F.out, F.sess, F.groups, F.ring, F.pcieDma, F.pciePending, F.faults, F.pipe, F.clsx, F.queues, F.nodes, F.pairs,
  F.ports, F.laps, F.pmc]

theorem Device.enterSafe_keeps {W : List Nat} {a : Device} {d : Device} (hW : Sub Touch.enterSafe W) (h : Keeps W a d) :
    Keeps W a (Device.enterSafe d) := by
  unfold Device.enterSafe
  try dsimp only
  repeat' first
    | with_reducible exact h | with_reducible assumption | with_reducible apply Keeps.elim
    | with_reducible refine Device.overruleMode_keeps (subT (by decide +kernel) hW) ?_
    | with_reducible refine Device.gunCancel_keeps (subT (by decide +kernel) hW) ?_
    | with_reducible refine Device.note_keeps (subT (by decide +kernel) hW) ?_
    | with_reducible refine Device.muteWindows_keeps (subT (by decide +kernel) hW) ?_
    | with_reducible refine Device.stopFrames_keeps (subT (by decide +kernel) hW) ?_
    | with_reducible refine Device.enterMode_keeps (subT (by decide +kernel) hW) ?_ | intro _ _ hq | intro _

def Touch.setHeld : List Nat :=
  [F.faults]

theorem Device.setHeld_keeps {W : List Nat} {a : Device} {d : Device} {src : Nat} {mask : Nat} (hW : Sub Touch.setHeld W) (h : Keeps W a d) :
    Keeps W a (Device.setHeld d src mask) := 
  h.same rfl rfl (fun k hk => by
    unfold sameField
    split <;> first | rfl | exact absurd (memF (by decide +kernel) hW) hk | trivial)

def Touch.refreshStatus : List Nat :=
  [O.FLT_STATUS]

theorem Device.refreshStatus_keeps {W : List Nat} {a : Device} {d : Device} (hW : Sub Touch.refreshStatus W) (h : Keeps W a d) :
    Keeps W a (Device.refreshStatus d) := by
  unfold Device.refreshStatus
  try dsimp only
  repeat' first
    | with_reducible exact h | with_reducible assumption | exact memT (by decide +kernel) hW
    | with_reducible apply Keeps.foldl | with_reducible refine Device.wrBit_keeps ?_ ?_
    | with_reducible apply Keeps.foldl2 | intro _ _ hq | intro _

def Touch.holdClasses : List Nat :=
  [O.FLT_SRC_CLASS, O.FLT_STATUS, F.faults]

theorem Device.holdClasses_keeps {W : List Nat} {a : Device} {d : Device} {src : Nat} {mask : Nat} (hW : Sub Touch.holdClasses W) (h : Keeps W a d) :
    Keeps W a (Device.holdClasses d src mask) := by
  unfold Device.holdClasses
  try dsimp only
  repeat' first
    | with_reducible exact h | exact memT (by decide +kernel) hW
    | with_reducible refine Device.setHeld_keeps (subT (by decide +kernel) hW) ?_
    | with_reducible refine Device.wr_keeps ?_ ?_
    | with_reducible refine Device.refreshStatus_keeps (subT (by decide +kernel) hW) ?_

def Touch.latch : List Nat :=
  Touch.holdClasses

theorem Device.latch_keeps {W : List Nat} {a : Device} {d : Device} {src : Nat} {cls : Nat} (hW : Sub Touch.latch W) (h : Keeps W a d) :
    Keeps W a (Device.latch d src cls) := by
  unfold Device.latch
  try dsimp only
  repeat' first
    | with_reducible exact h | with_reducible refine Device.holdClasses_keeps (subT (by decide +kernel) hW) ?_

def Touch.setLa : List Nat :=
  [F.la]

theorem Device.setLa_keeps {W : List Nat} {a : Device} {d : Device} {x : LaX} (hW : Sub Touch.setLa W) (h : Keeps W a d) :
    Keeps W a (Device.setLa d x) := 
  h.same rfl rfl (fun k hk => by
    unfold sameField
    split <;> first | rfl | exact absurd (memF (by decide +kernel) hW) hk | trivial)

def Touch.zeroReport : List Nat :=
  [O.LOCK, O.GROUP_OWNER, O.GROUP_STATE, O.GROUP_WRITES, O.GROUP_FAIL_ADDRESS, O.GROUP_FLAGS, O.SESSION_STATE,
  O.SESSION_ROLE, O.SESSION_CA, O.SESSION_ID, O.SESSION_LAST_COUNTER, O.RING_ENABLE, O.RING_HEAD, O.RING_TAIL,
  O.RING_STATE, O.RING_COMPLETED, O.RING_REJECTED, O.VAULT_CMD, O.GUN_STATE, O.GUN_OWNER, O.GUN_FLAGS,
  O.FLT_SRC_EVENTS, O.FLT_SRC_LAST_AT, O.FLT_LOG_LAST_SEQ, O.FLT_LOG_OVERWRITTEN, O.FLT_EVENT_LOST,
  O.FLT_FIRST_SEVERE, O.FLT_LOG_RECORD, O.PMC_VALUE, O.PMC_STATUS, F.out, F.sess, F.groups, F.ring, F.pcieDma,
  F.pciePending, F.faults, F.clsx, F.pmc]

theorem Device.zeroReport_keeps {W : List Nat} {a : Device} {d : Device} {e : Nat × Bool × List Nat} (hW : Sub Touch.zeroReport W) (h : Keeps W a d) :
    Keeps W a (Device.zeroReport d e) := by
  unfold Device.zeroReport
  try dsimp only
  repeat' first
    | with_reducible exact h | exact memT (by decide +kernel) hW | with_reducible apply Keeps.ite
    | with_reducible refine Device.wr_keeps ?_ ?_
    | with_reducible refine Device.closeSessions_keeps (subT (by decide +kernel) hW) ?_
    | with_reducible apply Keeps.ite2 | split

def Touch.jobGone : List Nat :=
  [O.LOCK, O.GROUP_OWNER, O.GROUP_STATE, O.GROUP_WRITES, O.GROUP_FAIL_ADDRESS, O.GROUP_FLAGS, O.SESSION_STATE,
  O.SESSION_ROLE, O.SESSION_CA, O.SESSION_ID, O.SESSION_LAST_COUNTER, O.RING_ENABLE, O.RING_HEAD, O.RING_TAIL,
  O.RING_STATE, O.RING_COMPLETED, O.RING_REJECTED, O.VAULT_CMD, O.GUN_STATE, O.GUN_OWNER, O.GUN_FLAGS,
  O.FLT_SRC_EVENTS, O.FLT_SRC_LAST_AT, O.FLT_LOG_LAST_SEQ, O.FLT_LOG_OVERWRITTEN, O.FLT_EVENT_LOST,
  O.FLT_FIRST_SEVERE, O.FLT_LOG_RECORD, O.PMC_VALUE, O.PMC_STATUS, F.out, F.sess, F.groups, F.ring, F.pcieDma,
  F.pciePending, F.faults, F.clsx, F.pmc, F.la]

theorem Device.jobGone_keeps {W : List Nat} {a : Device} {d : Device} {n : Nat} (hW : Sub Touch.jobGone W) (h : Keeps W a d) :
    Keeps W a (Device.jobGone d n) := by
  unfold Device.jobGone
  try dsimp only
  repeat' first
    | with_reducible exact h | with_reducible assumption | with_reducible apply Keeps.foldl
    | with_reducible refine Device.zeroReport_keeps (subT (by decide +kernel) hW) ?_
    | with_reducible refine Device.setLa_keeps (subT (by decide +kernel) hW) ?_ | with_reducible apply Keeps.foldl2
    | intro _ _ hq | intro _ | dsimp only

def Touch.stopJobs : List Nat :=
  [O.LOCK, O.GROUP_OWNER, O.GROUP_STATE, O.GROUP_WRITES, O.GROUP_FAIL_ADDRESS, O.GROUP_FLAGS, O.SESSION_STATE,
  O.SESSION_ROLE, O.SESSION_CA, O.SESSION_ID, O.SESSION_LAST_COUNTER, O.RING_ENABLE, O.RING_HEAD, O.RING_TAIL,
  O.RING_STATE, O.RING_COMPLETED, O.RING_REJECTED, O.VAULT_CMD, O.LA_CONTEXTS_BUSY, O.GUN_STATE, O.GUN_OWNER,
  O.GUN_FLAGS, O.FLT_SRC_EVENTS, O.FLT_SRC_LAST_AT, O.FLT_LOG_LAST_SEQ, O.FLT_LOG_OVERWRITTEN, O.FLT_EVENT_LOST,
  O.FLT_FIRST_SEVERE, O.FLT_LOG_RECORD, O.PMC_VALUE, O.PMC_STATUS, F.out, F.sess, F.groups, F.ring, F.pcieDma,
  F.pciePending, F.faults, F.clsx, F.pmc, F.la]

theorem Device.stopJobs_keeps {W : List Nat} {a : Device} {d : Device} (hW : Sub Touch.stopJobs W) (h : Keeps W a d) :
    Keeps W a (Device.stopJobs d) := by
  unfold Device.stopJobs
  try dsimp only
  repeat' first
    | with_reducible exact h | with_reducible assumption | exact memT (by decide +kernel) hW
    | with_reducible apply Keeps.foldl
    | with_reducible refine Device.dmaFinish_keeps (subT (by decide +kernel) hW) ?_
    | with_reducible refine Device.jobGone_keeps (subT (by decide +kernel) hW) ?_
    | with_reducible refine Device.setLa_keeps (subT (by decide +kernel) hW) ?_
    | with_reducible refine Device.wr_keeps ?_ ?_ | intro _ _ hq | intro _

def Touch.noRebuild : List Nat :=
  [F.lc]

theorem Device.noRebuild_keeps {W : List Nat} {a : Device} {d : Device} (hW : Sub Touch.noRebuild W) (h : Keeps W a d) :
    Keeps W a (Device.noRebuild d) := 
  h.same rfl rfl (fun k hk => by
    unfold sameField
    split <;> first | rfl | exact absurd (memF (by decide +kernel) hW) hk | trivial)

def Touch.fatalZeroize : List Nat :=
  [O.LOCK, O.GROUP_OWNER, O.GROUP_STATE, O.GROUP_WRITES, O.GROUP_FAIL_ADDRESS, O.GROUP_FLAGS, O.SESSION_STATE,
  O.SESSION_ROLE, O.SESSION_CA, O.SESSION_ID, O.SESSION_LAST_COUNTER, O.ROLE_ROOT, O.RING_ENABLE, O.RING_HEAD,
  O.RING_TAIL, O.RING_STATE, O.RING_COMPLETED, O.RING_REJECTED, O.INJECT_REFUSED, O.RUNAHEAD_FALSE_STARTS,
  O.RUNAHEAD_WASTED_CELLS, O.BANK_DISCARDS, O.VAULT_STATE, O.VAULT_HANDLE, O.VAULT_LEVEL, O.VAULT_PURPOSE,
  O.VAULT_KEY_BITS, O.VAULT_COUNTED, O.VAULT_USES_LEFT, O.VAULT_ORIGIN, O.VAULT_PARENT, O.VAULT_CREATED_AT,
  O.VAULT_ARG_KEY, O.VAULT_CMD, O.VAULT_RESULT_HANDLE, O.DRBG_STATE, O.LA_CONTEXTS_BUSY, O.GUN_STATE, O.GUN_OWNER,
  O.GUN_FLAGS, O.PORT_FC_TX_XOFF_C0, O.PORT_FC_TX_XOFF_C1, O.PORT_FC_TX_XOFF_C2, O.PORT_FC_TX_XOFF_C3,
  O.PORT_FC_TX_XOFF_C4, O.PORT_FC_TX_XOFF_C5, O.PORT_FC_TX_XOFF_C6, O.PORT_FC_TX_XOFF_C7, O.SC_STATUS, O.SA_STATE,
  O.SA_KEK, O.SA_SLOT, O.SA_FLAGS, O.SA_CHANGED_AT, O.SCSA_SLOT0_ROW, O.SCSA_SLOT1_ROW, O.SCSA_IN_FORCE_AN,
  O.SCSA_ZONE_OPEN, O.SA_STAT_PKTS, O.SA_STAT_OCTETS, O.SA_STAT_PKTS_ENCRYPTED, O.SA_STAT_NOT_VALID,
  O.SA_STAT_COMMIT_LATE, O.SA_STAT_TX_LOST, O.CALLROOM_OCCUPANCY, O.CALLROOM_PEAK, O.QUEUE_OCCUPANCY, O.QUEUE_NODE,
  O.BUFP_USED_CELLS, O.BUF_HEADROOM_USED, O.FLT_SRC_EVENTS, O.FLT_SRC_LAST_AT, O.FLT_FATAL_SINCE_BOOT,
  O.FLT_LOG_LAST_SEQ, O.FLT_LOG_OVERWRITTEN, O.FLT_EVENT_LOST, O.FLT_FIRST_SEVERE, O.FLT_LOG_RECORD, O.PMC_VALUE,
  O.PMC_STATUS, O.PEER_KEY, F.draws, F.out, F.sess, F.groups, F.ring, F.pcieDma, F.pciePending, F.faults, F.vault,
  F.checkKey, F.storeKey, F.keyTests, F.keyRestart, F.keyScrub, F.saRecs, F.saCtxs, F.banks, F.pipe, F.clsx,
  F.queues, F.nodes, F.pairs, F.ports, F.laps, F.pmc, F.lc, F.la, F.keyScrubFrom, F.keyReseed, F.keyRequests]

theorem Device.fatalZeroize_keeps {W : List Nat} {a : Device} {d : Device} (hW : Sub Touch.fatalZeroize W) (h : Keeps W a d) :
    Keeps W a (Device.fatalZeroize d) := by
  unfold Device.fatalZeroize
  try dsimp only
  repeat' first
    | with_reducible exact h | with_reducible assumption | exact memT (by decide +kernel) hW
    | with_reducible refine Device.noRebuild_keeps (subT (by decide +kernel) hW) ?_
    | with_reducible refine Device.stopJobs_keeps (subT (by decide +kernel) hW) ?_
    | with_reducible refine Device.zeroAll_keeps (subT (by decide +kernel) hW) ?_
    | with_reducible refine Device.zeroPerBoot_keeps (subT (by decide +kernel) hW) ?_
    | with_reducible refine Device.clearBanks_keeps (subT (by decide +kernel) hW) ?_
    | with_reducible refine Device.wr_keeps ?_ ?_ | intro _ _ hq | intro _

def Touch.react : List Nat :=
  [O.LOCK, O.GROUP_OWNER, O.GROUP_STATE, O.GROUP_WRITES, O.GROUP_FAIL_ADDRESS, O.GROUP_FLAGS, O.SESSION_STATE,
  O.SESSION_ROLE, O.SESSION_CA, O.SESSION_ID, O.SESSION_LAST_COUNTER, O.ROLE_ROOT, O.RING_ENABLE, O.RING_HEAD,
  O.RING_TAIL, O.RING_STATE, O.RING_COMPLETED, O.RING_REJECTED, O.INJECT_REFUSED, O.MODE, O.MODE_CMD,
  O.MODE_ENTERED_AT, O.MODE_CAUSE, O.RUNAHEAD_FALSE_STARTS, O.RUNAHEAD_WASTED_CELLS, O.BANK_DISCARDS,
  O.VAULT_STATE, O.VAULT_HANDLE, O.VAULT_LEVEL, O.VAULT_PURPOSE, O.VAULT_KEY_BITS, O.VAULT_COUNTED,
  O.VAULT_USES_LEFT, O.VAULT_ORIGIN, O.VAULT_PARENT, O.VAULT_CREATED_AT, O.VAULT_ARG_KEY, O.VAULT_CMD,
  O.VAULT_RESULT_HANDLE, O.DRBG_STATE, O.LA_CONTEXTS_BUSY, O.GUN_STATE, O.GUN_OWNER, O.GUN_FLAGS, O.PORT_TX_FRAMES,
  O.PORT_TX_BYTES, O.PORT_TX_TRUNCATED, O.PORT_FC_TX_XOFF_C0, O.PORT_FC_TX_XOFF_C1, O.PORT_FC_TX_XOFF_C2,
  O.PORT_FC_TX_XOFF_C3, O.PORT_FC_TX_XOFF_C4, O.PORT_FC_TX_XOFF_C5, O.PORT_FC_TX_XOFF_C6, O.PORT_FC_TX_XOFF_C7,
  O.SC_STATUS, O.SA_STATE, O.SA_KEK, O.SA_SLOT, O.SA_FLAGS, O.SA_CHANGED_AT, O.SCSA_SLOT0_ROW, O.SCSA_SLOT1_ROW,
  O.SCSA_IN_FORCE_AN, O.SCSA_ZONE_OPEN, O.SA_STAT_PKTS, O.SA_STAT_OCTETS, O.SA_STAT_PKTS_ENCRYPTED,
  O.SA_STAT_NOT_VALID, O.SA_STAT_COMMIT_LATE, O.SA_STAT_TX_LOST, O.CALLROOM_OCCUPANCY, O.CALLROOM_PEAK,
  O.QUEUE_OCCUPANCY, O.QUEUE_NODE, O.BUFP_USED_CELLS, O.BUF_HEADROOM_USED, O.FLT_SRC_EVENTS, O.FLT_SRC_LAST_AT,
  O.FLT_FATAL_SINCE_BOOT, O.FLT_LOG_LAST_SEQ, O.FLT_LOG_OVERWRITTEN, O.FLT_EVENT_LOST, O.FLT_FIRST_SEVERE,
  O.FLT_LOG_RECORD, O.PMC_VALUE, O.PMC_STATUS, O.PEER_KEY, F.mode, F.draws, F.out, F.sess, F.groups, F.ring,
  F.pcieDma, F.pciePending, F.faults, F.vault, F.checkKey, F.storeKey, F.keyTests, F.keyRestart, F.keyScrub,
  F.saRecs, F.saCtxs, F.banks, F.pipe, F.clsx, F.queues, F.nodes, F.pairs, F.ports, F.laps, F.pmc, F.lc, F.la,
  F.keyScrubFrom, F.keyReseed, F.keyRequests]

theorem Device.react_keeps {W : List Nat} {a : Device} {d : Device} {cls : Nat} (hW : Sub Touch.react W) (h : Keeps W a d) :
    Keeps W a (Device.react d cls) := by
  unfold Device.react
  try dsimp only
  repeat' first
    | with_reducible exact h | with_reducible apply Keeps.ite
    | with_reducible refine Device.enterSafe_keeps (subT (by decide +kernel) hW) ?_
    | with_reducible refine Device.fatalZeroize_keeps (subT (by decide +kernel) hW) ?_ | split

def Touch.fault : List Nat :=
  [O.LOCK, O.GROUP_OWNER, O.GROUP_STATE, O.GROUP_WRITES, O.GROUP_FAIL_ADDRESS, O.GROUP_FLAGS, O.SESSION_STATE,
  O.SESSION_ROLE, O.SESSION_CA, O.SESSION_ID, O.SESSION_LAST_COUNTER, O.ROLE_ROOT, O.RING_ENABLE, O.RING_HEAD,
  O.RING_TAIL, O.RING_STATE, O.RING_COMPLETED, O.RING_REJECTED, O.INJECT_REFUSED, O.MODE, O.MODE_CMD,
  O.MODE_ENTERED_AT, O.MODE_CAUSE, O.RUNAHEAD_FALSE_STARTS, O.RUNAHEAD_WASTED_CELLS, O.BANK_DISCARDS,
  O.VAULT_STATE, O.VAULT_HANDLE, O.VAULT_LEVEL, O.VAULT_PURPOSE, O.VAULT_KEY_BITS, O.VAULT_COUNTED,
  O.VAULT_USES_LEFT, O.VAULT_ORIGIN, O.VAULT_PARENT, O.VAULT_CREATED_AT, O.VAULT_ARG_KEY, O.VAULT_CMD,
  O.VAULT_RESULT_HANDLE, O.DRBG_STATE, O.LA_CONTEXTS_BUSY, O.GUN_STATE, O.GUN_OWNER, O.GUN_FLAGS, O.PORT_TX_FRAMES,
  O.PORT_TX_BYTES, O.PORT_TX_TRUNCATED, O.PORT_FC_TX_XOFF_C0, O.PORT_FC_TX_XOFF_C1, O.PORT_FC_TX_XOFF_C2,
  O.PORT_FC_TX_XOFF_C3, O.PORT_FC_TX_XOFF_C4, O.PORT_FC_TX_XOFF_C5, O.PORT_FC_TX_XOFF_C6, O.PORT_FC_TX_XOFF_C7,
  O.SC_STATUS, O.SA_STATE, O.SA_KEK, O.SA_SLOT, O.SA_FLAGS, O.SA_CHANGED_AT, O.SCSA_SLOT0_ROW, O.SCSA_SLOT1_ROW,
  O.SCSA_IN_FORCE_AN, O.SCSA_ZONE_OPEN, O.SA_STAT_PKTS, O.SA_STAT_OCTETS, O.SA_STAT_PKTS_ENCRYPTED,
  O.SA_STAT_NOT_VALID, O.SA_STAT_COMMIT_LATE, O.SA_STAT_TX_LOST, O.CALLROOM_OCCUPANCY, O.CALLROOM_PEAK,
  O.QUEUE_OCCUPANCY, O.QUEUE_NODE, O.BUFP_USED_CELLS, O.BUF_HEADROOM_USED, O.FLT_SRC_CLASS, O.FLT_SRC_EVENTS,
  O.FLT_SRC_LAST_AT, O.FLT_STATUS, O.FLT_FATAL_SINCE_BOOT, O.FLT_LOG_LAST_SEQ, O.FLT_LOG_OVERWRITTEN,
  O.FLT_EVENT_LOST, O.FLT_FIRST_SEVERE, O.FLT_LOG_RECORD, O.PMC_VALUE, O.PMC_STATUS, O.PEER_KEY, F.mode, F.draws,
  F.out, F.sess, F.groups, F.ring, F.pcieDma, F.pciePending, F.faults, F.vault, F.checkKey, F.storeKey, F.keyTests,
  F.keyRestart, F.keyScrub, F.saRecs, F.saCtxs, F.banks, F.pipe, F.clsx, F.queues, F.nodes, F.pairs, F.ports,
  F.laps, F.pmc, F.lc, F.la, F.keyScrubFrom, F.keyReseed, F.keyRequests]

theorem Device.fault_keeps {W : List Nat} {a : Device} {d : Device} {src : Nat} {code : Nat} {base : Nat} {detail : Bytes} (hW : Sub Touch.fault W) (h : Keeps W a d) :
    Keeps W a (Device.fault d src code base detail) := by
  unfold Device.fault
  try dsimp only
  repeat' first
    | with_reducible exact h | with_reducible apply Keeps.ite
    | with_reducible refine Device.addEvent_keeps (subT (by decide +kernel) hW) ?_
    | with_reducible refine Device.writeRecord_keeps (subT (by decide +kernel) hW) ?_
    | with_reducible refine Device.latch_keeps (subT (by decide +kernel) hW) ?_
    | with_reducible refine Device.react_keeps (subT (by decide +kernel) hW) ?_ | split

def Touch.faultUnit : List Nat :=
  Touch.fault

theorem Device.faultUnit_keeps {W : List Nat} {a : Device} {d : Device} {src : Nat} {cause : Nat} {unit : Nat} {base : Nat} (hW : Sub Touch.faultUnit W) (h : Keeps W a d) :
    Keeps W a (Device.faultUnit d src cause unit base) := by
  unfold Device.faultUnit
  try dsimp only
  repeat' first
    | with_reducible exact h | with_reducible refine Device.fault_keeps (subT (by decide +kernel) hW) ?_

def Touch.noteRow : List Nat :=
  Touch.ringEvent

theorem Device.noteRow_keeps {W : List Nat} {a : Device} {d : Device} {src : Nat} {cause : Nat} {unit : Nat} {row : Nat} (hW : Sub Touch.noteRow W) (h : Keeps W a d) :
    Keeps W a (Device.noteRow d src cause unit row) := by
  unfold Device.noteRow
  try dsimp only
  repeat' first
    | with_reducible exact h | with_reducible refine Device.note_keeps (subT (by decide +kernel) hW) ?_

def Touch.protEvent : List Nat :=
  Touch.ringEvent

theorem Device.protEvent_keeps {W : List Nat} {a : Device} {d : Device} {slice : Nat} {code : Nat} {sc : Nat} {an : Nat} {pn : Nat} (hW : Sub Touch.protEvent W) (h : Keeps W a d) :
    Keeps W a (Device.protEvent d slice code sc an pn) := by
  unfold Device.protEvent
  try dsimp only
  repeat' first
    | with_reducible exact h | with_reducible refine Device.writeRecord_keeps (subT (by decide +kernel) hW) ?_

end Sys2Proof.Machine
end

