-- ==== Sys2Proof/Laws/KeepsDictionary.lean ====
section
/-!
SUPPORT. The places that each operation of Machine/Dictionary.lean may change (Laws/Keeps.lean).
-/
set_option Elab.async false
set_option linter.all false
set_option linter.unusedTactic false
set_option linter.unreachableTactic false
set_option linter.style.longLine false
namespace Sys2Proof.Machine

def Touch.accept : List Nat :=
  [F.sess, F.lockRenewed]

theorem Device.accept_keeps {W : List Nat} {a : Device} {d : Device} {r : Req} (hW : Sub Touch.accept W) (h : Keeps W a d) :
    Keeps W a (Device.accept d r) := by
  unfold Device.accept
  try dsimp only
  repeat' first
    | with_reducible exact h | with_reducible assumption | with_reducible apply Keeps.ite
    | with_reducible refine Device.setSess_keeps (subT (by decide +kernel) hW) ?_
    | with_reducible refine Device.setLockRenewed_keeps (subT (by decide +kernel) hW) ?_ | split

def Touch.countRequest : List Nat :=
  Touch.pmcAdd

theorem Device.countRequest_keeps {W : List Nat} {a : Device} {d : Device} {r : Req} {role : Nat} {abort : Nat} (hW : Sub Touch.countRequest W) (h : Keeps W a d) :
    Keeps W a (Device.countRequest d r role abort) := by
  unfold Device.countRequest
  try dsimp only
  repeat' first
    | with_reducible exact h | with_reducible apply Keeps.ite
    | with_reducible refine Device.pmcHub_keeps (subT (by decide +kernel) hW) ?_ | split

def Touch.respond : List Nat :=
  Touch.pmcAdd

theorem Device.respond_keeps {W : List Nat} {a : Device} {d : Device} {r : Req} {role : Nat} {abort : Nat} {v : Bytes} (hW : Sub Touch.respond W) (h : Keeps W a d) :
    Keeps W a (Device.respond d r role abort v) := by
  unfold Device.respond
  try dsimp only
  repeat' first
    | with_reducible exact h | with_reducible refine Device.countRequest_keeps (subT (by decide +kernel) hW) ?_
    | with_reducible refine Device.emit_keeps (subT (by decide +kernel) hW) ?_

end Sys2Proof.Machine
end

