-- ==== Sys2Proof/Laws/KeepsEngine.lean ====
section
/-!
SUPPORT. The places that each operation of Machine/Engine.lean may change (Laws/Keeps.lean).
-/
set_option Elab.async false
set_option linter.all false
set_option linter.unusedTactic false
set_option linter.unreachableTactic false
set_option linter.style.longLine false
namespace Sys2Proof.Machine

theorem Device.setResult_keeps {W : List Nat} {a : Device} {d : Device} {o : Nat} {row : Nat} {abort : Nat} {status : Nat} {seq : Nat} (ho : Here o W) (h : Keeps W a d) :
    Keeps W a (Device.setResult d o row abort status seq) := by
  unfold Device.setResult
  try dsimp only
  repeat' first
    | with_reducible exact h | with_reducible exact ho | with_reducible refine Device.wr_keeps ?_ ?_

theorem Device.startCmd_keeps {W : List Nat} {a : Device} {d : Device} {o : Nat} {row : Nat} (ho : Here o W) (h : Keeps W a d) :
    Keeps W a (Device.startCmd d o row) := by
  unfold Device.startCmd
  try dsimp only
  repeat' first
    | with_reducible exact h | with_reducible exact ho | with_reducible refine Device.setResult_keeps ?_ ?_

theorem Device.endCmd_keeps {W : List Nat} {a : Device} {d : Device} {o : Nat} {row : Nat} {abort : Nat} (ho : Here o W) (h : Keeps W a d) :
    Keeps W a (Device.endCmd d o row abort) := by
  unfold Device.endCmd
  try dsimp only
  repeat' first
    | with_reducible exact h | with_reducible exact ho | with_reducible apply Keeps.ite
    | with_reducible refine Device.setResult_keeps ?_ ?_ | split

theorem Device.runCmd_keeps {W : List Nat} {a : Device} {r : Req} {o row : Nat} {c : Conds}
    {body : Device → Option Nat × Device} {d : Device} (ho : Here o W) (h : Keeps W a d)
    (hb : ∀ x, Keeps W a x → Keeps W a (body x).2) : Keeps W a (Device.runCmd r o row c body d).2 := by
  unfold Device.runCmd
  dsimp only
  split
  · exact h
  · exact Keeps.elim (hb _ (Device.startCmd_keeps ho h)) (fun _ => Device.endCmd_keeps ho (hb _ (Device.startCmd_keeps ho h)))

def Touch.direct : List Nat :=
  [O.PMC_VALUE, O.PMC_STATUS, F.out, F.sess, F.lockRenewed, F.pciePending, F.pmc]

theorem Device.direct_keeps {W : List Nat} {a : Device} {r : Req} {f : Device → Nat × Device} {d : Device}
    (hW : Sub Touch.direct W) (h : Keeps W a d) (hf : ∀ x, Keeps W a x → Keeps W a (f x).2) :
    Keeps W a (Device.direct r f d) := by
  have hx := hf _ (Device.accept_keeps (r := r) (subT (by decide +kernel) hW) h)
  unfold Device.direct
  exact Keeps.ite h (Keeps.ite (Device.respond_keeps (subT (by decide +kernel) hW) h)
    (Keeps.ite hx (Device.respond_keeps (subT (by decide +kernel) hW) hx)))

end Sys2Proof.Machine
end

