-- ==== Sys2Proof/Laws/KeepsKeystore.lean ====
section
/-!
SUPPORT. The places that each operation of Machine/Keystore.lean may change (Laws/Keeps.lean).
-/
set_option Elab.async false
set_option linter.all false
set_option linter.unusedTactic false
set_option linter.unreachableTactic false
set_option linter.style.longLine false
namespace Sys2Proof.Machine

def Touch.seeded : List Nat :=
  Touch.setKeys

theorem Device.seeded_keeps {W : List Nat} {a : Device} {d : Device} (hW : Sub Touch.seeded W) (h : Keeps W a d) :
    Keeps W a (Device.seeded d) := by
  unfold Device.seeded
  try dsimp only
  repeat' first
    | with_reducible exact h | with_reducible refine Device.setKeys_keeps (subT (by decide +kernel) hW) ?_ rfl

def Touch.drawBytes : List Nat :=
  [F.draws, F.checkKey, F.storeKey, F.keyTests, F.keyRestart, F.keyScrub, F.keyScrubFrom, F.keyReseed,
  F.keyRequests]

theorem Device.drawBytes_keeps {W : List Nat} {a : Device} {d : Device} {n : Nat} (hW : Sub Touch.drawBytes W) (h : Keeps W a d) :
    Keeps W a (Device.drawBytes d n).2 := by
  unfold Device.drawBytes
  try dsimp only
  repeat' first
    | with_reducible exact h | with_reducible refine Device.draw_keeps (subT (by decide +kernel) hW) ?_
    | with_reducible refine Device.setKeys_keeps (subT (by decide +kernel) hW) ?_ rfl

def Touch.vaultFails : List Nat :=
  [O.LOCK, O.GROUP_OWNER, O.GROUP_STATE, O.GROUP_WRITES, O.GROUP_FAIL_ADDRESS, O.GROUP_FLAGS, O.SESSION_STATE,
  O.SESSION_ROLE, O.SESSION_CA, O.SESSION_ID, O.SESSION_LAST_COUNTER, O.ROLE_ROOT, O.RING_ENABLE, O.RING_HEAD,
  O.RING_TAIL, O.RING_STATE, O.RING_COMPLETED, O.RING_REJECTED, O.INJECT_REFUSED, O.MODE, O.MODE_CMD,
  O.MODE_ENTERED_AT, O.MODE_CAUSE, O.RUNAHEAD_FALSE_STARTS, O.RUNAHEAD_WASTED_CELLS, O.BANK_DISCARDS,
  O.VAULT_STATE, O.VAULT_HANDLE, O.VAULT_LEVEL, O.VAULT_PURPOSE, O.VAULT_KEY_BITS, O.VAULT_COUNTED,
  O.VAULT_USES_LEFT, O.VAULT_ORIGIN, O.VAULT_PARENT, O.VAULT_CREATED_AT, O.VAULT_ARG_KEY, O.VAULT_CMD,
  O.VAULT_RESULT_HANDLE, O.VAULT_CHECK_FAILS, O.DRBG_STATE, O.LA_CONTEXTS_BUSY, O.GUN_STATE, O.GUN_OWNER,
  O.GUN_FLAGS, O.PORT_TX_FRAMES, O.PORT_TX_BYTES, O.PORT_TX_TRUNCATED, O.PORT_FC_TX_XOFF_C0, O.PORT_FC_TX_XOFF_C1,
  O.PORT_FC_TX_XOFF_C2, O.PORT_FC_TX_XOFF_C3, O.PORT_FC_TX_XOFF_C4, O.PORT_FC_TX_XOFF_C5, O.PORT_FC_TX_XOFF_C6,
  O.PORT_FC_TX_XOFF_C7, O.SC_STATUS, O.SA_STATE, O.SA_KEK, O.SA_SLOT, O.SA_FLAGS, O.SA_CHANGED_AT,
  O.SCSA_SLOT0_ROW, O.SCSA_SLOT1_ROW, O.SCSA_IN_FORCE_AN, O.SCSA_ZONE_OPEN, O.SA_STAT_PKTS, O.SA_STAT_OCTETS,
  O.SA_STAT_PKTS_ENCRYPTED, O.SA_STAT_NOT_VALID, O.SA_STAT_COMMIT_LATE, O.SA_STAT_TX_LOST, O.CALLROOM_OCCUPANCY,
  O.CALLROOM_PEAK, O.QUEUE_OCCUPANCY, O.QUEUE_NODE, O.BUFP_USED_CELLS, O.BUF_HEADROOM_USED, O.FLT_SRC_CLASS,
  O.FLT_SRC_EVENTS, O.FLT_SRC_LAST_AT, O.FLT_STATUS, O.FLT_FATAL_SINCE_BOOT, O.FLT_LOG_LAST_SEQ,
  O.FLT_LOG_OVERWRITTEN, O.FLT_EVENT_LOST, O.FLT_FIRST_SEVERE, O.FLT_LOG_RECORD, O.PMC_VALUE, O.PMC_STATUS,
  O.PEER_KEY, F.mode, F.draws, F.out, F.sess, F.groups, F.ring, F.pcieDma, F.pciePending, F.faults, F.vault,
  F.checkKey, F.storeKey, F.keyTests, F.keyRestart, F.keyScrub, F.saRecs, F.saCtxs, F.banks, F.pipe, F.clsx,
  F.queues, F.nodes, F.pairs, F.ports, F.laps, F.pmc, F.lc, F.la, F.keyScrubFrom, F.keyReseed, F.keyRequests]

theorem Device.vaultFails_keeps {W : List Nat} {a : Device} {d : Device} {k : Nat} (hW : Sub Touch.vaultFails W) (h : Keeps W a d) :
    Keeps W a (Device.vaultFails d k) := by
  unfold Device.vaultFails
  try dsimp only
  repeat' first
    | with_reducible exact h | exact memT (by decide +kernel) hW | with_reducible refine Device.wr_keeps ?_ ?_
    | with_reducible refine Device.inc32_keeps ?_ ?_
    | with_reducible refine Device.faultUnit_keeps (subT (by decide +kernel) hW) ?_

def Touch.slotUse : List Nat :=
  Touch.vaultFails

theorem Device.slotUse_keeps {W : List Nat} {a : Device} {d : Device} {k : Nat} (hW : Sub Touch.slotUse W) (h : Keeps W a d) :
    Keeps W a (Device.slotUse d k).2 := by
  unfold Device.slotUse
  try dsimp only
  repeat' first
    | with_reducible exact h | with_reducible apply Keeps.ite
    | with_reducible refine Device.vaultFails_keeps (subT (by decide +kernel) hW) ?_
    | with_reducible apply Keeps.ite2 | split

def Touch.takeUse : List Nat :=
  [O.VAULT_STATE, O.VAULT_USES_LEFT]

theorem Device.takeUse_keeps {W : List Nat} {a : Device} {d : Device} {k : Nat} (hW : Sub Touch.takeUse W) (h : Keeps W a d) :
    Keeps W a (Device.takeUse d k) := by
  unfold Device.takeUse
  try dsimp only
  repeat' first
    | with_reducible exact h | exact memT (by decide +kernel) hW | with_reducible apply Keeps.ite
    | with_reducible refine Device.wr_keeps ?_ ?_ | split

def Touch.fillSlot : List Nat :=
  [O.VAULT_STATE, O.VAULT_HANDLE, O.VAULT_LEVEL, O.VAULT_PURPOSE, O.VAULT_KEY_BITS, O.VAULT_COUNTED,
  O.VAULT_USES_LEFT, O.VAULT_ORIGIN, O.VAULT_PARENT, O.VAULT_CREATED_AT, O.LA_RANDOM_IV_JOBS, F.vault]

theorem Device.fillSlot_keeps {W : List Nat} {a : Device} {d : Device} {k : Nat} {key : Bytes} {bits : Nat} {level : Nat} {purpose : Nat} {uses : Nat} {origin : Nat} {parent : Nat} (hW : Sub Touch.fillSlot W) (h : Keeps W a d) :
    Keeps W a (Device.fillSlot d k key bits level purpose uses origin parent) := by
  unfold Device.fillSlot
  try dsimp only
  repeat' first
    | with_reducible exact h | exact memT (by decide +kernel) hW
    | with_reducible refine Device.setVault_keeps (subT (by decide +kernel) hW) ?_
    | with_reducible refine Device.wr_keeps ?_ ?_

end Sys2Proof.Machine
end

