-- ==== Sys2Proof/Laws/KeepsBuckets.lean ====
section
/-!
SUPPORT. The places that each operation of Machine/Buckets.lean may change (Laws/Keeps.lean).
-/
set_option Elab.async false
set_option linter.all false
set_option linter.unusedTactic false
set_option linter.unreachableTactic false
set_option linter.style.longLine false
namespace Sys2Proof.Machine

def Touch.refreshLevels : List Nat :=
  [F.queues]

theorem Device.refreshLevels_keeps {W : List Nat} {a : Device} {d : Device} {q : Nat} (hW : Sub Touch.refreshLevels W) (h : Keeps W a d) :
    Keeps W a (Device.refreshLevels d q) := by
  unfold Device.refreshLevels
  try dsimp only
  repeat' first
    | with_reducible exact h | with_reducible refine Device.setQueue_keeps (subT (by decide +kernel) hW) ?_

def Touch.charge : List Nat :=
  [F.queues]

theorem Device.charge_keeps {W : List Nat} {a : Device} {d : Device} {q : Nat} {i : Nat} {n : Int} (hW : Sub Touch.charge W) (h : Keeps W a d) :
    Keeps W a (Device.charge d q i n) := by
  unfold Device.charge
  try dsimp only
  repeat' first
    | with_reducible exact h | with_reducible refine Device.setQueue_keeps (subT (by decide +kernel) hW) ?_

end Sys2Proof.Machine
end

