-- ==== Sys2Proof/Laws/KeepsClockwork.lean ====
section
/-!
SUPPORT. The places that each operation of Machine/Clockwork.lean may change (Laws/Keeps.lean).
-/
set_option Elab.async false
set_option linter.all false
set_option linter.unusedTactic false
set_option linter.unreachableTactic false
set_option linter.style.longLine false
namespace Sys2Proof.Machine

def Touch.setClk : List Nat :=
  [F.clk]

theorem Device.setClk_keeps {W : List Nat} {a : Device} {d : Device} {c : Clock} (hW : Sub Touch.setClk W) (h : Keeps W a d) :
    Keeps W a (Device.setClk d c) := 
  h.same rfl rfl (fun k hk => by
    unfold sameField
    split <;> first | rfl | exact absurd (memF (by decide +kernel) hW) hk | trivial)

def Touch.setCyc : List Nat :=
  [F.cyc]

theorem Device.setCyc_keeps {W : List Nat} {a : Device} {d : Device} {n : Nat} (hW : Sub Touch.setCyc W) (h : Keeps W a d) :
    Keeps W a (Device.setCyc d n) := 
  h.same rfl rfl (fun k hk => by
    unfold sameField
    split <;> first | rfl | exact absurd (memF (by decide +kernel) hW) hk | trivial)

def Touch.emptySlots : List Nat :=
  Touch.pmcAdd

theorem Device.emptySlots_keeps {W : List Nat} {a : Device} {d : Device} {sd : Nat} {n : Nat} (hW : Sub Touch.emptySlots W) (h : Keeps W a d) :
    Keeps W a (Device.emptySlots d sd n) := by
  unfold Device.emptySlots
  try dsimp only
  repeat' first
    | with_reducible exact h | with_reducible apply Keeps.ite
    | with_reducible refine Device.pmcSlice_keeps (subT (by decide +kernel) hW) ?_ | split

def Touch.clocksOf : List Nat :=
  Touch.pmcAdd

theorem Device.clocksOf_keeps {W : List Nat} {a : Device} {n : Nat} {d : Device} {sd : Nat} (hW : Sub Touch.clocksOf W) (h : Keeps W a d) :
    Keeps W a (Device.clocksOf n d sd) := by
  unfold Device.clocksOf
  try dsimp only
  repeat' first
    | with_reducible exact h | with_reducible apply Keeps.ite
    | with_reducible refine Device.setSlotCells_keeps (subT (by decide +kernel) hW) ?_
    | with_reducible refine Device.pmcSlice_keeps (subT (by decide +kernel) hW) ?_
    | with_reducible refine Device.emptySlots_keeps (subT (by decide +kernel) hW) ?_ | split

def Touch.hubClocks : List Nat :=
  Touch.pmcAdd

theorem Device.hubClocks_keeps {W : List Nat} {a : Device} {d : Device} {n : Nat} (hW : Sub Touch.hubClocks W) (h : Keeps W a d) :
    Keeps W a (Device.hubClocks d n) := by
  unfold Device.hubClocks
  try dsimp only
  repeat' first
    | with_reducible exact h | with_reducible refine Device.setPmc_keeps (subT (by decide +kernel) hW) ?_
    | with_reducible refine Device.pmcHub_keeps (subT (by decide +kernel) hW) ?_

def Touch.advance : List Nat :=
  [O.PMC_VALUE, O.PMC_STATUS, F.cyc, F.clk, F.out, F.pciePending, F.pmc]

theorem Device.advance_keeps {W : List Nat} {a : Device} {d : Device} {n : Nat} (hW : Sub Touch.advance W) (h : Keeps W a d) :
    Keeps W a (Device.advance d n) := by
  unfold Device.advance
  try dsimp only
  repeat' first
    | with_reducible exact h | with_reducible assumption | with_reducible apply Keeps.foldl
    | with_reducible refine Device.clocksOf_keeps (subT (by decide +kernel) hW) ?_
    | with_reducible refine Device.hubClocks_keeps (subT (by decide +kernel) hW) ?_
    | with_reducible refine Device.setClk_keeps (subT (by decide +kernel) hW) ?_
    | with_reducible refine Device.setCyc_keeps (subT (by decide +kernel) hW) ?_ | intro _ _ hq | intro _

def Touch.passTo : List Nat :=
  Touch.advance

theorem Device.passTo_keeps {W : List Nat} {a : Device} {d : Device} {c : Nat} (hW : Sub Touch.passTo W) (h : Keeps W a d) :
    Keeps W a (Device.passTo d c) := by
  unfold Device.passTo
  try dsimp only
  repeat' first
    | with_reducible exact h | with_reducible apply Keeps.ite
    | with_reducible refine Device.advance_keeps (subT (by decide +kernel) hW) ?_ | split

end Sys2Proof.Machine
end

