-- ==== Sys2Proof/Laws/State.lean ====
section
/-!
SUPPORT. What each update of the device leaves alone: one lemma per field per update, true by definition, so that no later
proof unfolds a record update. A stored value is read past every update but a write (Laws/Keeps.lean has that one).
-/
set_option Elab.async false
set_option linter.all false
namespace Sys2Proof.Machine.Device
variable (d : Device)

@[simp] theorem wr_part (o : Nat) (r : Nat) (v : Nat) : (d.wr o r v).part = d.part := rfl
@[simp] theorem wr_mode (o : Nat) (r : Nat) (v : Nat) : (d.wr o r v).mode = d.mode := rfl
@[simp] theorem wr_clockOn (o : Nat) (r : Nat) (v : Nat) : (d.wr o r v).clockOn = d.clockOn := rfl
@[simp] theorem wr_boot (o : Nat) (r : Nat) (v : Nat) : (d.wr o r v).boot = d.boot := rfl
@[simp] theorem wr_resetLatch (o : Nat) (r : Nat) (v : Nat) : (d.wr o r v).resetLatch = d.resetLatch := rfl
@[simp] theorem wr_cyc (o : Nat) (r : Nat) (v : Nat) : (d.wr o r v).cyc = d.cyc := rfl
@[simp] theorem wr_clk (o : Nat) (r : Nat) (v : Nat) : (d.wr o r v).clk = d.clk := rfl
@[simp] theorem wr_edge (o : Nat) (r : Nat) (v : Nat) : (d.wr o r v).edge = d.edge := rfl
@[simp] theorem wr_draws (o : Nat) (r : Nat) (v : Nat) : (d.wr o r v).draws = d.draws := rfl
@[simp] theorem wr_out (o : Nat) (r : Nat) (v : Nat) : (d.wr o r v).out = d.out := rfl
@[simp] theorem wr_sess (o : Nat) (r : Nat) (v : Nat) : (d.wr o r v).sess = d.sess := rfl
@[simp] theorem wr_proofFails (o : Nat) (r : Nat) (v : Nat) : (d.wr o r v).proofFails = d.proofFails := rfl
@[simp] theorem wr_lockoutUntil (o : Nat) (r : Nat) (v : Nat) : (d.wr o r v).lockoutUntil = d.lockoutUntil := rfl
@[simp] theorem wr_lockRenewed (o : Nat) (r : Nat) (v : Nat) : (d.wr o r v).lockRenewed = d.lockRenewed := rfl
@[simp] theorem wr_groups (o : Nat) (r : Nat) (v : Nat) : (d.wr o r v).groups = d.groups := rfl
@[simp] theorem wr_ring (o : Nat) (r : Nat) (v : Nat) : (d.wr o r v).ring = d.ring := rfl
@[simp] theorem wr_pcie (o : Nat) (r : Nat) (v : Nat) : (d.wr o r v).pcie = d.pcie := rfl
@[simp] theorem wr_jtag (o : Nat) (r : Nat) (v : Nat) : (d.wr o r v).jtag = d.jtag := rfl
@[simp] theorem wr_pins (o : Nat) (r : Nat) (v : Nat) : (d.wr o r v).pins = d.pins := rfl
@[simp] theorem wr_acqAt (o : Nat) (r : Nat) (v : Nat) : (d.wr o r v).acqAt = d.acqAt := rfl
@[simp] theorem wr_drainAt (o : Nat) (r : Nat) (v : Nat) : (d.wr o r v).drainAt = d.drainAt := rfl
@[simp] theorem wr_gunSeq (o : Nat) (r : Nat) (v : Nat) : (d.wr o r v).gunSeq = d.gunSeq := rfl
@[simp] theorem wr_guns (o : Nat) (r : Nat) (v : Nat) : (d.wr o r v).guns = d.guns := rfl
@[simp] theorem wr_faults (o : Nat) (r : Nat) (v : Nat) : (d.wr o r v).faults = d.faults := rfl
@[simp] theorem wr_keys (o : Nat) (r : Nat) (v : Nat) : (d.wr o r v).keys = d.keys := rfl
@[simp] theorem wr_sas (o : Nat) (r : Nat) (v : Nat) : (d.wr o r v).sas = d.sas := rfl
@[simp] theorem wr_banks (o : Nat) (r : Nat) (v : Nat) : (d.wr o r v).banks = d.banks := rfl
@[simp] theorem wr_pipe (o : Nat) (r : Nat) (v : Nat) : (d.wr o r v).pipe = d.pipe := rfl
@[simp] theorem wr_clsx (o : Nat) (r : Nat) (v : Nat) : (d.wr o r v).clsx = d.clsx := rfl
@[simp] theorem wr_queues (o : Nat) (r : Nat) (v : Nat) : (d.wr o r v).queues = d.queues := rfl
@[simp] theorem wr_nodes (o : Nat) (r : Nat) (v : Nat) : (d.wr o r v).nodes = d.nodes := rfl
@[simp] theorem wr_pairs (o : Nat) (r : Nat) (v : Nat) : (d.wr o r v).pairs = d.pairs := rfl
@[simp] theorem wr_ports (o : Nat) (r : Nat) (v : Nat) : (d.wr o r v).ports = d.ports := rfl
@[simp] theorem wr_laps (o : Nat) (r : Nat) (v : Nat) : (d.wr o r v).laps = d.laps := rfl
@[simp] theorem wr_pmc (o : Nat) (r : Nat) (v : Nat) : (d.wr o r v).pmc = d.pmc := rfl
@[simp] theorem wr_mem (o : Nat) (r : Nat) (v : Nat) : (d.wr o r v).mem = d.mem := rfl
@[simp] theorem wr_otp (o : Nat) (r : Nat) (v : Nat) : (d.wr o r v).otp = d.otp := rfl
@[simp] theorem wr_flash (o : Nat) (r : Nat) (v : Nat) : (d.wr o r v).flash = d.flash := rfl
@[simp] theorem wr_lc (o : Nat) (r : Nat) (v : Nat) : (d.wr o r v).lc = d.lc := rfl
@[simp] theorem wr_fw (o : Nat) (r : Nat) (v : Nat) : (d.wr o r v).fw = d.fw := rfl
@[simp] theorem wr_att (o : Nat) (r : Nat) (v : Nat) : (d.wr o r v).att = d.att := rfl
@[simp] theorem wr_sram (o : Nat) (r : Nat) (v : Nat) : (d.wr o r v).sram = d.sram := rfl
@[simp] theorem wr_time (o : Nat) (r : Nat) (v : Nat) : (d.wr o r v).time = d.time := rfl
@[simp] theorem wr_mon (o : Nat) (r : Nat) (v : Nat) : (d.wr o r v).mon = d.mon := rfl
@[simp] theorem wr_la (o : Nat) (r : Nat) (v : Nat) : (d.wr o r v).la = d.la := rfl

@[simp] theorem draw_part : (d.draw).2.part = d.part := rfl
@[simp] theorem draw_mode : (d.draw).2.mode = d.mode := rfl
@[simp] theorem draw_clockOn : (d.draw).2.clockOn = d.clockOn := rfl
@[simp] theorem draw_boot : (d.draw).2.boot = d.boot := rfl
@[simp] theorem draw_resetLatch : (d.draw).2.resetLatch = d.resetLatch := rfl
@[simp] theorem draw_cyc : (d.draw).2.cyc = d.cyc := rfl
@[simp] theorem draw_clk : (d.draw).2.clk = d.clk := rfl
@[simp] theorem draw_edge : (d.draw).2.edge = d.edge := rfl
@[simp] theorem draw_dict : (d.draw).2.dict = d.dict := rfl
@[simp] theorem draw_out : (d.draw).2.out = d.out := rfl
@[simp] theorem draw_sess : (d.draw).2.sess = d.sess := rfl
@[simp] theorem draw_proofFails : (d.draw).2.proofFails = d.proofFails := rfl
@[simp] theorem draw_lockoutUntil : (d.draw).2.lockoutUntil = d.lockoutUntil := rfl
@[simp] theorem draw_lockRenewed : (d.draw).2.lockRenewed = d.lockRenewed := rfl
@[simp] theorem draw_groups : (d.draw).2.groups = d.groups := rfl
@[simp] theorem draw_ring : (d.draw).2.ring = d.ring := rfl
@[simp] theorem draw_pcie : (d.draw).2.pcie = d.pcie := rfl
@[simp] theorem draw_jtag : (d.draw).2.jtag = d.jtag := rfl
@[simp] theorem draw_pins : (d.draw).2.pins = d.pins := rfl
@[simp] theorem draw_acqAt : (d.draw).2.acqAt = d.acqAt := rfl
@[simp] theorem draw_drainAt : (d.draw).2.drainAt = d.drainAt := rfl
@[simp] theorem draw_gunSeq : (d.draw).2.gunSeq = d.gunSeq := rfl
@[simp] theorem draw_guns : (d.draw).2.guns = d.guns := rfl
@[simp] theorem draw_faults : (d.draw).2.faults = d.faults := rfl
@[simp] theorem draw_keys : (d.draw).2.keys = d.keys := rfl
@[simp] theorem draw_sas : (d.draw).2.sas = d.sas := rfl
@[simp] theorem draw_banks : (d.draw).2.banks = d.banks := rfl
@[simp] theorem draw_pipe : (d.draw).2.pipe = d.pipe := rfl
@[simp] theorem draw_clsx : (d.draw).2.clsx = d.clsx := rfl
@[simp] theorem draw_queues : (d.draw).2.queues = d.queues := rfl
@[simp] theorem draw_nodes : (d.draw).2.nodes = d.nodes := rfl
@[simp] theorem draw_pairs : (d.draw).2.pairs = d.pairs := rfl
@[simp] theorem draw_ports : (d.draw).2.ports = d.ports := rfl
@[simp] theorem draw_laps : (d.draw).2.laps = d.laps := rfl
@[simp] theorem draw_pmc : (d.draw).2.pmc = d.pmc := rfl
@[simp] theorem draw_mem : (d.draw).2.mem = d.mem := rfl
@[simp] theorem draw_otp : (d.draw).2.otp = d.otp := rfl
@[simp] theorem draw_flash : (d.draw).2.flash = d.flash := rfl
@[simp] theorem draw_lc : (d.draw).2.lc = d.lc := rfl
@[simp] theorem draw_fw : (d.draw).2.fw = d.fw := rfl
@[simp] theorem draw_att : (d.draw).2.att = d.att := rfl
@[simp] theorem draw_sram : (d.draw).2.sram = d.sram := rfl
@[simp] theorem draw_time : (d.draw).2.time = d.time := rfl
@[simp] theorem draw_mon : (d.draw).2.mon = d.mon := rfl
@[simp] theorem draw_la : (d.draw).2.la = d.la := rfl
@[simp] theorem draw_rd (o r : Nat) : (d.draw).2.rd o r = d.rd o r := rfl

@[simp] theorem unstated_part : (d.unstated).2.part = d.part := rfl
@[simp] theorem unstated_mode : (d.unstated).2.mode = d.mode := rfl
@[simp] theorem unstated_clockOn : (d.unstated).2.clockOn = d.clockOn := rfl
@[simp] theorem unstated_boot : (d.unstated).2.boot = d.boot := rfl
@[simp] theorem unstated_resetLatch : (d.unstated).2.resetLatch = d.resetLatch := rfl
@[simp] theorem unstated_cyc : (d.unstated).2.cyc = d.cyc := rfl
@[simp] theorem unstated_clk : (d.unstated).2.clk = d.clk := rfl
@[simp] theorem unstated_edge : (d.unstated).2.edge = d.edge := rfl
@[simp] theorem unstated_dict : (d.unstated).2.dict = d.dict := rfl
@[simp] theorem unstated_out : (d.unstated).2.out = d.out := rfl
@[simp] theorem unstated_sess : (d.unstated).2.sess = d.sess := rfl
@[simp] theorem unstated_proofFails : (d.unstated).2.proofFails = d.proofFails := rfl
@[simp] theorem unstated_lockoutUntil : (d.unstated).2.lockoutUntil = d.lockoutUntil := rfl
@[simp] theorem unstated_lockRenewed : (d.unstated).2.lockRenewed = d.lockRenewed := rfl
@[simp] theorem unstated_groups : (d.unstated).2.groups = d.groups := rfl
@[simp] theorem unstated_ring : (d.unstated).2.ring = d.ring := rfl
@[simp] theorem unstated_pcie : (d.unstated).2.pcie = d.pcie := rfl
@[simp] theorem unstated_jtag : (d.unstated).2.jtag = d.jtag := rfl
@[simp] theorem unstated_pins : (d.unstated).2.pins = d.pins := rfl
@[simp] theorem unstated_acqAt : (d.unstated).2.acqAt = d.acqAt := rfl
@[simp] theorem unstated_drainAt : (d.unstated).2.drainAt = d.drainAt := rfl
@[simp] theorem unstated_gunSeq : (d.unstated).2.gunSeq = d.gunSeq := rfl
@[simp] theorem unstated_guns : (d.unstated).2.guns = d.guns := rfl
@[simp] theorem unstated_faults : (d.unstated).2.faults = d.faults := rfl
@[simp] theorem unstated_keys : (d.unstated).2.keys = d.keys := rfl
@[simp] theorem unstated_sas : (d.unstated).2.sas = d.sas := rfl
@[simp] theorem unstated_banks : (d.unstated).2.banks = d.banks := rfl
@[simp] theorem unstated_pipe : (d.unstated).2.pipe = d.pipe := rfl
@[simp] theorem unstated_clsx : (d.unstated).2.clsx = d.clsx := rfl
@[simp] theorem unstated_queues : (d.unstated).2.queues = d.queues := rfl
@[simp] theorem unstated_nodes : (d.unstated).2.nodes = d.nodes := rfl
@[simp] theorem unstated_pairs : (d.unstated).2.pairs = d.pairs := rfl
@[simp] theorem unstated_ports : (d.unstated).2.ports = d.ports := rfl
@[simp] theorem unstated_laps : (d.unstated).2.laps = d.laps := rfl
@[simp] theorem unstated_pmc : (d.unstated).2.pmc = d.pmc := rfl
@[simp] theorem unstated_mem : (d.unstated).2.mem = d.mem := rfl
@[simp] theorem unstated_otp : (d.unstated).2.otp = d.otp := rfl
@[simp] theorem unstated_flash : (d.unstated).2.flash = d.flash := rfl
@[simp] theorem unstated_lc : (d.unstated).2.lc = d.lc := rfl
@[simp] theorem unstated_fw : (d.unstated).2.fw = d.fw := rfl
@[simp] theorem unstated_att : (d.unstated).2.att = d.att := rfl
@[simp] theorem unstated_sram : (d.unstated).2.sram = d.sram := rfl
@[simp] theorem unstated_time : (d.unstated).2.time = d.time := rfl
@[simp] theorem unstated_mon : (d.unstated).2.mon = d.mon := rfl
@[simp] theorem unstated_la : (d.unstated).2.la = d.la := rfl
@[simp] theorem unstated_rd (o r : Nat) : (d.unstated).2.rd o r = d.rd o r := rfl

@[simp] theorem emit_part (o : Out) : (d.emit o).part = d.part := rfl
@[simp] theorem emit_mode (o : Out) : (d.emit o).mode = d.mode := rfl
@[simp] theorem emit_clockOn (o : Out) : (d.emit o).clockOn = d.clockOn := rfl
@[simp] theorem emit_boot (o : Out) : (d.emit o).boot = d.boot := rfl
@[simp] theorem emit_resetLatch (o : Out) : (d.emit o).resetLatch = d.resetLatch := rfl
@[simp] theorem emit_cyc (o : Out) : (d.emit o).cyc = d.cyc := rfl
@[simp] theorem emit_clk (o : Out) : (d.emit o).clk = d.clk := rfl
@[simp] theorem emit_edge (o : Out) : (d.emit o).edge = d.edge := rfl
@[simp] theorem emit_draws (o : Out) : (d.emit o).draws = d.draws := rfl
@[simp] theorem emit_dict (o : Out) : (d.emit o).dict = d.dict := rfl
@[simp] theorem emit_sess (o : Out) : (d.emit o).sess = d.sess := rfl
@[simp] theorem emit_proofFails (o : Out) : (d.emit o).proofFails = d.proofFails := rfl
@[simp] theorem emit_lockoutUntil (o : Out) : (d.emit o).lockoutUntil = d.lockoutUntil := rfl
@[simp] theorem emit_lockRenewed (o : Out) : (d.emit o).lockRenewed = d.lockRenewed := rfl
@[simp] theorem emit_groups (o : Out) : (d.emit o).groups = d.groups := rfl
@[simp] theorem emit_ring (o : Out) : (d.emit o).ring = d.ring := rfl
@[simp] theorem emit_pcie (o : Out) : (d.emit o).pcie = d.pcie := rfl
@[simp] theorem emit_jtag (o : Out) : (d.emit o).jtag = d.jtag := rfl
@[simp] theorem emit_pins (o : Out) : (d.emit o).pins = d.pins := rfl
@[simp] theorem emit_acqAt (o : Out) : (d.emit o).acqAt = d.acqAt := rfl
@[simp] theorem emit_drainAt (o : Out) : (d.emit o).drainAt = d.drainAt := rfl
@[simp] theorem emit_gunSeq (o : Out) : (d.emit o).gunSeq = d.gunSeq := rfl
@[simp] theorem emit_guns (o : Out) : (d.emit o).guns = d.guns := rfl
@[simp] theorem emit_faults (o : Out) : (d.emit o).faults = d.faults := rfl
@[simp] theorem emit_keys (o : Out) : (d.emit o).keys = d.keys := rfl
@[simp] theorem emit_sas (o : Out) : (d.emit o).sas = d.sas := rfl
@[simp] theorem emit_banks (o : Out) : (d.emit o).banks = d.banks := rfl
@[simp] theorem emit_pipe (o : Out) : (d.emit o).pipe = d.pipe := rfl
@[simp] theorem emit_clsx (o : Out) : (d.emit o).clsx = d.clsx := rfl
@[simp] theorem emit_queues (o : Out) : (d.emit o).queues = d.queues := rfl
@[simp] theorem emit_nodes (o : Out) : (d.emit o).nodes = d.nodes := rfl
@[simp] theorem emit_pairs (o : Out) : (d.emit o).pairs = d.pairs := rfl
@[simp] theorem emit_ports (o : Out) : (d.emit o).ports = d.ports := rfl
@[simp] theorem emit_laps (o : Out) : (d.emit o).laps = d.laps := rfl
@[simp] theorem emit_pmc (o : Out) : (d.emit o).pmc = d.pmc := rfl
@[simp] theorem emit_mem (o : Out) : (d.emit o).mem = d.mem := rfl
@[simp] theorem emit_otp (o : Out) : (d.emit o).otp = d.otp := rfl
@[simp] theorem emit_flash (o : Out) : (d.emit o).flash = d.flash := rfl
@[simp] theorem emit_lc (o : Out) : (d.emit o).lc = d.lc := rfl
@[simp] theorem emit_fw (o : Out) : (d.emit o).fw = d.fw := rfl
@[simp] theorem emit_att (o : Out) : (d.emit o).att = d.att := rfl
@[simp] theorem emit_sram (o : Out) : (d.emit o).sram = d.sram := rfl
@[simp] theorem emit_time (o : Out) : (d.emit o).time = d.time := rfl
@[simp] theorem emit_mon (o : Out) : (d.emit o).mon = d.mon := rfl
@[simp] theorem emit_la (o : Out) : (d.emit o).la = d.la := rfl
@[simp] theorem emit_rd (o : Out) (i j : Nat) : (d.emit o).rd i j = d.rd i j := rfl

@[simp] theorem setSess_part (row : Nat) (x : SessX) : (d.setSess row x).part = d.part := rfl
@[simp] theorem setSess_mode (row : Nat) (x : SessX) : (d.setSess row x).mode = d.mode := rfl
@[simp] theorem setSess_clockOn (row : Nat) (x : SessX) : (d.setSess row x).clockOn = d.clockOn := rfl
@[simp] theorem setSess_boot (row : Nat) (x : SessX) : (d.setSess row x).boot = d.boot := rfl
@[simp] theorem setSess_resetLatch (row : Nat) (x : SessX) : (d.setSess row x).resetLatch = d.resetLatch := rfl
@[simp] theorem setSess_cyc (row : Nat) (x : SessX) : (d.setSess row x).cyc = d.cyc := rfl
@[simp] theorem setSess_clk (row : Nat) (x : SessX) : (d.setSess row x).clk = d.clk := rfl
@[simp] theorem setSess_edge (row : Nat) (x : SessX) : (d.setSess row x).edge = d.edge := rfl
@[simp] theorem setSess_draws (row : Nat) (x : SessX) : (d.setSess row x).draws = d.draws := rfl
@[simp] theorem setSess_dict (row : Nat) (x : SessX) : (d.setSess row x).dict = d.dict := rfl
@[simp] theorem setSess_out (row : Nat) (x : SessX) : (d.setSess row x).out = d.out := rfl
@[simp] theorem setSess_proofFails (row : Nat) (x : SessX) : (d.setSess row x).proofFails = d.proofFails := rfl
@[simp] theorem setSess_lockoutUntil (row : Nat) (x : SessX) : (d.setSess row x).lockoutUntil = d.lockoutUntil := rfl
@[simp] theorem setSess_lockRenewed (row : Nat) (x : SessX) : (d.setSess row x).lockRenewed = d.lockRenewed := rfl
@[simp] theorem setSess_groups (row : Nat) (x : SessX) : (d.setSess row x).groups = d.groups := rfl
@[simp] theorem setSess_ring (row : Nat) (x : SessX) : (d.setSess row x).ring = d.ring := rfl
@[simp] theorem setSess_pcie (row : Nat) (x : SessX) : (d.setSess row x).pcie = d.pcie := rfl
@[simp] theorem setSess_jtag (row : Nat) (x : SessX) : (d.setSess row x).jtag = d.jtag := rfl
@[simp] theorem setSess_pins (row : Nat) (x : SessX) : (d.setSess row x).pins = d.pins := rfl
@[simp] theorem setSess_acqAt (row : Nat) (x : SessX) : (d.setSess row x).acqAt = d.acqAt := rfl
@[simp] theorem setSess_drainAt (row : Nat) (x : SessX) : (d.setSess row x).drainAt = d.drainAt := rfl
@[simp] theorem setSess_gunSeq (row : Nat) (x : SessX) : (d.setSess row x).gunSeq = d.gunSeq := rfl
@[simp] theorem setSess_guns (row : Nat) (x : SessX) : (d.setSess row x).guns = d.guns := rfl
@[simp] theorem setSess_faults (row : Nat) (x : SessX) : (d.setSess row x).faults = d.faults := rfl
@[simp] theorem setSess_keys (row : Nat) (x : SessX) : (d.setSess row x).keys = d.keys := rfl
@[simp] theorem setSess_sas (row : Nat) (x : SessX) : (d.setSess row x).sas = d.sas := rfl
@[simp] theorem setSess_banks (row : Nat) (x : SessX) : (d.setSess row x).banks = d.banks := rfl
@[simp] theorem setSess_pipe (row : Nat) (x : SessX) : (d.setSess row x).pipe = d.pipe := rfl
@[simp] theorem setSess_clsx (row : Nat) (x : SessX) : (d.setSess row x).clsx = d.clsx := rfl
@[simp] theorem setSess_queues (row : Nat) (x : SessX) : (d.setSess row x).queues = d.queues := rfl
@[simp] theorem setSess_nodes (row : Nat) (x : SessX) : (d.setSess row x).nodes = d.nodes := rfl
@[simp] theorem setSess_pairs (row : Nat) (x : SessX) : (d.setSess row x).pairs = d.pairs := rfl
@[simp] theorem setSess_ports (row : Nat) (x : SessX) : (d.setSess row x).ports = d.ports := rfl
@[simp] theorem setSess_laps (row : Nat) (x : SessX) : (d.setSess row x).laps = d.laps := rfl
@[simp] theorem setSess_pmc (row : Nat) (x : SessX) : (d.setSess row x).pmc = d.pmc := rfl
@[simp] theorem setSess_mem (row : Nat) (x : SessX) : (d.setSess row x).mem = d.mem := rfl
@[simp] theorem setSess_otp (row : Nat) (x : SessX) : (d.setSess row x).otp = d.otp := rfl
@[simp] theorem setSess_flash (row : Nat) (x : SessX) : (d.setSess row x).flash = d.flash := rfl
@[simp] theorem setSess_lc (row : Nat) (x : SessX) : (d.setSess row x).lc = d.lc := rfl
@[simp] theorem setSess_fw (row : Nat) (x : SessX) : (d.setSess row x).fw = d.fw := rfl
@[simp] theorem setSess_att (row : Nat) (x : SessX) : (d.setSess row x).att = d.att := rfl
@[simp] theorem setSess_sram (row : Nat) (x : SessX) : (d.setSess row x).sram = d.sram := rfl
@[simp] theorem setSess_time (row : Nat) (x : SessX) : (d.setSess row x).time = d.time := rfl
@[simp] theorem setSess_mon (row : Nat) (x : SessX) : (d.setSess row x).mon = d.mon := rfl
@[simp] theorem setSess_la (row : Nat) (x : SessX) : (d.setSess row x).la = d.la := rfl
@[simp] theorem setSess_rd (row : Nat) (x : SessX) (o r : Nat) : (d.setSess row x).rd o r = d.rd o r := rfl

@[simp] theorem setLockRenewed_part (n : Nat) : (d.setLockRenewed n).part = d.part := rfl
@[simp] theorem setLockRenewed_mode (n : Nat) : (d.setLockRenewed n).mode = d.mode := rfl
@[simp] theorem setLockRenewed_clockOn (n : Nat) : (d.setLockRenewed n).clockOn = d.clockOn := rfl
@[simp] theorem setLockRenewed_boot (n : Nat) : (d.setLockRenewed n).boot = d.boot := rfl
@[simp] theorem setLockRenewed_resetLatch (n : Nat) : (d.setLockRenewed n).resetLatch = d.resetLatch := rfl
@[simp] theorem setLockRenewed_cyc (n : Nat) : (d.setLockRenewed n).cyc = d.cyc := rfl
@[simp] theorem setLockRenewed_clk (n : Nat) : (d.setLockRenewed n).clk = d.clk := rfl
@[simp] theorem setLockRenewed_edge (n : Nat) : (d.setLockRenewed n).edge = d.edge := rfl
@[simp] theorem setLockRenewed_draws (n : Nat) : (d.setLockRenewed n).draws = d.draws := rfl
@[simp] theorem setLockRenewed_dict (n : Nat) : (d.setLockRenewed n).dict = d.dict := rfl
@[simp] theorem setLockRenewed_out (n : Nat) : (d.setLockRenewed n).out = d.out := rfl
@[simp] theorem setLockRenewed_sess (n : Nat) : (d.setLockRenewed n).sess = d.sess := rfl
@[simp] theorem setLockRenewed_proofFails (n : Nat) : (d.setLockRenewed n).proofFails = d.proofFails := rfl
@[simp] theorem setLockRenewed_lockoutUntil (n : Nat) : (d.setLockRenewed n).lockoutUntil = d.lockoutUntil := rfl
@[simp] theorem setLockRenewed_groups (n : Nat) : (d.setLockRenewed n).groups = d.groups := rfl
@[simp] theorem setLockRenewed_ring (n : Nat) : (d.setLockRenewed n).ring = d.ring := rfl
@[simp] theorem setLockRenewed_pcie (n : Nat) : (d.setLockRenewed n).pcie = d.pcie := rfl
@[simp] theorem setLockRenewed_jtag (n : Nat) : (d.setLockRenewed n).jtag = d.jtag := rfl
@[simp] theorem setLockRenewed_pins (n : Nat) : (d.setLockRenewed n).pins = d.pins := rfl
@[simp] theorem setLockRenewed_acqAt (n : Nat) : (d.setLockRenewed n).acqAt = d.acqAt := rfl
@[simp] theorem setLockRenewed_drainAt (n : Nat) : (d.setLockRenewed n).drainAt = d.drainAt := rfl
@[simp] theorem setLockRenewed_gunSeq (n : Nat) : (d.setLockRenewed n).gunSeq = d.gunSeq := rfl
@[simp] theorem setLockRenewed_guns (n : Nat) : (d.setLockRenewed n).guns = d.guns := rfl
@[simp] theorem setLockRenewed_faults (n : Nat) : (d.setLockRenewed n).faults = d.faults := rfl
@[simp] theorem setLockRenewed_keys (n : Nat) : (d.setLockRenewed n).keys = d.keys := rfl
@[simp] theorem setLockRenewed_sas (n : Nat) : (d.setLockRenewed n).sas = d.sas := rfl
@[simp] theorem setLockRenewed_banks (n : Nat) : (d.setLockRenewed n).banks = d.banks := rfl
@[simp] theorem setLockRenewed_pipe (n : Nat) : (d.setLockRenewed n).pipe = d.pipe := rfl
@[simp] theorem setLockRenewed_clsx (n : Nat) : (d.setLockRenewed n).clsx = d.clsx := rfl
@[simp] theorem setLockRenewed_queues (n : Nat) : (d.setLockRenewed n).queues = d.queues := rfl
@[simp] theorem setLockRenewed_nodes (n : Nat) : (d.setLockRenewed n).nodes = d.nodes := rfl
@[simp] theorem setLockRenewed_pairs (n : Nat) : (d.setLockRenewed n).pairs = d.pairs := rfl
@[simp] theorem setLockRenewed_ports (n : Nat) : (d.setLockRenewed n).ports = d.ports := rfl
@[simp] theorem setLockRenewed_laps (n : Nat) : (d.setLockRenewed n).laps = d.laps := rfl
@[simp] theorem setLockRenewed_pmc (n : Nat) : (d.setLockRenewed n).pmc = d.pmc := rfl
@[simp] theorem setLockRenewed_mem (n : Nat) : (d.setLockRenewed n).mem = d.mem := rfl
@[simp] theorem setLockRenewed_otp (n : Nat) : (d.setLockRenewed n).otp = d.otp := rfl
@[simp] theorem setLockRenewed_flash (n : Nat) : (d.setLockRenewed n).flash = d.flash := rfl
@[simp] theorem setLockRenewed_lc (n : Nat) : (d.setLockRenewed n).lc = d.lc := rfl
@[simp] theorem setLockRenewed_fw (n : Nat) : (d.setLockRenewed n).fw = d.fw := rfl
@[simp] theorem setLockRenewed_att (n : Nat) : (d.setLockRenewed n).att = d.att := rfl
@[simp] theorem setLockRenewed_sram (n : Nat) : (d.setLockRenewed n).sram = d.sram := rfl
@[simp] theorem setLockRenewed_time (n : Nat) : (d.setLockRenewed n).time = d.time := rfl
@[simp] theorem setLockRenewed_mon (n : Nat) : (d.setLockRenewed n).mon = d.mon := rfl
@[simp] theorem setLockRenewed_la (n : Nat) : (d.setLockRenewed n).la = d.la := rfl
@[simp] theorem setLockRenewed_rd (n : Nat) (o r : Nat) : (d.setLockRenewed n).rd o r = d.rd o r := rfl

@[simp] theorem setGroup_part (g : Nat) (x : GroupX) : (d.setGroup g x).part = d.part := rfl
@[simp] theorem setGroup_mode (g : Nat) (x : GroupX) : (d.setGroup g x).mode = d.mode := rfl
@[simp] theorem setGroup_clockOn (g : Nat) (x : GroupX) : (d.setGroup g x).clockOn = d.clockOn := rfl
@[simp] theorem setGroup_boot (g : Nat) (x : GroupX) : (d.setGroup g x).boot = d.boot := rfl
@[simp] theorem setGroup_resetLatch (g : Nat) (x : GroupX) : (d.setGroup g x).resetLatch = d.resetLatch := rfl
@[simp] theorem setGroup_cyc (g : Nat) (x : GroupX) : (d.setGroup g x).cyc = d.cyc := rfl
@[simp] theorem setGroup_clk (g : Nat) (x : GroupX) : (d.setGroup g x).clk = d.clk := rfl
@[simp] theorem setGroup_edge (g : Nat) (x : GroupX) : (d.setGroup g x).edge = d.edge := rfl
@[simp] theorem setGroup_draws (g : Nat) (x : GroupX) : (d.setGroup g x).draws = d.draws := rfl
@[simp] theorem setGroup_dict (g : Nat) (x : GroupX) : (d.setGroup g x).dict = d.dict := rfl
@[simp] theorem setGroup_out (g : Nat) (x : GroupX) : (d.setGroup g x).out = d.out := rfl
@[simp] theorem setGroup_sess (g : Nat) (x : GroupX) : (d.setGroup g x).sess = d.sess := rfl
@[simp] theorem setGroup_proofFails (g : Nat) (x : GroupX) : (d.setGroup g x).proofFails = d.proofFails := rfl
@[simp] theorem setGroup_lockoutUntil (g : Nat) (x : GroupX) : (d.setGroup g x).lockoutUntil = d.lockoutUntil := rfl
@[simp] theorem setGroup_lockRenewed (g : Nat) (x : GroupX) : (d.setGroup g x).lockRenewed = d.lockRenewed := rfl
@[simp] theorem setGroup_ring (g : Nat) (x : GroupX) : (d.setGroup g x).ring = d.ring := rfl
@[simp] theorem setGroup_pcie (g : Nat) (x : GroupX) : (d.setGroup g x).pcie = d.pcie := rfl
@[simp] theorem setGroup_jtag (g : Nat) (x : GroupX) : (d.setGroup g x).jtag = d.jtag := rfl
@[simp] theorem setGroup_pins (g : Nat) (x : GroupX) : (d.setGroup g x).pins = d.pins := rfl
@[simp] theorem setGroup_acqAt (g : Nat) (x : GroupX) : (d.setGroup g x).acqAt = d.acqAt := rfl
@[simp] theorem setGroup_drainAt (g : Nat) (x : GroupX) : (d.setGroup g x).drainAt = d.drainAt := rfl
@[simp] theorem setGroup_gunSeq (g : Nat) (x : GroupX) : (d.setGroup g x).gunSeq = d.gunSeq := rfl
@[simp] theorem setGroup_guns (g : Nat) (x : GroupX) : (d.setGroup g x).guns = d.guns := rfl
@[simp] theorem setGroup_faults (g : Nat) (x : GroupX) : (d.setGroup g x).faults = d.faults := rfl
@[simp] theorem setGroup_keys (g : Nat) (x : GroupX) : (d.setGroup g x).keys = d.keys := rfl
@[simp] theorem setGroup_sas (g : Nat) (x : GroupX) : (d.setGroup g x).sas = d.sas := rfl
@[simp] theorem setGroup_banks (g : Nat) (x : GroupX) : (d.setGroup g x).banks = d.banks := rfl
@[simp] theorem setGroup_pipe (g : Nat) (x : GroupX) : (d.setGroup g x).pipe = d.pipe := rfl
@[simp] theorem setGroup_clsx (g : Nat) (x : GroupX) : (d.setGroup g x).clsx = d.clsx := rfl
@[simp] theorem setGroup_queues (g : Nat) (x : GroupX) : (d.setGroup g x).queues = d.queues := rfl
@[simp] theorem setGroup_nodes (g : Nat) (x : GroupX) : (d.setGroup g x).nodes = d.nodes := rfl
@[simp] theorem setGroup_pairs (g : Nat) (x : GroupX) : (d.setGroup g x).pairs = d.pairs := rfl
@[simp] theorem setGroup_ports (g : Nat) (x : GroupX) : (d.setGroup g x).ports = d.ports := rfl
@[simp] theorem setGroup_laps (g : Nat) (x : GroupX) : (d.setGroup g x).laps = d.laps := rfl
@[simp] theorem setGroup_pmc (g : Nat) (x : GroupX) : (d.setGroup g x).pmc = d.pmc := rfl
@[simp] theorem setGroup_mem (g : Nat) (x : GroupX) : (d.setGroup g x).mem = d.mem := rfl
@[simp] theorem setGroup_otp (g : Nat) (x : GroupX) : (d.setGroup g x).otp = d.otp := rfl
@[simp] theorem setGroup_flash (g : Nat) (x : GroupX) : (d.setGroup g x).flash = d.flash := rfl
@[simp] theorem setGroup_lc (g : Nat) (x : GroupX) : (d.setGroup g x).lc = d.lc := rfl
@[simp] theorem setGroup_fw (g : Nat) (x : GroupX) : (d.setGroup g x).fw = d.fw := rfl
@[simp] theorem setGroup_att (g : Nat) (x : GroupX) : (d.setGroup g x).att = d.att := rfl
@[simp] theorem setGroup_sram (g : Nat) (x : GroupX) : (d.setGroup g x).sram = d.sram := rfl
@[simp] theorem setGroup_time (g : Nat) (x : GroupX) : (d.setGroup g x).time = d.time := rfl
@[simp] theorem setGroup_mon (g : Nat) (x : GroupX) : (d.setGroup g x).mon = d.mon := rfl
@[simp] theorem setGroup_la (g : Nat) (x : GroupX) : (d.setGroup g x).la = d.la := rfl
@[simp] theorem setGroup_rd (g : Nat) (x : GroupX) (o r : Nat) : (d.setGroup g x).rd o r = d.rd o r := rfl

@[simp] theorem setWin_part (w : Nat) (x : WinReg) : (d.setWin w x).part = d.part := rfl
@[simp] theorem setWin_mode (w : Nat) (x : WinReg) : (d.setWin w x).mode = d.mode := rfl
@[simp] theorem setWin_clockOn (w : Nat) (x : WinReg) : (d.setWin w x).clockOn = d.clockOn := rfl
@[simp] theorem setWin_boot (w : Nat) (x : WinReg) : (d.setWin w x).boot = d.boot := rfl
@[simp] theorem setWin_resetLatch (w : Nat) (x : WinReg) : (d.setWin w x).resetLatch = d.resetLatch := rfl
@[simp] theorem setWin_cyc (w : Nat) (x : WinReg) : (d.setWin w x).cyc = d.cyc := rfl
@[simp] theorem setWin_clk (w : Nat) (x : WinReg) : (d.setWin w x).clk = d.clk := rfl
@[simp] theorem setWin_edge (w : Nat) (x : WinReg) : (d.setWin w x).edge = d.edge := rfl
@[simp] theorem setWin_draws (w : Nat) (x : WinReg) : (d.setWin w x).draws = d.draws := rfl
@[simp] theorem setWin_dict (w : Nat) (x : WinReg) : (d.setWin w x).dict = d.dict := rfl
@[simp] theorem setWin_out (w : Nat) (x : WinReg) : (d.setWin w x).out = d.out := rfl
@[simp] theorem setWin_sess (w : Nat) (x : WinReg) : (d.setWin w x).sess = d.sess := rfl
@[simp] theorem setWin_proofFails (w : Nat) (x : WinReg) : (d.setWin w x).proofFails = d.proofFails := rfl
@[simp] theorem setWin_lockoutUntil (w : Nat) (x : WinReg) : (d.setWin w x).lockoutUntil = d.lockoutUntil := rfl
@[simp] theorem setWin_lockRenewed (w : Nat) (x : WinReg) : (d.setWin w x).lockRenewed = d.lockRenewed := rfl
@[simp] theorem setWin_groups (w : Nat) (x : WinReg) : (d.setWin w x).groups = d.groups := rfl
@[simp] theorem setWin_ring (w : Nat) (x : WinReg) : (d.setWin w x).ring = d.ring := rfl
@[simp] theorem setWin_jtag (w : Nat) (x : WinReg) : (d.setWin w x).jtag = d.jtag := rfl
@[simp] theorem setWin_pins (w : Nat) (x : WinReg) : (d.setWin w x).pins = d.pins := rfl
@[simp] theorem setWin_acqAt (w : Nat) (x : WinReg) : (d.setWin w x).acqAt = d.acqAt := rfl
@[simp] theorem setWin_drainAt (w : Nat) (x : WinReg) : (d.setWin w x).drainAt = d.drainAt := rfl
@[simp] theorem setWin_gunSeq (w : Nat) (x : WinReg) : (d.setWin w x).gunSeq = d.gunSeq := rfl
@[simp] theorem setWin_guns (w : Nat) (x : WinReg) : (d.setWin w x).guns = d.guns := rfl
@[simp] theorem setWin_faults (w : Nat) (x : WinReg) : (d.setWin w x).faults = d.faults := rfl
@[simp] theorem setWin_keys (w : Nat) (x : WinReg) : (d.setWin w x).keys = d.keys := rfl
@[simp] theorem setWin_sas (w : Nat) (x : WinReg) : (d.setWin w x).sas = d.sas := rfl
@[simp] theorem setWin_banks (w : Nat) (x : WinReg) : (d.setWin w x).banks = d.banks := rfl
@[simp] theorem setWin_pipe (w : Nat) (x : WinReg) : (d.setWin w x).pipe = d.pipe := rfl
@[simp] theorem setWin_clsx (w : Nat) (x : WinReg) : (d.setWin w x).clsx = d.clsx := rfl
@[simp] theorem setWin_queues (w : Nat) (x : WinReg) : (d.setWin w x).queues = d.queues := rfl
@[simp] theorem setWin_nodes (w : Nat) (x : WinReg) : (d.setWin w x).nodes = d.nodes := rfl
@[simp] theorem setWin_pairs (w : Nat) (x : WinReg) : (d.setWin w x).pairs = d.pairs := rfl
@[simp] theorem setWin_ports (w : Nat) (x : WinReg) : (d.setWin w x).ports = d.ports := rfl
@[simp] theorem setWin_laps (w : Nat) (x : WinReg) : (d.setWin w x).laps = d.laps := rfl
@[simp] theorem setWin_pmc (w : Nat) (x : WinReg) : (d.setWin w x).pmc = d.pmc := rfl
@[simp] theorem setWin_mem (w : Nat) (x : WinReg) : (d.setWin w x).mem = d.mem := rfl
@[simp] theorem setWin_otp (w : Nat) (x : WinReg) : (d.setWin w x).otp = d.otp := rfl
@[simp] theorem setWin_flash (w : Nat) (x : WinReg) : (d.setWin w x).flash = d.flash := rfl
@[simp] theorem setWin_lc (w : Nat) (x : WinReg) : (d.setWin w x).lc = d.lc := rfl
@[simp] theorem setWin_fw (w : Nat) (x : WinReg) : (d.setWin w x).fw = d.fw := rfl
@[simp] theorem setWin_att (w : Nat) (x : WinReg) : (d.setWin w x).att = d.att := rfl
@[simp] theorem setWin_sram (w : Nat) (x : WinReg) : (d.setWin w x).sram = d.sram := rfl
@[simp] theorem setWin_time (w : Nat) (x : WinReg) : (d.setWin w x).time = d.time := rfl
@[simp] theorem setWin_mon (w : Nat) (x : WinReg) : (d.setWin w x).mon = d.mon := rfl
@[simp] theorem setWin_la (w : Nat) (x : WinReg) : (d.setWin w x).la = d.la := rfl
@[simp] theorem setWin_rd (w : Nat) (x : WinReg) (o r : Nat) : (d.setWin w x).rd o r = d.rd o r := rfl

@[simp] theorem setDma_part (n : Nat) (x : DmaX) : (d.setDma n x).part = d.part := rfl
@[simp] theorem setDma_mode (n : Nat) (x : DmaX) : (d.setDma n x).mode = d.mode := rfl
@[simp] theorem setDma_clockOn (n : Nat) (x : DmaX) : (d.setDma n x).clockOn = d.clockOn := rfl
@[simp] theorem setDma_boot (n : Nat) (x : DmaX) : (d.setDma n x).boot = d.boot := rfl
@[simp] theorem setDma_resetLatch (n : Nat) (x : DmaX) : (d.setDma n x).resetLatch = d.resetLatch := rfl
@[simp] theorem setDma_cyc (n : Nat) (x : DmaX) : (d.setDma n x).cyc = d.cyc := rfl
@[simp] theorem setDma_clk (n : Nat) (x : DmaX) : (d.setDma n x).clk = d.clk := rfl
@[simp] theorem setDma_edge (n : Nat) (x : DmaX) : (d.setDma n x).edge = d.edge := rfl
@[simp] theorem setDma_draws (n : Nat) (x : DmaX) : (d.setDma n x).draws = d.draws := rfl
@[simp] theorem setDma_dict (n : Nat) (x : DmaX) : (d.setDma n x).dict = d.dict := rfl
@[simp] theorem setDma_out (n : Nat) (x : DmaX) : (d.setDma n x).out = d.out := rfl
@[simp] theorem setDma_sess (n : Nat) (x : DmaX) : (d.setDma n x).sess = d.sess := rfl
@[simp] theorem setDma_proofFails (n : Nat) (x : DmaX) : (d.setDma n x).proofFails = d.proofFails := rfl
@[simp] theorem setDma_lockoutUntil (n : Nat) (x : DmaX) : (d.setDma n x).lockoutUntil = d.lockoutUntil := rfl
@[simp] theorem setDma_lockRenewed (n : Nat) (x : DmaX) : (d.setDma n x).lockRenewed = d.lockRenewed := rfl
@[simp] theorem setDma_groups (n : Nat) (x : DmaX) : (d.setDma n x).groups = d.groups := rfl
@[simp] theorem setDma_ring (n : Nat) (x : DmaX) : (d.setDma n x).ring = d.ring := rfl
@[simp] theorem setDma_jtag (n : Nat) (x : DmaX) : (d.setDma n x).jtag = d.jtag := rfl
@[simp] theorem setDma_pins (n : Nat) (x : DmaX) : (d.setDma n x).pins = d.pins := rfl
@[simp] theorem setDma_acqAt (n : Nat) (x : DmaX) : (d.setDma n x).acqAt = d.acqAt := rfl
@[simp] theorem setDma_drainAt (n : Nat) (x : DmaX) : (d.setDma n x).drainAt = d.drainAt := rfl
@[simp] theorem setDma_gunSeq (n : Nat) (x : DmaX) : (d.setDma n x).gunSeq = d.gunSeq := rfl
@[simp] theorem setDma_guns (n : Nat) (x : DmaX) : (d.setDma n x).guns = d.guns := rfl
@[simp] theorem setDma_faults (n : Nat) (x : DmaX) : (d.setDma n x).faults = d.faults := rfl
@[simp] theorem setDma_keys (n : Nat) (x : DmaX) : (d.setDma n x).keys = d.keys := rfl
@[simp] theorem setDma_sas (n : Nat) (x : DmaX) : (d.setDma n x).sas = d.sas := rfl
@[simp] theorem setDma_banks (n : Nat) (x : DmaX) : (d.setDma n x).banks = d.banks := rfl
@[simp] theorem setDma_pipe (n : Nat) (x : DmaX) : (d.setDma n x).pipe = d.pipe := rfl
@[simp] theorem setDma_clsx (n : Nat) (x : DmaX) : (d.setDma n x).clsx = d.clsx := rfl
@[simp] theorem setDma_queues (n : Nat) (x : DmaX) : (d.setDma n x).queues = d.queues := rfl
@[simp] theorem setDma_nodes (n : Nat) (x : DmaX) : (d.setDma n x).nodes = d.nodes := rfl
@[simp] theorem setDma_pairs (n : Nat) (x : DmaX) : (d.setDma n x).pairs = d.pairs := rfl
@[simp] theorem setDma_ports (n : Nat) (x : DmaX) : (d.setDma n x).ports = d.ports := rfl
@[simp] theorem setDma_laps (n : Nat) (x : DmaX) : (d.setDma n x).laps = d.laps := rfl
@[simp] theorem setDma_pmc (n : Nat) (x : DmaX) : (d.setDma n x).pmc = d.pmc := rfl
@[simp] theorem setDma_mem (n : Nat) (x : DmaX) : (d.setDma n x).mem = d.mem := rfl
@[simp] theorem setDma_otp (n : Nat) (x : DmaX) : (d.setDma n x).otp = d.otp := rfl
@[simp] theorem setDma_flash (n : Nat) (x : DmaX) : (d.setDma n x).flash = d.flash := rfl
@[simp] theorem setDma_lc (n : Nat) (x : DmaX) : (d.setDma n x).lc = d.lc := rfl
@[simp] theorem setDma_fw (n : Nat) (x : DmaX) : (d.setDma n x).fw = d.fw := rfl
@[simp] theorem setDma_att (n : Nat) (x : DmaX) : (d.setDma n x).att = d.att := rfl
@[simp] theorem setDma_sram (n : Nat) (x : DmaX) : (d.setDma n x).sram = d.sram := rfl
@[simp] theorem setDma_time (n : Nat) (x : DmaX) : (d.setDma n x).time = d.time := rfl
@[simp] theorem setDma_mon (n : Nat) (x : DmaX) : (d.setDma n x).mon = d.mon := rfl
@[simp] theorem setDma_la (n : Nat) (x : DmaX) : (d.setDma n x).la = d.la := rfl
@[simp] theorem setDma_rd (n : Nat) (x : DmaX) (o r : Nat) : (d.setDma n x).rd o r = d.rd o r := rfl

@[simp] theorem msixPend_part (e : Nat) : (d.msixPend e).part = d.part := rfl
@[simp] theorem msixPend_mode (e : Nat) : (d.msixPend e).mode = d.mode := rfl
@[simp] theorem msixPend_clockOn (e : Nat) : (d.msixPend e).clockOn = d.clockOn := rfl
@[simp] theorem msixPend_boot (e : Nat) : (d.msixPend e).boot = d.boot := rfl
@[simp] theorem msixPend_resetLatch (e : Nat) : (d.msixPend e).resetLatch = d.resetLatch := rfl
@[simp] theorem msixPend_cyc (e : Nat) : (d.msixPend e).cyc = d.cyc := rfl
@[simp] theorem msixPend_clk (e : Nat) : (d.msixPend e).clk = d.clk := rfl
@[simp] theorem msixPend_edge (e : Nat) : (d.msixPend e).edge = d.edge := rfl
@[simp] theorem msixPend_draws (e : Nat) : (d.msixPend e).draws = d.draws := rfl
@[simp] theorem msixPend_dict (e : Nat) : (d.msixPend e).dict = d.dict := rfl
@[simp] theorem msixPend_out (e : Nat) : (d.msixPend e).out = d.out := rfl
@[simp] theorem msixPend_sess (e : Nat) : (d.msixPend e).sess = d.sess := rfl
@[simp] theorem msixPend_proofFails (e : Nat) : (d.msixPend e).proofFails = d.proofFails := rfl
@[simp] theorem msixPend_lockoutUntil (e : Nat) : (d.msixPend e).lockoutUntil = d.lockoutUntil := rfl
@[simp] theorem msixPend_lockRenewed (e : Nat) : (d.msixPend e).lockRenewed = d.lockRenewed := rfl
@[simp] theorem msixPend_groups (e : Nat) : (d.msixPend e).groups = d.groups := rfl
@[simp] theorem msixPend_ring (e : Nat) : (d.msixPend e).ring = d.ring := rfl
@[simp] theorem msixPend_jtag (e : Nat) : (d.msixPend e).jtag = d.jtag := rfl
@[simp] theorem msixPend_pins (e : Nat) : (d.msixPend e).pins = d.pins := rfl
@[simp] theorem msixPend_acqAt (e : Nat) : (d.msixPend e).acqAt = d.acqAt := rfl
@[simp] theorem msixPend_drainAt (e : Nat) : (d.msixPend e).drainAt = d.drainAt := rfl
@[simp] theorem msixPend_gunSeq (e : Nat) : (d.msixPend e).gunSeq = d.gunSeq := rfl
@[simp] theorem msixPend_guns (e : Nat) : (d.msixPend e).guns = d.guns := rfl
@[simp] theorem msixPend_faults (e : Nat) : (d.msixPend e).faults = d.faults := rfl
@[simp] theorem msixPend_keys (e : Nat) : (d.msixPend e).keys = d.keys := rfl
@[simp] theorem msixPend_sas (e : Nat) : (d.msixPend e).sas = d.sas := rfl
@[simp] theorem msixPend_banks (e : Nat) : (d.msixPend e).banks = d.banks := rfl
@[simp] theorem msixPend_pipe (e : Nat) : (d.msixPend e).pipe = d.pipe := rfl
@[simp] theorem msixPend_clsx (e : Nat) : (d.msixPend e).clsx = d.clsx := rfl
@[simp] theorem msixPend_queues (e : Nat) : (d.msixPend e).queues = d.queues := rfl
@[simp] theorem msixPend_nodes (e : Nat) : (d.msixPend e).nodes = d.nodes := rfl
@[simp] theorem msixPend_pairs (e : Nat) : (d.msixPend e).pairs = d.pairs := rfl
@[simp] theorem msixPend_ports (e : Nat) : (d.msixPend e).ports = d.ports := rfl
@[simp] theorem msixPend_laps (e : Nat) : (d.msixPend e).laps = d.laps := rfl
@[simp] theorem msixPend_pmc (e : Nat) : (d.msixPend e).pmc = d.pmc := rfl
@[simp] theorem msixPend_mem (e : Nat) : (d.msixPend e).mem = d.mem := rfl
@[simp] theorem msixPend_otp (e : Nat) : (d.msixPend e).otp = d.otp := rfl
@[simp] theorem msixPend_flash (e : Nat) : (d.msixPend e).flash = d.flash := rfl
@[simp] theorem msixPend_lc (e : Nat) : (d.msixPend e).lc = d.lc := rfl
@[simp] theorem msixPend_fw (e : Nat) : (d.msixPend e).fw = d.fw := rfl
@[simp] theorem msixPend_att (e : Nat) : (d.msixPend e).att = d.att := rfl
@[simp] theorem msixPend_sram (e : Nat) : (d.msixPend e).sram = d.sram := rfl
@[simp] theorem msixPend_time (e : Nat) : (d.msixPend e).time = d.time := rfl
@[simp] theorem msixPend_mon (e : Nat) : (d.msixPend e).mon = d.mon := rfl
@[simp] theorem msixPend_la (e : Nat) : (d.msixPend e).la = d.la := rfl
@[simp] theorem msixPend_rd (e : Nat) (o r : Nat) : (d.msixPend e).rd o r = d.rd o r := rfl

@[simp] theorem setPmc_part (x : PmcX) : (d.setPmc x).part = d.part := rfl
@[simp] theorem setPmc_mode (x : PmcX) : (d.setPmc x).mode = d.mode := rfl
@[simp] theorem setPmc_clockOn (x : PmcX) : (d.setPmc x).clockOn = d.clockOn := rfl
@[simp] theorem setPmc_boot (x : PmcX) : (d.setPmc x).boot = d.boot := rfl
@[simp] theorem setPmc_resetLatch (x : PmcX) : (d.setPmc x).resetLatch = d.resetLatch := rfl
@[simp] theorem setPmc_cyc (x : PmcX) : (d.setPmc x).cyc = d.cyc := rfl
@[simp] theorem setPmc_clk (x : PmcX) : (d.setPmc x).clk = d.clk := rfl
@[simp] theorem setPmc_edge (x : PmcX) : (d.setPmc x).edge = d.edge := rfl
@[simp] theorem setPmc_draws (x : PmcX) : (d.setPmc x).draws = d.draws := rfl
@[simp] theorem setPmc_dict (x : PmcX) : (d.setPmc x).dict = d.dict := rfl
@[simp] theorem setPmc_out (x : PmcX) : (d.setPmc x).out = d.out := rfl
@[simp] theorem setPmc_sess (x : PmcX) : (d.setPmc x).sess = d.sess := rfl
@[simp] theorem setPmc_proofFails (x : PmcX) : (d.setPmc x).proofFails = d.proofFails := rfl
@[simp] theorem setPmc_lockoutUntil (x : PmcX) : (d.setPmc x).lockoutUntil = d.lockoutUntil := rfl
@[simp] theorem setPmc_lockRenewed (x : PmcX) : (d.setPmc x).lockRenewed = d.lockRenewed := rfl
@[simp] theorem setPmc_groups (x : PmcX) : (d.setPmc x).groups = d.groups := rfl
@[simp] theorem setPmc_ring (x : PmcX) : (d.setPmc x).ring = d.ring := rfl
@[simp] theorem setPmc_pcie (x : PmcX) : (d.setPmc x).pcie = d.pcie := rfl
@[simp] theorem setPmc_jtag (x : PmcX) : (d.setPmc x).jtag = d.jtag := rfl
@[simp] theorem setPmc_pins (x : PmcX) : (d.setPmc x).pins = d.pins := rfl
@[simp] theorem setPmc_acqAt (x : PmcX) : (d.setPmc x).acqAt = d.acqAt := rfl
@[simp] theorem setPmc_drainAt (x : PmcX) : (d.setPmc x).drainAt = d.drainAt := rfl
@[simp] theorem setPmc_gunSeq (x : PmcX) : (d.setPmc x).gunSeq = d.gunSeq := rfl
@[simp] theorem setPmc_guns (x : PmcX) : (d.setPmc x).guns = d.guns := rfl
@[simp] theorem setPmc_faults (x : PmcX) : (d.setPmc x).faults = d.faults := rfl
@[simp] theorem setPmc_keys (x : PmcX) : (d.setPmc x).keys = d.keys := rfl
@[simp] theorem setPmc_sas (x : PmcX) : (d.setPmc x).sas = d.sas := rfl
@[simp] theorem setPmc_banks (x : PmcX) : (d.setPmc x).banks = d.banks := rfl
@[simp] theorem setPmc_pipe (x : PmcX) : (d.setPmc x).pipe = d.pipe := rfl
@[simp] theorem setPmc_clsx (x : PmcX) : (d.setPmc x).clsx = d.clsx := rfl
@[simp] theorem setPmc_queues (x : PmcX) : (d.setPmc x).queues = d.queues := rfl
@[simp] theorem setPmc_nodes (x : PmcX) : (d.setPmc x).nodes = d.nodes := rfl
@[simp] theorem setPmc_pairs (x : PmcX) : (d.setPmc x).pairs = d.pairs := rfl
@[simp] theorem setPmc_ports (x : PmcX) : (d.setPmc x).ports = d.ports := rfl
@[simp] theorem setPmc_laps (x : PmcX) : (d.setPmc x).laps = d.laps := rfl
@[simp] theorem setPmc_mem (x : PmcX) : (d.setPmc x).mem = d.mem := rfl
@[simp] theorem setPmc_otp (x : PmcX) : (d.setPmc x).otp = d.otp := rfl
@[simp] theorem setPmc_flash (x : PmcX) : (d.setPmc x).flash = d.flash := rfl
@[simp] theorem setPmc_lc (x : PmcX) : (d.setPmc x).lc = d.lc := rfl
@[simp] theorem setPmc_fw (x : PmcX) : (d.setPmc x).fw = d.fw := rfl
@[simp] theorem setPmc_att (x : PmcX) : (d.setPmc x).att = d.att := rfl
@[simp] theorem setPmc_sram (x : PmcX) : (d.setPmc x).sram = d.sram := rfl
@[simp] theorem setPmc_time (x : PmcX) : (d.setPmc x).time = d.time := rfl
@[simp] theorem setPmc_mon (x : PmcX) : (d.setPmc x).mon = d.mon := rfl
@[simp] theorem setPmc_la (x : PmcX) : (d.setPmc x).la = d.la := rfl
@[simp] theorem setPmc_rd (x : PmcX) (o r : Nat) : (d.setPmc x).rd o r = d.rd o r := rfl

@[simp] theorem setServed_part (n : Nat) : (d.setServed n).part = d.part := rfl
@[simp] theorem setServed_mode (n : Nat) : (d.setServed n).mode = d.mode := rfl
@[simp] theorem setServed_clockOn (n : Nat) : (d.setServed n).clockOn = d.clockOn := rfl
@[simp] theorem setServed_boot (n : Nat) : (d.setServed n).boot = d.boot := rfl
@[simp] theorem setServed_resetLatch (n : Nat) : (d.setServed n).resetLatch = d.resetLatch := rfl
@[simp] theorem setServed_cyc (n : Nat) : (d.setServed n).cyc = d.cyc := rfl
@[simp] theorem setServed_clk (n : Nat) : (d.setServed n).clk = d.clk := rfl
@[simp] theorem setServed_edge (n : Nat) : (d.setServed n).edge = d.edge := rfl
@[simp] theorem setServed_draws (n : Nat) : (d.setServed n).draws = d.draws := rfl
@[simp] theorem setServed_dict (n : Nat) : (d.setServed n).dict = d.dict := rfl
@[simp] theorem setServed_out (n : Nat) : (d.setServed n).out = d.out := rfl
@[simp] theorem setServed_sess (n : Nat) : (d.setServed n).sess = d.sess := rfl
@[simp] theorem setServed_proofFails (n : Nat) : (d.setServed n).proofFails = d.proofFails := rfl
@[simp] theorem setServed_lockoutUntil (n : Nat) : (d.setServed n).lockoutUntil = d.lockoutUntil := rfl
@[simp] theorem setServed_lockRenewed (n : Nat) : (d.setServed n).lockRenewed = d.lockRenewed := rfl
@[simp] theorem setServed_groups (n : Nat) : (d.setServed n).groups = d.groups := rfl
@[simp] theorem setServed_ring (n : Nat) : (d.setServed n).ring = d.ring := rfl
@[simp] theorem setServed_jtag (n : Nat) : (d.setServed n).jtag = d.jtag := rfl
@[simp] theorem setServed_pins (n : Nat) : (d.setServed n).pins = d.pins := rfl
@[simp] theorem setServed_acqAt (n : Nat) : (d.setServed n).acqAt = d.acqAt := rfl
@[simp] theorem setServed_drainAt (n : Nat) : (d.setServed n).drainAt = d.drainAt := rfl
@[simp] theorem setServed_gunSeq (n : Nat) : (d.setServed n).gunSeq = d.gunSeq := rfl
@[simp] theorem setServed_guns (n : Nat) : (d.setServed n).guns = d.guns := rfl
@[simp] theorem setServed_faults (n : Nat) : (d.setServed n).faults = d.faults := rfl
@[simp] theorem setServed_keys (n : Nat) : (d.setServed n).keys = d.keys := rfl
@[simp] theorem setServed_sas (n : Nat) : (d.setServed n).sas = d.sas := rfl
@[simp] theorem setServed_banks (n : Nat) : (d.setServed n).banks = d.banks := rfl
@[simp] theorem setServed_pipe (n : Nat) : (d.setServed n).pipe = d.pipe := rfl
@[simp] theorem setServed_clsx (n : Nat) : (d.setServed n).clsx = d.clsx := rfl
@[simp] theorem setServed_queues (n : Nat) : (d.setServed n).queues = d.queues := rfl
@[simp] theorem setServed_nodes (n : Nat) : (d.setServed n).nodes = d.nodes := rfl
@[simp] theorem setServed_pairs (n : Nat) : (d.setServed n).pairs = d.pairs := rfl
@[simp] theorem setServed_ports (n : Nat) : (d.setServed n).ports = d.ports := rfl
@[simp] theorem setServed_laps (n : Nat) : (d.setServed n).laps = d.laps := rfl
@[simp] theorem setServed_pmc (n : Nat) : (d.setServed n).pmc = d.pmc := rfl
@[simp] theorem setServed_mem (n : Nat) : (d.setServed n).mem = d.mem := rfl
@[simp] theorem setServed_otp (n : Nat) : (d.setServed n).otp = d.otp := rfl
@[simp] theorem setServed_flash (n : Nat) : (d.setServed n).flash = d.flash := rfl
@[simp] theorem setServed_lc (n : Nat) : (d.setServed n).lc = d.lc := rfl
@[simp] theorem setServed_fw (n : Nat) : (d.setServed n).fw = d.fw := rfl
@[simp] theorem setServed_att (n : Nat) : (d.setServed n).att = d.att := rfl
@[simp] theorem setServed_sram (n : Nat) : (d.setServed n).sram = d.sram := rfl
@[simp] theorem setServed_time (n : Nat) : (d.setServed n).time = d.time := rfl
@[simp] theorem setServed_mon (n : Nat) : (d.setServed n).mon = d.mon := rfl
@[simp] theorem setServed_la (n : Nat) : (d.setServed n).la = d.la := rfl
@[simp] theorem setServed_rd (n : Nat) (o r : Nat) : (d.setServed n).rd o r = d.rd o r := rfl

@[simp] theorem ringSend_part (m : RingMsg) : (d.ringSend m).part = d.part := rfl
@[simp] theorem ringSend_mode (m : RingMsg) : (d.ringSend m).mode = d.mode := rfl
@[simp] theorem ringSend_clockOn (m : RingMsg) : (d.ringSend m).clockOn = d.clockOn := rfl
@[simp] theorem ringSend_boot (m : RingMsg) : (d.ringSend m).boot = d.boot := rfl
@[simp] theorem ringSend_resetLatch (m : RingMsg) : (d.ringSend m).resetLatch = d.resetLatch := rfl
@[simp] theorem ringSend_cyc (m : RingMsg) : (d.ringSend m).cyc = d.cyc := rfl
@[simp] theorem ringSend_clk (m : RingMsg) : (d.ringSend m).clk = d.clk := rfl
@[simp] theorem ringSend_edge (m : RingMsg) : (d.ringSend m).edge = d.edge := rfl
@[simp] theorem ringSend_draws (m : RingMsg) : (d.ringSend m).draws = d.draws := rfl
@[simp] theorem ringSend_dict (m : RingMsg) : (d.ringSend m).dict = d.dict := rfl
@[simp] theorem ringSend_out (m : RingMsg) : (d.ringSend m).out = d.out := rfl
@[simp] theorem ringSend_sess (m : RingMsg) : (d.ringSend m).sess = d.sess := rfl
@[simp] theorem ringSend_proofFails (m : RingMsg) : (d.ringSend m).proofFails = d.proofFails := rfl
@[simp] theorem ringSend_lockoutUntil (m : RingMsg) : (d.ringSend m).lockoutUntil = d.lockoutUntil := rfl
@[simp] theorem ringSend_lockRenewed (m : RingMsg) : (d.ringSend m).lockRenewed = d.lockRenewed := rfl
@[simp] theorem ringSend_groups (m : RingMsg) : (d.ringSend m).groups = d.groups := rfl
@[simp] theorem ringSend_pcie (m : RingMsg) : (d.ringSend m).pcie = d.pcie := rfl
@[simp] theorem ringSend_jtag (m : RingMsg) : (d.ringSend m).jtag = d.jtag := rfl
@[simp] theorem ringSend_pins (m : RingMsg) : (d.ringSend m).pins = d.pins := rfl
@[simp] theorem ringSend_acqAt (m : RingMsg) : (d.ringSend m).acqAt = d.acqAt := rfl
@[simp] theorem ringSend_drainAt (m : RingMsg) : (d.ringSend m).drainAt = d.drainAt := rfl
@[simp] theorem ringSend_gunSeq (m : RingMsg) : (d.ringSend m).gunSeq = d.gunSeq := rfl
@[simp] theorem ringSend_guns (m : RingMsg) : (d.ringSend m).guns = d.guns := rfl
@[simp] theorem ringSend_faults (m : RingMsg) : (d.ringSend m).faults = d.faults := rfl
@[simp] theorem ringSend_keys (m : RingMsg) : (d.ringSend m).keys = d.keys := rfl
@[simp] theorem ringSend_sas (m : RingMsg) : (d.ringSend m).sas = d.sas := rfl
@[simp] theorem ringSend_banks (m : RingMsg) : (d.ringSend m).banks = d.banks := rfl
@[simp] theorem ringSend_pipe (m : RingMsg) : (d.ringSend m).pipe = d.pipe := rfl
@[simp] theorem ringSend_clsx (m : RingMsg) : (d.ringSend m).clsx = d.clsx := rfl
@[simp] theorem ringSend_queues (m : RingMsg) : (d.ringSend m).queues = d.queues := rfl
@[simp] theorem ringSend_nodes (m : RingMsg) : (d.ringSend m).nodes = d.nodes := rfl
@[simp] theorem ringSend_pairs (m : RingMsg) : (d.ringSend m).pairs = d.pairs := rfl
@[simp] theorem ringSend_ports (m : RingMsg) : (d.ringSend m).ports = d.ports := rfl
@[simp] theorem ringSend_laps (m : RingMsg) : (d.ringSend m).laps = d.laps := rfl
@[simp] theorem ringSend_pmc (m : RingMsg) : (d.ringSend m).pmc = d.pmc := rfl
@[simp] theorem ringSend_mem (m : RingMsg) : (d.ringSend m).mem = d.mem := rfl
@[simp] theorem ringSend_otp (m : RingMsg) : (d.ringSend m).otp = d.otp := rfl
@[simp] theorem ringSend_flash (m : RingMsg) : (d.ringSend m).flash = d.flash := rfl
@[simp] theorem ringSend_lc (m : RingMsg) : (d.ringSend m).lc = d.lc := rfl
@[simp] theorem ringSend_fw (m : RingMsg) : (d.ringSend m).fw = d.fw := rfl
@[simp] theorem ringSend_att (m : RingMsg) : (d.ringSend m).att = d.att := rfl
@[simp] theorem ringSend_sram (m : RingMsg) : (d.ringSend m).sram = d.sram := rfl
@[simp] theorem ringSend_time (m : RingMsg) : (d.ringSend m).time = d.time := rfl
@[simp] theorem ringSend_mon (m : RingMsg) : (d.ringSend m).mon = d.mon := rfl
@[simp] theorem ringSend_la (m : RingMsg) : (d.ringSend m).la = d.la := rfl
@[simp] theorem ringSend_rd (m : RingMsg) (o r : Nat) : (d.ringSend m).rd o r = d.rd o r := rfl

@[simp] theorem nextRecord_part : d.nextRecord.part = d.part := rfl
@[simp] theorem nextRecord_mode : d.nextRecord.mode = d.mode := rfl
@[simp] theorem nextRecord_clockOn : d.nextRecord.clockOn = d.clockOn := rfl
@[simp] theorem nextRecord_boot : d.nextRecord.boot = d.boot := rfl
@[simp] theorem nextRecord_resetLatch : d.nextRecord.resetLatch = d.resetLatch := rfl
@[simp] theorem nextRecord_cyc : d.nextRecord.cyc = d.cyc := rfl
@[simp] theorem nextRecord_clk : d.nextRecord.clk = d.clk := rfl
@[simp] theorem nextRecord_edge : d.nextRecord.edge = d.edge := rfl
@[simp] theorem nextRecord_draws : d.nextRecord.draws = d.draws := rfl
@[simp] theorem nextRecord_dict : d.nextRecord.dict = d.dict := rfl
@[simp] theorem nextRecord_out : d.nextRecord.out = d.out := rfl
@[simp] theorem nextRecord_sess : d.nextRecord.sess = d.sess := rfl
@[simp] theorem nextRecord_proofFails : d.nextRecord.proofFails = d.proofFails := rfl
@[simp] theorem nextRecord_lockoutUntil : d.nextRecord.lockoutUntil = d.lockoutUntil := rfl
@[simp] theorem nextRecord_lockRenewed : d.nextRecord.lockRenewed = d.lockRenewed := rfl
@[simp] theorem nextRecord_groups : d.nextRecord.groups = d.groups := rfl
@[simp] theorem nextRecord_ring : d.nextRecord.ring = d.ring := rfl
@[simp] theorem nextRecord_pcie : d.nextRecord.pcie = d.pcie := rfl
@[simp] theorem nextRecord_jtag : d.nextRecord.jtag = d.jtag := rfl
@[simp] theorem nextRecord_pins : d.nextRecord.pins = d.pins := rfl
@[simp] theorem nextRecord_acqAt : d.nextRecord.acqAt = d.acqAt := rfl
@[simp] theorem nextRecord_drainAt : d.nextRecord.drainAt = d.drainAt := rfl
@[simp] theorem nextRecord_gunSeq : d.nextRecord.gunSeq = d.gunSeq := rfl
@[simp] theorem nextRecord_guns : d.nextRecord.guns = d.guns := rfl
@[simp] theorem nextRecord_keys : d.nextRecord.keys = d.keys := rfl
@[simp] theorem nextRecord_sas : d.nextRecord.sas = d.sas := rfl
@[simp] theorem nextRecord_banks : d.nextRecord.banks = d.banks := rfl
@[simp] theorem nextRecord_pipe : d.nextRecord.pipe = d.pipe := rfl
@[simp] theorem nextRecord_clsx : d.nextRecord.clsx = d.clsx := rfl
@[simp] theorem nextRecord_queues : d.nextRecord.queues = d.queues := rfl
@[simp] theorem nextRecord_nodes : d.nextRecord.nodes = d.nodes := rfl
@[simp] theorem nextRecord_pairs : d.nextRecord.pairs = d.pairs := rfl
@[simp] theorem nextRecord_ports : d.nextRecord.ports = d.ports := rfl
@[simp] theorem nextRecord_laps : d.nextRecord.laps = d.laps := rfl
@[simp] theorem nextRecord_pmc : d.nextRecord.pmc = d.pmc := rfl
@[simp] theorem nextRecord_mem : d.nextRecord.mem = d.mem := rfl
@[simp] theorem nextRecord_otp : d.nextRecord.otp = d.otp := rfl
@[simp] theorem nextRecord_flash : d.nextRecord.flash = d.flash := rfl
@[simp] theorem nextRecord_lc : d.nextRecord.lc = d.lc := rfl
@[simp] theorem nextRecord_fw : d.nextRecord.fw = d.fw := rfl
@[simp] theorem nextRecord_att : d.nextRecord.att = d.att := rfl
@[simp] theorem nextRecord_sram : d.nextRecord.sram = d.sram := rfl
@[simp] theorem nextRecord_time : d.nextRecord.time = d.time := rfl
@[simp] theorem nextRecord_mon : d.nextRecord.mon = d.mon := rfl
@[simp] theorem nextRecord_la : d.nextRecord.la = d.la := rfl
@[simp] theorem nextRecord_rd (o r : Nat) : d.nextRecord.rd o r = d.rd o r := rfl

@[simp] theorem addEvent_part (src : Nat) : (d.addEvent src).part = d.part := rfl
@[simp] theorem addEvent_mode (src : Nat) : (d.addEvent src).mode = d.mode := rfl
@[simp] theorem addEvent_clockOn (src : Nat) : (d.addEvent src).clockOn = d.clockOn := rfl
@[simp] theorem addEvent_boot (src : Nat) : (d.addEvent src).boot = d.boot := rfl
@[simp] theorem addEvent_resetLatch (src : Nat) : (d.addEvent src).resetLatch = d.resetLatch := rfl
@[simp] theorem addEvent_cyc (src : Nat) : (d.addEvent src).cyc = d.cyc := rfl
@[simp] theorem addEvent_clk (src : Nat) : (d.addEvent src).clk = d.clk := rfl
@[simp] theorem addEvent_edge (src : Nat) : (d.addEvent src).edge = d.edge := rfl
@[simp] theorem addEvent_draws (src : Nat) : (d.addEvent src).draws = d.draws := rfl
@[simp] theorem addEvent_dict (src : Nat) : (d.addEvent src).dict = d.dict := rfl
@[simp] theorem addEvent_out (src : Nat) : (d.addEvent src).out = d.out := rfl
@[simp] theorem addEvent_sess (src : Nat) : (d.addEvent src).sess = d.sess := rfl
@[simp] theorem addEvent_proofFails (src : Nat) : (d.addEvent src).proofFails = d.proofFails := rfl
@[simp] theorem addEvent_lockoutUntil (src : Nat) : (d.addEvent src).lockoutUntil = d.lockoutUntil := rfl
@[simp] theorem addEvent_lockRenewed (src : Nat) : (d.addEvent src).lockRenewed = d.lockRenewed := rfl
@[simp] theorem addEvent_groups (src : Nat) : (d.addEvent src).groups = d.groups := rfl
@[simp] theorem addEvent_ring (src : Nat) : (d.addEvent src).ring = d.ring := rfl
@[simp] theorem addEvent_pcie (src : Nat) : (d.addEvent src).pcie = d.pcie := rfl
@[simp] theorem addEvent_jtag (src : Nat) : (d.addEvent src).jtag = d.jtag := rfl
@[simp] theorem addEvent_pins (src : Nat) : (d.addEvent src).pins = d.pins := rfl
@[simp] theorem addEvent_acqAt (src : Nat) : (d.addEvent src).acqAt = d.acqAt := rfl
@[simp] theorem addEvent_drainAt (src : Nat) : (d.addEvent src).drainAt = d.drainAt := rfl
@[simp] theorem addEvent_gunSeq (src : Nat) : (d.addEvent src).gunSeq = d.gunSeq := rfl
@[simp] theorem addEvent_guns (src : Nat) : (d.addEvent src).guns = d.guns := rfl
@[simp] theorem addEvent_keys (src : Nat) : (d.addEvent src).keys = d.keys := rfl
@[simp] theorem addEvent_sas (src : Nat) : (d.addEvent src).sas = d.sas := rfl
@[simp] theorem addEvent_banks (src : Nat) : (d.addEvent src).banks = d.banks := rfl
@[simp] theorem addEvent_pipe (src : Nat) : (d.addEvent src).pipe = d.pipe := rfl
@[simp] theorem addEvent_clsx (src : Nat) : (d.addEvent src).clsx = d.clsx := rfl
@[simp] theorem addEvent_queues (src : Nat) : (d.addEvent src).queues = d.queues := rfl
@[simp] theorem addEvent_nodes (src : Nat) : (d.addEvent src).nodes = d.nodes := rfl
@[simp] theorem addEvent_pairs (src : Nat) : (d.addEvent src).pairs = d.pairs := rfl
@[simp] theorem addEvent_ports (src : Nat) : (d.addEvent src).ports = d.ports := rfl
@[simp] theorem addEvent_laps (src : Nat) : (d.addEvent src).laps = d.laps := rfl
@[simp] theorem addEvent_pmc (src : Nat) : (d.addEvent src).pmc = d.pmc := rfl
@[simp] theorem addEvent_mem (src : Nat) : (d.addEvent src).mem = d.mem := rfl
@[simp] theorem addEvent_otp (src : Nat) : (d.addEvent src).otp = d.otp := rfl
@[simp] theorem addEvent_flash (src : Nat) : (d.addEvent src).flash = d.flash := rfl
@[simp] theorem addEvent_lc (src : Nat) : (d.addEvent src).lc = d.lc := rfl
@[simp] theorem addEvent_fw (src : Nat) : (d.addEvent src).fw = d.fw := rfl
@[simp] theorem addEvent_att (src : Nat) : (d.addEvent src).att = d.att := rfl
@[simp] theorem addEvent_sram (src : Nat) : (d.addEvent src).sram = d.sram := rfl
@[simp] theorem addEvent_time (src : Nat) : (d.addEvent src).time = d.time := rfl
@[simp] theorem addEvent_mon (src : Nat) : (d.addEvent src).mon = d.mon := rfl
@[simp] theorem addEvent_la (src : Nat) : (d.addEvent src).la = d.la := rfl
@[simp] theorem addEvent_rd (src : Nat) (o r : Nat) : (d.addEvent src).rd o r = d.rd o r := rfl

@[simp] theorem setVault_part (k : Nat) (x : VaultX) : (d.setVault k x).part = d.part := rfl
@[simp] theorem setVault_mode (k : Nat) (x : VaultX) : (d.setVault k x).mode = d.mode := rfl
@[simp] theorem setVault_clockOn (k : Nat) (x : VaultX) : (d.setVault k x).clockOn = d.clockOn := rfl
@[simp] theorem setVault_boot (k : Nat) (x : VaultX) : (d.setVault k x).boot = d.boot := rfl
@[simp] theorem setVault_resetLatch (k : Nat) (x : VaultX) : (d.setVault k x).resetLatch = d.resetLatch := rfl
@[simp] theorem setVault_cyc (k : Nat) (x : VaultX) : (d.setVault k x).cyc = d.cyc := rfl
@[simp] theorem setVault_clk (k : Nat) (x : VaultX) : (d.setVault k x).clk = d.clk := rfl
@[simp] theorem setVault_edge (k : Nat) (x : VaultX) : (d.setVault k x).edge = d.edge := rfl
@[simp] theorem setVault_draws (k : Nat) (x : VaultX) : (d.setVault k x).draws = d.draws := rfl
@[simp] theorem setVault_dict (k : Nat) (x : VaultX) : (d.setVault k x).dict = d.dict := rfl
@[simp] theorem setVault_out (k : Nat) (x : VaultX) : (d.setVault k x).out = d.out := rfl
@[simp] theorem setVault_sess (k : Nat) (x : VaultX) : (d.setVault k x).sess = d.sess := rfl
@[simp] theorem setVault_proofFails (k : Nat) (x : VaultX) : (d.setVault k x).proofFails = d.proofFails := rfl
@[simp] theorem setVault_lockoutUntil (k : Nat) (x : VaultX) : (d.setVault k x).lockoutUntil = d.lockoutUntil := rfl
@[simp] theorem setVault_lockRenewed (k : Nat) (x : VaultX) : (d.setVault k x).lockRenewed = d.lockRenewed := rfl
@[simp] theorem setVault_groups (k : Nat) (x : VaultX) : (d.setVault k x).groups = d.groups := rfl
@[simp] theorem setVault_ring (k : Nat) (x : VaultX) : (d.setVault k x).ring = d.ring := rfl
@[simp] theorem setVault_pcie (k : Nat) (x : VaultX) : (d.setVault k x).pcie = d.pcie := rfl
@[simp] theorem setVault_jtag (k : Nat) (x : VaultX) : (d.setVault k x).jtag = d.jtag := rfl
@[simp] theorem setVault_pins (k : Nat) (x : VaultX) : (d.setVault k x).pins = d.pins := rfl
@[simp] theorem setVault_acqAt (k : Nat) (x : VaultX) : (d.setVault k x).acqAt = d.acqAt := rfl
@[simp] theorem setVault_drainAt (k : Nat) (x : VaultX) : (d.setVault k x).drainAt = d.drainAt := rfl
@[simp] theorem setVault_gunSeq (k : Nat) (x : VaultX) : (d.setVault k x).gunSeq = d.gunSeq := rfl
@[simp] theorem setVault_guns (k : Nat) (x : VaultX) : (d.setVault k x).guns = d.guns := rfl
@[simp] theorem setVault_faults (k : Nat) (x : VaultX) : (d.setVault k x).faults = d.faults := rfl
@[simp] theorem setVault_sas (k : Nat) (x : VaultX) : (d.setVault k x).sas = d.sas := rfl
@[simp] theorem setVault_banks (k : Nat) (x : VaultX) : (d.setVault k x).banks = d.banks := rfl
@[simp] theorem setVault_pipe (k : Nat) (x : VaultX) : (d.setVault k x).pipe = d.pipe := rfl
@[simp] theorem setVault_clsx (k : Nat) (x : VaultX) : (d.setVault k x).clsx = d.clsx := rfl
@[simp] theorem setVault_queues (k : Nat) (x : VaultX) : (d.setVault k x).queues = d.queues := rfl
@[simp] theorem setVault_nodes (k : Nat) (x : VaultX) : (d.setVault k x).nodes = d.nodes := rfl
@[simp] theorem setVault_pairs (k : Nat) (x : VaultX) : (d.setVault k x).pairs = d.pairs := rfl
@[simp] theorem setVault_ports (k : Nat) (x : VaultX) : (d.setVault k x).ports = d.ports := rfl
@[simp] theorem setVault_laps (k : Nat) (x : VaultX) : (d.setVault k x).laps = d.laps := rfl
@[simp] theorem setVault_pmc (k : Nat) (x : VaultX) : (d.setVault k x).pmc = d.pmc := rfl
@[simp] theorem setVault_mem (k : Nat) (x : VaultX) : (d.setVault k x).mem = d.mem := rfl
@[simp] theorem setVault_otp (k : Nat) (x : VaultX) : (d.setVault k x).otp = d.otp := rfl
@[simp] theorem setVault_flash (k : Nat) (x : VaultX) : (d.setVault k x).flash = d.flash := rfl
@[simp] theorem setVault_lc (k : Nat) (x : VaultX) : (d.setVault k x).lc = d.lc := rfl
@[simp] theorem setVault_fw (k : Nat) (x : VaultX) : (d.setVault k x).fw = d.fw := rfl
@[simp] theorem setVault_att (k : Nat) (x : VaultX) : (d.setVault k x).att = d.att := rfl
@[simp] theorem setVault_sram (k : Nat) (x : VaultX) : (d.setVault k x).sram = d.sram := rfl
@[simp] theorem setVault_time (k : Nat) (x : VaultX) : (d.setVault k x).time = d.time := rfl
@[simp] theorem setVault_mon (k : Nat) (x : VaultX) : (d.setVault k x).mon = d.mon := rfl
@[simp] theorem setVault_la (k : Nat) (x : VaultX) : (d.setVault k x).la = d.la := rfl
@[simp] theorem setVault_rd (k : Nat) (x : VaultX) (o r : Nat) : (d.setVault k x).rd o r = d.rd o r := rfl

@[simp] theorem setCls_part (x : ClsX) : (d.setCls x).part = d.part := rfl
@[simp] theorem setCls_mode (x : ClsX) : (d.setCls x).mode = d.mode := rfl
@[simp] theorem setCls_clockOn (x : ClsX) : (d.setCls x).clockOn = d.clockOn := rfl
@[simp] theorem setCls_boot (x : ClsX) : (d.setCls x).boot = d.boot := rfl
@[simp] theorem setCls_resetLatch (x : ClsX) : (d.setCls x).resetLatch = d.resetLatch := rfl
@[simp] theorem setCls_cyc (x : ClsX) : (d.setCls x).cyc = d.cyc := rfl
@[simp] theorem setCls_clk (x : ClsX) : (d.setCls x).clk = d.clk := rfl
@[simp] theorem setCls_edge (x : ClsX) : (d.setCls x).edge = d.edge := rfl
@[simp] theorem setCls_draws (x : ClsX) : (d.setCls x).draws = d.draws := rfl
@[simp] theorem setCls_dict (x : ClsX) : (d.setCls x).dict = d.dict := rfl
@[simp] theorem setCls_out (x : ClsX) : (d.setCls x).out = d.out := rfl
@[simp] theorem setCls_sess (x : ClsX) : (d.setCls x).sess = d.sess := rfl
@[simp] theorem setCls_proofFails (x : ClsX) : (d.setCls x).proofFails = d.proofFails := rfl
@[simp] theorem setCls_lockoutUntil (x : ClsX) : (d.setCls x).lockoutUntil = d.lockoutUntil := rfl
@[simp] theorem setCls_lockRenewed (x : ClsX) : (d.setCls x).lockRenewed = d.lockRenewed := rfl
@[simp] theorem setCls_groups (x : ClsX) : (d.setCls x).groups = d.groups := rfl
@[simp] theorem setCls_ring (x : ClsX) : (d.setCls x).ring = d.ring := rfl
@[simp] theorem setCls_pcie (x : ClsX) : (d.setCls x).pcie = d.pcie := rfl
@[simp] theorem setCls_jtag (x : ClsX) : (d.setCls x).jtag = d.jtag := rfl
@[simp] theorem setCls_pins (x : ClsX) : (d.setCls x).pins = d.pins := rfl
@[simp] theorem setCls_acqAt (x : ClsX) : (d.setCls x).acqAt = d.acqAt := rfl
@[simp] theorem setCls_drainAt (x : ClsX) : (d.setCls x).drainAt = d.drainAt := rfl
@[simp] theorem setCls_gunSeq (x : ClsX) : (d.setCls x).gunSeq = d.gunSeq := rfl
@[simp] theorem setCls_guns (x : ClsX) : (d.setCls x).guns = d.guns := rfl
@[simp] theorem setCls_faults (x : ClsX) : (d.setCls x).faults = d.faults := rfl
@[simp] theorem setCls_keys (x : ClsX) : (d.setCls x).keys = d.keys := rfl
@[simp] theorem setCls_sas (x : ClsX) : (d.setCls x).sas = d.sas := rfl
@[simp] theorem setCls_banks (x : ClsX) : (d.setCls x).banks = d.banks := rfl
@[simp] theorem setCls_pipe (x : ClsX) : (d.setCls x).pipe = d.pipe := rfl
@[simp] theorem setCls_queues (x : ClsX) : (d.setCls x).queues = d.queues := rfl
@[simp] theorem setCls_nodes (x : ClsX) : (d.setCls x).nodes = d.nodes := rfl
@[simp] theorem setCls_pairs (x : ClsX) : (d.setCls x).pairs = d.pairs := rfl
@[simp] theorem setCls_ports (x : ClsX) : (d.setCls x).ports = d.ports := rfl
@[simp] theorem setCls_laps (x : ClsX) : (d.setCls x).laps = d.laps := rfl
@[simp] theorem setCls_pmc (x : ClsX) : (d.setCls x).pmc = d.pmc := rfl
@[simp] theorem setCls_mem (x : ClsX) : (d.setCls x).mem = d.mem := rfl
@[simp] theorem setCls_otp (x : ClsX) : (d.setCls x).otp = d.otp := rfl
@[simp] theorem setCls_flash (x : ClsX) : (d.setCls x).flash = d.flash := rfl
@[simp] theorem setCls_lc (x : ClsX) : (d.setCls x).lc = d.lc := rfl
@[simp] theorem setCls_fw (x : ClsX) : (d.setCls x).fw = d.fw := rfl
@[simp] theorem setCls_att (x : ClsX) : (d.setCls x).att = d.att := rfl
@[simp] theorem setCls_sram (x : ClsX) : (d.setCls x).sram = d.sram := rfl
@[simp] theorem setCls_time (x : ClsX) : (d.setCls x).time = d.time := rfl
@[simp] theorem setCls_mon (x : ClsX) : (d.setCls x).mon = d.mon := rfl
@[simp] theorem setCls_la (x : ClsX) : (d.setCls x).la = d.la := rfl
@[simp] theorem setCls_rd (x : ClsX) (o r : Nat) : (d.setCls x).rd o r = d.rd o r := rfl

@[simp] theorem setGun_part (e : Nat) (x : GunX) : (d.setGun e x).part = d.part := rfl
@[simp] theorem setGun_mode (e : Nat) (x : GunX) : (d.setGun e x).mode = d.mode := rfl
@[simp] theorem setGun_clockOn (e : Nat) (x : GunX) : (d.setGun e x).clockOn = d.clockOn := rfl
@[simp] theorem setGun_boot (e : Nat) (x : GunX) : (d.setGun e x).boot = d.boot := rfl
@[simp] theorem setGun_resetLatch (e : Nat) (x : GunX) : (d.setGun e x).resetLatch = d.resetLatch := rfl
@[simp] theorem setGun_cyc (e : Nat) (x : GunX) : (d.setGun e x).cyc = d.cyc := rfl
@[simp] theorem setGun_clk (e : Nat) (x : GunX) : (d.setGun e x).clk = d.clk := rfl
@[simp] theorem setGun_edge (e : Nat) (x : GunX) : (d.setGun e x).edge = d.edge := rfl
@[simp] theorem setGun_draws (e : Nat) (x : GunX) : (d.setGun e x).draws = d.draws := rfl
@[simp] theorem setGun_dict (e : Nat) (x : GunX) : (d.setGun e x).dict = d.dict := rfl
@[simp] theorem setGun_out (e : Nat) (x : GunX) : (d.setGun e x).out = d.out := rfl
@[simp] theorem setGun_sess (e : Nat) (x : GunX) : (d.setGun e x).sess = d.sess := rfl
@[simp] theorem setGun_proofFails (e : Nat) (x : GunX) : (d.setGun e x).proofFails = d.proofFails := rfl
@[simp] theorem setGun_lockoutUntil (e : Nat) (x : GunX) : (d.setGun e x).lockoutUntil = d.lockoutUntil := rfl
@[simp] theorem setGun_lockRenewed (e : Nat) (x : GunX) : (d.setGun e x).lockRenewed = d.lockRenewed := rfl
@[simp] theorem setGun_groups (e : Nat) (x : GunX) : (d.setGun e x).groups = d.groups := rfl
@[simp] theorem setGun_ring (e : Nat) (x : GunX) : (d.setGun e x).ring = d.ring := rfl
@[simp] theorem setGun_pcie (e : Nat) (x : GunX) : (d.setGun e x).pcie = d.pcie := rfl
@[simp] theorem setGun_jtag (e : Nat) (x : GunX) : (d.setGun e x).jtag = d.jtag := rfl
@[simp] theorem setGun_pins (e : Nat) (x : GunX) : (d.setGun e x).pins = d.pins := rfl
@[simp] theorem setGun_acqAt (e : Nat) (x : GunX) : (d.setGun e x).acqAt = d.acqAt := rfl
@[simp] theorem setGun_drainAt (e : Nat) (x : GunX) : (d.setGun e x).drainAt = d.drainAt := rfl
@[simp] theorem setGun_gunSeq (e : Nat) (x : GunX) : (d.setGun e x).gunSeq = d.gunSeq := rfl
@[simp] theorem setGun_faults (e : Nat) (x : GunX) : (d.setGun e x).faults = d.faults := rfl
@[simp] theorem setGun_keys (e : Nat) (x : GunX) : (d.setGun e x).keys = d.keys := rfl
@[simp] theorem setGun_sas (e : Nat) (x : GunX) : (d.setGun e x).sas = d.sas := rfl
@[simp] theorem setGun_banks (e : Nat) (x : GunX) : (d.setGun e x).banks = d.banks := rfl
@[simp] theorem setGun_pipe (e : Nat) (x : GunX) : (d.setGun e x).pipe = d.pipe := rfl
@[simp] theorem setGun_clsx (e : Nat) (x : GunX) : (d.setGun e x).clsx = d.clsx := rfl
@[simp] theorem setGun_queues (e : Nat) (x : GunX) : (d.setGun e x).queues = d.queues := rfl
@[simp] theorem setGun_nodes (e : Nat) (x : GunX) : (d.setGun e x).nodes = d.nodes := rfl
@[simp] theorem setGun_pairs (e : Nat) (x : GunX) : (d.setGun e x).pairs = d.pairs := rfl
@[simp] theorem setGun_ports (e : Nat) (x : GunX) : (d.setGun e x).ports = d.ports := rfl
@[simp] theorem setGun_laps (e : Nat) (x : GunX) : (d.setGun e x).laps = d.laps := rfl
@[simp] theorem setGun_pmc (e : Nat) (x : GunX) : (d.setGun e x).pmc = d.pmc := rfl
@[simp] theorem setGun_mem (e : Nat) (x : GunX) : (d.setGun e x).mem = d.mem := rfl
@[simp] theorem setGun_otp (e : Nat) (x : GunX) : (d.setGun e x).otp = d.otp := rfl
@[simp] theorem setGun_flash (e : Nat) (x : GunX) : (d.setGun e x).flash = d.flash := rfl
@[simp] theorem setGun_lc (e : Nat) (x : GunX) : (d.setGun e x).lc = d.lc := rfl
@[simp] theorem setGun_fw (e : Nat) (x : GunX) : (d.setGun e x).fw = d.fw := rfl
@[simp] theorem setGun_att (e : Nat) (x : GunX) : (d.setGun e x).att = d.att := rfl
@[simp] theorem setGun_sram (e : Nat) (x : GunX) : (d.setGun e x).sram = d.sram := rfl
@[simp] theorem setGun_time (e : Nat) (x : GunX) : (d.setGun e x).time = d.time := rfl
@[simp] theorem setGun_mon (e : Nat) (x : GunX) : (d.setGun e x).mon = d.mon := rfl
@[simp] theorem setGun_la (e : Nat) (x : GunX) : (d.setGun e x).la = d.la := rfl
@[simp] theorem setGun_rd (e : Nat) (x : GunX) (o r : Nat) : (d.setGun e x).rd o r = d.rd o r := rfl

@[simp] theorem setGunSeq_part (n : Nat) : (d.setGunSeq n).part = d.part := rfl
@[simp] theorem setGunSeq_mode (n : Nat) : (d.setGunSeq n).mode = d.mode := rfl
@[simp] theorem setGunSeq_clockOn (n : Nat) : (d.setGunSeq n).clockOn = d.clockOn := rfl
@[simp] theorem setGunSeq_boot (n : Nat) : (d.setGunSeq n).boot = d.boot := rfl
@[simp] theorem setGunSeq_resetLatch (n : Nat) : (d.setGunSeq n).resetLatch = d.resetLatch := rfl
@[simp] theorem setGunSeq_cyc (n : Nat) : (d.setGunSeq n).cyc = d.cyc := rfl
@[simp] theorem setGunSeq_clk (n : Nat) : (d.setGunSeq n).clk = d.clk := rfl
@[simp] theorem setGunSeq_edge (n : Nat) : (d.setGunSeq n).edge = d.edge := rfl
@[simp] theorem setGunSeq_draws (n : Nat) : (d.setGunSeq n).draws = d.draws := rfl
@[simp] theorem setGunSeq_dict (n : Nat) : (d.setGunSeq n).dict = d.dict := rfl
@[simp] theorem setGunSeq_out (n : Nat) : (d.setGunSeq n).out = d.out := rfl
@[simp] theorem setGunSeq_sess (n : Nat) : (d.setGunSeq n).sess = d.sess := rfl
@[simp] theorem setGunSeq_proofFails (n : Nat) : (d.setGunSeq n).proofFails = d.proofFails := rfl
@[simp] theorem setGunSeq_lockoutUntil (n : Nat) : (d.setGunSeq n).lockoutUntil = d.lockoutUntil := rfl
@[simp] theorem setGunSeq_lockRenewed (n : Nat) : (d.setGunSeq n).lockRenewed = d.lockRenewed := rfl
@[simp] theorem setGunSeq_groups (n : Nat) : (d.setGunSeq n).groups = d.groups := rfl
@[simp] theorem setGunSeq_ring (n : Nat) : (d.setGunSeq n).ring = d.ring := rfl
@[simp] theorem setGunSeq_pcie (n : Nat) : (d.setGunSeq n).pcie = d.pcie := rfl
@[simp] theorem setGunSeq_jtag (n : Nat) : (d.setGunSeq n).jtag = d.jtag := rfl
@[simp] theorem setGunSeq_pins (n : Nat) : (d.setGunSeq n).pins = d.pins := rfl
@[simp] theorem setGunSeq_acqAt (n : Nat) : (d.setGunSeq n).acqAt = d.acqAt := rfl
@[simp] theorem setGunSeq_drainAt (n : Nat) : (d.setGunSeq n).drainAt = d.drainAt := rfl
@[simp] theorem setGunSeq_guns (n : Nat) : (d.setGunSeq n).guns = d.guns := rfl
@[simp] theorem setGunSeq_faults (n : Nat) : (d.setGunSeq n).faults = d.faults := rfl
@[simp] theorem setGunSeq_keys (n : Nat) : (d.setGunSeq n).keys = d.keys := rfl
@[simp] theorem setGunSeq_sas (n : Nat) : (d.setGunSeq n).sas = d.sas := rfl
@[simp] theorem setGunSeq_banks (n : Nat) : (d.setGunSeq n).banks = d.banks := rfl
@[simp] theorem setGunSeq_pipe (n : Nat) : (d.setGunSeq n).pipe = d.pipe := rfl
@[simp] theorem setGunSeq_clsx (n : Nat) : (d.setGunSeq n).clsx = d.clsx := rfl
@[simp] theorem setGunSeq_queues (n : Nat) : (d.setGunSeq n).queues = d.queues := rfl
@[simp] theorem setGunSeq_nodes (n : Nat) : (d.setGunSeq n).nodes = d.nodes := rfl
@[simp] theorem setGunSeq_pairs (n : Nat) : (d.setGunSeq n).pairs = d.pairs := rfl
@[simp] theorem setGunSeq_ports (n : Nat) : (d.setGunSeq n).ports = d.ports := rfl
@[simp] theorem setGunSeq_laps (n : Nat) : (d.setGunSeq n).laps = d.laps := rfl
@[simp] theorem setGunSeq_pmc (n : Nat) : (d.setGunSeq n).pmc = d.pmc := rfl
@[simp] theorem setGunSeq_mem (n : Nat) : (d.setGunSeq n).mem = d.mem := rfl
@[simp] theorem setGunSeq_otp (n : Nat) : (d.setGunSeq n).otp = d.otp := rfl
@[simp] theorem setGunSeq_flash (n : Nat) : (d.setGunSeq n).flash = d.flash := rfl
@[simp] theorem setGunSeq_lc (n : Nat) : (d.setGunSeq n).lc = d.lc := rfl
@[simp] theorem setGunSeq_fw (n : Nat) : (d.setGunSeq n).fw = d.fw := rfl
@[simp] theorem setGunSeq_att (n : Nat) : (d.setGunSeq n).att = d.att := rfl
@[simp] theorem setGunSeq_sram (n : Nat) : (d.setGunSeq n).sram = d.sram := rfl
@[simp] theorem setGunSeq_time (n : Nat) : (d.setGunSeq n).time = d.time := rfl
@[simp] theorem setGunSeq_mon (n : Nat) : (d.setGunSeq n).mon = d.mon := rfl
@[simp] theorem setGunSeq_la (n : Nat) : (d.setGunSeq n).la = d.la := rfl
@[simp] theorem setGunSeq_rd (n : Nat) (o r : Nat) : (d.setGunSeq n).rd o r = d.rd o r := rfl

@[simp] theorem setPort_part (p : Nat) (x : PortX) : (d.setPort p x).part = d.part := rfl
@[simp] theorem setPort_mode (p : Nat) (x : PortX) : (d.setPort p x).mode = d.mode := rfl
@[simp] theorem setPort_clockOn (p : Nat) (x : PortX) : (d.setPort p x).clockOn = d.clockOn := rfl
@[simp] theorem setPort_boot (p : Nat) (x : PortX) : (d.setPort p x).boot = d.boot := rfl
@[simp] theorem setPort_resetLatch (p : Nat) (x : PortX) : (d.setPort p x).resetLatch = d.resetLatch := rfl
@[simp] theorem setPort_cyc (p : Nat) (x : PortX) : (d.setPort p x).cyc = d.cyc := rfl
@[simp] theorem setPort_clk (p : Nat) (x : PortX) : (d.setPort p x).clk = d.clk := rfl
@[simp] theorem setPort_edge (p : Nat) (x : PortX) : (d.setPort p x).edge = d.edge := rfl
@[simp] theorem setPort_draws (p : Nat) (x : PortX) : (d.setPort p x).draws = d.draws := rfl
@[simp] theorem setPort_dict (p : Nat) (x : PortX) : (d.setPort p x).dict = d.dict := rfl
@[simp] theorem setPort_out (p : Nat) (x : PortX) : (d.setPort p x).out = d.out := rfl
@[simp] theorem setPort_sess (p : Nat) (x : PortX) : (d.setPort p x).sess = d.sess := rfl
@[simp] theorem setPort_proofFails (p : Nat) (x : PortX) : (d.setPort p x).proofFails = d.proofFails := rfl
@[simp] theorem setPort_lockoutUntil (p : Nat) (x : PortX) : (d.setPort p x).lockoutUntil = d.lockoutUntil := rfl
@[simp] theorem setPort_lockRenewed (p : Nat) (x : PortX) : (d.setPort p x).lockRenewed = d.lockRenewed := rfl
@[simp] theorem setPort_groups (p : Nat) (x : PortX) : (d.setPort p x).groups = d.groups := rfl
@[simp] theorem setPort_ring (p : Nat) (x : PortX) : (d.setPort p x).ring = d.ring := rfl
@[simp] theorem setPort_pcie (p : Nat) (x : PortX) : (d.setPort p x).pcie = d.pcie := rfl
@[simp] theorem setPort_jtag (p : Nat) (x : PortX) : (d.setPort p x).jtag = d.jtag := rfl
@[simp] theorem setPort_pins (p : Nat) (x : PortX) : (d.setPort p x).pins = d.pins := rfl
@[simp] theorem setPort_acqAt (p : Nat) (x : PortX) : (d.setPort p x).acqAt = d.acqAt := rfl
@[simp] theorem setPort_drainAt (p : Nat) (x : PortX) : (d.setPort p x).drainAt = d.drainAt := rfl
@[simp] theorem setPort_gunSeq (p : Nat) (x : PortX) : (d.setPort p x).gunSeq = d.gunSeq := rfl
@[simp] theorem setPort_guns (p : Nat) (x : PortX) : (d.setPort p x).guns = d.guns := rfl
@[simp] theorem setPort_faults (p : Nat) (x : PortX) : (d.setPort p x).faults = d.faults := rfl
@[simp] theorem setPort_keys (p : Nat) (x : PortX) : (d.setPort p x).keys = d.keys := rfl
@[simp] theorem setPort_sas (p : Nat) (x : PortX) : (d.setPort p x).sas = d.sas := rfl
@[simp] theorem setPort_banks (p : Nat) (x : PortX) : (d.setPort p x).banks = d.banks := rfl
@[simp] theorem setPort_pipe (p : Nat) (x : PortX) : (d.setPort p x).pipe = d.pipe := rfl
@[simp] theorem setPort_clsx (p : Nat) (x : PortX) : (d.setPort p x).clsx = d.clsx := rfl
@[simp] theorem setPort_queues (p : Nat) (x : PortX) : (d.setPort p x).queues = d.queues := rfl
@[simp] theorem setPort_nodes (p : Nat) (x : PortX) : (d.setPort p x).nodes = d.nodes := rfl
@[simp] theorem setPort_pairs (p : Nat) (x : PortX) : (d.setPort p x).pairs = d.pairs := rfl
@[simp] theorem setPort_laps (p : Nat) (x : PortX) : (d.setPort p x).laps = d.laps := rfl
@[simp] theorem setPort_pmc (p : Nat) (x : PortX) : (d.setPort p x).pmc = d.pmc := rfl
@[simp] theorem setPort_mem (p : Nat) (x : PortX) : (d.setPort p x).mem = d.mem := rfl
@[simp] theorem setPort_otp (p : Nat) (x : PortX) : (d.setPort p x).otp = d.otp := rfl
@[simp] theorem setPort_flash (p : Nat) (x : PortX) : (d.setPort p x).flash = d.flash := rfl
@[simp] theorem setPort_lc (p : Nat) (x : PortX) : (d.setPort p x).lc = d.lc := rfl
@[simp] theorem setPort_fw (p : Nat) (x : PortX) : (d.setPort p x).fw = d.fw := rfl
@[simp] theorem setPort_att (p : Nat) (x : PortX) : (d.setPort p x).att = d.att := rfl
@[simp] theorem setPort_sram (p : Nat) (x : PortX) : (d.setPort p x).sram = d.sram := rfl
@[simp] theorem setPort_time (p : Nat) (x : PortX) : (d.setPort p x).time = d.time := rfl
@[simp] theorem setPort_mon (p : Nat) (x : PortX) : (d.setPort p x).mon = d.mon := rfl
@[simp] theorem setPort_la (p : Nat) (x : PortX) : (d.setPort p x).la = d.la := rfl
@[simp] theorem setPort_rd (p : Nat) (x : PortX) (o r : Nat) : (d.setPort p x).rd o r = d.rd o r := rfl

@[simp] theorem setLaps_part (x : LapX) : (d.setLaps x).part = d.part := rfl
@[simp] theorem setLaps_mode (x : LapX) : (d.setLaps x).mode = d.mode := rfl
@[simp] theorem setLaps_clockOn (x : LapX) : (d.setLaps x).clockOn = d.clockOn := rfl
@[simp] theorem setLaps_boot (x : LapX) : (d.setLaps x).boot = d.boot := rfl
@[simp] theorem setLaps_resetLatch (x : LapX) : (d.setLaps x).resetLatch = d.resetLatch := rfl
@[simp] theorem setLaps_cyc (x : LapX) : (d.setLaps x).cyc = d.cyc := rfl
@[simp] theorem setLaps_clk (x : LapX) : (d.setLaps x).clk = d.clk := rfl
@[simp] theorem setLaps_edge (x : LapX) : (d.setLaps x).edge = d.edge := rfl
@[simp] theorem setLaps_draws (x : LapX) : (d.setLaps x).draws = d.draws := rfl
@[simp] theorem setLaps_dict (x : LapX) : (d.setLaps x).dict = d.dict := rfl
@[simp] theorem setLaps_out (x : LapX) : (d.setLaps x).out = d.out := rfl
@[simp] theorem setLaps_sess (x : LapX) : (d.setLaps x).sess = d.sess := rfl
@[simp] theorem setLaps_proofFails (x : LapX) : (d.setLaps x).proofFails = d.proofFails := rfl
@[simp] theorem setLaps_lockoutUntil (x : LapX) : (d.setLaps x).lockoutUntil = d.lockoutUntil := rfl
@[simp] theorem setLaps_lockRenewed (x : LapX) : (d.setLaps x).lockRenewed = d.lockRenewed := rfl
@[simp] theorem setLaps_groups (x : LapX) : (d.setLaps x).groups = d.groups := rfl
@[simp] theorem setLaps_ring (x : LapX) : (d.setLaps x).ring = d.ring := rfl
@[simp] theorem setLaps_pcie (x : LapX) : (d.setLaps x).pcie = d.pcie := rfl
@[simp] theorem setLaps_jtag (x : LapX) : (d.setLaps x).jtag = d.jtag := rfl
@[simp] theorem setLaps_pins (x : LapX) : (d.setLaps x).pins = d.pins := rfl
@[simp] theorem setLaps_acqAt (x : LapX) : (d.setLaps x).acqAt = d.acqAt := rfl
@[simp] theorem setLaps_drainAt (x : LapX) : (d.setLaps x).drainAt = d.drainAt := rfl
@[simp] theorem setLaps_gunSeq (x : LapX) : (d.setLaps x).gunSeq = d.gunSeq := rfl
@[simp] theorem setLaps_guns (x : LapX) : (d.setLaps x).guns = d.guns := rfl
@[simp] theorem setLaps_faults (x : LapX) : (d.setLaps x).faults = d.faults := rfl
@[simp] theorem setLaps_keys (x : LapX) : (d.setLaps x).keys = d.keys := rfl
@[simp] theorem setLaps_sas (x : LapX) : (d.setLaps x).sas = d.sas := rfl
@[simp] theorem setLaps_banks (x : LapX) : (d.setLaps x).banks = d.banks := rfl
@[simp] theorem setLaps_pipe (x : LapX) : (d.setLaps x).pipe = d.pipe := rfl
@[simp] theorem setLaps_clsx (x : LapX) : (d.setLaps x).clsx = d.clsx := rfl
@[simp] theorem setLaps_queues (x : LapX) : (d.setLaps x).queues = d.queues := rfl
@[simp] theorem setLaps_nodes (x : LapX) : (d.setLaps x).nodes = d.nodes := rfl
@[simp] theorem setLaps_pairs (x : LapX) : (d.setLaps x).pairs = d.pairs := rfl
@[simp] theorem setLaps_ports (x : LapX) : (d.setLaps x).ports = d.ports := rfl
@[simp] theorem setLaps_pmc (x : LapX) : (d.setLaps x).pmc = d.pmc := rfl
@[simp] theorem setLaps_mem (x : LapX) : (d.setLaps x).mem = d.mem := rfl
@[simp] theorem setLaps_otp (x : LapX) : (d.setLaps x).otp = d.otp := rfl
@[simp] theorem setLaps_flash (x : LapX) : (d.setLaps x).flash = d.flash := rfl
@[simp] theorem setLaps_lc (x : LapX) : (d.setLaps x).lc = d.lc := rfl
@[simp] theorem setLaps_fw (x : LapX) : (d.setLaps x).fw = d.fw := rfl
@[simp] theorem setLaps_att (x : LapX) : (d.setLaps x).att = d.att := rfl
@[simp] theorem setLaps_sram (x : LapX) : (d.setLaps x).sram = d.sram := rfl
@[simp] theorem setLaps_time (x : LapX) : (d.setLaps x).time = d.time := rfl
@[simp] theorem setLaps_mon (x : LapX) : (d.setLaps x).mon = d.mon := rfl
@[simp] theorem setLaps_la (x : LapX) : (d.setLaps x).la = d.la := rfl
@[simp] theorem setLaps_rd (x : LapX) (o r : Nat) : (d.setLaps x).rd o r = d.rd o r := rfl

@[simp] theorem setPipe_part (x : PipeX) : (d.setPipe x).part = d.part := rfl
@[simp] theorem setPipe_mode (x : PipeX) : (d.setPipe x).mode = d.mode := rfl
@[simp] theorem setPipe_clockOn (x : PipeX) : (d.setPipe x).clockOn = d.clockOn := rfl
@[simp] theorem setPipe_boot (x : PipeX) : (d.setPipe x).boot = d.boot := rfl
@[simp] theorem setPipe_resetLatch (x : PipeX) : (d.setPipe x).resetLatch = d.resetLatch := rfl
@[simp] theorem setPipe_cyc (x : PipeX) : (d.setPipe x).cyc = d.cyc := rfl
@[simp] theorem setPipe_clk (x : PipeX) : (d.setPipe x).clk = d.clk := rfl
@[simp] theorem setPipe_edge (x : PipeX) : (d.setPipe x).edge = d.edge := rfl
@[simp] theorem setPipe_draws (x : PipeX) : (d.setPipe x).draws = d.draws := rfl
@[simp] theorem setPipe_dict (x : PipeX) : (d.setPipe x).dict = d.dict := rfl
@[simp] theorem setPipe_out (x : PipeX) : (d.setPipe x).out = d.out := rfl
@[simp] theorem setPipe_sess (x : PipeX) : (d.setPipe x).sess = d.sess := rfl
@[simp] theorem setPipe_proofFails (x : PipeX) : (d.setPipe x).proofFails = d.proofFails := rfl
@[simp] theorem setPipe_lockoutUntil (x : PipeX) : (d.setPipe x).lockoutUntil = d.lockoutUntil := rfl
@[simp] theorem setPipe_lockRenewed (x : PipeX) : (d.setPipe x).lockRenewed = d.lockRenewed := rfl
@[simp] theorem setPipe_groups (x : PipeX) : (d.setPipe x).groups = d.groups := rfl
@[simp] theorem setPipe_ring (x : PipeX) : (d.setPipe x).ring = d.ring := rfl
@[simp] theorem setPipe_pcie (x : PipeX) : (d.setPipe x).pcie = d.pcie := rfl
@[simp] theorem setPipe_jtag (x : PipeX) : (d.setPipe x).jtag = d.jtag := rfl
@[simp] theorem setPipe_pins (x : PipeX) : (d.setPipe x).pins = d.pins := rfl
@[simp] theorem setPipe_acqAt (x : PipeX) : (d.setPipe x).acqAt = d.acqAt := rfl
@[simp] theorem setPipe_drainAt (x : PipeX) : (d.setPipe x).drainAt = d.drainAt := rfl
@[simp] theorem setPipe_gunSeq (x : PipeX) : (d.setPipe x).gunSeq = d.gunSeq := rfl
@[simp] theorem setPipe_guns (x : PipeX) : (d.setPipe x).guns = d.guns := rfl
@[simp] theorem setPipe_faults (x : PipeX) : (d.setPipe x).faults = d.faults := rfl
@[simp] theorem setPipe_keys (x : PipeX) : (d.setPipe x).keys = d.keys := rfl
@[simp] theorem setPipe_sas (x : PipeX) : (d.setPipe x).sas = d.sas := rfl
@[simp] theorem setPipe_banks (x : PipeX) : (d.setPipe x).banks = d.banks := rfl
@[simp] theorem setPipe_clsx (x : PipeX) : (d.setPipe x).clsx = d.clsx := rfl
@[simp] theorem setPipe_queues (x : PipeX) : (d.setPipe x).queues = d.queues := rfl
@[simp] theorem setPipe_nodes (x : PipeX) : (d.setPipe x).nodes = d.nodes := rfl
@[simp] theorem setPipe_pairs (x : PipeX) : (d.setPipe x).pairs = d.pairs := rfl
@[simp] theorem setPipe_ports (x : PipeX) : (d.setPipe x).ports = d.ports := rfl
@[simp] theorem setPipe_laps (x : PipeX) : (d.setPipe x).laps = d.laps := rfl
@[simp] theorem setPipe_pmc (x : PipeX) : (d.setPipe x).pmc = d.pmc := rfl
@[simp] theorem setPipe_mem (x : PipeX) : (d.setPipe x).mem = d.mem := rfl
@[simp] theorem setPipe_otp (x : PipeX) : (d.setPipe x).otp = d.otp := rfl
@[simp] theorem setPipe_flash (x : PipeX) : (d.setPipe x).flash = d.flash := rfl
@[simp] theorem setPipe_lc (x : PipeX) : (d.setPipe x).lc = d.lc := rfl
@[simp] theorem setPipe_fw (x : PipeX) : (d.setPipe x).fw = d.fw := rfl
@[simp] theorem setPipe_att (x : PipeX) : (d.setPipe x).att = d.att := rfl
@[simp] theorem setPipe_sram (x : PipeX) : (d.setPipe x).sram = d.sram := rfl
@[simp] theorem setPipe_time (x : PipeX) : (d.setPipe x).time = d.time := rfl
@[simp] theorem setPipe_mon (x : PipeX) : (d.setPipe x).mon = d.mon := rfl
@[simp] theorem setPipe_la (x : PipeX) : (d.setPipe x).la = d.la := rfl
@[simp] theorem setPipe_rd (x : PipeX) (o r : Nat) : (d.setPipe x).rd o r = d.rd o r := rfl

@[simp] theorem setQueue_part (q : Nat) (x : QueueX) : (d.setQueue q x).part = d.part := rfl
@[simp] theorem setQueue_mode (q : Nat) (x : QueueX) : (d.setQueue q x).mode = d.mode := rfl
@[simp] theorem setQueue_clockOn (q : Nat) (x : QueueX) : (d.setQueue q x).clockOn = d.clockOn := rfl
@[simp] theorem setQueue_boot (q : Nat) (x : QueueX) : (d.setQueue q x).boot = d.boot := rfl
@[simp] theorem setQueue_resetLatch (q : Nat) (x : QueueX) : (d.setQueue q x).resetLatch = d.resetLatch := rfl
@[simp] theorem setQueue_cyc (q : Nat) (x : QueueX) : (d.setQueue q x).cyc = d.cyc := rfl
@[simp] theorem setQueue_clk (q : Nat) (x : QueueX) : (d.setQueue q x).clk = d.clk := rfl
@[simp] theorem setQueue_edge (q : Nat) (x : QueueX) : (d.setQueue q x).edge = d.edge := rfl
@[simp] theorem setQueue_draws (q : Nat) (x : QueueX) : (d.setQueue q x).draws = d.draws := rfl
@[simp] theorem setQueue_dict (q : Nat) (x : QueueX) : (d.setQueue q x).dict = d.dict := rfl
@[simp] theorem setQueue_out (q : Nat) (x : QueueX) : (d.setQueue q x).out = d.out := rfl
@[simp] theorem setQueue_sess (q : Nat) (x : QueueX) : (d.setQueue q x).sess = d.sess := rfl
@[simp] theorem setQueue_proofFails (q : Nat) (x : QueueX) : (d.setQueue q x).proofFails = d.proofFails := rfl
@[simp] theorem setQueue_lockoutUntil (q : Nat) (x : QueueX) : (d.setQueue q x).lockoutUntil = d.lockoutUntil := rfl
@[simp] theorem setQueue_lockRenewed (q : Nat) (x : QueueX) : (d.setQueue q x).lockRenewed = d.lockRenewed := rfl
@[simp] theorem setQueue_groups (q : Nat) (x : QueueX) : (d.setQueue q x).groups = d.groups := rfl
@[simp] theorem setQueue_ring (q : Nat) (x : QueueX) : (d.setQueue q x).ring = d.ring := rfl
@[simp] theorem setQueue_pcie (q : Nat) (x : QueueX) : (d.setQueue q x).pcie = d.pcie := rfl
@[simp] theorem setQueue_jtag (q : Nat) (x : QueueX) : (d.setQueue q x).jtag = d.jtag := rfl
@[simp] theorem setQueue_pins (q : Nat) (x : QueueX) : (d.setQueue q x).pins = d.pins := rfl
@[simp] theorem setQueue_acqAt (q : Nat) (x : QueueX) : (d.setQueue q x).acqAt = d.acqAt := rfl
@[simp] theorem setQueue_drainAt (q : Nat) (x : QueueX) : (d.setQueue q x).drainAt = d.drainAt := rfl
@[simp] theorem setQueue_gunSeq (q : Nat) (x : QueueX) : (d.setQueue q x).gunSeq = d.gunSeq := rfl
@[simp] theorem setQueue_guns (q : Nat) (x : QueueX) : (d.setQueue q x).guns = d.guns := rfl
@[simp] theorem setQueue_faults (q : Nat) (x : QueueX) : (d.setQueue q x).faults = d.faults := rfl
@[simp] theorem setQueue_keys (q : Nat) (x : QueueX) : (d.setQueue q x).keys = d.keys := rfl
@[simp] theorem setQueue_sas (q : Nat) (x : QueueX) : (d.setQueue q x).sas = d.sas := rfl
@[simp] theorem setQueue_banks (q : Nat) (x : QueueX) : (d.setQueue q x).banks = d.banks := rfl
@[simp] theorem setQueue_pipe (q : Nat) (x : QueueX) : (d.setQueue q x).pipe = d.pipe := rfl
@[simp] theorem setQueue_clsx (q : Nat) (x : QueueX) : (d.setQueue q x).clsx = d.clsx := rfl
@[simp] theorem setQueue_nodes (q : Nat) (x : QueueX) : (d.setQueue q x).nodes = d.nodes := rfl
@[simp] theorem setQueue_pairs (q : Nat) (x : QueueX) : (d.setQueue q x).pairs = d.pairs := rfl
@[simp] theorem setQueue_ports (q : Nat) (x : QueueX) : (d.setQueue q x).ports = d.ports := rfl
@[simp] theorem setQueue_laps (q : Nat) (x : QueueX) : (d.setQueue q x).laps = d.laps := rfl
@[simp] theorem setQueue_pmc (q : Nat) (x : QueueX) : (d.setQueue q x).pmc = d.pmc := rfl
@[simp] theorem setQueue_mem (q : Nat) (x : QueueX) : (d.setQueue q x).mem = d.mem := rfl
@[simp] theorem setQueue_otp (q : Nat) (x : QueueX) : (d.setQueue q x).otp = d.otp := rfl
@[simp] theorem setQueue_flash (q : Nat) (x : QueueX) : (d.setQueue q x).flash = d.flash := rfl
@[simp] theorem setQueue_lc (q : Nat) (x : QueueX) : (d.setQueue q x).lc = d.lc := rfl
@[simp] theorem setQueue_fw (q : Nat) (x : QueueX) : (d.setQueue q x).fw = d.fw := rfl
@[simp] theorem setQueue_att (q : Nat) (x : QueueX) : (d.setQueue q x).att = d.att := rfl
@[simp] theorem setQueue_sram (q : Nat) (x : QueueX) : (d.setQueue q x).sram = d.sram := rfl
@[simp] theorem setQueue_time (q : Nat) (x : QueueX) : (d.setQueue q x).time = d.time := rfl
@[simp] theorem setQueue_mon (q : Nat) (x : QueueX) : (d.setQueue q x).mon = d.mon := rfl
@[simp] theorem setQueue_la (q : Nat) (x : QueueX) : (d.setQueue q x).la = d.la := rfl
@[simp] theorem setQueue_rd (q : Nat) (x : QueueX) (o r : Nat) : (d.setQueue q x).rd o r = d.rd o r := rfl

@[simp] theorem setNode_part (n : Nat) (x : NodeX) : (d.setNode n x).part = d.part := rfl
@[simp] theorem setNode_mode (n : Nat) (x : NodeX) : (d.setNode n x).mode = d.mode := rfl
@[simp] theorem setNode_clockOn (n : Nat) (x : NodeX) : (d.setNode n x).clockOn = d.clockOn := rfl
@[simp] theorem setNode_boot (n : Nat) (x : NodeX) : (d.setNode n x).boot = d.boot := rfl
@[simp] theorem setNode_resetLatch (n : Nat) (x : NodeX) : (d.setNode n x).resetLatch = d.resetLatch := rfl
@[simp] theorem setNode_cyc (n : Nat) (x : NodeX) : (d.setNode n x).cyc = d.cyc := rfl
@[simp] theorem setNode_clk (n : Nat) (x : NodeX) : (d.setNode n x).clk = d.clk := rfl
@[simp] theorem setNode_edge (n : Nat) (x : NodeX) : (d.setNode n x).edge = d.edge := rfl
@[simp] theorem setNode_draws (n : Nat) (x : NodeX) : (d.setNode n x).draws = d.draws := rfl
@[simp] theorem setNode_dict (n : Nat) (x : NodeX) : (d.setNode n x).dict = d.dict := rfl
@[simp] theorem setNode_out (n : Nat) (x : NodeX) : (d.setNode n x).out = d.out := rfl
@[simp] theorem setNode_sess (n : Nat) (x : NodeX) : (d.setNode n x).sess = d.sess := rfl
@[simp] theorem setNode_proofFails (n : Nat) (x : NodeX) : (d.setNode n x).proofFails = d.proofFails := rfl
@[simp] theorem setNode_lockoutUntil (n : Nat) (x : NodeX) : (d.setNode n x).lockoutUntil = d.lockoutUntil := rfl
@[simp] theorem setNode_lockRenewed (n : Nat) (x : NodeX) : (d.setNode n x).lockRenewed = d.lockRenewed := rfl
@[simp] theorem setNode_groups (n : Nat) (x : NodeX) : (d.setNode n x).groups = d.groups := rfl
@[simp] theorem setNode_ring (n : Nat) (x : NodeX) : (d.setNode n x).ring = d.ring := rfl
@[simp] theorem setNode_pcie (n : Nat) (x : NodeX) : (d.setNode n x).pcie = d.pcie := rfl
@[simp] theorem setNode_jtag (n : Nat) (x : NodeX) : (d.setNode n x).jtag = d.jtag := rfl
@[simp] theorem setNode_pins (n : Nat) (x : NodeX) : (d.setNode n x).pins = d.pins := rfl
@[simp] theorem setNode_acqAt (n : Nat) (x : NodeX) : (d.setNode n x).acqAt = d.acqAt := rfl
@[simp] theorem setNode_drainAt (n : Nat) (x : NodeX) : (d.setNode n x).drainAt = d.drainAt := rfl
@[simp] theorem setNode_gunSeq (n : Nat) (x : NodeX) : (d.setNode n x).gunSeq = d.gunSeq := rfl
@[simp] theorem setNode_guns (n : Nat) (x : NodeX) : (d.setNode n x).guns = d.guns := rfl
@[simp] theorem setNode_faults (n : Nat) (x : NodeX) : (d.setNode n x).faults = d.faults := rfl
@[simp] theorem setNode_keys (n : Nat) (x : NodeX) : (d.setNode n x).keys = d.keys := rfl
@[simp] theorem setNode_sas (n : Nat) (x : NodeX) : (d.setNode n x).sas = d.sas := rfl
@[simp] theorem setNode_banks (n : Nat) (x : NodeX) : (d.setNode n x).banks = d.banks := rfl
@[simp] theorem setNode_pipe (n : Nat) (x : NodeX) : (d.setNode n x).pipe = d.pipe := rfl
@[simp] theorem setNode_clsx (n : Nat) (x : NodeX) : (d.setNode n x).clsx = d.clsx := rfl
@[simp] theorem setNode_queues (n : Nat) (x : NodeX) : (d.setNode n x).queues = d.queues := rfl
@[simp] theorem setNode_pairs (n : Nat) (x : NodeX) : (d.setNode n x).pairs = d.pairs := rfl
@[simp] theorem setNode_ports (n : Nat) (x : NodeX) : (d.setNode n x).ports = d.ports := rfl
@[simp] theorem setNode_laps (n : Nat) (x : NodeX) : (d.setNode n x).laps = d.laps := rfl
@[simp] theorem setNode_pmc (n : Nat) (x : NodeX) : (d.setNode n x).pmc = d.pmc := rfl
@[simp] theorem setNode_mem (n : Nat) (x : NodeX) : (d.setNode n x).mem = d.mem := rfl
@[simp] theorem setNode_otp (n : Nat) (x : NodeX) : (d.setNode n x).otp = d.otp := rfl
@[simp] theorem setNode_flash (n : Nat) (x : NodeX) : (d.setNode n x).flash = d.flash := rfl
@[simp] theorem setNode_lc (n : Nat) (x : NodeX) : (d.setNode n x).lc = d.lc := rfl
@[simp] theorem setNode_fw (n : Nat) (x : NodeX) : (d.setNode n x).fw = d.fw := rfl
@[simp] theorem setNode_att (n : Nat) (x : NodeX) : (d.setNode n x).att = d.att := rfl
@[simp] theorem setNode_sram (n : Nat) (x : NodeX) : (d.setNode n x).sram = d.sram := rfl
@[simp] theorem setNode_time (n : Nat) (x : NodeX) : (d.setNode n x).time = d.time := rfl
@[simp] theorem setNode_mon (n : Nat) (x : NodeX) : (d.setNode n x).mon = d.mon := rfl
@[simp] theorem setNode_la (n : Nat) (x : NodeX) : (d.setNode n x).la = d.la := rfl
@[simp] theorem setNode_rd (n : Nat) (x : NodeX) (o r : Nat) : (d.setNode n x).rd o r = d.rd o r := rfl

@[simp] theorem setPair_part (k : Nat) (x : PairX) : (d.setPair k x).part = d.part := rfl
@[simp] theorem setPair_mode (k : Nat) (x : PairX) : (d.setPair k x).mode = d.mode := rfl
@[simp] theorem setPair_clockOn (k : Nat) (x : PairX) : (d.setPair k x).clockOn = d.clockOn := rfl
@[simp] theorem setPair_boot (k : Nat) (x : PairX) : (d.setPair k x).boot = d.boot := rfl
@[simp] theorem setPair_resetLatch (k : Nat) (x : PairX) : (d.setPair k x).resetLatch = d.resetLatch := rfl
@[simp] theorem setPair_cyc (k : Nat) (x : PairX) : (d.setPair k x).cyc = d.cyc := rfl
@[simp] theorem setPair_clk (k : Nat) (x : PairX) : (d.setPair k x).clk = d.clk := rfl
@[simp] theorem setPair_edge (k : Nat) (x : PairX) : (d.setPair k x).edge = d.edge := rfl
@[simp] theorem setPair_draws (k : Nat) (x : PairX) : (d.setPair k x).draws = d.draws := rfl
@[simp] theorem setPair_dict (k : Nat) (x : PairX) : (d.setPair k x).dict = d.dict := rfl
@[simp] theorem setPair_out (k : Nat) (x : PairX) : (d.setPair k x).out = d.out := rfl
@[simp] theorem setPair_sess (k : Nat) (x : PairX) : (d.setPair k x).sess = d.sess := rfl
@[simp] theorem setPair_proofFails (k : Nat) (x : PairX) : (d.setPair k x).proofFails = d.proofFails := rfl
@[simp] theorem setPair_lockoutUntil (k : Nat) (x : PairX) : (d.setPair k x).lockoutUntil = d.lockoutUntil := rfl
@[simp] theorem setPair_lockRenewed (k : Nat) (x : PairX) : (d.setPair k x).lockRenewed = d.lockRenewed := rfl
@[simp] theorem setPair_groups (k : Nat) (x : PairX) : (d.setPair k x).groups = d.groups := rfl
@[simp] theorem setPair_ring (k : Nat) (x : PairX) : (d.setPair k x).ring = d.ring := rfl
@[simp] theorem setPair_pcie (k : Nat) (x : PairX) : (d.setPair k x).pcie = d.pcie := rfl
@[simp] theorem setPair_jtag (k : Nat) (x : PairX) : (d.setPair k x).jtag = d.jtag := rfl
@[simp] theorem setPair_pins (k : Nat) (x : PairX) : (d.setPair k x).pins = d.pins := rfl
@[simp] theorem setPair_acqAt (k : Nat) (x : PairX) : (d.setPair k x).acqAt = d.acqAt := rfl
@[simp] theorem setPair_drainAt (k : Nat) (x : PairX) : (d.setPair k x).drainAt = d.drainAt := rfl
@[simp] theorem setPair_gunSeq (k : Nat) (x : PairX) : (d.setPair k x).gunSeq = d.gunSeq := rfl
@[simp] theorem setPair_guns (k : Nat) (x : PairX) : (d.setPair k x).guns = d.guns := rfl
@[simp] theorem setPair_faults (k : Nat) (x : PairX) : (d.setPair k x).faults = d.faults := rfl
@[simp] theorem setPair_keys (k : Nat) (x : PairX) : (d.setPair k x).keys = d.keys := rfl
@[simp] theorem setPair_sas (k : Nat) (x : PairX) : (d.setPair k x).sas = d.sas := rfl
@[simp] theorem setPair_banks (k : Nat) (x : PairX) : (d.setPair k x).banks = d.banks := rfl
@[simp] theorem setPair_pipe (k : Nat) (x : PairX) : (d.setPair k x).pipe = d.pipe := rfl
@[simp] theorem setPair_clsx (k : Nat) (x : PairX) : (d.setPair k x).clsx = d.clsx := rfl
@[simp] theorem setPair_queues (k : Nat) (x : PairX) : (d.setPair k x).queues = d.queues := rfl
@[simp] theorem setPair_nodes (k : Nat) (x : PairX) : (d.setPair k x).nodes = d.nodes := rfl
@[simp] theorem setPair_ports (k : Nat) (x : PairX) : (d.setPair k x).ports = d.ports := rfl
@[simp] theorem setPair_laps (k : Nat) (x : PairX) : (d.setPair k x).laps = d.laps := rfl
@[simp] theorem setPair_pmc (k : Nat) (x : PairX) : (d.setPair k x).pmc = d.pmc := rfl
@[simp] theorem setPair_mem (k : Nat) (x : PairX) : (d.setPair k x).mem = d.mem := rfl
@[simp] theorem setPair_otp (k : Nat) (x : PairX) : (d.setPair k x).otp = d.otp := rfl
@[simp] theorem setPair_flash (k : Nat) (x : PairX) : (d.setPair k x).flash = d.flash := rfl
@[simp] theorem setPair_lc (k : Nat) (x : PairX) : (d.setPair k x).lc = d.lc := rfl
@[simp] theorem setPair_fw (k : Nat) (x : PairX) : (d.setPair k x).fw = d.fw := rfl
@[simp] theorem setPair_att (k : Nat) (x : PairX) : (d.setPair k x).att = d.att := rfl
@[simp] theorem setPair_sram (k : Nat) (x : PairX) : (d.setPair k x).sram = d.sram := rfl
@[simp] theorem setPair_time (k : Nat) (x : PairX) : (d.setPair k x).time = d.time := rfl
@[simp] theorem setPair_mon (k : Nat) (x : PairX) : (d.setPair k x).mon = d.mon := rfl
@[simp] theorem setPair_la (k : Nat) (x : PairX) : (d.setPair k x).la = d.la := rfl
@[simp] theorem setPair_rd (k : Nat) (x : PairX) (o r : Nat) : (d.setPair k x).rd o r = d.rd o r := rfl

@[simp] theorem setBank_part (b : Nat) (x : BankX) : (d.setBank b x).part = d.part := rfl
@[simp] theorem setBank_mode (b : Nat) (x : BankX) : (d.setBank b x).mode = d.mode := rfl
@[simp] theorem setBank_clockOn (b : Nat) (x : BankX) : (d.setBank b x).clockOn = d.clockOn := rfl
@[simp] theorem setBank_boot (b : Nat) (x : BankX) : (d.setBank b x).boot = d.boot := rfl
@[simp] theorem setBank_resetLatch (b : Nat) (x : BankX) : (d.setBank b x).resetLatch = d.resetLatch := rfl
@[simp] theorem setBank_cyc (b : Nat) (x : BankX) : (d.setBank b x).cyc = d.cyc := rfl
@[simp] theorem setBank_clk (b : Nat) (x : BankX) : (d.setBank b x).clk = d.clk := rfl
@[simp] theorem setBank_edge (b : Nat) (x : BankX) : (d.setBank b x).edge = d.edge := rfl
@[simp] theorem setBank_draws (b : Nat) (x : BankX) : (d.setBank b x).draws = d.draws := rfl
@[simp] theorem setBank_dict (b : Nat) (x : BankX) : (d.setBank b x).dict = d.dict := rfl
@[simp] theorem setBank_out (b : Nat) (x : BankX) : (d.setBank b x).out = d.out := rfl
@[simp] theorem setBank_sess (b : Nat) (x : BankX) : (d.setBank b x).sess = d.sess := rfl
@[simp] theorem setBank_proofFails (b : Nat) (x : BankX) : (d.setBank b x).proofFails = d.proofFails := rfl
@[simp] theorem setBank_lockoutUntil (b : Nat) (x : BankX) : (d.setBank b x).lockoutUntil = d.lockoutUntil := rfl
@[simp] theorem setBank_lockRenewed (b : Nat) (x : BankX) : (d.setBank b x).lockRenewed = d.lockRenewed := rfl
@[simp] theorem setBank_groups (b : Nat) (x : BankX) : (d.setBank b x).groups = d.groups := rfl
@[simp] theorem setBank_ring (b : Nat) (x : BankX) : (d.setBank b x).ring = d.ring := rfl
@[simp] theorem setBank_pcie (b : Nat) (x : BankX) : (d.setBank b x).pcie = d.pcie := rfl
@[simp] theorem setBank_jtag (b : Nat) (x : BankX) : (d.setBank b x).jtag = d.jtag := rfl
@[simp] theorem setBank_pins (b : Nat) (x : BankX) : (d.setBank b x).pins = d.pins := rfl
@[simp] theorem setBank_acqAt (b : Nat) (x : BankX) : (d.setBank b x).acqAt = d.acqAt := rfl
@[simp] theorem setBank_drainAt (b : Nat) (x : BankX) : (d.setBank b x).drainAt = d.drainAt := rfl
@[simp] theorem setBank_gunSeq (b : Nat) (x : BankX) : (d.setBank b x).gunSeq = d.gunSeq := rfl
@[simp] theorem setBank_guns (b : Nat) (x : BankX) : (d.setBank b x).guns = d.guns := rfl
@[simp] theorem setBank_faults (b : Nat) (x : BankX) : (d.setBank b x).faults = d.faults := rfl
@[simp] theorem setBank_keys (b : Nat) (x : BankX) : (d.setBank b x).keys = d.keys := rfl
@[simp] theorem setBank_sas (b : Nat) (x : BankX) : (d.setBank b x).sas = d.sas := rfl
@[simp] theorem setBank_pipe (b : Nat) (x : BankX) : (d.setBank b x).pipe = d.pipe := rfl
@[simp] theorem setBank_clsx (b : Nat) (x : BankX) : (d.setBank b x).clsx = d.clsx := rfl
@[simp] theorem setBank_queues (b : Nat) (x : BankX) : (d.setBank b x).queues = d.queues := rfl
@[simp] theorem setBank_nodes (b : Nat) (x : BankX) : (d.setBank b x).nodes = d.nodes := rfl
@[simp] theorem setBank_pairs (b : Nat) (x : BankX) : (d.setBank b x).pairs = d.pairs := rfl
@[simp] theorem setBank_ports (b : Nat) (x : BankX) : (d.setBank b x).ports = d.ports := rfl
@[simp] theorem setBank_laps (b : Nat) (x : BankX) : (d.setBank b x).laps = d.laps := rfl
@[simp] theorem setBank_pmc (b : Nat) (x : BankX) : (d.setBank b x).pmc = d.pmc := rfl
@[simp] theorem setBank_mem (b : Nat) (x : BankX) : (d.setBank b x).mem = d.mem := rfl
@[simp] theorem setBank_otp (b : Nat) (x : BankX) : (d.setBank b x).otp = d.otp := rfl
@[simp] theorem setBank_flash (b : Nat) (x : BankX) : (d.setBank b x).flash = d.flash := rfl
@[simp] theorem setBank_lc (b : Nat) (x : BankX) : (d.setBank b x).lc = d.lc := rfl
@[simp] theorem setBank_fw (b : Nat) (x : BankX) : (d.setBank b x).fw = d.fw := rfl
@[simp] theorem setBank_att (b : Nat) (x : BankX) : (d.setBank b x).att = d.att := rfl
@[simp] theorem setBank_sram (b : Nat) (x : BankX) : (d.setBank b x).sram = d.sram := rfl
@[simp] theorem setBank_time (b : Nat) (x : BankX) : (d.setBank b x).time = d.time := rfl
@[simp] theorem setBank_mon (b : Nat) (x : BankX) : (d.setBank b x).mon = d.mon := rfl
@[simp] theorem setBank_la (b : Nat) (x : BankX) : (d.setBank b x).la = d.la := rfl
@[simp] theorem setBank_rd (b : Nat) (x : BankX) (o r : Nat) : (d.setBank b x).rd o r = d.rd o r := rfl

@[simp] theorem setRec_part (pr : Nat) (x : SaRec) : (d.setRec pr x).part = d.part := rfl
@[simp] theorem setRec_mode (pr : Nat) (x : SaRec) : (d.setRec pr x).mode = d.mode := rfl
@[simp] theorem setRec_clockOn (pr : Nat) (x : SaRec) : (d.setRec pr x).clockOn = d.clockOn := rfl
@[simp] theorem setRec_boot (pr : Nat) (x : SaRec) : (d.setRec pr x).boot = d.boot := rfl
@[simp] theorem setRec_resetLatch (pr : Nat) (x : SaRec) : (d.setRec pr x).resetLatch = d.resetLatch := rfl
@[simp] theorem setRec_cyc (pr : Nat) (x : SaRec) : (d.setRec pr x).cyc = d.cyc := rfl
@[simp] theorem setRec_clk (pr : Nat) (x : SaRec) : (d.setRec pr x).clk = d.clk := rfl
@[simp] theorem setRec_edge (pr : Nat) (x : SaRec) : (d.setRec pr x).edge = d.edge := rfl
@[simp] theorem setRec_draws (pr : Nat) (x : SaRec) : (d.setRec pr x).draws = d.draws := rfl
@[simp] theorem setRec_dict (pr : Nat) (x : SaRec) : (d.setRec pr x).dict = d.dict := rfl
@[simp] theorem setRec_out (pr : Nat) (x : SaRec) : (d.setRec pr x).out = d.out := rfl
@[simp] theorem setRec_sess (pr : Nat) (x : SaRec) : (d.setRec pr x).sess = d.sess := rfl
@[simp] theorem setRec_proofFails (pr : Nat) (x : SaRec) : (d.setRec pr x).proofFails = d.proofFails := rfl
@[simp] theorem setRec_lockoutUntil (pr : Nat) (x : SaRec) : (d.setRec pr x).lockoutUntil = d.lockoutUntil := rfl
@[simp] theorem setRec_lockRenewed (pr : Nat) (x : SaRec) : (d.setRec pr x).lockRenewed = d.lockRenewed := rfl
@[simp] theorem setRec_groups (pr : Nat) (x : SaRec) : (d.setRec pr x).groups = d.groups := rfl
@[simp] theorem setRec_ring (pr : Nat) (x : SaRec) : (d.setRec pr x).ring = d.ring := rfl
@[simp] theorem setRec_pcie (pr : Nat) (x : SaRec) : (d.setRec pr x).pcie = d.pcie := rfl
@[simp] theorem setRec_jtag (pr : Nat) (x : SaRec) : (d.setRec pr x).jtag = d.jtag := rfl
@[simp] theorem setRec_pins (pr : Nat) (x : SaRec) : (d.setRec pr x).pins = d.pins := rfl
@[simp] theorem setRec_acqAt (pr : Nat) (x : SaRec) : (d.setRec pr x).acqAt = d.acqAt := rfl
@[simp] theorem setRec_drainAt (pr : Nat) (x : SaRec) : (d.setRec pr x).drainAt = d.drainAt := rfl
@[simp] theorem setRec_gunSeq (pr : Nat) (x : SaRec) : (d.setRec pr x).gunSeq = d.gunSeq := rfl
@[simp] theorem setRec_guns (pr : Nat) (x : SaRec) : (d.setRec pr x).guns = d.guns := rfl
@[simp] theorem setRec_faults (pr : Nat) (x : SaRec) : (d.setRec pr x).faults = d.faults := rfl
@[simp] theorem setRec_keys (pr : Nat) (x : SaRec) : (d.setRec pr x).keys = d.keys := rfl
@[simp] theorem setRec_banks (pr : Nat) (x : SaRec) : (d.setRec pr x).banks = d.banks := rfl
@[simp] theorem setRec_pipe (pr : Nat) (x : SaRec) : (d.setRec pr x).pipe = d.pipe := rfl
@[simp] theorem setRec_clsx (pr : Nat) (x : SaRec) : (d.setRec pr x).clsx = d.clsx := rfl
@[simp] theorem setRec_queues (pr : Nat) (x : SaRec) : (d.setRec pr x).queues = d.queues := rfl
@[simp] theorem setRec_nodes (pr : Nat) (x : SaRec) : (d.setRec pr x).nodes = d.nodes := rfl
@[simp] theorem setRec_pairs (pr : Nat) (x : SaRec) : (d.setRec pr x).pairs = d.pairs := rfl
@[simp] theorem setRec_ports (pr : Nat) (x : SaRec) : (d.setRec pr x).ports = d.ports := rfl
@[simp] theorem setRec_laps (pr : Nat) (x : SaRec) : (d.setRec pr x).laps = d.laps := rfl
@[simp] theorem setRec_pmc (pr : Nat) (x : SaRec) : (d.setRec pr x).pmc = d.pmc := rfl
@[simp] theorem setRec_mem (pr : Nat) (x : SaRec) : (d.setRec pr x).mem = d.mem := rfl
@[simp] theorem setRec_otp (pr : Nat) (x : SaRec) : (d.setRec pr x).otp = d.otp := rfl
@[simp] theorem setRec_flash (pr : Nat) (x : SaRec) : (d.setRec pr x).flash = d.flash := rfl
@[simp] theorem setRec_lc (pr : Nat) (x : SaRec) : (d.setRec pr x).lc = d.lc := rfl
@[simp] theorem setRec_fw (pr : Nat) (x : SaRec) : (d.setRec pr x).fw = d.fw := rfl
@[simp] theorem setRec_att (pr : Nat) (x : SaRec) : (d.setRec pr x).att = d.att := rfl
@[simp] theorem setRec_sram (pr : Nat) (x : SaRec) : (d.setRec pr x).sram = d.sram := rfl
@[simp] theorem setRec_time (pr : Nat) (x : SaRec) : (d.setRec pr x).time = d.time := rfl
@[simp] theorem setRec_mon (pr : Nat) (x : SaRec) : (d.setRec pr x).mon = d.mon := rfl
@[simp] theorem setRec_la (pr : Nat) (x : SaRec) : (d.setRec pr x).la = d.la := rfl
@[simp] theorem setRec_rd (pr : Nat) (x : SaRec) (o r : Nat) : (d.setRec pr x).rd o r = d.rd o r := rfl

@[simp] theorem setCtx_part (slot : Nat) (x : SaCtx) : (d.setCtx slot x).part = d.part := rfl
@[simp] theorem setCtx_mode (slot : Nat) (x : SaCtx) : (d.setCtx slot x).mode = d.mode := rfl
@[simp] theorem setCtx_clockOn (slot : Nat) (x : SaCtx) : (d.setCtx slot x).clockOn = d.clockOn := rfl
@[simp] theorem setCtx_boot (slot : Nat) (x : SaCtx) : (d.setCtx slot x).boot = d.boot := rfl
@[simp] theorem setCtx_resetLatch (slot : Nat) (x : SaCtx) : (d.setCtx slot x).resetLatch = d.resetLatch := rfl
@[simp] theorem setCtx_cyc (slot : Nat) (x : SaCtx) : (d.setCtx slot x).cyc = d.cyc := rfl
@[simp] theorem setCtx_clk (slot : Nat) (x : SaCtx) : (d.setCtx slot x).clk = d.clk := rfl
@[simp] theorem setCtx_edge (slot : Nat) (x : SaCtx) : (d.setCtx slot x).edge = d.edge := rfl
@[simp] theorem setCtx_draws (slot : Nat) (x : SaCtx) : (d.setCtx slot x).draws = d.draws := rfl
@[simp] theorem setCtx_dict (slot : Nat) (x : SaCtx) : (d.setCtx slot x).dict = d.dict := rfl
@[simp] theorem setCtx_out (slot : Nat) (x : SaCtx) : (d.setCtx slot x).out = d.out := rfl
@[simp] theorem setCtx_sess (slot : Nat) (x : SaCtx) : (d.setCtx slot x).sess = d.sess := rfl
@[simp] theorem setCtx_proofFails (slot : Nat) (x : SaCtx) : (d.setCtx slot x).proofFails = d.proofFails := rfl
@[simp] theorem setCtx_lockoutUntil (slot : Nat) (x : SaCtx) : (d.setCtx slot x).lockoutUntil = d.lockoutUntil := rfl
@[simp] theorem setCtx_lockRenewed (slot : Nat) (x : SaCtx) : (d.setCtx slot x).lockRenewed = d.lockRenewed := rfl
@[simp] theorem setCtx_groups (slot : Nat) (x : SaCtx) : (d.setCtx slot x).groups = d.groups := rfl
@[simp] theorem setCtx_ring (slot : Nat) (x : SaCtx) : (d.setCtx slot x).ring = d.ring := rfl
@[simp] theorem setCtx_pcie (slot : Nat) (x : SaCtx) : (d.setCtx slot x).pcie = d.pcie := rfl
@[simp] theorem setCtx_jtag (slot : Nat) (x : SaCtx) : (d.setCtx slot x).jtag = d.jtag := rfl
@[simp] theorem setCtx_pins (slot : Nat) (x : SaCtx) : (d.setCtx slot x).pins = d.pins := rfl
@[simp] theorem setCtx_acqAt (slot : Nat) (x : SaCtx) : (d.setCtx slot x).acqAt = d.acqAt := rfl
@[simp] theorem setCtx_drainAt (slot : Nat) (x : SaCtx) : (d.setCtx slot x).drainAt = d.drainAt := rfl
@[simp] theorem setCtx_gunSeq (slot : Nat) (x : SaCtx) : (d.setCtx slot x).gunSeq = d.gunSeq := rfl
@[simp] theorem setCtx_guns (slot : Nat) (x : SaCtx) : (d.setCtx slot x).guns = d.guns := rfl
@[simp] theorem setCtx_faults (slot : Nat) (x : SaCtx) : (d.setCtx slot x).faults = d.faults := rfl
@[simp] theorem setCtx_keys (slot : Nat) (x : SaCtx) : (d.setCtx slot x).keys = d.keys := rfl
@[simp] theorem setCtx_banks (slot : Nat) (x : SaCtx) : (d.setCtx slot x).banks = d.banks := rfl
@[simp] theorem setCtx_pipe (slot : Nat) (x : SaCtx) : (d.setCtx slot x).pipe = d.pipe := rfl
@[simp] theorem setCtx_clsx (slot : Nat) (x : SaCtx) : (d.setCtx slot x).clsx = d.clsx := rfl
@[simp] theorem setCtx_queues (slot : Nat) (x : SaCtx) : (d.setCtx slot x).queues = d.queues := rfl
@[simp] theorem setCtx_nodes (slot : Nat) (x : SaCtx) : (d.setCtx slot x).nodes = d.nodes := rfl
@[simp] theorem setCtx_pairs (slot : Nat) (x : SaCtx) : (d.setCtx slot x).pairs = d.pairs := rfl
@[simp] theorem setCtx_ports (slot : Nat) (x : SaCtx) : (d.setCtx slot x).ports = d.ports := rfl
@[simp] theorem setCtx_laps (slot : Nat) (x : SaCtx) : (d.setCtx slot x).laps = d.laps := rfl
@[simp] theorem setCtx_pmc (slot : Nat) (x : SaCtx) : (d.setCtx slot x).pmc = d.pmc := rfl
@[simp] theorem setCtx_mem (slot : Nat) (x : SaCtx) : (d.setCtx slot x).mem = d.mem := rfl
@[simp] theorem setCtx_otp (slot : Nat) (x : SaCtx) : (d.setCtx slot x).otp = d.otp := rfl
@[simp] theorem setCtx_flash (slot : Nat) (x : SaCtx) : (d.setCtx slot x).flash = d.flash := rfl
@[simp] theorem setCtx_lc (slot : Nat) (x : SaCtx) : (d.setCtx slot x).lc = d.lc := rfl
@[simp] theorem setCtx_fw (slot : Nat) (x : SaCtx) : (d.setCtx slot x).fw = d.fw := rfl
@[simp] theorem setCtx_att (slot : Nat) (x : SaCtx) : (d.setCtx slot x).att = d.att := rfl
@[simp] theorem setCtx_sram (slot : Nat) (x : SaCtx) : (d.setCtx slot x).sram = d.sram := rfl
@[simp] theorem setCtx_time (slot : Nat) (x : SaCtx) : (d.setCtx slot x).time = d.time := rfl
@[simp] theorem setCtx_mon (slot : Nat) (x : SaCtx) : (d.setCtx slot x).mon = d.mon := rfl
@[simp] theorem setCtx_la (slot : Nat) (x : SaCtx) : (d.setCtx slot x).la = d.la := rfl
@[simp] theorem setCtx_rd (slot : Nat) (x : SaCtx) (o r : Nat) : (d.setCtx slot x).rd o r = d.rd o r := rfl

@[simp] theorem setHoldUntil_part (sc : Nat) (v : Nat) : (d.setHoldUntil sc v).part = d.part := rfl
@[simp] theorem setHoldUntil_mode (sc : Nat) (v : Nat) : (d.setHoldUntil sc v).mode = d.mode := rfl
@[simp] theorem setHoldUntil_clockOn (sc : Nat) (v : Nat) : (d.setHoldUntil sc v).clockOn = d.clockOn := rfl
@[simp] theorem setHoldUntil_boot (sc : Nat) (v : Nat) : (d.setHoldUntil sc v).boot = d.boot := rfl
@[simp] theorem setHoldUntil_resetLatch (sc : Nat) (v : Nat) : (d.setHoldUntil sc v).resetLatch = d.resetLatch := rfl
@[simp] theorem setHoldUntil_cyc (sc : Nat) (v : Nat) : (d.setHoldUntil sc v).cyc = d.cyc := rfl
@[simp] theorem setHoldUntil_clk (sc : Nat) (v : Nat) : (d.setHoldUntil sc v).clk = d.clk := rfl
@[simp] theorem setHoldUntil_edge (sc : Nat) (v : Nat) : (d.setHoldUntil sc v).edge = d.edge := rfl
@[simp] theorem setHoldUntil_draws (sc : Nat) (v : Nat) : (d.setHoldUntil sc v).draws = d.draws := rfl
@[simp] theorem setHoldUntil_dict (sc : Nat) (v : Nat) : (d.setHoldUntil sc v).dict = d.dict := rfl
@[simp] theorem setHoldUntil_out (sc : Nat) (v : Nat) : (d.setHoldUntil sc v).out = d.out := rfl
@[simp] theorem setHoldUntil_sess (sc : Nat) (v : Nat) : (d.setHoldUntil sc v).sess = d.sess := rfl
@[simp] theorem setHoldUntil_proofFails (sc : Nat) (v : Nat) : (d.setHoldUntil sc v).proofFails = d.proofFails := rfl
@[simp] theorem setHoldUntil_lockoutUntil (sc : Nat) (v : Nat) : (d.setHoldUntil sc v).lockoutUntil = d.lockoutUntil := rfl
@[simp] theorem setHoldUntil_lockRenewed (sc : Nat) (v : Nat) : (d.setHoldUntil sc v).lockRenewed = d.lockRenewed := rfl
@[simp] theorem setHoldUntil_groups (sc : Nat) (v : Nat) : (d.setHoldUntil sc v).groups = d.groups := rfl
@[simp] theorem setHoldUntil_ring (sc : Nat) (v : Nat) : (d.setHoldUntil sc v).ring = d.ring := rfl
@[simp] theorem setHoldUntil_pcie (sc : Nat) (v : Nat) : (d.setHoldUntil sc v).pcie = d.pcie := rfl
@[simp] theorem setHoldUntil_jtag (sc : Nat) (v : Nat) : (d.setHoldUntil sc v).jtag = d.jtag := rfl
@[simp] theorem setHoldUntil_pins (sc : Nat) (v : Nat) : (d.setHoldUntil sc v).pins = d.pins := rfl
@[simp] theorem setHoldUntil_acqAt (sc : Nat) (v : Nat) : (d.setHoldUntil sc v).acqAt = d.acqAt := rfl
@[simp] theorem setHoldUntil_drainAt (sc : Nat) (v : Nat) : (d.setHoldUntil sc v).drainAt = d.drainAt := rfl
@[simp] theorem setHoldUntil_gunSeq (sc : Nat) (v : Nat) : (d.setHoldUntil sc v).gunSeq = d.gunSeq := rfl
@[simp] theorem setHoldUntil_guns (sc : Nat) (v : Nat) : (d.setHoldUntil sc v).guns = d.guns := rfl
@[simp] theorem setHoldUntil_faults (sc : Nat) (v : Nat) : (d.setHoldUntil sc v).faults = d.faults := rfl
@[simp] theorem setHoldUntil_keys (sc : Nat) (v : Nat) : (d.setHoldUntil sc v).keys = d.keys := rfl
@[simp] theorem setHoldUntil_banks (sc : Nat) (v : Nat) : (d.setHoldUntil sc v).banks = d.banks := rfl
@[simp] theorem setHoldUntil_pipe (sc : Nat) (v : Nat) : (d.setHoldUntil sc v).pipe = d.pipe := rfl
@[simp] theorem setHoldUntil_clsx (sc : Nat) (v : Nat) : (d.setHoldUntil sc v).clsx = d.clsx := rfl
@[simp] theorem setHoldUntil_queues (sc : Nat) (v : Nat) : (d.setHoldUntil sc v).queues = d.queues := rfl
@[simp] theorem setHoldUntil_nodes (sc : Nat) (v : Nat) : (d.setHoldUntil sc v).nodes = d.nodes := rfl
@[simp] theorem setHoldUntil_pairs (sc : Nat) (v : Nat) : (d.setHoldUntil sc v).pairs = d.pairs := rfl
@[simp] theorem setHoldUntil_ports (sc : Nat) (v : Nat) : (d.setHoldUntil sc v).ports = d.ports := rfl
@[simp] theorem setHoldUntil_laps (sc : Nat) (v : Nat) : (d.setHoldUntil sc v).laps = d.laps := rfl
@[simp] theorem setHoldUntil_pmc (sc : Nat) (v : Nat) : (d.setHoldUntil sc v).pmc = d.pmc := rfl
@[simp] theorem setHoldUntil_mem (sc : Nat) (v : Nat) : (d.setHoldUntil sc v).mem = d.mem := rfl
@[simp] theorem setHoldUntil_otp (sc : Nat) (v : Nat) : (d.setHoldUntil sc v).otp = d.otp := rfl
@[simp] theorem setHoldUntil_flash (sc : Nat) (v : Nat) : (d.setHoldUntil sc v).flash = d.flash := rfl
@[simp] theorem setHoldUntil_lc (sc : Nat) (v : Nat) : (d.setHoldUntil sc v).lc = d.lc := rfl
@[simp] theorem setHoldUntil_fw (sc : Nat) (v : Nat) : (d.setHoldUntil sc v).fw = d.fw := rfl
@[simp] theorem setHoldUntil_att (sc : Nat) (v : Nat) : (d.setHoldUntil sc v).att = d.att := rfl
@[simp] theorem setHoldUntil_sram (sc : Nat) (v : Nat) : (d.setHoldUntil sc v).sram = d.sram := rfl
@[simp] theorem setHoldUntil_time (sc : Nat) (v : Nat) : (d.setHoldUntil sc v).time = d.time := rfl
@[simp] theorem setHoldUntil_mon (sc : Nat) (v : Nat) : (d.setHoldUntil sc v).mon = d.mon := rfl
@[simp] theorem setHoldUntil_la (sc : Nat) (v : Nat) : (d.setHoldUntil sc v).la = d.la := rfl
@[simp] theorem setHoldUntil_rd (sc : Nat) (v : Nat) (o r : Nat) : (d.setHoldUntil sc v).rd o r = d.rd o r := rfl

@[simp] theorem setLastPn_part (sc : Nat) (v : Nat) : (d.setLastPn sc v).part = d.part := rfl
@[simp] theorem setLastPn_mode (sc : Nat) (v : Nat) : (d.setLastPn sc v).mode = d.mode := rfl
@[simp] theorem setLastPn_clockOn (sc : Nat) (v : Nat) : (d.setLastPn sc v).clockOn = d.clockOn := rfl
@[simp] theorem setLastPn_boot (sc : Nat) (v : Nat) : (d.setLastPn sc v).boot = d.boot := rfl
@[simp] theorem setLastPn_resetLatch (sc : Nat) (v : Nat) : (d.setLastPn sc v).resetLatch = d.resetLatch := rfl
@[simp] theorem setLastPn_cyc (sc : Nat) (v : Nat) : (d.setLastPn sc v).cyc = d.cyc := rfl
@[simp] theorem setLastPn_clk (sc : Nat) (v : Nat) : (d.setLastPn sc v).clk = d.clk := rfl
@[simp] theorem setLastPn_edge (sc : Nat) (v : Nat) : (d.setLastPn sc v).edge = d.edge := rfl
@[simp] theorem setLastPn_draws (sc : Nat) (v : Nat) : (d.setLastPn sc v).draws = d.draws := rfl
@[simp] theorem setLastPn_dict (sc : Nat) (v : Nat) : (d.setLastPn sc v).dict = d.dict := rfl
@[simp] theorem setLastPn_out (sc : Nat) (v : Nat) : (d.setLastPn sc v).out = d.out := rfl
@[simp] theorem setLastPn_sess (sc : Nat) (v : Nat) : (d.setLastPn sc v).sess = d.sess := rfl
@[simp] theorem setLastPn_proofFails (sc : Nat) (v : Nat) : (d.setLastPn sc v).proofFails = d.proofFails := rfl
@[simp] theorem setLastPn_lockoutUntil (sc : Nat) (v : Nat) : (d.setLastPn sc v).lockoutUntil = d.lockoutUntil := rfl
@[simp] theorem setLastPn_lockRenewed (sc : Nat) (v : Nat) : (d.setLastPn sc v).lockRenewed = d.lockRenewed := rfl
@[simp] theorem setLastPn_groups (sc : Nat) (v : Nat) : (d.setLastPn sc v).groups = d.groups := rfl
@[simp] theorem setLastPn_ring (sc : Nat) (v : Nat) : (d.setLastPn sc v).ring = d.ring := rfl
@[simp] theorem setLastPn_pcie (sc : Nat) (v : Nat) : (d.setLastPn sc v).pcie = d.pcie := rfl
@[simp] theorem setLastPn_jtag (sc : Nat) (v : Nat) : (d.setLastPn sc v).jtag = d.jtag := rfl
@[simp] theorem setLastPn_pins (sc : Nat) (v : Nat) : (d.setLastPn sc v).pins = d.pins := rfl
@[simp] theorem setLastPn_acqAt (sc : Nat) (v : Nat) : (d.setLastPn sc v).acqAt = d.acqAt := rfl
@[simp] theorem setLastPn_drainAt (sc : Nat) (v : Nat) : (d.setLastPn sc v).drainAt = d.drainAt := rfl
@[simp] theorem setLastPn_gunSeq (sc : Nat) (v : Nat) : (d.setLastPn sc v).gunSeq = d.gunSeq := rfl
@[simp] theorem setLastPn_guns (sc : Nat) (v : Nat) : (d.setLastPn sc v).guns = d.guns := rfl
@[simp] theorem setLastPn_faults (sc : Nat) (v : Nat) : (d.setLastPn sc v).faults = d.faults := rfl
@[simp] theorem setLastPn_keys (sc : Nat) (v : Nat) : (d.setLastPn sc v).keys = d.keys := rfl
@[simp] theorem setLastPn_banks (sc : Nat) (v : Nat) : (d.setLastPn sc v).banks = d.banks := rfl
@[simp] theorem setLastPn_pipe (sc : Nat) (v : Nat) : (d.setLastPn sc v).pipe = d.pipe := rfl
@[simp] theorem setLastPn_clsx (sc : Nat) (v : Nat) : (d.setLastPn sc v).clsx = d.clsx := rfl
@[simp] theorem setLastPn_queues (sc : Nat) (v : Nat) : (d.setLastPn sc v).queues = d.queues := rfl
@[simp] theorem setLastPn_nodes (sc : Nat) (v : Nat) : (d.setLastPn sc v).nodes = d.nodes := rfl
@[simp] theorem setLastPn_pairs (sc : Nat) (v : Nat) : (d.setLastPn sc v).pairs = d.pairs := rfl
@[simp] theorem setLastPn_ports (sc : Nat) (v : Nat) : (d.setLastPn sc v).ports = d.ports := rfl
@[simp] theorem setLastPn_laps (sc : Nat) (v : Nat) : (d.setLastPn sc v).laps = d.laps := rfl
@[simp] theorem setLastPn_pmc (sc : Nat) (v : Nat) : (d.setLastPn sc v).pmc = d.pmc := rfl
@[simp] theorem setLastPn_mem (sc : Nat) (v : Nat) : (d.setLastPn sc v).mem = d.mem := rfl
@[simp] theorem setLastPn_otp (sc : Nat) (v : Nat) : (d.setLastPn sc v).otp = d.otp := rfl
@[simp] theorem setLastPn_flash (sc : Nat) (v : Nat) : (d.setLastPn sc v).flash = d.flash := rfl
@[simp] theorem setLastPn_lc (sc : Nat) (v : Nat) : (d.setLastPn sc v).lc = d.lc := rfl
@[simp] theorem setLastPn_fw (sc : Nat) (v : Nat) : (d.setLastPn sc v).fw = d.fw := rfl
@[simp] theorem setLastPn_att (sc : Nat) (v : Nat) : (d.setLastPn sc v).att = d.att := rfl
@[simp] theorem setLastPn_sram (sc : Nat) (v : Nat) : (d.setLastPn sc v).sram = d.sram := rfl
@[simp] theorem setLastPn_time (sc : Nat) (v : Nat) : (d.setLastPn sc v).time = d.time := rfl
@[simp] theorem setLastPn_mon (sc : Nat) (v : Nat) : (d.setLastPn sc v).mon = d.mon := rfl
@[simp] theorem setLastPn_la (sc : Nat) (v : Nat) : (d.setLastPn sc v).la = d.la := rfl
@[simp] theorem setLastPn_rd (sc : Nat) (v : Nat) (o r : Nat) : (d.setLastPn sc v).rd o r = d.rd o r := rfl

@[simp] theorem setKeys_part (k : KeysX) : (d.setKeys k).part = d.part := rfl
@[simp] theorem setKeys_mode (k : KeysX) : (d.setKeys k).mode = d.mode := rfl
@[simp] theorem setKeys_clockOn (k : KeysX) : (d.setKeys k).clockOn = d.clockOn := rfl
@[simp] theorem setKeys_boot (k : KeysX) : (d.setKeys k).boot = d.boot := rfl
@[simp] theorem setKeys_resetLatch (k : KeysX) : (d.setKeys k).resetLatch = d.resetLatch := rfl
@[simp] theorem setKeys_cyc (k : KeysX) : (d.setKeys k).cyc = d.cyc := rfl
@[simp] theorem setKeys_clk (k : KeysX) : (d.setKeys k).clk = d.clk := rfl
@[simp] theorem setKeys_edge (k : KeysX) : (d.setKeys k).edge = d.edge := rfl
@[simp] theorem setKeys_draws (k : KeysX) : (d.setKeys k).draws = d.draws := rfl
@[simp] theorem setKeys_dict (k : KeysX) : (d.setKeys k).dict = d.dict := rfl
@[simp] theorem setKeys_out (k : KeysX) : (d.setKeys k).out = d.out := rfl
@[simp] theorem setKeys_sess (k : KeysX) : (d.setKeys k).sess = d.sess := rfl
@[simp] theorem setKeys_proofFails (k : KeysX) : (d.setKeys k).proofFails = d.proofFails := rfl
@[simp] theorem setKeys_lockoutUntil (k : KeysX) : (d.setKeys k).lockoutUntil = d.lockoutUntil := rfl
@[simp] theorem setKeys_lockRenewed (k : KeysX) : (d.setKeys k).lockRenewed = d.lockRenewed := rfl
@[simp] theorem setKeys_groups (k : KeysX) : (d.setKeys k).groups = d.groups := rfl
@[simp] theorem setKeys_ring (k : KeysX) : (d.setKeys k).ring = d.ring := rfl
@[simp] theorem setKeys_pcie (k : KeysX) : (d.setKeys k).pcie = d.pcie := rfl
@[simp] theorem setKeys_jtag (k : KeysX) : (d.setKeys k).jtag = d.jtag := rfl
@[simp] theorem setKeys_pins (k : KeysX) : (d.setKeys k).pins = d.pins := rfl
@[simp] theorem setKeys_acqAt (k : KeysX) : (d.setKeys k).acqAt = d.acqAt := rfl
@[simp] theorem setKeys_drainAt (k : KeysX) : (d.setKeys k).drainAt = d.drainAt := rfl
@[simp] theorem setKeys_gunSeq (k : KeysX) : (d.setKeys k).gunSeq = d.gunSeq := rfl
@[simp] theorem setKeys_guns (k : KeysX) : (d.setKeys k).guns = d.guns := rfl
@[simp] theorem setKeys_faults (k : KeysX) : (d.setKeys k).faults = d.faults := rfl
@[simp] theorem setKeys_sas (k : KeysX) : (d.setKeys k).sas = d.sas := rfl
@[simp] theorem setKeys_banks (k : KeysX) : (d.setKeys k).banks = d.banks := rfl
@[simp] theorem setKeys_pipe (k : KeysX) : (d.setKeys k).pipe = d.pipe := rfl
@[simp] theorem setKeys_clsx (k : KeysX) : (d.setKeys k).clsx = d.clsx := rfl
@[simp] theorem setKeys_queues (k : KeysX) : (d.setKeys k).queues = d.queues := rfl
@[simp] theorem setKeys_nodes (k : KeysX) : (d.setKeys k).nodes = d.nodes := rfl
@[simp] theorem setKeys_pairs (k : KeysX) : (d.setKeys k).pairs = d.pairs := rfl
@[simp] theorem setKeys_ports (k : KeysX) : (d.setKeys k).ports = d.ports := rfl
@[simp] theorem setKeys_laps (k : KeysX) : (d.setKeys k).laps = d.laps := rfl
@[simp] theorem setKeys_pmc (k : KeysX) : (d.setKeys k).pmc = d.pmc := rfl
@[simp] theorem setKeys_mem (k : KeysX) : (d.setKeys k).mem = d.mem := rfl
@[simp] theorem setKeys_otp (k : KeysX) : (d.setKeys k).otp = d.otp := rfl
@[simp] theorem setKeys_flash (k : KeysX) : (d.setKeys k).flash = d.flash := rfl
@[simp] theorem setKeys_lc (k : KeysX) : (d.setKeys k).lc = d.lc := rfl
@[simp] theorem setKeys_fw (k : KeysX) : (d.setKeys k).fw = d.fw := rfl
@[simp] theorem setKeys_att (k : KeysX) : (d.setKeys k).att = d.att := rfl
@[simp] theorem setKeys_sram (k : KeysX) : (d.setKeys k).sram = d.sram := rfl
@[simp] theorem setKeys_time (k : KeysX) : (d.setKeys k).time = d.time := rfl
@[simp] theorem setKeys_mon (k : KeysX) : (d.setKeys k).mon = d.mon := rfl
@[simp] theorem setKeys_la (k : KeysX) : (d.setKeys k).la = d.la := rfl
@[simp] theorem setKeys_rd (k : KeysX) (o r : Nat) : (d.setKeys k).rd o r = d.rd o r := rfl

@[simp] theorem setModeField_part (m : Mode) : (d.setModeField m).part = d.part := rfl
@[simp] theorem setModeField_clockOn (m : Mode) : (d.setModeField m).clockOn = d.clockOn := rfl
@[simp] theorem setModeField_boot (m : Mode) : (d.setModeField m).boot = d.boot := rfl
@[simp] theorem setModeField_resetLatch (m : Mode) : (d.setModeField m).resetLatch = d.resetLatch := rfl
@[simp] theorem setModeField_cyc (m : Mode) : (d.setModeField m).cyc = d.cyc := rfl
@[simp] theorem setModeField_clk (m : Mode) : (d.setModeField m).clk = d.clk := rfl
@[simp] theorem setModeField_edge (m : Mode) : (d.setModeField m).edge = d.edge := rfl
@[simp] theorem setModeField_draws (m : Mode) : (d.setModeField m).draws = d.draws := rfl
@[simp] theorem setModeField_dict (m : Mode) : (d.setModeField m).dict = d.dict := rfl
@[simp] theorem setModeField_out (m : Mode) : (d.setModeField m).out = d.out := rfl
@[simp] theorem setModeField_sess (m : Mode) : (d.setModeField m).sess = d.sess := rfl
@[simp] theorem setModeField_proofFails (m : Mode) : (d.setModeField m).proofFails = d.proofFails := rfl
@[simp] theorem setModeField_lockoutUntil (m : Mode) : (d.setModeField m).lockoutUntil = d.lockoutUntil := rfl
@[simp] theorem setModeField_lockRenewed (m : Mode) : (d.setModeField m).lockRenewed = d.lockRenewed := rfl
@[simp] theorem setModeField_groups (m : Mode) : (d.setModeField m).groups = d.groups := rfl
@[simp] theorem setModeField_ring (m : Mode) : (d.setModeField m).ring = d.ring := rfl
@[simp] theorem setModeField_pcie (m : Mode) : (d.setModeField m).pcie = d.pcie := rfl
@[simp] theorem setModeField_jtag (m : Mode) : (d.setModeField m).jtag = d.jtag := rfl
@[simp] theorem setModeField_pins (m : Mode) : (d.setModeField m).pins = d.pins := rfl
@[simp] theorem setModeField_acqAt (m : Mode) : (d.setModeField m).acqAt = d.acqAt := rfl
@[simp] theorem setModeField_drainAt (m : Mode) : (d.setModeField m).drainAt = d.drainAt := rfl
@[simp] theorem setModeField_gunSeq (m : Mode) : (d.setModeField m).gunSeq = d.gunSeq := rfl
@[simp] theorem setModeField_guns (m : Mode) : (d.setModeField m).guns = d.guns := rfl
@[simp] theorem setModeField_faults (m : Mode) : (d.setModeField m).faults = d.faults := rfl
@[simp] theorem setModeField_keys (m : Mode) : (d.setModeField m).keys = d.keys := rfl
@[simp] theorem setModeField_sas (m : Mode) : (d.setModeField m).sas = d.sas := rfl
@[simp] theorem setModeField_banks (m : Mode) : (d.setModeField m).banks = d.banks := rfl
@[simp] theorem setModeField_pipe (m : Mode) : (d.setModeField m).pipe = d.pipe := rfl
@[simp] theorem setModeField_clsx (m : Mode) : (d.setModeField m).clsx = d.clsx := rfl
@[simp] theorem setModeField_queues (m : Mode) : (d.setModeField m).queues = d.queues := rfl
@[simp] theorem setModeField_nodes (m : Mode) : (d.setModeField m).nodes = d.nodes := rfl
@[simp] theorem setModeField_pairs (m : Mode) : (d.setModeField m).pairs = d.pairs := rfl
@[simp] theorem setModeField_ports (m : Mode) : (d.setModeField m).ports = d.ports := rfl
@[simp] theorem setModeField_laps (m : Mode) : (d.setModeField m).laps = d.laps := rfl
@[simp] theorem setModeField_pmc (m : Mode) : (d.setModeField m).pmc = d.pmc := rfl
@[simp] theorem setModeField_mem (m : Mode) : (d.setModeField m).mem = d.mem := rfl
@[simp] theorem setModeField_otp (m : Mode) : (d.setModeField m).otp = d.otp := rfl
@[simp] theorem setModeField_flash (m : Mode) : (d.setModeField m).flash = d.flash := rfl
@[simp] theorem setModeField_lc (m : Mode) : (d.setModeField m).lc = d.lc := rfl
@[simp] theorem setModeField_fw (m : Mode) : (d.setModeField m).fw = d.fw := rfl
@[simp] theorem setModeField_att (m : Mode) : (d.setModeField m).att = d.att := rfl
@[simp] theorem setModeField_sram (m : Mode) : (d.setModeField m).sram = d.sram := rfl
@[simp] theorem setModeField_time (m : Mode) : (d.setModeField m).time = d.time := rfl
@[simp] theorem setModeField_mon (m : Mode) : (d.setModeField m).mon = d.mon := rfl
@[simp] theorem setModeField_la (m : Mode) : (d.setModeField m).la = d.la := rfl
@[simp] theorem setModeField_rd (m : Mode) (o r : Nat) : (d.setModeField m).rd o r = d.rd o r := rfl

@[simp] theorem setHeld_part (src : Nat) (mask : Nat) : (d.setHeld src mask).part = d.part := rfl
@[simp] theorem setHeld_mode (src : Nat) (mask : Nat) : (d.setHeld src mask).mode = d.mode := rfl
@[simp] theorem setHeld_clockOn (src : Nat) (mask : Nat) : (d.setHeld src mask).clockOn = d.clockOn := rfl
@[simp] theorem setHeld_boot (src : Nat) (mask : Nat) : (d.setHeld src mask).boot = d.boot := rfl
@[simp] theorem setHeld_resetLatch (src : Nat) (mask : Nat) : (d.setHeld src mask).resetLatch = d.resetLatch := rfl
@[simp] theorem setHeld_cyc (src : Nat) (mask : Nat) : (d.setHeld src mask).cyc = d.cyc := rfl
@[simp] theorem setHeld_clk (src : Nat) (mask : Nat) : (d.setHeld src mask).clk = d.clk := rfl
@[simp] theorem setHeld_edge (src : Nat) (mask : Nat) : (d.setHeld src mask).edge = d.edge := rfl
@[simp] theorem setHeld_draws (src : Nat) (mask : Nat) : (d.setHeld src mask).draws = d.draws := rfl
@[simp] theorem setHeld_dict (src : Nat) (mask : Nat) : (d.setHeld src mask).dict = d.dict := rfl
@[simp] theorem setHeld_out (src : Nat) (mask : Nat) : (d.setHeld src mask).out = d.out := rfl
@[simp] theorem setHeld_sess (src : Nat) (mask : Nat) : (d.setHeld src mask).sess = d.sess := rfl
@[simp] theorem setHeld_proofFails (src : Nat) (mask : Nat) : (d.setHeld src mask).proofFails = d.proofFails := rfl
@[simp] theorem setHeld_lockoutUntil (src : Nat) (mask : Nat) : (d.setHeld src mask).lockoutUntil = d.lockoutUntil := rfl
@[simp] theorem setHeld_lockRenewed (src : Nat) (mask : Nat) : (d.setHeld src mask).lockRenewed = d.lockRenewed := rfl
@[simp] theorem setHeld_groups (src : Nat) (mask : Nat) : (d.setHeld src mask).groups = d.groups := rfl
@[simp] theorem setHeld_ring (src : Nat) (mask : Nat) : (d.setHeld src mask).ring = d.ring := rfl
@[simp] theorem setHeld_pcie (src : Nat) (mask : Nat) : (d.setHeld src mask).pcie = d.pcie := rfl
@[simp] theorem setHeld_jtag (src : Nat) (mask : Nat) : (d.setHeld src mask).jtag = d.jtag := rfl
@[simp] theorem setHeld_pins (src : Nat) (mask : Nat) : (d.setHeld src mask).pins = d.pins := rfl
@[simp] theorem setHeld_acqAt (src : Nat) (mask : Nat) : (d.setHeld src mask).acqAt = d.acqAt := rfl
@[simp] theorem setHeld_drainAt (src : Nat) (mask : Nat) : (d.setHeld src mask).drainAt = d.drainAt := rfl
@[simp] theorem setHeld_gunSeq (src : Nat) (mask : Nat) : (d.setHeld src mask).gunSeq = d.gunSeq := rfl
@[simp] theorem setHeld_guns (src : Nat) (mask : Nat) : (d.setHeld src mask).guns = d.guns := rfl
@[simp] theorem setHeld_keys (src : Nat) (mask : Nat) : (d.setHeld src mask).keys = d.keys := rfl
@[simp] theorem setHeld_sas (src : Nat) (mask : Nat) : (d.setHeld src mask).sas = d.sas := rfl
@[simp] theorem setHeld_banks (src : Nat) (mask : Nat) : (d.setHeld src mask).banks = d.banks := rfl
@[simp] theorem setHeld_pipe (src : Nat) (mask : Nat) : (d.setHeld src mask).pipe = d.pipe := rfl
@[simp] theorem setHeld_clsx (src : Nat) (mask : Nat) : (d.setHeld src mask).clsx = d.clsx := rfl
@[simp] theorem setHeld_queues (src : Nat) (mask : Nat) : (d.setHeld src mask).queues = d.queues := rfl
@[simp] theorem setHeld_nodes (src : Nat) (mask : Nat) : (d.setHeld src mask).nodes = d.nodes := rfl
@[simp] theorem setHeld_pairs (src : Nat) (mask : Nat) : (d.setHeld src mask).pairs = d.pairs := rfl
@[simp] theorem setHeld_ports (src : Nat) (mask : Nat) : (d.setHeld src mask).ports = d.ports := rfl
@[simp] theorem setHeld_laps (src : Nat) (mask : Nat) : (d.setHeld src mask).laps = d.laps := rfl
@[simp] theorem setHeld_pmc (src : Nat) (mask : Nat) : (d.setHeld src mask).pmc = d.pmc := rfl
@[simp] theorem setHeld_mem (src : Nat) (mask : Nat) : (d.setHeld src mask).mem = d.mem := rfl
@[simp] theorem setHeld_otp (src : Nat) (mask : Nat) : (d.setHeld src mask).otp = d.otp := rfl
@[simp] theorem setHeld_flash (src : Nat) (mask : Nat) : (d.setHeld src mask).flash = d.flash := rfl
@[simp] theorem setHeld_lc (src : Nat) (mask : Nat) : (d.setHeld src mask).lc = d.lc := rfl
@[simp] theorem setHeld_fw (src : Nat) (mask : Nat) : (d.setHeld src mask).fw = d.fw := rfl
@[simp] theorem setHeld_att (src : Nat) (mask : Nat) : (d.setHeld src mask).att = d.att := rfl
@[simp] theorem setHeld_sram (src : Nat) (mask : Nat) : (d.setHeld src mask).sram = d.sram := rfl
@[simp] theorem setHeld_time (src : Nat) (mask : Nat) : (d.setHeld src mask).time = d.time := rfl
@[simp] theorem setHeld_mon (src : Nat) (mask : Nat) : (d.setHeld src mask).mon = d.mon := rfl
@[simp] theorem setHeld_la (src : Nat) (mask : Nat) : (d.setHeld src mask).la = d.la := rfl
@[simp] theorem setHeld_rd (src : Nat) (mask : Nat) (o r : Nat) : (d.setHeld src mask).rd o r = d.rd o r := rfl

@[simp] theorem setLa_part (x : LaX) : (d.setLa x).part = d.part := rfl
@[simp] theorem setLa_mode (x : LaX) : (d.setLa x).mode = d.mode := rfl
@[simp] theorem setLa_clockOn (x : LaX) : (d.setLa x).clockOn = d.clockOn := rfl
@[simp] theorem setLa_boot (x : LaX) : (d.setLa x).boot = d.boot := rfl
@[simp] theorem setLa_resetLatch (x : LaX) : (d.setLa x).resetLatch = d.resetLatch := rfl
@[simp] theorem setLa_cyc (x : LaX) : (d.setLa x).cyc = d.cyc := rfl
@[simp] theorem setLa_clk (x : LaX) : (d.setLa x).clk = d.clk := rfl
@[simp] theorem setLa_edge (x : LaX) : (d.setLa x).edge = d.edge := rfl
@[simp] theorem setLa_draws (x : LaX) : (d.setLa x).draws = d.draws := rfl
@[simp] theorem setLa_dict (x : LaX) : (d.setLa x).dict = d.dict := rfl
@[simp] theorem setLa_out (x : LaX) : (d.setLa x).out = d.out := rfl
@[simp] theorem setLa_sess (x : LaX) : (d.setLa x).sess = d.sess := rfl
@[simp] theorem setLa_proofFails (x : LaX) : (d.setLa x).proofFails = d.proofFails := rfl
@[simp] theorem setLa_lockoutUntil (x : LaX) : (d.setLa x).lockoutUntil = d.lockoutUntil := rfl
@[simp] theorem setLa_lockRenewed (x : LaX) : (d.setLa x).lockRenewed = d.lockRenewed := rfl
@[simp] theorem setLa_groups (x : LaX) : (d.setLa x).groups = d.groups := rfl
@[simp] theorem setLa_ring (x : LaX) : (d.setLa x).ring = d.ring := rfl
@[simp] theorem setLa_pcie (x : LaX) : (d.setLa x).pcie = d.pcie := rfl
@[simp] theorem setLa_jtag (x : LaX) : (d.setLa x).jtag = d.jtag := rfl
@[simp] theorem setLa_pins (x : LaX) : (d.setLa x).pins = d.pins := rfl
@[simp] theorem setLa_acqAt (x : LaX) : (d.setLa x).acqAt = d.acqAt := rfl
@[simp] theorem setLa_drainAt (x : LaX) : (d.setLa x).drainAt = d.drainAt := rfl
@[simp] theorem setLa_gunSeq (x : LaX) : (d.setLa x).gunSeq = d.gunSeq := rfl
@[simp] theorem setLa_guns (x : LaX) : (d.setLa x).guns = d.guns := rfl
@[simp] theorem setLa_faults (x : LaX) : (d.setLa x).faults = d.faults := rfl
@[simp] theorem setLa_keys (x : LaX) : (d.setLa x).keys = d.keys := rfl
@[simp] theorem setLa_sas (x : LaX) : (d.setLa x).sas = d.sas := rfl
@[simp] theorem setLa_banks (x : LaX) : (d.setLa x).banks = d.banks := rfl
@[simp] theorem setLa_pipe (x : LaX) : (d.setLa x).pipe = d.pipe := rfl
@[simp] theorem setLa_clsx (x : LaX) : (d.setLa x).clsx = d.clsx := rfl
@[simp] theorem setLa_queues (x : LaX) : (d.setLa x).queues = d.queues := rfl
@[simp] theorem setLa_nodes (x : LaX) : (d.setLa x).nodes = d.nodes := rfl
@[simp] theorem setLa_pairs (x : LaX) : (d.setLa x).pairs = d.pairs := rfl
@[simp] theorem setLa_ports (x : LaX) : (d.setLa x).ports = d.ports := rfl
@[simp] theorem setLa_laps (x : LaX) : (d.setLa x).laps = d.laps := rfl
@[simp] theorem setLa_pmc (x : LaX) : (d.setLa x).pmc = d.pmc := rfl
@[simp] theorem setLa_mem (x : LaX) : (d.setLa x).mem = d.mem := rfl
@[simp] theorem setLa_otp (x : LaX) : (d.setLa x).otp = d.otp := rfl
@[simp] theorem setLa_flash (x : LaX) : (d.setLa x).flash = d.flash := rfl
@[simp] theorem setLa_lc (x : LaX) : (d.setLa x).lc = d.lc := rfl
@[simp] theorem setLa_fw (x : LaX) : (d.setLa x).fw = d.fw := rfl
@[simp] theorem setLa_att (x : LaX) : (d.setLa x).att = d.att := rfl
@[simp] theorem setLa_sram (x : LaX) : (d.setLa x).sram = d.sram := rfl
@[simp] theorem setLa_time (x : LaX) : (d.setLa x).time = d.time := rfl
@[simp] theorem setLa_mon (x : LaX) : (d.setLa x).mon = d.mon := rfl
@[simp] theorem setLa_rd (x : LaX) (o r : Nat) : (d.setLa x).rd o r = d.rd o r := rfl

@[simp] theorem noRebuild_part : d.noRebuild.part = d.part := rfl
@[simp] theorem noRebuild_mode : d.noRebuild.mode = d.mode := rfl
@[simp] theorem noRebuild_clockOn : d.noRebuild.clockOn = d.clockOn := rfl
@[simp] theorem noRebuild_boot : d.noRebuild.boot = d.boot := rfl
@[simp] theorem noRebuild_resetLatch : d.noRebuild.resetLatch = d.resetLatch := rfl
@[simp] theorem noRebuild_cyc : d.noRebuild.cyc = d.cyc := rfl
@[simp] theorem noRebuild_clk : d.noRebuild.clk = d.clk := rfl
@[simp] theorem noRebuild_edge : d.noRebuild.edge = d.edge := rfl
@[simp] theorem noRebuild_draws : d.noRebuild.draws = d.draws := rfl
@[simp] theorem noRebuild_dict : d.noRebuild.dict = d.dict := rfl
@[simp] theorem noRebuild_out : d.noRebuild.out = d.out := rfl
@[simp] theorem noRebuild_sess : d.noRebuild.sess = d.sess := rfl
@[simp] theorem noRebuild_proofFails : d.noRebuild.proofFails = d.proofFails := rfl
@[simp] theorem noRebuild_lockoutUntil : d.noRebuild.lockoutUntil = d.lockoutUntil := rfl
@[simp] theorem noRebuild_lockRenewed : d.noRebuild.lockRenewed = d.lockRenewed := rfl
@[simp] theorem noRebuild_groups : d.noRebuild.groups = d.groups := rfl
@[simp] theorem noRebuild_ring : d.noRebuild.ring = d.ring := rfl
@[simp] theorem noRebuild_pcie : d.noRebuild.pcie = d.pcie := rfl
@[simp] theorem noRebuild_jtag : d.noRebuild.jtag = d.jtag := rfl
@[simp] theorem noRebuild_pins : d.noRebuild.pins = d.pins := rfl
@[simp] theorem noRebuild_acqAt : d.noRebuild.acqAt = d.acqAt := rfl
@[simp] theorem noRebuild_drainAt : d.noRebuild.drainAt = d.drainAt := rfl
@[simp] theorem noRebuild_gunSeq : d.noRebuild.gunSeq = d.gunSeq := rfl
@[simp] theorem noRebuild_guns : d.noRebuild.guns = d.guns := rfl
@[simp] theorem noRebuild_faults : d.noRebuild.faults = d.faults := rfl
@[simp] theorem noRebuild_keys : d.noRebuild.keys = d.keys := rfl
@[simp] theorem noRebuild_sas : d.noRebuild.sas = d.sas := rfl
@[simp] theorem noRebuild_banks : d.noRebuild.banks = d.banks := rfl
@[simp] theorem noRebuild_pipe : d.noRebuild.pipe = d.pipe := rfl
@[simp] theorem noRebuild_clsx : d.noRebuild.clsx = d.clsx := rfl
@[simp] theorem noRebuild_queues : d.noRebuild.queues = d.queues := rfl
@[simp] theorem noRebuild_nodes : d.noRebuild.nodes = d.nodes := rfl
@[simp] theorem noRebuild_pairs : d.noRebuild.pairs = d.pairs := rfl
@[simp] theorem noRebuild_ports : d.noRebuild.ports = d.ports := rfl
@[simp] theorem noRebuild_laps : d.noRebuild.laps = d.laps := rfl
@[simp] theorem noRebuild_pmc : d.noRebuild.pmc = d.pmc := rfl
@[simp] theorem noRebuild_mem : d.noRebuild.mem = d.mem := rfl
@[simp] theorem noRebuild_otp : d.noRebuild.otp = d.otp := rfl
@[simp] theorem noRebuild_flash : d.noRebuild.flash = d.flash := rfl
@[simp] theorem noRebuild_fw : d.noRebuild.fw = d.fw := rfl
@[simp] theorem noRebuild_att : d.noRebuild.att = d.att := rfl
@[simp] theorem noRebuild_sram : d.noRebuild.sram = d.sram := rfl
@[simp] theorem noRebuild_time : d.noRebuild.time = d.time := rfl
@[simp] theorem noRebuild_mon : d.noRebuild.mon = d.mon := rfl
@[simp] theorem noRebuild_la : d.noRebuild.la = d.la := rfl
@[simp] theorem noRebuild_rd (o r : Nat) : d.noRebuild.rd o r = d.rd o r := rfl

@[simp] theorem setClk_part (c : Clock) : (d.setClk c).part = d.part := rfl
@[simp] theorem setClk_mode (c : Clock) : (d.setClk c).mode = d.mode := rfl
@[simp] theorem setClk_clockOn (c : Clock) : (d.setClk c).clockOn = d.clockOn := rfl
@[simp] theorem setClk_boot (c : Clock) : (d.setClk c).boot = d.boot := rfl
@[simp] theorem setClk_resetLatch (c : Clock) : (d.setClk c).resetLatch = d.resetLatch := rfl
@[simp] theorem setClk_cyc (c : Clock) : (d.setClk c).cyc = d.cyc := rfl
@[simp] theorem setClk_edge (c : Clock) : (d.setClk c).edge = d.edge := rfl
@[simp] theorem setClk_draws (c : Clock) : (d.setClk c).draws = d.draws := rfl
@[simp] theorem setClk_dict (c : Clock) : (d.setClk c).dict = d.dict := rfl
@[simp] theorem setClk_out (c : Clock) : (d.setClk c).out = d.out := rfl
@[simp] theorem setClk_sess (c : Clock) : (d.setClk c).sess = d.sess := rfl
@[simp] theorem setClk_proofFails (c : Clock) : (d.setClk c).proofFails = d.proofFails := rfl
@[simp] theorem setClk_lockoutUntil (c : Clock) : (d.setClk c).lockoutUntil = d.lockoutUntil := rfl
@[simp] theorem setClk_lockRenewed (c : Clock) : (d.setClk c).lockRenewed = d.lockRenewed := rfl
@[simp] theorem setClk_groups (c : Clock) : (d.setClk c).groups = d.groups := rfl
@[simp] theorem setClk_ring (c : Clock) : (d.setClk c).ring = d.ring := rfl
@[simp] theorem setClk_pcie (c : Clock) : (d.setClk c).pcie = d.pcie := rfl
@[simp] theorem setClk_jtag (c : Clock) : (d.setClk c).jtag = d.jtag := rfl
@[simp] theorem setClk_pins (c : Clock) : (d.setClk c).pins = d.pins := rfl
@[simp] theorem setClk_acqAt (c : Clock) : (d.setClk c).acqAt = d.acqAt := rfl
@[simp] theorem setClk_drainAt (c : Clock) : (d.setClk c).drainAt = d.drainAt := rfl
@[simp] theorem setClk_gunSeq (c : Clock) : (d.setClk c).gunSeq = d.gunSeq := rfl
@[simp] theorem setClk_guns (c : Clock) : (d.setClk c).guns = d.guns := rfl
@[simp] theorem setClk_faults (c : Clock) : (d.setClk c).faults = d.faults := rfl
@[simp] theorem setClk_keys (c : Clock) : (d.setClk c).keys = d.keys := rfl
@[simp] theorem setClk_sas (c : Clock) : (d.setClk c).sas = d.sas := rfl
@[simp] theorem setClk_banks (c : Clock) : (d.setClk c).banks = d.banks := rfl
@[simp] theorem setClk_pipe (c : Clock) : (d.setClk c).pipe = d.pipe := rfl
@[simp] theorem setClk_clsx (c : Clock) : (d.setClk c).clsx = d.clsx := rfl
@[simp] theorem setClk_queues (c : Clock) : (d.setClk c).queues = d.queues := rfl
@[simp] theorem setClk_nodes (c : Clock) : (d.setClk c).nodes = d.nodes := rfl
@[simp] theorem setClk_pairs (c : Clock) : (d.setClk c).pairs = d.pairs := rfl
@[simp] theorem setClk_ports (c : Clock) : (d.setClk c).ports = d.ports := rfl
@[simp] theorem setClk_laps (c : Clock) : (d.setClk c).laps = d.laps := rfl
@[simp] theorem setClk_pmc (c : Clock) : (d.setClk c).pmc = d.pmc := rfl
@[simp] theorem setClk_mem (c : Clock) : (d.setClk c).mem = d.mem := rfl
@[simp] theorem setClk_otp (c : Clock) : (d.setClk c).otp = d.otp := rfl
@[simp] theorem setClk_flash (c : Clock) : (d.setClk c).flash = d.flash := rfl
@[simp] theorem setClk_lc (c : Clock) : (d.setClk c).lc = d.lc := rfl
@[simp] theorem setClk_fw (c : Clock) : (d.setClk c).fw = d.fw := rfl
@[simp] theorem setClk_att (c : Clock) : (d.setClk c).att = d.att := rfl
@[simp] theorem setClk_sram (c : Clock) : (d.setClk c).sram = d.sram := rfl
@[simp] theorem setClk_time (c : Clock) : (d.setClk c).time = d.time := rfl
@[simp] theorem setClk_mon (c : Clock) : (d.setClk c).mon = d.mon := rfl
@[simp] theorem setClk_la (c : Clock) : (d.setClk c).la = d.la := rfl
@[simp] theorem setClk_rd (c : Clock) (o r : Nat) : (d.setClk c).rd o r = d.rd o r := rfl

@[simp] theorem setCyc_part (n : Nat) : (d.setCyc n).part = d.part := rfl
@[simp] theorem setCyc_mode (n : Nat) : (d.setCyc n).mode = d.mode := rfl
@[simp] theorem setCyc_clockOn (n : Nat) : (d.setCyc n).clockOn = d.clockOn := rfl
@[simp] theorem setCyc_boot (n : Nat) : (d.setCyc n).boot = d.boot := rfl
@[simp] theorem setCyc_resetLatch (n : Nat) : (d.setCyc n).resetLatch = d.resetLatch := rfl
@[simp] theorem setCyc_clk (n : Nat) : (d.setCyc n).clk = d.clk := rfl
@[simp] theorem setCyc_edge (n : Nat) : (d.setCyc n).edge = d.edge := rfl
@[simp] theorem setCyc_draws (n : Nat) : (d.setCyc n).draws = d.draws := rfl
@[simp] theorem setCyc_dict (n : Nat) : (d.setCyc n).dict = d.dict := rfl
@[simp] theorem setCyc_out (n : Nat) : (d.setCyc n).out = d.out := rfl
@[simp] theorem setCyc_sess (n : Nat) : (d.setCyc n).sess = d.sess := rfl
@[simp] theorem setCyc_proofFails (n : Nat) : (d.setCyc n).proofFails = d.proofFails := rfl
@[simp] theorem setCyc_lockoutUntil (n : Nat) : (d.setCyc n).lockoutUntil = d.lockoutUntil := rfl
@[simp] theorem setCyc_lockRenewed (n : Nat) : (d.setCyc n).lockRenewed = d.lockRenewed := rfl
@[simp] theorem setCyc_groups (n : Nat) : (d.setCyc n).groups = d.groups := rfl
@[simp] theorem setCyc_ring (n : Nat) : (d.setCyc n).ring = d.ring := rfl
@[simp] theorem setCyc_pcie (n : Nat) : (d.setCyc n).pcie = d.pcie := rfl
@[simp] theorem setCyc_jtag (n : Nat) : (d.setCyc n).jtag = d.jtag := rfl
@[simp] theorem setCyc_pins (n : Nat) : (d.setCyc n).pins = d.pins := rfl
@[simp] theorem setCyc_acqAt (n : Nat) : (d.setCyc n).acqAt = d.acqAt := rfl
@[simp] theorem setCyc_drainAt (n : Nat) : (d.setCyc n).drainAt = d.drainAt := rfl
@[simp] theorem setCyc_gunSeq (n : Nat) : (d.setCyc n).gunSeq = d.gunSeq := rfl
@[simp] theorem setCyc_guns (n : Nat) : (d.setCyc n).guns = d.guns := rfl
@[simp] theorem setCyc_faults (n : Nat) : (d.setCyc n).faults = d.faults := rfl
@[simp] theorem setCyc_keys (n : Nat) : (d.setCyc n).keys = d.keys := rfl
@[simp] theorem setCyc_sas (n : Nat) : (d.setCyc n).sas = d.sas := rfl
@[simp] theorem setCyc_banks (n : Nat) : (d.setCyc n).banks = d.banks := rfl
@[simp] theorem setCyc_pipe (n : Nat) : (d.setCyc n).pipe = d.pipe := rfl
@[simp] theorem setCyc_clsx (n : Nat) : (d.setCyc n).clsx = d.clsx := rfl
@[simp] theorem setCyc_queues (n : Nat) : (d.setCyc n).queues = d.queues := rfl
@[simp] theorem setCyc_nodes (n : Nat) : (d.setCyc n).nodes = d.nodes := rfl
@[simp] theorem setCyc_pairs (n : Nat) : (d.setCyc n).pairs = d.pairs := rfl
@[simp] theorem setCyc_ports (n : Nat) : (d.setCyc n).ports = d.ports := rfl
@[simp] theorem setCyc_laps (n : Nat) : (d.setCyc n).laps = d.laps := rfl
@[simp] theorem setCyc_pmc (n : Nat) : (d.setCyc n).pmc = d.pmc := rfl
@[simp] theorem setCyc_mem (n : Nat) : (d.setCyc n).mem = d.mem := rfl
@[simp] theorem setCyc_otp (n : Nat) : (d.setCyc n).otp = d.otp := rfl
@[simp] theorem setCyc_flash (n : Nat) : (d.setCyc n).flash = d.flash := rfl
@[simp] theorem setCyc_lc (n : Nat) : (d.setCyc n).lc = d.lc := rfl
@[simp] theorem setCyc_fw (n : Nat) : (d.setCyc n).fw = d.fw := rfl
@[simp] theorem setCyc_att (n : Nat) : (d.setCyc n).att = d.att := rfl
@[simp] theorem setCyc_sram (n : Nat) : (d.setCyc n).sram = d.sram := rfl
@[simp] theorem setCyc_time (n : Nat) : (d.setCyc n).time = d.time := rfl
@[simp] theorem setCyc_mon (n : Nat) : (d.setCyc n).mon = d.mon := rfl
@[simp] theorem setCyc_la (n : Nat) : (d.setCyc n).la = d.la := rfl
@[simp] theorem setCyc_rd (n : Nat) (o r : Nat) : (d.setCyc n).rd o r = d.rd o r := rfl

@[simp] theorem setMem_part (x : MemX) : (d.setMem x).part = d.part := rfl
@[simp] theorem setMem_mode (x : MemX) : (d.setMem x).mode = d.mode := rfl
@[simp] theorem setMem_clockOn (x : MemX) : (d.setMem x).clockOn = d.clockOn := rfl
@[simp] theorem setMem_boot (x : MemX) : (d.setMem x).boot = d.boot := rfl
@[simp] theorem setMem_resetLatch (x : MemX) : (d.setMem x).resetLatch = d.resetLatch := rfl
@[simp] theorem setMem_cyc (x : MemX) : (d.setMem x).cyc = d.cyc := rfl
@[simp] theorem setMem_clk (x : MemX) : (d.setMem x).clk = d.clk := rfl
@[simp] theorem setMem_edge (x : MemX) : (d.setMem x).edge = d.edge := rfl
@[simp] theorem setMem_draws (x : MemX) : (d.setMem x).draws = d.draws := rfl
@[simp] theorem setMem_dict (x : MemX) : (d.setMem x).dict = d.dict := rfl
@[simp] theorem setMem_out (x : MemX) : (d.setMem x).out = d.out := rfl
@[simp] theorem setMem_sess (x : MemX) : (d.setMem x).sess = d.sess := rfl
@[simp] theorem setMem_proofFails (x : MemX) : (d.setMem x).proofFails = d.proofFails := rfl
@[simp] theorem setMem_lockoutUntil (x : MemX) : (d.setMem x).lockoutUntil = d.lockoutUntil := rfl
@[simp] theorem setMem_lockRenewed (x : MemX) : (d.setMem x).lockRenewed = d.lockRenewed := rfl
@[simp] theorem setMem_groups (x : MemX) : (d.setMem x).groups = d.groups := rfl
@[simp] theorem setMem_ring (x : MemX) : (d.setMem x).ring = d.ring := rfl
@[simp] theorem setMem_pcie (x : MemX) : (d.setMem x).pcie = d.pcie := rfl
@[simp] theorem setMem_jtag (x : MemX) : (d.setMem x).jtag = d.jtag := rfl
@[simp] theorem setMem_pins (x : MemX) : (d.setMem x).pins = d.pins := rfl
@[simp] theorem setMem_acqAt (x : MemX) : (d.setMem x).acqAt = d.acqAt := rfl
@[simp] theorem setMem_drainAt (x : MemX) : (d.setMem x).drainAt = d.drainAt := rfl
@[simp] theorem setMem_gunSeq (x : MemX) : (d.setMem x).gunSeq = d.gunSeq := rfl
@[simp] theorem setMem_guns (x : MemX) : (d.setMem x).guns = d.guns := rfl
@[simp] theorem setMem_faults (x : MemX) : (d.setMem x).faults = d.faults := rfl
@[simp] theorem setMem_keys (x : MemX) : (d.setMem x).keys = d.keys := rfl
@[simp] theorem setMem_sas (x : MemX) : (d.setMem x).sas = d.sas := rfl
@[simp] theorem setMem_banks (x : MemX) : (d.setMem x).banks = d.banks := rfl
@[simp] theorem setMem_pipe (x : MemX) : (d.setMem x).pipe = d.pipe := rfl
@[simp] theorem setMem_clsx (x : MemX) : (d.setMem x).clsx = d.clsx := rfl
@[simp] theorem setMem_queues (x : MemX) : (d.setMem x).queues = d.queues := rfl
@[simp] theorem setMem_nodes (x : MemX) : (d.setMem x).nodes = d.nodes := rfl
@[simp] theorem setMem_pairs (x : MemX) : (d.setMem x).pairs = d.pairs := rfl
@[simp] theorem setMem_ports (x : MemX) : (d.setMem x).ports = d.ports := rfl
@[simp] theorem setMem_laps (x : MemX) : (d.setMem x).laps = d.laps := rfl
@[simp] theorem setMem_pmc (x : MemX) : (d.setMem x).pmc = d.pmc := rfl
@[simp] theorem setMem_otp (x : MemX) : (d.setMem x).otp = d.otp := rfl
@[simp] theorem setMem_flash (x : MemX) : (d.setMem x).flash = d.flash := rfl
@[simp] theorem setMem_lc (x : MemX) : (d.setMem x).lc = d.lc := rfl
@[simp] theorem setMem_fw (x : MemX) : (d.setMem x).fw = d.fw := rfl
@[simp] theorem setMem_att (x : MemX) : (d.setMem x).att = d.att := rfl
@[simp] theorem setMem_sram (x : MemX) : (d.setMem x).sram = d.sram := rfl
@[simp] theorem setMem_time (x : MemX) : (d.setMem x).time = d.time := rfl
@[simp] theorem setMem_mon (x : MemX) : (d.setMem x).mon = d.mon := rfl
@[simp] theorem setMem_la (x : MemX) : (d.setMem x).la = d.la := rfl
@[simp] theorem setMem_rd (x : MemX) (o r : Nat) : (d.setMem x).rd o r = d.rd o r := rfl

@[simp] theorem burnWord_part (w : Nat) (v : Nat) : (d.burnWord w v).part = d.part := rfl
@[simp] theorem burnWord_mode (w : Nat) (v : Nat) : (d.burnWord w v).mode = d.mode := rfl
@[simp] theorem burnWord_clockOn (w : Nat) (v : Nat) : (d.burnWord w v).clockOn = d.clockOn := rfl
@[simp] theorem burnWord_boot (w : Nat) (v : Nat) : (d.burnWord w v).boot = d.boot := rfl
@[simp] theorem burnWord_resetLatch (w : Nat) (v : Nat) : (d.burnWord w v).resetLatch = d.resetLatch := rfl
@[simp] theorem burnWord_cyc (w : Nat) (v : Nat) : (d.burnWord w v).cyc = d.cyc := rfl
@[simp] theorem burnWord_clk (w : Nat) (v : Nat) : (d.burnWord w v).clk = d.clk := rfl
@[simp] theorem burnWord_edge (w : Nat) (v : Nat) : (d.burnWord w v).edge = d.edge := rfl
@[simp] theorem burnWord_draws (w : Nat) (v : Nat) : (d.burnWord w v).draws = d.draws := rfl
@[simp] theorem burnWord_dict (w : Nat) (v : Nat) : (d.burnWord w v).dict = d.dict := rfl
@[simp] theorem burnWord_out (w : Nat) (v : Nat) : (d.burnWord w v).out = d.out := rfl
@[simp] theorem burnWord_sess (w : Nat) (v : Nat) : (d.burnWord w v).sess = d.sess := rfl
@[simp] theorem burnWord_proofFails (w : Nat) (v : Nat) : (d.burnWord w v).proofFails = d.proofFails := rfl
@[simp] theorem burnWord_lockoutUntil (w : Nat) (v : Nat) : (d.burnWord w v).lockoutUntil = d.lockoutUntil := rfl
@[simp] theorem burnWord_lockRenewed (w : Nat) (v : Nat) : (d.burnWord w v).lockRenewed = d.lockRenewed := rfl
@[simp] theorem burnWord_groups (w : Nat) (v : Nat) : (d.burnWord w v).groups = d.groups := rfl
@[simp] theorem burnWord_ring (w : Nat) (v : Nat) : (d.burnWord w v).ring = d.ring := rfl
@[simp] theorem burnWord_pcie (w : Nat) (v : Nat) : (d.burnWord w v).pcie = d.pcie := rfl
@[simp] theorem burnWord_jtag (w : Nat) (v : Nat) : (d.burnWord w v).jtag = d.jtag := rfl
@[simp] theorem burnWord_pins (w : Nat) (v : Nat) : (d.burnWord w v).pins = d.pins := rfl
@[simp] theorem burnWord_acqAt (w : Nat) (v : Nat) : (d.burnWord w v).acqAt = d.acqAt := rfl
@[simp] theorem burnWord_drainAt (w : Nat) (v : Nat) : (d.burnWord w v).drainAt = d.drainAt := rfl
@[simp] theorem burnWord_gunSeq (w : Nat) (v : Nat) : (d.burnWord w v).gunSeq = d.gunSeq := rfl
@[simp] theorem burnWord_guns (w : Nat) (v : Nat) : (d.burnWord w v).guns = d.guns := rfl
@[simp] theorem burnWord_faults (w : Nat) (v : Nat) : (d.burnWord w v).faults = d.faults := rfl
@[simp] theorem burnWord_keys (w : Nat) (v : Nat) : (d.burnWord w v).keys = d.keys := rfl
@[simp] theorem burnWord_sas (w : Nat) (v : Nat) : (d.burnWord w v).sas = d.sas := rfl
@[simp] theorem burnWord_banks (w : Nat) (v : Nat) : (d.burnWord w v).banks = d.banks := rfl
@[simp] theorem burnWord_pipe (w : Nat) (v : Nat) : (d.burnWord w v).pipe = d.pipe := rfl
@[simp] theorem burnWord_clsx (w : Nat) (v : Nat) : (d.burnWord w v).clsx = d.clsx := rfl
@[simp] theorem burnWord_queues (w : Nat) (v : Nat) : (d.burnWord w v).queues = d.queues := rfl
@[simp] theorem burnWord_nodes (w : Nat) (v : Nat) : (d.burnWord w v).nodes = d.nodes := rfl
@[simp] theorem burnWord_pairs (w : Nat) (v : Nat) : (d.burnWord w v).pairs = d.pairs := rfl
@[simp] theorem burnWord_ports (w : Nat) (v : Nat) : (d.burnWord w v).ports = d.ports := rfl
@[simp] theorem burnWord_laps (w : Nat) (v : Nat) : (d.burnWord w v).laps = d.laps := rfl
@[simp] theorem burnWord_pmc (w : Nat) (v : Nat) : (d.burnWord w v).pmc = d.pmc := rfl
@[simp] theorem burnWord_mem (w : Nat) (v : Nat) : (d.burnWord w v).mem = d.mem := rfl
@[simp] theorem burnWord_flash (w : Nat) (v : Nat) : (d.burnWord w v).flash = d.flash := rfl
@[simp] theorem burnWord_lc (w : Nat) (v : Nat) : (d.burnWord w v).lc = d.lc := rfl
@[simp] theorem burnWord_fw (w : Nat) (v : Nat) : (d.burnWord w v).fw = d.fw := rfl
@[simp] theorem burnWord_att (w : Nat) (v : Nat) : (d.burnWord w v).att = d.att := rfl
@[simp] theorem burnWord_sram (w : Nat) (v : Nat) : (d.burnWord w v).sram = d.sram := rfl
@[simp] theorem burnWord_time (w : Nat) (v : Nat) : (d.burnWord w v).time = d.time := rfl
@[simp] theorem burnWord_mon (w : Nat) (v : Nat) : (d.burnWord w v).mon = d.mon := rfl
@[simp] theorem burnWord_la (w : Nat) (v : Nat) : (d.burnWord w v).la = d.la := rfl
@[simp] theorem burnWord_rd (w : Nat) (v : Nat) (o r : Nat) : (d.burnWord w v).rd o r = d.rd o r := rfl

@[simp] theorem flashPut_part (o : Nat) (v : Nat) : (d.flashPut o v).part = d.part := rfl
@[simp] theorem flashPut_mode (o : Nat) (v : Nat) : (d.flashPut o v).mode = d.mode := rfl
@[simp] theorem flashPut_clockOn (o : Nat) (v : Nat) : (d.flashPut o v).clockOn = d.clockOn := rfl
@[simp] theorem flashPut_boot (o : Nat) (v : Nat) : (d.flashPut o v).boot = d.boot := rfl
@[simp] theorem flashPut_resetLatch (o : Nat) (v : Nat) : (d.flashPut o v).resetLatch = d.resetLatch := rfl
@[simp] theorem flashPut_cyc (o : Nat) (v : Nat) : (d.flashPut o v).cyc = d.cyc := rfl
@[simp] theorem flashPut_clk (o : Nat) (v : Nat) : (d.flashPut o v).clk = d.clk := rfl
@[simp] theorem flashPut_edge (o : Nat) (v : Nat) : (d.flashPut o v).edge = d.edge := rfl
@[simp] theorem flashPut_draws (o : Nat) (v : Nat) : (d.flashPut o v).draws = d.draws := rfl
@[simp] theorem flashPut_dict (o : Nat) (v : Nat) : (d.flashPut o v).dict = d.dict := rfl
@[simp] theorem flashPut_out (o : Nat) (v : Nat) : (d.flashPut o v).out = d.out := rfl
@[simp] theorem flashPut_sess (o : Nat) (v : Nat) : (d.flashPut o v).sess = d.sess := rfl
@[simp] theorem flashPut_proofFails (o : Nat) (v : Nat) : (d.flashPut o v).proofFails = d.proofFails := rfl
@[simp] theorem flashPut_lockoutUntil (o : Nat) (v : Nat) : (d.flashPut o v).lockoutUntil = d.lockoutUntil := rfl
@[simp] theorem flashPut_lockRenewed (o : Nat) (v : Nat) : (d.flashPut o v).lockRenewed = d.lockRenewed := rfl
@[simp] theorem flashPut_groups (o : Nat) (v : Nat) : (d.flashPut o v).groups = d.groups := rfl
@[simp] theorem flashPut_ring (o : Nat) (v : Nat) : (d.flashPut o v).ring = d.ring := rfl
@[simp] theorem flashPut_pcie (o : Nat) (v : Nat) : (d.flashPut o v).pcie = d.pcie := rfl
@[simp] theorem flashPut_jtag (o : Nat) (v : Nat) : (d.flashPut o v).jtag = d.jtag := rfl
@[simp] theorem flashPut_pins (o : Nat) (v : Nat) : (d.flashPut o v).pins = d.pins := rfl
@[simp] theorem flashPut_acqAt (o : Nat) (v : Nat) : (d.flashPut o v).acqAt = d.acqAt := rfl
@[simp] theorem flashPut_drainAt (o : Nat) (v : Nat) : (d.flashPut o v).drainAt = d.drainAt := rfl
@[simp] theorem flashPut_gunSeq (o : Nat) (v : Nat) : (d.flashPut o v).gunSeq = d.gunSeq := rfl
@[simp] theorem flashPut_guns (o : Nat) (v : Nat) : (d.flashPut o v).guns = d.guns := rfl
@[simp] theorem flashPut_faults (o : Nat) (v : Nat) : (d.flashPut o v).faults = d.faults := rfl
@[simp] theorem flashPut_keys (o : Nat) (v : Nat) : (d.flashPut o v).keys = d.keys := rfl
@[simp] theorem flashPut_sas (o : Nat) (v : Nat) : (d.flashPut o v).sas = d.sas := rfl
@[simp] theorem flashPut_banks (o : Nat) (v : Nat) : (d.flashPut o v).banks = d.banks := rfl
@[simp] theorem flashPut_pipe (o : Nat) (v : Nat) : (d.flashPut o v).pipe = d.pipe := rfl
@[simp] theorem flashPut_clsx (o : Nat) (v : Nat) : (d.flashPut o v).clsx = d.clsx := rfl
@[simp] theorem flashPut_queues (o : Nat) (v : Nat) : (d.flashPut o v).queues = d.queues := rfl
@[simp] theorem flashPut_nodes (o : Nat) (v : Nat) : (d.flashPut o v).nodes = d.nodes := rfl
@[simp] theorem flashPut_pairs (o : Nat) (v : Nat) : (d.flashPut o v).pairs = d.pairs := rfl
@[simp] theorem flashPut_ports (o : Nat) (v : Nat) : (d.flashPut o v).ports = d.ports := rfl
@[simp] theorem flashPut_laps (o : Nat) (v : Nat) : (d.flashPut o v).laps = d.laps := rfl
@[simp] theorem flashPut_pmc (o : Nat) (v : Nat) : (d.flashPut o v).pmc = d.pmc := rfl
@[simp] theorem flashPut_mem (o : Nat) (v : Nat) : (d.flashPut o v).mem = d.mem := rfl
@[simp] theorem flashPut_otp (o : Nat) (v : Nat) : (d.flashPut o v).otp = d.otp := rfl
@[simp] theorem flashPut_lc (o : Nat) (v : Nat) : (d.flashPut o v).lc = d.lc := rfl
@[simp] theorem flashPut_fw (o : Nat) (v : Nat) : (d.flashPut o v).fw = d.fw := rfl
@[simp] theorem flashPut_att (o : Nat) (v : Nat) : (d.flashPut o v).att = d.att := rfl
@[simp] theorem flashPut_sram (o : Nat) (v : Nat) : (d.flashPut o v).sram = d.sram := rfl
@[simp] theorem flashPut_time (o : Nat) (v : Nat) : (d.flashPut o v).time = d.time := rfl
@[simp] theorem flashPut_mon (o : Nat) (v : Nat) : (d.flashPut o v).mon = d.mon := rfl
@[simp] theorem flashPut_la (o : Nat) (v : Nat) : (d.flashPut o v).la = d.la := rfl
@[simp] theorem flashPut_rd (o : Nat) (v : Nat) (i j : Nat) : (d.flashPut o v).rd i j = d.rd i j := rfl

@[simp] theorem flashErase_part (o : Nat) (n : Nat) : (d.flashErase o n).part = d.part := rfl
@[simp] theorem flashErase_mode (o : Nat) (n : Nat) : (d.flashErase o n).mode = d.mode := rfl
@[simp] theorem flashErase_clockOn (o : Nat) (n : Nat) : (d.flashErase o n).clockOn = d.clockOn := rfl
@[simp] theorem flashErase_boot (o : Nat) (n : Nat) : (d.flashErase o n).boot = d.boot := rfl
@[simp] theorem flashErase_resetLatch (o : Nat) (n : Nat) : (d.flashErase o n).resetLatch = d.resetLatch := rfl
@[simp] theorem flashErase_cyc (o : Nat) (n : Nat) : (d.flashErase o n).cyc = d.cyc := rfl
@[simp] theorem flashErase_clk (o : Nat) (n : Nat) : (d.flashErase o n).clk = d.clk := rfl
@[simp] theorem flashErase_edge (o : Nat) (n : Nat) : (d.flashErase o n).edge = d.edge := rfl
@[simp] theorem flashErase_draws (o : Nat) (n : Nat) : (d.flashErase o n).draws = d.draws := rfl
@[simp] theorem flashErase_dict (o : Nat) (n : Nat) : (d.flashErase o n).dict = d.dict := rfl
@[simp] theorem flashErase_out (o : Nat) (n : Nat) : (d.flashErase o n).out = d.out := rfl
@[simp] theorem flashErase_sess (o : Nat) (n : Nat) : (d.flashErase o n).sess = d.sess := rfl
@[simp] theorem flashErase_proofFails (o : Nat) (n : Nat) : (d.flashErase o n).proofFails = d.proofFails := rfl
@[simp] theorem flashErase_lockoutUntil (o : Nat) (n : Nat) : (d.flashErase o n).lockoutUntil = d.lockoutUntil := rfl
@[simp] theorem flashErase_lockRenewed (o : Nat) (n : Nat) : (d.flashErase o n).lockRenewed = d.lockRenewed := rfl
@[simp] theorem flashErase_groups (o : Nat) (n : Nat) : (d.flashErase o n).groups = d.groups := rfl
@[simp] theorem flashErase_ring (o : Nat) (n : Nat) : (d.flashErase o n).ring = d.ring := rfl
@[simp] theorem flashErase_pcie (o : Nat) (n : Nat) : (d.flashErase o n).pcie = d.pcie := rfl
@[simp] theorem flashErase_jtag (o : Nat) (n : Nat) : (d.flashErase o n).jtag = d.jtag := rfl
@[simp] theorem flashErase_pins (o : Nat) (n : Nat) : (d.flashErase o n).pins = d.pins := rfl
@[simp] theorem flashErase_acqAt (o : Nat) (n : Nat) : (d.flashErase o n).acqAt = d.acqAt := rfl
@[simp] theorem flashErase_drainAt (o : Nat) (n : Nat) : (d.flashErase o n).drainAt = d.drainAt := rfl
@[simp] theorem flashErase_gunSeq (o : Nat) (n : Nat) : (d.flashErase o n).gunSeq = d.gunSeq := rfl
@[simp] theorem flashErase_guns (o : Nat) (n : Nat) : (d.flashErase o n).guns = d.guns := rfl
@[simp] theorem flashErase_faults (o : Nat) (n : Nat) : (d.flashErase o n).faults = d.faults := rfl
@[simp] theorem flashErase_keys (o : Nat) (n : Nat) : (d.flashErase o n).keys = d.keys := rfl
@[simp] theorem flashErase_sas (o : Nat) (n : Nat) : (d.flashErase o n).sas = d.sas := rfl
@[simp] theorem flashErase_banks (o : Nat) (n : Nat) : (d.flashErase o n).banks = d.banks := rfl
@[simp] theorem flashErase_pipe (o : Nat) (n : Nat) : (d.flashErase o n).pipe = d.pipe := rfl
@[simp] theorem flashErase_clsx (o : Nat) (n : Nat) : (d.flashErase o n).clsx = d.clsx := rfl
@[simp] theorem flashErase_queues (o : Nat) (n : Nat) : (d.flashErase o n).queues = d.queues := rfl
@[simp] theorem flashErase_nodes (o : Nat) (n : Nat) : (d.flashErase o n).nodes = d.nodes := rfl
@[simp] theorem flashErase_pairs (o : Nat) (n : Nat) : (d.flashErase o n).pairs = d.pairs := rfl
@[simp] theorem flashErase_ports (o : Nat) (n : Nat) : (d.flashErase o n).ports = d.ports := rfl
@[simp] theorem flashErase_laps (o : Nat) (n : Nat) : (d.flashErase o n).laps = d.laps := rfl
@[simp] theorem flashErase_pmc (o : Nat) (n : Nat) : (d.flashErase o n).pmc = d.pmc := rfl
@[simp] theorem flashErase_mem (o : Nat) (n : Nat) : (d.flashErase o n).mem = d.mem := rfl
@[simp] theorem flashErase_otp (o : Nat) (n : Nat) : (d.flashErase o n).otp = d.otp := rfl
@[simp] theorem flashErase_lc (o : Nat) (n : Nat) : (d.flashErase o n).lc = d.lc := rfl
@[simp] theorem flashErase_fw (o : Nat) (n : Nat) : (d.flashErase o n).fw = d.fw := rfl
@[simp] theorem flashErase_att (o : Nat) (n : Nat) : (d.flashErase o n).att = d.att := rfl
@[simp] theorem flashErase_sram (o : Nat) (n : Nat) : (d.flashErase o n).sram = d.sram := rfl
@[simp] theorem flashErase_time (o : Nat) (n : Nat) : (d.flashErase o n).time = d.time := rfl
@[simp] theorem flashErase_mon (o : Nat) (n : Nat) : (d.flashErase o n).mon = d.mon := rfl
@[simp] theorem flashErase_la (o : Nat) (n : Nat) : (d.flashErase o n).la = d.la := rfl
@[simp] theorem flashErase_rd (o : Nat) (n : Nat) (i j : Nat) : (d.flashErase o n).rd i j = d.rd i j := rfl

@[simp] theorem setProofFails_part (l : List (Transport × Nat)) : (d.setProofFails l).part = d.part := rfl
@[simp] theorem setProofFails_mode (l : List (Transport × Nat)) : (d.setProofFails l).mode = d.mode := rfl
@[simp] theorem setProofFails_clockOn (l : List (Transport × Nat)) : (d.setProofFails l).clockOn = d.clockOn := rfl
@[simp] theorem setProofFails_boot (l : List (Transport × Nat)) : (d.setProofFails l).boot = d.boot := rfl
@[simp] theorem setProofFails_resetLatch (l : List (Transport × Nat)) : (d.setProofFails l).resetLatch = d.resetLatch := rfl
@[simp] theorem setProofFails_cyc (l : List (Transport × Nat)) : (d.setProofFails l).cyc = d.cyc := rfl
@[simp] theorem setProofFails_clk (l : List (Transport × Nat)) : (d.setProofFails l).clk = d.clk := rfl
@[simp] theorem setProofFails_edge (l : List (Transport × Nat)) : (d.setProofFails l).edge = d.edge := rfl
@[simp] theorem setProofFails_draws (l : List (Transport × Nat)) : (d.setProofFails l).draws = d.draws := rfl
@[simp] theorem setProofFails_dict (l : List (Transport × Nat)) : (d.setProofFails l).dict = d.dict := rfl
@[simp] theorem setProofFails_out (l : List (Transport × Nat)) : (d.setProofFails l).out = d.out := rfl
@[simp] theorem setProofFails_sess (l : List (Transport × Nat)) : (d.setProofFails l).sess = d.sess := rfl
@[simp] theorem setProofFails_lockoutUntil (l : List (Transport × Nat)) : (d.setProofFails l).lockoutUntil = d.lockoutUntil := rfl
@[simp] theorem setProofFails_lockRenewed (l : List (Transport × Nat)) : (d.setProofFails l).lockRenewed = d.lockRenewed := rfl
@[simp] theorem setProofFails_groups (l : List (Transport × Nat)) : (d.setProofFails l).groups = d.groups := rfl
@[simp] theorem setProofFails_ring (l : List (Transport × Nat)) : (d.setProofFails l).ring = d.ring := rfl
@[simp] theorem setProofFails_pcie (l : List (Transport × Nat)) : (d.setProofFails l).pcie = d.pcie := rfl
@[simp] theorem setProofFails_jtag (l : List (Transport × Nat)) : (d.setProofFails l).jtag = d.jtag := rfl
@[simp] theorem setProofFails_pins (l : List (Transport × Nat)) : (d.setProofFails l).pins = d.pins := rfl
@[simp] theorem setProofFails_acqAt (l : List (Transport × Nat)) : (d.setProofFails l).acqAt = d.acqAt := rfl
@[simp] theorem setProofFails_drainAt (l : List (Transport × Nat)) : (d.setProofFails l).drainAt = d.drainAt := rfl
@[simp] theorem setProofFails_gunSeq (l : List (Transport × Nat)) : (d.setProofFails l).gunSeq = d.gunSeq := rfl
@[simp] theorem setProofFails_guns (l : List (Transport × Nat)) : (d.setProofFails l).guns = d.guns := rfl
@[simp] theorem setProofFails_faults (l : List (Transport × Nat)) : (d.setProofFails l).faults = d.faults := rfl
@[simp] theorem setProofFails_keys (l : List (Transport × Nat)) : (d.setProofFails l).keys = d.keys := rfl
@[simp] theorem setProofFails_sas (l : List (Transport × Nat)) : (d.setProofFails l).sas = d.sas := rfl
@[simp] theorem setProofFails_banks (l : List (Transport × Nat)) : (d.setProofFails l).banks = d.banks := rfl
@[simp] theorem setProofFails_pipe (l : List (Transport × Nat)) : (d.setProofFails l).pipe = d.pipe := rfl
@[simp] theorem setProofFails_clsx (l : List (Transport × Nat)) : (d.setProofFails l).clsx = d.clsx := rfl
@[simp] theorem setProofFails_queues (l : List (Transport × Nat)) : (d.setProofFails l).queues = d.queues := rfl
@[simp] theorem setProofFails_nodes (l : List (Transport × Nat)) : (d.setProofFails l).nodes = d.nodes := rfl
@[simp] theorem setProofFails_pairs (l : List (Transport × Nat)) : (d.setProofFails l).pairs = d.pairs := rfl
@[simp] theorem setProofFails_ports (l : List (Transport × Nat)) : (d.setProofFails l).ports = d.ports := rfl
@[simp] theorem setProofFails_laps (l : List (Transport × Nat)) : (d.setProofFails l).laps = d.laps := rfl
@[simp] theorem setProofFails_pmc (l : List (Transport × Nat)) : (d.setProofFails l).pmc = d.pmc := rfl
@[simp] theorem setProofFails_mem (l : List (Transport × Nat)) : (d.setProofFails l).mem = d.mem := rfl
@[simp] theorem setProofFails_otp (l : List (Transport × Nat)) : (d.setProofFails l).otp = d.otp := rfl
@[simp] theorem setProofFails_flash (l : List (Transport × Nat)) : (d.setProofFails l).flash = d.flash := rfl
@[simp] theorem setProofFails_lc (l : List (Transport × Nat)) : (d.setProofFails l).lc = d.lc := rfl
@[simp] theorem setProofFails_fw (l : List (Transport × Nat)) : (d.setProofFails l).fw = d.fw := rfl
@[simp] theorem setProofFails_att (l : List (Transport × Nat)) : (d.setProofFails l).att = d.att := rfl
@[simp] theorem setProofFails_sram (l : List (Transport × Nat)) : (d.setProofFails l).sram = d.sram := rfl
@[simp] theorem setProofFails_time (l : List (Transport × Nat)) : (d.setProofFails l).time = d.time := rfl
@[simp] theorem setProofFails_mon (l : List (Transport × Nat)) : (d.setProofFails l).mon = d.mon := rfl
@[simp] theorem setProofFails_la (l : List (Transport × Nat)) : (d.setProofFails l).la = d.la := rfl
@[simp] theorem setProofFails_rd (l : List (Transport × Nat)) (o r : Nat) : (d.setProofFails l).rd o r = d.rd o r := rfl

@[simp] theorem setLockouts_part (l : List (Transport × Nat)) : (d.setLockouts l).part = d.part := rfl
@[simp] theorem setLockouts_mode (l : List (Transport × Nat)) : (d.setLockouts l).mode = d.mode := rfl
@[simp] theorem setLockouts_clockOn (l : List (Transport × Nat)) : (d.setLockouts l).clockOn = d.clockOn := rfl
@[simp] theorem setLockouts_boot (l : List (Transport × Nat)) : (d.setLockouts l).boot = d.boot := rfl
@[simp] theorem setLockouts_resetLatch (l : List (Transport × Nat)) : (d.setLockouts l).resetLatch = d.resetLatch := rfl
@[simp] theorem setLockouts_cyc (l : List (Transport × Nat)) : (d.setLockouts l).cyc = d.cyc := rfl
@[simp] theorem setLockouts_clk (l : List (Transport × Nat)) : (d.setLockouts l).clk = d.clk := rfl
@[simp] theorem setLockouts_edge (l : List (Transport × Nat)) : (d.setLockouts l).edge = d.edge := rfl
@[simp] theorem setLockouts_draws (l : List (Transport × Nat)) : (d.setLockouts l).draws = d.draws := rfl
@[simp] theorem setLockouts_dict (l : List (Transport × Nat)) : (d.setLockouts l).dict = d.dict := rfl
@[simp] theorem setLockouts_out (l : List (Transport × Nat)) : (d.setLockouts l).out = d.out := rfl
@[simp] theorem setLockouts_sess (l : List (Transport × Nat)) : (d.setLockouts l).sess = d.sess := rfl
@[simp] theorem setLockouts_proofFails (l : List (Transport × Nat)) : (d.setLockouts l).proofFails = d.proofFails := rfl
@[simp] theorem setLockouts_lockRenewed (l : List (Transport × Nat)) : (d.setLockouts l).lockRenewed = d.lockRenewed := rfl
@[simp] theorem setLockouts_groups (l : List (Transport × Nat)) : (d.setLockouts l).groups = d.groups := rfl
@[simp] theorem setLockouts_ring (l : List (Transport × Nat)) : (d.setLockouts l).ring = d.ring := rfl
@[simp] theorem setLockouts_pcie (l : List (Transport × Nat)) : (d.setLockouts l).pcie = d.pcie := rfl
@[simp] theorem setLockouts_jtag (l : List (Transport × Nat)) : (d.setLockouts l).jtag = d.jtag := rfl
@[simp] theorem setLockouts_pins (l : List (Transport × Nat)) : (d.setLockouts l).pins = d.pins := rfl
@[simp] theorem setLockouts_acqAt (l : List (Transport × Nat)) : (d.setLockouts l).acqAt = d.acqAt := rfl
@[simp] theorem setLockouts_drainAt (l : List (Transport × Nat)) : (d.setLockouts l).drainAt = d.drainAt := rfl
@[simp] theorem setLockouts_gunSeq (l : List (Transport × Nat)) : (d.setLockouts l).gunSeq = d.gunSeq := rfl
@[simp] theorem setLockouts_guns (l : List (Transport × Nat)) : (d.setLockouts l).guns = d.guns := rfl
@[simp] theorem setLockouts_faults (l : List (Transport × Nat)) : (d.setLockouts l).faults = d.faults := rfl
@[simp] theorem setLockouts_keys (l : List (Transport × Nat)) : (d.setLockouts l).keys = d.keys := rfl
@[simp] theorem setLockouts_sas (l : List (Transport × Nat)) : (d.setLockouts l).sas = d.sas := rfl
@[simp] theorem setLockouts_banks (l : List (Transport × Nat)) : (d.setLockouts l).banks = d.banks := rfl
@[simp] theorem setLockouts_pipe (l : List (Transport × Nat)) : (d.setLockouts l).pipe = d.pipe := rfl
@[simp] theorem setLockouts_clsx (l : List (Transport × Nat)) : (d.setLockouts l).clsx = d.clsx := rfl
@[simp] theorem setLockouts_queues (l : List (Transport × Nat)) : (d.setLockouts l).queues = d.queues := rfl
@[simp] theorem setLockouts_nodes (l : List (Transport × Nat)) : (d.setLockouts l).nodes = d.nodes := rfl
@[simp] theorem setLockouts_pairs (l : List (Transport × Nat)) : (d.setLockouts l).pairs = d.pairs := rfl
@[simp] theorem setLockouts_ports (l : List (Transport × Nat)) : (d.setLockouts l).ports = d.ports := rfl
@[simp] theorem setLockouts_laps (l : List (Transport × Nat)) : (d.setLockouts l).laps = d.laps := rfl
@[simp] theorem setLockouts_pmc (l : List (Transport × Nat)) : (d.setLockouts l).pmc = d.pmc := rfl
@[simp] theorem setLockouts_mem (l : List (Transport × Nat)) : (d.setLockouts l).mem = d.mem := rfl
@[simp] theorem setLockouts_otp (l : List (Transport × Nat)) : (d.setLockouts l).otp = d.otp := rfl
@[simp] theorem setLockouts_flash (l : List (Transport × Nat)) : (d.setLockouts l).flash = d.flash := rfl
@[simp] theorem setLockouts_lc (l : List (Transport × Nat)) : (d.setLockouts l).lc = d.lc := rfl
@[simp] theorem setLockouts_fw (l : List (Transport × Nat)) : (d.setLockouts l).fw = d.fw := rfl
@[simp] theorem setLockouts_att (l : List (Transport × Nat)) : (d.setLockouts l).att = d.att := rfl
@[simp] theorem setLockouts_sram (l : List (Transport × Nat)) : (d.setLockouts l).sram = d.sram := rfl
@[simp] theorem setLockouts_time (l : List (Transport × Nat)) : (d.setLockouts l).time = d.time := rfl
@[simp] theorem setLockouts_mon (l : List (Transport × Nat)) : (d.setLockouts l).mon = d.mon := rfl
@[simp] theorem setLockouts_la (l : List (Transport × Nat)) : (d.setLockouts l).la = d.la := rfl
@[simp] theorem setLockouts_rd (l : List (Transport × Nat)) (o r : Nat) : (d.setLockouts l).rd o r = d.rd o r := rfl

@[simp] theorem setRing_part (x : RingX) : (d.setRing x).part = d.part := rfl
@[simp] theorem setRing_mode (x : RingX) : (d.setRing x).mode = d.mode := rfl
@[simp] theorem setRing_clockOn (x : RingX) : (d.setRing x).clockOn = d.clockOn := rfl
@[simp] theorem setRing_boot (x : RingX) : (d.setRing x).boot = d.boot := rfl
@[simp] theorem setRing_resetLatch (x : RingX) : (d.setRing x).resetLatch = d.resetLatch := rfl
@[simp] theorem setRing_cyc (x : RingX) : (d.setRing x).cyc = d.cyc := rfl
@[simp] theorem setRing_clk (x : RingX) : (d.setRing x).clk = d.clk := rfl
@[simp] theorem setRing_edge (x : RingX) : (d.setRing x).edge = d.edge := rfl
@[simp] theorem setRing_draws (x : RingX) : (d.setRing x).draws = d.draws := rfl
@[simp] theorem setRing_dict (x : RingX) : (d.setRing x).dict = d.dict := rfl
@[simp] theorem setRing_out (x : RingX) : (d.setRing x).out = d.out := rfl
@[simp] theorem setRing_sess (x : RingX) : (d.setRing x).sess = d.sess := rfl
@[simp] theorem setRing_proofFails (x : RingX) : (d.setRing x).proofFails = d.proofFails := rfl
@[simp] theorem setRing_lockoutUntil (x : RingX) : (d.setRing x).lockoutUntil = d.lockoutUntil := rfl
@[simp] theorem setRing_lockRenewed (x : RingX) : (d.setRing x).lockRenewed = d.lockRenewed := rfl
@[simp] theorem setRing_groups (x : RingX) : (d.setRing x).groups = d.groups := rfl
@[simp] theorem setRing_pcie (x : RingX) : (d.setRing x).pcie = d.pcie := rfl
@[simp] theorem setRing_jtag (x : RingX) : (d.setRing x).jtag = d.jtag := rfl
@[simp] theorem setRing_pins (x : RingX) : (d.setRing x).pins = d.pins := rfl
@[simp] theorem setRing_acqAt (x : RingX) : (d.setRing x).acqAt = d.acqAt := rfl
@[simp] theorem setRing_drainAt (x : RingX) : (d.setRing x).drainAt = d.drainAt := rfl
@[simp] theorem setRing_gunSeq (x : RingX) : (d.setRing x).gunSeq = d.gunSeq := rfl
@[simp] theorem setRing_guns (x : RingX) : (d.setRing x).guns = d.guns := rfl
@[simp] theorem setRing_faults (x : RingX) : (d.setRing x).faults = d.faults := rfl
@[simp] theorem setRing_keys (x : RingX) : (d.setRing x).keys = d.keys := rfl
@[simp] theorem setRing_sas (x : RingX) : (d.setRing x).sas = d.sas := rfl
@[simp] theorem setRing_banks (x : RingX) : (d.setRing x).banks = d.banks := rfl
@[simp] theorem setRing_pipe (x : RingX) : (d.setRing x).pipe = d.pipe := rfl
@[simp] theorem setRing_clsx (x : RingX) : (d.setRing x).clsx = d.clsx := rfl
@[simp] theorem setRing_queues (x : RingX) : (d.setRing x).queues = d.queues := rfl
@[simp] theorem setRing_nodes (x : RingX) : (d.setRing x).nodes = d.nodes := rfl
@[simp] theorem setRing_pairs (x : RingX) : (d.setRing x).pairs = d.pairs := rfl
@[simp] theorem setRing_ports (x : RingX) : (d.setRing x).ports = d.ports := rfl
@[simp] theorem setRing_laps (x : RingX) : (d.setRing x).laps = d.laps := rfl
@[simp] theorem setRing_pmc (x : RingX) : (d.setRing x).pmc = d.pmc := rfl
@[simp] theorem setRing_mem (x : RingX) : (d.setRing x).mem = d.mem := rfl
@[simp] theorem setRing_otp (x : RingX) : (d.setRing x).otp = d.otp := rfl
@[simp] theorem setRing_flash (x : RingX) : (d.setRing x).flash = d.flash := rfl
@[simp] theorem setRing_lc (x : RingX) : (d.setRing x).lc = d.lc := rfl
@[simp] theorem setRing_fw (x : RingX) : (d.setRing x).fw = d.fw := rfl
@[simp] theorem setRing_att (x : RingX) : (d.setRing x).att = d.att := rfl
@[simp] theorem setRing_sram (x : RingX) : (d.setRing x).sram = d.sram := rfl
@[simp] theorem setRing_time (x : RingX) : (d.setRing x).time = d.time := rfl
@[simp] theorem setRing_mon (x : RingX) : (d.setRing x).mon = d.mon := rfl
@[simp] theorem setRing_la (x : RingX) : (d.setRing x).la = d.la := rfl
@[simp] theorem setRing_rd (x : RingX) (o r : Nat) : (d.setRing x).rd o r = d.rd o r := rfl

@[simp] theorem setPins_part (x : Pins) : (d.setPins x).part = d.part := rfl
@[simp] theorem setPins_mode (x : Pins) : (d.setPins x).mode = d.mode := rfl
@[simp] theorem setPins_clockOn (x : Pins) : (d.setPins x).clockOn = d.clockOn := rfl
@[simp] theorem setPins_boot (x : Pins) : (d.setPins x).boot = d.boot := rfl
@[simp] theorem setPins_resetLatch (x : Pins) : (d.setPins x).resetLatch = d.resetLatch := rfl
@[simp] theorem setPins_cyc (x : Pins) : (d.setPins x).cyc = d.cyc := rfl
@[simp] theorem setPins_clk (x : Pins) : (d.setPins x).clk = d.clk := rfl
@[simp] theorem setPins_edge (x : Pins) : (d.setPins x).edge = d.edge := rfl
@[simp] theorem setPins_draws (x : Pins) : (d.setPins x).draws = d.draws := rfl
@[simp] theorem setPins_dict (x : Pins) : (d.setPins x).dict = d.dict := rfl
@[simp] theorem setPins_out (x : Pins) : (d.setPins x).out = d.out := rfl
@[simp] theorem setPins_sess (x : Pins) : (d.setPins x).sess = d.sess := rfl
@[simp] theorem setPins_proofFails (x : Pins) : (d.setPins x).proofFails = d.proofFails := rfl
@[simp] theorem setPins_lockoutUntil (x : Pins) : (d.setPins x).lockoutUntil = d.lockoutUntil := rfl
@[simp] theorem setPins_lockRenewed (x : Pins) : (d.setPins x).lockRenewed = d.lockRenewed := rfl
@[simp] theorem setPins_groups (x : Pins) : (d.setPins x).groups = d.groups := rfl
@[simp] theorem setPins_ring (x : Pins) : (d.setPins x).ring = d.ring := rfl
@[simp] theorem setPins_pcie (x : Pins) : (d.setPins x).pcie = d.pcie := rfl
@[simp] theorem setPins_jtag (x : Pins) : (d.setPins x).jtag = d.jtag := rfl
@[simp] theorem setPins_acqAt (x : Pins) : (d.setPins x).acqAt = d.acqAt := rfl
@[simp] theorem setPins_drainAt (x : Pins) : (d.setPins x).drainAt = d.drainAt := rfl
@[simp] theorem setPins_gunSeq (x : Pins) : (d.setPins x).gunSeq = d.gunSeq := rfl
@[simp] theorem setPins_guns (x : Pins) : (d.setPins x).guns = d.guns := rfl
@[simp] theorem setPins_faults (x : Pins) : (d.setPins x).faults = d.faults := rfl
@[simp] theorem setPins_keys (x : Pins) : (d.setPins x).keys = d.keys := rfl
@[simp] theorem setPins_sas (x : Pins) : (d.setPins x).sas = d.sas := rfl
@[simp] theorem setPins_banks (x : Pins) : (d.setPins x).banks = d.banks := rfl
@[simp] theorem setPins_pipe (x : Pins) : (d.setPins x).pipe = d.pipe := rfl
@[simp] theorem setPins_clsx (x : Pins) : (d.setPins x).clsx = d.clsx := rfl
@[simp] theorem setPins_queues (x : Pins) : (d.setPins x).queues = d.queues := rfl
@[simp] theorem setPins_nodes (x : Pins) : (d.setPins x).nodes = d.nodes := rfl
@[simp] theorem setPins_pairs (x : Pins) : (d.setPins x).pairs = d.pairs := rfl
@[simp] theorem setPins_ports (x : Pins) : (d.setPins x).ports = d.ports := rfl
@[simp] theorem setPins_laps (x : Pins) : (d.setPins x).laps = d.laps := rfl
@[simp] theorem setPins_pmc (x : Pins) : (d.setPins x).pmc = d.pmc := rfl
@[simp] theorem setPins_mem (x : Pins) : (d.setPins x).mem = d.mem := rfl
@[simp] theorem setPins_otp (x : Pins) : (d.setPins x).otp = d.otp := rfl
@[simp] theorem setPins_flash (x : Pins) : (d.setPins x).flash = d.flash := rfl
@[simp] theorem setPins_lc (x : Pins) : (d.setPins x).lc = d.lc := rfl
@[simp] theorem setPins_fw (x : Pins) : (d.setPins x).fw = d.fw := rfl
@[simp] theorem setPins_att (x : Pins) : (d.setPins x).att = d.att := rfl
@[simp] theorem setPins_sram (x : Pins) : (d.setPins x).sram = d.sram := rfl
@[simp] theorem setPins_time (x : Pins) : (d.setPins x).time = d.time := rfl
@[simp] theorem setPins_mon (x : Pins) : (d.setPins x).mon = d.mon := rfl
@[simp] theorem setPins_la (x : Pins) : (d.setPins x).la = d.la := rfl
@[simp] theorem setPins_rd (x : Pins) (o r : Nat) : (d.setPins x).rd o r = d.rd o r := rfl

@[simp] theorem setTime_part (x : TimeX) : (d.setTime x).part = d.part := rfl
@[simp] theorem setTime_mode (x : TimeX) : (d.setTime x).mode = d.mode := rfl
@[simp] theorem setTime_clockOn (x : TimeX) : (d.setTime x).clockOn = d.clockOn := rfl
@[simp] theorem setTime_boot (x : TimeX) : (d.setTime x).boot = d.boot := rfl
@[simp] theorem setTime_resetLatch (x : TimeX) : (d.setTime x).resetLatch = d.resetLatch := rfl
@[simp] theorem setTime_cyc (x : TimeX) : (d.setTime x).cyc = d.cyc := rfl
@[simp] theorem setTime_clk (x : TimeX) : (d.setTime x).clk = d.clk := rfl
@[simp] theorem setTime_edge (x : TimeX) : (d.setTime x).edge = d.edge := rfl
@[simp] theorem setTime_draws (x : TimeX) : (d.setTime x).draws = d.draws := rfl
@[simp] theorem setTime_dict (x : TimeX) : (d.setTime x).dict = d.dict := rfl
@[simp] theorem setTime_out (x : TimeX) : (d.setTime x).out = d.out := rfl
@[simp] theorem setTime_sess (x : TimeX) : (d.setTime x).sess = d.sess := rfl
@[simp] theorem setTime_proofFails (x : TimeX) : (d.setTime x).proofFails = d.proofFails := rfl
@[simp] theorem setTime_lockoutUntil (x : TimeX) : (d.setTime x).lockoutUntil = d.lockoutUntil := rfl
@[simp] theorem setTime_lockRenewed (x : TimeX) : (d.setTime x).lockRenewed = d.lockRenewed := rfl
@[simp] theorem setTime_groups (x : TimeX) : (d.setTime x).groups = d.groups := rfl
@[simp] theorem setTime_ring (x : TimeX) : (d.setTime x).ring = d.ring := rfl
@[simp] theorem setTime_pcie (x : TimeX) : (d.setTime x).pcie = d.pcie := rfl
@[simp] theorem setTime_jtag (x : TimeX) : (d.setTime x).jtag = d.jtag := rfl
@[simp] theorem setTime_pins (x : TimeX) : (d.setTime x).pins = d.pins := rfl
@[simp] theorem setTime_acqAt (x : TimeX) : (d.setTime x).acqAt = d.acqAt := rfl
@[simp] theorem setTime_drainAt (x : TimeX) : (d.setTime x).drainAt = d.drainAt := rfl
@[simp] theorem setTime_gunSeq (x : TimeX) : (d.setTime x).gunSeq = d.gunSeq := rfl
@[simp] theorem setTime_guns (x : TimeX) : (d.setTime x).guns = d.guns := rfl
@[simp] theorem setTime_faults (x : TimeX) : (d.setTime x).faults = d.faults := rfl
@[simp] theorem setTime_keys (x : TimeX) : (d.setTime x).keys = d.keys := rfl
@[simp] theorem setTime_sas (x : TimeX) : (d.setTime x).sas = d.sas := rfl
@[simp] theorem setTime_banks (x : TimeX) : (d.setTime x).banks = d.banks := rfl
@[simp] theorem setTime_pipe (x : TimeX) : (d.setTime x).pipe = d.pipe := rfl
@[simp] theorem setTime_clsx (x : TimeX) : (d.setTime x).clsx = d.clsx := rfl
@[simp] theorem setTime_queues (x : TimeX) : (d.setTime x).queues = d.queues := rfl
@[simp] theorem setTime_nodes (x : TimeX) : (d.setTime x).nodes = d.nodes := rfl
@[simp] theorem setTime_pairs (x : TimeX) : (d.setTime x).pairs = d.pairs := rfl
@[simp] theorem setTime_ports (x : TimeX) : (d.setTime x).ports = d.ports := rfl
@[simp] theorem setTime_laps (x : TimeX) : (d.setTime x).laps = d.laps := rfl
@[simp] theorem setTime_pmc (x : TimeX) : (d.setTime x).pmc = d.pmc := rfl
@[simp] theorem setTime_mem (x : TimeX) : (d.setTime x).mem = d.mem := rfl
@[simp] theorem setTime_otp (x : TimeX) : (d.setTime x).otp = d.otp := rfl
@[simp] theorem setTime_flash (x : TimeX) : (d.setTime x).flash = d.flash := rfl
@[simp] theorem setTime_lc (x : TimeX) : (d.setTime x).lc = d.lc := rfl
@[simp] theorem setTime_fw (x : TimeX) : (d.setTime x).fw = d.fw := rfl
@[simp] theorem setTime_att (x : TimeX) : (d.setTime x).att = d.att := rfl
@[simp] theorem setTime_sram (x : TimeX) : (d.setTime x).sram = d.sram := rfl
@[simp] theorem setTime_mon (x : TimeX) : (d.setTime x).mon = d.mon := rfl
@[simp] theorem setTime_la (x : TimeX) : (d.setTime x).la = d.la := rfl
@[simp] theorem setTime_rd (x : TimeX) (o r : Nat) : (d.setTime x).rd o r = d.rd o r := rfl

@[simp] theorem setPcie_part (x : PcieX) : (d.setPcie x).part = d.part := rfl
@[simp] theorem setPcie_mode (x : PcieX) : (d.setPcie x).mode = d.mode := rfl
@[simp] theorem setPcie_clockOn (x : PcieX) : (d.setPcie x).clockOn = d.clockOn := rfl
@[simp] theorem setPcie_boot (x : PcieX) : (d.setPcie x).boot = d.boot := rfl
@[simp] theorem setPcie_resetLatch (x : PcieX) : (d.setPcie x).resetLatch = d.resetLatch := rfl
@[simp] theorem setPcie_cyc (x : PcieX) : (d.setPcie x).cyc = d.cyc := rfl
@[simp] theorem setPcie_clk (x : PcieX) : (d.setPcie x).clk = d.clk := rfl
@[simp] theorem setPcie_edge (x : PcieX) : (d.setPcie x).edge = d.edge := rfl
@[simp] theorem setPcie_draws (x : PcieX) : (d.setPcie x).draws = d.draws := rfl
@[simp] theorem setPcie_dict (x : PcieX) : (d.setPcie x).dict = d.dict := rfl
@[simp] theorem setPcie_out (x : PcieX) : (d.setPcie x).out = d.out := rfl
@[simp] theorem setPcie_sess (x : PcieX) : (d.setPcie x).sess = d.sess := rfl
@[simp] theorem setPcie_proofFails (x : PcieX) : (d.setPcie x).proofFails = d.proofFails := rfl
@[simp] theorem setPcie_lockoutUntil (x : PcieX) : (d.setPcie x).lockoutUntil = d.lockoutUntil := rfl
@[simp] theorem setPcie_lockRenewed (x : PcieX) : (d.setPcie x).lockRenewed = d.lockRenewed := rfl
@[simp] theorem setPcie_groups (x : PcieX) : (d.setPcie x).groups = d.groups := rfl
@[simp] theorem setPcie_ring (x : PcieX) : (d.setPcie x).ring = d.ring := rfl
@[simp] theorem setPcie_jtag (x : PcieX) : (d.setPcie x).jtag = d.jtag := rfl
@[simp] theorem setPcie_pins (x : PcieX) : (d.setPcie x).pins = d.pins := rfl
@[simp] theorem setPcie_acqAt (x : PcieX) : (d.setPcie x).acqAt = d.acqAt := rfl
@[simp] theorem setPcie_drainAt (x : PcieX) : (d.setPcie x).drainAt = d.drainAt := rfl
@[simp] theorem setPcie_gunSeq (x : PcieX) : (d.setPcie x).gunSeq = d.gunSeq := rfl
@[simp] theorem setPcie_guns (x : PcieX) : (d.setPcie x).guns = d.guns := rfl
@[simp] theorem setPcie_faults (x : PcieX) : (d.setPcie x).faults = d.faults := rfl
@[simp] theorem setPcie_keys (x : PcieX) : (d.setPcie x).keys = d.keys := rfl
@[simp] theorem setPcie_sas (x : PcieX) : (d.setPcie x).sas = d.sas := rfl
@[simp] theorem setPcie_banks (x : PcieX) : (d.setPcie x).banks = d.banks := rfl
@[simp] theorem setPcie_pipe (x : PcieX) : (d.setPcie x).pipe = d.pipe := rfl
@[simp] theorem setPcie_clsx (x : PcieX) : (d.setPcie x).clsx = d.clsx := rfl
@[simp] theorem setPcie_queues (x : PcieX) : (d.setPcie x).queues = d.queues := rfl
@[simp] theorem setPcie_nodes (x : PcieX) : (d.setPcie x).nodes = d.nodes := rfl
@[simp] theorem setPcie_pairs (x : PcieX) : (d.setPcie x).pairs = d.pairs := rfl
@[simp] theorem setPcie_ports (x : PcieX) : (d.setPcie x).ports = d.ports := rfl
@[simp] theorem setPcie_laps (x : PcieX) : (d.setPcie x).laps = d.laps := rfl
@[simp] theorem setPcie_pmc (x : PcieX) : (d.setPcie x).pmc = d.pmc := rfl
@[simp] theorem setPcie_mem (x : PcieX) : (d.setPcie x).mem = d.mem := rfl
@[simp] theorem setPcie_otp (x : PcieX) : (d.setPcie x).otp = d.otp := rfl
@[simp] theorem setPcie_flash (x : PcieX) : (d.setPcie x).flash = d.flash := rfl
@[simp] theorem setPcie_lc (x : PcieX) : (d.setPcie x).lc = d.lc := rfl
@[simp] theorem setPcie_fw (x : PcieX) : (d.setPcie x).fw = d.fw := rfl
@[simp] theorem setPcie_att (x : PcieX) : (d.setPcie x).att = d.att := rfl
@[simp] theorem setPcie_sram (x : PcieX) : (d.setPcie x).sram = d.sram := rfl
@[simp] theorem setPcie_time (x : PcieX) : (d.setPcie x).time = d.time := rfl
@[simp] theorem setPcie_mon (x : PcieX) : (d.setPcie x).mon = d.mon := rfl
@[simp] theorem setPcie_la (x : PcieX) : (d.setPcie x).la = d.la := rfl
@[simp] theorem setPcie_rd (x : PcieX) (o r : Nat) : (d.setPcie x).rd o r = d.rd o r := rfl

@[simp] theorem setJtag_part (x : JtagX) : (d.setJtag x).part = d.part := rfl
@[simp] theorem setJtag_mode (x : JtagX) : (d.setJtag x).mode = d.mode := rfl
@[simp] theorem setJtag_clockOn (x : JtagX) : (d.setJtag x).clockOn = d.clockOn := rfl
@[simp] theorem setJtag_boot (x : JtagX) : (d.setJtag x).boot = d.boot := rfl
@[simp] theorem setJtag_resetLatch (x : JtagX) : (d.setJtag x).resetLatch = d.resetLatch := rfl
@[simp] theorem setJtag_cyc (x : JtagX) : (d.setJtag x).cyc = d.cyc := rfl
@[simp] theorem setJtag_clk (x : JtagX) : (d.setJtag x).clk = d.clk := rfl
@[simp] theorem setJtag_edge (x : JtagX) : (d.setJtag x).edge = d.edge := rfl
@[simp] theorem setJtag_draws (x : JtagX) : (d.setJtag x).draws = d.draws := rfl
@[simp] theorem setJtag_dict (x : JtagX) : (d.setJtag x).dict = d.dict := rfl
@[simp] theorem setJtag_out (x : JtagX) : (d.setJtag x).out = d.out := rfl
@[simp] theorem setJtag_sess (x : JtagX) : (d.setJtag x).sess = d.sess := rfl
@[simp] theorem setJtag_proofFails (x : JtagX) : (d.setJtag x).proofFails = d.proofFails := rfl
@[simp] theorem setJtag_lockoutUntil (x : JtagX) : (d.setJtag x).lockoutUntil = d.lockoutUntil := rfl
@[simp] theorem setJtag_lockRenewed (x : JtagX) : (d.setJtag x).lockRenewed = d.lockRenewed := rfl
@[simp] theorem setJtag_groups (x : JtagX) : (d.setJtag x).groups = d.groups := rfl
@[simp] theorem setJtag_ring (x : JtagX) : (d.setJtag x).ring = d.ring := rfl
@[simp] theorem setJtag_pcie (x : JtagX) : (d.setJtag x).pcie = d.pcie := rfl
@[simp] theorem setJtag_pins (x : JtagX) : (d.setJtag x).pins = d.pins := rfl
@[simp] theorem setJtag_acqAt (x : JtagX) : (d.setJtag x).acqAt = d.acqAt := rfl
@[simp] theorem setJtag_drainAt (x : JtagX) : (d.setJtag x).drainAt = d.drainAt := rfl
@[simp] theorem setJtag_gunSeq (x : JtagX) : (d.setJtag x).gunSeq = d.gunSeq := rfl
@[simp] theorem setJtag_guns (x : JtagX) : (d.setJtag x).guns = d.guns := rfl
@[simp] theorem setJtag_faults (x : JtagX) : (d.setJtag x).faults = d.faults := rfl
@[simp] theorem setJtag_keys (x : JtagX) : (d.setJtag x).keys = d.keys := rfl
@[simp] theorem setJtag_sas (x : JtagX) : (d.setJtag x).sas = d.sas := rfl
@[simp] theorem setJtag_banks (x : JtagX) : (d.setJtag x).banks = d.banks := rfl
@[simp] theorem setJtag_pipe (x : JtagX) : (d.setJtag x).pipe = d.pipe := rfl
@[simp] theorem setJtag_clsx (x : JtagX) : (d.setJtag x).clsx = d.clsx := rfl
@[simp] theorem setJtag_queues (x : JtagX) : (d.setJtag x).queues = d.queues := rfl
@[simp] theorem setJtag_nodes (x : JtagX) : (d.setJtag x).nodes = d.nodes := rfl
@[simp] theorem setJtag_pairs (x : JtagX) : (d.setJtag x).pairs = d.pairs := rfl
@[simp] theorem setJtag_ports (x : JtagX) : (d.setJtag x).ports = d.ports := rfl
@[simp] theorem setJtag_laps (x : JtagX) : (d.setJtag x).laps = d.laps := rfl
@[simp] theorem setJtag_pmc (x : JtagX) : (d.setJtag x).pmc = d.pmc := rfl
@[simp] theorem setJtag_mem (x : JtagX) : (d.setJtag x).mem = d.mem := rfl
@[simp] theorem setJtag_otp (x : JtagX) : (d.setJtag x).otp = d.otp := rfl
@[simp] theorem setJtag_flash (x : JtagX) : (d.setJtag x).flash = d.flash := rfl
@[simp] theorem setJtag_lc (x : JtagX) : (d.setJtag x).lc = d.lc := rfl
@[simp] theorem setJtag_fw (x : JtagX) : (d.setJtag x).fw = d.fw := rfl
@[simp] theorem setJtag_att (x : JtagX) : (d.setJtag x).att = d.att := rfl
@[simp] theorem setJtag_sram (x : JtagX) : (d.setJtag x).sram = d.sram := rfl
@[simp] theorem setJtag_time (x : JtagX) : (d.setJtag x).time = d.time := rfl
@[simp] theorem setJtag_mon (x : JtagX) : (d.setJtag x).mon = d.mon := rfl
@[simp] theorem setJtag_la (x : JtagX) : (d.setJtag x).la = d.la := rfl
@[simp] theorem setJtag_rd (x : JtagX) (o r : Nat) : (d.setJtag x).rd o r = d.rd o r := rfl

@[simp] theorem setFw_part (x : FwX) : (d.setFw x).part = d.part := rfl
@[simp] theorem setFw_mode (x : FwX) : (d.setFw x).mode = d.mode := rfl
@[simp] theorem setFw_clockOn (x : FwX) : (d.setFw x).clockOn = d.clockOn := rfl
@[simp] theorem setFw_boot (x : FwX) : (d.setFw x).boot = d.boot := rfl
@[simp] theorem setFw_resetLatch (x : FwX) : (d.setFw x).resetLatch = d.resetLatch := rfl
@[simp] theorem setFw_cyc (x : FwX) : (d.setFw x).cyc = d.cyc := rfl
@[simp] theorem setFw_clk (x : FwX) : (d.setFw x).clk = d.clk := rfl
@[simp] theorem setFw_edge (x : FwX) : (d.setFw x).edge = d.edge := rfl
@[simp] theorem setFw_draws (x : FwX) : (d.setFw x).draws = d.draws := rfl
@[simp] theorem setFw_dict (x : FwX) : (d.setFw x).dict = d.dict := rfl
@[simp] theorem setFw_out (x : FwX) : (d.setFw x).out = d.out := rfl
@[simp] theorem setFw_sess (x : FwX) : (d.setFw x).sess = d.sess := rfl
@[simp] theorem setFw_proofFails (x : FwX) : (d.setFw x).proofFails = d.proofFails := rfl
@[simp] theorem setFw_lockoutUntil (x : FwX) : (d.setFw x).lockoutUntil = d.lockoutUntil := rfl
@[simp] theorem setFw_lockRenewed (x : FwX) : (d.setFw x).lockRenewed = d.lockRenewed := rfl
@[simp] theorem setFw_groups (x : FwX) : (d.setFw x).groups = d.groups := rfl
@[simp] theorem setFw_ring (x : FwX) : (d.setFw x).ring = d.ring := rfl
@[simp] theorem setFw_pcie (x : FwX) : (d.setFw x).pcie = d.pcie := rfl
@[simp] theorem setFw_jtag (x : FwX) : (d.setFw x).jtag = d.jtag := rfl
@[simp] theorem setFw_pins (x : FwX) : (d.setFw x).pins = d.pins := rfl
@[simp] theorem setFw_acqAt (x : FwX) : (d.setFw x).acqAt = d.acqAt := rfl
@[simp] theorem setFw_drainAt (x : FwX) : (d.setFw x).drainAt = d.drainAt := rfl
@[simp] theorem setFw_gunSeq (x : FwX) : (d.setFw x).gunSeq = d.gunSeq := rfl
@[simp] theorem setFw_guns (x : FwX) : (d.setFw x).guns = d.guns := rfl
@[simp] theorem setFw_faults (x : FwX) : (d.setFw x).faults = d.faults := rfl
@[simp] theorem setFw_keys (x : FwX) : (d.setFw x).keys = d.keys := rfl
@[simp] theorem setFw_sas (x : FwX) : (d.setFw x).sas = d.sas := rfl
@[simp] theorem setFw_banks (x : FwX) : (d.setFw x).banks = d.banks := rfl
@[simp] theorem setFw_pipe (x : FwX) : (d.setFw x).pipe = d.pipe := rfl
@[simp] theorem setFw_clsx (x : FwX) : (d.setFw x).clsx = d.clsx := rfl
@[simp] theorem setFw_queues (x : FwX) : (d.setFw x).queues = d.queues := rfl
@[simp] theorem setFw_nodes (x : FwX) : (d.setFw x).nodes = d.nodes := rfl
@[simp] theorem setFw_pairs (x : FwX) : (d.setFw x).pairs = d.pairs := rfl
@[simp] theorem setFw_ports (x : FwX) : (d.setFw x).ports = d.ports := rfl
@[simp] theorem setFw_laps (x : FwX) : (d.setFw x).laps = d.laps := rfl
@[simp] theorem setFw_pmc (x : FwX) : (d.setFw x).pmc = d.pmc := rfl
@[simp] theorem setFw_mem (x : FwX) : (d.setFw x).mem = d.mem := rfl
@[simp] theorem setFw_otp (x : FwX) : (d.setFw x).otp = d.otp := rfl
@[simp] theorem setFw_flash (x : FwX) : (d.setFw x).flash = d.flash := rfl
@[simp] theorem setFw_lc (x : FwX) : (d.setFw x).lc = d.lc := rfl
@[simp] theorem setFw_att (x : FwX) : (d.setFw x).att = d.att := rfl
@[simp] theorem setFw_sram (x : FwX) : (d.setFw x).sram = d.sram := rfl
@[simp] theorem setFw_time (x : FwX) : (d.setFw x).time = d.time := rfl
@[simp] theorem setFw_mon (x : FwX) : (d.setFw x).mon = d.mon := rfl
@[simp] theorem setFw_la (x : FwX) : (d.setFw x).la = d.la := rfl
@[simp] theorem setFw_rd (x : FwX) (o r : Nat) : (d.setFw x).rd o r = d.rd o r := rfl

@[simp] theorem setAtt_part (x : AttX) : (d.setAtt x).part = d.part := rfl
@[simp] theorem setAtt_mode (x : AttX) : (d.setAtt x).mode = d.mode := rfl
@[simp] theorem setAtt_clockOn (x : AttX) : (d.setAtt x).clockOn = d.clockOn := rfl
@[simp] theorem setAtt_boot (x : AttX) : (d.setAtt x).boot = d.boot := rfl
@[simp] theorem setAtt_resetLatch (x : AttX) : (d.setAtt x).resetLatch = d.resetLatch := rfl
@[simp] theorem setAtt_cyc (x : AttX) : (d.setAtt x).cyc = d.cyc := rfl
@[simp] theorem setAtt_clk (x : AttX) : (d.setAtt x).clk = d.clk := rfl
@[simp] theorem setAtt_edge (x : AttX) : (d.setAtt x).edge = d.edge := rfl
@[simp] theorem setAtt_draws (x : AttX) : (d.setAtt x).draws = d.draws := rfl
@[simp] theorem setAtt_dict (x : AttX) : (d.setAtt x).dict = d.dict := rfl
@[simp] theorem setAtt_out (x : AttX) : (d.setAtt x).out = d.out := rfl
@[simp] theorem setAtt_sess (x : AttX) : (d.setAtt x).sess = d.sess := rfl
@[simp] theorem setAtt_proofFails (x : AttX) : (d.setAtt x).proofFails = d.proofFails := rfl
@[simp] theorem setAtt_lockoutUntil (x : AttX) : (d.setAtt x).lockoutUntil = d.lockoutUntil := rfl
@[simp] theorem setAtt_lockRenewed (x : AttX) : (d.setAtt x).lockRenewed = d.lockRenewed := rfl
@[simp] theorem setAtt_groups (x : AttX) : (d.setAtt x).groups = d.groups := rfl
@[simp] theorem setAtt_ring (x : AttX) : (d.setAtt x).ring = d.ring := rfl
@[simp] theorem setAtt_pcie (x : AttX) : (d.setAtt x).pcie = d.pcie := rfl
@[simp] theorem setAtt_jtag (x : AttX) : (d.setAtt x).jtag = d.jtag := rfl
@[simp] theorem setAtt_pins (x : AttX) : (d.setAtt x).pins = d.pins := rfl
@[simp] theorem setAtt_acqAt (x : AttX) : (d.setAtt x).acqAt = d.acqAt := rfl
@[simp] theorem setAtt_drainAt (x : AttX) : (d.setAtt x).drainAt = d.drainAt := rfl
@[simp] theorem setAtt_gunSeq (x : AttX) : (d.setAtt x).gunSeq = d.gunSeq := rfl
@[simp] theorem setAtt_guns (x : AttX) : (d.setAtt x).guns = d.guns := rfl
@[simp] theorem setAtt_faults (x : AttX) : (d.setAtt x).faults = d.faults := rfl
@[simp] theorem setAtt_keys (x : AttX) : (d.setAtt x).keys = d.keys := rfl
@[simp] theorem setAtt_sas (x : AttX) : (d.setAtt x).sas = d.sas := rfl
@[simp] theorem setAtt_banks (x : AttX) : (d.setAtt x).banks = d.banks := rfl
@[simp] theorem setAtt_pipe (x : AttX) : (d.setAtt x).pipe = d.pipe := rfl
@[simp] theorem setAtt_clsx (x : AttX) : (d.setAtt x).clsx = d.clsx := rfl
@[simp] theorem setAtt_queues (x : AttX) : (d.setAtt x).queues = d.queues := rfl
@[simp] theorem setAtt_nodes (x : AttX) : (d.setAtt x).nodes = d.nodes := rfl
@[simp] theorem setAtt_pairs (x : AttX) : (d.setAtt x).pairs = d.pairs := rfl
@[simp] theorem setAtt_ports (x : AttX) : (d.setAtt x).ports = d.ports := rfl
@[simp] theorem setAtt_laps (x : AttX) : (d.setAtt x).laps = d.laps := rfl
@[simp] theorem setAtt_pmc (x : AttX) : (d.setAtt x).pmc = d.pmc := rfl
@[simp] theorem setAtt_mem (x : AttX) : (d.setAtt x).mem = d.mem := rfl
@[simp] theorem setAtt_otp (x : AttX) : (d.setAtt x).otp = d.otp := rfl
@[simp] theorem setAtt_flash (x : AttX) : (d.setAtt x).flash = d.flash := rfl
@[simp] theorem setAtt_lc (x : AttX) : (d.setAtt x).lc = d.lc := rfl
@[simp] theorem setAtt_fw (x : AttX) : (d.setAtt x).fw = d.fw := rfl
@[simp] theorem setAtt_sram (x : AttX) : (d.setAtt x).sram = d.sram := rfl
@[simp] theorem setAtt_time (x : AttX) : (d.setAtt x).time = d.time := rfl
@[simp] theorem setAtt_mon (x : AttX) : (d.setAtt x).mon = d.mon := rfl
@[simp] theorem setAtt_la (x : AttX) : (d.setAtt x).la = d.la := rfl
@[simp] theorem setAtt_rd (x : AttX) (o r : Nat) : (d.setAtt x).rd o r = d.rd o r := rfl

@[simp] theorem setLc_part (x : LcX) : (d.setLc x).part = d.part := rfl
@[simp] theorem setLc_mode (x : LcX) : (d.setLc x).mode = d.mode := rfl
@[simp] theorem setLc_clockOn (x : LcX) : (d.setLc x).clockOn = d.clockOn := rfl
@[simp] theorem setLc_boot (x : LcX) : (d.setLc x).boot = d.boot := rfl
@[simp] theorem setLc_resetLatch (x : LcX) : (d.setLc x).resetLatch = d.resetLatch := rfl
@[simp] theorem setLc_cyc (x : LcX) : (d.setLc x).cyc = d.cyc := rfl
@[simp] theorem setLc_clk (x : LcX) : (d.setLc x).clk = d.clk := rfl
@[simp] theorem setLc_edge (x : LcX) : (d.setLc x).edge = d.edge := rfl
@[simp] theorem setLc_draws (x : LcX) : (d.setLc x).draws = d.draws := rfl
@[simp] theorem setLc_dict (x : LcX) : (d.setLc x).dict = d.dict := rfl
@[simp] theorem setLc_out (x : LcX) : (d.setLc x).out = d.out := rfl
@[simp] theorem setLc_sess (x : LcX) : (d.setLc x).sess = d.sess := rfl
@[simp] theorem setLc_proofFails (x : LcX) : (d.setLc x).proofFails = d.proofFails := rfl
@[simp] theorem setLc_lockoutUntil (x : LcX) : (d.setLc x).lockoutUntil = d.lockoutUntil := rfl
@[simp] theorem setLc_lockRenewed (x : LcX) : (d.setLc x).lockRenewed = d.lockRenewed := rfl
@[simp] theorem setLc_groups (x : LcX) : (d.setLc x).groups = d.groups := rfl
@[simp] theorem setLc_ring (x : LcX) : (d.setLc x).ring = d.ring := rfl
@[simp] theorem setLc_pcie (x : LcX) : (d.setLc x).pcie = d.pcie := rfl
@[simp] theorem setLc_jtag (x : LcX) : (d.setLc x).jtag = d.jtag := rfl
@[simp] theorem setLc_pins (x : LcX) : (d.setLc x).pins = d.pins := rfl
@[simp] theorem setLc_acqAt (x : LcX) : (d.setLc x).acqAt = d.acqAt := rfl
@[simp] theorem setLc_drainAt (x : LcX) : (d.setLc x).drainAt = d.drainAt := rfl
@[simp] theorem setLc_gunSeq (x : LcX) : (d.setLc x).gunSeq = d.gunSeq := rfl
@[simp] theorem setLc_guns (x : LcX) : (d.setLc x).guns = d.guns := rfl
@[simp] theorem setLc_faults (x : LcX) : (d.setLc x).faults = d.faults := rfl
@[simp] theorem setLc_keys (x : LcX) : (d.setLc x).keys = d.keys := rfl
@[simp] theorem setLc_sas (x : LcX) : (d.setLc x).sas = d.sas := rfl
@[simp] theorem setLc_banks (x : LcX) : (d.setLc x).banks = d.banks := rfl
@[simp] theorem setLc_pipe (x : LcX) : (d.setLc x).pipe = d.pipe := rfl
@[simp] theorem setLc_clsx (x : LcX) : (d.setLc x).clsx = d.clsx := rfl
@[simp] theorem setLc_queues (x : LcX) : (d.setLc x).queues = d.queues := rfl
@[simp] theorem setLc_nodes (x : LcX) : (d.setLc x).nodes = d.nodes := rfl
@[simp] theorem setLc_pairs (x : LcX) : (d.setLc x).pairs = d.pairs := rfl
@[simp] theorem setLc_ports (x : LcX) : (d.setLc x).ports = d.ports := rfl
@[simp] theorem setLc_laps (x : LcX) : (d.setLc x).laps = d.laps := rfl
@[simp] theorem setLc_pmc (x : LcX) : (d.setLc x).pmc = d.pmc := rfl
@[simp] theorem setLc_mem (x : LcX) : (d.setLc x).mem = d.mem := rfl
@[simp] theorem setLc_otp (x : LcX) : (d.setLc x).otp = d.otp := rfl
@[simp] theorem setLc_flash (x : LcX) : (d.setLc x).flash = d.flash := rfl
@[simp] theorem setLc_fw (x : LcX) : (d.setLc x).fw = d.fw := rfl
@[simp] theorem setLc_att (x : LcX) : (d.setLc x).att = d.att := rfl
@[simp] theorem setLc_sram (x : LcX) : (d.setLc x).sram = d.sram := rfl
@[simp] theorem setLc_time (x : LcX) : (d.setLc x).time = d.time := rfl
@[simp] theorem setLc_mon (x : LcX) : (d.setLc x).mon = d.mon := rfl
@[simp] theorem setLc_la (x : LcX) : (d.setLc x).la = d.la := rfl
@[simp] theorem setLc_rd (x : LcX) (o r : Nat) : (d.setLc x).rd o r = d.rd o r := rfl

@[simp] theorem setAcq_part (l : Nat) (n : Nat) : (d.setAcq l n).part = d.part := rfl
@[simp] theorem setAcq_mode (l : Nat) (n : Nat) : (d.setAcq l n).mode = d.mode := rfl
@[simp] theorem setAcq_clockOn (l : Nat) (n : Nat) : (d.setAcq l n).clockOn = d.clockOn := rfl
@[simp] theorem setAcq_boot (l : Nat) (n : Nat) : (d.setAcq l n).boot = d.boot := rfl
@[simp] theorem setAcq_resetLatch (l : Nat) (n : Nat) : (d.setAcq l n).resetLatch = d.resetLatch := rfl
@[simp] theorem setAcq_cyc (l : Nat) (n : Nat) : (d.setAcq l n).cyc = d.cyc := rfl
@[simp] theorem setAcq_clk (l : Nat) (n : Nat) : (d.setAcq l n).clk = d.clk := rfl
@[simp] theorem setAcq_edge (l : Nat) (n : Nat) : (d.setAcq l n).edge = d.edge := rfl
@[simp] theorem setAcq_draws (l : Nat) (n : Nat) : (d.setAcq l n).draws = d.draws := rfl
@[simp] theorem setAcq_dict (l : Nat) (n : Nat) : (d.setAcq l n).dict = d.dict := rfl
@[simp] theorem setAcq_out (l : Nat) (n : Nat) : (d.setAcq l n).out = d.out := rfl
@[simp] theorem setAcq_sess (l : Nat) (n : Nat) : (d.setAcq l n).sess = d.sess := rfl
@[simp] theorem setAcq_proofFails (l : Nat) (n : Nat) : (d.setAcq l n).proofFails = d.proofFails := rfl
@[simp] theorem setAcq_lockoutUntil (l : Nat) (n : Nat) : (d.setAcq l n).lockoutUntil = d.lockoutUntil := rfl
@[simp] theorem setAcq_lockRenewed (l : Nat) (n : Nat) : (d.setAcq l n).lockRenewed = d.lockRenewed := rfl
@[simp] theorem setAcq_groups (l : Nat) (n : Nat) : (d.setAcq l n).groups = d.groups := rfl
@[simp] theorem setAcq_ring (l : Nat) (n : Nat) : (d.setAcq l n).ring = d.ring := rfl
@[simp] theorem setAcq_pcie (l : Nat) (n : Nat) : (d.setAcq l n).pcie = d.pcie := rfl
@[simp] theorem setAcq_jtag (l : Nat) (n : Nat) : (d.setAcq l n).jtag = d.jtag := rfl
@[simp] theorem setAcq_pins (l : Nat) (n : Nat) : (d.setAcq l n).pins = d.pins := rfl
@[simp] theorem setAcq_drainAt (l : Nat) (n : Nat) : (d.setAcq l n).drainAt = d.drainAt := rfl
@[simp] theorem setAcq_gunSeq (l : Nat) (n : Nat) : (d.setAcq l n).gunSeq = d.gunSeq := rfl
@[simp] theorem setAcq_guns (l : Nat) (n : Nat) : (d.setAcq l n).guns = d.guns := rfl
@[simp] theorem setAcq_faults (l : Nat) (n : Nat) : (d.setAcq l n).faults = d.faults := rfl
@[simp] theorem setAcq_keys (l : Nat) (n : Nat) : (d.setAcq l n).keys = d.keys := rfl
@[simp] theorem setAcq_sas (l : Nat) (n : Nat) : (d.setAcq l n).sas = d.sas := rfl
@[simp] theorem setAcq_banks (l : Nat) (n : Nat) : (d.setAcq l n).banks = d.banks := rfl
@[simp] theorem setAcq_pipe (l : Nat) (n : Nat) : (d.setAcq l n).pipe = d.pipe := rfl
@[simp] theorem setAcq_clsx (l : Nat) (n : Nat) : (d.setAcq l n).clsx = d.clsx := rfl
@[simp] theorem setAcq_queues (l : Nat) (n : Nat) : (d.setAcq l n).queues = d.queues := rfl
@[simp] theorem setAcq_nodes (l : Nat) (n : Nat) : (d.setAcq l n).nodes = d.nodes := rfl
@[simp] theorem setAcq_pairs (l : Nat) (n : Nat) : (d.setAcq l n).pairs = d.pairs := rfl
@[simp] theorem setAcq_ports (l : Nat) (n : Nat) : (d.setAcq l n).ports = d.ports := rfl
@[simp] theorem setAcq_laps (l : Nat) (n : Nat) : (d.setAcq l n).laps = d.laps := rfl
@[simp] theorem setAcq_pmc (l : Nat) (n : Nat) : (d.setAcq l n).pmc = d.pmc := rfl
@[simp] theorem setAcq_mem (l : Nat) (n : Nat) : (d.setAcq l n).mem = d.mem := rfl
@[simp] theorem setAcq_otp (l : Nat) (n : Nat) : (d.setAcq l n).otp = d.otp := rfl
@[simp] theorem setAcq_flash (l : Nat) (n : Nat) : (d.setAcq l n).flash = d.flash := rfl
@[simp] theorem setAcq_lc (l : Nat) (n : Nat) : (d.setAcq l n).lc = d.lc := rfl
@[simp] theorem setAcq_fw (l : Nat) (n : Nat) : (d.setAcq l n).fw = d.fw := rfl
@[simp] theorem setAcq_att (l : Nat) (n : Nat) : (d.setAcq l n).att = d.att := rfl
@[simp] theorem setAcq_sram (l : Nat) (n : Nat) : (d.setAcq l n).sram = d.sram := rfl
@[simp] theorem setAcq_time (l : Nat) (n : Nat) : (d.setAcq l n).time = d.time := rfl
@[simp] theorem setAcq_mon (l : Nat) (n : Nat) : (d.setAcq l n).mon = d.mon := rfl
@[simp] theorem setAcq_la (l : Nat) (n : Nat) : (d.setAcq l n).la = d.la := rfl
@[simp] theorem setAcq_rd (l : Nat) (n : Nat) (o r : Nat) : (d.setAcq l n).rd o r = d.rd o r := rfl

@[simp] theorem setMon_part (x : MonX) : (d.setMon x).part = d.part := rfl
@[simp] theorem setMon_mode (x : MonX) : (d.setMon x).mode = d.mode := rfl
@[simp] theorem setMon_clockOn (x : MonX) : (d.setMon x).clockOn = d.clockOn := rfl
@[simp] theorem setMon_boot (x : MonX) : (d.setMon x).boot = d.boot := rfl
@[simp] theorem setMon_resetLatch (x : MonX) : (d.setMon x).resetLatch = d.resetLatch := rfl
@[simp] theorem setMon_cyc (x : MonX) : (d.setMon x).cyc = d.cyc := rfl
@[simp] theorem setMon_clk (x : MonX) : (d.setMon x).clk = d.clk := rfl
@[simp] theorem setMon_edge (x : MonX) : (d.setMon x).edge = d.edge := rfl
@[simp] theorem setMon_draws (x : MonX) : (d.setMon x).draws = d.draws := rfl
@[simp] theorem setMon_dict (x : MonX) : (d.setMon x).dict = d.dict := rfl
@[simp] theorem setMon_out (x : MonX) : (d.setMon x).out = d.out := rfl
@[simp] theorem setMon_sess (x : MonX) : (d.setMon x).sess = d.sess := rfl
@[simp] theorem setMon_proofFails (x : MonX) : (d.setMon x).proofFails = d.proofFails := rfl
@[simp] theorem setMon_lockoutUntil (x : MonX) : (d.setMon x).lockoutUntil = d.lockoutUntil := rfl
@[simp] theorem setMon_lockRenewed (x : MonX) : (d.setMon x).lockRenewed = d.lockRenewed := rfl
@[simp] theorem setMon_groups (x : MonX) : (d.setMon x).groups = d.groups := rfl
@[simp] theorem setMon_ring (x : MonX) : (d.setMon x).ring = d.ring := rfl
@[simp] theorem setMon_pcie (x : MonX) : (d.setMon x).pcie = d.pcie := rfl
@[simp] theorem setMon_jtag (x : MonX) : (d.setMon x).jtag = d.jtag := rfl
@[simp] theorem setMon_pins (x : MonX) : (d.setMon x).pins = d.pins := rfl
@[simp] theorem setMon_acqAt (x : MonX) : (d.setMon x).acqAt = d.acqAt := rfl
@[simp] theorem setMon_drainAt (x : MonX) : (d.setMon x).drainAt = d.drainAt := rfl
@[simp] theorem setMon_gunSeq (x : MonX) : (d.setMon x).gunSeq = d.gunSeq := rfl
@[simp] theorem setMon_guns (x : MonX) : (d.setMon x).guns = d.guns := rfl
@[simp] theorem setMon_faults (x : MonX) : (d.setMon x).faults = d.faults := rfl
@[simp] theorem setMon_keys (x : MonX) : (d.setMon x).keys = d.keys := rfl
@[simp] theorem setMon_sas (x : MonX) : (d.setMon x).sas = d.sas := rfl
@[simp] theorem setMon_banks (x : MonX) : (d.setMon x).banks = d.banks := rfl
@[simp] theorem setMon_pipe (x : MonX) : (d.setMon x).pipe = d.pipe := rfl
@[simp] theorem setMon_clsx (x : MonX) : (d.setMon x).clsx = d.clsx := rfl
@[simp] theorem setMon_queues (x : MonX) : (d.setMon x).queues = d.queues := rfl
@[simp] theorem setMon_nodes (x : MonX) : (d.setMon x).nodes = d.nodes := rfl
@[simp] theorem setMon_pairs (x : MonX) : (d.setMon x).pairs = d.pairs := rfl
@[simp] theorem setMon_ports (x : MonX) : (d.setMon x).ports = d.ports := rfl
@[simp] theorem setMon_laps (x : MonX) : (d.setMon x).laps = d.laps := rfl
@[simp] theorem setMon_pmc (x : MonX) : (d.setMon x).pmc = d.pmc := rfl
@[simp] theorem setMon_mem (x : MonX) : (d.setMon x).mem = d.mem := rfl
@[simp] theorem setMon_otp (x : MonX) : (d.setMon x).otp = d.otp := rfl
@[simp] theorem setMon_flash (x : MonX) : (d.setMon x).flash = d.flash := rfl
@[simp] theorem setMon_lc (x : MonX) : (d.setMon x).lc = d.lc := rfl
@[simp] theorem setMon_fw (x : MonX) : (d.setMon x).fw = d.fw := rfl
@[simp] theorem setMon_att (x : MonX) : (d.setMon x).att = d.att := rfl
@[simp] theorem setMon_sram (x : MonX) : (d.setMon x).sram = d.sram := rfl
@[simp] theorem setMon_time (x : MonX) : (d.setMon x).time = d.time := rfl
@[simp] theorem setMon_la (x : MonX) : (d.setMon x).la = d.la := rfl
@[simp] theorem setMon_rd (x : MonX) (o r : Nat) : (d.setMon x).rd o r = d.rd o r := rfl

@[simp] theorem setLatch_part (n : Nat) : (d.setLatch n).part = d.part := rfl
@[simp] theorem setLatch_mode (n : Nat) : (d.setLatch n).mode = d.mode := rfl
@[simp] theorem setLatch_clockOn (n : Nat) : (d.setLatch n).clockOn = d.clockOn := rfl
@[simp] theorem setLatch_boot (n : Nat) : (d.setLatch n).boot = d.boot := rfl
@[simp] theorem setLatch_cyc (n : Nat) : (d.setLatch n).cyc = d.cyc := rfl
@[simp] theorem setLatch_clk (n : Nat) : (d.setLatch n).clk = d.clk := rfl
@[simp] theorem setLatch_edge (n : Nat) : (d.setLatch n).edge = d.edge := rfl
@[simp] theorem setLatch_draws (n : Nat) : (d.setLatch n).draws = d.draws := rfl
@[simp] theorem setLatch_dict (n : Nat) : (d.setLatch n).dict = d.dict := rfl
@[simp] theorem setLatch_out (n : Nat) : (d.setLatch n).out = d.out := rfl
@[simp] theorem setLatch_sess (n : Nat) : (d.setLatch n).sess = d.sess := rfl
@[simp] theorem setLatch_proofFails (n : Nat) : (d.setLatch n).proofFails = d.proofFails := rfl
@[simp] theorem setLatch_lockoutUntil (n : Nat) : (d.setLatch n).lockoutUntil = d.lockoutUntil := rfl
@[simp] theorem setLatch_lockRenewed (n : Nat) : (d.setLatch n).lockRenewed = d.lockRenewed := rfl
@[simp] theorem setLatch_groups (n : Nat) : (d.setLatch n).groups = d.groups := rfl
@[simp] theorem setLatch_ring (n : Nat) : (d.setLatch n).ring = d.ring := rfl
@[simp] theorem setLatch_pcie (n : Nat) : (d.setLatch n).pcie = d.pcie := rfl
@[simp] theorem setLatch_jtag (n : Nat) : (d.setLatch n).jtag = d.jtag := rfl
@[simp] theorem setLatch_pins (n : Nat) : (d.setLatch n).pins = d.pins := rfl
@[simp] theorem setLatch_acqAt (n : Nat) : (d.setLatch n).acqAt = d.acqAt := rfl
@[simp] theorem setLatch_drainAt (n : Nat) : (d.setLatch n).drainAt = d.drainAt := rfl
@[simp] theorem setLatch_gunSeq (n : Nat) : (d.setLatch n).gunSeq = d.gunSeq := rfl
@[simp] theorem setLatch_guns (n : Nat) : (d.setLatch n).guns = d.guns := rfl
@[simp] theorem setLatch_faults (n : Nat) : (d.setLatch n).faults = d.faults := rfl
@[simp] theorem setLatch_keys (n : Nat) : (d.setLatch n).keys = d.keys := rfl
@[simp] theorem setLatch_sas (n : Nat) : (d.setLatch n).sas = d.sas := rfl
@[simp] theorem setLatch_banks (n : Nat) : (d.setLatch n).banks = d.banks := rfl
@[simp] theorem setLatch_pipe (n : Nat) : (d.setLatch n).pipe = d.pipe := rfl
@[simp] theorem setLatch_clsx (n : Nat) : (d.setLatch n).clsx = d.clsx := rfl
@[simp] theorem setLatch_queues (n : Nat) : (d.setLatch n).queues = d.queues := rfl
@[simp] theorem setLatch_nodes (n : Nat) : (d.setLatch n).nodes = d.nodes := rfl
@[simp] theorem setLatch_pairs (n : Nat) : (d.setLatch n).pairs = d.pairs := rfl
@[simp] theorem setLatch_ports (n : Nat) : (d.setLatch n).ports = d.ports := rfl
@[simp] theorem setLatch_laps (n : Nat) : (d.setLatch n).laps = d.laps := rfl
@[simp] theorem setLatch_pmc (n : Nat) : (d.setLatch n).pmc = d.pmc := rfl
@[simp] theorem setLatch_mem (n : Nat) : (d.setLatch n).mem = d.mem := rfl
@[simp] theorem setLatch_otp (n : Nat) : (d.setLatch n).otp = d.otp := rfl
@[simp] theorem setLatch_flash (n : Nat) : (d.setLatch n).flash = d.flash := rfl
@[simp] theorem setLatch_lc (n : Nat) : (d.setLatch n).lc = d.lc := rfl
@[simp] theorem setLatch_fw (n : Nat) : (d.setLatch n).fw = d.fw := rfl
@[simp] theorem setLatch_att (n : Nat) : (d.setLatch n).att = d.att := rfl
@[simp] theorem setLatch_sram (n : Nat) : (d.setLatch n).sram = d.sram := rfl
@[simp] theorem setLatch_time (n : Nat) : (d.setLatch n).time = d.time := rfl
@[simp] theorem setLatch_mon (n : Nat) : (d.setLatch n).mon = d.mon := rfl
@[simp] theorem setLatch_la (n : Nat) : (d.setLatch n).la = d.la := rfl
@[simp] theorem setLatch_rd (n : Nat) (o r : Nat) : (d.setLatch n).rd o r = d.rd o r := rfl

@[simp] theorem setBoot_part (x : BootX) : (d.setBoot x).part = d.part := rfl
@[simp] theorem setBoot_mode (x : BootX) : (d.setBoot x).mode = d.mode := rfl
@[simp] theorem setBoot_clockOn (x : BootX) : (d.setBoot x).clockOn = d.clockOn := rfl
@[simp] theorem setBoot_resetLatch (x : BootX) : (d.setBoot x).resetLatch = d.resetLatch := rfl
@[simp] theorem setBoot_cyc (x : BootX) : (d.setBoot x).cyc = d.cyc := rfl
@[simp] theorem setBoot_clk (x : BootX) : (d.setBoot x).clk = d.clk := rfl
@[simp] theorem setBoot_edge (x : BootX) : (d.setBoot x).edge = d.edge := rfl
@[simp] theorem setBoot_draws (x : BootX) : (d.setBoot x).draws = d.draws := rfl
@[simp] theorem setBoot_dict (x : BootX) : (d.setBoot x).dict = d.dict := rfl
@[simp] theorem setBoot_out (x : BootX) : (d.setBoot x).out = d.out := rfl
@[simp] theorem setBoot_sess (x : BootX) : (d.setBoot x).sess = d.sess := rfl
@[simp] theorem setBoot_proofFails (x : BootX) : (d.setBoot x).proofFails = d.proofFails := rfl
@[simp] theorem setBoot_lockoutUntil (x : BootX) : (d.setBoot x).lockoutUntil = d.lockoutUntil := rfl
@[simp] theorem setBoot_lockRenewed (x : BootX) : (d.setBoot x).lockRenewed = d.lockRenewed := rfl
@[simp] theorem setBoot_groups (x : BootX) : (d.setBoot x).groups = d.groups := rfl
@[simp] theorem setBoot_ring (x : BootX) : (d.setBoot x).ring = d.ring := rfl
@[simp] theorem setBoot_pcie (x : BootX) : (d.setBoot x).pcie = d.pcie := rfl
@[simp] theorem setBoot_jtag (x : BootX) : (d.setBoot x).jtag = d.jtag := rfl
@[simp] theorem setBoot_pins (x : BootX) : (d.setBoot x).pins = d.pins := rfl
@[simp] theorem setBoot_acqAt (x : BootX) : (d.setBoot x).acqAt = d.acqAt := rfl
@[simp] theorem setBoot_drainAt (x : BootX) : (d.setBoot x).drainAt = d.drainAt := rfl
@[simp] theorem setBoot_gunSeq (x : BootX) : (d.setBoot x).gunSeq = d.gunSeq := rfl
@[simp] theorem setBoot_guns (x : BootX) : (d.setBoot x).guns = d.guns := rfl
@[simp] theorem setBoot_faults (x : BootX) : (d.setBoot x).faults = d.faults := rfl
@[simp] theorem setBoot_keys (x : BootX) : (d.setBoot x).keys = d.keys := rfl
@[simp] theorem setBoot_sas (x : BootX) : (d.setBoot x).sas = d.sas := rfl
@[simp] theorem setBoot_banks (x : BootX) : (d.setBoot x).banks = d.banks := rfl
@[simp] theorem setBoot_pipe (x : BootX) : (d.setBoot x).pipe = d.pipe := rfl
@[simp] theorem setBoot_clsx (x : BootX) : (d.setBoot x).clsx = d.clsx := rfl
@[simp] theorem setBoot_queues (x : BootX) : (d.setBoot x).queues = d.queues := rfl
@[simp] theorem setBoot_nodes (x : BootX) : (d.setBoot x).nodes = d.nodes := rfl
@[simp] theorem setBoot_pairs (x : BootX) : (d.setBoot x).pairs = d.pairs := rfl
@[simp] theorem setBoot_ports (x : BootX) : (d.setBoot x).ports = d.ports := rfl
@[simp] theorem setBoot_laps (x : BootX) : (d.setBoot x).laps = d.laps := rfl
@[simp] theorem setBoot_pmc (x : BootX) : (d.setBoot x).pmc = d.pmc := rfl
@[simp] theorem setBoot_mem (x : BootX) : (d.setBoot x).mem = d.mem := rfl
@[simp] theorem setBoot_otp (x : BootX) : (d.setBoot x).otp = d.otp := rfl
@[simp] theorem setBoot_flash (x : BootX) : (d.setBoot x).flash = d.flash := rfl
@[simp] theorem setBoot_lc (x : BootX) : (d.setBoot x).lc = d.lc := rfl
@[simp] theorem setBoot_fw (x : BootX) : (d.setBoot x).fw = d.fw := rfl
@[simp] theorem setBoot_att (x : BootX) : (d.setBoot x).att = d.att := rfl
@[simp] theorem setBoot_sram (x : BootX) : (d.setBoot x).sram = d.sram := rfl
@[simp] theorem setBoot_time (x : BootX) : (d.setBoot x).time = d.time := rfl
@[simp] theorem setBoot_mon (x : BootX) : (d.setBoot x).mon = d.mon := rfl
@[simp] theorem setBoot_la (x : BootX) : (d.setBoot x).la = d.la := rfl
@[simp] theorem setBoot_rd (x : BootX) (o r : Nat) : (d.setBoot x).rd o r = d.rd o r := rfl

@[simp] theorem setClockOn_part : d.setClockOn.part = d.part := rfl
@[simp] theorem setClockOn_mode : d.setClockOn.mode = d.mode := rfl
@[simp] theorem setClockOn_boot : d.setClockOn.boot = d.boot := rfl
@[simp] theorem setClockOn_resetLatch : d.setClockOn.resetLatch = d.resetLatch := rfl
@[simp] theorem setClockOn_cyc : d.setClockOn.cyc = d.cyc := rfl
@[simp] theorem setClockOn_clk : d.setClockOn.clk = d.clk := rfl
@[simp] theorem setClockOn_edge : d.setClockOn.edge = d.edge := rfl
@[simp] theorem setClockOn_draws : d.setClockOn.draws = d.draws := rfl
@[simp] theorem setClockOn_dict : d.setClockOn.dict = d.dict := rfl
@[simp] theorem setClockOn_out : d.setClockOn.out = d.out := rfl
@[simp] theorem setClockOn_sess : d.setClockOn.sess = d.sess := rfl
@[simp] theorem setClockOn_proofFails : d.setClockOn.proofFails = d.proofFails := rfl
@[simp] theorem setClockOn_lockoutUntil : d.setClockOn.lockoutUntil = d.lockoutUntil := rfl
@[simp] theorem setClockOn_lockRenewed : d.setClockOn.lockRenewed = d.lockRenewed := rfl
@[simp] theorem setClockOn_groups : d.setClockOn.groups = d.groups := rfl
@[simp] theorem setClockOn_ring : d.setClockOn.ring = d.ring := rfl
@[simp] theorem setClockOn_pcie : d.setClockOn.pcie = d.pcie := rfl
@[simp] theorem setClockOn_jtag : d.setClockOn.jtag = d.jtag := rfl
@[simp] theorem setClockOn_pins : d.setClockOn.pins = d.pins := rfl
@[simp] theorem setClockOn_acqAt : d.setClockOn.acqAt = d.acqAt := rfl
@[simp] theorem setClockOn_drainAt : d.setClockOn.drainAt = d.drainAt := rfl
@[simp] theorem setClockOn_gunSeq : d.setClockOn.gunSeq = d.gunSeq := rfl
@[simp] theorem setClockOn_guns : d.setClockOn.guns = d.guns := rfl
@[simp] theorem setClockOn_faults : d.setClockOn.faults = d.faults := rfl
@[simp] theorem setClockOn_keys : d.setClockOn.keys = d.keys := rfl
@[simp] theorem setClockOn_sas : d.setClockOn.sas = d.sas := rfl
@[simp] theorem setClockOn_banks : d.setClockOn.banks = d.banks := rfl
@[simp] theorem setClockOn_pipe : d.setClockOn.pipe = d.pipe := rfl
@[simp] theorem setClockOn_clsx : d.setClockOn.clsx = d.clsx := rfl
@[simp] theorem setClockOn_queues : d.setClockOn.queues = d.queues := rfl
@[simp] theorem setClockOn_nodes : d.setClockOn.nodes = d.nodes := rfl
@[simp] theorem setClockOn_pairs : d.setClockOn.pairs = d.pairs := rfl
@[simp] theorem setClockOn_ports : d.setClockOn.ports = d.ports := rfl
@[simp] theorem setClockOn_laps : d.setClockOn.laps = d.laps := rfl
@[simp] theorem setClockOn_pmc : d.setClockOn.pmc = d.pmc := rfl
@[simp] theorem setClockOn_mem : d.setClockOn.mem = d.mem := rfl
@[simp] theorem setClockOn_otp : d.setClockOn.otp = d.otp := rfl
@[simp] theorem setClockOn_flash : d.setClockOn.flash = d.flash := rfl
@[simp] theorem setClockOn_lc : d.setClockOn.lc = d.lc := rfl
@[simp] theorem setClockOn_fw : d.setClockOn.fw = d.fw := rfl
@[simp] theorem setClockOn_att : d.setClockOn.att = d.att := rfl
@[simp] theorem setClockOn_sram : d.setClockOn.sram = d.sram := rfl
@[simp] theorem setClockOn_time : d.setClockOn.time = d.time := rfl
@[simp] theorem setClockOn_mon : d.setClockOn.mon = d.mon := rfl
@[simp] theorem setClockOn_la : d.setClockOn.la = d.la := rfl
@[simp] theorem setClockOn_rd (o r : Nat) : d.setClockOn.rd o r = d.rd o r := rfl

@[simp] theorem setDrainAt_part (n : Nat) : (d.setDrainAt n).part = d.part := rfl
@[simp] theorem setDrainAt_mode (n : Nat) : (d.setDrainAt n).mode = d.mode := rfl
@[simp] theorem setDrainAt_clockOn (n : Nat) : (d.setDrainAt n).clockOn = d.clockOn := rfl
@[simp] theorem setDrainAt_boot (n : Nat) : (d.setDrainAt n).boot = d.boot := rfl
@[simp] theorem setDrainAt_resetLatch (n : Nat) : (d.setDrainAt n).resetLatch = d.resetLatch := rfl
@[simp] theorem setDrainAt_cyc (n : Nat) : (d.setDrainAt n).cyc = d.cyc := rfl
@[simp] theorem setDrainAt_clk (n : Nat) : (d.setDrainAt n).clk = d.clk := rfl
@[simp] theorem setDrainAt_edge (n : Nat) : (d.setDrainAt n).edge = d.edge := rfl
@[simp] theorem setDrainAt_draws (n : Nat) : (d.setDrainAt n).draws = d.draws := rfl
@[simp] theorem setDrainAt_dict (n : Nat) : (d.setDrainAt n).dict = d.dict := rfl
@[simp] theorem setDrainAt_out (n : Nat) : (d.setDrainAt n).out = d.out := rfl
@[simp] theorem setDrainAt_sess (n : Nat) : (d.setDrainAt n).sess = d.sess := rfl
@[simp] theorem setDrainAt_proofFails (n : Nat) : (d.setDrainAt n).proofFails = d.proofFails := rfl
@[simp] theorem setDrainAt_lockoutUntil (n : Nat) : (d.setDrainAt n).lockoutUntil = d.lockoutUntil := rfl
@[simp] theorem setDrainAt_lockRenewed (n : Nat) : (d.setDrainAt n).lockRenewed = d.lockRenewed := rfl
@[simp] theorem setDrainAt_groups (n : Nat) : (d.setDrainAt n).groups = d.groups := rfl
@[simp] theorem setDrainAt_ring (n : Nat) : (d.setDrainAt n).ring = d.ring := rfl
@[simp] theorem setDrainAt_pcie (n : Nat) : (d.setDrainAt n).pcie = d.pcie := rfl
@[simp] theorem setDrainAt_jtag (n : Nat) : (d.setDrainAt n).jtag = d.jtag := rfl
@[simp] theorem setDrainAt_pins (n : Nat) : (d.setDrainAt n).pins = d.pins := rfl
@[simp] theorem setDrainAt_acqAt (n : Nat) : (d.setDrainAt n).acqAt = d.acqAt := rfl
@[simp] theorem setDrainAt_gunSeq (n : Nat) : (d.setDrainAt n).gunSeq = d.gunSeq := rfl
@[simp] theorem setDrainAt_guns (n : Nat) : (d.setDrainAt n).guns = d.guns := rfl
@[simp] theorem setDrainAt_faults (n : Nat) : (d.setDrainAt n).faults = d.faults := rfl
@[simp] theorem setDrainAt_keys (n : Nat) : (d.setDrainAt n).keys = d.keys := rfl
@[simp] theorem setDrainAt_sas (n : Nat) : (d.setDrainAt n).sas = d.sas := rfl
@[simp] theorem setDrainAt_banks (n : Nat) : (d.setDrainAt n).banks = d.banks := rfl
@[simp] theorem setDrainAt_pipe (n : Nat) : (d.setDrainAt n).pipe = d.pipe := rfl
@[simp] theorem setDrainAt_clsx (n : Nat) : (d.setDrainAt n).clsx = d.clsx := rfl
@[simp] theorem setDrainAt_queues (n : Nat) : (d.setDrainAt n).queues = d.queues := rfl
@[simp] theorem setDrainAt_nodes (n : Nat) : (d.setDrainAt n).nodes = d.nodes := rfl
@[simp] theorem setDrainAt_pairs (n : Nat) : (d.setDrainAt n).pairs = d.pairs := rfl
@[simp] theorem setDrainAt_ports (n : Nat) : (d.setDrainAt n).ports = d.ports := rfl
@[simp] theorem setDrainAt_laps (n : Nat) : (d.setDrainAt n).laps = d.laps := rfl
@[simp] theorem setDrainAt_pmc (n : Nat) : (d.setDrainAt n).pmc = d.pmc := rfl
@[simp] theorem setDrainAt_mem (n : Nat) : (d.setDrainAt n).mem = d.mem := rfl
@[simp] theorem setDrainAt_otp (n : Nat) : (d.setDrainAt n).otp = d.otp := rfl
@[simp] theorem setDrainAt_flash (n : Nat) : (d.setDrainAt n).flash = d.flash := rfl
@[simp] theorem setDrainAt_lc (n : Nat) : (d.setDrainAt n).lc = d.lc := rfl
@[simp] theorem setDrainAt_fw (n : Nat) : (d.setDrainAt n).fw = d.fw := rfl
@[simp] theorem setDrainAt_att (n : Nat) : (d.setDrainAt n).att = d.att := rfl
@[simp] theorem setDrainAt_sram (n : Nat) : (d.setDrainAt n).sram = d.sram := rfl
@[simp] theorem setDrainAt_time (n : Nat) : (d.setDrainAt n).time = d.time := rfl
@[simp] theorem setDrainAt_mon (n : Nat) : (d.setDrainAt n).mon = d.mon := rfl
@[simp] theorem setDrainAt_la (n : Nat) : (d.setDrainAt n).la = d.la := rfl
@[simp] theorem setDrainAt_rd (n : Nat) (o r : Nat) : (d.setDrainAt n).rd o r = d.rd o r := rfl

@[simp] theorem setEdge_part (x : StepEdge) : (d.setEdge x).part = d.part := rfl
@[simp] theorem setEdge_mode (x : StepEdge) : (d.setEdge x).mode = d.mode := rfl
@[simp] theorem setEdge_clockOn (x : StepEdge) : (d.setEdge x).clockOn = d.clockOn := rfl
@[simp] theorem setEdge_boot (x : StepEdge) : (d.setEdge x).boot = d.boot := rfl
@[simp] theorem setEdge_resetLatch (x : StepEdge) : (d.setEdge x).resetLatch = d.resetLatch := rfl
@[simp] theorem setEdge_cyc (x : StepEdge) : (d.setEdge x).cyc = d.cyc := rfl
@[simp] theorem setEdge_clk (x : StepEdge) : (d.setEdge x).clk = d.clk := rfl
@[simp] theorem setEdge_draws (x : StepEdge) : (d.setEdge x).draws = d.draws := rfl
@[simp] theorem setEdge_dict (x : StepEdge) : (d.setEdge x).dict = d.dict := rfl
@[simp] theorem setEdge_out (x : StepEdge) : (d.setEdge x).out = d.out := rfl
@[simp] theorem setEdge_sess (x : StepEdge) : (d.setEdge x).sess = d.sess := rfl
@[simp] theorem setEdge_proofFails (x : StepEdge) : (d.setEdge x).proofFails = d.proofFails := rfl
@[simp] theorem setEdge_lockoutUntil (x : StepEdge) : (d.setEdge x).lockoutUntil = d.lockoutUntil := rfl
@[simp] theorem setEdge_lockRenewed (x : StepEdge) : (d.setEdge x).lockRenewed = d.lockRenewed := rfl
@[simp] theorem setEdge_groups (x : StepEdge) : (d.setEdge x).groups = d.groups := rfl
@[simp] theorem setEdge_ring (x : StepEdge) : (d.setEdge x).ring = d.ring := rfl
@[simp] theorem setEdge_pcie (x : StepEdge) : (d.setEdge x).pcie = d.pcie := rfl
@[simp] theorem setEdge_jtag (x : StepEdge) : (d.setEdge x).jtag = d.jtag := rfl
@[simp] theorem setEdge_pins (x : StepEdge) : (d.setEdge x).pins = d.pins := rfl
@[simp] theorem setEdge_acqAt (x : StepEdge) : (d.setEdge x).acqAt = d.acqAt := rfl
@[simp] theorem setEdge_drainAt (x : StepEdge) : (d.setEdge x).drainAt = d.drainAt := rfl
@[simp] theorem setEdge_gunSeq (x : StepEdge) : (d.setEdge x).gunSeq = d.gunSeq := rfl
@[simp] theorem setEdge_guns (x : StepEdge) : (d.setEdge x).guns = d.guns := rfl
@[simp] theorem setEdge_faults (x : StepEdge) : (d.setEdge x).faults = d.faults := rfl
@[simp] theorem setEdge_keys (x : StepEdge) : (d.setEdge x).keys = d.keys := rfl
@[simp] theorem setEdge_sas (x : StepEdge) : (d.setEdge x).sas = d.sas := rfl
@[simp] theorem setEdge_banks (x : StepEdge) : (d.setEdge x).banks = d.banks := rfl
@[simp] theorem setEdge_pipe (x : StepEdge) : (d.setEdge x).pipe = d.pipe := rfl
@[simp] theorem setEdge_clsx (x : StepEdge) : (d.setEdge x).clsx = d.clsx := rfl
@[simp] theorem setEdge_queues (x : StepEdge) : (d.setEdge x).queues = d.queues := rfl
@[simp] theorem setEdge_nodes (x : StepEdge) : (d.setEdge x).nodes = d.nodes := rfl
@[simp] theorem setEdge_pairs (x : StepEdge) : (d.setEdge x).pairs = d.pairs := rfl
@[simp] theorem setEdge_ports (x : StepEdge) : (d.setEdge x).ports = d.ports := rfl
@[simp] theorem setEdge_laps (x : StepEdge) : (d.setEdge x).laps = d.laps := rfl
@[simp] theorem setEdge_pmc (x : StepEdge) : (d.setEdge x).pmc = d.pmc := rfl
@[simp] theorem setEdge_mem (x : StepEdge) : (d.setEdge x).mem = d.mem := rfl
@[simp] theorem setEdge_otp (x : StepEdge) : (d.setEdge x).otp = d.otp := rfl
@[simp] theorem setEdge_flash (x : StepEdge) : (d.setEdge x).flash = d.flash := rfl
@[simp] theorem setEdge_lc (x : StepEdge) : (d.setEdge x).lc = d.lc := rfl
@[simp] theorem setEdge_fw (x : StepEdge) : (d.setEdge x).fw = d.fw := rfl
@[simp] theorem setEdge_att (x : StepEdge) : (d.setEdge x).att = d.att := rfl
@[simp] theorem setEdge_sram (x : StepEdge) : (d.setEdge x).sram = d.sram := rfl
@[simp] theorem setEdge_time (x : StepEdge) : (d.setEdge x).time = d.time := rfl
@[simp] theorem setEdge_mon (x : StepEdge) : (d.setEdge x).mon = d.mon := rfl
@[simp] theorem setEdge_la (x : StepEdge) : (d.setEdge x).la = d.la := rfl
@[simp] theorem setEdge_rd (x : StepEdge) (o r : Nat) : (d.setEdge x).rd o r = d.rd o r := rfl

@[simp] theorem setQueues_part (l : List (Nat × QueueX)) : (d.setQueues l).part = d.part := rfl
@[simp] theorem setQueues_mode (l : List (Nat × QueueX)) : (d.setQueues l).mode = d.mode := rfl
@[simp] theorem setQueues_clockOn (l : List (Nat × QueueX)) : (d.setQueues l).clockOn = d.clockOn := rfl
@[simp] theorem setQueues_boot (l : List (Nat × QueueX)) : (d.setQueues l).boot = d.boot := rfl
@[simp] theorem setQueues_resetLatch (l : List (Nat × QueueX)) : (d.setQueues l).resetLatch = d.resetLatch := rfl
@[simp] theorem setQueues_cyc (l : List (Nat × QueueX)) : (d.setQueues l).cyc = d.cyc := rfl
@[simp] theorem setQueues_clk (l : List (Nat × QueueX)) : (d.setQueues l).clk = d.clk := rfl
@[simp] theorem setQueues_edge (l : List (Nat × QueueX)) : (d.setQueues l).edge = d.edge := rfl
@[simp] theorem setQueues_draws (l : List (Nat × QueueX)) : (d.setQueues l).draws = d.draws := rfl
@[simp] theorem setQueues_dict (l : List (Nat × QueueX)) : (d.setQueues l).dict = d.dict := rfl
@[simp] theorem setQueues_out (l : List (Nat × QueueX)) : (d.setQueues l).out = d.out := rfl
@[simp] theorem setQueues_sess (l : List (Nat × QueueX)) : (d.setQueues l).sess = d.sess := rfl
@[simp] theorem setQueues_proofFails (l : List (Nat × QueueX)) : (d.setQueues l).proofFails = d.proofFails := rfl
@[simp] theorem setQueues_lockoutUntil (l : List (Nat × QueueX)) : (d.setQueues l).lockoutUntil = d.lockoutUntil := rfl
@[simp] theorem setQueues_lockRenewed (l : List (Nat × QueueX)) : (d.setQueues l).lockRenewed = d.lockRenewed := rfl
@[simp] theorem setQueues_groups (l : List (Nat × QueueX)) : (d.setQueues l).groups = d.groups := rfl
@[simp] theorem setQueues_ring (l : List (Nat × QueueX)) : (d.setQueues l).ring = d.ring := rfl
@[simp] theorem setQueues_pcie (l : List (Nat × QueueX)) : (d.setQueues l).pcie = d.pcie := rfl
@[simp] theorem setQueues_jtag (l : List (Nat × QueueX)) : (d.setQueues l).jtag = d.jtag := rfl
@[simp] theorem setQueues_pins (l : List (Nat × QueueX)) : (d.setQueues l).pins = d.pins := rfl
@[simp] theorem setQueues_acqAt (l : List (Nat × QueueX)) : (d.setQueues l).acqAt = d.acqAt := rfl
@[simp] theorem setQueues_drainAt (l : List (Nat × QueueX)) : (d.setQueues l).drainAt = d.drainAt := rfl
@[simp] theorem setQueues_gunSeq (l : List (Nat × QueueX)) : (d.setQueues l).gunSeq = d.gunSeq := rfl
@[simp] theorem setQueues_guns (l : List (Nat × QueueX)) : (d.setQueues l).guns = d.guns := rfl
@[simp] theorem setQueues_faults (l : List (Nat × QueueX)) : (d.setQueues l).faults = d.faults := rfl
@[simp] theorem setQueues_keys (l : List (Nat × QueueX)) : (d.setQueues l).keys = d.keys := rfl
@[simp] theorem setQueues_sas (l : List (Nat × QueueX)) : (d.setQueues l).sas = d.sas := rfl
@[simp] theorem setQueues_banks (l : List (Nat × QueueX)) : (d.setQueues l).banks = d.banks := rfl
@[simp] theorem setQueues_pipe (l : List (Nat × QueueX)) : (d.setQueues l).pipe = d.pipe := rfl
@[simp] theorem setQueues_clsx (l : List (Nat × QueueX)) : (d.setQueues l).clsx = d.clsx := rfl
@[simp] theorem setQueues_nodes (l : List (Nat × QueueX)) : (d.setQueues l).nodes = d.nodes := rfl
@[simp] theorem setQueues_pairs (l : List (Nat × QueueX)) : (d.setQueues l).pairs = d.pairs := rfl
@[simp] theorem setQueues_ports (l : List (Nat × QueueX)) : (d.setQueues l).ports = d.ports := rfl
@[simp] theorem setQueues_laps (l : List (Nat × QueueX)) : (d.setQueues l).laps = d.laps := rfl
@[simp] theorem setQueues_pmc (l : List (Nat × QueueX)) : (d.setQueues l).pmc = d.pmc := rfl
@[simp] theorem setQueues_mem (l : List (Nat × QueueX)) : (d.setQueues l).mem = d.mem := rfl
@[simp] theorem setQueues_otp (l : List (Nat × QueueX)) : (d.setQueues l).otp = d.otp := rfl
@[simp] theorem setQueues_flash (l : List (Nat × QueueX)) : (d.setQueues l).flash = d.flash := rfl
@[simp] theorem setQueues_lc (l : List (Nat × QueueX)) : (d.setQueues l).lc = d.lc := rfl
@[simp] theorem setQueues_fw (l : List (Nat × QueueX)) : (d.setQueues l).fw = d.fw := rfl
@[simp] theorem setQueues_att (l : List (Nat × QueueX)) : (d.setQueues l).att = d.att := rfl
@[simp] theorem setQueues_sram (l : List (Nat × QueueX)) : (d.setQueues l).sram = d.sram := rfl
@[simp] theorem setQueues_time (l : List (Nat × QueueX)) : (d.setQueues l).time = d.time := rfl
@[simp] theorem setQueues_mon (l : List (Nat × QueueX)) : (d.setQueues l).mon = d.mon := rfl
@[simp] theorem setQueues_la (l : List (Nat × QueueX)) : (d.setQueues l).la = d.la := rfl
@[simp] theorem setQueues_rd (l : List (Nat × QueueX)) (o r : Nat) : (d.setQueues l).rd o r = d.rd o r := rfl

@[simp] theorem setSram_part (x : SramX) : (d.setSram x).part = d.part := rfl
@[simp] theorem setSram_mode (x : SramX) : (d.setSram x).mode = d.mode := rfl
@[simp] theorem setSram_clockOn (x : SramX) : (d.setSram x).clockOn = d.clockOn := rfl
@[simp] theorem setSram_boot (x : SramX) : (d.setSram x).boot = d.boot := rfl
@[simp] theorem setSram_resetLatch (x : SramX) : (d.setSram x).resetLatch = d.resetLatch := rfl
@[simp] theorem setSram_cyc (x : SramX) : (d.setSram x).cyc = d.cyc := rfl
@[simp] theorem setSram_clk (x : SramX) : (d.setSram x).clk = d.clk := rfl
@[simp] theorem setSram_edge (x : SramX) : (d.setSram x).edge = d.edge := rfl
@[simp] theorem setSram_draws (x : SramX) : (d.setSram x).draws = d.draws := rfl
@[simp] theorem setSram_dict (x : SramX) : (d.setSram x).dict = d.dict := rfl
@[simp] theorem setSram_out (x : SramX) : (d.setSram x).out = d.out := rfl
@[simp] theorem setSram_sess (x : SramX) : (d.setSram x).sess = d.sess := rfl
@[simp] theorem setSram_proofFails (x : SramX) : (d.setSram x).proofFails = d.proofFails := rfl
@[simp] theorem setSram_lockoutUntil (x : SramX) : (d.setSram x).lockoutUntil = d.lockoutUntil := rfl
@[simp] theorem setSram_lockRenewed (x : SramX) : (d.setSram x).lockRenewed = d.lockRenewed := rfl
@[simp] theorem setSram_groups (x : SramX) : (d.setSram x).groups = d.groups := rfl
@[simp] theorem setSram_ring (x : SramX) : (d.setSram x).ring = d.ring := rfl
@[simp] theorem setSram_pcie (x : SramX) : (d.setSram x).pcie = d.pcie := rfl
@[simp] theorem setSram_jtag (x : SramX) : (d.setSram x).jtag = d.jtag := rfl
@[simp] theorem setSram_pins (x : SramX) : (d.setSram x).pins = d.pins := rfl
@[simp] theorem setSram_acqAt (x : SramX) : (d.setSram x).acqAt = d.acqAt := rfl
@[simp] theorem setSram_drainAt (x : SramX) : (d.setSram x).drainAt = d.drainAt := rfl
@[simp] theorem setSram_gunSeq (x : SramX) : (d.setSram x).gunSeq = d.gunSeq := rfl
@[simp] theorem setSram_guns (x : SramX) : (d.setSram x).guns = d.guns := rfl
@[simp] theorem setSram_faults (x : SramX) : (d.setSram x).faults = d.faults := rfl
@[simp] theorem setSram_keys (x : SramX) : (d.setSram x).keys = d.keys := rfl
@[simp] theorem setSram_sas (x : SramX) : (d.setSram x).sas = d.sas := rfl
@[simp] theorem setSram_banks (x : SramX) : (d.setSram x).banks = d.banks := rfl
@[simp] theorem setSram_pipe (x : SramX) : (d.setSram x).pipe = d.pipe := rfl
@[simp] theorem setSram_clsx (x : SramX) : (d.setSram x).clsx = d.clsx := rfl
@[simp] theorem setSram_queues (x : SramX) : (d.setSram x).queues = d.queues := rfl
@[simp] theorem setSram_nodes (x : SramX) : (d.setSram x).nodes = d.nodes := rfl
@[simp] theorem setSram_pairs (x : SramX) : (d.setSram x).pairs = d.pairs := rfl
@[simp] theorem setSram_ports (x : SramX) : (d.setSram x).ports = d.ports := rfl
@[simp] theorem setSram_laps (x : SramX) : (d.setSram x).laps = d.laps := rfl
@[simp] theorem setSram_pmc (x : SramX) : (d.setSram x).pmc = d.pmc := rfl
@[simp] theorem setSram_mem (x : SramX) : (d.setSram x).mem = d.mem := rfl
@[simp] theorem setSram_otp (x : SramX) : (d.setSram x).otp = d.otp := rfl
@[simp] theorem setSram_flash (x : SramX) : (d.setSram x).flash = d.flash := rfl
@[simp] theorem setSram_lc (x : SramX) : (d.setSram x).lc = d.lc := rfl
@[simp] theorem setSram_fw (x : SramX) : (d.setSram x).fw = d.fw := rfl
@[simp] theorem setSram_att (x : SramX) : (d.setSram x).att = d.att := rfl
@[simp] theorem setSram_time (x : SramX) : (d.setSram x).time = d.time := rfl
@[simp] theorem setSram_mon (x : SramX) : (d.setSram x).mon = d.mon := rfl
@[simp] theorem setSram_la (x : SramX) : (d.setSram x).la = d.la := rfl
@[simp] theorem setSram_rd (x : SramX) (o r : Nat) : (d.setSram x).rd o r = d.rd o r := rfl

end Sys2Proof.Machine.Device
end

