-- ==== Sys2Proof/Laws/Engine.lean ====
section
/-!
SUPPORT. A command object's request, once for every family: when its checks pass (R40), what its result word and response
are (R36, R42), and that nothing else changes but what its body changes.
-/
set_option Elab.async false
set_option linter.all false
namespace Sys2Proof.Machine

/-! ### First failing check -/

theorem firstFail_append (l m : List (Bool × Nat)) (h : firstFail l = 0) (hl : ∀ e ∈ l, e.1 = true → e.2 ≠ 0) :
    firstFail (l ++ m) = firstFail m := by
  induction l with
  | nil => rfl
  | cons e r ih =>
    simp only [List.cons_append, firstFail] at h ⊢
    split at h
    · rename_i he
      exact absurd h (hl e (by simp) he)
    · rename_i he
      rw [if_neg he]
      exact ih h (fun x hx => hl x (by simp [hx]))

theorem firstFail_none (l : List (Bool × Nat)) (h : ∀ e ∈ l, e.1 = false) : firstFail l = 0 := by
  induction l with
  | nil => rfl
  | cons e r ih =>
    simp only [firstFail]
    rw [if_neg (by simp [h e (by simp)])]
    exact ih (fun x hx => h x (by simp [hx]))

/-- Every check of a list that answers 0 holds off, when no code is 0. -/
theorem firstFail_off (l : List (Bool × Nat)) (hl : ∀ e ∈ l, e.1 = true → e.2 ≠ 0) (h : firstFail l = 0) :
    ∀ e ∈ l, e.1 = false := by
  induction l with
  | nil => intro e he; cases he
  | cons a r ih =>
    simp only [firstFail] at h
    split at h
    · rename_i ha
      exact absurd h (hl a (by simp) ha)
    · rename_i ha
      intro e he
      rcases List.mem_cons.1 he with x | x
      · rw [x]; simpa using ha
      · exact ih (fun y hy => hl y (by simp [hy])) h e x

namespace Device

/-! ### Accepting a request changes no check -/

theorem accept_keeps_all (d : Device) (r : Req) : Keeps Touch.accept d (d.accept r) :=
  accept_keeps (fun _ h => h) (Keeps.refl _ _)

@[simp] theorem accept_rd (d : Device) (r : Req) (o row : Nat) : (d.accept r).rd o row = d.rd o row := by
  unfold accept
  split
  · rfl
  · dsimp only
    split <;> simp

@[simp] theorem accept_mode (d : Device) (r : Req) : (d.accept r).mode = d.mode := by
  unfold accept; split; · rfl
  · dsimp only; split <;> simp
@[simp] theorem accept_dict (d : Device) (r : Req) : (d.accept r).dict = d.dict := by
  unfold accept; split; · rfl
  · dsimp only; split <;> simp
@[simp] theorem accept_out (d : Device) (r : Req) : (d.accept r).out = d.out := by
  unfold accept; split; · rfl
  · dsimp only; split <;> simp
@[simp] theorem accept_mem (d : Device) (r : Req) : (d.accept r).mem = d.mem := by
  unfold accept; split; · rfl
  · dsimp only; split <;> simp
@[simp] theorem accept_fw (d : Device) (r : Req) : (d.accept r).fw = d.fw := by
  unfold accept; split; · rfl
  · dsimp only; split <;> simp
@[simp] theorem accept_part (d : Device) (r : Req) : (d.accept r).part = d.part := by
  unfold accept; split; · rfl
  · dsimp only; split <;> simp
@[simp] theorem accept_cyc (d : Device) (r : Req) : (d.accept r).cyc = d.cyc := by
  unfold accept; split; · rfl
  · dsimp only; split <;> simp
@[simp] theorem accept_clk (d : Device) (r : Req) : (d.accept r).clk = d.clk := by
  unfold accept; split; · rfl
  · dsimp only; split <;> simp
@[simp] theorem accept_groups (d : Device) (r : Req) : (d.accept r).groups = d.groups := by
  unfold accept; split; · rfl
  · dsimp only; split <;> simp
@[simp] theorem accept_pcie (d : Device) (r : Req) : (d.accept r).pcie = d.pcie := by
  unfold accept; split; · rfl
  · dsimp only; split <;> simp
@[simp] theorem accept_keys (d : Device) (r : Req) : (d.accept r).keys = d.keys := by
  unfold accept; split; · rfl
  · dsimp only; split <;> simp
@[simp] theorem accept_sas (d : Device) (r : Req) : (d.accept r).sas = d.sas := by
  unfold accept; split; · rfl
  · dsimp only; split <;> simp
@[simp] theorem accept_pipe (d : Device) (r : Req) : (d.accept r).pipe = d.pipe := by
  unfold accept; split; · rfl
  · dsimp only; split <;> simp
@[simp] theorem accept_otp (d : Device) (r : Req) : (d.accept r).otp = d.otp := by
  unfold accept; split; · rfl
  · dsimp only; split <;> simp
@[simp] theorem accept_flash (d : Device) (r : Req) : (d.accept r).flash = d.flash := by
  unfold accept; split; · rfl
  · dsimp only; split <;> simp
@[simp] theorem accept_clsx (d : Device) (r : Req) : (d.accept r).clsx = d.clsx := by
  unfold accept; split; · rfl
  · dsimp only; split <;> simp
@[simp] theorem accept_banks (d : Device) (r : Req) : (d.accept r).banks = d.banks := by
  unfold accept; split; · rfl
  · dsimp only; split <;> simp
@[simp] theorem accept_faults (d : Device) (r : Req) : (d.accept r).faults = d.faults := by
  unfold accept; split; · rfl
  · dsimp only; split <;> simp
@[simp] theorem accept_ports (d : Device) (r : Req) : (d.accept r).ports = d.ports := by
  unfold accept; split; · rfl
  · dsimp only; split <;> simp
@[simp] theorem accept_queues (d : Device) (r : Req) : (d.accept r).queues = d.queues := by
  unfold accept; split; · rfl
  · dsimp only; split <;> simp
@[simp] theorem accept_time (d : Device) (r : Req) : (d.accept r).time = d.time := by
  unfold accept; split; · rfl
  · dsimp only; split <;> simp

/-- The checks read the dictionary, the part, the mode, whether memory has switched, and a hot activation; nothing else. -/
theorem cmdCheck_congr {a b : Device} (hd : b.dict = a.dict) (hp : b.part = a.part) (hm : b.mode = a.mode)
    (hs : b.mem = a.mem) (hf : b.fw = a.fw) (r : Req) (o row : Nat) (c : Conds) :
    b.cmdCheck r o row c = a.cmdCheck r o row c := by
  obtain ⟨_, _⟩ := a
  obtain ⟨_, _⟩ := b
  dsimp only at hd hp hm hs hf
  subst hd hp hm hs hf
  rfl

@[simp] theorem cmdCheck_accept (d : Device) (r r' : Req) (o row : Nat) (c : Conds) :
    (d.accept r).cmdCheck r' o row c = d.cmdCheck r' o row c :=
  cmdCheck_congr (by simp) (by simp) (by simp) (by simp) (by simp) _ _ _ _

/-! ### A command whose checks pass -/

/-- The general checks pass, and the command's own hold off: it is accepted. -/
theorem cmdCheck_pass {d : Device} {r : Req} {o row : Nat} {x : Bool} (h : d.cmdCheck r o row { Conds.none with exempt := x } = 0)
    {c : Conds} (hx : c.exempt = x) (h1 : ∀ e ∈ c.s1, e.1 = false) (h2 : ∀ e ∈ c.s2, e.1 = false)
    (h4 : ∀ e ∈ c.s4, e.1 = false) (h6 : ∀ e ∈ c.s6, e.1 = false) (h7 : ∀ e ∈ c.s7, e.1 = false) :
    d.cmdCheck r o row c = 0 := by
  unfold cmdCheck at h ⊢
  dsimp only at h ⊢
  have hh := firstFail_off _ (by
    intro e he
    simp only [Conds.none, List.append_nil, List.mem_append, List.mem_cons, List.mem_singleton, List.not_mem_nil, or_false] at he
    intro ht
    rcases he with (((rfl | rfl) | (rfl | rfl)) | rfl) <;> simp_all) h
  simp only [Conds.none, List.append_nil, List.mem_append, List.mem_cons, List.mem_singleton, List.not_mem_nil, or_false] at hh
  apply firstFail_none
  intro e he
  simp only [List.mem_append, List.mem_cons, List.mem_singleton, List.not_mem_nil, or_false] at he
  rcases he with (((((((he | he) | he) | he) | he) | he) | he) | he) | he
  · exact hh e (by simp [he])
  · exact h1 e he
  · exact hh e (by simp [he])
  · exact h2 e he
  · rcases he with rfl | rfl
    · exact hh _ (by simp)
    · exact hh _ (by simp)
  · exact h4 e he
  · rw [hx] at he; exact hh e (by simp [he])
  · exact h6 e he
  · exact h7 e he

theorem runCmd_pass {d : Device} {r : Req} {o row : Nat} {c : Conds} {body : Device → Option Nat × Device}
    (h : d.cmdCheck r o row c = 0) :
    runCmd r o row c body d =
      (0, (body (d.startCmd o row)).1.elim (body (d.startCmd o row)).2 (fun x => (body (d.startCmd o row)).2.endCmd o row x)) := by
  unfold runCmd
  simp [h]

theorem direct_eq {d : Device} {r : Req} {f : Device → Nat × Device} (h : d.mode ≠ .reset) (hb : d.mode ≠ .boot)
    (hf : (f (d.accept r)).2.mode ≠ .reset) :
    d.direct r f = ((f (d.accept r)).2).respond r (d.roleOf r) (f (d.accept r)).1 [] := by
  unfold direct
  simp [h, hb, hf]

/-! ### The response -/

theorem respond_answers (d : Device) (r : Req) (role x : Nat) : Answers r x (d.respond r role x []) := by
  unfold Answers respond emit
  simp

theorem respond_keeps_all (d : Device) (r : Req) (role x : Nat) (v : Bytes) : Keeps asked d (d.respond r role x v) :=
  respond_keeps (subT (by decide +kernel) (fun _ h => h)) (Keeps.refl _ _)

theorem respond_rd (d : Device) (r : Req) (role x : Nat) (v : Bytes) {o : Nat} (row : Nat) (h : o ∉ asked) :
    (d.respond r role x v).rd o row = d.rd o row := (respond_keeps_all d r role x v).objs (by decide) o row h

/-! ### The result word (R36) -/

@[simp] theorem startCmd_rd_self (d : Device) (o row : Nat) : (d.startCmd o row).rd o row = 256 + (d.rd o row % 256 + 1) % 256 := by
  unfold startCmd setResult
  rw [rd_wr_self]

theorem startCmd_rd (d : Device) {o o' : Nat} (row row' : Nat) (h : o ≠ o') : (d.startCmd o row).rd o' row' = d.rd o' row' :=
  rd_wr_obj _ _ _ _ h

theorem endCmd_rd_self (d : Device) (o row x : Nat) :
    (d.endCmd o row x).rd o row = x * 65536 + (if x = 0 then 2 else 3) * 256 + d.rd o row % 256 := by
  unfold endCmd setResult
  rw [rd_wr_self]
  omega

theorem endCmd_rd (d : Device) {o o' : Nat} (row row' x : Nat) (h : o ≠ o') : (d.endCmd o row x).rd o' row' = d.rd o' row' :=
  rd_wr_obj _ _ _ _ h

/-- A command whose body left its result word alone ends with this word. -/
theorem endCmd_result {a b : Device} {o row x : Nat} (h : b.rd o row % 256 = (a.rd o row % 256 + 1) % 256) :
    Result o row x (if x = 0 then 2 else 3) a (b.endCmd o row x) := by
  unfold Result
  rw [endCmd_rd_self, h]

end Device

/-! ### Frames -/

theorem Only.of_eq {R : List (Nat × Nat)} {W : List Nat} {a b c : Device} (h : Only R W a b) (e : b = c) : Only R W a c := e ▸ h

theorem Only.refl (R : List (Nat × Nat)) (W : List Nat) (a : Device) : Only R W a a := ⟨Keeps.refl _ _, fun _ _ _ _ => rfl⟩

theorem Only.trans {R : List (Nat × Nat)} {W : List Nat} {a b c : Device} (h : Only R W a b) (g : Only R W b c) : Only R W a c :=
  ⟨h.1.trans g.1, fun o r x y => (g.2 o r x y).trans (h.2 o r x y)⟩

/-- A write of a listed row. -/
theorem Only.wr {R : List (Nat × Nat)} {W : List Nat} {a b : Device} {o r v : Nat} (h : Only R W a b)
    (hm : o ∈ W ∨ (o, r) ∈ R) : Only R W a (b.wr o r v) := by
  refine h.trans ⟨Keeps.wr ?_ (Keeps.refl _ _), fun o' r' x y => ?_⟩
  · rcases hm with hm | hm
    · exact Or.inl (List.mem_append_right _ hm)
    · exact Or.inl (List.mem_append_left _ (List.mem_map_of_mem (f := Prod.fst) hm))
  · rw [Device.rd_wr]
    split
    · rename_i e
      obtain ⟨rfl, e⟩ := e
      rcases hm with hm | hm
      · exact absurd hm x
      · exact absurd e.symm (y _ hm rfl)
    · rfl

/-- An operation that changes only places of `W`. -/
theorem Only.keeps {R : List (Nat × Nat)} {W : List Nat} {a b c : Device} (hF : F.objects ∉ W) (h : Only R W a b)
    (k : Keeps W b c) : Only R W a c :=
  h.trans ⟨k.mono (fun _ hx => List.mem_append_right _ hx), fun o r x _ => k.objs hF o r x⟩

end Sys2Proof.Machine
end

