-- ==== Sys2Proof/Laws/Events.lean ====
section
/-!
SUPPORT. What a NOTE, an EVENT and the announcement of a gun entry change while the event session has room for one more
message: nothing but the log and the message itself.
-/
set_option Elab.async false
set_option linter.all false
namespace Sys2Proof.Machine

/-- An operation that changes neither sessions nor the choice of the event session keeps its room. -/
theorem EventRoom.keeps {V : List Nat} {a b : Device} (h : EventRoom a) (k : Keeps V a b)
    (hv : F.objects ∉ V ∧ O.SESSION_STATE ∉ V ∧ O.SESSION_ID ∉ V ∧ O.RING_EVENT_SESSION ∉ V ∧ F.sess ∉ V) : EventRoom b := by
  intro row hr
  have hs : b.sess = a.sess := k.fields 9 hv.2.2.2.2
  have ho : b.openRow (b.rd O.RING_EVENT_SESSION) = a.openRow (a.rd O.RING_EVENT_SESSION) := by
    unfold Device.openRow
    simp only [k.objs hv.1 _ _ hv.2.1, k.objs hv.1 _ _ hv.2.2.1, k.objs hv.1 _ _ hv.2.2.2.1]
  have := h row (ho ▸ hr)
  unfold Device.sessOf at *
  rw [hs]
  exact this

namespace Device

theorem ringEvent_room {d : Device} (h : EventRoom d) (type : Nat) (payload : Bytes) :
    Keeps told d (d.ringEvent type payload) := by
  unfold ringEvent
  split
  · exact Keeps.refl _ _
  · rename_i row hr
    have := h row hr
    split
    · exact Keeps.refl _ _
    · dsimp only
      rw [if_neg (by omega)]
      exact ringSend_keeps (by unfold Sub; decide +kernel) (setSess_keeps (by unfold Sub; decide +kernel) (Keeps.refl _ _))

theorem gunAnnounce_room {d : Device} (h : EventRoom d) (op e : Nat) : Keeps announced d (d.gunAnnounce op e) := by
  unfold gunAnnounce
  split
  · exact Keeps.refl _ _
  · dsimp only
    have hk : Keeps announced d (if (d.rd O.GUN_ANNOUNCE).testBit 0 = true then d.ringEvent 8 (d.gunPayload op e) else d) :=
      Keeps.ite ((ringEvent_room h _ _).mono (by unfold Sub; decide +kernel)) (Keeps.refl _ _)
    exact Keeps.ite (peerSend_keeps (by unfold Sub; decide +kernel) hk) hk

/-- The parts of a record's delivery before the EVENT. -/
theorem eventRingQueue_keeps_noted {W : List Nat} {a d : Device} (hW : Sub [O.FLT_EVENT_LOST, F.pcieDma] W) (h : Keeps W a d)
    (rcd : Bytes) (n : Nat) : Keeps W a (eventRingQueue rcd d n) := by
  unfold eventRingQueue
  split
  · have h' : Keeps W a (d.eventsExpire n) := eventsExpire_keeps (fun x hx => hW x (by revert hx; revert x; decide +kernel)) h
    dsimp only
    split
    · exact setDma_keeps (fun x hx => hW x (by revert hx; revert x; decide +kernel)) h'
    · exact inc64_keeps (Or.inl (hW _ (by simp))) h'
  · exact h

theorem writeRecord_room {d : Device} (h : EventRoom d) (src code cls base kind flags reaction window : Nat) (detail : Bytes) :
    Keeps noted d (d.writeRecord src code cls base kind flags reaction window detail) := by
  unfold writeRecord
  dsimp only
  have hl : ∀ r64, Keeps Touch.logRecord d (d.logRecord src cls kind r64) := fun r64 =>
    logRecord_keeps (fun _ x => x) (Keeps.refl _ _)
  have hn : Sub Touch.logRecord noted := by unfold Sub; decide +kernel
  split
  · unfold deliver
    dsimp only
    have hq : ∀ (l : List Nat) (x : Device) (rcd : Bytes), Keeps [O.FLT_EVENT_LOST, F.pcieDma] x (l.foldl (eventRingQueue rcd) x) :=
      fun l x rcd => Keeps.foldl (Keeps.refl _ _) (fun y n hy => eventRingQueue_keeps_noted (fun _ z => z) hy rcd n)
    have k1 := hl (d.recordBytes src code cls base kind flags reaction window detail)
    have k2 := hq (List.range 64) (d.logRecord src cls kind (d.recordBytes src code cls base kind flags reaction window detail))
      (d.recordBytes src code cls base kind flags reaction window detail)
    have r1 := h.keeps k1 (by decide)
    have r2 := r1.keeps k2 (by decide)
    exact ((k1.mono hn).trans (k2.mono (by unfold Sub; decide +kernel))).trans
      ((ringEvent_room r2 _ _).mono (by unfold Sub; decide +kernel))
  · exact (hl _).mono hn

theorem note_room {d : Device} (h : EventRoom d) (src code : Nat) (detail : Bytes) : Keeps noted d (d.note src code detail) := by
  unfold note
  split
  · exact Keeps.refl _ _
  · have k : Keeps Touch.addEvent d (d.addEvent src) := addEvent_keeps (fun _ x => x) (Keeps.refl _ _)
    exact (k.mono (by unfold Sub; decide +kernel)).trans (writeRecord_room (h.keeps k (by decide +kernel)) _ _ _ _ _ _ _ _ _)

end Device
end Sys2Proof.Machine
end

