-- ==== Sys2Proof/Laws/Evolve.lean ====
section
/-!
SUPPORT. What every operation of the device respects, said once: the part never changes, OTP bits only ever rise (R335), the
record of outputs only grows, free values are never drawn twice, and every table keeps its canonical form. Each operation
has one lemma; later files cite it and never unfold the operation for it.
-/
set_option Elab.async false
namespace Sys2Proof.Machine

/-- `b` is what the device `a` may become. -/
structure Evolves (a b : Device) : Prop where
  part : b.part = a.part
  otp : ∀ w i, (a.otpWord w).testBit i = true → (b.otpWord w).testBit i = true
  out : a.out <+: b.out
  draws : a.draws ≤ b.draws
  dict : Sparse.wf dfltKey a.dict = true → Sparse.wf dfltKey b.dict = true
  cells : Sparse.wf (fun _ => (0#8 : Byte)) a.mem.cells = true → Sparse.wf (fun _ => (0#8 : Byte)) b.mem.cells = true
  fuses : Sparse.wf (fun _ => 0) a.otp = true → Sparse.wf (fun _ => 0) b.otp = true
  flash : Sparse.wf (fun _ => 255) a.flash = true → Sparse.wf (fun _ => 255) b.flash = true

namespace Evolves

theorem refl (a : Device) : Evolves a a :=
  ⟨rfl, fun _ _ h => h, List.prefix_refl _, le_refl _, id, id, id, id⟩

theorem trans {a b c : Device} (h : Evolves a b) (k : Evolves b c) : Evolves a c :=
  ⟨k.part.trans h.part, fun w i x => k.otp w i (h.otp w i x), h.out.trans k.out, h.draws.trans k.draws,
   fun x => k.dict (h.dict x), fun x => k.cells (h.cells x), fun x => k.fuses (h.fuses x), fun x => k.flash (h.flash x)⟩

/-- Only fields outside the relation differ. -/
theorem same {a d e : Device} (h : Evolves a d) (h1 : e.part = d.part) (h2 : e.otp = d.otp) (h3 : e.out = d.out)
    (h4 : e.draws = d.draws) (h5 : e.dict = d.dict) (h6 : e.mem.cells = d.mem.cells) (h7 : e.flash = d.flash) :
    Evolves a e :=
  h.trans ⟨h1, fun w i x => by unfold Device.otpWord at *; rw [h2]; exact x, h3 ▸ List.prefix_refl _, h4 ▸ le_refl _,
    fun x => h5 ▸ x, fun x => h6 ▸ x, fun x => h2 ▸ x, fun x => h7 ▸ x⟩

theorem ite {a d e : Device} {c : Prop} [Decidable c] (h : Evolves a d) (k : Evolves a e) :
    Evolves a (if c then d else e) := by split <;> assumption

theorem elim {a d : Device} {β : Type} {o : Option β} {f : β → Device} (h : Evolves a d) (k : ∀ x, Evolves a (f x)) :
    Evolves a (o.elim d f) := by cases o <;> simp [h, k]

theorem foldl {a d : Device} {β : Type} {l : List β} {f : Device → β → Device} (h : Evolves a d)
    (k : ∀ x y, Evolves a x → Evolves a (f x y)) : Evolves a (l.foldl f d) := by
  induction l generalizing d with
  | nil => exact h
  | cons x r ih => exact ih (k d x h)

theorem foldr {a d : Device} {β : Type} {l : List β} {f : β → Device → Device} (h : Evolves a d)
    (k : ∀ x y, Evolves a x → Evolves a (f y x)) : Evolves a (l.foldr f d) := by
  induction l with
  | nil => exact h
  | cons x r ih => exact k _ x ih

theorem ite2 {a : Device} {β : Type} {x y : β × Device} {c : Prop} [Decidable c] (h : Evolves a x.2) (k : Evolves a y.2) :
    Evolves a (if c then x else y).2 := by split <;> assumption

theorem elim2 {a : Device} {β γ : Type} {o : Option β} {d : γ × Device} {f : β → γ × Device} (h : Evolves a d.2)
    (k : ∀ x, Evolves a (f x).2) : Evolves a (o.elim d f).2 := by cases o <;> simp [h, k]

theorem foldl2 {a : Device} {β γ : Type} {d : γ × Device} {l : List β} {f : γ × Device → β → γ × Device} (h : Evolves a d.2)
    (k : ∀ x y, Evolves a x.2 → Evolves a (f x y).2) : Evolves a (l.foldl f d).2 := by
  induction l generalizing d with
  | nil => exact h
  | cons x r ih => exact ih (k d x h)

theorem emit {a d : Device} (h : Evolves a d) (o : Out) : Evolves a (d.emit o) :=
  h.trans ⟨rfl, fun _ _ x => x, List.prefix_append _ _, le_refl _, id, id, id, id⟩

theorem wr {a d : Device} (h : Evolves a d) (o r v : Nat) : Evolves a (d.wr o r v) :=
  h.trans ⟨rfl, fun _ _ x => x, List.prefix_refl _, le_refl _, fun x => Sparse.wf_put x _ _, id, id, id⟩

theorem draw {a d : Device} (h : Evolves a d) : Evolves a d.draw.2 :=
  h.trans ⟨rfl, fun _ _ x => x, List.prefix_refl _, Nat.le_succ _, id, id, id, id⟩

theorem unstated {a d : Device} (h : Evolves a d) : Evolves a d.unstated.2 :=
  h.trans ⟨rfl, fun _ _ x => x, List.prefix_refl _, Nat.le_succ _, id, id, id, id⟩

theorem burnWord {a d : Device} (h : Evolves a d) (w v : Nat) : Evolves a (d.burnWord w v) :=
  h.trans ⟨rfl, fun x i hx => by
      by_cases hw : x = w
      · subst hw
        simp only [Device.burnWord, Device.otpWord, natAt, natPut, Sparse.get_put_self, Nat.testBit_or, Bool.or_eq_true] at hx ⊢
        exact Or.inl hx
      · simpa only [Device.burnWord, Device.otpWord, natAt, natPut, Sparse.get_put_ne _ _ hw] using hx,
    List.prefix_refl _, le_refl _, id, id, fun x => Sparse.wf_put x _ _, id⟩

theorem flashPut {a d : Device} (h : Evolves a d) (o v : Nat) : Evolves a (d.flashPut o v) :=
  h.trans ⟨rfl, fun _ _ x => x, List.prefix_refl _, le_refl _, id, id, id, fun x => Sparse.wf_put x _ _⟩

theorem flashErase {a d : Device} (h : Evolves a d) (o n : Nat) : Evolves a (d.flashErase o n) :=
  h.trans ⟨rfl, fun _ _ x => x, List.prefix_refl _, le_refl _, id, id, id, fun x => Sparse.wf_filter x _⟩

end Evolves
end Sys2Proof.Machine
end

