-- ==== Sys2Proof/Laws/EvolveOps.lean ====
section
/-!
SUPPORT. The operations of Machine/Ops.lean respect what every operation respects (Laws/Evolve.lean).
-/
set_option Elab.async false
set_option linter.all false
set_option linter.unusedTactic false
set_option linter.unreachableTactic false
set_option linter.style.longLine false
namespace Sys2Proof.Machine

theorem Device.add64_evolves {a : Device} {d : Device} {o : Nat} {r : Nat} {n : Nat} (h : Evolves a d) :
    Evolves a (Device.add64 d o r n) := by
  unfold Device.add64
  try dsimp only
  repeat' first
    | with_reducible exact h | with_reducible apply Evolves.wr

theorem Device.sub64_evolves {a : Device} {d : Device} {o : Nat} {r : Nat} {n : Nat} (h : Evolves a d) :
    Evolves a (Device.sub64 d o r n) := by
  unfold Device.sub64
  try dsimp only
  repeat' first
    | with_reducible exact h | with_reducible apply Evolves.wr

theorem Device.inc64_evolves {a : Device} {d : Device} {o : Nat} {r : Nat} (h : Evolves a d) :
    Evolves a (Device.inc64 d o r) := by
  unfold Device.inc64
  try dsimp only
  repeat' first
    | with_reducible exact h | with_reducible apply Device.add64_evolves

theorem Device.inc32_evolves {a : Device} {d : Device} {o : Nat} {r : Nat} (h : Evolves a d) :
    Evolves a (Device.inc32 d o r) := by
  unfold Device.inc32
  try dsimp only
  repeat' first
    | with_reducible exact h | with_reducible apply Evolves.wr

theorem Device.clr_evolves {a : Device} {d : Device} {o : Nat} {r : Nat} (h : Evolves a d) :
    Evolves a (Device.clr d o r) := by
  unfold Device.clr
  try dsimp only
  repeat' first
    | with_reducible exact h | with_reducible apply Evolves.wr

theorem Device.wrBit_evolves {a : Device} {d : Device} {o : Nat} {r : Nat} {i : Nat} {b : Bool} (h : Evolves a d) :
    Evolves a (Device.wrBit d o r i b) := by
  unfold Device.wrBit
  try dsimp only
  repeat' first
    | with_reducible exact h | with_reducible apply Evolves.wr

theorem Device.setSess_evolves {a : Device} {d : Device} {row : Nat} {x : SessX} (h : Evolves a d) :
    Evolves a (Device.setSess d row x) := by
  unfold Device.setSess
  try dsimp only
  repeat' first
    | with_reducible exact h | with_reducible assumption | intro _ _ hq | intro _
    | exact h.same rfl rfl rfl rfl rfl rfl rfl | exact hq.same rfl rfl rfl rfl rfl rfl rfl

theorem Device.setLockRenewed_evolves {a : Device} {d : Device} {n : Nat} (h : Evolves a d) :
    Evolves a (Device.setLockRenewed d n) := by
  unfold Device.setLockRenewed
  try dsimp only
  repeat' first
    | with_reducible exact h | exact h.same rfl rfl rfl rfl rfl rfl rfl

theorem Device.setGroup_evolves {a : Device} {d : Device} {g : Nat} {x : GroupX} (h : Evolves a d) :
    Evolves a (Device.setGroup d g x) := by
  unfold Device.setGroup
  try dsimp only
  repeat' first
    | with_reducible exact h | with_reducible assumption | intro _ _ hq | intro _
    | exact h.same rfl rfl rfl rfl rfl rfl rfl | exact hq.same rfl rfl rfl rfl rfl rfl rfl

theorem Device.setWin_evolves {a : Device} {d : Device} {w : Nat} {x : WinReg} (h : Evolves a d) :
    Evolves a (Device.setWin d w x) := by
  unfold Device.setWin
  try dsimp only
  repeat' first
    | with_reducible exact h | with_reducible assumption | intro _ _ hq | intro _
    | exact h.same rfl rfl rfl rfl rfl rfl rfl | exact hq.same rfl rfl rfl rfl rfl rfl rfl

theorem Device.setDma_evolves {a : Device} {d : Device} {n : Nat} {x : DmaX} (h : Evolves a d) :
    Evolves a (Device.setDma d n x) := by
  unfold Device.setDma
  try dsimp only
  repeat' first
    | with_reducible exact h | with_reducible assumption | intro _ _ hq | intro _
    | exact h.same rfl rfl rfl rfl rfl rfl rfl | exact hq.same rfl rfl rfl rfl rfl rfl rfl

theorem Device.msixSend_evolves {a : Device} {d : Device} {e : Nat} (h : Evolves a d) :
    Evolves a (Device.msixSend d e) := by
  unfold Device.msixSend
  try dsimp only
  repeat' first
    | with_reducible exact h | with_reducible apply Evolves.emit

theorem Device.msixPend_evolves {a : Device} {d : Device} {e : Nat} (h : Evolves a d) :
    Evolves a (Device.msixPend d e) := by
  unfold Device.msixPend
  try dsimp only
  repeat' first
    | with_reducible exact h | exact h.same rfl rfl rfl rfl rfl rfl rfl

theorem Device.msix_evolves {a : Device} {d : Device} {e : Nat} (h : Evolves a d) :
    Evolves a (Device.msix d e) := by
  unfold Device.msix
  try dsimp only
  repeat' first
    | with_reducible exact h | with_reducible apply Evolves.ite | with_reducible apply Device.msixSend_evolves
    | with_reducible apply Device.msixPend_evolves | split

end Sys2Proof.Machine
end

