-- ==== Sys2Proof/Laws/EvolvePmc.lean ====
section
/-!
SUPPORT. The operations of Machine/Pmc.lean respect what every operation respects (Laws/Evolve.lean).
-/
set_option Elab.async false
set_option linter.all false
set_option linter.unusedTactic false
set_option linter.unreachableTactic false
set_option linter.style.longLine false
namespace Sys2Proof.Machine

theorem Device.setPmc_evolves {a : Device} {d : Device} {x : PmcX} (h : Evolves a d) :
    Evolves a (Device.setPmc d x) := by
  unfold Device.setPmc
  try dsimp only
  repeat' first
    | with_reducible exact h | exact h.same rfl rfl rfl rfl rfl rfl rfl

theorem Device.pmcOverflow_evolves {a : Device} {d : Device} {n : Nat} (h : Evolves a d) :
    Evolves a (Device.pmcOverflow d n) := by
  unfold Device.pmcOverflow
  try dsimp only
  repeat' first
    | with_reducible exact h | with_reducible assumption | with_reducible apply Evolves.ite
    | with_reducible apply Device.wrBit_evolves | with_reducible apply Device.setPmc_evolves
    | with_reducible apply Device.msix_evolves | intro _ _ hq | intro _ | split

theorem Device.pmcBump_evolves {a : Device} {d : Device} {n : Nat} {k : Nat} (h : Evolves a d) :
    Evolves a (Device.pmcBump d n k).2 := by
  unfold Device.pmcBump
  try dsimp only
  repeat' first
    | with_reducible exact h | with_reducible apply Evolves.wr

theorem Device.pmcAdd_evolves {a : Device} {d : Device} {n : Nat} {k : Nat} (h : Evolves a d) :
    Evolves a (Device.pmcAdd d n k) := by
  unfold Device.pmcAdd
  try dsimp only
  repeat' first
    | with_reducible exact h | with_reducible apply Evolves.ite | with_reducible apply Device.pmcBump_evolves
    | with_reducible apply Device.pmcOverflow_evolves | with_reducible apply Evolves.ite2 | split

theorem Device.pmcHub_evolves {a : Device} {d : Device} {code : Nat} {k : Nat} {pass : Device → Nat → Bool} (h : Evolves a d) :
    Evolves a (Device.pmcHub d code k pass) := by
  unfold Device.pmcHub
  try dsimp only
  repeat' first
    | with_reducible exact h | with_reducible assumption | with_reducible apply Evolves.ite
    | with_reducible apply Evolves.foldl | with_reducible apply Device.pmcAdd_evolves | intro _ _ hq | intro _
    | split

theorem Device.pmcSlice_evolves {a : Device} {d : Device} {sd : Nat} {code : Nat} {k : Nat} {pass : Device → Nat → Bool} (h : Evolves a d) :
    Evolves a (Device.pmcSlice d sd code k pass) := by
  unfold Device.pmcSlice
  try dsimp only
  repeat' first
    | with_reducible exact h | with_reducible assumption | with_reducible apply Evolves.ite
    | with_reducible apply Evolves.foldl | with_reducible apply Device.pmcAdd_evolves | intro _ _ hq | intro _
    | split

theorem Device.pmcRestart_evolves {a : Device} {d : Device} {s : Nat} (h : Evolves a d) :
    Evolves a (Device.pmcRestart d s) := by
  unfold Device.pmcRestart
  try dsimp only
  repeat' first
    | with_reducible exact h | with_reducible assumption | with_reducible apply Evolves.foldl
    | with_reducible apply Evolves.wr | intro _ _ hq | intro _

theorem Device.pmcForget_evolves {a : Device} {d : Device} {s : Nat} (h : Evolves a d) :
    Evolves a (Device.pmcForget d s) := by
  unfold Device.pmcForget
  try dsimp only
  repeat' first
    | with_reducible exact h | with_reducible assumption | with_reducible apply Device.setPmc_evolves | intro _ _ hq
    | intro _

theorem Device.pmcDma_evolves {a : Device} {d : Device} {n : Nat} (h : Evolves a d) :
    Evolves a (Device.pmcDma d n) := by
  unfold Device.pmcDma
  try dsimp only
  repeat' first
    | with_reducible exact h | with_reducible assumption | with_reducible apply Evolves.elim
    | with_reducible apply Device.pmcHub_evolves | intro _ _ hq | intro _

end Sys2Proof.Machine
end

