-- ==== Sys2Proof/Laws/EvolveMessages.lean ====
section
/-!
SUPPORT. The operations of Machine/Messages.lean respect what every operation respects (Laws/Evolve.lean).
-/
set_option Elab.async false
set_option linter.all false
set_option linter.unusedTactic false
set_option linter.unreachableTactic false
set_option linter.style.longLine false
namespace Sys2Proof.Machine

theorem Device.dmaSignal_evolves {a : Device} {d : Device} {n : Nat} (h : Evolves a d) :
    Evolves a (Device.dmaSignal d n) := by
  unfold Device.dmaSignal
  try dsimp only
  repeat' first
    | with_reducible exact h | with_reducible apply Device.setDma_evolves | with_reducible apply Device.msix_evolves

theorem Device.dmaWriteBack_evolves {a : Device} {d : Device} {n : Nat} {c : Completion} (h : Evolves a d) :
    Evolves a (Device.dmaWriteBack d n c) := by
  unfold Device.dmaWriteBack
  try dsimp only
  repeat' first
    | with_reducible exact h | with_reducible apply Evolves.ite | with_reducible apply Evolves.emit
    | with_reducible apply Device.inc64_evolves | with_reducible apply Device.pmcDma_evolves
    | with_reducible apply Device.setDma_evolves | with_reducible apply Device.dmaSignal_evolves
    | exact h.same rfl rfl rfl rfl rfl rfl rfl | split

theorem Device.setServed_evolves {a : Device} {d : Device} {n : Nat} (h : Evolves a d) :
    Evolves a (Device.setServed d n) := by
  unfold Device.setServed
  try dsimp only
  repeat' first
    | with_reducible exact h | exact h.same rfl rfl rfl rfl rfl rfl rfl

theorem Device.dmaAdvance_evolves {a : Device} {d : Device} {n : Nat} (h : Evolves a d) :
    Evolves a (Device.dmaAdvance d n) := by
  unfold Device.dmaAdvance
  try dsimp only
  repeat' first
    | with_reducible exact h | with_reducible apply Device.setServed_evolves | with_reducible apply Evolves.wr

theorem Device.dmaFlush_evolves {a : Device} {x0 : Nat} {x1 : Nat} {d : Device} (h : Evolves a d) :
    Evolves a (Device.dmaFlush x0 x1 d) := by
  induction x0 generalizing x1 d with
  | zero =>
    unfold Device.dmaFlush
    try dsimp only
    repeat' first
      | with_reducible exact h | with_reducible assumption | with_reducible apply Device.dmaWriteBack_evolves | split
  | succ _ ih =>
    unfold Device.dmaFlush
    try dsimp only
    repeat' first
      | with_reducible exact h | with_reducible apply ih | with_reducible assumption
      | with_reducible apply Device.dmaWriteBack_evolves | split

theorem Device.setTaken_evolves {a : Device} {d : Device} {n : Nat} {l : List TakenDesc} (h : Evolves a d) :
    Evolves a (Device.setTaken d n l) := by
  unfold Device.setTaken
  try dsimp only
  repeat' first
    | with_reducible exact h | with_reducible apply Device.setDma_evolves

theorem Device.dmaEnd_evolves {a : Device} {d : Device} {n : Nat} (h : Evolves a d) :
    Evolves a (Device.dmaEnd d n) := by
  unfold Device.dmaEnd
  try dsimp only
  repeat' first
    | with_reducible exact h | with_reducible apply Device.dmaFlush_evolves
    | with_reducible apply Device.setDma_evolves | with_reducible apply Evolves.wr

theorem Device.dmaDrain_evolves {a : Device} {x0 : Nat} {x1 : List TakenDesc} {d : Device} (h : Evolves a d) :
    Evolves a (Device.dmaDrain x0 x1 d).2 := by
  induction x1 generalizing x0 d with
  | nil =>
    unfold Device.dmaDrain
    try dsimp only
    repeat' first
      | with_reducible exact h | with_reducible assumption | with_reducible apply Evolves.elim
      | with_reducible apply Device.dmaWriteBack_evolves | with_reducible apply Evolves.elim2 | intro _ _ hq
      | intro _ | split
  | cons _ _ ih =>
    unfold Device.dmaDrain
    try dsimp only
    repeat' first
      | with_reducible exact h | with_reducible apply ih | with_reducible assumption
      | with_reducible apply Evolves.elim | with_reducible apply Device.dmaWriteBack_evolves
      | with_reducible apply Evolves.elim2 | intro _ _ hq | intro _ | split

theorem Device.dmaSettle_evolves {a : Device} {d : Device} {n : Nat} (h : Evolves a d) :
    Evolves a (Device.dmaSettle d n) := by
  unfold Device.dmaSettle
  try dsimp only
  repeat' first
    | with_reducible exact h | with_reducible apply Evolves.ite | with_reducible apply Device.dmaDrain_evolves
    | with_reducible apply Device.setTaken_evolves | with_reducible apply Device.dmaEnd_evolves
    | with_reducible apply Evolves.ite2 | split

theorem Device.dmaTake_evolves {a : Device} {d : Device} {n : Nat} {tag : Nat} (h : Evolves a d) :
    Evolves a (Device.dmaTake d n tag) := by
  unfold Device.dmaTake
  try dsimp only
  repeat' first
    | with_reducible exact h | with_reducible apply Device.setTaken_evolves

theorem Device.dmaFinish_evolves {a : Device} {d : Device} {n : Nat} {tag : Nat} {status : Nat} {length : Nat} {kind : Bytes} (h : Evolves a d) :
    Evolves a (Device.dmaFinish d n tag status length kind) := by
  unfold Device.dmaFinish
  try dsimp only
  repeat' first
    | with_reducible exact h | with_reducible assumption | with_reducible apply Evolves.ite
    | with_reducible apply Device.setTaken_evolves | with_reducible apply Device.dmaSettle_evolves | intro _ _ hq
    | intro _ | exact h.same rfl rfl rfl rfl rfl rfl rfl | exact hq.same rfl rfl rfl rfl rfl rfl rfl | split

theorem Device.dmaComplete_evolves {a : Device} {d : Device} {n : Nat} {status : Nat} {length : Nat} {kind : Bytes} (h : Evolves a d) :
    Evolves a (Device.dmaComplete d n status length kind) := by
  unfold Device.dmaComplete
  try dsimp only
  repeat' first
    | with_reducible exact h | with_reducible apply Device.setTaken_evolves
    | with_reducible apply Device.dmaSettle_evolves

theorem Device.dmaHalt_evolves {a : Device} {d : Device} {n : Nat} (h : Evolves a d) :
    Evolves a (Device.dmaHalt d n) := by
  unfold Device.dmaHalt
  try dsimp only
  repeat' first
    | with_reducible exact h | with_reducible apply Evolves.ite | with_reducible apply Evolves.wr
    | with_reducible apply Device.dmaEnd_evolves | with_reducible apply Device.setDma_evolves | split

theorem Device.ringSend_evolves {a : Device} {d : Device} {m : RingMsg} (h : Evolves a d) :
    Evolves a (Device.ringSend d m) := by
  unfold Device.ringSend
  try dsimp only
  repeat' first
    | with_reducible exact h | exact h.same rfl rfl rfl rfl rfl rfl rfl

theorem Device.groupIdle_evolves {a : Device} {d : Device} {g : Nat} (h : Evolves a d) :
    Evolves a (Device.groupIdle d g) := by
  unfold Device.groupIdle
  try dsimp only
  repeat' first
    | with_reducible exact h | with_reducible apply Device.setGroup_evolves | with_reducible apply Evolves.wr

theorem Device.clearSession_evolves {a : Device} {d : Device} {row : Nat} (h : Evolves a d) :
    Evolves a (Device.clearSession d row) := by
  unfold Device.clearSession
  try dsimp only
  repeat' first
    | with_reducible exact h | with_reducible apply Device.setSess_evolves | with_reducible apply Evolves.wr

theorem Device.eventsExpire_evolves {a : Device} {d : Device} {n : Nat} (h : Evolves a d) :
    Evolves a (Device.eventsExpire d n) := by
  unfold Device.eventsExpire
  try dsimp only
  repeat' first
    | with_reducible exact h | with_reducible apply Evolves.ite | with_reducible apply Device.setDma_evolves
    | with_reducible apply Device.add64_evolves | exact h.same rfl rfl rfl rfl rfl rfl rfl | split

theorem Device.eventRingQueue_evolves {a : Device} {rcd : Bytes} {d : Device} {n : Nat} (h : Evolves a d) :
    Evolves a (Device.eventRingQueue rcd d n) := by
  unfold Device.eventRingQueue
  try dsimp only
  repeat' first
    | with_reducible exact h | with_reducible apply Evolves.ite | with_reducible apply Device.eventsExpire_evolves
    | with_reducible apply Device.setDma_evolves | with_reducible apply Device.inc64_evolves
    | exact h.same rfl rfl rfl rfl rfl rfl rfl | split

theorem Device.markShared_evolves {a : Device} {d : Device} {seq : Nat} (h : Evolves a d) :
    Evolves a (Device.markShared d seq) := by
  unfold Device.markShared
  try dsimp only
  repeat' first
    | with_reducible exact h | with_reducible apply Evolves.ite | with_reducible apply Evolves.wr | split

theorem Device.nextRecord_evolves {a : Device} {d : Device} (h : Evolves a d) :
    Evolves a (Device.nextRecord d) := by
  unfold Device.nextRecord
  try dsimp only
  repeat' first
    | with_reducible exact h | exact h.same rfl rfl rfl rfl rfl rfl rfl

theorem Device.addEvent_evolves {a : Device} {d : Device} {src : Nat} (h : Evolves a d) :
    Evolves a (Device.addEvent d src) := by
  unfold Device.addEvent
  try dsimp only
  repeat' first
    | with_reducible exact h | exact h.same rfl rfl rfl rfl rfl rfl rfl

theorem Device.logRecord_evolves {a : Device} {d : Device} {src : Nat} {cls : Nat} {kind : Nat} {r64 : Bytes} (h : Evolves a d) :
    Evolves a (Device.logRecord d src cls kind r64) := by
  unfold Device.logRecord
  try dsimp only
  repeat' first
    | with_reducible exact h | with_reducible assumption | with_reducible apply Evolves.ite
    | with_reducible apply Evolves.elim | with_reducible apply Device.markShared_evolves
    | with_reducible apply Device.nextRecord_evolves | with_reducible apply Device.inc32_evolves
    | with_reducible apply Evolves.wr | with_reducible apply Device.inc64_evolves | intro _ _ hq | intro _ | split

theorem Device.setVault_evolves {a : Device} {d : Device} {k : Nat} {x : VaultX} (h : Evolves a d) :
    Evolves a (Device.setVault d k x) := by
  unfold Device.setVault
  try dsimp only
  repeat' first
    | with_reducible exact h | with_reducible assumption | intro _ _ hq | intro _
    | exact h.same rfl rfl rfl rfl rfl rfl rfl | exact hq.same rfl rfl rfl rfl rfl rfl rfl

theorem Device.setCls_evolves {a : Device} {d : Device} {x : ClsX} (h : Evolves a d) :
    Evolves a (Device.setCls d x) := by
  unfold Device.setCls
  try dsimp only
  repeat' first
    | with_reducible exact h | exact h.same rfl rfl rfl rfl rfl rfl rfl

theorem Device.setPeerSeq_evolves {a : Device} {d : Device} {n : Nat} (h : Evolves a d) :
    Evolves a (Device.setPeerSeq d n) := by
  unfold Device.setPeerSeq
  try dsimp only
  repeat' first
    | with_reducible exact h | with_reducible apply Device.setCls_evolves

theorem Device.peerSend_evolves {a : Device} {d : Device} {type : Nat} {count : Nat} {payload : Bytes} (h : Evolves a d) :
    Evolves a (Device.peerSend d type count payload) := by
  unfold Device.peerSend
  try dsimp only
  repeat' first
    | with_reducible exact h | with_reducible assumption | with_reducible apply Evolves.ite
    | with_reducible apply Device.setPeerSeq_evolves | with_reducible apply Evolves.emit | split

theorem Device.setGun_evolves {a : Device} {d : Device} {e : Nat} {x : GunX} (h : Evolves a d) :
    Evolves a (Device.setGun d e x) := by
  unfold Device.setGun
  try dsimp only
  repeat' first
    | with_reducible exact h | with_reducible assumption | intro _ _ hq | intro _
    | exact h.same rfl rfl rfl rfl rfl rfl rfl | exact hq.same rfl rfl rfl rfl rfl rfl rfl

theorem Device.noteUnsent_evolves {a : Device} {d : Device} {src : Nat} {code : Nat} {detail : Bytes} (h : Evolves a d) :
    Evolves a (Device.noteUnsent d src code detail) := by
  unfold Device.noteUnsent
  try dsimp only
  repeat' first
    | with_reducible exact h | with_reducible assumption | with_reducible apply Evolves.ite
    | with_reducible apply Evolves.foldl | with_reducible apply Device.addEvent_evolves
    | with_reducible apply Device.logRecord_evolves | with_reducible apply Device.eventRingQueue_evolves
    | intro _ _ hq | intro _ | split

theorem Device.gunAnnouncePeer_evolves {a : Device} {d : Device} {op : Nat} {e : Nat} (h : Evolves a d) :
    Evolves a (Device.gunAnnouncePeer d op e) := by
  unfold Device.gunAnnouncePeer
  try dsimp only
  repeat' first
    | with_reducible exact h | with_reducible apply Evolves.ite | with_reducible apply Device.peerSend_evolves
    | split

theorem Device.gunDrop_evolves {a : Device} {d : Device} {e : Nat} (h : Evolves a d) :
    Evolves a (Device.gunDrop d e) := by
  unfold Device.gunDrop
  try dsimp only
  repeat' first
    | with_reducible exact h | with_reducible apply Evolves.ite | with_reducible apply Device.wrBit_evolves
    | with_reducible apply Evolves.wr | split

theorem Device.gunFree_evolves {a : Device} {d : Device} {e : Nat} (h : Evolves a d) :
    Evolves a (Device.gunFree d e) := by
  unfold Device.gunFree
  try dsimp only
  repeat' first
    | with_reducible exact h | with_reducible apply Evolves.wr

theorem Device.groupOverruledUnsent_evolves {a : Device} {d : Device} {g : Nat} (h : Evolves a d) :
    Evolves a (Device.groupOverruledUnsent d g) := by
  unfold Device.groupOverruledUnsent
  try dsimp only
  repeat' first
    | with_reducible exact h | with_reducible assumption | with_reducible apply Evolves.ite
    | with_reducible apply Evolves.elim | with_reducible apply Device.gunDrop_evolves
    | with_reducible apply Device.gunAnnouncePeer_evolves | with_reducible apply Device.gunFree_evolves
    | with_reducible apply Device.setGroup_evolves | with_reducible apply Evolves.wr
    | with_reducible apply Device.noteUnsent_evolves | intro _ _ hq | intro _ | split

theorem Device.closeRow_evolves {a : Device} {d : Device} {row : Nat} (h : Evolves a d) :
    Evolves a (Device.closeRow d row) := by
  unfold Device.closeRow
  try dsimp only
  repeat' first
    | with_reducible exact h | with_reducible assumption | with_reducible apply Evolves.ite
    | with_reducible apply Evolves.foldl | with_reducible apply Evolves.wr
    | with_reducible apply Device.groupIdle_evolves | with_reducible apply Device.dmaHalt_evolves
    | with_reducible apply Device.clearSession_evolves | intro _ _ hq | intro _ | split

theorem Device.closeSpent_evolves {a : Device} {d : Device} {row : Nat} (h : Evolves a d) :
    Evolves a (Device.closeSpent d row) := by
  unfold Device.closeSpent
  try dsimp only
  repeat' first
    | with_reducible exact h | with_reducible assumption | with_reducible apply Evolves.foldl
    | with_reducible apply Device.groupOverruledUnsent_evolves | with_reducible apply Device.closeRow_evolves
    | with_reducible apply Evolves.foldl2 | intro _ _ hq | intro _

theorem Device.ringEvent_evolves {a : Device} {d : Device} {type : Nat} {payload : Bytes} (h : Evolves a d) :
    Evolves a (Device.ringEvent d type payload) := by
  unfold Device.ringEvent
  try dsimp only
  repeat' first
    | with_reducible exact h | with_reducible assumption | with_reducible apply Evolves.ite
    | with_reducible apply Device.closeSpent_evolves | with_reducible apply Device.setSess_evolves
    | with_reducible apply Device.ringSend_evolves | exact h.same rfl rfl rfl rfl rfl rfl rfl | split

theorem Device.deliver_evolves {a : Device} {d : Device} {rcd : Bytes} (h : Evolves a d) :
    Evolves a (Device.deliver d rcd) := by
  unfold Device.deliver
  try dsimp only
  repeat' first
    | with_reducible exact h | with_reducible assumption | with_reducible apply Evolves.foldl
    | with_reducible apply Device.eventRingQueue_evolves | with_reducible apply Device.ringEvent_evolves
    | intro _ _ hq | intro _

theorem Device.writeRecord_evolves {a : Device} {d : Device} {src : Nat} {code : Nat} {cls : Nat} {base : Nat} {kind : Nat} {flags : Nat} {reaction : Nat} {window : Nat} {detail : Bytes} (h : Evolves a d) :
    Evolves a (Device.writeRecord d src code cls base kind flags reaction window detail) := by
  unfold Device.writeRecord
  try dsimp only
  repeat' first
    | with_reducible exact h | with_reducible apply Evolves.ite | with_reducible apply Device.logRecord_evolves
    | with_reducible apply Device.deliver_evolves | split

theorem Device.note_evolves {a : Device} {d : Device} {src : Nat} {code : Nat} {detail : Bytes} (h : Evolves a d) :
    Evolves a (Device.note d src code detail) := by
  unfold Device.note
  try dsimp only
  repeat' first
    | with_reducible exact h | with_reducible apply Evolves.ite | with_reducible apply Device.addEvent_evolves
    | with_reducible apply Device.writeRecord_evolves | split

theorem Device.gunAnnounce_evolves {a : Device} {d : Device} {op : Nat} {e : Nat} (h : Evolves a d) :
    Evolves a (Device.gunAnnounce d op e) := by
  unfold Device.gunAnnounce
  try dsimp only
  repeat' first
    | with_reducible exact h | with_reducible apply Evolves.ite | with_reducible apply Device.ringEvent_evolves
    | with_reducible apply Device.peerSend_evolves | split

theorem Device.setGunSeq_evolves {a : Device} {d : Device} {n : Nat} (h : Evolves a d) :
    Evolves a (Device.setGunSeq d n) := by
  unfold Device.setGunSeq
  try dsimp only
  repeat' first
    | with_reducible exact h | exact h.same rfl rfl rfl rfl rfl rfl rfl

theorem Device.gunTake_evolves {a : Device} {d : Device} {e : Nat} {code : Nat} {row : Nat} {time : Nat} {tag : Nat} {lateOk : Bool} (h : Evolves a d) :
    Evolves a (Device.gunTake d e code row time tag lateOk) := by
  unfold Device.gunTake
  try dsimp only
  repeat' first
    | with_reducible exact h | with_reducible apply Evolves.ite | with_reducible apply Device.setGun_evolves
    | with_reducible apply Device.setGunSeq_evolves | with_reducible apply Evolves.wr
    | with_reducible apply Device.gunAnnounce_evolves | split

theorem Device.gunCancelNow_evolves {a : Device} {d : Device} {e : Nat} (h : Evolves a d) :
    Evolves a (Device.gunCancelNow d e) := by
  unfold Device.gunCancelNow
  try dsimp only
  repeat' first
    | with_reducible exact h | with_reducible apply Device.gunDrop_evolves
    | with_reducible apply Device.gunAnnounce_evolves | with_reducible apply Device.gunFree_evolves

theorem Device.gunCancel_evolves {a : Device} {d : Device} {e : Nat} (h : Evolves a d) :
    Evolves a (Device.gunCancel d e) := by
  unfold Device.gunCancel
  try dsimp only
  repeat' first
    | with_reducible exact h | with_reducible apply Evolves.ite | with_reducible apply Device.gunCancelNow_evolves
    | split

theorem Device.gunDone_evolves {a : Device} {d : Device} {e : Nat} {stepped : Bool} (h : Evolves a d) :
    Evolves a (Device.gunDone d e stepped) := by
  unfold Device.gunDone
  try dsimp only
  repeat' first
    | with_reducible exact h | with_reducible apply Evolves.ite | with_reducible apply Evolves.wr
    | with_reducible apply Device.wrBit_evolves | with_reducible apply Device.inc32_evolves
    | with_reducible apply Device.pmcHub_evolves | with_reducible apply Device.gunAnnounce_evolves
    | with_reducible apply Device.gunFree_evolves | split

theorem Device.groupCancelled_evolves {a : Device} {d : Device} {g : Nat} (h : Evolves a d) :
    Evolves a (Device.groupCancelled d g) := by
  unfold Device.groupCancelled
  try dsimp only
  repeat' first
    | with_reducible exact h | with_reducible assumption | with_reducible apply Device.gunCancel_evolves
    | with_reducible apply Device.setGroup_evolves | with_reducible apply Evolves.wr | split

theorem Device.groupOverruled_evolves {a : Device} {d : Device} {g : Nat} (h : Evolves a d) :
    Evolves a (Device.groupOverruled d g) := by
  unfold Device.groupOverruled
  try dsimp only
  repeat' first
    | with_reducible exact h | with_reducible apply Device.groupCancelled_evolves
    | with_reducible apply Device.note_evolves

theorem Device.touch_evolves {a : Device} {d : Device} {o : Nat} {r : Nat} (h : Evolves a d) :
    Evolves a (Device.touch d o r) := by
  unfold Device.touch
  try dsimp only
  repeat' first
    | with_reducible exact h | with_reducible assumption | with_reducible apply Evolves.foldl
    | with_reducible apply Device.groupOverruled_evolves | intro _ _ hq | intro _

theorem Device.wrCmd_evolves {a : Device} {d : Device} {o : Nat} {r : Nat} {v : Nat} (h : Evolves a d) :
    Evolves a (Device.wrCmd d o r v) := by
  unfold Device.wrCmd
  try dsimp only
  repeat' first
    | with_reducible exact h | with_reducible apply Evolves.ite | with_reducible apply Device.touch_evolves
    | with_reducible apply Evolves.wr | split

theorem Device.dmaStop_evolves {a : Device} {d : Device} {n : Nat} (h : Evolves a d) :
    Evolves a (Device.dmaStop d n) := by
  unfold Device.dmaStop
  try dsimp only
  repeat' first
    | with_reducible exact h | with_reducible apply Evolves.ite | with_reducible apply Device.touch_evolves
    | with_reducible apply Device.dmaHalt_evolves | split

theorem Device.closeSession_evolves {a : Device} {d : Device} {row : Nat} (h : Evolves a d) :
    Evolves a (Device.closeSession d row) := by
  unfold Device.closeSession
  try dsimp only
  repeat' first
    | with_reducible exact h | with_reducible assumption | with_reducible apply Evolves.ite
    | with_reducible apply Evolves.foldl | with_reducible apply Device.touch_evolves
    | with_reducible apply Device.closeRow_evolves | with_reducible apply Evolves.ite2
    | with_reducible apply Evolves.foldl2 | intro _ _ hq | intro _ | split

theorem Device.closeSessions_evolves {a : Device} {d : Device} {lo : Nat} {hi : Nat} (h : Evolves a d) :
    Evolves a (Device.closeSessions d lo hi) := by
  unfold Device.closeSessions
  try dsimp only
  repeat' first
    | with_reducible exact h | with_reducible assumption | with_reducible apply Evolves.foldl
    | with_reducible apply Device.closeSession_evolves | intro _ _ hq | intro _

end Sys2Proof.Machine
end

