-- ==== Sys2Proof/Laws/EvolveFrames.lean ====
section
/-!
SUPPORT. The operations of Machine/Frames.lean respect what every operation respects (Laws/Evolve.lean).
-/
set_option Elab.async false
set_option linter.all false
set_option linter.unusedTactic false
set_option linter.unreachableTactic false
set_option linter.style.longLine false
namespace Sys2Proof.Machine

theorem Device.setPort_evolves {a : Device} {d : Device} {p : Nat} {x : PortX} (h : Evolves a d) :
    Evolves a (Device.setPort d p x) := by
  unfold Device.setPort
  try dsimp only
  repeat' first
    | with_reducible exact h | with_reducible assumption | intro _ _ hq | intro _
    | exact h.same rfl rfl rfl rfl rfl rfl rfl | exact hq.same rfl rfl rfl rfl rfl rfl rfl

theorem Device.noteXoff_evolves {a : Device} {p : Nat} {quanta : Nat} {d : Device} {c : Nat} (h : Evolves a d) :
    Evolves a (Device.noteXoff p quanta d c) := by
  unfold Device.noteXoff
  try dsimp only
  repeat' first
    | with_reducible exact h | with_reducible apply Evolves.ite | with_reducible apply Device.setPort_evolves
    | with_reducible apply Device.inc64_evolves | split

theorem Device.sendFlow_evolves {a : Device} {d : Device} {p : Nat} {cs : List Nat} {quanta : Nat} (h : Evolves a d) :
    Evolves a (Device.sendFlow d p cs quanta) := by
  unfold Device.sendFlow
  try dsimp only
  repeat' first
    | with_reducible exact h | with_reducible assumption | with_reducible apply Evolves.ite
    | with_reducible apply Evolves.foldl | with_reducible apply Device.noteXoff_evolves
    | with_reducible apply Evolves.emit | intro _ _ hq | intro _ | split

theorem Device.markHold_evolves {a : Device} {p : Nat} {cause : Nat} {on : Bool} {d : Device} {c : Nat} (h : Evolves a d) :
    Evolves a (Device.markHold p cause on d c) := by
  unfold Device.markHold
  try dsimp only
  repeat' first
    | with_reducible exact h | with_reducible apply Device.setPort_evolves

theorem Device.setHolds_evolves {a : Device} {d : Device} {p : Nat} {cause : Nat} {on : Bool} {cs : List Nat} (h : Evolves a d) :
    Evolves a (Device.setHolds d p cause on cs) := by
  unfold Device.setHolds
  try dsimp only
  repeat' first
    | with_reducible exact h | with_reducible assumption | with_reducible apply Evolves.foldl
    | with_reducible apply Device.markHold_evolves | with_reducible apply Device.sendFlow_evolves | intro _ _ hq
    | intro _

theorem Device.setLaps_evolves {a : Device} {d : Device} {x : LapX} (h : Evolves a d) :
    Evolves a (Device.setLaps d x) := by
  unfold Device.setLaps
  try dsimp only
  repeat' first
    | with_reducible exact h | exact h.same rfl rfl rfl rfl rfl rfl rfl

theorem Device.lapFlag_evolves {a : Device} {d : Device} {b : Nat} (h : Evolves a d) :
    Evolves a (Device.lapFlag d b) := by
  unfold Device.lapFlag
  try dsimp only
  repeat' first
    | with_reducible exact h | with_reducible apply Device.setLaps_evolves

theorem Device.lapAdd_evolves {a : Device} {d : Device} {q : Nat} {f : LapCnt → LapCnt} (h : Evolves a d) :
    Evolves a (Device.lapAdd d q f) := by
  unfold Device.lapAdd
  try dsimp only
  repeat' first
    | with_reducible exact h | with_reducible assumption | with_reducible apply Device.setLaps_evolves | intro _ _ hq
    | intro _

theorem Device.lapOther_evolves {a : Device} {d : Device} {q : Nat} {len : Nat} (h : Evolves a d) :
    Evolves a (Device.lapOther d q len) := by
  unfold Device.lapOther
  try dsimp only
  repeat' first
    | with_reducible exact h | with_reducible assumption | with_reducible apply Device.lapAdd_evolves | intro _ _ hq
    | intro _ | exact h.same rfl rfl rfl rfl rfl rfl rfl | exact hq.same rfl rfl rfl rfl rfl rfl rfl

theorem Device.lapProtected_evolves {a : Device} {d : Device} {q : Nat} {len : Nat} (h : Evolves a d) :
    Evolves a (Device.lapProtected d q len) := by
  unfold Device.lapProtected
  try dsimp only
  repeat' first
    | with_reducible exact h | with_reducible assumption | with_reducible apply Device.lapAdd_evolves | intro _ _ hq
    | intro _ | exact h.same rfl rfl rfl rfl rfl rfl rfl | exact hq.same rfl rfl rfl rfl rfl rfl rfl

theorem Device.lapPolice_evolves {a : Device} {d : Device} {q : Nat} {len : Nat} (h : Evolves a d) :
    Evolves a (Device.lapPolice d q len) := by
  unfold Device.lapPolice
  try dsimp only
  repeat' first
    | with_reducible exact h | with_reducible assumption | with_reducible apply Device.lapAdd_evolves | intro _ _ hq
    | intro _ | exact h.same rfl rfl rfl rfl rfl rfl rfl | exact hq.same rfl rfl rfl rfl rfl rfl rfl

theorem Device.lapExcess_evolves {a : Device} {d : Device} {q : Nat} {len : Nat} (h : Evolves a d) :
    Evolves a (Device.lapExcess d q len) := by
  unfold Device.lapExcess
  try dsimp only
  repeat' first
    | with_reducible exact h | with_reducible assumption | with_reducible apply Device.lapAdd_evolves | intro _ _ hq
    | intro _ | exact h.same rfl rfl rfl rfl rfl rfl rfl | exact hq.same rfl rfl rfl rfl rfl rfl rfl

theorem Device.setPipe_evolves {a : Device} {d : Device} {x : PipeX} (h : Evolves a d) :
    Evolves a (Device.setPipe d x) := by
  unfold Device.setPipe
  try dsimp only
  repeat' first
    | with_reducible exact h | exact h.same rfl rfl rfl rfl rfl rfl rfl

theorem Device.setFrames_evolves {a : Device} {d : Device} {l : List Frame} (h : Evolves a d) :
    Evolves a (Device.setFrames d l) := by
  unfold Device.setFrames
  try dsimp only
  repeat' first
    | with_reducible exact h | with_reducible apply Device.setPipe_evolves

theorem Device.setFrame_evolves {a : Device} {d : Device} {f : Frame} (h : Evolves a d) :
    Evolves a (Device.setFrame d f) := by
  unfold Device.setFrame
  try dsimp only
  repeat' first
    | with_reducible exact h | with_reducible assumption | with_reducible apply Evolves.ite
    | with_reducible apply Device.setFrames_evolves | intro _ _ hq | intro _ | split

theorem Device.setQueue_evolves {a : Device} {d : Device} {q : Nat} {x : QueueX} (h : Evolves a d) :
    Evolves a (Device.setQueue d q x) := by
  unfold Device.setQueue
  try dsimp only
  repeat' first
    | with_reducible exact h | with_reducible assumption | intro _ _ hq | intro _
    | exact h.same rfl rfl rfl rfl rfl rfl rfl | exact hq.same rfl rfl rfl rfl rfl rfl rfl

theorem Device.setNode_evolves {a : Device} {d : Device} {n : Nat} {x : NodeX} (h : Evolves a d) :
    Evolves a (Device.setNode d n x) := by
  unfold Device.setNode
  try dsimp only
  repeat' first
    | with_reducible exact h | with_reducible assumption | intro _ _ hq | intro _
    | exact h.same rfl rfl rfl rfl rfl rfl rfl | exact hq.same rfl rfl rfl rfl rfl rfl rfl

theorem Device.setPair_evolves {a : Device} {d : Device} {k : Nat} {x : PairX} (h : Evolves a d) :
    Evolves a (Device.setPair d k x) := by
  unfold Device.setPair
  try dsimp only
  repeat' first
    | with_reducible exact h | with_reducible assumption | intro _ _ hq | intro _
    | exact h.same rfl rfl rfl rfl rfl rfl rfl | exact hq.same rfl rfl rfl rfl rfl rfl rfl

theorem Device.takeHandle_evolves {a : Device} {d : Device} (h : Evolves a d) :
    Evolves a (Device.takeHandle d).2 := by
  unfold Device.takeHandle
  try dsimp only
  repeat' first
    | with_reducible exact h | with_reducible assumption | with_reducible apply Device.setPipe_evolves | split

theorem Device.giveHandle_evolves {a : Device} {d : Device} {h : Nat} (h_h : Evolves a d) :
    Evolves a (Device.giveHandle d h) := by
  unfold Device.giveHandle
  try dsimp only
  repeat' first
    | with_reducible exact h_h | with_reducible apply Evolves.ite | with_reducible apply Device.setPipe_evolves
    | split

theorem Device.addCell_evolves {a : Device} {d : Device} {f : Frame} {src : CellSrc} (h : Evolves a d) :
    Evolves a (Device.addCell d f src).2 := by
  unfold Device.addCell
  try dsimp only
  repeat' first
    | with_reducible exact h | with_reducible apply Device.takeHandle_evolves
    | exact h.same rfl rfl rfl rfl rfl rfl rfl

theorem Device.useCell_evolves {a : Device} {d : Device} {row : Nat} (h : Evolves a d) :
    Evolves a (Device.useCell d row) := by
  unfold Device.useCell
  try dsimp only
  repeat' first
    | with_reducible exact h | with_reducible apply Evolves.ite | with_reducible apply Evolves.wr | split

theorem Device.unuseCell_evolves {a : Device} {d : Device} {row : Nat} (h : Evolves a d) :
    Evolves a (Device.unuseCell d row) := by
  unfold Device.unuseCell
  try dsimp only
  repeat' first
    | with_reducible exact h | with_reducible apply Evolves.wr

theorem Device.pairXon_evolves {a : Device} {d : Device} {k : Nat} (h : Evolves a d) :
    Evolves a (Device.pairXon d k) := by
  unfold Device.pairXon
  try dsimp only
  repeat' first
    | with_reducible exact h | with_reducible apply Evolves.ite | with_reducible apply Device.setPair_evolves
    | with_reducible apply Device.setHolds_evolves | exact h.same rfl rfl rfl rfl rfl rfl rfl | split

theorem Device.freeCell_evolves {a : Device} {f : Frame} {d : Device} {c : Cell} (h : Evolves a d) :
    Evolves a (Device.freeCell f d c) := by
  unfold Device.freeCell
  try dsimp only
  repeat' first
    | with_reducible exact h | with_reducible assumption | with_reducible apply Evolves.ite
    | with_reducible apply Device.giveHandle_evolves | with_reducible apply Device.unuseCell_evolves
    | with_reducible apply Device.setQueue_evolves | with_reducible apply Device.setPair_evolves
    | with_reducible apply Device.pairXon_evolves | with_reducible apply Evolves.wr
    | exact h.same rfl rfl rfl rfl rfl rfl rfl | split

theorem Device.freeCells_evolves {a : Device} {d : Device} {f : Frame} (h : Evolves a d) :
    Evolves a (Device.freeCells d f) := by
  unfold Device.freeCells
  try dsimp only
  repeat' first
    | with_reducible exact h | with_reducible assumption | with_reducible apply Evolves.foldl
    | with_reducible apply Device.freeCell_evolves | with_reducible apply Device.setFrame_evolves | intro _ _ hq
    | intro _ | exact h.same rfl rfl rfl rfl rfl rfl rfl | exact hq.same rfl rfl rfl rfl rfl rfl rfl

theorem Device.refreshNode_evolves {a : Device} {d : Device} {q : Nat} (h : Evolves a d) :
    Evolves a (Device.refreshNode d q) := by
  unfold Device.refreshNode
  try dsimp only
  repeat' first
    | with_reducible exact h | with_reducible assumption | with_reducible apply Evolves.wr | split

theorem Device.unqueue_evolves {a : Device} {d : Device} {f : Frame} (h : Evolves a d) :
    Evolves a (Device.unqueue d f) := by
  unfold Device.unqueue
  try dsimp only
  repeat' first
    | with_reducible exact h | with_reducible assumption | with_reducible apply Evolves.ite
    | with_reducible apply Device.setNode_evolves | with_reducible apply Device.setQueue_evolves
    | with_reducible apply Device.refreshNode_evolves | intro _ _ hq | intro _ | split

theorem Device.callroomRecount_evolves {a : Device} {d : Device} {s : Nat} (h : Evolves a d) :
    Evolves a (Device.callroomRecount d s) := by
  unfold Device.callroomRecount
  try dsimp only
  repeat' first
    | with_reducible exact h | with_reducible assumption | with_reducible apply Evolves.ite
    | with_reducible apply Evolves.foldl | with_reducible apply Evolves.wr
    | with_reducible apply Device.setHolds_evolves | intro _ _ hq | intro _ | split

theorem Device.pruneOvertake_evolves {a : Device} {d : Device} (h : Evolves a d) :
    Evolves a (Device.pruneOvertake d) := by
  unfold Device.pruneOvertake
  try dsimp only
  repeat' first
    | with_reducible exact h | with_reducible assumption | with_reducible apply Device.setPipe_evolves | intro _ _ hq
    | intro _

theorem Device.removeFrame_evolves {a : Device} {d : Device} {f : Frame} (h : Evolves a d) :
    Evolves a (Device.removeFrame d f) := by
  unfold Device.removeFrame
  try dsimp only
  repeat' first
    | with_reducible exact h | with_reducible assumption | with_reducible apply Evolves.ite
    | with_reducible apply Device.freeCells_evolves | with_reducible apply Device.unqueue_evolves
    | with_reducible apply Device.setFrames_evolves | with_reducible apply Device.callroomRecount_evolves
    | with_reducible apply Device.pruneOvertake_evolves | intro _ _ hq | intro _ | split

theorem Device.injectRefuse_evolves {a : Device} {d : Device} {f : Frame} {n : Nat} {detail : Nat} (h : Evolves a d) :
    Evolves a (Device.injectRefuse d f n detail) := by
  unfold Device.injectRefuse
  try dsimp only
  repeat' first
    | with_reducible exact h | with_reducible apply Device.dmaFinish_evolves
    | with_reducible apply Device.inc64_evolves

theorem Device.countLost_evolves {a : Device} {d : Device} {f : Frame} (h : Evolves a d) :
    Evolves a (Device.countLost d f) := by
  unfold Device.countLost
  try dsimp only
  repeat' first
    | with_reducible exact h | with_reducible apply Evolves.ite | with_reducible apply Device.inc64_evolves
    | with_reducible apply Device.lapOther_evolves | split

theorem Device.setSlotCells_evolves {a : Device} {d : Device} {sd : Nat} {n : Nat} (h : Evolves a d) :
    Evolves a (Device.setSlotCells d sd n) := by
  unfold Device.setSlotCells
  try dsimp only
  repeat' first
    | with_reducible exact h | with_reducible apply Device.setPmc_evolves

theorem Device.endSlots_evolves {a : Device} {d : Device} {sd : Nat} {code : Nat} {n : Nat} (h : Evolves a d) :
    Evolves a (Device.endSlots d sd code n) := by
  unfold Device.endSlots
  try dsimp only
  repeat' first
    | with_reducible exact h | with_reducible apply Evolves.ite | with_reducible apply Device.pmcSlice_evolves
    | split

theorem Device.falseStart_evolves {a : Device} {d : Device} {f : Frame} {p : Pred} (h : Evolves a d) :
    Evolves a (Device.falseStart d f p) := by
  unfold Device.falseStart
  try dsimp only
  repeat' first
    | with_reducible exact h | with_reducible apply Device.inc64_evolves | with_reducible apply Device.add64_evolves
    | with_reducible apply Device.pmcSlice_evolves | with_reducible apply Device.endSlots_evolves
    | with_reducible apply Device.setSlotCells_evolves

theorem Device.macStart_evolves {a : Device} {gap : Int} {d : Device} {f : Frame} (h : Evolves a d) :
    Evolves a (Device.macStart gap d f) := by
  unfold Device.macStart
  try dsimp only
  repeat' first
    | with_reducible exact h | with_reducible assumption | with_reducible apply Evolves.ite
    | with_reducible apply Device.setFrame_evolves | intro _ _ hq | intro _
    | exact h.same rfl rfl rfl rfl rfl rfl rfl | exact hq.same rfl rfl rfl rfl rfl rfl rfl | split

theorem Device.macStarts_evolves {a : Device} {d : Device} {p : Nat} {gap : Int} (h : Evolves a d) :
    Evolves a (Device.macStarts d p gap) := by
  unfold Device.macStarts
  try dsimp only
  repeat' first
    | with_reducible exact h | with_reducible assumption | with_reducible apply Evolves.foldl
    | with_reducible apply Device.macStart_evolves | intro _ _ hq | intro _

theorem Device.dropWhole_evolves {a : Device} {d : Device} {f : Frame} (h : Evolves a d) :
    Evolves a (Device.dropWhole d f) := by
  unfold Device.dropWhole
  try dsimp only
  repeat' first
    | with_reducible exact h | with_reducible assumption | with_reducible apply Evolves.elim
    | with_reducible apply Device.falseStart_evolves | with_reducible apply Device.endSlots_evolves
    | with_reducible apply Device.countLost_evolves | with_reducible apply Device.removeFrame_evolves
    | with_reducible apply Device.macStarts_evolves | intro _ _ hq | intro _

theorem Device.txCount_evolves {a : Device} {d : Device} {p : Nat} {n : Nat} (h : Evolves a d) :
    Evolves a (Device.txCount d p n) := by
  unfold Device.txCount
  try dsimp only
  repeat' first
    | with_reducible exact h | with_reducible apply Device.inc64_evolves | with_reducible apply Device.add64_evolves

theorem Device.truncateFrame_evolves {a : Device} {d : Device} {f : Frame} (h : Evolves a d) :
    Evolves a (Device.truncateFrame d f) := by
  unfold Device.truncateFrame
  try dsimp only
  repeat' first
    | with_reducible exact h | with_reducible apply Device.txCount_evolves
    | with_reducible apply Device.inc64_evolves | with_reducible apply Evolves.emit
    | with_reducible apply Device.dropWhole_evolves

theorem Device.stopFrame_evolves {a : Device} {d : Device} {f : Frame} (h : Evolves a d) :
    Evolves a (Device.stopFrame d f) := by
  unfold Device.stopFrame
  try dsimp only
  repeat' first
    | with_reducible exact h | with_reducible assumption | with_reducible apply Evolves.ite
    | with_reducible apply Evolves.elim | with_reducible apply Device.injectRefuse_evolves
    | with_reducible apply Device.truncateFrame_evolves | with_reducible apply Device.dropWhole_evolves
    | intro _ _ hq | intro _ | split

theorem Device.stopFrames_evolves {a : Device} {d : Device} {sel : Nat → Bool} (h : Evolves a d) :
    Evolves a (Device.stopFrames d sel) := by
  unfold Device.stopFrames
  try dsimp only
  repeat' first
    | with_reducible exact h | with_reducible assumption | with_reducible apply Evolves.foldl
    | with_reducible apply Device.stopFrame_evolves | intro _ _ hq | intro _

theorem Device.dropOpen_evolves {a : Device} {d : Device} {f : Frame} (h : Evolves a d) :
    Evolves a (Device.dropOpen d f) := by
  unfold Device.dropOpen
  try dsimp only
  repeat' first
    | with_reducible exact h | with_reducible assumption | with_reducible apply Evolves.elim
    | with_reducible apply Device.dropWhole_evolves | with_reducible apply Device.injectRefuse_evolves | intro _ _ hq
    | intro _

theorem Device.discardFrame_evolves {a : Device} {d : Device} {f : Frame} (h : Evolves a d) :
    Evolves a (Device.discardFrame d f) := by
  unfold Device.discardFrame
  try dsimp only
  repeat' first
    | with_reducible exact h | with_reducible apply Evolves.ite | with_reducible apply Device.setFrame_evolves
    | with_reducible apply Device.dropOpen_evolves | exact h.same rfl rfl rfl rfl rfl rfl rfl | split

theorem Device.cutShort_evolves {a : Device} {d : Device} {f : Frame} (h : Evolves a d) :
    Evolves a (Device.cutShort d f) := by
  unfold Device.cutShort
  try dsimp only
  repeat' first
    | with_reducible exact h | with_reducible apply Evolves.ite | with_reducible apply Device.dropOpen_evolves
    | with_reducible apply Evolves.unstated | with_reducible apply Device.freeCells_evolves
    | with_reducible apply Evolves.ite2 | exact h.same rfl rfl rfl rfl rfl rfl rfl | split

theorem Device.uncountRx_evolves {a : Device} {d : Device} {f : Frame} (h : Evolves a d) :
    Evolves a (Device.uncountRx d f) := by
  unfold Device.uncountRx
  try dsimp only
  repeat' first
    | with_reducible exact h | with_reducible apply Device.sub64_evolves

theorem Device.cutReception_evolves {a : Device} {d : Device} {f : Frame} (h : Evolves a d) :
    Evolves a (Device.cutReception d f) := by
  unfold Device.cutReception
  try dsimp only
  repeat' first
    | with_reducible exact h | with_reducible apply Evolves.ite | with_reducible apply Device.uncountRx_evolves
    | with_reducible apply Device.setFrame_evolves | with_reducible apply Device.discardFrame_evolves | split

theorem Device.setStaged_evolves {a : Device} {d : Device} {sd : Nat} {n : Nat} (h : Evolves a d) :
    Evolves a (Device.setStaged d sd n) := by
  unfold Device.setStaged
  try dsimp only
  repeat' first
    | with_reducible exact h | with_reducible assumption | with_reducible apply Device.setPipe_evolves | intro _ _ hq
    | intro _

theorem Device.stageHolds_evolves {a : Device} {d : Device} {sd : Nat} (h : Evolves a d) :
    Evolves a (Device.stageHolds d sd) := by
  unfold Device.stageHolds
  try dsimp only
  repeat' first
    | with_reducible exact h | with_reducible assumption | with_reducible apply Evolves.ite
    | with_reducible apply Evolves.foldl | with_reducible apply Device.setHolds_evolves | intro _ _ hq | intro _
    | split

theorem Device.stageCell_evolves {a : Device} {d : Device} {sd : Nat} (h : Evolves a d) :
    Evolves a (Device.stageCell d sd) := by
  unfold Device.stageCell
  try dsimp only
  repeat' first
    | with_reducible exact h | with_reducible apply Device.setStaged_evolves
    | with_reducible apply Device.stageHolds_evolves

theorem Device.setBank_evolves {a : Device} {d : Device} {b : Nat} {x : BankX} (h : Evolves a d) :
    Evolves a (Device.setBank d b x) := by
  unfold Device.setBank
  try dsimp only
  repeat' first
    | with_reducible exact h | with_reducible assumption | intro _ _ hq | intro _
    | exact h.same rfl rfl rfl rfl rfl rfl rfl | exact hq.same rfl rfl rfl rfl rfl rfl rfl

theorem Device.clearBanks_evolves {a : Device} {d : Device} {sel : Nat → Bool} (h : Evolves a d) :
    Evolves a (Device.clearBanks d sel) := by
  unfold Device.clearBanks
  try dsimp only
  repeat' first
    | with_reducible exact h | with_reducible assumption | with_reducible apply Evolves.foldl
    | with_reducible apply Device.setBank_evolves | intro _ _ hq | intro _

theorem Device.setKat_evolves {a : Device} {d : Device} {b : Nat} {core : Nat} (h : Evolves a d) :
    Evolves a (Device.setKat d b core) := by
  unfold Device.setKat
  try dsimp only
  repeat' first
    | with_reducible exact h | with_reducible apply Device.setBank_evolves

theorem Device.runKats_evolves {a : Device} {d : Device} {sel : Nat → Bool} (h : Evolves a d) :
    Evolves a (Device.runKats d sel) := by
  unfold Device.runKats
  try dsimp only
  repeat' first
    | with_reducible exact h | with_reducible assumption | with_reducible apply Evolves.foldl
    | with_reducible apply Device.setKat_evolves | intro _ _ hq | intro _

theorem Device.uncache_evolves {a : Device} {d : Device} {slot : Nat} (h : Evolves a d) :
    Evolves a (Device.uncache d slot) := by
  unfold Device.uncache
  try dsimp only
  repeat' first
    | with_reducible exact h | with_reducible assumption | with_reducible apply Evolves.foldl
    | with_reducible apply Device.setBank_evolves | intro _ _ hq | intro _

end Sys2Proof.Machine
end

