-- ==== Sys2Proof/Laws/EvolveReactions.lean ====
section
/-!
SUPPORT. The operations of Machine/Reactions.lean respect what every operation respects (Laws/Evolve.lean).
-/
set_option Elab.async false
set_option linter.all false
set_option linter.unusedTactic false
set_option linter.unreachableTactic false
set_option linter.style.longLine false
namespace Sys2Proof.Machine

theorem Device.clearRefs_evolves {a : Device} {d : Device} {k : Nat} (h : Evolves a d) :
    Evolves a (Device.clearRefs d k) := by
  unfold Device.clearRefs
  try dsimp only
  repeat' first
    | with_reducible exact h | with_reducible assumption | with_reducible apply Evolves.foldl
    | with_reducible apply Device.wrCmd_evolves | with_reducible apply Evolves.foldl2 | intro _ _ hq | intro _

theorem Device.clearSlotObjs_evolves {a : Device} {d : Device} {k : Nat} (h : Evolves a d) :
    Evolves a (Device.clearSlotObjs d k) := by
  unfold Device.clearSlotObjs
  try dsimp only
  repeat' first
    | with_reducible exact h | with_reducible assumption | with_reducible apply Evolves.foldl
    | with_reducible apply Device.clr_evolves | intro _ _ hq | intro _

theorem Device.zeroSlot_evolves {a : Device} {d : Device} {k : Nat} (h : Evolves a d) :
    Evolves a (Device.zeroSlot d k) := by
  unfold Device.zeroSlot
  try dsimp only
  repeat' first
    | with_reducible exact h | with_reducible apply Evolves.ite | with_reducible apply Device.clearRefs_evolves
    | with_reducible apply Device.setVault_evolves | with_reducible apply Device.clearSlotObjs_evolves | split

theorem Device.setRec_evolves {a : Device} {d : Device} {pr : Nat} {x : SaRec} (h : Evolves a d) :
    Evolves a (Device.setRec d pr x) := by
  unfold Device.setRec
  try dsimp only
  repeat' first
    | with_reducible exact h | with_reducible assumption | intro _ _ hq | intro _
    | exact h.same rfl rfl rfl rfl rfl rfl rfl | exact hq.same rfl rfl rfl rfl rfl rfl rfl

theorem Device.setCtx_evolves {a : Device} {d : Device} {slot : Nat} {x : SaCtx} (h : Evolves a d) :
    Evolves a (Device.setCtx d slot x) := by
  unfold Device.setCtx
  try dsimp only
  repeat' first
    | with_reducible exact h | with_reducible assumption | intro _ _ hq | intro _
    | exact h.same rfl rfl rfl rfl rfl rfl rfl | exact hq.same rfl rfl rfl rfl rfl rfl rfl

theorem Device.setHoldUntil_evolves {a : Device} {d : Device} {sc : Nat} {v : Nat} (h : Evolves a d) :
    Evolves a (Device.setHoldUntil d sc v) := by
  unfold Device.setHoldUntil
  try dsimp only
  repeat' first
    | with_reducible exact h | exact h.same rfl rfl rfl rfl rfl rfl rfl

theorem Device.setLastPn_evolves {a : Device} {d : Device} {sc : Nat} {v : Nat} (h : Evolves a d) :
    Evolves a (Device.setLastPn d sc v) := by
  unfold Device.setLastPn
  try dsimp only
  repeat' first
    | with_reducible exact h | exact h.same rfl rfl rfl rfl rfl rfl rfl

theorem Device.setSaState_evolves {a : Device} {d : Device} {pr : Nat} {st : Nat} (h : Evolves a d) :
    Evolves a (Device.setSaState d pr st) := by
  unfold Device.setSaState
  try dsimp only
  repeat' first
    | with_reducible exact h | with_reducible apply Evolves.wr

theorem Device.freeSlotOf_evolves {a : Device} {pr : Nat} {d : Device} {slot : Nat} (h : Evolves a d) :
    Evolves a (Device.freeSlotOf pr d slot) := by
  unfold Device.freeSlotOf
  try dsimp only
  repeat' first
    | with_reducible exact h | with_reducible apply Evolves.ite | with_reducible apply Device.setCtx_evolves
    | with_reducible apply Device.uncache_evolves | with_reducible apply Evolves.wr | split

theorem Device.freeSaSlot_evolves {a : Device} {d : Device} {pr : Nat} (h : Evolves a d) :
    Evolves a (Device.freeSaSlot d pr) := by
  unfold Device.freeSaSlot
  try dsimp only
  repeat' first
    | with_reducible exact h | with_reducible apply Evolves.ite | with_reducible apply Device.freeSlotOf_evolves
    | split

theorem Device.refreshSc_evolves {a : Device} {d : Device} {sc : Nat} (h : Evolves a d) :
    Evolves a (Device.refreshSc d sc) := by
  unfold Device.refreshSc
  try dsimp only
  repeat' first
    | with_reducible exact h | with_reducible assumption | with_reducible apply Device.wrBit_evolves
    | with_reducible apply Evolves.wr | intro _ _ hq | intro _

theorem Device.clearStats_evolves {a : Device} {d : Device} {pr : Nat} (h : Evolves a d) :
    Evolves a (Device.clearStats d pr) := by
  unfold Device.clearStats
  try dsimp only
  repeat' first
    | with_reducible exact h | with_reducible assumption | with_reducible apply Evolves.foldl
    | with_reducible apply Device.clr_evolves | intro _ _ hq | intro _

theorem Device.discardZeroed_evolves {a : Device} {d : Device} {f : Frame} (h : Evolves a d) :
    Evolves a (Device.discardZeroed d f) := by
  unfold Device.discardZeroed
  try dsimp only
  repeat' first
    | with_reducible exact h | with_reducible apply Device.inc64_evolves
    | with_reducible apply Device.cutShort_evolves

theorem Device.zeroSa_evolves {a : Device} {d : Device} {pr : Nat} (h : Evolves a d) :
    Evolves a (Device.zeroSa d pr) := by
  unfold Device.zeroSa
  try dsimp only
  repeat' first
    | with_reducible exact h | with_reducible assumption | with_reducible apply Evolves.ite
    | with_reducible apply Evolves.elim | with_reducible apply Evolves.foldl
    | with_reducible apply Device.gunCancel_evolves | with_reducible apply Device.wrBit_evolves
    | with_reducible apply Device.discardZeroed_evolves | with_reducible apply Device.freeSlotOf_evolves
    | with_reducible apply Device.setRec_evolves | with_reducible apply Device.clearStats_evolves
    | with_reducible apply Device.setSaState_evolves | with_reducible apply Evolves.wr
    | with_reducible apply Device.refreshSc_evolves | intro _ _ hq | intro _ | split

theorem Device.zeroKeys_evolves {a : Device} {d : Device} (h : Evolves a d) :
    Evolves a (Device.zeroKeys d) := by
  unfold Device.zeroKeys
  try dsimp only
  repeat' first
    | with_reducible exact h | with_reducible assumption | with_reducible apply Evolves.foldl
    | with_reducible apply Device.zeroSa_evolves | with_reducible apply Device.zeroSlot_evolves | intro _ _ hq
    | intro _

theorem Device.zeroAll_evolves {a : Device} {d : Device} (h : Evolves a d) :
    Evolves a (Device.zeroAll d) := by
  unfold Device.zeroAll
  try dsimp only
  repeat' first
    | with_reducible exact h | with_reducible apply Device.zeroKeys_evolves
    | with_reducible apply Device.closeSessions_evolves

theorem Device.setKeys_evolves {a : Device} {d : Device} {k : KeysX} (h : Evolves a d) :
    Evolves a (Device.setKeys d k) := by
  unfold Device.setKeys
  try dsimp only
  repeat' first
    | with_reducible exact h | exact h.same rfl rfl rfl rfl rfl rfl rfl

theorem Device.zeroPerBoot_evolves {a : Device} {d : Device} (h : Evolves a d) :
    Evolves a (Device.zeroPerBoot d) := by
  unfold Device.zeroPerBoot
  try dsimp only
  repeat' first
    | with_reducible exact h | with_reducible apply Device.setKeys_evolves | with_reducible apply Evolves.wr

theorem Device.setModeField_evolves {a : Device} {d : Device} {m : Mode} (h : Evolves a d) :
    Evolves a (Device.setModeField d m) := by
  unfold Device.setModeField
  try dsimp only
  repeat' first
    | with_reducible exact h | exact h.same rfl rfl rfl rfl rfl rfl rfl

theorem Device.enterMode_evolves {a : Device} {d : Device} {m : Mode} {cause : Nat} (h : Evolves a d) :
    Evolves a (Device.enterMode d m cause) := by
  unfold Device.enterMode
  try dsimp only
  repeat' first
    | with_reducible exact h | with_reducible apply Device.setModeField_evolves | with_reducible apply Evolves.wr

theorem Device.overruleMode_evolves {a : Device} {d : Device} (h : Evolves a d) :
    Evolves a (Device.overruleMode d) := by
  unfold Device.overruleMode
  try dsimp only
  repeat' first
    | with_reducible exact h | with_reducible apply Evolves.ite | with_reducible apply Evolves.wr | split

theorem Device.muteWindow_evolves {a : Device} {d : Device} {p : Nat} (h : Evolves a d) :
    Evolves a (Device.muteWindow d p) := by
  unfold Device.muteWindow
  try dsimp only
  repeat' first
    | with_reducible exact h | with_reducible assumption | with_reducible apply Evolves.foldl
    | with_reducible apply Device.markHold_evolves | intro _ _ hq | intro _

theorem Device.muteWindows_evolves {a : Device} {d : Device} (h : Evolves a d) :
    Evolves a (Device.muteWindows d) := by
  unfold Device.muteWindows
  try dsimp only
  repeat' first
    | with_reducible exact h | with_reducible assumption | with_reducible apply Evolves.foldl
    | with_reducible apply Device.muteWindow_evolves | intro _ _ hq | intro _

theorem Device.enterSafe_evolves {a : Device} {d : Device} (h : Evolves a d) :
    Evolves a (Device.enterSafe d) := by
  unfold Device.enterSafe
  try dsimp only
  repeat' first
    | with_reducible exact h | with_reducible assumption | with_reducible apply Evolves.elim
    | with_reducible apply Device.overruleMode_evolves | with_reducible apply Device.gunCancel_evolves
    | with_reducible apply Device.note_evolves | with_reducible apply Device.muteWindows_evolves
    | with_reducible apply Device.stopFrames_evolves | with_reducible apply Device.enterMode_evolves | intro _ _ hq
    | intro _

theorem Device.setHeld_evolves {a : Device} {d : Device} {src : Nat} {mask : Nat} (h : Evolves a d) :
    Evolves a (Device.setHeld d src mask) := by
  unfold Device.setHeld
  try dsimp only
  repeat' first
    | with_reducible exact h | exact h.same rfl rfl rfl rfl rfl rfl rfl

theorem Device.refreshStatus_evolves {a : Device} {d : Device} (h : Evolves a d) :
    Evolves a (Device.refreshStatus d) := by
  unfold Device.refreshStatus
  try dsimp only
  repeat' first
    | with_reducible exact h | with_reducible assumption | with_reducible apply Evolves.foldl
    | with_reducible apply Device.wrBit_evolves | with_reducible apply Evolves.foldl2 | intro _ _ hq | intro _

theorem Device.holdClasses_evolves {a : Device} {d : Device} {src : Nat} {mask : Nat} (h : Evolves a d) :
    Evolves a (Device.holdClasses d src mask) := by
  unfold Device.holdClasses
  try dsimp only
  repeat' first
    | with_reducible exact h | with_reducible apply Device.setHeld_evolves | with_reducible apply Evolves.wr
    | with_reducible apply Device.refreshStatus_evolves

theorem Device.latch_evolves {a : Device} {d : Device} {src : Nat} {cls : Nat} (h : Evolves a d) :
    Evolves a (Device.latch d src cls) := by
  unfold Device.latch
  try dsimp only
  repeat' first
    | with_reducible exact h | with_reducible apply Device.holdClasses_evolves

theorem Device.setLa_evolves {a : Device} {d : Device} {x : LaX} (h : Evolves a d) :
    Evolves a (Device.setLa d x) := by
  unfold Device.setLa
  try dsimp only
  repeat' first
    | with_reducible exact h | exact h.same rfl rfl rfl rfl rfl rfl rfl

theorem Device.zeroReport_evolves {a : Device} {d : Device} {e : Nat × Bool × List Nat} (h : Evolves a d) :
    Evolves a (Device.zeroReport d e) := by
  unfold Device.zeroReport
  try dsimp only
  repeat' first
    | with_reducible exact h | with_reducible apply Evolves.ite | with_reducible apply Evolves.wr
    | with_reducible apply Device.closeSessions_evolves | with_reducible apply Evolves.ite2 | split

theorem Device.jobGone_evolves {a : Device} {d : Device} {n : Nat} (h : Evolves a d) :
    Evolves a (Device.jobGone d n) := by
  unfold Device.jobGone
  try dsimp only
  repeat' first
    | with_reducible exact h | with_reducible assumption | with_reducible apply Evolves.foldl
    | with_reducible apply Device.zeroReport_evolves | with_reducible apply Device.setLa_evolves
    | with_reducible apply Evolves.foldl2 | intro _ _ hq | intro _

theorem Device.stopJobs_evolves {a : Device} {d : Device} (h : Evolves a d) :
    Evolves a (Device.stopJobs d) := by
  unfold Device.stopJobs
  try dsimp only
  repeat' first
    | with_reducible exact h | with_reducible assumption | with_reducible apply Evolves.foldl
    | with_reducible apply Device.dmaFinish_evolves | with_reducible apply Device.jobGone_evolves
    | with_reducible apply Device.setLa_evolves | with_reducible apply Evolves.wr | intro _ _ hq | intro _

theorem Device.noRebuild_evolves {a : Device} {d : Device} (h : Evolves a d) :
    Evolves a (Device.noRebuild d) := by
  unfold Device.noRebuild
  try dsimp only
  repeat' first
    | with_reducible exact h | exact h.same rfl rfl rfl rfl rfl rfl rfl

theorem Device.fatalZeroize_evolves {a : Device} {d : Device} (h : Evolves a d) :
    Evolves a (Device.fatalZeroize d) := by
  unfold Device.fatalZeroize
  try dsimp only
  repeat' first
    | with_reducible exact h | with_reducible assumption | with_reducible apply Device.noRebuild_evolves
    | with_reducible apply Device.stopJobs_evolves | with_reducible apply Device.zeroAll_evolves
    | with_reducible apply Device.zeroPerBoot_evolves | with_reducible apply Device.clearBanks_evolves
    | with_reducible apply Evolves.wr | intro _ _ hq | intro _

theorem Device.react_evolves {a : Device} {d : Device} {cls : Nat} (h : Evolves a d) :
    Evolves a (Device.react d cls) := by
  unfold Device.react
  try dsimp only
  repeat' first
    | with_reducible exact h | with_reducible apply Evolves.ite | with_reducible apply Device.enterSafe_evolves
    | with_reducible apply Device.fatalZeroize_evolves | split

theorem Device.fault_evolves {a : Device} {d : Device} {src : Nat} {code : Nat} {base : Nat} {detail : Bytes} (h : Evolves a d) :
    Evolves a (Device.fault d src code base detail) := by
  unfold Device.fault
  try dsimp only
  repeat' first
    | with_reducible exact h | with_reducible apply Evolves.ite | with_reducible apply Device.addEvent_evolves
    | with_reducible apply Device.writeRecord_evolves | with_reducible apply Device.latch_evolves
    | with_reducible apply Device.react_evolves | split

theorem Device.faultUnit_evolves {a : Device} {d : Device} {src : Nat} {cause : Nat} {unit : Nat} {base : Nat} (h : Evolves a d) :
    Evolves a (Device.faultUnit d src cause unit base) := by
  unfold Device.faultUnit
  try dsimp only
  repeat' first
    | with_reducible exact h | with_reducible apply Device.fault_evolves

theorem Device.noteRow_evolves {a : Device} {d : Device} {src : Nat} {cause : Nat} {unit : Nat} {row : Nat} (h : Evolves a d) :
    Evolves a (Device.noteRow d src cause unit row) := by
  unfold Device.noteRow
  try dsimp only
  repeat' first
    | with_reducible exact h | with_reducible apply Device.note_evolves

theorem Device.protEvent_evolves {a : Device} {d : Device} {slice : Nat} {code : Nat} {sc : Nat} {an : Nat} {pn : Nat} (h : Evolves a d) :
    Evolves a (Device.protEvent d slice code sc an pn) := by
  unfold Device.protEvent
  try dsimp only
  repeat' first
    | with_reducible exact h | with_reducible apply Device.writeRecord_evolves

end Sys2Proof.Machine
end

