-- ==== Sys2Proof/Laws/EvolveDictionary.lean ====
section
/-!
SUPPORT. The operations of Machine/Dictionary.lean respect what every operation respects (Laws/Evolve.lean).
-/
set_option Elab.async false
set_option linter.all false
set_option linter.unusedTactic false
set_option linter.unreachableTactic false
set_option linter.style.longLine false
namespace Sys2Proof.Machine

theorem Device.accept_evolves {a : Device} {d : Device} {r : Req} (h : Evolves a d) :
    Evolves a (Device.accept d r) := by
  unfold Device.accept
  try dsimp only
  repeat' first
    | with_reducible exact h | with_reducible assumption | with_reducible apply Evolves.ite
    | with_reducible apply Device.setSess_evolves | with_reducible apply Device.setLockRenewed_evolves | split

theorem Device.countRequest_evolves {a : Device} {d : Device} {r : Req} {role : Nat} {abort : Nat} (h : Evolves a d) :
    Evolves a (Device.countRequest d r role abort) := by
  unfold Device.countRequest
  try dsimp only
  repeat' first
    | with_reducible exact h | with_reducible apply Evolves.ite | with_reducible apply Device.pmcHub_evolves | split

theorem Device.respond_evolves {a : Device} {d : Device} {r : Req} {role : Nat} {abort : Nat} {v : Bytes} (h : Evolves a d) :
    Evolves a (Device.respond d r role abort v) := by
  unfold Device.respond
  try dsimp only
  repeat' first
    | with_reducible exact h | with_reducible apply Device.countRequest_evolves | with_reducible apply Evolves.emit

end Sys2Proof.Machine
end

