-- ==== Sys2Proof/Laws/EvolveEngine.lean ====
section
/-!
SUPPORT. The operations of Machine/Engine.lean respect what every operation respects (Laws/Evolve.lean).
-/
set_option Elab.async false
set_option linter.all false
set_option linter.unusedTactic false
set_option linter.unreachableTactic false
set_option linter.style.longLine false
namespace Sys2Proof.Machine

theorem Device.setResult_evolves {a : Device} {d : Device} {o : Nat} {row : Nat} {abort : Nat} {status : Nat} {seq : Nat} (h : Evolves a d) :
    Evolves a (Device.setResult d o row abort status seq) := by
  unfold Device.setResult
  try dsimp only
  repeat' first
    | with_reducible exact h | with_reducible apply Evolves.wr

theorem Device.startCmd_evolves {a : Device} {d : Device} {o : Nat} {row : Nat} (h : Evolves a d) :
    Evolves a (Device.startCmd d o row) := by
  unfold Device.startCmd
  try dsimp only
  repeat' first
    | with_reducible exact h | with_reducible apply Device.setResult_evolves

theorem Device.endCmd_evolves {a : Device} {d : Device} {o : Nat} {row : Nat} {abort : Nat} (h : Evolves a d) :
    Evolves a (Device.endCmd d o row abort) := by
  unfold Device.endCmd
  try dsimp only
  repeat' first
    | with_reducible exact h | with_reducible apply Evolves.ite | with_reducible apply Device.setResult_evolves
    | split

theorem Device.runCmd_evolves {a : Device} {r : Req} {o row : Nat} {c : Conds} {body : Device → Option Nat × Device}
    {d : Device} (h : Evolves a d) (hb : ∀ x, Evolves a x → Evolves a (body x).2) :
    Evolves a (Device.runCmd r o row c body d).2 := by
  unfold Device.runCmd
  dsimp only
  split
  · exact h
  · exact Evolves.elim (hb _ (Device.startCmd_evolves h)) (fun _ => Device.endCmd_evolves (hb _ (Device.startCmd_evolves h)))
theorem Device.direct_evolves {a : Device} {r : Req} {f : Device → Nat × Device} {d : Device} (h : Evolves a d)
    (hf : ∀ x, Evolves a x → Evolves a (f x).2) : Evolves a (Device.direct r f d) := by
  have hx := hf _ (Device.accept_evolves (r := r) h)
  unfold Device.direct
  exact Evolves.ite h (Evolves.ite (Device.respond_evolves h) (Evolves.ite hx (Device.respond_evolves hx)))
end Sys2Proof.Machine
end

