-- ==== Sys2Proof/Laws/EvolveKeystore.lean ====
section
/-!
SUPPORT. The operations of Machine/Keystore.lean respect what every operation respects (Laws/Evolve.lean).
-/
set_option Elab.async false
set_option linter.all false
set_option linter.unusedTactic false
set_option linter.unreachableTactic false
set_option linter.style.longLine false
namespace Sys2Proof.Machine

theorem Device.seeded_evolves {a : Device} {d : Device} (h : Evolves a d) :
    Evolves a (Device.seeded d) := by
  unfold Device.seeded
  try dsimp only
  repeat' first
    | with_reducible exact h | with_reducible apply Device.setKeys_evolves

theorem Device.drawBytes_evolves {a : Device} {d : Device} {n : Nat} (h : Evolves a d) :
    Evolves a (Device.drawBytes d n).2 := by
  unfold Device.drawBytes
  try dsimp only
  repeat' first
    | with_reducible exact h | with_reducible apply Evolves.draw | with_reducible apply Device.setKeys_evolves

theorem Device.vaultFails_evolves {a : Device} {d : Device} {k : Nat} (h : Evolves a d) :
    Evolves a (Device.vaultFails d k) := by
  unfold Device.vaultFails
  try dsimp only
  repeat' first
    | with_reducible exact h | with_reducible apply Evolves.wr | with_reducible apply Device.inc32_evolves
    | with_reducible apply Device.faultUnit_evolves

theorem Device.slotUse_evolves {a : Device} {d : Device} {k : Nat} (h : Evolves a d) :
    Evolves a (Device.slotUse d k).2 := by
  unfold Device.slotUse
  try dsimp only
  repeat' first
    | with_reducible exact h | with_reducible apply Evolves.ite | with_reducible apply Device.vaultFails_evolves
    | with_reducible apply Evolves.ite2 | split

theorem Device.takeUse_evolves {a : Device} {d : Device} {k : Nat} (h : Evolves a d) :
    Evolves a (Device.takeUse d k) := by
  unfold Device.takeUse
  try dsimp only
  repeat' first
    | with_reducible exact h | with_reducible apply Evolves.ite | with_reducible apply Evolves.wr | split

theorem Device.fillSlot_evolves {a : Device} {d : Device} {k : Nat} {key : Bytes} {bits : Nat} {level : Nat} {purpose : Nat} {uses : Nat} {origin : Nat} {parent : Nat} (h : Evolves a d) :
    Evolves a (Device.fillSlot d k key bits level purpose uses origin parent) := by
  unfold Device.fillSlot
  try dsimp only
  repeat' first
    | with_reducible exact h | with_reducible apply Device.setVault_evolves | with_reducible apply Evolves.wr

end Sys2Proof.Machine
end

