-- ==== Sys2Proof/Laws/EvolveBuckets.lean ====
section
/-!
SUPPORT. The operations of Machine/Buckets.lean respect what every operation respects (Laws/Evolve.lean).
-/
set_option Elab.async false
set_option linter.all false
set_option linter.unusedTactic false
set_option linter.unreachableTactic false
set_option linter.style.longLine false
namespace Sys2Proof.Machine

theorem Device.refreshLevels_evolves {a : Device} {d : Device} {q : Nat} (h : Evolves a d) :
    Evolves a (Device.refreshLevels d q) := by
  unfold Device.refreshLevels
  try dsimp only
  repeat' first
    | with_reducible exact h | with_reducible apply Device.setQueue_evolves

theorem Device.charge_evolves {a : Device} {d : Device} {q : Nat} {i : Nat} {n : Int} (h : Evolves a d) :
    Evolves a (Device.charge d q i n) := by
  unfold Device.charge
  try dsimp only
  repeat' first
    | with_reducible exact h | with_reducible apply Device.setQueue_evolves
    | exact h.same rfl rfl rfl rfl rfl rfl rfl

end Sys2Proof.Machine
end

