-- ==== Sys2Proof/Laws/EvolveClockwork.lean ====
section
/-!
SUPPORT. The operations of Machine/Clockwork.lean respect what every operation respects (Laws/Evolve.lean).
-/
set_option Elab.async false
set_option linter.all false
set_option linter.unusedTactic false
set_option linter.unreachableTactic false
set_option linter.style.longLine false
namespace Sys2Proof.Machine

theorem Device.setClk_evolves {a : Device} {d : Device} {c : Clock} (h : Evolves a d) :
    Evolves a (Device.setClk d c) := by
  unfold Device.setClk
  try dsimp only
  repeat' first
    | with_reducible exact h | exact h.same rfl rfl rfl rfl rfl rfl rfl

theorem Device.setCyc_evolves {a : Device} {d : Device} {n : Nat} (h : Evolves a d) :
    Evolves a (Device.setCyc d n) := by
  unfold Device.setCyc
  try dsimp only
  repeat' first
    | with_reducible exact h | exact h.same rfl rfl rfl rfl rfl rfl rfl

theorem Device.emptySlots_evolves {a : Device} {d : Device} {sd : Nat} {n : Nat} (h : Evolves a d) :
    Evolves a (Device.emptySlots d sd n) := by
  unfold Device.emptySlots
  try dsimp only
  repeat' first
    | with_reducible exact h | with_reducible apply Evolves.ite | with_reducible apply Device.pmcSlice_evolves
    | split

theorem Device.clocksOf_evolves {a : Device} {n : Nat} {d : Device} {sd : Nat} (h : Evolves a d) :
    Evolves a (Device.clocksOf n d sd) := by
  unfold Device.clocksOf
  try dsimp only
  repeat' first
    | with_reducible exact h | with_reducible apply Evolves.ite | with_reducible apply Device.setSlotCells_evolves
    | with_reducible apply Device.pmcSlice_evolves | with_reducible apply Device.emptySlots_evolves | split

theorem Device.hubClocks_evolves {a : Device} {d : Device} {n : Nat} (h : Evolves a d) :
    Evolves a (Device.hubClocks d n) := by
  unfold Device.hubClocks
  try dsimp only
  repeat' first
    | with_reducible exact h | with_reducible apply Device.setPmc_evolves
    | with_reducible apply Device.pmcHub_evolves

theorem Device.advance_evolves {a : Device} {d : Device} {n : Nat} (h : Evolves a d) :
    Evolves a (Device.advance d n) := by
  unfold Device.advance
  try dsimp only
  repeat' first
    | with_reducible exact h | with_reducible assumption | with_reducible apply Evolves.foldl
    | with_reducible apply Device.clocksOf_evolves | with_reducible apply Device.hubClocks_evolves
    | with_reducible apply Device.setClk_evolves | with_reducible apply Device.setCyc_evolves | intro _ _ hq
    | intro _

theorem Device.passTo_evolves {a : Device} {d : Device} {c : Nat} (h : Evolves a d) :
    Evolves a (Device.passTo d c) := by
  unfold Device.passTo
  try dsimp only
  repeat' first
    | with_reducible exact h | with_reducible apply Evolves.ite | with_reducible apply Device.advance_evolves | split

end Sys2Proof.Machine
end

