-- ==== Sys2Proof/Laws/EvolveMemory.lean ====
section
/-!
SUPPORT. The operations of Machine/Memory.lean respect what every operation respects (Laws/Evolve.lean).
-/
set_option Elab.async false
set_option linter.all false
set_option linter.unusedTactic false
set_option linter.unreachableTactic false
set_option linter.style.longLine false
namespace Sys2Proof.Machine

theorem Device.setMem_evolves {a d : Device} {x : MemX} (h : Evolves a d) (hx : x.cells = d.mem.cells) :
    Evolves a (d.setMem x) := h.same rfl rfl rfl rfl rfl hx rfl
theorem Device.memPut_evolves {a d : Device} {o : Nat} {b : Byte} (h : Evolves a d) : Evolves a (d.memPut o b) :=
  h.trans ⟨rfl, fun _ _ x => x, List.prefix_refl _, le_refl _, id, fun x => Sparse.wf_put x _ _, id, id⟩
theorem Device.memPutBytes_evolves {a : Device} {d : Device} {o : Nat} {bs : Bytes} (h : Evolves a d) :
    Evolves a (Device.memPutBytes d o bs) := by
  unfold Device.memPutBytes
  try dsimp only
  repeat' first
    | with_reducible exact h | with_reducible assumption | with_reducible apply Evolves.foldl
    | with_reducible apply Device.memPut_evolves | with_reducible apply Evolves.foldl2 | intro _ _ hq | intro _

theorem Device.setCached_evolves {a : Device} {d : Device} {l : List (Nat × Bool)} (h : Evolves a d) :
    Evolves a (Device.setCached d l) := by
  unfold Device.setCached
  try dsimp only
  repeat' first
    | with_reducible exact h | with_reducible apply Device.setMem_evolves | rfl

theorem Device.cacheNode_evolves {a : Device} {d : Device} {k : Nat} {dirty : Bool} (h : Evolves a d) :
    Evolves a (Device.cacheNode d k dirty) := by
  unfold Device.cacheNode
  try dsimp only
  repeat' first
    | with_reducible exact h | with_reducible assumption | with_reducible apply Device.setCached_evolves
    | intro _ _ hq | intro _

theorem Device.counterEnd_evolves {a : Device} {d : Device} {c : Nat} {k : Nat} (h : Evolves a d) :
    Evolves a (Device.counterEnd d c k) := by
  unfold Device.counterEnd
  try dsimp only
  repeat' first
    | with_reducible exact h | with_reducible apply Device.setMem_evolves | with_reducible apply Device.inc32_evolves
    | with_reducible apply Device.fault_evolves | rfl

theorem Device.fetchNodes_evolves {a : Device} {x0 : Nat} {x1 : Nat} {x2 : Nat} {d : Device} (h : Evolves a d) :
    Evolves a (Device.fetchNodes x0 x1 x2 d) := by
  induction x0 generalizing x1 x2 d with
  | zero =>
    unfold Device.fetchNodes
    try dsimp only
    repeat' first
      | with_reducible exact h | with_reducible assumption | with_reducible apply Evolves.ite
      | with_reducible apply Evolves.elim | with_reducible apply Device.cacheNode_evolves | intro _ _ hq | intro _
      | split
  | succ _ ih =>
    unfold Device.fetchNodes
    try dsimp only
    repeat' first
      | with_reducible exact h | with_reducible apply ih | with_reducible assumption
      | with_reducible apply Evolves.ite | with_reducible apply Evolves.elim
      | with_reducible apply Device.cacheNode_evolves | intro _ _ hq | intro _ | split

theorem Device.nodeWriteBack_evolves {a : Device} {d : Device} {c : Nat} {n : Nat} (h : Evolves a d) :
    Evolves a (Device.nodeWriteBack d c n) := by
  unfold Device.nodeWriteBack
  try dsimp only
  repeat' first
    | with_reducible exact h | with_reducible assumption | with_reducible apply Evolves.ite
    | with_reducible apply Evolves.elim | with_reducible apply Device.counterEnd_evolves
    | with_reducible apply Device.setMem_evolves | with_reducible apply Device.fetchNodes_evolves
    | with_reducible apply Device.cacheNode_evolves | intro _ _ hq | intro _ | rfl | split

theorem Device.evictNode_evolves {a : Device} {d : Device} {c : Nat} {n : Nat} (h : Evolves a d) :
    Evolves a (Device.evictNode d c n) := by
  unfold Device.evictNode
  try dsimp only
  repeat' first
    | with_reducible exact h | with_reducible assumption | with_reducible apply Evolves.ite
    | with_reducible apply Device.setCached_evolves | with_reducible apply Device.nodeWriteBack_evolves
    | with_reducible apply Evolves.ite2 | intro _ _ hq | intro _ | split

theorem Device.trimTo_evolves {a : Device} {x0 : Nat} {d : Device} (h : Evolves a d) :
    Evolves a (Device.trimTo x0 d) := by
  induction x0 generalizing d with
  | zero =>
    unfold Device.trimTo
    try dsimp only
    repeat' first
      | with_reducible exact h | with_reducible assumption | with_reducible apply Evolves.ite
      | with_reducible apply Device.evictNode_evolves | split
  | succ _ ih =>
    unfold Device.trimTo
    try dsimp only
    repeat' first
      | with_reducible exact h | with_reducible apply ih | with_reducible assumption
      | with_reducible apply Evolves.ite | with_reducible apply Device.evictNode_evolves | split

theorem Device.trimCache_evolves {a : Device} {d : Device} (h : Evolves a d) :
    Evolves a (Device.trimCache d) := by
  unfold Device.trimCache
  try dsimp only
  repeat' first
    | with_reducible exact h | with_reducible apply Device.trimTo_evolves

theorem Device.walkUp_evolves {a : Device} {x0 : Nat} {x1 : Nat} {x2 : Nat} {d : Device} (h : Evolves a d) :
    Evolves a (Device.walkUp x0 x1 x2 d) := by
  induction x0 generalizing x1 x2 d with
  | zero =>
    unfold Device.walkUp
    try dsimp only
    repeat' first
      | with_reducible exact h | with_reducible assumption | with_reducible apply Evolves.ite
      | with_reducible apply Evolves.elim | with_reducible apply Device.cacheNode_evolves
      | with_reducible apply Device.trimCache_evolves | intro _ _ hq | intro _ | split
  | succ _ ih =>
    unfold Device.walkUp
    try dsimp only
    repeat' first
      | with_reducible exact h | with_reducible apply ih | with_reducible assumption
      | with_reducible apply Evolves.ite | with_reducible apply Evolves.elim
      | with_reducible apply Device.cacheNode_evolves | with_reducible apply Device.trimCache_evolves | intro _ _ hq
      | intro _ | split

theorem Device.fetchCounter_evolves {a : Device} {d : Device} {c : Nat} {i : Nat} {off : Nat} (h : Evolves a d) :
    Evolves a (Device.fetchCounter d c i off) := by
  unfold Device.fetchCounter
  try dsimp only
  repeat' first
    | with_reducible exact h | with_reducible apply Evolves.ite | with_reducible apply Device.inc64_evolves
    | with_reducible apply Device.cacheNode_evolves | with_reducible apply Device.walkUp_evolves
    | with_reducible apply Device.pmcHub_evolves | split

theorem Device.memNodeFail_evolves {a : Device} {d : Device} {c : Nat} {off : Nat} (h : Evolves a d) :
    Evolves a (Device.memNodeFail d c off) := by
  unfold Device.memNodeFail
  try dsimp only
  repeat' first
    | with_reducible exact h | with_reducible apply Device.inc32_evolves | with_reducible apply Device.fault_evolves

theorem Device.bumpLine_evolves {a : Device} {d : Device} {c : Nat} {i : Nat} (h : Evolves a d) :
    Evolves a (Device.bumpLine d c i).2 := by
  unfold Device.bumpLine
  try dsimp only
  repeat' first
    | with_reducible exact h | with_reducible apply Evolves.ite | with_reducible apply Device.counterEnd_evolves
    | with_reducible apply Device.setMem_evolves | with_reducible apply Device.cacheNode_evolves
    | with_reducible apply Evolves.ite2 | rfl | split

theorem Device.poisonLog_evolves {a : Device} {d : Device} {off : Nat} {cause : Nat} (h : Evolves a d) :
    Evolves a (Device.poisonLog d off cause) := by
  unfold Device.poisonLog
  try dsimp only
  repeat' first
    | with_reducible exact h | with_reducible apply Device.inc32_evolves | with_reducible apply Evolves.wr

theorem Device.loseStats_evolves {a : Device} {d : Device} {p : Nat} (h : Evolves a d) :
    Evolves a (Device.loseStats d p) := by
  unfold Device.loseStats
  try dsimp only
  repeat' first
    | with_reducible exact h | with_reducible apply Evolves.ite | with_reducible apply Device.clearStats_evolves
    | split

theorem Device.poisonWrite_evolves {a : Device} {d : Device} {p : Nat} {cause : Nat} (h : Evolves a d) :
    Evolves a (Device.poisonWrite d p cause) := by
  unfold Device.poisonWrite
  try dsimp only
  repeat' first
    | with_reducible exact h | with_reducible apply Evolves.ite | with_reducible apply Device.bumpLine_evolves
    | with_reducible apply Device.setMem_evolves | with_reducible apply Device.loseStats_evolves
    | with_reducible apply Device.poisonLog_evolves | with_reducible apply Evolves.ite2 | rfl | split

theorem Device.fullLine_evolves {a : Device} {d : Device} {p : Nat} (h : Evolves a d) :
    Evolves a (Device.fullLine d p).2 := by
  unfold Device.fullLine
  try dsimp only
  repeat' first
    | with_reducible exact h | with_reducible assumption | with_reducible apply Evolves.ite
    | with_reducible apply Device.memNodeFail_evolves | with_reducible apply Device.fetchCounter_evolves
    | with_reducible apply Device.bumpLine_evolves | with_reducible apply Device.setMem_evolves
    | with_reducible apply Evolves.ite2 | intro _ _ hq | intro _ | rfl | split

theorem Device.tagFail_evolves {a : Device} {d : Device} {p : Nat} (h : Evolves a d) :
    Evolves a (Device.tagFail d p) := by
  unfold Device.tagFail
  try dsimp only
  repeat' first
    | with_reducible exact h | with_reducible apply Device.inc64_evolves | with_reducible apply Device.fault_evolves

theorem Device.readLine_evolves {a : Device} {d : Device} {p : Nat} (h : Evolves a d) :
    Evolves a (Device.readLine d p).2 := by
  unfold Device.readLine
  try dsimp only
  repeat' first
    | with_reducible exact h | with_reducible apply Evolves.ite | with_reducible apply Device.memNodeFail_evolves
    | with_reducible apply Device.fetchCounter_evolves | with_reducible apply Device.poisonWrite_evolves
    | with_reducible apply Device.tagFail_evolves | with_reducible apply Evolves.ite2 | split

theorem Device.memCorrected_evolves {a : Device} {d : Device} {c : Nat} (h : Evolves a d) :
    Evolves a (Device.memCorrected d c) := by
  unfold Device.memCorrected
  try dsimp only
  repeat' first
    | with_reducible exact h | with_reducible apply Device.inc64_evolves | with_reducible apply Device.fault_evolves

theorem Device.setRetiring_evolves {a : Device} {d : Device} {x : Option (Nat × Bool)} {sw : Bool} (h : Evolves a d) :
    Evolves a (Device.setRetiring d x sw) := by
  unfold Device.setRetiring
  try dsimp only
  repeat' first
    | with_reducible exact h | with_reducible apply Device.setMem_evolves | rfl

theorem Device.forceRetire_evolves {a : Device} {d : Device} {c : Nat} (h : Evolves a d) :
    Evolves a (Device.forceRetire d c) := by
  unfold Device.forceRetire
  try dsimp only
  repeat' first
    | with_reducible exact h | with_reducible apply Evolves.ite | with_reducible apply Evolves.unstated
    | with_reducible apply Device.setMem_evolves | with_reducible apply Evolves.ite2 | rfl | split

theorem Device.startRetire_evolves {a : Device} {d : Device} {c : Nat} {cause : Nat} {forced : Bool} (h : Evolves a d) :
    Evolves a (Device.startRetire d c cause forced) := by
  unfold Device.startRetire
  try dsimp only
  repeat' first
    | with_reducible exact h | with_reducible apply Evolves.ite | with_reducible apply Device.forceRetire_evolves
    | with_reducible apply Device.fault_evolves | with_reducible apply Evolves.wr
    | with_reducible apply Device.setRetiring_evolves | split

theorem Device.memUncorrectable_evolves {a : Device} {d : Device} {c : Nat} (h : Evolves a d) :
    Evolves a (Device.memUncorrectable d c) := by
  unfold Device.memUncorrectable
  try dsimp only
  repeat' first
    | with_reducible exact h | with_reducible assumption | with_reducible apply Device.setMem_evolves
    | with_reducible apply Device.inc64_evolves | intro _ _ hq | intro _ | rfl

theorem Device.memInit_evolves {a d : Device} (h : Evolves a d) : Evolves a d.memInit := by
  have h1 : Evolves a (((d.drawBytes 32).2.drawBytes 32).2.drawBytes 32).2 :=
    Device.drawBytes_evolves (Device.drawBytes_evolves (Device.drawBytes_evolves h))
  exact h1.trans ⟨rfl, fun _ _ x => x, List.prefix_refl _, le_refl _, id, fun _ => rfl, id, id⟩
theorem Device.memZero_evolves {a : Device} {d : Device} (h : Evolves a d) :
    Evolves a (Device.memZero d) := by
  unfold Device.memZero
  try dsimp only
  repeat' first
    | with_reducible exact h | with_reducible apply Device.setMem_evolves | rfl

end Sys2Proof.Machine
end

