-- ==== Sys2Proof/Laws/EvolveOtp.lean ====
section
/-!
SUPPORT. The operations of Machine/Otp.lean respect what every operation respects (Laws/Evolve.lean).
-/
set_option Elab.async false
set_option linter.all false
set_option linter.unusedTactic false
set_option linter.unreachableTactic false
set_option linter.style.longLine false
namespace Sys2Proof.Machine

theorem Device.burnWords_evolves {a : Device} {x0 : Nat} {x1 : Nat} {x2 : Nat} {d : Device} (h : Evolves a d) :
    Evolves a (Device.burnWords x0 x1 x2 d) := by
  induction x0 generalizing x1 x2 d with
  | zero =>
    unfold Device.burnWords
    try dsimp only
    repeat' first
      | with_reducible exact h | with_reducible assumption | with_reducible apply Evolves.burnWord | split
  | succ _ ih =>
    unfold Device.burnWords
    try dsimp only
    repeat' first
      | with_reducible exact h | with_reducible apply ih | with_reducible assumption
      | with_reducible apply Evolves.burnWord | split

theorem Device.burnBits_evolves {a : Device} {d : Device} {lo : Nat} {n : Nat} {v : Nat} (h : Evolves a d) :
    Evolves a (Device.burnBits d lo n v) := by
  unfold Device.burnBits
  try dsimp only
  repeat' first
    | with_reducible exact h | with_reducible apply Device.burnWords_evolves

theorem Device.flashWrite_evolves {a : Device} {d : Device} {o : Nat} {bs : Bytes} (h : Evolves a d) :
    Evolves a (Device.flashWrite d o bs) := by
  unfold Device.flashWrite
  try dsimp only
  repeat' first
    | with_reducible exact h | with_reducible assumption | with_reducible apply Evolves.foldl
    | with_reducible apply Evolves.flashPut | with_reducible apply Evolves.foldl2 | intro _ _ hq | intro _

end Sys2Proof.Machine
end

