-- ==== Sys2Proof/Laws/EvolveSessions.lean ====
section
/-!
SUPPORT. The operations of Machine/Sessions.lean respect what every operation respects (Laws/Evolve.lean).
-/
set_option Elab.async false
set_option linter.all false
set_option linter.unusedTactic false
set_option linter.unreachableTactic false
set_option linter.style.longLine false
namespace Sys2Proof.Machine

theorem Device.setProofFails_evolves {a : Device} {d : Device} {l : List (Transport × Nat)} (h : Evolves a d) :
    Evolves a (Device.setProofFails d l) := by
  unfold Device.setProofFails
  try dsimp only
  repeat' first
    | with_reducible exact h | exact h.same rfl rfl rfl rfl rfl rfl rfl

theorem Device.setLockouts_evolves {a : Device} {d : Device} {l : List (Transport × Nat)} (h : Evolves a d) :
    Evolves a (Device.setLockouts d l) := by
  unfold Device.setLockouts
  try dsimp only
  repeat' first
    | with_reducible exact h | exact h.same rfl rfl rfl rfl rfl rfl rfl

theorem Device.proofFailed_evolves {a : Device} {d : Device} {t : Transport} (h : Evolves a d) :
    Evolves a (Device.proofFailed d t) := by
  unfold Device.proofFailed
  try dsimp only
  repeat' first
    | with_reducible exact h | with_reducible assumption | with_reducible apply Evolves.ite
    | with_reducible apply Device.setProofFails_evolves | with_reducible apply Device.setLockouts_evolves
    | with_reducible apply Device.note_evolves | intro _ _ hq | intro _ | split

theorem Device.allocSession_evolves {a : Device} {d : Device} {row : Nat} {state : Nat} {o : OpenReq} {nd : Nat} {ks : Nat} (h : Evolves a d) :
    Evolves a (Device.allocSession d row state o nd ks) := by
  unfold Device.allocSession
  try dsimp only
  repeat' first
    | with_reducible exact h | with_reducible apply Evolves.ite | with_reducible apply Device.setSess_evolves
    | with_reducible apply Evolves.wr | split

theorem Device.openSession_evolves {a : Device} {d : Device} {t : Transport} {o : OpenReq} (h : Evolves a d) :
    Evolves a (Device.openSession d t o).2 := by
  unfold Device.openSession
  try dsimp only
  repeat' first
    | with_reducible exact h | with_reducible assumption | with_reducible apply Evolves.ite
    | with_reducible apply Device.drawBytes_evolves | with_reducible apply Device.allocSession_evolves
    | with_reducible apply Device.slotUse_evolves | with_reducible apply Device.takeUse_evolves
    | with_reducible apply Evolves.ite2 | split

theorem Device.freeOpening_evolves {a : Device} {d : Device} {row : Nat} (h : Evolves a d) :
    Evolves a (Device.freeOpening d row) := by
  unfold Device.freeOpening
  try dsimp only
  repeat' first
    | with_reducible exact h | with_reducible apply Device.clearSession_evolves

theorem Device.becomeOpen_evolves {a : Device} {d : Device} {row : Nat} (h : Evolves a d) :
    Evolves a (Device.becomeOpen d row) := by
  unfold Device.becomeOpen
  try dsimp only
  repeat' first
    | with_reducible exact h | with_reducible apply Device.setSess_evolves | with_reducible apply Evolves.wr

theorem Device.becomeOpenCert_evolves {a : Device} {d : Device} {row : Nat} (h : Evolves a d) :
    Evolves a (Device.becomeOpenCert d row) := by
  unfold Device.becomeOpenCert
  try dsimp only
  repeat' first
    | with_reducible exact h | with_reducible apply Device.becomeOpen_evolves | with_reducible apply Evolves.wr

theorem Device.proveSession_evolves {a : Device} {d : Device} {t : Transport} {id : Nat} {proof : Bytes} (h : Evolves a d) :
    Evolves a (Device.proveSession d t id proof).2 := by
  unfold Device.proveSession
  try dsimp only
  repeat' first
    | with_reducible exact h | with_reducible assumption | with_reducible apply Evolves.ite
    | with_reducible apply Device.freeOpening_evolves | with_reducible apply Device.proofFailed_evolves
    | with_reducible apply Device.becomeOpenCert_evolves | with_reducible apply Device.becomeOpen_evolves
    | with_reducible apply Evolves.ite2 | split

theorem Device.closeOn_evolves {a : Device} {d : Device} {t : Transport} {id : Nat} (h : Evolves a d) :
    Evolves a (Device.closeOn d t id).2 := by
  unfold Device.closeOn
  try dsimp only
  repeat' first
    | with_reducible exact h | with_reducible assumption | with_reducible apply Evolves.ite
    | with_reducible apply Device.closeSession_evolves | with_reducible apply Evolves.ite2 | split

theorem Device.sessionCloseCore_evolves {a : Device} {r : Req} {row : Nat} {d : Device} (h : Evolves a d) :
    Evolves a (Device.sessionCloseCore r row d).2 := by
  unfold Device.sessionCloseCore
  try dsimp only
  repeat' first
    | with_reducible exact h | with_reducible assumption | with_reducible apply Device.runCmd_evolves
    | with_reducible apply Device.closeSession_evolves | intro _ _ hq | intro _

theorem Device.sessionClose_evolves {a : Device} {r : Req} {row : Nat} {d : Device} (h : Evolves a d) :
    Evolves a (Device.sessionClose r row d) := by
  unfold Device.sessionClose
  try dsimp only
  repeat' first
    | with_reducible exact h | with_reducible assumption | with_reducible apply Device.direct_evolves
    | with_reducible apply Device.sessionCloseCore_evolves | intro _ _ hq | intro _

theorem Device.proofLockoutEnd_evolves {a : Device} {t : Transport} {d : Device} (h : Evolves a d) :
    Evolves a (Device.proofLockoutEnd t d) := by
  unfold Device.proofLockoutEnd
  try dsimp only
  repeat' first
    | with_reducible exact h | with_reducible assumption | with_reducible apply Device.passTo_evolves
    | with_reducible apply Device.setLockouts_evolves | intro _ _ hq | intro _ | split

theorem Device.sessionIdleExpiry_evolves {a : Device} {row : Nat} {d : Device} (h : Evolves a d) :
    Evolves a (Device.sessionIdleExpiry row d) := by
  unfold Device.sessionIdleExpiry
  try dsimp only
  repeat' first
    | with_reducible exact h | with_reducible apply Evolves.ite | with_reducible apply Device.passTo_evolves
    | with_reducible apply Device.closeSession_evolves | split

theorem Device.debugSessionExpiry_evolves {a : Device} {row : Nat} {d : Device} (h : Evolves a d) :
    Evolves a (Device.debugSessionExpiry row d) := by
  unfold Device.debugSessionExpiry
  try dsimp only
  repeat' first
    | with_reducible exact h | with_reducible apply Evolves.ite | with_reducible apply Device.passTo_evolves
    | with_reducible apply Device.closeSession_evolves | split

end Sys2Proof.Machine
end

