-- ==== Sys2Proof/Laws/EvolveRing.lean ====
section
/-!
SUPPORT. The operations of Machine/Ring.lean respect what every operation respects (Laws/Evolve.lean).
-/
set_option Elab.async false
set_option linter.all false
set_option linter.unusedTactic false
set_option linter.unreachableTactic false
set_option linter.style.longLine false
namespace Sys2Proof.Machine

theorem Device.setRing_evolves {a : Device} {d : Device} {x : RingX} (h : Evolves a d) :
    Evolves a (Device.setRing d x) := by
  unfold Device.setRing
  try dsimp only
  repeat' first
    | with_reducible exact h | exact h.same rfl rfl rfl rfl rfl rfl rfl

theorem Device.setPins_evolves {a : Device} {d : Device} {x : Pins} (h : Evolves a d) :
    Evolves a (Device.setPins d x) := by
  unfold Device.setPins
  try dsimp only
  repeat' first
    | with_reducible exact h | exact h.same rfl rfl rfl rfl rfl rfl rfl

theorem Device.setRingHold_evolves {a : Device} {d : Device} {l : Option Bool} (h : Evolves a d) :
    Evolves a (Device.setRingHold d l) := by
  unfold Device.setRingHold
  try dsimp only
  repeat' first
    | with_reducible exact h | with_reducible apply Device.setPins_evolves | with_reducible apply Evolves.emit

theorem Device.setTime_evolves {a : Device} {d : Device} {x : TimeX} (h : Evolves a d) :
    Evolves a (Device.setTime d x) := by
  unfold Device.setTime
  try dsimp only
  repeat' first
    | with_reducible exact h | exact h.same rfl rfl rfl rfl rfl rfl rfl

theorem Device.refreshSel_evolves {a : Device} {d : Device} (h : Evolves a d) :
    Evolves a (Device.refreshSel d) := by
  unfold Device.refreshSel
  try dsimp only
  repeat' first
    | with_reducible exact h | with_reducible apply Evolves.ite | with_reducible apply Evolves.wr
    | with_reducible apply Device.setTime_evolves | split

theorem Device.refreshUpstream_evolves {a : Device} {d : Device} (h : Evolves a d) :
    Evolves a (Device.refreshUpstream d) := by
  unfold Device.refreshUpstream
  try dsimp only
  repeat' first
    | with_reducible exact h | with_reducible apply Evolves.ite | with_reducible apply Evolves.wr
    | with_reducible apply Device.refreshSel_evolves | split

theorem Device.takeIdleSet_evolves {a : Device} {d : Device} {place : Byte} {status : Byte} (h : Evolves a d) :
    Evolves a (Device.takeIdleSet d place status) := by
  unfold Device.takeIdleSet
  try dsimp only
  repeat' first
    | with_reducible exact h | with_reducible apply Device.setRing_evolves | with_reducible apply Evolves.wr
    | with_reducible apply Device.refreshUpstream_evolves

theorem Device.ringCharacterLock_evolves {a : Device} {place : Byte} {status : Byte} {d : Device} (h : Evolves a d) :
    Evolves a (Device.ringCharacterLock place status d) := by
  unfold Device.ringCharacterLock
  try dsimp only
  repeat' first
    | with_reducible exact h | with_reducible apply Evolves.ite | with_reducible apply Device.setRing_evolves
    | with_reducible apply Evolves.wr | with_reducible apply Device.takeIdleSet_evolves | split

theorem Device.ringLockLoss_evolves {a : Device} {d : Device} (h : Evolves a d) :
    Evolves a (Device.ringLockLoss d) := by
  unfold Device.ringLockLoss
  try dsimp only
  repeat' first
    | with_reducible exact h | with_reducible apply Evolves.ite | with_reducible apply Evolves.wr
    | with_reducible apply Device.refreshUpstream_evolves | with_reducible apply Device.setRingHold_evolves | split

theorem Device.ringIdleSetRx_evolves {a : Device} {_position : Byte} {place : Byte} {status : Byte} {d : Device} (h : Evolves a d) :
    Evolves a (Device.ringIdleSetRx _position place status d) := by
  unfold Device.ringIdleSetRx
  try dsimp only
  repeat' first
    | with_reducible exact h | with_reducible apply Evolves.ite | with_reducible apply Device.takeIdleSet_evolves
    | split

theorem Device.bufferDuring_evolves {a : Device} {d : Device} {m : RingMsg} (h : Evolves a d) :
    Evolves a (Device.bufferDuring d m) := by
  unfold Device.bufferDuring
  try dsimp only
  repeat' first
    | with_reducible exact h | with_reducible apply Evolves.ite | with_reducible apply Device.setRing_evolves | split

theorem Device.forward_evolves {a : Device} {d : Device} {m : RingMsg} (h : Evolves a d) :
    Evolves a (Device.forward d m) := by
  unfold Device.forward
  try dsimp only
  repeat' first
    | with_reducible exact h | with_reducible apply Device.bufferDuring_evolves | with_reducible apply Evolves.emit

theorem Device.ringAccept_evolves {a : Device} {d : Device} {m : RingMsg} (h : Evolves a d) :
    Evolves a (Device.ringAccept d m).2 := by
  unfold Device.ringAccept
  try dsimp only
  repeat' first
    | with_reducible exact h | with_reducible apply Evolves.ite | with_reducible apply Device.inc64_evolves
    | with_reducible apply Evolves.ite2 | split

theorem Device.ringMessageInsert_evolves {a : Device} {d : Device} (h : Evolves a d) :
    Evolves a (Device.ringMessageInsert d) := by
  unfold Device.ringMessageInsert
  try dsimp only
  repeat' first
    | with_reducible exact h | with_reducible assumption | with_reducible apply Evolves.ite
    | with_reducible apply Device.passTo_evolves | with_reducible apply Device.setRing_evolves
    | with_reducible apply Evolves.emit | split

theorem Device.ringHoldAssert_evolves {a : Device} {d : Device} (h : Evolves a d) :
    Evolves a (Device.ringHoldAssert d) := by
  unfold Device.ringHoldAssert
  try dsimp only
  repeat' first
    | with_reducible exact h | with_reducible apply Evolves.ite | with_reducible apply Device.passTo_evolves
    | with_reducible apply Device.setRing_evolves | with_reducible apply Device.setRingHold_evolves | split

theorem Device.join_evolves {a : Device} {d : Device} (h : Evolves a d) :
    Evolves a (Device.join d) := by
  unfold Device.join
  try dsimp only
  repeat' first
    | with_reducible exact h | with_reducible apply Evolves.ite | with_reducible apply Device.passTo_evolves
    | with_reducible apply Device.setRing_evolves | with_reducible apply Device.ringSend_evolves | split

theorem Device.takeAddress_evolves {a : Device} {d : Device} {m : RingMsg} (h : Evolves a d) :
    Evolves a (Device.takeAddress d m) := by
  unfold Device.takeAddress
  try dsimp only
  repeat' first
    | with_reducible exact h | with_reducible apply Evolves.ite | with_reducible apply Evolves.wr
    | with_reducible apply Device.closeSessions_evolves | with_reducible apply Device.forward_evolves | split

theorem Device.ringArrive_evolves {a : Device} {d : Device} {m : RingMsg} (h : Evolves a d) :
    Evolves a (Device.ringArrive d m) := by
  unfold Device.ringArrive
  try dsimp only
  repeat' first
    | with_reducible exact h | with_reducible apply Evolves.ite | with_reducible apply Device.ringAccept_evolves
    | with_reducible apply Device.takeAddress_evolves | with_reducible apply Device.forward_evolves
    | with_reducible apply Device.inc64_evolves | with_reducible apply Evolves.ite2 | split

theorem Device.ringMessageForward_evolves {a : Device} {m : RingMsg} {d : Device} (h : Evolves a d) :
    Evolves a (Device.ringMessageForward m d) := by
  unfold Device.ringMessageForward
  try dsimp only
  repeat' first
    | with_reducible exact h | with_reducible apply Device.ringArrive_evolves

theorem Device.address_evolves {a : Device} {m : RingMsg} {d : Device} (h : Evolves a d) :
    Evolves a (Device.address m d) := by
  unfold Device.address
  try dsimp only
  repeat' first
    | with_reducible exact h | with_reducible apply Device.ringArrive_evolves

theorem Device.ringAnswer_evolves {a : Device} {d : Device} {m : RingMsg} {t : Nat} {payload : Bytes} (h : Evolves a d) :
    Evolves a (Device.ringAnswer d m t payload) := by
  unfold Device.ringAnswer
  try dsimp only
  repeat' first
    | with_reducible exact h | with_reducible apply Device.ringSend_evolves

theorem Device.ringOpen_evolves {a : Device} {m : RingMsg} {d : Device} (h : Evolves a d) :
    Evolves a (Device.ringOpen m d) := by
  unfold Device.ringOpen
  try dsimp only
  repeat' first
    | with_reducible exact h | with_reducible apply Evolves.ite | with_reducible apply Device.ringArrive_evolves
    | with_reducible apply Device.ringAccept_evolves | with_reducible apply Device.ringAnswer_evolves
    | with_reducible apply Device.openSession_evolves | with_reducible apply Evolves.ite2 | split

theorem Device.ringProve_evolves {a : Device} {m : RingMsg} {d : Device} (h : Evolves a d) :
    Evolves a (Device.ringProve m d) := by
  unfold Device.ringProve
  try dsimp only
  repeat' first
    | with_reducible exact h | with_reducible apply Evolves.ite | with_reducible apply Device.ringArrive_evolves
    | with_reducible apply Device.ringAccept_evolves | with_reducible apply Device.ringAnswer_evolves
    | with_reducible apply Device.proveSession_evolves | with_reducible apply Evolves.ite2 | split

theorem Device.proveTimeout_evolves {a : Device} {row : Nat} {d : Device} (h : Evolves a d) :
    Evolves a (Device.proveTimeout row d) := by
  unfold Device.proveTimeout
  try dsimp only
  repeat' first
    | with_reducible exact h | with_reducible apply Evolves.ite | with_reducible apply Device.passTo_evolves
    | with_reducible apply Device.freeOpening_evolves | with_reducible apply Device.proofFailed_evolves
    | with_reducible apply Device.setSess_evolves | with_reducible apply Device.ringSend_evolves | split

end Sys2Proof.Machine
end

