-- ==== Sys2Proof/Laws/EvolvePcie.lean ====
section
/-!
SUPPORT. The operations of Machine/Pcie.lean respect what every operation respects (Laws/Evolve.lean).
-/
set_option Elab.async false
set_option linter.all false
set_option linter.unusedTactic false
set_option linter.unreachableTactic false
set_option linter.style.longLine false
namespace Sys2Proof.Machine

theorem Device.setPcie_evolves {a : Device} {d : Device} {x : PcieX} (h : Evolves a d) :
    Evolves a (Device.setPcie d x) := by
  unfold Device.setPcie
  try dsimp only
  repeat' first
    | with_reducible exact h | exact h.same rfl rfl rfl rfl rfl rfl rfl

theorem Device.pcieLinkUp_evolves {a : Device} {width : Nat} {speed : Nat} {d : Device} (h : Evolves a d) :
    Evolves a (Device.pcieLinkUp width speed d) := by
  unfold Device.pcieLinkUp
  try dsimp only
  repeat' first
    | with_reducible exact h | with_reducible apply Evolves.ite | with_reducible apply Evolves.wr | split

theorem Device.dmaForget_evolves {a : Device} {d : Device} {n : Nat} (h : Evolves a d) :
    Evolves a (Device.dmaForget d n) := by
  unfold Device.dmaForget
  try dsimp only
  repeat' first
    | with_reducible exact h | with_reducible apply Device.setTaken_evolves

theorem Device.hostPortReset_evolves {a : Device} {d : Device} (h : Evolves a d) :
    Evolves a (Device.hostPortReset d) := by
  unfold Device.hostPortReset
  try dsimp only
  repeat' first
    | with_reducible exact h | with_reducible assumption | with_reducible apply Evolves.foldl
    | with_reducible apply Device.jobGone_evolves | with_reducible apply Device.dmaForget_evolves
    | with_reducible apply Device.setLa_evolves | with_reducible apply Evolves.wr
    | with_reducible apply Device.dmaStop_evolves | with_reducible apply Device.closeSessions_evolves
    | with_reducible apply Device.setPcie_evolves | intro _ _ hq | intro _

theorem Device.pciePortReset_evolves {a : Device} {c : PortResetCause} {d : Device} (h : Evolves a d) :
    Evolves a (Device.pciePortReset c d) := by
  unfold Device.pciePortReset
  try dsimp only
  repeat' first
    | with_reducible exact h | with_reducible apply Evolves.ite | with_reducible apply Device.hostPortReset_evolves
    | with_reducible apply Evolves.wr | split

theorem Device.windowSubmit_evolves {a : Device} {d : Device} {w : Nat} {address : Nat} {session : Nat} {length : Nat} {op : Nat} {value : Bytes} (h : Evolves a d) :
    Evolves a (Device.windowSubmit d w address session length op value) := by
  unfold Device.windowSubmit
  try dsimp only
  repeat' first
    | with_reducible exact h | with_reducible apply Device.setWin_evolves
    | with_reducible apply Device.address_evolves

theorem Device.windowDone_evolves {a : Device} {d : Device} {w : Nat} {abort : Nat} {value : Bytes} (h : Evolves a d) :
    Evolves a (Device.windowDone d w abort value) := by
  unfold Device.windowDone
  try dsimp only
  repeat' first
    | with_reducible exact h | with_reducible apply Device.setWin_evolves | with_reducible apply Device.msix_evolves

theorem Device.pcieWindowOpen_evolves {a : Device} {w : Nat} {payload : Bytes} {d : Device} (h : Evolves a d) :
    Evolves a (Device.pcieWindowOpen w payload d) := by
  unfold Device.pcieWindowOpen
  try dsimp only
  repeat' first
    | with_reducible exact h | with_reducible apply Evolves.ite | with_reducible apply Device.windowSubmit_evolves
    | with_reducible apply Device.windowDone_evolves | with_reducible apply Device.openSession_evolves
    | with_reducible apply Evolves.ite2 | split

theorem Device.pcieWindowProve_evolves {a : Device} {w : Nat} {payload : Bytes} {d : Device} (h : Evolves a d) :
    Evolves a (Device.pcieWindowProve w payload d) := by
  unfold Device.pcieWindowProve
  try dsimp only
  repeat' first
    | with_reducible exact h | with_reducible apply Evolves.ite | with_reducible apply Device.windowSubmit_evolves
    | with_reducible apply Device.windowDone_evolves | with_reducible apply Device.proveSession_evolves
    | with_reducible apply Evolves.ite2 | split

theorem Device.pcieWindowClose_evolves {a : Device} {w : Nat} {session : Nat} {d : Device} (h : Evolves a d) :
    Evolves a (Device.pcieWindowClose w session d) := by
  unfold Device.pcieWindowClose
  try dsimp only
  repeat' first
    | with_reducible exact h | with_reducible apply Evolves.ite | with_reducible apply Device.windowSubmit_evolves
    | with_reducible apply Device.closeOn_evolves | with_reducible apply Device.windowDone_evolves
    | with_reducible apply Evolves.ite2 | split

theorem Device.ringStart_evolves {a : Device} {d : Device} {n : Nat} (h : Evolves a d) :
    Evolves a (Device.ringStart d n) := by
  unfold Device.ringStart
  try dsimp only
  repeat' first
    | with_reducible exact h | with_reducible apply Evolves.ite | with_reducible apply Evolves.wr
    | with_reducible apply Device.setDma_evolves | split

theorem Device.doorbell_evolves {a : Device} {n : Nat} {tail : Nat} {d : Device} (h : Evolves a d) :
    Evolves a (Device.doorbell n tail d) := by
  unfold Device.doorbell
  try dsimp only
  repeat' first
    | with_reducible exact h | with_reducible apply Evolves.ite | with_reducible apply Evolves.wr | split

theorem Device.dmaIrqTimer_evolves {a : Device} {n : Nat} {d : Device} (h : Evolves a d) :
    Evolves a (Device.dmaIrqTimer n d) := by
  unfold Device.dmaIrqTimer
  try dsimp only
  repeat' first
    | with_reducible exact h | with_reducible apply Evolves.ite | with_reducible apply Device.passTo_evolves
    | with_reducible apply Device.dmaSignal_evolves | split

theorem Device.msixRelease_evolves {a : Device} {d : Device} {e : Nat} (h : Evolves a d) :
    Evolves a (Device.msixRelease d e) := by
  unfold Device.msixRelease
  try dsimp only
  repeat' first
    | with_reducible exact h | with_reducible apply Evolves.ite | with_reducible apply Device.setPcie_evolves
    | with_reducible apply Device.msixSend_evolves | split

theorem Device.msixStore_evolves {a : Device} {d : Device} {w : MsixWrite} (h : Evolves a d) :
    Evolves a (Device.msixStore d w) := by
  unfold Device.msixStore
  try dsimp only
  repeat' first
    | with_reducible exact h | with_reducible assumption | with_reducible apply Evolves.ite
    | with_reducible apply Device.address_evolves | with_reducible apply Device.setPcie_evolves | intro _ _ hq
    | intro _ | split

theorem Device.msixUnmask_evolves {a : Device} {w : MsixWrite} {d : Device} (h : Evolves a d) :
    Evolves a (Device.msixUnmask w d) := by
  unfold Device.msixUnmask
  try dsimp only
  repeat' first
    | with_reducible exact h | with_reducible assumption | with_reducible apply Evolves.ite
    | with_reducible apply Evolves.foldl | with_reducible apply Device.msixRelease_evolves
    | with_reducible apply Device.msixStore_evolves | intro _ _ hq | intro _ | split

end Sys2Proof.Machine
end

