-- ==== Sys2Proof/Laws/EvolveJtag.lean ====
section
/-!
SUPPORT. The operations of Machine/Jtag.lean respect what every operation respects (Laws/Evolve.lean).
-/
set_option Elab.async false
set_option linter.all false
set_option linter.unusedTactic false
set_option linter.unreachableTactic false
set_option linter.style.longLine false
namespace Sys2Proof.Machine

theorem Device.setJtag_evolves {a : Device} {d : Device} {x : JtagX} (h : Evolves a d) :
    Evolves a (Device.setJtag d x) := by
  unfold Device.setJtag
  try dsimp only
  repeat' first
    | with_reducible exact h | exact h.same rfl rfl rfl rfl rfl rfl rfl

theorem Device.setTap_evolves {a : Device} {d : Device} {t : Tap} (h : Evolves a d) :
    Evolves a (Device.setTap d t) := by
  unfold Device.setTap
  try dsimp only
  repeat' first
    | with_reducible exact h | with_reducible apply Device.setJtag_evolves

theorem Device.bypass_evolves {a : Device} {d : Device} (h : Evolves a d) :
    Evolves a (Device.bypass d) := by
  unfold Device.bypass
  try dsimp only
  repeat' first
    | with_reducible exact h | with_reducible apply Device.setTap_evolves

theorem Device.idcode_evolves {a : Device} {d : Device} (h : Evolves a d) :
    Evolves a (Device.idcode d) := by
  unfold Device.idcode
  try dsimp only
  repeat' first
    | with_reducible exact h | with_reducible apply Device.setTap_evolves | with_reducible apply Evolves.emit

theorem Device.chainCapture_evolves {a : Device} {d : Device} {chain : Nat} (h : Evolves a d) :
    Evolves a (Device.chainCapture d chain) := by
  unfold Device.chainCapture
  try dsimp only
  repeat' first
    | with_reducible exact h | with_reducible apply Evolves.unstated | with_reducible apply Device.setJtag_evolves
    | with_reducible apply Evolves.emit

theorem Device.samplePreload_evolves {a : Device} {chain : Nat} {d : Device} (h : Evolves a d) :
    Evolves a (Device.samplePreload chain d) := by
  unfold Device.samplePreload
  try dsimp only
  repeat' first
    | with_reducible exact h | with_reducible apply Device.setTap_evolves
    | with_reducible apply Device.chainCapture_evolves

theorem Device.extest_evolves {a : Device} {chain : Nat} {d : Device} (h : Evolves a d) :
    Evolves a (Device.extest chain d) := by
  unfold Device.extest
  try dsimp only
  repeat' first
    | with_reducible exact h | with_reducible apply Evolves.ite | with_reducible apply Device.setTap_evolves
    | with_reducible apply Device.chainCapture_evolves | with_reducible apply Evolves.emit
    | with_reducible apply Device.bypass_evolves | split

theorem Device.dapScan_evolves {a : Device} {d : Device} {v : Nat} (h : Evolves a d) :
    Evolves a (Device.dapScan d v) := by
  unfold Device.dapScan
  try dsimp only
  repeat' first
    | with_reducible exact h | with_reducible apply Device.setTap_evolves | with_reducible apply Evolves.emit
    | with_reducible apply Device.setJtag_evolves

theorem Device.setDapAbort_evolves {d₀ : Device} {d : Device} {a : Nat} (h : Evolves d₀ d) :
    Evolves d₀ (Device.setDapAbort d a) := by
  unfold Device.setDapAbort
  try dsimp only
  repeat' first
    | with_reducible exact h | with_reducible apply Device.setJtag_evolves

theorem Device.dapStore_evolves {a : Device} {d : Device} {o : Nat} {v : Bytes} (h : Evolves a d) :
    Evolves a (Device.dapStore d o v) := by
  unfold Device.dapStore
  try dsimp only
  repeat' first
    | with_reducible exact h | with_reducible assumption | with_reducible apply Evolves.foldl
    | with_reducible apply Device.setJtag_evolves | with_reducible apply Evolves.foldl2 | intro _ _ hq | intro _

theorem Device.valueIn_evolves {a : Device} {offset : Nat} {v : Nat} {d : Device} (h : Evolves a d) :
    Evolves a (Device.valueIn offset v d) := by
  unfold Device.valueIn
  try dsimp only
  repeat' first
    | with_reducible exact h | with_reducible apply Evolves.ite | with_reducible apply Device.dapScan_evolves
    | with_reducible apply Device.dapStore_evolves | with_reducible apply Device.setDapAbort_evolves | split

theorem Device.valueOut_evolves {a : Device} {offset : Nat} {d : Device} (h : Evolves a d) :
    Evolves a (Device.valueOut offset d) := by
  unfold Device.valueOut
  try dsimp only
  repeat' first
    | with_reducible exact h | with_reducible apply Evolves.ite | with_reducible apply Device.dapScan_evolves
    | with_reducible apply Device.setDapAbort_evolves | split

theorem Device.dapStatus_evolves {a : Device} {d : Device} (h : Evolves a d) :
    Evolves a (Device.dapStatus d) := by
  unfold Device.dapStatus
  try dsimp only
  repeat' first
    | with_reducible exact h | with_reducible apply Evolves.ite | with_reducible apply Device.dapScan_evolves | split

theorem Device.dapOpen_evolves {a : Device} {d : Device} (h : Evolves a d) :
    Evolves a (Device.dapOpen d) := by
  unfold Device.dapOpen
  try dsimp only
  repeat' first
    | with_reducible exact h | with_reducible apply Evolves.ite | with_reducible apply Device.dapScan_evolves
    | with_reducible apply Device.openSession_evolves | with_reducible apply Device.dapStore_evolves
    | with_reducible apply Device.setDapAbort_evolves | with_reducible apply Evolves.ite2 | split

theorem Device.dapProve_evolves {a : Device} {d : Device} (h : Evolves a d) :
    Evolves a (Device.dapProve d) := by
  unfold Device.dapProve
  try dsimp only
  repeat' first
    | with_reducible exact h | with_reducible apply Evolves.ite | with_reducible apply Device.dapScan_evolves
    | with_reducible apply Device.proveSession_evolves | with_reducible apply Device.setDapAbort_evolves
    | with_reducible apply Evolves.ite2 | split

theorem Device.dapClose_evolves {a : Device} {session : Nat} {d : Device} (h : Evolves a d) :
    Evolves a (Device.dapClose session d) := by
  unfold Device.dapClose
  try dsimp only
  repeat' first
    | with_reducible exact h | with_reducible apply Evolves.ite | with_reducible apply Device.dapScan_evolves
    | with_reducible apply Device.closeOn_evolves | with_reducible apply Device.setDapAbort_evolves
    | with_reducible apply Evolves.ite2 | split

end Sys2Proof.Machine
end

