-- ==== Sys2Proof/Laws/EvolveFirmware.lean ====
section
/-!
SUPPORT. The operations of Machine/Firmware.lean respect what every operation respects (Laws/Evolve.lean).
-/
set_option Elab.async false
set_option linter.all false
set_option linter.unusedTactic false
set_option linter.unreachableTactic false
set_option linter.style.longLine false
namespace Sys2Proof.Machine

theorem Device.setFw_evolves {a : Device} {d : Device} {x : FwX} (h : Evolves a d) :
    Evolves a (Device.setFw d x) := by
  unfold Device.setFw
  try dsimp only
  repeat' first
    | with_reducible exact h | exact h.same rfl rfl rfl rfl rfl rfl rfl

theorem Device.setAtt_evolves {a : Device} {d : Device} {x : AttX} (h : Evolves a d) :
    Evolves a (Device.setAtt d x) := by
  unfold Device.setAtt
  try dsimp only
  repeat' first
    | with_reducible exact h | exact h.same rfl rfl rfl rfl rfl rfl rfl

theorem Device.setSlot_evolves {a : Device} {d : Device} {r : Nat} {st : Nat} (h : Evolves a d) :
    Evolves a (Device.setSlot d r st) := by
  unfold Device.setSlot
  try dsimp only
  repeat' first
    | with_reducible exact h | with_reducible apply Evolves.ite | with_reducible apply Evolves.wr | split

theorem Device.setActive_evolves {a : Device} {d : Device} {s : Nat} {x : Nat} {prog : List Nat} (h : Evolves a d) :
    Evolves a (Device.setActive d s x prog) := by
  unfold Device.setActive
  try dsimp only
  repeat' first
    | with_reducible exact h | with_reducible apply Device.setPipe_evolves | with_reducible apply Evolves.wr

theorem Device.emptyShadow_evolves {a : Device} {d : Device} {s : Nat} (h : Evolves a d) :
    Evolves a (Device.emptyShadow d s) := by
  unfold Device.emptyShadow
  try dsimp only
  repeat' first
    | with_reducible exact h | with_reducible apply Device.setPipe_evolves | with_reducible apply Evolves.wr

theorem Device.loadShadow_evolves {a : Device} {d : Device} {s : Nat} {x : Nat} {prog : List Nat} (h : Evolves a d) :
    Evolves a (Device.loadShadow d s x prog) := by
  unfold Device.loadShadow
  try dsimp only
  repeat' first
    | with_reducible exact h | with_reducible apply Device.setPipe_evolves | with_reducible apply Evolves.wr

theorem Device.slotsFromFlash_evolves {a : Device} {d : Device} (h : Evolves a d) :
    Evolves a (Device.slotsFromFlash d) := by
  unfold Device.slotsFromFlash
  try dsimp only
  repeat' first
    | with_reducible exact h | with_reducible assumption | with_reducible apply Evolves.ite
    | with_reducible apply Evolves.foldl | with_reducible apply Device.setSlot_evolves | intro _ _ hq | intro _
    | split

theorem Device.slotFails_evolves {a : Device} {d : Device} {r : Nat} (h : Evolves a d) :
    Evolves a (Device.slotFails d r) := by
  unfold Device.slotFails
  try dsimp only
  repeat' first
    | with_reducible exact h | with_reducible apply Evolves.ite | with_reducible apply Device.setSlot_evolves | split

theorem Device.loadSydin_evolves {a : Device} {d : Device} (h : Evolves a d) :
    Evolves a (Device.loadSydin d) := by
  unfold Device.loadSydin
  try dsimp only
  repeat' first
    | with_reducible exact h | with_reducible apply Evolves.ite | with_reducible apply Device.setSlot_evolves
    | with_reducible apply Evolves.wr | with_reducible apply Device.slotFails_evolves | split

theorem Device.loadParser_evolves {a : Device} {d : Device} {s : Nat} (h : Evolves a d) :
    Evolves a (Device.loadParser d s) := by
  unfold Device.loadParser
  try dsimp only
  repeat' first
    | with_reducible exact h | with_reducible apply Evolves.ite | with_reducible apply Device.setActive_evolves
    | with_reducible apply Device.setSlot_evolves | with_reducible apply Device.slotFails_evolves
    | with_reducible apply Device.lapFlag_evolves | with_reducible apply Evolves.wr
    | with_reducible apply Device.fault_evolves | split

theorem Device.setMeasured_evolves {a : Device} {d : Device} {l : List Nat} (h : Evolves a d) :
    Evolves a (Device.setMeasured d l) := by
  unfold Device.setMeasured
  try dsimp only
  repeat' first
    | with_reducible exact h | with_reducible apply Device.setFw_evolves

theorem Device.measure_evolves {a : Device} {d : Device} (h : Evolves a d) :
    Evolves a (Device.measure d) := by
  unfold Device.measure
  try dsimp only
  repeat' first
    | with_reducible exact h | with_reducible assumption | with_reducible apply Evolves.elim
    | with_reducible apply Device.setMeasured_evolves | with_reducible apply Evolves.wr | intro _ _ hq | intro _
    | split

theorem Device.dropSlot3_evolves {a : Device} {d : Device} (h : Evolves a d) :
    Evolves a (Device.dropSlot3 d) := by
  unfold Device.dropSlot3
  try dsimp only
  repeat' first
    | with_reducible exact h | with_reducible assumption | with_reducible apply Evolves.foldl
    | with_reducible apply Device.zeroSlot_evolves | intro _ _ hq | intro _

theorem Device.unstage_evolves {a : Device} {d : Device} (h : Evolves a d) :
    Evolves a (Device.unstage d) := by
  unfold Device.unstage
  try dsimp only
  repeat' first
    | with_reducible exact h | with_reducible apply Evolves.ite | with_reducible apply Device.setFw_evolves
    | with_reducible apply Device.dropSlot3_evolves | split

theorem Device.slotTouched_evolves {a : Device} {d : Device} {t : Nat} (h : Evolves a d) :
    Evolves a (Device.slotTouched d t) := by
  unfold Device.slotTouched
  try dsimp only
  repeat' first
    | with_reducible exact h | with_reducible apply Evolves.ite | with_reducible apply Device.unstage_evolves | split

theorem Device.fwEraseCore_evolves {a : Device} {r : Req} {d : Device} (h : Evolves a d) :
    Evolves a (Device.fwEraseCore r d).2 := by
  unfold Device.fwEraseCore
  try dsimp only
  repeat' first
    | with_reducible exact h | with_reducible assumption | with_reducible apply Device.runCmd_evolves
    | with_reducible apply Evolves.flashErase | with_reducible apply Device.setSlot_evolves
    | with_reducible apply Device.slotTouched_evolves | intro _ _ hq | intro _

theorem Device.fwWriteCore_evolves {a : Device} {r : Req} {d : Device} (h : Evolves a d) :
    Evolves a (Device.fwWriteCore r d).2 := by
  unfold Device.fwWriteCore
  try dsimp only
  repeat' first
    | with_reducible exact h | with_reducible assumption | with_reducible apply Device.runCmd_evolves
    | with_reducible apply Device.flashWrite_evolves | with_reducible apply Device.setSlot_evolves
    | with_reducible apply Device.slotTouched_evolves | intro _ _ hq | intro _

theorem Device.fwVerifySlot_evolves {a : Device} {d : Device} {t : Nat} (h : Evolves a d) :
    Evolves a (Device.fwVerifySlot d t).2 := by
  unfold Device.fwVerifySlot
  try dsimp only
  repeat' first
    | with_reducible exact h | with_reducible apply Evolves.ite | with_reducible apply Device.setSlot_evolves
    | with_reducible apply Device.unstage_evolves | with_reducible apply Device.setFw_evolves
    | with_reducible apply Device.slotTouched_evolves | with_reducible apply Evolves.ite2 | split

theorem Device.fwVerifyCore_evolves {a : Device} {r : Req} {d : Device} (h : Evolves a d) :
    Evolves a (Device.fwVerifyCore r d).2 := by
  unfold Device.fwVerifyCore
  try dsimp only
  repeat' first
    | with_reducible exact h | with_reducible assumption | with_reducible apply Device.runCmd_evolves
    | with_reducible apply Device.fwVerifySlot_evolves | intro _ _ hq | intro _

theorem Device.preferSlot_evolves {a : Device} {d : Device} {t : Nat} (h : Evolves a d) :
    Evolves a (Device.preferSlot d t) := by
  unfold Device.preferSlot
  try dsimp only
  repeat' first
    | with_reducible exact h | with_reducible assumption | with_reducible apply Evolves.ite
    | with_reducible apply Device.flashWrite_evolves | with_reducible apply Evolves.flashPut | intro _ _ hq | intro _
    | split

theorem Device.fwPreferCore_evolves {a : Device} {r : Req} {d : Device} (h : Evolves a d) :
    Evolves a (Device.fwPreferCore r d).2 := by
  unfold Device.fwPreferCore
  try dsimp only
  repeat' first
    | with_reducible exact h | with_reducible assumption | with_reducible apply Device.runCmd_evolves
    | with_reducible apply Device.preferSlot_evolves | intro _ _ hq | intro _

theorem Device.fwDiscardCore_evolves {a : Device} {r : Req} {d : Device} (h : Evolves a d) :
    Evolves a (Device.fwDiscardCore r d).2 := by
  unfold Device.fwDiscardCore
  try dsimp only
  repeat' first
    | with_reducible exact h | with_reducible assumption | with_reducible apply Device.runCmd_evolves
    | with_reducible apply Device.unstage_evolves | intro _ _ hq | intro _

theorem Device.burnRollback_evolves {a : Device} {d : Device} {n : Nat} (h : Evolves a d) :
    Evolves a (Device.burnRollback d n) := by
  unfold Device.burnRollback
  try dsimp only
  repeat' first
    | with_reducible exact h | with_reducible apply Device.burnWords_evolves

theorem Device.failOld_evolves {a : Device} {d : Device} (h : Evolves a d) :
    Evolves a (Device.failOld d) := by
  unfold Device.failOld
  try dsimp only
  repeat' first
    | with_reducible exact h | with_reducible assumption | with_reducible apply Evolves.ite
    | with_reducible apply Evolves.foldl | with_reducible apply Device.setSlot_evolves
    | with_reducible apply Device.slotTouched_evolves | intro _ _ hq | intro _ | split

theorem Device.commitVersionCore_evolves {a : Device} {r : Req} {d : Device} (h : Evolves a d) :
    Evolves a (Device.commitVersionCore r d).2 := by
  unfold Device.commitVersionCore
  try dsimp only
  repeat' first
    | with_reducible exact h | with_reducible assumption | with_reducible apply Evolves.ite
    | with_reducible apply Evolves.elim | with_reducible apply Device.runCmd_evolves
    | with_reducible apply Device.burnRollback_evolves | with_reducible apply Device.failOld_evolves
    | with_reducible apply Evolves.ite2 | with_reducible apply Evolves.elim2 | intro _ _ hq | intro _ | split

theorem Device.burnEpoch_evolves {a : Device} {d : Device} {e : Nat} (h : Evolves a d) :
    Evolves a (Device.burnEpoch d e) := by
  unfold Device.burnEpoch
  try dsimp only
  repeat' first
    | with_reducible exact h | with_reducible apply Evolves.burnWord

theorem Device.epochStep_evolves {a : Device} {d : Device} (h : Evolves a d) :
    Evolves a (Device.epochStep d) := by
  unfold Device.epochStep
  try dsimp only
  repeat' first
    | with_reducible exact h | with_reducible assumption | with_reducible apply Evolves.ite
    | with_reducible apply Evolves.wr | with_reducible apply Device.wrBit_evolves
    | with_reducible apply Device.burnEpoch_evolves | split

theorem Device.putEvidence_evolves {a : Device} {d : Device} {row : Nat} {rcd : Bytes} (h : Evolves a d) :
    Evolves a (Device.putEvidence d row rcd) := by
  unfold Device.putEvidence
  try dsimp only
  repeat' first
    | with_reducible exact h | with_reducible assumption | with_reducible apply Evolves.foldl
    | with_reducible apply Evolves.wr | intro _ _ hq | intro _

theorem Device.signNow_evolves {a : Device} {d : Device} {row : Nat} (h : Evolves a d) :
    Evolves a (Device.signNow d row) := by
  unfold Device.signNow
  try dsimp only
  repeat' first
    | with_reducible exact h | with_reducible apply Evolves.unstated
    | with_reducible apply Device.putEvidence_evolves | with_reducible apply Device.setAtt_evolves
    | with_reducible apply Evolves.wr | with_reducible apply Device.endCmd_evolves

theorem Device.signWaiting_evolves {a : Device} {x0 : List Nat} {d : Device} (h : Evolves a d) :
    Evolves a (Device.signWaiting x0 d) := by
  induction x0 generalizing d with
  | nil =>
    unfold Device.signWaiting
    try dsimp only
    repeat' first
      | with_reducible exact h | with_reducible assumption | with_reducible apply Evolves.ite
      | with_reducible apply Device.setAtt_evolves | with_reducible apply Device.signNow_evolves | split
  | cons _ _ ih =>
    unfold Device.signWaiting
    try dsimp only
    repeat' first
      | with_reducible exact h | with_reducible apply ih | with_reducible assumption
      | with_reducible apply Evolves.ite | with_reducible apply Device.setAtt_evolves
      | with_reducible apply Device.signNow_evolves | split

theorem Device.bottomTreeBuildDone_evolves {a : Device} {d : Device} (h : Evolves a d) :
    Evolves a (Device.bottomTreeBuildDone d) := by
  unfold Device.bottomTreeBuildDone
  try dsimp only
  repeat' first
    | with_reducible exact h | with_reducible apply Evolves.ite | with_reducible apply Evolves.draw
    | with_reducible apply Device.setAtt_evolves | with_reducible apply Evolves.wr
    | with_reducible apply Device.signWaiting_evolves | with_reducible apply Evolves.ite2 | split

theorem Device.newEpoch_evolves {a : Device} {d : Device} (h : Evolves a d) :
    Evolves a (Device.newEpoch d) := by
  unfold Device.newEpoch
  try dsimp only
  repeat' first
    | with_reducible exact h | with_reducible assumption | with_reducible apply Evolves.ite
    | with_reducible apply Evolves.foldl | with_reducible apply Device.epochStep_evolves
    | with_reducible apply Device.endCmd_evolves | with_reducible apply Device.setAtt_evolves | intro _ _ hq
    | intro _ | split

theorem Device.epochRollover_evolves {a : Device} {d : Device} (h : Evolves a d) :
    Evolves a (Device.epochRollover d) := by
  unfold Device.epochRollover
  try dsimp only
  repeat' first
    | with_reducible exact h | with_reducible apply Evolves.ite | with_reducible apply Device.newEpoch_evolves
    | split

theorem Device.attSignCore_evolves {a : Device} {r : Req} {row : Nat} {d : Device} (h : Evolves a d) :
    Evolves a (Device.attSignCore r row d).2 := by
  unfold Device.attSignCore
  try dsimp only
  repeat' first
    | with_reducible exact h | with_reducible assumption | with_reducible apply Evolves.ite
    | with_reducible apply Device.runCmd_evolves | with_reducible apply Device.setAtt_evolves
    | with_reducible apply Device.signNow_evolves | with_reducible apply Evolves.ite2 | intro _ _ hq | intro _
    | split

theorem Device.attBuildTopCore_evolves {a : Device} {r : Req} {d : Device} (h : Evolves a d) :
    Evolves a (Device.attBuildTopCore r d).2 := by
  unfold Device.attBuildTopCore
  try dsimp only
  repeat' first
    | with_reducible exact h | with_reducible assumption | with_reducible apply Evolves.foldl
    | with_reducible apply Device.runCmd_evolves | with_reducible apply Device.flashWrite_evolves
    | with_reducible apply Device.burnWords_evolves | with_reducible apply Evolves.foldl2 | intro _ _ hq | intro _

theorem Device.activateHotCore_evolves {a : Device} {r : Req} {d : Device} (h : Evolves a d) :
    Evolves a (Device.activateHotCore r d).2 := by
  unfold Device.activateHotCore
  try dsimp only
  repeat' first
    | with_reducible exact h | with_reducible assumption | with_reducible apply Evolves.elim
    | with_reducible apply Device.runCmd_evolves | with_reducible apply Device.preferSlot_evolves
    | with_reducible apply Device.closeSessions_evolves | with_reducible apply Device.setFw_evolves
    | with_reducible apply Evolves.elim2 | intro _ _ hq | intro _

theorem Device.moveSlot3_evolves {a : Device} {d : Device} (h : Evolves a d) :
    Evolves a (Device.moveSlot3 d) := by
  unfold Device.moveSlot3
  try dsimp only
  repeat' first
    | with_reducible exact h | with_reducible assumption | with_reducible apply Evolves.ite
    | with_reducible apply Evolves.foldl | with_reducible apply Device.zeroSlot_evolves
    | with_reducible apply Evolves.wr | with_reducible apply Device.fillSlot_evolves | intro _ _ hq | intro _ | split

theorem Device.hotActivationDone_evolves {a : Device} {d : Device} (h : Evolves a d) :
    Evolves a (Device.hotActivationDone d) := by
  unfold Device.hotActivationDone
  try dsimp only
  repeat' first
    | with_reducible exact h | with_reducible assumption | with_reducible apply Evolves.elim
    | with_reducible apply Device.setSlot_evolves | with_reducible apply Evolves.wr
    | with_reducible apply Device.setFw_evolves | with_reducible apply Device.moveSlot3_evolves
    | with_reducible apply Device.newEpoch_evolves | with_reducible apply Device.bottomTreeBuildDone_evolves
    | with_reducible apply Device.inc32_evolves | with_reducible apply Device.endCmd_evolves | intro _ _ hq | intro _
    | split

end Sys2Proof.Machine
end

