-- ==== Sys2Proof/Laws/EvolveLifeCycle.lean ====
section
/-!
SUPPORT. The operations of Machine/LifeCycle.lean respect what every operation respects (Laws/Evolve.lean).
-/
set_option Elab.async false
set_option linter.all false
set_option linter.unusedTactic false
set_option linter.unreachableTactic false
set_option linter.style.longLine false
namespace Sys2Proof.Machine

theorem Device.setLc_evolves {a : Device} {d : Device} {x : LcX} (h : Evolves a d) :
    Evolves a (Device.setLc d x) := by
  unfold Device.setLc
  try dsimp only
  repeat' first
    | with_reducible exact h | exact h.same rfl rfl rfl rfl rfl rfl rfl

theorem Device.lcZeroize_evolves {a : Device} {d : Device} (h : Evolves a d) :
    Evolves a (Device.lcZeroize d) := by
  unfold Device.lcZeroize
  try dsimp only
  repeat' first
    | with_reducible exact h | with_reducible assumption | with_reducible apply Device.unstage_evolves
    | with_reducible apply Device.zeroAll_evolves | with_reducible apply Device.zeroPerBoot_evolves
    | with_reducible apply Device.clearBanks_evolves | with_reducible apply Device.memZero_evolves | intro _ _ hq
    | intro _

theorem Device.clsLost_evolves {a : Device} {d : Device} (h : Evolves a d) :
    Evolves a (Device.clsLost d) := by
  unfold Device.clsLost
  try dsimp only
  repeat' first
    | with_reducible exact h | with_reducible assumption | with_reducible apply Evolves.foldl
    | with_reducible apply Device.setCls_evolves | with_reducible apply Evolves.wr | intro _ _ hq | intro _

theorem Device.memContentsLost_evolves {a : Device} {d : Device} (h : Evolves a d) :
    Evolves a (Device.memContentsLost d) := by
  unfold Device.memContentsLost
  try dsimp only
  repeat' first
    | with_reducible exact h | with_reducible assumption | with_reducible apply Evolves.foldl
    | with_reducible apply Device.clsLost_evolves | with_reducible apply Device.setLaps_evolves
    | with_reducible apply Device.clearStats_evolves | intro _ _ hq | intro _

theorem Device.perBootKeys_evolves {a : Device} {d : Device} (h : Evolves a d) :
    Evolves a (Device.perBootKeys d) := by
  unfold Device.perBootKeys
  try dsimp only
  repeat' first
    | with_reducible exact h | with_reducible apply Device.drawBytes_evolves
    | with_reducible apply Device.setKeys_evolves

theorem Device.otpFieldFail_evolves {a : Device} {d : Device} {unit : Nat} (h : Evolves a d) :
    Evolves a (Device.otpFieldFail d unit) := by
  unfold Device.otpFieldFail
  try dsimp only
  repeat' first
    | with_reducible exact h | with_reducible apply Device.faultUnit_evolves

theorem Device.fillRoots_evolves {a : Device} {d : Device} (h : Evolves a d) :
    Evolves a (Device.fillRoots d) := by
  unfold Device.fillRoots
  try dsimp only
  repeat' first
    | with_reducible exact h | with_reducible apply Evolves.ite | with_reducible apply Device.fillSlot_evolves
    | with_reducible apply Device.otpFieldFail_evolves | split

theorem Device.fillSealing_evolves {a : Device} {d : Device} (h : Evolves a d) :
    Evolves a (Device.fillSealing d) := by
  unfold Device.fillSealing
  try dsimp only
  repeat' first
    | with_reducible exact h | with_reducible apply Evolves.ite | with_reducible apply Device.fillSlot_evolves
    | split

theorem Device.lcRebuildDone_evolves {a : Device} {d : Device} (h : Evolves a d) :
    Evolves a (Device.lcRebuildDone d) := by
  unfold Device.lcRebuildDone
  try dsimp only
  repeat' first
    | with_reducible exact h | with_reducible apply Evolves.ite | with_reducible apply Device.setLc_evolves
    | with_reducible apply Evolves.wr | with_reducible apply Device.seeded_evolves
    | with_reducible apply Device.perBootKeys_evolves | with_reducible apply Device.memInit_evolves
    | with_reducible apply Device.memContentsLost_evolves | with_reducible apply Device.fillRoots_evolves
    | with_reducible apply Device.fillSealing_evolves | split

theorem Device.burnMark_evolves {a : Device} {d : Device} {t : Trans} {k : Nat} (h : Evolves a d) :
    Evolves a (Device.burnMark d t k) := by
  unfold Device.burnMark
  try dsimp only
  repeat' first
    | with_reducible exact h | with_reducible apply Device.burnBits_evolves

theorem Device.burnCode_evolves {a : Device} {d : Device} {st : Nat} (h : Evolves a d) :
    Evolves a (Device.burnCode d st) := by
  unfold Device.burnCode
  try dsimp only
  repeat' first
    | with_reducible exact h | with_reducible assumption | with_reducible apply Evolves.foldl
    | with_reducible apply Device.burnBits_evolves | intro _ _ hq | intro _

theorem Device.burnDus_evolves {a : Device} {d : Device} {b : Bool} {v : Nat} (h : Evolves a d) :
    Evolves a (Device.burnDus d b v) := by
  unfold Device.burnDus
  try dsimp only
  repeat' first
    | with_reducible exact h | with_reducible apply Evolves.ite | with_reducible apply Device.burnBits_evolves
    | split

theorem Device.drawDus_evolves {a : Device} {d : Device} (h : Evolves a d) :
    Evolves a (Device.drawDus d) := by
  unfold Device.drawDus
  try dsimp only
  repeat' first
    | with_reducible exact h | with_reducible apply Device.drawBytes_evolves
    | with_reducible apply Device.burnDus_evolves

theorem Device.burnSealValues_evolves {a : Device} {d : Device} (h : Evolves a d) :
    Evolves a (Device.burnSealValues d) := by
  unfold Device.burnSealValues
  try dsimp only
  repeat' first
    | with_reducible exact h | with_reducible apply Device.burnBits_evolves

theorem Device.burnOwnerField_evolves {a : Device} {d : Device} (h : Evolves a d) :
    Evolves a (Device.burnOwnerField d) := by
  unfold Device.burnOwnerField
  try dsimp only
  repeat' first
    | with_reducible exact h | with_reducible apply Device.burnBits_evolves

theorem Device.eraseOwner_evolves {a : Device} {d : Device} (h : Evolves a d) :
    Evolves a (Device.eraseOwner d) := by
  unfold Device.eraseOwner
  try dsimp only
  repeat' first
    | with_reducible exact h | with_reducible apply Device.burnBits_evolves

theorem Device.eraseDus_evolves {a : Device} {d : Device} (h : Evolves a d) :
    Evolves a (Device.eraseDus d) := by
  unfold Device.eraseDus
  try dsimp only
  repeat' first
    | with_reducible exact h | with_reducible apply Device.burnBits_evolves

theorem Device.transStep_evolves {a : Device} {d : Device} {t : Trans} {k : Nat} (h : Evolves a d) :
    Evolves a (Device.transStep d t k) := by
  unfold Device.transStep
  try dsimp only
  repeat' first
    | with_reducible exact h | with_reducible assumption | with_reducible apply Evolves.ite
    | with_reducible apply Device.lcZeroize_evolves | with_reducible apply Device.burnCode_evolves
    | with_reducible apply Device.burnSealValues_evolves | with_reducible apply Device.drawDus_evolves
    | with_reducible apply Device.burnOwnerField_evolves | with_reducible apply Device.eraseOwner_evolves
    | with_reducible apply Device.eraseDus_evolves | with_reducible apply Device.burnBits_evolves | split

theorem Device.runSteps_evolves {a : Device} {t : Trans} {x0 : Nat} {x1 : Nat} {d : Device} (h : Evolves a d) :
    Evolves a (Device.runSteps t x0 x1 d) := by
  induction x0 generalizing x1 d with
  | zero =>
    unfold Device.runSteps
    try dsimp only
    repeat' first
      | with_reducible exact h | with_reducible assumption | with_reducible apply Device.burnMark_evolves
      | with_reducible apply Device.transStep_evolves | split
  | succ _ ih =>
    unfold Device.runSteps
    try dsimp only
    repeat' first
      | with_reducible exact h | with_reducible apply ih | with_reducible assumption
      | with_reducible apply Device.burnMark_evolves | with_reducible apply Device.transStep_evolves | split

theorem Device.showState_evolves {a : Device} {d : Device} {st : Nat} (h : Evolves a d) :
    Evolves a (Device.showState d st) := by
  unfold Device.showState
  try dsimp only
  repeat' first
    | with_reducible exact h | with_reducible apply Evolves.ite | with_reducible apply Evolves.wr | split

theorem Device.runTrans_evolves {a : Device} {d : Device} {t : Trans} (h : Evolves a d) :
    Evolves a (Device.runTrans d t) := by
  unfold Device.runTrans
  try dsimp only
  repeat' first
    | with_reducible exact h | with_reducible apply Device.runSteps_evolves
    | with_reducible apply Device.setLc_evolves | with_reducible apply Evolves.wr

theorem Device.resumeDus_evolves {a : Device} {d : Device} (h : Evolves a d) :
    Evolves a (Device.resumeDus d).2 := by
  unfold Device.resumeDus
  try dsimp only
  repeat' first
    | with_reducible exact h | with_reducible apply Evolves.ite | with_reducible apply Device.drawBytes_evolves
    | with_reducible apply Device.burnDus_evolves | with_reducible apply Evolves.ite2 | split

theorem Device.resumeTrans_evolves {a : Device} {d : Device} {t : Trans} (h : Evolves a d) :
    Evolves a (Device.resumeTrans d t) := by
  unfold Device.resumeTrans
  try dsimp only
  repeat' first
    | with_reducible exact h | with_reducible apply Evolves.ite | with_reducible apply Evolves.wr
    | with_reducible apply Device.wrBit_evolves | with_reducible apply Device.resumeDus_evolves
    | with_reducible apply Device.runSteps_evolves | with_reducible apply Device.transStep_evolves
    | with_reducible apply Device.burnMark_evolves | with_reducible apply Evolves.ite2 | split

theorem Device.voteLc_evolves {a : Device} {d : Device} (h : Evolves a d) :
    Evolves a (Device.voteLc d) := by
  unfold Device.voteLc
  try dsimp only
  repeat' first
    | with_reducible exact h | with_reducible assumption | with_reducible apply Evolves.ite
    | with_reducible apply Evolves.wr | with_reducible apply Device.note_evolves | split

theorem Device.bootLc_evolves {a : Device} {d : Device} (h : Evolves a d) :
    Evolves a (Device.bootLc d) := by
  unfold Device.bootLc
  try dsimp only
  repeat' first
    | with_reducible exact h | with_reducible assumption | with_reducible apply Evolves.foldl
    | with_reducible apply Device.resumeTrans_evolves | with_reducible apply Device.voteLc_evolves | intro _ _ hq
    | intro _

theorem Device.lcArgsZero_evolves {a : Device} {d : Device} (h : Evolves a d) :
    Evolves a (Device.lcArgsZero d) := by
  unfold Device.lcArgsZero
  try dsimp only
  repeat' first
    | with_reducible exact h | with_reducible apply Device.wrCmd_evolves

theorem Device.transBody_evolves {a : Device} {t : Trans} {d : Device} (h : Evolves a d) :
    Evolves a (Device.transBody t d).2 := by
  unfold Device.transBody
  try dsimp only
  repeat' first
    | with_reducible exact h | with_reducible apply Device.runTrans_evolves
    | with_reducible apply Device.lcArgsZero_evolves

theorem Device.sealTestCore_evolves {a : Device} {r : Req} {d : Device} (h : Evolves a d) :
    Evolves a (Device.sealTestCore r d).2 := by
  unfold Device.sealTestCore
  try dsimp only
  repeat' first
    | with_reducible exact h | with_reducible assumption | with_reducible apply Device.runCmd_evolves
    | with_reducible apply Device.transBody_evolves | intro _ _ hq | intro _

theorem Device.personalizeCore_evolves {a : Device} {r : Req} {d : Device} (h : Evolves a d) :
    Evolves a (Device.personalizeCore r d).2 := by
  unfold Device.personalizeCore
  try dsimp only
  repeat' first
    | with_reducible exact h | with_reducible assumption | with_reducible apply Device.runCmd_evolves
    | with_reducible apply Device.transBody_evolves | intro _ _ hq | intro _

theorem Device.takeOwnershipCore_evolves {a : Device} {r : Req} {d : Device} (h : Evolves a d) :
    Evolves a (Device.takeOwnershipCore r d).2 := by
  unfold Device.takeOwnershipCore
  try dsimp only
  repeat' first
    | with_reducible exact h | with_reducible assumption | with_reducible apply Device.runCmd_evolves
    | with_reducible apply Device.transBody_evolves | intro _ _ hq | intro _

theorem Device.lcReturnCore_evolves {a : Device} {r : Req} {d : Device} (h : Evolves a d) :
    Evolves a (Device.lcReturnCore r d).2 := by
  unfold Device.lcReturnCore
  try dsimp only
  repeat' first
    | with_reducible exact h | with_reducible assumption | with_reducible apply Device.runCmd_evolves
    | with_reducible apply Device.transBody_evolves | intro _ _ hq | intro _

theorem Device.scrapCore_evolves {a : Device} {r : Req} {d : Device} (h : Evolves a d) :
    Evolves a (Device.scrapCore r d).2 := by
  unfold Device.scrapCore
  try dsimp only
  repeat' first
    | with_reducible exact h | with_reducible assumption | with_reducible apply Evolves.ite
    | with_reducible apply Device.runCmd_evolves | with_reducible apply Device.transBody_evolves
    | with_reducible apply Evolves.ite2 | intro _ _ hq | intro _ | split

theorem Device.unlockWith_evolves {a : Device} {d : Device} {n : Nat} (h : Evolves a d) :
    Evolves a (Device.unlockWith d n) := by
  unfold Device.unlockWith
  try dsimp only
  repeat' first
    | with_reducible exact h | with_reducible apply Device.lcZeroize_evolves
    | with_reducible apply Device.burnBits_evolves | with_reducible apply Device.setLc_evolves
    | with_reducible apply Evolves.wr

theorem Device.unlockCore_evolves {a : Device} {r : Req} {d : Device} (h : Evolves a d) :
    Evolves a (Device.unlockCore r d).2 := by
  unfold Device.unlockCore
  try dsimp only
  repeat' first
    | with_reducible exact h | with_reducible assumption | with_reducible apply Evolves.ite
    | with_reducible apply Evolves.elim | with_reducible apply Device.runCmd_evolves
    | with_reducible apply Device.unlockWith_evolves | with_reducible apply Device.lcArgsZero_evolves
    | with_reducible apply Device.note_evolves | with_reducible apply Evolves.ite2
    | with_reducible apply Evolves.elim2 | intro _ _ hq | intro _ | split

theorem Device.rmaUnlockCore_evolves {a : Device} {r : Req} {d : Device} (h : Evolves a d) :
    Evolves a (Device.rmaUnlockCore r d).2 := by
  unfold Device.rmaUnlockCore
  try dsimp only
  repeat' first
    | with_reducible exact h | with_reducible assumption | with_reducible apply Device.runCmd_evolves
    | with_reducible apply Evolves.wr | with_reducible apply Device.lcArgsZero_evolves | intro _ _ hq | intro _

theorem Device.dbgSramReadCore_evolves {a : Device} {r : Req} {row : Nat} {uncorr : Bool} {d : Device} (h : Evolves a d) :
    Evolves a (Device.dbgSramReadCore r row uncorr d).2 := by
  unfold Device.dbgSramReadCore
  try dsimp only
  repeat' first
    | with_reducible exact h | with_reducible assumption | with_reducible apply Evolves.ite
    | with_reducible apply Device.runCmd_evolves | with_reducible apply Evolves.wr
    | with_reducible apply Evolves.unstated | with_reducible apply Evolves.ite2 | intro _ _ hq | intro _ | split

end Sys2Proof.Machine
end

