-- ==== Sys2Proof/Laws/EvolvePorts.lean ====
section
/-!
SUPPORT. The operations of Machine/Ports.lean respect what every operation respects (Laws/Evolve.lean).
-/
set_option Elab.async false
set_option linter.all false
set_option linter.unusedTactic false
set_option linter.unreachableTactic false
set_option linter.style.longLine false
namespace Sys2Proof.Machine

theorem Device.cutPort_evolves {a : Device} {d : Device} {p : Nat} (h : Evolves a d) :
    Evolves a (Device.cutPort d p) := by
  unfold Device.cutPort
  try dsimp only
  repeat' first
    | with_reducible exact h | with_reducible assumption | with_reducible apply Evolves.foldl
    | with_reducible apply Device.stopFrame_evolves | intro _ _ hq | intro _

theorem Device.resignal_evolves {a : Device} {sent : Nat → Bool} {d : Device} {p : Nat} (h : Evolves a d) :
    Evolves a (Device.resignal sent d p) := by
  unfold Device.resignal
  try dsimp only
  repeat' first
    | with_reducible exact h | with_reducible apply Evolves.ite | with_reducible apply Device.muteWindow_evolves
    | with_reducible apply Device.cutPort_evolves | with_reducible apply Device.setHolds_evolves | split

theorem Device.withSignals_evolves {a : Device} {f : Device → Device} {d : Device} (h : Evolves a d)
    (hf : ∀ x, Evolves a x → Evolves a (f x)) : Evolves a (Device.withSignals f d) := by
  unfold Device.withSignals
  exact Evolves.foldl (hf _ h) (fun _ _ hq => Device.resignal_evolves hq)
theorem Device.setLink_evolves {a : Device} {d : Device} {p : Nat} {code : Nat} (h : Evolves a d) :
    Evolves a (Device.setLink d p code) := by
  unfold Device.setLink
  try dsimp only
  repeat' first
    | with_reducible exact h | with_reducible apply Evolves.ite | with_reducible apply Evolves.wr
    | with_reducible apply Device.inc64_evolves | with_reducible apply Device.noteRow_evolves | split

theorem Device.receive_evolves {a : Device} {d : Device} {p : Nat} {rx : RxState} (h : Evolves a d) :
    Evolves a (Device.receive d p rx) := by
  unfold Device.receive
  try dsimp only
  repeat' first
    | with_reducible exact h | with_reducible apply Evolves.ite | with_reducible apply Device.setPort_evolves
    | with_reducible apply Device.inc64_evolves | with_reducible apply Device.setLink_evolves | split

theorem Device.portLinkChange_evolves {a : Device} {p : Nat} {rx : RxState} {d : Device} (h : Evolves a d) :
    Evolves a (Device.portLinkChange p rx d) := by
  unfold Device.portLinkChange
  try dsimp only
  repeat' first
    | with_reducible exact h | with_reducible assumption | with_reducible apply Evolves.ite
    | with_reducible apply Device.withSignals_evolves | with_reducible apply Device.receive_evolves | intro _ _ hq
    | intro _ | split

theorem Device.setAcq_evolves {a : Device} {d : Device} {l : Nat} {n : Nat} (h : Evolves a d) :
    Evolves a (Device.setAcq d l n) := by
  unfold Device.setAcq
  try dsimp only
  repeat' first
    | with_reducible exact h | exact h.same rfl rfl rfl rfl rfl rfl rfl

theorem Device.acquire_evolves {a : Device} {d : Device} {l : Nat} (h : Evolves a d) :
    Evolves a (Device.acquire d l) := by
  unfold Device.acquire
  try dsimp only
  repeat' first
    | with_reducible exact h | with_reducible apply Evolves.ite | with_reducible apply Evolves.wr
    | with_reducible apply Device.setAcq_evolves | split

theorem Device.laneFollow_evolves {a : Device} {d : Device} {l : Nat} (h : Evolves a d) :
    Evolves a (Device.laneFollow d l) := by
  unfold Device.laneFollow
  try dsimp only
  repeat' first
    | with_reducible exact h | with_reducible apply Evolves.ite | with_reducible apply Device.acquire_evolves | split

theorem Device.laneSignalDetect_evolves {a : Device} {l : Nat} {d : Device} (h : Evolves a d) :
    Evolves a (Device.laneSignalDetect l d) := by
  unfold Device.laneSignalDetect
  try dsimp only
  repeat' first
    | with_reducible exact h | with_reducible apply Evolves.ite | with_reducible apply Evolves.wr
    | with_reducible apply Device.laneFollow_evolves | split

theorem Device.laneAcquisitionDone_evolves {a : Device} {l : Nat} {d : Device} (h : Evolves a d) :
    Evolves a (Device.laneAcquisitionDone l d) := by
  unfold Device.laneAcquisitionDone
  try dsimp only
  repeat' first
    | with_reducible exact h | with_reducible apply Evolves.ite | with_reducible apply Evolves.unstated
    | with_reducible apply Evolves.wr | with_reducible apply Evolves.ite2 | split

theorem Device.laneAcquisitionTimeout_evolves {a : Device} {l : Nat} {d : Device} (h : Evolves a d) :
    Evolves a (Device.laneAcquisitionTimeout l d) := by
  unfold Device.laneAcquisitionTimeout
  try dsimp only
  repeat' first
    | with_reducible exact h | with_reducible apply Evolves.ite | with_reducible apply Device.passTo_evolves
    | with_reducible apply Device.setAcq_evolves | split

theorem Device.laneSignalLoss_evolves {a : Device} {l : Nat} {d : Device} (h : Evolves a d) :
    Evolves a (Device.laneSignalLoss l d) := by
  unfold Device.laneSignalLoss
  try dsimp only
  repeat' first
    | with_reducible exact h | with_reducible apply Evolves.ite | with_reducible apply Evolves.wr
    | with_reducible apply Device.laneFollow_evolves | split

theorem Device.setFec_evolves {a : Device} {d : Device} {p : Nat} {sec : Nat} {n : Nat} {raised : Bool} (h : Evolves a d) :
    Evolves a (Device.setFec d p sec n raised) := by
  unfold Device.setFec
  try dsimp only
  repeat' first
    | with_reducible exact h | with_reducible apply Device.setPort_evolves

theorem Device.fecUncorrLimit_evolves {a : Device} {p : Nat} {codewords : Nat} {d : Device} (h : Evolves a d) :
    Evolves a (Device.fecUncorrLimit p codewords d) := by
  unfold Device.fecUncorrLimit
  try dsimp only
  repeat' first
    | with_reducible exact h | with_reducible apply Evolves.ite | with_reducible apply Device.add64_evolves
    | with_reducible apply Device.setFec_evolves | with_reducible apply Device.faultUnit_evolves | split

theorem Device.pauseClass_evolves {a : Device} {until_ : Nat} {p : Nat} {d : Device} {c : Nat} (h : Evolves a d) :
    Evolves a (Device.pauseClass until_ p d c) := by
  unfold Device.pauseClass
  try dsimp only
  repeat' first
    | with_reducible exact h | with_reducible apply Device.setPort_evolves | with_reducible apply Evolves.wr

theorem Device.takePause_evolves {a : Device} {d : Device} {p : Nat} {c : Nat} {count : Nat} {quanta : Nat} (h : Evolves a d) :
    Evolves a (Device.takePause d p c count quanta) := by
  unfold Device.takePause
  try dsimp only
  repeat' first
    | with_reducible exact h | with_reducible apply Evolves.ite | with_reducible apply Device.inc64_evolves
    | with_reducible apply Device.pauseClass_evolves | split

theorem Device.macControlRx_evolves {a : Device} {p : Nat} {data : Bytes} {d : Device} (h : Evolves a d) :
    Evolves a (Device.macControlRx p data d) := by
  unfold Device.macControlRx
  try dsimp only
  repeat' first
    | with_reducible exact h | with_reducible assumption | with_reducible apply Evolves.ite
    | with_reducible apply Evolves.foldl | with_reducible apply Device.takePause_evolves
    | with_reducible apply Device.inc64_evolves | intro _ _ hq | intro _ | split

theorem Device.pauseExpiry_evolves {a : Device} {p : Nat} {c : Nat} {d : Device} (h : Evolves a d) :
    Evolves a (Device.pauseExpiry p c d) := by
  unfold Device.pauseExpiry
  try dsimp only
  repeat' first
    | with_reducible exact h | with_reducible apply Evolves.ite | with_reducible apply Device.passTo_evolves
    | with_reducible apply Device.pauseClass_evolves | split

theorem Device.xoffRefresh_evolves {a : Device} {p : Nat} {d : Device} (h : Evolves a d) :
    Evolves a (Device.xoffRefresh p d) := by
  unfold Device.xoffRefresh
  try dsimp only
  repeat' first
    | with_reducible exact h | with_reducible assumption | with_reducible apply Evolves.foldl
    | with_reducible apply Device.passTo_evolves | with_reducible apply Device.stageHolds_evolves
    | with_reducible apply Device.sendFlow_evolves | intro _ _ hq | intro _ | split

theorem Device.portRecalArmCore_evolves {a : Device} {r : Req} {p : Nat} {d : Device} (h : Evolves a d) :
    Evolves a (Device.portRecalArmCore r p d).2 := by
  unfold Device.portRecalArmCore
  try dsimp only
  repeat' first
    | with_reducible exact h | with_reducible assumption | with_reducible apply Evolves.elim
    | with_reducible apply Device.runCmd_evolves | with_reducible apply Evolves.wr
    | with_reducible apply Device.gunTake_evolves | with_reducible apply Evolves.elim2 | intro _ _ hq | intro _

theorem Device.portRecalCancelCore_evolves {a : Device} {r : Req} {p : Nat} {d : Device} (h : Evolves a d) :
    Evolves a (Device.portRecalCancelCore r p d).2 := by
  unfold Device.portRecalCancelCore
  try dsimp only
  repeat' first
    | with_reducible exact h | with_reducible assumption | with_reducible apply Evolves.elim
    | with_reducible apply Device.runCmd_evolves | with_reducible apply Device.gunCancel_evolves
    | with_reducible apply Evolves.wr | with_reducible apply Evolves.elim2 | intro _ _ hq | intro _

theorem Device.setWindow_evolves {a : Device} {d : Device} {p : Nat} {at_ : Nat} {frozen : Bool} (h : Evolves a d) :
    Evolves a (Device.setWindow d p at_ frozen) := by
  unfold Device.setWindow
  try dsimp only
  repeat' first
    | with_reducible exact h | with_reducible apply Device.setPort_evolves

theorem Device.recalOpen_evolves {a : Device} {d : Device} {p : Nat} (h : Evolves a d) :
    Evolves a (Device.recalOpen d p) := by
  unfold Device.recalOpen
  try dsimp only
  repeat' first
    | with_reducible exact h | with_reducible assumption | with_reducible apply Evolves.ite
    | with_reducible apply Device.withSignals_evolves | with_reducible apply Evolves.wr
    | with_reducible apply Device.setWindow_evolves | with_reducible apply Device.setLink_evolves
    | with_reducible apply Device.setHolds_evolves | intro _ _ hq | intro _ | split

theorem Device.recalCancelled_evolves {a : Device} {d : Device} {p : Nat} (h : Evolves a d) :
    Evolves a (Device.recalCancelled d p) := by
  unfold Device.recalCancelled
  try dsimp only
  repeat' first
    | with_reducible exact h | with_reducible apply Evolves.wr | with_reducible apply Device.noteRow_evolves

theorem Device.adaptTo_evolves {a : Device} {d : Device} {st : Nat} {l : Nat} (h : Evolves a d) :
    Evolves a (Device.adaptTo d st l) := by
  unfold Device.adaptTo
  try dsimp only
  repeat' first
    | with_reducible exact h | with_reducible apply Evolves.ite | with_reducible apply Evolves.wr | split

theorem Device.receiverFreeze_evolves {a : Device} {p : Nat} {cut : Option Nat} {d : Device} (h : Evolves a d) :
    Evolves a (Device.receiverFreeze p cut d) := by
  unfold Device.receiverFreeze
  try dsimp only
  repeat' first
    | with_reducible exact h | with_reducible assumption | with_reducible apply Evolves.ite
    | with_reducible apply Evolves.elim | with_reducible apply Evolves.foldl
    | with_reducible apply Device.passTo_evolves | with_reducible apply Device.setWindow_evolves
    | with_reducible apply Device.adaptTo_evolves | with_reducible apply Device.setAcq_evolves
    | with_reducible apply Device.inc64_evolves | with_reducible apply Device.cutReception_evolves | intro _ _ hq
    | intro _ | split

theorem Device.recalEnd_evolves {a : Device} {d : Device} {p : Nat} {state : Nat} {rx : RxState} {adapt : Nat} (h : Evolves a d) :
    Evolves a (Device.recalEnd d p state rx adapt) := by
  unfold Device.recalEnd
  try dsimp only
  repeat' first
    | with_reducible exact h | with_reducible assumption | with_reducible apply Evolves.foldl
    | with_reducible apply Device.withSignals_evolves | with_reducible apply Evolves.wr
    | with_reducible apply Device.setPort_evolves | with_reducible apply Device.adaptTo_evolves
    | with_reducible apply Device.setLink_evolves | with_reducible apply Device.setHolds_evolves | intro _ _ hq
    | intro _

theorem Device.recalAlignmentRegained_evolves {a : Device} {p : Nat} {rx : RxState} {d : Device} (h : Evolves a d) :
    Evolves a (Device.recalAlignmentRegained p rx d) := by
  unfold Device.recalAlignmentRegained
  try dsimp only
  repeat' first
    | with_reducible exact h | with_reducible apply Evolves.ite | with_reducible apply Device.recalEnd_evolves
    | split

theorem Device.recalTimeout_evolves {a : Device} {p : Nat} {d : Device} (h : Evolves a d) :
    Evolves a (Device.recalTimeout p d) := by
  unfold Device.recalTimeout
  try dsimp only
  repeat' first
    | with_reducible exact h | with_reducible apply Evolves.ite | with_reducible apply Device.passTo_evolves
    | with_reducible apply Device.recalEnd_evolves | with_reducible apply Device.faultUnit_evolves | split

end Sys2Proof.Machine
end

