-- ==== Sys2Proof/Laws/EvolveMonitors.lean ====
section
/-!
SUPPORT. The operations of Machine/Monitors.lean respect what every operation respects (Laws/Evolve.lean).
-/
set_option Elab.async false
set_option linter.all false
set_option linter.unusedTactic false
set_option linter.unreachableTactic false
set_option linter.style.longLine false
namespace Sys2Proof.Machine

theorem Device.setMon_evolves {a : Device} {d : Device} {x : MonX} (h : Evolves a d) :
    Evolves a (Device.setMon d x) := by
  unfold Device.setMon
  try dsimp only
  repeat' first
    | with_reducible exact h | exact h.same rfl rfl rfl rfl rfl rfl rfl

theorem Device.tamperShared_evolves {a : Device} {d : Device} {seq : Nat} (h : Evolves a d) :
    Evolves a (Device.tamperShared d seq) := by
  unfold Device.tamperShared
  try dsimp only
  repeat' first
    | with_reducible exact h | with_reducible apply Evolves.ite | with_reducible apply Evolves.wr | split

theorem Device.tamperStore_evolves {a : Device} {d : Device} {ch : Nat} {kind : Nat} {e : Bytes} (h : Evolves a d) :
    Evolves a (Device.tamperStore d ch kind e) := by
  unfold Device.tamperStore
  try dsimp only
  repeat' first
    | with_reducible exact h | with_reducible assumption | with_reducible apply Evolves.ite
    | with_reducible apply Evolves.elim | with_reducible apply Device.tamperShared_evolves
    | with_reducible apply Device.setMon_evolves | with_reducible apply Device.inc32_evolves
    | with_reducible apply Evolves.wr | intro _ _ hq | intro _ | split

theorem Device.tamperEntry_evolves {a : Device} {d : Device} {ch : Nat} {kind : Nat} {flags : Nat} {count : Nat} {tail : Bytes} (h : Evolves a d) :
    Evolves a (Device.tamperEntry d ch kind flags count tail) := by
  unfold Device.tamperEntry
  try dsimp only
  repeat' first
    | with_reducible exact h | with_reducible apply Device.tamperStore_evolves
    | with_reducible apply Device.ringEvent_evolves

theorem Device.tamperBoot_evolves {a : Device} {d : Device} (h : Evolves a d) :
    Evolves a (Device.tamperBoot d) := by
  unfold Device.tamperBoot
  try dsimp only
  repeat' first
    | with_reducible exact h | with_reducible apply Device.tamperEntry_evolves

theorem Device.tamperTimeSet_evolves {a : Device} {d : Device} {before : Nat} (h : Evolves a d) :
    Evolves a (Device.tamperTimeSet d before) := by
  unfold Device.tamperTimeSet
  try dsimp only
  repeat' first
    | with_reducible exact h | with_reducible apply Device.tamperEntry_evolves

theorem Device.sawBeyond_evolves {a : Device} {d : Device} {ch : Nat} {region : Nat} {region2 : Nat} (h : Evolves a d) :
    Evolves a (Device.sawBeyond d ch region region2) := by
  unfold Device.sawBeyond
  try dsimp only
  repeat' first
    | with_reducible exact h | with_reducible assumption | with_reducible apply Device.setMon_evolves | intro _ _ hq
    | intro _

theorem Device.monSettled_evolves {a : Device} {d : Device} {ch : Nat} (h : Evolves a d) :
    Evolves a (Device.monSettled d ch) := by
  unfold Device.monSettled
  try dsimp only
  repeat' first
    | with_reducible exact h | with_reducible assumption | with_reducible apply Evolves.ite
    | with_reducible apply Device.passTo_evolves | with_reducible apply Evolves.ite2 | intro _ _ hq | intro _ | split

theorem Device.setSrcState_evolves {a : Device} {d : Device} {src : Nat} {v : Nat} (h : Evolves a d) :
    Evolves a (Device.setSrcState d src v) := by
  unfold Device.setSrcState
  try dsimp only
  repeat' first
    | with_reducible exact h | with_reducible apply Evolves.ite | with_reducible apply Evolves.wr | split

theorem Device.envEvent_evolves {a : Device} {d : Device} {ch : Nat} {value : Int} {region : Nat} {region2 : Nat} (h : Evolves a d) :
    Evolves a (Device.envEvent d ch value region region2) := by
  unfold Device.envEvent
  try dsimp only
  repeat' first
    | with_reducible exact h | with_reducible apply Evolves.ite | with_reducible apply Device.tamperEntry_evolves
    | with_reducible apply Device.setSrcState_evolves | with_reducible apply Device.fault_evolves | split

theorem Device.tamperEvent_evolves {a : Device} {d : Device} {ch : Nat} (h : Evolves a d) :
    Evolves a (Device.tamperEvent d ch) := by
  unfold Device.tamperEvent
  try dsimp only
  repeat' first
    | with_reducible exact h | with_reducible apply Evolves.ite | with_reducible apply Device.setMon_evolves
    | with_reducible apply Device.tamperEntry_evolves | with_reducible apply Evolves.wr | split

theorem Device.monitorEvent_evolves {a : Device} {ch : Nat} {value : Int} {region : Nat} {region2 : Nat} {d : Device} (h : Evolves a d) :
    Evolves a (Device.monitorEvent ch value region region2 d) := by
  unfold Device.monitorEvent
  try dsimp only
  repeat' first
    | with_reducible exact h | with_reducible apply Evolves.ite | with_reducible apply Evolves.wr
    | with_reducible apply Device.sawBeyond_evolves | with_reducible apply Device.inc64_evolves
    | with_reducible apply Device.envEvent_evolves | with_reducible apply Device.tamperEvent_evolves | split

theorem Device.monitorRearm_evolves {a : Device} {ch : Nat} {value : Int} {d : Device} (h : Evolves a d) :
    Evolves a (Device.monitorRearm ch value d) := by
  unfold Device.monitorRearm
  try dsimp only
  repeat' first
    | with_reducible exact h | with_reducible apply Evolves.ite | with_reducible apply Device.monSettled_evolves
    | with_reducible apply Evolves.wr | with_reducible apply Device.setSrcState_evolves
    | with_reducible apply Device.tamperEntry_evolves | split

theorem Device.thermNAssert_evolves {a : Device} {temp : Int} {d : Device} (h : Evolves a d) :
    Evolves a (Device.thermNAssert temp d) := by
  unfold Device.thermNAssert
  try dsimp only
  repeat' first
    | with_reducible exact h | with_reducible apply Evolves.ite | with_reducible apply Device.setPins_evolves
    | with_reducible apply Evolves.emit | split

end Sys2Proof.Machine
end

