-- ==== Sys2Proof/Laws/EvolveLaps.lean ====
section
/-!
SUPPORT. The operations of Machine/Laps.lean respect what every operation respects (Laws/Evolve.lean).
-/
set_option Elab.async false
set_option linter.all false
set_option linter.unusedTactic false
set_option linter.unreachableTactic false
set_option linter.style.longLine false
namespace Sys2Proof.Machine

theorem Device.lapArm_evolves {a : Device} {t : Nat} {d : Device} (h : Evolves a d) :
    Evolves a (Device.lapArm t d) := by
  unfold Device.lapArm
  try dsimp only
  repeat' first
    | with_reducible exact h | with_reducible assumption | with_reducible apply Evolves.elim
    | with_reducible apply Device.setLaps_evolves | with_reducible apply Device.gunTake_evolves | intro _ _ hq
    | intro _

theorem Device.lapDrop_evolves {a : Device} {d : Device} {e : Nat} (h : Evolves a d) :
    Evolves a (Device.lapDrop d e) := by
  unfold Device.lapDrop
  try dsimp only
  repeat' first
    | with_reducible exact h | with_reducible apply Evolves.ite | with_reducible apply Device.gunCancel_evolves
    | split

theorem Device.lapReconcile_evolves {a : Device} {d : Device} {start : Nat} (h : Evolves a d) :
    Evolves a (Device.lapReconcile d start) := by
  unfold Device.lapReconcile
  try dsimp only
  repeat' first
    | with_reducible exact h | with_reducible assumption | with_reducible apply Evolves.ite
    | with_reducible apply Evolves.foldl | with_reducible apply Device.lapDrop_evolves
    | with_reducible apply Device.lapArm_evolves | intro _ _ hq | intro _ | split

theorem Device.lapRetime_evolves {a : Device} {d : Device} (h : Evolves a d) :
    Evolves a (Device.lapRetime d) := by
  unfold Device.lapRetime
  try dsimp only
  repeat' first
    | with_reducible exact h | with_reducible apply Device.lapReconcile_evolves

theorem Device.lapDir_evolves {a : Device} {d : Device} {c : ClosedLap} (h : Evolves a d) :
    Evolves a (Device.lapDir d c) := by
  unfold Device.lapDir
  try dsimp only
  repeat' first
    | with_reducible exact h | with_reducible apply Evolves.wr

theorem Device.lapForget_evolves {a : Device} {d : Device} {r : Nat} (h : Evolves a d) :
    Evolves a (Device.lapForget d r) := by
  unfold Device.lapForget
  try dsimp only
  repeat' first
    | with_reducible exact h | with_reducible assumption | with_reducible apply Evolves.foldl
    | with_reducible apply Evolves.wr | intro _ _ hq | intro _

theorem Device.lapAge_evolves {a : Device} {d : Device} {n : Nat} (h : Evolves a d) :
    Evolves a (Device.lapAge d n) := by
  unfold Device.lapAge
  try dsimp only
  repeat' first
    | with_reducible exact h | with_reducible apply Evolves.ite | with_reducible apply Evolves.wr
    | with_reducible apply Device.lapForget_evolves | split

theorem Device.lapPut_evolves {a : Device} {d : Device} {k : Nat} {c : LapCnt} (h : Evolves a d) :
    Evolves a (Device.lapPut d k c) := by
  unfold Device.lapPut
  try dsimp only
  repeat' first
    | with_reducible exact h | with_reducible assumption | with_reducible apply Device.setLaps_evolves | intro _ _ hq
    | intro _

theorem Device.lapHead_evolves {a : Device} {c : ClosedLap} {d : Device} (h : Evolves a d) :
    Evolves a (Device.lapHead c d) := by
  unfold Device.lapHead
  try dsimp only
  repeat' first
    | with_reducible exact h | with_reducible apply Device.lapPut_evolves

theorem Device.lapStore_evolves {a : Device} {c : ClosedLap} {d : Device} {q : Nat} (h : Evolves a d) :
    Evolves a (Device.lapStore c d q) := by
  unfold Device.lapStore
  try dsimp only
  repeat' first
    | with_reducible exact h | with_reducible assumption | with_reducible apply Evolves.ite
    | with_reducible apply Device.fullLine_evolves | with_reducible apply Device.lapPut_evolves
    | with_reducible apply Evolves.ite2 | intro _ _ hq | intro _ | split

theorem Device.lapWritebackDone_evolves {a : Device} {d : Device} (h : Evolves a d) :
    Evolves a (Device.lapWritebackDone d) := by
  unfold Device.lapWritebackDone
  try dsimp only
  repeat' first
    | with_reducible exact h | with_reducible assumption | with_reducible apply Evolves.foldl
    | with_reducible apply Device.lapStore_evolves | with_reducible apply Device.lapHead_evolves
    | with_reducible apply Device.setLaps_evolves | with_reducible apply Device.lapDir_evolves
    | with_reducible apply Device.lapAge_evolves | with_reducible apply Evolves.wr | intro _ _ hq | intro _ | split

theorem Device.lapClose_evolves {a : Device} {d : Device} {tag : Nat} {leap : Nat} (h : Evolves a d) :
    Evolves a (Device.lapClose d tag leap) := by
  unfold Device.lapClose
  try dsimp only
  repeat' first
    | with_reducible exact h | with_reducible apply Device.lapWritebackDone_evolves
    | with_reducible apply Device.setLaps_evolves | with_reducible apply Device.inc32_evolves

theorem Device.lapFired_evolves {a : Device} {d : Device} {e : Nat} (h : Evolves a d) :
    Evolves a (Device.lapFired d e) := by
  unfold Device.lapFired
  try dsimp only
  repeat' first
    | with_reducible exact h | with_reducible apply Evolves.ite | with_reducible apply Device.lapFlag_evolves
    | with_reducible apply Device.inc32_evolves | with_reducible apply Device.lapClose_evolves | split

theorem Device.lapStepped_evolves {a : Device} {d : Device} (h : Evolves a d) :
    Evolves a (Device.lapStepped d) := by
  unfold Device.lapStepped
  try dsimp only
  repeat' first
    | with_reducible exact h | with_reducible apply Evolves.ite | with_reducible apply Device.lapFlag_evolves
    | with_reducible apply Device.lapReconcile_evolves | split

end Sys2Proof.Machine
end

