-- ==== Sys2Proof/Laws/EvolveModes.lean ====
section
/-!
SUPPORT. The operations of Machine/Modes.lean respect what every operation respects (Laws/Evolve.lean).
-/
set_option Elab.async false
set_option linter.all false
set_option linter.unusedTactic false
set_option linter.unreachableTactic false
set_option linter.style.longLine false
namespace Sys2Proof.Machine

theorem Device.cleared_evolves {a d : Device} {latch : Nat} (h : Evolves a d) : Evolves a (d.cleared latch) :=
  h.trans ⟨rfl, fun _ _ x => x, List.prefix_refl _, le_refl _, fun _ => rfl, fun _ => rfl, id, id⟩
theorem Device.undrive_evolves {a : Device} {d : Device} (h : Evolves a d) :
    Evolves a (Device.undrive d) := by
  unfold Device.undrive
  try dsimp only
  repeat' first
    | with_reducible exact h | with_reducible apply Evolves.ite | with_reducible apply Evolves.emit | split

theorem Device.enterReset_evolves {a : Device} {latch : Nat} {d : Device} (h : Evolves a d) :
    Evolves a (Device.enterReset latch d) := by
  unfold Device.enterReset
  try dsimp only
  repeat' first
    | with_reducible exact h | with_reducible assumption | with_reducible apply Evolves.ite
    | with_reducible apply Device.stopFrames_evolves | with_reducible apply Device.undrive_evolves
    | with_reducible apply Device.cleared_evolves | with_reducible apply Device.latch_evolves | intro _ _ hq
    | intro _ | split

theorem Device.setLatch_evolves {a : Device} {d : Device} {n : Nat} (h : Evolves a d) :
    Evolves a (Device.setLatch d n) := by
  unfold Device.setLatch
  try dsimp only
  repeat' first
    | with_reducible exact h | exact h.same rfl rfl rfl rfl rfl rfl rfl

theorem Device.pwrGoodLow_evolves {a : Device} {d : Device} (h : Evolves a d) :
    Evolves a (Device.pwrGoodLow d) := by
  unfold Device.pwrGoodLow
  try dsimp only
  repeat' first
    | with_reducible exact h | with_reducible apply Device.enterReset_evolves
    | with_reducible apply Device.setLatch_evolves | with_reducible apply Device.setPins_evolves

theorem Device.resetNLow_evolves {a : Device} {d : Device} (h : Evolves a d) :
    Evolves a (Device.resetNLow d) := by
  unfold Device.resetNLow
  try dsimp only
  repeat' first
    | with_reducible exact h | with_reducible apply Device.enterReset_evolves
    | with_reducible apply Device.setPins_evolves

theorem Device.resetRelease_evolves {a : Device} {d : Device} (h : Evolves a d) :
    Evolves a (Device.resetRelease d) := by
  unfold Device.resetRelease
  try dsimp only
  repeat' first
    | with_reducible exact h | with_reducible apply Evolves.ite | with_reducible apply Device.setPins_evolves
    | with_reducible apply Device.extest_evolves | with_reducible apply Device.setLatch_evolves
    | with_reducible apply Device.setModeField_evolves | with_reducible apply Evolves.wr | split

theorem Device.setBoot_evolves {a : Device} {d : Device} {x : BootX} (h : Evolves a d) :
    Evolves a (Device.setBoot d x) := by
  unfold Device.setBoot
  try dsimp only
  repeat' first
    | with_reducible exact h | exact h.same rfl rfl rfl rfl rfl rfl rfl

theorem Device.setClockOn_evolves {a : Device} {d : Device} (h : Evolves a d) :
    Evolves a (Device.setClockOn d) := by
  unfold Device.setClockOn
  try dsimp only
  repeat' first
    | with_reducible exact h | exact h.same rfl rfl rfl rfl rfl rfl rfl

theorem Device.bootPllsLocked_evolves {a : Device} {d : Device} (h : Evolves a d) :
    Evolves a (Device.bootPllsLocked d) := by
  unfold Device.bootPllsLocked
  try dsimp only
  repeat' first
    | with_reducible exact h | with_reducible apply Evolves.ite | with_reducible apply Device.setBoot_evolves
    | with_reducible apply Device.setClockOn_evolves | with_reducible apply Device.tamperBoot_evolves
    | with_reducible apply Device.bootLc_evolves | split

theorem Device.drawSeed_evolves {a : Device} {d : Device} (h : Evolves a d) :
    Evolves a (Device.drawSeed d) := by
  unfold Device.drawSeed
  try dsimp only
  repeat' first
    | with_reducible exact h | with_reducible apply Device.drawBytes_evolves | with_reducible apply Evolves.wr

theorem Device.seedLfsr_evolves {a : Device} {d : Device} {b : Nat} (h : Evolves a d) :
    Evolves a (Device.seedLfsr d b) := by
  unfold Device.seedLfsr
  try dsimp only
  repeat' first
    | with_reducible exact h | with_reducible apply Device.drawBytes_evolves
    | with_reducible apply Device.setBank_evolves

theorem Device.seedBanks_evolves {a : Device} {d : Device} (h : Evolves a d) :
    Evolves a (Device.seedBanks d) := by
  unfold Device.seedBanks
  try dsimp only
  repeat' first
    | with_reducible exact h | with_reducible assumption | with_reducible apply Evolves.foldl
    | with_reducible apply Device.seedLfsr_evolves | intro _ _ hq | intro _

theorem Device.entropyStartupTests_evolves {a : Device} {passed : Bool} {d : Device} (h : Evolves a d) :
    Evolves a (Device.entropyStartupTests passed d) := by
  unfold Device.entropyStartupTests
  try dsimp only
  repeat' first
    | with_reducible exact h | with_reducible apply Evolves.ite | with_reducible apply Device.setBoot_evolves
    | with_reducible apply Evolves.wr | with_reducible apply Device.seeded_evolves
    | with_reducible apply Device.perBootKeys_evolves | with_reducible apply Device.fillRoots_evolves
    | with_reducible apply Device.drawSeed_evolves | with_reducible apply Device.seedBanks_evolves
    | with_reducible apply Device.inc32_evolves | with_reducible apply Device.fault_evolves | split

theorem Device.sydinImageVerified_evolves {a : Device} {d : Device} (h : Evolves a d) :
    Evolves a (Device.sydinImageVerified d) := by
  unfold Device.sydinImageVerified
  try dsimp only
  repeat' first
    | with_reducible exact h | with_reducible assumption | with_reducible apply Evolves.ite
    | with_reducible apply Evolves.foldl | with_reducible apply Device.setBoot_evolves
    | with_reducible apply Device.slotsFromFlash_evolves | with_reducible apply Device.loadSydin_evolves
    | with_reducible apply Device.loadParser_evolves | with_reducible apply Device.measure_evolves
    | with_reducible apply Device.fillSealing_evolves | with_reducible apply Device.epochStep_evolves
    | with_reducible apply Evolves.wr | intro _ _ hq | intro _ | split

theorem Device.trainingFailed_evolves {a : Device} {d : Device} {c : Nat} (h : Evolves a d) :
    Evolves a (Device.trainingFailed d c) := by
  unfold Device.trainingFailed
  try dsimp only
  repeat' first
    | with_reducible exact h | with_reducible apply Evolves.ite | with_reducible apply Device.fault_evolves
    | with_reducible apply Evolves.wr | with_reducible apply Device.wrBit_evolves | split

theorem Device.memTrainingDone_evolves {a : Device} {failed : Nat} {d : Device} (h : Evolves a d) :
    Evolves a (Device.memTrainingDone failed d) := by
  unfold Device.memTrainingDone
  try dsimp only
  repeat' first
    | with_reducible exact h | with_reducible assumption | with_reducible apply Evolves.ite
    | with_reducible apply Evolves.foldl | with_reducible apply Device.setBoot_evolves
    | with_reducible apply Device.trainingFailed_evolves | with_reducible apply Device.memInit_evolves | intro _ _ hq
    | intro _ | split

theorem Device.laneFailed_evolves {a : Device} {d : Device} {l : Nat} (h : Evolves a d) :
    Evolves a (Device.laneFailed d l) := by
  unfold Device.laneFailed
  try dsimp only
  repeat' first
    | with_reducible exact h | with_reducible apply Evolves.wr | with_reducible apply Device.wrBit_evolves
    | with_reducible apply Device.fault_evolves

theorem Device.serdesCalibrationDone_evolves {a : Device} {lineFailed : Nat} {hostFailed : Nat} {us : Nat} {d : Device} (h : Evolves a d) :
    Evolves a (Device.serdesCalibrationDone lineFailed hostFailed us d) := by
  unfold Device.serdesCalibrationDone
  try dsimp only
  repeat' first
    | with_reducible exact h | with_reducible assumption | with_reducible apply Evolves.ite
    | with_reducible apply Evolves.foldl | with_reducible apply Device.setBoot_evolves
    | with_reducible apply Evolves.wr | with_reducible apply Device.laneFailed_evolves
    | with_reducible apply Device.passTo_evolves | intro _ _ hq | intro _ | split

theorem Device.ringAwake_evolves {a : Device} {d : Device} (h : Evolves a d) :
    Evolves a (Device.ringAwake d) := by
  unfold Device.ringAwake
  try dsimp only
  repeat' first
    | with_reducible exact h | with_reducible apply Device.setRing_evolves
    | with_reducible apply Device.setPins_evolves

theorem Device.bootComplete_evolves {a : Device} {d : Device} (h : Evolves a d) :
    Evolves a (Device.bootComplete d) := by
  unfold Device.bootComplete
  try dsimp only
  repeat' first
    | with_reducible exact h | with_reducible assumption | with_reducible apply Evolves.ite
    | with_reducible apply Evolves.unstated | with_reducible apply Evolves.wr
    | with_reducible apply Device.ringAwake_evolves | with_reducible apply Device.runKats_evolves
    | with_reducible apply Device.enterMode_evolves | with_reducible apply Evolves.ite2 | intro _ _ hq | intro _
    | split

theorem Device.drainDiscard_evolves {a : Device} {d : Device} (h : Evolves a d) :
    Evolves a (Device.drainDiscard d) := by
  unfold Device.drainDiscard
  try dsimp only
  repeat' first
    | with_reducible exact h | with_reducible assumption | with_reducible apply Device.add64_evolves
    | with_reducible apply Device.stopFrames_evolves | intro _ _ hq | intro _

theorem Device.dropDrainEntry_evolves {a : Device} {d : Device} (h : Evolves a d) :
    Evolves a (Device.dropDrainEntry d) := by
  unfold Device.dropDrainEntry
  try dsimp only
  repeat' first
    | with_reducible exact h | with_reducible assumption | with_reducible apply Evolves.elim
    | with_reducible apply Device.gunCancel_evolves | intro _ _ hq | intro _

theorem Device.toStage_evolves {a : Device} {cause : Nat} {d : Device} (h : Evolves a d) :
    Evolves a (Device.toStage cause d) := by
  unfold Device.toStage
  try dsimp only
  repeat' first
    | with_reducible exact h | with_reducible assumption | with_reducible apply Device.withSignals_evolves
    | with_reducible apply Device.muteWindows_evolves | with_reducible apply Device.dropDrainEntry_evolves
    | with_reducible apply Device.drainDiscard_evolves | with_reducible apply Device.enterMode_evolves | intro _ _ hq
    | intro _

theorem Device.goRunCore_evolves {a : Device} {r : Req} {d : Device} (h : Evolves a d) :
    Evolves a (Device.goRunCore r d).2 := by
  unfold Device.goRunCore
  try dsimp only
  repeat' first
    | with_reducible exact h | with_reducible assumption | with_reducible apply Device.runCmd_evolves
    | with_reducible apply Device.withSignals_evolves | with_reducible apply Device.enterMode_evolves | intro _ _ hq
    | intro _

theorem Device.goStageCore_evolves {a : Device} {r : Req} {d : Device} (h : Evolves a d) :
    Evolves a (Device.goStageCore r d).2 := by
  unfold Device.goStageCore
  try dsimp only
  repeat' first
    | with_reducible exact h | with_reducible assumption | with_reducible apply Evolves.ite
    | with_reducible apply Device.runCmd_evolves | with_reducible apply Device.enterMode_evolves
    | with_reducible apply Device.toStage_evolves | with_reducible apply Evolves.ite2 | intro _ _ hq | intro _
    | split

theorem Device.goDrainCore_evolves {a : Device} {r : Req} {d : Device} (h : Evolves a d) :
    Evolves a (Device.goDrainCore r d).2 := by
  unfold Device.goDrainCore
  try dsimp only
  repeat' first
    | with_reducible exact h | with_reducible assumption | with_reducible apply Evolves.elim
    | with_reducible apply Device.runCmd_evolves | with_reducible apply Device.gunTake_evolves
    | with_reducible apply Device.enterMode_evolves | with_reducible apply Evolves.elim2 | intro _ _ hq | intro _

theorem Device.resumeRunCore_evolves {a : Device} {r : Req} {d : Device} (h : Evolves a d) :
    Evolves a (Device.resumeRunCore r d).2 := by
  unfold Device.resumeRunCore
  try dsimp only
  repeat' first
    | with_reducible exact h | with_reducible assumption | with_reducible apply Evolves.elim
    | with_reducible apply Device.runCmd_evolves | with_reducible apply Device.gunCancel_evolves
    | with_reducible apply Device.enterMode_evolves | with_reducible apply Evolves.elim2 | intro _ _ hq | intro _

theorem Device.modeCmdResetCore_evolves {a : Device} {r : Req} {d : Device} (h : Evolves a d) :
    Evolves a (Device.modeCmdResetCore r d).2 := by
  unfold Device.modeCmdResetCore
  try dsimp only
  repeat' first
    | with_reducible exact h | with_reducible assumption | with_reducible apply Device.runCmd_evolves
    | with_reducible apply Device.enterReset_evolves | intro _ _ hq | intro _

theorem Device.activateResetCore_evolves {a : Device} {r : Req} {d : Device} (h : Evolves a d) :
    Evolves a (Device.activateResetCore r d).2 := by
  unfold Device.activateResetCore
  try dsimp only
  repeat' first
    | with_reducible exact h | with_reducible assumption | with_reducible apply Device.runCmd_evolves
    | with_reducible apply Device.enterReset_evolves | intro _ _ hq | intro _

theorem Device.setDrainAt_evolves {a : Device} {d : Device} {n : Nat} (h : Evolves a d) :
    Evolves a (Device.setDrainAt d n) := by
  unfold Device.setDrainAt
  try dsimp only
  repeat' first
    | with_reducible exact h | exact h.same rfl rfl rfl rfl rfl rfl rfl

theorem Device.drainHold_evolves {a : Device} {d : Device} {p : Nat} (h : Evolves a d) :
    Evolves a (Device.drainHold d p) := by
  unfold Device.drainHold
  try dsimp only
  repeat' first
    | with_reducible exact h | with_reducible apply Evolves.ite | with_reducible apply Device.setHolds_evolves
    | split

theorem Device.drainClose_evolves {a : Device} {d : Device} (h : Evolves a d) :
    Evolves a (Device.drainClose d) := by
  unfold Device.drainClose
  try dsimp only
  repeat' first
    | with_reducible exact h | with_reducible assumption | with_reducible apply Evolves.ite
    | with_reducible apply Evolves.foldl | with_reducible apply Device.drainHold_evolves
    | with_reducible apply Device.setDrainAt_evolves | intro _ _ hq | intro _ | split

theorem Device.drainFlushComplete_evolves {a : Device} {d : Device} (h : Evolves a d) :
    Evolves a (Device.drainFlushComplete d) := by
  unfold Device.drainFlushComplete
  try dsimp only
  repeat' first
    | with_reducible exact h | with_reducible apply Evolves.ite | with_reducible apply Device.toStage_evolves | split

theorem Device.drainFlushExpiry_evolves {a : Device} {d : Device} (h : Evolves a d) :
    Evolves a (Device.drainFlushExpiry d) := by
  unfold Device.drainFlushExpiry
  try dsimp only
  repeat' first
    | with_reducible exact h | with_reducible apply Evolves.ite | with_reducible apply Device.passTo_evolves
    | with_reducible apply Device.toStage_evolves | split

theorem Device.sliceStop_evolves {a : Device} {d : Device} {s : Nat} (h : Evolves a d) :
    Evolves a (Device.sliceStop d s) := by
  unfold Device.sliceStop
  try dsimp only
  repeat' first
    | with_reducible exact h | with_reducible apply Device.add64_evolves
    | with_reducible apply Device.stopFrames_evolves | with_reducible apply Device.clearBanks_evolves
    | with_reducible apply Device.pmcForget_evolves | with_reducible apply Device.lapFlag_evolves

theorem Device.sliceExit_evolves {a : Device} {s : Nat} {st : Nat} {cause : Nat} {d : Device} (h : Evolves a d) :
    Evolves a (Device.sliceExit s st cause d) := by
  unfold Device.sliceExit
  try dsimp only
  repeat' first
    | with_reducible exact h | with_reducible assumption | with_reducible apply Device.withSignals_evolves
    | with_reducible apply Device.sliceStop_evolves | with_reducible apply Evolves.wr | intro _ _ hq | intro _

theorem Device.sliceFail_evolves {a : Device} {d : Device} {s : Nat} {cause : Nat} (h : Evolves a d) :
    Evolves a (Device.sliceFail d s cause) := by
  unfold Device.sliceFail
  try dsimp only
  repeat' first
    | with_reducible exact h | with_reducible apply Evolves.ite | with_reducible apply Device.sliceExit_evolves
    | with_reducible apply Device.fault_evolves | with_reducible apply Evolves.wr | split

theorem Device.takeOutCore_evolves {a : Device} {r : Req} {s : Nat} {d : Device} (h : Evolves a d) :
    Evolves a (Device.takeOutCore r s d).2 := by
  unfold Device.takeOutCore
  try dsimp only
  repeat' first
    | with_reducible exact h | with_reducible assumption | with_reducible apply Device.runCmd_evolves
    | with_reducible apply Device.sliceExit_evolves | intro _ _ hq | intro _

theorem Device.laneOff_evolves {a : Device} {d : Device} {l : Nat} (h : Evolves a d) :
    Evolves a (Device.laneOff d l) := by
  unfold Device.laneOff
  try dsimp only
  repeat' first
    | with_reducible exact h | with_reducible apply Evolves.wr

theorem Device.gateSlice_evolves {a : Device} {s : Nat} {d : Device} (h : Evolves a d) :
    Evolves a (Device.gateSlice s d) := by
  unfold Device.gateSlice
  try dsimp only
  repeat' first
    | with_reducible exact h | with_reducible assumption | with_reducible apply Evolves.foldl
    | with_reducible apply Device.withSignals_evolves | with_reducible apply Device.receive_evolves
    | with_reducible apply Device.laneOff_evolves | with_reducible apply Evolves.wr | intro _ _ hq | intro _

theorem Device.gateCore_evolves {a : Device} {r : Req} {s : Nat} {d : Device} (h : Evolves a d) :
    Evolves a (Device.gateCore r s d).2 := by
  unfold Device.gateCore
  try dsimp only
  repeat' first
    | with_reducible exact h | with_reducible assumption | with_reducible apply Device.runCmd_evolves
    | with_reducible apply Device.gateSlice_evolves | intro _ _ hq | intro _

theorem Device.returnSlice_evolves {a : Device} {d : Device} {s : Nat} (h : Evolves a d) :
    Evolves a (Device.returnSlice d s) := by
  unfold Device.returnSlice
  try dsimp only
  repeat' first
    | with_reducible exact h | with_reducible apply Evolves.ite | with_reducible apply Evolves.wr
    | with_reducible apply Device.emptyShadow_evolves | with_reducible apply Device.setActive_evolves
    | with_reducible apply Device.sliceFail_evolves | split

theorem Device.sliceReturnCore_evolves {a : Device} {r : Req} {s : Nat} {d : Device} (h : Evolves a d) :
    Evolves a (Device.sliceReturnCore r s d).2 := by
  unfold Device.sliceReturnCore
  try dsimp only
  repeat' first
    | with_reducible exact h | with_reducible assumption | with_reducible apply Device.runCmd_evolves
    | with_reducible apply Device.returnSlice_evolves | intro _ _ hq | intro _

theorem Device.laneOn_evolves {a : Device} {d : Device} {l : Nat} (h : Evolves a d) :
    Evolves a (Device.laneOn d l) := by
  unfold Device.laneOn
  try dsimp only
  repeat' first
    | with_reducible exact h | with_reducible apply Evolves.ite | with_reducible apply Evolves.wr
    | with_reducible apply Device.setAcq_evolves | split

theorem Device.laneLost_evolves {a : Device} {d : Device} {l : Nat} (h : Evolves a d) :
    Evolves a (Device.laneLost d l) := by
  unfold Device.laneLost
  try dsimp only
  repeat' first
    | with_reducible exact h | with_reducible apply Evolves.wr

theorem Device.sliceReturnDone_evolves {a : Device} {s : Nat} {failed : Nat} {d : Device} (h : Evolves a d) :
    Evolves a (Device.sliceReturnDone s failed d) := by
  unfold Device.sliceReturnDone
  try dsimp only
  repeat' first
    | with_reducible exact h | with_reducible assumption | with_reducible apply Evolves.ite
    | with_reducible apply Evolves.foldl | with_reducible apply Device.withSignals_evolves
    | with_reducible apply Device.laneOn_evolves | with_reducible apply Evolves.wr
    | with_reducible apply Device.pmcRestart_evolves | with_reducible apply Device.runKats_evolves
    | with_reducible apply Device.laneLost_evolves | with_reducible apply Device.sliceFail_evolves | intro _ _ hq
    | intro _ | split

end Sys2Proof.Machine
end

