-- ==== Sys2Proof/Laws/EvolveTime.lean ====
section
/-!
SUPPORT. The operations of Machine/Time.lean respect what every operation respects (Laws/Evolve.lean).
-/
set_option Elab.async false
set_option linter.all false
set_option linter.unusedTactic false
set_option linter.unreachableTactic false
set_option linter.style.longLine false
namespace Sys2Proof.Machine

theorem Device.refreshTimeHold_evolves {a : Device} {d : Device} (h : Evolves a d) :
    Evolves a (Device.refreshTimeHold d) := by
  unfold Device.refreshTimeHold
  try dsimp only
  repeat' first
    | with_reducible exact h | with_reducible apply Evolves.ite | with_reducible apply Device.setPins_evolves
    | with_reducible apply Evolves.emit | with_reducible apply Evolves.wr | split

theorem Device.setTimeCmd_evolves {a : Device} {d : Device} {c : Option Nat} (h : Evolves a d) :
    Evolves a (Device.setTimeCmd d c) := by
  unfold Device.setTimeCmd
  try dsimp only
  repeat' first
    | with_reducible exact h | with_reducible apply Device.setTime_evolves

theorem Device.phcPend_evolves {a : Device} {d : Device} {ch : PhcChange} (h : Evolves a d) :
    Evolves a (Device.phcPend d ch) := by
  unfold Device.phcPend
  try dsimp only
  repeat' first
    | with_reducible exact h | with_reducible apply Device.setClk_evolves

theorem Device.phcStart_evolves {a : Device} {ch : PhcChange} {d : Device} (h : Evolves a d) :
    Evolves a (Device.phcStart ch d).2 := by
  unfold Device.phcStart
  try dsimp only
  repeat' first
    | with_reducible exact h | with_reducible apply Device.phcPend_evolves
    | with_reducible apply Device.setTimeCmd_evolves

theorem Device.phcSetCore_evolves {a : Device} {r : Req} {d : Device} (h : Evolves a d) :
    Evolves a (Device.phcSetCore r d).2 := by
  unfold Device.phcSetCore
  try dsimp only
  repeat' first
    | with_reducible exact h | with_reducible assumption | with_reducible apply Device.runCmd_evolves
    | with_reducible apply Device.phcStart_evolves | intro _ _ hq | intro _

theorem Device.phcStepCore_evolves {a : Device} {r : Req} {d : Device} (h : Evolves a d) :
    Evolves a (Device.phcStepCore r d).2 := by
  unfold Device.phcStepCore
  try dsimp only
  repeat' first
    | with_reducible exact h | with_reducible assumption | with_reducible apply Device.runCmd_evolves
    | with_reducible apply Device.phcStart_evolves | intro _ _ hq | intro _

theorem Device.phcSlewCore_evolves {a : Device} {r : Req} {d : Device} (h : Evolves a d) :
    Evolves a (Device.phcSlewCore r d).2 := by
  unfold Device.phcSlewCore
  try dsimp only
  repeat' first
    | with_reducible exact h | with_reducible assumption | with_reducible apply Device.runCmd_evolves
    | with_reducible apply Device.phcStart_evolves | intro _ _ hq | intro _

theorem Device.phcSlewStopCore_evolves {a : Device} {r : Req} {d : Device} (h : Evolves a d) :
    Evolves a (Device.phcSlewStopCore r d).2 := by
  unfold Device.phcSlewStopCore
  try dsimp only
  repeat' first
    | with_reducible exact h | with_reducible assumption | with_reducible apply Device.runCmd_evolves
    | with_reducible apply Device.phcStart_evolves | intro _ _ hq | intro _

theorem Device.leapNow_evolves {a : Device} {d : Device} (h : Evolves a d) :
    Evolves a (Device.leapNow d) := by
  unfold Device.leapNow
  try dsimp only
  repeat' first
    | with_reducible exact h | with_reducible apply Evolves.ite | with_reducible apply Device.wrCmd_evolves
    | with_reducible apply Device.lapRetime_evolves | split

theorem Device.leapApply_evolves {a : Device} {d : Device} (h : Evolves a d) :
    Evolves a (Device.leapApply d) := by
  unfold Device.leapApply
  try dsimp only
  repeat' first
    | with_reducible exact h | with_reducible apply Evolves.ite | with_reducible apply Device.passTo_evolves
    | with_reducible apply Device.leapNow_evolves | split

theorem Device.gunWithdraw_evolves {a : Device} {d : Device} {e : Nat} (h : Evolves a d) :
    Evolves a (Device.gunWithdraw d e) := by
  unfold Device.gunWithdraw
  try dsimp only
  repeat' first
    | with_reducible exact h | with_reducible apply Evolves.ite | with_reducible apply Device.setGun_evolves
    | with_reducible apply Evolves.wr | with_reducible apply Device.wrBit_evolves | split

theorem Device.setEdge_evolves {a : Device} {d : Device} {x : StepEdge} (h : Evolves a d) :
    Evolves a (Device.setEdge d x) := by
  unfold Device.setEdge
  try dsimp only
  repeat' first
    | with_reducible exact h | exact h.same rfl rfl rfl rfl rfl rfl rfl

theorem Device.stepped_evolves {a : Device} {d : Device} {before : Nat} (h : Evolves a d) :
    Evolves a (Device.stepped d before) := by
  unfold Device.stepped
  try dsimp only
  repeat' first
    | with_reducible exact h | with_reducible assumption | with_reducible apply Evolves.ite
    | with_reducible apply Evolves.foldl | with_reducible apply Device.setEdge_evolves
    | with_reducible apply Device.inc32_evolves | with_reducible apply Evolves.wr
    | with_reducible apply Device.tamperTimeSet_evolves | with_reducible apply Device.gunWithdraw_evolves
    | with_reducible apply Device.setTime_evolves | with_reducible apply Device.leapNow_evolves
    | with_reducible apply Device.lapStepped_evolves | with_reducible apply Device.refreshTimeHold_evolves
    | intro _ _ hq | intro _ | split

theorem Device.phcCmdEnds_evolves {a : Device} {d : Device} {c : Nat} (h : Evolves a d) :
    Evolves a (Device.phcCmdEnds d c) := by
  unfold Device.phcCmdEnds
  try dsimp only
  repeat' first
    | with_reducible exact h | with_reducible assumption | with_reducible apply Evolves.ite
    | with_reducible apply Device.setTimeCmd_evolves | with_reducible apply Device.endCmd_evolves | intro _ _ hq
    | intro _ | split

theorem Device.phcChangeEffect_evolves {a : Device} {d : Device} (h : Evolves a d) :
    Evolves a (Device.phcChangeEffect d) := by
  unfold Device.phcChangeEffect
  try dsimp only
  repeat' first
    | with_reducible exact h | with_reducible assumption | with_reducible apply Evolves.ite
    | with_reducible apply Device.passTo_evolves | with_reducible apply Device.setClk_evolves
    | with_reducible apply Device.stepped_evolves | with_reducible apply Device.phcCmdEnds_evolves
    | with_reducible apply Evolves.ite2 | split

theorem Device.slewComplete_evolves {a : Device} {d : Device} (h : Evolves a d) :
    Evolves a (Device.slewComplete d) := by
  unfold Device.slewComplete
  try dsimp only
  repeat' first
    | with_reducible exact h | with_reducible apply Evolves.ite | with_reducible apply Device.passTo_evolves | split

theorem Device.latencyOf_evolves {a : Device} {d : Device} {p : Nat} {base : Nat} {tempco : Nat} {phase : Int} (h : Evolves a d) :
    Evolves a (Device.latencyOf d p base tempco phase).2 := by
  unfold Device.latencyOf
  try dsimp only
  repeat' first
    | with_reducible exact h | with_reducible apply Evolves.unstated

theorem Device.setPhase_evolves {a : Device} {d : Device} {p : Nat} {x : Int × Int} (h : Evolves a d) :
    Evolves a (Device.setPhase d p x) := by
  unfold Device.setPhase
  try dsimp only
  repeat' first
    | with_reducible exact h | with_reducible assumption | with_reducible apply Device.setTime_evolves | intro _ _ hq
    | intro _

theorem Device.refreshLatency_evolves {a : Device} {d : Device} {p : Nat} (h : Evolves a d) :
    Evolves a (Device.refreshLatency d p) := by
  unfold Device.refreshLatency
  try dsimp only
  repeat' first
    | with_reducible exact h | with_reducible apply Device.latencyOf_evolves | with_reducible apply Evolves.wr

theorem Device.tsCalCore_evolves {a : Device} {r : Req} {p : Nat} {d : Device} (h : Evolves a d) :
    Evolves a (Device.tsCalCore r p d).2 := by
  unfold Device.tsCalCore
  try dsimp only
  repeat' first
    | with_reducible exact h | with_reducible assumption | with_reducible apply Device.runCmd_evolves | intro _ _ hq
    | intro _

theorem Device.tsPhaseMeasured_evolves {a : Device} {p : Nat} {ok : Bool} {rx : Int} {tx : Int} {d : Device} (h : Evolves a d) :
    Evolves a (Device.tsPhaseMeasured p ok rx tx d) := by
  unfold Device.tsPhaseMeasured
  try dsimp only
  repeat' first
    | with_reducible exact h | with_reducible apply Evolves.ite | with_reducible apply Device.setPhase_evolves
    | with_reducible apply Device.refreshLatency_evolves | with_reducible apply Evolves.wr
    | with_reducible apply Device.endCmd_evolves | with_reducible apply Device.faultUnit_evolves | split

theorem Device.tsRegionTempRead_evolves {a : Device} {p : Nat} {temp : Int} {d : Device} (h : Evolves a d) :
    Evolves a (Device.tsRegionTempRead p temp d) := by
  unfold Device.tsRegionTempRead
  try dsimp only
  repeat' first
    | with_reducible exact h | with_reducible apply Evolves.ite | with_reducible apply Evolves.wr
    | with_reducible apply Device.refreshLatency_evolves | split

theorem Device.ppsRise_evolves {a : Device} {d : Device} (h : Evolves a d) :
    Evolves a (Device.ppsRise d) := by
  unfold Device.ppsRise
  try dsimp only
  repeat' first
    | with_reducible exact h | with_reducible apply Device.setPins_evolves | with_reducible apply Evolves.emit
    | with_reducible apply Device.setTime_evolves

theorem Device.ppsOutEdge_evolves {a : Device} {d : Device} (h : Evolves a d) :
    Evolves a (Device.ppsOutEdge d) := by
  unfold Device.ppsOutEdge
  try dsimp only
  repeat' first
    | with_reducible exact h | with_reducible apply Evolves.ite | with_reducible apply Device.passTo_evolves
    | with_reducible apply Device.setTime_evolves | with_reducible apply Device.ppsRise_evolves | split

theorem Device.ppsOutFall_evolves {a : Device} {d : Device} (h : Evolves a d) :
    Evolves a (Device.ppsOutFall d) := by
  unfold Device.ppsOutFall
  try dsimp only
  repeat' first
    | with_reducible exact h | with_reducible assumption | with_reducible apply Device.passTo_evolves
    | with_reducible apply Device.setTime_evolves | with_reducible apply Device.setPins_evolves
    | with_reducible apply Evolves.emit | split

theorem Device.todOutMessage_evolves {a : Device} {d : Device} (h : Evolves a d) :
    Evolves a (Device.todOutMessage d) := by
  unfold Device.todOutMessage
  try dsimp only
  repeat' first
    | with_reducible exact h | with_reducible assumption | with_reducible apply Evolves.ite
    | with_reducible apply Device.passTo_evolves | with_reducible apply Device.setTime_evolves
    | with_reducible apply Evolves.emit | split

theorem Device.follow_evolves {a : Device} {d : Device} {e : Int} (h : Evolves a d) :
    Evolves a (Device.follow d e) := by
  unfold Device.follow
  try dsimp only
  repeat' first
    | with_reducible exact h | with_reducible apply Evolves.ite | with_reducible apply Device.phcPend_evolves
    | with_reducible apply Evolves.unstated | with_reducible apply Evolves.wr | with_reducible apply Evolves.ite2
    | split

theorem Device.lockStep_evolves {a : Device} {d : Device} {e : Int} (h : Evolves a d) :
    Evolves a (Device.lockStep d e) := by
  unfold Device.lockStep
  try dsimp only
  repeat' first
    | with_reducible exact h | with_reducible apply Evolves.ite | with_reducible apply Device.setTime_evolves
    | with_reducible apply Evolves.wr | split

theorem Device.edgeValid_evolves {a : Device} {d : Device} (h : Evolves a d) :
    Evolves a (Device.edgeValid d) := by
  unfold Device.edgeValid
  try dsimp only
  repeat' first
    | with_reducible exact h | with_reducible apply Evolves.wr | with_reducible apply Device.setTime_evolves

theorem Device.edgeInvalid_evolves {a : Device} {d : Device} (h : Evolves a d) :
    Evolves a (Device.edgeInvalid d) := by
  unfold Device.edgeInvalid
  try dsimp only
  repeat' first
    | with_reducible exact h | with_reducible apply Evolves.wr | with_reducible apply Device.setTime_evolves

theorem Device.edgeError_evolves {a : Device} {d : Device} {stamp : Nat} (h : Evolves a d) :
    Evolves a (Device.edgeError d stamp) := by
  unfold Device.edgeError
  try dsimp only
  repeat' first
    | with_reducible exact h | with_reducible apply Evolves.ite | with_reducible apply Evolves.wr
    | with_reducible apply Device.lockStep_evolves | with_reducible apply Device.edgeValid_evolves
    | with_reducible apply Device.follow_evolves | split

theorem Device.ppsInEdge_evolves {a : Device} {stamp : Nat} {d : Device} (h : Evolves a d) :
    Evolves a (Device.ppsInEdge stamp d) := by
  unfold Device.ppsInEdge
  try dsimp only
  repeat' first
    | with_reducible exact h | with_reducible assumption | with_reducible apply Evolves.ite
    | with_reducible apply Evolves.elim | with_reducible apply Device.passTo_evolves
    | with_reducible apply Device.inc32_evolves | with_reducible apply Evolves.wr
    | with_reducible apply Device.setTime_evolves | with_reducible apply Device.edgeInvalid_evolves
    | with_reducible apply Device.edgeError_evolves | intro _ _ hq | intro _ | split

theorem Device.todInMessage_evolves {a : Device} {v : Bytes} {d : Device} (h : Evolves a d) :
    Evolves a (Device.todInMessage v d) := by
  unfold Device.todInMessage
  try dsimp only
  repeat' first
    | with_reducible exact h | with_reducible apply Evolves.ite | with_reducible apply Device.inc32_evolves
    | with_reducible apply Evolves.wr | with_reducible apply Device.setTime_evolves | split

theorem Device.timeLockTimeout_evolves {a : Device} {d : Device} (h : Evolves a d) :
    Evolves a (Device.timeLockTimeout d) := by
  unfold Device.timeLockTimeout
  try dsimp only
  repeat' first
    | with_reducible exact h | with_reducible assumption | with_reducible apply Device.passTo_evolves
    | with_reducible apply Evolves.wr | with_reducible apply Device.setTime_evolves | split

end Sys2Proof.Machine
end

