-- ==== Sys2Proof/Laws/EvolveFaults.lean ====
section
/-!
SUPPORT. The operations of Machine/Faults.lean respect what every operation respects (Laws/Evolve.lean).
-/
set_option Elab.async false
set_option linter.all false
set_option linter.unusedTactic false
set_option linter.unreachableTactic false
set_option linter.style.longLine false
namespace Sys2Proof.Machine

theorem Device.recordTaken_evolves {a : Device} {d : Device} {src : Nat} (h : Evolves a d) :
    Evolves a (Device.recordTaken d src) := by
  unfold Device.recordTaken
  try dsimp only
  repeat' first
    | with_reducible exact h | with_reducible assumption | with_reducible apply Evolves.ite
    | with_reducible apply Device.setSrcState_evolves | intro _ _ hq | intro _ | split

theorem Device.faultSample_evolves {a : Device} {src : Nat} {code : Nat} {base : Nat} {detail : Bytes} {d : Device} (h : Evolves a d) :
    Evolves a (Device.faultSample src code base detail d) := by
  unfold Device.faultSample
  try dsimp only
  repeat' first
    | with_reducible exact h | with_reducible apply Evolves.ite | with_reducible apply Device.note_evolves
    | with_reducible apply Device.recordTaken_evolves | with_reducible apply Device.fault_evolves | split

theorem Device.brokenWire_evolves {a : Device} {src : Nat} {d : Device} (h : Evolves a d) :
    Evolves a (Device.brokenWire src d) := by
  unfold Device.brokenWire
  try dsimp only
  repeat' first
    | with_reducible exact h | with_reducible apply Evolves.ite | with_reducible apply Evolves.wr
    | with_reducible apply Device.fault_evolves | split

theorem Device.wireRestored_evolves {a : Device} {src : Nat} {fault : Bool} {d : Device} (h : Evolves a d) :
    Evolves a (Device.wireRestored src fault d) := by
  unfold Device.wireRestored
  try dsimp only
  repeat' first
    | with_reducible exact h | with_reducible apply Evolves.ite | with_reducible apply Evolves.wr
    | with_reducible apply Device.fault_evolves | with_reducible apply Device.note_evolves | split

theorem Device.pllLockRegained_evolves {a : Device} {src : Nat} {d : Device} (h : Evolves a d) :
    Evolves a (Device.pllLockRegained src d) := by
  unfold Device.pllLockRegained
  try dsimp only
  repeat' first
    | with_reducible exact h | with_reducible apply Evolves.ite | with_reducible apply Device.setSrcState_evolves
    | split

theorem Device.sydinWatchdog_evolves {a : Device} {d : Device} (h : Evolves a d) :
    Evolves a (Device.sydinWatchdog d) := by
  unfold Device.sydinWatchdog
  try dsimp only
  repeat' first
    | with_reducible exact h | with_reducible apply Evolves.ite | with_reducible apply Device.fault_evolves | split

theorem Device.unlatch_evolves {a : Device} {d : Device} {src : Nat} (h : Evolves a d) :
    Evolves a (Device.unlatch d src) := by
  unfold Device.unlatch
  try dsimp only
  repeat' first
    | with_reducible exact h | with_reducible apply Device.holdClasses_evolves

theorem Device.fltSrcAckCore_evolves {a : Device} {r : Req} {src : Nat} {d : Device} (h : Evolves a d) :
    Evolves a (Device.fltSrcAckCore r src d).2 := by
  unfold Device.fltSrcAckCore
  try dsimp only
  repeat' first
    | with_reducible exact h | with_reducible assumption | with_reducible apply Device.runCmd_evolves
    | with_reducible apply Device.unlatch_evolves | intro _ _ hq | intro _

theorem Device.fltAckAllCore_evolves {a : Device} {r : Req} {d : Device} (h : Evolves a d) :
    Evolves a (Device.fltAckAllCore r d).2 := by
  unfold Device.fltAckAllCore
  try dsimp only
  repeat' first
    | with_reducible exact h | with_reducible assumption | with_reducible apply Evolves.foldl
    | with_reducible apply Device.runCmd_evolves | with_reducible apply Device.unlatch_evolves
    | with_reducible apply Evolves.foldl2 | intro _ _ hq | intro _

theorem Device.popEvent_evolves {a : Device} {d : Device} {n : Nat} (h : Evolves a d) :
    Evolves a (Device.popEvent d n) := by
  unfold Device.popEvent
  try dsimp only
  repeat' first
    | with_reducible exact h | with_reducible apply Device.setDma_evolves

theorem Device.eventRingDeliver_evolves {a : Device} {n : Nat} {x : Descriptor} {d : Device} (h : Evolves a d) :
    Evolves a (Device.eventRingDeliver n x d) := by
  unfold Device.eventRingDeliver
  try dsimp only
  repeat' first
    | with_reducible exact h | with_reducible assumption | with_reducible apply Evolves.ite
    | with_reducible apply Device.eventsExpire_evolves | with_reducible apply Device.dmaAdvance_evolves
    | with_reducible apply Device.dmaComplete_evolves | with_reducible apply Evolves.emit
    | with_reducible apply Device.address_evolves | with_reducible apply Device.popEvent_evolves | split

end Sys2Proof.Machine
end

