-- ==== Sys2Proof/Laws/EvolveCounters.lean ====
section
/-!
SUPPORT. The operations of Machine/Counters.lean respect what every operation respects (Laws/Evolve.lean).
-/
set_option Elab.async false
set_option linter.all false
set_option linter.unusedTactic false
set_option linter.unreachableTactic false
set_option linter.style.longLine false
namespace Sys2Proof.Machine

theorem Device.pmcUndue_evolves {a : Device} {d : Device} {n : Nat} (h : Evolves a d) :
    Evolves a (Device.pmcUndue d n) := by
  unfold Device.pmcUndue
  try dsimp only
  repeat' first
    | with_reducible exact h | with_reducible assumption | with_reducible apply Device.setPmc_evolves | intro _ _ hq
    | intro _

theorem Device.storeSample_evolves {a : Device} {d : Device} {n : Nat} {v : Bytes} (h : Evolves a d) :
    Evolves a (Device.storeSample d n v) := by
  unfold Device.storeSample
  try dsimp only
  repeat' first
    | with_reducible exact h | with_reducible apply Evolves.ite | with_reducible apply Device.wrBit_evolves
    | with_reducible apply Evolves.wr | with_reducible apply Device.setPmc_evolves | split

theorem Device.pmcSampleCapture_evolves {a : Device} {n : Nat} {id : Nat} {skid : Nat} {d : Device} (h : Evolves a d) :
    Evolves a (Device.pmcSampleCapture n id skid d) := by
  unfold Device.pmcSampleCapture
  try dsimp only
  repeat' first
    | with_reducible exact h | with_reducible assumption | with_reducible apply Evolves.ite
    | with_reducible apply Device.pmcUndue_evolves | with_reducible apply Device.storeSample_evolves | split

theorem Device.pmcSampleTimeout_evolves {a : Device} {n : Nat} {d : Device} (h : Evolves a d) :
    Evolves a (Device.pmcSampleTimeout n d) := by
  unfold Device.pmcSampleTimeout
  try dsimp only
  repeat' first
    | with_reducible exact h | with_reducible assumption | with_reducible apply Evolves.elim
    | with_reducible apply Device.passTo_evolves | with_reducible apply Device.pmcUndue_evolves | intro _ _ hq
    | intro _

theorem Device.pmcClockCountWrap_evolves {a : Device} {n : Nat} {d : Device} (h : Evolves a d) :
    Evolves a (Device.pmcClockCountWrap n d) := by
  unfold Device.pmcClockCountWrap
  try dsimp only
  repeat' first
    | with_reducible exact h | with_reducible assumption | with_reducible apply Evolves.ite
    | with_reducible apply Evolves.elim | with_reducible apply Device.passTo_evolves | intro _ _ hq | intro _ | split

end Sys2Proof.Machine
end

