-- ==== Sys2Proof/Laws/EvolveSa.lean ====
section
/-!
SUPPORT. The operations of Machine/Sa.lean respect what every operation respects (Laws/Evolve.lean).
-/
set_option Elab.async false
set_option linter.all false
set_option linter.unusedTactic false
set_option linter.unreachableTactic false
set_option linter.style.longLine false
namespace Sys2Proof.Machine

theorem Device.endHold_evolves {a : Device} {d : Device} {sc : Nat} (h : Evolves a d) :
    Evolves a (Device.endHold d sc) := by
  unfold Device.endHold
  try dsimp only
  repeat' first
    | with_reducible exact h | with_reducible apply Device.setHoldUntil_evolves
    | with_reducible apply Device.wrBit_evolves

theorem Device.saBad_evolves {a : Device} {d : Device} {pr : Nat} (h : Evolves a d) :
    Evolves a (Device.saBad d pr) := by
  unfold Device.saBad
  try dsimp only
  repeat' first
    | with_reducible exact h | with_reducible assumption | with_reducible apply Evolves.ite
    | with_reducible apply Evolves.elim | with_reducible apply Device.gunCancel_evolves
    | with_reducible apply Device.wrBit_evolves | with_reducible apply Device.setSaState_evolves
    | with_reducible apply Evolves.wr | with_reducible apply Device.uncache_evolves
    | with_reducible apply Device.refreshSc_evolves | intro _ _ hq | intro _ | split

theorem Device.ctxFails_evolves {a : Device} {d : Device} {slot : Nat} (h : Evolves a d) :
    Evolves a (Device.ctxFails d slot) := by
  unfold Device.ctxFails
  try dsimp only
  repeat' first
    | with_reducible exact h | with_reducible apply Device.saBad_evolves | with_reducible apply Device.inc32_evolves
    | with_reducible apply Device.faultUnit_evolves

theorem Device.writeRec_evolves {a : Device} {d : Device} {pr : Nat} {x : SaRec} (h : Evolves a d) :
    Evolves a (Device.writeRec d pr x).2 := by
  unfold Device.writeRec
  try dsimp only
  repeat' first
    | with_reducible exact h | with_reducible apply Evolves.ite | with_reducible apply Device.fullLine_evolves
    | with_reducible apply Device.setRec_evolves | with_reducible apply Evolves.ite2 | split

theorem Device.fatalResult_evolves {a : Device} {was : Bool} {x : Nat × Device} (h : Evolves a x.2) :
    Evolves a (Device.fatalResult was x).2 := by
  unfold Device.fatalResult
  try dsimp only
  repeat' first
    | with_reducible exact h | with_reducible apply Evolves.ite | with_reducible apply Evolves.ite2 | split

theorem Device.kekUnwrap_evolves {a : Device} {d : Device} {handle : Nat} {blob : Bytes} (h : Evolves a d) :
    Evolves a (Device.kekUnwrap d handle blob).2 := by
  unfold Device.kekUnwrap
  try dsimp only
  repeat' first
    | with_reducible exact h | with_reducible assumption | with_reducible apply Evolves.ite
    | with_reducible apply Evolves.elim | with_reducible apply Device.slotUse_evolves
    | with_reducible apply Device.takeUse_evolves | with_reducible apply Evolves.ite2
    | with_reducible apply Evolves.elim2 | intro _ _ hq | intro _ | split

theorem Device.provision_evolves {a : Device} {d : Device} {pr : Nat} (h : Evolves a d) :
    Evolves a (Device.provision d pr).2 := by
  unfold Device.provision
  try dsimp only
  repeat' first
    | with_reducible exact h | with_reducible apply Evolves.ite | with_reducible apply Device.kekUnwrap_evolves
    | with_reducible apply Device.writeRec_evolves | with_reducible apply Device.clearStats_evolves
    | with_reducible apply Evolves.wr | with_reducible apply Device.setSaState_evolves
    | with_reducible apply Evolves.ite2 | split

theorem Device.saProvisionCore_evolves {a : Device} {r : Req} {pr : Nat} {d : Device} (h : Evolves a d) :
    Evolves a (Device.saProvisionCore r pr d).2 := by
  unfold Device.saProvisionCore
  try dsimp only
  repeat' first
    | with_reducible exact h | with_reducible assumption | with_reducible apply Device.runCmd_evolves
    | with_reducible apply Device.fatalResult_evolves | with_reducible apply Device.provision_evolves
    | with_reducible apply Device.wrCmd_evolves | intro _ _ hq | intro _

theorem Device.storeCtx_evolves {a : Device} {d : Device} {slot : Nat} {x : SaCtx} (h : Evolves a d) :
    Evolves a (Device.storeCtx d slot x) := by
  unfold Device.storeCtx
  try dsimp only
  repeat' first
    | with_reducible exact h | with_reducible apply Device.setCtx_evolves | exact h.same rfl rfl rfl rfl rfl rfl rfl

theorem Device.loadSa_evolves {a : Device} {d : Device} {pr : Nat} {slot : Nat} (h : Evolves a d) :
    Evolves a (Device.loadSa d pr slot).2 := by
  unfold Device.loadSa
  try dsimp only
  repeat' first
    | with_reducible exact h | with_reducible assumption | with_reducible apply Evolves.ite
    | with_reducible apply Device.readLine_evolves | with_reducible apply Device.storeCtx_evolves
    | with_reducible apply Evolves.wr | with_reducible apply Device.setSaState_evolves
    | with_reducible apply Evolves.ite2 | split

theorem Device.saLoadCore_evolves {a : Device} {r : Req} {pr : Nat} {d : Device} (h : Evolves a d) :
    Evolves a (Device.saLoadCore r pr d).2 := by
  unfold Device.saLoadCore
  try dsimp only
  repeat' first
    | with_reducible exact h | with_reducible assumption | with_reducible apply Evolves.elim
    | with_reducible apply Device.runCmd_evolves | with_reducible apply Device.fatalResult_evolves
    | with_reducible apply Device.loadSa_evolves | with_reducible apply Evolves.elim2 | intro _ _ hq | intro _

theorem Device.retireActive_evolves {a : Device} {d : Device} {sc : Nat} (h : Evolves a d) :
    Evolves a (Device.retireActive d sc) := by
  unfold Device.retireActive
  try dsimp only
  repeat' first
    | with_reducible exact h | with_reducible assumption | with_reducible apply Evolves.elim
    | with_reducible apply Device.setSaState_evolves | intro _ _ hq | intro _

theorem Device.saActivate_evolves {a : Device} {d : Device} {pr : Nat} (h : Evolves a d) :
    Evolves a (Device.saActivate d pr) := by
  unfold Device.saActivate
  try dsimp only
  repeat' first
    | with_reducible exact h | with_reducible apply Device.retireActive_evolves
    | with_reducible apply Device.setSaState_evolves | with_reducible apply Evolves.wr
    | with_reducible apply Device.setHoldUntil_evolves | with_reducible apply Device.inc32_evolves
    | with_reducible apply Device.refreshSc_evolves

theorem Device.copyFire_evolves {a : Device} {d : Device} {pr : Nat} {late : Bool} {stepped : Bool} (h : Evolves a d) :
    Evolves a (Device.copyFire d pr late stepped) := by
  unfold Device.copyFire
  try dsimp only
  repeat' first
    | with_reducible exact h | with_reducible apply Device.wrBit_evolves
    | with_reducible apply Device.stepped_evolves

theorem Device.txHandover_evolves {a : Device} {d : Device} {sc : Nat} {late : Bool} {stepped : Bool} (h : Evolves a d) :
    Evolves a (Device.txHandover d sc late stepped) := by
  unfold Device.txHandover
  try dsimp only
  repeat' first
    | with_reducible exact h | with_reducible assumption | with_reducible apply Evolves.elim
    | with_reducible apply Device.copyFire_evolves | with_reducible apply Device.stepped_evolves
    | with_reducible apply Device.saActivate_evolves | intro _ _ hq | intro _

theorem Device.zoneEnd_evolves {a : Device} {d : Device} {sc : Nat} {late : Bool} {stepped : Bool} (h : Evolves a d) :
    Evolves a (Device.zoneEnd d sc late stepped) := by
  unfold Device.zoneEnd
  try dsimp only
  repeat' first
    | with_reducible exact h | with_reducible assumption | with_reducible apply Evolves.elim
    | with_reducible apply Device.copyFire_evolves | with_reducible apply Device.stepped_evolves
    | with_reducible apply Device.saActivate_evolves | with_reducible apply Device.wrBit_evolves
    | with_reducible apply Device.note_evolves | intro _ _ hq | intro _ | split

theorem Device.earlyHandover_evolves {a : Device} {d : Device} {sc : Nat} (h : Evolves a d) :
    Evolves a (Device.earlyHandover d sc) := by
  unfold Device.earlyHandover
  try dsimp only
  repeat' first
    | with_reducible exact h | with_reducible assumption | with_reducible apply Evolves.ite
    | with_reducible apply Evolves.elim | with_reducible apply Device.gunCancel_evolves
    | with_reducible apply Device.wrBit_evolves | with_reducible apply Device.saActivate_evolves | intro _ _ hq
    | intro _ | split

theorem Device.armSa_evolves {a : Device} {d : Device} {pr : Nat} (h : Evolves a d) :
    Evolves a (Device.armSa d pr) := by
  unfold Device.armSa
  try dsimp only
  repeat' first
    | with_reducible exact h | with_reducible assumption | with_reducible apply Evolves.ite
    | with_reducible apply Evolves.elim | with_reducible apply Device.saActivate_evolves
    | with_reducible apply Device.setSaState_evolves | with_reducible apply Device.gunTake_evolves
    | with_reducible apply Device.refreshSc_evolves | intro _ _ hq | intro _ | split

theorem Device.saArmCore_evolves {a : Device} {r : Req} {pr : Nat} {d : Device} (h : Evolves a d) :
    Evolves a (Device.saArmCore r pr d).2 := by
  unfold Device.saArmCore
  try dsimp only
  repeat' first
    | with_reducible exact h | with_reducible assumption | with_reducible apply Device.runCmd_evolves
    | with_reducible apply Device.armSa_evolves | intro _ _ hq | intro _

theorem Device.cancelSa_evolves {a : Device} {d : Device} {pr : Nat} (h : Evolves a d) :
    Evolves a (Device.cancelSa d pr) := by
  unfold Device.cancelSa
  try dsimp only
  repeat' first
    | with_reducible exact h | with_reducible assumption | with_reducible apply Evolves.ite
    | with_reducible apply Evolves.elim | with_reducible apply Device.gunCancel_evolves
    | with_reducible apply Device.setSaState_evolves | with_reducible apply Device.refreshSc_evolves | intro _ _ hq
    | intro _ | split

theorem Device.saCancelCore_evolves {a : Device} {r : Req} {pr : Nat} {d : Device} (h : Evolves a d) :
    Evolves a (Device.saCancelCore r pr d).2 := by
  unfold Device.saCancelCore
  try dsimp only
  repeat' first
    | with_reducible exact h | with_reducible assumption | with_reducible apply Device.runCmd_evolves
    | with_reducible apply Device.cancelSa_evolves | intro _ _ hq | intro _

theorem Device.leaveForce_evolves {a : Device} {d : Device} {pr : Nat} (h : Evolves a d) :
    Evolves a (Device.leaveForce d pr) := by
  unfold Device.leaveForce
  try dsimp only
  repeat' first
    | with_reducible exact h | with_reducible apply Evolves.ite | with_reducible apply Evolves.wr | split

theorem Device.retireBad_evolves {a : Device} {d : Device} {pr : Nat} (h : Evolves a d) :
    Evolves a (Device.retireBad d pr) := by
  unfold Device.retireBad
  try dsimp only
  repeat' first
    | with_reducible exact h | with_reducible apply Evolves.ite | with_reducible apply Device.leaveForce_evolves
    | with_reducible apply Device.setSaState_evolves | with_reducible apply Device.refreshSc_evolves
    | with_reducible apply Device.freeSaSlot_evolves | split

theorem Device.retireSa_evolves {a : Device} {d : Device} {pr : Nat} (h : Evolves a d) :
    Evolves a (Device.retireSa d pr) := by
  unfold Device.retireSa
  try dsimp only
  repeat' first
    | with_reducible exact h | with_reducible apply Evolves.ite | with_reducible apply Device.retireBad_evolves
    | with_reducible apply Device.leaveForce_evolves | with_reducible apply Device.setSaState_evolves
    | with_reducible apply Device.refreshSc_evolves | split

theorem Device.saRetireCore_evolves {a : Device} {r : Req} {pr : Nat} {d : Device} (h : Evolves a d) :
    Evolves a (Device.saRetireCore r pr d).2 := by
  unfold Device.saRetireCore
  try dsimp only
  repeat' first
    | with_reducible exact h | with_reducible assumption | with_reducible apply Device.runCmd_evolves
    | with_reducible apply Device.retireSa_evolves | intro _ _ hq | intro _

theorem Device.unloadSa_evolves {a : Device} {d : Device} {pr : Nat} (h : Evolves a d) :
    Evolves a (Device.unloadSa d pr) := by
  unfold Device.unloadSa
  try dsimp only
  repeat' first
    | with_reducible exact h | with_reducible apply Evolves.ite | with_reducible apply Device.retireBad_evolves
    | with_reducible apply Device.freeSaSlot_evolves | with_reducible apply Device.setSaState_evolves | split

theorem Device.saUnloadCore_evolves {a : Device} {r : Req} {pr : Nat} {d : Device} (h : Evolves a d) :
    Evolves a (Device.saUnloadCore r pr d).2 := by
  unfold Device.saUnloadCore
  try dsimp only
  repeat' first
    | with_reducible exact h | with_reducible assumption | with_reducible apply Device.runCmd_evolves
    | with_reducible apply Device.unloadSa_evolves | intro _ _ hq | intro _

theorem Device.releaseSa_evolves {a : Device} {d : Device} {pr : Nat} (h : Evolves a d) :
    Evolves a (Device.releaseSa d pr) := by
  unfold Device.releaseSa
  try dsimp only
  repeat' first
    | with_reducible exact h | with_reducible apply Device.writeRec_evolves
    | with_reducible apply Device.setRec_evolves | with_reducible apply Device.clearStats_evolves
    | with_reducible apply Device.setSaState_evolves

theorem Device.saReleaseCore_evolves {a : Device} {r : Req} {pr : Nat} {d : Device} (h : Evolves a d) :
    Evolves a (Device.saReleaseCore r pr d).2 := by
  unfold Device.saReleaseCore
  try dsimp only
  repeat' first
    | with_reducible exact h | with_reducible assumption | with_reducible apply Device.runCmd_evolves
    | with_reducible apply Device.releaseSa_evolves | intro _ _ hq | intro _

theorem Device.saDrained_evolves {a : Device} {pr : Nat} {d : Device} (h : Evolves a d) :
    Evolves a (Device.saDrained pr d) := by
  unfold Device.saDrained
  try dsimp only
  repeat' first
    | with_reducible exact h | with_reducible assumption | with_reducible apply Evolves.ite
    | with_reducible apply Evolves.foldl | with_reducible apply Device.freeSlotOf_evolves
    | with_reducible apply Device.freeSaSlot_evolves | with_reducible apply Device.setSaState_evolves
    | with_reducible apply Device.refreshSc_evolves | intro _ _ hq | intro _ | split

end Sys2Proof.Machine
end

