-- ==== Sys2Proof/Laws/EvolveVault.lean ====
section
/-!
SUPPORT. The operations of Machine/Vault.lean respect what every operation respects (Laws/Evolve.lean).
-/
set_option Elab.async false
set_option linter.all false
set_option linter.unusedTactic false
set_option linter.unreachableTactic false
set_option linter.style.longLine false
namespace Sys2Proof.Machine

theorem Device.importStore_evolves {a : Device} {d : Device} {s : Nat} {k : Nat} {p : Bytes} (h : Evolves a d) :
    Evolves a (Device.importStore d s k p) := by
  unfold Device.importStore
  try dsimp only
  repeat' first
    | with_reducible exact h | with_reducible apply Evolves.ite | with_reducible apply Device.fillSlot_evolves
    | with_reducible apply Evolves.wr | split

theorem Device.importKey_evolves {a : Device} {d : Device} {s : Nat} (h : Evolves a d) :
    Evolves a (Device.importKey d s).2 := by
  unfold Device.importKey
  try dsimp only
  repeat' first
    | with_reducible exact h | with_reducible assumption | with_reducible apply Evolves.ite
    | with_reducible apply Evolves.elim | with_reducible apply Device.kekUnwrap_evolves
    | with_reducible apply Device.importStore_evolves | with_reducible apply Evolves.ite2
    | with_reducible apply Evolves.elim2 | intro _ _ hq | intro _ | split

theorem Device.vaultImportCore_evolves {a : Device} {r : Req} {s : Nat} {d : Device} (h : Evolves a d) :
    Evolves a (Device.vaultImportCore r s d).2 := by
  unfold Device.vaultImportCore
  try dsimp only
  repeat' first
    | with_reducible exact h | with_reducible assumption | with_reducible apply Device.runCmd_evolves
    | with_reducible apply Device.fatalResult_evolves | with_reducible apply Device.importKey_evolves
    | with_reducible apply Device.wrCmd_evolves | intro _ _ hq | intro _

theorem Device.deriveInto_evolves {a : Device} {d : Device} {s : Nat} {p : Nat} {k : Nat} (h : Evolves a d) :
    Evolves a (Device.deriveInto d s p k).2 := by
  unfold Device.deriveInto
  try dsimp only
  repeat' first
    | with_reducible exact h | with_reducible apply Evolves.ite | with_reducible apply Device.slotUse_evolves
    | with_reducible apply Device.fillSlot_evolves | with_reducible apply Evolves.wr
    | with_reducible apply Evolves.ite2 | split

theorem Device.vaultDeriveCore_evolves {a : Device} {r : Req} {s : Nat} {d : Device} (h : Evolves a d) :
    Evolves a (Device.vaultDeriveCore r s d).2 := by
  unfold Device.vaultDeriveCore
  try dsimp only
  repeat' first
    | with_reducible exact h | with_reducible assumption | with_reducible apply Evolves.elim
    | with_reducible apply Device.runCmd_evolves | with_reducible apply Device.deriveInto_evolves
    | with_reducible apply Evolves.elim2 | intro _ _ hq | intro _ | split

theorem Device.deriveSlot3_evolves {a : Device} {d : Device} {m : Nat} (h : Evolves a d) :
    Evolves a (Device.deriveSlot3 d m).2 := by
  unfold Device.deriveSlot3
  try dsimp only
  repeat' first
    | with_reducible exact h | with_reducible apply Evolves.ite | with_reducible apply Device.slotUse_evolves
    | with_reducible apply Device.fillSlot_evolves | with_reducible apply Evolves.ite2 | split

theorem Device.deriveSuccessorCore_evolves {a : Device} {r : Req} {s : Nat} {d : Device} (h : Evolves a d) :
    Evolves a (Device.deriveSuccessorCore r s d).2 := by
  unfold Device.deriveSuccessorCore
  try dsimp only
  repeat' first
    | with_reducible exact h | with_reducible assumption | with_reducible apply Evolves.elim
    | with_reducible apply Device.runCmd_evolves | with_reducible apply Device.deriveSlot3_evolves
    | with_reducible apply Evolves.elim2 | intro _ _ hq | intro _

theorem Device.afterJobs_evolves {a : Device} {d : Device} {s : Nat} {all : Bool} {uses : LaJob → Bool} (h : Evolves a d) :
    Evolves a (Device.afterJobs d s all uses).2 := by
  unfold Device.afterJobs
  try dsimp only
  repeat' first
    | with_reducible exact h | with_reducible apply Evolves.ite | with_reducible apply Device.closeSessions_evolves
    | with_reducible apply Device.setLa_evolves | with_reducible apply Evolves.ite2 | split

theorem Device.zeroizeSlotCore_evolves {a : Device} {r : Req} {s : Nat} {d : Device} (h : Evolves a d) :
    Evolves a (Device.zeroizeSlotCore r s d).2 := by
  unfold Device.zeroizeSlotCore
  try dsimp only
  repeat' first
    | with_reducible exact h | with_reducible assumption | with_reducible apply Evolves.elim
    | with_reducible apply Device.runCmd_evolves | with_reducible apply Device.zeroSlot_evolves
    | with_reducible apply Device.afterJobs_evolves | with_reducible apply Evolves.elim2 | intro _ _ hq | intro _

theorem Device.zeroizeTenantCore_evolves {a : Device} {r : Req} {s : Nat} {d : Device} (h : Evolves a d) :
    Evolves a (Device.zeroizeTenantCore r s d).2 := by
  unfold Device.zeroizeTenantCore
  try dsimp only
  repeat' first
    | with_reducible exact h | with_reducible assumption | with_reducible apply Evolves.foldl
    | with_reducible apply Device.runCmd_evolves | with_reducible apply Device.zeroSa_evolves
    | with_reducible apply Evolves.foldl2 | intro _ _ hq | intro _

theorem Device.zeroizeAllCore_evolves {a : Device} {r : Req} {s : Nat} {d : Device} (h : Evolves a d) :
    Evolves a (Device.zeroizeAllCore r s d).2 := by
  unfold Device.zeroizeAllCore
  try dsimp only
  repeat' first
    | with_reducible exact h | with_reducible assumption | with_reducible apply Device.runCmd_evolves
    | with_reducible apply Device.zeroKeys_evolves | with_reducible apply Device.afterJobs_evolves | intro _ _ hq
    | intro _

theorem Device.scrubMove_evolves {a : Device} {d : Device} {p : Nat} (h : Evolves a d) :
    Evolves a (Device.scrubMove d p) := by
  unfold Device.scrubMove
  try dsimp only
  repeat' first
    | with_reducible exact h | with_reducible assumption | with_reducible apply Evolves.ite
    | with_reducible apply Device.setKeys_evolves | with_reducible apply Device.inc64_evolves | intro _ _ hq
    | intro _ | split

theorem Device.vaultScrubVisit_evolves {a : Device} {t : ScrubTarget} {ok : Bool} {d : Device} (h : Evolves a d) :
    Evolves a (Device.vaultScrubVisit t ok d) := by
  unfold Device.vaultScrubVisit
  try dsimp only
  repeat' first
    | with_reducible exact h | with_reducible assumption | with_reducible apply Evolves.ite
    | with_reducible apply Device.passTo_evolves | with_reducible apply Device.scrubMove_evolves
    | with_reducible apply Device.vaultFails_evolves | with_reducible apply Device.ctxFails_evolves | split

theorem Device.drbgReseed_evolves {a : Device} {d : Device} (h : Evolves a d) :
    Evolves a (Device.drbgReseed d) := by
  unfold Device.drbgReseed
  try dsimp only
  repeat' first
    | with_reducible exact h | with_reducible apply Evolves.ite | with_reducible apply Device.passTo_evolves
    | with_reducible apply Device.seeded_evolves | with_reducible apply Device.inc64_evolves | split

theorem Device.entropyTestFail_evolves {a : Device} {d : Device} (h : Evolves a d) :
    Evolves a (Device.entropyTestFail d) := by
  unfold Device.entropyTestFail
  try dsimp only
  repeat' first
    | with_reducible exact h | with_reducible apply Evolves.ite | with_reducible apply Device.inc32_evolves
    | with_reducible apply Evolves.wr | with_reducible apply Device.setKeys_evolves
    | with_reducible apply Device.fault_evolves | split

theorem Device.startupFail_evolves {a : Device} {d : Device} (h : Evolves a d) :
    Evolves a (Device.startupFail d) := by
  unfold Device.startupFail
  try dsimp only
  repeat' first
    | with_reducible exact h | with_reducible apply Evolves.ite | with_reducible apply Device.setKeys_evolves
    | with_reducible apply Device.inc32_evolves | with_reducible apply Evolves.wr
    | with_reducible apply Device.fault_evolves | split

theorem Device.entropyRestartDone_evolves {a : Device} {passed : Bool} {d : Device} (h : Evolves a d) :
    Evolves a (Device.entropyRestartDone passed d) := by
  unfold Device.entropyRestartDone
  try dsimp only
  repeat' first
    | with_reducible exact h | with_reducible apply Evolves.ite | with_reducible apply Device.setKeys_evolves
    | with_reducible apply Evolves.wr | with_reducible apply Device.startupFail_evolves | split

theorem Device.drbgReinstantiate_evolves {a : Device} {passed : Bool} {d : Device} (h : Evolves a d) :
    Evolves a (Device.drbgReinstantiate passed d) := by
  unfold Device.drbgReinstantiate
  try dsimp only
  repeat' first
    | with_reducible exact h | with_reducible apply Evolves.ite | with_reducible apply Device.setKeys_evolves
    | with_reducible apply Evolves.wr | with_reducible apply Device.seeded_evolves
    | with_reducible apply Device.startupFail_evolves | split

end Sys2Proof.Machine
end

