-- ==== Sys2Proof/Laws/EvolveLookaside.lean ====
section
/-!
SUPPORT. The operations of Machine/Lookaside.lean respect what every operation respects (Laws/Evolve.lean).
-/
set_option Elab.async false
set_option linter.all false
set_option linter.unusedTactic false
set_option linter.unreachableTactic false
set_option linter.style.longLine false
namespace Sys2Proof.Machine

theorem Device.setJobs_evolves {a : Device} {d : Device} {l : List LaJob} (h : Evolves a d) :
    Evolves a (Device.setJobs d l) := by
  unfold Device.setJobs
  try dsimp only
  repeat' first
    | with_reducible exact h | with_reducible apply Device.setLa_evolves | with_reducible apply Evolves.wr

theorem Device.setLaLast_evolves {a : Device} {d : Device} {n : Nat} (h : Evolves a d) :
    Evolves a (Device.setLaLast d n) := by
  unfold Device.setLaLast
  try dsimp only
  repeat' first
    | with_reducible exact h | with_reducible apply Device.setLa_evolves

theorem Device.laRotate_evolves {a : Device} {d : Device} (h : Evolves a d) :
    Evolves a (Device.laRotate d) := by
  unfold Device.laRotate
  try dsimp only
  repeat' first
    | with_reducible exact h | with_reducible assumption | with_reducible apply Evolves.ite
    | with_reducible apply Device.setLaLast_evolves | with_reducible apply Device.setJobs_evolves | intro _ _ hq
    | intro _ | exact h.same rfl rfl rfl rfl rfl rfl rfl | exact hq.same rfl rfl rfl rfl rfl rfl rfl | split

theorem Device.laIv_evolves {a : Device} {d : Device} {x : Descriptor} {p : LaParams} (h : Evolves a d) :
    Evolves a (Device.laIv d x p).2 := by
  unfold Device.laIv
  try dsimp only
  repeat' first
    | with_reducible exact h | with_reducible apply Evolves.ite | with_reducible apply Device.drawBytes_evolves
    | with_reducible apply Evolves.ite2 | split

theorem Device.laAccept_evolves {a : Device} {d : Device} {n : Nat} {k : Nat} {core : Nat} {x : Descriptor} {p : LaParams} {src : Bytes} {aad : Bytes} (h : Evolves a d) :
    Evolves a (Device.laAccept d n k core x p src aad) := by
  unfold Device.laAccept
  try dsimp only
  repeat' first
    | with_reducible exact h | with_reducible apply Evolves.ite | with_reducible apply Device.takeUse_evolves
    | with_reducible apply Device.inc64_evolves | with_reducible apply Device.dmaComplete_evolves
    | with_reducible apply Device.laIv_evolves | with_reducible apply Device.address_evolves
    | with_reducible apply Device.setJobs_evolves | with_reducible apply Device.dmaTake_evolves
    | with_reducible apply Evolves.ite2 | exact h.same rfl rfl rfl rfl rfl rfl rfl | split

theorem Device.laTake_evolves {a : Device} {d : Device} {n : Nat} {x : Descriptor} {p : LaParams} {src : Bytes} {aad : Bytes} (h : Evolves a d) :
    Evolves a (Device.laTake d n x p src aad) := by
  unfold Device.laTake
  try dsimp only
  repeat' first
    | with_reducible exact h | with_reducible assumption | with_reducible apply Evolves.ite
    | with_reducible apply Evolves.elim | with_reducible apply Device.dmaComplete_evolves
    | with_reducible apply Device.slotUse_evolves | with_reducible apply Device.laAccept_evolves
    | with_reducible apply Evolves.ite2 | with_reducible apply Evolves.elim2 | intro _ _ hq | intro _ | split

theorem Device.lookasideJobStart_evolves {a : Device} {n : Nat} {x : Descriptor} {p : LaParams} {src : Bytes} {aad : Bytes} {d : Device} (h : Evolves a d) :
    Evolves a (Device.lookasideJobStart n x p src aad d) := by
  unfold Device.lookasideJobStart
  try dsimp only
  repeat' first
    | with_reducible exact h | with_reducible apply Evolves.ite | with_reducible apply Device.dmaAdvance_evolves
    | with_reducible apply Device.setLaLast_evolves | with_reducible apply Device.laTake_evolves
    | with_reducible apply Device.laRotate_evolves | split

theorem Device.laProcessed_evolves {a : Device} {d : Device} {ring : Nat} {n : Nat} (h : Evolves a d) :
    Evolves a (Device.laProcessed d ring n) := by
  unfold Device.laProcessed
  try dsimp only
  repeat' first
    | with_reducible exact h | with_reducible assumption | with_reducible apply Evolves.elim
    | with_reducible apply Device.add64_evolves | with_reducible apply Device.pmcHub_evolves | intro _ _ hq | intro _

theorem Device.lookasideSliceYield_evolves {a : Device} {n : Nat} {d : Device} (h : Evolves a d) :
    Evolves a (Device.lookasideSliceYield n d) := by
  unfold Device.lookasideSliceYield
  try dsimp only
  repeat' first
    | with_reducible exact h | with_reducible assumption | with_reducible apply Evolves.ite
    | with_reducible apply Device.setJobs_evolves | with_reducible apply Device.laProcessed_evolves
    | with_reducible apply Device.laRotate_evolves | intro _ _ hq | intro _
    | exact h.same rfl rfl rfl rfl rfl rfl rfl | exact hq.same rfl rfl rfl rfl rfl rfl rfl | split

theorem Device.laWrite_evolves {a : Device} {d : Device} {j : LaJob} {res : LaResult} {kind : Bytes} (h : Evolves a d) :
    Evolves a (Device.laWrite d j res kind) := by
  unfold Device.laWrite
  try dsimp only
  repeat' first
    | with_reducible exact h | with_reducible apply Evolves.ite | with_reducible apply Evolves.emit | split

theorem Device.laEnd_evolves {a : Device} {d : Device} {j : LaJob} {pcieError : Bool} (h : Evolves a d) :
    Evolves a (Device.laEnd d j pcieError) := by
  unfold Device.laEnd
  try dsimp only
  repeat' first
    | with_reducible exact h | with_reducible assumption | with_reducible apply Evolves.ite
    | with_reducible apply Evolves.unstated | with_reducible apply Device.dmaFinish_evolves
    | with_reducible apply Device.inc64_evolves | with_reducible apply Device.laWrite_evolves
    | with_reducible apply Evolves.ite2 | intro _ _ hq | intro _ | split

theorem Device.lookasideJobComplete_evolves {a : Device} {n : Nat} {pcieError : Bool} {d : Device} (h : Evolves a d) :
    Evolves a (Device.lookasideJobComplete n pcieError d) := by
  unfold Device.lookasideJobComplete
  try dsimp only
  repeat' first
    | with_reducible exact h | with_reducible assumption | with_reducible apply Evolves.ite
    | with_reducible apply Device.setJobs_evolves | with_reducible apply Device.laProcessed_evolves
    | with_reducible apply Device.laEnd_evolves | with_reducible apply Device.jobGone_evolves
    | with_reducible apply Device.laRotate_evolves | intro _ _ hq | intro _ | split

end Sys2Proof.Machine
end

