-- ==== Sys2Proof/Laws/EvolveClassifier.lean ====
section
/-!
SUPPORT. The operations of Machine/Classifier.lean respect what every operation respects (Laws/Evolve.lean).
-/
set_option Elab.async false
set_option linter.all false
set_option linter.unusedTactic false
set_option linter.unreachableTactic false
set_option linter.style.longLine false
namespace Sys2Proof.Machine

theorem Device.setPairCount_evolves {a : Device} {d : Device} {port : Nat} {ca : Nat} {n : Nat} (h : Evolves a d) :
    Evolves a (Device.setPairCount d port ca n) := by
  unfold Device.setPairCount
  try dsimp only
  repeat' first
    | with_reducible exact h | with_reducible apply Device.setCls_evolves

theorem Device.countEntry_evolves {a : Device} {e : ClsEnt} {d : Device} (h : Evolves a d) :
    Evolves a (Device.countEntry e d) := by
  unfold Device.countEntry
  try dsimp only
  repeat' first
    | with_reducible exact h | with_reducible apply Evolves.ite | with_reducible apply Evolves.wr
    | with_reducible apply Device.setPairCount_evolves | split

theorem Device.uncountEntry_evolves {a : Device} {e : ClsEnt} {d : Device} (h : Evolves a d) :
    Evolves a (Device.uncountEntry e d) := by
  unfold Device.uncountEntry
  try dsimp only
  repeat' first
    | with_reducible exact h | with_reducible apply Evolves.ite | with_reducible apply Evolves.wr
    | with_reducible apply Device.setPairCount_evolves | split

theorem Device.setTable_evolves {a : Device} {d : Device} {l : List (Nat × ClsEnt)} (h : Evolves a d) :
    Evolves a (Device.setTable d l) := by
  unfold Device.setTable
  try dsimp only
  repeat' first
    | with_reducible exact h | with_reducible apply Device.setCls_evolves

theorem Device.setWay_evolves {a : Device} {d : Device} {pos : Nat} {e : ClsEnt} (h : Evolves a d) :
    Evolves a (Device.setWay d pos e) := by
  unfold Device.setWay
  try dsimp only
  repeat' first
    | with_reducible exact h | with_reducible assumption | with_reducible apply Device.countEntry_evolves
    | with_reducible apply Device.uncountEntry_evolves | with_reducible apply Device.setTable_evolves | intro _ _ hq
    | intro _

theorem Device.setBits_evolves {a : Device} {d : Device} {pos : Nat} {result : Nat} (h : Evolves a d) :
    Evolves a (Device.setBits d pos result) := by
  unfold Device.setBits
  try dsimp only
  repeat' first
    | with_reducible exact h | with_reducible assumption | with_reducible apply Device.setTable_evolves
    | intro _ _ hq | intro _

theorem Device.setCacheFrame_evolves {a : Device} {d : Device} {f : Nat} {v : Nat} (h : Evolves a d) :
    Evolves a (Device.setCacheFrame d f v) := by
  unfold Device.setCacheFrame
  try dsimp only
  repeat' first
    | with_reducible exact h | with_reducible apply Device.setCls_evolves

theorem Device.markDirty_evolves {a : Device} {d : Device} {b : Nat} (h : Evolves a d) :
    Evolves a (Device.markDirty d b) := by
  unfold Device.markDirty
  try dsimp only
  repeat' first
    | with_reducible exact h | with_reducible apply Evolves.ite | with_reducible apply Device.setCacheFrame_evolves
    | split

theorem Device.setShown_evolves {a : Device} {d : Device} {pos : Nat} {r : Nat} (h : Evolves a d) :
    Evolves a (Device.setShown d pos r) := by
  unfold Device.setShown
  try dsimp only
  repeat' first
    | with_reducible exact h | with_reducible apply Device.setCls_evolves

theorem Device.syncWay_evolves {a : Device} {d : Device} {pos : Nat} (h : Evolves a d) :
    Evolves a (Device.syncWay d pos) := by
  unfold Device.syncWay
  try dsimp only
  repeat' first
    | with_reducible exact h | with_reducible apply Evolves.ite | with_reducible apply Device.setBits_evolves
    | with_reducible apply Device.setShown_evolves | split

theorem Device.writeLineBits_evolves {a : Device} {d : Device} {l : Nat} (h : Evolves a d) :
    Evolves a (Device.writeLineBits d l) := by
  unfold Device.writeLineBits
  try dsimp only
  repeat' first
    | with_reducible exact h | with_reducible apply Evolves.ite | with_reducible apply Device.fullLine_evolves
    | with_reducible apply Device.syncWay_evolves | with_reducible apply Evolves.ite2 | split

theorem Device.writeBucket_evolves {a : Device} {d : Device} {b : Nat} (h : Evolves a d) :
    Evolves a (Device.writeBucket d b) := by
  unfold Device.writeBucket
  try dsimp only
  repeat' first
    | with_reducible exact h | with_reducible apply Device.writeLineBits_evolves

theorem Device.hideBucket_evolves {a : Device} {d : Device} {b : Nat} (h : Evolves a d) :
    Evolves a (Device.hideBucket d b) := by
  unfold Device.hideBucket
  try dsimp only
  repeat' first
    | with_reducible exact h | with_reducible assumption | with_reducible apply Evolves.foldl
    | with_reducible apply Device.setShown_evolves | intro _ _ hq | intro _

theorem Device.dropFrame_evolves {a : Device} {d : Device} {f : Nat} (h : Evolves a d) :
    Evolves a (Device.dropFrame d f) := by
  unfold Device.dropFrame
  try dsimp only
  repeat' first
    | with_reducible exact h | with_reducible apply Evolves.ite | with_reducible apply Device.hideBucket_evolves
    | with_reducible apply Device.setCacheFrame_evolves | split

theorem Device.fillBucket_evolves {a : Device} {d : Device} {b : Nat} (h : Evolves a d) :
    Evolves a (Device.fillBucket d b) := by
  unfold Device.fillBucket
  try dsimp only
  repeat' first
    | with_reducible exact h | with_reducible apply Evolves.ite | with_reducible apply Device.writeBucket_evolves
    | with_reducible apply Device.dropFrame_evolves | with_reducible apply Device.setCacheFrame_evolves | split

theorem Device.touchBits_evolves {a : Device} {d : Device} {pos : Nat} {result : Nat} (h : Evolves a d) :
    Evolves a (Device.touchBits d pos result) := by
  unfold Device.touchBits
  try dsimp only
  repeat' first
    | with_reducible exact h | with_reducible apply Evolves.ite | with_reducible apply Device.setShown_evolves
    | with_reducible apply Device.markDirty_evolves | with_reducible apply Device.fullLine_evolves
    | with_reducible apply Device.setBits_evolves | with_reducible apply Evolves.ite2 | split

theorem Device.lookupUnits_evolves {a : Device} {d : Device} {b : Nat} {n : Nat} (h : Evolves a d) :
    Evolves a (Device.lookupUnits d b n) := by
  unfold Device.lookupUnits
  try dsimp only
  repeat' first
    | with_reducible exact h | with_reducible apply Device.pmcHub_evolves

theorem Device.lookup_evolves {a : Device} {d : Device} {key : Nat} (h : Evolves a d) :
    Evolves a (Device.lookup d key).2 := by
  unfold Device.lookup
  try dsimp only
  repeat' first
    | with_reducible exact h | with_reducible assumption | with_reducible apply Device.inc64_evolves
    | with_reducible apply Device.touchBits_evolves | split

theorem Device.readBucket_evolves {a : Device} {d : Device} {b : Nat} (h : Evolves a d) :
    Evolves a (Device.readBucket d b).2 := by
  unfold Device.readBucket
  try dsimp only
  repeat' first
    | with_reducible exact h | with_reducible apply Device.readLine_evolves

theorem Device.readLookup_evolves {a : Device} {d : Device} {key : Nat} (h : Evolves a d) :
    Evolves a (Device.readLookup d key).2 := by
  unfold Device.readLookup
  try dsimp only
  repeat' first
    | with_reducible exact h | with_reducible assumption | with_reducible apply Device.readBucket_evolves
    | intro _ _ hq | intro _

theorem Device.fillRead_evolves {a : Device} {d : Device} {x : LookupRead} {b : Nat} (h : Evolves a d) :
    Evolves a (Device.fillRead d x b) := by
  unfold Device.fillRead
  try dsimp only
  repeat' first
    | with_reducible exact h | with_reducible apply Evolves.ite | with_reducible apply Device.fillBucket_evolves
    | split

theorem Device.hitKey_evolves {a : Device} {d : Device} {x : LookupRead} {key : Nat} (h : Evolves a d) :
    Evolves a (Device.hitKey d x key) := by
  unfold Device.hitKey
  try dsimp only
  repeat' first
    | with_reducible exact h | with_reducible assumption | with_reducible apply Evolves.elim
    | with_reducible apply Device.touchBits_evolves | intro _ _ hq | intro _

theorem Device.lookupReturn_evolves {a : Device} {d : Device} {key : Nat} {x : LookupRead} (h : Evolves a d) :
    Evolves a (Device.lookupReturn d key x).2 := by
  unfold Device.lookupReturn
  try dsimp only
  repeat' first
    | with_reducible exact h | with_reducible apply Evolves.ite | with_reducible apply Device.fillRead_evolves
    | with_reducible apply Device.hitKey_evolves | with_reducible apply Evolves.ite2 | split

theorem Device.engineRead_evolves {a : Device} {d : Device} {b : Nat} (h : Evolves a d) :
    Evolves a (Device.engineRead d b).2 := by
  unfold Device.engineRead
  try dsimp only
  repeat' first
    | with_reducible exact h | with_reducible apply Evolves.ite | with_reducible apply Device.readBucket_evolves
    | with_reducible apply Evolves.ite2 | split

theorem Device.engineReads_evolves {a : Device} {d : Device} {key : Nat} (h : Evolves a d) :
    Evolves a (Device.engineReads d key).2 := by
  unfold Device.engineReads
  try dsimp only
  repeat' first
    | with_reducible exact h | with_reducible apply Device.engineRead_evolves

theorem Device.walk_evolves {a : Device} {x0 : Nat} {x1 : Nat} {x2 : Option Nat} {x3 : List (Nat × Nat)} {d : Device} (h : Evolves a d) :
    Evolves a (Device.walk x0 x1 x2 x3 d).2 := by
  induction x0 generalizing x1 x2 x3 d with
  | zero =>
    unfold Device.walk
    try dsimp only
    repeat' first
      | with_reducible exact h | with_reducible assumption | with_reducible apply Evolves.ite
      | with_reducible apply Evolves.draw | with_reducible apply Device.engineRead_evolves
      | with_reducible apply Evolves.ite2 | split
  | succ _ ih =>
    unfold Device.walk
    try dsimp only
    repeat' first
      | with_reducible exact h | with_reducible apply ih | with_reducible assumption
      | with_reducible apply Evolves.ite | with_reducible apply Evolves.draw
      | with_reducible apply Device.engineRead_evolves | with_reducible apply Evolves.ite2 | split

theorem Device.victim_evolves {a : Device} {d : Device} {c : Nat × Nat} (h : Evolves a d) :
    Evolves a (Device.victim d c).2 := by
  unfold Device.victim
  try dsimp only
  repeat' first
    | with_reducible exact h | with_reducible assumption | with_reducible apply Evolves.ite
    | with_reducible apply Evolves.foldl | with_reducible apply Evolves.draw | with_reducible apply Evolves.ite2
    | with_reducible apply Evolves.foldl2 | intro _ _ hq | intro _ | split

theorem Device.plan_evolves {a : Device} {d : Device} {key : Nat} (h : Evolves a d) :
    Evolves a (Device.plan d key).2 := by
  unfold Device.plan
  try dsimp only
  repeat' first
    | with_reducible exact h | with_reducible assumption | with_reducible apply Evolves.ite
    | with_reducible apply Device.engineReads_evolves | with_reducible apply Device.walk_evolves
    | with_reducible apply Device.victim_evolves | with_reducible apply Evolves.ite2 | intro _ _ hq | intro _ | split

theorem Device.staleReads_evolves {a : Device} {d : Device} {b : Nat} (h : Evolves a d) :
    Evolves a (Device.staleReads d b) := by
  unfold Device.staleReads
  try dsimp only
  repeat' first
    | with_reducible exact h | with_reducible assumption | with_reducible apply Evolves.ite
    | with_reducible apply Device.setPipe_evolves | intro _ _ hq | intro _ | split

theorem Device.writeWay_evolves {a : Device} {d : Device} {pos : Nat} {e : ClsEnt} (h : Evolves a d) :
    Evolves a (Device.writeWay d pos e).2 := by
  unfold Device.writeWay
  try dsimp only
  repeat' first
    | with_reducible exact h | with_reducible apply Evolves.ite | with_reducible apply Device.fullLine_evolves
    | with_reducible apply Device.syncWay_evolves | with_reducible apply Device.setWay_evolves
    | with_reducible apply Device.setShown_evolves | with_reducible apply Device.staleReads_evolves
    | with_reducible apply Evolves.ite2 | split

theorem Device.deleteWay_evolves {a : Device} {d : Device} {pos : Nat} (h : Evolves a d) :
    Evolves a (Device.deleteWay d pos) := by
  unfold Device.deleteWay
  try dsimp only
  repeat' first
    | with_reducible exact h | with_reducible apply Device.writeWay_evolves

theorem Device.moveEntry_evolves {a : Device} {ok : Bool × Device} {m : Nat × Nat} (h : Evolves a ok.2) :
    Evolves a (Device.moveEntry ok m).2 := by
  unfold Device.moveEntry
  try dsimp only
  repeat' first
    | with_reducible exact h | with_reducible assumption | with_reducible apply Evolves.ite
    | with_reducible apply Device.writeWay_evolves | with_reducible apply Device.inc64_evolves
    | with_reducible apply Device.lookupUnits_evolves | with_reducible apply Evolves.ite2 | split

theorem Device.evictAt_evolves {a : Device} {d : Device} {pos : Nat} {key : Nat} (h : Evolves a d) :
    Evolves a (Device.evictAt d pos key) := by
  unfold Device.evictAt
  try dsimp only
  repeat' first
    | with_reducible exact h | with_reducible apply Evolves.ite | with_reducible apply Device.inc64_evolves | split

theorem Device.insert_evolves {a : Device} {d : Device} {e : ClsEnt} (h : Evolves a d) :
    Evolves a (Device.insert d e).2 := by
  unfold Device.insert
  try dsimp only
  repeat' first
    | with_reducible exact h | with_reducible assumption | with_reducible apply Evolves.ite
    | with_reducible apply Evolves.foldl | with_reducible apply Device.plan_evolves
    | with_reducible apply Device.moveEntry_evolves | with_reducible apply Device.evictAt_evolves
    | with_reducible apply Device.lookupUnits_evolves | with_reducible apply Device.writeWay_evolves
    | with_reducible apply Device.inc64_evolves | with_reducible apply Evolves.ite2
    | with_reducible apply Evolves.foldl2 | intro _ _ hq | intro _ | split

theorem Device.serveJob_evolves {a : Device} {d : Device} {j : InsJob} (h : Evolves a d) :
    Evolves a (Device.serveJob d j) := by
  unfold Device.serveJob
  try dsimp only
  repeat' first
    | with_reducible exact h | with_reducible apply Evolves.ite | with_reducible apply Device.insert_evolves
    | with_reducible apply Device.endCmd_evolves | with_reducible apply Evolves.ite2 | split

theorem Device.setInserts_evolves {a : Device} {d : Device} {l : List InsJob} (h : Evolves a d) :
    Evolves a (Device.setInserts d l) := by
  unfold Device.setInserts
  try dsimp only
  repeat' first
    | with_reducible exact h | with_reducible apply Device.setCls_evolves

theorem Device.drainJobs_evolves {a : Device} {d : Device} (h : Evolves a d) :
    Evolves a (Device.drainJobs d) := by
  unfold Device.drainJobs
  try dsimp only
  repeat' first
    | with_reducible exact h | with_reducible assumption | with_reducible apply Evolves.foldl
    | with_reducible apply Device.serveJob_evolves | with_reducible apply Device.setInserts_evolves | intro _ _ hq
    | intro _

theorem Device.insertEngineDone_evolves {a : Device} {d : Device} (h : Evolves a d) :
    Evolves a (Device.insertEngineDone d) := by
  unfold Device.insertEngineDone
  try dsimp only
  repeat' first
    | with_reducible exact h | with_reducible assumption | with_reducible apply Device.setInserts_evolves
    | with_reducible apply Device.serveJob_evolves | split

theorem Device.clsWriteCore_evolves {a : Device} {r : Req} {s : Nat} {d : Device} (h : Evolves a d) :
    Evolves a (Device.clsWriteCore r s d).2 := by
  unfold Device.clsWriteCore
  try dsimp only
  repeat' first
    | with_reducible exact h | with_reducible assumption | with_reducible apply Device.runCmd_evolves
    | with_reducible apply Device.setInserts_evolves | intro _ _ hq | intro _

theorem Device.clsDelete_evolves {a : Device} {d : Device} {s : Nat} (h : Evolves a d) :
    Evolves a (Device.clsDelete d s).2 := by
  unfold Device.clsDelete
  try dsimp only
  repeat' first
    | with_reducible exact h | with_reducible assumption | with_reducible apply Evolves.ite
    | with_reducible apply Device.drainJobs_evolves | with_reducible apply Device.engineReads_evolves
    | with_reducible apply Evolves.wr | with_reducible apply Device.deleteWay_evolves
    | with_reducible apply Evolves.ite2 | split

theorem Device.clsDeleteCore_evolves {a : Device} {r : Req} {s : Nat} {d : Device} (h : Evolves a d) :
    Evolves a (Device.clsDeleteCore r s d).2 := by
  unfold Device.clsDeleteCore
  try dsimp only
  repeat' first
    | with_reducible exact h | with_reducible assumption | with_reducible apply Evolves.elim
    | with_reducible apply Device.runCmd_evolves | with_reducible apply Device.clsDelete_evolves
    | with_reducible apply Evolves.elim2 | intro _ _ hq | intro _

theorem Device.clsRead_evolves {a : Device} {d : Device} {s : Nat} (h : Evolves a d) :
    Evolves a (Device.clsRead d s).2 := by
  unfold Device.clsRead
  try dsimp only
  repeat' first
    | with_reducible exact h | with_reducible assumption | with_reducible apply Evolves.ite
    | with_reducible apply Device.engineReads_evolves | with_reducible apply Evolves.wr
    | with_reducible apply Device.wrCmd_evolves | with_reducible apply Evolves.ite2 | split

theorem Device.clsReadCore_evolves {a : Device} {r : Req} {s : Nat} {d : Device} (h : Evolves a d) :
    Evolves a (Device.clsReadCore r s d).2 := by
  unfold Device.clsReadCore
  try dsimp only
  repeat' first
    | with_reducible exact h | with_reducible assumption | with_reducible apply Device.runCmd_evolves
    | with_reducible apply Device.clsRead_evolves | intro _ _ hq | intro _

theorem Device.deleteKey_evolves {a : Device} {d : Device} {key : Nat} (h : Evolves a d) :
    Evolves a (Device.deleteKey d key) := by
  unfold Device.deleteKey
  try dsimp only
  repeat' first
    | with_reducible exact h | with_reducible assumption | with_reducible apply Evolves.elim
    | with_reducible apply Device.deleteWay_evolves | intro _ _ hq | intro _

theorem Device.rxscMaintain_evolves {a : Device} {old : Option Nat} {sc : Nat} {d : Device} (h : Evolves a d) :
    Evolves a (Device.rxscMaintain old sc d) := by
  unfold Device.rxscMaintain
  try dsimp only
  repeat' first
    | with_reducible exact h | with_reducible assumption | with_reducible apply Evolves.ite
    | with_reducible apply Evolves.elim | with_reducible apply Device.drainJobs_evolves
    | with_reducible apply Device.insert_evolves | with_reducible apply Device.deleteKey_evolves
    | with_reducible apply Evolves.wr | with_reducible apply Evolves.ite2 | with_reducible apply Evolves.elim2
    | intro _ _ hq | intro _ | split

theorem Device.agePos_evolves {a : Device} {d : Device} {pos : Nat} (h : Evolves a d) :
    Evolves a (Device.agePos d pos) := by
  unfold Device.agePos
  try dsimp only
  repeat' first
    | with_reducible exact h | with_reducible apply Evolves.ite | with_reducible apply Device.touchBits_evolves
    | with_reducible apply Device.deleteWay_evolves | with_reducible apply Device.inc64_evolves | split

theorem Device.setScan_evolves {a : Device} {d : Device} {n : Nat} (h : Evolves a d) :
    Evolves a (Device.setScan d n) := by
  unfold Device.setScan
  try dsimp only
  repeat' first
    | with_reducible exact h | with_reducible apply Device.setCls_evolves

theorem Device.agingScanVisit_evolves {a : Device} {b : Nat} {d : Device} (h : Evolves a d) :
    Evolves a (Device.agingScanVisit b d) := by
  unfold Device.agingScanVisit
  try dsimp only
  repeat' first
    | with_reducible exact h | with_reducible assumption | with_reducible apply Evolves.ite
    | with_reducible apply Evolves.foldl | with_reducible apply Device.passTo_evolves
    | with_reducible apply Device.setScan_evolves | with_reducible apply Device.engineRead_evolves
    | with_reducible apply Device.agePos_evolves | with_reducible apply Evolves.ite2
    | with_reducible apply Evolves.foldl2 | intro _ _ hq | intro _ | split

end Sys2Proof.Machine
end

