-- ==== Sys2Proof/Laws/EvolveLearning.lean ====
section
/-!
SUPPORT. The operations of Machine/Learning.lean respect what every operation respects (Laws/Evolve.lean).
-/
set_option Elab.async false
set_option linter.all false
set_option linter.unusedTactic false
set_option linter.unreachableTactic false
set_option linter.style.longLine false
namespace Sys2Proof.Machine

theorem Device.learnOverflow_evolves {a : Device} {d : Device} {ca : Nat} (h : Evolves a d) :
    Evolves a (Device.learnOverflow d ca).2 := by
  unfold Device.learnOverflow
  try dsimp only
  repeat' first
    | with_reducible exact h | with_reducible apply Evolves.ite | with_reducible apply Device.inc64_evolves
    | with_reducible apply Evolves.ite2 | split

theorem Device.learnHit_evolves {a : Device} {d : Device} {f : Frame} (h : Evolves a d) :
    Evolves a (Device.learnHit d f) := by
  unfold Device.learnHit
  try dsimp only
  repeat' first
    | with_reducible exact h | with_reducible assumption | with_reducible apply Evolves.elim
    | with_reducible apply Device.touchBits_evolves | intro _ _ hq | intro _

theorem Device.learnDecide_evolves {a : Device} {d : Device} {f : Frame} (h : Evolves a d) :
    Evolves a (Device.learnDecide d f).2 := by
  unfold Device.learnDecide
  try dsimp only
  repeat' first
    | with_reducible exact h | with_reducible assumption | with_reducible apply Evolves.ite
    | with_reducible apply Device.learnOverflow_evolves | with_reducible apply Device.learnHit_evolves
    | with_reducible apply Device.inc64_evolves | with_reducible apply Evolves.ite2 | intro _ _ hq | intro _ | split

theorem Device.setBatons_evolves {a : Device} {d : Device} {l : List (Bool × Bytes)} (h : Evolves a d) :
    Evolves a (Device.setBatons d l) := by
  unfold Device.setBatons
  try dsimp only
  repeat' first
    | with_reducible exact h | with_reducible apply Device.setCls_evolves

theorem Device.queueBaton_evolves {a : Device} {d : Device} {b : Bool × Bytes} (h : Evolves a d) :
    Evolves a (Device.queueBaton d b) := by
  unfold Device.queueBaton
  try dsimp only
  repeat' first
    | with_reducible exact h | with_reducible apply Evolves.ite | with_reducible apply Device.inc64_evolves
    | with_reducible apply Device.setBatons_evolves | with_reducible apply Evolves.ite2 | split

theorem Device.learnCommit_evolves {a : Device} {d : Device} {f : Frame} (h : Evolves a d) :
    Evolves a (Device.learnCommit d f) := by
  unfold Device.learnCommit
  try dsimp only
  repeat' first
    | with_reducible exact h | with_reducible assumption | with_reducible apply Evolves.elim
    | with_reducible apply Device.queueBaton_evolves | intro _ _ hq | intro _

theorem Device.unpinned_evolves {a : Device} {d : Device} {ca : Nat} (h : Evolves a d) :
    Evolves a (Device.unpinned d ca) := by
  unfold Device.unpinned
  try dsimp only
  repeat' first
    | with_reducible exact h | with_reducible apply Device.inc64_evolves

theorem Device.learnInsert_evolves {a : Device} {d : Device} {b : Bytes} {ret : Nat} {port : Nat} (h : Evolves a d) :
    Evolves a (Device.learnInsert d b ret port) := by
  unfold Device.learnInsert
  try dsimp only
  repeat' first
    | with_reducible exact h | with_reducible apply Evolves.ite | with_reducible apply Device.insert_evolves
    | with_reducible apply Device.inc64_evolves | with_reducible apply Device.peerSend_evolves
    | with_reducible apply Evolves.ite2 | split

theorem Device.learnLocal_evolves {a : Device} {d : Device} {b : Bytes} (h : Evolves a d) :
    Evolves a (Device.learnLocal d b) := by
  unfold Device.learnLocal
  try dsimp only
  repeat' first
    | with_reducible exact h | with_reducible assumption | with_reducible apply Evolves.ite
    | with_reducible apply Device.unpinned_evolves | with_reducible apply Device.engineReads_evolves
    | with_reducible apply Device.inc64_evolves | with_reducible apply Device.learnInsert_evolves
    | with_reducible apply Evolves.ite2 | split

theorem Device.learnPeer_evolves {a : Device} {d : Device} {b : Bytes} (h : Evolves a d) :
    Evolves a (Device.learnPeer d b) := by
  unfold Device.learnPeer
  try dsimp only
  repeat' first
    | with_reducible exact h | with_reducible assumption | with_reducible apply Evolves.ite
    | with_reducible apply Device.lookupUnits_evolves | with_reducible apply Device.engineReads_evolves
    | with_reducible apply Device.deleteWay_evolves | with_reducible apply Device.inc64_evolves
    | with_reducible apply Evolves.ite2 | split

theorem Device.batonProcess_evolves {a : Device} {d : Device} (h : Evolves a d) :
    Evolves a (Device.batonProcess d) := by
  unfold Device.batonProcess
  try dsimp only
  repeat' first
    | with_reducible exact h | with_reducible assumption | with_reducible apply Evolves.ite
    | with_reducible apply Device.setBatons_evolves | with_reducible apply Device.pmcHub_evolves
    | with_reducible apply Device.drainJobs_evolves | with_reducible apply Device.learnPeer_evolves
    | with_reducible apply Device.learnLocal_evolves | with_reducible apply Evolves.ite2 | split

theorem Device.flushLearned_evolves {a : Device} {d : Device} {ca : Nat} (h : Evolves a d) :
    Evolves a (Device.flushLearned d ca) := by
  unfold Device.flushLearned
  try dsimp only
  repeat' first
    | with_reducible exact h | with_reducible assumption | with_reducible apply Evolves.foldl
    | with_reducible apply Device.drainJobs_evolves | with_reducible apply Device.deleteWay_evolves
    | with_reducible apply Evolves.foldl2 | intro _ _ hq | intro _

theorem Device.learnFlushCore_evolves {a : Device} {r : Req} {ca : Nat} {d : Device} (h : Evolves a d) :
    Evolves a (Device.learnFlushCore r ca d).2 := by
  unfold Device.learnFlushCore
  try dsimp only
  repeat' first
    | with_reducible exact h | with_reducible assumption | with_reducible apply Device.runCmd_evolves
    | with_reducible apply Device.flushLearned_evolves | intro _ _ hq | intro _

theorem Device.gunHeard_evolves {a : Device} {d : Device} {v : Bytes} (h : Evolves a d) :
    Evolves a (Device.gunHeard d v) := by
  unfold Device.gunHeard
  try dsimp only
  repeat' first
    | with_reducible exact h | with_reducible assumption | with_reducible apply Evolves.ite
    | with_reducible apply Evolves.elim | with_reducible apply Device.inc32_evolves
    | with_reducible apply Device.note_evolves | intro _ _ hq | intro _ | split

theorem Device.gunTagged_evolves {a : Device} {d : Device} {m : RingMsg} {row : Nat} (h : Evolves a d) :
    Evolves a (Device.gunTagged d m row) := by
  unfold Device.gunTagged
  try dsimp only
  repeat' first
    | with_reducible exact h | with_reducible apply Evolves.ite | with_reducible apply Device.inc64_evolves
    | with_reducible apply Device.closeSession_evolves | with_reducible apply Evolves.wr
    | with_reducible apply Device.setSess_evolves | with_reducible apply Device.gunHeard_evolves | split

theorem Device.gunMessageRx_evolves {a : Device} {m : RingMsg} {d : Device} (h : Evolves a d) :
    Evolves a (Device.gunMessageRx m d) := by
  unfold Device.gunMessageRx
  try dsimp only
  repeat' first
    | with_reducible exact h | with_reducible assumption | with_reducible apply Evolves.ite
    | with_reducible apply Evolves.elim | with_reducible apply Device.ringArrive_evolves
    | with_reducible apply Device.ringAccept_evolves | with_reducible apply Device.inc64_evolves
    | with_reducible apply Device.gunTagged_evolves | with_reducible apply Evolves.ite2
    | with_reducible apply Evolves.elim2 | intro _ _ hq | intro _ | split

theorem Device.setPeerLast_evolves {a : Device} {d : Device} {origin : Nat} {seq : Nat} (h : Evolves a d) :
    Evolves a (Device.setPeerLast d origin seq) := by
  unfold Device.setPeerLast
  try dsimp only
  repeat' first
    | with_reducible exact h | with_reducible apply Device.setCls_evolves

theorem Device.peerForward_evolves {a : Device} {d : Device} {key : Bytes} {lane : Nat} {m : PeerMsg} (h : Evolves a d) :
    Evolves a (Device.peerForward d key lane m) := by
  unfold Device.peerForward
  try dsimp only
  repeat' first
    | with_reducible exact h | with_reducible apply Evolves.ite | with_reducible apply Evolves.emit
    | exact h.same rfl rfl rfl rfl rfl rfl rfl | split

theorem Device.peerUse_evolves {a : Device} {d : Device} {m : PeerMsg} (h : Evolves a d) :
    Evolves a (Device.peerUse d m) := by
  unfold Device.peerUse
  try dsimp only
  repeat' first
    | with_reducible exact h | with_reducible assumption | with_reducible apply Evolves.ite
    | with_reducible apply Evolves.foldl | with_reducible apply Device.queueBaton_evolves
    | with_reducible apply Device.gunHeard_evolves | intro _ _ hq | intro _ | split

theorem Device.peerMessageRx_evolves {a : Device} {lane : Nat} {m : PeerMsg} {d : Device} (h : Evolves a d) :
    Evolves a (Device.peerMessageRx lane m d) := by
  unfold Device.peerMessageRx
  try dsimp only
  repeat' first
    | with_reducible exact h | with_reducible assumption | with_reducible apply Evolves.ite
    | with_reducible apply Evolves.elim | with_reducible apply Device.inc64_evolves
    | with_reducible apply Device.setPeerLast_evolves | with_reducible apply Device.peerForward_evolves
    | with_reducible apply Device.peerUse_evolves | intro _ _ hq | intro _ | split

theorem Device.peerBlockLock_evolves {a : Device} {lane : Nat} {locked : Bool} {d : Device} (h : Evolves a d) :
    Evolves a (Device.peerBlockLock lane locked d) := by
  unfold Device.peerBlockLock
  try dsimp only
  repeat' first
    | with_reducible exact h | with_reducible apply Evolves.ite | with_reducible apply Device.wrBit_evolves | split

end Sys2Proof.Machine
end

