-- ==== Sys2Proof/Laws/EvolveMemEngine.lean ====
section
/-!
SUPPORT. The operations of Machine/MemEngine.lean respect what every operation respects (Laws/Evolve.lean).
-/
set_option Elab.async false
set_option linter.all false
set_option linter.unusedTactic false
set_option linter.unreachableTactic false
set_option linter.style.longLine false
namespace Sys2Proof.Machine

theorem Device.lineCipher_evolves {a : Device} {d : Device} {p : Nat} (h : Evolves a d) :
    Evolves a (Device.lineCipher d p).2 := by
  unfold Device.lineCipher
  try dsimp only
  repeat' first
    | with_reducible exact h | with_reducible apply Evolves.ite | with_reducible apply Evolves.unstated
    | with_reducible apply Evolves.ite2 | split

theorem Device.times_evolves {a : Device} {f : Device → Device} {n : Nat} {d : Device} (h : Evolves a d)
    (hf : ∀ x, Evolves a x → Evolves a (f x)) : Evolves a (Device.times f n d) := by
  unfold Device.times
  exact Evolves.foldl h (fun _ _ hq => hf _ hq)
theorem Device.failNode_evolves {a : Device} {d : Device} {p : Nat} {level : Nat} (h : Evolves a d) :
    Evolves a (Device.failNode d p level) := by
  unfold Device.failNode
  try dsimp only
  repeat' first
    | with_reducible exact h | with_reducible assumption | with_reducible apply Evolves.elim
    | with_reducible apply Device.setMem_evolves | with_reducible apply Device.memNodeFail_evolves
    | with_reducible apply Evolves.elim2 | intro _ _ hq | intro _ | rfl

theorem Device.walkAbove_evolves {a : Device} {d : Device} {p : Nat} {m : Nat} (h : Evolves a d) :
    Evolves a (Device.walkAbove d p m) := by
  unfold Device.walkAbove
  try dsimp only
  repeat' first
    | with_reducible exact h | with_reducible assumption | with_reducible apply Evolves.elim
    | with_reducible apply Device.inc64_evolves | with_reducible apply Device.pmcHub_evolves
    | with_reducible apply Device.walkUp_evolves | intro _ _ hq | intro _

theorem Device.walkFails_evolves {a : Device} {d : Device} {p : Nat} {level : Nat} (h : Evolves a d) :
    Evolves a (Device.walkFails d p level) := by
  unfold Device.walkFails
  try dsimp only
  repeat' first
    | with_reducible exact h | with_reducible assumption | with_reducible apply Evolves.elim
    | with_reducible apply Device.walkAbove_evolves | with_reducible apply Device.failNode_evolves
    | with_reducible apply Evolves.elim2 | intro _ _ hq | intro _

theorem Device.retryGood_evolves {a : Device} {d : Device} {c : Nat} (h : Evolves a d) :
    Evolves a (Device.retryGood d c) := by
  unfold Device.retryGood
  try dsimp only
  repeat' first
    | with_reducible exact h | with_reducible apply Device.faultUnit_evolves

theorem Device.verifyLine_evolves {a : Device} {d : Device} {p : Nat} {o : LineOutcome} {keep : Bool} (h : Evolves a d) :
    Evolves a (Device.verifyLine d p o keep).2 := by
  unfold Device.verifyLine
  try dsimp only
  repeat' first
    | with_reducible exact h | with_reducible assumption | with_reducible apply Evolves.ite
    | with_reducible apply Device.memNodeFail_evolves | with_reducible apply Device.poisonWrite_evolves
    | with_reducible apply Device.tagFail_evolves | with_reducible apply Device.fetchCounter_evolves
    | with_reducible apply Device.times_evolves | with_reducible apply Device.memCorrected_evolves
    | with_reducible apply Device.memUncorrectable_evolves | with_reducible apply Device.retryGood_evolves
    | with_reducible apply Device.walkFails_evolves | with_reducible apply Evolves.ite2 | intro _ _ hq | intro _
    | split

theorem Device.putLine_evolves {a : Device} {d : Device} {p : Nat} {v : Bytes} (h : Evolves a d) :
    Evolves a (Device.putLine d p v) := by
  unfold Device.putLine
  try dsimp only
  repeat' first
    | with_reducible exact h | with_reducible assumption | with_reducible apply Device.memPutBytes_evolves | split

theorem Device.writeLine_evolves {a : Device} {d : Device} {p : Nat} {v : Bytes} (h : Evolves a d) :
    Evolves a (Device.writeLine d p v).2 := by
  unfold Device.writeLine
  try dsimp only
  repeat' first
    | with_reducible exact h | with_reducible apply Evolves.ite | with_reducible apply Device.fullLine_evolves
    | with_reducible apply Device.putLine_evolves | with_reducible apply Evolves.ite2 | split

theorem Device.partialWrite_evolves {a : Device} {d : Device} {o : Nat} {v : Bytes} {r : LineOutcome} (h : Evolves a d) :
    Evolves a (Device.partialWrite d o v r).2 := by
  unfold Device.partialWrite
  try dsimp only
  repeat' first
    | with_reducible exact h | with_reducible assumption | with_reducible apply Evolves.ite
    | with_reducible apply Device.verifyLine_evolves | with_reducible apply Device.bumpLine_evolves
    | with_reducible apply Device.memPutBytes_evolves | with_reducible apply Device.poisonWrite_evolves
    | with_reducible apply Evolves.ite2 | split

theorem Device.scrubData_evolves {a : Device} {d : Device} {c : Nat} {i : Nat} (h : Evolves a d) :
    Evolves a (Device.scrubData d c i) := by
  unfold Device.scrubData
  try dsimp only
  repeat' first
    | with_reducible exact h | with_reducible assumption | with_reducible apply Evolves.elim
    | with_reducible apply Device.memUncorrectable_evolves | with_reducible apply Device.poisonWrite_evolves
    | intro _ _ hq | intro _

theorem Device.scrubNode_evolves {a : Device} {d : Device} {c : Nat} {n : Nat} (h : Evolves a d) :
    Evolves a (Device.scrubNode d c n) := by
  unfold Device.scrubNode
  try dsimp only
  repeat' first
    | with_reducible exact h | with_reducible apply Device.memUncorrectable_evolves
    | with_reducible apply Device.setMem_evolves | with_reducible apply Device.memNodeFail_evolves | rfl

theorem Device.scrubPass_evolves {a : Device} {d : Device} {c : Nat} {line : Nat} {word : Nat} (h : Evolves a d) :
    Evolves a (Device.scrubPass d c line word) := by
  unfold Device.scrubPass
  try dsimp only
  repeat' first
    | with_reducible exact h | with_reducible assumption | with_reducible apply Evolves.ite
    | with_reducible apply Device.setMem_evolves | with_reducible apply Device.inc64_evolves | intro _ _ hq | intro _
    | rfl | split

theorem Device.scrubFound_evolves {a : Device} {d : Device} {c : Nat} {line : Nat} {word : Nat} {o : ScrubOutcome} (h : Evolves a d) :
    Evolves a (Device.scrubFound d c line word o) := by
  unfold Device.scrubFound
  try dsimp only
  repeat' first
    | with_reducible exact h | with_reducible assumption | with_reducible apply Evolves.ite
    | with_reducible apply Device.memCorrected_evolves | with_reducible apply Device.scrubData_evolves
    | with_reducible apply Device.scrubNode_evolves | split

theorem Device.setWaiting_evolves {a : Device} {d : Device} {l : List MemReq} (h : Evolves a d) :
    Evolves a (Device.setWaiting d l) := by
  unfold Device.setWaiting
  try dsimp only
  repeat' first
    | with_reducible exact h | with_reducible apply Device.setMem_evolves | rfl

theorem Device.grantLookup_evolves {a : Device} {d : Device} {id : Nat} (h : Evolves a d) :
    Evolves a (Device.grantLookup d id) := by
  unfold Device.grantLookup
  try dsimp only
  repeat' first
    | with_reducible exact h | with_reducible assumption | with_reducible apply Evolves.ite
    | with_reducible apply Evolves.elim | with_reducible apply Device.readLookup_evolves
    | with_reducible apply Device.setFrame_evolves | with_reducible apply Evolves.ite2
    | with_reducible apply Evolves.elim2 | intro _ _ hq | intro _ | exact h.same rfl rfl rfl rfl rfl rfl rfl
    | exact hq.same rfl rfl rfl rfl rfl rfl rfl | split

theorem Device.serveMem_evolves {a : Device} {d : Device} {x0 : MemOp} (h : Evolves a d) :
    Evolves a (Device.serveMem d x0) := by
  unfold Device.serveMem
  try dsimp only
  repeat' first
    | with_reducible exact h | with_reducible assumption | with_reducible apply Device.verifyLine_evolves
    | with_reducible apply Device.fullLine_evolves | with_reducible apply Device.writeLine_evolves
    | with_reducible apply Device.partialWrite_evolves | with_reducible apply Device.scrubFound_evolves
    | with_reducible apply Device.scrubPass_evolves | with_reducible apply Device.lookup_evolves
    | with_reducible apply Device.grantLookup_evolves | split

theorem Device.grantAll_evolves {a : Device} {x0 : Nat} {d : Device} (h : Evolves a d) :
    Evolves a (Device.grantAll x0 d) := by
  induction x0 generalizing d with
  | zero =>
    unfold Device.grantAll
    try dsimp only
    repeat' first
      | with_reducible exact h | with_reducible assumption | with_reducible apply Evolves.elim
      | with_reducible apply Device.setWaiting_evolves | with_reducible apply Device.serveMem_evolves | intro _ _ hq
      | intro _ | split
  | succ _ ih =>
    unfold Device.grantAll
    try dsimp only
    repeat' first
      | with_reducible exact h | with_reducible apply ih | with_reducible assumption
      | with_reducible apply Evolves.elim | with_reducible apply Device.setWaiting_evolves
      | with_reducible apply Device.serveMem_evolves | intro _ _ hq | intro _ | split

theorem Device.grants_evolves {a : Device} {d : Device} (h : Evolves a d) :
    Evolves a (Device.grants d) := by
  unfold Device.grants
  try dsimp only
  repeat' first
    | with_reducible exact h | with_reducible apply Device.grantAll_evolves

theorem Device.memRequest_evolves {a : Device} {d : Device} {chans : List Nat} {cls : Nat} {op : MemOp} (h : Evolves a d) :
    Evolves a (Device.memRequest d chans cls op) := by
  unfold Device.memRequest
  try dsimp only
  repeat' first
    | with_reducible exact h | with_reducible apply Device.setWaiting_evolves
    | with_reducible apply Device.grants_evolves

end Sys2Proof.Machine
end

