-- ==== Sys2Proof/Laws/EvolveParser.lean ====
section
/-!
SUPPORT. The operations of Machine/Parser.lean respect what every operation respects (Laws/Evolve.lean).
-/
set_option Elab.async false
set_option linter.all false
set_option linter.unusedTactic false
set_option linter.unreachableTactic false
set_option linter.style.longLine false
namespace Sys2Proof.Machine

theorem Device.parserLoadCore_evolves {a : Device} {r : Req} {s : Nat} {x : Nat} {d : Device} (h : Evolves a d) :
    Evolves a (Device.parserLoadCore r s x d).2 := by
  unfold Device.parserLoadCore
  try dsimp only
  repeat' first
    | with_reducible exact h | with_reducible assumption | with_reducible apply Device.runCmd_evolves
    | with_reducible apply Device.loadShadow_evolves | intro _ _ hq | intro _

theorem Device.armSwap_evolves {a : Device} {d : Device} {s : Nat} (h : Evolves a d) :
    Evolves a (Device.armSwap d s) := by
  unfold Device.armSwap
  try dsimp only
  repeat' first
    | with_reducible exact h | with_reducible assumption | with_reducible apply Evolves.elim
    | with_reducible apply Device.gunTake_evolves | with_reducible apply Evolves.wr | intro _ _ hq | intro _

theorem Device.parserArmCore_evolves {a : Device} {r : Req} {s : Nat} {d : Device} (h : Evolves a d) :
    Evolves a (Device.parserArmCore r s d).2 := by
  unfold Device.parserArmCore
  try dsimp only
  repeat' first
    | with_reducible exact h | with_reducible assumption | with_reducible apply Device.runCmd_evolves
    | with_reducible apply Device.armSwap_evolves | intro _ _ hq | intro _

theorem Device.parserCancelCore_evolves {a : Device} {r : Req} {s : Nat} {d : Device} (h : Evolves a d) :
    Evolves a (Device.parserCancelCore r s d).2 := by
  unfold Device.parserCancelCore
  try dsimp only
  repeat' first
    | with_reducible exact h | with_reducible assumption | with_reducible apply Evolves.elim
    | with_reducible apply Device.runCmd_evolves | with_reducible apply Device.gunCancel_evolves
    | with_reducible apply Evolves.wr | with_reducible apply Evolves.elim2 | intro _ _ hq | intro _

theorem Device.slotRuns_evolves {a : Device} {d : Device} {r : Nat} {prog : List Nat} {run : Bool} (h : Evolves a d) :
    Evolves a (Device.slotRuns d r prog run) := by
  unfold Device.slotRuns
  try dsimp only
  repeat' first
    | with_reducible exact h | with_reducible apply Evolves.ite | with_reducible apply Device.setSlot_evolves | split

theorem Device.swapPrograms_evolves {a : Device} {d : Device} {s : Nat} (h : Evolves a d) :
    Evolves a (Device.swapPrograms d s) := by
  unfold Device.swapPrograms
  try dsimp only
  repeat' first
    | with_reducible exact h | with_reducible apply Device.setActive_evolves
    | with_reducible apply Device.loadShadow_evolves | with_reducible apply Device.slotRuns_evolves

theorem Device.parserSwap_evolves {a : Device} {d : Device} {s : Nat} {late : Bool} {stepped : Bool} (h : Evolves a d) :
    Evolves a (Device.parserSwap d s late stepped).2 := by
  unfold Device.parserSwap
  try dsimp only
  repeat' first
    | with_reducible exact h | with_reducible apply Evolves.ite | with_reducible apply Device.emptyShadow_evolves
    | with_reducible apply Device.note_evolves | with_reducible apply Device.wrBit_evolves
    | with_reducible apply Device.stepped_evolves | with_reducible apply Device.swapPrograms_evolves
    | with_reducible apply Evolves.ite2 | split

end Sys2Proof.Machine
end

