-- ==== Sys2Proof/Laws/EvolveQueues.lean ====
section
/-!
SUPPORT. The operations of Machine/Queues.lean respect what every operation respects (Laws/Evolve.lean).
-/
set_option Elab.async false
set_option linter.all false
set_option linter.unusedTactic false
set_option linter.unreachableTactic false
set_option linter.style.longLine false
namespace Sys2Proof.Machine

theorem Device.countRed_evolves {a : Device} {d : Device} {f : Frame} (h : Evolves a d) :
    Evolves a (Device.countRed d f) := by
  unfold Device.countRed
  try dsimp only
  repeat' first
    | with_reducible exact h | with_reducible apply Device.inc64_evolves | with_reducible apply Device.add64_evolves
    | with_reducible apply Device.lapPolice_evolves | with_reducible apply Device.pmcSlice_evolves

theorem Device.police_evolves {a : Device} {d : Device} {f : Frame} (h : Evolves a d) :
    Evolves a (Device.police d f).2 := by
  unfold Device.police
  try dsimp only
  repeat' first
    | with_reducible exact h | with_reducible apply Evolves.ite | with_reducible apply Device.countRed_evolves
    | with_reducible apply Device.charge_evolves | with_reducible apply Device.inc64_evolves
    | with_reducible apply Device.add64_evolves | with_reducible apply Evolves.ite2 | split

theorem Device.sizePairs_evolves {a : Device} {d : Device} {p : Nat} (h : Evolves a d) :
    Evolves a (Device.sizePairs d p) := by
  unfold Device.sizePairs
  try dsimp only
  repeat' first
    | with_reducible exact h | with_reducible apply Evolves.ite | with_reducible apply Evolves.wr | split

theorem Device.pairXoff_evolves {a : Device} {d : Device} {k : Nat} (h : Evolves a d) :
    Evolves a (Device.pairXoff d k) := by
  unfold Device.pairXoff
  try dsimp only
  repeat' first
    | with_reducible exact h | with_reducible apply Device.setPair_evolves
    | with_reducible apply Device.setHolds_evolves

theorem Device.pairLimits_evolves {a : Device} {d : Device} {p : Nat} (h : Evolves a d) :
    Evolves a (Device.pairLimits d p) := by
  unfold Device.pairLimits
  try dsimp only
  repeat' first
    | with_reducible exact h | with_reducible assumption | with_reducible apply Evolves.ite
    | with_reducible apply Evolves.foldl | with_reducible apply Device.pairXoff_evolves
    | with_reducible apply Device.pairXon_evolves | intro _ _ hq | intro _ | split

theorem Device.pairShared_evolves {a : Device} {d : Device} {k : Nat} (h : Evolves a d) :
    Evolves a (Device.pairShared d k) := by
  unfold Device.pairShared
  try dsimp only
  repeat' first
    | with_reducible exact h | with_reducible apply Evolves.ite | with_reducible apply Device.useCell_evolves
    | with_reducible apply Device.setPair_evolves | with_reducible apply Device.pairXoff_evolves | split

theorem Device.losslessCell_evolves {a : Device} {d : Device} {f : Frame} (h : Evolves a d) :
    Evolves a (Device.losslessCell d f).2 := by
  unfold Device.losslessCell
  try dsimp only
  repeat' first
    | with_reducible exact h | with_reducible apply Evolves.ite | with_reducible apply Device.pairShared_evolves
    | with_reducible apply Device.pairXoff_evolves | with_reducible apply Device.useCell_evolves
    | with_reducible apply Device.setPair_evolves | with_reducible apply Evolves.wr
    | with_reducible apply Evolves.ite2 | exact h.same rfl rfl rfl rfl rfl rfl rfl | split

theorem Device.lossyCell_evolves {a : Device} {d : Device} {f : Frame} (h : Evolves a d) :
    Evolves a (Device.lossyCell d f).2 := by
  unfold Device.lossyCell
  try dsimp only
  repeat' first
    | with_reducible exact h | with_reducible assumption | with_reducible apply Device.useCell_evolves
    | with_reducible apply Device.setQueue_evolves | split

theorem Device.takeCells_evolves {a : Device} {x0 : Nat} {x1 : Frame} {d : Device} (h : Evolves a d) :
    Evolves a (Device.takeCells x0 x1 d).2.2 := by
  induction x0 generalizing x1 d with
  | zero =>
    unfold Device.takeCells
    try dsimp only
    repeat' first
      | with_reducible exact h | with_reducible assumption | with_reducible apply Evolves.ite
      | with_reducible apply Device.losslessCell_evolves | with_reducible apply Device.lossyCell_evolves
      | with_reducible apply Device.addCell_evolves | with_reducible apply Evolves.wr
      | with_reducible apply Evolves.ite2 | split
  | succ _ ih =>
    unfold Device.takeCells
    try dsimp only
    repeat' first
      | with_reducible exact h | with_reducible apply ih | with_reducible assumption
      | with_reducible apply Evolves.ite | with_reducible apply Device.losslessCell_evolves
      | with_reducible apply Device.lossyCell_evolves | with_reducible apply Device.addCell_evolves
      | with_reducible apply Evolves.wr | with_reducible apply Evolves.ite2 | split

theorem Device.refreshNodeCount_evolves {a : Device} {d : Device} {n : Nat} (h : Evolves a d) :
    Evolves a (Device.refreshNodeCount d n) := by
  unfold Device.refreshNodeCount
  try dsimp only
  repeat' first
    | with_reducible exact h | with_reducible assumption | with_reducible apply Evolves.ite
    | with_reducible apply Evolves.wr | with_reducible apply Evolves.ite2 | intro _ _ hq | intro _ | split

theorem Device.refuseFrame_evolves {a : Device} {d : Device} {f : Frame} (h : Evolves a d) :
    Evolves a (Device.refuseFrame d f) := by
  unfold Device.refuseFrame
  try dsimp only
  repeat' first
    | with_reducible exact h | with_reducible apply Evolves.ite | with_reducible apply Device.inc64_evolves
    | with_reducible apply Device.add64_evolves | with_reducible apply Device.noteRow_evolves
    | with_reducible apply Device.dropWhole_evolves | with_reducible apply Device.setFrame_evolves | split

theorem Device.readCells_evolves {a : Device} {d : Device} {f : Frame} (h : Evolves a d) :
    Evolves a (Device.readCells d f) := by
  unfold Device.readCells
  try dsimp only
  repeat' first
    | with_reducible exact h | with_reducible apply Evolves.ite | with_reducible apply Device.freeCells_evolves
    | split

theorem Device.arriveCells_evolves {a : Device} {d : Device} {f : Frame} (h : Evolves a d) :
    Evolves a (Device.arriveCells d f) := by
  unfold Device.arriveCells
  try dsimp only
  repeat' first
    | with_reducible exact h | with_reducible apply Evolves.ite | with_reducible apply Device.takeCells_evolves
    | with_reducible apply Device.setFrame_evolves | with_reducible apply Device.refuseFrame_evolves
    | with_reducible apply Device.readCells_evolves | with_reducible apply Evolves.ite2 | split

theorem Device.arriveAll_evolves {a : Device} {d : Device} (h : Evolves a d) :
    Evolves a (Device.arriveAll d) := by
  unfold Device.arriveAll
  try dsimp only
  repeat' first
    | with_reducible exact h | with_reducible assumption | with_reducible apply Evolves.elim
    | with_reducible apply Evolves.foldl | with_reducible apply Device.arriveCells_evolves | intro _ _ hq | intro _

theorem Device.enqueue_evolves {a : Device} {d : Device} {f : Frame} (h : Evolves a d) :
    Evolves a (Device.enqueue d f) := by
  unfold Device.enqueue
  try dsimp only
  repeat' first
    | with_reducible exact h | with_reducible apply Evolves.ite | with_reducible apply Device.arriveAll_evolves
    | with_reducible apply Device.takeCells_evolves | with_reducible apply Device.setFrame_evolves
    | with_reducible apply Device.refuseFrame_evolves | with_reducible apply Device.setQueue_evolves
    | with_reducible apply Device.refreshNode_evolves | with_reducible apply Evolves.ite2
    | exact h.same rfl rfl rfl rfl rfl rfl rfl | split

theorem Device.leaveNode_evolves {a : Device} {d : Device} {q : Nat} (h : Evolves a d) :
    Evolves a (Device.leaveNode d q) := by
  unfold Device.leaveNode
  try dsimp only
  repeat' first
    | with_reducible exact h | with_reducible apply Evolves.ite | with_reducible apply Device.setQueue_evolves
    | with_reducible apply Device.refreshNodeCount_evolves | exact h.same rfl rfl rfl rfl rfl rfl rfl | split

theorem Device.joinNode_evolves {a : Device} {d : Device} {q : Nat} (h : Evolves a d) :
    Evolves a (Device.joinNode d q) := by
  unfold Device.joinNode
  try dsimp only
  repeat' first
    | with_reducible exact h | with_reducible assumption | with_reducible apply Evolves.ite
    | with_reducible apply Evolves.elim | with_reducible apply Device.setQueue_evolves
    | with_reducible apply Device.refreshNodeCount_evolves | intro _ _ hq | intro _
    | exact h.same rfl rfl rfl rfl rfl rfl rfl | exact hq.same rfl rfl rfl rfl rfl rfl rfl | split

theorem Device.followQueues_evolves {a : Device} {d : Device} (h : Evolves a d) :
    Evolves a (Device.followQueues d) := by
  unfold Device.followQueues
  try dsimp only
  repeat' first
    | with_reducible exact h | with_reducible assumption | with_reducible apply Evolves.foldl
    | with_reducible apply Device.joinNode_evolves | with_reducible apply Device.leaveNode_evolves | intro _ _ hq
    | intro _

theorem Device.chargePort_evolves {a : Device} {d : Device} {f : Frame} (h : Evolves a d) :
    Evolves a (Device.chargePort d f) := by
  unfold Device.chargePort
  try dsimp only
  repeat' first
    | with_reducible exact h | with_reducible assumption | with_reducible apply Device.setPipe_evolves | intro _ _ hq
    | intro _

theorem Device.setPortTags_evolves {a : Device} {d : Device} {p : Nat} {v : Nat} {fmax : Nat} (h : Evolves a d) :
    Evolves a (Device.setPortTags d p v fmax) := by
  unfold Device.setPortTags
  try dsimp only
  repeat' first
    | with_reducible exact h | with_reducible assumption | with_reducible apply Device.setPipe_evolves | intro _ _ hq
    | intro _

theorem Device.nodeLeaves_evolves {a : Device} {d : Device} {n : Nat} (h : Evolves a d) :
    Evolves a (Device.nodeLeaves d n) := by
  unfold Device.nodeLeaves
  try dsimp only
  repeat' first
    | with_reducible exact h | with_reducible apply Evolves.ite | with_reducible apply Device.setNode_evolves | split

theorem Device.nodeJoins_evolves {a : Device} {d : Device} {n : Nat} (h : Evolves a d) :
    Evolves a (Device.nodeJoins d n) := by
  unfold Device.nodeJoins
  try dsimp only
  repeat' first
    | with_reducible exact h | with_reducible apply Evolves.ite | with_reducible apply Device.setNode_evolves
    | exact h.same rfl rfl rfl rfl rfl rfl rfl | split

theorem Device.followPort_evolves {a : Device} {d : Device} {p : Nat} (h : Evolves a d) :
    Evolves a (Device.followPort d p) := by
  unfold Device.followPort
  try dsimp only
  repeat' first
    | with_reducible exact h | with_reducible assumption | with_reducible apply Evolves.ite
    | with_reducible apply Evolves.foldl | with_reducible apply Device.nodeLeaves_evolves
    | with_reducible apply Device.setPortTags_evolves | with_reducible apply Device.nodeJoins_evolves
    | with_reducible apply Evolves.ite2 | with_reducible apply Evolves.foldl2 | intro _ _ hq | intro _ | split

theorem Device.settle_evolves {a : Device} {d : Device} (h : Evolves a d) :
    Evolves a (Device.settle d) := by
  unfold Device.settle
  try dsimp only
  repeat' first
    | with_reducible exact h | with_reducible assumption | with_reducible apply Evolves.foldl
    | with_reducible apply Device.followQueues_evolves | with_reducible apply Device.followPort_evolves
    | intro _ _ hq | intro _

theorem Device.chargeNode_evolves {a : Device} {d : Device} {n : Nat} {f : Frame} (h : Evolves a d) :
    Evolves a (Device.chargeNode d n f) := by
  unfold Device.chargeNode
  try dsimp only
  repeat' first
    | with_reducible exact h | with_reducible apply Evolves.ite | with_reducible apply Device.setNode_evolves
    | with_reducible apply Device.setPortTags_evolves | with_reducible apply Evolves.ite2
    | exact h.same rfl rfl rfl rfl rfl rfl rfl | split

theorem Device.chargeQueue_evolves {a : Device} {d : Device} {n : Nat} {q : Nat} {f : Frame} (h : Evolves a d) :
    Evolves a (Device.chargeQueue d n q f) := by
  unfold Device.chargeQueue
  try dsimp only
  repeat' first
    | with_reducible exact h | with_reducible apply Evolves.ite | with_reducible apply Evolves.wr
    | with_reducible apply Device.setQueue_evolves | with_reducible apply Device.setNode_evolves
    | with_reducible apply Device.charge_evolves | with_reducible apply Device.add64_evolves
    | with_reducible apply Device.lapExcess_evolves | with_reducible apply Device.pmcSlice_evolves
    | exact h.same rfl rfl rfl rfl rfl rfl rfl | split

theorem Device.countStart_evolves {a : Device} {d : Device} {n : Nat} {f : Frame} (h : Evolves a d) :
    Evolves a (Device.countStart d n f) := by
  unfold Device.countStart
  try dsimp only
  repeat' first
    | with_reducible exact h | with_reducible apply Evolves.ite | with_reducible apply Device.inc64_evolves
    | with_reducible apply Device.pmcSlice_evolves | split

theorem Device.startFrame_evolves {a : Device} {d : Device} {n : Nat} {f : Frame} {q : Option Nat} (h : Evolves a d) :
    Evolves a (Device.startFrame d n f q) := by
  unfold Device.startFrame
  try dsimp only
  repeat' first
    | with_reducible exact h | with_reducible assumption | with_reducible apply Evolves.elim
    | with_reducible apply Device.chargeNode_evolves | with_reducible apply Device.chargePort_evolves
    | with_reducible apply Device.countStart_evolves | with_reducible apply Device.chargeQueue_evolves
    | with_reducible apply Device.unqueue_evolves | with_reducible apply Device.setFrame_evolves
    | with_reducible apply Device.readCells_evolves | with_reducible apply Device.setPipe_evolves | intro _ _ hq
    | intro _ | exact h.same rfl rfl rfl rfl rfl rfl rfl | exact hq.same rfl rfl rfl rfl rfl rfl rfl

theorem Device.dropDead_evolves {a : Device} {d : Device} {f : Frame} (h : Evolves a d) :
    Evolves a (Device.dropDead d f) := by
  unfold Device.dropDead
  try dsimp only
  repeat' first
    | with_reducible exact h | with_reducible assumption | with_reducible apply Evolves.elim
    | with_reducible apply Device.inc64_evolves | with_reducible apply Device.injectRefuse_evolves
    | with_reducible apply Device.dropWhole_evolves | intro _ _ hq | intro _

theorem Device.dropDeadHeads_evolves {a : Device} {x0 : List Nat} {d : Device} (h : Evolves a d) :
    Evolves a (Device.dropDeadHeads x0 d) := by
  induction x0 generalizing d with
  | nil =>
    unfold Device.dropDeadHeads
    try dsimp only
    repeat' first
      | with_reducible exact h | with_reducible assumption | with_reducible apply Evolves.ite
      | with_reducible apply Evolves.elim | with_reducible apply Device.dropDead_evolves | intro _ _ hq | intro _
      | split
  | cons _ _ ih =>
    unfold Device.dropDeadHeads
    try dsimp only
    repeat' first
      | with_reducible exact h | with_reducible apply ih | with_reducible assumption
      | with_reducible apply Evolves.ite | with_reducible apply Evolves.elim
      | with_reducible apply Device.dropDead_evolves | intro _ _ hq | intro _ | split

theorem Device.dropDeadFrames_evolves {a : Device} {d : Device} (h : Evolves a d) :
    Evolves a (Device.dropDeadFrames d) := by
  unfold Device.dropDeadFrames
  try dsimp only
  repeat' first
    | with_reducible exact h | with_reducible assumption | with_reducible apply Evolves.foldl
    | with_reducible apply Device.dropDeadHeads_evolves | with_reducible apply Evolves.foldl2 | intro _ _ hq
    | intro _

theorem Device.schedulerFrameStart_evolves {a : Device} {sd : Nat} {d : Device} (h : Evolves a d) :
    Evolves a (Device.schedulerFrameStart sd d) := by
  unfold Device.schedulerFrameStart
  try dsimp only
  repeat' first
    | with_reducible exact h | with_reducible assumption | with_reducible apply Evolves.ite
    | with_reducible apply Evolves.elim | with_reducible apply Device.passTo_evolves
    | with_reducible apply Device.stageHolds_evolves | with_reducible apply Device.arriveAll_evolves
    | with_reducible apply Device.dropDeadFrames_evolves | with_reducible apply Device.settle_evolves
    | with_reducible apply Device.startFrame_evolves | with_reducible apply Evolves.ite2
    | with_reducible apply Evolves.elim2 | intro _ _ hq | intro _ | split

theorem Device.setQueues_evolves {a : Device} {d : Device} {l : List (Nat × QueueX)} (h : Evolves a d) :
    Evolves a (Device.setQueues d l) := by
  unfold Device.setQueues
  try dsimp only
  repeat' first
    | with_reducible exact h | exact h.same rfl rfl rfl rfl rfl rfl rfl

theorem Device.tagRenormalize_evolves {a : Device} {d : Device} (h : Evolves a d) :
    Evolves a (Device.tagRenormalize d) := by
  unfold Device.tagRenormalize
  try dsimp only
  repeat' first
    | with_reducible exact h | with_reducible assumption | with_reducible apply Evolves.ite
    | with_reducible apply Evolves.foldl | with_reducible apply Device.passTo_evolves
    | with_reducible apply Device.settle_evolves | with_reducible apply Device.setQueues_evolves
    | with_reducible apply Device.setPipe_evolves | with_reducible apply Evolves.ite2
    | with_reducible apply Evolves.foldl2 | intro _ _ hq | intro _ | exact h.same rfl rfl rfl rfl rfl rfl rfl
    | exact hq.same rfl rfl rfl rfl rfl rfl rfl | split

end Sys2Proof.Machine
end

