-- ==== Sys2Proof/Laws/EvolveBanks.lean ====
section
/-!
SUPPORT. The operations of Machine/Banks.lean respect what every operation respects (Laws/Evolve.lean).
-/
set_option Elab.async false
set_option linter.all false
set_option linter.unusedTactic false
set_option linter.unreachableTactic false
set_option linter.style.longLine false
namespace Sys2Proof.Machine

theorem Device.useCached_evolves {a : Device} {d : Device} {b : Nat} {slot : Nat} {key : Bytes} (h : Evolves a d) :
    Evolves a (Device.useCached d b slot key) := by
  unfold Device.useCached
  try dsimp only
  repeat' first
    | with_reducible exact h | with_reducible assumption | with_reducible apply Device.setBank_evolves | intro _ _ hq
    | intro _

theorem Device.startLoad_evolves {a : Device} {d : Device} {b : Nat} {slot : Nat} (h : Evolves a d) :
    Evolves a (Device.startLoad d b slot) := by
  unfold Device.startLoad
  try dsimp only
  repeat' first
    | with_reducible exact h | with_reducible assumption | with_reducible apply Evolves.ite
    | with_reducible apply Evolves.foldl | with_reducible apply Device.setBank_evolves
    | with_reducible apply Evolves.ite2 | with_reducible apply Evolves.foldl2 | intro _ _ hq | intro _
    | exact h.same rfl rfl rfl rfl rfl rfl rfl | exact hq.same rfl rfl rfl rfl rfl rfl rfl | split

theorem Device.keyLookup_evolves {a : Device} {d : Device} {f : Frame} {sa : Nat} (h : Evolves a d) :
    Evolves a (Device.keyLookup d f sa).2 := by
  unfold Device.keyLookup
  try dsimp only
  repeat' first
    | with_reducible exact h | with_reducible assumption | with_reducible apply Device.inc64_evolves
    | with_reducible apply Device.useCached_evolves | with_reducible apply Device.pmcSlice_evolves
    | with_reducible apply Device.startLoad_evolves | exact h.same rfl rfl rfl rfl rfl rfl rfl | split

theorem Device.lateDrop_evolves {a : Device} {d : Device} {f : Frame} (h : Evolves a d) :
    Evolves a (Device.lateDrop d f) := by
  unfold Device.lateDrop
  try dsimp only
  repeat' first
    | with_reducible exact h | with_reducible apply Device.inc64_evolves
    | with_reducible apply Device.dropWhole_evolves

theorem Device.takeSchedule_evolves {a : Device} {slot : Nat} {d : Device} {f : Frame} (h : Evolves a d) :
    Evolves a (Device.takeSchedule slot d f) := by
  unfold Device.takeSchedule
  try dsimp only
  repeat' first
    | with_reducible exact h | with_reducible apply Evolves.ite | with_reducible apply Device.lateDrop_evolves
    | with_reducible apply Device.setFrame_evolves | exact h.same rfl rfl rfl rfl rfl rfl rfl | split

theorem Device.badKeyDrop_evolves {a : Device} {d : Device} {f : Frame} (h : Evolves a d) :
    Evolves a (Device.badKeyDrop d f) := by
  unfold Device.badKeyDrop
  try dsimp only
  repeat' first
    | with_reducible exact h | with_reducible apply Evolves.ite | with_reducible apply Device.inc64_evolves
    | with_reducible apply Device.discardFrame_evolves | split

theorem Device.endLoad_evolves {a : Device} {d : Device} {b : Nat} {slot : Nat} (h : Evolves a d) :
    Evolves a (Device.endLoad d b slot) := by
  unfold Device.endLoad
  try dsimp only
  repeat' first
    | with_reducible exact h | with_reducible assumption | with_reducible apply Device.setBank_evolves | intro _ _ hq
    | intro _

theorem Device.setCache_evolves {a : Device} {d : Device} {b : Nat} {l : List CacheEnt} (h : Evolves a d) :
    Evolves a (Device.setCache d b l) := by
  unfold Device.setCache
  try dsimp only
  repeat' first
    | with_reducible exact h | with_reducible apply Device.setBank_evolves

theorem Device.keyScheduleLoadDone_evolves {a : Device} {b : Nat} {slot : Nat} {ok : Bool} {d : Device} (h : Evolves a d) :
    Evolves a (Device.keyScheduleLoadDone b slot ok d) := by
  unfold Device.keyScheduleLoadDone
  try dsimp only
  repeat' first
    | with_reducible exact h | with_reducible assumption | with_reducible apply Evolves.ite
    | with_reducible apply Evolves.elim | with_reducible apply Evolves.foldl
    | with_reducible apply Device.passTo_evolves | with_reducible apply Device.takeSchedule_evolves
    | with_reducible apply Device.endLoad_evolves | with_reducible apply Device.badKeyDrop_evolves
    | with_reducible apply Device.setCache_evolves | with_reducible apply Device.ctxFails_evolves
    | with_reducible apply Evolves.ite2 | with_reducible apply Evolves.elim2 | with_reducible apply Evolves.foldl2
    | intro _ _ hq | intro _ | split

theorem Device.keepTurn_evolves {a : Device} {d : Device} {b : Nat} {t : Turn} (h : Evolves a d) :
    Evolves a (Device.keepTurn d b t) := by
  unfold Device.keepTurn
  try dsimp only
  repeat' first
    | with_reducible exact h | with_reducible assumption | with_reducible apply Device.setBank_evolves | intro _ _ hq
    | intro _

theorem Device.countTurn_evolves {a : Device} {d : Device} {b : Nat} {kind : TurnKind} {frame : Nat} {cell : Nat} (h : Evolves a d) :
    Evolves a (Device.countTurn d b kind frame cell) := by
  unfold Device.countTurn
  try dsimp only
  repeat' first
    | with_reducible exact h | with_reducible apply Evolves.ite | with_reducible apply Device.keepTurn_evolves
    | with_reducible apply Device.inc64_evolves | split

theorem Device.holdCell_evolves {a : Device} {d : Device} {b : Nat} {f : Frame} {cell : Nat} {ahead : Bool} (h : Evolves a d) :
    Evolves a (Device.holdCell d b f cell ahead) := by
  unfold Device.holdCell
  try dsimp only
  repeat' first
    | with_reducible exact h | with_reducible apply Device.inc64_evolves
    | with_reducible apply Device.pmcSlice_evolves | with_reducible apply Device.setBank_evolves

theorem Device.issueRetrial_evolves {a : Device} {d : Device} {b : Nat} {mismatch : Bool} {h : Held} (h_h : Evolves a d) :
    Evolves a (Device.issueRetrial d b mismatch h) := by
  unfold Device.issueRetrial
  try dsimp only
  repeat' first
    | with_reducible exact h_h | with_reducible assumption | with_reducible apply Evolves.ite
    | with_reducible apply Device.inc64_evolves | with_reducible apply Device.countTurn_evolves
    | with_reducible apply Device.setBank_evolves | with_reducible apply Device.pmcSlice_evolves | intro _ _ hq
    | intro _ | exact h_h.same rfl rfl rfl rfl rfl rfl rfl | exact hq.same rfl rfl rfl rfl rfl rfl rfl | split

theorem Device.issueRedo_evolves {a : Device} {d : Device} {b : Nat} {t : Takeover} (h : Evolves a d) :
    Evolves a (Device.issueRedo d b t) := by
  unfold Device.issueRedo
  try dsimp only
  repeat' first
    | with_reducible exact h | with_reducible apply Device.inc64_evolves
    | with_reducible apply Device.keepTurn_evolves | with_reducible apply Device.setBank_evolves
    | exact h.same rfl rfl rfl rfl rfl rfl rfl

theorem Device.setLastPort_evolves {a : Device} {d : Device} {b : Nat} {p : Nat} (h : Evolves a d) :
    Evolves a (Device.setLastPort d b p) := by
  unfold Device.setLastPort
  try dsimp only
  repeat' first
    | with_reducible exact h | with_reducible apply Device.setBank_evolves

theorem Device.setLastAhead_evolves {a : Device} {d : Device} {b : Nat} {p : Nat} (h : Evolves a d) :
    Evolves a (Device.setLastAhead d b p) := by
  unfold Device.setLastAhead
  try dsimp only
  repeat' first
    | with_reducible exact h | with_reducible apply Device.setBank_evolves

theorem Device.issueDemand_evolves {a : Device} {d : Device} {b : Nat} {mismatch : Bool} {f : Frame} (h : Evolves a d) :
    Evolves a (Device.issueDemand d b mismatch f) := by
  unfold Device.issueDemand
  try dsimp only
  repeat' first
    | with_reducible exact h | with_reducible assumption | with_reducible apply Evolves.ite
    | with_reducible apply Device.countTurn_evolves | with_reducible apply Device.setLastPort_evolves
    | with_reducible apply Device.holdCell_evolves | with_reducible apply Device.setFrame_evolves
    | exact h.same rfl rfl rfl rfl rfl rfl rfl | split

theorem Device.wasteAhead_evolves {a : Device} {d : Device} {f : Frame} (h : Evolves a d) :
    Evolves a (Device.wasteAhead d f) := by
  unfold Device.wasteAhead
  try dsimp only
  repeat' first
    | with_reducible exact h | with_reducible apply Device.inc64_evolves
    | with_reducible apply Device.endSlots_evolves | with_reducible apply Device.setSlotCells_evolves

theorem Device.issueAhead_evolves {a : Device} {d : Device} {b : Nat} {mismatch : Bool} {f : Frame} (h : Evolves a d) :
    Evolves a (Device.issueAhead d b mismatch f) := by
  unfold Device.issueAhead
  try dsimp only
  repeat' first
    | with_reducible exact h | with_reducible assumption | with_reducible apply Evolves.ite
    | with_reducible apply Evolves.elim | with_reducible apply Device.countTurn_evolves
    | with_reducible apply Device.setLastAhead_evolves | with_reducible apply Device.holdCell_evolves
    | with_reducible apply Device.wasteAhead_evolves | with_reducible apply Device.setFrame_evolves | intro _ _ hq
    | intro _ | exact h.same rfl rfl rfl rfl rfl rfl rfl | exact hq.same rfl rfl rfl rfl rfl rfl rfl | split

theorem Device.idleKats_evolves {a : Device} {d : Device} {b : Nat} (h : Evolves a d) :
    Evolves a (Device.idleKats d b) := by
  unfold Device.idleKats
  try dsimp only
  repeat' first
    | with_reducible exact h | with_reducible assumption | with_reducible apply Evolves.foldl
    | with_reducible apply Device.setKat_evolves | intro _ _ hq | intro _

theorem Device.katTurn_evolves {a : Device} {d : Device} {b : Nat} {core : Nat} (h : Evolves a d) :
    Evolves a (Device.katTurn d b core) := by
  unfold Device.katTurn
  try dsimp only
  repeat' first
    | with_reducible exact h | with_reducible apply Device.keepTurn_evolves

theorem Device.issueKat_evolves {a : Device} {d : Device} {b : Nat} {core : Nat} (h : Evolves a d) :
    Evolves a (Device.issueKat d b core) := by
  unfold Device.issueKat
  try dsimp only
  repeat' first
    | with_reducible exact h | with_reducible apply Evolves.ite | with_reducible apply Device.inc64_evolves
    | with_reducible apply Device.katTurn_evolves | with_reducible apply Device.setKat_evolves | split

theorem Device.issueBelow_evolves {a : Device} {d : Device} {b : Nat} {mismatch : Bool} (h : Evolves a d) :
    Evolves a (Device.issueBelow d b mismatch) := by
  unfold Device.issueBelow
  try dsimp only
  repeat' first
    | with_reducible exact h | with_reducible assumption | with_reducible apply Device.issueKat_evolves
    | with_reducible apply Device.issueDemand_evolves | with_reducible apply Device.issueRetrial_evolves
    | with_reducible apply Device.issueAhead_evolves | split

theorem Device.bankTurn_evolves {a : Device} {b : Nat} {mismatch : Bool} {d : Device} (h : Evolves a d) :
    Evolves a (Device.bankTurn b mismatch d) := by
  unfold Device.bankTurn
  try dsimp only
  repeat' first
    | with_reducible exact h | with_reducible assumption | with_reducible apply Evolves.ite
    | with_reducible apply Device.passTo_evolves | with_reducible apply Device.idleKats_evolves
    | with_reducible apply Device.issueRedo_evolves | with_reducible apply Device.issueRetrial_evolves
    | with_reducible apply Device.issueBelow_evolves | split

theorem Device.setTakeover_evolves {a : Device} {d : Device} {b : Nat} {x : Option Takeover} (h : Evolves a d) :
    Evolves a (Device.setTakeover d b x) := by
  unfold Device.setTakeover
  try dsimp only
  repeat' first
    | with_reducible exact h | with_reducible apply Device.setBank_evolves

theorem Device.bankFail_evolves {a : Device} {d : Device} {b : Nat} {core : Nat} {cause : Nat} (h : Evolves a d) :
    Evolves a (Device.bankFail d b core cause) := by
  unfold Device.bankFail
  try dsimp only
  repeat' first
    | with_reducible exact h | with_reducible apply Evolves.ite | with_reducible apply Evolves.wr
    | with_reducible apply Device.faultUnit_evolves | with_reducible apply Device.sliceFail_evolves | split

theorem Device.startTakeover_evolves {a : Device} {d : Device} {b : Nat} {core : Nat} {cause : Nat} (h : Evolves a d) :
    Evolves a (Device.startTakeover d b core cause) := by
  unfold Device.startTakeover
  try dsimp only
  repeat' first
    | with_reducible exact h | with_reducible assumption | with_reducible apply Device.setTakeover_evolves
    | intro _ _ hq | intro _

theorem Device.retireCore_evolves {a : Device} {d : Device} {b : Nat} {core : Nat} {cause : Nat} (h : Evolves a d) :
    Evolves a (Device.retireCore d b core cause) := by
  unfold Device.retireCore
  try dsimp only
  repeat' first
    | with_reducible exact h | with_reducible apply Evolves.ite | with_reducible apply Device.wrBit_evolves
    | with_reducible apply Device.bankFail_evolves | with_reducible apply Evolves.wr
    | with_reducible apply Device.faultUnit_evolves | with_reducible apply Device.startTakeover_evolves | split

theorem Device.coreTakeoverDone_evolves {a : Device} {b : Nat} {d : Device} (h : Evolves a d) :
    Evolves a (Device.coreTakeoverDone b d) := by
  unfold Device.coreTakeoverDone
  try dsimp only
  repeat' first
    | with_reducible exact h | with_reducible assumption | with_reducible apply Evolves.ite
    | with_reducible apply Evolves.elim | with_reducible apply Device.passTo_evolves
    | with_reducible apply Device.add64_evolves | with_reducible apply Device.setTakeover_evolves
    | with_reducible apply Evolves.wr | with_reducible apply Device.faultUnit_evolves | intro _ _ hq | intro _
    | split

theorem Device.strike_evolves {a : Device} {b : Nat} {d : Device} {core : Nat} (h : Evolves a d) :
    Evolves a (Device.strike b d core) := by
  unfold Device.strike
  try dsimp only
  repeat' first
    | with_reducible exact h | with_reducible apply Device.setBank_evolves
    | with_reducible apply Device.faultUnit_evolves

theorem Device.coreStrikeRetire_evolves {a : Device} {b : Nat} {core : Nat} {d : Device} (h : Evolves a d) :
    Evolves a (Device.coreStrikeRetire b core d) := by
  unfold Device.coreStrikeRetire
  try dsimp only
  repeat' first
    | with_reducible exact h | with_reducible apply Evolves.ite | with_reducible apply Device.retireCore_evolves
    | split

theorem Device.retrialNeither_evolves {a : Device} {d : Device} {b : Nat} {h : Held} (h_h : Evolves a d) :
    Evolves a (Device.retrialNeither d b h) := by
  unfold Device.retrialNeither
  try dsimp only
  repeat' first
    | with_reducible exact h_h | with_reducible assumption | with_reducible apply Evolves.ite
    | with_reducible apply Evolves.elim | with_reducible apply Device.inc64_evolves
    | with_reducible apply Device.discardFrame_evolves | with_reducible apply Device.fault_evolves | intro _ _ hq
    | intro _ | split

theorem Device.retrialResult_evolves {a : Device} {b : Nat} {o : RetrialOutcome} {d : Device} (h : Evolves a d) :
    Evolves a (Device.retrialResult b o d) := by
  unfold Device.retrialResult
  try dsimp only
  repeat' first
    | with_reducible exact h | with_reducible assumption | with_reducible apply Evolves.elim
    | with_reducible apply Evolves.foldl | with_reducible apply Device.setBank_evolves
    | with_reducible apply Device.strike_evolves | with_reducible apply Device.retrialNeither_evolves | intro _ _ hq
    | intro _ | split

theorem Device.katEnd_evolves {a : Device} {d : Device} {b : Nat} {core : Nat} {passed : Bool} (h : Evolves a d) :
    Evolves a (Device.katEnd d b core passed) := by
  unfold Device.katEnd
  try dsimp only
  repeat' first
    | with_reducible exact h | with_reducible apply Evolves.ite | with_reducible apply Device.setKat_evolves
    | with_reducible apply Device.inc32_evolves | with_reducible apply Device.retireCore_evolves | split

theorem Device.katDelays_evolves {a : Device} {d : Device} {b : Nat} {due : Nat} (h : Evolves a d) :
    Evolves a (Device.katDelays d b due) := by
  unfold Device.katDelays
  try dsimp only
  repeat' first
    | with_reducible exact h | with_reducible apply Evolves.ite | with_reducible apply Device.passTo_evolves
    | with_reducible apply Device.inc64_evolves | split

theorem Device.retrialsFirst_evolves {a : Device} {x0 : Nat} {x1 : Nat} {d : Device} (h : Evolves a d) :
    Evolves a (Device.retrialsFirst x0 x1 d) := by
  induction x0 generalizing x1 d with
  | zero =>
    unfold Device.retrialsFirst
    try dsimp only
    repeat' first
      | with_reducible exact h | with_reducible assumption | with_reducible apply Evolves.elim
      | with_reducible apply Device.passTo_evolves | with_reducible apply Device.issueRetrial_evolves | intro _ _ hq
      | intro _ | split
  | succ _ ih =>
    unfold Device.retrialsFirst
    try dsimp only
    repeat' first
      | with_reducible exact h | with_reducible apply ih | with_reducible assumption
      | with_reducible apply Evolves.elim | with_reducible apply Device.passTo_evolves
      | with_reducible apply Device.issueRetrial_evolves | intro _ _ hq | intro _ | split

theorem Device.bankKat_evolves {a : Device} {b : Nat} {core : Nat} {passed : Bool} {d : Device} (h : Evolves a d) :
    Evolves a (Device.bankKat b core passed d) := by
  unfold Device.bankKat
  try dsimp only
  repeat' first
    | with_reducible exact h | with_reducible apply Evolves.ite | with_reducible apply Device.passTo_evolves
    | with_reducible apply Device.katTurn_evolves | with_reducible apply Device.katEnd_evolves
    | with_reducible apply Device.retrialsFirst_evolves | with_reducible apply Device.katDelays_evolves | split

theorem Device.umpireLfsrReseed_evolves {a : Device} {b : Nat} {d : Device} (h : Evolves a d) :
    Evolves a (Device.umpireLfsrReseed b d) := by
  unfold Device.umpireLfsrReseed
  try dsimp only
  repeat' first
    | with_reducible exact h | with_reducible apply Evolves.ite | with_reducible apply Device.passTo_evolves
    | with_reducible apply Device.seedLfsr_evolves | split

theorem Device.bankRetireCore_evolves {a : Device} {r : Req} {b : Nat} {core : Nat} {d : Device} (h : Evolves a d) :
    Evolves a (Device.bankRetireCore r b core d).2 := by
  unfold Device.bankRetireCore
  try dsimp only
  repeat' first
    | with_reducible exact h | with_reducible assumption | with_reducible apply Device.runCmd_evolves
    | with_reducible apply Device.retireCore_evolves | intro _ _ hq | intro _

theorem Device.katNowCore_evolves {a : Device} {r : Req} {b : Nat} {core : Nat} {passed : Bool} {d : Device} (h : Evolves a d) :
    Evolves a (Device.katNowCore r b core passed d).2 := by
  unfold Device.katNowCore
  try dsimp only
  repeat' first
    | with_reducible exact h | with_reducible assumption | with_reducible apply Device.runCmd_evolves
    | with_reducible apply Device.passTo_evolves | with_reducible apply Device.katTurn_evolves
    | with_reducible apply Device.katEnd_evolves | intro _ _ hq | intro _

end Sys2Proof.Machine
end

