-- ==== Sys2Proof/Laws/EvolveTransClock.lean ====
section
/-!
SUPPORT. The operations of Machine/TransClock.lean respect what every operation respects (Laws/Evolve.lean).
-/
set_option Elab.async false
set_option linter.all false
set_option linter.unusedTactic false
set_option linter.unreachableTactic false
set_option linter.style.longLine false
namespace Sys2Proof.Machine

theorem Device.tcFrame_evolves {a : Device} {d : Device} {f : Frame} {data : Bytes} (h : Evolves a d) :
    Evolves a (Device.tcFrame d f data).2 := by
  unfold Device.tcFrame
  try dsimp only
  repeat' first
    | with_reducible exact h | with_reducible assumption | with_reducible apply Evolves.ite
    | with_reducible apply Device.inc64_evolves | with_reducible apply Evolves.ite2 | split

theorem Device.tcInFlight_evolves {a : Device} {d : Device} {f : Frame} (h : Evolves a d) :
    Evolves a (Device.tcInFlight d f).2 := by
  unfold Device.tcInFlight
  try dsimp only
  repeat' first
    | with_reducible exact h | with_reducible assumption | with_reducible apply Device.tcFrame_evolves
    | exact h.same rfl rfl rfl rfl rfl rfl rfl | split

theorem Device.blockWait_evolves {a : Device} {d : Device} {p : Nat} (h : Evolves a d) :
    Evolves a (Device.blockWait d p).2 := by
  unfold Device.blockWait
  try dsimp only
  repeat' first
    | with_reducible exact h | with_reducible apply Evolves.unstated

theorem Device.tcSchedule_evolves {a : Device} {d : Device} {f : Frame} (h : Evolves a d) :
    Evolves a (Device.tcSchedule d f).2 := by
  unfold Device.tcSchedule
  try dsimp only
  repeat' first
    | with_reducible exact h | with_reducible assumption | with_reducible apply Device.tcFrame_evolves
    | with_reducible apply Device.blockWait_evolves | exact h.same rfl rfl rfl rfl rfl rfl rfl | split

end Sys2Proof.Machine
end

