-- ==== Sys2Proof/Laws/EvolveMacsec.lean ====
section
/-!
SUPPORT. The operations of Machine/Macsec.lean respect what every operation respects (Laws/Evolve.lean).
-/
set_option Elab.async false
set_option linter.all false
set_option linter.unusedTactic false
set_option linter.unreachableTactic false
set_option linter.style.longLine false
namespace Sys2Proof.Machine

theorem Device.saStats_evolves {a : Device} {d : Device} {f : Frame} (h : Evolves a d) :
    Evolves a (Device.saStats d f) := by
  unfold Device.saStats
  try dsimp only
  repeat' first
    | with_reducible exact h | with_reducible apply Evolves.ite | with_reducible apply Device.inc64_evolves
    | with_reducible apply Device.add64_evolves | split

theorem Device.rxCommit_evolves {a : Device} {d : Device} {f : Frame} (h : Evolves a d) :
    Evolves a (Device.rxCommit d f) := by
  unfold Device.rxCommit
  try dsimp only
  repeat' first
    | with_reducible exact h | with_reducible apply Device.setCtx_evolves | with_reducible apply Device.wrBit_evolves
    | with_reducible apply Device.saStats_evolves | with_reducible apply Device.lapProtected_evolves
    | with_reducible apply Device.learnCommit_evolves

end Sys2Proof.Machine
end

