-- ==== Sys2Proof/Laws/EvolveHostPath.lean ====
section
/-!
SUPPORT. The operations of Machine/HostPath.lean respect what every operation respects (Laws/Evolve.lean).
-/
set_option Elab.async false
set_option linter.all false
set_option linter.unusedTactic false
set_option linter.unreachableTactic false
set_option linter.style.longLine false
namespace Sys2Proof.Machine

theorem Device.addFrame_evolves {a : Device} {d : Device} {f : Frame} (h : Evolves a d) :
    Evolves a (Device.addFrame d f) := by
  unfold Device.addFrame
  try dsimp only
  repeat' first
    | with_reducible exact h | with_reducible apply Device.setPipe_evolves

theorem Device.dropQuiet_evolves {a : Device} {d : Device} {f : Frame} (h : Evolves a d) :
    Evolves a (Device.dropQuiet d f) := by
  unfold Device.dropQuiet
  try dsimp only
  repeat' first
    | with_reducible exact h | with_reducible apply Device.dropWhole_evolves
    | exact h.same rfl rfl rfl rfl rfl rfl rfl

theorem Device.forceSaf_evolves {a : Device} {d : Device} {f : Frame} (h : Evolves a d) :
    Evolves a (Device.forceSaf d f).2 := by
  unfold Device.forceSaf
  try dsimp only
  repeat' first
    | with_reducible exact h | with_reducible apply Evolves.ite | with_reducible apply Device.inc64_evolves
    | with_reducible apply Evolves.ite2 | exact h.same rfl rfl rfl rfl rfl rfl rfl | split

theorem Device.countPunt_evolves {a : Device} {d : Device} {reason : Nat} (h : Evolves a d) :
    Evolves a (Device.countPunt d reason) := by
  unfold Device.countPunt
  try dsimp only
  repeat' first
    | with_reducible exact h | with_reducible assumption | with_reducible apply Device.setPipe_evolves | intro _ _ hq
    | intro _

theorem Device.takePart3_evolves {a : Device} {d : Device} {f : Frame} (h : Evolves a d) :
    Evolves a (Device.takePart3 d f).2 := by
  unfold Device.takePart3
  try dsimp only
  repeat' first
    | with_reducible exact h | with_reducible assumption | with_reducible apply Evolves.foldl
    | with_reducible apply Device.useCell_evolves | with_reducible apply Device.addCell_evolves
    | with_reducible apply Evolves.foldl2 | intro _ _ hq | intro _

theorem Device.puntWhole_evolves {a : Device} {d : Device} {f : Frame} {reason : Nat} (h : Evolves a d) :
    Evolves a (Device.puntWhole d f reason) := by
  unfold Device.puntWhole
  try dsimp only
  repeat' first
    | with_reducible exact h | with_reducible apply Evolves.ite | with_reducible apply Device.inc64_evolves
    | with_reducible apply Device.dropWhole_evolves | with_reducible apply Device.countPunt_evolves
    | with_reducible apply Device.takePart3_evolves | with_reducible apply Device.setFrame_evolves
    | with_reducible apply Evolves.ite2 | exact h.same rfl rfl rfl rfl rfl rfl rfl | split

theorem Device.puntFrame_evolves {a : Device} {d : Device} {f : Frame} {reason : Nat} (h : Evolves a d) :
    Evolves a (Device.puntFrame d f reason) := by
  unfold Device.puntFrame
  try dsimp only
  repeat' first
    | with_reducible exact h | with_reducible assumption | with_reducible apply Evolves.ite
    | with_reducible apply Evolves.elim | with_reducible apply Device.forceSaf_evolves
    | with_reducible apply Device.falseStart_evolves | with_reducible apply Device.setFrame_evolves
    | with_reducible apply Device.passTo_evolves | with_reducible apply Device.dropWhole_evolves
    | with_reducible apply Device.puntWhole_evolves | with_reducible apply Evolves.ite2
    | with_reducible apply Evolves.elim2 | intro _ _ hq | intro _ | split

theorem Device.puntInto_evolves {a : Device} {d : Device} {f : Frame} {n : Nat} {x : Descriptor} (h : Evolves a d) :
    Evolves a (Device.puntInto d f n x) := by
  unfold Device.puntInto
  try dsimp only
  repeat' first
    | with_reducible exact h | with_reducible apply Evolves.ite | with_reducible apply Device.dmaAdvance_evolves
    | with_reducible apply Device.dmaComplete_evolves | with_reducible apply Evolves.emit
    | with_reducible apply Device.address_evolves | with_reducible apply Device.inc64_evolves
    | with_reducible apply Device.removeFrame_evolves | split

theorem Device.puntDeliver_evolves {a : Device} {id : Nat} {x : Descriptor} {d : Device} (h : Evolves a d) :
    Evolves a (Device.puntDeliver id x d) := by
  unfold Device.puntDeliver
  try dsimp only
  repeat' first
    | with_reducible exact h | with_reducible assumption | with_reducible apply Evolves.ite
    | with_reducible apply Evolves.elim | with_reducible apply Device.puntInto_evolves | intro _ _ hq | intro _
    | split

theorem Device.puntDescriptorTimeout_evolves {a : Device} {id : Nat} {d : Device} (h : Evolves a d) :
    Evolves a (Device.puntDescriptorTimeout id d) := by
  unfold Device.puntDescriptorTimeout
  try dsimp only
  repeat' first
    | with_reducible exact h | with_reducible assumption | with_reducible apply Evolves.ite
    | with_reducible apply Evolves.elim | with_reducible apply Device.passTo_evolves
    | with_reducible apply Device.inc64_evolves | with_reducible apply Device.dropWhole_evolves | intro _ _ hq
    | intro _ | split

theorem Device.injProtect_evolves {a : Device} {d : Device} {x : Descriptor} {f : Frame} (h : Evolves a d) :
    Evolves a (Device.injProtect d x f).2 := by
  unfold Device.injProtect
  try dsimp only
  repeat' first
    | with_reducible exact h | with_reducible assumption | with_reducible apply Evolves.ite
    | with_reducible apply Evolves.elim | with_reducible apply Device.keyLookup_evolves
    | with_reducible apply Evolves.ite2 | with_reducible apply Evolves.elim2 | intro _ _ hq | intro _ | split

theorem Device.injQueue_evolves {a : Device} {d : Device} {n : Nat} {x : Descriptor} {data : Bytes} (h : Evolves a d) :
    Evolves a (Device.injQueue d n x data) := by
  unfold Device.injQueue
  try dsimp only
  repeat' first
    | with_reducible exact h | with_reducible apply Device.injProtect_evolves
    | with_reducible apply Device.takePart3_evolves | with_reducible apply Device.addFrame_evolves
    | with_reducible apply Device.dmaTake_evolves | with_reducible apply Device.setNode_evolves

theorem Device.injectDescriptor_evolves {a : Device} {n : Nat} {x : Descriptor} {data : Bytes} {d : Device} (h : Evolves a d) :
    Evolves a (Device.injectDescriptor n x data d) := by
  unfold Device.injectDescriptor
  try dsimp only
  repeat' first
    | with_reducible exact h | with_reducible apply Evolves.ite | with_reducible apply Device.dmaAdvance_evolves
    | with_reducible apply Device.dmaComplete_evolves | with_reducible apply Device.inc64_evolves
    | with_reducible apply Device.injQueue_evolves | split

theorem Device.injectComplete_evolves {a : Device} {id : Nat} {stamp : Nat} {d : Device} (h : Evolves a d) :
    Evolves a (Device.injectComplete id stamp d) := by
  unfold Device.injectComplete
  try dsimp only
  repeat' first
    | with_reducible exact h | with_reducible assumption | with_reducible apply Evolves.ite
    | with_reducible apply Evolves.elim | with_reducible apply Device.setFrame_evolves
    | with_reducible apply Device.dmaFinish_evolves | intro _ _ hq | intro _
    | exact h.same rfl rfl rfl rfl rfl rfl rfl | exact hq.same rfl rfl rfl rfl rfl rfl rfl | split

theorem Device.injectSendTimeout_evolves {a : Device} {id : Nat} {d : Device} (h : Evolves a d) :
    Evolves a (Device.injectSendTimeout id d) := by
  unfold Device.injectSendTimeout
  try dsimp only
  repeat' first
    | with_reducible exact h | with_reducible assumption | with_reducible apply Evolves.ite
    | with_reducible apply Evolves.elim | with_reducible apply Device.passTo_evolves
    | with_reducible apply Device.injectRefuse_evolves | with_reducible apply Device.dropWhole_evolves | intro _ _ hq
    | intro _ | split

end Sys2Proof.Machine
end

