-- ==== Sys2Proof/Laws/EvolveIngress.lean ====
section
/-!
SUPPORT. The operations of Machine/Ingress.lean respect what every operation respects (Laws/Evolve.lean).
-/
set_option Elab.async false
set_option linter.all false
set_option linter.unusedTactic false
set_option linter.unreachableTactic false
set_option linter.style.longLine false
namespace Sys2Proof.Machine

theorem Device.admitFrame_evolves {a : Device} {d : Device} {f : Frame} (h : Evolves a d) :
    Evolves a (Device.admitFrame d f) := by
  unfold Device.admitFrame
  try dsimp only
  repeat' first
    | with_reducible exact h | with_reducible apply Evolves.ite | with_reducible apply Device.setFrame_evolves
    | with_reducible apply Device.enqueue_evolves | with_reducible apply Device.passTo_evolves
    | with_reducible apply Device.dropWhole_evolves | split

theorem Device.chooseSaf_evolves {a : Device} {d : Device} {f : Frame} (h : Evolves a d) :
    Evolves a (Device.chooseSaf d f).2 := by
  unfold Device.chooseSaf
  try dsimp only
  repeat' first
    | with_reducible exact h | with_reducible apply Evolves.ite | with_reducible apply Device.forceSaf_evolves
    | with_reducible apply Evolves.ite2 | split

theorem Device.egressLimit_evolves {a : Device} {d : Device} {f : Frame} (h : Evolves a d) :
    Evolves a (Device.egressLimit d f).2 := by
  unfold Device.egressLimit
  try dsimp only
  repeat' first
    | with_reducible exact h | with_reducible apply Evolves.ite | with_reducible apply Device.sub64_evolves
    | with_reducible apply Device.uncountRx_evolves | with_reducible apply Device.inc64_evolves
    | with_reducible apply Evolves.ite2 | exact h.same rfl rfl rfl rfl rfl rfl rfl | split

theorem Device.dropRed_evolves {a : Device} {d : Device} {f : Frame} (h : Evolves a d) :
    Evolves a (Device.dropRed d f) := by
  unfold Device.dropRed
  try dsimp only
  repeat' first
    | with_reducible exact h | with_reducible apply Device.dropQuiet_evolves

theorem Device.police6_evolves {a : Device} {d : Device} {f : Frame} (h : Evolves a d) :
    Evolves a (Device.police6 d f) := by
  unfold Device.police6
  try dsimp only
  repeat' first
    | with_reducible exact h | with_reducible assumption | with_reducible apply Device.egressLimit_evolves
    | with_reducible apply Device.chooseSaf_evolves | with_reducible apply Device.police_evolves
    | with_reducible apply Device.dropRed_evolves | with_reducible apply Device.admitFrame_evolves | split

theorem Device.noResult_evolves {a : Device} {d : Device} {f : Frame} (h : Evolves a d) :
    Evolves a (Device.noResult d f) := by
  unfold Device.noResult
  try dsimp only
  repeat' first
    | with_reducible exact h | with_reducible apply Device.inc64_evolves
    | with_reducible apply Device.dropQuiet_evolves

theorem Device.protectTx_evolves {a : Device} {d : Device} {f : Frame} {sc : Nat} (h : Evolves a d) :
    Evolves a (Device.protectTx d f sc) := by
  unfold Device.protectTx
  try dsimp only
  repeat' first
    | with_reducible exact h | with_reducible assumption | with_reducible apply Evolves.ite
    | with_reducible apply Device.inc64_evolves | with_reducible apply Device.dropWhole_evolves
    | with_reducible apply Device.police6_evolves | with_reducible apply Device.keyLookup_evolves
    | with_reducible apply Evolves.ite2 | split

theorem Device.applyResult_evolves {a : Device} {d : Device} {f : Frame} {r : Nat} (h : Evolves a d) :
    Evolves a (Device.applyResult d f r) := by
  unfold Device.applyResult
  try dsimp only
  repeat' first
    | with_reducible exact h | with_reducible apply Evolves.ite | with_reducible apply Device.inc64_evolves
    | with_reducible apply Device.noResult_evolves | with_reducible apply Device.puntFrame_evolves
    | with_reducible apply Device.dropQuiet_evolves | with_reducible apply Device.police6_evolves
    | with_reducible apply Device.protectTx_evolves | exact h.same rfl rfl rfl rfl rfl rfl rfl | split

theorem Device.rxAdmit_evolves {a : Device} {d : Device} {f : Frame} (h : Evolves a d) :
    Evolves a (Device.rxAdmit d f) := by
  unfold Device.rxAdmit
  try dsimp only
  repeat' first
    | with_reducible exact h | with_reducible apply Evolves.ite | with_reducible apply Device.egressLimit_evolves
    | with_reducible apply Device.chooseSaf_evolves | with_reducible apply Device.police_evolves
    | with_reducible apply Device.dropRed_evolves | with_reducible apply Device.learnDecide_evolves
    | with_reducible apply Device.dropWhole_evolves | with_reducible apply Device.admitFrame_evolves
    | with_reducible apply Evolves.ite2 | split

theorem Device.rxLate_evolves {a : Device} {d : Device} {f : Frame} (h : Evolves a d) :
    Evolves a (Device.rxLate d f) := by
  unfold Device.rxLate
  try dsimp only
  repeat' first
    | with_reducible exact h | with_reducible apply Evolves.ite | with_reducible apply Device.setFrame_evolves
    | with_reducible apply Device.lateDrop_evolves | exact h.same rfl rfl rfl rfl rfl rfl rfl | split

theorem Device.rxUnder_evolves {a : Device} {d : Device} {f : Frame} {sa : Nat} (h : Evolves a d) :
    Evolves a (Device.rxUnder d f sa) := by
  unfold Device.rxUnder
  try dsimp only
  repeat' first
    | with_reducible exact h | with_reducible apply Evolves.ite | with_reducible apply Device.keyLookup_evolves
    | with_reducible apply Device.rxLate_evolves | with_reducible apply Device.rxAdmit_evolves
    | with_reducible apply Evolves.ite2 | exact h.same rfl rfl rfl rfl rfl rfl rfl | split

theorem Device.rxInSc_evolves {a : Device} {d : Device} {f : Frame} (h : Evolves a d) :
    Evolves a (Device.rxInSc d f) := by
  unfold Device.rxInSc
  try dsimp only
  repeat' first
    | with_reducible exact h | with_reducible apply Evolves.ite | with_reducible apply Device.inc64_evolves
    | with_reducible apply Device.dropWhole_evolves | with_reducible apply Device.dropQuiet_evolves
    | with_reducible apply Device.rxUnder_evolves | split

theorem Device.noSc_evolves {a : Device} {d : Device} {f : Frame} (h : Evolves a d) :
    Evolves a (Device.noSc d f) := by
  unfold Device.noSc
  try dsimp only
  repeat' first
    | with_reducible exact h | with_reducible apply Device.inc64_evolves
    | with_reducible apply Device.dropQuiet_evolves

theorem Device.applySci_evolves {a : Device} {d : Device} {f : Frame} {r : Nat} (h : Evolves a d) :
    Evolves a (Device.applySci d f r) := by
  unfold Device.applySci
  try dsimp only
  repeat' first
    | with_reducible exact h | with_reducible apply Evolves.ite | with_reducible apply Device.inc64_evolves
    | with_reducible apply Device.noSc_evolves | with_reducible apply Device.rxInSc_evolves
    | exact h.same rfl rfl rfl rfl rfl rfl rfl | split

theorem Device.classified_evolves {a : Device} {d : Device} {f : Frame} {r : Option Nat} (h : Evolves a d) :
    Evolves a (Device.classified d f r) := by
  unfold Device.classified
  try dsimp only
  repeat' first
    | with_reducible exact h | with_reducible assumption | with_reducible apply Evolves.ite
    | with_reducible apply Evolves.elim | with_reducible apply Device.noSc_evolves
    | with_reducible apply Device.applySci_evolves | with_reducible apply Device.noResult_evolves
    | with_reducible apply Device.applyResult_evolves | intro _ _ hq | intro _ | split

theorem Device.roomDrop_evolves {a : Device} {d : Device} {f : Frame} (h : Evolves a d) :
    Evolves a (Device.roomDrop d f) := by
  unfold Device.roomDrop
  try dsimp only
  repeat' first
    | with_reducible exact h | with_reducible apply Device.inc64_evolves
    | with_reducible apply Device.dropQuiet_evolves

theorem Device.park_evolves {a : Device} {d : Device} {f : Frame} (h : Evolves a d) :
    Evolves a (Device.park d f) := by
  unfold Device.park
  try dsimp only
  repeat' first
    | with_reducible exact h | with_reducible apply Evolves.ite | with_reducible apply Device.roomDrop_evolves
    | with_reducible apply Device.setFrame_evolves | with_reducible apply Device.inc64_evolves
    | with_reducible apply Device.pmcSlice_evolves | with_reducible apply Device.callroomRecount_evolves
    | with_reducible apply Device.lookupUnits_evolves | with_reducible apply Device.memRequest_evolves
    | with_reducible apply Device.lookup_evolves | with_reducible apply Evolves.ite2
    | exact h.same rfl rfl rfl rfl rfl rfl rfl | split

theorem Device.waitRoom_evolves {a : Device} {d : Device} {f : Frame} {r : Option Nat} (h : Evolves a d) :
    Evolves a (Device.waitRoom d f r) := by
  unfold Device.waitRoom
  try dsimp only
  repeat' first
    | with_reducible exact h | with_reducible apply Evolves.ite | with_reducible apply Device.roomDrop_evolves
    | with_reducible apply Device.setFrame_evolves | with_reducible apply Device.callroomRecount_evolves
    | exact h.same rfl rfl rfl rfl rfl rfl rfl | split

theorem Device.logOvertake_evolves {a : Device} {d : Device} {f : Frame} {r : Option Nat} (h : Evolves a d) :
    Evolves a (Device.logOvertake d f r) := by
  unfold Device.logOvertake
  try dsimp only
  repeat' first
    | with_reducible exact h | with_reducible apply Device.setPipe_evolves

theorem Device.looked_evolves {a : Device} {d : Device} {f : Frame} {res : Option (Option Nat)} (h : Evolves a d) :
    Evolves a (Device.looked d f res) := by
  unfold Device.looked
  try dsimp only
  repeat' first
    | with_reducible exact h | with_reducible assumption | with_reducible apply Evolves.ite
    | with_reducible apply Device.park_evolves | with_reducible apply Device.classified_evolves
    | with_reducible apply Device.logOvertake_evolves | with_reducible apply Device.waitRoom_evolves | split

theorem Device.leaveRoom_evolves {a : Device} {d : Device} {f : Frame} {r : Option Nat} (h : Evolves a d) :
    Evolves a (Device.leaveRoom d f r) := by
  unfold Device.leaveRoom
  try dsimp only
  repeat' first
    | with_reducible exact h | with_reducible apply Evolves.ite | with_reducible apply Device.setFrame_evolves
    | with_reducible apply Device.callroomRecount_evolves | with_reducible apply Device.dropWhole_evolves
    | with_reducible apply Device.pruneOvertake_evolves | with_reducible apply Device.inc64_evolves
    | with_reducible apply Device.classified_evolves | exact h.same rfl rfl rfl rfl rfl rfl rfl | split

theorem Device.resume_evolves {a : Device} {x0 : Nat} {x1 : Nat} {d : Device} (h : Evolves a d) :
    Evolves a (Device.resume x0 x1 d) := by
  induction x0 generalizing x1 d with
  | zero =>
    unfold Device.resume
    try dsimp only
    repeat' first
      | with_reducible exact h | with_reducible assumption | with_reducible apply Evolves.elim
      | with_reducible apply Device.looked_evolves | with_reducible apply Device.leaveRoom_evolves | intro _ _ hq
      | intro _ | split
  | succ _ ih =>
    unfold Device.resume
    try dsimp only
    repeat' first
      | with_reducible exact h | with_reducible apply ih | with_reducible assumption
      | with_reducible apply Evolves.elim | with_reducible apply Device.looked_evolves
      | with_reducible apply Device.leaveRoom_evolves | intro _ _ hq | intro _ | split

theorem Device.lookupBack_evolves {a : Device} {d : Device} {f : Frame} {x : LookupRead} {ok : Bool} (h : Evolves a d) :
    Evolves a (Device.lookupBack d f x ok) := by
  unfold Device.lookupBack
  try dsimp only
  repeat' first
    | with_reducible exact h | with_reducible apply Device.passTo_evolves
    | with_reducible apply Device.lookupReturn_evolves | with_reducible apply Device.setFrame_evolves
    | with_reducible apply Device.looked_evolves | with_reducible apply Device.resume_evolves
    | exact h.same rfl rfl rfl rfl rfl rfl rfl

theorem Device.callroomLookupReturn_evolves {a : Device} {id : Nat} {ok : Bool} {d : Device} (h : Evolves a d) :
    Evolves a (Device.callroomLookupReturn id ok d) := by
  unfold Device.callroomLookupReturn
  try dsimp only
  repeat' first
    | with_reducible exact h | with_reducible assumption | with_reducible apply Evolves.ite
    | with_reducible apply Evolves.elim | with_reducible apply Device.looked_evolves
    | with_reducible apply Device.lookupBack_evolves | intro _ _ hq | intro _ | split

theorem Device.callroomTimeout_evolves {a : Device} {id : Nat} {d : Device} (h : Evolves a d) :
    Evolves a (Device.callroomTimeout id d) := by
  unfold Device.callroomTimeout
  try dsimp only
  repeat' first
    | with_reducible exact h | with_reducible assumption | with_reducible apply Evolves.ite
    | with_reducible apply Evolves.elim | with_reducible apply Device.looked_evolves
    | with_reducible apply Device.passTo_evolves | with_reducible apply Device.inc64_evolves
    | with_reducible apply Device.dropQuiet_evolves | with_reducible apply Device.resume_evolves | intro _ _ hq
    | intro _ | split

theorem Device.parseClear_evolves {a : Device} {d : Device} {f : Frame} (h : Evolves a d) :
    Evolves a (Device.parseClear d f) := by
  unfold Device.parseClear
  try dsimp only
  repeat' first
    | with_reducible exact h | with_reducible apply Evolves.ite | with_reducible apply Device.inc64_evolves
    | with_reducible apply Device.puntFrame_evolves | with_reducible apply Device.dropQuiet_evolves
    | with_reducible apply Device.lookup_evolves | with_reducible apply Device.setFrame_evolves
    | with_reducible apply Device.looked_evolves | with_reducible apply Evolves.ite2
    | exact h.same rfl rfl rfl rfl rfl rfl rfl | split

theorem Device.clearFrame_evolves {a : Device} {d : Device} {f : Frame} (h : Evolves a d) :
    Evolves a (Device.clearFrame d f) := by
  unfold Device.clearFrame
  try dsimp only
  repeat' first
    | with_reducible exact h | with_reducible apply Evolves.ite | with_reducible apply Device.puntFrame_evolves
    | with_reducible apply Device.inc64_evolves | with_reducible apply Device.dropQuiet_evolves
    | with_reducible apply Device.parseClear_evolves | split

theorem Device.taggedFrame_evolves {a : Device} {d : Device} {f : Frame} {raw : Bytes} (h : Evolves a d) :
    Evolves a (Device.taggedFrame d f raw) := by
  unfold Device.taggedFrame
  try dsimp only
  repeat' first
    | with_reducible exact h | with_reducible apply Evolves.ite | with_reducible apply Device.inc64_evolves
    | with_reducible apply Device.dropQuiet_evolves | with_reducible apply Device.noSc_evolves
    | with_reducible apply Device.lookup_evolves | with_reducible apply Device.setFrame_evolves
    | with_reducible apply Device.looked_evolves | with_reducible apply Evolves.ite2
    | exact h.same rfl rfl rfl rfl rfl rfl rfl | split

theorem Device.countRx_evolves {a : Device} {d : Device} {p : Nat} {x : RxFrame} {over_ : Bool} (h : Evolves a d) :
    Evolves a (Device.countRx d p x over_) := by
  unfold Device.countRx
  try dsimp only
  repeat' first
    | with_reducible exact h | with_reducible apply Evolves.ite | with_reducible apply Device.inc64_evolves
    | with_reducible apply Device.add64_evolves | split

theorem Device.enterPipe_evolves {a : Device} {d : Device} {x : RxFrame} {over_ : Bool} (h : Evolves a d) :
    Evolves a (Device.enterPipe d x over_) := by
  unfold Device.enterPipe
  try dsimp only
  repeat' first
    | with_reducible exact h | with_reducible apply Evolves.ite | with_reducible apply Device.stageCell_evolves
    | with_reducible apply Device.addFrame_evolves | with_reducible apply Device.taggedFrame_evolves
    | with_reducible apply Device.setFrame_evolves | with_reducible apply Device.clearFrame_evolves | split

theorem Device.arrive_evolves {a : Device} {d : Device} {x : RxFrame} (h : Evolves a d) :
    Evolves a (Device.arrive d x) := by
  unfold Device.arrive
  try dsimp only
  repeat' first
    | with_reducible exact h | with_reducible apply Evolves.ite | with_reducible apply Device.inc64_evolves
    | with_reducible apply Device.macControlRx_evolves | with_reducible apply Device.countRx_evolves
    | with_reducible apply Device.enterPipe_evolves | split

theorem Device.hostFrameRx_evolves {a : Device} {x : RxFrame} {d : Device} (h : Evolves a d) :
    Evolves a (Device.hostFrameRx x d) := by
  unfold Device.hostFrameRx
  try dsimp only
  repeat' first
    | with_reducible exact h | with_reducible apply Evolves.ite | with_reducible apply Device.arrive_evolves | split

theorem Device.lineFrameRx_evolves {a : Device} {x : RxFrame} {d : Device} (h : Evolves a d) :
    Evolves a (Device.lineFrameRx x d) := by
  unfold Device.lineFrameRx
  try dsimp only
  repeat' first
    | with_reducible exact h | with_reducible apply Evolves.ite | with_reducible apply Device.arrive_evolves | split

end Sys2Proof.Machine
end

