-- ==== Sys2Proof/Laws/EvolveEgress.lean ====
section
/-!
SUPPORT. The operations of Machine/Egress.lean respect what every operation respects (Laws/Evolve.lean).
-/
set_option Elab.async false
set_option linter.all false
set_option linter.unusedTactic false
set_option linter.unreachableTactic false
set_option linter.style.longLine false
namespace Sys2Proof.Machine

theorem Device.setLastSc_evolves {a : Device} {d : Device} {f : Frame} {v : Nat} (h : Evolves a d) :
    Evolves a (Device.setLastSc d f v) := by
  unfold Device.setLastSc
  try dsimp only
  repeat' first
    | with_reducible exact h | with_reducible apply Evolves.ite | with_reducible apply Device.setPipe_evolves | split

theorem Device.dropNoSa_evolves {a : Device} {d : Device} {f : Frame} (h : Evolves a d) :
    Evolves a (Device.dropNoSa d f) := by
  unfold Device.dropNoSa
  try dsimp only
  repeat' first
    | with_reducible exact h | with_reducible assumption | with_reducible apply Evolves.elim
    | with_reducible apply Device.injectRefuse_evolves | with_reducible apply Device.dropWhole_evolves | intro _ _ hq
    | intro _

theorem Device.holdExpired_evolves {a : Device} {d : Device} {sc : Nat} (h : Evolves a d) :
    Evolves a (Device.holdExpired d sc) := by
  unfold Device.holdExpired
  try dsimp only
  repeat' first
    | with_reducible exact h | with_reducible apply Device.endHold_evolves
    | with_reducible apply Device.protEvent_evolves

theorem Device.startHold_evolves {a : Device} {d : Device} {sc : Nat} (h : Evolves a d) :
    Evolves a (Device.startHold d sc) := by
  unfold Device.startHold
  try dsimp only
  repeat' first
    | with_reducible exact h | with_reducible apply Evolves.ite | with_reducible apply Device.wrBit_evolves
    | with_reducible apply Device.setHoldUntil_evolves | with_reducible apply Device.holdExpired_evolves | split

theorem Device.stopSc_evolves {a : Device} {d : Device} {sc : Nat} {an : Nat} {pn : Nat} (h : Evolves a d) :
    Evolves a (Device.stopSc d sc an pn) := by
  unfold Device.stopSc
  try dsimp only
  repeat' first
    | with_reducible exact h | with_reducible apply Evolves.ite | with_reducible apply Device.wrBit_evolves
    | with_reducible apply Device.protEvent_evolves | with_reducible apply Device.earlyHandover_evolves
    | with_reducible apply Device.startHold_evolves | split

theorem Device.pnEvents_evolves {a : Device} {d : Device} {sc : Nat} {an : Nat} {pn : Nat} (h : Evolves a d) :
    Evolves a (Device.pnEvents d sc an pn) := by
  unfold Device.pnEvents
  try dsimp only
  repeat' first
    | with_reducible exact h | with_reducible apply Evolves.ite | with_reducible apply Device.wrBit_evolves
    | with_reducible apply Device.protEvent_evolves | with_reducible apply Device.stopSc_evolves | split

theorem Device.checkPrediction_evolves {a : Device} {d : Device} {f : Frame} (h : Evolves a d) :
    Evolves a (Device.checkPrediction d f).2 := by
  unfold Device.checkPrediction
  try dsimp only
  repeat' first
    | with_reducible exact h | with_reducible assumption | with_reducible apply Evolves.ite
    | with_reducible apply Device.inc64_evolves | with_reducible apply Device.falseStart_evolves
    | with_reducible apply Evolves.ite2 | intro _ _ hq | intro _ | exact h.same rfl rfl rfl rfl rfl rfl rfl
    | exact hq.same rfl rfl rfl rfl rfl rfl rfl | split

theorem Device.takePn_evolves {a : Device} {d : Device} {f : Frame} (h : Evolves a d) :
    Evolves a (Device.takePn d f) := by
  unfold Device.takePn
  try dsimp only
  repeat' first
    | with_reducible exact h | with_reducible apply Device.setCtx_evolves | with_reducible apply Device.wrBit_evolves
    | with_reducible apply Device.setLastPn_evolves

theorem Device.assignPn_evolves {a : Device} {d : Device} {f : Frame} (h : Evolves a d) :
    Evolves a (Device.assignPn d f) := by
  unfold Device.assignPn
  try dsimp only
  repeat' first
    | with_reducible exact h | with_reducible apply Device.tcSchedule_evolves
    | with_reducible apply Device.takePn_evolves | with_reducible apply Device.checkPrediction_evolves
    | with_reducible apply Device.setFrame_evolves | with_reducible apply Device.setLastSc_evolves
    | with_reducible apply Device.pnEvents_evolves

theorem Device.orderFrame_evolves {a : Device} {d : Device} {f : Frame} (h : Evolves a d) :
    Evolves a (Device.orderFrame d f) := by
  unfold Device.orderFrame
  try dsimp only
  repeat' first
    | with_reducible exact h | with_reducible assumption | with_reducible apply Evolves.ite
    | with_reducible apply Device.inc64_evolves | with_reducible apply Device.dropNoSa_evolves
    | with_reducible apply Device.assignPn_evolves | with_reducible apply Device.keyLookup_evolves
    | with_reducible apply Evolves.ite2 | split

theorem Device.orderClear_evolves {a : Device} {d : Device} {f : Frame} (h : Evolves a d) :
    Evolves a (Device.orderClear d f) := by
  unfold Device.orderClear
  try dsimp only
  repeat' first
    | with_reducible exact h | with_reducible assumption | with_reducible apply Evolves.elim
    | with_reducible apply Device.falseStart_evolves | with_reducible apply Device.setFrame_evolves
    | with_reducible apply Device.setLastSc_evolves | intro _ _ hq | intro _
    | exact h.same rfl rfl rfl rfl rfl rfl rfl | exact hq.same rfl rfl rfl rfl rfl rfl rfl

theorem Device.orderClears_evolves {a : Device} {x0 : Nat} {x1 : Nat} {d : Device} (h : Evolves a d) :
    Evolves a (Device.orderClears x0 x1 d) := by
  induction x0 generalizing x1 d with
  | zero =>
    unfold Device.orderClears
    try dsimp only
    repeat' first
      | with_reducible exact h | with_reducible assumption | with_reducible apply Evolves.ite
      | with_reducible apply Evolves.elim | with_reducible apply Device.orderClear_evolves | intro _ _ hq | intro _
      | split
  | succ _ ih =>
    unfold Device.orderClears
    try dsimp only
    repeat' first
      | with_reducible exact h | with_reducible apply ih | with_reducible assumption
      | with_reducible apply Evolves.ite | with_reducible apply Evolves.elim
      | with_reducible apply Device.orderClear_evolves | intro _ _ hq | intro _ | split

theorem Device.pnAssign_evolves {a : Device} {id : Nat} {d : Device} (h : Evolves a d) :
    Evolves a (Device.pnAssign id d) := by
  unfold Device.pnAssign
  try dsimp only
  repeat' first
    | with_reducible exact h | with_reducible assumption | with_reducible apply Evolves.ite
    | with_reducible apply Evolves.elim | with_reducible apply Device.orderClears_evolves
    | with_reducible apply Device.orderFrame_evolves | intro _ _ hq | intro _ | split

theorem Device.stopHoldExpiry_evolves {a : Device} {sc : Nat} {d : Device} (h : Evolves a d) :
    Evolves a (Device.stopHoldExpiry sc d) := by
  unfold Device.stopHoldExpiry
  try dsimp only
  repeat' first
    | with_reducible exact h | with_reducible apply Evolves.ite | with_reducible apply Device.passTo_evolves
    | with_reducible apply Device.holdExpired_evolves | split

theorem Device.stallCell_evolves {a : Device} {d : Device} {f : Frame} (h : Evolves a d) :
    Evolves a (Device.stallCell d f) := by
  unfold Device.stallCell
  try dsimp only
  repeat' first
    | with_reducible exact h | with_reducible apply Evolves.ite | with_reducible apply Device.inc64_evolves
    | with_reducible apply Device.setFrame_evolves | exact h.same rfl rfl rfl rfl rfl rfl rfl | split

theorem Device.passCell_evolves {a : Device} {d : Device} {f : Frame} (h : Evolves a d) :
    Evolves a (Device.passCell d f) := by
  unfold Device.passCell
  try dsimp only
  repeat' first
    | with_reducible exact h | with_reducible apply Evolves.ite | with_reducible apply Device.setFrame_evolves
    | with_reducible apply Device.setSlotCells_evolves | with_reducible apply Device.macStarts_evolves
    | exact h.same rfl rfl rfl rfl rfl rfl rfl | split

theorem Device.cellStage_evolves {a : Device} {d : Device} {f : Frame} (h : Evolves a d) :
    Evolves a (Device.cellStage d f) := by
  unfold Device.cellStage
  try dsimp only
  repeat' first
    | with_reducible exact h | with_reducible apply Evolves.ite | with_reducible apply Device.stallCell_evolves
    | with_reducible apply Device.dropWhole_evolves | with_reducible apply Device.passCell_evolves | split

theorem Device.keystreamApply_evolves {a : Device} {id : Nat} {cell : Nat} {d : Device} (h : Evolves a d) :
    Evolves a (Device.keystreamApply id cell d) := by
  unfold Device.keystreamApply
  try dsimp only
  repeat' first
    | with_reducible exact h | with_reducible assumption | with_reducible apply Evolves.ite
    | with_reducible apply Evolves.elim | with_reducible apply Device.orderClears_evolves
    | with_reducible apply Device.passTo_evolves | with_reducible apply Device.arriveCells_evolves
    | with_reducible apply Device.cellStage_evolves | intro _ _ hq | intro _ | split

theorem Device.tailFail_evolves {a : Device} {d : Device} {f : Frame} (h : Evolves a d) :
    Evolves a (Device.tailFail d f) := by
  unfold Device.tailFail
  try dsimp only
  repeat' first
    | with_reducible exact h | with_reducible apply Evolves.ite | with_reducible apply Device.dropWhole_evolves
    | with_reducible apply Device.setFrame_evolves | with_reducible apply Device.macStarts_evolves
    | exact h.same rfl rfl rfl rfl rfl rfl rfl | split

theorem Device.tailPass_evolves {a : Device} {d : Device} {f : Frame} (h : Evolves a d) :
    Evolves a (Device.tailPass d f) := by
  unfold Device.tailPass
  try dsimp only
  repeat' first
    | with_reducible exact h | with_reducible apply Device.rxCommit_evolves
    | with_reducible apply Device.freeCells_evolves | with_reducible apply Device.macStarts_evolves
    | exact h.same rfl rfl rfl rfl rfl rfl rfl

theorem Device.decryptTailVerify_evolves {a : Device} {id : Nat} {d : Device} (h : Evolves a d) :
    Evolves a (Device.decryptTailVerify id d) := by
  unfold Device.decryptTailVerify
  try dsimp only
  repeat' first
    | with_reducible exact h | with_reducible assumption | with_reducible apply Evolves.ite
    | with_reducible apply Evolves.elim | with_reducible apply Device.tailFail_evolves
    | with_reducible apply Device.inc64_evolves | with_reducible apply Device.tailPass_evolves | intro _ _ hq
    | intro _ | split

theorem Device.tcScheduledDeparture_evolves {a : Device} {id : Nat} {lineFree : Bool} {d : Device} (h : Evolves a d) :
    Evolves a (Device.tcScheduledDeparture id lineFree d) := by
  unfold Device.tcScheduledDeparture
  try dsimp only
  repeat' first
    | with_reducible exact h | with_reducible assumption | with_reducible apply Evolves.ite
    | with_reducible apply Evolves.elim | with_reducible apply Device.passTo_evolves
    | with_reducible apply Device.setFrame_evolves | with_reducible apply Device.macStarts_evolves
    | with_reducible apply Device.inc64_evolves | with_reducible apply Device.dropWhole_evolves | intro _ _ hq
    | intro _ | exact h.same rfl rfl rfl rfl rfl rfl rfl | exact hq.same rfl rfl rfl rfl rfl rfl rfl | split

theorem Device.leftGood_evolves {a : Device} {d : Device} {f : Frame} (h : Evolves a d) :
    Evolves a (Device.leftGood d f) := by
  unfold Device.leftGood
  try dsimp only
  repeat' first
    | with_reducible exact h | with_reducible apply Evolves.ite | with_reducible apply Device.endSlots_evolves
    | with_reducible apply Device.inc64_evolves | with_reducible apply Device.saStats_evolves
    | with_reducible apply Device.lapProtected_evolves | split

theorem Device.uncountScheduled_evolves {a : Device} {d : Device} {f : Frame} (h : Evolves a d) :
    Evolves a (Device.uncountScheduled d f) := by
  unfold Device.uncountScheduled
  try dsimp only
  repeat' first
    | with_reducible exact h | with_reducible apply Evolves.ite | with_reducible apply Device.sub64_evolves | split

theorem Device.leftPoisoned_evolves {a : Device} {d : Device} {f : Frame} (h : Evolves a d) :
    Evolves a (Device.leftPoisoned d f) := by
  unfold Device.leftPoisoned
  try dsimp only
  repeat' first
    | with_reducible exact h | with_reducible apply Device.inc64_evolves
    | with_reducible apply Device.pmcSlice_evolves | with_reducible apply Device.endSlots_evolves
    | with_reducible apply Device.countLost_evolves

theorem Device.leaving_evolves {a : Device} {d : Device} {f : Frame} (h : Evolves a d) :
    Evolves a (Device.leaving d f).2 := by
  unfold Device.leaving
  try dsimp only
  repeat' first
    | with_reducible exact h | with_reducible apply Evolves.ite | with_reducible apply Device.tcInFlight_evolves
    | with_reducible apply Evolves.ite2 | split

theorem Device.frameTxComplete_evolves {a : Device} {id : Nat} {d : Device} (h : Evolves a d) :
    Evolves a (Device.frameTxComplete id d) := by
  unfold Device.frameTxComplete
  try dsimp only
  repeat' first
    | with_reducible exact h | with_reducible assumption | with_reducible apply Evolves.ite
    | with_reducible apply Evolves.elim | with_reducible apply Device.leaving_evolves
    | with_reducible apply Device.txCount_evolves | with_reducible apply Evolves.emit
    | with_reducible apply Device.leftPoisoned_evolves | with_reducible apply Device.leftGood_evolves
    | with_reducible apply Device.removeFrame_evolves | with_reducible apply Device.macStarts_evolves
    | with_reducible apply Evolves.ite2 | with_reducible apply Evolves.elim2 | intro _ _ hq | intro _ | split

end Sys2Proof.Machine
end

