-- ==== Sys2Proof/Laws/EvolveExtMem.lean ====
section
/-!
SUPPORT. The operations of Machine/ExtMem.lean respect what every operation respects (Laws/Evolve.lean).
-/
set_option Elab.async false
set_option linter.all false
set_option linter.unusedTactic false
set_option linter.unreachableTactic false
set_option linter.style.longLine false
namespace Sys2Proof.Machine

theorem Device.memLineRead_evolves {a : Device} {p : Nat} {o : LineOutcome} {d : Device} (h : Evolves a d) :
    Evolves a (Device.memLineRead p o d) := by
  unfold Device.memLineRead
  try dsimp only
  repeat' first
    | with_reducible exact h | with_reducible apply Evolves.ite | with_reducible apply Device.memRequest_evolves
    | split

theorem Device.memFullLineWrite_evolves {a : Device} {p : Nat} {v : Bytes} {d : Device} (h : Evolves a d) :
    Evolves a (Device.memFullLineWrite p v d) := by
  unfold Device.memFullLineWrite
  try dsimp only
  repeat' first
    | with_reducible exact h | with_reducible apply Evolves.ite | with_reducible apply Device.memRequest_evolves
    | with_reducible apply Device.fullLine_evolves | split

theorem Device.memPartialWrite_evolves {a : Device} {o : Nat} {v : Bytes} {r : LineOutcome} {d : Device} (h : Evolves a d) :
    Evolves a (Device.memPartialWrite o v r d) := by
  unfold Device.memPartialWrite
  try dsimp only
  repeat' first
    | with_reducible exact h | with_reducible apply Evolves.ite | with_reducible apply Device.memRequest_evolves
    | with_reducible apply Device.partialWrite_evolves | split

theorem Device.treeNodeEvict_evolves {a : Device} {c : Nat} {level : Nat} {n : Nat} {d : Device} (h : Evolves a d) :
    Evolves a (Device.treeNodeEvict c level n d) := by
  unfold Device.treeNodeEvict
  try dsimp only
  repeat' first
    | with_reducible exact h | with_reducible assumption | with_reducible apply Evolves.ite
    | with_reducible apply Evolves.elim | with_reducible apply Device.evictNode_evolves | intro _ _ hq | intro _
    | split

theorem Device.memScrubVisit_evolves {a : Device} {c : Nat} {line : Nat} {word : Nat} {o : ScrubOutcome} {d : Device} (h : Evolves a d) :
    Evolves a (Device.memScrubVisit c line word o d) := by
  unfold Device.memScrubVisit
  try dsimp only
  repeat' first
    | with_reducible exact h | with_reducible apply Evolves.ite | with_reducible apply Device.passTo_evolves
    | with_reducible apply Device.memRequest_evolves | split

theorem Device.memChRetireCore_evolves {a : Device} {r : Req} {c : Nat} {d : Device} (h : Evolves a d) :
    Evolves a (Device.memChRetireCore r c d).2 := by
  unfold Device.memChRetireCore
  try dsimp only
  repeat' first
    | with_reducible exact h | with_reducible assumption | with_reducible apply Device.runCmd_evolves
    | with_reducible apply Device.startRetire_evolves | intro _ _ hq | intro _

theorem Device.memChUncorrRetire_evolves {a : Device} {c : Nat} {d : Device} (h : Evolves a d) :
    Evolves a (Device.memChUncorrRetire c d) := by
  unfold Device.memChUncorrRetire
  try dsimp only
  repeat' first
    | with_reducible exact h | with_reducible apply Evolves.ite | with_reducible apply Device.startRetire_evolves
    | split

theorem Device.memCalibrationLoss_evolves {a : Device} {c : Nat} {d : Device} (h : Evolves a d) :
    Evolves a (Device.memCalibrationLoss c d) := by
  unfold Device.memCalibrationLoss
  try dsimp only
  repeat' first
    | with_reducible exact h | with_reducible assumption | with_reducible apply Evolves.ite
    | with_reducible apply Device.setMem_evolves | with_reducible apply Device.setSrcState_evolves | intro _ _ hq
    | intro _ | rfl | split

theorem Device.endCalib_evolves {a : Device} {d : Device} {c : Nat} (h : Evolves a d) :
    Evolves a (Device.endCalib d c) := by
  unfold Device.endCalib
  try dsimp only
  repeat' first
    | with_reducible exact h | with_reducible assumption | with_reducible apply Device.setMem_evolves
    | with_reducible apply Device.setSrcState_evolves | intro _ _ hq | intro _ | rfl

theorem Device.memCalibrationRegained_evolves {a : Device} {c : Nat} {d : Device} (h : Evolves a d) :
    Evolves a (Device.memCalibrationRegained c d) := by
  unfold Device.memCalibrationRegained
  try dsimp only
  repeat' first
    | with_reducible exact h | with_reducible assumption | with_reducible apply Evolves.ite
    | with_reducible apply Device.endCalib_evolves | with_reducible apply Device.grants_evolves | intro _ _ hq
    | intro _ | split

theorem Device.memCalibrationLost_evolves {a : Device} {c : Nat} {d : Device} (h : Evolves a d) :
    Evolves a (Device.memCalibrationLost c d) := by
  unfold Device.memCalibrationLost
  try dsimp only
  repeat' first
    | with_reducible exact h | with_reducible assumption | with_reducible apply Evolves.elim
    | with_reducible apply Device.passTo_evolves | with_reducible apply Device.startRetire_evolves
    | with_reducible apply Device.grants_evolves | with_reducible apply Evolves.elim2 | intro _ _ hq | intro _

theorem Device.rehashRead_evolves {a : Device} {lost : Option Nat} {acc : List Nat × Device} {b : Nat} (h : Evolves a acc.2) :
    Evolves a (Device.rehashRead lost acc b).2 := by
  unfold Device.rehashRead
  try dsimp only
  repeat' first
    | with_reducible exact h | with_reducible assumption | with_reducible apply Evolves.ite
    | with_reducible apply Device.readLine_evolves | with_reducible apply Evolves.ite2 | intro _ _ hq | intro _
    | split

theorem Device.rehashLose_evolves {a : Device} {d : Device} {e : ClsEnt} (h : Evolves a d) :
    Evolves a (Device.rehashLose d e) := by
  unfold Device.rehashLose
  try dsimp only
  repeat' first
    | with_reducible exact h | with_reducible apply Evolves.ite | with_reducible apply Device.inc32_evolves
    | with_reducible apply Evolves.wr | split

theorem Device.rehashPut_evolves {a : Device} {d : Device} {e : ClsEnt} (h : Evolves a d) :
    Evolves a (Device.rehashPut d e) := by
  unfold Device.rehashPut
  try dsimp only
  repeat' first
    | with_reducible exact h | with_reducible apply Evolves.ite | with_reducible apply Device.insert_evolves
    | with_reducible apply Device.rehashLose_evolves | with_reducible apply Evolves.ite2 | split

theorem Device.rehashAgain_evolves {a : Device} {d : Device} {e : ClsEnt} (h : Evolves a d) :
    Evolves a (Device.rehashAgain d e) := by
  unfold Device.rehashAgain
  try dsimp only
  repeat' first
    | with_reducible exact h | with_reducible apply Evolves.ite | with_reducible apply Device.insert_evolves
    | with_reducible apply Evolves.wr | with_reducible apply Device.rehashLose_evolves
    | with_reducible apply Evolves.ite2 | split

theorem Device.switchTable_evolves {a : Device} {d : Device} (h : Evolves a d) :
    Evolves a (Device.switchTable d) := by
  unfold Device.switchTable
  try dsimp only
  repeat' first
    | with_reducible exact h | with_reducible assumption | with_reducible apply Evolves.foldl
    | with_reducible apply Device.setScan_evolves | with_reducible apply Device.setWay_evolves
    | with_reducible apply Device.setCls_evolves | with_reducible apply Device.setMem_evolves
    | with_reducible apply Device.setPipe_evolves | intro _ _ hq | intro _ | rfl

theorem Device.memRehashSwitch_evolves {a : Device} {d : Device} (h : Evolves a d) :
    Evolves a (Device.memRehashSwitch d) := by
  unfold Device.memRehashSwitch
  try dsimp only
  repeat' first
    | with_reducible exact h | with_reducible assumption | with_reducible apply Evolves.ite
    | with_reducible apply Evolves.foldl | with_reducible apply Device.drainJobs_evolves
    | with_reducible apply Device.rehashRead_evolves | with_reducible apply Device.switchTable_evolves
    | with_reducible apply Evolves.wr | with_reducible apply Device.rehashPut_evolves
    | with_reducible apply Device.rehashAgain_evolves | with_reducible apply Device.rehashLose_evolves
    | with_reducible apply Evolves.ite2 | with_reducible apply Evolves.foldl2 | intro _ _ hq | intro _ | split

theorem Device.evacuateLine_evolves {a : Device} {x : Nat} {lostFrom : Nat} {d : Device} {q : Nat} (h : Evolves a d) :
    Evolves a (Device.evacuateLine x lostFrom d q) := by
  unfold Device.evacuateLine
  try dsimp only
  repeat' first
    | with_reducible exact h | with_reducible assumption | with_reducible apply Evolves.ite
    | with_reducible apply Device.poisonWrite_evolves | with_reducible apply Device.bumpLine_evolves
    | with_reducible apply Device.setMem_evolves | with_reducible apply Evolves.ite2 | intro _ _ hq | intro _ | rfl
    | split

theorem Device.memEvacuationDone_evolves {a : Device} {d : Device} (h : Evolves a d) :
    Evolves a (Device.memEvacuationDone d) := by
  unfold Device.memEvacuationDone
  try dsimp only
  repeat' first
    | with_reducible exact h | with_reducible assumption | with_reducible apply Evolves.ite
    | with_reducible apply Evolves.foldl | with_reducible apply Evolves.wr
    | with_reducible apply Device.setRetiring_evolves | with_reducible apply Device.setCached_evolves
    | with_reducible apply Device.evacuateLine_evolves | with_reducible apply Device.endCalib_evolves
    | with_reducible apply Evolves.ite2 | with_reducible apply Evolves.foldl2 | intro _ _ hq | intro _ | split

theorem Device.countAccess_evolves {a : Device} {d : Device} {off : Nat} {role : Nat} {m : Master} (h : Evolves a d) :
    Evolves a (Device.countAccess d off role m) := by
  unfold Device.countAccess
  try dsimp only
  repeat' first
    | with_reducible exact h | with_reducible assumption | with_reducible apply Device.pmcHub_evolves | intro _ _ hq
    | intro _

theorem Device.winCount_evolves {a : Device} {d : Device} {r : Req} {s : Nat} (h : Evolves a d) :
    Evolves a (Device.winCount d r s) := by
  unfold Device.winCount
  try dsimp only
  repeat' first
    | with_reducible exact h | with_reducible apply Device.countAccess_evolves

theorem Device.memWinReadCore_evolves {a : Device} {r : Req} {s : Nat} {d : Device} (h : Evolves a d) :
    Evolves a (Device.memWinReadCore r s d).2 := by
  unfold Device.memWinReadCore
  try dsimp only
  repeat' first
    | with_reducible exact h | with_reducible assumption | with_reducible apply Evolves.ite
    | with_reducible apply Device.runCmd_evolves | with_reducible apply Device.winCount_evolves
    | with_reducible apply Device.readLine_evolves | with_reducible apply Device.wrCmd_evolves
    | with_reducible apply Evolves.ite2 | intro _ _ hq | intro _ | split

theorem Device.memWinWriteCore_evolves {a : Device} {r : Req} {s : Nat} {d : Device} (h : Evolves a d) :
    Evolves a (Device.memWinWriteCore r s d).2 := by
  unfold Device.memWinWriteCore
  try dsimp only
  repeat' first
    | with_reducible exact h | with_reducible assumption | with_reducible apply Evolves.ite
    | with_reducible apply Device.runCmd_evolves | with_reducible apply Device.winCount_evolves
    | with_reducible apply Device.partialWrite_evolves | with_reducible apply Evolves.ite2 | intro _ _ hq | intro _
    | split

theorem Device.readCiphertextCore_evolves {a : Device} {r : Req} {s : Nat} {d : Device} (h : Evolves a d) :
    Evolves a (Device.readCiphertextCore r s d).2 := by
  unfold Device.readCiphertextCore
  try dsimp only
  repeat' first
    | with_reducible exact h | with_reducible assumption | with_reducible apply Device.runCmd_evolves
    | with_reducible apply Device.winCount_evolves | with_reducible apply Device.lineCipher_evolves
    | with_reducible apply Device.wrCmd_evolves | intro _ _ hq | intro _

theorem Device.memReinitCore_evolves {a : Device} {r : Req} {s : Nat} {d : Device} (h : Evolves a d) :
    Evolves a (Device.memReinitCore r s d).2 := by
  unfold Device.memReinitCore
  try dsimp only
  repeat' first
    | with_reducible exact h | with_reducible assumption | with_reducible apply Evolves.ite
    | with_reducible apply Device.runCmd_evolves | with_reducible apply Device.winCount_evolves
    | with_reducible apply Device.writeLine_evolves | with_reducible apply Evolves.ite2 | intro _ _ hq | intro _
    | split

theorem Device.apertureRefuse_evolves {a : Device} {d : Device} (h : Evolves a d) :
    Evolves a (Device.apertureRefuse d) := by
  unfold Device.apertureRefuse
  try dsimp only
  repeat' first
    | with_reducible exact h | with_reducible apply Device.inc64_evolves

theorem Device.apertureLine_evolves {a : Device} {acc : Option Bytes × Device} {p : Nat} (h : Evolves a acc.2) :
    Evolves a (Device.apertureLine acc p).2 := by
  unfold Device.apertureLine
  try dsimp only
  repeat' first
    | with_reducible exact h | with_reducible apply Evolves.ite | with_reducible apply Device.countAccess_evolves
    | with_reducible apply Device.lineCipher_evolves | with_reducible apply Device.readLine_evolves
    | with_reducible apply Evolves.ite2 | split

theorem Device.apertureRead_evolves {a : Device} {o : Nat} {n : Nat} {d : Device} (h : Evolves a d) :
    Evolves a (Device.apertureRead o n d) := by
  unfold Device.apertureRead
  try dsimp only
  repeat' first
    | with_reducible exact h | with_reducible assumption | with_reducible apply Evolves.ite
    | with_reducible apply Evolves.elim | with_reducible apply Evolves.foldl
    | with_reducible apply Device.apertureRefuse_evolves | with_reducible apply Evolves.emit
    | with_reducible apply Device.apertureLine_evolves | with_reducible apply Evolves.ite2
    | with_reducible apply Evolves.elim2 | with_reducible apply Evolves.foldl2 | intro _ _ hq | intro _ | split

theorem Device.aperturePart_evolves {a : Device} {o : Nat} {v : Bytes} {acc : Bool × Device} {p : Nat} (h : Evolves a acc.2) :
    Evolves a (Device.aperturePart o v acc p).2 := by
  unfold Device.aperturePart
  try dsimp only
  repeat' first
    | with_reducible exact h | with_reducible apply Device.countAccess_evolves
    | with_reducible apply Device.partialWrite_evolves

theorem Device.apertureWrite_evolves {a : Device} {o : Nat} {v : Bytes} {d : Device} (h : Evolves a d) :
    Evolves a (Device.apertureWrite o v d) := by
  unfold Device.apertureWrite
  try dsimp only
  repeat' first
    | with_reducible exact h | with_reducible assumption | with_reducible apply Evolves.ite
    | with_reducible apply Evolves.foldl | with_reducible apply Device.apertureRefuse_evolves
    | with_reducible apply Device.aperturePart_evolves | with_reducible apply Evolves.ite2
    | with_reducible apply Evolves.foldl2 | intro _ _ hq | intro _ | split

end Sys2Proof.Machine
end

