-- ==== Sys2Proof/Laws/EvolveSram.lean ====
section
/-!
SUPPORT. The operations of Machine/Sram.lean respect what every operation respects (Laws/Evolve.lean).
-/
set_option Elab.async false
set_option linter.all false
set_option linter.unusedTactic false
set_option linter.unreachableTactic false
set_option linter.style.longLine false
namespace Sys2Proof.Machine

theorem Device.setSram_evolves {a : Device} {d : Device} {x : SramX} (h : Evolves a d) :
    Evolves a (Device.setSram d x) := by
  unfold Device.setSram
  try dsimp only
  repeat' first
    | with_reducible exact h | exact h.same rfl rfl rfl rfl rfl rfl rfl

theorem Device.spareRow_evolves {a : Device} {d : Device} {m : Nat} {row : Nat} {src : Nat} (h : Evolves a d) :
    Evolves a (Device.spareRow d m row src) := by
  unfold Device.spareRow
  try dsimp only
  repeat' first
    | with_reducible exact h | with_reducible apply Evolves.wr | with_reducible apply Device.setSram_evolves
    | with_reducible apply Device.faultUnit_evolves

theorem Device.withhold_evolves {a : Device} {d : Device} {slot : Nat} (h : Evolves a d) :
    Evolves a (Device.withhold d slot) := by
  unfold Device.withhold
  try dsimp only
  repeat' first
    | with_reducible exact h | with_reducible apply Evolves.ite | with_reducible apply Device.saBad_evolves
    | with_reducible apply Device.setSram_evolves | split

theorem Device.loseFrame_evolves {a : Device} {d : Device} {f : Nat} (h : Evolves a d) :
    Evolves a (Device.loseFrame d f) := by
  unfold Device.loseFrame
  try dsimp only
  repeat' first
    | with_reducible exact h | with_reducible apply Device.dropFrame_evolves
    | with_reducible apply Device.setSram_evolves

theorem Device.loseTreeLines_evolves {a : Device} {d : Device} (h : Evolves a d) :
    Evolves a (Device.loseTreeLines d) := by
  unfold Device.loseTreeLines
  try dsimp only
  repeat' first
    | with_reducible exact h | with_reducible apply Device.setMem_evolves
    | with_reducible apply Device.trimCache_evolves | rfl

theorem Device.rowFault_evolves {a : Device} {d : Device} {m : Nat} (h : Evolves a d) :
    Evolves a (Device.rowFault d m) := by
  unfold Device.rowFault
  try dsimp only
  repeat' first
    | with_reducible exact h | with_reducible apply Device.faultUnit_evolves

theorem Device.loseRow_evolves {a : Device} {d : Device} {m : Nat} {row : Nat} (h : Evolves a d) :
    Evolves a (Device.loseRow d m row) := by
  unfold Device.loseRow
  try dsimp only
  repeat' first
    | with_reducible exact h | with_reducible assumption | with_reducible apply Evolves.ite
    | with_reducible apply Evolves.foldl | with_reducible apply Device.withhold_evolves
    | with_reducible apply Device.rowFault_evolves | with_reducible apply Device.setSram_evolves
    | with_reducible apply Device.loseFrame_evolves | with_reducible apply Device.sliceFail_evolves
    | with_reducible apply Device.loseTreeLines_evolves | with_reducible apply Device.faultUnit_evolves
    | intro _ _ hq | intro _ | split

theorem Device.retireRow_evolves {a : Device} {d : Device} {m : Nat} {row : Nat} (h : Evolves a d) :
    Evolves a (Device.retireRow d m row) := by
  unfold Device.retireRow
  try dsimp only
  repeat' first
    | with_reducible exact h | with_reducible assumption | with_reducible apply Evolves.wr
    | with_reducible apply Device.setPipe_evolves | with_reducible apply Device.setSram_evolves
    | with_reducible apply Device.loseRow_evolves | intro _ _ hq | intro _

theorem Device.loseCell_evolves {a : Device} {d : Device} {f : Frame} (h : Evolves a d) :
    Evolves a (Device.loseCell d f) := by
  unfold Device.loseCell
  try dsimp only
  repeat' first
    | with_reducible exact h | with_reducible apply Evolves.ite | with_reducible apply Device.setFrame_evolves
    | with_reducible apply Device.discardFrame_evolves | exact h.same rfl rfl rfl rfl rfl rfl rfl | split

theorem Device.markUnusable_evolves {a : Device} {d : Device} {m : Nat} {row : Nat} {word : Nat} (h : Evolves a d) :
    Evolves a (Device.markUnusable d m row word) := by
  unfold Device.markUnusable
  try dsimp only
  repeat' first
    | with_reducible exact h | with_reducible apply Device.setSram_evolves

theorem Device.loseContext_evolves {a : Device} {d : Device} {m : Nat} {row : Nat} {word : Nat} (h : Evolves a d) :
    Evolves a (Device.loseContext d m row word) := by
  unfold Device.loseContext
  try dsimp only
  repeat' first
    | with_reducible exact h | with_reducible apply Evolves.ite | with_reducible apply Device.saBad_evolves | split

theorem Device.loseWord_evolves {a : Device} {d : Device} {m : Nat} {row : Nat} {word : Nat} {named : Option Frame} (h : Evolves a d) :
    Evolves a (Device.loseWord d m row word named) := by
  unfold Device.loseWord
  try dsimp only
  repeat' first
    | with_reducible exact h | with_reducible assumption | with_reducible apply Evolves.ite
    | with_reducible apply Evolves.elim | with_reducible apply Device.loseCell_evolves
    | with_reducible apply Device.markUnusable_evolves | with_reducible apply Device.loseContext_evolves
    | with_reducible apply Device.dropFrame_evolves | intro _ _ hq | intro _ | split

theorem Device.sramRowSpare_evolves {a : Device} {m : Nat} {row : Nat} {c : SpareCause} {d : Device} (h : Evolves a d) :
    Evolves a (Device.sramRowSpare m row c d) := by
  unfold Device.sramRowSpare
  try dsimp only
  repeat' first
    | with_reducible exact h | with_reducible assumption | with_reducible apply Evolves.ite
    | with_reducible apply Device.loseWord_evolves | with_reducible apply Device.retireRow_evolves
    | with_reducible apply Device.rowFault_evolves | with_reducible apply Device.spareRow_evolves | split

theorem Device.awaitKeys_evolves {a : Device} {slot : Nat} {d : Device} {f : Frame} (h : Evolves a d) :
    Evolves a (Device.awaitKeys slot d f) := by
  unfold Device.awaitKeys
  try dsimp only
  repeat' first
    | with_reducible exact h | with_reducible apply Device.setFrame_evolves
    | exact h.same rfl rfl rfl rfl rfl rfl rfl

theorem Device.reloadKeys_evolves {a : Device} {d : Device} {b : Nat} {slot : Nat} (h : Evolves a d) :
    Evolves a (Device.reloadKeys d b slot) := by
  unfold Device.reloadKeys
  try dsimp only
  repeat' first
    | with_reducible exact h | with_reducible assumption | with_reducible apply Evolves.elim
    | with_reducible apply Evolves.foldl | with_reducible apply Device.awaitKeys_evolves
    | with_reducible apply Device.setCache_evolves | with_reducible apply Device.startLoad_evolves | intro _ _ hq
    | intro _

theorem Device.loseEntry_evolves {a : Device} {d : Device} {b : Nat} {id : Nat} (h : Evolves a d) :
    Evolves a (Device.loseEntry d b id) := by
  unfold Device.loseEntry
  try dsimp only
  repeat' first
    | with_reducible exact h | with_reducible assumption | with_reducible apply Evolves.elim
    | with_reducible apply Device.inc64_evolves | with_reducible apply Device.cutShort_evolves | intro _ _ hq
    | intro _

theorem Device.loseBankWord_evolves {a : Device} {d : Device} {b : Nat} {x0 : BankWord} (h : Evolves a d) :
    Evolves a (Device.loseBankWord d b x0) := by
  unfold Device.loseBankWord
  try dsimp only
  repeat' first
    | with_reducible exact h | with_reducible assumption | with_reducible apply Evolves.ite
    | with_reducible apply Device.reloadKeys_evolves | with_reducible apply Device.loseEntry_evolves | split

theorem Device.faultSampled_evolves {a : Device} {src : Nat} {code : Nat} {base : Nat} {detail : Bytes} {lost : BankWord} {d : Device} (h : Evolves a d) :
    Evolves a (Device.faultSampled src code base detail lost d) := by
  unfold Device.faultSampled
  try dsimp only
  repeat' first
    | with_reducible exact h | with_reducible assumption | with_reducible apply Evolves.ite
    | with_reducible apply Evolves.elim | with_reducible apply Device.faultSample_evolves
    | with_reducible apply Device.loseBankWord_evolves | intro _ _ hq | intro _ | split

theorem Device.sramSpareCore_evolves {a : Device} {r : Req} {m : Nat} {row : Nat} {d : Device} (h : Evolves a d) :
    Evolves a (Device.sramSpareCore r m row d).2 := by
  unfold Device.sramSpareCore
  try dsimp only
  repeat' first
    | with_reducible exact h | with_reducible assumption | with_reducible apply Device.runCmd_evolves
    | with_reducible apply Device.spareRow_evolves | intro _ _ hq | intro _

end Sys2Proof.Machine
end

