-- ==== Sys2Proof/Laws/EvolveWrites.lean ====
section
/-!
SUPPORT. The operations of Machine/Writes.lean respect what every operation respects (Laws/Evolve.lean).
-/
set_option Elab.async false
set_option linter.all false
set_option linter.unusedTactic false
set_option linter.unreachableTactic false
set_option linter.style.longLine false
namespace Sys2Proof.Machine

theorem Device.storePiece_evolves {a : Device} {s : Nat} {d : Device} {p : Piece} (h : Evolves a d) :
    Evolves a (Device.storePiece s d p) := by
  unfold Device.storePiece
  try dsimp only
  repeat' first
    | with_reducible exact h | with_reducible apply Evolves.ite | with_reducible apply Evolves.wr
    | with_reducible apply Device.sizePairs_evolves | split

theorem Device.storePieces_evolves {a : Device} {s : Nat} {ps : List Piece} {d : Device} (h : Evolves a d) :
    Evolves a (Device.storePieces s ps d) := by
  unfold Device.storePieces
  try dsimp only
  repeat' first
    | with_reducible exact h | with_reducible assumption | with_reducible apply Evolves.foldl
    | with_reducible apply Device.storePiece_evolves | intro _ _ hq | intro _

theorem Device.maintainEntries_evolves {a : Device} {old : Device} {d : Device} {ps : List Piece} (h : Evolves a d) :
    Evolves a (Device.maintainEntries old d ps) := by
  unfold Device.maintainEntries
  try dsimp only
  repeat' first
    | with_reducible exact h | with_reducible assumption | with_reducible apply Evolves.foldl
    | with_reducible apply Device.rxscMaintain_evolves | intro _ _ hq | intro _

theorem Device.levelsBefore_evolves {a : Device} {d : Device} {p : Piece} (h : Evolves a d) :
    Evolves a (Device.levelsBefore d p) := by
  unfold Device.levelsBefore
  try dsimp only
  repeat' first
    | with_reducible exact h | with_reducible apply Evolves.ite | with_reducible apply Device.refreshLevels_evolves
    | split

theorem Device.clipLevels_evolves {a : Device} {d : Device} {q : Nat} (h : Evolves a d) :
    Evolves a (Device.clipLevels d q) := by
  unfold Device.clipLevels
  try dsimp only
  repeat' first
    | with_reducible exact h | with_reducible assumption | with_reducible apply Device.setQueue_evolves
    | intro _ _ hq | intro _ | exact h.same rfl rfl rfl rfl rfl rfl rfl | exact hq.same rfl rfl rfl rfl rfl rfl rfl

theorem Device.lastCount_evolves {a : Device} {o : Nat} {r : Nat} {d : Device} (h : Evolves a d) :
    Evolves a (Device.lastCount o r d) := by
  unfold Device.lastCount
  try dsimp only
  repeat' first
    | with_reducible exact h | with_reducible apply Evolves.unstated | with_reducible apply Device.add64_evolves

theorem Device.shapeDown_evolves {a : Device} {old : Device} {d : Device} {p : Nat} (h : Evolves a d) :
    Evolves a (Device.shapeDown old d p) := by
  unfold Device.shapeDown
  try dsimp only
  repeat' first
    | with_reducible exact h | with_reducible assumption | with_reducible apply Evolves.ite
    | with_reducible apply Evolves.foldl | with_reducible apply Device.lastCount_evolves
    | with_reducible apply Device.adaptTo_evolves | with_reducible apply Device.setPort_evolves
    | with_reducible apply Device.setLink_evolves | intro _ _ hq | intro _ | split

theorem Device.shapeUp_evolves {a : Device} {d : Device} {p : Nat} (h : Evolves a d) :
    Evolves a (Device.shapeUp d p) := by
  unfold Device.shapeUp
  try dsimp only
  repeat' first
    | with_reducible exact h | with_reducible assumption | with_reducible apply Evolves.ite
    | with_reducible apply Evolves.foldl | with_reducible apply Device.acquire_evolves
    | with_reducible apply Device.setLink_evolves | intro _ _ hq | intro _ | split

theorem Device.reshape_evolves {a : Device} {old : Device} {ps : List Piece} {d : Device} (h : Evolves a d) :
    Evolves a (Device.reshape old ps d) := by
  unfold Device.reshape
  try dsimp only
  repeat' first
    | with_reducible exact h | with_reducible assumption | with_reducible apply Evolves.foldl
    | with_reducible apply Device.shapeUp_evolves | with_reducible apply Device.shapeDown_evolves | intro _ _ hq
    | intro _

theorem Device.ringSwitch_evolves {a : Device} {old : Device} {d : Device} {n : Nat} (h : Evolves a d) :
    Evolves a (Device.ringSwitch old d n) := by
  unfold Device.ringSwitch
  try dsimp only
  repeat' first
    | with_reducible exact h | with_reducible apply Evolves.ite | with_reducible apply Device.ringStart_evolves
    | with_reducible apply Device.dmaHalt_evolves | split

theorem Device.pieceEffect_evolves {a : Device} {old : Device} {d : Device} {p : Piece} (h : Evolves a d) :
    Evolves a (Device.pieceEffect old d p) := by
  unfold Device.pieceEffect
  try dsimp only
  repeat' first
    | with_reducible exact h | with_reducible assumption | with_reducible apply Evolves.ite
    | with_reducible apply Evolves.foldl | with_reducible apply Device.phcPend_evolves
    | with_reducible apply Device.leapNow_evolves | with_reducible apply Device.lapRetime_evolves
    | with_reducible apply Device.setTime_evolves | with_reducible apply Device.refreshTimeHold_evolves
    | with_reducible apply Device.refreshUpstream_evolves | with_reducible apply Device.refreshSel_evolves
    | with_reducible apply Device.refreshLatency_evolves | with_reducible apply Device.lastCount_evolves
    | with_reducible apply Evolves.wr | with_reducible apply Device.clipLevels_evolves
    | with_reducible apply Device.ringSwitch_evolves | with_reducible apply Device.setLockRenewed_evolves
    | with_reducible apply Device.callroomRecount_evolves | with_reducible apply Device.pairLimits_evolves
    | intro _ _ hq | intro _ | split

theorem Device.applyPieces_evolves {a : Device} {s : Nat} {ps : List Piece} {d : Device} (h : Evolves a d) :
    Evolves a (Device.applyPieces s ps d) := by
  unfold Device.applyPieces
  try dsimp only
  repeat' first
    | with_reducible exact h | with_reducible assumption | with_reducible apply Evolves.foldl
    | with_reducible apply Device.levelsBefore_evolves | with_reducible apply Device.withSignals_evolves
    | with_reducible apply Device.reshape_evolves | with_reducible apply Device.storePieces_evolves
    | with_reducible apply Device.pieceEffect_evolves | with_reducible apply Device.maintainEntries_evolves
    | intro _ _ hq | intro _

theorem Device.writeDirect_evolves {d₀ : Device} {r : Req} {a : AddrBlock} {v : Bytes} {d : Device} (h : Evolves d₀ d) :
    Evolves d₀ (Device.writeDirect r a v d).2 := by
  unfold Device.writeDirect
  try dsimp only
  repeat' first
    | with_reducible exact h | with_reducible assumption | with_reducible apply Evolves.ite
    | with_reducible apply Device.direct_evolves | with_reducible apply Device.applyPieces_evolves
    | with_reducible apply Evolves.ite2 | intro _ _ hq | intro _ | split

end Sys2Proof.Machine
end

