-- ==== Sys2Proof/Laws/EvolveGroups.lean ====
section
/-!
SUPPORT. The operations of Machine/Groups.lean respect what every operation respects (Laws/Evolve.lean).
-/
set_option Elab.async false
set_option linter.all false
set_option linter.unusedTactic false
set_option linter.unreachableTactic false
set_option linter.style.longLine false
namespace Sys2Proof.Machine

theorem Device.lockWrite_evolves {a : Device} {r : Req} {v : Nat} {d : Device} (h : Evolves a d) :
    Evolves a (Device.lockWrite r v d).2 := by
  unfold Device.lockWrite
  try dsimp only
  repeat' first
    | with_reducible exact h | with_reducible apply Device.writeDirect_evolves

theorem Device.lockBreakCore_evolves {a : Device} {r : Req} {d : Device} (h : Evolves a d) :
    Evolves a (Device.lockBreakCore r d).2 := by
  unfold Device.lockBreakCore
  try dsimp only
  repeat' first
    | with_reducible exact h | with_reducible assumption | with_reducible apply Device.runCmd_evolves
    | with_reducible apply Device.wrCmd_evolves | intro _ _ hq | intro _

theorem Device.lockLeaseExpiry_evolves {a : Device} {d : Device} (h : Evolves a d) :
    Evolves a (Device.lockLeaseExpiry d) := by
  unfold Device.lockLeaseExpiry
  try dsimp only
  repeat' first
    | with_reducible exact h | with_reducible apply Evolves.ite | with_reducible apply Device.passTo_evolves
    | with_reducible apply Device.wrCmd_evolves | split

theorem Device.setShadow_evolves {a : Device} {d : Device} {g : Nat} {l : List ShadowWrite} (h : Evolves a d) :
    Evolves a (Device.setShadow d g l) := by
  unfold Device.setShadow
  try dsimp only
  repeat' first
    | with_reducible exact h | with_reducible apply Device.setGroup_evolves | with_reducible apply Evolves.wr

theorem Device.shadowWrite_evolves {d₀ : Device} {r : Req} {a : AddrBlock} {v : Bytes} {d : Device} (h : Evolves d₀ d) :
    Evolves d₀ (Device.shadowWrite r a v d).2 := by
  unfold Device.shadowWrite
  try dsimp only
  repeat' first
    | with_reducible exact h | with_reducible assumption | with_reducible apply Evolves.ite
    | with_reducible apply Device.setShadow_evolves | with_reducible apply Evolves.ite2 | intro _ _ hq | intro _
    | split

theorem Device.groupOpenCore_evolves {a : Device} {r : Req} {g : Nat} {d : Device} (h : Evolves a d) :
    Evolves a (Device.groupOpenCore r g d).2 := by
  unfold Device.groupOpenCore
  try dsimp only
  repeat' first
    | with_reducible exact h | with_reducible assumption | with_reducible apply Device.runCmd_evolves
    | with_reducible apply Device.setGroup_evolves | with_reducible apply Evolves.wr | intro _ _ hq | intro _

theorem Device.commitFailed_evolves {a : Device} {d : Device} {g : Nat} {w : ShadowWrite} (h : Evolves a d) :
    Evolves a (Device.commitFailed d g w) := by
  unfold Device.commitFailed
  try dsimp only
  repeat' first
    | with_reducible exact h | with_reducible apply Evolves.wr

theorem Device.applyGroup_evolves {a : Device} {d : Device} {g : Nat} (h : Evolves a d) :
    Evolves a (Device.applyGroup d g) := by
  unfold Device.applyGroup
  try dsimp only
  repeat' first
    | with_reducible exact h | with_reducible apply Device.applyPieces_evolves | with_reducible apply Evolves.wr

theorem Device.commitNowCore_evolves {a : Device} {r : Req} {g : Nat} {d : Device} (h : Evolves a d) :
    Evolves a (Device.commitNowCore r g d).2 := by
  unfold Device.commitNowCore
  try dsimp only
  repeat' first
    | with_reducible exact h | with_reducible assumption | with_reducible apply Device.runCmd_evolves
    | with_reducible apply Device.commitFailed_evolves | with_reducible apply Device.applyGroup_evolves
    | with_reducible apply Evolves.wr | intro _ _ hq | intro _ | split

theorem Device.commitArm_evolves {a : Device} {d : Device} {g : Nat} {e : Nat} (h : Evolves a d) :
    Evolves a (Device.commitArm d g e) := by
  unfold Device.commitArm
  try dsimp only
  repeat' first
    | with_reducible exact h | with_reducible apply Device.setGroup_evolves | with_reducible apply Evolves.wr
    | with_reducible apply Device.gunTake_evolves

theorem Device.commitAtCore_evolves {a : Device} {r : Req} {g : Nat} {d : Device} (h : Evolves a d) :
    Evolves a (Device.commitAtCore r g d).2 := by
  unfold Device.commitAtCore
  try dsimp only
  repeat' first
    | with_reducible exact h | with_reducible assumption | with_reducible apply Evolves.elim
    | with_reducible apply Device.runCmd_evolves | with_reducible apply Device.commitFailed_evolves
    | with_reducible apply Evolves.wr | with_reducible apply Device.commitArm_evolves
    | with_reducible apply Evolves.elim2 | intro _ _ hq | intro _ | split

theorem Device.groupCancelCore_evolves {a : Device} {r : Req} {g : Nat} {d : Device} (h : Evolves a d) :
    Evolves a (Device.groupCancelCore r g d).2 := by
  unfold Device.groupCancelCore
  try dsimp only
  repeat' first
    | with_reducible exact h | with_reducible assumption | with_reducible apply Device.runCmd_evolves
    | with_reducible apply Device.groupCancelled_evolves | intro _ _ hq | intro _

theorem Device.groupReleaseCore_evolves {a : Device} {r : Req} {g : Nat} {d : Device} (h : Evolves a d) :
    Evolves a (Device.groupReleaseCore r g d).2 := by
  unfold Device.groupReleaseCore
  try dsimp only
  repeat' first
    | with_reducible exact h | with_reducible assumption | with_reducible apply Device.runCmd_evolves
    | with_reducible apply Device.groupIdle_evolves | intro _ _ hq | intro _

theorem Device.gunIssue_evolves {a : Device} {e : Nat} {d : Device} (h : Evolves a d) :
    Evolves a (Device.gunIssue e d) := by
  unfold Device.gunIssue
  try dsimp only
  repeat' first
    | with_reducible exact h | with_reducible apply Evolves.ite | with_reducible apply Device.passTo_evolves
    | with_reducible apply Evolves.wr | split

theorem Device.groupFire_evolves {a : Device} {d : Device} {g : Nat} {late : Bool} {stepped : Bool} (h : Evolves a d) :
    Evolves a (Device.groupFire d g late stepped) := by
  unfold Device.groupFire
  try dsimp only
  repeat' first
    | with_reducible exact h | with_reducible apply Device.setGroup_evolves
    | with_reducible apply Device.applyGroup_evolves | with_reducible apply Evolves.wr
    | with_reducible apply Device.stepped_evolves

theorem Device.recalFire_evolves {a : Device} {d : Device} {p : Nat} {late : Bool} {stepped : Bool} (h : Evolves a d) :
    Evolves a (Device.recalFire d p late stepped).2 := by
  unfold Device.recalFire
  try dsimp only
  repeat' first
    | with_reducible exact h | with_reducible apply Evolves.ite | with_reducible apply Device.recalCancelled_evolves
    | with_reducible apply Evolves.wr | with_reducible apply Device.stepped_evolves
    | with_reducible apply Device.recalOpen_evolves | with_reducible apply Evolves.ite2 | split

theorem Device.gunAct_evolves {a : Device} {d : Device} {e : Nat} {late : Bool} {stepped : Bool} (h : Evolves a d) :
    Evolves a (Device.gunAct d e late stepped).2 := by
  unfold Device.gunAct
  try dsimp only
  repeat' first
    | with_reducible exact h | with_reducible assumption | with_reducible apply Device.groupFire_evolves
    | with_reducible apply Device.stepped_evolves | with_reducible apply Device.txHandover_evolves
    | with_reducible apply Device.zoneEnd_evolves | with_reducible apply Device.parserSwap_evolves
    | with_reducible apply Device.lapFired_evolves | with_reducible apply Device.recalFire_evolves
    | with_reducible apply Device.drainClose_evolves | split

theorem Device.gunFire_evolves {a : Device} {e : Nat} {d : Device} (h : Evolves a d) :
    Evolves a (Device.gunFire e d) := by
  unfold Device.gunFire
  try dsimp only
  repeat' first
    | with_reducible exact h | with_reducible apply Evolves.ite | with_reducible apply Device.passTo_evolves
    | with_reducible apply Device.stepped_evolves | with_reducible apply Device.gunAct_evolves
    | with_reducible apply Device.gunDone_evolves | with_reducible apply Device.gunCancelNow_evolves
    | with_reducible apply Device.lapRetime_evolves | with_reducible apply Evolves.ite2 | split

end Sys2Proof.Machine
end

