-- ==== Sys2Proof/Laws/EvolveReadObj.lean ====
section
/-!
SUPPORT. The operations of Machine/ReadObj.lean respect what every operation respects (Laws/Evolve.lean).
-/
set_option Elab.async false
set_option linter.all false
set_option linter.unusedTactic false
set_option linter.unreachableTactic false
set_option linter.style.longLine false
namespace Sys2Proof.Machine

theorem Device.observe_evolves {a : Device} {o : Nat} {r : Nat} {d : Device} (h : Evolves a d) :
    Evolves a (Device.observe o r d) := by
  unfold Device.observe
  try dsimp only
  repeat' first
    | with_reducible exact h | with_reducible apply Evolves.ite | with_reducible apply Evolves.unstated
    | with_reducible apply Evolves.wr | with_reducible apply Device.add64_evolves | with_reducible apply Evolves.ite2
    | split

theorem Device.slewLeft_evolves {a : Device} {d : Device} (h : Evolves a d) :
    Evolves a (Device.slewLeft d).2 := by
  unfold Device.slewLeft
  try dsimp only
  repeat' first
    | with_reducible exact h | with_reducible apply Evolves.unstated

theorem Device.readLines_evolves {a : Device} {d : Device} {l : List Nat} (h : Evolves a d) :
    Evolves a (Device.readLines d l).2 := by
  unfold Device.readLines
  try dsimp only
  repeat' first
    | with_reducible exact h | with_reducible assumption | with_reducible apply Evolves.foldl
    | with_reducible apply Device.readLine_evolves | with_reducible apply Evolves.foldl2 | intro _ _ hq | intro _

theorem Device.readEffect_evolves {a : Device} {o : Nat} {r : Nat} {d : Device} (h : Evolves a d) :
    Evolves a (Device.readEffect o r d) := by
  unfold Device.readEffect
  try dsimp only
  repeat' first
    | with_reducible exact h | with_reducible apply Evolves.ite | with_reducible apply Evolves.wr
    | with_reducible apply Device.setPmc_evolves | split

theorem Device.readPiece_evolves {a : Device} {acc : Bytes × Device} {x : Desc × Nat} (h : Evolves a acc.2) :
    Evolves a (Device.readPiece acc x).2 := by
  unfold Device.readPiece
  try dsimp only
  repeat' first
    | with_reducible exact h | with_reducible apply Evolves.ite | with_reducible apply Device.readEffect_evolves
    | with_reducible apply Device.observe_evolves | with_reducible apply Device.slewLeft_evolves
    | with_reducible apply Evolves.ite2 | split

theorem Device.readObject_evolves {d₀ : Device} {r : Req} {a : AddrBlock} {d : Device} (h : Evolves d₀ d) :
    Evolves d₀ (Device.readObject r a d).2 := by
  unfold Device.readObject
  try dsimp only
  repeat' first
    | with_reducible exact h | with_reducible assumption | with_reducible apply Evolves.ite
    | with_reducible apply Evolves.foldl | with_reducible apply Device.readLines_evolves
    | with_reducible apply Device.readPiece_evolves | with_reducible apply Evolves.ite2
    | with_reducible apply Evolves.foldl2 | intro _ _ hq | intro _ | split

theorem Device.pmcValueRead_evolves {a : Device} {r : Req} {row : Nat} {d : Device} (h : Evolves a d) :
    Evolves a (Device.pmcValueRead r row d) := by
  unfold Device.pmcValueRead
  try dsimp only
  repeat' first
    | with_reducible exact h | with_reducible apply Evolves.ite | with_reducible apply Device.readObject_evolves
    | with_reducible apply Device.accept_evolves | with_reducible apply Device.respond_evolves
    | with_reducible apply Evolves.ite2 | split

end Sys2Proof.Machine
end

