-- ==== Sys2Proof/Laws/EvolveRequests.lean ====
section
/-!
SUPPORT. The operations of Machine/Requests.lean respect what every operation respects (Laws/Evolve.lean).
-/
set_option Elab.async false
set_option linter.all false
set_option linter.unusedTactic false
set_option linter.unreachableTactic false
set_option linter.style.longLine false
namespace Sys2Proof.Machine

theorem Device.noCommand_evolves {a : Device} {r : Req} {o : Nat} {row : Nat} {d : Device} (h : Evolves a d) :
    Evolves a (Device.noCommand r o row d).2 := by
  unfold Device.noCommand
  try dsimp only
  repeat' first
    | with_reducible exact h | with_reducible assumption | with_reducible apply Device.runCmd_evolves | intro _ _ hq
    | intro _

theorem Device.onlyOne_evolves {a : Device} {r : Req} {o row v : Nat} {f : Device → Nat × Device} {d : Device}
    (h : Evolves a d) (hf : ∀ x, Evolves a x → Evolves a (f x).2) : Evolves a (Device.onlyOne r o row v f d).2 := by
  unfold Device.onlyOne
  split
  · exact hf _ h
  · exact Device.noCommand_evolves h
theorem Device.bankCommand_evolves {a : Device} {r : Req} {b : Nat} {v : Nat} {d : Device} (h : Evolves a d) :
    Evolves a (Device.bankCommand r b v d).2 := by
  unfold Device.bankCommand
  try dsimp only
  repeat' first
    | with_reducible exact h | with_reducible apply Evolves.ite | with_reducible apply Device.bankRetireCore_evolves
    | with_reducible apply Device.katNowCore_evolves | with_reducible apply Evolves.unstated
    | with_reducible apply Device.noCommand_evolves | with_reducible apply Evolves.ite2 | split

theorem Device.systemCommand_evolves {a : Device} {r : Req} {o row v : Nat} {g : Device → Nat × Device}
    (hg : Device.systemCommand r o row v = some g) {d : Device} (h : Evolves a d) : Evolves a (g d).2 := by
  unfold Device.systemCommand at hg
  repeat' split at hg
  all_goals first
    | (have hg := Option.some.inj hg; subst hg)
    | cases hg
  all_goals repeat' first
    | with_reducible exact h
    | with_reducible assumption
    | with_reducible apply Device.onlyOne_evolves
    | with_reducible apply Device.lockBreakCore_evolves
    | with_reducible apply Device.groupOpenCore_evolves
    | with_reducible apply Device.commitNowCore_evolves
    | with_reducible apply Device.commitAtCore_evolves
    | with_reducible apply Device.groupCancelCore_evolves
    | with_reducible apply Device.groupReleaseCore_evolves
    | with_reducible apply Device.noCommand_evolves
    | with_reducible apply Device.sessionCloseCore_evolves
    | with_reducible apply Device.goRunCore_evolves
    | with_reducible apply Device.goStageCore_evolves
    | with_reducible apply Device.goDrainCore_evolves
    | with_reducible apply Device.resumeRunCore_evolves
    | with_reducible apply Device.modeCmdResetCore_evolves
    | with_reducible apply Device.takeOutCore_evolves
    | with_reducible apply Device.gateCore_evolves
    | with_reducible apply Device.sliceReturnCore_evolves
    | with_reducible apply Device.portRecalArmCore_evolves
    | with_reducible apply Device.portRecalCancelCore_evolves
    | with_reducible apply Device.phcSetCore_evolves
    | with_reducible apply Device.phcStepCore_evolves
    | with_reducible apply Device.phcSlewCore_evolves
    | with_reducible apply Device.phcSlewStopCore_evolves
    | with_reducible apply Device.tsCalCore_evolves
    | with_reducible apply Device.bankCommand_evolves
    | intro _
theorem Device.pathCommand_evolves {a : Device} {r : Req} {o row v : Nat} {g : Device → Nat × Device}
    (hg : Device.pathCommand r o row v = some g) {d : Device} (h : Evolves a d) : Evolves a (g d).2 := by
  unfold Device.pathCommand at hg
  repeat' split at hg
  all_goals first
    | (have hg := Option.some.inj hg; subst hg)
    | cases hg
  all_goals repeat' first
    | with_reducible exact h
    | with_reducible assumption
    | with_reducible apply Device.parserLoadCore_evolves
    | with_reducible apply Device.parserArmCore_evolves
    | with_reducible apply Device.parserCancelCore_evolves
    | with_reducible apply Device.noCommand_evolves
    | with_reducible apply Device.saProvisionCore_evolves
    | with_reducible apply Device.saLoadCore_evolves
    | with_reducible apply Device.saArmCore_evolves
    | with_reducible apply Device.saCancelCore_evolves
    | with_reducible apply Device.saRetireCore_evolves
    | with_reducible apply Device.saUnloadCore_evolves
    | with_reducible apply Device.saReleaseCore_evolves
    | with_reducible apply Device.clsWriteCore_evolves
    | with_reducible apply Device.clsDeleteCore_evolves
    | with_reducible apply Device.clsReadCore_evolves
    | with_reducible apply Device.onlyOne_evolves
    | with_reducible apply Device.learnFlushCore_evolves
    | with_reducible apply Device.vaultImportCore_evolves
    | with_reducible apply Device.vaultDeriveCore_evolves
    | with_reducible apply Device.deriveSuccessorCore_evolves
    | with_reducible apply Device.zeroizeSlotCore_evolves
    | with_reducible apply Device.zeroizeTenantCore_evolves
    | with_reducible apply Device.zeroizeAllCore_evolves
    | intro _
theorem Device.careCommand_evolves {a : Device} {r : Req} {o row v : Nat} {g : Device → Nat × Device}
    (hg : Device.careCommand r o row v = some g) {d : Device} (h : Evolves a d) : Evolves a (g d).2 := by
  unfold Device.careCommand at hg
  repeat' split at hg
  all_goals first
    | (have hg := Option.some.inj hg; subst hg)
    | cases hg
  all_goals repeat' first
    | with_reducible exact h
    | with_reducible assumption
    | with_reducible apply Device.onlyOne_evolves
    | with_reducible apply Device.memChRetireCore_evolves
    | with_reducible apply Device.memWinReadCore_evolves
    | with_reducible apply Device.memWinWriteCore_evolves
    | with_reducible apply Device.readCiphertextCore_evolves
    | with_reducible apply Device.memReinitCore_evolves
    | with_reducible apply Device.noCommand_evolves
    | with_reducible apply Device.sealTestCore_evolves
    | with_reducible apply Device.unlockCore_evolves
    | with_reducible apply Device.personalizeCore_evolves
    | with_reducible apply Device.takeOwnershipCore_evolves
    | with_reducible apply Device.lcReturnCore_evolves
    | with_reducible apply Device.scrapCore_evolves
    | with_reducible apply Device.rmaUnlockCore_evolves
    | with_reducible apply Device.dbgSramReadCore_evolves
    | with_reducible apply Evolves.unstated
    | with_reducible apply Device.fwEraseCore_evolves
    | with_reducible apply Device.fwWriteCore_evolves
    | with_reducible apply Device.fwVerifyCore_evolves
    | with_reducible apply Device.fwPreferCore_evolves
    | with_reducible apply Device.activateResetCore_evolves
    | with_reducible apply Device.activateHotCore_evolves
    | with_reducible apply Device.fwDiscardCore_evolves
    | with_reducible apply Device.commitVersionCore_evolves
    | with_reducible apply Device.attBuildTopCore_evolves
    | with_reducible apply Device.attSignCore_evolves
    | with_reducible apply Device.fltSrcAckCore_evolves
    | with_reducible apply Device.fltAckAllCore_evolves
    | with_reducible apply Device.sramSpareCore_evolves
    | intro _
theorem Device.command_evolves {a : Device} {r : Req} {o row v : Nat} {d : Device} (h : Evolves a d) :
    Evolves a (Device.command r o row v d).2 := by
  unfold Device.command
  cases h1 : Device.systemCommand r o row v with
  | some g => simpa using Device.systemCommand_evolves h1 h
  | none =>
    cases h2 : Device.pathCommand r o row v with
    | some g => simpa using Device.pathCommand_evolves h2 h
    | none =>
      cases h3 : Device.careCommand r o row v with
      | some g => simpa using Device.careCommand_evolves h3 h
      | none => simpa using Device.noCommand_evolves h
theorem Device.commandWrite_evolves {d₀ : Device} {r : Req} {a : AddrBlock} {v : Bytes} {d : Device} (h : Evolves d₀ d) :
    Evolves d₀ (Device.commandWrite r a v d).2 := by
  unfold Device.commandWrite
  try dsimp only
  repeat' first
    | with_reducible exact h | with_reducible assumption | with_reducible apply Evolves.ite
    | with_reducible apply Device.runCmd_evolves | with_reducible apply Device.command_evolves
    | with_reducible apply Evolves.ite2 | intro _ _ hq | intro _ | split

theorem Device.performWrite_evolves {d₀ : Device} {r : Req} {a : AddrBlock} {v : Bytes} {d : Device} (h : Evolves d₀ d) :
    Evolves d₀ (Device.performWrite r a v d).2 := by
  unfold Device.performWrite
  try dsimp only
  repeat' first
    | with_reducible exact h | with_reducible apply Evolves.ite | with_reducible apply Device.shadowWrite_evolves
    | with_reducible apply Device.commandWrite_evolves | with_reducible apply Device.writeDirect_evolves
    | with_reducible apply Evolves.ite2 | split

theorem Device.performRead_evolves {d₀ : Device} {limit : Nat} {r : Req} {a : AddrBlock} {d : Device} (h : Evolves d₀ d) :
    Evolves d₀ (Device.performRead limit r a d).2 := by
  unfold Device.performRead
  try dsimp only
  repeat' first
    | with_reducible exact h | with_reducible apply Evolves.ite | with_reducible apply Device.readObject_evolves
    | with_reducible apply Evolves.ite2 | split

theorem Device.dictWrite_evolves {d₀ : Device} {r : Req} {a : AddrBlock} {v : Bytes} {d : Device} (h : Evolves d₀ d) :
    Evolves d₀ (Device.dictWrite r a v d) := by
  unfold Device.dictWrite
  try dsimp only
  repeat' first
    | with_reducible exact h | with_reducible assumption | with_reducible apply Device.direct_evolves
    | with_reducible apply Device.performWrite_evolves | intro _ _ hq | intro _

theorem Device.groupShadowWrite_evolves {d₀ : Device} {r : Req} {a : AddrBlock} {v : Bytes} {d : Device} (h : Evolves d₀ d) :
    Evolves d₀ (Device.groupShadowWrite r a v d) := by
  unfold Device.groupShadowWrite
  try dsimp only
  repeat' first
    | with_reducible exact h | with_reducible assumption | with_reducible apply Device.direct_evolves
    | with_reducible apply Device.performWrite_evolves | intro _ _ hq | intro _

theorem Device.freqAdjWrite_evolves {a : Device} {r : Req} {v : Int} {d : Device} (h : Evolves a d) :
    Evolves a (Device.freqAdjWrite r v d).2 := by
  unfold Device.freqAdjWrite
  try dsimp only
  repeat' first
    | with_reducible exact h | with_reducible apply Device.writeDirect_evolves

theorem Device.rxscWrite_evolves {a : Device} {r : Req} {sc : Nat} {o : RxscObject} {v : Nat} {d : Device} (h : Evolves a d) :
    Evolves a (Device.rxscWrite r sc o v d).2 := by
  unfold Device.rxscWrite
  try dsimp only
  repeat' first
    | with_reducible exact h | with_reducible apply Device.writeDirect_evolves

theorem Device.ringRespond_evolves {a : Device} {d : Device} {m : RingMsg} {ks : Option Bytes} {payload : Bytes} (h : Evolves a d) :
    Evolves a (Device.ringRespond d m ks payload) := by
  unfold Device.ringRespond
  try dsimp only
  repeat' first
    | with_reducible exact h | with_reducible assumption | with_reducible apply Evolves.ite
    | with_reducible apply Evolves.elim | with_reducible apply Device.ringSend_evolves | intro _ _ hq | intro _
    | split

theorem Device.ringExecute_evolves {a : Device} {m : RingMsg} {d : Device} (h : Evolves a d) :
    Evolves a (Device.ringExecute m d).2 := by
  unfold Device.ringExecute
  try dsimp only
  repeat' first
    | with_reducible exact h | with_reducible apply Evolves.ite | with_reducible apply Device.accept_evolves
    | with_reducible apply Device.performRead_evolves | with_reducible apply Device.performWrite_evolves
    | with_reducible apply Device.countRequest_evolves | with_reducible apply Evolves.ite2 | split

theorem Device.ringTaggedRequest_evolves {a : Device} {m : RingMsg} {row : Nat} {d : Device} (h : Evolves a d) :
    Evolves a (Device.ringTaggedRequest m row d) := by
  unfold Device.ringTaggedRequest
  try dsimp only
  repeat' first
    | with_reducible exact h | with_reducible apply Evolves.ite | with_reducible apply Device.inc64_evolves
    | with_reducible apply Device.accept_evolves | with_reducible apply Device.ringRespond_evolves
    | with_reducible apply Device.closeSession_evolves | with_reducible apply Device.ringExecute_evolves
    | with_reducible apply Evolves.wr | with_reducible apply Device.setSess_evolves
    | with_reducible apply Evolves.ite2 | split

theorem Device.request_evolves {a : Device} {m : RingMsg} {d : Device} (h : Evolves a d) :
    Evolves a (Device.request m d) := by
  unfold Device.request
  try dsimp only
  repeat' first
    | with_reducible exact h | with_reducible assumption | with_reducible apply Evolves.ite
    | with_reducible apply Device.ringArrive_evolves | with_reducible apply Device.ringAccept_evolves
    | with_reducible apply Device.ringTaggedRequest_evolves | with_reducible apply Device.ringExecute_evolves
    | with_reducible apply Device.ringRespond_evolves | with_reducible apply Evolves.ite2 | split

theorem Device.pcieWindowRead_evolves {d₀ : Device} {w : Nat} {session : Nat} {a : AddrBlock} {d : Device} (h : Evolves d₀ d) :
    Evolves d₀ (Device.pcieWindowRead w session a d) := by
  unfold Device.pcieWindowRead
  try dsimp only
  repeat' first
    | with_reducible exact h | with_reducible apply Evolves.ite | with_reducible apply Device.windowSubmit_evolves
    | with_reducible apply Device.windowDone_evolves | with_reducible apply Device.performRead_evolves
    | with_reducible apply Device.accept_evolves | with_reducible apply Device.countRequest_evolves
    | with_reducible apply Evolves.ite2 | split

theorem Device.pcieWindowWrite_evolves {d₀ : Device} {w : Nat} {session : Nat} {a : AddrBlock} {v : Bytes} {d : Device} (h : Evolves d₀ d) :
    Evolves d₀ (Device.pcieWindowWrite w session a v d) := by
  unfold Device.pcieWindowWrite
  try dsimp only
  repeat' first
    | with_reducible exact h | with_reducible apply Evolves.ite | with_reducible apply Device.windowSubmit_evolves
    | with_reducible apply Device.windowDone_evolves | with_reducible apply Device.performWrite_evolves
    | with_reducible apply Device.accept_evolves | with_reducible apply Device.countRequest_evolves
    | with_reducible apply Evolves.ite2 | split

theorem Device.dapRead_evolves {d₀ : Device} {session : Nat} {a : AddrBlock} {d : Device} (h : Evolves d₀ d) :
    Evolves d₀ (Device.dapRead session a d) := by
  unfold Device.dapRead
  try dsimp only
  repeat' first
    | with_reducible exact h | with_reducible apply Evolves.ite | with_reducible apply Device.dapScan_evolves
    | with_reducible apply Device.setDapAbort_evolves | with_reducible apply Device.performRead_evolves
    | with_reducible apply Device.accept_evolves | with_reducible apply Device.countRequest_evolves
    | with_reducible apply Device.dapStore_evolves | with_reducible apply Evolves.ite2 | split

theorem Device.dapWrite_evolves {d₀ : Device} {session : Nat} {a : AddrBlock} {n : Nat} {d : Device} (h : Evolves d₀ d) :
    Evolves d₀ (Device.dapWrite session a n d) := by
  unfold Device.dapWrite
  try dsimp only
  repeat' first
    | with_reducible exact h | with_reducible apply Evolves.ite | with_reducible apply Device.dapScan_evolves
    | with_reducible apply Device.setDapAbort_evolves | with_reducible apply Device.performWrite_evolves
    | with_reducible apply Device.accept_evolves | with_reducible apply Device.countRequest_evolves
    | with_reducible apply Evolves.ite2 | split

theorem Device.ringEnableWrite_evolves {a : Device} {r : Req} {n : Nat} {v : Nat} {d : Device} (h : Evolves a d) :
    Evolves a (Device.ringEnableWrite r n v d).2 := by
  unfold Device.ringEnableWrite
  try dsimp only
  repeat' first
    | with_reducible exact h | with_reducible apply Device.writeDirect_evolves

theorem Device.hostBytes_evolves {a : Device} {d : Device} {n : Nat} (h : Evolves a d) :
    Evolves a (Device.hostBytes d n).2 := by
  unfold Device.hostBytes
  try dsimp only
  repeat' first
    | with_reducible exact h | with_reducible apply Evolves.unstated

theorem Device.jobFromHost_evolves {a : Device} {n : Nat} {x : Descriptor} {d : Device} (h : Evolves a d) :
    Evolves a (Device.jobFromHost n x d) := by
  unfold Device.jobFromHost
  try dsimp only
  repeat' first
    | with_reducible exact h | with_reducible apply Device.hostBytes_evolves
    | with_reducible apply Device.lookasideJobStart_evolves

theorem Device.dmaDescriptorProcess_evolves {a : Device} {x : Descriptor} {d : Device} (h : Evolves a d) :
    Evolves a (Device.dmaDescriptorProcess x d) := by
  unfold Device.dmaDescriptorProcess
  try dsimp only
  repeat' first
    | with_reducible exact h | with_reducible assumption | with_reducible apply Evolves.ite
    | with_reducible apply Evolves.elim | with_reducible apply Device.puntDeliver_evolves
    | with_reducible apply Device.hostBytes_evolves | with_reducible apply Device.injectDescriptor_evolves
    | with_reducible apply Device.jobFromHost_evolves | with_reducible apply Device.eventRingDeliver_evolves
    | with_reducible apply Device.dmaAdvance_evolves | with_reducible apply Device.dmaComplete_evolves
    | with_reducible apply Evolves.ite2 | with_reducible apply Evolves.elim2 | intro _ _ hq | intro _ | split

end Sys2Proof.Machine
end

