-- ==== Sys2Proof/Laws/KeepsMemory.lean ====
section
/-!
SUPPORT. The places that each operation of Machine/Memory.lean may change (Laws/Keeps.lean).
-/
set_option Elab.async false
set_option linter.all false
set_option linter.unusedTactic false
set_option linter.unreachableTactic false
set_option linter.style.longLine false
namespace Sys2Proof.Machine

def Touch.setMem : List Nat :=
  [F.memRest]

theorem Device.setMem_keeps {W : List Nat} {a d : Device} {x : MemX} (hW : Sub Touch.setMem W) (h : Keeps W a d)
    (hx : x.cells = d.mem.cells) : Keeps W a (d.setMem x) :=
  h.same rfl rfl (fun k hk => by
    unfold sameField
    split <;> first | exact hx | exact absurd (memF (by decide +kernel) hW) hk | rfl | trivial)

def Touch.memPut : List Nat :=
  [F.memCells]

theorem Device.memPut_keeps {W : List Nat} {a d : Device} {o : Nat} {b : Byte} (hW : Sub Touch.memPut W)
    (h : Keeps W a d) : Keeps W a (d.memPut o b) :=
  h.same rfl rfl (fun k hk => by
    unfold sameField
    split <;> first | rfl | exact absurd (memF (by decide +kernel) hW) hk | trivial)

def Touch.memPutBytes : List Nat :=
  [F.memCells]

theorem Device.memPutBytes_keeps {W : List Nat} {a : Device} {d : Device} {o : Nat} {bs : Bytes} (hW : Sub Touch.memPutBytes W) (h : Keeps W a d) :
    Keeps W a (Device.memPutBytes d o bs) := by
  unfold Device.memPutBytes
  try dsimp only
  repeat' first
    | with_reducible exact h | with_reducible assumption | with_reducible apply Keeps.foldl
    | with_reducible refine Device.memPut_keeps (subT (by decide +kernel) hW) ?_ | with_reducible apply Keeps.foldl2
    | intro _ _ hq | intro _

def Touch.setCached : List Nat :=
  [F.memRest]

theorem Device.setCached_keeps {W : List Nat} {a : Device} {d : Device} {l : List (Nat × Bool)} (hW : Sub Touch.setCached W) (h : Keeps W a d) :
    Keeps W a (Device.setCached d l) := by
  unfold Device.setCached
  try dsimp only
  repeat' first
    | with_reducible exact h | with_reducible refine Device.setMem_keeps (subT (by decide +kernel) hW) ?_ rfl

def Touch.cacheNode : List Nat :=
  [F.memRest]

theorem Device.cacheNode_keeps {W : List Nat} {a : Device} {d : Device} {k : Nat} {dirty : Bool} (hW : Sub Touch.cacheNode W) (h : Keeps W a d) :
    Keeps W a (Device.cacheNode d k dirty) := by
  unfold Device.cacheNode
  try dsimp only
  repeat' first
    | with_reducible exact h | with_reducible assumption
    | with_reducible refine Device.setCached_keeps (subT (by decide +kernel) hW) ?_ | intro _ _ hq | intro _

def Touch.counterEnd : List Nat :=
  [O.LOCK, O.GROUP_OWNER, O.GROUP_STATE, O.GROUP_WRITES, O.GROUP_FAIL_ADDRESS, O.GROUP_FLAGS, O.SESSION_STATE,
  O.SESSION_ROLE, O.SESSION_CA, O.SESSION_ID, O.SESSION_LAST_COUNTER, O.ROLE_ROOT, O.RING_ENABLE, O.RING_HEAD,
  O.RING_TAIL, O.RING_STATE, O.RING_COMPLETED, O.RING_REJECTED, O.INJECT_REFUSED, O.MODE, O.MODE_CMD,
  O.MODE_ENTERED_AT, O.MODE_CAUSE, O.RUNAHEAD_FALSE_STARTS, O.RUNAHEAD_WASTED_CELLS, O.BANK_DISCARDS,
  O.VAULT_STATE, O.VAULT_HANDLE, O.VAULT_LEVEL, O.VAULT_PURPOSE, O.VAULT_KEY_BITS, O.VAULT_COUNTED,
  O.VAULT_USES_LEFT, O.VAULT_ORIGIN, O.VAULT_PARENT, O.VAULT_CREATED_AT, O.VAULT_ARG_KEY, O.VAULT_CMD,
  O.VAULT_RESULT_HANDLE, O.DRBG_STATE, O.LA_CONTEXTS_BUSY, O.GUN_STATE, O.GUN_OWNER, O.GUN_FLAGS, O.PORT_TX_FRAMES,
  O.PORT_TX_BYTES, O.PORT_TX_TRUNCATED, O.PORT_FC_TX_XOFF_C0, O.PORT_FC_TX_XOFF_C1, O.PORT_FC_TX_XOFF_C2,
  O.PORT_FC_TX_XOFF_C3, O.PORT_FC_TX_XOFF_C4, O.PORT_FC_TX_XOFF_C5, O.PORT_FC_TX_XOFF_C6, O.PORT_FC_TX_XOFF_C7,
  O.SC_STATUS, O.SA_STATE, O.SA_KEK, O.SA_SLOT, O.SA_FLAGS, O.SA_CHANGED_AT, O.SCSA_SLOT0_ROW, O.SCSA_SLOT1_ROW,
  O.SCSA_IN_FORCE_AN, O.SCSA_ZONE_OPEN, O.SA_STAT_PKTS, O.SA_STAT_OCTETS, O.SA_STAT_PKTS_ENCRYPTED,
  O.SA_STAT_NOT_VALID, O.SA_STAT_COMMIT_LATE, O.SA_STAT_TX_LOST, O.CALLROOM_OCCUPANCY, O.CALLROOM_PEAK,
  O.QUEUE_OCCUPANCY, O.QUEUE_NODE, O.BUFP_USED_CELLS, O.BUF_HEADROOM_USED, O.MEM_CTR_READONLY, O.FLT_SRC_CLASS,
  O.FLT_SRC_EVENTS, O.FLT_SRC_LAST_AT, O.FLT_STATUS, O.FLT_FATAL_SINCE_BOOT, O.FLT_LOG_LAST_SEQ,
  O.FLT_LOG_OVERWRITTEN, O.FLT_EVENT_LOST, O.FLT_FIRST_SEVERE, O.FLT_LOG_RECORD, O.PMC_VALUE, O.PMC_STATUS,
  O.PEER_KEY, F.mode, F.draws, F.out, F.sess, F.groups, F.ring, F.pcieDma, F.pciePending, F.faults, F.vault,
  F.checkKey, F.storeKey, F.keyTests, F.keyRestart, F.keyScrub, F.saRecs, F.saCtxs, F.banks, F.pipe, F.clsx,
  F.queues, F.nodes, F.pairs, F.ports, F.laps, F.pmc, F.memRest, F.lc, F.la, F.keyScrubFrom, F.keyReseed,
  F.keyRequests]

theorem Device.counterEnd_keeps {W : List Nat} {a : Device} {d : Device} {c : Nat} {k : Nat} (hW : Sub Touch.counterEnd W) (h : Keeps W a d) :
    Keeps W a (Device.counterEnd d c k) := by
  unfold Device.counterEnd
  try dsimp only
  repeat' first
    | with_reducible exact h | exact memT (by decide +kernel) hW
    | with_reducible refine Device.setMem_keeps (subT (by decide +kernel) hW) ?_ rfl
    | with_reducible refine Device.inc32_keeps ?_ ?_
    | with_reducible refine Device.fault_keeps (subT (by decide +kernel) hW) ?_

def Touch.fetchNodes : List Nat :=
  [F.memRest]

theorem Device.fetchNodes_keeps {W : List Nat} {a : Device} {x0 : Nat} {x1 : Nat} {x2 : Nat} {d : Device} (hW : Sub Touch.fetchNodes W) (h : Keeps W a d) :
    Keeps W a (Device.fetchNodes x0 x1 x2 d) := by
  induction x0 generalizing x1 x2 d with
  | zero =>
    unfold Device.fetchNodes
    try dsimp only
    repeat' first
      | with_reducible exact h | with_reducible assumption | with_reducible apply Keeps.ite
      | with_reducible apply Keeps.elim
      | with_reducible refine Device.cacheNode_keeps (subT (by decide +kernel) hW) ?_ | intro _ _ hq | intro _
      | split
  | succ _ ih =>
    unfold Device.fetchNodes
    try dsimp only
    repeat' first
      | with_reducible exact h | with_reducible apply ih | with_reducible assumption | with_reducible apply Keeps.ite
      | with_reducible apply Keeps.elim
      | with_reducible refine Device.cacheNode_keeps (subT (by decide +kernel) hW) ?_ | intro _ _ hq | intro _
      | split

def Touch.nodeWriteBack : List Nat :=
  Touch.counterEnd

theorem Device.nodeWriteBack_keeps {W : List Nat} {a : Device} {d : Device} {c : Nat} {n : Nat} (hW : Sub Touch.nodeWriteBack W) (h : Keeps W a d) :
    Keeps W a (Device.nodeWriteBack d c n) := by
  unfold Device.nodeWriteBack
  try dsimp only
  repeat' first
    | with_reducible exact h | with_reducible assumption | with_reducible apply Keeps.ite
    | with_reducible apply Keeps.elim
    | with_reducible refine Device.counterEnd_keeps (subT (by decide +kernel) hW) ?_
    | with_reducible refine Device.setMem_keeps (subT (by decide +kernel) hW) ?_ rfl
    | with_reducible refine Device.fetchNodes_keeps (subT (by decide +kernel) hW) ?_
    | with_reducible refine Device.cacheNode_keeps (subT (by decide +kernel) hW) ?_ | intro _ _ hq | intro _ | split

def Touch.evictNode : List Nat :=
  Touch.counterEnd

theorem Device.evictNode_keeps {W : List Nat} {a : Device} {d : Device} {c : Nat} {n : Nat} (hW : Sub Touch.evictNode W) (h : Keeps W a d) :
    Keeps W a (Device.evictNode d c n) := by
  unfold Device.evictNode
  try dsimp only
  repeat' first
    | with_reducible exact h | with_reducible assumption | with_reducible apply Keeps.ite
    | with_reducible refine Device.setCached_keeps (subT (by decide +kernel) hW) ?_
    | with_reducible refine Device.nodeWriteBack_keeps (subT (by decide +kernel) hW) ?_
    | with_reducible apply Keeps.ite2 | intro _ _ hq | intro _ | split

def Touch.trimTo : List Nat :=
  Touch.counterEnd

theorem Device.trimTo_keeps {W : List Nat} {a : Device} {x0 : Nat} {d : Device} (hW : Sub Touch.trimTo W) (h : Keeps W a d) :
    Keeps W a (Device.trimTo x0 d) := by
  induction x0 generalizing d with
  | zero =>
    unfold Device.trimTo
    try dsimp only
    repeat' first
      | with_reducible exact h | with_reducible assumption | with_reducible apply Keeps.ite
      | with_reducible refine Device.evictNode_keeps (subT (by decide +kernel) hW) ?_ | split
  | succ _ ih =>
    unfold Device.trimTo
    try dsimp only
    repeat' first
      | with_reducible exact h | with_reducible apply ih | with_reducible assumption | with_reducible apply Keeps.ite
      | with_reducible refine Device.evictNode_keeps (subT (by decide +kernel) hW) ?_ | split

def Touch.trimCache : List Nat :=
  Touch.counterEnd

theorem Device.trimCache_keeps {W : List Nat} {a : Device} {d : Device} (hW : Sub Touch.trimCache W) (h : Keeps W a d) :
    Keeps W a (Device.trimCache d) := by
  unfold Device.trimCache
  try dsimp only
  repeat' first
    | with_reducible exact h | with_reducible refine Device.trimTo_keeps (subT (by decide +kernel) hW) ?_

def Touch.walkUp : List Nat :=
  Touch.counterEnd

theorem Device.walkUp_keeps {W : List Nat} {a : Device} {x0 : Nat} {x1 : Nat} {x2 : Nat} {d : Device} (hW : Sub Touch.walkUp W) (h : Keeps W a d) :
    Keeps W a (Device.walkUp x0 x1 x2 d) := by
  induction x0 generalizing x1 x2 d with
  | zero =>
    unfold Device.walkUp
    try dsimp only
    repeat' first
      | with_reducible exact h | with_reducible assumption | with_reducible apply Keeps.ite
      | with_reducible apply Keeps.elim
      | with_reducible refine Device.cacheNode_keeps (subT (by decide +kernel) hW) ?_
      | with_reducible refine Device.trimCache_keeps (subT (by decide +kernel) hW) ?_ | intro _ _ hq | intro _
      | split
  | succ _ ih =>
    unfold Device.walkUp
    try dsimp only
    repeat' first
      | with_reducible exact h | with_reducible apply ih | with_reducible assumption | with_reducible apply Keeps.ite
      | with_reducible apply Keeps.elim
      | with_reducible refine Device.cacheNode_keeps (subT (by decide +kernel) hW) ?_
      | with_reducible refine Device.trimCache_keeps (subT (by decide +kernel) hW) ?_ | intro _ _ hq | intro _
      | split

def Touch.fetchCounter : List Nat :=
  [O.LOCK, O.GROUP_OWNER, O.GROUP_STATE, O.GROUP_WRITES, O.GROUP_FAIL_ADDRESS, O.GROUP_FLAGS, O.SESSION_STATE,
  O.SESSION_ROLE, O.SESSION_CA, O.SESSION_ID, O.SESSION_LAST_COUNTER, O.ROLE_ROOT, O.RING_ENABLE, O.RING_HEAD,
  O.RING_TAIL, O.RING_STATE, O.RING_COMPLETED, O.RING_REJECTED, O.INJECT_REFUSED, O.MODE, O.MODE_CMD,
  O.MODE_ENTERED_AT, O.MODE_CAUSE, O.RUNAHEAD_FALSE_STARTS, O.RUNAHEAD_WASTED_CELLS, O.BANK_DISCARDS,
  O.VAULT_STATE, O.VAULT_HANDLE, O.VAULT_LEVEL, O.VAULT_PURPOSE, O.VAULT_KEY_BITS, O.VAULT_COUNTED,
  O.VAULT_USES_LEFT, O.VAULT_ORIGIN, O.VAULT_PARENT, O.VAULT_CREATED_AT, O.VAULT_ARG_KEY, O.VAULT_CMD,
  O.VAULT_RESULT_HANDLE, O.DRBG_STATE, O.LA_CONTEXTS_BUSY, O.GUN_STATE, O.GUN_OWNER, O.GUN_FLAGS, O.PORT_TX_FRAMES,
  O.PORT_TX_BYTES, O.PORT_TX_TRUNCATED, O.PORT_FC_TX_XOFF_C0, O.PORT_FC_TX_XOFF_C1, O.PORT_FC_TX_XOFF_C2,
  O.PORT_FC_TX_XOFF_C3, O.PORT_FC_TX_XOFF_C4, O.PORT_FC_TX_XOFF_C5, O.PORT_FC_TX_XOFF_C6, O.PORT_FC_TX_XOFF_C7,
  O.SC_STATUS, O.SA_STATE, O.SA_KEK, O.SA_SLOT, O.SA_FLAGS, O.SA_CHANGED_AT, O.SCSA_SLOT0_ROW, O.SCSA_SLOT1_ROW,
  O.SCSA_IN_FORCE_AN, O.SCSA_ZONE_OPEN, O.SA_STAT_PKTS, O.SA_STAT_OCTETS, O.SA_STAT_PKTS_ENCRYPTED,
  O.SA_STAT_NOT_VALID, O.SA_STAT_COMMIT_LATE, O.SA_STAT_TX_LOST, O.CALLROOM_OCCUPANCY, O.CALLROOM_PEAK,
  O.QUEUE_OCCUPANCY, O.QUEUE_NODE, O.BUFP_USED_CELLS, O.BUF_HEADROOM_USED, O.MEM_CTR_READONLY, O.MEM_TREE_HITS,
  O.MEM_TREE_MISSES, O.FLT_SRC_CLASS, O.FLT_SRC_EVENTS, O.FLT_SRC_LAST_AT, O.FLT_STATUS, O.FLT_FATAL_SINCE_BOOT,
  O.FLT_LOG_LAST_SEQ, O.FLT_LOG_OVERWRITTEN, O.FLT_EVENT_LOST, O.FLT_FIRST_SEVERE, O.FLT_LOG_RECORD, O.PMC_VALUE,
  O.PMC_STATUS, O.PEER_KEY, F.mode, F.draws, F.out, F.sess, F.groups, F.ring, F.pcieDma, F.pciePending, F.faults,
  F.vault, F.checkKey, F.storeKey, F.keyTests, F.keyRestart, F.keyScrub, F.saRecs, F.saCtxs, F.banks, F.pipe,
  F.clsx, F.queues, F.nodes, F.pairs, F.ports, F.laps, F.pmc, F.memRest, F.lc, F.la, F.keyScrubFrom, F.keyReseed,
  F.keyRequests]

theorem Device.fetchCounter_keeps {W : List Nat} {a : Device} {d : Device} {c : Nat} {i : Nat} {off : Nat} (hW : Sub Touch.fetchCounter W) (h : Keeps W a d) :
    Keeps W a (Device.fetchCounter d c i off) := by
  unfold Device.fetchCounter
  try dsimp only
  repeat' first
    | with_reducible exact h | exact memT (by decide +kernel) hW | with_reducible apply Keeps.ite
    | with_reducible refine Device.inc64_keeps ?_ ?_
    | with_reducible refine Device.cacheNode_keeps (subT (by decide +kernel) hW) ?_
    | with_reducible refine Device.walkUp_keeps (subT (by decide +kernel) hW) ?_
    | with_reducible refine Device.pmcHub_keeps (subT (by decide +kernel) hW) ?_ | split

def Touch.memNodeFail : List Nat :=
  [O.LOCK, O.GROUP_OWNER, O.GROUP_STATE, O.GROUP_WRITES, O.GROUP_FAIL_ADDRESS, O.GROUP_FLAGS, O.SESSION_STATE,
  O.SESSION_ROLE, O.SESSION_CA, O.SESSION_ID, O.SESSION_LAST_COUNTER, O.ROLE_ROOT, O.RING_ENABLE, O.RING_HEAD,
  O.RING_TAIL, O.RING_STATE, O.RING_COMPLETED, O.RING_REJECTED, O.INJECT_REFUSED, O.MODE, O.MODE_CMD,
  O.MODE_ENTERED_AT, O.MODE_CAUSE, O.RUNAHEAD_FALSE_STARTS, O.RUNAHEAD_WASTED_CELLS, O.BANK_DISCARDS,
  O.VAULT_STATE, O.VAULT_HANDLE, O.VAULT_LEVEL, O.VAULT_PURPOSE, O.VAULT_KEY_BITS, O.VAULT_COUNTED,
  O.VAULT_USES_LEFT, O.VAULT_ORIGIN, O.VAULT_PARENT, O.VAULT_CREATED_AT, O.VAULT_ARG_KEY, O.VAULT_CMD,
  O.VAULT_RESULT_HANDLE, O.DRBG_STATE, O.LA_CONTEXTS_BUSY, O.GUN_STATE, O.GUN_OWNER, O.GUN_FLAGS, O.PORT_TX_FRAMES,
  O.PORT_TX_BYTES, O.PORT_TX_TRUNCATED, O.PORT_FC_TX_XOFF_C0, O.PORT_FC_TX_XOFF_C1, O.PORT_FC_TX_XOFF_C2,
  O.PORT_FC_TX_XOFF_C3, O.PORT_FC_TX_XOFF_C4, O.PORT_FC_TX_XOFF_C5, O.PORT_FC_TX_XOFF_C6, O.PORT_FC_TX_XOFF_C7,
  O.SC_STATUS, O.SA_STATE, O.SA_KEK, O.SA_SLOT, O.SA_FLAGS, O.SA_CHANGED_AT, O.SCSA_SLOT0_ROW, O.SCSA_SLOT1_ROW,
  O.SCSA_IN_FORCE_AN, O.SCSA_ZONE_OPEN, O.SA_STAT_PKTS, O.SA_STAT_OCTETS, O.SA_STAT_PKTS_ENCRYPTED,
  O.SA_STAT_NOT_VALID, O.SA_STAT_COMMIT_LATE, O.SA_STAT_TX_LOST, O.CALLROOM_OCCUPANCY, O.CALLROOM_PEAK,
  O.QUEUE_OCCUPANCY, O.QUEUE_NODE, O.BUFP_USED_CELLS, O.BUF_HEADROOM_USED, O.MEM_NODE_FAILS, O.FLT_SRC_CLASS,
  O.FLT_SRC_EVENTS, O.FLT_SRC_LAST_AT, O.FLT_STATUS, O.FLT_FATAL_SINCE_BOOT, O.FLT_LOG_LAST_SEQ,
  O.FLT_LOG_OVERWRITTEN, O.FLT_EVENT_LOST, O.FLT_FIRST_SEVERE, O.FLT_LOG_RECORD, O.PMC_VALUE, O.PMC_STATUS,
  O.PEER_KEY, F.mode, F.draws, F.out, F.sess, F.groups, F.ring, F.pcieDma, F.pciePending, F.faults, F.vault,
  F.checkKey, F.storeKey, F.keyTests, F.keyRestart, F.keyScrub, F.saRecs, F.saCtxs, F.banks, F.pipe, F.clsx,
  F.queues, F.nodes, F.pairs, F.ports, F.laps, F.pmc, F.lc, F.la, F.keyScrubFrom, F.keyReseed, F.keyRequests]

theorem Device.memNodeFail_keeps {W : List Nat} {a : Device} {d : Device} {c : Nat} {off : Nat} (hW : Sub Touch.memNodeFail W) (h : Keeps W a d) :
    Keeps W a (Device.memNodeFail d c off) := by
  unfold Device.memNodeFail
  try dsimp only
  repeat' first
    | with_reducible exact h | exact memT (by decide +kernel) hW | with_reducible refine Device.inc32_keeps ?_ ?_
    | with_reducible refine Device.fault_keeps (subT (by decide +kernel) hW) ?_

def Touch.bumpLine : List Nat :=
  Touch.counterEnd

theorem Device.bumpLine_keeps {W : List Nat} {a : Device} {d : Device} {c : Nat} {i : Nat} (hW : Sub Touch.bumpLine W) (h : Keeps W a d) :
    Keeps W a (Device.bumpLine d c i).2 := by
  unfold Device.bumpLine
  try dsimp only
  repeat' first
    | with_reducible exact h | with_reducible apply Keeps.ite
    | with_reducible refine Device.counterEnd_keeps (subT (by decide +kernel) hW) ?_
    | with_reducible refine Device.setMem_keeps (subT (by decide +kernel) hW) ?_ rfl
    | with_reducible refine Device.cacheNode_keeps (subT (by decide +kernel) hW) ?_ | with_reducible apply Keeps.ite2
    | split

def Touch.poisonLog : List Nat :=
  [O.MEM_POISON_COUNT, O.MEM_POISON_OFFSET, O.MEM_POISON_AT, O.MEM_POISON_CAUSE]

theorem Device.poisonLog_keeps {W : List Nat} {a : Device} {d : Device} {off : Nat} {cause : Nat} (hW : Sub Touch.poisonLog W) (h : Keeps W a d) :
    Keeps W a (Device.poisonLog d off cause) := by
  unfold Device.poisonLog
  try dsimp only
  repeat' first
    | with_reducible exact h | exact memT (by decide +kernel) hW | with_reducible refine Device.inc32_keeps ?_ ?_
    | with_reducible refine Device.wr_keeps ?_ ?_

def Touch.loseStats : List Nat :=
  Touch.clearStats

theorem Device.loseStats_keeps {W : List Nat} {a : Device} {d : Device} {p : Nat} (hW : Sub Touch.loseStats W) (h : Keeps W a d) :
    Keeps W a (Device.loseStats d p) := by
  unfold Device.loseStats
  try dsimp only
  repeat' first
    | with_reducible exact h | with_reducible apply Keeps.ite
    | with_reducible refine Device.clearStats_keeps (subT (by decide +kernel) hW) ?_ | split

def Touch.poisonWrite : List Nat :=
  [O.LOCK, O.GROUP_OWNER, O.GROUP_STATE, O.GROUP_WRITES, O.GROUP_FAIL_ADDRESS, O.GROUP_FLAGS, O.SESSION_STATE,
  O.SESSION_ROLE, O.SESSION_CA, O.SESSION_ID, O.SESSION_LAST_COUNTER, O.ROLE_ROOT, O.RING_ENABLE, O.RING_HEAD,
  O.RING_TAIL, O.RING_STATE, O.RING_COMPLETED, O.RING_REJECTED, O.INJECT_REFUSED, O.MODE, O.MODE_CMD,
  O.MODE_ENTERED_AT, O.MODE_CAUSE, O.RUNAHEAD_FALSE_STARTS, O.RUNAHEAD_WASTED_CELLS, O.BANK_DISCARDS,
  O.VAULT_STATE, O.VAULT_HANDLE, O.VAULT_LEVEL, O.VAULT_PURPOSE, O.VAULT_KEY_BITS, O.VAULT_COUNTED,
  O.VAULT_USES_LEFT, O.VAULT_ORIGIN, O.VAULT_PARENT, O.VAULT_CREATED_AT, O.VAULT_ARG_KEY, O.VAULT_CMD,
  O.VAULT_RESULT_HANDLE, O.DRBG_STATE, O.LA_CONTEXTS_BUSY, O.GUN_STATE, O.GUN_OWNER, O.GUN_FLAGS, O.PORT_TX_FRAMES,
  O.PORT_TX_BYTES, O.PORT_TX_TRUNCATED, O.PORT_FC_TX_XOFF_C0, O.PORT_FC_TX_XOFF_C1, O.PORT_FC_TX_XOFF_C2,
  O.PORT_FC_TX_XOFF_C3, O.PORT_FC_TX_XOFF_C4, O.PORT_FC_TX_XOFF_C5, O.PORT_FC_TX_XOFF_C6, O.PORT_FC_TX_XOFF_C7,
  O.SC_STATUS, O.SA_STATE, O.SA_KEK, O.SA_SLOT, O.SA_FLAGS, O.SA_CHANGED_AT, O.SCSA_SLOT0_ROW, O.SCSA_SLOT1_ROW,
  O.SCSA_IN_FORCE_AN, O.SCSA_ZONE_OPEN, O.SA_STAT_PKTS, O.SA_STAT_OCTETS, O.SA_STAT_PKTS_ENCRYPTED,
  O.SA_STAT_NOT_VALID, O.SA_STAT_COMMIT_LATE, O.SA_STAT_TX_LOST, O.CALLROOM_OCCUPANCY, O.CALLROOM_PEAK,
  O.QUEUE_OCCUPANCY, O.QUEUE_NODE, O.BUFP_USED_CELLS, O.BUF_HEADROOM_USED, O.MEM_CTR_READONLY, O.MEM_POISON_COUNT,
  O.MEM_POISON_OFFSET, O.MEM_POISON_AT, O.MEM_POISON_CAUSE, O.FLT_SRC_CLASS, O.FLT_SRC_EVENTS, O.FLT_SRC_LAST_AT,
  O.FLT_STATUS, O.FLT_FATAL_SINCE_BOOT, O.FLT_LOG_LAST_SEQ, O.FLT_LOG_OVERWRITTEN, O.FLT_EVENT_LOST,
  O.FLT_FIRST_SEVERE, O.FLT_LOG_RECORD, O.PMC_VALUE, O.PMC_STATUS, O.PEER_KEY, F.mode, F.draws, F.out, F.sess,
  F.groups, F.ring, F.pcieDma, F.pciePending, F.faults, F.vault, F.checkKey, F.storeKey, F.keyTests, F.keyRestart,
  F.keyScrub, F.saRecs, F.saCtxs, F.banks, F.pipe, F.clsx, F.queues, F.nodes, F.pairs, F.ports, F.laps, F.pmc,
  F.memRest, F.lc, F.la, F.keyScrubFrom, F.keyReseed, F.keyRequests]

theorem Device.poisonWrite_keeps {W : List Nat} {a : Device} {d : Device} {p : Nat} {cause : Nat} (hW : Sub Touch.poisonWrite W) (h : Keeps W a d) :
    Keeps W a (Device.poisonWrite d p cause) := by
  unfold Device.poisonWrite
  try dsimp only
  repeat' first
    | with_reducible exact h | with_reducible apply Keeps.ite
    | with_reducible refine Device.bumpLine_keeps (subT (by decide +kernel) hW) ?_
    | with_reducible refine Device.setMem_keeps (subT (by decide +kernel) hW) ?_ rfl
    | with_reducible refine Device.loseStats_keeps (subT (by decide +kernel) hW) ?_
    | with_reducible refine Device.poisonLog_keeps (subT (by decide +kernel) hW) ?_ | with_reducible apply Keeps.ite2
    | split

def Touch.fullLine : List Nat :=
  [O.LOCK, O.GROUP_OWNER, O.GROUP_STATE, O.GROUP_WRITES, O.GROUP_FAIL_ADDRESS, O.GROUP_FLAGS, O.SESSION_STATE,
  O.SESSION_ROLE, O.SESSION_CA, O.SESSION_ID, O.SESSION_LAST_COUNTER, O.ROLE_ROOT, O.RING_ENABLE, O.RING_HEAD,
  O.RING_TAIL, O.RING_STATE, O.RING_COMPLETED, O.RING_REJECTED, O.INJECT_REFUSED, O.MODE, O.MODE_CMD,
  O.MODE_ENTERED_AT, O.MODE_CAUSE, O.RUNAHEAD_FALSE_STARTS, O.RUNAHEAD_WASTED_CELLS, O.BANK_DISCARDS,
  O.VAULT_STATE, O.VAULT_HANDLE, O.VAULT_LEVEL, O.VAULT_PURPOSE, O.VAULT_KEY_BITS, O.VAULT_COUNTED,
  O.VAULT_USES_LEFT, O.VAULT_ORIGIN, O.VAULT_PARENT, O.VAULT_CREATED_AT, O.VAULT_ARG_KEY, O.VAULT_CMD,
  O.VAULT_RESULT_HANDLE, O.DRBG_STATE, O.LA_CONTEXTS_BUSY, O.GUN_STATE, O.GUN_OWNER, O.GUN_FLAGS, O.PORT_TX_FRAMES,
  O.PORT_TX_BYTES, O.PORT_TX_TRUNCATED, O.PORT_FC_TX_XOFF_C0, O.PORT_FC_TX_XOFF_C1, O.PORT_FC_TX_XOFF_C2,
  O.PORT_FC_TX_XOFF_C3, O.PORT_FC_TX_XOFF_C4, O.PORT_FC_TX_XOFF_C5, O.PORT_FC_TX_XOFF_C6, O.PORT_FC_TX_XOFF_C7,
  O.SC_STATUS, O.SA_STATE, O.SA_KEK, O.SA_SLOT, O.SA_FLAGS, O.SA_CHANGED_AT, O.SCSA_SLOT0_ROW, O.SCSA_SLOT1_ROW,
  O.SCSA_IN_FORCE_AN, O.SCSA_ZONE_OPEN, O.SA_STAT_PKTS, O.SA_STAT_OCTETS, O.SA_STAT_PKTS_ENCRYPTED,
  O.SA_STAT_NOT_VALID, O.SA_STAT_COMMIT_LATE, O.SA_STAT_TX_LOST, O.CALLROOM_OCCUPANCY, O.CALLROOM_PEAK,
  O.QUEUE_OCCUPANCY, O.QUEUE_NODE, O.BUFP_USED_CELLS, O.BUF_HEADROOM_USED, O.MEM_NODE_FAILS, O.MEM_CTR_READONLY,
  O.MEM_TREE_HITS, O.MEM_TREE_MISSES, O.FLT_SRC_CLASS, O.FLT_SRC_EVENTS, O.FLT_SRC_LAST_AT, O.FLT_STATUS,
  O.FLT_FATAL_SINCE_BOOT, O.FLT_LOG_LAST_SEQ, O.FLT_LOG_OVERWRITTEN, O.FLT_EVENT_LOST, O.FLT_FIRST_SEVERE,
  O.FLT_LOG_RECORD, O.PMC_VALUE, O.PMC_STATUS, O.PEER_KEY, F.mode, F.draws, F.out, F.sess, F.groups, F.ring,
  F.pcieDma, F.pciePending, F.faults, F.vault, F.checkKey, F.storeKey, F.keyTests, F.keyRestart, F.keyScrub,
  F.saRecs, F.saCtxs, F.banks, F.pipe, F.clsx, F.queues, F.nodes, F.pairs, F.ports, F.laps, F.pmc, F.memRest, F.lc,
  F.la, F.keyScrubFrom, F.keyReseed, F.keyRequests]

theorem Device.fullLine_keeps {W : List Nat} {a : Device} {d : Device} {p : Nat} (hW : Sub Touch.fullLine W) (h : Keeps W a d) :
    Keeps W a (Device.fullLine d p).2 := by
  unfold Device.fullLine
  try dsimp only
  repeat' first
    | with_reducible exact h | with_reducible assumption | with_reducible apply Keeps.ite
    | with_reducible refine Device.memNodeFail_keeps (subT (by decide +kernel) hW) ?_
    | with_reducible refine Device.fetchCounter_keeps (subT (by decide +kernel) hW) ?_
    | with_reducible refine Device.bumpLine_keeps (subT (by decide +kernel) hW) ?_
    | with_reducible refine Device.setMem_keeps (subT (by decide +kernel) hW) ?_ rfl
    | with_reducible apply Keeps.ite2 | intro _ _ hq | intro _ | split

def Touch.tagFail : List Nat :=
  [O.LOCK, O.GROUP_OWNER, O.GROUP_STATE, O.GROUP_WRITES, O.GROUP_FAIL_ADDRESS, O.GROUP_FLAGS, O.SESSION_STATE,
  O.SESSION_ROLE, O.SESSION_CA, O.SESSION_ID, O.SESSION_LAST_COUNTER, O.ROLE_ROOT, O.RING_ENABLE, O.RING_HEAD,
  O.RING_TAIL, O.RING_STATE, O.RING_COMPLETED, O.RING_REJECTED, O.INJECT_REFUSED, O.MODE, O.MODE_CMD,
  O.MODE_ENTERED_AT, O.MODE_CAUSE, O.RUNAHEAD_FALSE_STARTS, O.RUNAHEAD_WASTED_CELLS, O.BANK_DISCARDS,
  O.VAULT_STATE, O.VAULT_HANDLE, O.VAULT_LEVEL, O.VAULT_PURPOSE, O.VAULT_KEY_BITS, O.VAULT_COUNTED,
  O.VAULT_USES_LEFT, O.VAULT_ORIGIN, O.VAULT_PARENT, O.VAULT_CREATED_AT, O.VAULT_ARG_KEY, O.VAULT_CMD,
  O.VAULT_RESULT_HANDLE, O.DRBG_STATE, O.LA_CONTEXTS_BUSY, O.GUN_STATE, O.GUN_OWNER, O.GUN_FLAGS, O.PORT_TX_FRAMES,
  O.PORT_TX_BYTES, O.PORT_TX_TRUNCATED, O.PORT_FC_TX_XOFF_C0, O.PORT_FC_TX_XOFF_C1, O.PORT_FC_TX_XOFF_C2,
  O.PORT_FC_TX_XOFF_C3, O.PORT_FC_TX_XOFF_C4, O.PORT_FC_TX_XOFF_C5, O.PORT_FC_TX_XOFF_C6, O.PORT_FC_TX_XOFF_C7,
  O.SC_STATUS, O.SA_STATE, O.SA_KEK, O.SA_SLOT, O.SA_FLAGS, O.SA_CHANGED_AT, O.SCSA_SLOT0_ROW, O.SCSA_SLOT1_ROW,
  O.SCSA_IN_FORCE_AN, O.SCSA_ZONE_OPEN, O.SA_STAT_PKTS, O.SA_STAT_OCTETS, O.SA_STAT_PKTS_ENCRYPTED,
  O.SA_STAT_NOT_VALID, O.SA_STAT_COMMIT_LATE, O.SA_STAT_TX_LOST, O.CALLROOM_OCCUPANCY, O.CALLROOM_PEAK,
  O.QUEUE_OCCUPANCY, O.QUEUE_NODE, O.BUFP_USED_CELLS, O.BUF_HEADROOM_USED, O.MEM_TAG_FAILS, O.FLT_SRC_CLASS,
  O.FLT_SRC_EVENTS, O.FLT_SRC_LAST_AT, O.FLT_STATUS, O.FLT_FATAL_SINCE_BOOT, O.FLT_LOG_LAST_SEQ,
  O.FLT_LOG_OVERWRITTEN, O.FLT_EVENT_LOST, O.FLT_FIRST_SEVERE, O.FLT_LOG_RECORD, O.PMC_VALUE, O.PMC_STATUS,
  O.PEER_KEY, F.mode, F.draws, F.out, F.sess, F.groups, F.ring, F.pcieDma, F.pciePending, F.faults, F.vault,
  F.checkKey, F.storeKey, F.keyTests, F.keyRestart, F.keyScrub, F.saRecs, F.saCtxs, F.banks, F.pipe, F.clsx,
  F.queues, F.nodes, F.pairs, F.ports, F.laps, F.pmc, F.lc, F.la, F.keyScrubFrom, F.keyReseed, F.keyRequests]

theorem Device.tagFail_keeps {W : List Nat} {a : Device} {d : Device} {p : Nat} (hW : Sub Touch.tagFail W) (h : Keeps W a d) :
    Keeps W a (Device.tagFail d p) := by
  unfold Device.tagFail
  try dsimp only
  repeat' first
    | with_reducible exact h | exact memT (by decide +kernel) hW | with_reducible refine Device.inc64_keeps ?_ ?_
    | with_reducible refine Device.fault_keeps (subT (by decide +kernel) hW) ?_

def Touch.readLine : List Nat :=
  [O.LOCK, O.GROUP_OWNER, O.GROUP_STATE, O.GROUP_WRITES, O.GROUP_FAIL_ADDRESS, O.GROUP_FLAGS, O.SESSION_STATE,
  O.SESSION_ROLE, O.SESSION_CA, O.SESSION_ID, O.SESSION_LAST_COUNTER, O.ROLE_ROOT, O.RING_ENABLE, O.RING_HEAD,
  O.RING_TAIL, O.RING_STATE, O.RING_COMPLETED, O.RING_REJECTED, O.INJECT_REFUSED, O.MODE, O.MODE_CMD,
  O.MODE_ENTERED_AT, O.MODE_CAUSE, O.RUNAHEAD_FALSE_STARTS, O.RUNAHEAD_WASTED_CELLS, O.BANK_DISCARDS,
  O.VAULT_STATE, O.VAULT_HANDLE, O.VAULT_LEVEL, O.VAULT_PURPOSE, O.VAULT_KEY_BITS, O.VAULT_COUNTED,
  O.VAULT_USES_LEFT, O.VAULT_ORIGIN, O.VAULT_PARENT, O.VAULT_CREATED_AT, O.VAULT_ARG_KEY, O.VAULT_CMD,
  O.VAULT_RESULT_HANDLE, O.DRBG_STATE, O.LA_CONTEXTS_BUSY, O.GUN_STATE, O.GUN_OWNER, O.GUN_FLAGS, O.PORT_TX_FRAMES,
  O.PORT_TX_BYTES, O.PORT_TX_TRUNCATED, O.PORT_FC_TX_XOFF_C0, O.PORT_FC_TX_XOFF_C1, O.PORT_FC_TX_XOFF_C2,
  O.PORT_FC_TX_XOFF_C3, O.PORT_FC_TX_XOFF_C4, O.PORT_FC_TX_XOFF_C5, O.PORT_FC_TX_XOFF_C6, O.PORT_FC_TX_XOFF_C7,
  O.SC_STATUS, O.SA_STATE, O.SA_KEK, O.SA_SLOT, O.SA_FLAGS, O.SA_CHANGED_AT, O.SCSA_SLOT0_ROW, O.SCSA_SLOT1_ROW,
  O.SCSA_IN_FORCE_AN, O.SCSA_ZONE_OPEN, O.SA_STAT_PKTS, O.SA_STAT_OCTETS, O.SA_STAT_PKTS_ENCRYPTED,
  O.SA_STAT_NOT_VALID, O.SA_STAT_COMMIT_LATE, O.SA_STAT_TX_LOST, O.CALLROOM_OCCUPANCY, O.CALLROOM_PEAK,
  O.QUEUE_OCCUPANCY, O.QUEUE_NODE, O.BUFP_USED_CELLS, O.BUF_HEADROOM_USED, O.MEM_TAG_FAILS, O.MEM_NODE_FAILS,
  O.MEM_CTR_READONLY, O.MEM_POISON_COUNT, O.MEM_TREE_HITS, O.MEM_TREE_MISSES, O.MEM_POISON_OFFSET, O.MEM_POISON_AT,
  O.MEM_POISON_CAUSE, O.FLT_SRC_CLASS, O.FLT_SRC_EVENTS, O.FLT_SRC_LAST_AT, O.FLT_STATUS, O.FLT_FATAL_SINCE_BOOT,
  O.FLT_LOG_LAST_SEQ, O.FLT_LOG_OVERWRITTEN, O.FLT_EVENT_LOST, O.FLT_FIRST_SEVERE, O.FLT_LOG_RECORD, O.PMC_VALUE,
  O.PMC_STATUS, O.PEER_KEY, F.mode, F.draws, F.out, F.sess, F.groups, F.ring, F.pcieDma, F.pciePending, F.faults,
  F.vault, F.checkKey, F.storeKey, F.keyTests, F.keyRestart, F.keyScrub, F.saRecs, F.saCtxs, F.banks, F.pipe,
  F.clsx, F.queues, F.nodes, F.pairs, F.ports, F.laps, F.pmc, F.memRest, F.lc, F.la, F.keyScrubFrom, F.keyReseed,
  F.keyRequests]

theorem Device.readLine_keeps {W : List Nat} {a : Device} {d : Device} {p : Nat} (hW : Sub Touch.readLine W) (h : Keeps W a d) :
    Keeps W a (Device.readLine d p).2 := by
  unfold Device.readLine
  try dsimp only
  repeat' first
    | with_reducible exact h | with_reducible apply Keeps.ite
    | with_reducible refine Device.memNodeFail_keeps (subT (by decide +kernel) hW) ?_
    | with_reducible refine Device.fetchCounter_keeps (subT (by decide +kernel) hW) ?_
    | with_reducible refine Device.poisonWrite_keeps (subT (by decide +kernel) hW) ?_
    | with_reducible refine Device.tagFail_keeps (subT (by decide +kernel) hW) ?_ | with_reducible apply Keeps.ite2
    | split

def Touch.memCorrected : List Nat :=
  [O.LOCK, O.GROUP_OWNER, O.GROUP_STATE, O.GROUP_WRITES, O.GROUP_FAIL_ADDRESS, O.GROUP_FLAGS, O.SESSION_STATE,
  O.SESSION_ROLE, O.SESSION_CA, O.SESSION_ID, O.SESSION_LAST_COUNTER, O.ROLE_ROOT, O.RING_ENABLE, O.RING_HEAD,
  O.RING_TAIL, O.RING_STATE, O.RING_COMPLETED, O.RING_REJECTED, O.INJECT_REFUSED, O.MODE, O.MODE_CMD,
  O.MODE_ENTERED_AT, O.MODE_CAUSE, O.RUNAHEAD_FALSE_STARTS, O.RUNAHEAD_WASTED_CELLS, O.BANK_DISCARDS,
  O.VAULT_STATE, O.VAULT_HANDLE, O.VAULT_LEVEL, O.VAULT_PURPOSE, O.VAULT_KEY_BITS, O.VAULT_COUNTED,
  O.VAULT_USES_LEFT, O.VAULT_ORIGIN, O.VAULT_PARENT, O.VAULT_CREATED_AT, O.VAULT_ARG_KEY, O.VAULT_CMD,
  O.VAULT_RESULT_HANDLE, O.DRBG_STATE, O.LA_CONTEXTS_BUSY, O.GUN_STATE, O.GUN_OWNER, O.GUN_FLAGS, O.PORT_TX_FRAMES,
  O.PORT_TX_BYTES, O.PORT_TX_TRUNCATED, O.PORT_FC_TX_XOFF_C0, O.PORT_FC_TX_XOFF_C1, O.PORT_FC_TX_XOFF_C2,
  O.PORT_FC_TX_XOFF_C3, O.PORT_FC_TX_XOFF_C4, O.PORT_FC_TX_XOFF_C5, O.PORT_FC_TX_XOFF_C6, O.PORT_FC_TX_XOFF_C7,
  O.SC_STATUS, O.SA_STATE, O.SA_KEK, O.SA_SLOT, O.SA_FLAGS, O.SA_CHANGED_AT, O.SCSA_SLOT0_ROW, O.SCSA_SLOT1_ROW,
  O.SCSA_IN_FORCE_AN, O.SCSA_ZONE_OPEN, O.SA_STAT_PKTS, O.SA_STAT_OCTETS, O.SA_STAT_PKTS_ENCRYPTED,
  O.SA_STAT_NOT_VALID, O.SA_STAT_COMMIT_LATE, O.SA_STAT_TX_LOST, O.CALLROOM_OCCUPANCY, O.CALLROOM_PEAK,
  O.QUEUE_OCCUPANCY, O.QUEUE_NODE, O.BUFP_USED_CELLS, O.BUF_HEADROOM_USED, O.MEM_CH_CORRECTED, O.FLT_SRC_CLASS,
  O.FLT_SRC_EVENTS, O.FLT_SRC_LAST_AT, O.FLT_STATUS, O.FLT_FATAL_SINCE_BOOT, O.FLT_LOG_LAST_SEQ,
  O.FLT_LOG_OVERWRITTEN, O.FLT_EVENT_LOST, O.FLT_FIRST_SEVERE, O.FLT_LOG_RECORD, O.PMC_VALUE, O.PMC_STATUS,
  O.PEER_KEY, F.mode, F.draws, F.out, F.sess, F.groups, F.ring, F.pcieDma, F.pciePending, F.faults, F.vault,
  F.checkKey, F.storeKey, F.keyTests, F.keyRestart, F.keyScrub, F.saRecs, F.saCtxs, F.banks, F.pipe, F.clsx,
  F.queues, F.nodes, F.pairs, F.ports, F.laps, F.pmc, F.lc, F.la, F.keyScrubFrom, F.keyReseed, F.keyRequests]

theorem Device.memCorrected_keeps {W : List Nat} {a : Device} {d : Device} {c : Nat} (hW : Sub Touch.memCorrected W) (h : Keeps W a d) :
    Keeps W a (Device.memCorrected d c) := by
  unfold Device.memCorrected
  try dsimp only
  repeat' first
    | with_reducible exact h | exact memT (by decide +kernel) hW | with_reducible refine Device.inc64_keeps ?_ ?_
    | with_reducible refine Device.fault_keeps (subT (by decide +kernel) hW) ?_

def Touch.setRetiring : List Nat :=
  [F.memRest]

theorem Device.setRetiring_keeps {W : List Nat} {a : Device} {d : Device} {x : Option (Nat × Bool)} {sw : Bool} (hW : Sub Touch.setRetiring W) (h : Keeps W a d) :
    Keeps W a (Device.setRetiring d x sw) := by
  unfold Device.setRetiring
  try dsimp only
  repeat' first
    | with_reducible exact h | with_reducible refine Device.setMem_keeps (subT (by decide +kernel) hW) ?_ rfl

def Touch.forceRetire : List Nat :=
  [F.draws, F.memRest]

theorem Device.forceRetire_keeps {W : List Nat} {a : Device} {d : Device} {c : Nat} (hW : Sub Touch.forceRetire W) (h : Keeps W a d) :
    Keeps W a (Device.forceRetire d c) := by
  unfold Device.forceRetire
  try dsimp only
  repeat' first
    | with_reducible exact h | with_reducible apply Keeps.ite
    | with_reducible refine Device.unstated_keeps (subT (by decide +kernel) hW) ?_
    | with_reducible refine Device.setMem_keeps (subT (by decide +kernel) hW) ?_ rfl
    | with_reducible apply Keeps.ite2 | split

def Touch.startRetire : List Nat :=
  [O.LOCK, O.GROUP_OWNER, O.GROUP_STATE, O.GROUP_WRITES, O.GROUP_FAIL_ADDRESS, O.GROUP_FLAGS, O.SESSION_STATE,
  O.SESSION_ROLE, O.SESSION_CA, O.SESSION_ID, O.SESSION_LAST_COUNTER, O.ROLE_ROOT, O.RING_ENABLE, O.RING_HEAD,
  O.RING_TAIL, O.RING_STATE, O.RING_COMPLETED, O.RING_REJECTED, O.INJECT_REFUSED, O.MODE, O.MODE_CMD,
  O.MODE_ENTERED_AT, O.MODE_CAUSE, O.RUNAHEAD_FALSE_STARTS, O.RUNAHEAD_WASTED_CELLS, O.BANK_DISCARDS,
  O.VAULT_STATE, O.VAULT_HANDLE, O.VAULT_LEVEL, O.VAULT_PURPOSE, O.VAULT_KEY_BITS, O.VAULT_COUNTED,
  O.VAULT_USES_LEFT, O.VAULT_ORIGIN, O.VAULT_PARENT, O.VAULT_CREATED_AT, O.VAULT_ARG_KEY, O.VAULT_CMD,
  O.VAULT_RESULT_HANDLE, O.DRBG_STATE, O.LA_CONTEXTS_BUSY, O.GUN_STATE, O.GUN_OWNER, O.GUN_FLAGS, O.PORT_TX_FRAMES,
  O.PORT_TX_BYTES, O.PORT_TX_TRUNCATED, O.PORT_FC_TX_XOFF_C0, O.PORT_FC_TX_XOFF_C1, O.PORT_FC_TX_XOFF_C2,
  O.PORT_FC_TX_XOFF_C3, O.PORT_FC_TX_XOFF_C4, O.PORT_FC_TX_XOFF_C5, O.PORT_FC_TX_XOFF_C6, O.PORT_FC_TX_XOFF_C7,
  O.SC_STATUS, O.SA_STATE, O.SA_KEK, O.SA_SLOT, O.SA_FLAGS, O.SA_CHANGED_AT, O.SCSA_SLOT0_ROW, O.SCSA_SLOT1_ROW,
  O.SCSA_IN_FORCE_AN, O.SCSA_ZONE_OPEN, O.SA_STAT_PKTS, O.SA_STAT_OCTETS, O.SA_STAT_PKTS_ENCRYPTED,
  O.SA_STAT_NOT_VALID, O.SA_STAT_COMMIT_LATE, O.SA_STAT_TX_LOST, O.CALLROOM_OCCUPANCY, O.CALLROOM_PEAK,
  O.QUEUE_OCCUPANCY, O.QUEUE_NODE, O.BUFP_USED_CELLS, O.BUF_HEADROOM_USED, O.MEM_CH_STATE, O.MEM_CH_CAUSE,
  O.MEM_REHASH_DONE, O.FLT_SRC_CLASS, O.FLT_SRC_EVENTS, O.FLT_SRC_LAST_AT, O.FLT_STATUS, O.FLT_FATAL_SINCE_BOOT,
  O.FLT_LOG_LAST_SEQ, O.FLT_LOG_OVERWRITTEN, O.FLT_EVENT_LOST, O.FLT_FIRST_SEVERE, O.FLT_LOG_RECORD, O.PMC_VALUE,
  O.PMC_STATUS, O.PEER_KEY, F.mode, F.draws, F.out, F.sess, F.groups, F.ring, F.pcieDma, F.pciePending, F.faults,
  F.vault, F.checkKey, F.storeKey, F.keyTests, F.keyRestart, F.keyScrub, F.saRecs, F.saCtxs, F.banks, F.pipe,
  F.clsx, F.queues, F.nodes, F.pairs, F.ports, F.laps, F.pmc, F.memRest, F.lc, F.la, F.keyScrubFrom, F.keyReseed,
  F.keyRequests]

theorem Device.startRetire_keeps {W : List Nat} {a : Device} {d : Device} {c : Nat} {cause : Nat} {forced : Bool} (hW : Sub Touch.startRetire W) (h : Keeps W a d) :
    Keeps W a (Device.startRetire d c cause forced) := by
  unfold Device.startRetire
  try dsimp only
  repeat' first
    | with_reducible exact h | exact memT (by decide +kernel) hW | with_reducible apply Keeps.ite
    | with_reducible refine Device.forceRetire_keeps (subT (by decide +kernel) hW) ?_
    | with_reducible refine Device.fault_keeps (subT (by decide +kernel) hW) ?_
    | with_reducible refine Device.wr_keeps ?_ ?_
    | with_reducible refine Device.setRetiring_keeps (subT (by decide +kernel) hW) ?_ | split

def Touch.memUncorrectable : List Nat :=
  [O.MEM_CH_UNCORRECTABLE, F.memRest]

theorem Device.memUncorrectable_keeps {W : List Nat} {a : Device} {d : Device} {c : Nat} (hW : Sub Touch.memUncorrectable W) (h : Keeps W a d) :
    Keeps W a (Device.memUncorrectable d c) := by
  unfold Device.memUncorrectable
  try dsimp only
  repeat' first
    | with_reducible exact h | with_reducible assumption | exact memT (by decide +kernel) hW
    | with_reducible refine Device.setMem_keeps (subT (by decide +kernel) hW) ?_ rfl
    | with_reducible refine Device.inc64_keeps ?_ ?_ | intro _ _ hq | intro _

def Touch.memInit : List Nat :=
  [F.draws, F.checkKey, F.storeKey, F.keyTests, F.keyRestart, F.keyScrub, F.memCells, F.memRest, F.keyScrubFrom,
  F.keyReseed, F.keyRequests]

theorem Device.memInit_keeps {W : List Nat} {a d : Device} (hW : Sub Touch.memInit W) (h : Keeps W a d) :
    Keeps W a d.memInit := by
  have h1 : Keeps W a (((d.drawBytes 32).2.drawBytes 32).2.drawBytes 32).2 :=
    Device.drawBytes_keeps (subT (by decide +kernel) hW) (Device.drawBytes_keeps (subT (by decide +kernel) hW)
      (Device.drawBytes_keeps (subT (by decide +kernel) hW) h))
  exact h1.same rfl rfl (fun k hk => by
    unfold sameField
    split <;> first | exact absurd (memF (by decide +kernel) hW) hk | rfl | trivial)

def Touch.memZero : List Nat :=
  [F.memRest]

theorem Device.memZero_keeps {W : List Nat} {a : Device} {d : Device} (hW : Sub Touch.memZero W) (h : Keeps W a d) :
    Keeps W a (Device.memZero d) := by
  unfold Device.memZero
  try dsimp only
  repeat' first
    | with_reducible exact h | with_reducible refine Device.setMem_keeps (subT (by decide +kernel) hW) ?_ rfl

end Sys2Proof.Machine
end

