-- ==== Sys2Proof/Laws/KeepsOtp.lean ====
section
/-!
SUPPORT. The places that each operation of Machine/Otp.lean may change (Laws/Keeps.lean).
-/
set_option Elab.async false
set_option linter.all false
set_option linter.unusedTactic false
set_option linter.unreachableTactic false
set_option linter.style.longLine false
namespace Sys2Proof.Machine

def Touch.burnWord : List Nat :=
  [F.otp]

theorem Device.burnWord_keeps {W : List Nat} {a : Device} {d : Device} {w : Nat} {v : Nat} (hW : Sub Touch.burnWord W) (h : Keeps W a d) :
    Keeps W a (Device.burnWord d w v) := 
  h.same rfl rfl (fun k hk => by
    unfold sameField
    split <;> first | rfl | exact absurd (memF (by decide +kernel) hW) hk | trivial)

def Touch.burnWords : List Nat :=
  [F.otp]

theorem Device.burnWords_keeps {W : List Nat} {a : Device} {x0 : Nat} {x1 : Nat} {x2 : Nat} {d : Device} (hW : Sub Touch.burnWords W) (h : Keeps W a d) :
    Keeps W a (Device.burnWords x0 x1 x2 d) := by
  induction x0 generalizing x1 x2 d with
  | zero =>
    unfold Device.burnWords
    try dsimp only
    repeat' first
      | with_reducible exact h | with_reducible assumption
      | with_reducible refine Device.burnWord_keeps (subT (by decide +kernel) hW) ?_ | split
  | succ _ ih =>
    unfold Device.burnWords
    try dsimp only
    repeat' first
      | with_reducible exact h | with_reducible apply ih | with_reducible assumption
      | with_reducible refine Device.burnWord_keeps (subT (by decide +kernel) hW) ?_ | split

def Touch.burnBits : List Nat :=
  [F.otp]

theorem Device.burnBits_keeps {W : List Nat} {a : Device} {d : Device} {lo : Nat} {n : Nat} {v : Nat} (hW : Sub Touch.burnBits W) (h : Keeps W a d) :
    Keeps W a (Device.burnBits d lo n v) := by
  unfold Device.burnBits
  try dsimp only
  repeat' first
    | with_reducible exact h | with_reducible refine Device.burnWords_keeps (subT (by decide +kernel) hW) ?_

def Touch.flashPut : List Nat :=
  [F.flash]

theorem Device.flashPut_keeps {W : List Nat} {a : Device} {d : Device} {o : Nat} {v : Nat} (hW : Sub Touch.flashPut W) (h : Keeps W a d) :
    Keeps W a (Device.flashPut d o v) := 
  h.same rfl rfl (fun k hk => by
    unfold sameField
    split <;> first | rfl | exact absurd (memF (by decide +kernel) hW) hk | trivial)

def Touch.flashWrite : List Nat :=
  [F.flash]

theorem Device.flashWrite_keeps {W : List Nat} {a : Device} {d : Device} {o : Nat} {bs : Bytes} (hW : Sub Touch.flashWrite W) (h : Keeps W a d) :
    Keeps W a (Device.flashWrite d o bs) := by
  unfold Device.flashWrite
  try dsimp only
  repeat' first
    | with_reducible exact h | with_reducible assumption | with_reducible apply Keeps.foldl
    | with_reducible refine Device.flashPut_keeps (subT (by decide +kernel) hW) ?_
    | with_reducible apply Keeps.foldl2 | intro _ _ hq | intro _

def Touch.flashErase : List Nat :=
  [F.flash]

theorem Device.flashErase_keeps {W : List Nat} {a : Device} {d : Device} {o : Nat} {n : Nat} (hW : Sub Touch.flashErase W) (h : Keeps W a d) :
    Keeps W a (Device.flashErase d o n) := 
  h.same rfl rfl (fun k hk => by
    unfold sameField
    split <;> first | rfl | exact absurd (memF (by decide +kernel) hW) hk | trivial)

end Sys2Proof.Machine
end

