-- ==== Sys2Proof/Laws/KeepsSessions.lean ====
section
/-!
SUPPORT. The places that each operation of Machine/Sessions.lean may change (Laws/Keeps.lean).
-/
set_option Elab.async false
set_option linter.all false
set_option linter.unusedTactic false
set_option linter.unreachableTactic false
set_option linter.style.longLine false
namespace Sys2Proof.Machine

def Touch.setProofFails : List Nat :=
  [F.proofFails]

theorem Device.setProofFails_keeps {W : List Nat} {a : Device} {d : Device} {l : List (Transport × Nat)} (hW : Sub Touch.setProofFails W) (h : Keeps W a d) :
    Keeps W a (Device.setProofFails d l) := 
  h.same rfl rfl (fun k hk => by
    unfold sameField
    split <;> first | rfl | exact absurd (memF (by decide +kernel) hW) hk | trivial)

def Touch.setLockouts : List Nat :=
  [F.lockoutUntil]

theorem Device.setLockouts_keeps {W : List Nat} {a : Device} {d : Device} {l : List (Transport × Nat)} (hW : Sub Touch.setLockouts W) (h : Keeps W a d) :
    Keeps W a (Device.setLockouts d l) := 
  h.same rfl rfl (fun k hk => by
    unfold sameField
    split <;> first | rfl | exact absurd (memF (by decide +kernel) hW) hk | trivial)

def Touch.proofFailed : List Nat :=
  [O.LOCK, O.GROUP_OWNER, O.GROUP_STATE, O.GROUP_WRITES, O.GROUP_FAIL_ADDRESS, O.GROUP_FLAGS, O.SESSION_STATE,
  O.SESSION_ROLE, O.SESSION_CA, O.SESSION_ID, O.SESSION_LAST_COUNTER, O.RING_ENABLE, O.RING_HEAD, O.RING_TAIL,
  O.RING_STATE, O.RING_COMPLETED, O.RING_REJECTED, O.GUN_STATE, O.GUN_OWNER, O.GUN_FLAGS, O.FLT_SRC_EVENTS,
  O.FLT_SRC_LAST_AT, O.FLT_LOG_LAST_SEQ, O.FLT_LOG_OVERWRITTEN, O.FLT_EVENT_LOST, O.FLT_FIRST_SEVERE,
  O.FLT_LOG_RECORD, O.PMC_VALUE, O.PMC_STATUS, F.out, F.sess, F.proofFails, F.lockoutUntil, F.groups, F.ring,
  F.pcieDma, F.pciePending, F.faults, F.clsx, F.pmc]

theorem Device.proofFailed_keeps {W : List Nat} {a : Device} {d : Device} {t : Transport} (hW : Sub Touch.proofFailed W) (h : Keeps W a d) :
    Keeps W a (Device.proofFailed d t) := by
  unfold Device.proofFailed
  try dsimp only
  repeat' first
    | with_reducible exact h | with_reducible assumption | with_reducible apply Keeps.ite
    | with_reducible refine Device.setProofFails_keeps (subT (by decide +kernel) hW) ?_
    | with_reducible refine Device.setLockouts_keeps (subT (by decide +kernel) hW) ?_
    | with_reducible refine Device.note_keeps (subT (by decide +kernel) hW) ?_ | intro _ _ hq | intro _ | split

def Touch.allocSession : List Nat :=
  [O.SESSION_STATE, O.SESSION_ROLE, O.SESSION_CA, O.SESSION_ID, O.SESSION_LAST_COUNTER, O.DBG_CERT_SCOPE,
  O.DBG_CERT_EXPIRES, F.sess]

theorem Device.allocSession_keeps {W : List Nat} {a : Device} {d : Device} {row : Nat} {state : Nat} {o : OpenReq} {nd : Nat} {ks : Nat} (hW : Sub Touch.allocSession W) (h : Keeps W a d) :
    Keeps W a (Device.allocSession d row state o nd ks) := by
  unfold Device.allocSession
  try dsimp only
  repeat' first
    | with_reducible exact h | exact memT (by decide +kernel) hW | with_reducible apply Keeps.ite
    | with_reducible refine Device.setSess_keeps (subT (by decide +kernel) hW) ?_
    | with_reducible refine Device.wr_keeps ?_ ?_ | split

def Touch.openSession : List Nat :=
  [O.LOCK, O.GROUP_OWNER, O.GROUP_STATE, O.GROUP_WRITES, O.GROUP_FAIL_ADDRESS, O.GROUP_FLAGS, O.SESSION_STATE,
  O.SESSION_ROLE, O.SESSION_CA, O.SESSION_ID, O.SESSION_LAST_COUNTER, O.ROLE_ROOT, O.RING_ENABLE, O.RING_HEAD,
  O.RING_TAIL, O.RING_STATE, O.RING_COMPLETED, O.RING_REJECTED, O.INJECT_REFUSED, O.MODE, O.MODE_CMD,
  O.MODE_ENTERED_AT, O.MODE_CAUSE, O.RUNAHEAD_FALSE_STARTS, O.RUNAHEAD_WASTED_CELLS, O.BANK_DISCARDS,
  O.DBG_CERT_SCOPE, O.DBG_CERT_EXPIRES, O.VAULT_STATE, O.VAULT_HANDLE, O.VAULT_LEVEL, O.VAULT_PURPOSE,
  O.VAULT_KEY_BITS, O.VAULT_COUNTED, O.VAULT_USES_LEFT, O.VAULT_ORIGIN, O.VAULT_PARENT, O.VAULT_CREATED_AT,
  O.VAULT_ARG_KEY, O.VAULT_CMD, O.VAULT_RESULT_HANDLE, O.VAULT_CHECK_FAILS, O.DRBG_STATE, O.LA_CONTEXTS_BUSY,
  O.GUN_STATE, O.GUN_OWNER, O.GUN_FLAGS, O.PORT_TX_FRAMES, O.PORT_TX_BYTES, O.PORT_TX_TRUNCATED,
  O.PORT_FC_TX_XOFF_C0, O.PORT_FC_TX_XOFF_C1, O.PORT_FC_TX_XOFF_C2, O.PORT_FC_TX_XOFF_C3, O.PORT_FC_TX_XOFF_C4,
  O.PORT_FC_TX_XOFF_C5, O.PORT_FC_TX_XOFF_C6, O.PORT_FC_TX_XOFF_C7, O.SC_STATUS, O.SA_STATE, O.SA_KEK, O.SA_SLOT,
  O.SA_FLAGS, O.SA_CHANGED_AT, O.SCSA_SLOT0_ROW, O.SCSA_SLOT1_ROW, O.SCSA_IN_FORCE_AN, O.SCSA_ZONE_OPEN,
  O.SA_STAT_PKTS, O.SA_STAT_OCTETS, O.SA_STAT_PKTS_ENCRYPTED, O.SA_STAT_NOT_VALID, O.SA_STAT_COMMIT_LATE,
  O.SA_STAT_TX_LOST, O.CALLROOM_OCCUPANCY, O.CALLROOM_PEAK, O.QUEUE_OCCUPANCY, O.QUEUE_NODE, O.BUFP_USED_CELLS,
  O.BUF_HEADROOM_USED, O.FLT_SRC_CLASS, O.FLT_SRC_EVENTS, O.FLT_SRC_LAST_AT, O.FLT_STATUS, O.FLT_FATAL_SINCE_BOOT,
  O.FLT_LOG_LAST_SEQ, O.FLT_LOG_OVERWRITTEN, O.FLT_EVENT_LOST, O.FLT_FIRST_SEVERE, O.FLT_LOG_RECORD, O.PMC_VALUE,
  O.PMC_STATUS, O.PEER_KEY, F.mode, F.draws, F.out, F.sess, F.groups, F.ring, F.pcieDma, F.pciePending, F.faults,
  F.vault, F.checkKey, F.storeKey, F.keyTests, F.keyRestart, F.keyScrub, F.saRecs, F.saCtxs, F.banks, F.pipe,
  F.clsx, F.queues, F.nodes, F.pairs, F.ports, F.laps, F.pmc, F.lc, F.la, F.keyScrubFrom, F.keyReseed,
  F.keyRequests]

theorem Device.openSession_keeps {W : List Nat} {a : Device} {d : Device} {t : Transport} {o : OpenReq} (hW : Sub Touch.openSession W) (h : Keeps W a d) :
    Keeps W a (Device.openSession d t o).2 := by
  unfold Device.openSession
  try dsimp only
  repeat' first
    | with_reducible exact h | with_reducible assumption | with_reducible apply Keeps.ite
    | with_reducible refine Device.drawBytes_keeps (subT (by decide +kernel) hW) ?_
    | with_reducible refine Device.allocSession_keeps (subT (by decide +kernel) hW) ?_
    | with_reducible refine Device.slotUse_keeps (subT (by decide +kernel) hW) ?_
    | with_reducible refine Device.takeUse_keeps (subT (by decide +kernel) hW) ?_ | with_reducible apply Keeps.ite2
    | split

def Touch.freeOpening : List Nat :=
  Touch.clearSession

theorem Device.freeOpening_keeps {W : List Nat} {a : Device} {d : Device} {row : Nat} (hW : Sub Touch.freeOpening W) (h : Keeps W a d) :
    Keeps W a (Device.freeOpening d row) := by
  unfold Device.freeOpening
  try dsimp only
  repeat' first
    | with_reducible exact h | with_reducible refine Device.clearSession_keeps (subT (by decide +kernel) hW) ?_

def Touch.becomeOpen : List Nat :=
  [O.SESSION_STATE, F.sess]

theorem Device.becomeOpen_keeps {W : List Nat} {a : Device} {d : Device} {row : Nat} (hW : Sub Touch.becomeOpen W) (h : Keeps W a d) :
    Keeps W a (Device.becomeOpen d row) := by
  unfold Device.becomeOpen
  try dsimp only
  repeat' first
    | with_reducible exact h | exact memT (by decide +kernel) hW
    | with_reducible refine Device.setSess_keeps (subT (by decide +kernel) hW) ?_
    | with_reducible refine Device.wr_keeps ?_ ?_

def Touch.becomeOpenCert : List Nat :=
  [O.SESSION_STATE, O.DBG_CERT_SCOPE, O.DBG_CERT_EXPIRES, F.sess]

theorem Device.becomeOpenCert_keeps {W : List Nat} {a : Device} {d : Device} {row : Nat} (hW : Sub Touch.becomeOpenCert W) (h : Keeps W a d) :
    Keeps W a (Device.becomeOpenCert d row) := by
  unfold Device.becomeOpenCert
  try dsimp only
  repeat' first
    | with_reducible exact h | exact memT (by decide +kernel) hW
    | with_reducible refine Device.becomeOpen_keeps (subT (by decide +kernel) hW) ?_
    | with_reducible refine Device.wr_keeps ?_ ?_

def Touch.proveSession : List Nat :=
  [O.LOCK, O.GROUP_OWNER, O.GROUP_STATE, O.GROUP_WRITES, O.GROUP_FAIL_ADDRESS, O.GROUP_FLAGS, O.SESSION_STATE,
  O.SESSION_ROLE, O.SESSION_CA, O.SESSION_ID, O.SESSION_LAST_COUNTER, O.RING_ENABLE, O.RING_HEAD, O.RING_TAIL,
  O.RING_STATE, O.RING_COMPLETED, O.RING_REJECTED, O.DBG_CERT_SCOPE, O.DBG_CERT_EXPIRES, O.GUN_STATE, O.GUN_OWNER,
  O.GUN_FLAGS, O.FLT_SRC_EVENTS, O.FLT_SRC_LAST_AT, O.FLT_LOG_LAST_SEQ, O.FLT_LOG_OVERWRITTEN, O.FLT_EVENT_LOST,
  O.FLT_FIRST_SEVERE, O.FLT_LOG_RECORD, O.PMC_VALUE, O.PMC_STATUS, F.out, F.sess, F.proofFails, F.lockoutUntil,
  F.groups, F.ring, F.pcieDma, F.pciePending, F.faults, F.clsx, F.pmc]

theorem Device.proveSession_keeps {W : List Nat} {a : Device} {d : Device} {t : Transport} {id : Nat} {proof : Bytes} (hW : Sub Touch.proveSession W) (h : Keeps W a d) :
    Keeps W a (Device.proveSession d t id proof).2 := by
  unfold Device.proveSession
  try dsimp only
  repeat' first
    | with_reducible exact h | with_reducible assumption | with_reducible apply Keeps.ite
    | with_reducible refine Device.freeOpening_keeps (subT (by decide +kernel) hW) ?_
    | with_reducible refine Device.proofFailed_keeps (subT (by decide +kernel) hW) ?_
    | with_reducible refine Device.becomeOpenCert_keeps (subT (by decide +kernel) hW) ?_
    | with_reducible refine Device.becomeOpen_keeps (subT (by decide +kernel) hW) ?_
    | with_reducible apply Keeps.ite2 | split

def Touch.closeOn : List Nat :=
  Touch.ringEvent

theorem Device.closeOn_keeps {W : List Nat} {a : Device} {d : Device} {t : Transport} {id : Nat} (hW : Sub Touch.closeOn W) (h : Keeps W a d) :
    Keeps W a (Device.closeOn d t id).2 := by
  unfold Device.closeOn
  try dsimp only
  repeat' first
    | with_reducible exact h | with_reducible assumption | with_reducible apply Keeps.ite
    | with_reducible refine Device.closeSession_keeps (subT (by decide +kernel) hW) ?_
    | with_reducible apply Keeps.ite2 | split

def Touch.sessionCloseCore : List Nat :=
  [O.LOCK, O.GROUP_OWNER, O.GROUP_STATE, O.GROUP_WRITES, O.GROUP_FAIL_ADDRESS, O.GROUP_FLAGS, O.SESSION_STATE,
  O.SESSION_ROLE, O.SESSION_CA, O.SESSION_ID, O.SESSION_LAST_COUNTER, O.SESSION_CLOSE, O.RING_ENABLE, O.RING_HEAD,
  O.RING_TAIL, O.RING_STATE, O.RING_COMPLETED, O.RING_REJECTED, O.GUN_STATE, O.GUN_OWNER, O.GUN_FLAGS,
  O.FLT_SRC_EVENTS, O.FLT_SRC_LAST_AT, O.FLT_LOG_LAST_SEQ, O.FLT_LOG_OVERWRITTEN, O.FLT_EVENT_LOST,
  O.FLT_FIRST_SEVERE, O.FLT_LOG_RECORD, O.PMC_VALUE, O.PMC_STATUS, F.out, F.sess, F.groups, F.ring, F.pcieDma,
  F.pciePending, F.faults, F.clsx, F.pmc]

theorem Device.sessionCloseCore_keeps {W : List Nat} {a : Device} {r : Req} {row : Nat} {d : Device} (hW : Sub Touch.sessionCloseCore W) (h : Keeps W a d) :
    Keeps W a (Device.sessionCloseCore r row d).2 := by
  unfold Device.sessionCloseCore
  try dsimp only
  repeat' first
    | with_reducible exact h | with_reducible assumption | exact memT (by decide +kernel) hW
    | with_reducible refine Device.runCmd_keeps ?_ ?_ ?_
    | with_reducible refine Device.closeSession_keeps (subT (by decide +kernel) hW) ?_ | intro _ _ hq | intro _

def Touch.sessionClose : List Nat :=
  [O.LOCK, O.GROUP_OWNER, O.GROUP_STATE, O.GROUP_WRITES, O.GROUP_FAIL_ADDRESS, O.GROUP_FLAGS, O.SESSION_STATE,
  O.SESSION_ROLE, O.SESSION_CA, O.SESSION_ID, O.SESSION_LAST_COUNTER, O.SESSION_CLOSE, O.RING_ENABLE, O.RING_HEAD,
  O.RING_TAIL, O.RING_STATE, O.RING_COMPLETED, O.RING_REJECTED, O.GUN_STATE, O.GUN_OWNER, O.GUN_FLAGS,
  O.FLT_SRC_EVENTS, O.FLT_SRC_LAST_AT, O.FLT_LOG_LAST_SEQ, O.FLT_LOG_OVERWRITTEN, O.FLT_EVENT_LOST,
  O.FLT_FIRST_SEVERE, O.FLT_LOG_RECORD, O.PMC_VALUE, O.PMC_STATUS, F.out, F.sess, F.lockRenewed, F.groups, F.ring,
  F.pcieDma, F.pciePending, F.faults, F.clsx, F.pmc]

theorem Device.sessionClose_keeps {W : List Nat} {a : Device} {r : Req} {row : Nat} {d : Device} (hW : Sub Touch.sessionClose W) (h : Keeps W a d) :
    Keeps W a (Device.sessionClose r row d) := by
  unfold Device.sessionClose
  try dsimp only
  repeat' first
    | with_reducible exact h | with_reducible assumption
    | with_reducible refine Device.direct_keeps (subT (by decide +kernel) hW) ?_ ?_
    | with_reducible refine Device.sessionCloseCore_keeps (subT (by decide +kernel) hW) ?_ | intro _ _ hq | intro _

def Touch.proofLockoutEnd : List Nat :=
  [O.PMC_VALUE, O.PMC_STATUS, F.cyc, F.clk, F.out, F.lockoutUntil, F.pciePending, F.pmc]

theorem Device.proofLockoutEnd_keeps {W : List Nat} {a : Device} {t : Transport} {d : Device} (hW : Sub Touch.proofLockoutEnd W) (h : Keeps W a d) :
    Keeps W a (Device.proofLockoutEnd t d) := by
  unfold Device.proofLockoutEnd
  try dsimp only
  repeat' first
    | with_reducible exact h | with_reducible assumption
    | with_reducible refine Device.passTo_keeps (subT (by decide +kernel) hW) ?_
    | with_reducible refine Device.setLockouts_keeps (subT (by decide +kernel) hW) ?_ | intro _ _ hq | intro _
    | split

def Touch.sessionIdleExpiry : List Nat :=
  [O.LOCK, O.GROUP_OWNER, O.GROUP_STATE, O.GROUP_WRITES, O.GROUP_FAIL_ADDRESS, O.GROUP_FLAGS, O.SESSION_STATE,
  O.SESSION_ROLE, O.SESSION_CA, O.SESSION_ID, O.SESSION_LAST_COUNTER, O.RING_ENABLE, O.RING_HEAD, O.RING_TAIL,
  O.RING_STATE, O.RING_COMPLETED, O.RING_REJECTED, O.GUN_STATE, O.GUN_OWNER, O.GUN_FLAGS, O.FLT_SRC_EVENTS,
  O.FLT_SRC_LAST_AT, O.FLT_LOG_LAST_SEQ, O.FLT_LOG_OVERWRITTEN, O.FLT_EVENT_LOST, O.FLT_FIRST_SEVERE,
  O.FLT_LOG_RECORD, O.PMC_VALUE, O.PMC_STATUS, F.cyc, F.clk, F.out, F.sess, F.groups, F.ring, F.pcieDma,
  F.pciePending, F.faults, F.clsx, F.pmc]

theorem Device.sessionIdleExpiry_keeps {W : List Nat} {a : Device} {row : Nat} {d : Device} (hW : Sub Touch.sessionIdleExpiry W) (h : Keeps W a d) :
    Keeps W a (Device.sessionIdleExpiry row d) := by
  unfold Device.sessionIdleExpiry
  try dsimp only
  repeat' first
    | with_reducible exact h | with_reducible apply Keeps.ite
    | with_reducible refine Device.passTo_keeps (subT (by decide +kernel) hW) ?_
    | with_reducible refine Device.closeSession_keeps (subT (by decide +kernel) hW) ?_ | split

def Touch.debugSessionExpiry : List Nat :=
  Touch.sessionIdleExpiry

theorem Device.debugSessionExpiry_keeps {W : List Nat} {a : Device} {row : Nat} {d : Device} (hW : Sub Touch.debugSessionExpiry W) (h : Keeps W a d) :
    Keeps W a (Device.debugSessionExpiry row d) := by
  unfold Device.debugSessionExpiry
  try dsimp only
  repeat' first
    | with_reducible exact h | with_reducible apply Keeps.ite
    | with_reducible refine Device.passTo_keeps (subT (by decide +kernel) hW) ?_
    | with_reducible refine Device.closeSession_keeps (subT (by decide +kernel) hW) ?_ | split

end Sys2Proof.Machine
end

