-- ==== Sys2Proof/Laws/KeepsRing.lean ====
section
/-!
SUPPORT. The places that each operation of Machine/Ring.lean may change (Laws/Keeps.lean).
-/
set_option Elab.async false
set_option linter.all false
set_option linter.unusedTactic false
set_option linter.unreachableTactic false
set_option linter.style.longLine false
namespace Sys2Proof.Machine

def Touch.setRing : List Nat :=
  [F.ring]

theorem Device.setRing_keeps {W : List Nat} {a : Device} {d : Device} {x : RingX} (hW : Sub Touch.setRing W) (h : Keeps W a d) :
    Keeps W a (Device.setRing d x) := 
  h.same rfl rfl (fun k hk => by
    unfold sameField
    split <;> first | rfl | exact absurd (memF (by decide +kernel) hW) hk | trivial)

def Touch.setPins : List Nat :=
  [F.pins]

theorem Device.setPins_keeps {W : List Nat} {a : Device} {d : Device} {x : Pins} (hW : Sub Touch.setPins W) (h : Keeps W a d) :
    Keeps W a (Device.setPins d x) := 
  h.same rfl rfl (fun k hk => by
    unfold sameField
    split <;> first | rfl | exact absurd (memF (by decide +kernel) hW) hk | trivial)

def Touch.setRingHold : List Nat :=
  [F.out, F.pins]

theorem Device.setRingHold_keeps {W : List Nat} {a : Device} {d : Device} {l : Option Bool} (hW : Sub Touch.setRingHold W) (h : Keeps W a d) :
    Keeps W a (Device.setRingHold d l) := by
  unfold Device.setRingHold
  try dsimp only
  repeat' first
    | with_reducible exact h | with_reducible refine Device.setPins_keeps (subT (by decide +kernel) hW) ?_
    | with_reducible refine Device.emit_keeps (subT (by decide +kernel) hW) ?_

def Touch.setTime : List Nat :=
  [F.time]

theorem Device.setTime_keeps {W : List Nat} {a : Device} {d : Device} {x : TimeX} (hW : Sub Touch.setTime W) (h : Keeps W a d) :
    Keeps W a (Device.setTime d x) := 
  h.same rfl rfl (fun k hk => by
    unfold sameField
    split <;> first | rfl | exact absurd (memF (by decide +kernel) hW) hk | trivial)

def Touch.refreshSel : List Nat :=
  [O.TIME_UPSTREAM_SEL, F.time]

theorem Device.refreshSel_keeps {W : List Nat} {a : Device} {d : Device} (hW : Sub Touch.refreshSel W) (h : Keeps W a d) :
    Keeps W a (Device.refreshSel d) := by
  unfold Device.refreshSel
  try dsimp only
  repeat' first
    | with_reducible exact h | exact memT (by decide +kernel) hW | with_reducible apply Keeps.ite
    | with_reducible refine Device.wr_keeps ?_ ?_
    | with_reducible refine Device.setTime_keeps (subT (by decide +kernel) hW) ?_ | split

def Touch.refreshUpstream : List Nat :=
  [O.RING_UPSTREAM_PRESENT, O.TIME_UPSTREAM_SEL, F.time]

theorem Device.refreshUpstream_keeps {W : List Nat} {a : Device} {d : Device} (hW : Sub Touch.refreshUpstream W) (h : Keeps W a d) :
    Keeps W a (Device.refreshUpstream d) := by
  unfold Device.refreshUpstream
  try dsimp only
  repeat' first
    | with_reducible exact h | exact memT (by decide +kernel) hW | with_reducible apply Keeps.ite
    | with_reducible refine Device.wr_keeps ?_ ?_
    | with_reducible refine Device.refreshSel_keeps (subT (by decide +kernel) hW) ?_ | split

def Touch.takeIdleSet : List Nat :=
  [O.RING_UPSTREAM_SEEN, O.RING_UPSTREAM_PRESENT, O.TIME_UPSTREAM_SEL, F.ring, F.time]

theorem Device.takeIdleSet_keeps {W : List Nat} {a : Device} {d : Device} {place : Byte} {status : Byte} (hW : Sub Touch.takeIdleSet W) (h : Keeps W a d) :
    Keeps W a (Device.takeIdleSet d place status) := by
  unfold Device.takeIdleSet
  try dsimp only
  repeat' first
    | with_reducible exact h | exact memT (by decide +kernel) hW
    | with_reducible refine Device.setRing_keeps (subT (by decide +kernel) hW) ?_
    | with_reducible refine Device.wr_keeps ?_ ?_
    | with_reducible refine Device.refreshUpstream_keeps (subT (by decide +kernel) hW) ?_

def Touch.ringCharacterLock : List Nat :=
  [O.RING_UPSTREAM_SEEN, O.RING_UPSTREAM_PRESENT, O.RING_SYNC, O.TIME_UPSTREAM_SEL, F.ring, F.time]

theorem Device.ringCharacterLock_keeps {W : List Nat} {a : Device} {place : Byte} {status : Byte} {d : Device} (hW : Sub Touch.ringCharacterLock W) (h : Keeps W a d) :
    Keeps W a (Device.ringCharacterLock place status d) := by
  unfold Device.ringCharacterLock
  try dsimp only
  repeat' first
    | with_reducible exact h | exact memT (by decide +kernel) hW | with_reducible apply Keeps.ite
    | with_reducible refine Device.setRing_keeps (subT (by decide +kernel) hW) ?_
    | with_reducible refine Device.wr_keeps ?_ ?_
    | with_reducible refine Device.takeIdleSet_keeps (subT (by decide +kernel) hW) ?_ | split

def Touch.ringLockLoss : List Nat :=
  [O.RING_UPSTREAM_PRESENT, O.RING_SYNC, O.TIME_UPSTREAM_SEL, F.out, F.pins, F.time]

theorem Device.ringLockLoss_keeps {W : List Nat} {a : Device} {d : Device} (hW : Sub Touch.ringLockLoss W) (h : Keeps W a d) :
    Keeps W a (Device.ringLockLoss d) := by
  unfold Device.ringLockLoss
  try dsimp only
  repeat' first
    | with_reducible exact h | exact memT (by decide +kernel) hW | with_reducible apply Keeps.ite
    | with_reducible refine Device.wr_keeps ?_ ?_
    | with_reducible refine Device.refreshUpstream_keeps (subT (by decide +kernel) hW) ?_
    | with_reducible refine Device.setRingHold_keeps (subT (by decide +kernel) hW) ?_ | split

def Touch.ringIdleSetRx : List Nat :=
  Touch.takeIdleSet

theorem Device.ringIdleSetRx_keeps {W : List Nat} {a : Device} {_position : Byte} {place : Byte} {status : Byte} {d : Device} (hW : Sub Touch.ringIdleSetRx W) (h : Keeps W a d) :
    Keeps W a (Device.ringIdleSetRx _position place status d) := by
  unfold Device.ringIdleSetRx
  try dsimp only
  repeat' first
    | with_reducible exact h | with_reducible apply Keeps.ite
    | with_reducible refine Device.takeIdleSet_keeps (subT (by decide +kernel) hW) ?_ | split

def Touch.bufferDuring : List Nat :=
  [F.ring]

theorem Device.bufferDuring_keeps {W : List Nat} {a : Device} {d : Device} {m : RingMsg} (hW : Sub Touch.bufferDuring W) (h : Keeps W a d) :
    Keeps W a (Device.bufferDuring d m) := by
  unfold Device.bufferDuring
  try dsimp only
  repeat' first
    | with_reducible exact h | with_reducible apply Keeps.ite
    | with_reducible refine Device.setRing_keeps (subT (by decide +kernel) hW) ?_ | split

def Touch.forward : List Nat :=
  [F.out, F.ring]

theorem Device.forward_keeps {W : List Nat} {a : Device} {d : Device} {m : RingMsg} (hW : Sub Touch.forward W) (h : Keeps W a d) :
    Keeps W a (Device.forward d m) := by
  unfold Device.forward
  try dsimp only
  repeat' first
    | with_reducible exact h | with_reducible refine Device.bufferDuring_keeps (subT (by decide +kernel) hW) ?_
    | with_reducible refine Device.emit_keeps (subT (by decide +kernel) hW) ?_

def Touch.ringAccept : List Nat :=
  [O.RING_CRC_ERRORS, O.RING_BAD_MESSAGES]

theorem Device.ringAccept_keeps {W : List Nat} {a : Device} {d : Device} {m : RingMsg} (hW : Sub Touch.ringAccept W) (h : Keeps W a d) :
    Keeps W a (Device.ringAccept d m).2 := by
  unfold Device.ringAccept
  try dsimp only
  repeat' first
    | with_reducible exact h | exact memT (by decide +kernel) hW | with_reducible apply Keeps.ite
    | with_reducible refine Device.inc64_keeps ?_ ?_ | with_reducible apply Keeps.ite2 | split

def Touch.ringMessageInsert : List Nat :=
  [O.PMC_VALUE, O.PMC_STATUS, F.cyc, F.clk, F.out, F.ring, F.pciePending, F.pmc]

theorem Device.ringMessageInsert_keeps {W : List Nat} {a : Device} {d : Device} (hW : Sub Touch.ringMessageInsert W) (h : Keeps W a d) :
    Keeps W a (Device.ringMessageInsert d) := by
  unfold Device.ringMessageInsert
  try dsimp only
  repeat' first
    | with_reducible exact h | with_reducible assumption | with_reducible apply Keeps.ite
    | with_reducible refine Device.passTo_keeps (subT (by decide +kernel) hW) ?_
    | with_reducible refine Device.setRing_keeps (subT (by decide +kernel) hW) ?_
    | with_reducible refine Device.emit_keeps (subT (by decide +kernel) hW) ?_ | split

def Touch.ringHoldAssert : List Nat :=
  [O.PMC_VALUE, O.PMC_STATUS, F.cyc, F.clk, F.out, F.ring, F.pciePending, F.pins, F.pmc]

theorem Device.ringHoldAssert_keeps {W : List Nat} {a : Device} {d : Device} (hW : Sub Touch.ringHoldAssert W) (h : Keeps W a d) :
    Keeps W a (Device.ringHoldAssert d) := by
  unfold Device.ringHoldAssert
  try dsimp only
  repeat' first
    | with_reducible exact h | with_reducible apply Keeps.ite
    | with_reducible refine Device.passTo_keeps (subT (by decide +kernel) hW) ?_
    | with_reducible refine Device.setRing_keeps (subT (by decide +kernel) hW) ?_
    | with_reducible refine Device.setRingHold_keeps (subT (by decide +kernel) hW) ?_ | split

def Touch.join : List Nat :=
  Touch.ringMessageInsert

theorem Device.join_keeps {W : List Nat} {a : Device} {d : Device} (hW : Sub Touch.join W) (h : Keeps W a d) :
    Keeps W a (Device.join d) := by
  unfold Device.join
  try dsimp only
  repeat' first
    | with_reducible exact h | with_reducible apply Keeps.ite
    | with_reducible refine Device.passTo_keeps (subT (by decide +kernel) hW) ?_
    | with_reducible refine Device.setRing_keeps (subT (by decide +kernel) hW) ?_
    | with_reducible refine Device.ringSend_keeps (subT (by decide +kernel) hW) ?_ | split

def Touch.takeAddress : List Nat :=
  [O.RING_POSITION, O.LOCK, O.GROUP_OWNER, O.GROUP_STATE, O.GROUP_WRITES, O.GROUP_FAIL_ADDRESS, O.GROUP_FLAGS,
  O.SESSION_STATE, O.SESSION_ROLE, O.SESSION_CA, O.SESSION_ID, O.SESSION_LAST_COUNTER, O.RING_ENABLE, O.RING_HEAD,
  O.RING_TAIL, O.RING_STATE, O.RING_COMPLETED, O.RING_REJECTED, O.GUN_STATE, O.GUN_OWNER, O.GUN_FLAGS,
  O.FLT_SRC_EVENTS, O.FLT_SRC_LAST_AT, O.FLT_LOG_LAST_SEQ, O.FLT_LOG_OVERWRITTEN, O.FLT_EVENT_LOST,
  O.FLT_FIRST_SEVERE, O.FLT_LOG_RECORD, O.PMC_VALUE, O.PMC_STATUS, F.out, F.sess, F.groups, F.ring, F.pcieDma,
  F.pciePending, F.faults, F.clsx, F.pmc]

theorem Device.takeAddress_keeps {W : List Nat} {a : Device} {d : Device} {m : RingMsg} (hW : Sub Touch.takeAddress W) (h : Keeps W a d) :
    Keeps W a (Device.takeAddress d m) := by
  unfold Device.takeAddress
  try dsimp only
  repeat' first
    | with_reducible exact h | exact memT (by decide +kernel) hW | with_reducible apply Keeps.ite
    | with_reducible refine Device.wr_keeps ?_ ?_
    | with_reducible refine Device.closeSessions_keeps (subT (by decide +kernel) hW) ?_
    | with_reducible refine Device.forward_keeps (subT (by decide +kernel) hW) ?_ | split

def Touch.ringArrive : List Nat :=
  [O.RING_POSITION, O.RING_CRC_ERRORS, O.RING_RETURNED, O.RING_BAD_MESSAGES, O.LOCK, O.GROUP_OWNER, O.GROUP_STATE,
  O.GROUP_WRITES, O.GROUP_FAIL_ADDRESS, O.GROUP_FLAGS, O.SESSION_STATE, O.SESSION_ROLE, O.SESSION_CA, O.SESSION_ID,
  O.SESSION_LAST_COUNTER, O.RING_ENABLE, O.RING_HEAD, O.RING_TAIL, O.RING_STATE, O.RING_COMPLETED, O.RING_REJECTED,
  O.GUN_STATE, O.GUN_OWNER, O.GUN_FLAGS, O.FLT_SRC_EVENTS, O.FLT_SRC_LAST_AT, O.FLT_LOG_LAST_SEQ,
  O.FLT_LOG_OVERWRITTEN, O.FLT_EVENT_LOST, O.FLT_FIRST_SEVERE, O.FLT_LOG_RECORD, O.PMC_VALUE, O.PMC_STATUS, F.out,
  F.sess, F.groups, F.ring, F.pcieDma, F.pciePending, F.faults, F.clsx, F.pmc]

theorem Device.ringArrive_keeps {W : List Nat} {a : Device} {d : Device} {m : RingMsg} (hW : Sub Touch.ringArrive W) (h : Keeps W a d) :
    Keeps W a (Device.ringArrive d m) := by
  unfold Device.ringArrive
  try dsimp only
  repeat' first
    | with_reducible exact h | exact memT (by decide +kernel) hW | with_reducible apply Keeps.ite
    | with_reducible refine Device.ringAccept_keeps (subT (by decide +kernel) hW) ?_
    | with_reducible refine Device.takeAddress_keeps (subT (by decide +kernel) hW) ?_
    | with_reducible refine Device.forward_keeps (subT (by decide +kernel) hW) ?_
    | with_reducible refine Device.inc64_keeps ?_ ?_ | with_reducible apply Keeps.ite2 | split

def Touch.ringMessageForward : List Nat :=
  Touch.ringArrive

theorem Device.ringMessageForward_keeps {W : List Nat} {a : Device} {m : RingMsg} {d : Device} (hW : Sub Touch.ringMessageForward W) (h : Keeps W a d) :
    Keeps W a (Device.ringMessageForward m d) := by
  unfold Device.ringMessageForward
  try dsimp only
  repeat' first
    | with_reducible exact h | with_reducible refine Device.ringArrive_keeps (subT (by decide +kernel) hW) ?_

def Touch.address : List Nat :=
  Touch.ringArrive

theorem Device.address_keeps {W : List Nat} {a : Device} {m : RingMsg} {d : Device} (hW : Sub Touch.address W) (h : Keeps W a d) :
    Keeps W a (Device.address m d) := by
  unfold Device.address
  try dsimp only
  repeat' first
    | with_reducible exact h | with_reducible refine Device.ringArrive_keeps (subT (by decide +kernel) hW) ?_

def Touch.ringAnswer : List Nat :=
  [F.ring]

theorem Device.ringAnswer_keeps {W : List Nat} {a : Device} {d : Device} {m : RingMsg} {t : Nat} {payload : Bytes} (hW : Sub Touch.ringAnswer W) (h : Keeps W a d) :
    Keeps W a (Device.ringAnswer d m t payload) := by
  unfold Device.ringAnswer
  try dsimp only
  repeat' first
    | with_reducible exact h | with_reducible refine Device.ringSend_keeps (subT (by decide +kernel) hW) ?_

def Touch.ringOpen : List Nat :=
  [O.RING_POSITION, O.RING_CRC_ERRORS, O.RING_RETURNED, O.RING_BAD_MESSAGES, O.LOCK, O.GROUP_OWNER, O.GROUP_STATE,
  O.GROUP_WRITES, O.GROUP_FAIL_ADDRESS, O.GROUP_FLAGS, O.SESSION_STATE, O.SESSION_ROLE, O.SESSION_CA, O.SESSION_ID,
  O.SESSION_LAST_COUNTER, O.ROLE_ROOT, O.RING_ENABLE, O.RING_HEAD, O.RING_TAIL, O.RING_STATE, O.RING_COMPLETED,
  O.RING_REJECTED, O.INJECT_REFUSED, O.MODE, O.MODE_CMD, O.MODE_ENTERED_AT, O.MODE_CAUSE, O.RUNAHEAD_FALSE_STARTS,
  O.RUNAHEAD_WASTED_CELLS, O.BANK_DISCARDS, O.DBG_CERT_SCOPE, O.DBG_CERT_EXPIRES, O.VAULT_STATE, O.VAULT_HANDLE,
  O.VAULT_LEVEL, O.VAULT_PURPOSE, O.VAULT_KEY_BITS, O.VAULT_COUNTED, O.VAULT_USES_LEFT, O.VAULT_ORIGIN,
  O.VAULT_PARENT, O.VAULT_CREATED_AT, O.VAULT_ARG_KEY, O.VAULT_CMD, O.VAULT_RESULT_HANDLE, O.VAULT_CHECK_FAILS,
  O.DRBG_STATE, O.LA_CONTEXTS_BUSY, O.GUN_STATE, O.GUN_OWNER, O.GUN_FLAGS, O.PORT_TX_FRAMES, O.PORT_TX_BYTES,
  O.PORT_TX_TRUNCATED, O.PORT_FC_TX_XOFF_C0, O.PORT_FC_TX_XOFF_C1, O.PORT_FC_TX_XOFF_C2, O.PORT_FC_TX_XOFF_C3,
  O.PORT_FC_TX_XOFF_C4, O.PORT_FC_TX_XOFF_C5, O.PORT_FC_TX_XOFF_C6, O.PORT_FC_TX_XOFF_C7, O.SC_STATUS, O.SA_STATE,
  O.SA_KEK, O.SA_SLOT, O.SA_FLAGS, O.SA_CHANGED_AT, O.SCSA_SLOT0_ROW, O.SCSA_SLOT1_ROW, O.SCSA_IN_FORCE_AN,
  O.SCSA_ZONE_OPEN, O.SA_STAT_PKTS, O.SA_STAT_OCTETS, O.SA_STAT_PKTS_ENCRYPTED, O.SA_STAT_NOT_VALID,
  O.SA_STAT_COMMIT_LATE, O.SA_STAT_TX_LOST, O.CALLROOM_OCCUPANCY, O.CALLROOM_PEAK, O.QUEUE_OCCUPANCY, O.QUEUE_NODE,
  O.BUFP_USED_CELLS, O.BUF_HEADROOM_USED, O.FLT_SRC_CLASS, O.FLT_SRC_EVENTS, O.FLT_SRC_LAST_AT, O.FLT_STATUS,
  O.FLT_FATAL_SINCE_BOOT, O.FLT_LOG_LAST_SEQ, O.FLT_LOG_OVERWRITTEN, O.FLT_EVENT_LOST, O.FLT_FIRST_SEVERE,
  O.FLT_LOG_RECORD, O.PMC_VALUE, O.PMC_STATUS, O.PEER_KEY, F.mode, F.draws, F.out, F.sess, F.groups, F.ring,
  F.pcieDma, F.pciePending, F.faults, F.vault, F.checkKey, F.storeKey, F.keyTests, F.keyRestart, F.keyScrub,
  F.saRecs, F.saCtxs, F.banks, F.pipe, F.clsx, F.queues, F.nodes, F.pairs, F.ports, F.laps, F.pmc, F.lc, F.la,
  F.keyScrubFrom, F.keyReseed, F.keyRequests]

theorem Device.ringOpen_keeps {W : List Nat} {a : Device} {m : RingMsg} {d : Device} (hW : Sub Touch.ringOpen W) (h : Keeps W a d) :
    Keeps W a (Device.ringOpen m d) := by
  unfold Device.ringOpen
  try dsimp only
  repeat' first
    | with_reducible exact h | with_reducible apply Keeps.ite
    | with_reducible refine Device.ringArrive_keeps (subT (by decide +kernel) hW) ?_
    | with_reducible refine Device.ringAccept_keeps (subT (by decide +kernel) hW) ?_
    | with_reducible refine Device.ringAnswer_keeps (subT (by decide +kernel) hW) ?_
    | with_reducible refine Device.openSession_keeps (subT (by decide +kernel) hW) ?_
    | with_reducible apply Keeps.ite2 | split

def Touch.ringProve : List Nat :=
  [O.RING_POSITION, O.RING_CRC_ERRORS, O.RING_RETURNED, O.RING_BAD_MESSAGES, O.LOCK, O.GROUP_OWNER, O.GROUP_STATE,
  O.GROUP_WRITES, O.GROUP_FAIL_ADDRESS, O.GROUP_FLAGS, O.SESSION_STATE, O.SESSION_ROLE, O.SESSION_CA, O.SESSION_ID,
  O.SESSION_LAST_COUNTER, O.RING_ENABLE, O.RING_HEAD, O.RING_TAIL, O.RING_STATE, O.RING_COMPLETED, O.RING_REJECTED,
  O.DBG_CERT_SCOPE, O.DBG_CERT_EXPIRES, O.GUN_STATE, O.GUN_OWNER, O.GUN_FLAGS, O.FLT_SRC_EVENTS, O.FLT_SRC_LAST_AT,
  O.FLT_LOG_LAST_SEQ, O.FLT_LOG_OVERWRITTEN, O.FLT_EVENT_LOST, O.FLT_FIRST_SEVERE, O.FLT_LOG_RECORD, O.PMC_VALUE,
  O.PMC_STATUS, F.out, F.sess, F.proofFails, F.lockoutUntil, F.groups, F.ring, F.pcieDma, F.pciePending, F.faults,
  F.clsx, F.pmc]

theorem Device.ringProve_keeps {W : List Nat} {a : Device} {m : RingMsg} {d : Device} (hW : Sub Touch.ringProve W) (h : Keeps W a d) :
    Keeps W a (Device.ringProve m d) := by
  unfold Device.ringProve
  try dsimp only
  repeat' first
    | with_reducible exact h | with_reducible apply Keeps.ite
    | with_reducible refine Device.ringArrive_keeps (subT (by decide +kernel) hW) ?_
    | with_reducible refine Device.ringAccept_keeps (subT (by decide +kernel) hW) ?_
    | with_reducible refine Device.ringAnswer_keeps (subT (by decide +kernel) hW) ?_
    | with_reducible refine Device.proveSession_keeps (subT (by decide +kernel) hW) ?_
    | with_reducible apply Keeps.ite2 | split

def Touch.proveTimeout : List Nat :=
  [O.LOCK, O.GROUP_OWNER, O.GROUP_STATE, O.GROUP_WRITES, O.GROUP_FAIL_ADDRESS, O.GROUP_FLAGS, O.SESSION_STATE,
  O.SESSION_ROLE, O.SESSION_CA, O.SESSION_ID, O.SESSION_LAST_COUNTER, O.RING_ENABLE, O.RING_HEAD, O.RING_TAIL,
  O.RING_STATE, O.RING_COMPLETED, O.RING_REJECTED, O.GUN_STATE, O.GUN_OWNER, O.GUN_FLAGS, O.FLT_SRC_EVENTS,
  O.FLT_SRC_LAST_AT, O.FLT_LOG_LAST_SEQ, O.FLT_LOG_OVERWRITTEN, O.FLT_EVENT_LOST, O.FLT_FIRST_SEVERE,
  O.FLT_LOG_RECORD, O.PMC_VALUE, O.PMC_STATUS, F.cyc, F.clk, F.out, F.sess, F.proofFails, F.lockoutUntil, F.groups,
  F.ring, F.pcieDma, F.pciePending, F.faults, F.clsx, F.pmc]

theorem Device.proveTimeout_keeps {W : List Nat} {a : Device} {row : Nat} {d : Device} (hW : Sub Touch.proveTimeout W) (h : Keeps W a d) :
    Keeps W a (Device.proveTimeout row d) := by
  unfold Device.proveTimeout
  try dsimp only
  repeat' first
    | with_reducible exact h | with_reducible apply Keeps.ite
    | with_reducible refine Device.passTo_keeps (subT (by decide +kernel) hW) ?_
    | with_reducible refine Device.freeOpening_keeps (subT (by decide +kernel) hW) ?_
    | with_reducible refine Device.proofFailed_keeps (subT (by decide +kernel) hW) ?_
    | with_reducible refine Device.setSess_keeps (subT (by decide +kernel) hW) ?_
    | with_reducible refine Device.ringSend_keeps (subT (by decide +kernel) hW) ?_ | split

end Sys2Proof.Machine
end

