-- ==== Sys2Proof/Laws/KeepsPcie.lean ====
section
/-!
SUPPORT. The places that each operation of Machine/Pcie.lean may change (Laws/Keeps.lean).
-/
set_option Elab.async false
set_option linter.all false
set_option linter.unusedTactic false
set_option linter.unreachableTactic false
set_option linter.style.longLine false
namespace Sys2Proof.Machine

def Touch.setPcie : List Nat :=
  [F.pcieWindows, F.pcieMasked, F.pciePending, F.pcieVectors, F.pcieMsixOn, F.pcieFuncMask]

theorem Device.setPcie_keeps {W : List Nat} {a d : Device} {x : PcieX} (hW : Sub Touch.setPcie W) (h : Keeps W a d)
    (hx : x.dma = d.pcie.dma) (hy : x.lastServed = d.pcie.lastServed) : Keeps W a (d.setPcie x) :=
  h.same rfl rfl (fun k hk => by
    unfold sameField
    split <;> first | exact hx | exact hy | exact absurd (memF (by decide +kernel) hW) hk | rfl | trivial)

def Touch.pcieLinkUp : List Nat :=
  [O.PCIE_LINK_WIDTH, O.PCIE_LINK_SPEED]

theorem Device.pcieLinkUp_keeps {W : List Nat} {a : Device} {width : Nat} {speed : Nat} {d : Device} (hW : Sub Touch.pcieLinkUp W) (h : Keeps W a d) :
    Keeps W a (Device.pcieLinkUp width speed d) := by
  unfold Device.pcieLinkUp
  try dsimp only
  repeat' first
    | with_reducible exact h | exact memT (by decide +kernel) hW | with_reducible apply Keeps.ite
    | with_reducible refine Device.wr_keeps ?_ ?_ | split

def Touch.dmaForget : List Nat :=
  [F.pcieDma]

theorem Device.dmaForget_keeps {W : List Nat} {a : Device} {d : Device} {n : Nat} (hW : Sub Touch.dmaForget W) (h : Keeps W a d) :
    Keeps W a (Device.dmaForget d n) := by
  unfold Device.dmaForget
  try dsimp only
  repeat' first
    | with_reducible exact h | with_reducible refine Device.setTaken_keeps (subT (by decide +kernel) hW) ?_

def Touch.hostPortReset : List Nat :=
  [O.LOCK, O.GROUP_OWNER, O.GROUP_STATE, O.GROUP_WRITES, O.GROUP_FAIL_ADDRESS, O.GROUP_FLAGS, O.SESSION_STATE,
  O.SESSION_ROLE, O.SESSION_CA, O.SESSION_ID, O.SESSION_LAST_COUNTER, O.RING_ENABLE, O.RING_HEAD, O.RING_TAIL,
  O.RING_STATE, O.RING_COMPLETED, O.RING_REJECTED, O.VAULT_CMD, O.LA_CONTEXTS_BUSY, O.GUN_STATE, O.GUN_OWNER,
  O.GUN_FLAGS, O.FLT_SRC_EVENTS, O.FLT_SRC_LAST_AT, O.FLT_LOG_LAST_SEQ, O.FLT_LOG_OVERWRITTEN, O.FLT_EVENT_LOST,
  O.FLT_FIRST_SEVERE, O.FLT_LOG_RECORD, O.PMC_VALUE, O.PMC_STATUS, F.out, F.sess, F.groups, F.ring, F.pcieWindows,
  F.pcieDma, F.pcieMasked, F.pciePending, F.faults, F.clsx, F.pmc, F.la, F.pcieVectors, F.pcieMsixOn,
  F.pcieFuncMask]

theorem Device.hostPortReset_keeps {W : List Nat} {a : Device} {d : Device} (hW : Sub Touch.hostPortReset W) (h : Keeps W a d) :
    Keeps W a (Device.hostPortReset d) := by
  unfold Device.hostPortReset
  try dsimp only
  repeat' first
    | with_reducible exact h | with_reducible assumption | exact memT (by decide +kernel) hW
    | with_reducible apply Keeps.foldl | with_reducible refine Device.jobGone_keeps (subT (by decide +kernel) hW) ?_
    | with_reducible refine Device.dmaForget_keeps (subT (by decide +kernel) hW) ?_
    | with_reducible refine Device.setLa_keeps (subT (by decide +kernel) hW) ?_
    | with_reducible refine Device.wr_keeps ?_ ?_
    | with_reducible refine Device.dmaStop_keeps (subT (by decide +kernel) hW) ?_
    | with_reducible refine Device.closeSessions_keeps (subT (by decide +kernel) hW) ?_
    | with_reducible refine Device.setPcie_keeps (subT (by decide +kernel) hW) ?_ rfl rfl | intro _ _ hq | intro _

def Touch.pciePortReset : List Nat :=
  [O.LOCK, O.GROUP_OWNER, O.GROUP_STATE, O.GROUP_WRITES, O.GROUP_FAIL_ADDRESS, O.GROUP_FLAGS, O.SESSION_STATE,
  O.SESSION_ROLE, O.SESSION_CA, O.SESSION_ID, O.SESSION_LAST_COUNTER, O.PCIE_LINK_WIDTH, O.PCIE_LINK_SPEED,
  O.RING_ENABLE, O.RING_HEAD, O.RING_TAIL, O.RING_STATE, O.RING_COMPLETED, O.RING_REJECTED, O.VAULT_CMD,
  O.LA_CONTEXTS_BUSY, O.GUN_STATE, O.GUN_OWNER, O.GUN_FLAGS, O.FLT_SRC_EVENTS, O.FLT_SRC_LAST_AT,
  O.FLT_LOG_LAST_SEQ, O.FLT_LOG_OVERWRITTEN, O.FLT_EVENT_LOST, O.FLT_FIRST_SEVERE, O.FLT_LOG_RECORD, O.PMC_VALUE,
  O.PMC_STATUS, F.out, F.sess, F.groups, F.ring, F.pcieWindows, F.pcieDma, F.pcieMasked, F.pciePending, F.faults,
  F.clsx, F.pmc, F.la, F.pcieVectors, F.pcieMsixOn, F.pcieFuncMask]

theorem Device.pciePortReset_keeps {W : List Nat} {a : Device} {c : PortResetCause} {d : Device} (hW : Sub Touch.pciePortReset W) (h : Keeps W a d) :
    Keeps W a (Device.pciePortReset c d) := by
  unfold Device.pciePortReset
  try dsimp only
  repeat' first
    | with_reducible exact h | exact memT (by decide +kernel) hW | with_reducible apply Keeps.ite
    | with_reducible refine Device.hostPortReset_keeps (subT (by decide +kernel) hW) ?_
    | with_reducible refine Device.wr_keeps ?_ ?_ | split

def Touch.windowSubmit : List Nat :=
  [F.pcieWindows]

theorem Device.windowSubmit_keeps {W : List Nat} {a : Device} {d : Device} {w : Nat} {address : Nat} {session : Nat} {length : Nat} {op : Nat} {value : Bytes} (hW : Sub Touch.windowSubmit W) (h : Keeps W a d) :
    Keeps W a (Device.windowSubmit d w address session length op value) := by
  unfold Device.windowSubmit
  try dsimp only
  repeat' first
    | with_reducible exact h | with_reducible refine Device.setWin_keeps (subT (by decide +kernel) hW) ?_

def Touch.windowDone : List Nat :=
  [F.out, F.pcieWindows, F.pciePending]

theorem Device.windowDone_keeps {W : List Nat} {a : Device} {d : Device} {w : Nat} {abort : Nat} {value : Bytes} (hW : Sub Touch.windowDone W) (h : Keeps W a d) :
    Keeps W a (Device.windowDone d w abort value) := by
  unfold Device.windowDone
  try dsimp only
  repeat' first
    | with_reducible exact h | with_reducible refine Device.setWin_keeps (subT (by decide +kernel) hW) ?_
    | with_reducible refine Device.msix_keeps (subT (by decide +kernel) hW) ?_

def Touch.pcieWindowOpen : List Nat :=
  [O.LOCK, O.GROUP_OWNER, O.GROUP_STATE, O.GROUP_WRITES, O.GROUP_FAIL_ADDRESS, O.GROUP_FLAGS, O.SESSION_STATE,
  O.SESSION_ROLE, O.SESSION_CA, O.SESSION_ID, O.SESSION_LAST_COUNTER, O.ROLE_ROOT, O.RING_ENABLE, O.RING_HEAD,
  O.RING_TAIL, O.RING_STATE, O.RING_COMPLETED, O.RING_REJECTED, O.INJECT_REFUSED, O.MODE, O.MODE_CMD,
  O.MODE_ENTERED_AT, O.MODE_CAUSE, O.RUNAHEAD_FALSE_STARTS, O.RUNAHEAD_WASTED_CELLS, O.BANK_DISCARDS,
  O.DBG_CERT_SCOPE, O.DBG_CERT_EXPIRES, O.VAULT_STATE, O.VAULT_HANDLE, O.VAULT_LEVEL, O.VAULT_PURPOSE,
  O.VAULT_KEY_BITS, O.VAULT_COUNTED, O.VAULT_USES_LEFT, O.VAULT_ORIGIN, O.VAULT_PARENT, O.VAULT_CREATED_AT,
  O.VAULT_ARG_KEY, O.VAULT_CMD, O.VAULT_RESULT_HANDLE, O.VAULT_CHECK_FAILS, O.DRBG_STATE, O.LA_CONTEXTS_BUSY,
  O.GUN_STATE, O.GUN_OWNER, O.GUN_FLAGS, O.PORT_TX_FRAMES, O.PORT_TX_BYTES, O.PORT_TX_TRUNCATED,
  O.PORT_FC_TX_XOFF_C0, O.PORT_FC_TX_XOFF_C1, O.PORT_FC_TX_XOFF_C2, O.PORT_FC_TX_XOFF_C3, O.PORT_FC_TX_XOFF_C4,
  O.PORT_FC_TX_XOFF_C5, O.PORT_FC_TX_XOFF_C6, O.PORT_FC_TX_XOFF_C7, O.SC_STATUS, O.SA_STATE, O.SA_KEK, O.SA_SLOT,
  O.SA_FLAGS, O.SA_CHANGED_AT, O.SCSA_SLOT0_ROW, O.SCSA_SLOT1_ROW, O.SCSA_IN_FORCE_AN, O.SCSA_ZONE_OPEN,
  O.SA_STAT_PKTS, O.SA_STAT_OCTETS, O.SA_STAT_PKTS_ENCRYPTED, O.SA_STAT_NOT_VALID, O.SA_STAT_COMMIT_LATE,
  O.SA_STAT_TX_LOST, O.CALLROOM_OCCUPANCY, O.CALLROOM_PEAK, O.QUEUE_OCCUPANCY, O.QUEUE_NODE, O.BUFP_USED_CELLS,
  O.BUF_HEADROOM_USED, O.FLT_SRC_CLASS, O.FLT_SRC_EVENTS, O.FLT_SRC_LAST_AT, O.FLT_STATUS, O.FLT_FATAL_SINCE_BOOT,
  O.FLT_LOG_LAST_SEQ, O.FLT_LOG_OVERWRITTEN, O.FLT_EVENT_LOST, O.FLT_FIRST_SEVERE, O.FLT_LOG_RECORD, O.PMC_VALUE,
  O.PMC_STATUS, O.PEER_KEY, F.mode, F.draws, F.out, F.sess, F.groups, F.ring, F.pcieWindows, F.pcieDma,
  F.pciePending, F.faults, F.vault, F.checkKey, F.storeKey, F.keyTests, F.keyRestart, F.keyScrub, F.saRecs,
  F.saCtxs, F.banks, F.pipe, F.clsx, F.queues, F.nodes, F.pairs, F.ports, F.laps, F.pmc, F.lc, F.la,
  F.keyScrubFrom, F.keyReseed, F.keyRequests]

theorem Device.pcieWindowOpen_keeps {W : List Nat} {a : Device} {w : Nat} {payload : Bytes} {d : Device} (hW : Sub Touch.pcieWindowOpen W) (h : Keeps W a d) :
    Keeps W a (Device.pcieWindowOpen w payload d) := by
  unfold Device.pcieWindowOpen
  try dsimp only
  repeat' first
    | with_reducible exact h | with_reducible apply Keeps.ite
    | with_reducible refine Device.windowSubmit_keeps (subT (by decide +kernel) hW) ?_
    | with_reducible refine Device.windowDone_keeps (subT (by decide +kernel) hW) ?_
    | with_reducible refine Device.openSession_keeps (subT (by decide +kernel) hW) ?_
    | with_reducible apply Keeps.ite2 | split

def Touch.pcieWindowProve : List Nat :=
  [O.LOCK, O.GROUP_OWNER, O.GROUP_STATE, O.GROUP_WRITES, O.GROUP_FAIL_ADDRESS, O.GROUP_FLAGS, O.SESSION_STATE,
  O.SESSION_ROLE, O.SESSION_CA, O.SESSION_ID, O.SESSION_LAST_COUNTER, O.RING_ENABLE, O.RING_HEAD, O.RING_TAIL,
  O.RING_STATE, O.RING_COMPLETED, O.RING_REJECTED, O.DBG_CERT_SCOPE, O.DBG_CERT_EXPIRES, O.GUN_STATE, O.GUN_OWNER,
  O.GUN_FLAGS, O.FLT_SRC_EVENTS, O.FLT_SRC_LAST_AT, O.FLT_LOG_LAST_SEQ, O.FLT_LOG_OVERWRITTEN, O.FLT_EVENT_LOST,
  O.FLT_FIRST_SEVERE, O.FLT_LOG_RECORD, O.PMC_VALUE, O.PMC_STATUS, F.out, F.sess, F.proofFails, F.lockoutUntil,
  F.groups, F.ring, F.pcieWindows, F.pcieDma, F.pciePending, F.faults, F.clsx, F.pmc]

theorem Device.pcieWindowProve_keeps {W : List Nat} {a : Device} {w : Nat} {payload : Bytes} {d : Device} (hW : Sub Touch.pcieWindowProve W) (h : Keeps W a d) :
    Keeps W a (Device.pcieWindowProve w payload d) := by
  unfold Device.pcieWindowProve
  try dsimp only
  repeat' first
    | with_reducible exact h | with_reducible apply Keeps.ite
    | with_reducible refine Device.windowSubmit_keeps (subT (by decide +kernel) hW) ?_
    | with_reducible refine Device.windowDone_keeps (subT (by decide +kernel) hW) ?_
    | with_reducible refine Device.proveSession_keeps (subT (by decide +kernel) hW) ?_
    | with_reducible apply Keeps.ite2 | split

def Touch.pcieWindowClose : List Nat :=
  [O.LOCK, O.GROUP_OWNER, O.GROUP_STATE, O.GROUP_WRITES, O.GROUP_FAIL_ADDRESS, O.GROUP_FLAGS, O.SESSION_STATE,
  O.SESSION_ROLE, O.SESSION_CA, O.SESSION_ID, O.SESSION_LAST_COUNTER, O.RING_ENABLE, O.RING_HEAD, O.RING_TAIL,
  O.RING_STATE, O.RING_COMPLETED, O.RING_REJECTED, O.GUN_STATE, O.GUN_OWNER, O.GUN_FLAGS, O.FLT_SRC_EVENTS,
  O.FLT_SRC_LAST_AT, O.FLT_LOG_LAST_SEQ, O.FLT_LOG_OVERWRITTEN, O.FLT_EVENT_LOST, O.FLT_FIRST_SEVERE,
  O.FLT_LOG_RECORD, O.PMC_VALUE, O.PMC_STATUS, F.out, F.sess, F.groups, F.ring, F.pcieWindows, F.pcieDma,
  F.pciePending, F.faults, F.clsx, F.pmc]

theorem Device.pcieWindowClose_keeps {W : List Nat} {a : Device} {w : Nat} {session : Nat} {d : Device} (hW : Sub Touch.pcieWindowClose W) (h : Keeps W a d) :
    Keeps W a (Device.pcieWindowClose w session d) := by
  unfold Device.pcieWindowClose
  try dsimp only
  repeat' first
    | with_reducible exact h | with_reducible apply Keeps.ite
    | with_reducible refine Device.windowSubmit_keeps (subT (by decide +kernel) hW) ?_
    | with_reducible refine Device.closeOn_keeps (subT (by decide +kernel) hW) ?_
    | with_reducible refine Device.windowDone_keeps (subT (by decide +kernel) hW) ?_
    | with_reducible apply Keeps.ite2 | split

def Touch.ringStart : List Nat :=
  [O.RING_ENABLE, O.RING_HEAD, O.RING_TAIL, O.RING_STATE, F.pcieDma]

theorem Device.ringStart_keeps {W : List Nat} {a : Device} {d : Device} {n : Nat} (hW : Sub Touch.ringStart W) (h : Keeps W a d) :
    Keeps W a (Device.ringStart d n) := by
  unfold Device.ringStart
  try dsimp only
  repeat' first
    | with_reducible exact h | exact memT (by decide +kernel) hW | with_reducible apply Keeps.ite
    | with_reducible refine Device.wr_keeps ?_ ?_
    | with_reducible refine Device.setDma_keeps (subT (by decide +kernel) hW) ?_ | split

def Touch.doorbell : List Nat :=
  [O.RING_TAIL]

theorem Device.doorbell_keeps {W : List Nat} {a : Device} {n : Nat} {tail : Nat} {d : Device} (hW : Sub Touch.doorbell W) (h : Keeps W a d) :
    Keeps W a (Device.doorbell n tail d) := by
  unfold Device.doorbell
  try dsimp only
  repeat' first
    | with_reducible exact h | exact memT (by decide +kernel) hW | with_reducible apply Keeps.ite
    | with_reducible refine Device.wr_keeps ?_ ?_ | split

def Touch.dmaIrqTimer : List Nat :=
  [O.PMC_VALUE, O.PMC_STATUS, F.cyc, F.clk, F.out, F.pcieDma, F.pciePending, F.pmc]

theorem Device.dmaIrqTimer_keeps {W : List Nat} {a : Device} {n : Nat} {d : Device} (hW : Sub Touch.dmaIrqTimer W) (h : Keeps W a d) :
    Keeps W a (Device.dmaIrqTimer n d) := by
  unfold Device.dmaIrqTimer
  try dsimp only
  repeat' first
    | with_reducible exact h | with_reducible apply Keeps.ite
    | with_reducible refine Device.passTo_keeps (subT (by decide +kernel) hW) ?_
    | with_reducible refine Device.dmaSignal_keeps (subT (by decide +kernel) hW) ?_ | split

def Touch.msixRelease : List Nat :=
  [F.out, F.pcieWindows, F.pcieMasked, F.pciePending, F.pcieVectors, F.pcieMsixOn, F.pcieFuncMask]

theorem Device.msixRelease_keeps {W : List Nat} {a : Device} {d : Device} {e : Nat} (hW : Sub Touch.msixRelease W) (h : Keeps W a d) :
    Keeps W a (Device.msixRelease d e) := by
  unfold Device.msixRelease
  try dsimp only
  repeat' first
    | with_reducible exact h | with_reducible apply Keeps.ite
    | with_reducible refine Device.setPcie_keeps (subT (by decide +kernel) hW) ?_ rfl rfl
    | with_reducible refine Device.msixSend_keeps (subT (by decide +kernel) hW) ?_ | split

def Touch.msixStore : List Nat :=
  [O.RING_POSITION, O.RING_CRC_ERRORS, O.RING_RETURNED, O.RING_BAD_MESSAGES, O.LOCK, O.GROUP_OWNER, O.GROUP_STATE,
  O.GROUP_WRITES, O.GROUP_FAIL_ADDRESS, O.GROUP_FLAGS, O.SESSION_STATE, O.SESSION_ROLE, O.SESSION_CA, O.SESSION_ID,
  O.SESSION_LAST_COUNTER, O.RING_ENABLE, O.RING_HEAD, O.RING_TAIL, O.RING_STATE, O.RING_COMPLETED, O.RING_REJECTED,
  O.GUN_STATE, O.GUN_OWNER, O.GUN_FLAGS, O.FLT_SRC_EVENTS, O.FLT_SRC_LAST_AT, O.FLT_LOG_LAST_SEQ,
  O.FLT_LOG_OVERWRITTEN, O.FLT_EVENT_LOST, O.FLT_FIRST_SEVERE, O.FLT_LOG_RECORD, O.PMC_VALUE, O.PMC_STATUS, F.out,
  F.sess, F.groups, F.ring, F.pcieWindows, F.pcieDma, F.pcieMasked, F.pciePending, F.faults, F.clsx, F.pmc,
  F.pcieVectors, F.pcieMsixOn, F.pcieFuncMask]

theorem Device.msixStore_keeps {W : List Nat} {a : Device} {d : Device} {w : MsixWrite} (hW : Sub Touch.msixStore W) (h : Keeps W a d) :
    Keeps W a (Device.msixStore d w) := by
  unfold Device.msixStore
  try dsimp only
  repeat' first
    | with_reducible exact h | with_reducible assumption | with_reducible apply Keeps.ite
    | with_reducible refine Device.address_keeps (subT (by decide +kernel) hW) ?_
    | with_reducible refine Device.setPcie_keeps (subT (by decide +kernel) hW) ?_ rfl rfl | intro _ _ hq | intro _
    | split

def Touch.msixUnmask : List Nat :=
  Touch.msixStore

theorem Device.msixUnmask_keeps {W : List Nat} {a : Device} {w : MsixWrite} {d : Device} (hW : Sub Touch.msixUnmask W) (h : Keeps W a d) :
    Keeps W a (Device.msixUnmask w d) := by
  unfold Device.msixUnmask
  try dsimp only
  repeat' first
    | with_reducible exact h | with_reducible assumption | with_reducible apply Keeps.ite
    | with_reducible apply Keeps.foldl
    | with_reducible refine Device.msixRelease_keeps (subT (by decide +kernel) hW) ?_
    | with_reducible refine Device.msixStore_keeps (subT (by decide +kernel) hW) ?_ | intro _ _ hq | intro _ | split

end Sys2Proof.Machine
end

