-- ==== Sys2Proof/Laws/KeepsJtag.lean ====
section
/-!
SUPPORT. The places that each operation of Machine/Jtag.lean may change (Laws/Keeps.lean).
-/
set_option Elab.async false
set_option linter.all false
set_option linter.unusedTactic false
set_option linter.unreachableTactic false
set_option linter.style.longLine false
namespace Sys2Proof.Machine

def Touch.setJtag : List Nat :=
  [F.jtag]

theorem Device.setJtag_keeps {W : List Nat} {a : Device} {d : Device} {x : JtagX} (hW : Sub Touch.setJtag W) (h : Keeps W a d) :
    Keeps W a (Device.setJtag d x) := 
  h.same rfl rfl (fun k hk => by
    unfold sameField
    split <;> first | rfl | exact absurd (memF (by decide +kernel) hW) hk | trivial)

def Touch.setTap : List Nat :=
  [F.jtag]

theorem Device.setTap_keeps {W : List Nat} {a : Device} {d : Device} {t : Tap} (hW : Sub Touch.setTap W) (h : Keeps W a d) :
    Keeps W a (Device.setTap d t) := by
  unfold Device.setTap
  try dsimp only
  repeat' first
    | with_reducible exact h | with_reducible refine Device.setJtag_keeps (subT (by decide +kernel) hW) ?_

def Touch.bypass : List Nat :=
  [F.jtag]

theorem Device.bypass_keeps {W : List Nat} {a : Device} {d : Device} (hW : Sub Touch.bypass W) (h : Keeps W a d) :
    Keeps W a (Device.bypass d) := by
  unfold Device.bypass
  try dsimp only
  repeat' first
    | with_reducible exact h | with_reducible refine Device.setTap_keeps (subT (by decide +kernel) hW) ?_

def Touch.idcode : List Nat :=
  [F.out, F.jtag]

theorem Device.idcode_keeps {W : List Nat} {a : Device} {d : Device} (hW : Sub Touch.idcode W) (h : Keeps W a d) :
    Keeps W a (Device.idcode d) := by
  unfold Device.idcode
  try dsimp only
  repeat' first
    | with_reducible exact h | with_reducible refine Device.setTap_keeps (subT (by decide +kernel) hW) ?_
    | with_reducible refine Device.emit_keeps (subT (by decide +kernel) hW) ?_

def Touch.chainCapture : List Nat :=
  [F.draws, F.out, F.jtag]

theorem Device.chainCapture_keeps {W : List Nat} {a : Device} {d : Device} {chain : Nat} (hW : Sub Touch.chainCapture W) (h : Keeps W a d) :
    Keeps W a (Device.chainCapture d chain) := by
  unfold Device.chainCapture
  try dsimp only
  repeat' first
    | with_reducible exact h | with_reducible refine Device.unstated_keeps (subT (by decide +kernel) hW) ?_
    | with_reducible refine Device.setJtag_keeps (subT (by decide +kernel) hW) ?_
    | with_reducible refine Device.emit_keeps (subT (by decide +kernel) hW) ?_

def Touch.samplePreload : List Nat :=
  Touch.chainCapture

theorem Device.samplePreload_keeps {W : List Nat} {a : Device} {chain : Nat} {d : Device} (hW : Sub Touch.samplePreload W) (h : Keeps W a d) :
    Keeps W a (Device.samplePreload chain d) := by
  unfold Device.samplePreload
  try dsimp only
  repeat' first
    | with_reducible exact h | with_reducible refine Device.setTap_keeps (subT (by decide +kernel) hW) ?_
    | with_reducible refine Device.chainCapture_keeps (subT (by decide +kernel) hW) ?_

def Touch.extest : List Nat :=
  Touch.chainCapture

theorem Device.extest_keeps {W : List Nat} {a : Device} {chain : Nat} {d : Device} (hW : Sub Touch.extest W) (h : Keeps W a d) :
    Keeps W a (Device.extest chain d) := by
  unfold Device.extest
  try dsimp only
  repeat' first
    | with_reducible exact h | with_reducible apply Keeps.ite
    | with_reducible refine Device.setTap_keeps (subT (by decide +kernel) hW) ?_
    | with_reducible refine Device.chainCapture_keeps (subT (by decide +kernel) hW) ?_
    | with_reducible refine Device.emit_keeps (subT (by decide +kernel) hW) ?_
    | with_reducible refine Device.bypass_keeps (subT (by decide +kernel) hW) ?_ | split

def Touch.dapScan : List Nat :=
  [F.out, F.jtag]

theorem Device.dapScan_keeps {W : List Nat} {a : Device} {d : Device} {v : Nat} (hW : Sub Touch.dapScan W) (h : Keeps W a d) :
    Keeps W a (Device.dapScan d v) := by
  unfold Device.dapScan
  try dsimp only
  repeat' first
    | with_reducible exact h | with_reducible refine Device.setTap_keeps (subT (by decide +kernel) hW) ?_
    | with_reducible refine Device.emit_keeps (subT (by decide +kernel) hW) ?_
    | with_reducible refine Device.setJtag_keeps (subT (by decide +kernel) hW) ?_

def Touch.setDapAbort : List Nat :=
  [F.jtag]

theorem Device.setDapAbort_keeps {W : List Nat} {d₀ : Device} {d : Device} {a : Nat} (hW : Sub Touch.setDapAbort W) (h : Keeps W d₀ d) :
    Keeps W d₀ (Device.setDapAbort d a) := by
  unfold Device.setDapAbort
  try dsimp only
  repeat' first
    | with_reducible exact h | with_reducible refine Device.setJtag_keeps (subT (by decide +kernel) hW) ?_

def Touch.dapStore : List Nat :=
  [F.jtag]

theorem Device.dapStore_keeps {W : List Nat} {a : Device} {d : Device} {o : Nat} {v : Bytes} (hW : Sub Touch.dapStore W) (h : Keeps W a d) :
    Keeps W a (Device.dapStore d o v) := by
  unfold Device.dapStore
  try dsimp only
  repeat' first
    | with_reducible exact h | with_reducible assumption | with_reducible apply Keeps.foldl
    | with_reducible refine Device.setJtag_keeps (subT (by decide +kernel) hW) ?_ | with_reducible apply Keeps.foldl2
    | intro _ _ hq | intro _

def Touch.valueIn : List Nat :=
  [F.out, F.jtag]

theorem Device.valueIn_keeps {W : List Nat} {a : Device} {offset : Nat} {v : Nat} {d : Device} (hW : Sub Touch.valueIn W) (h : Keeps W a d) :
    Keeps W a (Device.valueIn offset v d) := by
  unfold Device.valueIn
  try dsimp only
  repeat' first
    | with_reducible exact h | with_reducible apply Keeps.ite
    | with_reducible refine Device.dapScan_keeps (subT (by decide +kernel) hW) ?_
    | with_reducible refine Device.dapStore_keeps (subT (by decide +kernel) hW) ?_
    | with_reducible refine Device.setDapAbort_keeps (subT (by decide +kernel) hW) ?_ | split

def Touch.valueOut : List Nat :=
  [F.out, F.jtag]

theorem Device.valueOut_keeps {W : List Nat} {a : Device} {offset : Nat} {d : Device} (hW : Sub Touch.valueOut W) (h : Keeps W a d) :
    Keeps W a (Device.valueOut offset d) := by
  unfold Device.valueOut
  try dsimp only
  repeat' first
    | with_reducible exact h | with_reducible apply Keeps.ite
    | with_reducible refine Device.dapScan_keeps (subT (by decide +kernel) hW) ?_
    | with_reducible refine Device.setDapAbort_keeps (subT (by decide +kernel) hW) ?_ | split

def Touch.dapStatus : List Nat :=
  [F.out, F.jtag]

theorem Device.dapStatus_keeps {W : List Nat} {a : Device} {d : Device} (hW : Sub Touch.dapStatus W) (h : Keeps W a d) :
    Keeps W a (Device.dapStatus d) := by
  unfold Device.dapStatus
  try dsimp only
  repeat' first
    | with_reducible exact h | with_reducible apply Keeps.ite
    | with_reducible refine Device.dapScan_keeps (subT (by decide +kernel) hW) ?_ | split

def Touch.dapOpen : List Nat :=
  [O.LOCK, O.GROUP_OWNER, O.GROUP_STATE, O.GROUP_WRITES, O.GROUP_FAIL_ADDRESS, O.GROUP_FLAGS, O.SESSION_STATE,
  O.SESSION_ROLE, O.SESSION_CA, O.SESSION_ID, O.SESSION_LAST_COUNTER, O.ROLE_ROOT, O.RING_ENABLE, O.RING_HEAD,
  O.RING_TAIL, O.RING_STATE, O.RING_COMPLETED, O.RING_REJECTED, O.INJECT_REFUSED, O.MODE, O.MODE_CMD,
  O.MODE_ENTERED_AT, O.MODE_CAUSE, O.RUNAHEAD_FALSE_STARTS, O.RUNAHEAD_WASTED_CELLS, O.BANK_DISCARDS,
  O.DBG_CERT_SCOPE, O.DBG_CERT_EXPIRES, O.VAULT_STATE, O.VAULT_HANDLE, O.VAULT_LEVEL, O.VAULT_PURPOSE,
  O.VAULT_KEY_BITS, O.VAULT_COUNTED, O.VAULT_USES_LEFT, O.VAULT_ORIGIN, O.VAULT_PARENT, O.VAULT_CREATED_AT,
  O.VAULT_ARG_KEY, O.VAULT_CMD, O.VAULT_RESULT_HANDLE, O.VAULT_CHECK_FAILS, O.DRBG_STATE, O.LA_CONTEXTS_BUSY,
  O.GUN_STATE, O.GUN_OWNER, O.GUN_FLAGS, O.PORT_TX_FRAMES, O.PORT_TX_BYTES, O.PORT_TX_TRUNCATED,
  O.PORT_FC_TX_XOFF_C0, O.PORT_FC_TX_XOFF_C1, O.PORT_FC_TX_XOFF_C2, O.PORT_FC_TX_XOFF_C3, O.PORT_FC_TX_XOFF_C4,
  O.PORT_FC_TX_XOFF_C5, O.PORT_FC_TX_XOFF_C6, O.PORT_FC_TX_XOFF_C7, O.SC_STATUS, O.SA_STATE, O.SA_KEK, O.SA_SLOT,
  O.SA_FLAGS, O.SA_CHANGED_AT, O.SCSA_SLOT0_ROW, O.SCSA_SLOT1_ROW, O.SCSA_IN_FORCE_AN, O.SCSA_ZONE_OPEN,
  O.SA_STAT_PKTS, O.SA_STAT_OCTETS, O.SA_STAT_PKTS_ENCRYPTED, O.SA_STAT_NOT_VALID, O.SA_STAT_COMMIT_LATE,
  O.SA_STAT_TX_LOST, O.CALLROOM_OCCUPANCY, O.CALLROOM_PEAK, O.QUEUE_OCCUPANCY, O.QUEUE_NODE, O.BUFP_USED_CELLS,
  O.BUF_HEADROOM_USED, O.FLT_SRC_CLASS, O.FLT_SRC_EVENTS, O.FLT_SRC_LAST_AT, O.FLT_STATUS, O.FLT_FATAL_SINCE_BOOT,
  O.FLT_LOG_LAST_SEQ, O.FLT_LOG_OVERWRITTEN, O.FLT_EVENT_LOST, O.FLT_FIRST_SEVERE, O.FLT_LOG_RECORD, O.PMC_VALUE,
  O.PMC_STATUS, O.PEER_KEY, F.mode, F.draws, F.out, F.sess, F.groups, F.ring, F.pcieDma, F.pciePending, F.jtag,
  F.faults, F.vault, F.checkKey, F.storeKey, F.keyTests, F.keyRestart, F.keyScrub, F.saRecs, F.saCtxs, F.banks,
  F.pipe, F.clsx, F.queues, F.nodes, F.pairs, F.ports, F.laps, F.pmc, F.lc, F.la, F.keyScrubFrom, F.keyReseed,
  F.keyRequests]

theorem Device.dapOpen_keeps {W : List Nat} {a : Device} {d : Device} (hW : Sub Touch.dapOpen W) (h : Keeps W a d) :
    Keeps W a (Device.dapOpen d) := by
  unfold Device.dapOpen
  try dsimp only
  repeat' first
    | with_reducible exact h | with_reducible apply Keeps.ite
    | with_reducible refine Device.dapScan_keeps (subT (by decide +kernel) hW) ?_
    | with_reducible refine Device.openSession_keeps (subT (by decide +kernel) hW) ?_
    | with_reducible refine Device.dapStore_keeps (subT (by decide +kernel) hW) ?_
    | with_reducible refine Device.setDapAbort_keeps (subT (by decide +kernel) hW) ?_
    | with_reducible apply Keeps.ite2 | split

def Touch.dapProve : List Nat :=
  [O.LOCK, O.GROUP_OWNER, O.GROUP_STATE, O.GROUP_WRITES, O.GROUP_FAIL_ADDRESS, O.GROUP_FLAGS, O.SESSION_STATE,
  O.SESSION_ROLE, O.SESSION_CA, O.SESSION_ID, O.SESSION_LAST_COUNTER, O.RING_ENABLE, O.RING_HEAD, O.RING_TAIL,
  O.RING_STATE, O.RING_COMPLETED, O.RING_REJECTED, O.DBG_CERT_SCOPE, O.DBG_CERT_EXPIRES, O.GUN_STATE, O.GUN_OWNER,
  O.GUN_FLAGS, O.FLT_SRC_EVENTS, O.FLT_SRC_LAST_AT, O.FLT_LOG_LAST_SEQ, O.FLT_LOG_OVERWRITTEN, O.FLT_EVENT_LOST,
  O.FLT_FIRST_SEVERE, O.FLT_LOG_RECORD, O.PMC_VALUE, O.PMC_STATUS, F.out, F.sess, F.proofFails, F.lockoutUntil,
  F.groups, F.ring, F.pcieDma, F.pciePending, F.jtag, F.faults, F.clsx, F.pmc]

theorem Device.dapProve_keeps {W : List Nat} {a : Device} {d : Device} (hW : Sub Touch.dapProve W) (h : Keeps W a d) :
    Keeps W a (Device.dapProve d) := by
  unfold Device.dapProve
  try dsimp only
  repeat' first
    | with_reducible exact h | with_reducible apply Keeps.ite
    | with_reducible refine Device.dapScan_keeps (subT (by decide +kernel) hW) ?_
    | with_reducible refine Device.proveSession_keeps (subT (by decide +kernel) hW) ?_
    | with_reducible refine Device.setDapAbort_keeps (subT (by decide +kernel) hW) ?_
    | with_reducible apply Keeps.ite2 | split

def Touch.dapClose : List Nat :=
  [O.LOCK, O.GROUP_OWNER, O.GROUP_STATE, O.GROUP_WRITES, O.GROUP_FAIL_ADDRESS, O.GROUP_FLAGS, O.SESSION_STATE,
  O.SESSION_ROLE, O.SESSION_CA, O.SESSION_ID, O.SESSION_LAST_COUNTER, O.RING_ENABLE, O.RING_HEAD, O.RING_TAIL,
  O.RING_STATE, O.RING_COMPLETED, O.RING_REJECTED, O.GUN_STATE, O.GUN_OWNER, O.GUN_FLAGS, O.FLT_SRC_EVENTS,
  O.FLT_SRC_LAST_AT, O.FLT_LOG_LAST_SEQ, O.FLT_LOG_OVERWRITTEN, O.FLT_EVENT_LOST, O.FLT_FIRST_SEVERE,
  O.FLT_LOG_RECORD, O.PMC_VALUE, O.PMC_STATUS, F.out, F.sess, F.groups, F.ring, F.pcieDma, F.pciePending, F.jtag,
  F.faults, F.clsx, F.pmc]

theorem Device.dapClose_keeps {W : List Nat} {a : Device} {session : Nat} {d : Device} (hW : Sub Touch.dapClose W) (h : Keeps W a d) :
    Keeps W a (Device.dapClose session d) := by
  unfold Device.dapClose
  try dsimp only
  repeat' first
    | with_reducible exact h | with_reducible apply Keeps.ite
    | with_reducible refine Device.dapScan_keeps (subT (by decide +kernel) hW) ?_
    | with_reducible refine Device.closeOn_keeps (subT (by decide +kernel) hW) ?_
    | with_reducible refine Device.setDapAbort_keeps (subT (by decide +kernel) hW) ?_
    | with_reducible apply Keeps.ite2 | split

end Sys2Proof.Machine
end

