-- ==== Sys2Proof/Laws/KeepsFirmware.lean ====
section
/-!
SUPPORT. The places that each operation of Machine/Firmware.lean may change (Laws/Keeps.lean).
-/
set_option Elab.async false
set_option linter.all false
set_option linter.unusedTactic false
set_option linter.unreachableTactic false
set_option linter.style.longLine false
namespace Sys2Proof.Machine

def Touch.setFw : List Nat :=
  [F.fw]

theorem Device.setFw_keeps {W : List Nat} {a : Device} {d : Device} {x : FwX} (hW : Sub Touch.setFw W) (h : Keeps W a d) :
    Keeps W a (Device.setFw d x) := 
  h.same rfl rfl (fun k hk => by
    unfold sameField
    split <;> first | rfl | exact absurd (memF (by decide +kernel) hW) hk | trivial)

def Touch.setAtt : List Nat :=
  [F.att]

theorem Device.setAtt_keeps {W : List Nat} {a : Device} {d : Device} {x : AttX} (hW : Sub Touch.setAtt W) (h : Keeps W a d) :
    Keeps W a (Device.setAtt d x) := 
  h.same rfl rfl (fun k hk => by
    unfold sameField
    split <;> first | rfl | exact absurd (memF (by decide +kernel) hW) hk | trivial)

def Touch.setSlot : List Nat :=
  [O.FW_SLOT_STATE, O.FW_SLOT_DIGEST, O.FW_SLOT_VERSION, O.FW_SLOT_BUILD_ID]

theorem Device.setSlot_keeps {W : List Nat} {a : Device} {d : Device} {r : Nat} {st : Nat} (hW : Sub Touch.setSlot W) (h : Keeps W a d) :
    Keeps W a (Device.setSlot d r st) := by
  unfold Device.setSlot
  try dsimp only
  repeat' first
    | with_reducible exact h | exact memT (by decide +kernel) hW | with_reducible apply Keeps.ite
    | with_reducible refine Device.wr_keeps ?_ ?_ | split

def Touch.setActive : List Nat :=
  [O.PARSER_ACTIVE_IMAGE, O.PARSER_ACTIVE_DIGEST, F.pipe]

theorem Device.setActive_keeps {W : List Nat} {a : Device} {d : Device} {s : Nat} {x : Nat} {prog : List Nat} (hW : Sub Touch.setActive W) (h : Keeps W a d) :
    Keeps W a (Device.setActive d s x prog) := by
  unfold Device.setActive
  try dsimp only
  repeat' first
    | with_reducible exact h | exact memT (by decide +kernel) hW
    | with_reducible refine Device.setPipe_keeps (subT (by decide +kernel) hW) ?_
    | with_reducible refine Device.wr_keeps ?_ ?_

def Touch.emptyShadow : List Nat :=
  [O.PARSER_SHADOW_STATE, O.PARSER_SHADOW_DIGEST, F.pipe]

theorem Device.emptyShadow_keeps {W : List Nat} {a : Device} {d : Device} {s : Nat} (hW : Sub Touch.emptyShadow W) (h : Keeps W a d) :
    Keeps W a (Device.emptyShadow d s) := by
  unfold Device.emptyShadow
  try dsimp only
  repeat' first
    | with_reducible exact h | exact memT (by decide +kernel) hW
    | with_reducible refine Device.setPipe_keeps (subT (by decide +kernel) hW) ?_
    | with_reducible refine Device.wr_keeps ?_ ?_

def Touch.loadShadow : List Nat :=
  Touch.emptyShadow

theorem Device.loadShadow_keeps {W : List Nat} {a : Device} {d : Device} {s : Nat} {x : Nat} {prog : List Nat} (hW : Sub Touch.loadShadow W) (h : Keeps W a d) :
    Keeps W a (Device.loadShadow d s x prog) := by
  unfold Device.loadShadow
  try dsimp only
  repeat' first
    | with_reducible exact h | exact memT (by decide +kernel) hW
    | with_reducible refine Device.setPipe_keeps (subT (by decide +kernel) hW) ?_
    | with_reducible refine Device.wr_keeps ?_ ?_

def Touch.slotsFromFlash : List Nat :=
  Touch.setSlot

theorem Device.slotsFromFlash_keeps {W : List Nat} {a : Device} {d : Device} (hW : Sub Touch.slotsFromFlash W) (h : Keeps W a d) :
    Keeps W a (Device.slotsFromFlash d) := by
  unfold Device.slotsFromFlash
  try dsimp only
  repeat' first
    | with_reducible exact h | with_reducible assumption | with_reducible apply Keeps.ite
    | with_reducible apply Keeps.foldl | with_reducible refine Device.setSlot_keeps (subT (by decide +kernel) hW) ?_
    | intro _ _ hq | intro _ | split

def Touch.slotFails : List Nat :=
  Touch.setSlot

theorem Device.slotFails_keeps {W : List Nat} {a : Device} {d : Device} {r : Nat} (hW : Sub Touch.slotFails W) (h : Keeps W a d) :
    Keeps W a (Device.slotFails d r) := by
  unfold Device.slotFails
  try dsimp only
  repeat' first
    | with_reducible exact h | with_reducible apply Keeps.ite
    | with_reducible refine Device.setSlot_keeps (subT (by decide +kernel) hW) ?_ | split

def Touch.loadSydin : List Nat :=
  [O.FW_SLOT_STATE, O.FW_SLOT_DIGEST, O.FW_SLOT_VERSION, O.FW_SLOT_BUILD_ID, O.BOOT_STATUS, O.BOOT_IMAGE]

theorem Device.loadSydin_keeps {W : List Nat} {a : Device} {d : Device} (hW : Sub Touch.loadSydin W) (h : Keeps W a d) :
    Keeps W a (Device.loadSydin d) := by
  unfold Device.loadSydin
  try dsimp only
  repeat' first
    | with_reducible exact h | exact memT (by decide +kernel) hW | with_reducible apply Keeps.ite
    | with_reducible refine Device.setSlot_keeps (subT (by decide +kernel) hW) ?_
    | with_reducible refine Device.wr_keeps ?_ ?_
    | with_reducible refine Device.slotFails_keeps (subT (by decide +kernel) hW) ?_ | split

def Touch.loadParser : List Nat :=
  [O.FW_SLOT_STATE, O.FW_SLOT_DIGEST, O.FW_SLOT_VERSION, O.FW_SLOT_BUILD_ID, O.LOCK, O.GROUP_OWNER, O.GROUP_STATE,
  O.GROUP_WRITES, O.GROUP_FAIL_ADDRESS, O.GROUP_FLAGS, O.SESSION_STATE, O.SESSION_ROLE, O.SESSION_CA, O.SESSION_ID,
  O.SESSION_LAST_COUNTER, O.ROLE_ROOT, O.RING_ENABLE, O.RING_HEAD, O.RING_TAIL, O.RING_STATE, O.RING_COMPLETED,
  O.RING_REJECTED, O.INJECT_REFUSED, O.MODE, O.MODE_CMD, O.MODE_ENTERED_AT, O.MODE_CAUSE, O.SLICE_STATE,
  O.SLICE_CAUSE, O.RUNAHEAD_FALSE_STARTS, O.RUNAHEAD_WASTED_CELLS, O.BANK_DISCARDS, O.VAULT_STATE, O.VAULT_HANDLE,
  O.VAULT_LEVEL, O.VAULT_PURPOSE, O.VAULT_KEY_BITS, O.VAULT_COUNTED, O.VAULT_USES_LEFT, O.VAULT_ORIGIN,
  O.VAULT_PARENT, O.VAULT_CREATED_AT, O.VAULT_ARG_KEY, O.VAULT_CMD, O.VAULT_RESULT_HANDLE, O.DRBG_STATE,
  O.LA_CONTEXTS_BUSY, O.GUN_STATE, O.GUN_OWNER, O.GUN_FLAGS, O.PORT_TX_FRAMES, O.PORT_TX_BYTES,
  O.PORT_TX_TRUNCATED, O.PORT_FC_TX_XOFF_C0, O.PORT_FC_TX_XOFF_C1, O.PORT_FC_TX_XOFF_C2, O.PORT_FC_TX_XOFF_C3,
  O.PORT_FC_TX_XOFF_C4, O.PORT_FC_TX_XOFF_C5, O.PORT_FC_TX_XOFF_C6, O.PORT_FC_TX_XOFF_C7, O.SC_STATUS, O.SA_STATE,
  O.SA_KEK, O.SA_SLOT, O.SA_FLAGS, O.SA_CHANGED_AT, O.SCSA_SLOT0_ROW, O.SCSA_SLOT1_ROW, O.SCSA_IN_FORCE_AN,
  O.SCSA_ZONE_OPEN, O.SA_STAT_PKTS, O.SA_STAT_OCTETS, O.SA_STAT_PKTS_ENCRYPTED, O.SA_STAT_NOT_VALID,
  O.SA_STAT_COMMIT_LATE, O.SA_STAT_TX_LOST, O.PARSER_ACTIVE_IMAGE, O.PARSER_ACTIVE_DIGEST, O.CALLROOM_OCCUPANCY,
  O.CALLROOM_PEAK, O.QUEUE_OCCUPANCY, O.QUEUE_NODE, O.BUFP_USED_CELLS, O.BUF_HEADROOM_USED, O.FLT_SRC_CLASS,
  O.FLT_SRC_EVENTS, O.FLT_SRC_LAST_AT, O.FLT_STATUS, O.FLT_FATAL_SINCE_BOOT, O.FLT_LOG_LAST_SEQ,
  O.FLT_LOG_OVERWRITTEN, O.FLT_EVENT_LOST, O.FLT_FIRST_SEVERE, O.FLT_LOG_RECORD, O.PMC_VALUE, O.PMC_STATUS,
  O.PEER_KEY, F.mode, F.draws, F.out, F.sess, F.groups, F.ring, F.pcieDma, F.pciePending, F.faults, F.vault,
  F.checkKey, F.storeKey, F.keyTests, F.keyRestart, F.keyScrub, F.saRecs, F.saCtxs, F.banks, F.pipe, F.clsx,
  F.queues, F.nodes, F.pairs, F.ports, F.laps, F.pmc, F.lc, F.la, F.keyScrubFrom, F.keyReseed, F.keyRequests]

theorem Device.loadParser_keeps {W : List Nat} {a : Device} {d : Device} {s : Nat} (hW : Sub Touch.loadParser W) (h : Keeps W a d) :
    Keeps W a (Device.loadParser d s) := by
  unfold Device.loadParser
  try dsimp only
  repeat' first
    | with_reducible exact h | exact memT (by decide +kernel) hW | with_reducible apply Keeps.ite
    | with_reducible refine Device.setActive_keeps (subT (by decide +kernel) hW) ?_
    | with_reducible refine Device.setSlot_keeps (subT (by decide +kernel) hW) ?_
    | with_reducible refine Device.slotFails_keeps (subT (by decide +kernel) hW) ?_
    | with_reducible refine Device.lapFlag_keeps (subT (by decide +kernel) hW) ?_
    | with_reducible refine Device.wr_keeps ?_ ?_
    | with_reducible refine Device.fault_keeps (subT (by decide +kernel) hW) ?_ | split

def Touch.setMeasured : List Nat :=
  [F.fw]

theorem Device.setMeasured_keeps {W : List Nat} {a : Device} {d : Device} {l : List Nat} (hW : Sub Touch.setMeasured W) (h : Keeps W a d) :
    Keeps W a (Device.setMeasured d l) := by
  unfold Device.setMeasured
  try dsimp only
  repeat' first
    | with_reducible exact h | with_reducible refine Device.setFw_keeps (subT (by decide +kernel) hW) ?_

def Touch.measure : List Nat :=
  [O.FW_M_MISMATCH, O.FW_M, F.fw]

theorem Device.measure_keeps {W : List Nat} {a : Device} {d : Device} (hW : Sub Touch.measure W) (h : Keeps W a d) :
    Keeps W a (Device.measure d) := by
  unfold Device.measure
  try dsimp only
  repeat' first
    | with_reducible exact h | with_reducible assumption | exact memT (by decide +kernel) hW
    | with_reducible apply Keeps.elim
    | with_reducible refine Device.setMeasured_keeps (subT (by decide +kernel) hW) ?_
    | with_reducible refine Device.wr_keeps ?_ ?_ | intro _ _ hq | intro _ | split

def Touch.dropSlot3 : List Nat :=
  Touch.zeroSlot

theorem Device.dropSlot3_keeps {W : List Nat} {a : Device} {d : Device} (hW : Sub Touch.dropSlot3 W) (h : Keeps W a d) :
    Keeps W a (Device.dropSlot3 d) := by
  unfold Device.dropSlot3
  try dsimp only
  repeat' first
    | with_reducible exact h | with_reducible assumption | with_reducible apply Keeps.foldl
    | with_reducible refine Device.zeroSlot_keeps (subT (by decide +kernel) hW) ?_ | intro _ _ hq | intro _

def Touch.unstage : List Nat :=
  [O.LOCK, O.GROUP_OWNER, O.GROUP_STATE, O.GROUP_WRITES, O.GROUP_FAIL_ADDRESS, O.GROUP_FLAGS, O.SESSION_STATE,
  O.SESSION_ROLE, O.SESSION_CA, O.SESSION_ID, O.SESSION_LAST_COUNTER, O.ROLE_ROOT, O.RING_ENABLE, O.RING_HEAD,
  O.RING_TAIL, O.RING_STATE, O.RING_COMPLETED, O.RING_REJECTED, O.VAULT_STATE, O.VAULT_HANDLE, O.VAULT_LEVEL,
  O.VAULT_PURPOSE, O.VAULT_KEY_BITS, O.VAULT_COUNTED, O.VAULT_USES_LEFT, O.VAULT_ORIGIN, O.VAULT_PARENT,
  O.VAULT_CREATED_AT, O.VAULT_ARG_KEY, O.VAULT_RESULT_HANDLE, O.GUN_STATE, O.GUN_OWNER, O.GUN_FLAGS, O.SA_KEK,
  O.FLT_SRC_EVENTS, O.FLT_SRC_LAST_AT, O.FLT_LOG_LAST_SEQ, O.FLT_LOG_OVERWRITTEN, O.FLT_EVENT_LOST,
  O.FLT_FIRST_SEVERE, O.FLT_LOG_RECORD, O.PMC_VALUE, O.PMC_STATUS, O.PEER_KEY, F.out, F.sess, F.groups, F.ring,
  F.pcieDma, F.pciePending, F.faults, F.vault, F.clsx, F.pmc, F.fw]

theorem Device.unstage_keeps {W : List Nat} {a : Device} {d : Device} (hW : Sub Touch.unstage W) (h : Keeps W a d) :
    Keeps W a (Device.unstage d) := by
  unfold Device.unstage
  try dsimp only
  repeat' first
    | with_reducible exact h | with_reducible apply Keeps.ite
    | with_reducible refine Device.setFw_keeps (subT (by decide +kernel) hW) ?_
    | with_reducible refine Device.dropSlot3_keeps (subT (by decide +kernel) hW) ?_ | split

def Touch.slotTouched : List Nat :=
  Touch.unstage

theorem Device.slotTouched_keeps {W : List Nat} {a : Device} {d : Device} {t : Nat} (hW : Sub Touch.slotTouched W) (h : Keeps W a d) :
    Keeps W a (Device.slotTouched d t) := by
  unfold Device.slotTouched
  try dsimp only
  repeat' first
    | with_reducible exact h | with_reducible apply Keeps.ite
    | with_reducible refine Device.unstage_keeps (subT (by decide +kernel) hW) ?_ | split

def Touch.fwEraseCore : List Nat :=
  [O.FW_SLOT_STATE, O.FW_SLOT_DIGEST, O.FW_SLOT_VERSION, O.FW_SLOT_BUILD_ID, O.FW_CMD, O.LOCK, O.GROUP_OWNER,
  O.GROUP_STATE, O.GROUP_WRITES, O.GROUP_FAIL_ADDRESS, O.GROUP_FLAGS, O.SESSION_STATE, O.SESSION_ROLE,
  O.SESSION_CA, O.SESSION_ID, O.SESSION_LAST_COUNTER, O.ROLE_ROOT, O.RING_ENABLE, O.RING_HEAD, O.RING_TAIL,
  O.RING_STATE, O.RING_COMPLETED, O.RING_REJECTED, O.VAULT_STATE, O.VAULT_HANDLE, O.VAULT_LEVEL, O.VAULT_PURPOSE,
  O.VAULT_KEY_BITS, O.VAULT_COUNTED, O.VAULT_USES_LEFT, O.VAULT_ORIGIN, O.VAULT_PARENT, O.VAULT_CREATED_AT,
  O.VAULT_ARG_KEY, O.VAULT_RESULT_HANDLE, O.GUN_STATE, O.GUN_OWNER, O.GUN_FLAGS, O.SA_KEK, O.FLT_SRC_EVENTS,
  O.FLT_SRC_LAST_AT, O.FLT_LOG_LAST_SEQ, O.FLT_LOG_OVERWRITTEN, O.FLT_EVENT_LOST, O.FLT_FIRST_SEVERE,
  O.FLT_LOG_RECORD, O.PMC_VALUE, O.PMC_STATUS, O.PEER_KEY, F.out, F.sess, F.groups, F.ring, F.pcieDma,
  F.pciePending, F.faults, F.vault, F.clsx, F.pmc, F.flash, F.fw]

theorem Device.fwEraseCore_keeps {W : List Nat} {a : Device} {r : Req} {d : Device} (hW : Sub Touch.fwEraseCore W) (h : Keeps W a d) :
    Keeps W a (Device.fwEraseCore r d).2 := by
  unfold Device.fwEraseCore
  try dsimp only
  repeat' first
    | with_reducible exact h | with_reducible assumption | exact memT (by decide +kernel) hW
    | with_reducible refine Device.runCmd_keeps ?_ ?_ ?_
    | with_reducible refine Device.flashErase_keeps (subT (by decide +kernel) hW) ?_
    | with_reducible refine Device.setSlot_keeps (subT (by decide +kernel) hW) ?_
    | with_reducible refine Device.slotTouched_keeps (subT (by decide +kernel) hW) ?_ | intro _ _ hq | intro _

def Touch.fwWriteCore : List Nat :=
  Touch.fwEraseCore

theorem Device.fwWriteCore_keeps {W : List Nat} {a : Device} {r : Req} {d : Device} (hW : Sub Touch.fwWriteCore W) (h : Keeps W a d) :
    Keeps W a (Device.fwWriteCore r d).2 := by
  unfold Device.fwWriteCore
  try dsimp only
  repeat' first
    | with_reducible exact h | with_reducible assumption | exact memT (by decide +kernel) hW
    | with_reducible refine Device.runCmd_keeps ?_ ?_ ?_
    | with_reducible refine Device.flashWrite_keeps (subT (by decide +kernel) hW) ?_
    | with_reducible refine Device.setSlot_keeps (subT (by decide +kernel) hW) ?_
    | with_reducible refine Device.slotTouched_keeps (subT (by decide +kernel) hW) ?_ | intro _ _ hq | intro _

def Touch.fwVerifySlot : List Nat :=
  [O.FW_SLOT_STATE, O.FW_SLOT_DIGEST, O.FW_SLOT_VERSION, O.FW_SLOT_BUILD_ID, O.LOCK, O.GROUP_OWNER, O.GROUP_STATE,
  O.GROUP_WRITES, O.GROUP_FAIL_ADDRESS, O.GROUP_FLAGS, O.SESSION_STATE, O.SESSION_ROLE, O.SESSION_CA, O.SESSION_ID,
  O.SESSION_LAST_COUNTER, O.ROLE_ROOT, O.RING_ENABLE, O.RING_HEAD, O.RING_TAIL, O.RING_STATE, O.RING_COMPLETED,
  O.RING_REJECTED, O.VAULT_STATE, O.VAULT_HANDLE, O.VAULT_LEVEL, O.VAULT_PURPOSE, O.VAULT_KEY_BITS,
  O.VAULT_COUNTED, O.VAULT_USES_LEFT, O.VAULT_ORIGIN, O.VAULT_PARENT, O.VAULT_CREATED_AT, O.VAULT_ARG_KEY,
  O.VAULT_RESULT_HANDLE, O.GUN_STATE, O.GUN_OWNER, O.GUN_FLAGS, O.SA_KEK, O.FLT_SRC_EVENTS, O.FLT_SRC_LAST_AT,
  O.FLT_LOG_LAST_SEQ, O.FLT_LOG_OVERWRITTEN, O.FLT_EVENT_LOST, O.FLT_FIRST_SEVERE, O.FLT_LOG_RECORD, O.PMC_VALUE,
  O.PMC_STATUS, O.PEER_KEY, F.out, F.sess, F.groups, F.ring, F.pcieDma, F.pciePending, F.faults, F.vault, F.clsx,
  F.pmc, F.fw]

theorem Device.fwVerifySlot_keeps {W : List Nat} {a : Device} {d : Device} {t : Nat} (hW : Sub Touch.fwVerifySlot W) (h : Keeps W a d) :
    Keeps W a (Device.fwVerifySlot d t).2 := by
  unfold Device.fwVerifySlot
  try dsimp only
  repeat' first
    | with_reducible exact h | with_reducible apply Keeps.ite
    | with_reducible refine Device.setSlot_keeps (subT (by decide +kernel) hW) ?_
    | with_reducible refine Device.unstage_keeps (subT (by decide +kernel) hW) ?_
    | with_reducible refine Device.setFw_keeps (subT (by decide +kernel) hW) ?_
    | with_reducible refine Device.slotTouched_keeps (subT (by decide +kernel) hW) ?_
    | with_reducible apply Keeps.ite2 | split

def Touch.fwVerifyCore : List Nat :=
  [O.FW_SLOT_STATE, O.FW_SLOT_DIGEST, O.FW_SLOT_VERSION, O.FW_SLOT_BUILD_ID, O.FW_CMD, O.LOCK, O.GROUP_OWNER,
  O.GROUP_STATE, O.GROUP_WRITES, O.GROUP_FAIL_ADDRESS, O.GROUP_FLAGS, O.SESSION_STATE, O.SESSION_ROLE,
  O.SESSION_CA, O.SESSION_ID, O.SESSION_LAST_COUNTER, O.ROLE_ROOT, O.RING_ENABLE, O.RING_HEAD, O.RING_TAIL,
  O.RING_STATE, O.RING_COMPLETED, O.RING_REJECTED, O.VAULT_STATE, O.VAULT_HANDLE, O.VAULT_LEVEL, O.VAULT_PURPOSE,
  O.VAULT_KEY_BITS, O.VAULT_COUNTED, O.VAULT_USES_LEFT, O.VAULT_ORIGIN, O.VAULT_PARENT, O.VAULT_CREATED_AT,
  O.VAULT_ARG_KEY, O.VAULT_RESULT_HANDLE, O.GUN_STATE, O.GUN_OWNER, O.GUN_FLAGS, O.SA_KEK, O.FLT_SRC_EVENTS,
  O.FLT_SRC_LAST_AT, O.FLT_LOG_LAST_SEQ, O.FLT_LOG_OVERWRITTEN, O.FLT_EVENT_LOST, O.FLT_FIRST_SEVERE,
  O.FLT_LOG_RECORD, O.PMC_VALUE, O.PMC_STATUS, O.PEER_KEY, F.out, F.sess, F.groups, F.ring, F.pcieDma,
  F.pciePending, F.faults, F.vault, F.clsx, F.pmc, F.fw]

theorem Device.fwVerifyCore_keeps {W : List Nat} {a : Device} {r : Req} {d : Device} (hW : Sub Touch.fwVerifyCore W) (h : Keeps W a d) :
    Keeps W a (Device.fwVerifyCore r d).2 := by
  unfold Device.fwVerifyCore
  try dsimp only
  repeat' first
    | with_reducible exact h | with_reducible assumption | exact memT (by decide +kernel) hW
    | with_reducible refine Device.runCmd_keeps ?_ ?_ ?_
    | with_reducible refine Device.fwVerifySlot_keeps (subT (by decide +kernel) hW) ?_ | intro _ _ hq | intro _

def Touch.preferSlot : List Nat :=
  [F.flash]

theorem Device.preferSlot_keeps {W : List Nat} {a : Device} {d : Device} {t : Nat} (hW : Sub Touch.preferSlot W) (h : Keeps W a d) :
    Keeps W a (Device.preferSlot d t) := by
  unfold Device.preferSlot
  try dsimp only
  repeat' first
    | with_reducible exact h | with_reducible assumption | with_reducible apply Keeps.ite
    | with_reducible refine Device.flashWrite_keeps (subT (by decide +kernel) hW) ?_
    | with_reducible refine Device.flashPut_keeps (subT (by decide +kernel) hW) ?_ | intro _ _ hq | intro _ | split
    | dsimp only

def Touch.fwPreferCore : List Nat :=
  [O.FW_CMD, F.flash]

theorem Device.fwPreferCore_keeps {W : List Nat} {a : Device} {r : Req} {d : Device} (hW : Sub Touch.fwPreferCore W) (h : Keeps W a d) :
    Keeps W a (Device.fwPreferCore r d).2 := by
  unfold Device.fwPreferCore
  try dsimp only
  repeat' first
    | with_reducible exact h | with_reducible assumption | exact memT (by decide +kernel) hW
    | with_reducible refine Device.runCmd_keeps ?_ ?_ ?_
    | with_reducible refine Device.preferSlot_keeps (subT (by decide +kernel) hW) ?_ | intro _ _ hq | intro _

def Touch.fwDiscardCore : List Nat :=
  [O.FW_CMD, O.LOCK, O.GROUP_OWNER, O.GROUP_STATE, O.GROUP_WRITES, O.GROUP_FAIL_ADDRESS, O.GROUP_FLAGS,
  O.SESSION_STATE, O.SESSION_ROLE, O.SESSION_CA, O.SESSION_ID, O.SESSION_LAST_COUNTER, O.ROLE_ROOT, O.RING_ENABLE,
  O.RING_HEAD, O.RING_TAIL, O.RING_STATE, O.RING_COMPLETED, O.RING_REJECTED, O.VAULT_STATE, O.VAULT_HANDLE,
  O.VAULT_LEVEL, O.VAULT_PURPOSE, O.VAULT_KEY_BITS, O.VAULT_COUNTED, O.VAULT_USES_LEFT, O.VAULT_ORIGIN,
  O.VAULT_PARENT, O.VAULT_CREATED_AT, O.VAULT_ARG_KEY, O.VAULT_RESULT_HANDLE, O.GUN_STATE, O.GUN_OWNER,
  O.GUN_FLAGS, O.SA_KEK, O.FLT_SRC_EVENTS, O.FLT_SRC_LAST_AT, O.FLT_LOG_LAST_SEQ, O.FLT_LOG_OVERWRITTEN,
  O.FLT_EVENT_LOST, O.FLT_FIRST_SEVERE, O.FLT_LOG_RECORD, O.PMC_VALUE, O.PMC_STATUS, O.PEER_KEY, F.out, F.sess,
  F.groups, F.ring, F.pcieDma, F.pciePending, F.faults, F.vault, F.clsx, F.pmc, F.fw]

theorem Device.fwDiscardCore_keeps {W : List Nat} {a : Device} {r : Req} {d : Device} (hW : Sub Touch.fwDiscardCore W) (h : Keeps W a d) :
    Keeps W a (Device.fwDiscardCore r d).2 := by
  unfold Device.fwDiscardCore
  try dsimp only
  repeat' first
    | with_reducible exact h | with_reducible assumption | exact memT (by decide +kernel) hW
    | with_reducible refine Device.runCmd_keeps ?_ ?_ ?_
    | with_reducible refine Device.unstage_keeps (subT (by decide +kernel) hW) ?_ | intro _ _ hq | intro _

def Touch.burnRollback : List Nat :=
  [F.otp]

theorem Device.burnRollback_keeps {W : List Nat} {a : Device} {d : Device} {n : Nat} (hW : Sub Touch.burnRollback W) (h : Keeps W a d) :
    Keeps W a (Device.burnRollback d n) := by
  unfold Device.burnRollback
  try dsimp only
  repeat' first
    | with_reducible exact h | with_reducible refine Device.burnWords_keeps (subT (by decide +kernel) hW) ?_

def Touch.failOld : List Nat :=
  Touch.fwVerifySlot

theorem Device.failOld_keeps {W : List Nat} {a : Device} {d : Device} (hW : Sub Touch.failOld W) (h : Keeps W a d) :
    Keeps W a (Device.failOld d) := by
  unfold Device.failOld
  try dsimp only
  repeat' first
    | with_reducible exact h | with_reducible assumption | with_reducible apply Keeps.ite
    | with_reducible apply Keeps.foldl | with_reducible refine Device.setSlot_keeps (subT (by decide +kernel) hW) ?_
    | with_reducible refine Device.slotTouched_keeps (subT (by decide +kernel) hW) ?_ | intro _ _ hq | intro _
    | split

def Touch.commitVersionCore : List Nat :=
  [O.FW_SLOT_STATE, O.FW_SLOT_DIGEST, O.FW_SLOT_VERSION, O.FW_SLOT_BUILD_ID, O.FW_CMD, O.LOCK, O.GROUP_OWNER,
  O.GROUP_STATE, O.GROUP_WRITES, O.GROUP_FAIL_ADDRESS, O.GROUP_FLAGS, O.SESSION_STATE, O.SESSION_ROLE,
  O.SESSION_CA, O.SESSION_ID, O.SESSION_LAST_COUNTER, O.ROLE_ROOT, O.RING_ENABLE, O.RING_HEAD, O.RING_TAIL,
  O.RING_STATE, O.RING_COMPLETED, O.RING_REJECTED, O.VAULT_STATE, O.VAULT_HANDLE, O.VAULT_LEVEL, O.VAULT_PURPOSE,
  O.VAULT_KEY_BITS, O.VAULT_COUNTED, O.VAULT_USES_LEFT, O.VAULT_ORIGIN, O.VAULT_PARENT, O.VAULT_CREATED_AT,
  O.VAULT_ARG_KEY, O.VAULT_RESULT_HANDLE, O.GUN_STATE, O.GUN_OWNER, O.GUN_FLAGS, O.SA_KEK, O.FLT_SRC_EVENTS,
  O.FLT_SRC_LAST_AT, O.FLT_LOG_LAST_SEQ, O.FLT_LOG_OVERWRITTEN, O.FLT_EVENT_LOST, O.FLT_FIRST_SEVERE,
  O.FLT_LOG_RECORD, O.PMC_VALUE, O.PMC_STATUS, O.PEER_KEY, F.out, F.sess, F.groups, F.ring, F.pcieDma,
  F.pciePending, F.faults, F.vault, F.clsx, F.pmc, F.otp, F.fw]

theorem Device.commitVersionCore_keeps {W : List Nat} {a : Device} {r : Req} {d : Device} (hW : Sub Touch.commitVersionCore W) (h : Keeps W a d) :
    Keeps W a (Device.commitVersionCore r d).2 := by
  unfold Device.commitVersionCore
  try dsimp only
  repeat' first
    | with_reducible exact h | with_reducible assumption | exact memT (by decide +kernel) hW
    | with_reducible apply Keeps.ite | with_reducible apply Keeps.elim
    | with_reducible refine Device.runCmd_keeps ?_ ?_ ?_
    | with_reducible refine Device.burnRollback_keeps (subT (by decide +kernel) hW) ?_
    | with_reducible refine Device.failOld_keeps (subT (by decide +kernel) hW) ?_ | with_reducible apply Keeps.ite2
    | with_reducible apply Keeps.elim2 | intro _ _ hq | intro _ | split

def Touch.burnEpoch : List Nat :=
  [F.otp]

theorem Device.burnEpoch_keeps {W : List Nat} {a : Device} {d : Device} {e : Nat} (hW : Sub Touch.burnEpoch W) (h : Keeps W a d) :
    Keeps W a (Device.burnEpoch d e) := by
  unfold Device.burnEpoch
  try dsimp only
  repeat' first
    | with_reducible exact h | with_reducible refine Device.burnWord_keeps (subT (by decide +kernel) hW) ?_

def Touch.epochStep : List Nat :=
  [O.BOOT_FLAGS, O.ATT_STATE, O.ATT_EPOCH, O.ATT_LEAVES_LEFT, F.otp]

theorem Device.epochStep_keeps {W : List Nat} {a : Device} {d : Device} (hW : Sub Touch.epochStep W) (h : Keeps W a d) :
    Keeps W a (Device.epochStep d) := by
  unfold Device.epochStep
  try dsimp only
  repeat' first
    | with_reducible exact h | with_reducible assumption | exact memT (by decide +kernel) hW
    | with_reducible apply Keeps.ite | with_reducible refine Device.wr_keeps ?_ ?_
    | with_reducible refine Device.wrBit_keeps ?_ ?_
    | with_reducible refine Device.burnEpoch_keeps (subT (by decide +kernel) hW) ?_ | split

def Touch.putEvidence : List Nat :=
  [O.ATT_EVIDENCE_PART_0, O.ATT_EVIDENCE_PART_1, O.ATT_EVIDENCE_PART_2, O.ATT_EVIDENCE_PART_3,
  O.ATT_EVIDENCE_PART_4, O.ATT_EVIDENCE_PART_5]

theorem Device.putEvidence_keeps {W : List Nat} {a d : Device} {row : Nat} {rcd : Bytes} (hW : Sub Touch.putEvidence W)
    (h : Keeps W a d) : Keeps W a (d.putEvidence row rcd) := by
  unfold Device.putEvidence
  refine Keeps.foldl_mem h (fun x i hi hq => ?_)
  exact Device.wr_keeps (memR (n := 6) (by decide +kernel) (by simpa using hi) hW) hq

def Touch.signNow : List Nat :=
  [O.ATT_LEAVES_LEFT, O.ATT_CMD, O.ATT_EVIDENCE_PART_0, O.ATT_EVIDENCE_PART_1, O.ATT_EVIDENCE_PART_2,
  O.ATT_EVIDENCE_PART_3, O.ATT_EVIDENCE_PART_4, O.ATT_EVIDENCE_PART_5, F.draws, F.att]

theorem Device.signNow_keeps {W : List Nat} {a : Device} {d : Device} {row : Nat} (hW : Sub Touch.signNow W) (h : Keeps W a d) :
    Keeps W a (Device.signNow d row) := by
  unfold Device.signNow
  try dsimp only
  repeat' first
    | with_reducible exact h | exact memT (by decide +kernel) hW
    | with_reducible refine Device.unstated_keeps (subT (by decide +kernel) hW) ?_
    | with_reducible refine Device.putEvidence_keeps (subT (by decide +kernel) hW) ?_
    | with_reducible refine Device.setAtt_keeps (subT (by decide +kernel) hW) ?_
    | with_reducible refine Device.wr_keeps ?_ ?_ | with_reducible refine Device.endCmd_keeps ?_ ?_

def Touch.signWaiting : List Nat :=
  Touch.signNow

theorem Device.signWaiting_keeps {W : List Nat} {a : Device} {x0 : List Nat} {d : Device} (hW : Sub Touch.signWaiting W) (h : Keeps W a d) :
    Keeps W a (Device.signWaiting x0 d) := by
  induction x0 generalizing d with
  | nil =>
    unfold Device.signWaiting
    try dsimp only
    repeat' first
      | with_reducible exact h | with_reducible assumption | with_reducible apply Keeps.ite
      | with_reducible refine Device.setAtt_keeps (subT (by decide +kernel) hW) ?_
      | with_reducible refine Device.signNow_keeps (subT (by decide +kernel) hW) ?_ | split
  | cons _ _ ih =>
    unfold Device.signWaiting
    try dsimp only
    repeat' first
      | with_reducible exact h | with_reducible apply ih | with_reducible assumption | with_reducible apply Keeps.ite
      | with_reducible refine Device.setAtt_keeps (subT (by decide +kernel) hW) ?_
      | with_reducible refine Device.signNow_keeps (subT (by decide +kernel) hW) ?_ | split

def Touch.bottomTreeBuildDone : List Nat :=
  [O.ATT_STATE, O.ATT_LEAVES_LEFT, O.ATT_CMD, O.ATT_EVIDENCE_PART_0, O.ATT_EVIDENCE_PART_1, O.ATT_EVIDENCE_PART_2,
  O.ATT_EVIDENCE_PART_3, O.ATT_EVIDENCE_PART_4, O.ATT_EVIDENCE_PART_5, F.draws, F.att]

theorem Device.bottomTreeBuildDone_keeps {W : List Nat} {a : Device} {d : Device} (hW : Sub Touch.bottomTreeBuildDone W) (h : Keeps W a d) :
    Keeps W a (Device.bottomTreeBuildDone d) := by
  unfold Device.bottomTreeBuildDone
  try dsimp only
  repeat' first
    | with_reducible exact h | exact memT (by decide +kernel) hW | with_reducible apply Keeps.ite
    | with_reducible refine Device.draw_keeps (subT (by decide +kernel) hW) ?_
    | with_reducible refine Device.setAtt_keeps (subT (by decide +kernel) hW) ?_
    | with_reducible refine Device.wr_keeps ?_ ?_
    | with_reducible refine Device.signWaiting_keeps (subT (by decide +kernel) hW) ?_
    | with_reducible apply Keeps.ite2 | split

def Touch.newEpoch : List Nat :=
  [O.BOOT_FLAGS, O.ATT_STATE, O.ATT_EPOCH, O.ATT_LEAVES_LEFT, O.ATT_CMD, F.otp, F.att]

theorem Device.newEpoch_keeps {W : List Nat} {a : Device} {d : Device} (hW : Sub Touch.newEpoch W) (h : Keeps W a d) :
    Keeps W a (Device.newEpoch d) := by
  unfold Device.newEpoch
  try dsimp only
  repeat' first
    | with_reducible exact h | with_reducible assumption | exact memT (by decide +kernel) hW
    | with_reducible apply Keeps.ite | with_reducible apply Keeps.foldl
    | with_reducible refine Device.epochStep_keeps (subT (by decide +kernel) hW) ?_
    | with_reducible refine Device.endCmd_keeps ?_ ?_
    | with_reducible refine Device.setAtt_keeps (subT (by decide +kernel) hW) ?_ | intro _ _ hq | intro _ | split

def Touch.epochRollover : List Nat :=
  Touch.newEpoch

theorem Device.epochRollover_keeps {W : List Nat} {a : Device} {d : Device} (hW : Sub Touch.epochRollover W) (h : Keeps W a d) :
    Keeps W a (Device.epochRollover d) := by
  unfold Device.epochRollover
  try dsimp only
  repeat' first
    | with_reducible exact h | with_reducible apply Keeps.ite
    | with_reducible refine Device.newEpoch_keeps (subT (by decide +kernel) hW) ?_ | split

def Touch.attSignCore : List Nat :=
  Touch.signNow

theorem Device.attSignCore_keeps {W : List Nat} {a : Device} {r : Req} {row : Nat} {d : Device} (hW : Sub Touch.attSignCore W) (h : Keeps W a d) :
    Keeps W a (Device.attSignCore r row d).2 := by
  unfold Device.attSignCore
  try dsimp only
  repeat' first
    | with_reducible exact h | with_reducible assumption | exact memT (by decide +kernel) hW
    | with_reducible apply Keeps.ite | with_reducible refine Device.runCmd_keeps ?_ ?_ ?_
    | with_reducible refine Device.setAtt_keeps (subT (by decide +kernel) hW) ?_
    | with_reducible refine Device.signNow_keeps (subT (by decide +kernel) hW) ?_ | with_reducible apply Keeps.ite2
    | intro _ _ hq | intro _ | split

def Touch.attBuildTopCore : List Nat :=
  [O.ATT_BUILD_TOP, F.otp, F.flash]

theorem Device.attBuildTopCore_keeps {W : List Nat} {a : Device} {r : Req} {d : Device} (hW : Sub Touch.attBuildTopCore W) (h : Keeps W a d) :
    Keeps W a (Device.attBuildTopCore r d).2 := by
  unfold Device.attBuildTopCore
  try dsimp only
  repeat' first
    | with_reducible exact h | with_reducible assumption | exact memT (by decide +kernel) hW
    | with_reducible apply Keeps.foldl | with_reducible refine Device.runCmd_keeps ?_ ?_ ?_
    | with_reducible refine Device.flashWrite_keeps (subT (by decide +kernel) hW) ?_
    | with_reducible refine Device.burnWords_keeps (subT (by decide +kernel) hW) ?_
    | with_reducible apply Keeps.foldl2 | intro _ _ hq | intro _

def Touch.activateHotCore : List Nat :=
  [O.FW_CMD, O.LOCK, O.GROUP_OWNER, O.GROUP_STATE, O.GROUP_WRITES, O.GROUP_FAIL_ADDRESS, O.GROUP_FLAGS,
  O.SESSION_STATE, O.SESSION_ROLE, O.SESSION_CA, O.SESSION_ID, O.SESSION_LAST_COUNTER, O.RING_ENABLE, O.RING_HEAD,
  O.RING_TAIL, O.RING_STATE, O.RING_COMPLETED, O.RING_REJECTED, O.GUN_STATE, O.GUN_OWNER, O.GUN_FLAGS,
  O.FLT_SRC_EVENTS, O.FLT_SRC_LAST_AT, O.FLT_LOG_LAST_SEQ, O.FLT_LOG_OVERWRITTEN, O.FLT_EVENT_LOST,
  O.FLT_FIRST_SEVERE, O.FLT_LOG_RECORD, O.PMC_VALUE, O.PMC_STATUS, F.out, F.sess, F.groups, F.ring, F.pcieDma,
  F.pciePending, F.faults, F.clsx, F.pmc, F.flash, F.fw]

theorem Device.activateHotCore_keeps {W : List Nat} {a : Device} {r : Req} {d : Device} (hW : Sub Touch.activateHotCore W) (h : Keeps W a d) :
    Keeps W a (Device.activateHotCore r d).2 := by
  unfold Device.activateHotCore
  try dsimp only
  repeat' first
    | with_reducible exact h | with_reducible assumption | exact memT (by decide +kernel) hW
    | with_reducible apply Keeps.elim | with_reducible refine Device.runCmd_keeps ?_ ?_ ?_
    | with_reducible refine Device.preferSlot_keeps (subT (by decide +kernel) hW) ?_
    | with_reducible refine Device.closeSessions_keeps (subT (by decide +kernel) hW) ?_
    | with_reducible refine Device.setFw_keeps (subT (by decide +kernel) hW) ?_ | with_reducible apply Keeps.elim2
    | intro _ _ hq | intro _

def Touch.moveSlot3 : List Nat :=
  [O.LOCK, O.GROUP_OWNER, O.GROUP_STATE, O.GROUP_WRITES, O.GROUP_FAIL_ADDRESS, O.GROUP_FLAGS, O.SESSION_STATE,
  O.SESSION_ROLE, O.SESSION_CA, O.SESSION_ID, O.SESSION_LAST_COUNTER, O.ROLE_ROOT, O.RING_ENABLE, O.RING_HEAD,
  O.RING_TAIL, O.RING_STATE, O.RING_COMPLETED, O.RING_REJECTED, O.VAULT_STATE, O.VAULT_HANDLE, O.VAULT_LEVEL,
  O.VAULT_PURPOSE, O.VAULT_KEY_BITS, O.VAULT_COUNTED, O.VAULT_USES_LEFT, O.VAULT_ORIGIN, O.VAULT_PARENT,
  O.VAULT_CREATED_AT, O.VAULT_ARG_KEY, O.VAULT_RESULT_HANDLE, O.LA_RANDOM_IV_JOBS, O.GUN_STATE, O.GUN_OWNER,
  O.GUN_FLAGS, O.SA_KEK, O.FLT_SRC_EVENTS, O.FLT_SRC_LAST_AT, O.FLT_LOG_LAST_SEQ, O.FLT_LOG_OVERWRITTEN,
  O.FLT_EVENT_LOST, O.FLT_FIRST_SEVERE, O.FLT_LOG_RECORD, O.PMC_VALUE, O.PMC_STATUS, O.PEER_KEY, F.out, F.sess,
  F.groups, F.ring, F.pcieDma, F.pciePending, F.faults, F.vault, F.clsx, F.pmc]

theorem Device.moveSlot3_keeps {W : List Nat} {a : Device} {d : Device} (hW : Sub Touch.moveSlot3 W) (h : Keeps W a d) :
    Keeps W a (Device.moveSlot3 d) := by
  unfold Device.moveSlot3
  try dsimp only
  repeat' first
    | with_reducible exact h | with_reducible assumption | exact memT (by decide +kernel) hW
    | with_reducible apply Keeps.ite | with_reducible apply Keeps.foldl
    | with_reducible refine Device.zeroSlot_keeps (subT (by decide +kernel) hW) ?_
    | with_reducible refine Device.wr_keeps ?_ ?_
    | with_reducible refine Device.fillSlot_keeps (subT (by decide +kernel) hW) ?_ | intro _ _ hq | intro _ | split

def Touch.hotActivationDone : List Nat :=
  [O.FW_SLOT_STATE, O.FW_SLOT_DIGEST, O.FW_SLOT_VERSION, O.FW_SLOT_BUILD_ID, O.FW_CMD, O.FW_M_MISMATCH,
  O.FW_HOT_COUNT, O.FW_M, O.BOOT_FLAGS, O.BOOT_IMAGE, O.LOCK, O.GROUP_OWNER, O.GROUP_STATE, O.GROUP_WRITES,
  O.GROUP_FAIL_ADDRESS, O.GROUP_FLAGS, O.SESSION_STATE, O.SESSION_ROLE, O.SESSION_CA, O.SESSION_ID,
  O.SESSION_LAST_COUNTER, O.ROLE_ROOT, O.RING_ENABLE, O.RING_HEAD, O.RING_TAIL, O.RING_STATE, O.RING_COMPLETED,
  O.RING_REJECTED, O.ATT_STATE, O.ATT_EPOCH, O.ATT_LEAVES_LEFT, O.ATT_CMD, O.ATT_EVIDENCE_PART_0,
  O.ATT_EVIDENCE_PART_1, O.ATT_EVIDENCE_PART_2, O.ATT_EVIDENCE_PART_3, O.ATT_EVIDENCE_PART_4,
  O.ATT_EVIDENCE_PART_5, O.VAULT_STATE, O.VAULT_HANDLE, O.VAULT_LEVEL, O.VAULT_PURPOSE, O.VAULT_KEY_BITS,
  O.VAULT_COUNTED, O.VAULT_USES_LEFT, O.VAULT_ORIGIN, O.VAULT_PARENT, O.VAULT_CREATED_AT, O.VAULT_ARG_KEY,
  O.VAULT_RESULT_HANDLE, O.LA_RANDOM_IV_JOBS, O.GUN_STATE, O.GUN_OWNER, O.GUN_FLAGS, O.SA_KEK, O.FLT_SRC_EVENTS,
  O.FLT_SRC_LAST_AT, O.FLT_LOG_LAST_SEQ, O.FLT_LOG_OVERWRITTEN, O.FLT_EVENT_LOST, O.FLT_FIRST_SEVERE,
  O.FLT_LOG_RECORD, O.PMC_VALUE, O.PMC_STATUS, O.PEER_KEY, F.draws, F.out, F.sess, F.groups, F.ring, F.pcieDma,
  F.pciePending, F.faults, F.vault, F.clsx, F.pmc, F.otp, F.fw, F.att]

theorem Device.hotActivationDone_keeps {W : List Nat} {a : Device} {d : Device} (hW : Sub Touch.hotActivationDone W) (h : Keeps W a d) :
    Keeps W a (Device.hotActivationDone d) := by
  unfold Device.hotActivationDone
  try dsimp only
  repeat' first
    | with_reducible exact h | with_reducible assumption | exact memT (by decide +kernel) hW
    | with_reducible apply Keeps.elim | with_reducible refine Device.setSlot_keeps (subT (by decide +kernel) hW) ?_
    | with_reducible refine Device.wr_keeps ?_ ?_
    | with_reducible refine Device.setFw_keeps (subT (by decide +kernel) hW) ?_
    | with_reducible refine Device.moveSlot3_keeps (subT (by decide +kernel) hW) ?_
    | with_reducible refine Device.newEpoch_keeps (subT (by decide +kernel) hW) ?_
    | with_reducible refine Device.bottomTreeBuildDone_keeps (subT (by decide +kernel) hW) ?_
    | with_reducible refine Device.inc32_keeps ?_ ?_ | with_reducible refine Device.endCmd_keeps ?_ ?_ | intro _ _ hq
    | intro _ | split

end Sys2Proof.Machine
end

