-- ==== Sys2Proof/Laws/KeepsLifeCycle.lean ====
section
/-!
SUPPORT. The places that each operation of Machine/LifeCycle.lean may change (Laws/Keeps.lean).
-/
set_option Elab.async false
set_option linter.all false
set_option linter.unusedTactic false
set_option linter.unreachableTactic false
set_option linter.style.longLine false
namespace Sys2Proof.Machine

def Touch.setLc : List Nat :=
  [F.lc]

theorem Device.setLc_keeps {W : List Nat} {a : Device} {d : Device} {x : LcX} (hW : Sub Touch.setLc W) (h : Keeps W a d) :
    Keeps W a (Device.setLc d x) := 
  h.same rfl rfl (fun k hk => by
    unfold sameField
    split <;> first | rfl | exact absurd (memF (by decide +kernel) hW) hk | trivial)

def Touch.lcZeroize : List Nat :=
  [O.LOCK, O.GROUP_OWNER, O.GROUP_STATE, O.GROUP_WRITES, O.GROUP_FAIL_ADDRESS, O.GROUP_FLAGS, O.SESSION_STATE,
  O.SESSION_ROLE, O.SESSION_CA, O.SESSION_ID, O.SESSION_LAST_COUNTER, O.ROLE_ROOT, O.RING_ENABLE, O.RING_HEAD,
  O.RING_TAIL, O.RING_STATE, O.RING_COMPLETED, O.RING_REJECTED, O.INJECT_REFUSED, O.RUNAHEAD_FALSE_STARTS,
  O.RUNAHEAD_WASTED_CELLS, O.BANK_DISCARDS, O.VAULT_STATE, O.VAULT_HANDLE, O.VAULT_LEVEL, O.VAULT_PURPOSE,
  O.VAULT_KEY_BITS, O.VAULT_COUNTED, O.VAULT_USES_LEFT, O.VAULT_ORIGIN, O.VAULT_PARENT, O.VAULT_CREATED_AT,
  O.VAULT_ARG_KEY, O.VAULT_RESULT_HANDLE, O.DRBG_STATE, O.GUN_STATE, O.GUN_OWNER, O.GUN_FLAGS,
  O.PORT_FC_TX_XOFF_C0, O.PORT_FC_TX_XOFF_C1, O.PORT_FC_TX_XOFF_C2, O.PORT_FC_TX_XOFF_C3, O.PORT_FC_TX_XOFF_C4,
  O.PORT_FC_TX_XOFF_C5, O.PORT_FC_TX_XOFF_C6, O.PORT_FC_TX_XOFF_C7, O.SC_STATUS, O.SA_STATE, O.SA_KEK, O.SA_SLOT,
  O.SA_FLAGS, O.SA_CHANGED_AT, O.SCSA_SLOT0_ROW, O.SCSA_SLOT1_ROW, O.SCSA_IN_FORCE_AN, O.SCSA_ZONE_OPEN,
  O.SA_STAT_PKTS, O.SA_STAT_OCTETS, O.SA_STAT_PKTS_ENCRYPTED, O.SA_STAT_NOT_VALID, O.SA_STAT_COMMIT_LATE,
  O.SA_STAT_TX_LOST, O.CALLROOM_OCCUPANCY, O.CALLROOM_PEAK, O.QUEUE_OCCUPANCY, O.QUEUE_NODE, O.BUFP_USED_CELLS,
  O.BUF_HEADROOM_USED, O.FLT_SRC_EVENTS, O.FLT_SRC_LAST_AT, O.FLT_LOG_LAST_SEQ, O.FLT_LOG_OVERWRITTEN,
  O.FLT_EVENT_LOST, O.FLT_FIRST_SEVERE, O.FLT_LOG_RECORD, O.PMC_VALUE, O.PMC_STATUS, O.PEER_KEY, F.draws, F.out,
  F.sess, F.groups, F.ring, F.pcieDma, F.pciePending, F.faults, F.vault, F.checkKey, F.storeKey, F.keyTests,
  F.keyRestart, F.keyScrub, F.saRecs, F.saCtxs, F.banks, F.pipe, F.clsx, F.queues, F.nodes, F.pairs, F.ports,
  F.laps, F.pmc, F.memRest, F.fw, F.keyScrubFrom, F.keyReseed, F.keyRequests]

theorem Device.lcZeroize_keeps {W : List Nat} {a : Device} {d : Device} (hW : Sub Touch.lcZeroize W) (h : Keeps W a d) :
    Keeps W a (Device.lcZeroize d) := by
  unfold Device.lcZeroize
  try dsimp only
  repeat' first
    | with_reducible exact h | with_reducible assumption
    | with_reducible refine Device.unstage_keeps (subT (by decide +kernel) hW) ?_
    | with_reducible refine Device.zeroAll_keeps (subT (by decide +kernel) hW) ?_
    | with_reducible refine Device.zeroPerBoot_keeps (subT (by decide +kernel) hW) ?_
    | with_reducible refine Device.clearBanks_keeps (subT (by decide +kernel) hW) ?_
    | with_reducible refine Device.memZero_keeps (subT (by decide +kernel) hW) ?_ | intro _ _ hq | intro _

def Touch.clsLost : List Nat :=
  [O.LEARN_ENTRIES, O.RXSC_ENTRY, O.CLS_ENTRIES, F.clsx]

theorem Device.clsLost_keeps {W : List Nat} {a d : Device} (hW : Sub Touch.clsLost W) (h : Keeps W a d) :
    Keeps W a d.clsLost := by
  unfold Device.clsLost
  dsimp only
  refine Keeps.foldl_mem (Device.wr_keeps (memT (by decide +kernel) hW) (Device.setCls_keeps (subT (by decide +kernel) hW) h))
    (fun x e he hq => ?_)
  have hm : Here (e.1 / 2 ^ 24) W := by
    simp only [List.mem_filter, Bool.or_eq_true, beq_iff_eq] at he
    rcases he.2 with x | x <;> rw [x] <;> exact memT (by decide +kernel) hW
  exact Device.wr_keeps hm hq

def Touch.memContentsLost : List Nat :=
  [O.SA_STAT_PKTS, O.SA_STAT_OCTETS, O.SA_STAT_PKTS_ENCRYPTED, O.SA_STAT_NOT_VALID, O.SA_STAT_COMMIT_LATE,
  O.SA_STAT_TX_LOST, O.LEARN_ENTRIES, O.RXSC_ENTRY, O.CLS_ENTRIES, F.clsx, F.laps]

theorem Device.memContentsLost_keeps {W : List Nat} {a : Device} {d : Device} (hW : Sub Touch.memContentsLost W) (h : Keeps W a d) :
    Keeps W a (Device.memContentsLost d) := by
  unfold Device.memContentsLost
  try dsimp only
  repeat' first
    | with_reducible exact h | with_reducible assumption | with_reducible apply Keeps.foldl
    | with_reducible refine Device.clsLost_keeps (subT (by decide +kernel) hW) ?_
    | with_reducible refine Device.setLaps_keeps (subT (by decide +kernel) hW) ?_
    | with_reducible refine Device.clearStats_keeps (subT (by decide +kernel) hW) ?_ | intro _ _ hq | intro _

def Touch.perBootKeys : List Nat :=
  Touch.drawBytes

theorem Device.perBootKeys_keeps {W : List Nat} {a : Device} {d : Device} (hW : Sub Touch.perBootKeys W) (h : Keeps W a d) :
    Keeps W a (Device.perBootKeys d) := by
  unfold Device.perBootKeys
  try dsimp only
  repeat' first
    | with_reducible exact h | with_reducible refine Device.drawBytes_keeps (subT (by decide +kernel) hW) ?_
    | with_reducible refine Device.setKeys_keeps (subT (by decide +kernel) hW) ?_ rfl

def Touch.otpFieldFail : List Nat :=
  Touch.fault

theorem Device.otpFieldFail_keeps {W : List Nat} {a : Device} {d : Device} {unit : Nat} (hW : Sub Touch.otpFieldFail W) (h : Keeps W a d) :
    Keeps W a (Device.otpFieldFail d unit) := by
  unfold Device.otpFieldFail
  try dsimp only
  repeat' first
    | with_reducible exact h | with_reducible refine Device.faultUnit_keeps (subT (by decide +kernel) hW) ?_

def Touch.fillRoots : List Nat :=
  [O.LOCK, O.GROUP_OWNER, O.GROUP_STATE, O.GROUP_WRITES, O.GROUP_FAIL_ADDRESS, O.GROUP_FLAGS, O.SESSION_STATE,
  O.SESSION_ROLE, O.SESSION_CA, O.SESSION_ID, O.SESSION_LAST_COUNTER, O.ROLE_ROOT, O.RING_ENABLE, O.RING_HEAD,
  O.RING_TAIL, O.RING_STATE, O.RING_COMPLETED, O.RING_REJECTED, O.INJECT_REFUSED, O.MODE, O.MODE_CMD,
  O.MODE_ENTERED_AT, O.MODE_CAUSE, O.RUNAHEAD_FALSE_STARTS, O.RUNAHEAD_WASTED_CELLS, O.BANK_DISCARDS,
  O.VAULT_STATE, O.VAULT_HANDLE, O.VAULT_LEVEL, O.VAULT_PURPOSE, O.VAULT_KEY_BITS, O.VAULT_COUNTED,
  O.VAULT_USES_LEFT, O.VAULT_ORIGIN, O.VAULT_PARENT, O.VAULT_CREATED_AT, O.VAULT_ARG_KEY, O.VAULT_CMD,
  O.VAULT_RESULT_HANDLE, O.DRBG_STATE, O.LA_CONTEXTS_BUSY, O.LA_RANDOM_IV_JOBS, O.GUN_STATE, O.GUN_OWNER,
  O.GUN_FLAGS, O.PORT_TX_FRAMES, O.PORT_TX_BYTES, O.PORT_TX_TRUNCATED, O.PORT_FC_TX_XOFF_C0, O.PORT_FC_TX_XOFF_C1,
  O.PORT_FC_TX_XOFF_C2, O.PORT_FC_TX_XOFF_C3, O.PORT_FC_TX_XOFF_C4, O.PORT_FC_TX_XOFF_C5, O.PORT_FC_TX_XOFF_C6,
  O.PORT_FC_TX_XOFF_C7, O.SC_STATUS, O.SA_STATE, O.SA_KEK, O.SA_SLOT, O.SA_FLAGS, O.SA_CHANGED_AT,
  O.SCSA_SLOT0_ROW, O.SCSA_SLOT1_ROW, O.SCSA_IN_FORCE_AN, O.SCSA_ZONE_OPEN, O.SA_STAT_PKTS, O.SA_STAT_OCTETS,
  O.SA_STAT_PKTS_ENCRYPTED, O.SA_STAT_NOT_VALID, O.SA_STAT_COMMIT_LATE, O.SA_STAT_TX_LOST, O.CALLROOM_OCCUPANCY,
  O.CALLROOM_PEAK, O.QUEUE_OCCUPANCY, O.QUEUE_NODE, O.BUFP_USED_CELLS, O.BUF_HEADROOM_USED, O.FLT_SRC_CLASS,
  O.FLT_SRC_EVENTS, O.FLT_SRC_LAST_AT, O.FLT_STATUS, O.FLT_FATAL_SINCE_BOOT, O.FLT_LOG_LAST_SEQ,
  O.FLT_LOG_OVERWRITTEN, O.FLT_EVENT_LOST, O.FLT_FIRST_SEVERE, O.FLT_LOG_RECORD, O.PMC_VALUE, O.PMC_STATUS,
  O.PEER_KEY, F.mode, F.draws, F.out, F.sess, F.groups, F.ring, F.pcieDma, F.pciePending, F.faults, F.vault,
  F.checkKey, F.storeKey, F.keyTests, F.keyRestart, F.keyScrub, F.saRecs, F.saCtxs, F.banks, F.pipe, F.clsx,
  F.queues, F.nodes, F.pairs, F.ports, F.laps, F.pmc, F.lc, F.la, F.keyScrubFrom, F.keyReseed, F.keyRequests]

theorem Device.fillRoots_keeps {W : List Nat} {a : Device} {d : Device} (hW : Sub Touch.fillRoots W) (h : Keeps W a d) :
    Keeps W a (Device.fillRoots d) := by
  unfold Device.fillRoots
  try dsimp only
  repeat' first
    | with_reducible exact h | with_reducible apply Keeps.ite
    | with_reducible refine Device.fillSlot_keeps (subT (by decide +kernel) hW) ?_
    | with_reducible refine Device.otpFieldFail_keeps (subT (by decide +kernel) hW) ?_ | split

def Touch.fillSealing : List Nat :=
  Touch.fillSlot

theorem Device.fillSealing_keeps {W : List Nat} {a : Device} {d : Device} (hW : Sub Touch.fillSealing W) (h : Keeps W a d) :
    Keeps W a (Device.fillSealing d) := by
  unfold Device.fillSealing
  try dsimp only
  repeat' first
    | with_reducible exact h | with_reducible apply Keeps.ite
    | with_reducible refine Device.fillSlot_keeps (subT (by decide +kernel) hW) ?_ | split

def Touch.lcRebuildDone : List Nat :=
  [O.LOCK, O.GROUP_OWNER, O.GROUP_STATE, O.GROUP_WRITES, O.GROUP_FAIL_ADDRESS, O.GROUP_FLAGS, O.SESSION_STATE,
  O.SESSION_ROLE, O.SESSION_CA, O.SESSION_ID, O.SESSION_LAST_COUNTER, O.ROLE_ROOT, O.RING_ENABLE, O.RING_HEAD,
  O.RING_TAIL, O.RING_STATE, O.RING_COMPLETED, O.RING_REJECTED, O.INJECT_REFUSED, O.MODE, O.MODE_CMD,
  O.MODE_ENTERED_AT, O.MODE_CAUSE, O.RUNAHEAD_FALSE_STARTS, O.RUNAHEAD_WASTED_CELLS, O.BANK_DISCARDS,
  O.VAULT_STATE, O.VAULT_HANDLE, O.VAULT_LEVEL, O.VAULT_PURPOSE, O.VAULT_KEY_BITS, O.VAULT_COUNTED,
  O.VAULT_USES_LEFT, O.VAULT_ORIGIN, O.VAULT_PARENT, O.VAULT_CREATED_AT, O.VAULT_ARG_KEY, O.VAULT_CMD,
  O.VAULT_RESULT_HANDLE, O.DRBG_STATE, O.LA_CONTEXTS_BUSY, O.LA_RANDOM_IV_JOBS, O.GUN_STATE, O.GUN_OWNER,
  O.GUN_FLAGS, O.PORT_TX_FRAMES, O.PORT_TX_BYTES, O.PORT_TX_TRUNCATED, O.PORT_FC_TX_XOFF_C0, O.PORT_FC_TX_XOFF_C1,
  O.PORT_FC_TX_XOFF_C2, O.PORT_FC_TX_XOFF_C3, O.PORT_FC_TX_XOFF_C4, O.PORT_FC_TX_XOFF_C5, O.PORT_FC_TX_XOFF_C6,
  O.PORT_FC_TX_XOFF_C7, O.SC_STATUS, O.SA_STATE, O.SA_KEK, O.SA_SLOT, O.SA_FLAGS, O.SA_CHANGED_AT,
  O.SCSA_SLOT0_ROW, O.SCSA_SLOT1_ROW, O.SCSA_IN_FORCE_AN, O.SCSA_ZONE_OPEN, O.SA_STAT_PKTS, O.SA_STAT_OCTETS,
  O.SA_STAT_PKTS_ENCRYPTED, O.SA_STAT_NOT_VALID, O.SA_STAT_COMMIT_LATE, O.SA_STAT_TX_LOST, O.LEARN_ENTRIES,
  O.RXSC_ENTRY, O.CALLROOM_OCCUPANCY, O.CALLROOM_PEAK, O.CLS_ENTRIES, O.QUEUE_OCCUPANCY, O.QUEUE_NODE,
  O.BUFP_USED_CELLS, O.BUF_HEADROOM_USED, O.FLT_SRC_CLASS, O.FLT_SRC_EVENTS, O.FLT_SRC_LAST_AT, O.FLT_STATUS,
  O.FLT_FATAL_SINCE_BOOT, O.FLT_LOG_LAST_SEQ, O.FLT_LOG_OVERWRITTEN, O.FLT_EVENT_LOST, O.FLT_FIRST_SEVERE,
  O.FLT_LOG_RECORD, O.PMC_VALUE, O.PMC_STATUS, O.PEER_KEY, F.mode, F.draws, F.out, F.sess, F.groups, F.ring,
  F.pcieDma, F.pciePending, F.faults, F.vault, F.checkKey, F.storeKey, F.keyTests, F.keyRestart, F.keyScrub,
  F.saRecs, F.saCtxs, F.banks, F.pipe, F.clsx, F.queues, F.nodes, F.pairs, F.ports, F.laps, F.pmc, F.memCells,
  F.memRest, F.lc, F.la, F.keyScrubFrom, F.keyReseed, F.keyRequests]

theorem Device.lcRebuildDone_keeps {W : List Nat} {a : Device} {d : Device} (hW : Sub Touch.lcRebuildDone W) (h : Keeps W a d) :
    Keeps W a (Device.lcRebuildDone d) := by
  unfold Device.lcRebuildDone
  try dsimp only
  repeat' first
    | with_reducible exact h | exact memT (by decide +kernel) hW | with_reducible apply Keeps.ite
    | with_reducible refine Device.setLc_keeps (subT (by decide +kernel) hW) ?_
    | with_reducible refine Device.wr_keeps ?_ ?_
    | with_reducible refine Device.seeded_keeps (subT (by decide +kernel) hW) ?_
    | with_reducible refine Device.perBootKeys_keeps (subT (by decide +kernel) hW) ?_
    | with_reducible refine Device.memInit_keeps (subT (by decide +kernel) hW) ?_
    | with_reducible refine Device.memContentsLost_keeps (subT (by decide +kernel) hW) ?_
    | with_reducible refine Device.fillRoots_keeps (subT (by decide +kernel) hW) ?_
    | with_reducible refine Device.fillSealing_keeps (subT (by decide +kernel) hW) ?_ | split

def Touch.burnMark : List Nat :=
  [F.otp]

theorem Device.burnMark_keeps {W : List Nat} {a : Device} {d : Device} {t : Trans} {k : Nat} (hW : Sub Touch.burnMark W) (h : Keeps W a d) :
    Keeps W a (Device.burnMark d t k) := by
  unfold Device.burnMark
  try dsimp only
  repeat' first
    | with_reducible exact h | with_reducible refine Device.burnBits_keeps (subT (by decide +kernel) hW) ?_

def Touch.burnCode : List Nat :=
  [F.otp]

theorem Device.burnCode_keeps {W : List Nat} {a : Device} {d : Device} {st : Nat} (hW : Sub Touch.burnCode W) (h : Keeps W a d) :
    Keeps W a (Device.burnCode d st) := by
  unfold Device.burnCode
  try dsimp only
  repeat' first
    | with_reducible exact h | with_reducible assumption | with_reducible apply Keeps.foldl
    | with_reducible refine Device.burnBits_keeps (subT (by decide +kernel) hW) ?_ | intro _ _ hq | intro _

def Touch.burnDus : List Nat :=
  [F.otp]

theorem Device.burnDus_keeps {W : List Nat} {a : Device} {d : Device} {b : Bool} {v : Nat} (hW : Sub Touch.burnDus W) (h : Keeps W a d) :
    Keeps W a (Device.burnDus d b v) := by
  unfold Device.burnDus
  try dsimp only
  repeat' first
    | with_reducible exact h | with_reducible apply Keeps.ite
    | with_reducible refine Device.burnBits_keeps (subT (by decide +kernel) hW) ?_ | split

def Touch.drawDus : List Nat :=
  [F.draws, F.checkKey, F.storeKey, F.keyTests, F.keyRestart, F.keyScrub, F.otp, F.keyScrubFrom, F.keyReseed,
  F.keyRequests]

theorem Device.drawDus_keeps {W : List Nat} {a : Device} {d : Device} (hW : Sub Touch.drawDus W) (h : Keeps W a d) :
    Keeps W a (Device.drawDus d) := by
  unfold Device.drawDus
  try dsimp only
  repeat' first
    | with_reducible exact h | with_reducible refine Device.drawBytes_keeps (subT (by decide +kernel) hW) ?_
    | with_reducible refine Device.burnDus_keeps (subT (by decide +kernel) hW) ?_

def Touch.burnSealValues : List Nat :=
  [F.otp]

theorem Device.burnSealValues_keeps {W : List Nat} {a : Device} {d : Device} (hW : Sub Touch.burnSealValues W) (h : Keeps W a d) :
    Keeps W a (Device.burnSealValues d) := by
  unfold Device.burnSealValues
  try dsimp only
  repeat' first
    | with_reducible exact h | with_reducible refine Device.burnBits_keeps (subT (by decide +kernel) hW) ?_

def Touch.burnOwnerField : List Nat :=
  [F.otp]

theorem Device.burnOwnerField_keeps {W : List Nat} {a : Device} {d : Device} (hW : Sub Touch.burnOwnerField W) (h : Keeps W a d) :
    Keeps W a (Device.burnOwnerField d) := by
  unfold Device.burnOwnerField
  try dsimp only
  repeat' first
    | with_reducible exact h | with_reducible refine Device.burnBits_keeps (subT (by decide +kernel) hW) ?_

def Touch.eraseOwner : List Nat :=
  [F.otp]

theorem Device.eraseOwner_keeps {W : List Nat} {a : Device} {d : Device} (hW : Sub Touch.eraseOwner W) (h : Keeps W a d) :
    Keeps W a (Device.eraseOwner d) := by
  unfold Device.eraseOwner
  try dsimp only
  repeat' first
    | with_reducible exact h | with_reducible refine Device.burnBits_keeps (subT (by decide +kernel) hW) ?_

def Touch.eraseDus : List Nat :=
  [F.otp]

theorem Device.eraseDus_keeps {W : List Nat} {a : Device} {d : Device} (hW : Sub Touch.eraseDus W) (h : Keeps W a d) :
    Keeps W a (Device.eraseDus d) := by
  unfold Device.eraseDus
  try dsimp only
  repeat' first
    | with_reducible exact h | with_reducible refine Device.burnBits_keeps (subT (by decide +kernel) hW) ?_

def Touch.transStep : List Nat :=
  [O.LOCK, O.GROUP_OWNER, O.GROUP_STATE, O.GROUP_WRITES, O.GROUP_FAIL_ADDRESS, O.GROUP_FLAGS, O.SESSION_STATE,
  O.SESSION_ROLE, O.SESSION_CA, O.SESSION_ID, O.SESSION_LAST_COUNTER, O.ROLE_ROOT, O.RING_ENABLE, O.RING_HEAD,
  O.RING_TAIL, O.RING_STATE, O.RING_COMPLETED, O.RING_REJECTED, O.INJECT_REFUSED, O.RUNAHEAD_FALSE_STARTS,
  O.RUNAHEAD_WASTED_CELLS, O.BANK_DISCARDS, O.VAULT_STATE, O.VAULT_HANDLE, O.VAULT_LEVEL, O.VAULT_PURPOSE,
  O.VAULT_KEY_BITS, O.VAULT_COUNTED, O.VAULT_USES_LEFT, O.VAULT_ORIGIN, O.VAULT_PARENT, O.VAULT_CREATED_AT,
  O.VAULT_ARG_KEY, O.VAULT_RESULT_HANDLE, O.DRBG_STATE, O.GUN_STATE, O.GUN_OWNER, O.GUN_FLAGS,
  O.PORT_FC_TX_XOFF_C0, O.PORT_FC_TX_XOFF_C1, O.PORT_FC_TX_XOFF_C2, O.PORT_FC_TX_XOFF_C3, O.PORT_FC_TX_XOFF_C4,
  O.PORT_FC_TX_XOFF_C5, O.PORT_FC_TX_XOFF_C6, O.PORT_FC_TX_XOFF_C7, O.SC_STATUS, O.SA_STATE, O.SA_KEK, O.SA_SLOT,
  O.SA_FLAGS, O.SA_CHANGED_AT, O.SCSA_SLOT0_ROW, O.SCSA_SLOT1_ROW, O.SCSA_IN_FORCE_AN, O.SCSA_ZONE_OPEN,
  O.SA_STAT_PKTS, O.SA_STAT_OCTETS, O.SA_STAT_PKTS_ENCRYPTED, O.SA_STAT_NOT_VALID, O.SA_STAT_COMMIT_LATE,
  O.SA_STAT_TX_LOST, O.CALLROOM_OCCUPANCY, O.CALLROOM_PEAK, O.QUEUE_OCCUPANCY, O.QUEUE_NODE, O.BUFP_USED_CELLS,
  O.BUF_HEADROOM_USED, O.FLT_SRC_EVENTS, O.FLT_SRC_LAST_AT, O.FLT_LOG_LAST_SEQ, O.FLT_LOG_OVERWRITTEN,
  O.FLT_EVENT_LOST, O.FLT_FIRST_SEVERE, O.FLT_LOG_RECORD, O.PMC_VALUE, O.PMC_STATUS, O.PEER_KEY, F.draws, F.out,
  F.sess, F.groups, F.ring, F.pcieDma, F.pciePending, F.faults, F.vault, F.checkKey, F.storeKey, F.keyTests,
  F.keyRestart, F.keyScrub, F.saRecs, F.saCtxs, F.banks, F.pipe, F.clsx, F.queues, F.nodes, F.pairs, F.ports,
  F.laps, F.pmc, F.memRest, F.otp, F.fw, F.keyScrubFrom, F.keyReseed, F.keyRequests]

theorem Device.transStep_keeps {W : List Nat} {a : Device} {d : Device} {t : Trans} {k : Nat} (hW : Sub Touch.transStep W) (h : Keeps W a d) :
    Keeps W a (Device.transStep d t k) := by
  unfold Device.transStep
  try dsimp only
  repeat' first
    | with_reducible exact h | with_reducible assumption | with_reducible apply Keeps.ite
    | with_reducible refine Device.lcZeroize_keeps (subT (by decide +kernel) hW) ?_
    | with_reducible refine Device.burnCode_keeps (subT (by decide +kernel) hW) ?_
    | with_reducible refine Device.burnSealValues_keeps (subT (by decide +kernel) hW) ?_
    | with_reducible refine Device.drawDus_keeps (subT (by decide +kernel) hW) ?_
    | with_reducible refine Device.burnOwnerField_keeps (subT (by decide +kernel) hW) ?_
    | with_reducible refine Device.eraseOwner_keeps (subT (by decide +kernel) hW) ?_
    | with_reducible refine Device.eraseDus_keeps (subT (by decide +kernel) hW) ?_
    | with_reducible refine Device.burnBits_keeps (subT (by decide +kernel) hW) ?_ | split

def Touch.runSteps : List Nat :=
  Touch.transStep

theorem Device.runSteps_keeps {W : List Nat} {a : Device} {t : Trans} {x0 : Nat} {x1 : Nat} {d : Device} (hW : Sub Touch.runSteps W) (h : Keeps W a d) :
    Keeps W a (Device.runSteps t x0 x1 d) := by
  induction x0 generalizing x1 d with
  | zero =>
    unfold Device.runSteps
    try dsimp only
    repeat' first
      | with_reducible exact h | with_reducible assumption
      | with_reducible refine Device.burnMark_keeps (subT (by decide +kernel) hW) ?_
      | with_reducible refine Device.transStep_keeps (subT (by decide +kernel) hW) ?_ | split
  | succ _ ih =>
    unfold Device.runSteps
    try dsimp only
    repeat' first
      | with_reducible exact h | with_reducible apply ih | with_reducible assumption
      | with_reducible refine Device.burnMark_keeps (subT (by decide +kernel) hW) ?_
      | with_reducible refine Device.transStep_keeps (subT (by decide +kernel) hW) ?_ | split

def Touch.showState : List Nat :=
  [O.LC_STATE]

theorem Device.showState_keeps {W : List Nat} {a : Device} {d : Device} {st : Nat} (hW : Sub Touch.showState W) (h : Keeps W a d) :
    Keeps W a (Device.showState d st) := by
  unfold Device.showState
  try dsimp only
  repeat' first
    | with_reducible exact h | exact memT (by decide +kernel) hW | with_reducible apply Keeps.ite
    | with_reducible refine Device.wr_keeps ?_ ?_ | split

def Touch.runTrans : List Nat :=
  [O.LOCK, O.GROUP_OWNER, O.GROUP_STATE, O.GROUP_WRITES, O.GROUP_FAIL_ADDRESS, O.GROUP_FLAGS, O.SESSION_STATE,
  O.SESSION_ROLE, O.SESSION_CA, O.SESSION_ID, O.SESSION_LAST_COUNTER, O.ROLE_ROOT, O.RING_ENABLE, O.RING_HEAD,
  O.RING_TAIL, O.RING_STATE, O.RING_COMPLETED, O.RING_REJECTED, O.INJECT_REFUSED, O.RUNAHEAD_FALSE_STARTS,
  O.RUNAHEAD_WASTED_CELLS, O.BANK_DISCARDS, O.LC_STATE, O.LC_PENDING, O.VAULT_STATE, O.VAULT_HANDLE, O.VAULT_LEVEL,
  O.VAULT_PURPOSE, O.VAULT_KEY_BITS, O.VAULT_COUNTED, O.VAULT_USES_LEFT, O.VAULT_ORIGIN, O.VAULT_PARENT,
  O.VAULT_CREATED_AT, O.VAULT_ARG_KEY, O.VAULT_RESULT_HANDLE, O.DRBG_STATE, O.GUN_STATE, O.GUN_OWNER, O.GUN_FLAGS,
  O.PORT_FC_TX_XOFF_C0, O.PORT_FC_TX_XOFF_C1, O.PORT_FC_TX_XOFF_C2, O.PORT_FC_TX_XOFF_C3, O.PORT_FC_TX_XOFF_C4,
  O.PORT_FC_TX_XOFF_C5, O.PORT_FC_TX_XOFF_C6, O.PORT_FC_TX_XOFF_C7, O.SC_STATUS, O.SA_STATE, O.SA_KEK, O.SA_SLOT,
  O.SA_FLAGS, O.SA_CHANGED_AT, O.SCSA_SLOT0_ROW, O.SCSA_SLOT1_ROW, O.SCSA_IN_FORCE_AN, O.SCSA_ZONE_OPEN,
  O.SA_STAT_PKTS, O.SA_STAT_OCTETS, O.SA_STAT_PKTS_ENCRYPTED, O.SA_STAT_NOT_VALID, O.SA_STAT_COMMIT_LATE,
  O.SA_STAT_TX_LOST, O.CALLROOM_OCCUPANCY, O.CALLROOM_PEAK, O.QUEUE_OCCUPANCY, O.QUEUE_NODE, O.BUFP_USED_CELLS,
  O.BUF_HEADROOM_USED, O.FLT_SRC_EVENTS, O.FLT_SRC_LAST_AT, O.FLT_LOG_LAST_SEQ, O.FLT_LOG_OVERWRITTEN,
  O.FLT_EVENT_LOST, O.FLT_FIRST_SEVERE, O.FLT_LOG_RECORD, O.PMC_VALUE, O.PMC_STATUS, O.PEER_KEY, F.draws, F.out,
  F.sess, F.groups, F.ring, F.pcieDma, F.pciePending, F.faults, F.vault, F.checkKey, F.storeKey, F.keyTests,
  F.keyRestart, F.keyScrub, F.saRecs, F.saCtxs, F.banks, F.pipe, F.clsx, F.queues, F.nodes, F.pairs, F.ports,
  F.laps, F.pmc, F.memRest, F.otp, F.lc, F.fw, F.keyScrubFrom, F.keyReseed, F.keyRequests]

theorem Device.runTrans_keeps {W : List Nat} {a : Device} {d : Device} {t : Trans} (hW : Sub Touch.runTrans W) (h : Keeps W a d) :
    Keeps W a (Device.runTrans d t) := by
  unfold Device.runTrans
  try dsimp only
  repeat' first
    | with_reducible exact h | exact memT (by decide +kernel) hW
    | with_reducible refine Device.runSteps_keeps (subT (by decide +kernel) hW) ?_
    | with_reducible refine Device.setLc_keeps (subT (by decide +kernel) hW) ?_
    | with_reducible refine Device.wr_keeps ?_ ?_

def Touch.resumeDus : List Nat :=
  Touch.drawDus

theorem Device.resumeDus_keeps {W : List Nat} {a : Device} {d : Device} (hW : Sub Touch.resumeDus W) (h : Keeps W a d) :
    Keeps W a (Device.resumeDus d).2 := by
  unfold Device.resumeDus
  try dsimp only
  repeat' first
    | with_reducible exact h | with_reducible apply Keeps.ite
    | with_reducible refine Device.drawBytes_keeps (subT (by decide +kernel) hW) ?_
    | with_reducible refine Device.burnDus_keeps (subT (by decide +kernel) hW) ?_ | with_reducible apply Keeps.ite2
    | split

def Touch.resumeTrans : List Nat :=
  [O.BOOT_FLAGS, O.BOOT_LC_RESUME_STEP, O.LOCK, O.GROUP_OWNER, O.GROUP_STATE, O.GROUP_WRITES, O.GROUP_FAIL_ADDRESS,
  O.GROUP_FLAGS, O.SESSION_STATE, O.SESSION_ROLE, O.SESSION_CA, O.SESSION_ID, O.SESSION_LAST_COUNTER, O.ROLE_ROOT,
  O.RING_ENABLE, O.RING_HEAD, O.RING_TAIL, O.RING_STATE, O.RING_COMPLETED, O.RING_REJECTED, O.INJECT_REFUSED,
  O.RUNAHEAD_FALSE_STARTS, O.RUNAHEAD_WASTED_CELLS, O.BANK_DISCARDS, O.LC_PENDING, O.VAULT_STATE, O.VAULT_HANDLE,
  O.VAULT_LEVEL, O.VAULT_PURPOSE, O.VAULT_KEY_BITS, O.VAULT_COUNTED, O.VAULT_USES_LEFT, O.VAULT_ORIGIN,
  O.VAULT_PARENT, O.VAULT_CREATED_AT, O.VAULT_ARG_KEY, O.VAULT_RESULT_HANDLE, O.DRBG_STATE, O.GUN_STATE,
  O.GUN_OWNER, O.GUN_FLAGS, O.PORT_FC_TX_XOFF_C0, O.PORT_FC_TX_XOFF_C1, O.PORT_FC_TX_XOFF_C2, O.PORT_FC_TX_XOFF_C3,
  O.PORT_FC_TX_XOFF_C4, O.PORT_FC_TX_XOFF_C5, O.PORT_FC_TX_XOFF_C6, O.PORT_FC_TX_XOFF_C7, O.SC_STATUS, O.SA_STATE,
  O.SA_KEK, O.SA_SLOT, O.SA_FLAGS, O.SA_CHANGED_AT, O.SCSA_SLOT0_ROW, O.SCSA_SLOT1_ROW, O.SCSA_IN_FORCE_AN,
  O.SCSA_ZONE_OPEN, O.SA_STAT_PKTS, O.SA_STAT_OCTETS, O.SA_STAT_PKTS_ENCRYPTED, O.SA_STAT_NOT_VALID,
  O.SA_STAT_COMMIT_LATE, O.SA_STAT_TX_LOST, O.CALLROOM_OCCUPANCY, O.CALLROOM_PEAK, O.QUEUE_OCCUPANCY, O.QUEUE_NODE,
  O.BUFP_USED_CELLS, O.BUF_HEADROOM_USED, O.FLT_SRC_EVENTS, O.FLT_SRC_LAST_AT, O.FLT_LOG_LAST_SEQ,
  O.FLT_LOG_OVERWRITTEN, O.FLT_EVENT_LOST, O.FLT_FIRST_SEVERE, O.FLT_LOG_RECORD, O.PMC_VALUE, O.PMC_STATUS,
  O.PEER_KEY, F.draws, F.out, F.sess, F.groups, F.ring, F.pcieDma, F.pciePending, F.faults, F.vault, F.checkKey,
  F.storeKey, F.keyTests, F.keyRestart, F.keyScrub, F.saRecs, F.saCtxs, F.banks, F.pipe, F.clsx, F.queues, F.nodes,
  F.pairs, F.ports, F.laps, F.pmc, F.memRest, F.otp, F.fw, F.keyScrubFrom, F.keyReseed, F.keyRequests]

theorem Device.resumeTrans_keeps {W : List Nat} {a : Device} {d : Device} {t : Trans} (hW : Sub Touch.resumeTrans W) (h : Keeps W a d) :
    Keeps W a (Device.resumeTrans d t) := by
  unfold Device.resumeTrans
  try dsimp only
  repeat' first
    | with_reducible exact h | exact memT (by decide +kernel) hW | with_reducible apply Keeps.ite
    | with_reducible refine Device.wr_keeps ?_ ?_ | with_reducible refine Device.wrBit_keeps ?_ ?_
    | with_reducible refine Device.resumeDus_keeps (subT (by decide +kernel) hW) ?_
    | with_reducible refine Device.runSteps_keeps (subT (by decide +kernel) hW) ?_
    | with_reducible refine Device.transStep_keeps (subT (by decide +kernel) hW) ?_
    | with_reducible refine Device.burnMark_keeps (subT (by decide +kernel) hW) ?_ | with_reducible apply Keeps.ite2
    | split

def Touch.voteLc : List Nat :=
  [O.BOOT_STATUS, O.LOCK, O.GROUP_OWNER, O.GROUP_STATE, O.GROUP_WRITES, O.GROUP_FAIL_ADDRESS, O.GROUP_FLAGS,
  O.SESSION_STATE, O.SESSION_ROLE, O.SESSION_CA, O.SESSION_ID, O.SESSION_LAST_COUNTER, O.RING_ENABLE, O.RING_HEAD,
  O.RING_TAIL, O.RING_STATE, O.RING_COMPLETED, O.RING_REJECTED, O.LC_STATE, O.GUN_STATE, O.GUN_OWNER, O.GUN_FLAGS,
  O.FLT_SRC_EVENTS, O.FLT_SRC_LAST_AT, O.FLT_LOG_LAST_SEQ, O.FLT_LOG_OVERWRITTEN, O.FLT_EVENT_LOST,
  O.FLT_FIRST_SEVERE, O.FLT_LOG_RECORD, O.PMC_VALUE, O.PMC_STATUS, F.out, F.sess, F.groups, F.ring, F.pcieDma,
  F.pciePending, F.faults, F.clsx, F.pmc]

theorem Device.voteLc_keeps {W : List Nat} {a : Device} {d : Device} (hW : Sub Touch.voteLc W) (h : Keeps W a d) :
    Keeps W a (Device.voteLc d) := by
  unfold Device.voteLc
  try dsimp only
  repeat' first
    | with_reducible exact h | with_reducible assumption | exact memT (by decide +kernel) hW
    | with_reducible apply Keeps.ite | with_reducible refine Device.wr_keeps ?_ ?_
    | with_reducible refine Device.note_keeps (subT (by decide +kernel) hW) ?_ | split

def Touch.bootLc : List Nat :=
  [O.BOOT_STATUS, O.BOOT_FLAGS, O.BOOT_LC_RESUME_STEP, O.LOCK, O.GROUP_OWNER, O.GROUP_STATE, O.GROUP_WRITES,
  O.GROUP_FAIL_ADDRESS, O.GROUP_FLAGS, O.SESSION_STATE, O.SESSION_ROLE, O.SESSION_CA, O.SESSION_ID,
  O.SESSION_LAST_COUNTER, O.ROLE_ROOT, O.RING_ENABLE, O.RING_HEAD, O.RING_TAIL, O.RING_STATE, O.RING_COMPLETED,
  O.RING_REJECTED, O.INJECT_REFUSED, O.RUNAHEAD_FALSE_STARTS, O.RUNAHEAD_WASTED_CELLS, O.BANK_DISCARDS, O.LC_STATE,
  O.LC_PENDING, O.VAULT_STATE, O.VAULT_HANDLE, O.VAULT_LEVEL, O.VAULT_PURPOSE, O.VAULT_KEY_BITS, O.VAULT_COUNTED,
  O.VAULT_USES_LEFT, O.VAULT_ORIGIN, O.VAULT_PARENT, O.VAULT_CREATED_AT, O.VAULT_ARG_KEY, O.VAULT_RESULT_HANDLE,
  O.DRBG_STATE, O.GUN_STATE, O.GUN_OWNER, O.GUN_FLAGS, O.PORT_FC_TX_XOFF_C0, O.PORT_FC_TX_XOFF_C1,
  O.PORT_FC_TX_XOFF_C2, O.PORT_FC_TX_XOFF_C3, O.PORT_FC_TX_XOFF_C4, O.PORT_FC_TX_XOFF_C5, O.PORT_FC_TX_XOFF_C6,
  O.PORT_FC_TX_XOFF_C7, O.SC_STATUS, O.SA_STATE, O.SA_KEK, O.SA_SLOT, O.SA_FLAGS, O.SA_CHANGED_AT,
  O.SCSA_SLOT0_ROW, O.SCSA_SLOT1_ROW, O.SCSA_IN_FORCE_AN, O.SCSA_ZONE_OPEN, O.SA_STAT_PKTS, O.SA_STAT_OCTETS,
  O.SA_STAT_PKTS_ENCRYPTED, O.SA_STAT_NOT_VALID, O.SA_STAT_COMMIT_LATE, O.SA_STAT_TX_LOST, O.CALLROOM_OCCUPANCY,
  O.CALLROOM_PEAK, O.QUEUE_OCCUPANCY, O.QUEUE_NODE, O.BUFP_USED_CELLS, O.BUF_HEADROOM_USED, O.FLT_SRC_EVENTS,
  O.FLT_SRC_LAST_AT, O.FLT_LOG_LAST_SEQ, O.FLT_LOG_OVERWRITTEN, O.FLT_EVENT_LOST, O.FLT_FIRST_SEVERE,
  O.FLT_LOG_RECORD, O.PMC_VALUE, O.PMC_STATUS, O.PEER_KEY, F.draws, F.out, F.sess, F.groups, F.ring, F.pcieDma,
  F.pciePending, F.faults, F.vault, F.checkKey, F.storeKey, F.keyTests, F.keyRestart, F.keyScrub, F.saRecs,
  F.saCtxs, F.banks, F.pipe, F.clsx, F.queues, F.nodes, F.pairs, F.ports, F.laps, F.pmc, F.memRest, F.otp, F.fw,
  F.keyScrubFrom, F.keyReseed, F.keyRequests]

theorem Device.bootLc_keeps {W : List Nat} {a : Device} {d : Device} (hW : Sub Touch.bootLc W) (h : Keeps W a d) :
    Keeps W a (Device.bootLc d) := by
  unfold Device.bootLc
  try dsimp only
  repeat' first
    | with_reducible exact h | with_reducible assumption | with_reducible apply Keeps.foldl
    | with_reducible refine Device.resumeTrans_keeps (subT (by decide +kernel) hW) ?_
    | with_reducible refine Device.voteLc_keeps (subT (by decide +kernel) hW) ?_ | intro _ _ hq | intro _

def Touch.lcArgsZero : List Nat :=
  [O.LOCK, O.GROUP_OWNER, O.GROUP_STATE, O.GROUP_WRITES, O.GROUP_FAIL_ADDRESS, O.GROUP_FLAGS, O.SESSION_STATE,
  O.SESSION_ROLE, O.SESSION_CA, O.SESSION_ID, O.SESSION_LAST_COUNTER, O.RING_ENABLE, O.RING_HEAD, O.RING_TAIL,
  O.RING_STATE, O.RING_COMPLETED, O.RING_REJECTED, O.LC_ARG_TOKEN, O.LC_ARG_OWNER_ROOT, O.GUN_STATE, O.GUN_OWNER,
  O.GUN_FLAGS, O.FLT_SRC_EVENTS, O.FLT_SRC_LAST_AT, O.FLT_LOG_LAST_SEQ, O.FLT_LOG_OVERWRITTEN, O.FLT_EVENT_LOST,
  O.FLT_FIRST_SEVERE, O.FLT_LOG_RECORD, O.PMC_VALUE, O.PMC_STATUS, F.out, F.sess, F.groups, F.ring, F.pcieDma,
  F.pciePending, F.faults, F.clsx, F.pmc]

theorem Device.lcArgsZero_keeps {W : List Nat} {a : Device} {d : Device} (hW : Sub Touch.lcArgsZero W) (h : Keeps W a d) :
    Keeps W a (Device.lcArgsZero d) := by
  unfold Device.lcArgsZero
  try dsimp only
  repeat' first
    | with_reducible exact h | exact memT (by decide +kernel) hW
    | with_reducible refine Device.wrCmd_keeps ?_ (subT (by decide +kernel) hW) ?_

def Touch.transBody : List Nat :=
  [O.LOCK, O.GROUP_OWNER, O.GROUP_STATE, O.GROUP_WRITES, O.GROUP_FAIL_ADDRESS, O.GROUP_FLAGS, O.SESSION_STATE,
  O.SESSION_ROLE, O.SESSION_CA, O.SESSION_ID, O.SESSION_LAST_COUNTER, O.ROLE_ROOT, O.RING_ENABLE, O.RING_HEAD,
  O.RING_TAIL, O.RING_STATE, O.RING_COMPLETED, O.RING_REJECTED, O.INJECT_REFUSED, O.RUNAHEAD_FALSE_STARTS,
  O.RUNAHEAD_WASTED_CELLS, O.BANK_DISCARDS, O.LC_STATE, O.LC_PENDING, O.LC_ARG_TOKEN, O.LC_ARG_OWNER_ROOT,
  O.VAULT_STATE, O.VAULT_HANDLE, O.VAULT_LEVEL, O.VAULT_PURPOSE, O.VAULT_KEY_BITS, O.VAULT_COUNTED,
  O.VAULT_USES_LEFT, O.VAULT_ORIGIN, O.VAULT_PARENT, O.VAULT_CREATED_AT, O.VAULT_ARG_KEY, O.VAULT_RESULT_HANDLE,
  O.DRBG_STATE, O.GUN_STATE, O.GUN_OWNER, O.GUN_FLAGS, O.PORT_FC_TX_XOFF_C0, O.PORT_FC_TX_XOFF_C1,
  O.PORT_FC_TX_XOFF_C2, O.PORT_FC_TX_XOFF_C3, O.PORT_FC_TX_XOFF_C4, O.PORT_FC_TX_XOFF_C5, O.PORT_FC_TX_XOFF_C6,
  O.PORT_FC_TX_XOFF_C7, O.SC_STATUS, O.SA_STATE, O.SA_KEK, O.SA_SLOT, O.SA_FLAGS, O.SA_CHANGED_AT,
  O.SCSA_SLOT0_ROW, O.SCSA_SLOT1_ROW, O.SCSA_IN_FORCE_AN, O.SCSA_ZONE_OPEN, O.SA_STAT_PKTS, O.SA_STAT_OCTETS,
  O.SA_STAT_PKTS_ENCRYPTED, O.SA_STAT_NOT_VALID, O.SA_STAT_COMMIT_LATE, O.SA_STAT_TX_LOST, O.CALLROOM_OCCUPANCY,
  O.CALLROOM_PEAK, O.QUEUE_OCCUPANCY, O.QUEUE_NODE, O.BUFP_USED_CELLS, O.BUF_HEADROOM_USED, O.FLT_SRC_EVENTS,
  O.FLT_SRC_LAST_AT, O.FLT_LOG_LAST_SEQ, O.FLT_LOG_OVERWRITTEN, O.FLT_EVENT_LOST, O.FLT_FIRST_SEVERE,
  O.FLT_LOG_RECORD, O.PMC_VALUE, O.PMC_STATUS, O.PEER_KEY, F.draws, F.out, F.sess, F.groups, F.ring, F.pcieDma,
  F.pciePending, F.faults, F.vault, F.checkKey, F.storeKey, F.keyTests, F.keyRestart, F.keyScrub, F.saRecs,
  F.saCtxs, F.banks, F.pipe, F.clsx, F.queues, F.nodes, F.pairs, F.ports, F.laps, F.pmc, F.memRest, F.otp, F.lc,
  F.fw, F.keyScrubFrom, F.keyReseed, F.keyRequests]

theorem Device.transBody_keeps {W : List Nat} {a : Device} {t : Trans} {d : Device} (hW : Sub Touch.transBody W) (h : Keeps W a d) :
    Keeps W a (Device.transBody t d).2 := by
  unfold Device.transBody
  try dsimp only
  repeat' first
    | with_reducible exact h | with_reducible refine Device.runTrans_keeps (subT (by decide +kernel) hW) ?_
    | with_reducible refine Device.lcArgsZero_keeps (subT (by decide +kernel) hW) ?_

def Touch.sealTestCore : List Nat :=
  [O.LOCK, O.GROUP_OWNER, O.GROUP_STATE, O.GROUP_WRITES, O.GROUP_FAIL_ADDRESS, O.GROUP_FLAGS, O.SESSION_STATE,
  O.SESSION_ROLE, O.SESSION_CA, O.SESSION_ID, O.SESSION_LAST_COUNTER, O.ROLE_ROOT, O.RING_ENABLE, O.RING_HEAD,
  O.RING_TAIL, O.RING_STATE, O.RING_COMPLETED, O.RING_REJECTED, O.INJECT_REFUSED, O.RUNAHEAD_FALSE_STARTS,
  O.RUNAHEAD_WASTED_CELLS, O.BANK_DISCARDS, O.LC_STATE, O.LC_PENDING, O.LC_CMD, O.LC_ARG_TOKEN,
  O.LC_ARG_OWNER_ROOT, O.VAULT_STATE, O.VAULT_HANDLE, O.VAULT_LEVEL, O.VAULT_PURPOSE, O.VAULT_KEY_BITS,
  O.VAULT_COUNTED, O.VAULT_USES_LEFT, O.VAULT_ORIGIN, O.VAULT_PARENT, O.VAULT_CREATED_AT, O.VAULT_ARG_KEY,
  O.VAULT_RESULT_HANDLE, O.DRBG_STATE, O.GUN_STATE, O.GUN_OWNER, O.GUN_FLAGS, O.PORT_FC_TX_XOFF_C0,
  O.PORT_FC_TX_XOFF_C1, O.PORT_FC_TX_XOFF_C2, O.PORT_FC_TX_XOFF_C3, O.PORT_FC_TX_XOFF_C4, O.PORT_FC_TX_XOFF_C5,
  O.PORT_FC_TX_XOFF_C6, O.PORT_FC_TX_XOFF_C7, O.SC_STATUS, O.SA_STATE, O.SA_KEK, O.SA_SLOT, O.SA_FLAGS,
  O.SA_CHANGED_AT, O.SCSA_SLOT0_ROW, O.SCSA_SLOT1_ROW, O.SCSA_IN_FORCE_AN, O.SCSA_ZONE_OPEN, O.SA_STAT_PKTS,
  O.SA_STAT_OCTETS, O.SA_STAT_PKTS_ENCRYPTED, O.SA_STAT_NOT_VALID, O.SA_STAT_COMMIT_LATE, O.SA_STAT_TX_LOST,
  O.CALLROOM_OCCUPANCY, O.CALLROOM_PEAK, O.QUEUE_OCCUPANCY, O.QUEUE_NODE, O.BUFP_USED_CELLS, O.BUF_HEADROOM_USED,
  O.FLT_SRC_EVENTS, O.FLT_SRC_LAST_AT, O.FLT_LOG_LAST_SEQ, O.FLT_LOG_OVERWRITTEN, O.FLT_EVENT_LOST,
  O.FLT_FIRST_SEVERE, O.FLT_LOG_RECORD, O.PMC_VALUE, O.PMC_STATUS, O.PEER_KEY, F.draws, F.out, F.sess, F.groups,
  F.ring, F.pcieDma, F.pciePending, F.faults, F.vault, F.checkKey, F.storeKey, F.keyTests, F.keyRestart,
  F.keyScrub, F.saRecs, F.saCtxs, F.banks, F.pipe, F.clsx, F.queues, F.nodes, F.pairs, F.ports, F.laps, F.pmc,
  F.memRest, F.otp, F.lc, F.fw, F.keyScrubFrom, F.keyReseed, F.keyRequests]

theorem Device.sealTestCore_keeps {W : List Nat} {a : Device} {r : Req} {d : Device} (hW : Sub Touch.sealTestCore W) (h : Keeps W a d) :
    Keeps W a (Device.sealTestCore r d).2 := by
  unfold Device.sealTestCore
  try dsimp only
  repeat' first
    | with_reducible exact h | with_reducible assumption | exact memT (by decide +kernel) hW
    | with_reducible refine Device.runCmd_keeps ?_ ?_ ?_
    | with_reducible refine Device.transBody_keeps (subT (by decide +kernel) hW) ?_ | intro _ _ hq | intro _

def Touch.personalizeCore : List Nat :=
  Touch.sealTestCore

theorem Device.personalizeCore_keeps {W : List Nat} {a : Device} {r : Req} {d : Device} (hW : Sub Touch.personalizeCore W) (h : Keeps W a d) :
    Keeps W a (Device.personalizeCore r d).2 := by
  unfold Device.personalizeCore
  try dsimp only
  repeat' first
    | with_reducible exact h | with_reducible assumption | exact memT (by decide +kernel) hW
    | with_reducible refine Device.runCmd_keeps ?_ ?_ ?_
    | with_reducible refine Device.transBody_keeps (subT (by decide +kernel) hW) ?_ | intro _ _ hq | intro _

def Touch.takeOwnershipCore : List Nat :=
  Touch.sealTestCore

theorem Device.takeOwnershipCore_keeps {W : List Nat} {a : Device} {r : Req} {d : Device} (hW : Sub Touch.takeOwnershipCore W) (h : Keeps W a d) :
    Keeps W a (Device.takeOwnershipCore r d).2 := by
  unfold Device.takeOwnershipCore
  try dsimp only
  repeat' first
    | with_reducible exact h | with_reducible assumption | exact memT (by decide +kernel) hW
    | with_reducible refine Device.runCmd_keeps ?_ ?_ ?_
    | with_reducible refine Device.transBody_keeps (subT (by decide +kernel) hW) ?_ | intro _ _ hq | intro _

def Touch.lcReturnCore : List Nat :=
  Touch.sealTestCore

theorem Device.lcReturnCore_keeps {W : List Nat} {a : Device} {r : Req} {d : Device} (hW : Sub Touch.lcReturnCore W) (h : Keeps W a d) :
    Keeps W a (Device.lcReturnCore r d).2 := by
  unfold Device.lcReturnCore
  try dsimp only
  repeat' first
    | with_reducible exact h | with_reducible assumption | exact memT (by decide +kernel) hW
    | with_reducible refine Device.runCmd_keeps ?_ ?_ ?_
    | with_reducible refine Device.transBody_keeps (subT (by decide +kernel) hW) ?_ | intro _ _ hq | intro _

def Touch.scrapCore : List Nat :=
  Touch.sealTestCore

theorem Device.scrapCore_keeps {W : List Nat} {a : Device} {r : Req} {d : Device} (hW : Sub Touch.scrapCore W) (h : Keeps W a d) :
    Keeps W a (Device.scrapCore r d).2 := by
  unfold Device.scrapCore
  try dsimp only
  repeat' first
    | with_reducible exact h | with_reducible assumption | exact memT (by decide +kernel) hW
    | with_reducible apply Keeps.ite | with_reducible refine Device.runCmd_keeps ?_ ?_ ?_
    | with_reducible refine Device.transBody_keeps (subT (by decide +kernel) hW) ?_ | with_reducible apply Keeps.ite2
    | intro _ _ hq | intro _ | split

def Touch.unlockWith : List Nat :=
  [O.LOCK, O.GROUP_OWNER, O.GROUP_STATE, O.GROUP_WRITES, O.GROUP_FAIL_ADDRESS, O.GROUP_FLAGS, O.SESSION_STATE,
  O.SESSION_ROLE, O.SESSION_CA, O.SESSION_ID, O.SESSION_LAST_COUNTER, O.ROLE_ROOT, O.RING_ENABLE, O.RING_HEAD,
  O.RING_TAIL, O.RING_STATE, O.RING_COMPLETED, O.RING_REJECTED, O.INJECT_REFUSED, O.RUNAHEAD_FALSE_STARTS,
  O.RUNAHEAD_WASTED_CELLS, O.BANK_DISCARDS, O.LC_STATE, O.VAULT_STATE, O.VAULT_HANDLE, O.VAULT_LEVEL,
  O.VAULT_PURPOSE, O.VAULT_KEY_BITS, O.VAULT_COUNTED, O.VAULT_USES_LEFT, O.VAULT_ORIGIN, O.VAULT_PARENT,
  O.VAULT_CREATED_AT, O.VAULT_ARG_KEY, O.VAULT_RESULT_HANDLE, O.DRBG_STATE, O.GUN_STATE, O.GUN_OWNER, O.GUN_FLAGS,
  O.PORT_FC_TX_XOFF_C0, O.PORT_FC_TX_XOFF_C1, O.PORT_FC_TX_XOFF_C2, O.PORT_FC_TX_XOFF_C3, O.PORT_FC_TX_XOFF_C4,
  O.PORT_FC_TX_XOFF_C5, O.PORT_FC_TX_XOFF_C6, O.PORT_FC_TX_XOFF_C7, O.SC_STATUS, O.SA_STATE, O.SA_KEK, O.SA_SLOT,
  O.SA_FLAGS, O.SA_CHANGED_AT, O.SCSA_SLOT0_ROW, O.SCSA_SLOT1_ROW, O.SCSA_IN_FORCE_AN, O.SCSA_ZONE_OPEN,
  O.SA_STAT_PKTS, O.SA_STAT_OCTETS, O.SA_STAT_PKTS_ENCRYPTED, O.SA_STAT_NOT_VALID, O.SA_STAT_COMMIT_LATE,
  O.SA_STAT_TX_LOST, O.CALLROOM_OCCUPANCY, O.CALLROOM_PEAK, O.QUEUE_OCCUPANCY, O.QUEUE_NODE, O.BUFP_USED_CELLS,
  O.BUF_HEADROOM_USED, O.FLT_SRC_EVENTS, O.FLT_SRC_LAST_AT, O.FLT_LOG_LAST_SEQ, O.FLT_LOG_OVERWRITTEN,
  O.FLT_EVENT_LOST, O.FLT_FIRST_SEVERE, O.FLT_LOG_RECORD, O.PMC_VALUE, O.PMC_STATUS, O.PEER_KEY, F.draws, F.out,
  F.sess, F.groups, F.ring, F.pcieDma, F.pciePending, F.faults, F.vault, F.checkKey, F.storeKey, F.keyTests,
  F.keyRestart, F.keyScrub, F.saRecs, F.saCtxs, F.banks, F.pipe, F.clsx, F.queues, F.nodes, F.pairs, F.ports,
  F.laps, F.pmc, F.memRest, F.otp, F.lc, F.fw, F.keyScrubFrom, F.keyReseed, F.keyRequests]

theorem Device.unlockWith_keeps {W : List Nat} {a : Device} {d : Device} {n : Nat} (hW : Sub Touch.unlockWith W) (h : Keeps W a d) :
    Keeps W a (Device.unlockWith d n) := by
  unfold Device.unlockWith
  try dsimp only
  repeat' first
    | with_reducible exact h | exact memT (by decide +kernel) hW
    | with_reducible refine Device.lcZeroize_keeps (subT (by decide +kernel) hW) ?_
    | with_reducible refine Device.burnBits_keeps (subT (by decide +kernel) hW) ?_
    | with_reducible refine Device.setLc_keeps (subT (by decide +kernel) hW) ?_
    | with_reducible refine Device.wr_keeps ?_ ?_

def Touch.unlockCore : List Nat :=
  [O.LOCK, O.GROUP_OWNER, O.GROUP_STATE, O.GROUP_WRITES, O.GROUP_FAIL_ADDRESS, O.GROUP_FLAGS, O.SESSION_STATE,
  O.SESSION_ROLE, O.SESSION_CA, O.SESSION_ID, O.SESSION_LAST_COUNTER, O.ROLE_ROOT, O.RING_ENABLE, O.RING_HEAD,
  O.RING_TAIL, O.RING_STATE, O.RING_COMPLETED, O.RING_REJECTED, O.INJECT_REFUSED, O.RUNAHEAD_FALSE_STARTS,
  O.RUNAHEAD_WASTED_CELLS, O.BANK_DISCARDS, O.LC_STATE, O.LC_CMD, O.LC_ARG_TOKEN, O.LC_ARG_OWNER_ROOT,
  O.VAULT_STATE, O.VAULT_HANDLE, O.VAULT_LEVEL, O.VAULT_PURPOSE, O.VAULT_KEY_BITS, O.VAULT_COUNTED,
  O.VAULT_USES_LEFT, O.VAULT_ORIGIN, O.VAULT_PARENT, O.VAULT_CREATED_AT, O.VAULT_ARG_KEY, O.VAULT_RESULT_HANDLE,
  O.DRBG_STATE, O.GUN_STATE, O.GUN_OWNER, O.GUN_FLAGS, O.PORT_FC_TX_XOFF_C0, O.PORT_FC_TX_XOFF_C1,
  O.PORT_FC_TX_XOFF_C2, O.PORT_FC_TX_XOFF_C3, O.PORT_FC_TX_XOFF_C4, O.PORT_FC_TX_XOFF_C5, O.PORT_FC_TX_XOFF_C6,
  O.PORT_FC_TX_XOFF_C7, O.SC_STATUS, O.SA_STATE, O.SA_KEK, O.SA_SLOT, O.SA_FLAGS, O.SA_CHANGED_AT,
  O.SCSA_SLOT0_ROW, O.SCSA_SLOT1_ROW, O.SCSA_IN_FORCE_AN, O.SCSA_ZONE_OPEN, O.SA_STAT_PKTS, O.SA_STAT_OCTETS,
  O.SA_STAT_PKTS_ENCRYPTED, O.SA_STAT_NOT_VALID, O.SA_STAT_COMMIT_LATE, O.SA_STAT_TX_LOST, O.CALLROOM_OCCUPANCY,
  O.CALLROOM_PEAK, O.QUEUE_OCCUPANCY, O.QUEUE_NODE, O.BUFP_USED_CELLS, O.BUF_HEADROOM_USED, O.FLT_SRC_EVENTS,
  O.FLT_SRC_LAST_AT, O.FLT_LOG_LAST_SEQ, O.FLT_LOG_OVERWRITTEN, O.FLT_EVENT_LOST, O.FLT_FIRST_SEVERE,
  O.FLT_LOG_RECORD, O.PMC_VALUE, O.PMC_STATUS, O.PEER_KEY, F.draws, F.out, F.sess, F.groups, F.ring, F.pcieDma,
  F.pciePending, F.faults, F.vault, F.checkKey, F.storeKey, F.keyTests, F.keyRestart, F.keyScrub, F.saRecs,
  F.saCtxs, F.banks, F.pipe, F.clsx, F.queues, F.nodes, F.pairs, F.ports, F.laps, F.pmc, F.memRest, F.otp, F.lc,
  F.fw, F.keyScrubFrom, F.keyReseed, F.keyRequests]

theorem Device.unlockCore_keeps {W : List Nat} {a : Device} {r : Req} {d : Device} (hW : Sub Touch.unlockCore W) (h : Keeps W a d) :
    Keeps W a (Device.unlockCore r d).2 := by
  unfold Device.unlockCore
  try dsimp only
  repeat' first
    | with_reducible exact h | with_reducible assumption | exact memT (by decide +kernel) hW
    | with_reducible apply Keeps.ite | with_reducible apply Keeps.elim
    | with_reducible refine Device.runCmd_keeps ?_ ?_ ?_
    | with_reducible refine Device.unlockWith_keeps (subT (by decide +kernel) hW) ?_
    | with_reducible refine Device.lcArgsZero_keeps (subT (by decide +kernel) hW) ?_
    | with_reducible refine Device.note_keeps (subT (by decide +kernel) hW) ?_ | with_reducible apply Keeps.ite2
    | with_reducible apply Keeps.elim2 | intro _ _ hq | intro _ | split

def Touch.rmaUnlockCore : List Nat :=
  [O.LOCK, O.GROUP_OWNER, O.GROUP_STATE, O.GROUP_WRITES, O.GROUP_FAIL_ADDRESS, O.GROUP_FLAGS, O.SESSION_STATE,
  O.SESSION_ROLE, O.SESSION_CA, O.SESSION_ID, O.SESSION_LAST_COUNTER, O.RING_ENABLE, O.RING_HEAD, O.RING_TAIL,
  O.RING_STATE, O.RING_COMPLETED, O.RING_REJECTED, O.LC_RMA_UNLOCKED, O.LC_CMD, O.LC_ARG_TOKEN,
  O.LC_ARG_OWNER_ROOT, O.GUN_STATE, O.GUN_OWNER, O.GUN_FLAGS, O.FLT_SRC_EVENTS, O.FLT_SRC_LAST_AT,
  O.FLT_LOG_LAST_SEQ, O.FLT_LOG_OVERWRITTEN, O.FLT_EVENT_LOST, O.FLT_FIRST_SEVERE, O.FLT_LOG_RECORD, O.PMC_VALUE,
  O.PMC_STATUS, F.out, F.sess, F.groups, F.ring, F.pcieDma, F.pciePending, F.faults, F.clsx, F.pmc]

theorem Device.rmaUnlockCore_keeps {W : List Nat} {a : Device} {r : Req} {d : Device} (hW : Sub Touch.rmaUnlockCore W) (h : Keeps W a d) :
    Keeps W a (Device.rmaUnlockCore r d).2 := by
  unfold Device.rmaUnlockCore
  try dsimp only
  repeat' first
    | with_reducible exact h | with_reducible assumption | exact memT (by decide +kernel) hW
    | with_reducible refine Device.runCmd_keeps ?_ ?_ ?_ | with_reducible refine Device.wr_keeps ?_ ?_
    | with_reducible refine Device.lcArgsZero_keeps (subT (by decide +kernel) hW) ?_ | intro _ _ hq | intro _

def Touch.dbgSramReadCore : List Nat :=
  [O.DBG_SRAM_DATA, O.DBG_SRAM_CMD, F.draws]

theorem Device.dbgSramReadCore_keeps {W : List Nat} {a : Device} {r : Req} {row : Nat} {uncorr : Bool} {d : Device} (hW : Sub Touch.dbgSramReadCore W) (h : Keeps W a d) :
    Keeps W a (Device.dbgSramReadCore r row uncorr d).2 := by
  unfold Device.dbgSramReadCore
  try dsimp only
  repeat' first
    | with_reducible exact h | with_reducible assumption | exact memT (by decide +kernel) hW
    | with_reducible apply Keeps.ite | with_reducible refine Device.runCmd_keeps ?_ ?_ ?_
    | with_reducible refine Device.wr_keeps ?_ ?_
    | with_reducible refine Device.unstated_keeps (subT (by decide +kernel) hW) ?_ | with_reducible apply Keeps.ite2
    | intro _ _ hq | intro _ | split

end Sys2Proof.Machine
end

