-- ==== Sys2Proof/Laws/KeepsPorts.lean ====
section
/-!
SUPPORT. The places that each operation of Machine/Ports.lean may change (Laws/Keeps.lean).
-/
set_option Elab.async false
set_option linter.all false
set_option linter.unusedTactic false
set_option linter.unreachableTactic false
set_option linter.style.longLine false
namespace Sys2Proof.Machine

def Touch.cutPort : List Nat :=
  Touch.stopFrame

theorem Device.cutPort_keeps {W : List Nat} {a : Device} {d : Device} {p : Nat} (hW : Sub Touch.cutPort W) (h : Keeps W a d) :
    Keeps W a (Device.cutPort d p) := by
  unfold Device.cutPort
  try dsimp only
  repeat' first
    | with_reducible exact h | with_reducible assumption | with_reducible apply Keeps.foldl
    | with_reducible refine Device.stopFrame_keeps (subT (by decide +kernel) hW) ?_ | intro _ _ hq | intro _

def Touch.resignal : List Nat :=
  Touch.stopFrame

theorem Device.resignal_keeps {W : List Nat} {a : Device} {sent : Nat → Bool} {d : Device} {p : Nat} (hW : Sub Touch.resignal W) (h : Keeps W a d) :
    Keeps W a (Device.resignal sent d p) := by
  unfold Device.resignal
  try dsimp only
  repeat' first
    | with_reducible exact h | with_reducible apply Keeps.ite
    | with_reducible refine Device.muteWindow_keeps (subT (by decide +kernel) hW) ?_
    | with_reducible refine Device.cutPort_keeps (subT (by decide +kernel) hW) ?_
    | with_reducible refine Device.setHolds_keeps (subT (by decide +kernel) hW) ?_ | split

def Touch.withSignals : List Nat :=
  Touch.stopFrame

theorem Device.withSignals_keeps {W : List Nat} {a : Device} {f : Device → Device} {d : Device}
    (hW : Sub Touch.withSignals W) (h : Keeps W a d) (hf : ∀ x, Keeps W a x → Keeps W a (f x)) :
    Keeps W a (Device.withSignals f d) := by
  unfold Device.withSignals
  exact Keeps.foldl (hf _ h) (fun _ _ hq => Device.resignal_keeps (subT (by decide +kernel) hW) hq)

def Touch.setLink : List Nat :=
  [O.LOCK, O.GROUP_OWNER, O.GROUP_STATE, O.GROUP_WRITES, O.GROUP_FAIL_ADDRESS, O.GROUP_FLAGS, O.SESSION_STATE,
  O.SESSION_ROLE, O.SESSION_CA, O.SESSION_ID, O.SESSION_LAST_COUNTER, O.RING_ENABLE, O.RING_HEAD, O.RING_TAIL,
  O.RING_STATE, O.RING_COMPLETED, O.RING_REJECTED, O.GUN_STATE, O.GUN_OWNER, O.GUN_FLAGS, O.PORT_LINK,
  O.PORT_LINK_CHANGES, O.FLT_SRC_EVENTS, O.FLT_SRC_LAST_AT, O.FLT_LOG_LAST_SEQ, O.FLT_LOG_OVERWRITTEN,
  O.FLT_EVENT_LOST, O.FLT_FIRST_SEVERE, O.FLT_LOG_RECORD, O.PMC_VALUE, O.PMC_STATUS, F.out, F.sess, F.groups,
  F.ring, F.pcieDma, F.pciePending, F.faults, F.clsx, F.pmc]

theorem Device.setLink_keeps {W : List Nat} {a : Device} {d : Device} {p : Nat} {code : Nat} (hW : Sub Touch.setLink W) (h : Keeps W a d) :
    Keeps W a (Device.setLink d p code) := by
  unfold Device.setLink
  try dsimp only
  repeat' first
    | with_reducible exact h | exact memT (by decide +kernel) hW | with_reducible apply Keeps.ite
    | with_reducible refine Device.wr_keeps ?_ ?_ | with_reducible refine Device.inc64_keeps ?_ ?_
    | with_reducible refine Device.noteRow_keeps (subT (by decide +kernel) hW) ?_ | split

def Touch.receive : List Nat :=
  [O.LOCK, O.GROUP_OWNER, O.GROUP_STATE, O.GROUP_WRITES, O.GROUP_FAIL_ADDRESS, O.GROUP_FLAGS, O.SESSION_STATE,
  O.SESSION_ROLE, O.SESSION_CA, O.SESSION_ID, O.SESSION_LAST_COUNTER, O.RING_ENABLE, O.RING_HEAD, O.RING_TAIL,
  O.RING_STATE, O.RING_COMPLETED, O.RING_REJECTED, O.GUN_STATE, O.GUN_OWNER, O.GUN_FLAGS, O.PORT_LINK,
  O.PORT_LINK_CHANGES, O.PORT_PCS_ALIGN_LOSS, O.FLT_SRC_EVENTS, O.FLT_SRC_LAST_AT, O.FLT_LOG_LAST_SEQ,
  O.FLT_LOG_OVERWRITTEN, O.FLT_EVENT_LOST, O.FLT_FIRST_SEVERE, O.FLT_LOG_RECORD, O.PMC_VALUE, O.PMC_STATUS, F.out,
  F.sess, F.groups, F.ring, F.pcieDma, F.pciePending, F.faults, F.clsx, F.ports, F.pmc]

theorem Device.receive_keeps {W : List Nat} {a : Device} {d : Device} {p : Nat} {rx : RxState} (hW : Sub Touch.receive W) (h : Keeps W a d) :
    Keeps W a (Device.receive d p rx) := by
  unfold Device.receive
  try dsimp only
  repeat' first
    | with_reducible exact h | exact memT (by decide +kernel) hW | with_reducible apply Keeps.ite
    | with_reducible refine Device.setPort_keeps (subT (by decide +kernel) hW) ?_
    | with_reducible refine Device.inc64_keeps ?_ ?_
    | with_reducible refine Device.setLink_keeps (subT (by decide +kernel) hW) ?_ | split

def Touch.portLinkChange : List Nat :=
  [O.LOCK, O.GROUP_OWNER, O.GROUP_STATE, O.GROUP_WRITES, O.GROUP_FAIL_ADDRESS, O.GROUP_FLAGS, O.SESSION_STATE,
  O.SESSION_ROLE, O.SESSION_CA, O.SESSION_ID, O.SESSION_LAST_COUNTER, O.RING_ENABLE, O.RING_HEAD, O.RING_TAIL,
  O.RING_STATE, O.RING_COMPLETED, O.RING_REJECTED, O.INJECT_REFUSED, O.RUNAHEAD_FALSE_STARTS,
  O.RUNAHEAD_WASTED_CELLS, O.GUN_STATE, O.GUN_OWNER, O.GUN_FLAGS, O.PORT_LINK, O.PORT_LINK_CHANGES,
  O.PORT_TX_FRAMES, O.PORT_TX_BYTES, O.PORT_TX_TRUNCATED, O.PORT_PCS_ALIGN_LOSS, O.PORT_FC_TX_XOFF_C0,
  O.PORT_FC_TX_XOFF_C1, O.PORT_FC_TX_XOFF_C2, O.PORT_FC_TX_XOFF_C3, O.PORT_FC_TX_XOFF_C4, O.PORT_FC_TX_XOFF_C5,
  O.PORT_FC_TX_XOFF_C6, O.PORT_FC_TX_XOFF_C7, O.SA_STAT_TX_LOST, O.CALLROOM_OCCUPANCY, O.CALLROOM_PEAK,
  O.QUEUE_OCCUPANCY, O.QUEUE_NODE, O.BUFP_USED_CELLS, O.BUF_HEADROOM_USED, O.FLT_SRC_EVENTS, O.FLT_SRC_LAST_AT,
  O.FLT_LOG_LAST_SEQ, O.FLT_LOG_OVERWRITTEN, O.FLT_EVENT_LOST, O.FLT_FIRST_SEVERE, O.FLT_LOG_RECORD, O.PMC_VALUE,
  O.PMC_STATUS, F.out, F.sess, F.groups, F.ring, F.pcieDma, F.pciePending, F.faults, F.pipe, F.clsx, F.queues,
  F.nodes, F.pairs, F.ports, F.laps, F.pmc]

theorem Device.portLinkChange_keeps {W : List Nat} {a : Device} {p : Nat} {rx : RxState} {d : Device} (hW : Sub Touch.portLinkChange W) (h : Keeps W a d) :
    Keeps W a (Device.portLinkChange p rx d) := by
  unfold Device.portLinkChange
  try dsimp only
  repeat' first
    | with_reducible exact h | with_reducible assumption | with_reducible apply Keeps.ite
    | with_reducible refine Device.withSignals_keeps (subT (by decide +kernel) hW) ?_ ?_
    | with_reducible refine Device.receive_keeps (subT (by decide +kernel) hW) ?_ | intro _ _ hq | intro _ | split

def Touch.setAcq : List Nat :=
  [F.acqAt]

theorem Device.setAcq_keeps {W : List Nat} {a : Device} {d : Device} {l : Nat} {n : Nat} (hW : Sub Touch.setAcq W) (h : Keeps W a d) :
    Keeps W a (Device.setAcq d l n) := 
  h.same rfl rfl (fun k hk => by
    unfold sameField
    split <;> first | rfl | exact absurd (memF (by decide +kernel) hW) hk | trivial)

def Touch.acquire : List Nat :=
  [O.LANE_ADAPT, F.acqAt]

theorem Device.acquire_keeps {W : List Nat} {a : Device} {d : Device} {l : Nat} (hW : Sub Touch.acquire W) (h : Keeps W a d) :
    Keeps W a (Device.acquire d l) := by
  unfold Device.acquire
  try dsimp only
  repeat' first
    | with_reducible exact h | exact memT (by decide +kernel) hW | with_reducible apply Keeps.ite
    | with_reducible refine Device.wr_keeps ?_ ?_
    | with_reducible refine Device.setAcq_keeps (subT (by decide +kernel) hW) ?_ | split

def Touch.laneFollow : List Nat :=
  [O.LANE_ADAPT, F.acqAt]

theorem Device.laneFollow_keeps {W : List Nat} {a : Device} {d : Device} {l : Nat} (hW : Sub Touch.laneFollow W) (h : Keeps W a d) :
    Keeps W a (Device.laneFollow d l) := by
  unfold Device.laneFollow
  try dsimp only
  repeat' first
    | with_reducible exact h | with_reducible apply Keeps.ite
    | with_reducible refine Device.acquire_keeps (subT (by decide +kernel) hW) ?_ | split

def Touch.laneSignalDetect : List Nat :=
  [O.LANE_SIGNAL, O.LANE_ADAPT, F.acqAt]

theorem Device.laneSignalDetect_keeps {W : List Nat} {a : Device} {l : Nat} {d : Device} (hW : Sub Touch.laneSignalDetect W) (h : Keeps W a d) :
    Keeps W a (Device.laneSignalDetect l d) := by
  unfold Device.laneSignalDetect
  try dsimp only
  repeat' first
    | with_reducible exact h | exact memT (by decide +kernel) hW | with_reducible apply Keeps.ite
    | with_reducible refine Device.wr_keeps ?_ ?_
    | with_reducible refine Device.laneFollow_keeps (subT (by decide +kernel) hW) ?_ | split

def Touch.laneAcquisitionDone : List Nat :=
  [O.LANE_ADAPT, O.LANE_SNR_CDB, F.draws]

theorem Device.laneAcquisitionDone_keeps {W : List Nat} {a : Device} {l : Nat} {d : Device} (hW : Sub Touch.laneAcquisitionDone W) (h : Keeps W a d) :
    Keeps W a (Device.laneAcquisitionDone l d) := by
  unfold Device.laneAcquisitionDone
  try dsimp only
  repeat' first
    | with_reducible exact h | exact memT (by decide +kernel) hW | with_reducible apply Keeps.ite
    | with_reducible refine Device.unstated_keeps (subT (by decide +kernel) hW) ?_
    | with_reducible refine Device.wr_keeps ?_ ?_ | with_reducible apply Keeps.ite2 | split

def Touch.laneAcquisitionTimeout : List Nat :=
  [O.PMC_VALUE, O.PMC_STATUS, F.cyc, F.clk, F.out, F.pciePending, F.acqAt, F.pmc]

theorem Device.laneAcquisitionTimeout_keeps {W : List Nat} {a : Device} {l : Nat} {d : Device} (hW : Sub Touch.laneAcquisitionTimeout W) (h : Keeps W a d) :
    Keeps W a (Device.laneAcquisitionTimeout l d) := by
  unfold Device.laneAcquisitionTimeout
  try dsimp only
  repeat' first
    | with_reducible exact h | with_reducible apply Keeps.ite
    | with_reducible refine Device.passTo_keeps (subT (by decide +kernel) hW) ?_
    | with_reducible refine Device.setAcq_keeps (subT (by decide +kernel) hW) ?_ | split

def Touch.laneSignalLoss : List Nat :=
  Touch.laneSignalDetect

theorem Device.laneSignalLoss_keeps {W : List Nat} {a : Device} {l : Nat} {d : Device} (hW : Sub Touch.laneSignalLoss W) (h : Keeps W a d) :
    Keeps W a (Device.laneSignalLoss l d) := by
  unfold Device.laneSignalLoss
  try dsimp only
  repeat' first
    | with_reducible exact h | exact memT (by decide +kernel) hW | with_reducible apply Keeps.ite
    | with_reducible refine Device.wr_keeps ?_ ?_
    | with_reducible refine Device.laneFollow_keeps (subT (by decide +kernel) hW) ?_ | split

def Touch.setFec : List Nat :=
  [F.ports]

theorem Device.setFec_keeps {W : List Nat} {a : Device} {d : Device} {p : Nat} {sec : Nat} {n : Nat} {raised : Bool} (hW : Sub Touch.setFec W) (h : Keeps W a d) :
    Keeps W a (Device.setFec d p sec n raised) := by
  unfold Device.setFec
  try dsimp only
  repeat' first
    | with_reducible exact h | with_reducible refine Device.setPort_keeps (subT (by decide +kernel) hW) ?_

def Touch.fecUncorrLimit : List Nat :=
  [O.LOCK, O.GROUP_OWNER, O.GROUP_STATE, O.GROUP_WRITES, O.GROUP_FAIL_ADDRESS, O.GROUP_FLAGS, O.SESSION_STATE,
  O.SESSION_ROLE, O.SESSION_CA, O.SESSION_ID, O.SESSION_LAST_COUNTER, O.ROLE_ROOT, O.RING_ENABLE, O.RING_HEAD,
  O.RING_TAIL, O.RING_STATE, O.RING_COMPLETED, O.RING_REJECTED, O.INJECT_REFUSED, O.MODE, O.MODE_CMD,
  O.MODE_ENTERED_AT, O.MODE_CAUSE, O.RUNAHEAD_FALSE_STARTS, O.RUNAHEAD_WASTED_CELLS, O.BANK_DISCARDS,
  O.VAULT_STATE, O.VAULT_HANDLE, O.VAULT_LEVEL, O.VAULT_PURPOSE, O.VAULT_KEY_BITS, O.VAULT_COUNTED,
  O.VAULT_USES_LEFT, O.VAULT_ORIGIN, O.VAULT_PARENT, O.VAULT_CREATED_AT, O.VAULT_ARG_KEY, O.VAULT_CMD,
  O.VAULT_RESULT_HANDLE, O.DRBG_STATE, O.LA_CONTEXTS_BUSY, O.GUN_STATE, O.GUN_OWNER, O.GUN_FLAGS, O.PORT_TX_FRAMES,
  O.PORT_TX_BYTES, O.PORT_TX_TRUNCATED, O.PORT_FEC_UNCORRECTED_CW, O.PORT_FC_TX_XOFF_C0, O.PORT_FC_TX_XOFF_C1,
  O.PORT_FC_TX_XOFF_C2, O.PORT_FC_TX_XOFF_C3, O.PORT_FC_TX_XOFF_C4, O.PORT_FC_TX_XOFF_C5, O.PORT_FC_TX_XOFF_C6,
  O.PORT_FC_TX_XOFF_C7, O.SC_STATUS, O.SA_STATE, O.SA_KEK, O.SA_SLOT, O.SA_FLAGS, O.SA_CHANGED_AT,
  O.SCSA_SLOT0_ROW, O.SCSA_SLOT1_ROW, O.SCSA_IN_FORCE_AN, O.SCSA_ZONE_OPEN, O.SA_STAT_PKTS, O.SA_STAT_OCTETS,
  O.SA_STAT_PKTS_ENCRYPTED, O.SA_STAT_NOT_VALID, O.SA_STAT_COMMIT_LATE, O.SA_STAT_TX_LOST, O.CALLROOM_OCCUPANCY,
  O.CALLROOM_PEAK, O.QUEUE_OCCUPANCY, O.QUEUE_NODE, O.BUFP_USED_CELLS, O.BUF_HEADROOM_USED, O.FLT_SRC_CLASS,
  O.FLT_SRC_EVENTS, O.FLT_SRC_LAST_AT, O.FLT_STATUS, O.FLT_FATAL_SINCE_BOOT, O.FLT_LOG_LAST_SEQ,
  O.FLT_LOG_OVERWRITTEN, O.FLT_EVENT_LOST, O.FLT_FIRST_SEVERE, O.FLT_LOG_RECORD, O.PMC_VALUE, O.PMC_STATUS,
  O.PEER_KEY, F.mode, F.draws, F.out, F.sess, F.groups, F.ring, F.pcieDma, F.pciePending, F.faults, F.vault,
  F.checkKey, F.storeKey, F.keyTests, F.keyRestart, F.keyScrub, F.saRecs, F.saCtxs, F.banks, F.pipe, F.clsx,
  F.queues, F.nodes, F.pairs, F.ports, F.laps, F.pmc, F.lc, F.la, F.keyScrubFrom, F.keyReseed, F.keyRequests]

theorem Device.fecUncorrLimit_keeps {W : List Nat} {a : Device} {p : Nat} {codewords : Nat} {d : Device} (hW : Sub Touch.fecUncorrLimit W) (h : Keeps W a d) :
    Keeps W a (Device.fecUncorrLimit p codewords d) := by
  unfold Device.fecUncorrLimit
  try dsimp only
  repeat' first
    | with_reducible exact h | exact memT (by decide +kernel) hW | with_reducible apply Keeps.ite
    | with_reducible refine Device.add64_keeps ?_ ?_
    | with_reducible refine Device.setFec_keeps (subT (by decide +kernel) hW) ?_
    | with_reducible refine Device.faultUnit_keeps (subT (by decide +kernel) hW) ?_ | split

def Touch.pauseClass : List Nat :=
  [O.NODE_PAUSED, F.ports]

theorem Device.pauseClass_keeps {W : List Nat} {a : Device} {until_ : Nat} {p : Nat} {d : Device} {c : Nat} (hW : Sub Touch.pauseClass W) (h : Keeps W a d) :
    Keeps W a (Device.pauseClass until_ p d c) := by
  unfold Device.pauseClass
  try dsimp only
  repeat' first
    | with_reducible exact h | exact memT (by decide +kernel) hW
    | with_reducible refine Device.setPort_keeps (subT (by decide +kernel) hW) ?_
    | with_reducible refine Device.wr_keeps ?_ ?_

def Touch.takePause : List Nat :=
  [O.PORT_FC_RX_XOFF_C0, O.PORT_FC_RX_XOFF_C1, O.PORT_FC_RX_XOFF_C2, O.PORT_FC_RX_XOFF_C3, O.PORT_FC_RX_XOFF_C4,
  O.PORT_FC_RX_XOFF_C5, O.PORT_FC_RX_XOFF_C6, O.PORT_FC_RX_XOFF_C7, O.NODE_PAUSED, F.ports]

theorem Device.takePause_keeps {W : List Nat} {a : Device} {d : Device} {p : Nat} {c : Nat} {count : Nat} {quanta : Nat} (hW : Sub Touch.takePause W) (h : Keeps W a d) :
    Keeps W a (Device.takePause d p c count quanta) := by
  unfold Device.takePause
  try dsimp only
  repeat' first
    | with_reducible exact h | exact memT (by decide +kernel) hW | with_reducible apply Keeps.ite
    | with_reducible refine Device.inc64_keeps ?_ ?_
    | with_reducible refine Device.pauseClass_keeps (subT (by decide +kernel) hW) ?_
    | exact memR (n := 8) (by decide +kernel) (Nat.mod_lt _ (by decide)) hW | split

def Touch.macControlRx : List Nat :=
  [O.PORT_RX_MAC_CONTROL_DROPS, O.PORT_FC_RX_XOFF_C0, O.PORT_FC_RX_XOFF_C1, O.PORT_FC_RX_XOFF_C2,
  O.PORT_FC_RX_XOFF_C3, O.PORT_FC_RX_XOFF_C4, O.PORT_FC_RX_XOFF_C5, O.PORT_FC_RX_XOFF_C6, O.PORT_FC_RX_XOFF_C7,
  O.NODE_PAUSED, F.ports]

theorem Device.macControlRx_keeps {W : List Nat} {a : Device} {p : Nat} {data : Bytes} {d : Device} (hW : Sub Touch.macControlRx W) (h : Keeps W a d) :
    Keeps W a (Device.macControlRx p data d) := by
  unfold Device.macControlRx
  try dsimp only
  repeat' first
    | with_reducible exact h | with_reducible assumption | exact memT (by decide +kernel) hW
    | with_reducible apply Keeps.ite | with_reducible apply Keeps.foldl
    | with_reducible refine Device.takePause_keeps (subT (by decide +kernel) hW) ?_
    | with_reducible refine Device.inc64_keeps ?_ ?_ | intro _ _ hq | intro _ | split

def Touch.pauseExpiry : List Nat :=
  [O.NODE_PAUSED, O.PMC_VALUE, O.PMC_STATUS, F.cyc, F.clk, F.out, F.pciePending, F.ports, F.pmc]

theorem Device.pauseExpiry_keeps {W : List Nat} {a : Device} {p : Nat} {c : Nat} {d : Device} (hW : Sub Touch.pauseExpiry W) (h : Keeps W a d) :
    Keeps W a (Device.pauseExpiry p c d) := by
  unfold Device.pauseExpiry
  try dsimp only
  repeat' first
    | with_reducible exact h | with_reducible apply Keeps.ite
    | with_reducible refine Device.passTo_keeps (subT (by decide +kernel) hW) ?_
    | with_reducible refine Device.pauseClass_keeps (subT (by decide +kernel) hW) ?_ | split

def Touch.xoffRefresh : List Nat :=
  [O.PORT_FC_TX_XOFF_C0, O.PORT_FC_TX_XOFF_C1, O.PORT_FC_TX_XOFF_C2, O.PORT_FC_TX_XOFF_C3, O.PORT_FC_TX_XOFF_C4,
  O.PORT_FC_TX_XOFF_C5, O.PORT_FC_TX_XOFF_C6, O.PORT_FC_TX_XOFF_C7, O.PMC_VALUE, O.PMC_STATUS, F.cyc, F.clk, F.out,
  F.pciePending, F.ports, F.pmc]

theorem Device.xoffRefresh_keeps {W : List Nat} {a : Device} {p : Nat} {d : Device} (hW : Sub Touch.xoffRefresh W) (h : Keeps W a d) :
    Keeps W a (Device.xoffRefresh p d) := by
  unfold Device.xoffRefresh
  try dsimp only
  repeat' first
    | with_reducible exact h | with_reducible assumption | with_reducible apply Keeps.foldl
    | with_reducible refine Device.passTo_keeps (subT (by decide +kernel) hW) ?_
    | with_reducible refine Device.stageHolds_keeps (subT (by decide +kernel) hW) ?_
    | with_reducible refine Device.sendFlow_keeps (subT (by decide +kernel) hW) ?_ | intro _ _ hq | intro _ | split

def Touch.portRecalArmCore : List Nat :=
  [O.LOCK, O.GROUP_OWNER, O.GROUP_STATE, O.GROUP_WRITES, O.GROUP_FAIL_ADDRESS, O.GROUP_FLAGS, O.SESSION_STATE,
  O.SESSION_ROLE, O.SESSION_CA, O.SESSION_ID, O.SESSION_LAST_COUNTER, O.RING_ENABLE, O.RING_HEAD, O.RING_TAIL,
  O.RING_STATE, O.RING_COMPLETED, O.RING_REJECTED, O.GUN_STATE, O.GUN_OWNER, O.GUN_TARGET_ROW, O.GUN_TIME,
  O.GUN_SEQ, O.GUN_TAG, O.GUN_TARGET_CYCLE, O.GUN_FIRED_AT, O.GUN_FLAGS, O.PORT_RECAL_CMD, O.PORT_RECAL_STATE,
  O.PORT_RECAL_FLAGS, O.FLT_SRC_EVENTS, O.FLT_SRC_LAST_AT, O.FLT_LOG_LAST_SEQ, O.FLT_LOG_OVERWRITTEN,
  O.FLT_EVENT_LOST, O.FLT_FIRST_SEVERE, O.FLT_LOG_RECORD, O.PMC_VALUE, O.PMC_STATUS, F.out, F.sess, F.groups,
  F.ring, F.pcieDma, F.pciePending, F.gunSeq, F.guns, F.faults, F.clsx, F.pmc]

theorem Device.portRecalArmCore_keeps {W : List Nat} {a : Device} {r : Req} {p : Nat} {d : Device} (hW : Sub Touch.portRecalArmCore W) (h : Keeps W a d) :
    Keeps W a (Device.portRecalArmCore r p d).2 := by
  unfold Device.portRecalArmCore
  try dsimp only
  repeat' first
    | with_reducible exact h | with_reducible assumption | exact memT (by decide +kernel) hW
    | with_reducible apply Keeps.elim | with_reducible refine Device.runCmd_keeps ?_ ?_ ?_
    | with_reducible refine Device.wr_keeps ?_ ?_
    | with_reducible refine Device.gunTake_keeps (subT (by decide +kernel) hW) ?_ | with_reducible apply Keeps.elim2
    | intro _ _ hq | intro _

def Touch.portRecalCancelCore : List Nat :=
  [O.LOCK, O.GROUP_OWNER, O.GROUP_STATE, O.GROUP_WRITES, O.GROUP_FAIL_ADDRESS, O.GROUP_FLAGS, O.SESSION_STATE,
  O.SESSION_ROLE, O.SESSION_CA, O.SESSION_ID, O.SESSION_LAST_COUNTER, O.RING_ENABLE, O.RING_HEAD, O.RING_TAIL,
  O.RING_STATE, O.RING_COMPLETED, O.RING_REJECTED, O.GUN_STATE, O.GUN_OWNER, O.GUN_FLAGS, O.PORT_RECAL_CMD,
  O.PORT_RECAL_STATE, O.FLT_SRC_EVENTS, O.FLT_SRC_LAST_AT, O.FLT_LOG_LAST_SEQ, O.FLT_LOG_OVERWRITTEN,
  O.FLT_EVENT_LOST, O.FLT_FIRST_SEVERE, O.FLT_LOG_RECORD, O.PMC_VALUE, O.PMC_STATUS, F.out, F.sess, F.groups,
  F.ring, F.pcieDma, F.pciePending, F.faults, F.clsx, F.pmc]

theorem Device.portRecalCancelCore_keeps {W : List Nat} {a : Device} {r : Req} {p : Nat} {d : Device} (hW : Sub Touch.portRecalCancelCore W) (h : Keeps W a d) :
    Keeps W a (Device.portRecalCancelCore r p d).2 := by
  unfold Device.portRecalCancelCore
  try dsimp only
  repeat' first
    | with_reducible exact h | with_reducible assumption | exact memT (by decide +kernel) hW
    | with_reducible apply Keeps.elim | with_reducible refine Device.runCmd_keeps ?_ ?_ ?_
    | with_reducible refine Device.gunCancel_keeps (subT (by decide +kernel) hW) ?_
    | with_reducible refine Device.wr_keeps ?_ ?_ | with_reducible apply Keeps.elim2 | intro _ _ hq | intro _

def Touch.setWindow : List Nat :=
  [F.ports]

theorem Device.setWindow_keeps {W : List Nat} {a : Device} {d : Device} {p : Nat} {at_ : Nat} {frozen : Bool} (hW : Sub Touch.setWindow W) (h : Keeps W a d) :
    Keeps W a (Device.setWindow d p at_ frozen) := by
  unfold Device.setWindow
  try dsimp only
  repeat' first
    | with_reducible exact h | with_reducible refine Device.setPort_keeps (subT (by decide +kernel) hW) ?_

def Touch.recalOpen : List Nat :=
  [O.LOCK, O.GROUP_OWNER, O.GROUP_STATE, O.GROUP_WRITES, O.GROUP_FAIL_ADDRESS, O.GROUP_FLAGS, O.SESSION_STATE,
  O.SESSION_ROLE, O.SESSION_CA, O.SESSION_ID, O.SESSION_LAST_COUNTER, O.RING_ENABLE, O.RING_HEAD, O.RING_TAIL,
  O.RING_STATE, O.RING_COMPLETED, O.RING_REJECTED, O.INJECT_REFUSED, O.RUNAHEAD_FALSE_STARTS,
  O.RUNAHEAD_WASTED_CELLS, O.GUN_STATE, O.GUN_OWNER, O.GUN_FLAGS, O.PORT_LINK, O.PORT_LINK_CHANGES,
  O.PORT_TX_FRAMES, O.PORT_TX_BYTES, O.PORT_TX_TRUNCATED, O.PORT_RECAL_STATE, O.PORT_FC_TX_XOFF_C0,
  O.PORT_FC_TX_XOFF_C1, O.PORT_FC_TX_XOFF_C2, O.PORT_FC_TX_XOFF_C3, O.PORT_FC_TX_XOFF_C4, O.PORT_FC_TX_XOFF_C5,
  O.PORT_FC_TX_XOFF_C6, O.PORT_FC_TX_XOFF_C7, O.SA_STAT_TX_LOST, O.CALLROOM_OCCUPANCY, O.CALLROOM_PEAK,
  O.QUEUE_OCCUPANCY, O.QUEUE_NODE, O.BUFP_USED_CELLS, O.BUF_HEADROOM_USED, O.FLT_SRC_EVENTS, O.FLT_SRC_LAST_AT,
  O.FLT_LOG_LAST_SEQ, O.FLT_LOG_OVERWRITTEN, O.FLT_EVENT_LOST, O.FLT_FIRST_SEVERE, O.FLT_LOG_RECORD, O.PMC_VALUE,
  O.PMC_STATUS, F.out, F.sess, F.groups, F.ring, F.pcieDma, F.pciePending, F.faults, F.pipe, F.clsx, F.queues,
  F.nodes, F.pairs, F.ports, F.laps, F.pmc]

theorem Device.recalOpen_keeps {W : List Nat} {a : Device} {d : Device} {p : Nat} (hW : Sub Touch.recalOpen W) (h : Keeps W a d) :
    Keeps W a (Device.recalOpen d p) := by
  unfold Device.recalOpen
  try dsimp only
  repeat' first
    | with_reducible exact h | with_reducible assumption | exact memT (by decide +kernel) hW
    | with_reducible apply Keeps.ite
    | with_reducible refine Device.withSignals_keeps (subT (by decide +kernel) hW) ?_ ?_
    | with_reducible refine Device.wr_keeps ?_ ?_
    | with_reducible refine Device.setWindow_keeps (subT (by decide +kernel) hW) ?_
    | with_reducible refine Device.setLink_keeps (subT (by decide +kernel) hW) ?_
    | with_reducible refine Device.setHolds_keeps (subT (by decide +kernel) hW) ?_ | intro _ _ hq | intro _ | split

def Touch.recalCancelled : List Nat :=
  [O.LOCK, O.GROUP_OWNER, O.GROUP_STATE, O.GROUP_WRITES, O.GROUP_FAIL_ADDRESS, O.GROUP_FLAGS, O.SESSION_STATE,
  O.SESSION_ROLE, O.SESSION_CA, O.SESSION_ID, O.SESSION_LAST_COUNTER, O.RING_ENABLE, O.RING_HEAD, O.RING_TAIL,
  O.RING_STATE, O.RING_COMPLETED, O.RING_REJECTED, O.GUN_STATE, O.GUN_OWNER, O.GUN_FLAGS, O.PORT_RECAL_STATE,
  O.FLT_SRC_EVENTS, O.FLT_SRC_LAST_AT, O.FLT_LOG_LAST_SEQ, O.FLT_LOG_OVERWRITTEN, O.FLT_EVENT_LOST,
  O.FLT_FIRST_SEVERE, O.FLT_LOG_RECORD, O.PMC_VALUE, O.PMC_STATUS, F.out, F.sess, F.groups, F.ring, F.pcieDma,
  F.pciePending, F.faults, F.clsx, F.pmc]

theorem Device.recalCancelled_keeps {W : List Nat} {a : Device} {d : Device} {p : Nat} (hW : Sub Touch.recalCancelled W) (h : Keeps W a d) :
    Keeps W a (Device.recalCancelled d p) := by
  unfold Device.recalCancelled
  try dsimp only
  repeat' first
    | with_reducible exact h | exact memT (by decide +kernel) hW | with_reducible refine Device.wr_keeps ?_ ?_
    | with_reducible refine Device.noteRow_keeps (subT (by decide +kernel) hW) ?_

def Touch.adaptTo : List Nat :=
  [O.LANE_ADAPT]

theorem Device.adaptTo_keeps {W : List Nat} {a : Device} {d : Device} {st : Nat} {l : Nat} (hW : Sub Touch.adaptTo W) (h : Keeps W a d) :
    Keeps W a (Device.adaptTo d st l) := by
  unfold Device.adaptTo
  try dsimp only
  repeat' first
    | with_reducible exact h | exact memT (by decide +kernel) hW | with_reducible apply Keeps.ite
    | with_reducible refine Device.wr_keeps ?_ ?_ | split

def Touch.receiverFreeze : List Nat :=
  [O.RING_HEAD, O.RING_TAIL, O.RING_STATE, O.RING_COMPLETED, O.RING_REJECTED, O.INJECT_REFUSED,
  O.RUNAHEAD_FALSE_STARTS, O.RUNAHEAD_WASTED_CELLS, O.LANE_ADAPT, O.PORT_RX_FRAMES, O.PORT_RX_BYTES,
  O.PORT_RX_RECAL_DROPS, O.PORT_FC_TX_XOFF_C0, O.PORT_FC_TX_XOFF_C1, O.PORT_FC_TX_XOFF_C2, O.PORT_FC_TX_XOFF_C3,
  O.PORT_FC_TX_XOFF_C4, O.PORT_FC_TX_XOFF_C5, O.PORT_FC_TX_XOFF_C6, O.PORT_FC_TX_XOFF_C7, O.SA_STAT_TX_LOST,
  O.CALLROOM_OCCUPANCY, O.CALLROOM_PEAK, O.QUEUE_OCCUPANCY, O.QUEUE_NODE, O.BUFP_USED_CELLS, O.BUF_HEADROOM_USED,
  O.PMC_VALUE, O.PMC_STATUS, F.cyc, F.clk, F.out, F.pcieDma, F.pciePending, F.acqAt, F.pipe, F.queues, F.nodes,
  F.pairs, F.ports, F.laps, F.pmc]

theorem Device.receiverFreeze_keeps {W : List Nat} {a : Device} {p : Nat} {cut : Option Nat} {d : Device} (hW : Sub Touch.receiverFreeze W) (h : Keeps W a d) :
    Keeps W a (Device.receiverFreeze p cut d) := by
  unfold Device.receiverFreeze
  try dsimp only
  repeat' first
    | with_reducible exact h | with_reducible assumption | exact memT (by decide +kernel) hW
    | with_reducible apply Keeps.ite | with_reducible apply Keeps.elim | with_reducible apply Keeps.foldl
    | with_reducible refine Device.passTo_keeps (subT (by decide +kernel) hW) ?_
    | with_reducible refine Device.setWindow_keeps (subT (by decide +kernel) hW) ?_
    | with_reducible refine Device.adaptTo_keeps (subT (by decide +kernel) hW) ?_
    | with_reducible refine Device.setAcq_keeps (subT (by decide +kernel) hW) ?_
    | with_reducible refine Device.inc64_keeps ?_ ?_
    | with_reducible refine Device.cutReception_keeps (subT (by decide +kernel) hW) ?_ | intro _ _ hq | intro _
    | split

def Touch.recalEnd : List Nat :=
  [O.LOCK, O.GROUP_OWNER, O.GROUP_STATE, O.GROUP_WRITES, O.GROUP_FAIL_ADDRESS, O.GROUP_FLAGS, O.SESSION_STATE,
  O.SESSION_ROLE, O.SESSION_CA, O.SESSION_ID, O.SESSION_LAST_COUNTER, O.RING_ENABLE, O.RING_HEAD, O.RING_TAIL,
  O.RING_STATE, O.RING_COMPLETED, O.RING_REJECTED, O.INJECT_REFUSED, O.RUNAHEAD_FALSE_STARTS,
  O.RUNAHEAD_WASTED_CELLS, O.GUN_STATE, O.GUN_OWNER, O.GUN_FLAGS, O.LANE_ADAPT, O.PORT_LINK, O.PORT_LINK_CHANGES,
  O.PORT_TX_FRAMES, O.PORT_TX_BYTES, O.PORT_TX_TRUNCATED, O.PORT_RECAL_STATE, O.PORT_FC_TX_XOFF_C0,
  O.PORT_FC_TX_XOFF_C1, O.PORT_FC_TX_XOFF_C2, O.PORT_FC_TX_XOFF_C3, O.PORT_FC_TX_XOFF_C4, O.PORT_FC_TX_XOFF_C5,
  O.PORT_FC_TX_XOFF_C6, O.PORT_FC_TX_XOFF_C7, O.SA_STAT_TX_LOST, O.CALLROOM_OCCUPANCY, O.CALLROOM_PEAK,
  O.QUEUE_OCCUPANCY, O.QUEUE_NODE, O.BUFP_USED_CELLS, O.BUF_HEADROOM_USED, O.FLT_SRC_EVENTS, O.FLT_SRC_LAST_AT,
  O.FLT_LOG_LAST_SEQ, O.FLT_LOG_OVERWRITTEN, O.FLT_EVENT_LOST, O.FLT_FIRST_SEVERE, O.FLT_LOG_RECORD, O.PMC_VALUE,
  O.PMC_STATUS, F.out, F.sess, F.groups, F.ring, F.pcieDma, F.pciePending, F.faults, F.pipe, F.clsx, F.queues,
  F.nodes, F.pairs, F.ports, F.laps, F.pmc]

theorem Device.recalEnd_keeps {W : List Nat} {a : Device} {d : Device} {p : Nat} {state : Nat} {rx : RxState} {adapt : Nat} (hW : Sub Touch.recalEnd W) (h : Keeps W a d) :
    Keeps W a (Device.recalEnd d p state rx adapt) := by
  unfold Device.recalEnd
  try dsimp only
  repeat' first
    | with_reducible exact h | with_reducible assumption | exact memT (by decide +kernel) hW
    | with_reducible apply Keeps.foldl
    | with_reducible refine Device.withSignals_keeps (subT (by decide +kernel) hW) ?_ ?_
    | with_reducible refine Device.wr_keeps ?_ ?_
    | with_reducible refine Device.setPort_keeps (subT (by decide +kernel) hW) ?_
    | with_reducible refine Device.adaptTo_keeps (subT (by decide +kernel) hW) ?_
    | with_reducible refine Device.setLink_keeps (subT (by decide +kernel) hW) ?_
    | with_reducible refine Device.setHolds_keeps (subT (by decide +kernel) hW) ?_ | intro _ _ hq | intro _

def Touch.recalAlignmentRegained : List Nat :=
  Touch.recalEnd

theorem Device.recalAlignmentRegained_keeps {W : List Nat} {a : Device} {p : Nat} {rx : RxState} {d : Device} (hW : Sub Touch.recalAlignmentRegained W) (h : Keeps W a d) :
    Keeps W a (Device.recalAlignmentRegained p rx d) := by
  unfold Device.recalAlignmentRegained
  try dsimp only
  repeat' first
    | with_reducible exact h | with_reducible apply Keeps.ite
    | with_reducible refine Device.recalEnd_keeps (subT (by decide +kernel) hW) ?_ | split

def Touch.recalTimeout : List Nat :=
  [O.LOCK, O.GROUP_OWNER, O.GROUP_STATE, O.GROUP_WRITES, O.GROUP_FAIL_ADDRESS, O.GROUP_FLAGS, O.SESSION_STATE,
  O.SESSION_ROLE, O.SESSION_CA, O.SESSION_ID, O.SESSION_LAST_COUNTER, O.ROLE_ROOT, O.RING_ENABLE, O.RING_HEAD,
  O.RING_TAIL, O.RING_STATE, O.RING_COMPLETED, O.RING_REJECTED, O.INJECT_REFUSED, O.MODE, O.MODE_CMD,
  O.MODE_ENTERED_AT, O.MODE_CAUSE, O.RUNAHEAD_FALSE_STARTS, O.RUNAHEAD_WASTED_CELLS, O.BANK_DISCARDS,
  O.VAULT_STATE, O.VAULT_HANDLE, O.VAULT_LEVEL, O.VAULT_PURPOSE, O.VAULT_KEY_BITS, O.VAULT_COUNTED,
  O.VAULT_USES_LEFT, O.VAULT_ORIGIN, O.VAULT_PARENT, O.VAULT_CREATED_AT, O.VAULT_ARG_KEY, O.VAULT_CMD,
  O.VAULT_RESULT_HANDLE, O.DRBG_STATE, O.LA_CONTEXTS_BUSY, O.GUN_STATE, O.GUN_OWNER, O.GUN_FLAGS, O.LANE_ADAPT,
  O.PORT_LINK, O.PORT_LINK_CHANGES, O.PORT_TX_FRAMES, O.PORT_TX_BYTES, O.PORT_TX_TRUNCATED, O.PORT_RECAL_STATE,
  O.PORT_FC_TX_XOFF_C0, O.PORT_FC_TX_XOFF_C1, O.PORT_FC_TX_XOFF_C2, O.PORT_FC_TX_XOFF_C3, O.PORT_FC_TX_XOFF_C4,
  O.PORT_FC_TX_XOFF_C5, O.PORT_FC_TX_XOFF_C6, O.PORT_FC_TX_XOFF_C7, O.SC_STATUS, O.SA_STATE, O.SA_KEK, O.SA_SLOT,
  O.SA_FLAGS, O.SA_CHANGED_AT, O.SCSA_SLOT0_ROW, O.SCSA_SLOT1_ROW, O.SCSA_IN_FORCE_AN, O.SCSA_ZONE_OPEN,
  O.SA_STAT_PKTS, O.SA_STAT_OCTETS, O.SA_STAT_PKTS_ENCRYPTED, O.SA_STAT_NOT_VALID, O.SA_STAT_COMMIT_LATE,
  O.SA_STAT_TX_LOST, O.CALLROOM_OCCUPANCY, O.CALLROOM_PEAK, O.QUEUE_OCCUPANCY, O.QUEUE_NODE, O.BUFP_USED_CELLS,
  O.BUF_HEADROOM_USED, O.FLT_SRC_CLASS, O.FLT_SRC_EVENTS, O.FLT_SRC_LAST_AT, O.FLT_STATUS, O.FLT_FATAL_SINCE_BOOT,
  O.FLT_LOG_LAST_SEQ, O.FLT_LOG_OVERWRITTEN, O.FLT_EVENT_LOST, O.FLT_FIRST_SEVERE, O.FLT_LOG_RECORD, O.PMC_VALUE,
  O.PMC_STATUS, O.PEER_KEY, F.mode, F.cyc, F.clk, F.draws, F.out, F.sess, F.groups, F.ring, F.pcieDma,
  F.pciePending, F.faults, F.vault, F.checkKey, F.storeKey, F.keyTests, F.keyRestart, F.keyScrub, F.saRecs,
  F.saCtxs, F.banks, F.pipe, F.clsx, F.queues, F.nodes, F.pairs, F.ports, F.laps, F.pmc, F.lc, F.la,
  F.keyScrubFrom, F.keyReseed, F.keyRequests]

theorem Device.recalTimeout_keeps {W : List Nat} {a : Device} {p : Nat} {d : Device} (hW : Sub Touch.recalTimeout W) (h : Keeps W a d) :
    Keeps W a (Device.recalTimeout p d) := by
  unfold Device.recalTimeout
  try dsimp only
  repeat' first
    | with_reducible exact h | with_reducible apply Keeps.ite
    | with_reducible refine Device.passTo_keeps (subT (by decide +kernel) hW) ?_
    | with_reducible refine Device.recalEnd_keeps (subT (by decide +kernel) hW) ?_
    | with_reducible refine Device.faultUnit_keeps (subT (by decide +kernel) hW) ?_ | split

end Sys2Proof.Machine
end

