-- ==== Sys2Proof/Laws/KeepsMonitors.lean ====
section
/-!
SUPPORT. The places that each operation of Machine/Monitors.lean may change (Laws/Keeps.lean).
-/
set_option Elab.async false
set_option linter.all false
set_option linter.unusedTactic false
set_option linter.unreachableTactic false
set_option linter.style.longLine false
namespace Sys2Proof.Machine

def Touch.setMon : List Nat :=
  [F.mon]

theorem Device.setMon_keeps {W : List Nat} {a : Device} {d : Device} {x : MonX} (hW : Sub Touch.setMon W) (h : Keeps W a d) :
    Keeps W a (Device.setMon d x) := 
  h.same rfl rfl (fun k hk => by
    unfold sameField
    split <;> first | rfl | exact absurd (memF (by decide +kernel) hW) hk | trivial)

def Touch.tamperShared : List Nat :=
  [O.TAMPER_LOG_ENTRY, O.TAMPER_FIRST]

theorem Device.tamperShared_keeps {W : List Nat} {a : Device} {d : Device} {seq : Nat} (hW : Sub Touch.tamperShared W) (h : Keeps W a d) :
    Keeps W a (Device.tamperShared d seq) := by
  unfold Device.tamperShared
  try dsimp only
  repeat' first
    | with_reducible exact h | exact memT (by decide +kernel) hW | with_reducible apply Keeps.ite
    | with_reducible refine Device.wr_keeps ?_ ?_ | split

def Touch.tamperStore : List Nat :=
  [O.TAMPER_LOG_ENTRY, O.TAMPER_LOG_LAST_SEQ, O.TAMPER_LOG_OVERWRITTEN, O.TAMPER_FIRST, F.mon]

theorem Device.tamperStore_keeps {W : List Nat} {a : Device} {d : Device} {ch : Nat} {kind : Nat} {e : Bytes} (hW : Sub Touch.tamperStore W) (h : Keeps W a d) :
    Keeps W a (Device.tamperStore d ch kind e) := by
  unfold Device.tamperStore
  try dsimp only
  repeat' first
    | with_reducible exact h | with_reducible assumption | exact memT (by decide +kernel) hW
    | with_reducible apply Keeps.ite | with_reducible apply Keeps.elim
    | with_reducible refine Device.tamperShared_keeps (subT (by decide +kernel) hW) ?_
    | with_reducible refine Device.setMon_keeps (subT (by decide +kernel) hW) ?_
    | with_reducible refine Device.inc32_keeps ?_ ?_ | with_reducible refine Device.wr_keeps ?_ ?_ | intro _ _ hq
    | intro _ | split

def Touch.tamperEntry : List Nat :=
  [O.LOCK, O.GROUP_OWNER, O.GROUP_STATE, O.GROUP_WRITES, O.GROUP_FAIL_ADDRESS, O.GROUP_FLAGS, O.SESSION_STATE,
  O.SESSION_ROLE, O.SESSION_CA, O.SESSION_ID, O.SESSION_LAST_COUNTER, O.RING_ENABLE, O.RING_HEAD, O.RING_TAIL,
  O.RING_STATE, O.RING_COMPLETED, O.RING_REJECTED, O.GUN_STATE, O.GUN_OWNER, O.GUN_FLAGS, O.FLT_SRC_EVENTS,
  O.FLT_SRC_LAST_AT, O.FLT_LOG_LAST_SEQ, O.FLT_LOG_OVERWRITTEN, O.FLT_EVENT_LOST, O.FLT_FIRST_SEVERE,
  O.FLT_LOG_RECORD, O.TAMPER_LOG_ENTRY, O.TAMPER_LOG_LAST_SEQ, O.TAMPER_LOG_OVERWRITTEN, O.TAMPER_FIRST,
  O.PMC_VALUE, O.PMC_STATUS, F.out, F.sess, F.groups, F.ring, F.pcieDma, F.pciePending, F.faults, F.clsx, F.pmc,
  F.mon]

theorem Device.tamperEntry_keeps {W : List Nat} {a : Device} {d : Device} {ch : Nat} {kind : Nat} {flags : Nat} {count : Nat} {tail : Bytes} (hW : Sub Touch.tamperEntry W) (h : Keeps W a d) :
    Keeps W a (Device.tamperEntry d ch kind flags count tail) := by
  unfold Device.tamperEntry
  try dsimp only
  repeat' first
    | with_reducible exact h | with_reducible refine Device.tamperStore_keeps (subT (by decide +kernel) hW) ?_
    | with_reducible refine Device.ringEvent_keeps (subT (by decide +kernel) hW) ?_

def Touch.tamperBoot : List Nat :=
  Touch.tamperEntry

theorem Device.tamperBoot_keeps {W : List Nat} {a : Device} {d : Device} (hW : Sub Touch.tamperBoot W) (h : Keeps W a d) :
    Keeps W a (Device.tamperBoot d) := by
  unfold Device.tamperBoot
  try dsimp only
  repeat' first
    | with_reducible exact h | with_reducible refine Device.tamperEntry_keeps (subT (by decide +kernel) hW) ?_

def Touch.tamperTimeSet : List Nat :=
  Touch.tamperEntry

theorem Device.tamperTimeSet_keeps {W : List Nat} {a : Device} {d : Device} {before : Nat} (hW : Sub Touch.tamperTimeSet W) (h : Keeps W a d) :
    Keeps W a (Device.tamperTimeSet d before) := by
  unfold Device.tamperTimeSet
  try dsimp only
  repeat' first
    | with_reducible exact h | with_reducible refine Device.tamperEntry_keeps (subT (by decide +kernel) hW) ?_

def Touch.sawBeyond : List Nat :=
  [F.mon]

theorem Device.sawBeyond_keeps {W : List Nat} {a : Device} {d : Device} {ch : Nat} {region : Nat} {region2 : Nat} (hW : Sub Touch.sawBeyond W) (h : Keeps W a d) :
    Keeps W a (Device.sawBeyond d ch region region2) := by
  unfold Device.sawBeyond
  try dsimp only
  repeat' first
    | with_reducible exact h | with_reducible assumption
    | with_reducible refine Device.setMon_keeps (subT (by decide +kernel) hW) ?_ | intro _ _ hq | intro _

def Touch.monSettled : List Nat :=
  Touch.advance

theorem Device.monSettled_keeps {W : List Nat} {a : Device} {d : Device} {ch : Nat} (hW : Sub Touch.monSettled W) (h : Keeps W a d) :
    Keeps W a (Device.monSettled d ch) := by
  unfold Device.monSettled
  try dsimp only
  repeat' first
    | with_reducible exact h | with_reducible assumption | with_reducible apply Keeps.ite
    | with_reducible refine Device.passTo_keeps (subT (by decide +kernel) hW) ?_ | with_reducible apply Keeps.ite2
    | intro _ _ hq | intro _ | split

def Touch.setSrcState : List Nat :=
  [O.FLT_SRC_STATE]

theorem Device.setSrcState_keeps {W : List Nat} {a : Device} {d : Device} {src : Nat} {v : Nat} (hW : Sub Touch.setSrcState W) (h : Keeps W a d) :
    Keeps W a (Device.setSrcState d src v) := by
  unfold Device.setSrcState
  try dsimp only
  repeat' first
    | with_reducible exact h | exact memT (by decide +kernel) hW | with_reducible apply Keeps.ite
    | with_reducible refine Device.wr_keeps ?_ ?_ | split

def Touch.envEvent : List Nat :=
  [O.LOCK, O.GROUP_OWNER, O.GROUP_STATE, O.GROUP_WRITES, O.GROUP_FAIL_ADDRESS, O.GROUP_FLAGS, O.SESSION_STATE,
  O.SESSION_ROLE, O.SESSION_CA, O.SESSION_ID, O.SESSION_LAST_COUNTER, O.ROLE_ROOT, O.RING_ENABLE, O.RING_HEAD,
  O.RING_TAIL, O.RING_STATE, O.RING_COMPLETED, O.RING_REJECTED, O.INJECT_REFUSED, O.MODE, O.MODE_CMD,
  O.MODE_ENTERED_AT, O.MODE_CAUSE, O.RUNAHEAD_FALSE_STARTS, O.RUNAHEAD_WASTED_CELLS, O.BANK_DISCARDS,
  O.VAULT_STATE, O.VAULT_HANDLE, O.VAULT_LEVEL, O.VAULT_PURPOSE, O.VAULT_KEY_BITS, O.VAULT_COUNTED,
  O.VAULT_USES_LEFT, O.VAULT_ORIGIN, O.VAULT_PARENT, O.VAULT_CREATED_AT, O.VAULT_ARG_KEY, O.VAULT_CMD,
  O.VAULT_RESULT_HANDLE, O.DRBG_STATE, O.LA_CONTEXTS_BUSY, O.GUN_STATE, O.GUN_OWNER, O.GUN_FLAGS, O.PORT_TX_FRAMES,
  O.PORT_TX_BYTES, O.PORT_TX_TRUNCATED, O.PORT_FC_TX_XOFF_C0, O.PORT_FC_TX_XOFF_C1, O.PORT_FC_TX_XOFF_C2,
  O.PORT_FC_TX_XOFF_C3, O.PORT_FC_TX_XOFF_C4, O.PORT_FC_TX_XOFF_C5, O.PORT_FC_TX_XOFF_C6, O.PORT_FC_TX_XOFF_C7,
  O.SC_STATUS, O.SA_STATE, O.SA_KEK, O.SA_SLOT, O.SA_FLAGS, O.SA_CHANGED_AT, O.SCSA_SLOT0_ROW, O.SCSA_SLOT1_ROW,
  O.SCSA_IN_FORCE_AN, O.SCSA_ZONE_OPEN, O.SA_STAT_PKTS, O.SA_STAT_OCTETS, O.SA_STAT_PKTS_ENCRYPTED,
  O.SA_STAT_NOT_VALID, O.SA_STAT_COMMIT_LATE, O.SA_STAT_TX_LOST, O.CALLROOM_OCCUPANCY, O.CALLROOM_PEAK,
  O.QUEUE_OCCUPANCY, O.QUEUE_NODE, O.BUFP_USED_CELLS, O.BUF_HEADROOM_USED, O.FLT_SRC_STATE, O.FLT_SRC_CLASS,
  O.FLT_SRC_EVENTS, O.FLT_SRC_LAST_AT, O.FLT_STATUS, O.FLT_FATAL_SINCE_BOOT, O.FLT_LOG_LAST_SEQ,
  O.FLT_LOG_OVERWRITTEN, O.FLT_EVENT_LOST, O.FLT_FIRST_SEVERE, O.FLT_LOG_RECORD, O.TAMPER_LOG_ENTRY,
  O.TAMPER_LOG_LAST_SEQ, O.TAMPER_LOG_OVERWRITTEN, O.TAMPER_FIRST, O.PMC_VALUE, O.PMC_STATUS, O.PEER_KEY, F.mode,
  F.draws, F.out, F.sess, F.groups, F.ring, F.pcieDma, F.pciePending, F.faults, F.vault, F.checkKey, F.storeKey,
  F.keyTests, F.keyRestart, F.keyScrub, F.saRecs, F.saCtxs, F.banks, F.pipe, F.clsx, F.queues, F.nodes, F.pairs,
  F.ports, F.laps, F.pmc, F.lc, F.mon, F.la, F.keyScrubFrom, F.keyReseed, F.keyRequests]

theorem Device.envEvent_keeps {W : List Nat} {a : Device} {d : Device} {ch : Nat} {value : Int} {region : Nat} {region2 : Nat} (hW : Sub Touch.envEvent W) (h : Keeps W a d) :
    Keeps W a (Device.envEvent d ch value region region2) := by
  unfold Device.envEvent
  try dsimp only
  repeat' first
    | with_reducible exact h | with_reducible apply Keeps.ite
    | with_reducible refine Device.tamperEntry_keeps (subT (by decide +kernel) hW) ?_
    | with_reducible refine Device.setSrcState_keeps (subT (by decide +kernel) hW) ?_
    | with_reducible refine Device.fault_keeps (subT (by decide +kernel) hW) ?_ | split

def Touch.tamperEvent : List Nat :=
  [O.LOCK, O.GROUP_OWNER, O.GROUP_STATE, O.GROUP_WRITES, O.GROUP_FAIL_ADDRESS, O.GROUP_FLAGS, O.SESSION_STATE,
  O.SESSION_ROLE, O.SESSION_CA, O.SESSION_ID, O.SESSION_LAST_COUNTER, O.RING_ENABLE, O.RING_HEAD, O.RING_TAIL,
  O.RING_STATE, O.RING_COMPLETED, O.RING_REJECTED, O.GUN_STATE, O.GUN_OWNER, O.GUN_FLAGS, O.FLT_SRC_EVENTS,
  O.FLT_SRC_LAST_AT, O.FLT_LOG_LAST_SEQ, O.FLT_LOG_OVERWRITTEN, O.FLT_EVENT_LOST, O.FLT_FIRST_SEVERE,
  O.FLT_LOG_RECORD, O.MON_HOT, O.TAMPER_LOG_ENTRY, O.TAMPER_LOG_LAST_SEQ, O.TAMPER_LOG_OVERWRITTEN, O.TAMPER_FIRST,
  O.PMC_VALUE, O.PMC_STATUS, F.out, F.sess, F.groups, F.ring, F.pcieDma, F.pciePending, F.faults, F.clsx, F.pmc,
  F.mon]

theorem Device.tamperEvent_keeps {W : List Nat} {a : Device} {d : Device} {ch : Nat} (hW : Sub Touch.tamperEvent W) (h : Keeps W a d) :
    Keeps W a (Device.tamperEvent d ch) := by
  unfold Device.tamperEvent
  try dsimp only
  repeat' first
    | with_reducible exact h | exact memT (by decide +kernel) hW | with_reducible apply Keeps.ite
    | with_reducible refine Device.setMon_keeps (subT (by decide +kernel) hW) ?_
    | with_reducible refine Device.tamperEntry_keeps (subT (by decide +kernel) hW) ?_
    | with_reducible refine Device.wr_keeps ?_ ?_ | split

def Touch.monitorEvent : List Nat :=
  [O.LOCK, O.GROUP_OWNER, O.GROUP_STATE, O.GROUP_WRITES, O.GROUP_FAIL_ADDRESS, O.GROUP_FLAGS, O.SESSION_STATE,
  O.SESSION_ROLE, O.SESSION_CA, O.SESSION_ID, O.SESSION_LAST_COUNTER, O.ROLE_ROOT, O.RING_ENABLE, O.RING_HEAD,
  O.RING_TAIL, O.RING_STATE, O.RING_COMPLETED, O.RING_REJECTED, O.INJECT_REFUSED, O.MODE, O.MODE_CMD,
  O.MODE_ENTERED_AT, O.MODE_CAUSE, O.RUNAHEAD_FALSE_STARTS, O.RUNAHEAD_WASTED_CELLS, O.BANK_DISCARDS,
  O.VAULT_STATE, O.VAULT_HANDLE, O.VAULT_LEVEL, O.VAULT_PURPOSE, O.VAULT_KEY_BITS, O.VAULT_COUNTED,
  O.VAULT_USES_LEFT, O.VAULT_ORIGIN, O.VAULT_PARENT, O.VAULT_CREATED_AT, O.VAULT_ARG_KEY, O.VAULT_CMD,
  O.VAULT_RESULT_HANDLE, O.DRBG_STATE, O.LA_CONTEXTS_BUSY, O.GUN_STATE, O.GUN_OWNER, O.GUN_FLAGS, O.PORT_TX_FRAMES,
  O.PORT_TX_BYTES, O.PORT_TX_TRUNCATED, O.PORT_FC_TX_XOFF_C0, O.PORT_FC_TX_XOFF_C1, O.PORT_FC_TX_XOFF_C2,
  O.PORT_FC_TX_XOFF_C3, O.PORT_FC_TX_XOFF_C4, O.PORT_FC_TX_XOFF_C5, O.PORT_FC_TX_XOFF_C6, O.PORT_FC_TX_XOFF_C7,
  O.SC_STATUS, O.SA_STATE, O.SA_KEK, O.SA_SLOT, O.SA_FLAGS, O.SA_CHANGED_AT, O.SCSA_SLOT0_ROW, O.SCSA_SLOT1_ROW,
  O.SCSA_IN_FORCE_AN, O.SCSA_ZONE_OPEN, O.SA_STAT_PKTS, O.SA_STAT_OCTETS, O.SA_STAT_PKTS_ENCRYPTED,
  O.SA_STAT_NOT_VALID, O.SA_STAT_COMMIT_LATE, O.SA_STAT_TX_LOST, O.CALLROOM_OCCUPANCY, O.CALLROOM_PEAK,
  O.QUEUE_OCCUPANCY, O.QUEUE_NODE, O.BUFP_USED_CELLS, O.BUF_HEADROOM_USED, O.FLT_SRC_STATE, O.FLT_SRC_CLASS,
  O.FLT_SRC_EVENTS, O.FLT_SRC_LAST_AT, O.FLT_STATUS, O.FLT_FATAL_SINCE_BOOT, O.FLT_LOG_LAST_SEQ,
  O.FLT_LOG_OVERWRITTEN, O.FLT_EVENT_LOST, O.FLT_FIRST_SEVERE, O.FLT_LOG_RECORD, O.MON_VALUE, O.MON_STATE,
  O.MON_EVENTS, O.MON_HOT, O.TAMPER_LOG_ENTRY, O.TAMPER_LOG_LAST_SEQ, O.TAMPER_LOG_OVERWRITTEN, O.TAMPER_FIRST,
  O.PMC_VALUE, O.PMC_STATUS, O.PEER_KEY, F.mode, F.draws, F.out, F.sess, F.groups, F.ring, F.pcieDma,
  F.pciePending, F.faults, F.vault, F.checkKey, F.storeKey, F.keyTests, F.keyRestart, F.keyScrub, F.saRecs,
  F.saCtxs, F.banks, F.pipe, F.clsx, F.queues, F.nodes, F.pairs, F.ports, F.laps, F.pmc, F.lc, F.mon, F.la,
  F.keyScrubFrom, F.keyReseed, F.keyRequests]

theorem Device.monitorEvent_keeps {W : List Nat} {a : Device} {ch : Nat} {value : Int} {region : Nat} {region2 : Nat} {d : Device} (hW : Sub Touch.monitorEvent W) (h : Keeps W a d) :
    Keeps W a (Device.monitorEvent ch value region region2 d) := by
  unfold Device.monitorEvent
  try dsimp only
  repeat' first
    | with_reducible exact h | exact memT (by decide +kernel) hW | with_reducible apply Keeps.ite
    | with_reducible refine Device.wr_keeps ?_ ?_
    | with_reducible refine Device.sawBeyond_keeps (subT (by decide +kernel) hW) ?_
    | with_reducible refine Device.inc64_keeps ?_ ?_
    | with_reducible refine Device.envEvent_keeps (subT (by decide +kernel) hW) ?_
    | with_reducible refine Device.tamperEvent_keeps (subT (by decide +kernel) hW) ?_ | split

def Touch.monitorRearm : List Nat :=
  [O.LOCK, O.GROUP_OWNER, O.GROUP_STATE, O.GROUP_WRITES, O.GROUP_FAIL_ADDRESS, O.GROUP_FLAGS, O.SESSION_STATE,
  O.SESSION_ROLE, O.SESSION_CA, O.SESSION_ID, O.SESSION_LAST_COUNTER, O.RING_ENABLE, O.RING_HEAD, O.RING_TAIL,
  O.RING_STATE, O.RING_COMPLETED, O.RING_REJECTED, O.GUN_STATE, O.GUN_OWNER, O.GUN_FLAGS, O.FLT_SRC_STATE,
  O.FLT_SRC_EVENTS, O.FLT_SRC_LAST_AT, O.FLT_LOG_LAST_SEQ, O.FLT_LOG_OVERWRITTEN, O.FLT_EVENT_LOST,
  O.FLT_FIRST_SEVERE, O.FLT_LOG_RECORD, O.MON_VALUE, O.MON_STATE, O.TAMPER_LOG_ENTRY, O.TAMPER_LOG_LAST_SEQ,
  O.TAMPER_LOG_OVERWRITTEN, O.TAMPER_FIRST, O.PMC_VALUE, O.PMC_STATUS, F.cyc, F.clk, F.out, F.sess, F.groups,
  F.ring, F.pcieDma, F.pciePending, F.faults, F.clsx, F.pmc, F.mon]

theorem Device.monitorRearm_keeps {W : List Nat} {a : Device} {ch : Nat} {value : Int} {d : Device} (hW : Sub Touch.monitorRearm W) (h : Keeps W a d) :
    Keeps W a (Device.monitorRearm ch value d) := by
  unfold Device.monitorRearm
  try dsimp only
  repeat' first
    | with_reducible exact h | exact memT (by decide +kernel) hW | with_reducible apply Keeps.ite
    | with_reducible refine Device.monSettled_keeps (subT (by decide +kernel) hW) ?_
    | with_reducible refine Device.wr_keeps ?_ ?_
    | with_reducible refine Device.setSrcState_keeps (subT (by decide +kernel) hW) ?_
    | with_reducible refine Device.tamperEntry_keeps (subT (by decide +kernel) hW) ?_ | split

def Touch.thermNAssert : List Nat :=
  [F.out, F.pins]

theorem Device.thermNAssert_keeps {W : List Nat} {a : Device} {temp : Int} {d : Device} (hW : Sub Touch.thermNAssert W) (h : Keeps W a d) :
    Keeps W a (Device.thermNAssert temp d) := by
  unfold Device.thermNAssert
  try dsimp only
  repeat' first
    | with_reducible exact h | with_reducible apply Keeps.ite
    | with_reducible refine Device.setPins_keeps (subT (by decide +kernel) hW) ?_
    | with_reducible refine Device.emit_keeps (subT (by decide +kernel) hW) ?_ | split

end Sys2Proof.Machine
end

