-- ==== Sys2Proof/Laws/KeepsLaps.lean ====
section
/-!
SUPPORT. The places that each operation of Machine/Laps.lean may change (Laws/Keeps.lean).
-/
set_option Elab.async false
set_option linter.all false
set_option linter.unusedTactic false
set_option linter.unreachableTactic false
set_option linter.style.longLine false
namespace Sys2Proof.Machine

def Touch.lapArm : List Nat :=
  [O.LOCK, O.GROUP_OWNER, O.GROUP_STATE, O.GROUP_WRITES, O.GROUP_FAIL_ADDRESS, O.GROUP_FLAGS, O.SESSION_STATE,
  O.SESSION_ROLE, O.SESSION_CA, O.SESSION_ID, O.SESSION_LAST_COUNTER, O.RING_ENABLE, O.RING_HEAD, O.RING_TAIL,
  O.RING_STATE, O.RING_COMPLETED, O.RING_REJECTED, O.GUN_STATE, O.GUN_OWNER, O.GUN_TARGET_ROW, O.GUN_TIME,
  O.GUN_SEQ, O.GUN_TAG, O.GUN_TARGET_CYCLE, O.GUN_FIRED_AT, O.GUN_FLAGS, O.FLT_SRC_EVENTS, O.FLT_SRC_LAST_AT,
  O.FLT_LOG_LAST_SEQ, O.FLT_LOG_OVERWRITTEN, O.FLT_EVENT_LOST, O.FLT_FIRST_SEVERE, O.FLT_LOG_RECORD, O.PMC_VALUE,
  O.PMC_STATUS, F.out, F.sess, F.groups, F.ring, F.pcieDma, F.pciePending, F.gunSeq, F.guns, F.faults, F.clsx,
  F.laps, F.pmc]

theorem Device.lapArm_keeps {W : List Nat} {a : Device} {t : Nat} {d : Device} (hW : Sub Touch.lapArm W) (h : Keeps W a d) :
    Keeps W a (Device.lapArm t d) := by
  unfold Device.lapArm
  try dsimp only
  repeat' first
    | with_reducible exact h | with_reducible assumption | with_reducible apply Keeps.elim
    | with_reducible refine Device.setLaps_keeps (subT (by decide +kernel) hW) ?_
    | with_reducible refine Device.gunTake_keeps (subT (by decide +kernel) hW) ?_ | intro _ _ hq | intro _

def Touch.lapDrop : List Nat :=
  Touch.ringEvent

theorem Device.lapDrop_keeps {W : List Nat} {a : Device} {d : Device} {e : Nat} (hW : Sub Touch.lapDrop W) (h : Keeps W a d) :
    Keeps W a (Device.lapDrop d e) := by
  unfold Device.lapDrop
  try dsimp only
  repeat' first
    | with_reducible exact h | with_reducible apply Keeps.ite
    | with_reducible refine Device.gunCancel_keeps (subT (by decide +kernel) hW) ?_ | split

def Touch.lapReconcile : List Nat :=
  Touch.lapArm

theorem Device.lapReconcile_keeps {W : List Nat} {a : Device} {d : Device} {start : Nat} (hW : Sub Touch.lapReconcile W) (h : Keeps W a d) :
    Keeps W a (Device.lapReconcile d start) := by
  unfold Device.lapReconcile
  try dsimp only
  repeat' first
    | with_reducible exact h | with_reducible assumption | with_reducible apply Keeps.ite
    | with_reducible apply Keeps.foldl | with_reducible refine Device.lapDrop_keeps (subT (by decide +kernel) hW) ?_
    | with_reducible refine Device.lapArm_keeps (subT (by decide +kernel) hW) ?_ | intro _ _ hq | intro _ | split

def Touch.lapRetime : List Nat :=
  Touch.lapArm

theorem Device.lapRetime_keeps {W : List Nat} {a : Device} {d : Device} (hW : Sub Touch.lapRetime W) (h : Keeps W a d) :
    Keeps W a (Device.lapRetime d) := by
  unfold Device.lapRetime
  try dsimp only
  repeat' first
    | with_reducible exact h | with_reducible refine Device.lapReconcile_keeps (subT (by decide +kernel) hW) ?_

def Touch.lapDir : List Nat :=
  [O.LAP_DIR_SEQ, O.LAP_DIR_STATE, O.LAP_DIR_START, O.LAP_DIR_END, O.LAP_DIR_MINUTE, O.LAP_DIR_FLAGS]

theorem Device.lapDir_keeps {W : List Nat} {a : Device} {d : Device} {c : ClosedLap} (hW : Sub Touch.lapDir W) (h : Keeps W a d) :
    Keeps W a (Device.lapDir d c) := by
  unfold Device.lapDir
  try dsimp only
  repeat' first
    | with_reducible exact h | exact memT (by decide +kernel) hW | with_reducible refine Device.wr_keeps ?_ ?_

def Touch.lapForget : List Nat :=
  Touch.lapDir

theorem Device.lapForget_keeps {W : List Nat} {a d : Device} {r : Nat} (hW : Sub Touch.lapForget W) (h : Keeps W a d) :
    Keeps W a (d.lapForget r) := by
  unfold Device.lapForget
  refine Keeps.foldl_mem h (fun x o ho hq => ?_)
  have hm : Here o W := Or.inl (subT (by decide +kernel) hW o ho)
  exact Device.wr_keeps hm hq

def Touch.lapAge : List Nat :=
  Touch.lapDir

theorem Device.lapAge_keeps {W : List Nat} {a : Device} {d : Device} {n : Nat} (hW : Sub Touch.lapAge W) (h : Keeps W a d) :
    Keeps W a (Device.lapAge d n) := by
  unfold Device.lapAge
  try dsimp only
  repeat' first
    | with_reducible exact h | exact memT (by decide +kernel) hW | with_reducible apply Keeps.ite
    | with_reducible refine Device.wr_keeps ?_ ?_
    | with_reducible refine Device.lapForget_keeps (subT (by decide +kernel) hW) ?_ | split

def Touch.lapPut : List Nat :=
  [F.laps]

theorem Device.lapPut_keeps {W : List Nat} {a : Device} {d : Device} {k : Nat} {c : LapCnt} (hW : Sub Touch.lapPut W) (h : Keeps W a d) :
    Keeps W a (Device.lapPut d k c) := by
  unfold Device.lapPut
  try dsimp only
  repeat' first
    | with_reducible exact h | with_reducible assumption
    | with_reducible refine Device.setLaps_keeps (subT (by decide +kernel) hW) ?_ | intro _ _ hq | intro _

def Touch.lapHead : List Nat :=
  [F.laps]

theorem Device.lapHead_keeps {W : List Nat} {a : Device} {c : ClosedLap} {d : Device} (hW : Sub Touch.lapHead W) (h : Keeps W a d) :
    Keeps W a (Device.lapHead c d) := by
  unfold Device.lapHead
  try dsimp only
  repeat' first
    | with_reducible exact h | with_reducible refine Device.lapPut_keeps (subT (by decide +kernel) hW) ?_

def Touch.lapStore : List Nat :=
  Touch.fullLine

theorem Device.lapStore_keeps {W : List Nat} {a : Device} {c : ClosedLap} {d : Device} {q : Nat} (hW : Sub Touch.lapStore W) (h : Keeps W a d) :
    Keeps W a (Device.lapStore c d q) := by
  unfold Device.lapStore
  try dsimp only
  repeat' first
    | with_reducible exact h | with_reducible assumption | with_reducible apply Keeps.ite
    | with_reducible refine Device.fullLine_keeps (subT (by decide +kernel) hW) ?_
    | with_reducible refine Device.lapPut_keeps (subT (by decide +kernel) hW) ?_ | with_reducible apply Keeps.ite2
    | intro _ _ hq | intro _ | split

def Touch.lapWritebackDone : List Nat :=
  [O.LOCK, O.GROUP_OWNER, O.GROUP_STATE, O.GROUP_WRITES, O.GROUP_FAIL_ADDRESS, O.GROUP_FLAGS, O.SESSION_STATE,
  O.SESSION_ROLE, O.SESSION_CA, O.SESSION_ID, O.SESSION_LAST_COUNTER, O.ROLE_ROOT, O.RING_ENABLE, O.RING_HEAD,
  O.RING_TAIL, O.RING_STATE, O.RING_COMPLETED, O.RING_REJECTED, O.INJECT_REFUSED, O.MODE, O.MODE_CMD,
  O.MODE_ENTERED_AT, O.MODE_CAUSE, O.RUNAHEAD_FALSE_STARTS, O.RUNAHEAD_WASTED_CELLS, O.BANK_DISCARDS,
  O.VAULT_STATE, O.VAULT_HANDLE, O.VAULT_LEVEL, O.VAULT_PURPOSE, O.VAULT_KEY_BITS, O.VAULT_COUNTED,
  O.VAULT_USES_LEFT, O.VAULT_ORIGIN, O.VAULT_PARENT, O.VAULT_CREATED_AT, O.VAULT_ARG_KEY, O.VAULT_CMD,
  O.VAULT_RESULT_HANDLE, O.DRBG_STATE, O.LA_CONTEXTS_BUSY, O.GUN_STATE, O.GUN_OWNER, O.GUN_FLAGS, O.PORT_TX_FRAMES,
  O.PORT_TX_BYTES, O.PORT_TX_TRUNCATED, O.PORT_FC_TX_XOFF_C0, O.PORT_FC_TX_XOFF_C1, O.PORT_FC_TX_XOFF_C2,
  O.PORT_FC_TX_XOFF_C3, O.PORT_FC_TX_XOFF_C4, O.PORT_FC_TX_XOFF_C5, O.PORT_FC_TX_XOFF_C6, O.PORT_FC_TX_XOFF_C7,
  O.SC_STATUS, O.SA_STATE, O.SA_KEK, O.SA_SLOT, O.SA_FLAGS, O.SA_CHANGED_AT, O.SCSA_SLOT0_ROW, O.SCSA_SLOT1_ROW,
  O.SCSA_IN_FORCE_AN, O.SCSA_ZONE_OPEN, O.SA_STAT_PKTS, O.SA_STAT_OCTETS, O.SA_STAT_PKTS_ENCRYPTED,
  O.SA_STAT_NOT_VALID, O.SA_STAT_COMMIT_LATE, O.SA_STAT_TX_LOST, O.CALLROOM_OCCUPANCY, O.CALLROOM_PEAK,
  O.QUEUE_OCCUPANCY, O.QUEUE_NODE, O.BUFP_USED_CELLS, O.BUF_HEADROOM_USED, O.LAP_LAST_SEQ, O.LAP_DIR_SEQ,
  O.LAP_DIR_STATE, O.LAP_DIR_START, O.LAP_DIR_END, O.LAP_DIR_MINUTE, O.LAP_DIR_FLAGS, O.MEM_NODE_FAILS,
  O.MEM_CTR_READONLY, O.MEM_TREE_HITS, O.MEM_TREE_MISSES, O.FLT_SRC_CLASS, O.FLT_SRC_EVENTS, O.FLT_SRC_LAST_AT,
  O.FLT_STATUS, O.FLT_FATAL_SINCE_BOOT, O.FLT_LOG_LAST_SEQ, O.FLT_LOG_OVERWRITTEN, O.FLT_EVENT_LOST,
  O.FLT_FIRST_SEVERE, O.FLT_LOG_RECORD, O.PMC_VALUE, O.PMC_STATUS, O.PEER_KEY, F.mode, F.draws, F.out, F.sess,
  F.groups, F.ring, F.pcieDma, F.pciePending, F.faults, F.vault, F.checkKey, F.storeKey, F.keyTests, F.keyRestart,
  F.keyScrub, F.saRecs, F.saCtxs, F.banks, F.pipe, F.clsx, F.queues, F.nodes, F.pairs, F.ports, F.laps, F.pmc,
  F.memRest, F.lc, F.la, F.keyScrubFrom, F.keyReseed, F.keyRequests]

theorem Device.lapWritebackDone_keeps {W : List Nat} {a : Device} {d : Device} (hW : Sub Touch.lapWritebackDone W) (h : Keeps W a d) :
    Keeps W a (Device.lapWritebackDone d) := by
  unfold Device.lapWritebackDone
  try dsimp only
  repeat' first
    | with_reducible exact h | with_reducible assumption | exact memT (by decide +kernel) hW
    | with_reducible apply Keeps.foldl | with_reducible refine Device.lapStore_keeps (subT (by decide +kernel) hW) ?_
    | with_reducible refine Device.lapHead_keeps (subT (by decide +kernel) hW) ?_
    | with_reducible refine Device.setLaps_keeps (subT (by decide +kernel) hW) ?_
    | with_reducible refine Device.lapDir_keeps (subT (by decide +kernel) hW) ?_
    | with_reducible refine Device.lapAge_keeps (subT (by decide +kernel) hW) ?_
    | with_reducible refine Device.wr_keeps ?_ ?_ | intro _ _ hq | intro _ | split

def Touch.lapClose : List Nat :=
  [O.LOCK, O.GROUP_OWNER, O.GROUP_STATE, O.GROUP_WRITES, O.GROUP_FAIL_ADDRESS, O.GROUP_FLAGS, O.SESSION_STATE,
  O.SESSION_ROLE, O.SESSION_CA, O.SESSION_ID, O.SESSION_LAST_COUNTER, O.ROLE_ROOT, O.RING_ENABLE, O.RING_HEAD,
  O.RING_TAIL, O.RING_STATE, O.RING_COMPLETED, O.RING_REJECTED, O.INJECT_REFUSED, O.MODE, O.MODE_CMD,
  O.MODE_ENTERED_AT, O.MODE_CAUSE, O.RUNAHEAD_FALSE_STARTS, O.RUNAHEAD_WASTED_CELLS, O.BANK_DISCARDS,
  O.VAULT_STATE, O.VAULT_HANDLE, O.VAULT_LEVEL, O.VAULT_PURPOSE, O.VAULT_KEY_BITS, O.VAULT_COUNTED,
  O.VAULT_USES_LEFT, O.VAULT_ORIGIN, O.VAULT_PARENT, O.VAULT_CREATED_AT, O.VAULT_ARG_KEY, O.VAULT_CMD,
  O.VAULT_RESULT_HANDLE, O.DRBG_STATE, O.LA_CONTEXTS_BUSY, O.GUN_STATE, O.GUN_OWNER, O.GUN_FLAGS, O.PORT_TX_FRAMES,
  O.PORT_TX_BYTES, O.PORT_TX_TRUNCATED, O.PORT_FC_TX_XOFF_C0, O.PORT_FC_TX_XOFF_C1, O.PORT_FC_TX_XOFF_C2,
  O.PORT_FC_TX_XOFF_C3, O.PORT_FC_TX_XOFF_C4, O.PORT_FC_TX_XOFF_C5, O.PORT_FC_TX_XOFF_C6, O.PORT_FC_TX_XOFF_C7,
  O.SC_STATUS, O.SA_STATE, O.SA_KEK, O.SA_SLOT, O.SA_FLAGS, O.SA_CHANGED_AT, O.SCSA_SLOT0_ROW, O.SCSA_SLOT1_ROW,
  O.SCSA_IN_FORCE_AN, O.SCSA_ZONE_OPEN, O.SA_STAT_PKTS, O.SA_STAT_OCTETS, O.SA_STAT_PKTS_ENCRYPTED,
  O.SA_STAT_NOT_VALID, O.SA_STAT_COMMIT_LATE, O.SA_STAT_TX_LOST, O.CALLROOM_OCCUPANCY, O.CALLROOM_PEAK,
  O.QUEUE_OCCUPANCY, O.QUEUE_NODE, O.BUFP_USED_CELLS, O.BUF_HEADROOM_USED, O.LAP_LAST_SEQ, O.LAP_CLOSES,
  O.LAP_DIR_SEQ, O.LAP_DIR_STATE, O.LAP_DIR_START, O.LAP_DIR_END, O.LAP_DIR_MINUTE, O.LAP_DIR_FLAGS,
  O.MEM_NODE_FAILS, O.MEM_CTR_READONLY, O.MEM_TREE_HITS, O.MEM_TREE_MISSES, O.FLT_SRC_CLASS, O.FLT_SRC_EVENTS,
  O.FLT_SRC_LAST_AT, O.FLT_STATUS, O.FLT_FATAL_SINCE_BOOT, O.FLT_LOG_LAST_SEQ, O.FLT_LOG_OVERWRITTEN,
  O.FLT_EVENT_LOST, O.FLT_FIRST_SEVERE, O.FLT_LOG_RECORD, O.PMC_VALUE, O.PMC_STATUS, O.PEER_KEY, F.mode, F.draws,
  F.out, F.sess, F.groups, F.ring, F.pcieDma, F.pciePending, F.faults, F.vault, F.checkKey, F.storeKey, F.keyTests,
  F.keyRestart, F.keyScrub, F.saRecs, F.saCtxs, F.banks, F.pipe, F.clsx, F.queues, F.nodes, F.pairs, F.ports,
  F.laps, F.pmc, F.memRest, F.lc, F.la, F.keyScrubFrom, F.keyReseed, F.keyRequests]

theorem Device.lapClose_keeps {W : List Nat} {a : Device} {d : Device} {tag : Nat} {leap : Nat} (hW : Sub Touch.lapClose W) (h : Keeps W a d) :
    Keeps W a (Device.lapClose d tag leap) := by
  unfold Device.lapClose
  try dsimp only
  repeat' first
    | with_reducible exact h | exact memT (by decide +kernel) hW
    | with_reducible refine Device.lapWritebackDone_keeps (subT (by decide +kernel) hW) ?_
    | with_reducible refine Device.setLaps_keeps (subT (by decide +kernel) hW) ?_
    | with_reducible refine Device.inc32_keeps ?_ ?_

def Touch.lapFired : List Nat :=
  [O.LOCK, O.GROUP_OWNER, O.GROUP_STATE, O.GROUP_WRITES, O.GROUP_FAIL_ADDRESS, O.GROUP_FLAGS, O.SESSION_STATE,
  O.SESSION_ROLE, O.SESSION_CA, O.SESSION_ID, O.SESSION_LAST_COUNTER, O.ROLE_ROOT, O.RING_ENABLE, O.RING_HEAD,
  O.RING_TAIL, O.RING_STATE, O.RING_COMPLETED, O.RING_REJECTED, O.INJECT_REFUSED, O.MODE, O.MODE_CMD,
  O.MODE_ENTERED_AT, O.MODE_CAUSE, O.RUNAHEAD_FALSE_STARTS, O.RUNAHEAD_WASTED_CELLS, O.BANK_DISCARDS,
  O.VAULT_STATE, O.VAULT_HANDLE, O.VAULT_LEVEL, O.VAULT_PURPOSE, O.VAULT_KEY_BITS, O.VAULT_COUNTED,
  O.VAULT_USES_LEFT, O.VAULT_ORIGIN, O.VAULT_PARENT, O.VAULT_CREATED_AT, O.VAULT_ARG_KEY, O.VAULT_CMD,
  O.VAULT_RESULT_HANDLE, O.DRBG_STATE, O.LA_CONTEXTS_BUSY, O.GUN_STATE, O.GUN_OWNER, O.GUN_FLAGS, O.PORT_TX_FRAMES,
  O.PORT_TX_BYTES, O.PORT_TX_TRUNCATED, O.PORT_FC_TX_XOFF_C0, O.PORT_FC_TX_XOFF_C1, O.PORT_FC_TX_XOFF_C2,
  O.PORT_FC_TX_XOFF_C3, O.PORT_FC_TX_XOFF_C4, O.PORT_FC_TX_XOFF_C5, O.PORT_FC_TX_XOFF_C6, O.PORT_FC_TX_XOFF_C7,
  O.SC_STATUS, O.SA_STATE, O.SA_KEK, O.SA_SLOT, O.SA_FLAGS, O.SA_CHANGED_AT, O.SCSA_SLOT0_ROW, O.SCSA_SLOT1_ROW,
  O.SCSA_IN_FORCE_AN, O.SCSA_ZONE_OPEN, O.SA_STAT_PKTS, O.SA_STAT_OCTETS, O.SA_STAT_PKTS_ENCRYPTED,
  O.SA_STAT_NOT_VALID, O.SA_STAT_COMMIT_LATE, O.SA_STAT_TX_LOST, O.CALLROOM_OCCUPANCY, O.CALLROOM_PEAK,
  O.QUEUE_OCCUPANCY, O.QUEUE_NODE, O.BUFP_USED_CELLS, O.BUF_HEADROOM_USED, O.LAP_LAST_SEQ, O.LAP_CLOSES,
  O.LAP_ABSORBED, O.LAP_DIR_SEQ, O.LAP_DIR_STATE, O.LAP_DIR_START, O.LAP_DIR_END, O.LAP_DIR_MINUTE,
  O.LAP_DIR_FLAGS, O.MEM_NODE_FAILS, O.MEM_CTR_READONLY, O.MEM_TREE_HITS, O.MEM_TREE_MISSES, O.FLT_SRC_CLASS,
  O.FLT_SRC_EVENTS, O.FLT_SRC_LAST_AT, O.FLT_STATUS, O.FLT_FATAL_SINCE_BOOT, O.FLT_LOG_LAST_SEQ,
  O.FLT_LOG_OVERWRITTEN, O.FLT_EVENT_LOST, O.FLT_FIRST_SEVERE, O.FLT_LOG_RECORD, O.PMC_VALUE, O.PMC_STATUS,
  O.PEER_KEY, F.mode, F.draws, F.out, F.sess, F.groups, F.ring, F.pcieDma, F.pciePending, F.faults, F.vault,
  F.checkKey, F.storeKey, F.keyTests, F.keyRestart, F.keyScrub, F.saRecs, F.saCtxs, F.banks, F.pipe, F.clsx,
  F.queues, F.nodes, F.pairs, F.ports, F.laps, F.pmc, F.memRest, F.lc, F.la, F.keyScrubFrom, F.keyReseed,
  F.keyRequests]

theorem Device.lapFired_keeps {W : List Nat} {a : Device} {d : Device} {e : Nat} (hW : Sub Touch.lapFired W) (h : Keeps W a d) :
    Keeps W a (Device.lapFired d e) := by
  unfold Device.lapFired
  try dsimp only
  repeat' first
    | with_reducible exact h | exact memT (by decide +kernel) hW | with_reducible apply Keeps.ite
    | with_reducible refine Device.lapFlag_keeps (subT (by decide +kernel) hW) ?_
    | with_reducible refine Device.inc32_keeps ?_ ?_
    | with_reducible refine Device.lapClose_keeps (subT (by decide +kernel) hW) ?_ | split

def Touch.lapStepped : List Nat :=
  Touch.lapArm

theorem Device.lapStepped_keeps {W : List Nat} {a : Device} {d : Device} (hW : Sub Touch.lapStepped W) (h : Keeps W a d) :
    Keeps W a (Device.lapStepped d) := by
  unfold Device.lapStepped
  try dsimp only
  repeat' first
    | with_reducible exact h | with_reducible apply Keeps.ite
    | with_reducible refine Device.lapFlag_keeps (subT (by decide +kernel) hW) ?_
    | with_reducible refine Device.lapReconcile_keeps (subT (by decide +kernel) hW) ?_ | split

end Sys2Proof.Machine
end

