-- ==== Sys2Proof/Laws/KeepsModes.lean ====
section
/-!
SUPPORT. The places that each operation of Machine/Modes.lean may change (Laws/Keeps.lean).
-/
set_option Elab.async false
set_option linter.all false
set_option linter.unusedTactic false
set_option linter.unreachableTactic false
set_option linter.style.longLine false
namespace Sys2Proof.Machine

def Touch.cleared : List Nat :=
  [F.mode, F.clockOn, F.boot, F.resetLatch, F.cyc, F.clk, F.edge, F.sess, F.proofFails, F.lockoutUntil,
  F.lockRenewed, F.groups, F.ring, F.pcieWindows, F.pcieDma, F.pcieMasked, F.pciePending, F.pcieServed, F.jtag,
  F.pins, F.acqAt, F.drainAt, F.gunSeq, F.guns, F.faults, F.vault, F.checkKey, F.storeKey, F.keyTests,
  F.keyRestart, F.keyScrub, F.saRecs, F.saCtxs, F.saHolds, F.saLastPn, F.banks, F.pipe, F.clsx, F.queues, F.nodes,
  F.pairs, F.ports, F.laps, F.pmc, F.memCells, F.memRest, F.lc, F.fw, F.att, F.sram, F.time, F.mon, F.la,
  F.pcieVectors, F.pcieMsixOn, F.pcieFuncMask, F.keyScrubFrom, F.keyReseed, F.keyRequests, F.objects]

theorem Device.cleared_keeps {W : List Nat} {a d : Device} {latch : Nat} (hW : Sub Touch.cleared W) (h : Keeps W a d) :
    Keeps W a (d.cleared latch) :=
  h.trans ⟨rfl, fun x => absurd (memF (by decide +kernel) hW) x, fun k hk => by
    unfold sameField
    split <;> first | rfl | exact absurd (memF (by decide +kernel) hW) hk | trivial⟩

def Touch.undrive : List Nat :=
  [F.out]

theorem Device.undrive_keeps {W : List Nat} {a : Device} {d : Device} (hW : Sub Touch.undrive W) (h : Keeps W a d) :
    Keeps W a (Device.undrive d) := by
  unfold Device.undrive
  try dsimp only
  repeat' first
    | with_reducible exact h | with_reducible apply Keeps.ite
    | with_reducible refine Device.emit_keeps (subT (by decide +kernel) hW) ?_ | split

def Touch.enterReset : List Nat :=
  [O.RING_HEAD, O.RING_TAIL, O.RING_STATE, O.RING_COMPLETED, O.RING_REJECTED, O.INJECT_REFUSED,
  O.RUNAHEAD_FALSE_STARTS, O.RUNAHEAD_WASTED_CELLS, O.PORT_TX_FRAMES, O.PORT_TX_BYTES, O.PORT_TX_TRUNCATED,
  O.PORT_FC_TX_XOFF_C0, O.PORT_FC_TX_XOFF_C1, O.PORT_FC_TX_XOFF_C2, O.PORT_FC_TX_XOFF_C3, O.PORT_FC_TX_XOFF_C4,
  O.PORT_FC_TX_XOFF_C5, O.PORT_FC_TX_XOFF_C6, O.PORT_FC_TX_XOFF_C7, O.SA_STAT_TX_LOST, O.CALLROOM_OCCUPANCY,
  O.CALLROOM_PEAK, O.QUEUE_OCCUPANCY, O.QUEUE_NODE, O.BUFP_USED_CELLS, O.BUF_HEADROOM_USED, O.PMC_VALUE,
  O.PMC_STATUS, F.mode, F.clockOn, F.boot, F.resetLatch, F.cyc, F.clk, F.edge, F.out, F.sess, F.proofFails,
  F.lockoutUntil, F.lockRenewed, F.groups, F.ring, F.pcieWindows, F.pcieDma, F.pcieMasked, F.pciePending,
  F.pcieServed, F.jtag, F.pins, F.acqAt, F.drainAt, F.gunSeq, F.guns, F.faults, F.vault, F.checkKey, F.storeKey,
  F.keyTests, F.keyRestart, F.keyScrub, F.saRecs, F.saCtxs, F.saHolds, F.saLastPn, F.banks, F.pipe, F.clsx,
  F.queues, F.nodes, F.pairs, F.ports, F.laps, F.pmc, F.memCells, F.memRest, F.lc, F.fw, F.att, F.sram, F.time,
  F.mon, F.la, F.pcieVectors, F.pcieMsixOn, F.pcieFuncMask, F.keyScrubFrom, F.keyReseed, F.keyRequests, F.objects]

theorem Device.enterReset_keeps {W : List Nat} {a : Device} {latch : Nat} {d : Device} (hW : Sub Touch.enterReset W) (h : Keeps W a d) :
    Keeps W a (Device.enterReset latch d) := by
  unfold Device.enterReset
  try dsimp only
  repeat' first
    | with_reducible exact h | with_reducible assumption | with_reducible apply Keeps.ite
    | with_reducible refine Device.stopFrames_keeps (subT (by decide +kernel) hW) ?_
    | with_reducible refine Device.undrive_keeps (subT (by decide +kernel) hW) ?_
    | with_reducible refine Device.cleared_keeps (subT (by decide +kernel) hW) ?_ | intro _ _ hq | intro _ | split

def Touch.setLatch : List Nat :=
  [F.resetLatch]

theorem Device.setLatch_keeps {W : List Nat} {a : Device} {d : Device} {n : Nat} (hW : Sub Touch.setLatch W) (h : Keeps W a d) :
    Keeps W a (Device.setLatch d n) := 
  h.same rfl rfl (fun k hk => by
    unfold sameField
    split <;> first | rfl | exact absurd (memF (by decide +kernel) hW) hk | trivial)

def Touch.pwrGoodLow : List Nat :=
  Touch.enterReset

theorem Device.pwrGoodLow_keeps {W : List Nat} {a : Device} {d : Device} (hW : Sub Touch.pwrGoodLow W) (h : Keeps W a d) :
    Keeps W a (Device.pwrGoodLow d) := by
  unfold Device.pwrGoodLow
  try dsimp only
  repeat' first
    | with_reducible exact h | with_reducible refine Device.enterReset_keeps (subT (by decide +kernel) hW) ?_
    | with_reducible refine Device.setLatch_keeps (subT (by decide +kernel) hW) ?_
    | with_reducible refine Device.setPins_keeps (subT (by decide +kernel) hW) ?_

def Touch.resetNLow : List Nat :=
  Touch.enterReset

theorem Device.resetNLow_keeps {W : List Nat} {a : Device} {d : Device} (hW : Sub Touch.resetNLow W) (h : Keeps W a d) :
    Keeps W a (Device.resetNLow d) := by
  unfold Device.resetNLow
  try dsimp only
  repeat' first
    | with_reducible exact h | with_reducible refine Device.enterReset_keeps (subT (by decide +kernel) hW) ?_
    | with_reducible refine Device.setPins_keeps (subT (by decide +kernel) hW) ?_

def Touch.resetRelease : List Nat :=
  [O.BOOT_RESET_CAUSE, O.MODE, F.mode, F.resetLatch, F.draws, F.out, F.jtag, F.pins]

theorem Device.resetRelease_keeps {W : List Nat} {a : Device} {d : Device} (hW : Sub Touch.resetRelease W) (h : Keeps W a d) :
    Keeps W a (Device.resetRelease d) := by
  unfold Device.resetRelease
  try dsimp only
  repeat' first
    | with_reducible exact h | exact memT (by decide +kernel) hW | with_reducible apply Keeps.ite
    | with_reducible refine Device.setPins_keeps (subT (by decide +kernel) hW) ?_
    | with_reducible refine Device.extest_keeps (subT (by decide +kernel) hW) ?_
    | with_reducible refine Device.setLatch_keeps (subT (by decide +kernel) hW) ?_
    | with_reducible refine Device.setModeField_keeps (subT (by decide +kernel) hW) ?_
    | with_reducible refine Device.wr_keeps ?_ ?_ | split

def Touch.setBoot : List Nat :=
  [F.boot]

theorem Device.setBoot_keeps {W : List Nat} {a : Device} {d : Device} {x : BootX} (hW : Sub Touch.setBoot W) (h : Keeps W a d) :
    Keeps W a (Device.setBoot d x) := 
  h.same rfl rfl (fun k hk => by
    unfold sameField
    split <;> first | rfl | exact absurd (memF (by decide +kernel) hW) hk | trivial)

def Touch.setClockOn : List Nat :=
  [F.clockOn]

theorem Device.setClockOn_keeps {W : List Nat} {a : Device} {d : Device} (hW : Sub Touch.setClockOn W) (h : Keeps W a d) :
    Keeps W a (Device.setClockOn d) := 
  h.same rfl rfl (fun k hk => by
    unfold sameField
    split <;> first | rfl | exact absurd (memF (by decide +kernel) hW) hk | trivial)

def Touch.bootPllsLocked : List Nat :=
  [O.BOOT_STATUS, O.BOOT_FLAGS, O.BOOT_LC_RESUME_STEP, O.LOCK, O.GROUP_OWNER, O.GROUP_STATE, O.GROUP_WRITES,
  O.GROUP_FAIL_ADDRESS, O.GROUP_FLAGS, O.SESSION_STATE, O.SESSION_ROLE, O.SESSION_CA, O.SESSION_ID,
  O.SESSION_LAST_COUNTER, O.ROLE_ROOT, O.RING_ENABLE, O.RING_HEAD, O.RING_TAIL, O.RING_STATE, O.RING_COMPLETED,
  O.RING_REJECTED, O.INJECT_REFUSED, O.RUNAHEAD_FALSE_STARTS, O.RUNAHEAD_WASTED_CELLS, O.BANK_DISCARDS, O.LC_STATE,
  O.LC_PENDING, O.VAULT_STATE, O.VAULT_HANDLE, O.VAULT_LEVEL, O.VAULT_PURPOSE, O.VAULT_KEY_BITS, O.VAULT_COUNTED,
  O.VAULT_USES_LEFT, O.VAULT_ORIGIN, O.VAULT_PARENT, O.VAULT_CREATED_AT, O.VAULT_ARG_KEY, O.VAULT_RESULT_HANDLE,
  O.DRBG_STATE, O.GUN_STATE, O.GUN_OWNER, O.GUN_FLAGS, O.PORT_FC_TX_XOFF_C0, O.PORT_FC_TX_XOFF_C1,
  O.PORT_FC_TX_XOFF_C2, O.PORT_FC_TX_XOFF_C3, O.PORT_FC_TX_XOFF_C4, O.PORT_FC_TX_XOFF_C5, O.PORT_FC_TX_XOFF_C6,
  O.PORT_FC_TX_XOFF_C7, O.SC_STATUS, O.SA_STATE, O.SA_KEK, O.SA_SLOT, O.SA_FLAGS, O.SA_CHANGED_AT,
  O.SCSA_SLOT0_ROW, O.SCSA_SLOT1_ROW, O.SCSA_IN_FORCE_AN, O.SCSA_ZONE_OPEN, O.SA_STAT_PKTS, O.SA_STAT_OCTETS,
  O.SA_STAT_PKTS_ENCRYPTED, O.SA_STAT_NOT_VALID, O.SA_STAT_COMMIT_LATE, O.SA_STAT_TX_LOST, O.CALLROOM_OCCUPANCY,
  O.CALLROOM_PEAK, O.QUEUE_OCCUPANCY, O.QUEUE_NODE, O.BUFP_USED_CELLS, O.BUF_HEADROOM_USED, O.FLT_SRC_EVENTS,
  O.FLT_SRC_LAST_AT, O.FLT_LOG_LAST_SEQ, O.FLT_LOG_OVERWRITTEN, O.FLT_EVENT_LOST, O.FLT_FIRST_SEVERE,
  O.FLT_LOG_RECORD, O.TAMPER_LOG_ENTRY, O.TAMPER_LOG_LAST_SEQ, O.TAMPER_LOG_OVERWRITTEN, O.TAMPER_FIRST,
  O.PMC_VALUE, O.PMC_STATUS, O.PEER_KEY, F.clockOn, F.boot, F.draws, F.out, F.sess, F.groups, F.ring, F.pcieDma,
  F.pciePending, F.faults, F.vault, F.checkKey, F.storeKey, F.keyTests, F.keyRestart, F.keyScrub, F.saRecs,
  F.saCtxs, F.banks, F.pipe, F.clsx, F.queues, F.nodes, F.pairs, F.ports, F.laps, F.pmc, F.memRest, F.otp, F.fw,
  F.mon, F.keyScrubFrom, F.keyReseed, F.keyRequests]

theorem Device.bootPllsLocked_keeps {W : List Nat} {a : Device} {d : Device} (hW : Sub Touch.bootPllsLocked W) (h : Keeps W a d) :
    Keeps W a (Device.bootPllsLocked d) := by
  unfold Device.bootPllsLocked
  try dsimp only
  repeat' first
    | with_reducible exact h | with_reducible apply Keeps.ite
    | with_reducible refine Device.setBoot_keeps (subT (by decide +kernel) hW) ?_
    | with_reducible refine Device.setClockOn_keeps (subT (by decide +kernel) hW) ?_
    | with_reducible refine Device.tamperBoot_keeps (subT (by decide +kernel) hW) ?_
    | with_reducible refine Device.bootLc_keeps (subT (by decide +kernel) hW) ?_ | split

def Touch.drawSeed : List Nat :=
  [O.CLS_SEED, F.draws, F.checkKey, F.storeKey, F.keyTests, F.keyRestart, F.keyScrub, F.keyScrubFrom, F.keyReseed,
  F.keyRequests]

theorem Device.drawSeed_keeps {W : List Nat} {a : Device} {d : Device} (hW : Sub Touch.drawSeed W) (h : Keeps W a d) :
    Keeps W a (Device.drawSeed d) := by
  unfold Device.drawSeed
  try dsimp only
  repeat' first
    | with_reducible exact h | exact memT (by decide +kernel) hW
    | with_reducible refine Device.drawBytes_keeps (subT (by decide +kernel) hW) ?_
    | with_reducible refine Device.wr_keeps ?_ ?_

def Touch.seedLfsr : List Nat :=
  [F.draws, F.checkKey, F.storeKey, F.keyTests, F.keyRestart, F.keyScrub, F.banks, F.keyScrubFrom, F.keyReseed,
  F.keyRequests]

theorem Device.seedLfsr_keeps {W : List Nat} {a : Device} {d : Device} {b : Nat} (hW : Sub Touch.seedLfsr W) (h : Keeps W a d) :
    Keeps W a (Device.seedLfsr d b) := by
  unfold Device.seedLfsr
  try dsimp only
  repeat' first
    | with_reducible exact h | with_reducible refine Device.drawBytes_keeps (subT (by decide +kernel) hW) ?_
    | with_reducible refine Device.setBank_keeps (subT (by decide +kernel) hW) ?_

def Touch.seedBanks : List Nat :=
  Touch.seedLfsr

theorem Device.seedBanks_keeps {W : List Nat} {a : Device} {d : Device} (hW : Sub Touch.seedBanks W) (h : Keeps W a d) :
    Keeps W a (Device.seedBanks d) := by
  unfold Device.seedBanks
  try dsimp only
  repeat' first
    | with_reducible exact h | with_reducible assumption | with_reducible apply Keeps.foldl
    | with_reducible refine Device.seedLfsr_keeps (subT (by decide +kernel) hW) ?_ | intro _ _ hq | intro _

def Touch.entropyStartupTests : List Nat :=
  [O.LOCK, O.GROUP_OWNER, O.GROUP_STATE, O.GROUP_WRITES, O.GROUP_FAIL_ADDRESS, O.GROUP_FLAGS, O.SESSION_STATE,
  O.SESSION_ROLE, O.SESSION_CA, O.SESSION_ID, O.SESSION_LAST_COUNTER, O.ROLE_ROOT, O.RING_ENABLE, O.RING_HEAD,
  O.RING_TAIL, O.RING_STATE, O.RING_COMPLETED, O.RING_REJECTED, O.INJECT_REFUSED, O.MODE, O.MODE_CMD,
  O.MODE_ENTERED_AT, O.MODE_CAUSE, O.RUNAHEAD_FALSE_STARTS, O.RUNAHEAD_WASTED_CELLS, O.BANK_DISCARDS,
  O.VAULT_STATE, O.VAULT_HANDLE, O.VAULT_LEVEL, O.VAULT_PURPOSE, O.VAULT_KEY_BITS, O.VAULT_COUNTED,
  O.VAULT_USES_LEFT, O.VAULT_ORIGIN, O.VAULT_PARENT, O.VAULT_CREATED_AT, O.VAULT_ARG_KEY, O.VAULT_CMD,
  O.VAULT_RESULT_HANDLE, O.DRBG_STATE, O.ENTROPY_TEST_FAILS, O.LA_CONTEXTS_BUSY, O.LA_RANDOM_IV_JOBS, O.GUN_STATE,
  O.GUN_OWNER, O.GUN_FLAGS, O.PORT_TX_FRAMES, O.PORT_TX_BYTES, O.PORT_TX_TRUNCATED, O.PORT_FC_TX_XOFF_C0,
  O.PORT_FC_TX_XOFF_C1, O.PORT_FC_TX_XOFF_C2, O.PORT_FC_TX_XOFF_C3, O.PORT_FC_TX_XOFF_C4, O.PORT_FC_TX_XOFF_C5,
  O.PORT_FC_TX_XOFF_C6, O.PORT_FC_TX_XOFF_C7, O.SC_STATUS, O.SA_STATE, O.SA_KEK, O.SA_SLOT, O.SA_FLAGS,
  O.SA_CHANGED_AT, O.SCSA_SLOT0_ROW, O.SCSA_SLOT1_ROW, O.SCSA_IN_FORCE_AN, O.SCSA_ZONE_OPEN, O.SA_STAT_PKTS,
  O.SA_STAT_OCTETS, O.SA_STAT_PKTS_ENCRYPTED, O.SA_STAT_NOT_VALID, O.SA_STAT_COMMIT_LATE, O.SA_STAT_TX_LOST,
  O.CALLROOM_OCCUPANCY, O.CALLROOM_PEAK, O.CLS_SEED, O.QUEUE_OCCUPANCY, O.QUEUE_NODE, O.BUFP_USED_CELLS,
  O.BUF_HEADROOM_USED, O.FLT_SRC_CLASS, O.FLT_SRC_EVENTS, O.FLT_SRC_LAST_AT, O.FLT_STATUS, O.FLT_FATAL_SINCE_BOOT,
  O.FLT_LOG_LAST_SEQ, O.FLT_LOG_OVERWRITTEN, O.FLT_EVENT_LOST, O.FLT_FIRST_SEVERE, O.FLT_LOG_RECORD, O.PMC_VALUE,
  O.PMC_STATUS, O.PEER_KEY, F.mode, F.boot, F.draws, F.out, F.sess, F.groups, F.ring, F.pcieDma, F.pciePending,
  F.faults, F.vault, F.checkKey, F.storeKey, F.keyTests, F.keyRestart, F.keyScrub, F.saRecs, F.saCtxs, F.banks,
  F.pipe, F.clsx, F.queues, F.nodes, F.pairs, F.ports, F.laps, F.pmc, F.lc, F.la, F.keyScrubFrom, F.keyReseed,
  F.keyRequests]

theorem Device.entropyStartupTests_keeps {W : List Nat} {a : Device} {passed : Bool} {d : Device} (hW : Sub Touch.entropyStartupTests W) (h : Keeps W a d) :
    Keeps W a (Device.entropyStartupTests passed d) := by
  unfold Device.entropyStartupTests
  try dsimp only
  repeat' first
    | with_reducible exact h | exact memT (by decide +kernel) hW | with_reducible apply Keeps.ite
    | with_reducible refine Device.setBoot_keeps (subT (by decide +kernel) hW) ?_
    | with_reducible refine Device.wr_keeps ?_ ?_
    | with_reducible refine Device.seeded_keeps (subT (by decide +kernel) hW) ?_
    | with_reducible refine Device.perBootKeys_keeps (subT (by decide +kernel) hW) ?_
    | with_reducible refine Device.fillRoots_keeps (subT (by decide +kernel) hW) ?_
    | with_reducible refine Device.drawSeed_keeps (subT (by decide +kernel) hW) ?_
    | with_reducible refine Device.seedBanks_keeps (subT (by decide +kernel) hW) ?_
    | with_reducible refine Device.inc32_keeps ?_ ?_
    | with_reducible refine Device.fault_keeps (subT (by decide +kernel) hW) ?_ | split

def Touch.sydinImageVerified : List Nat :=
  [O.FW_SLOT_STATE, O.FW_SLOT_DIGEST, O.FW_SLOT_VERSION, O.FW_SLOT_BUILD_ID, O.FW_M_MISMATCH, O.FW_M,
  O.BOOT_STATUS, O.BOOT_FLAGS, O.BOOT_IMAGE, O.BOOT_EPOCH, O.LOCK, O.GROUP_OWNER, O.GROUP_STATE, O.GROUP_WRITES,
  O.GROUP_FAIL_ADDRESS, O.GROUP_FLAGS, O.SESSION_STATE, O.SESSION_ROLE, O.SESSION_CA, O.SESSION_ID,
  O.SESSION_LAST_COUNTER, O.ROLE_ROOT, O.RING_ENABLE, O.RING_HEAD, O.RING_TAIL, O.RING_STATE, O.RING_COMPLETED,
  O.RING_REJECTED, O.INJECT_REFUSED, O.MODE, O.MODE_CMD, O.MODE_ENTERED_AT, O.MODE_CAUSE, O.SLICE_STATE,
  O.SLICE_CAUSE, O.RUNAHEAD_FALSE_STARTS, O.RUNAHEAD_WASTED_CELLS, O.BANK_DISCARDS, O.ATT_STATE, O.ATT_EPOCH,
  O.ATT_LEAVES_LEFT, O.VAULT_STATE, O.VAULT_HANDLE, O.VAULT_LEVEL, O.VAULT_PURPOSE, O.VAULT_KEY_BITS,
  O.VAULT_COUNTED, O.VAULT_USES_LEFT, O.VAULT_ORIGIN, O.VAULT_PARENT, O.VAULT_CREATED_AT, O.VAULT_ARG_KEY,
  O.VAULT_CMD, O.VAULT_RESULT_HANDLE, O.DRBG_STATE, O.LA_CONTEXTS_BUSY, O.LA_RANDOM_IV_JOBS, O.GUN_STATE,
  O.GUN_OWNER, O.GUN_FLAGS, O.PORT_TX_FRAMES, O.PORT_TX_BYTES, O.PORT_TX_TRUNCATED, O.PORT_FC_TX_XOFF_C0,
  O.PORT_FC_TX_XOFF_C1, O.PORT_FC_TX_XOFF_C2, O.PORT_FC_TX_XOFF_C3, O.PORT_FC_TX_XOFF_C4, O.PORT_FC_TX_XOFF_C5,
  O.PORT_FC_TX_XOFF_C6, O.PORT_FC_TX_XOFF_C7, O.SC_STATUS, O.SA_STATE, O.SA_KEK, O.SA_SLOT, O.SA_FLAGS,
  O.SA_CHANGED_AT, O.SCSA_SLOT0_ROW, O.SCSA_SLOT1_ROW, O.SCSA_IN_FORCE_AN, O.SCSA_ZONE_OPEN, O.SA_STAT_PKTS,
  O.SA_STAT_OCTETS, O.SA_STAT_PKTS_ENCRYPTED, O.SA_STAT_NOT_VALID, O.SA_STAT_COMMIT_LATE, O.SA_STAT_TX_LOST,
  O.PARSER_ACTIVE_IMAGE, O.PARSER_ACTIVE_DIGEST, O.CALLROOM_OCCUPANCY, O.CALLROOM_PEAK, O.QUEUE_OCCUPANCY,
  O.QUEUE_NODE, O.BUFP_USED_CELLS, O.BUF_HEADROOM_USED, O.FLT_SRC_CLASS, O.FLT_SRC_EVENTS, O.FLT_SRC_LAST_AT,
  O.FLT_STATUS, O.FLT_FATAL_SINCE_BOOT, O.FLT_LOG_LAST_SEQ, O.FLT_LOG_OVERWRITTEN, O.FLT_EVENT_LOST,
  O.FLT_FIRST_SEVERE, O.FLT_LOG_RECORD, O.PMC_VALUE, O.PMC_STATUS, O.PEER_KEY, F.mode, F.boot, F.draws, F.out,
  F.sess, F.groups, F.ring, F.pcieDma, F.pciePending, F.faults, F.vault, F.checkKey, F.storeKey, F.keyTests,
  F.keyRestart, F.keyScrub, F.saRecs, F.saCtxs, F.banks, F.pipe, F.clsx, F.queues, F.nodes, F.pairs, F.ports,
  F.laps, F.pmc, F.otp, F.lc, F.fw, F.la, F.keyScrubFrom, F.keyReseed, F.keyRequests]

theorem Device.sydinImageVerified_keeps {W : List Nat} {a : Device} {d : Device} (hW : Sub Touch.sydinImageVerified W) (h : Keeps W a d) :
    Keeps W a (Device.sydinImageVerified d) := by
  unfold Device.sydinImageVerified
  try dsimp only
  repeat' first
    | with_reducible exact h | with_reducible assumption | exact memT (by decide +kernel) hW
    | with_reducible apply Keeps.ite | with_reducible apply Keeps.foldl
    | with_reducible refine Device.setBoot_keeps (subT (by decide +kernel) hW) ?_
    | with_reducible refine Device.slotsFromFlash_keeps (subT (by decide +kernel) hW) ?_
    | with_reducible refine Device.loadSydin_keeps (subT (by decide +kernel) hW) ?_
    | with_reducible refine Device.loadParser_keeps (subT (by decide +kernel) hW) ?_
    | with_reducible refine Device.measure_keeps (subT (by decide +kernel) hW) ?_
    | with_reducible refine Device.fillSealing_keeps (subT (by decide +kernel) hW) ?_
    | with_reducible refine Device.epochStep_keeps (subT (by decide +kernel) hW) ?_
    | with_reducible refine Device.wr_keeps ?_ ?_ | intro _ _ hq | intro _ | split

def Touch.trainingFailed : List Nat :=
  [O.BOOT_FLAGS, O.LOCK, O.GROUP_OWNER, O.GROUP_STATE, O.GROUP_WRITES, O.GROUP_FAIL_ADDRESS, O.GROUP_FLAGS,
  O.SESSION_STATE, O.SESSION_ROLE, O.SESSION_CA, O.SESSION_ID, O.SESSION_LAST_COUNTER, O.ROLE_ROOT, O.RING_ENABLE,
  O.RING_HEAD, O.RING_TAIL, O.RING_STATE, O.RING_COMPLETED, O.RING_REJECTED, O.INJECT_REFUSED, O.MODE, O.MODE_CMD,
  O.MODE_ENTERED_AT, O.MODE_CAUSE, O.RUNAHEAD_FALSE_STARTS, O.RUNAHEAD_WASTED_CELLS, O.BANK_DISCARDS,
  O.VAULT_STATE, O.VAULT_HANDLE, O.VAULT_LEVEL, O.VAULT_PURPOSE, O.VAULT_KEY_BITS, O.VAULT_COUNTED,
  O.VAULT_USES_LEFT, O.VAULT_ORIGIN, O.VAULT_PARENT, O.VAULT_CREATED_AT, O.VAULT_ARG_KEY, O.VAULT_CMD,
  O.VAULT_RESULT_HANDLE, O.DRBG_STATE, O.LA_CONTEXTS_BUSY, O.GUN_STATE, O.GUN_OWNER, O.GUN_FLAGS, O.PORT_TX_FRAMES,
  O.PORT_TX_BYTES, O.PORT_TX_TRUNCATED, O.PORT_FC_TX_XOFF_C0, O.PORT_FC_TX_XOFF_C1, O.PORT_FC_TX_XOFF_C2,
  O.PORT_FC_TX_XOFF_C3, O.PORT_FC_TX_XOFF_C4, O.PORT_FC_TX_XOFF_C5, O.PORT_FC_TX_XOFF_C6, O.PORT_FC_TX_XOFF_C7,
  O.SC_STATUS, O.SA_STATE, O.SA_KEK, O.SA_SLOT, O.SA_FLAGS, O.SA_CHANGED_AT, O.SCSA_SLOT0_ROW, O.SCSA_SLOT1_ROW,
  O.SCSA_IN_FORCE_AN, O.SCSA_ZONE_OPEN, O.SA_STAT_PKTS, O.SA_STAT_OCTETS, O.SA_STAT_PKTS_ENCRYPTED,
  O.SA_STAT_NOT_VALID, O.SA_STAT_COMMIT_LATE, O.SA_STAT_TX_LOST, O.CALLROOM_OCCUPANCY, O.CALLROOM_PEAK,
  O.QUEUE_OCCUPANCY, O.QUEUE_NODE, O.BUFP_USED_CELLS, O.BUF_HEADROOM_USED, O.MEM_CH_STATE, O.MEM_CH_CAUSE,
  O.FLT_SRC_CLASS, O.FLT_SRC_EVENTS, O.FLT_SRC_LAST_AT, O.FLT_STATUS, O.FLT_FATAL_SINCE_BOOT, O.FLT_LOG_LAST_SEQ,
  O.FLT_LOG_OVERWRITTEN, O.FLT_EVENT_LOST, O.FLT_FIRST_SEVERE, O.FLT_LOG_RECORD, O.PMC_VALUE, O.PMC_STATUS,
  O.PEER_KEY, F.mode, F.draws, F.out, F.sess, F.groups, F.ring, F.pcieDma, F.pciePending, F.faults, F.vault,
  F.checkKey, F.storeKey, F.keyTests, F.keyRestart, F.keyScrub, F.saRecs, F.saCtxs, F.banks, F.pipe, F.clsx,
  F.queues, F.nodes, F.pairs, F.ports, F.laps, F.pmc, F.lc, F.la, F.keyScrubFrom, F.keyReseed, F.keyRequests]

theorem Device.trainingFailed_keeps {W : List Nat} {a : Device} {d : Device} {c : Nat} (hW : Sub Touch.trainingFailed W) (h : Keeps W a d) :
    Keeps W a (Device.trainingFailed d c) := by
  unfold Device.trainingFailed
  try dsimp only
  repeat' first
    | with_reducible exact h | exact memT (by decide +kernel) hW | with_reducible apply Keeps.ite
    | with_reducible refine Device.fault_keeps (subT (by decide +kernel) hW) ?_
    | with_reducible refine Device.wr_keeps ?_ ?_ | with_reducible refine Device.wrBit_keeps ?_ ?_ | split

def Touch.memTrainingDone : List Nat :=
  [O.BOOT_FLAGS, O.LOCK, O.GROUP_OWNER, O.GROUP_STATE, O.GROUP_WRITES, O.GROUP_FAIL_ADDRESS, O.GROUP_FLAGS,
  O.SESSION_STATE, O.SESSION_ROLE, O.SESSION_CA, O.SESSION_ID, O.SESSION_LAST_COUNTER, O.ROLE_ROOT, O.RING_ENABLE,
  O.RING_HEAD, O.RING_TAIL, O.RING_STATE, O.RING_COMPLETED, O.RING_REJECTED, O.INJECT_REFUSED, O.MODE, O.MODE_CMD,
  O.MODE_ENTERED_AT, O.MODE_CAUSE, O.RUNAHEAD_FALSE_STARTS, O.RUNAHEAD_WASTED_CELLS, O.BANK_DISCARDS,
  O.VAULT_STATE, O.VAULT_HANDLE, O.VAULT_LEVEL, O.VAULT_PURPOSE, O.VAULT_KEY_BITS, O.VAULT_COUNTED,
  O.VAULT_USES_LEFT, O.VAULT_ORIGIN, O.VAULT_PARENT, O.VAULT_CREATED_AT, O.VAULT_ARG_KEY, O.VAULT_CMD,
  O.VAULT_RESULT_HANDLE, O.DRBG_STATE, O.LA_CONTEXTS_BUSY, O.GUN_STATE, O.GUN_OWNER, O.GUN_FLAGS, O.PORT_TX_FRAMES,
  O.PORT_TX_BYTES, O.PORT_TX_TRUNCATED, O.PORT_FC_TX_XOFF_C0, O.PORT_FC_TX_XOFF_C1, O.PORT_FC_TX_XOFF_C2,
  O.PORT_FC_TX_XOFF_C3, O.PORT_FC_TX_XOFF_C4, O.PORT_FC_TX_XOFF_C5, O.PORT_FC_TX_XOFF_C6, O.PORT_FC_TX_XOFF_C7,
  O.SC_STATUS, O.SA_STATE, O.SA_KEK, O.SA_SLOT, O.SA_FLAGS, O.SA_CHANGED_AT, O.SCSA_SLOT0_ROW, O.SCSA_SLOT1_ROW,
  O.SCSA_IN_FORCE_AN, O.SCSA_ZONE_OPEN, O.SA_STAT_PKTS, O.SA_STAT_OCTETS, O.SA_STAT_PKTS_ENCRYPTED,
  O.SA_STAT_NOT_VALID, O.SA_STAT_COMMIT_LATE, O.SA_STAT_TX_LOST, O.CALLROOM_OCCUPANCY, O.CALLROOM_PEAK,
  O.QUEUE_OCCUPANCY, O.QUEUE_NODE, O.BUFP_USED_CELLS, O.BUF_HEADROOM_USED, O.MEM_CH_STATE, O.MEM_CH_CAUSE,
  O.FLT_SRC_CLASS, O.FLT_SRC_EVENTS, O.FLT_SRC_LAST_AT, O.FLT_STATUS, O.FLT_FATAL_SINCE_BOOT, O.FLT_LOG_LAST_SEQ,
  O.FLT_LOG_OVERWRITTEN, O.FLT_EVENT_LOST, O.FLT_FIRST_SEVERE, O.FLT_LOG_RECORD, O.PMC_VALUE, O.PMC_STATUS,
  O.PEER_KEY, F.mode, F.boot, F.draws, F.out, F.sess, F.groups, F.ring, F.pcieDma, F.pciePending, F.faults,
  F.vault, F.checkKey, F.storeKey, F.keyTests, F.keyRestart, F.keyScrub, F.saRecs, F.saCtxs, F.banks, F.pipe,
  F.clsx, F.queues, F.nodes, F.pairs, F.ports, F.laps, F.pmc, F.memCells, F.memRest, F.lc, F.la, F.keyScrubFrom,
  F.keyReseed, F.keyRequests]

theorem Device.memTrainingDone_keeps {W : List Nat} {a : Device} {failed : Nat} {d : Device} (hW : Sub Touch.memTrainingDone W) (h : Keeps W a d) :
    Keeps W a (Device.memTrainingDone failed d) := by
  unfold Device.memTrainingDone
  try dsimp only
  repeat' first
    | with_reducible exact h | with_reducible assumption | with_reducible apply Keeps.ite
    | with_reducible apply Keeps.foldl | with_reducible refine Device.setBoot_keeps (subT (by decide +kernel) hW) ?_
    | with_reducible refine Device.trainingFailed_keeps (subT (by decide +kernel) hW) ?_
    | with_reducible refine Device.memInit_keeps (subT (by decide +kernel) hW) ?_ | intro _ _ hq | intro _ | split

def Touch.laneFailed : List Nat :=
  [O.BOOT_FLAGS, O.LOCK, O.GROUP_OWNER, O.GROUP_STATE, O.GROUP_WRITES, O.GROUP_FAIL_ADDRESS, O.GROUP_FLAGS,
  O.SESSION_STATE, O.SESSION_ROLE, O.SESSION_CA, O.SESSION_ID, O.SESSION_LAST_COUNTER, O.ROLE_ROOT, O.RING_ENABLE,
  O.RING_HEAD, O.RING_TAIL, O.RING_STATE, O.RING_COMPLETED, O.RING_REJECTED, O.INJECT_REFUSED, O.MODE, O.MODE_CMD,
  O.MODE_ENTERED_AT, O.MODE_CAUSE, O.RUNAHEAD_FALSE_STARTS, O.RUNAHEAD_WASTED_CELLS, O.BANK_DISCARDS,
  O.VAULT_STATE, O.VAULT_HANDLE, O.VAULT_LEVEL, O.VAULT_PURPOSE, O.VAULT_KEY_BITS, O.VAULT_COUNTED,
  O.VAULT_USES_LEFT, O.VAULT_ORIGIN, O.VAULT_PARENT, O.VAULT_CREATED_AT, O.VAULT_ARG_KEY, O.VAULT_CMD,
  O.VAULT_RESULT_HANDLE, O.DRBG_STATE, O.LA_CONTEXTS_BUSY, O.GUN_STATE, O.GUN_OWNER, O.GUN_FLAGS, O.LANE_ADAPT,
  O.PORT_TX_FRAMES, O.PORT_TX_BYTES, O.PORT_TX_TRUNCATED, O.PORT_FC_TX_XOFF_C0, O.PORT_FC_TX_XOFF_C1,
  O.PORT_FC_TX_XOFF_C2, O.PORT_FC_TX_XOFF_C3, O.PORT_FC_TX_XOFF_C4, O.PORT_FC_TX_XOFF_C5, O.PORT_FC_TX_XOFF_C6,
  O.PORT_FC_TX_XOFF_C7, O.SC_STATUS, O.SA_STATE, O.SA_KEK, O.SA_SLOT, O.SA_FLAGS, O.SA_CHANGED_AT,
  O.SCSA_SLOT0_ROW, O.SCSA_SLOT1_ROW, O.SCSA_IN_FORCE_AN, O.SCSA_ZONE_OPEN, O.SA_STAT_PKTS, O.SA_STAT_OCTETS,
  O.SA_STAT_PKTS_ENCRYPTED, O.SA_STAT_NOT_VALID, O.SA_STAT_COMMIT_LATE, O.SA_STAT_TX_LOST, O.CALLROOM_OCCUPANCY,
  O.CALLROOM_PEAK, O.QUEUE_OCCUPANCY, O.QUEUE_NODE, O.BUFP_USED_CELLS, O.BUF_HEADROOM_USED, O.FLT_SRC_CLASS,
  O.FLT_SRC_EVENTS, O.FLT_SRC_LAST_AT, O.FLT_STATUS, O.FLT_FATAL_SINCE_BOOT, O.FLT_LOG_LAST_SEQ,
  O.FLT_LOG_OVERWRITTEN, O.FLT_EVENT_LOST, O.FLT_FIRST_SEVERE, O.FLT_LOG_RECORD, O.PMC_VALUE, O.PMC_STATUS,
  O.PEER_KEY, F.mode, F.draws, F.out, F.sess, F.groups, F.ring, F.pcieDma, F.pciePending, F.faults, F.vault,
  F.checkKey, F.storeKey, F.keyTests, F.keyRestart, F.keyScrub, F.saRecs, F.saCtxs, F.banks, F.pipe, F.clsx,
  F.queues, F.nodes, F.pairs, F.ports, F.laps, F.pmc, F.lc, F.la, F.keyScrubFrom, F.keyReseed, F.keyRequests]

theorem Device.laneFailed_keeps {W : List Nat} {a : Device} {d : Device} {l : Nat} (hW : Sub Touch.laneFailed W) (h : Keeps W a d) :
    Keeps W a (Device.laneFailed d l) := by
  unfold Device.laneFailed
  try dsimp only
  repeat' first
    | with_reducible exact h | exact memT (by decide +kernel) hW | with_reducible refine Device.wr_keeps ?_ ?_
    | with_reducible refine Device.wrBit_keeps ?_ ?_
    | with_reducible refine Device.fault_keeps (subT (by decide +kernel) hW) ?_

def Touch.serdesCalibrationDone : List Nat :=
  [O.BOOT_FLAGS, O.BOOT_T_SERDES_US, O.BOOT_LINE_LANES_FAILED, O.BOOT_HOST_LANES_FAILED, O.LOCK, O.GROUP_OWNER,
  O.GROUP_STATE, O.GROUP_WRITES, O.GROUP_FAIL_ADDRESS, O.GROUP_FLAGS, O.SESSION_STATE, O.SESSION_ROLE,
  O.SESSION_CA, O.SESSION_ID, O.SESSION_LAST_COUNTER, O.ROLE_ROOT, O.RING_ENABLE, O.RING_HEAD, O.RING_TAIL,
  O.RING_STATE, O.RING_COMPLETED, O.RING_REJECTED, O.INJECT_REFUSED, O.MODE, O.MODE_CMD, O.MODE_ENTERED_AT,
  O.MODE_CAUSE, O.RUNAHEAD_FALSE_STARTS, O.RUNAHEAD_WASTED_CELLS, O.BANK_DISCARDS, O.VAULT_STATE, O.VAULT_HANDLE,
  O.VAULT_LEVEL, O.VAULT_PURPOSE, O.VAULT_KEY_BITS, O.VAULT_COUNTED, O.VAULT_USES_LEFT, O.VAULT_ORIGIN,
  O.VAULT_PARENT, O.VAULT_CREATED_AT, O.VAULT_ARG_KEY, O.VAULT_CMD, O.VAULT_RESULT_HANDLE, O.DRBG_STATE,
  O.LA_CONTEXTS_BUSY, O.GUN_STATE, O.GUN_OWNER, O.GUN_FLAGS, O.LANE_ADAPT, O.PORT_TX_FRAMES, O.PORT_TX_BYTES,
  O.PORT_TX_TRUNCATED, O.PORT_FC_TX_XOFF_C0, O.PORT_FC_TX_XOFF_C1, O.PORT_FC_TX_XOFF_C2, O.PORT_FC_TX_XOFF_C3,
  O.PORT_FC_TX_XOFF_C4, O.PORT_FC_TX_XOFF_C5, O.PORT_FC_TX_XOFF_C6, O.PORT_FC_TX_XOFF_C7, O.SC_STATUS, O.SA_STATE,
  O.SA_KEK, O.SA_SLOT, O.SA_FLAGS, O.SA_CHANGED_AT, O.SCSA_SLOT0_ROW, O.SCSA_SLOT1_ROW, O.SCSA_IN_FORCE_AN,
  O.SCSA_ZONE_OPEN, O.SA_STAT_PKTS, O.SA_STAT_OCTETS, O.SA_STAT_PKTS_ENCRYPTED, O.SA_STAT_NOT_VALID,
  O.SA_STAT_COMMIT_LATE, O.SA_STAT_TX_LOST, O.CALLROOM_OCCUPANCY, O.CALLROOM_PEAK, O.QUEUE_OCCUPANCY, O.QUEUE_NODE,
  O.BUFP_USED_CELLS, O.BUF_HEADROOM_USED, O.FLT_SRC_CLASS, O.FLT_SRC_EVENTS, O.FLT_SRC_LAST_AT, O.FLT_STATUS,
  O.FLT_FATAL_SINCE_BOOT, O.FLT_LOG_LAST_SEQ, O.FLT_LOG_OVERWRITTEN, O.FLT_EVENT_LOST, O.FLT_FIRST_SEVERE,
  O.FLT_LOG_RECORD, O.PMC_VALUE, O.PMC_STATUS, O.PEER_KEY, F.mode, F.boot, F.cyc, F.clk, F.draws, F.out, F.sess,
  F.groups, F.ring, F.pcieDma, F.pciePending, F.faults, F.vault, F.checkKey, F.storeKey, F.keyTests, F.keyRestart,
  F.keyScrub, F.saRecs, F.saCtxs, F.banks, F.pipe, F.clsx, F.queues, F.nodes, F.pairs, F.ports, F.laps, F.pmc,
  F.lc, F.la, F.keyScrubFrom, F.keyReseed, F.keyRequests]

theorem Device.serdesCalibrationDone_keeps {W : List Nat} {a : Device} {lineFailed : Nat} {hostFailed : Nat} {us : Nat} {d : Device} (hW : Sub Touch.serdesCalibrationDone W) (h : Keeps W a d) :
    Keeps W a (Device.serdesCalibrationDone lineFailed hostFailed us d) := by
  unfold Device.serdesCalibrationDone
  try dsimp only
  repeat' first
    | with_reducible exact h | with_reducible assumption | exact memT (by decide +kernel) hW
    | with_reducible apply Keeps.ite | with_reducible apply Keeps.foldl
    | with_reducible refine Device.setBoot_keeps (subT (by decide +kernel) hW) ?_
    | with_reducible refine Device.wr_keeps ?_ ?_
    | with_reducible refine Device.laneFailed_keeps (subT (by decide +kernel) hW) ?_
    | with_reducible refine Device.passTo_keeps (subT (by decide +kernel) hW) ?_ | intro _ _ hq | intro _ | split

def Touch.ringAwake : List Nat :=
  [F.ring, F.pins]

theorem Device.ringAwake_keeps {W : List Nat} {a : Device} {d : Device} (hW : Sub Touch.ringAwake W) (h : Keeps W a d) :
    Keeps W a (Device.ringAwake d) := by
  unfold Device.ringAwake
  try dsimp only
  repeat' first
    | with_reducible exact h | with_reducible refine Device.setRing_keeps (subT (by decide +kernel) hW) ?_
    | with_reducible refine Device.setPins_keeps (subT (by decide +kernel) hW) ?_

def Touch.bootComplete : List Nat :=
  [O.BOOT_T_STAGE_US, O.MODE, O.MODE_ENTERED_AT, O.MODE_CAUSE, F.mode, F.draws, F.ring, F.pins, F.banks]

theorem Device.bootComplete_keeps {W : List Nat} {a : Device} {d : Device} (hW : Sub Touch.bootComplete W) (h : Keeps W a d) :
    Keeps W a (Device.bootComplete d) := by
  unfold Device.bootComplete
  try dsimp only
  repeat' first
    | with_reducible exact h | with_reducible assumption | exact memT (by decide +kernel) hW
    | with_reducible apply Keeps.ite | with_reducible refine Device.unstated_keeps (subT (by decide +kernel) hW) ?_
    | with_reducible refine Device.wr_keeps ?_ ?_
    | with_reducible refine Device.ringAwake_keeps (subT (by decide +kernel) hW) ?_
    | with_reducible refine Device.runKats_keeps (subT (by decide +kernel) hW) ?_
    | with_reducible refine Device.enterMode_keeps (subT (by decide +kernel) hW) ?_ | with_reducible apply Keeps.ite2
    | intro _ _ hq | intro _ | split

def Touch.drainDiscard : List Nat :=
  [O.RING_HEAD, O.RING_TAIL, O.RING_STATE, O.RING_COMPLETED, O.RING_REJECTED, O.INJECT_REFUSED, O.DRAIN_DISCARDED,
  O.RUNAHEAD_FALSE_STARTS, O.RUNAHEAD_WASTED_CELLS, O.PORT_TX_FRAMES, O.PORT_TX_BYTES, O.PORT_TX_TRUNCATED,
  O.PORT_FC_TX_XOFF_C0, O.PORT_FC_TX_XOFF_C1, O.PORT_FC_TX_XOFF_C2, O.PORT_FC_TX_XOFF_C3, O.PORT_FC_TX_XOFF_C4,
  O.PORT_FC_TX_XOFF_C5, O.PORT_FC_TX_XOFF_C6, O.PORT_FC_TX_XOFF_C7, O.SA_STAT_TX_LOST, O.CALLROOM_OCCUPANCY,
  O.CALLROOM_PEAK, O.QUEUE_OCCUPANCY, O.QUEUE_NODE, O.BUFP_USED_CELLS, O.BUF_HEADROOM_USED, O.PMC_VALUE,
  O.PMC_STATUS, F.out, F.pcieDma, F.pciePending, F.pipe, F.queues, F.nodes, F.pairs, F.ports, F.laps, F.pmc]

theorem Device.drainDiscard_keeps {W : List Nat} {a : Device} {d : Device} (hW : Sub Touch.drainDiscard W) (h : Keeps W a d) :
    Keeps W a (Device.drainDiscard d) := by
  unfold Device.drainDiscard
  try dsimp only
  repeat' first
    | with_reducible exact h | with_reducible assumption | exact memT (by decide +kernel) hW
    | with_reducible refine Device.add64_keeps ?_ ?_
    | with_reducible refine Device.stopFrames_keeps (subT (by decide +kernel) hW) ?_ | intro _ _ hq | intro _

def Touch.dropDrainEntry : List Nat :=
  Touch.ringEvent

theorem Device.dropDrainEntry_keeps {W : List Nat} {a : Device} {d : Device} (hW : Sub Touch.dropDrainEntry W) (h : Keeps W a d) :
    Keeps W a (Device.dropDrainEntry d) := by
  unfold Device.dropDrainEntry
  try dsimp only
  repeat' first
    | with_reducible exact h | with_reducible assumption | with_reducible apply Keeps.elim
    | with_reducible refine Device.gunCancel_keeps (subT (by decide +kernel) hW) ?_ | intro _ _ hq | intro _

def Touch.toStage : List Nat :=
  [O.LOCK, O.GROUP_OWNER, O.GROUP_STATE, O.GROUP_WRITES, O.GROUP_FAIL_ADDRESS, O.GROUP_FLAGS, O.SESSION_STATE,
  O.SESSION_ROLE, O.SESSION_CA, O.SESSION_ID, O.SESSION_LAST_COUNTER, O.RING_ENABLE, O.RING_HEAD, O.RING_TAIL,
  O.RING_STATE, O.RING_COMPLETED, O.RING_REJECTED, O.INJECT_REFUSED, O.MODE, O.MODE_ENTERED_AT, O.MODE_CAUSE,
  O.DRAIN_DISCARDED, O.RUNAHEAD_FALSE_STARTS, O.RUNAHEAD_WASTED_CELLS, O.GUN_STATE, O.GUN_OWNER, O.GUN_FLAGS,
  O.PORT_TX_FRAMES, O.PORT_TX_BYTES, O.PORT_TX_TRUNCATED, O.PORT_FC_TX_XOFF_C0, O.PORT_FC_TX_XOFF_C1,
  O.PORT_FC_TX_XOFF_C2, O.PORT_FC_TX_XOFF_C3, O.PORT_FC_TX_XOFF_C4, O.PORT_FC_TX_XOFF_C5, O.PORT_FC_TX_XOFF_C6,
  O.PORT_FC_TX_XOFF_C7, O.SA_STAT_TX_LOST, O.CALLROOM_OCCUPANCY, O.CALLROOM_PEAK, O.QUEUE_OCCUPANCY, O.QUEUE_NODE,
  O.BUFP_USED_CELLS, O.BUF_HEADROOM_USED, O.FLT_SRC_EVENTS, O.FLT_SRC_LAST_AT, O.FLT_LOG_LAST_SEQ,
  O.FLT_LOG_OVERWRITTEN, O.FLT_EVENT_LOST, O.FLT_FIRST_SEVERE, O.FLT_LOG_RECORD, O.PMC_VALUE, O.PMC_STATUS, F.mode,
  F.out, F.sess, F.groups, F.ring, F.pcieDma, F.pciePending, F.faults, F.pipe, F.clsx, F.queues, F.nodes, F.pairs,
  F.ports, F.laps, F.pmc]

theorem Device.toStage_keeps {W : List Nat} {a : Device} {cause : Nat} {d : Device} (hW : Sub Touch.toStage W) (h : Keeps W a d) :
    Keeps W a (Device.toStage cause d) := by
  unfold Device.toStage
  try dsimp only
  repeat' first
    | with_reducible exact h | with_reducible assumption
    | with_reducible refine Device.withSignals_keeps (subT (by decide +kernel) hW) ?_ ?_
    | with_reducible refine Device.muteWindows_keeps (subT (by decide +kernel) hW) ?_
    | with_reducible refine Device.dropDrainEntry_keeps (subT (by decide +kernel) hW) ?_
    | with_reducible refine Device.drainDiscard_keeps (subT (by decide +kernel) hW) ?_
    | with_reducible refine Device.enterMode_keeps (subT (by decide +kernel) hW) ?_ | intro _ _ hq | intro _

def Touch.goRunCore : List Nat :=
  [O.RING_HEAD, O.RING_TAIL, O.RING_STATE, O.RING_COMPLETED, O.RING_REJECTED, O.INJECT_REFUSED, O.MODE, O.MODE_CMD,
  O.MODE_ENTERED_AT, O.MODE_CAUSE, O.RUNAHEAD_FALSE_STARTS, O.RUNAHEAD_WASTED_CELLS, O.PORT_TX_FRAMES,
  O.PORT_TX_BYTES, O.PORT_TX_TRUNCATED, O.PORT_FC_TX_XOFF_C0, O.PORT_FC_TX_XOFF_C1, O.PORT_FC_TX_XOFF_C2,
  O.PORT_FC_TX_XOFF_C3, O.PORT_FC_TX_XOFF_C4, O.PORT_FC_TX_XOFF_C5, O.PORT_FC_TX_XOFF_C6, O.PORT_FC_TX_XOFF_C7,
  O.SA_STAT_TX_LOST, O.CALLROOM_OCCUPANCY, O.CALLROOM_PEAK, O.QUEUE_OCCUPANCY, O.QUEUE_NODE, O.BUFP_USED_CELLS,
  O.BUF_HEADROOM_USED, O.PMC_VALUE, O.PMC_STATUS, F.mode, F.out, F.pcieDma, F.pciePending, F.pipe, F.queues,
  F.nodes, F.pairs, F.ports, F.laps, F.pmc]

theorem Device.goRunCore_keeps {W : List Nat} {a : Device} {r : Req} {d : Device} (hW : Sub Touch.goRunCore W) (h : Keeps W a d) :
    Keeps W a (Device.goRunCore r d).2 := by
  unfold Device.goRunCore
  try dsimp only
  repeat' first
    | with_reducible exact h | with_reducible assumption | exact memT (by decide +kernel) hW
    | with_reducible refine Device.runCmd_keeps ?_ ?_ ?_
    | with_reducible refine Device.withSignals_keeps (subT (by decide +kernel) hW) ?_ ?_
    | with_reducible refine Device.enterMode_keeps (subT (by decide +kernel) hW) ?_ | intro _ _ hq | intro _

def Touch.goStageCore : List Nat :=
  [O.LOCK, O.GROUP_OWNER, O.GROUP_STATE, O.GROUP_WRITES, O.GROUP_FAIL_ADDRESS, O.GROUP_FLAGS, O.SESSION_STATE,
  O.SESSION_ROLE, O.SESSION_CA, O.SESSION_ID, O.SESSION_LAST_COUNTER, O.RING_ENABLE, O.RING_HEAD, O.RING_TAIL,
  O.RING_STATE, O.RING_COMPLETED, O.RING_REJECTED, O.INJECT_REFUSED, O.MODE, O.MODE_CMD, O.MODE_ENTERED_AT,
  O.MODE_CAUSE, O.DRAIN_DISCARDED, O.RUNAHEAD_FALSE_STARTS, O.RUNAHEAD_WASTED_CELLS, O.GUN_STATE, O.GUN_OWNER,
  O.GUN_FLAGS, O.PORT_TX_FRAMES, O.PORT_TX_BYTES, O.PORT_TX_TRUNCATED, O.PORT_FC_TX_XOFF_C0, O.PORT_FC_TX_XOFF_C1,
  O.PORT_FC_TX_XOFF_C2, O.PORT_FC_TX_XOFF_C3, O.PORT_FC_TX_XOFF_C4, O.PORT_FC_TX_XOFF_C5, O.PORT_FC_TX_XOFF_C6,
  O.PORT_FC_TX_XOFF_C7, O.SA_STAT_TX_LOST, O.CALLROOM_OCCUPANCY, O.CALLROOM_PEAK, O.QUEUE_OCCUPANCY, O.QUEUE_NODE,
  O.BUFP_USED_CELLS, O.BUF_HEADROOM_USED, O.FLT_SRC_EVENTS, O.FLT_SRC_LAST_AT, O.FLT_LOG_LAST_SEQ,
  O.FLT_LOG_OVERWRITTEN, O.FLT_EVENT_LOST, O.FLT_FIRST_SEVERE, O.FLT_LOG_RECORD, O.PMC_VALUE, O.PMC_STATUS, F.mode,
  F.out, F.sess, F.groups, F.ring, F.pcieDma, F.pciePending, F.faults, F.pipe, F.clsx, F.queues, F.nodes, F.pairs,
  F.ports, F.laps, F.pmc]

theorem Device.goStageCore_keeps {W : List Nat} {a : Device} {r : Req} {d : Device} (hW : Sub Touch.goStageCore W) (h : Keeps W a d) :
    Keeps W a (Device.goStageCore r d).2 := by
  unfold Device.goStageCore
  try dsimp only
  repeat' first
    | with_reducible exact h | with_reducible assumption | exact memT (by decide +kernel) hW
    | with_reducible apply Keeps.ite | with_reducible refine Device.runCmd_keeps ?_ ?_ ?_
    | with_reducible refine Device.enterMode_keeps (subT (by decide +kernel) hW) ?_
    | with_reducible refine Device.toStage_keeps (subT (by decide +kernel) hW) ?_ | with_reducible apply Keeps.ite2
    | intro _ _ hq | intro _ | split

def Touch.goDrainCore : List Nat :=
  [O.LOCK, O.GROUP_OWNER, O.GROUP_STATE, O.GROUP_WRITES, O.GROUP_FAIL_ADDRESS, O.GROUP_FLAGS, O.SESSION_STATE,
  O.SESSION_ROLE, O.SESSION_CA, O.SESSION_ID, O.SESSION_LAST_COUNTER, O.RING_ENABLE, O.RING_HEAD, O.RING_TAIL,
  O.RING_STATE, O.RING_COMPLETED, O.RING_REJECTED, O.MODE, O.MODE_CMD, O.MODE_ENTERED_AT, O.MODE_CAUSE,
  O.GUN_STATE, O.GUN_OWNER, O.GUN_TARGET_ROW, O.GUN_TIME, O.GUN_SEQ, O.GUN_TAG, O.GUN_TARGET_CYCLE, O.GUN_FIRED_AT,
  O.GUN_FLAGS, O.FLT_SRC_EVENTS, O.FLT_SRC_LAST_AT, O.FLT_LOG_LAST_SEQ, O.FLT_LOG_OVERWRITTEN, O.FLT_EVENT_LOST,
  O.FLT_FIRST_SEVERE, O.FLT_LOG_RECORD, O.PMC_VALUE, O.PMC_STATUS, F.mode, F.out, F.sess, F.groups, F.ring,
  F.pcieDma, F.pciePending, F.gunSeq, F.guns, F.faults, F.clsx, F.pmc]

theorem Device.goDrainCore_keeps {W : List Nat} {a : Device} {r : Req} {d : Device} (hW : Sub Touch.goDrainCore W) (h : Keeps W a d) :
    Keeps W a (Device.goDrainCore r d).2 := by
  unfold Device.goDrainCore
  try dsimp only
  repeat' first
    | with_reducible exact h | with_reducible assumption | exact memT (by decide +kernel) hW
    | with_reducible apply Keeps.elim | with_reducible refine Device.runCmd_keeps ?_ ?_ ?_
    | with_reducible refine Device.gunTake_keeps (subT (by decide +kernel) hW) ?_
    | with_reducible refine Device.enterMode_keeps (subT (by decide +kernel) hW) ?_
    | with_reducible apply Keeps.elim2 | intro _ _ hq | intro _

def Touch.resumeRunCore : List Nat :=
  [O.LOCK, O.GROUP_OWNER, O.GROUP_STATE, O.GROUP_WRITES, O.GROUP_FAIL_ADDRESS, O.GROUP_FLAGS, O.SESSION_STATE,
  O.SESSION_ROLE, O.SESSION_CA, O.SESSION_ID, O.SESSION_LAST_COUNTER, O.RING_ENABLE, O.RING_HEAD, O.RING_TAIL,
  O.RING_STATE, O.RING_COMPLETED, O.RING_REJECTED, O.MODE, O.MODE_CMD, O.MODE_ENTERED_AT, O.MODE_CAUSE,
  O.GUN_STATE, O.GUN_OWNER, O.GUN_FLAGS, O.FLT_SRC_EVENTS, O.FLT_SRC_LAST_AT, O.FLT_LOG_LAST_SEQ,
  O.FLT_LOG_OVERWRITTEN, O.FLT_EVENT_LOST, O.FLT_FIRST_SEVERE, O.FLT_LOG_RECORD, O.PMC_VALUE, O.PMC_STATUS, F.mode,
  F.out, F.sess, F.groups, F.ring, F.pcieDma, F.pciePending, F.faults, F.clsx, F.pmc]

theorem Device.resumeRunCore_keeps {W : List Nat} {a : Device} {r : Req} {d : Device} (hW : Sub Touch.resumeRunCore W) (h : Keeps W a d) :
    Keeps W a (Device.resumeRunCore r d).2 := by
  unfold Device.resumeRunCore
  try dsimp only
  repeat' first
    | with_reducible exact h | with_reducible assumption | exact memT (by decide +kernel) hW
    | with_reducible apply Keeps.elim | with_reducible refine Device.runCmd_keeps ?_ ?_ ?_
    | with_reducible refine Device.gunCancel_keeps (subT (by decide +kernel) hW) ?_
    | with_reducible refine Device.enterMode_keeps (subT (by decide +kernel) hW) ?_
    | with_reducible apply Keeps.elim2 | intro _ _ hq | intro _

def Touch.modeCmdResetCore : List Nat :=
  [O.RING_HEAD, O.RING_TAIL, O.RING_STATE, O.RING_COMPLETED, O.RING_REJECTED, O.INJECT_REFUSED, O.MODE_CMD,
  O.RUNAHEAD_FALSE_STARTS, O.RUNAHEAD_WASTED_CELLS, O.PORT_TX_FRAMES, O.PORT_TX_BYTES, O.PORT_TX_TRUNCATED,
  O.PORT_FC_TX_XOFF_C0, O.PORT_FC_TX_XOFF_C1, O.PORT_FC_TX_XOFF_C2, O.PORT_FC_TX_XOFF_C3, O.PORT_FC_TX_XOFF_C4,
  O.PORT_FC_TX_XOFF_C5, O.PORT_FC_TX_XOFF_C6, O.PORT_FC_TX_XOFF_C7, O.SA_STAT_TX_LOST, O.CALLROOM_OCCUPANCY,
  O.CALLROOM_PEAK, O.QUEUE_OCCUPANCY, O.QUEUE_NODE, O.BUFP_USED_CELLS, O.BUF_HEADROOM_USED, O.PMC_VALUE,
  O.PMC_STATUS, F.mode, F.clockOn, F.boot, F.resetLatch, F.cyc, F.clk, F.edge, F.out, F.sess, F.proofFails,
  F.lockoutUntil, F.lockRenewed, F.groups, F.ring, F.pcieWindows, F.pcieDma, F.pcieMasked, F.pciePending,
  F.pcieServed, F.jtag, F.pins, F.acqAt, F.drainAt, F.gunSeq, F.guns, F.faults, F.vault, F.checkKey, F.storeKey,
  F.keyTests, F.keyRestart, F.keyScrub, F.saRecs, F.saCtxs, F.saHolds, F.saLastPn, F.banks, F.pipe, F.clsx,
  F.queues, F.nodes, F.pairs, F.ports, F.laps, F.pmc, F.memCells, F.memRest, F.lc, F.fw, F.att, F.sram, F.time,
  F.mon, F.la, F.pcieVectors, F.pcieMsixOn, F.pcieFuncMask, F.keyScrubFrom, F.keyReseed, F.keyRequests, F.objects]

theorem Device.modeCmdResetCore_keeps {W : List Nat} {a : Device} {r : Req} {d : Device} (hW : Sub Touch.modeCmdResetCore W) (h : Keeps W a d) :
    Keeps W a (Device.modeCmdResetCore r d).2 := by
  unfold Device.modeCmdResetCore
  try dsimp only
  repeat' first
    | with_reducible exact h | with_reducible assumption | exact memT (by decide +kernel) hW
    | with_reducible refine Device.runCmd_keeps ?_ ?_ ?_
    | with_reducible refine Device.enterReset_keeps (subT (by decide +kernel) hW) ?_ | intro _ _ hq | intro _

def Touch.activateResetCore : List Nat :=
  [O.FW_CMD, O.RING_HEAD, O.RING_TAIL, O.RING_STATE, O.RING_COMPLETED, O.RING_REJECTED, O.INJECT_REFUSED,
  O.RUNAHEAD_FALSE_STARTS, O.RUNAHEAD_WASTED_CELLS, O.PORT_TX_FRAMES, O.PORT_TX_BYTES, O.PORT_TX_TRUNCATED,
  O.PORT_FC_TX_XOFF_C0, O.PORT_FC_TX_XOFF_C1, O.PORT_FC_TX_XOFF_C2, O.PORT_FC_TX_XOFF_C3, O.PORT_FC_TX_XOFF_C4,
  O.PORT_FC_TX_XOFF_C5, O.PORT_FC_TX_XOFF_C6, O.PORT_FC_TX_XOFF_C7, O.SA_STAT_TX_LOST, O.CALLROOM_OCCUPANCY,
  O.CALLROOM_PEAK, O.QUEUE_OCCUPANCY, O.QUEUE_NODE, O.BUFP_USED_CELLS, O.BUF_HEADROOM_USED, O.PMC_VALUE,
  O.PMC_STATUS, F.mode, F.clockOn, F.boot, F.resetLatch, F.cyc, F.clk, F.edge, F.out, F.sess, F.proofFails,
  F.lockoutUntil, F.lockRenewed, F.groups, F.ring, F.pcieWindows, F.pcieDma, F.pcieMasked, F.pciePending,
  F.pcieServed, F.jtag, F.pins, F.acqAt, F.drainAt, F.gunSeq, F.guns, F.faults, F.vault, F.checkKey, F.storeKey,
  F.keyTests, F.keyRestart, F.keyScrub, F.saRecs, F.saCtxs, F.saHolds, F.saLastPn, F.banks, F.pipe, F.clsx,
  F.queues, F.nodes, F.pairs, F.ports, F.laps, F.pmc, F.memCells, F.memRest, F.lc, F.fw, F.att, F.sram, F.time,
  F.mon, F.la, F.pcieVectors, F.pcieMsixOn, F.pcieFuncMask, F.keyScrubFrom, F.keyReseed, F.keyRequests, F.objects]

theorem Device.activateResetCore_keeps {W : List Nat} {a : Device} {r : Req} {d : Device} (hW : Sub Touch.activateResetCore W) (h : Keeps W a d) :
    Keeps W a (Device.activateResetCore r d).2 := by
  unfold Device.activateResetCore
  try dsimp only
  repeat' first
    | with_reducible exact h | with_reducible assumption | exact memT (by decide +kernel) hW
    | with_reducible refine Device.runCmd_keeps ?_ ?_ ?_
    | with_reducible refine Device.enterReset_keeps (subT (by decide +kernel) hW) ?_ | intro _ _ hq | intro _

def Touch.setDrainAt : List Nat :=
  [F.drainAt]

theorem Device.setDrainAt_keeps {W : List Nat} {a : Device} {d : Device} {n : Nat} (hW : Sub Touch.setDrainAt W) (h : Keeps W a d) :
    Keeps W a (Device.setDrainAt d n) := 
  h.same rfl rfl (fun k hk => by
    unfold sameField
    split <;> first | rfl | exact absurd (memF (by decide +kernel) hW) hk | trivial)

def Touch.drainHold : List Nat :=
  Touch.sendFlow

theorem Device.drainHold_keeps {W : List Nat} {a : Device} {d : Device} {p : Nat} (hW : Sub Touch.drainHold W) (h : Keeps W a d) :
    Keeps W a (Device.drainHold d p) := by
  unfold Device.drainHold
  try dsimp only
  repeat' first
    | with_reducible exact h | with_reducible apply Keeps.ite
    | with_reducible refine Device.setHolds_keeps (subT (by decide +kernel) hW) ?_ | split

def Touch.drainClose : List Nat :=
  [O.PORT_FC_TX_XOFF_C0, O.PORT_FC_TX_XOFF_C1, O.PORT_FC_TX_XOFF_C2, O.PORT_FC_TX_XOFF_C3, O.PORT_FC_TX_XOFF_C4,
  O.PORT_FC_TX_XOFF_C5, O.PORT_FC_TX_XOFF_C6, O.PORT_FC_TX_XOFF_C7, F.out, F.drainAt, F.ports]

theorem Device.drainClose_keeps {W : List Nat} {a : Device} {d : Device} (hW : Sub Touch.drainClose W) (h : Keeps W a d) :
    Keeps W a (Device.drainClose d) := by
  unfold Device.drainClose
  try dsimp only
  repeat' first
    | with_reducible exact h | with_reducible assumption | with_reducible apply Keeps.ite
    | with_reducible apply Keeps.foldl
    | with_reducible refine Device.drainHold_keeps (subT (by decide +kernel) hW) ?_
    | with_reducible refine Device.setDrainAt_keeps (subT (by decide +kernel) hW) ?_ | intro _ _ hq | intro _ | split

def Touch.drainFlushComplete : List Nat :=
  Touch.toStage

theorem Device.drainFlushComplete_keeps {W : List Nat} {a : Device} {d : Device} (hW : Sub Touch.drainFlushComplete W) (h : Keeps W a d) :
    Keeps W a (Device.drainFlushComplete d) := by
  unfold Device.drainFlushComplete
  try dsimp only
  repeat' first
    | with_reducible exact h | with_reducible apply Keeps.ite
    | with_reducible refine Device.toStage_keeps (subT (by decide +kernel) hW) ?_ | split

def Touch.drainFlushExpiry : List Nat :=
  [O.LOCK, O.GROUP_OWNER, O.GROUP_STATE, O.GROUP_WRITES, O.GROUP_FAIL_ADDRESS, O.GROUP_FLAGS, O.SESSION_STATE,
  O.SESSION_ROLE, O.SESSION_CA, O.SESSION_ID, O.SESSION_LAST_COUNTER, O.RING_ENABLE, O.RING_HEAD, O.RING_TAIL,
  O.RING_STATE, O.RING_COMPLETED, O.RING_REJECTED, O.INJECT_REFUSED, O.MODE, O.MODE_ENTERED_AT, O.MODE_CAUSE,
  O.DRAIN_DISCARDED, O.RUNAHEAD_FALSE_STARTS, O.RUNAHEAD_WASTED_CELLS, O.GUN_STATE, O.GUN_OWNER, O.GUN_FLAGS,
  O.PORT_TX_FRAMES, O.PORT_TX_BYTES, O.PORT_TX_TRUNCATED, O.PORT_FC_TX_XOFF_C0, O.PORT_FC_TX_XOFF_C1,
  O.PORT_FC_TX_XOFF_C2, O.PORT_FC_TX_XOFF_C3, O.PORT_FC_TX_XOFF_C4, O.PORT_FC_TX_XOFF_C5, O.PORT_FC_TX_XOFF_C6,
  O.PORT_FC_TX_XOFF_C7, O.SA_STAT_TX_LOST, O.CALLROOM_OCCUPANCY, O.CALLROOM_PEAK, O.QUEUE_OCCUPANCY, O.QUEUE_NODE,
  O.BUFP_USED_CELLS, O.BUF_HEADROOM_USED, O.FLT_SRC_EVENTS, O.FLT_SRC_LAST_AT, O.FLT_LOG_LAST_SEQ,
  O.FLT_LOG_OVERWRITTEN, O.FLT_EVENT_LOST, O.FLT_FIRST_SEVERE, O.FLT_LOG_RECORD, O.PMC_VALUE, O.PMC_STATUS, F.mode,
  F.cyc, F.clk, F.out, F.sess, F.groups, F.ring, F.pcieDma, F.pciePending, F.faults, F.pipe, F.clsx, F.queues,
  F.nodes, F.pairs, F.ports, F.laps, F.pmc]

theorem Device.drainFlushExpiry_keeps {W : List Nat} {a : Device} {d : Device} (hW : Sub Touch.drainFlushExpiry W) (h : Keeps W a d) :
    Keeps W a (Device.drainFlushExpiry d) := by
  unfold Device.drainFlushExpiry
  try dsimp only
  repeat' first
    | with_reducible exact h | with_reducible apply Keeps.ite
    | with_reducible refine Device.passTo_keeps (subT (by decide +kernel) hW) ?_
    | with_reducible refine Device.toStage_keeps (subT (by decide +kernel) hW) ?_ | split

def Touch.sliceStop : List Nat :=
  [O.RING_HEAD, O.RING_TAIL, O.RING_STATE, O.RING_COMPLETED, O.RING_REJECTED, O.INJECT_REFUSED, O.SLICE_DISCARDED,
  O.RUNAHEAD_FALSE_STARTS, O.RUNAHEAD_WASTED_CELLS, O.PORT_TX_FRAMES, O.PORT_TX_BYTES, O.PORT_TX_TRUNCATED,
  O.PORT_FC_TX_XOFF_C0, O.PORT_FC_TX_XOFF_C1, O.PORT_FC_TX_XOFF_C2, O.PORT_FC_TX_XOFF_C3, O.PORT_FC_TX_XOFF_C4,
  O.PORT_FC_TX_XOFF_C5, O.PORT_FC_TX_XOFF_C6, O.PORT_FC_TX_XOFF_C7, O.SA_STAT_TX_LOST, O.CALLROOM_OCCUPANCY,
  O.CALLROOM_PEAK, O.QUEUE_OCCUPANCY, O.QUEUE_NODE, O.BUFP_USED_CELLS, O.BUF_HEADROOM_USED, O.PMC_VALUE,
  O.PMC_STATUS, F.out, F.pcieDma, F.pciePending, F.banks, F.pipe, F.queues, F.nodes, F.pairs, F.ports, F.laps,
  F.pmc]

theorem Device.sliceStop_keeps {W : List Nat} {a : Device} {d : Device} {s : Nat} (hW : Sub Touch.sliceStop W) (h : Keeps W a d) :
    Keeps W a (Device.sliceStop d s) := by
  unfold Device.sliceStop
  try dsimp only
  repeat' first
    | with_reducible exact h | exact memT (by decide +kernel) hW | with_reducible refine Device.add64_keeps ?_ ?_
    | with_reducible refine Device.stopFrames_keeps (subT (by decide +kernel) hW) ?_
    | with_reducible refine Device.clearBanks_keeps (subT (by decide +kernel) hW) ?_
    | with_reducible refine Device.pmcForget_keeps (subT (by decide +kernel) hW) ?_
    | with_reducible refine Device.lapFlag_keeps (subT (by decide +kernel) hW) ?_

def Touch.sliceExit : List Nat :=
  [O.RING_HEAD, O.RING_TAIL, O.RING_STATE, O.RING_COMPLETED, O.RING_REJECTED, O.INJECT_REFUSED, O.SLICE_STATE,
  O.SLICE_CAUSE, O.SLICE_DISCARDED, O.RUNAHEAD_FALSE_STARTS, O.RUNAHEAD_WASTED_CELLS, O.PORT_TX_FRAMES,
  O.PORT_TX_BYTES, O.PORT_TX_TRUNCATED, O.PORT_FC_TX_XOFF_C0, O.PORT_FC_TX_XOFF_C1, O.PORT_FC_TX_XOFF_C2,
  O.PORT_FC_TX_XOFF_C3, O.PORT_FC_TX_XOFF_C4, O.PORT_FC_TX_XOFF_C5, O.PORT_FC_TX_XOFF_C6, O.PORT_FC_TX_XOFF_C7,
  O.SA_STAT_TX_LOST, O.CALLROOM_OCCUPANCY, O.CALLROOM_PEAK, O.QUEUE_OCCUPANCY, O.QUEUE_NODE, O.BUFP_USED_CELLS,
  O.BUF_HEADROOM_USED, O.PMC_VALUE, O.PMC_STATUS, F.out, F.pcieDma, F.pciePending, F.banks, F.pipe, F.queues,
  F.nodes, F.pairs, F.ports, F.laps, F.pmc]

theorem Device.sliceExit_keeps {W : List Nat} {a : Device} {s : Nat} {st : Nat} {cause : Nat} {d : Device} (hW : Sub Touch.sliceExit W) (h : Keeps W a d) :
    Keeps W a (Device.sliceExit s st cause d) := by
  unfold Device.sliceExit
  try dsimp only
  repeat' first
    | with_reducible exact h | with_reducible assumption | exact memT (by decide +kernel) hW
    | with_reducible refine Device.withSignals_keeps (subT (by decide +kernel) hW) ?_ ?_
    | with_reducible refine Device.sliceStop_keeps (subT (by decide +kernel) hW) ?_
    | with_reducible refine Device.wr_keeps ?_ ?_ | intro _ _ hq | intro _

def Touch.sliceFail : List Nat :=
  [O.LOCK, O.GROUP_OWNER, O.GROUP_STATE, O.GROUP_WRITES, O.GROUP_FAIL_ADDRESS, O.GROUP_FLAGS, O.SESSION_STATE,
  O.SESSION_ROLE, O.SESSION_CA, O.SESSION_ID, O.SESSION_LAST_COUNTER, O.ROLE_ROOT, O.RING_ENABLE, O.RING_HEAD,
  O.RING_TAIL, O.RING_STATE, O.RING_COMPLETED, O.RING_REJECTED, O.INJECT_REFUSED, O.MODE, O.MODE_CMD,
  O.MODE_ENTERED_AT, O.MODE_CAUSE, O.SLICE_STATE, O.SLICE_CAUSE, O.SLICE_DISCARDED, O.RUNAHEAD_FALSE_STARTS,
  O.RUNAHEAD_WASTED_CELLS, O.BANK_DISCARDS, O.VAULT_STATE, O.VAULT_HANDLE, O.VAULT_LEVEL, O.VAULT_PURPOSE,
  O.VAULT_KEY_BITS, O.VAULT_COUNTED, O.VAULT_USES_LEFT, O.VAULT_ORIGIN, O.VAULT_PARENT, O.VAULT_CREATED_AT,
  O.VAULT_ARG_KEY, O.VAULT_CMD, O.VAULT_RESULT_HANDLE, O.DRBG_STATE, O.LA_CONTEXTS_BUSY, O.GUN_STATE, O.GUN_OWNER,
  O.GUN_FLAGS, O.PORT_TX_FRAMES, O.PORT_TX_BYTES, O.PORT_TX_TRUNCATED, O.PORT_FC_TX_XOFF_C0, O.PORT_FC_TX_XOFF_C1,
  O.PORT_FC_TX_XOFF_C2, O.PORT_FC_TX_XOFF_C3, O.PORT_FC_TX_XOFF_C4, O.PORT_FC_TX_XOFF_C5, O.PORT_FC_TX_XOFF_C6,
  O.PORT_FC_TX_XOFF_C7, O.SC_STATUS, O.SA_STATE, O.SA_KEK, O.SA_SLOT, O.SA_FLAGS, O.SA_CHANGED_AT,
  O.SCSA_SLOT0_ROW, O.SCSA_SLOT1_ROW, O.SCSA_IN_FORCE_AN, O.SCSA_ZONE_OPEN, O.SA_STAT_PKTS, O.SA_STAT_OCTETS,
  O.SA_STAT_PKTS_ENCRYPTED, O.SA_STAT_NOT_VALID, O.SA_STAT_COMMIT_LATE, O.SA_STAT_TX_LOST, O.CALLROOM_OCCUPANCY,
  O.CALLROOM_PEAK, O.QUEUE_OCCUPANCY, O.QUEUE_NODE, O.BUFP_USED_CELLS, O.BUF_HEADROOM_USED, O.FLT_SRC_CLASS,
  O.FLT_SRC_EVENTS, O.FLT_SRC_LAST_AT, O.FLT_STATUS, O.FLT_FATAL_SINCE_BOOT, O.FLT_LOG_LAST_SEQ,
  O.FLT_LOG_OVERWRITTEN, O.FLT_EVENT_LOST, O.FLT_FIRST_SEVERE, O.FLT_LOG_RECORD, O.PMC_VALUE, O.PMC_STATUS,
  O.PEER_KEY, F.mode, F.draws, F.out, F.sess, F.groups, F.ring, F.pcieDma, F.pciePending, F.faults, F.vault,
  F.checkKey, F.storeKey, F.keyTests, F.keyRestart, F.keyScrub, F.saRecs, F.saCtxs, F.banks, F.pipe, F.clsx,
  F.queues, F.nodes, F.pairs, F.ports, F.laps, F.pmc, F.lc, F.la, F.keyScrubFrom, F.keyReseed, F.keyRequests]

theorem Device.sliceFail_keeps {W : List Nat} {a : Device} {d : Device} {s : Nat} {cause : Nat} (hW : Sub Touch.sliceFail W) (h : Keeps W a d) :
    Keeps W a (Device.sliceFail d s cause) := by
  unfold Device.sliceFail
  try dsimp only
  repeat' first
    | with_reducible exact h | exact memT (by decide +kernel) hW | with_reducible apply Keeps.ite
    | with_reducible refine Device.sliceExit_keeps (subT (by decide +kernel) hW) ?_
    | with_reducible refine Device.fault_keeps (subT (by decide +kernel) hW) ?_
    | with_reducible refine Device.wr_keeps ?_ ?_ | split

def Touch.takeOutCore : List Nat :=
  [O.RING_HEAD, O.RING_TAIL, O.RING_STATE, O.RING_COMPLETED, O.RING_REJECTED, O.INJECT_REFUSED, O.SLICE_STATE,
  O.SLICE_CMD, O.SLICE_CAUSE, O.SLICE_DISCARDED, O.RUNAHEAD_FALSE_STARTS, O.RUNAHEAD_WASTED_CELLS,
  O.PORT_TX_FRAMES, O.PORT_TX_BYTES, O.PORT_TX_TRUNCATED, O.PORT_FC_TX_XOFF_C0, O.PORT_FC_TX_XOFF_C1,
  O.PORT_FC_TX_XOFF_C2, O.PORT_FC_TX_XOFF_C3, O.PORT_FC_TX_XOFF_C4, O.PORT_FC_TX_XOFF_C5, O.PORT_FC_TX_XOFF_C6,
  O.PORT_FC_TX_XOFF_C7, O.SA_STAT_TX_LOST, O.CALLROOM_OCCUPANCY, O.CALLROOM_PEAK, O.QUEUE_OCCUPANCY, O.QUEUE_NODE,
  O.BUFP_USED_CELLS, O.BUF_HEADROOM_USED, O.PMC_VALUE, O.PMC_STATUS, F.out, F.pcieDma, F.pciePending, F.banks,
  F.pipe, F.queues, F.nodes, F.pairs, F.ports, F.laps, F.pmc]

theorem Device.takeOutCore_keeps {W : List Nat} {a : Device} {r : Req} {s : Nat} {d : Device} (hW : Sub Touch.takeOutCore W) (h : Keeps W a d) :
    Keeps W a (Device.takeOutCore r s d).2 := by
  unfold Device.takeOutCore
  try dsimp only
  repeat' first
    | with_reducible exact h | with_reducible assumption | exact memT (by decide +kernel) hW
    | with_reducible refine Device.runCmd_keeps ?_ ?_ ?_
    | with_reducible refine Device.sliceExit_keeps (subT (by decide +kernel) hW) ?_ | intro _ _ hq | intro _

def Touch.laneOff : List Nat :=
  [O.LANE_SIGNAL, O.LANE_ADAPT]

theorem Device.laneOff_keeps {W : List Nat} {a : Device} {d : Device} {l : Nat} (hW : Sub Touch.laneOff W) (h : Keeps W a d) :
    Keeps W a (Device.laneOff d l) := by
  unfold Device.laneOff
  try dsimp only
  repeat' first
    | with_reducible exact h | exact memT (by decide +kernel) hW | with_reducible refine Device.wr_keeps ?_ ?_

def Touch.gateSlice : List Nat :=
  [O.LOCK, O.GROUP_OWNER, O.GROUP_STATE, O.GROUP_WRITES, O.GROUP_FAIL_ADDRESS, O.GROUP_FLAGS, O.SESSION_STATE,
  O.SESSION_ROLE, O.SESSION_CA, O.SESSION_ID, O.SESSION_LAST_COUNTER, O.RING_ENABLE, O.RING_HEAD, O.RING_TAIL,
  O.RING_STATE, O.RING_COMPLETED, O.RING_REJECTED, O.INJECT_REFUSED, O.SLICE_STATE, O.RUNAHEAD_FALSE_STARTS,
  O.RUNAHEAD_WASTED_CELLS, O.GUN_STATE, O.GUN_OWNER, O.GUN_FLAGS, O.LANE_SIGNAL, O.LANE_ADAPT, O.PORT_LINK,
  O.PORT_LINK_CHANGES, O.PORT_TX_FRAMES, O.PORT_TX_BYTES, O.PORT_TX_TRUNCATED, O.PORT_PCS_ALIGN_LOSS,
  O.PORT_FC_TX_XOFF_C0, O.PORT_FC_TX_XOFF_C1, O.PORT_FC_TX_XOFF_C2, O.PORT_FC_TX_XOFF_C3, O.PORT_FC_TX_XOFF_C4,
  O.PORT_FC_TX_XOFF_C5, O.PORT_FC_TX_XOFF_C6, O.PORT_FC_TX_XOFF_C7, O.SA_STAT_TX_LOST, O.CALLROOM_OCCUPANCY,
  O.CALLROOM_PEAK, O.QUEUE_OCCUPANCY, O.QUEUE_NODE, O.BUFP_USED_CELLS, O.BUF_HEADROOM_USED, O.FLT_SRC_EVENTS,
  O.FLT_SRC_LAST_AT, O.FLT_LOG_LAST_SEQ, O.FLT_LOG_OVERWRITTEN, O.FLT_EVENT_LOST, O.FLT_FIRST_SEVERE,
  O.FLT_LOG_RECORD, O.PMC_VALUE, O.PMC_STATUS, F.out, F.sess, F.groups, F.ring, F.pcieDma, F.pciePending, F.faults,
  F.pipe, F.clsx, F.queues, F.nodes, F.pairs, F.ports, F.laps, F.pmc]

theorem Device.gateSlice_keeps {W : List Nat} {a : Device} {s : Nat} {d : Device} (hW : Sub Touch.gateSlice W) (h : Keeps W a d) :
    Keeps W a (Device.gateSlice s d) := by
  unfold Device.gateSlice
  try dsimp only
  repeat' first
    | with_reducible exact h | with_reducible assumption | exact memT (by decide +kernel) hW
    | with_reducible apply Keeps.foldl
    | with_reducible refine Device.withSignals_keeps (subT (by decide +kernel) hW) ?_ ?_
    | with_reducible refine Device.receive_keeps (subT (by decide +kernel) hW) ?_
    | with_reducible refine Device.laneOff_keeps (subT (by decide +kernel) hW) ?_
    | with_reducible refine Device.wr_keeps ?_ ?_ | intro _ _ hq | intro _

def Touch.gateCore : List Nat :=
  [O.LOCK, O.GROUP_OWNER, O.GROUP_STATE, O.GROUP_WRITES, O.GROUP_FAIL_ADDRESS, O.GROUP_FLAGS, O.SESSION_STATE,
  O.SESSION_ROLE, O.SESSION_CA, O.SESSION_ID, O.SESSION_LAST_COUNTER, O.RING_ENABLE, O.RING_HEAD, O.RING_TAIL,
  O.RING_STATE, O.RING_COMPLETED, O.RING_REJECTED, O.INJECT_REFUSED, O.SLICE_STATE, O.SLICE_CMD,
  O.RUNAHEAD_FALSE_STARTS, O.RUNAHEAD_WASTED_CELLS, O.GUN_STATE, O.GUN_OWNER, O.GUN_FLAGS, O.LANE_SIGNAL,
  O.LANE_ADAPT, O.PORT_LINK, O.PORT_LINK_CHANGES, O.PORT_TX_FRAMES, O.PORT_TX_BYTES, O.PORT_TX_TRUNCATED,
  O.PORT_PCS_ALIGN_LOSS, O.PORT_FC_TX_XOFF_C0, O.PORT_FC_TX_XOFF_C1, O.PORT_FC_TX_XOFF_C2, O.PORT_FC_TX_XOFF_C3,
  O.PORT_FC_TX_XOFF_C4, O.PORT_FC_TX_XOFF_C5, O.PORT_FC_TX_XOFF_C6, O.PORT_FC_TX_XOFF_C7, O.SA_STAT_TX_LOST,
  O.CALLROOM_OCCUPANCY, O.CALLROOM_PEAK, O.QUEUE_OCCUPANCY, O.QUEUE_NODE, O.BUFP_USED_CELLS, O.BUF_HEADROOM_USED,
  O.FLT_SRC_EVENTS, O.FLT_SRC_LAST_AT, O.FLT_LOG_LAST_SEQ, O.FLT_LOG_OVERWRITTEN, O.FLT_EVENT_LOST,
  O.FLT_FIRST_SEVERE, O.FLT_LOG_RECORD, O.PMC_VALUE, O.PMC_STATUS, F.out, F.sess, F.groups, F.ring, F.pcieDma,
  F.pciePending, F.faults, F.pipe, F.clsx, F.queues, F.nodes, F.pairs, F.ports, F.laps, F.pmc]

theorem Device.gateCore_keeps {W : List Nat} {a : Device} {r : Req} {s : Nat} {d : Device} (hW : Sub Touch.gateCore W) (h : Keeps W a d) :
    Keeps W a (Device.gateCore r s d).2 := by
  unfold Device.gateCore
  try dsimp only
  repeat' first
    | with_reducible exact h | with_reducible assumption | exact memT (by decide +kernel) hW
    | with_reducible refine Device.runCmd_keeps ?_ ?_ ?_
    | with_reducible refine Device.gateSlice_keeps (subT (by decide +kernel) hW) ?_ | intro _ _ hq | intro _

def Touch.returnSlice : List Nat :=
  [O.LOCK, O.GROUP_OWNER, O.GROUP_STATE, O.GROUP_WRITES, O.GROUP_FAIL_ADDRESS, O.GROUP_FLAGS, O.SESSION_STATE,
  O.SESSION_ROLE, O.SESSION_CA, O.SESSION_ID, O.SESSION_LAST_COUNTER, O.ROLE_ROOT, O.RING_ENABLE, O.RING_HEAD,
  O.RING_TAIL, O.RING_STATE, O.RING_COMPLETED, O.RING_REJECTED, O.INJECT_REFUSED, O.MODE, O.MODE_CMD,
  O.MODE_ENTERED_AT, O.MODE_CAUSE, O.SLICE_STATE, O.SLICE_CAUSE, O.SLICE_DISCARDED, O.RUNAHEAD_FALSE_STARTS,
  O.RUNAHEAD_WASTED_CELLS, O.BANK_DISCARDS, O.VAULT_STATE, O.VAULT_HANDLE, O.VAULT_LEVEL, O.VAULT_PURPOSE,
  O.VAULT_KEY_BITS, O.VAULT_COUNTED, O.VAULT_USES_LEFT, O.VAULT_ORIGIN, O.VAULT_PARENT, O.VAULT_CREATED_AT,
  O.VAULT_ARG_KEY, O.VAULT_CMD, O.VAULT_RESULT_HANDLE, O.DRBG_STATE, O.LA_CONTEXTS_BUSY, O.GUN_STATE, O.GUN_OWNER,
  O.GUN_FLAGS, O.PORT_TX_FRAMES, O.PORT_TX_BYTES, O.PORT_TX_TRUNCATED, O.PORT_FC_TX_XOFF_C0, O.PORT_FC_TX_XOFF_C1,
  O.PORT_FC_TX_XOFF_C2, O.PORT_FC_TX_XOFF_C3, O.PORT_FC_TX_XOFF_C4, O.PORT_FC_TX_XOFF_C5, O.PORT_FC_TX_XOFF_C6,
  O.PORT_FC_TX_XOFF_C7, O.SC_STATUS, O.SA_STATE, O.SA_KEK, O.SA_SLOT, O.SA_FLAGS, O.SA_CHANGED_AT,
  O.SCSA_SLOT0_ROW, O.SCSA_SLOT1_ROW, O.SCSA_IN_FORCE_AN, O.SCSA_ZONE_OPEN, O.SA_STAT_PKTS, O.SA_STAT_OCTETS,
  O.SA_STAT_PKTS_ENCRYPTED, O.SA_STAT_NOT_VALID, O.SA_STAT_COMMIT_LATE, O.SA_STAT_TX_LOST, O.PARSER_ACTIVE_IMAGE,
  O.PARSER_ACTIVE_DIGEST, O.PARSER_SHADOW_STATE, O.PARSER_SHADOW_DIGEST, O.CALLROOM_OCCUPANCY, O.CALLROOM_PEAK,
  O.QUEUE_OCCUPANCY, O.QUEUE_NODE, O.BUFP_USED_CELLS, O.BUF_HEADROOM_USED, O.FLT_SRC_CLASS, O.FLT_SRC_EVENTS,
  O.FLT_SRC_LAST_AT, O.FLT_STATUS, O.FLT_FATAL_SINCE_BOOT, O.FLT_LOG_LAST_SEQ, O.FLT_LOG_OVERWRITTEN,
  O.FLT_EVENT_LOST, O.FLT_FIRST_SEVERE, O.FLT_LOG_RECORD, O.PMC_VALUE, O.PMC_STATUS, O.PEER_KEY, F.mode, F.draws,
  F.out, F.sess, F.groups, F.ring, F.pcieDma, F.pciePending, F.faults, F.vault, F.checkKey, F.storeKey, F.keyTests,
  F.keyRestart, F.keyScrub, F.saRecs, F.saCtxs, F.banks, F.pipe, F.clsx, F.queues, F.nodes, F.pairs, F.ports,
  F.laps, F.pmc, F.lc, F.la, F.keyScrubFrom, F.keyReseed, F.keyRequests]

theorem Device.returnSlice_keeps {W : List Nat} {a : Device} {d : Device} {s : Nat} (hW : Sub Touch.returnSlice W) (h : Keeps W a d) :
    Keeps W a (Device.returnSlice d s) := by
  unfold Device.returnSlice
  try dsimp only
  repeat' first
    | with_reducible exact h | exact memT (by decide +kernel) hW | with_reducible apply Keeps.ite
    | with_reducible refine Device.wr_keeps ?_ ?_
    | with_reducible refine Device.emptyShadow_keeps (subT (by decide +kernel) hW) ?_
    | with_reducible refine Device.setActive_keeps (subT (by decide +kernel) hW) ?_
    | with_reducible refine Device.sliceFail_keeps (subT (by decide +kernel) hW) ?_ | split

def Touch.sliceReturnCore : List Nat :=
  [O.LOCK, O.GROUP_OWNER, O.GROUP_STATE, O.GROUP_WRITES, O.GROUP_FAIL_ADDRESS, O.GROUP_FLAGS, O.SESSION_STATE,
  O.SESSION_ROLE, O.SESSION_CA, O.SESSION_ID, O.SESSION_LAST_COUNTER, O.ROLE_ROOT, O.RING_ENABLE, O.RING_HEAD,
  O.RING_TAIL, O.RING_STATE, O.RING_COMPLETED, O.RING_REJECTED, O.INJECT_REFUSED, O.MODE, O.MODE_CMD,
  O.MODE_ENTERED_AT, O.MODE_CAUSE, O.SLICE_STATE, O.SLICE_CMD, O.SLICE_CAUSE, O.SLICE_DISCARDED,
  O.RUNAHEAD_FALSE_STARTS, O.RUNAHEAD_WASTED_CELLS, O.BANK_DISCARDS, O.VAULT_STATE, O.VAULT_HANDLE, O.VAULT_LEVEL,
  O.VAULT_PURPOSE, O.VAULT_KEY_BITS, O.VAULT_COUNTED, O.VAULT_USES_LEFT, O.VAULT_ORIGIN, O.VAULT_PARENT,
  O.VAULT_CREATED_AT, O.VAULT_ARG_KEY, O.VAULT_CMD, O.VAULT_RESULT_HANDLE, O.DRBG_STATE, O.LA_CONTEXTS_BUSY,
  O.GUN_STATE, O.GUN_OWNER, O.GUN_FLAGS, O.PORT_TX_FRAMES, O.PORT_TX_BYTES, O.PORT_TX_TRUNCATED,
  O.PORT_FC_TX_XOFF_C0, O.PORT_FC_TX_XOFF_C1, O.PORT_FC_TX_XOFF_C2, O.PORT_FC_TX_XOFF_C3, O.PORT_FC_TX_XOFF_C4,
  O.PORT_FC_TX_XOFF_C5, O.PORT_FC_TX_XOFF_C6, O.PORT_FC_TX_XOFF_C7, O.SC_STATUS, O.SA_STATE, O.SA_KEK, O.SA_SLOT,
  O.SA_FLAGS, O.SA_CHANGED_AT, O.SCSA_SLOT0_ROW, O.SCSA_SLOT1_ROW, O.SCSA_IN_FORCE_AN, O.SCSA_ZONE_OPEN,
  O.SA_STAT_PKTS, O.SA_STAT_OCTETS, O.SA_STAT_PKTS_ENCRYPTED, O.SA_STAT_NOT_VALID, O.SA_STAT_COMMIT_LATE,
  O.SA_STAT_TX_LOST, O.PARSER_ACTIVE_IMAGE, O.PARSER_ACTIVE_DIGEST, O.PARSER_SHADOW_STATE, O.PARSER_SHADOW_DIGEST,
  O.CALLROOM_OCCUPANCY, O.CALLROOM_PEAK, O.QUEUE_OCCUPANCY, O.QUEUE_NODE, O.BUFP_USED_CELLS, O.BUF_HEADROOM_USED,
  O.FLT_SRC_CLASS, O.FLT_SRC_EVENTS, O.FLT_SRC_LAST_AT, O.FLT_STATUS, O.FLT_FATAL_SINCE_BOOT, O.FLT_LOG_LAST_SEQ,
  O.FLT_LOG_OVERWRITTEN, O.FLT_EVENT_LOST, O.FLT_FIRST_SEVERE, O.FLT_LOG_RECORD, O.PMC_VALUE, O.PMC_STATUS,
  O.PEER_KEY, F.mode, F.draws, F.out, F.sess, F.groups, F.ring, F.pcieDma, F.pciePending, F.faults, F.vault,
  F.checkKey, F.storeKey, F.keyTests, F.keyRestart, F.keyScrub, F.saRecs, F.saCtxs, F.banks, F.pipe, F.clsx,
  F.queues, F.nodes, F.pairs, F.ports, F.laps, F.pmc, F.lc, F.la, F.keyScrubFrom, F.keyReseed, F.keyRequests]

theorem Device.sliceReturnCore_keeps {W : List Nat} {a : Device} {r : Req} {s : Nat} {d : Device} (hW : Sub Touch.sliceReturnCore W) (h : Keeps W a d) :
    Keeps W a (Device.sliceReturnCore r s d).2 := by
  unfold Device.sliceReturnCore
  try dsimp only
  repeat' first
    | with_reducible exact h | with_reducible assumption | exact memT (by decide +kernel) hW
    | with_reducible refine Device.runCmd_keeps ?_ ?_ ?_
    | with_reducible refine Device.returnSlice_keeps (subT (by decide +kernel) hW) ?_ | intro _ _ hq | intro _

def Touch.laneOn : List Nat :=
  [O.LANE_ADAPT, F.acqAt]

theorem Device.laneOn_keeps {W : List Nat} {a : Device} {d : Device} {l : Nat} (hW : Sub Touch.laneOn W) (h : Keeps W a d) :
    Keeps W a (Device.laneOn d l) := by
  unfold Device.laneOn
  try dsimp only
  repeat' first
    | with_reducible exact h | exact memT (by decide +kernel) hW | with_reducible apply Keeps.ite
    | with_reducible refine Device.wr_keeps ?_ ?_
    | with_reducible refine Device.setAcq_keeps (subT (by decide +kernel) hW) ?_ | split

def Touch.laneLost : List Nat :=
  [O.LANE_ADAPT]

theorem Device.laneLost_keeps {W : List Nat} {a : Device} {d : Device} {l : Nat} (hW : Sub Touch.laneLost W) (h : Keeps W a d) :
    Keeps W a (Device.laneLost d l) := by
  unfold Device.laneLost
  try dsimp only
  repeat' first
    | with_reducible exact h | exact memT (by decide +kernel) hW | with_reducible refine Device.wr_keeps ?_ ?_

def Touch.sliceReturnDone : List Nat :=
  [O.LOCK, O.GROUP_OWNER, O.GROUP_STATE, O.GROUP_WRITES, O.GROUP_FAIL_ADDRESS, O.GROUP_FLAGS, O.SESSION_STATE,
  O.SESSION_ROLE, O.SESSION_CA, O.SESSION_ID, O.SESSION_LAST_COUNTER, O.ROLE_ROOT, O.RING_ENABLE, O.RING_HEAD,
  O.RING_TAIL, O.RING_STATE, O.RING_COMPLETED, O.RING_REJECTED, O.INJECT_REFUSED, O.MODE, O.MODE_CMD,
  O.MODE_ENTERED_AT, O.MODE_CAUSE, O.SLICE_STATE, O.SLICE_CAUSE, O.SLICE_DISCARDED, O.RUNAHEAD_FALSE_STARTS,
  O.RUNAHEAD_WASTED_CELLS, O.BANK_DISCARDS, O.VAULT_STATE, O.VAULT_HANDLE, O.VAULT_LEVEL, O.VAULT_PURPOSE,
  O.VAULT_KEY_BITS, O.VAULT_COUNTED, O.VAULT_USES_LEFT, O.VAULT_ORIGIN, O.VAULT_PARENT, O.VAULT_CREATED_AT,
  O.VAULT_ARG_KEY, O.VAULT_CMD, O.VAULT_RESULT_HANDLE, O.DRBG_STATE, O.LA_CONTEXTS_BUSY, O.GUN_STATE, O.GUN_OWNER,
  O.GUN_FLAGS, O.LANE_ADAPT, O.PORT_TX_FRAMES, O.PORT_TX_BYTES, O.PORT_TX_TRUNCATED, O.PORT_FC_TX_XOFF_C0,
  O.PORT_FC_TX_XOFF_C1, O.PORT_FC_TX_XOFF_C2, O.PORT_FC_TX_XOFF_C3, O.PORT_FC_TX_XOFF_C4, O.PORT_FC_TX_XOFF_C5,
  O.PORT_FC_TX_XOFF_C6, O.PORT_FC_TX_XOFF_C7, O.SC_STATUS, O.SA_STATE, O.SA_KEK, O.SA_SLOT, O.SA_FLAGS,
  O.SA_CHANGED_AT, O.SCSA_SLOT0_ROW, O.SCSA_SLOT1_ROW, O.SCSA_IN_FORCE_AN, O.SCSA_ZONE_OPEN, O.SA_STAT_PKTS,
  O.SA_STAT_OCTETS, O.SA_STAT_PKTS_ENCRYPTED, O.SA_STAT_NOT_VALID, O.SA_STAT_COMMIT_LATE, O.SA_STAT_TX_LOST,
  O.CALLROOM_OCCUPANCY, O.CALLROOM_PEAK, O.QUEUE_OCCUPANCY, O.QUEUE_NODE, O.BUFP_USED_CELLS, O.BUF_HEADROOM_USED,
  O.FLT_SRC_CLASS, O.FLT_SRC_EVENTS, O.FLT_SRC_LAST_AT, O.FLT_STATUS, O.FLT_FATAL_SINCE_BOOT, O.FLT_LOG_LAST_SEQ,
  O.FLT_LOG_OVERWRITTEN, O.FLT_EVENT_LOST, O.FLT_FIRST_SEVERE, O.FLT_LOG_RECORD, O.PMC_VALUE, O.PMC_STATUS,
  O.PEER_KEY, F.mode, F.draws, F.out, F.sess, F.groups, F.ring, F.pcieDma, F.pciePending, F.acqAt, F.faults,
  F.vault, F.checkKey, F.storeKey, F.keyTests, F.keyRestart, F.keyScrub, F.saRecs, F.saCtxs, F.banks, F.pipe,
  F.clsx, F.queues, F.nodes, F.pairs, F.ports, F.laps, F.pmc, F.lc, F.la, F.keyScrubFrom, F.keyReseed,
  F.keyRequests]

theorem Device.sliceReturnDone_keeps {W : List Nat} {a : Device} {s : Nat} {failed : Nat} {d : Device} (hW : Sub Touch.sliceReturnDone W) (h : Keeps W a d) :
    Keeps W a (Device.sliceReturnDone s failed d) := by
  unfold Device.sliceReturnDone
  try dsimp only
  repeat' first
    | with_reducible exact h | with_reducible assumption | exact memT (by decide +kernel) hW
    | with_reducible apply Keeps.ite | with_reducible apply Keeps.foldl
    | with_reducible refine Device.withSignals_keeps (subT (by decide +kernel) hW) ?_ ?_
    | with_reducible refine Device.laneOn_keeps (subT (by decide +kernel) hW) ?_
    | with_reducible refine Device.wr_keeps ?_ ?_
    | with_reducible refine Device.pmcRestart_keeps (subT (by decide +kernel) hW) ?_
    | with_reducible refine Device.runKats_keeps (subT (by decide +kernel) hW) ?_
    | with_reducible refine Device.laneLost_keeps (subT (by decide +kernel) hW) ?_
    | with_reducible refine Device.sliceFail_keeps (subT (by decide +kernel) hW) ?_ | intro _ _ hq | intro _ | split

end Sys2Proof.Machine
end

