-- ==== Sys2Proof/Laws/KeepsTime.lean ====
section
/-!
SUPPORT. The places that each operation of Machine/Time.lean may change (Laws/Keeps.lean).
-/
set_option Elab.async false
set_option linter.all false
set_option linter.unusedTactic false
set_option linter.unreachableTactic false
set_option linter.style.longLine false
namespace Sys2Proof.Machine

def Touch.refreshTimeHold : List Nat :=
  [O.TIME_HOLD_STATE, F.out, F.pins]

theorem Device.refreshTimeHold_keeps {W : List Nat} {a : Device} {d : Device} (hW : Sub Touch.refreshTimeHold W) (h : Keeps W a d) :
    Keeps W a (Device.refreshTimeHold d) := by
  unfold Device.refreshTimeHold
  try dsimp only
  repeat' first
    | with_reducible exact h | exact memT (by decide +kernel) hW | with_reducible apply Keeps.ite
    | with_reducible refine Device.setPins_keeps (subT (by decide +kernel) hW) ?_
    | with_reducible refine Device.emit_keeps (subT (by decide +kernel) hW) ?_
    | with_reducible refine Device.wr_keeps ?_ ?_ | split

def Touch.setTimeCmd : List Nat :=
  [F.time]

theorem Device.setTimeCmd_keeps {W : List Nat} {a : Device} {d : Device} {c : Option Nat} (hW : Sub Touch.setTimeCmd W) (h : Keeps W a d) :
    Keeps W a (Device.setTimeCmd d c) := by
  unfold Device.setTimeCmd
  try dsimp only
  repeat' first
    | with_reducible exact h | with_reducible refine Device.setTime_keeps (subT (by decide +kernel) hW) ?_

def Touch.phcPend : List Nat :=
  [F.clk]

theorem Device.phcPend_keeps {W : List Nat} {a : Device} {d : Device} {ch : PhcChange} (hW : Sub Touch.phcPend W) (h : Keeps W a d) :
    Keeps W a (Device.phcPend d ch) := by
  unfold Device.phcPend
  try dsimp only
  repeat' first
    | with_reducible exact h | with_reducible refine Device.setClk_keeps (subT (by decide +kernel) hW) ?_

def Touch.phcStart : List Nat :=
  [F.clk, F.time]

theorem Device.phcStart_keeps {W : List Nat} {a : Device} {ch : PhcChange} {d : Device} (hW : Sub Touch.phcStart W) (h : Keeps W a d) :
    Keeps W a (Device.phcStart ch d).2 := by
  unfold Device.phcStart
  try dsimp only
  repeat' first
    | with_reducible exact h | with_reducible refine Device.phcPend_keeps (subT (by decide +kernel) hW) ?_
    | with_reducible refine Device.setTimeCmd_keeps (subT (by decide +kernel) hW) ?_

def Touch.phcSetCore : List Nat :=
  [O.PHC_CMD, F.clk, F.time]

theorem Device.phcSetCore_keeps {W : List Nat} {a : Device} {r : Req} {d : Device} (hW : Sub Touch.phcSetCore W) (h : Keeps W a d) :
    Keeps W a (Device.phcSetCore r d).2 := by
  unfold Device.phcSetCore
  try dsimp only
  repeat' first
    | with_reducible exact h | with_reducible assumption | exact memT (by decide +kernel) hW
    | with_reducible refine Device.runCmd_keeps ?_ ?_ ?_
    | with_reducible refine Device.phcStart_keeps (subT (by decide +kernel) hW) ?_ | intro _ _ hq | intro _

def Touch.phcStepCore : List Nat :=
  Touch.phcSetCore

theorem Device.phcStepCore_keeps {W : List Nat} {a : Device} {r : Req} {d : Device} (hW : Sub Touch.phcStepCore W) (h : Keeps W a d) :
    Keeps W a (Device.phcStepCore r d).2 := by
  unfold Device.phcStepCore
  try dsimp only
  repeat' first
    | with_reducible exact h | with_reducible assumption | exact memT (by decide +kernel) hW
    | with_reducible refine Device.runCmd_keeps ?_ ?_ ?_
    | with_reducible refine Device.phcStart_keeps (subT (by decide +kernel) hW) ?_ | intro _ _ hq | intro _

def Touch.phcSlewCore : List Nat :=
  Touch.phcSetCore

theorem Device.phcSlewCore_keeps {W : List Nat} {a : Device} {r : Req} {d : Device} (hW : Sub Touch.phcSlewCore W) (h : Keeps W a d) :
    Keeps W a (Device.phcSlewCore r d).2 := by
  unfold Device.phcSlewCore
  try dsimp only
  repeat' first
    | with_reducible exact h | with_reducible assumption | exact memT (by decide +kernel) hW
    | with_reducible refine Device.runCmd_keeps ?_ ?_ ?_
    | with_reducible refine Device.phcStart_keeps (subT (by decide +kernel) hW) ?_ | intro _ _ hq | intro _

def Touch.phcSlewStopCore : List Nat :=
  Touch.phcSetCore

theorem Device.phcSlewStopCore_keeps {W : List Nat} {a : Device} {r : Req} {d : Device} (hW : Sub Touch.phcSlewStopCore W) (h : Keeps W a d) :
    Keeps W a (Device.phcSlewStopCore r d).2 := by
  unfold Device.phcSlewStopCore
  try dsimp only
  repeat' first
    | with_reducible exact h | with_reducible assumption | exact memT (by decide +kernel) hW
    | with_reducible refine Device.runCmd_keeps ?_ ?_ ?_
    | with_reducible refine Device.phcStart_keeps (subT (by decide +kernel) hW) ?_ | intro _ _ hq | intro _

def Touch.leapNow : List Nat :=
  [O.LOCK, O.GROUP_OWNER, O.GROUP_STATE, O.GROUP_WRITES, O.GROUP_FAIL_ADDRESS, O.GROUP_FLAGS, O.SESSION_STATE,
  O.SESSION_ROLE, O.SESSION_CA, O.SESSION_ID, O.SESSION_LAST_COUNTER, O.RING_ENABLE, O.RING_HEAD, O.RING_TAIL,
  O.RING_STATE, O.RING_COMPLETED, O.RING_REJECTED, O.PHC_UTC_OFFSET, O.PHC_LEAP_AT, O.PHC_LEAP_KIND, O.GUN_STATE,
  O.GUN_OWNER, O.GUN_TARGET_ROW, O.GUN_TIME, O.GUN_SEQ, O.GUN_TAG, O.GUN_TARGET_CYCLE, O.GUN_FIRED_AT, O.GUN_FLAGS,
  O.FLT_SRC_EVENTS, O.FLT_SRC_LAST_AT, O.FLT_LOG_LAST_SEQ, O.FLT_LOG_OVERWRITTEN, O.FLT_EVENT_LOST,
  O.FLT_FIRST_SEVERE, O.FLT_LOG_RECORD, O.PMC_VALUE, O.PMC_STATUS, F.out, F.sess, F.groups, F.ring, F.pcieDma,
  F.pciePending, F.gunSeq, F.guns, F.faults, F.clsx, F.laps, F.pmc]

theorem Device.leapNow_keeps {W : List Nat} {a : Device} {d : Device} (hW : Sub Touch.leapNow W) (h : Keeps W a d) :
    Keeps W a (Device.leapNow d) := by
  unfold Device.leapNow
  try dsimp only
  repeat' first
    | with_reducible exact h | exact memT (by decide +kernel) hW | with_reducible apply Keeps.ite
    | with_reducible refine Device.wrCmd_keeps ?_ (subT (by decide +kernel) hW) ?_
    | with_reducible refine Device.lapRetime_keeps (subT (by decide +kernel) hW) ?_ | split

def Touch.leapApply : List Nat :=
  [O.LOCK, O.GROUP_OWNER, O.GROUP_STATE, O.GROUP_WRITES, O.GROUP_FAIL_ADDRESS, O.GROUP_FLAGS, O.SESSION_STATE,
  O.SESSION_ROLE, O.SESSION_CA, O.SESSION_ID, O.SESSION_LAST_COUNTER, O.RING_ENABLE, O.RING_HEAD, O.RING_TAIL,
  O.RING_STATE, O.RING_COMPLETED, O.RING_REJECTED, O.PHC_UTC_OFFSET, O.PHC_LEAP_AT, O.PHC_LEAP_KIND, O.GUN_STATE,
  O.GUN_OWNER, O.GUN_TARGET_ROW, O.GUN_TIME, O.GUN_SEQ, O.GUN_TAG, O.GUN_TARGET_CYCLE, O.GUN_FIRED_AT, O.GUN_FLAGS,
  O.FLT_SRC_EVENTS, O.FLT_SRC_LAST_AT, O.FLT_LOG_LAST_SEQ, O.FLT_LOG_OVERWRITTEN, O.FLT_EVENT_LOST,
  O.FLT_FIRST_SEVERE, O.FLT_LOG_RECORD, O.PMC_VALUE, O.PMC_STATUS, F.cyc, F.clk, F.out, F.sess, F.groups, F.ring,
  F.pcieDma, F.pciePending, F.gunSeq, F.guns, F.faults, F.clsx, F.laps, F.pmc]

theorem Device.leapApply_keeps {W : List Nat} {a : Device} {d : Device} (hW : Sub Touch.leapApply W) (h : Keeps W a d) :
    Keeps W a (Device.leapApply d) := by
  unfold Device.leapApply
  try dsimp only
  repeat' first
    | with_reducible exact h | with_reducible apply Keeps.ite
    | with_reducible refine Device.passTo_keeps (subT (by decide +kernel) hW) ?_
    | with_reducible refine Device.leapNow_keeps (subT (by decide +kernel) hW) ?_ | split

def Touch.gunWithdraw : List Nat :=
  [O.GUN_STATE, O.GUN_TARGET_CYCLE, O.GUN_FLAGS, F.guns]

theorem Device.gunWithdraw_keeps {W : List Nat} {a : Device} {d : Device} {e : Nat} (hW : Sub Touch.gunWithdraw W) (h : Keeps W a d) :
    Keeps W a (Device.gunWithdraw d e) := by
  unfold Device.gunWithdraw
  try dsimp only
  repeat' first
    | with_reducible exact h | exact memT (by decide +kernel) hW | with_reducible apply Keeps.ite
    | with_reducible refine Device.setGun_keeps (subT (by decide +kernel) hW) ?_
    | with_reducible refine Device.wr_keeps ?_ ?_ | with_reducible refine Device.wrBit_keeps ?_ ?_ | split

def Touch.setEdge : List Nat :=
  [F.edge]

theorem Device.setEdge_keeps {W : List Nat} {a : Device} {d : Device} {x : StepEdge} (hW : Sub Touch.setEdge W) (h : Keeps W a d) :
    Keeps W a (Device.setEdge d x) := 
  h.same rfl rfl (fun k hk => by
    unfold sameField
    split <;> first | rfl | exact absurd (memF (by decide +kernel) hW) hk | trivial)

def Touch.stepped : List Nat :=
  [O.BOOT_PHC_FIRST_SET, O.LOCK, O.GROUP_OWNER, O.GROUP_STATE, O.GROUP_WRITES, O.GROUP_FAIL_ADDRESS, O.GROUP_FLAGS,
  O.SESSION_STATE, O.SESSION_ROLE, O.SESSION_CA, O.SESSION_ID, O.SESSION_LAST_COUNTER, O.RING_ENABLE, O.RING_HEAD,
  O.RING_TAIL, O.RING_STATE, O.RING_COMPLETED, O.RING_REJECTED, O.PHC_STEP_COUNT, O.PHC_LAST_STEP_AT, O.PHC_STATE,
  O.PHC_UTC_OFFSET, O.PHC_LEAP_AT, O.PHC_LEAP_KIND, O.TIME_HOLD_STATE, O.GUN_STATE, O.GUN_OWNER, O.GUN_TARGET_ROW,
  O.GUN_TIME, O.GUN_SEQ, O.GUN_TAG, O.GUN_TARGET_CYCLE, O.GUN_FIRED_AT, O.GUN_FLAGS, O.FLT_SRC_EVENTS,
  O.FLT_SRC_LAST_AT, O.FLT_LOG_LAST_SEQ, O.FLT_LOG_OVERWRITTEN, O.FLT_EVENT_LOST, O.FLT_FIRST_SEVERE,
  O.FLT_LOG_RECORD, O.TAMPER_LOG_ENTRY, O.TAMPER_LOG_LAST_SEQ, O.TAMPER_LOG_OVERWRITTEN, O.TAMPER_FIRST,
  O.PMC_VALUE, O.PMC_STATUS, F.edge, F.out, F.sess, F.groups, F.ring, F.pcieDma, F.pciePending, F.pins, F.gunSeq,
  F.guns, F.faults, F.clsx, F.laps, F.pmc, F.time, F.mon]

theorem Device.stepped_keeps {W : List Nat} {a : Device} {d : Device} {before : Nat} (hW : Sub Touch.stepped W) (h : Keeps W a d) :
    Keeps W a (Device.stepped d before) := by
  unfold Device.stepped
  try dsimp only
  repeat' first
    | with_reducible exact h | with_reducible assumption | exact memT (by decide +kernel) hW
    | with_reducible apply Keeps.ite | with_reducible apply Keeps.foldl
    | with_reducible refine Device.setEdge_keeps (subT (by decide +kernel) hW) ?_
    | with_reducible refine Device.inc32_keeps ?_ ?_ | with_reducible refine Device.wr_keeps ?_ ?_
    | with_reducible refine Device.tamperTimeSet_keeps (subT (by decide +kernel) hW) ?_
    | with_reducible refine Device.gunWithdraw_keeps (subT (by decide +kernel) hW) ?_
    | with_reducible refine Device.setTime_keeps (subT (by decide +kernel) hW) ?_
    | with_reducible refine Device.leapNow_keeps (subT (by decide +kernel) hW) ?_
    | with_reducible refine Device.lapStepped_keeps (subT (by decide +kernel) hW) ?_
    | with_reducible refine Device.refreshTimeHold_keeps (subT (by decide +kernel) hW) ?_ | intro _ _ hq | intro _
    | split

def Touch.phcCmdEnds : List Nat :=
  [O.PHC_CMD, F.time]

theorem Device.phcCmdEnds_keeps {W : List Nat} {a : Device} {d : Device} {c : Nat} (hW : Sub Touch.phcCmdEnds W) (h : Keeps W a d) :
    Keeps W a (Device.phcCmdEnds d c) := by
  unfold Device.phcCmdEnds
  try dsimp only
  repeat' first
    | with_reducible exact h | with_reducible assumption | exact memT (by decide +kernel) hW
    | with_reducible apply Keeps.ite | with_reducible refine Device.setTimeCmd_keeps (subT (by decide +kernel) hW) ?_
    | with_reducible refine Device.endCmd_keeps ?_ ?_ | intro _ _ hq | intro _ | split

def Touch.phcChangeEffect : List Nat :=
  [O.BOOT_PHC_FIRST_SET, O.LOCK, O.GROUP_OWNER, O.GROUP_STATE, O.GROUP_WRITES, O.GROUP_FAIL_ADDRESS, O.GROUP_FLAGS,
  O.SESSION_STATE, O.SESSION_ROLE, O.SESSION_CA, O.SESSION_ID, O.SESSION_LAST_COUNTER, O.RING_ENABLE, O.RING_HEAD,
  O.RING_TAIL, O.RING_STATE, O.RING_COMPLETED, O.RING_REJECTED, O.PHC_CMD, O.PHC_STEP_COUNT, O.PHC_LAST_STEP_AT,
  O.PHC_STATE, O.PHC_UTC_OFFSET, O.PHC_LEAP_AT, O.PHC_LEAP_KIND, O.TIME_HOLD_STATE, O.GUN_STATE, O.GUN_OWNER,
  O.GUN_TARGET_ROW, O.GUN_TIME, O.GUN_SEQ, O.GUN_TAG, O.GUN_TARGET_CYCLE, O.GUN_FIRED_AT, O.GUN_FLAGS,
  O.FLT_SRC_EVENTS, O.FLT_SRC_LAST_AT, O.FLT_LOG_LAST_SEQ, O.FLT_LOG_OVERWRITTEN, O.FLT_EVENT_LOST,
  O.FLT_FIRST_SEVERE, O.FLT_LOG_RECORD, O.TAMPER_LOG_ENTRY, O.TAMPER_LOG_LAST_SEQ, O.TAMPER_LOG_OVERWRITTEN,
  O.TAMPER_FIRST, O.PMC_VALUE, O.PMC_STATUS, F.cyc, F.clk, F.edge, F.out, F.sess, F.groups, F.ring, F.pcieDma,
  F.pciePending, F.pins, F.gunSeq, F.guns, F.faults, F.clsx, F.laps, F.pmc, F.time, F.mon]

theorem Device.phcChangeEffect_keeps {W : List Nat} {a : Device} {d : Device} (hW : Sub Touch.phcChangeEffect W) (h : Keeps W a d) :
    Keeps W a (Device.phcChangeEffect d) := by
  unfold Device.phcChangeEffect
  try dsimp only
  repeat' first
    | with_reducible exact h | with_reducible assumption | with_reducible apply Keeps.ite
    | with_reducible refine Device.passTo_keeps (subT (by decide +kernel) hW) ?_
    | with_reducible refine Device.setClk_keeps (subT (by decide +kernel) hW) ?_
    | with_reducible refine Device.stepped_keeps (subT (by decide +kernel) hW) ?_
    | with_reducible refine Device.phcCmdEnds_keeps (subT (by decide +kernel) hW) ?_
    | with_reducible apply Keeps.ite2 | split

def Touch.slewComplete : List Nat :=
  Touch.advance

theorem Device.slewComplete_keeps {W : List Nat} {a : Device} {d : Device} (hW : Sub Touch.slewComplete W) (h : Keeps W a d) :
    Keeps W a (Device.slewComplete d) := by
  unfold Device.slewComplete
  try dsimp only
  repeat' first
    | with_reducible exact h | with_reducible apply Keeps.ite
    | with_reducible refine Device.passTo_keeps (subT (by decide +kernel) hW) ?_ | split

def Touch.latencyOf : List Nat :=
  [F.draws]

theorem Device.latencyOf_keeps {W : List Nat} {a : Device} {d : Device} {p : Nat} {base : Nat} {tempco : Nat} {phase : Int} (hW : Sub Touch.latencyOf W) (h : Keeps W a d) :
    Keeps W a (Device.latencyOf d p base tempco phase).2 := by
  unfold Device.latencyOf
  try dsimp only
  repeat' first
    | with_reducible exact h | with_reducible refine Device.unstated_keeps (subT (by decide +kernel) hW) ?_

def Touch.setPhase : List Nat :=
  [F.time]

theorem Device.setPhase_keeps {W : List Nat} {a : Device} {d : Device} {p : Nat} {x : Int × Int} (hW : Sub Touch.setPhase W) (h : Keeps W a d) :
    Keeps W a (Device.setPhase d p x) := by
  unfold Device.setPhase
  try dsimp only
  repeat' first
    | with_reducible exact h | with_reducible assumption
    | with_reducible refine Device.setTime_keeps (subT (by decide +kernel) hW) ?_ | intro _ _ hq | intro _

def Touch.refreshLatency : List Nat :=
  [O.TS_RX_LATENCY, O.TS_TX_LATENCY, F.draws]

theorem Device.refreshLatency_keeps {W : List Nat} {a : Device} {d : Device} {p : Nat} (hW : Sub Touch.refreshLatency W) (h : Keeps W a d) :
    Keeps W a (Device.refreshLatency d p) := by
  unfold Device.refreshLatency
  try dsimp only
  repeat' first
    | with_reducible exact h | exact memT (by decide +kernel) hW
    | with_reducible refine Device.latencyOf_keeps (subT (by decide +kernel) hW) ?_
    | with_reducible refine Device.wr_keeps ?_ ?_

def Touch.tsCalCore : List Nat :=
  [O.TS_CAL_CMD]

theorem Device.tsCalCore_keeps {W : List Nat} {a : Device} {r : Req} {p : Nat} {d : Device} (hW : Sub Touch.tsCalCore W) (h : Keeps W a d) :
    Keeps W a (Device.tsCalCore r p d).2 := by
  unfold Device.tsCalCore
  try dsimp only
  repeat' first
    | with_reducible exact h | with_reducible assumption | exact memT (by decide +kernel) hW
    | with_reducible refine Device.runCmd_keeps ?_ ?_ ?_ | intro _ _ hq | intro _

def Touch.tsPhaseMeasured : List Nat :=
  [O.LOCK, O.GROUP_OWNER, O.GROUP_STATE, O.GROUP_WRITES, O.GROUP_FAIL_ADDRESS, O.GROUP_FLAGS, O.SESSION_STATE,
  O.SESSION_ROLE, O.SESSION_CA, O.SESSION_ID, O.SESSION_LAST_COUNTER, O.ROLE_ROOT, O.RING_ENABLE, O.RING_HEAD,
  O.RING_TAIL, O.RING_STATE, O.RING_COMPLETED, O.RING_REJECTED, O.INJECT_REFUSED, O.MODE, O.MODE_CMD,
  O.MODE_ENTERED_AT, O.MODE_CAUSE, O.RUNAHEAD_FALSE_STARTS, O.RUNAHEAD_WASTED_CELLS, O.BANK_DISCARDS,
  O.VAULT_STATE, O.VAULT_HANDLE, O.VAULT_LEVEL, O.VAULT_PURPOSE, O.VAULT_KEY_BITS, O.VAULT_COUNTED,
  O.VAULT_USES_LEFT, O.VAULT_ORIGIN, O.VAULT_PARENT, O.VAULT_CREATED_AT, O.VAULT_ARG_KEY, O.VAULT_CMD,
  O.VAULT_RESULT_HANDLE, O.DRBG_STATE, O.LA_CONTEXTS_BUSY, O.TS_RX_LATENCY, O.TS_TX_LATENCY, O.TS_CAL_CMD,
  O.TS_CAL_AT, O.TS_CAL_OK, O.GUN_STATE, O.GUN_OWNER, O.GUN_FLAGS, O.PORT_TX_FRAMES, O.PORT_TX_BYTES,
  O.PORT_TX_TRUNCATED, O.PORT_FC_TX_XOFF_C0, O.PORT_FC_TX_XOFF_C1, O.PORT_FC_TX_XOFF_C2, O.PORT_FC_TX_XOFF_C3,
  O.PORT_FC_TX_XOFF_C4, O.PORT_FC_TX_XOFF_C5, O.PORT_FC_TX_XOFF_C6, O.PORT_FC_TX_XOFF_C7, O.SC_STATUS, O.SA_STATE,
  O.SA_KEK, O.SA_SLOT, O.SA_FLAGS, O.SA_CHANGED_AT, O.SCSA_SLOT0_ROW, O.SCSA_SLOT1_ROW, O.SCSA_IN_FORCE_AN,
  O.SCSA_ZONE_OPEN, O.SA_STAT_PKTS, O.SA_STAT_OCTETS, O.SA_STAT_PKTS_ENCRYPTED, O.SA_STAT_NOT_VALID,
  O.SA_STAT_COMMIT_LATE, O.SA_STAT_TX_LOST, O.CALLROOM_OCCUPANCY, O.CALLROOM_PEAK, O.QUEUE_OCCUPANCY, O.QUEUE_NODE,
  O.BUFP_USED_CELLS, O.BUF_HEADROOM_USED, O.FLT_SRC_CLASS, O.FLT_SRC_EVENTS, O.FLT_SRC_LAST_AT, O.FLT_STATUS,
  O.FLT_FATAL_SINCE_BOOT, O.FLT_LOG_LAST_SEQ, O.FLT_LOG_OVERWRITTEN, O.FLT_EVENT_LOST, O.FLT_FIRST_SEVERE,
  O.FLT_LOG_RECORD, O.PMC_VALUE, O.PMC_STATUS, O.PEER_KEY, F.mode, F.draws, F.out, F.sess, F.groups, F.ring,
  F.pcieDma, F.pciePending, F.faults, F.vault, F.checkKey, F.storeKey, F.keyTests, F.keyRestart, F.keyScrub,
  F.saRecs, F.saCtxs, F.banks, F.pipe, F.clsx, F.queues, F.nodes, F.pairs, F.ports, F.laps, F.pmc, F.lc, F.time,
  F.la, F.keyScrubFrom, F.keyReseed, F.keyRequests]

theorem Device.tsPhaseMeasured_keeps {W : List Nat} {a : Device} {p : Nat} {ok : Bool} {rx : Int} {tx : Int} {d : Device} (hW : Sub Touch.tsPhaseMeasured W) (h : Keeps W a d) :
    Keeps W a (Device.tsPhaseMeasured p ok rx tx d) := by
  unfold Device.tsPhaseMeasured
  try dsimp only
  repeat' first
    | with_reducible exact h | exact memT (by decide +kernel) hW | with_reducible apply Keeps.ite
    | with_reducible refine Device.setPhase_keeps (subT (by decide +kernel) hW) ?_
    | with_reducible refine Device.refreshLatency_keeps (subT (by decide +kernel) hW) ?_
    | with_reducible refine Device.wr_keeps ?_ ?_ | with_reducible refine Device.endCmd_keeps ?_ ?_
    | with_reducible refine Device.faultUnit_keeps (subT (by decide +kernel) hW) ?_ | split

def Touch.tsRegionTempRead : List Nat :=
  [O.TS_RX_LATENCY, O.TS_TX_LATENCY, O.TS_REGION_TEMP, F.draws]

theorem Device.tsRegionTempRead_keeps {W : List Nat} {a : Device} {p : Nat} {temp : Int} {d : Device} (hW : Sub Touch.tsRegionTempRead W) (h : Keeps W a d) :
    Keeps W a (Device.tsRegionTempRead p temp d) := by
  unfold Device.tsRegionTempRead
  try dsimp only
  repeat' first
    | with_reducible exact h | exact memT (by decide +kernel) hW | with_reducible apply Keeps.ite
    | with_reducible refine Device.wr_keeps ?_ ?_
    | with_reducible refine Device.refreshLatency_keeps (subT (by decide +kernel) hW) ?_ | split

def Touch.ppsRise : List Nat :=
  [F.out, F.pins, F.time]

theorem Device.ppsRise_keeps {W : List Nat} {a : Device} {d : Device} (hW : Sub Touch.ppsRise W) (h : Keeps W a d) :
    Keeps W a (Device.ppsRise d) := by
  unfold Device.ppsRise
  try dsimp only
  repeat' first
    | with_reducible exact h | with_reducible refine Device.setPins_keeps (subT (by decide +kernel) hW) ?_
    | with_reducible refine Device.emit_keeps (subT (by decide +kernel) hW) ?_
    | with_reducible refine Device.setTime_keeps (subT (by decide +kernel) hW) ?_

def Touch.ppsOutEdge : List Nat :=
  [O.PMC_VALUE, O.PMC_STATUS, F.cyc, F.clk, F.out, F.pciePending, F.pins, F.pmc, F.time]

theorem Device.ppsOutEdge_keeps {W : List Nat} {a : Device} {d : Device} (hW : Sub Touch.ppsOutEdge W) (h : Keeps W a d) :
    Keeps W a (Device.ppsOutEdge d) := by
  unfold Device.ppsOutEdge
  try dsimp only
  repeat' first
    | with_reducible exact h | with_reducible apply Keeps.ite
    | with_reducible refine Device.passTo_keeps (subT (by decide +kernel) hW) ?_
    | with_reducible refine Device.setTime_keeps (subT (by decide +kernel) hW) ?_
    | with_reducible refine Device.ppsRise_keeps (subT (by decide +kernel) hW) ?_ | split

def Touch.ppsOutFall : List Nat :=
  Touch.ppsOutEdge

theorem Device.ppsOutFall_keeps {W : List Nat} {a : Device} {d : Device} (hW : Sub Touch.ppsOutFall W) (h : Keeps W a d) :
    Keeps W a (Device.ppsOutFall d) := by
  unfold Device.ppsOutFall
  try dsimp only
  repeat' first
    | with_reducible exact h | with_reducible assumption
    | with_reducible refine Device.passTo_keeps (subT (by decide +kernel) hW) ?_
    | with_reducible refine Device.setTime_keeps (subT (by decide +kernel) hW) ?_
    | with_reducible refine Device.setPins_keeps (subT (by decide +kernel) hW) ?_
    | with_reducible refine Device.emit_keeps (subT (by decide +kernel) hW) ?_ | split

def Touch.todOutMessage : List Nat :=
  [O.PMC_VALUE, O.PMC_STATUS, F.cyc, F.clk, F.out, F.pciePending, F.pmc, F.time]

theorem Device.todOutMessage_keeps {W : List Nat} {a : Device} {d : Device} (hW : Sub Touch.todOutMessage W) (h : Keeps W a d) :
    Keeps W a (Device.todOutMessage d) := by
  unfold Device.todOutMessage
  try dsimp only
  repeat' first
    | with_reducible exact h | with_reducible assumption | with_reducible apply Keeps.ite
    | with_reducible refine Device.passTo_keeps (subT (by decide +kernel) hW) ?_
    | with_reducible refine Device.setTime_keeps (subT (by decide +kernel) hW) ?_
    | with_reducible refine Device.emit_keeps (subT (by decide +kernel) hW) ?_ | split

def Touch.follow : List Nat :=
  [O.PHC_FREQ_ADJ, F.clk, F.draws]

theorem Device.follow_keeps {W : List Nat} {a : Device} {d : Device} {e : Int} (hW : Sub Touch.follow W) (h : Keeps W a d) :
    Keeps W a (Device.follow d e) := by
  unfold Device.follow
  try dsimp only
  repeat' first
    | with_reducible exact h | exact memT (by decide +kernel) hW | with_reducible apply Keeps.ite
    | with_reducible refine Device.phcPend_keeps (subT (by decide +kernel) hW) ?_
    | with_reducible refine Device.unstated_keeps (subT (by decide +kernel) hW) ?_
    | with_reducible refine Device.wr_keeps ?_ ?_ | with_reducible apply Keeps.ite2 | split

def Touch.lockStep : List Nat :=
  [O.TIME_LOCKED, F.time]

theorem Device.lockStep_keeps {W : List Nat} {a : Device} {d : Device} {e : Int} (hW : Sub Touch.lockStep W) (h : Keeps W a d) :
    Keeps W a (Device.lockStep d e) := by
  unfold Device.lockStep
  try dsimp only
  repeat' first
    | with_reducible exact h | exact memT (by decide +kernel) hW | with_reducible apply Keeps.ite
    | with_reducible refine Device.setTime_keeps (subT (by decide +kernel) hW) ?_
    | with_reducible refine Device.wr_keeps ?_ ?_ | split

def Touch.edgeValid : List Nat :=
  [O.PPS_IN_VALID, F.time]

theorem Device.edgeValid_keeps {W : List Nat} {a : Device} {d : Device} (hW : Sub Touch.edgeValid W) (h : Keeps W a d) :
    Keeps W a (Device.edgeValid d) := by
  unfold Device.edgeValid
  try dsimp only
  repeat' first
    | with_reducible exact h | exact memT (by decide +kernel) hW | with_reducible refine Device.wr_keeps ?_ ?_
    | with_reducible refine Device.setTime_keeps (subT (by decide +kernel) hW) ?_

def Touch.edgeInvalid : List Nat :=
  [O.PPS_IN_VALID, F.time]

theorem Device.edgeInvalid_keeps {W : List Nat} {a : Device} {d : Device} (hW : Sub Touch.edgeInvalid W) (h : Keeps W a d) :
    Keeps W a (Device.edgeInvalid d) := by
  unfold Device.edgeInvalid
  try dsimp only
  repeat' first
    | with_reducible exact h | exact memT (by decide +kernel) hW | with_reducible refine Device.wr_keeps ?_ ?_
    | with_reducible refine Device.setTime_keeps (subT (by decide +kernel) hW) ?_

def Touch.edgeError : List Nat :=
  [O.PHC_FREQ_ADJ, O.PPS_IN_ERROR, O.PPS_IN_VALID, O.TIME_LOCKED, F.clk, F.draws, F.time]

theorem Device.edgeError_keeps {W : List Nat} {a : Device} {d : Device} {stamp : Nat} (hW : Sub Touch.edgeError W) (h : Keeps W a d) :
    Keeps W a (Device.edgeError d stamp) := by
  unfold Device.edgeError
  try dsimp only
  repeat' first
    | with_reducible exact h | exact memT (by decide +kernel) hW | with_reducible apply Keeps.ite
    | with_reducible refine Device.wr_keeps ?_ ?_
    | with_reducible refine Device.lockStep_keeps (subT (by decide +kernel) hW) ?_
    | with_reducible refine Device.edgeValid_keeps (subT (by decide +kernel) hW) ?_
    | with_reducible refine Device.follow_keeps (subT (by decide +kernel) hW) ?_ | split

def Touch.ppsInEdge : List Nat :=
  [O.PHC_FREQ_ADJ, O.PPS_IN_STAMP, O.PPS_IN_ERROR, O.PPS_IN_VALID, O.PPS_IN_COUNT, O.PPS_IN_GLITCHES,
  O.TIME_LOCKED, O.PMC_VALUE, O.PMC_STATUS, F.cyc, F.clk, F.draws, F.out, F.pciePending, F.pmc, F.time]

theorem Device.ppsInEdge_keeps {W : List Nat} {a : Device} {stamp : Nat} {d : Device} (hW : Sub Touch.ppsInEdge W) (h : Keeps W a d) :
    Keeps W a (Device.ppsInEdge stamp d) := by
  unfold Device.ppsInEdge
  try dsimp only
  repeat' first
    | with_reducible exact h | with_reducible assumption | exact memT (by decide +kernel) hW
    | with_reducible apply Keeps.ite | with_reducible apply Keeps.elim
    | with_reducible refine Device.passTo_keeps (subT (by decide +kernel) hW) ?_
    | with_reducible refine Device.inc32_keeps ?_ ?_ | with_reducible refine Device.wr_keeps ?_ ?_
    | with_reducible refine Device.setTime_keeps (subT (by decide +kernel) hW) ?_
    | with_reducible refine Device.edgeInvalid_keeps (subT (by decide +kernel) hW) ?_
    | with_reducible refine Device.edgeError_keeps (subT (by decide +kernel) hW) ?_ | intro _ _ hq | intro _ | split

def Touch.todInMessage : List Nat :=
  [O.TOD_IN_SECONDS, O.TOD_IN_ERRORS, F.time]

theorem Device.todInMessage_keeps {W : List Nat} {a : Device} {v : Bytes} {d : Device} (hW : Sub Touch.todInMessage W) (h : Keeps W a d) :
    Keeps W a (Device.todInMessage v d) := by
  unfold Device.todInMessage
  try dsimp only
  repeat' first
    | with_reducible exact h | exact memT (by decide +kernel) hW | with_reducible apply Keeps.ite
    | with_reducible refine Device.inc32_keeps ?_ ?_ | with_reducible refine Device.wr_keeps ?_ ?_
    | with_reducible refine Device.setTime_keeps (subT (by decide +kernel) hW) ?_ | split

def Touch.timeLockTimeout : List Nat :=
  [O.TIME_LOCKED, O.PMC_VALUE, O.PMC_STATUS, F.cyc, F.clk, F.out, F.pciePending, F.pmc, F.time]

theorem Device.timeLockTimeout_keeps {W : List Nat} {a : Device} {d : Device} (hW : Sub Touch.timeLockTimeout W) (h : Keeps W a d) :
    Keeps W a (Device.timeLockTimeout d) := by
  unfold Device.timeLockTimeout
  try dsimp only
  repeat' first
    | with_reducible exact h | with_reducible assumption | exact memT (by decide +kernel) hW
    | with_reducible refine Device.passTo_keeps (subT (by decide +kernel) hW) ?_
    | with_reducible refine Device.wr_keeps ?_ ?_
    | with_reducible refine Device.setTime_keeps (subT (by decide +kernel) hW) ?_ | split

end Sys2Proof.Machine
end

