-- ==== Sys2Proof/Laws/KeepsFaults.lean ====
section
/-!
SUPPORT. The places that each operation of Machine/Faults.lean may change (Laws/Keeps.lean).
-/
set_option Elab.async false
set_option linter.all false
set_option linter.unusedTactic false
set_option linter.unreachableTactic false
set_option linter.style.longLine false
namespace Sys2Proof.Machine

def Touch.recordTaken : List Nat :=
  [O.FLT_SRC_STATE]

theorem Device.recordTaken_keeps {W : List Nat} {a : Device} {d : Device} {src : Nat} (hW : Sub Touch.recordTaken W) (h : Keeps W a d) :
    Keeps W a (Device.recordTaken d src) := by
  unfold Device.recordTaken
  try dsimp only
  repeat' first
    | with_reducible exact h | with_reducible assumption | with_reducible apply Keeps.ite
    | with_reducible refine Device.setSrcState_keeps (subT (by decide +kernel) hW) ?_ | intro _ _ hq | intro _
    | split

def Touch.faultSample : List Nat :=
  [O.LOCK, O.GROUP_OWNER, O.GROUP_STATE, O.GROUP_WRITES, O.GROUP_FAIL_ADDRESS, O.GROUP_FLAGS, O.SESSION_STATE,
  O.SESSION_ROLE, O.SESSION_CA, O.SESSION_ID, O.SESSION_LAST_COUNTER, O.ROLE_ROOT, O.RING_ENABLE, O.RING_HEAD,
  O.RING_TAIL, O.RING_STATE, O.RING_COMPLETED, O.RING_REJECTED, O.INJECT_REFUSED, O.MODE, O.MODE_CMD,
  O.MODE_ENTERED_AT, O.MODE_CAUSE, O.RUNAHEAD_FALSE_STARTS, O.RUNAHEAD_WASTED_CELLS, O.BANK_DISCARDS,
  O.VAULT_STATE, O.VAULT_HANDLE, O.VAULT_LEVEL, O.VAULT_PURPOSE, O.VAULT_KEY_BITS, O.VAULT_COUNTED,
  O.VAULT_USES_LEFT, O.VAULT_ORIGIN, O.VAULT_PARENT, O.VAULT_CREATED_AT, O.VAULT_ARG_KEY, O.VAULT_CMD,
  O.VAULT_RESULT_HANDLE, O.DRBG_STATE, O.LA_CONTEXTS_BUSY, O.GUN_STATE, O.GUN_OWNER, O.GUN_FLAGS, O.PORT_TX_FRAMES,
  O.PORT_TX_BYTES, O.PORT_TX_TRUNCATED, O.PORT_FC_TX_XOFF_C0, O.PORT_FC_TX_XOFF_C1, O.PORT_FC_TX_XOFF_C2,
  O.PORT_FC_TX_XOFF_C3, O.PORT_FC_TX_XOFF_C4, O.PORT_FC_TX_XOFF_C5, O.PORT_FC_TX_XOFF_C6, O.PORT_FC_TX_XOFF_C7,
  O.SC_STATUS, O.SA_STATE, O.SA_KEK, O.SA_SLOT, O.SA_FLAGS, O.SA_CHANGED_AT, O.SCSA_SLOT0_ROW, O.SCSA_SLOT1_ROW,
  O.SCSA_IN_FORCE_AN, O.SCSA_ZONE_OPEN, O.SA_STAT_PKTS, O.SA_STAT_OCTETS, O.SA_STAT_PKTS_ENCRYPTED,
  O.SA_STAT_NOT_VALID, O.SA_STAT_COMMIT_LATE, O.SA_STAT_TX_LOST, O.CALLROOM_OCCUPANCY, O.CALLROOM_PEAK,
  O.QUEUE_OCCUPANCY, O.QUEUE_NODE, O.BUFP_USED_CELLS, O.BUF_HEADROOM_USED, O.FLT_SRC_STATE, O.FLT_SRC_CLASS,
  O.FLT_SRC_EVENTS, O.FLT_SRC_LAST_AT, O.FLT_STATUS, O.FLT_FATAL_SINCE_BOOT, O.FLT_LOG_LAST_SEQ,
  O.FLT_LOG_OVERWRITTEN, O.FLT_EVENT_LOST, O.FLT_FIRST_SEVERE, O.FLT_LOG_RECORD, O.PMC_VALUE, O.PMC_STATUS,
  O.PEER_KEY, F.mode, F.draws, F.out, F.sess, F.groups, F.ring, F.pcieDma, F.pciePending, F.faults, F.vault,
  F.checkKey, F.storeKey, F.keyTests, F.keyRestart, F.keyScrub, F.saRecs, F.saCtxs, F.banks, F.pipe, F.clsx,
  F.queues, F.nodes, F.pairs, F.ports, F.laps, F.pmc, F.lc, F.la, F.keyScrubFrom, F.keyReseed, F.keyRequests]

theorem Device.faultSample_keeps {W : List Nat} {a : Device} {src : Nat} {code : Nat} {base : Nat} {detail : Bytes} {d : Device} (hW : Sub Touch.faultSample W) (h : Keeps W a d) :
    Keeps W a (Device.faultSample src code base detail d) := by
  unfold Device.faultSample
  try dsimp only
  repeat' first
    | with_reducible exact h | with_reducible apply Keeps.ite
    | with_reducible refine Device.note_keeps (subT (by decide +kernel) hW) ?_
    | with_reducible refine Device.recordTaken_keeps (subT (by decide +kernel) hW) ?_
    | with_reducible refine Device.fault_keeps (subT (by decide +kernel) hW) ?_ | split

def Touch.brokenWire : List Nat :=
  Touch.faultSample

theorem Device.brokenWire_keeps {W : List Nat} {a : Device} {src : Nat} {d : Device} (hW : Sub Touch.brokenWire W) (h : Keeps W a d) :
    Keeps W a (Device.brokenWire src d) := by
  unfold Device.brokenWire
  try dsimp only
  repeat' first
    | with_reducible exact h | exact memT (by decide +kernel) hW | with_reducible apply Keeps.ite
    | with_reducible refine Device.wr_keeps ?_ ?_
    | with_reducible refine Device.fault_keeps (subT (by decide +kernel) hW) ?_ | split

def Touch.wireRestored : List Nat :=
  [O.LOCK, O.GROUP_OWNER, O.GROUP_STATE, O.GROUP_WRITES, O.GROUP_FAIL_ADDRESS, O.GROUP_FLAGS, O.SESSION_STATE,
  O.SESSION_ROLE, O.SESSION_CA, O.SESSION_ID, O.SESSION_LAST_COUNTER, O.RING_ENABLE, O.RING_HEAD, O.RING_TAIL,
  O.RING_STATE, O.RING_COMPLETED, O.RING_REJECTED, O.GUN_STATE, O.GUN_OWNER, O.GUN_FLAGS, O.FLT_SRC_STATE,
  O.FLT_SRC_EVENTS, O.FLT_SRC_LAST_AT, O.FLT_LOG_LAST_SEQ, O.FLT_LOG_OVERWRITTEN, O.FLT_EVENT_LOST,
  O.FLT_FIRST_SEVERE, O.FLT_LOG_RECORD, O.PMC_VALUE, O.PMC_STATUS, F.out, F.sess, F.groups, F.ring, F.pcieDma,
  F.pciePending, F.faults, F.clsx, F.pmc]

theorem Device.wireRestored_keeps {W : List Nat} {a : Device} {src : Nat} {fault : Bool} {d : Device} (hW : Sub Touch.wireRestored W) (h : Keeps W a d) :
    Keeps W a (Device.wireRestored src fault d) := by
  unfold Device.wireRestored
  try dsimp only
  repeat' first
    | with_reducible exact h | exact memT (by decide +kernel) hW | with_reducible apply Keeps.ite
    | with_reducible refine Device.wr_keeps ?_ ?_
    | with_reducible refine Device.note_keeps (subT (by decide +kernel) hW) ?_ | split

def Touch.pllLockRegained : List Nat :=
  [O.FLT_SRC_STATE]

theorem Device.pllLockRegained_keeps {W : List Nat} {a : Device} {src : Nat} {d : Device} (hW : Sub Touch.pllLockRegained W) (h : Keeps W a d) :
    Keeps W a (Device.pllLockRegained src d) := by
  unfold Device.pllLockRegained
  try dsimp only
  repeat' first
    | with_reducible exact h | with_reducible apply Keeps.ite
    | with_reducible refine Device.setSrcState_keeps (subT (by decide +kernel) hW) ?_ | split

def Touch.sydinWatchdog : List Nat :=
  Touch.fault

theorem Device.sydinWatchdog_keeps {W : List Nat} {a : Device} {d : Device} (hW : Sub Touch.sydinWatchdog W) (h : Keeps W a d) :
    Keeps W a (Device.sydinWatchdog d) := by
  unfold Device.sydinWatchdog
  try dsimp only
  repeat' first
    | with_reducible exact h | with_reducible apply Keeps.ite
    | with_reducible refine Device.fault_keeps (subT (by decide +kernel) hW) ?_ | split

def Touch.unlatch : List Nat :=
  Touch.holdClasses

theorem Device.unlatch_keeps {W : List Nat} {a : Device} {d : Device} {src : Nat} (hW : Sub Touch.unlatch W) (h : Keeps W a d) :
    Keeps W a (Device.unlatch d src) := by
  unfold Device.unlatch
  try dsimp only
  repeat' first
    | with_reducible exact h | with_reducible refine Device.holdClasses_keeps (subT (by decide +kernel) hW) ?_

def Touch.fltSrcAckCore : List Nat :=
  [O.FLT_SRC_CLASS, O.FLT_SRC_ACK, O.FLT_STATUS, F.faults]

theorem Device.fltSrcAckCore_keeps {W : List Nat} {a : Device} {r : Req} {src : Nat} {d : Device} (hW : Sub Touch.fltSrcAckCore W) (h : Keeps W a d) :
    Keeps W a (Device.fltSrcAckCore r src d).2 := by
  unfold Device.fltSrcAckCore
  try dsimp only
  repeat' first
    | with_reducible exact h | with_reducible assumption | exact memT (by decide +kernel) hW
    | with_reducible refine Device.runCmd_keeps ?_ ?_ ?_
    | with_reducible refine Device.unlatch_keeps (subT (by decide +kernel) hW) ?_ | intro _ _ hq | intro _

def Touch.fltAckAllCore : List Nat :=
  [O.FLT_SRC_CLASS, O.FLT_STATUS, O.FLT_ACK_ALL, F.faults]

theorem Device.fltAckAllCore_keeps {W : List Nat} {a : Device} {r : Req} {d : Device} (hW : Sub Touch.fltAckAllCore W) (h : Keeps W a d) :
    Keeps W a (Device.fltAckAllCore r d).2 := by
  unfold Device.fltAckAllCore
  try dsimp only
  repeat' first
    | with_reducible exact h | with_reducible assumption | exact memT (by decide +kernel) hW
    | with_reducible apply Keeps.foldl | with_reducible refine Device.runCmd_keeps ?_ ?_ ?_
    | with_reducible refine Device.unlatch_keeps (subT (by decide +kernel) hW) ?_ | with_reducible apply Keeps.foldl2
    | intro _ _ hq | intro _

def Touch.popEvent : List Nat :=
  [F.pcieDma]

theorem Device.popEvent_keeps {W : List Nat} {a : Device} {d : Device} {n : Nat} (hW : Sub Touch.popEvent W) (h : Keeps W a d) :
    Keeps W a (Device.popEvent d n) := by
  unfold Device.popEvent
  try dsimp only
  repeat' first
    | with_reducible exact h | with_reducible refine Device.setDma_keeps (subT (by decide +kernel) hW) ?_

def Touch.eventRingDeliver : List Nat :=
  [O.RING_POSITION, O.RING_CRC_ERRORS, O.RING_RETURNED, O.RING_BAD_MESSAGES, O.LOCK, O.GROUP_OWNER, O.GROUP_STATE,
  O.GROUP_WRITES, O.GROUP_FAIL_ADDRESS, O.GROUP_FLAGS, O.SESSION_STATE, O.SESSION_ROLE, O.SESSION_CA, O.SESSION_ID,
  O.SESSION_LAST_COUNTER, O.RING_ENABLE, O.RING_HEAD, O.RING_TAIL, O.RING_STATE, O.RING_COMPLETED, O.RING_REJECTED,
  O.GUN_STATE, O.GUN_OWNER, O.GUN_FLAGS, O.FLT_SRC_EVENTS, O.FLT_SRC_LAST_AT, O.FLT_LOG_LAST_SEQ,
  O.FLT_LOG_OVERWRITTEN, O.FLT_EVENT_LOST, O.FLT_FIRST_SEVERE, O.FLT_LOG_RECORD, O.PMC_VALUE, O.PMC_STATUS, F.out,
  F.sess, F.groups, F.ring, F.pcieDma, F.pciePending, F.pcieServed, F.faults, F.clsx, F.pmc]

theorem Device.eventRingDeliver_keeps {W : List Nat} {a : Device} {n : Nat} {x : Descriptor} {d : Device} (hW : Sub Touch.eventRingDeliver W) (h : Keeps W a d) :
    Keeps W a (Device.eventRingDeliver n x d) := by
  unfold Device.eventRingDeliver
  try dsimp only
  repeat' first
    | with_reducible exact h | with_reducible assumption | with_reducible apply Keeps.ite
    | with_reducible refine Device.eventsExpire_keeps (subT (by decide +kernel) hW) ?_
    | with_reducible refine Device.dmaAdvance_keeps (subT (by decide +kernel) hW) ?_
    | with_reducible refine Device.dmaComplete_keeps (subT (by decide +kernel) hW) ?_
    | with_reducible refine Device.emit_keeps (subT (by decide +kernel) hW) ?_
    | with_reducible refine Device.address_keeps (subT (by decide +kernel) hW) ?_
    | with_reducible refine Device.popEvent_keeps (subT (by decide +kernel) hW) ?_ | split

end Sys2Proof.Machine
end

