-- ==== Sys2Proof/Laws/KeepsCounters.lean ====
section
/-!
SUPPORT. The places that each operation of Machine/Counters.lean may change (Laws/Keeps.lean).
-/
set_option Elab.async false
set_option linter.all false
set_option linter.unusedTactic false
set_option linter.unreachableTactic false
set_option linter.style.longLine false
namespace Sys2Proof.Machine

def Touch.pmcUndue : List Nat :=
  [F.pmc]

theorem Device.pmcUndue_keeps {W : List Nat} {a : Device} {d : Device} {n : Nat} (hW : Sub Touch.pmcUndue W) (h : Keeps W a d) :
    Keeps W a (Device.pmcUndue d n) := by
  unfold Device.pmcUndue
  try dsimp only
  repeat' first
    | with_reducible exact h | with_reducible assumption
    | with_reducible refine Device.setPmc_keeps (subT (by decide +kernel) hW) ?_ | intro _ _ hq | intro _

def Touch.storeSample : List Nat :=
  [O.PMC_STATUS, O.PMC_SAMPLE_DATA, F.pmc]

theorem Device.storeSample_keeps {W : List Nat} {a : Device} {d : Device} {n : Nat} {v : Bytes} (hW : Sub Touch.storeSample W) (h : Keeps W a d) :
    Keeps W a (Device.storeSample d n v) := by
  unfold Device.storeSample
  try dsimp only
  repeat' first
    | with_reducible exact h | exact memT (by decide +kernel) hW | with_reducible apply Keeps.ite
    | with_reducible refine Device.wrBit_keeps ?_ ?_ | with_reducible refine Device.wr_keeps ?_ ?_
    | with_reducible refine Device.setPmc_keeps (subT (by decide +kernel) hW) ?_ | split

def Touch.pmcSampleCapture : List Nat :=
  Touch.storeSample

theorem Device.pmcSampleCapture_keeps {W : List Nat} {a : Device} {n : Nat} {id : Nat} {skid : Nat} {d : Device} (hW : Sub Touch.pmcSampleCapture W) (h : Keeps W a d) :
    Keeps W a (Device.pmcSampleCapture n id skid d) := by
  unfold Device.pmcSampleCapture
  try dsimp only
  repeat' first
    | with_reducible exact h | with_reducible assumption | with_reducible apply Keeps.ite
    | with_reducible refine Device.pmcUndue_keeps (subT (by decide +kernel) hW) ?_
    | with_reducible refine Device.storeSample_keeps (subT (by decide +kernel) hW) ?_ | split

def Touch.pmcSampleTimeout : List Nat :=
  Touch.advance

theorem Device.pmcSampleTimeout_keeps {W : List Nat} {a : Device} {n : Nat} {d : Device} (hW : Sub Touch.pmcSampleTimeout W) (h : Keeps W a d) :
    Keeps W a (Device.pmcSampleTimeout n d) := by
  unfold Device.pmcSampleTimeout
  try dsimp only
  repeat' first
    | with_reducible exact h | with_reducible assumption | with_reducible apply Keeps.elim
    | with_reducible refine Device.passTo_keeps (subT (by decide +kernel) hW) ?_
    | with_reducible refine Device.pmcUndue_keeps (subT (by decide +kernel) hW) ?_ | intro _ _ hq | intro _

def Touch.pmcClockCountWrap : List Nat :=
  Touch.advance

theorem Device.pmcClockCountWrap_keeps {W : List Nat} {a : Device} {n : Nat} {d : Device} (hW : Sub Touch.pmcClockCountWrap W) (h : Keeps W a d) :
    Keeps W a (Device.pmcClockCountWrap n d) := by
  unfold Device.pmcClockCountWrap
  try dsimp only
  repeat' first
    | with_reducible exact h | with_reducible assumption | with_reducible apply Keeps.ite
    | with_reducible apply Keeps.elim | with_reducible refine Device.passTo_keeps (subT (by decide +kernel) hW) ?_
    | intro _ _ hq | intro _ | split

end Sys2Proof.Machine
end

