-- ==== Sys2Proof/Laws/KeepsSa.lean ====
section
/-!
SUPPORT. The places that each operation of Machine/Sa.lean may change (Laws/Keeps.lean).
-/
set_option Elab.async false
set_option linter.all false
set_option linter.unusedTactic false
set_option linter.unreachableTactic false
set_option linter.style.longLine false
namespace Sys2Proof.Machine

def Touch.endHold : List Nat :=
  [O.SC_STATUS, F.saHolds]

theorem Device.endHold_keeps {W : List Nat} {a : Device} {d : Device} {sc : Nat} (hW : Sub Touch.endHold W) (h : Keeps W a d) :
    Keeps W a (Device.endHold d sc) := by
  unfold Device.endHold
  try dsimp only
  repeat' first
    | with_reducible exact h | exact memT (by decide +kernel) hW
    | with_reducible refine Device.setHoldUntil_keeps (subT (by decide +kernel) hW) ?_
    | with_reducible refine Device.wrBit_keeps ?_ ?_

def Touch.saBad : List Nat :=
  [O.LOCK, O.GROUP_OWNER, O.GROUP_STATE, O.GROUP_WRITES, O.GROUP_FAIL_ADDRESS, O.GROUP_FLAGS, O.SESSION_STATE,
  O.SESSION_ROLE, O.SESSION_CA, O.SESSION_ID, O.SESSION_LAST_COUNTER, O.RING_ENABLE, O.RING_HEAD, O.RING_TAIL,
  O.RING_STATE, O.RING_COMPLETED, O.RING_REJECTED, O.GUN_STATE, O.GUN_OWNER, O.GUN_FLAGS, O.SC_STATUS, O.SA_STATE,
  O.SA_FLAGS, O.SA_CHANGED_AT, O.SCSA_IN_FORCE_AN, O.SCSA_ZONE_OPEN, O.FLT_SRC_EVENTS, O.FLT_SRC_LAST_AT,
  O.FLT_LOG_LAST_SEQ, O.FLT_LOG_OVERWRITTEN, O.FLT_EVENT_LOST, O.FLT_FIRST_SEVERE, O.FLT_LOG_RECORD, O.PMC_VALUE,
  O.PMC_STATUS, F.out, F.sess, F.groups, F.ring, F.pcieDma, F.pciePending, F.faults, F.banks, F.clsx, F.pmc]

theorem Device.saBad_keeps {W : List Nat} {a : Device} {d : Device} {pr : Nat} (hW : Sub Touch.saBad W) (h : Keeps W a d) :
    Keeps W a (Device.saBad d pr) := by
  unfold Device.saBad
  try dsimp only
  repeat' first
    | with_reducible exact h | with_reducible assumption | exact memT (by decide +kernel) hW
    | with_reducible apply Keeps.ite | with_reducible apply Keeps.elim
    | with_reducible refine Device.gunCancel_keeps (subT (by decide +kernel) hW) ?_
    | with_reducible refine Device.wrBit_keeps ?_ ?_
    | with_reducible refine Device.setSaState_keeps (subT (by decide +kernel) hW) ?_
    | with_reducible refine Device.wr_keeps ?_ ?_
    | with_reducible refine Device.uncache_keeps (subT (by decide +kernel) hW) ?_
    | with_reducible refine Device.refreshSc_keeps (subT (by decide +kernel) hW) ?_ | intro _ _ hq | intro _ | split

def Touch.ctxFails : List Nat :=
  Touch.vaultFails

theorem Device.ctxFails_keeps {W : List Nat} {a : Device} {d : Device} {slot : Nat} (hW : Sub Touch.ctxFails W) (h : Keeps W a d) :
    Keeps W a (Device.ctxFails d slot) := by
  unfold Device.ctxFails
  try dsimp only
  repeat' first
    | with_reducible exact h | exact memT (by decide +kernel) hW
    | with_reducible refine Device.saBad_keeps (subT (by decide +kernel) hW) ?_
    | with_reducible refine Device.inc32_keeps ?_ ?_
    | with_reducible refine Device.faultUnit_keeps (subT (by decide +kernel) hW) ?_

def Touch.writeRec : List Nat :=
  Touch.fullLine

theorem Device.writeRec_keeps {W : List Nat} {a : Device} {d : Device} {pr : Nat} {x : SaRec} (hW : Sub Touch.writeRec W) (h : Keeps W a d) :
    Keeps W a (Device.writeRec d pr x).2 := by
  unfold Device.writeRec
  try dsimp only
  repeat' first
    | with_reducible exact h | with_reducible apply Keeps.ite
    | with_reducible refine Device.fullLine_keeps (subT (by decide +kernel) hW) ?_
    | with_reducible refine Device.setRec_keeps (subT (by decide +kernel) hW) ?_ | with_reducible apply Keeps.ite2
    | split

theorem Device.fatalResult_keeps {W : List Nat} {a : Device} {was : Bool} {x : Nat × Device} (h : Keeps W a x.2) :
    Keeps W a (Device.fatalResult was x).2 := by
  unfold Device.fatalResult
  try dsimp only
  repeat' first
    | with_reducible exact h | with_reducible apply Keeps.ite | with_reducible apply Keeps.ite2 | split

def Touch.kekUnwrap : List Nat :=
  Touch.vaultFails

theorem Device.kekUnwrap_keeps {W : List Nat} {a : Device} {d : Device} {handle : Nat} {blob : Bytes} (hW : Sub Touch.kekUnwrap W) (h : Keeps W a d) :
    Keeps W a (Device.kekUnwrap d handle blob).2 := by
  unfold Device.kekUnwrap
  try dsimp only
  repeat' first
    | with_reducible exact h | with_reducible assumption | with_reducible apply Keeps.ite
    | with_reducible apply Keeps.elim | with_reducible refine Device.slotUse_keeps (subT (by decide +kernel) hW) ?_
    | with_reducible refine Device.takeUse_keeps (subT (by decide +kernel) hW) ?_ | with_reducible apply Keeps.ite2
    | with_reducible apply Keeps.elim2 | intro _ _ hq | intro _ | split

def Touch.provision : List Nat :=
  [O.LOCK, O.GROUP_OWNER, O.GROUP_STATE, O.GROUP_WRITES, O.GROUP_FAIL_ADDRESS, O.GROUP_FLAGS, O.SESSION_STATE,
  O.SESSION_ROLE, O.SESSION_CA, O.SESSION_ID, O.SESSION_LAST_COUNTER, O.ROLE_ROOT, O.RING_ENABLE, O.RING_HEAD,
  O.RING_TAIL, O.RING_STATE, O.RING_COMPLETED, O.RING_REJECTED, O.INJECT_REFUSED, O.MODE, O.MODE_CMD,
  O.MODE_ENTERED_AT, O.MODE_CAUSE, O.RUNAHEAD_FALSE_STARTS, O.RUNAHEAD_WASTED_CELLS, O.BANK_DISCARDS,
  O.VAULT_STATE, O.VAULT_HANDLE, O.VAULT_LEVEL, O.VAULT_PURPOSE, O.VAULT_KEY_BITS, O.VAULT_COUNTED,
  O.VAULT_USES_LEFT, O.VAULT_ORIGIN, O.VAULT_PARENT, O.VAULT_CREATED_AT, O.VAULT_ARG_KEY, O.VAULT_CMD,
  O.VAULT_RESULT_HANDLE, O.VAULT_CHECK_FAILS, O.DRBG_STATE, O.LA_CONTEXTS_BUSY, O.GUN_STATE, O.GUN_OWNER,
  O.GUN_FLAGS, O.PORT_TX_FRAMES, O.PORT_TX_BYTES, O.PORT_TX_TRUNCATED, O.PORT_FC_TX_XOFF_C0, O.PORT_FC_TX_XOFF_C1,
  O.PORT_FC_TX_XOFF_C2, O.PORT_FC_TX_XOFF_C3, O.PORT_FC_TX_XOFF_C4, O.PORT_FC_TX_XOFF_C5, O.PORT_FC_TX_XOFF_C6,
  O.PORT_FC_TX_XOFF_C7, O.SC_STATUS, O.SA_STATE, O.SA_KEK, O.SA_SLOT, O.SA_FLAGS, O.SA_CHANGED_AT,
  O.SCSA_SLOT0_ROW, O.SCSA_SLOT1_ROW, O.SCSA_IN_FORCE_AN, O.SCSA_ZONE_OPEN, O.SA_STAT_PKTS, O.SA_STAT_OCTETS,
  O.SA_STAT_PKTS_ENCRYPTED, O.SA_STAT_NOT_VALID, O.SA_STAT_COMMIT_LATE, O.SA_STAT_TX_LOST, O.CALLROOM_OCCUPANCY,
  O.CALLROOM_PEAK, O.QUEUE_OCCUPANCY, O.QUEUE_NODE, O.BUFP_USED_CELLS, O.BUF_HEADROOM_USED, O.MEM_NODE_FAILS,
  O.MEM_CTR_READONLY, O.MEM_TREE_HITS, O.MEM_TREE_MISSES, O.FLT_SRC_CLASS, O.FLT_SRC_EVENTS, O.FLT_SRC_LAST_AT,
  O.FLT_STATUS, O.FLT_FATAL_SINCE_BOOT, O.FLT_LOG_LAST_SEQ, O.FLT_LOG_OVERWRITTEN, O.FLT_EVENT_LOST,
  O.FLT_FIRST_SEVERE, O.FLT_LOG_RECORD, O.PMC_VALUE, O.PMC_STATUS, O.PEER_KEY, F.mode, F.draws, F.out, F.sess,
  F.groups, F.ring, F.pcieDma, F.pciePending, F.faults, F.vault, F.checkKey, F.storeKey, F.keyTests, F.keyRestart,
  F.keyScrub, F.saRecs, F.saCtxs, F.banks, F.pipe, F.clsx, F.queues, F.nodes, F.pairs, F.ports, F.laps, F.pmc,
  F.memRest, F.lc, F.la, F.keyScrubFrom, F.keyReseed, F.keyRequests]

theorem Device.provision_keeps {W : List Nat} {a : Device} {d : Device} {pr : Nat} (hW : Sub Touch.provision W) (h : Keeps W a d) :
    Keeps W a (Device.provision d pr).2 := by
  unfold Device.provision
  try dsimp only
  repeat' first
    | with_reducible exact h | exact memT (by decide +kernel) hW | with_reducible apply Keeps.ite
    | with_reducible refine Device.kekUnwrap_keeps (subT (by decide +kernel) hW) ?_
    | with_reducible refine Device.writeRec_keeps (subT (by decide +kernel) hW) ?_
    | with_reducible refine Device.clearStats_keeps (subT (by decide +kernel) hW) ?_
    | with_reducible refine Device.wr_keeps ?_ ?_
    | with_reducible refine Device.setSaState_keeps (subT (by decide +kernel) hW) ?_
    | with_reducible apply Keeps.ite2 | split

def Touch.saProvisionCore : List Nat :=
  [O.LOCK, O.GROUP_OWNER, O.GROUP_STATE, O.GROUP_WRITES, O.GROUP_FAIL_ADDRESS, O.GROUP_FLAGS, O.SESSION_STATE,
  O.SESSION_ROLE, O.SESSION_CA, O.SESSION_ID, O.SESSION_LAST_COUNTER, O.ROLE_ROOT, O.RING_ENABLE, O.RING_HEAD,
  O.RING_TAIL, O.RING_STATE, O.RING_COMPLETED, O.RING_REJECTED, O.INJECT_REFUSED, O.MODE, O.MODE_CMD,
  O.MODE_ENTERED_AT, O.MODE_CAUSE, O.RUNAHEAD_FALSE_STARTS, O.RUNAHEAD_WASTED_CELLS, O.BANK_DISCARDS,
  O.VAULT_STATE, O.VAULT_HANDLE, O.VAULT_LEVEL, O.VAULT_PURPOSE, O.VAULT_KEY_BITS, O.VAULT_COUNTED,
  O.VAULT_USES_LEFT, O.VAULT_ORIGIN, O.VAULT_PARENT, O.VAULT_CREATED_AT, O.VAULT_ARG_KEY, O.VAULT_CMD,
  O.VAULT_RESULT_HANDLE, O.VAULT_CHECK_FAILS, O.DRBG_STATE, O.LA_CONTEXTS_BUSY, O.GUN_STATE, O.GUN_OWNER,
  O.GUN_FLAGS, O.PORT_TX_FRAMES, O.PORT_TX_BYTES, O.PORT_TX_TRUNCATED, O.PORT_FC_TX_XOFF_C0, O.PORT_FC_TX_XOFF_C1,
  O.PORT_FC_TX_XOFF_C2, O.PORT_FC_TX_XOFF_C3, O.PORT_FC_TX_XOFF_C4, O.PORT_FC_TX_XOFF_C5, O.PORT_FC_TX_XOFF_C6,
  O.PORT_FC_TX_XOFF_C7, O.SC_STATUS, O.SA_STATE, O.SA_KEK, O.SA_WRAPPED_SAK, O.SA_CMD, O.SA_SLOT, O.SA_FLAGS,
  O.SA_CHANGED_AT, O.SCSA_SLOT0_ROW, O.SCSA_SLOT1_ROW, O.SCSA_IN_FORCE_AN, O.SCSA_ZONE_OPEN, O.SA_STAT_PKTS,
  O.SA_STAT_OCTETS, O.SA_STAT_PKTS_ENCRYPTED, O.SA_STAT_NOT_VALID, O.SA_STAT_COMMIT_LATE, O.SA_STAT_TX_LOST,
  O.CALLROOM_OCCUPANCY, O.CALLROOM_PEAK, O.QUEUE_OCCUPANCY, O.QUEUE_NODE, O.BUFP_USED_CELLS, O.BUF_HEADROOM_USED,
  O.MEM_NODE_FAILS, O.MEM_CTR_READONLY, O.MEM_TREE_HITS, O.MEM_TREE_MISSES, O.FLT_SRC_CLASS, O.FLT_SRC_EVENTS,
  O.FLT_SRC_LAST_AT, O.FLT_STATUS, O.FLT_FATAL_SINCE_BOOT, O.FLT_LOG_LAST_SEQ, O.FLT_LOG_OVERWRITTEN,
  O.FLT_EVENT_LOST, O.FLT_FIRST_SEVERE, O.FLT_LOG_RECORD, O.PMC_VALUE, O.PMC_STATUS, O.PEER_KEY, F.mode, F.draws,
  F.out, F.sess, F.groups, F.ring, F.pcieDma, F.pciePending, F.faults, F.vault, F.checkKey, F.storeKey, F.keyTests,
  F.keyRestart, F.keyScrub, F.saRecs, F.saCtxs, F.banks, F.pipe, F.clsx, F.queues, F.nodes, F.pairs, F.ports,
  F.laps, F.pmc, F.memRest, F.lc, F.la, F.keyScrubFrom, F.keyReseed, F.keyRequests]

theorem Device.saProvisionCore_keeps {W : List Nat} {a : Device} {r : Req} {pr : Nat} {d : Device} (hW : Sub Touch.saProvisionCore W) (h : Keeps W a d) :
    Keeps W a (Device.saProvisionCore r pr d).2 := by
  unfold Device.saProvisionCore
  try dsimp only
  repeat' first
    | with_reducible exact h | with_reducible assumption | exact memT (by decide +kernel) hW
    | with_reducible refine Device.runCmd_keeps ?_ ?_ ?_ | with_reducible refine Device.fatalResult_keeps ?_
    | with_reducible refine Device.provision_keeps (subT (by decide +kernel) hW) ?_
    | with_reducible refine Device.wrCmd_keeps ?_ (subT (by decide +kernel) hW) ?_ | intro _ _ hq | intro _

def Touch.storeCtx : List Nat :=
  [F.saCtxs]

theorem Device.storeCtx_keeps {W : List Nat} {a : Device} {d : Device} {slot : Nat} {x : SaCtx} (hW : Sub Touch.storeCtx W) (h : Keeps W a d) :
    Keeps W a (Device.storeCtx d slot x) := by
  unfold Device.storeCtx
  try dsimp only
  repeat' first
    | with_reducible exact h | with_reducible refine Device.setCtx_keeps (subT (by decide +kernel) hW) ?_

def Touch.loadSa : List Nat :=
  Touch.readLine

theorem Device.loadSa_keeps {W : List Nat} {a : Device} {d : Device} {pr : Nat} {slot : Nat} (hW : Sub Touch.loadSa W) (h : Keeps W a d) :
    Keeps W a (Device.loadSa d pr slot).2 := by
  unfold Device.loadSa
  try dsimp only
  repeat' first
    | with_reducible exact h | with_reducible assumption | exact memT (by decide +kernel) hW
    | with_reducible apply Keeps.ite | with_reducible refine Device.readLine_keeps (subT (by decide +kernel) hW) ?_
    | with_reducible refine Device.storeCtx_keeps (subT (by decide +kernel) hW) ?_
    | with_reducible refine Device.wr_keeps ?_ ?_
    | with_reducible refine Device.setSaState_keeps (subT (by decide +kernel) hW) ?_
    | with_reducible apply Keeps.ite2 | split

def Touch.saLoadCore : List Nat :=
  [O.LOCK, O.GROUP_OWNER, O.GROUP_STATE, O.GROUP_WRITES, O.GROUP_FAIL_ADDRESS, O.GROUP_FLAGS, O.SESSION_STATE,
  O.SESSION_ROLE, O.SESSION_CA, O.SESSION_ID, O.SESSION_LAST_COUNTER, O.ROLE_ROOT, O.RING_ENABLE, O.RING_HEAD,
  O.RING_TAIL, O.RING_STATE, O.RING_COMPLETED, O.RING_REJECTED, O.INJECT_REFUSED, O.MODE, O.MODE_CMD,
  O.MODE_ENTERED_AT, O.MODE_CAUSE, O.RUNAHEAD_FALSE_STARTS, O.RUNAHEAD_WASTED_CELLS, O.BANK_DISCARDS,
  O.VAULT_STATE, O.VAULT_HANDLE, O.VAULT_LEVEL, O.VAULT_PURPOSE, O.VAULT_KEY_BITS, O.VAULT_COUNTED,
  O.VAULT_USES_LEFT, O.VAULT_ORIGIN, O.VAULT_PARENT, O.VAULT_CREATED_AT, O.VAULT_ARG_KEY, O.VAULT_CMD,
  O.VAULT_RESULT_HANDLE, O.DRBG_STATE, O.LA_CONTEXTS_BUSY, O.GUN_STATE, O.GUN_OWNER, O.GUN_FLAGS, O.PORT_TX_FRAMES,
  O.PORT_TX_BYTES, O.PORT_TX_TRUNCATED, O.PORT_FC_TX_XOFF_C0, O.PORT_FC_TX_XOFF_C1, O.PORT_FC_TX_XOFF_C2,
  O.PORT_FC_TX_XOFF_C3, O.PORT_FC_TX_XOFF_C4, O.PORT_FC_TX_XOFF_C5, O.PORT_FC_TX_XOFF_C6, O.PORT_FC_TX_XOFF_C7,
  O.SC_STATUS, O.SA_STATE, O.SA_KEK, O.SA_CMD, O.SA_SLOT, O.SA_FLAGS, O.SA_CHANGED_AT, O.SCSA_SLOT0_ROW,
  O.SCSA_SLOT1_ROW, O.SCSA_IN_FORCE_AN, O.SCSA_ZONE_OPEN, O.SA_STAT_PKTS, O.SA_STAT_OCTETS,
  O.SA_STAT_PKTS_ENCRYPTED, O.SA_STAT_NOT_VALID, O.SA_STAT_COMMIT_LATE, O.SA_STAT_TX_LOST, O.CALLROOM_OCCUPANCY,
  O.CALLROOM_PEAK, O.QUEUE_OCCUPANCY, O.QUEUE_NODE, O.BUFP_USED_CELLS, O.BUF_HEADROOM_USED, O.MEM_TAG_FAILS,
  O.MEM_NODE_FAILS, O.MEM_CTR_READONLY, O.MEM_POISON_COUNT, O.MEM_TREE_HITS, O.MEM_TREE_MISSES,
  O.MEM_POISON_OFFSET, O.MEM_POISON_AT, O.MEM_POISON_CAUSE, O.FLT_SRC_CLASS, O.FLT_SRC_EVENTS, O.FLT_SRC_LAST_AT,
  O.FLT_STATUS, O.FLT_FATAL_SINCE_BOOT, O.FLT_LOG_LAST_SEQ, O.FLT_LOG_OVERWRITTEN, O.FLT_EVENT_LOST,
  O.FLT_FIRST_SEVERE, O.FLT_LOG_RECORD, O.PMC_VALUE, O.PMC_STATUS, O.PEER_KEY, F.mode, F.draws, F.out, F.sess,
  F.groups, F.ring, F.pcieDma, F.pciePending, F.faults, F.vault, F.checkKey, F.storeKey, F.keyTests, F.keyRestart,
  F.keyScrub, F.saRecs, F.saCtxs, F.banks, F.pipe, F.clsx, F.queues, F.nodes, F.pairs, F.ports, F.laps, F.pmc,
  F.memRest, F.lc, F.la, F.keyScrubFrom, F.keyReseed, F.keyRequests]

theorem Device.saLoadCore_keeps {W : List Nat} {a : Device} {r : Req} {pr : Nat} {d : Device} (hW : Sub Touch.saLoadCore W) (h : Keeps W a d) :
    Keeps W a (Device.saLoadCore r pr d).2 := by
  unfold Device.saLoadCore
  try dsimp only
  repeat' first
    | with_reducible exact h | with_reducible assumption | exact memT (by decide +kernel) hW
    | with_reducible apply Keeps.elim | with_reducible refine Device.runCmd_keeps ?_ ?_ ?_
    | with_reducible refine Device.fatalResult_keeps ?_
    | with_reducible refine Device.loadSa_keeps (subT (by decide +kernel) hW) ?_ | with_reducible apply Keeps.elim2
    | intro _ _ hq | intro _

def Touch.retireActive : List Nat :=
  [O.SA_STATE, O.SA_CHANGED_AT]

theorem Device.retireActive_keeps {W : List Nat} {a : Device} {d : Device} {sc : Nat} (hW : Sub Touch.retireActive W) (h : Keeps W a d) :
    Keeps W a (Device.retireActive d sc) := by
  unfold Device.retireActive
  try dsimp only
  repeat' first
    | with_reducible exact h | with_reducible assumption | with_reducible apply Keeps.elim
    | with_reducible refine Device.setSaState_keeps (subT (by decide +kernel) hW) ?_ | intro _ _ hq | intro _

def Touch.saActivate : List Nat :=
  [O.SC_STATUS, O.SA_STATE, O.SA_CHANGED_AT, O.SCSA_IN_FORCE_AN, O.SCSA_ZONE_OPEN, O.SCSA_HANDOVERS, F.saHolds]

theorem Device.saActivate_keeps {W : List Nat} {a : Device} {d : Device} {pr : Nat} (hW : Sub Touch.saActivate W) (h : Keeps W a d) :
    Keeps W a (Device.saActivate d pr) := by
  unfold Device.saActivate
  try dsimp only
  repeat' first
    | with_reducible exact h | exact memT (by decide +kernel) hW
    | with_reducible refine Device.retireActive_keeps (subT (by decide +kernel) hW) ?_
    | with_reducible refine Device.setSaState_keeps (subT (by decide +kernel) hW) ?_
    | with_reducible refine Device.wr_keeps ?_ ?_
    | with_reducible refine Device.setHoldUntil_keeps (subT (by decide +kernel) hW) ?_
    | with_reducible refine Device.inc32_keeps ?_ ?_
    | with_reducible refine Device.refreshSc_keeps (subT (by decide +kernel) hW) ?_

def Touch.copyFire : List Nat :=
  [O.SA_FLAGS]

theorem Device.copyFire_keeps {W : List Nat} {a : Device} {d : Device} {pr : Nat} {late : Bool} {stepped : Bool} (hW : Sub Touch.copyFire W) (h : Keeps W a d) :
    Keeps W a (Device.copyFire d pr late stepped) := by
  unfold Device.copyFire
  try dsimp only
  repeat' first
    | with_reducible exact h | exact memT (by decide +kernel) hW | with_reducible refine Device.wrBit_keeps ?_ ?_

def Touch.txHandover : List Nat :=
  [O.SC_STATUS, O.SA_STATE, O.SA_FLAGS, O.SA_CHANGED_AT, O.SCSA_IN_FORCE_AN, O.SCSA_ZONE_OPEN, O.SCSA_HANDOVERS,
  F.saHolds]

theorem Device.txHandover_keeps {W : List Nat} {a : Device} {d : Device} {sc : Nat} {late : Bool} {stepped : Bool} (hW : Sub Touch.txHandover W) (h : Keeps W a d) :
    Keeps W a (Device.txHandover d sc late stepped) := by
  unfold Device.txHandover
  try dsimp only
  repeat' first
    | with_reducible exact h | with_reducible assumption | with_reducible apply Keeps.elim
    | with_reducible refine Device.copyFire_keeps (subT (by decide +kernel) hW) ?_
    | with_reducible refine Device.saActivate_keeps (subT (by decide +kernel) hW) ?_ | intro _ _ hq | intro _

def Touch.zoneEnd : List Nat :=
  [O.LOCK, O.GROUP_OWNER, O.GROUP_STATE, O.GROUP_WRITES, O.GROUP_FAIL_ADDRESS, O.GROUP_FLAGS, O.SESSION_STATE,
  O.SESSION_ROLE, O.SESSION_CA, O.SESSION_ID, O.SESSION_LAST_COUNTER, O.RING_ENABLE, O.RING_HEAD, O.RING_TAIL,
  O.RING_STATE, O.RING_COMPLETED, O.RING_REJECTED, O.GUN_STATE, O.GUN_OWNER, O.GUN_FLAGS, O.SC_STATUS, O.SA_STATE,
  O.SA_FLAGS, O.SA_CHANGED_AT, O.SCSA_IN_FORCE_AN, O.SCSA_ZONE_OPEN, O.SCSA_HANDOVERS, O.FLT_SRC_EVENTS,
  O.FLT_SRC_LAST_AT, O.FLT_LOG_LAST_SEQ, O.FLT_LOG_OVERWRITTEN, O.FLT_EVENT_LOST, O.FLT_FIRST_SEVERE,
  O.FLT_LOG_RECORD, O.PMC_VALUE, O.PMC_STATUS, F.out, F.sess, F.groups, F.ring, F.pcieDma, F.pciePending, F.faults,
  F.saHolds, F.clsx, F.pmc]

theorem Device.zoneEnd_keeps {W : List Nat} {a : Device} {d : Device} {sc : Nat} {late : Bool} {stepped : Bool} (hW : Sub Touch.zoneEnd W) (h : Keeps W a d) :
    Keeps W a (Device.zoneEnd d sc late stepped) := by
  unfold Device.zoneEnd
  try dsimp only
  repeat' first
    | with_reducible exact h | with_reducible assumption | exact memT (by decide +kernel) hW
    | with_reducible apply Keeps.elim | with_reducible refine Device.copyFire_keeps (subT (by decide +kernel) hW) ?_
    | with_reducible refine Device.saActivate_keeps (subT (by decide +kernel) hW) ?_
    | with_reducible refine Device.wrBit_keeps ?_ ?_
    | with_reducible refine Device.note_keeps (subT (by decide +kernel) hW) ?_ | intro _ _ hq | intro _ | split

def Touch.earlyHandover : List Nat :=
  Touch.zoneEnd

theorem Device.earlyHandover_keeps {W : List Nat} {a : Device} {d : Device} {sc : Nat} (hW : Sub Touch.earlyHandover W) (h : Keeps W a d) :
    Keeps W a (Device.earlyHandover d sc) := by
  unfold Device.earlyHandover
  try dsimp only
  repeat' first
    | with_reducible exact h | with_reducible assumption | exact memT (by decide +kernel) hW
    | with_reducible apply Keeps.ite | with_reducible apply Keeps.elim
    | with_reducible refine Device.gunCancel_keeps (subT (by decide +kernel) hW) ?_
    | with_reducible refine Device.wrBit_keeps ?_ ?_
    | with_reducible refine Device.saActivate_keeps (subT (by decide +kernel) hW) ?_ | intro _ _ hq | intro _ | split

def Touch.armSa : List Nat :=
  [O.LOCK, O.GROUP_OWNER, O.GROUP_STATE, O.GROUP_WRITES, O.GROUP_FAIL_ADDRESS, O.GROUP_FLAGS, O.SESSION_STATE,
  O.SESSION_ROLE, O.SESSION_CA, O.SESSION_ID, O.SESSION_LAST_COUNTER, O.RING_ENABLE, O.RING_HEAD, O.RING_TAIL,
  O.RING_STATE, O.RING_COMPLETED, O.RING_REJECTED, O.GUN_STATE, O.GUN_OWNER, O.GUN_TARGET_ROW, O.GUN_TIME,
  O.GUN_SEQ, O.GUN_TAG, O.GUN_TARGET_CYCLE, O.GUN_FIRED_AT, O.GUN_FLAGS, O.SC_STATUS, O.SA_STATE, O.SA_CHANGED_AT,
  O.SCSA_IN_FORCE_AN, O.SCSA_ZONE_OPEN, O.SCSA_HANDOVERS, O.FLT_SRC_EVENTS, O.FLT_SRC_LAST_AT, O.FLT_LOG_LAST_SEQ,
  O.FLT_LOG_OVERWRITTEN, O.FLT_EVENT_LOST, O.FLT_FIRST_SEVERE, O.FLT_LOG_RECORD, O.PMC_VALUE, O.PMC_STATUS, F.out,
  F.sess, F.groups, F.ring, F.pcieDma, F.pciePending, F.gunSeq, F.guns, F.faults, F.saHolds, F.clsx, F.pmc]

theorem Device.armSa_keeps {W : List Nat} {a : Device} {d : Device} {pr : Nat} (hW : Sub Touch.armSa W) (h : Keeps W a d) :
    Keeps W a (Device.armSa d pr) := by
  unfold Device.armSa
  try dsimp only
  repeat' first
    | with_reducible exact h | with_reducible assumption | with_reducible apply Keeps.ite
    | with_reducible apply Keeps.elim
    | with_reducible refine Device.saActivate_keeps (subT (by decide +kernel) hW) ?_
    | with_reducible refine Device.setSaState_keeps (subT (by decide +kernel) hW) ?_
    | with_reducible refine Device.gunTake_keeps (subT (by decide +kernel) hW) ?_
    | with_reducible refine Device.refreshSc_keeps (subT (by decide +kernel) hW) ?_ | intro _ _ hq | intro _ | split

def Touch.saArmCore : List Nat :=
  [O.LOCK, O.GROUP_OWNER, O.GROUP_STATE, O.GROUP_WRITES, O.GROUP_FAIL_ADDRESS, O.GROUP_FLAGS, O.SESSION_STATE,
  O.SESSION_ROLE, O.SESSION_CA, O.SESSION_ID, O.SESSION_LAST_COUNTER, O.RING_ENABLE, O.RING_HEAD, O.RING_TAIL,
  O.RING_STATE, O.RING_COMPLETED, O.RING_REJECTED, O.GUN_STATE, O.GUN_OWNER, O.GUN_TARGET_ROW, O.GUN_TIME,
  O.GUN_SEQ, O.GUN_TAG, O.GUN_TARGET_CYCLE, O.GUN_FIRED_AT, O.GUN_FLAGS, O.SC_STATUS, O.SA_STATE, O.SA_CMD,
  O.SA_CHANGED_AT, O.SCSA_IN_FORCE_AN, O.SCSA_ZONE_OPEN, O.SCSA_HANDOVERS, O.FLT_SRC_EVENTS, O.FLT_SRC_LAST_AT,
  O.FLT_LOG_LAST_SEQ, O.FLT_LOG_OVERWRITTEN, O.FLT_EVENT_LOST, O.FLT_FIRST_SEVERE, O.FLT_LOG_RECORD, O.PMC_VALUE,
  O.PMC_STATUS, F.out, F.sess, F.groups, F.ring, F.pcieDma, F.pciePending, F.gunSeq, F.guns, F.faults, F.saHolds,
  F.clsx, F.pmc]

theorem Device.saArmCore_keeps {W : List Nat} {a : Device} {r : Req} {pr : Nat} {d : Device} (hW : Sub Touch.saArmCore W) (h : Keeps W a d) :
    Keeps W a (Device.saArmCore r pr d).2 := by
  unfold Device.saArmCore
  try dsimp only
  repeat' first
    | with_reducible exact h | with_reducible assumption | exact memT (by decide +kernel) hW
    | with_reducible refine Device.runCmd_keeps ?_ ?_ ?_
    | with_reducible refine Device.armSa_keeps (subT (by decide +kernel) hW) ?_ | intro _ _ hq | intro _

def Touch.cancelSa : List Nat :=
  [O.LOCK, O.GROUP_OWNER, O.GROUP_STATE, O.GROUP_WRITES, O.GROUP_FAIL_ADDRESS, O.GROUP_FLAGS, O.SESSION_STATE,
  O.SESSION_ROLE, O.SESSION_CA, O.SESSION_ID, O.SESSION_LAST_COUNTER, O.RING_ENABLE, O.RING_HEAD, O.RING_TAIL,
  O.RING_STATE, O.RING_COMPLETED, O.RING_REJECTED, O.GUN_STATE, O.GUN_OWNER, O.GUN_FLAGS, O.SC_STATUS, O.SA_STATE,
  O.SA_CHANGED_AT, O.SCSA_ZONE_OPEN, O.FLT_SRC_EVENTS, O.FLT_SRC_LAST_AT, O.FLT_LOG_LAST_SEQ,
  O.FLT_LOG_OVERWRITTEN, O.FLT_EVENT_LOST, O.FLT_FIRST_SEVERE, O.FLT_LOG_RECORD, O.PMC_VALUE, O.PMC_STATUS, F.out,
  F.sess, F.groups, F.ring, F.pcieDma, F.pciePending, F.faults, F.clsx, F.pmc]

theorem Device.cancelSa_keeps {W : List Nat} {a : Device} {d : Device} {pr : Nat} (hW : Sub Touch.cancelSa W) (h : Keeps W a d) :
    Keeps W a (Device.cancelSa d pr) := by
  unfold Device.cancelSa
  try dsimp only
  repeat' first
    | with_reducible exact h | with_reducible assumption | with_reducible apply Keeps.ite
    | with_reducible apply Keeps.elim | with_reducible refine Device.gunCancel_keeps (subT (by decide +kernel) hW) ?_
    | with_reducible refine Device.setSaState_keeps (subT (by decide +kernel) hW) ?_
    | with_reducible refine Device.refreshSc_keeps (subT (by decide +kernel) hW) ?_ | intro _ _ hq | intro _ | split

def Touch.saCancelCore : List Nat :=
  [O.LOCK, O.GROUP_OWNER, O.GROUP_STATE, O.GROUP_WRITES, O.GROUP_FAIL_ADDRESS, O.GROUP_FLAGS, O.SESSION_STATE,
  O.SESSION_ROLE, O.SESSION_CA, O.SESSION_ID, O.SESSION_LAST_COUNTER, O.RING_ENABLE, O.RING_HEAD, O.RING_TAIL,
  O.RING_STATE, O.RING_COMPLETED, O.RING_REJECTED, O.GUN_STATE, O.GUN_OWNER, O.GUN_FLAGS, O.SC_STATUS, O.SA_STATE,
  O.SA_CMD, O.SA_CHANGED_AT, O.SCSA_ZONE_OPEN, O.FLT_SRC_EVENTS, O.FLT_SRC_LAST_AT, O.FLT_LOG_LAST_SEQ,
  O.FLT_LOG_OVERWRITTEN, O.FLT_EVENT_LOST, O.FLT_FIRST_SEVERE, O.FLT_LOG_RECORD, O.PMC_VALUE, O.PMC_STATUS, F.out,
  F.sess, F.groups, F.ring, F.pcieDma, F.pciePending, F.faults, F.clsx, F.pmc]

theorem Device.saCancelCore_keeps {W : List Nat} {a : Device} {r : Req} {pr : Nat} {d : Device} (hW : Sub Touch.saCancelCore W) (h : Keeps W a d) :
    Keeps W a (Device.saCancelCore r pr d).2 := by
  unfold Device.saCancelCore
  try dsimp only
  repeat' first
    | with_reducible exact h | with_reducible assumption | exact memT (by decide +kernel) hW
    | with_reducible refine Device.runCmd_keeps ?_ ?_ ?_
    | with_reducible refine Device.cancelSa_keeps (subT (by decide +kernel) hW) ?_ | intro _ _ hq | intro _

def Touch.leaveForce : List Nat :=
  [O.SCSA_IN_FORCE_AN]

theorem Device.leaveForce_keeps {W : List Nat} {a : Device} {d : Device} {pr : Nat} (hW : Sub Touch.leaveForce W) (h : Keeps W a d) :
    Keeps W a (Device.leaveForce d pr) := by
  unfold Device.leaveForce
  try dsimp only
  repeat' first
    | with_reducible exact h | exact memT (by decide +kernel) hW | with_reducible apply Keeps.ite
    | with_reducible refine Device.wr_keeps ?_ ?_ | split

def Touch.retireBad : List Nat :=
  [O.SC_STATUS, O.SA_STATE, O.SA_SLOT, O.SA_CHANGED_AT, O.SCSA_SLOT0_ROW, O.SCSA_SLOT1_ROW, O.SCSA_IN_FORCE_AN,
  O.SCSA_ZONE_OPEN, F.saCtxs, F.banks]

theorem Device.retireBad_keeps {W : List Nat} {a : Device} {d : Device} {pr : Nat} (hW : Sub Touch.retireBad W) (h : Keeps W a d) :
    Keeps W a (Device.retireBad d pr) := by
  unfold Device.retireBad
  try dsimp only
  repeat' first
    | with_reducible exact h | with_reducible apply Keeps.ite
    | with_reducible refine Device.leaveForce_keeps (subT (by decide +kernel) hW) ?_
    | with_reducible refine Device.setSaState_keeps (subT (by decide +kernel) hW) ?_
    | with_reducible refine Device.refreshSc_keeps (subT (by decide +kernel) hW) ?_
    | with_reducible refine Device.freeSaSlot_keeps (subT (by decide +kernel) hW) ?_ | split

def Touch.retireSa : List Nat :=
  Touch.retireBad

theorem Device.retireSa_keeps {W : List Nat} {a : Device} {d : Device} {pr : Nat} (hW : Sub Touch.retireSa W) (h : Keeps W a d) :
    Keeps W a (Device.retireSa d pr) := by
  unfold Device.retireSa
  try dsimp only
  repeat' first
    | with_reducible exact h | with_reducible apply Keeps.ite
    | with_reducible refine Device.retireBad_keeps (subT (by decide +kernel) hW) ?_
    | with_reducible refine Device.leaveForce_keeps (subT (by decide +kernel) hW) ?_
    | with_reducible refine Device.setSaState_keeps (subT (by decide +kernel) hW) ?_
    | with_reducible refine Device.refreshSc_keeps (subT (by decide +kernel) hW) ?_ | split

def Touch.saRetireCore : List Nat :=
  [O.SC_STATUS, O.SA_STATE, O.SA_CMD, O.SA_SLOT, O.SA_CHANGED_AT, O.SCSA_SLOT0_ROW, O.SCSA_SLOT1_ROW,
  O.SCSA_IN_FORCE_AN, O.SCSA_ZONE_OPEN, F.saCtxs, F.banks]

theorem Device.saRetireCore_keeps {W : List Nat} {a : Device} {r : Req} {pr : Nat} {d : Device} (hW : Sub Touch.saRetireCore W) (h : Keeps W a d) :
    Keeps W a (Device.saRetireCore r pr d).2 := by
  unfold Device.saRetireCore
  try dsimp only
  repeat' first
    | with_reducible exact h | with_reducible assumption | exact memT (by decide +kernel) hW
    | with_reducible refine Device.runCmd_keeps ?_ ?_ ?_
    | with_reducible refine Device.retireSa_keeps (subT (by decide +kernel) hW) ?_ | intro _ _ hq | intro _

def Touch.unloadSa : List Nat :=
  Touch.retireBad

theorem Device.unloadSa_keeps {W : List Nat} {a : Device} {d : Device} {pr : Nat} (hW : Sub Touch.unloadSa W) (h : Keeps W a d) :
    Keeps W a (Device.unloadSa d pr) := by
  unfold Device.unloadSa
  try dsimp only
  repeat' first
    | with_reducible exact h | with_reducible apply Keeps.ite
    | with_reducible refine Device.retireBad_keeps (subT (by decide +kernel) hW) ?_
    | with_reducible refine Device.freeSaSlot_keeps (subT (by decide +kernel) hW) ?_
    | with_reducible refine Device.setSaState_keeps (subT (by decide +kernel) hW) ?_ | split

def Touch.saUnloadCore : List Nat :=
  Touch.saRetireCore

theorem Device.saUnloadCore_keeps {W : List Nat} {a : Device} {r : Req} {pr : Nat} {d : Device} (hW : Sub Touch.saUnloadCore W) (h : Keeps W a d) :
    Keeps W a (Device.saUnloadCore r pr d).2 := by
  unfold Device.saUnloadCore
  try dsimp only
  repeat' first
    | with_reducible exact h | with_reducible assumption | exact memT (by decide +kernel) hW
    | with_reducible refine Device.runCmd_keeps ?_ ?_ ?_
    | with_reducible refine Device.unloadSa_keeps (subT (by decide +kernel) hW) ?_ | intro _ _ hq | intro _

def Touch.releaseSa : List Nat :=
  Touch.fullLine

theorem Device.releaseSa_keeps {W : List Nat} {a : Device} {d : Device} {pr : Nat} (hW : Sub Touch.releaseSa W) (h : Keeps W a d) :
    Keeps W a (Device.releaseSa d pr) := by
  unfold Device.releaseSa
  try dsimp only
  repeat' first
    | with_reducible exact h | with_reducible refine Device.writeRec_keeps (subT (by decide +kernel) hW) ?_
    | with_reducible refine Device.setRec_keeps (subT (by decide +kernel) hW) ?_
    | with_reducible refine Device.clearStats_keeps (subT (by decide +kernel) hW) ?_
    | with_reducible refine Device.setSaState_keeps (subT (by decide +kernel) hW) ?_

def Touch.saReleaseCore : List Nat :=
  [O.LOCK, O.GROUP_OWNER, O.GROUP_STATE, O.GROUP_WRITES, O.GROUP_FAIL_ADDRESS, O.GROUP_FLAGS, O.SESSION_STATE,
  O.SESSION_ROLE, O.SESSION_CA, O.SESSION_ID, O.SESSION_LAST_COUNTER, O.ROLE_ROOT, O.RING_ENABLE, O.RING_HEAD,
  O.RING_TAIL, O.RING_STATE, O.RING_COMPLETED, O.RING_REJECTED, O.INJECT_REFUSED, O.MODE, O.MODE_CMD,
  O.MODE_ENTERED_AT, O.MODE_CAUSE, O.RUNAHEAD_FALSE_STARTS, O.RUNAHEAD_WASTED_CELLS, O.BANK_DISCARDS,
  O.VAULT_STATE, O.VAULT_HANDLE, O.VAULT_LEVEL, O.VAULT_PURPOSE, O.VAULT_KEY_BITS, O.VAULT_COUNTED,
  O.VAULT_USES_LEFT, O.VAULT_ORIGIN, O.VAULT_PARENT, O.VAULT_CREATED_AT, O.VAULT_ARG_KEY, O.VAULT_CMD,
  O.VAULT_RESULT_HANDLE, O.DRBG_STATE, O.LA_CONTEXTS_BUSY, O.GUN_STATE, O.GUN_OWNER, O.GUN_FLAGS, O.PORT_TX_FRAMES,
  O.PORT_TX_BYTES, O.PORT_TX_TRUNCATED, O.PORT_FC_TX_XOFF_C0, O.PORT_FC_TX_XOFF_C1, O.PORT_FC_TX_XOFF_C2,
  O.PORT_FC_TX_XOFF_C3, O.PORT_FC_TX_XOFF_C4, O.PORT_FC_TX_XOFF_C5, O.PORT_FC_TX_XOFF_C6, O.PORT_FC_TX_XOFF_C7,
  O.SC_STATUS, O.SA_STATE, O.SA_KEK, O.SA_CMD, O.SA_SLOT, O.SA_FLAGS, O.SA_CHANGED_AT, O.SCSA_SLOT0_ROW,
  O.SCSA_SLOT1_ROW, O.SCSA_IN_FORCE_AN, O.SCSA_ZONE_OPEN, O.SA_STAT_PKTS, O.SA_STAT_OCTETS,
  O.SA_STAT_PKTS_ENCRYPTED, O.SA_STAT_NOT_VALID, O.SA_STAT_COMMIT_LATE, O.SA_STAT_TX_LOST, O.CALLROOM_OCCUPANCY,
  O.CALLROOM_PEAK, O.QUEUE_OCCUPANCY, O.QUEUE_NODE, O.BUFP_USED_CELLS, O.BUF_HEADROOM_USED, O.MEM_NODE_FAILS,
  O.MEM_CTR_READONLY, O.MEM_TREE_HITS, O.MEM_TREE_MISSES, O.FLT_SRC_CLASS, O.FLT_SRC_EVENTS, O.FLT_SRC_LAST_AT,
  O.FLT_STATUS, O.FLT_FATAL_SINCE_BOOT, O.FLT_LOG_LAST_SEQ, O.FLT_LOG_OVERWRITTEN, O.FLT_EVENT_LOST,
  O.FLT_FIRST_SEVERE, O.FLT_LOG_RECORD, O.PMC_VALUE, O.PMC_STATUS, O.PEER_KEY, F.mode, F.draws, F.out, F.sess,
  F.groups, F.ring, F.pcieDma, F.pciePending, F.faults, F.vault, F.checkKey, F.storeKey, F.keyTests, F.keyRestart,
  F.keyScrub, F.saRecs, F.saCtxs, F.banks, F.pipe, F.clsx, F.queues, F.nodes, F.pairs, F.ports, F.laps, F.pmc,
  F.memRest, F.lc, F.la, F.keyScrubFrom, F.keyReseed, F.keyRequests]

theorem Device.saReleaseCore_keeps {W : List Nat} {a : Device} {r : Req} {pr : Nat} {d : Device} (hW : Sub Touch.saReleaseCore W) (h : Keeps W a d) :
    Keeps W a (Device.saReleaseCore r pr d).2 := by
  unfold Device.saReleaseCore
  try dsimp only
  repeat' first
    | with_reducible exact h | with_reducible assumption | exact memT (by decide +kernel) hW
    | with_reducible refine Device.runCmd_keeps ?_ ?_ ?_
    | with_reducible refine Device.releaseSa_keeps (subT (by decide +kernel) hW) ?_ | intro _ _ hq | intro _

def Touch.saDrained : List Nat :=
  [O.SC_STATUS, O.SA_STATE, O.SA_SLOT, O.SA_CHANGED_AT, O.SCSA_SLOT0_ROW, O.SCSA_SLOT1_ROW, O.SCSA_ZONE_OPEN,
  F.saCtxs, F.banks]

theorem Device.saDrained_keeps {W : List Nat} {a : Device} {pr : Nat} {d : Device} (hW : Sub Touch.saDrained W) (h : Keeps W a d) :
    Keeps W a (Device.saDrained pr d) := by
  unfold Device.saDrained
  try dsimp only
  repeat' first
    | with_reducible exact h | with_reducible assumption | with_reducible apply Keeps.ite
    | with_reducible apply Keeps.foldl
    | with_reducible refine Device.freeSlotOf_keeps (subT (by decide +kernel) hW) ?_
    | with_reducible refine Device.freeSaSlot_keeps (subT (by decide +kernel) hW) ?_
    | with_reducible refine Device.setSaState_keeps (subT (by decide +kernel) hW) ?_
    | with_reducible refine Device.refreshSc_keeps (subT (by decide +kernel) hW) ?_ | intro _ _ hq | intro _ | split

end Sys2Proof.Machine
end

