-- ==== Sys2Proof/Laws/KeepsVault.lean ====
section
/-!
SUPPORT. The places that each operation of Machine/Vault.lean may change (Laws/Keeps.lean).
-/
set_option Elab.async false
set_option linter.all false
set_option linter.unusedTactic false
set_option linter.unreachableTactic false
set_option linter.style.longLine false
namespace Sys2Proof.Machine

def Touch.importStore : List Nat :=
  [O.VAULT_STATE, O.VAULT_HANDLE, O.VAULT_LEVEL, O.VAULT_PURPOSE, O.VAULT_KEY_BITS, O.VAULT_COUNTED,
  O.VAULT_USES_LEFT, O.VAULT_ORIGIN, O.VAULT_PARENT, O.VAULT_CREATED_AT, O.VAULT_RESULT_HANDLE,
  O.LA_RANDOM_IV_JOBS, F.vault]

theorem Device.importStore_keeps {W : List Nat} {a : Device} {d : Device} {s : Nat} {k : Nat} {p : Bytes} (hW : Sub Touch.importStore W) (h : Keeps W a d) :
    Keeps W a (Device.importStore d s k p) := by
  unfold Device.importStore
  try dsimp only
  repeat' first
    | with_reducible exact h | exact memT (by decide +kernel) hW | with_reducible apply Keeps.ite
    | with_reducible refine Device.fillSlot_keeps (subT (by decide +kernel) hW) ?_
    | with_reducible refine Device.wr_keeps ?_ ?_ | split

def Touch.importKey : List Nat :=
  [O.LOCK, O.GROUP_OWNER, O.GROUP_STATE, O.GROUP_WRITES, O.GROUP_FAIL_ADDRESS, O.GROUP_FLAGS, O.SESSION_STATE,
  O.SESSION_ROLE, O.SESSION_CA, O.SESSION_ID, O.SESSION_LAST_COUNTER, O.ROLE_ROOT, O.RING_ENABLE, O.RING_HEAD,
  O.RING_TAIL, O.RING_STATE, O.RING_COMPLETED, O.RING_REJECTED, O.INJECT_REFUSED, O.MODE, O.MODE_CMD,
  O.MODE_ENTERED_AT, O.MODE_CAUSE, O.RUNAHEAD_FALSE_STARTS, O.RUNAHEAD_WASTED_CELLS, O.BANK_DISCARDS,
  O.VAULT_STATE, O.VAULT_HANDLE, O.VAULT_LEVEL, O.VAULT_PURPOSE, O.VAULT_KEY_BITS, O.VAULT_COUNTED,
  O.VAULT_USES_LEFT, O.VAULT_ORIGIN, O.VAULT_PARENT, O.VAULT_CREATED_AT, O.VAULT_ARG_KEY, O.VAULT_CMD,
  O.VAULT_RESULT_HANDLE, O.VAULT_CHECK_FAILS, O.DRBG_STATE, O.LA_CONTEXTS_BUSY, O.LA_RANDOM_IV_JOBS, O.GUN_STATE,
  O.GUN_OWNER, O.GUN_FLAGS, O.PORT_TX_FRAMES, O.PORT_TX_BYTES, O.PORT_TX_TRUNCATED, O.PORT_FC_TX_XOFF_C0,
  O.PORT_FC_TX_XOFF_C1, O.PORT_FC_TX_XOFF_C2, O.PORT_FC_TX_XOFF_C3, O.PORT_FC_TX_XOFF_C4, O.PORT_FC_TX_XOFF_C5,
  O.PORT_FC_TX_XOFF_C6, O.PORT_FC_TX_XOFF_C7, O.SC_STATUS, O.SA_STATE, O.SA_KEK, O.SA_SLOT, O.SA_FLAGS,
  O.SA_CHANGED_AT, O.SCSA_SLOT0_ROW, O.SCSA_SLOT1_ROW, O.SCSA_IN_FORCE_AN, O.SCSA_ZONE_OPEN, O.SA_STAT_PKTS,
  O.SA_STAT_OCTETS, O.SA_STAT_PKTS_ENCRYPTED, O.SA_STAT_NOT_VALID, O.SA_STAT_COMMIT_LATE, O.SA_STAT_TX_LOST,
  O.CALLROOM_OCCUPANCY, O.CALLROOM_PEAK, O.QUEUE_OCCUPANCY, O.QUEUE_NODE, O.BUFP_USED_CELLS, O.BUF_HEADROOM_USED,
  O.FLT_SRC_CLASS, O.FLT_SRC_EVENTS, O.FLT_SRC_LAST_AT, O.FLT_STATUS, O.FLT_FATAL_SINCE_BOOT, O.FLT_LOG_LAST_SEQ,
  O.FLT_LOG_OVERWRITTEN, O.FLT_EVENT_LOST, O.FLT_FIRST_SEVERE, O.FLT_LOG_RECORD, O.PMC_VALUE, O.PMC_STATUS,
  O.PEER_KEY, F.mode, F.draws, F.out, F.sess, F.groups, F.ring, F.pcieDma, F.pciePending, F.faults, F.vault,
  F.checkKey, F.storeKey, F.keyTests, F.keyRestart, F.keyScrub, F.saRecs, F.saCtxs, F.banks, F.pipe, F.clsx,
  F.queues, F.nodes, F.pairs, F.ports, F.laps, F.pmc, F.lc, F.la, F.keyScrubFrom, F.keyReseed, F.keyRequests]

theorem Device.importKey_keeps {W : List Nat} {a : Device} {d : Device} {s : Nat} (hW : Sub Touch.importKey W) (h : Keeps W a d) :
    Keeps W a (Device.importKey d s).2 := by
  unfold Device.importKey
  try dsimp only
  repeat' first
    | with_reducible exact h | with_reducible assumption | with_reducible apply Keeps.ite
    | with_reducible apply Keeps.elim | with_reducible refine Device.kekUnwrap_keeps (subT (by decide +kernel) hW) ?_
    | with_reducible refine Device.importStore_keeps (subT (by decide +kernel) hW) ?_
    | with_reducible apply Keeps.ite2 | with_reducible apply Keeps.elim2 | intro _ _ hq | intro _ | split

def Touch.vaultImportCore : List Nat :=
  [O.LOCK, O.GROUP_OWNER, O.GROUP_STATE, O.GROUP_WRITES, O.GROUP_FAIL_ADDRESS, O.GROUP_FLAGS, O.SESSION_STATE,
  O.SESSION_ROLE, O.SESSION_CA, O.SESSION_ID, O.SESSION_LAST_COUNTER, O.ROLE_ROOT, O.RING_ENABLE, O.RING_HEAD,
  O.RING_TAIL, O.RING_STATE, O.RING_COMPLETED, O.RING_REJECTED, O.INJECT_REFUSED, O.MODE, O.MODE_CMD,
  O.MODE_ENTERED_AT, O.MODE_CAUSE, O.RUNAHEAD_FALSE_STARTS, O.RUNAHEAD_WASTED_CELLS, O.BANK_DISCARDS,
  O.VAULT_STATE, O.VAULT_HANDLE, O.VAULT_LEVEL, O.VAULT_PURPOSE, O.VAULT_KEY_BITS, O.VAULT_COUNTED,
  O.VAULT_USES_LEFT, O.VAULT_ORIGIN, O.VAULT_PARENT, O.VAULT_CREATED_AT, O.VAULT_ARG_KEY, O.VAULT_ARG_BLOB,
  O.VAULT_CMD, O.VAULT_RESULT_HANDLE, O.VAULT_CHECK_FAILS, O.DRBG_STATE, O.LA_CONTEXTS_BUSY, O.LA_RANDOM_IV_JOBS,
  O.GUN_STATE, O.GUN_OWNER, O.GUN_FLAGS, O.PORT_TX_FRAMES, O.PORT_TX_BYTES, O.PORT_TX_TRUNCATED,
  O.PORT_FC_TX_XOFF_C0, O.PORT_FC_TX_XOFF_C1, O.PORT_FC_TX_XOFF_C2, O.PORT_FC_TX_XOFF_C3, O.PORT_FC_TX_XOFF_C4,
  O.PORT_FC_TX_XOFF_C5, O.PORT_FC_TX_XOFF_C6, O.PORT_FC_TX_XOFF_C7, O.SC_STATUS, O.SA_STATE, O.SA_KEK, O.SA_SLOT,
  O.SA_FLAGS, O.SA_CHANGED_AT, O.SCSA_SLOT0_ROW, O.SCSA_SLOT1_ROW, O.SCSA_IN_FORCE_AN, O.SCSA_ZONE_OPEN,
  O.SA_STAT_PKTS, O.SA_STAT_OCTETS, O.SA_STAT_PKTS_ENCRYPTED, O.SA_STAT_NOT_VALID, O.SA_STAT_COMMIT_LATE,
  O.SA_STAT_TX_LOST, O.CALLROOM_OCCUPANCY, O.CALLROOM_PEAK, O.QUEUE_OCCUPANCY, O.QUEUE_NODE, O.BUFP_USED_CELLS,
  O.BUF_HEADROOM_USED, O.FLT_SRC_CLASS, O.FLT_SRC_EVENTS, O.FLT_SRC_LAST_AT, O.FLT_STATUS, O.FLT_FATAL_SINCE_BOOT,
  O.FLT_LOG_LAST_SEQ, O.FLT_LOG_OVERWRITTEN, O.FLT_EVENT_LOST, O.FLT_FIRST_SEVERE, O.FLT_LOG_RECORD, O.PMC_VALUE,
  O.PMC_STATUS, O.PEER_KEY, F.mode, F.draws, F.out, F.sess, F.groups, F.ring, F.pcieDma, F.pciePending, F.faults,
  F.vault, F.checkKey, F.storeKey, F.keyTests, F.keyRestart, F.keyScrub, F.saRecs, F.saCtxs, F.banks, F.pipe,
  F.clsx, F.queues, F.nodes, F.pairs, F.ports, F.laps, F.pmc, F.lc, F.la, F.keyScrubFrom, F.keyReseed,
  F.keyRequests]

theorem Device.vaultImportCore_keeps {W : List Nat} {a : Device} {r : Req} {s : Nat} {d : Device} (hW : Sub Touch.vaultImportCore W) (h : Keeps W a d) :
    Keeps W a (Device.vaultImportCore r s d).2 := by
  unfold Device.vaultImportCore
  try dsimp only
  repeat' first
    | with_reducible exact h | with_reducible assumption | exact memT (by decide +kernel) hW
    | with_reducible refine Device.runCmd_keeps ?_ ?_ ?_ | with_reducible refine Device.fatalResult_keeps ?_
    | with_reducible refine Device.importKey_keeps (subT (by decide +kernel) hW) ?_
    | with_reducible refine Device.wrCmd_keeps ?_ (subT (by decide +kernel) hW) ?_ | intro _ _ hq | intro _

def Touch.deriveInto : List Nat :=
  Touch.importKey

theorem Device.deriveInto_keeps {W : List Nat} {a : Device} {d : Device} {s : Nat} {p : Nat} {k : Nat} (hW : Sub Touch.deriveInto W) (h : Keeps W a d) :
    Keeps W a (Device.deriveInto d s p k).2 := by
  unfold Device.deriveInto
  try dsimp only
  repeat' first
    | with_reducible exact h | exact memT (by decide +kernel) hW | with_reducible apply Keeps.ite
    | with_reducible refine Device.slotUse_keeps (subT (by decide +kernel) hW) ?_
    | with_reducible refine Device.fillSlot_keeps (subT (by decide +kernel) hW) ?_
    | with_reducible refine Device.wr_keeps ?_ ?_ | with_reducible apply Keeps.ite2 | split

def Touch.vaultDeriveCore : List Nat :=
  Touch.importKey

theorem Device.vaultDeriveCore_keeps {W : List Nat} {a : Device} {r : Req} {s : Nat} {d : Device} (hW : Sub Touch.vaultDeriveCore W) (h : Keeps W a d) :
    Keeps W a (Device.vaultDeriveCore r s d).2 := by
  unfold Device.vaultDeriveCore
  try dsimp only
  repeat' first
    | with_reducible exact h | with_reducible assumption | exact memT (by decide +kernel) hW
    | with_reducible apply Keeps.elim | with_reducible refine Device.runCmd_keeps ?_ ?_ ?_
    | with_reducible refine Device.deriveInto_keeps (subT (by decide +kernel) hW) ?_
    | with_reducible apply Keeps.elim2 | intro _ _ hq | intro _ | split

def Touch.deriveSlot3 : List Nat :=
  Touch.importKey

theorem Device.deriveSlot3_keeps {W : List Nat} {a : Device} {d : Device} {m : Nat} (hW : Sub Touch.deriveSlot3 W) (h : Keeps W a d) :
    Keeps W a (Device.deriveSlot3 d m).2 := by
  unfold Device.deriveSlot3
  try dsimp only
  repeat' first
    | with_reducible exact h | with_reducible apply Keeps.ite
    | with_reducible refine Device.slotUse_keeps (subT (by decide +kernel) hW) ?_
    | with_reducible refine Device.fillSlot_keeps (subT (by decide +kernel) hW) ?_ | with_reducible apply Keeps.ite2
    | split

def Touch.deriveSuccessorCore : List Nat :=
  Touch.importKey

theorem Device.deriveSuccessorCore_keeps {W : List Nat} {a : Device} {r : Req} {s : Nat} {d : Device} (hW : Sub Touch.deriveSuccessorCore W) (h : Keeps W a d) :
    Keeps W a (Device.deriveSuccessorCore r s d).2 := by
  unfold Device.deriveSuccessorCore
  try dsimp only
  repeat' first
    | with_reducible exact h | with_reducible assumption | exact memT (by decide +kernel) hW
    | with_reducible apply Keeps.elim | with_reducible refine Device.runCmd_keeps ?_ ?_ ?_
    | with_reducible refine Device.deriveSlot3_keeps (subT (by decide +kernel) hW) ?_
    | with_reducible apply Keeps.elim2 | intro _ _ hq | intro _

def Touch.afterJobs : List Nat :=
  [O.LOCK, O.GROUP_OWNER, O.GROUP_STATE, O.GROUP_WRITES, O.GROUP_FAIL_ADDRESS, O.GROUP_FLAGS, O.SESSION_STATE,
  O.SESSION_ROLE, O.SESSION_CA, O.SESSION_ID, O.SESSION_LAST_COUNTER, O.RING_ENABLE, O.RING_HEAD, O.RING_TAIL,
  O.RING_STATE, O.RING_COMPLETED, O.RING_REJECTED, O.GUN_STATE, O.GUN_OWNER, O.GUN_FLAGS, O.FLT_SRC_EVENTS,
  O.FLT_SRC_LAST_AT, O.FLT_LOG_LAST_SEQ, O.FLT_LOG_OVERWRITTEN, O.FLT_EVENT_LOST, O.FLT_FIRST_SEVERE,
  O.FLT_LOG_RECORD, O.PMC_VALUE, O.PMC_STATUS, F.out, F.sess, F.groups, F.ring, F.pcieDma, F.pciePending, F.faults,
  F.clsx, F.pmc, F.la]

theorem Device.afterJobs_keeps {W : List Nat} {a : Device} {d : Device} {s : Nat} {all : Bool} {uses : LaJob → Bool} (hW : Sub Touch.afterJobs W) (h : Keeps W a d) :
    Keeps W a (Device.afterJobs d s all uses).2 := by
  unfold Device.afterJobs
  try dsimp only
  repeat' first
    | with_reducible exact h | with_reducible apply Keeps.ite
    | with_reducible refine Device.closeSessions_keeps (subT (by decide +kernel) hW) ?_
    | with_reducible refine Device.setLa_keeps (subT (by decide +kernel) hW) ?_ | with_reducible apply Keeps.ite2
    | split

def Touch.zeroizeSlotCore : List Nat :=
  [O.LOCK, O.GROUP_OWNER, O.GROUP_STATE, O.GROUP_WRITES, O.GROUP_FAIL_ADDRESS, O.GROUP_FLAGS, O.SESSION_STATE,
  O.SESSION_ROLE, O.SESSION_CA, O.SESSION_ID, O.SESSION_LAST_COUNTER, O.ROLE_ROOT, O.RING_ENABLE, O.RING_HEAD,
  O.RING_TAIL, O.RING_STATE, O.RING_COMPLETED, O.RING_REJECTED, O.VAULT_STATE, O.VAULT_HANDLE, O.VAULT_LEVEL,
  O.VAULT_PURPOSE, O.VAULT_KEY_BITS, O.VAULT_COUNTED, O.VAULT_USES_LEFT, O.VAULT_ORIGIN, O.VAULT_PARENT,
  O.VAULT_CREATED_AT, O.VAULT_ARG_KEY, O.VAULT_CMD, O.VAULT_RESULT_HANDLE, O.GUN_STATE, O.GUN_OWNER, O.GUN_FLAGS,
  O.SA_KEK, O.FLT_SRC_EVENTS, O.FLT_SRC_LAST_AT, O.FLT_LOG_LAST_SEQ, O.FLT_LOG_OVERWRITTEN, O.FLT_EVENT_LOST,
  O.FLT_FIRST_SEVERE, O.FLT_LOG_RECORD, O.PMC_VALUE, O.PMC_STATUS, O.PEER_KEY, F.out, F.sess, F.groups, F.ring,
  F.pcieDma, F.pciePending, F.faults, F.vault, F.clsx, F.pmc, F.la]

theorem Device.zeroizeSlotCore_keeps {W : List Nat} {a : Device} {r : Req} {s : Nat} {d : Device} (hW : Sub Touch.zeroizeSlotCore W) (h : Keeps W a d) :
    Keeps W a (Device.zeroizeSlotCore r s d).2 := by
  unfold Device.zeroizeSlotCore
  try dsimp only
  repeat' first
    | with_reducible exact h | with_reducible assumption | exact memT (by decide +kernel) hW
    | with_reducible apply Keeps.elim | with_reducible refine Device.runCmd_keeps ?_ ?_ ?_
    | with_reducible refine Device.zeroSlot_keeps (subT (by decide +kernel) hW) ?_
    | with_reducible refine Device.afterJobs_keeps (subT (by decide +kernel) hW) ?_
    | with_reducible apply Keeps.elim2 | intro _ _ hq | intro _

def Touch.zeroizeTenantCore : List Nat :=
  [O.LOCK, O.GROUP_OWNER, O.GROUP_STATE, O.GROUP_WRITES, O.GROUP_FAIL_ADDRESS, O.GROUP_FLAGS, O.SESSION_STATE,
  O.SESSION_ROLE, O.SESSION_CA, O.SESSION_ID, O.SESSION_LAST_COUNTER, O.RING_ENABLE, O.RING_HEAD, O.RING_TAIL,
  O.RING_STATE, O.RING_COMPLETED, O.RING_REJECTED, O.INJECT_REFUSED, O.RUNAHEAD_FALSE_STARTS,
  O.RUNAHEAD_WASTED_CELLS, O.BANK_DISCARDS, O.VAULT_CMD, O.GUN_STATE, O.GUN_OWNER, O.GUN_FLAGS,
  O.PORT_FC_TX_XOFF_C0, O.PORT_FC_TX_XOFF_C1, O.PORT_FC_TX_XOFF_C2, O.PORT_FC_TX_XOFF_C3, O.PORT_FC_TX_XOFF_C4,
  O.PORT_FC_TX_XOFF_C5, O.PORT_FC_TX_XOFF_C6, O.PORT_FC_TX_XOFF_C7, O.SC_STATUS, O.SA_STATE, O.SA_SLOT, O.SA_FLAGS,
  O.SA_CHANGED_AT, O.SCSA_SLOT0_ROW, O.SCSA_SLOT1_ROW, O.SCSA_IN_FORCE_AN, O.SCSA_ZONE_OPEN, O.SA_STAT_PKTS,
  O.SA_STAT_OCTETS, O.SA_STAT_PKTS_ENCRYPTED, O.SA_STAT_NOT_VALID, O.SA_STAT_COMMIT_LATE, O.SA_STAT_TX_LOST,
  O.CALLROOM_OCCUPANCY, O.CALLROOM_PEAK, O.QUEUE_OCCUPANCY, O.QUEUE_NODE, O.BUFP_USED_CELLS, O.BUF_HEADROOM_USED,
  O.FLT_SRC_EVENTS, O.FLT_SRC_LAST_AT, O.FLT_LOG_LAST_SEQ, O.FLT_LOG_OVERWRITTEN, O.FLT_EVENT_LOST,
  O.FLT_FIRST_SEVERE, O.FLT_LOG_RECORD, O.PMC_VALUE, O.PMC_STATUS, F.draws, F.out, F.sess, F.groups, F.ring,
  F.pcieDma, F.pciePending, F.faults, F.saRecs, F.saCtxs, F.banks, F.pipe, F.clsx, F.queues, F.nodes, F.pairs,
  F.ports, F.laps, F.pmc]

theorem Device.zeroizeTenantCore_keeps {W : List Nat} {a : Device} {r : Req} {s : Nat} {d : Device} (hW : Sub Touch.zeroizeTenantCore W) (h : Keeps W a d) :
    Keeps W a (Device.zeroizeTenantCore r s d).2 := by
  unfold Device.zeroizeTenantCore
  try dsimp only
  repeat' first
    | with_reducible exact h | with_reducible assumption | exact memT (by decide +kernel) hW
    | with_reducible apply Keeps.foldl | with_reducible refine Device.runCmd_keeps ?_ ?_ ?_
    | with_reducible refine Device.zeroSa_keeps (subT (by decide +kernel) hW) ?_ | with_reducible apply Keeps.foldl2
    | intro _ _ hq | intro _

def Touch.zeroizeAllCore : List Nat :=
  [O.LOCK, O.GROUP_OWNER, O.GROUP_STATE, O.GROUP_WRITES, O.GROUP_FAIL_ADDRESS, O.GROUP_FLAGS, O.SESSION_STATE,
  O.SESSION_ROLE, O.SESSION_CA, O.SESSION_ID, O.SESSION_LAST_COUNTER, O.ROLE_ROOT, O.RING_ENABLE, O.RING_HEAD,
  O.RING_TAIL, O.RING_STATE, O.RING_COMPLETED, O.RING_REJECTED, O.INJECT_REFUSED, O.RUNAHEAD_FALSE_STARTS,
  O.RUNAHEAD_WASTED_CELLS, O.BANK_DISCARDS, O.VAULT_STATE, O.VAULT_HANDLE, O.VAULT_LEVEL, O.VAULT_PURPOSE,
  O.VAULT_KEY_BITS, O.VAULT_COUNTED, O.VAULT_USES_LEFT, O.VAULT_ORIGIN, O.VAULT_PARENT, O.VAULT_CREATED_AT,
  O.VAULT_ARG_KEY, O.VAULT_CMD, O.VAULT_RESULT_HANDLE, O.GUN_STATE, O.GUN_OWNER, O.GUN_FLAGS, O.PORT_FC_TX_XOFF_C0,
  O.PORT_FC_TX_XOFF_C1, O.PORT_FC_TX_XOFF_C2, O.PORT_FC_TX_XOFF_C3, O.PORT_FC_TX_XOFF_C4, O.PORT_FC_TX_XOFF_C5,
  O.PORT_FC_TX_XOFF_C6, O.PORT_FC_TX_XOFF_C7, O.SC_STATUS, O.SA_STATE, O.SA_KEK, O.SA_SLOT, O.SA_FLAGS,
  O.SA_CHANGED_AT, O.SCSA_SLOT0_ROW, O.SCSA_SLOT1_ROW, O.SCSA_IN_FORCE_AN, O.SCSA_ZONE_OPEN, O.SA_STAT_PKTS,
  O.SA_STAT_OCTETS, O.SA_STAT_PKTS_ENCRYPTED, O.SA_STAT_NOT_VALID, O.SA_STAT_COMMIT_LATE, O.SA_STAT_TX_LOST,
  O.CALLROOM_OCCUPANCY, O.CALLROOM_PEAK, O.QUEUE_OCCUPANCY, O.QUEUE_NODE, O.BUFP_USED_CELLS, O.BUF_HEADROOM_USED,
  O.FLT_SRC_EVENTS, O.FLT_SRC_LAST_AT, O.FLT_LOG_LAST_SEQ, O.FLT_LOG_OVERWRITTEN, O.FLT_EVENT_LOST,
  O.FLT_FIRST_SEVERE, O.FLT_LOG_RECORD, O.PMC_VALUE, O.PMC_STATUS, O.PEER_KEY, F.draws, F.out, F.sess, F.groups,
  F.ring, F.pcieDma, F.pciePending, F.faults, F.vault, F.saRecs, F.saCtxs, F.banks, F.pipe, F.clsx, F.queues,
  F.nodes, F.pairs, F.ports, F.laps, F.pmc, F.la]

theorem Device.zeroizeAllCore_keeps {W : List Nat} {a : Device} {r : Req} {s : Nat} {d : Device} (hW : Sub Touch.zeroizeAllCore W) (h : Keeps W a d) :
    Keeps W a (Device.zeroizeAllCore r s d).2 := by
  unfold Device.zeroizeAllCore
  try dsimp only
  repeat' first
    | with_reducible exact h | with_reducible assumption | exact memT (by decide +kernel) hW
    | with_reducible refine Device.runCmd_keeps ?_ ?_ ?_
    | with_reducible refine Device.zeroKeys_keeps (subT (by decide +kernel) hW) ?_
    | with_reducible refine Device.afterJobs_keeps (subT (by decide +kernel) hW) ?_ | intro _ _ hq | intro _

def Touch.scrubMove : List Nat :=
  [O.VAULT_SCRUB_PASSES, F.checkKey, F.storeKey, F.keyTests, F.keyRestart, F.keyScrub, F.keyScrubFrom, F.keyReseed,
  F.keyRequests]

theorem Device.scrubMove_keeps {W : List Nat} {a : Device} {d : Device} {p : Nat} (hW : Sub Touch.scrubMove W) (h : Keeps W a d) :
    Keeps W a (Device.scrubMove d p) := by
  unfold Device.scrubMove
  try dsimp only
  repeat' first
    | with_reducible exact h | with_reducible assumption | exact memT (by decide +kernel) hW
    | with_reducible apply Keeps.ite
    | with_reducible refine Device.setKeys_keeps (subT (by decide +kernel) hW) ?_ rfl
    | with_reducible refine Device.inc64_keeps ?_ ?_ | intro _ _ hq | intro _ | split

def Touch.vaultScrubVisit : List Nat :=
  [O.LOCK, O.GROUP_OWNER, O.GROUP_STATE, O.GROUP_WRITES, O.GROUP_FAIL_ADDRESS, O.GROUP_FLAGS, O.SESSION_STATE,
  O.SESSION_ROLE, O.SESSION_CA, O.SESSION_ID, O.SESSION_LAST_COUNTER, O.ROLE_ROOT, O.RING_ENABLE, O.RING_HEAD,
  O.RING_TAIL, O.RING_STATE, O.RING_COMPLETED, O.RING_REJECTED, O.INJECT_REFUSED, O.MODE, O.MODE_CMD,
  O.MODE_ENTERED_AT, O.MODE_CAUSE, O.RUNAHEAD_FALSE_STARTS, O.RUNAHEAD_WASTED_CELLS, O.BANK_DISCARDS,
  O.VAULT_STATE, O.VAULT_HANDLE, O.VAULT_LEVEL, O.VAULT_PURPOSE, O.VAULT_KEY_BITS, O.VAULT_COUNTED,
  O.VAULT_USES_LEFT, O.VAULT_ORIGIN, O.VAULT_PARENT, O.VAULT_CREATED_AT, O.VAULT_ARG_KEY, O.VAULT_CMD,
  O.VAULT_RESULT_HANDLE, O.VAULT_CHECK_FAILS, O.VAULT_SCRUB_PASSES, O.DRBG_STATE, O.LA_CONTEXTS_BUSY, O.GUN_STATE,
  O.GUN_OWNER, O.GUN_FLAGS, O.PORT_TX_FRAMES, O.PORT_TX_BYTES, O.PORT_TX_TRUNCATED, O.PORT_FC_TX_XOFF_C0,
  O.PORT_FC_TX_XOFF_C1, O.PORT_FC_TX_XOFF_C2, O.PORT_FC_TX_XOFF_C3, O.PORT_FC_TX_XOFF_C4, O.PORT_FC_TX_XOFF_C5,
  O.PORT_FC_TX_XOFF_C6, O.PORT_FC_TX_XOFF_C7, O.SC_STATUS, O.SA_STATE, O.SA_KEK, O.SA_SLOT, O.SA_FLAGS,
  O.SA_CHANGED_AT, O.SCSA_SLOT0_ROW, O.SCSA_SLOT1_ROW, O.SCSA_IN_FORCE_AN, O.SCSA_ZONE_OPEN, O.SA_STAT_PKTS,
  O.SA_STAT_OCTETS, O.SA_STAT_PKTS_ENCRYPTED, O.SA_STAT_NOT_VALID, O.SA_STAT_COMMIT_LATE, O.SA_STAT_TX_LOST,
  O.CALLROOM_OCCUPANCY, O.CALLROOM_PEAK, O.QUEUE_OCCUPANCY, O.QUEUE_NODE, O.BUFP_USED_CELLS, O.BUF_HEADROOM_USED,
  O.FLT_SRC_CLASS, O.FLT_SRC_EVENTS, O.FLT_SRC_LAST_AT, O.FLT_STATUS, O.FLT_FATAL_SINCE_BOOT, O.FLT_LOG_LAST_SEQ,
  O.FLT_LOG_OVERWRITTEN, O.FLT_EVENT_LOST, O.FLT_FIRST_SEVERE, O.FLT_LOG_RECORD, O.PMC_VALUE, O.PMC_STATUS,
  O.PEER_KEY, F.mode, F.cyc, F.clk, F.draws, F.out, F.sess, F.groups, F.ring, F.pcieDma, F.pciePending, F.faults,
  F.vault, F.checkKey, F.storeKey, F.keyTests, F.keyRestart, F.keyScrub, F.saRecs, F.saCtxs, F.banks, F.pipe,
  F.clsx, F.queues, F.nodes, F.pairs, F.ports, F.laps, F.pmc, F.lc, F.la, F.keyScrubFrom, F.keyReseed,
  F.keyRequests]

theorem Device.vaultScrubVisit_keeps {W : List Nat} {a : Device} {t : ScrubTarget} {ok : Bool} {d : Device} (hW : Sub Touch.vaultScrubVisit W) (h : Keeps W a d) :
    Keeps W a (Device.vaultScrubVisit t ok d) := by
  unfold Device.vaultScrubVisit
  try dsimp only
  repeat' first
    | with_reducible exact h | with_reducible assumption | with_reducible apply Keeps.ite
    | with_reducible refine Device.passTo_keeps (subT (by decide +kernel) hW) ?_
    | with_reducible refine Device.scrubMove_keeps (subT (by decide +kernel) hW) ?_
    | with_reducible refine Device.vaultFails_keeps (subT (by decide +kernel) hW) ?_
    | with_reducible refine Device.ctxFails_keeps (subT (by decide +kernel) hW) ?_ | split

def Touch.drbgReseed : List Nat :=
  [O.DRBG_RESEEDS, O.PMC_VALUE, O.PMC_STATUS, F.cyc, F.clk, F.out, F.pciePending, F.checkKey, F.storeKey,
  F.keyTests, F.keyRestart, F.keyScrub, F.pmc, F.keyScrubFrom, F.keyReseed, F.keyRequests]

theorem Device.drbgReseed_keeps {W : List Nat} {a : Device} {d : Device} (hW : Sub Touch.drbgReseed W) (h : Keeps W a d) :
    Keeps W a (Device.drbgReseed d) := by
  unfold Device.drbgReseed
  try dsimp only
  repeat' first
    | with_reducible exact h | exact memT (by decide +kernel) hW | with_reducible apply Keeps.ite
    | with_reducible refine Device.passTo_keeps (subT (by decide +kernel) hW) ?_
    | with_reducible refine Device.seeded_keeps (subT (by decide +kernel) hW) ?_
    | with_reducible refine Device.inc64_keeps ?_ ?_ | split

def Touch.entropyTestFail : List Nat :=
  [O.LOCK, O.GROUP_OWNER, O.GROUP_STATE, O.GROUP_WRITES, O.GROUP_FAIL_ADDRESS, O.GROUP_FLAGS, O.SESSION_STATE,
  O.SESSION_ROLE, O.SESSION_CA, O.SESSION_ID, O.SESSION_LAST_COUNTER, O.ROLE_ROOT, O.RING_ENABLE, O.RING_HEAD,
  O.RING_TAIL, O.RING_STATE, O.RING_COMPLETED, O.RING_REJECTED, O.INJECT_REFUSED, O.MODE, O.MODE_CMD,
  O.MODE_ENTERED_AT, O.MODE_CAUSE, O.RUNAHEAD_FALSE_STARTS, O.RUNAHEAD_WASTED_CELLS, O.BANK_DISCARDS,
  O.VAULT_STATE, O.VAULT_HANDLE, O.VAULT_LEVEL, O.VAULT_PURPOSE, O.VAULT_KEY_BITS, O.VAULT_COUNTED,
  O.VAULT_USES_LEFT, O.VAULT_ORIGIN, O.VAULT_PARENT, O.VAULT_CREATED_AT, O.VAULT_ARG_KEY, O.VAULT_CMD,
  O.VAULT_RESULT_HANDLE, O.DRBG_STATE, O.ENTROPY_TEST_FAILS, O.LA_CONTEXTS_BUSY, O.GUN_STATE, O.GUN_OWNER,
  O.GUN_FLAGS, O.PORT_TX_FRAMES, O.PORT_TX_BYTES, O.PORT_TX_TRUNCATED, O.PORT_FC_TX_XOFF_C0, O.PORT_FC_TX_XOFF_C1,
  O.PORT_FC_TX_XOFF_C2, O.PORT_FC_TX_XOFF_C3, O.PORT_FC_TX_XOFF_C4, O.PORT_FC_TX_XOFF_C5, O.PORT_FC_TX_XOFF_C6,
  O.PORT_FC_TX_XOFF_C7, O.SC_STATUS, O.SA_STATE, O.SA_KEK, O.SA_SLOT, O.SA_FLAGS, O.SA_CHANGED_AT,
  O.SCSA_SLOT0_ROW, O.SCSA_SLOT1_ROW, O.SCSA_IN_FORCE_AN, O.SCSA_ZONE_OPEN, O.SA_STAT_PKTS, O.SA_STAT_OCTETS,
  O.SA_STAT_PKTS_ENCRYPTED, O.SA_STAT_NOT_VALID, O.SA_STAT_COMMIT_LATE, O.SA_STAT_TX_LOST, O.CALLROOM_OCCUPANCY,
  O.CALLROOM_PEAK, O.QUEUE_OCCUPANCY, O.QUEUE_NODE, O.BUFP_USED_CELLS, O.BUF_HEADROOM_USED, O.FLT_SRC_CLASS,
  O.FLT_SRC_EVENTS, O.FLT_SRC_LAST_AT, O.FLT_STATUS, O.FLT_FATAL_SINCE_BOOT, O.FLT_LOG_LAST_SEQ,
  O.FLT_LOG_OVERWRITTEN, O.FLT_EVENT_LOST, O.FLT_FIRST_SEVERE, O.FLT_LOG_RECORD, O.PMC_VALUE, O.PMC_STATUS,
  O.PEER_KEY, F.mode, F.draws, F.out, F.sess, F.groups, F.ring, F.pcieDma, F.pciePending, F.faults, F.vault,
  F.checkKey, F.storeKey, F.keyTests, F.keyRestart, F.keyScrub, F.saRecs, F.saCtxs, F.banks, F.pipe, F.clsx,
  F.queues, F.nodes, F.pairs, F.ports, F.laps, F.pmc, F.lc, F.la, F.keyScrubFrom, F.keyReseed, F.keyRequests]

theorem Device.entropyTestFail_keeps {W : List Nat} {a : Device} {d : Device} (hW : Sub Touch.entropyTestFail W) (h : Keeps W a d) :
    Keeps W a (Device.entropyTestFail d) := by
  unfold Device.entropyTestFail
  try dsimp only
  repeat' first
    | with_reducible exact h | exact memT (by decide +kernel) hW | with_reducible apply Keeps.ite
    | with_reducible refine Device.inc32_keeps ?_ ?_ | with_reducible refine Device.wr_keeps ?_ ?_
    | with_reducible refine Device.setKeys_keeps (subT (by decide +kernel) hW) ?_ rfl
    | with_reducible refine Device.fault_keeps (subT (by decide +kernel) hW) ?_ | split

def Touch.startupFail : List Nat :=
  Touch.entropyTestFail

theorem Device.startupFail_keeps {W : List Nat} {a : Device} {d : Device} (hW : Sub Touch.startupFail W) (h : Keeps W a d) :
    Keeps W a (Device.startupFail d) := by
  unfold Device.startupFail
  try dsimp only
  repeat' first
    | with_reducible exact h | exact memT (by decide +kernel) hW | with_reducible apply Keeps.ite
    | with_reducible refine Device.setKeys_keeps (subT (by decide +kernel) hW) ?_ rfl
    | with_reducible refine Device.inc32_keeps ?_ ?_ | with_reducible refine Device.wr_keeps ?_ ?_
    | with_reducible refine Device.fault_keeps (subT (by decide +kernel) hW) ?_ | split

def Touch.entropyRestartDone : List Nat :=
  Touch.entropyTestFail

theorem Device.entropyRestartDone_keeps {W : List Nat} {a : Device} {passed : Bool} {d : Device} (hW : Sub Touch.entropyRestartDone W) (h : Keeps W a d) :
    Keeps W a (Device.entropyRestartDone passed d) := by
  unfold Device.entropyRestartDone
  try dsimp only
  repeat' first
    | with_reducible exact h | exact memT (by decide +kernel) hW | with_reducible apply Keeps.ite
    | with_reducible refine Device.setKeys_keeps (subT (by decide +kernel) hW) ?_ rfl
    | with_reducible refine Device.wr_keeps ?_ ?_
    | with_reducible refine Device.startupFail_keeps (subT (by decide +kernel) hW) ?_ | split

def Touch.drbgReinstantiate : List Nat :=
  Touch.entropyTestFail

theorem Device.drbgReinstantiate_keeps {W : List Nat} {a : Device} {passed : Bool} {d : Device} (hW : Sub Touch.drbgReinstantiate W) (h : Keeps W a d) :
    Keeps W a (Device.drbgReinstantiate passed d) := by
  unfold Device.drbgReinstantiate
  try dsimp only
  repeat' first
    | with_reducible exact h | exact memT (by decide +kernel) hW | with_reducible apply Keeps.ite
    | with_reducible refine Device.setKeys_keeps (subT (by decide +kernel) hW) ?_ rfl
    | with_reducible refine Device.wr_keeps ?_ ?_
    | with_reducible refine Device.seeded_keeps (subT (by decide +kernel) hW) ?_
    | with_reducible refine Device.startupFail_keeps (subT (by decide +kernel) hW) ?_ | split

end Sys2Proof.Machine
end

