-- ==== Sys2Proof/Laws/KeepsLookaside.lean ====
section
/-!
SUPPORT. The places that each operation of Machine/Lookaside.lean may change (Laws/Keeps.lean).
-/
set_option Elab.async false
set_option linter.all false
set_option linter.unusedTactic false
set_option linter.unreachableTactic false
set_option linter.style.longLine false
namespace Sys2Proof.Machine

def Touch.setJobs : List Nat :=
  [O.LA_CONTEXTS_BUSY, F.la]

theorem Device.setJobs_keeps {W : List Nat} {a : Device} {d : Device} {l : List LaJob} (hW : Sub Touch.setJobs W) (h : Keeps W a d) :
    Keeps W a (Device.setJobs d l) := by
  unfold Device.setJobs
  try dsimp only
  repeat' first
    | with_reducible exact h | exact memT (by decide +kernel) hW
    | with_reducible refine Device.setLa_keeps (subT (by decide +kernel) hW) ?_
    | with_reducible refine Device.wr_keeps ?_ ?_

def Touch.setLaLast : List Nat :=
  [F.la]

theorem Device.setLaLast_keeps {W : List Nat} {a : Device} {d : Device} {n : Nat} (hW : Sub Touch.setLaLast W) (h : Keeps W a d) :
    Keeps W a (Device.setLaLast d n) := by
  unfold Device.setLaLast
  try dsimp only
  repeat' first
    | with_reducible exact h | with_reducible refine Device.setLa_keeps (subT (by decide +kernel) hW) ?_

def Touch.laRotate : List Nat :=
  [O.LA_CONTEXTS_BUSY, F.la]

theorem Device.laRotate_keeps {W : List Nat} {a : Device} {d : Device} (hW : Sub Touch.laRotate W) (h : Keeps W a d) :
    Keeps W a (Device.laRotate d) := by
  unfold Device.laRotate
  try dsimp only
  repeat' first
    | with_reducible exact h | with_reducible assumption | with_reducible apply Keeps.ite
    | with_reducible refine Device.setLaLast_keeps (subT (by decide +kernel) hW) ?_
    | with_reducible refine Device.setJobs_keeps (subT (by decide +kernel) hW) ?_ | intro _ _ hq | intro _ | split
    | dsimp only

def Touch.laIv : List Nat :=
  Touch.drawBytes

theorem Device.laIv_keeps {W : List Nat} {a : Device} {d : Device} {x : Descriptor} {p : LaParams} (hW : Sub Touch.laIv W) (h : Keeps W a d) :
    Keeps W a (Device.laIv d x p).2 := by
  unfold Device.laIv
  try dsimp only
  repeat' first
    | with_reducible exact h | with_reducible apply Keeps.ite
    | with_reducible refine Device.drawBytes_keeps (subT (by decide +kernel) hW) ?_ | with_reducible apply Keeps.ite2
    | split

def Touch.laAccept : List Nat :=
  [O.RING_POSITION, O.RING_CRC_ERRORS, O.RING_RETURNED, O.RING_BAD_MESSAGES, O.LOCK, O.GROUP_OWNER, O.GROUP_STATE,
  O.GROUP_WRITES, O.GROUP_FAIL_ADDRESS, O.GROUP_FLAGS, O.SESSION_STATE, O.SESSION_ROLE, O.SESSION_CA, O.SESSION_ID,
  O.SESSION_LAST_COUNTER, O.RING_ENABLE, O.RING_HEAD, O.RING_TAIL, O.RING_STATE, O.RING_COMPLETED, O.RING_REJECTED,
  O.VAULT_STATE, O.VAULT_USES_LEFT, O.LA_JOBS, O.LA_CONTEXTS_BUSY, O.LA_RANDOM_IV_JOBS, O.GUN_STATE, O.GUN_OWNER,
  O.GUN_FLAGS, O.FLT_SRC_EVENTS, O.FLT_SRC_LAST_AT, O.FLT_LOG_LAST_SEQ, O.FLT_LOG_OVERWRITTEN, O.FLT_EVENT_LOST,
  O.FLT_FIRST_SEVERE, O.FLT_LOG_RECORD, O.PMC_VALUE, O.PMC_STATUS, F.draws, F.out, F.sess, F.groups, F.ring,
  F.pcieDma, F.pciePending, F.faults, F.checkKey, F.storeKey, F.keyTests, F.keyRestart, F.keyScrub, F.clsx, F.pmc,
  F.la, F.keyScrubFrom, F.keyReseed, F.keyRequests]

theorem Device.laAccept_keeps {W : List Nat} {a : Device} {d : Device} {n : Nat} {k : Nat} {core : Nat} {x : Descriptor} {p : LaParams} {src : Bytes} {aad : Bytes} (hW : Sub Touch.laAccept W) (h : Keeps W a d) :
    Keeps W a (Device.laAccept d n k core x p src aad) := by
  unfold Device.laAccept
  try dsimp only
  repeat' first
    | with_reducible exact h | exact memT (by decide +kernel) hW | with_reducible apply Keeps.ite
    | with_reducible refine Device.takeUse_keeps (subT (by decide +kernel) hW) ?_
    | with_reducible refine Device.inc64_keeps ?_ ?_
    | with_reducible refine Device.dmaComplete_keeps (subT (by decide +kernel) hW) ?_
    | with_reducible refine Device.laIv_keeps (subT (by decide +kernel) hW) ?_
    | with_reducible refine Device.address_keeps (subT (by decide +kernel) hW) ?_
    | with_reducible refine Device.setJobs_keeps (subT (by decide +kernel) hW) ?_
    | with_reducible refine Device.dmaTake_keeps (subT (by decide +kernel) hW) ?_ | with_reducible apply Keeps.ite2
    | split

def Touch.laTake : List Nat :=
  [O.RING_POSITION, O.RING_CRC_ERRORS, O.RING_RETURNED, O.RING_BAD_MESSAGES, O.LOCK, O.GROUP_OWNER, O.GROUP_STATE,
  O.GROUP_WRITES, O.GROUP_FAIL_ADDRESS, O.GROUP_FLAGS, O.SESSION_STATE, O.SESSION_ROLE, O.SESSION_CA, O.SESSION_ID,
  O.SESSION_LAST_COUNTER, O.ROLE_ROOT, O.RING_ENABLE, O.RING_HEAD, O.RING_TAIL, O.RING_STATE, O.RING_COMPLETED,
  O.RING_REJECTED, O.INJECT_REFUSED, O.MODE, O.MODE_CMD, O.MODE_ENTERED_AT, O.MODE_CAUSE, O.RUNAHEAD_FALSE_STARTS,
  O.RUNAHEAD_WASTED_CELLS, O.BANK_DISCARDS, O.VAULT_STATE, O.VAULT_HANDLE, O.VAULT_LEVEL, O.VAULT_PURPOSE,
  O.VAULT_KEY_BITS, O.VAULT_COUNTED, O.VAULT_USES_LEFT, O.VAULT_ORIGIN, O.VAULT_PARENT, O.VAULT_CREATED_AT,
  O.VAULT_ARG_KEY, O.VAULT_CMD, O.VAULT_RESULT_HANDLE, O.VAULT_CHECK_FAILS, O.DRBG_STATE, O.LA_JOBS,
  O.LA_CONTEXTS_BUSY, O.LA_RANDOM_IV_JOBS, O.GUN_STATE, O.GUN_OWNER, O.GUN_FLAGS, O.PORT_TX_FRAMES,
  O.PORT_TX_BYTES, O.PORT_TX_TRUNCATED, O.PORT_FC_TX_XOFF_C0, O.PORT_FC_TX_XOFF_C1, O.PORT_FC_TX_XOFF_C2,
  O.PORT_FC_TX_XOFF_C3, O.PORT_FC_TX_XOFF_C4, O.PORT_FC_TX_XOFF_C5, O.PORT_FC_TX_XOFF_C6, O.PORT_FC_TX_XOFF_C7,
  O.SC_STATUS, O.SA_STATE, O.SA_KEK, O.SA_SLOT, O.SA_FLAGS, O.SA_CHANGED_AT, O.SCSA_SLOT0_ROW, O.SCSA_SLOT1_ROW,
  O.SCSA_IN_FORCE_AN, O.SCSA_ZONE_OPEN, O.SA_STAT_PKTS, O.SA_STAT_OCTETS, O.SA_STAT_PKTS_ENCRYPTED,
  O.SA_STAT_NOT_VALID, O.SA_STAT_COMMIT_LATE, O.SA_STAT_TX_LOST, O.CALLROOM_OCCUPANCY, O.CALLROOM_PEAK,
  O.QUEUE_OCCUPANCY, O.QUEUE_NODE, O.BUFP_USED_CELLS, O.BUF_HEADROOM_USED, O.FLT_SRC_CLASS, O.FLT_SRC_EVENTS,
  O.FLT_SRC_LAST_AT, O.FLT_STATUS, O.FLT_FATAL_SINCE_BOOT, O.FLT_LOG_LAST_SEQ, O.FLT_LOG_OVERWRITTEN,
  O.FLT_EVENT_LOST, O.FLT_FIRST_SEVERE, O.FLT_LOG_RECORD, O.PMC_VALUE, O.PMC_STATUS, O.PEER_KEY, F.mode, F.draws,
  F.out, F.sess, F.groups, F.ring, F.pcieDma, F.pciePending, F.faults, F.vault, F.checkKey, F.storeKey, F.keyTests,
  F.keyRestart, F.keyScrub, F.saRecs, F.saCtxs, F.banks, F.pipe, F.clsx, F.queues, F.nodes, F.pairs, F.ports,
  F.laps, F.pmc, F.lc, F.la, F.keyScrubFrom, F.keyReseed, F.keyRequests]

theorem Device.laTake_keeps {W : List Nat} {a : Device} {d : Device} {n : Nat} {x : Descriptor} {p : LaParams} {src : Bytes} {aad : Bytes} (hW : Sub Touch.laTake W) (h : Keeps W a d) :
    Keeps W a (Device.laTake d n x p src aad) := by
  unfold Device.laTake
  try dsimp only
  repeat' first
    | with_reducible exact h | with_reducible assumption | with_reducible apply Keeps.ite
    | with_reducible apply Keeps.elim
    | with_reducible refine Device.dmaComplete_keeps (subT (by decide +kernel) hW) ?_
    | with_reducible refine Device.slotUse_keeps (subT (by decide +kernel) hW) ?_
    | with_reducible refine Device.laAccept_keeps (subT (by decide +kernel) hW) ?_ | with_reducible apply Keeps.ite2
    | with_reducible apply Keeps.elim2 | intro _ _ hq | intro _ | split

def Touch.lookasideJobStart : List Nat :=
  [O.RING_POSITION, O.RING_CRC_ERRORS, O.RING_RETURNED, O.RING_BAD_MESSAGES, O.LOCK, O.GROUP_OWNER, O.GROUP_STATE,
  O.GROUP_WRITES, O.GROUP_FAIL_ADDRESS, O.GROUP_FLAGS, O.SESSION_STATE, O.SESSION_ROLE, O.SESSION_CA, O.SESSION_ID,
  O.SESSION_LAST_COUNTER, O.ROLE_ROOT, O.RING_ENABLE, O.RING_HEAD, O.RING_TAIL, O.RING_STATE, O.RING_COMPLETED,
  O.RING_REJECTED, O.INJECT_REFUSED, O.MODE, O.MODE_CMD, O.MODE_ENTERED_AT, O.MODE_CAUSE, O.RUNAHEAD_FALSE_STARTS,
  O.RUNAHEAD_WASTED_CELLS, O.BANK_DISCARDS, O.VAULT_STATE, O.VAULT_HANDLE, O.VAULT_LEVEL, O.VAULT_PURPOSE,
  O.VAULT_KEY_BITS, O.VAULT_COUNTED, O.VAULT_USES_LEFT, O.VAULT_ORIGIN, O.VAULT_PARENT, O.VAULT_CREATED_AT,
  O.VAULT_ARG_KEY, O.VAULT_CMD, O.VAULT_RESULT_HANDLE, O.VAULT_CHECK_FAILS, O.DRBG_STATE, O.LA_JOBS,
  O.LA_CONTEXTS_BUSY, O.LA_RANDOM_IV_JOBS, O.GUN_STATE, O.GUN_OWNER, O.GUN_FLAGS, O.PORT_TX_FRAMES,
  O.PORT_TX_BYTES, O.PORT_TX_TRUNCATED, O.PORT_FC_TX_XOFF_C0, O.PORT_FC_TX_XOFF_C1, O.PORT_FC_TX_XOFF_C2,
  O.PORT_FC_TX_XOFF_C3, O.PORT_FC_TX_XOFF_C4, O.PORT_FC_TX_XOFF_C5, O.PORT_FC_TX_XOFF_C6, O.PORT_FC_TX_XOFF_C7,
  O.SC_STATUS, O.SA_STATE, O.SA_KEK, O.SA_SLOT, O.SA_FLAGS, O.SA_CHANGED_AT, O.SCSA_SLOT0_ROW, O.SCSA_SLOT1_ROW,
  O.SCSA_IN_FORCE_AN, O.SCSA_ZONE_OPEN, O.SA_STAT_PKTS, O.SA_STAT_OCTETS, O.SA_STAT_PKTS_ENCRYPTED,
  O.SA_STAT_NOT_VALID, O.SA_STAT_COMMIT_LATE, O.SA_STAT_TX_LOST, O.CALLROOM_OCCUPANCY, O.CALLROOM_PEAK,
  O.QUEUE_OCCUPANCY, O.QUEUE_NODE, O.BUFP_USED_CELLS, O.BUF_HEADROOM_USED, O.FLT_SRC_CLASS, O.FLT_SRC_EVENTS,
  O.FLT_SRC_LAST_AT, O.FLT_STATUS, O.FLT_FATAL_SINCE_BOOT, O.FLT_LOG_LAST_SEQ, O.FLT_LOG_OVERWRITTEN,
  O.FLT_EVENT_LOST, O.FLT_FIRST_SEVERE, O.FLT_LOG_RECORD, O.PMC_VALUE, O.PMC_STATUS, O.PEER_KEY, F.mode, F.draws,
  F.out, F.sess, F.groups, F.ring, F.pcieDma, F.pciePending, F.pcieServed, F.faults, F.vault, F.checkKey,
  F.storeKey, F.keyTests, F.keyRestart, F.keyScrub, F.saRecs, F.saCtxs, F.banks, F.pipe, F.clsx, F.queues, F.nodes,
  F.pairs, F.ports, F.laps, F.pmc, F.lc, F.la, F.keyScrubFrom, F.keyReseed, F.keyRequests]

theorem Device.lookasideJobStart_keeps {W : List Nat} {a : Device} {n : Nat} {x : Descriptor} {p : LaParams} {src : Bytes} {aad : Bytes} {d : Device} (hW : Sub Touch.lookasideJobStart W) (h : Keeps W a d) :
    Keeps W a (Device.lookasideJobStart n x p src aad d) := by
  unfold Device.lookasideJobStart
  try dsimp only
  repeat' first
    | with_reducible exact h | with_reducible apply Keeps.ite
    | with_reducible refine Device.dmaAdvance_keeps (subT (by decide +kernel) hW) ?_
    | with_reducible refine Device.setLaLast_keeps (subT (by decide +kernel) hW) ?_
    | with_reducible refine Device.laTake_keeps (subT (by decide +kernel) hW) ?_
    | with_reducible refine Device.laRotate_keeps (subT (by decide +kernel) hW) ?_ | split

def Touch.laProcessed : List Nat :=
  [O.LA_BYTES, O.PMC_VALUE, O.PMC_STATUS, F.out, F.pciePending, F.pmc]

theorem Device.laProcessed_keeps {W : List Nat} {a : Device} {d : Device} {ring : Nat} {n : Nat} (hW : Sub Touch.laProcessed W) (h : Keeps W a d) :
    Keeps W a (Device.laProcessed d ring n) := by
  unfold Device.laProcessed
  try dsimp only
  repeat' first
    | with_reducible exact h | with_reducible assumption | exact memT (by decide +kernel) hW
    | with_reducible apply Keeps.elim | with_reducible refine Device.add64_keeps ?_ ?_
    | with_reducible refine Device.pmcHub_keeps (subT (by decide +kernel) hW) ?_ | intro _ _ hq | intro _

def Touch.lookasideSliceYield : List Nat :=
  [O.LA_BYTES, O.LA_CONTEXTS_BUSY, O.PMC_VALUE, O.PMC_STATUS, F.out, F.pciePending, F.pmc, F.la]

theorem Device.lookasideSliceYield_keeps {W : List Nat} {a : Device} {n : Nat} {d : Device} (hW : Sub Touch.lookasideSliceYield W) (h : Keeps W a d) :
    Keeps W a (Device.lookasideSliceYield n d) := by
  unfold Device.lookasideSliceYield
  try dsimp only
  repeat' first
    | with_reducible exact h | with_reducible assumption | with_reducible apply Keeps.ite
    | with_reducible refine Device.setJobs_keeps (subT (by decide +kernel) hW) ?_
    | with_reducible refine Device.laProcessed_keeps (subT (by decide +kernel) hW) ?_
    | with_reducible refine Device.laRotate_keeps (subT (by decide +kernel) hW) ?_ | intro _ _ hq | intro _ | split
    | dsimp only

def Touch.laWrite : List Nat :=
  [F.out]

theorem Device.laWrite_keeps {W : List Nat} {a : Device} {d : Device} {j : LaJob} {res : LaResult} {kind : Bytes} (hW : Sub Touch.laWrite W) (h : Keeps W a d) :
    Keeps W a (Device.laWrite d j res kind) := by
  unfold Device.laWrite
  try dsimp only
  repeat' first
    | with_reducible exact h | with_reducible apply Keeps.ite
    | with_reducible refine Device.emit_keeps (subT (by decide +kernel) hW) ?_ | split

def Touch.laEnd : List Nat :=
  [O.RING_HEAD, O.RING_TAIL, O.RING_STATE, O.RING_COMPLETED, O.RING_REJECTED, O.LA_AUTH_FAILS, O.PMC_VALUE,
  O.PMC_STATUS, F.draws, F.out, F.pcieDma, F.pciePending, F.pmc]

theorem Device.laEnd_keeps {W : List Nat} {a : Device} {d : Device} {j : LaJob} {pcieError : Bool} (hW : Sub Touch.laEnd W) (h : Keeps W a d) :
    Keeps W a (Device.laEnd d j pcieError) := by
  unfold Device.laEnd
  try dsimp only
  repeat' first
    | with_reducible exact h | with_reducible assumption | exact memT (by decide +kernel) hW
    | with_reducible apply Keeps.ite | with_reducible refine Device.unstated_keeps (subT (by decide +kernel) hW) ?_
    | with_reducible refine Device.dmaFinish_keeps (subT (by decide +kernel) hW) ?_
    | with_reducible refine Device.inc64_keeps ?_ ?_
    | with_reducible refine Device.laWrite_keeps (subT (by decide +kernel) hW) ?_ | with_reducible apply Keeps.ite2
    | intro _ _ hq | intro _ | split

def Touch.lookasideJobComplete : List Nat :=
  [O.LOCK, O.GROUP_OWNER, O.GROUP_STATE, O.GROUP_WRITES, O.GROUP_FAIL_ADDRESS, O.GROUP_FLAGS, O.SESSION_STATE,
  O.SESSION_ROLE, O.SESSION_CA, O.SESSION_ID, O.SESSION_LAST_COUNTER, O.RING_ENABLE, O.RING_HEAD, O.RING_TAIL,
  O.RING_STATE, O.RING_COMPLETED, O.RING_REJECTED, O.VAULT_CMD, O.LA_BYTES, O.LA_AUTH_FAILS, O.LA_CONTEXTS_BUSY,
  O.GUN_STATE, O.GUN_OWNER, O.GUN_FLAGS, O.FLT_SRC_EVENTS, O.FLT_SRC_LAST_AT, O.FLT_LOG_LAST_SEQ,
  O.FLT_LOG_OVERWRITTEN, O.FLT_EVENT_LOST, O.FLT_FIRST_SEVERE, O.FLT_LOG_RECORD, O.PMC_VALUE, O.PMC_STATUS,
  F.draws, F.out, F.sess, F.groups, F.ring, F.pcieDma, F.pciePending, F.faults, F.clsx, F.pmc, F.la]

theorem Device.lookasideJobComplete_keeps {W : List Nat} {a : Device} {n : Nat} {pcieError : Bool} {d : Device} (hW : Sub Touch.lookasideJobComplete W) (h : Keeps W a d) :
    Keeps W a (Device.lookasideJobComplete n pcieError d) := by
  unfold Device.lookasideJobComplete
  try dsimp only
  repeat' first
    | with_reducible exact h | with_reducible assumption | with_reducible apply Keeps.ite
    | with_reducible refine Device.setJobs_keeps (subT (by decide +kernel) hW) ?_
    | with_reducible refine Device.laProcessed_keeps (subT (by decide +kernel) hW) ?_
    | with_reducible refine Device.laEnd_keeps (subT (by decide +kernel) hW) ?_
    | with_reducible refine Device.jobGone_keeps (subT (by decide +kernel) hW) ?_
    | with_reducible refine Device.laRotate_keeps (subT (by decide +kernel) hW) ?_ | intro _ _ hq | intro _ | split

end Sys2Proof.Machine
end

