-- ==== Sys2Proof/Laws/KeepsClassifier.lean ====
section
/-!
SUPPORT. The places that each operation of Machine/Classifier.lean may change (Laws/Keeps.lean).
-/
set_option Elab.async false
set_option linter.all false
set_option linter.unusedTactic false
set_option linter.unreachableTactic false
set_option linter.style.longLine false
namespace Sys2Proof.Machine

def Touch.setPairCount : List Nat :=
  [F.clsx]

theorem Device.setPairCount_keeps {W : List Nat} {a : Device} {d : Device} {port : Nat} {ca : Nat} {n : Nat} (hW : Sub Touch.setPairCount W) (h : Keeps W a d) :
    Keeps W a (Device.setPairCount d port ca n) := by
  unfold Device.setPairCount
  try dsimp only
  repeat' first
    | with_reducible exact h | with_reducible refine Device.setCls_keeps (subT (by decide +kernel) hW) ?_

def Touch.countEntry : List Nat :=
  [O.LEARN_ENTRIES, O.CLS_ENTRIES, F.clsx]

theorem Device.countEntry_keeps {W : List Nat} {a : Device} {e : ClsEnt} {d : Device} (hW : Sub Touch.countEntry W) (h : Keeps W a d) :
    Keeps W a (Device.countEntry e d) := by
  unfold Device.countEntry
  try dsimp only
  repeat' first
    | with_reducible exact h | exact memT (by decide +kernel) hW | with_reducible apply Keeps.ite
    | with_reducible refine Device.wr_keeps ?_ ?_
    | with_reducible refine Device.setPairCount_keeps (subT (by decide +kernel) hW) ?_ | split

def Touch.uncountEntry : List Nat :=
  Touch.countEntry

theorem Device.uncountEntry_keeps {W : List Nat} {a : Device} {e : ClsEnt} {d : Device} (hW : Sub Touch.uncountEntry W) (h : Keeps W a d) :
    Keeps W a (Device.uncountEntry e d) := by
  unfold Device.uncountEntry
  try dsimp only
  repeat' first
    | with_reducible exact h | exact memT (by decide +kernel) hW | with_reducible apply Keeps.ite
    | with_reducible refine Device.wr_keeps ?_ ?_
    | with_reducible refine Device.setPairCount_keeps (subT (by decide +kernel) hW) ?_ | split

def Touch.setTable : List Nat :=
  [F.clsx]

theorem Device.setTable_keeps {W : List Nat} {a : Device} {d : Device} {l : List (Nat × ClsEnt)} (hW : Sub Touch.setTable W) (h : Keeps W a d) :
    Keeps W a (Device.setTable d l) := by
  unfold Device.setTable
  try dsimp only
  repeat' first
    | with_reducible exact h | with_reducible refine Device.setCls_keeps (subT (by decide +kernel) hW) ?_

def Touch.setWay : List Nat :=
  Touch.countEntry

theorem Device.setWay_keeps {W : List Nat} {a : Device} {d : Device} {pos : Nat} {e : ClsEnt} (hW : Sub Touch.setWay W) (h : Keeps W a d) :
    Keeps W a (Device.setWay d pos e) := by
  unfold Device.setWay
  try dsimp only
  repeat' first
    | with_reducible exact h | with_reducible assumption
    | with_reducible refine Device.countEntry_keeps (subT (by decide +kernel) hW) ?_
    | with_reducible refine Device.uncountEntry_keeps (subT (by decide +kernel) hW) ?_
    | with_reducible refine Device.setTable_keeps (subT (by decide +kernel) hW) ?_ | intro _ _ hq | intro _

def Touch.setBits : List Nat :=
  [F.clsx]

theorem Device.setBits_keeps {W : List Nat} {a : Device} {d : Device} {pos : Nat} {result : Nat} (hW : Sub Touch.setBits W) (h : Keeps W a d) :
    Keeps W a (Device.setBits d pos result) := by
  unfold Device.setBits
  try dsimp only
  repeat' first
    | with_reducible exact h | with_reducible assumption
    | with_reducible refine Device.setTable_keeps (subT (by decide +kernel) hW) ?_ | intro _ _ hq | intro _

def Touch.setCacheFrame : List Nat :=
  [F.clsx]

theorem Device.setCacheFrame_keeps {W : List Nat} {a : Device} {d : Device} {f : Nat} {v : Nat} (hW : Sub Touch.setCacheFrame W) (h : Keeps W a d) :
    Keeps W a (Device.setCacheFrame d f v) := by
  unfold Device.setCacheFrame
  try dsimp only
  repeat' first
    | with_reducible exact h | with_reducible refine Device.setCls_keeps (subT (by decide +kernel) hW) ?_

def Touch.markDirty : List Nat :=
  [F.clsx]

theorem Device.markDirty_keeps {W : List Nat} {a : Device} {d : Device} {b : Nat} (hW : Sub Touch.markDirty W) (h : Keeps W a d) :
    Keeps W a (Device.markDirty d b) := by
  unfold Device.markDirty
  try dsimp only
  repeat' first
    | with_reducible exact h | with_reducible apply Keeps.ite
    | with_reducible refine Device.setCacheFrame_keeps (subT (by decide +kernel) hW) ?_ | split

def Touch.setShown : List Nat :=
  [F.clsx]

theorem Device.setShown_keeps {W : List Nat} {a : Device} {d : Device} {pos : Nat} {r : Nat} (hW : Sub Touch.setShown W) (h : Keeps W a d) :
    Keeps W a (Device.setShown d pos r) := by
  unfold Device.setShown
  try dsimp only
  repeat' first
    | with_reducible exact h | with_reducible refine Device.setCls_keeps (subT (by decide +kernel) hW) ?_

def Touch.syncWay : List Nat :=
  [F.clsx]

theorem Device.syncWay_keeps {W : List Nat} {a : Device} {d : Device} {pos : Nat} (hW : Sub Touch.syncWay W) (h : Keeps W a d) :
    Keeps W a (Device.syncWay d pos) := by
  unfold Device.syncWay
  try dsimp only
  repeat' first
    | with_reducible exact h | with_reducible apply Keeps.ite
    | with_reducible refine Device.setBits_keeps (subT (by decide +kernel) hW) ?_
    | with_reducible refine Device.setShown_keeps (subT (by decide +kernel) hW) ?_ | split

def Touch.writeLineBits : List Nat :=
  Touch.fullLine

theorem Device.writeLineBits_keeps {W : List Nat} {a : Device} {d : Device} {l : Nat} (hW : Sub Touch.writeLineBits W) (h : Keeps W a d) :
    Keeps W a (Device.writeLineBits d l) := by
  unfold Device.writeLineBits
  try dsimp only
  repeat' first
    | with_reducible exact h | with_reducible apply Keeps.ite
    | with_reducible refine Device.fullLine_keeps (subT (by decide +kernel) hW) ?_
    | with_reducible refine Device.syncWay_keeps (subT (by decide +kernel) hW) ?_ | with_reducible apply Keeps.ite2
    | split

def Touch.writeBucket : List Nat :=
  Touch.fullLine

theorem Device.writeBucket_keeps {W : List Nat} {a : Device} {d : Device} {b : Nat} (hW : Sub Touch.writeBucket W) (h : Keeps W a d) :
    Keeps W a (Device.writeBucket d b) := by
  unfold Device.writeBucket
  try dsimp only
  repeat' first
    | with_reducible exact h | with_reducible refine Device.writeLineBits_keeps (subT (by decide +kernel) hW) ?_

def Touch.hideBucket : List Nat :=
  [F.clsx]

theorem Device.hideBucket_keeps {W : List Nat} {a : Device} {d : Device} {b : Nat} (hW : Sub Touch.hideBucket W) (h : Keeps W a d) :
    Keeps W a (Device.hideBucket d b) := by
  unfold Device.hideBucket
  try dsimp only
  repeat' first
    | with_reducible exact h | with_reducible assumption | with_reducible apply Keeps.foldl
    | with_reducible refine Device.setShown_keeps (subT (by decide +kernel) hW) ?_ | intro _ _ hq | intro _

def Touch.dropFrame : List Nat :=
  [F.clsx]

theorem Device.dropFrame_keeps {W : List Nat} {a : Device} {d : Device} {f : Nat} (hW : Sub Touch.dropFrame W) (h : Keeps W a d) :
    Keeps W a (Device.dropFrame d f) := by
  unfold Device.dropFrame
  try dsimp only
  repeat' first
    | with_reducible exact h | with_reducible apply Keeps.ite
    | with_reducible refine Device.hideBucket_keeps (subT (by decide +kernel) hW) ?_
    | with_reducible refine Device.setCacheFrame_keeps (subT (by decide +kernel) hW) ?_ | split

def Touch.fillBucket : List Nat :=
  Touch.fullLine

theorem Device.fillBucket_keeps {W : List Nat} {a : Device} {d : Device} {b : Nat} (hW : Sub Touch.fillBucket W) (h : Keeps W a d) :
    Keeps W a (Device.fillBucket d b) := by
  unfold Device.fillBucket
  try dsimp only
  repeat' first
    | with_reducible exact h | with_reducible apply Keeps.ite
    | with_reducible refine Device.writeBucket_keeps (subT (by decide +kernel) hW) ?_
    | with_reducible refine Device.dropFrame_keeps (subT (by decide +kernel) hW) ?_
    | with_reducible refine Device.setCacheFrame_keeps (subT (by decide +kernel) hW) ?_ | split

def Touch.touchBits : List Nat :=
  Touch.fullLine

theorem Device.touchBits_keeps {W : List Nat} {a : Device} {d : Device} {pos : Nat} {result : Nat} (hW : Sub Touch.touchBits W) (h : Keeps W a d) :
    Keeps W a (Device.touchBits d pos result) := by
  unfold Device.touchBits
  try dsimp only
  repeat' first
    | with_reducible exact h | with_reducible apply Keeps.ite
    | with_reducible refine Device.setShown_keeps (subT (by decide +kernel) hW) ?_
    | with_reducible refine Device.markDirty_keeps (subT (by decide +kernel) hW) ?_
    | with_reducible refine Device.fullLine_keeps (subT (by decide +kernel) hW) ?_
    | with_reducible refine Device.setBits_keeps (subT (by decide +kernel) hW) ?_ | with_reducible apply Keeps.ite2
    | split

def Touch.lookupUnits : List Nat :=
  Touch.pmcAdd

theorem Device.lookupUnits_keeps {W : List Nat} {a : Device} {d : Device} {b : Nat} {n : Nat} (hW : Sub Touch.lookupUnits W) (h : Keeps W a d) :
    Keeps W a (Device.lookupUnits d b n) := by
  unfold Device.lookupUnits
  try dsimp only
  repeat' first
    | with_reducible exact h | with_reducible refine Device.pmcHub_keeps (subT (by decide +kernel) hW) ?_

def Touch.lookup : List Nat :=
  [O.LOCK, O.GROUP_OWNER, O.GROUP_STATE, O.GROUP_WRITES, O.GROUP_FAIL_ADDRESS, O.GROUP_FLAGS, O.SESSION_STATE,
  O.SESSION_ROLE, O.SESSION_CA, O.SESSION_ID, O.SESSION_LAST_COUNTER, O.ROLE_ROOT, O.RING_ENABLE, O.RING_HEAD,
  O.RING_TAIL, O.RING_STATE, O.RING_COMPLETED, O.RING_REJECTED, O.INJECT_REFUSED, O.MODE, O.MODE_CMD,
  O.MODE_ENTERED_AT, O.MODE_CAUSE, O.RUNAHEAD_FALSE_STARTS, O.RUNAHEAD_WASTED_CELLS, O.BANK_DISCARDS,
  O.VAULT_STATE, O.VAULT_HANDLE, O.VAULT_LEVEL, O.VAULT_PURPOSE, O.VAULT_KEY_BITS, O.VAULT_COUNTED,
  O.VAULT_USES_LEFT, O.VAULT_ORIGIN, O.VAULT_PARENT, O.VAULT_CREATED_AT, O.VAULT_ARG_KEY, O.VAULT_CMD,
  O.VAULT_RESULT_HANDLE, O.DRBG_STATE, O.LA_CONTEXTS_BUSY, O.GUN_STATE, O.GUN_OWNER, O.GUN_FLAGS, O.PORT_TX_FRAMES,
  O.PORT_TX_BYTES, O.PORT_TX_TRUNCATED, O.PORT_FC_TX_XOFF_C0, O.PORT_FC_TX_XOFF_C1, O.PORT_FC_TX_XOFF_C2,
  O.PORT_FC_TX_XOFF_C3, O.PORT_FC_TX_XOFF_C4, O.PORT_FC_TX_XOFF_C5, O.PORT_FC_TX_XOFF_C6, O.PORT_FC_TX_XOFF_C7,
  O.SC_STATUS, O.SA_STATE, O.SA_KEK, O.SA_SLOT, O.SA_FLAGS, O.SA_CHANGED_AT, O.SCSA_SLOT0_ROW, O.SCSA_SLOT1_ROW,
  O.SCSA_IN_FORCE_AN, O.SCSA_ZONE_OPEN, O.SA_STAT_PKTS, O.SA_STAT_OCTETS, O.SA_STAT_PKTS_ENCRYPTED,
  O.SA_STAT_NOT_VALID, O.SA_STAT_COMMIT_LATE, O.SA_STAT_TX_LOST, O.CALLROOM_OCCUPANCY, O.CALLROOM_PEAK,
  O.CLS_CACHE_HITS, O.QUEUE_OCCUPANCY, O.QUEUE_NODE, O.BUFP_USED_CELLS, O.BUF_HEADROOM_USED, O.MEM_NODE_FAILS,
  O.MEM_CTR_READONLY, O.MEM_TREE_HITS, O.MEM_TREE_MISSES, O.FLT_SRC_CLASS, O.FLT_SRC_EVENTS, O.FLT_SRC_LAST_AT,
  O.FLT_STATUS, O.FLT_FATAL_SINCE_BOOT, O.FLT_LOG_LAST_SEQ, O.FLT_LOG_OVERWRITTEN, O.FLT_EVENT_LOST,
  O.FLT_FIRST_SEVERE, O.FLT_LOG_RECORD, O.PMC_VALUE, O.PMC_STATUS, O.PEER_KEY, F.mode, F.draws, F.out, F.sess,
  F.groups, F.ring, F.pcieDma, F.pciePending, F.faults, F.vault, F.checkKey, F.storeKey, F.keyTests, F.keyRestart,
  F.keyScrub, F.saRecs, F.saCtxs, F.banks, F.pipe, F.clsx, F.queues, F.nodes, F.pairs, F.ports, F.laps, F.pmc,
  F.memRest, F.lc, F.la, F.keyScrubFrom, F.keyReseed, F.keyRequests]

theorem Device.lookup_keeps {W : List Nat} {a : Device} {d : Device} {key : Nat} (hW : Sub Touch.lookup W) (h : Keeps W a d) :
    Keeps W a (Device.lookup d key).2 := by
  unfold Device.lookup
  try dsimp only
  repeat' first
    | with_reducible exact h | with_reducible assumption | exact memT (by decide +kernel) hW
    | with_reducible refine Device.inc64_keeps ?_ ?_
    | with_reducible refine Device.touchBits_keeps (subT (by decide +kernel) hW) ?_ | split

def Touch.readBucket : List Nat :=
  Touch.readLine

theorem Device.readBucket_keeps {W : List Nat} {a : Device} {d : Device} {b : Nat} (hW : Sub Touch.readBucket W) (h : Keeps W a d) :
    Keeps W a (Device.readBucket d b).2 := by
  unfold Device.readBucket
  try dsimp only
  repeat' first
    | with_reducible exact h | with_reducible refine Device.readLine_keeps (subT (by decide +kernel) hW) ?_

def Touch.readLookup : List Nat :=
  Touch.readLine

theorem Device.readLookup_keeps {W : List Nat} {a : Device} {d : Device} {key : Nat} (hW : Sub Touch.readLookup W) (h : Keeps W a d) :
    Keeps W a (Device.readLookup d key).2 := by
  unfold Device.readLookup
  try dsimp only
  repeat' first
    | with_reducible exact h | with_reducible assumption
    | with_reducible refine Device.readBucket_keeps (subT (by decide +kernel) hW) ?_ | intro _ _ hq | intro _
    | dsimp only

def Touch.fillRead : List Nat :=
  Touch.fullLine

theorem Device.fillRead_keeps {W : List Nat} {a : Device} {d : Device} {x : LookupRead} {b : Nat} (hW : Sub Touch.fillRead W) (h : Keeps W a d) :
    Keeps W a (Device.fillRead d x b) := by
  unfold Device.fillRead
  try dsimp only
  repeat' first
    | with_reducible exact h | with_reducible apply Keeps.ite
    | with_reducible refine Device.fillBucket_keeps (subT (by decide +kernel) hW) ?_ | split

def Touch.hitKey : List Nat :=
  Touch.fullLine

theorem Device.hitKey_keeps {W : List Nat} {a : Device} {d : Device} {x : LookupRead} {key : Nat} (hW : Sub Touch.hitKey W) (h : Keeps W a d) :
    Keeps W a (Device.hitKey d x key) := by
  unfold Device.hitKey
  try dsimp only
  repeat' first
    | with_reducible exact h | with_reducible assumption | with_reducible apply Keeps.elim
    | with_reducible refine Device.touchBits_keeps (subT (by decide +kernel) hW) ?_ | intro _ _ hq | intro _

def Touch.lookupReturn : List Nat :=
  Touch.fullLine

theorem Device.lookupReturn_keeps {W : List Nat} {a : Device} {d : Device} {key : Nat} {x : LookupRead} (hW : Sub Touch.lookupReturn W) (h : Keeps W a d) :
    Keeps W a (Device.lookupReturn d key x).2 := by
  unfold Device.lookupReturn
  try dsimp only
  repeat' first
    | with_reducible exact h | with_reducible apply Keeps.ite
    | with_reducible refine Device.fillRead_keeps (subT (by decide +kernel) hW) ?_
    | with_reducible refine Device.hitKey_keeps (subT (by decide +kernel) hW) ?_ | with_reducible apply Keeps.ite2
    | split

def Touch.engineRead : List Nat :=
  Touch.readLine

theorem Device.engineRead_keeps {W : List Nat} {a : Device} {d : Device} {b : Nat} (hW : Sub Touch.engineRead W) (h : Keeps W a d) :
    Keeps W a (Device.engineRead d b).2 := by
  unfold Device.engineRead
  try dsimp only
  repeat' first
    | with_reducible exact h | with_reducible apply Keeps.ite
    | with_reducible refine Device.readBucket_keeps (subT (by decide +kernel) hW) ?_
    | with_reducible apply Keeps.ite2 | split

def Touch.engineReads : List Nat :=
  Touch.readLine

theorem Device.engineReads_keeps {W : List Nat} {a : Device} {d : Device} {key : Nat} (hW : Sub Touch.engineReads W) (h : Keeps W a d) :
    Keeps W a (Device.engineReads d key).2 := by
  unfold Device.engineReads
  try dsimp only
  repeat' first
    | with_reducible exact h | with_reducible refine Device.engineRead_keeps (subT (by decide +kernel) hW) ?_

def Touch.walk : List Nat :=
  Touch.readLine

theorem Device.walk_keeps {W : List Nat} {a : Device} {x0 : Nat} {x1 : Nat} {x2 : Option Nat} {x3 : List (Nat × Nat)} {d : Device} (hW : Sub Touch.walk W) (h : Keeps W a d) :
    Keeps W a (Device.walk x0 x1 x2 x3 d).2 := by
  induction x0 generalizing x1 x2 x3 d with
  | zero =>
    unfold Device.walk
    try dsimp only
    repeat' first
      | with_reducible exact h | with_reducible assumption | with_reducible apply Keeps.ite
      | with_reducible refine Device.draw_keeps (subT (by decide +kernel) hW) ?_
      | with_reducible refine Device.engineRead_keeps (subT (by decide +kernel) hW) ?_
      | with_reducible apply Keeps.ite2 | split
  | succ _ ih =>
    unfold Device.walk
    try dsimp only
    repeat' first
      | with_reducible exact h | with_reducible apply ih | with_reducible assumption | with_reducible apply Keeps.ite
      | with_reducible refine Device.draw_keeps (subT (by decide +kernel) hW) ?_
      | with_reducible refine Device.engineRead_keeps (subT (by decide +kernel) hW) ?_
      | with_reducible apply Keeps.ite2 | split

def Touch.victim : List Nat :=
  [F.draws]

theorem Device.victim_keeps {W : List Nat} {a : Device} {d : Device} {c : Nat × Nat} (hW : Sub Touch.victim W) (h : Keeps W a d) :
    Keeps W a (Device.victim d c).2 := by
  unfold Device.victim
  try dsimp only
  repeat' first
    | with_reducible exact h | with_reducible assumption | with_reducible apply Keeps.ite
    | with_reducible apply Keeps.foldl | with_reducible refine Device.draw_keeps (subT (by decide +kernel) hW) ?_
    | with_reducible apply Keeps.ite2 | with_reducible apply Keeps.foldl2 | intro _ _ hq | intro _ | split

def Touch.plan : List Nat :=
  Touch.readLine

theorem Device.plan_keeps {W : List Nat} {a : Device} {d : Device} {key : Nat} (hW : Sub Touch.plan W) (h : Keeps W a d) :
    Keeps W a (Device.plan d key).2 := by
  unfold Device.plan
  try dsimp only
  repeat' first
    | with_reducible exact h | with_reducible assumption | with_reducible apply Keeps.ite
    | with_reducible refine Device.engineReads_keeps (subT (by decide +kernel) hW) ?_
    | with_reducible refine Device.walk_keeps (subT (by decide +kernel) hW) ?_
    | with_reducible refine Device.victim_keeps (subT (by decide +kernel) hW) ?_ | with_reducible apply Keeps.ite2
    | intro _ _ hq | intro _ | split | dsimp only

def Touch.staleReads : List Nat :=
  [F.pipe]

theorem Device.staleReads_keeps {W : List Nat} {a : Device} {d : Device} {b : Nat} (hW : Sub Touch.staleReads W) (h : Keeps W a d) :
    Keeps W a (Device.staleReads d b) := by
  unfold Device.staleReads
  try dsimp only
  repeat' first
    | with_reducible exact h | with_reducible assumption | with_reducible apply Keeps.ite
    | with_reducible refine Device.setPipe_keeps (subT (by decide +kernel) hW) ?_ | intro _ _ hq | intro _ | split
    | dsimp only

def Touch.writeWay : List Nat :=
  [O.LOCK, O.GROUP_OWNER, O.GROUP_STATE, O.GROUP_WRITES, O.GROUP_FAIL_ADDRESS, O.GROUP_FLAGS, O.SESSION_STATE,
  O.SESSION_ROLE, O.SESSION_CA, O.SESSION_ID, O.SESSION_LAST_COUNTER, O.ROLE_ROOT, O.RING_ENABLE, O.RING_HEAD,
  O.RING_TAIL, O.RING_STATE, O.RING_COMPLETED, O.RING_REJECTED, O.INJECT_REFUSED, O.MODE, O.MODE_CMD,
  O.MODE_ENTERED_AT, O.MODE_CAUSE, O.RUNAHEAD_FALSE_STARTS, O.RUNAHEAD_WASTED_CELLS, O.BANK_DISCARDS,
  O.VAULT_STATE, O.VAULT_HANDLE, O.VAULT_LEVEL, O.VAULT_PURPOSE, O.VAULT_KEY_BITS, O.VAULT_COUNTED,
  O.VAULT_USES_LEFT, O.VAULT_ORIGIN, O.VAULT_PARENT, O.VAULT_CREATED_AT, O.VAULT_ARG_KEY, O.VAULT_CMD,
  O.VAULT_RESULT_HANDLE, O.DRBG_STATE, O.LA_CONTEXTS_BUSY, O.GUN_STATE, O.GUN_OWNER, O.GUN_FLAGS, O.PORT_TX_FRAMES,
  O.PORT_TX_BYTES, O.PORT_TX_TRUNCATED, O.PORT_FC_TX_XOFF_C0, O.PORT_FC_TX_XOFF_C1, O.PORT_FC_TX_XOFF_C2,
  O.PORT_FC_TX_XOFF_C3, O.PORT_FC_TX_XOFF_C4, O.PORT_FC_TX_XOFF_C5, O.PORT_FC_TX_XOFF_C6, O.PORT_FC_TX_XOFF_C7,
  O.SC_STATUS, O.SA_STATE, O.SA_KEK, O.SA_SLOT, O.SA_FLAGS, O.SA_CHANGED_AT, O.SCSA_SLOT0_ROW, O.SCSA_SLOT1_ROW,
  O.SCSA_IN_FORCE_AN, O.SCSA_ZONE_OPEN, O.SA_STAT_PKTS, O.SA_STAT_OCTETS, O.SA_STAT_PKTS_ENCRYPTED,
  O.SA_STAT_NOT_VALID, O.SA_STAT_COMMIT_LATE, O.SA_STAT_TX_LOST, O.LEARN_ENTRIES, O.CALLROOM_OCCUPANCY,
  O.CALLROOM_PEAK, O.CLS_ENTRIES, O.QUEUE_OCCUPANCY, O.QUEUE_NODE, O.BUFP_USED_CELLS, O.BUF_HEADROOM_USED,
  O.MEM_NODE_FAILS, O.MEM_CTR_READONLY, O.MEM_TREE_HITS, O.MEM_TREE_MISSES, O.FLT_SRC_CLASS, O.FLT_SRC_EVENTS,
  O.FLT_SRC_LAST_AT, O.FLT_STATUS, O.FLT_FATAL_SINCE_BOOT, O.FLT_LOG_LAST_SEQ, O.FLT_LOG_OVERWRITTEN,
  O.FLT_EVENT_LOST, O.FLT_FIRST_SEVERE, O.FLT_LOG_RECORD, O.PMC_VALUE, O.PMC_STATUS, O.PEER_KEY, F.mode, F.draws,
  F.out, F.sess, F.groups, F.ring, F.pcieDma, F.pciePending, F.faults, F.vault, F.checkKey, F.storeKey, F.keyTests,
  F.keyRestart, F.keyScrub, F.saRecs, F.saCtxs, F.banks, F.pipe, F.clsx, F.queues, F.nodes, F.pairs, F.ports,
  F.laps, F.pmc, F.memRest, F.lc, F.la, F.keyScrubFrom, F.keyReseed, F.keyRequests]

theorem Device.writeWay_keeps {W : List Nat} {a : Device} {d : Device} {pos : Nat} {e : ClsEnt} (hW : Sub Touch.writeWay W) (h : Keeps W a d) :
    Keeps W a (Device.writeWay d pos e).2 := by
  unfold Device.writeWay
  try dsimp only
  repeat' first
    | with_reducible exact h | with_reducible apply Keeps.ite
    | with_reducible refine Device.fullLine_keeps (subT (by decide +kernel) hW) ?_
    | with_reducible refine Device.syncWay_keeps (subT (by decide +kernel) hW) ?_
    | with_reducible refine Device.setWay_keeps (subT (by decide +kernel) hW) ?_
    | with_reducible refine Device.setShown_keeps (subT (by decide +kernel) hW) ?_
    | with_reducible refine Device.staleReads_keeps (subT (by decide +kernel) hW) ?_
    | with_reducible apply Keeps.ite2 | split

def Touch.deleteWay : List Nat :=
  Touch.writeWay

theorem Device.deleteWay_keeps {W : List Nat} {a : Device} {d : Device} {pos : Nat} (hW : Sub Touch.deleteWay W) (h : Keeps W a d) :
    Keeps W a (Device.deleteWay d pos) := by
  unfold Device.deleteWay
  try dsimp only
  repeat' first
    | with_reducible exact h | with_reducible refine Device.writeWay_keeps (subT (by decide +kernel) hW) ?_

def Touch.moveEntry : List Nat :=
  [O.LOCK, O.GROUP_OWNER, O.GROUP_STATE, O.GROUP_WRITES, O.GROUP_FAIL_ADDRESS, O.GROUP_FLAGS, O.SESSION_STATE,
  O.SESSION_ROLE, O.SESSION_CA, O.SESSION_ID, O.SESSION_LAST_COUNTER, O.ROLE_ROOT, O.RING_ENABLE, O.RING_HEAD,
  O.RING_TAIL, O.RING_STATE, O.RING_COMPLETED, O.RING_REJECTED, O.INJECT_REFUSED, O.MODE, O.MODE_CMD,
  O.MODE_ENTERED_AT, O.MODE_CAUSE, O.RUNAHEAD_FALSE_STARTS, O.RUNAHEAD_WASTED_CELLS, O.BANK_DISCARDS,
  O.VAULT_STATE, O.VAULT_HANDLE, O.VAULT_LEVEL, O.VAULT_PURPOSE, O.VAULT_KEY_BITS, O.VAULT_COUNTED,
  O.VAULT_USES_LEFT, O.VAULT_ORIGIN, O.VAULT_PARENT, O.VAULT_CREATED_AT, O.VAULT_ARG_KEY, O.VAULT_CMD,
  O.VAULT_RESULT_HANDLE, O.DRBG_STATE, O.LA_CONTEXTS_BUSY, O.GUN_STATE, O.GUN_OWNER, O.GUN_FLAGS, O.PORT_TX_FRAMES,
  O.PORT_TX_BYTES, O.PORT_TX_TRUNCATED, O.PORT_FC_TX_XOFF_C0, O.PORT_FC_TX_XOFF_C1, O.PORT_FC_TX_XOFF_C2,
  O.PORT_FC_TX_XOFF_C3, O.PORT_FC_TX_XOFF_C4, O.PORT_FC_TX_XOFF_C5, O.PORT_FC_TX_XOFF_C6, O.PORT_FC_TX_XOFF_C7,
  O.SC_STATUS, O.SA_STATE, O.SA_KEK, O.SA_SLOT, O.SA_FLAGS, O.SA_CHANGED_AT, O.SCSA_SLOT0_ROW, O.SCSA_SLOT1_ROW,
  O.SCSA_IN_FORCE_AN, O.SCSA_ZONE_OPEN, O.SA_STAT_PKTS, O.SA_STAT_OCTETS, O.SA_STAT_PKTS_ENCRYPTED,
  O.SA_STAT_NOT_VALID, O.SA_STAT_COMMIT_LATE, O.SA_STAT_TX_LOST, O.LEARN_ENTRIES, O.CALLROOM_OCCUPANCY,
  O.CALLROOM_PEAK, O.CLS_ENTRIES, O.CLS_MOVES, O.QUEUE_OCCUPANCY, O.QUEUE_NODE, O.BUFP_USED_CELLS,
  O.BUF_HEADROOM_USED, O.MEM_NODE_FAILS, O.MEM_CTR_READONLY, O.MEM_TREE_HITS, O.MEM_TREE_MISSES, O.FLT_SRC_CLASS,
  O.FLT_SRC_EVENTS, O.FLT_SRC_LAST_AT, O.FLT_STATUS, O.FLT_FATAL_SINCE_BOOT, O.FLT_LOG_LAST_SEQ,
  O.FLT_LOG_OVERWRITTEN, O.FLT_EVENT_LOST, O.FLT_FIRST_SEVERE, O.FLT_LOG_RECORD, O.PMC_VALUE, O.PMC_STATUS,
  O.PEER_KEY, F.mode, F.draws, F.out, F.sess, F.groups, F.ring, F.pcieDma, F.pciePending, F.faults, F.vault,
  F.checkKey, F.storeKey, F.keyTests, F.keyRestart, F.keyScrub, F.saRecs, F.saCtxs, F.banks, F.pipe, F.clsx,
  F.queues, F.nodes, F.pairs, F.ports, F.laps, F.pmc, F.memRest, F.lc, F.la, F.keyScrubFrom, F.keyReseed,
  F.keyRequests]

theorem Device.moveEntry_keeps {W : List Nat} {a : Device} {ok : Bool × Device} {m : Nat × Nat} (hW : Sub Touch.moveEntry W) (h : Keeps W a ok.2) :
    Keeps W a (Device.moveEntry ok m).2 := by
  unfold Device.moveEntry
  try dsimp only
  repeat' first
    | with_reducible exact h | with_reducible assumption | exact memT (by decide +kernel) hW
    | with_reducible apply Keeps.ite | with_reducible refine Device.writeWay_keeps (subT (by decide +kernel) hW) ?_
    | with_reducible refine Device.inc64_keeps ?_ ?_
    | with_reducible refine Device.lookupUnits_keeps (subT (by decide +kernel) hW) ?_
    | with_reducible apply Keeps.ite2 | split

def Touch.evictAt : List Nat :=
  [O.CLS_EVICTIONS]

theorem Device.evictAt_keeps {W : List Nat} {a : Device} {d : Device} {pos : Nat} {key : Nat} (hW : Sub Touch.evictAt W) (h : Keeps W a d) :
    Keeps W a (Device.evictAt d pos key) := by
  unfold Device.evictAt
  try dsimp only
  repeat' first
    | with_reducible exact h | exact memT (by decide +kernel) hW | with_reducible apply Keeps.ite
    | with_reducible refine Device.inc64_keeps ?_ ?_ | split

def Touch.insert : List Nat :=
  [O.LOCK, O.GROUP_OWNER, O.GROUP_STATE, O.GROUP_WRITES, O.GROUP_FAIL_ADDRESS, O.GROUP_FLAGS, O.SESSION_STATE,
  O.SESSION_ROLE, O.SESSION_CA, O.SESSION_ID, O.SESSION_LAST_COUNTER, O.ROLE_ROOT, O.RING_ENABLE, O.RING_HEAD,
  O.RING_TAIL, O.RING_STATE, O.RING_COMPLETED, O.RING_REJECTED, O.INJECT_REFUSED, O.MODE, O.MODE_CMD,
  O.MODE_ENTERED_AT, O.MODE_CAUSE, O.RUNAHEAD_FALSE_STARTS, O.RUNAHEAD_WASTED_CELLS, O.BANK_DISCARDS,
  O.VAULT_STATE, O.VAULT_HANDLE, O.VAULT_LEVEL, O.VAULT_PURPOSE, O.VAULT_KEY_BITS, O.VAULT_COUNTED,
  O.VAULT_USES_LEFT, O.VAULT_ORIGIN, O.VAULT_PARENT, O.VAULT_CREATED_AT, O.VAULT_ARG_KEY, O.VAULT_CMD,
  O.VAULT_RESULT_HANDLE, O.DRBG_STATE, O.LA_CONTEXTS_BUSY, O.GUN_STATE, O.GUN_OWNER, O.GUN_FLAGS, O.PORT_TX_FRAMES,
  O.PORT_TX_BYTES, O.PORT_TX_TRUNCATED, O.PORT_FC_TX_XOFF_C0, O.PORT_FC_TX_XOFF_C1, O.PORT_FC_TX_XOFF_C2,
  O.PORT_FC_TX_XOFF_C3, O.PORT_FC_TX_XOFF_C4, O.PORT_FC_TX_XOFF_C5, O.PORT_FC_TX_XOFF_C6, O.PORT_FC_TX_XOFF_C7,
  O.SC_STATUS, O.SA_STATE, O.SA_KEK, O.SA_SLOT, O.SA_FLAGS, O.SA_CHANGED_AT, O.SCSA_SLOT0_ROW, O.SCSA_SLOT1_ROW,
  O.SCSA_IN_FORCE_AN, O.SCSA_ZONE_OPEN, O.SA_STAT_PKTS, O.SA_STAT_OCTETS, O.SA_STAT_PKTS_ENCRYPTED,
  O.SA_STAT_NOT_VALID, O.SA_STAT_COMMIT_LATE, O.SA_STAT_TX_LOST, O.LEARN_ENTRIES, O.CALLROOM_OCCUPANCY,
  O.CALLROOM_PEAK, O.CLS_ENTRIES, O.CLS_INSERTS, O.CLS_MOVES, O.CLS_EVICTIONS, O.QUEUE_OCCUPANCY, O.QUEUE_NODE,
  O.BUFP_USED_CELLS, O.BUF_HEADROOM_USED, O.MEM_TAG_FAILS, O.MEM_NODE_FAILS, O.MEM_CTR_READONLY,
  O.MEM_POISON_COUNT, O.MEM_TREE_HITS, O.MEM_TREE_MISSES, O.MEM_POISON_OFFSET, O.MEM_POISON_AT, O.MEM_POISON_CAUSE,
  O.FLT_SRC_CLASS, O.FLT_SRC_EVENTS, O.FLT_SRC_LAST_AT, O.FLT_STATUS, O.FLT_FATAL_SINCE_BOOT, O.FLT_LOG_LAST_SEQ,
  O.FLT_LOG_OVERWRITTEN, O.FLT_EVENT_LOST, O.FLT_FIRST_SEVERE, O.FLT_LOG_RECORD, O.PMC_VALUE, O.PMC_STATUS,
  O.PEER_KEY, F.mode, F.draws, F.out, F.sess, F.groups, F.ring, F.pcieDma, F.pciePending, F.faults, F.vault,
  F.checkKey, F.storeKey, F.keyTests, F.keyRestart, F.keyScrub, F.saRecs, F.saCtxs, F.banks, F.pipe, F.clsx,
  F.queues, F.nodes, F.pairs, F.ports, F.laps, F.pmc, F.memRest, F.lc, F.la, F.keyScrubFrom, F.keyReseed,
  F.keyRequests]

theorem Device.insert_keeps {W : List Nat} {a : Device} {d : Device} {e : ClsEnt} (hW : Sub Touch.insert W) (h : Keeps W a d) :
    Keeps W a (Device.insert d e).2 := by
  unfold Device.insert
  try dsimp only
  repeat' first
    | with_reducible exact h | with_reducible assumption | exact memT (by decide +kernel) hW
    | with_reducible apply Keeps.ite | with_reducible apply Keeps.foldl
    | with_reducible refine Device.plan_keeps (subT (by decide +kernel) hW) ?_
    | with_reducible refine Device.moveEntry_keeps (subT (by decide +kernel) hW) ?_
    | with_reducible refine Device.evictAt_keeps (subT (by decide +kernel) hW) ?_
    | with_reducible refine Device.lookupUnits_keeps (subT (by decide +kernel) hW) ?_
    | with_reducible refine Device.writeWay_keeps (subT (by decide +kernel) hW) ?_
    | with_reducible refine Device.inc64_keeps ?_ ?_ | with_reducible apply Keeps.ite2
    | with_reducible apply Keeps.foldl2 | intro _ _ hq | intro _ | split

def Touch.serveJob : List Nat :=
  [O.LOCK, O.GROUP_OWNER, O.GROUP_STATE, O.GROUP_WRITES, O.GROUP_FAIL_ADDRESS, O.GROUP_FLAGS, O.SESSION_STATE,
  O.SESSION_ROLE, O.SESSION_CA, O.SESSION_ID, O.SESSION_LAST_COUNTER, O.ROLE_ROOT, O.RING_ENABLE, O.RING_HEAD,
  O.RING_TAIL, O.RING_STATE, O.RING_COMPLETED, O.RING_REJECTED, O.INJECT_REFUSED, O.MODE, O.MODE_CMD,
  O.MODE_ENTERED_AT, O.MODE_CAUSE, O.RUNAHEAD_FALSE_STARTS, O.RUNAHEAD_WASTED_CELLS, O.BANK_DISCARDS,
  O.VAULT_STATE, O.VAULT_HANDLE, O.VAULT_LEVEL, O.VAULT_PURPOSE, O.VAULT_KEY_BITS, O.VAULT_COUNTED,
  O.VAULT_USES_LEFT, O.VAULT_ORIGIN, O.VAULT_PARENT, O.VAULT_CREATED_AT, O.VAULT_ARG_KEY, O.VAULT_CMD,
  O.VAULT_RESULT_HANDLE, O.DRBG_STATE, O.LA_CONTEXTS_BUSY, O.GUN_STATE, O.GUN_OWNER, O.GUN_FLAGS, O.PORT_TX_FRAMES,
  O.PORT_TX_BYTES, O.PORT_TX_TRUNCATED, O.PORT_FC_TX_XOFF_C0, O.PORT_FC_TX_XOFF_C1, O.PORT_FC_TX_XOFF_C2,
  O.PORT_FC_TX_XOFF_C3, O.PORT_FC_TX_XOFF_C4, O.PORT_FC_TX_XOFF_C5, O.PORT_FC_TX_XOFF_C6, O.PORT_FC_TX_XOFF_C7,
  O.SC_STATUS, O.SA_STATE, O.SA_KEK, O.SA_SLOT, O.SA_FLAGS, O.SA_CHANGED_AT, O.SCSA_SLOT0_ROW, O.SCSA_SLOT1_ROW,
  O.SCSA_IN_FORCE_AN, O.SCSA_ZONE_OPEN, O.SA_STAT_PKTS, O.SA_STAT_OCTETS, O.SA_STAT_PKTS_ENCRYPTED,
  O.SA_STAT_NOT_VALID, O.SA_STAT_COMMIT_LATE, O.SA_STAT_TX_LOST, O.LEARN_ENTRIES, O.CALLROOM_OCCUPANCY,
  O.CALLROOM_PEAK, O.CLS_CMD, O.CLS_ENTRIES, O.CLS_INSERTS, O.CLS_MOVES, O.CLS_EVICTIONS, O.QUEUE_OCCUPANCY,
  O.QUEUE_NODE, O.BUFP_USED_CELLS, O.BUF_HEADROOM_USED, O.MEM_TAG_FAILS, O.MEM_NODE_FAILS, O.MEM_CTR_READONLY,
  O.MEM_POISON_COUNT, O.MEM_TREE_HITS, O.MEM_TREE_MISSES, O.MEM_POISON_OFFSET, O.MEM_POISON_AT, O.MEM_POISON_CAUSE,
  O.FLT_SRC_CLASS, O.FLT_SRC_EVENTS, O.FLT_SRC_LAST_AT, O.FLT_STATUS, O.FLT_FATAL_SINCE_BOOT, O.FLT_LOG_LAST_SEQ,
  O.FLT_LOG_OVERWRITTEN, O.FLT_EVENT_LOST, O.FLT_FIRST_SEVERE, O.FLT_LOG_RECORD, O.PMC_VALUE, O.PMC_STATUS,
  O.PEER_KEY, F.mode, F.draws, F.out, F.sess, F.groups, F.ring, F.pcieDma, F.pciePending, F.faults, F.vault,
  F.checkKey, F.storeKey, F.keyTests, F.keyRestart, F.keyScrub, F.saRecs, F.saCtxs, F.banks, F.pipe, F.clsx,
  F.queues, F.nodes, F.pairs, F.ports, F.laps, F.pmc, F.memRest, F.lc, F.la, F.keyScrubFrom, F.keyReseed,
  F.keyRequests]

theorem Device.serveJob_keeps {W : List Nat} {a : Device} {d : Device} {j : InsJob} (hW : Sub Touch.serveJob W) (h : Keeps W a d) :
    Keeps W a (Device.serveJob d j) := by
  unfold Device.serveJob
  try dsimp only
  repeat' first
    | with_reducible exact h | exact memT (by decide +kernel) hW | with_reducible apply Keeps.ite
    | with_reducible refine Device.insert_keeps (subT (by decide +kernel) hW) ?_
    | with_reducible refine Device.endCmd_keeps ?_ ?_ | with_reducible apply Keeps.ite2 | split

def Touch.setInserts : List Nat :=
  [F.clsx]

theorem Device.setInserts_keeps {W : List Nat} {a : Device} {d : Device} {l : List InsJob} (hW : Sub Touch.setInserts W) (h : Keeps W a d) :
    Keeps W a (Device.setInserts d l) := by
  unfold Device.setInserts
  try dsimp only
  repeat' first
    | with_reducible exact h | with_reducible refine Device.setCls_keeps (subT (by decide +kernel) hW) ?_

def Touch.drainJobs : List Nat :=
  Touch.serveJob

theorem Device.drainJobs_keeps {W : List Nat} {a : Device} {d : Device} (hW : Sub Touch.drainJobs W) (h : Keeps W a d) :
    Keeps W a (Device.drainJobs d) := by
  unfold Device.drainJobs
  try dsimp only
  repeat' first
    | with_reducible exact h | with_reducible assumption | with_reducible apply Keeps.foldl
    | with_reducible refine Device.serveJob_keeps (subT (by decide +kernel) hW) ?_
    | with_reducible refine Device.setInserts_keeps (subT (by decide +kernel) hW) ?_ | intro _ _ hq | intro _

def Touch.insertEngineDone : List Nat :=
  Touch.serveJob

theorem Device.insertEngineDone_keeps {W : List Nat} {a : Device} {d : Device} (hW : Sub Touch.insertEngineDone W) (h : Keeps W a d) :
    Keeps W a (Device.insertEngineDone d) := by
  unfold Device.insertEngineDone
  try dsimp only
  repeat' first
    | with_reducible exact h | with_reducible assumption
    | with_reducible refine Device.setInserts_keeps (subT (by decide +kernel) hW) ?_
    | with_reducible refine Device.serveJob_keeps (subT (by decide +kernel) hW) ?_ | split

def Touch.clsWriteCore : List Nat :=
  [O.CLS_CMD, F.clsx]

theorem Device.clsWriteCore_keeps {W : List Nat} {a : Device} {r : Req} {s : Nat} {d : Device} (hW : Sub Touch.clsWriteCore W) (h : Keeps W a d) :
    Keeps W a (Device.clsWriteCore r s d).2 := by
  unfold Device.clsWriteCore
  try dsimp only
  repeat' first
    | with_reducible exact h | with_reducible assumption | exact memT (by decide +kernel) hW
    | with_reducible refine Device.runCmd_keeps ?_ ?_ ?_
    | with_reducible refine Device.setInserts_keeps (subT (by decide +kernel) hW) ?_ | intro _ _ hq | intro _

def Touch.clsDelete : List Nat :=
  [O.LOCK, O.GROUP_OWNER, O.GROUP_STATE, O.GROUP_WRITES, O.GROUP_FAIL_ADDRESS, O.GROUP_FLAGS, O.SESSION_STATE,
  O.SESSION_ROLE, O.SESSION_CA, O.SESSION_ID, O.SESSION_LAST_COUNTER, O.ROLE_ROOT, O.RING_ENABLE, O.RING_HEAD,
  O.RING_TAIL, O.RING_STATE, O.RING_COMPLETED, O.RING_REJECTED, O.INJECT_REFUSED, O.MODE, O.MODE_CMD,
  O.MODE_ENTERED_AT, O.MODE_CAUSE, O.RUNAHEAD_FALSE_STARTS, O.RUNAHEAD_WASTED_CELLS, O.BANK_DISCARDS,
  O.VAULT_STATE, O.VAULT_HANDLE, O.VAULT_LEVEL, O.VAULT_PURPOSE, O.VAULT_KEY_BITS, O.VAULT_COUNTED,
  O.VAULT_USES_LEFT, O.VAULT_ORIGIN, O.VAULT_PARENT, O.VAULT_CREATED_AT, O.VAULT_ARG_KEY, O.VAULT_CMD,
  O.VAULT_RESULT_HANDLE, O.DRBG_STATE, O.LA_CONTEXTS_BUSY, O.GUN_STATE, O.GUN_OWNER, O.GUN_FLAGS, O.PORT_TX_FRAMES,
  O.PORT_TX_BYTES, O.PORT_TX_TRUNCATED, O.PORT_FC_TX_XOFF_C0, O.PORT_FC_TX_XOFF_C1, O.PORT_FC_TX_XOFF_C2,
  O.PORT_FC_TX_XOFF_C3, O.PORT_FC_TX_XOFF_C4, O.PORT_FC_TX_XOFF_C5, O.PORT_FC_TX_XOFF_C6, O.PORT_FC_TX_XOFF_C7,
  O.SC_STATUS, O.SA_STATE, O.SA_KEK, O.SA_SLOT, O.SA_FLAGS, O.SA_CHANGED_AT, O.SCSA_SLOT0_ROW, O.SCSA_SLOT1_ROW,
  O.SCSA_IN_FORCE_AN, O.SCSA_ZONE_OPEN, O.SA_STAT_PKTS, O.SA_STAT_OCTETS, O.SA_STAT_PKTS_ENCRYPTED,
  O.SA_STAT_NOT_VALID, O.SA_STAT_COMMIT_LATE, O.SA_STAT_TX_LOST, O.LEARN_ENTRIES, O.CALLROOM_OCCUPANCY,
  O.CALLROOM_PEAK, O.CLS_CMD, O.CLS_FOUND, O.CLS_ENTRIES, O.CLS_INSERTS, O.CLS_MOVES, O.CLS_EVICTIONS,
  O.QUEUE_OCCUPANCY, O.QUEUE_NODE, O.BUFP_USED_CELLS, O.BUF_HEADROOM_USED, O.MEM_TAG_FAILS, O.MEM_NODE_FAILS,
  O.MEM_CTR_READONLY, O.MEM_POISON_COUNT, O.MEM_TREE_HITS, O.MEM_TREE_MISSES, O.MEM_POISON_OFFSET, O.MEM_POISON_AT,
  O.MEM_POISON_CAUSE, O.FLT_SRC_CLASS, O.FLT_SRC_EVENTS, O.FLT_SRC_LAST_AT, O.FLT_STATUS, O.FLT_FATAL_SINCE_BOOT,
  O.FLT_LOG_LAST_SEQ, O.FLT_LOG_OVERWRITTEN, O.FLT_EVENT_LOST, O.FLT_FIRST_SEVERE, O.FLT_LOG_RECORD, O.PMC_VALUE,
  O.PMC_STATUS, O.PEER_KEY, F.mode, F.draws, F.out, F.sess, F.groups, F.ring, F.pcieDma, F.pciePending, F.faults,
  F.vault, F.checkKey, F.storeKey, F.keyTests, F.keyRestart, F.keyScrub, F.saRecs, F.saCtxs, F.banks, F.pipe,
  F.clsx, F.queues, F.nodes, F.pairs, F.ports, F.laps, F.pmc, F.memRest, F.lc, F.la, F.keyScrubFrom, F.keyReseed,
  F.keyRequests]

theorem Device.clsDelete_keeps {W : List Nat} {a : Device} {d : Device} {s : Nat} (hW : Sub Touch.clsDelete W) (h : Keeps W a d) :
    Keeps W a (Device.clsDelete d s).2 := by
  unfold Device.clsDelete
  try dsimp only
  repeat' first
    | with_reducible exact h | with_reducible assumption | exact memT (by decide +kernel) hW
    | with_reducible apply Keeps.ite | with_reducible refine Device.drainJobs_keeps (subT (by decide +kernel) hW) ?_
    | with_reducible refine Device.engineReads_keeps (subT (by decide +kernel) hW) ?_
    | with_reducible refine Device.wr_keeps ?_ ?_
    | with_reducible refine Device.deleteWay_keeps (subT (by decide +kernel) hW) ?_ | with_reducible apply Keeps.ite2
    | split

def Touch.clsDeleteCore : List Nat :=
  Touch.clsDelete

theorem Device.clsDeleteCore_keeps {W : List Nat} {a : Device} {r : Req} {s : Nat} {d : Device} (hW : Sub Touch.clsDeleteCore W) (h : Keeps W a d) :
    Keeps W a (Device.clsDeleteCore r s d).2 := by
  unfold Device.clsDeleteCore
  try dsimp only
  repeat' first
    | with_reducible exact h | with_reducible assumption | exact memT (by decide +kernel) hW
    | with_reducible apply Keeps.elim | with_reducible refine Device.runCmd_keeps ?_ ?_ ?_
    | with_reducible refine Device.clsDelete_keeps (subT (by decide +kernel) hW) ?_
    | with_reducible apply Keeps.elim2 | intro _ _ hq | intro _

def Touch.clsRead : List Nat :=
  [O.LOCK, O.GROUP_OWNER, O.GROUP_STATE, O.GROUP_WRITES, O.GROUP_FAIL_ADDRESS, O.GROUP_FLAGS, O.SESSION_STATE,
  O.SESSION_ROLE, O.SESSION_CA, O.SESSION_ID, O.SESSION_LAST_COUNTER, O.ROLE_ROOT, O.RING_ENABLE, O.RING_HEAD,
  O.RING_TAIL, O.RING_STATE, O.RING_COMPLETED, O.RING_REJECTED, O.INJECT_REFUSED, O.MODE, O.MODE_CMD,
  O.MODE_ENTERED_AT, O.MODE_CAUSE, O.RUNAHEAD_FALSE_STARTS, O.RUNAHEAD_WASTED_CELLS, O.BANK_DISCARDS,
  O.VAULT_STATE, O.VAULT_HANDLE, O.VAULT_LEVEL, O.VAULT_PURPOSE, O.VAULT_KEY_BITS, O.VAULT_COUNTED,
  O.VAULT_USES_LEFT, O.VAULT_ORIGIN, O.VAULT_PARENT, O.VAULT_CREATED_AT, O.VAULT_ARG_KEY, O.VAULT_CMD,
  O.VAULT_RESULT_HANDLE, O.DRBG_STATE, O.LA_CONTEXTS_BUSY, O.GUN_STATE, O.GUN_OWNER, O.GUN_FLAGS, O.PORT_TX_FRAMES,
  O.PORT_TX_BYTES, O.PORT_TX_TRUNCATED, O.PORT_FC_TX_XOFF_C0, O.PORT_FC_TX_XOFF_C1, O.PORT_FC_TX_XOFF_C2,
  O.PORT_FC_TX_XOFF_C3, O.PORT_FC_TX_XOFF_C4, O.PORT_FC_TX_XOFF_C5, O.PORT_FC_TX_XOFF_C6, O.PORT_FC_TX_XOFF_C7,
  O.SC_STATUS, O.SA_STATE, O.SA_KEK, O.SA_SLOT, O.SA_FLAGS, O.SA_CHANGED_AT, O.SCSA_SLOT0_ROW, O.SCSA_SLOT1_ROW,
  O.SCSA_IN_FORCE_AN, O.SCSA_ZONE_OPEN, O.SA_STAT_PKTS, O.SA_STAT_OCTETS, O.SA_STAT_PKTS_ENCRYPTED,
  O.SA_STAT_NOT_VALID, O.SA_STAT_COMMIT_LATE, O.SA_STAT_TX_LOST, O.CALLROOM_OCCUPANCY, O.CALLROOM_PEAK,
  O.CLS_RESULT, O.CLS_FOUND, O.QUEUE_OCCUPANCY, O.QUEUE_NODE, O.BUFP_USED_CELLS, O.BUF_HEADROOM_USED,
  O.MEM_TAG_FAILS, O.MEM_NODE_FAILS, O.MEM_CTR_READONLY, O.MEM_POISON_COUNT, O.MEM_TREE_HITS, O.MEM_TREE_MISSES,
  O.MEM_POISON_OFFSET, O.MEM_POISON_AT, O.MEM_POISON_CAUSE, O.FLT_SRC_CLASS, O.FLT_SRC_EVENTS, O.FLT_SRC_LAST_AT,
  O.FLT_STATUS, O.FLT_FATAL_SINCE_BOOT, O.FLT_LOG_LAST_SEQ, O.FLT_LOG_OVERWRITTEN, O.FLT_EVENT_LOST,
  O.FLT_FIRST_SEVERE, O.FLT_LOG_RECORD, O.PMC_VALUE, O.PMC_STATUS, O.PEER_KEY, F.mode, F.draws, F.out, F.sess,
  F.groups, F.ring, F.pcieDma, F.pciePending, F.faults, F.vault, F.checkKey, F.storeKey, F.keyTests, F.keyRestart,
  F.keyScrub, F.saRecs, F.saCtxs, F.banks, F.pipe, F.clsx, F.queues, F.nodes, F.pairs, F.ports, F.laps, F.pmc,
  F.memRest, F.lc, F.la, F.keyScrubFrom, F.keyReseed, F.keyRequests]

theorem Device.clsRead_keeps {W : List Nat} {a : Device} {d : Device} {s : Nat} (hW : Sub Touch.clsRead W) (h : Keeps W a d) :
    Keeps W a (Device.clsRead d s).2 := by
  unfold Device.clsRead
  try dsimp only
  repeat' first
    | with_reducible exact h | with_reducible assumption | exact memT (by decide +kernel) hW
    | with_reducible apply Keeps.ite
    | with_reducible refine Device.engineReads_keeps (subT (by decide +kernel) hW) ?_
    | with_reducible refine Device.wr_keeps ?_ ?_
    | with_reducible refine Device.wrCmd_keeps ?_ (subT (by decide +kernel) hW) ?_ | with_reducible apply Keeps.ite2
    | split

def Touch.clsReadCore : List Nat :=
  [O.LOCK, O.GROUP_OWNER, O.GROUP_STATE, O.GROUP_WRITES, O.GROUP_FAIL_ADDRESS, O.GROUP_FLAGS, O.SESSION_STATE,
  O.SESSION_ROLE, O.SESSION_CA, O.SESSION_ID, O.SESSION_LAST_COUNTER, O.ROLE_ROOT, O.RING_ENABLE, O.RING_HEAD,
  O.RING_TAIL, O.RING_STATE, O.RING_COMPLETED, O.RING_REJECTED, O.INJECT_REFUSED, O.MODE, O.MODE_CMD,
  O.MODE_ENTERED_AT, O.MODE_CAUSE, O.RUNAHEAD_FALSE_STARTS, O.RUNAHEAD_WASTED_CELLS, O.BANK_DISCARDS,
  O.VAULT_STATE, O.VAULT_HANDLE, O.VAULT_LEVEL, O.VAULT_PURPOSE, O.VAULT_KEY_BITS, O.VAULT_COUNTED,
  O.VAULT_USES_LEFT, O.VAULT_ORIGIN, O.VAULT_PARENT, O.VAULT_CREATED_AT, O.VAULT_ARG_KEY, O.VAULT_CMD,
  O.VAULT_RESULT_HANDLE, O.DRBG_STATE, O.LA_CONTEXTS_BUSY, O.GUN_STATE, O.GUN_OWNER, O.GUN_FLAGS, O.PORT_TX_FRAMES,
  O.PORT_TX_BYTES, O.PORT_TX_TRUNCATED, O.PORT_FC_TX_XOFF_C0, O.PORT_FC_TX_XOFF_C1, O.PORT_FC_TX_XOFF_C2,
  O.PORT_FC_TX_XOFF_C3, O.PORT_FC_TX_XOFF_C4, O.PORT_FC_TX_XOFF_C5, O.PORT_FC_TX_XOFF_C6, O.PORT_FC_TX_XOFF_C7,
  O.SC_STATUS, O.SA_STATE, O.SA_KEK, O.SA_SLOT, O.SA_FLAGS, O.SA_CHANGED_AT, O.SCSA_SLOT0_ROW, O.SCSA_SLOT1_ROW,
  O.SCSA_IN_FORCE_AN, O.SCSA_ZONE_OPEN, O.SA_STAT_PKTS, O.SA_STAT_OCTETS, O.SA_STAT_PKTS_ENCRYPTED,
  O.SA_STAT_NOT_VALID, O.SA_STAT_COMMIT_LATE, O.SA_STAT_TX_LOST, O.CALLROOM_OCCUPANCY, O.CALLROOM_PEAK,
  O.CLS_RESULT, O.CLS_CMD, O.CLS_FOUND, O.QUEUE_OCCUPANCY, O.QUEUE_NODE, O.BUFP_USED_CELLS, O.BUF_HEADROOM_USED,
  O.MEM_TAG_FAILS, O.MEM_NODE_FAILS, O.MEM_CTR_READONLY, O.MEM_POISON_COUNT, O.MEM_TREE_HITS, O.MEM_TREE_MISSES,
  O.MEM_POISON_OFFSET, O.MEM_POISON_AT, O.MEM_POISON_CAUSE, O.FLT_SRC_CLASS, O.FLT_SRC_EVENTS, O.FLT_SRC_LAST_AT,
  O.FLT_STATUS, O.FLT_FATAL_SINCE_BOOT, O.FLT_LOG_LAST_SEQ, O.FLT_LOG_OVERWRITTEN, O.FLT_EVENT_LOST,
  O.FLT_FIRST_SEVERE, O.FLT_LOG_RECORD, O.PMC_VALUE, O.PMC_STATUS, O.PEER_KEY, F.mode, F.draws, F.out, F.sess,
  F.groups, F.ring, F.pcieDma, F.pciePending, F.faults, F.vault, F.checkKey, F.storeKey, F.keyTests, F.keyRestart,
  F.keyScrub, F.saRecs, F.saCtxs, F.banks, F.pipe, F.clsx, F.queues, F.nodes, F.pairs, F.ports, F.laps, F.pmc,
  F.memRest, F.lc, F.la, F.keyScrubFrom, F.keyReseed, F.keyRequests]

theorem Device.clsReadCore_keeps {W : List Nat} {a : Device} {r : Req} {s : Nat} {d : Device} (hW : Sub Touch.clsReadCore W) (h : Keeps W a d) :
    Keeps W a (Device.clsReadCore r s d).2 := by
  unfold Device.clsReadCore
  try dsimp only
  repeat' first
    | with_reducible exact h | with_reducible assumption | exact memT (by decide +kernel) hW
    | with_reducible refine Device.runCmd_keeps ?_ ?_ ?_
    | with_reducible refine Device.clsRead_keeps (subT (by decide +kernel) hW) ?_ | intro _ _ hq | intro _

def Touch.deleteKey : List Nat :=
  Touch.writeWay

theorem Device.deleteKey_keeps {W : List Nat} {a : Device} {d : Device} {key : Nat} (hW : Sub Touch.deleteKey W) (h : Keeps W a d) :
    Keeps W a (Device.deleteKey d key) := by
  unfold Device.deleteKey
  try dsimp only
  repeat' first
    | with_reducible exact h | with_reducible assumption | with_reducible apply Keeps.elim
    | with_reducible refine Device.deleteWay_keeps (subT (by decide +kernel) hW) ?_ | intro _ _ hq | intro _

def Touch.rxscMaintain : List Nat :=
  [O.LOCK, O.GROUP_OWNER, O.GROUP_STATE, O.GROUP_WRITES, O.GROUP_FAIL_ADDRESS, O.GROUP_FLAGS, O.SESSION_STATE,
  O.SESSION_ROLE, O.SESSION_CA, O.SESSION_ID, O.SESSION_LAST_COUNTER, O.ROLE_ROOT, O.RING_ENABLE, O.RING_HEAD,
  O.RING_TAIL, O.RING_STATE, O.RING_COMPLETED, O.RING_REJECTED, O.INJECT_REFUSED, O.MODE, O.MODE_CMD,
  O.MODE_ENTERED_AT, O.MODE_CAUSE, O.RUNAHEAD_FALSE_STARTS, O.RUNAHEAD_WASTED_CELLS, O.BANK_DISCARDS,
  O.VAULT_STATE, O.VAULT_HANDLE, O.VAULT_LEVEL, O.VAULT_PURPOSE, O.VAULT_KEY_BITS, O.VAULT_COUNTED,
  O.VAULT_USES_LEFT, O.VAULT_ORIGIN, O.VAULT_PARENT, O.VAULT_CREATED_AT, O.VAULT_ARG_KEY, O.VAULT_CMD,
  O.VAULT_RESULT_HANDLE, O.DRBG_STATE, O.LA_CONTEXTS_BUSY, O.GUN_STATE, O.GUN_OWNER, O.GUN_FLAGS, O.PORT_TX_FRAMES,
  O.PORT_TX_BYTES, O.PORT_TX_TRUNCATED, O.PORT_FC_TX_XOFF_C0, O.PORT_FC_TX_XOFF_C1, O.PORT_FC_TX_XOFF_C2,
  O.PORT_FC_TX_XOFF_C3, O.PORT_FC_TX_XOFF_C4, O.PORT_FC_TX_XOFF_C5, O.PORT_FC_TX_XOFF_C6, O.PORT_FC_TX_XOFF_C7,
  O.SC_STATUS, O.SA_STATE, O.SA_KEK, O.SA_SLOT, O.SA_FLAGS, O.SA_CHANGED_AT, O.SCSA_SLOT0_ROW, O.SCSA_SLOT1_ROW,
  O.SCSA_IN_FORCE_AN, O.SCSA_ZONE_OPEN, O.SA_STAT_PKTS, O.SA_STAT_OCTETS, O.SA_STAT_PKTS_ENCRYPTED,
  O.SA_STAT_NOT_VALID, O.SA_STAT_COMMIT_LATE, O.SA_STAT_TX_LOST, O.LEARN_ENTRIES, O.RXSC_ENTRY,
  O.CALLROOM_OCCUPANCY, O.CALLROOM_PEAK, O.CLS_CMD, O.CLS_ENTRIES, O.CLS_INSERTS, O.CLS_MOVES, O.CLS_EVICTIONS,
  O.QUEUE_OCCUPANCY, O.QUEUE_NODE, O.BUFP_USED_CELLS, O.BUF_HEADROOM_USED, O.MEM_TAG_FAILS, O.MEM_NODE_FAILS,
  O.MEM_CTR_READONLY, O.MEM_POISON_COUNT, O.MEM_TREE_HITS, O.MEM_TREE_MISSES, O.MEM_POISON_OFFSET, O.MEM_POISON_AT,
  O.MEM_POISON_CAUSE, O.FLT_SRC_CLASS, O.FLT_SRC_EVENTS, O.FLT_SRC_LAST_AT, O.FLT_STATUS, O.FLT_FATAL_SINCE_BOOT,
  O.FLT_LOG_LAST_SEQ, O.FLT_LOG_OVERWRITTEN, O.FLT_EVENT_LOST, O.FLT_FIRST_SEVERE, O.FLT_LOG_RECORD, O.PMC_VALUE,
  O.PMC_STATUS, O.PEER_KEY, F.mode, F.draws, F.out, F.sess, F.groups, F.ring, F.pcieDma, F.pciePending, F.faults,
  F.vault, F.checkKey, F.storeKey, F.keyTests, F.keyRestart, F.keyScrub, F.saRecs, F.saCtxs, F.banks, F.pipe,
  F.clsx, F.queues, F.nodes, F.pairs, F.ports, F.laps, F.pmc, F.memRest, F.lc, F.la, F.keyScrubFrom, F.keyReseed,
  F.keyRequests]

theorem Device.rxscMaintain_keeps {W : List Nat} {a : Device} {old : Option Nat} {sc : Nat} {d : Device} (hW : Sub Touch.rxscMaintain W) (h : Keeps W a d) :
    Keeps W a (Device.rxscMaintain old sc d) := by
  unfold Device.rxscMaintain
  try dsimp only
  repeat' first
    | with_reducible exact h | with_reducible assumption | exact memT (by decide +kernel) hW
    | with_reducible apply Keeps.ite | with_reducible apply Keeps.elim
    | with_reducible refine Device.drainJobs_keeps (subT (by decide +kernel) hW) ?_
    | with_reducible refine Device.insert_keeps (subT (by decide +kernel) hW) ?_
    | with_reducible refine Device.deleteKey_keeps (subT (by decide +kernel) hW) ?_
    | with_reducible refine Device.wr_keeps ?_ ?_ | with_reducible apply Keeps.ite2
    | with_reducible apply Keeps.elim2 | intro _ _ hq | intro _ | split

def Touch.agePos : List Nat :=
  [O.LOCK, O.GROUP_OWNER, O.GROUP_STATE, O.GROUP_WRITES, O.GROUP_FAIL_ADDRESS, O.GROUP_FLAGS, O.SESSION_STATE,
  O.SESSION_ROLE, O.SESSION_CA, O.SESSION_ID, O.SESSION_LAST_COUNTER, O.ROLE_ROOT, O.RING_ENABLE, O.RING_HEAD,
  O.RING_TAIL, O.RING_STATE, O.RING_COMPLETED, O.RING_REJECTED, O.INJECT_REFUSED, O.MODE, O.MODE_CMD,
  O.MODE_ENTERED_AT, O.MODE_CAUSE, O.RUNAHEAD_FALSE_STARTS, O.RUNAHEAD_WASTED_CELLS, O.BANK_DISCARDS,
  O.VAULT_STATE, O.VAULT_HANDLE, O.VAULT_LEVEL, O.VAULT_PURPOSE, O.VAULT_KEY_BITS, O.VAULT_COUNTED,
  O.VAULT_USES_LEFT, O.VAULT_ORIGIN, O.VAULT_PARENT, O.VAULT_CREATED_AT, O.VAULT_ARG_KEY, O.VAULT_CMD,
  O.VAULT_RESULT_HANDLE, O.DRBG_STATE, O.LA_CONTEXTS_BUSY, O.GUN_STATE, O.GUN_OWNER, O.GUN_FLAGS, O.PORT_TX_FRAMES,
  O.PORT_TX_BYTES, O.PORT_TX_TRUNCATED, O.PORT_FC_TX_XOFF_C0, O.PORT_FC_TX_XOFF_C1, O.PORT_FC_TX_XOFF_C2,
  O.PORT_FC_TX_XOFF_C3, O.PORT_FC_TX_XOFF_C4, O.PORT_FC_TX_XOFF_C5, O.PORT_FC_TX_XOFF_C6, O.PORT_FC_TX_XOFF_C7,
  O.SC_STATUS, O.SA_STATE, O.SA_KEK, O.SA_SLOT, O.SA_FLAGS, O.SA_CHANGED_AT, O.SCSA_SLOT0_ROW, O.SCSA_SLOT1_ROW,
  O.SCSA_IN_FORCE_AN, O.SCSA_ZONE_OPEN, O.SA_STAT_PKTS, O.SA_STAT_OCTETS, O.SA_STAT_PKTS_ENCRYPTED,
  O.SA_STAT_NOT_VALID, O.SA_STAT_COMMIT_LATE, O.SA_STAT_TX_LOST, O.LEARN_ENTRIES, O.CALLROOM_OCCUPANCY,
  O.CALLROOM_PEAK, O.CLS_ENTRIES, O.CLS_AGED, O.QUEUE_OCCUPANCY, O.QUEUE_NODE, O.BUFP_USED_CELLS,
  O.BUF_HEADROOM_USED, O.MEM_NODE_FAILS, O.MEM_CTR_READONLY, O.MEM_TREE_HITS, O.MEM_TREE_MISSES, O.FLT_SRC_CLASS,
  O.FLT_SRC_EVENTS, O.FLT_SRC_LAST_AT, O.FLT_STATUS, O.FLT_FATAL_SINCE_BOOT, O.FLT_LOG_LAST_SEQ,
  O.FLT_LOG_OVERWRITTEN, O.FLT_EVENT_LOST, O.FLT_FIRST_SEVERE, O.FLT_LOG_RECORD, O.PMC_VALUE, O.PMC_STATUS,
  O.PEER_KEY, F.mode, F.draws, F.out, F.sess, F.groups, F.ring, F.pcieDma, F.pciePending, F.faults, F.vault,
  F.checkKey, F.storeKey, F.keyTests, F.keyRestart, F.keyScrub, F.saRecs, F.saCtxs, F.banks, F.pipe, F.clsx,
  F.queues, F.nodes, F.pairs, F.ports, F.laps, F.pmc, F.memRest, F.lc, F.la, F.keyScrubFrom, F.keyReseed,
  F.keyRequests]

theorem Device.agePos_keeps {W : List Nat} {a : Device} {d : Device} {pos : Nat} (hW : Sub Touch.agePos W) (h : Keeps W a d) :
    Keeps W a (Device.agePos d pos) := by
  unfold Device.agePos
  try dsimp only
  repeat' first
    | with_reducible exact h | exact memT (by decide +kernel) hW | with_reducible apply Keeps.ite
    | with_reducible refine Device.touchBits_keeps (subT (by decide +kernel) hW) ?_
    | with_reducible refine Device.deleteWay_keeps (subT (by decide +kernel) hW) ?_
    | with_reducible refine Device.inc64_keeps ?_ ?_ | split

def Touch.setScan : List Nat :=
  [F.clsx]

theorem Device.setScan_keeps {W : List Nat} {a : Device} {d : Device} {n : Nat} (hW : Sub Touch.setScan W) (h : Keeps W a d) :
    Keeps W a (Device.setScan d n) := by
  unfold Device.setScan
  try dsimp only
  repeat' first
    | with_reducible exact h | with_reducible refine Device.setCls_keeps (subT (by decide +kernel) hW) ?_

def Touch.agingScanVisit : List Nat :=
  [O.LOCK, O.GROUP_OWNER, O.GROUP_STATE, O.GROUP_WRITES, O.GROUP_FAIL_ADDRESS, O.GROUP_FLAGS, O.SESSION_STATE,
  O.SESSION_ROLE, O.SESSION_CA, O.SESSION_ID, O.SESSION_LAST_COUNTER, O.ROLE_ROOT, O.RING_ENABLE, O.RING_HEAD,
  O.RING_TAIL, O.RING_STATE, O.RING_COMPLETED, O.RING_REJECTED, O.INJECT_REFUSED, O.MODE, O.MODE_CMD,
  O.MODE_ENTERED_AT, O.MODE_CAUSE, O.RUNAHEAD_FALSE_STARTS, O.RUNAHEAD_WASTED_CELLS, O.BANK_DISCARDS,
  O.VAULT_STATE, O.VAULT_HANDLE, O.VAULT_LEVEL, O.VAULT_PURPOSE, O.VAULT_KEY_BITS, O.VAULT_COUNTED,
  O.VAULT_USES_LEFT, O.VAULT_ORIGIN, O.VAULT_PARENT, O.VAULT_CREATED_AT, O.VAULT_ARG_KEY, O.VAULT_CMD,
  O.VAULT_RESULT_HANDLE, O.DRBG_STATE, O.LA_CONTEXTS_BUSY, O.GUN_STATE, O.GUN_OWNER, O.GUN_FLAGS, O.PORT_TX_FRAMES,
  O.PORT_TX_BYTES, O.PORT_TX_TRUNCATED, O.PORT_FC_TX_XOFF_C0, O.PORT_FC_TX_XOFF_C1, O.PORT_FC_TX_XOFF_C2,
  O.PORT_FC_TX_XOFF_C3, O.PORT_FC_TX_XOFF_C4, O.PORT_FC_TX_XOFF_C5, O.PORT_FC_TX_XOFF_C6, O.PORT_FC_TX_XOFF_C7,
  O.SC_STATUS, O.SA_STATE, O.SA_KEK, O.SA_SLOT, O.SA_FLAGS, O.SA_CHANGED_AT, O.SCSA_SLOT0_ROW, O.SCSA_SLOT1_ROW,
  O.SCSA_IN_FORCE_AN, O.SCSA_ZONE_OPEN, O.SA_STAT_PKTS, O.SA_STAT_OCTETS, O.SA_STAT_PKTS_ENCRYPTED,
  O.SA_STAT_NOT_VALID, O.SA_STAT_COMMIT_LATE, O.SA_STAT_TX_LOST, O.LEARN_ENTRIES, O.CALLROOM_OCCUPANCY,
  O.CALLROOM_PEAK, O.CLS_ENTRIES, O.CLS_AGED, O.QUEUE_OCCUPANCY, O.QUEUE_NODE, O.BUFP_USED_CELLS,
  O.BUF_HEADROOM_USED, O.MEM_TAG_FAILS, O.MEM_NODE_FAILS, O.MEM_CTR_READONLY, O.MEM_POISON_COUNT, O.MEM_TREE_HITS,
  O.MEM_TREE_MISSES, O.MEM_POISON_OFFSET, O.MEM_POISON_AT, O.MEM_POISON_CAUSE, O.FLT_SRC_CLASS, O.FLT_SRC_EVENTS,
  O.FLT_SRC_LAST_AT, O.FLT_STATUS, O.FLT_FATAL_SINCE_BOOT, O.FLT_LOG_LAST_SEQ, O.FLT_LOG_OVERWRITTEN,
  O.FLT_EVENT_LOST, O.FLT_FIRST_SEVERE, O.FLT_LOG_RECORD, O.PMC_VALUE, O.PMC_STATUS, O.PEER_KEY, F.mode, F.cyc,
  F.clk, F.draws, F.out, F.sess, F.groups, F.ring, F.pcieDma, F.pciePending, F.faults, F.vault, F.checkKey,
  F.storeKey, F.keyTests, F.keyRestart, F.keyScrub, F.saRecs, F.saCtxs, F.banks, F.pipe, F.clsx, F.queues, F.nodes,
  F.pairs, F.ports, F.laps, F.pmc, F.memRest, F.lc, F.la, F.keyScrubFrom, F.keyReseed, F.keyRequests]

theorem Device.agingScanVisit_keeps {W : List Nat} {a : Device} {b : Nat} {d : Device} (hW : Sub Touch.agingScanVisit W) (h : Keeps W a d) :
    Keeps W a (Device.agingScanVisit b d) := by
  unfold Device.agingScanVisit
  try dsimp only
  repeat' first
    | with_reducible exact h | with_reducible assumption | with_reducible apply Keeps.ite
    | with_reducible apply Keeps.foldl | with_reducible refine Device.passTo_keeps (subT (by decide +kernel) hW) ?_
    | with_reducible refine Device.setScan_keeps (subT (by decide +kernel) hW) ?_
    | with_reducible refine Device.engineRead_keeps (subT (by decide +kernel) hW) ?_
    | with_reducible refine Device.agePos_keeps (subT (by decide +kernel) hW) ?_ | with_reducible apply Keeps.ite2
    | with_reducible apply Keeps.foldl2 | intro _ _ hq | intro _ | split

end Sys2Proof.Machine
end

