-- ==== Sys2Proof/Laws/KeepsLearning.lean ====
section
/-!
SUPPORT. The places that each operation of Machine/Learning.lean may change (Laws/Keeps.lean).
-/
set_option Elab.async false
set_option linter.all false
set_option linter.unusedTactic false
set_option linter.unreachableTactic false
set_option linter.style.longLine false
namespace Sys2Proof.Machine

def Touch.learnOverflow : List Nat :=
  [O.LEARN_OVERFLOW_DROPS, O.LEARN_UNPINNED]

theorem Device.learnOverflow_keeps {W : List Nat} {a : Device} {d : Device} {ca : Nat} (hW : Sub Touch.learnOverflow W) (h : Keeps W a d) :
    Keeps W a (Device.learnOverflow d ca).2 := by
  unfold Device.learnOverflow
  try dsimp only
  repeat' first
    | with_reducible exact h | exact memT (by decide +kernel) hW | with_reducible apply Keeps.ite
    | with_reducible refine Device.inc64_keeps ?_ ?_ | with_reducible apply Keeps.ite2 | split

def Touch.learnHit : List Nat :=
  Touch.fullLine

theorem Device.learnHit_keeps {W : List Nat} {a : Device} {d : Device} {f : Frame} (hW : Sub Touch.learnHit W) (h : Keeps W a d) :
    Keeps W a (Device.learnHit d f) := by
  unfold Device.learnHit
  try dsimp only
  repeat' first
    | with_reducible exact h | with_reducible assumption | with_reducible apply Keeps.elim
    | with_reducible refine Device.touchBits_keeps (subT (by decide +kernel) hW) ?_ | intro _ _ hq | intro _

def Touch.learnDecide : List Nat :=
  [O.LOCK, O.GROUP_OWNER, O.GROUP_STATE, O.GROUP_WRITES, O.GROUP_FAIL_ADDRESS, O.GROUP_FLAGS, O.SESSION_STATE,
  O.SESSION_ROLE, O.SESSION_CA, O.SESSION_ID, O.SESSION_LAST_COUNTER, O.ROLE_ROOT, O.RING_ENABLE, O.RING_HEAD,
  O.RING_TAIL, O.RING_STATE, O.RING_COMPLETED, O.RING_REJECTED, O.INJECT_REFUSED, O.MODE, O.MODE_CMD,
  O.MODE_ENTERED_AT, O.MODE_CAUSE, O.RUNAHEAD_FALSE_STARTS, O.RUNAHEAD_WASTED_CELLS, O.BANK_DISCARDS,
  O.VAULT_STATE, O.VAULT_HANDLE, O.VAULT_LEVEL, O.VAULT_PURPOSE, O.VAULT_KEY_BITS, O.VAULT_COUNTED,
  O.VAULT_USES_LEFT, O.VAULT_ORIGIN, O.VAULT_PARENT, O.VAULT_CREATED_AT, O.VAULT_ARG_KEY, O.VAULT_CMD,
  O.VAULT_RESULT_HANDLE, O.DRBG_STATE, O.LA_CONTEXTS_BUSY, O.GUN_STATE, O.GUN_OWNER, O.GUN_FLAGS, O.PORT_TX_FRAMES,
  O.PORT_TX_BYTES, O.PORT_TX_TRUNCATED, O.PORT_FC_TX_XOFF_C0, O.PORT_FC_TX_XOFF_C1, O.PORT_FC_TX_XOFF_C2,
  O.PORT_FC_TX_XOFF_C3, O.PORT_FC_TX_XOFF_C4, O.PORT_FC_TX_XOFF_C5, O.PORT_FC_TX_XOFF_C6, O.PORT_FC_TX_XOFF_C7,
  O.SC_STATUS, O.SA_STATE, O.SA_KEK, O.SA_SLOT, O.SA_FLAGS, O.SA_CHANGED_AT, O.SCSA_SLOT0_ROW, O.SCSA_SLOT1_ROW,
  O.SCSA_IN_FORCE_AN, O.SCSA_ZONE_OPEN, O.SA_STAT_PKTS, O.SA_STAT_OCTETS, O.SA_STAT_PKTS_ENCRYPTED,
  O.SA_STAT_NOT_VALID, O.SA_STAT_COMMIT_LATE, O.SA_STAT_TX_LOST, O.LEARN_OVERFLOW_DROPS, O.LEARN_UNPINNED,
  O.LEARN_CONFLICTS, O.CALLROOM_OCCUPANCY, O.CALLROOM_PEAK, O.QUEUE_OCCUPANCY, O.QUEUE_NODE, O.BUFP_USED_CELLS,
  O.BUF_HEADROOM_USED, O.MEM_NODE_FAILS, O.MEM_CTR_READONLY, O.MEM_TREE_HITS, O.MEM_TREE_MISSES, O.FLT_SRC_CLASS,
  O.FLT_SRC_EVENTS, O.FLT_SRC_LAST_AT, O.FLT_STATUS, O.FLT_FATAL_SINCE_BOOT, O.FLT_LOG_LAST_SEQ,
  O.FLT_LOG_OVERWRITTEN, O.FLT_EVENT_LOST, O.FLT_FIRST_SEVERE, O.FLT_LOG_RECORD, O.PMC_VALUE, O.PMC_STATUS,
  O.PEER_KEY, F.mode, F.draws, F.out, F.sess, F.groups, F.ring, F.pcieDma, F.pciePending, F.faults, F.vault,
  F.checkKey, F.storeKey, F.keyTests, F.keyRestart, F.keyScrub, F.saRecs, F.saCtxs, F.banks, F.pipe, F.clsx,
  F.queues, F.nodes, F.pairs, F.ports, F.laps, F.pmc, F.memRest, F.lc, F.la, F.keyScrubFrom, F.keyReseed,
  F.keyRequests]

theorem Device.learnDecide_keeps {W : List Nat} {a : Device} {d : Device} {f : Frame} (hW : Sub Touch.learnDecide W) (h : Keeps W a d) :
    Keeps W a (Device.learnDecide d f).2 := by
  unfold Device.learnDecide
  try dsimp only
  repeat' first
    | with_reducible exact h | with_reducible assumption | exact memT (by decide +kernel) hW
    | with_reducible apply Keeps.ite
    | with_reducible refine Device.learnOverflow_keeps (subT (by decide +kernel) hW) ?_
    | with_reducible refine Device.learnHit_keeps (subT (by decide +kernel) hW) ?_
    | with_reducible refine Device.inc64_keeps ?_ ?_ | with_reducible apply Keeps.ite2 | intro _ _ hq | intro _
    | split

def Touch.setBatons : List Nat :=
  [F.clsx]

theorem Device.setBatons_keeps {W : List Nat} {a : Device} {d : Device} {l : List (Bool × Bytes)} (hW : Sub Touch.setBatons W) (h : Keeps W a d) :
    Keeps W a (Device.setBatons d l) := by
  unfold Device.setBatons
  try dsimp only
  repeat' first
    | with_reducible exact h | with_reducible refine Device.setCls_keeps (subT (by decide +kernel) hW) ?_

def Touch.queueBaton : List Nat :=
  [O.LEARN_BATON_DROPS, F.clsx]

theorem Device.queueBaton_keeps {W : List Nat} {a : Device} {d : Device} {b : Bool × Bytes} (hW : Sub Touch.queueBaton W) (h : Keeps W a d) :
    Keeps W a (Device.queueBaton d b) := by
  unfold Device.queueBaton
  try dsimp only
  repeat' first
    | with_reducible exact h | exact memT (by decide +kernel) hW | with_reducible apply Keeps.ite
    | with_reducible refine Device.inc64_keeps ?_ ?_
    | with_reducible refine Device.setBatons_keeps (subT (by decide +kernel) hW) ?_ | with_reducible apply Keeps.ite2
    | split

def Touch.learnCommit : List Nat :=
  [O.LEARN_BATON_DROPS, F.clsx]

theorem Device.learnCommit_keeps {W : List Nat} {a : Device} {d : Device} {f : Frame} (hW : Sub Touch.learnCommit W) (h : Keeps W a d) :
    Keeps W a (Device.learnCommit d f) := by
  unfold Device.learnCommit
  try dsimp only
  repeat' first
    | with_reducible exact h | with_reducible assumption | with_reducible apply Keeps.elim
    | with_reducible refine Device.queueBaton_keeps (subT (by decide +kernel) hW) ?_ | intro _ _ hq | intro _

def Touch.unpinned : List Nat :=
  [O.LEARN_UNPINNED]

theorem Device.unpinned_keeps {W : List Nat} {a : Device} {d : Device} {ca : Nat} (hW : Sub Touch.unpinned W) (h : Keeps W a d) :
    Keeps W a (Device.unpinned d ca) := by
  unfold Device.unpinned
  try dsimp only
  repeat' first
    | with_reducible exact h | exact memT (by decide +kernel) hW | with_reducible refine Device.inc64_keeps ?_ ?_

def Touch.learnInsert : List Nat :=
  [O.LOCK, O.GROUP_OWNER, O.GROUP_STATE, O.GROUP_WRITES, O.GROUP_FAIL_ADDRESS, O.GROUP_FLAGS, O.SESSION_STATE,
  O.SESSION_ROLE, O.SESSION_CA, O.SESSION_ID, O.SESSION_LAST_COUNTER, O.ROLE_ROOT, O.RING_ENABLE, O.RING_HEAD,
  O.RING_TAIL, O.RING_STATE, O.RING_COMPLETED, O.RING_REJECTED, O.INJECT_REFUSED, O.MODE, O.MODE_CMD,
  O.MODE_ENTERED_AT, O.MODE_CAUSE, O.RUNAHEAD_FALSE_STARTS, O.RUNAHEAD_WASTED_CELLS, O.BANK_DISCARDS,
  O.VAULT_STATE, O.VAULT_HANDLE, O.VAULT_LEVEL, O.VAULT_PURPOSE, O.VAULT_KEY_BITS, O.VAULT_COUNTED,
  O.VAULT_USES_LEFT, O.VAULT_ORIGIN, O.VAULT_PARENT, O.VAULT_CREATED_AT, O.VAULT_ARG_KEY, O.VAULT_CMD,
  O.VAULT_RESULT_HANDLE, O.DRBG_STATE, O.LA_CONTEXTS_BUSY, O.GUN_STATE, O.GUN_OWNER, O.GUN_FLAGS, O.PORT_TX_FRAMES,
  O.PORT_TX_BYTES, O.PORT_TX_TRUNCATED, O.PORT_FC_TX_XOFF_C0, O.PORT_FC_TX_XOFF_C1, O.PORT_FC_TX_XOFF_C2,
  O.PORT_FC_TX_XOFF_C3, O.PORT_FC_TX_XOFF_C4, O.PORT_FC_TX_XOFF_C5, O.PORT_FC_TX_XOFF_C6, O.PORT_FC_TX_XOFF_C7,
  O.SC_STATUS, O.SA_STATE, O.SA_KEK, O.SA_SLOT, O.SA_FLAGS, O.SA_CHANGED_AT, O.SCSA_SLOT0_ROW, O.SCSA_SLOT1_ROW,
  O.SCSA_IN_FORCE_AN, O.SCSA_ZONE_OPEN, O.SA_STAT_PKTS, O.SA_STAT_OCTETS, O.SA_STAT_PKTS_ENCRYPTED,
  O.SA_STAT_NOT_VALID, O.SA_STAT_COMMIT_LATE, O.SA_STAT_TX_LOST, O.LEARN_ENTRIES, O.CALLROOM_OCCUPANCY,
  O.CALLROOM_PEAK, O.CLS_ENTRIES, O.CLS_INSERTS, O.CLS_MOVES, O.CLS_EVICTIONS, O.CLS_INSERT_FAILS,
  O.QUEUE_OCCUPANCY, O.QUEUE_NODE, O.BUFP_USED_CELLS, O.BUF_HEADROOM_USED, O.MEM_TAG_FAILS, O.MEM_NODE_FAILS,
  O.MEM_CTR_READONLY, O.MEM_POISON_COUNT, O.MEM_TREE_HITS, O.MEM_TREE_MISSES, O.MEM_POISON_OFFSET, O.MEM_POISON_AT,
  O.MEM_POISON_CAUSE, O.FLT_SRC_CLASS, O.FLT_SRC_EVENTS, O.FLT_SRC_LAST_AT, O.FLT_STATUS, O.FLT_FATAL_SINCE_BOOT,
  O.FLT_LOG_LAST_SEQ, O.FLT_LOG_OVERWRITTEN, O.FLT_EVENT_LOST, O.FLT_FIRST_SEVERE, O.FLT_LOG_RECORD, O.PMC_VALUE,
  O.PMC_STATUS, O.PEER_KEY, F.mode, F.draws, F.out, F.sess, F.groups, F.ring, F.pcieDma, F.pciePending, F.faults,
  F.vault, F.checkKey, F.storeKey, F.keyTests, F.keyRestart, F.keyScrub, F.saRecs, F.saCtxs, F.banks, F.pipe,
  F.clsx, F.queues, F.nodes, F.pairs, F.ports, F.laps, F.pmc, F.memRest, F.lc, F.la, F.keyScrubFrom, F.keyReseed,
  F.keyRequests]

theorem Device.learnInsert_keeps {W : List Nat} {a : Device} {d : Device} {b : Bytes} {ret : Nat} {port : Nat} (hW : Sub Touch.learnInsert W) (h : Keeps W a d) :
    Keeps W a (Device.learnInsert d b ret port) := by
  unfold Device.learnInsert
  try dsimp only
  repeat' first
    | with_reducible exact h | exact memT (by decide +kernel) hW | with_reducible apply Keeps.ite
    | with_reducible refine Device.insert_keeps (subT (by decide +kernel) hW) ?_
    | with_reducible refine Device.inc64_keeps ?_ ?_
    | with_reducible refine Device.peerSend_keeps (subT (by decide +kernel) hW) ?_ | with_reducible apply Keeps.ite2
    | split

def Touch.learnLocal : List Nat :=
  [O.LOCK, O.GROUP_OWNER, O.GROUP_STATE, O.GROUP_WRITES, O.GROUP_FAIL_ADDRESS, O.GROUP_FLAGS, O.SESSION_STATE,
  O.SESSION_ROLE, O.SESSION_CA, O.SESSION_ID, O.SESSION_LAST_COUNTER, O.ROLE_ROOT, O.RING_ENABLE, O.RING_HEAD,
  O.RING_TAIL, O.RING_STATE, O.RING_COMPLETED, O.RING_REJECTED, O.INJECT_REFUSED, O.MODE, O.MODE_CMD,
  O.MODE_ENTERED_AT, O.MODE_CAUSE, O.RUNAHEAD_FALSE_STARTS, O.RUNAHEAD_WASTED_CELLS, O.BANK_DISCARDS,
  O.VAULT_STATE, O.VAULT_HANDLE, O.VAULT_LEVEL, O.VAULT_PURPOSE, O.VAULT_KEY_BITS, O.VAULT_COUNTED,
  O.VAULT_USES_LEFT, O.VAULT_ORIGIN, O.VAULT_PARENT, O.VAULT_CREATED_AT, O.VAULT_ARG_KEY, O.VAULT_CMD,
  O.VAULT_RESULT_HANDLE, O.DRBG_STATE, O.LA_CONTEXTS_BUSY, O.GUN_STATE, O.GUN_OWNER, O.GUN_FLAGS, O.PORT_TX_FRAMES,
  O.PORT_TX_BYTES, O.PORT_TX_TRUNCATED, O.PORT_FC_TX_XOFF_C0, O.PORT_FC_TX_XOFF_C1, O.PORT_FC_TX_XOFF_C2,
  O.PORT_FC_TX_XOFF_C3, O.PORT_FC_TX_XOFF_C4, O.PORT_FC_TX_XOFF_C5, O.PORT_FC_TX_XOFF_C6, O.PORT_FC_TX_XOFF_C7,
  O.SC_STATUS, O.SA_STATE, O.SA_KEK, O.SA_SLOT, O.SA_FLAGS, O.SA_CHANGED_AT, O.SCSA_SLOT0_ROW, O.SCSA_SLOT1_ROW,
  O.SCSA_IN_FORCE_AN, O.SCSA_ZONE_OPEN, O.SA_STAT_PKTS, O.SA_STAT_OCTETS, O.SA_STAT_PKTS_ENCRYPTED,
  O.SA_STAT_NOT_VALID, O.SA_STAT_COMMIT_LATE, O.SA_STAT_TX_LOST, O.LEARN_UNPINNED, O.LEARN_CONFLICTS,
  O.LEARN_ENTRIES, O.CALLROOM_OCCUPANCY, O.CALLROOM_PEAK, O.CLS_ENTRIES, O.CLS_INSERTS, O.CLS_MOVES,
  O.CLS_EVICTIONS, O.CLS_INSERT_FAILS, O.QUEUE_OCCUPANCY, O.QUEUE_NODE, O.BUFP_USED_CELLS, O.BUF_HEADROOM_USED,
  O.MEM_TAG_FAILS, O.MEM_NODE_FAILS, O.MEM_CTR_READONLY, O.MEM_POISON_COUNT, O.MEM_TREE_HITS, O.MEM_TREE_MISSES,
  O.MEM_POISON_OFFSET, O.MEM_POISON_AT, O.MEM_POISON_CAUSE, O.FLT_SRC_CLASS, O.FLT_SRC_EVENTS, O.FLT_SRC_LAST_AT,
  O.FLT_STATUS, O.FLT_FATAL_SINCE_BOOT, O.FLT_LOG_LAST_SEQ, O.FLT_LOG_OVERWRITTEN, O.FLT_EVENT_LOST,
  O.FLT_FIRST_SEVERE, O.FLT_LOG_RECORD, O.PMC_VALUE, O.PMC_STATUS, O.PEER_KEY, F.mode, F.draws, F.out, F.sess,
  F.groups, F.ring, F.pcieDma, F.pciePending, F.faults, F.vault, F.checkKey, F.storeKey, F.keyTests, F.keyRestart,
  F.keyScrub, F.saRecs, F.saCtxs, F.banks, F.pipe, F.clsx, F.queues, F.nodes, F.pairs, F.ports, F.laps, F.pmc,
  F.memRest, F.lc, F.la, F.keyScrubFrom, F.keyReseed, F.keyRequests]

theorem Device.learnLocal_keeps {W : List Nat} {a : Device} {d : Device} {b : Bytes} (hW : Sub Touch.learnLocal W) (h : Keeps W a d) :
    Keeps W a (Device.learnLocal d b) := by
  unfold Device.learnLocal
  try dsimp only
  repeat' first
    | with_reducible exact h | with_reducible assumption | exact memT (by decide +kernel) hW
    | with_reducible apply Keeps.ite | with_reducible refine Device.unpinned_keeps (subT (by decide +kernel) hW) ?_
    | with_reducible refine Device.engineReads_keeps (subT (by decide +kernel) hW) ?_
    | with_reducible refine Device.inc64_keeps ?_ ?_
    | with_reducible refine Device.learnInsert_keeps (subT (by decide +kernel) hW) ?_
    | with_reducible apply Keeps.ite2 | split

def Touch.learnPeer : List Nat :=
  [O.LOCK, O.GROUP_OWNER, O.GROUP_STATE, O.GROUP_WRITES, O.GROUP_FAIL_ADDRESS, O.GROUP_FLAGS, O.SESSION_STATE,
  O.SESSION_ROLE, O.SESSION_CA, O.SESSION_ID, O.SESSION_LAST_COUNTER, O.ROLE_ROOT, O.RING_ENABLE, O.RING_HEAD,
  O.RING_TAIL, O.RING_STATE, O.RING_COMPLETED, O.RING_REJECTED, O.INJECT_REFUSED, O.MODE, O.MODE_CMD,
  O.MODE_ENTERED_AT, O.MODE_CAUSE, O.RUNAHEAD_FALSE_STARTS, O.RUNAHEAD_WASTED_CELLS, O.BANK_DISCARDS,
  O.VAULT_STATE, O.VAULT_HANDLE, O.VAULT_LEVEL, O.VAULT_PURPOSE, O.VAULT_KEY_BITS, O.VAULT_COUNTED,
  O.VAULT_USES_LEFT, O.VAULT_ORIGIN, O.VAULT_PARENT, O.VAULT_CREATED_AT, O.VAULT_ARG_KEY, O.VAULT_CMD,
  O.VAULT_RESULT_HANDLE, O.DRBG_STATE, O.LA_CONTEXTS_BUSY, O.GUN_STATE, O.GUN_OWNER, O.GUN_FLAGS, O.PORT_TX_FRAMES,
  O.PORT_TX_BYTES, O.PORT_TX_TRUNCATED, O.PORT_FC_TX_XOFF_C0, O.PORT_FC_TX_XOFF_C1, O.PORT_FC_TX_XOFF_C2,
  O.PORT_FC_TX_XOFF_C3, O.PORT_FC_TX_XOFF_C4, O.PORT_FC_TX_XOFF_C5, O.PORT_FC_TX_XOFF_C6, O.PORT_FC_TX_XOFF_C7,
  O.SC_STATUS, O.SA_STATE, O.SA_KEK, O.SA_SLOT, O.SA_FLAGS, O.SA_CHANGED_AT, O.SCSA_SLOT0_ROW, O.SCSA_SLOT1_ROW,
  O.SCSA_IN_FORCE_AN, O.SCSA_ZONE_OPEN, O.SA_STAT_PKTS, O.SA_STAT_OCTETS, O.SA_STAT_PKTS_ENCRYPTED,
  O.SA_STAT_NOT_VALID, O.SA_STAT_COMMIT_LATE, O.SA_STAT_TX_LOST, O.LEARN_CONFLICTS, O.LEARN_ENTRIES,
  O.CALLROOM_OCCUPANCY, O.CALLROOM_PEAK, O.CLS_ENTRIES, O.QUEUE_OCCUPANCY, O.QUEUE_NODE, O.BUFP_USED_CELLS,
  O.BUF_HEADROOM_USED, O.MEM_TAG_FAILS, O.MEM_NODE_FAILS, O.MEM_CTR_READONLY, O.MEM_POISON_COUNT, O.MEM_TREE_HITS,
  O.MEM_TREE_MISSES, O.MEM_POISON_OFFSET, O.MEM_POISON_AT, O.MEM_POISON_CAUSE, O.FLT_SRC_CLASS, O.FLT_SRC_EVENTS,
  O.FLT_SRC_LAST_AT, O.FLT_STATUS, O.FLT_FATAL_SINCE_BOOT, O.FLT_LOG_LAST_SEQ, O.FLT_LOG_OVERWRITTEN,
  O.FLT_EVENT_LOST, O.FLT_FIRST_SEVERE, O.FLT_LOG_RECORD, O.PMC_VALUE, O.PMC_STATUS, O.PEER_KEY, O.PEER_MOVED_AWAY,
  F.mode, F.draws, F.out, F.sess, F.groups, F.ring, F.pcieDma, F.pciePending, F.faults, F.vault, F.checkKey,
  F.storeKey, F.keyTests, F.keyRestart, F.keyScrub, F.saRecs, F.saCtxs, F.banks, F.pipe, F.clsx, F.queues, F.nodes,
  F.pairs, F.ports, F.laps, F.pmc, F.memRest, F.lc, F.la, F.keyScrubFrom, F.keyReseed, F.keyRequests]

theorem Device.learnPeer_keeps {W : List Nat} {a : Device} {d : Device} {b : Bytes} (hW : Sub Touch.learnPeer W) (h : Keeps W a d) :
    Keeps W a (Device.learnPeer d b) := by
  unfold Device.learnPeer
  try dsimp only
  repeat' first
    | with_reducible exact h | with_reducible assumption | exact memT (by decide +kernel) hW
    | with_reducible apply Keeps.ite
    | with_reducible refine Device.lookupUnits_keeps (subT (by decide +kernel) hW) ?_
    | with_reducible refine Device.engineReads_keeps (subT (by decide +kernel) hW) ?_
    | with_reducible refine Device.deleteWay_keeps (subT (by decide +kernel) hW) ?_
    | with_reducible refine Device.inc64_keeps ?_ ?_ | with_reducible apply Keeps.ite2 | split

def Touch.batonProcess : List Nat :=
  [O.LOCK, O.GROUP_OWNER, O.GROUP_STATE, O.GROUP_WRITES, O.GROUP_FAIL_ADDRESS, O.GROUP_FLAGS, O.SESSION_STATE,
  O.SESSION_ROLE, O.SESSION_CA, O.SESSION_ID, O.SESSION_LAST_COUNTER, O.ROLE_ROOT, O.RING_ENABLE, O.RING_HEAD,
  O.RING_TAIL, O.RING_STATE, O.RING_COMPLETED, O.RING_REJECTED, O.INJECT_REFUSED, O.MODE, O.MODE_CMD,
  O.MODE_ENTERED_AT, O.MODE_CAUSE, O.RUNAHEAD_FALSE_STARTS, O.RUNAHEAD_WASTED_CELLS, O.BANK_DISCARDS,
  O.VAULT_STATE, O.VAULT_HANDLE, O.VAULT_LEVEL, O.VAULT_PURPOSE, O.VAULT_KEY_BITS, O.VAULT_COUNTED,
  O.VAULT_USES_LEFT, O.VAULT_ORIGIN, O.VAULT_PARENT, O.VAULT_CREATED_AT, O.VAULT_ARG_KEY, O.VAULT_CMD,
  O.VAULT_RESULT_HANDLE, O.DRBG_STATE, O.LA_CONTEXTS_BUSY, O.GUN_STATE, O.GUN_OWNER, O.GUN_FLAGS, O.PORT_TX_FRAMES,
  O.PORT_TX_BYTES, O.PORT_TX_TRUNCATED, O.PORT_FC_TX_XOFF_C0, O.PORT_FC_TX_XOFF_C1, O.PORT_FC_TX_XOFF_C2,
  O.PORT_FC_TX_XOFF_C3, O.PORT_FC_TX_XOFF_C4, O.PORT_FC_TX_XOFF_C5, O.PORT_FC_TX_XOFF_C6, O.PORT_FC_TX_XOFF_C7,
  O.SC_STATUS, O.SA_STATE, O.SA_KEK, O.SA_SLOT, O.SA_FLAGS, O.SA_CHANGED_AT, O.SCSA_SLOT0_ROW, O.SCSA_SLOT1_ROW,
  O.SCSA_IN_FORCE_AN, O.SCSA_ZONE_OPEN, O.SA_STAT_PKTS, O.SA_STAT_OCTETS, O.SA_STAT_PKTS_ENCRYPTED,
  O.SA_STAT_NOT_VALID, O.SA_STAT_COMMIT_LATE, O.SA_STAT_TX_LOST, O.LEARN_UNPINNED, O.LEARN_CONFLICTS,
  O.LEARN_ENTRIES, O.CALLROOM_OCCUPANCY, O.CALLROOM_PEAK, O.CLS_CMD, O.CLS_ENTRIES, O.CLS_INSERTS, O.CLS_MOVES,
  O.CLS_EVICTIONS, O.CLS_INSERT_FAILS, O.QUEUE_OCCUPANCY, O.QUEUE_NODE, O.BUFP_USED_CELLS, O.BUF_HEADROOM_USED,
  O.MEM_TAG_FAILS, O.MEM_NODE_FAILS, O.MEM_CTR_READONLY, O.MEM_POISON_COUNT, O.MEM_TREE_HITS, O.MEM_TREE_MISSES,
  O.MEM_POISON_OFFSET, O.MEM_POISON_AT, O.MEM_POISON_CAUSE, O.FLT_SRC_CLASS, O.FLT_SRC_EVENTS, O.FLT_SRC_LAST_AT,
  O.FLT_STATUS, O.FLT_FATAL_SINCE_BOOT, O.FLT_LOG_LAST_SEQ, O.FLT_LOG_OVERWRITTEN, O.FLT_EVENT_LOST,
  O.FLT_FIRST_SEVERE, O.FLT_LOG_RECORD, O.PMC_VALUE, O.PMC_STATUS, O.PEER_KEY, O.PEER_MOVED_AWAY, F.mode, F.draws,
  F.out, F.sess, F.groups, F.ring, F.pcieDma, F.pciePending, F.faults, F.vault, F.checkKey, F.storeKey, F.keyTests,
  F.keyRestart, F.keyScrub, F.saRecs, F.saCtxs, F.banks, F.pipe, F.clsx, F.queues, F.nodes, F.pairs, F.ports,
  F.laps, F.pmc, F.memRest, F.lc, F.la, F.keyScrubFrom, F.keyReseed, F.keyRequests]

theorem Device.batonProcess_keeps {W : List Nat} {a : Device} {d : Device} (hW : Sub Touch.batonProcess W) (h : Keeps W a d) :
    Keeps W a (Device.batonProcess d) := by
  unfold Device.batonProcess
  try dsimp only
  repeat' first
    | with_reducible exact h | with_reducible assumption | with_reducible apply Keeps.ite
    | with_reducible refine Device.setBatons_keeps (subT (by decide +kernel) hW) ?_
    | with_reducible refine Device.pmcHub_keeps (subT (by decide +kernel) hW) ?_
    | with_reducible refine Device.drainJobs_keeps (subT (by decide +kernel) hW) ?_
    | with_reducible refine Device.learnPeer_keeps (subT (by decide +kernel) hW) ?_
    | with_reducible refine Device.learnLocal_keeps (subT (by decide +kernel) hW) ?_
    | with_reducible apply Keeps.ite2 | split

def Touch.flushLearned : List Nat :=
  Touch.serveJob

theorem Device.flushLearned_keeps {W : List Nat} {a : Device} {d : Device} {ca : Nat} (hW : Sub Touch.flushLearned W) (h : Keeps W a d) :
    Keeps W a (Device.flushLearned d ca) := by
  unfold Device.flushLearned
  try dsimp only
  repeat' first
    | with_reducible exact h | with_reducible assumption | with_reducible apply Keeps.foldl
    | with_reducible refine Device.drainJobs_keeps (subT (by decide +kernel) hW) ?_
    | with_reducible refine Device.deleteWay_keeps (subT (by decide +kernel) hW) ?_
    | with_reducible apply Keeps.foldl2 | intro _ _ hq | intro _

def Touch.learnFlushCore : List Nat :=
  [O.LOCK, O.GROUP_OWNER, O.GROUP_STATE, O.GROUP_WRITES, O.GROUP_FAIL_ADDRESS, O.GROUP_FLAGS, O.SESSION_STATE,
  O.SESSION_ROLE, O.SESSION_CA, O.SESSION_ID, O.SESSION_LAST_COUNTER, O.ROLE_ROOT, O.RING_ENABLE, O.RING_HEAD,
  O.RING_TAIL, O.RING_STATE, O.RING_COMPLETED, O.RING_REJECTED, O.INJECT_REFUSED, O.MODE, O.MODE_CMD,
  O.MODE_ENTERED_AT, O.MODE_CAUSE, O.RUNAHEAD_FALSE_STARTS, O.RUNAHEAD_WASTED_CELLS, O.BANK_DISCARDS,
  O.VAULT_STATE, O.VAULT_HANDLE, O.VAULT_LEVEL, O.VAULT_PURPOSE, O.VAULT_KEY_BITS, O.VAULT_COUNTED,
  O.VAULT_USES_LEFT, O.VAULT_ORIGIN, O.VAULT_PARENT, O.VAULT_CREATED_AT, O.VAULT_ARG_KEY, O.VAULT_CMD,
  O.VAULT_RESULT_HANDLE, O.DRBG_STATE, O.LA_CONTEXTS_BUSY, O.GUN_STATE, O.GUN_OWNER, O.GUN_FLAGS, O.PORT_TX_FRAMES,
  O.PORT_TX_BYTES, O.PORT_TX_TRUNCATED, O.PORT_FC_TX_XOFF_C0, O.PORT_FC_TX_XOFF_C1, O.PORT_FC_TX_XOFF_C2,
  O.PORT_FC_TX_XOFF_C3, O.PORT_FC_TX_XOFF_C4, O.PORT_FC_TX_XOFF_C5, O.PORT_FC_TX_XOFF_C6, O.PORT_FC_TX_XOFF_C7,
  O.SC_STATUS, O.SA_STATE, O.SA_KEK, O.SA_SLOT, O.SA_FLAGS, O.SA_CHANGED_AT, O.SCSA_SLOT0_ROW, O.SCSA_SLOT1_ROW,
  O.SCSA_IN_FORCE_AN, O.SCSA_ZONE_OPEN, O.SA_STAT_PKTS, O.SA_STAT_OCTETS, O.SA_STAT_PKTS_ENCRYPTED,
  O.SA_STAT_NOT_VALID, O.SA_STAT_COMMIT_LATE, O.SA_STAT_TX_LOST, O.LEARN_ENTRIES, O.LEARN_FLUSH,
  O.CALLROOM_OCCUPANCY, O.CALLROOM_PEAK, O.CLS_CMD, O.CLS_ENTRIES, O.CLS_INSERTS, O.CLS_MOVES, O.CLS_EVICTIONS,
  O.QUEUE_OCCUPANCY, O.QUEUE_NODE, O.BUFP_USED_CELLS, O.BUF_HEADROOM_USED, O.MEM_TAG_FAILS, O.MEM_NODE_FAILS,
  O.MEM_CTR_READONLY, O.MEM_POISON_COUNT, O.MEM_TREE_HITS, O.MEM_TREE_MISSES, O.MEM_POISON_OFFSET, O.MEM_POISON_AT,
  O.MEM_POISON_CAUSE, O.FLT_SRC_CLASS, O.FLT_SRC_EVENTS, O.FLT_SRC_LAST_AT, O.FLT_STATUS, O.FLT_FATAL_SINCE_BOOT,
  O.FLT_LOG_LAST_SEQ, O.FLT_LOG_OVERWRITTEN, O.FLT_EVENT_LOST, O.FLT_FIRST_SEVERE, O.FLT_LOG_RECORD, O.PMC_VALUE,
  O.PMC_STATUS, O.PEER_KEY, F.mode, F.draws, F.out, F.sess, F.groups, F.ring, F.pcieDma, F.pciePending, F.faults,
  F.vault, F.checkKey, F.storeKey, F.keyTests, F.keyRestart, F.keyScrub, F.saRecs, F.saCtxs, F.banks, F.pipe,
  F.clsx, F.queues, F.nodes, F.pairs, F.ports, F.laps, F.pmc, F.memRest, F.lc, F.la, F.keyScrubFrom, F.keyReseed,
  F.keyRequests]

theorem Device.learnFlushCore_keeps {W : List Nat} {a : Device} {r : Req} {ca : Nat} {d : Device} (hW : Sub Touch.learnFlushCore W) (h : Keeps W a d) :
    Keeps W a (Device.learnFlushCore r ca d).2 := by
  unfold Device.learnFlushCore
  try dsimp only
  repeat' first
    | with_reducible exact h | with_reducible assumption | exact memT (by decide +kernel) hW
    | with_reducible refine Device.runCmd_keeps ?_ ?_ ?_
    | with_reducible refine Device.flushLearned_keeps (subT (by decide +kernel) hW) ?_ | intro _ _ hq | intro _

def Touch.gunHeard : List Nat :=
  [O.LOCK, O.GROUP_OWNER, O.GROUP_STATE, O.GROUP_WRITES, O.GROUP_FAIL_ADDRESS, O.GROUP_FLAGS, O.SESSION_STATE,
  O.SESSION_ROLE, O.SESSION_CA, O.SESSION_ID, O.SESSION_LAST_COUNTER, O.RING_ENABLE, O.RING_HEAD, O.RING_TAIL,
  O.RING_STATE, O.RING_COMPLETED, O.RING_REJECTED, O.GUN_STATE, O.GUN_OWNER, O.GUN_FLAGS, O.GUN_PEER_MISMATCH,
  O.FLT_SRC_EVENTS, O.FLT_SRC_LAST_AT, O.FLT_LOG_LAST_SEQ, O.FLT_LOG_OVERWRITTEN, O.FLT_EVENT_LOST,
  O.FLT_FIRST_SEVERE, O.FLT_LOG_RECORD, O.PMC_VALUE, O.PMC_STATUS, F.out, F.sess, F.groups, F.ring, F.pcieDma,
  F.pciePending, F.faults, F.clsx, F.pmc]

theorem Device.gunHeard_keeps {W : List Nat} {a : Device} {d : Device} {v : Bytes} (hW : Sub Touch.gunHeard W) (h : Keeps W a d) :
    Keeps W a (Device.gunHeard d v) := by
  unfold Device.gunHeard
  try dsimp only
  repeat' first
    | with_reducible exact h | with_reducible assumption | exact memT (by decide +kernel) hW
    | with_reducible apply Keeps.ite | with_reducible apply Keeps.elim
    | with_reducible refine Device.inc32_keeps ?_ ?_
    | with_reducible refine Device.note_keeps (subT (by decide +kernel) hW) ?_ | intro _ _ hq | intro _ | split

def Touch.gunTagged : List Nat :=
  [O.RING_TAG_ERRORS, O.RING_REPLAY_DROPS, O.LOCK, O.GROUP_OWNER, O.GROUP_STATE, O.GROUP_WRITES,
  O.GROUP_FAIL_ADDRESS, O.GROUP_FLAGS, O.SESSION_STATE, O.SESSION_ROLE, O.SESSION_CA, O.SESSION_ID,
  O.SESSION_LAST_COUNTER, O.RING_ENABLE, O.RING_HEAD, O.RING_TAIL, O.RING_STATE, O.RING_COMPLETED, O.RING_REJECTED,
  O.GUN_STATE, O.GUN_OWNER, O.GUN_FLAGS, O.GUN_PEER_MISMATCH, O.FLT_SRC_EVENTS, O.FLT_SRC_LAST_AT,
  O.FLT_LOG_LAST_SEQ, O.FLT_LOG_OVERWRITTEN, O.FLT_EVENT_LOST, O.FLT_FIRST_SEVERE, O.FLT_LOG_RECORD, O.PMC_VALUE,
  O.PMC_STATUS, F.out, F.sess, F.groups, F.ring, F.pcieDma, F.pciePending, F.faults, F.clsx, F.pmc]

theorem Device.gunTagged_keeps {W : List Nat} {a : Device} {d : Device} {m : RingMsg} {row : Nat} (hW : Sub Touch.gunTagged W) (h : Keeps W a d) :
    Keeps W a (Device.gunTagged d m row) := by
  unfold Device.gunTagged
  try dsimp only
  repeat' first
    | with_reducible exact h | exact memT (by decide +kernel) hW | with_reducible apply Keeps.ite
    | with_reducible refine Device.inc64_keeps ?_ ?_
    | with_reducible refine Device.closeSession_keeps (subT (by decide +kernel) hW) ?_
    | with_reducible refine Device.wr_keeps ?_ ?_
    | with_reducible refine Device.setSess_keeps (subT (by decide +kernel) hW) ?_
    | with_reducible refine Device.gunHeard_keeps (subT (by decide +kernel) hW) ?_ | split

def Touch.gunMessageRx : List Nat :=
  [O.RING_POSITION, O.RING_CRC_ERRORS, O.RING_TAG_ERRORS, O.RING_REPLAY_DROPS, O.RING_RETURNED,
  O.RING_BAD_MESSAGES, O.LOCK, O.GROUP_OWNER, O.GROUP_STATE, O.GROUP_WRITES, O.GROUP_FAIL_ADDRESS, O.GROUP_FLAGS,
  O.SESSION_STATE, O.SESSION_ROLE, O.SESSION_CA, O.SESSION_ID, O.SESSION_LAST_COUNTER, O.RING_ENABLE, O.RING_HEAD,
  O.RING_TAIL, O.RING_STATE, O.RING_COMPLETED, O.RING_REJECTED, O.GUN_STATE, O.GUN_OWNER, O.GUN_FLAGS,
  O.GUN_PEER_MISMATCH, O.FLT_SRC_EVENTS, O.FLT_SRC_LAST_AT, O.FLT_LOG_LAST_SEQ, O.FLT_LOG_OVERWRITTEN,
  O.FLT_EVENT_LOST, O.FLT_FIRST_SEVERE, O.FLT_LOG_RECORD, O.PMC_VALUE, O.PMC_STATUS, F.out, F.sess, F.groups,
  F.ring, F.pcieDma, F.pciePending, F.faults, F.clsx, F.pmc]

theorem Device.gunMessageRx_keeps {W : List Nat} {a : Device} {m : RingMsg} {d : Device} (hW : Sub Touch.gunMessageRx W) (h : Keeps W a d) :
    Keeps W a (Device.gunMessageRx m d) := by
  unfold Device.gunMessageRx
  try dsimp only
  repeat' first
    | with_reducible exact h | with_reducible assumption | exact memT (by decide +kernel) hW
    | with_reducible apply Keeps.ite | with_reducible apply Keeps.elim
    | with_reducible refine Device.ringArrive_keeps (subT (by decide +kernel) hW) ?_
    | with_reducible refine Device.ringAccept_keeps (subT (by decide +kernel) hW) ?_
    | with_reducible refine Device.inc64_keeps ?_ ?_
    | with_reducible refine Device.gunTagged_keeps (subT (by decide +kernel) hW) ?_ | with_reducible apply Keeps.ite2
    | with_reducible apply Keeps.elim2 | intro _ _ hq | intro _ | split

def Touch.setPeerLast : List Nat :=
  [F.clsx]

theorem Device.setPeerLast_keeps {W : List Nat} {a : Device} {d : Device} {origin : Nat} {seq : Nat} (hW : Sub Touch.setPeerLast W) (h : Keeps W a d) :
    Keeps W a (Device.setPeerLast d origin seq) := by
  unfold Device.setPeerLast
  try dsimp only
  repeat' first
    | with_reducible exact h | with_reducible refine Device.setCls_keeps (subT (by decide +kernel) hW) ?_

def Touch.peerForward : List Nat :=
  [F.out]

theorem Device.peerForward_keeps {W : List Nat} {a : Device} {d : Device} {key : Bytes} {lane : Nat} {m : PeerMsg} (hW : Sub Touch.peerForward W) (h : Keeps W a d) :
    Keeps W a (Device.peerForward d key lane m) := by
  unfold Device.peerForward
  try dsimp only
  repeat' first
    | with_reducible exact h | with_reducible apply Keeps.ite
    | with_reducible refine Device.emit_keeps (subT (by decide +kernel) hW) ?_ | split

def Touch.peerUse : List Nat :=
  [O.LOCK, O.GROUP_OWNER, O.GROUP_STATE, O.GROUP_WRITES, O.GROUP_FAIL_ADDRESS, O.GROUP_FLAGS, O.SESSION_STATE,
  O.SESSION_ROLE, O.SESSION_CA, O.SESSION_ID, O.SESSION_LAST_COUNTER, O.RING_ENABLE, O.RING_HEAD, O.RING_TAIL,
  O.RING_STATE, O.RING_COMPLETED, O.RING_REJECTED, O.GUN_STATE, O.GUN_OWNER, O.GUN_FLAGS, O.GUN_PEER_MISMATCH,
  O.LEARN_BATON_DROPS, O.FLT_SRC_EVENTS, O.FLT_SRC_LAST_AT, O.FLT_LOG_LAST_SEQ, O.FLT_LOG_OVERWRITTEN,
  O.FLT_EVENT_LOST, O.FLT_FIRST_SEVERE, O.FLT_LOG_RECORD, O.PMC_VALUE, O.PMC_STATUS, F.out, F.sess, F.groups,
  F.ring, F.pcieDma, F.pciePending, F.faults, F.clsx, F.pmc]

theorem Device.peerUse_keeps {W : List Nat} {a : Device} {d : Device} {m : PeerMsg} (hW : Sub Touch.peerUse W) (h : Keeps W a d) :
    Keeps W a (Device.peerUse d m) := by
  unfold Device.peerUse
  try dsimp only
  repeat' first
    | with_reducible exact h | with_reducible assumption | with_reducible apply Keeps.ite
    | with_reducible apply Keeps.foldl
    | with_reducible refine Device.queueBaton_keeps (subT (by decide +kernel) hW) ?_
    | with_reducible refine Device.gunHeard_keeps (subT (by decide +kernel) hW) ?_ | intro _ _ hq | intro _ | split

def Touch.peerMessageRx : List Nat :=
  [O.LOCK, O.GROUP_OWNER, O.GROUP_STATE, O.GROUP_WRITES, O.GROUP_FAIL_ADDRESS, O.GROUP_FLAGS, O.SESSION_STATE,
  O.SESSION_ROLE, O.SESSION_CA, O.SESSION_ID, O.SESSION_LAST_COUNTER, O.RING_ENABLE, O.RING_HEAD, O.RING_TAIL,
  O.RING_STATE, O.RING_COMPLETED, O.RING_REJECTED, O.GUN_STATE, O.GUN_OWNER, O.GUN_FLAGS, O.GUN_PEER_MISMATCH,
  O.LEARN_BATON_DROPS, O.FLT_SRC_EVENTS, O.FLT_SRC_LAST_AT, O.FLT_LOG_LAST_SEQ, O.FLT_LOG_OVERWRITTEN,
  O.FLT_EVENT_LOST, O.FLT_FIRST_SEVERE, O.FLT_LOG_RECORD, O.PMC_VALUE, O.PMC_STATUS, O.PEER_RX_MESSAGES,
  O.PEER_RX_ERRORS, O.PEER_RX_DUPLICATES, F.out, F.sess, F.groups, F.ring, F.pcieDma, F.pciePending, F.faults,
  F.clsx, F.pmc]

theorem Device.peerMessageRx_keeps {W : List Nat} {a : Device} {lane : Nat} {m : PeerMsg} {d : Device} (hW : Sub Touch.peerMessageRx W) (h : Keeps W a d) :
    Keeps W a (Device.peerMessageRx lane m d) := by
  unfold Device.peerMessageRx
  try dsimp only
  repeat' first
    | with_reducible exact h | with_reducible assumption | exact memT (by decide +kernel) hW
    | with_reducible apply Keeps.ite | with_reducible apply Keeps.elim
    | with_reducible refine Device.inc64_keeps ?_ ?_
    | with_reducible refine Device.setPeerLast_keeps (subT (by decide +kernel) hW) ?_
    | with_reducible refine Device.peerForward_keeps (subT (by decide +kernel) hW) ?_
    | with_reducible refine Device.peerUse_keeps (subT (by decide +kernel) hW) ?_ | intro _ _ hq | intro _ | split

def Touch.peerBlockLock : List Nat :=
  [O.PEER_SYNC]

theorem Device.peerBlockLock_keeps {W : List Nat} {a : Device} {lane : Nat} {locked : Bool} {d : Device} (hW : Sub Touch.peerBlockLock W) (h : Keeps W a d) :
    Keeps W a (Device.peerBlockLock lane locked d) := by
  unfold Device.peerBlockLock
  try dsimp only
  repeat' first
    | with_reducible exact h | exact memT (by decide +kernel) hW | with_reducible apply Keeps.ite
    | with_reducible refine Device.wrBit_keeps ?_ ?_ | split

end Sys2Proof.Machine
end

