-- ==== Sys2Proof/Laws/KeepsParser.lean ====
section
/-!
SUPPORT. The places that each operation of Machine/Parser.lean may change (Laws/Keeps.lean).
-/
set_option Elab.async false
set_option linter.all false
set_option linter.unusedTactic false
set_option linter.unreachableTactic false
set_option linter.style.longLine false
namespace Sys2Proof.Machine

def Touch.parserLoadCore : List Nat :=
  [O.PARSER_SHADOW_STATE, O.PARSER_SHADOW_DIGEST, O.PARSER_CMD, F.pipe]

theorem Device.parserLoadCore_keeps {W : List Nat} {a : Device} {r : Req} {s : Nat} {x : Nat} {d : Device} (hW : Sub Touch.parserLoadCore W) (h : Keeps W a d) :
    Keeps W a (Device.parserLoadCore r s x d).2 := by
  unfold Device.parserLoadCore
  try dsimp only
  repeat' first
    | with_reducible exact h | with_reducible assumption | exact memT (by decide +kernel) hW
    | with_reducible refine Device.runCmd_keeps ?_ ?_ ?_
    | with_reducible refine Device.loadShadow_keeps (subT (by decide +kernel) hW) ?_ | intro _ _ hq | intro _

def Touch.armSwap : List Nat :=
  [O.LOCK, O.GROUP_OWNER, O.GROUP_STATE, O.GROUP_WRITES, O.GROUP_FAIL_ADDRESS, O.GROUP_FLAGS, O.SESSION_STATE,
  O.SESSION_ROLE, O.SESSION_CA, O.SESSION_ID, O.SESSION_LAST_COUNTER, O.RING_ENABLE, O.RING_HEAD, O.RING_TAIL,
  O.RING_STATE, O.RING_COMPLETED, O.RING_REJECTED, O.GUN_STATE, O.GUN_OWNER, O.GUN_TARGET_ROW, O.GUN_TIME,
  O.GUN_SEQ, O.GUN_TAG, O.GUN_TARGET_CYCLE, O.GUN_FIRED_AT, O.GUN_FLAGS, O.PARSER_SHADOW_STATE, O.FLT_SRC_EVENTS,
  O.FLT_SRC_LAST_AT, O.FLT_LOG_LAST_SEQ, O.FLT_LOG_OVERWRITTEN, O.FLT_EVENT_LOST, O.FLT_FIRST_SEVERE,
  O.FLT_LOG_RECORD, O.PMC_VALUE, O.PMC_STATUS, F.out, F.sess, F.groups, F.ring, F.pcieDma, F.pciePending, F.gunSeq,
  F.guns, F.faults, F.clsx, F.pmc]

theorem Device.armSwap_keeps {W : List Nat} {a : Device} {d : Device} {s : Nat} (hW : Sub Touch.armSwap W) (h : Keeps W a d) :
    Keeps W a (Device.armSwap d s) := by
  unfold Device.armSwap
  try dsimp only
  repeat' first
    | with_reducible exact h | with_reducible assumption | exact memT (by decide +kernel) hW
    | with_reducible apply Keeps.elim | with_reducible refine Device.gunTake_keeps (subT (by decide +kernel) hW) ?_
    | with_reducible refine Device.wr_keeps ?_ ?_ | intro _ _ hq | intro _

def Touch.parserArmCore : List Nat :=
  [O.LOCK, O.GROUP_OWNER, O.GROUP_STATE, O.GROUP_WRITES, O.GROUP_FAIL_ADDRESS, O.GROUP_FLAGS, O.SESSION_STATE,
  O.SESSION_ROLE, O.SESSION_CA, O.SESSION_ID, O.SESSION_LAST_COUNTER, O.RING_ENABLE, O.RING_HEAD, O.RING_TAIL,
  O.RING_STATE, O.RING_COMPLETED, O.RING_REJECTED, O.GUN_STATE, O.GUN_OWNER, O.GUN_TARGET_ROW, O.GUN_TIME,
  O.GUN_SEQ, O.GUN_TAG, O.GUN_TARGET_CYCLE, O.GUN_FIRED_AT, O.GUN_FLAGS, O.PARSER_SHADOW_STATE, O.PARSER_CMD,
  O.FLT_SRC_EVENTS, O.FLT_SRC_LAST_AT, O.FLT_LOG_LAST_SEQ, O.FLT_LOG_OVERWRITTEN, O.FLT_EVENT_LOST,
  O.FLT_FIRST_SEVERE, O.FLT_LOG_RECORD, O.PMC_VALUE, O.PMC_STATUS, F.out, F.sess, F.groups, F.ring, F.pcieDma,
  F.pciePending, F.gunSeq, F.guns, F.faults, F.clsx, F.pmc]

theorem Device.parserArmCore_keeps {W : List Nat} {a : Device} {r : Req} {s : Nat} {d : Device} (hW : Sub Touch.parserArmCore W) (h : Keeps W a d) :
    Keeps W a (Device.parserArmCore r s d).2 := by
  unfold Device.parserArmCore
  try dsimp only
  repeat' first
    | with_reducible exact h | with_reducible assumption | exact memT (by decide +kernel) hW
    | with_reducible refine Device.runCmd_keeps ?_ ?_ ?_
    | with_reducible refine Device.armSwap_keeps (subT (by decide +kernel) hW) ?_ | intro _ _ hq | intro _

def Touch.parserCancelCore : List Nat :=
  [O.LOCK, O.GROUP_OWNER, O.GROUP_STATE, O.GROUP_WRITES, O.GROUP_FAIL_ADDRESS, O.GROUP_FLAGS, O.SESSION_STATE,
  O.SESSION_ROLE, O.SESSION_CA, O.SESSION_ID, O.SESSION_LAST_COUNTER, O.RING_ENABLE, O.RING_HEAD, O.RING_TAIL,
  O.RING_STATE, O.RING_COMPLETED, O.RING_REJECTED, O.GUN_STATE, O.GUN_OWNER, O.GUN_FLAGS, O.PARSER_SHADOW_STATE,
  O.PARSER_CMD, O.FLT_SRC_EVENTS, O.FLT_SRC_LAST_AT, O.FLT_LOG_LAST_SEQ, O.FLT_LOG_OVERWRITTEN, O.FLT_EVENT_LOST,
  O.FLT_FIRST_SEVERE, O.FLT_LOG_RECORD, O.PMC_VALUE, O.PMC_STATUS, F.out, F.sess, F.groups, F.ring, F.pcieDma,
  F.pciePending, F.faults, F.clsx, F.pmc]

theorem Device.parserCancelCore_keeps {W : List Nat} {a : Device} {r : Req} {s : Nat} {d : Device} (hW : Sub Touch.parserCancelCore W) (h : Keeps W a d) :
    Keeps W a (Device.parserCancelCore r s d).2 := by
  unfold Device.parserCancelCore
  try dsimp only
  repeat' first
    | with_reducible exact h | with_reducible assumption | exact memT (by decide +kernel) hW
    | with_reducible apply Keeps.elim | with_reducible refine Device.runCmd_keeps ?_ ?_ ?_
    | with_reducible refine Device.gunCancel_keeps (subT (by decide +kernel) hW) ?_
    | with_reducible refine Device.wr_keeps ?_ ?_ | with_reducible apply Keeps.elim2 | intro _ _ hq | intro _

def Touch.slotRuns : List Nat :=
  Touch.setSlot

theorem Device.slotRuns_keeps {W : List Nat} {a : Device} {d : Device} {r : Nat} {prog : List Nat} {run : Bool} (hW : Sub Touch.slotRuns W) (h : Keeps W a d) :
    Keeps W a (Device.slotRuns d r prog run) := by
  unfold Device.slotRuns
  try dsimp only
  repeat' first
    | with_reducible exact h | with_reducible apply Keeps.ite
    | with_reducible refine Device.setSlot_keeps (subT (by decide +kernel) hW) ?_ | split

def Touch.swapPrograms : List Nat :=
  [O.FW_SLOT_STATE, O.FW_SLOT_DIGEST, O.FW_SLOT_VERSION, O.FW_SLOT_BUILD_ID, O.PARSER_ACTIVE_IMAGE,
  O.PARSER_ACTIVE_DIGEST, O.PARSER_SHADOW_STATE, O.PARSER_SHADOW_DIGEST, F.pipe]

theorem Device.swapPrograms_keeps {W : List Nat} {a : Device} {d : Device} {s : Nat} (hW : Sub Touch.swapPrograms W) (h : Keeps W a d) :
    Keeps W a (Device.swapPrograms d s) := by
  unfold Device.swapPrograms
  try dsimp only
  repeat' first
    | with_reducible exact h | with_reducible refine Device.setActive_keeps (subT (by decide +kernel) hW) ?_
    | with_reducible refine Device.loadShadow_keeps (subT (by decide +kernel) hW) ?_
    | with_reducible refine Device.slotRuns_keeps (subT (by decide +kernel) hW) ?_

def Touch.parserSwap : List Nat :=
  [O.FW_SLOT_STATE, O.FW_SLOT_DIGEST, O.FW_SLOT_VERSION, O.FW_SLOT_BUILD_ID, O.LOCK, O.GROUP_OWNER, O.GROUP_STATE,
  O.GROUP_WRITES, O.GROUP_FAIL_ADDRESS, O.GROUP_FLAGS, O.SESSION_STATE, O.SESSION_ROLE, O.SESSION_CA, O.SESSION_ID,
  O.SESSION_LAST_COUNTER, O.RING_ENABLE, O.RING_HEAD, O.RING_TAIL, O.RING_STATE, O.RING_COMPLETED, O.RING_REJECTED,
  O.GUN_STATE, O.GUN_OWNER, O.GUN_FLAGS, O.PARSER_ACTIVE_IMAGE, O.PARSER_ACTIVE_DIGEST, O.PARSER_SHADOW_STATE,
  O.PARSER_SHADOW_DIGEST, O.PARSER_SWAP_FLAGS, O.FLT_SRC_EVENTS, O.FLT_SRC_LAST_AT, O.FLT_LOG_LAST_SEQ,
  O.FLT_LOG_OVERWRITTEN, O.FLT_EVENT_LOST, O.FLT_FIRST_SEVERE, O.FLT_LOG_RECORD, O.PMC_VALUE, O.PMC_STATUS, F.out,
  F.sess, F.groups, F.ring, F.pcieDma, F.pciePending, F.faults, F.pipe, F.clsx, F.pmc]

theorem Device.parserSwap_keeps {W : List Nat} {a : Device} {d : Device} {s : Nat} {late : Bool} {stepped : Bool} (hW : Sub Touch.parserSwap W) (h : Keeps W a d) :
    Keeps W a (Device.parserSwap d s late stepped).2 := by
  unfold Device.parserSwap
  try dsimp only
  repeat' first
    | with_reducible exact h | exact memT (by decide +kernel) hW | with_reducible apply Keeps.ite
    | with_reducible refine Device.emptyShadow_keeps (subT (by decide +kernel) hW) ?_
    | with_reducible refine Device.note_keeps (subT (by decide +kernel) hW) ?_
    | with_reducible refine Device.wrBit_keeps ?_ ?_
    | with_reducible refine Device.swapPrograms_keeps (subT (by decide +kernel) hW) ?_
    | with_reducible apply Keeps.ite2 | split

end Sys2Proof.Machine
end

