-- ==== Sys2Proof/Laws/KeepsQueues.lean ====
section
/-!
SUPPORT. The places that each operation of Machine/Queues.lean may change (Laws/Keeps.lean).
-/
set_option Elab.async false
set_option linter.all false
set_option linter.unusedTactic false
set_option linter.unreachableTactic false
set_option linter.style.longLine false
namespace Sys2Proof.Machine

def Touch.countRed : List Nat :=
  [O.POL_RED_FRAMES, O.POL_RED_BYTES, O.PMC_VALUE, O.PMC_STATUS, F.out, F.pciePending, F.laps, F.pmc]

theorem Device.countRed_keeps {W : List Nat} {a : Device} {d : Device} {f : Frame} (hW : Sub Touch.countRed W) (h : Keeps W a d) :
    Keeps W a (Device.countRed d f) := by
  unfold Device.countRed
  try dsimp only
  repeat' first
    | with_reducible exact h | exact memT (by decide +kernel) hW | with_reducible refine Device.inc64_keeps ?_ ?_
    | with_reducible refine Device.add64_keeps ?_ ?_
    | with_reducible refine Device.lapPolice_keeps (subT (by decide +kernel) hW) ?_
    | with_reducible refine Device.pmcSlice_keeps (subT (by decide +kernel) hW) ?_

def Touch.police : List Nat :=
  [O.POL_RED_FRAMES, O.POL_RED_BYTES, O.POL_YELLOW_FRAMES, O.POL_YELLOW_BYTES, O.PMC_VALUE, O.PMC_STATUS, F.out,
  F.pciePending, F.queues, F.laps, F.pmc]

theorem Device.police_keeps {W : List Nat} {a : Device} {d : Device} {f : Frame} (hW : Sub Touch.police W) (h : Keeps W a d) :
    Keeps W a (Device.police d f).2 := by
  unfold Device.police
  try dsimp only
  repeat' first
    | with_reducible exact h | exact memT (by decide +kernel) hW | with_reducible apply Keeps.ite
    | with_reducible refine Device.countRed_keeps (subT (by decide +kernel) hW) ?_
    | with_reducible refine Device.charge_keeps (subT (by decide +kernel) hW) ?_
    | with_reducible refine Device.inc64_keeps ?_ ?_ | with_reducible refine Device.add64_keeps ?_ ?_
    | with_reducible apply Keeps.ite2 | split

def Touch.sizePairs : List Nat :=
  [O.BUF_HEADROOM_CELLS, O.BUF_SLACK_CELLS]

theorem Device.sizePairs_keeps {W : List Nat} {a : Device} {d : Device} {p : Nat} (hW : Sub Touch.sizePairs W) (h : Keeps W a d) :
    Keeps W a (Device.sizePairs d p) := by
  unfold Device.sizePairs
  try dsimp only
  repeat' first
    | with_reducible exact h | exact memT (by decide +kernel) hW | with_reducible apply Keeps.ite
    | with_reducible refine Device.wr_keeps ?_ ?_ | split

def Touch.pairXoff : List Nat :=
  Touch.pairXon

theorem Device.pairXoff_keeps {W : List Nat} {a : Device} {d : Device} {k : Nat} (hW : Sub Touch.pairXoff W) (h : Keeps W a d) :
    Keeps W a (Device.pairXoff d k) := by
  unfold Device.pairXoff
  try dsimp only
  repeat' first
    | with_reducible exact h | with_reducible refine Device.setPair_keeps (subT (by decide +kernel) hW) ?_
    | with_reducible refine Device.setHolds_keeps (subT (by decide +kernel) hW) ?_

def Touch.pairLimits : List Nat :=
  Touch.pairXon

theorem Device.pairLimits_keeps {W : List Nat} {a : Device} {d : Device} {p : Nat} (hW : Sub Touch.pairLimits W) (h : Keeps W a d) :
    Keeps W a (Device.pairLimits d p) := by
  unfold Device.pairLimits
  try dsimp only
  repeat' first
    | with_reducible exact h | with_reducible assumption | with_reducible apply Keeps.ite
    | with_reducible apply Keeps.foldl | with_reducible refine Device.pairXoff_keeps (subT (by decide +kernel) hW) ?_
    | with_reducible refine Device.pairXon_keeps (subT (by decide +kernel) hW) ?_ | intro _ _ hq | intro _ | split

def Touch.pairShared : List Nat :=
  [O.PORT_FC_TX_XOFF_C0, O.PORT_FC_TX_XOFF_C1, O.PORT_FC_TX_XOFF_C2, O.PORT_FC_TX_XOFF_C3, O.PORT_FC_TX_XOFF_C4,
  O.PORT_FC_TX_XOFF_C5, O.PORT_FC_TX_XOFF_C6, O.PORT_FC_TX_XOFF_C7, O.BUFP_USED_CELLS, O.BUFP_PEAK_CELLS, F.out,
  F.pairs, F.ports]

theorem Device.pairShared_keeps {W : List Nat} {a : Device} {d : Device} {k : Nat} (hW : Sub Touch.pairShared W) (h : Keeps W a d) :
    Keeps W a (Device.pairShared d k) := by
  unfold Device.pairShared
  try dsimp only
  repeat' first
    | with_reducible exact h | with_reducible apply Keeps.ite
    | with_reducible refine Device.useCell_keeps (subT (by decide +kernel) hW) ?_
    | with_reducible refine Device.setPair_keeps (subT (by decide +kernel) hW) ?_
    | with_reducible refine Device.pairXoff_keeps (subT (by decide +kernel) hW) ?_ | split

def Touch.losslessCell : List Nat :=
  [O.PORT_FC_TX_XOFF_C0, O.PORT_FC_TX_XOFF_C1, O.PORT_FC_TX_XOFF_C2, O.PORT_FC_TX_XOFF_C3, O.PORT_FC_TX_XOFF_C4,
  O.PORT_FC_TX_XOFF_C5, O.PORT_FC_TX_XOFF_C6, O.PORT_FC_TX_XOFF_C7, O.BUFP_USED_CELLS, O.BUFP_PEAK_CELLS,
  O.BUF_HEADROOM_USED, F.out, F.pairs, F.ports]

theorem Device.losslessCell_keeps {W : List Nat} {a : Device} {d : Device} {f : Frame} (hW : Sub Touch.losslessCell W) (h : Keeps W a d) :
    Keeps W a (Device.losslessCell d f).2 := by
  unfold Device.losslessCell
  try dsimp only
  repeat' first
    | with_reducible exact h | exact memT (by decide +kernel) hW | with_reducible apply Keeps.ite
    | with_reducible refine Device.pairShared_keeps (subT (by decide +kernel) hW) ?_
    | with_reducible refine Device.pairXoff_keeps (subT (by decide +kernel) hW) ?_
    | with_reducible refine Device.useCell_keeps (subT (by decide +kernel) hW) ?_
    | with_reducible refine Device.setPair_keeps (subT (by decide +kernel) hW) ?_
    | with_reducible refine Device.wr_keeps ?_ ?_ | with_reducible apply Keeps.ite2 | split

def Touch.lossyCell : List Nat :=
  [O.BUFP_USED_CELLS, O.BUFP_PEAK_CELLS, F.queues]

theorem Device.lossyCell_keeps {W : List Nat} {a : Device} {d : Device} {f : Frame} (hW : Sub Touch.lossyCell W) (h : Keeps W a d) :
    Keeps W a (Device.lossyCell d f).2 := by
  unfold Device.lossyCell
  try dsimp only
  repeat' first
    | with_reducible exact h | with_reducible assumption
    | with_reducible refine Device.useCell_keeps (subT (by decide +kernel) hW) ?_
    | with_reducible refine Device.setQueue_keeps (subT (by decide +kernel) hW) ?_ | split

def Touch.takeCells : List Nat :=
  [O.PORT_FC_TX_XOFF_C0, O.PORT_FC_TX_XOFF_C1, O.PORT_FC_TX_XOFF_C2, O.PORT_FC_TX_XOFF_C3, O.PORT_FC_TX_XOFF_C4,
  O.PORT_FC_TX_XOFF_C5, O.PORT_FC_TX_XOFF_C6, O.PORT_FC_TX_XOFF_C7, O.QUEUE_OCCUPANCY, O.BUFP_USED_CELLS,
  O.BUFP_PEAK_CELLS, O.BUF_HEADROOM_USED, F.out, F.pipe, F.queues, F.pairs, F.ports]

theorem Device.takeCells_keeps {W : List Nat} {a : Device} {x0 : Nat} {x1 : Frame} {d : Device} (hW : Sub Touch.takeCells W) (h : Keeps W a d) :
    Keeps W a (Device.takeCells x0 x1 d).2.2 := by
  induction x0 generalizing x1 d with
  | zero =>
    unfold Device.takeCells
    try dsimp only
    repeat' first
      | with_reducible exact h | with_reducible assumption | exact memT (by decide +kernel) hW
      | with_reducible apply Keeps.ite
      | with_reducible refine Device.losslessCell_keeps (subT (by decide +kernel) hW) ?_
      | with_reducible refine Device.lossyCell_keeps (subT (by decide +kernel) hW) ?_
      | with_reducible refine Device.addCell_keeps (subT (by decide +kernel) hW) ?_
      | with_reducible refine Device.wr_keeps ?_ ?_ | with_reducible apply Keeps.ite2 | split
  | succ _ ih =>
    unfold Device.takeCells
    try dsimp only
    repeat' first
      | with_reducible exact h | with_reducible apply ih | with_reducible assumption
      | exact memT (by decide +kernel) hW | with_reducible apply Keeps.ite
      | with_reducible refine Device.losslessCell_keeps (subT (by decide +kernel) hW) ?_
      | with_reducible refine Device.lossyCell_keeps (subT (by decide +kernel) hW) ?_
      | with_reducible refine Device.addCell_keeps (subT (by decide +kernel) hW) ?_
      | with_reducible refine Device.wr_keeps ?_ ?_ | with_reducible apply Keeps.ite2 | split

def Touch.refreshNodeCount : List Nat :=
  [O.NODE_VTIME, O.NODE_ACTIVE_QUEUES]

theorem Device.refreshNodeCount_keeps {W : List Nat} {a : Device} {d : Device} {n : Nat} (hW : Sub Touch.refreshNodeCount W) (h : Keeps W a d) :
    Keeps W a (Device.refreshNodeCount d n) := by
  unfold Device.refreshNodeCount
  try dsimp only
  repeat' first
    | with_reducible exact h | with_reducible assumption | exact memT (by decide +kernel) hW
    | with_reducible apply Keeps.ite | with_reducible refine Device.wr_keeps ?_ ?_ | with_reducible apply Keeps.ite2
    | intro _ _ hq | intro _ | split

def Touch.refuseFrame : List Nat :=
  [O.LOCK, O.GROUP_OWNER, O.GROUP_STATE, O.GROUP_WRITES, O.GROUP_FAIL_ADDRESS, O.GROUP_FLAGS, O.SESSION_STATE,
  O.SESSION_ROLE, O.SESSION_CA, O.SESSION_ID, O.SESSION_LAST_COUNTER, O.RING_ENABLE, O.RING_HEAD, O.RING_TAIL,
  O.RING_STATE, O.RING_COMPLETED, O.RING_REJECTED, O.RUNAHEAD_FALSE_STARTS, O.RUNAHEAD_WASTED_CELLS, O.GUN_STATE,
  O.GUN_OWNER, O.GUN_FLAGS, O.PORT_FC_TX_XOFF_C0, O.PORT_FC_TX_XOFF_C1, O.PORT_FC_TX_XOFF_C2, O.PORT_FC_TX_XOFF_C3,
  O.PORT_FC_TX_XOFF_C4, O.PORT_FC_TX_XOFF_C5, O.PORT_FC_TX_XOFF_C6, O.PORT_FC_TX_XOFF_C7, O.SA_STAT_TX_LOST,
  O.CALLROOM_OCCUPANCY, O.CALLROOM_PEAK, O.QUEUE_OCCUPANCY, O.QUEUE_NODE, O.QUEUE_DROP_FRAMES, O.QUEUE_DROP_BYTES,
  O.BUFP_USED_CELLS, O.BUF_HEADROOM_USED, O.BUF_HEADROOM_DROPS, O.FLT_SRC_EVENTS, O.FLT_SRC_LAST_AT,
  O.FLT_LOG_LAST_SEQ, O.FLT_LOG_OVERWRITTEN, O.FLT_EVENT_LOST, O.FLT_FIRST_SEVERE, O.FLT_LOG_RECORD, O.PMC_VALUE,
  O.PMC_STATUS, F.out, F.sess, F.groups, F.ring, F.pcieDma, F.pciePending, F.faults, F.pipe, F.clsx, F.queues,
  F.nodes, F.pairs, F.ports, F.laps, F.pmc]

theorem Device.refuseFrame_keeps {W : List Nat} {a : Device} {d : Device} {f : Frame} (hW : Sub Touch.refuseFrame W) (h : Keeps W a d) :
    Keeps W a (Device.refuseFrame d f) := by
  unfold Device.refuseFrame
  try dsimp only
  repeat' first
    | with_reducible exact h | exact memT (by decide +kernel) hW | with_reducible apply Keeps.ite
    | with_reducible refine Device.inc64_keeps ?_ ?_ | with_reducible refine Device.add64_keeps ?_ ?_
    | with_reducible refine Device.noteRow_keeps (subT (by decide +kernel) hW) ?_
    | with_reducible refine Device.dropWhole_keeps (subT (by decide +kernel) hW) ?_
    | with_reducible refine Device.setFrame_keeps (subT (by decide +kernel) hW) ?_ | split

def Touch.readCells : List Nat :=
  Touch.freeCell

theorem Device.readCells_keeps {W : List Nat} {a : Device} {d : Device} {f : Frame} (hW : Sub Touch.readCells W) (h : Keeps W a d) :
    Keeps W a (Device.readCells d f) := by
  unfold Device.readCells
  try dsimp only
  repeat' first
    | with_reducible exact h | with_reducible apply Keeps.ite
    | with_reducible refine Device.freeCells_keeps (subT (by decide +kernel) hW) ?_ | split

def Touch.arriveCells : List Nat :=
  [O.LOCK, O.GROUP_OWNER, O.GROUP_STATE, O.GROUP_WRITES, O.GROUP_FAIL_ADDRESS, O.GROUP_FLAGS, O.SESSION_STATE,
  O.SESSION_ROLE, O.SESSION_CA, O.SESSION_ID, O.SESSION_LAST_COUNTER, O.RING_ENABLE, O.RING_HEAD, O.RING_TAIL,
  O.RING_STATE, O.RING_COMPLETED, O.RING_REJECTED, O.RUNAHEAD_FALSE_STARTS, O.RUNAHEAD_WASTED_CELLS, O.GUN_STATE,
  O.GUN_OWNER, O.GUN_FLAGS, O.PORT_FC_TX_XOFF_C0, O.PORT_FC_TX_XOFF_C1, O.PORT_FC_TX_XOFF_C2, O.PORT_FC_TX_XOFF_C3,
  O.PORT_FC_TX_XOFF_C4, O.PORT_FC_TX_XOFF_C5, O.PORT_FC_TX_XOFF_C6, O.PORT_FC_TX_XOFF_C7, O.SA_STAT_TX_LOST,
  O.CALLROOM_OCCUPANCY, O.CALLROOM_PEAK, O.QUEUE_OCCUPANCY, O.QUEUE_NODE, O.QUEUE_DROP_FRAMES, O.QUEUE_DROP_BYTES,
  O.BUFP_USED_CELLS, O.BUFP_PEAK_CELLS, O.BUF_HEADROOM_USED, O.BUF_HEADROOM_DROPS, O.FLT_SRC_EVENTS,
  O.FLT_SRC_LAST_AT, O.FLT_LOG_LAST_SEQ, O.FLT_LOG_OVERWRITTEN, O.FLT_EVENT_LOST, O.FLT_FIRST_SEVERE,
  O.FLT_LOG_RECORD, O.PMC_VALUE, O.PMC_STATUS, F.out, F.sess, F.groups, F.ring, F.pcieDma, F.pciePending, F.faults,
  F.pipe, F.clsx, F.queues, F.nodes, F.pairs, F.ports, F.laps, F.pmc]

theorem Device.arriveCells_keeps {W : List Nat} {a : Device} {d : Device} {f : Frame} (hW : Sub Touch.arriveCells W) (h : Keeps W a d) :
    Keeps W a (Device.arriveCells d f) := by
  unfold Device.arriveCells
  try dsimp only
  repeat' first
    | with_reducible exact h | with_reducible apply Keeps.ite
    | with_reducible refine Device.takeCells_keeps (subT (by decide +kernel) hW) ?_
    | with_reducible refine Device.setFrame_keeps (subT (by decide +kernel) hW) ?_
    | with_reducible refine Device.refuseFrame_keeps (subT (by decide +kernel) hW) ?_
    | with_reducible refine Device.readCells_keeps (subT (by decide +kernel) hW) ?_ | with_reducible apply Keeps.ite2
    | split

def Touch.arriveAll : List Nat :=
  Touch.arriveCells

theorem Device.arriveAll_keeps {W : List Nat} {a : Device} {d : Device} (hW : Sub Touch.arriveAll W) (h : Keeps W a d) :
    Keeps W a (Device.arriveAll d) := by
  unfold Device.arriveAll
  try dsimp only
  repeat' first
    | with_reducible exact h | with_reducible assumption | with_reducible apply Keeps.elim
    | with_reducible apply Keeps.foldl
    | with_reducible refine Device.arriveCells_keeps (subT (by decide +kernel) hW) ?_ | intro _ _ hq | intro _

def Touch.enqueue : List Nat :=
  Touch.arriveCells

theorem Device.enqueue_keeps {W : List Nat} {a : Device} {d : Device} {f : Frame} (hW : Sub Touch.enqueue W) (h : Keeps W a d) :
    Keeps W a (Device.enqueue d f) := by
  unfold Device.enqueue
  try dsimp only
  repeat' first
    | with_reducible exact h | with_reducible apply Keeps.ite
    | with_reducible refine Device.arriveAll_keeps (subT (by decide +kernel) hW) ?_
    | with_reducible refine Device.takeCells_keeps (subT (by decide +kernel) hW) ?_
    | with_reducible refine Device.setFrame_keeps (subT (by decide +kernel) hW) ?_
    | with_reducible refine Device.refuseFrame_keeps (subT (by decide +kernel) hW) ?_
    | with_reducible refine Device.setQueue_keeps (subT (by decide +kernel) hW) ?_
    | with_reducible refine Device.refreshNode_keeps (subT (by decide +kernel) hW) ?_
    | with_reducible apply Keeps.ite2 | split

def Touch.leaveNode : List Nat :=
  [O.NODE_VTIME, O.NODE_ACTIVE_QUEUES, F.queues]

theorem Device.leaveNode_keeps {W : List Nat} {a : Device} {d : Device} {q : Nat} (hW : Sub Touch.leaveNode W) (h : Keeps W a d) :
    Keeps W a (Device.leaveNode d q) := by
  unfold Device.leaveNode
  try dsimp only
  repeat' first
    | with_reducible exact h | with_reducible apply Keeps.ite
    | with_reducible refine Device.setQueue_keeps (subT (by decide +kernel) hW) ?_
    | with_reducible refine Device.refreshNodeCount_keeps (subT (by decide +kernel) hW) ?_ | split

def Touch.joinNode : List Nat :=
  Touch.leaveNode

theorem Device.joinNode_keeps {W : List Nat} {a : Device} {d : Device} {q : Nat} (hW : Sub Touch.joinNode W) (h : Keeps W a d) :
    Keeps W a (Device.joinNode d q) := by
  unfold Device.joinNode
  try dsimp only
  repeat' first
    | with_reducible exact h | with_reducible assumption | with_reducible apply Keeps.ite
    | with_reducible apply Keeps.elim | with_reducible refine Device.setQueue_keeps (subT (by decide +kernel) hW) ?_
    | with_reducible refine Device.refreshNodeCount_keeps (subT (by decide +kernel) hW) ?_ | intro _ _ hq | intro _
    | split

def Touch.followQueues : List Nat :=
  Touch.leaveNode

theorem Device.followQueues_keeps {W : List Nat} {a : Device} {d : Device} (hW : Sub Touch.followQueues W) (h : Keeps W a d) :
    Keeps W a (Device.followQueues d) := by
  unfold Device.followQueues
  try dsimp only
  repeat' first
    | with_reducible exact h | with_reducible assumption | with_reducible apply Keeps.foldl
    | with_reducible refine Device.joinNode_keeps (subT (by decide +kernel) hW) ?_
    | with_reducible refine Device.leaveNode_keeps (subT (by decide +kernel) hW) ?_ | intro _ _ hq | intro _

def Touch.chargePort : List Nat :=
  [F.pipe]

theorem Device.chargePort_keeps {W : List Nat} {a : Device} {d : Device} {f : Frame} (hW : Sub Touch.chargePort W) (h : Keeps W a d) :
    Keeps W a (Device.chargePort d f) := by
  unfold Device.chargePort
  try dsimp only
  repeat' first
    | with_reducible exact h | with_reducible assumption
    | with_reducible refine Device.setPipe_keeps (subT (by decide +kernel) hW) ?_ | intro _ _ hq | intro _

def Touch.setPortTags : List Nat :=
  [F.pipe]

theorem Device.setPortTags_keeps {W : List Nat} {a : Device} {d : Device} {p : Nat} {v : Nat} {fmax : Nat} (hW : Sub Touch.setPortTags W) (h : Keeps W a d) :
    Keeps W a (Device.setPortTags d p v fmax) := by
  unfold Device.setPortTags
  try dsimp only
  repeat' first
    | with_reducible exact h | with_reducible assumption
    | with_reducible refine Device.setPipe_keeps (subT (by decide +kernel) hW) ?_ | intro _ _ hq | intro _

def Touch.nodeLeaves : List Nat :=
  [F.nodes]

theorem Device.nodeLeaves_keeps {W : List Nat} {a : Device} {d : Device} {n : Nat} (hW : Sub Touch.nodeLeaves W) (h : Keeps W a d) :
    Keeps W a (Device.nodeLeaves d n) := by
  unfold Device.nodeLeaves
  try dsimp only
  repeat' first
    | with_reducible exact h | with_reducible apply Keeps.ite
    | with_reducible refine Device.setNode_keeps (subT (by decide +kernel) hW) ?_ | split

def Touch.nodeJoins : List Nat :=
  [F.nodes]

theorem Device.nodeJoins_keeps {W : List Nat} {a : Device} {d : Device} {n : Nat} (hW : Sub Touch.nodeJoins W) (h : Keeps W a d) :
    Keeps W a (Device.nodeJoins d n) := by
  unfold Device.nodeJoins
  try dsimp only
  repeat' first
    | with_reducible exact h | with_reducible apply Keeps.ite
    | with_reducible refine Device.setNode_keeps (subT (by decide +kernel) hW) ?_ | split

def Touch.followPort : List Nat :=
  [F.pipe, F.nodes]

theorem Device.followPort_keeps {W : List Nat} {a : Device} {d : Device} {p : Nat} (hW : Sub Touch.followPort W) (h : Keeps W a d) :
    Keeps W a (Device.followPort d p) := by
  unfold Device.followPort
  try dsimp only
  repeat' first
    | with_reducible exact h | with_reducible assumption | with_reducible apply Keeps.ite
    | with_reducible apply Keeps.foldl
    | with_reducible refine Device.nodeLeaves_keeps (subT (by decide +kernel) hW) ?_
    | with_reducible refine Device.setPortTags_keeps (subT (by decide +kernel) hW) ?_
    | with_reducible refine Device.nodeJoins_keeps (subT (by decide +kernel) hW) ?_ | with_reducible apply Keeps.ite2
    | with_reducible apply Keeps.foldl2 | intro _ _ hq | intro _ | split

def Touch.settle : List Nat :=
  [O.NODE_VTIME, O.NODE_ACTIVE_QUEUES, F.pipe, F.queues, F.nodes]

theorem Device.settle_keeps {W : List Nat} {a : Device} {d : Device} (hW : Sub Touch.settle W) (h : Keeps W a d) :
    Keeps W a (Device.settle d) := by
  unfold Device.settle
  try dsimp only
  repeat' first
    | with_reducible exact h | with_reducible assumption | with_reducible apply Keeps.foldl
    | with_reducible refine Device.followQueues_keeps (subT (by decide +kernel) hW) ?_
    | with_reducible refine Device.followPort_keeps (subT (by decide +kernel) hW) ?_ | intro _ _ hq | intro _

def Touch.chargeNode : List Nat :=
  [F.pipe, F.nodes]

theorem Device.chargeNode_keeps {W : List Nat} {a : Device} {d : Device} {n : Nat} {f : Frame} (hW : Sub Touch.chargeNode W) (h : Keeps W a d) :
    Keeps W a (Device.chargeNode d n f) := by
  unfold Device.chargeNode
  try dsimp only
  repeat' first
    | with_reducible exact h | with_reducible apply Keeps.ite
    | with_reducible refine Device.setNode_keeps (subT (by decide +kernel) hW) ?_
    | with_reducible refine Device.setPortTags_keeps (subT (by decide +kernel) hW) ?_
    | with_reducible apply Keeps.ite2 | split

def Touch.chargeQueue : List Nat :=
  [O.PACER_EXCESS_BYTES, O.NODE_VTIME, O.PMC_VALUE, O.PMC_STATUS, F.out, F.pciePending, F.queues, F.nodes, F.laps,
  F.pmc]

theorem Device.chargeQueue_keeps {W : List Nat} {a : Device} {d : Device} {n : Nat} {q : Nat} {f : Frame} (hW : Sub Touch.chargeQueue W) (h : Keeps W a d) :
    Keeps W a (Device.chargeQueue d n q f) := by
  unfold Device.chargeQueue
  try dsimp only
  repeat' first
    | with_reducible exact h | exact memT (by decide +kernel) hW | with_reducible apply Keeps.ite
    | with_reducible refine Device.wr_keeps ?_ ?_
    | with_reducible refine Device.setQueue_keeps (subT (by decide +kernel) hW) ?_
    | with_reducible refine Device.setNode_keeps (subT (by decide +kernel) hW) ?_
    | with_reducible refine Device.charge_keeps (subT (by decide +kernel) hW) ?_
    | with_reducible refine Device.add64_keeps ?_ ?_
    | with_reducible refine Device.lapExcess_keeps (subT (by decide +kernel) hW) ?_
    | with_reducible refine Device.pmcSlice_keeps (subT (by decide +kernel) hW) ?_ | split

def Touch.countStart : List Nat :=
  [O.NODE_TX_FRAMES, O.NODE_INJECT_FRAMES, O.PMC_VALUE, O.PMC_STATUS, F.out, F.pciePending, F.pmc]

theorem Device.countStart_keeps {W : List Nat} {a : Device} {d : Device} {n : Nat} {f : Frame} (hW : Sub Touch.countStart W) (h : Keeps W a d) :
    Keeps W a (Device.countStart d n f) := by
  unfold Device.countStart
  try dsimp only
  repeat' first
    | with_reducible exact h | exact memT (by decide +kernel) hW | with_reducible apply Keeps.ite
    | with_reducible refine Device.inc64_keeps ?_ ?_
    | with_reducible refine Device.pmcSlice_keeps (subT (by decide +kernel) hW) ?_ | split

def Touch.startFrame : List Nat :=
  [O.PORT_FC_TX_XOFF_C0, O.PORT_FC_TX_XOFF_C1, O.PORT_FC_TX_XOFF_C2, O.PORT_FC_TX_XOFF_C3, O.PORT_FC_TX_XOFF_C4,
  O.PORT_FC_TX_XOFF_C5, O.PORT_FC_TX_XOFF_C6, O.PORT_FC_TX_XOFF_C7, O.QUEUE_OCCUPANCY, O.QUEUE_NODE,
  O.PACER_EXCESS_BYTES, O.NODE_VTIME, O.NODE_TX_FRAMES, O.NODE_INJECT_FRAMES, O.BUFP_USED_CELLS,
  O.BUF_HEADROOM_USED, O.PMC_VALUE, O.PMC_STATUS, F.out, F.pciePending, F.pipe, F.queues, F.nodes, F.pairs,
  F.ports, F.laps, F.pmc]

theorem Device.startFrame_keeps {W : List Nat} {a : Device} {d : Device} {n : Nat} {f : Frame} {q : Option Nat} (hW : Sub Touch.startFrame W) (h : Keeps W a d) :
    Keeps W a (Device.startFrame d n f q) := by
  unfold Device.startFrame
  try dsimp only
  repeat' first
    | with_reducible exact h | with_reducible assumption | with_reducible apply Keeps.elim
    | with_reducible refine Device.chargeNode_keeps (subT (by decide +kernel) hW) ?_
    | with_reducible refine Device.chargePort_keeps (subT (by decide +kernel) hW) ?_
    | with_reducible refine Device.countStart_keeps (subT (by decide +kernel) hW) ?_
    | with_reducible refine Device.chargeQueue_keeps (subT (by decide +kernel) hW) ?_
    | with_reducible refine Device.unqueue_keeps (subT (by decide +kernel) hW) ?_
    | with_reducible refine Device.setFrame_keeps (subT (by decide +kernel) hW) ?_
    | with_reducible refine Device.readCells_keeps (subT (by decide +kernel) hW) ?_
    | with_reducible refine Device.setPipe_keeps (subT (by decide +kernel) hW) ?_ | intro _ _ hq | intro _

def Touch.dropDead : List Nat :=
  [O.RING_HEAD, O.RING_TAIL, O.RING_STATE, O.RING_COMPLETED, O.RING_REJECTED, O.INJECT_REFUSED,
  O.RUNAHEAD_FALSE_STARTS, O.RUNAHEAD_WASTED_CELLS, O.PORT_FC_TX_XOFF_C0, O.PORT_FC_TX_XOFF_C1,
  O.PORT_FC_TX_XOFF_C2, O.PORT_FC_TX_XOFF_C3, O.PORT_FC_TX_XOFF_C4, O.PORT_FC_TX_XOFF_C5, O.PORT_FC_TX_XOFF_C6,
  O.PORT_FC_TX_XOFF_C7, O.SC_TX_NO_SA_DROPS, O.SA_STAT_TX_LOST, O.CALLROOM_OCCUPANCY, O.CALLROOM_PEAK,
  O.QUEUE_OCCUPANCY, O.QUEUE_NODE, O.BUFP_USED_CELLS, O.BUF_HEADROOM_USED, O.PMC_VALUE, O.PMC_STATUS, F.out,
  F.pcieDma, F.pciePending, F.pipe, F.queues, F.nodes, F.pairs, F.ports, F.laps, F.pmc]

theorem Device.dropDead_keeps {W : List Nat} {a : Device} {d : Device} {f : Frame} (hW : Sub Touch.dropDead W) (h : Keeps W a d) :
    Keeps W a (Device.dropDead d f) := by
  unfold Device.dropDead
  try dsimp only
  repeat' first
    | with_reducible exact h | with_reducible assumption | exact memT (by decide +kernel) hW
    | with_reducible apply Keeps.elim | with_reducible refine Device.inc64_keeps ?_ ?_
    | with_reducible refine Device.injectRefuse_keeps (subT (by decide +kernel) hW) ?_
    | with_reducible refine Device.dropWhole_keeps (subT (by decide +kernel) hW) ?_ | intro _ _ hq | intro _

def Touch.dropDeadHeads : List Nat :=
  Touch.dropDead

theorem Device.dropDeadHeads_keeps {W : List Nat} {a : Device} {x0 : List Nat} {d : Device} (hW : Sub Touch.dropDeadHeads W) (h : Keeps W a d) :
    Keeps W a (Device.dropDeadHeads x0 d) := by
  induction x0 generalizing d with
  | nil =>
    unfold Device.dropDeadHeads
    try dsimp only
    repeat' first
      | with_reducible exact h | with_reducible assumption | with_reducible apply Keeps.ite
      | with_reducible apply Keeps.elim
      | with_reducible refine Device.dropDead_keeps (subT (by decide +kernel) hW) ?_ | intro _ _ hq | intro _ | split
  | cons _ _ ih =>
    unfold Device.dropDeadHeads
    try dsimp only
    repeat' first
      | with_reducible exact h | with_reducible apply ih | with_reducible assumption | with_reducible apply Keeps.ite
      | with_reducible apply Keeps.elim
      | with_reducible refine Device.dropDead_keeps (subT (by decide +kernel) hW) ?_ | intro _ _ hq | intro _ | split

def Touch.dropDeadFrames : List Nat :=
  Touch.dropDead

theorem Device.dropDeadFrames_keeps {W : List Nat} {a : Device} {d : Device} (hW : Sub Touch.dropDeadFrames W) (h : Keeps W a d) :
    Keeps W a (Device.dropDeadFrames d) := by
  unfold Device.dropDeadFrames
  try dsimp only
  repeat' first
    | with_reducible exact h | with_reducible assumption | with_reducible apply Keeps.foldl
    | with_reducible refine Device.dropDeadHeads_keeps (subT (by decide +kernel) hW) ?_
    | with_reducible apply Keeps.foldl2 | intro _ _ hq | intro _ | dsimp only

def Touch.schedulerFrameStart : List Nat :=
  [O.LOCK, O.GROUP_OWNER, O.GROUP_STATE, O.GROUP_WRITES, O.GROUP_FAIL_ADDRESS, O.GROUP_FLAGS, O.SESSION_STATE,
  O.SESSION_ROLE, O.SESSION_CA, O.SESSION_ID, O.SESSION_LAST_COUNTER, O.RING_ENABLE, O.RING_HEAD, O.RING_TAIL,
  O.RING_STATE, O.RING_COMPLETED, O.RING_REJECTED, O.INJECT_REFUSED, O.RUNAHEAD_FALSE_STARTS,
  O.RUNAHEAD_WASTED_CELLS, O.GUN_STATE, O.GUN_OWNER, O.GUN_FLAGS, O.PORT_FC_TX_XOFF_C0, O.PORT_FC_TX_XOFF_C1,
  O.PORT_FC_TX_XOFF_C2, O.PORT_FC_TX_XOFF_C3, O.PORT_FC_TX_XOFF_C4, O.PORT_FC_TX_XOFF_C5, O.PORT_FC_TX_XOFF_C6,
  O.PORT_FC_TX_XOFF_C7, O.SC_TX_NO_SA_DROPS, O.SA_STAT_TX_LOST, O.CALLROOM_OCCUPANCY, O.CALLROOM_PEAK,
  O.QUEUE_OCCUPANCY, O.QUEUE_NODE, O.QUEUE_DROP_FRAMES, O.QUEUE_DROP_BYTES, O.PACER_EXCESS_BYTES, O.NODE_VTIME,
  O.NODE_ACTIVE_QUEUES, O.NODE_TX_FRAMES, O.NODE_INJECT_FRAMES, O.BUFP_USED_CELLS, O.BUFP_PEAK_CELLS,
  O.BUF_HEADROOM_USED, O.BUF_HEADROOM_DROPS, O.FLT_SRC_EVENTS, O.FLT_SRC_LAST_AT, O.FLT_LOG_LAST_SEQ,
  O.FLT_LOG_OVERWRITTEN, O.FLT_EVENT_LOST, O.FLT_FIRST_SEVERE, O.FLT_LOG_RECORD, O.PMC_VALUE, O.PMC_STATUS, F.cyc,
  F.clk, F.out, F.sess, F.groups, F.ring, F.pcieDma, F.pciePending, F.faults, F.pipe, F.clsx, F.queues, F.nodes,
  F.pairs, F.ports, F.laps, F.pmc]

theorem Device.schedulerFrameStart_keeps {W : List Nat} {a : Device} {sd : Nat} {d : Device} (hW : Sub Touch.schedulerFrameStart W) (h : Keeps W a d) :
    Keeps W a (Device.schedulerFrameStart sd d) := by
  unfold Device.schedulerFrameStart
  try dsimp only
  repeat' first
    | with_reducible exact h | with_reducible assumption | with_reducible apply Keeps.ite
    | with_reducible apply Keeps.elim | with_reducible refine Device.passTo_keeps (subT (by decide +kernel) hW) ?_
    | with_reducible refine Device.stageHolds_keeps (subT (by decide +kernel) hW) ?_
    | with_reducible refine Device.arriveAll_keeps (subT (by decide +kernel) hW) ?_
    | with_reducible refine Device.dropDeadFrames_keeps (subT (by decide +kernel) hW) ?_
    | with_reducible refine Device.settle_keeps (subT (by decide +kernel) hW) ?_
    | with_reducible refine Device.startFrame_keeps (subT (by decide +kernel) hW) ?_
    | with_reducible apply Keeps.ite2 | with_reducible apply Keeps.elim2 | intro _ _ hq | intro _ | split

def Touch.setQueues : List Nat :=
  [F.queues]

theorem Device.setQueues_keeps {W : List Nat} {a : Device} {d : Device} {l : List (Nat × QueueX)} (hW : Sub Touch.setQueues W) (h : Keeps W a d) :
    Keeps W a (Device.setQueues d l) := 
  h.same rfl rfl (fun k hk => by
    unfold sameField
    split <;> first | rfl | exact absurd (memF (by decide +kernel) hW) hk | trivial)

def Touch.tagRenormalize : List Nat :=
  [O.NODE_VTIME, O.NODE_ACTIVE_QUEUES, O.PMC_VALUE, O.PMC_STATUS, F.cyc, F.clk, F.out, F.pciePending, F.pipe,
  F.queues, F.nodes, F.pmc]

theorem Device.tagRenormalize_keeps {W : List Nat} {a : Device} {d : Device} (hW : Sub Touch.tagRenormalize W) (h : Keeps W a d) :
    Keeps W a (Device.tagRenormalize d) := by
  unfold Device.tagRenormalize
  try dsimp only
  repeat' first
    | with_reducible exact h | with_reducible assumption | with_reducible apply Keeps.ite
    | with_reducible apply Keeps.foldl | with_reducible refine Device.passTo_keeps (subT (by decide +kernel) hW) ?_
    | with_reducible refine Device.settle_keeps (subT (by decide +kernel) hW) ?_
    | with_reducible refine Device.setQueues_keeps (subT (by decide +kernel) hW) ?_
    | with_reducible refine Device.setPipe_keeps (subT (by decide +kernel) hW) ?_ | with_reducible apply Keeps.ite2
    | with_reducible apply Keeps.foldl2 | intro _ _ hq | intro _ | split | dsimp only

end Sys2Proof.Machine
end

