-- ==== Sys2Proof/Laws/KeepsBanks.lean ====
section
/-!
SUPPORT. The places that each operation of Machine/Banks.lean may change (Laws/Keeps.lean).
-/
set_option Elab.async false
set_option linter.all false
set_option linter.unusedTactic false
set_option linter.unreachableTactic false
set_option linter.style.longLine false
namespace Sys2Proof.Machine

def Touch.useCached : List Nat :=
  [F.banks]

theorem Device.useCached_keeps {W : List Nat} {a : Device} {d : Device} {b : Nat} {slot : Nat} {key : Bytes} (hW : Sub Touch.useCached W) (h : Keeps W a d) :
    Keeps W a (Device.useCached d b slot key) := by
  unfold Device.useCached
  try dsimp only
  repeat' first
    | with_reducible exact h | with_reducible assumption
    | with_reducible refine Device.setBank_keeps (subT (by decide +kernel) hW) ?_ | intro _ _ hq | intro _

def Touch.startLoad : List Nat :=
  [F.banks]

theorem Device.startLoad_keeps {W : List Nat} {a : Device} {d : Device} {b : Nat} {slot : Nat} (hW : Sub Touch.startLoad W) (h : Keeps W a d) :
    Keeps W a (Device.startLoad d b slot) := by
  unfold Device.startLoad
  try dsimp only
  repeat' first
    | with_reducible exact h | with_reducible assumption | with_reducible apply Keeps.ite
    | with_reducible apply Keeps.foldl | with_reducible refine Device.setBank_keeps (subT (by decide +kernel) hW) ?_
    | with_reducible apply Keeps.ite2 | with_reducible apply Keeps.foldl2 | intro _ _ hq | intro _ | split

def Touch.keyLookup : List Nat :=
  [O.BANK_KS_HITS, O.BANK_KS_MISSES, O.PMC_VALUE, O.PMC_STATUS, F.out, F.pciePending, F.banks, F.pmc]

theorem Device.keyLookup_keeps {W : List Nat} {a : Device} {d : Device} {f : Frame} {sa : Nat} (hW : Sub Touch.keyLookup W) (h : Keeps W a d) :
    Keeps W a (Device.keyLookup d f sa).2 := by
  unfold Device.keyLookup
  try dsimp only
  repeat' first
    | with_reducible exact h | with_reducible assumption | exact memT (by decide +kernel) hW
    | with_reducible refine Device.inc64_keeps ?_ ?_
    | with_reducible refine Device.useCached_keeps (subT (by decide +kernel) hW) ?_
    | with_reducible refine Device.pmcSlice_keeps (subT (by decide +kernel) hW) ?_
    | with_reducible refine Device.startLoad_keeps (subT (by decide +kernel) hW) ?_ | split

def Touch.lateDrop : List Nat :=
  [O.RUNAHEAD_FALSE_STARTS, O.RUNAHEAD_WASTED_CELLS, O.PORT_FC_TX_XOFF_C0, O.PORT_FC_TX_XOFF_C1,
  O.PORT_FC_TX_XOFF_C2, O.PORT_FC_TX_XOFF_C3, O.PORT_FC_TX_XOFF_C4, O.PORT_FC_TX_XOFF_C5, O.PORT_FC_TX_XOFF_C6,
  O.PORT_FC_TX_XOFF_C7, O.SC_RX_LATE, O.SA_STAT_TX_LOST, O.CALLROOM_OCCUPANCY, O.CALLROOM_PEAK, O.QUEUE_OCCUPANCY,
  O.QUEUE_NODE, O.BUFP_USED_CELLS, O.BUF_HEADROOM_USED, O.PMC_VALUE, O.PMC_STATUS, F.out, F.pciePending, F.pipe,
  F.queues, F.nodes, F.pairs, F.ports, F.laps, F.pmc]

theorem Device.lateDrop_keeps {W : List Nat} {a : Device} {d : Device} {f : Frame} (hW : Sub Touch.lateDrop W) (h : Keeps W a d) :
    Keeps W a (Device.lateDrop d f) := by
  unfold Device.lateDrop
  try dsimp only
  repeat' first
    | with_reducible exact h | exact memT (by decide +kernel) hW | with_reducible refine Device.inc64_keeps ?_ ?_
    | with_reducible refine Device.dropWhole_keeps (subT (by decide +kernel) hW) ?_

def Touch.takeSchedule : List Nat :=
  Touch.lateDrop

theorem Device.takeSchedule_keeps {W : List Nat} {a : Device} {slot : Nat} {d : Device} {f : Frame} (hW : Sub Touch.takeSchedule W) (h : Keeps W a d) :
    Keeps W a (Device.takeSchedule slot d f) := by
  unfold Device.takeSchedule
  try dsimp only
  repeat' first
    | with_reducible exact h | with_reducible apply Keeps.ite
    | with_reducible refine Device.lateDrop_keeps (subT (by decide +kernel) hW) ?_
    | with_reducible refine Device.setFrame_keeps (subT (by decide +kernel) hW) ?_ | split

def Touch.badKeyDrop : List Nat :=
  [O.RING_HEAD, O.RING_TAIL, O.RING_STATE, O.RING_COMPLETED, O.RING_REJECTED, O.INJECT_REFUSED,
  O.RUNAHEAD_FALSE_STARTS, O.RUNAHEAD_WASTED_CELLS, O.PORT_FC_TX_XOFF_C0, O.PORT_FC_TX_XOFF_C1,
  O.PORT_FC_TX_XOFF_C2, O.PORT_FC_TX_XOFF_C3, O.PORT_FC_TX_XOFF_C4, O.PORT_FC_TX_XOFF_C5, O.PORT_FC_TX_XOFF_C6,
  O.PORT_FC_TX_XOFF_C7, O.SC_BAD_KEY_DROPS, O.SA_STAT_TX_LOST, O.CALLROOM_OCCUPANCY, O.CALLROOM_PEAK,
  O.QUEUE_OCCUPANCY, O.QUEUE_NODE, O.BUFP_USED_CELLS, O.BUF_HEADROOM_USED, O.PMC_VALUE, O.PMC_STATUS, F.out,
  F.pcieDma, F.pciePending, F.pipe, F.queues, F.nodes, F.pairs, F.ports, F.laps, F.pmc]

theorem Device.badKeyDrop_keeps {W : List Nat} {a : Device} {d : Device} {f : Frame} (hW : Sub Touch.badKeyDrop W) (h : Keeps W a d) :
    Keeps W a (Device.badKeyDrop d f) := by
  unfold Device.badKeyDrop
  try dsimp only
  repeat' first
    | with_reducible exact h | exact memT (by decide +kernel) hW | with_reducible apply Keeps.ite
    | with_reducible refine Device.inc64_keeps ?_ ?_
    | with_reducible refine Device.discardFrame_keeps (subT (by decide +kernel) hW) ?_ | split

def Touch.endLoad : List Nat :=
  [F.banks]

theorem Device.endLoad_keeps {W : List Nat} {a : Device} {d : Device} {b : Nat} {slot : Nat} (hW : Sub Touch.endLoad W) (h : Keeps W a d) :
    Keeps W a (Device.endLoad d b slot) := by
  unfold Device.endLoad
  try dsimp only
  repeat' first
    | with_reducible exact h | with_reducible assumption
    | with_reducible refine Device.setBank_keeps (subT (by decide +kernel) hW) ?_ | intro _ _ hq | intro _

def Touch.setCache : List Nat :=
  [F.banks]

theorem Device.setCache_keeps {W : List Nat} {a : Device} {d : Device} {b : Nat} {l : List CacheEnt} (hW : Sub Touch.setCache W) (h : Keeps W a d) :
    Keeps W a (Device.setCache d b l) := by
  unfold Device.setCache
  try dsimp only
  repeat' first
    | with_reducible exact h | with_reducible refine Device.setBank_keeps (subT (by decide +kernel) hW) ?_

def Touch.keyScheduleLoadDone : List Nat :=
  [O.LOCK, O.GROUP_OWNER, O.GROUP_STATE, O.GROUP_WRITES, O.GROUP_FAIL_ADDRESS, O.GROUP_FLAGS, O.SESSION_STATE,
  O.SESSION_ROLE, O.SESSION_CA, O.SESSION_ID, O.SESSION_LAST_COUNTER, O.ROLE_ROOT, O.RING_ENABLE, O.RING_HEAD,
  O.RING_TAIL, O.RING_STATE, O.RING_COMPLETED, O.RING_REJECTED, O.INJECT_REFUSED, O.MODE, O.MODE_CMD,
  O.MODE_ENTERED_AT, O.MODE_CAUSE, O.RUNAHEAD_FALSE_STARTS, O.RUNAHEAD_WASTED_CELLS, O.BANK_DISCARDS,
  O.VAULT_STATE, O.VAULT_HANDLE, O.VAULT_LEVEL, O.VAULT_PURPOSE, O.VAULT_KEY_BITS, O.VAULT_COUNTED,
  O.VAULT_USES_LEFT, O.VAULT_ORIGIN, O.VAULT_PARENT, O.VAULT_CREATED_AT, O.VAULT_ARG_KEY, O.VAULT_CMD,
  O.VAULT_RESULT_HANDLE, O.VAULT_CHECK_FAILS, O.DRBG_STATE, O.LA_CONTEXTS_BUSY, O.GUN_STATE, O.GUN_OWNER,
  O.GUN_FLAGS, O.PORT_TX_FRAMES, O.PORT_TX_BYTES, O.PORT_TX_TRUNCATED, O.PORT_FC_TX_XOFF_C0, O.PORT_FC_TX_XOFF_C1,
  O.PORT_FC_TX_XOFF_C2, O.PORT_FC_TX_XOFF_C3, O.PORT_FC_TX_XOFF_C4, O.PORT_FC_TX_XOFF_C5, O.PORT_FC_TX_XOFF_C6,
  O.PORT_FC_TX_XOFF_C7, O.SC_STATUS, O.SC_RX_LATE, O.SC_BAD_KEY_DROPS, O.SA_STATE, O.SA_KEK, O.SA_SLOT, O.SA_FLAGS,
  O.SA_CHANGED_AT, O.SCSA_SLOT0_ROW, O.SCSA_SLOT1_ROW, O.SCSA_IN_FORCE_AN, O.SCSA_ZONE_OPEN, O.SA_STAT_PKTS,
  O.SA_STAT_OCTETS, O.SA_STAT_PKTS_ENCRYPTED, O.SA_STAT_NOT_VALID, O.SA_STAT_COMMIT_LATE, O.SA_STAT_TX_LOST,
  O.CALLROOM_OCCUPANCY, O.CALLROOM_PEAK, O.QUEUE_OCCUPANCY, O.QUEUE_NODE, O.BUFP_USED_CELLS, O.BUF_HEADROOM_USED,
  O.FLT_SRC_CLASS, O.FLT_SRC_EVENTS, O.FLT_SRC_LAST_AT, O.FLT_STATUS, O.FLT_FATAL_SINCE_BOOT, O.FLT_LOG_LAST_SEQ,
  O.FLT_LOG_OVERWRITTEN, O.FLT_EVENT_LOST, O.FLT_FIRST_SEVERE, O.FLT_LOG_RECORD, O.PMC_VALUE, O.PMC_STATUS,
  O.PEER_KEY, F.mode, F.cyc, F.clk, F.draws, F.out, F.sess, F.groups, F.ring, F.pcieDma, F.pciePending, F.faults,
  F.vault, F.checkKey, F.storeKey, F.keyTests, F.keyRestart, F.keyScrub, F.saRecs, F.saCtxs, F.banks, F.pipe,
  F.clsx, F.queues, F.nodes, F.pairs, F.ports, F.laps, F.pmc, F.lc, F.la, F.keyScrubFrom, F.keyReseed,
  F.keyRequests]

theorem Device.keyScheduleLoadDone_keeps {W : List Nat} {a : Device} {b : Nat} {slot : Nat} {ok : Bool} {d : Device} (hW : Sub Touch.keyScheduleLoadDone W) (h : Keeps W a d) :
    Keeps W a (Device.keyScheduleLoadDone b slot ok d) := by
  unfold Device.keyScheduleLoadDone
  try dsimp only
  repeat' first
    | with_reducible exact h | with_reducible assumption | with_reducible apply Keeps.ite
    | with_reducible apply Keeps.elim | with_reducible apply Keeps.foldl
    | with_reducible refine Device.passTo_keeps (subT (by decide +kernel) hW) ?_
    | with_reducible refine Device.takeSchedule_keeps (subT (by decide +kernel) hW) ?_
    | with_reducible refine Device.endLoad_keeps (subT (by decide +kernel) hW) ?_
    | with_reducible refine Device.badKeyDrop_keeps (subT (by decide +kernel) hW) ?_
    | with_reducible refine Device.setCache_keeps (subT (by decide +kernel) hW) ?_
    | with_reducible refine Device.ctxFails_keeps (subT (by decide +kernel) hW) ?_ | with_reducible apply Keeps.ite2
    | with_reducible apply Keeps.elim2 | with_reducible apply Keeps.foldl2 | intro _ _ hq | intro _ | split

def Touch.keepTurn : List Nat :=
  [F.banks]

theorem Device.keepTurn_keeps {W : List Nat} {a : Device} {d : Device} {b : Nat} {t : Turn} (hW : Sub Touch.keepTurn W) (h : Keeps W a d) :
    Keeps W a (Device.keepTurn d b t) := by
  unfold Device.keepTurn
  try dsimp only
  repeat' first
    | with_reducible exact h | with_reducible assumption
    | with_reducible refine Device.setBank_keeps (subT (by decide +kernel) hW) ?_ | intro _ _ hq | intro _

def Touch.countTurn : List Nat :=
  [O.BANK_SAMPLED, F.banks]

theorem Device.countTurn_keeps {W : List Nat} {a : Device} {d : Device} {b : Nat} {kind : TurnKind} {frame : Nat} {cell : Nat} (hW : Sub Touch.countTurn W) (h : Keeps W a d) :
    Keeps W a (Device.countTurn d b kind frame cell) := by
  unfold Device.countTurn
  try dsimp only
  repeat' first
    | with_reducible exact h | exact memT (by decide +kernel) hW | with_reducible apply Keeps.ite
    | with_reducible refine Device.keepTurn_keeps (subT (by decide +kernel) hW) ?_
    | with_reducible refine Device.inc64_keeps ?_ ?_ | split

def Touch.holdCell : List Nat :=
  [O.BANK_MISMATCHES, O.PMC_VALUE, O.PMC_STATUS, F.out, F.pciePending, F.banks, F.pmc]

theorem Device.holdCell_keeps {W : List Nat} {a : Device} {d : Device} {b : Nat} {f : Frame} {cell : Nat} {ahead : Bool} (hW : Sub Touch.holdCell W) (h : Keeps W a d) :
    Keeps W a (Device.holdCell d b f cell ahead) := by
  unfold Device.holdCell
  try dsimp only
  repeat' first
    | with_reducible exact h | exact memT (by decide +kernel) hW | with_reducible refine Device.inc64_keeps ?_ ?_
    | with_reducible refine Device.pmcSlice_keeps (subT (by decide +kernel) hW) ?_
    | with_reducible refine Device.setBank_keeps (subT (by decide +kernel) hW) ?_

def Touch.issueRetrial : List Nat :=
  [O.BANK_SAMPLED, O.BANK_MISMATCHES, O.BANK_RETRIALS, O.PMC_VALUE, O.PMC_STATUS, F.out, F.pciePending, F.banks,
  F.pmc]

theorem Device.issueRetrial_keeps {W : List Nat} {a : Device} {d : Device} {b : Nat} {mismatch : Bool} {h : Held} (hW : Sub Touch.issueRetrial W) (h_h : Keeps W a d) :
    Keeps W a (Device.issueRetrial d b mismatch h) := by
  unfold Device.issueRetrial
  try dsimp only
  repeat' first
    | with_reducible exact h_h | with_reducible assumption | exact memT (by decide +kernel) hW
    | with_reducible apply Keeps.ite | with_reducible refine Device.inc64_keeps ?_ ?_
    | with_reducible refine Device.countTurn_keeps (subT (by decide +kernel) hW) ?_
    | with_reducible refine Device.setBank_keeps (subT (by decide +kernel) hW) ?_
    | with_reducible refine Device.pmcSlice_keeps (subT (by decide +kernel) hW) ?_ | intro _ _ hq | intro _ | split
    | dsimp only

def Touch.issueRedo : List Nat :=
  [O.BANK_RETRIALS, F.banks]

theorem Device.issueRedo_keeps {W : List Nat} {a : Device} {d : Device} {b : Nat} {t : Takeover} (hW : Sub Touch.issueRedo W) (h : Keeps W a d) :
    Keeps W a (Device.issueRedo d b t) := by
  unfold Device.issueRedo
  try dsimp only
  repeat' first
    | with_reducible exact h | exact memT (by decide +kernel) hW | with_reducible refine Device.inc64_keeps ?_ ?_
    | with_reducible refine Device.keepTurn_keeps (subT (by decide +kernel) hW) ?_
    | with_reducible refine Device.setBank_keeps (subT (by decide +kernel) hW) ?_

def Touch.setLastPort : List Nat :=
  [F.banks]

theorem Device.setLastPort_keeps {W : List Nat} {a : Device} {d : Device} {b : Nat} {p : Nat} (hW : Sub Touch.setLastPort W) (h : Keeps W a d) :
    Keeps W a (Device.setLastPort d b p) := by
  unfold Device.setLastPort
  try dsimp only
  repeat' first
    | with_reducible exact h | with_reducible refine Device.setBank_keeps (subT (by decide +kernel) hW) ?_

def Touch.setLastAhead : List Nat :=
  [F.banks]

theorem Device.setLastAhead_keeps {W : List Nat} {a : Device} {d : Device} {b : Nat} {p : Nat} (hW : Sub Touch.setLastAhead W) (h : Keeps W a d) :
    Keeps W a (Device.setLastAhead d b p) := by
  unfold Device.setLastAhead
  try dsimp only
  repeat' first
    | with_reducible exact h | with_reducible refine Device.setBank_keeps (subT (by decide +kernel) hW) ?_

def Touch.issueDemand : List Nat :=
  [O.BANK_SAMPLED, O.BANK_MISMATCHES, O.PMC_VALUE, O.PMC_STATUS, F.out, F.pciePending, F.banks, F.pipe, F.pmc]

theorem Device.issueDemand_keeps {W : List Nat} {a : Device} {d : Device} {b : Nat} {mismatch : Bool} {f : Frame} (hW : Sub Touch.issueDemand W) (h : Keeps W a d) :
    Keeps W a (Device.issueDemand d b mismatch f) := by
  unfold Device.issueDemand
  try dsimp only
  repeat' first
    | with_reducible exact h | with_reducible assumption | with_reducible apply Keeps.ite
    | with_reducible refine Device.countTurn_keeps (subT (by decide +kernel) hW) ?_
    | with_reducible refine Device.setLastPort_keeps (subT (by decide +kernel) hW) ?_
    | with_reducible refine Device.holdCell_keeps (subT (by decide +kernel) hW) ?_
    | with_reducible refine Device.setFrame_keeps (subT (by decide +kernel) hW) ?_ | split | dsimp only

def Touch.wasteAhead : List Nat :=
  [O.RUNAHEAD_WASTED_CELLS, O.PMC_VALUE, O.PMC_STATUS, F.out, F.pciePending, F.pmc]

theorem Device.wasteAhead_keeps {W : List Nat} {a : Device} {d : Device} {f : Frame} (hW : Sub Touch.wasteAhead W) (h : Keeps W a d) :
    Keeps W a (Device.wasteAhead d f) := by
  unfold Device.wasteAhead
  try dsimp only
  repeat' first
    | with_reducible exact h | exact memT (by decide +kernel) hW | with_reducible refine Device.inc64_keeps ?_ ?_
    | with_reducible refine Device.endSlots_keeps (subT (by decide +kernel) hW) ?_
    | with_reducible refine Device.setSlotCells_keeps (subT (by decide +kernel) hW) ?_

def Touch.issueAhead : List Nat :=
  [O.RUNAHEAD_WASTED_CELLS, O.BANK_SAMPLED, O.BANK_MISMATCHES, O.PMC_VALUE, O.PMC_STATUS, F.out, F.pciePending,
  F.banks, F.pipe, F.pmc]

theorem Device.issueAhead_keeps {W : List Nat} {a : Device} {d : Device} {b : Nat} {mismatch : Bool} {f : Frame} (hW : Sub Touch.issueAhead W) (h : Keeps W a d) :
    Keeps W a (Device.issueAhead d b mismatch f) := by
  unfold Device.issueAhead
  try dsimp only
  repeat' first
    | with_reducible exact h | with_reducible assumption | with_reducible apply Keeps.ite
    | with_reducible apply Keeps.elim | with_reducible refine Device.countTurn_keeps (subT (by decide +kernel) hW) ?_
    | with_reducible refine Device.setLastAhead_keeps (subT (by decide +kernel) hW) ?_
    | with_reducible refine Device.holdCell_keeps (subT (by decide +kernel) hW) ?_
    | with_reducible refine Device.wasteAhead_keeps (subT (by decide +kernel) hW) ?_
    | with_reducible refine Device.setFrame_keeps (subT (by decide +kernel) hW) ?_ | intro _ _ hq | intro _ | split
    | dsimp only

def Touch.idleKats : List Nat :=
  [F.banks]

theorem Device.idleKats_keeps {W : List Nat} {a : Device} {d : Device} {b : Nat} (hW : Sub Touch.idleKats W) (h : Keeps W a d) :
    Keeps W a (Device.idleKats d b) := by
  unfold Device.idleKats
  try dsimp only
  repeat' first
    | with_reducible exact h | with_reducible assumption | with_reducible apply Keeps.foldl
    | with_reducible refine Device.setKat_keeps (subT (by decide +kernel) hW) ?_ | intro _ _ hq | intro _

def Touch.katTurn : List Nat :=
  [F.banks]

theorem Device.katTurn_keeps {W : List Nat} {a : Device} {d : Device} {b : Nat} {core : Nat} (hW : Sub Touch.katTurn W) (h : Keeps W a d) :
    Keeps W a (Device.katTurn d b core) := by
  unfold Device.katTurn
  try dsimp only
  repeat' first
    | with_reducible exact h | with_reducible refine Device.keepTurn_keeps (subT (by decide +kernel) hW) ?_

def Touch.issueKat : List Nat :=
  [O.BANK_KS_STALLS, F.banks]

theorem Device.issueKat_keeps {W : List Nat} {a : Device} {d : Device} {b : Nat} {core : Nat} (hW : Sub Touch.issueKat W) (h : Keeps W a d) :
    Keeps W a (Device.issueKat d b core) := by
  unfold Device.issueKat
  try dsimp only
  repeat' first
    | with_reducible exact h | exact memT (by decide +kernel) hW | with_reducible apply Keeps.ite
    | with_reducible refine Device.inc64_keeps ?_ ?_
    | with_reducible refine Device.katTurn_keeps (subT (by decide +kernel) hW) ?_
    | with_reducible refine Device.setKat_keeps (subT (by decide +kernel) hW) ?_ | split

def Touch.issueBelow : List Nat :=
  [O.RUNAHEAD_WASTED_CELLS, O.BANK_SAMPLED, O.BANK_MISMATCHES, O.BANK_RETRIALS, O.BANK_KS_STALLS, O.PMC_VALUE,
  O.PMC_STATUS, F.out, F.pciePending, F.banks, F.pipe, F.pmc]

theorem Device.issueBelow_keeps {W : List Nat} {a : Device} {d : Device} {b : Nat} {mismatch : Bool} (hW : Sub Touch.issueBelow W) (h : Keeps W a d) :
    Keeps W a (Device.issueBelow d b mismatch) := by
  unfold Device.issueBelow
  try dsimp only
  repeat' first
    | with_reducible exact h | with_reducible assumption
    | with_reducible refine Device.issueKat_keeps (subT (by decide +kernel) hW) ?_
    | with_reducible refine Device.issueDemand_keeps (subT (by decide +kernel) hW) ?_
    | with_reducible refine Device.issueRetrial_keeps (subT (by decide +kernel) hW) ?_
    | with_reducible refine Device.issueAhead_keeps (subT (by decide +kernel) hW) ?_ | split

def Touch.bankTurn : List Nat :=
  [O.RUNAHEAD_WASTED_CELLS, O.BANK_SAMPLED, O.BANK_MISMATCHES, O.BANK_RETRIALS, O.BANK_KS_STALLS, O.PMC_VALUE,
  O.PMC_STATUS, F.cyc, F.clk, F.out, F.pciePending, F.banks, F.pipe, F.pmc]

theorem Device.bankTurn_keeps {W : List Nat} {a : Device} {b : Nat} {mismatch : Bool} {d : Device} (hW : Sub Touch.bankTurn W) (h : Keeps W a d) :
    Keeps W a (Device.bankTurn b mismatch d) := by
  unfold Device.bankTurn
  try dsimp only
  repeat' first
    | with_reducible exact h | with_reducible assumption | with_reducible apply Keeps.ite
    | with_reducible refine Device.passTo_keeps (subT (by decide +kernel) hW) ?_
    | with_reducible refine Device.idleKats_keeps (subT (by decide +kernel) hW) ?_
    | with_reducible refine Device.issueRedo_keeps (subT (by decide +kernel) hW) ?_
    | with_reducible refine Device.issueRetrial_keeps (subT (by decide +kernel) hW) ?_
    | with_reducible refine Device.issueBelow_keeps (subT (by decide +kernel) hW) ?_ | split

def Touch.setTakeover : List Nat :=
  [F.banks]

theorem Device.setTakeover_keeps {W : List Nat} {a : Device} {d : Device} {b : Nat} {x : Option Takeover} (hW : Sub Touch.setTakeover W) (h : Keeps W a d) :
    Keeps W a (Device.setTakeover d b x) := by
  unfold Device.setTakeover
  try dsimp only
  repeat' first
    | with_reducible exact h | with_reducible refine Device.setBank_keeps (subT (by decide +kernel) hW) ?_

def Touch.bankFail : List Nat :=
  [O.LOCK, O.GROUP_OWNER, O.GROUP_STATE, O.GROUP_WRITES, O.GROUP_FAIL_ADDRESS, O.GROUP_FLAGS, O.SESSION_STATE,
  O.SESSION_ROLE, O.SESSION_CA, O.SESSION_ID, O.SESSION_LAST_COUNTER, O.ROLE_ROOT, O.RING_ENABLE, O.RING_HEAD,
  O.RING_TAIL, O.RING_STATE, O.RING_COMPLETED, O.RING_REJECTED, O.INJECT_REFUSED, O.MODE, O.MODE_CMD,
  O.MODE_ENTERED_AT, O.MODE_CAUSE, O.SLICE_STATE, O.SLICE_CAUSE, O.SLICE_DISCARDED, O.RUNAHEAD_FALSE_STARTS,
  O.RUNAHEAD_WASTED_CELLS, O.BANK_STATE, O.BANK_DISCARDS, O.VAULT_STATE, O.VAULT_HANDLE, O.VAULT_LEVEL,
  O.VAULT_PURPOSE, O.VAULT_KEY_BITS, O.VAULT_COUNTED, O.VAULT_USES_LEFT, O.VAULT_ORIGIN, O.VAULT_PARENT,
  O.VAULT_CREATED_AT, O.VAULT_ARG_KEY, O.VAULT_CMD, O.VAULT_RESULT_HANDLE, O.DRBG_STATE, O.LA_CONTEXTS_BUSY,
  O.GUN_STATE, O.GUN_OWNER, O.GUN_FLAGS, O.PORT_TX_FRAMES, O.PORT_TX_BYTES, O.PORT_TX_TRUNCATED,
  O.PORT_FC_TX_XOFF_C0, O.PORT_FC_TX_XOFF_C1, O.PORT_FC_TX_XOFF_C2, O.PORT_FC_TX_XOFF_C3, O.PORT_FC_TX_XOFF_C4,
  O.PORT_FC_TX_XOFF_C5, O.PORT_FC_TX_XOFF_C6, O.PORT_FC_TX_XOFF_C7, O.SC_STATUS, O.SA_STATE, O.SA_KEK, O.SA_SLOT,
  O.SA_FLAGS, O.SA_CHANGED_AT, O.SCSA_SLOT0_ROW, O.SCSA_SLOT1_ROW, O.SCSA_IN_FORCE_AN, O.SCSA_ZONE_OPEN,
  O.SA_STAT_PKTS, O.SA_STAT_OCTETS, O.SA_STAT_PKTS_ENCRYPTED, O.SA_STAT_NOT_VALID, O.SA_STAT_COMMIT_LATE,
  O.SA_STAT_TX_LOST, O.CALLROOM_OCCUPANCY, O.CALLROOM_PEAK, O.QUEUE_OCCUPANCY, O.QUEUE_NODE, O.BUFP_USED_CELLS,
  O.BUF_HEADROOM_USED, O.FLT_SRC_CLASS, O.FLT_SRC_EVENTS, O.FLT_SRC_LAST_AT, O.FLT_STATUS, O.FLT_FATAL_SINCE_BOOT,
  O.FLT_LOG_LAST_SEQ, O.FLT_LOG_OVERWRITTEN, O.FLT_EVENT_LOST, O.FLT_FIRST_SEVERE, O.FLT_LOG_RECORD, O.PMC_VALUE,
  O.PMC_STATUS, O.PEER_KEY, F.mode, F.draws, F.out, F.sess, F.groups, F.ring, F.pcieDma, F.pciePending, F.faults,
  F.vault, F.checkKey, F.storeKey, F.keyTests, F.keyRestart, F.keyScrub, F.saRecs, F.saCtxs, F.banks, F.pipe,
  F.clsx, F.queues, F.nodes, F.pairs, F.ports, F.laps, F.pmc, F.lc, F.la, F.keyScrubFrom, F.keyReseed,
  F.keyRequests]

theorem Device.bankFail_keeps {W : List Nat} {a : Device} {d : Device} {b : Nat} {core : Nat} {cause : Nat} (hW : Sub Touch.bankFail W) (h : Keeps W a d) :
    Keeps W a (Device.bankFail d b core cause) := by
  unfold Device.bankFail
  try dsimp only
  repeat' first
    | with_reducible exact h | exact memT (by decide +kernel) hW | with_reducible apply Keeps.ite
    | with_reducible refine Device.wr_keeps ?_ ?_
    | with_reducible refine Device.faultUnit_keeps (subT (by decide +kernel) hW) ?_
    | with_reducible refine Device.sliceFail_keeps (subT (by decide +kernel) hW) ?_ | split

def Touch.startTakeover : List Nat :=
  [F.banks]

theorem Device.startTakeover_keeps {W : List Nat} {a : Device} {d : Device} {b : Nat} {core : Nat} {cause : Nat} (hW : Sub Touch.startTakeover W) (h : Keeps W a d) :
    Keeps W a (Device.startTakeover d b core cause) := by
  unfold Device.startTakeover
  try dsimp only
  repeat' first
    | with_reducible exact h | with_reducible assumption
    | with_reducible refine Device.setTakeover_keeps (subT (by decide +kernel) hW) ?_ | intro _ _ hq | intro _

def Touch.retireCore : List Nat :=
  [O.LOCK, O.GROUP_OWNER, O.GROUP_STATE, O.GROUP_WRITES, O.GROUP_FAIL_ADDRESS, O.GROUP_FLAGS, O.SESSION_STATE,
  O.SESSION_ROLE, O.SESSION_CA, O.SESSION_ID, O.SESSION_LAST_COUNTER, O.ROLE_ROOT, O.RING_ENABLE, O.RING_HEAD,
  O.RING_TAIL, O.RING_STATE, O.RING_COMPLETED, O.RING_REJECTED, O.INJECT_REFUSED, O.MODE, O.MODE_CMD,
  O.MODE_ENTERED_AT, O.MODE_CAUSE, O.SLICE_STATE, O.SLICE_CAUSE, O.SLICE_DISCARDED, O.RUNAHEAD_FALSE_STARTS,
  O.RUNAHEAD_WASTED_CELLS, O.BANK_STATE, O.BANK_RETIRED_MASK, O.BANK_DISCARDS, O.VAULT_STATE, O.VAULT_HANDLE,
  O.VAULT_LEVEL, O.VAULT_PURPOSE, O.VAULT_KEY_BITS, O.VAULT_COUNTED, O.VAULT_USES_LEFT, O.VAULT_ORIGIN,
  O.VAULT_PARENT, O.VAULT_CREATED_AT, O.VAULT_ARG_KEY, O.VAULT_CMD, O.VAULT_RESULT_HANDLE, O.DRBG_STATE,
  O.LA_CONTEXTS_BUSY, O.GUN_STATE, O.GUN_OWNER, O.GUN_FLAGS, O.PORT_TX_FRAMES, O.PORT_TX_BYTES,
  O.PORT_TX_TRUNCATED, O.PORT_FC_TX_XOFF_C0, O.PORT_FC_TX_XOFF_C1, O.PORT_FC_TX_XOFF_C2, O.PORT_FC_TX_XOFF_C3,
  O.PORT_FC_TX_XOFF_C4, O.PORT_FC_TX_XOFF_C5, O.PORT_FC_TX_XOFF_C6, O.PORT_FC_TX_XOFF_C7, O.SC_STATUS, O.SA_STATE,
  O.SA_KEK, O.SA_SLOT, O.SA_FLAGS, O.SA_CHANGED_AT, O.SCSA_SLOT0_ROW, O.SCSA_SLOT1_ROW, O.SCSA_IN_FORCE_AN,
  O.SCSA_ZONE_OPEN, O.SA_STAT_PKTS, O.SA_STAT_OCTETS, O.SA_STAT_PKTS_ENCRYPTED, O.SA_STAT_NOT_VALID,
  O.SA_STAT_COMMIT_LATE, O.SA_STAT_TX_LOST, O.CALLROOM_OCCUPANCY, O.CALLROOM_PEAK, O.QUEUE_OCCUPANCY, O.QUEUE_NODE,
  O.BUFP_USED_CELLS, O.BUF_HEADROOM_USED, O.FLT_SRC_CLASS, O.FLT_SRC_EVENTS, O.FLT_SRC_LAST_AT, O.FLT_STATUS,
  O.FLT_FATAL_SINCE_BOOT, O.FLT_LOG_LAST_SEQ, O.FLT_LOG_OVERWRITTEN, O.FLT_EVENT_LOST, O.FLT_FIRST_SEVERE,
  O.FLT_LOG_RECORD, O.PMC_VALUE, O.PMC_STATUS, O.PEER_KEY, F.mode, F.draws, F.out, F.sess, F.groups, F.ring,
  F.pcieDma, F.pciePending, F.faults, F.vault, F.checkKey, F.storeKey, F.keyTests, F.keyRestart, F.keyScrub,
  F.saRecs, F.saCtxs, F.banks, F.pipe, F.clsx, F.queues, F.nodes, F.pairs, F.ports, F.laps, F.pmc, F.lc, F.la,
  F.keyScrubFrom, F.keyReseed, F.keyRequests]

theorem Device.retireCore_keeps {W : List Nat} {a : Device} {d : Device} {b : Nat} {core : Nat} {cause : Nat} (hW : Sub Touch.retireCore W) (h : Keeps W a d) :
    Keeps W a (Device.retireCore d b core cause) := by
  unfold Device.retireCore
  try dsimp only
  repeat' first
    | with_reducible exact h | exact memT (by decide +kernel) hW | with_reducible apply Keeps.ite
    | with_reducible refine Device.wrBit_keeps ?_ ?_
    | with_reducible refine Device.bankFail_keeps (subT (by decide +kernel) hW) ?_
    | with_reducible refine Device.wr_keeps ?_ ?_
    | with_reducible refine Device.faultUnit_keeps (subT (by decide +kernel) hW) ?_
    | with_reducible refine Device.startTakeover_keeps (subT (by decide +kernel) hW) ?_ | split

def Touch.coreTakeoverDone : List Nat :=
  [O.LOCK, O.GROUP_OWNER, O.GROUP_STATE, O.GROUP_WRITES, O.GROUP_FAIL_ADDRESS, O.GROUP_FLAGS, O.SESSION_STATE,
  O.SESSION_ROLE, O.SESSION_CA, O.SESSION_ID, O.SESSION_LAST_COUNTER, O.ROLE_ROOT, O.RING_ENABLE, O.RING_HEAD,
  O.RING_TAIL, O.RING_STATE, O.RING_COMPLETED, O.RING_REJECTED, O.INJECT_REFUSED, O.MODE, O.MODE_CMD,
  O.MODE_ENTERED_AT, O.MODE_CAUSE, O.RUNAHEAD_FALSE_STARTS, O.RUNAHEAD_WASTED_CELLS, O.BANK_STATE,
  O.BANK_SUBST_CORE, O.BANK_RETRIALS, O.BANK_DISCARDS, O.VAULT_STATE, O.VAULT_HANDLE, O.VAULT_LEVEL,
  O.VAULT_PURPOSE, O.VAULT_KEY_BITS, O.VAULT_COUNTED, O.VAULT_USES_LEFT, O.VAULT_ORIGIN, O.VAULT_PARENT,
  O.VAULT_CREATED_AT, O.VAULT_ARG_KEY, O.VAULT_CMD, O.VAULT_RESULT_HANDLE, O.DRBG_STATE, O.LA_CONTEXTS_BUSY,
  O.GUN_STATE, O.GUN_OWNER, O.GUN_FLAGS, O.PORT_TX_FRAMES, O.PORT_TX_BYTES, O.PORT_TX_TRUNCATED,
  O.PORT_FC_TX_XOFF_C0, O.PORT_FC_TX_XOFF_C1, O.PORT_FC_TX_XOFF_C2, O.PORT_FC_TX_XOFF_C3, O.PORT_FC_TX_XOFF_C4,
  O.PORT_FC_TX_XOFF_C5, O.PORT_FC_TX_XOFF_C6, O.PORT_FC_TX_XOFF_C7, O.SC_STATUS, O.SA_STATE, O.SA_KEK, O.SA_SLOT,
  O.SA_FLAGS, O.SA_CHANGED_AT, O.SCSA_SLOT0_ROW, O.SCSA_SLOT1_ROW, O.SCSA_IN_FORCE_AN, O.SCSA_ZONE_OPEN,
  O.SA_STAT_PKTS, O.SA_STAT_OCTETS, O.SA_STAT_PKTS_ENCRYPTED, O.SA_STAT_NOT_VALID, O.SA_STAT_COMMIT_LATE,
  O.SA_STAT_TX_LOST, O.CALLROOM_OCCUPANCY, O.CALLROOM_PEAK, O.QUEUE_OCCUPANCY, O.QUEUE_NODE, O.BUFP_USED_CELLS,
  O.BUF_HEADROOM_USED, O.FLT_SRC_CLASS, O.FLT_SRC_EVENTS, O.FLT_SRC_LAST_AT, O.FLT_STATUS, O.FLT_FATAL_SINCE_BOOT,
  O.FLT_LOG_LAST_SEQ, O.FLT_LOG_OVERWRITTEN, O.FLT_EVENT_LOST, O.FLT_FIRST_SEVERE, O.FLT_LOG_RECORD, O.PMC_VALUE,
  O.PMC_STATUS, O.PEER_KEY, F.mode, F.cyc, F.clk, F.draws, F.out, F.sess, F.groups, F.ring, F.pcieDma,
  F.pciePending, F.faults, F.vault, F.checkKey, F.storeKey, F.keyTests, F.keyRestart, F.keyScrub, F.saRecs,
  F.saCtxs, F.banks, F.pipe, F.clsx, F.queues, F.nodes, F.pairs, F.ports, F.laps, F.pmc, F.lc, F.la,
  F.keyScrubFrom, F.keyReseed, F.keyRequests]

theorem Device.coreTakeoverDone_keeps {W : List Nat} {a : Device} {b : Nat} {d : Device} (hW : Sub Touch.coreTakeoverDone W) (h : Keeps W a d) :
    Keeps W a (Device.coreTakeoverDone b d) := by
  unfold Device.coreTakeoverDone
  try dsimp only
  repeat' first
    | with_reducible exact h | with_reducible assumption | exact memT (by decide +kernel) hW
    | with_reducible apply Keeps.ite | with_reducible apply Keeps.elim
    | with_reducible refine Device.passTo_keeps (subT (by decide +kernel) hW) ?_
    | with_reducible refine Device.add64_keeps ?_ ?_
    | with_reducible refine Device.setTakeover_keeps (subT (by decide +kernel) hW) ?_
    | with_reducible refine Device.wr_keeps ?_ ?_
    | with_reducible refine Device.faultUnit_keeps (subT (by decide +kernel) hW) ?_ | intro _ _ hq | intro _ | split

def Touch.strike : List Nat :=
  Touch.fault

theorem Device.strike_keeps {W : List Nat} {a : Device} {b : Nat} {d : Device} {core : Nat} (hW : Sub Touch.strike W) (h : Keeps W a d) :
    Keeps W a (Device.strike b d core) := by
  unfold Device.strike
  try dsimp only
  repeat' first
    | with_reducible exact h | with_reducible refine Device.setBank_keeps (subT (by decide +kernel) hW) ?_
    | with_reducible refine Device.faultUnit_keeps (subT (by decide +kernel) hW) ?_

def Touch.coreStrikeRetire : List Nat :=
  Touch.retireCore

theorem Device.coreStrikeRetire_keeps {W : List Nat} {a : Device} {b : Nat} {core : Nat} {d : Device} (hW : Sub Touch.coreStrikeRetire W) (h : Keeps W a d) :
    Keeps W a (Device.coreStrikeRetire b core d) := by
  unfold Device.coreStrikeRetire
  try dsimp only
  repeat' first
    | with_reducible exact h | with_reducible apply Keeps.ite
    | with_reducible refine Device.retireCore_keeps (subT (by decide +kernel) hW) ?_ | split

def Touch.retrialNeither : List Nat :=
  Touch.fault

theorem Device.retrialNeither_keeps {W : List Nat} {a : Device} {d : Device} {b : Nat} {h : Held} (hW : Sub Touch.retrialNeither W) (h_h : Keeps W a d) :
    Keeps W a (Device.retrialNeither d b h) := by
  unfold Device.retrialNeither
  try dsimp only
  repeat' first
    | with_reducible exact h_h | with_reducible assumption | exact memT (by decide +kernel) hW
    | with_reducible apply Keeps.ite | with_reducible apply Keeps.elim
    | with_reducible refine Device.inc64_keeps ?_ ?_
    | with_reducible refine Device.discardFrame_keeps (subT (by decide +kernel) hW) ?_
    | with_reducible refine Device.fault_keeps (subT (by decide +kernel) hW) ?_ | intro _ _ hq | intro _ | split

def Touch.retrialResult : List Nat :=
  Touch.fault

theorem Device.retrialResult_keeps {W : List Nat} {a : Device} {b : Nat} {o : RetrialOutcome} {d : Device} (hW : Sub Touch.retrialResult W) (h : Keeps W a d) :
    Keeps W a (Device.retrialResult b o d) := by
  unfold Device.retrialResult
  try dsimp only
  repeat' first
    | with_reducible exact h | with_reducible assumption | with_reducible apply Keeps.elim
    | with_reducible apply Keeps.foldl | with_reducible refine Device.setBank_keeps (subT (by decide +kernel) hW) ?_
    | with_reducible refine Device.strike_keeps (subT (by decide +kernel) hW) ?_
    | with_reducible refine Device.retrialNeither_keeps (subT (by decide +kernel) hW) ?_ | intro _ _ hq | intro _
    | split

def Touch.katEnd : List Nat :=
  [O.LOCK, O.GROUP_OWNER, O.GROUP_STATE, O.GROUP_WRITES, O.GROUP_FAIL_ADDRESS, O.GROUP_FLAGS, O.SESSION_STATE,
  O.SESSION_ROLE, O.SESSION_CA, O.SESSION_ID, O.SESSION_LAST_COUNTER, O.ROLE_ROOT, O.RING_ENABLE, O.RING_HEAD,
  O.RING_TAIL, O.RING_STATE, O.RING_COMPLETED, O.RING_REJECTED, O.INJECT_REFUSED, O.MODE, O.MODE_CMD,
  O.MODE_ENTERED_AT, O.MODE_CAUSE, O.SLICE_STATE, O.SLICE_CAUSE, O.SLICE_DISCARDED, O.RUNAHEAD_FALSE_STARTS,
  O.RUNAHEAD_WASTED_CELLS, O.BANK_STATE, O.BANK_RETIRED_MASK, O.BANK_DISCARDS, O.BANK_KAT_FAILS, O.VAULT_STATE,
  O.VAULT_HANDLE, O.VAULT_LEVEL, O.VAULT_PURPOSE, O.VAULT_KEY_BITS, O.VAULT_COUNTED, O.VAULT_USES_LEFT,
  O.VAULT_ORIGIN, O.VAULT_PARENT, O.VAULT_CREATED_AT, O.VAULT_ARG_KEY, O.VAULT_CMD, O.VAULT_RESULT_HANDLE,
  O.DRBG_STATE, O.LA_CONTEXTS_BUSY, O.GUN_STATE, O.GUN_OWNER, O.GUN_FLAGS, O.PORT_TX_FRAMES, O.PORT_TX_BYTES,
  O.PORT_TX_TRUNCATED, O.PORT_FC_TX_XOFF_C0, O.PORT_FC_TX_XOFF_C1, O.PORT_FC_TX_XOFF_C2, O.PORT_FC_TX_XOFF_C3,
  O.PORT_FC_TX_XOFF_C4, O.PORT_FC_TX_XOFF_C5, O.PORT_FC_TX_XOFF_C6, O.PORT_FC_TX_XOFF_C7, O.SC_STATUS, O.SA_STATE,
  O.SA_KEK, O.SA_SLOT, O.SA_FLAGS, O.SA_CHANGED_AT, O.SCSA_SLOT0_ROW, O.SCSA_SLOT1_ROW, O.SCSA_IN_FORCE_AN,
  O.SCSA_ZONE_OPEN, O.SA_STAT_PKTS, O.SA_STAT_OCTETS, O.SA_STAT_PKTS_ENCRYPTED, O.SA_STAT_NOT_VALID,
  O.SA_STAT_COMMIT_LATE, O.SA_STAT_TX_LOST, O.CALLROOM_OCCUPANCY, O.CALLROOM_PEAK, O.QUEUE_OCCUPANCY, O.QUEUE_NODE,
  O.BUFP_USED_CELLS, O.BUF_HEADROOM_USED, O.FLT_SRC_CLASS, O.FLT_SRC_EVENTS, O.FLT_SRC_LAST_AT, O.FLT_STATUS,
  O.FLT_FATAL_SINCE_BOOT, O.FLT_LOG_LAST_SEQ, O.FLT_LOG_OVERWRITTEN, O.FLT_EVENT_LOST, O.FLT_FIRST_SEVERE,
  O.FLT_LOG_RECORD, O.PMC_VALUE, O.PMC_STATUS, O.PEER_KEY, F.mode, F.draws, F.out, F.sess, F.groups, F.ring,
  F.pcieDma, F.pciePending, F.faults, F.vault, F.checkKey, F.storeKey, F.keyTests, F.keyRestart, F.keyScrub,
  F.saRecs, F.saCtxs, F.banks, F.pipe, F.clsx, F.queues, F.nodes, F.pairs, F.ports, F.laps, F.pmc, F.lc, F.la,
  F.keyScrubFrom, F.keyReseed, F.keyRequests]

theorem Device.katEnd_keeps {W : List Nat} {a : Device} {d : Device} {b : Nat} {core : Nat} {passed : Bool} (hW : Sub Touch.katEnd W) (h : Keeps W a d) :
    Keeps W a (Device.katEnd d b core passed) := by
  unfold Device.katEnd
  try dsimp only
  repeat' first
    | with_reducible exact h | exact memT (by decide +kernel) hW | with_reducible apply Keeps.ite
    | with_reducible refine Device.setKat_keeps (subT (by decide +kernel) hW) ?_
    | with_reducible refine Device.inc32_keeps ?_ ?_
    | with_reducible refine Device.retireCore_keeps (subT (by decide +kernel) hW) ?_ | split

def Touch.katDelays : List Nat :=
  [O.BANK_KS_STALLS, O.PMC_VALUE, O.PMC_STATUS, F.cyc, F.clk, F.out, F.pciePending, F.pmc]

theorem Device.katDelays_keeps {W : List Nat} {a : Device} {d : Device} {b : Nat} {due : Nat} (hW : Sub Touch.katDelays W) (h : Keeps W a d) :
    Keeps W a (Device.katDelays d b due) := by
  unfold Device.katDelays
  try dsimp only
  repeat' first
    | with_reducible exact h | exact memT (by decide +kernel) hW | with_reducible apply Keeps.ite
    | with_reducible refine Device.passTo_keeps (subT (by decide +kernel) hW) ?_
    | with_reducible refine Device.inc64_keeps ?_ ?_ | split

def Touch.retrialsFirst : List Nat :=
  [O.BANK_SAMPLED, O.BANK_MISMATCHES, O.BANK_RETRIALS, O.PMC_VALUE, O.PMC_STATUS, F.cyc, F.clk, F.out,
  F.pciePending, F.banks, F.pmc]

theorem Device.retrialsFirst_keeps {W : List Nat} {a : Device} {x0 : Nat} {x1 : Nat} {d : Device} (hW : Sub Touch.retrialsFirst W) (h : Keeps W a d) :
    Keeps W a (Device.retrialsFirst x0 x1 d) := by
  induction x0 generalizing x1 d with
  | zero =>
    unfold Device.retrialsFirst
    try dsimp only
    repeat' first
      | with_reducible exact h | with_reducible assumption | with_reducible apply Keeps.elim
      | with_reducible refine Device.passTo_keeps (subT (by decide +kernel) hW) ?_
      | with_reducible refine Device.issueRetrial_keeps (subT (by decide +kernel) hW) ?_ | intro _ _ hq | intro _
      | split
  | succ _ ih =>
    unfold Device.retrialsFirst
    try dsimp only
    repeat' first
      | with_reducible exact h | with_reducible apply ih | with_reducible assumption
      | with_reducible apply Keeps.elim | with_reducible refine Device.passTo_keeps (subT (by decide +kernel) hW) ?_
      | with_reducible refine Device.issueRetrial_keeps (subT (by decide +kernel) hW) ?_ | intro _ _ hq | intro _
      | split

def Touch.bankKat : List Nat :=
  [O.LOCK, O.GROUP_OWNER, O.GROUP_STATE, O.GROUP_WRITES, O.GROUP_FAIL_ADDRESS, O.GROUP_FLAGS, O.SESSION_STATE,
  O.SESSION_ROLE, O.SESSION_CA, O.SESSION_ID, O.SESSION_LAST_COUNTER, O.ROLE_ROOT, O.RING_ENABLE, O.RING_HEAD,
  O.RING_TAIL, O.RING_STATE, O.RING_COMPLETED, O.RING_REJECTED, O.INJECT_REFUSED, O.MODE, O.MODE_CMD,
  O.MODE_ENTERED_AT, O.MODE_CAUSE, O.SLICE_STATE, O.SLICE_CAUSE, O.SLICE_DISCARDED, O.RUNAHEAD_FALSE_STARTS,
  O.RUNAHEAD_WASTED_CELLS, O.BANK_STATE, O.BANK_RETIRED_MASK, O.BANK_SAMPLED, O.BANK_MISMATCHES, O.BANK_RETRIALS,
  O.BANK_DISCARDS, O.BANK_KAT_FAILS, O.BANK_KS_STALLS, O.VAULT_STATE, O.VAULT_HANDLE, O.VAULT_LEVEL,
  O.VAULT_PURPOSE, O.VAULT_KEY_BITS, O.VAULT_COUNTED, O.VAULT_USES_LEFT, O.VAULT_ORIGIN, O.VAULT_PARENT,
  O.VAULT_CREATED_AT, O.VAULT_ARG_KEY, O.VAULT_CMD, O.VAULT_RESULT_HANDLE, O.DRBG_STATE, O.LA_CONTEXTS_BUSY,
  O.GUN_STATE, O.GUN_OWNER, O.GUN_FLAGS, O.PORT_TX_FRAMES, O.PORT_TX_BYTES, O.PORT_TX_TRUNCATED,
  O.PORT_FC_TX_XOFF_C0, O.PORT_FC_TX_XOFF_C1, O.PORT_FC_TX_XOFF_C2, O.PORT_FC_TX_XOFF_C3, O.PORT_FC_TX_XOFF_C4,
  O.PORT_FC_TX_XOFF_C5, O.PORT_FC_TX_XOFF_C6, O.PORT_FC_TX_XOFF_C7, O.SC_STATUS, O.SA_STATE, O.SA_KEK, O.SA_SLOT,
  O.SA_FLAGS, O.SA_CHANGED_AT, O.SCSA_SLOT0_ROW, O.SCSA_SLOT1_ROW, O.SCSA_IN_FORCE_AN, O.SCSA_ZONE_OPEN,
  O.SA_STAT_PKTS, O.SA_STAT_OCTETS, O.SA_STAT_PKTS_ENCRYPTED, O.SA_STAT_NOT_VALID, O.SA_STAT_COMMIT_LATE,
  O.SA_STAT_TX_LOST, O.CALLROOM_OCCUPANCY, O.CALLROOM_PEAK, O.QUEUE_OCCUPANCY, O.QUEUE_NODE, O.BUFP_USED_CELLS,
  O.BUF_HEADROOM_USED, O.FLT_SRC_CLASS, O.FLT_SRC_EVENTS, O.FLT_SRC_LAST_AT, O.FLT_STATUS, O.FLT_FATAL_SINCE_BOOT,
  O.FLT_LOG_LAST_SEQ, O.FLT_LOG_OVERWRITTEN, O.FLT_EVENT_LOST, O.FLT_FIRST_SEVERE, O.FLT_LOG_RECORD, O.PMC_VALUE,
  O.PMC_STATUS, O.PEER_KEY, F.mode, F.cyc, F.clk, F.draws, F.out, F.sess, F.groups, F.ring, F.pcieDma,
  F.pciePending, F.faults, F.vault, F.checkKey, F.storeKey, F.keyTests, F.keyRestart, F.keyScrub, F.saRecs,
  F.saCtxs, F.banks, F.pipe, F.clsx, F.queues, F.nodes, F.pairs, F.ports, F.laps, F.pmc, F.lc, F.la,
  F.keyScrubFrom, F.keyReseed, F.keyRequests]

theorem Device.bankKat_keeps {W : List Nat} {a : Device} {b : Nat} {core : Nat} {passed : Bool} {d : Device} (hW : Sub Touch.bankKat W) (h : Keeps W a d) :
    Keeps W a (Device.bankKat b core passed d) := by
  unfold Device.bankKat
  try dsimp only
  repeat' first
    | with_reducible exact h | with_reducible apply Keeps.ite
    | with_reducible refine Device.passTo_keeps (subT (by decide +kernel) hW) ?_
    | with_reducible refine Device.katTurn_keeps (subT (by decide +kernel) hW) ?_
    | with_reducible refine Device.katEnd_keeps (subT (by decide +kernel) hW) ?_
    | with_reducible refine Device.retrialsFirst_keeps (subT (by decide +kernel) hW) ?_
    | with_reducible refine Device.katDelays_keeps (subT (by decide +kernel) hW) ?_ | split

def Touch.umpireLfsrReseed : List Nat :=
  [O.PMC_VALUE, O.PMC_STATUS, F.cyc, F.clk, F.draws, F.out, F.pciePending, F.checkKey, F.storeKey, F.keyTests,
  F.keyRestart, F.keyScrub, F.banks, F.pmc, F.keyScrubFrom, F.keyReseed, F.keyRequests]

theorem Device.umpireLfsrReseed_keeps {W : List Nat} {a : Device} {b : Nat} {d : Device} (hW : Sub Touch.umpireLfsrReseed W) (h : Keeps W a d) :
    Keeps W a (Device.umpireLfsrReseed b d) := by
  unfold Device.umpireLfsrReseed
  try dsimp only
  repeat' first
    | with_reducible exact h | with_reducible apply Keeps.ite
    | with_reducible refine Device.passTo_keeps (subT (by decide +kernel) hW) ?_
    | with_reducible refine Device.seedLfsr_keeps (subT (by decide +kernel) hW) ?_ | split

def Touch.bankRetireCore : List Nat :=
  [O.LOCK, O.GROUP_OWNER, O.GROUP_STATE, O.GROUP_WRITES, O.GROUP_FAIL_ADDRESS, O.GROUP_FLAGS, O.SESSION_STATE,
  O.SESSION_ROLE, O.SESSION_CA, O.SESSION_ID, O.SESSION_LAST_COUNTER, O.ROLE_ROOT, O.RING_ENABLE, O.RING_HEAD,
  O.RING_TAIL, O.RING_STATE, O.RING_COMPLETED, O.RING_REJECTED, O.INJECT_REFUSED, O.MODE, O.MODE_CMD,
  O.MODE_ENTERED_AT, O.MODE_CAUSE, O.SLICE_STATE, O.SLICE_CAUSE, O.SLICE_DISCARDED, O.RUNAHEAD_FALSE_STARTS,
  O.RUNAHEAD_WASTED_CELLS, O.BANK_STATE, O.BANK_RETIRED_MASK, O.BANK_DISCARDS, O.BANK_CMD, O.VAULT_STATE,
  O.VAULT_HANDLE, O.VAULT_LEVEL, O.VAULT_PURPOSE, O.VAULT_KEY_BITS, O.VAULT_COUNTED, O.VAULT_USES_LEFT,
  O.VAULT_ORIGIN, O.VAULT_PARENT, O.VAULT_CREATED_AT, O.VAULT_ARG_KEY, O.VAULT_CMD, O.VAULT_RESULT_HANDLE,
  O.DRBG_STATE, O.LA_CONTEXTS_BUSY, O.GUN_STATE, O.GUN_OWNER, O.GUN_FLAGS, O.PORT_TX_FRAMES, O.PORT_TX_BYTES,
  O.PORT_TX_TRUNCATED, O.PORT_FC_TX_XOFF_C0, O.PORT_FC_TX_XOFF_C1, O.PORT_FC_TX_XOFF_C2, O.PORT_FC_TX_XOFF_C3,
  O.PORT_FC_TX_XOFF_C4, O.PORT_FC_TX_XOFF_C5, O.PORT_FC_TX_XOFF_C6, O.PORT_FC_TX_XOFF_C7, O.SC_STATUS, O.SA_STATE,
  O.SA_KEK, O.SA_SLOT, O.SA_FLAGS, O.SA_CHANGED_AT, O.SCSA_SLOT0_ROW, O.SCSA_SLOT1_ROW, O.SCSA_IN_FORCE_AN,
  O.SCSA_ZONE_OPEN, O.SA_STAT_PKTS, O.SA_STAT_OCTETS, O.SA_STAT_PKTS_ENCRYPTED, O.SA_STAT_NOT_VALID,
  O.SA_STAT_COMMIT_LATE, O.SA_STAT_TX_LOST, O.CALLROOM_OCCUPANCY, O.CALLROOM_PEAK, O.QUEUE_OCCUPANCY, O.QUEUE_NODE,
  O.BUFP_USED_CELLS, O.BUF_HEADROOM_USED, O.FLT_SRC_CLASS, O.FLT_SRC_EVENTS, O.FLT_SRC_LAST_AT, O.FLT_STATUS,
  O.FLT_FATAL_SINCE_BOOT, O.FLT_LOG_LAST_SEQ, O.FLT_LOG_OVERWRITTEN, O.FLT_EVENT_LOST, O.FLT_FIRST_SEVERE,
  O.FLT_LOG_RECORD, O.PMC_VALUE, O.PMC_STATUS, O.PEER_KEY, F.mode, F.draws, F.out, F.sess, F.groups, F.ring,
  F.pcieDma, F.pciePending, F.faults, F.vault, F.checkKey, F.storeKey, F.keyTests, F.keyRestart, F.keyScrub,
  F.saRecs, F.saCtxs, F.banks, F.pipe, F.clsx, F.queues, F.nodes, F.pairs, F.ports, F.laps, F.pmc, F.lc, F.la,
  F.keyScrubFrom, F.keyReseed, F.keyRequests]

theorem Device.bankRetireCore_keeps {W : List Nat} {a : Device} {r : Req} {b : Nat} {core : Nat} {d : Device} (hW : Sub Touch.bankRetireCore W) (h : Keeps W a d) :
    Keeps W a (Device.bankRetireCore r b core d).2 := by
  unfold Device.bankRetireCore
  try dsimp only
  repeat' first
    | with_reducible exact h | with_reducible assumption | exact memT (by decide +kernel) hW
    | with_reducible refine Device.runCmd_keeps ?_ ?_ ?_
    | with_reducible refine Device.retireCore_keeps (subT (by decide +kernel) hW) ?_ | intro _ _ hq | intro _

def Touch.katNowCore : List Nat :=
  [O.LOCK, O.GROUP_OWNER, O.GROUP_STATE, O.GROUP_WRITES, O.GROUP_FAIL_ADDRESS, O.GROUP_FLAGS, O.SESSION_STATE,
  O.SESSION_ROLE, O.SESSION_CA, O.SESSION_ID, O.SESSION_LAST_COUNTER, O.ROLE_ROOT, O.RING_ENABLE, O.RING_HEAD,
  O.RING_TAIL, O.RING_STATE, O.RING_COMPLETED, O.RING_REJECTED, O.INJECT_REFUSED, O.MODE, O.MODE_CMD,
  O.MODE_ENTERED_AT, O.MODE_CAUSE, O.SLICE_STATE, O.SLICE_CAUSE, O.SLICE_DISCARDED, O.RUNAHEAD_FALSE_STARTS,
  O.RUNAHEAD_WASTED_CELLS, O.BANK_STATE, O.BANK_RETIRED_MASK, O.BANK_DISCARDS, O.BANK_KAT_FAILS, O.BANK_CMD,
  O.VAULT_STATE, O.VAULT_HANDLE, O.VAULT_LEVEL, O.VAULT_PURPOSE, O.VAULT_KEY_BITS, O.VAULT_COUNTED,
  O.VAULT_USES_LEFT, O.VAULT_ORIGIN, O.VAULT_PARENT, O.VAULT_CREATED_AT, O.VAULT_ARG_KEY, O.VAULT_CMD,
  O.VAULT_RESULT_HANDLE, O.DRBG_STATE, O.LA_CONTEXTS_BUSY, O.GUN_STATE, O.GUN_OWNER, O.GUN_FLAGS, O.PORT_TX_FRAMES,
  O.PORT_TX_BYTES, O.PORT_TX_TRUNCATED, O.PORT_FC_TX_XOFF_C0, O.PORT_FC_TX_XOFF_C1, O.PORT_FC_TX_XOFF_C2,
  O.PORT_FC_TX_XOFF_C3, O.PORT_FC_TX_XOFF_C4, O.PORT_FC_TX_XOFF_C5, O.PORT_FC_TX_XOFF_C6, O.PORT_FC_TX_XOFF_C7,
  O.SC_STATUS, O.SA_STATE, O.SA_KEK, O.SA_SLOT, O.SA_FLAGS, O.SA_CHANGED_AT, O.SCSA_SLOT0_ROW, O.SCSA_SLOT1_ROW,
  O.SCSA_IN_FORCE_AN, O.SCSA_ZONE_OPEN, O.SA_STAT_PKTS, O.SA_STAT_OCTETS, O.SA_STAT_PKTS_ENCRYPTED,
  O.SA_STAT_NOT_VALID, O.SA_STAT_COMMIT_LATE, O.SA_STAT_TX_LOST, O.CALLROOM_OCCUPANCY, O.CALLROOM_PEAK,
  O.QUEUE_OCCUPANCY, O.QUEUE_NODE, O.BUFP_USED_CELLS, O.BUF_HEADROOM_USED, O.FLT_SRC_CLASS, O.FLT_SRC_EVENTS,
  O.FLT_SRC_LAST_AT, O.FLT_STATUS, O.FLT_FATAL_SINCE_BOOT, O.FLT_LOG_LAST_SEQ, O.FLT_LOG_OVERWRITTEN,
  O.FLT_EVENT_LOST, O.FLT_FIRST_SEVERE, O.FLT_LOG_RECORD, O.PMC_VALUE, O.PMC_STATUS, O.PEER_KEY, F.mode, F.cyc,
  F.clk, F.draws, F.out, F.sess, F.groups, F.ring, F.pcieDma, F.pciePending, F.faults, F.vault, F.checkKey,
  F.storeKey, F.keyTests, F.keyRestart, F.keyScrub, F.saRecs, F.saCtxs, F.banks, F.pipe, F.clsx, F.queues, F.nodes,
  F.pairs, F.ports, F.laps, F.pmc, F.lc, F.la, F.keyScrubFrom, F.keyReseed, F.keyRequests]

theorem Device.katNowCore_keeps {W : List Nat} {a : Device} {r : Req} {b : Nat} {core : Nat} {passed : Bool} {d : Device} (hW : Sub Touch.katNowCore W) (h : Keeps W a d) :
    Keeps W a (Device.katNowCore r b core passed d).2 := by
  unfold Device.katNowCore
  try dsimp only
  repeat' first
    | with_reducible exact h | with_reducible assumption | exact memT (by decide +kernel) hW
    | with_reducible refine Device.runCmd_keeps ?_ ?_ ?_
    | with_reducible refine Device.passTo_keeps (subT (by decide +kernel) hW) ?_
    | with_reducible refine Device.katTurn_keeps (subT (by decide +kernel) hW) ?_
    | with_reducible refine Device.katEnd_keeps (subT (by decide +kernel) hW) ?_ | intro _ _ hq | intro _

end Sys2Proof.Machine
end

