-- ==== Sys2Proof/Laws/KeepsTransClock.lean ====
section
/-!
SUPPORT. The places that each operation of Machine/TransClock.lean may change (Laws/Keeps.lean).
-/
set_option Elab.async false
set_option linter.all false
set_option linter.unusedTactic false
set_option linter.unreachableTactic false
set_option linter.style.longLine false
namespace Sys2Proof.Machine

def Touch.tcFrame : List Nat :=
  [O.TC_MALFORMED]

theorem Device.tcFrame_keeps {W : List Nat} {a : Device} {d : Device} {f : Frame} {data : Bytes} (hW : Sub Touch.tcFrame W) (h : Keeps W a d) :
    Keeps W a (Device.tcFrame d f data).2 := by
  unfold Device.tcFrame
  try dsimp only
  repeat' first
    | with_reducible exact h | with_reducible assumption | exact memT (by decide +kernel) hW
    | with_reducible apply Keeps.ite | with_reducible refine Device.inc64_keeps ?_ ?_
    | with_reducible apply Keeps.ite2 | split

def Touch.tcInFlight : List Nat :=
  [O.TC_MALFORMED]

theorem Device.tcInFlight_keeps {W : List Nat} {a : Device} {d : Device} {f : Frame} (hW : Sub Touch.tcInFlight W) (h : Keeps W a d) :
    Keeps W a (Device.tcInFlight d f).2 := by
  unfold Device.tcInFlight
  try dsimp only
  repeat' first
    | with_reducible exact h | with_reducible assumption
    | with_reducible refine Device.tcFrame_keeps (subT (by decide +kernel) hW) ?_ | split

def Touch.blockWait : List Nat :=
  [F.draws]

theorem Device.blockWait_keeps {W : List Nat} {a : Device} {d : Device} {p : Nat} (hW : Sub Touch.blockWait W) (h : Keeps W a d) :
    Keeps W a (Device.blockWait d p).2 := by
  unfold Device.blockWait
  try dsimp only
  repeat' first
    | with_reducible exact h | with_reducible refine Device.unstated_keeps (subT (by decide +kernel) hW) ?_

def Touch.tcSchedule : List Nat :=
  [O.TC_MALFORMED, F.draws]

theorem Device.tcSchedule_keeps {W : List Nat} {a : Device} {d : Device} {f : Frame} (hW : Sub Touch.tcSchedule W) (h : Keeps W a d) :
    Keeps W a (Device.tcSchedule d f).2 := by
  unfold Device.tcSchedule
  try dsimp only
  repeat' first
    | with_reducible exact h | with_reducible assumption
    | with_reducible refine Device.tcFrame_keeps (subT (by decide +kernel) hW) ?_
    | with_reducible refine Device.blockWait_keeps (subT (by decide +kernel) hW) ?_ | split

end Sys2Proof.Machine
end

