-- ==== Sys2Proof/Laws/KeepsMacsec.lean ====
section
/-!
SUPPORT. The places that each operation of Machine/Macsec.lean may change (Laws/Keeps.lean).
-/
set_option Elab.async false
set_option linter.all false
set_option linter.unusedTactic false
set_option linter.unreachableTactic false
set_option linter.style.longLine false
namespace Sys2Proof.Machine

def Touch.saStats : List Nat :=
  [O.SA_STAT_PKTS, O.SA_STAT_OCTETS, O.SA_STAT_PKTS_ENCRYPTED]

theorem Device.saStats_keeps {W : List Nat} {a : Device} {d : Device} {f : Frame} (hW : Sub Touch.saStats W) (h : Keeps W a d) :
    Keeps W a (Device.saStats d f) := by
  unfold Device.saStats
  try dsimp only
  repeat' first
    | with_reducible exact h | exact memT (by decide +kernel) hW | with_reducible apply Keeps.ite
    | with_reducible refine Device.inc64_keeps ?_ ?_ | with_reducible refine Device.add64_keeps ?_ ?_ | split

def Touch.rxCommit : List Nat :=
  [O.SA_FLAGS, O.SA_STAT_PKTS, O.SA_STAT_OCTETS, O.SA_STAT_PKTS_ENCRYPTED, O.LEARN_BATON_DROPS, F.saCtxs, F.clsx,
  F.laps]

theorem Device.rxCommit_keeps {W : List Nat} {a : Device} {d : Device} {f : Frame} (hW : Sub Touch.rxCommit W) (h : Keeps W a d) :
    Keeps W a (Device.rxCommit d f) := by
  unfold Device.rxCommit
  try dsimp only
  repeat' first
    | with_reducible exact h | exact memT (by decide +kernel) hW
    | with_reducible refine Device.setCtx_keeps (subT (by decide +kernel) hW) ?_
    | with_reducible refine Device.wrBit_keeps ?_ ?_
    | with_reducible refine Device.saStats_keeps (subT (by decide +kernel) hW) ?_
    | with_reducible refine Device.lapProtected_keeps (subT (by decide +kernel) hW) ?_
    | with_reducible refine Device.learnCommit_keeps (subT (by decide +kernel) hW) ?_

end Sys2Proof.Machine
end

