-- ==== Sys2Proof/Laws/KeepsHostPath.lean ====
section
/-!
SUPPORT. The places that each operation of Machine/HostPath.lean may change (Laws/Keeps.lean).
-/
set_option Elab.async false
set_option linter.all false
set_option linter.unusedTactic false
set_option linter.unreachableTactic false
set_option linter.style.longLine false
namespace Sys2Proof.Machine

def Touch.addFrame : List Nat :=
  [F.pipe]

theorem Device.addFrame_keeps {W : List Nat} {a : Device} {d : Device} {f : Frame} (hW : Sub Touch.addFrame W) (h : Keeps W a d) :
    Keeps W a (Device.addFrame d f) := by
  unfold Device.addFrame
  try dsimp only
  repeat' first
    | with_reducible exact h | with_reducible refine Device.setPipe_keeps (subT (by decide +kernel) hW) ?_

def Touch.dropQuiet : List Nat :=
  Touch.dropWhole

theorem Device.dropQuiet_keeps {W : List Nat} {a : Device} {d : Device} {f : Frame} (hW : Sub Touch.dropQuiet W) (h : Keeps W a d) :
    Keeps W a (Device.dropQuiet d f) := by
  unfold Device.dropQuiet
  try dsimp only
  repeat' first
    | with_reducible exact h | with_reducible refine Device.dropWhole_keeps (subT (by decide +kernel) hW) ?_

def Touch.forceSaf : List Nat :=
  [O.PIPE_FORCED_SAF]

theorem Device.forceSaf_keeps {W : List Nat} {a : Device} {d : Device} {f : Frame} (hW : Sub Touch.forceSaf W) (h : Keeps W a d) :
    Keeps W a (Device.forceSaf d f).2 := by
  unfold Device.forceSaf
  try dsimp only
  repeat' first
    | with_reducible exact h | exact memT (by decide +kernel) hW | with_reducible apply Keeps.ite
    | with_reducible refine Device.inc64_keeps ?_ ?_ | with_reducible apply Keeps.ite2 | split

def Touch.countPunt : List Nat :=
  [F.pipe]

theorem Device.countPunt_keeps {W : List Nat} {a : Device} {d : Device} {reason : Nat} (hW : Sub Touch.countPunt W) (h : Keeps W a d) :
    Keeps W a (Device.countPunt d reason) := by
  unfold Device.countPunt
  try dsimp only
  repeat' first
    | with_reducible exact h | with_reducible assumption
    | with_reducible refine Device.setPipe_keeps (subT (by decide +kernel) hW) ?_ | intro _ _ hq | intro _

def Touch.takePart3 : List Nat :=
  [O.BUFP_USED_CELLS, O.BUFP_PEAK_CELLS, F.pipe]

theorem Device.takePart3_keeps {W : List Nat} {a : Device} {d : Device} {f : Frame} (hW : Sub Touch.takePart3 W) (h : Keeps W a d) :
    Keeps W a (Device.takePart3 d f).2 := by
  unfold Device.takePart3
  try dsimp only
  repeat' first
    | with_reducible exact h | with_reducible assumption | with_reducible apply Keeps.foldl
    | with_reducible refine Device.useCell_keeps (subT (by decide +kernel) hW) ?_
    | with_reducible refine Device.addCell_keeps (subT (by decide +kernel) hW) ?_ | with_reducible apply Keeps.foldl2
    | intro _ _ hq | intro _

def Touch.puntWhole : List Nat :=
  [O.PUNT_RATE_DROPS, O.PUNT_RING_DROPS, O.RUNAHEAD_FALSE_STARTS, O.RUNAHEAD_WASTED_CELLS, O.PORT_FC_TX_XOFF_C0,
  O.PORT_FC_TX_XOFF_C1, O.PORT_FC_TX_XOFF_C2, O.PORT_FC_TX_XOFF_C3, O.PORT_FC_TX_XOFF_C4, O.PORT_FC_TX_XOFF_C5,
  O.PORT_FC_TX_XOFF_C6, O.PORT_FC_TX_XOFF_C7, O.SA_STAT_TX_LOST, O.CALLROOM_OCCUPANCY, O.CALLROOM_PEAK,
  O.QUEUE_OCCUPANCY, O.QUEUE_NODE, O.BUFP_USED_CELLS, O.BUFP_PEAK_CELLS, O.BUF_HEADROOM_USED,
  O.BUF_PUNT_FULL_DROPS, O.PMC_VALUE, O.PMC_STATUS, F.out, F.pciePending, F.pipe, F.queues, F.nodes, F.pairs,
  F.ports, F.laps, F.pmc]

theorem Device.puntWhole_keeps {W : List Nat} {a : Device} {d : Device} {f : Frame} {reason : Nat} (hW : Sub Touch.puntWhole W) (h : Keeps W a d) :
    Keeps W a (Device.puntWhole d f reason) := by
  unfold Device.puntWhole
  try dsimp only
  repeat' first
    | with_reducible exact h | exact memT (by decide +kernel) hW | with_reducible apply Keeps.ite
    | with_reducible refine Device.inc64_keeps ?_ ?_
    | with_reducible refine Device.dropWhole_keeps (subT (by decide +kernel) hW) ?_
    | with_reducible refine Device.countPunt_keeps (subT (by decide +kernel) hW) ?_
    | with_reducible refine Device.takePart3_keeps (subT (by decide +kernel) hW) ?_
    | with_reducible refine Device.setFrame_keeps (subT (by decide +kernel) hW) ?_ | with_reducible apply Keeps.ite2
    | split

def Touch.puntFrame : List Nat :=
  [O.PUNT_RATE_DROPS, O.PUNT_RING_DROPS, O.RUNAHEAD_FALSE_STARTS, O.RUNAHEAD_WASTED_CELLS, O.PORT_FC_TX_XOFF_C0,
  O.PORT_FC_TX_XOFF_C1, O.PORT_FC_TX_XOFF_C2, O.PORT_FC_TX_XOFF_C3, O.PORT_FC_TX_XOFF_C4, O.PORT_FC_TX_XOFF_C5,
  O.PORT_FC_TX_XOFF_C6, O.PORT_FC_TX_XOFF_C7, O.PIPE_FORCED_SAF, O.SA_STAT_TX_LOST, O.CALLROOM_OCCUPANCY,
  O.CALLROOM_PEAK, O.QUEUE_OCCUPANCY, O.QUEUE_NODE, O.BUFP_USED_CELLS, O.BUFP_PEAK_CELLS, O.BUF_HEADROOM_USED,
  O.BUF_PUNT_FULL_DROPS, O.PMC_VALUE, O.PMC_STATUS, F.cyc, F.clk, F.out, F.pciePending, F.pipe, F.queues, F.nodes,
  F.pairs, F.ports, F.laps, F.pmc]

theorem Device.puntFrame_keeps {W : List Nat} {a : Device} {d : Device} {f : Frame} {reason : Nat} (hW : Sub Touch.puntFrame W) (h : Keeps W a d) :
    Keeps W a (Device.puntFrame d f reason) := by
  unfold Device.puntFrame
  try dsimp only
  repeat' first
    | with_reducible exact h | with_reducible assumption | with_reducible apply Keeps.ite
    | with_reducible apply Keeps.elim | with_reducible refine Device.forceSaf_keeps (subT (by decide +kernel) hW) ?_
    | with_reducible refine Device.falseStart_keeps (subT (by decide +kernel) hW) ?_
    | with_reducible refine Device.setFrame_keeps (subT (by decide +kernel) hW) ?_
    | with_reducible refine Device.passTo_keeps (subT (by decide +kernel) hW) ?_
    | with_reducible refine Device.dropWhole_keeps (subT (by decide +kernel) hW) ?_
    | with_reducible refine Device.puntWhole_keeps (subT (by decide +kernel) hW) ?_ | with_reducible apply Keeps.ite2
    | with_reducible apply Keeps.elim2 | intro _ _ hq | intro _ | split

def Touch.puntInto : List Nat :=
  [O.RING_POSITION, O.RING_CRC_ERRORS, O.RING_RETURNED, O.RING_BAD_MESSAGES, O.LOCK, O.GROUP_OWNER, O.GROUP_STATE,
  O.GROUP_WRITES, O.GROUP_FAIL_ADDRESS, O.GROUP_FLAGS, O.SESSION_STATE, O.SESSION_ROLE, O.SESSION_CA, O.SESSION_ID,
  O.SESSION_LAST_COUNTER, O.RING_ENABLE, O.RING_HEAD, O.RING_TAIL, O.RING_STATE, O.RING_COMPLETED, O.RING_REJECTED,
  O.PUNT_FRAMES, O.GUN_STATE, O.GUN_OWNER, O.GUN_FLAGS, O.PORT_FC_TX_XOFF_C0, O.PORT_FC_TX_XOFF_C1,
  O.PORT_FC_TX_XOFF_C2, O.PORT_FC_TX_XOFF_C3, O.PORT_FC_TX_XOFF_C4, O.PORT_FC_TX_XOFF_C5, O.PORT_FC_TX_XOFF_C6,
  O.PORT_FC_TX_XOFF_C7, O.CALLROOM_OCCUPANCY, O.CALLROOM_PEAK, O.QUEUE_OCCUPANCY, O.QUEUE_NODE, O.BUFP_USED_CELLS,
  O.BUF_HEADROOM_USED, O.FLT_SRC_EVENTS, O.FLT_SRC_LAST_AT, O.FLT_LOG_LAST_SEQ, O.FLT_LOG_OVERWRITTEN,
  O.FLT_EVENT_LOST, O.FLT_FIRST_SEVERE, O.FLT_LOG_RECORD, O.PMC_VALUE, O.PMC_STATUS, F.out, F.sess, F.groups,
  F.ring, F.pcieDma, F.pciePending, F.pcieServed, F.faults, F.pipe, F.clsx, F.queues, F.nodes, F.pairs, F.ports,
  F.pmc]

theorem Device.puntInto_keeps {W : List Nat} {a : Device} {d : Device} {f : Frame} {n : Nat} {x : Descriptor} (hW : Sub Touch.puntInto W) (h : Keeps W a d) :
    Keeps W a (Device.puntInto d f n x) := by
  unfold Device.puntInto
  try dsimp only
  repeat' first
    | with_reducible exact h | exact memT (by decide +kernel) hW | with_reducible apply Keeps.ite
    | with_reducible refine Device.dmaAdvance_keeps (subT (by decide +kernel) hW) ?_
    | with_reducible refine Device.dmaComplete_keeps (subT (by decide +kernel) hW) ?_
    | with_reducible refine Device.emit_keeps (subT (by decide +kernel) hW) ?_
    | with_reducible refine Device.address_keeps (subT (by decide +kernel) hW) ?_
    | with_reducible refine Device.inc64_keeps ?_ ?_
    | with_reducible refine Device.removeFrame_keeps (subT (by decide +kernel) hW) ?_ | split

def Touch.puntDeliver : List Nat :=
  Touch.puntInto

theorem Device.puntDeliver_keeps {W : List Nat} {a : Device} {id : Nat} {x : Descriptor} {d : Device} (hW : Sub Touch.puntDeliver W) (h : Keeps W a d) :
    Keeps W a (Device.puntDeliver id x d) := by
  unfold Device.puntDeliver
  try dsimp only
  repeat' first
    | with_reducible exact h | with_reducible assumption | with_reducible apply Keeps.ite
    | with_reducible apply Keeps.elim | with_reducible refine Device.puntInto_keeps (subT (by decide +kernel) hW) ?_
    | intro _ _ hq | intro _ | split

def Touch.puntDescriptorTimeout : List Nat :=
  [O.PUNT_RING_DROPS, O.RUNAHEAD_FALSE_STARTS, O.RUNAHEAD_WASTED_CELLS, O.PORT_FC_TX_XOFF_C0, O.PORT_FC_TX_XOFF_C1,
  O.PORT_FC_TX_XOFF_C2, O.PORT_FC_TX_XOFF_C3, O.PORT_FC_TX_XOFF_C4, O.PORT_FC_TX_XOFF_C5, O.PORT_FC_TX_XOFF_C6,
  O.PORT_FC_TX_XOFF_C7, O.SA_STAT_TX_LOST, O.CALLROOM_OCCUPANCY, O.CALLROOM_PEAK, O.QUEUE_OCCUPANCY, O.QUEUE_NODE,
  O.BUFP_USED_CELLS, O.BUF_HEADROOM_USED, O.PMC_VALUE, O.PMC_STATUS, F.cyc, F.clk, F.out, F.pciePending, F.pipe,
  F.queues, F.nodes, F.pairs, F.ports, F.laps, F.pmc]

theorem Device.puntDescriptorTimeout_keeps {W : List Nat} {a : Device} {id : Nat} {d : Device} (hW : Sub Touch.puntDescriptorTimeout W) (h : Keeps W a d) :
    Keeps W a (Device.puntDescriptorTimeout id d) := by
  unfold Device.puntDescriptorTimeout
  try dsimp only
  repeat' first
    | with_reducible exact h | with_reducible assumption | exact memT (by decide +kernel) hW
    | with_reducible apply Keeps.ite | with_reducible apply Keeps.elim
    | with_reducible refine Device.passTo_keeps (subT (by decide +kernel) hW) ?_
    | with_reducible refine Device.inc64_keeps ?_ ?_
    | with_reducible refine Device.dropWhole_keeps (subT (by decide +kernel) hW) ?_ | intro _ _ hq | intro _ | split

def Touch.injProtect : List Nat :=
  Touch.keyLookup

theorem Device.injProtect_keeps {W : List Nat} {a : Device} {d : Device} {x : Descriptor} {f : Frame} (hW : Sub Touch.injProtect W) (h : Keeps W a d) :
    Keeps W a (Device.injProtect d x f).2 := by
  unfold Device.injProtect
  try dsimp only
  repeat' first
    | with_reducible exact h | with_reducible assumption | with_reducible apply Keeps.ite
    | with_reducible apply Keeps.elim | with_reducible refine Device.keyLookup_keeps (subT (by decide +kernel) hW) ?_
    | with_reducible apply Keeps.ite2 | with_reducible apply Keeps.elim2 | intro _ _ hq | intro _ | split

def Touch.injQueue : List Nat :=
  [O.BANK_KS_HITS, O.BANK_KS_MISSES, O.BUFP_USED_CELLS, O.BUFP_PEAK_CELLS, O.PMC_VALUE, O.PMC_STATUS, F.out,
  F.pcieDma, F.pciePending, F.banks, F.pipe, F.nodes, F.pmc]

theorem Device.injQueue_keeps {W : List Nat} {a : Device} {d : Device} {n : Nat} {x : Descriptor} {data : Bytes} (hW : Sub Touch.injQueue W) (h : Keeps W a d) :
    Keeps W a (Device.injQueue d n x data) := by
  unfold Device.injQueue
  try dsimp only
  repeat' first
    | with_reducible exact h | with_reducible refine Device.injProtect_keeps (subT (by decide +kernel) hW) ?_
    | with_reducible refine Device.takePart3_keeps (subT (by decide +kernel) hW) ?_
    | with_reducible refine Device.addFrame_keeps (subT (by decide +kernel) hW) ?_
    | with_reducible refine Device.dmaTake_keeps (subT (by decide +kernel) hW) ?_
    | with_reducible refine Device.setNode_keeps (subT (by decide +kernel) hW) ?_

def Touch.injectDescriptor : List Nat :=
  [O.RING_HEAD, O.RING_TAIL, O.RING_STATE, O.RING_COMPLETED, O.RING_REJECTED, O.INJECT_REFUSED, O.BANK_KS_HITS,
  O.BANK_KS_MISSES, O.BUFP_USED_CELLS, O.BUFP_PEAK_CELLS, O.PMC_VALUE, O.PMC_STATUS, F.out, F.pcieDma,
  F.pciePending, F.pcieServed, F.banks, F.pipe, F.nodes, F.pmc]

theorem Device.injectDescriptor_keeps {W : List Nat} {a : Device} {n : Nat} {x : Descriptor} {data : Bytes} {d : Device} (hW : Sub Touch.injectDescriptor W) (h : Keeps W a d) :
    Keeps W a (Device.injectDescriptor n x data d) := by
  unfold Device.injectDescriptor
  try dsimp only
  repeat' first
    | with_reducible exact h | exact memT (by decide +kernel) hW | with_reducible apply Keeps.ite
    | with_reducible refine Device.dmaAdvance_keeps (subT (by decide +kernel) hW) ?_
    | with_reducible refine Device.dmaComplete_keeps (subT (by decide +kernel) hW) ?_
    | with_reducible refine Device.inc64_keeps ?_ ?_
    | with_reducible refine Device.injQueue_keeps (subT (by decide +kernel) hW) ?_ | split

def Touch.injectComplete : List Nat :=
  [O.RING_HEAD, O.RING_TAIL, O.RING_STATE, O.RING_COMPLETED, O.RING_REJECTED, O.PMC_VALUE, O.PMC_STATUS, F.out,
  F.pcieDma, F.pciePending, F.pipe, F.pmc]

theorem Device.injectComplete_keeps {W : List Nat} {a : Device} {id : Nat} {stamp : Nat} {d : Device} (hW : Sub Touch.injectComplete W) (h : Keeps W a d) :
    Keeps W a (Device.injectComplete id stamp d) := by
  unfold Device.injectComplete
  try dsimp only
  repeat' first
    | with_reducible exact h | with_reducible assumption | with_reducible apply Keeps.ite
    | with_reducible apply Keeps.elim | with_reducible refine Device.setFrame_keeps (subT (by decide +kernel) hW) ?_
    | with_reducible refine Device.dmaFinish_keeps (subT (by decide +kernel) hW) ?_ | intro _ _ hq | intro _ | split

def Touch.injectSendTimeout : List Nat :=
  [O.RING_HEAD, O.RING_TAIL, O.RING_STATE, O.RING_COMPLETED, O.RING_REJECTED, O.INJECT_REFUSED,
  O.RUNAHEAD_FALSE_STARTS, O.RUNAHEAD_WASTED_CELLS, O.PORT_FC_TX_XOFF_C0, O.PORT_FC_TX_XOFF_C1,
  O.PORT_FC_TX_XOFF_C2, O.PORT_FC_TX_XOFF_C3, O.PORT_FC_TX_XOFF_C4, O.PORT_FC_TX_XOFF_C5, O.PORT_FC_TX_XOFF_C6,
  O.PORT_FC_TX_XOFF_C7, O.SA_STAT_TX_LOST, O.CALLROOM_OCCUPANCY, O.CALLROOM_PEAK, O.QUEUE_OCCUPANCY, O.QUEUE_NODE,
  O.BUFP_USED_CELLS, O.BUF_HEADROOM_USED, O.PMC_VALUE, O.PMC_STATUS, F.cyc, F.clk, F.out, F.pcieDma, F.pciePending,
  F.pipe, F.queues, F.nodes, F.pairs, F.ports, F.laps, F.pmc]

theorem Device.injectSendTimeout_keeps {W : List Nat} {a : Device} {id : Nat} {d : Device} (hW : Sub Touch.injectSendTimeout W) (h : Keeps W a d) :
    Keeps W a (Device.injectSendTimeout id d) := by
  unfold Device.injectSendTimeout
  try dsimp only
  repeat' first
    | with_reducible exact h | with_reducible assumption | with_reducible apply Keeps.ite
    | with_reducible apply Keeps.elim | with_reducible refine Device.passTo_keeps (subT (by decide +kernel) hW) ?_
    | with_reducible refine Device.injectRefuse_keeps (subT (by decide +kernel) hW) ?_
    | with_reducible refine Device.dropWhole_keeps (subT (by decide +kernel) hW) ?_ | intro _ _ hq | intro _ | split

end Sys2Proof.Machine
end

