-- ==== Sys2Proof/Laws/KeepsIngress.lean ====
section
/-!
SUPPORT. The places that each operation of Machine/Ingress.lean may change (Laws/Keeps.lean).
-/
set_option Elab.async false
set_option linter.all false
set_option linter.unusedTactic false
set_option linter.unreachableTactic false
set_option linter.style.longLine false
namespace Sys2Proof.Machine

def Touch.admitFrame : List Nat :=
  [O.LOCK, O.GROUP_OWNER, O.GROUP_STATE, O.GROUP_WRITES, O.GROUP_FAIL_ADDRESS, O.GROUP_FLAGS, O.SESSION_STATE,
  O.SESSION_ROLE, O.SESSION_CA, O.SESSION_ID, O.SESSION_LAST_COUNTER, O.RING_ENABLE, O.RING_HEAD, O.RING_TAIL,
  O.RING_STATE, O.RING_COMPLETED, O.RING_REJECTED, O.RUNAHEAD_FALSE_STARTS, O.RUNAHEAD_WASTED_CELLS, O.GUN_STATE,
  O.GUN_OWNER, O.GUN_FLAGS, O.PORT_FC_TX_XOFF_C0, O.PORT_FC_TX_XOFF_C1, O.PORT_FC_TX_XOFF_C2, O.PORT_FC_TX_XOFF_C3,
  O.PORT_FC_TX_XOFF_C4, O.PORT_FC_TX_XOFF_C5, O.PORT_FC_TX_XOFF_C6, O.PORT_FC_TX_XOFF_C7, O.SA_STAT_TX_LOST,
  O.CALLROOM_OCCUPANCY, O.CALLROOM_PEAK, O.QUEUE_OCCUPANCY, O.QUEUE_NODE, O.QUEUE_DROP_FRAMES, O.QUEUE_DROP_BYTES,
  O.BUFP_USED_CELLS, O.BUFP_PEAK_CELLS, O.BUF_HEADROOM_USED, O.BUF_HEADROOM_DROPS, O.FLT_SRC_EVENTS,
  O.FLT_SRC_LAST_AT, O.FLT_LOG_LAST_SEQ, O.FLT_LOG_OVERWRITTEN, O.FLT_EVENT_LOST, O.FLT_FIRST_SEVERE,
  O.FLT_LOG_RECORD, O.PMC_VALUE, O.PMC_STATUS, F.cyc, F.clk, F.out, F.sess, F.groups, F.ring, F.pcieDma,
  F.pciePending, F.faults, F.pipe, F.clsx, F.queues, F.nodes, F.pairs, F.ports, F.laps, F.pmc]

theorem Device.admitFrame_keeps {W : List Nat} {a : Device} {d : Device} {f : Frame} (hW : Sub Touch.admitFrame W) (h : Keeps W a d) :
    Keeps W a (Device.admitFrame d f) := by
  unfold Device.admitFrame
  try dsimp only
  repeat' first
    | with_reducible exact h | with_reducible apply Keeps.ite
    | with_reducible refine Device.setFrame_keeps (subT (by decide +kernel) hW) ?_
    | with_reducible refine Device.enqueue_keeps (subT (by decide +kernel) hW) ?_
    | with_reducible refine Device.passTo_keeps (subT (by decide +kernel) hW) ?_
    | with_reducible refine Device.dropWhole_keeps (subT (by decide +kernel) hW) ?_ | split

def Touch.chooseSaf : List Nat :=
  [O.PIPE_FORCED_SAF]

theorem Device.chooseSaf_keeps {W : List Nat} {a : Device} {d : Device} {f : Frame} (hW : Sub Touch.chooseSaf W) (h : Keeps W a d) :
    Keeps W a (Device.chooseSaf d f).2 := by
  unfold Device.chooseSaf
  try dsimp only
  repeat' first
    | with_reducible exact h | with_reducible apply Keeps.ite
    | with_reducible refine Device.forceSaf_keeps (subT (by decide +kernel) hW) ?_ | with_reducible apply Keeps.ite2
    | split

def Touch.egressLimit : List Nat :=
  [O.PORT_RX_FRAMES, O.PORT_RX_BYTES, O.PORT_RX_FCS_ERRORS, O.PORT_RX_OVERSIZE]

theorem Device.egressLimit_keeps {W : List Nat} {a : Device} {d : Device} {f : Frame} (hW : Sub Touch.egressLimit W) (h : Keeps W a d) :
    Keeps W a (Device.egressLimit d f).2 := by
  unfold Device.egressLimit
  try dsimp only
  repeat' first
    | with_reducible exact h | exact memT (by decide +kernel) hW | with_reducible apply Keeps.ite
    | with_reducible refine Device.sub64_keeps ?_ ?_
    | with_reducible refine Device.uncountRx_keeps (subT (by decide +kernel) hW) ?_
    | with_reducible refine Device.inc64_keeps ?_ ?_ | with_reducible apply Keeps.ite2 | split

def Touch.dropRed : List Nat :=
  Touch.dropWhole

theorem Device.dropRed_keeps {W : List Nat} {a : Device} {d : Device} {f : Frame} (hW : Sub Touch.dropRed W) (h : Keeps W a d) :
    Keeps W a (Device.dropRed d f) := by
  unfold Device.dropRed
  try dsimp only
  repeat' first
    | with_reducible exact h | with_reducible refine Device.dropQuiet_keeps (subT (by decide +kernel) hW) ?_

def Touch.police6 : List Nat :=
  [O.LOCK, O.GROUP_OWNER, O.GROUP_STATE, O.GROUP_WRITES, O.GROUP_FAIL_ADDRESS, O.GROUP_FLAGS, O.SESSION_STATE,
  O.SESSION_ROLE, O.SESSION_CA, O.SESSION_ID, O.SESSION_LAST_COUNTER, O.RING_ENABLE, O.RING_HEAD, O.RING_TAIL,
  O.RING_STATE, O.RING_COMPLETED, O.RING_REJECTED, O.RUNAHEAD_FALSE_STARTS, O.RUNAHEAD_WASTED_CELLS, O.GUN_STATE,
  O.GUN_OWNER, O.GUN_FLAGS, O.PORT_RX_FRAMES, O.PORT_RX_BYTES, O.PORT_RX_FCS_ERRORS, O.PORT_RX_OVERSIZE,
  O.PORT_FC_TX_XOFF_C0, O.PORT_FC_TX_XOFF_C1, O.PORT_FC_TX_XOFF_C2, O.PORT_FC_TX_XOFF_C3, O.PORT_FC_TX_XOFF_C4,
  O.PORT_FC_TX_XOFF_C5, O.PORT_FC_TX_XOFF_C6, O.PORT_FC_TX_XOFF_C7, O.PIPE_FORCED_SAF, O.SA_STAT_TX_LOST,
  O.CALLROOM_OCCUPANCY, O.CALLROOM_PEAK, O.QUEUE_OCCUPANCY, O.QUEUE_NODE, O.POL_RED_FRAMES, O.POL_RED_BYTES,
  O.POL_YELLOW_FRAMES, O.POL_YELLOW_BYTES, O.QUEUE_DROP_FRAMES, O.QUEUE_DROP_BYTES, O.BUFP_USED_CELLS,
  O.BUFP_PEAK_CELLS, O.BUF_HEADROOM_USED, O.BUF_HEADROOM_DROPS, O.FLT_SRC_EVENTS, O.FLT_SRC_LAST_AT,
  O.FLT_LOG_LAST_SEQ, O.FLT_LOG_OVERWRITTEN, O.FLT_EVENT_LOST, O.FLT_FIRST_SEVERE, O.FLT_LOG_RECORD, O.PMC_VALUE,
  O.PMC_STATUS, F.cyc, F.clk, F.out, F.sess, F.groups, F.ring, F.pcieDma, F.pciePending, F.faults, F.pipe, F.clsx,
  F.queues, F.nodes, F.pairs, F.ports, F.laps, F.pmc]

theorem Device.police6_keeps {W : List Nat} {a : Device} {d : Device} {f : Frame} (hW : Sub Touch.police6 W) (h : Keeps W a d) :
    Keeps W a (Device.police6 d f) := by
  unfold Device.police6
  try dsimp only
  repeat' first
    | with_reducible exact h | with_reducible assumption
    | with_reducible refine Device.egressLimit_keeps (subT (by decide +kernel) hW) ?_
    | with_reducible refine Device.chooseSaf_keeps (subT (by decide +kernel) hW) ?_
    | with_reducible refine Device.police_keeps (subT (by decide +kernel) hW) ?_
    | with_reducible refine Device.dropRed_keeps (subT (by decide +kernel) hW) ?_
    | with_reducible refine Device.admitFrame_keeps (subT (by decide +kernel) hW) ?_ | split

def Touch.noResult : List Nat :=
  [O.RUNAHEAD_FALSE_STARTS, O.RUNAHEAD_WASTED_CELLS, O.PORT_FC_TX_XOFF_C0, O.PORT_FC_TX_XOFF_C1,
  O.PORT_FC_TX_XOFF_C2, O.PORT_FC_TX_XOFF_C3, O.PORT_FC_TX_XOFF_C4, O.PORT_FC_TX_XOFF_C5, O.PORT_FC_TX_XOFF_C6,
  O.PORT_FC_TX_XOFF_C7, O.SA_STAT_TX_LOST, O.MP_NO_RESULT_DROPS, O.CALLROOM_OCCUPANCY, O.CALLROOM_PEAK,
  O.QUEUE_OCCUPANCY, O.QUEUE_NODE, O.BUFP_USED_CELLS, O.BUF_HEADROOM_USED, O.PMC_VALUE, O.PMC_STATUS, F.out,
  F.pciePending, F.pipe, F.queues, F.nodes, F.pairs, F.ports, F.laps, F.pmc]

theorem Device.noResult_keeps {W : List Nat} {a : Device} {d : Device} {f : Frame} (hW : Sub Touch.noResult W) (h : Keeps W a d) :
    Keeps W a (Device.noResult d f) := by
  unfold Device.noResult
  try dsimp only
  repeat' first
    | with_reducible exact h | exact memT (by decide +kernel) hW | with_reducible refine Device.inc64_keeps ?_ ?_
    | with_reducible refine Device.dropQuiet_keeps (subT (by decide +kernel) hW) ?_

def Touch.protectTx : List Nat :=
  [O.LOCK, O.GROUP_OWNER, O.GROUP_STATE, O.GROUP_WRITES, O.GROUP_FAIL_ADDRESS, O.GROUP_FLAGS, O.SESSION_STATE,
  O.SESSION_ROLE, O.SESSION_CA, O.SESSION_ID, O.SESSION_LAST_COUNTER, O.RING_ENABLE, O.RING_HEAD, O.RING_TAIL,
  O.RING_STATE, O.RING_COMPLETED, O.RING_REJECTED, O.RUNAHEAD_FALSE_STARTS, O.RUNAHEAD_WASTED_CELLS,
  O.BANK_KS_HITS, O.BANK_KS_MISSES, O.GUN_STATE, O.GUN_OWNER, O.GUN_FLAGS, O.PORT_RX_FRAMES, O.PORT_RX_BYTES,
  O.PORT_RX_FCS_ERRORS, O.PORT_RX_OVERSIZE, O.PORT_FC_TX_XOFF_C0, O.PORT_FC_TX_XOFF_C1, O.PORT_FC_TX_XOFF_C2,
  O.PORT_FC_TX_XOFF_C3, O.PORT_FC_TX_XOFF_C4, O.PORT_FC_TX_XOFF_C5, O.PORT_FC_TX_XOFF_C6, O.PORT_FC_TX_XOFF_C7,
  O.PIPE_FORCED_SAF, O.SC_TX_NO_SA_DROPS, O.SC_BAD_KEY_DROPS, O.SA_STAT_TX_LOST, O.CALLROOM_OCCUPANCY,
  O.CALLROOM_PEAK, O.QUEUE_OCCUPANCY, O.QUEUE_NODE, O.POL_RED_FRAMES, O.POL_RED_BYTES, O.POL_YELLOW_FRAMES,
  O.POL_YELLOW_BYTES, O.QUEUE_DROP_FRAMES, O.QUEUE_DROP_BYTES, O.BUFP_USED_CELLS, O.BUFP_PEAK_CELLS,
  O.BUF_HEADROOM_USED, O.BUF_HEADROOM_DROPS, O.FLT_SRC_EVENTS, O.FLT_SRC_LAST_AT, O.FLT_LOG_LAST_SEQ,
  O.FLT_LOG_OVERWRITTEN, O.FLT_EVENT_LOST, O.FLT_FIRST_SEVERE, O.FLT_LOG_RECORD, O.PMC_VALUE, O.PMC_STATUS, F.cyc,
  F.clk, F.out, F.sess, F.groups, F.ring, F.pcieDma, F.pciePending, F.faults, F.banks, F.pipe, F.clsx, F.queues,
  F.nodes, F.pairs, F.ports, F.laps, F.pmc]

theorem Device.protectTx_keeps {W : List Nat} {a : Device} {d : Device} {f : Frame} {sc : Nat} (hW : Sub Touch.protectTx W) (h : Keeps W a d) :
    Keeps W a (Device.protectTx d f sc) := by
  unfold Device.protectTx
  try dsimp only
  repeat' first
    | with_reducible exact h | with_reducible assumption | exact memT (by decide +kernel) hW
    | with_reducible apply Keeps.ite | with_reducible refine Device.inc64_keeps ?_ ?_
    | with_reducible refine Device.dropWhole_keeps (subT (by decide +kernel) hW) ?_
    | with_reducible refine Device.police6_keeps (subT (by decide +kernel) hW) ?_
    | with_reducible refine Device.keyLookup_keeps (subT (by decide +kernel) hW) ?_ | with_reducible apply Keeps.ite2
    | split

def Touch.applyResult : List Nat :=
  [O.LOCK, O.GROUP_OWNER, O.GROUP_STATE, O.GROUP_WRITES, O.GROUP_FAIL_ADDRESS, O.GROUP_FLAGS, O.SESSION_STATE,
  O.SESSION_ROLE, O.SESSION_CA, O.SESSION_ID, O.SESSION_LAST_COUNTER, O.RING_ENABLE, O.RING_HEAD, O.RING_TAIL,
  O.RING_STATE, O.RING_COMPLETED, O.RING_REJECTED, O.PUNT_RATE_DROPS, O.PUNT_RING_DROPS, O.RUNAHEAD_FALSE_STARTS,
  O.RUNAHEAD_WASTED_CELLS, O.BANK_KS_HITS, O.BANK_KS_MISSES, O.GUN_STATE, O.GUN_OWNER, O.GUN_FLAGS,
  O.PORT_RX_FRAMES, O.PORT_RX_BYTES, O.PORT_RX_FCS_ERRORS, O.PORT_RX_OVERSIZE, O.PORT_FC_TX_XOFF_C0,
  O.PORT_FC_TX_XOFF_C1, O.PORT_FC_TX_XOFF_C2, O.PORT_FC_TX_XOFF_C3, O.PORT_FC_TX_XOFF_C4, O.PORT_FC_TX_XOFF_C5,
  O.PORT_FC_TX_XOFF_C6, O.PORT_FC_TX_XOFF_C7, O.PIPE_FORCED_SAF, O.SC_TX_NO_SA_DROPS, O.SC_BAD_KEY_DROPS,
  O.SA_STAT_TX_LOST, O.MP_NO_RESULT_DROPS, O.MP_POLICY_DROPS, O.CALLROOM_OCCUPANCY, O.CALLROOM_PEAK,
  O.CLS_WRONG_SLICE, O.QUEUE_OCCUPANCY, O.QUEUE_NODE, O.POL_RED_FRAMES, O.POL_RED_BYTES, O.POL_YELLOW_FRAMES,
  O.POL_YELLOW_BYTES, O.QUEUE_DROP_FRAMES, O.QUEUE_DROP_BYTES, O.BUFP_USED_CELLS, O.BUFP_PEAK_CELLS,
  O.BUF_HEADROOM_USED, O.BUF_HEADROOM_DROPS, O.BUF_PUNT_FULL_DROPS, O.FLT_SRC_EVENTS, O.FLT_SRC_LAST_AT,
  O.FLT_LOG_LAST_SEQ, O.FLT_LOG_OVERWRITTEN, O.FLT_EVENT_LOST, O.FLT_FIRST_SEVERE, O.FLT_LOG_RECORD, O.PMC_VALUE,
  O.PMC_STATUS, F.cyc, F.clk, F.out, F.sess, F.groups, F.ring, F.pcieDma, F.pciePending, F.faults, F.banks, F.pipe,
  F.clsx, F.queues, F.nodes, F.pairs, F.ports, F.laps, F.pmc]

theorem Device.applyResult_keeps {W : List Nat} {a : Device} {d : Device} {f : Frame} {r : Nat} (hW : Sub Touch.applyResult W) (h : Keeps W a d) :
    Keeps W a (Device.applyResult d f r) := by
  unfold Device.applyResult
  try dsimp only
  repeat' first
    | with_reducible exact h | exact memT (by decide +kernel) hW | with_reducible apply Keeps.ite
    | with_reducible refine Device.inc64_keeps ?_ ?_
    | with_reducible refine Device.noResult_keeps (subT (by decide +kernel) hW) ?_
    | with_reducible refine Device.puntFrame_keeps (subT (by decide +kernel) hW) ?_
    | with_reducible refine Device.dropQuiet_keeps (subT (by decide +kernel) hW) ?_
    | with_reducible refine Device.police6_keeps (subT (by decide +kernel) hW) ?_
    | with_reducible refine Device.protectTx_keeps (subT (by decide +kernel) hW) ?_ | split

def Touch.rxAdmit : List Nat :=
  [O.LOCK, O.GROUP_OWNER, O.GROUP_STATE, O.GROUP_WRITES, O.GROUP_FAIL_ADDRESS, O.GROUP_FLAGS, O.SESSION_STATE,
  O.SESSION_ROLE, O.SESSION_CA, O.SESSION_ID, O.SESSION_LAST_COUNTER, O.ROLE_ROOT, O.RING_ENABLE, O.RING_HEAD,
  O.RING_TAIL, O.RING_STATE, O.RING_COMPLETED, O.RING_REJECTED, O.INJECT_REFUSED, O.MODE, O.MODE_CMD,
  O.MODE_ENTERED_AT, O.MODE_CAUSE, O.RUNAHEAD_FALSE_STARTS, O.RUNAHEAD_WASTED_CELLS, O.BANK_DISCARDS,
  O.VAULT_STATE, O.VAULT_HANDLE, O.VAULT_LEVEL, O.VAULT_PURPOSE, O.VAULT_KEY_BITS, O.VAULT_COUNTED,
  O.VAULT_USES_LEFT, O.VAULT_ORIGIN, O.VAULT_PARENT, O.VAULT_CREATED_AT, O.VAULT_ARG_KEY, O.VAULT_CMD,
  O.VAULT_RESULT_HANDLE, O.DRBG_STATE, O.LA_CONTEXTS_BUSY, O.GUN_STATE, O.GUN_OWNER, O.GUN_FLAGS, O.PORT_RX_FRAMES,
  O.PORT_RX_BYTES, O.PORT_RX_FCS_ERRORS, O.PORT_RX_OVERSIZE, O.PORT_TX_FRAMES, O.PORT_TX_BYTES,
  O.PORT_TX_TRUNCATED, O.PORT_FC_TX_XOFF_C0, O.PORT_FC_TX_XOFF_C1, O.PORT_FC_TX_XOFF_C2, O.PORT_FC_TX_XOFF_C3,
  O.PORT_FC_TX_XOFF_C4, O.PORT_FC_TX_XOFF_C5, O.PORT_FC_TX_XOFF_C6, O.PORT_FC_TX_XOFF_C7, O.PIPE_FORCED_SAF,
  O.SC_STATUS, O.SA_STATE, O.SA_KEK, O.SA_SLOT, O.SA_FLAGS, O.SA_CHANGED_AT, O.SCSA_SLOT0_ROW, O.SCSA_SLOT1_ROW,
  O.SCSA_IN_FORCE_AN, O.SCSA_ZONE_OPEN, O.SA_STAT_PKTS, O.SA_STAT_OCTETS, O.SA_STAT_PKTS_ENCRYPTED,
  O.SA_STAT_NOT_VALID, O.SA_STAT_COMMIT_LATE, O.SA_STAT_TX_LOST, O.LEARN_OVERFLOW_DROPS, O.LEARN_UNPINNED,
  O.LEARN_CONFLICTS, O.CALLROOM_OCCUPANCY, O.CALLROOM_PEAK, O.QUEUE_OCCUPANCY, O.QUEUE_NODE, O.POL_RED_FRAMES,
  O.POL_RED_BYTES, O.POL_YELLOW_FRAMES, O.POL_YELLOW_BYTES, O.QUEUE_DROP_FRAMES, O.QUEUE_DROP_BYTES,
  O.BUFP_USED_CELLS, O.BUFP_PEAK_CELLS, O.BUF_HEADROOM_USED, O.BUF_HEADROOM_DROPS, O.MEM_NODE_FAILS,
  O.MEM_CTR_READONLY, O.MEM_TREE_HITS, O.MEM_TREE_MISSES, O.FLT_SRC_CLASS, O.FLT_SRC_EVENTS, O.FLT_SRC_LAST_AT,
  O.FLT_STATUS, O.FLT_FATAL_SINCE_BOOT, O.FLT_LOG_LAST_SEQ, O.FLT_LOG_OVERWRITTEN, O.FLT_EVENT_LOST,
  O.FLT_FIRST_SEVERE, O.FLT_LOG_RECORD, O.PMC_VALUE, O.PMC_STATUS, O.PEER_KEY, F.mode, F.cyc, F.clk, F.draws,
  F.out, F.sess, F.groups, F.ring, F.pcieDma, F.pciePending, F.faults, F.vault, F.checkKey, F.storeKey, F.keyTests,
  F.keyRestart, F.keyScrub, F.saRecs, F.saCtxs, F.banks, F.pipe, F.clsx, F.queues, F.nodes, F.pairs, F.ports,
  F.laps, F.pmc, F.memRest, F.lc, F.la, F.keyScrubFrom, F.keyReseed, F.keyRequests]

theorem Device.rxAdmit_keeps {W : List Nat} {a : Device} {d : Device} {f : Frame} (hW : Sub Touch.rxAdmit W) (h : Keeps W a d) :
    Keeps W a (Device.rxAdmit d f) := by
  unfold Device.rxAdmit
  try dsimp only
  repeat' first
    | with_reducible exact h | with_reducible apply Keeps.ite
    | with_reducible refine Device.egressLimit_keeps (subT (by decide +kernel) hW) ?_
    | with_reducible refine Device.chooseSaf_keeps (subT (by decide +kernel) hW) ?_
    | with_reducible refine Device.police_keeps (subT (by decide +kernel) hW) ?_
    | with_reducible refine Device.dropRed_keeps (subT (by decide +kernel) hW) ?_
    | with_reducible refine Device.learnDecide_keeps (subT (by decide +kernel) hW) ?_
    | with_reducible refine Device.dropWhole_keeps (subT (by decide +kernel) hW) ?_
    | with_reducible refine Device.admitFrame_keeps (subT (by decide +kernel) hW) ?_
    | with_reducible apply Keeps.ite2 | split

def Touch.rxLate : List Nat :=
  Touch.lateDrop

theorem Device.rxLate_keeps {W : List Nat} {a : Device} {d : Device} {f : Frame} (hW : Sub Touch.rxLate W) (h : Keeps W a d) :
    Keeps W a (Device.rxLate d f) := by
  unfold Device.rxLate
  try dsimp only
  repeat' first
    | with_reducible exact h | with_reducible apply Keeps.ite
    | with_reducible refine Device.setFrame_keeps (subT (by decide +kernel) hW) ?_
    | with_reducible refine Device.lateDrop_keeps (subT (by decide +kernel) hW) ?_ | split

def Touch.rxUnder : List Nat :=
  [O.LOCK, O.GROUP_OWNER, O.GROUP_STATE, O.GROUP_WRITES, O.GROUP_FAIL_ADDRESS, O.GROUP_FLAGS, O.SESSION_STATE,
  O.SESSION_ROLE, O.SESSION_CA, O.SESSION_ID, O.SESSION_LAST_COUNTER, O.ROLE_ROOT, O.RING_ENABLE, O.RING_HEAD,
  O.RING_TAIL, O.RING_STATE, O.RING_COMPLETED, O.RING_REJECTED, O.INJECT_REFUSED, O.MODE, O.MODE_CMD,
  O.MODE_ENTERED_AT, O.MODE_CAUSE, O.RUNAHEAD_FALSE_STARTS, O.RUNAHEAD_WASTED_CELLS, O.BANK_DISCARDS,
  O.BANK_KS_HITS, O.BANK_KS_MISSES, O.VAULT_STATE, O.VAULT_HANDLE, O.VAULT_LEVEL, O.VAULT_PURPOSE,
  O.VAULT_KEY_BITS, O.VAULT_COUNTED, O.VAULT_USES_LEFT, O.VAULT_ORIGIN, O.VAULT_PARENT, O.VAULT_CREATED_AT,
  O.VAULT_ARG_KEY, O.VAULT_CMD, O.VAULT_RESULT_HANDLE, O.DRBG_STATE, O.LA_CONTEXTS_BUSY, O.GUN_STATE, O.GUN_OWNER,
  O.GUN_FLAGS, O.PORT_RX_FRAMES, O.PORT_RX_BYTES, O.PORT_RX_FCS_ERRORS, O.PORT_RX_OVERSIZE, O.PORT_TX_FRAMES,
  O.PORT_TX_BYTES, O.PORT_TX_TRUNCATED, O.PORT_FC_TX_XOFF_C0, O.PORT_FC_TX_XOFF_C1, O.PORT_FC_TX_XOFF_C2,
  O.PORT_FC_TX_XOFF_C3, O.PORT_FC_TX_XOFF_C4, O.PORT_FC_TX_XOFF_C5, O.PORT_FC_TX_XOFF_C6, O.PORT_FC_TX_XOFF_C7,
  O.PIPE_FORCED_SAF, O.SC_STATUS, O.SC_RX_LATE, O.SA_STATE, O.SA_KEK, O.SA_SLOT, O.SA_FLAGS, O.SA_CHANGED_AT,
  O.SCSA_SLOT0_ROW, O.SCSA_SLOT1_ROW, O.SCSA_IN_FORCE_AN, O.SCSA_ZONE_OPEN, O.SA_STAT_PKTS, O.SA_STAT_OCTETS,
  O.SA_STAT_PKTS_ENCRYPTED, O.SA_STAT_NOT_VALID, O.SA_STAT_COMMIT_LATE, O.SA_STAT_TX_LOST, O.LEARN_OVERFLOW_DROPS,
  O.LEARN_UNPINNED, O.LEARN_CONFLICTS, O.CALLROOM_OCCUPANCY, O.CALLROOM_PEAK, O.QUEUE_OCCUPANCY, O.QUEUE_NODE,
  O.POL_RED_FRAMES, O.POL_RED_BYTES, O.POL_YELLOW_FRAMES, O.POL_YELLOW_BYTES, O.QUEUE_DROP_FRAMES,
  O.QUEUE_DROP_BYTES, O.BUFP_USED_CELLS, O.BUFP_PEAK_CELLS, O.BUF_HEADROOM_USED, O.BUF_HEADROOM_DROPS,
  O.MEM_NODE_FAILS, O.MEM_CTR_READONLY, O.MEM_TREE_HITS, O.MEM_TREE_MISSES, O.FLT_SRC_CLASS, O.FLT_SRC_EVENTS,
  O.FLT_SRC_LAST_AT, O.FLT_STATUS, O.FLT_FATAL_SINCE_BOOT, O.FLT_LOG_LAST_SEQ, O.FLT_LOG_OVERWRITTEN,
  O.FLT_EVENT_LOST, O.FLT_FIRST_SEVERE, O.FLT_LOG_RECORD, O.PMC_VALUE, O.PMC_STATUS, O.PEER_KEY, F.mode, F.cyc,
  F.clk, F.draws, F.out, F.sess, F.groups, F.ring, F.pcieDma, F.pciePending, F.faults, F.vault, F.checkKey,
  F.storeKey, F.keyTests, F.keyRestart, F.keyScrub, F.saRecs, F.saCtxs, F.banks, F.pipe, F.clsx, F.queues, F.nodes,
  F.pairs, F.ports, F.laps, F.pmc, F.memRest, F.lc, F.la, F.keyScrubFrom, F.keyReseed, F.keyRequests]

theorem Device.rxUnder_keeps {W : List Nat} {a : Device} {d : Device} {f : Frame} {sa : Nat} (hW : Sub Touch.rxUnder W) (h : Keeps W a d) :
    Keeps W a (Device.rxUnder d f sa) := by
  unfold Device.rxUnder
  try dsimp only
  repeat' first
    | with_reducible exact h | with_reducible apply Keeps.ite
    | with_reducible refine Device.keyLookup_keeps (subT (by decide +kernel) hW) ?_
    | with_reducible refine Device.rxLate_keeps (subT (by decide +kernel) hW) ?_
    | with_reducible refine Device.rxAdmit_keeps (subT (by decide +kernel) hW) ?_ | with_reducible apply Keeps.ite2
    | split

def Touch.rxInSc : List Nat :=
  [O.LOCK, O.GROUP_OWNER, O.GROUP_STATE, O.GROUP_WRITES, O.GROUP_FAIL_ADDRESS, O.GROUP_FLAGS, O.SESSION_STATE,
  O.SESSION_ROLE, O.SESSION_CA, O.SESSION_ID, O.SESSION_LAST_COUNTER, O.ROLE_ROOT, O.RING_ENABLE, O.RING_HEAD,
  O.RING_TAIL, O.RING_STATE, O.RING_COMPLETED, O.RING_REJECTED, O.INJECT_REFUSED, O.MODE, O.MODE_CMD,
  O.MODE_ENTERED_AT, O.MODE_CAUSE, O.RUNAHEAD_FALSE_STARTS, O.RUNAHEAD_WASTED_CELLS, O.BANK_DISCARDS,
  O.BANK_KS_HITS, O.BANK_KS_MISSES, O.VAULT_STATE, O.VAULT_HANDLE, O.VAULT_LEVEL, O.VAULT_PURPOSE,
  O.VAULT_KEY_BITS, O.VAULT_COUNTED, O.VAULT_USES_LEFT, O.VAULT_ORIGIN, O.VAULT_PARENT, O.VAULT_CREATED_AT,
  O.VAULT_ARG_KEY, O.VAULT_CMD, O.VAULT_RESULT_HANDLE, O.DRBG_STATE, O.LA_CONTEXTS_BUSY, O.GUN_STATE, O.GUN_OWNER,
  O.GUN_FLAGS, O.PORT_RX_FRAMES, O.PORT_RX_BYTES, O.PORT_RX_FCS_ERRORS, O.PORT_RX_OVERSIZE, O.PORT_TX_FRAMES,
  O.PORT_TX_BYTES, O.PORT_TX_TRUNCATED, O.PORT_FC_TX_XOFF_C0, O.PORT_FC_TX_XOFF_C1, O.PORT_FC_TX_XOFF_C2,
  O.PORT_FC_TX_XOFF_C3, O.PORT_FC_TX_XOFF_C4, O.PORT_FC_TX_XOFF_C5, O.PORT_FC_TX_XOFF_C6, O.PORT_FC_TX_XOFF_C7,
  O.PIPE_FORCED_SAF, O.SC_STATUS, O.SC_RX_NO_SA, O.SC_RX_LATE, O.SC_RX_TAG_MISMATCH, O.SC_BAD_KEY_DROPS,
  O.SA_STATE, O.SA_KEK, O.SA_SLOT, O.SA_FLAGS, O.SA_CHANGED_AT, O.SCSA_SLOT0_ROW, O.SCSA_SLOT1_ROW,
  O.SCSA_IN_FORCE_AN, O.SCSA_ZONE_OPEN, O.SA_STAT_PKTS, O.SA_STAT_OCTETS, O.SA_STAT_PKTS_ENCRYPTED,
  O.SA_STAT_NOT_VALID, O.SA_STAT_COMMIT_LATE, O.SA_STAT_TX_LOST, O.MP_RX_BAD_TAG, O.LEARN_OVERFLOW_DROPS,
  O.LEARN_UNPINNED, O.LEARN_CONFLICTS, O.CALLROOM_OCCUPANCY, O.CALLROOM_PEAK, O.QUEUE_OCCUPANCY, O.QUEUE_NODE,
  O.POL_RED_FRAMES, O.POL_RED_BYTES, O.POL_YELLOW_FRAMES, O.POL_YELLOW_BYTES, O.QUEUE_DROP_FRAMES,
  O.QUEUE_DROP_BYTES, O.BUFP_USED_CELLS, O.BUFP_PEAK_CELLS, O.BUF_HEADROOM_USED, O.BUF_HEADROOM_DROPS,
  O.MEM_NODE_FAILS, O.MEM_CTR_READONLY, O.MEM_TREE_HITS, O.MEM_TREE_MISSES, O.FLT_SRC_CLASS, O.FLT_SRC_EVENTS,
  O.FLT_SRC_LAST_AT, O.FLT_STATUS, O.FLT_FATAL_SINCE_BOOT, O.FLT_LOG_LAST_SEQ, O.FLT_LOG_OVERWRITTEN,
  O.FLT_EVENT_LOST, O.FLT_FIRST_SEVERE, O.FLT_LOG_RECORD, O.PMC_VALUE, O.PMC_STATUS, O.PEER_KEY, F.mode, F.cyc,
  F.clk, F.draws, F.out, F.sess, F.groups, F.ring, F.pcieDma, F.pciePending, F.faults, F.vault, F.checkKey,
  F.storeKey, F.keyTests, F.keyRestart, F.keyScrub, F.saRecs, F.saCtxs, F.banks, F.pipe, F.clsx, F.queues, F.nodes,
  F.pairs, F.ports, F.laps, F.pmc, F.memRest, F.lc, F.la, F.keyScrubFrom, F.keyReseed, F.keyRequests]

theorem Device.rxInSc_keeps {W : List Nat} {a : Device} {d : Device} {f : Frame} (hW : Sub Touch.rxInSc W) (h : Keeps W a d) :
    Keeps W a (Device.rxInSc d f) := by
  unfold Device.rxInSc
  try dsimp only
  repeat' first
    | with_reducible exact h | exact memT (by decide +kernel) hW | with_reducible apply Keeps.ite
    | with_reducible refine Device.inc64_keeps ?_ ?_
    | with_reducible refine Device.dropWhole_keeps (subT (by decide +kernel) hW) ?_
    | with_reducible refine Device.dropQuiet_keeps (subT (by decide +kernel) hW) ?_
    | with_reducible refine Device.rxUnder_keeps (subT (by decide +kernel) hW) ?_ | split

def Touch.noSc : List Nat :=
  [O.RUNAHEAD_FALSE_STARTS, O.RUNAHEAD_WASTED_CELLS, O.PORT_FC_TX_XOFF_C0, O.PORT_FC_TX_XOFF_C1,
  O.PORT_FC_TX_XOFF_C2, O.PORT_FC_TX_XOFF_C3, O.PORT_FC_TX_XOFF_C4, O.PORT_FC_TX_XOFF_C5, O.PORT_FC_TX_XOFF_C6,
  O.PORT_FC_TX_XOFF_C7, O.SA_STAT_TX_LOST, O.MP_RX_NO_SC, O.CALLROOM_OCCUPANCY, O.CALLROOM_PEAK, O.QUEUE_OCCUPANCY,
  O.QUEUE_NODE, O.BUFP_USED_CELLS, O.BUF_HEADROOM_USED, O.PMC_VALUE, O.PMC_STATUS, F.out, F.pciePending, F.pipe,
  F.queues, F.nodes, F.pairs, F.ports, F.laps, F.pmc]

theorem Device.noSc_keeps {W : List Nat} {a : Device} {d : Device} {f : Frame} (hW : Sub Touch.noSc W) (h : Keeps W a d) :
    Keeps W a (Device.noSc d f) := by
  unfold Device.noSc
  try dsimp only
  repeat' first
    | with_reducible exact h | exact memT (by decide +kernel) hW | with_reducible refine Device.inc64_keeps ?_ ?_
    | with_reducible refine Device.dropQuiet_keeps (subT (by decide +kernel) hW) ?_

def Touch.applySci : List Nat :=
  [O.LOCK, O.GROUP_OWNER, O.GROUP_STATE, O.GROUP_WRITES, O.GROUP_FAIL_ADDRESS, O.GROUP_FLAGS, O.SESSION_STATE,
  O.SESSION_ROLE, O.SESSION_CA, O.SESSION_ID, O.SESSION_LAST_COUNTER, O.ROLE_ROOT, O.RING_ENABLE, O.RING_HEAD,
  O.RING_TAIL, O.RING_STATE, O.RING_COMPLETED, O.RING_REJECTED, O.INJECT_REFUSED, O.MODE, O.MODE_CMD,
  O.MODE_ENTERED_AT, O.MODE_CAUSE, O.RUNAHEAD_FALSE_STARTS, O.RUNAHEAD_WASTED_CELLS, O.BANK_DISCARDS,
  O.BANK_KS_HITS, O.BANK_KS_MISSES, O.VAULT_STATE, O.VAULT_HANDLE, O.VAULT_LEVEL, O.VAULT_PURPOSE,
  O.VAULT_KEY_BITS, O.VAULT_COUNTED, O.VAULT_USES_LEFT, O.VAULT_ORIGIN, O.VAULT_PARENT, O.VAULT_CREATED_AT,
  O.VAULT_ARG_KEY, O.VAULT_CMD, O.VAULT_RESULT_HANDLE, O.DRBG_STATE, O.LA_CONTEXTS_BUSY, O.GUN_STATE, O.GUN_OWNER,
  O.GUN_FLAGS, O.PORT_RX_FRAMES, O.PORT_RX_BYTES, O.PORT_RX_FCS_ERRORS, O.PORT_RX_OVERSIZE, O.PORT_TX_FRAMES,
  O.PORT_TX_BYTES, O.PORT_TX_TRUNCATED, O.PORT_FC_TX_XOFF_C0, O.PORT_FC_TX_XOFF_C1, O.PORT_FC_TX_XOFF_C2,
  O.PORT_FC_TX_XOFF_C3, O.PORT_FC_TX_XOFF_C4, O.PORT_FC_TX_XOFF_C5, O.PORT_FC_TX_XOFF_C6, O.PORT_FC_TX_XOFF_C7,
  O.PIPE_FORCED_SAF, O.SC_STATUS, O.SC_RX_NO_SA, O.SC_RX_LATE, O.SC_RX_TAG_MISMATCH, O.SC_BAD_KEY_DROPS,
  O.SA_STATE, O.SA_KEK, O.SA_SLOT, O.SA_FLAGS, O.SA_CHANGED_AT, O.SCSA_SLOT0_ROW, O.SCSA_SLOT1_ROW,
  O.SCSA_IN_FORCE_AN, O.SCSA_ZONE_OPEN, O.SA_STAT_PKTS, O.SA_STAT_OCTETS, O.SA_STAT_PKTS_ENCRYPTED,
  O.SA_STAT_NOT_VALID, O.SA_STAT_COMMIT_LATE, O.SA_STAT_TX_LOST, O.MP_RX_BAD_TAG, O.MP_RX_NO_SC,
  O.LEARN_OVERFLOW_DROPS, O.LEARN_UNPINNED, O.LEARN_CONFLICTS, O.CALLROOM_OCCUPANCY, O.CALLROOM_PEAK,
  O.CLS_WRONG_SLICE, O.QUEUE_OCCUPANCY, O.QUEUE_NODE, O.POL_RED_FRAMES, O.POL_RED_BYTES, O.POL_YELLOW_FRAMES,
  O.POL_YELLOW_BYTES, O.QUEUE_DROP_FRAMES, O.QUEUE_DROP_BYTES, O.BUFP_USED_CELLS, O.BUFP_PEAK_CELLS,
  O.BUF_HEADROOM_USED, O.BUF_HEADROOM_DROPS, O.MEM_NODE_FAILS, O.MEM_CTR_READONLY, O.MEM_TREE_HITS,
  O.MEM_TREE_MISSES, O.FLT_SRC_CLASS, O.FLT_SRC_EVENTS, O.FLT_SRC_LAST_AT, O.FLT_STATUS, O.FLT_FATAL_SINCE_BOOT,
  O.FLT_LOG_LAST_SEQ, O.FLT_LOG_OVERWRITTEN, O.FLT_EVENT_LOST, O.FLT_FIRST_SEVERE, O.FLT_LOG_RECORD, O.PMC_VALUE,
  O.PMC_STATUS, O.PEER_KEY, F.mode, F.cyc, F.clk, F.draws, F.out, F.sess, F.groups, F.ring, F.pcieDma,
  F.pciePending, F.faults, F.vault, F.checkKey, F.storeKey, F.keyTests, F.keyRestart, F.keyScrub, F.saRecs,
  F.saCtxs, F.banks, F.pipe, F.clsx, F.queues, F.nodes, F.pairs, F.ports, F.laps, F.pmc, F.memRest, F.lc, F.la,
  F.keyScrubFrom, F.keyReseed, F.keyRequests]

theorem Device.applySci_keeps {W : List Nat} {a : Device} {d : Device} {f : Frame} {r : Nat} (hW : Sub Touch.applySci W) (h : Keeps W a d) :
    Keeps W a (Device.applySci d f r) := by
  unfold Device.applySci
  try dsimp only
  repeat' first
    | with_reducible exact h | exact memT (by decide +kernel) hW | with_reducible apply Keeps.ite
    | with_reducible refine Device.inc64_keeps ?_ ?_
    | with_reducible refine Device.noSc_keeps (subT (by decide +kernel) hW) ?_
    | with_reducible refine Device.rxInSc_keeps (subT (by decide +kernel) hW) ?_ | split

def Touch.classified : List Nat :=
  [O.LOCK, O.GROUP_OWNER, O.GROUP_STATE, O.GROUP_WRITES, O.GROUP_FAIL_ADDRESS, O.GROUP_FLAGS, O.SESSION_STATE,
  O.SESSION_ROLE, O.SESSION_CA, O.SESSION_ID, O.SESSION_LAST_COUNTER, O.ROLE_ROOT, O.RING_ENABLE, O.RING_HEAD,
  O.RING_TAIL, O.RING_STATE, O.RING_COMPLETED, O.RING_REJECTED, O.PUNT_RATE_DROPS, O.PUNT_RING_DROPS,
  O.INJECT_REFUSED, O.MODE, O.MODE_CMD, O.MODE_ENTERED_AT, O.MODE_CAUSE, O.RUNAHEAD_FALSE_STARTS,
  O.RUNAHEAD_WASTED_CELLS, O.BANK_DISCARDS, O.BANK_KS_HITS, O.BANK_KS_MISSES, O.VAULT_STATE, O.VAULT_HANDLE,
  O.VAULT_LEVEL, O.VAULT_PURPOSE, O.VAULT_KEY_BITS, O.VAULT_COUNTED, O.VAULT_USES_LEFT, O.VAULT_ORIGIN,
  O.VAULT_PARENT, O.VAULT_CREATED_AT, O.VAULT_ARG_KEY, O.VAULT_CMD, O.VAULT_RESULT_HANDLE, O.DRBG_STATE,
  O.LA_CONTEXTS_BUSY, O.GUN_STATE, O.GUN_OWNER, O.GUN_FLAGS, O.PORT_RX_FRAMES, O.PORT_RX_BYTES,
  O.PORT_RX_FCS_ERRORS, O.PORT_RX_OVERSIZE, O.PORT_TX_FRAMES, O.PORT_TX_BYTES, O.PORT_TX_TRUNCATED,
  O.PORT_FC_TX_XOFF_C0, O.PORT_FC_TX_XOFF_C1, O.PORT_FC_TX_XOFF_C2, O.PORT_FC_TX_XOFF_C3, O.PORT_FC_TX_XOFF_C4,
  O.PORT_FC_TX_XOFF_C5, O.PORT_FC_TX_XOFF_C6, O.PORT_FC_TX_XOFF_C7, O.PIPE_FORCED_SAF, O.SC_STATUS,
  O.SC_TX_NO_SA_DROPS, O.SC_RX_NO_SA, O.SC_RX_LATE, O.SC_RX_TAG_MISMATCH, O.SC_BAD_KEY_DROPS, O.SA_STATE, O.SA_KEK,
  O.SA_SLOT, O.SA_FLAGS, O.SA_CHANGED_AT, O.SCSA_SLOT0_ROW, O.SCSA_SLOT1_ROW, O.SCSA_IN_FORCE_AN, O.SCSA_ZONE_OPEN,
  O.SA_STAT_PKTS, O.SA_STAT_OCTETS, O.SA_STAT_PKTS_ENCRYPTED, O.SA_STAT_NOT_VALID, O.SA_STAT_COMMIT_LATE,
  O.SA_STAT_TX_LOST, O.MP_NO_RESULT_DROPS, O.MP_POLICY_DROPS, O.MP_RX_BAD_TAG, O.MP_RX_NO_SC,
  O.LEARN_OVERFLOW_DROPS, O.LEARN_UNPINNED, O.LEARN_CONFLICTS, O.CALLROOM_OCCUPANCY, O.CALLROOM_PEAK,
  O.CLS_WRONG_SLICE, O.QUEUE_OCCUPANCY, O.QUEUE_NODE, O.POL_RED_FRAMES, O.POL_RED_BYTES, O.POL_YELLOW_FRAMES,
  O.POL_YELLOW_BYTES, O.QUEUE_DROP_FRAMES, O.QUEUE_DROP_BYTES, O.BUFP_USED_CELLS, O.BUFP_PEAK_CELLS,
  O.BUF_HEADROOM_USED, O.BUF_HEADROOM_DROPS, O.BUF_PUNT_FULL_DROPS, O.MEM_NODE_FAILS, O.MEM_CTR_READONLY,
  O.MEM_TREE_HITS, O.MEM_TREE_MISSES, O.FLT_SRC_CLASS, O.FLT_SRC_EVENTS, O.FLT_SRC_LAST_AT, O.FLT_STATUS,
  O.FLT_FATAL_SINCE_BOOT, O.FLT_LOG_LAST_SEQ, O.FLT_LOG_OVERWRITTEN, O.FLT_EVENT_LOST, O.FLT_FIRST_SEVERE,
  O.FLT_LOG_RECORD, O.PMC_VALUE, O.PMC_STATUS, O.PEER_KEY, F.mode, F.cyc, F.clk, F.draws, F.out, F.sess, F.groups,
  F.ring, F.pcieDma, F.pciePending, F.faults, F.vault, F.checkKey, F.storeKey, F.keyTests, F.keyRestart,
  F.keyScrub, F.saRecs, F.saCtxs, F.banks, F.pipe, F.clsx, F.queues, F.nodes, F.pairs, F.ports, F.laps, F.pmc,
  F.memRest, F.lc, F.la, F.keyScrubFrom, F.keyReseed, F.keyRequests]

theorem Device.classified_keeps {W : List Nat} {a : Device} {d : Device} {f : Frame} {r : Option Nat} (hW : Sub Touch.classified W) (h : Keeps W a d) :
    Keeps W a (Device.classified d f r) := by
  unfold Device.classified
  try dsimp only
  repeat' first
    | with_reducible exact h | with_reducible assumption | with_reducible apply Keeps.ite
    | with_reducible apply Keeps.elim | with_reducible refine Device.noSc_keeps (subT (by decide +kernel) hW) ?_
    | with_reducible refine Device.applySci_keeps (subT (by decide +kernel) hW) ?_
    | with_reducible refine Device.noResult_keeps (subT (by decide +kernel) hW) ?_
    | with_reducible refine Device.applyResult_keeps (subT (by decide +kernel) hW) ?_ | intro _ _ hq | intro _
    | split

def Touch.roomDrop : List Nat :=
  [O.RUNAHEAD_FALSE_STARTS, O.RUNAHEAD_WASTED_CELLS, O.PORT_FC_TX_XOFF_C0, O.PORT_FC_TX_XOFF_C1,
  O.PORT_FC_TX_XOFF_C2, O.PORT_FC_TX_XOFF_C3, O.PORT_FC_TX_XOFF_C4, O.PORT_FC_TX_XOFF_C5, O.PORT_FC_TX_XOFF_C6,
  O.PORT_FC_TX_XOFF_C7, O.SA_STAT_TX_LOST, O.CALLROOM_OCCUPANCY, O.CALLROOM_PEAK, O.CALLROOM_FULL_DROPS,
  O.QUEUE_OCCUPANCY, O.QUEUE_NODE, O.BUFP_USED_CELLS, O.BUF_HEADROOM_USED, O.PMC_VALUE, O.PMC_STATUS, F.out,
  F.pciePending, F.pipe, F.queues, F.nodes, F.pairs, F.ports, F.laps, F.pmc]

theorem Device.roomDrop_keeps {W : List Nat} {a : Device} {d : Device} {f : Frame} (hW : Sub Touch.roomDrop W) (h : Keeps W a d) :
    Keeps W a (Device.roomDrop d f) := by
  unfold Device.roomDrop
  try dsimp only
  repeat' first
    | with_reducible exact h | exact memT (by decide +kernel) hW | with_reducible refine Device.inc64_keeps ?_ ?_
    | with_reducible refine Device.dropQuiet_keeps (subT (by decide +kernel) hW) ?_

def Touch.park : List Nat :=
  [O.LOCK, O.GROUP_OWNER, O.GROUP_STATE, O.GROUP_WRITES, O.GROUP_FAIL_ADDRESS, O.GROUP_FLAGS, O.SESSION_STATE,
  O.SESSION_ROLE, O.SESSION_CA, O.SESSION_ID, O.SESSION_LAST_COUNTER, O.ROLE_ROOT, O.RING_ENABLE, O.RING_HEAD,
  O.RING_TAIL, O.RING_STATE, O.RING_COMPLETED, O.RING_REJECTED, O.INJECT_REFUSED, O.MODE, O.MODE_CMD,
  O.MODE_ENTERED_AT, O.MODE_CAUSE, O.RUNAHEAD_FALSE_STARTS, O.RUNAHEAD_WASTED_CELLS, O.BANK_DISCARDS,
  O.VAULT_STATE, O.VAULT_HANDLE, O.VAULT_LEVEL, O.VAULT_PURPOSE, O.VAULT_KEY_BITS, O.VAULT_COUNTED,
  O.VAULT_USES_LEFT, O.VAULT_ORIGIN, O.VAULT_PARENT, O.VAULT_CREATED_AT, O.VAULT_ARG_KEY, O.VAULT_CMD,
  O.VAULT_RESULT_HANDLE, O.DRBG_STATE, O.LA_CONTEXTS_BUSY, O.GUN_STATE, O.GUN_OWNER, O.GUN_FLAGS, O.PORT_TX_FRAMES,
  O.PORT_TX_BYTES, O.PORT_TX_TRUNCATED, O.PORT_FC_TX_XOFF_C0, O.PORT_FC_TX_XOFF_C1, O.PORT_FC_TX_XOFF_C2,
  O.PORT_FC_TX_XOFF_C3, O.PORT_FC_TX_XOFF_C4, O.PORT_FC_TX_XOFF_C5, O.PORT_FC_TX_XOFF_C6, O.PORT_FC_TX_XOFF_C7,
  O.CALLROOM_PARKED, O.SC_STATUS, O.SA_STATE, O.SA_KEK, O.SA_SLOT, O.SA_FLAGS, O.SA_CHANGED_AT, O.SCSA_SLOT0_ROW,
  O.SCSA_SLOT1_ROW, O.SCSA_IN_FORCE_AN, O.SCSA_ZONE_OPEN, O.SA_STAT_PKTS, O.SA_STAT_OCTETS,
  O.SA_STAT_PKTS_ENCRYPTED, O.SA_STAT_NOT_VALID, O.SA_STAT_COMMIT_LATE, O.SA_STAT_TX_LOST, O.CALLROOM_OCCUPANCY,
  O.CALLROOM_PEAK, O.CALLROOM_FULL_DROPS, O.CLS_CACHE_HITS, O.CLS_CACHE_MISSES, O.QUEUE_OCCUPANCY, O.QUEUE_NODE,
  O.BUFP_USED_CELLS, O.BUF_HEADROOM_USED, O.MEM_CH_CORRECTED, O.MEM_CH_UNCORRECTABLE, O.MEM_TAG_FAILS,
  O.MEM_NODE_FAILS, O.MEM_CTR_READONLY, O.MEM_POISON_COUNT, O.MEM_TREE_HITS, O.MEM_TREE_MISSES, O.MEM_SCRUB_PASSES,
  O.MEM_POISON_OFFSET, O.MEM_POISON_AT, O.MEM_POISON_CAUSE, O.FLT_SRC_CLASS, O.FLT_SRC_EVENTS, O.FLT_SRC_LAST_AT,
  O.FLT_STATUS, O.FLT_FATAL_SINCE_BOOT, O.FLT_LOG_LAST_SEQ, O.FLT_LOG_OVERWRITTEN, O.FLT_EVENT_LOST,
  O.FLT_FIRST_SEVERE, O.FLT_LOG_RECORD, O.PMC_VALUE, O.PMC_STATUS, O.PEER_KEY, F.mode, F.draws, F.out, F.sess,
  F.groups, F.ring, F.pcieDma, F.pciePending, F.faults, F.vault, F.checkKey, F.storeKey, F.keyTests, F.keyRestart,
  F.keyScrub, F.saRecs, F.saCtxs, F.banks, F.pipe, F.clsx, F.queues, F.nodes, F.pairs, F.ports, F.laps, F.pmc,
  F.memCells, F.memRest, F.lc, F.la, F.keyScrubFrom, F.keyReseed, F.keyRequests]

theorem Device.park_keeps {W : List Nat} {a : Device} {d : Device} {f : Frame} (hW : Sub Touch.park W) (h : Keeps W a d) :
    Keeps W a (Device.park d f) := by
  unfold Device.park
  try dsimp only
  repeat' first
    | with_reducible exact h | exact memT (by decide +kernel) hW | with_reducible apply Keeps.ite
    | with_reducible refine Device.roomDrop_keeps (subT (by decide +kernel) hW) ?_
    | with_reducible refine Device.setFrame_keeps (subT (by decide +kernel) hW) ?_
    | with_reducible refine Device.inc64_keeps ?_ ?_
    | with_reducible refine Device.pmcSlice_keeps (subT (by decide +kernel) hW) ?_
    | with_reducible refine Device.callroomRecount_keeps (subT (by decide +kernel) hW) ?_
    | with_reducible refine Device.lookupUnits_keeps (subT (by decide +kernel) hW) ?_
    | with_reducible refine Device.memRequest_keeps (subT (by decide +kernel) hW) ?_
    | with_reducible refine Device.lookup_keeps (subT (by decide +kernel) hW) ?_ | with_reducible apply Keeps.ite2
    | split

def Touch.waitRoom : List Nat :=
  Touch.roomDrop

theorem Device.waitRoom_keeps {W : List Nat} {a : Device} {d : Device} {f : Frame} {r : Option Nat} (hW : Sub Touch.waitRoom W) (h : Keeps W a d) :
    Keeps W a (Device.waitRoom d f r) := by
  unfold Device.waitRoom
  try dsimp only
  repeat' first
    | with_reducible exact h | with_reducible apply Keeps.ite
    | with_reducible refine Device.roomDrop_keeps (subT (by decide +kernel) hW) ?_
    | with_reducible refine Device.setFrame_keeps (subT (by decide +kernel) hW) ?_
    | with_reducible refine Device.callroomRecount_keeps (subT (by decide +kernel) hW) ?_ | split

def Touch.logOvertake : List Nat :=
  [F.pipe]

theorem Device.logOvertake_keeps {W : List Nat} {a : Device} {d : Device} {f : Frame} {r : Option Nat} (hW : Sub Touch.logOvertake W) (h : Keeps W a d) :
    Keeps W a (Device.logOvertake d f r) := by
  unfold Device.logOvertake
  try dsimp only
  repeat' first
    | with_reducible exact h | with_reducible refine Device.setPipe_keeps (subT (by decide +kernel) hW) ?_

def Touch.looked : List Nat :=
  [O.LOCK, O.GROUP_OWNER, O.GROUP_STATE, O.GROUP_WRITES, O.GROUP_FAIL_ADDRESS, O.GROUP_FLAGS, O.SESSION_STATE,
  O.SESSION_ROLE, O.SESSION_CA, O.SESSION_ID, O.SESSION_LAST_COUNTER, O.ROLE_ROOT, O.RING_ENABLE, O.RING_HEAD,
  O.RING_TAIL, O.RING_STATE, O.RING_COMPLETED, O.RING_REJECTED, O.PUNT_RATE_DROPS, O.PUNT_RING_DROPS,
  O.INJECT_REFUSED, O.MODE, O.MODE_CMD, O.MODE_ENTERED_AT, O.MODE_CAUSE, O.RUNAHEAD_FALSE_STARTS,
  O.RUNAHEAD_WASTED_CELLS, O.BANK_DISCARDS, O.BANK_KS_HITS, O.BANK_KS_MISSES, O.VAULT_STATE, O.VAULT_HANDLE,
  O.VAULT_LEVEL, O.VAULT_PURPOSE, O.VAULT_KEY_BITS, O.VAULT_COUNTED, O.VAULT_USES_LEFT, O.VAULT_ORIGIN,
  O.VAULT_PARENT, O.VAULT_CREATED_AT, O.VAULT_ARG_KEY, O.VAULT_CMD, O.VAULT_RESULT_HANDLE, O.DRBG_STATE,
  O.LA_CONTEXTS_BUSY, O.GUN_STATE, O.GUN_OWNER, O.GUN_FLAGS, O.PORT_RX_FRAMES, O.PORT_RX_BYTES,
  O.PORT_RX_FCS_ERRORS, O.PORT_RX_OVERSIZE, O.PORT_TX_FRAMES, O.PORT_TX_BYTES, O.PORT_TX_TRUNCATED,
  O.PORT_FC_TX_XOFF_C0, O.PORT_FC_TX_XOFF_C1, O.PORT_FC_TX_XOFF_C2, O.PORT_FC_TX_XOFF_C3, O.PORT_FC_TX_XOFF_C4,
  O.PORT_FC_TX_XOFF_C5, O.PORT_FC_TX_XOFF_C6, O.PORT_FC_TX_XOFF_C7, O.PIPE_FORCED_SAF, O.CALLROOM_PARKED,
  O.SC_STATUS, O.SC_TX_NO_SA_DROPS, O.SC_RX_NO_SA, O.SC_RX_LATE, O.SC_RX_TAG_MISMATCH, O.SC_BAD_KEY_DROPS,
  O.SA_STATE, O.SA_KEK, O.SA_SLOT, O.SA_FLAGS, O.SA_CHANGED_AT, O.SCSA_SLOT0_ROW, O.SCSA_SLOT1_ROW,
  O.SCSA_IN_FORCE_AN, O.SCSA_ZONE_OPEN, O.SA_STAT_PKTS, O.SA_STAT_OCTETS, O.SA_STAT_PKTS_ENCRYPTED,
  O.SA_STAT_NOT_VALID, O.SA_STAT_COMMIT_LATE, O.SA_STAT_TX_LOST, O.MP_NO_RESULT_DROPS, O.MP_POLICY_DROPS,
  O.MP_RX_BAD_TAG, O.MP_RX_NO_SC, O.LEARN_OVERFLOW_DROPS, O.LEARN_UNPINNED, O.LEARN_CONFLICTS,
  O.CALLROOM_OCCUPANCY, O.CALLROOM_PEAK, O.CALLROOM_FULL_DROPS, O.CLS_WRONG_SLICE, O.CLS_CACHE_HITS,
  O.CLS_CACHE_MISSES, O.QUEUE_OCCUPANCY, O.QUEUE_NODE, O.POL_RED_FRAMES, O.POL_RED_BYTES, O.POL_YELLOW_FRAMES,
  O.POL_YELLOW_BYTES, O.QUEUE_DROP_FRAMES, O.QUEUE_DROP_BYTES, O.BUFP_USED_CELLS, O.BUFP_PEAK_CELLS,
  O.BUF_HEADROOM_USED, O.BUF_HEADROOM_DROPS, O.BUF_PUNT_FULL_DROPS, O.MEM_CH_CORRECTED, O.MEM_CH_UNCORRECTABLE,
  O.MEM_TAG_FAILS, O.MEM_NODE_FAILS, O.MEM_CTR_READONLY, O.MEM_POISON_COUNT, O.MEM_TREE_HITS, O.MEM_TREE_MISSES,
  O.MEM_SCRUB_PASSES, O.MEM_POISON_OFFSET, O.MEM_POISON_AT, O.MEM_POISON_CAUSE, O.FLT_SRC_CLASS, O.FLT_SRC_EVENTS,
  O.FLT_SRC_LAST_AT, O.FLT_STATUS, O.FLT_FATAL_SINCE_BOOT, O.FLT_LOG_LAST_SEQ, O.FLT_LOG_OVERWRITTEN,
  O.FLT_EVENT_LOST, O.FLT_FIRST_SEVERE, O.FLT_LOG_RECORD, O.PMC_VALUE, O.PMC_STATUS, O.PEER_KEY, F.mode, F.cyc,
  F.clk, F.draws, F.out, F.sess, F.groups, F.ring, F.pcieDma, F.pciePending, F.faults, F.vault, F.checkKey,
  F.storeKey, F.keyTests, F.keyRestart, F.keyScrub, F.saRecs, F.saCtxs, F.banks, F.pipe, F.clsx, F.queues, F.nodes,
  F.pairs, F.ports, F.laps, F.pmc, F.memCells, F.memRest, F.lc, F.la, F.keyScrubFrom, F.keyReseed, F.keyRequests]

theorem Device.looked_keeps {W : List Nat} {a : Device} {d : Device} {f : Frame} {res : Option (Option Nat)} (hW : Sub Touch.looked W) (h : Keeps W a d) :
    Keeps W a (Device.looked d f res) := by
  unfold Device.looked
  try dsimp only
  repeat' first
    | with_reducible exact h | with_reducible assumption | with_reducible apply Keeps.ite
    | with_reducible refine Device.park_keeps (subT (by decide +kernel) hW) ?_
    | with_reducible refine Device.classified_keeps (subT (by decide +kernel) hW) ?_
    | with_reducible refine Device.logOvertake_keeps (subT (by decide +kernel) hW) ?_
    | with_reducible refine Device.waitRoom_keeps (subT (by decide +kernel) hW) ?_ | split

def Touch.leaveRoom : List Nat :=
  [O.LOCK, O.GROUP_OWNER, O.GROUP_STATE, O.GROUP_WRITES, O.GROUP_FAIL_ADDRESS, O.GROUP_FLAGS, O.SESSION_STATE,
  O.SESSION_ROLE, O.SESSION_CA, O.SESSION_ID, O.SESSION_LAST_COUNTER, O.ROLE_ROOT, O.RING_ENABLE, O.RING_HEAD,
  O.RING_TAIL, O.RING_STATE, O.RING_COMPLETED, O.RING_REJECTED, O.PUNT_RATE_DROPS, O.PUNT_RING_DROPS,
  O.INJECT_REFUSED, O.MODE, O.MODE_CMD, O.MODE_ENTERED_AT, O.MODE_CAUSE, O.RUNAHEAD_FALSE_STARTS,
  O.RUNAHEAD_WASTED_CELLS, O.BANK_DISCARDS, O.BANK_KS_HITS, O.BANK_KS_MISSES, O.VAULT_STATE, O.VAULT_HANDLE,
  O.VAULT_LEVEL, O.VAULT_PURPOSE, O.VAULT_KEY_BITS, O.VAULT_COUNTED, O.VAULT_USES_LEFT, O.VAULT_ORIGIN,
  O.VAULT_PARENT, O.VAULT_CREATED_AT, O.VAULT_ARG_KEY, O.VAULT_CMD, O.VAULT_RESULT_HANDLE, O.DRBG_STATE,
  O.LA_CONTEXTS_BUSY, O.GUN_STATE, O.GUN_OWNER, O.GUN_FLAGS, O.PORT_RX_FRAMES, O.PORT_RX_BYTES,
  O.PORT_RX_FCS_ERRORS, O.PORT_RX_OVERSIZE, O.PORT_TX_FRAMES, O.PORT_TX_BYTES, O.PORT_TX_TRUNCATED,
  O.PORT_FC_TX_XOFF_C0, O.PORT_FC_TX_XOFF_C1, O.PORT_FC_TX_XOFF_C2, O.PORT_FC_TX_XOFF_C3, O.PORT_FC_TX_XOFF_C4,
  O.PORT_FC_TX_XOFF_C5, O.PORT_FC_TX_XOFF_C6, O.PORT_FC_TX_XOFF_C7, O.PIPE_FORCED_SAF, O.CALLROOM_ORDER_DROPS,
  O.SC_STATUS, O.SC_TX_NO_SA_DROPS, O.SC_RX_NO_SA, O.SC_RX_LATE, O.SC_RX_TAG_MISMATCH, O.SC_BAD_KEY_DROPS,
  O.SA_STATE, O.SA_KEK, O.SA_SLOT, O.SA_FLAGS, O.SA_CHANGED_AT, O.SCSA_SLOT0_ROW, O.SCSA_SLOT1_ROW,
  O.SCSA_IN_FORCE_AN, O.SCSA_ZONE_OPEN, O.SA_STAT_PKTS, O.SA_STAT_OCTETS, O.SA_STAT_PKTS_ENCRYPTED,
  O.SA_STAT_NOT_VALID, O.SA_STAT_COMMIT_LATE, O.SA_STAT_TX_LOST, O.MP_NO_RESULT_DROPS, O.MP_POLICY_DROPS,
  O.MP_RX_BAD_TAG, O.MP_RX_NO_SC, O.LEARN_OVERFLOW_DROPS, O.LEARN_UNPINNED, O.LEARN_CONFLICTS,
  O.CALLROOM_OCCUPANCY, O.CALLROOM_PEAK, O.CLS_WRONG_SLICE, O.QUEUE_OCCUPANCY, O.QUEUE_NODE, O.POL_RED_FRAMES,
  O.POL_RED_BYTES, O.POL_YELLOW_FRAMES, O.POL_YELLOW_BYTES, O.QUEUE_DROP_FRAMES, O.QUEUE_DROP_BYTES,
  O.BUFP_USED_CELLS, O.BUFP_PEAK_CELLS, O.BUF_HEADROOM_USED, O.BUF_HEADROOM_DROPS, O.BUF_PUNT_FULL_DROPS,
  O.MEM_NODE_FAILS, O.MEM_CTR_READONLY, O.MEM_TREE_HITS, O.MEM_TREE_MISSES, O.FLT_SRC_CLASS, O.FLT_SRC_EVENTS,
  O.FLT_SRC_LAST_AT, O.FLT_STATUS, O.FLT_FATAL_SINCE_BOOT, O.FLT_LOG_LAST_SEQ, O.FLT_LOG_OVERWRITTEN,
  O.FLT_EVENT_LOST, O.FLT_FIRST_SEVERE, O.FLT_LOG_RECORD, O.PMC_VALUE, O.PMC_STATUS, O.PEER_KEY, F.mode, F.cyc,
  F.clk, F.draws, F.out, F.sess, F.groups, F.ring, F.pcieDma, F.pciePending, F.faults, F.vault, F.checkKey,
  F.storeKey, F.keyTests, F.keyRestart, F.keyScrub, F.saRecs, F.saCtxs, F.banks, F.pipe, F.clsx, F.queues, F.nodes,
  F.pairs, F.ports, F.laps, F.pmc, F.memRest, F.lc, F.la, F.keyScrubFrom, F.keyReseed, F.keyRequests]

theorem Device.leaveRoom_keeps {W : List Nat} {a : Device} {d : Device} {f : Frame} {r : Option Nat} (hW : Sub Touch.leaveRoom W) (h : Keeps W a d) :
    Keeps W a (Device.leaveRoom d f r) := by
  unfold Device.leaveRoom
  try dsimp only
  repeat' first
    | with_reducible exact h | exact memT (by decide +kernel) hW | with_reducible apply Keeps.ite
    | with_reducible refine Device.setFrame_keeps (subT (by decide +kernel) hW) ?_
    | with_reducible refine Device.callroomRecount_keeps (subT (by decide +kernel) hW) ?_
    | with_reducible refine Device.dropWhole_keeps (subT (by decide +kernel) hW) ?_
    | with_reducible refine Device.pruneOvertake_keeps (subT (by decide +kernel) hW) ?_
    | with_reducible refine Device.inc64_keeps ?_ ?_
    | with_reducible refine Device.classified_keeps (subT (by decide +kernel) hW) ?_ | split

def Touch.resume : List Nat :=
  [O.LOCK, O.GROUP_OWNER, O.GROUP_STATE, O.GROUP_WRITES, O.GROUP_FAIL_ADDRESS, O.GROUP_FLAGS, O.SESSION_STATE,
  O.SESSION_ROLE, O.SESSION_CA, O.SESSION_ID, O.SESSION_LAST_COUNTER, O.ROLE_ROOT, O.RING_ENABLE, O.RING_HEAD,
  O.RING_TAIL, O.RING_STATE, O.RING_COMPLETED, O.RING_REJECTED, O.PUNT_RATE_DROPS, O.PUNT_RING_DROPS,
  O.INJECT_REFUSED, O.MODE, O.MODE_CMD, O.MODE_ENTERED_AT, O.MODE_CAUSE, O.RUNAHEAD_FALSE_STARTS,
  O.RUNAHEAD_WASTED_CELLS, O.BANK_DISCARDS, O.BANK_KS_HITS, O.BANK_KS_MISSES, O.VAULT_STATE, O.VAULT_HANDLE,
  O.VAULT_LEVEL, O.VAULT_PURPOSE, O.VAULT_KEY_BITS, O.VAULT_COUNTED, O.VAULT_USES_LEFT, O.VAULT_ORIGIN,
  O.VAULT_PARENT, O.VAULT_CREATED_AT, O.VAULT_ARG_KEY, O.VAULT_CMD, O.VAULT_RESULT_HANDLE, O.DRBG_STATE,
  O.LA_CONTEXTS_BUSY, O.GUN_STATE, O.GUN_OWNER, O.GUN_FLAGS, O.PORT_RX_FRAMES, O.PORT_RX_BYTES,
  O.PORT_RX_FCS_ERRORS, O.PORT_RX_OVERSIZE, O.PORT_TX_FRAMES, O.PORT_TX_BYTES, O.PORT_TX_TRUNCATED,
  O.PORT_FC_TX_XOFF_C0, O.PORT_FC_TX_XOFF_C1, O.PORT_FC_TX_XOFF_C2, O.PORT_FC_TX_XOFF_C3, O.PORT_FC_TX_XOFF_C4,
  O.PORT_FC_TX_XOFF_C5, O.PORT_FC_TX_XOFF_C6, O.PORT_FC_TX_XOFF_C7, O.PIPE_FORCED_SAF, O.CALLROOM_PARKED,
  O.CALLROOM_ORDER_DROPS, O.SC_STATUS, O.SC_TX_NO_SA_DROPS, O.SC_RX_NO_SA, O.SC_RX_LATE, O.SC_RX_TAG_MISMATCH,
  O.SC_BAD_KEY_DROPS, O.SA_STATE, O.SA_KEK, O.SA_SLOT, O.SA_FLAGS, O.SA_CHANGED_AT, O.SCSA_SLOT0_ROW,
  O.SCSA_SLOT1_ROW, O.SCSA_IN_FORCE_AN, O.SCSA_ZONE_OPEN, O.SA_STAT_PKTS, O.SA_STAT_OCTETS,
  O.SA_STAT_PKTS_ENCRYPTED, O.SA_STAT_NOT_VALID, O.SA_STAT_COMMIT_LATE, O.SA_STAT_TX_LOST, O.MP_NO_RESULT_DROPS,
  O.MP_POLICY_DROPS, O.MP_RX_BAD_TAG, O.MP_RX_NO_SC, O.LEARN_OVERFLOW_DROPS, O.LEARN_UNPINNED, O.LEARN_CONFLICTS,
  O.CALLROOM_OCCUPANCY, O.CALLROOM_PEAK, O.CALLROOM_FULL_DROPS, O.CLS_WRONG_SLICE, O.CLS_CACHE_HITS,
  O.CLS_CACHE_MISSES, O.QUEUE_OCCUPANCY, O.QUEUE_NODE, O.POL_RED_FRAMES, O.POL_RED_BYTES, O.POL_YELLOW_FRAMES,
  O.POL_YELLOW_BYTES, O.QUEUE_DROP_FRAMES, O.QUEUE_DROP_BYTES, O.BUFP_USED_CELLS, O.BUFP_PEAK_CELLS,
  O.BUF_HEADROOM_USED, O.BUF_HEADROOM_DROPS, O.BUF_PUNT_FULL_DROPS, O.MEM_CH_CORRECTED, O.MEM_CH_UNCORRECTABLE,
  O.MEM_TAG_FAILS, O.MEM_NODE_FAILS, O.MEM_CTR_READONLY, O.MEM_POISON_COUNT, O.MEM_TREE_HITS, O.MEM_TREE_MISSES,
  O.MEM_SCRUB_PASSES, O.MEM_POISON_OFFSET, O.MEM_POISON_AT, O.MEM_POISON_CAUSE, O.FLT_SRC_CLASS, O.FLT_SRC_EVENTS,
  O.FLT_SRC_LAST_AT, O.FLT_STATUS, O.FLT_FATAL_SINCE_BOOT, O.FLT_LOG_LAST_SEQ, O.FLT_LOG_OVERWRITTEN,
  O.FLT_EVENT_LOST, O.FLT_FIRST_SEVERE, O.FLT_LOG_RECORD, O.PMC_VALUE, O.PMC_STATUS, O.PEER_KEY, F.mode, F.cyc,
  F.clk, F.draws, F.out, F.sess, F.groups, F.ring, F.pcieDma, F.pciePending, F.faults, F.vault, F.checkKey,
  F.storeKey, F.keyTests, F.keyRestart, F.keyScrub, F.saRecs, F.saCtxs, F.banks, F.pipe, F.clsx, F.queues, F.nodes,
  F.pairs, F.ports, F.laps, F.pmc, F.memCells, F.memRest, F.lc, F.la, F.keyScrubFrom, F.keyReseed, F.keyRequests]

theorem Device.resume_keeps {W : List Nat} {a : Device} {x0 : Nat} {x1 : Nat} {d : Device} (hW : Sub Touch.resume W) (h : Keeps W a d) :
    Keeps W a (Device.resume x0 x1 d) := by
  induction x0 generalizing x1 d with
  | zero =>
    unfold Device.resume
    try dsimp only
    repeat' first
      | with_reducible exact h | with_reducible assumption | with_reducible apply Keeps.elim
      | with_reducible refine Device.looked_keeps (subT (by decide +kernel) hW) ?_
      | with_reducible refine Device.leaveRoom_keeps (subT (by decide +kernel) hW) ?_ | intro _ _ hq | intro _
      | split
  | succ _ ih =>
    unfold Device.resume
    try dsimp only
    repeat' first
      | with_reducible exact h | with_reducible apply ih | with_reducible assumption
      | with_reducible apply Keeps.elim | with_reducible refine Device.looked_keeps (subT (by decide +kernel) hW) ?_
      | with_reducible refine Device.leaveRoom_keeps (subT (by decide +kernel) hW) ?_ | intro _ _ hq | intro _
      | split

def Touch.lookupBack : List Nat :=
  Touch.resume

theorem Device.lookupBack_keeps {W : List Nat} {a : Device} {d : Device} {f : Frame} {x : LookupRead} {ok : Bool} (hW : Sub Touch.lookupBack W) (h : Keeps W a d) :
    Keeps W a (Device.lookupBack d f x ok) := by
  unfold Device.lookupBack
  try dsimp only
  repeat' first
    | with_reducible exact h | with_reducible refine Device.passTo_keeps (subT (by decide +kernel) hW) ?_
    | with_reducible refine Device.lookupReturn_keeps (subT (by decide +kernel) hW) ?_
    | with_reducible refine Device.setFrame_keeps (subT (by decide +kernel) hW) ?_
    | with_reducible refine Device.resume_keeps (subT (by decide +kernel) hW) ?_

def Touch.callroomLookupReturn : List Nat :=
  Touch.resume

theorem Device.callroomLookupReturn_keeps {W : List Nat} {a : Device} {id : Nat} {ok : Bool} {d : Device} (hW : Sub Touch.callroomLookupReturn W) (h : Keeps W a d) :
    Keeps W a (Device.callroomLookupReturn id ok d) := by
  unfold Device.callroomLookupReturn
  try dsimp only
  repeat' first
    | with_reducible exact h | with_reducible assumption | with_reducible apply Keeps.ite
    | with_reducible apply Keeps.elim | with_reducible refine Device.looked_keeps (subT (by decide +kernel) hW) ?_
    | with_reducible refine Device.lookupBack_keeps (subT (by decide +kernel) hW) ?_ | intro _ _ hq | intro _ | split

def Touch.callroomTimeout : List Nat :=
  [O.LOCK, O.GROUP_OWNER, O.GROUP_STATE, O.GROUP_WRITES, O.GROUP_FAIL_ADDRESS, O.GROUP_FLAGS, O.SESSION_STATE,
  O.SESSION_ROLE, O.SESSION_CA, O.SESSION_ID, O.SESSION_LAST_COUNTER, O.ROLE_ROOT, O.RING_ENABLE, O.RING_HEAD,
  O.RING_TAIL, O.RING_STATE, O.RING_COMPLETED, O.RING_REJECTED, O.PUNT_RATE_DROPS, O.PUNT_RING_DROPS,
  O.INJECT_REFUSED, O.MODE, O.MODE_CMD, O.MODE_ENTERED_AT, O.MODE_CAUSE, O.RUNAHEAD_FALSE_STARTS,
  O.RUNAHEAD_WASTED_CELLS, O.BANK_DISCARDS, O.BANK_KS_HITS, O.BANK_KS_MISSES, O.VAULT_STATE, O.VAULT_HANDLE,
  O.VAULT_LEVEL, O.VAULT_PURPOSE, O.VAULT_KEY_BITS, O.VAULT_COUNTED, O.VAULT_USES_LEFT, O.VAULT_ORIGIN,
  O.VAULT_PARENT, O.VAULT_CREATED_AT, O.VAULT_ARG_KEY, O.VAULT_CMD, O.VAULT_RESULT_HANDLE, O.DRBG_STATE,
  O.LA_CONTEXTS_BUSY, O.GUN_STATE, O.GUN_OWNER, O.GUN_FLAGS, O.PORT_RX_FRAMES, O.PORT_RX_BYTES,
  O.PORT_RX_FCS_ERRORS, O.PORT_RX_OVERSIZE, O.PORT_TX_FRAMES, O.PORT_TX_BYTES, O.PORT_TX_TRUNCATED,
  O.PORT_FC_TX_XOFF_C0, O.PORT_FC_TX_XOFF_C1, O.PORT_FC_TX_XOFF_C2, O.PORT_FC_TX_XOFF_C3, O.PORT_FC_TX_XOFF_C4,
  O.PORT_FC_TX_XOFF_C5, O.PORT_FC_TX_XOFF_C6, O.PORT_FC_TX_XOFF_C7, O.PIPE_FORCED_SAF, O.CALLROOM_PARKED,
  O.CALLROOM_ORDER_DROPS, O.CALLROOM_TIMEOUT_DROPS, O.SC_STATUS, O.SC_TX_NO_SA_DROPS, O.SC_RX_NO_SA, O.SC_RX_LATE,
  O.SC_RX_TAG_MISMATCH, O.SC_BAD_KEY_DROPS, O.SA_STATE, O.SA_KEK, O.SA_SLOT, O.SA_FLAGS, O.SA_CHANGED_AT,
  O.SCSA_SLOT0_ROW, O.SCSA_SLOT1_ROW, O.SCSA_IN_FORCE_AN, O.SCSA_ZONE_OPEN, O.SA_STAT_PKTS, O.SA_STAT_OCTETS,
  O.SA_STAT_PKTS_ENCRYPTED, O.SA_STAT_NOT_VALID, O.SA_STAT_COMMIT_LATE, O.SA_STAT_TX_LOST, O.MP_NO_RESULT_DROPS,
  O.MP_POLICY_DROPS, O.MP_RX_BAD_TAG, O.MP_RX_NO_SC, O.LEARN_OVERFLOW_DROPS, O.LEARN_UNPINNED, O.LEARN_CONFLICTS,
  O.CALLROOM_OCCUPANCY, O.CALLROOM_PEAK, O.CALLROOM_FULL_DROPS, O.CLS_WRONG_SLICE, O.CLS_CACHE_HITS,
  O.CLS_CACHE_MISSES, O.QUEUE_OCCUPANCY, O.QUEUE_NODE, O.POL_RED_FRAMES, O.POL_RED_BYTES, O.POL_YELLOW_FRAMES,
  O.POL_YELLOW_BYTES, O.QUEUE_DROP_FRAMES, O.QUEUE_DROP_BYTES, O.BUFP_USED_CELLS, O.BUFP_PEAK_CELLS,
  O.BUF_HEADROOM_USED, O.BUF_HEADROOM_DROPS, O.BUF_PUNT_FULL_DROPS, O.MEM_CH_CORRECTED, O.MEM_CH_UNCORRECTABLE,
  O.MEM_TAG_FAILS, O.MEM_NODE_FAILS, O.MEM_CTR_READONLY, O.MEM_POISON_COUNT, O.MEM_TREE_HITS, O.MEM_TREE_MISSES,
  O.MEM_SCRUB_PASSES, O.MEM_POISON_OFFSET, O.MEM_POISON_AT, O.MEM_POISON_CAUSE, O.FLT_SRC_CLASS, O.FLT_SRC_EVENTS,
  O.FLT_SRC_LAST_AT, O.FLT_STATUS, O.FLT_FATAL_SINCE_BOOT, O.FLT_LOG_LAST_SEQ, O.FLT_LOG_OVERWRITTEN,
  O.FLT_EVENT_LOST, O.FLT_FIRST_SEVERE, O.FLT_LOG_RECORD, O.PMC_VALUE, O.PMC_STATUS, O.PEER_KEY, F.mode, F.cyc,
  F.clk, F.draws, F.out, F.sess, F.groups, F.ring, F.pcieDma, F.pciePending, F.faults, F.vault, F.checkKey,
  F.storeKey, F.keyTests, F.keyRestart, F.keyScrub, F.saRecs, F.saCtxs, F.banks, F.pipe, F.clsx, F.queues, F.nodes,
  F.pairs, F.ports, F.laps, F.pmc, F.memCells, F.memRest, F.lc, F.la, F.keyScrubFrom, F.keyReseed, F.keyRequests]

theorem Device.callroomTimeout_keeps {W : List Nat} {a : Device} {id : Nat} {d : Device} (hW : Sub Touch.callroomTimeout W) (h : Keeps W a d) :
    Keeps W a (Device.callroomTimeout id d) := by
  unfold Device.callroomTimeout
  try dsimp only
  repeat' first
    | with_reducible exact h | with_reducible assumption | exact memT (by decide +kernel) hW
    | with_reducible apply Keeps.ite | with_reducible apply Keeps.elim
    | with_reducible refine Device.looked_keeps (subT (by decide +kernel) hW) ?_
    | with_reducible refine Device.passTo_keeps (subT (by decide +kernel) hW) ?_
    | with_reducible refine Device.inc64_keeps ?_ ?_
    | with_reducible refine Device.dropQuiet_keeps (subT (by decide +kernel) hW) ?_
    | with_reducible refine Device.resume_keeps (subT (by decide +kernel) hW) ?_ | intro _ _ hq | intro _ | split

def Touch.parseClear : List Nat :=
  [O.LOCK, O.GROUP_OWNER, O.GROUP_STATE, O.GROUP_WRITES, O.GROUP_FAIL_ADDRESS, O.GROUP_FLAGS, O.SESSION_STATE,
  O.SESSION_ROLE, O.SESSION_CA, O.SESSION_ID, O.SESSION_LAST_COUNTER, O.ROLE_ROOT, O.RING_ENABLE, O.RING_HEAD,
  O.RING_TAIL, O.RING_STATE, O.RING_COMPLETED, O.RING_REJECTED, O.PUNT_RATE_DROPS, O.PUNT_RING_DROPS,
  O.INJECT_REFUSED, O.MODE, O.MODE_CMD, O.MODE_ENTERED_AT, O.MODE_CAUSE, O.RUNAHEAD_FALSE_STARTS,
  O.RUNAHEAD_WASTED_CELLS, O.BANK_DISCARDS, O.BANK_KS_HITS, O.BANK_KS_MISSES, O.VAULT_STATE, O.VAULT_HANDLE,
  O.VAULT_LEVEL, O.VAULT_PURPOSE, O.VAULT_KEY_BITS, O.VAULT_COUNTED, O.VAULT_USES_LEFT, O.VAULT_ORIGIN,
  O.VAULT_PARENT, O.VAULT_CREATED_AT, O.VAULT_ARG_KEY, O.VAULT_CMD, O.VAULT_RESULT_HANDLE, O.DRBG_STATE,
  O.LA_CONTEXTS_BUSY, O.GUN_STATE, O.GUN_OWNER, O.GUN_FLAGS, O.PORT_RX_FRAMES, O.PORT_RX_BYTES,
  O.PORT_RX_FCS_ERRORS, O.PORT_RX_OVERSIZE, O.PORT_TX_FRAMES, O.PORT_TX_BYTES, O.PORT_TX_TRUNCATED,
  O.PORT_FC_TX_XOFF_C0, O.PORT_FC_TX_XOFF_C1, O.PORT_FC_TX_XOFF_C2, O.PORT_FC_TX_XOFF_C3, O.PORT_FC_TX_XOFF_C4,
  O.PORT_FC_TX_XOFF_C5, O.PORT_FC_TX_XOFF_C6, O.PORT_FC_TX_XOFF_C7, O.PIPE_FORCED_SAF, O.CALLROOM_PARKED,
  O.SC_STATUS, O.SC_TX_NO_SA_DROPS, O.SC_RX_NO_SA, O.SC_RX_LATE, O.SC_RX_TAG_MISMATCH, O.SC_BAD_KEY_DROPS,
  O.SA_STATE, O.SA_KEK, O.SA_SLOT, O.SA_FLAGS, O.SA_CHANGED_AT, O.SCSA_SLOT0_ROW, O.SCSA_SLOT1_ROW,
  O.SCSA_IN_FORCE_AN, O.SCSA_ZONE_OPEN, O.SA_STAT_PKTS, O.SA_STAT_OCTETS, O.SA_STAT_PKTS_ENCRYPTED,
  O.SA_STAT_NOT_VALID, O.SA_STAT_COMMIT_LATE, O.SA_STAT_TX_LOST, O.MP_NO_RESULT_DROPS, O.MP_POLICY_DROPS,
  O.MP_RX_BAD_TAG, O.MP_RX_NO_SC, O.PARSER_EXCEPTIONS, O.LEARN_OVERFLOW_DROPS, O.LEARN_UNPINNED, O.LEARN_CONFLICTS,
  O.CALLROOM_OCCUPANCY, O.CALLROOM_PEAK, O.CALLROOM_FULL_DROPS, O.CLS_WRONG_SLICE, O.CLS_CACHE_HITS,
  O.CLS_CACHE_MISSES, O.QUEUE_OCCUPANCY, O.QUEUE_NODE, O.POL_RED_FRAMES, O.POL_RED_BYTES, O.POL_YELLOW_FRAMES,
  O.POL_YELLOW_BYTES, O.QUEUE_DROP_FRAMES, O.QUEUE_DROP_BYTES, O.BUFP_USED_CELLS, O.BUFP_PEAK_CELLS,
  O.BUF_HEADROOM_USED, O.BUF_HEADROOM_DROPS, O.BUF_PUNT_FULL_DROPS, O.MEM_CH_CORRECTED, O.MEM_CH_UNCORRECTABLE,
  O.MEM_TAG_FAILS, O.MEM_NODE_FAILS, O.MEM_CTR_READONLY, O.MEM_POISON_COUNT, O.MEM_TREE_HITS, O.MEM_TREE_MISSES,
  O.MEM_SCRUB_PASSES, O.MEM_POISON_OFFSET, O.MEM_POISON_AT, O.MEM_POISON_CAUSE, O.FLT_SRC_CLASS, O.FLT_SRC_EVENTS,
  O.FLT_SRC_LAST_AT, O.FLT_STATUS, O.FLT_FATAL_SINCE_BOOT, O.FLT_LOG_LAST_SEQ, O.FLT_LOG_OVERWRITTEN,
  O.FLT_EVENT_LOST, O.FLT_FIRST_SEVERE, O.FLT_LOG_RECORD, O.PMC_VALUE, O.PMC_STATUS, O.PEER_KEY, F.mode, F.cyc,
  F.clk, F.draws, F.out, F.sess, F.groups, F.ring, F.pcieDma, F.pciePending, F.faults, F.vault, F.checkKey,
  F.storeKey, F.keyTests, F.keyRestart, F.keyScrub, F.saRecs, F.saCtxs, F.banks, F.pipe, F.clsx, F.queues, F.nodes,
  F.pairs, F.ports, F.laps, F.pmc, F.memCells, F.memRest, F.lc, F.la, F.keyScrubFrom, F.keyReseed, F.keyRequests]

theorem Device.parseClear_keeps {W : List Nat} {a : Device} {d : Device} {f : Frame} (hW : Sub Touch.parseClear W) (h : Keeps W a d) :
    Keeps W a (Device.parseClear d f) := by
  unfold Device.parseClear
  try dsimp only
  repeat' first
    | with_reducible exact h | exact memT (by decide +kernel) hW | with_reducible apply Keeps.ite
    | with_reducible refine Device.inc64_keeps ?_ ?_
    | with_reducible refine Device.puntFrame_keeps (subT (by decide +kernel) hW) ?_
    | with_reducible refine Device.dropQuiet_keeps (subT (by decide +kernel) hW) ?_
    | with_reducible refine Device.lookup_keeps (subT (by decide +kernel) hW) ?_
    | with_reducible refine Device.setFrame_keeps (subT (by decide +kernel) hW) ?_
    | with_reducible refine Device.looked_keeps (subT (by decide +kernel) hW) ?_ | with_reducible apply Keeps.ite2
    | split

def Touch.clearFrame : List Nat :=
  [O.LOCK, O.GROUP_OWNER, O.GROUP_STATE, O.GROUP_WRITES, O.GROUP_FAIL_ADDRESS, O.GROUP_FLAGS, O.SESSION_STATE,
  O.SESSION_ROLE, O.SESSION_CA, O.SESSION_ID, O.SESSION_LAST_COUNTER, O.ROLE_ROOT, O.RING_ENABLE, O.RING_HEAD,
  O.RING_TAIL, O.RING_STATE, O.RING_COMPLETED, O.RING_REJECTED, O.PUNT_RATE_DROPS, O.PUNT_RING_DROPS,
  O.INJECT_REFUSED, O.MODE, O.MODE_CMD, O.MODE_ENTERED_AT, O.MODE_CAUSE, O.RUNAHEAD_FALSE_STARTS,
  O.RUNAHEAD_WASTED_CELLS, O.BANK_DISCARDS, O.BANK_KS_HITS, O.BANK_KS_MISSES, O.VAULT_STATE, O.VAULT_HANDLE,
  O.VAULT_LEVEL, O.VAULT_PURPOSE, O.VAULT_KEY_BITS, O.VAULT_COUNTED, O.VAULT_USES_LEFT, O.VAULT_ORIGIN,
  O.VAULT_PARENT, O.VAULT_CREATED_AT, O.VAULT_ARG_KEY, O.VAULT_CMD, O.VAULT_RESULT_HANDLE, O.DRBG_STATE,
  O.LA_CONTEXTS_BUSY, O.GUN_STATE, O.GUN_OWNER, O.GUN_FLAGS, O.PORT_RX_FRAMES, O.PORT_RX_BYTES,
  O.PORT_RX_FCS_ERRORS, O.PORT_RX_OVERSIZE, O.PORT_TX_FRAMES, O.PORT_TX_BYTES, O.PORT_TX_TRUNCATED,
  O.PORT_FC_TX_XOFF_C0, O.PORT_FC_TX_XOFF_C1, O.PORT_FC_TX_XOFF_C2, O.PORT_FC_TX_XOFF_C3, O.PORT_FC_TX_XOFF_C4,
  O.PORT_FC_TX_XOFF_C5, O.PORT_FC_TX_XOFF_C6, O.PORT_FC_TX_XOFF_C7, O.PIPE_FORCED_SAF, O.CALLROOM_PARKED,
  O.SC_STATUS, O.SC_TX_NO_SA_DROPS, O.SC_RX_NO_SA, O.SC_RX_LATE, O.SC_RX_TAG_MISMATCH, O.SC_BAD_KEY_DROPS,
  O.SA_STATE, O.SA_KEK, O.SA_SLOT, O.SA_FLAGS, O.SA_CHANGED_AT, O.SCSA_SLOT0_ROW, O.SCSA_SLOT1_ROW,
  O.SCSA_IN_FORCE_AN, O.SCSA_ZONE_OPEN, O.SA_STAT_PKTS, O.SA_STAT_OCTETS, O.SA_STAT_PKTS_ENCRYPTED,
  O.SA_STAT_NOT_VALID, O.SA_STAT_COMMIT_LATE, O.SA_STAT_TX_LOST, O.MP_NO_RESULT_DROPS, O.MP_POLICY_DROPS,
  O.MP_RX_BAD_TAG, O.MP_RX_NO_SC, O.MP_EAPOL_DROPS, O.PARSER_EXCEPTIONS, O.LEARN_OVERFLOW_DROPS, O.LEARN_UNPINNED,
  O.LEARN_CONFLICTS, O.CALLROOM_OCCUPANCY, O.CALLROOM_PEAK, O.CALLROOM_FULL_DROPS, O.CLS_WRONG_SLICE,
  O.CLS_CACHE_HITS, O.CLS_CACHE_MISSES, O.QUEUE_OCCUPANCY, O.QUEUE_NODE, O.POL_RED_FRAMES, O.POL_RED_BYTES,
  O.POL_YELLOW_FRAMES, O.POL_YELLOW_BYTES, O.QUEUE_DROP_FRAMES, O.QUEUE_DROP_BYTES, O.BUFP_USED_CELLS,
  O.BUFP_PEAK_CELLS, O.BUF_HEADROOM_USED, O.BUF_HEADROOM_DROPS, O.BUF_PUNT_FULL_DROPS, O.MEM_CH_CORRECTED,
  O.MEM_CH_UNCORRECTABLE, O.MEM_TAG_FAILS, O.MEM_NODE_FAILS, O.MEM_CTR_READONLY, O.MEM_POISON_COUNT,
  O.MEM_TREE_HITS, O.MEM_TREE_MISSES, O.MEM_SCRUB_PASSES, O.MEM_POISON_OFFSET, O.MEM_POISON_AT, O.MEM_POISON_CAUSE,
  O.FLT_SRC_CLASS, O.FLT_SRC_EVENTS, O.FLT_SRC_LAST_AT, O.FLT_STATUS, O.FLT_FATAL_SINCE_BOOT, O.FLT_LOG_LAST_SEQ,
  O.FLT_LOG_OVERWRITTEN, O.FLT_EVENT_LOST, O.FLT_FIRST_SEVERE, O.FLT_LOG_RECORD, O.PMC_VALUE, O.PMC_STATUS,
  O.PEER_KEY, F.mode, F.cyc, F.clk, F.draws, F.out, F.sess, F.groups, F.ring, F.pcieDma, F.pciePending, F.faults,
  F.vault, F.checkKey, F.storeKey, F.keyTests, F.keyRestart, F.keyScrub, F.saRecs, F.saCtxs, F.banks, F.pipe,
  F.clsx, F.queues, F.nodes, F.pairs, F.ports, F.laps, F.pmc, F.memCells, F.memRest, F.lc, F.la, F.keyScrubFrom,
  F.keyReseed, F.keyRequests]

theorem Device.clearFrame_keeps {W : List Nat} {a : Device} {d : Device} {f : Frame} (hW : Sub Touch.clearFrame W) (h : Keeps W a d) :
    Keeps W a (Device.clearFrame d f) := by
  unfold Device.clearFrame
  try dsimp only
  repeat' first
    | with_reducible exact h | exact memT (by decide +kernel) hW | with_reducible apply Keeps.ite
    | with_reducible refine Device.puntFrame_keeps (subT (by decide +kernel) hW) ?_
    | with_reducible refine Device.inc64_keeps ?_ ?_
    | with_reducible refine Device.dropQuiet_keeps (subT (by decide +kernel) hW) ?_
    | with_reducible refine Device.parseClear_keeps (subT (by decide +kernel) hW) ?_ | split

def Touch.taggedFrame : List Nat :=
  [O.LOCK, O.GROUP_OWNER, O.GROUP_STATE, O.GROUP_WRITES, O.GROUP_FAIL_ADDRESS, O.GROUP_FLAGS, O.SESSION_STATE,
  O.SESSION_ROLE, O.SESSION_CA, O.SESSION_ID, O.SESSION_LAST_COUNTER, O.ROLE_ROOT, O.RING_ENABLE, O.RING_HEAD,
  O.RING_TAIL, O.RING_STATE, O.RING_COMPLETED, O.RING_REJECTED, O.PUNT_RATE_DROPS, O.PUNT_RING_DROPS,
  O.INJECT_REFUSED, O.MODE, O.MODE_CMD, O.MODE_ENTERED_AT, O.MODE_CAUSE, O.RUNAHEAD_FALSE_STARTS,
  O.RUNAHEAD_WASTED_CELLS, O.BANK_DISCARDS, O.BANK_KS_HITS, O.BANK_KS_MISSES, O.VAULT_STATE, O.VAULT_HANDLE,
  O.VAULT_LEVEL, O.VAULT_PURPOSE, O.VAULT_KEY_BITS, O.VAULT_COUNTED, O.VAULT_USES_LEFT, O.VAULT_ORIGIN,
  O.VAULT_PARENT, O.VAULT_CREATED_AT, O.VAULT_ARG_KEY, O.VAULT_CMD, O.VAULT_RESULT_HANDLE, O.DRBG_STATE,
  O.LA_CONTEXTS_BUSY, O.GUN_STATE, O.GUN_OWNER, O.GUN_FLAGS, O.PORT_RX_FRAMES, O.PORT_RX_BYTES,
  O.PORT_RX_FCS_ERRORS, O.PORT_RX_OVERSIZE, O.PORT_TX_FRAMES, O.PORT_TX_BYTES, O.PORT_TX_TRUNCATED,
  O.PORT_FC_TX_XOFF_C0, O.PORT_FC_TX_XOFF_C1, O.PORT_FC_TX_XOFF_C2, O.PORT_FC_TX_XOFF_C3, O.PORT_FC_TX_XOFF_C4,
  O.PORT_FC_TX_XOFF_C5, O.PORT_FC_TX_XOFF_C6, O.PORT_FC_TX_XOFF_C7, O.PIPE_FORCED_SAF, O.CALLROOM_PARKED,
  O.SC_STATUS, O.SC_TX_NO_SA_DROPS, O.SC_RX_NO_SA, O.SC_RX_LATE, O.SC_RX_TAG_MISMATCH, O.SC_BAD_KEY_DROPS,
  O.SA_STATE, O.SA_KEK, O.SA_SLOT, O.SA_FLAGS, O.SA_CHANGED_AT, O.SCSA_SLOT0_ROW, O.SCSA_SLOT1_ROW,
  O.SCSA_IN_FORCE_AN, O.SCSA_ZONE_OPEN, O.SA_STAT_PKTS, O.SA_STAT_OCTETS, O.SA_STAT_PKTS_ENCRYPTED,
  O.SA_STAT_NOT_VALID, O.SA_STAT_COMMIT_LATE, O.SA_STAT_TX_LOST, O.MP_NO_RESULT_DROPS, O.MP_POLICY_DROPS,
  O.MP_RX_BAD_TAG, O.MP_RX_BAD_LENGTH, O.MP_RX_NO_SC, O.LEARN_OVERFLOW_DROPS, O.LEARN_UNPINNED, O.LEARN_CONFLICTS,
  O.CALLROOM_OCCUPANCY, O.CALLROOM_PEAK, O.CALLROOM_FULL_DROPS, O.CLS_WRONG_SLICE, O.CLS_CACHE_HITS,
  O.CLS_CACHE_MISSES, O.QUEUE_OCCUPANCY, O.QUEUE_NODE, O.POL_RED_FRAMES, O.POL_RED_BYTES, O.POL_YELLOW_FRAMES,
  O.POL_YELLOW_BYTES, O.QUEUE_DROP_FRAMES, O.QUEUE_DROP_BYTES, O.BUFP_USED_CELLS, O.BUFP_PEAK_CELLS,
  O.BUF_HEADROOM_USED, O.BUF_HEADROOM_DROPS, O.BUF_PUNT_FULL_DROPS, O.MEM_CH_CORRECTED, O.MEM_CH_UNCORRECTABLE,
  O.MEM_TAG_FAILS, O.MEM_NODE_FAILS, O.MEM_CTR_READONLY, O.MEM_POISON_COUNT, O.MEM_TREE_HITS, O.MEM_TREE_MISSES,
  O.MEM_SCRUB_PASSES, O.MEM_POISON_OFFSET, O.MEM_POISON_AT, O.MEM_POISON_CAUSE, O.FLT_SRC_CLASS, O.FLT_SRC_EVENTS,
  O.FLT_SRC_LAST_AT, O.FLT_STATUS, O.FLT_FATAL_SINCE_BOOT, O.FLT_LOG_LAST_SEQ, O.FLT_LOG_OVERWRITTEN,
  O.FLT_EVENT_LOST, O.FLT_FIRST_SEVERE, O.FLT_LOG_RECORD, O.PMC_VALUE, O.PMC_STATUS, O.PEER_KEY, F.mode, F.cyc,
  F.clk, F.draws, F.out, F.sess, F.groups, F.ring, F.pcieDma, F.pciePending, F.faults, F.vault, F.checkKey,
  F.storeKey, F.keyTests, F.keyRestart, F.keyScrub, F.saRecs, F.saCtxs, F.banks, F.pipe, F.clsx, F.queues, F.nodes,
  F.pairs, F.ports, F.laps, F.pmc, F.memCells, F.memRest, F.lc, F.la, F.keyScrubFrom, F.keyReseed, F.keyRequests]

theorem Device.taggedFrame_keeps {W : List Nat} {a : Device} {d : Device} {f : Frame} {raw : Bytes} (hW : Sub Touch.taggedFrame W) (h : Keeps W a d) :
    Keeps W a (Device.taggedFrame d f raw) := by
  unfold Device.taggedFrame
  try dsimp only
  repeat' first
    | with_reducible exact h | exact memT (by decide +kernel) hW | with_reducible apply Keeps.ite
    | with_reducible refine Device.inc64_keeps ?_ ?_
    | with_reducible refine Device.dropQuiet_keeps (subT (by decide +kernel) hW) ?_
    | with_reducible refine Device.noSc_keeps (subT (by decide +kernel) hW) ?_
    | with_reducible refine Device.lookup_keeps (subT (by decide +kernel) hW) ?_
    | with_reducible refine Device.setFrame_keeps (subT (by decide +kernel) hW) ?_
    | with_reducible refine Device.looked_keeps (subT (by decide +kernel) hW) ?_ | with_reducible apply Keeps.ite2
    | split

def Touch.countRx : List Nat :=
  Touch.egressLimit

theorem Device.countRx_keeps {W : List Nat} {a : Device} {d : Device} {p : Nat} {x : RxFrame} {over_ : Bool} (hW : Sub Touch.countRx W) (h : Keeps W a d) :
    Keeps W a (Device.countRx d p x over_) := by
  unfold Device.countRx
  try dsimp only
  repeat' first
    | with_reducible exact h | exact memT (by decide +kernel) hW | with_reducible apply Keeps.ite
    | with_reducible refine Device.inc64_keeps ?_ ?_ | with_reducible refine Device.add64_keeps ?_ ?_ | split

def Touch.enterPipe : List Nat :=
  [O.LOCK, O.GROUP_OWNER, O.GROUP_STATE, O.GROUP_WRITES, O.GROUP_FAIL_ADDRESS, O.GROUP_FLAGS, O.SESSION_STATE,
  O.SESSION_ROLE, O.SESSION_CA, O.SESSION_ID, O.SESSION_LAST_COUNTER, O.ROLE_ROOT, O.RING_ENABLE, O.RING_HEAD,
  O.RING_TAIL, O.RING_STATE, O.RING_COMPLETED, O.RING_REJECTED, O.PUNT_RATE_DROPS, O.PUNT_RING_DROPS,
  O.INJECT_REFUSED, O.MODE, O.MODE_CMD, O.MODE_ENTERED_AT, O.MODE_CAUSE, O.RUNAHEAD_FALSE_STARTS,
  O.RUNAHEAD_WASTED_CELLS, O.BANK_DISCARDS, O.BANK_KS_HITS, O.BANK_KS_MISSES, O.VAULT_STATE, O.VAULT_HANDLE,
  O.VAULT_LEVEL, O.VAULT_PURPOSE, O.VAULT_KEY_BITS, O.VAULT_COUNTED, O.VAULT_USES_LEFT, O.VAULT_ORIGIN,
  O.VAULT_PARENT, O.VAULT_CREATED_AT, O.VAULT_ARG_KEY, O.VAULT_CMD, O.VAULT_RESULT_HANDLE, O.DRBG_STATE,
  O.LA_CONTEXTS_BUSY, O.GUN_STATE, O.GUN_OWNER, O.GUN_FLAGS, O.PORT_RX_FRAMES, O.PORT_RX_BYTES,
  O.PORT_RX_FCS_ERRORS, O.PORT_RX_OVERSIZE, O.PORT_TX_FRAMES, O.PORT_TX_BYTES, O.PORT_TX_TRUNCATED,
  O.PORT_FC_TX_XOFF_C0, O.PORT_FC_TX_XOFF_C1, O.PORT_FC_TX_XOFF_C2, O.PORT_FC_TX_XOFF_C3, O.PORT_FC_TX_XOFF_C4,
  O.PORT_FC_TX_XOFF_C5, O.PORT_FC_TX_XOFF_C6, O.PORT_FC_TX_XOFF_C7, O.PIPE_FORCED_SAF, O.CALLROOM_PARKED,
  O.SC_STATUS, O.SC_TX_NO_SA_DROPS, O.SC_RX_NO_SA, O.SC_RX_LATE, O.SC_RX_TAG_MISMATCH, O.SC_BAD_KEY_DROPS,
  O.SA_STATE, O.SA_KEK, O.SA_SLOT, O.SA_FLAGS, O.SA_CHANGED_AT, O.SCSA_SLOT0_ROW, O.SCSA_SLOT1_ROW,
  O.SCSA_IN_FORCE_AN, O.SCSA_ZONE_OPEN, O.SA_STAT_PKTS, O.SA_STAT_OCTETS, O.SA_STAT_PKTS_ENCRYPTED,
  O.SA_STAT_NOT_VALID, O.SA_STAT_COMMIT_LATE, O.SA_STAT_TX_LOST, O.MP_NO_RESULT_DROPS, O.MP_POLICY_DROPS,
  O.MP_RX_BAD_TAG, O.MP_RX_BAD_LENGTH, O.MP_RX_NO_SC, O.MP_EAPOL_DROPS, O.PARSER_EXCEPTIONS,
  O.LEARN_OVERFLOW_DROPS, O.LEARN_UNPINNED, O.LEARN_CONFLICTS, O.CALLROOM_OCCUPANCY, O.CALLROOM_PEAK,
  O.CALLROOM_FULL_DROPS, O.CLS_WRONG_SLICE, O.CLS_CACHE_HITS, O.CLS_CACHE_MISSES, O.QUEUE_OCCUPANCY, O.QUEUE_NODE,
  O.POL_RED_FRAMES, O.POL_RED_BYTES, O.POL_YELLOW_FRAMES, O.POL_YELLOW_BYTES, O.QUEUE_DROP_FRAMES,
  O.QUEUE_DROP_BYTES, O.BUFP_USED_CELLS, O.BUFP_PEAK_CELLS, O.BUF_HEADROOM_USED, O.BUF_HEADROOM_DROPS,
  O.BUF_PUNT_FULL_DROPS, O.MEM_CH_CORRECTED, O.MEM_CH_UNCORRECTABLE, O.MEM_TAG_FAILS, O.MEM_NODE_FAILS,
  O.MEM_CTR_READONLY, O.MEM_POISON_COUNT, O.MEM_TREE_HITS, O.MEM_TREE_MISSES, O.MEM_SCRUB_PASSES,
  O.MEM_POISON_OFFSET, O.MEM_POISON_AT, O.MEM_POISON_CAUSE, O.FLT_SRC_CLASS, O.FLT_SRC_EVENTS, O.FLT_SRC_LAST_AT,
  O.FLT_STATUS, O.FLT_FATAL_SINCE_BOOT, O.FLT_LOG_LAST_SEQ, O.FLT_LOG_OVERWRITTEN, O.FLT_EVENT_LOST,
  O.FLT_FIRST_SEVERE, O.FLT_LOG_RECORD, O.PMC_VALUE, O.PMC_STATUS, O.PEER_KEY, F.mode, F.cyc, F.clk, F.draws,
  F.out, F.sess, F.groups, F.ring, F.pcieDma, F.pciePending, F.faults, F.vault, F.checkKey, F.storeKey, F.keyTests,
  F.keyRestart, F.keyScrub, F.saRecs, F.saCtxs, F.banks, F.pipe, F.clsx, F.queues, F.nodes, F.pairs, F.ports,
  F.laps, F.pmc, F.memCells, F.memRest, F.lc, F.la, F.keyScrubFrom, F.keyReseed, F.keyRequests]

theorem Device.enterPipe_keeps {W : List Nat} {a : Device} {d : Device} {x : RxFrame} {over_ : Bool} (hW : Sub Touch.enterPipe W) (h : Keeps W a d) :
    Keeps W a (Device.enterPipe d x over_) := by
  unfold Device.enterPipe
  try dsimp only
  repeat' first
    | with_reducible exact h | with_reducible apply Keeps.ite
    | with_reducible refine Device.stageCell_keeps (subT (by decide +kernel) hW) ?_
    | with_reducible refine Device.addFrame_keeps (subT (by decide +kernel) hW) ?_
    | with_reducible refine Device.taggedFrame_keeps (subT (by decide +kernel) hW) ?_
    | with_reducible refine Device.setFrame_keeps (subT (by decide +kernel) hW) ?_
    | with_reducible refine Device.clearFrame_keeps (subT (by decide +kernel) hW) ?_ | split

def Touch.arrive : List Nat :=
  [O.LOCK, O.GROUP_OWNER, O.GROUP_STATE, O.GROUP_WRITES, O.GROUP_FAIL_ADDRESS, O.GROUP_FLAGS, O.SESSION_STATE,
  O.SESSION_ROLE, O.SESSION_CA, O.SESSION_ID, O.SESSION_LAST_COUNTER, O.ROLE_ROOT, O.RING_ENABLE, O.RING_HEAD,
  O.RING_TAIL, O.RING_STATE, O.RING_COMPLETED, O.RING_REJECTED, O.PUNT_RATE_DROPS, O.PUNT_RING_DROPS,
  O.INJECT_REFUSED, O.MODE, O.MODE_CMD, O.MODE_ENTERED_AT, O.MODE_CAUSE, O.DRAIN_REFUSED_ARRIVALS,
  O.RUNAHEAD_FALSE_STARTS, O.RUNAHEAD_WASTED_CELLS, O.BANK_DISCARDS, O.BANK_KS_HITS, O.BANK_KS_MISSES,
  O.VAULT_STATE, O.VAULT_HANDLE, O.VAULT_LEVEL, O.VAULT_PURPOSE, O.VAULT_KEY_BITS, O.VAULT_COUNTED,
  O.VAULT_USES_LEFT, O.VAULT_ORIGIN, O.VAULT_PARENT, O.VAULT_CREATED_AT, O.VAULT_ARG_KEY, O.VAULT_CMD,
  O.VAULT_RESULT_HANDLE, O.DRBG_STATE, O.LA_CONTEXTS_BUSY, O.GUN_STATE, O.GUN_OWNER, O.GUN_FLAGS, O.PORT_RX_FRAMES,
  O.PORT_RX_BYTES, O.PORT_RX_FCS_ERRORS, O.PORT_RX_UNDERSIZE, O.PORT_RX_OVERSIZE, O.PORT_RX_MAC_CONTROL_DROPS,
  O.PORT_TX_FRAMES, O.PORT_TX_BYTES, O.PORT_TX_TRUNCATED, O.PORT_FC_RX_XOFF_C0, O.PORT_FC_RX_XOFF_C1,
  O.PORT_FC_RX_XOFF_C2, O.PORT_FC_RX_XOFF_C3, O.PORT_FC_RX_XOFF_C4, O.PORT_FC_RX_XOFF_C5, O.PORT_FC_RX_XOFF_C6,
  O.PORT_FC_RX_XOFF_C7, O.PORT_FC_TX_XOFF_C0, O.PORT_FC_TX_XOFF_C1, O.PORT_FC_TX_XOFF_C2, O.PORT_FC_TX_XOFF_C3,
  O.PORT_FC_TX_XOFF_C4, O.PORT_FC_TX_XOFF_C5, O.PORT_FC_TX_XOFF_C6, O.PORT_FC_TX_XOFF_C7, O.PIPE_FORCED_SAF,
  O.CALLROOM_PARKED, O.SC_STATUS, O.SC_TX_NO_SA_DROPS, O.SC_RX_NO_SA, O.SC_RX_LATE, O.SC_RX_TAG_MISMATCH,
  O.SC_BAD_KEY_DROPS, O.SA_STATE, O.SA_KEK, O.SA_SLOT, O.SA_FLAGS, O.SA_CHANGED_AT, O.SCSA_SLOT0_ROW,
  O.SCSA_SLOT1_ROW, O.SCSA_IN_FORCE_AN, O.SCSA_ZONE_OPEN, O.SA_STAT_PKTS, O.SA_STAT_OCTETS,
  O.SA_STAT_PKTS_ENCRYPTED, O.SA_STAT_NOT_VALID, O.SA_STAT_COMMIT_LATE, O.SA_STAT_TX_LOST, O.MP_NO_RESULT_DROPS,
  O.MP_POLICY_DROPS, O.MP_RX_BAD_TAG, O.MP_RX_BAD_LENGTH, O.MP_RX_NO_SC, O.MP_EAPOL_DROPS, O.PARSER_EXCEPTIONS,
  O.LEARN_OVERFLOW_DROPS, O.LEARN_UNPINNED, O.LEARN_CONFLICTS, O.CALLROOM_OCCUPANCY, O.CALLROOM_PEAK,
  O.CALLROOM_FULL_DROPS, O.CLS_WRONG_SLICE, O.CLS_CACHE_HITS, O.CLS_CACHE_MISSES, O.QUEUE_OCCUPANCY, O.QUEUE_NODE,
  O.POL_RED_FRAMES, O.POL_RED_BYTES, O.POL_YELLOW_FRAMES, O.POL_YELLOW_BYTES, O.QUEUE_DROP_FRAMES,
  O.QUEUE_DROP_BYTES, O.NODE_PAUSED, O.BUFP_USED_CELLS, O.BUFP_PEAK_CELLS, O.BUF_HEADROOM_USED,
  O.BUF_HEADROOM_DROPS, O.BUF_INGRESS_OVERRUNS, O.BUF_PUNT_FULL_DROPS, O.MEM_CH_CORRECTED, O.MEM_CH_UNCORRECTABLE,
  O.MEM_TAG_FAILS, O.MEM_NODE_FAILS, O.MEM_CTR_READONLY, O.MEM_POISON_COUNT, O.MEM_TREE_HITS, O.MEM_TREE_MISSES,
  O.MEM_SCRUB_PASSES, O.MEM_POISON_OFFSET, O.MEM_POISON_AT, O.MEM_POISON_CAUSE, O.FLT_SRC_CLASS, O.FLT_SRC_EVENTS,
  O.FLT_SRC_LAST_AT, O.FLT_STATUS, O.FLT_FATAL_SINCE_BOOT, O.FLT_LOG_LAST_SEQ, O.FLT_LOG_OVERWRITTEN,
  O.FLT_EVENT_LOST, O.FLT_FIRST_SEVERE, O.FLT_LOG_RECORD, O.PMC_VALUE, O.PMC_STATUS, O.PEER_KEY, F.mode, F.cyc,
  F.clk, F.draws, F.out, F.sess, F.groups, F.ring, F.pcieDma, F.pciePending, F.faults, F.vault, F.checkKey,
  F.storeKey, F.keyTests, F.keyRestart, F.keyScrub, F.saRecs, F.saCtxs, F.banks, F.pipe, F.clsx, F.queues, F.nodes,
  F.pairs, F.ports, F.laps, F.pmc, F.memCells, F.memRest, F.lc, F.la, F.keyScrubFrom, F.keyReseed, F.keyRequests]

theorem Device.arrive_keeps {W : List Nat} {a : Device} {d : Device} {x : RxFrame} (hW : Sub Touch.arrive W) (h : Keeps W a d) :
    Keeps W a (Device.arrive d x) := by
  unfold Device.arrive
  try dsimp only
  repeat' first
    | with_reducible exact h | exact memT (by decide +kernel) hW | with_reducible apply Keeps.ite
    | with_reducible refine Device.inc64_keeps ?_ ?_
    | with_reducible refine Device.macControlRx_keeps (subT (by decide +kernel) hW) ?_
    | with_reducible refine Device.countRx_keeps (subT (by decide +kernel) hW) ?_
    | with_reducible refine Device.enterPipe_keeps (subT (by decide +kernel) hW) ?_ | split

def Touch.hostFrameRx : List Nat :=
  Touch.arrive

theorem Device.hostFrameRx_keeps {W : List Nat} {a : Device} {x : RxFrame} {d : Device} (hW : Sub Touch.hostFrameRx W) (h : Keeps W a d) :
    Keeps W a (Device.hostFrameRx x d) := by
  unfold Device.hostFrameRx
  try dsimp only
  repeat' first
    | with_reducible exact h | with_reducible apply Keeps.ite
    | with_reducible refine Device.arrive_keeps (subT (by decide +kernel) hW) ?_ | split

def Touch.lineFrameRx : List Nat :=
  Touch.arrive

theorem Device.lineFrameRx_keeps {W : List Nat} {a : Device} {x : RxFrame} {d : Device} (hW : Sub Touch.lineFrameRx W) (h : Keeps W a d) :
    Keeps W a (Device.lineFrameRx x d) := by
  unfold Device.lineFrameRx
  try dsimp only
  repeat' first
    | with_reducible exact h | with_reducible apply Keeps.ite
    | with_reducible refine Device.arrive_keeps (subT (by decide +kernel) hW) ?_ | split

end Sys2Proof.Machine
end

