-- ==== Sys2Proof/Laws/KeepsEgress.lean ====
section
/-!
SUPPORT. The places that each operation of Machine/Egress.lean may change (Laws/Keeps.lean).
-/
set_option Elab.async false
set_option linter.all false
set_option linter.unusedTactic false
set_option linter.unreachableTactic false
set_option linter.style.longLine false
namespace Sys2Proof.Machine

def Touch.setLastSc : List Nat :=
  [F.pipe]

theorem Device.setLastSc_keeps {W : List Nat} {a : Device} {d : Device} {f : Frame} {v : Nat} (hW : Sub Touch.setLastSc W) (h : Keeps W a d) :
    Keeps W a (Device.setLastSc d f v) := by
  unfold Device.setLastSc
  try dsimp only
  repeat' first
    | with_reducible exact h | with_reducible apply Keeps.ite
    | with_reducible refine Device.setPipe_keeps (subT (by decide +kernel) hW) ?_ | split

def Touch.dropNoSa : List Nat :=
  Touch.dropOpen

theorem Device.dropNoSa_keeps {W : List Nat} {a : Device} {d : Device} {f : Frame} (hW : Sub Touch.dropNoSa W) (h : Keeps W a d) :
    Keeps W a (Device.dropNoSa d f) := by
  unfold Device.dropNoSa
  try dsimp only
  repeat' first
    | with_reducible exact h | with_reducible assumption | with_reducible apply Keeps.elim
    | with_reducible refine Device.injectRefuse_keeps (subT (by decide +kernel) hW) ?_
    | with_reducible refine Device.dropWhole_keeps (subT (by decide +kernel) hW) ?_ | intro _ _ hq | intro _

def Touch.holdExpired : List Nat :=
  [O.LOCK, O.GROUP_OWNER, O.GROUP_STATE, O.GROUP_WRITES, O.GROUP_FAIL_ADDRESS, O.GROUP_FLAGS, O.SESSION_STATE,
  O.SESSION_ROLE, O.SESSION_CA, O.SESSION_ID, O.SESSION_LAST_COUNTER, O.RING_ENABLE, O.RING_HEAD, O.RING_TAIL,
  O.RING_STATE, O.RING_COMPLETED, O.RING_REJECTED, O.GUN_STATE, O.GUN_OWNER, O.GUN_FLAGS, O.SC_STATUS,
  O.FLT_SRC_EVENTS, O.FLT_SRC_LAST_AT, O.FLT_LOG_LAST_SEQ, O.FLT_LOG_OVERWRITTEN, O.FLT_EVENT_LOST,
  O.FLT_FIRST_SEVERE, O.FLT_LOG_RECORD, O.PMC_VALUE, O.PMC_STATUS, F.out, F.sess, F.groups, F.ring, F.pcieDma,
  F.pciePending, F.faults, F.saHolds, F.clsx, F.pmc]

theorem Device.holdExpired_keeps {W : List Nat} {a : Device} {d : Device} {sc : Nat} (hW : Sub Touch.holdExpired W) (h : Keeps W a d) :
    Keeps W a (Device.holdExpired d sc) := by
  unfold Device.holdExpired
  try dsimp only
  repeat' first
    | with_reducible exact h | with_reducible refine Device.endHold_keeps (subT (by decide +kernel) hW) ?_
    | with_reducible refine Device.protEvent_keeps (subT (by decide +kernel) hW) ?_

def Touch.startHold : List Nat :=
  Touch.holdExpired

theorem Device.startHold_keeps {W : List Nat} {a : Device} {d : Device} {sc : Nat} (hW : Sub Touch.startHold W) (h : Keeps W a d) :
    Keeps W a (Device.startHold d sc) := by
  unfold Device.startHold
  try dsimp only
  repeat' first
    | with_reducible exact h | exact memT (by decide +kernel) hW | with_reducible apply Keeps.ite
    | with_reducible refine Device.wrBit_keeps ?_ ?_
    | with_reducible refine Device.setHoldUntil_keeps (subT (by decide +kernel) hW) ?_
    | with_reducible refine Device.holdExpired_keeps (subT (by decide +kernel) hW) ?_ | split

def Touch.stopSc : List Nat :=
  Touch.zoneEnd

theorem Device.stopSc_keeps {W : List Nat} {a : Device} {d : Device} {sc : Nat} {an : Nat} {pn : Nat} (hW : Sub Touch.stopSc W) (h : Keeps W a d) :
    Keeps W a (Device.stopSc d sc an pn) := by
  unfold Device.stopSc
  try dsimp only
  repeat' first
    | with_reducible exact h | exact memT (by decide +kernel) hW | with_reducible apply Keeps.ite
    | with_reducible refine Device.wrBit_keeps ?_ ?_
    | with_reducible refine Device.protEvent_keeps (subT (by decide +kernel) hW) ?_
    | with_reducible refine Device.earlyHandover_keeps (subT (by decide +kernel) hW) ?_
    | with_reducible refine Device.startHold_keeps (subT (by decide +kernel) hW) ?_ | split

def Touch.pnEvents : List Nat :=
  Touch.zoneEnd

theorem Device.pnEvents_keeps {W : List Nat} {a : Device} {d : Device} {sc : Nat} {an : Nat} {pn : Nat} (hW : Sub Touch.pnEvents W) (h : Keeps W a d) :
    Keeps W a (Device.pnEvents d sc an pn) := by
  unfold Device.pnEvents
  try dsimp only
  repeat' first
    | with_reducible exact h | exact memT (by decide +kernel) hW | with_reducible apply Keeps.ite
    | with_reducible refine Device.wrBit_keeps ?_ ?_
    | with_reducible refine Device.protEvent_keeps (subT (by decide +kernel) hW) ?_
    | with_reducible refine Device.stopSc_keeps (subT (by decide +kernel) hW) ?_ | split

def Touch.checkPrediction : List Nat :=
  [O.RUNAHEAD_USED, O.RUNAHEAD_FALSE_STARTS, O.RUNAHEAD_WASTED_CELLS, O.PMC_VALUE, O.PMC_STATUS, F.out,
  F.pciePending, F.pmc]

theorem Device.checkPrediction_keeps {W : List Nat} {a : Device} {d : Device} {f : Frame} (hW : Sub Touch.checkPrediction W) (h : Keeps W a d) :
    Keeps W a (Device.checkPrediction d f).2 := by
  unfold Device.checkPrediction
  try dsimp only
  repeat' first
    | with_reducible exact h | with_reducible assumption | exact memT (by decide +kernel) hW
    | with_reducible apply Keeps.ite | with_reducible refine Device.inc64_keeps ?_ ?_
    | with_reducible refine Device.falseStart_keeps (subT (by decide +kernel) hW) ?_
    | with_reducible apply Keeps.ite2 | intro _ _ hq | intro _ | split | dsimp only

def Touch.takePn : List Nat :=
  [O.SA_FLAGS, F.saCtxs, F.saLastPn]

theorem Device.takePn_keeps {W : List Nat} {a : Device} {d : Device} {f : Frame} (hW : Sub Touch.takePn W) (h : Keeps W a d) :
    Keeps W a (Device.takePn d f) := by
  unfold Device.takePn
  try dsimp only
  repeat' first
    | with_reducible exact h | exact memT (by decide +kernel) hW
    | with_reducible refine Device.setCtx_keeps (subT (by decide +kernel) hW) ?_
    | with_reducible refine Device.wrBit_keeps ?_ ?_
    | with_reducible refine Device.setLastPn_keeps (subT (by decide +kernel) hW) ?_

def Touch.assignPn : List Nat :=
  [O.LOCK, O.GROUP_OWNER, O.GROUP_STATE, O.GROUP_WRITES, O.GROUP_FAIL_ADDRESS, O.GROUP_FLAGS, O.SESSION_STATE,
  O.SESSION_ROLE, O.SESSION_CA, O.SESSION_ID, O.SESSION_LAST_COUNTER, O.RING_ENABLE, O.RING_HEAD, O.RING_TAIL,
  O.RING_STATE, O.RING_COMPLETED, O.RING_REJECTED, O.RUNAHEAD_USED, O.RUNAHEAD_FALSE_STARTS,
  O.RUNAHEAD_WASTED_CELLS, O.TC_MALFORMED, O.GUN_STATE, O.GUN_OWNER, O.GUN_FLAGS, O.SC_STATUS, O.SA_STATE,
  O.SA_FLAGS, O.SA_CHANGED_AT, O.SCSA_IN_FORCE_AN, O.SCSA_ZONE_OPEN, O.SCSA_HANDOVERS, O.FLT_SRC_EVENTS,
  O.FLT_SRC_LAST_AT, O.FLT_LOG_LAST_SEQ, O.FLT_LOG_OVERWRITTEN, O.FLT_EVENT_LOST, O.FLT_FIRST_SEVERE,
  O.FLT_LOG_RECORD, O.PMC_VALUE, O.PMC_STATUS, F.draws, F.out, F.sess, F.groups, F.ring, F.pcieDma, F.pciePending,
  F.faults, F.saCtxs, F.saHolds, F.saLastPn, F.pipe, F.clsx, F.pmc]

theorem Device.assignPn_keeps {W : List Nat} {a : Device} {d : Device} {f : Frame} (hW : Sub Touch.assignPn W) (h : Keeps W a d) :
    Keeps W a (Device.assignPn d f) := by
  unfold Device.assignPn
  try dsimp only
  repeat' first
    | with_reducible exact h | with_reducible refine Device.tcSchedule_keeps (subT (by decide +kernel) hW) ?_
    | with_reducible refine Device.takePn_keeps (subT (by decide +kernel) hW) ?_
    | with_reducible refine Device.checkPrediction_keeps (subT (by decide +kernel) hW) ?_
    | with_reducible refine Device.setFrame_keeps (subT (by decide +kernel) hW) ?_
    | with_reducible refine Device.setLastSc_keeps (subT (by decide +kernel) hW) ?_
    | with_reducible refine Device.pnEvents_keeps (subT (by decide +kernel) hW) ?_

def Touch.orderFrame : List Nat :=
  [O.LOCK, O.GROUP_OWNER, O.GROUP_STATE, O.GROUP_WRITES, O.GROUP_FAIL_ADDRESS, O.GROUP_FLAGS, O.SESSION_STATE,
  O.SESSION_ROLE, O.SESSION_CA, O.SESSION_ID, O.SESSION_LAST_COUNTER, O.RING_ENABLE, O.RING_HEAD, O.RING_TAIL,
  O.RING_STATE, O.RING_COMPLETED, O.RING_REJECTED, O.INJECT_REFUSED, O.RUNAHEAD_USED, O.RUNAHEAD_FALSE_STARTS,
  O.RUNAHEAD_WASTED_CELLS, O.BANK_KS_HITS, O.BANK_KS_MISSES, O.TC_MALFORMED, O.GUN_STATE, O.GUN_OWNER, O.GUN_FLAGS,
  O.PORT_FC_TX_XOFF_C0, O.PORT_FC_TX_XOFF_C1, O.PORT_FC_TX_XOFF_C2, O.PORT_FC_TX_XOFF_C3, O.PORT_FC_TX_XOFF_C4,
  O.PORT_FC_TX_XOFF_C5, O.PORT_FC_TX_XOFF_C6, O.PORT_FC_TX_XOFF_C7, O.SC_STATUS, O.SC_TX_NO_SA_DROPS,
  O.SC_BAD_KEY_DROPS, O.SA_STATE, O.SA_FLAGS, O.SA_CHANGED_AT, O.SCSA_IN_FORCE_AN, O.SCSA_ZONE_OPEN,
  O.SCSA_HANDOVERS, O.SA_STAT_TX_LOST, O.CALLROOM_OCCUPANCY, O.CALLROOM_PEAK, O.QUEUE_OCCUPANCY, O.QUEUE_NODE,
  O.BUFP_USED_CELLS, O.BUF_HEADROOM_USED, O.FLT_SRC_EVENTS, O.FLT_SRC_LAST_AT, O.FLT_LOG_LAST_SEQ,
  O.FLT_LOG_OVERWRITTEN, O.FLT_EVENT_LOST, O.FLT_FIRST_SEVERE, O.FLT_LOG_RECORD, O.PMC_VALUE, O.PMC_STATUS,
  F.draws, F.out, F.sess, F.groups, F.ring, F.pcieDma, F.pciePending, F.faults, F.saCtxs, F.saHolds, F.saLastPn,
  F.banks, F.pipe, F.clsx, F.queues, F.nodes, F.pairs, F.ports, F.laps, F.pmc]

theorem Device.orderFrame_keeps {W : List Nat} {a : Device} {d : Device} {f : Frame} (hW : Sub Touch.orderFrame W) (h : Keeps W a d) :
    Keeps W a (Device.orderFrame d f) := by
  unfold Device.orderFrame
  try dsimp only
  repeat' first
    | with_reducible exact h | with_reducible assumption | exact memT (by decide +kernel) hW
    | with_reducible apply Keeps.ite | with_reducible refine Device.inc64_keeps ?_ ?_
    | with_reducible refine Device.dropNoSa_keeps (subT (by decide +kernel) hW) ?_
    | with_reducible refine Device.assignPn_keeps (subT (by decide +kernel) hW) ?_
    | with_reducible refine Device.keyLookup_keeps (subT (by decide +kernel) hW) ?_ | with_reducible apply Keeps.ite2
    | split

def Touch.orderClear : List Nat :=
  [O.RUNAHEAD_FALSE_STARTS, O.RUNAHEAD_WASTED_CELLS, O.PMC_VALUE, O.PMC_STATUS, F.out, F.pciePending, F.pipe,
  F.pmc]

theorem Device.orderClear_keeps {W : List Nat} {a : Device} {d : Device} {f : Frame} (hW : Sub Touch.orderClear W) (h : Keeps W a d) :
    Keeps W a (Device.orderClear d f) := by
  unfold Device.orderClear
  try dsimp only
  repeat' first
    | with_reducible exact h | with_reducible assumption | with_reducible apply Keeps.elim
    | with_reducible refine Device.falseStart_keeps (subT (by decide +kernel) hW) ?_
    | with_reducible refine Device.setFrame_keeps (subT (by decide +kernel) hW) ?_
    | with_reducible refine Device.setLastSc_keeps (subT (by decide +kernel) hW) ?_ | intro _ _ hq | intro _

def Touch.orderClears : List Nat :=
  Touch.orderClear

theorem Device.orderClears_keeps {W : List Nat} {a : Device} {x0 : Nat} {x1 : Nat} {d : Device} (hW : Sub Touch.orderClears W) (h : Keeps W a d) :
    Keeps W a (Device.orderClears x0 x1 d) := by
  induction x0 generalizing x1 d with
  | zero =>
    unfold Device.orderClears
    try dsimp only
    repeat' first
      | with_reducible exact h | with_reducible assumption | with_reducible apply Keeps.ite
      | with_reducible apply Keeps.elim
      | with_reducible refine Device.orderClear_keeps (subT (by decide +kernel) hW) ?_ | intro _ _ hq | intro _
      | split
  | succ _ ih =>
    unfold Device.orderClears
    try dsimp only
    repeat' first
      | with_reducible exact h | with_reducible apply ih | with_reducible assumption | with_reducible apply Keeps.ite
      | with_reducible apply Keeps.elim
      | with_reducible refine Device.orderClear_keeps (subT (by decide +kernel) hW) ?_ | intro _ _ hq | intro _
      | split

def Touch.pnAssign : List Nat :=
  Touch.orderFrame

theorem Device.pnAssign_keeps {W : List Nat} {a : Device} {id : Nat} {d : Device} (hW : Sub Touch.pnAssign W) (h : Keeps W a d) :
    Keeps W a (Device.pnAssign id d) := by
  unfold Device.pnAssign
  try dsimp only
  repeat' first
    | with_reducible exact h | with_reducible assumption | with_reducible apply Keeps.ite
    | with_reducible apply Keeps.elim
    | with_reducible refine Device.orderClears_keeps (subT (by decide +kernel) hW) ?_
    | with_reducible refine Device.orderFrame_keeps (subT (by decide +kernel) hW) ?_ | intro _ _ hq | intro _ | split

def Touch.stopHoldExpiry : List Nat :=
  [O.LOCK, O.GROUP_OWNER, O.GROUP_STATE, O.GROUP_WRITES, O.GROUP_FAIL_ADDRESS, O.GROUP_FLAGS, O.SESSION_STATE,
  O.SESSION_ROLE, O.SESSION_CA, O.SESSION_ID, O.SESSION_LAST_COUNTER, O.RING_ENABLE, O.RING_HEAD, O.RING_TAIL,
  O.RING_STATE, O.RING_COMPLETED, O.RING_REJECTED, O.GUN_STATE, O.GUN_OWNER, O.GUN_FLAGS, O.SC_STATUS,
  O.FLT_SRC_EVENTS, O.FLT_SRC_LAST_AT, O.FLT_LOG_LAST_SEQ, O.FLT_LOG_OVERWRITTEN, O.FLT_EVENT_LOST,
  O.FLT_FIRST_SEVERE, O.FLT_LOG_RECORD, O.PMC_VALUE, O.PMC_STATUS, F.cyc, F.clk, F.out, F.sess, F.groups, F.ring,
  F.pcieDma, F.pciePending, F.faults, F.saHolds, F.clsx, F.pmc]

theorem Device.stopHoldExpiry_keeps {W : List Nat} {a : Device} {sc : Nat} {d : Device} (hW : Sub Touch.stopHoldExpiry W) (h : Keeps W a d) :
    Keeps W a (Device.stopHoldExpiry sc d) := by
  unfold Device.stopHoldExpiry
  try dsimp only
  repeat' first
    | with_reducible exact h | with_reducible apply Keeps.ite
    | with_reducible refine Device.passTo_keeps (subT (by decide +kernel) hW) ?_
    | with_reducible refine Device.holdExpired_keeps (subT (by decide +kernel) hW) ?_ | split

def Touch.stallCell : List Nat :=
  [O.BANK_KS_STALLS, F.pipe]

theorem Device.stallCell_keeps {W : List Nat} {a : Device} {d : Device} {f : Frame} (hW : Sub Touch.stallCell W) (h : Keeps W a d) :
    Keeps W a (Device.stallCell d f) := by
  unfold Device.stallCell
  try dsimp only
  repeat' first
    | with_reducible exact h | exact memT (by decide +kernel) hW | with_reducible apply Keeps.ite
    | with_reducible refine Device.inc64_keeps ?_ ?_
    | with_reducible refine Device.setFrame_keeps (subT (by decide +kernel) hW) ?_ | split

def Touch.passCell : List Nat :=
  [F.pipe, F.pmc]

theorem Device.passCell_keeps {W : List Nat} {a : Device} {d : Device} {f : Frame} (hW : Sub Touch.passCell W) (h : Keeps W a d) :
    Keeps W a (Device.passCell d f) := by
  unfold Device.passCell
  try dsimp only
  repeat' first
    | with_reducible exact h | with_reducible apply Keeps.ite
    | with_reducible refine Device.setFrame_keeps (subT (by decide +kernel) hW) ?_
    | with_reducible refine Device.setSlotCells_keeps (subT (by decide +kernel) hW) ?_
    | with_reducible refine Device.macStarts_keeps (subT (by decide +kernel) hW) ?_ | split

def Touch.cellStage : List Nat :=
  [O.RUNAHEAD_FALSE_STARTS, O.RUNAHEAD_WASTED_CELLS, O.BANK_KS_STALLS, O.PORT_FC_TX_XOFF_C0, O.PORT_FC_TX_XOFF_C1,
  O.PORT_FC_TX_XOFF_C2, O.PORT_FC_TX_XOFF_C3, O.PORT_FC_TX_XOFF_C4, O.PORT_FC_TX_XOFF_C5, O.PORT_FC_TX_XOFF_C6,
  O.PORT_FC_TX_XOFF_C7, O.SA_STAT_TX_LOST, O.CALLROOM_OCCUPANCY, O.CALLROOM_PEAK, O.QUEUE_OCCUPANCY, O.QUEUE_NODE,
  O.BUFP_USED_CELLS, O.BUF_HEADROOM_USED, O.PMC_VALUE, O.PMC_STATUS, F.out, F.pciePending, F.pipe, F.queues,
  F.nodes, F.pairs, F.ports, F.laps, F.pmc]

theorem Device.cellStage_keeps {W : List Nat} {a : Device} {d : Device} {f : Frame} (hW : Sub Touch.cellStage W) (h : Keeps W a d) :
    Keeps W a (Device.cellStage d f) := by
  unfold Device.cellStage
  try dsimp only
  repeat' first
    | with_reducible exact h | with_reducible apply Keeps.ite
    | with_reducible refine Device.stallCell_keeps (subT (by decide +kernel) hW) ?_
    | with_reducible refine Device.dropWhole_keeps (subT (by decide +kernel) hW) ?_
    | with_reducible refine Device.passCell_keeps (subT (by decide +kernel) hW) ?_ | split

def Touch.keystreamApply : List Nat :=
  [O.LOCK, O.GROUP_OWNER, O.GROUP_STATE, O.GROUP_WRITES, O.GROUP_FAIL_ADDRESS, O.GROUP_FLAGS, O.SESSION_STATE,
  O.SESSION_ROLE, O.SESSION_CA, O.SESSION_ID, O.SESSION_LAST_COUNTER, O.RING_ENABLE, O.RING_HEAD, O.RING_TAIL,
  O.RING_STATE, O.RING_COMPLETED, O.RING_REJECTED, O.RUNAHEAD_FALSE_STARTS, O.RUNAHEAD_WASTED_CELLS,
  O.BANK_KS_STALLS, O.GUN_STATE, O.GUN_OWNER, O.GUN_FLAGS, O.PORT_FC_TX_XOFF_C0, O.PORT_FC_TX_XOFF_C1,
  O.PORT_FC_TX_XOFF_C2, O.PORT_FC_TX_XOFF_C3, O.PORT_FC_TX_XOFF_C4, O.PORT_FC_TX_XOFF_C5, O.PORT_FC_TX_XOFF_C6,
  O.PORT_FC_TX_XOFF_C7, O.SA_STAT_TX_LOST, O.CALLROOM_OCCUPANCY, O.CALLROOM_PEAK, O.QUEUE_OCCUPANCY, O.QUEUE_NODE,
  O.QUEUE_DROP_FRAMES, O.QUEUE_DROP_BYTES, O.BUFP_USED_CELLS, O.BUFP_PEAK_CELLS, O.BUF_HEADROOM_USED,
  O.BUF_HEADROOM_DROPS, O.FLT_SRC_EVENTS, O.FLT_SRC_LAST_AT, O.FLT_LOG_LAST_SEQ, O.FLT_LOG_OVERWRITTEN,
  O.FLT_EVENT_LOST, O.FLT_FIRST_SEVERE, O.FLT_LOG_RECORD, O.PMC_VALUE, O.PMC_STATUS, F.cyc, F.clk, F.out, F.sess,
  F.groups, F.ring, F.pcieDma, F.pciePending, F.faults, F.pipe, F.clsx, F.queues, F.nodes, F.pairs, F.ports,
  F.laps, F.pmc]

theorem Device.keystreamApply_keeps {W : List Nat} {a : Device} {id : Nat} {cell : Nat} {d : Device} (hW : Sub Touch.keystreamApply W) (h : Keeps W a d) :
    Keeps W a (Device.keystreamApply id cell d) := by
  unfold Device.keystreamApply
  try dsimp only
  repeat' first
    | with_reducible exact h | with_reducible assumption | with_reducible apply Keeps.ite
    | with_reducible apply Keeps.elim
    | with_reducible refine Device.orderClears_keeps (subT (by decide +kernel) hW) ?_
    | with_reducible refine Device.passTo_keeps (subT (by decide +kernel) hW) ?_
    | with_reducible refine Device.arriveCells_keeps (subT (by decide +kernel) hW) ?_
    | with_reducible refine Device.cellStage_keeps (subT (by decide +kernel) hW) ?_ | intro _ _ hq | intro _ | split

def Touch.tailFail : List Nat :=
  Touch.dropWhole

theorem Device.tailFail_keeps {W : List Nat} {a : Device} {d : Device} {f : Frame} (hW : Sub Touch.tailFail W) (h : Keeps W a d) :
    Keeps W a (Device.tailFail d f) := by
  unfold Device.tailFail
  try dsimp only
  repeat' first
    | with_reducible exact h | with_reducible apply Keeps.ite
    | with_reducible refine Device.dropWhole_keeps (subT (by decide +kernel) hW) ?_
    | with_reducible refine Device.setFrame_keeps (subT (by decide +kernel) hW) ?_
    | with_reducible refine Device.macStarts_keeps (subT (by decide +kernel) hW) ?_ | split

def Touch.tailPass : List Nat :=
  [O.PORT_FC_TX_XOFF_C0, O.PORT_FC_TX_XOFF_C1, O.PORT_FC_TX_XOFF_C2, O.PORT_FC_TX_XOFF_C3, O.PORT_FC_TX_XOFF_C4,
  O.PORT_FC_TX_XOFF_C5, O.PORT_FC_TX_XOFF_C6, O.PORT_FC_TX_XOFF_C7, O.SA_FLAGS, O.SA_STAT_PKTS, O.SA_STAT_OCTETS,
  O.SA_STAT_PKTS_ENCRYPTED, O.LEARN_BATON_DROPS, O.QUEUE_OCCUPANCY, O.BUFP_USED_CELLS, O.BUF_HEADROOM_USED, F.out,
  F.saCtxs, F.pipe, F.clsx, F.queues, F.pairs, F.ports, F.laps]

theorem Device.tailPass_keeps {W : List Nat} {a : Device} {d : Device} {f : Frame} (hW : Sub Touch.tailPass W) (h : Keeps W a d) :
    Keeps W a (Device.tailPass d f) := by
  unfold Device.tailPass
  try dsimp only
  repeat' first
    | with_reducible exact h | with_reducible refine Device.rxCommit_keeps (subT (by decide +kernel) hW) ?_
    | with_reducible refine Device.freeCells_keeps (subT (by decide +kernel) hW) ?_
    | with_reducible refine Device.macStarts_keeps (subT (by decide +kernel) hW) ?_

def Touch.decryptTailVerify : List Nat :=
  [O.RUNAHEAD_FALSE_STARTS, O.RUNAHEAD_WASTED_CELLS, O.PORT_FC_TX_XOFF_C0, O.PORT_FC_TX_XOFF_C1,
  O.PORT_FC_TX_XOFF_C2, O.PORT_FC_TX_XOFF_C3, O.PORT_FC_TX_XOFF_C4, O.PORT_FC_TX_XOFF_C5, O.PORT_FC_TX_XOFF_C6,
  O.PORT_FC_TX_XOFF_C7, O.SA_FLAGS, O.SA_STAT_PKTS, O.SA_STAT_OCTETS, O.SA_STAT_PKTS_ENCRYPTED,
  O.SA_STAT_NOT_VALID, O.SA_STAT_COMMIT_LATE, O.SA_STAT_TX_LOST, O.CALLROOM_OCCUPANCY, O.CALLROOM_PEAK,
  O.LEARN_BATON_DROPS, O.QUEUE_OCCUPANCY, O.QUEUE_NODE, O.BUFP_USED_CELLS, O.BUF_HEADROOM_USED, O.PMC_VALUE,
  O.PMC_STATUS, F.out, F.pciePending, F.saCtxs, F.pipe, F.clsx, F.queues, F.nodes, F.pairs, F.ports, F.laps, F.pmc]

theorem Device.decryptTailVerify_keeps {W : List Nat} {a : Device} {id : Nat} {d : Device} (hW : Sub Touch.decryptTailVerify W) (h : Keeps W a d) :
    Keeps W a (Device.decryptTailVerify id d) := by
  unfold Device.decryptTailVerify
  try dsimp only
  repeat' first
    | with_reducible exact h | with_reducible assumption | exact memT (by decide +kernel) hW
    | with_reducible apply Keeps.ite | with_reducible apply Keeps.elim
    | with_reducible refine Device.tailFail_keeps (subT (by decide +kernel) hW) ?_
    | with_reducible refine Device.inc64_keeps ?_ ?_
    | with_reducible refine Device.tailPass_keeps (subT (by decide +kernel) hW) ?_ | intro _ _ hq | intro _ | split

def Touch.tcScheduledDeparture : List Nat :=
  [O.RUNAHEAD_FALSE_STARTS, O.RUNAHEAD_WASTED_CELLS, O.TC_SCHEDULED, O.TC_DEPARTURE_MISSED, O.PORT_FC_TX_XOFF_C0,
  O.PORT_FC_TX_XOFF_C1, O.PORT_FC_TX_XOFF_C2, O.PORT_FC_TX_XOFF_C3, O.PORT_FC_TX_XOFF_C4, O.PORT_FC_TX_XOFF_C5,
  O.PORT_FC_TX_XOFF_C6, O.PORT_FC_TX_XOFF_C7, O.SA_STAT_TX_LOST, O.CALLROOM_OCCUPANCY, O.CALLROOM_PEAK,
  O.QUEUE_OCCUPANCY, O.QUEUE_NODE, O.BUFP_USED_CELLS, O.BUF_HEADROOM_USED, O.PMC_VALUE, O.PMC_STATUS, F.cyc, F.clk,
  F.out, F.pciePending, F.pipe, F.queues, F.nodes, F.pairs, F.ports, F.laps, F.pmc]

theorem Device.tcScheduledDeparture_keeps {W : List Nat} {a : Device} {id : Nat} {lineFree : Bool} {d : Device} (hW : Sub Touch.tcScheduledDeparture W) (h : Keeps W a d) :
    Keeps W a (Device.tcScheduledDeparture id lineFree d) := by
  unfold Device.tcScheduledDeparture
  try dsimp only
  repeat' first
    | with_reducible exact h | with_reducible assumption | exact memT (by decide +kernel) hW
    | with_reducible apply Keeps.ite | with_reducible apply Keeps.elim
    | with_reducible refine Device.passTo_keeps (subT (by decide +kernel) hW) ?_
    | with_reducible refine Device.setFrame_keeps (subT (by decide +kernel) hW) ?_
    | with_reducible refine Device.macStarts_keeps (subT (by decide +kernel) hW) ?_
    | with_reducible refine Device.inc64_keeps ?_ ?_
    | with_reducible refine Device.dropWhole_keeps (subT (by decide +kernel) hW) ?_ | intro _ _ hq | intro _ | split

def Touch.leftGood : List Nat :=
  [O.TC_CORRECTED, O.TC_SATURATED, O.CA_CLEAR_PASS_TX, O.CA_CLEAR_PASS_RX, O.SA_STAT_PKTS, O.SA_STAT_OCTETS,
  O.SA_STAT_PKTS_ENCRYPTED, O.PMC_VALUE, O.PMC_STATUS, F.out, F.pciePending, F.laps, F.pmc]

theorem Device.leftGood_keeps {W : List Nat} {a : Device} {d : Device} {f : Frame} (hW : Sub Touch.leftGood W) (h : Keeps W a d) :
    Keeps W a (Device.leftGood d f) := by
  unfold Device.leftGood
  try dsimp only
  repeat' first
    | with_reducible exact h | exact memT (by decide +kernel) hW | with_reducible apply Keeps.ite
    | with_reducible refine Device.endSlots_keeps (subT (by decide +kernel) hW) ?_
    | with_reducible refine Device.inc64_keeps ?_ ?_
    | with_reducible refine Device.saStats_keeps (subT (by decide +kernel) hW) ?_
    | with_reducible refine Device.lapProtected_keeps (subT (by decide +kernel) hW) ?_ | split

def Touch.uncountScheduled : List Nat :=
  [O.TC_SCHEDULED]

theorem Device.uncountScheduled_keeps {W : List Nat} {a : Device} {d : Device} {f : Frame} (hW : Sub Touch.uncountScheduled W) (h : Keeps W a d) :
    Keeps W a (Device.uncountScheduled d f) := by
  unfold Device.uncountScheduled
  try dsimp only
  repeat' first
    | with_reducible exact h | exact memT (by decide +kernel) hW | with_reducible apply Keeps.ite
    | with_reducible refine Device.sub64_keeps ?_ ?_ | split

def Touch.leftPoisoned : List Nat :=
  [O.PORT_TX_POISONED, O.SA_STAT_TX_LOST, O.PMC_VALUE, O.PMC_STATUS, F.out, F.pciePending, F.laps, F.pmc]

theorem Device.leftPoisoned_keeps {W : List Nat} {a : Device} {d : Device} {f : Frame} (hW : Sub Touch.leftPoisoned W) (h : Keeps W a d) :
    Keeps W a (Device.leftPoisoned d f) := by
  unfold Device.leftPoisoned
  try dsimp only
  repeat' first
    | with_reducible exact h | exact memT (by decide +kernel) hW | with_reducible refine Device.inc64_keeps ?_ ?_
    | with_reducible refine Device.pmcSlice_keeps (subT (by decide +kernel) hW) ?_
    | with_reducible refine Device.endSlots_keeps (subT (by decide +kernel) hW) ?_
    | with_reducible refine Device.countLost_keeps (subT (by decide +kernel) hW) ?_

def Touch.leaving : List Nat :=
  [O.TC_MALFORMED]

theorem Device.leaving_keeps {W : List Nat} {a : Device} {d : Device} {f : Frame} (hW : Sub Touch.leaving W) (h : Keeps W a d) :
    Keeps W a (Device.leaving d f).2 := by
  unfold Device.leaving
  try dsimp only
  repeat' first
    | with_reducible exact h | with_reducible apply Keeps.ite
    | with_reducible refine Device.tcInFlight_keeps (subT (by decide +kernel) hW) ?_
    | with_reducible apply Keeps.ite2 | split

def Touch.frameTxComplete : List Nat :=
  [O.TC_CORRECTED, O.TC_MALFORMED, O.TC_SATURATED, O.PORT_TX_FRAMES, O.PORT_TX_BYTES, O.PORT_TX_POISONED,
  O.PORT_FC_TX_XOFF_C0, O.PORT_FC_TX_XOFF_C1, O.PORT_FC_TX_XOFF_C2, O.PORT_FC_TX_XOFF_C3, O.PORT_FC_TX_XOFF_C4,
  O.PORT_FC_TX_XOFF_C5, O.PORT_FC_TX_XOFF_C6, O.PORT_FC_TX_XOFF_C7, O.CA_CLEAR_PASS_TX, O.CA_CLEAR_PASS_RX,
  O.SA_STAT_PKTS, O.SA_STAT_OCTETS, O.SA_STAT_PKTS_ENCRYPTED, O.SA_STAT_TX_LOST, O.CALLROOM_OCCUPANCY,
  O.CALLROOM_PEAK, O.QUEUE_OCCUPANCY, O.QUEUE_NODE, O.BUFP_USED_CELLS, O.BUF_HEADROOM_USED, O.PMC_VALUE,
  O.PMC_STATUS, F.out, F.pciePending, F.pipe, F.queues, F.nodes, F.pairs, F.ports, F.laps, F.pmc]

theorem Device.frameTxComplete_keeps {W : List Nat} {a : Device} {id : Nat} {d : Device} (hW : Sub Touch.frameTxComplete W) (h : Keeps W a d) :
    Keeps W a (Device.frameTxComplete id d) := by
  unfold Device.frameTxComplete
  try dsimp only
  repeat' first
    | with_reducible exact h | with_reducible assumption | with_reducible apply Keeps.ite
    | with_reducible apply Keeps.elim | with_reducible refine Device.leaving_keeps (subT (by decide +kernel) hW) ?_
    | with_reducible refine Device.txCount_keeps (subT (by decide +kernel) hW) ?_
    | with_reducible refine Device.emit_keeps (subT (by decide +kernel) hW) ?_
    | with_reducible refine Device.leftPoisoned_keeps (subT (by decide +kernel) hW) ?_
    | with_reducible refine Device.leftGood_keeps (subT (by decide +kernel) hW) ?_
    | with_reducible refine Device.removeFrame_keeps (subT (by decide +kernel) hW) ?_
    | with_reducible refine Device.macStarts_keeps (subT (by decide +kernel) hW) ?_ | with_reducible apply Keeps.ite2
    | with_reducible apply Keeps.elim2 | intro _ _ hq | intro _ | split

end Sys2Proof.Machine
end

