-- ==== Sys2Proof/Laws/KeepsSram.lean ====
section
/-!
SUPPORT. The places that each operation of Machine/Sram.lean may change (Laws/Keeps.lean).
-/
set_option Elab.async false
set_option linter.all false
set_option linter.unusedTactic false
set_option linter.unreachableTactic false
set_option linter.style.longLine false
namespace Sys2Proof.Machine

def Touch.setSram : List Nat :=
  [F.sram]

theorem Device.setSram_keeps {W : List Nat} {a : Device} {d : Device} {x : SramX} (hW : Sub Touch.setSram W) (h : Keeps W a d) :
    Keeps W a (Device.setSram d x) := 
  h.same rfl rfl (fun k hk => by
    unfold sameField
    split <;> first | rfl | exact absurd (memF (by decide +kernel) hW) hk | trivial)

def Touch.spareRow : List Nat :=
  [O.LOCK, O.GROUP_OWNER, O.GROUP_STATE, O.GROUP_WRITES, O.GROUP_FAIL_ADDRESS, O.GROUP_FLAGS, O.SESSION_STATE,
  O.SESSION_ROLE, O.SESSION_CA, O.SESSION_ID, O.SESSION_LAST_COUNTER, O.ROLE_ROOT, O.RING_ENABLE, O.RING_HEAD,
  O.RING_TAIL, O.RING_STATE, O.RING_COMPLETED, O.RING_REJECTED, O.INJECT_REFUSED, O.MODE, O.MODE_CMD,
  O.MODE_ENTERED_AT, O.MODE_CAUSE, O.RUNAHEAD_FALSE_STARTS, O.RUNAHEAD_WASTED_CELLS, O.BANK_DISCARDS,
  O.VAULT_STATE, O.VAULT_HANDLE, O.VAULT_LEVEL, O.VAULT_PURPOSE, O.VAULT_KEY_BITS, O.VAULT_COUNTED,
  O.VAULT_USES_LEFT, O.VAULT_ORIGIN, O.VAULT_PARENT, O.VAULT_CREATED_AT, O.VAULT_ARG_KEY, O.VAULT_CMD,
  O.VAULT_RESULT_HANDLE, O.DRBG_STATE, O.LA_CONTEXTS_BUSY, O.GUN_STATE, O.GUN_OWNER, O.GUN_FLAGS, O.PORT_TX_FRAMES,
  O.PORT_TX_BYTES, O.PORT_TX_TRUNCATED, O.PORT_FC_TX_XOFF_C0, O.PORT_FC_TX_XOFF_C1, O.PORT_FC_TX_XOFF_C2,
  O.PORT_FC_TX_XOFF_C3, O.PORT_FC_TX_XOFF_C4, O.PORT_FC_TX_XOFF_C5, O.PORT_FC_TX_XOFF_C6, O.PORT_FC_TX_XOFF_C7,
  O.SC_STATUS, O.SA_STATE, O.SA_KEK, O.SA_SLOT, O.SA_FLAGS, O.SA_CHANGED_AT, O.SCSA_SLOT0_ROW, O.SCSA_SLOT1_ROW,
  O.SCSA_IN_FORCE_AN, O.SCSA_ZONE_OPEN, O.SA_STAT_PKTS, O.SA_STAT_OCTETS, O.SA_STAT_PKTS_ENCRYPTED,
  O.SA_STAT_NOT_VALID, O.SA_STAT_COMMIT_LATE, O.SA_STAT_TX_LOST, O.CALLROOM_OCCUPANCY, O.CALLROOM_PEAK,
  O.QUEUE_OCCUPANCY, O.QUEUE_NODE, O.BUFP_USED_CELLS, O.BUF_HEADROOM_USED, O.SRAM_SPARES_LEFT, O.SRAM_ROWS_SPARED,
  O.FLT_SRC_CLASS, O.FLT_SRC_EVENTS, O.FLT_SRC_LAST_AT, O.FLT_STATUS, O.FLT_FATAL_SINCE_BOOT, O.FLT_LOG_LAST_SEQ,
  O.FLT_LOG_OVERWRITTEN, O.FLT_EVENT_LOST, O.FLT_FIRST_SEVERE, O.FLT_LOG_RECORD, O.PMC_VALUE, O.PMC_STATUS,
  O.PEER_KEY, F.mode, F.draws, F.out, F.sess, F.groups, F.ring, F.pcieDma, F.pciePending, F.faults, F.vault,
  F.checkKey, F.storeKey, F.keyTests, F.keyRestart, F.keyScrub, F.saRecs, F.saCtxs, F.banks, F.pipe, F.clsx,
  F.queues, F.nodes, F.pairs, F.ports, F.laps, F.pmc, F.lc, F.sram, F.la, F.keyScrubFrom, F.keyReseed,
  F.keyRequests]

theorem Device.spareRow_keeps {W : List Nat} {a : Device} {d : Device} {m : Nat} {row : Nat} {src : Nat} (hW : Sub Touch.spareRow W) (h : Keeps W a d) :
    Keeps W a (Device.spareRow d m row src) := by
  unfold Device.spareRow
  try dsimp only
  repeat' first
    | with_reducible exact h | exact memT (by decide +kernel) hW | with_reducible refine Device.wr_keeps ?_ ?_
    | with_reducible refine Device.setSram_keeps (subT (by decide +kernel) hW) ?_
    | with_reducible refine Device.faultUnit_keeps (subT (by decide +kernel) hW) ?_

def Touch.withhold : List Nat :=
  [O.LOCK, O.GROUP_OWNER, O.GROUP_STATE, O.GROUP_WRITES, O.GROUP_FAIL_ADDRESS, O.GROUP_FLAGS, O.SESSION_STATE,
  O.SESSION_ROLE, O.SESSION_CA, O.SESSION_ID, O.SESSION_LAST_COUNTER, O.RING_ENABLE, O.RING_HEAD, O.RING_TAIL,
  O.RING_STATE, O.RING_COMPLETED, O.RING_REJECTED, O.GUN_STATE, O.GUN_OWNER, O.GUN_FLAGS, O.SC_STATUS, O.SA_STATE,
  O.SA_FLAGS, O.SA_CHANGED_AT, O.SCSA_IN_FORCE_AN, O.SCSA_ZONE_OPEN, O.FLT_SRC_EVENTS, O.FLT_SRC_LAST_AT,
  O.FLT_LOG_LAST_SEQ, O.FLT_LOG_OVERWRITTEN, O.FLT_EVENT_LOST, O.FLT_FIRST_SEVERE, O.FLT_LOG_RECORD, O.PMC_VALUE,
  O.PMC_STATUS, F.out, F.sess, F.groups, F.ring, F.pcieDma, F.pciePending, F.faults, F.banks, F.clsx, F.pmc,
  F.sram]

theorem Device.withhold_keeps {W : List Nat} {a : Device} {d : Device} {slot : Nat} (hW : Sub Touch.withhold W) (h : Keeps W a d) :
    Keeps W a (Device.withhold d slot) := by
  unfold Device.withhold
  try dsimp only
  repeat' first
    | with_reducible exact h | with_reducible apply Keeps.ite
    | with_reducible refine Device.saBad_keeps (subT (by decide +kernel) hW) ?_
    | with_reducible refine Device.setSram_keeps (subT (by decide +kernel) hW) ?_ | split

def Touch.loseFrame : List Nat :=
  [F.clsx, F.sram]

theorem Device.loseFrame_keeps {W : List Nat} {a : Device} {d : Device} {f : Nat} (hW : Sub Touch.loseFrame W) (h : Keeps W a d) :
    Keeps W a (Device.loseFrame d f) := by
  unfold Device.loseFrame
  try dsimp only
  repeat' first
    | with_reducible exact h | with_reducible refine Device.dropFrame_keeps (subT (by decide +kernel) hW) ?_
    | with_reducible refine Device.setSram_keeps (subT (by decide +kernel) hW) ?_

def Touch.loseTreeLines : List Nat :=
  Touch.counterEnd

theorem Device.loseTreeLines_keeps {W : List Nat} {a : Device} {d : Device} (hW : Sub Touch.loseTreeLines W) (h : Keeps W a d) :
    Keeps W a (Device.loseTreeLines d) := by
  unfold Device.loseTreeLines
  try dsimp only
  repeat' first
    | with_reducible exact h | with_reducible refine Device.setMem_keeps (subT (by decide +kernel) hW) ?_ rfl
    | with_reducible refine Device.trimCache_keeps (subT (by decide +kernel) hW) ?_

def Touch.rowFault : List Nat :=
  Touch.fault

theorem Device.rowFault_keeps {W : List Nat} {a : Device} {d : Device} {m : Nat} (hW : Sub Touch.rowFault W) (h : Keeps W a d) :
    Keeps W a (Device.rowFault d m) := by
  unfold Device.rowFault
  try dsimp only
  repeat' first
    | with_reducible exact h | with_reducible refine Device.faultUnit_keeps (subT (by decide +kernel) hW) ?_

def Touch.loseRow : List Nat :=
  [O.LOCK, O.GROUP_OWNER, O.GROUP_STATE, O.GROUP_WRITES, O.GROUP_FAIL_ADDRESS, O.GROUP_FLAGS, O.SESSION_STATE,
  O.SESSION_ROLE, O.SESSION_CA, O.SESSION_ID, O.SESSION_LAST_COUNTER, O.ROLE_ROOT, O.RING_ENABLE, O.RING_HEAD,
  O.RING_TAIL, O.RING_STATE, O.RING_COMPLETED, O.RING_REJECTED, O.INJECT_REFUSED, O.MODE, O.MODE_CMD,
  O.MODE_ENTERED_AT, O.MODE_CAUSE, O.SLICE_STATE, O.SLICE_CAUSE, O.SLICE_DISCARDED, O.RUNAHEAD_FALSE_STARTS,
  O.RUNAHEAD_WASTED_CELLS, O.BANK_DISCARDS, O.VAULT_STATE, O.VAULT_HANDLE, O.VAULT_LEVEL, O.VAULT_PURPOSE,
  O.VAULT_KEY_BITS, O.VAULT_COUNTED, O.VAULT_USES_LEFT, O.VAULT_ORIGIN, O.VAULT_PARENT, O.VAULT_CREATED_AT,
  O.VAULT_ARG_KEY, O.VAULT_CMD, O.VAULT_RESULT_HANDLE, O.DRBG_STATE, O.LA_CONTEXTS_BUSY, O.GUN_STATE, O.GUN_OWNER,
  O.GUN_FLAGS, O.PORT_TX_FRAMES, O.PORT_TX_BYTES, O.PORT_TX_TRUNCATED, O.PORT_FC_TX_XOFF_C0, O.PORT_FC_TX_XOFF_C1,
  O.PORT_FC_TX_XOFF_C2, O.PORT_FC_TX_XOFF_C3, O.PORT_FC_TX_XOFF_C4, O.PORT_FC_TX_XOFF_C5, O.PORT_FC_TX_XOFF_C6,
  O.PORT_FC_TX_XOFF_C7, O.SC_STATUS, O.SA_STATE, O.SA_KEK, O.SA_SLOT, O.SA_FLAGS, O.SA_CHANGED_AT,
  O.SCSA_SLOT0_ROW, O.SCSA_SLOT1_ROW, O.SCSA_IN_FORCE_AN, O.SCSA_ZONE_OPEN, O.SA_STAT_PKTS, O.SA_STAT_OCTETS,
  O.SA_STAT_PKTS_ENCRYPTED, O.SA_STAT_NOT_VALID, O.SA_STAT_COMMIT_LATE, O.SA_STAT_TX_LOST, O.CALLROOM_OCCUPANCY,
  O.CALLROOM_PEAK, O.QUEUE_OCCUPANCY, O.QUEUE_NODE, O.BUFP_USED_CELLS, O.BUF_HEADROOM_USED, O.MEM_CTR_READONLY,
  O.FLT_SRC_CLASS, O.FLT_SRC_EVENTS, O.FLT_SRC_LAST_AT, O.FLT_STATUS, O.FLT_FATAL_SINCE_BOOT, O.FLT_LOG_LAST_SEQ,
  O.FLT_LOG_OVERWRITTEN, O.FLT_EVENT_LOST, O.FLT_FIRST_SEVERE, O.FLT_LOG_RECORD, O.PMC_VALUE, O.PMC_STATUS,
  O.PEER_KEY, F.mode, F.draws, F.out, F.sess, F.groups, F.ring, F.pcieDma, F.pciePending, F.faults, F.vault,
  F.checkKey, F.storeKey, F.keyTests, F.keyRestart, F.keyScrub, F.saRecs, F.saCtxs, F.banks, F.pipe, F.clsx,
  F.queues, F.nodes, F.pairs, F.ports, F.laps, F.pmc, F.memRest, F.lc, F.sram, F.la, F.keyScrubFrom, F.keyReseed,
  F.keyRequests]

theorem Device.loseRow_keeps {W : List Nat} {a : Device} {d : Device} {m : Nat} {row : Nat} (hW : Sub Touch.loseRow W) (h : Keeps W a d) :
    Keeps W a (Device.loseRow d m row) := by
  unfold Device.loseRow
  try dsimp only
  repeat' first
    | with_reducible exact h | with_reducible assumption | with_reducible apply Keeps.ite
    | with_reducible apply Keeps.foldl | with_reducible refine Device.withhold_keeps (subT (by decide +kernel) hW) ?_
    | with_reducible refine Device.rowFault_keeps (subT (by decide +kernel) hW) ?_
    | with_reducible refine Device.setSram_keeps (subT (by decide +kernel) hW) ?_
    | with_reducible refine Device.loseFrame_keeps (subT (by decide +kernel) hW) ?_
    | with_reducible refine Device.sliceFail_keeps (subT (by decide +kernel) hW) ?_
    | with_reducible refine Device.loseTreeLines_keeps (subT (by decide +kernel) hW) ?_
    | with_reducible refine Device.faultUnit_keeps (subT (by decide +kernel) hW) ?_ | intro _ _ hq | intro _ | split

def Touch.retireRow : List Nat :=
  [O.LOCK, O.GROUP_OWNER, O.GROUP_STATE, O.GROUP_WRITES, O.GROUP_FAIL_ADDRESS, O.GROUP_FLAGS, O.SESSION_STATE,
  O.SESSION_ROLE, O.SESSION_CA, O.SESSION_ID, O.SESSION_LAST_COUNTER, O.ROLE_ROOT, O.RING_ENABLE, O.RING_HEAD,
  O.RING_TAIL, O.RING_STATE, O.RING_COMPLETED, O.RING_REJECTED, O.INJECT_REFUSED, O.MODE, O.MODE_CMD,
  O.MODE_ENTERED_AT, O.MODE_CAUSE, O.SLICE_STATE, O.SLICE_CAUSE, O.SLICE_DISCARDED, O.RUNAHEAD_FALSE_STARTS,
  O.RUNAHEAD_WASTED_CELLS, O.BANK_DISCARDS, O.VAULT_STATE, O.VAULT_HANDLE, O.VAULT_LEVEL, O.VAULT_PURPOSE,
  O.VAULT_KEY_BITS, O.VAULT_COUNTED, O.VAULT_USES_LEFT, O.VAULT_ORIGIN, O.VAULT_PARENT, O.VAULT_CREATED_AT,
  O.VAULT_ARG_KEY, O.VAULT_CMD, O.VAULT_RESULT_HANDLE, O.DRBG_STATE, O.LA_CONTEXTS_BUSY, O.GUN_STATE, O.GUN_OWNER,
  O.GUN_FLAGS, O.PORT_TX_FRAMES, O.PORT_TX_BYTES, O.PORT_TX_TRUNCATED, O.PORT_FC_TX_XOFF_C0, O.PORT_FC_TX_XOFF_C1,
  O.PORT_FC_TX_XOFF_C2, O.PORT_FC_TX_XOFF_C3, O.PORT_FC_TX_XOFF_C4, O.PORT_FC_TX_XOFF_C5, O.PORT_FC_TX_XOFF_C6,
  O.PORT_FC_TX_XOFF_C7, O.SC_STATUS, O.SA_STATE, O.SA_KEK, O.SA_SLOT, O.SA_FLAGS, O.SA_CHANGED_AT,
  O.SCSA_SLOT0_ROW, O.SCSA_SLOT1_ROW, O.SCSA_IN_FORCE_AN, O.SCSA_ZONE_OPEN, O.SA_STAT_PKTS, O.SA_STAT_OCTETS,
  O.SA_STAT_PKTS_ENCRYPTED, O.SA_STAT_NOT_VALID, O.SA_STAT_COMMIT_LATE, O.SA_STAT_TX_LOST, O.CALLROOM_OCCUPANCY,
  O.CALLROOM_PEAK, O.QUEUE_OCCUPANCY, O.QUEUE_NODE, O.BUFP_USED_CELLS, O.BUF_HEADROOM_USED, O.MEM_CTR_READONLY,
  O.SRAM_ROWS_RETIRED, O.FLT_SRC_CLASS, O.FLT_SRC_EVENTS, O.FLT_SRC_LAST_AT, O.FLT_STATUS, O.FLT_FATAL_SINCE_BOOT,
  O.FLT_LOG_LAST_SEQ, O.FLT_LOG_OVERWRITTEN, O.FLT_EVENT_LOST, O.FLT_FIRST_SEVERE, O.FLT_LOG_RECORD, O.PMC_VALUE,
  O.PMC_STATUS, O.PEER_KEY, F.mode, F.draws, F.out, F.sess, F.groups, F.ring, F.pcieDma, F.pciePending, F.faults,
  F.vault, F.checkKey, F.storeKey, F.keyTests, F.keyRestart, F.keyScrub, F.saRecs, F.saCtxs, F.banks, F.pipe,
  F.clsx, F.queues, F.nodes, F.pairs, F.ports, F.laps, F.pmc, F.memRest, F.lc, F.sram, F.la, F.keyScrubFrom,
  F.keyReseed, F.keyRequests]

theorem Device.retireRow_keeps {W : List Nat} {a : Device} {d : Device} {m : Nat} {row : Nat} (hW : Sub Touch.retireRow W) (h : Keeps W a d) :
    Keeps W a (Device.retireRow d m row) := by
  unfold Device.retireRow
  try dsimp only
  repeat' first
    | with_reducible exact h | with_reducible assumption | exact memT (by decide +kernel) hW
    | with_reducible refine Device.wr_keeps ?_ ?_
    | with_reducible refine Device.setPipe_keeps (subT (by decide +kernel) hW) ?_
    | with_reducible refine Device.setSram_keeps (subT (by decide +kernel) hW) ?_
    | with_reducible refine Device.loseRow_keeps (subT (by decide +kernel) hW) ?_ | intro _ _ hq | intro _

def Touch.loseCell : List Nat :=
  Touch.dropOpen

theorem Device.loseCell_keeps {W : List Nat} {a : Device} {d : Device} {f : Frame} (hW : Sub Touch.loseCell W) (h : Keeps W a d) :
    Keeps W a (Device.loseCell d f) := by
  unfold Device.loseCell
  try dsimp only
  repeat' first
    | with_reducible exact h | with_reducible apply Keeps.ite
    | with_reducible refine Device.setFrame_keeps (subT (by decide +kernel) hW) ?_
    | with_reducible refine Device.discardFrame_keeps (subT (by decide +kernel) hW) ?_ | split

def Touch.markUnusable : List Nat :=
  [F.sram]

theorem Device.markUnusable_keeps {W : List Nat} {a : Device} {d : Device} {m : Nat} {row : Nat} {word : Nat} (hW : Sub Touch.markUnusable W) (h : Keeps W a d) :
    Keeps W a (Device.markUnusable d m row word) := by
  unfold Device.markUnusable
  try dsimp only
  repeat' first
    | with_reducible exact h | with_reducible refine Device.setSram_keeps (subT (by decide +kernel) hW) ?_

def Touch.loseContext : List Nat :=
  Touch.saBad

theorem Device.loseContext_keeps {W : List Nat} {a : Device} {d : Device} {m : Nat} {row : Nat} {word : Nat} (hW : Sub Touch.loseContext W) (h : Keeps W a d) :
    Keeps W a (Device.loseContext d m row word) := by
  unfold Device.loseContext
  try dsimp only
  repeat' first
    | with_reducible exact h | with_reducible apply Keeps.ite
    | with_reducible refine Device.saBad_keeps (subT (by decide +kernel) hW) ?_ | split

def Touch.loseWord : List Nat :=
  [O.LOCK, O.GROUP_OWNER, O.GROUP_STATE, O.GROUP_WRITES, O.GROUP_FAIL_ADDRESS, O.GROUP_FLAGS, O.SESSION_STATE,
  O.SESSION_ROLE, O.SESSION_CA, O.SESSION_ID, O.SESSION_LAST_COUNTER, O.RING_ENABLE, O.RING_HEAD, O.RING_TAIL,
  O.RING_STATE, O.RING_COMPLETED, O.RING_REJECTED, O.INJECT_REFUSED, O.RUNAHEAD_FALSE_STARTS,
  O.RUNAHEAD_WASTED_CELLS, O.GUN_STATE, O.GUN_OWNER, O.GUN_FLAGS, O.PORT_FC_TX_XOFF_C0, O.PORT_FC_TX_XOFF_C1,
  O.PORT_FC_TX_XOFF_C2, O.PORT_FC_TX_XOFF_C3, O.PORT_FC_TX_XOFF_C4, O.PORT_FC_TX_XOFF_C5, O.PORT_FC_TX_XOFF_C6,
  O.PORT_FC_TX_XOFF_C7, O.SC_STATUS, O.SA_STATE, O.SA_FLAGS, O.SA_CHANGED_AT, O.SCSA_IN_FORCE_AN, O.SCSA_ZONE_OPEN,
  O.SA_STAT_TX_LOST, O.CALLROOM_OCCUPANCY, O.CALLROOM_PEAK, O.QUEUE_OCCUPANCY, O.QUEUE_NODE, O.BUFP_USED_CELLS,
  O.BUF_HEADROOM_USED, O.FLT_SRC_EVENTS, O.FLT_SRC_LAST_AT, O.FLT_LOG_LAST_SEQ, O.FLT_LOG_OVERWRITTEN,
  O.FLT_EVENT_LOST, O.FLT_FIRST_SEVERE, O.FLT_LOG_RECORD, O.PMC_VALUE, O.PMC_STATUS, F.out, F.sess, F.groups,
  F.ring, F.pcieDma, F.pciePending, F.faults, F.banks, F.pipe, F.clsx, F.queues, F.nodes, F.pairs, F.ports, F.laps,
  F.pmc, F.sram]

theorem Device.loseWord_keeps {W : List Nat} {a : Device} {d : Device} {m : Nat} {row : Nat} {word : Nat} {named : Option Frame} (hW : Sub Touch.loseWord W) (h : Keeps W a d) :
    Keeps W a (Device.loseWord d m row word named) := by
  unfold Device.loseWord
  try dsimp only
  repeat' first
    | with_reducible exact h | with_reducible assumption | with_reducible apply Keeps.ite
    | with_reducible apply Keeps.elim | with_reducible refine Device.loseCell_keeps (subT (by decide +kernel) hW) ?_
    | with_reducible refine Device.markUnusable_keeps (subT (by decide +kernel) hW) ?_
    | with_reducible refine Device.loseContext_keeps (subT (by decide +kernel) hW) ?_
    | with_reducible refine Device.dropFrame_keeps (subT (by decide +kernel) hW) ?_ | intro _ _ hq | intro _ | split

def Touch.sramRowSpare : List Nat :=
  [O.LOCK, O.GROUP_OWNER, O.GROUP_STATE, O.GROUP_WRITES, O.GROUP_FAIL_ADDRESS, O.GROUP_FLAGS, O.SESSION_STATE,
  O.SESSION_ROLE, O.SESSION_CA, O.SESSION_ID, O.SESSION_LAST_COUNTER, O.ROLE_ROOT, O.RING_ENABLE, O.RING_HEAD,
  O.RING_TAIL, O.RING_STATE, O.RING_COMPLETED, O.RING_REJECTED, O.INJECT_REFUSED, O.MODE, O.MODE_CMD,
  O.MODE_ENTERED_AT, O.MODE_CAUSE, O.SLICE_STATE, O.SLICE_CAUSE, O.SLICE_DISCARDED, O.RUNAHEAD_FALSE_STARTS,
  O.RUNAHEAD_WASTED_CELLS, O.BANK_DISCARDS, O.VAULT_STATE, O.VAULT_HANDLE, O.VAULT_LEVEL, O.VAULT_PURPOSE,
  O.VAULT_KEY_BITS, O.VAULT_COUNTED, O.VAULT_USES_LEFT, O.VAULT_ORIGIN, O.VAULT_PARENT, O.VAULT_CREATED_AT,
  O.VAULT_ARG_KEY, O.VAULT_CMD, O.VAULT_RESULT_HANDLE, O.DRBG_STATE, O.LA_CONTEXTS_BUSY, O.GUN_STATE, O.GUN_OWNER,
  O.GUN_FLAGS, O.PORT_TX_FRAMES, O.PORT_TX_BYTES, O.PORT_TX_TRUNCATED, O.PORT_FC_TX_XOFF_C0, O.PORT_FC_TX_XOFF_C1,
  O.PORT_FC_TX_XOFF_C2, O.PORT_FC_TX_XOFF_C3, O.PORT_FC_TX_XOFF_C4, O.PORT_FC_TX_XOFF_C5, O.PORT_FC_TX_XOFF_C6,
  O.PORT_FC_TX_XOFF_C7, O.SC_STATUS, O.SA_STATE, O.SA_KEK, O.SA_SLOT, O.SA_FLAGS, O.SA_CHANGED_AT,
  O.SCSA_SLOT0_ROW, O.SCSA_SLOT1_ROW, O.SCSA_IN_FORCE_AN, O.SCSA_ZONE_OPEN, O.SA_STAT_PKTS, O.SA_STAT_OCTETS,
  O.SA_STAT_PKTS_ENCRYPTED, O.SA_STAT_NOT_VALID, O.SA_STAT_COMMIT_LATE, O.SA_STAT_TX_LOST, O.CALLROOM_OCCUPANCY,
  O.CALLROOM_PEAK, O.QUEUE_OCCUPANCY, O.QUEUE_NODE, O.BUFP_USED_CELLS, O.BUF_HEADROOM_USED, O.MEM_CTR_READONLY,
  O.SRAM_SPARES_LEFT, O.SRAM_ROWS_SPARED, O.SRAM_ROWS_RETIRED, O.FLT_SRC_CLASS, O.FLT_SRC_EVENTS,
  O.FLT_SRC_LAST_AT, O.FLT_STATUS, O.FLT_FATAL_SINCE_BOOT, O.FLT_LOG_LAST_SEQ, O.FLT_LOG_OVERWRITTEN,
  O.FLT_EVENT_LOST, O.FLT_FIRST_SEVERE, O.FLT_LOG_RECORD, O.PMC_VALUE, O.PMC_STATUS, O.PEER_KEY, F.mode, F.draws,
  F.out, F.sess, F.groups, F.ring, F.pcieDma, F.pciePending, F.faults, F.vault, F.checkKey, F.storeKey, F.keyTests,
  F.keyRestart, F.keyScrub, F.saRecs, F.saCtxs, F.banks, F.pipe, F.clsx, F.queues, F.nodes, F.pairs, F.ports,
  F.laps, F.pmc, F.memRest, F.lc, F.sram, F.la, F.keyScrubFrom, F.keyReseed, F.keyRequests]

theorem Device.sramRowSpare_keeps {W : List Nat} {a : Device} {m : Nat} {row : Nat} {c : SpareCause} {d : Device} (hW : Sub Touch.sramRowSpare W) (h : Keeps W a d) :
    Keeps W a (Device.sramRowSpare m row c d) := by
  unfold Device.sramRowSpare
  try dsimp only
  repeat' first
    | with_reducible exact h | with_reducible assumption | with_reducible apply Keeps.ite
    | with_reducible refine Device.loseWord_keeps (subT (by decide +kernel) hW) ?_
    | with_reducible refine Device.retireRow_keeps (subT (by decide +kernel) hW) ?_
    | with_reducible refine Device.rowFault_keeps (subT (by decide +kernel) hW) ?_
    | with_reducible refine Device.spareRow_keeps (subT (by decide +kernel) hW) ?_ | split

def Touch.awaitKeys : List Nat :=
  [F.pipe]

theorem Device.awaitKeys_keeps {W : List Nat} {a : Device} {slot : Nat} {d : Device} {f : Frame} (hW : Sub Touch.awaitKeys W) (h : Keeps W a d) :
    Keeps W a (Device.awaitKeys slot d f) := by
  unfold Device.awaitKeys
  try dsimp only
  repeat' first
    | with_reducible exact h | with_reducible refine Device.setFrame_keeps (subT (by decide +kernel) hW) ?_

def Touch.reloadKeys : List Nat :=
  [F.banks, F.pipe]

theorem Device.reloadKeys_keeps {W : List Nat} {a : Device} {d : Device} {b : Nat} {slot : Nat} (hW : Sub Touch.reloadKeys W) (h : Keeps W a d) :
    Keeps W a (Device.reloadKeys d b slot) := by
  unfold Device.reloadKeys
  try dsimp only
  repeat' first
    | with_reducible exact h | with_reducible assumption | with_reducible apply Keeps.elim
    | with_reducible apply Keeps.foldl
    | with_reducible refine Device.awaitKeys_keeps (subT (by decide +kernel) hW) ?_
    | with_reducible refine Device.setCache_keeps (subT (by decide +kernel) hW) ?_
    | with_reducible refine Device.startLoad_keeps (subT (by decide +kernel) hW) ?_ | intro _ _ hq | intro _

def Touch.loseEntry : List Nat :=
  Touch.discardZeroed

theorem Device.loseEntry_keeps {W : List Nat} {a : Device} {d : Device} {b : Nat} {id : Nat} (hW : Sub Touch.loseEntry W) (h : Keeps W a d) :
    Keeps W a (Device.loseEntry d b id) := by
  unfold Device.loseEntry
  try dsimp only
  repeat' first
    | with_reducible exact h | with_reducible assumption | exact memT (by decide +kernel) hW
    | with_reducible apply Keeps.elim | with_reducible refine Device.inc64_keeps ?_ ?_
    | with_reducible refine Device.cutShort_keeps (subT (by decide +kernel) hW) ?_ | intro _ _ hq | intro _

def Touch.loseBankWord : List Nat :=
  [O.RING_HEAD, O.RING_TAIL, O.RING_STATE, O.RING_COMPLETED, O.RING_REJECTED, O.INJECT_REFUSED,
  O.RUNAHEAD_FALSE_STARTS, O.RUNAHEAD_WASTED_CELLS, O.BANK_DISCARDS, O.PORT_FC_TX_XOFF_C0, O.PORT_FC_TX_XOFF_C1,
  O.PORT_FC_TX_XOFF_C2, O.PORT_FC_TX_XOFF_C3, O.PORT_FC_TX_XOFF_C4, O.PORT_FC_TX_XOFF_C5, O.PORT_FC_TX_XOFF_C6,
  O.PORT_FC_TX_XOFF_C7, O.SA_STAT_TX_LOST, O.CALLROOM_OCCUPANCY, O.CALLROOM_PEAK, O.QUEUE_OCCUPANCY, O.QUEUE_NODE,
  O.BUFP_USED_CELLS, O.BUF_HEADROOM_USED, O.PMC_VALUE, O.PMC_STATUS, F.draws, F.out, F.pcieDma, F.pciePending,
  F.banks, F.pipe, F.queues, F.nodes, F.pairs, F.ports, F.laps, F.pmc]

theorem Device.loseBankWord_keeps {W : List Nat} {a : Device} {d : Device} {b : Nat} {x0 : BankWord} (hW : Sub Touch.loseBankWord W) (h : Keeps W a d) :
    Keeps W a (Device.loseBankWord d b x0) := by
  unfold Device.loseBankWord
  try dsimp only
  repeat' first
    | with_reducible exact h | with_reducible assumption | with_reducible apply Keeps.ite
    | with_reducible refine Device.reloadKeys_keeps (subT (by decide +kernel) hW) ?_
    | with_reducible refine Device.loseEntry_keeps (subT (by decide +kernel) hW) ?_ | split

def Touch.faultSampled : List Nat :=
  Touch.faultSample

theorem Device.faultSampled_keeps {W : List Nat} {a : Device} {src : Nat} {code : Nat} {base : Nat} {detail : Bytes} {lost : BankWord} {d : Device} (hW : Sub Touch.faultSampled W) (h : Keeps W a d) :
    Keeps W a (Device.faultSampled src code base detail lost d) := by
  unfold Device.faultSampled
  try dsimp only
  repeat' first
    | with_reducible exact h | with_reducible assumption | with_reducible apply Keeps.ite
    | with_reducible apply Keeps.elim
    | with_reducible refine Device.faultSample_keeps (subT (by decide +kernel) hW) ?_
    | with_reducible refine Device.loseBankWord_keeps (subT (by decide +kernel) hW) ?_ | intro _ _ hq | intro _
    | split

def Touch.sramSpareCore : List Nat :=
  [O.LOCK, O.GROUP_OWNER, O.GROUP_STATE, O.GROUP_WRITES, O.GROUP_FAIL_ADDRESS, O.GROUP_FLAGS, O.SESSION_STATE,
  O.SESSION_ROLE, O.SESSION_CA, O.SESSION_ID, O.SESSION_LAST_COUNTER, O.ROLE_ROOT, O.RING_ENABLE, O.RING_HEAD,
  O.RING_TAIL, O.RING_STATE, O.RING_COMPLETED, O.RING_REJECTED, O.INJECT_REFUSED, O.MODE, O.MODE_CMD,
  O.MODE_ENTERED_AT, O.MODE_CAUSE, O.RUNAHEAD_FALSE_STARTS, O.RUNAHEAD_WASTED_CELLS, O.BANK_DISCARDS,
  O.VAULT_STATE, O.VAULT_HANDLE, O.VAULT_LEVEL, O.VAULT_PURPOSE, O.VAULT_KEY_BITS, O.VAULT_COUNTED,
  O.VAULT_USES_LEFT, O.VAULT_ORIGIN, O.VAULT_PARENT, O.VAULT_CREATED_AT, O.VAULT_ARG_KEY, O.VAULT_CMD,
  O.VAULT_RESULT_HANDLE, O.DRBG_STATE, O.LA_CONTEXTS_BUSY, O.GUN_STATE, O.GUN_OWNER, O.GUN_FLAGS, O.PORT_TX_FRAMES,
  O.PORT_TX_BYTES, O.PORT_TX_TRUNCATED, O.PORT_FC_TX_XOFF_C0, O.PORT_FC_TX_XOFF_C1, O.PORT_FC_TX_XOFF_C2,
  O.PORT_FC_TX_XOFF_C3, O.PORT_FC_TX_XOFF_C4, O.PORT_FC_TX_XOFF_C5, O.PORT_FC_TX_XOFF_C6, O.PORT_FC_TX_XOFF_C7,
  O.SC_STATUS, O.SA_STATE, O.SA_KEK, O.SA_SLOT, O.SA_FLAGS, O.SA_CHANGED_AT, O.SCSA_SLOT0_ROW, O.SCSA_SLOT1_ROW,
  O.SCSA_IN_FORCE_AN, O.SCSA_ZONE_OPEN, O.SA_STAT_PKTS, O.SA_STAT_OCTETS, O.SA_STAT_PKTS_ENCRYPTED,
  O.SA_STAT_NOT_VALID, O.SA_STAT_COMMIT_LATE, O.SA_STAT_TX_LOST, O.CALLROOM_OCCUPANCY, O.CALLROOM_PEAK,
  O.QUEUE_OCCUPANCY, O.QUEUE_NODE, O.BUFP_USED_CELLS, O.BUF_HEADROOM_USED, O.SRAM_SPARES_LEFT, O.SRAM_ROWS_SPARED,
  O.SRAM_SPARE_CMD, O.FLT_SRC_CLASS, O.FLT_SRC_EVENTS, O.FLT_SRC_LAST_AT, O.FLT_STATUS, O.FLT_FATAL_SINCE_BOOT,
  O.FLT_LOG_LAST_SEQ, O.FLT_LOG_OVERWRITTEN, O.FLT_EVENT_LOST, O.FLT_FIRST_SEVERE, O.FLT_LOG_RECORD, O.PMC_VALUE,
  O.PMC_STATUS, O.PEER_KEY, F.mode, F.draws, F.out, F.sess, F.groups, F.ring, F.pcieDma, F.pciePending, F.faults,
  F.vault, F.checkKey, F.storeKey, F.keyTests, F.keyRestart, F.keyScrub, F.saRecs, F.saCtxs, F.banks, F.pipe,
  F.clsx, F.queues, F.nodes, F.pairs, F.ports, F.laps, F.pmc, F.lc, F.sram, F.la, F.keyScrubFrom, F.keyReseed,
  F.keyRequests]

theorem Device.sramSpareCore_keeps {W : List Nat} {a : Device} {r : Req} {m : Nat} {row : Nat} {d : Device} (hW : Sub Touch.sramSpareCore W) (h : Keeps W a d) :
    Keeps W a (Device.sramSpareCore r m row d).2 := by
  unfold Device.sramSpareCore
  try dsimp only
  repeat' first
    | with_reducible exact h | with_reducible assumption | exact memT (by decide +kernel) hW
    | with_reducible refine Device.runCmd_keeps ?_ ?_ ?_
    | with_reducible refine Device.spareRow_keeps (subT (by decide +kernel) hW) ?_ | intro _ _ hq | intro _

end Sys2Proof.Machine
end

