-- ==== Sys2Proof/Laws/KeepsWrites.lean ====
section
/-!
SUPPORT. The places that each operation of Machine/Writes.lean may change (Laws/Keeps.lean).
-/
set_option Elab.async false
set_option linter.all false
set_option linter.unusedTactic false
set_option linter.unreachableTactic false
set_option linter.style.longLine false
namespace Sys2Proof.Machine

def Touch.storePiece : List Nat :=
  [O.BUF_HEADROOM_CELLS, O.BUF_SLACK_CELLS, F.objects]

theorem Device.storePiece_keeps {W : List Nat} {a : Device} {s : Nat} {d : Device} {p : Piece} (hW : Sub Touch.storePiece W) (h : Keeps W a d) :
    Keeps W a (Device.storePiece s d p) := by
  unfold Device.storePiece
  try dsimp only
  repeat' first
    | with_reducible exact h | exact memAny (by decide +kernel) hW | exact memT (by decide +kernel) hW
    | with_reducible apply Keeps.ite | with_reducible refine Device.wr_keeps ?_ ?_
    | with_reducible refine Device.sizePairs_keeps (subT (by decide +kernel) hW) ?_ | split

def Touch.storePieces : List Nat :=
  Touch.storePiece

theorem Device.storePieces_keeps {W : List Nat} {a : Device} {s : Nat} {ps : List Piece} {d : Device} (hW : Sub Touch.storePieces W) (h : Keeps W a d) :
    Keeps W a (Device.storePieces s ps d) := by
  unfold Device.storePieces
  try dsimp only
  repeat' first
    | with_reducible exact h | with_reducible assumption | with_reducible apply Keeps.foldl
    | with_reducible refine Device.storePiece_keeps (subT (by decide +kernel) hW) ?_ | intro _ _ hq | intro _

def Touch.maintainEntries : List Nat :=
  Touch.rxscMaintain

theorem Device.maintainEntries_keeps {W : List Nat} {a : Device} {old : Device} {d : Device} {ps : List Piece} (hW : Sub Touch.maintainEntries W) (h : Keeps W a d) :
    Keeps W a (Device.maintainEntries old d ps) := by
  unfold Device.maintainEntries
  try dsimp only
  repeat' first
    | with_reducible exact h | with_reducible assumption | with_reducible apply Keeps.foldl
    | with_reducible refine Device.rxscMaintain_keeps (subT (by decide +kernel) hW) ?_ | intro _ _ hq | intro _

def Touch.levelsBefore : List Nat :=
  [F.queues]

theorem Device.levelsBefore_keeps {W : List Nat} {a : Device} {d : Device} {p : Piece} (hW : Sub Touch.levelsBefore W) (h : Keeps W a d) :
    Keeps W a (Device.levelsBefore d p) := by
  unfold Device.levelsBefore
  try dsimp only
  repeat' first
    | with_reducible exact h | with_reducible apply Keeps.ite
    | with_reducible refine Device.refreshLevels_keeps (subT (by decide +kernel) hW) ?_ | split

def Touch.clipLevels : List Nat :=
  [F.queues]

theorem Device.clipLevels_keeps {W : List Nat} {a : Device} {d : Device} {q : Nat} (hW : Sub Touch.clipLevels W) (h : Keeps W a d) :
    Keeps W a (Device.clipLevels d q) := by
  unfold Device.clipLevels
  try dsimp only
  repeat' first
    | with_reducible exact h | with_reducible assumption
    | with_reducible refine Device.setQueue_keeps (subT (by decide +kernel) hW) ?_ | intro _ _ hq | intro _
    | dsimp only

def Touch.lastCount : List Nat :=
  [F.draws]

theorem Device.lastCount_keeps {W : List Nat} {a : Device} {o : Nat} {r : Nat} {d : Device} (ho : Here o W) (hW : Sub Touch.lastCount W) (h : Keeps W a d) :
    Keeps W a (Device.lastCount o r d) := by
  unfold Device.lastCount
  try dsimp only
  repeat' first
    | with_reducible exact h | with_reducible exact ho | exact memT (by decide +kernel) hW
    | with_reducible refine Device.unstated_keeps (subT (by decide +kernel) hW) ?_
    | with_reducible refine Device.add64_keeps ?_ ?_

def Touch.shapeDown : List Nat :=
  [O.LOCK, O.GROUP_OWNER, O.GROUP_STATE, O.GROUP_WRITES, O.GROUP_FAIL_ADDRESS, O.GROUP_FLAGS, O.SESSION_STATE,
  O.SESSION_ROLE, O.SESSION_CA, O.SESSION_ID, O.SESSION_LAST_COUNTER, O.RING_ENABLE, O.RING_HEAD, O.RING_TAIL,
  O.RING_STATE, O.RING_COMPLETED, O.RING_REJECTED, O.GUN_STATE, O.GUN_OWNER, O.GUN_FLAGS, O.LANE_ADAPT,
  O.LANE_FEC_SYMBOL_ERRORS, O.PORT_LINK, O.PORT_LINK_CHANGES, O.PORT_FEC_CORRECTED_CW, O.FLT_SRC_EVENTS,
  O.FLT_SRC_LAST_AT, O.FLT_LOG_LAST_SEQ, O.FLT_LOG_OVERWRITTEN, O.FLT_EVENT_LOST, O.FLT_FIRST_SEVERE,
  O.FLT_LOG_RECORD, O.PMC_VALUE, O.PMC_STATUS, F.draws, F.out, F.sess, F.groups, F.ring, F.pcieDma, F.pciePending,
  F.faults, F.clsx, F.ports, F.pmc]

theorem Device.shapeDown_keeps {W : List Nat} {a : Device} {old : Device} {d : Device} {p : Nat} (hW : Sub Touch.shapeDown W) (h : Keeps W a d) :
    Keeps W a (Device.shapeDown old d p) := by
  unfold Device.shapeDown
  try dsimp only
  repeat' first
    | with_reducible exact h | with_reducible assumption | exact memT (by decide +kernel) hW
    | with_reducible apply Keeps.ite | with_reducible apply Keeps.foldl
    | with_reducible refine Device.lastCount_keeps ?_ (subT (by decide +kernel) hW) ?_
    | with_reducible refine Device.adaptTo_keeps (subT (by decide +kernel) hW) ?_
    | with_reducible refine Device.setPort_keeps (subT (by decide +kernel) hW) ?_
    | with_reducible refine Device.setLink_keeps (subT (by decide +kernel) hW) ?_ | intro _ _ hq | intro _ | split

def Touch.shapeUp : List Nat :=
  [O.LOCK, O.GROUP_OWNER, O.GROUP_STATE, O.GROUP_WRITES, O.GROUP_FAIL_ADDRESS, O.GROUP_FLAGS, O.SESSION_STATE,
  O.SESSION_ROLE, O.SESSION_CA, O.SESSION_ID, O.SESSION_LAST_COUNTER, O.RING_ENABLE, O.RING_HEAD, O.RING_TAIL,
  O.RING_STATE, O.RING_COMPLETED, O.RING_REJECTED, O.GUN_STATE, O.GUN_OWNER, O.GUN_FLAGS, O.LANE_ADAPT,
  O.PORT_LINK, O.PORT_LINK_CHANGES, O.FLT_SRC_EVENTS, O.FLT_SRC_LAST_AT, O.FLT_LOG_LAST_SEQ, O.FLT_LOG_OVERWRITTEN,
  O.FLT_EVENT_LOST, O.FLT_FIRST_SEVERE, O.FLT_LOG_RECORD, O.PMC_VALUE, O.PMC_STATUS, F.out, F.sess, F.groups,
  F.ring, F.pcieDma, F.pciePending, F.acqAt, F.faults, F.clsx, F.pmc]

theorem Device.shapeUp_keeps {W : List Nat} {a : Device} {d : Device} {p : Nat} (hW : Sub Touch.shapeUp W) (h : Keeps W a d) :
    Keeps W a (Device.shapeUp d p) := by
  unfold Device.shapeUp
  try dsimp only
  repeat' first
    | with_reducible exact h | with_reducible assumption | with_reducible apply Keeps.ite
    | with_reducible apply Keeps.foldl | with_reducible refine Device.acquire_keeps (subT (by decide +kernel) hW) ?_
    | with_reducible refine Device.setLink_keeps (subT (by decide +kernel) hW) ?_ | intro _ _ hq | intro _ | split

def Touch.reshape : List Nat :=
  [O.LOCK, O.GROUP_OWNER, O.GROUP_STATE, O.GROUP_WRITES, O.GROUP_FAIL_ADDRESS, O.GROUP_FLAGS, O.SESSION_STATE,
  O.SESSION_ROLE, O.SESSION_CA, O.SESSION_ID, O.SESSION_LAST_COUNTER, O.RING_ENABLE, O.RING_HEAD, O.RING_TAIL,
  O.RING_STATE, O.RING_COMPLETED, O.RING_REJECTED, O.GUN_STATE, O.GUN_OWNER, O.GUN_FLAGS, O.LANE_ADAPT,
  O.LANE_FEC_SYMBOL_ERRORS, O.PORT_LINK, O.PORT_LINK_CHANGES, O.PORT_FEC_CORRECTED_CW, O.FLT_SRC_EVENTS,
  O.FLT_SRC_LAST_AT, O.FLT_LOG_LAST_SEQ, O.FLT_LOG_OVERWRITTEN, O.FLT_EVENT_LOST, O.FLT_FIRST_SEVERE,
  O.FLT_LOG_RECORD, O.PMC_VALUE, O.PMC_STATUS, F.draws, F.out, F.sess, F.groups, F.ring, F.pcieDma, F.pciePending,
  F.acqAt, F.faults, F.clsx, F.ports, F.pmc]

theorem Device.reshape_keeps {W : List Nat} {a : Device} {old : Device} {ps : List Piece} {d : Device} (hW : Sub Touch.reshape W) (h : Keeps W a d) :
    Keeps W a (Device.reshape old ps d) := by
  unfold Device.reshape
  try dsimp only
  repeat' first
    | with_reducible exact h | with_reducible assumption | with_reducible apply Keeps.foldl
    | with_reducible refine Device.shapeUp_keeps (subT (by decide +kernel) hW) ?_
    | with_reducible refine Device.shapeDown_keeps (subT (by decide +kernel) hW) ?_ | intro _ _ hq | intro _

def Touch.ringSwitch : List Nat :=
  Touch.dmaHalt

theorem Device.ringSwitch_keeps {W : List Nat} {a : Device} {old : Device} {d : Device} {n : Nat} (hW : Sub Touch.ringSwitch W) (h : Keeps W a d) :
    Keeps W a (Device.ringSwitch old d n) := by
  unfold Device.ringSwitch
  try dsimp only
  repeat' first
    | with_reducible exact h | with_reducible apply Keeps.ite
    | with_reducible refine Device.ringStart_keeps (subT (by decide +kernel) hW) ?_
    | with_reducible refine Device.dmaHalt_keeps (subT (by decide +kernel) hW) ?_ | split

def Touch.pieceEffect : List Nat :=
  [O.RING_UPSTREAM_PRESENT, O.LOCK, O.GROUP_OWNER, O.GROUP_STATE, O.GROUP_WRITES, O.GROUP_FAIL_ADDRESS,
  O.GROUP_FLAGS, O.SESSION_STATE, O.SESSION_ROLE, O.SESSION_CA, O.SESSION_ID, O.SESSION_LAST_COUNTER,
  O.RING_ENABLE, O.RING_HEAD, O.RING_TAIL, O.RING_STATE, O.RING_COMPLETED, O.RING_REJECTED, O.PHC_UTC_OFFSET,
  O.PHC_LEAP_AT, O.PHC_LEAP_KIND, O.TS_RX_LATENCY, O.TS_TX_LATENCY, O.TIME_UPSTREAM_SEL, O.TIME_HOLD_STATE,
  O.GUN_STATE, O.GUN_OWNER, O.GUN_TARGET_ROW, O.GUN_TIME, O.GUN_SEQ, O.GUN_TAG, O.GUN_TARGET_CYCLE, O.GUN_FIRED_AT,
  O.GUN_FLAGS, O.LANE_PRBS_ERRORS, O.PORT_FC_TX_XOFF_C0, O.PORT_FC_TX_XOFF_C1, O.PORT_FC_TX_XOFF_C2,
  O.PORT_FC_TX_XOFF_C3, O.PORT_FC_TX_XOFF_C4, O.PORT_FC_TX_XOFF_C5, O.PORT_FC_TX_XOFF_C6, O.PORT_FC_TX_XOFF_C7,
  O.CALLROOM_OCCUPANCY, O.CALLROOM_PEAK, O.FLT_SRC_EVENTS, O.FLT_SRC_LAST_AT, O.FLT_LOG_LAST_SEQ,
  O.FLT_LOG_OVERWRITTEN, O.FLT_EVENT_LOST, O.FLT_FIRST_SEVERE, O.FLT_LOG_RECORD, O.MON_STATE, O.PMC_VALUE,
  O.PMC_STATUS, F.clk, F.draws, F.out, F.sess, F.lockRenewed, F.groups, F.ring, F.pcieDma, F.pciePending, F.pins,
  F.gunSeq, F.guns, F.faults, F.clsx, F.queues, F.pairs, F.ports, F.laps, F.pmc, F.time]

theorem Device.pieceEffect_keeps {W : List Nat} {a : Device} {old : Device} {d : Device} {p : Piece} (hW : Sub Touch.pieceEffect W) (h : Keeps W a d) :
    Keeps W a (Device.pieceEffect old d p) := by
  unfold Device.pieceEffect
  try dsimp only
  repeat' first
    | with_reducible exact h | with_reducible assumption | exact memT (by decide +kernel) hW
    | with_reducible apply Keeps.ite | with_reducible apply Keeps.foldl
    | with_reducible refine Device.phcPend_keeps (subT (by decide +kernel) hW) ?_
    | with_reducible refine Device.leapNow_keeps (subT (by decide +kernel) hW) ?_
    | with_reducible refine Device.lapRetime_keeps (subT (by decide +kernel) hW) ?_
    | with_reducible refine Device.setTime_keeps (subT (by decide +kernel) hW) ?_
    | with_reducible refine Device.refreshTimeHold_keeps (subT (by decide +kernel) hW) ?_
    | with_reducible refine Device.refreshUpstream_keeps (subT (by decide +kernel) hW) ?_
    | with_reducible refine Device.refreshSel_keeps (subT (by decide +kernel) hW) ?_
    | with_reducible refine Device.refreshLatency_keeps (subT (by decide +kernel) hW) ?_
    | with_reducible refine Device.lastCount_keeps ?_ (subT (by decide +kernel) hW) ?_
    | with_reducible refine Device.wr_keeps ?_ ?_
    | with_reducible refine Device.clipLevels_keeps (subT (by decide +kernel) hW) ?_
    | with_reducible refine Device.ringSwitch_keeps (subT (by decide +kernel) hW) ?_
    | with_reducible refine Device.setLockRenewed_keeps (subT (by decide +kernel) hW) ?_
    | with_reducible refine Device.callroomRecount_keeps (subT (by decide +kernel) hW) ?_
    | with_reducible refine Device.pairLimits_keeps (subT (by decide +kernel) hW) ?_ | intro _ _ hq | intro _ | split

def Touch.applyPieces : List Nat :=
  [O.RING_UPSTREAM_PRESENT, O.LOCK, O.GROUP_OWNER, O.GROUP_STATE, O.GROUP_WRITES, O.GROUP_FAIL_ADDRESS,
  O.GROUP_FLAGS, O.SESSION_STATE, O.SESSION_ROLE, O.SESSION_CA, O.SESSION_ID, O.SESSION_LAST_COUNTER, O.ROLE_ROOT,
  O.RING_ENABLE, O.RING_HEAD, O.RING_TAIL, O.RING_STATE, O.RING_COMPLETED, O.RING_REJECTED, O.INJECT_REFUSED,
  O.MODE, O.MODE_CMD, O.MODE_ENTERED_AT, O.MODE_CAUSE, O.RUNAHEAD_FALSE_STARTS, O.RUNAHEAD_WASTED_CELLS,
  O.BANK_DISCARDS, O.VAULT_STATE, O.VAULT_HANDLE, O.VAULT_LEVEL, O.VAULT_PURPOSE, O.VAULT_KEY_BITS,
  O.VAULT_COUNTED, O.VAULT_USES_LEFT, O.VAULT_ORIGIN, O.VAULT_PARENT, O.VAULT_CREATED_AT, O.VAULT_ARG_KEY,
  O.VAULT_CMD, O.VAULT_RESULT_HANDLE, O.DRBG_STATE, O.LA_CONTEXTS_BUSY, O.PHC_UTC_OFFSET, O.PHC_LEAP_AT,
  O.PHC_LEAP_KIND, O.TS_RX_LATENCY, O.TS_TX_LATENCY, O.TIME_UPSTREAM_SEL, O.TIME_HOLD_STATE, O.GUN_STATE,
  O.GUN_OWNER, O.GUN_TARGET_ROW, O.GUN_TIME, O.GUN_SEQ, O.GUN_TAG, O.GUN_TARGET_CYCLE, O.GUN_FIRED_AT, O.GUN_FLAGS,
  O.LANE_ADAPT, O.LANE_FEC_SYMBOL_ERRORS, O.LANE_PRBS_ERRORS, O.PORT_LINK, O.PORT_LINK_CHANGES, O.PORT_TX_FRAMES,
  O.PORT_TX_BYTES, O.PORT_TX_TRUNCATED, O.PORT_FEC_CORRECTED_CW, O.PORT_FC_TX_XOFF_C0, O.PORT_FC_TX_XOFF_C1,
  O.PORT_FC_TX_XOFF_C2, O.PORT_FC_TX_XOFF_C3, O.PORT_FC_TX_XOFF_C4, O.PORT_FC_TX_XOFF_C5, O.PORT_FC_TX_XOFF_C6,
  O.PORT_FC_TX_XOFF_C7, O.SC_STATUS, O.SA_STATE, O.SA_KEK, O.SA_SLOT, O.SA_FLAGS, O.SA_CHANGED_AT,
  O.SCSA_SLOT0_ROW, O.SCSA_SLOT1_ROW, O.SCSA_IN_FORCE_AN, O.SCSA_ZONE_OPEN, O.SA_STAT_PKTS, O.SA_STAT_OCTETS,
  O.SA_STAT_PKTS_ENCRYPTED, O.SA_STAT_NOT_VALID, O.SA_STAT_COMMIT_LATE, O.SA_STAT_TX_LOST, O.LEARN_ENTRIES,
  O.RXSC_ENTRY, O.CALLROOM_OCCUPANCY, O.CALLROOM_PEAK, O.CLS_CMD, O.CLS_ENTRIES, O.CLS_INSERTS, O.CLS_MOVES,
  O.CLS_EVICTIONS, O.QUEUE_OCCUPANCY, O.QUEUE_NODE, O.BUFP_USED_CELLS, O.BUF_HEADROOM_CELLS, O.BUF_SLACK_CELLS,
  O.BUF_HEADROOM_USED, O.MEM_TAG_FAILS, O.MEM_NODE_FAILS, O.MEM_CTR_READONLY, O.MEM_POISON_COUNT, O.MEM_TREE_HITS,
  O.MEM_TREE_MISSES, O.MEM_POISON_OFFSET, O.MEM_POISON_AT, O.MEM_POISON_CAUSE, O.FLT_SRC_CLASS, O.FLT_SRC_EVENTS,
  O.FLT_SRC_LAST_AT, O.FLT_STATUS, O.FLT_FATAL_SINCE_BOOT, O.FLT_LOG_LAST_SEQ, O.FLT_LOG_OVERWRITTEN,
  O.FLT_EVENT_LOST, O.FLT_FIRST_SEVERE, O.FLT_LOG_RECORD, O.MON_STATE, O.PMC_VALUE, O.PMC_STATUS, O.PEER_KEY,
  F.mode, F.clk, F.draws, F.out, F.sess, F.lockRenewed, F.groups, F.ring, F.pcieDma, F.pciePending, F.pins,
  F.acqAt, F.gunSeq, F.guns, F.faults, F.vault, F.checkKey, F.storeKey, F.keyTests, F.keyRestart, F.keyScrub,
  F.saRecs, F.saCtxs, F.banks, F.pipe, F.clsx, F.queues, F.nodes, F.pairs, F.ports, F.laps, F.pmc, F.memRest, F.lc,
  F.time, F.la, F.keyScrubFrom, F.keyReseed, F.keyRequests, F.objects]

theorem Device.applyPieces_keeps {W : List Nat} {a : Device} {s : Nat} {ps : List Piece} {d : Device} (hW : Sub Touch.applyPieces W) (h : Keeps W a d) :
    Keeps W a (Device.applyPieces s ps d) := by
  unfold Device.applyPieces
  try dsimp only
  repeat' first
    | with_reducible exact h | with_reducible assumption | with_reducible apply Keeps.foldl
    | with_reducible refine Device.levelsBefore_keeps (subT (by decide +kernel) hW) ?_
    | with_reducible refine Device.withSignals_keeps (subT (by decide +kernel) hW) ?_ ?_
    | with_reducible refine Device.reshape_keeps (subT (by decide +kernel) hW) ?_
    | with_reducible refine Device.storePieces_keeps (subT (by decide +kernel) hW) ?_
    | with_reducible refine Device.pieceEffect_keeps (subT (by decide +kernel) hW) ?_
    | with_reducible refine Device.maintainEntries_keeps (subT (by decide +kernel) hW) ?_ | intro _ _ hq | intro _

def Touch.writeDirect : List Nat :=
  Touch.applyPieces

theorem Device.writeDirect_keeps {W : List Nat} {d₀ : Device} {r : Req} {a : AddrBlock} {v : Bytes} {d : Device} (hW : Sub Touch.writeDirect W) (h : Keeps W d₀ d) :
    Keeps W d₀ (Device.writeDirect r a v d).2 := by
  unfold Device.writeDirect
  try dsimp only
  repeat' first
    | with_reducible exact h | with_reducible assumption | with_reducible apply Keeps.ite
    | with_reducible refine Device.direct_keeps (subT (by decide +kernel) hW) ?_ ?_
    | with_reducible refine Device.applyPieces_keeps (subT (by decide +kernel) hW) ?_
    | with_reducible apply Keeps.ite2 | intro _ _ hq | intro _ | split

end Sys2Proof.Machine
end

