-- ==== Sys2Proof/Laws/KeepsGroups.lean ====
section
/-!
SUPPORT. The places that each operation of Machine/Groups.lean may change (Laws/Keeps.lean).
-/
set_option Elab.async false
set_option linter.all false
set_option linter.unusedTactic false
set_option linter.unreachableTactic false
set_option linter.style.longLine false
namespace Sys2Proof.Machine

def Touch.lockWrite : List Nat :=
  Touch.applyPieces

theorem Device.lockWrite_keeps {W : List Nat} {a : Device} {r : Req} {v : Nat} {d : Device} (hW : Sub Touch.lockWrite W) (h : Keeps W a d) :
    Keeps W a (Device.lockWrite r v d).2 := by
  unfold Device.lockWrite
  try dsimp only
  repeat' first
    | with_reducible exact h | with_reducible refine Device.writeDirect_keeps (subT (by decide +kernel) hW) ?_

def Touch.lockBreakCore : List Nat :=
  [O.LOCK, O.LOCK_BREAK, O.GROUP_OWNER, O.GROUP_STATE, O.GROUP_WRITES, O.GROUP_FAIL_ADDRESS, O.GROUP_FLAGS,
  O.SESSION_STATE, O.SESSION_ROLE, O.SESSION_CA, O.SESSION_ID, O.SESSION_LAST_COUNTER, O.RING_ENABLE, O.RING_HEAD,
  O.RING_TAIL, O.RING_STATE, O.RING_COMPLETED, O.RING_REJECTED, O.GUN_STATE, O.GUN_OWNER, O.GUN_FLAGS,
  O.FLT_SRC_EVENTS, O.FLT_SRC_LAST_AT, O.FLT_LOG_LAST_SEQ, O.FLT_LOG_OVERWRITTEN, O.FLT_EVENT_LOST,
  O.FLT_FIRST_SEVERE, O.FLT_LOG_RECORD, O.PMC_VALUE, O.PMC_STATUS, F.out, F.sess, F.groups, F.ring, F.pcieDma,
  F.pciePending, F.faults, F.clsx, F.pmc]

theorem Device.lockBreakCore_keeps {W : List Nat} {a : Device} {r : Req} {d : Device} (hW : Sub Touch.lockBreakCore W) (h : Keeps W a d) :
    Keeps W a (Device.lockBreakCore r d).2 := by
  unfold Device.lockBreakCore
  try dsimp only
  repeat' first
    | with_reducible exact h | with_reducible assumption | exact memT (by decide +kernel) hW
    | with_reducible refine Device.runCmd_keeps ?_ ?_ ?_
    | with_reducible refine Device.wrCmd_keeps ?_ (subT (by decide +kernel) hW) ?_ | intro _ _ hq | intro _

def Touch.lockLeaseExpiry : List Nat :=
  Touch.sessionIdleExpiry

theorem Device.lockLeaseExpiry_keeps {W : List Nat} {a : Device} {d : Device} (hW : Sub Touch.lockLeaseExpiry W) (h : Keeps W a d) :
    Keeps W a (Device.lockLeaseExpiry d) := by
  unfold Device.lockLeaseExpiry
  try dsimp only
  repeat' first
    | with_reducible exact h | exact memT (by decide +kernel) hW | with_reducible apply Keeps.ite
    | with_reducible refine Device.passTo_keeps (subT (by decide +kernel) hW) ?_
    | with_reducible refine Device.wrCmd_keeps ?_ (subT (by decide +kernel) hW) ?_ | split

def Touch.setShadow : List Nat :=
  [O.GROUP_WRITES, F.groups]

theorem Device.setShadow_keeps {W : List Nat} {a : Device} {d : Device} {g : Nat} {l : List ShadowWrite} (hW : Sub Touch.setShadow W) (h : Keeps W a d) :
    Keeps W a (Device.setShadow d g l) := by
  unfold Device.setShadow
  try dsimp only
  repeat' first
    | with_reducible exact h | exact memT (by decide +kernel) hW
    | with_reducible refine Device.setGroup_keeps (subT (by decide +kernel) hW) ?_
    | with_reducible refine Device.wr_keeps ?_ ?_

def Touch.shadowWrite : List Nat :=
  [O.GROUP_WRITES, F.groups]

theorem Device.shadowWrite_keeps {W : List Nat} {d₀ : Device} {r : Req} {a : AddrBlock} {v : Bytes} {d : Device} (hW : Sub Touch.shadowWrite W) (h : Keeps W d₀ d) :
    Keeps W d₀ (Device.shadowWrite r a v d).2 := by
  unfold Device.shadowWrite
  try dsimp only
  repeat' first
    | with_reducible exact h | with_reducible assumption | with_reducible apply Keeps.ite
    | with_reducible refine Device.setShadow_keeps (subT (by decide +kernel) hW) ?_ | with_reducible apply Keeps.ite2
    | intro _ _ hq | intro _ | split

def Touch.groupOpenCore : List Nat :=
  [O.GROUP_OWNER, O.GROUP_STATE, O.GROUP_CMD, F.groups]

theorem Device.groupOpenCore_keeps {W : List Nat} {a : Device} {r : Req} {g : Nat} {d : Device} (hW : Sub Touch.groupOpenCore W) (h : Keeps W a d) :
    Keeps W a (Device.groupOpenCore r g d).2 := by
  unfold Device.groupOpenCore
  try dsimp only
  repeat' first
    | with_reducible exact h | with_reducible assumption | exact memT (by decide +kernel) hW
    | with_reducible refine Device.runCmd_keeps ?_ ?_ ?_
    | with_reducible refine Device.setGroup_keeps (subT (by decide +kernel) hW) ?_
    | with_reducible refine Device.wr_keeps ?_ ?_ | intro _ _ hq | intro _

def Touch.commitFailed : List Nat :=
  [O.GROUP_STATE, O.GROUP_FAIL_ADDRESS]

theorem Device.commitFailed_keeps {W : List Nat} {a : Device} {d : Device} {g : Nat} {w : ShadowWrite} (hW : Sub Touch.commitFailed W) (h : Keeps W a d) :
    Keeps W a (Device.commitFailed d g w) := by
  unfold Device.commitFailed
  try dsimp only
  repeat' first
    | with_reducible exact h | exact memT (by decide +kernel) hW | with_reducible refine Device.wr_keeps ?_ ?_

def Touch.applyGroup : List Nat :=
  Touch.applyPieces

theorem Device.applyGroup_keeps {W : List Nat} {a : Device} {d : Device} {g : Nat} (hW : Sub Touch.applyGroup W) (h : Keeps W a d) :
    Keeps W a (Device.applyGroup d g) := by
  unfold Device.applyGroup
  try dsimp only
  repeat' first
    | with_reducible exact h | exact memT (by decide +kernel) hW
    | with_reducible refine Device.applyPieces_keeps (subT (by decide +kernel) hW) ?_
    | with_reducible refine Device.wr_keeps ?_ ?_

def Touch.commitNowCore : List Nat :=
  [O.RING_UPSTREAM_PRESENT, O.LOCK, O.GROUP_OWNER, O.GROUP_STATE, O.GROUP_CMD, O.GROUP_WRITES,
  O.GROUP_FAIL_ADDRESS, O.GROUP_FLAGS, O.SESSION_STATE, O.SESSION_ROLE, O.SESSION_CA, O.SESSION_ID,
  O.SESSION_LAST_COUNTER, O.ROLE_ROOT, O.RING_ENABLE, O.RING_HEAD, O.RING_TAIL, O.RING_STATE, O.RING_COMPLETED,
  O.RING_REJECTED, O.INJECT_REFUSED, O.MODE, O.MODE_CMD, O.MODE_ENTERED_AT, O.MODE_CAUSE, O.RUNAHEAD_FALSE_STARTS,
  O.RUNAHEAD_WASTED_CELLS, O.BANK_DISCARDS, O.VAULT_STATE, O.VAULT_HANDLE, O.VAULT_LEVEL, O.VAULT_PURPOSE,
  O.VAULT_KEY_BITS, O.VAULT_COUNTED, O.VAULT_USES_LEFT, O.VAULT_ORIGIN, O.VAULT_PARENT, O.VAULT_CREATED_AT,
  O.VAULT_ARG_KEY, O.VAULT_CMD, O.VAULT_RESULT_HANDLE, O.DRBG_STATE, O.LA_CONTEXTS_BUSY, O.PHC_UTC_OFFSET,
  O.PHC_LEAP_AT, O.PHC_LEAP_KIND, O.TS_RX_LATENCY, O.TS_TX_LATENCY, O.TIME_UPSTREAM_SEL, O.TIME_HOLD_STATE,
  O.GUN_STATE, O.GUN_OWNER, O.GUN_TARGET_ROW, O.GUN_TIME, O.GUN_SEQ, O.GUN_TAG, O.GUN_TARGET_CYCLE, O.GUN_FIRED_AT,
  O.GUN_FLAGS, O.LANE_ADAPT, O.LANE_FEC_SYMBOL_ERRORS, O.LANE_PRBS_ERRORS, O.PORT_LINK, O.PORT_LINK_CHANGES,
  O.PORT_TX_FRAMES, O.PORT_TX_BYTES, O.PORT_TX_TRUNCATED, O.PORT_FEC_CORRECTED_CW, O.PORT_FC_TX_XOFF_C0,
  O.PORT_FC_TX_XOFF_C1, O.PORT_FC_TX_XOFF_C2, O.PORT_FC_TX_XOFF_C3, O.PORT_FC_TX_XOFF_C4, O.PORT_FC_TX_XOFF_C5,
  O.PORT_FC_TX_XOFF_C6, O.PORT_FC_TX_XOFF_C7, O.SC_STATUS, O.SA_STATE, O.SA_KEK, O.SA_SLOT, O.SA_FLAGS,
  O.SA_CHANGED_AT, O.SCSA_SLOT0_ROW, O.SCSA_SLOT1_ROW, O.SCSA_IN_FORCE_AN, O.SCSA_ZONE_OPEN, O.SA_STAT_PKTS,
  O.SA_STAT_OCTETS, O.SA_STAT_PKTS_ENCRYPTED, O.SA_STAT_NOT_VALID, O.SA_STAT_COMMIT_LATE, O.SA_STAT_TX_LOST,
  O.LEARN_ENTRIES, O.RXSC_ENTRY, O.CALLROOM_OCCUPANCY, O.CALLROOM_PEAK, O.CLS_CMD, O.CLS_ENTRIES, O.CLS_INSERTS,
  O.CLS_MOVES, O.CLS_EVICTIONS, O.QUEUE_OCCUPANCY, O.QUEUE_NODE, O.BUFP_USED_CELLS, O.BUF_HEADROOM_CELLS,
  O.BUF_SLACK_CELLS, O.BUF_HEADROOM_USED, O.MEM_TAG_FAILS, O.MEM_NODE_FAILS, O.MEM_CTR_READONLY,
  O.MEM_POISON_COUNT, O.MEM_TREE_HITS, O.MEM_TREE_MISSES, O.MEM_POISON_OFFSET, O.MEM_POISON_AT, O.MEM_POISON_CAUSE,
  O.FLT_SRC_CLASS, O.FLT_SRC_EVENTS, O.FLT_SRC_LAST_AT, O.FLT_STATUS, O.FLT_FATAL_SINCE_BOOT, O.FLT_LOG_LAST_SEQ,
  O.FLT_LOG_OVERWRITTEN, O.FLT_EVENT_LOST, O.FLT_FIRST_SEVERE, O.FLT_LOG_RECORD, O.MON_STATE, O.PMC_VALUE,
  O.PMC_STATUS, O.PEER_KEY, F.mode, F.clk, F.draws, F.out, F.sess, F.lockRenewed, F.groups, F.ring, F.pcieDma,
  F.pciePending, F.pins, F.acqAt, F.gunSeq, F.guns, F.faults, F.vault, F.checkKey, F.storeKey, F.keyTests,
  F.keyRestart, F.keyScrub, F.saRecs, F.saCtxs, F.banks, F.pipe, F.clsx, F.queues, F.nodes, F.pairs, F.ports,
  F.laps, F.pmc, F.memRest, F.lc, F.time, F.la, F.keyScrubFrom, F.keyReseed, F.keyRequests, F.objects]

theorem Device.commitNowCore_keeps {W : List Nat} {a : Device} {r : Req} {g : Nat} {d : Device} (hW : Sub Touch.commitNowCore W) (h : Keeps W a d) :
    Keeps W a (Device.commitNowCore r g d).2 := by
  unfold Device.commitNowCore
  try dsimp only
  repeat' first
    | with_reducible exact h | with_reducible assumption | exact memT (by decide +kernel) hW
    | with_reducible refine Device.runCmd_keeps ?_ ?_ ?_
    | with_reducible refine Device.commitFailed_keeps (subT (by decide +kernel) hW) ?_
    | with_reducible refine Device.applyGroup_keeps (subT (by decide +kernel) hW) ?_
    | with_reducible refine Device.wr_keeps ?_ ?_ | intro _ _ hq | intro _ | split

def Touch.commitArm : List Nat :=
  Touch.gunTake

theorem Device.commitArm_keeps {W : List Nat} {a : Device} {d : Device} {g : Nat} {e : Nat} (hW : Sub Touch.commitArm W) (h : Keeps W a d) :
    Keeps W a (Device.commitArm d g e) := by
  unfold Device.commitArm
  try dsimp only
  repeat' first
    | with_reducible exact h | exact memT (by decide +kernel) hW
    | with_reducible refine Device.setGroup_keeps (subT (by decide +kernel) hW) ?_
    | with_reducible refine Device.wr_keeps ?_ ?_
    | with_reducible refine Device.gunTake_keeps (subT (by decide +kernel) hW) ?_

def Touch.commitAtCore : List Nat :=
  [O.LOCK, O.GROUP_OWNER, O.GROUP_STATE, O.GROUP_CMD, O.GROUP_WRITES, O.GROUP_FAIL_ADDRESS, O.GROUP_FLAGS,
  O.SESSION_STATE, O.SESSION_ROLE, O.SESSION_CA, O.SESSION_ID, O.SESSION_LAST_COUNTER, O.RING_ENABLE, O.RING_HEAD,
  O.RING_TAIL, O.RING_STATE, O.RING_COMPLETED, O.RING_REJECTED, O.GUN_STATE, O.GUN_OWNER, O.GUN_TARGET_ROW,
  O.GUN_TIME, O.GUN_SEQ, O.GUN_TAG, O.GUN_TARGET_CYCLE, O.GUN_FIRED_AT, O.GUN_FLAGS, O.FLT_SRC_EVENTS,
  O.FLT_SRC_LAST_AT, O.FLT_LOG_LAST_SEQ, O.FLT_LOG_OVERWRITTEN, O.FLT_EVENT_LOST, O.FLT_FIRST_SEVERE,
  O.FLT_LOG_RECORD, O.PMC_VALUE, O.PMC_STATUS, F.out, F.sess, F.groups, F.ring, F.pcieDma, F.pciePending, F.gunSeq,
  F.guns, F.faults, F.clsx, F.pmc]

theorem Device.commitAtCore_keeps {W : List Nat} {a : Device} {r : Req} {g : Nat} {d : Device} (hW : Sub Touch.commitAtCore W) (h : Keeps W a d) :
    Keeps W a (Device.commitAtCore r g d).2 := by
  unfold Device.commitAtCore
  try dsimp only
  repeat' first
    | with_reducible exact h | with_reducible assumption | exact memT (by decide +kernel) hW
    | with_reducible apply Keeps.elim | with_reducible refine Device.runCmd_keeps ?_ ?_ ?_
    | with_reducible refine Device.commitFailed_keeps (subT (by decide +kernel) hW) ?_
    | with_reducible refine Device.wr_keeps ?_ ?_
    | with_reducible refine Device.commitArm_keeps (subT (by decide +kernel) hW) ?_
    | with_reducible apply Keeps.elim2 | intro _ _ hq | intro _ | split

def Touch.groupCancelCore : List Nat :=
  [O.LOCK, O.GROUP_OWNER, O.GROUP_STATE, O.GROUP_CMD, O.GROUP_WRITES, O.GROUP_FAIL_ADDRESS, O.GROUP_FLAGS,
  O.SESSION_STATE, O.SESSION_ROLE, O.SESSION_CA, O.SESSION_ID, O.SESSION_LAST_COUNTER, O.RING_ENABLE, O.RING_HEAD,
  O.RING_TAIL, O.RING_STATE, O.RING_COMPLETED, O.RING_REJECTED, O.GUN_STATE, O.GUN_OWNER, O.GUN_FLAGS,
  O.FLT_SRC_EVENTS, O.FLT_SRC_LAST_AT, O.FLT_LOG_LAST_SEQ, O.FLT_LOG_OVERWRITTEN, O.FLT_EVENT_LOST,
  O.FLT_FIRST_SEVERE, O.FLT_LOG_RECORD, O.PMC_VALUE, O.PMC_STATUS, F.out, F.sess, F.groups, F.ring, F.pcieDma,
  F.pciePending, F.faults, F.clsx, F.pmc]

theorem Device.groupCancelCore_keeps {W : List Nat} {a : Device} {r : Req} {g : Nat} {d : Device} (hW : Sub Touch.groupCancelCore W) (h : Keeps W a d) :
    Keeps W a (Device.groupCancelCore r g d).2 := by
  unfold Device.groupCancelCore
  try dsimp only
  repeat' first
    | with_reducible exact h | with_reducible assumption | exact memT (by decide +kernel) hW
    | with_reducible refine Device.runCmd_keeps ?_ ?_ ?_
    | with_reducible refine Device.groupCancelled_keeps (subT (by decide +kernel) hW) ?_ | intro _ _ hq | intro _

def Touch.groupReleaseCore : List Nat :=
  [O.GROUP_OWNER, O.GROUP_STATE, O.GROUP_CMD, O.GROUP_WRITES, O.GROUP_FAIL_ADDRESS, O.GROUP_FLAGS, F.groups]

theorem Device.groupReleaseCore_keeps {W : List Nat} {a : Device} {r : Req} {g : Nat} {d : Device} (hW : Sub Touch.groupReleaseCore W) (h : Keeps W a d) :
    Keeps W a (Device.groupReleaseCore r g d).2 := by
  unfold Device.groupReleaseCore
  try dsimp only
  repeat' first
    | with_reducible exact h | with_reducible assumption | exact memT (by decide +kernel) hW
    | with_reducible refine Device.runCmd_keeps ?_ ?_ ?_
    | with_reducible refine Device.groupIdle_keeps (subT (by decide +kernel) hW) ?_ | intro _ _ hq | intro _

def Touch.gunIssue : List Nat :=
  [O.GUN_STATE, O.GUN_TARGET_CYCLE, O.PMC_VALUE, O.PMC_STATUS, F.cyc, F.clk, F.out, F.pciePending, F.pmc]

theorem Device.gunIssue_keeps {W : List Nat} {a : Device} {e : Nat} {d : Device} (hW : Sub Touch.gunIssue W) (h : Keeps W a d) :
    Keeps W a (Device.gunIssue e d) := by
  unfold Device.gunIssue
  try dsimp only
  repeat' first
    | with_reducible exact h | exact memT (by decide +kernel) hW | with_reducible apply Keeps.ite
    | with_reducible refine Device.passTo_keeps (subT (by decide +kernel) hW) ?_
    | with_reducible refine Device.wr_keeps ?_ ?_ | split

def Touch.groupFire : List Nat :=
  Touch.applyPieces

theorem Device.groupFire_keeps {W : List Nat} {a : Device} {d : Device} {g : Nat} {late : Bool} {stepped : Bool} (hW : Sub Touch.groupFire W) (h : Keeps W a d) :
    Keeps W a (Device.groupFire d g late stepped) := by
  unfold Device.groupFire
  try dsimp only
  repeat' first
    | with_reducible exact h | exact memT (by decide +kernel) hW
    | with_reducible refine Device.setGroup_keeps (subT (by decide +kernel) hW) ?_
    | with_reducible refine Device.applyGroup_keeps (subT (by decide +kernel) hW) ?_
    | with_reducible refine Device.wr_keeps ?_ ?_

def Touch.recalFire : List Nat :=
  [O.LOCK, O.GROUP_OWNER, O.GROUP_STATE, O.GROUP_WRITES, O.GROUP_FAIL_ADDRESS, O.GROUP_FLAGS, O.SESSION_STATE,
  O.SESSION_ROLE, O.SESSION_CA, O.SESSION_ID, O.SESSION_LAST_COUNTER, O.RING_ENABLE, O.RING_HEAD, O.RING_TAIL,
  O.RING_STATE, O.RING_COMPLETED, O.RING_REJECTED, O.INJECT_REFUSED, O.RUNAHEAD_FALSE_STARTS,
  O.RUNAHEAD_WASTED_CELLS, O.GUN_STATE, O.GUN_OWNER, O.GUN_FLAGS, O.PORT_LINK, O.PORT_LINK_CHANGES,
  O.PORT_TX_FRAMES, O.PORT_TX_BYTES, O.PORT_TX_TRUNCATED, O.PORT_RECAL_STATE, O.PORT_RECAL_FLAGS,
  O.PORT_FC_TX_XOFF_C0, O.PORT_FC_TX_XOFF_C1, O.PORT_FC_TX_XOFF_C2, O.PORT_FC_TX_XOFF_C3, O.PORT_FC_TX_XOFF_C4,
  O.PORT_FC_TX_XOFF_C5, O.PORT_FC_TX_XOFF_C6, O.PORT_FC_TX_XOFF_C7, O.SA_STAT_TX_LOST, O.CALLROOM_OCCUPANCY,
  O.CALLROOM_PEAK, O.QUEUE_OCCUPANCY, O.QUEUE_NODE, O.BUFP_USED_CELLS, O.BUF_HEADROOM_USED, O.FLT_SRC_EVENTS,
  O.FLT_SRC_LAST_AT, O.FLT_LOG_LAST_SEQ, O.FLT_LOG_OVERWRITTEN, O.FLT_EVENT_LOST, O.FLT_FIRST_SEVERE,
  O.FLT_LOG_RECORD, O.PMC_VALUE, O.PMC_STATUS, F.out, F.sess, F.groups, F.ring, F.pcieDma, F.pciePending, F.faults,
  F.pipe, F.clsx, F.queues, F.nodes, F.pairs, F.ports, F.laps, F.pmc]

theorem Device.recalFire_keeps {W : List Nat} {a : Device} {d : Device} {p : Nat} {late : Bool} {stepped : Bool} (hW : Sub Touch.recalFire W) (h : Keeps W a d) :
    Keeps W a (Device.recalFire d p late stepped).2 := by
  unfold Device.recalFire
  try dsimp only
  repeat' first
    | with_reducible exact h | exact memT (by decide +kernel) hW | with_reducible apply Keeps.ite
    | with_reducible refine Device.recalCancelled_keeps (subT (by decide +kernel) hW) ?_
    | with_reducible refine Device.wr_keeps ?_ ?_
    | with_reducible refine Device.recalOpen_keeps (subT (by decide +kernel) hW) ?_ | with_reducible apply Keeps.ite2
    | split

def Touch.gunAct : List Nat :=
  [O.FW_SLOT_STATE, O.FW_SLOT_DIGEST, O.FW_SLOT_VERSION, O.FW_SLOT_BUILD_ID, O.RING_UPSTREAM_PRESENT, O.LOCK,
  O.GROUP_OWNER, O.GROUP_STATE, O.GROUP_WRITES, O.GROUP_FAIL_ADDRESS, O.GROUP_FLAGS, O.SESSION_STATE,
  O.SESSION_ROLE, O.SESSION_CA, O.SESSION_ID, O.SESSION_LAST_COUNTER, O.ROLE_ROOT, O.RING_ENABLE, O.RING_HEAD,
  O.RING_TAIL, O.RING_STATE, O.RING_COMPLETED, O.RING_REJECTED, O.INJECT_REFUSED, O.MODE, O.MODE_CMD,
  O.MODE_ENTERED_AT, O.MODE_CAUSE, O.RUNAHEAD_FALSE_STARTS, O.RUNAHEAD_WASTED_CELLS, O.BANK_DISCARDS,
  O.VAULT_STATE, O.VAULT_HANDLE, O.VAULT_LEVEL, O.VAULT_PURPOSE, O.VAULT_KEY_BITS, O.VAULT_COUNTED,
  O.VAULT_USES_LEFT, O.VAULT_ORIGIN, O.VAULT_PARENT, O.VAULT_CREATED_AT, O.VAULT_ARG_KEY, O.VAULT_CMD,
  O.VAULT_RESULT_HANDLE, O.DRBG_STATE, O.LA_CONTEXTS_BUSY, O.PHC_UTC_OFFSET, O.PHC_LEAP_AT, O.PHC_LEAP_KIND,
  O.TS_RX_LATENCY, O.TS_TX_LATENCY, O.TIME_UPSTREAM_SEL, O.TIME_HOLD_STATE, O.GUN_STATE, O.GUN_OWNER,
  O.GUN_TARGET_ROW, O.GUN_TIME, O.GUN_SEQ, O.GUN_TAG, O.GUN_TARGET_CYCLE, O.GUN_FIRED_AT, O.GUN_FLAGS,
  O.LANE_ADAPT, O.LANE_FEC_SYMBOL_ERRORS, O.LANE_PRBS_ERRORS, O.PORT_LINK, O.PORT_LINK_CHANGES, O.PORT_TX_FRAMES,
  O.PORT_TX_BYTES, O.PORT_TX_TRUNCATED, O.PORT_FEC_CORRECTED_CW, O.PORT_RECAL_STATE, O.PORT_RECAL_FLAGS,
  O.PORT_FC_TX_XOFF_C0, O.PORT_FC_TX_XOFF_C1, O.PORT_FC_TX_XOFF_C2, O.PORT_FC_TX_XOFF_C3, O.PORT_FC_TX_XOFF_C4,
  O.PORT_FC_TX_XOFF_C5, O.PORT_FC_TX_XOFF_C6, O.PORT_FC_TX_XOFF_C7, O.SC_STATUS, O.SA_STATE, O.SA_KEK, O.SA_SLOT,
  O.SA_FLAGS, O.SA_CHANGED_AT, O.SCSA_SLOT0_ROW, O.SCSA_SLOT1_ROW, O.SCSA_IN_FORCE_AN, O.SCSA_ZONE_OPEN,
  O.SCSA_HANDOVERS, O.SA_STAT_PKTS, O.SA_STAT_OCTETS, O.SA_STAT_PKTS_ENCRYPTED, O.SA_STAT_NOT_VALID,
  O.SA_STAT_COMMIT_LATE, O.SA_STAT_TX_LOST, O.PARSER_ACTIVE_IMAGE, O.PARSER_ACTIVE_DIGEST, O.PARSER_SHADOW_STATE,
  O.PARSER_SHADOW_DIGEST, O.PARSER_SWAP_FLAGS, O.LEARN_ENTRIES, O.RXSC_ENTRY, O.CALLROOM_OCCUPANCY,
  O.CALLROOM_PEAK, O.CLS_CMD, O.CLS_ENTRIES, O.CLS_INSERTS, O.CLS_MOVES, O.CLS_EVICTIONS, O.QUEUE_OCCUPANCY,
  O.QUEUE_NODE, O.BUFP_USED_CELLS, O.BUF_HEADROOM_CELLS, O.BUF_SLACK_CELLS, O.BUF_HEADROOM_USED, O.LAP_LAST_SEQ,
  O.LAP_CLOSES, O.LAP_ABSORBED, O.LAP_DIR_SEQ, O.LAP_DIR_STATE, O.LAP_DIR_START, O.LAP_DIR_END, O.LAP_DIR_MINUTE,
  O.LAP_DIR_FLAGS, O.MEM_TAG_FAILS, O.MEM_NODE_FAILS, O.MEM_CTR_READONLY, O.MEM_POISON_COUNT, O.MEM_TREE_HITS,
  O.MEM_TREE_MISSES, O.MEM_POISON_OFFSET, O.MEM_POISON_AT, O.MEM_POISON_CAUSE, O.FLT_SRC_CLASS, O.FLT_SRC_EVENTS,
  O.FLT_SRC_LAST_AT, O.FLT_STATUS, O.FLT_FATAL_SINCE_BOOT, O.FLT_LOG_LAST_SEQ, O.FLT_LOG_OVERWRITTEN,
  O.FLT_EVENT_LOST, O.FLT_FIRST_SEVERE, O.FLT_LOG_RECORD, O.MON_STATE, O.PMC_VALUE, O.PMC_STATUS, O.PEER_KEY,
  F.mode, F.clk, F.draws, F.out, F.sess, F.lockRenewed, F.groups, F.ring, F.pcieDma, F.pciePending, F.pins,
  F.acqAt, F.drainAt, F.gunSeq, F.guns, F.faults, F.vault, F.checkKey, F.storeKey, F.keyTests, F.keyRestart,
  F.keyScrub, F.saRecs, F.saCtxs, F.saHolds, F.banks, F.pipe, F.clsx, F.queues, F.nodes, F.pairs, F.ports, F.laps,
  F.pmc, F.memRest, F.lc, F.time, F.la, F.keyScrubFrom, F.keyReseed, F.keyRequests, F.objects]

theorem Device.gunAct_keeps {W : List Nat} {a : Device} {d : Device} {e : Nat} {late : Bool} {stepped : Bool} (hW : Sub Touch.gunAct W) (h : Keeps W a d) :
    Keeps W a (Device.gunAct d e late stepped).2 := by
  unfold Device.gunAct
  try dsimp only
  repeat' first
    | with_reducible exact h | with_reducible assumption
    | with_reducible refine Device.groupFire_keeps (subT (by decide +kernel) hW) ?_
    | with_reducible refine Device.txHandover_keeps (subT (by decide +kernel) hW) ?_
    | with_reducible refine Device.zoneEnd_keeps (subT (by decide +kernel) hW) ?_
    | with_reducible refine Device.parserSwap_keeps (subT (by decide +kernel) hW) ?_
    | with_reducible refine Device.lapFired_keeps (subT (by decide +kernel) hW) ?_
    | with_reducible refine Device.recalFire_keeps (subT (by decide +kernel) hW) ?_
    | with_reducible refine Device.drainClose_keeps (subT (by decide +kernel) hW) ?_ | split

def Touch.gunFire : List Nat :=
  [O.FW_SLOT_STATE, O.FW_SLOT_DIGEST, O.FW_SLOT_VERSION, O.FW_SLOT_BUILD_ID, O.BOOT_PHC_FIRST_SET,
  O.RING_UPSTREAM_PRESENT, O.LOCK, O.GROUP_OWNER, O.GROUP_STATE, O.GROUP_WRITES, O.GROUP_FAIL_ADDRESS,
  O.GROUP_FLAGS, O.SESSION_STATE, O.SESSION_ROLE, O.SESSION_CA, O.SESSION_ID, O.SESSION_LAST_COUNTER, O.ROLE_ROOT,
  O.RING_ENABLE, O.RING_HEAD, O.RING_TAIL, O.RING_STATE, O.RING_COMPLETED, O.RING_REJECTED, O.INJECT_REFUSED,
  O.MODE, O.MODE_CMD, O.MODE_ENTERED_AT, O.MODE_CAUSE, O.RUNAHEAD_FALSE_STARTS, O.RUNAHEAD_WASTED_CELLS,
  O.BANK_DISCARDS, O.VAULT_STATE, O.VAULT_HANDLE, O.VAULT_LEVEL, O.VAULT_PURPOSE, O.VAULT_KEY_BITS,
  O.VAULT_COUNTED, O.VAULT_USES_LEFT, O.VAULT_ORIGIN, O.VAULT_PARENT, O.VAULT_CREATED_AT, O.VAULT_ARG_KEY,
  O.VAULT_CMD, O.VAULT_RESULT_HANDLE, O.DRBG_STATE, O.LA_CONTEXTS_BUSY, O.PHC_STEP_COUNT, O.PHC_LAST_STEP_AT,
  O.PHC_STATE, O.PHC_UTC_OFFSET, O.PHC_LEAP_AT, O.PHC_LEAP_KIND, O.TS_RX_LATENCY, O.TS_TX_LATENCY,
  O.TIME_UPSTREAM_SEL, O.TIME_HOLD_STATE, O.GUN_STATE, O.GUN_OWNER, O.GUN_TARGET_ROW, O.GUN_TIME, O.GUN_SEQ,
  O.GUN_TAG, O.GUN_TARGET_CYCLE, O.GUN_FIRED_AT, O.GUN_FLAGS, O.GUN_LATE_COUNT, O.GUN_STEPPED_COUNT, O.LANE_ADAPT,
  O.LANE_FEC_SYMBOL_ERRORS, O.LANE_PRBS_ERRORS, O.PORT_LINK, O.PORT_LINK_CHANGES, O.PORT_TX_FRAMES,
  O.PORT_TX_BYTES, O.PORT_TX_TRUNCATED, O.PORT_FEC_CORRECTED_CW, O.PORT_RECAL_STATE, O.PORT_RECAL_FLAGS,
  O.PORT_FC_TX_XOFF_C0, O.PORT_FC_TX_XOFF_C1, O.PORT_FC_TX_XOFF_C2, O.PORT_FC_TX_XOFF_C3, O.PORT_FC_TX_XOFF_C4,
  O.PORT_FC_TX_XOFF_C5, O.PORT_FC_TX_XOFF_C6, O.PORT_FC_TX_XOFF_C7, O.SC_STATUS, O.SA_STATE, O.SA_KEK, O.SA_SLOT,
  O.SA_FLAGS, O.SA_CHANGED_AT, O.SCSA_SLOT0_ROW, O.SCSA_SLOT1_ROW, O.SCSA_IN_FORCE_AN, O.SCSA_ZONE_OPEN,
  O.SCSA_HANDOVERS, O.SA_STAT_PKTS, O.SA_STAT_OCTETS, O.SA_STAT_PKTS_ENCRYPTED, O.SA_STAT_NOT_VALID,
  O.SA_STAT_COMMIT_LATE, O.SA_STAT_TX_LOST, O.PARSER_ACTIVE_IMAGE, O.PARSER_ACTIVE_DIGEST, O.PARSER_SHADOW_STATE,
  O.PARSER_SHADOW_DIGEST, O.PARSER_SWAP_FLAGS, O.LEARN_ENTRIES, O.RXSC_ENTRY, O.CALLROOM_OCCUPANCY,
  O.CALLROOM_PEAK, O.CLS_CMD, O.CLS_ENTRIES, O.CLS_INSERTS, O.CLS_MOVES, O.CLS_EVICTIONS, O.QUEUE_OCCUPANCY,
  O.QUEUE_NODE, O.BUFP_USED_CELLS, O.BUF_HEADROOM_CELLS, O.BUF_SLACK_CELLS, O.BUF_HEADROOM_USED, O.LAP_LAST_SEQ,
  O.LAP_CLOSES, O.LAP_ABSORBED, O.LAP_DIR_SEQ, O.LAP_DIR_STATE, O.LAP_DIR_START, O.LAP_DIR_END, O.LAP_DIR_MINUTE,
  O.LAP_DIR_FLAGS, O.MEM_TAG_FAILS, O.MEM_NODE_FAILS, O.MEM_CTR_READONLY, O.MEM_POISON_COUNT, O.MEM_TREE_HITS,
  O.MEM_TREE_MISSES, O.MEM_POISON_OFFSET, O.MEM_POISON_AT, O.MEM_POISON_CAUSE, O.FLT_SRC_CLASS, O.FLT_SRC_EVENTS,
  O.FLT_SRC_LAST_AT, O.FLT_STATUS, O.FLT_FATAL_SINCE_BOOT, O.FLT_LOG_LAST_SEQ, O.FLT_LOG_OVERWRITTEN,
  O.FLT_EVENT_LOST, O.FLT_FIRST_SEVERE, O.FLT_LOG_RECORD, O.MON_STATE, O.TAMPER_LOG_ENTRY, O.TAMPER_LOG_LAST_SEQ,
  O.TAMPER_LOG_OVERWRITTEN, O.TAMPER_FIRST, O.PMC_VALUE, O.PMC_STATUS, O.PEER_KEY, F.mode, F.cyc, F.clk, F.edge,
  F.draws, F.out, F.sess, F.lockRenewed, F.groups, F.ring, F.pcieDma, F.pciePending, F.pins, F.acqAt, F.drainAt,
  F.gunSeq, F.guns, F.faults, F.vault, F.checkKey, F.storeKey, F.keyTests, F.keyRestart, F.keyScrub, F.saRecs,
  F.saCtxs, F.saHolds, F.banks, F.pipe, F.clsx, F.queues, F.nodes, F.pairs, F.ports, F.laps, F.pmc, F.memRest,
  F.lc, F.time, F.mon, F.la, F.keyScrubFrom, F.keyReseed, F.keyRequests, F.objects]

theorem Device.gunFire_keeps {W : List Nat} {a : Device} {e : Nat} {d : Device} (hW : Sub Touch.gunFire W) (h : Keeps W a d) :
    Keeps W a (Device.gunFire e d) := by
  unfold Device.gunFire
  try dsimp only
  repeat' first
    | with_reducible exact h | with_reducible apply Keeps.ite
    | with_reducible refine Device.passTo_keeps (subT (by decide +kernel) hW) ?_
    | with_reducible refine Device.gunAct_keeps (subT (by decide +kernel) hW) ?_
    | with_reducible refine Device.stepped_keeps (subT (by decide +kernel) hW) ?_
    | with_reducible refine Device.gunDone_keeps (subT (by decide +kernel) hW) ?_
    | with_reducible refine Device.gunCancelNow_keeps (subT (by decide +kernel) hW) ?_
    | with_reducible refine Device.lapRetime_keeps (subT (by decide +kernel) hW) ?_ | with_reducible apply Keeps.ite2
    | split

end Sys2Proof.Machine
end

