-- ==== Sys2Proof/Laws/KeepsReadObj.lean ====
section
/-!
SUPPORT. The places that each operation of Machine/ReadObj.lean may change (Laws/Keeps.lean).
-/
set_option Elab.async false
set_option linter.all false
set_option linter.unusedTactic false
set_option linter.unreachableTactic false
set_option linter.style.longLine false
namespace Sys2Proof.Machine

def Touch.observe : List Nat :=
  [O.LANE_SNR_CDB, O.LANE_FEC_SYMBOL_ERRORS, O.LANE_PRBS_ERRORS, O.PORT_FEC_CORRECTED_CW, F.draws]

theorem Device.observe_keeps {W : List Nat} {a d : Device} {o r : Nat} (hW : Sub Touch.observe W) (h : Keeps W a d) :
    Keeps W a (Device.observe o r d) := by
  unfold Device.observe
  split
  · exact h
  · rename_i hm
    have ho : Here o W := by
      simp only [not_not, Device.measures] at hm
      split at hm
      · rename_i x; rw [x]; exact memT (by decide +kernel) hW
      split at hm
      · rename_i x; rw [x]; exact memT (by decide +kernel) hW
      split at hm
      · rename_i x; rw [x]; exact memT (by decide +kernel) hW
      · simp only [Bool.and_eq_true, beq_iff_eq] at hm
        rw [hm.1]; exact memT (by decide +kernel) hW
    exact Keeps.ite (Device.wr_keeps ho (Device.unstated_keeps (subT (by decide +kernel) hW) h))
      (Device.add64_keeps ho (Device.unstated_keeps (subT (by decide +kernel) hW) h))

def Touch.slewLeft : List Nat :=
  [F.draws]

theorem Device.slewLeft_keeps {W : List Nat} {a : Device} {d : Device} (hW : Sub Touch.slewLeft W) (h : Keeps W a d) :
    Keeps W a (Device.slewLeft d).2 := by
  unfold Device.slewLeft
  try dsimp only
  repeat' first
    | with_reducible exact h | with_reducible refine Device.unstated_keeps (subT (by decide +kernel) hW) ?_

def Touch.readLines : List Nat :=
  Touch.readLine

theorem Device.readLines_keeps {W : List Nat} {a : Device} {d : Device} {l : List Nat} (hW : Sub Touch.readLines W) (h : Keeps W a d) :
    Keeps W a (Device.readLines d l).2 := by
  unfold Device.readLines
  try dsimp only
  repeat' first
    | with_reducible exact h | with_reducible assumption | with_reducible apply Keeps.foldl
    | with_reducible refine Device.readLine_keeps (subT (by decide +kernel) hW) ?_
    | with_reducible apply Keeps.foldl2 | intro _ _ hq | intro _

def Touch.readEffect : List Nat :=
  [O.PMC_PAIR_HIGH, F.pmc]

theorem Device.readEffect_keeps {W : List Nat} {a : Device} {o : Nat} {r : Nat} {d : Device} (hW : Sub Touch.readEffect W) (h : Keeps W a d) :
    Keeps W a (Device.readEffect o r d) := by
  unfold Device.readEffect
  try dsimp only
  repeat' first
    | with_reducible exact h | exact memT (by decide +kernel) hW | with_reducible apply Keeps.ite
    | with_reducible refine Device.wr_keeps ?_ ?_
    | with_reducible refine Device.setPmc_keeps (subT (by decide +kernel) hW) ?_ | split

def Touch.readPiece : List Nat :=
  [O.LANE_SNR_CDB, O.LANE_FEC_SYMBOL_ERRORS, O.LANE_PRBS_ERRORS, O.PORT_FEC_CORRECTED_CW, O.PMC_PAIR_HIGH, F.draws,
  F.pmc]

theorem Device.readPiece_keeps {W : List Nat} {a : Device} {acc : Bytes × Device} {x : Desc × Nat} (hW : Sub Touch.readPiece W) (h : Keeps W a acc.2) :
    Keeps W a (Device.readPiece acc x).2 := by
  unfold Device.readPiece
  try dsimp only
  repeat' first
    | with_reducible exact h | with_reducible apply Keeps.ite
    | with_reducible refine Device.readEffect_keeps (subT (by decide +kernel) hW) ?_
    | with_reducible refine Device.observe_keeps (subT (by decide +kernel) hW) ?_
    | with_reducible refine Device.slewLeft_keeps (subT (by decide +kernel) hW) ?_ | with_reducible apply Keeps.ite2
    | split

def Touch.readObject : List Nat :=
  [O.LOCK, O.GROUP_OWNER, O.GROUP_STATE, O.GROUP_WRITES, O.GROUP_FAIL_ADDRESS, O.GROUP_FLAGS, O.SESSION_STATE,
  O.SESSION_ROLE, O.SESSION_CA, O.SESSION_ID, O.SESSION_LAST_COUNTER, O.ROLE_ROOT, O.RING_ENABLE, O.RING_HEAD,
  O.RING_TAIL, O.RING_STATE, O.RING_COMPLETED, O.RING_REJECTED, O.INJECT_REFUSED, O.MODE, O.MODE_CMD,
  O.MODE_ENTERED_AT, O.MODE_CAUSE, O.RUNAHEAD_FALSE_STARTS, O.RUNAHEAD_WASTED_CELLS, O.BANK_DISCARDS,
  O.VAULT_STATE, O.VAULT_HANDLE, O.VAULT_LEVEL, O.VAULT_PURPOSE, O.VAULT_KEY_BITS, O.VAULT_COUNTED,
  O.VAULT_USES_LEFT, O.VAULT_ORIGIN, O.VAULT_PARENT, O.VAULT_CREATED_AT, O.VAULT_ARG_KEY, O.VAULT_CMD,
  O.VAULT_RESULT_HANDLE, O.DRBG_STATE, O.LA_CONTEXTS_BUSY, O.GUN_STATE, O.GUN_OWNER, O.GUN_FLAGS, O.LANE_SNR_CDB,
  O.LANE_FEC_SYMBOL_ERRORS, O.LANE_PRBS_ERRORS, O.PORT_TX_FRAMES, O.PORT_TX_BYTES, O.PORT_TX_TRUNCATED,
  O.PORT_FEC_CORRECTED_CW, O.PORT_FC_TX_XOFF_C0, O.PORT_FC_TX_XOFF_C1, O.PORT_FC_TX_XOFF_C2, O.PORT_FC_TX_XOFF_C3,
  O.PORT_FC_TX_XOFF_C4, O.PORT_FC_TX_XOFF_C5, O.PORT_FC_TX_XOFF_C6, O.PORT_FC_TX_XOFF_C7, O.SC_STATUS, O.SA_STATE,
  O.SA_KEK, O.SA_SLOT, O.SA_FLAGS, O.SA_CHANGED_AT, O.SCSA_SLOT0_ROW, O.SCSA_SLOT1_ROW, O.SCSA_IN_FORCE_AN,
  O.SCSA_ZONE_OPEN, O.SA_STAT_PKTS, O.SA_STAT_OCTETS, O.SA_STAT_PKTS_ENCRYPTED, O.SA_STAT_NOT_VALID,
  O.SA_STAT_COMMIT_LATE, O.SA_STAT_TX_LOST, O.CALLROOM_OCCUPANCY, O.CALLROOM_PEAK, O.QUEUE_OCCUPANCY, O.QUEUE_NODE,
  O.BUFP_USED_CELLS, O.BUF_HEADROOM_USED, O.MEM_TAG_FAILS, O.MEM_NODE_FAILS, O.MEM_CTR_READONLY,
  O.MEM_POISON_COUNT, O.MEM_TREE_HITS, O.MEM_TREE_MISSES, O.MEM_POISON_OFFSET, O.MEM_POISON_AT, O.MEM_POISON_CAUSE,
  O.FLT_SRC_CLASS, O.FLT_SRC_EVENTS, O.FLT_SRC_LAST_AT, O.FLT_STATUS, O.FLT_FATAL_SINCE_BOOT, O.FLT_LOG_LAST_SEQ,
  O.FLT_LOG_OVERWRITTEN, O.FLT_EVENT_LOST, O.FLT_FIRST_SEVERE, O.FLT_LOG_RECORD, O.PMC_VALUE, O.PMC_PAIR_HIGH,
  O.PMC_STATUS, O.PEER_KEY, F.mode, F.draws, F.out, F.sess, F.groups, F.ring, F.pcieDma, F.pciePending, F.faults,
  F.vault, F.checkKey, F.storeKey, F.keyTests, F.keyRestart, F.keyScrub, F.saRecs, F.saCtxs, F.banks, F.pipe,
  F.clsx, F.queues, F.nodes, F.pairs, F.ports, F.laps, F.pmc, F.memRest, F.lc, F.la, F.keyScrubFrom, F.keyReseed,
  F.keyRequests]

theorem Device.readObject_keeps {W : List Nat} {d₀ : Device} {r : Req} {a : AddrBlock} {d : Device} (hW : Sub Touch.readObject W) (h : Keeps W d₀ d) :
    Keeps W d₀ (Device.readObject r a d).2 := by
  unfold Device.readObject
  try dsimp only
  repeat' first
    | with_reducible exact h | with_reducible assumption | with_reducible apply Keeps.ite
    | with_reducible apply Keeps.foldl
    | with_reducible refine Device.readLines_keeps (subT (by decide +kernel) hW) ?_
    | with_reducible refine Device.readPiece_keeps (subT (by decide +kernel) hW) ?_ | with_reducible apply Keeps.ite2
    | with_reducible apply Keeps.foldl2 | intro _ _ hq | intro _ | split | dsimp only

def Touch.pmcValueRead : List Nat :=
  [O.LOCK, O.GROUP_OWNER, O.GROUP_STATE, O.GROUP_WRITES, O.GROUP_FAIL_ADDRESS, O.GROUP_FLAGS, O.SESSION_STATE,
  O.SESSION_ROLE, O.SESSION_CA, O.SESSION_ID, O.SESSION_LAST_COUNTER, O.ROLE_ROOT, O.RING_ENABLE, O.RING_HEAD,
  O.RING_TAIL, O.RING_STATE, O.RING_COMPLETED, O.RING_REJECTED, O.INJECT_REFUSED, O.MODE, O.MODE_CMD,
  O.MODE_ENTERED_AT, O.MODE_CAUSE, O.RUNAHEAD_FALSE_STARTS, O.RUNAHEAD_WASTED_CELLS, O.BANK_DISCARDS,
  O.VAULT_STATE, O.VAULT_HANDLE, O.VAULT_LEVEL, O.VAULT_PURPOSE, O.VAULT_KEY_BITS, O.VAULT_COUNTED,
  O.VAULT_USES_LEFT, O.VAULT_ORIGIN, O.VAULT_PARENT, O.VAULT_CREATED_AT, O.VAULT_ARG_KEY, O.VAULT_CMD,
  O.VAULT_RESULT_HANDLE, O.DRBG_STATE, O.LA_CONTEXTS_BUSY, O.GUN_STATE, O.GUN_OWNER, O.GUN_FLAGS, O.LANE_SNR_CDB,
  O.LANE_FEC_SYMBOL_ERRORS, O.LANE_PRBS_ERRORS, O.PORT_TX_FRAMES, O.PORT_TX_BYTES, O.PORT_TX_TRUNCATED,
  O.PORT_FEC_CORRECTED_CW, O.PORT_FC_TX_XOFF_C0, O.PORT_FC_TX_XOFF_C1, O.PORT_FC_TX_XOFF_C2, O.PORT_FC_TX_XOFF_C3,
  O.PORT_FC_TX_XOFF_C4, O.PORT_FC_TX_XOFF_C5, O.PORT_FC_TX_XOFF_C6, O.PORT_FC_TX_XOFF_C7, O.SC_STATUS, O.SA_STATE,
  O.SA_KEK, O.SA_SLOT, O.SA_FLAGS, O.SA_CHANGED_AT, O.SCSA_SLOT0_ROW, O.SCSA_SLOT1_ROW, O.SCSA_IN_FORCE_AN,
  O.SCSA_ZONE_OPEN, O.SA_STAT_PKTS, O.SA_STAT_OCTETS, O.SA_STAT_PKTS_ENCRYPTED, O.SA_STAT_NOT_VALID,
  O.SA_STAT_COMMIT_LATE, O.SA_STAT_TX_LOST, O.CALLROOM_OCCUPANCY, O.CALLROOM_PEAK, O.QUEUE_OCCUPANCY, O.QUEUE_NODE,
  O.BUFP_USED_CELLS, O.BUF_HEADROOM_USED, O.MEM_TAG_FAILS, O.MEM_NODE_FAILS, O.MEM_CTR_READONLY,
  O.MEM_POISON_COUNT, O.MEM_TREE_HITS, O.MEM_TREE_MISSES, O.MEM_POISON_OFFSET, O.MEM_POISON_AT, O.MEM_POISON_CAUSE,
  O.FLT_SRC_CLASS, O.FLT_SRC_EVENTS, O.FLT_SRC_LAST_AT, O.FLT_STATUS, O.FLT_FATAL_SINCE_BOOT, O.FLT_LOG_LAST_SEQ,
  O.FLT_LOG_OVERWRITTEN, O.FLT_EVENT_LOST, O.FLT_FIRST_SEVERE, O.FLT_LOG_RECORD, O.PMC_VALUE, O.PMC_PAIR_HIGH,
  O.PMC_STATUS, O.PEER_KEY, F.mode, F.draws, F.out, F.sess, F.lockRenewed, F.groups, F.ring, F.pcieDma,
  F.pciePending, F.faults, F.vault, F.checkKey, F.storeKey, F.keyTests, F.keyRestart, F.keyScrub, F.saRecs,
  F.saCtxs, F.banks, F.pipe, F.clsx, F.queues, F.nodes, F.pairs, F.ports, F.laps, F.pmc, F.memRest, F.lc, F.la,
  F.keyScrubFrom, F.keyReseed, F.keyRequests]

theorem Device.pmcValueRead_keeps {W : List Nat} {a : Device} {r : Req} {row : Nat} {d : Device} (hW : Sub Touch.pmcValueRead W) (h : Keeps W a d) :
    Keeps W a (Device.pmcValueRead r row d) := by
  unfold Device.pmcValueRead
  try dsimp only
  repeat' first
    | with_reducible exact h | with_reducible apply Keeps.ite
    | with_reducible refine Device.readObject_keeps (subT (by decide +kernel) hW) ?_
    | with_reducible refine Device.accept_keeps (subT (by decide +kernel) hW) ?_
    | with_reducible refine Device.respond_keeps (subT (by decide +kernel) hW) ?_ | with_reducible apply Keeps.ite2
    | split

end Sys2Proof.Machine
end

