-- ==== Sys2Proof/Laws/KeepsRequests.lean ====
section
/-!
SUPPORT. The places that each operation of Machine/Requests.lean may change (Laws/Keeps.lean).
-/
set_option Elab.async false
set_option linter.all false
set_option linter.unusedTactic false
set_option linter.unreachableTactic false
set_option linter.style.longLine false
namespace Sys2Proof.Machine

theorem Device.noCommand_keeps {W : List Nat} {a : Device} {r : Req} {o : Nat} {row : Nat} {d : Device} (ho : Here o W) (h : Keeps W a d) :
    Keeps W a (Device.noCommand r o row d).2 := by
  unfold Device.noCommand
  try dsimp only
  repeat' first
    | with_reducible exact h | with_reducible assumption | with_reducible exact ho
    | with_reducible refine Device.runCmd_keeps ?_ ?_ ?_ | intro _ _ hq | intro _

theorem Device.onlyOne_keeps {W : List Nat} {a : Device} {r : Req} {o row v : Nat} {f : Device → Nat × Device} {d : Device}
    (ho : Here o W) (h : Keeps W a d) (hf : ∀ x, Keeps W a x → Keeps W a (f x).2) :
    Keeps W a (Device.onlyOne r o row v f d).2 := by
  unfold Device.onlyOne
  split
  · exact hf _ h
  · exact Device.noCommand_keeps ho h

def Touch.bankCommand : List Nat :=
  Touch.katNowCore

theorem Device.bankCommand_keeps {W : List Nat} {a : Device} {r : Req} {b : Nat} {v : Nat} {d : Device} (hW : Sub Touch.bankCommand W) (h : Keeps W a d) :
    Keeps W a (Device.bankCommand r b v d).2 := by
  unfold Device.bankCommand
  try dsimp only
  repeat' first
    | with_reducible exact h | exact memT (by decide +kernel) hW | with_reducible apply Keeps.ite
    | with_reducible refine Device.bankRetireCore_keeps (subT (by decide +kernel) hW) ?_
    | with_reducible refine Device.katNowCore_keeps (subT (by decide +kernel) hW) ?_
    | with_reducible refine Device.unstated_keeps (subT (by decide +kernel) hW) ?_
    | with_reducible refine Device.noCommand_keeps ?_ ?_ | with_reducible apply Keeps.ite2 | split

def Touch.command : List Nat :=
  [O.FW_SLOT_STATE, O.FW_SLOT_DIGEST, O.FW_SLOT_VERSION, O.FW_SLOT_BUILD_ID, O.FW_CMD, O.RING_UPSTREAM_PRESENT,
  O.LOCK, O.LOCK_BREAK, O.GROUP_OWNER, O.GROUP_STATE, O.GROUP_CMD, O.GROUP_WRITES, O.GROUP_FAIL_ADDRESS,
  O.GROUP_FLAGS, O.SESSION_STATE, O.SESSION_ROLE, O.SESSION_CA, O.SESSION_ID, O.SESSION_LAST_COUNTER,
  O.SESSION_CLOSE, O.ROLE_ROOT, O.RING_ENABLE, O.RING_HEAD, O.RING_TAIL, O.RING_STATE, O.RING_COMPLETED,
  O.RING_REJECTED, O.INJECT_REFUSED, O.MODE, O.MODE_CMD, O.MODE_ENTERED_AT, O.MODE_CAUSE, O.DRAIN_DISCARDED,
  O.SLICE_STATE, O.SLICE_CMD, O.SLICE_CAUSE, O.SLICE_DISCARDED, O.RUNAHEAD_FALSE_STARTS, O.RUNAHEAD_WASTED_CELLS,
  O.BANK_STATE, O.BANK_RETIRED_MASK, O.BANK_DISCARDS, O.BANK_KAT_FAILS, O.BANK_CMD, O.LC_STATE, O.LC_PENDING,
  O.LC_RMA_UNLOCKED, O.LC_CMD, O.LC_ARG_TOKEN, O.LC_ARG_OWNER_ROOT, O.DBG_SRAM_DATA, O.DBG_SRAM_CMD,
  O.ATT_LEAVES_LEFT, O.ATT_BUILD_TOP, O.ATT_CMD, O.ATT_EVIDENCE_PART_0, O.ATT_EVIDENCE_PART_1,
  O.ATT_EVIDENCE_PART_2, O.ATT_EVIDENCE_PART_3, O.ATT_EVIDENCE_PART_4, O.ATT_EVIDENCE_PART_5, O.VAULT_STATE,
  O.VAULT_HANDLE, O.VAULT_LEVEL, O.VAULT_PURPOSE, O.VAULT_KEY_BITS, O.VAULT_COUNTED, O.VAULT_USES_LEFT,
  O.VAULT_ORIGIN, O.VAULT_PARENT, O.VAULT_CREATED_AT, O.VAULT_ARG_KEY, O.VAULT_ARG_BLOB, O.VAULT_CMD,
  O.VAULT_RESULT_HANDLE, O.VAULT_CHECK_FAILS, O.DRBG_STATE, O.LA_CONTEXTS_BUSY, O.LA_RANDOM_IV_JOBS, O.PHC_CMD,
  O.PHC_UTC_OFFSET, O.PHC_LEAP_AT, O.PHC_LEAP_KIND, O.TS_RX_LATENCY, O.TS_TX_LATENCY, O.TS_CAL_CMD,
  O.TIME_UPSTREAM_SEL, O.TIME_HOLD_STATE, O.GUN_STATE, O.GUN_OWNER, O.GUN_TARGET_ROW, O.GUN_TIME, O.GUN_SEQ,
  O.GUN_TAG, O.GUN_TARGET_CYCLE, O.GUN_FIRED_AT, O.GUN_FLAGS, O.LANE_SIGNAL, O.LANE_ADAPT,
  O.LANE_FEC_SYMBOL_ERRORS, O.LANE_PRBS_ERRORS, O.PORT_RECAL_CMD, O.PORT_LINK, O.PORT_LINK_CHANGES,
  O.PORT_TX_FRAMES, O.PORT_TX_BYTES, O.PORT_TX_TRUNCATED, O.PORT_FEC_CORRECTED_CW, O.PORT_PCS_ALIGN_LOSS,
  O.PORT_RECAL_STATE, O.PORT_RECAL_FLAGS, O.PORT_FC_TX_XOFF_C0, O.PORT_FC_TX_XOFF_C1, O.PORT_FC_TX_XOFF_C2,
  O.PORT_FC_TX_XOFF_C3, O.PORT_FC_TX_XOFF_C4, O.PORT_FC_TX_XOFF_C5, O.PORT_FC_TX_XOFF_C6, O.PORT_FC_TX_XOFF_C7,
  O.SC_STATUS, O.SA_STATE, O.SA_KEK, O.SA_WRAPPED_SAK, O.SA_CMD, O.SA_SLOT, O.SA_FLAGS, O.SA_CHANGED_AT,
  O.SCSA_SLOT0_ROW, O.SCSA_SLOT1_ROW, O.SCSA_IN_FORCE_AN, O.SCSA_ZONE_OPEN, O.SCSA_HANDOVERS, O.SA_STAT_PKTS,
  O.SA_STAT_OCTETS, O.SA_STAT_PKTS_ENCRYPTED, O.SA_STAT_NOT_VALID, O.SA_STAT_COMMIT_LATE, O.SA_STAT_TX_LOST,
  O.PARSER_ACTIVE_IMAGE, O.PARSER_ACTIVE_DIGEST, O.PARSER_SHADOW_STATE, O.PARSER_SHADOW_DIGEST, O.PARSER_CMD,
  O.LEARN_ENTRIES, O.LEARN_FLUSH, O.RXSC_ENTRY, O.CALLROOM_OCCUPANCY, O.CALLROOM_PEAK, O.CLS_RESULT, O.CLS_CMD,
  O.CLS_FOUND, O.CLS_ENTRIES, O.CLS_INSERTS, O.CLS_MOVES, O.CLS_EVICTIONS, O.QUEUE_OCCUPANCY, O.QUEUE_NODE,
  O.BUFP_USED_CELLS, O.BUF_HEADROOM_CELLS, O.BUF_SLACK_CELLS, O.BUF_HEADROOM_USED, O.MEM_CH_STATE, O.MEM_CH_CMD,
  O.MEM_CH_CAUSE, O.MEM_CH_CORRECTED, O.MEM_CH_UNCORRECTABLE, O.MEM_TAG_FAILS, O.MEM_NODE_FAILS,
  O.MEM_CTR_READONLY, O.MEM_POISON_COUNT, O.MEM_TREE_HITS, O.MEM_TREE_MISSES, O.MEM_REHASH_DONE,
  O.MEM_POISON_OFFSET, O.MEM_POISON_AT, O.MEM_POISON_CAUSE, O.MEM_WIN_DATA, O.MEM_WIN_CMD, O.SRAM_SPARES_LEFT,
  O.SRAM_ROWS_SPARED, O.SRAM_SPARE_CMD, O.FLT_SRC_CLASS, O.FLT_SRC_EVENTS, O.FLT_SRC_LAST_AT, O.FLT_SRC_ACK,
  O.FLT_STATUS, O.FLT_ACK_ALL, O.FLT_FATAL_SINCE_BOOT, O.FLT_LOG_LAST_SEQ, O.FLT_LOG_OVERWRITTEN, O.FLT_EVENT_LOST,
  O.FLT_FIRST_SEVERE, O.FLT_LOG_RECORD, O.MON_STATE, O.PMC_VALUE, O.PMC_STATUS, O.PEER_KEY, F.mode, F.clockOn,
  F.boot, F.resetLatch, F.cyc, F.clk, F.edge, F.draws, F.out, F.sess, F.proofFails, F.lockoutUntil, F.lockRenewed,
  F.groups, F.ring, F.pcieWindows, F.pcieDma, F.pcieMasked, F.pciePending, F.pcieServed, F.jtag, F.pins, F.acqAt,
  F.drainAt, F.gunSeq, F.guns, F.faults, F.vault, F.checkKey, F.storeKey, F.keyTests, F.keyRestart, F.keyScrub,
  F.saRecs, F.saCtxs, F.saHolds, F.saLastPn, F.banks, F.pipe, F.clsx, F.queues, F.nodes, F.pairs, F.ports, F.laps,
  F.pmc, F.memCells, F.memRest, F.otp, F.flash, F.lc, F.fw, F.att, F.sram, F.time, F.mon, F.la, F.pcieVectors,
  F.pcieMsixOn, F.pcieFuncMask, F.keyScrubFrom, F.keyReseed, F.keyRequests, F.objects]

def Touch.systemCommand : List Nat :=
  [O.RING_UPSTREAM_PRESENT, O.LOCK, O.LOCK_BREAK, O.GROUP_OWNER, O.GROUP_STATE, O.GROUP_CMD, O.GROUP_WRITES,
  O.GROUP_FAIL_ADDRESS, O.GROUP_FLAGS, O.SESSION_STATE, O.SESSION_ROLE, O.SESSION_CA, O.SESSION_ID,
  O.SESSION_LAST_COUNTER, O.SESSION_CLOSE, O.ROLE_ROOT, O.RING_ENABLE, O.RING_HEAD, O.RING_TAIL, O.RING_STATE,
  O.RING_COMPLETED, O.RING_REJECTED, O.INJECT_REFUSED, O.MODE, O.MODE_CMD, O.MODE_ENTERED_AT, O.MODE_CAUSE,
  O.DRAIN_DISCARDED, O.SLICE_STATE, O.SLICE_CMD, O.SLICE_CAUSE, O.SLICE_DISCARDED, O.RUNAHEAD_FALSE_STARTS,
  O.RUNAHEAD_WASTED_CELLS, O.BANK_STATE, O.BANK_RETIRED_MASK, O.BANK_DISCARDS, O.BANK_KAT_FAILS, O.BANK_CMD,
  O.VAULT_STATE, O.VAULT_HANDLE, O.VAULT_LEVEL, O.VAULT_PURPOSE, O.VAULT_KEY_BITS, O.VAULT_COUNTED,
  O.VAULT_USES_LEFT, O.VAULT_ORIGIN, O.VAULT_PARENT, O.VAULT_CREATED_AT, O.VAULT_ARG_KEY, O.VAULT_CMD,
  O.VAULT_RESULT_HANDLE, O.DRBG_STATE, O.LA_CONTEXTS_BUSY, O.PHC_CMD, O.PHC_UTC_OFFSET, O.PHC_LEAP_AT,
  O.PHC_LEAP_KIND, O.TS_RX_LATENCY, O.TS_TX_LATENCY, O.TS_CAL_CMD, O.TIME_UPSTREAM_SEL, O.TIME_HOLD_STATE,
  O.GUN_STATE, O.GUN_OWNER, O.GUN_TARGET_ROW, O.GUN_TIME, O.GUN_SEQ, O.GUN_TAG, O.GUN_TARGET_CYCLE, O.GUN_FIRED_AT,
  O.GUN_FLAGS, O.LANE_SIGNAL, O.LANE_ADAPT, O.LANE_FEC_SYMBOL_ERRORS, O.LANE_PRBS_ERRORS, O.PORT_RECAL_CMD,
  O.PORT_LINK, O.PORT_LINK_CHANGES, O.PORT_TX_FRAMES, O.PORT_TX_BYTES, O.PORT_TX_TRUNCATED,
  O.PORT_FEC_CORRECTED_CW, O.PORT_PCS_ALIGN_LOSS, O.PORT_RECAL_STATE, O.PORT_RECAL_FLAGS, O.PORT_FC_TX_XOFF_C0,
  O.PORT_FC_TX_XOFF_C1, O.PORT_FC_TX_XOFF_C2, O.PORT_FC_TX_XOFF_C3, O.PORT_FC_TX_XOFF_C4, O.PORT_FC_TX_XOFF_C5,
  O.PORT_FC_TX_XOFF_C6, O.PORT_FC_TX_XOFF_C7, O.SC_STATUS, O.SA_STATE, O.SA_KEK, O.SA_SLOT, O.SA_FLAGS,
  O.SA_CHANGED_AT, O.SCSA_SLOT0_ROW, O.SCSA_SLOT1_ROW, O.SCSA_IN_FORCE_AN, O.SCSA_ZONE_OPEN, O.SA_STAT_PKTS,
  O.SA_STAT_OCTETS, O.SA_STAT_PKTS_ENCRYPTED, O.SA_STAT_NOT_VALID, O.SA_STAT_COMMIT_LATE, O.SA_STAT_TX_LOST,
  O.PARSER_ACTIVE_IMAGE, O.PARSER_ACTIVE_DIGEST, O.PARSER_SHADOW_STATE, O.PARSER_SHADOW_DIGEST, O.LEARN_ENTRIES,
  O.RXSC_ENTRY, O.CALLROOM_OCCUPANCY, O.CALLROOM_PEAK, O.CLS_CMD, O.CLS_ENTRIES, O.CLS_INSERTS, O.CLS_MOVES,
  O.CLS_EVICTIONS, O.QUEUE_OCCUPANCY, O.QUEUE_NODE, O.BUFP_USED_CELLS, O.BUF_HEADROOM_CELLS, O.BUF_SLACK_CELLS,
  O.BUF_HEADROOM_USED, O.MEM_TAG_FAILS, O.MEM_NODE_FAILS, O.MEM_CTR_READONLY, O.MEM_POISON_COUNT, O.MEM_TREE_HITS,
  O.MEM_TREE_MISSES, O.MEM_POISON_OFFSET, O.MEM_POISON_AT, O.MEM_POISON_CAUSE, O.FLT_SRC_CLASS, O.FLT_SRC_EVENTS,
  O.FLT_SRC_LAST_AT, O.FLT_STATUS, O.FLT_FATAL_SINCE_BOOT, O.FLT_LOG_LAST_SEQ, O.FLT_LOG_OVERWRITTEN,
  O.FLT_EVENT_LOST, O.FLT_FIRST_SEVERE, O.FLT_LOG_RECORD, O.MON_STATE, O.PMC_VALUE, O.PMC_STATUS, O.PEER_KEY,
  F.mode, F.clockOn, F.boot, F.resetLatch, F.cyc, F.clk, F.edge, F.draws, F.out, F.sess, F.proofFails,
  F.lockoutUntil, F.lockRenewed, F.groups, F.ring, F.pcieWindows, F.pcieDma, F.pcieMasked, F.pciePending,
  F.pcieServed, F.jtag, F.pins, F.acqAt, F.drainAt, F.gunSeq, F.guns, F.faults, F.vault, F.checkKey, F.storeKey,
  F.keyTests, F.keyRestart, F.keyScrub, F.saRecs, F.saCtxs, F.saHolds, F.saLastPn, F.banks, F.pipe, F.clsx,
  F.queues, F.nodes, F.pairs, F.ports, F.laps, F.pmc, F.memCells, F.memRest, F.lc, F.fw, F.att, F.sram, F.time,
  F.mon, F.la, F.pcieVectors, F.pcieMsixOn, F.pcieFuncMask, F.keyScrubFrom, F.keyReseed, F.keyRequests, F.objects]

theorem Device.systemCommand_keeps {W : List Nat} {a : Device} {r : Req} {o row v : Nat} {g : Device → Nat × Device}
    (hg : Device.systemCommand r o row v = some g) {d : Device} (ho : Here o W) (hW : Sub Touch.systemCommand W) (h : Keeps W a d) :
    Keeps W a (g d).2 := by
  unfold Device.systemCommand at hg
  repeat' split at hg
  all_goals first
    | (have hg := Option.some.inj hg; subst hg)
    | cases hg
  all_goals repeat' first
    | with_reducible exact h
    | with_reducible assumption
    | with_reducible exact ho
    | exact memT (by decide +kernel) hW
    | with_reducible refine Device.onlyOne_keeps ?_ ?_ ?_
    | with_reducible refine Device.lockBreakCore_keeps (subT (by decide +kernel) hW) ?_
    | with_reducible refine Device.groupOpenCore_keeps (subT (by decide +kernel) hW) ?_
    | with_reducible refine Device.commitNowCore_keeps (subT (by decide +kernel) hW) ?_
    | with_reducible refine Device.commitAtCore_keeps (subT (by decide +kernel) hW) ?_
    | with_reducible refine Device.groupCancelCore_keeps (subT (by decide +kernel) hW) ?_
    | with_reducible refine Device.groupReleaseCore_keeps (subT (by decide +kernel) hW) ?_
    | with_reducible refine Device.noCommand_keeps ?_ ?_
    | with_reducible refine Device.sessionCloseCore_keeps (subT (by decide +kernel) hW) ?_
    | with_reducible refine Device.goRunCore_keeps (subT (by decide +kernel) hW) ?_
    | with_reducible refine Device.goStageCore_keeps (subT (by decide +kernel) hW) ?_
    | with_reducible refine Device.goDrainCore_keeps (subT (by decide +kernel) hW) ?_
    | with_reducible refine Device.resumeRunCore_keeps (subT (by decide +kernel) hW) ?_
    | with_reducible refine Device.modeCmdResetCore_keeps (subT (by decide +kernel) hW) ?_
    | with_reducible refine Device.takeOutCore_keeps (subT (by decide +kernel) hW) ?_
    | with_reducible refine Device.gateCore_keeps (subT (by decide +kernel) hW) ?_
    | with_reducible refine Device.sliceReturnCore_keeps (subT (by decide +kernel) hW) ?_
    | with_reducible refine Device.portRecalArmCore_keeps (subT (by decide +kernel) hW) ?_
    | with_reducible refine Device.portRecalCancelCore_keeps (subT (by decide +kernel) hW) ?_
    | with_reducible refine Device.phcSetCore_keeps (subT (by decide +kernel) hW) ?_
    | with_reducible refine Device.phcStepCore_keeps (subT (by decide +kernel) hW) ?_
    | with_reducible refine Device.phcSlewCore_keeps (subT (by decide +kernel) hW) ?_
    | with_reducible refine Device.phcSlewStopCore_keeps (subT (by decide +kernel) hW) ?_
    | with_reducible refine Device.tsCalCore_keeps (subT (by decide +kernel) hW) ?_
    | with_reducible refine Device.bankCommand_keeps (subT (by decide +kernel) hW) ?_
    | intro _

def Touch.pathCommand : List Nat :=
  [O.LOCK, O.GROUP_OWNER, O.GROUP_STATE, O.GROUP_WRITES, O.GROUP_FAIL_ADDRESS, O.GROUP_FLAGS, O.SESSION_STATE,
  O.SESSION_ROLE, O.SESSION_CA, O.SESSION_ID, O.SESSION_LAST_COUNTER, O.ROLE_ROOT, O.RING_ENABLE, O.RING_HEAD,
  O.RING_TAIL, O.RING_STATE, O.RING_COMPLETED, O.RING_REJECTED, O.INJECT_REFUSED, O.MODE, O.MODE_CMD,
  O.MODE_ENTERED_AT, O.MODE_CAUSE, O.RUNAHEAD_FALSE_STARTS, O.RUNAHEAD_WASTED_CELLS, O.BANK_DISCARDS,
  O.VAULT_STATE, O.VAULT_HANDLE, O.VAULT_LEVEL, O.VAULT_PURPOSE, O.VAULT_KEY_BITS, O.VAULT_COUNTED,
  O.VAULT_USES_LEFT, O.VAULT_ORIGIN, O.VAULT_PARENT, O.VAULT_CREATED_AT, O.VAULT_ARG_KEY, O.VAULT_ARG_BLOB,
  O.VAULT_CMD, O.VAULT_RESULT_HANDLE, O.VAULT_CHECK_FAILS, O.DRBG_STATE, O.LA_CONTEXTS_BUSY, O.LA_RANDOM_IV_JOBS,
  O.GUN_STATE, O.GUN_OWNER, O.GUN_TARGET_ROW, O.GUN_TIME, O.GUN_SEQ, O.GUN_TAG, O.GUN_TARGET_CYCLE, O.GUN_FIRED_AT,
  O.GUN_FLAGS, O.PORT_TX_FRAMES, O.PORT_TX_BYTES, O.PORT_TX_TRUNCATED, O.PORT_FC_TX_XOFF_C0, O.PORT_FC_TX_XOFF_C1,
  O.PORT_FC_TX_XOFF_C2, O.PORT_FC_TX_XOFF_C3, O.PORT_FC_TX_XOFF_C4, O.PORT_FC_TX_XOFF_C5, O.PORT_FC_TX_XOFF_C6,
  O.PORT_FC_TX_XOFF_C7, O.SC_STATUS, O.SA_STATE, O.SA_KEK, O.SA_WRAPPED_SAK, O.SA_CMD, O.SA_SLOT, O.SA_FLAGS,
  O.SA_CHANGED_AT, O.SCSA_SLOT0_ROW, O.SCSA_SLOT1_ROW, O.SCSA_IN_FORCE_AN, O.SCSA_ZONE_OPEN, O.SCSA_HANDOVERS,
  O.SA_STAT_PKTS, O.SA_STAT_OCTETS, O.SA_STAT_PKTS_ENCRYPTED, O.SA_STAT_NOT_VALID, O.SA_STAT_COMMIT_LATE,
  O.SA_STAT_TX_LOST, O.PARSER_SHADOW_STATE, O.PARSER_SHADOW_DIGEST, O.PARSER_CMD, O.LEARN_ENTRIES, O.LEARN_FLUSH,
  O.CALLROOM_OCCUPANCY, O.CALLROOM_PEAK, O.CLS_RESULT, O.CLS_CMD, O.CLS_FOUND, O.CLS_ENTRIES, O.CLS_INSERTS,
  O.CLS_MOVES, O.CLS_EVICTIONS, O.QUEUE_OCCUPANCY, O.QUEUE_NODE, O.BUFP_USED_CELLS, O.BUF_HEADROOM_USED,
  O.MEM_TAG_FAILS, O.MEM_NODE_FAILS, O.MEM_CTR_READONLY, O.MEM_POISON_COUNT, O.MEM_TREE_HITS, O.MEM_TREE_MISSES,
  O.MEM_POISON_OFFSET, O.MEM_POISON_AT, O.MEM_POISON_CAUSE, O.FLT_SRC_CLASS, O.FLT_SRC_EVENTS, O.FLT_SRC_LAST_AT,
  O.FLT_STATUS, O.FLT_FATAL_SINCE_BOOT, O.FLT_LOG_LAST_SEQ, O.FLT_LOG_OVERWRITTEN, O.FLT_EVENT_LOST,
  O.FLT_FIRST_SEVERE, O.FLT_LOG_RECORD, O.PMC_VALUE, O.PMC_STATUS, O.PEER_KEY, F.mode, F.draws, F.out, F.sess,
  F.groups, F.ring, F.pcieDma, F.pciePending, F.gunSeq, F.guns, F.faults, F.vault, F.checkKey, F.storeKey,
  F.keyTests, F.keyRestart, F.keyScrub, F.saRecs, F.saCtxs, F.saHolds, F.banks, F.pipe, F.clsx, F.queues, F.nodes,
  F.pairs, F.ports, F.laps, F.pmc, F.memRest, F.lc, F.la, F.keyScrubFrom, F.keyReseed, F.keyRequests]

theorem Device.pathCommand_keeps {W : List Nat} {a : Device} {r : Req} {o row v : Nat} {g : Device → Nat × Device}
    (hg : Device.pathCommand r o row v = some g) {d : Device} (ho : Here o W) (hW : Sub Touch.pathCommand W) (h : Keeps W a d) :
    Keeps W a (g d).2 := by
  unfold Device.pathCommand at hg
  repeat' split at hg
  all_goals first
    | (have hg := Option.some.inj hg; subst hg)
    | cases hg
  all_goals repeat' first
    | with_reducible exact h
    | with_reducible assumption
    | with_reducible exact ho
    | exact memT (by decide +kernel) hW
    | with_reducible refine Device.parserLoadCore_keeps (subT (by decide +kernel) hW) ?_
    | with_reducible refine Device.parserArmCore_keeps (subT (by decide +kernel) hW) ?_
    | with_reducible refine Device.parserCancelCore_keeps (subT (by decide +kernel) hW) ?_
    | with_reducible refine Device.noCommand_keeps ?_ ?_
    | with_reducible refine Device.saProvisionCore_keeps (subT (by decide +kernel) hW) ?_
    | with_reducible refine Device.saLoadCore_keeps (subT (by decide +kernel) hW) ?_
    | with_reducible refine Device.saArmCore_keeps (subT (by decide +kernel) hW) ?_
    | with_reducible refine Device.saCancelCore_keeps (subT (by decide +kernel) hW) ?_
    | with_reducible refine Device.saRetireCore_keeps (subT (by decide +kernel) hW) ?_
    | with_reducible refine Device.saUnloadCore_keeps (subT (by decide +kernel) hW) ?_
    | with_reducible refine Device.saReleaseCore_keeps (subT (by decide +kernel) hW) ?_
    | with_reducible refine Device.clsWriteCore_keeps (subT (by decide +kernel) hW) ?_
    | with_reducible refine Device.clsDeleteCore_keeps (subT (by decide +kernel) hW) ?_
    | with_reducible refine Device.clsReadCore_keeps (subT (by decide +kernel) hW) ?_
    | with_reducible refine Device.onlyOne_keeps ?_ ?_ ?_
    | with_reducible refine Device.learnFlushCore_keeps (subT (by decide +kernel) hW) ?_
    | with_reducible refine Device.vaultImportCore_keeps (subT (by decide +kernel) hW) ?_
    | with_reducible refine Device.vaultDeriveCore_keeps (subT (by decide +kernel) hW) ?_
    | with_reducible refine Device.deriveSuccessorCore_keeps (subT (by decide +kernel) hW) ?_
    | with_reducible refine Device.zeroizeSlotCore_keeps (subT (by decide +kernel) hW) ?_
    | with_reducible refine Device.zeroizeTenantCore_keeps (subT (by decide +kernel) hW) ?_
    | with_reducible refine Device.zeroizeAllCore_keeps (subT (by decide +kernel) hW) ?_
    | intro _

def Touch.careCommand : List Nat :=
  [O.FW_SLOT_STATE, O.FW_SLOT_DIGEST, O.FW_SLOT_VERSION, O.FW_SLOT_BUILD_ID, O.FW_CMD, O.LOCK, O.GROUP_OWNER,
  O.GROUP_STATE, O.GROUP_WRITES, O.GROUP_FAIL_ADDRESS, O.GROUP_FLAGS, O.SESSION_STATE, O.SESSION_ROLE,
  O.SESSION_CA, O.SESSION_ID, O.SESSION_LAST_COUNTER, O.ROLE_ROOT, O.RING_ENABLE, O.RING_HEAD, O.RING_TAIL,
  O.RING_STATE, O.RING_COMPLETED, O.RING_REJECTED, O.INJECT_REFUSED, O.MODE, O.MODE_CMD, O.MODE_ENTERED_AT,
  O.MODE_CAUSE, O.RUNAHEAD_FALSE_STARTS, O.RUNAHEAD_WASTED_CELLS, O.BANK_DISCARDS, O.LC_STATE, O.LC_PENDING,
  O.LC_RMA_UNLOCKED, O.LC_CMD, O.LC_ARG_TOKEN, O.LC_ARG_OWNER_ROOT, O.DBG_SRAM_DATA, O.DBG_SRAM_CMD,
  O.ATT_LEAVES_LEFT, O.ATT_BUILD_TOP, O.ATT_CMD, O.ATT_EVIDENCE_PART_0, O.ATT_EVIDENCE_PART_1,
  O.ATT_EVIDENCE_PART_2, O.ATT_EVIDENCE_PART_3, O.ATT_EVIDENCE_PART_4, O.ATT_EVIDENCE_PART_5, O.VAULT_STATE,
  O.VAULT_HANDLE, O.VAULT_LEVEL, O.VAULT_PURPOSE, O.VAULT_KEY_BITS, O.VAULT_COUNTED, O.VAULT_USES_LEFT,
  O.VAULT_ORIGIN, O.VAULT_PARENT, O.VAULT_CREATED_AT, O.VAULT_ARG_KEY, O.VAULT_CMD, O.VAULT_RESULT_HANDLE,
  O.DRBG_STATE, O.LA_CONTEXTS_BUSY, O.GUN_STATE, O.GUN_OWNER, O.GUN_FLAGS, O.PORT_TX_FRAMES, O.PORT_TX_BYTES,
  O.PORT_TX_TRUNCATED, O.PORT_FC_TX_XOFF_C0, O.PORT_FC_TX_XOFF_C1, O.PORT_FC_TX_XOFF_C2, O.PORT_FC_TX_XOFF_C3,
  O.PORT_FC_TX_XOFF_C4, O.PORT_FC_TX_XOFF_C5, O.PORT_FC_TX_XOFF_C6, O.PORT_FC_TX_XOFF_C7, O.SC_STATUS, O.SA_STATE,
  O.SA_KEK, O.SA_SLOT, O.SA_FLAGS, O.SA_CHANGED_AT, O.SCSA_SLOT0_ROW, O.SCSA_SLOT1_ROW, O.SCSA_IN_FORCE_AN,
  O.SCSA_ZONE_OPEN, O.SA_STAT_PKTS, O.SA_STAT_OCTETS, O.SA_STAT_PKTS_ENCRYPTED, O.SA_STAT_NOT_VALID,
  O.SA_STAT_COMMIT_LATE, O.SA_STAT_TX_LOST, O.CALLROOM_OCCUPANCY, O.CALLROOM_PEAK, O.QUEUE_OCCUPANCY, O.QUEUE_NODE,
  O.BUFP_USED_CELLS, O.BUF_HEADROOM_USED, O.MEM_CH_STATE, O.MEM_CH_CMD, O.MEM_CH_CAUSE, O.MEM_CH_CORRECTED,
  O.MEM_CH_UNCORRECTABLE, O.MEM_TAG_FAILS, O.MEM_NODE_FAILS, O.MEM_CTR_READONLY, O.MEM_POISON_COUNT,
  O.MEM_TREE_HITS, O.MEM_TREE_MISSES, O.MEM_REHASH_DONE, O.MEM_POISON_OFFSET, O.MEM_POISON_AT, O.MEM_POISON_CAUSE,
  O.MEM_WIN_DATA, O.MEM_WIN_CMD, O.SRAM_SPARES_LEFT, O.SRAM_ROWS_SPARED, O.SRAM_SPARE_CMD, O.FLT_SRC_CLASS,
  O.FLT_SRC_EVENTS, O.FLT_SRC_LAST_AT, O.FLT_SRC_ACK, O.FLT_STATUS, O.FLT_ACK_ALL, O.FLT_FATAL_SINCE_BOOT,
  O.FLT_LOG_LAST_SEQ, O.FLT_LOG_OVERWRITTEN, O.FLT_EVENT_LOST, O.FLT_FIRST_SEVERE, O.FLT_LOG_RECORD, O.PMC_VALUE,
  O.PMC_STATUS, O.PEER_KEY, F.mode, F.clockOn, F.boot, F.resetLatch, F.cyc, F.clk, F.edge, F.draws, F.out, F.sess,
  F.proofFails, F.lockoutUntil, F.lockRenewed, F.groups, F.ring, F.pcieWindows, F.pcieDma, F.pcieMasked,
  F.pciePending, F.pcieServed, F.jtag, F.pins, F.acqAt, F.drainAt, F.gunSeq, F.guns, F.faults, F.vault, F.checkKey,
  F.storeKey, F.keyTests, F.keyRestart, F.keyScrub, F.saRecs, F.saCtxs, F.saHolds, F.saLastPn, F.banks, F.pipe,
  F.clsx, F.queues, F.nodes, F.pairs, F.ports, F.laps, F.pmc, F.memCells, F.memRest, F.otp, F.flash, F.lc, F.fw,
  F.att, F.sram, F.time, F.mon, F.la, F.pcieVectors, F.pcieMsixOn, F.pcieFuncMask, F.keyScrubFrom, F.keyReseed,
  F.keyRequests, F.objects]

theorem Device.careCommand_keeps {W : List Nat} {a : Device} {r : Req} {o row v : Nat} {g : Device → Nat × Device}
    (hg : Device.careCommand r o row v = some g) {d : Device} (ho : Here o W) (hW : Sub Touch.careCommand W) (h : Keeps W a d) :
    Keeps W a (g d).2 := by
  unfold Device.careCommand at hg
  repeat' split at hg
  all_goals first
    | (have hg := Option.some.inj hg; subst hg)
    | cases hg
  all_goals repeat' first
    | with_reducible exact h
    | with_reducible assumption
    | with_reducible exact ho
    | exact memT (by decide +kernel) hW
    | with_reducible refine Device.onlyOne_keeps ?_ ?_ ?_
    | with_reducible refine Device.memChRetireCore_keeps (subT (by decide +kernel) hW) ?_
    | with_reducible refine Device.memWinReadCore_keeps (subT (by decide +kernel) hW) ?_
    | with_reducible refine Device.memWinWriteCore_keeps (subT (by decide +kernel) hW) ?_
    | with_reducible refine Device.readCiphertextCore_keeps (subT (by decide +kernel) hW) ?_
    | with_reducible refine Device.memReinitCore_keeps (subT (by decide +kernel) hW) ?_
    | with_reducible refine Device.noCommand_keeps ?_ ?_
    | with_reducible refine Device.sealTestCore_keeps (subT (by decide +kernel) hW) ?_
    | with_reducible refine Device.unlockCore_keeps (subT (by decide +kernel) hW) ?_
    | with_reducible refine Device.personalizeCore_keeps (subT (by decide +kernel) hW) ?_
    | with_reducible refine Device.takeOwnershipCore_keeps (subT (by decide +kernel) hW) ?_
    | with_reducible refine Device.lcReturnCore_keeps (subT (by decide +kernel) hW) ?_
    | with_reducible refine Device.scrapCore_keeps (subT (by decide +kernel) hW) ?_
    | with_reducible refine Device.rmaUnlockCore_keeps (subT (by decide +kernel) hW) ?_
    | with_reducible refine Device.dbgSramReadCore_keeps (subT (by decide +kernel) hW) ?_
    | with_reducible refine Device.unstated_keeps (subT (by decide +kernel) hW) ?_
    | with_reducible refine Device.fwEraseCore_keeps (subT (by decide +kernel) hW) ?_
    | with_reducible refine Device.fwWriteCore_keeps (subT (by decide +kernel) hW) ?_
    | with_reducible refine Device.fwVerifyCore_keeps (subT (by decide +kernel) hW) ?_
    | with_reducible refine Device.fwPreferCore_keeps (subT (by decide +kernel) hW) ?_
    | with_reducible refine Device.activateResetCore_keeps (subT (by decide +kernel) hW) ?_
    | with_reducible refine Device.activateHotCore_keeps (subT (by decide +kernel) hW) ?_
    | with_reducible refine Device.fwDiscardCore_keeps (subT (by decide +kernel) hW) ?_
    | with_reducible refine Device.commitVersionCore_keeps (subT (by decide +kernel) hW) ?_
    | with_reducible refine Device.attBuildTopCore_keeps (subT (by decide +kernel) hW) ?_
    | with_reducible refine Device.attSignCore_keeps (subT (by decide +kernel) hW) ?_
    | with_reducible refine Device.fltSrcAckCore_keeps (subT (by decide +kernel) hW) ?_
    | with_reducible refine Device.fltAckAllCore_keeps (subT (by decide +kernel) hW) ?_
    | with_reducible refine Device.sramSpareCore_keeps (subT (by decide +kernel) hW) ?_
    | intro _

theorem Device.command_keeps {W : List Nat} {a : Device} {r : Req} {o row v : Nat} {d : Device} (ho : Here o W)
    (hW : Sub Touch.command W) (h : Keeps W a d) : Keeps W a (Device.command r o row v d).2 := by
  unfold Device.command
  cases h1 : Device.systemCommand r o row v with
  | some g => simpa using Device.systemCommand_keeps h1 ho (subT (by decide +kernel) hW) h
  | none =>
    cases h2 : Device.pathCommand r o row v with
    | some g => simpa using Device.pathCommand_keeps h2 ho (subT (by decide +kernel) hW) h
    | none =>
      cases h3 : Device.careCommand r o row v with
      | some g => simpa using Device.careCommand_keeps h3 ho (subT (by decide +kernel) hW) h
      | none => simpa using Device.noCommand_keeps ho h

def Touch.commandWrite : List Nat :=
  Touch.command

theorem Device.commandWrite_keeps {W : List Nat} {d₀ : Device} {r : Req} {a : AddrBlock} {v : Bytes} {d : Device} (hW : Sub Touch.commandWrite W) (h : Keeps W d₀ d) :
    Keeps W d₀ (Device.commandWrite r a v d).2 := by
  unfold Device.commandWrite
  try dsimp only
  repeat' first
    | with_reducible exact h | with_reducible assumption | exact memAny (by decide +kernel) hW
    | exact memT (by decide +kernel) hW | with_reducible apply Keeps.ite
    | with_reducible refine Device.runCmd_keeps ?_ ?_ ?_
    | with_reducible refine Device.command_keeps ?_ (subT (by decide +kernel) hW) ?_
    | with_reducible apply Keeps.ite2 | intro _ _ hq | intro _ | split

def Touch.performWrite : List Nat :=
  Touch.command

theorem Device.performWrite_keeps {W : List Nat} {d₀ : Device} {r : Req} {a : AddrBlock} {v : Bytes} {d : Device} (hW : Sub Touch.performWrite W) (h : Keeps W d₀ d) :
    Keeps W d₀ (Device.performWrite r a v d).2 := by
  unfold Device.performWrite
  try dsimp only
  repeat' first
    | with_reducible exact h | with_reducible apply Keeps.ite
    | with_reducible refine Device.shadowWrite_keeps (subT (by decide +kernel) hW) ?_
    | with_reducible refine Device.commandWrite_keeps (subT (by decide +kernel) hW) ?_
    | with_reducible refine Device.writeDirect_keeps (subT (by decide +kernel) hW) ?_
    | with_reducible apply Keeps.ite2 | split

def Touch.performRead : List Nat :=
  Touch.readObject

theorem Device.performRead_keeps {W : List Nat} {d₀ : Device} {limit : Nat} {r : Req} {a : AddrBlock} {d : Device} (hW : Sub Touch.performRead W) (h : Keeps W d₀ d) :
    Keeps W d₀ (Device.performRead limit r a d).2 := by
  unfold Device.performRead
  try dsimp only
  repeat' first
    | with_reducible exact h | with_reducible apply Keeps.ite
    | with_reducible refine Device.readObject_keeps (subT (by decide +kernel) hW) ?_
    | with_reducible apply Keeps.ite2 | split

def Touch.dictWrite : List Nat :=
  Touch.command

theorem Device.dictWrite_keeps {W : List Nat} {d₀ : Device} {r : Req} {a : AddrBlock} {v : Bytes} {d : Device} (hW : Sub Touch.dictWrite W) (h : Keeps W d₀ d) :
    Keeps W d₀ (Device.dictWrite r a v d) := by
  unfold Device.dictWrite
  try dsimp only
  repeat' first
    | with_reducible exact h | with_reducible assumption
    | with_reducible refine Device.direct_keeps (subT (by decide +kernel) hW) ?_ ?_
    | with_reducible refine Device.performWrite_keeps (subT (by decide +kernel) hW) ?_ | intro _ _ hq | intro _

def Touch.groupShadowWrite : List Nat :=
  Touch.command

theorem Device.groupShadowWrite_keeps {W : List Nat} {d₀ : Device} {r : Req} {a : AddrBlock} {v : Bytes} {d : Device} (hW : Sub Touch.groupShadowWrite W) (h : Keeps W d₀ d) :
    Keeps W d₀ (Device.groupShadowWrite r a v d) := by
  unfold Device.groupShadowWrite
  try dsimp only
  repeat' first
    | with_reducible exact h | with_reducible assumption
    | with_reducible refine Device.direct_keeps (subT (by decide +kernel) hW) ?_ ?_
    | with_reducible refine Device.performWrite_keeps (subT (by decide +kernel) hW) ?_ | intro _ _ hq | intro _

def Touch.freqAdjWrite : List Nat :=
  Touch.applyPieces

theorem Device.freqAdjWrite_keeps {W : List Nat} {a : Device} {r : Req} {v : Int} {d : Device} (hW : Sub Touch.freqAdjWrite W) (h : Keeps W a d) :
    Keeps W a (Device.freqAdjWrite r v d).2 := by
  unfold Device.freqAdjWrite
  try dsimp only
  repeat' first
    | with_reducible exact h | with_reducible refine Device.writeDirect_keeps (subT (by decide +kernel) hW) ?_

def Touch.rxscWrite : List Nat :=
  Touch.applyPieces

theorem Device.rxscWrite_keeps {W : List Nat} {a : Device} {r : Req} {sc : Nat} {o : RxscObject} {v : Nat} {d : Device} (hW : Sub Touch.rxscWrite W) (h : Keeps W a d) :
    Keeps W a (Device.rxscWrite r sc o v d).2 := by
  unfold Device.rxscWrite
  try dsimp only
  repeat' first
    | with_reducible exact h | with_reducible refine Device.writeDirect_keeps (subT (by decide +kernel) hW) ?_

def Touch.ringRespond : List Nat :=
  [F.ring]

theorem Device.ringRespond_keeps {W : List Nat} {a : Device} {d : Device} {m : RingMsg} {ks : Option Bytes} {payload : Bytes} (hW : Sub Touch.ringRespond W) (h : Keeps W a d) :
    Keeps W a (Device.ringRespond d m ks payload) := by
  unfold Device.ringRespond
  try dsimp only
  repeat' first
    | with_reducible exact h | with_reducible assumption | with_reducible apply Keeps.ite
    | with_reducible apply Keeps.elim | with_reducible refine Device.ringSend_keeps (subT (by decide +kernel) hW) ?_
    | intro _ _ hq | intro _ | split

def Touch.ringExecute : List Nat :=
  [O.FW_SLOT_STATE, O.FW_SLOT_DIGEST, O.FW_SLOT_VERSION, O.FW_SLOT_BUILD_ID, O.FW_CMD, O.RING_UPSTREAM_PRESENT,
  O.LOCK, O.LOCK_BREAK, O.GROUP_OWNER, O.GROUP_STATE, O.GROUP_CMD, O.GROUP_WRITES, O.GROUP_FAIL_ADDRESS,
  O.GROUP_FLAGS, O.SESSION_STATE, O.SESSION_ROLE, O.SESSION_CA, O.SESSION_ID, O.SESSION_LAST_COUNTER,
  O.SESSION_CLOSE, O.ROLE_ROOT, O.RING_ENABLE, O.RING_HEAD, O.RING_TAIL, O.RING_STATE, O.RING_COMPLETED,
  O.RING_REJECTED, O.INJECT_REFUSED, O.MODE, O.MODE_CMD, O.MODE_ENTERED_AT, O.MODE_CAUSE, O.DRAIN_DISCARDED,
  O.SLICE_STATE, O.SLICE_CMD, O.SLICE_CAUSE, O.SLICE_DISCARDED, O.RUNAHEAD_FALSE_STARTS, O.RUNAHEAD_WASTED_CELLS,
  O.BANK_STATE, O.BANK_RETIRED_MASK, O.BANK_DISCARDS, O.BANK_KAT_FAILS, O.BANK_CMD, O.LC_STATE, O.LC_PENDING,
  O.LC_RMA_UNLOCKED, O.LC_CMD, O.LC_ARG_TOKEN, O.LC_ARG_OWNER_ROOT, O.DBG_SRAM_DATA, O.DBG_SRAM_CMD,
  O.ATT_LEAVES_LEFT, O.ATT_BUILD_TOP, O.ATT_CMD, O.ATT_EVIDENCE_PART_0, O.ATT_EVIDENCE_PART_1,
  O.ATT_EVIDENCE_PART_2, O.ATT_EVIDENCE_PART_3, O.ATT_EVIDENCE_PART_4, O.ATT_EVIDENCE_PART_5, O.VAULT_STATE,
  O.VAULT_HANDLE, O.VAULT_LEVEL, O.VAULT_PURPOSE, O.VAULT_KEY_BITS, O.VAULT_COUNTED, O.VAULT_USES_LEFT,
  O.VAULT_ORIGIN, O.VAULT_PARENT, O.VAULT_CREATED_AT, O.VAULT_ARG_KEY, O.VAULT_ARG_BLOB, O.VAULT_CMD,
  O.VAULT_RESULT_HANDLE, O.VAULT_CHECK_FAILS, O.DRBG_STATE, O.LA_CONTEXTS_BUSY, O.LA_RANDOM_IV_JOBS, O.PHC_CMD,
  O.PHC_UTC_OFFSET, O.PHC_LEAP_AT, O.PHC_LEAP_KIND, O.TS_RX_LATENCY, O.TS_TX_LATENCY, O.TS_CAL_CMD,
  O.TIME_UPSTREAM_SEL, O.TIME_HOLD_STATE, O.GUN_STATE, O.GUN_OWNER, O.GUN_TARGET_ROW, O.GUN_TIME, O.GUN_SEQ,
  O.GUN_TAG, O.GUN_TARGET_CYCLE, O.GUN_FIRED_AT, O.GUN_FLAGS, O.LANE_SIGNAL, O.LANE_ADAPT, O.LANE_SNR_CDB,
  O.LANE_FEC_SYMBOL_ERRORS, O.LANE_PRBS_ERRORS, O.PORT_RECAL_CMD, O.PORT_LINK, O.PORT_LINK_CHANGES,
  O.PORT_TX_FRAMES, O.PORT_TX_BYTES, O.PORT_TX_TRUNCATED, O.PORT_FEC_CORRECTED_CW, O.PORT_PCS_ALIGN_LOSS,
  O.PORT_RECAL_STATE, O.PORT_RECAL_FLAGS, O.PORT_FC_TX_XOFF_C0, O.PORT_FC_TX_XOFF_C1, O.PORT_FC_TX_XOFF_C2,
  O.PORT_FC_TX_XOFF_C3, O.PORT_FC_TX_XOFF_C4, O.PORT_FC_TX_XOFF_C5, O.PORT_FC_TX_XOFF_C6, O.PORT_FC_TX_XOFF_C7,
  O.SC_STATUS, O.SA_STATE, O.SA_KEK, O.SA_WRAPPED_SAK, O.SA_CMD, O.SA_SLOT, O.SA_FLAGS, O.SA_CHANGED_AT,
  O.SCSA_SLOT0_ROW, O.SCSA_SLOT1_ROW, O.SCSA_IN_FORCE_AN, O.SCSA_ZONE_OPEN, O.SCSA_HANDOVERS, O.SA_STAT_PKTS,
  O.SA_STAT_OCTETS, O.SA_STAT_PKTS_ENCRYPTED, O.SA_STAT_NOT_VALID, O.SA_STAT_COMMIT_LATE, O.SA_STAT_TX_LOST,
  O.PARSER_ACTIVE_IMAGE, O.PARSER_ACTIVE_DIGEST, O.PARSER_SHADOW_STATE, O.PARSER_SHADOW_DIGEST, O.PARSER_CMD,
  O.LEARN_ENTRIES, O.LEARN_FLUSH, O.RXSC_ENTRY, O.CALLROOM_OCCUPANCY, O.CALLROOM_PEAK, O.CLS_RESULT, O.CLS_CMD,
  O.CLS_FOUND, O.CLS_ENTRIES, O.CLS_INSERTS, O.CLS_MOVES, O.CLS_EVICTIONS, O.QUEUE_OCCUPANCY, O.QUEUE_NODE,
  O.BUFP_USED_CELLS, O.BUF_HEADROOM_CELLS, O.BUF_SLACK_CELLS, O.BUF_HEADROOM_USED, O.MEM_CH_STATE, O.MEM_CH_CMD,
  O.MEM_CH_CAUSE, O.MEM_CH_CORRECTED, O.MEM_CH_UNCORRECTABLE, O.MEM_TAG_FAILS, O.MEM_NODE_FAILS,
  O.MEM_CTR_READONLY, O.MEM_POISON_COUNT, O.MEM_TREE_HITS, O.MEM_TREE_MISSES, O.MEM_REHASH_DONE,
  O.MEM_POISON_OFFSET, O.MEM_POISON_AT, O.MEM_POISON_CAUSE, O.MEM_WIN_DATA, O.MEM_WIN_CMD, O.SRAM_SPARES_LEFT,
  O.SRAM_ROWS_SPARED, O.SRAM_SPARE_CMD, O.FLT_SRC_CLASS, O.FLT_SRC_EVENTS, O.FLT_SRC_LAST_AT, O.FLT_SRC_ACK,
  O.FLT_STATUS, O.FLT_ACK_ALL, O.FLT_FATAL_SINCE_BOOT, O.FLT_LOG_LAST_SEQ, O.FLT_LOG_OVERWRITTEN, O.FLT_EVENT_LOST,
  O.FLT_FIRST_SEVERE, O.FLT_LOG_RECORD, O.MON_STATE, O.PMC_VALUE, O.PMC_PAIR_HIGH, O.PMC_STATUS, O.PEER_KEY,
  F.mode, F.clockOn, F.boot, F.resetLatch, F.cyc, F.clk, F.edge, F.draws, F.out, F.sess, F.proofFails,
  F.lockoutUntil, F.lockRenewed, F.groups, F.ring, F.pcieWindows, F.pcieDma, F.pcieMasked, F.pciePending,
  F.pcieServed, F.jtag, F.pins, F.acqAt, F.drainAt, F.gunSeq, F.guns, F.faults, F.vault, F.checkKey, F.storeKey,
  F.keyTests, F.keyRestart, F.keyScrub, F.saRecs, F.saCtxs, F.saHolds, F.saLastPn, F.banks, F.pipe, F.clsx,
  F.queues, F.nodes, F.pairs, F.ports, F.laps, F.pmc, F.memCells, F.memRest, F.otp, F.flash, F.lc, F.fw, F.att,
  F.sram, F.time, F.mon, F.la, F.pcieVectors, F.pcieMsixOn, F.pcieFuncMask, F.keyScrubFrom, F.keyReseed,
  F.keyRequests, F.objects]

theorem Device.ringExecute_keeps {W : List Nat} {a : Device} {m : RingMsg} {d : Device} (hW : Sub Touch.ringExecute W) (h : Keeps W a d) :
    Keeps W a (Device.ringExecute m d).2 := by
  unfold Device.ringExecute
  try dsimp only
  repeat' first
    | with_reducible exact h | with_reducible apply Keeps.ite
    | with_reducible refine Device.accept_keeps (subT (by decide +kernel) hW) ?_
    | with_reducible refine Device.performRead_keeps (subT (by decide +kernel) hW) ?_
    | with_reducible refine Device.performWrite_keeps (subT (by decide +kernel) hW) ?_
    | with_reducible refine Device.countRequest_keeps (subT (by decide +kernel) hW) ?_
    | with_reducible apply Keeps.ite2 | split

def Touch.ringTaggedRequest : List Nat :=
  [O.FW_SLOT_STATE, O.FW_SLOT_DIGEST, O.FW_SLOT_VERSION, O.FW_SLOT_BUILD_ID, O.FW_CMD, O.RING_UPSTREAM_PRESENT,
  O.RING_TAG_ERRORS, O.RING_REPLAY_DROPS, O.LOCK, O.LOCK_BREAK, O.GROUP_OWNER, O.GROUP_STATE, O.GROUP_CMD,
  O.GROUP_WRITES, O.GROUP_FAIL_ADDRESS, O.GROUP_FLAGS, O.SESSION_STATE, O.SESSION_ROLE, O.SESSION_CA, O.SESSION_ID,
  O.SESSION_LAST_COUNTER, O.SESSION_CLOSE, O.ROLE_ROOT, O.RING_ENABLE, O.RING_HEAD, O.RING_TAIL, O.RING_STATE,
  O.RING_COMPLETED, O.RING_REJECTED, O.INJECT_REFUSED, O.MODE, O.MODE_CMD, O.MODE_ENTERED_AT, O.MODE_CAUSE,
  O.DRAIN_DISCARDED, O.SLICE_STATE, O.SLICE_CMD, O.SLICE_CAUSE, O.SLICE_DISCARDED, O.RUNAHEAD_FALSE_STARTS,
  O.RUNAHEAD_WASTED_CELLS, O.BANK_STATE, O.BANK_RETIRED_MASK, O.BANK_DISCARDS, O.BANK_KAT_FAILS, O.BANK_CMD,
  O.LC_STATE, O.LC_PENDING, O.LC_RMA_UNLOCKED, O.LC_CMD, O.LC_ARG_TOKEN, O.LC_ARG_OWNER_ROOT, O.DBG_SRAM_DATA,
  O.DBG_SRAM_CMD, O.ATT_LEAVES_LEFT, O.ATT_BUILD_TOP, O.ATT_CMD, O.ATT_EVIDENCE_PART_0, O.ATT_EVIDENCE_PART_1,
  O.ATT_EVIDENCE_PART_2, O.ATT_EVIDENCE_PART_3, O.ATT_EVIDENCE_PART_4, O.ATT_EVIDENCE_PART_5, O.VAULT_STATE,
  O.VAULT_HANDLE, O.VAULT_LEVEL, O.VAULT_PURPOSE, O.VAULT_KEY_BITS, O.VAULT_COUNTED, O.VAULT_USES_LEFT,
  O.VAULT_ORIGIN, O.VAULT_PARENT, O.VAULT_CREATED_AT, O.VAULT_ARG_KEY, O.VAULT_ARG_BLOB, O.VAULT_CMD,
  O.VAULT_RESULT_HANDLE, O.VAULT_CHECK_FAILS, O.DRBG_STATE, O.LA_CONTEXTS_BUSY, O.LA_RANDOM_IV_JOBS, O.PHC_CMD,
  O.PHC_UTC_OFFSET, O.PHC_LEAP_AT, O.PHC_LEAP_KIND, O.TS_RX_LATENCY, O.TS_TX_LATENCY, O.TS_CAL_CMD,
  O.TIME_UPSTREAM_SEL, O.TIME_HOLD_STATE, O.GUN_STATE, O.GUN_OWNER, O.GUN_TARGET_ROW, O.GUN_TIME, O.GUN_SEQ,
  O.GUN_TAG, O.GUN_TARGET_CYCLE, O.GUN_FIRED_AT, O.GUN_FLAGS, O.LANE_SIGNAL, O.LANE_ADAPT, O.LANE_SNR_CDB,
  O.LANE_FEC_SYMBOL_ERRORS, O.LANE_PRBS_ERRORS, O.PORT_RECAL_CMD, O.PORT_LINK, O.PORT_LINK_CHANGES,
  O.PORT_TX_FRAMES, O.PORT_TX_BYTES, O.PORT_TX_TRUNCATED, O.PORT_FEC_CORRECTED_CW, O.PORT_PCS_ALIGN_LOSS,
  O.PORT_RECAL_STATE, O.PORT_RECAL_FLAGS, O.PORT_FC_TX_XOFF_C0, O.PORT_FC_TX_XOFF_C1, O.PORT_FC_TX_XOFF_C2,
  O.PORT_FC_TX_XOFF_C3, O.PORT_FC_TX_XOFF_C4, O.PORT_FC_TX_XOFF_C5, O.PORT_FC_TX_XOFF_C6, O.PORT_FC_TX_XOFF_C7,
  O.SC_STATUS, O.SA_STATE, O.SA_KEK, O.SA_WRAPPED_SAK, O.SA_CMD, O.SA_SLOT, O.SA_FLAGS, O.SA_CHANGED_AT,
  O.SCSA_SLOT0_ROW, O.SCSA_SLOT1_ROW, O.SCSA_IN_FORCE_AN, O.SCSA_ZONE_OPEN, O.SCSA_HANDOVERS, O.SA_STAT_PKTS,
  O.SA_STAT_OCTETS, O.SA_STAT_PKTS_ENCRYPTED, O.SA_STAT_NOT_VALID, O.SA_STAT_COMMIT_LATE, O.SA_STAT_TX_LOST,
  O.PARSER_ACTIVE_IMAGE, O.PARSER_ACTIVE_DIGEST, O.PARSER_SHADOW_STATE, O.PARSER_SHADOW_DIGEST, O.PARSER_CMD,
  O.LEARN_ENTRIES, O.LEARN_FLUSH, O.RXSC_ENTRY, O.CALLROOM_OCCUPANCY, O.CALLROOM_PEAK, O.CLS_RESULT, O.CLS_CMD,
  O.CLS_FOUND, O.CLS_ENTRIES, O.CLS_INSERTS, O.CLS_MOVES, O.CLS_EVICTIONS, O.QUEUE_OCCUPANCY, O.QUEUE_NODE,
  O.BUFP_USED_CELLS, O.BUF_HEADROOM_CELLS, O.BUF_SLACK_CELLS, O.BUF_HEADROOM_USED, O.MEM_CH_STATE, O.MEM_CH_CMD,
  O.MEM_CH_CAUSE, O.MEM_CH_CORRECTED, O.MEM_CH_UNCORRECTABLE, O.MEM_TAG_FAILS, O.MEM_NODE_FAILS,
  O.MEM_CTR_READONLY, O.MEM_POISON_COUNT, O.MEM_TREE_HITS, O.MEM_TREE_MISSES, O.MEM_REHASH_DONE,
  O.MEM_POISON_OFFSET, O.MEM_POISON_AT, O.MEM_POISON_CAUSE, O.MEM_WIN_DATA, O.MEM_WIN_CMD, O.SRAM_SPARES_LEFT,
  O.SRAM_ROWS_SPARED, O.SRAM_SPARE_CMD, O.FLT_SRC_CLASS, O.FLT_SRC_EVENTS, O.FLT_SRC_LAST_AT, O.FLT_SRC_ACK,
  O.FLT_STATUS, O.FLT_ACK_ALL, O.FLT_FATAL_SINCE_BOOT, O.FLT_LOG_LAST_SEQ, O.FLT_LOG_OVERWRITTEN, O.FLT_EVENT_LOST,
  O.FLT_FIRST_SEVERE, O.FLT_LOG_RECORD, O.MON_STATE, O.PMC_VALUE, O.PMC_PAIR_HIGH, O.PMC_STATUS, O.PEER_KEY,
  F.mode, F.clockOn, F.boot, F.resetLatch, F.cyc, F.clk, F.edge, F.draws, F.out, F.sess, F.proofFails,
  F.lockoutUntil, F.lockRenewed, F.groups, F.ring, F.pcieWindows, F.pcieDma, F.pcieMasked, F.pciePending,
  F.pcieServed, F.jtag, F.pins, F.acqAt, F.drainAt, F.gunSeq, F.guns, F.faults, F.vault, F.checkKey, F.storeKey,
  F.keyTests, F.keyRestart, F.keyScrub, F.saRecs, F.saCtxs, F.saHolds, F.saLastPn, F.banks, F.pipe, F.clsx,
  F.queues, F.nodes, F.pairs, F.ports, F.laps, F.pmc, F.memCells, F.memRest, F.otp, F.flash, F.lc, F.fw, F.att,
  F.sram, F.time, F.mon, F.la, F.pcieVectors, F.pcieMsixOn, F.pcieFuncMask, F.keyScrubFrom, F.keyReseed,
  F.keyRequests, F.objects]

theorem Device.ringTaggedRequest_keeps {W : List Nat} {a : Device} {m : RingMsg} {row : Nat} {d : Device} (hW : Sub Touch.ringTaggedRequest W) (h : Keeps W a d) :
    Keeps W a (Device.ringTaggedRequest m row d) := by
  unfold Device.ringTaggedRequest
  try dsimp only
  repeat' first
    | with_reducible exact h | exact memT (by decide +kernel) hW | with_reducible apply Keeps.ite
    | with_reducible refine Device.inc64_keeps ?_ ?_
    | with_reducible refine Device.accept_keeps (subT (by decide +kernel) hW) ?_
    | with_reducible refine Device.ringRespond_keeps (subT (by decide +kernel) hW) ?_
    | with_reducible refine Device.closeSession_keeps (subT (by decide +kernel) hW) ?_
    | with_reducible refine Device.ringExecute_keeps (subT (by decide +kernel) hW) ?_
    | with_reducible refine Device.wr_keeps ?_ ?_
    | with_reducible refine Device.setSess_keeps (subT (by decide +kernel) hW) ?_ | with_reducible apply Keeps.ite2
    | split

def Touch.request : List Nat :=
  [O.FW_SLOT_STATE, O.FW_SLOT_DIGEST, O.FW_SLOT_VERSION, O.FW_SLOT_BUILD_ID, O.FW_CMD, O.RING_POSITION,
  O.RING_UPSTREAM_PRESENT, O.RING_CRC_ERRORS, O.RING_TAG_ERRORS, O.RING_REPLAY_DROPS, O.RING_RETURNED,
  O.RING_BAD_MESSAGES, O.LOCK, O.LOCK_BREAK, O.GROUP_OWNER, O.GROUP_STATE, O.GROUP_CMD, O.GROUP_WRITES,
  O.GROUP_FAIL_ADDRESS, O.GROUP_FLAGS, O.SESSION_STATE, O.SESSION_ROLE, O.SESSION_CA, O.SESSION_ID,
  O.SESSION_LAST_COUNTER, O.SESSION_CLOSE, O.ROLE_ROOT, O.RING_ENABLE, O.RING_HEAD, O.RING_TAIL, O.RING_STATE,
  O.RING_COMPLETED, O.RING_REJECTED, O.INJECT_REFUSED, O.MODE, O.MODE_CMD, O.MODE_ENTERED_AT, O.MODE_CAUSE,
  O.DRAIN_DISCARDED, O.SLICE_STATE, O.SLICE_CMD, O.SLICE_CAUSE, O.SLICE_DISCARDED, O.RUNAHEAD_FALSE_STARTS,
  O.RUNAHEAD_WASTED_CELLS, O.BANK_STATE, O.BANK_RETIRED_MASK, O.BANK_DISCARDS, O.BANK_KAT_FAILS, O.BANK_CMD,
  O.LC_STATE, O.LC_PENDING, O.LC_RMA_UNLOCKED, O.LC_CMD, O.LC_ARG_TOKEN, O.LC_ARG_OWNER_ROOT, O.DBG_SRAM_DATA,
  O.DBG_SRAM_CMD, O.ATT_LEAVES_LEFT, O.ATT_BUILD_TOP, O.ATT_CMD, O.ATT_EVIDENCE_PART_0, O.ATT_EVIDENCE_PART_1,
  O.ATT_EVIDENCE_PART_2, O.ATT_EVIDENCE_PART_3, O.ATT_EVIDENCE_PART_4, O.ATT_EVIDENCE_PART_5, O.VAULT_STATE,
  O.VAULT_HANDLE, O.VAULT_LEVEL, O.VAULT_PURPOSE, O.VAULT_KEY_BITS, O.VAULT_COUNTED, O.VAULT_USES_LEFT,
  O.VAULT_ORIGIN, O.VAULT_PARENT, O.VAULT_CREATED_AT, O.VAULT_ARG_KEY, O.VAULT_ARG_BLOB, O.VAULT_CMD,
  O.VAULT_RESULT_HANDLE, O.VAULT_CHECK_FAILS, O.DRBG_STATE, O.LA_CONTEXTS_BUSY, O.LA_RANDOM_IV_JOBS, O.PHC_CMD,
  O.PHC_UTC_OFFSET, O.PHC_LEAP_AT, O.PHC_LEAP_KIND, O.TS_RX_LATENCY, O.TS_TX_LATENCY, O.TS_CAL_CMD,
  O.TIME_UPSTREAM_SEL, O.TIME_HOLD_STATE, O.GUN_STATE, O.GUN_OWNER, O.GUN_TARGET_ROW, O.GUN_TIME, O.GUN_SEQ,
  O.GUN_TAG, O.GUN_TARGET_CYCLE, O.GUN_FIRED_AT, O.GUN_FLAGS, O.LANE_SIGNAL, O.LANE_ADAPT, O.LANE_SNR_CDB,
  O.LANE_FEC_SYMBOL_ERRORS, O.LANE_PRBS_ERRORS, O.PORT_RECAL_CMD, O.PORT_LINK, O.PORT_LINK_CHANGES,
  O.PORT_TX_FRAMES, O.PORT_TX_BYTES, O.PORT_TX_TRUNCATED, O.PORT_FEC_CORRECTED_CW, O.PORT_PCS_ALIGN_LOSS,
  O.PORT_RECAL_STATE, O.PORT_RECAL_FLAGS, O.PORT_FC_TX_XOFF_C0, O.PORT_FC_TX_XOFF_C1, O.PORT_FC_TX_XOFF_C2,
  O.PORT_FC_TX_XOFF_C3, O.PORT_FC_TX_XOFF_C4, O.PORT_FC_TX_XOFF_C5, O.PORT_FC_TX_XOFF_C6, O.PORT_FC_TX_XOFF_C7,
  O.SC_STATUS, O.SA_STATE, O.SA_KEK, O.SA_WRAPPED_SAK, O.SA_CMD, O.SA_SLOT, O.SA_FLAGS, O.SA_CHANGED_AT,
  O.SCSA_SLOT0_ROW, O.SCSA_SLOT1_ROW, O.SCSA_IN_FORCE_AN, O.SCSA_ZONE_OPEN, O.SCSA_HANDOVERS, O.SA_STAT_PKTS,
  O.SA_STAT_OCTETS, O.SA_STAT_PKTS_ENCRYPTED, O.SA_STAT_NOT_VALID, O.SA_STAT_COMMIT_LATE, O.SA_STAT_TX_LOST,
  O.PARSER_ACTIVE_IMAGE, O.PARSER_ACTIVE_DIGEST, O.PARSER_SHADOW_STATE, O.PARSER_SHADOW_DIGEST, O.PARSER_CMD,
  O.LEARN_ENTRIES, O.LEARN_FLUSH, O.RXSC_ENTRY, O.CALLROOM_OCCUPANCY, O.CALLROOM_PEAK, O.CLS_RESULT, O.CLS_CMD,
  O.CLS_FOUND, O.CLS_ENTRIES, O.CLS_INSERTS, O.CLS_MOVES, O.CLS_EVICTIONS, O.QUEUE_OCCUPANCY, O.QUEUE_NODE,
  O.BUFP_USED_CELLS, O.BUF_HEADROOM_CELLS, O.BUF_SLACK_CELLS, O.BUF_HEADROOM_USED, O.MEM_CH_STATE, O.MEM_CH_CMD,
  O.MEM_CH_CAUSE, O.MEM_CH_CORRECTED, O.MEM_CH_UNCORRECTABLE, O.MEM_TAG_FAILS, O.MEM_NODE_FAILS,
  O.MEM_CTR_READONLY, O.MEM_POISON_COUNT, O.MEM_TREE_HITS, O.MEM_TREE_MISSES, O.MEM_REHASH_DONE,
  O.MEM_POISON_OFFSET, O.MEM_POISON_AT, O.MEM_POISON_CAUSE, O.MEM_WIN_DATA, O.MEM_WIN_CMD, O.SRAM_SPARES_LEFT,
  O.SRAM_ROWS_SPARED, O.SRAM_SPARE_CMD, O.FLT_SRC_CLASS, O.FLT_SRC_EVENTS, O.FLT_SRC_LAST_AT, O.FLT_SRC_ACK,
  O.FLT_STATUS, O.FLT_ACK_ALL, O.FLT_FATAL_SINCE_BOOT, O.FLT_LOG_LAST_SEQ, O.FLT_LOG_OVERWRITTEN, O.FLT_EVENT_LOST,
  O.FLT_FIRST_SEVERE, O.FLT_LOG_RECORD, O.MON_STATE, O.PMC_VALUE, O.PMC_PAIR_HIGH, O.PMC_STATUS, O.PEER_KEY,
  F.mode, F.clockOn, F.boot, F.resetLatch, F.cyc, F.clk, F.edge, F.draws, F.out, F.sess, F.proofFails,
  F.lockoutUntil, F.lockRenewed, F.groups, F.ring, F.pcieWindows, F.pcieDma, F.pcieMasked, F.pciePending,
  F.pcieServed, F.jtag, F.pins, F.acqAt, F.drainAt, F.gunSeq, F.guns, F.faults, F.vault, F.checkKey, F.storeKey,
  F.keyTests, F.keyRestart, F.keyScrub, F.saRecs, F.saCtxs, F.saHolds, F.saLastPn, F.banks, F.pipe, F.clsx,
  F.queues, F.nodes, F.pairs, F.ports, F.laps, F.pmc, F.memCells, F.memRest, F.otp, F.flash, F.lc, F.fw, F.att,
  F.sram, F.time, F.mon, F.la, F.pcieVectors, F.pcieMsixOn, F.pcieFuncMask, F.keyScrubFrom, F.keyReseed,
  F.keyRequests, F.objects]

theorem Device.request_keeps {W : List Nat} {a : Device} {m : RingMsg} {d : Device} (hW : Sub Touch.request W) (h : Keeps W a d) :
    Keeps W a (Device.request m d) := by
  unfold Device.request
  try dsimp only
  repeat' first
    | with_reducible exact h | with_reducible assumption | with_reducible apply Keeps.ite
    | with_reducible refine Device.ringArrive_keeps (subT (by decide +kernel) hW) ?_
    | with_reducible refine Device.ringAccept_keeps (subT (by decide +kernel) hW) ?_
    | with_reducible refine Device.ringTaggedRequest_keeps (subT (by decide +kernel) hW) ?_
    | with_reducible refine Device.ringExecute_keeps (subT (by decide +kernel) hW) ?_
    | with_reducible refine Device.ringRespond_keeps (subT (by decide +kernel) hW) ?_
    | with_reducible apply Keeps.ite2 | split

def Touch.pcieWindowRead : List Nat :=
  [O.LOCK, O.GROUP_OWNER, O.GROUP_STATE, O.GROUP_WRITES, O.GROUP_FAIL_ADDRESS, O.GROUP_FLAGS, O.SESSION_STATE,
  O.SESSION_ROLE, O.SESSION_CA, O.SESSION_ID, O.SESSION_LAST_COUNTER, O.ROLE_ROOT, O.RING_ENABLE, O.RING_HEAD,
  O.RING_TAIL, O.RING_STATE, O.RING_COMPLETED, O.RING_REJECTED, O.INJECT_REFUSED, O.MODE, O.MODE_CMD,
  O.MODE_ENTERED_AT, O.MODE_CAUSE, O.RUNAHEAD_FALSE_STARTS, O.RUNAHEAD_WASTED_CELLS, O.BANK_DISCARDS,
  O.VAULT_STATE, O.VAULT_HANDLE, O.VAULT_LEVEL, O.VAULT_PURPOSE, O.VAULT_KEY_BITS, O.VAULT_COUNTED,
  O.VAULT_USES_LEFT, O.VAULT_ORIGIN, O.VAULT_PARENT, O.VAULT_CREATED_AT, O.VAULT_ARG_KEY, O.VAULT_CMD,
  O.VAULT_RESULT_HANDLE, O.DRBG_STATE, O.LA_CONTEXTS_BUSY, O.GUN_STATE, O.GUN_OWNER, O.GUN_FLAGS, O.LANE_SNR_CDB,
  O.LANE_FEC_SYMBOL_ERRORS, O.LANE_PRBS_ERRORS, O.PORT_TX_FRAMES, O.PORT_TX_BYTES, O.PORT_TX_TRUNCATED,
  O.PORT_FEC_CORRECTED_CW, O.PORT_FC_TX_XOFF_C0, O.PORT_FC_TX_XOFF_C1, O.PORT_FC_TX_XOFF_C2, O.PORT_FC_TX_XOFF_C3,
  O.PORT_FC_TX_XOFF_C4, O.PORT_FC_TX_XOFF_C5, O.PORT_FC_TX_XOFF_C6, O.PORT_FC_TX_XOFF_C7, O.SC_STATUS, O.SA_STATE,
  O.SA_KEK, O.SA_SLOT, O.SA_FLAGS, O.SA_CHANGED_AT, O.SCSA_SLOT0_ROW, O.SCSA_SLOT1_ROW, O.SCSA_IN_FORCE_AN,
  O.SCSA_ZONE_OPEN, O.SA_STAT_PKTS, O.SA_STAT_OCTETS, O.SA_STAT_PKTS_ENCRYPTED, O.SA_STAT_NOT_VALID,
  O.SA_STAT_COMMIT_LATE, O.SA_STAT_TX_LOST, O.CALLROOM_OCCUPANCY, O.CALLROOM_PEAK, O.QUEUE_OCCUPANCY, O.QUEUE_NODE,
  O.BUFP_USED_CELLS, O.BUF_HEADROOM_USED, O.MEM_TAG_FAILS, O.MEM_NODE_FAILS, O.MEM_CTR_READONLY,
  O.MEM_POISON_COUNT, O.MEM_TREE_HITS, O.MEM_TREE_MISSES, O.MEM_POISON_OFFSET, O.MEM_POISON_AT, O.MEM_POISON_CAUSE,
  O.FLT_SRC_CLASS, O.FLT_SRC_EVENTS, O.FLT_SRC_LAST_AT, O.FLT_STATUS, O.FLT_FATAL_SINCE_BOOT, O.FLT_LOG_LAST_SEQ,
  O.FLT_LOG_OVERWRITTEN, O.FLT_EVENT_LOST, O.FLT_FIRST_SEVERE, O.FLT_LOG_RECORD, O.PMC_VALUE, O.PMC_PAIR_HIGH,
  O.PMC_STATUS, O.PEER_KEY, F.mode, F.draws, F.out, F.sess, F.lockRenewed, F.groups, F.ring, F.pcieWindows,
  F.pcieDma, F.pciePending, F.faults, F.vault, F.checkKey, F.storeKey, F.keyTests, F.keyRestart, F.keyScrub,
  F.saRecs, F.saCtxs, F.banks, F.pipe, F.clsx, F.queues, F.nodes, F.pairs, F.ports, F.laps, F.pmc, F.memRest, F.lc,
  F.la, F.keyScrubFrom, F.keyReseed, F.keyRequests]

theorem Device.pcieWindowRead_keeps {W : List Nat} {d₀ : Device} {w : Nat} {session : Nat} {a : AddrBlock} {d : Device} (hW : Sub Touch.pcieWindowRead W) (h : Keeps W d₀ d) :
    Keeps W d₀ (Device.pcieWindowRead w session a d) := by
  unfold Device.pcieWindowRead
  try dsimp only
  repeat' first
    | with_reducible exact h | with_reducible apply Keeps.ite
    | with_reducible refine Device.windowSubmit_keeps (subT (by decide +kernel) hW) ?_
    | with_reducible refine Device.windowDone_keeps (subT (by decide +kernel) hW) ?_
    | with_reducible refine Device.performRead_keeps (subT (by decide +kernel) hW) ?_
    | with_reducible refine Device.accept_keeps (subT (by decide +kernel) hW) ?_
    | with_reducible refine Device.countRequest_keeps (subT (by decide +kernel) hW) ?_
    | with_reducible apply Keeps.ite2 | split

def Touch.pcieWindowWrite : List Nat :=
  Touch.command

theorem Device.pcieWindowWrite_keeps {W : List Nat} {d₀ : Device} {w : Nat} {session : Nat} {a : AddrBlock} {v : Bytes} {d : Device} (hW : Sub Touch.pcieWindowWrite W) (h : Keeps W d₀ d) :
    Keeps W d₀ (Device.pcieWindowWrite w session a v d) := by
  unfold Device.pcieWindowWrite
  try dsimp only
  repeat' first
    | with_reducible exact h | with_reducible apply Keeps.ite
    | with_reducible refine Device.windowSubmit_keeps (subT (by decide +kernel) hW) ?_
    | with_reducible refine Device.windowDone_keeps (subT (by decide +kernel) hW) ?_
    | with_reducible refine Device.performWrite_keeps (subT (by decide +kernel) hW) ?_
    | with_reducible refine Device.accept_keeps (subT (by decide +kernel) hW) ?_
    | with_reducible refine Device.countRequest_keeps (subT (by decide +kernel) hW) ?_
    | with_reducible apply Keeps.ite2 | split

def Touch.dapRead : List Nat :=
  [O.LOCK, O.GROUP_OWNER, O.GROUP_STATE, O.GROUP_WRITES, O.GROUP_FAIL_ADDRESS, O.GROUP_FLAGS, O.SESSION_STATE,
  O.SESSION_ROLE, O.SESSION_CA, O.SESSION_ID, O.SESSION_LAST_COUNTER, O.ROLE_ROOT, O.RING_ENABLE, O.RING_HEAD,
  O.RING_TAIL, O.RING_STATE, O.RING_COMPLETED, O.RING_REJECTED, O.INJECT_REFUSED, O.MODE, O.MODE_CMD,
  O.MODE_ENTERED_AT, O.MODE_CAUSE, O.RUNAHEAD_FALSE_STARTS, O.RUNAHEAD_WASTED_CELLS, O.BANK_DISCARDS,
  O.VAULT_STATE, O.VAULT_HANDLE, O.VAULT_LEVEL, O.VAULT_PURPOSE, O.VAULT_KEY_BITS, O.VAULT_COUNTED,
  O.VAULT_USES_LEFT, O.VAULT_ORIGIN, O.VAULT_PARENT, O.VAULT_CREATED_AT, O.VAULT_ARG_KEY, O.VAULT_CMD,
  O.VAULT_RESULT_HANDLE, O.DRBG_STATE, O.LA_CONTEXTS_BUSY, O.GUN_STATE, O.GUN_OWNER, O.GUN_FLAGS, O.LANE_SNR_CDB,
  O.LANE_FEC_SYMBOL_ERRORS, O.LANE_PRBS_ERRORS, O.PORT_TX_FRAMES, O.PORT_TX_BYTES, O.PORT_TX_TRUNCATED,
  O.PORT_FEC_CORRECTED_CW, O.PORT_FC_TX_XOFF_C0, O.PORT_FC_TX_XOFF_C1, O.PORT_FC_TX_XOFF_C2, O.PORT_FC_TX_XOFF_C3,
  O.PORT_FC_TX_XOFF_C4, O.PORT_FC_TX_XOFF_C5, O.PORT_FC_TX_XOFF_C6, O.PORT_FC_TX_XOFF_C7, O.SC_STATUS, O.SA_STATE,
  O.SA_KEK, O.SA_SLOT, O.SA_FLAGS, O.SA_CHANGED_AT, O.SCSA_SLOT0_ROW, O.SCSA_SLOT1_ROW, O.SCSA_IN_FORCE_AN,
  O.SCSA_ZONE_OPEN, O.SA_STAT_PKTS, O.SA_STAT_OCTETS, O.SA_STAT_PKTS_ENCRYPTED, O.SA_STAT_NOT_VALID,
  O.SA_STAT_COMMIT_LATE, O.SA_STAT_TX_LOST, O.CALLROOM_OCCUPANCY, O.CALLROOM_PEAK, O.QUEUE_OCCUPANCY, O.QUEUE_NODE,
  O.BUFP_USED_CELLS, O.BUF_HEADROOM_USED, O.MEM_TAG_FAILS, O.MEM_NODE_FAILS, O.MEM_CTR_READONLY,
  O.MEM_POISON_COUNT, O.MEM_TREE_HITS, O.MEM_TREE_MISSES, O.MEM_POISON_OFFSET, O.MEM_POISON_AT, O.MEM_POISON_CAUSE,
  O.FLT_SRC_CLASS, O.FLT_SRC_EVENTS, O.FLT_SRC_LAST_AT, O.FLT_STATUS, O.FLT_FATAL_SINCE_BOOT, O.FLT_LOG_LAST_SEQ,
  O.FLT_LOG_OVERWRITTEN, O.FLT_EVENT_LOST, O.FLT_FIRST_SEVERE, O.FLT_LOG_RECORD, O.PMC_VALUE, O.PMC_PAIR_HIGH,
  O.PMC_STATUS, O.PEER_KEY, F.mode, F.draws, F.out, F.sess, F.lockRenewed, F.groups, F.ring, F.pcieDma,
  F.pciePending, F.jtag, F.faults, F.vault, F.checkKey, F.storeKey, F.keyTests, F.keyRestart, F.keyScrub, F.saRecs,
  F.saCtxs, F.banks, F.pipe, F.clsx, F.queues, F.nodes, F.pairs, F.ports, F.laps, F.pmc, F.memRest, F.lc, F.la,
  F.keyScrubFrom, F.keyReseed, F.keyRequests]

theorem Device.dapRead_keeps {W : List Nat} {d₀ : Device} {session : Nat} {a : AddrBlock} {d : Device} (hW : Sub Touch.dapRead W) (h : Keeps W d₀ d) :
    Keeps W d₀ (Device.dapRead session a d) := by
  unfold Device.dapRead
  try dsimp only
  repeat' first
    | with_reducible exact h | with_reducible apply Keeps.ite
    | with_reducible refine Device.dapScan_keeps (subT (by decide +kernel) hW) ?_
    | with_reducible refine Device.setDapAbort_keeps (subT (by decide +kernel) hW) ?_
    | with_reducible refine Device.performRead_keeps (subT (by decide +kernel) hW) ?_
    | with_reducible refine Device.accept_keeps (subT (by decide +kernel) hW) ?_
    | with_reducible refine Device.countRequest_keeps (subT (by decide +kernel) hW) ?_
    | with_reducible refine Device.dapStore_keeps (subT (by decide +kernel) hW) ?_ | with_reducible apply Keeps.ite2
    | split

def Touch.dapWrite : List Nat :=
  Touch.command

theorem Device.dapWrite_keeps {W : List Nat} {d₀ : Device} {session : Nat} {a : AddrBlock} {n : Nat} {d : Device} (hW : Sub Touch.dapWrite W) (h : Keeps W d₀ d) :
    Keeps W d₀ (Device.dapWrite session a n d) := by
  unfold Device.dapWrite
  try dsimp only
  repeat' first
    | with_reducible exact h | with_reducible apply Keeps.ite
    | with_reducible refine Device.dapScan_keeps (subT (by decide +kernel) hW) ?_
    | with_reducible refine Device.setDapAbort_keeps (subT (by decide +kernel) hW) ?_
    | with_reducible refine Device.performWrite_keeps (subT (by decide +kernel) hW) ?_
    | with_reducible refine Device.accept_keeps (subT (by decide +kernel) hW) ?_
    | with_reducible refine Device.countRequest_keeps (subT (by decide +kernel) hW) ?_
    | with_reducible apply Keeps.ite2 | split

def Touch.ringEnableWrite : List Nat :=
  Touch.applyPieces

theorem Device.ringEnableWrite_keeps {W : List Nat} {a : Device} {r : Req} {n : Nat} {v : Nat} {d : Device} (hW : Sub Touch.ringEnableWrite W) (h : Keeps W a d) :
    Keeps W a (Device.ringEnableWrite r n v d).2 := by
  unfold Device.ringEnableWrite
  try dsimp only
  repeat' first
    | with_reducible exact h | with_reducible refine Device.writeDirect_keeps (subT (by decide +kernel) hW) ?_

def Touch.hostBytes : List Nat :=
  [F.draws]

theorem Device.hostBytes_keeps {W : List Nat} {a : Device} {d : Device} {n : Nat} (hW : Sub Touch.hostBytes W) (h : Keeps W a d) :
    Keeps W a (Device.hostBytes d n).2 := by
  unfold Device.hostBytes
  try dsimp only
  repeat' first
    | with_reducible exact h | with_reducible refine Device.unstated_keeps (subT (by decide +kernel) hW) ?_

def Touch.jobFromHost : List Nat :=
  Touch.lookasideJobStart

theorem Device.jobFromHost_keeps {W : List Nat} {a : Device} {n : Nat} {x : Descriptor} {d : Device} (hW : Sub Touch.jobFromHost W) (h : Keeps W a d) :
    Keeps W a (Device.jobFromHost n x d) := by
  unfold Device.jobFromHost
  try dsimp only
  repeat' first
    | with_reducible exact h | with_reducible refine Device.hostBytes_keeps (subT (by decide +kernel) hW) ?_
    | with_reducible refine Device.lookasideJobStart_keeps (subT (by decide +kernel) hW) ?_

def Touch.dmaDescriptorProcess : List Nat :=
  [O.RING_POSITION, O.RING_CRC_ERRORS, O.RING_RETURNED, O.RING_BAD_MESSAGES, O.LOCK, O.GROUP_OWNER, O.GROUP_STATE,
  O.GROUP_WRITES, O.GROUP_FAIL_ADDRESS, O.GROUP_FLAGS, O.SESSION_STATE, O.SESSION_ROLE, O.SESSION_CA, O.SESSION_ID,
  O.SESSION_LAST_COUNTER, O.ROLE_ROOT, O.RING_ENABLE, O.RING_HEAD, O.RING_TAIL, O.RING_STATE, O.RING_COMPLETED,
  O.RING_REJECTED, O.PUNT_FRAMES, O.INJECT_REFUSED, O.MODE, O.MODE_CMD, O.MODE_ENTERED_AT, O.MODE_CAUSE,
  O.RUNAHEAD_FALSE_STARTS, O.RUNAHEAD_WASTED_CELLS, O.BANK_DISCARDS, O.BANK_KS_HITS, O.BANK_KS_MISSES,
  O.VAULT_STATE, O.VAULT_HANDLE, O.VAULT_LEVEL, O.VAULT_PURPOSE, O.VAULT_KEY_BITS, O.VAULT_COUNTED,
  O.VAULT_USES_LEFT, O.VAULT_ORIGIN, O.VAULT_PARENT, O.VAULT_CREATED_AT, O.VAULT_ARG_KEY, O.VAULT_CMD,
  O.VAULT_RESULT_HANDLE, O.VAULT_CHECK_FAILS, O.DRBG_STATE, O.LA_JOBS, O.LA_CONTEXTS_BUSY, O.LA_RANDOM_IV_JOBS,
  O.GUN_STATE, O.GUN_OWNER, O.GUN_FLAGS, O.PORT_TX_FRAMES, O.PORT_TX_BYTES, O.PORT_TX_TRUNCATED,
  O.PORT_FC_TX_XOFF_C0, O.PORT_FC_TX_XOFF_C1, O.PORT_FC_TX_XOFF_C2, O.PORT_FC_TX_XOFF_C3, O.PORT_FC_TX_XOFF_C4,
  O.PORT_FC_TX_XOFF_C5, O.PORT_FC_TX_XOFF_C6, O.PORT_FC_TX_XOFF_C7, O.SC_STATUS, O.SA_STATE, O.SA_KEK, O.SA_SLOT,
  O.SA_FLAGS, O.SA_CHANGED_AT, O.SCSA_SLOT0_ROW, O.SCSA_SLOT1_ROW, O.SCSA_IN_FORCE_AN, O.SCSA_ZONE_OPEN,
  O.SA_STAT_PKTS, O.SA_STAT_OCTETS, O.SA_STAT_PKTS_ENCRYPTED, O.SA_STAT_NOT_VALID, O.SA_STAT_COMMIT_LATE,
  O.SA_STAT_TX_LOST, O.CALLROOM_OCCUPANCY, O.CALLROOM_PEAK, O.QUEUE_OCCUPANCY, O.QUEUE_NODE, O.BUFP_USED_CELLS,
  O.BUFP_PEAK_CELLS, O.BUF_HEADROOM_USED, O.FLT_SRC_CLASS, O.FLT_SRC_EVENTS, O.FLT_SRC_LAST_AT, O.FLT_STATUS,
  O.FLT_FATAL_SINCE_BOOT, O.FLT_LOG_LAST_SEQ, O.FLT_LOG_OVERWRITTEN, O.FLT_EVENT_LOST, O.FLT_FIRST_SEVERE,
  O.FLT_LOG_RECORD, O.PMC_VALUE, O.PMC_STATUS, O.PEER_KEY, F.mode, F.draws, F.out, F.sess, F.groups, F.ring,
  F.pcieDma, F.pciePending, F.pcieServed, F.faults, F.vault, F.checkKey, F.storeKey, F.keyTests, F.keyRestart,
  F.keyScrub, F.saRecs, F.saCtxs, F.banks, F.pipe, F.clsx, F.queues, F.nodes, F.pairs, F.ports, F.laps, F.pmc,
  F.lc, F.la, F.keyScrubFrom, F.keyReseed, F.keyRequests]

theorem Device.dmaDescriptorProcess_keeps {W : List Nat} {a : Device} {x : Descriptor} {d : Device} (hW : Sub Touch.dmaDescriptorProcess W) (h : Keeps W a d) :
    Keeps W a (Device.dmaDescriptorProcess x d) := by
  unfold Device.dmaDescriptorProcess
  try dsimp only
  repeat' first
    | with_reducible exact h | with_reducible assumption | with_reducible apply Keeps.ite
    | with_reducible apply Keeps.elim
    | with_reducible refine Device.puntDeliver_keeps (subT (by decide +kernel) hW) ?_
    | with_reducible refine Device.hostBytes_keeps (subT (by decide +kernel) hW) ?_
    | with_reducible refine Device.injectDescriptor_keeps (subT (by decide +kernel) hW) ?_
    | with_reducible refine Device.jobFromHost_keeps (subT (by decide +kernel) hW) ?_
    | with_reducible refine Device.eventRingDeliver_keeps (subT (by decide +kernel) hW) ?_
    | with_reducible refine Device.dmaAdvance_keeps (subT (by decide +kernel) hW) ?_
    | with_reducible refine Device.dmaComplete_keeps (subT (by decide +kernel) hW) ?_
    | with_reducible apply Keeps.ite2 | with_reducible apply Keeps.elim2 | intro _ _ hq | intro _ | split

end Sys2Proof.Machine
end

