-- ==== Sys2Proof/Laws/PlainWrites.lean ====
section
/-!
SUPPORT. A write whose pieces all belong to objects without further consequences is the store of its values (R43, R47).
-/
set_option Elab.async false
set_option linter.all false
namespace Sys2Proof.Machine
namespace Device

/-- The objects that shape ports, buckets or classification entries. -/
def shaping : List Nat :=
  [O.PORT_MODE, O.PORT_FC, O.PORT_PFC_LOSSLESS, O.PORT_MAX_FRAME, O.PORT_FAULT_PARTNER, O.PORT_LINK, O.LANE_PRBS, O.LANE_ADAPT, O.SLICE_STATE,
   O.BUF_CABLE_M, O.BUF_PARTNER_NS, O.PACER_CIR, O.PACER_PIR, O.POL_CIR, O.POL_PIR, O.PACER_CBS, O.PACER_PBS, O.POL_CBS,
   O.POL_PBS, O.SC_DIR, O.SC_PORT, O.SC_SCI, O.SC_CA, O.RXSC_HOST_PORT, O.RXSC_CLASS]

theorem shaping_sub {o : Nat} (h : o ∉ moreThanStore) : o ∉ shaping := fun x => h (by
  clear h; revert x; revert o; decide)

theorem shaping_ne {o : Nat} (h : o ∉ shaping) {x : Nat} (hx : shaping.contains x = true) : o ≠ x := by
  intro e; subst e; exact h (by simpa using hx)

/-- The store of plain values. -/
def storePlain (ps : List Piece) (d : Device) : Device := ps.foldl (fun d p => d.wr p.e.obj p.row (storedValue p.e p.num)) d

theorem plain_ne {o : Nat} (h : o ∉ moreThanStore) {x : Nat} (hx : moreThanStore.contains x = true) : o ≠ x := by
  intro e; subst e; exact h (by simpa using hx)

theorem storePiece_plain {p : Piece} (h : p.e.obj ∉ moreThanStore) (s : Nat) (d : Device) :
    storePiece s d p = d.wr p.e.obj p.row (storedValue p.e p.num) := by
  have hn := fun x hx => @plain_ne _ h x hx
  have hz : sizesPairs p.e.obj = false := by
    unfold sizesPairs
    simp [hn O.PORT_MODE (by decide), hn O.PORT_FC (by decide), hn O.PORT_PFC_LOSSLESS (by decide),
      hn O.PORT_MAX_FRAME (by decide), hn O.BUF_CABLE_M (by decide), hn O.BUF_PARTNER_NS (by decide)]
  have hv : newValue d s p = storedValue p.e p.num := by
    unfold newValue
    simp [hn O.LOCK (by decide), hn O.MON_HOT (by decide), hn O.PMC_STATUS (by decide)]
  unfold storePiece
  simp [hz, hv]

theorem storePieces_plain {ps : List Piece} (h : ∀ p ∈ ps, p.e.obj ∉ moreThanStore) (s : Nat) (d : Device) :
    storePieces s ps d = storePlain ps d := by
  unfold storePieces storePlain
  induction ps generalizing d with
  | nil => rfl
  | cons p r ih =>
    rw [List.foldl_cons, List.foldl_cons, storePiece_plain (h p (by simp)), ih (fun q hq => h q (by simp [hq]))]

theorem storePlain_rd {ps : List Piece} (d : Device) {o : Nat} (r : Nat) (h : ∀ p ∈ ps, p.e.obj ≠ o) :
    (storePlain ps d).rd o r = d.rd o r := by
  unfold storePlain
  induction ps generalizing d with
  | nil => rfl
  | cons p q ih =>
    rw [List.foldl_cons, ih _ (fun x hx => h x (by simp [hx])), rd_wr_obj _ _ _ _ (h p (by simp))]

theorem storePlain_same (ps : List Piece) (d : Device) : (storePlain ps d).part = d.part ∧ (storePlain ps d).mode = d.mode ∧
    (storePlain ps d).ports = d.ports := by
  unfold storePlain
  induction ps generalizing d with
  | nil => exact ⟨rfl, rfl, rfl⟩
  | cons p q ih => rw [List.foldl_cons]; exact ih _

theorem bucketObj_plain {o : Nat} (h : o ∉ shaping) : bucketObj o = false := by
  have hn := fun x hx => @shaping_ne _ h x hx
  unfold bucketObj
  simp only [List.any_eq_false, List.mem_range]
  intro i hi
  have : i = 0 ∨ i = 1 ∨ i = 2 ∨ i = 3 := by omega
  rcases this with rfl | rfl | rfl | rfl <;>
    simp [rateObj, sizeObj, (hn O.PACER_CIR (by decide)).symm, (hn O.PACER_PIR (by decide)).symm, (hn O.POL_CIR (by decide)).symm,
      (hn O.POL_PIR (by decide)).symm, (hn O.PACER_CBS (by decide)).symm, (hn O.PACER_PBS (by decide)).symm,
      (hn O.POL_CBS (by decide)).symm, (hn O.POL_PBS (by decide)).symm]

theorem pieceEffect_plain {p : Piece} (h : p.e.obj ∉ moreThanStore) (old d : Device) : pieceEffect old d p = d := by
  have hn := fun x hx => @plain_ne _ h x hx
  unfold pieceEffect
  simp [bucketObj_plain (shaping_sub h), hn O.PHC_FREQ_ADJ (by decide), hn O.PHC_UTC_OFFSET (by decide), hn O.PHC_LEAP_AT (by decide),
    hn O.PHC_LEAP_KIND (by decide), hn O.PPS_OUT_ENABLE (by decide), hn O.TOD_OUT_ENABLE (by decide),
    hn O.RING_UPSTREAM_EXPECTED (by decide), hn O.TIME_BYPASS_EXPECTED (by decide), hn O.TS_RX_BASE (by decide),
    hn O.TS_TX_BASE (by decide), hn O.TS_RX_TEMPCO (by decide), hn O.TS_TX_TEMPCO (by decide), hn O.LANE_PRBS (by decide),
    hn O.RING_ENABLE (by decide), hn O.LOCK (by decide), hn O.MON_ENABLE (by decide), hn O.CALLROOM_XOFF_THRESHOLD (by decide),
    hn O.BUF_LL_XOFF_CELLS (by decide), hn O.BUF_LL_XON_GAP (by decide)]

theorem entryOf_plain {p : Piece} (h : p.e.obj ∉ shaping) : entryOf p = none := by
  have hn := fun x hx => @shaping_ne _ h x hx
  unfold entryOf
  simp [hn O.SC_DIR (by decide), hn O.SC_PORT (by decide), hn O.SC_SCI (by decide), hn O.SC_CA (by decide),
    hn O.RXSC_HOST_PORT (by decide), hn O.RXSC_CLASS (by decide)]

theorem portSends_congr {a b : Device} (hm : b.mode = a.mode) (hp : b.ports = a.ports)
    (hr : ∀ o ∈ [O.SLICE_STATE, O.PORT_FAULT_PARTNER, O.PORT_LINK, O.PORT_MODE, O.LANE_PRBS, O.LANE_ADAPT], ∀ r, b.rd o r = a.rd o r) (p : Nat) :
    b.portSends p = a.portSends p := by
  have h1 := hr O.SLICE_STATE (by simp)
  have h2 := hr O.PORT_FAULT_PARTNER (by simp)
  have h3 := hr O.PORT_LINK (by simp)
  have h4 := hr O.PORT_MODE (by simp)
  have h5 := hr O.LANE_PRBS (by simp)
  have h6 := hr O.LANE_ADAPT (by simp)
  unfold portSends portSignal portFailed portEnabled carrying portOf
  simp only [h1, h2, h3, h4, h5, h6, hm, hp]

theorem foldl_id {β : Type} {l : List β} {f : Device → β → Device} {d : Device} (h : ∀ x ∈ l, f d x = d) : l.foldl f d = d := by
  induction l with
  | nil => rfl
  | cons x r ih => rw [List.foldl_cons, h x (by simp)]; exact ih (fun y hy => h y (by simp [hy]))

theorem storePiece_quiet {p : Piece} (h : p.e.obj ∉ shaping) (s : Nat) (d : Device) :
    storePiece s d p = d.wr p.e.obj p.row (newValue d s p) := by
  have hn := fun x hx => @shaping_ne _ h x hx
  have hz : sizesPairs p.e.obj = false := by
    unfold sizesPairs
    simp [hn O.PORT_MODE (by decide), hn O.PORT_FC (by decide), hn O.PORT_PFC_LOSSLESS (by decide),
      hn O.PORT_MAX_FRAME (by decide), hn O.BUF_CABLE_M (by decide), hn O.BUF_PARTNER_NS (by decide)]
  unfold storePiece
  simp [hz]

theorem storePieces_rd {ps : List Piece} (h : ∀ p ∈ ps, p.e.obj ∉ shaping) (s : Nat) (d : Device) {o : Nat} (r : Nat)
    (ho : ∀ p ∈ ps, p.e.obj ≠ o) : (storePieces s ps d).rd o r = d.rd o r := by
  unfold storePieces
  induction ps generalizing d with
  | nil => rfl
  | cons p q ih =>
    rw [List.foldl_cons, ih (fun x hx => h x (by simp [hx])) _ (fun x hx => ho x (by simp [hx])),
      storePiece_quiet (h p (by simp)), rd_wr_obj _ _ _ _ (ho p (by simp))]

theorem storePieces_same {ps : List Piece} (h : ∀ p ∈ ps, p.e.obj ∉ shaping) (s : Nat) (d : Device) :
    (storePieces s ps d).part = d.part ∧ (storePieces s ps d).mode = d.mode ∧ (storePieces s ps d).ports = d.ports := by
  unfold storePieces
  induction ps generalizing d with
  | nil => exact ⟨rfl, rfl, rfl⟩
  | cons p q ih =>
    rw [List.foldl_cons, storePiece_quiet (h p (by simp))]
    exact ih (fun x hx => h x (by simp [hx])) _

/-- A write that shapes nothing stores its values, and each object's own effect follows. -/
theorem applyPieces_quiet {ps : List Piece} {d : Device} (h : ∀ p ∈ ps, p.e.obj ∉ shaping) (hq : Quiet d) (s : Nat) :
    applyPieces s ps d = ps.foldl (pieceEffect d) (storePieces s ps d) := by
  have h1 : ps.foldl levelsBefore d = d :=
    foldl_id (fun p hp => by unfold levelsBefore; simp [bucketObj_plain (h p hp)])
  have h2 : reshape d ps (storePieces s ps d) = storePieces s ps d := by
    have : shapesOf d (storePieces s ps d) ps = [] := by
      unfold shapesOf
      have : ps.filter (fun p => p.e.obj == O.PORT_MODE) = [] := by
        rw [List.filter_eq_nil_iff]
        intro p hp
        simpa using shaping_ne (h p hp) (x := O.PORT_MODE) (by decide)
      rw [this]; rfl
    unfold reshape
    rw [this]
    rfl
  have h3 : withSignals (fun d' => reshape d ps (storePieces s ps d')) d = storePieces s ps d := by
    unfold withSignals
    dsimp only
    rw [h2]
    refine foldl_id (fun p _ => ?_)
    have hs := storePieces_same h s d
    have hp : ∀ q, (storePieces s ps d).portSends q = d.portSends q := portSends_congr hs.2.1 hs.2.2 (by
      intro o ho r
      refine storePieces_rd h s d r (fun p hp e => h p hp ?_)
      rw [e]
      clear e
      revert o
      decide)
    unfold resignal
    have hh : ((storePieces s ps d).portOf p).holds = [] := by unfold portOf; rw [hs.2.2]; exact hq p
    simp [hp, hh]
  unfold applyPieces
  simp only [h1, h3]
  have h5 : ∀ x, entriesOf d x ps = [] := fun x => by
    unfold entriesOf
    have : (ps.filter (fun p => d.rd p.e.obj p.row != x.rd p.e.obj p.row)).filterMap entryOf = [] := by
      rw [List.filterMap_eq_nil_iff]
      intro p hp
      exact entryOf_plain (h p (List.mem_filter.1 hp).1)
    rw [this]; rfl
  unfold maintainEntries
  rw [h5]
  rfl

/-- A plain write stores its values and does nothing else. -/
theorem applyPieces_plain {ps : List Piece} {d : Device} (h : ∀ p ∈ ps, p.e.obj ∉ moreThanStore) (hq : Quiet d) (s : Nat) :
    applyPieces s ps d = storePlain ps d := by
  rw [applyPieces_quiet (fun p hp => shaping_sub (h p hp)) hq, storePieces_plain h]
  exact foldl_id (fun p hp => pieceEffect_plain (h p hp) _ _)

end Device
end Sys2Proof.Machine
end

