-- ==== Sys2Proof/WellFormed.lean ====
section
/-!
DEFINITION. When a command's operands are ones its carrier can hold: the fields of an address block (R31), of a ring
message (R58), of a Peer Link message (R249), the numbers of rows, ports, lanes, slots and gun entries. A command that
is not well-formed still has its meaning: a request is refused by the checks of R40, an event does not take place.
-/
namespace Sys2Proof

/-- A request: the session identifier is a U32. -/
def Req.wf (r : Req) : Bool := decide (r.session < 2 ^ 32)

/-- The fields of R31: group 8, row 24, flags, sub 8 and index 16 bits. -/
def AddrBlock.wf (a : AddrBlock) : Bool :=
  decide (a.group < 256) && decide (a.row < 2 ^ 24) && decide (a.sub < 256) && decide (a.index < 2 ^ 16)

/-- The fields of R58; a payload is at most 4096 bytes. -/
def RingMsg.wf (m : RingMsg) : Bool :=
  decide (m.dst < 256) && decide (m.src < 256) && decide (m.type < 256) && decide (m.flags < 256) &&
  decide (m.session < 2 ^ 32) && decide (m.counter < 2 ^ 32) && decide (m.reserved < 2 ^ 16) && decide (m.payload.length < 2 ^ 16) &&
  decide (m.tag < 2 ^ 64) && decide (m.crc < 2 ^ 32)

/-- The fields of R249. -/
def PeerMsg.wf (m : PeerMsg) : Bool :=
  decide (m.type < 256) && decide (m.hops < 256) && decide (m.origin < 256) && decide (m.count < 256) &&
  decide (m.sequence < 2 ^ 32) && decide (m.tag < 2 ^ 64) && decide (m.crc < 2 ^ 32)

/-- A descriptor: address, length and 16 kind bytes (R73). -/
def Descriptor.wf (d : Descriptor) : Bool :=
  decide (d.address < 2 ^ 64) && decide (d.length < 2 ^ 32) && decide (d.kind.length = 16)

/-- A received frame: a port row and a stamp of a TIME96's range (R93, R116). -/
def RxFrame.wf (f : RxFrame) : Bool := decide (f.port < 64) && decide (f.data.length < 2 ^ 16)

/-- The parameter block of R305. -/
def LaParams.wf (p : LaParams) : Bool :=
  decide (p.dst < 2 ^ 64) && decide (p.aadAddr < 2 ^ 64) && decide (p.aadLen < 2 ^ 32) && decide (p.iv.length = 16) &&
  decide (p.tag.length = 16)

/-- What an uncorrectable word was: a word of a 128-byte row (R20, R405), a resident slot (R216). -/
def SpareCause.wf : SpareCause → Bool
  | .uncorrectable word _ => decide (word < 8)
  | .corrected => true
def BankWord.wf : BankWord → Bool
  | .schedule slot => decide (slot < 131072)
  | .none | .context _ => true

/-- What the memory returned: a line is 64 bytes, a tag 8 (R320), and the levels above a data line are 1 to 6 (R318). -/
def LineOutcome.wf : LineOutcome → Bool
  | .ok | .corrected _ | .retried _ | .failed _ => true
  | .nodeFailed level _ => decide (1 ≤ level) && decide (level ≤ 6)
  | .raw cipher tag => decide (cipher.length = 64) && decide (tag.length = 8)
  | .rawNode level line tag => decide (1 ≤ level) && decide (level ≤ 6) && decide (line.length = 64) && decide (tag.length = 8)

/-- An entry of the MSI-X table: a 64-bit address and 32 bits of data (R69). -/
def MsixWrite.wf : MsixWrite → Bool
  | .entry e address data _ => decide (e < 64) && decide (address < 2 ^ 64) && decide (data < 2 ^ 32)
  | .control _ _ => true

/-- Row numbers of the tables a command names. -/
def portRow (p : Nat) : Bool := decide (p < 64)
def sliceRow (s : Nat) : Bool := decide (s < 4)
def sessionRowOk (s : Nat) : Bool := decide (1 ≤ s) && decide (s ≤ 52)
def groupRow (g : Nat) : Bool := decide (1 ≤ g) && decide (g ≤ 16)
def ringRow (n : Nat) : Bool := decide (n < 64)
def bankRow (b : Nat) : Bool := decide (b < 8)
def channelRow (c : Nat) : Bool := decide (c < 4)
def gunRow (e : Nat) : Bool := decide (e < 1024)
def sourceRow (s : Nat) : Bool := decide (s < 65536)

/-- The check of one command. -/
def Instr.wf : Instr → Bool
  | .dictWrite r a _ | .groupShadowWrite r a _ => r.wf && a.wf
  | .groupOpen r g | .commitNow r g | .commitAt r g | .groupCancel r g | .groupRelease r g => r.wf && groupRow g
  | .lockClaim r | .lockRelease r | .lockBreak r => r.wf
  | .lockLeaseExpiry | .ringCharacterLock _ _ | .ringLockLoss => true
  | .ringMessageForward m | .address m | .request m | .ringOpen m | .ringProve m => m.wf
  | .ringMessageInsert | .ringHoldAssert | .join => true
  | .proveTimeout row | .sessionIdleExpiry row | .debugSessionExpiry row => sessionRowOk row
  | .proofLockoutEnd _ => true
  | .sessionClose r row => r.wf && sessionRowOk row
  | .pcieWindowRead w s a => decide (w < 4) && decide (s < 2 ^ 32) && a.wf
  | .pcieWindowWrite w s a v => decide (w < 4) && decide (s < 2 ^ 32) && a.wf && decide (v.length < 2 ^ 16)
  | .pcieWindowOpen w v | .pcieWindowProve w v => decide (w < 4) && decide (v.length < 2 ^ 16)
  | .pcieWindowClose w s => decide (w < 4) && decide (s < 2 ^ 32)
  | .pciePortReset _ => true
  | .apertureRead o n => decide (o < 2 ^ 26) && decide (n < 2 ^ 13)
  | .apertureWrite o v => decide (o < 2 ^ 26) && decide (v.length < 2 ^ 13)
  | .ringEnableSet r n | .ringEnableClear r n => r.wf && ringRow n
  | .doorbell n t => ringRow n && decide (t < 2 ^ 32)
  | .dmaDescriptorProcess x => x.wf
  | .dmaIrqTimer n => ringRow n
  | .msixUnmask w => w.wf
  | .bypass | .idcode | .samplePreload _ | .extest _ | .dapStatus | .dapOpen | .dapProve => true
  | .dapRead s a => decide (s < 2 ^ 32) && a.wf
  | .dapWrite s a n => decide (s < 2 ^ 32) && a.wf && decide (n < 2 ^ 16)
  | .valueIn o v => decide (o < 2 ^ 16) && decide (v < 2 ^ 32)
  | .valueOut o => decide (o < 2 ^ 16)
  | .dapClose s => decide (s < 2 ^ 32)
  | .goRun r | .goStage r | .goDrain r | .resumeRun r | .modeCmdReset r => r.wf
  | .pwrGoodLow | .resetNLow | .resetRelease | .bootPllsLocked | .entropyStartupTests _ | .sydinImageVerified => true
  | .memTrainingDone failed => decide (failed < 16)
  | .serdesCalibrationDone l h us => decide (l < 2 ^ 32) && decide (h < 2 ^ 32) && decide (us < 2 ^ 32)
  | .bootComplete | .drainFlushComplete | .drainFlushExpiry => true
  | .takeOut r s | .gate r s | .sliceReturn r s => r.wf && sliceRow s
  | .sliceReturnDone s _ => sliceRow s
  | .laneSignalDetect l | .laneAcquisitionDone l | .laneAcquisitionTimeout l | .laneSignalLoss l => portRow l
  | .portLinkChange p _ => portRow p
  | .fecUncorrLimit p n => portRow p && decide (n < 2 ^ 32)
  | .macControlRx p _ => portRow p
  | .pauseExpiry p c => portRow p && decide (c < 8)
  | .xoffRefresh p => portRow p
  | .portRecalArm r p | .portRecalCancel r p => r.wf && portRow p
  | .receiverFreeze p _ | .recalAlignmentRegained p _ | .recalTimeout p => portRow p
  | .phcSet r | .phcStep r | .phcSlew r | .phcSlewStop r => r.wf
  | .phcFreqAdjWrite r v => r.wf && decide (- 2 ^ 63 ≤ v) && decide (v < 2 ^ 63)
  | .phcChangeEffect | .slewComplete | .leapApply => true
  | .tsCalCmd r p => r.wf && portRow p
  | .tsPhaseMeasured p _ _ _ | .tsRegionTempRead p _ => portRow p
  | .tcScheduledDeparture _ _ => true
  | .ppsOutEdge | .ppsOutFall | .todOutMessage | .ppsInEdge _ | .timeLockTimeout => true
  | .todInMessage v => decide (v.length < 256)
  | .gunIssue e | .gunFire e => gunRow e
  | .gunMessageRx m => m.wf
  | .hostFrameRx f => f.wf && decide (f.port < 32)
  | .lineFrameRx f => f.wf && decide (32 ≤ f.port)
  | .callroomLookupReturn _ _ | .callroomTimeout _ => true
  | .schedulerFrameStart sd => bankRow sd
  | .pnAssign _ => true
  | .stopHoldExpiry sc => decide (sc < 65536)
  | .keystreamApply _ _ | .frameTxComplete _ | .decryptTailVerify _ => true
  | .parserLoadA r s | .parserLoadB r s | .parserArm r s | .parserCancel r s => r.wf && sliceRow s
  | .puntDeliver _ x => x.wf
  | .puntDescriptorTimeout _ => true
  | .injectDescriptor n x v => ringRow n && x.wf && decide (v.length < 2 ^ 16)
  | .injectComplete _ _ | .injectSendTimeout _ => true
  | .bankTurn b _ | .retrialResult b _ | .coreTakeoverDone b | .umpireLfsrReseed b => bankRow b
  | .coreStrikeRetire b c | .bankKat b c _ => bankRow b && decide (c < 17)
  | .bankRetire r b c => r.wf && bankRow b && decide (c < 256)
  | .katNow r b c _ => r.wf && bankRow b && decide (c < 256)
  | .keyScheduleLoadDone b slot _ => bankRow b && decide (slot < 131072)
  | .saProvision r p | .saLoad r p | .saArm r p | .saCancel r p | .saRetire r p | .saUnload r p | .saRelease r p =>
      r.wf && decide (p < 262144)
  | .saDrained p => decide (p < 262144)
  | .clsWrite r s | .clsDelete r s | .clsRead r s => r.wf && sessionRowOk s
  | .rxscEntryMaintain r sc _ v => r.wf && decide (sc < 65536) && decide (v < 2 ^ 64)
  | .insertEngineDone | .batonProcess | .tagRenormalize | .lapWritebackDone => true
  | .agingScanVisit b => decide (b < 524288)
  | .learnFlush r ca => r.wf && decide (ca < 16384)
  | .peerMessageRx l m => decide (l < 2) && m.wf
  | .peerBlockLock l _ => decide (l < 2)
  | .vaultImport r s | .vaultDerive r s | .deriveSuccessor r s | .zeroizeSlot r s | .zeroizeTenant r s
  | .zeroizeAll r s => r.wf && sessionRowOk s
  | .vaultScrubVisit (.vault k) _ => decide (k < 1024)
  | .vaultScrubVisit (.context k) _ => decide (k < 131072)
  | .drbgReseed | .entropyTestFail | .entropyRestartDone _ | .drbgReinstantiate _ => true
  | .lookasideJobStart n x p _ _ => ringRow n && x.wf && p.wf
  | .lookasideSliceYield n | .lookasideJobComplete n _ => ringRow n
  | .memLineRead p o => decide (p < 6291456) && o.wf
  | .memFullLineWrite p v => decide (p < 6291456) && decide (v.length = 64)
  | .memPartialWrite o v x => decide (o < 2 ^ 29) && decide (v.length ≤ 64) && x.wf
  | .treeNodeEvict c _ n => channelRow c && decide (n < 2 ^ 21)
  | .memScrubVisit c l _ _ => channelRow c && decide (l < 2 ^ 23)
  | .memChRetire r c => r.wf && channelRow c
  | .memChUncorrRetire c | .memCalibrationLost c | .memCalibrationLoss c | .memCalibrationRegained c => channelRow c
  | .memRehashSwitch | .memEvacuationDone => true
  | .memWinRead r s | .memWinWrite r s | .readCiphertext r s | .memReinit r s => r.wf && sessionRowOk s
  | .sealTest r | .lcUnlock r | .personalize r | .takeOwnership r | .lcReturn r | .scrap r | .rmaUnlock r => r.wf
  | .lcRebuildDone => true
  | .dbgSramRead r s _ => r.wf && sessionRowOk s
  | .fwErase r | .fwWrite r | .fwVerify r | .fwPrefer r | .activateReset r | .activateHot r | .fwDiscard r
  | .commitVersion r | .attBuildTop r => r.wf
  | .hotActivationDone | .bottomTreeBuildDone | .epochRollover => true
  | .attSign r s => r.wf && sessionRowOk s
  | .faultSample src code base ⟨v, w⟩ =>
      sourceRow src && decide (code < 65536) && decide (base ≤ 4) && decide (v.length ≤ 32) && w.wf
  | .brokenWire src | .wireRestored src _ | .pllLockRegained src => sourceRow src
  | .fltSrcAck r src => r.wf && sourceRow src
  | .fltAckAll r => r.wf
  | .eventRingDeliver n x => ringRow n && x.wf
  | .sydinWatchdog => true
  | .monitorEvent ch _ _ _ | .monitorRearm ch _ => decide (ch < 16)
  | .pmcSampleCapture row _ _ | .pmcSampleTimeout row | .pmcClockCountWrap row => decide (row < 144)
  | .pmcValueRead r row => r.wf && decide (row < 144)
  | .sramSpareCmd r m row => r.wf && decide (m < 384) && decide (row < 2 ^ 24)
  | .sramRowSpare m row c => decide (m < 384) && decide (row < 2 ^ 24) && c.wf
  | .thermNAssert _ => true
  | .pcieLinkUp w sp => decide (w < 256) && decide (sp < 256)
  | .ringIdleSetRx _ _ _ => true

end Sys2Proof
end

