-- ==== Sys2Proof/Tests/Slice0.lean ====
section
/-!
SUPPORT. Tests: what the check of a command refuses, examples from the standards the specification names, and for every
obligation with hypotheses a theorem `witness_<Obligation>` that shows operands and states meeting them together.
-/
set_option Elab.async false
set_option linter.unusedVariables false
namespace Sys2Proof.Tests
open Sys2Proof Sys2Proof.Machine

/-! ### What `Instr.wf` refuses -/

def okReq : Req := ⟨.ring, 257⟩
def okAddr : AddrBlock := ⟨0, 0, false, false, 1, 0x1000⟩
def okMsg : RingMsg := ⟨1, 0, 1, 0, 0, 0, 0, [], 0, 0⟩
def okPeer : PeerMsg := ⟨1, 0, 1, 1, 0, [], 0, 0⟩
def okDesc : Descriptor := ⟨0, 64, List.replicate 16 0, false⟩
def okParams : LaParams := ⟨0, 0, 0, 0, 16, 0, List.replicate 16 0, List.replicate 16 0, false⟩
def badReq : Req := ⟨.ring, 2 ^ 32⟩

/-- Nothing in the list passes the check. -/
def Refuses (l : List Instr) : Bool := l.all (fun i => !i.wf)

/-- The fields of an address block (R31), of a request (R62) and the numbers of rows they name. -/
theorem test_wf_refuses_dictionary_commands : Refuses
    [.dictWrite badReq okAddr [], .dictWrite okReq ⟨256, 0, false, false, 1, 0x1000⟩ [],
     .dictWrite okReq ⟨0, 2 ^ 24, false, false, 1, 0x1000⟩ [], .dictWrite okReq ⟨0, 0, false, false, 256, 0x1000⟩ [],
     .groupShadowWrite okReq ⟨0, 0, false, false, 1, 2 ^ 16⟩ [], .groupShadowWrite badReq okAddr [], .groupOpen okReq 0, .groupOpen badReq 1,
     .commitNow okReq 17, .commitAt okReq 17, .groupCancel okReq 0, .groupRelease okReq 17, .lockClaim badReq, .lockRelease badReq,
     .lockBreak badReq] = true := by decide +kernel

/-- The fields of a ring message (R58) and the session rows (R62). -/
theorem test_wf_refuses_ring_commands : Refuses
    [.ringMessageForward { okMsg with dst := 256 }, .ringMessageForward { okMsg with src := 256 }, .address { okMsg with type := 256 },
     .address { okMsg with flags := 256 }, .request { okMsg with session := 2 ^ 32 }, .request { okMsg with counter := 2 ^ 32 },
     .ringOpen { okMsg with reserved := 2 ^ 16 }, .ringOpen { okMsg with tag := 2 ^ 64 }, .ringProve { okMsg with crc := 2 ^ 32 },
     .gunMessageRx { okMsg with dst := 256 }, .proveTimeout 0, .sessionClose okReq 53, .sessionClose badReq 1, .sessionIdleExpiry 53,
     .debugSessionExpiry 0] = true := by decide +kernel

/-- Windows, rings, the aperture, MSI-X and the debug port (R69 to R77). -/
theorem test_wf_refuses_port_commands : Refuses
    [.pcieWindowRead 4 0 okAddr, .pcieWindowRead 0 (2 ^ 32) okAddr, .pcieWindowRead 0 0 ⟨256, 0, false, false, 1, 0x1000⟩, .pcieWindowWrite 4 0 okAddr [],
     .pcieWindowOpen 4 [], .pcieWindowProve 4 [], .pcieWindowClose 4 0, .pcieWindowClose 0 (2 ^ 32), .apertureRead (2 ^ 26) 4,
     .apertureRead 0 (2 ^ 13), .apertureWrite (2 ^ 26) [], .ringEnableSet okReq 64, .ringEnableSet badReq 0, .ringEnableClear okReq 64, .doorbell 64 0,
     .doorbell 0 (2 ^ 32), .dmaDescriptorProcess { okDesc with address := 2 ^ 64 }, .dmaDescriptorProcess { okDesc with length := 2 ^ 32 },
     .dmaDescriptorProcess { okDesc with kind := [] }, .dmaIrqTimer 64, .msixUnmask (.entry 64 0 0 false),
     .msixUnmask (.entry 0 (2 ^ 64) 0 false), .msixUnmask (.entry 0 0 (2 ^ 32) false), .dapRead (2 ^ 32) okAddr, .dapWrite 0 okAddr (2 ^ 16),
     .valueIn (2 ^ 16) 0, .valueIn 0 (2 ^ 32), .valueOut (2 ^ 16), .dapClose (2 ^ 32)] = true := by decide +kernel

/-- Modes, slices, lanes, ports and network time (R78 to R143). -/
theorem test_wf_refuses_mode_port_and_time_commands : Refuses
    [.goRun badReq, .goStage badReq, .goDrain badReq, .resumeRun badReq, .modeCmdReset badReq, .memTrainingDone 16,
     .serdesCalibrationDone (2 ^ 32) 0 0, .serdesCalibrationDone 0 (2 ^ 32) 0, .serdesCalibrationDone 0 0 (2 ^ 32), .takeOut okReq 4, .gate badReq 0,
     .sliceReturn okReq 4, .sliceReturnDone 4 0, .laneSignalDetect 64, .laneAcquisitionDone 64, .laneAcquisitionTimeout 64, .laneSignalLoss 64,
     .portLinkChange 64 .up, .fecUncorrLimit 64 0, .fecUncorrLimit 0 (2 ^ 32), .macControlRx 64 [], .pauseExpiry 64 0, .pauseExpiry 0 8,
     .xoffRefresh 64, .portRecalArm okReq 64, .portRecalCancel okReq 64, .receiverFreeze 64 none, .recalAlignmentRegained 64 .up, .recalTimeout 64,
     .phcSet badReq, .phcStep badReq, .phcSlew badReq, .phcSlewStop badReq, .phcFreqAdjWrite okReq (2 ^ 63), .phcFreqAdjWrite okReq (-(2 ^ 63) - 1),
     .tsCalCmd okReq 64, .tsPhaseMeasured 64 true 0 0, .tsRegionTempRead 64 0, .todInMessage (List.replicate 256 0), .gunIssue 1024,
     .gunFire 1024] = true := by decide +kernel

/-- Frames, banks, SAs and the classifier (R144 to R253): a host frame on a line row, an SA row past the table. -/
theorem test_wf_refuses_frame_bank_and_table_commands : Refuses
    [.hostFrameRx ⟨32, [], true, 0⟩, .hostFrameRx ⟨64, [], true, 0⟩, .lineFrameRx ⟨31, [], true, 0⟩, .lineFrameRx ⟨64, [], true, 0⟩, .schedulerFrameStart 8,
     .stopHoldExpiry 65536, .parserLoadA okReq 4, .parserLoadB okReq 4, .parserArm okReq 4, .parserCancel okReq 4,
     .puntDeliver 0 { okDesc with length := 2 ^ 32 }, .injectDescriptor 64 okDesc [], .injectDescriptor 0 { okDesc with kind := [] } [],
     .bankTurn 8 false, .retrialResult 8 .umpire, .coreTakeoverDone 8, .umpireLfsrReseed 8, .coreStrikeRetire 0 17, .coreStrikeRetire 8 0,
     .bankKat 0 17 true, .bankRetire okReq 8 0, .bankRetire okReq 0 256, .katNow okReq 0 256 true, .keyScheduleLoadDone 0 131072 true,
     .saProvision okReq 262144, .saLoad okReq 262144, .saArm okReq 262144, .saCancel okReq 262144, .saRetire okReq 262144,
     .saUnload okReq 262144, .saRelease okReq 262144, .saDrained 262144, .clsWrite okReq 53, .clsDelete okReq 0, .clsRead okReq 53,
     .rxscEntryMaintain okReq 65536 .scDir 0, .rxscEntryMaintain okReq 0 .scSci (2 ^ 64), .agingScanVisit 524288, .learnFlush okReq 16384,
     .peerMessageRx 2 okPeer, .peerMessageRx 0 { okPeer with type := 256 }, .peerMessageRx 0 { okPeer with hops := 256 },
     .peerMessageRx 0 { okPeer with origin := 256 }, .peerMessageRx 0 { okPeer with count := 256 },
     .peerMessageRx 0 { okPeer with sequence := 2 ^ 32 }, .peerMessageRx 0 { okPeer with tag := 2 ^ 64 },
     .peerMessageRx 0 { okPeer with crc := 2 ^ 32 }, .peerBlockLock 2 true] = true := by decide +kernel

/-- Keys, the lookaside engine and external memory (R283 to R334): what a read returned is 64 bytes and an 8-byte tag. -/
theorem test_wf_refuses_key_lookaside_and_memory_commands : Refuses
    [.vaultImport okReq 0, .vaultDerive okReq 53, .deriveSuccessor okReq 0, .zeroizeSlot okReq 0, .zeroizeTenant okReq 53, .zeroizeAll okReq 0,
     .vaultScrubVisit (.vault 1024) true, .vaultScrubVisit (.context 131072) true, .lookasideJobStart 64 okDesc okParams [] [],
     .lookasideJobStart 0 okDesc { okParams with dst := 2 ^ 64 } [] [], .lookasideJobStart 0 okDesc { okParams with aadAddr := 2 ^ 64 } [] [],
     .lookasideJobStart 0 okDesc { okParams with aadLen := 2 ^ 32 } [] [], .lookasideJobStart 0 okDesc { okParams with iv := [] } [] [],
     .lookasideJobStart 0 okDesc { okParams with tag := [] } [] [], .lookasideSliceYield 64, .lookasideJobComplete 64 false, .memLineRead 6291456 .ok,
     .memLineRead 0 (.raw [] []), .memLineRead 0 (.nodeFailed 0 0), .memLineRead 0 (.nodeFailed 7 0), .memLineRead 0 (.rawNode 7 [] []),
     .memLineRead 0 (.rawNode 1 (List.replicate 64 0) []), .memFullLineWrite 6291456 (List.replicate 64 0), .memFullLineWrite 0 [],
     .memPartialWrite (2 ^ 29) [] .ok, .memPartialWrite 0 (List.replicate 65 0) .ok, .memPartialWrite 0 [] (.raw [] []), .treeNodeEvict 4 1 0,
     .treeNodeEvict 0 1 (2 ^ 21), .memScrubVisit 4 0 0 .clean, .memScrubVisit 0 (2 ^ 23) 0 .clean, .memChRetire okReq 4, .memChUncorrRetire 4,
     .memCalibrationLost 4, .memCalibrationLoss 4, .memCalibrationRegained 4, .memWinRead okReq 0, .memWinWrite okReq 53, .readCiphertext okReq 0,
     .memReinit okReq 53] = true := by decide +kernel

/-- Life-cycle, firmware, faults, monitors, counters and macros (R335 to R405). -/
theorem test_wf_refuses_service_commands : Refuses
    [.sealTest badReq, .lcUnlock badReq, .personalize badReq, .takeOwnership badReq, .lcReturn badReq, .scrap badReq, .rmaUnlock badReq,
     .dbgSramRead okReq 0 false, .fwErase badReq, .fwWrite badReq, .fwVerify badReq, .fwPrefer badReq, .activateReset badReq, .activateHot badReq,
     .fwDiscard badReq, .commitVersion badReq, .attBuildTop badReq, .attSign okReq 53, .faultSample 65536 0 0 ⟨[], .none⟩,
     .faultSample 0 65536 0 ⟨[], .none⟩, .faultSample 0 0 5 ⟨[], .none⟩, .faultSample 0 0 0 ⟨List.replicate 33 0, .none⟩,
     .faultSample 0 0 0 ⟨[], .schedule 131072⟩, .brokenWire 65536, .wireRestored 65536 false, .pllLockRegained 65536, .fltSrcAck okReq 65536,
     .fltAckAll badReq, .eventRingDeliver 64 okDesc, .monitorEvent 16 0 0 0, .monitorRearm 16 0, .pmcSampleCapture 144 0 0, .pmcSampleTimeout 144,
     .pmcClockCountWrap 144, .pmcValueRead okReq 144, .sramSpareCmd okReq 384 0, .sramSpareCmd okReq 0 (2 ^ 24), .sramRowSpare 384 0 .corrected,
     .sramRowSpare 0 (2 ^ 24) .corrected, .sramRowSpare 0 0 (.uncorrectable 8 none), .pcieLinkUp 256 0, .pcieLinkUp 0 256] = true := by
  decide +kernel

theorem test_wf_takes_well_formed_commands :
    [Instr.dictWrite okReq okAddr [], .ringMessageForward okMsg, .msixUnmask (.entry 63 0 0 true), .hostFrameRx ⟨0, [], true, 0⟩,
     .lineFrameRx ⟨32, [], true, 0⟩, .peerMessageRx 1 okPeer, .dmaDescriptorProcess okDesc, .lookasideJobStart 0 okDesc okParams [] [],
     .memLineRead 0 (.raw (List.replicate 64 0) (List.replicate 8 0)), .faultSample 0 0 4 ⟨[], .context 0⟩].all Instr.wf = true := by
  decide +kernel

/-! ### Examples from outside the model -/

/-- The AES-256 example of FIPS-197, Appendix C.3. -/
theorem test_aes256_fips197 : aesEnc ((List.range 32).map (BitVec.ofNat 8)) ((List.range 16).map (fun k => BitVec.ofNat 8 (17 * k))) =
    [0x8e, 0xa2, 0xb7, 0xca, 0x51, 0x67, 0x45, 0xbf, 0xea, 0xfc, 0x49, 0x90, 0x4b, 0x49, 0x60, 0x89] := by decide +kernel

/-- The check value of CRC-32 over the nine digits (IEEE 802.3). -/
theorem test_crc32_check_value : crc32 ((List.range 9).map (fun k => BitVec.ofNat 8 (0x31 + k))) = 0xCBF43926 := by decide +kernel

/-- SHA-256 of the three letters abc (FIPS 180-4). -/
theorem test_sha256_abc : (sha256 [0x61, 0x62, 0x63]).take 8 = [0xba, 0x78, 0x16, 0xbf, 0x8f, 0x01, 0xcf, 0xea] := by decide +kernel

/-- The table gives no row any bits. -/
theorem test_no_word_spells_a_command : decodeTableWord 16 0 = none ∧ State.reset.withFetchWord 16 0 = State.reset := ⟨rfl, rfl⟩

/-- Right after reset the device is in RESET with its queue empty. -/
theorem test_reset : State.reset.pending = [] ∧ State.reset.dev.mode = .reset ∧ State.reset.dev.clockOn = false := by decide +kernel

/-! ### Small states -/

/-- A device in mode `m` with its clocks running, and these rows set. -/
def dev (m : Mode) (l : List (Nat × Nat × Nat)) : Device :=
  l.foldl (fun d e => d.wr e.1 e.2.1 e.2.2) (({ Device.fresh .isf3232 with mode := m, clockOn := true } : Device).wr O.BOOT_STATUS 0 0)

/-- An OWNER session of the ring in row 1, and its requests. -/
def owner : List (Nat × Nat × Nat) := [(O.SESSION_STATE, 1, 2), (O.SESSION_ID, 1, 257), (O.SESSION_ROLE, 1, 1)]
def req : Req := ⟨.ring, 257⟩
/-- The same on a part that is owned and whose keys are ready. -/
def sv : List (Nat × Nat × Nat) := owner ++ [(O.LC_PENDING, 0, 255), (O.LC_STATE, 0, 4), (O.DRBG_STATE, 0, 1)]
/-- Sessions of the host port and of the debug port. -/
def pc : List (Nat × Nat × Nat) := [(O.SESSION_STATE, 33, 2), (O.SESSION_ID, 33, 289), (O.SESSION_ROLE, 33, 1)]
def dbg : List (Nat × Nat × Nat) := [(O.SESSION_STATE, 49, 2), (O.SESSION_ID, 49, 305), (O.SESSION_ROLE, 49, 4), (O.LC_STATE, 0, 2), (O.DBG_CERT_SCOPE, 49, 0xFF)]

def st (d : Device) : State := ⟨d, []⟩
/-- The state after `i`. -/
def go (i : Instr) (s : State) : State := match exec i s with | .next t => t | _ => s
/-- The one piece of a write that has one. -/
def piece (a : AddrBlock) (v : Bytes) : Piece :=
  match Device.pieces a v with | some (p :: _) => p | _ => ⟨⟨0, false, .u 1, .rw, 0, 0, 0⟩, 0, []⟩
def desc (o : Nat) : Desc := (descOf o).getD ⟨0, false, .u 1, .rw, 0, 0, 0⟩
def follow : AddrBlock := directAddr O.TIME_FOLLOW 0

/-! ### Hypotheses that speak of every row -/

theorem get_all {α : Type} {dflt : Nat → α} {p : α → Bool} (h : ∀ k, p (dflt k) = true) :
    ∀ (l : List (Nat × α)) (k : Nat), l.all (fun e => p e.2) = true → p (Sparse.get dflt l k) = true
  | [], k, _ => h k
  | e :: r, k, hl => by
    rw [List.all_cons, Bool.and_eq_true] at hl
    unfold Sparse.get
    split
    · exact hl.1
    · exact get_all h r k hl.2

/-- Of an object whose default never is `v`, no row is `v` when no entry is. -/
theorem get_ne {v o : Nat} (h : ∀ r, dfltOf o r ≠ v) (r : Nat) :
    ∀ (l : List (Nat × Nat)), l.all (fun e => e.1 / 2 ^ 24 != o || e.2 != v) = true → Sparse.get dfltKey l (o * 2 ^ 24 + r % 2 ^ 24) ≠ v
  | [], _ => by
    have h1 : (o * 2 ^ 24 + r % 2 ^ 24) / 2 ^ 24 = o := by omega
    unfold Sparse.get dfltKey
    rw [h1]
    exact h _
  | e :: l, hl => by
    rw [List.all_cons, Bool.and_eq_true] at hl
    unfold Sparse.get
    split
    · rename_i he
      have h1 : e.1 / 2 ^ 24 = o := by omega
      have h2 := hl.1
      rw [h1] at h2
      simpa using h2
    · exact get_ne h r l hl.2

theorem unarmed {d : Device} (h : d.dict.all (fun e => e.1 / 2 ^ 24 != O.GROUP_STATE || e.2 != 2) = true) : Unarmed d :=
  fun g => get_ne (fun r => by show (0 : Nat) ≠ 2; decide) g d.dict h

theorem eventRoom {d : Device}
    (h : (d.openRow (d.rd O.RING_EVENT_SESSION)).all (fun row => decide ((d.sessOf row).evCounter + 64 < 0xFFFFFFFF)) = true) :
    EventRoom d := by
  intro row hr
  rw [hr] at h
  simpa using h

theorem quiet {d : Device} (h : d.ports.all (fun e => e.2.holds.isEmpty) = true) : Quiet d := fun p =>
  List.isEmpty_iff.mp (get_all (p := fun x : PortX => x.holds.isEmpty) (fun _ => rfl) d.ports p h)

theorem natAt_lt {n : Nat} (hn : 0 < n) {l : List (Nat × Nat)} (h : l.all (fun e => decide (e.2 < n)) = true) (k : Nat) : natAt l k < n :=
  of_decide_eq_true (get_all (dflt := fun _ => 0) (p := fun x : Nat => decide (x < n)) (fun _ => by simpa using hn) l k h)

theorem memSound {d : Device} (h1 : d.mem.zeroed = false) (h2 : d.mem.cached.length < 2 ^ 32) (h3 : d.mem.badNodes = [])
    (h4 : d.mem.frozen = []) (h5 : d.mem.ctr.all (fun e => decide (e.2 < 2 ^ 63)) = true)
    (h6 : d.mem.nodeCtr.all (fun e => decide (e.2 < 2 ^ 63)) = true) : MemSound d :=
  ⟨h1, h2, h3, h4, fun k => ⟨natAt_lt (by decide) h5 k, natAt_lt (by decide) h6 k⟩⟩

theorem cellsFit {d : Device} (h1 : d.otp.all (fun e => decide (e.2 < 2 ^ 32)) = true) (h2 : d.flash.all (fun e => decide (e.2 < 256)) = true) :
    CellsFit d :=
  ⟨natAt_lt (by decide) h1, fun o => of_decide_eq_true
    (get_all (dflt := fun _ => 255) (p := fun x : Nat => decide (x < 256)) (fun _ => rfl) d.flash o h2)⟩

theorem never_held {d : Device} {c : Nat} (h : d.ports.all (fun e => e.2.holds.all (fun x => !x.2.testBit c)) = true) (q k : Nat) :
    (natAt (d.portOf q).holds k).testBit c = false := by
  have h1 := get_all (dflt := fun _ => PortX.empty) (p := fun x : PortX => x.holds.all (fun x => !x.2.testBit c)) (fun _ => rfl) d.ports q h
  simpa [natAt, Device.portOf] using get_all (dflt := fun _ => 0) (p := fun x : Nat => !x.testBit c) (fun _ => by simp) _ k h1

theorem only_node {d : Device} {m k : Nat} {l : List Nat} (hd : d.nodes = [(m, { NodeX.empty with inject := l })]) (hk : k = m) (n : Nat) :
    (d.nodeOf n).inject = if n = k then l else [] := by
  subst hk
  unfold Device.nodeOf
  rw [hd]
  by_cases h : n = k
  · simp [Sparse.get, h]
  · simp [Sparse.get, h, Ne.symm h, NodeX.empty]

/-- A core that is the one before the sampled core, in a device whose LFSR is as far on. -/
theorem core_before {d e : Device} (h1 : (d.bankOf 0).lfsr = (e.bankOf 0).lfsr) (h2 : (d.bankOf 0).lfsrAt = (e.bankOf 0).lfsrAt)
    (h3 : d.cyc = e.cyc) : d.sampledCore 0 = ((e.sampledCore 0 + 7) % 8 + 1) % 8 := by
  have h : d.sampledCore 0 = e.sampledCore 0 := by
    unfold Device.sampledCore
    rw [h1, h2, h3]
  have h8 : e.sampledCore 0 < 8 := Nat.mod_lt _ (by decide)
  omega

theorem no_poison {d : Device} (h : d.mem.poisoned = []) (p : Nat) : d.poisonedLine p = false := by
  unfold Device.poisonedLine
  rw [h]
  rfl

theorem finishes {d : Device} (h1 : d.pipe.idleTag < 2 ^ 63) (h2 : d.queues.all (fun e => decide (e.2.finish < 2 ^ 63)) = true) (q : Nat) :
    (d.queueOf q).finish < 2 ^ 63 :=
  of_decide_eq_true (get_all (dflt := fun _ => QueueX.idle d.pipe.idleTag) (p := fun x : QueueX => decide (x.finish < 2 ^ 63))
    (fun _ => decide_eq_true h1) d.queues q h2)

theorem crc_sealed (m : RingMsg) : (ringSealCrc m).crc = crc32 (ringCovered (ringSealCrc m)) := rfl
theorem crc_tagged (m : RingMsg) (ks : Bytes) : (ringSealTag m ks).crc = crc32 (ringCovered (ringSealTag m ks)) := rfl
theorem tag_tagged (m : RingMsg) (ks : Bytes) : (ringSealTag m ks).tag = ringTag (ringSealTag m ks) ks := rfl

theorem accepted {d : Device} {m : RingMsg} (h : m.crc = crc32 (ringCovered m)) (ht : Device.knownType m.type = true)
    (hl : m.payload.length ≤ 1024) : (d.ringAccept m).1 = true := by
  unfold Device.ringAccept
  rw [if_neg (not_not_intro h), if_neg (by simp [ht]; omega)]

theorem tag_raised (m : RingMsg) (ks : Bytes) :
    (ringSealCrc { ringSealTag m ks with tag := (ringSealTag m ks).tag + 1 }).tag ≠
      ringTag (ringSealCrc { ringSealTag m ks with tag := (ringSealTag m ks).tag + 1 }) ks :=
  Nat.succ_ne_self (ringTag m ks)

/-- Nothing waits to drain when no entry names feature 7. -/
theorem not_draining {d : Device} (h : d.dict.all (fun e => e.1 / 2 ^ 24 != O.GUN_OWNER || e.2 != 7) = true) :
    d.drainEntry = none := by
  unfold Device.drainEntry Device.gunFind
  rw [List.find?_eq_none]
  intro e _
  have h1 : d.rd O.GUN_OWNER e ≠ 7 := get_ne (fun r => by show (0 : Nat) ≠ 7; decide) e d.dict h
  simp [h1]

/-! ### Core -/

/-- A fuse is burnt. -/
def fused : State := st { Device.fresh .isf3232 with otp := [(3, 32)] }

theorem witness_StepTakesTheFrontCommand :
    ((fun (c : Instr) (rest : List Instr) (s : State) =>
      s.pending = c :: rest) (.idcode) [.bypass] (⟨dev .run [], [.idcode, .bypass]⟩)) :=
  by beta_reduce; decide +kernel


theorem witness_EmptyQueueLetsOneClockPass :
    ((fun (s : State) =>
      s.pending = []) (st (dev .run []))) :=
  by beta_reduce; decide +kernel


theorem witness_StepKeepsTheTablesCanonical :
    ((fun (s : State) (t : State) =>
      dictCanonical s.dev ∧ memCanonical s.dev ∧ step s = .next t) State.reset State.reset) ∧
    ((fun (s : State) (t : State) =>
      dictCanonical s.dev ∧ memCanonical s.dev ∧ step s = .next t) State.reset State.reset) :=
  ⟨⟨by unfold dictCanonical; decide +kernel,
    by unfold memCanonical; decide +kernel,
    rfl⟩,
   ⟨by unfold dictCanonical; decide +kernel,
    by unfold memCanonical; decide +kernel,
    rfl⟩⟩

theorem witness_StepKeepsTheTablesCanonical_2 :
    ((fun (s : State) (t : State) =>
      dictCanonical s.dev ∧ memCanonical s.dev ∧ step s = .next t ∧ CellsFit s.dev) State.reset State.reset) :=
  ⟨by unfold dictCanonical; decide +kernel,
    by unfold memCanonical; decide +kernel,
    rfl,
    cellsFit (by decide +kernel) (by decide +kernel)⟩


theorem witness_FusesOnlyEverBurn :
    ((fun (s : State) (t : State) (w : Nat) (i : Nat) =>
      step s = .next t ∧ (s.dev.otpWord w).testBit i = true) fused fused 3 5) :=
  ⟨rfl,
    by decide +kernel⟩


theorem witness_FreeValuesAreNeverReused :
    ((fun (s : State) (t : State) =>
      step s = .next t) State.reset State.reset) ∧
    ((fun (s : State) (t : State) =>
      step s = .next t) State.reset State.reset) :=
  ⟨rfl,
   rfl⟩


theorem witness_OnlyMemoryCommandsStore :
    ((fun (c : Instr) (s : State) (t : State) =>
      storesMemory c = false ∧ (∀ q ∈ s.dev.mem.waiting, storesLine q.op = false) ∧ exec c s = .next t) (.bypass) State.reset (go .bypass State.reset)) :=
  ⟨by decide +kernel,
    by decide +kernel,
    rfl⟩


theorem witness_OnlyLifeCycleAndFirmwareBurn :
    ((fun (c : Instr) (s : State) (t : State) =>
      storesFuses c = false ∧ exec c s = .next t) (.bypass) State.reset (go .bypass State.reset)) ∧
    ((fun (c : Instr) (s : State) (t : State) =>
      storesFuses c = false ∧ exec c s = .next t) (.bypass) State.reset (go .bypass State.reset)) :=
  ⟨⟨by decide +kernel,
    rfl⟩,
   ⟨by decide +kernel,
    rfl⟩⟩

/-! ### Groups -/

def lockedBy (l : List (Nat × Nat × Nat)) : State := st (dev .run (owner ++ (O.LOCK, 0, 257) :: l))
def own3 : List (Nat × Nat × Nat) := owner ++ [(O.GROUP_STATE, 3, 1), (O.GROUP_OWNER, 3, 257), (O.GROUP_GUN_TIME, 3, 5 * 2 ^ 48)]
def weightWrite : ShadowWrite := ⟨{ directAddr O.QUEUE_WEIGHT 7 with group := 3 }, leBytes 2 40⟩
/-- Group 3 is OPEN and holds one write. -/
def openGroup : State := st ((dev .run own3).setGroup 3 ⟨[weightWrite], none⟩)
/-- Group 3 is ARMED with gun entry 772. -/
def armedGroup : State :=
  st ((dev .run (owner ++ [(O.GROUP_STATE, 3, 2), (O.GROUP_OWNER, 3, 257), (O.GUN_STATE, 772, 1), (O.GUN_OWNER, 772, 1),
    (O.GUN_TARGET_ROW, 772, 3), (O.GUN_TIME, 772, 5 * 2 ^ 48)])).setGroup 3 ⟨[weightWrite], some 772⟩)

theorem witness_LockCommandsMoveTheLock :
    ((fun (r : Req) (s : State) =>
      Passes r (directAddr O.LOCK 0) (leBytes 4 1) s.dev ∧ Quiet s.dev) req (st (dev .run owner))) ∧
    ((fun (r : Req) (s : State) =>
      Passes r (directAddr O.LOCK 0) (leBytes 4 0) s.dev ∧ Quiet s.dev) req (lockedBy [])) ∧
    ((fun (r : Req) (s : State) =>
      AskedFree r O.LOCK_BREAK 0 s.dev ∧ Unarmed s.dev) req (st (dev .run (owner ++ [(O.LOCK, 0, 258)])))) :=
  ⟨⟨by unfold Passes; decide +kernel,
    quiet (by decide +kernel)⟩,
   ⟨by unfold Passes; decide +kernel,
    quiet (by decide +kernel)⟩,
   ⟨by unfold AskedFree; decide +kernel,
    unarmed (by decide +kernel)⟩⟩

theorem witness_LockCommandsMoveTheLock_2 :
    ((fun (s : State) =>
      s.dev.rd O.LOCK ≠ 0 ∧ s.dev.clockOn = true ∧ Unarmed s.dev) (lockedBy [])) :=
  ⟨by decide +kernel,
    by decide +kernel,
    unarmed (by decide +kernel)⟩


theorem witness_GroupCommandsMoveTheGroup :
    ((fun (r : Req) (g : Nat) (s : State) =>
      Asked r O.GROUP_CMD g s.dev ∧ s.dev.rd O.GROUP_STATE g = 0) req 16 (st (dev .run owner))) ∧
    ((fun (r : Req) (g : Nat) (s : State) =>
      Asked r O.GROUP_CMD g s.dev ∧ s.dev.rd O.GROUP_STATE g = 1 ∧ s.dev.rd O.GROUP_OWNER g = r.session ∧ Device.commitFails ((s.dev.accept r).startCmd O.GROUP_CMD g) r g = none ∧ Quiet s.dev ∧ (∀ p ∈ Device.shadowPieces (s.dev.groupOf g).shadow, p.e.obj ∉ moreThanStore)) req 3 openGroup) :=
  ⟨⟨by unfold Asked; decide +kernel,
    by decide +kernel⟩,
   ⟨by unfold Asked; decide +kernel,
    by decide +kernel,
    by decide +kernel,
    by decide +kernel,
    quiet (by decide +kernel),
    by decide +kernel⟩⟩

theorem witness_GroupCommandsMoveTheGroup_2 :
    ((fun (r : Req) (g : Nat) (s : State) (e : Nat) =>
      Asked r O.GROUP_CMD g s.dev ∧ s.dev.rd O.GROUP_STATE g = 1 ∧ s.dev.rd O.GROUP_OWNER g = r.session ∧ s.dev.holdsRws g = false ∧ (s.dev.gunPast (s.dev.rd O.GROUP_GUN_TIME g) = false ∨ s.dev.rdB O.GROUP_LATE_OK g = true) ∧ s.dev.gunPool 1 = some e ∧ Device.commitFails ((s.dev.accept r).startCmd O.GROUP_CMD g) r g = none ∧ EventRoom s.dev) req 3 openGroup 772) :=
  ⟨by unfold Asked; decide +kernel,
    by decide +kernel,
    by decide +kernel,
    by decide +kernel,
    by decide +kernel,
    by decide +kernel,
    by decide +kernel,
    eventRoom (by decide +kernel)⟩

theorem witness_GroupCommandsMoveTheGroup_3 :
    ((fun (r : Req) (g : Nat) (s : State) (e : Nat) =>
      AskedFree r O.GROUP_CMD g s.dev ∧ s.dev.rd O.GROUP_STATE g = 2 ∧ s.dev.rd O.GROUP_OWNER g = r.session ∧ (s.dev.groupOf g).entry = some e ∧ s.dev.rd O.GUN_STATE e = 1 ∧ EventRoom s.dev) req 3 armedGroup 772) :=
  ⟨by unfold AskedFree; decide +kernel,
    by decide +kernel,
    by decide +kernel,
    by decide +kernel,
    by decide +kernel,
    eventRoom (by decide +kernel)⟩

theorem witness_GroupCommandsMoveTheGroup_4 :
    ((fun (r : Req) (g : Nat) (s : State) =>
      AskedFree r O.GROUP_CMD g s.dev ∧ s.dev.rd O.GROUP_STATE g ≠ 0 ∧ s.dev.rd O.GROUP_STATE g ≠ 2 ∧ s.dev.rd O.GROUP_OWNER g = r.session) req 3 openGroup) :=
  ⟨by unfold AskedFree; decide +kernel,
    by decide +kernel,
    by decide +kernel,
    by decide +kernel⟩


theorem witness_GunEntriesIssueAndFire :
    ((fun (e : Nat) (s : State) =>
      s.dev.clockOn = true ∧ s.dev.rd O.GUN_STATE e = 1) 772 armedGroup) :=
  ⟨by decide +kernel,
    by decide +kernel⟩

theorem witness_GunEntriesIssueAndFire_2 :
    ((fun (e : Nat) (g : Nat) (s : State) =>
      s.dev.clockOn = true ∧ s.dev.gunLive e = true ∧ s.dev.gunFirst e = true ∧ s.dev.rd O.GUN_OWNER e = 1 ∧ s.dev.rd O.GUN_TARGET_ROW e = g ∧ Quiet s.dev ∧ EventRoom s.dev ∧ (∀ p ∈ Device.shadowPieces (s.dev.groupOf g).shadow, p.e.obj ∉ moreThanStore)) 772 3 armedGroup) :=
  ⟨by decide +kernel,
    by decide +kernel,
    by decide +kernel,
    by decide +kernel,
    by decide +kernel,
    quiet (by decide +kernel),
    eventRoom (by decide +kernel),
    by decide +kernel⟩

theorem witness_GunEntriesIssueAndFire_3 :
    ((fun (e : Nat) (s : State) =>
      s.dev.clockOn = true ∧ s.dev.gunLive e = true ∧ s.dev.gunFirst e = true ∧ s.dev.rd O.GUN_OWNER e ≠ 5) 772 armedGroup) :=
  ⟨by decide +kernel,
    by decide +kernel,
    by decide +kernel,
    by decide +kernel⟩

/-! ### Ring -/

def sealed (dst t : Nat) (p : Bytes) : RingMsg := ringSealCrc ⟨dst, 0, t, 0, 0, 0, 0, p, 0, 0⟩
/-- The device holds position 5 and has joined the ring. -/
def ringDev (m : Mode) (l : List (Nat × Nat × Nat)) : Device :=
  let d := dev m ([(O.RING_POSITION, 0, 5), (O.RING_SYNC, 0, 1)] ++ l)
  { d with pins := { d.pins with ringHold := some true, ringReady := true } }
def ringWaiting (m : RingMsg) : State := st { ringDev .run [] with ring := { (ringDev .run []).ring with insertQ := [m] } }
def notJoined : State := st (let d := dev .run [(O.RING_SYNC, 0, 1)]; { d with pins := { d.pins with ringReady := true } })

theorem witness_RingLockFollowsTheLine :
    ((fun (place : Byte) (status : Byte) (s : State) =>
      s.dev.clockOn = true ∧ s.dev.rd O.RING_SYNC = 0) 3 7 (st (dev .run []))) ∧
    ((fun (position : Byte) (place : Byte) (status : Byte) (s : State) =>
      s.dev.rd O.RING_SYNC ≠ 0) 5 255 1 (st (ringDev .run [(O.RING_UPSTREAM_EXPECTED, 0, 3)]))) ∧
    ((fun (s : State) =>
      s.dev.rd O.RING_SYNC ≠ 0) (st (ringDev .run []))) :=
  ⟨⟨by decide +kernel,
    by decide +kernel⟩,
   by beta_reduce; decide +kernel,
   by beta_reduce; decide +kernel⟩


theorem witness_RingMessagesGoOn :
    ((fun (m : RingMsg) (s : State) =>
      s.dev.inRing = true ∧ (m.type = 1 → m.dst ≠ 0xFF) ∧ (s.dev.addressed = true → m.src ≠ s.dev.rd O.RING_POSITION) ∧ s.dev.forMe m = false ∧ (m.dst = 0xFF → s.dev.addressed = false)) (sealed 6 2 []) (st (ringDev .run []))) :=
  ⟨by decide +kernel,
    by decide +kernel,
    by decide +kernel,
    by decide +kernel,
    by decide +kernel⟩

theorem witness_RingMessagesGoOn_2 :
    ((fun (m : RingMsg) (s : State) =>
      s.dev.inRing = true ∧ m.dst ≠ 0xFF ∧ s.dev.addressed = true ∧ m.src = s.dev.rd O.RING_POSITION) ({ sealed 6 2 [] with src := 5 }) (st (ringDev .run []))) :=
  ⟨by decide +kernel,
    by decide +kernel,
    by decide +kernel,
    by decide +kernel⟩

theorem witness_RingMessagesGoOn_3 :
    ((fun (m : RingMsg) (s : State) =>
      s.dev.inRing = true ∧ m.dst ≠ 0xFF ∧ s.dev.forMe m = true ∧ m.src ≠ s.dev.rd O.RING_POSITION ∧ m.crc = crc32 (ringCovered m) ∧ Device.knownType m.type = true ∧ m.payload.length ≤ 1024) (sealed 5 2 [1, 2]) (st (ringDev .run []))) :=
  ⟨by decide +kernel,
    by decide +kernel,
    by decide +kernel,
    by decide +kernel,
    by decide +kernel,
    by decide +kernel,
    by decide +kernel⟩

theorem witness_RingMessagesGoOn_4 :
    ((fun (m : RingMsg) (s : State) =>
      s.dev.inRing = true ∧ m.type = 1 ∧ m.dst = 0xFF ∧ m.crc = crc32 (ringCovered m) ∧ m.payload ≠ []) (sealed 0xFF 1 [31]) (st (ringDev .run []))) :=
  ⟨by decide +kernel,
    by decide +kernel,
    by decide +kernel,
    by decide +kernel,
    by decide +kernel⟩


theorem witness_RingJoinsAndSends :
    ((fun (s : State) =>
      s.dev.serving = true ∧ s.dev.pins.ringReady = true ∧ s.dev.rd O.RING_SYNC ≠ 0 ∧ s.dev.inRing = false ∧ s.dev.clockOn = true) notJoined) ∧
    ((fun (s : State) =>
      s.dev.inRing = true ∧ s.dev.ring.joined = false ∧ s.dev.clockOn = true) (st (ringDev .run []))) :=
  ⟨⟨by decide +kernel,
    by decide +kernel,
    by decide +kernel,
    by decide +kernel,
    by decide +kernel⟩,
   ⟨by decide +kernel,
    by decide +kernel,
    by decide +kernel⟩⟩

theorem witness_RingJoinsAndSends_2 :
    ((fun (m : RingMsg) (q : List RingMsg) (s : State) =>
      s.dev.ring.insertQ = m :: q ∧ s.dev.inRing = true ∧ s.dev.rd O.RING_SYNC ≠ 0 ∧ s.dev.ring.buffered = 0 ∧ s.dev.clockOn = true) (sealed 0 9 []) [] (ringWaiting (sealed 0 9 []))) :=
  ⟨by decide +kernel,
    by decide +kernel,
    by decide +kernel,
    by decide +kernel,
    by decide +kernel⟩

/-! ### Sessions -/

def openP (role : Nat) : Bytes := leBytes 1 role ++ leBytes 1 0 ++ leBytes 2 0 ++ leBytes 16 7
/-- Slot 1 holds the root of the OPERATOR role. -/
def rooted : Device :=
  (ringDev .run [(O.DRBG_STATE, 0, 1), (O.LC_STATE, 0, 3), (O.LC_PENDING, 0, 255), (O.ROLE_ROOT, 2, 0x10001)]).fillSlot 1
    (leBytes 32 9) 256 1 2 0 1 0
/-- Row `row` is OPENING with this role, its identifier `256 + row`. -/
def opening (row role : Nat) (d : Device) : Device :=
  (((d.wr O.SESSION_STATE row 1).wr O.SESSION_ROLE row role).wr O.SESSION_ID row (256 + row)).setSess row ⟨7, 8, 9, 5000, 0, [], 0, 2, 0⟩
def provePayload (t : Transport) (row : Nat) (d : Device) : Bytes := leBytes 4 (256 + row) ++ d.proofWanted t row
theorem drop_prove (t : Transport) (row : Nat) (d : Device) : (provePayload t row d).drop 4 = d.proofWanted t row :=
  List.drop_left' (by simp [leBytes])
def withDap (v : Bytes) (d : Device) : Device := d.dapStore 0 v
def debugSession : Device := dev .run dbg
/-- Ring session 257 with key 9, whose last request had number 4. -/
def ringSession : Device :=
  (ringDev .run (owner ++ [(O.SESSION_LAST_COUNTER, 1, 4)])).setSess 1 ⟨7, 8, 9, 0, 0, [1, 2, 3, 4], 0, 2, 0⟩
def request (n : Nat) (p : Bytes) : RingMsg := ringSealTag ⟨5, 0, 2, 1, 257, n, 0, p, 0, 0⟩ (ringSession.ksOf 1)
def writeFollow : Bytes := leBytes 1 2 ++ leBytes 3 0 ++ Device.addrBytes follow ++ leBytes 1 1

theorem witness_OpensAreChallenged :
    ((fun (m : RingMsg) (row : Nat) (s : State) =>
      s.dev.inRing = true ∧ s.dev.forMe m = true ∧ m.type = 5 ∧ m.crc = crc32 (ringCovered m) ∧ m.payload.length = 20 ∧ (s.dev.openSession .ring (openReq m.payload)).1.1 = 0 ∧ s.dev.freeSession .ring = some row) (sealed 5 5 (openP 2)) 1 (st rooted)) :=
  ⟨by decide +kernel,
    by decide +kernel,
    by decide +kernel,
    by decide +kernel,
    by decide +kernel,
    by decide +kernel,
    by decide +kernel⟩

theorem witness_OpensAreChallenged_2 :
    ((fun (m : RingMsg) (s : State) =>
      s.dev.inRing = true ∧ s.dev.forMe m = true ∧ m.type = 5 ∧ m.crc = crc32 (ringCovered m) ∧ m.payload.length = 20 ∧ s.dev.openCheck .ring (openReq m.payload) ≠ 0) (sealed 5 5 (openP 3)) (st rooted)) :=
  ⟨by decide +kernel,
    by decide +kernel,
    by decide +kernel,
    by decide +kernel,
    by decide +kernel,
    by decide +kernel⟩

theorem witness_OpensAreChallenged_3 :
    ((fun (w : Nat) (p : Bytes) (row : Nat) (s : State) =>
      s.dev.windowReady w = true ∧ p.length = 20 ∧ (s.dev.openSession .pcie (openReq p)).1.1 = 0 ∧ s.dev.freeSession .pcie = some row) 3 (openP 2) 33 (st rooted)) ∧
    ((fun (row : Nat) (s : State) =>
      s.dev.mode ≠ .reset ∧ (s.dev.openSession .debug (openReq (s.dev.dapBytes 0 20))).1.1 = 0 ∧ s.dev.freeSession .debug = some row) 49 (st (withDap (openP 4) (dev .run [(O.LC_STATE, 0, 2), (O.LC_PENDING, 0, 255), (O.DRBG_STATE, 0, 1)])))) :=
  ⟨⟨by decide +kernel,
    by decide +kernel,
    by decide +kernel,
    by decide +kernel⟩,
   ⟨by decide +kernel,
    by decide +kernel,
    by decide +kernel⟩⟩


theorem witness_ProofsOpenSessions :
    ((fun (m : RingMsg) (row : Nat) (s : State) =>
      s.dev.inRing = true ∧ s.dev.forMe m = true ∧ m.type = 7 ∧ m.crc = crc32 (ringCovered m) ∧ m.payload.length = 20 ∧ s.dev.mode ≠ .boot ∧ s.dev.mode ≠ .reset ∧ s.dev.openingRow .ring (leNat (m.payload.take 4)) = some row ∧ m.payload.drop 4 = s.dev.proofWanted .ring row ∧ s.dev.rd O.SESSION_ROLE row < 4) (sealed 5 7 (provePayload .ring 1 (opening 1 2 rooted))) 1 (st (opening 1 2 rooted))) :=
  ⟨by decide +kernel,
    by decide +kernel,
    by decide +kernel,
    crc_sealed _,
    by decide +kernel,
    by decide +kernel,
    by decide +kernel,
    by decide +kernel,
    drop_prove _ _ _,
    by decide +kernel⟩

theorem witness_ProofsOpenSessions_2 :
    ((fun (m : RingMsg) (row : Nat) (s : State) =>
      s.dev.inRing = true ∧ s.dev.forMe m = true ∧ m.type = 7 ∧ m.crc = crc32 (ringCovered m) ∧ m.payload.length = 20 ∧ s.dev.mode ≠ .boot ∧ s.dev.mode ≠ .reset ∧ s.dev.openingRow .ring (leNat (m.payload.take 4)) = some row ∧ m.payload.drop 4 = s.dev.proofWanted .ring row ∧ 4 ≤ s.dev.rd O.SESSION_ROLE row) (sealed 5 7 (provePayload .ring 1 (opening 1 4 rooted))) 1 (st (opening 1 4 rooted))) :=
  ⟨by decide +kernel,
    by decide +kernel,
    by decide +kernel,
    crc_sealed _,
    by decide +kernel,
    by decide +kernel,
    by decide +kernel,
    by decide +kernel,
    drop_prove _ _ _,
    by decide +kernel⟩

theorem witness_ProofsOpenSessions_3 :
    ((fun (m : RingMsg) (row : Nat) (s : State) =>
      s.dev.inRing = true ∧ s.dev.forMe m = true ∧ m.type = 7 ∧ m.crc = crc32 (ringCovered m) ∧ m.payload.length = 20 ∧ s.dev.mode ≠ .boot ∧ s.dev.mode ≠ .reset ∧ s.dev.openingRow .ring (leNat (m.payload.take 4)) = some row ∧ m.payload.drop 4 ≠ s.dev.proofWanted .ring row ∧ EventRoom s.dev) (sealed 5 7 (leBytes 4 257 ++ leBytes 16 0)) 1 (st (opening 1 2 rooted))) :=
  ⟨by decide +kernel,
    by decide +kernel,
    by decide +kernel,
    by decide +kernel,
    by decide +kernel,
    by decide +kernel,
    by decide +kernel,
    by decide +kernel,
    by decide +kernel,
    eventRoom (by decide +kernel)⟩

theorem witness_ProofsOpenSessions_4 :
    ((fun (w : Nat) (p : Bytes) (row : Nat) (s : State) =>
      s.dev.windowReady w = true ∧ s.dev.mode ≠ .boot ∧ p.length = 20 ∧ s.dev.openingRow .pcie (leNat (p.take 4)) = some row ∧ p.drop 4 = s.dev.proofWanted .pcie row ∧ s.dev.rd O.SESSION_ROLE row < 4) 3 (provePayload .pcie 33 (opening 33 2 rooted)) 33 (st (opening 33 2 rooted))) :=
  ⟨by decide +kernel,
    by decide +kernel,
    by decide +kernel,
    by decide +kernel,
    drop_prove _ _ _,
    by decide +kernel⟩

theorem witness_ProofsOpenSessions_5 :
    ((fun (row : Nat) (s : State) =>
      s.dev.mode ≠ .boot ∧ s.dev.mode ≠ .reset ∧ s.dev.openingRow .debug (leNat (s.dev.dapBytes 0 4)) = some row ∧ s.dev.dapBytes 4 16 = s.dev.proofWanted .debug row ∧ (s.dev.rd O.SESSION_ROLE row < 4 ∨ s.dev.certGood row = true)) 49 (st (withDap (provePayload .debug 49 (opening 49 2 rooted)) (opening 49 2 rooted)))) :=
  ⟨by decide +kernel,
    by decide +kernel,
    by decide +kernel,
    by decide +kernel,
    by decide +kernel⟩


theorem witness_SessionsEnd :
    ((fun (r : Req) (row : Nat) (s : State) =>
      AskedFree r O.SESSION_CLOSE row s.dev ∧ s.dev.rd O.SESSION_STATE row ≠ 0) req 1 (st (dev .run sv))) ∧
    ((fun (w : Nat) (id : Nat) (row : Nat) (s : State) =>
      s.dev.windowReady w = true ∧ s.dev.mode ≠ .boot ∧ s.dev.openRow id = some row ∧ rowTransport row = .pcie) 3 289 33 (st (dev .run pc))) :=
  ⟨⟨by unfold AskedFree; decide +kernel,
    by decide +kernel⟩,
   ⟨by decide +kernel,
    by decide +kernel,
    by decide +kernel,
    by decide +kernel⟩⟩

theorem witness_SessionsEnd_2 :
    ((fun (id : Nat) (row : Nat) (s : State) =>
      s.dev.mode ≠ .reset ∧ s.dev.mode ≠ .boot ∧ s.dev.openRow id = some row ∧ rowTransport row = .debug) 305 49 (st debugSession)) ∧
    ((fun (row : Nat) (s : State) =>
      s.dev.clockOn = true ∧ s.dev.rd O.SESSION_STATE row = 2 ∧ row ≤ 48) 48 (st (dev .run [(O.SESSION_STATE, 48, 2), (O.SESSION_ID, 48, 304), (O.SESSION_ROLE, 48, 1)]))) :=
  ⟨⟨by decide +kernel,
    by decide +kernel,
    by decide +kernel,
    by decide +kernel⟩,
   ⟨by decide +kernel,
    by decide +kernel,
    by decide +kernel⟩⟩

theorem witness_SessionsEnd_3 :
    ((fun (row : Nat) (s : State) =>
      s.dev.clockOn = true ∧ s.dev.rd O.SESSION_STATE row = 2 ∧ s.dev.rd O.DBG_CERT_EXPIRES row ≠ 0) 49 (st (dev .run (dbg ++ [(O.DBG_CERT_EXPIRES, 49, 5 * 2 ^ 48)])))) ∧
    ((fun (row : Nat) (s : State) =>
      s.dev.clockOn = true ∧ s.dev.rd O.SESSION_STATE row = 1 ∧ EventRoom s.dev) 1 (st (opening 1 2 rooted))) ∧
    ((fun (tr : Transport) (e : Transport × Nat) (s : State) =>
      s.dev.clockOn = true ∧ s.dev.lockoutUntil.find? (fun e => decide (e.1 = tr)) = some e) (.ring) ((.ring, 100)) (st { dev .run [] with lockoutUntil := [(.ring, 100)] })) :=
  ⟨⟨by decide +kernel,
    by decide +kernel,
    by decide +kernel⟩,
   ⟨by decide +kernel,
    by decide +kernel,
    eventRoom (by decide +kernel)⟩,
   ⟨by decide +kernel,
    by decide +kernel⟩⟩


theorem witness_RingRequestsKeepTheirOrder :
    ((fun (m : RingMsg) (row : Nat) (p : Piece) (s : State) =>
      s.dev.inRing = true ∧ s.dev.forMe m = true ∧ m.type = 2 ∧ m.crc = crc32 (ringCovered m) ∧ 12 ≤ m.payload.length ∧ m.payload.length ≤ 1024 ∧ s.dev.sessionRow ⟨.ring, m.session⟩ = some row ∧ ringTagged m = true ∧ m.tag = ringTag m (s.dev.ksOf row) ∧ s.dev.rd O.SESSION_LAST_COUNTER row < 0xFFFFFFFF ∧ m.counter = s.dev.rd O.SESSION_LAST_COUNTER row + 1 ∧ leNat (m.payload.take 1) = 2 ∧ (addrOf (slice 4 8 m.payload)).group = 0 ∧ Device.isCommand (addrOf (slice 4 8 m.payload)) = false ∧ Passes ⟨.ring, m.session⟩ (addrOf (slice 4 8 m.payload)) (m.payload.drop 12) (s.dev.wr O.SESSION_LAST_COUNTER row m.counter) ∧ Device.pieces (addrOf (slice 4 8 m.payload)) (m.payload.drop 12) = some [p] ∧ p.e.obj ∉ moreThanStore ∧ Quiet s.dev) (request 5 writeFollow) 1 (piece follow [1]) (st ringSession)) :=
  ⟨by decide +kernel,
    by decide +kernel,
    by decide +kernel,
    crc_tagged _ _,
    by decide +kernel,
    by decide +kernel,
    by decide +kernel,
    by decide +kernel,
    tag_tagged _ _,
    by decide +kernel,
    by decide +kernel,
    by decide +kernel,
    by decide +kernel,
    by decide +kernel,
    by unfold Passes; decide +kernel,
    by decide +kernel,
    by decide +kernel,
    quiet (by decide +kernel)⟩

theorem witness_RingRequestsKeepTheirOrder_2 :
    ((fun (m : RingMsg) (row : Nat) (s : State) =>
      s.dev.inRing = true ∧ s.dev.forMe m = true ∧ m.type = 2 ∧ m.crc = crc32 (ringCovered m) ∧ m.payload.length ≤ 1024 ∧ s.dev.sessionRow ⟨.ring, m.session⟩ = some row ∧ ringTagged m = true ∧ m.tag = ringTag m (s.dev.ksOf row) ∧ m.counter = s.dev.rd O.SESSION_LAST_COUNTER row ∧ (s.dev.sessOf row).cache ≠ [] ∧ s.dev.mode ≠ .reset) (request 4 writeFollow) 1 (st ringSession)) :=
  ⟨by decide +kernel,
    by decide +kernel,
    by decide +kernel,
    crc_tagged _ _,
    by decide +kernel,
    by decide +kernel,
    by decide +kernel,
    tag_tagged _ _,
    by decide +kernel,
    by decide +kernel,
    by decide +kernel⟩

theorem witness_RingRequestsKeepTheirOrder_3 :
    ((fun (m : RingMsg) (row : Nat) (s : State) =>
      s.dev.inRing = true ∧ s.dev.forMe m = true ∧ m.type = 2 ∧ m.crc = crc32 (ringCovered m) ∧ m.payload.length ≤ 1024 ∧ s.dev.sessionRow ⟨.ring, m.session⟩ = some row ∧ (ringTagged m = false ∨ m.tag ≠ ringTag m (s.dev.ksOf row))) (sealed 5 2 writeFollow |> fun m => ringSealCrc { m with session := 257 }) 1 (st ringSession)) :=
  ⟨by decide +kernel,
    by decide +kernel,
    by decide +kernel,
    by decide +kernel,
    by decide +kernel,
    by decide +kernel,
    by decide +kernel⟩

theorem witness_RingRequestsKeepTheirOrder_4 :
    ((fun (m : RingMsg) (row : Nat) (s : State) =>
      s.dev.inRing = true ∧ s.dev.forMe m = true ∧ m.type = 2 ∧ m.crc = crc32 (ringCovered m) ∧ m.payload.length ≤ 1024 ∧ s.dev.sessionRow ⟨.ring, m.session⟩ = some row ∧ ringTagged m = true ∧ m.tag = ringTag m (s.dev.ksOf row) ∧ (¬ (s.dev.rd O.SESSION_LAST_COUNTER row = 0xFFFFFFFF ∧ m.counter = 0)) ∧ m.counter ≠ s.dev.rd O.SESSION_LAST_COUNTER row ∧ m.counter ≠ s.dev.rd O.SESSION_LAST_COUNTER row + 1) (request 6 writeFollow) 1 (st ringSession)) :=
  ⟨by decide +kernel,
    by decide +kernel,
    by decide +kernel,
    crc_tagged _ _,
    by decide +kernel,
    by decide +kernel,
    by decide +kernel,
    tag_tagged _ _,
    by decide +kernel,
    by decide +kernel,
    by decide +kernel⟩

theorem witness_RingRequestsKeepTheirOrder_5 :
    ((fun (m : RingMsg) (row : Nat) (s : State) =>
      s.dev.inRing = true ∧ s.dev.forMe m = true ∧ m.type = 2 ∧ m.crc = crc32 (ringCovered m) ∧ m.payload.length ≤ 1024 ∧ s.dev.sessionRow ⟨.ring, m.session⟩ = some row ∧ ringTagged m = true ∧ m.tag = ringTag m (s.dev.ksOf row) ∧ s.dev.rd O.SESSION_LAST_COUNTER row = 0xFFFFFFFF ∧ m.counter = 0) (request 0 writeFollow) 1 (st (ringSession.wr O.SESSION_LAST_COUNTER 1 0xFFFFFFFF))) :=
  ⟨by decide +kernel,
    by decide +kernel,
    by decide +kernel,
    crc_tagged _ _,
    by decide +kernel,
    by decide +kernel,
    by decide +kernel,
    tag_tagged _ _,
    by decide +kernel,
    by decide +kernel⟩

/-! ### Dictionary -/

def dbgAddr : AddrBlock := directAddr O.TIME_FOLLOW 0
def withDap1 (m : Mode) : State := st (withDap [1] (dev m [(O.SESSION_STATE, 49, 2), (O.SESSION_ID, 49, 305), (O.SESSION_ROLE, 49, 1)]))

theorem witness_ArgumentsStartCommands :
    ((fun (e : Nat × Nat × (Req → Nat → Instr)) (r : Req) (row : Nat) (s : State) =>
      (indexTable (e.1 / 256) = false → row = 0)) ((O.GROUP_CMD, 1, .groupOpen)) req 3 (st (dev .run owner))) ∧
    ((fun (r : Req) (m : Nat) (row : Nat) (s : State) =>
      row < 2 ^ 32) req 383 (2 ^ 32 - 1) (st (dev .run owner))) ∧
    ((fun (r : Req) (b : Nat) (core : Nat) (s : State) =>
      core ≤ 8) req 7 8 (st (dev .run owner))) :=
  ⟨by beta_reduce; decide +kernel,
   by beta_reduce; decide +kernel,
   by beta_reduce; decide +kernel⟩


theorem witness_WritesStoreOrAreRefused :
    ((fun (r : Req) (a : AddrBlock) (v : Bytes) (ps : List Piece) (s : State) =>
      Passes r a v s.dev ∧ a.group = 0 ∧ Device.isCommand a = false ∧ Device.pieces a v = some ps ∧ (∀ p ∈ ps, p.e.obj ∉ moreThanStore) ∧ Quiet s.dev) req follow [1] ([piece follow [1]]) (st (dev .run owner))) :=
  ⟨by unfold Passes; decide +kernel,
    by decide +kernel,
    by decide +kernel,
    by decide +kernel,
    by decide +kernel,
    quiet (by decide +kernel)⟩

theorem witness_WritesStoreOrAreRefused_2 :
    ((fun (r : Req) (a : AddrBlock) (v : Bytes) (s : State) =>
      s.dev.mode ≠ .reset ∧ s.dev.mode ≠ .boot ∧ a.group = 0 ∧ Device.isCommand a = false ∧ (s.dev.accept r).writeCheck r a v .direct none ≠ 0) req follow [2] (st (dev .run owner))) :=
  ⟨by decide +kernel,
    by decide +kernel,
    by decide +kernel,
    by decide +kernel,
    by decide +kernel⟩

theorem witness_WritesStoreOrAreRefused_3 :
    ((fun (r : Req) (a : AddrBlock) (v : Bytes) (s : State) =>
      s.dev.mode ≠ .reset ∧ s.dev.mode ≠ .boot ∧ a.group ≠ 0 ∧ (s.dev.accept r).writeCheck r a v .shadow none = 0) req ({ follow with group := 3 }) [1] openGroup) :=
  ⟨by decide +kernel,
    by decide +kernel,
    by decide +kernel,
    by decide +kernel⟩


theorem witness_WindowsAndDebugPortCarryRequests :
    ((fun (w : Nat) (id : Nat) (a : AddrBlock) (e : Desc) (s : State) =>
      s.dev.windowReady w = true ∧ PlainRead ⟨.pcie, id⟩ a e s.dev) 3 289 follow (desc O.TIME_FOLLOW) (st (dev .run pc))) :=
  ⟨by decide +kernel,
    by unfold PlainRead; decide +kernel⟩

theorem witness_WindowsAndDebugPortCarryRequests_2 :
    ((fun (w : Nat) (id : Nat) (a : AddrBlock) (v : Bytes) (p : Piece) (s : State) =>
      s.dev.windowReady w = true ∧ s.dev.mode ≠ .boot ∧ v.length ≤ 4032 ∧ Passes ⟨.pcie, id⟩ a v s.dev ∧ a.group = 0 ∧ Device.isCommand a = false ∧ Device.pieces a v = some [p] ∧ p.e.obj ∉ moreThanStore ∧ Quiet s.dev) 0 289 follow [1] (piece follow [1]) (st (dev .run pc))) :=
  ⟨by decide +kernel,
    by decide +kernel,
    by decide +kernel,
    by unfold Passes; decide +kernel,
    by decide +kernel,
    by decide +kernel,
    by decide +kernel,
    by decide +kernel,
    quiet (by decide +kernel)⟩

theorem witness_WindowsAndDebugPortCarryRequests_3 :
    ((fun (id : Nat) (a : AddrBlock) (e : Desc) (s : State) =>
      PlainRead ⟨.debug, id⟩ a e s.dev) 305 (directAddr O.PART_NUMBER 0) (desc O.PART_NUMBER) (st (dev .run dbg))) :=
  by beta_reduce; unfold PlainRead; decide +kernel

theorem witness_WindowsAndDebugPortCarryRequests_4 :
    ((fun (id : Nat) (a : AddrBlock) (n : Nat) (p : Piece) (s : State) =>
      s.dev.mode ≠ .boot ∧ n ≤ 4032 ∧ Passes ⟨.debug, id⟩ a (s.dev.dapBytes 0 n) s.dev ∧ a.group = 0 ∧ Device.isCommand a = false ∧ Device.pieces a (s.dev.dapBytes 0 n) = some [p] ∧ p.e.obj ∉ moreThanStore ∧ Quiet s.dev) 305 dbgAddr 1 (piece dbgAddr [1]) (withDap1 .run)) :=
  ⟨by decide +kernel,
    by decide +kernel,
    by unfold Passes; decide +kernel,
    by decide +kernel,
    by decide +kernel,
    by decide +kernel,
    by decide +kernel,
    quiet (by decide +kernel)⟩

theorem witness_WindowsAndDebugPortCarryRequests_5 :
    ((fun (r : Req) (row : Nat) (s : State) =>
      s.dev.mode ≠ .reset ∧ s.dev.mode ≠ .boot ∧ (s.dev.accept r).readCheck r (directAddr O.PMC_VALUE row) = 0) req 130 (st (dev .run (owner ++ [(O.PMC_CHAIN, 130, 1), (O.PMC_VALUE, 131, 77)])))) :=
  ⟨by decide +kernel,
    by decide +kernel,
    by decide +kernel⟩


theorem witness_JtagShiftsAndKeepsItsBuffer :
    ((fun (c : Nat) (s : State) =>
      s.dev.mode = .reset) 5 State.reset) ∧
    ((fun (c : Nat) (s : State) =>
      s.dev.mode ≠ .reset) 5 (st (dev .run []))) ∧
    ((fun (o : Nat) (v : Nat) (s : State) =>
      s.dev.mode ≠ .reset ∧ Device.dapOffsetOk o = true) 4028 77 (st (dev .run []))) ∧
    ((fun (o : Nat) (v : Nat) (s : State) =>
      s.dev.mode ≠ .reset ∧ Device.dapOffsetOk o = false) 4032 77 (st (dev .run []))) ∧
    ((fun (o : Nat) (s : State) =>
      s.dev.mode ≠ .reset ∧ Device.dapOffsetOk o = true) 0 (withDap1 .run)) :=
  ⟨by beta_reduce; decide +kernel,
   by beta_reduce; decide +kernel,
   ⟨by decide +kernel,
    by decide +kernel⟩,
   ⟨by decide +kernel,
    by decide +kernel⟩,
   ⟨by decide +kernel,
    by decide +kernel⟩⟩

theorem witness_JtagShiftsAndKeepsItsBuffer_2 :
    ((fun (o : Nat) (s : State) =>
      s.dev.mode ≠ .reset ∧ Device.dapOffsetOk o = false) 4030 (withDap1 .run)) ∧
    ((fun (s : State) =>
      s.dev.mode ≠ .reset) (st (dev .boot []))) :=
  ⟨⟨by decide +kernel,
    by decide +kernel⟩,
   by beta_reduce; decide +kernel⟩

/-! ### Pcie -/

/-- DMA ring 3 of kind `k`, of 64 descriptors, enabled, with this head and tail. -/
def ring3 (k head tail : Nat) : List (Nat × Nat × Nat) :=
  pc ++ [(O.RING_SESSION, 3, 289), (O.RING_KIND, 3, k), (O.RING_ENABLE, 3, 1), (O.RING_STATE, 3, 1), (O.RING_SIZE, 3, 64),
    (O.RING_HEAD, 3, head), (O.RING_TAIL, 3, tail), (O.RING_BUF_MAX, 3, 256), (O.RING_VECTOR, 3, 63)]
def descriptor (address length : Nat) : Descriptor := ⟨address, length, List.replicate 16 0, false⟩
/-- A punted frame waits for a descriptor. -/
def puntFrame : Frame := { Frame.begin 4 false 0 (List.replicate 64 0) 0 with stage := .punt, reason := 1 }
/-- MSI-X is enabled, every entry masked, and entry 63 pending. -/
def pending63 : State := st { dev .run [] with pcie := { (dev .run []).pcie with masked := 2 ^ 64 - 1, pendBits := 2 ^ 63, msixOn := true } }
def punted : State :=
  let d := dev .run (ring3 1 63 2 ++ [(O.PUNT_RING, 1, 3)])
  st { d with pipe := { d.pipe with frames := [puntFrame] } }

theorem witness_RingsStartAndStop :
    ((fun (r : Req) (n : Nat) (s : State) =>
      Passes r (directAddr O.RING_ENABLE n) (leBytes 1 1) s.dev ∧ s.dev.rd O.RING_STATE n ≠ 1 ∧ Quiet s.dev) (⟨.pcie, 289⟩) 63 (st (dev .run (pc ++ [(O.RING_SESSION, 63, 289)])))) ∧
    ((fun (r : Req) (n : Nat) (s : State) =>
      Passes r (directAddr O.RING_ENABLE n) (leBytes 1 0) s.dev ∧ s.dev.rd O.RING_STATE n ≠ 0 ∧ s.dev.rd O.RING_ENABLE n ≠ 0 ∧ (s.dev.dmaOf n).taken = [] ∧ Quiet s.dev) (⟨.pcie, 289⟩) 3 (st (dev .run (ring3 0 60 2)))) :=
  ⟨⟨by unfold Passes; decide +kernel,
    by decide +kernel,
    quiet (by decide +kernel)⟩,
   ⟨by unfold Passes; decide +kernel,
    by decide +kernel,
    by decide +kernel,
    by decide +kernel,
    quiet (by decide +kernel)⟩⟩

theorem witness_RingsStartAndStop_2 :
    ((fun (r : Req) (n : Nat) (s : State) =>
      Passes r (directAddr O.RING_ENABLE n) (leBytes 1 0) s.dev ∧ s.dev.rd O.RING_STATE n ≠ 0 ∧ s.dev.rd O.RING_ENABLE n ≠ 0 ∧ (s.dev.dmaOf n).taken ≠ [] ∧ Quiet s.dev) (⟨.pcie, 289⟩) 3 (st ((dev .run (ring3 0 60 2)).setDma 3 ⟨0, 0, [], [⟨7, none⟩], false⟩))) :=
  ⟨by unfold Passes; decide +kernel,
    by decide +kernel,
    by decide +kernel,
    by decide +kernel,
    quiet (by decide +kernel)⟩

theorem witness_RingsStartAndStop_3 :
    ((fun (n : Nat) (tail : Nat) (s : State) =>
      s.dev.mode ≠ .reset ∧ n < 64 ∧ s.dev.rd O.RING_STATE n = 1 ∧ tail < s.dev.rd O.RING_SIZE n) 3 63 (st (dev .run (ring3 0 60 2)))) ∧
    ((fun (n : Nat) (tail : Nat) (s : State) =>
      (64 ≤ n ∨ s.dev.rd O.RING_STATE n ≠ 1 ∨ s.dev.rd O.RING_SIZE n ≤ tail)) 3 64 (st (dev .run (ring3 0 60 2)))) :=
  ⟨⟨by decide +kernel,
    by decide +kernel,
    by decide +kernel,
    by decide +kernel⟩,
   by beta_reduce; decide +kernel⟩


theorem witness_DescriptorsAreCompleted :
    ((fun (x : Descriptor) (n : Nat) (s : State) =>
      s.dev.mode ≠ .reset ∧ s.dev.turnRing = some n ∧ s.dev.rd O.RING_KIND n = 0 ∧ (s.dev.dmaOf n).taken = []) (descriptor 64 256) 3 (st (dev .run (ring3 0 63 2)))) ∧
    ((fun (x : Descriptor) (n : Nat) (s : State) =>
      s.dev.mode ≠ .reset ∧ s.dev.turnRing = some n ∧ s.dev.rd O.RING_KIND n = 4) (descriptor 64 256) 3 (st ((dev .run (ring3 4 63 2)).setDma 3 ⟨0, 0, [(0, [1, 2])], [], false⟩))) :=
  ⟨⟨by decide +kernel,
    by decide +kernel,
    by decide +kernel,
    by decide +kernel⟩,
   ⟨by decide +kernel,
    by decide +kernel,
    by decide +kernel⟩⟩

theorem witness_DescriptorsAreCompleted_2 :
    ((fun (n : Nat) (s : State) =>
      s.dev.clockOn = true ∧ s.dev.mode ≠ .reset ∧ (s.dev.dmaOf n).unsignalled ≠ 0 ∧ s.dev.rd O.RING_IRQ_NS n ≠ 0 ∧ s.dev.rd O.RING_VECTOR n < 64) 3 (st ((dev .run (ring3 0 63 2 ++ [(O.RING_IRQ_NS, 3, 1000)])).setDma 3 ⟨1, 0, [], [], false⟩))) :=
  ⟨by decide +kernel,
    by decide +kernel,
    by decide +kernel,
    by decide +kernel,
    by decide +kernel⟩

theorem witness_DescriptorsAreCompleted_3 :
    ((fun (x : Descriptor) (n : Nat) (f : Frame) (s : State) =>
      s.dev.mode ≠ .reset ∧ s.dev.turnRing = some n ∧ s.dev.rd O.RING_KIND n = 1 ∧ s.dev.puntWaiting n = some f) (descriptor 64 256) 3 puntFrame punted) :=
  ⟨by decide +kernel,
    by decide +kernel,
    by decide +kernel,
    by decide +kernel⟩


theorem witness_HostPortLinksAndResets :
    ((fun (w : Nat) (sp : Nat) (s : State) =>
      s.dev.mode ≠ .reset ∧ 1 ≤ w ∧ w ≤ 4 ∧ 1 ≤ sp ∧ sp ≤ 5) 4 5 (st (dev .run []))) ∧
    ((fun (c : PortResetCause) (s : State) =>
      s.dev.mode ≠ .reset) (.flr) (st (dev .run (ring3 0 63 2)))) :=
  ⟨⟨by decide +kernel,
    by decide +kernel,
    by decide +kernel,
    by decide +kernel,
    by decide +kernel⟩,
   by beta_reduce; decide +kernel⟩

theorem witness_HostPortLinksAndResets_2 :
    ((fun (e : Nat) (a : Nat) (v : Nat) (s : State) =>
      s.dev.mode ≠ .reset ∧ e < 64 ∧ a < 2 ^ 64 ∧ v < 2 ^ 32 ∧ s.dev.pcie.msixOn = true ∧ s.dev.pcie.funcMask = false ∧ Settled s.dev) 63 4096 77 pending63) :=
  ⟨by decide +kernel,
    by decide +kernel,
    by decide +kernel,
    by decide +kernel,
    by decide +kernel,
    by decide +kernel,
    by unfold Settled; decide +kernel⟩

theorem witness_HostPortLinksAndResets_3 :
    ((fun (e : Nat) (a : Nat) (v : Nat) (s : State) =>
      s.dev.mode ≠ .reset ∧ e < 64 ∧ Settled s.dev) 63 4096 77 pending63) ∧
    ((fun (on : Bool) (fm : Bool) (s : State) =>
      s.dev.mode ≠ .reset) false true pending63) :=
  ⟨⟨by decide +kernel,
    by decide +kernel,
    by unfold Settled; decide +kernel⟩,
   by beta_reduce; decide +kernel⟩

/-! ### Modes -/

/-- The device in DRAIN, its entry armed or fired. -/
def draining : State := st (dev .drain (sv ++ [(O.GUN_STATE, 772, 1), (O.GUN_OWNER, 772, 7), (O.GUN_TIME, 772, 5 * 2 ^ 48)]))
def drained : State := st (dev .drain (sv ++ [(O.GUN_STATE, 772, 3), (O.GUN_OWNER, 772, 7)]))
def lateOk : List (Nat × Nat × Nat) := sv ++ [(O.DRAIN_LATE_OK, 0, 1)]
/-- No entry of the shared pool is free. -/
def fullPool : Device :=
  let d := dev .run lateOk
  let rows := fun o => (List.range 252).map (fun k => (keyOf o (772 + k), 1))
  { d with dict := d.dict.filter (fun e => decide (e.1 < keyOf O.GUN_STATE 0)) ++ rows O.GUN_STATE ++ rows O.GUN_OWNER ++
      d.dict.filter (fun e => decide (keyOf O.GUN_STATE 0 < e.1)) }

theorem witness_ModeCommandsChangeTheMode :
    ((fun (r : Req) (s : State) =>
      Asked r O.MODE_CMD 0 s.dev ∧ s.dev.mode = .stage ∧ s.dev.rd O.BOOT_STATUS = 0 ∧ s.dev.trafficAllowed = true) req (st (dev .stage sv))) ∧
    ((fun (r : Req) (s : State) =>
      Asked r O.MODE_CMD 0 s.dev ∧ (s.dev.mode = .run ∨ s.dev.mode = .drain) ∧ EventRoom s.dev) req (st (dev .run sv))) :=
  ⟨⟨by unfold Asked; decide +kernel,
    by decide +kernel,
    by decide +kernel,
    by decide +kernel⟩,
   ⟨by unfold Asked; decide +kernel,
    by decide +kernel,
    eventRoom (by decide +kernel)⟩⟩

theorem witness_ModeCommandsChangeTheMode_2 :
    ((fun (r : Req) (s : State) =>
      Asked r O.MODE_CMD 0 s.dev ∧ s.dev.mode = .safe ∧ s.dev.rd O.FLT_FATAL_SINCE_BOOT = 0 ∧ s.dev.rd O.FLT_STATUS = 0) req (st (dev .safe sv))) ∧
    ((fun (r : Req) (e : Nat) (s : State) =>
      Asked r O.MODE_CMD 0 s.dev ∧ s.dev.mode = .drain ∧ s.dev.drainArmed = some e ∧ EventRoom s.dev) req 772 draining) :=
  ⟨⟨by unfold Asked; decide +kernel,
    by decide +kernel,
    by decide +kernel,
    by decide +kernel⟩,
   ⟨by unfold Asked; decide +kernel,
    by decide +kernel,
    by decide +kernel,
    eventRoom (by decide +kernel)⟩⟩


theorem witness_DrainTakesOneEntry :
    ((fun (r : Req) (e : Nat) (s : State) =>
      Asked r O.MODE_CMD 0 s.dev ∧ s.dev.mode = .run ∧ s.dev.drainEntry = none ∧ (s.dev.gunPast (s.dev.rd O.DRAIN_GUN_TIME) = false ∨ s.dev.rdB O.DRAIN_LATE_OK = true) ∧ s.dev.gunPool 7 = some e) req 772 (st (dev .run lateOk))) :=
  ⟨by unfold Asked; decide +kernel,
    by decide +kernel,
    not_draining (by decide +kernel),
    by decide +kernel,
    by decide +kernel⟩

theorem witness_DrainTakesOneEntry_2 :
    ((fun (r : Req) (s : State) =>
      Asked r O.MODE_CMD 0 s.dev ∧ s.dev.mode = .run ∧ s.dev.drainEntry = none ∧ (s.dev.gunPast (s.dev.rd O.DRAIN_GUN_TIME) = false ∨ s.dev.rdB O.DRAIN_LATE_OK = true) ∧ s.dev.gunPool 7 = none) req (st fullPool)) :=
  ⟨by unfold Asked; decide +kernel,
    by decide +kernel,
    not_draining (by decide +kernel),
    by decide +kernel,
    by decide +kernel⟩

theorem witness_DrainTakesOneEntry_3 :
    ((fun (r : Req) (s : State) =>
      Asked r O.MODE_CMD 0 s.dev ∧ s.dev.mode = .run ∧ s.dev.gunPast (s.dev.rd O.DRAIN_GUN_TIME) = true ∧ s.dev.rdB O.DRAIN_LATE_OK = false) req (st (dev .run sv))) ∧
    ((fun (r : Req) (v : Bytes) (e : Nat) (s : State) =>
      s.dev.mode ≠ .reset ∧ s.dev.drainEntry = some e ∧ s.dev.whoCheck r (directAddr O.DRAIN_GUN_TIME 0) false = 0 ∧ s.dev.notServed O.DRAIN_GUN_TIME = false) req (leBytes 12 0) 772 draining) :=
  ⟨⟨by unfold Asked; decide +kernel,
    by decide +kernel,
    by decide +kernel,
    by decide +kernel⟩,
   ⟨by decide +kernel,
    by decide +kernel,
    by decide +kernel,
    by decide +kernel⟩⟩


theorem witness_DrainEndsInStage :
    ((fun (s : State) =>
      s.dev.mode = .drain ∧ s.dev.drainEntry = none ∧ s.dev.pipe.frames = []) drained) ∧
    ((fun (s : State) =>
      s.dev.clockOn = true ∧ s.dev.mode = .drain ∧ s.dev.drainEntry = none) drained) :=
  ⟨⟨by decide +kernel,
    by decide +kernel,
    by decide +kernel⟩,
   ⟨by decide +kernel,
    by decide +kernel,
    by decide +kernel⟩⟩

theorem witness_DrainEndsInStage_2 :
    ((fun (e : Nat) (s : State) =>
      s.dev.clockOn = true ∧ s.dev.gunLive e = true ∧ s.dev.gunFirst e = true ∧ s.dev.rd O.GUN_OWNER e = 7 ∧ s.dev.mode = .drain ∧ EventRoom s.dev) 772 draining) :=
  ⟨by decide +kernel,
    by decide +kernel,
    by decide +kernel,
    by decide +kernel,
    by decide +kernel,
    eventRoom (by decide +kernel)⟩


theorem witness_ResetClearsAllButFuses :
    ((fun (s : State) =>
      s.dev.mode ≠ .reset) (st (dev .run sv))) ∧
    ((fun (s : State) =>
      s.dev.mode ≠ .reset) (st (dev .run sv))) ∧
    ((fun (r : Req) (s : State) =>
      Asked r O.MODE_CMD 0 s.dev ∧ s.dev.roleOf r ≠ 2 ∧ (s.dev.mode ≠ .safe ∨ s.dev.rd O.FLT_FATAL_SINCE_BOOT = 0)) req (st (dev .run sv))) ∧
    ((fun (r : Req) (s : State) =>
      Asked r O.FW_CMD 0 s.dev ∧ s.dev.fwRole r = false ∧ s.dev.mode = .stage) req (st (dev .stage sv))) :=
  ⟨by beta_reduce; decide +kernel,
   by beta_reduce; decide +kernel,
   ⟨by unfold Asked; decide +kernel,
    by decide +kernel,
    by decide +kernel⟩,
   ⟨by unfold Asked; decide +kernel,
    by decide +kernel,
    by decide +kernel⟩⟩

theorem witness_ResetClearsAllButFuses_2 :
    ((fun (s : State) =>
      s.dev.mode = .reset ∧ s.dev.jtag.tap ≠ .extest) State.reset) ∧
    ((fun (s : State) =>
      s.dev.mode = .reset ∧ s.dev.jtag.tap = .extest) (st (let d := dev .reset []; { d with jtag := { d.jtag with tap := .extest } }))) :=
  ⟨⟨by decide +kernel,
    by decide +kernel⟩,
   ⟨by decide +kernel,
    by decide +kernel⟩⟩

/-! ### Boot -/

/-- The device in BOOT with these steps done. -/
def booting (x : BootX) (l : List (Nat × Nat × Nat)) : Device := { dev .boot l with boot := x, clockOn := x.plls }
/-- The DUS and the owner field with their check words. -/
def ownedFuses (d : Device) : Device := (d.burnBits 2832 32 (Device.checkWord 32 0)).burnBits 3664 32 (Device.checkWord 64 0)
def slice1 (n : Nat) : List (Nat × Nat × Nat) := sv ++ [(O.SLICE_STATE, 1, n)]

theorem witness_BootStepsInOrder :
    ((fun (s : State) =>
      s.dev.mode = .boot ∧ s.dev.boot.plls = false ∧ EventRoom s.dev ∧ (∀ tr, s.dev.highMark tr = 0)) (st (booting ⟨false, false, false, false, false, 0⟩ []))) :=
  ⟨by decide +kernel,
    by decide +kernel,
    eventRoom (by decide +kernel),
    by intro tr; cases tr <;> decide +kernel⟩

theorem witness_BootStepsInOrder_2 :
    ((fun (s : State) =>
      s.dev.mode = .boot ∧ s.dev.boot.plls = true ∧ s.dev.boot.drbg = false ∧ s.dev.boot.entropyFails < 3 ∧ s.dev.rd O.LC_STATE < 3) (st (booting ⟨true, false, false, false, false, 2⟩ [(O.LC_STATE, 0, 2)]))) :=
  ⟨by decide +kernel,
    by decide +kernel,
    by decide +kernel,
    by decide +kernel,
    by decide +kernel⟩

theorem witness_BootStepsInOrder_3 :
    ((fun (s : State) =>
      s.dev.mode = .boot ∧ s.dev.boot.plls = true ∧ s.dev.boot.drbg = false ∧ s.dev.boot.entropyFails < 3 ∧ s.dev.rd O.LC_STATE = 4 ∧ (s.dev.dusValid false = true ∨ s.dev.dusValid true = true) ∧ s.dev.ownerFieldValid = true) (st (ownedFuses (booting ⟨true, false, false, false, false, 0⟩ [(O.LC_STATE, 0, 4)])))) :=
  ⟨by decide +kernel,
    by decide +kernel,
    by decide +kernel,
    by decide +kernel,
    by decide +kernel,
    by decide +kernel,
    by decide +kernel⟩

theorem witness_BootStepsInOrder_4 :
    ((fun (s : State) =>
      s.dev.mode = .boot ∧ s.dev.boot.plls = true ∧ s.dev.boot.drbg = false ∧ s.dev.boot.entropyFails < 2) (st (booting ⟨true, false, false, false, false, 1⟩ []))) ∧
    ((fun (s : State) =>
      s.dev.mode = .boot ∧ s.dev.boot.plls = true ∧ s.dev.boot.drbg = false ∧ s.dev.boot.entropyFails = 2) (st (booting ⟨true, false, false, false, false, 2⟩ []))) :=
  ⟨⟨by decide +kernel,
    by decide +kernel,
    by decide +kernel,
    by decide +kernel⟩,
   ⟨by decide +kernel,
    by decide +kernel,
    by decide +kernel,
    by decide +kernel⟩⟩

theorem witness_BootStepsInOrder_5 :
    ((fun (s : State) =>
      s.dev.mode = .boot ∧ s.dev.boot.drbg = true ∧ s.dev.boot.image = false) (st (booting ⟨true, true, false, false, false, 0⟩ []))) ∧
    ((fun (s : State) =>
      s.dev.sydinRuns = true ∧ s.dev.boot.memory = false) (st (booting ⟨true, true, true, false, false, 0⟩ [(O.BOOT_IMAGE, 0, 1)]))) :=
  ⟨⟨by decide +kernel,
    by decide +kernel,
    by decide +kernel⟩,
   ⟨by decide +kernel,
    by decide +kernel⟩⟩

theorem witness_BootStepsInOrder_6 :
    ((fun (c : Nat) (s : State) =>
      s.dev.sydinRuns = true ∧ s.dev.boot.memory = false ∧ c < 4 ∧ s.dev.retireTaken = false) 3 (st (booting ⟨true, true, true, false, false, 0⟩ [(O.BOOT_IMAGE, 0, 1)]))) ∧
    ((fun (line : Nat) (host : Nat) (us : Nat) (s : State) =>
      s.dev.sydinRuns = true ∧ s.dev.boot.serdes = false) 1 (2 ^ 31) 77 (st (booting ⟨true, true, true, false, false, 0⟩ [(O.BOOT_IMAGE, 0, 1)]))) ∧
    ((fun (s : State) =>
      s.dev.bootReady = true) (st (booting ⟨true, true, true, true, true, 0⟩ [(O.BOOT_IMAGE, 0, 1)]))) :=
  ⟨⟨by decide +kernel,
    by decide +kernel,
    by decide +kernel,
    by decide +kernel⟩,
   ⟨by decide +kernel,
    by decide +kernel⟩,
   by beta_reduce; decide +kernel⟩


theorem witness_SlicesLeaveAndReturn :
    ((fun (r : Req) (k : Nat) (s : State) =>
      Asked r O.SLICE_CMD k s.dev ∧ s.dev.rd O.SLICE_STATE k = 1) req 3 (st (dev .run sv))) ∧
    ((fun (r : Req) (k : Nat) (s : State) =>
      Asked r O.SLICE_CMD k s.dev ∧ (s.dev.rd O.SLICE_STATE k = 2 ∨ s.dev.rd O.SLICE_STATE k = 5) ∧ EventRoom s.dev) req 1 (st (dev .run (slice1 2)))) ∧
    ((fun (r : Req) (k : Nat) (s : State) =>
      Asked r O.SLICE_CMD k s.dev ∧ s.dev.rd O.SLICE_STATE k = 3 ∧ s.dev.returnHeld k = false) req 1 (st (dev .run (slice1 3)))) :=
  ⟨⟨by unfold Asked; decide +kernel,
    by decide +kernel⟩,
   ⟨by unfold Asked; decide +kernel,
    by decide +kernel,
    eventRoom (by decide +kernel)⟩,
   ⟨by unfold Asked; decide +kernel,
    by decide +kernel,
    by decide +kernel⟩⟩

theorem witness_SlicesLeaveAndReturn_2 :
    ((fun (k : Nat) (m : Nat) (s : State) =>
      k < s.dev.slices ∧ s.dev.rd O.SLICE_STATE k = 4 ∧ Device.failedLanes k m = []) 1 (2 ^ 16) (st (dev .run (slice1 4)))) ∧
    ((fun (k : Nat) (m : Nat) (s : State) =>
      k < s.dev.slices ∧ s.dev.rd O.SLICE_STATE k = 4 ∧ Device.failedLanes k m ≠ []) 1 (2 ^ 15) (st (dev .run (slice1 4)))) :=
  ⟨⟨by decide +kernel,
    by decide +kernel,
    by decide +kernel⟩,
   ⟨by decide +kernel,
    by decide +kernel,
    by decide +kernel⟩⟩

/-! ### Ports -/

/-- Port 9 (of slice 1's host side) as the rows say, its lane with signal. -/
def port9 (l : List (Nat × Nat × Nat)) : Device := dev .run (sv ++ [(O.PORT_MODE, 9, 3), (O.LANE_SIGNAL, 9, 1)] ++ l)
/-- Port 9 in a recalibration window. -/
def window9 (frozen : Bool) : State :=
  st ((port9 [(O.PORT_RECAL_STATE, 9, 2)]).setPort 9 { PortX.empty with windowAt := 5, frozen := frozen })
/-- Gun entry 772 for the recalibration of port 9. -/
def recalEntry9 (l : List (Nat × Nat × Nat)) : State :=
  st (port9 ([(O.GUN_STATE, 772, 1), (O.GUN_OWNER, 772, 6), (O.GUN_TARGET_ROW, 772, 9), (O.GUN_TIME, 772, 5 * 2 ^ 48),
    (O.PORT_RECAL_STATE, 9, 1)] ++ l))
/-- A MAC control frame with this opcode and these fields. -/
def macControl (op : Nat) (v : Bytes) : Bytes := leBytes 12 0 ++ beBytes 2 0x8808 ++ beBytes 2 op ++ v

theorem witness_LanesAcquireAndTrack :
    ((fun (l : Nat) (s : State) =>
      s.dev.laneSees l = true ∧ s.dev.rd O.LANE_SIGNAL l = 0) 63 (st (dev .run [(O.PORT_MODE, 63, 1)]))) ∧
    ((fun (l : Nat) (s : State) =>
      s.dev.laneSees l = true ∧ s.dev.rd O.LANE_SIGNAL l ≠ 0) 9 (st (port9 [(O.LANE_ADAPT, 9, 2)]))) ∧
    ((fun (l : Nat) (s : State) =>
      s.dev.laneInUse l = true ∧ s.dev.rd O.LANE_SIGNAL l ≠ 0 ∧ s.dev.rd O.LANE_ADAPT l = 1) 9 (st (port9 [(O.LANE_ADAPT, 9, 1)]))) :=
  ⟨⟨by decide +kernel,
    by decide +kernel⟩,
   ⟨by decide +kernel,
    by decide +kernel⟩,
   ⟨by decide +kernel,
    by decide +kernel,
    by decide +kernel⟩⟩

theorem witness_LanesAcquireAndTrack_2 :
    ((fun (l : Nat) (s : State) =>
      s.dev.clockOn = true ∧ s.dev.laneInUse l = true ∧ s.dev.rd O.LANE_SIGNAL l ≠ 0 ∧ s.dev.rd O.LANE_ADAPT l = 1) 9 (st (port9 [(O.LANE_ADAPT, 9, 1)]))) :=
  ⟨by decide +kernel,
    by decide +kernel,
    by decide +kernel,
    by decide +kernel⟩


theorem witness_PortsFollowTheirReceivers :
    ((fun (p : Nat) (rx : RxState) (s : State) =>
      s.dev.laneOk p = true ∧ s.dev.portEnabled p = true ∧ s.dev.mode ≠ .reset ∧ s.dev.mode ≠ .boot ∧ s.dev.recalRuns p = false ∧ EventRoom s.dev) 9 (.up) (st (port9 []))) :=
  ⟨by decide +kernel,
    by decide +kernel,
    by decide +kernel,
    by decide +kernel,
    by decide +kernel,
    eventRoom (by decide +kernel)⟩

theorem witness_PortsFollowTheirReceivers_2 :
    ((fun (p : Nat) (rx : RxState) (s : State) =>
      s.dev.laneOk p = true ∧ s.dev.portEnabled p = true ∧ s.dev.mode ≠ .reset ∧ s.dev.mode ≠ .boot ∧ s.dev.recalRuns p = true) 9 (.noAlign) (window9 true)) :=
  ⟨by decide +kernel,
    by decide +kernel,
    by decide +kernel,
    by decide +kernel,
    by decide +kernel⟩

theorem witness_PortsFollowTheirReceivers_3 :
    ((fun (p : Nat) (n : Nat) (s : State) =>
      s.dev.laneOk p = true ∧ s.dev.portEnabled p = true ∧ s.dev.mode ≠ .reset ∧ s.dev.mode ≠ .boot ∧ (s.dev.rd O.PORT_FEC_UNCORR_LIMIT p = 0 ∨ (if (s.dev.portOf p).fecSecond = s.dev.phcSecond then (s.dev.portOf p).fecCount else 0) + n ≤ s.dev.rd O.PORT_FEC_UNCORR_LIMIT p)) 9 4 (st (port9 [(O.PORT_FEC_UNCORR_LIMIT, 9, 4)]))) :=
  ⟨by decide +kernel,
    by decide +kernel,
    by decide +kernel,
    by decide +kernel,
    by decide +kernel⟩

theorem witness_PortsFollowTheirReceivers_4 :
    ((fun (p : Nat) (n : Nat) (s : State) =>
      s.dev.laneOk p = true ∧ s.dev.portEnabled p = true ∧ s.dev.mode ≠ .reset ∧ s.dev.mode ≠ .boot ∧ s.dev.rd O.PORT_FEC_UNCORR_LIMIT p ≠ 0 ∧ s.dev.rd O.PORT_FEC_UNCORR_LIMIT p < n ∧ s.dev.srcUnseen (portSrc p) = false ∧ (s.dev.portOf p).fecSecond ≠ s.dev.phcSecond) 9 4 (st ((port9 [(O.PORT_FEC_UNCORR_LIMIT, 9, 3)]).setPort 9 { PortX.empty with fecSecond := 1 }))) :=
  ⟨by decide +kernel,
    by decide +kernel,
    by decide +kernel,
    by decide +kernel,
    by decide +kernel,
    by decide +kernel,
    by decide +kernel,
    by decide +kernel⟩


theorem witness_PauseHoldsClasses :
    ((fun (p : Nat) (v : Bytes) (s : State) =>
      s.dev.laneOk p = true ∧ s.dev.portEnabled p = true ∧ s.dev.mode ≠ .reset ∧ s.dev.mode ≠ .boot ∧ (s.dev.portOf p).frozen = false ∧ Device.macField v 12 = 0x8808 ∧ Device.macField v 14 = 0x0101 ∧ s.dev.rd O.PORT_FC p = 2) 9 (macControl 0x101 (beBytes 2 3 ++ beBytes 2 100 ++ leBytes 14 0)) (st (port9 [(O.PORT_FC, 9, 2)]))) :=
  ⟨by decide +kernel,
    by decide +kernel,
    by decide +kernel,
    by decide +kernel,
    by decide +kernel,
    by decide +kernel,
    by decide +kernel,
    by decide +kernel⟩

theorem witness_PauseHoldsClasses_2 :
    ((fun (p : Nat) (v : Bytes) (s : State) =>
      s.dev.laneOk p = true ∧ s.dev.portEnabled p = true ∧ s.dev.mode ≠ .reset ∧ s.dev.mode ≠ .boot ∧ (s.dev.portOf p).frozen = false ∧ Device.macField v 12 = 0x8808 ∧ Device.macField v 14 = 0x0001 ∧ s.dev.rd O.PORT_FC p = 1) 9 (macControl 1 (beBytes 2 0xFFFF)) (st (port9 [(O.PORT_FC, 9, 1)]))) :=
  ⟨by decide +kernel,
    by decide +kernel,
    by decide +kernel,
    by decide +kernel,
    by decide +kernel,
    by decide +kernel,
    by decide +kernel,
    by decide +kernel⟩

theorem witness_PauseHoldsClasses_3 :
    ((fun (p : Nat) (v : Bytes) (s : State) =>
      s.dev.laneOk p = true ∧ s.dev.portEnabled p = true ∧ s.dev.mode ≠ .reset ∧ s.dev.mode ≠ .boot ∧ (s.dev.portOf p).frozen = false ∧ Device.macField v 12 = 0x8808 ∧ (¬ (Device.macField v 14 = 0x0101 ∧ s.dev.rd O.PORT_FC p = 2)) ∧ (¬ (Device.macField v 14 = 0x0001 ∧ s.dev.rd O.PORT_FC p = 1))) 9 (macControl 1 (beBytes 2 0xFFFF)) (st (port9 [(O.PORT_FC, 9, 2)]))) :=
  ⟨by decide +kernel,
    by decide +kernel,
    by decide +kernel,
    by decide +kernel,
    by decide +kernel,
    by decide +kernel,
    by decide +kernel,
    by decide +kernel⟩

theorem witness_PauseHoldsClasses_4 :
    ((fun (p : Nat) (v : Bytes) (s : State) =>
      (s.dev.portOf p).frozen = true) 9 (macControl 1 (beBytes 2 0xFFFF)) (window9 true)) ∧
    ((fun (p : Nat) (c : Nat) (s : State) =>
      s.dev.clockOn = true ∧ natAt (s.dev.portOf p).pausedTo c ≠ 0) 9 7 (st ((port9 []).setPort 9 { PortX.empty with pausedTo := [(7, 50)] }))) ∧
    ((fun (p : Nat) (c : Nat) (s : State) =>
      s.dev.clockOn = true ∧ s.dev.heldClasses p = [c] ∧ s.dev.portSends p = true ∧ s.dev.pipe.staged = [] ∧ (∀ q k, (natAt (s.dev.portOf q).holds k).testBit 2 = false)) 9 2 (st ((port9 [(O.PORT_LINK, 9, 5)]).setPort 9 { PortX.empty with rx := .up, holds := [(2, 1)] }))) :=
  ⟨by beta_reduce; decide +kernel,
   ⟨by decide +kernel,
    by decide +kernel⟩,
   ⟨by decide +kernel,
    by decide +kernel,
    by decide +kernel,
    by decide +kernel,
    never_held (by decide +kernel)⟩⟩


theorem witness_RecalibrationWindows :
    ((fun (r : Req) (p : Nat) (e : Nat) (s : State) =>
      Asked r O.PORT_RECAL_CMD p s.dev ∧ s.dev.portEnabled p = true ∧ s.dev.recalBusy p = false ∧ s.dev.recalOverlap p = false ∧ (s.dev.gunPast (s.dev.rd O.PORT_RECAL_GUN_TIME p) = false ∨ s.dev.rdB O.PORT_RECAL_LATE_OK p = true) ∧ s.dev.gunPool 6 = some e) req 9 772 (st (port9 [(O.PORT_RECAL_LATE_OK, 9, 1)]))) :=
  ⟨by unfold Asked; decide +kernel,
    by decide +kernel,
    by decide +kernel,
    by decide +kernel,
    by decide +kernel,
    by decide +kernel⟩

theorem witness_RecalibrationWindows_2 :
    ((fun (r : Req) (p : Nat) (e : Nat) (s : State) =>
      Asked r O.PORT_RECAL_CMD p s.dev ∧ s.dev.recalArmed p = some e ∧ EventRoom s.dev) req 9 772 (recalEntry9 [])) :=
  ⟨by unfold Asked; decide +kernel,
    by decide +kernel,
    eventRoom (by decide +kernel)⟩

theorem witness_RecalibrationWindows_3 :
    ((fun (e : Nat) (p : Nat) (s : State) =>
      s.dev.clockOn = true ∧ s.dev.gunLive e = true ∧ s.dev.gunFirst e = true ∧ s.dev.rd O.GUN_OWNER e = 6 ∧ s.dev.rd O.GUN_TARGET_ROW e = p ∧ s.dev.rd O.SLICE_STATE (sliceOfPort p) = 1 ∧ EventRoom s.dev) 772 9 (recalEntry9 [])) :=
  ⟨by decide +kernel,
    by decide +kernel,
    by decide +kernel,
    by decide +kernel,
    by decide +kernel,
    by decide +kernel,
    eventRoom (by decide +kernel)⟩

theorem witness_RecalibrationWindows_4 :
    ((fun (p : Nat) (s : State) =>
      s.dev.clockOn = true ∧ s.dev.recalRuns p = true ∧ (s.dev.portOf p).frozen = false) 9 (window9 false)) ∧
    ((fun (p : Nat) (rx : RxState) (s : State) =>
      s.dev.recalRuns p = true ∧ (s.dev.portOf p).frozen = true ∧ rxAligned rx = true ∧ s.dev.portFailed p = false ∧ EventRoom s.dev) 9 (.localFault) (window9 true)) :=
  ⟨⟨by decide +kernel,
    by decide +kernel,
    by decide +kernel⟩,
   ⟨by decide +kernel,
    by decide +kernel,
    by decide +kernel,
    by decide +kernel,
    eventRoom (by decide +kernel)⟩⟩

theorem witness_RecalibrationWindows_5 :
    ((fun (p : Nat) (s : State) =>
      s.dev.clockOn = true ∧ s.dev.recalRuns p = true ∧ s.dev.srcUnseen (portSrc p) = false ∧ s.dev.mode ≠ .reset) 9 (window9 true)) :=
  ⟨by decide +kernel,
    by decide +kernel,
    by decide +kernel,
    by decide +kernel⟩

/-! ### Time -/

def clock (l : List (Nat × Nat × Nat)) : Device := dev .run (sv ++ l)
def withPend (l : List (Nat × PhcChange)) : State := st { clock [] with clk := { (clock []).clk with pend := l } }
def withTime (x : TimeX) (d : Device) : State := st { d with time := x }
def time0 : TimeX := (clock []).time
/-- A TOD_IN message that names second 7. -/
def todMessage : Bytes :=
  let b := leBytes 1 0xA5 ++ leBytes 1 1 ++ leBytes 1 20 ++ leBytes 1 0 ++ leBytes 6 7 ++ leBytes 10 0
  b ++ leBytes 4 (crc32 b)
def ppsIn (sel : Nat) : Device := clock [(O.PPS_IN_ENABLE, 0, 1), (O.TIME_UPSTREAM_SEL, 0, sel)]
def stamp2s : Nat := 65536 * 2000000000
def ppsOut : State := st (clock [(O.PPS_OUT_ENABLE, 0, 1), (O.TOD_OUT_ENABLE, 0, 1)])

theorem witness_PhcCommandsActAtABoundary :
    ((fun (r : Req) (s : State) =>
      Asked r O.PHC_CMD 0 s.dev ∧ s.dev.rd O.TIME_FOLLOW = 0) req (st (clock [(O.PHC_SET_VALUE, 0, 5 * 2 ^ 48)]))) ∧
    ((fun (r : Req) (s : State) =>
      Asked r O.PHC_CMD 0 s.dev ∧ s.dev.rd O.TIME_FOLLOW = 0 ∧ s.dev.stepBad (s.dev.rdI 64 O.PHC_STEP_DELTA) = false) req (st (clock [(O.PHC_STEP_DELTA, 0, 65536000)]))) ∧
    ((fun (r : Req) (s : State) =>
      Asked r O.PHC_CMD 0 s.dev ∧ s.dev.rd O.TIME_FOLLOW = 0 ∧ s.dev.stepBad (s.dev.rdI 64 O.PHC_STEP_DELTA) = true) req (st (clock [(O.PHC_STEP_DELTA, 0, 2 ^ 64 - 65536000)]))) :=
  ⟨⟨by unfold Asked; decide +kernel,
    by decide +kernel⟩,
   ⟨by unfold Asked; decide +kernel,
    by decide +kernel,
    by decide +kernel⟩,
   ⟨by unfold Asked; decide +kernel,
    by decide +kernel,
    by decide +kernel⟩⟩

theorem witness_PhcCommandsActAtABoundary_2 :
    ((fun (r : Req) (s : State) =>
      Asked r O.PHC_CMD 0 s.dev ∧ s.dev.rd O.TIME_FOLLOW = 0) req (st (clock [(O.PHC_SLEW_DELTA, 0, 6553600), (O.PHC_SLEW_PPM, 0, 5)]))) ∧
    ((fun (r : Req) (s : State) =>
      Asked r O.PHC_CMD 0 s.dev ∧ s.dev.rd O.TIME_FOLLOW = 0) req (st (clock []))) ∧
    ((fun (r : Req) (s : State) (i : Instr) =>
      Asked r O.PHC_CMD 0 s.dev ∧ s.dev.rd O.TIME_FOLLOW ≠ 0 ∧ i ∈ [Instr.phcSet r, .phcSlew r, .phcSlewStop r]) req (st (clock [(O.TIME_FOLLOW, 0, 1)])) (.phcSlewStop req)) :=
  ⟨⟨by unfold Asked; decide +kernel,
    by decide +kernel⟩,
   ⟨by unfold Asked; decide +kernel,
    by decide +kernel⟩,
   ⟨by unfold Asked; decide +kernel,
    by decide +kernel,
    by decide +kernel⟩⟩

theorem witness_PhcCommandsActAtABoundary_3 :
    ((fun (r : Req) (v : Int) (s : State) =>
      Passes r (directAddr O.PHC_FREQ_ADJ 0) (leBytes 8 (toTwos 64 v)) s.dev ∧ -(2 ^ 63 : Int) ≤ v ∧ v < 2 ^ 63 ∧ Quiet s.dev) req (-32768000000) (st (clock []))) ∧
    ((fun (c : Nat) (ch : PhcChange) (rest : List (Nat × PhcChange)) (s : State) =>
      s.dev.clockOn = true ∧ s.dev.clk.pend = (c, ch) :: rest ∧ Device.isStep ch = false) 100 (.slew 6553600 5) [] (withPend [(100, .slew 6553600 5)])) :=
  ⟨⟨by unfold Passes; decide +kernel,
    by decide +kernel,
    by decide +kernel,
    quiet (by decide +kernel)⟩,
   ⟨by decide +kernel,
    by decide +kernel,
    by decide +kernel⟩⟩

theorem witness_PhcCommandsActAtABoundary_4 :
    ((fun (c : Nat) (ch : PhcChange) (rest : List (Nat × PhcChange)) (s : State) =>
      s.dev.clockOn = true ∧ s.dev.clk.pend = (c, ch) :: rest ∧ Device.isStep ch = true) 100 (.step 65536) [] (withPend [(100, .step 65536)])) ∧
    ((fun (s : State) =>
      s.dev.clockOn = true ∧ s.dev.clk.slewRem ≠ 0 ∧ s.dev.clk.slewPpm ≠ 0) (st { clock [] with clk := { (clock []).clk with slewRem := 65536, slewPpm := 5 } })) :=
  ⟨⟨by decide +kernel,
    by decide +kernel,
    by decide +kernel⟩,
   ⟨by decide +kernel,
    by decide +kernel,
    by decide +kernel⟩⟩


theorem witness_LeapSecondsAndLatencies :
    ((fun (s : State) =>
      s.dev.clockOn = true ∧ s.dev.clk.pend = [] ∧ s.dev.clk.slewRem = 0 ∧ 0 < s.dev.clk.base ∧ s.dev.leapKind ≠ 0) (st (clock [(O.PHC_LEAP_AT, 0, 2 ^ 48), (O.PHC_LEAP_KIND, 0, 1)]))) ∧
    ((fun (r : Req) (p : Nat) (s : State) =>
      Asked r O.TS_CAL_CMD p s.dev ∧ s.dev.portEnabled p = true) req 9 (st (port9 []))) :=
  ⟨⟨by decide +kernel,
    by decide +kernel,
    by decide +kernel,
    by decide +kernel,
    by decide +kernel⟩,
   ⟨by unfold Asked; decide +kernel,
    by decide +kernel⟩⟩

theorem witness_LeapSecondsAndLatencies_2 :
    ((fun (r : Req) (p : Nat) (s : State) =>
      Asked r O.TS_CAL_CMD p s.dev ∧ s.dev.portEnabled p = false) req 63 (st (clock []))) ∧
    ((fun (p : Nat) (rx : Int) (tx : Int) (s : State) =>
      s.dev.laneOk p = true ∧ s.dev.portEnabled p = true ∧ s.dev.mode ≠ .reset ∧ s.dev.mode ≠ .boot) 9 5 (-7) (st (port9 []))) :=
  ⟨⟨by unfold Asked; decide +kernel,
    by decide +kernel⟩,
   ⟨by decide +kernel,
    by decide +kernel,
    by decide +kernel,
    by decide +kernel⟩⟩

theorem witness_LeapSecondsAndLatencies_3 :
    ((fun (p : Nat) (rx : Int) (tx : Int) (s : State) =>
      s.dev.laneOk p = true ∧ s.dev.portEnabled p = true ∧ s.dev.mode ≠ .reset ∧ s.dev.mode ≠ .boot) 9 5 (-7) (st (port9 []))) ∧
    ((fun (p : Nat) (temp : Int) (s : State) =>
      s.dev.clockOn = true ∧ s.dev.laneOk p = true ∧ -(2 ^ 31 : Int) ≤ temp ∧ temp < 2 ^ 31) 63 (-2 ^ 31) (st (clock []))) :=
  ⟨⟨by decide +kernel,
    by decide +kernel,
    by decide +kernel,
    by decide +kernel⟩,
   ⟨by decide +kernel,
    by decide +kernel,
    by decide +kernel,
    by decide +kernel⟩⟩


theorem witness_TheTimeChainGoesInAndOut :
    ((fun (c : Nat) (s : State) =>
      s.dev.clockOn = true ∧ s.dev.rd O.PPS_OUT_ENABLE ≠ 0 ∧ c = max s.dev.cyc (s.dev.reach (s.dev.ppsInstant (s.dev.ppsSecond s.dev.time.ppsSeen)))) ((ppsOut.dev.reach (ppsOut.dev.ppsInstant (ppsOut.dev.ppsSecond 0)))) ppsOut) ∧
    ((fun (c : Nat) (s : State) =>
      s.dev.clockOn = true ∧ s.dev.time.ppsFall = some c) 40 (withTime { time0 with ppsFall := some 40 } (clock []))) ∧
    ((fun (c : Nat) (s : State) =>
      s.dev.clockOn = true ∧ s.dev.time.todDue = some c ∧ s.dev.rd O.TOD_OUT_ENABLE ≠ 0) 40 (withTime { time0 with todDue := some 40 } (clock [(O.TOD_OUT_ENABLE, 0, 1)]))) :=
  ⟨⟨by decide +kernel,
    by decide +kernel,
    by decide +kernel⟩,
   ⟨by decide +kernel,
    by decide +kernel⟩,
   ⟨by decide +kernel,
    by decide +kernel,
    by decide +kernel⟩⟩

theorem witness_TheTimeChainGoesInAndOut_2 :
    ((fun (c : Nat) (s : State) =>
      s.dev.clockOn = true ∧ s.dev.time.todDue = some c ∧ s.dev.rd O.TOD_OUT_ENABLE = 0) 40 (withTime { time0 with todDue := some 40 } (clock []))) ∧
    ((fun (stamp : Nat) (x : Nat) (s : State) =>
      s.dev.clockOn = true ∧ s.dev.rd O.PPS_IN_ENABLE ≠ 0 ∧ s.dev.time.inAt = some x ∧ max s.dev.cyc (s.dev.reach stamp) < x + msCycles 900) 0 0 (withTime { time0 with inAt := some 0 } (ppsIn 1))) :=
  ⟨⟨by decide +kernel,
    by decide +kernel,
    by decide +kernel⟩,
   ⟨by decide +kernel,
    by decide +kernel,
    by decide +kernel,
    by decide +kernel⟩⟩

theorem witness_TheTimeChainGoesInAndOut_3 :
    ((fun (stamp : Nat) (s : State) =>
      s.dev.clockOn = true ∧ s.dev.rd O.PPS_IN_ENABLE ≠ 0 ∧ (∀ x, s.dev.time.inAt = some x → x + msCycles 900 ≤ max s.dev.cyc (s.dev.reach stamp)) ∧ (s.dev.rd O.TIME_UPSTREAM_SEL = 0 ∨ s.dev.rd O.TIME_UPSTREAM_SEL = 3)) 0 (st (ppsIn 0))) :=
  ⟨by decide +kernel,
    by decide +kernel,
    by decide +kernel,
    by decide +kernel⟩

theorem witness_TheTimeChainGoesInAndOut_4 :
    ((fun (stamp : Nat) (e : Int) (n : Nat) (s : State) (u : State) =>
      s.dev.clockOn = true ∧ s.dev.rd O.PPS_IN_ENABLE ≠ 0 ∧ (∀ x, s.dev.time.inAt = some x → x + msCycles 900 ≤ max s.dev.cyc (s.dev.reach stamp)) ∧ (s.dev.rd O.TIME_UPSTREAM_SEL = 1 ∨ s.dev.rd O.TIME_UPSTREAM_SEL = 2) ∧ u.dev = s.dev.passTo (s.dev.reach stamp) ∧ s.dev.time.selAt + msCycles 10 ≤ u.dev.cyc ∧ e = (stamp : Int) - s.dev.selDelay - u.dev.expected ((stamp : Int) - s.dev.selDelay) ∧ n = (if e.natAbs < 16 * 65536 then s.dev.time.lockRun + 1 else 0)) stamp2s 0 1 (st (ppsIn 1)) (st ((ppsIn 1).passTo ((ppsIn 1).reach stamp2s)))) :=
  ⟨by decide +kernel,
    by decide +kernel,
    by decide +kernel,
    by decide +kernel,
    by decide +kernel,
    by decide +kernel,
    by decide +kernel,
    by decide +kernel⟩

theorem witness_TheTimeChainGoesInAndOut_5 :
    ((fun (stamp : Nat) (e : Int) (n : Nat) (s : State) (u : State) =>
      s.dev.clockOn = true ∧ s.dev.rd O.PPS_IN_ENABLE ≠ 0 ∧ (∀ x, s.dev.time.inAt = some x → x + msCycles 900 ≤ max s.dev.cyc (s.dev.reach stamp)) ∧ (s.dev.rd O.TIME_UPSTREAM_SEL = 1 ∨ s.dev.rd O.TIME_UPSTREAM_SEL = 2) ∧ u.dev = s.dev.passTo (s.dev.reach stamp) ∧ u.dev.cyc < s.dev.time.selAt + msCycles 10 ∧ e = (stamp : Int) - s.dev.selDelay - u.dev.expected ((stamp : Int) - s.dev.selDelay) ∧ n = (if e.natAbs < 16 * 65536 then s.dev.time.lockRun + 1 else 0)) stamp2s 0 1 (withTime { time0 with selAt := msCycles 1999 } (ppsIn 1)) (withTime { time0 with selAt := msCycles 1999 } ((ppsIn 1).passTo ((ppsIn 1).reach stamp2s)))) :=
  ⟨by decide +kernel,
    by decide +kernel,
    by decide +kernel,
    by decide +kernel,
    by decide +kernel,
    by decide +kernel,
    by decide +kernel,
    by decide +kernel⟩

theorem witness_TheTimeChainGoesInAndOut_6 :
    ((fun (v : Bytes) (s : State) =>
      s.dev.clockOn = true ∧ s.dev.rd O.PPS_IN_ENABLE ≠ 0 ∧ s.dev.todGood v = true) todMessage (withTime { time0 with inAt := some 0 } { ppsIn 1 with cyc := msCycles 10 })) ∧
    ((fun (v : Bytes) (s : State) =>
      s.dev.clockOn = true ∧ s.dev.rd O.PPS_IN_ENABLE ≠ 0 ∧ s.dev.todGood v = false) [] (st (ppsIn 1))) ∧
    ((fun (c : Nat) (s : State) =>
      s.dev.clockOn = true ∧ s.dev.time.validAt = some c) 40 (withTime { time0 with validAt := some 40 } (clock []))) :=
  ⟨⟨by decide +kernel,
    by decide +kernel,
    by decide +kernel⟩,
   ⟨by decide +kernel,
    by decide +kernel,
    by decide +kernel⟩,
   ⟨by decide +kernel,
    by decide +kernel⟩⟩

/-! ### Frames -/

/-- Ports 0 and 32 of slice 0 carry frames. -/
def link (m : Mode) (l : List (Nat × Nat × Nat)) : Device :=
  let l := (O.RUNAHEAD_ENABLE, 0, 0) :: l
  ((dev m (sv ++ [(O.PORT_MODE, 0, 3), (O.PORT_MODE, 32, 3), (O.PORT_LINK, 0, 5), (O.PORT_LINK, 32, 5)] ++ l)).setPort 0
    { PortX.empty with rx := .up }).setPort 32 { PortX.empty with rx := .up }
/-- A frame of 60 bytes of this EtherType. -/
def frameOf (ty : Nat) : Bytes := leBytes 12 0 ++ beBytes 2 ty ++ leBytes 46 0
def rx (p ty : Nat) : RxFrame := ⟨p, frameOf ty, true, 0⟩
/-- A line-side frame with a SecTAG of version 1. -/
def badTagged : RxFrame := ⟨32, leBytes 12 0 ++ beBytes 2 0x88E5 ++ [0x80, 0] ++ leBytes 80 0, true, 0⟩
def resultOf (policy : Nat) : Nat := 2 ^ 63 + policy * 2 ^ 61 + 32 * 2 ^ 48 + 5 * 2 ^ 18
/-- A static entry for the key of `x` stands in the table, its bucket cached. -/
def withEntry (key policy : Nat) (d : Device) : Device :=
  let b := (d.candidates key).1
  ((d.setWay (4 * b) ⟨key, resultOf policy, 0⟩).fillBucket b)
def keyed (x : RxFrame) (policy : Nat) : Device := withEntry (keyOfFrame x (link .run [])) policy (link .run [])
def posOf (x : RxFrame) : Nat := 4 * ((link .run []).candidates (keyOfFrame x (link .run []))).1
def withFrames (l : List Frame) (d : Device) : Device := { d with pipe := { d.pipe with frames := l, nextId := 9 } }
/-- A lookup that external memory has granted for it. -/
def granted (r : Option Nat) : LookupRead := ⟨true, r, []⟩
def parked : Frame := { Frame.begin 4 false 0 (frameOf 0x0800) 0 with stage := .parked, parkedAt := some 0, read := some (granted none) }
def parkedBehind : Frame := { parked with id := 3 }
/-- The staging of slice-direction 0 is full. -/
def stagedFull : Device := { link .run [] with pipe := { (link .run []).pipe with staged := [(0, 256, 0)] } }
/-- The context of a frame under SA 12, in slot 7. -/
def ctx0 : GcmCtx := ⟨0, 2, 0, 0, 0, 0, 7, 0, .assigned, false, true, 0, 0⟩
/-- A frame of 150 bytes from port 0 to port 32 in this stage. -/
def sending0 (x : Stage) : Frame :=
  { Frame.begin 4 false 0 (leBytes 150 0) 0 with stage := x, egress := 32, cls := 7, ca := 5, sc := 3, key := 0, taken := 2 }
/-- The same, to be protected under SA 12 with its context held. -/
def protect0 : Frame := { sending0 .started with prot := true, ctx := some ctx0, sa := 12, slot := 7, schedKey := some [] }
def ordered0 : Frame := { protect0 with ordered := some 0, pn := 5 }
/-- A verified frame from the line whose tail is to be compared. -/
def tail0 : Frame :=
  { Frame.begin 4 true 32 (leBytes 150 0) 0 with
    stage := .tail, egress := 0, ca := 5, sc := 3, sa := 12, slot := 7, prot := true, enc := true, applied := 2, schedKey := some [],
    taken := 2, ctx := some { ctx0 with kind := .decrypt, encrypt := false }, icv := ctx0.tag }
def clear0 : Frame := { sending0 .started with ordered := some 0 }
def inFlight (f : Frame) : State := st (withFrames [f] (link .run []))
/-- SA 12 is in force in transmit SC 3 of CA 5, its next PN is `pn`. -/
def numbering (f : Frame) (pn : Nat) : State :=
  st ((withFrames [f] (link .run [(O.CA_ENABLE, 5, 1), (O.SC_CA, 3, 5), (O.SC_DIR, 3, 1), (O.SC_PORT, 3, 32), (O.SCSA_IN_FORCE_AN, 3, 0),
    (O.SA_STATE, 12, 4), (O.SA_SLOT, 12, 7), (O.SCSA_SLOT0_ROW, 3, 12), (O.CA_STOP_HOLD_US, 5, 100), (O.SCSA_EARLY_ON_STOP, 3, 0)])).setCtx 7
    { (link .run []).ctxOf 7 with pn := pn })

theorem witness_ArrivingFramesAreCountedParkedOrQueued :
    ((fun (x : RxFrame) (s : State) =>
      s.dev.receives x.port = false ∧ Followed s.dev) (rx 1 0x0800) (st (link .run []))) ∧
    ((fun (x : RxFrame) (s : State) =>
      s.dev.receives x.port = true ∧ Followed s.dev ∧ frameLen x.port x.data < 64) (⟨0, leBytes 59 0, true, 0⟩) (st (link .run []))) :=
  ⟨⟨by decide +kernel,
    by unfold Followed; decide +kernel⟩,
   ⟨by decide +kernel,
    by unfold Followed; decide +kernel,
    by decide +kernel⟩⟩

theorem witness_ArrivingFramesAreCountedParkedOrQueued_2 :
    ((fun (x : RxFrame) (s : State) =>
      s.dev.receives x.port = true ∧ Followed s.dev ∧ word16 x.data 12 = 0x8808 ∧ 64 ≤ frameLen x.port x.data ∧ frameLen x.port x.data ≤ s.dev.rd O.PORT_MAX_FRAME x.port ∧ x.good = true) (rx 0 0x8808) (st (link .run []))) :=
  ⟨by decide +kernel,
    by unfold Followed; decide +kernel,
    by decide +kernel,
    by decide +kernel,
    by decide +kernel,
    by decide +kernel⟩

theorem witness_ArrivingFramesAreCountedParkedOrQueued_3 :
    ((fun (x : RxFrame) (o : Nat) (s : State) =>
      s.dev.receives x.port = true ∧ Followed s.dev ∧ word16 x.data 12 = 0x8808 ∧ 64 ≤ frameLen x.port x.data ∧ ((s.dev.rd O.PORT_MAX_FRAME x.port < frameLen x.port x.data ∧ o = O.PORT_RX_OVERSIZE) ∨ (frameLen x.port x.data ≤ s.dev.rd O.PORT_MAX_FRAME x.port ∧ x.good = false ∧ o = O.PORT_RX_FCS_ERRORS))) ({ rx 0 0x8808 with good := false }) O.PORT_RX_FCS_ERRORS (st (link .run []))) ∧
    ((fun (x : RxFrame) (s : State) =>
      ComesIn x s.dev ∧ s.dev.admissionClosed = true) (rx 0 0x0800) (st (link .drain []))) :=
  ⟨⟨by decide +kernel,
    by unfold Followed; decide +kernel,
    by decide +kernel,
    by decide +kernel,
    by decide +kernel⟩,
   ⟨by unfold ComesIn Followed; decide +kernel,
    by decide +kernel⟩⟩

theorem witness_ArrivingFramesAreCountedParkedOrQueued_4 :
    ((fun (x : RxFrame) (s : State) =>
      ComesIn x s.dev ∧ s.dev.admissionClosed = false ∧ s.dev.sliceCarries (sliceOfPort x.port) = false) (rx 0 0x0800) (st (link .stage []))) ∧
    ((fun (x : RxFrame) (s : State) =>
      ComesIn x s.dev ∧ s.dev.admissionClosed = false ∧ s.dev.sliceCarries (sliceOfPort x.port) = true ∧ 256 ≤ s.dev.staged (Device.portSd x.port)) (rx 0 0x0800) (st stagedFull)) :=
  ⟨⟨by unfold ComesIn Followed; decide +kernel,
    by decide +kernel,
    by decide +kernel⟩,
   ⟨by unfold ComesIn Followed; decide +kernel,
    by decide +kernel,
    by decide +kernel,
    by decide +kernel⟩⟩

theorem witness_ArrivingFramesAreCountedParkedOrQueued_5 :
    ((fun (x : RxFrame) (o : Nat) (s : State) =>
      Enters x s.dev ∧ frameLen x.port x.data ≤ s.dev.rd O.PORT_MAX_FRAME x.port ∧ takesTag x.port x.data = true ∧ o = (if badTag x.data then O.MP_RX_BAD_TAG else O.MP_RX_BAD_LENGTH) ∧ (badTag x.data = true ∨ badLength x.data = true)) badTagged O.MP_RX_BAD_TAG (st (link .run []))) :=
  ⟨by unfold Enters ComesIn Followed; decide +kernel,
    by decide +kernel,
    by decide +kernel,
    by decide +kernel,
    by decide +kernel⟩

theorem witness_ArrivingFramesAreCountedParkedOrQueued_6 :
    ((fun (x : RxFrame) (s : State) =>
      Enters x s.dev ∧ frameLen x.port x.data ≤ s.dev.rd O.PORT_MAX_FRAME x.port ∧ takesTag x.port x.data = false ∧ etherType x.data = 0x888E ∧ s.dev.rd O.MP_EAPOL x.port = 2 ∧ s.dev.rd O.RUNAHEAD_ENABLE (sliceOfPort x.port) = 0) (rx 0 0x888E) (st (link .run [(O.MP_EAPOL, 0, 2)]))) :=
  ⟨by unfold Enters ComesIn Followed; decide +kernel,
    by decide +kernel,
    by decide +kernel,
    by decide +kernel,
    by decide +kernel,
    by decide +kernel⟩

theorem witness_ArrivingFramesAreCountedParkedOrQueued_7 :
    ((fun (x : RxFrame) (s : State) =>
      Classifies x s.dev ∧ s.dev.probe (keyOfFrame x s.dev) = none ∧ s.dev.roomFull (sliceOfPort x.port) = false ∧ s.dev.mem.waiting = [] ∧ MemSound s.dev ∧ (∀ g ∈ s.dev.pipe.frames, g.id ≠ s.dev.pipe.nextId)) (rx 0 0x0800) (st (link .run []))) :=
  ⟨by unfold Classifies Enters ComesIn Followed; decide +kernel,
    by decide +kernel,
    by decide +kernel,
    by decide +kernel,
    memSound (by decide +kernel) (by decide +kernel) (by decide +kernel) (by decide +kernel) (by decide +kernel) (by decide +kernel),
    by decide +kernel⟩

theorem witness_ArrivingFramesAreCountedParkedOrQueued_8 :
    ((fun (x : RxFrame) (pos : Nat) (r : Nat) (s : State) =>
      Classifies x s.dev ∧ s.dev.probe (keyOfFrame x s.dev) = some (some pos) ∧ r = s.dev.shownResult pos ∧ s.dev.inRoom x.port = [] ∧ s.dev.wrongSlice x.port (resEgress r) = false ∧ resPunt r = false ∧ resPolicy r = 2) (rx 0 0x0800) (posOf (rx 0 0x0800)) (resultOf 2) (st (keyed (rx 0 0x0800) 2))) :=
  ⟨by unfold Classifies Enters ComesIn Followed; decide +kernel,
    by decide +kernel,
    by decide +kernel,
    by decide +kernel,
    by decide +kernel,
    by decide +kernel,
    by decide +kernel⟩

theorem witness_ArrivingFramesAreCountedParkedOrQueued_9 :
    ((fun (x : RxFrame) (pos : Nat) (r : Nat) (q : Nat) (s : State) =>
      Classifies x s.dev ∧ s.dev.probe (keyOfFrame x s.dev) = some (some pos) ∧ r = s.dev.shownResult pos ∧ s.dev.inRoom x.port = [] ∧ s.dev.wrongSlice x.port (resEgress r) = false ∧ resPunt r = false ∧ resPolicy r = 1 ∧ x.good = true ∧ s.dev.rd O.PIPE_MODE x.port = 0 ∧ s.dev.portSpeed (resEgress r) ≤ s.dev.portSpeed x.port ∧ frameLen x.port x.data ≤ s.dev.rd O.PORT_MAX_FRAME (resEgress r) ∧ q = 2 * resCa r + boolNat (isLine x.port) ∧ (∀ g ∈ s.dev.pipe.frames, g.id ≠ s.dev.pipe.nextId ∧ (Device.buffered g = true → CellsIn s.dev g)) ∧ HasRoom s.dev x.port (Device.portSd x.port) q (cellCount x.data.length)) (rx 0 0x0800) (posOf (rx 0 0x0800)) (resultOf 1) 10 (st (keyed (rx 0 0x0800) 1))) :=
  ⟨by unfold Classifies Enters ComesIn Followed; decide +kernel,
    by decide +kernel,
    by decide +kernel,
    by decide +kernel,
    by decide +kernel,
    by decide +kernel,
    by decide +kernel,
    by decide +kernel,
    by decide +kernel,
    by decide +kernel,
    by decide +kernel,
    by decide +kernel,
    by unfold CellsIn; decide +kernel,
    by unfold HasRoom; decide +kernel⟩


theorem witness_TheCallRoomReleasesFrames :
    ((fun (id : Nat) (f : Frame) (x : LookupRead) (s : State) =>
      Waits s.dev id f x ∧ f.spoiled = false ∧ s.dev.pipe.overtake = []) 4 parked (granted none) (st (withFrames [parked] (link .run [])))) :=
  ⟨by unfold Waits Followed; decide +kernel,
    by decide +kernel,
    by decide +kernel⟩

theorem witness_TheCallRoomReleasesFrames_2 :
    ((fun (id : Nat) (f : Frame) (g : Frame) (rest : List Frame) (x : LookupRead) (s : State) =>
      s.dev.frame? id = some f ∧ f.stage = .parked ∧ f.looked = none ∧ f.read = some x ∧ s.dev.cyc ≤ s.dev.roomLimit f ∧ s.dev.inRoom f.port = g :: rest ∧ g.id ≠ id ∧ g.looked = none ∧ Followed s.dev) 4 parked parkedBehind [parked] (granted none) (st (withFrames [parkedBehind, parked] (link .run [])))) :=
  ⟨by decide +kernel,
    by decide +kernel,
    by decide +kernel,
    by decide +kernel,
    by decide +kernel,
    by decide +kernel,
    by decide +kernel,
    by decide +kernel,
    by unfold Followed; decide +kernel⟩

theorem witness_TheCallRoomReleasesFrames_3 :
    ((fun (id : Nat) (f : Frame) (x : LookupRead) (r : Nat) (s : State) =>
      Waits s.dev id f x ∧ f.spoiled = false ∧ s.dev.pipe.overtake = [] ∧ f.secTag = [] ∧ x.ok = true ∧ x.result = some r ∧ s.dev.wrongSlice f.port (resEgress r) = false ∧ resPunt r = false ∧ resPolicy r = 2) 4 ({ parked with read := some (granted (some (resultOf 2))) }) (granted (some (resultOf 2))) (resultOf 2) (st (withFrames [{ parked with read := some (granted (some (resultOf 2))) }] (link .run [])))) :=
  ⟨by unfold Waits Followed; decide +kernel,
    by decide +kernel,
    by decide +kernel,
    by decide +kernel,
    by decide +kernel,
    by decide +kernel,
    by decide +kernel,
    by decide +kernel,
    by decide +kernel⟩

theorem witness_TheCallRoomReleasesFrames_4 :
    ((fun (id : Nat) (f : Frame) (x : LookupRead) (r : Nat) (i : Nat) (s : State) =>
      Waits s.dev id f x ∧ f.spoiled = false ∧ f.secTag = [] ∧ x.ok = true ∧ x.result = some r ∧ resPunt r = false ∧ resPolicy r = 1 ∧ (f.port, .clear (2 * resCa r + boolNat f.decrypt), i) ∈ s.dev.pipe.overtake ∧ id < i) 4 ({ parked with read := some (granted (some (resultOf 1))) }) (granted (some (resultOf 1))) (resultOf 1) 5 (st { withFrames [{ parked with read := some (granted (some (resultOf 1))) }] (link .run []) with pipe := { (withFrames [{ parked with read := some (granted (some (resultOf 1))) }] (link .run [])).pipe with overtake := [(0, .clear 10, 5)] } })) :=
  ⟨by unfold Waits Followed; decide +kernel,
    by decide +kernel,
    by decide +kernel,
    by decide +kernel,
    by decide +kernel,
    by decide +kernel,
    by decide +kernel,
    by decide +kernel,
    by decide +kernel⟩

theorem witness_TheCallRoomReleasesFrames_5 :
    ((fun (id : Nat) (f : Frame) (x : LookupRead) (s : State) =>
      Waits s.dev id f x ∧ f.spoiled = true) 4 ({ parked with spoiled := true }) (granted none) (st (withFrames [{ parked with spoiled := true }] (link .run [])))) ∧
    ((fun (id : Nat) (f : Frame) (s : State) =>
      s.dev.frame? id = some f ∧ f.stage = .parked ∧ f.read = none ∧ Followed s.dev) 4 ({ parked with read := none }) (st (withFrames [{ parked with read := none }] (link .run [])))) :=
  ⟨⟨by unfold Waits Followed; decide +kernel,
    by decide +kernel⟩,
   ⟨by decide +kernel,
    by decide +kernel,
    by decide +kernel,
    by unfold Followed; decide +kernel⟩⟩

theorem witness_TheCallRoomReleasesFrames_6 :
    ((fun (id : Nat) (f : Frame) (s : State) =>
      s.dev.clockOn = true ∧ s.dev.frame? id = some f ∧ f.stage = .parked ∧ f.looked = none ∧ s.dev.inRoom f.port = [f] ∧ Followed s.dev) 4 parked (st (withFrames [parked] (link .run [])))) :=
  ⟨by decide +kernel,
    by decide +kernel,
    by decide +kernel,
    by decide +kernel,
    by decide +kernel,
    by unfold Followed; decide +kernel⟩


theorem witness_FramesAreStartedNumberedAndSent :
    ((fun (sd : Nat) (f : Frame) (s : State) =>
      WaitsAlone sd f s.dev ∧ f.ring ≠ none ∧ s.dev.queues = [] ∧ (∀ n, (s.dev.nodeOf n).inject = if n = f.node then [f.id] else [])) 0 ({ sending0 .queued with ring := some 3 }) (st { withFrames [{ sending0 .queued with ring := some 3 }] (link .run []) with nodes := [(263, { NodeX.empty with inject := [4] })] })) :=
  ⟨by unfold WaitsAlone; decide +kernel,
    by decide +kernel,
    by decide +kernel,
    only_node (m := 263) rfl (by decide +kernel)⟩

theorem witness_FramesAreStartedNumberedAndSent_2 :
    ((fun (sd : Nat) (f : Frame) (x : QueueX) (s : State) =>
      WaitsAlone sd f s.dev ∧ f.ring = none ∧ s.dev.queues = [(f.q, x)] ∧ x.frames = [f.id] ∧ x.active = false ∧ s.dev.nodes = [] ∧ s.dev.rd O.PACER_PIR f.q = 0 ∧ s.dev.rd O.PACER_CIR f.q = 0) 0 (sending0 .queued) ({ QueueX.idle 0 with frames := [4] }) (st { withFrames [sending0 .queued] (link .run []) with queues := [(10, { QueueX.idle 0 with frames := [4] })] })) :=
  ⟨by unfold WaitsAlone; decide +kernel,
    by decide +kernel,
    by decide +kernel,
    by decide +kernel,
    by decide +kernel,
    by decide +kernel,
    by decide +kernel,
    by decide +kernel⟩

theorem witness_FramesAreStartedNumberedAndSent_3 :
    ((fun (id : Nat) (f : Frame) (s : State) =>
      s.dev.frame? id = some f ∧ f.stage = .started ∧ f.decrypt = false ∧ f.ordered = none ∧ s.dev.nextToOrder f.sd = some f ∧ f.prot = false ∧ f.ring = none ∧ Followed s.dev) 4 (sending0 .started) (inFlight (sending0 .started))) :=
  ⟨by decide +kernel,
    by decide +kernel,
    by decide +kernel,
    by decide +kernel,
    by decide +kernel,
    by decide +kernel,
    by decide +kernel,
    by unfold Followed; decide +kernel⟩

theorem witness_FramesAreStartedNumberedAndSent_4 :
    ((fun (id : Nat) (f : Frame) (sa : Nat) (pn : Nat) (g : Frame) (s : State) =>
      Orders s.dev id f ∧ Numbers s.dev f sa pn ∧ pn < s.dev.pnMax (s.dev.caOf f.sc) ∧ pn ≠ s.dev.pnThreshold (s.dev.caOf f.sc) ∧ g = s.dev.withPn f pn) 4 protect0 12 1 ((numbering protect0 1).dev.withPn protect0 1) (numbering protect0 1)) :=
  ⟨by unfold Orders Followed; decide +kernel,
    by unfold Numbers; decide +kernel,
    by decide +kernel,
    by decide +kernel,
    by decide +kernel⟩

theorem witness_FramesAreStartedNumberedAndSent_5 :
    ((fun (id : Nat) (f : Frame) (sa : Nat) (pn : Nat) (g : Frame) (s : State) =>
      Orders s.dev id f ∧ Numbers s.dev f sa pn ∧ pn = s.dev.pnMax (s.dev.caOf f.sc) ∧ s.dev.rd O.SCSA_EARLY_ON_STOP f.sc = 0 ∧ s.dev.rd O.CA_STOP_HOLD_US (s.dev.caOf f.sc) ≠ 0 ∧ EventRoom s.dev ∧ g = s.dev.withPn f pn) 4 protect0 12 (2 ^ 64 - 1) ((numbering protect0 (2 ^ 64 - 1)).dev.withPn protect0 (2 ^ 64 - 1)) (numbering protect0 (2 ^ 64 - 1))) :=
  ⟨by unfold Orders Followed; decide +kernel,
    by unfold Numbers; decide +kernel,
    by decide +kernel,
    by decide +kernel,
    by decide +kernel,
    eventRoom (by decide +kernel),
    by decide +kernel⟩

theorem witness_FramesAreStartedNumberedAndSent_6 :
    ((fun (id : Nat) (f : Frame) (sa : Nat) (s : State) =>
      Orders s.dev id f ∧ s.dev.rdB O.CA_ENABLE (s.dev.caOf f.sc) = true ∧ s.dev.saInForce f.sc = some sa ∧ s.dev.pnMax (s.dev.caOf f.sc) < s.dev.nextPn sa) 4 protect0 12 (numbering protect0 (2 ^ 64))) ∧
    ((fun (id : Nat) (f : Frame) (s : State) =>
      Orders s.dev id f ∧ (s.dev.rdB O.CA_ENABLE (s.dev.caOf f.sc) = false ∨ s.dev.saInForce f.sc = none)) 4 protect0 (inFlight protect0)) :=
  ⟨⟨by unfold Orders Followed; decide +kernel,
    by decide +kernel,
    by decide +kernel,
    by decide +kernel⟩,
   ⟨by unfold Orders Followed; decide +kernel,
    by decide +kernel⟩⟩

theorem witness_FramesAreStartedNumberedAndSent_7 :
    ((fun (sc : Nat) (s : State) =>
      s.dev.clockOn = true ∧ s.dev.scHolding sc = true ∧ s.dev.gunFind 2 sc = none ∧ EventRoom s.dev ∧ Followed s.dev) 3 (st (link .run [(O.SC_STATUS, 3, 8)]))) :=
  ⟨by decide +kernel,
    by decide +kernel,
    by decide +kernel,
    eventRoom (by decide +kernel),
    by unfold Followed; decide +kernel⟩

theorem witness_FramesAreStartedNumberedAndSent_8 :
    ((fun (id : Nat) (f : Frame) (k : Nat) (s : State) =>
      Comes s.dev id k f ∧ f.prot = true ∧ s.dev.cellReady f = false ∧ f.stalled ≠ k + 1) 4 ordered0 0 (inFlight ordered0)) ∧
    ((fun (id : Nat) (f : Frame) (k : Nat) (s : State) =>
      Comes s.dev id k f ∧ s.dev.cellReady f = true ∧ (¬ (k = 0 ∧ f.bad = true ∧ f.ends ≤ s.dev.cyc))) 4 ({ clear0 with stage := .sending, applied := 1, sent := 1 }) 1 (inFlight { clear0 with stage := .sending, applied := 1, sent := 1 })) :=
  ⟨⟨by unfold Comes CellsIn Followed; decide +kernel,
    by decide +kernel,
    by decide +kernel,
    by decide +kernel⟩,
   ⟨by unfold Comes CellsIn Followed; decide +kernel,
    by decide +kernel,
    by decide +kernel⟩⟩

theorem witness_FramesAreStartedNumberedAndSent_9 :
    ((fun (id : Nat) (f : Frame) (s : State) =>
      Comes s.dev id 0 f ∧ s.dev.cellReady f = true ∧ f.bad = true ∧ f.ends ≤ s.dev.cyc) 4 ({ clear0 with bad := true }) (inFlight { clear0 with bad := true })) :=
  ⟨by unfold Comes CellsIn Followed; decide +kernel,
    by decide +kernel,
    by decide +kernel,
    by decide +kernel⟩

theorem witness_FramesAreStartedNumberedAndSent_10 :
    ((fun (id : Nat) (f : Frame) (o : Nat) (s : State) =>
      s.dev.frame? id = some f ∧ f.stage = .tail ∧ f.poison = false ∧ Followed s.dev ∧ ((f.icvGood = false ∧ o = O.SA_STAT_NOT_VALID) ∨ (f.icvGood = true ∧ s.dev.commitLate f = true ∧ o = O.SA_STAT_COMMIT_LATE))) 4 ({ tail0 with icv := [] }) O.SA_STAT_NOT_VALID (inFlight { tail0 with icv := [] })) :=
  ⟨by decide +kernel,
    by decide +kernel,
    by decide +kernel,
    by unfold Followed; decide +kernel,
    by decide +kernel⟩

theorem witness_FramesAreStartedNumberedAndSent_11 :
    ((fun (id : Nat) (f : Frame) (s : State) =>
      s.dev.frame? id = some f ∧ f.stage = .tail ∧ f.poison = false ∧ f.icvGood = true ∧ s.dev.commitLate f = false ∧ Followed s.dev) 4 tail0 (inFlight tail0)) :=
  ⟨by decide +kernel,
    by decide +kernel,
    by decide +kernel,
    by decide +kernel,
    by decide +kernel,
    by unfold Followed; decide +kernel⟩

theorem witness_FramesAreStartedNumberedAndSent_12 :
    ((fun (id : Nat) (f : Frame) (c : Nat) (free : Bool) (s : State) =>
      s.dev.clockOn = true ∧ s.dev.frame? id = some f ∧ f.depart = some c ∧ f.tcDone = false ∧ Followed s.dev) 4 ({ sending0 .sending with depart := some 40, sent := 1 }) 40 true (inFlight { sending0 .sending with depart := some 40, sent := 1 })) :=
  ⟨by decide +kernel,
    by decide +kernel,
    by decide +kernel,
    by decide +kernel,
    by unfold Followed; decide +kernel⟩

theorem witness_FramesAreStartedNumberedAndSent_13 :
    ((fun (id : Nat) (f : Frame) (g : Frame) (s : State) =>
      s.dev.frame? id = some f ∧ s.dev.mayEnd f = true ∧ g = (s.dev.leaving f).1 ∧ Followed s.dev) 4 ({ sending0 .sending with applied := 2, sent := 2 }) ({ sending0 .sending with applied := 2, sent := 2 }) (inFlight { sending0 .sending with applied := 2, sent := 2 })) :=
  ⟨by decide +kernel,
    by decide +kernel,
    by decide +kernel,
    by unfold Followed; decide +kernel⟩

/-! ### Host -/

def injectRing : Device := link .run (ring3 2 63 2)
/-- A descriptor that injects 60 bytes in the clear to port 0; and one whose operation is unknown. -/
def inject0 : Descriptor := ⟨64, 60, leBytes 16 0, false⟩
def injectBad : Descriptor := ⟨64, 60, leBytes 16 (2 ^ 17), false⟩
def injected (x : Frame) : Frame := { x with ring := some 3 }
def swapArmed (l : List (Nat × Nat × Nat)) : State :=
  st (dev .run (sv ++ [(O.GUN_STATE, 772, 1), (O.GUN_OWNER, 772, 4), (O.GUN_TARGET_ROW, 772, 3), (O.GUN_TIME, 772, 5 * 2 ^ 48),
    (O.PARSER_SHADOW_STATE, 3, 2)] ++ l))
/-- Frame 4 is on its lane, and of ring 3 these descriptors have been taken. -/
def injecting (x : Frame) (l : List TakenDesc) : State := st ((withFrames [injected x] injectRing).setTaken 3 l)

theorem witness_PuntAndInjectReachTheHost :
    ((fun (id : Nat) (f : Frame) (n : Nat) (x : Descriptor) (kind : Bytes) (s : State) =>
      s.dev.frame? id = some f ∧ f.stage = .punt ∧ s.dev.puntFirst f = true ∧ s.dev.cyc ≤ Device.puntLimit f ∧ s.dev.puntRing f.reason = some n ∧ s.dev.ringReady n = true ∧ (s.dev.dmaOf n).taken = [] ∧ s.dev.descCheck n x = 0 ∧ x.pcieError = false ∧ kind = Device.puntKind f (decide (x.length < f.data.length))) 4 puntFrame 3 (descriptor 64 256) (Device.puntKind puntFrame false) punted) :=
  ⟨by decide +kernel,
    by decide +kernel,
    by decide +kernel,
    by decide +kernel,
    by decide +kernel,
    by decide +kernel,
    by decide +kernel,
    by decide +kernel,
    by decide +kernel,
    by decide +kernel⟩

theorem witness_PuntAndInjectReachTheHost_2 :
    ((fun (id : Nat) (f : Frame) (n : Nat) (x : Descriptor) (s : State) =>
      s.dev.frame? id = some f ∧ f.stage = .punt ∧ s.dev.puntFirst f = true ∧ s.dev.cyc ≤ Device.puntLimit f ∧ s.dev.puntRing f.reason = some n ∧ s.dev.ringReady n = true ∧ (s.dev.dmaOf n).taken = [] ∧ s.dev.descCheck n x ≠ 0) 4 puntFrame 3 (descriptor 64 257) punted) :=
  ⟨by decide +kernel,
    by decide +kernel,
    by decide +kernel,
    by decide +kernel,
    by decide +kernel,
    by decide +kernel,
    by decide +kernel,
    by decide +kernel⟩

theorem witness_PuntAndInjectReachTheHost_3 :
    ((fun (id : Nat) (f : Frame) (s : State) =>
      s.dev.clockOn = true ∧ s.dev.frame? id = some f ∧ f.stage = .punt) 4 puntFrame punted) :=
  ⟨by decide +kernel,
    by decide +kernel,
    by decide +kernel⟩

theorem witness_PuntAndInjectReachTheHost_4 :
    ((fun (n : Nat) (x : Descriptor) (data : Bytes) (d : Bytes) (s : State) =>
      s.dev.mode ≠ .reset ∧ n < 64 ∧ s.dev.rd O.RING_KIND n = 2 ∧ s.dev.ringReady n = true ∧ s.dev.descCheck n x = 0 ∧ s.dev.puntRoom x.length = true ∧ x.pcieError = false ∧ d = fit x.length data ∧ s.dev.injCheck x d = 0 ∧ Device.injOp x = 0) 3 inject0 (leBytes 60 7) (leBytes 60 7) (st injectRing)) :=
  ⟨by decide +kernel,
    by decide +kernel,
    by decide +kernel,
    by decide +kernel,
    by decide +kernel,
    by decide +kernel,
    by decide +kernel,
    by decide +kernel,
    by decide +kernel,
    by decide +kernel⟩

theorem witness_PuntAndInjectReachTheHost_5 :
    ((fun (n : Nat) (x : Descriptor) (data : Bytes) (c : Nat) (s : State) =>
      s.dev.mode ≠ .reset ∧ n < 64 ∧ s.dev.rd O.RING_KIND n = 2 ∧ s.dev.ringReady n = true ∧ s.dev.descCheck n x = 0 ∧ s.dev.puntRoom x.length = true ∧ x.pcieError = false ∧ c = s.dev.injCheck x (fit x.length data) ∧ c ≠ 0 ∧ (s.dev.dmaOf n).taken = []) 3 injectBad (leBytes 60 7) 2 (st injectRing)) :=
  ⟨by decide +kernel,
    by decide +kernel,
    by decide +kernel,
    by decide +kernel,
    by decide +kernel,
    by decide +kernel,
    by decide +kernel,
    by decide +kernel,
    by decide +kernel,
    by decide +kernel⟩

theorem witness_PuntAndInjectReachTheHost_6 :
    ((fun (id : Nat) (stamp : Nat) (f : Frame) (n : Nat) (s : State) =>
      s.dev.frame? id = some f ∧ f.done = false ∧ f.ring = some n ∧ Device.onLane f = true ∧ (s.dev.dmaOf n).taken = [⟨id, none⟩] ∧ (s.dev.dmaOf n).stopping = false) 4 50 (injected { sending0 .sending with sent := 1 }) 3 (injecting { sending0 .sending with sent := 1 } [⟨4, none⟩])) :=
  ⟨by decide +kernel,
    by decide +kernel,
    by decide +kernel,
    by decide +kernel,
    by decide +kernel,
    by decide +kernel⟩

theorem witness_PuntAndInjectReachTheHost_7 :
    ((fun (id : Nat) (stamp : Nat) (f : Frame) (n : Nat) (a : Nat) (l : List TakenDesc) (s : State) =>
      s.dev.frame? id = some f ∧ f.done = false ∧ f.ring = some n ∧ Device.onLane f = true ∧ (s.dev.dmaOf n).taken = ⟨a, none⟩ :: l ∧ a ≠ id) 4 50 (injected { sending0 .sending with sent := 1 }) 3 2 ([⟨4, none⟩]) (injecting { sending0 .sending with sent := 1 } [⟨2, none⟩, ⟨4, none⟩])) :=
  ⟨by decide +kernel,
    by decide +kernel,
    by decide +kernel,
    by decide +kernel,
    by decide +kernel,
    by decide +kernel⟩

theorem witness_PuntAndInjectReachTheHost_8 :
    ((fun (id : Nat) (f : Frame) (n : Nat) (s : State) =>
      s.dev.clockOn = true ∧ s.dev.frame? id = some f ∧ f.done = false ∧ f.ring = some n ∧ Device.onLane f = false ∧ (s.dev.dmaOf n).taken = [⟨id, none⟩]) 4 (injected (sending0 .queued)) 3 (injecting (sending0 .queued) [⟨4, none⟩])) :=
  ⟨by decide +kernel,
    by decide +kernel,
    by decide +kernel,
    by decide +kernel,
    by decide +kernel,
    by decide +kernel⟩


theorem witness_ParserProgramsLoadArmAndSwap :
    ((fun (r : Req) (k : Nat) (x : Nat) (i : Instr) (s : State) =>
      Asked r O.PARSER_CMD k s.dev ∧ (x = 0 ∧ i = Instr.parserLoadA r k ∨ x = 1 ∧ i = Instr.parserLoadB r k) ∧ s.dev.rd O.PARSER_SHADOW_STATE k ≠ 2) req 3 1 (.parserLoadB req 3) (st (dev .run sv))) :=
  ⟨by unfold Asked; decide +kernel,
    by decide +kernel,
    by decide +kernel⟩

theorem witness_ParserProgramsLoadArmAndSwap_2 :
    ((fun (r : Req) (k : Nat) (e : Nat) (s : State) =>
      Asked r O.PARSER_CMD k s.dev ∧ s.dev.rd O.PARSER_SHADOW_STATE k ≠ 0 ∧ (s.dev.gunPast (s.dev.rd O.PARSER_SWAP_GUN_TIME k) = false ∨ s.dev.rdB O.PARSER_SWAP_LATE_OK k = true) ∧ s.dev.gunFind 4 k = none ∧ s.dev.gunPool 4 = some e ∧ EventRoom s.dev) req 3 772 (st (dev .run (sv ++ [(O.PARSER_SHADOW_STATE, 3, 1), (O.PARSER_SWAP_LATE_OK, 3, 1)])))) :=
  ⟨by unfold Asked; decide +kernel,
    by decide +kernel,
    by decide +kernel,
    by decide +kernel,
    by decide +kernel,
    eventRoom (by decide +kernel)⟩

theorem witness_ParserProgramsLoadArmAndSwap_3 :
    ((fun (r : Req) (k : Nat) (e : Nat) (s : State) =>
      Asked r O.PARSER_CMD k s.dev ∧ s.dev.gunFind 4 k = some e ∧ s.dev.rd O.GUN_STATE e = 1 ∧ EventRoom s.dev) req 3 772 (swapArmed [])) :=
  ⟨by unfold Asked; decide +kernel,
    by decide +kernel,
    by decide +kernel,
    eventRoom (by decide +kernel)⟩

theorem witness_ParserProgramsLoadArmAndSwap_4 :
    ((fun (e : Nat) (k : Nat) (s : State) =>
      s.dev.clockOn = true ∧ s.dev.gunLive e = true ∧ s.dev.gunFirst e = true ∧ s.dev.rd O.GUN_OWNER e = 4 ∧ s.dev.rd O.GUN_TARGET_ROW e = k ∧ s.dev.rd O.SLICE_STATE k = 1 ∧ s.dev.rd O.PARSER_SHADOW_STATE k = 2 ∧ EventRoom s.dev) 772 3 (swapArmed [])) :=
  ⟨by decide +kernel,
    by decide +kernel,
    by decide +kernel,
    by decide +kernel,
    by decide +kernel,
    by decide +kernel,
    by decide +kernel,
    eventRoom (by decide +kernel)⟩

/-! ### Banks -/

def demand0 : Frame := { ordered0 with enc := true }
def held0 (issued : Bool) : Held := ⟨2, 4, 0, false, issued⟩
/-- Bank `b` as given; the DRBG is ready. -/
def withBank (b : Nat) (x : BankX) (d : Device) : State := st (d.setBank b x)
/-- Bank 0 has three strikes against core `c`. -/
def struck (c : Nat) (l : List (Nat × Nat × Nat)) : State :=
  withBank 0 { BankX.empty with strikes := [(c, 30), (c, 20), (c, 10)] } (link .run ((O.BANK_STRIKE_LIMIT, 0, 3) :: l))
/-- Slot 7 is being loaded into bank 0; it belongs to SA 12, and its check code agrees. -/
def loading : State :=
  let d := link .run [(O.SCSA_SLOT1_ROW, 3, 12), (O.SA_STATE, 12, 2), (O.SA_SLOT, 12, 7)]
  let x := { SaCtx.empty with sak := leBytes 32 9, attr := 1 }
  withBank 0 { BankX.empty with loads := [(7, 10)] } (d.setCtx 7 { x with check := d.ctxCheck 7 x })
/-- A takeover of core 2 at cycle 40. -/
def taking (left : Nat) : Takeover := ⟨2, 40, 3, [], left⟩
/-- The same, with a frame that waits for it. -/
def loadingFor (f : Frame) : State := st (withFrames [f] loading.dev)
def late0 : Frame := { tail0 with stage := .late, wait := some 7, decrypt := false, schedKey := none }
/-- Bank 0 in a slice that has no audit of its umpire yet. -/
def holding (h : Held) : State := withBank 0 { BankX.empty with held := [h] } (link .run [])

theorem witness_BanksServeAuditAndRetire :
    ((fun (b : Nat) (x : Takeover) (s : State) =>
      s.dev.clockOn = true ∧ b < 2 * s.dev.slices ∧ s.dev.sliceCarries (b / 2) = true ∧ s.dev.rd O.BANK_STATE b ≠ 3 ∧ s.dev.nextTurn b ≤ s.dev.cyc ∧ s.dev.katsDue b = [] ∧ s.dev.redoLeft b = some x) 0 (taking 3) (withBank 0 { BankX.empty with takeover := some (taking 3) } (link .run []))) :=
  ⟨by decide +kernel,
    by decide +kernel,
    by decide +kernel,
    by decide +kernel,
    by decide +kernel,
    by decide +kernel,
    by decide +kernel⟩

theorem witness_BanksServeAuditAndRetire_2 :
    ((fun (b : Nat) (h : Held) (s : State) =>
      BankFree b s.dev ∧ s.dev.retrialWaits b false = some h) 0 (held0 false) (holding (held0 false))) ∧
    ((fun (b : Nat) (h : Held) (s : State) =>
      BankFree b s.dev ∧ s.dev.retrialWaits b false = some h ∧ s.dev.audits b = true ∧ s.dev.sampledCore b = (h.core + 1) % 8) 0 ({ held0 false with core := ((link .run []).sampledCore 0 + 7) % 8 }) (holding { held0 false with core := ((link .run []).sampledCore 0 + 7) % 8 })) :=
  ⟨⟨by unfold BankFree; decide +kernel,
    by decide +kernel⟩,
   ⟨by unfold BankFree; decide +kernel,
    rfl,
    by decide +kernel,
    core_before (e := link .run []) (by decide +kernel) (by decide +kernel) (by decide +kernel)⟩⟩

theorem witness_BanksServeAuditAndRetire_3 :
    ((fun (b : Nat) (m : Bool) (f : Frame) (s : State) =>
      BankFree b s.dev ∧ s.dev.retrialWaits b false = none ∧ s.dev.demandJob b = some f ∧ (m = false ∨ s.dev.audits b = false)) 0 false demand0 (inFlight demand0)) ∧
    ((fun (b : Nat) (f : Frame) (s : State) =>
      BankFree b s.dev ∧ s.dev.retrialWaits b false = none ∧ s.dev.demandJob b = some f ∧ s.dev.audits b = true) 0 demand0 (inFlight demand0)) :=
  ⟨⟨by unfold BankFree; decide +kernel,
    by decide +kernel,
    by decide +kernel,
    by decide +kernel⟩,
   ⟨by unfold BankFree; decide +kernel,
    by decide +kernel,
    by decide +kernel,
    by decide +kernel⟩⟩

theorem witness_BanksServeAuditAndRetire_4 :
    ((fun (b : Nat) (h : Held) (o : RetrialOutcome) (c : Nat) (s : State) =>
      (s.dev.bankOf b).held.find? (·.issued) = some h ∧ (o = .umpire ∧ c = h.core ∨ o = .core ∧ c = 8) ∧ Uncounted (bankSrc b) s.dev ∧ EventRoom s.dev) 0 (held0 true) (.core) 8 (holding (held0 true))) ∧
    ((fun (b : Nat) (h : Held) (s : State) =>
      (s.dev.bankOf b).held.find? (·.issued) = some h) 0 (held0 true) (holding (held0 true))) :=
  ⟨⟨by decide +kernel,
    by decide +kernel,
    by unfold Uncounted; decide +kernel,
    eventRoom (by decide +kernel)⟩,
   by beta_reduce; decide +kernel⟩

theorem witness_BanksServeAuditAndRetire_5 :
    ((fun (b : Nat) (core : Nat) (s : State) =>
      b < 2 * s.dev.slices ∧ core < 8 ∧ s.dev.strikeDue b core = true ∧ (∀ k, k < 9 → s.dev.dueBefore b core k = false) ∧ s.dev.audits b = true) 0 7 (struck 7 [])) :=
  ⟨by decide +kernel,
    by decide +kernel,
    by decide +kernel,
    by decide +kernel,
    by decide +kernel⟩

theorem witness_BanksServeAuditAndRetire_6 :
    ((fun (b : Nat) (core : Nat) (y : Nat) (s : State) =>
      b < 2 * s.dev.slices ∧ core ≤ 8 ∧ s.dev.strikeDue b core = true ∧ (∀ k, k < 9 → s.dev.dueBefore b core k = false) ∧ (core = 8 ∧ s.dev.audits b = true ∧ y = 1 ∨ s.dev.audits b = false ∧ y = 3)) 0 8 1 (struck 8 [])) ∧
    ((fun (b : Nat) (x : Takeover) (s : State) =>
      s.dev.clockOn = true ∧ (s.dev.bankOf b).takeover = some x ∧ s.dev.rd O.BANK_STATE b ≠ 3) 0 (taking 0) (withBank 0 { BankX.empty with takeover := some (taking 0) } (link .run []))) :=
  ⟨⟨by decide +kernel,
    by decide +kernel,
    by decide +kernel,
    by decide +kernel,
    by decide +kernel⟩,
   ⟨by decide +kernel,
    by decide +kernel,
    by decide +kernel⟩⟩

theorem witness_BanksServeAuditAndRetire_7 :
    ((fun (b : Nat) (core : Nat) (c : Nat) (s : State) =>
      MayTest b core s.dev ∧ (s.dev.mode = .boot ∨ s.dev.rd O.SLICE_STATE (b / 2) = 4) ∧ c = max s.dev.cyc (s.dev.nextTurn b)) 7 8 0 (st { link .run [] with mode := .boot })) :=
  ⟨by unfold MayTest; decide +kernel,
    by decide +kernel,
    by decide +kernel⟩

theorem witness_BanksServeAuditAndRetire_8 :
    ((fun (b : Nat) (core : Nat) (c : Nat) (s : State) =>
      MayTest b core s.dev ∧ s.dev.mode ≠ .boot ∧ s.dev.rd O.SLICE_STATE (b / 2) ≠ 4 ∧ s.dev.demandJob b = none ∧ s.dev.retrialWaits b false = none ∧ c = max (max s.dev.cyc (s.dev.katDue b core)) (s.dev.nextTurn b)) 7 8 ((link .run []).katDue 7 8) (st (link .run []))) :=
  ⟨by unfold MayTest; decide +kernel,
    by decide +kernel,
    by decide +kernel,
    by decide +kernel,
    by decide +kernel,
    by decide +kernel⟩

theorem witness_BanksServeAuditAndRetire_9 :
    ((fun (b : Nat) (core : Nat) (s : State) =>
      MayTest b core s.dev ∧ s.dev.rd O.SLICE_STATE (b / 2) ≠ 4 ∧ s.dev.demandJob b = none ∧ s.dev.retrialWaits b false = none) 0 8 (st (link .run []))) ∧
    ((fun (b : Nat) (s : State) =>
      s.dev.clockOn = true ∧ b < 2 * s.dev.slices ∧ s.dev.drbgReady = true) 7 (st (link .run []))) :=
  ⟨⟨by unfold MayTest; decide +kernel,
    by decide +kernel,
    by decide +kernel,
    by decide +kernel⟩,
   ⟨by decide +kernel,
    by decide +kernel,
    by decide +kernel⟩⟩

theorem witness_BanksServeAuditAndRetire_10 :
    ((fun (r : Req) (b : Nat) (core : Nat) (s : State) =>
      Asked r O.BANK_CMD b s.dev ∧ core < 8 ∧ (s.dev.rd O.BANK_RETIRED_MASK b).testBit core = false ∧ s.dev.audits b = true) req 0 7 (st (link .run []))) ∧
    ((fun (r : Req) (b : Nat) (y : Nat) (s : State) =>
      Asked r O.BANK_CMD b s.dev ∧ (s.dev.rd O.BANK_RETIRED_MASK b).testBit 8 = false ∧ y = (if s.dev.audits b then 1 else 3)) req 7 1 (st (link .run []))) :=
  ⟨⟨by unfold Asked; decide +kernel,
    by decide +kernel,
    by decide +kernel,
    by decide +kernel⟩,
   ⟨by unfold Asked; decide +kernel,
    by decide +kernel,
    by decide +kernel⟩⟩

theorem witness_BanksServeAuditAndRetire_11 :
    ((fun (r : Req) (b : Nat) (core : Nat) (s : State) =>
      Asked r O.BANK_CMD b s.dev ∧ core ≤ 8 ∧ s.dev.rd O.SLICE_STATE (b / 2) = 1) req 0 8 (st (link .run []))) ∧
    ((fun (b : Nat) (slot : Nat) (c : Nat) (l : List CacheEnt) (s : State) =>
      Loading b slot c s.dev ∧ s.dev.ctxGood slot = true ∧ s.dev.attrFits b slot = true ∧ s.dev.cacheRoom b = some l ∧ (∀ f ∈ s.dev.waiters b slot, f.stage ≠ .late)) 0 7 10 [] loading) :=
  ⟨⟨by unfold Asked; decide +kernel,
    by decide +kernel,
    by decide +kernel⟩,
   ⟨by unfold Loading Followed; decide +kernel,
    by decide +kernel,
    by decide +kernel,
    by decide +kernel,
    by decide +kernel⟩⟩

theorem witness_BanksServeAuditAndRetire_12 :
    ((fun (b : Nat) (slot : Nat) (c : Nat) (l : List CacheEnt) (f : Frame) (s : State) =>
      Loading b slot c s.dev ∧ s.dev.ctxGood slot = true ∧ s.dev.attrFits b slot = true ∧ s.dev.cacheRoom b = some l ∧ s.dev.waiters b slot = [f] ∧ f.stage = .late) 0 7 10 [] late0 (loadingFor late0)) :=
  ⟨by unfold Loading Followed; decide +kernel,
    by decide +kernel,
    by decide +kernel,
    by decide +kernel,
    by decide +kernel,
    by decide +kernel⟩

theorem witness_BanksServeAuditAndRetire_13 :
    ((fun (b : Nat) (slot : Nat) (c : Nat) (s : State) =>
      Loading b slot c s.dev ∧ s.dev.rd O.SA_STATE (s.dev.slotRow slot) = 2 ∧ Calm 0x201 2 s.dev) 0 7 10 loading) :=
  ⟨by unfold Loading Followed; decide +kernel,
    by decide +kernel,
    by unfold Calm Uncounted; decide +kernel⟩

/-! ### Sas -/

/-- A slot of the vault with these rows, its check code right. -/
def vaulted (k : Nat) (key : Bytes) (d : Device) : Device :=
  let d := d.setVault k { d.vaultOf k with key := key }
  let c := d.vaultCheck k 0 (d.rd O.VAULT_PURPOSE k) (d.rd O.VAULT_LEVEL k) (d.rd O.VAULT_KEY_BITS k) (d.rdB O.VAULT_COUNTED k) key
  d.setVault k { d.vaultOf k with check := c }
def sc3 (dir : Nat) (l : List (Nat × Nat × Nat)) : Device := clock ([(O.SC_DIR, 3, dir), (O.SC_CA, 3, 5), (O.SC_PORT, 3, 32)] ++ l)
/-- A wrapping key with one use left, and SA 12's wrapped SAK under it. -/
def provisioning : State :=
  let l := [(O.SA_KEK, 12, 2), (O.VAULT_STATE, 2, 1), (O.VAULT_PURPOSE, 2, 1), (O.VAULT_COUNTED, 2, 1), (O.VAULT_USES_LEFT, 2, 1),
    (O.VAULT_KEY_BITS, 2, 0), (O.SA_WRAPPED_SAK, 12, leNat (kwWrap [] (leBytes 32 9)))]
  st (vaulted 2 [] (sc3 1 l))
/-- SA 12 of SC 3 holds slot 7. -/
def residentSa (dir state : Nat) (l : List (Nat × Nat × Nat)) : Device :=
  sc3 dir ([(O.SA_STATE, 12, state), (O.SA_SLOT, 12, 7), (O.SCSA_SLOT1_ROW, 3, 12)] ++ l)
def loadable : State :=
  st ((sc3 1 [(O.SA_STATE, 12, 1), (O.SCSA_SLOT0_ROW, 3, 13)]).setRec 12 ⟨kwWrap [] (leBytes 32 9), 256, 4, 77, 5, 1, false⟩)
/-- Entry 4 stands for the ARMED SA 12 of SC 3. -/
def armedSa12 (dir gunState : Nat) : State :=
  st (residentSa dir 3 [(O.GUN_STATE, 4, gunState), (O.GUN_OWNER, 4, if dir = 2 then 3 else 2), (O.GUN_TARGET_ROW, 4, 3), (O.GUN_TIME, 4, 5 * 2 ^ 48)])

theorem witness_SaRecordsAreProvisionedLoadedAndReleased :
    ((fun (r : Req) (pr : Nat) (n : Nat) (k : Nat) (sak : Bytes) (s : State) =>
      Asked r O.SA_CMD pr s.dev ∧ s.dev.roleOf r ≠ 2 ∧ s.dev.rd O.SA_STATE pr ∈ [0, 1, 6] ∧ s.dev.scUsed (pr / 4) = true ∧ s.dev.rd O.SA_INIT_PN pr ≤ s.dev.pnMax (s.dev.caOf (pr / 4)) ∧ n = s.dev.sakLen (s.dev.caOf (pr / 4)) ∧ s.dev.slotOf (s.dev.rd O.SA_KEK pr) = some k ∧ s.dev.rd O.VAULT_PURPOSE k = 1 ∧ s.dev.rd O.VAULT_STATE k = 1 ∧ s.dev.vaultGood k = true ∧ kwUnwrap (s.dev.keyBytes k) (leBytes (n + 8) (s.dev.rd O.SA_WRAPPED_SAK pr)) = some sak ∧ MemSound s.dev ∧ Unarmed s.dev) req 12 32 2 (leBytes 32 9) provisioning) :=
  ⟨by unfold Asked; decide +kernel,
    by decide +kernel,
    by decide +kernel,
    by decide +kernel,
    by decide +kernel,
    by decide +kernel,
    by decide +kernel,
    by decide +kernel,
    by decide +kernel,
    by decide +kernel,
    by decide +kernel,
    memSound (by decide +kernel) (by decide +kernel) (by decide +kernel) (by decide +kernel) (by decide +kernel) (by decide +kernel),
    unarmed (by decide +kernel)⟩

theorem witness_SaRecordsAreProvisionedLoadedAndReleased_2 :
    ((fun (r : Req) (pr : Nat) (s : State) =>
      Asked r O.SA_CMD pr s.dev ∧ s.dev.roleOf r = 2) req 12 (st (clock [(O.SESSION_ROLE, 1, 2)]))) :=
  ⟨by unfold Asked; decide +kernel,
    by decide +kernel⟩

theorem witness_SaRecordsAreProvisionedLoadedAndReleased_3 :
    ((fun (r : Req) (pr : Nat) (sc : Nat) (slot : Nat) (sak : Bytes) (s : State) =>
      Asked r O.SA_CMD pr s.dev ∧ sc = pr / 4 ∧ s.dev.rd O.SA_STATE pr = 1 ∧ s.dev.scUsed sc = true ∧ s.dev.rd O.SC_PORT sc ≠ 0xFFFF ∧ (s.dev.recOf pr).keyBits = 8 * s.dev.sakLen (s.dev.caOf sc) ∧ (s.dev.recOf pr).suite = s.dev.suite (s.dev.caOf sc) ∧ (slot = (if s.dev.slotRow (2 * sc) = 0xFFFFFFFF ∧ 2 * sc ∉ s.dev.sram.slots then 2 * sc else 2 * sc + 1)) ∧ s.dev.slotRow slot = 0xFFFFFFFF ∧ slot ∉ s.dev.sram.slots ∧ (s.dev.recOf pr).bad = false ∧ kwUnwrap s.dev.keys.storeKey (s.dev.recOf pr).wrapped = some sak ∧ MemSound s.dev ∧ s.dev.poisonedLine (Device.recLine pr) = false ∧ s.dev.poisonedLine (Device.recLine pr + 1) = false) req 12 3 7 (leBytes 32 9) loadable) :=
  ⟨by unfold Asked; decide +kernel,
    by decide +kernel,
    by decide +kernel,
    by decide +kernel,
    by decide +kernel,
    by decide +kernel,
    by decide +kernel,
    by decide +kernel,
    by decide +kernel,
    by decide +kernel,
    by decide +kernel,
    by decide +kernel,
    memSound (by decide +kernel) (by decide +kernel) (by decide +kernel) (by decide +kernel) (by decide +kernel) (by decide +kernel),
    by decide +kernel,
    by decide +kernel⟩

theorem witness_SaRecordsAreProvisionedLoadedAndReleased_4 :
    ((fun (r : Req) (pr : Nat) (sc : Nat) (s : State) =>
      Asked r O.SA_CMD pr s.dev ∧ sc = pr / 4 ∧ s.dev.rd O.SA_STATE pr = 1 ∧ s.dev.scUsed sc = true ∧ s.dev.rd O.SC_PORT sc ≠ 0xFFFF ∧ (s.dev.recOf pr).keyBits = 8 * s.dev.sakLen (s.dev.caOf sc) ∧ (s.dev.recOf pr).suite = s.dev.suite (s.dev.caOf sc) ∧ s.dev.slotRow (2 * sc) ≠ 0xFFFFFFFF ∧ s.dev.slotRow (2 * sc + 1) ≠ 0xFFFFFFFF) req 12 3 (st ((sc3 1 [(O.SA_STATE, 12, 1), (O.SCSA_SLOT0_ROW, 3, 13), (O.SCSA_SLOT1_ROW, 3, 14)]).setRec 12 ⟨[], 256, 4, 0, 0, 1, false⟩))) :=
  ⟨by unfold Asked; decide +kernel,
    by decide +kernel,
    by decide +kernel,
    by decide +kernel,
    by decide +kernel,
    by decide +kernel,
    by decide +kernel,
    by decide +kernel,
    by decide +kernel⟩

theorem witness_SaRecordsAreProvisionedLoadedAndReleased_5 :
    ((fun (r : Req) (pr : Nat) (s : State) =>
      Asked r O.SA_CMD pr s.dev ∧ s.dev.rd O.SA_STATE pr ∈ [1, 6] ∧ MemSound s.dev) req 12 loadable) :=
  ⟨by unfold Asked; decide +kernel,
    by decide +kernel,
    memSound (by decide +kernel) (by decide +kernel) (by decide +kernel) (by decide +kernel) (by decide +kernel) (by decide +kernel)⟩


theorem witness_SasAreArmedHandedOverAndRetired :
    ((fun (r : Req) (pr : Nat) (sc : Nat) (e : Nat) (s : State) =>
      Asked r O.SA_CMD pr s.dev ∧ sc = pr / 4 ∧ s.dev.mode ≠ .drain ∧ s.dev.rd O.SA_STATE pr = 2 ∧ (s.dev.rd O.SC_DIR sc = 1 ∨ s.dev.rd O.SC_DIR sc = 2 ∧ s.dev.activeSa sc ≠ none) ∧ (s.dev.gunPast (s.dev.rd O.SA_GUN_TIME pr) = false ∨ s.dev.rdB O.SA_LATE_OK pr = true) ∧ s.dev.armedSa sc = none ∧ s.dev.gunFind (s.dev.armCode pr) sc = none ∧ s.dev.gunPool 2 = some e ∧ EventRoom s.dev) req 12 3 4 (st (residentSa 1 2 [(O.SA_GUN_TIME, 12, 5 * 2 ^ 48)]))) :=
  ⟨by unfold Asked; decide +kernel,
    by decide +kernel,
    by decide +kernel,
    by decide +kernel,
    by decide +kernel,
    by decide +kernel,
    by decide +kernel,
    by decide +kernel,
    by decide +kernel,
    eventRoom (by decide +kernel)⟩

theorem witness_SasAreArmedHandedOverAndRetired_2 :
    ((fun (r : Req) (pr : Nat) (sc : Nat) (s : State) =>
      Asked r O.SA_CMD pr s.dev ∧ sc = pr / 4 ∧ s.dev.mode ≠ .drain ∧ s.dev.rd O.SA_STATE pr = 2 ∧ s.dev.rd O.SC_DIR sc = 2 ∧ s.dev.activeSa sc = none) req 12 3 (st (residentSa 2 2 []))) ∧
    ((fun (r : Req) (pr : Nat) (s : State) =>
      Asked r O.SA_CMD pr s.dev ∧ s.dev.mode = .drain) req 12 (st { residentSa 2 2 [] with mode := .drain })) :=
  ⟨⟨by unfold Asked; decide +kernel,
    by decide +kernel,
    by decide +kernel,
    by decide +kernel,
    by decide +kernel,
    by decide +kernel⟩,
   ⟨by unfold Asked; decide +kernel,
    by decide +kernel⟩⟩

theorem witness_SasAreArmedHandedOverAndRetired_3 :
    ((fun (r : Req) (pr : Nat) (sc : Nat) (e : Nat) (s : State) =>
      Asked r O.SA_CMD pr s.dev ∧ sc = pr / 4 ∧ s.dev.rd O.SA_STATE pr = 3 ∧ s.dev.saGun pr = some e ∧ s.dev.rd O.GUN_STATE e = 1 ∧ (s.dev.rd O.SC_DIR sc = 2 → s.dev.saInFlight pr = false) ∧ EventRoom s.dev) req 12 3 4 (armedSa12 2 1)) :=
  ⟨by unfold Asked; decide +kernel,
    by decide +kernel,
    by decide +kernel,
    by decide +kernel,
    by decide +kernel,
    by decide +kernel,
    eventRoom (by decide +kernel)⟩

theorem witness_SasAreArmedHandedOverAndRetired_4 :
    ((fun (r : Req) (pr : Nat) (e : Nat) (s : State) =>
      Asked r O.SA_CMD pr s.dev ∧ s.dev.rd O.SA_STATE pr = 3 ∧ s.dev.saGun pr = some e ∧ s.dev.rd O.GUN_STATE e = 1 ∧ s.dev.rd O.SC_DIR (pr / 4) = 2 ∧ s.dev.saInFlight pr = true ∧ EventRoom s.dev) req 12 4 (st (withFrames [tail0] (armedSa12 2 1).dev))) :=
  ⟨by unfold Asked; decide +kernel,
    by decide +kernel,
    by decide +kernel,
    by decide +kernel,
    by decide +kernel,
    by decide +kernel,
    eventRoom (by decide +kernel)⟩

theorem witness_SasAreArmedHandedOverAndRetired_5 :
    ((fun (r : Req) (pr : Nat) (e : Nat) (s : State) =>
      Asked r O.SA_CMD pr s.dev ∧ s.dev.rd O.SA_STATE pr = 3 ∧ s.dev.saGun pr = some e ∧ s.dev.rd O.GUN_STATE e = 2) req 12 4 (armedSa12 1 2)) ∧
    ((fun (r : Req) (pr : Nat) (sc : Nat) (s : State) =>
      Asked r O.SA_CMD pr s.dev ∧ sc = pr / 4 ∧ s.dev.rd O.SA_STATE pr = 4) req 12 3 (st (residentSa 2 4 []))) :=
  ⟨⟨by unfold Asked; decide +kernel,
    by decide +kernel,
    by decide +kernel,
    by decide +kernel⟩,
   ⟨by unfold Asked; decide +kernel,
    by decide +kernel,
    by decide +kernel⟩⟩

theorem witness_SasAreArmedHandedOverAndRetired_6 :
    ((fun (r : Req) (pr : Nat) (sc : Nat) (i : Instr) (s : State) =>
      Asked r O.SA_CMD pr s.dev ∧ sc = pr / 4 ∧ s.dev.rd O.SA_STATE pr = 7 ∧ s.dev.saInFlight pr = false ∧ s.dev.rd O.SA_SLOT pr ≠ 0xFFFFFFFF ∧ s.dev.rd O.SA_SLOT pr / 2 = sc ∧ i ∈ [Instr.saRetire r pr, .saUnload r pr]) req 12 3 (.saUnload req 12) (st (residentSa 2 7 []))) :=
  ⟨by unfold Asked; decide +kernel,
    by decide +kernel,
    by decide +kernel,
    by decide +kernel,
    by decide +kernel,
    by decide +kernel,
    by decide +kernel⟩

theorem witness_SasAreArmedHandedOverAndRetired_7 :
    ((fun (r : Req) (pr : Nat) (sc : Nat) (s : State) =>
      Asked r O.SA_CMD pr s.dev ∧ sc = pr / 4 ∧ s.dev.rd O.SA_STATE pr = 2 ∧ s.dev.rd O.SA_SLOT pr ≠ 0xFFFFFFFF ∧ s.dev.rd O.SA_SLOT pr / 2 = sc) req 12 3 (st (residentSa 2 2 []))) :=
  ⟨by unfold Asked; decide +kernel,
    by decide +kernel,
    by decide +kernel,
    by decide +kernel,
    by decide +kernel⟩

theorem witness_SasAreArmedHandedOverAndRetired_8 :
    ((fun (pr : Nat) (s : State) =>
      s.dev.saInFlight pr = false ∧ s.dev.rd O.SA_SLOT pr ≠ 0xFFFFFFFF ∧ s.dev.slotsOf pr = [s.dev.rd O.SA_SLOT pr] ∧ s.dev.rd O.SA_STATE pr ∈ [0, 1, 5, 6]) 12 (st (residentSa 2 5 []))) :=
  ⟨by decide +kernel,
    by decide +kernel,
    by decide +kernel,
    by decide +kernel⟩

theorem witness_SasAreArmedHandedOverAndRetired_9 :
    ((fun (pr : Nat) (s : State) =>
      s.dev.saInFlight pr = false ∧ s.dev.rd O.SA_SLOT pr ≠ 0xFFFFFFFF ∧ s.dev.slotsOf pr = [s.dev.rd O.SA_SLOT pr] ∧ s.dev.rd O.SA_STATE pr = 3 ∧ s.dev.saGun pr = none) 12 (st (residentSa 2 3 []))) ∧
    ((fun (pr : Nat) (s : State) =>
      s.dev.saInFlight pr = true ∧ s.dev.slotsOf pr = [s.dev.rd O.SA_SLOT pr]) 12 (st (withFrames [tail0] (residentSa 2 5 [])))) :=
  ⟨⟨by decide +kernel,
    by decide +kernel,
    by decide +kernel,
    by decide +kernel,
    by decide +kernel⟩,
   ⟨by decide +kernel,
    by decide +kernel⟩⟩

theorem witness_SasAreArmedHandedOverAndRetired_10 :
    ((fun (e : Nat) (sc : Nat) (pr : Nat) (s : State) =>
      s.dev.clockOn = true ∧ s.dev.gunLive e = true ∧ s.dev.gunFirst e = true ∧ (s.dev.rd O.GUN_OWNER e = 2 ∨ s.dev.rd O.GUN_OWNER e = 3) ∧ s.dev.rd O.GUN_TARGET_ROW e = sc ∧ s.dev.armedSa sc = some pr ∧ EventRoom s.dev) 4 3 12 (armedSa12 1 2)) :=
  ⟨by decide +kernel,
    by decide +kernel,
    by decide +kernel,
    by decide +kernel,
    by decide +kernel,
    by decide +kernel,
    eventRoom (by decide +kernel)⟩

/-! ### Table -/

/-- Staging row 1 names this key and result. -/
def staged (key res : Nat) (d : Device) : Device := (d.wr O.CLS_KEY 1 (leNat (beBytes 24 key))).wr O.CLS_RESULT 1 res
def key0 : Nat := makeKey 1 (some 0) 5
def pos0 (key : Nat) : Nat := 4 * ((link .run []).candidates key).1
/-- The table holds one entry, for this key; its bucket is cached. -/
def tableOf (key result port : Nat) (d : Device) : Device := (d.setWay (pos0 key) ⟨key, result, port⟩).fillBucket (pos0 key / 4)
def learnedRes (hit : Bool) : Nat := withHit (protectResult 1 0 32 3 5 0) hit
/-- Receive SC 3 with its objects but for the host port. -/
def rxsc3 (l : List (Nat × Nat × Nat)) : Device := link .run ([(O.SC_DIR, 3, 2), (O.SC_CA, 3, 5), (O.SC_PORT, 3, 32), (O.SC_SCI, 3, 99)] ++ l)
def rxscRes : Nat := protectResult 2 0 0 3 5 0
/-- A baton that pins a key of CA 5, seen in receive SC 3 whose return SC is 6. -/
def baton0 : Bytes := [1, 0] ++ leBytes 2 5 ++ leBytes 2 7 ++ leBytes 6 99 ++ leBytes 12 (9 * 2 ^ 48) ++ leBytes 4 0 ++ leBytes 4 3
def batonState (peer : Bool) (d : Device) : State := st (d.setBatons [(peer, baton0)])
def returning (l : List (Nat × Nat × Nat)) : Device := rxsc3 ([(O.RXSC_RETURN_SC, 3, 6), (O.SC_PORT, 6, 32), (O.LEARN_LIMIT, 5, 2)] ++ l)
/-- The key of the Peer Link is in slot 2. -/
def peering (l : List (Nat × Nat × Nat)) : Device :=
  vaulted 2 [] (clock ([(O.PEER_ENABLE, 0, 3), (O.PEER_KEY, 0, 2), (O.VAULT_STATE, 2, 1), (O.VAULT_KEY_BITS, 2, 0)] ++ l))
def peerMsg : PeerMsg := Device.peerSeal [] ⟨1, 2, 9, 1, 4, baton0, 0, 0⟩
def gunMsg : Bytes := [1, 5, 0, 0] ++ leBytes 4 0 ++ leBytes 4 8 ++ leBytes 12 (6 * 2 ^ 48) ++ leBytes 12 0
/-- The device with these rows, its session 257 having received four messages; and a GUN message in that session. -/
def gunDev (l : List (Nat × Nat × Nat)) : Device := l.foldl (fun d e => d.wr e.1 e.2.1 e.2.2) ringSession
def gunRing : RingMsg := ringSealTag ⟨5, 0, 8, 1, 257, 5, 0, gunMsg, 0, 0⟩ (ringSession.ksOf 1)
def idleQueue : QueueX := { QueueX.idle 0 with node := 263, finish := 4 }
def withQueue (x : QueueX) : State := st { clock [(O.NODE_VTIME, 263, 9)] with queues := [(10, x)] }
def lap70 : ClosedLap := ⟨70, 5, 0, 1, 2, [(10, { LapCnt.zero with protBytes := 60 })]⟩
def lapState : State := st { clock [] with laps := { (clock []).laps with closing := some lap70 } }

theorem witness_EntriesArePlacedReadAndDeleted :
    ((fun (r : Req) (w : Nat) (s : State) =>
      Asked r O.CLS_CMD w s.dev ∧ ClsWritable w s.dev ∧ s.dev.placeable (s.dev.clsKey w) = true) req 1 (st (staged key0 (resultOf 2) (link .run [])))) ∧
    ((fun (j : InsJob) (rest : List InsJob) (p : Nat) (s : State) =>
      s.dev.clsx.jobs = j :: rest ∧ FreeFor j.key p s.dev ∧ resValid j.result = true ∧ resKind j.result = 0) (⟨1, key0, resultOf 2⟩) [] (pos0 key0) (st ((link .run []).setCls { (link .run []).clsx with jobs := [⟨1, key0, resultOf 2⟩] }))) :=
  ⟨⟨by unfold Asked; decide +kernel,
    by unfold ClsWritable; decide +kernel,
    by decide +kernel⟩,
   ⟨by decide +kernel,
    ⟨⟨memSound (by decide +kernel) (by decide +kernel) (by decide +kernel) (by decide +kernel) (by decide +kernel) (by decide +kernel), by decide +kernel⟩, by decide +kernel, by decide +kernel⟩,
    by decide +kernel,
    by decide +kernel⟩⟩

theorem witness_EntriesArePlacedReadAndDeleted_2 :
    ((fun (r : Req) (w : Nat) (s : State) =>
      Asked r O.CLS_CMD w s.dev ∧ ReadsWell (s.dev.clsKey w) s.dev ∧ Unarmed s.dev) req 1 (st (staged key0 0 (tableOf key0 (resultOf 2) 0 (link .run []))))) ∧
    ((fun (r : Req) (w : Nat) (p : Nat) (s : State) =>
      Asked r O.CLS_CMD w s.dev ∧ s.dev.clsx.jobs = [] ∧ ReadsWell (s.dev.clsKey w) s.dev ∧ s.dev.findKey (s.dev.clsKey w) = some p ∧ resKind (s.dev.way p).result ≠ 2) req 1 (pos0 key0) (st (staged key0 0 (tableOf key0 (resultOf 2) 0 (link .run []))))) :=
  ⟨⟨by unfold Asked; decide +kernel,
    ⟨memSound (by decide +kernel) (by decide +kernel) (by decide +kernel) (by decide +kernel) (by decide +kernel) (by decide +kernel), by decide +kernel⟩,
    unarmed (by decide +kernel)⟩,
   ⟨by unfold Asked; decide +kernel,
    by decide +kernel,
    ⟨memSound (by decide +kernel) (by decide +kernel) (by decide +kernel) (by decide +kernel) (by decide +kernel) (by decide +kernel), by decide +kernel⟩,
    by decide +kernel,
    by decide +kernel⟩⟩

theorem witness_EntriesArePlacedReadAndDeleted_3 :
    ((fun (r : Req) (w : Nat) (p : Nat) (s : State) =>
      Asked r O.CLS_CMD w s.dev ∧ s.dev.findKey (s.dev.clsKey w) = some p ∧ resKind (s.dev.way p).result = 2) req 1 (pos0 (sciKey 32 99)) (st (staged (sciKey 32 99) 0 (tableOf (sciKey 32 99) rxscRes 0 (link .run []))))) :=
  ⟨by unfold Asked; decide +kernel,
    by decide +kernel,
    by decide +kernel⟩

theorem witness_EntriesArePlacedReadAndDeleted_4 :
    ((fun (r : Req) (sc : Nat) (v : Nat) (p : Nat) (s : State) =>
      Passes r (directAddr O.RXSC_HOST_PORT sc) (leBytes 2 v) s.dev ∧ v < 0xFFFF ∧ s.dev.rd O.RXSC_HOST_PORT sc ≠ v ∧ s.dev.rd O.RXSC_ENTRY sc = 0 ∧ s.dev.rd O.SC_DIR sc = 2 ∧ s.dev.rd O.SC_PORT sc ≠ 0xFFFF ∧ s.dev.rd O.SC_SCI sc ≠ 0 ∧ s.dev.clsx.jobs = [] ∧ FreeFor (s.dev.rxscKey sc) p s.dev ∧ Quiet s.dev) req 3 1 (pos0 ((rxsc3 []).rxscKey 3)) (st (rxsc3 []))) :=
  ⟨by unfold Passes; decide +kernel,
    by decide +kernel,
    by decide +kernel,
    by decide +kernel,
    by decide +kernel,
    by decide +kernel,
    by decide +kernel,
    by decide +kernel,
    ⟨⟨memSound (by decide +kernel) (by decide +kernel) (by decide +kernel) (by decide +kernel) (by decide +kernel) (by decide +kernel), by decide +kernel⟩, by decide +kernel, by decide +kernel⟩,
    quiet (by decide +kernel)⟩

theorem witness_EntriesArePlacedReadAndDeleted_5 :
    ((fun (r : Req) (sc : Nat) (p : Nat) (s : State) =>
      Passes r (directAddr O.RXSC_HOST_PORT sc) (leBytes 2 0xFFFF) s.dev ∧ s.dev.rd O.RXSC_HOST_PORT sc ≠ 0xFFFF ∧ s.dev.rd O.RXSC_ENTRY sc ≠ 0 ∧ s.dev.clsx.jobs = [] ∧ MemSound s.dev ∧ s.dev.findKey (s.dev.rxscKey sc) = some p ∧ Quiet s.dev) req 3 (pos0 ((rxsc3 []).rxscKey 3)) (st (tableOf ((rxsc3 []).rxscKey 3) rxscRes 0 (rxsc3 [(O.RXSC_HOST_PORT, 3, 0), (O.RXSC_ENTRY, 3, 1)])))) :=
  ⟨by unfold Passes; decide +kernel,
    by decide +kernel,
    by decide +kernel,
    by decide +kernel,
    memSound (by decide +kernel) (by decide +kernel) (by decide +kernel) (by decide +kernel) (by decide +kernel) (by decide +kernel),
    by decide +kernel,
    quiet (by decide +kernel)⟩

theorem witness_EntriesArePlacedReadAndDeleted_6 :
    ((fun (b : Nat) (s : State) =>
      s.dev.clockOn = true ∧ b < s.dev.buckets ∧ s.dev.rehashing = false ∧ s.dev.visitNext b = true ∧ s.dev.cachedBucket b = true ∧ MemSound s.dev) (pos0 (learnKey 7 99) / 4) (st (tableOf (learnKey 7 99) (learnedRes true) 32 (link .run [])))) :=
  ⟨by decide +kernel,
    by decide +kernel,
    by decide +kernel,
    by decide +kernel,
    by decide +kernel,
    memSound (by decide +kernel) (by decide +kernel) (by decide +kernel) (by decide +kernel) (by decide +kernel) (by decide +kernel)⟩


theorem witness_LearningAndPeerMessages :
    ((fun (b : Bytes) (rest : List (Bool × Bytes)) (sc : Nat) (ret : Nat) (port : Nat) (ca : Nat) (p : Nat) (s : State) =>
      s.dev.clsx.batons = (false, b) :: rest ∧ s.dev.clsx.jobs = [] ∧ s.dev.mode ≠ .drain ∧ leNat (slice 0 1 b) = 1 ∧ sc = Device.batonSc b ∧ ret = s.dev.rd O.RXSC_RETURN_SC sc ∧ ret ≠ 0xFFFFFFFF ∧ port = s.dev.rd O.SC_PORT sc ∧ ca = Device.batonCa b ∧ s.dev.pairCount port ca < s.dev.rd O.LEARN_LIMIT ca ∧ FreeFor (Device.batonKey b) p s.dev ∧ s.dev.rd O.PEER_SEND_BATONS = 0) baton0 [] 3 6 32 5 (pos0 (Device.batonKey baton0)) (batonState false (returning []))) :=
  ⟨by decide +kernel,
    by decide +kernel,
    by decide +kernel,
    by decide +kernel,
    by decide +kernel,
    by decide +kernel,
    by decide +kernel,
    by decide +kernel,
    by decide +kernel,
    by decide +kernel,
    ⟨⟨memSound (by decide +kernel) (by decide +kernel) (by decide +kernel) (by decide +kernel) (by decide +kernel) (by decide +kernel), by decide +kernel⟩, by decide +kernel, by decide +kernel⟩,
    by decide +kernel⟩

theorem witness_LearningAndPeerMessages_2 :
    ((fun (b : Bytes) (rest : List (Bool × Bytes)) (sc : Nat) (port : Nat) (ca : Nat) (s : State) =>
      s.dev.clsx.batons = (false, b) :: rest ∧ s.dev.clsx.jobs = [] ∧ s.dev.mode ≠ .drain ∧ leNat (slice 0 1 b) = 1 ∧ sc = Device.batonSc b ∧ s.dev.rd O.RXSC_RETURN_SC sc ≠ 0xFFFFFFFF ∧ port = s.dev.rd O.SC_PORT sc ∧ ca = Device.batonCa b ∧ s.dev.rd O.LEARN_LIMIT ca ≤ s.dev.pairCount port ca ∧ s.dev.findKey (Device.batonKey b) = none ∧ ReadsWell (Device.batonKey b) s.dev) baton0 [] 3 32 5 (batonState false (returning [(O.LEARN_LIMIT, 5, 0)]))) :=
  ⟨by decide +kernel,
    by decide +kernel,
    by decide +kernel,
    by decide +kernel,
    by decide +kernel,
    by decide +kernel,
    by decide +kernel,
    by decide +kernel,
    by decide +kernel,
    by decide +kernel,
    ⟨memSound (by decide +kernel) (by decide +kernel) (by decide +kernel) (by decide +kernel) (by decide +kernel) (by decide +kernel), by decide +kernel⟩⟩

theorem witness_LearningAndPeerMessages_3 :
    ((fun (b : Bytes) (rest : List (Bool × Bytes)) (ca : Nat) (p : Nat) (s : State) =>
      s.dev.clsx.batons = (true, b) :: rest ∧ s.dev.clsx.jobs = [] ∧ s.dev.mode ≠ .drain ∧ leNat (slice 0 1 b) = 1 ∧ ca = Device.batonCa b ∧ ReadsWell (Device.batonKey b) s.dev ∧ s.dev.findKey (Device.batonKey b) = some p ∧ resKind (s.dev.shownResult p) = 1 ∧ resCa (s.dev.shownResult p) = ca ∧ 0 < ofTwos 16 (Device.batonSeconds b % 65536 + 65536 - resStamp (s.dev.shownResult p))) baton0 [] 5 (pos0 (Device.batonKey baton0)) (batonState true (tableOf (Device.batonKey baton0) (learnedRes false) 32 (link .run [])))) :=
  ⟨by decide +kernel,
    by decide +kernel,
    by decide +kernel,
    by decide +kernel,
    by decide +kernel,
    ⟨memSound (by decide +kernel) (by decide +kernel) (by decide +kernel) (by decide +kernel) (by decide +kernel) (by decide +kernel), by decide +kernel⟩,
    by decide +kernel,
    by decide +kernel,
    by decide +kernel,
    by decide +kernel⟩

theorem witness_LearningAndPeerMessages_4 :
    ((fun (b : Bool × Bytes) (rest : List (Bool × Bytes)) (s : State) =>
      s.dev.clsx.batons = b :: rest ∧ s.dev.clsx.jobs = [] ∧ s.dev.mode = .drain) ((true, baton0)) [] (batonState true (link .drain []))) ∧
    ((fun (r : Req) (ca : Nat) (s : State) =>
      Asked r O.LEARN_FLUSH ca s.dev ∧ s.dev.clsx.jobs = [] ∧ MemSound s.dev ∧ Sparse.wf (fun _ => ClsEnt.empty) s.dev.clsx.table = true ∧ s.dev.clsx.table.length < 2 ^ 32) req 5 (st (tableOf (learnKey 7 99) (learnedRes true) 32 (link .run [])))) :=
  ⟨⟨by decide +kernel,
    by decide +kernel,
    by decide +kernel⟩,
   ⟨by unfold Asked; decide +kernel,
    by decide +kernel,
    memSound (by decide +kernel) (by decide +kernel) (by decide +kernel) (by decide +kernel) (by decide +kernel) (by decide +kernel),
    by decide +kernel,
    by decide +kernel⟩⟩

theorem witness_LearningAndPeerMessages_5 :
    ((fun (lane : Nat) (m : PeerMsg) (key : Bytes) (o : Nat) (s : State) =>
      s.dev.mode ≠ .reset ∧ lane < 2 ∧ (s.dev.rd O.PEER_ENABLE).testBit lane = true ∧ s.dev.peerKey = some key ∧ (Device.peerGood key m = false ∧ o = O.PEER_RX_ERRORS ∨ Device.peerGood key m = true ∧ s.dev.peerStale m = true ∧ o = O.PEER_RX_DUPLICATES)) 1 ({ peerMsg with crc := peerMsg.crc + 1 }) [] O.PEER_RX_ERRORS (st (peering []))) :=
  ⟨by decide +kernel,
    by decide +kernel,
    by decide +kernel,
    by decide +kernel,
    by decide +kernel⟩

theorem witness_LearningAndPeerMessages_6 :
    ((fun (lane : Nat) (m : PeerMsg) (key : Bytes) (s : State) =>
      s.dev.mode ≠ .reset ∧ s.dev.mode ≠ .drain ∧ lane < 2 ∧ (s.dev.rd O.PEER_ENABLE).testBit lane = true ∧ s.dev.peerKey = some key ∧ Device.peerGood key m = true ∧ s.dev.peerStale m = false ∧ m.type = 1 ∧ m.count = 1 ∧ m.payload.length = 32 ∧ leNat (slice 0 1 m.payload) = 1 ∧ s.dev.clsx.batons.any (Device.sameBaton (true, m.payload)) = false ∧ s.dev.clsx.batons.length < 4096) 1 peerMsg [] (st (peering []))) :=
  ⟨by decide +kernel,
    by decide +kernel,
    by decide +kernel,
    by decide +kernel,
    by decide +kernel,
    by decide +kernel,
    by decide +kernel,
    by decide +kernel,
    by decide +kernel,
    by decide +kernel,
    by decide +kernel,
    by decide +kernel,
    by decide +kernel⟩

theorem witness_LearningAndPeerMessages_7 :
    ((fun (lane : Nat) (locked : Bool) (s : State) =>
      s.dev.mode ≠ .reset ∧ lane < 2) 1 true (st (clock []))) :=
  ⟨by decide +kernel,
    by decide +kernel⟩

theorem witness_LearningAndPeerMessages_8 :
    ((fun (m : RingMsg) (row : Nat) (x : Bytes) (e : Nat) (s : State) =>
      s.dev.inRing = true ∧ s.dev.forMe m = true ∧ m.type = 8 ∧ (s.dev.ringAccept m).1 = true ∧ s.dev.sessionRow ⟨.ring, m.session⟩ = some row ∧ ringTagged m = true ∧ m.tag = ringTag m (s.dev.ksOf row) ∧ m.counter = s.dev.rd O.SESSION_LAST_COUNTER row + 1 ∧ x = m.payload ∧ x.length = 36 ∧ leNat (slice 0 1 x) = 1 ∧ leNat (slice 8 4 x) ≠ 0 ∧ s.dev.gunMismatch x = some e ∧ EventRoom s.dev) gunRing 1 gunMsg 772 (st (gunDev [(O.GUN_STATE, 772, 1), (O.GUN_OWNER, 772, 5), (O.GUN_TAG, 772, 8), (O.GUN_TIME, 772, 5 * 2 ^ 48)]))) :=
  ⟨by decide +kernel,
    by decide +kernel,
    by decide +kernel,
    accepted (crc_tagged _ _) rfl (by decide +kernel),
    by decide +kernel,
    by decide +kernel,
    tag_tagged _ _,
    by decide +kernel,
    by decide +kernel,
    by decide +kernel,
    by decide +kernel,
    by decide +kernel,
    by decide +kernel,
    eventRoom (by decide +kernel)⟩

theorem witness_LearningAndPeerMessages_9 :
    ((fun (m : RingMsg) (row : Nat) (x : Bytes) (s : State) =>
      s.dev.inRing = true ∧ s.dev.forMe m = true ∧ m.type = 8 ∧ (s.dev.ringAccept m).1 = true ∧ s.dev.sessionRow ⟨.ring, m.session⟩ = some row ∧ ringTagged m = true ∧ m.tag = ringTag m (s.dev.ksOf row) ∧ m.counter = s.dev.rd O.SESSION_LAST_COUNTER row + 1 ∧ x = m.payload ∧ (s.dev.gunMismatch x = none ∨ leNat (slice 0 1 x) ≠ 1)) gunRing 1 gunMsg (st (gunDev []))) :=
  ⟨by decide +kernel,
    by decide +kernel,
    by decide +kernel,
    accepted (crc_tagged _ _) rfl (by decide +kernel),
    by decide +kernel,
    by decide +kernel,
    tag_tagged _ _,
    by decide +kernel,
    by decide +kernel,
    by decide +kernel⟩

theorem witness_LearningAndPeerMessages_10 :
    ((fun (m : RingMsg) (row : Nat) (s : State) =>
      s.dev.inRing = true ∧ s.dev.forMe m = true ∧ m.type = 8 ∧ (s.dev.ringAccept m).1 = true ∧ s.dev.sessionRow ⟨.ring, m.session⟩ = some row ∧ (ringTagged m = false ∨ m.tag ≠ ringTag m (s.dev.ksOf row))) (ringSealCrc { gunRing with tag := gunRing.tag + 1 }) 1 (st (gunDev []))) :=
  ⟨by decide +kernel,
    by decide +kernel,
    by decide +kernel,
    accepted (crc_sealed _) rfl (by decide +kernel),
    by decide +kernel,
    Or.inr (tag_raised _ _)⟩


theorem witness_TagsAndLapsAreKept :
    ((fun (c : Nat) (s : State) (u : State) =>
      s.dev.clockOn = true ∧ c = (s.dev.cyc / 1250000000 + 1) * 1250000000 ∧ u.dev = (s.dev.passTo c).settle ∧ (∀ n, n < 512 → u.dev.rd O.NODE_VTIME n < 2 ^ 63) ∧ (∀ q, (u.dev.queueOf q).finish < 2 ^ 63)) 1250000000 (withQueue idleQueue) (st ((withQueue idleQueue).dev.passTo 1250000000).settle)) ∧
    ((fun (c : ClosedLap) (s : State) =>
      s.dev.laps.closing = some c ∧ c.seq < 2 ^ 32 ∧ MemSound s.dev) lap70 lapState) :=
  ⟨⟨by decide +kernel,
    by decide +kernel,
    by decide +kernel,
    by decide +kernel,
    finishes (by decide +kernel) (by decide +kernel)⟩,
   ⟨by decide +kernel,
    by decide +kernel,
    memSound (by decide +kernel) (by decide +kernel) (by decide +kernel) (by decide +kernel) (by decide +kernel) (by decide +kernel)⟩⟩

/-! ### Vault -/

/-- Slot `k` is VALID with this purpose, level and key, besides these rows. -/
def slotDev (k purpose level : Nat) (key : Bytes) (l : List (Nat × Nat × Nat)) : Device :=
  vaulted k key (clock ([(O.VAULT_STATE, k, 1), (O.VAULT_PURPOSE, k, purpose), (O.VAULT_LEVEL, k, level), (O.VAULT_KEY_BITS, k, 0)] ++ l))
/-- A transport KEK in slot 2, which command row 1 names, with this blob. -/
def importing (p : Bytes) (l : List (Nat × Nat × Nat)) : State :=
  st (slotDev 2 1 1 [] ([(O.VAULT_ARG_KEY, 1, 2), (O.VAULT_ARG_BLOB, 1, leNat (kwWrap [] p))] ++ l))
/-- A traffic key of 256 bits, counted, with 7 uses; and one that names purpose 6. -/
def import256 : Bytes := leBytes 1 1 ++ leBytes 1 5 ++ leBytes 1 3 ++ leBytes 1 0 ++ leBytes 4 7 ++ leBytes 32 9
def importBad : Bytes := leBytes 1 1 ++ leBytes 1 6 ++ leBytes 1 1 ++ leBytes 1 0 ++ leBytes 4 0 ++ leBytes 32 9
/-- DERIVE of a 128-bit key of purpose 5, labelled A, from slot 2. -/
def deriving_ (level : Nat) : State :=
  st (slotDev 2 0x13 level (leBytes 32 5) [(O.VAULT_ARG_KEY, 1, 2), (O.VAULT_ARG_KEY_BITS, 1, 128), (O.VAULT_ARG_LEVEL, 1, 1),
    (O.VAULT_ARG_PURPOSE, 1, 5), (O.VAULT_ARG_LABEL, 1, 65), (O.VAULT_ARG_USES, 1, 0)])
/-- Row `n` of FW_SLOT is staged; the sealing root stands in slot 1. -/
def succeeding (l : List (Nat × Nat × Nat)) : State :=
  let d := slotDev 1 0x12 2 (leBytes 32 5) l
  st { d with fw := { d.fw with staged := some 1 } }
def zeroizing (k : Nat) : Device := slotDev k 4 1 [] [(O.VAULT_ARG_KEY, 1, k)]
/-- A CTR job of ring 3 under slot 2, of 40 bytes. -/
def laParams : LaParams := ⟨256, 0, 0, 0, 0, 0, leBytes 16 0, [], false⟩
def job3 : LaJob := ⟨3, 0, 2, [], 2, 0, 0, 64, leBytes 8 512 ++ leBytes 4 2 ++ leBytes 4 2, laParams, leBytes 40 7, [], 0, false⟩
def withJobs (l : List LaJob) (d : Device) : Device := d.setLa { d.la with jobs := l }

theorem witness_KeysAreImportedDerivedAndZeroized :
    ((fun (r : Req) (row : Nat) (q : Nat) (p : Bytes) (k : Nat) (s : State) =>
      Asked r O.VAULT_CMD row s.dev ∧ KeysServed s.dev ∧ s.dev.slotOf (s.dev.rd O.VAULT_ARG_KEY row) = some q ∧ s.dev.rd O.VAULT_PURPOSE q = 1 ∧ s.dev.rd O.VAULT_STATE q = 1 ∧ s.dev.vaultGood q = true ∧ kwUnwrap (s.dev.keyBytes q) (leBytes 48 (s.dev.rd O.VAULT_ARG_BLOB row)) = some p ∧ Device.importOk p = true ∧ s.dev.freeSlot = some k ∧ Unarmed s.dev) req 1 2 import256 4 (importing import256 [])) :=
  ⟨by unfold Asked; decide +kernel,
    by unfold KeysServed; decide +kernel,
    by decide +kernel,
    by decide +kernel,
    by decide +kernel,
    by decide +kernel,
    by decide +kernel,
    by decide +kernel,
    by decide +kernel,
    unarmed (by decide +kernel)⟩

theorem witness_KeysAreImportedDerivedAndZeroized_2 :
    ((fun (r : Req) (row : Nat) (q : Nat) (e : Nat) (s : State) =>
      Asked r O.VAULT_CMD row s.dev ∧ KeysServed s.dev ∧ s.dev.slotOf (s.dev.rd O.VAULT_ARG_KEY row) = some q ∧ s.dev.rd O.VAULT_PURPOSE q = 1 ∧ s.dev.rd O.VAULT_STATE q = 1 ∧ s.dev.vaultGood q = true ∧ ((∀ p, kwUnwrap (s.dev.keyBytes q) (leBytes 48 (s.dev.rd O.VAULT_ARG_BLOB row)) = some p → Device.importOk p = false) ∧ e = 0xA106 ∨ (∃ p, kwUnwrap (s.dev.keyBytes q) (leBytes 48 (s.dev.rd O.VAULT_ARG_BLOB row)) = some p ∧ Device.importOk p = true) ∧ s.dev.freeSlot = none ∧ e = 0xA206) ∧ Unarmed s.dev) req 1 2 0xA106 (importing importBad [])) :=
  ⟨by unfold Asked; decide +kernel,
    by unfold KeysServed; decide +kernel,
    by decide +kernel,
    by decide +kernel,
    by decide +kernel,
    by decide +kernel,
    by decide +kernel,
    unarmed (by decide +kernel)⟩

theorem witness_KeysAreImportedDerivedAndZeroized_3 :
    ((fun (r : Req) (row : Nat) (e : Nat) (s : State) =>
      Asked r O.VAULT_CMD row s.dev ∧ KeysServed s.dev ∧ (s.dev.slotOf (s.dev.rd O.VAULT_ARG_KEY row) = none ∧ e = 0xA101 ∨ (∃ q, s.dev.slotOf (s.dev.rd O.VAULT_ARG_KEY row) = some q ∧ (s.dev.rd O.VAULT_PURPOSE q ≠ 1 ∧ e = 0xA403 ∨ s.dev.rd O.VAULT_PURPOSE q = 1 ∧ (s.dev.rd O.VAULT_STATE q = 2 ∨ s.dev.rd O.VAULT_STATE q = 3) ∧ e = 0xA404))) ∧ Unarmed s.dev) req 1 0xA404 (importing import256 [(O.VAULT_STATE, 2, 3)])) :=
  ⟨by unfold Asked; decide +kernel,
    by unfold KeysServed; decide +kernel,
    by decide +kernel,
    unarmed (by decide +kernel)⟩

theorem witness_KeysAreImportedDerivedAndZeroized_4 :
    ((fun (r : Req) (row : Nat) (q : Nat) (k : Nat) (bits : Nat) (s : State) =>
      Asked r O.VAULT_CMD row s.dev ∧ KeysServed s.dev ∧ s.dev.slotOf (s.dev.rd O.VAULT_ARG_KEY row) = some q ∧ bits = s.dev.rd O.VAULT_ARG_KEY_BITS row ∧ (bits = 256 ∨ bits = 128 ∧ s.dev.rd O.VAULT_ARG_LEVEL row ≠ 2) ∧ (s.dev.rd O.VAULT_ARG_LEVEL row = 2 → s.dev.rd O.VAULT_ARG_USES row = 0) ∧ s.dev.argLabel row ≠ [] ∧ Device.labelReserved (s.dev.argLabel row) = false ∧ s.dev.rd O.VAULT_LEVEL q = 2 ∧ Device.deriveOk (s.dev.rd O.VAULT_PURPOSE q) (s.dev.rd O.VAULT_ARG_PURPOSE row) = true ∧ Device.levelOk (s.dev.rd O.VAULT_ARG_LEVEL row) (s.dev.rd O.VAULT_ARG_PURPOSE row) = true ∧ s.dev.rd O.VAULT_STATE q = 1 ∧ s.dev.vaultGood q = true ∧ s.dev.freeSlot = some k) req 1 2 4 128 (deriving_ 2)) :=
  ⟨by unfold Asked; decide +kernel,
    by unfold KeysServed; decide +kernel,
    by decide +kernel,
    by decide +kernel,
    by decide +kernel,
    by decide +kernel,
    by decide +kernel,
    by decide +kernel,
    by decide +kernel,
    by decide +kernel,
    by decide +kernel,
    by decide +kernel,
    by decide +kernel,
    by decide +kernel⟩

theorem witness_KeysAreImportedDerivedAndZeroized_5 :
    ((fun (r : Req) (row : Nat) (q : Nat) (e : Nat) (s : State) =>
      Asked r O.VAULT_CMD row s.dev ∧ KeysServed s.dev ∧ s.dev.slotOf (s.dev.rd O.VAULT_ARG_KEY row) = some q ∧ s.dev.deriveArgsBad row = false ∧ (s.dev.freeSlot = none ∧ e = 0xA206 ∨ s.dev.freeSlot ≠ none ∧ s.dev.rd O.VAULT_LEVEL q ≠ 2 ∧ e = 0xA403 ∨ s.dev.freeSlot ≠ none ∧ Device.deriveOk (s.dev.rd O.VAULT_PURPOSE q) (s.dev.rd O.VAULT_ARG_PURPOSE row) = false ∧ e = 0xA403 ∨ s.dev.freeSlot ≠ none ∧ s.dev.deriveMismatch row = false ∧ s.dev.rd O.VAULT_STATE q = 2 ∧ e = 0xA404)) req 1 2 0xA403 (deriving_ 1)) :=
  ⟨by unfold Asked; decide +kernel,
    by unfold KeysServed; decide +kernel,
    by decide +kernel,
    by decide +kernel,
    by decide +kernel⟩

theorem witness_KeysAreImportedDerivedAndZeroized_6 :
    ((fun (r : Req) (row : Nat) (m : Nat) (s : State) =>
      Asked r O.VAULT_CMD row s.dev ∧ KeysServed s.dev ∧ s.dev.successorM = some m ∧ s.dev.rd O.VAULT_STATE 1 = 1 ∧ s.dev.vaultGood 1 = true ∧ s.dev.rd O.VAULT_STATE 3 ≠ 1) req 1 ((succeeding []).dev.manNat 1 48 32) (succeeding [])) :=
  ⟨by unfold Asked; decide +kernel,
    by unfold KeysServed; decide +kernel,
    by decide +kernel,
    by decide +kernel,
    by decide +kernel,
    by decide +kernel⟩

theorem witness_KeysAreImportedDerivedAndZeroized_7 :
    ((fun (r : Req) (row : Nat) (e : Nat) (s : State) =>
      Asked r O.VAULT_CMD row s.dev ∧ KeysServed s.dev ∧ (s.dev.successorM = none ∧ e = 0xA303 ∨ s.dev.successorM ≠ none ∧ s.dev.rd O.VAULT_STATE 1 = 0 ∧ e = 0xA101 ∨ s.dev.successorM ≠ none ∧ s.dev.rd O.VAULT_STATE 1 ≠ 0 ∧ s.dev.rd O.VAULT_STATE 3 = 1 ∧ e = 0xA201)) req 1 0xA303 (st (clock []))) :=
  ⟨by unfold Asked; decide +kernel,
    by unfold KeysServed; decide +kernel,
    by decide +kernel⟩

theorem witness_KeysAreImportedDerivedAndZeroized_8 :
    ((fun (r : Req) (row : Nat) (k : Nat) (s : State) =>
      Asked r O.VAULT_CMD row s.dev ∧ KeysServed s.dev ∧ s.dev.slotOf (s.dev.rd O.VAULT_ARG_KEY row) = some k ∧ 3 ≤ k ∧ Unarmed s.dev ∧ (∀ j ∈ s.dev.la.jobs, j.slot ≠ k)) req 1 3 (st (zeroizing 3))) :=
  ⟨by unfold Asked; decide +kernel,
    by unfold KeysServed; decide +kernel,
    by decide +kernel,
    by decide +kernel,
    unarmed (by decide +kernel),
    by decide +kernel⟩

theorem witness_KeysAreImportedDerivedAndZeroized_9 :
    ((fun (r : Req) (row : Nat) (k : Nat) (j : LaJob) (s : State) =>
      Asked r O.VAULT_CMD row s.dev ∧ KeysServed s.dev ∧ s.dev.slotOf (s.dev.rd O.VAULT_ARG_KEY row) = some k ∧ 3 ≤ k ∧ Unarmed s.dev ∧ s.dev.la.jobs = [j] ∧ j.slot = k) req 1 1023 ({ job3 with slot := 1023 }) (st (withJobs [{ job3 with slot := 1023 }] (zeroizing 1023)))) :=
  ⟨by unfold Asked; decide +kernel,
    by unfold KeysServed; decide +kernel,
    by decide +kernel,
    by decide +kernel,
    unarmed (by decide +kernel),
    by decide +kernel,
    by decide +kernel⟩

theorem witness_KeysAreImportedDerivedAndZeroized_10 :
    ((fun (r : Req) (row : Nat) (k : Nat) (s : State) =>
      Asked r O.VAULT_CMD row s.dev ∧ KeysServed s.dev ∧ s.dev.slotOf (s.dev.rd O.VAULT_ARG_KEY row) = some k ∧ k < 3) req 1 2 (st (zeroizing 2))) ∧
    ((fun (r : Req) (row : Nat) (s : State) =>
      Asked r O.VAULT_CMD row s.dev ∧ KeysServed s.dev) req 1 (st (residentSa 1 4 [(O.VAULT_ARG_CA, 1, 5)]))) :=
  ⟨⟨by unfold Asked; decide +kernel,
    by unfold KeysServed; decide +kernel,
    by decide +kernel,
    by decide +kernel⟩,
   ⟨by unfold Asked; decide +kernel,
    by unfold KeysServed; decide +kernel⟩⟩

theorem witness_KeysAreImportedDerivedAndZeroized_11 :
    ((fun (r : Req) (row : Nat) (s : State) =>
      Asked r O.VAULT_CMD row s.dev ∧ KeysServed s.dev ∧ s.dev.la.jobs ≠ []) req 1 (st (withJobs [job3] (clock [])))) ∧
    ((fun (r : Req) (row : Nat) (s : State) =>
      Asked r O.VAULT_CMD row s.dev ∧ KeysServed s.dev ∧ s.dev.la.jobs = []) req 1 (st (clock []))) :=
  ⟨⟨by unfold Asked; decide +kernel,
    by unfold KeysServed; decide +kernel,
    by decide +kernel⟩,
   ⟨by unfold Asked; decide +kernel,
    by unfold KeysServed; decide +kernel,
    by decide +kernel⟩⟩

theorem witness_KeysAreImportedDerivedAndZeroized_12 :
    ((fun (r : Req) (row : Nat) (i : Instr) (s : State) =>
      Asked r O.VAULT_CMD row s.dev ∧ s.dev.mode = .safe ∧ s.dev.rd O.FLT_FATAL_SINCE_BOOT = 1 ∧ i ∈ [Instr.vaultImport r row, .vaultDerive r row, .deriveSuccessor r row, .zeroizeSlot r row, .zeroizeTenant r row, .zeroizeAll r row]) req 1 (.zeroizeAll req 1) (st (dev .safe (sv ++ [(O.FLT_FATAL_SINCE_BOOT, 0, 1)])))) :=
  ⟨by unfold Asked; decide +kernel,
    by decide +kernel,
    by decide +kernel,
    by decide +kernel⟩

/-! ### Random -/

/-- SA 12 is in force in slot 7, its context with a check code that agrees. -/
def resident7 : Device :=
  let d := residentSa 2 4 []
  let x := { SaCtx.empty with sak := leBytes 32 9, attr := 1 }
  d.setCtx 7 { x with check := d.ctxCheck 7 x }
def drbg (n fails : Nat) : State := st (let d := clock [(O.DRBG_STATE, 0, n)]; d.setKeys { d.keys with entropyFails := fails })
def afterFatal : State := st (dev .safe (owner ++ [(O.FLT_FATAL_SINCE_BOOT, 0, 1)]))

theorem witness_KeysAreScrubbedAndRandomnessIsTested :
    ((fun (x : ScrubTarget) (p : Nat) (s : State) =>
      s.dev.clockOn = true ∧ p = Device.scrubPos x ∧ s.dev.scrubNext p = true ∧ (∀ k, x = .vault k → s.dev.vaultGood k = true) ∧ (∀ k, x = .context k → s.dev.ctxGood k = true)) (.vault 2) 2 (st (zeroizing 2))) :=
  ⟨by decide +kernel,
    by decide +kernel,
    by decide +kernel,
    by intro k h; cases h; decide +kernel,
    by intro k h; cases h⟩

theorem witness_KeysAreScrubbedAndRandomnessIsTested_2 :
    ((fun (k : Nat) (ok : Bool) (s : State) =>
      s.dev.clockOn = true ∧ k < 1024 ∧ s.dev.scrubNext k = true ∧ (ok = false ∨ s.dev.vaultGood k = false) ∧ Calm 0x201 2 s.dev ∧ Seen 0x201 s.dev ∧ EventRoom s.dev) 2 false (st (zeroizing 2))) :=
  ⟨by decide +kernel,
    by decide +kernel,
    by decide +kernel,
    by decide +kernel,
    by unfold Calm Uncounted; decide +kernel,
    by unfold Seen; decide +kernel,
    eventRoom (by decide +kernel)⟩

theorem witness_KeysAreScrubbedAndRandomnessIsTested_3 :
    ((fun (k : Nat) (ok : Bool) (s : State) =>
      s.dev.clockOn = true ∧ s.dev.scrubNext (1024 + k) = true ∧ (ok = false ∨ s.dev.ctxGood k = false) ∧ s.dev.rd O.SA_STATE (s.dev.slotRow k) ∈ [2, 3, 4, 5] ∧ Calm 0x201 2 s.dev ∧ Seen 0x201 s.dev) 7 false (st resident7)) ∧
    ((fun (s : State) =>
      s.dev.rd O.DRBG_STATE = 1 ∧ (2 ^ 20 ≤ s.dev.keys.requests ∨ s.dev.clockOn = true)) (st (clock []))) :=
  ⟨⟨by decide +kernel,
    by decide +kernel,
    by decide +kernel,
    by decide +kernel,
    by unfold Calm Uncounted; decide +kernel,
    by unfold Seen; decide +kernel⟩,
   ⟨by decide +kernel,
    by decide +kernel⟩⟩

theorem witness_KeysAreScrubbedAndRandomnessIsTested_4 :
    ((fun (s : State) =>
      s.dev.rd O.DRBG_STATE = 1 ∧ Calm 0x202 2 s.dev ∧ Seen 0x202 s.dev ∧ EventRoom s.dev) (st (clock []))) ∧
    ((fun (s : State) =>
      s.dev.rd O.DRBG_STATE = 2) (drbg 2 0)) ∧
    ((fun (s : State) =>
      s.dev.rd O.DRBG_STATE = 2 ∧ s.dev.keys.entropyFails < 2) (drbg 2 1)) :=
  ⟨⟨by decide +kernel,
    by unfold Calm Uncounted; decide +kernel,
    by unfold Seen; decide +kernel,
    eventRoom (by decide +kernel)⟩,
   by beta_reduce; decide +kernel,
   ⟨by decide +kernel,
    by decide +kernel⟩⟩

theorem witness_KeysAreScrubbedAndRandomnessIsTested_5 :
    ((fun (i : Instr) (s : State) =>
      (i = Instr.entropyRestartDone false ∧ s.dev.rd O.DRBG_STATE = 2 ∨ i = .drbgReinstantiate false ∧ s.dev.rd O.FLT_FATAL_SINCE_BOOT = 1 ∧ s.dev.rd O.DRBG_STATE = 0 ∧ s.dev.mode ≠ .boot) ∧ s.dev.keys.entropyFails = 2 ∧ Calm 0x202 3 s.dev ∧ Seen 0x202 s.dev) (.entropyRestartDone false) (drbg 2 2)) ∧
    ((fun (s : State) =>
      s.dev.rd O.FLT_FATAL_SINCE_BOOT = 1 ∧ s.dev.rd O.DRBG_STATE = 0 ∧ s.dev.mode ≠ .boot) afterFatal) ∧
    ((fun (i : Instr) (s : State) =>
      (i = Instr.drbgReseed ∧ s.dev.rd O.DRBG_STATE ≠ 1 ∨ i = .entropyTestFail ∧ s.dev.rd O.DRBG_STATE ≠ 1 ∨ (∃ b, i = .entropyRestartDone b) ∧ s.dev.rd O.DRBG_STATE ≠ 2 ∨ (∃ b, i = .drbgReinstantiate b) ∧ s.dev.rd O.DRBG_STATE ≠ 0)) (.drbgReseed) (drbg 0 0)) :=
  ⟨⟨by decide +kernel,
    by decide +kernel,
    by unfold Calm Uncounted; decide +kernel,
    by unfold Seen; decide +kernel⟩,
   ⟨by decide +kernel,
    by decide +kernel,
    by decide +kernel⟩,
   by beta_reduce; decide +kernel⟩

/-! ### Lookaside -/

/-- Ring 3 is a lookaside ring with two descriptors ready, slot 2 holds its key. -/
def laDev (l : List (Nat × Nat × Nat)) : Device := slotDev 2 4 1 [] (ring3 3 5 7 ++ l)
def laDesc (handle : Nat) (err : Bool) : Descriptor := ⟨64, 40, leBytes 8 512 ++ leBytes 4 handle ++ leBytes 4 2, err⟩
/-- Job `j` of ring 3 runs. -/
def laRun (j : LaJob) (d : Device) : Device := (withJobs [j] d).setTaken 3 [⟨0, none⟩]
def mac3 : LaJob := { job3 with mode := 5, op := 1, params := { laParams with tagLen := 4, tag := leBytes 4 1 } }

theorem witness_LookasideJobsAreTakenSlicedAndCompleted :
    ((fun (n : Nat) (x : Descriptor) (p : LaParams) (src : Bytes) (aad : Bytes) (k : Nat) (s : State) =>
      LaTurn n s.dev ∧ s.dev.descCheck n x = 0 ∧ s.dev.laCheckA n x p = 0 ∧ s.dev.slotOf (laHandle x) = some k ∧ s.dev.rd O.VAULT_STATE k = 1 ∧ s.dev.vaultGood k = true ∧ s.dev.laCheckB k x p = 0 ∧ x.pcieError = false) 3 (laDesc 2 false) laParams (leBytes 40 7) [] 2 (st (laDev []))) :=
  ⟨by unfold LaTurn; decide +kernel,
    by decide +kernel,
    by decide +kernel,
    by decide +kernel,
    by decide +kernel,
    by decide +kernel,
    by decide +kernel,
    by decide +kernel⟩

theorem witness_LookasideJobsAreTakenSlicedAndCompleted_2 :
    ((fun (n : Nat) (x : Descriptor) (p : LaParams) (src : Bytes) (aad : Bytes) (k : Nat) (s : State) =>
      LaTurn n s.dev ∧ s.dev.descCheck n x = 0 ∧ s.dev.laCheckA n x p = 0 ∧ s.dev.slotOf (laHandle x) = some k ∧ s.dev.rd O.VAULT_STATE k = 1 ∧ s.dev.vaultGood k = true ∧ s.dev.laCheckB k x p = 0 ∧ x.pcieError = true) 3 (laDesc 2 true) laParams [] [] 2 (st (laDev []))) :=
  ⟨by unfold LaTurn; decide +kernel,
    by decide +kernel,
    by decide +kernel,
    by decide +kernel,
    by decide +kernel,
    by decide +kernel,
    by decide +kernel,
    by decide +kernel⟩

theorem witness_LookasideJobsAreTakenSlicedAndCompleted_3 :
    ((fun (n : Nat) (x : Descriptor) (p : LaParams) (src : Bytes) (aad : Bytes) (e : Nat) (s : State) =>
      LaTurn n s.dev ∧ s.dev.descCheck n x = 0 ∧ (s.dev.laCheckA n x p = e ∧ e ≠ 0 ∨ s.dev.laCheckA n x p = 0 ∧ (∃ k, s.dev.slotOf (laHandle x) = some k ∧ ((s.dev.rd O.VAULT_STATE k = 2 ∨ s.dev.rd O.VAULT_STATE k = 3) ∧ e = 3 ∨ s.dev.rd O.VAULT_STATE k = 1 ∧ s.dev.vaultGood k = true ∧ s.dev.laCheckB k x p = e ∧ e ≠ 0)))) 3 (laDesc 9 false) laParams [] [] 1 (st (laDev []))) :=
  ⟨by unfold LaTurn; decide +kernel,
    by decide +kernel,
    by decide +kernel⟩

theorem witness_LookasideJobsAreTakenSlicedAndCompleted_4 :
    ((fun (n : Nat) (j : LaJob) (m : Nat) (k : Nat) (s : State) =>
      s.dev.jobOf n = some j ∧ j.yielded = false ∧ j.mode ≠ 6 ∧ k = 1024 * s.dev.rd O.LA_SLICE_KIB ∧ j.done + k < j.src.length ∧ m < 64 ∧ m ≠ n ∧ s.dev.laWaits m = true) 3 ({ job3 with src := leBytes 1025 7 }) 63 1024 (st (withJobs [{ job3 with src := leBytes 1025 7 }, { job3 with ring := 63, yielded := true }] (laDev [(O.LA_SLICE_KIB, 0, 1)])))) :=
  ⟨by decide +kernel,
    by decide +kernel,
    by decide +kernel,
    by decide +kernel,
    by decide +kernel,
    by decide +kernel,
    by decide +kernel,
    by decide +kernel⟩

theorem witness_LookasideJobsAreTakenSlicedAndCompleted_5 :
    ((fun (n : Nat) (j : LaJob) (s : State) =>
      Runs n j s.dev ∧ s.dev.la.zeroing = [] ∧ (laResult j).bad = false) 3 job3 (st (laRun job3 (laDev [])))) ∧
    ((fun (n : Nat) (j : LaJob) (s : State) =>
      Runs n j s.dev ∧ s.dev.la.zeroing = [] ∧ (laResult j).bad = true) 3 mac3 (st (laRun mac3 (laDev [])))) ∧
    ((fun (n : Nat) (j : LaJob) (s : State) =>
      Runs n j s.dev ∧ s.dev.la.zeroing = []) 3 job3 (st (laRun job3 (laDev [])))) :=
  ⟨⟨by unfold Runs; decide +kernel,
    by decide +kernel,
    by decide +kernel⟩,
   ⟨by unfold Runs; decide +kernel,
    by decide +kernel,
    by decide +kernel⟩,
   ⟨by unfold Runs; decide +kernel,
    by decide +kernel⟩⟩

theorem witness_LookasideJobsAreTakenSlicedAndCompleted_6 :
    ((fun (n : Nat) (j : LaJob) (v : Nat) (o : Bool) (s : State) =>
      Runs n j s.dev ∧ s.dev.la.zeroing = [(v, false, [n])]) 3 job3 1 false (st ((laRun job3 (laDev [])).setLa { (laRun job3 (laDev [])).la with zeroing := [(1, false, [3])] }))) ∧
    ((fun (n : Nat) (j : LaJob) (o : Bool) (s : State) =>
      s.dev.jobOf n = some j ∧ (j.yielded = true ∨ s.dev.kwWaits j = true)) 3 ({ job3 with yielded := true }) false (st (withJobs [{ job3 with yielded := true }] (laDev [])))) :=
  ⟨⟨by unfold Runs; decide +kernel,
    by decide +kernel⟩,
   ⟨by decide +kernel,
    by decide +kernel⟩⟩

/-! ### Extmem -/

/-- A line of host scratch, and its offset. -/
def scratchLine : Nat := 0x3C8000
def scratchAt : Nat := 0x0F200000
def memDev (f : MemX → MemX) (l : List (Nat × Nat × Nat)) : Device := (clock l).setMem (f (clock l).mem)
def mem (f : MemX → MemX) (l : List (Nat × Nat × Nat)) : State := st (memDev f l)
def bare : State := mem id []
/-- Line `p` is poisoned. -/
def poisoned (p : Nat) (l : List (Nat × Nat × Nat)) : State := mem (fun m => { m with poisoned := [(p, 3)] }) l
/-- Channel 0 is out of calibration since cycle 0. -/
def uncalibrated (l : List (Nat × Nat × Nat)) : State := mem (fun m => { m with calib := [(0, 0)] }) ((O.FLT_SRC_STATE, 0x300, 1) :: l)
def waitingRead : MemReq := ⟨[0], 5, .lineRead scratchLine .ok, 0⟩
def waitingLookup : MemReq := ⟨[1], 1, .lookup 4, 58⟩
def waitingScrub : MemReq := ⟨[2], 6, .scrub 2 5 0 .clean, 0⟩
def queuedMem (l : List MemReq) : Device := memDev (fun m => { m with waiting := l }) []
/-- The memory window of session row 1 names `n` bytes at `o`. -/
def window (o n : Nat) : List (Nat × Nat × Nat) := [(O.MEM_WIN_OFFSET, 1, o), (O.MEM_WIN_LEN, 1, n)]
/-- BAR2 acts under session 289, of this role, in this life-cycle state. -/
def aperture (role lc : Nat) : State :=
  mem id ([(O.SESSION_STATE, 33, 2), (O.SESSION_ID, 33, 289), (O.SESSION_ROLE, 33, role), (O.PCIE_APERTURE_SESSION, 0, 289), (O.LC_STATE, 0, lc)])
def retiring (sw forced : Bool) : State :=
  mem (fun m => { m with retiring := some (3, forced), switched := sw, copied := 983039 }) [(O.MEM_CH_STATE, 3, 1)]

theorem witness_MemoryIsReadWrittenAndScrubbed :
    ((fun (p : Nat) (o : LineOutcome) (s : State) =>
      MemSound s.dev ∧ MemIdle (s.dev.place p).1 s.dev ∧ s.dev.memReady = true ∧ s.dev.mapped (64 * p) = true ∧ s.dev.poisonedLine p = false ∧ (o = .ok ∨ (∃ x tag, o = .raw x tag ∧ s.dev.dataTag p x = tag) ∨ ∃ l x tag, o = .rawNode l x tag ∧ s.dev.nodeTag p l x = tag)) scratchLine (.ok) bare) :=
  ⟨memSound (by decide +kernel) (by decide +kernel) (by decide +kernel) (by decide +kernel) (by decide +kernel) (by decide +kernel),
    by unfold MemIdle; decide +kernel,
    by decide +kernel,
    by decide +kernel,
    by decide +kernel,
    Or.inl rfl⟩

theorem witness_MemoryIsReadWrittenAndScrubbed_2 :
    ((fun (p : Nat) (n : Nat) (c : Nat) (s : State) =>
      MemSound s.dev ∧ MemIdle c s.dev ∧ s.dev.memReady = true ∧ s.dev.mapped (64 * p) = true ∧ s.dev.poisonedLine p = false ∧ c = (s.dev.place p).1) scratchLine 2 0 bare) :=
  ⟨memSound (by decide +kernel) (by decide +kernel) (by decide +kernel) (by decide +kernel) (by decide +kernel) (by decide +kernel),
    by unfold MemIdle; decide +kernel,
    by decide +kernel,
    by decide +kernel,
    by decide +kernel,
    by decide +kernel⟩

theorem witness_MemoryIsReadWrittenAndScrubbed_3 :
    ((fun (p : Nat) (n : Nat) (c : Nat) (s : State) =>
      MemSound s.dev ∧ MemIdle c s.dev ∧ s.dev.memReady = true ∧ s.dev.mapped (64 * p) = true ∧ s.dev.poisonedLine p = false ∧ c = (s.dev.place p).1) scratchLine 2 0 bare) :=
  ⟨memSound (by decide +kernel) (by decide +kernel) (by decide +kernel) (by decide +kernel) (by decide +kernel) (by decide +kernel),
    by unfold MemIdle; decide +kernel,
    by decide +kernel,
    by decide +kernel,
    by decide +kernel,
    by decide +kernel⟩

theorem witness_MemoryIsReadWrittenAndScrubbed_4 :
    ((fun (p : Nat) (o : LineOutcome) (n : Nat) (s : State) =>
      MemSound s.dev ∧ MemIdle (s.dev.place p).1 s.dev ∧ s.dev.memReady = true ∧ s.dev.mapped (64 * p) = true ∧ (o = .failed n ∨ (∃ x tag, o = .raw x tag ∧ s.dev.dataTag p x ≠ tag ∧ n = 0) ∨ o = .ok ∧ s.dev.poisonedLine p = true ∧ n = 0) ∧ Calm 0x304 2 s.dev ∧ Seen 0x304 s.dev ∧ EventRoom s.dev) scratchLine (.ok) 0 (poisoned scratchLine [])) :=
  ⟨memSound (by decide +kernel) (by decide +kernel) (by decide +kernel) (by decide +kernel) (by decide +kernel) (by decide +kernel),
    by unfold MemIdle; decide +kernel,
    by decide +kernel,
    by decide +kernel,
    Or.inr (Or.inr ⟨rfl, by decide +kernel, rfl⟩),
    by unfold Calm Uncounted; decide +kernel,
    by unfold Seen; decide +kernel,
    eventRoom (by decide +kernel)⟩

theorem witness_MemoryIsReadWrittenAndScrubbed_5 :
    ((fun (p : Nat) (o : LineOutcome) (level : Nat) (n : Nat) (m : Nat) (c : Nat) (s : State) =>
      MemSound s.dev ∧ MemIdle c s.dev ∧ s.dev.memReady = true ∧ s.dev.mapped (64 * p) = true ∧ c = (s.dev.place p).1 ∧ (o = .nodeFailed level n ∨ ∃ x tag, o = .rawNode level x tag ∧ s.dev.nodeTag p level x ≠ tag ∧ n = 0) ∧ Device.nodeAbove (s.dev.place p).2 level = some m ∧ s.dev.nodeRead p m = true ∧ Calm (0x300 + c) 3 s.dev ∧ Seen (0x300 + c) s.dev) scratchLine (.nodeFailed 1 0) 1 0 ((Device.nodeAbove (bare.dev.place scratchLine).2 1).getD 0) 0 bare) :=
  ⟨memSound (by decide +kernel) (by decide +kernel) (by decide +kernel) (by decide +kernel) (by decide +kernel) (by decide +kernel),
    by unfold MemIdle; decide +kernel,
    by decide +kernel,
    by decide +kernel,
    by decide +kernel,
    Or.inl rfl,
    by decide +kernel,
    by decide +kernel,
    by unfold Calm Uncounted; decide +kernel,
    by unfold Seen; decide +kernel⟩

theorem witness_MemoryIsReadWrittenAndScrubbed_6 :
    ((fun (p : Nat) (v : Bytes) (s : State) =>
      MemSound s.dev ∧ MemIdle (s.dev.place p).1 s.dev ∧ s.dev.memReady = true ∧ s.dev.mapped (64 * p) = true) scratchLine (leBytes 64 7) (poisoned scratchLine [])) :=
  ⟨memSound (by decide +kernel) (by decide +kernel) (by decide +kernel) (by decide +kernel) (by decide +kernel) (by decide +kernel),
    by unfold MemIdle; decide +kernel,
    by decide +kernel,
    by decide +kernel⟩

theorem witness_MemoryIsReadWrittenAndScrubbed_7 :
    ((fun (o : Nat) (v : Bytes) (s : State) =>
      MemSound s.dev ∧ MemIdle (s.dev.place (o / 64)).1 s.dev ∧ s.dev.memReady = true ∧ regionOf o = .scratch ∧ inLine o v.length = true ∧ s.dev.poisonedLine (o / 64) = false) (scratchAt + 60) (leBytes 4 7) bare) :=
  ⟨memSound (by decide +kernel) (by decide +kernel) (by decide +kernel) (by decide +kernel) (by decide +kernel) (by decide +kernel),
    by unfold MemIdle; decide +kernel,
    by decide +kernel,
    by decide +kernel,
    by decide +kernel,
    by decide +kernel⟩

theorem witness_MemoryIsReadWrittenAndScrubbed_8 :
    ((fun (o : Nat) (v : Bytes) (x : LineOutcome) (n : Nat) (s : State) =>
      MemSound s.dev ∧ MemIdle (s.dev.place (o / 64)).1 s.dev ∧ s.dev.memReady = true ∧ regionOf o = .scratch ∧ inLine o v.length = true ∧ (x = .failed n ∨ (∃ y tag, x = .raw y tag ∧ s.dev.dataTag (o / 64) y ≠ tag) ∨ x = .ok ∧ s.dev.poisonedLine (o / 64) = true) ∧ Calm 0x304 2 s.dev ∧ Seen 0x304 s.dev) scratchAt (leBytes 64 7) (.failed 2) 2 bare) :=
  ⟨memSound (by decide +kernel) (by decide +kernel) (by decide +kernel) (by decide +kernel) (by decide +kernel) (by decide +kernel),
    by unfold MemIdle; decide +kernel,
    by decide +kernel,
    by decide +kernel,
    by decide +kernel,
    Or.inl rfl,
    by unfold Calm Uncounted; decide +kernel,
    by unfold Seen; decide +kernel⟩

theorem witness_MemoryIsReadWrittenAndScrubbed_9 :
    ((fun (c : Nat) (level : Nat) (n : Nat) (k : Nat) (s : State) =>
      Device.nodeNumber level n = some k ∧ MemSound s.dev ∧ s.dev.nodeCached (Device.physKey c k) = true) 3 6 5 224693 (mem (fun m => { m with cached := [(Device.physKey 3 224693, true)] }) [])) :=
  ⟨by decide +kernel,
    memSound (by decide +kernel) (by decide +kernel) (by decide +kernel) (by decide +kernel) (by decide +kernel) (by decide +kernel),
    by decide +kernel⟩

theorem witness_MemoryIsReadWrittenAndScrubbed_10 :
    ((fun (c : Nat) (line : Nat) (word : Nat) (x : ScrubOutcome) (s : State) =>
      s.dev.clockOn = true ∧ MemIdle c s.dev ∧ s.dev.memReady = true ∧ c < 4 ∧ line < 2097152 ∧ word < 8 ∧ s.dev.rd O.MEM_CH_STATE c ≠ 2 ∧ (x = .clean ∨ x = .locked)) 3 2097151 7 (.locked) bare) :=
  ⟨by decide +kernel,
    by unfold MemIdle; decide +kernel,
    by decide +kernel,
    by decide +kernel,
    by decide +kernel,
    by decide +kernel,
    by decide +kernel,
    by decide +kernel⟩

theorem witness_MemoryIsReadWrittenAndScrubbed_11 :
    ((fun (c : Nat) (line : Nat) (word : Nat) (p : Nat) (i : Nat) (s : State) =>
      MemSound s.dev ∧ MemIdle c s.dev ∧ s.dev.memReady = true ∧ c < 4 ∧ word < 8 ∧ s.dev.rd O.MEM_CH_STATE c ≠ 2 ∧ (line < 1572864 ∧ i = line ∨ 1572864 ≤ line ∧ line < 1769472 ∧ i = 8 * (line - 1572864) + word) ∧ s.dev.protectedAt c i = some p) 3 1572863 7 6291455 1572863 bare) :=
  ⟨memSound (by decide +kernel) (by decide +kernel) (by decide +kernel) (by decide +kernel) (by decide +kernel) (by decide +kernel),
    by unfold MemIdle; decide +kernel,
    by decide +kernel,
    by decide +kernel,
    by decide +kernel,
    by decide +kernel,
    by decide +kernel,
    by decide +kernel⟩

theorem witness_MemoryIsReadWrittenAndScrubbed_12 :
    ((fun (c : Nat) (line : Nat) (word : Nat) (n : Nat) (s : State) =>
      MemIdle c s.dev ∧ s.dev.memReady = true ∧ c < 4 ∧ word < 8 ∧ s.dev.rd O.MEM_CH_STATE c ≠ 2 ∧ (1769472 ≤ line ∧ line < 1994166 ∧ n = line - 1769472 ∨ 1994752 ≤ line ∧ line < 2097151 ∧ n = 8 * (line - 1994752) + word ∧ n < 224694)) 3 1994165 0 224693 bare) :=
  ⟨by unfold MemIdle; decide +kernel,
    by decide +kernel,
    by decide +kernel,
    by decide +kernel,
    by decide +kernel,
    by decide +kernel⟩

theorem witness_MemoryIsReadWrittenAndScrubbed_13 :
    ((fun (c : Nat) (line : Nat) (word : Nat) (s : State) =>
      MemIdle c s.dev ∧ s.dev.memReady = true ∧ c < 4 ∧ line < 2097151 ∧ word < 8 ∧ s.dev.rd O.MEM_CH_STATE c ≠ 2) 3 2097150 7 bare) :=
  ⟨by unfold MemIdle; decide +kernel,
    by decide +kernel,
    by decide +kernel,
    by decide +kernel,
    by decide +kernel,
    by decide +kernel⟩

theorem witness_MemoryIsReadWrittenAndScrubbed_14 :
    ((fun (p : Nat) (o : LineOutcome) (s : State) =>
      s.dev.channelStalled (s.dev.place p).1 = true ∧ s.dev.mem.waiting = [] ∧ s.dev.memReady = true ∧ s.dev.mapped (64 * p) = true) scratchLine (.ok) (uncalibrated [])) ∧
    ((fun (q : MemReq) (d : Device) =>
      d.nextGrant = some q) waitingLookup (queuedMem [waitingRead, waitingLookup])) ∧
    ((fun (q : MemReq) (d : Device) =>
      d.nextGrant = some q) waitingLookup (queuedMem [waitingRead, waitingLookup])) :=
  ⟨⟨by decide +kernel,
    by decide +kernel,
    by decide +kernel,
    by decide +kernel⟩,
   by beta_reduce; decide +kernel,
   by beta_reduce; decide +kernel⟩

theorem witness_MemoryIsReadWrittenAndScrubbed_15 :
    ((fun (q : MemReq) (d : Device) (x : MemReq) =>
      d.nextGrant = some q ∧ (∀ x ∈ d.mem.waiting, x.passed < Device.starveLimit) ∧ d.grantable x = true) waitingRead (queuedMem [waitingRead, waitingScrub]) waitingScrub) ∧
    ((fun (q : MemReq) (d : Device) (x : MemReq) =>
      d.nextGrant = some q ∧ d.grantable x = true ∧ Device.starveLimit ≤ x.passed) waitingLookup (queuedMem [waitingRead, waitingLookup]) waitingLookup) :=
  ⟨⟨by decide +kernel,
    by decide +kernel,
    by decide +kernel⟩,
   ⟨by decide +kernel,
    by decide +kernel,
    by decide +kernel⟩⟩


theorem witness_ChannelsRetireAndMastersReachMemory :
    ((fun (r : Req) (c : Nat) (s : State) =>
      Asked r O.MEM_CH_CMD c s.dev ∧ (∀ k, k < 4 → s.dev.rd O.MEM_CH_STATE k = 0) ∧ Calm (0x300 + c) 2 s.dev ∧ Seen (0x300 + c) s.dev ∧ EventRoom s.dev) req 3 bare) ∧
    ((fun (r : Req) (c : Nat) (k : Nat) (s : State) =>
      Asked r O.MEM_CH_CMD c s.dev ∧ k < 4 ∧ s.dev.rd O.MEM_CH_STATE k ≠ 0) req 3 0 (mem id [(O.MEM_CH_STATE, 0, 2)])) :=
  ⟨⟨by unfold Asked; decide +kernel,
    by decide +kernel,
    by unfold Calm Uncounted; decide +kernel,
    by unfold Seen; decide +kernel,
    eventRoom (by decide +kernel)⟩,
   ⟨by unfold Asked; decide +kernel,
    by decide +kernel,
    by decide +kernel⟩⟩

theorem witness_ChannelsRetireAndMastersReachMemory_2 :
    ((fun (c : Nat) (s : State) =>
      s.dev.memReady = true ∧ c < 4 ∧ (∀ k, k < 4 → s.dev.rd O.MEM_CH_STATE k = 0) ∧ s.dev.rd O.MEM_CH_RETIRE_UNCORR c ≤ s.dev.uncorrNow c ∧ Calm (0x300 + c) 2 s.dev ∧ Seen (0x300 + c) s.dev ∧ EventRoom s.dev) 3 (mem (fun m => { m with uncorr := [(3, 0, 5)] }) [(O.MEM_CH_RETIRE_UNCORR, 3, 5)])) :=
  ⟨by decide +kernel,
    by decide +kernel,
    by decide +kernel,
    by decide +kernel,
    by unfold Calm Uncounted; decide +kernel,
    by unfold Seen; decide +kernel,
    eventRoom (by decide +kernel)⟩

theorem witness_ChannelsRetireAndMastersReachMemory_3 :
    ((fun (c : Nat) (k : Nat) (s : State) =>
      s.dev.memReady = true ∧ c < 4 ∧ s.dev.rd O.MEM_CH_STATE c = 0 ∧ k < 4 ∧ s.dev.rd O.MEM_CH_STATE k ≠ 0 ∧ s.dev.rd O.MEM_CH_RETIRE_UNCORR c ≤ s.dev.uncorrNow c ∧ Calm (0x300 + c) 3 s.dev ∧ Seen (0x300 + c) s.dev) 3 0 (mem (fun m => { m with uncorr := [(3, 0, 5)] }) [(O.MEM_CH_RETIRE_UNCORR, 3, 5), (O.MEM_CH_STATE, 0, 2)])) :=
  ⟨by decide +kernel,
    by decide +kernel,
    by decide +kernel,
    by decide +kernel,
    by decide +kernel,
    by decide +kernel,
    by unfold Calm Uncounted; decide +kernel,
    by unfold Seen; decide +kernel⟩

theorem witness_ChannelsRetireAndMastersReachMemory_4 :
    ((fun (c : Nat) (s : State) =>
      s.dev.memReady = true ∧ c < 4 ∧ s.dev.rd O.MEM_CH_STATE c ≠ 2 ∧ (∀ e ∈ s.dev.mem.calib, e.1 ≠ c) ∧ Seen (0x300 + c) s.dev) 3 bare) :=
  ⟨by decide +kernel,
    by decide +kernel,
    by decide +kernel,
    by decide +kernel,
    by unfold Seen; decide +kernel⟩

theorem witness_ChannelsRetireAndMastersReachMemory_5 :
    ((fun (c : Nat) (e : Nat × Nat) (s : State) =>
      e ∈ s.dev.mem.calib ∧ e.1 = c ∧ s.dev.mem.waiting = [] ∧ Seen (0x300 + c) s.dev) 0 ((0, 0)) (uncalibrated [])) :=
  ⟨by decide +kernel,
    by decide +kernel,
    by decide +kernel,
    by unfold Seen; decide +kernel⟩

theorem witness_ChannelsRetireAndMastersReachMemory_6 :
    ((fun (c : Nat) (at0 : Nat) (s : State) =>
      s.dev.clockOn = true ∧ s.dev.mem.calib.find? (fun e => e.1 == c) = some (c, at0) ∧ (∀ k, k < 4 → s.dev.rd O.MEM_CH_STATE k = 0) ∧ c < 4 ∧ s.dev.mem.waiting = [] ∧ Calm (0x300 + c) 2 s.dev ∧ Seen (0x300 + c) s.dev) 0 0 (uncalibrated [])) :=
  ⟨by decide +kernel,
    by decide +kernel,
    by decide +kernel,
    by decide +kernel,
    by decide +kernel,
    by unfold Calm Uncounted; decide +kernel,
    by unfold Seen; decide +kernel⟩

theorem witness_ChannelsRetireAndMastersReachMemory_7 :
    ((fun (c : Nat) (p : Nat) (s : State) =>
      MemSound s.dev ∧ s.dev.mem.calib = [(c, s.dev.cyc)] ∧ c = (s.dev.place p).1 ∧ s.dev.poisonedLine p = false ∧ s.dev.mem.waiting = [⟨[c], Device.classOf p, .lineRead p .ok, 0⟩] ∧ s.dev.rd O.FLT_SRC_STATE (0x300 + c) = 1 ∧ Seen (0x300 + c) s.dev) 0 scratchLine (mem (fun m => { m with calib := [(0, 0)], waiting := [waitingRead] }) [(O.FLT_SRC_STATE, 0x300, 1)])) :=
  ⟨memSound (by decide +kernel) (by decide +kernel) (by decide +kernel) (by decide +kernel) (by decide +kernel) (by decide +kernel),
    by decide +kernel,
    by decide +kernel,
    by decide +kernel,
    by decide +kernel,
    by decide +kernel,
    by unfold Seen; decide +kernel⟩

theorem witness_ChannelsRetireAndMastersReachMemory_8 :
    ((fun (c : Nat) (forced : Bool) (s : State) =>
      s.dev.mem.retiring = some (c, forced) ∧ s.dev.mem.switched = false ∧ s.dev.rd O.FLT_FATAL_SINCE_BOOT = 0 ∧ MemSound s.dev ∧ (∀ p, s.dev.poisonedLine p = false) ∧ s.dev.clsx.jobs = []) 3 false (retiring false false)) :=
  ⟨by decide +kernel,
    by decide +kernel,
    by decide +kernel,
    memSound (by decide +kernel) (by decide +kernel) (by decide +kernel) (by decide +kernel) (by decide +kernel) (by decide +kernel),
    no_poison (by decide +kernel),
    by decide +kernel⟩

theorem witness_ChannelsRetireAndMastersReachMemory_9 :
    ((fun (c : Nat) (forced : Bool) (s : State) =>
      s.dev.mem.retiring = some (c, forced) ∧ s.dev.mem.switched = true ∧ s.dev.rd O.FLT_FATAL_SINCE_BOOT = 0 ∧ c < 4 ∧ (∀ k, k < 4 → k ≠ c → s.dev.rd O.MEM_CH_STATE k = 0) ∧ MemSound s.dev) 3 true (retiring true true)) :=
  ⟨by decide +kernel,
    by decide +kernel,
    by decide +kernel,
    by decide +kernel,
    by decide +kernel,
    memSound (by decide +kernel) (by decide +kernel) (by decide +kernel) (by decide +kernel) (by decide +kernel) (by decide +kernel)⟩

theorem witness_ChannelsRetireAndMastersReachMemory_10 :
    ((fun (r : Req) (w : Nat) (o : Nat) (s : State) =>
      Asked r O.MEM_WIN_CMD w s.dev ∧ o = s.dev.rd O.MEM_WIN_OFFSET w ∧ s.dev.mapped o = true ∧ s.dev.memReadRight (s.dev.roleOf r) (regionOf o) = 2 ∧ inLine o (s.dev.rd O.MEM_WIN_LEN w) = true ∧ MemSound s.dev ∧ s.dev.poisonedLine (o / 64) = false ∧ Unarmed s.dev) req 1 (scratchAt + 60) (mem id (window (scratchAt + 60) 4))) :=
  ⟨by unfold Asked; decide +kernel,
    by decide +kernel,
    by decide +kernel,
    by decide +kernel,
    by decide +kernel,
    memSound (by decide +kernel) (by decide +kernel) (by decide +kernel) (by decide +kernel) (by decide +kernel) (by decide +kernel),
    by decide +kernel,
    unarmed (by decide +kernel)⟩

theorem witness_ChannelsRetireAndMastersReachMemory_11 :
    ((fun (r : Req) (w : Nat) (o : Nat) (s : State) =>
      Asked r O.MEM_WIN_CMD w s.dev ∧ o = s.dev.rd O.MEM_WIN_OFFSET w ∧ s.dev.mapped o = true ∧ s.dev.memReadRight (s.dev.roleOf r) (regionOf o) = 2 ∧ inLine o (s.dev.rd O.MEM_WIN_LEN w) = true ∧ MemSound s.dev ∧ s.dev.poisonedLine (o / 64) = true ∧ Calm 0x304 2 s.dev) req 1 scratchAt (poisoned scratchLine (window scratchAt 64))) :=
  ⟨by unfold Asked; decide +kernel,
    by decide +kernel,
    by decide +kernel,
    by decide +kernel,
    by decide +kernel,
    memSound (by decide +kernel) (by decide +kernel) (by decide +kernel) (by decide +kernel) (by decide +kernel) (by decide +kernel),
    by decide +kernel,
    by unfold Calm Uncounted; decide +kernel⟩

theorem witness_ChannelsRetireAndMastersReachMemory_12 :
    ((fun (r : Req) (w : Nat) (o : Nat) (s : State) =>
      Asked r O.MEM_WIN_CMD w s.dev ∧ o = s.dev.rd O.MEM_WIN_OFFSET w ∧ regionOf o = .scratch ∧ s.dev.memWriteRight (s.dev.roleOf r) .scratch = true ∧ inLine o (s.dev.rd O.MEM_WIN_LEN w) = true ∧ MemSound s.dev ∧ s.dev.poisonedLine (o / 64) = false) req 1 (scratchAt + 60) (mem id ((O.MEM_WIN_DATA, 1, 77) :: window (scratchAt + 60) 4))) :=
  ⟨by unfold Asked; decide +kernel,
    by decide +kernel,
    by decide +kernel,
    by decide +kernel,
    by decide +kernel,
    memSound (by decide +kernel) (by decide +kernel) (by decide +kernel) (by decide +kernel) (by decide +kernel) (by decide +kernel),
    by decide +kernel⟩

theorem witness_ChannelsRetireAndMastersReachMemory_13 :
    ((fun (r : Req) (w : Nat) (o : Nat) (s : State) =>
      Asked r O.MEM_WIN_CMD w s.dev ∧ o = s.dev.rd O.MEM_WIN_OFFSET w ∧ s.dev.mapped o = true ∧ s.dev.memReadRight (s.dev.roleOf r) (regionOf o) ≠ 0 ∧ inLine o (s.dev.rd O.MEM_WIN_LEN w) = true ∧ s.dev.dataCtr (o / 64) < 2 ^ 64 ∧ Unarmed s.dev) req 1 scratchAt (mem id (window scratchAt 64))) :=
  ⟨by unfold Asked; decide +kernel,
    by decide +kernel,
    by decide +kernel,
    by decide +kernel,
    by decide +kernel,
    by decide +kernel,
    unarmed (by decide +kernel)⟩

theorem witness_ChannelsRetireAndMastersReachMemory_14 :
    ((fun (r : Req) (w : Nat) (o : Nat) (s : State) =>
      Asked r O.MEM_WIN_CMD w s.dev ∧ o = s.dev.rd O.MEM_WIN_OFFSET w ∧ regionOf o = .scratch ∧ s.dev.roleOf r = 1 ∧ inLine o (s.dev.rd O.MEM_WIN_LEN w) = true ∧ MemSound s.dev) req 1 scratchAt (poisoned scratchLine (window scratchAt 64))) :=
  ⟨by unfold Asked; decide +kernel,
    by decide +kernel,
    by decide +kernel,
    by decide +kernel,
    by decide +kernel,
    memSound (by decide +kernel) (by decide +kernel) (by decide +kernel) (by decide +kernel) (by decide +kernel) (by decide +kernel)⟩

theorem witness_ChannelsRetireAndMastersReachMemory_15 :
    ((fun (r : Req) (w : Nat) (i : Instr) (e : Nat) (o : Nat) (role : Nat) (g : Region) (s : State) =>
      Asked r O.MEM_WIN_CMD w s.dev ∧ o = s.dev.rd O.MEM_WIN_OFFSET w ∧ role = s.dev.roleOf r ∧ g = regionOf o ∧ (s.dev.mapped o = true ∧ e = 0xA003 ∧ (i = Instr.memWinRead r w ∧ s.dev.memReadRight role g ≠ 2 ∨ i = .memWinWrite r w ∧ s.dev.memWriteRight role g = false ∨ i = .readCiphertext r w ∧ s.dev.memReadRight role g = 0 ∨ i = .memReinit r w ∧ (role ≠ 1 ∨ g ≠ .scratch)) ∨ s.dev.mapped o = false ∧ e = 0xA101 ∧ i ∈ [Instr.memWinRead r w, .memWinWrite r w, .readCiphertext r w, .memReinit r w] ∨ s.dev.mapped o = true ∧ e = 0xA101 ∧ inLine o (s.dev.rd O.MEM_WIN_LEN w) = false ∧ (i = .memWinRead r w ∧ s.dev.memReadRight role g = 2 ∨ i = .memWinWrite r w ∧ s.dev.memWriteRight role g = true))) req 1 (.memWinRead req 1) 0xA101 (scratchAt + 61) 1 (.scratch) (mem id (window (scratchAt + 61) 4))) :=
  ⟨by unfold Asked; decide +kernel,
    by decide +kernel,
    by decide +kernel,
    by decide +kernel,
    by decide +kernel⟩

theorem witness_ChannelsRetireAndMastersReachMemory_16 :
    ((fun (o : Nat) (n : Nat) (s : State) =>
      s.dev.memReady = true ∧ 0 < n ∧ inLine o n = true ∧ s.dev.mapped (64 * (o / 64)) = true ∧ s.dev.memReadRight s.dev.apertureRole (regionOf (64 * (o / 64))) = 2 ∧ MemSound s.dev ∧ s.dev.poisonedLine (o / 64) = false) (scratchAt + 60) 4 (aperture 1 4)) :=
  ⟨by decide +kernel,
    by decide +kernel,
    by decide +kernel,
    by decide +kernel,
    by decide +kernel,
    memSound (by decide +kernel) (by decide +kernel) (by decide +kernel) (by decide +kernel) (by decide +kernel) (by decide +kernel),
    by decide +kernel⟩

theorem witness_ChannelsRetireAndMastersReachMemory_17 :
    ((fun (o : Nat) (n : Nat) (p : Nat) (s : State) =>
      s.dev.memReady = true ∧ 0 < n ∧ inLine o n = true ∧ p = o / 64 ∧ s.dev.mapped (64 * p) = true ∧ s.dev.memReadRight s.dev.apertureRole (regionOf (64 * p)) = 1 ∧ s.dev.dataCtr p < 2 ^ 64) (scratchAt + 60) 4 scratchLine (aperture 4 3)) :=
  ⟨by decide +kernel,
    by decide +kernel,
    by decide +kernel,
    by decide +kernel,
    by decide +kernel,
    by decide +kernel,
    by decide +kernel⟩

theorem witness_ChannelsRetireAndMastersReachMemory_18 :
    ((fun (o : Nat) (n : Nat) (s : State) =>
      s.dev.mode ≠ .reset ∧ s.dev.rangeOpen o n (fun g => s.dev.memReadRight s.dev.apertureRole g != 0) = false) 0x18000000 1 (aperture 1 4)) :=
  ⟨by decide +kernel,
    by decide +kernel⟩

theorem witness_ChannelsRetireAndMastersReachMemory_19 :
    ((fun (o : Nat) (v : List Byte) (s : State) =>
      s.dev.memReady = true ∧ v ≠ [] ∧ inLine o v.length = true ∧ regionOf (64 * (o / 64)) = .scratch ∧ s.dev.memWriteRight s.dev.apertureRole .scratch = true ∧ MemSound s.dev ∧ s.dev.poisonedLine (o / 64) = false) (scratchAt + 60) (leBytes 4 9) (aperture 1 4)) :=
  ⟨by decide +kernel,
    by decide +kernel,
    by decide +kernel,
    by decide +kernel,
    by decide +kernel,
    memSound (by decide +kernel) (by decide +kernel) (by decide +kernel) (by decide +kernel) (by decide +kernel) (by decide +kernel),
    by decide +kernel⟩

theorem witness_ChannelsRetireAndMastersReachMemory_20 :
    ((fun (o : Nat) (v : Bytes) (s : State) =>
      s.dev.mode ≠ .reset ∧ s.dev.rangeOpen o v.length (s.dev.memWriteRight s.dev.apertureRole) = false) 0x0F1FFFFF (leBytes 2 9) (aperture 1 4)) :=
  ⟨by decide +kernel,
    by decide +kernel⟩

/-! ### Lifecycle -/

/-- The device in STAGE, in life-cycle state `lc`, session 257 under `role` with a certificate for everything. -/
def lcDev (role lc : Nat) (l : List (Nat × Nat × Nat)) : Device :=
  dev .stage (owner ++ [(O.SESSION_ROLE, 1, role), (O.DBG_CERT_SCOPE, 1, 0xFFFFFFFF), (O.LC_STATE, 0, lc), (O.LC_PENDING, 0, 255),
    (O.DRBG_STATE, 0, 1)] ++ l)
/-- Token slot 7 holds the hash of token 9; the slot of the RMA token too. -/
def tokens (d : Device) : Device := d.burnBits 2048 256 (leNat (sha256 (leBytes 32 9)))
def rmaToken (d : Device) : Device := d.burnBits 2320 256 (leNat (sha256 (leBytes 32 9)))
def rebuilding (d : Device) : State := st (d.setLc ⟨false, true⟩)
/-- Session row 1 looks at this place of SRAM. -/
def sramAt (lc part offset : Nat) : State := st (lcDev 5 lc [(O.DBG_SRAM_PART, 1, part), (O.DBG_SRAM_OFFSET, 1, offset)])

theorem witness_LifeCycleTransitionsRunToTheirEnd :
    ((fun (r : Req) (s : State) =>
      MayTransit r 4 0 s.dev ∧ CellsFit s.dev) req (st (lcDev 4 0 [(O.LC_ARG_SERIAL, 0, 5)]))) ∧
    ((fun (r : Req) (s : State) =>
      MayTransit r 4 2 s.dev ∧ CellsFit s.dev ∧ s.dev.drbgReady = true ∧ s.dev.otpBits 2576 288 = 0) req (st (lcDev 4 2 []))) :=
  ⟨⟨by unfold MayTransit Asked; decide +kernel,
    cellsFit (by decide +kernel) (by decide +kernel)⟩,
   ⟨by unfold MayTransit Asked; decide +kernel,
    cellsFit (by decide +kernel) (by decide +kernel),
    by decide +kernel,
    by decide +kernel⟩⟩

theorem witness_LifeCycleTransitionsRunToTheirEnd_2 :
    ((fun (r : Req) (h : Nat) (s : State) =>
      MayTransit r 1 3 s.dev ∧ CellsFit s.dev ∧ h = s.dev.rd O.LC_ARG_OWNER_KEY_HASH) req 7 (st (lcDev 1 3 [(O.LC_ARG_OWNER_KEY_HASH, 0, 7)]))) ∧
    ((fun (r : Req) (s : State) =>
      MayTransit r 1 4 s.dev ∧ CellsFit s.dev ∧ s.dev.rd O.LC_ARG_CONFIRM = s.dev.serial) req (st (lcDev 1 4 []))) ∧
    ((fun (r : Req) (s : State) =>
      MayTransit r 1 4 s.dev ∧ s.dev.rd O.LC_ARG_CONFIRM ≠ s.dev.serial) req (st (lcDev 1 4 [(O.LC_ARG_CONFIRM, 0, 1)]))) :=
  ⟨⟨by unfold MayTransit Asked; decide +kernel,
    cellsFit (by decide +kernel) (by decide +kernel),
    by decide +kernel⟩,
   ⟨by unfold MayTransit Asked; decide +kernel,
    cellsFit (by decide +kernel) (by decide +kernel),
    by decide +kernel⟩,
   ⟨by unfold MayTransit Asked; decide +kernel,
    by decide +kernel⟩⟩

theorem witness_LifeCycleTransitionsRunToTheirEnd_3 :
    ((fun (r : Req) (s : State) =>
      Asked r O.LC_CMD 0 s.dev ∧ CellsFit s.dev ∧ (s.dev.mode = .stage ∨ s.dev.mode = .safe) ∧ s.dev.roleOf r = (if s.dev.rd O.LC_STATE = 4 then 1 else 4)) req (st (lcDev 1 4 []))) ∧
    ((fun (r : Req) (i : Instr) (role : Nat) (y : Nat) (s : State) =>
      Asked r O.LC_CMD 0 s.dev ∧ s.dev.roleOf r = role ∧ ((i, role, y) ∈ [(Instr.sealTest r, 4, 0), (.lcUnlock r, 4, 1), (.personalize r, 4, 2), (.takeOwnership r, 1, 3), (.lcReturn r, 1, 4), (.rmaUnlock r, 4, 5)]) ∧ (s.dev.rd O.LC_STATE ≠ y ∨ s.dev.mode = .run ∨ s.dev.mode = .drain)) req (.sealTest req) 4 0 (st (lcDev 4 1 []))) :=
  ⟨⟨by unfold Asked; decide +kernel,
    cellsFit (by decide +kernel) (by decide +kernel),
    by decide +kernel,
    by decide +kernel⟩,
   ⟨by unfold Asked; decide +kernel,
    by decide +kernel,
    by decide +kernel,
    by decide +kernel⟩⟩

theorem witness_LifeCycleTransitionsRunToTheirEnd_4 :
    ((fun (r : Req) (i : Instr) (role : Nat) (s : State) =>
      Asked r O.LC_CMD 0 s.dev ∧ s.dev.roleOf r ≠ role ∧ ((i, role) ∈ [(Instr.sealTest r, 4), (.lcUnlock r, 4), (.personalize r, 4), (.takeOwnership r, 1), (.lcReturn r, 1), (.rmaUnlock r, 4), (.scrap r, if s.dev.rd O.LC_STATE = 4 then 1 else 4)])) req (.sealTest req) 4 (st (lcDev 1 0 []))) ∧
    ((fun (r : Req) (n : Nat) (s : State) =>
      MayTransit r 4 1 s.dev ∧ CellsFit s.dev ∧ s.dev.tokenMatch = some n) req 7 (st (tokens (lcDev 4 1 [(O.LC_ARG_TOKEN, 0, 9)])))) ∧
    ((fun (r : Req) (s : State) =>
      MayTransit r 4 1 s.dev ∧ s.dev.tokenMatch = none) req (st (lcDev 4 1 []))) :=
  ⟨⟨by unfold Asked; decide +kernel,
    by decide +kernel,
    by decide +kernel⟩,
   ⟨by unfold MayTransit Asked; decide +kernel,
    cellsFit (by decide +kernel) (by decide +kernel),
    by decide +kernel⟩,
   ⟨by unfold MayTransit Asked; decide +kernel,
    by decide +kernel⟩⟩

theorem witness_LifeCycleTransitionsRunToTheirEnd_5 :
    ((fun (r : Req) (s : State) =>
      MayTransit r 4 5 s.dev ∧ leNat (sha256 (leBytes 32 (s.dev.rd O.LC_ARG_TOKEN))) = s.dev.otpBits 2320 256 ∧ Unarmed s.dev) req (st (rmaToken (lcDev 4 5 [(O.LC_ARG_TOKEN, 0, 9)])))) ∧
    ((fun (r : Req) (s : State) =>
      MayTransit r 4 5 s.dev ∧ leNat (sha256 (leBytes 32 (s.dev.rd O.LC_ARG_TOKEN))) ≠ s.dev.otpBits 2320 256) req (st (lcDev 4 5 []))) ∧
    ((fun (s : State) =>
      s.dev.lc.rebuilding = true ∧ (3 ≤ s.dev.rd O.LC_STATE ∧ s.dev.rd O.LC_STATE ≤ 5 → s.dev.dusValid false = true ∨ s.dev.dusValid true = true) ∧ (s.dev.rd O.LC_STATE = 4 → s.dev.ownerFieldValid = true)) (rebuilding (ownedFuses (lcDev 1 4 [])))) :=
  ⟨⟨by unfold MayTransit Asked; decide +kernel,
    by decide +kernel,
    unarmed (by decide +kernel)⟩,
   ⟨by unfold MayTransit Asked; decide +kernel,
    by decide +kernel⟩,
   ⟨by decide +kernel,
    by decide +kernel,
    by decide +kernel⟩⟩

theorem witness_LifeCycleTransitionsRunToTheirEnd_6 :
    ((fun (r : Req) (row : Nat) (p : Nat) (o : Nat) (u : Bool) (s : State) =>
      Asked r O.DBG_SRAM_CMD row s.dev ∧ p = s.dev.rd O.DBG_SRAM_PART row ∧ o = s.dev.rd O.DBG_SRAM_OFFSET row ∧ p ≠ 0 ∧ s.dev.sramReadable p = true ∧ (s.dev.rd O.LC_STATE = 3 ∨ s.dev.rd O.LC_STATE = 4 → (s.dev.rd O.DBG_CERT_SCOPE row).testBit 30 = true) ∧ o % 64 = 0 ∧ o + 64 ≤ s.dev.sramBytes p) req 1 2 64 false (sramAt 2 2 64)) :=
  ⟨by unfold Asked; decide +kernel,
    by decide +kernel,
    by decide +kernel,
    by decide +kernel,
    by decide +kernel,
    by decide +kernel,
    by decide +kernel,
    by decide +kernel⟩

theorem witness_LifeCycleTransitionsRunToTheirEnd_7 :
    ((fun (r : Req) (row : Nat) (p : Nat) (u : Bool) (s : State) =>
      Asked r O.DBG_SRAM_CMD row s.dev ∧ p = s.dev.rd O.DBG_SRAM_PART row ∧ p ≠ 0 ∧ (p = 1 ∨ p = 6 ∨ p = 2 ∧ s.dev.rd O.LC_STATE ∈ [1, 3, 4, 6] ∨ s.dev.rd O.LC_STATE = 1 ∨ s.dev.rd O.LC_STATE = 6)) req 1 6 false (sramAt 2 6 0)) :=
  ⟨by unfold Asked; decide +kernel,
    by decide +kernel,
    by decide +kernel,
    by decide +kernel⟩

/-! ### Firmware -/

def fwDev (l : List (Nat × Nat × Nat)) : Device := clock ([(O.BOOT_IMAGE, 0, 0)] ++ l)
def withFw (f : FwX → FwX) (d : Device) : Device := d.setFw (f d.fw)
/-- Slot 0 runs; its manifest names this security version. -/
def version (v : Nat) : State := st ((fwDev []).flashWrite 8 (leBytes 4 v))
/-- The staged image of slot 1 allows a hot activation. -/
def hotReady : State :=
  st (withFw (fun x => { x with staged := some 1, measured := [] }) ((fwDev []).flashWrite 0x500030 (leBytes 32 (Device.chain []))))
def signing (n left : Nat) : Device :=
  let d := clock [(O.ATT_STATE, 0, n), (O.ATT_LEAVES_LEFT, 0, left)]
  d.setFw { d.fw with measured := List.replicate 7 0 }
def waitingSign (l : List Nat) : State := st ((signing 4 0).setAtt ⟨0, l⟩)
/-- A root of attestation is burned. -/
def rootBurned : State := st ((signing 1 0).burnBits 16384 256 5)

theorem witness_FirmwareIsStagedActivatedAndAttested :
    ((fun (r : Req) (x : Nat) (s : State) =>
      Asked r O.FW_CMD 0 s.dev ∧ s.dev.fwRole r = false ∧ x = s.dev.rd O.FW_STAGE_TARGET ∧ s.dev.fwTargetOk = true ∧ s.dev.fwTargetBusy = false) req 9 (st (fwDev [(O.FW_STAGE_TARGET, 0, 9)]))) :=
  ⟨by unfold Asked; decide +kernel,
    by decide +kernel,
    by decide +kernel,
    by decide +kernel,
    by decide +kernel⟩

theorem witness_FirmwareIsStagedActivatedAndAttested_2 :
    ((fun (r : Req) (x : Nat) (o : Nat) (v : List Byte) (s : State) =>
      Asked r O.FW_CMD 0 s.dev ∧ s.dev.fwRole r = false ∧ x = s.dev.rd O.FW_STAGE_TARGET ∧ s.dev.fwTargetOk = true ∧ s.dev.fwTargetBusy = false ∧ o = s.dev.rd O.FW_STAGE_OFFSET ∧ o % 1000 = 0 ∧ o < slotSize x ∧ v = (leBytes 1000 (s.dev.rd O.FW_STAGE_DATA)).take (slotSize x - o)) req 9 65000 (leBytes 536 7) (st (fwDev [(O.FW_STAGE_TARGET, 0, 9), (O.FW_STAGE_OFFSET, 0, 65000), (O.FW_STAGE_DATA, 0, 7)]))) :=
  ⟨by unfold Asked; decide +kernel,
    by decide +kernel,
    by decide +kernel,
    by decide +kernel,
    by decide +kernel,
    by decide +kernel,
    by decide +kernel,
    by decide +kernel,
    by decide +kernel⟩

theorem witness_FirmwareIsStagedActivatedAndAttested_3 :
    ((fun (r : Req) (i : Instr) (s : State) =>
      Asked r O.FW_CMD 0 s.dev ∧ s.dev.fwRole r = false ∧ (s.dev.fwTargetOk = false ∨ s.dev.fwTargetBusy = true) ∧ (i = .fwErase r ∨ (i = .fwWrite r ∧ s.dev.rd O.FW_STAGE_OFFSET % 1000 = 0))) req (.fwWrite req) (st (fwDev [(O.FW_STAGE_TARGET, 0, 10)]))) ∧
    ((fun (r : Req) (s : State) =>
      Asked r O.FW_CMD 0 s.dev ∧ s.dev.fwRole r = false ∧ s.dev.rd O.FW_STAGE_OFFSET % 1000 ≠ 0) req (st (fwDev [(O.FW_STAGE_OFFSET, 0, 65535)]))) :=
  ⟨⟨by unfold Asked; decide +kernel,
    by decide +kernel,
    by decide +kernel,
    by decide +kernel⟩,
   ⟨by unfold Asked; decide +kernel,
    by decide +kernel,
    by decide +kernel⟩⟩

theorem witness_FirmwareIsStagedActivatedAndAttested_4 :
    ((fun (r : Req) (i : Instr) (s : State) =>
      Asked r O.FW_CMD 0 s.dev ∧ s.dev.fwRole r = true ∧ i ∈ [Instr.fwErase r, .fwWrite r, .fwVerify r, .fwPrefer r, .fwDiscard r, .commitVersion r, .activateHot r]) req (.commitVersion req) (st (clock [(O.SESSION_ROLE, 1, 4), (O.DBG_CERT_SCOPE, 1, 0xFFFFFFFF)]))) ∧
    ((fun (r : Req) (x : Nat) (s : State) =>
      Asked r O.FW_CMD 0 s.dev ∧ s.dev.fwRole r = false ∧ x = s.dev.rd O.FW_STAGE_TARGET ∧ s.dev.fwTargetOk = true ∧ s.dev.rd O.FW_SLOT_STATE x ≠ 4) req 1 (st (fwDev [(O.FW_STAGE_TARGET, 0, 1)]))) :=
  ⟨⟨by unfold Asked; decide +kernel,
    by decide +kernel,
    by decide +kernel⟩,
   ⟨by unfold Asked; decide +kernel,
    by decide +kernel,
    by decide +kernel,
    by decide +kernel,
    by decide +kernel⟩⟩

theorem witness_FirmwareIsStagedActivatedAndAttested_5 :
    ((fun (r : Req) (x : Nat) (s : State) =>
      Asked r O.FW_CMD 0 s.dev ∧ s.dev.fwRole r = false ∧ x = s.dev.rd O.FW_STAGE_TARGET ∧ s.dev.fwTargetOk = true ∧ s.dev.rd O.FW_SLOT_STATE x = 4) req 0 (st (fwDev [(O.FW_STAGE_TARGET, 0, 0), (O.FW_SLOT_STATE, 0, 4)]))) :=
  ⟨by unfold Asked; decide +kernel,
    by decide +kernel,
    by decide +kernel,
    by decide +kernel,
    by decide +kernel⟩

theorem witness_FirmwareIsStagedActivatedAndAttested_6 :
    ((fun (r : Req) (x : Nat) (s : State) =>
      Asked r O.FW_CMD 0 s.dev ∧ s.dev.fwRole r = false ∧ x = s.dev.rd O.FW_STAGE_TARGET ∧ s.dev.fwTargetOk = true ∧ CellsFit s.dev ∧ s.dev.rd O.FW_SLOT_STATE x = 2) req 9 (st (fwDev [(O.FW_STAGE_TARGET, 0, 9), (O.FW_SLOT_STATE, 9, 2)]))) :=
  ⟨by unfold Asked; decide +kernel,
    by decide +kernel,
    by decide +kernel,
    by decide +kernel,
    cellsFit (by decide +kernel) (by decide +kernel),
    by decide +kernel⟩

theorem witness_FirmwareIsStagedActivatedAndAttested_7 :
    ((fun (r : Req) (x : Nat) (s : State) =>
      Asked r O.FW_CMD 0 s.dev ∧ s.dev.fwRole r = false ∧ x = s.dev.rd O.FW_STAGE_TARGET ∧ s.dev.fwTargetOk = true ∧ CellsFit s.dev ∧ s.dev.rd O.FW_SLOT_STATE x ≠ 2) req 9 (st (fwDev [(O.FW_STAGE_TARGET, 0, 9)]))) ∧
    ((fun (r : Req) (s : State) =>
      Asked r O.FW_CMD 0 s.dev ∧ s.dev.fwRole r = false) req (st (withFw (fun x => { x with staged := some 1 }) (fwDev [])))) :=
  ⟨⟨by unfold Asked; decide +kernel,
    by decide +kernel,
    by decide +kernel,
    by decide +kernel,
    cellsFit (by decide +kernel) (by decide +kernel),
    by decide +kernel⟩,
   ⟨by unfold Asked; decide +kernel,
    by decide +kernel⟩⟩

theorem witness_FirmwareIsStagedActivatedAndAttested_8 :
    ((fun (r : Req) (x : Nat) (v : Nat) (s : State) =>
      Asked r O.FW_CMD 0 s.dev ∧ s.dev.fwRole r = false ∧ s.dev.runningSlot = some x ∧ v = s.dev.manNat x 8 4 ∧ v ≤ 64 ∧ CellsFit s.dev ∧ s.dev.otpWords 520 2 = 2 ^ s.dev.rollback - 1 ∧ s.dev.fw.staged = none ∧ (∀ y, y < 2 → s.dev.rd O.FW_SLOT_STATE y = 2 → v ≤ s.dev.rd O.FW_SLOT_VERSION y)) req 0 64 (version 64)) :=
  ⟨by unfold Asked; decide +kernel,
    by decide +kernel,
    by decide +kernel,
    by decide +kernel,
    by decide +kernel,
    cellsFit (by decide +kernel) (by decide +kernel),
    by decide +kernel,
    by decide +kernel,
    by decide +kernel⟩

theorem witness_FirmwareIsStagedActivatedAndAttested_9 :
    ((fun (r : Req) (x : Nat) (s : State) =>
      Asked r O.FW_CMD 0 s.dev ∧ s.dev.fwRole r = false ∧ (s.dev.mode = .safe → s.dev.rd O.FLT_FATAL_SINCE_BOOT = 0) ∧ (∀ k, k < 4 → s.dev.rd O.SLICE_STATE k ≠ 4 ∧ s.dev.rd O.MEM_CH_STATE k ≠ 1) ∧ s.dev.fw.staged = some x ∧ x < 2 ∧ s.dev.hotForbidden = false) req 1 hotReady) :=
  ⟨by unfold Asked; decide +kernel,
    by decide +kernel,
    by decide +kernel,
    by decide +kernel,
    by decide +kernel,
    by decide +kernel,
    by decide +kernel⟩

theorem witness_FirmwareIsStagedActivatedAndAttested_10 :
    ((fun (r : Req) (x : Nat) (s : State) =>
      Asked r O.FW_CMD 0 s.dev ∧ s.dev.fwRole r = false ∧ (s.dev.mode = .safe → s.dev.rd O.FLT_FATAL_SINCE_BOOT = 0) ∧ (∀ k, k < 4 → s.dev.rd O.SLICE_STATE k ≠ 4 ∧ s.dev.rd O.MEM_CH_STATE k ≠ 1) ∧ s.dev.fw.staged = some x ∧ x < 2 ∧ s.dev.hotForbidden = true) req 1 (st (withFw (fun x => { x with staged := some 1 }) (fwDev [])))) ∧
    ((fun (x : Nat) (s : State) =>
      s.dev.fw.hot = some x) 1 (st (withFw (fun x => { x with hot := some 1, measured := List.replicate 7 0 }) (fwDev [(O.FW_CMD, 0, 256)])))) :=
  ⟨⟨by unfold Asked; decide +kernel,
    by decide +kernel,
    by decide +kernel,
    by decide +kernel,
    by decide +kernel,
    by decide +kernel,
    by decide +kernel⟩,
   by beta_reduce; decide +kernel⟩

theorem witness_FirmwareIsStagedActivatedAndAttested_11 :
    ((fun (r : Req) (s : State) =>
      Asked r O.ATT_BUILD_TOP 0 s.dev ∧ CellsFit s.dev ∧ s.dev.rd O.LC_STATE = 3 ∧ s.dev.topRoot = 0) req (st (clock [(O.LC_STATE, 0, 3), (O.SESSION_ROLE, 1, 4), (O.DBG_CERT_SCOPE, 1, 0xFFFFFFFF)]))) ∧
    ((fun (r : Req) (s : State) =>
      Asked r O.ATT_BUILD_TOP 0 s.dev ∧ CellsFit s.dev ∧ (s.dev.rd O.LC_STATE ≠ 3 ∨ s.dev.topRoot ≠ 0)) req (st (clock [(O.SESSION_ROLE, 1, 4), (O.DBG_CERT_SCOPE, 1, 0xFFFFFFFF)]))) :=
  ⟨⟨by unfold Asked; decide +kernel,
    cellsFit (by decide +kernel) (by decide +kernel),
    by decide +kernel,
    by decide +kernel⟩,
   ⟨by unfold Asked; decide +kernel,
    cellsFit (by decide +kernel) (by decide +kernel),
    by decide +kernel⟩⟩

theorem witness_FirmwareIsStagedActivatedAndAttested_12 :
    ((fun (s : State) =>
      s.dev.rd O.ATT_STATE = 4 ∧ s.dev.att.waiting = []) (waitingSign [])) ∧
    ((fun (row : Nat) (s : State) =>
      s.dev.rd O.ATT_STATE = 4 ∧ s.dev.att.waiting = [row]) 1 (waitingSign [1])) ∧
    ((fun (r : Req) (row : Nat) (s : State) =>
      Asked r O.ATT_CMD row s.dev ∧ s.dev.rd O.ATT_STATE = 1 ∧ s.dev.rd O.ATT_LEAVES_LEFT ≠ 0 ∧ s.dev.fw.measured.length = 7) req 1 (st (signing 1 1))) :=
  ⟨⟨by decide +kernel,
    by decide +kernel⟩,
   ⟨by decide +kernel,
    by decide +kernel⟩,
   ⟨by unfold Asked; decide +kernel,
    by decide +kernel,
    by decide +kernel,
    by decide +kernel⟩⟩

theorem witness_FirmwareIsStagedActivatedAndAttested_13 :
    ((fun (r : Req) (row : Nat) (s : State) =>
      Asked r O.ATT_CMD row s.dev ∧ s.dev.rd O.ATT_STATE = 4) req 1 (st (signing 4 0))) ∧
    ((fun (r : Req) (row : Nat) (s : State) =>
      Asked r O.ATT_CMD row s.dev ∧ s.dev.rd O.ATT_STATE ∈ [0, 2, 3]) req 1 (st (signing 3 0))) ∧
    ((fun (s : State) =>
      s.dev.rd O.ATT_STATE = 1 ∧ s.dev.rd O.ATT_LEAVES_LEFT = 0 ∧ s.dev.att.waiting = [] ∧ s.dev.topRoot ≠ 0) rootBurned) :=
  ⟨⟨by unfold Asked; decide +kernel,
    by decide +kernel⟩,
   ⟨by unfold Asked; decide +kernel,
    by decide +kernel⟩,
   ⟨by decide +kernel,
    by decide +kernel,
    by decide +kernel,
    by decide +kernel⟩⟩

theorem witness_FirmwareIsStagedActivatedAndAttested_14 :
    ((fun (s : State) =>
      (s.dev.rd O.ATT_STATE ≠ 1 ∨ s.dev.rd O.ATT_LEAVES_LEFT ≠ 0)) (st (signing 1 1))) :=
  by beta_reduce; decide +kernel

/-! ### Faults -/

def faulty (l : List (Nat × Nat × Nat)) : State := st (clock l)
/-- The event ring of row 63 holds one record of this cycle. -/
def record0 : Bytes := List.replicate 64 7
def eventRing (now : Nat) (records : List (Nat × Bytes)) : State :=
  let d := clock (pc ++ [(O.RING_SESSION, 63, 289), (O.RING_KIND, 63, 4), (O.RING_ENABLE, 63, 1), (O.RING_STATE, 63, 1), (O.RING_SIZE, 63, 64),
    (O.RING_HEAD, 63, 63), (O.RING_TAIL, 63, 2), (O.RING_BUF_MAX, 63, 256), (O.RING_VECTOR, 63, 63)])
  st { (d.setDma 63 { DmaX.empty with events := records }) with cyc := now }
/-- Source 0x200 holds a latched class. -/
def heldSource (mask state : Nat) : State :=
  st (let d := clock [(O.FLT_SRC_STATE, 0x200, state), (O.FLT_SRC_CLASS, 0x200, 2), (O.FLT_STATUS, 0, mask)]; { d with faults := { d.faults with held := [(0x200, mask)] } })

theorem witness_HotActivationWaitsForSlicesAndChannels :
    ((fun (r : Req) (k : Nat) (s : State) =>
      Asked r O.FW_CMD 0 s.dev ∧ s.dev.fwRole r = false ∧ k < 4 ∧ (s.dev.rd O.SLICE_STATE k = 4 ∨ s.dev.rd O.MEM_CH_STATE k = 1)) req 3 (faulty [(O.MEM_CH_STATE, 3, 1)])) :=
  ⟨by unfold Asked; decide +kernel,
    by decide +kernel,
    by decide +kernel,
    by decide +kernel⟩


theorem witness_FaultsAreClassifiedLatchedAndAcknowledged :
    ((fun (src : Nat) (code : Nat) (x : Bytes) (w : BankWord) (s : State) =>
      Samples src 0 s.dev ∧ EventRoom s.dev) (0x103 + 1) 0x500 [] (.none) (faulty [])) ∧
    ((fun (src : Nat) (code : Nat) (x : Bytes) (w : BankWord) (s : State) =>
      Samples src 1 s.dev ∧ Uncounted src s.dev ∧ EventRoom s.dev) 0x200 0x500 [] (.none) (faulty [])) ∧
    ((fun (src : Nat) (code : Nat) (x : Bytes) (s : State) =>
      Samples src 2 s.dev ∧ Calm src 2 s.dev ∧ EventRoom s.dev) 0x304 0x500 [] (faulty [])) :=
  ⟨⟨by unfold Samples; decide +kernel,
    eventRoom (by decide +kernel)⟩,
   ⟨by unfold Samples; decide +kernel,
    by unfold Uncounted; decide +kernel,
    eventRoom (by decide +kernel)⟩,
   ⟨by unfold Samples; decide +kernel,
    by unfold Calm Uncounted; decide +kernel,
    eventRoom (by decide +kernel)⟩⟩

theorem witness_FaultsAreClassifiedLatchedAndAcknowledged_2 :
    ((fun (src : Nat) (code : Nat) (x : Bytes) (w : BankWord) (s : State) =>
      Samples src 3 s.dev ∧ Calm src 3 s.dev ∧ EventRoom s.dev) 0x203 0x500 [] (.none) (faulty [])) ∧
    ((fun (src : Nat) (code : Nat) (x : Bytes) (s : State) =>
      Samples src 2 s.dev ∧ Uncounted src s.dev ∧ s.dev.mode ≠ .boot ∧ (s.dev.rd O.FLT_STATUS).testBit 2 = true) 0x304 0x500 [] (faulty [(O.FLT_STATUS, 0, 4)])) :=
  ⟨⟨by unfold Samples; decide +kernel,
    by unfold Calm Uncounted; decide +kernel,
    eventRoom (by decide +kernel)⟩,
   ⟨by unfold Samples; decide +kernel,
    by unfold Uncounted; decide +kernel,
    by decide +kernel,
    by decide +kernel⟩⟩

theorem witness_FaultsAreClassifiedLatchedAndAcknowledged_3 :
    ((fun (src : Nat) (code : Nat) (x : Bytes) (w : BankWord) (s : State) =>
      Samples src 3 s.dev ∧ Uncounted src s.dev ∧ s.dev.mode ≠ .boot ∧ (s.dev.rd O.FLT_STATUS).testBit 3 = true) 0x203 0x500 [] (.none) (faulty [(O.FLT_STATUS, 0, 8)])) :=
  ⟨by unfold Samples; decide +kernel,
    by unfold Uncounted; decide +kernel,
    by decide +kernel,
    by decide +kernel⟩

theorem witness_FaultsAreClassifiedLatchedAndAcknowledged_4 :
    ((fun (code : Nat) (x : Bytes) (b : Nat) (slot : Nat) (s : State) =>
      b < 2 * s.dev.slices ∧ Samples (bankSrc b) 2 s.dev ∧ Calm (bankSrc b) 2 s.dev ∧ EventRoom s.dev ∧ s.dev.cachedKey b slot ≠ none) 0x500 [] 7 3 (withBank 7 { BankX.empty with cache := [⟨3, []⟩] } (link .run []))) :=
  ⟨by decide +kernel,
    by unfold Samples; decide +kernel,
    by unfold Calm Uncounted; decide +kernel,
    eventRoom (by decide +kernel),
    by decide +kernel⟩

theorem witness_FaultsAreClassifiedLatchedAndAcknowledged_5 :
    ((fun (code : Nat) (x : Bytes) (b : Nat) (id : Nat) (f : Frame) (s : State) =>
      b < 2 * s.dev.slices ∧ Samples (bankSrc b) 2 s.dev ∧ Calm (bankSrc b) 2 s.dev ∧ EventRoom s.dev ∧ s.dev.frame? id = some f ∧ f.sd = b ∧ f.ctx ≠ none) 0x500 [] 0 4 ordered0 (inFlight ordered0)) :=
  ⟨by decide +kernel,
    by unfold Samples; decide +kernel,
    by unfold Calm Uncounted; decide +kernel,
    eventRoom (by decide +kernel),
    by decide +kernel,
    by decide +kernel,
    by decide +kernel⟩

theorem witness_FaultsAreClassifiedLatchedAndAcknowledged_6 :
    ((fun (src : Nat) (code : Nat) (x : Bytes) (s : State) =>
      Samples src 2 s.dev ∧ s.dev.srcN src ≠ 0 ∧ s.dev.srcN src ≤ s.dev.windowCount src + 1 ∧ 0 < s.dev.srcW src ∧ 2 < s.dev.rd O.FLT_SRC_CAP src ∧ (s.dev.rd O.FLT_STATUS).testBit 3 = false) 0x304 0x500 [] (faulty [(O.FLT_SRC_N, 0x304, 1), (O.FLT_SRC_W_MS, 0x304, 1), (O.FLT_SRC_CAP, 0x304, 3)])) :=
  ⟨by unfold Samples; decide +kernel,
    by decide +kernel,
    by decide +kernel,
    by decide +kernel,
    by decide +kernel,
    by decide +kernel⟩

theorem witness_FaultsAreClassifiedLatchedAndAcknowledged_7 :
    ((fun (src : Nat) (s : State) =>
      s.dev.clockOn = true ∧ s.dev.drivesPair src = true ∧ s.dev.rd O.FLT_SRC_STATE src ≠ 2 ∧ Calm 0 2 s.dev ∧ Seen 0 s.dev ∧ EventRoom s.dev) 0x40B (faulty [])) ∧
    ((fun (src : Nat) (i : Instr) (s : State) =>
      s.dev.rd O.FLT_SRC_STATE src = 2 ∧ (i = Instr.brokenWire src ∨ ∃ code base x w, i = .faultSample src code base ⟨x, w⟩)) 0x304 (.brokenWire 0x304) (faulty [(O.FLT_SRC_STATE, 0x304, 2)])) :=
  ⟨⟨by decide +kernel,
    by decide +kernel,
    by decide +kernel,
    by unfold Calm Uncounted; decide +kernel,
    by unfold Seen; decide +kernel,
    eventRoom (by decide +kernel)⟩,
   ⟨by decide +kernel,
    Or.inl rfl⟩⟩

theorem witness_FaultsAreClassifiedLatchedAndAcknowledged_8 :
    ((fun (src : Nat) (b : Bool) (s : State) =>
      s.dev.clockOn = true ∧ s.dev.drivesPair src = true ∧ s.dev.rd O.FLT_SRC_STATE src = 2 ∧ Seen 0 s.dev ∧ EventRoom s.dev) 0x304 true (faulty [(O.FLT_SRC_STATE, 0x304, 2)])) :=
  ⟨by decide +kernel,
    by decide +kernel,
    by decide +kernel,
    by unfold Seen; decide +kernel,
    eventRoom (by decide +kernel)⟩

theorem witness_FaultsAreClassifiedLatchedAndAcknowledged_9 :
    ((fun (src : Nat) (s : State) =>
      s.dev.clockOn = true ∧ s.dev.sourceOk src = true ∧ pllSource src = true ∧ Seen src s.dev) 0x1CB (faulty [(O.FLT_SRC_STATE, 0x1CB, 1)])) :=
  ⟨by decide +kernel,
    by decide +kernel,
    by decide +kernel,
    by unfold Seen; decide +kernel⟩

theorem witness_FaultsAreClassifiedLatchedAndAcknowledged_10 :
    ((fun (s : State) =>
      s.dev.clockOn = true ∧ s.dev.boot.image = true ∧ s.dev.rd O.BOOT_IMAGE ≠ 0xFF ∧ Calm 0x207 3 s.dev ∧ Seen 0x207 s.dev) (st { clock [(O.BOOT_IMAGE, 0, 0)] with boot := ⟨true, true, true, true, true, 0⟩ })) :=
  ⟨by decide +kernel,
    by decide +kernel,
    by decide +kernel,
    by unfold Calm Uncounted; decide +kernel,
    by unfold Seen; decide +kernel⟩

theorem witness_FaultsAreClassifiedLatchedAndAcknowledged_11 :
    ((fun (r : Req) (src : Nat) (s : State) =>
      Asked r O.FLT_SRC_ACK src s.dev ∧ s.dev.rd O.FLT_SRC_STATE src ≠ 1 ∧ s.dev.rd O.FLT_SRC_STATE src ≠ 2 ∧ (natAt s.dev.faults.held src).testBit 4 = false) req 0x200 (heldSource 4 0)) ∧
    ((fun (r : Req) (src : Nat) (s : State) =>
      Asked r O.FLT_SRC_ACK src s.dev ∧ (s.dev.rd O.FLT_SRC_STATE src = 1 ∨ s.dev.rd O.FLT_SRC_STATE src = 2 ∨ (natAt s.dev.faults.held src).testBit 4 = true)) req 0x200 (heldSource 4 1)) ∧
    ((fun (r : Req) (s : State) =>
      Asked r O.FLT_ACK_ALL 0 s.dev) req (heldSource 4 0)) :=
  ⟨⟨by unfold Asked; decide +kernel,
    by decide +kernel,
    by decide +kernel,
    by decide +kernel⟩,
   ⟨by unfold Asked; decide +kernel,
    by decide +kernel⟩,
   by beta_reduce; unfold Asked; decide +kernel⟩

theorem witness_FaultsAreClassifiedLatchedAndAcknowledged_12 :
    ((fun (n : Nat) (x : Descriptor) (c : Nat) (rcd : Bytes) (rest : List (Nat × Bytes)) (s : State) =>
      s.dev.mode ≠ .reset ∧ n < 64 ∧ s.dev.rd O.RING_KIND n = 4 ∧ s.dev.ringReady n = true ∧ (∀ e ∈ (s.dev.dmaOf n).events, s.dev.eventFresh e = true) ∧ (s.dev.dmaOf n).events = (c, rcd) :: rest ∧ (s.dev.dmaOf n).taken = [] ∧ s.dev.descCheck n x = 0 ∧ 64 ≤ x.length ∧ x.pcieError = false) 63 (descriptor 64 64) 0 record0 [] (eventRing 0 [(0, record0)])) :=
  ⟨by decide +kernel,
    by decide +kernel,
    by decide +kernel,
    by decide +kernel,
    by decide +kernel,
    by decide +kernel,
    by decide +kernel,
    by decide +kernel,
    by decide +kernel,
    by decide +kernel⟩

theorem witness_FaultsAreClassifiedLatchedAndAcknowledged_13 :
    ((fun (n : Nat) (x : Descriptor) (c : Nat) (rcd : Bytes) (rest : List (Nat × Bytes)) (e : Nat) (k : Bytes) (s : State) =>
      s.dev.mode ≠ .reset ∧ n < 64 ∧ s.dev.rd O.RING_KIND n = 4 ∧ s.dev.ringReady n = true ∧ (∀ e ∈ (s.dev.dmaOf n).events, s.dev.eventFresh e = true) ∧ (s.dev.dmaOf n).events = (c, rcd) :: rest ∧ (s.dev.dmaOf n).taken = [] ∧ (s.dev.descCheck n x = e ∧ e ≠ 0 ∧ k = fit 16 x.kind ∨ s.dev.descCheck n x = 0 ∧ x.length < 64 ∧ e = 4 ∧ k = Device.eventKind rcd 1 ∨ s.dev.descCheck n x = 0 ∧ 64 ≤ x.length ∧ x.pcieError = true ∧ e = 3 ∧ k = fit 16 x.kind)) 63 (descriptor 64 63) 0 record0 [] 4 (Device.eventKind record0 1) (eventRing (msCycles 1000) [(0, record0)])) :=
  ⟨by decide +kernel,
    by decide +kernel,
    by decide +kernel,
    by decide +kernel,
    by decide +kernel,
    by decide +kernel,
    by decide +kernel,
    by decide +kernel⟩

theorem witness_FaultsAreClassifiedLatchedAndAcknowledged_14 :
    ((fun (n : Nat) (x : Descriptor) (s : State) =>
      s.dev.mode ≠ .reset ∧ n < 64 ∧ s.dev.rd O.RING_KIND n = 4 ∧ s.dev.ringReady n = true ∧ (s.dev.dmaOf n).events ≠ [] ∧ (∀ e ∈ (s.dev.dmaOf n).events, s.dev.eventFresh e = false)) 63 (descriptor 64 64) (eventRing (msCycles 1000 + 1) [(0, record0)])) :=
  ⟨by decide +kernel,
    by decide +kernel,
    by decide +kernel,
    by decide +kernel,
    by decide +kernel,
    by decide +kernel⟩

/-! ### Monitors -/

/-- A clock monitor in this state, beyond its limit since cycle 0 in slice 3. -/
def beyondSince (ch n : Nat) : State :=
  st (let d := clock [(O.MON_STATE, ch, n)]; d.setMon { d.mon with beyond := [(ch, 3, 3, 0)] })
/-- A measurement beyond the limits of channel 0. -/
def tooHigh : Int := (clock []).rdI 32 O.MON_LIMIT_HI 0 + 1
/-- Row 127 has overflowed at cycle 0. -/
def overflowed (now : Nat) (f : List Frame) : State :=
  let d := withFrames f (clock [(O.PMC_EVENT, 127, 0x101)])
  st { (d.setPmc { d.pmc with due := [(127, 0)] }) with cyc := now }
def sampled0 : Frame := { tail0 with decrypt := true, port := 56, looked := some none }
/-- The macro's last spares are gone, or all its spares are left. -/
def spares (m n : Nat) : List (Nat × Nat × Nat) := [(O.SRAM_SPARES_LEFT, m, n)]
def withSpared (l : List (Nat × Nat)) (d : Device) : Device := d.setSram { d.sram with spared := l }
/-- A parked frame in cell 5 of the buffer. -/
def inCell : Frame := { parked with cells := [⟨5, .shared, 0, 60, false⟩] }

theorem witness_MonitorsCountersAndRowsAct :
    ((fun (ch : Nat) (v : Int) (g : Nat) (h : Nat) (s : State) =>
      s.dev.clockOn = true ∧ ch < 16 ∧ envChannel ch = true ∧ s.dev.rd O.MON_STATE ch = 0 ∧ s.dev.monMasked ch g h = false ∧ s.dev.monBeyond ch v g = false) 11 30 3 3 (st (clock []))) :=
  ⟨by decide +kernel,
    by decide +kernel,
    by decide +kernel,
    by decide +kernel,
    by decide +kernel,
    by decide +kernel⟩

theorem witness_MonitorsCountersAndRowsAct_2 :
    ((fun (ch : Nat) (v : Int) (g : Nat) (h : Nat) (s : State) =>
      s.dev.clockOn = true ∧ s.dev.mode ≠ .reset ∧ ch < 16 ∧ envChannel ch = true ∧ s.dev.rd O.MON_STATE ch = 0 ∧ s.dev.monMasked ch g h = false ∧ s.dev.monBeyond ch v g = true ∧ Calm (0x400 + ch) 2 s.dev ∧ Seen (0x400 + ch) s.dev ∧ EventRoom s.dev) 11 31 3 3 (st (clock []))) :=
  ⟨by decide +kernel,
    by decide +kernel,
    by decide +kernel,
    by decide +kernel,
    by decide +kernel,
    by decide +kernel,
    by decide +kernel,
    by unfold Calm Uncounted; decide +kernel,
    by unfold Seen; decide +kernel,
    eventRoom (by decide +kernel)⟩

theorem witness_MonitorsCountersAndRowsAct_3 :
    ((fun (ch : Nat) (v : Int) (g : Nat) (h : Nat) (s : State) =>
      s.dev.clockOn = true ∧ s.dev.mode ≠ .reset ∧ s.dev.mode ≠ .boot ∧ ch < 16 ∧ envChannel ch = true ∧ s.dev.rd O.MON_STATE ch = 0 ∧ s.dev.monMasked ch g h = false ∧ s.dev.monBeyond ch v g = true ∧ s.dev.rd O.MON_HEAT_N ch ≠ 0 ∧ 0 < s.dev.rd O.MON_HEAT_W_MS ch ∧ s.dev.rd O.MON_HEAT_N ch ≤ s.dev.windowCount (0x400 + ch) + 1 ∧ 2 < s.dev.rd O.FLT_SRC_CAP (0x400 + ch) ∧ Seen (0x400 + ch) s.dev ∧ (s.dev.rd O.FLT_STATUS).testBit 3 = false) 0 tooHigh 3 3 (st (clock [(O.MON_HEAT_N, 0, 1), (O.MON_HEAT_W_MS, 0, 1), (O.FLT_SRC_CAP, 0x400, 3)]))) :=
  ⟨by decide +kernel,
    by decide +kernel,
    by decide +kernel,
    by decide +kernel,
    by decide +kernel,
    by decide +kernel,
    by decide +kernel,
    by decide +kernel,
    by decide +kernel,
    by decide +kernel,
    by decide +kernel,
    by decide +kernel,
    by unfold Seen; decide +kernel,
    by decide +kernel⟩

theorem witness_MonitorsCountersAndRowsAct_4 :
    ((fun (ch : Nat) (v : Int) (g : Nat) (h : Nat) (s : State) =>
      s.dev.clockOn = true ∧ ch < 16 ∧ envChannel ch = false ∧ s.dev.rd O.MON_STATE ch = 0 ∧ EventRoom s.dev) 15 0 0 0 (st (clock []))) ∧
    ((fun (ch : Nat) (v : Int) (g : Nat) (h : Nat) (s : State) =>
      (s.dev.rd O.MON_STATE ch = 2 ∨ s.dev.monMasked ch g h = true)) 6 tooHigh 3 0 (st (clock [(O.SLICE_STATE, 3, 3)]))) :=
  ⟨⟨by decide +kernel,
    by decide +kernel,
    by decide +kernel,
    by decide +kernel,
    eventRoom (by decide +kernel)⟩,
   by beta_reduce; decide +kernel⟩

theorem witness_MonitorsCountersAndRowsAct_5 :
    ((fun (ch : Nat) (v : Int) (g : Nat) (h : Nat) (s : State) =>
      s.dev.clockOn = true ∧ ch < 16 ∧ envChannel ch = true ∧ s.dev.rd O.MON_STATE ch = 1 ∧ s.dev.monMasked ch g h = false ∧ s.dev.monBeyond ch v g = true) 11 401 128 0 (beyondSince 11 1)) :=
  ⟨by decide +kernel,
    by decide +kernel,
    by decide +kernel,
    by decide +kernel,
    by decide +kernel,
    by decide +kernel⟩

theorem witness_MonitorsCountersAndRowsAct_6 :
    ((fun (ch : Nat) (v : Int) (g : Nat) (h : Nat) (c : Nat) (s : State) =>
      s.dev.clockOn = true ∧ s.dev.mode ≠ .reset ∧ ch < 16 ∧ s.dev.rd O.MON_STATE ch = 1 ∧ s.dev.mon.beyond.find? (fun e => e.1 == ch) = some (ch, g, h, c) ∧ (ch < 10 → s.dev.monBeyond ch v 0 = false) ∧ EventRoom s.dev) 11 0 3 3 0 (beyondSince 11 1)) :=
  ⟨by decide +kernel,
    by decide +kernel,
    by decide +kernel,
    by decide +kernel,
    by decide +kernel,
    by decide +kernel,
    eventRoom (by decide +kernel)⟩

theorem witness_MonitorsCountersAndRowsAct_7 :
    ((fun (n : Nat) (id : Nat) (skid : Nat) (c : Nat) (f : Frame) (s : State) =>
      s.dev.pmcDue n = some c ∧ s.dev.frame? id = some f ∧ f.sd = s.dev.pmcSd n ∧ s.dev.firstSince f c = true ∧ skid ≤ 64 ∧ s.dev.cyc ≤ c + msCycles 1) 127 4 64 0 ({ sampled0 with port := 56 }) (overflowed (msCycles 1) [{ sampled0 with port := 56 }])) :=
  ⟨by decide +kernel,
    by decide +kernel,
    by decide +kernel,
    by decide +kernel,
    by decide +kernel,
    by decide +kernel⟩

theorem witness_MonitorsCountersAndRowsAct_8 :
    ((fun (n : Nat) (c : Nat) (s : State) =>
      s.dev.clockOn = true ∧ s.dev.pmcDue n = some c ∧ c + msCycles 1 ≤ s.dev.cyc) 127 0 (overflowed (msCycles 1) [])) ∧
    ((fun (n : Nat) (c : Nat) (s : State) =>
      s.dev.clockOn = true ∧ s.dev.pmcDue n = some c) 127 0 (overflowed 0 [])) :=
  ⟨⟨by decide +kernel,
    by decide +kernel,
    by decide +kernel⟩,
   ⟨by decide +kernel,
    by decide +kernel⟩⟩

theorem witness_MonitorsCountersAndRowsAct_9 :
    ((fun (n : Nat) (v : Nat) (s : State) =>
      s.dev.clockOn = true ∧ n < 32 * s.dev.slices ∧ n < 128 ∧ s.dev.rdB O.PMC_ENABLE n = true ∧ s.dev.rd O.PMC_EVENT n % 256 = 1 ∧ s.dev.pmcChainedOdd n = false ∧ s.dev.rd O.PMC_CHAIN n = 0 ∧ s.dev.rd O.SLICE_STATE (n / 32) ≠ 3 ∧ s.dev.rd O.SLICE_STATE (n / 32) ≠ 4 ∧ v = s.dev.rd O.PMC_VALUE n ∧ v < 2 ^ 48) 127 (2 ^ 48 - 1) (st (clock [(O.PMC_ENABLE, 127, 1), (O.PMC_EVENT, 127, 1), (O.PMC_VALUE, 127, 2 ^ 48 - 1), (O.SLICE_STATE, 3, 1)]))) :=
  ⟨by decide +kernel,
    by decide +kernel,
    by decide +kernel,
    by decide +kernel,
    by decide +kernel,
    by decide +kernel,
    by decide +kernel,
    by decide +kernel,
    by decide +kernel,
    by decide +kernel,
    by decide +kernel⟩

theorem witness_MonitorsCountersAndRowsAct_10 :
    ((fun (r : Req) (m : Nat) (row : Nat) (s : State) =>
      Asked r O.SRAM_SPARE_CMD m s.dev ∧ row < 2048 ∧ (m, row) ∉ s.dev.sram.spared ∧ s.dev.rd O.SRAM_SPARES_LEFT m ≠ 0 ∧ Uncounted 0x200 s.dev ∧ EventRoom s.dev) req 383 2047 (st (clock (spares 383 1)))) ∧
    ((fun (r : Req) (m : Nat) (row : Nat) (e : Nat) (s : State) =>
      Asked r O.SRAM_SPARE_CMD m s.dev ∧ (2048 ≤ row ∧ e = 0xA101 ∨ row < 2048 ∧ (m, row) ∈ s.dev.sram.spared ∧ e = 0xA106 ∨ row < 2048 ∧ (m, row) ∉ s.dev.sram.spared ∧ s.dev.rd O.SRAM_SPARES_LEFT m = 0 ∧ e = 0xA206)) req 383 2048 0xA101 (st (clock (spares 383 1)))) :=
  ⟨⟨by unfold Asked; decide +kernel,
    by decide +kernel,
    by decide +kernel,
    by decide +kernel,
    by unfold Uncounted; decide +kernel,
    eventRoom (by decide +kernel)⟩,
   ⟨by unfold Asked; decide +kernel,
    by decide +kernel⟩⟩

theorem witness_MonitorsCountersAndRowsAct_11 :
    ((fun (m : Nat) (row : Nat) (s : State) =>
      s.dev.clockOn = true ∧ m < 384 ∧ row < 2048 ∧ (m, row) ∉ s.dev.sram.retired ∧ s.dev.rd O.SRAM_SPARES_LEFT m ≠ 0 ∧ Uncounted (s.dev.sramSource m) s.dev ∧ EventRoom s.dev) 383 2047 (st (clock (spares 383 1)))) :=
  ⟨by decide +kernel,
    by decide +kernel,
    by decide +kernel,
    by decide +kernel,
    by decide +kernel,
    by unfold Uncounted; decide +kernel,
    eventRoom (by decide +kernel)⟩

theorem witness_MonitorsCountersAndRowsAct_12 :
    ((fun (m : Nat) (row : Nat) (w : Nat) (n : Option Nat) (s : State) =>
      s.dev.clockOn = true ∧ m < 384 ∧ row < 2048 ∧ (m, row) ∉ s.dev.sram.retired ∧ s.dev.rd O.SRAM_SPARES_LEFT m ≠ 0) 383 2047 0 none (st (clock (spares 383 1)))) :=
  ⟨by decide +kernel,
    by decide +kernel,
    by decide +kernel,
    by decide +kernel,
    by decide +kernel⟩

theorem witness_MonitorsCountersAndRowsAct_13 :
    ((fun (m : Nat) (row : Nat) (w : Nat) (n : Option Nat) (f : Frame) (s : State) =>
      s.dev.clockOn = true ∧ m < 384 ∧ row < 2048 ∧ (m, row) ∉ s.dev.sram.retired ∧ s.dev.rd O.SRAM_SPARES_LEFT m ≠ 0 ∧ CalmTwice (s.dev.sramSource m) s.dev ∧ EventRoom s.dev ∧ (96 ≤ m ∧ m < 224 ∧ s.dev.cellOwner m row = some f ∨ (m < 96 ∨ 224 ≤ m ∨ s.dev.cellOwner m row = none) ∧ n = some f.id ∧ s.dev.frame? f.id = some f)) 96 5 0 none inCell (st (withFrames [inCell] (link .run (spares 96 1))))) :=
  ⟨by decide +kernel,
    by decide +kernel,
    by decide +kernel,
    by decide +kernel,
    by decide +kernel,
    by unfold CalmTwice; decide +kernel,
    eventRoom (by decide +kernel),
    by decide +kernel⟩

theorem witness_MonitorsCountersAndRowsAct_14 :
    ((fun (m : Nat) (row : Nat) (w : Nat) (slot : Nat) (s : State) =>
      s.dev.clockOn = true ∧ m < 96 ∧ row < 2048 ∧ (m, row) ∉ s.dev.sram.retired ∧ s.dev.rd O.SRAM_SPARES_LEFT m ≠ 0 ∧ CalmTwice (s.dev.sramSource m) s.dev ∧ w < 8 ∧ slot = ((m * 2048 + row) * 128 + 16 * w) / 192 ∧ s.dev.slotRow slot ≠ 0xFFFFFFFF ∧ s.dev.rd O.SA_STATE (s.dev.slotRow slot) ∈ [2, 3, 4, 5]) 0 10 4 7 (st (residentSa 2 4 (spares 0 1)))) :=
  ⟨by decide +kernel,
    by decide +kernel,
    by decide +kernel,
    by decide +kernel,
    by decide +kernel,
    by unfold CalmTwice; decide +kernel,
    by decide +kernel,
    by decide +kernel,
    by decide +kernel,
    by decide +kernel⟩

theorem witness_MonitorsCountersAndRowsAct_15 :
    ((fun (m : Nat) (row : Nat) (w : Nat) (s : State) =>
      s.dev.clockOn = true ∧ 224 ≤ m ∧ m < 288 ∧ row < 2048 ∧ (m, row) ∉ s.dev.sram.retired ∧ s.dev.rd O.SRAM_SPARES_LEFT m ≠ 0) 287 2047 0 (st (clock (spares 287 1)))) :=
  ⟨by decide +kernel,
    by decide +kernel,
    by decide +kernel,
    by decide +kernel,
    by decide +kernel,
    by decide +kernel⟩

theorem witness_MonitorsCountersAndRowsAct_16 :
    ((fun (m : Nat) (row : Nat) (c : SpareCause) (s : State) =>
      s.dev.clockOn = true ∧ m < 384 ∧ row < 2048 ∧ (m, row) ∉ s.dev.sram.retired ∧ s.dev.rd O.SRAM_SPARES_LEFT m = 0) 0 10 (.corrected) (st (residentSa 2 4 (spares 0 0)))) :=
  ⟨by decide +kernel,
    by decide +kernel,
    by decide +kernel,
    by decide +kernel,
    by decide +kernel⟩

end Sys2Proof.Tests
end

section
/-!
PROOF. The family 01_architecture: external memory, and the retirement of a Hub row.
-/
namespace Sys2Proof.Machine

/-! ### Which classes a fault leaves in FLT_STATUS (R369, R370, R373) -/

theorem testBit_setBit (v i j : Nat) (b : Bool) : (setBit v i b).testBit j = if i = j then b else v.testBit j := by
  unfold setBit
  by_cases hij : i = j
  · subst hij
    cases b <;> cases hv : v.testBit i <;> simp [hv]
  · cases b <;> cases hv : v.testBit i <;> simp [hij, Nat.one_shiftLeft]

/-- A predicate of every entry and of the value put in holds of every entry afterwards. -/
theorem natPut_forall {q : Nat → Prop} {l : List (Nat × Nat)} {k v : Nat} (hl : ∀ e ∈ l, q e.2) (hv : q v) :
    ∀ e ∈ natPut l k v, q e.2 := by
  intro e he
  unfold natPut Sparse.put at he
  split at he
  · exact hl e (Sparse.mem_erase he).1
  · rcases Sparse.mem_ins he with rfl | he
    · exact hv
    · exact hl e (Sparse.mem_erase he).1

theorem natAt_of_forall {q : Nat → Prop} (h0 : q 0) :
    ∀ {l : List (Nat × Nat)}, (∀ e ∈ l, q e.2) → ∀ k, q (natAt l k)
  | [], _, _ => h0
  | e :: r, hl, k => by
    unfold natAt Sparse.get
    split
    · exact hl e List.mem_cons_self
    · exact natAt_of_forall h0 (fun x hx => hl x (List.mem_cons_of_mem _ hx)) k

/-- Where no session gets the events, none is out of room. -/
theorem eventRoom_of_none {d : Device} (h : d.openRow (d.rd O.RING_EVENT_SESSION) = none) : EventRoom d := by
  intro row hrow
  rw [h] at hrow
  cases hrow

namespace Device

/-- FLT_STATUS shows of SEVERE whether any source holds it. -/
theorem refreshStatus_severe (d : Device) :
    (d.refreshStatus.rd O.FLT_STATUS).testBit 3 = d.faults.held.any (fun e => e.2.testBit 3) := by
  have hf : ∀ (x : Device) (i : Nat) (b : Bool), (x.wrBit O.FLT_STATUS 0 i b).faults = x.faults := fun _ _ _ => rfl
  simp only [refreshStatus, List.foldl, hf]
  simp [wrBit, rd_wr_self, testBit_setBit]

/-- Latching FATAL latches no SEVERE. -/
theorem latch_fatal_severe {d : Device} (h : ∀ e ∈ d.faults.held, e.2.testBit 3 = false) (src : Nat) :
    ((d.latch src 4).rd O.FLT_STATUS).testBit 3 = false := by
  unfold latch holdClasses
  rw [refreshStatus_severe, List.any_eq_false]
  have hv : (setBit (natAt d.faults.held src) 4 true).testBit 3 = false := by
    simpa [testBit_setBit] using natAt_of_forall (q := fun v => v.testBit 3 = false) rfl h src
  intro e he
  simpa using natPut_forall (q := fun v => v.testBit 3 = false) h hv e he

theorem react_rd_fltStatus (d : Device) (cls : Nat) : (d.react cls).rd O.FLT_STATUS = d.rd O.FLT_STATUS :=
  (react_keeps (fun _ h => h) (Keeps.refl Touch.react d)).objs (by decide +kernel) _ _ (by decide +kernel)

theorem logRecord_held (d : Device) (src cls kind : Nat) (r64 : Bytes) :
    (d.logRecord src cls kind r64).faults.held = d.faults.held := by
  have hn : ∀ x : Device, x.nextRecord.faults.held = x.faults.held := fun _ => rfl
  have hi : ∀ (x : Device) (o r : Nat), (x.inc32 o r).faults = x.faults ∧ (x.inc64 o r).faults = x.faults := fun _ _ _ => ⟨rfl, rfl⟩
  have hm : ∀ (x : Device) (seq : Nat), (x.markShared seq).faults = x.faults := by
    intro x seq
    unfold markShared
    dsimp only
    split <;> rfl
  unfold logRecord
  dsimp only
  cases d.sharesWith <;> simp only [Option.elim_none, Option.elim_some] <;> split <;> split <;> simp [hn, hi, hm]

theorem logRecord_room {d : Device} (h : EventRoom d) (src cls kind : Nat) (r64 : Bytes) : EventRoom (d.logRecord src cls kind r64) :=
  h.keeps (logRecord_keeps (fun _ x => x) (Keeps.refl Touch.logRecord d)) (by decide)

theorem deliver_faults {d : Device} (h : EventRoom d) (rcd : Bytes) : (d.deliver rcd).faults = d.faults := by
  have hq : Keeps [O.FLT_EVENT_LOST, F.pcieDma] d ((List.range 64).foldl (eventRingQueue rcd) d) :=
    Keeps.foldl (Keeps.refl _ _) (fun _ n hy => eventRingQueue_keeps_noted (fun _ z => z) hy rcd n)
  have hqueue : ((List.range 64).foldl (eventRingQueue rcd) d).faults = d.faults := hq.fields 26 (by decide)
  unfold deliver
  dsimp only
  rw [← hqueue]
  exact (ringEvent_room (h.keeps hq (by decide)) 4 _).fields 26 (by decide)

/-- A record that finds room at the event session latches nothing. -/
theorem writeRecord_held {d : Device} (h : EventRoom d) (src code cls base kind flags reaction window : Nat) (detail : Bytes) :
    (d.writeRecord src code cls base kind flags reaction window detail).faults.held = d.faults.held := by
  unfold writeRecord
  dsimp only
  split
  · exact (congrArg FaultX.held (deliver_faults (logRecord_room h _ _ _ _) _)).trans (logRecord_held _ _ _ _ _)
  · exact logRecord_held _ _ _ _ _

/-- A fault that the count rule lifts to FATAL latches that class alone: where no source holds SEVERE, bit 3 of FLT_STATUS is clear
after it, whatever its base class (R369, R370). -/
theorem fault_lifted_to_fatal_severe {d : Device} {src code base : Nat} {detail : Bytes} (hroom : EventRoom d)
    (hseen : d.rd O.FLT_SRC_STATE src ≠ 2) (hmode : d.mode ≠ .reset) (hcount : (d.addEvent src).countRule src base = 4)
    (hheld : ∀ e ∈ d.faults.held, e.2.testBit 3 = false) :
    ((d.fault src code base detail).rd O.FLT_STATUS).testBit 3 = false := by
  have hrepeat : (d.addEvent src).repeatRule 4 = 4 := by simp [repeatRule]
  have hroom' : EventRoom (d.addEvent src) := hroom
  unfold fault
  rw [if_neg (by simp [srcUnseen, hseen, hmode])]
  simp only [hcount, hrepeat, Nat.reduceLeDiff, if_true]
  rw [react_rd_fltStatus]
  apply latch_fatal_severe
  rw [writeRecord_held hroom']
  exact hheld

/-! ### A retired row of the Hub (R405, R406) -/

/-- The device as the SEVERE fault of a retired Hub row finds it: the row is counted and retired, and its DEGRADED fault recorded. -/
def hubRowGone (d : Device) (m row : Nat) : Device :=
  let d := d.wr O.SRAM_ROWS_RETIRED m (d.rd O.SRAM_ROWS_RETIRED m + 1)
  let d := d.setPipe { d.pipe with freed := d.pipe.freed.filter (fun h => h != (m - 96) * 2048 + row || decide (m < 96 ∨ 224 ≤ m)) }
  (d.setSram { d.sram with retired := (m, row) :: d.sram.retired }).rowFault m

/-- A corrected row of the Hub for which no spare is left ends with the SEVERE fault of its SRAM block. -/
theorem sramRowSpare_hub {d : Device} {m row : Nat} (hclock : d.clockOn = true) (hlo : 352 ≤ m) (hhi : m < 384) (hrow : row < 2048)
    (hnew : d.sram.retired.contains (m, row) = false) (hspares : d.rd O.SRAM_SPARES_LEFT m = 0) :
    d.sramRowSpare m row .corrected = (d.hubRowGone m row).faultUnit 0x200 0x03 m 3 := by
  have hguard : ¬ (¬ d.clockOn ∨ 384 ≤ m ∨ 2048 ≤ row ∨ d.sram.retired.contains (m, row)) := by rw [hclock, hnew]; simp; omega
  unfold sramRowSpare
  rw [if_neg hguard]
  dsimp only
  rw [if_pos hspares]
  unfold retireRow loseRow
  rw [if_neg (by omega), if_neg (by omega), if_neg (by omega), if_neg (by omega), if_neg (by omega)]
  rfl

/-! ### A memory request that does not wait (R23) -/

/-- The only request that waits is granted next when its channels give grants. -/
theorem nextGrant_of_single {d : Device} {r : MemReq} (hwait : d.mem.waiting = [r]) (hcalm : r.chans.any d.channelStalled = false) :
    d.nextGrant = some r := by
  have hgrant : d.grantable r = true := by
    unfold grantable
    rw [hcalm, hwait]
    simp
  unfold nextGrant
  rw [hwait, List.filter_cons_of_pos hgrant, List.filter_nil]
  rfl

/-- With no other request waiting and its channels giving grants, a request is served at once. -/
theorem memRequest_idle {d : Device} {chans : List Nat} (cls : Nat) (op : MemOp) (hwait : d.mem.waiting = [])
    (hcalm : chans.any d.channelStalled = false) : d.memRequest chans cls op = d.serveMem op := by
  have hnext : (d.setWaiting [⟨chans, cls, op, 0⟩]).nextGrant = some ⟨chans, cls, op, 0⟩ := nextGrant_of_single rfl hcalm
  have hrest : ((d.setWaiting [⟨chans, cls, op, 0⟩]).mem.waiting.erase ⟨chans, cls, op, 0⟩).map (passOver ⟨chans, cls, op, 0⟩) =
      d.mem.waiting := by
    rw [hwait]
    exact congrArg _ (List.erase_cons_head _ _)
  unfold memRequest
  rw [hwait, List.nil_append]
  show grantAll 1 _ = _
  unfold grantAll
  rw [hnext, Option.elim_some, hrest]
  rfl

/-- A read of a mapped line while its channel gives grants and nothing waits is the verification of that line. -/
theorem memLineRead_idle {d : Device} {p : Nat} (o : LineOutcome) (hready : d.memReady = true) (hmap : d.mapped (64 * p) = true)
    (hidle : MemIdle (d.place p).1 d) : d.memLineRead p o = (d.verifyLine p o false).2 := by
  obtain ⟨hwait, hcalm⟩ := hidle
  unfold memLineRead
  rw [if_neg (by simp [hready, hmap])]
  exact memRequest_idle _ _ hwait (by simpa using hcalm)

/-- A read that finds no failing codeword leaves the channel's count of them, whether its line is good, poisoned or cannot be
verified (R313, R324). -/
theorem verifyLine_ok_uncorrectable (d : Device) (p c : Nat) (keep : Bool) :
    (d.verifyLine p .ok keep).2.rd O.MEM_CH_UNCORRECTABLE c = d.rd O.MEM_CH_UNCORRECTABLE c := by
  have hkeeps : Keeps (Touch.fetchCounter ++ Touch.poisonWrite ++ Touch.tagFail ++ Touch.memNodeFail) d (d.verifyLine p .ok keep).2 := by
    have hfetch := fetchCounter_keeps (W := Touch.fetchCounter ++ Touch.poisonWrite ++ Touch.tagFail ++ Touch.memNodeFail)
      (c := (d.place p).1) (i := (d.place p).2) (off := 64 * p) (fun _ h => by simp [h]) (Keeps.refl _ d)
    unfold verifyLine lineFound
    dsimp only
    split
    · exact memNodeFail_keeps (fun _ h => by simp [h]) (Keeps.refl _ d)
    · split
      · cases keep
        · exact tagFail_keeps (fun _ h => by simp [h]) (poisonWrite_keeps (fun _ h => by simp [h]) hfetch)
        · exact tagFail_keeps (fun _ h => by simp [h]) hfetch
      · exact hfetch
  exact hkeeps.objs (by decide +kernel) _ _ (by decide +kernel)

end Device

/-! ### What the two commands answer -/

theorem dev_of_memLineRead {p : Nat} {o : LineOutcome} {s t : State} (h : exec (.memLineRead p o) s = .next t) :
    t.dev = s.dev.memLineRead p o :=
  (congrArg State.dev (Host.Outcome.next.inj h)).symm

theorem dev_of_sramRowSpare {m row : Nat} {c : SpareCause} {s t : State} (h : exec (.sramRowSpare m row c) s = .next t) :
    t.dev = s.dev.sramRowSpare m row c :=
  (congrArg State.dev (Host.Outcome.next.inj h)).symm

/-! ### The two counterexamples -/

/-- A device in RUN that counts events of Hub source 0x200 up to FATAL, two in the window, and has no spare row in SRAM block 352. -/
def hubCountsToFatal : State :=
  ⟨((({ Device.fresh .isf3232 with mode := .run, clockOn := true }.wr O.FLT_SRC_N 0x200 2).wr O.FLT_SRC_CAP 0x200 4).wr
    O.SRAM_SPARES_LEFT 352 0), []⟩

/-- The DEGRADED fault of the row is the first event of its source's window, so the SEVERE one that follows reaches the count and
becomes FATAL: class SEVERE is never latched. -/
theorem hubCountsToFatal_severe :
    ((hubCountsToFatal.dev.sramRowSpare 352 0 .corrected).rd O.FLT_STATUS).testBit 3 = false := by
  have hnone : (hubCountsToFatal.dev.hubRowGone 352 0).openRow ((hubCountsToFatal.dev.hubRowGone 352 0).rd O.RING_EVENT_SESSION) = none := by
    decide +kernel
  have hcount : ((hubCountsToFatal.dev.hubRowGone 352 0).addEvent 0x200).countRule 0x200 3 = 4 := by decide +kernel
  rw [Device.sramRowSpare_hub (by decide) (by decide) (by decide) (by decide) (by decide) (by decide +kernel)]
  exact Device.fault_lifted_to_fatal_severe (eventRoom_of_none hnone) (by decide +kernel) (by decide +kernel) hcount (by decide +kernel)

/-- A device in RUN whose line 0 is poisoned, and whose count of uncorrectable codewords of channel 0 stands at 2^64: a number that the
model's dictionary can hold, and no U64 counter can. -/
def countBeyondU64 : State :=
  ⟨(({ Device.fresh .isf3232 with mode := .run, clockOn := true }.setMem { MemX.empty with poisoned := [(0, 0)] }).wr
    O.MEM_CH_UNCORRECTABLE 0 (2 ^ 64)), []⟩

theorem countBeyondU64_sound : MemSound countBeyondU64.dev :=
  ⟨rfl, by decide, rfl, rfl, fun _ => ⟨Nat.two_pow_pos 63, Nat.two_pow_pos 63⟩⟩

/-- Refutes O54: its third clause adds the `n` uncorrectable codewords of a failing read modulo 2^64, with `n = 0` for a line that is
poisoned, and has no hypothesis that the count fits its type. That read writes no count (R313), so a count of 2^64 stays 2^64, where the
clause has it become 0. -/
theorem not_memoryIsReadWrittenAndScrubbed : ¬ Obligations.MemoryIsReadWrittenAndScrubbed := by
  unfold Obligations.MemoryIsReadWrittenAndScrubbed
  rintro ⟨-, -, poisonedRead, -⟩
  have hidle : MemIdle (countBeyondU64.dev.place 0).1 countBeyondU64.dev := ⟨rfl, by decide +kernel⟩
  have hready : countBeyondU64.dev.memReady = true := by decide +kernel
  have hmap : countBeyondU64.dev.mapped (64 * 0) = true := by decide +kernel
  have hcalm : Calm 0x304 2 countBeyondU64.dev := ⟨by unfold Uncounted; decide +kernel, by decide +kernel⟩
  have hseen : Seen 0x304 countBeyondU64.dev := ⟨by decide +kernel, by decide +kernel⟩
  have hroom : EventRoom countBeyondU64.dev := eventRoom_of_none (by decide +kernel)
  obtain ⟨t, ht, -, -, hcount, -⟩ := poisonedRead 0 .ok 0 countBeyondU64 countBeyondU64_sound hidle hready hmap
    (Or.inr (Or.inr ⟨rfl, by decide +kernel, rfl⟩)) hcalm hseen hroom
  rw [dev_of_memLineRead ht, Device.memLineRead_idle _ hready hmap hidle, Device.verifyLine_ok_uncorrectable] at hcount
  exact absurd hcount (by decide +kernel)

/-- Refutes O60: its last clause has a retired row of the Hub always leave SEVERE in FLT_STATUS. Where the owner lets the count rule reach
FATAL (FLT_SRC_CAP 4), the row's two faults make the second of them FATAL, which latches its own bit alone (R369, R370). -/
theorem not_monitorsCountersAndRowsAct : ¬ Obligations.MonitorsCountersAndRowsAct := by
  unfold Obligations.MonitorsCountersAndRowsAct
  rintro ⟨-, -, -, -, -, -, -, -, -, -, -, -, -, -, -, -, -, -, -, retired⟩
  obtain ⟨t, ht, -, -, -, -, -, -, -, -, hub, -⟩ := retired 352 0 .corrected hubCountsToFatal (by decide) (by decide) (by decide) (by decide)
    (by decide +kernel)
  have hseen : Seen 0x200 hubCountsToFatal.dev := ⟨by decide +kernel, by decide +kernel⟩
  have hbit := hub (Nat.le_refl 352) hseen
  rw [dev_of_sramRowSpare ht, hubCountsToFatal_severe] at hbit
  exact Bool.false_ne_true hbit

end Sys2Proof.Machine
end

section
/-!
PROOF. The family 02_object_dictionary: every command answers a next state, and every step keeps the
dictionary, external memory, fuses and flash in canonical form.
-/
namespace Sys2Proof.Machine

/-! ### Every command answers a next state -/

/-- `o` answers `s` with another device, one that its device may become. -/
def Advances (s : State) (o : Host.Outcome State Fault Refusal) : Prop :=
  ∃ d, o = .next { s with dev := d } ∧ Evolves s.dev d

namespace Advances

theorem on_evolves {s : State} {f : Device → Device} (h : Evolves s.dev (f s.dev)) : Advances s (s.on f) := ⟨_, rfl, h⟩

theorem onQueues_evolves {s : State} {f : Device → Device} (h : ∀ d, Evolves s.dev d → Evolves s.dev (f d)) :
    Advances s (s.onQueues f) :=
  on_evolves (Device.settle_evolves (h _ (Device.settle_evolves (.refl _))))

theorem direct_evolves {s : State} {r : Req} {f : Device → Nat × Device} (h : ∀ d, Evolves s.dev d → Evolves s.dev (f d).2) :
    Advances s (s.on (fun d => d.direct r f)) := on_evolves (Device.direct_evolves (.refl _) h)

end Advances

open Advances in
theorem exec_advances (c : Instr) (s : State) : Advances s (exec c s) := by
  cases c with
  | dictWrite => exact on_evolves (Device.dictWrite_evolves (.refl _))
  | groupShadowWrite => exact on_evolves (Device.groupShadowWrite_evolves (.refl _))
  | groupOpen => exact direct_evolves fun _ h => Device.groupOpenCore_evolves h
  | commitNow => exact direct_evolves fun _ h => Device.commitNowCore_evolves h
  | commitAt => exact direct_evolves fun _ h => Device.commitAtCore_evolves h
  | groupCancel => exact direct_evolves fun _ h => Device.groupCancelCore_evolves h
  | groupRelease => exact direct_evolves fun _ h => Device.groupReleaseCore_evolves h
  | lockClaim => exact direct_evolves fun _ h => Device.lockWrite_evolves h
  | lockRelease => exact direct_evolves fun _ h => Device.lockWrite_evolves h
  | lockBreak => exact direct_evolves fun _ h => Device.lockBreakCore_evolves h
  | lockLeaseExpiry => exact on_evolves (Device.lockLeaseExpiry_evolves (.refl _))
  | ringCharacterLock => exact on_evolves (Device.ringCharacterLock_evolves (.refl _))
  | ringLockLoss => exact on_evolves (Device.ringLockLoss_evolves (.refl _))
  | ringMessageForward => exact on_evolves (Device.ringMessageForward_evolves (.refl _))
  | ringMessageInsert => exact on_evolves (Device.ringMessageInsert_evolves (.refl _))
  | ringHoldAssert => exact on_evolves (Device.ringHoldAssert_evolves (.refl _))
  | join => exact on_evolves (Device.join_evolves (.refl _))
  | address => exact on_evolves (Device.address_evolves (.refl _))
  | request => exact on_evolves (Device.request_evolves (.refl _))
  | ringOpen => exact on_evolves (Device.ringOpen_evolves (.refl _))
  | ringProve => exact on_evolves (Device.ringProve_evolves (.refl _))
  | proveTimeout => exact on_evolves (Device.proveTimeout_evolves (.refl _))
  | proofLockoutEnd => exact on_evolves (Device.proofLockoutEnd_evolves (.refl _))
  | sessionClose => exact on_evolves (Device.sessionClose_evolves (.refl _))
  | sessionIdleExpiry => exact on_evolves (Device.sessionIdleExpiry_evolves (.refl _))
  | pcieWindowRead => exact on_evolves (Device.pcieWindowRead_evolves (.refl _))
  | pcieWindowWrite => exact on_evolves (Device.pcieWindowWrite_evolves (.refl _))
  | pcieWindowOpen => exact on_evolves (Device.pcieWindowOpen_evolves (.refl _))
  | pcieWindowProve => exact on_evolves (Device.pcieWindowProve_evolves (.refl _))
  | pcieWindowClose => exact on_evolves (Device.pcieWindowClose_evolves (.refl _))
  | pciePortReset => exact on_evolves (Device.pciePortReset_evolves (.refl _))
  | apertureRead => exact on_evolves (Device.apertureRead_evolves (.refl _))
  | apertureWrite => exact on_evolves (Device.apertureWrite_evolves (.refl _))
  | ringEnableSet => exact direct_evolves fun _ h => Device.ringEnableWrite_evolves h
  | ringEnableClear => exact direct_evolves fun _ h => Device.ringEnableWrite_evolves h
  | doorbell => exact on_evolves (Device.doorbell_evolves (.refl _))
  | dmaDescriptorProcess => exact on_evolves (Device.dmaDescriptorProcess_evolves (.refl _))
  | dmaIrqTimer => exact on_evolves (Device.dmaIrqTimer_evolves (.refl _))
  | msixUnmask => exact on_evolves (Device.msixUnmask_evolves (.refl _))
  | bypass => exact on_evolves (Device.bypass_evolves (.refl _))
  | idcode => exact on_evolves (Device.idcode_evolves (.refl _))
  | samplePreload => exact on_evolves (Device.samplePreload_evolves (.refl _))
  | extest => exact on_evolves (Device.extest_evolves (.refl _))
  | dapRead => exact on_evolves (Device.dapRead_evolves (.refl _))
  | dapWrite => exact on_evolves (Device.dapWrite_evolves (.refl _))
  | valueIn => exact on_evolves (Device.valueIn_evolves (.refl _))
  | valueOut => exact on_evolves (Device.valueOut_evolves (.refl _))
  | dapStatus => exact on_evolves (Device.dapStatus_evolves (.refl _))
  | dapOpen => exact on_evolves (Device.dapOpen_evolves (.refl _))
  | dapProve => exact on_evolves (Device.dapProve_evolves (.refl _))
  | dapClose => exact on_evolves (Device.dapClose_evolves (.refl _))
  | goRun => exact direct_evolves fun _ h => Device.goRunCore_evolves h
  | goStage => exact direct_evolves fun _ h => Device.goStageCore_evolves h
  | goDrain => exact direct_evolves fun _ h => Device.goDrainCore_evolves h
  | resumeRun => exact direct_evolves fun _ h => Device.resumeRunCore_evolves h
  | modeCmdReset => exact direct_evolves fun _ h => Device.modeCmdResetCore_evolves h
  | pwrGoodLow => exact on_evolves (Device.pwrGoodLow_evolves (.refl _))
  | resetNLow => exact on_evolves (Device.resetNLow_evolves (.refl _))
  | resetRelease => exact on_evolves (Device.resetRelease_evolves (.refl _))
  | bootPllsLocked => exact on_evolves (Device.bootPllsLocked_evolves (.refl _))
  | entropyStartupTests => exact on_evolves (Device.entropyStartupTests_evolves (.refl _))
  | sydinImageVerified => exact on_evolves (Device.sydinImageVerified_evolves (.refl _))
  | memTrainingDone => exact on_evolves (Device.memTrainingDone_evolves (.refl _))
  | serdesCalibrationDone => exact on_evolves (Device.serdesCalibrationDone_evolves (.refl _))
  | bootComplete => exact on_evolves (Device.bootComplete_evolves (.refl _))
  | drainFlushComplete => exact on_evolves (Device.drainFlushComplete_evolves (.refl _))
  | drainFlushExpiry => exact on_evolves (Device.drainFlushExpiry_evolves (.refl _))
  | takeOut => exact direct_evolves fun _ h => Device.takeOutCore_evolves h
  | gate => exact direct_evolves fun _ h => Device.gateCore_evolves h
  | sliceReturn => exact direct_evolves fun _ h => Device.sliceReturnCore_evolves h
  | sliceReturnDone => exact on_evolves (Device.sliceReturnDone_evolves (.refl _))
  | laneSignalDetect => exact on_evolves (Device.laneSignalDetect_evolves (.refl _))
  | laneAcquisitionDone => exact on_evolves (Device.laneAcquisitionDone_evolves (.refl _))
  | laneAcquisitionTimeout => exact on_evolves (Device.laneAcquisitionTimeout_evolves (.refl _))
  | laneSignalLoss => exact on_evolves (Device.laneSignalLoss_evolves (.refl _))
  | portLinkChange => exact on_evolves (Device.portLinkChange_evolves (.refl _))
  | fecUncorrLimit => exact on_evolves (Device.fecUncorrLimit_evolves (.refl _))
  | macControlRx => exact on_evolves (Device.macControlRx_evolves (.refl _))
  | pauseExpiry => exact on_evolves (Device.pauseExpiry_evolves (.refl _))
  | xoffRefresh => exact on_evolves (Device.xoffRefresh_evolves (.refl _))
  | portRecalArm => exact direct_evolves fun _ h => Device.portRecalArmCore_evolves h
  | portRecalCancel => exact direct_evolves fun _ h => Device.portRecalCancelCore_evolves h
  | receiverFreeze => exact on_evolves (Device.receiverFreeze_evolves (.refl _))
  | recalAlignmentRegained => exact on_evolves (Device.recalAlignmentRegained_evolves (.refl _))
  | recalTimeout => exact on_evolves (Device.recalTimeout_evolves (.refl _))
  | phcSet => exact direct_evolves fun _ h => Device.phcSetCore_evolves h
  | phcStep => exact direct_evolves fun _ h => Device.phcStepCore_evolves h
  | phcSlew => exact direct_evolves fun _ h => Device.phcSlewCore_evolves h
  | phcSlewStop => exact direct_evolves fun _ h => Device.phcSlewStopCore_evolves h
  | phcFreqAdjWrite => exact direct_evolves fun _ h => Device.freqAdjWrite_evolves h
  | phcChangeEffect => exact on_evolves (Device.phcChangeEffect_evolves (.refl _))
  | slewComplete => exact on_evolves (Device.slewComplete_evolves (.refl _))
  | leapApply => exact on_evolves (Device.leapApply_evolves (.refl _))
  | tsCalCmd => exact direct_evolves fun _ h => Device.tsCalCore_evolves h
  | tsPhaseMeasured => exact on_evolves (Device.tsPhaseMeasured_evolves (.refl _))
  | tsRegionTempRead => exact on_evolves (Device.tsRegionTempRead_evolves (.refl _))
  | tcScheduledDeparture => exact onQueues_evolves fun _ h => Device.tcScheduledDeparture_evolves h
  | ppsOutEdge => exact on_evolves (Device.ppsOutEdge_evolves (.refl _))
  | ppsOutFall => exact on_evolves (Device.ppsOutFall_evolves (.refl _))
  | todOutMessage => exact on_evolves (Device.todOutMessage_evolves (.refl _))
  | ppsInEdge => exact on_evolves (Device.ppsInEdge_evolves (.refl _))
  | todInMessage => exact on_evolves (Device.todInMessage_evolves (.refl _))
  | timeLockTimeout => exact on_evolves (Device.timeLockTimeout_evolves (.refl _))
  | gunIssue => exact on_evolves (Device.gunIssue_evolves (.refl _))
  | gunFire => exact on_evolves (Device.gunFire_evolves (.refl _))
  | gunMessageRx => exact on_evolves (Device.gunMessageRx_evolves (.refl _))
  | hostFrameRx => exact onQueues_evolves fun _ h => Device.hostFrameRx_evolves h
  | lineFrameRx => exact onQueues_evolves fun _ h => Device.lineFrameRx_evolves h
  | callroomLookupReturn => exact onQueues_evolves fun _ h => Device.callroomLookupReturn_evolves h
  | callroomTimeout => exact onQueues_evolves fun _ h => Device.callroomTimeout_evolves h
  | schedulerFrameStart => exact onQueues_evolves fun _ h => Device.schedulerFrameStart_evolves h
  | pnAssign => exact onQueues_evolves fun _ h => Device.pnAssign_evolves h
  | stopHoldExpiry => exact onQueues_evolves fun _ h => Device.stopHoldExpiry_evolves h
  | keystreamApply => exact onQueues_evolves fun _ h => Device.keystreamApply_evolves h
  | frameTxComplete => exact onQueues_evolves fun _ h => Device.frameTxComplete_evolves h
  | decryptTailVerify => exact onQueues_evolves fun _ h => Device.decryptTailVerify_evolves h
  | parserLoadA => exact direct_evolves fun _ h => Device.parserLoadCore_evolves h
  | parserLoadB => exact direct_evolves fun _ h => Device.parserLoadCore_evolves h
  | parserArm => exact direct_evolves fun _ h => Device.parserArmCore_evolves h
  | parserCancel => exact direct_evolves fun _ h => Device.parserCancelCore_evolves h
  | puntDeliver => exact on_evolves (Device.puntDeliver_evolves (.refl _))
  | puntDescriptorTimeout => exact on_evolves (Device.puntDescriptorTimeout_evolves (.refl _))
  | injectDescriptor => exact on_evolves (Device.injectDescriptor_evolves (.refl _))
  | injectComplete => exact on_evolves (Device.injectComplete_evolves (.refl _))
  | injectSendTimeout => exact on_evolves (Device.injectSendTimeout_evolves (.refl _))
  | bankTurn => exact on_evolves (Device.bankTurn_evolves (.refl _))
  | retrialResult => exact on_evolves (Device.retrialResult_evolves (.refl _))
  | coreStrikeRetire => exact on_evolves (Device.coreStrikeRetire_evolves (.refl _))
  | coreTakeoverDone => exact on_evolves (Device.coreTakeoverDone_evolves (.refl _))
  | bankKat => exact on_evolves (Device.bankKat_evolves (.refl _))
  | umpireLfsrReseed => exact on_evolves (Device.umpireLfsrReseed_evolves (.refl _))
  | bankRetire => exact direct_evolves fun _ h => Device.bankRetireCore_evolves h
  | katNow => exact direct_evolves fun _ h => Device.katNowCore_evolves h
  | keyScheduleLoadDone => exact onQueues_evolves fun _ h => Device.keyScheduleLoadDone_evolves h
  | saProvision => exact direct_evolves fun _ h => Device.saProvisionCore_evolves h
  | saLoad => exact direct_evolves fun _ h => Device.saLoadCore_evolves h
  | saArm => exact direct_evolves fun _ h => Device.saArmCore_evolves h
  | saCancel => exact direct_evolves fun _ h => Device.saCancelCore_evolves h
  | saRetire => exact direct_evolves fun _ h => Device.saRetireCore_evolves h
  | saUnload => exact direct_evolves fun _ h => Device.saUnloadCore_evolves h
  | saRelease => exact direct_evolves fun _ h => Device.saReleaseCore_evolves h
  | saDrained => exact on_evolves (Device.saDrained_evolves (.refl _))
  | clsWrite => exact direct_evolves fun _ h => Device.clsWriteCore_evolves h
  | clsDelete => exact direct_evolves fun _ h => Device.clsDeleteCore_evolves h
  | clsRead => exact direct_evolves fun _ h => Device.clsReadCore_evolves h
  | rxscEntryMaintain => exact direct_evolves fun _ h => Device.rxscWrite_evolves h
  | insertEngineDone => exact on_evolves (Device.insertEngineDone_evolves (.refl _))
  | agingScanVisit => exact on_evolves (Device.agingScanVisit_evolves (.refl _))
  | batonProcess => exact on_evolves (Device.batonProcess_evolves (.refl _))
  | learnFlush => exact direct_evolves fun _ h => Device.learnFlushCore_evolves h
  | peerMessageRx => exact on_evolves (Device.peerMessageRx_evolves (.refl _))
  | peerBlockLock => exact on_evolves (Device.peerBlockLock_evolves (.refl _))
  | tagRenormalize => exact on_evolves (Device.tagRenormalize_evolves (.refl _))
  | lapWritebackDone => exact on_evolves (Device.lapWritebackDone_evolves (.refl _))
  | vaultImport => exact direct_evolves fun _ h => Device.vaultImportCore_evolves h
  | vaultDerive => exact direct_evolves fun _ h => Device.vaultDeriveCore_evolves h
  | deriveSuccessor => exact direct_evolves fun _ h => Device.deriveSuccessorCore_evolves h
  | zeroizeSlot => exact direct_evolves fun _ h => Device.zeroizeSlotCore_evolves h
  | zeroizeTenant => exact direct_evolves fun _ h => Device.zeroizeTenantCore_evolves h
  | zeroizeAll => exact direct_evolves fun _ h => Device.zeroizeAllCore_evolves h
  | vaultScrubVisit => exact on_evolves (Device.vaultScrubVisit_evolves (.refl _))
  | drbgReseed => exact on_evolves (Device.drbgReseed_evolves (.refl _))
  | entropyTestFail => exact on_evolves (Device.entropyTestFail_evolves (.refl _))
  | entropyRestartDone => exact on_evolves (Device.entropyRestartDone_evolves (.refl _))
  | drbgReinstantiate => exact on_evolves (Device.drbgReinstantiate_evolves (.refl _))
  | lookasideJobStart => exact on_evolves (Device.lookasideJobStart_evolves (.refl _))
  | lookasideSliceYield => exact on_evolves (Device.lookasideSliceYield_evolves (.refl _))
  | lookasideJobComplete => exact on_evolves (Device.lookasideJobComplete_evolves (.refl _))
  | memLineRead => exact on_evolves (Device.memLineRead_evolves (.refl _))
  | memFullLineWrite => exact on_evolves (Device.memFullLineWrite_evolves (.refl _))
  | memPartialWrite => exact on_evolves (Device.memPartialWrite_evolves (.refl _))
  | treeNodeEvict => exact on_evolves (Device.treeNodeEvict_evolves (.refl _))
  | memScrubVisit => exact on_evolves (Device.memScrubVisit_evolves (.refl _))
  | memChRetire => exact direct_evolves fun _ h => Device.memChRetireCore_evolves h
  | memChUncorrRetire => exact on_evolves (Device.memChUncorrRetire_evolves (.refl _))
  | memCalibrationLost => exact on_evolves (Device.memCalibrationLost_evolves (.refl _))
  | memRehashSwitch => exact on_evolves (Device.memRehashSwitch_evolves (.refl _))
  | memEvacuationDone => exact on_evolves (Device.memEvacuationDone_evolves (.refl _))
  | memWinRead => exact direct_evolves fun _ h => Device.memWinReadCore_evolves h
  | memWinWrite => exact direct_evolves fun _ h => Device.memWinWriteCore_evolves h
  | readCiphertext => exact direct_evolves fun _ h => Device.readCiphertextCore_evolves h
  | memReinit => exact direct_evolves fun _ h => Device.memReinitCore_evolves h
  | sealTest => exact direct_evolves fun _ h => Device.sealTestCore_evolves h
  | lcUnlock => exact direct_evolves fun _ h => Device.unlockCore_evolves h
  | personalize => exact direct_evolves fun _ h => Device.personalizeCore_evolves h
  | takeOwnership => exact direct_evolves fun _ h => Device.takeOwnershipCore_evolves h
  | lcReturn => exact direct_evolves fun _ h => Device.lcReturnCore_evolves h
  | scrap => exact direct_evolves fun _ h => Device.scrapCore_evolves h
  | rmaUnlock => exact direct_evolves fun _ h => Device.rmaUnlockCore_evolves h
  | lcRebuildDone => exact on_evolves (Device.lcRebuildDone_evolves (.refl _))
  | debugSessionExpiry => exact on_evolves (Device.debugSessionExpiry_evolves (.refl _))
  | dbgSramRead => exact direct_evolves fun _ h => Device.dbgSramReadCore_evolves h
  | fwErase => exact direct_evolves fun _ h => Device.fwEraseCore_evolves h
  | fwWrite => exact direct_evolves fun _ h => Device.fwWriteCore_evolves h
  | fwVerify => exact direct_evolves fun _ h => Device.fwVerifyCore_evolves h
  | fwPrefer => exact direct_evolves fun _ h => Device.fwPreferCore_evolves h
  | activateReset => exact direct_evolves fun _ h => Device.activateResetCore_evolves h
  | activateHot => exact direct_evolves fun _ h => Device.activateHotCore_evolves h
  | hotActivationDone => exact on_evolves (Device.hotActivationDone_evolves (.refl _))
  | fwDiscard => exact direct_evolves fun _ h => Device.fwDiscardCore_evolves h
  | commitVersion => exact direct_evolves fun _ h => Device.commitVersionCore_evolves h
  | attBuildTop => exact direct_evolves fun _ h => Device.attBuildTopCore_evolves h
  | bottomTreeBuildDone => exact on_evolves (Device.bottomTreeBuildDone_evolves (.refl _))
  | attSign => exact direct_evolves fun _ h => Device.attSignCore_evolves h
  | epochRollover => exact on_evolves (Device.epochRollover_evolves (.refl _))
  | faultSample => exact on_evolves (Device.faultSampled_evolves (.refl _))
  | brokenWire => exact on_evolves (Device.brokenWire_evolves (.refl _))
  | wireRestored => exact on_evolves (Device.wireRestored_evolves (.refl _))
  | fltSrcAck => exact direct_evolves fun _ h => Device.fltSrcAckCore_evolves h
  | fltAckAll => exact direct_evolves fun _ h => Device.fltAckAllCore_evolves h
  | eventRingDeliver => exact on_evolves (Device.eventRingDeliver_evolves (.refl _))
  | sydinWatchdog => exact on_evolves (Device.sydinWatchdog_evolves (.refl _))
  | monitorEvent => exact on_evolves (Device.monitorEvent_evolves (.refl _))
  | monitorRearm => exact on_evolves (Device.monitorRearm_evolves (.refl _))
  | pmcSampleCapture => exact on_evolves (Device.pmcSampleCapture_evolves (.refl _))
  | pmcSampleTimeout => exact on_evolves (Device.pmcSampleTimeout_evolves (.refl _))
  | pmcValueRead => exact on_evolves (Device.pmcValueRead_evolves (.refl _))
  | sramSpareCmd => exact direct_evolves fun _ h => Device.sramSpareCore_evolves h
  | sramRowSpare => exact on_evolves (Device.sramRowSpare_evolves (.refl _))
  | thermNAssert => exact on_evolves (Device.thermNAssert_evolves (.refl _))
  | pcieLinkUp => exact on_evolves (Device.pcieLinkUp_evolves (.refl _))
  | ringIdleSetRx => exact on_evolves (Device.ringIdleSetRx_evolves (.refl _))
  | pllLockRegained => exact on_evolves (Device.pllLockRegained_evolves (.refl _))
  | memCalibrationLoss => exact on_evolves (Device.memCalibrationLoss_evolves (.refl _))
  | memCalibrationRegained => exact on_evolves (Device.memCalibrationRegained_evolves (.refl _))
  | pmcClockCountWrap => exact on_evolves (Device.pmcClockCountWrap_evolves (.refl _))
/-- Settles O3: every command is one operation of the device, and every operation respects the part and the record of outputs. -/
theorem everyCommandAnswersANextState : Obligations.EveryCommandAnswersANextState := by
  unfold Obligations.EveryCommandAnswersANextState
  intro c s
  obtain ⟨d, hexec, hd⟩ := exec_advances c s
  exact ⟨_, hexec, rfl, hd.part, hd.out⟩


/-! ### What a command does to fuses and flash -/

/-- Neither the fuses nor the flash are among the places `T`. -/
abbrev SparesCells (T : List Nat) : Prop := F.otp ∉ T ∧ F.flash ∉ T

/-- `o` answers `s` with another device that has the same fuses and flash. -/
def Spares (s : State) (o : Host.Outcome State Fault Refusal) : Prop :=
  ∃ d, o = .next { s with dev := d } ∧ d.otp = s.dev.otp ∧ d.flash = s.dev.flash

theorem Keeps.cells {T : List Nat} {a b : Device} (h : Keeps T a b) (hT : SparesCells T) : b.otp = a.otp ∧ b.flash = a.flash :=
  ⟨h.fields 48 hT.1, h.fields 49 hT.2⟩

theorem Keeps.cells_append {T U : List Nat} {a b : Device} (h : Keeps (T ++ U) a b) (hT : SparesCells T) (hU : SparesCells U) :
    b.otp = a.otp ∧ b.flash = a.flash :=
  h.cells ⟨fun x => (List.mem_append.1 x).elim hT.1 hU.1, fun x => (List.mem_append.1 x).elim hT.2 hU.2⟩

theorem sub_append_left (T U : List Nat) : Sub T (T ++ U) := fun _ h => List.mem_append_left _ h
theorem sub_append_right (T U : List Nat) : Sub U (T ++ U) := fun _ h => List.mem_append_right _ h

namespace Spares

theorem on_spares {s : State} {T : List Nat} {f : Device → Device} (h : Keeps T s.dev (f s.dev)) (hT : SparesCells T) :
    Spares s (s.on f) := ⟨_, rfl, h.cells hT⟩

theorem onQueues_spares {s : State} {T : List Nat} {f : Device → Device}
    (h : ∀ W a d, Sub T W → Keeps W a d → Keeps W a (f d)) (hT : SparesCells T) : Spares s (s.onQueues f) := by
  have hk : Keeps (T ++ Touch.settle) s.dev (f s.dev.settle).settle :=
    Device.settle_keeps (sub_append_right _ _) (h _ _ _ (sub_append_left _ _) (Device.settle_keeps (sub_append_right _ _) (.refl _ _)))
  exact ⟨_, rfl, hk.cells_append hT (by decide)⟩

theorem direct_spares {s : State} {T : List Nat} {r : Req} {f : Device → Nat × Device}
    (h : ∀ W a d, Sub T W → Keeps W a d → Keeps W a (f d).2) (hT : SparesCells T) :
    Spares s (s.on (fun d => d.direct r f)) := by
  have hk : Keeps (T ++ Touch.direct) s.dev (s.dev.direct r f) :=
    Device.direct_keeps (sub_append_right _ _) (.refl _ _) fun d hd => h _ _ d (sub_append_left _ _) hd
  exact ⟨_, rfl, hk.cells_append hT (by decide)⟩

end Spares

open Spares in
theorem exec_spares {c : Instr} (hc : storesFuses c = false) (s : State) : Spares s (exec c s) := by
  cases c with
  | dictWrite => cases hc
  | groupShadowWrite => cases hc
  | groupOpen => exact direct_spares (fun _ _ _ hW h => Device.groupOpenCore_keeps hW h) (by decide)
  | commitNow => exact direct_spares (fun _ _ _ hW h => Device.commitNowCore_keeps hW h) (by decide)
  | commitAt => exact direct_spares (fun _ _ _ hW h => Device.commitAtCore_keeps hW h) (by decide)
  | groupCancel => exact direct_spares (fun _ _ _ hW h => Device.groupCancelCore_keeps hW h) (by decide)
  | groupRelease => exact direct_spares (fun _ _ _ hW h => Device.groupReleaseCore_keeps hW h) (by decide)
  | lockClaim => exact direct_spares (fun _ _ _ hW h => Device.lockWrite_keeps hW h) (by decide)
  | lockRelease => exact direct_spares (fun _ _ _ hW h => Device.lockWrite_keeps hW h) (by decide)
  | lockBreak => exact direct_spares (fun _ _ _ hW h => Device.lockBreakCore_keeps hW h) (by decide)
  | lockLeaseExpiry => exact on_spares (Device.lockLeaseExpiry_keeps (fun _ h => h) (.refl _ _)) (by decide)
  | ringCharacterLock => exact on_spares (Device.ringCharacterLock_keeps (fun _ h => h) (.refl _ _)) (by decide)
  | ringLockLoss => exact on_spares (Device.ringLockLoss_keeps (fun _ h => h) (.refl _ _)) (by decide)
  | ringMessageForward => exact on_spares (Device.ringMessageForward_keeps (fun _ h => h) (.refl _ _)) (by decide)
  | ringMessageInsert => exact on_spares (Device.ringMessageInsert_keeps (fun _ h => h) (.refl _ _)) (by decide)
  | ringHoldAssert => exact on_spares (Device.ringHoldAssert_keeps (fun _ h => h) (.refl _ _)) (by decide)
  | join => exact on_spares (Device.join_keeps (fun _ h => h) (.refl _ _)) (by decide)
  | address => exact on_spares (Device.address_keeps (fun _ h => h) (.refl _ _)) (by decide)
  | request => cases hc
  | ringOpen => exact on_spares (Device.ringOpen_keeps (fun _ h => h) (.refl _ _)) (by decide)
  | ringProve => exact on_spares (Device.ringProve_keeps (fun _ h => h) (.refl _ _)) (by decide)
  | proveTimeout => exact on_spares (Device.proveTimeout_keeps (fun _ h => h) (.refl _ _)) (by decide)
  | proofLockoutEnd => exact on_spares (Device.proofLockoutEnd_keeps (fun _ h => h) (.refl _ _)) (by decide)
  | sessionClose => exact on_spares (Device.sessionClose_keeps (fun _ h => h) (.refl _ _)) (by decide)
  | sessionIdleExpiry => exact on_spares (Device.sessionIdleExpiry_keeps (fun _ h => h) (.refl _ _)) (by decide)
  | pcieWindowRead => exact on_spares (Device.pcieWindowRead_keeps (fun _ h => h) (.refl _ _)) (by decide)
  | pcieWindowWrite => cases hc
  | pcieWindowOpen => exact on_spares (Device.pcieWindowOpen_keeps (fun _ h => h) (.refl _ _)) (by decide)
  | pcieWindowProve => exact on_spares (Device.pcieWindowProve_keeps (fun _ h => h) (.refl _ _)) (by decide)
  | pcieWindowClose => exact on_spares (Device.pcieWindowClose_keeps (fun _ h => h) (.refl _ _)) (by decide)
  | pciePortReset => exact on_spares (Device.pciePortReset_keeps (fun _ h => h) (.refl _ _)) (by decide)
  | apertureRead => exact on_spares (Device.apertureRead_keeps (fun _ h => h) (.refl _ _)) (by decide)
  | apertureWrite => exact on_spares (Device.apertureWrite_keeps (fun _ h => h) (.refl _ _)) (by decide)
  | ringEnableSet => exact direct_spares (fun _ _ _ hW h => Device.ringEnableWrite_keeps hW h) (by decide)
  | ringEnableClear => exact direct_spares (fun _ _ _ hW h => Device.ringEnableWrite_keeps hW h) (by decide)
  | doorbell => exact on_spares (Device.doorbell_keeps (fun _ h => h) (.refl _ _)) (by decide)
  | dmaDescriptorProcess => exact on_spares (Device.dmaDescriptorProcess_keeps (fun _ h => h) (.refl _ _)) (by decide)
  | dmaIrqTimer => exact on_spares (Device.dmaIrqTimer_keeps (fun _ h => h) (.refl _ _)) (by decide)
  | msixUnmask => exact on_spares (Device.msixUnmask_keeps (fun _ h => h) (.refl _ _)) (by decide)
  | bypass => exact on_spares (Device.bypass_keeps (fun _ h => h) (.refl _ _)) (by decide)
  | idcode => exact on_spares (Device.idcode_keeps (fun _ h => h) (.refl _ _)) (by decide)
  | samplePreload => exact on_spares (Device.samplePreload_keeps (fun _ h => h) (.refl _ _)) (by decide)
  | extest => exact on_spares (Device.extest_keeps (fun _ h => h) (.refl _ _)) (by decide)
  | dapRead => exact on_spares (Device.dapRead_keeps (fun _ h => h) (.refl _ _)) (by decide)
  | dapWrite => cases hc
  | valueIn => exact on_spares (Device.valueIn_keeps (fun _ h => h) (.refl _ _)) (by decide)
  | valueOut => exact on_spares (Device.valueOut_keeps (fun _ h => h) (.refl _ _)) (by decide)
  | dapStatus => exact on_spares (Device.dapStatus_keeps (fun _ h => h) (.refl _ _)) (by decide)
  | dapOpen => exact on_spares (Device.dapOpen_keeps (fun _ h => h) (.refl _ _)) (by decide)
  | dapProve => exact on_spares (Device.dapProve_keeps (fun _ h => h) (.refl _ _)) (by decide)
  | dapClose => exact on_spares (Device.dapClose_keeps (fun _ h => h) (.refl _ _)) (by decide)
  | goRun => exact direct_spares (fun _ _ _ hW h => Device.goRunCore_keeps hW h) (by decide)
  | goStage => exact direct_spares (fun _ _ _ hW h => Device.goStageCore_keeps hW h) (by decide)
  | goDrain => exact direct_spares (fun _ _ _ hW h => Device.goDrainCore_keeps hW h) (by decide)
  | resumeRun => exact direct_spares (fun _ _ _ hW h => Device.resumeRunCore_keeps hW h) (by decide)
  | modeCmdReset => exact direct_spares (fun _ _ _ hW h => Device.modeCmdResetCore_keeps hW h) (by decide)
  | pwrGoodLow => exact on_spares (Device.pwrGoodLow_keeps (fun _ h => h) (.refl _ _)) (by decide)
  | resetNLow => exact on_spares (Device.resetNLow_keeps (fun _ h => h) (.refl _ _)) (by decide)
  | resetRelease => exact on_spares (Device.resetRelease_keeps (fun _ h => h) (.refl _ _)) (by decide)
  | bootPllsLocked => cases hc
  | entropyStartupTests => exact on_spares (Device.entropyStartupTests_keeps (fun _ h => h) (.refl _ _)) (by decide)
  | sydinImageVerified => cases hc
  | memTrainingDone => exact on_spares (Device.memTrainingDone_keeps (fun _ h => h) (.refl _ _)) (by decide)
  | serdesCalibrationDone => exact on_spares (Device.serdesCalibrationDone_keeps (fun _ h => h) (.refl _ _)) (by decide)
  | bootComplete => exact on_spares (Device.bootComplete_keeps (fun _ h => h) (.refl _ _)) (by decide)
  | drainFlushComplete => exact on_spares (Device.drainFlushComplete_keeps (fun _ h => h) (.refl _ _)) (by decide)
  | drainFlushExpiry => exact on_spares (Device.drainFlushExpiry_keeps (fun _ h => h) (.refl _ _)) (by decide)
  | takeOut => exact direct_spares (fun _ _ _ hW h => Device.takeOutCore_keeps hW h) (by decide)
  | gate => exact direct_spares (fun _ _ _ hW h => Device.gateCore_keeps hW h) (by decide)
  | sliceReturn => exact direct_spares (fun _ _ _ hW h => Device.sliceReturnCore_keeps hW h) (by decide)
  | sliceReturnDone => exact on_spares (Device.sliceReturnDone_keeps (fun _ h => h) (.refl _ _)) (by decide)
  | laneSignalDetect => exact on_spares (Device.laneSignalDetect_keeps (fun _ h => h) (.refl _ _)) (by decide)
  | laneAcquisitionDone => exact on_spares (Device.laneAcquisitionDone_keeps (fun _ h => h) (.refl _ _)) (by decide)
  | laneAcquisitionTimeout => exact on_spares (Device.laneAcquisitionTimeout_keeps (fun _ h => h) (.refl _ _)) (by decide)
  | laneSignalLoss => exact on_spares (Device.laneSignalLoss_keeps (fun _ h => h) (.refl _ _)) (by decide)
  | portLinkChange => exact on_spares (Device.portLinkChange_keeps (fun _ h => h) (.refl _ _)) (by decide)
  | fecUncorrLimit => exact on_spares (Device.fecUncorrLimit_keeps (fun _ h => h) (.refl _ _)) (by decide)
  | macControlRx => exact on_spares (Device.macControlRx_keeps (fun _ h => h) (.refl _ _)) (by decide)
  | pauseExpiry => exact on_spares (Device.pauseExpiry_keeps (fun _ h => h) (.refl _ _)) (by decide)
  | xoffRefresh => exact on_spares (Device.xoffRefresh_keeps (fun _ h => h) (.refl _ _)) (by decide)
  | portRecalArm => exact direct_spares (fun _ _ _ hW h => Device.portRecalArmCore_keeps hW h) (by decide)
  | portRecalCancel => exact direct_spares (fun _ _ _ hW h => Device.portRecalCancelCore_keeps hW h) (by decide)
  | receiverFreeze => exact on_spares (Device.receiverFreeze_keeps (fun _ h => h) (.refl _ _)) (by decide)
  | recalAlignmentRegained => exact on_spares (Device.recalAlignmentRegained_keeps (fun _ h => h) (.refl _ _)) (by decide)
  | recalTimeout => exact on_spares (Device.recalTimeout_keeps (fun _ h => h) (.refl _ _)) (by decide)
  | phcSet => exact direct_spares (fun _ _ _ hW h => Device.phcSetCore_keeps hW h) (by decide)
  | phcStep => exact direct_spares (fun _ _ _ hW h => Device.phcStepCore_keeps hW h) (by decide)
  | phcSlew => exact direct_spares (fun _ _ _ hW h => Device.phcSlewCore_keeps hW h) (by decide)
  | phcSlewStop => exact direct_spares (fun _ _ _ hW h => Device.phcSlewStopCore_keeps hW h) (by decide)
  | phcFreqAdjWrite => exact direct_spares (fun _ _ _ hW h => Device.freqAdjWrite_keeps hW h) (by decide)
  | phcChangeEffect => exact on_spares (Device.phcChangeEffect_keeps (fun _ h => h) (.refl _ _)) (by decide)
  | slewComplete => exact on_spares (Device.slewComplete_keeps (fun _ h => h) (.refl _ _)) (by decide)
  | leapApply => exact on_spares (Device.leapApply_keeps (fun _ h => h) (.refl _ _)) (by decide)
  | tsCalCmd => exact direct_spares (fun _ _ _ hW h => Device.tsCalCore_keeps hW h) (by decide)
  | tsPhaseMeasured => exact on_spares (Device.tsPhaseMeasured_keeps (fun _ h => h) (.refl _ _)) (by decide)
  | tsRegionTempRead => exact on_spares (Device.tsRegionTempRead_keeps (fun _ h => h) (.refl _ _)) (by decide)
  | tcScheduledDeparture => exact onQueues_spares (fun _ _ _ hW h => Device.tcScheduledDeparture_keeps hW h) (by decide)
  | ppsOutEdge => exact on_spares (Device.ppsOutEdge_keeps (fun _ h => h) (.refl _ _)) (by decide)
  | ppsOutFall => exact on_spares (Device.ppsOutFall_keeps (fun _ h => h) (.refl _ _)) (by decide)
  | todOutMessage => exact on_spares (Device.todOutMessage_keeps (fun _ h => h) (.refl _ _)) (by decide)
  | ppsInEdge => exact on_spares (Device.ppsInEdge_keeps (fun _ h => h) (.refl _ _)) (by decide)
  | todInMessage => exact on_spares (Device.todInMessage_keeps (fun _ h => h) (.refl _ _)) (by decide)
  | timeLockTimeout => exact on_spares (Device.timeLockTimeout_keeps (fun _ h => h) (.refl _ _)) (by decide)
  | gunIssue => exact on_spares (Device.gunIssue_keeps (fun _ h => h) (.refl _ _)) (by decide)
  | gunFire => exact on_spares (Device.gunFire_keeps (fun _ h => h) (.refl _ _)) (by decide)
  | gunMessageRx => exact on_spares (Device.gunMessageRx_keeps (fun _ h => h) (.refl _ _)) (by decide)
  | hostFrameRx => exact onQueues_spares (fun _ _ _ hW h => Device.hostFrameRx_keeps hW h) (by decide)
  | lineFrameRx => exact onQueues_spares (fun _ _ _ hW h => Device.lineFrameRx_keeps hW h) (by decide)
  | callroomLookupReturn => exact onQueues_spares (fun _ _ _ hW h => Device.callroomLookupReturn_keeps hW h) (by decide)
  | callroomTimeout => exact onQueues_spares (fun _ _ _ hW h => Device.callroomTimeout_keeps hW h) (by decide)
  | schedulerFrameStart => exact onQueues_spares (fun _ _ _ hW h => Device.schedulerFrameStart_keeps hW h) (by decide)
  | pnAssign => exact onQueues_spares (fun _ _ _ hW h => Device.pnAssign_keeps hW h) (by decide)
  | stopHoldExpiry => exact onQueues_spares (fun _ _ _ hW h => Device.stopHoldExpiry_keeps hW h) (by decide)
  | keystreamApply => exact onQueues_spares (fun _ _ _ hW h => Device.keystreamApply_keeps hW h) (by decide)
  | frameTxComplete => exact onQueues_spares (fun _ _ _ hW h => Device.frameTxComplete_keeps hW h) (by decide)
  | decryptTailVerify => exact onQueues_spares (fun _ _ _ hW h => Device.decryptTailVerify_keeps hW h) (by decide)
  | parserLoadA => exact direct_spares (fun _ _ _ hW h => Device.parserLoadCore_keeps hW h) (by decide)
  | parserLoadB => exact direct_spares (fun _ _ _ hW h => Device.parserLoadCore_keeps hW h) (by decide)
  | parserArm => exact direct_spares (fun _ _ _ hW h => Device.parserArmCore_keeps hW h) (by decide)
  | parserCancel => exact direct_spares (fun _ _ _ hW h => Device.parserCancelCore_keeps hW h) (by decide)
  | puntDeliver => exact on_spares (Device.puntDeliver_keeps (fun _ h => h) (.refl _ _)) (by decide)
  | puntDescriptorTimeout => exact on_spares (Device.puntDescriptorTimeout_keeps (fun _ h => h) (.refl _ _)) (by decide)
  | injectDescriptor => exact on_spares (Device.injectDescriptor_keeps (fun _ h => h) (.refl _ _)) (by decide)
  | injectComplete => exact on_spares (Device.injectComplete_keeps (fun _ h => h) (.refl _ _)) (by decide)
  | injectSendTimeout => exact on_spares (Device.injectSendTimeout_keeps (fun _ h => h) (.refl _ _)) (by decide)
  | bankTurn => exact on_spares (Device.bankTurn_keeps (fun _ h => h) (.refl _ _)) (by decide)
  | retrialResult => exact on_spares (Device.retrialResult_keeps (fun _ h => h) (.refl _ _)) (by decide)
  | coreStrikeRetire => exact on_spares (Device.coreStrikeRetire_keeps (fun _ h => h) (.refl _ _)) (by decide)
  | coreTakeoverDone => exact on_spares (Device.coreTakeoverDone_keeps (fun _ h => h) (.refl _ _)) (by decide)
  | bankKat => exact on_spares (Device.bankKat_keeps (fun _ h => h) (.refl _ _)) (by decide)
  | umpireLfsrReseed => exact on_spares (Device.umpireLfsrReseed_keeps (fun _ h => h) (.refl _ _)) (by decide)
  | bankRetire => exact direct_spares (fun _ _ _ hW h => Device.bankRetireCore_keeps hW h) (by decide)
  | katNow => exact direct_spares (fun _ _ _ hW h => Device.katNowCore_keeps hW h) (by decide)
  | keyScheduleLoadDone => exact onQueues_spares (fun _ _ _ hW h => Device.keyScheduleLoadDone_keeps hW h) (by decide)
  | saProvision => exact direct_spares (fun _ _ _ hW h => Device.saProvisionCore_keeps hW h) (by decide)
  | saLoad => exact direct_spares (fun _ _ _ hW h => Device.saLoadCore_keeps hW h) (by decide)
  | saArm => exact direct_spares (fun _ _ _ hW h => Device.saArmCore_keeps hW h) (by decide)
  | saCancel => exact direct_spares (fun _ _ _ hW h => Device.saCancelCore_keeps hW h) (by decide)
  | saRetire => exact direct_spares (fun _ _ _ hW h => Device.saRetireCore_keeps hW h) (by decide)
  | saUnload => exact direct_spares (fun _ _ _ hW h => Device.saUnloadCore_keeps hW h) (by decide)
  | saRelease => exact direct_spares (fun _ _ _ hW h => Device.saReleaseCore_keeps hW h) (by decide)
  | saDrained => exact on_spares (Device.saDrained_keeps (fun _ h => h) (.refl _ _)) (by decide)
  | clsWrite => exact direct_spares (fun _ _ _ hW h => Device.clsWriteCore_keeps hW h) (by decide)
  | clsDelete => exact direct_spares (fun _ _ _ hW h => Device.clsDeleteCore_keeps hW h) (by decide)
  | clsRead => exact direct_spares (fun _ _ _ hW h => Device.clsReadCore_keeps hW h) (by decide)
  | rxscEntryMaintain => exact direct_spares (fun _ _ _ hW h => Device.rxscWrite_keeps hW h) (by decide)
  | insertEngineDone => exact on_spares (Device.insertEngineDone_keeps (fun _ h => h) (.refl _ _)) (by decide)
  | agingScanVisit => exact on_spares (Device.agingScanVisit_keeps (fun _ h => h) (.refl _ _)) (by decide)
  | batonProcess => exact on_spares (Device.batonProcess_keeps (fun _ h => h) (.refl _ _)) (by decide)
  | learnFlush => exact direct_spares (fun _ _ _ hW h => Device.learnFlushCore_keeps hW h) (by decide)
  | peerMessageRx => exact on_spares (Device.peerMessageRx_keeps (fun _ h => h) (.refl _ _)) (by decide)
  | peerBlockLock => exact on_spares (Device.peerBlockLock_keeps (fun _ h => h) (.refl _ _)) (by decide)
  | tagRenormalize => exact on_spares (Device.tagRenormalize_keeps (fun _ h => h) (.refl _ _)) (by decide)
  | lapWritebackDone => exact on_spares (Device.lapWritebackDone_keeps (fun _ h => h) (.refl _ _)) (by decide)
  | vaultImport => exact direct_spares (fun _ _ _ hW h => Device.vaultImportCore_keeps hW h) (by decide)
  | vaultDerive => exact direct_spares (fun _ _ _ hW h => Device.vaultDeriveCore_keeps hW h) (by decide)
  | deriveSuccessor => exact direct_spares (fun _ _ _ hW h => Device.deriveSuccessorCore_keeps hW h) (by decide)
  | zeroizeSlot => exact direct_spares (fun _ _ _ hW h => Device.zeroizeSlotCore_keeps hW h) (by decide)
  | zeroizeTenant => exact direct_spares (fun _ _ _ hW h => Device.zeroizeTenantCore_keeps hW h) (by decide)
  | zeroizeAll => exact direct_spares (fun _ _ _ hW h => Device.zeroizeAllCore_keeps hW h) (by decide)
  | vaultScrubVisit => exact on_spares (Device.vaultScrubVisit_keeps (fun _ h => h) (.refl _ _)) (by decide)
  | drbgReseed => exact on_spares (Device.drbgReseed_keeps (fun _ h => h) (.refl _ _)) (by decide)
  | entropyTestFail => exact on_spares (Device.entropyTestFail_keeps (fun _ h => h) (.refl _ _)) (by decide)
  | entropyRestartDone => exact on_spares (Device.entropyRestartDone_keeps (fun _ h => h) (.refl _ _)) (by decide)
  | drbgReinstantiate => exact on_spares (Device.drbgReinstantiate_keeps (fun _ h => h) (.refl _ _)) (by decide)
  | lookasideJobStart => exact on_spares (Device.lookasideJobStart_keeps (fun _ h => h) (.refl _ _)) (by decide)
  | lookasideSliceYield => exact on_spares (Device.lookasideSliceYield_keeps (fun _ h => h) (.refl _ _)) (by decide)
  | lookasideJobComplete => exact on_spares (Device.lookasideJobComplete_keeps (fun _ h => h) (.refl _ _)) (by decide)
  | memLineRead => exact on_spares (Device.memLineRead_keeps (fun _ h => h) (.refl _ _)) (by decide)
  | memFullLineWrite => exact on_spares (Device.memFullLineWrite_keeps (fun _ h => h) (.refl _ _)) (by decide)
  | memPartialWrite => exact on_spares (Device.memPartialWrite_keeps (fun _ h => h) (.refl _ _)) (by decide)
  | treeNodeEvict => exact on_spares (Device.treeNodeEvict_keeps (fun _ h => h) (.refl _ _)) (by decide)
  | memScrubVisit => exact on_spares (Device.memScrubVisit_keeps (fun _ h => h) (.refl _ _)) (by decide)
  | memChRetire => exact direct_spares (fun _ _ _ hW h => Device.memChRetireCore_keeps hW h) (by decide)
  | memChUncorrRetire => exact on_spares (Device.memChUncorrRetire_keeps (fun _ h => h) (.refl _ _)) (by decide)
  | memCalibrationLost => exact on_spares (Device.memCalibrationLost_keeps (fun _ h => h) (.refl _ _)) (by decide)
  | memRehashSwitch => exact on_spares (Device.memRehashSwitch_keeps (fun _ h => h) (.refl _ _)) (by decide)
  | memEvacuationDone => exact on_spares (Device.memEvacuationDone_keeps (fun _ h => h) (.refl _ _)) (by decide)
  | memWinRead => exact direct_spares (fun _ _ _ hW h => Device.memWinReadCore_keeps hW h) (by decide)
  | memWinWrite => exact direct_spares (fun _ _ _ hW h => Device.memWinWriteCore_keeps hW h) (by decide)
  | readCiphertext => exact direct_spares (fun _ _ _ hW h => Device.readCiphertextCore_keeps hW h) (by decide)
  | memReinit => exact direct_spares (fun _ _ _ hW h => Device.memReinitCore_keeps hW h) (by decide)
  | sealTest => cases hc
  | lcUnlock => cases hc
  | personalize => cases hc
  | takeOwnership => cases hc
  | lcReturn => cases hc
  | scrap => cases hc
  | rmaUnlock => exact direct_spares (fun _ _ _ hW h => Device.rmaUnlockCore_keeps hW h) (by decide)
  | lcRebuildDone => exact on_spares (Device.lcRebuildDone_keeps (fun _ h => h) (.refl _ _)) (by decide)
  | debugSessionExpiry => exact on_spares (Device.debugSessionExpiry_keeps (fun _ h => h) (.refl _ _)) (by decide)
  | dbgSramRead => exact direct_spares (fun _ _ _ hW h => Device.dbgSramReadCore_keeps hW h) (by decide)
  | fwErase => cases hc
  | fwWrite => cases hc
  | fwVerify => exact direct_spares (fun _ _ _ hW h => Device.fwVerifyCore_keeps hW h) (by decide)
  | fwPrefer => cases hc
  | activateReset => exact direct_spares (fun _ _ _ hW h => Device.activateResetCore_keeps hW h) (by decide)
  | activateHot => cases hc
  | hotActivationDone => cases hc
  | fwDiscard => exact direct_spares (fun _ _ _ hW h => Device.fwDiscardCore_keeps hW h) (by decide)
  | commitVersion => cases hc
  | attBuildTop => cases hc
  | bottomTreeBuildDone => exact on_spares (Device.bottomTreeBuildDone_keeps (fun _ h => h) (.refl _ _)) (by decide)
  | attSign => exact direct_spares (fun _ _ _ hW h => Device.attSignCore_keeps hW h) (by decide)
  | epochRollover => cases hc
  | faultSample => exact on_spares (Device.faultSampled_keeps (fun _ h => h) (.refl _ _)) (by decide)
  | brokenWire => exact on_spares (Device.brokenWire_keeps (fun _ h => h) (.refl _ _)) (by decide)
  | wireRestored => exact on_spares (Device.wireRestored_keeps (fun _ h => h) (.refl _ _)) (by decide)
  | fltSrcAck => exact direct_spares (fun _ _ _ hW h => Device.fltSrcAckCore_keeps hW h) (by decide)
  | fltAckAll => exact direct_spares (fun _ _ _ hW h => Device.fltAckAllCore_keeps hW h) (by decide)
  | eventRingDeliver => exact on_spares (Device.eventRingDeliver_keeps (fun _ h => h) (.refl _ _)) (by decide)
  | sydinWatchdog => exact on_spares (Device.sydinWatchdog_keeps (fun _ h => h) (.refl _ _)) (by decide)
  | monitorEvent => exact on_spares (Device.monitorEvent_keeps (fun _ h => h) (.refl _ _)) (by decide)
  | monitorRearm => exact on_spares (Device.monitorRearm_keeps (fun _ h => h) (.refl _ _)) (by decide)
  | pmcSampleCapture => exact on_spares (Device.pmcSampleCapture_keeps (fun _ h => h) (.refl _ _)) (by decide)
  | pmcSampleTimeout => exact on_spares (Device.pmcSampleTimeout_keeps (fun _ h => h) (.refl _ _)) (by decide)
  | pmcValueRead => exact on_spares (Device.pmcValueRead_keeps (fun _ h => h) (.refl _ _)) (by decide)
  | sramSpareCmd => exact direct_spares (fun _ _ _ hW h => Device.sramSpareCore_keeps hW h) (by decide)
  | sramRowSpare => exact on_spares (Device.sramRowSpare_keeps (fun _ h => h) (.refl _ _)) (by decide)
  | thermNAssert => exact on_spares (Device.thermNAssert_keeps (fun _ h => h) (.refl _ _)) (by decide)
  | pcieLinkUp => exact on_spares (Device.pcieLinkUp_keeps (fun _ h => h) (.refl _ _)) (by decide)
  | ringIdleSetRx => exact on_spares (Device.ringIdleSetRx_keeps (fun _ h => h) (.refl _ _)) (by decide)
  | pllLockRegained => exact on_spares (Device.pllLockRegained_keeps (fun _ h => h) (.refl _ _)) (by decide)
  | memCalibrationLoss => exact on_spares (Device.memCalibrationLoss_keeps (fun _ h => h) (.refl _ _)) (by decide)
  | memCalibrationRegained => exact on_spares (Device.memCalibrationRegained_keeps (fun _ h => h) (.refl _ _)) (by decide)
  | pmcClockCountWrap => exact on_spares (Device.pmcClockCountWrap_keeps (fun _ h => h) (.refl _ _)) (by decide)
/-! ### Fuses and flash keep their widths (R335, R349) -/

/-- A cut by keys leaves what it keeps, and the rest reads as unlisted. -/
theorem Sparse.get_filter_key {α : Type} (dflt : Nat → α) (p : Nat → Bool) (l : List (Nat × α)) (k : Nat) :
    Sparse.get dflt (l.filter (fun e => p e.1)) k = if p k then Sparse.get dflt l k else dflt k := by
  induction l with
  | nil => simp
  | cons e r ih =>
    by_cases hk : e.1 = k
    · subst hk
      by_cases hp : p e.1 <;> simp [hp, Sparse.get_cons, ih]
    · by_cases hp : p e.1 <;> simp [hp, hk, Sparse.get_cons, ih]

namespace CellsFit
variable {d e : Device}

theorem of_same (h : CellsFit d) (ho : e.otp = d.otp) (hf : e.flash = d.flash) : CellsFit e := by
  unfold CellsFit Device.otpWord Device.flashByte at *
  rwa [ho, hf]

theorem keeps {T : List Nat} (h : CellsFit d) (k : Keeps T d e) (hT : SparesCells T) : CellsFit e :=
  h.of_same (k.cells hT).1 (k.cells hT).2

theorem wr (h : CellsFit d) (o r v : Nat) : CellsFit (d.wr o r v) := h
theorem wrBit (h : CellsFit d) (o r i : Nat) (b : Bool) : CellsFit (d.wrBit o r i b) := h
theorem inc32 (h : CellsFit d) (o r : Nat) : CellsFit (d.inc32 o r) := h
theorem setBoot (h : CellsFit d) (x : BootX) : CellsFit (d.setBoot x) := h
theorem setClockOn (h : CellsFit d) : CellsFit d.setClockOn := h
theorem setResult (h : CellsFit d) (o row abort status seq : Nat) : CellsFit (d.setResult o row abort status seq) := h.wr _ _ _
theorem startCmd (h : CellsFit d) (o row : Nat) : CellsFit (d.startCmd o row) := h.setResult _ _ _ _ _
theorem endCmd (h : CellsFit d) (o row abort : Nat) : CellsFit (d.endCmd o row abort) := h.setResult _ _ _ _ _
theorem setAtt (h : CellsFit d) (x : AttX) : CellsFit (d.setAtt x) := h
theorem setFw (h : CellsFit d) (x : FwX) : CellsFit (d.setFw x) := h
theorem setLc (h : CellsFit d) (x : LcX) : CellsFit (d.setLc x) := h

theorem ite2 {β : Type} {x y : β × Device} {c : Prop} [Decidable c] (h : CellsFit x.2) (k : CellsFit y.2) :
    CellsFit (if c then x else y).2 := by split <;> assumption

theorem elim {β : Type} {o : Option β} {f : β → Device} (h : CellsFit d) (k : ∀ x, CellsFit (f x)) : CellsFit (o.elim d f) := by
  cases o <;> simp [h, k]

theorem foldl {β : Type} {l : List β} {f : Device → β → Device} (h : CellsFit d) (k : ∀ x y, CellsFit x → CellsFit (f x y)) :
    CellsFit (l.foldl f d) := by
  induction l generalizing d with
  | nil => exact h
  | cons x r ih => exact ih (k d x h)

/-! #### The cells themselves -/

theorem burnWord (h : CellsFit d) (w v : Nat) : CellsFit (d.burnWord w v) := by
  refine ⟨fun x => ?_, h.2⟩
  by_cases hx : x = w
  · subst hx
    have hv : d.otpWord x ||| v % 2 ^ 32 < 2 ^ 32 := Nat.or_lt_two_pow (h.1 x) (Nat.mod_lt _ (by decide))
    simpa [Device.otpWord, Device.burnWord, natAt, natPut] using hv
  · simpa [Device.otpWord, Device.burnWord, natAt, natPut, Sparse.get_put_ne _ _ hx] using h.1 x

theorem burnWords (h : CellsFit d) (n w v : Nat) : CellsFit (Device.burnWords n w v d) := by
  induction n generalizing w v d with
  | zero => exact h
  | succ n ih => exact ih (h.burnWord w v) _ _

theorem burnBits (h : CellsFit d) (lo n v : Nat) : CellsFit (d.burnBits lo n v) := h.burnWords _ _ _

theorem flashPut (h : CellsFit d) (o v : Nat) : CellsFit (d.flashPut o v) := by
  refine ⟨h.1, fun x => ?_⟩
  by_cases hx : x = o
  · subst hx
    simpa [Device.flashByte, Device.flashPut] using Nat.mod_lt v (by decide)
  · simpa [Device.flashByte, Device.flashPut, Sparse.get_put_ne _ _ hx] using h.2 x

theorem flashWrite (h : CellsFit d) (o : Nat) (bs : Bytes) : CellsFit (d.flashWrite o bs) :=
  h.foldl fun _ _ hx => hx.flashPut _ _

theorem flashErase (h : CellsFit d) (o n : Nat) : CellsFit (d.flashErase o n) := by
  refine ⟨h.1, fun x => ?_⟩
  unfold Device.flashByte Device.flashErase
  rw [Sparse.get_filter_key _ (fun k => decide (k < o ∨ o + n ≤ k))]
  split
  · exact h.2 x
  · decide

/-! #### Commands and requests -/

theorem runCmd {r : Req} {o row : Nat} {c : Conds} {body : Device → Option Nat × Device} (h : CellsFit d)
    (hb : ∀ x, CellsFit x → CellsFit (body x).2) : CellsFit (Device.runCmd r o row c body d).2 := by
  unfold Device.runCmd
  dsimp only
  split
  · exact h
  · have hbody := hb _ (h.startCmd o row)
    exact elim hbody fun _ => hbody.endCmd _ _ _

theorem accept (h : CellsFit d) (r : Req) : CellsFit (d.accept r) := h.keeps (Device.accept_keeps_all d r) (by decide)

theorem countRequest (h : CellsFit d) (r : Req) (role abort : Nat) : CellsFit (d.countRequest r role abort) :=
  h.keeps (Device.countRequest_keeps (fun _ x => x) (.refl _ _)) (by decide)

theorem respond (h : CellsFit d) (r : Req) (role abort : Nat) (v : Bytes) : CellsFit (d.respond r role abort v) :=
  h.keeps (Device.respond_keeps_all ..) (by decide)

theorem direct {r : Req} {f : Device → Nat × Device} (h : CellsFit d) (hf : ∀ x, CellsFit x → CellsFit (f x).2) :
    CellsFit (d.direct r f) := by
  have hx := hf _ (h.accept r)
  unfold Device.direct
  dsimp only
  split
  · exact h
  split
  · exact h.respond _ _ _ _
  split
  · exact hx
  · exact hx.respond _ _ _ _

/-! #### Firmware and attestation -/

theorem setSlot (h : CellsFit d) (t st : Nat) : CellsFit (d.setSlot t st) :=
  h.keeps (Device.setSlot_keeps (fun _ x => x) (.refl _ _)) (by decide)

theorem slotTouched (h : CellsFit d) (t : Nat) : CellsFit (d.slotTouched t) :=
  h.keeps (Device.slotTouched_keeps (fun _ x => x) (.refl _ _)) (by decide)

theorem fwEraseCore (h : CellsFit d) (r : Req) : CellsFit (d.fwEraseCore r).2 :=
  h.runCmd fun _ hx => ((hx.flashErase _ _).setSlot _ _).slotTouched _

theorem fwWriteCore (h : CellsFit d) (r : Req) : CellsFit (d.fwWriteCore r).2 :=
  h.runCmd fun _ hx => ((hx.flashWrite _ _).setSlot _ _).slotTouched _

theorem preferSlot (h : CellsFit d) (t : Nat) : CellsFit (d.preferSlot t) := (h.flashWrite _ _).flashPut _ _

theorem fwPreferCore (h : CellsFit d) (r : Req) : CellsFit (d.fwPreferCore r).2 := h.runCmd fun _ hx => hx.preferSlot _

theorem failOld (h : CellsFit d) : CellsFit d.failOld :=
  h.keeps (Device.failOld_keeps (fun _ x => x) (.refl _ _)) (by decide)

theorem commitVersionCore (h : CellsFit d) (r : Req) : CellsFit (d.commitVersionCore r).2 :=
  h.runCmd fun _ hx => hx.elim fun _ => by
    split
    · exact (hx.burnWords _ _ _).failOld
    · exact hx

theorem epochStep (h : CellsFit d) : CellsFit d.epochStep := by
  have hnone : CellsFit ((d.wr O.ATT_LEAVES_LEFT 0 0).wr O.ATT_EPOCH 0 0xFFFF) := (h.wr _ _ _).wr _ _ _
  unfold Device.epochStep
  dsimp only
  split
  · exact hnone.wr _ _ _
  split
  · exact (hnone.wr _ _ _).wrBit _ _ _ _
  split
  · exact hnone.wr _ _ _
  · exact ((hnone.burnWord _ _).wr _ _ _).wr _ _ _

theorem newEpoch (h : CellsFit d) : CellsFit d.newEpoch := by
  unfold Device.newEpoch
  dsimp only
  split
  · exact h.epochStep
  · exact (h.epochStep.foldl fun _ _ hx => hx.endCmd _ _ _).setAtt _

theorem epochRollover (h : CellsFit d) : CellsFit d.epochRollover := by
  unfold Device.epochRollover
  split
  · exact h.newEpoch
  · exact h

theorem attBuildTopCore (h : CellsFit d) (r : Req) : CellsFit (d.attBuildTopCore r).2 :=
  h.runCmd fun _ hx => (hx.foldl fun _ _ hy => hy.flashWrite _ _).burnWords _ _ _

theorem closeSessions (h : CellsFit d) (lo hi : Nat) : CellsFit (d.closeSessions lo hi) :=
  h.keeps (Device.closeSessions_keeps (fun _ x => x) (.refl _ _)) (by decide)

theorem moveSlot3 (h : CellsFit d) : CellsFit d.moveSlot3 :=
  h.keeps (Device.moveSlot3_keeps (fun _ x => x) (.refl _ _)) (by decide)

theorem bottomTreeBuildDone (h : CellsFit d) : CellsFit d.bottomTreeBuildDone :=
  h.keeps (Device.bottomTreeBuildDone_keeps (fun _ x => x) (.refl _ _)) (by decide)

theorem activateHotCore (h : CellsFit d) (r : Req) : CellsFit (d.activateHotCore r).2 :=
  h.runCmd fun x hx => by
    cases x.fw.staged with
    | none => exact hx
    | some t => exact ((hx.preferSlot t).closeSessions 1 52).setFw _

theorem hotActivationDone (h : CellsFit d) : CellsFit d.hotActivationDone := by
  unfold Device.hotActivationDone
  split
  · exact h
  · refine ((newEpoch (moveSlot3 (wr (wr ?_ _ _ _) _ _ _))).bottomTreeBuildDone.inc32 _ _).endCmd _ _ _
    exact (((h.elim fun _ => h.setSlot _ _).setSlot _ _).wr _ _ _).setFw _

/-! #### Life cycle -/

theorem lcZeroize (h : CellsFit d) : CellsFit d.lcZeroize :=
  h.keeps (Device.lcZeroize_keeps (fun _ x => x) (.refl _ _)) (by decide)

theorem lcArgsZero (h : CellsFit d) : CellsFit d.lcArgsZero :=
  h.keeps (Device.lcArgsZero_keeps (fun _ x => x) (.refl _ _)) (by decide)

theorem drawBytes (h : CellsFit d) (n : Nat) : CellsFit (d.drawBytes n).2 :=
  h.keeps (Device.drawBytes_keeps (fun _ x => x) (.refl _ _)) (by decide)

theorem note (h : CellsFit d) (src code : Nat) (detail : Bytes) : CellsFit (d.note src code detail) :=
  h.keeps (Device.note_keeps (fun _ x => x) (.refl _ _)) (by decide)

theorem voteLc (h : CellsFit d) : CellsFit d.voteLc :=
  h.keeps (Device.voteLc_keeps (fun _ x => x) (.refl _ _)) (by decide)

theorem burnSealValues (h : CellsFit d) : CellsFit d.burnSealValues := ((h.burnBits _ _ _).burnBits _ _ _).burnBits _ _ _

theorem burnCode (h : CellsFit d) (st : Nat) : CellsFit (d.burnCode st) := by
  unfold Device.burnCode
  exact h.foldl fun _ _ hx => hx.burnBits _ _ _

theorem burnDus (h : CellsFit d) (b : Bool) (v : Nat) : CellsFit (d.burnDus b v) := h.burnBits _ _ _

theorem drawDus (h : CellsFit d) : CellsFit d.drawDus := by
  unfold Device.drawDus
  exact (h.drawBytes 32).burnDus _ _

theorem burnOwnerField (h : CellsFit d) : CellsFit d.burnOwnerField := h.burnBits _ _ _
theorem eraseOwner (h : CellsFit d) : CellsFit d.eraseOwner := h.burnBits _ _ _
theorem eraseDus (h : CellsFit d) : CellsFit d.eraseDus := h.burnBits _ _ _

theorem transStep (h : CellsFit d) (t : Trans) (k : Nat) : CellsFit (d.transStep t k) := by
  unfold Device.transStep
  split
  · exact h.lcZeroize
  split
  · exact h.burnCode _
  cases t with
  | t1 => exact h.burnSealValues
  | t3 => exact h.drawDus
  | t4 => exact h.burnOwnerField
  | t5 => exact h.eraseOwner
  | t6 =>
    dsimp only
    split
    · exact h.eraseDus.eraseOwner
    · exact h.burnBits _ _ _

theorem runSteps (h : CellsFit d) (t : Trans) (n k : Nat) : CellsFit (Device.runSteps t n k d) := by
  induction n generalizing k d with
  | zero => exact h
  | succ n ih => exact ih (transStep (h.burnBits _ _ _) _ _) _

theorem runTrans (h : CellsFit d) (t : Trans) : CellsFit (d.runTrans t) := (((h.runSteps _ _ _).setLc _).wr _ _ _).wr _ _ _

theorem transBody (h : CellsFit d) (t : Trans) : CellsFit (Device.transBody t d).2 := (h.runTrans t).lcArgsZero

theorem resumeDus (h : CellsFit d) : CellsFit d.resumeDus.2 := by
  unfold Device.resumeDus
  split
  · exact (h.drawBytes 32).burnDus _ _
  split
  · exact h
  split
  · exact (h.drawBytes 32).burnDus _ _
  · exact h

theorem resumeTrans (h : CellsFit d) (t : Trans) : CellsFit (d.resumeTrans t) := by
  have hd := (h.wrBit O.BOOT_FLAGS 0 0 true).wr O.BOOT_LC_RESUME_STEP 0 (d.highMark t)
  unfold Device.resumeTrans
  dsimp only
  split
  · exact h
  split
  · exact h.wr _ _ _
  split
  · split
    · exact hd.resumeDus.runSteps _ _ _
    · exact hd.resumeDus.runSteps _ _ _
  split
  · exact ((hd.transStep _ _).burnBits _ _ _).wr _ _ _
  · exact (hd.transStep _ _).runSteps _ _ _

theorem bootLc (h : CellsFit d) : CellsFit d.bootLc := by
  unfold Device.bootLc
  have hresumed := foldl (l := [Trans.t6, .t1, .t3, .t4, .t5]) (f := Device.resumeTrans) h fun _ _ hx => hx.resumeTrans _
  exact hresumed.voteLc

theorem unlockWith (h : CellsFit d) (n : Nat) : CellsFit (d.unlockWith n) := ((h.lcZeroize.burnBits _ _ _).setLc _).wr _ _ _

theorem unlockBody (h : CellsFit d) (o : Option Nat) : CellsFit (o.elim d d.unlockWith).lcArgsZero := by
  refine lcArgsZero ?_
  exact h.elim fun n => h.unlockWith n

theorem unlockCore (h : CellsFit d) (r : Req) : CellsFit (d.unlockCore r).2 := by
  have hrun (c : Conds) := h.runCmd (r := r) (o := O.LC_CMD) (row := 0) (c := c)
    (body := fun x => (some 0, (x.tokenMatch.elim x x.unlockWith).lcArgsZero))
    fun x hx => by with_reducible exact hx.unlockBody x.tokenMatch
  unfold Device.unlockCore
  dsimp only
  split
  · exact (hrun _).note _ _ _
  · exact hrun _

/-! #### Boot -/

theorem tamperBoot (h : CellsFit d) : CellsFit d.tamperBoot :=
  h.keeps (Device.tamperBoot_keeps (fun _ x => x) (.refl _ _)) (by decide)

theorem bootPllsLocked (h : CellsFit d) : CellsFit d.bootPllsLocked := by
  unfold Device.bootPllsLocked
  split
  · exact h
  · exact (h.setBoot _).setClockOn.tamperBoot.bootLc

theorem slotsFromFlash (h : CellsFit d) : CellsFit d.slotsFromFlash :=
  h.keeps (Device.slotsFromFlash_keeps (fun _ x => x) (.refl _ _)) (by decide)

theorem loadSydin (h : CellsFit d) : CellsFit d.loadSydin :=
  h.keeps (Device.loadSydin_keeps (fun _ x => x) (.refl _ _)) (by decide)

theorem loadParser (h : CellsFit d) (s : Nat) : CellsFit (d.loadParser s) :=
  h.keeps (Device.loadParser_keeps (fun _ x => x) (.refl _ _)) (by decide)

theorem measure (h : CellsFit d) : CellsFit d.measure :=
  h.keeps (Device.measure_keeps (fun _ x => x) (.refl _ _)) (by decide)

theorem fillSealing (h : CellsFit d) : CellsFit d.fillSealing :=
  h.keeps (Device.fillSealing_keeps (fun _ x => x) (.refl _ _)) (by decide)

theorem sydinImageVerified (h : CellsFit d) : CellsFit d.sydinImageVerified := by
  unfold Device.sydinImageVerified
  split
  · exact h
  · refine (epochStep (fillSealing (measure ?_))).wr _ _ _
    exact (h.setBoot _).slotsFromFlash.loadSydin.foldl fun _ _ hx => hx.loadParser _

/-! #### Requests -/

theorem noCommand {r : Req} {o row : Nat} (h : CellsFit d) : CellsFit (Device.noCommand r o row d).2 := h.runCmd fun _ hx => hx

theorem onlyOne {r : Req} {o row v : Nat} {f : Device → Nat × Device} (h : CellsFit d) (hf : ∀ x, CellsFit x → CellsFit (f x).2) :
    CellsFit (Device.onlyOne r o row v f d).2 := by
  unfold Device.onlyOne
  split
  · exact hf _ h
  · exact h.noCommand

theorem lcCommand (r : Req) (o row v : Nat) (h : CellsFit d) :
    CellsFit ((match v with
      | 1 => Device.sealTestCore r | 2 => Device.unlockCore r | 3 => Device.personalizeCore r | 4 => Device.takeOwnershipCore r
      | 5 => Device.lcReturnCore r | 6 => Device.scrapCore r | 7 => Device.rmaUnlockCore r | _ => Device.noCommand r o row) d).2 := by
  split
  · exact h.runCmd fun _ hx => hx.transBody _
  · exact h.unlockCore r
  · exact h.runCmd fun _ hx => hx.transBody _
  · exact h.runCmd fun _ hx => hx.transBody _
  · exact h.runCmd fun _ hx => hx.transBody _
  · exact h.runCmd fun _ hx => hx.transBody _
  · exact h.keeps (Device.rmaUnlockCore_keeps (fun _ x => x) (.refl _ _)) (by decide)
  · exact h.noCommand

theorem memWinCommand (r : Req) (o row v : Nat) (h : CellsFit d) :
    CellsFit ((match v with
      | 1 => Device.memWinReadCore r row | 2 => Device.memWinWriteCore r row | 3 => Device.readCiphertextCore r row
      | 4 => Device.memReinitCore r row | _ => Device.noCommand r o row) d).2 := by
  split
  · exact h.keeps (Device.memWinReadCore_keeps (fun _ x => x) (.refl _ _)) (by decide)
  · exact h.keeps (Device.memWinWriteCore_keeps (fun _ x => x) (.refl _ _)) (by decide)
  · exact h.keeps (Device.readCiphertextCore_keeps (fun _ x => x) (.refl _ _)) (by decide)
  · exact h.keeps (Device.memReinitCore_keeps (fun _ x => x) (.refl _ _)) (by decide)
  · exact h.noCommand

theorem fwCommand (r : Req) (o row v : Nat) (h : CellsFit d) :
    CellsFit ((match v with
      | 1 => Device.fwEraseCore r | 2 => Device.fwWriteCore r | 3 => Device.fwVerifyCore r | 4 => Device.fwPreferCore r
      | 5 => Device.activateResetCore r | 6 => Device.activateHotCore r | 7 => Device.fwDiscardCore r
      | 8 => Device.commitVersionCore r | _ => Device.noCommand r o row) d).2 := by
  split
  · exact h.fwEraseCore r
  · exact h.fwWriteCore r
  · exact h.keeps (Device.fwVerifyCore_keeps (fun _ x => x) (.refl _ _)) (by decide)
  · exact h.fwPreferCore r
  · exact h.keeps (Device.activateResetCore_keeps (fun _ x => x) (.refl _ _)) (by decide)
  · exact h.activateHotCore r
  · exact h.keeps (Device.fwDiscardCore_keeps (fun _ x => x) (.refl _ _)) (by decide)
  · exact h.commitVersionCore r
  · exact h.noCommand

theorem careCommand {r : Req} {o row v : Nat} {g : Device → Nat × Device} (hg : Device.careCommand r o row v = some g)
    (h : CellsFit d) : CellsFit (g d).2 := by
  unfold Device.careCommand at hg
  split at hg
  · obtain rfl := Option.some.inj hg
    exact h.onlyOne fun _ hx => hx.keeps (Device.memChRetireCore_keeps (fun _ x => x) (.refl _ _)) (by decide)
  split at hg
  · obtain rfl := Option.some.inj hg
    exact h.memWinCommand r o row v
  split at hg
  · obtain rfl := Option.some.inj hg
    exact h.lcCommand r o row v
  split at hg
  · obtain rfl := Option.some.inj hg
    exact h.onlyOne fun _ hx => hx.keeps
      (Device.dbgSramReadCore_keeps (fun _ x => x) (Device.unstated_keeps (by unfold Sub; decide) (.refl _ _))) (by decide)
  split at hg
  · obtain rfl := Option.some.inj hg
    exact h.fwCommand r o row v
  split at hg
  · obtain rfl := Option.some.inj hg
    exact h.attBuildTopCore r
  split at hg
  · obtain rfl := Option.some.inj hg
    exact h.onlyOne fun _ hx => hx.keeps (Device.attSignCore_keeps (fun _ x => x) (.refl _ _)) (by decide)
  split at hg
  · obtain rfl := Option.some.inj hg
    exact h.onlyOne fun _ hx => hx.keeps (Device.fltSrcAckCore_keeps (fun _ x => x) (.refl _ _)) (by decide)
  split at hg
  · obtain rfl := Option.some.inj hg
    exact h.onlyOne fun _ hx => hx.keeps (Device.fltAckAllCore_keeps (fun _ x => x) (.refl _ _)) (by decide)
  split at hg
  · obtain rfl := Option.some.inj hg
    exact h.keeps (Device.sramSpareCore_keeps (fun _ x => x) (.refl _ _)) (by decide)
  · cases hg

theorem command (h : CellsFit d) (r : Req) (o row v : Nat) : CellsFit (Device.command r o row v d).2 := by
  have hhere : ∀ T, Here o (F.objects :: T) := fun _ => Or.inr List.mem_cons_self
  unfold Device.command
  cases hs : Device.systemCommand r o row v with
  | some g => exact h.keeps (Device.systemCommand_keeps hs (hhere Touch.systemCommand) (fun _ x => .tail _ x) (.refl _ _)) (by decide)
  | none =>
    cases hp : Device.pathCommand r o row v with
    | some g => exact h.keeps (Device.pathCommand_keeps hp (hhere Touch.pathCommand) (fun _ x => .tail _ x) (.refl _ _)) (by decide)
    | none =>
      cases hc : Device.careCommand r o row v with
      | some g => exact h.careCommand hc
      | none => exact h.noCommand

theorem performWrite (h : CellsFit d) (r : Req) (a : AddrBlock) (v : Bytes) : CellsFit (Device.performWrite r a v d).2 := by
  unfold Device.performWrite
  split
  · exact h.keeps (Device.shadowWrite_keeps (fun _ x => x) (.refl _ _)) (by decide)
  split
  · unfold Device.commandWrite
    split
    · exact h
    split
    · exact h.runCmd fun _ hx => hx
    · exact h.command _ _ _ _
  · exact h.keeps (Device.writeDirect_keeps (fun _ x => x) (.refl _ _)) (by decide)

theorem dictWrite (h : CellsFit d) (r : Req) (a : AddrBlock) (v : Bytes) : CellsFit (Device.dictWrite r a v d) :=
  h.direct fun _ hx => hx.performWrite _ _ _

theorem ringExecute (h : CellsFit d) (m : RingMsg) : CellsFit (Device.ringExecute m d).2 := by
  unfold Device.ringExecute
  have haccept := h.accept ⟨.ring, Device.requestSession m⟩
  dsimp only
  refine countRequest (ite2 haccept (ite2 ?_ (ite2 ?_ haccept))) _ _ _
  · exact haccept.keeps (Device.performRead_keeps (fun _ x => x) (.refl _ _)) (by decide)
  · exact haccept.performWrite _ _ _

theorem ringRespond (h : CellsFit d) (m : RingMsg) (ks : Option Bytes) (v : Bytes) : CellsFit (d.ringRespond m ks v) :=
  h.keeps (Device.ringRespond_keeps (fun _ x => x) (.refl _ _)) (by decide)

theorem ringTaggedRequest (h : CellsFit d) (m : RingMsg) (row : Nat) : CellsFit (Device.ringTaggedRequest m row d) := by
  unfold Device.ringTaggedRequest
  dsimp only
  split
  · exact h
  split
  · exact (h.accept _).ringRespond _ _ _
  split
  · exact h.keeps (Device.closeSession_keeps (fun _ x => x) (.refl _ _)) (by decide)
  split
  · exact h
  · refine ringRespond ?_ _ _ _
    have hrun := (h.wr O.SESSION_LAST_COUNTER row m.counter).ringExecute m
    split
    · exact hrun.keeps (Device.setSess_keeps (fun _ x => x) (.refl _ _)) (by decide)
    · exact hrun

theorem request (h : CellsFit d) (m : RingMsg) : CellsFit (Device.request m d) := by
  have hheard : CellsFit (d.ringAccept m).2 := h.keeps (Device.ringAccept_keeps (fun _ x => x) (.refl _ _)) (by decide)
  unfold Device.request
  dsimp only
  split
  · exact h.keeps (Device.ringArrive_keeps (fun _ x => x) (.refl _ _)) (by decide)
  split
  · exact hheard
  split
  · exact hheard.ringTaggedRequest m _
  · exact (hheard.ringExecute m).ringRespond _ _ _

theorem windowDone (h : CellsFit d) (w abort : Nat) (v : Bytes) : CellsFit (d.windowDone w abort v) :=
  h.keeps (Device.windowDone_keeps (fun _ x => x) (.refl _ _)) (by decide)

theorem pcieWindowWrite (h : CellsFit d) (w id : Nat) (a : AddrBlock) (v : Bytes) : CellsFit (Device.pcieWindowWrite w id a v d) := by
  have hsub : CellsFit (d.windowSubmit w (Device.addrWord a) id v.length 2 v) :=
    h.keeps (Device.windowSubmit_keeps (fun _ x => x) (.refl _ _)) (by decide)
  unfold Device.pcieWindowWrite
  dsimp only
  split
  · exact h
  split
  · exact hsub.windowDone _ _ _
  split
  · exact hsub.windowDone _ _ _
  have hdone := (hsub.accept ⟨.pcie, id⟩).performWrite ⟨.pcie, id⟩ a v
  split
  · exact hdone
  · exact (hdone.countRequest _ _ _).windowDone _ _ _

theorem setDapAbort (h : CellsFit d) (abort : Nat) : CellsFit (d.setDapAbort abort) := h

theorem dapWrite (h : CellsFit d) (id : Nat) (a : AddrBlock) (n : Nat) : CellsFit (Device.dapWrite id a n d) := by
  have hscan : CellsFit (d.dapScan (Device.dapWord (Device.addrWord a) id 2 n)) :=
    h.keeps (Device.dapScan_keeps (fun _ x => x) (.refl _ _)) (by decide)
  unfold Device.dapWrite
  dsimp only
  split
  · exact h
  split
  · exact hscan
  split
  · exact hscan
  · exact (((hscan.accept _).performWrite _ _ _).countRequest _ _ _).setDapAbort _

theorem on_fits {s t : State} {f : Device → Device} (ht : s.on f = .next t) (h : CellsFit (f s.dev)) : CellsFit t.dev := by
  cases ht
  exact h

theorem exec_fits {c : Instr} {s t : State} (ht : exec c s = .next t) (h : CellsFit s.dev) : CellsFit t.dev := by
  cases hc : storesFuses c with
  | false =>
    obtain ⟨d, hexec, ho, hf⟩ := exec_spares hc s
    rw [hexec] at ht
    cases ht
    exact h.of_same ho hf
  | true =>
    cases c with
    | commitVersion => exact on_fits ht (h.direct fun _ hx => hx.commitVersionCore _)
    | attBuildTop => exact on_fits ht (h.direct fun _ hx => hx.attBuildTopCore _)
    | fwErase => exact on_fits ht (h.direct fun _ hx => hx.fwEraseCore _)
    | fwWrite => exact on_fits ht (h.direct fun _ hx => hx.fwWriteCore _)
    | fwPrefer => exact on_fits ht (h.direct fun _ hx => hx.fwPreferCore _)
    | activateHot => exact on_fits ht (h.direct fun _ hx => hx.activateHotCore _)
    | lcUnlock => exact on_fits ht (h.direct fun _ hx => hx.unlockCore _)
    | sealTest => exact on_fits ht (h.direct fun _ hx => hx.runCmd fun _ hy => hy.transBody _)
    | personalize => exact on_fits ht (h.direct fun _ hx => hx.runCmd fun _ hy => hy.transBody _)
    | takeOwnership => exact on_fits ht (h.direct fun _ hx => hx.runCmd fun _ hy => hy.transBody _)
    | lcReturn => exact on_fits ht (h.direct fun _ hx => hx.runCmd fun _ hy => hy.transBody _)
    | scrap => exact on_fits ht (h.direct fun _ hx => hx.runCmd fun _ hy => hy.transBody _)
    | hotActivationDone => exact on_fits ht h.hotActivationDone
    | epochRollover => exact on_fits ht h.epochRollover
    | bootPllsLocked => exact on_fits ht h.bootPllsLocked
    | sydinImageVerified => exact on_fits ht h.sydinImageVerified
    | dictWrite => exact on_fits ht (h.dictWrite _ _ _)
    | groupShadowWrite => exact on_fits ht (h.dictWrite _ _ _)
    | request => exact on_fits ht (h.request _)
    | pcieWindowWrite => exact on_fits ht (h.pcieWindowWrite _ _ _ _)
    | dapWrite => exact on_fits ht (h.dapWrite _ _ _)
    | _ => cases hc

end CellsFit

/-! ### A step -/

theorem tick_evolves (s : State) : Evolves s.dev (tick s).dev := Device.passTo_evolves (.refl _)

theorem tick_fits {s : State} (h : CellsFit s.dev) : CellsFit (tick s).dev :=
  h.keeps (Device.passTo_keeps (fun _ x => x) (.refl _ _)) (by decide)

/-- What one step can do to the device: a slice clock passes, or the front command runs. -/
theorem step_cases {s t : State} (h : step s = .next t) :
    s.pending = [] ∧ t = tick s ∨ ∃ c rest, s.pending = c :: rest ∧ exec c { s with pending := rest } = .next t := by
  unfold step at h
  split at h
  · rename_i hp
    cases h
    exact .inl ⟨hp, rfl⟩
  · rename_i c rest hp
    exact .inr ⟨c, rest, hp, h⟩

theorem step_evolves {s t : State} (h : step s = .next t) : Evolves s.dev t.dev := by
  obtain ⟨-, rfl⟩ | ⟨c, rest, -, hexec⟩ := step_cases h
  · exact tick_evolves s
  · obtain ⟨d, heq, hd⟩ := exec_advances c { s with pending := rest }
    rw [heq] at hexec
    cases hexec
    exact hd

theorem step_fits {s t : State} (h : step s = .next t) (hs : CellsFit s.dev) : CellsFit t.dev := by
  obtain ⟨-, rfl⟩ | ⟨c, rest, -, hexec⟩ := step_cases h
  · exact tick_fits hs
  · exact CellsFit.exec_fits hexec hs

/-- Settles O1: the two branches of `step`, and the reset state. -/
theorem stepTakesTheFrontCommand : Obligations.StepTakesTheFrontCommand := by
  unfold Obligations.StepTakesTheFrontCommand
  refine ⟨fun c rest s hp => ?_, rfl⟩
  unfold step
  rw [hp]

/-- Settles O4: every operation keeps the four tables' form (`Evolves`), and every write of a cell is cut to its width. -/
theorem stepKeepsTheTablesCanonical : Obligations.StepKeepsTheTablesCanonical := by
  unfold Obligations.StepKeepsTheTablesCanonical
  intro s t hdict ⟨hcells, hfuses, hflash⟩ hstep
  have hev := step_evolves hstep
  exact ⟨hev.dict hdict, ⟨hev.cells hcells, hev.fuses hfuses, hev.flash hflash⟩, step_fits hstep⟩


end Sys2Proof.Machine
end

section
/-!
PROOF. The family 02_object_dictionary: a write of an argument to a command object is the command it names.
-/
namespace Sys2Proof.Machine

/-! ### A write of an argument is its command (R35, R36) -/

theorem leBytes_length : ∀ n v, (leBytes n v).length = n
  | 0, _ => rfl
  | n + 1, v => by rw [leBytes, List.length_cons, leBytes_length n]

/-- A number read back from the bytes that spell it (R33). -/
theorem leNat_leBytes : ∀ n v, leNat (leBytes n v) = v % 256 ^ n
  | 0, v => by rw [pow_zero, Nat.mod_one]; rfl
  | n + 1, v => by
    rw [leBytes, leNat, leNat_leBytes n, BitVec.toNat_ofNat, pow_succ' 256 n, Nat.mod_mul]

theorem exec_dictWrite (r : Req) (a : AddrBlock) (v : Bytes) (s : State) :
    exec (.dictWrite r a v) s = s.on (fun d => d.direct r (Device.performWrite r a v)) := rfl

namespace Device

theorem addrObj_directAddr (o row : Nat) : addrObj (directAddr o row) = o := by
  show o / 256 * 256 + o % 256 = o
  omega

theorem directAddr_group (o row : Nat) : (directAddr o row).group = 0 := rfl

theorem isCommand_directAddr (o row : Nat) : isCommand (directAddr o row) = isCommand (directAddr o 0) := rfl

/-- What `f` answers where the address of its object is bad: nothing but the code of that (R40). -/
def RefusesAddress (o row : Nat) (f : Device → Nat × Device) : Prop :=
  ∀ d, d.addrCheck (directAddr o row) false ≠ 0 → f d = (d.addrCheck (directAddr o row) false, d)

/-- Every command checks its address first. -/
theorem runCmd_refusesAddress {d : Device} {r : Req} {o row : Nat} {c : Conds} {body : Device → Option Nat × Device}
    (h : d.addrCheck (directAddr o row) false ≠ 0) :
    runCmd r o row c body d = (d.addrCheck (directAddr o row) false, d) := by
  have hcheck : d.cmdCheck r o row c = d.addrCheck (directAddr o row) false := by simp [cmdCheck, firstFail, h]
  simp only [runCmd, hcheck, ne_eq, h, not_false_eq_true, if_true]

theorem addrCheck_ne_wrongToken (d : Device) (a : AddrBlock) (rdg : Bool) : d.addrCheck a rdg ≠ 0xA405 := by
  simp only [addrCheck, firstFail]
  split_ifs <;> decide

theorem unlockCore_refusesAddress (r : Req) : RefusesAddress O.LC_CMD 0 (unlockCore r) := by
  intro d h
  unfold unlockCore
  dsimp only
  rw [runCmd_refusesAddress h, if_neg]
  exact addrCheck_ne_wrongToken d (directAddr O.LC_CMD 0) false

/-- The command of an object and an argument, where the tables of R36 hold one. -/
def commandNamed (r : Req) (o row v : Nat) : Option (Device → Nat × Device) :=
  ((systemCommand r o row v).or (pathCommand r o row v)).or (careCommand r o row v)

theorem command_of_named {r : Req} {o row v : Nat} {f : Device → Nat × Device} (h : commandNamed r o row v = some f) :
    command r o row v = f := by
  show (commandNamed r o row v).getD (noCommand r o row) = f
  rw [h, Option.getD_some]

theorem performWrite_directAddr {r : Req} {o row : Nat} {v : Bytes} (hcmd : isCommand (directAddr o 0) = false) :
    performWrite r (directAddr o row) v = writeDirect r (directAddr o row) v := by
  funext d
  unfold performWrite
  rw [if_neg (not_not.2 (directAddr_group o row)), if_neg (by rw [isCommand_directAddr, hcmd]; exact Bool.false_ne_true)]

/-- A write of `v` to a command object is what the command itself does. -/
theorem performWrite_command {r : Req} {o row v : Nat} {f : Device → Nat × Device} (hv : v < 2 ^ 32)
    (hcmd : isCommand (directAddr o 0) = true) (hnamed : commandNamed r o row v = some f) (hrefuses : RefusesAddress o row f) :
    performWrite r (directAddr o row) (leBytes 4 v) = f := by
  funext d
  unfold performWrite commandWrite
  rw [if_neg (not_not.2 (directAddr_group o row)), if_pos (isCommand_directAddr o row ▸ hcmd), addrObj_directAddr,
    leNat_leBytes, Nat.mod_eq_of_lt (by omega), leBytes_length, if_neg (not_not.2 rfl)]
  by_cases ha : d.addrCheck (directAddr o row) false = 0
  · rw [if_neg (not_not.2 ha)]
    exact congrFun (command_of_named hnamed) d
  · rw [if_pos ha, hrefuses d ha]

theorem bankCommand_retire (r : Req) (b : Nat) {core : Nat} (h : core ≤ 8) :
    bankCommand r b (16 + core) = bankRetireCore r b core := by
  funext d
  unfold bankCommand
  rw [if_pos (by omega), show (16 + core) % 16 = core by omega]

end Device

section
open Device

/-- The write of the entry's argument to its object is the row of the table it names. -/
def Starts (e : Nat × Nat × (Req → Nat → Instr)) : Prop :=
  ∀ r row s, (indexTable (e.1 / 256) = false → row = 0) →
    exec (.dictWrite r (directAddr e.1 row) (leBytes 4 e.2.1)) s = exec (e.2.2 r row) s

namespace Starts

/-- A command of a table's row. -/
theorem row {o v : Nat} {c : Req → Nat → Instr} (f : Req → Nat → Device → Nat × Device)
    (hcmd : isCommand (directAddr o 0) = true := by rfl) (hv : v < 2 ^ 32 := by decide)
    (hnamed : ∀ r row, commandNamed r o row v = some (f r row) := by intros; rfl)
    (hexec : ∀ r row s, exec (c r row) s = s.on (fun d => d.direct r (f r row)) := by intros; rfl)
    (hrefuses : ∀ r row, RefusesAddress o row (f r row) := by intro _ _ _ h; exact runCmd_refusesAddress h) :
    Starts (o, v, c) := by
  intro r row s _
  rw [exec_dictWrite, performWrite_command hv hcmd (hnamed r row) (hrefuses r row), hexec]

/-- A command of an object that is no table's. -/
theorem single {o v : Nat} {c : Req → Nat → Instr} (f : Req → Device → Nat × Device)
    (hcmd : isCommand (directAddr o 0) = true := by rfl) (hv : v < 2 ^ 32 := by decide)
    (htable : indexTable (o / 256) = false := by rfl)
    (hnamed : ∀ r, commandNamed r o 0 v = some (f r) := by intros; rfl)
    (hexec : ∀ r s, exec (c r 0) s = s.on (fun d => d.direct r (f r)) := by intros; rfl)
    (hrefuses : ∀ r, RefusesAddress o 0 (f r) := by intro _ _ h; exact runCmd_refusesAddress h) :
    Starts (o, v, c) := by
  intro r row s hrow
  obtain rfl := hrow htable
  rw [exec_dictWrite, performWrite_command hv hcmd (hnamed r) (hrefuses r), hexec]

end Starts

/-- The list, with the command of each entry. -/
theorem startedBy_starts : ∀ e ∈ startedBy, Starts e := by
  unfold startedBy
  simp only [List.forall_mem_append, List.forall_mem_cons]
  refine ⟨⟨?system, ?path⟩, ?care⟩
  case system =>
    exact ⟨.single lockBreakCore, .row groupOpenCore, .row commitNowCore, .row commitAtCore, .row groupCancelCore,
      .row groupReleaseCore (hrefuses := fun _ _ _ h => by rw [groupReleaseCore, runCmd_refusesAddress h]),
      .row sessionCloseCore, .single goRunCore, .single goStageCore,
      .single goDrainCore (hrefuses := fun _ _ h => by rw [goDrainCore, runCmd_refusesAddress h]), .single resumeRunCore,
      .single modeCmdResetCore, .row takeOutCore, .row gateCore, .row sliceReturnCore, .row portRecalArmCore,
      .row portRecalCancelCore, .single phcSetCore, .single phcStepCore, .single phcSlewCore, .single phcSlewStopCore,
      .row tsCalCore, fun _ h => nomatch h⟩
  case path =>
    exact ⟨
      .row (fun r row => parserLoadCore r row 0) (hrefuses := fun _ _ _ h => by rw [parserLoadCore, runCmd_refusesAddress h]),
      .row (fun r row => parserLoadCore r row 1) (hrefuses := fun _ _ _ h => by rw [parserLoadCore, runCmd_refusesAddress h]),
      .row parserArmCore, .row parserCancelCore (hrefuses := fun _ _ _ h => by rw [parserCancelCore, runCmd_refusesAddress h]),
      .row saProvisionCore, .row saLoadCore (hrefuses := fun _ _ _ h => by rw [saLoadCore, runCmd_refusesAddress h]),
      .row saArmCore (hrefuses := fun _ _ _ h => by rw [saArmCore, runCmd_refusesAddress h]), .row saCancelCore,
      .row saRetireCore, .row saUnloadCore, .row saReleaseCore,
      .row clsWriteCore (hrefuses := fun _ _ _ h => by rw [clsWriteCore, runCmd_refusesAddress h]),
      .row clsDeleteCore (hrefuses := fun _ _ _ h => by rw [clsDeleteCore, runCmd_refusesAddress h]), .row clsReadCore,
      .row learnFlushCore, .row vaultImportCore,
      .row vaultDeriveCore (hrefuses := fun _ _ _ h => by rw [vaultDeriveCore, runCmd_refusesAddress h]),
      .row deriveSuccessorCore, .row zeroizeSlotCore, .row zeroizeTenantCore, .row zeroizeAllCore, fun _ h => nomatch h⟩
  case care =>
    exact ⟨.row memChRetireCore, .row memWinReadCore, .row memWinWriteCore, .row readCiphertextCore, .row memReinitCore,
      .single sealTestCore, .single unlockCore (hrefuses := unlockCore_refusesAddress), .single personalizeCore,
      .single takeOwnershipCore, .single lcReturnCore, .single scrapCore, .single rmaUnlockCore, .single fwEraseCore,
      .single fwWriteCore, .single fwVerifyCore, .single fwPreferCore, .single activateResetCore, .single activateHotCore,
      .single fwDiscardCore, .single commitVersionCore, .single attBuildTopCore, .row attSignCore, .row fltSrcAckCore,
      .single fltAckAllCore, fun _ h => nomatch h⟩

/-- A write of an object that no command has is a direct write of it. -/
theorem exec_dictWrite_directAddr {r : Req} {o row : Nat} {v : Bytes} {s : State}
    (hcmd : isCommand (directAddr o 0) = false) :
    exec (.dictWrite r (directAddr o row) v) s = s.on (fun d => d.direct r (writeDirect r (directAddr o row) v)) := by
  rw [exec_dictWrite, performWrite_directAddr hcmd]

/-- Settles O20: each entry's command is found by its object and argument, and refuses a bad address as the write does. -/
theorem argumentsStartCommands : Obligations.ArgumentsStartCommands := by
  unfold Obligations.ArgumentsStartCommands
  refine ⟨fun e he r row s => startedBy_starts e he r row s, fun r m row s hrow => ?_, fun r b core s hcore => ?_,
    fun r s => ⟨exec_dictWrite_directAddr rfl, exec_dictWrite_directAddr rfl⟩,
    fun r n s => ⟨exec_dictWrite_directAddr rfl, exec_dictWrite_directAddr rfl⟩, fun r v s => exec_dictWrite_directAddr rfl⟩
  · rw [exec_dictWrite, performWrite_command (f := sramSpareCore r m row) hrow rfl rfl fun _ h => runCmd_refusesAddress h]
    rfl
  · have hnamed : commandNamed r O.BANK_CMD b (16 + core) = some (bankRetireCore r b core) :=
      congrArg some (bankCommand_retire r b hcore)
    rw [exec_dictWrite, performWrite_command (by omega) rfl hnamed fun _ h => runCmd_refusesAddress h]
    rfl

end

end Sys2Proof.Machine
end

section
/-!
PROOF. The family 02_object_dictionary: the requests that are served, and the lock.
-/
namespace Sys2Proof.Machine

/-! ### A request that is served -/

/-- No code of a list is 0 and none is answered: every condition is off. -/
theorem leastFail_off {l : List (Bool × Nat)} (hl : ∀ e ∈ l, e.2 ≠ 0) (h : leastFail l = 0) : ∀ e ∈ l, e.1 = false := by
  have hkeeps : ∀ (cs : List Nat) (m : Nat), m ≠ 0 → (∀ c ∈ cs, c ≠ 0) →
      cs.foldl (fun m c => if m = 0 then c else min m c) m ≠ 0 := by
    intro cs
    induction cs with
    | nil => exact fun m hm _ => hm
    | cons c cs ih =>
      intro m hm hcs
      have hc := hcs c List.mem_cons_self
      rw [List.foldl_cons, if_neg hm]
      exact ih _ (by omega) fun x hx => hcs x (List.mem_cons_of_mem _ hx)
  intro e he
  by_contra hon
  have hcodes : ∀ c ∈ (l.filter (fun e => e.1)).map (fun e => e.2), c ≠ 0 := by
    intro c hc
    obtain ⟨x, hx, rfl⟩ := List.mem_map.1 hc
    exact hl x (List.mem_filter.1 hx).1
  have hmem : e.2 ∈ (l.filter (fun e => e.1)).map (fun e => e.2) :=
    List.mem_map_of_mem (List.mem_filter.2 ⟨he, by simpa using hon⟩)
  unfold leastFail at h
  cases hcs : (l.filter (fun e => e.1)).map (fun e => e.2) with
  | nil => rw [hcs] at hmem; cases hmem
  | cons c cs =>
    rw [hcs] at h hcodes
    rw [List.foldl_cons, if_pos rfl] at h
    exact hkeeps cs c (hcodes c List.mem_cons_self) (fun x hx => hcodes x (List.mem_cons_of_mem _ hx)) h

namespace Device

theorem stateFails_codes (d : Device) (p : Piece) : ∀ e ∈ d.stateFails p, e.2 ≠ 0 := by
  simp [stateFails]

theorem writeState_unserved {d : Device} {a : AddrBlock} {t : Trial} {ps : List Piece} (h : d.writeState a t ps = 0) :
    d.unserved a false = false := by
  unfold writeState at h
  dsimp only at h
  split at h
  · exact leastFail_off (by simp) h (d.unserved a false, 0xA303) List.mem_cons_self
  · refine leastFail_off ?_ h (d.unserved a false, 0xA303) List.mem_cons_self
    intro e he
    simp only [List.mem_cons, List.mem_flatMap] at he
    obtain rfl | rfl | ⟨p, -, hp⟩ := he
    · simp
    · simp
    · exact stateFails_codes d p e hp

/-- A write that passes reaches an object that is served. -/
theorem writeCheck_unserved {d : Device} {r : Req} {a : AddrBlock} {v : Bytes} {phase : Phase}
    (h : d.writeCheck r a v phase none = 0) : d.unserved a false = false := by
  have hoff := firstFail_off _ (by
    intro e he
    simp only [List.mem_append, List.mem_map, List.mem_cons, List.not_mem_nil, or_false] at he
    rcases he with (rfl | rfl) | ⟨c, -, rfl⟩ <;> simp) h
  have hstate := hoff _ (List.mem_append_right _
    (List.mem_map_of_mem (List.mem_cons_of_mem _ (List.mem_cons_of_mem _ List.mem_cons_self))))
  exact writeState_unserved (bne_eq_false_iff_eq.1 hstate)

theorem mode_ne_boot_of_unserved {d : Device} {a : AddrBlock} {rdg : Bool} (h : d.unserved a rdg = false) : d.mode ≠ .boot := by
  intro hb
  unfold unserved notServed at h
  simp [hb] at h

/-- The request of an accepted command finds the device neither in RESET nor in BOOT. -/
theorem cmdCheck_mode {d : Device} {r : Req} {o row : Nat} {x : Bool}
    (h : d.cmdCheck r o row { Conds.none with exempt := x } = 0) : d.mode ≠ .boot := by
  intro hb
  have hoff := firstFail_off _ (by
    intro e he
    simp only [Conds.none, List.append_nil, List.mem_append, List.mem_cons, List.not_mem_nil, or_false] at he
    rcases he with (((rfl | rfl) | rfl | rfl) | rfl) <;> simp) h
  have hserved : d.notServed o = false := hoff (d.notServed o, 0xA303) (by simp [Conds.none])
  unfold notServed at hserved
  simp [hb] at hserved

theorem accept_only (d : Device) (r : Req) (R : List (Nat × Nat)) {W : List Nat} (hW : Sub asked W) (hF : F.objects ∉ W) :
    Only R W d (d.accept r) :=
  (Only.refl R W d).keeps hF ((accept_keeps_all d r).mono fun k hk => hW k (by revert hk; revert k; decide))

/-- A request that is answered: the response of what it did, which changes no more than what any request changes. -/
theorem direct_done {s : State} {r : Req} {f : Device → Nat × Device} {abort : Nat} {x : Device} {R : List (Nat × Nat)}
    {W : List Nat} (hreset : s.dev.mode ≠ .reset) (hboot : s.dev.mode ≠ .boot) (hf : f (s.dev.accept r) = (abort, x))
    (hmode : x.mode ≠ .reset) (hx : Only R W (s.dev.accept r) x) (hW : Sub asked W) (hF : F.objects ∉ W) :
    ∃ t, s.on (fun d => d.direct r f) = .next t ∧ Keeps asked x t.dev ∧ Answers r abort t.dev ∧ Only R W s.dev t.dev := by
  have hans := respond_answers x r (s.dev.roleOf r) abort
  have hkeeps := respond_keeps_all x r (s.dev.roleOf r) abort []
  have heq : s.dev.direct r f = x.respond r (s.dev.roleOf r) abort [] := by
    rw [direct_eq hreset hboot (by rw [hf]; exact hmode), hf]
  refine ⟨{ s with dev := s.dev.direct r f }, rfl, heq ▸ hkeeps, heq ▸ hans, ?_⟩
  rw [heq]
  exact ((accept_only s.dev r R hW hF).trans hx).keeps hF (hkeeps.mono hW)

/-- A command whose checks pass and whose body ends it: its result word, its response, and the frame of its body. -/
theorem command_done {s : State} {r : Req} {o row : Nat} {x : Bool} {f : Device → Nat × Device} {c : Conds}
    {body : Device → Option Nat × Device} {y : Device} {R : List (Nat × Nat)} {W : List Nat} (hreset : s.dev.mode ≠ .reset)
    (hasked : s.dev.cmdCheck r o row { Conds.none with exempt := x } = 0)
    (hf : f (s.dev.accept r) = runCmd r o row c body (s.dev.accept r)) (hcheck : (s.dev.accept r).cmdCheck r o row c = 0)
    (hbody : body ((s.dev.accept r).startCmd o row) = (some 0, y))
    (hy : Only R W ((s.dev.accept r).startCmd o row) y) (hword : y.rd o row = ((s.dev.accept r).startCmd o row).rd o row)
    (hmode : y.mode = s.dev.mode) (hrow : (o, row) ∈ R) (ho : o ∉ asked) (hW : Sub asked W) (hF : F.objects ∉ W) :
    ∃ t, s.on (fun d => d.direct r f) = .next t ∧ Keeps asked (y.endCmd o row 0) t.dev ∧ Result o row 0 2 s.dev t.dev ∧
      Answers r 0 t.dev ∧ Only R W s.dev t.dev := by
  have hran : f (s.dev.accept r) = (0, y.endCmd o row 0) := by rw [hf, runCmd_pass hcheck, hbody]; rfl
  have hstart : Only R W (s.dev.accept r) ((s.dev.accept r).startCmd o row) := (Only.refl R W _).wr (Or.inr hrow)
  have hend : Only R W (s.dev.accept r) (y.endCmd o row 0) := (hstart.trans hy).wr (Or.inr hrow)
  obtain ⟨t, ht, hkeeps, hans, honly⟩ :=
    direct_done hreset (cmdCheck_mode hasked) hran (by show y.mode ≠ .reset; rw [hmode]; exact hreset) hend hW hF
  have hresult : Result o row 0 2 s.dev (y.endCmd o row 0) := endCmd_result (by rw [hword]; simp)
  exact ⟨t, ht, hkeeps, by unfold Result at hresult ⊢; rw [hkeeps.objs (by decide) _ _ ho, hresult], hans, honly⟩

end Device

/-! ### The lock (R44) -/

namespace Device

/-- The one value of a write to LOCK. -/
def lockPiece (v : Bytes) : Piece := ⟨⟨O.LOCK, false, .u 4, .rw, 27, 0, 4294967295⟩, 0, v⟩

theorem pieces_lock (v : Bytes) : pieces (directAddr O.LOCK 0) v = some [lockPiece v] := rfl

/-- A written lock is stored, and a claim of a free one starts its lease. -/
theorem applyPieces_lock {d : Device} (hq : Quiet d) (s : Nat) (v : Bytes) :
    ∃ x, applyPieces s [lockPiece v] d = x ∧ x.rd O.LOCK = (if leNat (fit 4 v) = 0 then 0 else s) ∧ x.mode = d.mode ∧
      Only [(O.LOCK, 0)] asked d x := by
  refine ⟨_, applyPieces_quiet (by simp [lockPiece, shaping]) hq s, ?_⟩
  have hstore : storePieces s [lockPiece v] d = d.wr O.LOCK 0 (if leNat (fit 4 v) = 0 then 0 else s) := rfl
  have heffect : ∀ x : Device, pieceEffect d x (lockPiece v) =
      if x.rd O.LOCK ≠ 0 ∧ d.rd O.LOCK = 0 then x.setLockRenewed x.cyc else x := fun _ => rfl
  rw [hstore, List.foldl_cons, List.foldl_nil, heffect]
  generalize (if leNat (fit 4 v) = 0 then 0 else s) = w
  have hwr : Only [(O.LOCK, 0)] asked d (d.wr O.LOCK 0 w) := (Only.refl _ _ d).wr (Or.inr List.mem_cons_self)
  split
  · exact ⟨rd_wr_self d O.LOCK 0 w, rfl, hwr.keeps (by decide) (setLockRenewed_keeps (by unfold Sub; decide) (Keeps.refl _ _))⟩
  · exact ⟨rd_wr_self _ _ _ _, rfl, hwr⟩

/-- A write to LOCK that passes leaves it at its new value. -/
theorem lockWrite_done {r : Req} {s : State} {v : Nat} (hv : v < 2 ^ 32)
    (hpass : Passes r (directAddr O.LOCK 0) (leBytes 4 v) s.dev) (hq : Quiet s.dev) :
    ∃ t, s.on (fun d => d.direct r (lockWrite r v)) = .next t ∧ t.dev.rd O.LOCK = (if v = 0 then 0 else r.session) ∧
      Answers r 0 t.dev ∧ Only [(O.LOCK, 0)] asked s.dev t.dev := by
  obtain ⟨hreset, hcheck⟩ := hpass
  have hboot : (s.dev.accept r).mode ≠ .boot := mode_ne_boot_of_unserved (writeCheck_unserved hcheck)
  have hquiet : Quiet (s.dev.accept r) := fun p => by unfold portOf; rw [accept_ports]; exact hq p
  obtain ⟨x, hx, hlock, hmode, honly⟩ := applyPieces_lock hquiet r.session (leBytes 4 v)
  have hnum : leNat (fit 4 (leBytes 4 v)) = v := by
    have hfit : fit 4 (leBytes 4 v) = leBytes 4 v := rfl
    rw [hfit, leNat_leBytes, Nat.mod_eq_of_lt (by omega)]
  have hwrite : lockWrite r v (s.dev.accept r) = (0, x) := by
    unfold lockWrite writeDirect
    rw [if_neg (not_not.2 hcheck), pieces_lock, Option.getD_some, hx]
  rw [accept_mode] at hboot hmode
  obtain ⟨t, ht, hkeeps, hans, hframe⟩ :=
    direct_done hreset hboot hwrite (hmode ▸ hreset) honly (fun _ h => h) (by decide)
  exact ⟨t, ht, by rw [hkeeps.objs (by decide) _ _ (by decide), hlock, hnum], hans, hframe⟩

theorem groupsNaming_unarmed {d : Device} (h : Unarmed d) (o r : Nat) : d.groupsNaming o r = [] := by
  unfold groupsNaming
  rw [List.filter_eq_nil_iff]
  intro g _
  simp [armedNames, h g]

/-- Where no group is armed, the change of an object overrules none: it is the write alone. -/
theorem wrCmd_unarmed {d : Device} (h : Unarmed d) (o r v : Nat) :
    (d.wrCmd o r v).rd o r = v ∧ (d.wrCmd o r v).cyc = d.cyc ∧ (d.wrCmd o r v).mode = d.mode ∧
      ∀ W, Only [(o, r)] W d (d.wrCmd o r v) := by
  unfold wrCmd touch
  rw [groupsNaming_unarmed h, List.foldl_nil]
  split
  · exact ⟨‹_›, rfl, rfl, fun W => Only.refl _ W d⟩
  · exact ⟨rd_wr_self _ _ _ _, rfl, rfl, fun W => (Only.refl _ W d).wr (Or.inr List.mem_cons_self)⟩

theorem advance_cyc (d : Device) (n : Nat) : (d.advance n).cyc = d.cyc + n := by
  have hbanks : Keeps Touch.pmcAdd d ((List.range (2 * d.slices)).foldl (clocksOf n) d) :=
    Keeps.foldl (Keeps.refl _ _) fun _ _ h => clocksOf_keeps (fun _ hk => hk) h
  exact congrArg (· + n) ((hubClocks_keeps (fun _ hk => hk) hbanks).fields 4 (by decide))

theorem passTo_cyc {d : Device} (h : d.clockOn = true) (c : Nat) : (d.passTo c).cyc = max d.cyc c := by
  unfold passTo
  split
  · rw [advance_cyc]; omega
  · simp [h] at *
    omega

end Device

/-- A frame of fewer rows and places is one of more. -/
theorem Only.mono {R R' : List (Nat × Nat)} {W W' : List Nat} {a b : Device} (h : Only R W a b) (hR : R ⊆ R') (hW : Sub W W') :
    Only R' W' a b := by
  refine ⟨h.1.mono fun k hk => ?_, fun o r ho hr => h.2 o r (fun hk => ho (hW o hk)) fun e he => hr e (hR he)⟩
  rcases List.mem_append.1 hk with hk | hk
  · exact List.mem_append_left _ (List.map_subset _ hR hk)
  · exact List.mem_append_right _ (hW k hk)

/-- Settles O10: each of the four is one write of LOCK, which no armed group stands against. -/
theorem lockCommandsMoveTheLock : Obligations.LockCommandsMoveTheLock := by
  unfold Obligations.LockCommandsMoveTheLock
  refine ⟨fun r s => Device.lockWrite_done (v := 1) (by decide), fun r s => Device.lockWrite_done (v := 0) (by decide),
    fun r s ⟨hreset, hasked⟩ hunarmed => ?_, fun s hheld hclock hunarmed => ?_⟩
  · have hunarmed' : Unarmed ((s.dev.accept r).startCmd O.LOCK_BREAK 0) := fun g => by
      rw [Device.startCmd_rd _ _ _ (by decide), Device.accept_rd]
      exact hunarmed g
    obtain ⟨hzero, -, hmode, honly⟩ := Device.wrCmd_unarmed hunarmed' O.LOCK 0 0
    obtain ⟨t, ht, hkeeps, hresult, hans, hframe⟩ :=
      Device.command_done (f := Device.lockBreakCore r) (R := [(O.LOCK, 0), (O.LOCK_BREAK, 0)]) (W := asked) hreset hasked rfl
        (by rw [Device.cmdCheck_accept]; exact hasked) rfl ((honly asked).mono (by simp) fun _ hk => hk)
        ((honly asked).2 _ _ (by decide) (by decide)) (hmode.trans (Device.accept_mode _ _)) (by simp)
        (by decide) (fun _ hk => hk) (by decide)
    refine ⟨t, ht, ?_, hresult, hans, hframe⟩
    rw [hkeeps.objs (by decide) _ _ (by decide), Device.endCmd_rd _ _ _ _ (by decide), hzero]
  · have hpass : Keeps passing s.dev (s.dev.passTo (s.dev.lockRenewed + msCycles (s.dev.rd O.LOCK_LEASE_MS))) :=
      Device.passTo_keeps (by unfold Sub; decide) (Keeps.refl _ _)
    have hunarmed' : Unarmed (s.dev.passTo (s.dev.lockRenewed + msCycles (s.dev.rd O.LOCK_LEASE_MS))) := fun g => by
      rw [hpass.objs (by decide) _ _ (by decide)]
      exact hunarmed g
    obtain ⟨hzero, hcyc, -, honly⟩ := Device.wrCmd_unarmed hunarmed' O.LOCK 0 0
    have hend : s.dev.lockLeaseExpiry = (s.dev.passTo (s.dev.lockRenewed + msCycles (s.dev.rd O.LOCK_LEASE_MS))).wrCmd O.LOCK 0 0 :=
      if_neg hheld
    refine ⟨{ s with dev := s.dev.lockLeaseExpiry }, rfl, ?_⟩
    rw [hend]
    exact ⟨hzero, by rw [hcyc, Device.passTo_cyc hclock], ((Only.refl _ _ _).keeps (by decide) hpass).trans (honly passing)⟩

end Sys2Proof.Machine
end

section
/-!
PROOF. The family 02_object_dictionary: direct writes and shadow writes store their values or are refused whole.
-/
namespace Sys2Proof.Machine

/-! ### Direct writes and shadow writes (R43, R47) -/

theorem descPage_beyond {p : Nat} (h : 256 ≤ p) : descPage p = [] := by
  unfold descPage
  repeat rw [if_neg (by omega)]

theorem descOf_obj {o : Nat} {e : Desc} (h : descOf o = some e) : e.obj = o ∧ o < 0x1000000 := by
  unfold descOf at h
  refine ⟨by simpa using List.find?_some h, ?_⟩
  by_contra hbig
  rw [descPage_beyond (by omega)] at h
  cases h

theorem descsOf_obj {i : Nat} {e : Desc} (h : e ∈ descsOf i) : e.obj / 256 = i ∧ i < 0x10000 := by
  unfold descsOf at h
  obtain ⟨hmem, hobj⟩ := List.mem_filter.1 h
  refine ⟨by simpa using hobj, ?_⟩
  by_contra hbig
  rw [descPage_beyond (by omega)] at hmem
  cases hmem

/-- Every record lies in the dictionary's address space. -/
theorem subDesc_obj {i s : Nat} {e : Desc} (h : subDesc i s = some e) : e.obj < 0x1000000 := by
  unfold subDesc at h
  split at h
  · rename_i hmulti
    cases hd : descsOf i with
    | nil => simp [indexMulti, hd] at hmulti
    | cons x l =>
      obtain rfl : _ = e := Option.some.inj h
      have hi := (descsOf_obj (hd ▸ List.mem_cons_self : x ∈ descsOf i)).2
      show i * 256 < 0x1000000
      omega
  · obtain ⟨hobj, hlt⟩ := descOf_obj h
    exact hobj ▸ hlt

theorem covered_obj {a : AddrBlock} {rdg : Bool} {e : Desc} (h : e ∈ Device.covered a rdg) : e.obj < 0x1000000 := by
  unfold Device.covered at h
  split at h
  · rcases List.mem_append.1 h with h | h
    · split at h
      · exact subDesc_obj (Option.mem_toList.1 h)
      · cases h
    · obtain ⟨hobj, hi⟩ := descsOf_obj (List.mem_filter.1 h).1
      omega
  · exact subDesc_obj (Option.mem_toList.1 h)

theorem splitWhole_mem : ∀ {l : List Desc} {v : Bytes} {ps : List (Desc × Bytes)}, splitWhole l v = some ps → ∀ p ∈ ps, p.1 ∈ l
  | [], [], _, h, p, hp => by cases h; cases hp
  | e :: l, v, ps, h, p, hp => by
    unfold splitWhole at h
    split at h
    · cases h
    · obtain ⟨ps', hps, rfl⟩ := Option.map_eq_some_iff.1 h
      rcases List.mem_cons.1 hp with rfl | hp
      · exact List.mem_cons_self
      · exact List.mem_cons_of_mem _ (splitWhole_mem hps p hp)

namespace Device

theorem pieces_obj {a : AddrBlock} {v : Bytes} {ps : List Piece} (h : pieces a v = some ps) : ∀ p ∈ ps, p.e.obj < 0x1000000 := by
  intro p hp
  unfold pieces at h
  split at h
  · obtain ⟨l, hl, rfl⟩ := Option.map_eq_some_iff.1 h
    obtain ⟨x, hx, rfl⟩ := List.mem_map.1 hp
    exact covered_obj (List.mem_filter.1 (splitWhole_mem hl x hx)).1
  · obtain ⟨e, he, rfl⟩ := Option.map_eq_some_iff.1 h
    obtain rfl := List.mem_singleton.1 hp
    exact subDesc_obj he

/-- No piece that is a store alone writes what any request changes. -/
theorem plain_not_asked {o : Nat} (h : o ∉ moreThanStore) (hlt : o < 0x1000000) : o ∉ asked := by
  intro ho
  have hnamed : ∀ k ∈ asked, k ∈ moreThanStore ∨ 0x1000000 ≤ k := by decide
  rcases hnamed o ho with hm | hm
  · exact h hm
  · omega

/-- The store changes no more than the objects of the pieces. -/
theorem storePlain_only (ps : List Piece) (W : List Nat) (d : Device) :
    Only (ps.map (fun p => (p.e.obj, p.row))) W d (storePlain ps d) := by
  have hfold : ∀ (qs : List Piece) (x : Device), qs ⊆ ps → Only (ps.map (fun p => (p.e.obj, p.row))) W d x →
      Only (ps.map (fun p => (p.e.obj, p.row))) W d (storePlain qs x) := by
    intro qs
    induction qs with
    | nil => exact fun x _ hx => hx
    | cons q qs ih =>
      intro x hsub hx
      have hrow := List.mem_map_of_mem (f := fun p : Piece => (p.e.obj, p.row)) (hsub List.mem_cons_self)
      exact ih _ (fun y hy => hsub (List.mem_cons_of_mem _ hy)) (hx.wr (Or.inr hrow))
  exact hfold ps d (fun _ hp => hp) (Only.refl _ W d)

/-- Each object holds the last of the values stored in it. -/
theorem storePlain_last (l m : List Piece) (p : Piece) (d : Device)
    (h : ∀ q ∈ m, q.e.obj ≠ p.e.obj ∨ q.row % 2 ^ 24 ≠ p.row % 2 ^ 24) :
    (storePlain (l ++ p :: m) d).rd p.e.obj p.row = storedValue p.e p.num := by
  have hrest : ∀ (m : List Piece) (x : Device), (∀ q ∈ m, q.e.obj ≠ p.e.obj ∨ q.row % 2 ^ 24 ≠ p.row % 2 ^ 24) →
      (storePlain m x).rd p.e.obj p.row = x.rd p.e.obj p.row := by
    intro m
    induction m with
    | nil => exact fun _ _ => rfl
    | cons q m ih =>
      intro x hm
      refine (ih _ fun y hy => hm y (List.mem_cons_of_mem _ hy)).trans ?_
      rw [rd_wr, if_neg]
      intro heq
      exact (hm q List.mem_cons_self).elim (fun hne => hne heq.1) fun hne => hne heq.2
  unfold storePlain
  rw [List.foldl_append, List.foldl_cons]
  exact (hrest m _ h).trans (rd_wr_self _ _ _ _)

/-- A direct write that passes, of plain objects, is the store of its values and the response. -/
theorem performWrite_plain {d : Device} {r : Req} {a : AddrBlock} {v : Bytes} {ps : List Piece} (hgroup : a.group = 0)
    (hcmd : isCommand a = false) (hcheck : d.writeCheck r a v .direct none = 0) (hps : pieces a v = some ps)
    (hplain : ∀ p ∈ ps, p.e.obj ∉ moreThanStore) (hq : Quiet d) : performWrite r a v d = (0, storePlain ps d) := by
  unfold performWrite writeDirect
  rw [if_neg (not_not.2 hgroup), if_neg (by simp [hcmd]), if_neg (not_not.2 hcheck), hps, Option.getD_some,
    applyPieces_plain hplain hq]

theorem performWrite_refused {d : Device} {r : Req} {a : AddrBlock} {v : Bytes} (hgroup : a.group = 0)
    (hcmd : isCommand a = false) (hcheck : d.writeCheck r a v .direct none ≠ 0) :
    performWrite r a v d = (d.writeCheck r a v .direct none, d) := by
  unfold performWrite writeDirect
  rw [if_neg (not_not.2 hgroup), if_neg (by simp [hcmd]), if_pos hcheck]

theorem accept_quiet {d : Device} (h : Quiet d) (r : Req) : Quiet (d.accept r) := by
  intro p
  unfold portOf
  rw [accept_ports]
  exact h p

@[simp] theorem groupOf_setGroup_self (d : Device) (g : Nat) (x : GroupX) : (d.setGroup g x).groupOf g = x :=
  Sparse.get_put_self _ _ _ _

end Device

theorem Device.groupOf_keeps {V : List Nat} {a b : Device} (h : Keeps V a b) (hV : F.groups ∉ V) (g : Nat) :
    b.groupOf g = a.groupOf g := by
  have hgroups : b.groups = a.groups := h.fields 13 hV
  unfold Device.groupOf
  rw [hgroups]

/-- Settles O21: the store of plain values, the answer of the first failing step, and the shadow of a group. -/
theorem writesStoreOrAreRefused : Obligations.WritesStoreOrAreRefused := by
  unfold Obligations.WritesStoreOrAreRefused
  refine ⟨?stored, ?refused, ?shadow⟩
  case stored =>
    intro r a v ps s ⟨hreset, hcheck⟩ hgroup hcmd hps hplain hq
    have hboot : (s.dev.accept r).mode ≠ .boot := Device.mode_ne_boot_of_unserved (Device.writeCheck_unserved hcheck)
    rw [Device.accept_mode] at hboot
    obtain ⟨-, hmode, -⟩ := Device.storePlain_same ps (s.dev.accept r)
    obtain ⟨t, ht, hkeeps, hans, honly⟩ := Device.direct_done hreset hboot
      (Device.performWrite_plain hgroup hcmd hcheck hps hplain (Device.accept_quiet hq r))
      (by rw [hmode, Device.accept_mode]; exact hreset) (Device.storePlain_only ps asked _) (fun _ hk => hk) (by decide)
    refine ⟨t, ht, fun l p m hsplit hlast => ?_, hans, honly⟩
    have hp : p ∈ ps := by rw [hsplit]; simp
    rw [hkeeps.objs (by decide) _ _ (Device.plain_not_asked (hplain p hp) (Device.pieces_obj hps p hp)), hsplit]
    exact Device.storePlain_last l m p _ fun q hq => Or.inl (hlast q hq)
  case refused =>
    intro r a v s hreset hboot hgroup hcmd hcheck
    obtain ⟨t, ht, -, hans, honly⟩ := Device.direct_done hreset hboot (Device.performWrite_refused hgroup hcmd hcheck)
      (by rw [Device.accept_mode]; exact hreset) (Only.refl [] asked _) (fun _ hk => hk) (by decide)
    exact ⟨t, ht, hans, honly⟩
  case shadow =>
    intro r a v s hreset hboot hgroup hcheck
    have hshadow : (s.dev.accept r).groupOf a.group = s.dev.groupOf a.group :=
      Device.groupOf_keeps (Device.accept_keeps_all s.dev r) (by decide) _
    have hwrite : Device.performWrite r a v (s.dev.accept r) = (0, (s.dev.accept r).setShadow a.group
        ((s.dev.groupOf a.group).shadow.filter (fun w => !Device.replaced a w) ++ [⟨a, v⟩])) := by
      unfold Device.performWrite Device.shadowWrite
      rw [if_pos hgroup, if_neg (not_not.2 hcheck), hshadow]
    have hframe : ∀ l, Only [(O.GROUP_WRITES, a.group)] (F.groups :: asked) (s.dev.accept r) ((s.dev.accept r).setShadow a.group l) :=
      fun l => ((Only.refl _ _ _).keeps (by decide)
        (Device.setGroup_keeps (by unfold Sub; decide) (Keeps.refl _ _))).wr (Or.inr List.mem_cons_self)
    obtain ⟨t, ht, hkeeps, hans, honly⟩ := Device.direct_done hreset hboot hwrite
      (by show (s.dev.accept r).mode ≠ .reset; rw [Device.accept_mode]; exact hreset) (hframe _)
      (fun _ hk => List.mem_cons_of_mem _ hk) (by decide)
    have hgroupOf : t.dev.groupOf a.group = { s.dev.groupOf a.group with
        shadow := (s.dev.groupOf a.group).shadow.filter (fun w => !Device.replaced a w) ++ [⟨a, v⟩] } := by
      rw [Device.groupOf_keeps hkeeps (by decide), ← hshadow]
      exact Device.groupOf_setGroup_self _ _ _
    refine ⟨t, ht, by rw [hgroupOf], by rw [hgroupOf], ?_, hans, honly⟩
    rw [hkeeps.objs (by decide) _ _ (by decide), hgroupOf]
    exact Device.rd_wr_self _ _ _ _

end Sys2Proof.Machine
end

section
/-!
PROOF. The family 02_object_dictionary: request windows, the debug port and the statistics value.
-/
namespace Sys2Proof.Machine

/-! ### What a request's own bookkeeping leaves to the dictionary -/

namespace Device

/-- `d` with the sessions, the windows, the debug port and the outputs of `x`: what a request changes before it is looked at. -/
def aside (d x : Device) : Device :=
  { d with sess := x.sess, lockRenewed := x.lockRenewed, jtag := x.jtag, out := x.out,
           pcie := { d.pcie with windows := x.pcie.windows } }

theorem accept_aside (d : Device) (r : Req) : d.accept r = d.aside (d.accept r) := by
  unfold accept
  split
  · rfl
  · dsimp only
    split <;> rfl

theorem aside_readCheck (d x : Device) (r : Req) (a : AddrBlock) : (d.aside x).readCheck r a = d.readCheck r a := rfl

/-! #### Reading a value -/

theorem aside_measures (d x : Device) (o row : Nat) : (d.aside x).measures o row = d.measures o row := rfl

theorem aside_lineOf (d x : Device) (o row : Nat) : (d.aside x).lineOf o row = d.lineOf o row := rfl

theorem aside_ite {c : Prop} [Decidable c] (a b x : Device) :
    (if c then a else b).aside x = if c then a.aside x else b.aside x := by split <;> rfl

theorem aside_setQueue (d x : Device) (q : Nat) (y : QueueX) : (d.aside x).setQueue q y = (d.setQueue q y).aside x := rfl

theorem aside_refreshNodeCount (d x : Device) (n : Nat) : (d.aside x).refreshNodeCount n = (d.refreshNodeCount n).aside x := by
  unfold refreshNodeCount
  dsimp only
  rw [aside_ite]
  rfl

theorem aside_leaveNode (d x : Device) (q : Nat) : (d.aside x).leaveNode q = (d.leaveNode q).aside x := by
  unfold leaveNode
  dsimp only
  rw [aside_ite, aside_setQueue, aside_refreshNodeCount]
  rfl

theorem aside_joinNode (d x : Device) (q : Nat) : (d.aside x).joinNode q = (d.joinNode q).aside x := by
  have helig : (d.aside x).eligibleAt q = d.eligibleAt q := rfl
  unfold joinNode
  dsimp only
  rw [aside_ite, helig]
  cases d.eligibleAt q with
  | none => rfl
  | some n =>
    simp only [Option.elim_some, aside_setQueue, aside_refreshNodeCount]
    rfl

theorem aside_foldl {β : Type} {f : Device → β → Device} (x : Device) (h : ∀ d b, f (d.aside x) b = (f d b).aside x)
    (l : List β) (d : Device) : l.foldl f (d.aside x) = (l.foldl f d).aside x :=
  List.foldl_hom (fun y => aside y x) h

theorem aside_followQueues (d x : Device) : (d.aside x).followQueues = d.followQueues.aside x := by
  have hbusy : (d.aside x).busyQueues = d.busyQueues := rfl
  unfold followQueues
  rw [hbusy, aside_foldl x (fun y q => aside_leaveNode y x q), aside_foldl x (fun y q => aside_joinNode y x q)]

theorem aside_nodeLeaves (d x : Device) (n : Nat) : (d.aside x).nodeLeaves n = (d.nodeLeaves n).aside x := by
  unfold nodeLeaves
  rw [aside_ite]
  rfl

theorem aside_nodeJoins (d x : Device) (n : Nat) : (d.aside x).nodeJoins n = (d.nodeJoins n).aside x := by
  unfold nodeJoins
  dsimp only
  rw [aside_ite]
  rfl

theorem aside_followPort (d x : Device) (p : Nat) : (d.aside x).followPort p = (d.followPort p).aside x := by
  unfold followPort
  dsimp only
  rw [aside_foldl x (fun y n => aside_nodeLeaves y x n)]
  generalize (portNodes p).foldl nodeLeaves d = y
  rw [← aside_foldl x (fun y n => aside_nodeJoins y x n), aside_ite]
  rfl

theorem aside_settle (d x : Device) : (d.aside x).settle = d.settle.aside x := by
  unfold settle
  rw [aside_followQueues]
  exact aside_foldl x (fun y p => aside_followPort y x p) _ _

theorem aside_readTable (d x : Device) (o row : Nat) : (d.aside x).readTable o row = d.readTable o row := by
  unfold readTable
  rw [aside_settle]
  rfl

theorem aside_readValue (d x : Device) (o row : Nat) : (d.aside x).readValue o row = d.readValue o row := by
  unfold readValue
  rw [aside_readTable]
  rfl

/-! #### Writing plain values -/

theorem aside_storePlain (d x : Device) (ps : List Piece) : storePlain ps (d.aside x) = (storePlain ps d).aside x :=
  aside_foldl x (fun _ _ => rfl) ps d

end Device

/-! #### The checks of a plain write -/

namespace Device

/-- A trial of a direct write that leaves the pieces `ps` of the device `d` stored. -/
def directTrial (s : Nat) (d : Device) (ps : List Piece) : Trial := ⟨s, .direct, d, d, ps⟩

theorem entryFails_plain {p : Piece} (h : p.e.obj ∉ moreThanStore) (d : Device) (t : Trial) : d.entryFails t p = false := by
  unfold entryFails
  rw [entryOf_plain (shaping_sub h)]
  rfl

theorem aside_valueFails (d y x : Device) (s : Nat) (ps : List Piece) (p : Piece) :
    (d.aside x).valueFails (directTrial s (y.aside x) ps) p = d.valueFails (directTrial s y ps) p := rfl

theorem aside_stateFails (d x : Device) (p : Piece) : (d.aside x).stateFails p = d.stateFails p := rfl

theorem aside_resourceFails {p : Piece} (h : p.e.obj ∉ moreThanStore) (d y x : Device) (s : Nat) (ps : List Piece) :
    (d.aside x).resourceFails (directTrial s (y.aside x) ps) p = d.resourceFails (directTrial s y ps) p := by
  unfold resourceFails
  rw [entryFails_plain h, entryFails_plain h]
  rfl

theorem aside_writeResource {ps : List Piece} (h : ∀ p ∈ ps, p.e.obj ∉ moreThanStore) (d y x : Device) (s : Nat) (a : AddrBlock) :
    (d.aside x).writeResource a (directTrial s (y.aside x) ps) ps = d.writeResource a (directTrial s y ps) ps :=
  congrArg leastFail (List.flatMap_congr fun p hp => aside_resourceFails (h p hp) d y x s ps)

/-- Nothing that a request changes before it is looked at decides whether a plain write passes. -/
theorem aside_writeCheck {r : Req} {a : AddrBlock} {v : Bytes} {ps : List Piece} (hps : pieces a v = some ps)
    (hplain : ∀ p ∈ ps, p.e.obj ∉ moreThanStore) (d x : Device) :
    (d.aside x).writeCheck r a v .direct none = d.writeCheck r a v .direct none := by
  unfold writeCheck
  rw [hps]
  simp only [Option.getD_some, Option.getD_none, storePieces_plain hplain, aside_storePlain]
  have hresource := aside_writeResource hplain d (storePlain ps d) x r.session a
  unfold directTrial at hresource
  rw [hresource]
  rfl

end Device

/-! ### Windows, the debug port and PMC_VALUE (R70, R77, R395) -/

namespace Device

theorem plainRead_covered {r : Req} {a : AddrBlock} {e : Desc} {d : Device} (h : PlainRead r a e d) : covered a true = [e] := by
  obtain ⟨-, -, -, hwhole, hdesc, -⟩ := h
  unfold covered
  rw [if_neg (by simp [hwhole]), hdesc]
  rfl

/-- A read of one plain object answers its value, and changes nothing: neither a line of memory, a latch nor a measurement
stands behind it. -/
theorem performRead_plain {limit : Nat} {r : Req} {a : AddrBlock} {e : Desc} {d x : Device} (h : PlainRead r a e d)
    (hlimit : 1012 ≤ limit) :
    performRead limit r a (d.aside x) = ((0, leBytes e.ty.size (d.readValue e.obj a.row)), d.aside x) := by
  have hcov := plainRead_covered h
  obtain ⟨-, -, hcheck, -, -, hline, hmeasures, hsize, hobj⟩ := h
  have hcheck' : (d.aside x).readCheck r a = 0 := by
    rw [accept_aside, aside_readCheck] at hcheck
    rw [aside_readCheck, hcheck]
  have hneeds : (d.aside x).readNeeds a = [] := by
    unfold readNeeds
    rw [hcov, List.filterMap_cons_none (by rw [aside_lineOf, hline])]
    rfl
  have hlength : readLength a = e.ty.size := by
    unfold readLength
    rw [hcov]
    exact Nat.add_zero _
  simp only [List.mem_cons, List.not_mem_nil, or_false, not_or] at hobj
  obtain ⟨hpmc, hsample, hslew⟩ := hobj
  have hpiece : readPiece ([], d.aside x) (e, a.row) = (leBytes e.ty.size (d.readValue e.obj a.row), d.aside x) := by
    have hobserve : observe e.obj a.row (d.aside x) = d.aside x := if_pos (by rw [aside_measures, hmeasures]; exact Bool.false_ne_true)
    have heffect : readEffect e.obj a.row (d.aside x) = d.aside x := by
      unfold readEffect
      rw [if_neg fun hc => hpmc hc.1, if_neg hsample]
    unfold readPiece
    dsimp only
    rw [hobserve, heffect, if_neg hslew, aside_readValue, List.nil_append]
  unfold performRead readObject
  rw [if_neg (by omega), if_neg (not_not.2 hcheck'), hneeds, hcov]
  exact congrArg (fun y : Bytes × Device => ((0, y.1), y.2)) hpiece

/-! #### A request window -/

theorem windowDone_winOf (d : Device) (w abort : Nat) (v : Bytes) :
    (d.windowDone w abort v).winOf w = { d.winOf w with busy := false, abort := abort, value := v } := by
  have hmsix : ∀ (x : Device) (e : Nat), (x.msix e).pcie.windows = x.pcie.windows := fun x e =>
    (msix_keeps (fun _ hk => hk) (Keeps.refl Touch.msix x)).fields 15 (by decide)
  unfold windowDone winOf
  rw [hmsix]
  exact Sparse.get_put_self _ _ _ _

theorem countRequest_keeps_asked (d : Device) (r : Req) (role abort : Nat) : Keeps asked d (d.countRequest r role abort) :=
  countRequest_keeps (by unfold Sub; decide) (Keeps.refl _ _)

/-- How a window's request ends: counted, and its status and value written. -/
theorem windowDone_only {d x : Device} {r : Req} {R : List (Nat × Nat)} (w role abort : Nat) (v : Bytes)
    (h : Only R (F.pcieWindows :: asked) d x) :
    Only R (F.pcieWindows :: asked) d ((x.countRequest r role abort).windowDone w abort v) :=
  h.keeps (by decide) (windowDone_keeps (by unfold Sub; decide)
    ((countRequest_keeps_asked x r role abort).mono fun _ hk => List.mem_cons_of_mem _ hk))

theorem windowSubmit_accept_only (d : Device) (r : Req) (w address session length op : Nat) (v : Bytes) (R : List (Nat × Nat)) :
    Only R (F.pcieWindows :: asked) d ((d.windowSubmit w address session length op v).accept r) :=
  (Only.refl R _ d).keeps (by decide)
    (accept_keeps (by unfold Sub; decide) (windowSubmit_keeps (by unfold Sub; decide) (Keeps.refl _ _)))

theorem aside_quiet {d : Device} (h : Quiet d) (x : Device) : Quiet (d.aside x) := h

/-- A write whose checks pass, on the device that the transport has prepared. -/
theorem performWrite_aside {r : Req} {a : AddrBlock} {v : Bytes} {p : Piece} {d : Device} (hpass : Passes r a v d)
    (hgroup : a.group = 0) (hcmd : isCommand a = false) (hps : pieces a v = some [p]) (hplain : p.e.obj ∉ moreThanStore)
    (hq : Quiet d) (x : Device) : performWrite r a v (d.aside x) = (0, storePlain [p] (d.aside x)) := by
  have hplain' : ∀ q ∈ [p], q.e.obj ∉ moreThanStore := fun q hq => by rwa [List.mem_singleton.1 hq]
  obtain ⟨-, hcheck⟩ := hpass
  rw [accept_aside, aside_writeCheck hps hplain'] at hcheck
  exact performWrite_plain hgroup hcmd (by rw [aside_writeCheck hps hplain', hcheck]) hps hplain' (aside_quiet hq x)

/-! #### The value buffer of the debug port -/

theorem natAt_natPut_self (l : List (Nat × Nat)) (k v : Nat) : natAt (natPut l k v) k = v := Sparse.get_put_self _ _ _ _

theorem natAt_natPut_ne (l : List (Nat × Nat)) {k j : Nat} (h : j ≠ k) (v : Nat) : natAt (natPut l k v) j = natAt l j :=
  Sparse.get_put_ne _ _ h _

/-- Bytes stored from place `o` on: the places they take hold them, and the others what they held. -/
theorem natAt_store : ∀ (v : Bytes) (o : Nat) (l : List (Nat × Nat)) (i : Nat),
    natAt ((v.zipIdx o).foldl (fun l e => natPut l (0 + e.2) e.1.toNat) l) i =
      if h : o ≤ i ∧ i < o + v.length then (v[i - o]'(by omega)).toNat else natAt l i
  | [], o, l, i => by
    rw [dif_neg (by simp)]
    rfl
  | b :: v, o, l, i => by
    rw [List.zipIdx_cons, List.foldl_cons, natAt_store v (o + 1)]
    by_cases hi : i = o
    · subst hi
      rw [dif_neg (by omega), dif_pos (by simp), zero_add, natAt_natPut_self]
      simp
    · by_cases hin : o + 1 ≤ i ∧ i < o + 1 + v.length
      · rw [dif_pos hin, dif_pos (by simp only [List.length_cons]; omega)]
        congr 1
        rw [List.getElem_cons, dif_neg (by omega)]
        congr 1
      · rw [dif_neg hin, dif_neg (by simp only [List.length_cons]; omega), zero_add, natAt_natPut_ne _ hi]

theorem dapBytes_dapStore (d : Device) (v : Bytes) : (d.dapStore 0 v).dapBytes 0 v.length = v := by
  refine List.ext_getElem (by simp [dapBytes]) fun i hi hv => ?_
  have hat : natAt (d.dapStore 0 v).jtag.buf i = v[i].toNat := by
    show natAt ((v.zipIdx 0).foldl (fun l e => natPut l (0 + e.2) e.1.toNat) d.jtag.buf) i = _
    rw [natAt_store, dif_pos (by omega)]
    rfl
  simp [dapBytes, hat]

theorem dapStore_beyond (d : Device) (v : Bytes) {i : Nat} (h : v.length ≤ i) :
    natAt (d.dapStore 0 v).jtag.buf i = natAt d.jtag.buf i := by
  show natAt ((v.zipIdx 0).foldl (fun l e => natPut l (0 + e.2) e.1.toNat) d.jtag.buf) i = _
  rw [natAt_store, dif_neg (by omega)]

theorem dapScan_accept_only (d : Device) (r : Req) (v : Nat) (R : List (Nat × Nat)) :
    Only R (F.jtag :: asked) d ((d.dapScan v).accept r) :=
  (Only.refl R _ d).keeps (by decide)
    (accept_keeps (by unfold Sub; decide) (dapScan_keeps (by unfold Sub; decide) (Keeps.refl _ _)))

end Device

namespace Device

theorem windowSubmit_accept (d : Device) (r : Req) (w address session length op : Nat) (v : Bytes) :
    (d.windowSubmit w address session length op v).accept r = d.aside ((d.windowSubmit w address session length op v).accept r) := by
  have haside : ∀ (n : WinReg) (y : Device), (d.setWin w n).aside y = d.aside y := fun _ _ => by
    unfold setWin aside
    rfl
  refine (accept_aside _ _).trans ?_
  exact haside _ _

theorem windowSubmit_mode (d : Device) (w address session length op : Nat) (v : Bytes) :
    (d.windowSubmit w address session length op v).mode = d.mode := by
  unfold windowSubmit setWin
  rfl

theorem setDapAbort_abort (d : Device) (n : Nat) : (d.setDapAbort n).jtag.abort = n := rfl

theorem setDapAbort_buf (d : Device) (n : Nat) : (d.setDapAbort n).jtag.buf = d.jtag.buf := rfl

theorem setDapAbort_dapBytes (d : Device) (n o k : Nat) : (d.setDapAbort n).dapBytes o k = d.dapBytes o k := rfl

theorem setDapAbort_rd (d : Device) (n o row : Nat) : (d.setDapAbort n).rd o row = d.rd o row := rfl

theorem dapScan_accept_buf (d : Device) (r : Req) (v : Nat) : ((d.dapScan v).accept r).jtag.buf = d.jtag.buf := by
  have hjtag : ((d.dapScan v).accept r).jtag = (d.dapScan v).jtag := (accept_keeps_all _ r).fields 20 (by decide)
  rw [hjtag]
  rfl

theorem dapScan_accept (d : Device) (r : Req) (v : Nat) : (d.dapScan v).accept r = d.aside ((d.dapScan v).accept r) :=
  accept_aside _ _

theorem pcieWindowRead_plain {d : Device} {w id : Nat} {a : AddrBlock} {e : Desc} (hready : d.windowReady w = true)
    (h : PlainRead ⟨.pcie, id⟩ a e d) :
    ∃ role, pcieWindowRead w id a d =
      (((d.windowSubmit w (addrWord a) id 0 1 []).accept ⟨.pcie, id⟩).countRequest ⟨.pcie, id⟩ role 0).windowDone w 0
        (leBytes e.ty.size (d.readValue e.obj a.row)) := by
  have hread := performRead_plain (limit := 4032) (x := (d.windowSubmit w (addrWord a) id 0 1 []).accept ⟨.pcie, id⟩) h (by decide)
  rw [← windowSubmit_accept] at hread
  have hboot : (d.windowSubmit w (addrWord a) id 0 1 []).mode ≠ .boot := by
    rw [windowSubmit_mode]
    exact h.2.1
  refine ⟨(d.windowSubmit w (addrWord a) id 0 1 []).roleOf ⟨.pcie, id⟩, ?_⟩
  unfold pcieWindowRead
  rw [if_neg (not_not.2 hready)]
  dsimp only
  rw [if_neg hboot, hread]

theorem pcieWindowWrite_plain {d : Device} {w id : Nat} {a : AddrBlock} {v : Bytes} {p : Piece} (hready : d.windowReady w = true)
    (hmode : d.mode ≠ .boot) (hlength : v.length ≤ 4032) (hpass : Passes ⟨.pcie, id⟩ a v d) (hgroup : a.group = 0)
    (hcmd : isCommand a = false) (hps : pieces a v = some [p]) (hplain : p.e.obj ∉ moreThanStore) (hq : Quiet d) :
    ∃ role, pcieWindowWrite w id a v d =
      ((storePlain [p] ((d.windowSubmit w (addrWord a) id v.length 2 v).accept ⟨.pcie, id⟩)).countRequest
        ⟨.pcie, id⟩ role 0).windowDone w 0 [] := by
  have hwrite := performWrite_aside hpass hgroup hcmd hps hplain hq
    ((d.windowSubmit w (addrWord a) id v.length 2 v).accept ⟨.pcie, id⟩)
  rw [← windowSubmit_accept] at hwrite
  have hboot : (d.windowSubmit w (addrWord a) id v.length 2 v).mode ≠ .boot := by
    rw [windowSubmit_mode]
    exact hmode
  have hreset : (storePlain [p] ((d.windowSubmit w (addrWord a) id v.length 2 v).accept ⟨.pcie, id⟩)).mode ≠ .reset := by
    rw [(storePlain_same _ _).2.1, accept_mode, windowSubmit_mode]
    exact hpass.1
  refine ⟨(d.windowSubmit w (addrWord a) id v.length 2 v).roleOf ⟨.pcie, id⟩, ?_⟩
  unfold pcieWindowWrite
  rw [if_neg (not_not.2 hready)]
  dsimp only
  rw [if_neg hboot, if_neg (by omega), hwrite, if_neg hreset]

theorem dapRead_plain {d : Device} {id : Nat} {a : AddrBlock} {e : Desc} (h : PlainRead ⟨.debug, id⟩ a e d) :
    ∃ role, dapRead id a d = ((((d.dapScan (dapWord (addrWord a) id 1 0)).accept ⟨.debug, id⟩).countRequest
      ⟨.debug, id⟩ role 0).dapStore 0 (leBytes e.ty.size (d.readValue e.obj a.row))).setDapAbort 0 := by
  have hread := performRead_plain (limit := 4032) (x := (d.dapScan (dapWord (addrWord a) id 1 0)).accept ⟨.debug, id⟩) h (by decide)
  refine ⟨(d.dapScan (dapWord (addrWord a) id 1 0)).roleOf ⟨.debug, id⟩, ?_⟩
  rw [← dapScan_accept] at hread
  unfold dapRead
  rw [if_neg h.1]
  dsimp only
  rw [if_neg (by exact h.2.1), hread]

theorem dapWrite_plain {d : Device} {id n : Nat} {a : AddrBlock} {p : Piece} (hboot : d.mode ≠ .boot) (hlength : n ≤ 4032)
    (hpass : Passes ⟨.debug, id⟩ a (d.dapBytes 0 n) d) (hgroup : a.group = 0) (hcmd : isCommand a = false)
    (hps : pieces a (d.dapBytes 0 n) = some [p]) (hplain : p.e.obj ∉ moreThanStore) (hq : Quiet d) :
    ∃ role, dapWrite id a n d = ((storePlain [p] ((d.dapScan (dapWord (addrWord a) id 2 n)).accept ⟨.debug, id⟩)).countRequest
      ⟨.debug, id⟩ role 0).setDapAbort 0 := by
  have hwrite := performWrite_aside hpass hgroup hcmd hps hplain hq ((d.dapScan (dapWord (addrWord a) id 2 n)).accept ⟨.debug, id⟩)
  rw [← dapScan_accept] at hwrite
  refine ⟨(d.dapScan (dapWord (addrWord a) id 2 n)).roleOf ⟨.debug, id⟩, ?_⟩
  have hbytes : (d.dapScan (dapWord (addrWord a) id 2 n)).dapBytes 0 n = d.dapBytes 0 n := rfl
  unfold dapWrite
  rw [if_neg hpass.1]
  dsimp only
  rw [if_neg (by exact hboot), if_neg (by omega), hbytes, hwrite]

end Device

/-! #### The five statements -/

theorem pcieWindowRead_reads {w id : Nat} {a : AddrBlock} {e : Desc} {s : State} (hready : s.dev.windowReady w = true)
    (h : PlainRead ⟨.pcie, id⟩ a e s.dev) :
    ∃ t, exec (.pcieWindowRead w id a) s = .next t ∧
      (t.dev.winOf w).busy = false ∧ (t.dev.winOf w).abort = 0 ∧
      (t.dev.winOf w).value = leBytes e.ty.size (s.dev.readValue e.obj a.row) ∧
      Only [] (F.pcieWindows :: asked) s.dev t.dev := by
  obtain ⟨role, heq⟩ := Device.pcieWindowRead_plain hready h
  have honly := Device.windowSubmit_accept_only s.dev ⟨.pcie, id⟩ w (Device.addrWord a) id 0 1 [] []
  obtain ⟨t, ht, hdev⟩ : ∃ t, exec (.pcieWindowRead w id a) s = .next t ∧ t.dev = s.dev.pcieWindowRead w id a := ⟨_, rfl, rfl⟩
  refine ⟨t, ht, ?_⟩
  rw [hdev, heq, Device.windowDone_winOf]
  exact ⟨rfl, rfl, rfl, Device.windowDone_only w role 0 _ honly⟩

theorem pcieWindowWrite_stores {w id : Nat} {a : AddrBlock} {v : Bytes} {p : Piece} {s : State}
    (hready : s.dev.windowReady w = true) (hmode : s.dev.mode ≠ .boot) (hlength : v.length ≤ 4032)
    (hpass : Passes ⟨.pcie, id⟩ a v s.dev) (hgroup : a.group = 0) (hcmd : Device.isCommand a = false)
    (hps : Device.pieces a v = some [p]) (hplain : p.e.obj ∉ moreThanStore) (hq : Quiet s.dev) :
    ∃ t, exec (.pcieWindowWrite w id a v) s = .next t ∧ t.dev.rd p.e.obj p.row = storedValue p.e p.num ∧
      (t.dev.winOf w).busy = false ∧ (t.dev.winOf w).abort = 0 ∧ (t.dev.winOf w).value = [] ∧
      Only [(p.e.obj, p.row)] (F.pcieWindows :: asked) s.dev t.dev := by
  obtain ⟨role, heq⟩ := Device.pcieWindowWrite_plain hready hmode hlength hpass hgroup hcmd hps hplain hq
  generalize hx : (s.dev.windowSubmit w (Device.addrWord a) id v.length 2 v).accept ⟨.pcie, id⟩ = x at heq
  have honly : Only [(p.e.obj, p.row)] (F.pcieWindows :: asked) s.dev x := hx ▸ Device.windowSubmit_accept_only _ _ _ _ _ _ _ _ _
  have hkeeps : Keeps (F.pcieWindows :: asked) (Device.storePlain [p] x)
      (((Device.storePlain [p] x).countRequest ⟨.pcie, id⟩ role 0).windowDone w 0 []) :=
    (Device.windowDone_only (R := []) w role 0 [] (Only.refl _ _ _)).1
  have hobj := Device.plain_not_asked hplain (Device.pieces_obj hps p List.mem_cons_self)
  have hlt := Device.pieces_obj hps p List.mem_cons_self
  obtain ⟨t, ht, hdev⟩ : ∃ t, exec (.pcieWindowWrite w id a v) s = .next t ∧ t.dev = s.dev.pcieWindowWrite w id a v := ⟨_, rfl, rfl⟩
  refine ⟨t, ht, ?_⟩
  rw [hdev, heq, Device.windowDone_winOf, hkeeps.objs (by decide) _ _ (by
    rw [List.mem_cons, not_or]
    exact ⟨Nat.ne_of_lt (hlt.trans (by decide)), hobj⟩)]
  exact ⟨Device.rd_wr_self _ _ _ _, rfl, rfl, rfl,
    Device.windowDone_only w role 0 [] (honly.trans (Device.storePlain_only [p] _ x))⟩

theorem dapRead_reads {id : Nat} {a : AddrBlock} {e : Desc} {s : State} (h : PlainRead ⟨.debug, id⟩ a e s.dev) :
    ∃ t, exec (.dapRead id a) s = .next t ∧ t.dev.jtag.abort = 0 ∧
      t.dev.dapBytes 0 e.ty.size = leBytes e.ty.size (s.dev.readValue e.obj a.row) ∧
      (∀ i, e.ty.size ≤ i → natAt t.dev.jtag.buf i = natAt s.dev.jtag.buf i) ∧ Only [] (F.jtag :: asked) s.dev t.dev := by
  obtain ⟨role, heq⟩ := Device.dapRead_plain h
  generalize hx : (s.dev.dapScan (Device.dapWord (Device.addrWord a) id 1 0)).accept ⟨.debug, id⟩ = x at heq
  have honly : Only [] (F.jtag :: asked) s.dev x := hx ▸ Device.dapScan_accept_only _ _ _ _
  have hjtag : (x.countRequest ⟨.debug, id⟩ role 0).jtag = x.jtag := (Device.countRequest_keeps_asked x _ role 0).fields 20 (by decide)
  have hbuf : x.jtag.buf = s.dev.jtag.buf := hx ▸ Device.dapScan_accept_buf _ _ _
  have hlength := leBytes_length e.ty.size (s.dev.readValue e.obj a.row)
  obtain ⟨t, ht, hdev⟩ : ∃ t, exec (.dapRead id a) s = .next t ∧ t.dev = s.dev.dapRead id a := ⟨_, rfl, rfl⟩
  refine ⟨t, ht, ?_⟩
  rw [hdev, heq]
  refine ⟨Device.setDapAbort_abort _ _, ?_, fun i hi => ?_, ?_⟩
  · have hstored := Device.dapBytes_dapStore (x.countRequest ⟨.debug, id⟩ role 0) (leBytes e.ty.size (s.dev.readValue e.obj a.row))
    rw [hlength] at hstored
    rw [Device.setDapAbort_dapBytes, hstored]
  · rw [Device.setDapAbort_buf, ← hbuf, ← hjtag]
    exact Device.dapStore_beyond _ _ (by rw [hlength]; exact hi)
  · exact honly.keeps (by decide) (Device.setDapAbort_keeps (by unfold Sub; decide) (Device.dapStore_keeps (by unfold Sub; decide)
      ((Device.countRequest_keeps_asked x _ role 0).mono fun _ hk => List.mem_cons_of_mem _ hk)))

theorem dapWrite_stores {id n : Nat} {a : AddrBlock} {p : Piece} {s : State} (hboot : s.dev.mode ≠ .boot) (hlength : n ≤ 4032)
    (hpass : Passes ⟨.debug, id⟩ a (s.dev.dapBytes 0 n) s.dev) (hgroup : a.group = 0) (hcmd : Device.isCommand a = false)
    (hps : Device.pieces a (s.dev.dapBytes 0 n) = some [p]) (hplain : p.e.obj ∉ moreThanStore) (hq : Quiet s.dev) :
    ∃ t, exec (.dapWrite id a n) s = .next t ∧ t.dev.rd p.e.obj p.row = storedValue p.e p.num ∧ t.dev.jtag.abort = 0 ∧
      t.dev.jtag.buf = s.dev.jtag.buf ∧ Only [(p.e.obj, p.row)] (F.jtag :: asked) s.dev t.dev := by
  obtain ⟨role, heq⟩ := Device.dapWrite_plain hboot hlength hpass hgroup hcmd hps hplain hq
  generalize hx : (s.dev.dapScan (Device.dapWord (Device.addrWord a) id 2 n)).accept ⟨.debug, id⟩ = x at heq
  have honly : Only [(p.e.obj, p.row)] (F.jtag :: asked) s.dev x := hx ▸ Device.dapScan_accept_only _ _ _ _
  have hcount := Device.countRequest_keeps_asked (Device.storePlain [p] x) ⟨.debug, id⟩ role 0
  have hbuf : x.jtag.buf = s.dev.jtag.buf := hx ▸ Device.dapScan_accept_buf _ _ _
  have hobj := Device.plain_not_asked hplain (Device.pieces_obj hps p List.mem_cons_self)
  have hjtag : ((Device.storePlain [p] x).countRequest ⟨.debug, id⟩ role 0).jtag = x.jtag := hcount.fields 20 (by decide)
  obtain ⟨t, ht, hdev⟩ : ∃ t, exec (.dapWrite id a n) s = .next t ∧ t.dev = s.dev.dapWrite id a n := ⟨_, rfl, rfl⟩
  refine ⟨t, ht, ?_⟩
  rw [hdev, heq]
  refine ⟨?_, Device.setDapAbort_abort _ _, by rw [Device.setDapAbort_buf, hjtag, hbuf], ?_⟩
  · rw [Device.setDapAbort_rd, hcount.objs (by decide) _ _ hobj]
    exact Device.rd_wr_self _ _ _ _
  · exact (honly.trans (Device.storePlain_only [p] _ x)).keeps (by decide) (Device.setDapAbort_keeps (by unfold Sub; decide)
      (hcount.mono fun _ hk => List.mem_cons_of_mem _ hk))

namespace Device

/-- The record of PMC_VALUE. -/
def pmcValueDesc : Desc := ⟨O.PMC_VALUE, true, .u 8, .rw, 15, 0, 281474976710655⟩

theorem covered_pmcValue (row : Nat) : covered (directAddr O.PMC_VALUE row) true = [pmcValueDesc] := by
  have hdesc : subDesc 0x7000 3 = some pmcValueDesc := by decide +kernel
  show (subDesc 0x7000 3).toList = _
  rw [hdesc]
  rfl

/-- The latch of the pair's odd half. -/
def pairLatched (row : Nat) (d : Device) : Device :=
  if row % 2 = 0 ∧ d.rdB O.PMC_CHAIN row then d.wr O.PMC_PAIR_HIGH row (d.readValue O.PMC_VALUE (row + 1)) else d

theorem readValue_pmcValue (d : Device) (row : Nat) : d.readValue O.PMC_VALUE row =
    if row < 128 ∧ (d.rd O.SLICE_STATE (row / 32) = 3 ∨ d.rd O.SLICE_STATE (row / 32) = 4) then 0 else d.rd O.PMC_VALUE row := by
  have htable : d.readValue O.PMC_VALUE row = (d.readTable O.PMC_VALUE row).getD (d.rd O.PMC_VALUE row) := rfl
  have hslice : d.readTable O.PMC_VALUE row =
      if row < 128 ∧ (d.rd O.SLICE_STATE (row / 32) = 3 ∨ d.rd O.SLICE_STATE (row / 32) = 4) then some 0 else none := by
    simp [readTable, O.PMC_VALUE]
  rw [htable, hslice]
  split <;> rfl

theorem pairLatched_readValue (row : Nat) (d : Device) :
    (pairLatched row d).readValue O.PMC_VALUE row = d.readValue O.PMC_VALUE row := by
  unfold pairLatched
  split
  · simp only [readValue_pmcValue, rd_wr_obj _ _ _ _ (show O.PMC_PAIR_HIGH ≠ O.SLICE_STATE by decide),
      rd_wr_obj _ _ _ _ (show O.PMC_PAIR_HIGH ≠ O.PMC_VALUE by decide)]
  · rfl

theorem readObject_pmcValue {d : Device} {r : Req} {row : Nat} (h : d.readCheck r (directAddr O.PMC_VALUE row) = 0) :
    readObject r (directAddr O.PMC_VALUE row) d = ((0, leBytes 8 (d.readValue O.PMC_VALUE row)), pairLatched row d) := by
  have hneeds : d.readNeeds (directAddr O.PMC_VALUE row) = [] := by
    unfold readNeeds
    rw [covered_pmcValue]
    rfl
  have hpiece : readPiece ([], d) (pmcValueDesc, row) = (leBytes 8 (d.readValue O.PMC_VALUE row), pairLatched row d) := by
    have heffect : readEffect O.PMC_VALUE row (observe O.PMC_VALUE row d) = pairLatched row d := by
      simp [readEffect, observe, measures, pairLatched, O.PMC_VALUE]
    unfold readPiece
    dsimp only [pmcValueDesc]
    rw [heffect, if_neg (by decide), pairLatched_readValue, List.nil_append]
    rfl
  unfold readObject
  rw [if_neg (not_not.2 h), hneeds, covered_pmcValue]
  exact congrArg (fun y : Bytes × Device => ((0, y.1), y.2)) hpiece

end Device

theorem pmcValueRead_latches {r : Req} {row : Nat} {s : State} (hreset : s.dev.mode ≠ .reset)
    (hcheck : (s.dev.accept r).readCheck r (directAddr O.PMC_VALUE row) = 0) :
    ∃ t, exec (.pmcValueRead r row) s = .next t ∧
      t.dev.out.getLast? = some (.resp r.master r.session 0 (leBytes 8 (s.dev.readValue O.PMC_VALUE row))) ∧
      (row % 2 = 0 → s.dev.rdB O.PMC_CHAIN row = true → t.dev.rd O.PMC_PAIR_HIGH row = s.dev.readValue O.PMC_VALUE (row + 1)) ∧
      Only [(O.PMC_PAIR_HIGH, row)] asked s.dev t.dev := by
  have hvalue : ∀ i, (s.dev.accept r).readValue O.PMC_VALUE i = s.dev.readValue O.PMC_VALUE i := fun i => by
    rw [Device.accept_aside, Device.aside_readValue]
  have hread : s.dev.pmcValueRead r row = (Device.pairLatched row (s.dev.accept r)).respond r (s.dev.roleOf r) 0
      (leBytes 8 (s.dev.readValue O.PMC_VALUE row)) := by
    unfold Device.pmcValueRead
    rw [if_neg hreset, Device.readObject_pmcValue hcheck, hvalue]
  have hkeeps := Device.respond_keeps_all (Device.pairLatched row (s.dev.accept r)) r (s.dev.roleOf r) 0
    (leBytes 8 (s.dev.readValue O.PMC_VALUE row))
  have honly : Only [(O.PMC_PAIR_HIGH, row)] asked s.dev (Device.pairLatched row (s.dev.accept r)) := by
    have haccept := Device.accept_only s.dev r [(O.PMC_PAIR_HIGH, row)] (W := asked) (fun _ hk => hk) (by decide)
    unfold Device.pairLatched
    split
    · exact haccept.wr (Or.inr List.mem_cons_self)
    · exact haccept
  obtain ⟨t, ht, hdev⟩ : ∃ t, exec (.pmcValueRead r row) s = .next t ∧ t.dev = s.dev.pmcValueRead r row := ⟨_, rfl, rfl⟩
  refine ⟨t, ht, ?_⟩
  rw [hdev, hread]
  refine ⟨by unfold Device.respond Device.emit; simp, fun heven hchain => ?_, honly.keeps (by decide) hkeeps⟩
  have hchain' : (s.dev.accept r).rdB O.PMC_CHAIN row = true := by
    unfold Device.rdB at hchain ⊢
    rw [Device.accept_rd]
    exact hchain
  have hlatched : Device.pairLatched row (s.dev.accept r) =
      (s.dev.accept r).wr O.PMC_PAIR_HIGH row ((s.dev.accept r).readValue O.PMC_VALUE (row + 1)) := if_pos ⟨heven, hchain'⟩
  rw [hkeeps.objs (by decide) _ _ (by decide), hlatched, Device.rd_wr_self, hvalue]

/-- Settles O22: a transport's own registers leave the checks and the values alone, so each request does what a direct one does. -/
theorem windowsAndDebugPortCarryRequests : Obligations.WindowsAndDebugPortCarryRequests := by
  unfold Obligations.WindowsAndDebugPortCarryRequests
  exact ⟨fun w id a e s => pcieWindowRead_reads, fun w id a v p s => pcieWindowWrite_stores, fun id a e s => dapRead_reads,
    fun id a n p s => dapWrite_stores, fun r row s hreset _ => pmcValueRead_latches hreset⟩

end Sys2Proof.Machine
end

section
/-!
PROOF. The family 02_object_dictionary: the commands of commit groups.
-/
namespace Sys2Proof.Machine

/-! ### Commit groups (R46, R47) -/

/-- Sessions' times of acceptance are no part of the event session's room. -/
theorem EventRoom.accept {d : Device} (h : EventRoom d) (r : Req) : EventRoom (d.accept r) := by
  have hcounter : ∀ row, ((d.accept r).sessOf row).evCounter = (d.sessOf row).evCounter := by
    have hset : ∀ (x : SessX) (k row : Nat), x.evCounter = (d.sessOf k).evCounter →
        ((d.setSess k x).sessOf row).evCounter = (d.sessOf row).evCounter := by
      intro x k row hx
      unfold Device.setSess Device.sessOf at *
      by_cases hrow : row = k
      · subst hrow
        exact (congrArg SessX.evCounter (Sparse.get_put_self _ _ _ _)).trans hx
      · exact congrArg SessX.evCounter (Sparse.get_put_ne _ _ hrow _)
    intro row
    unfold Device.accept
    split
    · rfl
    · dsimp only
      split
      · exact hset _ _ row rfl
      · exact hset _ _ row rfl
  have hopen : ∀ id, (d.accept r).openRow id = d.openRow id := fun id => by
    unfold Device.openRow
    simp only [Device.accept_rd]
  intro row hrow
  rw [hcounter]
  exact h row (by rw [← hopen, ← Device.accept_rd d r]; exact hrow)

namespace Device

theorem accept_groupOf (d : Device) (r : Req) (g : Nat) : (d.accept r).groupOf g = d.groupOf g :=
  groupOf_keeps (accept_keeps_all d r) (by decide) g

@[simp] theorem groupOf_wr (d : Device) (o row v g : Nat) : (d.wr o row v).groupOf g = d.groupOf g := rfl

@[simp] theorem groupOf_startCmd (d : Device) (o row g : Nat) : (d.startCmd o row).groupOf g = d.groupOf g :=
  groupOf_wr _ _ _ _ _

@[simp] theorem groupOf_endCmd (d : Device) (o row abort g : Nat) : (d.endCmd o row abort).groupOf g = d.groupOf g :=
  groupOf_wr _ _ _ _ _

theorem startCmd_quiet {d : Device} (h : Quiet d) (o row : Nat) : Quiet (d.startCmd o row) := by
  intro p
  unfold startCmd setResult portOf
  rw [wr_ports]
  exact h p

/-- The session that owns a group may release it, and the lock does not stand against it. -/
theorem mayRelease_owner {d : Device} {r : Req} {g : Nat} (h : d.rd O.GROUP_OWNER g = r.session) : d.mayRelease r g = true := by
  exact Bool.or_eq_true_iff.2 (Or.inl (beq_iff_eq.2 h))

theorem setGroup_only {R : List (Nat × Nat)} {W : List Nat} {a d : Device} (h : Only R (F.groups :: W) a d) (hF : F.objects ∉ W)
    (g : Nat) (x : GroupX) : Only R (F.groups :: W) a (d.setGroup g x) := by
  refine h.keeps ?_ (setGroup_keeps (fun k hk => ?_) (Keeps.refl _ _))
  · rw [List.mem_cons, not_or]
    exact ⟨by decide, hF⟩
  · obtain rfl : k = F.groups := List.mem_singleton.1 hk
    exact List.mem_cons_self

/-- What returning a group to IDLE writes. -/
theorem groupIdle_only {R : List (Nat × Nat)} {W : List Nat} (hF : F.objects ∉ W) (d : Device) {g : Nat}
    (hR : ∀ o ∈ [O.GROUP_STATE, O.GROUP_OWNER, O.GROUP_WRITES, O.GROUP_FAIL_ADDRESS, O.GROUP_FLAGS], (o, g) ∈ R) :
    Only R (F.groups :: W) d (d.groupIdle g) := by
  have hempty := setGroup_only (Only.refl R (F.groups :: W) d) hF g GroupX.empty
  have hstate := hempty.wr (v := 0) (Or.inr (hR O.GROUP_STATE (by simp)))
  have howner := hstate.wr (v := 0) (Or.inr (hR O.GROUP_OWNER (by simp)))
  have hwrites := howner.wr (v := 0) (Or.inr (hR O.GROUP_WRITES (by simp)))
  have hfail := hwrites.wr (v := 0) (Or.inr (hR O.GROUP_FAIL_ADDRESS (by simp)))
  unfold groupIdle
  exact hfail.wr (Or.inr (hR O.GROUP_FLAGS (by simp)))

theorem groupIdle_mode (d : Device) (g : Nat) : (d.groupIdle g).mode = d.mode := by simp [groupIdle]

theorem groupIdle_word (d : Device) (g : Nat) : (d.groupIdle g).rd O.GROUP_CMD g = d.rd O.GROUP_CMD g := by
  simp [groupIdle, rd_wr_obj]

/-- What opening a group writes. -/
def groupOpened (d : Device) (g session : Nat) : Device :=
  ((d.setGroup g GroupX.empty).wr O.GROUP_STATE g 1).wr O.GROUP_OWNER g session

theorem groupOpened_only {R : List (Nat × Nat)} {W : List Nat} (hF : F.objects ∉ W) (d : Device) {g : Nat} (session : Nat)
    (hR : ∀ o ∈ [O.GROUP_STATE, O.GROUP_OWNER], (o, g) ∈ R) : Only R (F.groups :: W) d (d.groupOpened g session) := by
  have hempty := setGroup_only (Only.refl R (F.groups :: W) d) hF g GroupX.empty
  have hstate := hempty.wr (v := 1) (Or.inr (hR O.GROUP_STATE (by simp)))
  unfold groupOpened
  exact hstate.wr (Or.inr (hR O.GROUP_OWNER (by simp)))

/-- A command of group `g` whose checks pass and whose body ends it with device `y`: what it leaves is that of `y`. -/
theorem groupCommand_done {s : State} {r : Req} {g : Nat} {x : Bool} {f : Device → Nat × Device} {c : Conds}
    {body : Device → Option Nat × Device} {y : Device} {R : List (Nat × Nat)} {W : List Nat} (hreset : s.dev.mode ≠ .reset)
    (hasked : s.dev.cmdCheck r O.GROUP_CMD g { Conds.none with exempt := x } = 0)
    (hf : f (s.dev.accept r) = runCmd r O.GROUP_CMD g c body (s.dev.accept r)) (hx : c.exempt = x)
    (hs1 : c.s1 = []) (hs2 : c.s2 = []) (hs6 : c.s6 = []) (hs4 : ∀ e ∈ c.s4, e.1 = false) (hs7 : ∀ e ∈ c.s7, e.1 = false)
    (hbody : body ((s.dev.accept r).startCmd O.GROUP_CMD g) = (some 0, y))
    (hy : Only R W ((s.dev.accept r).startCmd O.GROUP_CMD g) y)
    (hword : y.rd O.GROUP_CMD g = ((s.dev.accept r).startCmd O.GROUP_CMD g).rd O.GROUP_CMD g)
    (hmode : y.mode = ((s.dev.accept r).startCmd O.GROUP_CMD g).mode) (hrow : (O.GROUP_CMD, g) ∈ R) (hW : Sub asked W)
    (hF : F.objects ∉ W) :
    ∃ t, s.on (fun d => d.direct r f) = .next t ∧ (∀ o row, o ≠ O.GROUP_CMD → o ∉ asked → t.dev.rd o row = y.rd o row) ∧
      (∀ k, t.dev.groupOf k = y.groupOf k) ∧ Result O.GROUP_CMD g 0 2 s.dev t.dev ∧ Answers r 0 t.dev ∧ Only R W s.dev t.dev := by
  have hcheck : (s.dev.accept r).cmdCheck r O.GROUP_CMD g c = 0 := by
    rw [cmdCheck_accept]
    exact cmdCheck_pass hasked hx (by simp [hs1]) (by simp [hs2]) hs4 (by simp [hs6]) hs7
  obtain ⟨t, ht, hkeeps, hresult, hans, honly⟩ :=
    command_done hreset hasked hf hcheck hbody hy hword (hmode.trans (accept_mode _ _)) hrow (by decide) hW hF
  exact ⟨t, ht, fun o row ho hasked' => by rw [hkeeps.objs (by decide) _ _ hasked', endCmd_rd _ _ _ _ ho.symm],
    fun k => by rw [groupOf_keeps hkeeps (by decide), groupOf_endCmd], hresult, hans, honly⟩

end Device

/-! #### OPEN and RELEASE -/

theorem groupOpen_opens {r : Req} {g : Nat} {s : State} (h : Asked r O.GROUP_CMD g s.dev) (hidle : s.dev.rd O.GROUP_STATE g = 0) :
    ∃ t, exec (.groupOpen r g) s = .next t ∧ t.dev.rd O.GROUP_STATE g = 1 ∧ t.dev.rd O.GROUP_OWNER g = r.session ∧
      (t.dev.groupOf g).shadow = [] ∧ Result O.GROUP_CMD g 0 2 s.dev t.dev ∧ Answers r 0 t.dev ∧
      Only [(O.GROUP_CMD, g), (O.GROUP_STATE, g), (O.GROUP_OWNER, g)] (F.groups :: asked) s.dev t.dev := by
  obtain ⟨hreset, hasked⟩ := h
  obtain ⟨t, ht, hrd, hgroup, hresult, hans, honly⟩ := Device.groupCommand_done (f := Device.groupOpenCore r g)
    (c := { Conds.none with s4 := [((s.dev.accept r).rd O.GROUP_STATE g != 0, 0xA305)] })
    (body := fun d => (some 0, d.groupOpened g r.session)) hreset hasked rfl rfl rfl rfl rfl (by simp [hidle])
    (by simp [Conds.none]) rfl
    (Device.groupOpened_only (R := [(O.GROUP_CMD, g), (O.GROUP_STATE, g), (O.GROUP_OWNER, g)]) (W := asked) (by decide) _ r.session
      (by simp))
    (by simp [Device.groupOpened, Device.rd_wr_obj]) (by simp [Device.groupOpened]) (by simp)
    (fun _ hk => List.mem_cons_of_mem _ hk) (by decide)
  refine ⟨t, ht, ?_, ?_, ?_, hresult, hans, honly⟩
  · rw [hrd _ _ (by decide) (by decide)]
    simp [Device.groupOpened, Device.rd_wr_obj, Device.rd_wr_self]
  · rw [hrd _ _ (by decide) (by decide)]
    exact Device.rd_wr_self _ _ _ _
  · rw [hgroup]
    simp [Device.groupOpened, GroupX.empty]

theorem groupRelease_idles {r : Req} {g : Nat} {s : State} (h : AskedFree r O.GROUP_CMD g s.dev)
    (hidle : s.dev.rd O.GROUP_STATE g ≠ 0)
    (harmed : s.dev.rd O.GROUP_STATE g ≠ 2) (howner : s.dev.rd O.GROUP_OWNER g = r.session) :
    ∃ t, exec (.groupRelease r g) s = .next t ∧ t.dev.rd O.GROUP_STATE g = 0 ∧ t.dev.rd O.GROUP_OWNER g = 0 ∧
      t.dev.groupOf g = GroupX.empty ∧ Result O.GROUP_CMD g 0 2 s.dev t.dev ∧ Answers r 0 t.dev ∧
      Only [(O.GROUP_CMD, g), (O.GROUP_STATE, g), (O.GROUP_OWNER, g), (O.GROUP_WRITES, g), (O.GROUP_FAIL_ADDRESS, g),
        (O.GROUP_FLAGS, g)] (F.groups :: asked) s.dev t.dev := by
  obtain ⟨hreset, hasked⟩ := h
  have hmay : (s.dev.accept r).mayRelease r g = true := Device.mayRelease_owner (by rw [Device.accept_rd, howner])
  obtain ⟨t, ht, hrd, hgroup, hresult, hans, honly⟩ := Device.groupCommand_done (f := Device.groupReleaseCore r g)
    (c := { Conds.none with
      s4 := [((s.dev.accept r).rd O.GROUP_STATE g == 0 || (s.dev.accept r).rd O.GROUP_STATE g == 2, 0xA305)]
      s7 := [(!(s.dev.accept r).mayRelease r g, 0xA201)], exempt := (s.dev.accept r).mayRelease r g })
    (body := fun d => (some 0, d.groupIdle g)) hreset hasked rfl hmay rfl rfl rfl (by simp [hidle, harmed]) (by simp [hmay]) rfl
    (Device.groupIdle_only (R := [(O.GROUP_CMD, g), (O.GROUP_STATE, g), (O.GROUP_OWNER, g), (O.GROUP_WRITES, g),
      (O.GROUP_FAIL_ADDRESS, g), (O.GROUP_FLAGS, g)]) (W := asked) (by decide) _ (by simp))
    (Device.groupIdle_word _ g) (Device.groupIdle_mode _ g) (by simp) (fun _ hk => List.mem_cons_of_mem _ hk) (by decide)
  refine ⟨t, ht, ?_, ?_, ?_, hresult, hans, honly⟩
  · rw [hrd _ _ (by decide) (by decide)]
    simp [Device.groupIdle, Device.rd_wr_obj, Device.rd_wr_self]
  · rw [hrd _ _ (by decide) (by decide)]
    simp [Device.groupIdle, Device.rd_wr_obj, Device.rd_wr_self]
  · rw [hgroup]
    simp [Device.groupIdle]

/-! #### COMMIT_NOW -/

theorem shadowPieces_obj {l : List ShadowWrite} : ∀ p ∈ Device.shadowPieces l, p.e.obj < 0x1000000 := by
  intro p hp
  obtain ⟨w, -, hw⟩ := List.mem_flatMap.1 hp
  cases hps : Device.pieces w.addr w.val with
  | none => rw [hps] at hw; cases hw
  | some ps => rw [hps] at hw; exact Device.pieces_obj hps p hw

theorem commitNow_applies {r : Req} {g : Nat} {s : State} (h : Asked r O.GROUP_CMD g s.dev) (hopen : s.dev.rd O.GROUP_STATE g = 1)
    (howner : s.dev.rd O.GROUP_OWNER g = r.session)
    (hpass : Device.commitFails ((s.dev.accept r).startCmd O.GROUP_CMD g) r g = none) (hq : Quiet s.dev)
    (hplain : ∀ p ∈ Device.shadowPieces (s.dev.groupOf g).shadow, p.e.obj ∉ moreThanStore) :
    ∃ t, exec (.commitNow r g) s = .next t ∧ t.dev.rd O.GROUP_STATE g = 3 ∧ t.dev.rd O.GROUP_FLAGS g = 0 ∧
      (∀ l p m, Device.shadowPieces (s.dev.groupOf g).shadow = l ++ p :: m →
        (∀ q ∈ m, q.e.obj ≠ p.e.obj ∨ q.row % 2 ^ 24 ≠ p.row % 2 ^ 24) →
        t.dev.rd p.e.obj p.row = storedValue p.e p.num) ∧
      Result O.GROUP_CMD g 0 2 s.dev t.dev ∧ Answers r 0 t.dev ∧
      Only ((O.GROUP_CMD, g) :: (O.GROUP_STATE, g) :: (O.GROUP_FLAGS, g) ::
        (Device.shadowPieces (s.dev.groupOf g).shadow).map (fun p => (p.e.obj, p.row))) asked s.dev t.dev := by
  obtain ⟨hreset, hasked⟩ := h
  have hshadow : ((s.dev.accept r).startCmd O.GROUP_CMD g).groupOf g = s.dev.groupOf g := by
    rw [Device.groupOf_startCmd, Device.accept_groupOf]
  have hquiet : Quiet ((s.dev.accept r).startCmd O.GROUP_CMD g) := Device.startCmd_quiet (Device.accept_quiet hq r) _ _
  generalize hps : Device.shadowPieces (s.dev.groupOf g).shadow = ps at *
  have hsame : ∀ {o : Nat} (d : Device), o ∈ moreThanStore → ∀ row, (Device.storePlain ps d).rd o row = d.rd o row := fun d ho row =>
    Device.storePlain_rd d row fun p hp heq => hplain p hp (heq ▸ ho)
  have happly : ((s.dev.accept r).startCmd O.GROUP_CMD g).applyGroup g =
      (Device.storePlain ps ((s.dev.accept r).startCmd O.GROUP_CMD g)).wr O.GROUP_STATE g 3 := by
    unfold Device.applyGroup
    rw [hshadow, hps, Device.applyPieces_plain hplain hquiet]
  have hframe : ∀ x : Device, Only ((O.GROUP_CMD, g) :: (O.GROUP_STATE, g) :: (O.GROUP_FLAGS, g) ::
      ps.map (fun p => (p.e.obj, p.row))) asked x (((Device.storePlain ps x).wr O.GROUP_STATE g 3).wr O.GROUP_FLAGS g 0) := fun x =>
    (((Device.storePlain_only ps asked x).mono
      (fun e he => List.mem_cons_of_mem _ (List.mem_cons_of_mem _ (List.mem_cons_of_mem _ he))) (fun _ hk => hk)).wr
      (Or.inr (by simp))).wr (Or.inr (by simp))
  obtain ⟨t, ht, hrd, -, hresult, hans, honly⟩ := Device.groupCommand_done (f := Device.commitNowCore r g)
    (body := fun d => match d.commitFails r g with
      | some x => (some x.2, d.commitFailed g x.1)
      | none => (some 0, (d.applyGroup g).wr O.GROUP_FLAGS g 0)) hreset hasked rfl rfl rfl rfl rfl (by simp [hopen])
    (by simp [Device.notOwner, howner]) (by rw [hpass, happly]) (hframe _)
    (by rw [Device.rd_wr_obj _ _ _ _ (by decide), Device.rd_wr_obj _ _ _ _ (by decide), hsame _ (by decide)])
    (by simp [(Device.storePlain_same ps _).2.1]) (by simp) (fun _ hk => hk) (by decide)
  refine ⟨t, ht, ?_, ?_, fun l p m hsplit hlast => ?_, hresult, hans, honly⟩
  · rw [hrd _ _ (by decide) (by decide), Device.rd_wr_obj _ _ _ _ (by decide), Device.rd_wr_self]
  · rw [hrd _ _ (by decide) (by decide), Device.rd_wr_self]
  · have hp : p ∈ ps := by rw [hsplit]; simp
    have hne : ∀ o ∈ moreThanStore, o ≠ p.e.obj := fun o ho heq => hplain p hp (heq ▸ ho)
    have hlt : p.e.obj < 0x1000000 := shadowPieces_obj p (hps ▸ hp)
    rw [hrd _ _ (hne _ (by decide)).symm (Device.plain_not_asked (hplain p hp) hlt), Device.rd_wr_obj _ _ _ _ (hne _ (by decide)),
      Device.rd_wr_obj _ _ _ _ (hne _ (by decide)), hsplit]
    exact Device.storePlain_last l m p _ hlast

/-! #### COMMIT_AT -/

namespace Device

theorem startCmd_gunPool {d : Device} (code o row : Nat) (h : o ≠ O.GUN_STATE) :
    (d.startCmd o row).gunPool code = d.gunPool code := by
  have hfree : (d.startCmd o row).gunFreeRow = d.gunFreeRow := by
    funext e
    unfold gunFreeRow
    rw [startCmd_rd _ _ _ h]
  unfold gunPool gunFreeIn
  rw [hfree]

theorem accept_gunPool (d : Device) (r : Req) (code : Nat) : (d.accept r).gunPool code = d.gunPool code := by
  rw [accept_aside]
  rfl

theorem accept_gunPast (d : Device) (r : Req) (t : Nat) : (d.accept r).gunPast t = d.gunPast t := by
  rw [accept_aside]
  rfl

theorem accept_holdsRws (d : Device) (r : Req) (g : Nat) : (d.accept r).holdsRws g = d.holdsRws g := by
  unfold holdsRws
  rw [accept_groupOf]

/-- The rows of an entry that taking it writes. -/
def gunRows (e : Nat) : List (Nat × Nat) :=
  [(O.GUN_STATE, e), (O.GUN_OWNER, e), (O.GUN_TARGET_ROW, e), (O.GUN_TIME, e), (O.GUN_SEQ, e), (O.GUN_TAG, e),
   (O.GUN_TARGET_CYCLE, e), (O.GUN_FIRED_AT, e), (O.GUN_FLAGS, e)]

/-- What taking an entry writes into its row. -/
def gunValues (code row time seq tag : Nat) (lateOk : Bool) : List (Nat × Nat) :=
  [(O.GUN_STATE, 1), (O.GUN_OWNER, code), (O.GUN_TARGET_ROW, row), (O.GUN_TIME, time), (O.GUN_SEQ, seq), (O.GUN_TAG, tag),
   (O.GUN_TARGET_CYCLE, 0), (O.GUN_FIRED_AT, 0), (O.GUN_FLAGS, if lateOk then 4 else 0)]

/-- A row written object by object. -/
def wrRow (row : Nat) (l : List (Nat × Nat)) (d : Device) : Device := l.foldl (fun d p => d.wr p.1 row p.2) d

/-- The device whose entry is taken, before the announcement. -/
def gunTaken (d : Device) (e code row time tag : Nat) (lateOk : Bool) : Device :=
  wrRow e (gunValues code row time d.gunSeq tag lateOk)
    ((d.setGun e ⟨d.cyc, lateOk && d.gunPast time⟩).setGunSeq ((d.gunSeq + 1) % 2 ^ 32))

theorem gunTake_eq (d : Device) (e code row time tag : Nat) (lateOk : Bool) :
    d.gunTake e code row time tag lateOk = (d.gunTaken e code row time tag lateOk).gunAnnounce 1 e := rfl

theorem wrRow_only {R : List (Nat × Nat)} {W : List Nat} {a : Device} {row : Nat} :
    ∀ {l : List (Nat × Nat)} {d : Device}, (∀ p ∈ l, (p.1, row) ∈ R) → Only R W a d → Only R W a (wrRow row l d)
  | [], _, _, h => h
  | p :: l, _, hR, h => wrRow_only (l := l) (fun q hq => hR q (List.mem_cons_of_mem _ hq)) (h.wr (Or.inr (hR p List.mem_cons_self)))

theorem wrRow_mode (row : Nat) : ∀ (l : List (Nat × Nat)) (d : Device), (wrRow row l d).mode = d.mode
  | [], _ => rfl
  | p :: l, d => (wrRow_mode row l (d.wr p.1 row p.2)).trans (wr_mode _ p.1 row p.2)

theorem wrRow_groupOf (row : Nat) : ∀ (l : List (Nat × Nat)) (d : Device) (g : Nat), (wrRow row l d).groupOf g = d.groupOf g
  | [], _, _ => rfl
  | p :: l, d, g => (wrRow_groupOf row l (d.wr p.1 row p.2) g).trans (groupOf_wr _ _ _ _ _)

theorem wrRow_rd_of_notMem (row : Nat) {o : Nat} : ∀ (l : List (Nat × Nat)) (d : Device) (row' : Nat), (∀ p ∈ l, p.1 ≠ o) →
    (wrRow row l d).rd o row' = d.rd o row'
  | [], _, _, _ => rfl
  | p :: l, d, row', h => (wrRow_rd_of_notMem row l (d.wr p.1 row p.2) row' fun q hq => h q (List.mem_cons_of_mem _ hq)).trans
      (rd_wr_obj _ _ _ _ (h p List.mem_cons_self))

theorem gunTaken_only {R : List (Nat × Nat)} {W : List Nat} {a d : Device} (h : Only R (F.guns :: F.gunSeq :: W) a d)
    (hF : F.objects ∉ W) (e code row time tag : Nat) (lateOk : Bool)
    (hR : ∀ p ∈ gunValues code row time d.gunSeq tag lateOk, (p.1, e) ∈ R) :
    Only R (F.guns :: F.gunSeq :: W) a (d.gunTaken e code row time tag lateOk) := by
  have hF' : F.objects ∉ F.guns :: F.gunSeq :: W := by
    simp only [List.mem_cons, not_or]
    exact ⟨by decide, by decide, hF⟩
  have hguns : Sub Touch.setGun (F.guns :: F.gunSeq :: W) := fun k hk => by
    rw [List.mem_singleton.1 hk]
    exact List.mem_cons_self
  have hseq : Sub Touch.setGunSeq (F.guns :: F.gunSeq :: W) := fun k hk => by
    rw [List.mem_singleton.1 hk]
    exact List.mem_cons_of_mem _ List.mem_cons_self
  exact wrRow_only hR ((h.keeps hF' (setGun_keeps hguns (Keeps.refl _ _))).keeps hF' (setGunSeq_keeps hseq (Keeps.refl _ _)))

theorem gunTaken_mode (d : Device) (e code row time tag : Nat) (lateOk : Bool) :
    (d.gunTaken e code row time tag lateOk).mode = d.mode := wrRow_mode _ _ _

theorem gunTaken_groupOf (d : Device) (e code row time tag : Nat) (lateOk : Bool) (g : Nat) :
    (d.gunTaken e code row time tag lateOk).groupOf g = d.groupOf g := wrRow_groupOf _ _ _ _

/-- Taking an entry writes no object but those of the entry. -/
theorem gunTaken_rd {o : Nat} (d : Device) (e code row time tag row' : Nat) (lateOk : Bool)
    (h : o ∉ [O.GUN_STATE, O.GUN_OWNER, O.GUN_TARGET_ROW, O.GUN_TIME, O.GUN_SEQ, O.GUN_TAG, O.GUN_TARGET_CYCLE, O.GUN_FIRED_AT,
      O.GUN_FLAGS]) : (d.gunTaken e code row time tag lateOk).rd o row' = d.rd o row' :=
  wrRow_rd_of_notMem e _ _ _ fun _ hp heq => h (heq ▸ List.mem_map_of_mem (f := Prod.fst) hp)

theorem gunTaken_values (d : Device) (e code row time tag : Nat) (lateOk : Bool) :
    (d.gunTaken e code row time tag lateOk).rd O.GUN_STATE e = 1 ∧ (d.gunTaken e code row time tag lateOk).rd O.GUN_OWNER e = code ∧
      (d.gunTaken e code row time tag lateOk).rd O.GUN_TARGET_ROW e = row ∧
      (d.gunTaken e code row time tag lateOk).rd O.GUN_TIME e = time := by
  simp [gunTaken, wrRow, gunValues, rd_wr_obj, rd_wr_self]

/-- Group `g` ARMED with entry `e`, before the announcement of the entry. -/
def groupArmed (d : Device) (g e : Nat) : Device :=
  (((d.wr O.GROUP_FLAGS g 0).setGroup g { d.groupOf g with entry := some e }).wr O.GROUP_STATE g 2).gunTaken e 1 g
    (d.rd O.GROUP_GUN_TIME g) (d.rd O.GUN_GROUP_TAG g) (d.rdB O.GROUP_LATE_OK g)

theorem commitArm_eq (d : Device) (g e : Nat) : (d.wr O.GROUP_FLAGS g 0).commitArm g e = (d.groupArmed g e).gunAnnounce 1 e := by
  unfold commitArm groupArmed rdB
  rw [gunTake_eq, groupOf_wr, rd_wr_obj _ _ _ _ (by decide), rd_wr_obj _ _ _ _ (by decide), rd_wr_obj _ _ _ _ (by decide)]

/-- The rows that arming group `g` with entry `e` writes. -/
def armedRows (g e : Nat) : List (Nat × Nat) :=
  [(O.GROUP_CMD, g), (O.GROUP_STATE, g), (O.GROUP_FLAGS, g), (O.GUN_STATE, e), (O.GUN_OWNER, e), (O.GUN_TARGET_ROW, e),
   (O.GUN_TIME, e), (O.GUN_SEQ, e), (O.GUN_TAG, e), (O.GUN_TARGET_CYCLE, e), (O.GUN_FIRED_AT, e), (O.GUN_FLAGS, e)]

theorem groupArmed_only (d : Device) (g e : Nat) : Only (armedRows g e) [F.groups, F.guns, F.gunSeq] d (d.groupArmed g e) := by
  have hflags := (Only.refl (armedRows g e) [F.groups, F.guns, F.gunSeq] d).wr (o := O.GROUP_FLAGS) (r := g) (v := 0)
    (Or.inr (by simp [armedRows]))
  have hgroup := setGroup_only hflags (by decide) g { d.groupOf g with entry := some e }
  have hstate := hgroup.wr (o := O.GROUP_STATE) (r := g) (v := 2) (Or.inr (by simp [armedRows]))
  have htaken := gunTaken_only (W := [F.groups]) (hstate.mono (fun _ he => he) (by unfold Sub; decide)) (by decide) e 1 g
    (d.rd O.GROUP_GUN_TIME g) (d.rd O.GUN_GROUP_TAG g) (d.rdB O.GROUP_LATE_OK g) (by simp [gunValues, armedRows])
  exact htaken.mono (fun _ he => he) (by unfold Sub; decide)

theorem groupArmed_mode (d : Device) (g e : Nat) : (d.groupArmed g e).mode = d.mode := by simp [groupArmed, gunTaken_mode]

theorem groupArmed_groupOf (d : Device) (g e : Nat) : (d.groupArmed g e).groupOf g = { d.groupOf g with entry := some e } := by
  simp [groupArmed, gunTaken_groupOf]

/-- What arming group `g` with entry `e` leaves. -/
theorem groupArmed_values (d : Device) (g e : Nat) :
    (d.groupArmed g e).rd O.GROUP_STATE g = 2 ∧ (d.groupArmed g e).rd O.GUN_STATE e = 1 ∧ (d.groupArmed g e).rd O.GUN_OWNER e = 1 ∧
      (d.groupArmed g e).rd O.GUN_TARGET_ROW e = g ∧ (d.groupArmed g e).rd O.GUN_TIME e = d.rd O.GROUP_GUN_TIME g := by
  unfold groupArmed
  exact ⟨by rw [gunTaken_rd _ _ _ _ _ _ _ _ (by decide), rd_wr_self], gunTaken_values _ _ _ _ _ _ _⟩

theorem groupArmed_word (d : Device) (g e : Nat) : (d.groupArmed g e).rd O.GROUP_CMD g = d.rd O.GROUP_CMD g := by
  unfold groupArmed
  rw [gunTaken_rd _ _ _ _ _ _ _ _ (by decide), rd_wr_obj _ _ _ _ (by decide), setGroup_rd, rd_wr_obj _ _ _ _ (by decide)]

theorem groupArmed_room {d : Device} (h : EventRoom d) (g e : Nat) : EventRoom (d.groupArmed g e) := by
  refine h.keeps (groupArmed_only d g e).1 ?_
  simp only [armedRows, List.map]
  decide

/-- The announcement of an entry, with room at the event session, leaves the dictionary, the groups and the mode. -/
theorem gunAnnounce_same {d : Device} (h : EventRoom d) (op e : Nat) :
    (∀ o row, o < 0x1000000 → (d.gunAnnounce op e).rd o row = d.rd o row) ∧
      (∀ g, (d.gunAnnounce op e).groupOf g = d.groupOf g) ∧ (d.gunAnnounce op e).mode = d.mode := by
  have hroom := gunAnnounce_room h op e
  refine ⟨fun o row ho => hroom.objs (by decide) o row fun hmem => ?_, fun g => groupOf_keeps hroom (by decide) g,
    hroom.fields 0 (by decide)⟩
  have hbig : ∀ k ∈ announced, 0x1000000 ≤ k := by decide
  exact absurd (hbig o hmem) (by omega)

end Device

theorem EventRoom.startCmd {d : Device} (h : EventRoom d) (g : Nat) : EventRoom (d.startCmd O.GROUP_CMD g) :=
  h.keeps (Keeps.wr (W := [O.GROUP_CMD]) (Or.inl List.mem_cons_self) (Keeps.refl _ d)) (by decide)

theorem commitAt_arms {r : Req} {g e : Nat} {s : State} (h : Asked r O.GROUP_CMD g s.dev) (hopen : s.dev.rd O.GROUP_STATE g = 1)
    (howner : s.dev.rd O.GROUP_OWNER g = r.session) (hrws : s.dev.holdsRws g = false)
    (htime : s.dev.gunPast (s.dev.rd O.GROUP_GUN_TIME g) = false ∨ s.dev.rdB O.GROUP_LATE_OK g = true)
    (hpool : s.dev.gunPool 1 = some e) (hpass : Device.commitFails ((s.dev.accept r).startCmd O.GROUP_CMD g) r g = none)
    (hroom : EventRoom s.dev) :
    ∃ t, exec (.commitAt r g) s = .next t ∧ t.dev.rd O.GROUP_STATE g = 2 ∧ (t.dev.groupOf g).entry = some e ∧
      (t.dev.groupOf g).shadow = (s.dev.groupOf g).shadow ∧
      t.dev.rd O.GUN_STATE e = 1 ∧ t.dev.rd O.GUN_OWNER e = 1 ∧ t.dev.rd O.GUN_TARGET_ROW e = g ∧
      t.dev.rd O.GUN_TIME e = s.dev.rd O.GROUP_GUN_TIME g ∧ Result O.GROUP_CMD g 0 2 s.dev t.dev ∧ Answers r 0 t.dev ∧
      Only (Device.armedRows g e) (F.groups :: F.guns :: F.gunSeq :: announced ++ asked) s.dev t.dev := by
  obtain ⟨hreset, hasked⟩ := h
  have hlate : s.dev.gunPast (s.dev.rd O.GROUP_GUN_TIME g) = true → s.dev.rdB O.GROUP_LATE_OK g = true := fun hpast =>
    htime.resolve_left (by simp [hpast])
  have hlateOk : (s.dev.accept r).rdB O.GROUP_LATE_OK g = s.dev.rdB O.GROUP_LATE_OK g := by
    unfold Device.rdB
    rw [Device.accept_rd]
  have hpool' : ((s.dev.accept r).startCmd O.GROUP_CMD g).gunPool 1 = some e := by
    rw [Device.startCmd_gunPool _ _ _ (by decide), Device.accept_gunPool, hpool]
  have htimeOf : ((s.dev.accept r).startCmd O.GROUP_CMD g).rd O.GROUP_GUN_TIME g = s.dev.rd O.GROUP_GUN_TIME g := by
    rw [Device.startCmd_rd _ _ _ (by decide), Device.accept_rd]
  have hgroupOf : ((s.dev.accept r).startCmd O.GROUP_CMD g).groupOf g = s.dev.groupOf g := by
    rw [Device.groupOf_startCmd, Device.accept_groupOf]
  have hroom' : EventRoom ((s.dev.accept r).startCmd O.GROUP_CMD g) := (hroom.accept r).startCmd g
  generalize hx : (s.dev.accept r).startCmd O.GROUP_CMD g = x at *
  have harmed : EventRoom (x.groupArmed g e) := Device.groupArmed_room hroom' g e
  obtain ⟨hrd, hgroup, hmode⟩ := Device.gunAnnounce_same harmed 1 e
  have hframe : Only (Device.armedRows g e) (F.groups :: F.guns :: F.gunSeq :: announced ++ asked) x
      ((x.groupArmed g e).gunAnnounce 1 e) :=
    ((Device.groupArmed_only x g e).mono (fun _ he => he) (by unfold Sub; decide)).keeps (by decide)
      ((Device.gunAnnounce_room harmed 1 e).mono (by unfold Sub; decide))
  obtain ⟨t, ht, hrdt, hgroupt, hresult, hans, honly⟩ := Device.groupCommand_done (f := Device.commitAtCore r g)
    (c := { Conds.none with
      s4 := [((s.dev.accept r).rd O.GROUP_STATE g != 1 || (s.dev.accept r).holdsRws g, 0xA305),
             ((s.dev.accept r).gunPast ((s.dev.accept r).rd O.GROUP_GUN_TIME g) && !(s.dev.accept r).rdB O.GROUP_LATE_OK g, 0xA306)]
      s7 := [((s.dev.accept r).notOwner r g, 0xA201), (((s.dev.accept r).gunPool 1).isNone, 0xA205)] })
    (body := fun d => match d.commitFails r g with
      | some x => (some x.2, d.commitFailed g x.1)
      | none => (some 0, (d.gunPool 1).elim d (fun e => (d.wr O.GROUP_FLAGS g 0).commitArm g e))) hreset hasked rfl rfl rfl rfl rfl
    (by simpa [hopen, Device.accept_holdsRws, hrws, Device.accept_gunPast, hlateOk] using hlate)
    (by simp [Device.notOwner, howner, Device.accept_gunPool, hpool])
    (by rw [hx, hpass, hpool', Option.elim_some, Device.commitArm_eq]) (hx ▸ hframe)
    (by rw [hx, hrd _ _ (by decide), Device.groupArmed_word]) (by rw [hx, hmode, Device.groupArmed_mode])
    (by simp [Device.armedRows])
    (by unfold Sub; decide) (by decide)
  obtain ⟨hstate, hgun, howns, hrow, htarget⟩ := Device.groupArmed_values x g e
  rw [hx] at hrdt hgroupt
  refine ⟨t, ht, ?_, ?_, ?_, ?_, ?_, ?_, ?_, hresult, hans, honly⟩
  · rw [hrdt _ _ (by decide) (by decide), hrd _ _ (by decide), hstate]
  · rw [hgroupt, hgroup, Device.groupArmed_groupOf]
  · rw [hgroupt, hgroup, Device.groupArmed_groupOf, hgroupOf]
  · rw [hrdt _ _ (by decide) (by decide), hrd _ _ (by decide), hgun]
  · rw [hrdt _ _ (by decide) (by decide), hrd _ _ (by decide), howns]
  · rw [hrdt _ _ (by decide) (by decide), hrd _ _ (by decide), hrow]
  · rw [hrdt _ _ (by decide) (by decide), hrd _ _ (by decide), htarget, htimeOf]

/-! #### CANCEL -/

namespace Device

/-- Group `g` CANCELLED, whose entry `e` has not been issued, before the announcement of the entry. -/
theorem groupCancelled_eq {d : Device} {g e : Nat} (hentry : (d.groupOf g).entry = some e) (hstate : d.rd O.GUN_STATE e = 1) :
    d.groupCancelled g = ((((d.wr O.GUN_STATE e 4).gunAnnounce 3 e).wr O.GUN_OWNER e 0).setGroup g
      { ((d.wr O.GUN_STATE e 4).gunAnnounce 3 e).groupOf g with entry := none }).wr O.GROUP_STATE g 5 := by
  have hstops : d.gunStops e = true := by simp [gunStops, gunLive, gunDue, hstate]
  have hdrop : d.gunDrop e = d.wr O.GUN_STATE e 4 := by simp [gunDrop, hstate]
  unfold groupCancelled
  rw [hentry]
  dsimp only
  unfold gunCancel gunCancelNow gunFree
  rw [if_pos hstops, hdrop, groupOf_wr]

end Device

theorem groupCancel_cancels {r : Req} {g e : Nat} {s : State} (h : AskedFree r O.GROUP_CMD g s.dev)
    (harmed : s.dev.rd O.GROUP_STATE g = 2)
    (howner : s.dev.rd O.GROUP_OWNER g = r.session) (hentry : (s.dev.groupOf g).entry = some e) (hgun : s.dev.rd O.GUN_STATE e = 1)
    (hroom : EventRoom s.dev) :
    ∃ t, exec (.groupCancel r g) s = .next t ∧ t.dev.rd O.GROUP_STATE g = 5 ∧ (t.dev.groupOf g).entry = none ∧
      t.dev.rd O.GUN_STATE e = 4 ∧ t.dev.rd O.GUN_OWNER e = 0 ∧ Result O.GROUP_CMD g 0 2 s.dev t.dev ∧ Answers r 0 t.dev ∧
      Only [(O.GROUP_CMD, g), (O.GROUP_STATE, g), (O.GUN_STATE, e), (O.GUN_OWNER, e)] (F.groups :: announced ++ asked)
        s.dev t.dev := by
  obtain ⟨hreset, hasked⟩ := h
  have hmay : (s.dev.accept r).mayRelease r g = true := Device.mayRelease_owner (by rw [Device.accept_rd, howner])
  have hentry' : ((s.dev.accept r).groupOf g).entry = some e := by rw [Device.accept_groupOf, hentry]
  have hcancelled := Device.groupCancelled_eq (d := (s.dev.accept r).startCmd O.GROUP_CMD g) (g := g) (e := e)
    (by rw [Device.groupOf_startCmd, hentry']) (by rw [Device.startCmd_rd _ _ _ (by decide), Device.accept_rd, hgun])
  have hroom' : EventRoom ((s.dev.accept r).startCmd O.GROUP_CMD g) := (hroom.accept r).startCmd g
  generalize hx : (s.dev.accept r).startCmd O.GROUP_CMD g = x at *
  have hdropped : EventRoom (x.wr O.GUN_STATE e 4) :=
    hroom'.keeps (Keeps.wr (W := [O.GUN_STATE]) (Or.inl List.mem_cons_self) (Keeps.refl _ x)) (by decide)
  obtain ⟨hrd, hgroup, hmode⟩ := Device.gunAnnounce_same hdropped 3 e
  have hword := (hrd O.GROUP_CMD g (by decide)).trans (Device.rd_wr_obj _ _ _ _ (by decide))
  have hstate := (hrd O.GUN_STATE e (by decide)).trans (Device.rd_wr_self _ _ _ _)
  have hannounce := Device.gunAnnounce_room hdropped 3 e
  generalize hz : (x.wr O.GUN_STATE e 4).gunAnnounce 3 e = z at *
  have hdrop : Only [(O.GROUP_CMD, g), (O.GROUP_STATE, g), (O.GUN_STATE, e), (O.GUN_OWNER, e)] (F.groups :: announced ++ asked) x z :=
    ((Only.refl _ _ x).wr (Or.inr (by simp))).keeps (by decide) (hannounce.mono (by unfold Sub; decide))
  have hfreed := hdrop.wr (o := O.GUN_OWNER) (r := e) (v := 0) (Or.inr (by simp))
  have hframe := (Device.setGroup_only (W := announced ++ asked) hfreed (by decide) g { z.groupOf g with entry := none }).wr
    (o := O.GROUP_STATE) (r := g) (v := 5) (Or.inr (by simp))
  obtain ⟨t, ht, hrdt, hgroupt, hresult, hans, honly⟩ := Device.groupCommand_done (f := Device.groupCancelCore r g)
    (c := { Conds.none with
      s4 := [((s.dev.accept r).rd O.GROUP_STATE g == 2 && (s.dev.accept r).groupIssued g, 0xA303),
             ((s.dev.accept r).rd O.GROUP_STATE g != 2, 0xA305)]
      s7 := [((s.dev.accept r).notOwner r g, 0xA201)], exempt := (s.dev.accept r).mayRelease r g })
    (body := fun d => (some 0, d.groupCancelled g)) hreset hasked rfl hmay rfl rfl rfl
    (by simp [harmed, Device.groupIssued, hentry', hgun]) (by simp [Device.notOwner, howner]) (by rw [hx, hcancelled]) (hx ▸ hframe)
    (by rw [hx]; simp [Device.rd_wr_obj, hword]) (by rw [hx]; simp [hmode]) (by simp) (by unfold Sub; decide) (by decide)
  refine ⟨t, ht, ?_, ?_, ?_, ?_, hresult, hans, honly⟩
  · rw [hrdt _ _ (by decide) (by decide), Device.rd_wr_self]
  · rw [hgroupt, Device.groupOf_wr, Device.groupOf_setGroup_self]
  · rw [hrdt _ _ (by decide) (by decide)]
    simp [Device.rd_wr_obj, hstate]
  · rw [hrdt _ _ (by decide) (by decide)]
    simp [Device.rd_wr_obj, Device.rd_wr_self]

/-- Settles O11: each command's own conditions are off, and its body writes the group and its entry. -/
theorem groupCommandsMoveTheGroup : Obligations.GroupCommandsMoveTheGroup := by
  unfold Obligations.GroupCommandsMoveTheGroup
  exact ⟨fun r g s => groupOpen_opens, fun r g s => commitNow_applies, fun r g s e => commitAt_arms,
    fun r g s e => groupCancel_cancels, fun r g s => groupRelease_idles⟩

end Sys2Proof.Machine
end

section
/-!
PROOF. The family 03_holloth_ring_and_host_port: what character lock and idle sets show of the upstream place.
-/
set_option Elab.async false
namespace Sys2Proof.Machine

/-! ### Character lock and idle sets (R52, R57) -/

/-- RING_UPSTREAM_PRESENT while the lock holds: nothing expected, the place expected, another place (R57). -/
def placeSeen (seen expected : Nat) : Nat := if expected = 0 then 0 else if seen = expected then 1 else 2

namespace Device

@[simp] theorem refreshSel_ring (d : Device) : d.refreshSel.ring = d.ring := by unfold refreshSel; split <;> rfl
@[simp] theorem refreshSel_pins (d : Device) : d.refreshSel.pins = d.pins := by unfold refreshSel; split <;> rfl

theorem refreshSel_rd (d : Device) {o : Nat} (row : Nat) (h : o ≠ O.TIME_UPSTREAM_SEL) : d.refreshSel.rd o row = d.rd o row := by
  unfold refreshSel
  split
  · rfl
  · exact rd_wr_obj _ _ _ _ (Ne.symm h)

theorem refreshSel_rd_sel (d : Device) : d.refreshSel.rd O.TIME_UPSTREAM_SEL = d.selNow := by
  unfold refreshSel
  split
  · assumption
  · exact rd_wr_self _ _ _ _

theorem refreshSel_only {R : List (Nat × Nat)} {W : List Nat} (d : Device) (hR : (O.TIME_UPSTREAM_SEL, 0) ∈ R) (hW : F.time ∈ W)
    (hF : F.objects ∉ W) : Only R W d d.refreshSel := by
  unfold refreshSel
  split
  · exact Only.refl _ _ _
  · exact ((Only.refl R W d).wr (Or.inr hR)).keeps hF
      (setTime_keeps (by intro k hk; rw [List.mem_singleton.1 hk]; exact hW) (Keeps.refl _ _))

@[simp] theorem refreshUpstream_ring (d : Device) : d.refreshUpstream.ring = d.ring := refreshSel_ring _

theorem refreshUpstream_rd (d : Device) {o : Nat} (row : Nat) (hp : o ≠ O.RING_UPSTREAM_PRESENT) (hs : o ≠ O.TIME_UPSTREAM_SEL) :
    d.refreshUpstream.rd o row = d.rd o row := by
  unfold refreshUpstream
  rw [refreshSel_rd _ _ hs, rd_wr_obj _ _ _ _ (Ne.symm hp)]

theorem refreshUpstream_present_locked {d : Device} (h : d.rd O.RING_SYNC ≠ 0) :
    d.refreshUpstream.rd O.RING_UPSTREAM_PRESENT = placeSeen (d.rd O.RING_UPSTREAM_SEEN) (d.rd O.RING_UPSTREAM_EXPECTED) := by
  unfold refreshUpstream placeSeen
  rw [refreshSel_rd _ _ (by decide), rd_wr_self]
  simp [rdB, h]

theorem refreshUpstream_present_lost {d : Device} (h : d.rd O.RING_SYNC = 0) :
    d.refreshUpstream.rd O.RING_UPSTREAM_PRESENT = 0 := by
  unfold refreshUpstream
  rw [refreshSel_rd _ _ (by decide), rd_wr_self]
  simp [rdB, h]

/-- Without the lock no delay is selected (R131). -/
theorem refreshUpstream_sel_lost {d : Device} (h : d.rd O.RING_SYNC = 0) : d.refreshUpstream.rd O.TIME_UPSTREAM_SEL = 0 := by
  unfold refreshUpstream
  rw [refreshSel_rd_sel]
  unfold selNow
  rw [if_pos]
  simp [rdB, rd_wr_obj, h, show O.RING_UPSTREAM_PRESENT ≠ O.RING_SYNC by decide]

theorem refreshUpstream_only {R : List (Nat × Nat)} {W : List Nat} (d : Device) (hp : (O.RING_UPSTREAM_PRESENT, 0) ∈ R)
    (hs : (O.TIME_UPSTREAM_SEL, 0) ∈ R) (hW : F.time ∈ W) (hF : F.objects ∉ W) : Only R W d d.refreshUpstream :=
  ((Only.refl R W d).wr (Or.inr hp)).trans (refreshSel_only _ hs hW hF)

/-! #### What an idle set tells -/

theorem takeIdleSet_ring (d : Device) (place status : Byte) :
    (d.takeIdleSet place status).ring = { d.ring with upStatus := status.toNat, buffered := d.drained } :=
  refreshUpstream_ring _

theorem takeIdleSet_seen (d : Device) (place status : Byte) :
    (d.takeIdleSet place status).rd O.RING_UPSTREAM_SEEN = place.toNat := by
  unfold takeIdleSet
  rw [refreshUpstream_rd _ _ (by decide) (by decide), rd_wr_self]

theorem takeIdleSet_sync (d : Device) (place status : Byte) : (d.takeIdleSet place status).rd O.RING_SYNC = d.rd O.RING_SYNC := by
  unfold takeIdleSet
  rw [refreshUpstream_rd _ _ (by decide) (by decide), rd_wr_obj _ _ _ _ (by decide), setRing_rd]

theorem takeIdleSet_present {d : Device} (h : d.rd O.RING_SYNC ≠ 0) (place status : Byte) :
    (d.takeIdleSet place status).rd O.RING_UPSTREAM_PRESENT = placeSeen place.toNat (d.rd O.RING_UPSTREAM_EXPECTED) := by
  unfold takeIdleSet
  rw [refreshUpstream_present_locked (by rw [rd_wr_obj _ _ _ _ (by decide)]; exact h), rd_wr_self, rd_wr_obj _ _ _ _ (by decide),
    setRing_rd]

theorem takeIdleSet_only (d : Device) (place status : Byte) {R : List (Nat × Nat)} (hseen : (O.RING_UPSTREAM_SEEN, 0) ∈ R)
    (hp : (O.RING_UPSTREAM_PRESENT, 0) ∈ R) (hs : (O.TIME_UPSTREAM_SEL, 0) ∈ R) :
    Only R [F.ring, F.time] d (d.takeIdleSet place status) := by
  have hring : Only R [F.ring, F.time] d (d.setRing { d.ring with upStatus := status.toNat, buffered := d.drained }) :=
    (Only.refl _ _ d).keeps (by decide) (setRing_keeps (by unfold Sub; decide) (Keeps.refl _ _))
  exact (hring.wr (Or.inr hseen)).trans (refreshUpstream_only _ hp hs (by decide) (by decide))

theorem setRingHold_inRing (d : Device) (l : Option Bool) : (d.setRingHold l).inRing = (l == some true) := rfl

end Device

/-- Settles O13: lock, idle set and loss each end with the presence and the delay selection taken anew. -/
theorem ringLockFollowsTheLine : Obligations.RingLockFollowsTheLine := by
  unfold Obligations.RingLockFollowsTheLine
  refine ⟨?lock, ?idle, ?loss⟩
  case lock =>
    intro place status s hclock hsync
    obtain ⟨locked, hdef⟩ : ∃ x, x = (s.dev.setRing { s.dev.ring with lockedSince := s.dev.cyc }).wr O.RING_SYNC 0 1 := ⟨_, rfl⟩
    have hlocked : locked.rd O.RING_SYNC = 1 := hdef ▸ Device.rd_wr_self _ _ _ _
    have hexpected : locked.rd O.RING_UPSTREAM_EXPECTED = s.dev.rd O.RING_UPSTREAM_EXPECTED :=
      hdef ▸ Device.rd_wr_obj _ _ _ _ (by decide)
    have hring : locked.ring = { s.dev.ring with lockedSince := s.dev.cyc } := hdef ▸ rfl
    have heq : s.dev.ringCharacterLock place status = locked.takeIdleSet place status :=
      hdef ▸ if_neg (by simp [hclock, Device.rdB, hsync])
    refine ⟨{ s with dev := s.dev.ringCharacterLock place status }, rfl, ?_⟩
    rw [heq]
    refine ⟨(Device.takeIdleSet_sync _ _ _).trans hlocked, Device.takeIdleSet_seen _ _ _, ?_, ?_, ?_, ?_⟩
    · rw [Device.takeIdleSet_ring]
    · rw [Device.takeIdleSet_ring, hring]
    · rw [Device.takeIdleSet_present (by rw [hlocked]; decide), hexpected]; rfl
    · have hset : Only [(O.RING_SYNC, 0), (O.RING_UPSTREAM_SEEN, 0), (O.RING_UPSTREAM_PRESENT, 0), (O.TIME_UPSTREAM_SEL, 0)]
          [F.ring, F.time] s.dev locked := hdef ▸
        ((Only.refl _ _ _).keeps (by decide) (Device.setRing_keeps (by unfold Sub; decide) (Keeps.refl _ _))).wr (Or.inr (by simp))
      exact hset.trans (Device.takeIdleSet_only _ _ _ (by simp) (by simp) (by simp))
  case idle =>
    intro position place status s hsync
    have heq : s.dev.ringIdleSetRx position place status = s.dev.takeIdleSet place status :=
      if_pos (by simpa [Device.rdB] using hsync)
    refine ⟨{ s with dev := s.dev.ringIdleSetRx position place status }, rfl, ?_⟩
    rw [heq]
    exact ⟨Device.takeIdleSet_seen _ _ _, Device.takeIdleSet_ring _ _ _, Device.takeIdleSet_present hsync _ _,
      Device.takeIdleSet_only _ _ _ (by simp) (by simp) (by simp)⟩
  case loss =>
    intro s hsync
    have heq : s.dev.ringLockLoss = if (s.dev.wr O.RING_SYNC 0 0).refreshUpstream.inRing
        then (s.dev.wr O.RING_SYNC 0 0).refreshUpstream.setRingHold (some false) else (s.dev.wr O.RING_SYNC 0 0).refreshUpstream :=
      if_neg (by simpa [Device.rdB] using hsync)
    have hzero : (s.dev.wr O.RING_SYNC 0 0).rd O.RING_SYNC = 0 := Device.rd_wr_self _ _ _ _
    have hlostOnly : Only [(O.RING_SYNC, 0), (O.RING_UPSTREAM_PRESENT, 0), (O.TIME_UPSTREAM_SEL, 0)] [F.out, F.pins, F.time]
        s.dev (s.dev.wr O.RING_SYNC 0 0).refreshUpstream :=
      ((Only.refl _ _ _).wr (Or.inr (by simp))).trans
        (Device.refreshUpstream_only _ (by simp) (by simp) (by decide) (by decide))
    have hs := (Device.refreshUpstream_rd (o := O.RING_SYNC) _ 0 (by decide) (by decide)).trans hzero
    have hp := Device.refreshUpstream_present_lost hzero
    have hsel := Device.refreshUpstream_sel_lost hzero
    refine ⟨{ s with dev := s.dev.ringLockLoss }, rfl, ?_⟩
    rw [heq]
    generalize (s.dev.wr O.RING_SYNC 0 0).refreshUpstream = lost at *
    by_cases hin : lost.inRing = true
    · rw [if_pos hin]
      exact ⟨hs, hp, Device.setRingHold_inRing _ _, hsel, hlostOnly.keeps (by decide) (Device.setRingHold_keeps (by unfold Sub; decide) (Keeps.refl _ _))⟩
    · rw [if_neg hin]
      exact ⟨hs, hp, by simpa using hin, hsel, hlostOnly⟩

end Sys2Proof.Machine
end

section
/-!
PROOF. The family 03_holloth_ring_and_host_port: an ADDRESS broadcast that is longer than a message may be.
-/
set_option Elab.async false
namespace Sys2Proof.Machine

/-! ### A message that fails the checks of R59 gives no position -/

theorem ringSealCrc_crc (m : RingMsg) : (ringSealCrc m).crc = crc32 (ringCovered (ringSealCrc m)) := rfl

/-- A device in RUN that is in the ring and has no position yet. -/
def inRingUnaddressed : State :=
  ⟨{ Device.fresh .isf3232 with mode := .run, clockOn := true, pins := { (Device.fresh .isf3232).pins with ringHold := some true } }, []⟩

/-- An ADDRESS broadcast of the position 0 whose CRC is right and whose payload has 1,025 bytes, one more than R58 allows. -/
def longAddress : RingMsg := ringSealCrc
  { dst := 0xFF, src := 0xFE, type := 1, flags := 0, session := 0, counter := 0, reserved := 0,
    payload := List.replicate 1025 0#8, tag := 0, crc := 0 }

theorem longAddress_crc : longAddress.crc = crc32 (ringCovered longAddress) := ringSealCrc_crc _

theorem longAddress_length : longAddress.payload.length = 1025 := List.length_replicate

namespace Device

@[simp] theorem bufferDuring_rd (d : Device) (m : RingMsg) (o row : Nat) : (d.bufferDuring m).rd o row = d.rd o row := by
  unfold bufferDuring
  split <;> rfl

@[simp] theorem forward_rd (d : Device) (m : RingMsg) (o row : Nat) : (d.forward m).rd o row = d.rd o row := bufferDuring_rd _ _ _ _

/-- An ADDRESS broadcast that is too long is counted and goes on: the position stays as it was. -/
theorem ringArrive_long_address {d : Device} {m : RingMsg} (hin : d.inRing = true) (ht : m.type = 1) (hdst : m.dst = 0xFF)
    (hcrc : m.crc = crc32 (ringCovered m)) (hlong : 1024 < m.payload.length) :
    (d.ringArrive m).rd O.RING_POSITION = d.rd O.RING_POSITION := by
  have haccept : d.ringAccept m = (false, d.inc64 O.RING_BAD_MESSAGES) := by
    unfold ringAccept
    rw [if_neg (not_not.2 hcrc), if_pos (Or.inr hlong)]
  unfold ringArrive
  rw [if_neg (not_not.2 hin), if_pos ⟨ht, hdst⟩, haccept]
  show ((d.inc64 O.RING_BAD_MESSAGES).forward m).rd O.RING_POSITION = _
  rw [forward_rd]
  exact rd_wr_obj _ _ _ _ (by decide)

end Device

theorem dev_of_address {m : RingMsg} {s t : State} (h : exec (.address m) s = .next t) : t.dev = s.dev.ringArrive m :=
  (congrArg State.dev (Host.Outcome.next.inj h)).symm

/-- Refutes O14: its last clause has every ADDRESS broadcast with a right CRC give the position, and does not bound the payload. One of
more than 1,024 bytes fails the checks of R59: it is counted in RING_BAD_MESSAGES and gives no position. -/
theorem not_ringMessagesGoOn : ¬ Obligations.RingMessagesGoOn := by
  unfold Obligations.RingMessagesGoOn
  rintro ⟨-, -, -, addressed⟩
  have hin : inRingUnaddressed.dev.inRing = true := rfl
  obtain ⟨t, ht, hposition, -⟩ := addressed longAddress inRingUnaddressed hin rfl rfl longAddress_crc (by decide)
  rw [dev_of_address ht, Device.ringArrive_long_address hin rfl rfl longAddress_crc (by rw [longAddress_length]; decide)] at hposition
  exact absurd hposition (by decide +kernel)

end Sys2Proof.Machine
end

section
/-!
PROOF. The family 03_holloth_ring_and_host_port: how the device enters the ring, and sends its own messages.
-/
set_option Elab.async false
namespace Sys2Proof.Machine

/-! ### RING_HOLD, JOIN and insertion (R53 to R55) -/

namespace Device

theorem passTo_keeps_all (d : Device) (c : Nat) : Keeps Touch.passTo d (d.passTo c) := passTo_keeps (fun _ h => h) (Keeps.refl _ _)

theorem passTo_ring (d : Device) (c : Nat) : (d.passTo c).ring = d.ring := (passTo_keeps_all d c).fields 14 (by decide)
theorem passTo_otp (d : Device) (c : Nat) : (d.passTo c).otp = d.otp := (passTo_keeps_all d c).fields 48 (by decide)

theorem passTo_rd (d : Device) (c : Nat) {o : Nat} (row : Nat) (h : o ∉ Touch.passTo) : (d.passTo c).rd o row = d.rd o row :=
  (passTo_keeps_all d c).objs (by decide) o row h

/-- Where `W` allows what the passing of time changes, time passes. -/
theorem passTo_only {W : List Nat} (d : Device) (c : Nat) (R : List (Nat × Nat)) (hW : Sub passing W) (hF : F.objects ∉ W) :
    Only R W d (d.passTo c) :=
  (Only.refl R W d).keeps hF ((passTo_keeps_all d c).mono fun k hk => hW k (by revert hk; revert k; decide))

theorem otpWords_congr {a b : Device} (h : b.otp = a.otp) : ∀ n w, b.otpWords w n = a.otpWords w n
  | 0, _ => rfl
  | n + 1, w => by rw [otpWords, otpWords, otpWords_congr h n, otpWord, otpWord, h]

theorem serial_congr {a b : Device} (h : b.otp = a.otp) : b.serial = a.serial := by
  unfold serial otpBits
  rw [otpWords_congr h]

/-- The JOIN message (R55). -/
def joinMsg (d : Device) : RingMsg := ringSealCrc
  { dst := 0, src := d.rd O.RING_POSITION, type := 9, flags := 0, session := 0, counter := 0,
    reserved := 0, payload := leBytes 16 d.serial, tag := 0, crc := 0 }

theorem emit_getLast (d : Device) (o : Out) : (d.emit o).out.getLast? = some o := List.getLast?_concat

end Device

/-- Settles O15: each of the three is a wait and what follows it. -/
theorem ringJoinsAndSends : Obligations.RingJoinsAndSends := by
  unfold Obligations.RingJoinsAndSends
  refine ⟨?hold, ?join, ?insert⟩
  case hold =>
    intro s hserving hready hsync hout hclock
    have heq : s.dev.ringHoldAssert =
        ((s.dev.passTo (max s.dev.ring.lockedSince s.dev.ring.idleSince + usCycles 10)).setRing
          { (s.dev.passTo (max s.dev.ring.lockedSince s.dev.ring.idleSince + usCycles 10)).ring with
            holdSince := (s.dev.passTo (max s.dev.ring.lockedSince s.dev.ring.idleSince + usCycles 10)).cyc, joined := false }
          ).setRingHold (some true) :=
      if_neg (by simp [hserving, hready, Device.rdB, hsync, hout])
    refine ⟨{ s with dev := s.dev.ringHoldAssert }, rfl, ?_⟩
    have hcyc := Device.passTo_cyc hclock (max s.dev.ring.lockedSince s.dev.ring.idleSince + usCycles 10)
    have honly := Device.passTo_only s.dev (max s.dev.ring.lockedSince s.dev.ring.idleSince + usCycles 10) []
      (W := F.ring :: F.pins :: passing) (by unfold Sub; decide) (by decide)
    rw [heq]
    generalize s.dev.passTo (max s.dev.ring.lockedSince s.dev.ring.idleSince + usCycles 10) = d at *
    exact ⟨rfl, rfl, hcyc, rfl, Device.emit_getLast _ _, (honly.keeps (by decide)
      (Device.setRing_keeps (by unfold Sub; decide) (Keeps.refl _ _))).keeps (by decide)
        (Device.setRingHold_keeps (by unfold Sub; decide) (Keeps.refl _ _))⟩
  case join =>
    intro s hin hjoined hclock
    have heq : s.dev.join =
        ((s.dev.passTo (s.dev.ring.holdSince + usCycles 10)).setRing
          { (s.dev.passTo (s.dev.ring.holdSince + usCycles 10)).ring with joined := true }).ringSend
            (s.dev.passTo (s.dev.ring.holdSince + usCycles 10)).joinMsg :=
      if_neg (by simp [hin, hjoined])
    refine ⟨{ s with dev := s.dev.join }, (s.dev.passTo (s.dev.ring.holdSince + usCycles 10)).joinMsg, rfl, ?_⟩
    have hcyc := Device.passTo_cyc hclock (s.dev.ring.holdSince + usCycles 10)
    have hring := Device.passTo_ring s.dev (s.dev.ring.holdSince + usCycles 10)
    have hposition : (s.dev.passTo (s.dev.ring.holdSince + usCycles 10)).rd O.RING_POSITION = s.dev.rd O.RING_POSITION :=
      Device.passTo_rd _ _ _ (by decide)
    have hserial := Device.serial_congr (Device.passTo_otp s.dev (s.dev.ring.holdSince + usCycles 10))
    have honly := Device.passTo_only s.dev (s.dev.ring.holdSince + usCycles 10) []
      (W := F.ring :: passing) (by unfold Sub; decide) (by decide)
    rw [heq]
    generalize s.dev.passTo (s.dev.ring.holdSince + usCycles 10) = d at *
    exact ⟨rfl, by rw [← hring]; rfl, rfl, rfl, hposition, congrArg (leBytes 16) hserial, rfl, hcyc,
      (honly.keeps (by decide) (Device.setRing_keeps (by unfold Sub; decide) (Keeps.refl _ _))).keeps (by decide)
        (Device.ringSend_keeps (by unfold Sub; decide) (Keeps.refl _ _))⟩
  case insert =>
    intro m q s hq hin hsync hempty hclock
    have heq : s.dev.ringMessageInsert = ((s.dev.passTo s.dev.ring.insertUntil).setRing
        { (s.dev.passTo s.dev.ring.insertUntil).ring with
          insertQ := q, insertUntil := (s.dev.passTo s.dev.ring.insertUntil).cyc + 40 * ringChars m }).emit (.ringMsg m) := by
      unfold Device.ringMessageInsert
      rw [hq]
      exact if_neg (by simp [hin, Device.rdB, hsync, hempty])
    refine ⟨{ s with dev := s.dev.ringMessageInsert }, rfl, ?_⟩
    have hcyc := Device.passTo_cyc hclock s.dev.ring.insertUntil
    have honly := Device.passTo_only s.dev s.dev.ring.insertUntil [] (W := F.ring :: passing) (by unfold Sub; decide) (by decide)
    rw [heq]
    generalize s.dev.passTo s.dev.ring.insertUntil = d at *
    exact ⟨rfl, Device.emit_getLast _ _, hcyc, rfl, (honly.keeps (by decide)
      (Device.setRing_keeps (by unfold Sub; decide) (Keeps.refl _ _))).keeps (by decide)
        (Device.emit_keeps (by unfold Sub; decide) (Keeps.refl _ _))⟩

end Sys2Proof.Machine
end

section
/-!
PROOF. The family 03_holloth_ring_and_host_port: the TAP instructions, the value buffer and STATUS of the debug port.
-/
set_option Elab.async false
namespace Sys2Proof.Machine

/-! ### JTAG and the value buffer (R76, R77) -/

namespace Device

/-- Storing from place `o` on is storing from 0 on, with the places counted from `o`. -/
theorem foldl_natPut_shift (o : Nat) : ∀ (v : Bytes) (k : Nat) (l : List (Nat × Nat)),
    (v.zipIdx k).foldl (fun l e => natPut l (o + e.2) e.1.toNat) l =
      (v.zipIdx (o + k)).foldl (fun l e => natPut l (0 + e.2) e.1.toNat) l
  | [], _, _ => rfl
  | b :: v, k, l => by
    rw [List.zipIdx_cons, List.zipIdx_cons, List.foldl_cons, List.foldl_cons, foldl_natPut_shift o v (k + 1)]
    simp only [Nat.zero_add, Nat.add_assoc]

theorem natAt_dapStore (d : Device) (o : Nat) (v : Bytes) (i : Nat) :
    natAt (d.dapStore o v).jtag.buf i = if h : o ≤ i ∧ i < o + v.length then (v[i - o]'(by omega)).toNat else natAt d.jtag.buf i := by
  show natAt (v.zipIdx.foldl (fun l e => natPut l (o + e.2) e.1.toNat) d.jtag.buf) i = _
  rw [foldl_natPut_shift, natAt_store]
  rfl

theorem dapBytes_dapStore_at (d : Device) (o : Nat) (v : Bytes) : (d.dapStore o v).dapBytes o v.length = v := by
  refine List.ext_getElem (by simp [dapBytes]) fun i hi hv => ?_
  have hat : natAt (d.dapStore o v).jtag.buf (o + i) = v[i].toNat := by
    rw [natAt_dapStore, dif_pos (by omega)]
    congr 2
    omega
  simp [dapBytes, hat]

theorem dapScan_only (d : Device) (v : Nat) : Only [] [F.jtag, F.out] d (d.dapScan v) :=
  (Only.refl _ _ d).keeps (by decide) (dapScan_keeps (by unfold Sub; decide) (Keeps.refl _ _))

theorem chainCapture_setTap_only (d : Device) (tap : Tap) (c : Nat) :
    Only [] [F.jtag, F.out, F.draws] d ((d.setTap tap).chainCapture c) :=
  (Only.refl _ _ d).keeps (by decide)
    (chainCapture_keeps (by unfold Sub; decide) (setTap_keeps (by unfold Sub; decide) (Keeps.refl _ _)))

end Device

/-- Settles O23: each instruction sets the TAP or scans the register of DAP_ACCESS, and VALUE_IN stores its four bytes after that. -/
theorem jtagShiftsAndKeepsItsBuffer : Obligations.JtagShiftsAndKeepsItsBuffer := by
  unfold Obligations.JtagShiftsAndKeepsItsBuffer
  refine ⟨?bypass, ?idcode, ?sample, ?extest, ?valueIn, ?valueInBad, ?valueOut, ?valueOutBad, ?status⟩
  case bypass =>
    exact fun s => ⟨_, rfl, rfl, (Only.refl _ _ _).keeps (by decide) (Device.bypass_keeps (by unfold Sub; decide) (Keeps.refl _ _))⟩
  case idcode =>
    exact fun s => ⟨_, rfl, rfl, rfl, (Only.refl _ _ _).keeps (by decide)
      (Device.idcode_keeps (by unfold Sub; decide) (Keeps.refl _ _))⟩
  case sample =>
    exact fun c s => ⟨_, rfl, rfl, Device.chainCapture_setTap_only _ _ _⟩
  case extest =>
    refine fun c s => ⟨fun hreset => ?_, fun hother => ?_⟩
    · have heq : s.dev.extest c = ((s.dev.setTap .extest).chainCapture c).emit (.boundary c) := if_pos hreset
      refine ⟨{ s with dev := s.dev.extest c }, rfl, ?_⟩
      rw [heq]
      exact ⟨rfl, Device.emit_getLast _ _, (Device.chainCapture_setTap_only _ _ _).keeps (by decide)
        (Device.emit_keeps (by unfold Sub; decide) (Keeps.refl _ _))⟩
    · exact congrArg (fun d => Host.Outcome.next { s with dev := d }) (if_neg hother : s.dev.extest c = s.dev.bypass)
  case valueIn =>
    intro o v s hmode hok
    have heq : s.dev.valueIn o v = (s.dev.dapScan (Device.dapWord 0 v 3 o)).dapStore o (leBytes 4 v) := by
      unfold Device.valueIn
      rw [if_neg hmode]
      exact if_pos hok
    refine ⟨{ s with dev := s.dev.valueIn o v }, rfl, ?_⟩
    rw [heq]
    refine ⟨?_, fun i hi => ?_, rfl, rfl, (Device.dapScan_only _ _).keeps (by decide)
      (Device.dapStore_keeps (by unfold Sub; decide) (Keeps.refl _ _))⟩
    · have hbytes := Device.dapBytes_dapStore_at (s.dev.dapScan (Device.dapWord 0 v 3 o)) o (leBytes 4 v)
      rwa [leBytes_length] at hbytes
    · rw [Device.natAt_dapStore, dif_neg (by rw [leBytes_length]; omega)]
      rfl
  case valueInBad =>
    intro o v s hmode hbad
    have heq : s.dev.valueIn o v = (s.dev.dapScan (Device.dapWord 0 v 3 o)).setDapAbort 0xA101 := by
      unfold Device.valueIn
      rw [if_neg hmode]
      exact if_neg (by rw [hbad]; decide)
    refine ⟨{ s with dev := s.dev.valueIn o v }, rfl, ?_⟩
    rw [heq]
    exact ⟨rfl, rfl, (Device.dapScan_only _ _).keeps (by decide) (Device.setDapAbort_keeps (by unfold Sub; decide) (Keeps.refl _ _))⟩
  case valueOut =>
    intro o s hmode hok
    have heq : s.dev.valueOut o = s.dev.dapScan (Device.dapWord 0 (leNat (s.dev.dapBytes o 4)) 4 o) := by
      unfold Device.valueOut
      rw [if_neg hmode, if_pos hok]
    refine ⟨{ s with dev := s.dev.valueOut o }, rfl, ?_⟩
    rw [heq]
    exact ⟨rfl, rfl, rfl, Device.dapScan_only _ _⟩
  case valueOutBad =>
    intro o s hmode hbad
    have heq : s.dev.valueOut o = (s.dev.dapScan (Device.dapWord 0 0 4 o)).setDapAbort 0xA101 := by
      unfold Device.valueOut
      rw [if_neg hmode, if_neg (by rw [hbad]; decide)]
    refine ⟨{ s with dev := s.dev.valueOut o }, rfl, ?_⟩
    rw [heq]
    exact ⟨rfl, rfl, (Device.dapScan_only _ _).keeps (by decide) (Device.setDapAbort_keeps (by unfold Sub; decide) (Keeps.refl _ _))⟩
  case status =>
    intro s hmode
    have heq : s.dev.dapStatus = s.dev.dapScan (if s.dev.mode = .boot then 0xA303 else s.dev.jtag.abort) := if_neg hmode
    refine ⟨{ s with dev := s.dev.dapStatus }, rfl, ?_⟩
    rw [heq]
    exact ⟨rfl, rfl, Device.dapScan_only _ _⟩

end Sys2Proof.Machine
end

section
/-!
PROOF. The family 03_holloth_ring_and_host_port: what dmaTold descriptors changes of a DMA ring, and of the rings beside it.
-/
set_option Elab.async false
namespace Sys2Proof.Machine

/-! ### DMA rings (R73, R74) -/

/-- What a completion changes besides the counts of its ring. -/
def dmaTold : List Nat := [O.PMC_VALUE, O.PMC_STATUS, F.pmc, F.out, F.pcieDma, F.pciePending]

/-- The counter of a ring that a completion with status `status` counts in (R73). -/
def completionCount (status : Nat) : Nat := if status = 0 then O.RING_COMPLETED else O.RING_REJECTED

namespace Device

@[simp] theorem dmaOf_setDma_self (d : Device) (n : Nat) (x : DmaX) : (d.setDma n x).dmaOf n = x := Sparse.get_put_self _ _ _ _

theorem dmaOf_setDma_ne (d : Device) {n m : Nat} (h : m ≠ n) (x : DmaX) : (d.setDma n x).dmaOf m = d.dmaOf m :=
  Sparse.get_put_ne _ _ h _

@[simp] theorem dmaOf_wr (d : Device) (o r v n : Nat) : (d.wr o r v).dmaOf n = d.dmaOf n := rfl

theorem dmaOf_keeps {V : List Nat} {a b : Device} (h : Keeps V a b) (hV : F.pcieDma ∉ V) (n : Nat) : b.dmaOf n = a.dmaOf n := by
  have hdma : b.pcie.dma = a.pcie.dma := h.fields 16 hV
  unfold dmaOf
  rw [hdma]

theorem setDma_only {R : List (Nat × Nat)} {W : List Nat} {a d : Device} (h : Only R W a d) (hW : F.pcieDma ∈ W) (hF : F.objects ∉ W)
    (n : Nat) (x : DmaX) : Only R W a (d.setDma n x) :=
  h.keeps hF (setDma_keeps (by intro k hk; rw [List.mem_singleton.1 hk]; exact hW) (Keeps.refl _ _))

/-! #### Raising the vector -/

theorem dmaSignal_keeps_all (d : Device) (n : Nat) : Keeps Touch.dmaSignal d (d.dmaSignal n) :=
  dmaSignal_keeps (fun _ h => h) (Keeps.refl _ _)

theorem dmaSignal_rd (d : Device) (n o row : Nat) (h : o ∉ Touch.dmaSignal) : (d.dmaSignal n).rd o row = d.rd o row :=
  (dmaSignal_keeps_all d n).objs (by decide) o row h

theorem dmaOf_msix (d : Device) (e n : Nat) : (d.msix e).dmaOf n = d.dmaOf n :=
  dmaOf_keeps (msix_keeps (fun _ h => h) (Keeps.refl Touch.msix d)) (by decide) n

theorem dmaSignal_dma_self (d : Device) (n : Nat) : (d.dmaSignal n).dmaOf n = { d.dmaOf n with unsignalled := 0 } := by
  unfold dmaSignal
  rw [dmaOf_msix, dmaOf_setDma_self]

theorem dmaSignal_dma_ne (d : Device) {n m : Nat} (h : m ≠ n) : (d.dmaSignal n).dmaOf m = d.dmaOf m := by
  unfold dmaSignal
  rw [dmaOf_msix, dmaOf_setDma_ne _ h]

/-! #### A completion -/

/-- The device that has written a completion back and counted it, and has not yet looked whether it signals. -/
def dmaCounted (d : Device) (n : Nat) (c : Completion) : Device :=
  ((d.emit (.completion n c.status c.length c.kind)).inc64 (completionCount c.status) n).pmcDma n

theorem dmaWriteBack_eq (d : Device) (n : Nat) (c : Completion) :
    ∃ u old, d.dmaWriteBack n c = (d.dmaCounted n c).setDma n { d.dmaOf n with unsignalled := u, oldest := old } ∨
      d.dmaWriteBack n c = ((d.dmaCounted n c).setDma n { d.dmaOf n with unsignalled := u, oldest := old }).dmaSignal n := by
  have hdma : (d.dmaCounted n c).dmaOf n = d.dmaOf n :=
    dmaOf_keeps (V := O.RING_COMPLETED :: O.RING_REJECTED :: F.out :: Touch.pmcDma)
      (pmcDma_keeps (by unfold Sub; decide) (inc64_keeps (by unfold Here completionCount; split <;> decide)
        (emit_keeps (by unfold Sub; decide) (Keeps.refl _ _)))) (by decide) n
  have hcounted : (if c.status = 0 then (d.emit (.completion n c.status c.length c.kind)).inc64 O.RING_COMPLETED n
      else (d.emit (.completion n c.status c.length c.kind)).inc64 O.RING_REJECTED n).pmcDma n = d.dmaCounted n c := by
    unfold dmaCounted completionCount
    split <;> rfl
  unfold dmaWriteBack
  dsimp only
  rw [hcounted]
  generalize d.dmaCounted n c = e at hdma ⊢
  rw [hdma]
  generalize (if (d.dmaOf n).unsignalled = 0 then e.cyc else (d.dmaOf n).oldest) = old
  refine ⟨(d.dmaOf n).unsignalled + 1, old, ?_⟩
  split
  · exact Or.inr rfl
  · exact Or.inl rfl

theorem dmaCounted_only (d : Device) (n : Nat) (c : Completion) : Only [(completionCount c.status, n)] dmaTold d (d.dmaCounted n c) :=
  (((Only.refl _ _ d).keeps (by decide) (emit_keeps (by unfold Sub; decide) (Keeps.refl _ _))).wr (Or.inr List.mem_cons_self)).keeps
    (by decide) (pmcDma_keeps (by unfold Sub; decide) (Keeps.refl _ _))

theorem dmaCounted_count (d : Device) (n : Nat) (c : Completion) :
    (d.dmaCounted n c).rd (completionCount c.status) n = (d.rd (completionCount c.status) n + 1) % 2 ^ 64 := by
  have hpmc := (pmcDma_keeps (fun _ h => h) (Keeps.refl Touch.pmcDma
    ((d.emit (.completion n c.status c.length c.kind)).inc64 (completionCount c.status) n)) (n := n)).objs (by decide)
    (completionCount c.status) n (by unfold completionCount; split <;> decide)
  unfold dmaCounted
  rw [hpmc]
  exact rd_wr_self _ _ _ _

theorem dmaWriteBack_only (d : Device) (n : Nat) (c : Completion) :
    Only [(completionCount c.status, n)] dmaTold d (d.dmaWriteBack n c) := by
  obtain ⟨u, old, h | h⟩ := dmaWriteBack_eq d n c
  · rw [h]
    exact setDma_only (dmaCounted_only d n c) (by decide) (by decide) _ _
  · rw [h]
    exact (setDma_only (dmaCounted_only d n c) (by decide) (by decide) _ _).keeps (by decide)
      (dmaSignal_keeps (by unfold Sub; decide) (Keeps.refl _ _))

theorem dmaWriteBack_count (d : Device) (n : Nat) (c : Completion) :
    (d.dmaWriteBack n c).rd (completionCount c.status) n = (d.rd (completionCount c.status) n + 1) % 2 ^ 64 := by
  rw [← dmaCounted_count]
  obtain ⟨u, old, h | h⟩ := dmaWriteBack_eq d n c
  · rw [h, setDma_rd]
  · rw [h, dmaSignal_rd _ _ _ _ (by unfold completionCount; split <;> decide), setDma_rd]

/-- A completion leaves the ring its descriptors and records. -/
theorem dmaWriteBack_dma_self (d : Device) (n : Nat) (c : Completion) :
    ∃ u old, (d.dmaWriteBack n c).dmaOf n = { d.dmaOf n with unsignalled := u, oldest := old } := by
  obtain ⟨u, old, h | h⟩ := dmaWriteBack_eq d n c
  · exact ⟨u, old, by rw [h, dmaOf_setDma_self]⟩
  · exact ⟨0, old, by rw [h, dmaSignal_dma_self, dmaOf_setDma_self]⟩

theorem dmaWriteBack_dma_ne (d : Device) {n m : Nat} (h : m ≠ n) (c : Completion) : (d.dmaWriteBack n c).dmaOf m = d.dmaOf m := by
  have hcounted : (d.dmaCounted n c).dmaOf m = d.dmaOf m :=
    dmaOf_keeps (V := O.RING_COMPLETED :: O.RING_REJECTED :: F.out :: Touch.pmcDma)
      (pmcDma_keeps (by unfold Sub; decide) (inc64_keeps (by unfold Here completionCount; split <;> decide)
        (emit_keeps (by unfold Sub; decide) (Keeps.refl _ _)))) (by decide) m
  obtain ⟨u, old, hwb | hwb⟩ := dmaWriteBack_eq d n c
  · rw [hwb, dmaOf_setDma_ne _ h, hcounted]
  · rw [hwb, dmaSignal_dma_ne _ h, dmaOf_setDma_ne _ h, hcounted]

theorem dmaWriteBack_out (d : Device) (n : Nat) (c : Completion) :
    ∃ l, (d.dmaWriteBack n c).out = d.out ++ .completion n c.status c.length c.kind :: l := by
  have hcounted : Evolves (d.emit (.completion n c.status c.length c.kind)) (d.dmaCounted n c) := by
    unfold dmaCounted
    exact pmcDma_evolves (inc64_evolves (.refl _))
  have hev : Evolves (d.emit (.completion n c.status c.length c.kind)) (d.dmaWriteBack n c) := by
    obtain ⟨u, old, h | h⟩ := dmaWriteBack_eq d n c
    · rw [h]
      exact setDma_evolves hcounted
    · rw [h]
      exact dmaSignal_evolves (setDma_evolves hcounted)
  obtain ⟨l, hl⟩ := hev.out
  exact ⟨l, by rw [← hl, emit, List.append_assoc]; rfl⟩

/-! #### Stopping -/

theorem dmaFlush_only : ∀ (k n : Nat) (d : Device), Only [(O.RING_REJECTED, n)] dmaTold d (dmaFlush k n d)
  | 0, _, _ => Only.refl _ _ _
  | k + 1, n, d => (dmaWriteBack_only d n ⟨5, 0, []⟩).trans (dmaFlush_only k n _)

/-- Every descriptor flushed counts as rejected. -/
theorem dmaFlush_rejected : ∀ (k n : Nat) (d : Device), d.rd O.RING_REJECTED n < 2 ^ 64 →
    (dmaFlush k n d).rd O.RING_REJECTED n = (d.rd O.RING_REJECTED n + k) % 2 ^ 64
  | 0, _, _, h => (Nat.mod_eq_of_lt h).symm
  | k + 1, n, d, _ => by
    have hone : (d.dmaWriteBack n ⟨5, 0, []⟩).rd O.RING_REJECTED n = (d.rd O.RING_REJECTED n + 1) % 2 ^ 64 :=
      dmaWriteBack_count d n ⟨5, 0, []⟩
    rw [dmaFlush, dmaFlush_rejected k n _ (by rw [hone]; exact Nat.mod_lt _ (by decide)), hone]
    omega

theorem dmaFlush_dma_ne {n m : Nat} (h : m ≠ n) : ∀ (k : Nat) (d : Device), (dmaFlush k n d).dmaOf m = d.dmaOf m
  | 0, _ => rfl
  | k + 1, d => by rw [dmaFlush, dmaFlush_dma_ne h k, dmaWriteBack_dma_ne _ h]

theorem dmaFlush_dma_self (n : Nat) : ∀ (k : Nat) (d : Device),
    ∃ u old, (dmaFlush k n d).dmaOf n = { d.dmaOf n with unsignalled := u, oldest := old }
  | 0, d => ⟨(d.dmaOf n).unsignalled, (d.dmaOf n).oldest, rfl⟩
  | k + 1, d => by
    obtain ⟨u, old, h⟩ := dmaFlush_dma_self n k (d.dmaWriteBack n ⟨5, 0, []⟩)
    obtain ⟨u', old', h'⟩ := dmaWriteBack_dma_self d n ⟨5, 0, []⟩
    exact ⟨u, old, by rw [dmaFlush, h, h']⟩

/-- The descriptors that wait between head and tail. -/
def descWaiting (d : Device) (n : Nat) : Nat := (d.rd O.RING_TAIL n + d.rd O.RING_SIZE n - d.rd O.RING_HEAD n) % d.rd O.RING_SIZE n

/-- The flushed ring, before it stands at index 0. -/
def dmaFlushed (d : Device) (n : Nat) : Device :=
  (dmaFlush (d.descWaiting n) n d).setDma n
    { (dmaFlush (d.descWaiting n) n d).dmaOf n with events := [], taken := [], stopping := false }

theorem dmaEnd_eq (d : Device) (n : Nat) : d.dmaEnd n =
    (((d.dmaFlushed n).wr O.RING_STATE n ((d.dmaFlushed n).rd O.RING_ENABLE n)).wr O.RING_HEAD n 0).wr O.RING_TAIL n 0 := rfl

theorem dmaFlushed_only (d : Device) (n : Nat) : Only [(O.RING_REJECTED, n)] dmaTold d (d.dmaFlushed n) :=
  setDma_only (dmaFlush_only _ n d) (by decide) (by decide) _ _

/-- A ring that has stopped stands at index 0, in the state its enable says. -/
theorem dmaEnd_rd_state (d : Device) (n : Nat) : (d.dmaEnd n).rd O.RING_STATE n = d.rd O.RING_ENABLE n := by
  rw [dmaEnd_eq, rd_wr_obj _ _ _ _ (by decide), rd_wr_obj _ _ _ _ (by decide), rd_wr_self]
  exact (dmaFlushed_only d n).2 _ _ (by decide) (by simp)

theorem dmaEnd_rd_head (d : Device) (n : Nat) : (d.dmaEnd n).rd O.RING_HEAD n = 0 := by
  rw [dmaEnd_eq, rd_wr_obj _ _ _ _ (by decide), rd_wr_self]

theorem dmaEnd_rd_tail (d : Device) (n : Nat) : (d.dmaEnd n).rd O.RING_TAIL n = 0 := rd_wr_self _ _ _ _

theorem dmaEnd_rd_rejected (d : Device) (n : Nat) (h : d.rd O.RING_REJECTED n < 2 ^ 64) :
    (d.dmaEnd n).rd O.RING_REJECTED n = (d.rd O.RING_REJECTED n + d.descWaiting n) % 2 ^ 64 := by
  rw [dmaEnd_eq, rd_wr_obj _ _ _ _ (by decide), rd_wr_obj _ _ _ _ (by decide), rd_wr_obj _ _ _ _ (by decide), dmaFlushed, setDma_rd,
    dmaFlush_rejected _ _ _ h]

theorem dmaEnd_dma_self (d : Device) (n : Nat) : ∃ u old, (d.dmaEnd n).dmaOf n = ⟨u, old, [], [], false⟩ :=
  ⟨_, _, by rw [dmaEnd_eq, dmaOf_wr, dmaOf_wr, dmaOf_wr, dmaFlushed, dmaOf_setDma_self]⟩

theorem dmaEnd_dma_ne (d : Device) {n m : Nat} (h : m ≠ n) : (d.dmaEnd n).dmaOf m = d.dmaOf m := by
  rw [dmaEnd_eq, dmaOf_wr, dmaOf_wr, dmaOf_wr, dmaFlushed, dmaOf_setDma_ne _ h, dmaFlush_dma_ne h]

/-- The rows that the stop of a ring changes. -/
def stoppedRows (n : Nat) : List (Nat × Nat) := [(O.RING_STATE, n), (O.RING_HEAD, n), (O.RING_TAIL, n), (O.RING_REJECTED, n)]

theorem dmaEnd_only (d : Device) (n : Nat) : Only (stoppedRows n) dmaTold d (d.dmaEnd n) := by
  rw [dmaEnd_eq]
  exact (((((dmaFlushed_only d n).mono (by simp [stoppedRows]) fun _ h => h).wr (Or.inr (by simp [stoppedRows]))).wr
    (Or.inr (by simp [stoppedRows]))).wr (Or.inr (by simp [stoppedRows])))

end Device
end Sys2Proof.Machine
end

section
/-!
PROOF. The family 03_holloth_ring_and_host_port: the enable, the stop and the doorbell of a DMA ring.
-/
set_option Elab.async false
namespace Sys2Proof.Machine

/-! ### RING_ENABLE and the doorbell (R72, R74) -/

namespace Device

/-- The one value of a write to RING_ENABLE of ring `n`. -/
def enablePiece (n v : Nat) : Piece := ⟨⟨O.RING_ENABLE, true, .bool, .rw, 3, 0, 1⟩, n, leBytes 1 v⟩

theorem pieces_ringEnable (n v : Nat) : pieces (directAddr O.RING_ENABLE n) (leBytes 1 v) = some [enablePiece n v] := by
  have hdesc : subDesc (O.RING_ENABLE / 256) (O.RING_ENABLE % 256) = some ⟨O.RING_ENABLE, true, .bool, .rw, 3, 0, 1⟩ := by
    decide +kernel
  show (subDesc (O.RING_ENABLE / 256) (O.RING_ENABLE % 256)).map (fun e => [(⟨e, n, leBytes 1 v⟩ : Piece)]) = _
  rw [hdesc]
  rfl

/-- A written enable is stored, and switches its ring. -/
theorem applyPieces_ringEnable {d : Device} (hq : Quiet d) (s n : Nat) {v : Nat} (hv : v < 256) :
    applyPieces s [enablePiece n v] d = ringSwitch d (d.wr O.RING_ENABLE n v) n := by
  have hnum : leNat (fit 1 (leBytes 1 v)) = v := by
    have hfit : fit 1 (leBytes 1 v) = leBytes 1 v := rfl
    rw [hfit, leNat_leBytes, Nat.mod_eq_of_lt (by omega)]
  have hstore : storePieces s [enablePiece n v] d = d.wr O.RING_ENABLE n (leNat (fit 1 (leBytes 1 v))) := rfl
  have heffect : ∀ x : Device, pieceEffect d x (enablePiece n v) = ringSwitch d x n := fun _ => rfl
  rw [applyPieces_quiet (by simp [enablePiece, shaping]) hq s, hstore, hnum, List.foldl_cons, List.foldl_nil, heffect]

/-- A write to RING_ENABLE that passes is answered, and leaves what its switch leaves. -/
theorem ringEnableWrite_done {r : Req} {s : State} {n v : Nat} {x : Device} {R : List (Nat × Nat)} (hv : v < 256)
    (hpass : Passes r (directAddr O.RING_ENABLE n) (leBytes 1 v) s.dev) (hq : Quiet s.dev)
    (hx : ringSwitch (s.dev.accept r) ((s.dev.accept r).wr O.RING_ENABLE n v) n = x) (hmode : x.mode = s.dev.mode)
    (honly : Only R (F.pcieDma :: asked) (s.dev.accept r) x) :
    ∃ t, s.on (fun d => d.direct r (ringEnableWrite r n v)) = .next t ∧ Keeps asked x t.dev ∧ Answers r 0 t.dev ∧
      Only R (F.pcieDma :: asked) s.dev t.dev := by
  obtain ⟨hreset, hcheck⟩ := hpass
  have hboot : (s.dev.accept r).mode ≠ .boot := mode_ne_boot_of_unserved (writeCheck_unserved hcheck)
  have hwrite : ringEnableWrite r n v (s.dev.accept r) = (0, x) := by
    unfold ringEnableWrite writeDirect
    rw [if_neg (not_not.2 hcheck), pieces_ringEnable, Option.getD_some, applyPieces_ringEnable (accept_quiet hq r) _ _ hv, hx]
  rw [accept_mode] at hboot
  exact direct_done hreset hboot hwrite (hmode ▸ hreset) honly (by unfold Sub; decide) (by decide)

theorem accept_dmaOf (d : Device) (r : Req) (n : Nat) : (d.accept r).dmaOf n = d.dmaOf n :=
  dmaOf_keeps (accept_keeps_all d r) (by decide) n

/-! #### Start -/

/-- The rows that the start of a ring changes. -/
def startedRows (n : Nat) : List (Nat × Nat) := [(O.RING_ENABLE, n), (O.RING_STATE, n), (O.RING_HEAD, n), (O.RING_TAIL, n)]

/-- A stopped ring that starts stands at index 0, with its completions not yet signalled kept. -/
theorem ringStart_stopped {d : Device} {n : Nat} (h : d.rd O.RING_STATE n ≠ 1) :
    (d.ringStart n).rd O.RING_ENABLE n = 1 ∧ (d.ringStart n).rd O.RING_STATE n = 1 ∧ (d.ringStart n).rd O.RING_HEAD n = 0 ∧
      (d.ringStart n).rd O.RING_TAIL n = 0 ∧ (d.ringStart n).dmaOf n = ⟨(d.dmaOf n).unsignalled, (d.dmaOf n).oldest, [], [], false⟩ ∧
      (d.ringStart n).mode = d.mode ∧ Only (startedRows n) [F.pcieDma] d (d.ringStart n) := by
  have heq : d.ringStart n = ((((d.wr O.RING_ENABLE n 1).wr O.RING_STATE n 1).wr O.RING_HEAD n 0).wr O.RING_TAIL n 0).setDma n
      ⟨(d.dmaOf n).unsignalled, (d.dmaOf n).oldest, [], [], false⟩ := by
    unfold ringStart
    dsimp only
    rw [if_neg (by rw [rd_wr_obj _ _ _ _ (by decide)]; exact h)]
    rfl
  rw [heq]
  generalize (⟨(d.dmaOf n).unsignalled, (d.dmaOf n).oldest, [], [], false⟩ : DmaX) = x
  refine ⟨?_, ?_, ?_, ?_, dmaOf_setDma_self _ _ _, by simp only [setDma_mode, wr_mode], setDma_only
    (((((Only.refl _ _ d).wr (Or.inr ?_)).wr (Or.inr ?_)).wr (Or.inr ?_)).wr (Or.inr ?_)) (by decide) (by decide) _ _⟩
  · rw [setDma_rd, rd_wr_obj _ _ _ _ (by decide), rd_wr_obj _ _ _ _ (by decide), rd_wr_obj _ _ _ _ (by decide), rd_wr_self]
  · rw [setDma_rd, rd_wr_obj _ _ _ _ (by decide), rd_wr_obj _ _ _ _ (by decide), rd_wr_self]
  · rw [setDma_rd, rd_wr_obj _ _ _ _ (by decide), rd_wr_self]
  · rw [setDma_rd, rd_wr_self]
  all_goals simp [startedRows]

/-! #### Stop -/

/-- A running ring that has taken nothing stops at once. -/
theorem dmaHalt_idle {d : Device} {n : Nat} (hrun : d.rd O.RING_STATE n ≠ 0) (htaken : (d.dmaOf n).taken = []) :
    d.dmaHalt n = (d.wr O.RING_ENABLE n 0).dmaEnd n := by
  unfold dmaHalt
  dsimp only
  rw [if_neg (by rw [rd_wr_obj _ _ _ _ (by decide)]; exact hrun), dmaOf_wr, if_pos htaken]

/-- One that has taken descriptors waits for them. -/
theorem dmaHalt_busy {d : Device} {n : Nat} (hrun : d.rd O.RING_STATE n ≠ 0) (htaken : (d.dmaOf n).taken ≠ []) :
    d.dmaHalt n = (d.wr O.RING_ENABLE n 0).setDma n { d.dmaOf n with stopping := true } := by
  unfold dmaHalt
  dsimp only
  rw [if_neg (by rw [rd_wr_obj _ _ _ _ (by decide)]; exact hrun), dmaOf_wr, if_neg htaken]

theorem dmaHalt_stopped {d : Device} {n : Nat} (hstop : d.rd O.RING_STATE n = 0) : d.dmaHalt n = d.wr O.RING_ENABLE n 0 := by
  unfold dmaHalt
  dsimp only
  rw [if_pos (by rw [rd_wr_obj _ _ _ _ (by decide)]; exact hstop)]

theorem ringSwitch_on {old d : Device} {n : Nat} (h : d.rd O.RING_ENABLE n ≠ 0) : ringSwitch old d n = d.ringStart n :=
  if_pos (by simpa [rdB] using h)

theorem ringSwitch_off {old d : Device} {n : Nat} (h : d.rd O.RING_ENABLE n = 0) (hold : old.rd O.RING_ENABLE n ≠ 0) :
    ringSwitch old d n = d.dmaHalt n := by
  unfold ringSwitch
  rw [if_neg (by simp [rdB, h]), if_pos (by simpa [rdB] using hold)]

end Device

/-- Settles O24: the enable is one write whose effect starts or halts the ring, and a doorbell one write of its tail. -/
theorem ringsStartAndStop : Obligations.RingsStartAndStop := by
  unfold Obligations.RingsStartAndStop
  refine ⟨?start, ?stop, ?halt, ?bell, ?ignored⟩
  case start =>
    intro r n s hpass hstate hq
    have hstopped : ((s.dev.accept r).wr O.RING_ENABLE n 1).rd O.RING_STATE n ≠ 1 := by
      rw [Device.rd_wr_obj _ _ _ _ (by decide), Device.accept_rd]
      exact hstate
    obtain ⟨hon, hrun, hhead, htail, hdma, hmode, honly⟩ := Device.ringStart_stopped hstopped
    obtain ⟨t, ht, hkeeps, hans, hframe⟩ := Device.ringEnableWrite_done (R := Device.startedRows n) (by decide) hpass hq
      (Device.ringSwitch_on (by rw [Device.rd_wr_self]; decide)) (hmode.trans (Device.accept_mode _ _))
      (((Only.refl _ _ _).wr (Or.inr (by simp [Device.startedRows]))).trans (honly.mono (fun _ h => h) (by unfold Sub; decide)))
    refine ⟨t, ht, ?_, ?_, ?_, ?_, ?_, hans, hframe⟩
    · rw [hkeeps.objs (by decide) _ _ (by decide), hon]
    · rw [hkeeps.objs (by decide) _ _ (by decide), hrun]
    · rw [hkeeps.objs (by decide) _ _ (by decide), hhead]
    · rw [hkeeps.objs (by decide) _ _ (by decide), htail]
    · rw [Device.dmaOf_keeps hkeeps (by decide), hdma, Device.dmaOf_wr, Device.accept_dmaOf]
  case stop =>
    intro r n s hpass hstate henable htaken hq
    obtain ⟨d, hd⟩ : ∃ d, d = (((s.dev.accept r).wr O.RING_ENABLE n 0).wr O.RING_ENABLE n 0) := ⟨_, rfl⟩
    have hrd : ∀ o row, o ≠ O.RING_ENABLE → d.rd o row = s.dev.rd o row := fun o row h => by
      rw [hd, Device.rd_wr_obj _ _ _ _ (Ne.symm h), Device.rd_wr_obj _ _ _ _ (Ne.symm h), Device.accept_rd]
    have hzero : d.rd O.RING_ENABLE n = 0 := hd ▸ Device.rd_wr_self _ _ _ _
    have hswitch : Device.ringSwitch (s.dev.accept r) ((s.dev.accept r).wr O.RING_ENABLE n 0) n = d.dmaEnd n := by
      rw [Device.ringSwitch_off (Device.rd_wr_self _ _ _ _) (by rw [Device.accept_rd]; exact henable), Device.dmaHalt_idle, hd]
      · rw [Device.rd_wr_obj _ _ _ _ (by decide), Device.accept_rd]
        exact hstate
      · rw [Device.dmaOf_wr, Device.accept_dmaOf]
        exact htaken
    have hend := Device.dmaEnd_only d n
    have hmode : (d.dmaEnd n).mode = s.dev.mode := by
      rw [hend.1.fields 0 (by simp [Device.stoppedRows, dmaTold, F.pmc, F.out, F.pcieDma, F.pciePending]), hd]
      exact Device.accept_mode _ _
    have honly : Only ((O.RING_ENABLE, n) :: Device.stoppedRows n) (F.pcieDma :: asked) (s.dev.accept r) (d.dmaEnd n) :=
      (hd ▸ ((Only.refl _ _ _).wr (Or.inr List.mem_cons_self)).wr (Or.inr List.mem_cons_self)).trans
        (hend.mono (by simp) (by unfold Sub; decide))
    obtain ⟨t, ht, hkeeps, hans, hframe⟩ := Device.ringEnableWrite_done (by decide) hpass hq hswitch hmode honly
    have hkept : ∀ o row, o ∉ asked → t.dev.rd o row = (d.dmaEnd n).rd o row := fun o row h => hkeeps.objs (by decide) o row h
    obtain ⟨u, old, hdma⟩ := Device.dmaEnd_dma_self d n
    refine ⟨t, ht, ?_, ?_, ?_, ?_, ?_, fun hfits => ?_, hans, hframe⟩
    · rw [hkept _ _ (by decide), hend.2 _ _ (by decide) (by simp [Device.stoppedRows]), hzero]
    · rw [hkept _ _ (by decide), Device.dmaEnd_rd_state, hzero]
    · rw [hkept _ _ (by decide), Device.dmaEnd_rd_head]
    · rw [hkept _ _ (by decide), Device.dmaEnd_rd_tail]
    · rw [Device.dmaOf_keeps hkeeps (by decide), hdma]
    · rw [hkept _ _ (by decide), Device.dmaEnd_rd_rejected d n (by rw [hrd _ _ (by decide)]; exact hfits), hrd _ _ (by decide)]
      unfold Device.descWaiting
      rw [hrd _ _ (by decide), hrd _ _ (by decide), hrd _ _ (by decide)]
  case halt =>
    intro r n s hpass hstate henable htaken hq
    obtain ⟨d, hd⟩ : ∃ d, d = (((s.dev.accept r).wr O.RING_ENABLE n 0).wr O.RING_ENABLE n 0) := ⟨_, rfl⟩
    have hdma : ((s.dev.accept r).wr O.RING_ENABLE n 0).dmaOf n = s.dev.dmaOf n := by rw [Device.dmaOf_wr, Device.accept_dmaOf]
    have hswitch : Device.ringSwitch (s.dev.accept r) ((s.dev.accept r).wr O.RING_ENABLE n 0) n =
        d.setDma n { s.dev.dmaOf n with stopping := true } := by
      rw [Device.ringSwitch_off (Device.rd_wr_self _ _ _ _) (by rw [Device.accept_rd]; exact henable), Device.dmaHalt_busy, hd, hdma]
      · rw [Device.rd_wr_obj _ _ _ _ (by decide), Device.accept_rd]
        exact hstate
      · rw [hdma]
        exact htaken
    have honly : Only [(O.RING_ENABLE, n)] (F.pcieDma :: asked) (s.dev.accept r) (d.setDma n { s.dev.dmaOf n with stopping := true }) :=
      Device.setDma_only (hd ▸ ((Only.refl _ _ _).wr (Or.inr List.mem_cons_self)).wr (Or.inr List.mem_cons_self)) (by decide)
        (by decide) _ _
    obtain ⟨t, ht, hkeeps, hans, hframe⟩ := Device.ringEnableWrite_done (by decide) hpass hq hswitch
      (hd ▸ Device.accept_mode _ _) honly
    have hstopping : t.dev.dmaOf n = { s.dev.dmaOf n with stopping := true } := by
      rw [Device.dmaOf_keeps hkeeps (by decide), Device.dmaOf_setDma_self]
    refine ⟨t, ht, ?_, hstopping, by simp [Device.ringReady, hstopping], hans, hframe⟩
    rw [hkeeps.objs (by decide) _ _ (by decide), Device.setDma_rd, hd, Device.rd_wr_self]
  case bell =>
    intro n tail s hmode hn hstate htail
    have heq : s.dev.doorbell n tail = s.dev.wr O.RING_TAIL n tail := if_neg (by simp [hmode, hstate]; omega)
    refine ⟨{ s with dev := s.dev.doorbell n tail }, rfl, ?_⟩
    rw [heq]
    exact ⟨Device.rd_wr_self _ _ _ _, (Only.refl _ _ _).wr (Or.inr List.mem_cons_self)⟩
  case ignored =>
    intro n tail s h
    exact congrArg (fun d => Host.Outcome.next { s with dev := d }) (if_pos (Or.inr h) : s.dev.doorbell n tail = s.dev)

end Sys2Proof.Machine
end

section
/-!
PROOF. The family 03_holloth_ring_and_host_port: the descriptor of the ring whose turn it is, and the interrupt timer.
-/
set_option Elab.async false
namespace Sys2Proof.Machine

/-! ### Descriptors and interrupts (R73 to R75) -/

namespace Device

/-- The ring whose turn it is is not about to stop (R74). -/
theorem turnRing_stopping {d : Device} {n : Nat} (h : d.turnRing = some n) : (d.dmaOf n).stopping = false := by
  have hworks : d.ringWorks n = true := List.find?_some h
  unfold ringWorks ringReady at hworks
  simp only [Bool.and_eq_true, Bool.not_eq_true'] at hworks
  obtain ⟨⟨⟨-, hstop⟩, -⟩, -⟩ := hworks
  exact hstop

/-- A descriptor that none was taken before is written back at once. -/
theorem dmaComplete_idle {d : Device} {n : Nat} (htaken : (d.dmaOf n).taken = []) (hstop : (d.dmaOf n).stopping = false)
    (status length : Nat) (kind : Bytes) : d.dmaComplete n status length kind =
      ((d.setTaken n [⟨0, some ⟨status, length, kind⟩⟩]).dmaWriteBack n ⟨status, length, kind⟩).setTaken n [] := by
  obtain ⟨u, old, hdma⟩ := dmaWriteBack_dma_self (d.setTaken n [⟨0, some ⟨status, length, kind⟩⟩]) n ⟨status, length, kind⟩
  have hone : (d.setTaken n [⟨0, some ⟨status, length, kind⟩⟩]).dmaOf n = { d.dmaOf n with taken := [⟨0, some ⟨status, length, kind⟩⟩] } :=
    dmaOf_setDma_self _ _ _
  have hdrain : dmaDrain n [⟨0, some ⟨status, length, kind⟩⟩] (d.setTaken n [⟨0, some ⟨status, length, kind⟩⟩]) =
      ([], (d.setTaken n [⟨0, some ⟨status, length, kind⟩⟩]).dmaWriteBack n ⟨status, length, kind⟩) := rfl
  have hkept : (((d.setTaken n [⟨0, some ⟨status, length, kind⟩⟩]).dmaWriteBack n ⟨status, length, kind⟩).setTaken n []).dmaOf n =
      { ((d.setTaken n [⟨0, some ⟨status, length, kind⟩⟩]).dmaWriteBack n ⟨status, length, kind⟩).dmaOf n with taken := [] } :=
    dmaOf_setDma_self _ _ _
  unfold dmaComplete
  rw [htaken, List.nil_append]
  unfold dmaSettle
  dsimp only
  rw [hone]
  dsimp only
  rw [hdrain]
  dsimp only
  rw [if_neg]
  rw [hkept, hdma, hone, hstop]
  simp

theorem setTaken_only {W : List Nat} (d : Device) (n : Nat) (l : List TakenDesc) (R : List (Nat × Nat)) (hW : F.pcieDma ∈ W)
    (hF : F.objects ∉ W) : Only R W d (d.setTaken n l) := setDma_only (Only.refl _ _ _) hW hF _ _

/-- It is put out, counted in one of the ring's two counters, and nothing else happens to the ring's objects. -/
theorem dmaComplete_idle_done {d : Device} {n : Nat} (htaken : (d.dmaOf n).taken = []) (hstop : (d.dmaOf n).stopping = false)
    (status length : Nat) (kind : Bytes) :
    (∃ l, (d.dmaComplete n status length kind).out = d.out ++ .completion n status length kind :: l) ∧
      (d.dmaComplete n status length kind).rd (completionCount status) n = (d.rd (completionCount status) n + 1) % 2 ^ 64 ∧
      Only [(completionCount status, n)] dmaTold d (d.dmaComplete n status length kind) := by
  rw [dmaComplete_idle htaken hstop]
  have htake := setTaken_only (W := dmaTold) d n [⟨0, some ⟨status, length, kind⟩⟩] [(completionCount status, n)] (by decide) (by decide)
  have hout : (d.setTaken n [⟨0, some ⟨status, length, kind⟩⟩]).out = d.out := rfl
  have hrd : ∀ o, (d.setTaken n [⟨0, some ⟨status, length, kind⟩⟩]).rd o n = d.rd o n := fun _ => rfl
  generalize d.setTaken n [⟨0, some ⟨status, length, kind⟩⟩] = e at *
  have hwritten := dmaWriteBack_out e n ⟨status, length, kind⟩
  have hcount := dmaWriteBack_count e n ⟨status, length, kind⟩
  have honly := dmaWriteBack_only e n ⟨status, length, kind⟩
  rw [hout] at hwritten
  dsimp only at hcount honly
  rw [hrd] at hcount
  generalize e.dmaWriteBack n ⟨status, length, kind⟩ = f at *
  exact ⟨hwritten, hcount, (htake.trans honly).trans (setTaken_only _ n _ _ (by decide) (by decide))⟩

theorem completionCount_notMem {k : Nat} (hc : k ≠ O.RING_COMPLETED) (hr : k ≠ O.RING_REJECTED) (h : k ∉ dmaTold) (status n : Nat) :
    k ∉ [(completionCount status, n)].map (·.1) ++ dmaTold := by
  unfold completionCount
  split <;> simp [hc, hr, h]

theorem msixPend_pendBits (d : Device) (e : Nat) : (d.msixPend e).pcie.pendBits = setBit d.pcie.pendBits e true := rfl

theorem msix_of_live {d : Device} {e : Nat} (he : e < 64) (hlive : d.msixLive e = true) : d.msix e = d.msixSend e := by
  unfold msix
  rw [if_neg (by omega), if_pos hlive]

theorem msix_of_masked {d : Device} {e : Nat} (he : e < 64) (hlive : d.msixLive e = false) : d.msix e = d.msixPend e := by
  unfold msix
  rw [if_neg (by omega), if_neg (by rw [hlive]; decide)]

/-- The vector of a ring that may send is sent with the address and the data of its entry. -/
theorem dmaSignal_sent {d : Device} {n : Nat} (hv : d.rd O.RING_VECTOR n < 64) (hlive : d.msixLive (d.rd O.RING_VECTOR n) = true) :
    (d.dmaSignal n).out.getLast? = some (.msix (d.rd O.RING_VECTOR n) (d.vectorOf (d.rd O.RING_VECTOR n) % 2 ^ 64)
      (d.vectorOf (d.rd O.RING_VECTOR n) / 2 ^ 64 % 2 ^ 32)) := by
  unfold dmaSignal
  rw [msix_of_live (d := d.setDma n _) hv hlive]
  exact emit_getLast _ _

/-- The vector of one that may not send is pending. -/
theorem dmaSignal_pending {d : Device} {n : Nat} (hv : d.rd O.RING_VECTOR n < 64) (hlive : d.msixLive (d.rd O.RING_VECTOR n) = false) :
    (d.dmaSignal n).pcie.pendBits.testBit (d.rd O.RING_VECTOR n) = true := by
  unfold dmaSignal
  rw [msix_of_masked (d := d.setDma n _) hv hlive, msixPend_pendBits, testBit_setBit, if_pos rfl]

theorem msixLive_keeps {V : List Nat} {a b : Device} (h : Keeps V a b) (hV : F.pcieMsixOn ∉ V ∧ F.pcieFuncMask ∉ V ∧ F.pcieMasked ∉ V)
    (e : Nat) : b.msixLive e = a.msixLive e := by
  have hon : b.pcie.msixOn = a.pcie.msixOn := h.fields 58 hV.1
  have hfunc : b.pcie.funcMask = a.pcie.funcMask := h.fields 59 hV.2.1
  have hmask : b.pcie.masked = a.pcie.masked := h.fields 17 hV.2.2
  unfold msixLive
  rw [hon, hfunc, hmask]

theorem vectorOf_keeps {V : List Nat} {a b : Device} (h : Keeps V a b) (hV : F.pcieVectors ∉ V) (e : Nat) : b.vectorOf e = a.vectorOf e := by
  have hvec : b.pcie.vectors = a.pcie.vectors := h.fields 57 hV
  unfold vectorOf
  rw [hvec]

/-- The status with which a descriptor of a ring of no kind is completed (R73). -/
def plainStatus (d : Device) (n : Nat) (x : Descriptor) : Nat := if d.descCheck n x ≠ 0 then d.descCheck n x else if x.pcieError then 3 else 0

theorem plainStatus_eq_zero (d : Device) (n : Nat) (x : Descriptor) :
    d.plainStatus n x = 0 ↔ d.descCheck n x = 0 ∧ x.pcieError = false := by
  unfold plainStatus
  by_cases hc : d.descCheck n x = 0
  · cases hp : x.pcieError <;> simp [hc]
  · simp [hc]

theorem dmaDescriptorProcess_turn {d : Device} {n : Nat} (x : Descriptor) (hmode : d.mode ≠ .reset) (hturn : d.turnRing = some n) :
    d.dmaDescriptorProcess x =
      if d.rd O.RING_KIND n = 1 then (d.puntWaiting n).elim d (fun f => d.puntDeliver f.id x)
      else if d.rd O.RING_KIND n = 2 then (d.hostBytes x.length).2.injectDescriptor n x (d.hostBytes x.length).1
      else if d.rd O.RING_KIND n = 3 then d.jobFromHost n x
      else if d.rd O.RING_KIND n = 4 then d.eventRingDeliver n x
      else (d.dmaAdvance n).dmaComplete n (d.plainStatus n x) 0 (fit 16 x.kind) := by
  unfold dmaDescriptorProcess
  rw [if_neg hmode, hturn, Option.elim_some]
  rfl

end Device

/-- Settles O25: a descriptor of no kind is written back at once, and the timer passes the time and raises the vector. -/
theorem descriptorsAreCompleted : Obligations.DescriptorsAreCompleted := by
  unfold Obligations.DescriptorsAreCompleted
  refine ⟨?none, ?punt, ?event, ?timer⟩
  case none =>
    intro x n s hmode hturn hkind htaken
    have hrun : s.dev.dmaDescriptorProcess x = (s.dev.dmaAdvance n).dmaComplete n (s.dev.plainStatus n x) 0 (fit 16 x.kind) := by
      rw [Device.dmaDescriptorProcess_turn x hmode hturn, hkind, if_neg (by decide), if_neg (by decide), if_neg (by decide),
        if_neg (by decide)]
    have hadvance : Only [(O.RING_HEAD, n)] [F.pcieServed] s.dev (s.dev.dmaAdvance n) :=
      ((Only.refl _ _ s.dev).keeps (by decide) (Device.setServed_keeps (by unfold Sub; decide) (Keeps.refl _ _))).wr
        (Or.inr List.mem_cons_self)
    have hhead : (s.dev.dmaAdvance n).rd O.RING_HEAD n = (s.dev.rd O.RING_HEAD n + 1) % s.dev.rd O.RING_SIZE n := Device.rd_wr_self _ _ _ _
    have hserved : (s.dev.dmaAdvance n).pcie.lastServed = n := rfl
    have hother : ∀ o, o ≠ O.RING_HEAD → o ≠ F.pcieServed → (s.dev.dmaAdvance n).rd o n = s.dev.rd o n := fun o h₁ h₂ =>
      hadvance.2 o n (by simp [h₂]) (by simp [Ne.symm h₁])
    have hstop := Device.turnRing_stopping hturn
    have hdone := Device.dmaComplete_idle_done (d := s.dev.dmaAdvance n) htaken
      (show ((s.dev.dmaAdvance n).dmaOf n).stopping = false from hstop) (s.dev.plainStatus n x) 0 (fit 16 x.kind)
    have hout : (s.dev.dmaAdvance n).out = s.dev.out := rfl
    simp only [← Device.plainStatus_eq_zero]
    rw [← hrun, hout] at hdone
    obtain ⟨⟨l, hl⟩, hcount, honly⟩ := hdone
    generalize (s.dev.dmaAdvance n) = d at *
    refine ⟨{ s with dev := s.dev.dmaDescriptorProcess x }, l, rfl, ?_, hl, ?_, ?_, ?_, ?_⟩
    · refine (honly.2 _ _ (by decide) ?_).trans hhead
      unfold completionCount
      split <;> simp
    · split
      · rename_i h
        rwa [h, hother _ (by decide) (by decide)] at hcount
      · rename_i h
        refine (honly.2 _ _ (by decide) ?_).trans (hother _ (by decide) (by decide))
        simp [completionCount, h]
    · split
      · rename_i h
        refine (honly.2 _ _ (by decide) ?_).trans (hother _ (by decide) (by decide))
        simp [completionCount, h]
      · rename_i h
        unfold completionCount at hcount
        rwa [if_neg h, hother _ (by decide) (by decide)] at hcount
    · exact (honly.1.fields 19 (Device.completionCount_notMem (by decide) (by decide) (by decide) _ _)).trans hserved
    · refine (hadvance.mono (by simp) (by unfold Sub; decide)).trans (honly.mono ?_ (by unfold Sub; decide))
      unfold completionCount
      split <;> simp
  case punt =>
    intro x n f s hmode hturn hkind hwait
    have heq : s.dev.dmaDescriptorProcess x = s.dev.puntDeliver f.id x := by
      rw [Device.dmaDescriptorProcess_turn x hmode hturn, hkind, hwait]
      rfl
    exact congrArg (fun d => Host.Outcome.next { s with dev := d }) heq
  case event =>
    intro x n s hmode hturn hkind
    have heq : s.dev.dmaDescriptorProcess x = s.dev.eventRingDeliver n x := by
      rw [Device.dmaDescriptorProcess_turn x hmode hturn, hkind]
      rfl
    exact congrArg (fun d => Host.Outcome.next { s with dev := d }) heq
  case timer =>
    intro n s hclock hmode huns hirq hvector
    obtain ⟨c, hc⟩ : ∃ c, c = (s.dev.dmaOf n).oldest + nsCycles (s.dev.rd O.RING_IRQ_NS n) := ⟨_, rfl⟩
    have heq : s.dev.dmaIrqTimer n = (s.dev.passTo c).dmaSignal n := hc ▸ if_neg (by simp [hmode, huns, hirq])
    have hpass := Device.passTo_keeps_all s.dev c
    have hdma := Device.dmaOf_keeps hpass (by decide) n
    have hnum : (s.dev.passTo c).rd O.RING_VECTOR n = s.dev.rd O.RING_VECTOR n := hpass.objs (by decide) _ _ (by decide)
    have hlive := Device.msixLive_keeps hpass (by decide) (s.dev.rd O.RING_VECTOR n)
    have hvec := Device.vectorOf_keeps hpass (by decide) (s.dev.rd O.RING_VECTOR n)
    have hcyc := Device.passTo_cyc hclock c
    have hsignal := Device.dmaSignal_keeps_all (s.dev.passTo c) n
    refine ⟨{ s with dev := s.dev.dmaIrqTimer n }, rfl, ?_⟩
    rw [heq, ← hc]
    refine ⟨?_, ?_, ?_, fun h => ?_, fun h => ?_, ?_⟩
    · rw [Device.dmaSignal_dma_self]
    · rw [Device.dmaSignal_dma_self, hdma]
    · rw [← hcyc]
      exact hsignal.fields 4 (by decide)
    · rw [← hvec, ← hnum]
      exact Device.dmaSignal_sent (by rw [hnum]; exact hvector) (by rw [hnum, hlive, h])
    · rw [← hnum]
      exact Device.dmaSignal_pending (by rw [hnum]; exact hvector) (by rw [hnum, hlive, h])
    · exact (Device.passTo_only s.dev c [] (W := F.pcieDma :: passing) (by unfold Sub; decide) (by decide)).keeps (by decide)
        (hsignal.mono (by unfold Sub; decide))

end Sys2Proof.Machine
end

section
/-!
PROOF. The family 03_holloth_ring_and_host_port: tagged REQUESTs, their counter, and the cache of the last response.
-/
set_option Elab.async false
namespace Sys2Proof.Machine

/-! ### Tagged requests (R59, R60, R66) -/

namespace Device

/-- What stands open is said by the states and identifiers of the rows. -/
theorem openRow_congr {a b : Device} (hstate : ∀ row, b.rd O.SESSION_STATE row = a.rd O.SESSION_STATE row)
    (hid : ∀ row, b.rd O.SESSION_ID row = a.rd O.SESSION_ID row) (id : Nat) : b.openRow id = a.openRow id := by
  unfold openRow
  simp only [hstate, hid]

/-- The row of an open session is that of its identifier, and open. -/
theorem openRow_eq_some {d : Device} {id row : Nat} (h : d.openRow id = some row) :
    row = id % 256 ∧ 1 ≤ row ∧ row ≤ 52 ∧ d.rd O.SESSION_STATE row = 2 ∧ d.rd O.SESSION_ID row = id := by
  unfold openRow at h
  dsimp only at h
  split at h
  · rename_i hc
    obtain ⟨hlo, hhi, hstate, hid⟩ := hc
    obtain rfl := Option.some.inj h
    exact ⟨rfl, hlo, hhi, hstate, hid⟩
  · exact nomatch h

theorem openRow_of_sessionRow {d : Device} {r : Req} {row : Nat} (h : d.sessionRow r = some row) : d.openRow r.session = some row := by
  unfold sessionRow at h
  split at h
  · rename_i row' hrow
    split at h
    · rwa [Option.some.inj h] at hrow
    · exact nomatch h
  · exact nomatch h

/-- A message whose CRC, type and length hold is accepted (R59, R60). -/
theorem ringAccept_good {d : Device} {m : RingMsg} (hcrc : m.crc = crc32 (ringCovered m)) (htype : knownType m.type = true)
    (hlen : m.payload.length ≤ 1024) : d.ringAccept m = (true, d) := by
  unfold ringAccept
  rw [if_neg (not_not.2 hcrc), if_neg (by simp [htype, hlen])]

/-- A REQUEST for this device that names an open ring session is a tagged one of its row. -/
theorem request_of_session {d : Device} {m : RingMsg} {row : Nat} (hin : d.inRing = true) (hme : d.forMe m = true) (htype : m.type = 2)
    (hcrc : m.crc = crc32 (ringCovered m)) (hlen : m.payload.length ≤ 1024) (hrow : d.sessionRow ⟨.ring, m.session⟩ = some row) :
    d.request m = d.ringTaggedRequest m row := by
  have haccept : d.ringAccept m = (true, d) := ringAccept_good hcrc (by rw [htype]; rfl) hlen
  unfold request
  rw [if_neg (by simp [hin, hme, htype])]
  dsimp only
  rw [haccept, if_neg (by simp)]
  dsimp only
  rw [hrow]

/-- The RESPONSE to `m` under the session key `ks`. -/
def taggedResponse (d : Device) (m : RingMsg) (ks payload : Bytes) : RingMsg :=
  ringSealTag ⟨m.src, d.rd O.RING_POSITION, 3, 1, m.session, m.counter, 0, payload, 0, 0⟩ ks

theorem ringRespond_tagged {d : Device} (hmode : d.mode ≠ .reset) (m : RingMsg) (ks payload : Bytes) :
    d.ringRespond m (some ks) payload = d.ringSend (d.taggedResponse m ks payload) := by
  unfold ringRespond
  rw [if_neg hmode]
  rfl

theorem requestSession_of_row {m : RingMsg} {d : Device} {row : Nat} (h : d.openRow m.session = some row) : requestSession m = m.session := by
  obtain ⟨hrow, hlo, -⟩ := openRow_eq_some h
  exact if_neg fun hz => by omega

/-- A WRITE of one plain object that passes is stored, counted, and its payload says so. -/
theorem ringExecute_plain_write {m : RingMsg} {p : Piece} {d : Device} (hsession : requestSession m = m.session)
    (hlen : 12 ≤ m.payload.length) (hop : leNat (m.payload.take 1) = 2) (hgroup : (addrOf (slice 4 8 m.payload)).group = 0)
    (hcmd : isCommand (addrOf (slice 4 8 m.payload)) = false)
    (hpass : Passes ⟨.ring, m.session⟩ (addrOf (slice 4 8 m.payload)) (m.payload.drop 12) d)
    (hps : pieces (addrOf (slice 4 8 m.payload)) (m.payload.drop 12) = some [p]) (hplain : p.e.obj ∉ moreThanStore) (hq : Quiet d) :
    ∃ role, ringExecute m d = (responsePayload m (0, []),
      (storePlain [p] (d.accept ⟨.ring, m.session⟩)).countRequest ⟨.ring, m.session⟩ role 0) := by
  obtain ⟨-, hcheck⟩ := hpass
  have hwrite := performWrite_plain hgroup hcmd hcheck hps (fun q hq => by rwa [List.mem_singleton.1 hq]) (accept_quiet hq ⟨.ring, m.session⟩)
  refine ⟨(d.accept ⟨.ring, m.session⟩).roleOf ⟨.ring, m.session⟩, ?_⟩
  unfold ringExecute
  dsimp only
  rw [hsession, if_neg (by omega), if_neg (by omega), if_pos hop, hwrite]

theorem clearSession_state (d : Device) (row : Nat) : (d.clearSession row).rd O.SESSION_STATE row = 0 := by
  unfold clearSession
  rw [rd_wr_obj _ _ _ _ (by decide), rd_wr_obj _ _ _ _ (by decide), rd_wr_obj _ _ _ _ (by decide), rd_wr_obj _ _ _ _ (by decide),
    rd_wr_self]

/-- The row of a closed session is free (R67). -/
theorem closeSession_state (d : Device) (row : Nat) : (d.closeSession row).rd O.SESSION_STATE row = 0 := by
  unfold closeSession
  split
  · assumption
  · exact clearSession_state _ _

@[simp] theorem sessOf_setSess_self (d : Device) (row : Nat) (x : SessX) : (d.setSess row x).sessOf row = x := Sparse.get_put_self _ _ _ _

end Device

/-- Settles O19: the branches of a tagged REQUEST, each by what its one operation does. -/
theorem ringRequestsKeepTheirOrder : Obligations.RingRequestsKeepTheirOrder := by
  unfold Obligations.RingRequestsKeepTheirOrder
  refine ⟨?executed, ?again, ?tag, ?dropped, ?spent⟩
  case executed =>
    intro m row p s hin hme htype hcrc hshort hlen hrow htagged htag hlast hcounter hop hgroup hcmd hpass hps hplain hq
    have hopen := Device.openRow_of_sessionRow hrow
    obtain ⟨d, hd⟩ : ∃ d, d = s.dev.wr O.SESSION_LAST_COUNTER row m.counter := ⟨_, rfl⟩
    rw [← hd] at hpass
    have hmode : d.mode ≠ .reset := hpass.1
    obtain ⟨role, hexecute⟩ := Device.ringExecute_plain_write (Device.requestSession_of_row hopen) hshort hop hgroup hcmd hpass hps hplain
      (hd ▸ hq)
    obtain ⟨e, he⟩ : ∃ e, e = (Device.storePlain [p] (d.accept ⟨.ring, m.session⟩)).countRequest ⟨.ring, m.session⟩ role 0 := ⟨_, rfl⟩
    rw [← he] at hexecute
    have hcount : Keeps asked (Device.storePlain [p] (d.accept ⟨.ring, m.session⟩)) e := he ▸ Device.countRequest_keeps_asked _ _ _ _
    have hnever : ∀ o row, o ≠ p.e.obj → o ∉ asked → e.rd o row = d.rd o row := fun o row' ho ha => by
      rw [hcount.objs (by decide) _ _ ha, Device.storePlain_rd _ _ (by simpa using Ne.symm ho), Device.accept_rd]
    have hobj : ∀ o ∈ moreThanStore, p.e.obj ≠ o := fun o ho heq => hplain (heq ▸ ho)
    have hopen' : e.openRow m.session = some row := by
      rw [← hopen]
      refine Device.openRow_congr (fun row' => ?_) (fun row' => ?_) _ <;>
        rw [hnever _ _ (hobj _ (by decide)).symm (by decide), hd, Device.rd_wr_obj _ _ _ _ (by decide)]
    have hsame : e.mode = d.mode ∧ e.ring = s.dev.ring := by
      obtain ⟨-, hm, -⟩ := Device.storePlain_same [p] (d.accept ⟨.ring, m.session⟩)
      have haccept : (d.accept ⟨.ring, m.session⟩).ring = d.ring := (Device.accept_keeps_all _ _).fields 14 (by decide)
      have hring : e.ring = (d.accept ⟨.ring, m.session⟩).ring := (hcount.fields 14 (by decide)).trans rfl
      exact ⟨(hcount.fields 0 (by decide)).trans (hm.trans (Device.accept_mode _ _)), by rw [hring, haccept, hd]; rfl⟩
    obtain ⟨hsameMode, hsameRing⟩ := hsame
    have hframe : Only [(p.e.obj, p.row), (O.SESSION_LAST_COUNTER, row)] asked s.dev e := by
      have hcounted : Only [(p.e.obj, p.row), (O.SESSION_LAST_COUNTER, row)] asked s.dev d := hd ▸ (Only.refl _ _ _).wr (Or.inr (by simp))
      have hstored := (Device.storePlain_only [p] asked (d.accept ⟨.ring, m.session⟩)).mono
        (R' := [(p.e.obj, p.row), (O.SESSION_LAST_COUNTER, row)]) (by simp) (fun _ h => h)
      exact ((hcounted.trans (Device.accept_only d _ _ (fun _ h => h) (by decide))).trans hstored).keeps (by decide) hcount
    obtain ⟨f, hf⟩ : ∃ f, f = e.setSess row { e.sessOf row with cache := Device.responsePayload m (0, []) } := ⟨_, rfl⟩
    have heq : s.dev.request m = f.ringSend (f.taggedResponse m (s.dev.ksOf row) (Device.responsePayload m (0, []))) := by
      rw [Device.request_of_session hin hme htype hcrc hlen hrow]
      unfold Device.ringTaggedRequest
      dsimp only
      rw [if_neg (by simp [htagged, htag]), if_neg (by omega), if_neg (by omega), if_neg (by omega), ← hd, hexecute]
      dsimp only
      rw [if_pos hopen', ← hf, Device.ringRespond_tagged]
      rw [hf]
      exact hsameMode ▸ hmode
    have hcache : (f.sessOf row).cache = Device.responsePayload m (0, []) := by rw [hf, Device.sessOf_setSess_self]
    have hrd : ∀ o row', f.rd o row' = e.rd o row' := fun o row' => hf ▸ rfl
    have hring : f.ring = s.dev.ring := (hf ▸ rfl : f.ring = e.ring).trans hsameRing
    have honly : Only [(p.e.obj, p.row), (O.SESSION_LAST_COUNTER, row)] asked s.dev f :=
      hf ▸ hframe.keeps (by decide) (Device.setSess_keeps (by unfold Sub; decide) (Keeps.refl _ _))
    refine ⟨{ s with dev := s.dev.request m }, f.taggedResponse m (s.dev.ksOf row) (Device.responsePayload m (0, [])), rfl, ?_⟩
    rw [heq, ← hring]
    refine ⟨?_, ?_, hcache, rfl, rfl, rfl, rfl, rfl, (honly.mono (fun _ h => h) (by unfold Sub; decide)).keeps (by decide)
      (Device.ringSend_keeps (by unfold Sub; decide) (Keeps.refl _ _))⟩
    · rw [Device.ringSend_rd, hrd, hcount.objs (by decide) _ _
        (Device.plain_not_asked hplain (Device.pieces_obj hps p (List.mem_singleton.2 rfl)))]
      exact Device.storePlain_last [] [] p _ (by simp)
    · rw [Device.ringSend_rd, hrd, hnever _ _ (hobj _ (by decide)).symm (by decide), hd, Device.rd_wr_self]
  case again =>
    intro m row s hin hme htype hcrc hlen hrow htagged htag hcounter hcache hmode
    have heq : s.dev.request m = (s.dev.accept ⟨.ring, m.session⟩).ringSend
        ((s.dev.accept ⟨.ring, m.session⟩).taggedResponse m (s.dev.ksOf row) (s.dev.sessOf row).cache) := by
      rw [Device.request_of_session hin hme htype hcrc hlen hrow]
      unfold Device.ringTaggedRequest
      dsimp only
      rw [if_neg (by simp [htagged, htag]), if_pos ⟨hcounter, hcache⟩, Device.ringRespond_tagged (by rw [Device.accept_mode]; exact hmode)]
    have haccept := Device.accept_keeps_all s.dev ⟨.ring, m.session⟩
    have hring : (s.dev.accept ⟨.ring, m.session⟩).ring = s.dev.ring := haccept.fields 14 (by decide)
    refine ⟨{ s with dev := s.dev.request m },
      (s.dev.accept ⟨.ring, m.session⟩).taggedResponse m (s.dev.ksOf row) (s.dev.sessOf row).cache, rfl, ?_⟩
    rw [heq, ← hring]
    exact ⟨rfl, rfl, (Only.refl _ _ _).keeps (by decide) (Device.ringSend_keeps (by unfold Sub; decide) (haccept.mono (by unfold Sub; decide)))⟩
  case tag =>
    intro m row s hin hme htype hcrc hlen hrow hbad
    have heq : s.dev.request m = s.dev.inc64 O.RING_TAG_ERRORS := by
      rw [Device.request_of_session hin hme htype hcrc hlen hrow]
      unfold Device.ringTaggedRequest
      exact if_pos (by simpa using hbad)
    refine ⟨{ s with dev := s.dev.request m }, rfl, ?_⟩
    rw [heq]
    exact ⟨Device.rd_wr_self _ _ _ _, (Only.refl _ _ _).wr (Or.inr List.mem_cons_self)⟩
  case dropped =>
    intro m row s hin hme htype hcrc hlen hrow htagged htag hspent hlast hnext
    have heq : s.dev.request m = s.dev.inc64 O.RING_REPLAY_DROPS := by
      rw [Device.request_of_session hin hme htype hcrc hlen hrow]
      unfold Device.ringTaggedRequest
      dsimp only
      rw [if_neg (by simp [htagged, htag]), if_neg (fun h => hlast h.1), if_neg hspent, if_pos hnext]
    refine ⟨{ s with dev := s.dev.request m }, rfl, ?_⟩
    rw [heq]
    exact ⟨Device.rd_wr_self _ _ _ _, (Only.refl _ _ _).wr (Or.inr List.mem_cons_self)⟩
  case spent =>
    intro m row s hin hme htype hcrc hlen hrow htagged htag hlast hzero
    have heq : s.dev.request m = s.dev.closeSession row := by
      rw [Device.request_of_session hin hme htype hcrc hlen hrow]
      unfold Device.ringTaggedRequest
      dsimp only
      rw [if_neg (by simp [htagged, htag]), if_neg (by omega), if_pos ⟨hlast, hzero⟩]
    refine ⟨{ s with dev := s.dev.request m }, rfl, ?_⟩
    rw [heq]
    exact ⟨Device.closeSession_state _ _, (Only.refl _ _ _).keeps (by decide) (Device.closeSession_keeps (by unfold Sub; decide) (Keeps.refl _ _))⟩

end Sys2Proof.Machine
end

section
/-!
PROOF. The family 03_holloth_ring_and_host_port: OPEN on the three transports.
-/
set_option Elab.async false
namespace Sys2Proof.Machine

/-! ### OPEN (R59, R62 to R65) -/

/-- What the draw of a nonce and the use of a root change. -/
def drawnAndUsed : List Nat := [O.VAULT_USES_LEFT, O.VAULT_STATE, F.draws, F.keyRequests]

namespace Device

theorem drawBytes_keeps_draws (d : Device) (n : Nat) : Keeps [F.draws, F.keyRequests] d (d.drawBytes n).2 :=
  Keeps.same (Keeps.refl _ d) rfl rfl fun k hk => by
    unfold sameField
    split <;> first | rfl | trivial

/-- A slot whose use is granted is left as it was. -/
theorem slotUse_granted {d : Device} {k : Nat} (h : (d.slotUse k).1 = 0) : (d.slotUse k).2 = d := by
  unfold slotUse at h ⊢
  split
  · rfl
  · split
    · rfl
    · rename_i hstate hgood
      rw [if_neg hstate, if_neg hgood] at h
      exact absurd h (by simp)

theorem admission_refuse {d : Device} {t : Transport} {role a : Nat} (h : d.admission t role = .refuse a) : a ≠ 0 := by
  have hservice : ∀ a, d.admitService t role = .refuse a → a = 0xA401 := by
    intro a ha
    unfold admitService at ha
    dsimp only at ha
    split at ha
    · exact (Admission.refuse.inj ha).symm
    · split at ha
      · exact (Admission.refuse.inj ha).symm
      · split at ha <;> exact nomatch ha
  have hroot : ∀ a, d.admitRoot t role = .refuse a → a = 0xA405 := by
    intro a ha
    unfold admitRoot at ha
    dsimp only at ha
    split at ha
    · exact (Admission.refuse.inj ha).symm
    · split at ha
      · split at ha
        · exact nomatch ha
        · exact (Admission.refuse.inj ha).symm
      · cases hslot : d.slotOf (d.rd O.ROLE_ROOT role) with
        | none => rw [hslot] at ha; exact (Admission.refuse.inj ha).symm
        | some k => rw [hslot] at ha; exact nomatch ha
  unfold admission at h
  split at h
  · rw [hservice a h]; decide
  · rw [hroot a h]; decide

/-- How an OPEN that is admitted leaves the device `e` that its row is taken in. -/
structure Admitted (d : Device) (t : Transport) (o : OpenReq) (row : Nat) (e : Device) (state nd ks : Nat) : Prop where
  only : Only [] drawnAndUsed d e
  state_eq : state = if d.admission t o.role = .open_ then 2 else 1
  key : ∀ k, d.admission t o.role = .root k → ks = leNat (d.rootKs k t o nd (d.nextSession row))

theorem rootKs_congr {a b : Device} (hv : b.keys.vault = a.keys.vault) (hr : ∀ row, b.rd O.VAULT_KEY_BITS row = a.rd O.VAULT_KEY_BITS row)
    (k : Nat) (t : Transport) (o : OpenReq) (nd s : Nat) : b.rootKs k t o nd s = a.rootKs k t o nd s := by
  have hkey : b.keyBytes k = a.keyBytes k := by
    unfold keyBytes vaultOf
    rw [hv, hr]
  unfold rootKs
  rw [hkey]

/-- An OPEN that is answered with 0 has drawn its nonce, used its root, and takes the lowest free row. -/
theorem openSession_admitted {d : Device} {t : Transport} {o : OpenReq} {row : Nat} (hgood : (d.openSession t o).1.1 = 0)
    (hfree : d.freeSession t = some row) :
    ∃ e state nd ks, d.openSession t o = ((0, d.nextSession row, nd), e.allocSession row state o nd ks) ∧ Admitted d t o row e state nd ks := by
  have hdraw : Keeps [F.draws, F.keyRequests] d (d.drawBytes 16).2 := drawBytes_keeps_draws d 16
  have hdrawOnly : Only [] drawnAndUsed d (d.drawBytes 16).2 := (Only.refl _ _ d).keeps (by decide) (hdraw.mono (by unfold Sub; decide))
  unfold openSession at hgood ⊢
  dsimp only at hgood ⊢
  rw [hfree, Option.getD_some] at hgood ⊢
  split at hgood
  · rename_i hcheck
    exact absurd hgood hcheck
  rename_i hcheck
  rw [if_neg hcheck]
  cases hadm : d.admission t o.role with
  | refuse a =>
    rw [hadm] at hgood
    exact absurd hgood (admission_refuse hadm)
  | open_ => exact ⟨_, _, _, _, rfl, hdrawOnly, by simp [hadm], by simp [hadm]⟩
  | root k =>
    rw [hadm] at hgood
    dsimp only at hgood ⊢
    split at hgood
    · rename_i huse
      exact absurd hgood huse
    rename_i huse
    rw [if_neg huse, slotUse_granted (not_not.1 huse)]
    refine ⟨_, _, _, _, rfl, hdrawOnly.keeps (by decide) (takeUse_keeps (by unfold Sub; decide) (Keeps.refl _ _)), by simp [hadm], ?_⟩
    intro k' hk
    rw [Admission.root.inj (hadm.symm.trans hk)]
    exact congrArg leNat (rootKs_congr (hdraw.fields 27 (by decide)) (fun row => hdraw.objs (by decide) _ _ (by decide)) _ _ _ _ _)
  | cert =>
    rw [hadm] at hgood
    dsimp only at hgood ⊢
    split at hgood
    · rename_i ht
      rw [if_pos ht]
      exact ⟨_, _, _, _, rfl, hdrawOnly, by simp [hadm], by simp [hadm]⟩
    rename_i ht
    rw [if_neg ht]
    split at hgood
    · exact absurd hgood (by simp)
    rename_i hempty
    rw [if_neg hempty]
    split at hgood
    · rename_i huse
      exact absurd hgood huse
    rename_i huse
    rw [if_neg huse, slotUse_granted (not_not.1 huse)]
    exact ⟨_, _, _, _, rfl, hdrawOnly, by simp [hadm], by simp [hadm]⟩

/-! #### The row taken -/

theorem allocSession_sessOf (d : Device) (row state : Nat) (o : OpenReq) (nd ks : Nat) :
    (d.allocSession row state o nd ks).sessOf row =
      ⟨leNat (fit 16 o.nm), nd, ks, d.cyc + msCycles 1000, d.cyc, [], 0, ((d.sessOf row).gen + 1) % 2 ^ 24, (d.sessOf row).timedOut⟩ :=
  Sparse.get_put_self _ _ _ _

theorem allocSession_rd (d : Device) (row state : Nat) (o : OpenReq) (nd ks : Nat) :
    (d.allocSession row state o nd ks).rd O.SESSION_STATE row = state ∧ (d.allocSession row state o nd ks).rd O.SESSION_ROLE row = o.role ∧
      (d.allocSession row state o nd ks).rd O.SESSION_CA row = (if o.role = 3 then o.ca else 0) ∧
      (d.allocSession row state o nd ks).rd O.SESSION_ID row = (d.sessOf row).gen * 256 + row ∧
      (d.allocSession row state o nd ks).rd O.SESSION_LAST_COUNTER row = 0 := by
  unfold allocSession
  dsimp only
  refine ⟨?_, ?_, ?_, ?_, ?_⟩ <;> simp [rd_wr]

theorem allocSession_only {R : List (Nat × Nat)} {W : List Nat} (d : Device) (row state : Nat) (o : OpenReq) (nd ks : Nat)
    (hR : openingTouches row ⊆ R) (hW : F.sess ∈ W) (hF : F.objects ∉ W) : Only R W d (d.allocSession row state o nd ks) := by
  have hrow : ∀ e ∈ openingTouches row, e ∈ R := fun e he => hR he
  unfold openingTouches at hrow
  have hsess : ∀ x, Only R W d (d.setSess row x) := fun x =>
    (Only.refl R W d).keeps hF (setSess_keeps (by intro k hk; rw [List.mem_singleton.1 hk]; exact hW) (Keeps.refl _ _))
  exact (((((((hsess _).wr (Or.inr (hrow _ (by simp)))).wr (Or.inr (hrow _ (by simp)))).wr (Or.inr (hrow _ (by simp)))).wr
    (Or.inr (hrow _ (by simp)))).wr (Or.inr (hrow _ (by simp)))).wr (Or.inr (hrow _ (by simp)))).wr (Or.inr (hrow _ (by simp)))

/-- An OPEN that is answered with 0: the row it leaves, the nonce in its answer, and what else it changes. -/
theorem openSession_opened {d : Device} {t : Transport} {o : OpenReq} {row : Nat} (hgood : (d.openSession t o).1.1 = 0)
    (hfree : d.freeSession t = some row) :
    ∃ nd f, d.openSession t o = ((0, f.rd O.SESSION_ID row, nd), f) ∧ opened t o row d f ∧ (f.sessOf row).nd = nd ∧
      Only (openingTouches row) (F.sess :: drawnAndUsed) d f := by
  obtain ⟨e, state, nd, ks, heq, hadm⟩ := openSession_admitted hgood hfree
  obtain ⟨honly, hstate, hkey⟩ := hadm
  obtain ⟨hs, hr, hc, hi, hl⟩ := allocSession_rd e row state o nd ks
  have hsess : e.sess = d.sess := honly.1.fields 9 (by decide)
  have hcyc : e.cyc = d.cyc := honly.1.fields 4 (by decide)
  have hgen : e.sessOf row = d.sessOf row := by unfold sessOf; rw [hsess]
  have hid : (e.allocSession row state o nd ks).rd O.SESSION_ID row = d.nextSession row := by rw [hi, hgen]; rfl
  refine ⟨nd, e.allocSession row state o nd ks, by rw [heq, hid], ⟨by rw [hs, hstate], hr, hc, by rw [hi, hgen], ?_, ?_, hl, fun k hk => ?_⟩, ?_, ?_⟩
  · rw [allocSession_sessOf, hcyc]
  · rw [allocSession_sessOf]
  · rw [hid, allocSession_sessOf]
    exact hkey k hk
  · rw [allocSession_sessOf]
  · exact (honly.mono (by simp) (by unfold Sub; decide)).trans (allocSession_only _ _ _ _ _ _ (fun _ h => h) (by decide) (by decide))

/-- An OPEN refused by its checks changes nothing. -/
theorem openSession_refused {d : Device} {t : Transport} {o : OpenReq} (h : d.openCheck t o ≠ 0) :
    d.openSession t o = ((d.openCheck t o, 0, 0), d) := if_pos h

theorem openCheck_boot {d : Device} (hboot : d.mode = .boot) (t : Transport) (o : OpenReq) : d.openCheck t o = 0xA303 := by
  unfold openCheck
  rw [hboot]
  rfl

/-- Outside BOOT alone is an OPEN answered with 0. -/
theorem openSession_mode {d : Device} {t : Transport} {o : OpenReq} (h : (d.openSession t o).1.1 = 0) : d.mode ≠ .boot := by
  intro hboot
  have hcheck := openCheck_boot hboot t o
  rw [openSession_refused (by rw [hcheck]; decide), hcheck] at h
  exact absurd h (by simp)

/-- What the windows, the debug port and the outputs hold does not decide an OPEN. -/
theorem aside_openSession_abort (d x : Device) (t : Transport) (o : OpenReq) :
    ((d.aside x).openSession t o).1.1 = (d.openSession t o).1.1 := by
  have hcheck : (d.aside x).openCheck t o = d.openCheck t o := rfl
  have hadm : (d.aside x).admission t o.role = d.admission t o.role := rfl
  have hdraw : ((d.aside x).drawBytes 16).2 = (d.drawBytes 16).2.aside x := rfl
  have huse : ∀ (e : Device) k, ((e.aside x).slotUse k).1 = (e.slotUse k).1 := fun e k => by
    have hstate : (e.aside x).rd O.VAULT_STATE k = e.rd O.VAULT_STATE k := rfl
    have hgood : (e.aside x).vaultGood k = e.vaultGood k := rfl
    unfold slotUse
    rw [hstate, hgood]
    split
    · rfl
    · split <;> rfl
  unfold openSession
  dsimp only
  rw [hcheck, hadm, hdraw]
  split
  · rfl
  · cases d.admission t o.role with
    | refuse a => rfl
    | open_ => rfl
    | root k =>
      dsimp only
      rw [huse]
      split <;> rfl
    | cert =>
      dsimp only
      rw [huse]
      split
      · rfl
      · have hstate : ((d.drawBytes 16).2.aside x).rd O.VAULT_STATE 1 = (d.drawBytes 16).2.rd O.VAULT_STATE 1 := rfl
        rw [hstate]
        split
        · rfl
        · split <;> rfl

/-- An OPEN for this device whose message is good is answered with the CHALLENGE of its outcome. -/
theorem ringOpen_good {d : Device} {m : RingMsg} (hin : d.inRing = true) (hme : d.forMe m = true) (htype : m.type = 5)
    (hcrc : m.crc = crc32 (ringCovered m)) (hlen : m.payload.length = 20) :
    d.ringOpen m = (d.openSession .ring (openReq m.payload)).2.ringAnswer m 6
      (challenge (d.openSession .ring (openReq m.payload)).1.1 (d.openSession .ring (openReq m.payload)).1.2.1
        (d.openSession .ring (openReq m.payload)).1.2.2) := by
  have haccept : d.ringAccept m = (true, d) := ringAccept_good hcrc (by rw [htype]; rfl) (by omega)
  unfold ringOpen
  rw [if_neg (by simp [hin, hme, htype])]
  dsimp only
  rw [haccept, if_neg (by simp), if_neg (not_not.2 hlen)]

theorem winOf_setWin_self (d : Device) (w : Nat) (x : WinReg) : (d.setWin w x).winOf w = x := Sparse.get_put_self _ _ _ _

theorem windowSubmit_winOf (d : Device) (w address session length op : Nat) (v : Bytes) :
    (d.windowSubmit w address session length op v).winOf w = ⟨address, session, length, op, true, (d.winOf w).abort, v⟩ :=
  winOf_setWin_self _ _ _

/-- The message that answers `m` with type `t`. -/
def answerTo (d : Device) (m : RingMsg) (t : Nat) (payload : Bytes) : RingMsg :=
  ringSealCrc { dst := m.src, src := d.rd O.RING_POSITION, type := t, flags := 0, session := 0, counter := 0, reserved := 0,
                payload := payload, tag := 0, crc := 0 }

end Device

/-- A field that no place of the frame names stays. -/
theorem Only.field {R : List (Nat × Nat)} {W : List Nat} {a b : Device} (h : Only R W a b) (k : Nat) (hW : 0x1000000 + k ∉ W)
    (hR : ∀ e ∈ R, e.1 < 0x1000000) : sameField k a b :=
  h.1.fields k fun hmem => by
    rcases List.mem_append.1 hmem with hm | hm
    · obtain ⟨e, he, heq⟩ := List.mem_map.1 hm
      have := hR e he
      omega
    · exact hW hm

theorem openingTouches_objects (row : Nat) : ∀ e ∈ openingTouches row, e.1 < 0x1000000 := by
  simp only [openingTouches, List.forall_mem_cons, List.not_mem_nil, false_imp_iff, implies_true, and_true]
  decide

/-- What an OPEN has left stays while the sessions and their rows do. -/
theorem opened.keeps {t : Transport} {o : OpenReq} {row : Nat} {V : List Nat} {a b c : Device} (h : opened t o row a b) (k : Keeps V b c)
    (hV : F.objects ∉ V ∧ F.sess ∉ V ∧ O.SESSION_STATE ∉ V ∧ O.SESSION_ROLE ∉ V ∧ O.SESSION_CA ∉ V ∧ O.SESSION_ID ∉ V ∧
      O.SESSION_LAST_COUNTER ∉ V) : opened t o row a c := by
  obtain ⟨hF, hsess, hs, hr, hc, hi, hl⟩ := hV
  have hsessOf : c.sessOf row = b.sessOf row := by
    have hall : c.sess = b.sess := k.fields 9 hsess
    unfold Device.sessOf
    rw [hall]
  unfold opened
  rw [hsessOf, k.objs hF _ _ hs, k.objs hF _ _ hr, k.objs hF _ _ hc, k.objs hF _ _ hi, k.objs hF _ _ hl]
  exact h

/-- Settles O16: each transport hands its OPEN to the one operation, and its CHALLENGE to the answer. -/
theorem opensAreChallenged : Obligations.OpensAreChallenged := by
  unfold Obligations.OpensAreChallenged
  refine ⟨?ring, ?refused, ?window, ?debug⟩
  case ring =>
    intro m row s hin hme htype hcrc hlen hgood hfree
    obtain ⟨nd, f, heq, hopened, hnd, honly⟩ := Device.openSession_opened hgood hfree
    have hrun : s.dev.ringOpen m = f.ringAnswer m 6 (Device.challenge 0 (f.rd O.SESSION_ID row) nd) := by
      rw [Device.ringOpen_good hin hme htype hcrc hlen, heq]
    have hring : f.ring = s.dev.ring := honly.field 14 (by decide) (openingTouches_objects row)
    refine ⟨{ s with dev := s.dev.ringOpen m }, f.answerTo m 6 (Device.challenge 0 (f.rd O.SESSION_ID row) nd), rfl, ?_⟩
    rw [hrun, ← hring, ← hnd]
    exact ⟨hopened.keeps (Device.ringAnswer_keeps (fun _ h => h) (Keeps.refl Touch.ringAnswer _)) (by decide), rfl, rfl, rfl, rfl,
      (honly.mono (fun _ h => h) (by unfold Sub; decide)).keeps (by decide) (Device.ringAnswer_keeps (by unfold Sub; decide) (Keeps.refl _ _))⟩
  case refused =>
    intro m s hin hme htype hcrc hlen hcheck
    have hrun : s.dev.ringOpen m = s.dev.ringAnswer m 6 (Device.challenge (s.dev.openCheck .ring (openReq m.payload)) 0 0) := by
      rw [Device.ringOpen_good hin hme htype hcrc hlen, Device.openSession_refused hcheck]
    refine ⟨{ s with dev := s.dev.ringOpen m }, s.dev.answerTo m 6 (Device.challenge (s.dev.openCheck .ring (openReq m.payload)) 0 0), rfl, ?_⟩
    rw [hrun]
    exact ⟨rfl, rfl, rfl, rfl, (Only.refl _ _ _).keeps (by decide) (Device.ringAnswer_keeps (by unfold Sub; decide) (Keeps.refl _ _))⟩
  case window =>
    intro w p row s hready hlen hgood hfree
    obtain ⟨d, hd⟩ : ∃ d, d = s.dev.windowSubmit w 0 0 20 3 p := ⟨_, rfl⟩
    have haside : d = s.dev.aside d := hd ▸ rfl
    have hgood' : (d.openSession .pcie (openReq p)).1.1 = 0 := by
      rw [haside, Device.aside_openSession_abort, hgood]
    obtain ⟨nd, f, heq, hopened, hnd, honly⟩ := Device.openSession_opened hgood' ((hd ▸ rfl : d.freeSession .pcie = s.dev.freeSession .pcie).trans hfree)
    have hboot : d.mode ≠ .boot := Device.openSession_mode hgood'
    have hrun : s.dev.pcieWindowOpen w p = f.windowDone w 0 (Device.challenge 0 (f.rd O.SESSION_ID row) nd) := by
      unfold Device.pcieWindowOpen
      rw [if_neg (by simp [hready]), hlen]
      dsimp only
      rw [← hd, if_neg hboot, if_neg (by simp), heq]
    have hwin : f.winOf w = ⟨0, 0, 20, 3, true, (s.dev.winOf w).abort, p⟩ := by
      have hwindows : f.pcie.windows = d.pcie.windows := honly.field 15 (by decide) (openingTouches_objects row)
      have hsubmit : d.winOf w = ⟨0, 0, 20, 3, true, (s.dev.winOf w).abort, p⟩ := hd ▸ Device.windowSubmit_winOf _ _ _ _ _ _ _
      rw [← hsubmit]
      unfold Device.winOf
      rw [hwindows]
    have hdone := Device.windowDone_keeps (w := w) (abort := 0) (value := Device.challenge 0 (f.rd O.SESSION_ID row) nd)
      (fun _ h => h) (Keeps.refl Touch.windowDone f)
    refine ⟨{ s with dev := s.dev.pcieWindowOpen w p }, rfl, ?_⟩
    rw [hrun]
    have hsess : (f.windowDone w 0 (Device.challenge 0 (f.rd O.SESSION_ID row) nd)).sess = f.sess := hdone.fields 9 (by decide)
    have hopened' : opened .pcie (openReq p) row s.dev f := by
      rw [hd] at hopened
      exact hopened
    refine ⟨hopened'.keeps hdone (by decide), ?_, ?_⟩
    · rw [Device.windowDone_winOf, hwin, hdone.objs (by decide) _ _ (by decide)]
      unfold Device.sessOf
      rw [hsess, ← hnd]
      rfl
    · have hsubmit : Only (openingTouches row) [F.pcieWindows] s.dev d := hd ▸ (Only.refl _ _ _).keeps (by decide)
        (Device.windowSubmit_keeps (by unfold Sub; decide) (Keeps.refl _ _))
      exact ((hsubmit.mono (fun _ h => h) (by unfold Sub; decide)).trans (honly.mono (fun _ h => h) (by unfold Sub; decide))).keeps
        (by decide) (hdone.mono (by unfold Sub; decide))
  case debug =>
    intro row s hmode hgood hfree
    obtain ⟨d, hd⟩ : ∃ d, d = s.dev.dapScan (Device.dapWord 0 0 6 0) := ⟨_, rfl⟩
    have haside : d = s.dev.aside d := hd ▸ rfl
    have hbytes : d.dapBytes 0 20 = s.dev.dapBytes 0 20 := hd ▸ rfl
    have hgood' : (d.openSession .debug (openReq (s.dev.dapBytes 0 20))).1.1 = 0 := by
      rw [haside, Device.aside_openSession_abort, hgood]
    obtain ⟨nd, f, heq, hopened, hnd, honly⟩ :=
      Device.openSession_opened hgood' ((hd ▸ rfl : d.freeSession .debug = s.dev.freeSession .debug).trans hfree)
    have hrun : s.dev.dapOpen = (f.dapStore 0 (Device.challenge 0 (f.rd O.SESSION_ID row) nd)).setDapAbort 0 := by
      unfold Device.dapOpen
      rw [if_neg hmode]
      dsimp only
      rw [← hd, hbytes, heq]
    have hopened' : opened .debug (openReq (s.dev.dapBytes 0 20)) row s.dev f := by
      rw [hd] at hopened
      exact hopened
    have hdone : Keeps [F.jtag] f ((f.dapStore 0 (Device.challenge 0 (f.rd O.SESSION_ID row) nd)).setDapAbort 0) :=
      Device.setDapAbort_keeps (fun _ h => h) (Device.dapStore_keeps (fun _ h => h) (Keeps.refl _ _))
    refine ⟨{ s with dev := s.dev.dapOpen }, rfl, ?_⟩
    rw [hrun]
    refine ⟨hopened'.keeps hdone (by decide), rfl, ?_, ?_⟩
    · have hstored := Device.dapBytes_dapStore f (Device.challenge 0 (f.rd O.SESSION_ID row) nd)
      rw [show (Device.challenge 0 (f.rd O.SESSION_ID row) nd).length = 24 by simp [Device.challenge, leBytes_length]] at hstored
      rw [Device.setDapAbort_dapBytes, hstored, ← hnd]
      rfl
    · have hscan : Only (openingTouches row) [F.jtag, F.out] s.dev d := hd ▸ (Device.dapScan_only _ _).mono (by simp) (fun _ h => h)
      exact ((hscan.mono (fun _ h => h) (by unfold Sub; decide)).trans (honly.mono (fun _ h => h) (by unfold Sub; decide))).keeps
        (by decide) (hdone.mono (by unfold Sub; decide))

end Sys2Proof.Machine
end

section
/-!
PROOF. The family 03_holloth_ring_and_host_port: PROVE on the three transports, and what a proof that fails leaves.
-/
set_option Elab.async false
namespace Sys2Proof.Machine

/-! ### PROVE (R59, R63, R65, R344) -/

/-- The rows that the freeing of session row `row` changes. -/
def clearedRows (row : Nat) : List (Nat × Nat) :=
  [(O.SESSION_STATE, row), (O.SESSION_ROLE, row), (O.SESSION_CA, row), (O.SESSION_ID, row), (O.SESSION_LAST_COUNTER, row)]

theorem clearedRows_objects (row : Nat) : ∀ e ∈ clearedRows row, e.1 < 0x1000000 := by
  simp only [clearedRows, List.forall_mem_cons, List.not_mem_nil, false_imp_iff, implies_true, and_true]
  decide

namespace Device

theorem sessOf_setSess_ne (d : Device) {row r : Nat} (h : r ≠ row) (x : SessX) : (d.setSess row x).sessOf r = d.sessOf r :=
  Sparse.get_put_ne _ _ h _

theorem clearSession_only (d : Device) (row : Nat) : Only (clearedRows row) [F.sess] d (d.clearSession row) := by
  have hsess : Only (clearedRows row) [F.sess] d (d.setSess row { SessX.empty with gen := (d.sessOf row).gen }) :=
    (Only.refl _ _ d).keeps (by decide) (setSess_keeps (fun _ h => h) (Keeps.refl _ _))
  unfold clearSession
  exact ((((hsess.wr (Or.inr (by simp [clearedRows]))).wr (Or.inr (by simp [clearedRows]))).wr (Or.inr (by simp [clearedRows]))).wr
    (Or.inr (by simp [clearedRows]))).wr (Or.inr (by simp [clearedRows]))

@[simp] theorem sessOf_wr (d : Device) (o r v row : Nat) : (d.wr o r v).sessOf row = d.sessOf row := rfl

theorem clearSession_sessOf_ne (d : Device) {row r : Nat} (h : r ≠ row) : (d.clearSession row).sessOf r = d.sessOf r := by
  unfold clearSession
  dsimp only
  rw [sessOf_wr, sessOf_wr, sessOf_wr, sessOf_wr, sessOf_wr, sessOf_setSess_ne d h]

end Device

/-- The event session has its room still when another row is freed, and none stands open when it is its own. -/
theorem EventRoom.clearSession {d : Device} (h : EventRoom d) (row : Nat) : EventRoom (d.clearSession row) := by
  intro r hr
  have hevent : (d.clearSession row).rd O.RING_EVENT_SESSION = d.rd O.RING_EVENT_SESSION :=
    (d.clearSession_only row).2 _ _ (by decide) (by simp [clearedRows])
  obtain ⟨hmod, hlo, hhi, hstate, hid⟩ := Device.openRow_eq_some hr
  have hother : r % 2 ^ 24 ≠ row % 2 ^ 24 := by
    intro heq
    have hsame : (d.clearSession row).rd O.SESSION_STATE r = (d.clearSession row).rd O.SESSION_STATE row := by
      unfold Device.rd keyOf
      rw [heq]
    rw [hsame, Device.clearSession_state] at hstate
    exact absurd hstate (by decide)
  have hrd : ∀ o, o ≠ F.sess → (d.clearSession row).rd o r = d.rd o r := fun o ho =>
    (d.clearSession_only row).2 o r (by simpa using ho) fun e he _ => by
      unfold clearedRows at he
      simp only [List.mem_cons, List.not_mem_nil, or_false] at he
      rcases he with rfl | rfl | rfl | rfl | rfl <;> exact hother
  have hopen : d.openRow (d.rd O.RING_EVENT_SESSION) = some r := by
    rw [hrd _ (by decide)] at hstate hid
    rw [hevent] at hid hmod
    unfold Device.openRow
    dsimp only
    rw [← hmod, if_pos ⟨hlo, hhi, hstate, hid⟩]
  rw [Device.clearSession_sessOf_ne d (fun heq => hother (by rw [heq]))]
  exact h r hopen

namespace Device

/-! #### A proof that fails -/

/-- The fourth failure of transport `t` in 10 s: the lockout, before its NOTE. -/
def lockTransport (d : Device) (t : Transport) : Device :=
  (d.setProofFails (d.proofFails.filter (fun e => decide (e.1 ≠ t)))).setLockouts
    (d.lockoutUntil.filter (fun e => decide (e.1 ≠ t)) ++ [(t, d.cyc + msCycles 10000)])

theorem failsOf_congr {a b : Device} (hfails : b.proofFails = a.proofFails) (hcyc : b.cyc = a.cyc) (t : Transport) :
    b.failsOf t = a.failsOf t := by
  unfold failsOf
  rw [hfails, hcyc]

theorem proofFailed_fourth {d : Device} {t : Transport} (h : 3 ≤ (d.failsOf t).length) :
    d.proofFailed t = (d.lockTransport t).note 0x0205 0x0C00 (leBytes 4 (transportCode t)) := by
  unfold proofFailed
  dsimp only
  rw [if_pos (by rw [List.length_append]; exact Nat.succ_le_succ h)]
  rfl

theorem proofFailed_earlier {d : Device} {t : Transport} (h : ¬ 3 ≤ (d.failsOf t).length) :
    ∃ l, d.proofFailed t = d.setProofFails l := by
  unfold proofFailed
  dsimp only
  rw [if_neg (by rw [List.length_append, List.length_singleton]; omega)]
  exact ⟨_, rfl⟩

theorem lockTransport_keeps (d : Device) (t : Transport) : Keeps [F.proofFails, F.lockoutUntil] d (d.lockTransport t) :=
  setLockouts_keeps (by unfold Sub; decide) (setProofFails_keeps (by unfold Sub; decide) (Keeps.refl _ _))

/-- With room at the event session a failed proof changes its transport's count and lockout, and what the NOTE changes. -/
theorem proofFailed_room {d : Device} (h : EventRoom d) (t : Transport) :
    Keeps (F.proofFails :: F.lockoutUntil :: noted) d (d.proofFailed t) := by
  by_cases hfour : 3 ≤ (d.failsOf t).length
  · rw [proofFailed_fourth hfour]
    have hlock := lockTransport_keeps d t
    exact (hlock.mono (by unfold Sub; decide)).trans ((note_room (h.keeps hlock (by decide)) _ _ _).mono (by unfold Sub; decide))
  · obtain ⟨l, hl⟩ := proofFailed_earlier hfour
    rw [hl]
    exact setProofFails_keeps (by unfold Sub; decide) (Keeps.refl _ _)

theorem proofFailed_locks {d : Device} (h : EventRoom d) {t : Transport} (hfour : 3 ≤ (d.failsOf t).length) :
    (d.proofFailed t).lockedOut t = true := by
  have hlock := lockTransport_keeps d t
  have hnote := note_room (h.keeps hlock (by decide)) 0x0205 0x0C00 (leBytes 4 (transportCode t))
  have huntil : (d.proofFailed t).lockoutUntil = (d.lockTransport t).lockoutUntil := by
    rw [proofFailed_fourth hfour]
    exact hnote.fields 11 (by decide)
  have hcyc : (d.proofFailed t).cyc = d.cyc := by
    rw [proofFailed_fourth hfour]
    exact (hnote.fields 4 (by decide)).trans (hlock.fields 4 (by decide))
  have hmem : (t, d.cyc + msCycles 10000) ∈ (d.lockTransport t).lockoutUntil := List.mem_append_right _ (List.mem_singleton.2 rfl)
  unfold lockedOut
  rw [huntil, hcyc, List.any_eq_true]
  refine ⟨_, hmem, ?_⟩
  simp [msCycles]

/-! #### A proof that is good -/

theorem becomeOpen_only (d : Device) (row : Nat) : Only [(O.SESSION_STATE, row)] [F.sess] d (d.becomeOpen row) :=
  ((Only.refl _ _ d).keeps (by decide) (setSess_keeps (fun _ h => h) (Keeps.refl _ _))).wr (Or.inr List.mem_cons_self)

theorem becomeOpen_state (d : Device) (row : Nat) : (d.becomeOpen row).rd O.SESSION_STATE row = 2 := rd_wr_self _ _ _ _

theorem becomeOpen_lastAt (d : Device) (row : Nat) : ((d.becomeOpen row).sessOf row).lastAt = d.cyc :=
  congrArg SessX.lastAt (sessOf_setSess_self d row { d.sessOf row with lastAt := d.cyc })

/-- The rows that a session opened under a certificate changes. -/
def certRows (row : Nat) : List (Nat × Nat) := [(O.SESSION_STATE, row), (O.DBG_CERT_SCOPE, row), (O.DBG_CERT_EXPIRES, row)]

theorem certRows_objects (row : Nat) : ∀ e ∈ certRows row, e.1 < 0x1000000 := by
  simp only [certRows, List.forall_mem_cons, List.not_mem_nil, false_imp_iff, implies_true, and_true]
  decide

theorem becomeOpenCert_only (d : Device) (row : Nat) : Only (certRows row) [F.sess] d (d.becomeOpenCert row) :=
  (((becomeOpen_only d row).mono (by simp [certRows]) fun _ h => h).wr (Or.inr (by simp [certRows]))).wr (Or.inr (by simp [certRows]))

/-- Scope and expiry are what the certificate gives (R344, R345). -/
theorem becomeOpenCert_rd (d : Device) (row : Nat) :
    (d.becomeOpenCert row).rd O.SESSION_STATE row = 2 ∧
      (d.becomeOpenCert row).rd O.DBG_CERT_SCOPE row = leNat (slice 40 4 (d.certBytes row)) ∧
      (d.becomeOpenCert row).rd O.DBG_CERT_EXPIRES row =
        timeOf (d.phc + leNat (slice 44 4 (d.certBytes row)) * (1000000000 * 65536)) := by
  unfold becomeOpenCert
  dsimp only
  refine ⟨?_, ?_, ?_⟩
  · rw [rd_wr_obj _ _ _ _ (by decide), rd_wr_obj _ _ _ _ (by decide), becomeOpen_state]
  · rw [rd_wr_obj _ _ _ _ (by decide), rd_wr_self]
  · rw [rd_wr_self]
    rfl

/-! #### What decides a PROVE -/

theorem rd_congr {a b : Device} (hdict : b.dict = a.dict) (o row : Nat) : b.rd o row = a.rd o row := by
  unfold rd
  rw [hdict]

theorem sessOf_congr {a b : Device} (hsess : b.sess = a.sess) (row : Nat) : b.sessOf row = a.sessOf row := by
  unfold sessOf
  rw [hsess]

theorem openingRow_congr {a b : Device} (hdict : b.dict = a.dict) (t : Transport) (id : Nat) : b.openingRow t id = a.openingRow t id := by
  unfold openingRow
  simp only [rd_congr hdict]

theorem certBytes_congr {a b : Device} (hdict : b.dict = a.dict) (row : Nat) : b.certBytes row = a.certBytes row := by
  unfold certBytes
  simp only [rd_congr hdict]

theorem proofWanted_congr {a b : Device} (hdict : b.dict = a.dict) (hsess : b.sess = a.sess) (t : Transport) (row : Nat) :
    b.proofWanted t row = a.proofWanted t row := by
  unfold proofWanted
  simp only [rd_congr hdict, certBytes_congr hdict, sessOf_congr hsess]

theorem certGood_congr {a b : Device} (hdict : b.dict = a.dict) (hsess : b.sess = a.sess) (hotp : b.otp = a.otp) (row : Nat) :
    b.certGood row = a.certGood row := by
  have howner : b.ownerKeyHash = a.ownerKeyHash := by
    unfold ownerKeyHash ownerHashField otpBits
    rw [otpWords_congr hotp, rd_congr hdict]
  unfold certGood
  simp only [rd_congr hdict, certBytes_congr hdict, sessOf_congr hsess, serial_congr hotp, howner]

/-- What PROVE does with an OPENING row of its transport. -/
theorem proveSession_of_row {d : Device} {t : Transport} {id row : Nat} (hboot : d.mode ≠ .boot) (hreset : d.mode ≠ .reset)
    (hrow : d.openingRow t id = some row) (proof : Bytes) :
    d.proveSession t id proof =
      if proof ≠ d.proofWanted t row then (if 4 ≤ d.rd O.SESSION_ROLE row then 0xA402 else 0xA405, (d.clearSession row).proofFailed t)
      else if 4 ≤ d.rd O.SESSION_ROLE row then (if d.certGood row then (0, d.becomeOpenCert row) else (0xA402, d.clearSession row))
      else (0, d.becomeOpen row) := by
  unfold proveSession
  rw [if_neg (by simp [hboot, hreset]), hrow]
  simp only [decide_eq_true_eq]
  rfl

theorem proveSession_role {d : Device} {t : Transport} {id row : Nat} (hboot : d.mode ≠ .boot) (hreset : d.mode ≠ .reset)
    (hrow : d.openingRow t id = some row) {proof : Bytes} (hproof : proof = d.proofWanted t row) (hrole : d.rd O.SESSION_ROLE row < 4) :
    d.proveSession t id proof = (0, d.becomeOpen row) := by
  rw [proveSession_of_row hboot hreset hrow, if_neg (not_not.2 hproof), if_neg (by omega)]

theorem proveSession_cert {d : Device} {t : Transport} {id row : Nat} (hboot : d.mode ≠ .boot) (hreset : d.mode ≠ .reset)
    (hrow : d.openingRow t id = some row) {proof : Bytes} (hproof : proof = d.proofWanted t row) (hrole : 4 ≤ d.rd O.SESSION_ROLE row) :
    d.proveSession t id proof = if d.certGood row then (0, d.becomeOpenCert row) else (0xA402, d.clearSession row) := by
  rw [proveSession_of_row hboot hreset hrow, if_neg (not_not.2 hproof), if_pos hrole]

/-- A PROVE for this device whose message is good is answered with its outcome. -/
theorem ringProve_good {d : Device} {m : RingMsg} (hin : d.inRing = true) (hme : d.forMe m = true) (htype : m.type = 7)
    (hcrc : m.crc = crc32 (ringCovered m)) (hlen : m.payload.length = 20) :
    d.ringProve m = (d.proveSession .ring (leNat (m.payload.take 4)) (m.payload.drop 4)).2.ringAnswer m 3
      (leBytes 2 (d.proveSession .ring (leNat (m.payload.take 4)) (m.payload.drop 4)).1 ++ leBytes 2 0) := by
  have haccept : d.ringAccept m = (true, d) := ringAccept_good hcrc (by rw [htype]; rfl) (by omega)
  unfold ringProve
  rw [if_neg (by simp [hin, hme, htype])]
  dsimp only
  rw [haccept, if_neg (by simp), if_neg (not_not.2 hlen)]

end Device

/-- Settles O17: PROVE opens the row, frees it, or counts the failure, and each transport answers with the code. -/
theorem proofsOpenSessions : Obligations.ProofsOpenSessions := by
  unfold Obligations.ProofsOpenSessions
  refine ⟨?ring, ?wrong, ?window, ?debug⟩
  case ring =>
    intro m row s hin hme htype hcrc hlen hboot hreset hrow hproof
    have hrun := Device.ringProve_good hin hme htype hcrc hlen
    refine ⟨fun hrole => ?_, fun hrole => ?_⟩
    · rw [Device.proveSession_role hboot hreset hrow hproof hrole] at hrun
      have honly := Device.becomeOpen_only s.dev row
      have hstate := Device.becomeOpen_state s.dev row
      have hlast := Device.becomeOpen_lastAt s.dev row
      have hring : (s.dev.becomeOpen row).ring = s.dev.ring := rfl
      dsimp only at hrun
      refine ⟨{ s with dev := s.dev.ringProve m }, (s.dev.becomeOpen row).answerTo m 3 (leBytes 2 0 ++ leBytes 2 0), rfl, ?_⟩
      rw [hrun, ← hring]
      generalize s.dev.becomeOpen row = f at *
      exact ⟨hstate, hlast, rfl, rfl, rfl, (honly.mono (fun _ h => h) (by unfold Sub; decide)).keeps (by decide)
        (Device.ringAnswer_keeps (by unfold Sub; decide) (Keeps.refl _ _))⟩
    · rw [Device.proveSession_cert hboot hreset hrow hproof hrole] at hrun
      cases hcert : s.dev.certGood row with
      | true =>
        have honly := Device.becomeOpenCert_only s.dev row
        obtain ⟨hstate, hscope, hexpires⟩ := Device.becomeOpenCert_rd s.dev row
        have hring : (s.dev.becomeOpenCert row).ring = s.dev.ring := honly.field 14 (by decide) (Device.certRows_objects row)
        rw [hcert, if_pos rfl] at hrun
        dsimp only at hrun
        refine ⟨{ s with dev := s.dev.ringProve m }, (s.dev.becomeOpenCert row).answerTo m 3 (leBytes 2 0 ++ leBytes 2 0), rfl, ?_⟩
        rw [hrun, ← hring]
        generalize s.dev.becomeOpenCert row = f at *
        exact ⟨rfl, rfl, rfl, fun _ => ⟨(Device.ringSend_rd _ _ _ _).trans hstate, rfl,
          (Device.ringSend_rd _ _ _ _).trans hscope, (Device.ringSend_rd _ _ _ _).trans hexpires, (honly.mono (fun _ h => h) (by unfold Sub; decide)).keeps (by decide)
          (Device.ringAnswer_keeps (by unfold Sub; decide) (Keeps.refl _ _))⟩, fun h => nomatch h⟩
      | false =>
        have honly := s.dev.clearSession_only row
        have hstate := s.dev.clearSession_state row
        have hring : (s.dev.clearSession row).ring = s.dev.ring := honly.field 14 (by decide) (clearedRows_objects row)
        rw [hcert, if_neg Bool.false_ne_true] at hrun
        dsimp only at hrun
        refine ⟨{ s with dev := s.dev.ringProve m }, (s.dev.clearSession row).answerTo m 3 (leBytes 2 0xA402 ++ leBytes 2 0), rfl, ?_⟩
        rw [hrun, ← hring]
        generalize s.dev.clearSession row = f at *
        exact ⟨rfl, rfl, rfl, fun h => (nomatch h), fun _ => ⟨hstate, rfl, (honly.mono (fun _ h => h) (by unfold Sub; decide)).keeps (by decide)
          (Device.ringAnswer_keeps (by unfold Sub; decide) (Keeps.refl _ _))⟩⟩
  case wrong =>
    intro m row s hin hme htype hcrc hlen hboot hreset hrow hproof hroom
    have hrun := Device.ringProve_good hin hme htype hcrc hlen
    rw [Device.proveSession_of_row hboot hreset hrow, if_pos hproof] at hrun
    dsimp only at hrun
    have hclear := s.dev.clearSession_only row
    have hroom' := hroom.clearSession row
    have hfail := Device.proofFailed_room hroom' .ring
    have hfails : (s.dev.clearSession row).failsOf .ring = s.dev.failsOf .ring :=
      Device.failsOf_congr (hclear.field 10 (by decide) (clearedRows_objects row)) (hclear.field 4 (by decide) (clearedRows_objects row)) _
    have hlocks : 3 ≤ (s.dev.failsOf .ring).length → ((s.dev.clearSession row).proofFailed .ring).lockedOut .ring = true := fun h =>
      Device.proofFailed_locks hroom' (by rw [hfails]; exact h)
    have hstate : ((s.dev.clearSession row).proofFailed .ring).rd O.SESSION_STATE row = 0 := by
      rw [hfail.objs (by decide) _ _ (by decide), Device.clearSession_state]
    have hframe : Only (clearedRows row) (F.proofFails :: F.lockoutUntil :: F.ring :: F.out :: F.pciePending :: noted) s.dev
        ((s.dev.clearSession row).proofFailed .ring) :=
      (hclear.mono (fun _ h => h) (by unfold Sub; decide)).keeps (by decide) (hfail.mono (by unfold Sub; decide))
    generalize (s.dev.clearSession row).proofFailed .ring = f at *
    refine ⟨{ s with dev := s.dev.ringProve m },
      f.answerTo m 3 (leBytes 2 (if 4 ≤ s.dev.rd O.SESSION_ROLE row then 0xA402 else 0xA405) ++ leBytes 2 0), rfl, ?_⟩
    rw [hrun]
    exact ⟨hstate, hlocks, List.getLast?_concat, rfl, rfl, rfl,
      hframe.keeps (by decide) (Device.ringAnswer_keeps (by unfold Sub; decide) (Keeps.refl _ _))⟩
  case window =>
    intro w p row s hready hboot hlen hrow hproof hrole
    obtain ⟨d, hd⟩ : ∃ d, d = s.dev.windowSubmit w 0 0 20 4 p := ⟨_, rfl⟩
    have hmode : d.mode = s.dev.mode := hd ▸ Device.windowSubmit_mode _ _ _ _ _ _ _
    have hdict : d.dict = s.dev.dict := hd ▸ rfl
    have hsess : d.sess = s.dev.sess := hd ▸ rfl
    have hreset : s.dev.mode ≠ .reset := by
      unfold Device.windowReady at hready
      simp only [Bool.and_eq_true, bne_iff_ne, ne_eq] at hready
      exact hready.1.1
    have hprove : d.proveSession .pcie (leNat (p.take 4)) (p.drop 4) = (0, d.becomeOpen row) :=
      Device.proveSession_role (by rw [hmode]; exact hboot) (by rw [hmode]; exact hreset)
        ((Device.openingRow_congr hdict _ _).trans hrow) (hproof.trans (Device.proofWanted_congr hdict hsess _ _).symm)
        (by unfold Device.rd; rw [hdict]; exact hrole)
    have hrun : s.dev.pcieWindowProve w p = (d.becomeOpen row).windowDone w 0 [] := by
      unfold Device.pcieWindowProve
      rw [if_neg (by simp [hready]), hlen]
      dsimp only
      rw [← hd, if_neg (by rw [hmode]; exact hboot), if_neg (by simp), hprove]
    have hwin : (d.becomeOpen row).winOf w = ⟨0, 0, 20, 4, true, (s.dev.winOf w).abort, p⟩ :=
      hd ▸ Device.windowSubmit_winOf _ _ _ _ _ _ _
    have hdone := Device.windowDone_keeps (w := w) (abort := 0) (value := []) (fun _ h => h) (Keeps.refl Touch.windowDone (d.becomeOpen row))
    have hsubmit : Only [(O.SESSION_STATE, row)] [F.pcieWindows] s.dev d := hd ▸ (Only.refl _ _ _).keeps (by decide)
      (Device.windowSubmit_keeps (by unfold Sub; decide) (Keeps.refl _ _))
    refine ⟨{ s with dev := s.dev.pcieWindowProve w p }, rfl, ?_⟩
    rw [hrun]
    refine ⟨?_, ?_, ((hsubmit.mono (fun _ h => h) (by unfold Sub; decide)).trans
      ((Device.becomeOpen_only d row).mono (fun _ h => h) (by unfold Sub; decide))).keeps (by decide) (hdone.mono (by unfold Sub; decide))⟩
    · rw [hdone.objs (by decide) _ _ (by decide), Device.becomeOpen_state]
    · rw [Device.windowDone_winOf, hwin]
  case debug =>
    intro row s hboot hreset hrow hproof hgood
    obtain ⟨d, hd⟩ : ∃ d, d = s.dev.dapScan (Device.dapWord 0 0 7 0) := ⟨_, rfl⟩
    have hmode : d.mode = s.dev.mode := hd ▸ rfl
    have hdict : d.dict = s.dev.dict := hd ▸ rfl
    have hsess : d.sess = s.dev.sess := hd ▸ rfl
    have hotp : d.otp = s.dev.otp := hd ▸ rfl
    have hbuf : d.jtag.buf = s.dev.jtag.buf := hd ▸ rfl
    have hbytes : ∀ o n, d.dapBytes o n = s.dev.dapBytes o n := fun o n => by
      unfold Device.dapBytes
      rw [hbuf]
    have hrow' : d.openingRow .debug (leNat (d.dapBytes 0 4)) = some row := by
      rw [hbytes, Device.openingRow_congr hdict, hrow]
    have hproof' : d.dapBytes 4 16 = d.proofWanted .debug row := by
      rw [hbytes, Device.proofWanted_congr hdict hsess, hproof]
    have hrole' : d.rd O.SESSION_ROLE row = s.dev.rd O.SESSION_ROLE row := by
      unfold Device.rd
      rw [hdict]
    have hboot' : d.mode ≠ .boot := by rw [hmode]; exact hboot
    have hreset' : d.mode ≠ .reset := by rw [hmode]; exact hreset
    have hprove : ∃ f, d.proveSession .debug (leNat (d.dapBytes 0 4)) (d.dapBytes 4 16) = (0, f) ∧ f.rd O.SESSION_STATE row = 2 ∧
        Only (Device.certRows row) [F.sess] d f := by
      by_cases hrole : d.rd O.SESSION_ROLE row < 4
      · exact ⟨_, Device.proveSession_role hboot' hreset' hrow' hproof' hrole, Device.becomeOpen_state _ _,
          (Device.becomeOpen_only d row).mono (by simp [Device.certRows]) fun _ h => h⟩
      · have hcert : d.certGood row = true := hgood.elim (fun h => absurd (hrole'.trans_lt h) hrole) fun h => by
          rw [Device.certGood_congr hdict hsess hotp, h]
        refine ⟨d.becomeOpenCert row, ?_, (Device.becomeOpenCert_rd d row).1, Device.becomeOpenCert_only d row⟩
        rw [Device.proveSession_cert hboot' hreset' hrow' hproof' (by omega), if_pos hcert]
    obtain ⟨f, hf, hstate, honly⟩ := hprove
    have hrun : s.dev.dapProve = f.setDapAbort 0 := by
      unfold Device.dapProve
      rw [if_neg hreset]
      dsimp only
      rw [← hd, hf]
    have hscan : Only (Device.certRows row) [F.jtag, F.out] s.dev d := hd ▸ (Device.dapScan_only _ _).mono (by simp) (fun _ h => h)
    refine ⟨{ s with dev := s.dev.dapProve }, rfl, ?_⟩
    rw [hrun]
    exact ⟨hstate, rfl, ((hscan.mono (fun _ h => h) (by unfold Sub; decide)).trans (honly.mono (fun _ h => h) (by unfold Sub; decide))).keeps
      (by decide) (Device.setDapAbort_keeps (by unfold Sub; decide) (Keeps.refl _ _))⟩

end Sys2Proof.Machine
end

section
/-!
PROOF. The family 03_holloth_ring_and_host_port: every way into RESET, and the way out of it.
-/
set_option Elab.async false
namespace Sys2Proof.Machine

/-! ### RESET (R79, R80, R85, R89) -/

/-- What outlives a reset is in `b` as it was in `a`, and nothing that was put out is taken back. -/
structure Outlives (a b : Device) : Prop where
  part : b.part = a.part
  draws : b.draws = a.draws
  out : a.out <+: b.out
  otp : b.otp = a.otp
  flash : b.flash = a.flash
  jtag : b.jtag = a.jtag

/-- The fields that outlive a reset beside the outputs. -/
def lasting : List Nat := [F.draws, F.otp, F.flash, F.jtag]

theorem Outlives.of_keeps {V : List Nat} {a b : Device} (k : Keeps V a b) (hV : ∀ f ∈ lasting, f ∉ V) (h : a.out <+: b.out) : Outlives a b :=
  ⟨k.part, k.fields 7 (hV _ (by decide)), h, k.fields 48 (hV _ (by decide)), k.fields 49 (hV _ (by decide)), k.fields 20 (hV _ (by decide))⟩

theorem Outlives.trans {a b c : Device} (h : Outlives a b) (g : Outlives b c) : Outlives a c :=
  ⟨g.part.trans h.part, g.draws.trans h.draws, h.out.trans g.out, g.otp.trans h.otp, g.flash.trans h.flash, g.jtag.trans h.jtag⟩

namespace Device

/-- What is stopped and undriven before a device is cleared outlives it. -/
theorem stopped_outlives (d : Device) : Outlives d (d.stopFrames (fun _ => true)).undrive :=
  Outlives.of_keeps (V := F.out :: Touch.stopFrames)
    ((stopFrames_keeps (by unfold Sub; decide) (Keeps.refl _ _)).trans (undrive_keeps (by unfold Sub; decide) (Keeps.refl _ _))) (by decide)
    (undrive_evolves (stopFrames_evolves (.refl d))).out

theorem afterReset_cleared {latch : Nat} {a d : Device} (h : Outlives a d) : afterReset latch a (d.cleared latch) :=
  have htap : d.jtag.tap = a.jtag.tap := congrArg JtagX.tap h.jtag
  ⟨rfl, rfl, rfl, rfl, fun _ _ => rfl, fun _ => rfl, fun _ => rfl, rfl, rfl, rfl, rfl, rfl, rfl, rfl, rfl, h.otp, h.flash,
    htap, h.part, h.draws, h.out⟩

/-- A device that enters RESET is after it what a reset leaves, of whatever it was in its place before. -/
theorem afterReset_enterReset {a d : Device} (hmode : d.mode ≠ .reset) (h : Outlives a d) (latch : Nat) :
    afterReset latch a (d.enterReset latch) := by
  unfold enterReset
  rw [if_neg hmode]
  exact afterReset_cleared (h.trans d.stopped_outlives)

theorem accept_roleOf (d : Device) (r r' : Req) : (d.accept r).roleOf r' = d.roleOf r' := by
  unfold roleOf sessionRow openRow
  simp only [accept_rd]

/-- A command whose body resets the device leaves it in RESET, and no response. -/
theorem resetCommand_resets {s : State} {r : Req} {o latch : Nat} {f : Device → Nat × Device} {c : Conds} (ho : o ∉ lasting) (hasked : Asked r o 0 s.dev)
    (hf : f (s.dev.accept r) = runCmd r o 0 c (fun d => (none, d.enterReset latch)) (s.dev.accept r))
    (hcheck : (s.dev.accept r).cmdCheck r o 0 c = 0) :
    ∃ t, s.on (fun d => d.direct r f) = .next t ∧ afterReset latch s.dev t.dev := by
  obtain ⟨hreset, hpass⟩ := hasked
  have hboot := cmdCheck_mode hpass
  have hmode : ((s.dev.accept r).startCmd o 0).mode ≠ .reset := by
    show (s.dev.accept r).mode ≠ .reset
    rwa [accept_mode]
  have hkeeps : Keeps (o :: Touch.accept) s.dev ((s.dev.accept r).startCmd o 0) :=
    ((accept_keeps_all s.dev r).mono fun _ h => List.mem_cons_of_mem _ h).trans (Keeps.wr (Or.inl List.mem_cons_self) (Keeps.refl _ _))
  have hlasting : ∀ k ∈ lasting, k ∉ o :: Touch.accept := fun k hk hm => by
    rcases List.mem_cons.1 hm with rfl | hm
    · exact ho hk
    · exact absurd hm ((by decide : ∀ k ∈ lasting, k ∉ Touch.accept) k hk)
  have hout : s.dev.out <+: ((s.dev.accept r).startCmd o 0).out := by
    show s.dev.out <+: (s.dev.accept r).out
    rw [accept_out]
  have hafter := afterReset_enterReset hmode (Outlives.of_keeps hkeeps hlasting hout) latch
  have hran : f (s.dev.accept r) = (0, ((s.dev.accept r).startCmd o 0).enterReset latch) := by rw [hf, runCmd_pass hcheck]; rfl
  have heq : s.dev.direct r f = ((s.dev.accept r).startCmd o 0).enterReset latch := by
    unfold direct
    rw [if_neg (by simp [hreset, hboot]), if_neg hboot]
    dsimp only
    rw [hran]
    exact if_pos hafter.1
  exact ⟨{ s with dev := s.dev.direct r f }, rfl, heq ▸ hafter⟩

end Device

/-- Settles O30: each way into RESET is the one operation that clears the device. -/
theorem resetClearsAllButFuses : Obligations.ResetClearsAllButFuses := by
  unfold Obligations.ResetClearsAllButFuses
  refine ⟨?power, ?resetN, ?mode, ?activate, ?release, ?held⟩
  case power =>
    intro s hmode
    have hafter := Device.afterReset_enterReset hmode (Outlives.of_keeps (Keeps.refl [] s.dev) (by decide) List.prefix_rfl) 1
    refine ⟨{ s with dev := s.dev.pwrGoodLow }, rfl, ?_⟩
    have heq : s.dev.pwrGoodLow = ((s.dev.enterReset 1).setLatch 1).setPins { (s.dev.enterReset 1).pins with pwrGood := false } := rfl
    rw [heq]
    generalize s.dev.enterReset 1 = f at *
    obtain ⟨h1, -, hrest⟩ := hafter
    exact ⟨⟨h1, rfl, hrest⟩, rfl⟩
  case resetN =>
    intro s hmode
    have hafter := Device.afterReset_enterReset hmode (Outlives.of_keeps (Keeps.refl [] s.dev) (by decide) List.prefix_rfl) 2
    refine ⟨{ s with dev := s.dev.resetNLow }, rfl, ?_⟩
    have heq : s.dev.resetNLow = (s.dev.enterReset 2).setPins { (s.dev.enterReset 2).pins with resetN := false } := rfl
    rw [heq]
    generalize s.dev.enterReset 2 = f at *
    exact ⟨hafter, rfl⟩
  case mode =>
    intro r s hasked hrole hsafe
    refine Device.resetCommand_resets (by decide) hasked rfl (Device.cmdCheck_pass (x := false) (by rw [Device.cmdCheck_accept]; exact hasked.2)
      rfl (by simp [Conds.none]) ?_ ?_ (by simp [Conds.none]) (by simp [Conds.none]))
    · simp [Device.accept_roleOf, hrole]
    · rcases hsafe with h | h <;> simp [Device.rdB, h]
  case activate =>
    intro r s hasked hrole hmode
    have hrole' : (s.dev.accept r).fwRole r = false := by
      unfold Device.fwRole at hrole ⊢
      rwa [Device.accept_roleOf, Device.accept_rd]
    refine Device.resetCommand_resets (by decide) hasked rfl (Device.cmdCheck_pass (x := false) (by rw [Device.cmdCheck_accept]; exact hasked.2)
      rfl (by simp [Device.fwConds, Conds.none]) ?_ ?_ (by simp [Device.fwConds, Conds.none]) (by simp [Device.fwConds, Conds.none]))
    · simp [Device.fwConds, hrole']
    · simp [Device.fwConds, hmode]
  case release =>
    intro s hmode htap
    have heq : s.dev.resetRelease = (((s.dev.setPins { s.dev.pins with pwrGood := true, resetN := true }).setModeField .boot).wr O.MODE 0 1).wr
        O.BOOT_RESET_CAUSE 0 s.dev.resetLatch := by
      unfold Device.resetRelease
      generalize { s.dev.pins with pwrGood := true, resetN := true } = p
      have hmode' : ¬ (s.dev.setPins p).mode ≠ .reset := not_not.2 hmode
      have htap' : ¬ (s.dev.setPins p).jtag.tap = .extest := htap
      dsimp only
      rw [if_neg hmode', if_neg htap']
      rfl
    refine ⟨{ s with dev := s.dev.resetRelease }, rfl, ?_⟩
    rw [heq]
    refine ⟨rfl, ?_, Device.rd_wr_self _ _ _ _, rfl, rfl, ?_⟩
    · rw [Device.rd_wr_obj _ _ _ _ (by decide), Device.rd_wr_self]
    · exact ((((Only.refl _ _ _).keeps (by decide) (Device.setPins_keeps (by unfold Sub; decide) (Keeps.refl _ _))).keeps (by decide)
        (Device.setModeField_keeps (by unfold Sub; decide) (Keeps.refl _ _))).wr (Or.inr (by simp))).wr (Or.inr (by simp))
  case held =>
    intro s hmode htap
    have heq : s.dev.resetRelease = (s.dev.setPins { s.dev.pins with pwrGood := true, resetN := true }).setLatch 4 := by
      unfold Device.resetRelease
      generalize { s.dev.pins with pwrGood := true, resetN := true } = p
      have hmode' : ¬ (s.dev.setPins p).mode ≠ .reset := not_not.2 hmode
      have htap' : (s.dev.setPins p).jtag.tap = .extest := htap
      dsimp only
      rw [if_neg hmode', if_pos htap']
    refine ⟨{ s with dev := s.dev.resetRelease }, rfl, ?_⟩
    rw [heq]
    exact ⟨hmode, rfl, ((Only.refl _ _ _).keeps (by decide) (Device.setPins_keeps (by unfold Sub; decide) (Keeps.refl _ _))).keeps
      (by decide) (Device.setLatch_keeps (by unfold Sub; decide) (Keeps.refl _ _))⟩

end Sys2Proof.Machine
end

section
/-!
PROOF. The family 03_holloth_ring_and_host_port: what the close of a session lets go of, through every message, record and gun entry
that the close itself may give rise to.
-/
set_option Elab.async false
namespace Sys2Proof.Machine

/-! ### What closing leaves of a lock, a group and a ring (R67) -/

/-- Group `g` is as it was, overruled, or idle and empty. -/
structure GroupFrees (g : Nat) (a b : Device) : Prop where
  idle : a.rd O.GROUP_STATE g = 0 → b.rd O.GROUP_STATE g = 0 ∧ (b.groupOf g = a.groupOf g ∨ b.groupOf g = GroupX.empty)
  opened : a.rd O.GROUP_STATE g = 1 → (b.rd O.GROUP_STATE g = 1 ∧ b.rd O.GROUP_OWNER g = a.rd O.GROUP_OWNER g) ∨
    (b.rd O.GROUP_STATE g = 0 ∧ b.groupOf g = GroupX.empty)
  armed : 2 ≤ a.rd O.GROUP_STATE g → 2 ≤ b.rd O.GROUP_STATE g

/-- A DMA ring of `b` is as it was in `a`, or nearer to its stop. -/
structure RingFrees (n : Nat) (a b : Device) : Prop where
  enable : a.rd O.RING_ENABLE n = 0 → b.rd O.RING_ENABLE n = 0
  stopped : a.rd O.RING_STATE n = 0 → b.rd O.RING_STATE n = 0
  taken : (a.dmaOf n).taken = [] → (b.dmaOf n).taken = []
  session : b.rd O.RING_SESSION n = a.rd O.RING_SESSION n

/-- Lock, groups, rings and session rows are as they were, or let go. -/
structure Frees (a b : Device) : Prop where
  lock : b.rd O.LOCK = a.rd O.LOCK ∨ b.rd O.LOCK = 0
  group : ∀ g, g ≤ 16 → GroupFrees g a b
  ring : ∀ n, n < 64 → RingFrees n a b
  closed : ∀ row, a.rd O.SESSION_STATE row = 0 → b.rd O.SESSION_STATE row = 0

/-- What session `id` held in `a` is let go in `b` (R67). -/
structure Released (id : Nat) (a b : Device) : Prop where
  lock : a.rd O.LOCK = id → b.rd O.LOCK = 0
  group : ∀ g, g ≤ 16 → a.rd O.GROUP_STATE g = 1 → a.rd O.GROUP_OWNER g = id → b.rd O.GROUP_STATE g = 0 ∧ b.groupOf g = GroupX.empty
  ring : ∀ n, n < 64 → a.rd O.RING_SESSION n = id → id ≠ 0 →
    b.rd O.RING_ENABLE n = 0 ∧ ((a.dmaOf n).taken = [] → b.rd O.RING_STATE n = 0)

/-- A session whose identifier is gone has let go of what it held. -/
structure Closes (a b : Device) : Prop where
  frees : Frees a b
  row : ∀ row, b.rd O.SESSION_ID row = a.rd O.SESSION_ID row ∨ (b.rd O.SESSION_ID row = 0 ∧ Released (a.rd O.SESSION_ID row) a b)

/-! #### The relations compose -/

theorem GroupFrees.trans {g : Nat} {a b c : Device} (h : GroupFrees g a b) (k : GroupFrees g b c) : GroupFrees g a c where
  idle := fun ha => by
    obtain ⟨hb, hgb⟩ := h.idle ha
    obtain ⟨hc, hgc⟩ := k.idle hb
    refine ⟨hc, hgc.elim (fun e => ?_) Or.inr⟩
    rwa [e]
  opened := fun ha => by
    rcases h.opened ha with ⟨hb, ho⟩ | ⟨hb, he⟩
    · rcases k.opened hb with ⟨hc, ho'⟩ | hc
      · exact Or.inl ⟨hc, ho'.trans ho⟩
      · exact Or.inr hc
    · obtain ⟨hc, hgc⟩ := k.idle hb
      exact Or.inr ⟨hc, hgc.elim (fun e => e.trans he) id⟩
  armed := fun ha => k.armed (h.armed ha)

theorem RingFrees.trans {n : Nat} {a b c : Device} (h : RingFrees n a b) (k : RingFrees n b c) : RingFrees n a c :=
  ⟨fun e => k.enable (h.enable e), fun e => k.stopped (h.stopped e), fun e => k.taken (h.taken e), k.session.trans h.session⟩

theorem Frees.trans {a b c : Device} (h : Frees a b) (k : Frees b c) : Frees a c where
  lock := k.lock.elim (fun e => h.lock.elim (fun e' => Or.inl (e.trans e')) (fun e' => Or.inr (e.trans e'))) Or.inr
  group := fun g hg => (h.group g hg).trans (k.group g hg)
  ring := fun n hn => (h.ring n hn).trans (k.ring n hn)
  closed := fun row e => k.closed row (h.closed row e)

/-- What is let go stays so. -/
theorem Released.after {id : Nat} {a b c : Device} (h : Released id a b) (k : Frees b c) : Released id a c where
  lock := fun e => k.lock.elim (fun e' => e'.trans (h.lock e)) fun e' => e'
  group := fun g hg hs ho => by
    obtain ⟨hb, he⟩ := h.group g hg hs ho
    obtain ⟨hc, hgc⟩ := (k.group g hg).idle hb
    exact ⟨hc, hgc.elim (fun e => e.trans he) fun e => e⟩
  ring := fun n hn hs hid => by
    obtain ⟨he, hst⟩ := h.ring n hn hs hid
    exact ⟨(k.ring n hn).enable he, fun ht => (k.ring n hn).stopped (hst ht)⟩

/-- What was let go before the session closed need not be let go again. -/
theorem Released.before {id : Nat} {a b c : Device} (h : Frees a b) (k : Released id b c) (hbc : Frees b c) : Released id a c where
  lock := fun e => h.lock.elim (fun e' => k.lock (e'.trans e)) fun e' => hbc.lock.elim (fun x => x.trans e') fun x => x
  group := fun g hg hs ho => by
    rcases (h.group g hg).opened hs with ⟨hb, hob⟩ | ⟨hb, he⟩
    · exact k.group g hg hb (hob.trans ho)
    · obtain ⟨hc, hgc⟩ := (hbc.group g hg).idle hb
      exact ⟨hc, hgc.elim (fun e => e.trans he) fun e => e⟩
  ring := fun n hn hs hid => by
    obtain ⟨he, hst⟩ := k.ring n hn ((h.ring n hn).session.trans hs) hid
    exact ⟨he, fun ht => hst ((h.ring n hn).taken ht)⟩

theorem Closes.trans {a b c : Device} (h : Closes a b) (k : Closes b c) : Closes a c where
  frees := h.frees.trans k.frees
  row := fun row => by
    rcases h.row row with hab | ⟨hab, hr⟩
    · rcases k.row row with hbc | ⟨hbc, hr⟩
      · exact Or.inl (hbc.trans hab)
      · exact Or.inr ⟨hbc, .before h.frees (hab ▸ hr) k.frees⟩
    · refine Or.inr ⟨?_, hr.after k.frees⟩
      rcases k.row row with hbc | ⟨hbc, -⟩
      · exact hbc.trans hab
      · exact hbc

theorem GroupFrees.same {g : Nat} {a b : Device} (hs : b.rd O.GROUP_STATE g = a.rd O.GROUP_STATE g)
    (ho : b.rd O.GROUP_OWNER g = a.rd O.GROUP_OWNER g) (hx : b.groupOf g = a.groupOf g) : GroupFrees g a b :=
  ⟨fun h => ⟨hs.trans h, Or.inl hx⟩, fun h => Or.inl ⟨hs.trans h, ho⟩, fun h => hs ▸ h⟩

theorem RingFrees.same {n : Nat} {a b : Device} (he : b.rd O.RING_ENABLE n = a.rd O.RING_ENABLE n)
    (hs : b.rd O.RING_STATE n = a.rd O.RING_STATE n) (ht : (b.dmaOf n).taken = (a.dmaOf n).taken)
    (hr : b.rd O.RING_SESSION n = a.rd O.RING_SESSION n) : RingFrees n a b :=
  ⟨he.trans, hs.trans, ht.trans, hr⟩

/-- What the relations speak of, the DMA rings apart. -/
def heldPlaces : List Nat :=
  [F.objects, O.LOCK, O.GROUP_STATE, O.GROUP_OWNER, F.groups, O.RING_ENABLE, O.RING_STATE, O.RING_SESSION, O.SESSION_STATE, O.SESSION_ID]

/-- An operation that touches none of it, and takes no descriptor. -/
theorem Closes.of_keeps {V : List Nat} {a b : Device} (k : Keeps V a b) (hV : ∀ f ∈ heldPlaces, f ∉ V)
    (ht : ∀ n, (a.dmaOf n).taken = [] → (b.dmaOf n).taken = []) : Closes a b :=
  have same : ∀ o ∈ heldPlaces, ∀ r, b.rd o r = a.rd o r := fun o ho r => k.objs (hV _ (by decide)) o r (hV o ho)
  { frees :=
      { lock := Or.inl (same _ (by decide) _)
        group := fun g _ => .same (same _ (by decide) g) (same _ (by decide) g) (Device.groupOf_keeps k (hV _ (by decide)) g)
        ring := fun n _ => ⟨(same _ (by decide) n).trans, (same _ (by decide) n).trans, ht n, same _ (by decide) n⟩
        closed := fun row h => (same _ (by decide) row).trans h }
    row := fun row => Or.inl (same _ (by decide) row) }

/-- An operation that leaves the DMA rings' own fields alone, too. -/
theorem Closes.of_apart {V : List Nat} {a b : Device} (k : Keeps V a b) (hV : ∀ f ∈ F.pcieDma :: heldPlaces, f ∉ V) : Closes a b :=
  .of_keeps k (fun f hf => hV f (List.mem_cons_of_mem _ hf)) fun n h => by rw [Device.dmaOf_keeps k (hV _ List.mem_cons_self) n, h]

theorem Closes.refl (a : Device) : Closes a a := .of_apart (Keeps.refl [] a) (fun _ _ h => by cases h)

theorem Closes.of_frees {a b : Device} (h : Frees a b) (hid : ∀ row, b.rd O.SESSION_ID row = a.rd O.SESSION_ID row) : Closes a b :=
  ⟨h, fun row => Or.inl (hid row)⟩

/-- A fold of operations, each of which only lets go. -/
theorem Closes.foldl {β : Type} {f : Device → β → Device} :
    ∀ (l : List β), (∀ x ∈ l, ∀ a, Closes a (f a x)) → ∀ d, Closes d (l.foldl f d)
  | [], _, d => .refl d
  | x :: l, h, d => (h x List.mem_cons_self d).trans (Closes.foldl l (fun y hy => h y (List.mem_cons_of_mem _ hy)) (f d x))

/-- A fold over groups that are not open, each overruled in turn. -/
theorem Closes.foldl_armed {f : Device → Nat → Device} (h : ∀ a g, g ≤ 16 → 2 ≤ a.rd O.GROUP_STATE g → Closes a (f a g)) :
    ∀ (l : List Nat) (d : Device), (∀ g ∈ l, g ≤ 16 ∧ 2 ≤ d.rd O.GROUP_STATE g) → Closes d (l.foldl f d)
  | [], d, _ => .refl d
  | g :: l, d, hl => by
    obtain ⟨hg, harmed⟩ := hl g List.mem_cons_self
    have hone := h d g hg harmed
    refine hone.trans (Closes.foldl_armed h l _ fun x hx => ?_)
    obtain ⟨hxle, hx2⟩ := hl x (List.mem_cons_of_mem _ hx)
    exact ⟨hxle, (hone.frees.group x hxle).armed hx2⟩

/-- A fold that lets go of each of its places: what one step lets go, the others keep so. -/
theorem Closes.foldl_all {β : Type} {d0 : Device} {f : Device → β → Device} {P : β → Device → Prop} :
    ∀ (l : List β), (∀ x ∈ l, ∀ a, Closes a (f a x)) → (∀ x ∈ l, ∀ a, Closes d0 a → P x (f a x)) →
      (∀ x ∈ l, ∀ a b, Closes a b → P x a → P x b) → ∀ d, Closes d0 d → ∀ x ∈ l, P x (l.foldl f d)
  | [], _, _, _, _, _, _, hx => by cases hx
  | y :: l, hstep, hdone, hkeep, d, hd, x, hx => by
    have htail := fun z hz => hstep z (List.mem_cons_of_mem y hz)
    rcases List.mem_cons.1 hx with rfl | hx
    · exact hkeep _ List.mem_cons_self _ _ (Closes.foldl l htail (f d x)) (hdone _ List.mem_cons_self d hd)
    · exact Closes.foldl_all l htail (fun z hz => hdone z (List.mem_cons_of_mem _ hz)) (fun z hz => hkeep z (List.mem_cons_of_mem _ hz))
        (f d y) (hd.trans (hstep y List.mem_cons_self d)) x hx

namespace Device

/-! #### Rings -/

theorem setDma_closes {d : Device} {n : Nat} {x : DmaX} (h : (d.dmaOf n).taken = [] → x.taken = []) : Closes d (d.setDma n x) := by
  refine .of_keeps (setDma_keeps (fun _ h => h) (Keeps.refl Touch.setDma d)) (by decide) fun m hd => ?_
  by_cases hm : m = n
  · rw [hm, dmaOf_setDma_self, h (hm ▸ hd)]
  · rw [dmaOf_setDma_ne _ hm, hd]

theorem dmaHalt_enable (d : Device) (n : Nat) : (d.dmaHalt n).rd O.RING_ENABLE n = 0 := by
  unfold dmaHalt
  dsimp only
  split
  · exact rd_wr_self _ _ _ _
  split
  · rw [(dmaEnd_only _ n).2 _ _ (by decide) (by simp [stoppedRows]), rd_wr_self]
  · rw [setDma_rd, rd_wr_self]

/-- A ring with nothing in progress stops at once. -/
theorem dmaHalt_state {d : Device} {n : Nat} (h : (d.dmaOf n).taken = []) : (d.dmaHalt n).rd O.RING_STATE n = 0 := by
  by_cases hs : d.rd O.RING_STATE n = 0
  · rw [dmaHalt_stopped hs, rd_wr_obj _ _ _ _ (by decide), hs]
  · rw [dmaHalt_idle hs h, dmaEnd_rd_state, rd_wr_self]

theorem dmaHalt_only (d : Device) (n : Nat) : Only ((O.RING_ENABLE, n) :: stoppedRows n) dmaTold d (d.dmaHalt n) := by
  have hwr : Only ((O.RING_ENABLE, n) :: stoppedRows n) dmaTold d (d.wr O.RING_ENABLE n 0) := (Only.refl _ _ d).wr (Or.inr List.mem_cons_self)
  unfold dmaHalt
  dsimp only
  split
  · exact hwr
  split
  · exact hwr.trans ((dmaEnd_only _ n).mono (fun _ h => List.mem_cons_of_mem _ h) fun _ h => h)
  · exact setDma_only hwr (by decide) (by decide) _ _

theorem dmaHalt_dma_ne (d : Device) {n m : Nat} (h : m ≠ n) : (d.dmaHalt n).dmaOf m = d.dmaOf m := by
  unfold dmaHalt
  dsimp only
  split
  · rfl
  split
  · rw [dmaEnd_dma_ne _ h, dmaOf_wr]
  · rw [dmaOf_setDma_ne _ h, dmaOf_wr]

theorem dmaHalt_taken {d : Device} {n : Nat} (h : (d.dmaOf n).taken = []) : ((d.dmaHalt n).dmaOf n).taken = [] := by
  by_cases hs : d.rd O.RING_STATE n = 0
  · rw [dmaHalt_stopped hs, dmaOf_wr, h]
  · obtain ⟨u, old, he⟩ := dmaEnd_dma_self (d.wr O.RING_ENABLE n 0) n
    rw [dmaHalt_idle hs h, he]

theorem dmaHalt_closes (d : Device) {n : Nat} (hn : n < 64) : Closes d (d.dmaHalt n) := by
  have honly := dmaHalt_only d n
  have hobj : ∀ o ∈ [O.LOCK, O.GROUP_STATE, O.GROUP_OWNER, O.RING_SESSION, O.SESSION_STATE, O.SESSION_ID], ∀ r,
      (d.dmaHalt n).rd o r = d.rd o r := fun o ho r => honly.2 o r (by revert o; decide) fun e he h => by
    subst h
    exfalso
    revert ho
    simp only [stoppedRows, List.mem_cons, List.not_mem_nil, or_false] at he
    rcases he with rfl | rfl | rfl | rfl | rfl <;> (dsimp only; decide)
  have hgroup : ∀ g, (d.dmaHalt n).groupOf g = d.groupOf g := fun g =>
    groupOf_keeps honly.1 (by simp [stoppedRows]; decide) g
  refine .of_frees ⟨Or.inl (hobj _ (by decide) _), fun g _ => .same (hobj _ (by decide) _) (hobj _ (by decide) _) (hgroup g), fun m hm => ?_,
    fun row h => (hobj _ (by decide) _).trans h⟩ fun row => hobj _ (by decide) _
  by_cases hmn : m = n
  · subst hmn
    refine ⟨fun _ => dmaHalt_enable d m, fun h => ?_, dmaHalt_taken, hobj _ (by decide) _⟩
    rw [dmaHalt_stopped h, rd_wr_obj _ _ _ _ (by decide), h]
  · have hrow : ∀ o, o ∉ dmaTold → (d.dmaHalt n).rd o m = d.rd o m := fun o ho => honly.2 o m ho fun e he _ => by
      simp only [stoppedRows, List.mem_cons, List.not_mem_nil, or_false] at he
      rcases he with rfl | rfl | rfl | rfl | rfl <;> (dsimp only; omega)
    exact .same (hrow _ (by decide)) (hrow _ (by decide)) (by rw [dmaHalt_dma_ne _ hmn]) (hrow _ (by decide))

/-! #### Groups -/

theorem groupOf_setGroup_ne (d : Device) {g k : Nat} (h : k ≠ g) (x : GroupX) : (d.setGroup g x).groupOf k = d.groupOf k :=
  Sparse.get_put_ne _ _ h _

/-- A change of one group alone. -/
theorem Closes_of_group {R : List (Nat × Nat)} {V : List Nat} {a b : Device} {g : Nat} (hg : g ≤ 16) (h : Only R V a b)
    (hR : ∀ e ∈ R, e.1 ∈ [O.GROUP_STATE, O.GROUP_OWNER, O.GROUP_WRITES, O.GROUP_FAIL_ADDRESS, O.GROUP_FLAGS] ∧ e.2 = g)
    (hV : V = [F.groups]) (hother : ∀ k, k ≠ g → b.groupOf k = a.groupOf k) (hself : GroupFrees g a b) : Closes a b := by
  subst hV
  have hobj : ∀ o ∈ [O.LOCK, O.RING_SESSION, O.RING_STATE, O.RING_ENABLE, O.SESSION_STATE, O.SESSION_ID], ∀ r, b.rd o r = a.rd o r :=
    fun o ho r => h.2 o r (by revert o; decide) fun e he heq => by
      have hmem := (hR e he).1
      rw [heq] at hmem
      exfalso
      clear heq
      revert o
      decide
  have hdma : ∀ n, b.dmaOf n = a.dmaOf n := fun n => by
    have hf : b.pcie.dma = a.pcie.dma := h.field 16 (by decide) fun e he => by
      have hmem := (hR e he).1
      generalize e.1 = o at hmem
      revert o
      decide
    unfold dmaOf
    rw [hf]
  refine .of_frees ⟨Or.inl (hobj _ (by decide) _), fun k hk => ?_, fun n _ => .same (hobj _ (by decide) _) (hobj _ (by decide) _)
    (by rw [hdma]) (hobj _ (by decide) _), fun row hr => (hobj _ (by decide) _).trans hr⟩ fun row => hobj _ (by decide) _
  by_cases hkg : k = g
  · rwa [hkg]
  · have hrow : ∀ o, o ≠ F.groups → b.rd o k = a.rd o k := fun o ho => h.2 o k (by simpa using ho) fun e he _ => by
      rw [(hR e he).2]
      omega
    exact .same (hrow _ (by decide)) (hrow _ (by decide)) (hother k hkg)

theorem groupIdle_closes {d : Device} {g : Nat} (hg : g ≤ 16) (hopen : d.rd O.GROUP_STATE g = 1) : Closes d (d.groupIdle g) := by
  have hset : Only [(O.GROUP_STATE, g), (O.GROUP_OWNER, g), (O.GROUP_WRITES, g), (O.GROUP_FAIL_ADDRESS, g), (O.GROUP_FLAGS, g)] [F.groups] d
      (d.setGroup g GroupX.empty) := (Only.refl _ _ d).keeps (by decide) (setGroup_keeps (fun _ h => h) (Keeps.refl _ _))
  refine Closes_of_group hg (((((hset.wr (Or.inr (by simp))).wr (Or.inr (by simp))).wr (Or.inr (by simp))).wr (Or.inr (by simp))).wr
    (Or.inr (by simp))) (by simp) rfl (fun k hk => ?_) ⟨fun h => absurd (h.symm.trans hopen) (by decide), fun _ => Or.inr ⟨?_, ?_⟩, fun h => ?_⟩
  · unfold groupIdle
    simp only [groupOf_wr]
    exact groupOf_setGroup_ne d hk _
  · unfold groupIdle
    rw [rd_wr_obj _ _ _ _ (by decide), rd_wr_obj _ _ _ _ (by decide), rd_wr_obj _ _ _ _ (by decide), rd_wr_obj _ _ _ _ (by decide), rd_wr_self]
  · unfold groupIdle
    simp only [groupOf_wr]
    exact groupOf_setGroup_self d g _
  · rw [hopen] at h
    omega

/-- A group that is not open is overruled. -/
theorem overrule_closes {d : Device} {g : Nat} (hg : g ≤ 16) (harmed : 2 ≤ d.rd O.GROUP_STATE g) (x : GroupX) :
    Closes d ((d.setGroup g x).wr O.GROUP_STATE g 5) := by
  have hset : Only [(O.GROUP_STATE, g)] [F.groups] d (d.setGroup g x) :=
    (Only.refl _ _ d).keeps (by decide) (setGroup_keeps (fun _ h => h) (Keeps.refl _ _))
  refine Closes_of_group hg (hset.wr (Or.inr (by simp))) (by simp) rfl (fun k hk => groupOf_setGroup_ne d hk _)
    ⟨fun h => by omega, fun h => by omega, fun _ => ?_⟩
  rw [rd_wr_self]
  decide

/-! #### The row of a session -/

theorem rd_row_congr (d : Device) (o : Nat) {r r' : Nat} (h : r % 2 ^ 24 = r' % 2 ^ 24) : d.rd o r = d.rd o r' := by
  unfold rd keyOf
  rw [h]

theorem clearSession_id (d : Device) (row : Nat) : (d.clearSession row).rd O.SESSION_ID row = 0 := by
  unfold clearSession
  rw [rd_wr_obj _ _ _ _ (by decide), rd_wr_self]

theorem clearSession_rd_state (d : Device) (row r : Nat) :
    (d.clearSession row).rd O.SESSION_STATE r = if row % 2 ^ 24 = r % 2 ^ 24 then 0 else d.rd O.SESSION_STATE r := by
  unfold clearSession
  rw [rd_wr_obj _ _ _ _ (by decide), rd_wr_obj _ _ _ _ (by decide), rd_wr_obj _ _ _ _ (by decide), rd_wr_obj _ _ _ _ (by decide), rd_wr]
  simp only [true_and, setSess_rd]

theorem clearSession_rd_id (d : Device) (row r : Nat) :
    (d.clearSession row).rd O.SESSION_ID r = if row % 2 ^ 24 = r % 2 ^ 24 then 0 else d.rd O.SESSION_ID r := by
  unfold clearSession
  rw [rd_wr_obj _ _ _ _ (by decide), rd_wr]
  simp only [true_and]
  rw [rd_wr_obj _ _ _ _ (by decide), rd_wr_obj _ _ _ _ (by decide), rd_wr_obj _ _ _ _ (by decide), setSess_rd]

theorem clearSession_frees (d : Device) (row : Nat) : Frees d (d.clearSession row) := by
  have hobj : ∀ o ∈ [O.LOCK, O.GROUP_STATE, O.GROUP_OWNER, O.RING_SESSION, O.RING_STATE, O.RING_ENABLE], ∀ r,
      (d.clearSession row).rd o r = d.rd o r := fun o ho r =>
    (clearSession_keeps (fun _ h => h) (Keeps.refl Touch.clearSession d)).objs (by decide) o r (by revert o; decide)
  have hgroup : ∀ g, (d.clearSession row).groupOf g = d.groupOf g :=
    groupOf_keeps (clearSession_keeps (fun _ h => h) (Keeps.refl Touch.clearSession d)) (by decide)
  have hdma : ∀ n, (d.clearSession row).dmaOf n = d.dmaOf n :=
    dmaOf_keeps (clearSession_keeps (fun _ h => h) (Keeps.refl Touch.clearSession d)) (by decide)
  exact
    { lock := Or.inl (hobj _ (by decide) _)
      group := fun g _ => .same (hobj _ (by decide) g) (hobj _ (by decide) g) (hgroup g)
      ring := fun n _ => .same (hobj _ (by decide) n) (hobj _ (by decide) n) (by rw [hdma]) (hobj _ (by decide) n)
      closed := fun r h => by rw [clearSession_rd_state, h, ite_self] }

/-- A row may be cleared once what its session held is let go. -/
theorem Closes_clearSession {a b : Device} {row : Nat} (h : Closes a b) (hr : Released (a.rd O.SESSION_ID row) a b) :
    Closes a (b.clearSession row) where
  frees := h.frees.trans (clearSession_frees b row)
  row := fun r => by
    rw [clearSession_rd_id]
    split
    · rename_i heq
      have hsame : a.rd O.SESSION_ID r = a.rd O.SESSION_ID row := rd_row_congr _ _ heq.symm
      exact Or.inr ⟨rfl, hsame ▸ hr.after (clearSession_frees b row)⟩
    · exact (h.row r).imp id fun ⟨h0, hr'⟩ => ⟨h0, hr'.after (clearSession_frees b row)⟩

/-! #### The close of a row -/

/-- The device that has let go of the lock of session `id`, and of its groups. -/
def lockLetGo (d : Device) (id : Nat) : Device := if d.rd O.LOCK = id then d.wr O.LOCK 0 0 else d
def idleOwned (id : Nat) (d : Device) (g : Nat) : Device :=
  if d.rd O.GROUP_STATE g = 1 ∧ d.rd O.GROUP_OWNER g = id then d.groupIdle g else d
def groupsLetGo (d : Device) (id : Nat) : Device := (List.range 17).foldl (idleOwned id) d

theorem closeRow_eq (d : Device) (row : Nat) : d.closeRow row =
    ((boundRings ((d.lockLetGo (d.rd O.SESSION_ID row)).groupsLetGo (d.rd O.SESSION_ID row)) (d.rd O.SESSION_ID row)).foldl dmaHalt
      ((d.lockLetGo (d.rd O.SESSION_ID row)).groupsLetGo (d.rd O.SESSION_ID row))).clearSession row := rfl

theorem lockLetGo_closes (d : Device) (id : Nat) : Closes d (d.lockLetGo id) := by
  unfold lockLetGo
  split
  · exact .of_frees ⟨Or.inr (rd_wr_self _ _ _ _), fun g _ => .same (rd_wr_obj _ _ _ _ (by decide)) (rd_wr_obj _ _ _ _ (by decide)) rfl,
      fun n _ => .same (rd_wr_obj _ _ _ _ (by decide)) (rd_wr_obj _ _ _ _ (by decide)) rfl (rd_wr_obj _ _ _ _ (by decide)),
      fun r h => (rd_wr_obj _ _ _ _ (by decide)).trans h⟩ fun r => rd_wr_obj _ _ _ _ (by decide)
  · exact .refl d

theorem lockLetGo_lock {d : Device} {id : Nat} (h : d.rd O.LOCK = id) : (d.lockLetGo id).rd O.LOCK = 0 := by
  unfold lockLetGo
  rw [if_pos h, rd_wr_self]

theorem idleOwned_closes (id : Nat) (d : Device) {g : Nat} (hg : g ≤ 16) : Closes d (idleOwned id d g) := by
  unfold idleOwned
  split
  · rename_i h
    exact groupIdle_closes hg h.1
  · exact .refl d

theorem groupsLetGo_closes (d : Device) (id : Nat) : Closes d (d.groupsLetGo id) :=
  .foldl _ (fun g hg a => idleOwned_closes id a (by have := List.mem_range.1 hg; omega)) d

/-- No group of the session is open any more. -/
theorem groupsLetGo_owned (d : Device) (id : Nat) {g : Nat} (hg : g ≤ 16) :
    ¬ ((d.groupsLetGo id).rd O.GROUP_STATE g = 1 ∧ (d.groupsLetGo id).rd O.GROUP_OWNER g = id) := by
  have hle : ∀ x ∈ List.range 17, x ≤ 16 := fun x hx => by have := List.mem_range.1 hx; omega
  refine Closes.foldl_all (P := fun g a => ¬ (a.rd O.GROUP_STATE g = 1 ∧ a.rd O.GROUP_OWNER g = id)) (List.range 17)
    (fun x hx a => idleOwned_closes id a (hle x hx)) (fun x hx a _ => ?_) (fun x hx a b hab ha => ?_) d (.refl d) g
    (List.mem_range.2 (by omega))
  · by_cases h : a.rd O.GROUP_STATE x = 1 ∧ a.rd O.GROUP_OWNER x = id
    · unfold idleOwned
      rw [if_pos h]
      unfold groupIdle
      rw [rd_wr_obj _ _ _ _ (by decide), rd_wr_obj _ _ _ _ (by decide), rd_wr_obj _ _ _ _ (by decide), rd_wr_obj _ _ _ _ (by decide), rd_wr_self]
      simp
    · unfold idleOwned
      rwa [if_neg h]
  · obtain ⟨hidle, hopened, harmed⟩ := hab.frees.group x (hle x hx)
    rintro ⟨hs, ho⟩
    rcases Nat.lt_or_ge (a.rd O.GROUP_STATE x) 2 with hlt | hge
    · rcases Nat.lt_or_ge (a.rd O.GROUP_STATE x) 1 with h0 | h1
      · have := (hidle (by omega)).1
        omega
      · have hone : a.rd O.GROUP_STATE x = 1 := by omega
        rcases hopened hone with ⟨-, howner⟩ | ⟨hzero, -⟩
        · exact ha ⟨hone, howner.symm.trans ho⟩
        · omega
    · have := harmed hge
      omega

theorem boundRings_mem {d : Device} {id n : Nat} : n ∈ d.boundRings id ↔ n < 64 ∧ d.rd O.RING_SESSION n = id ∧ id ≠ 0 := by
  unfold boundRings
  simp

theorem haltBound_closes (d b : Device) (id : Nat) : Closes d ((b.boundRings id).foldl dmaHalt d) :=
  .foldl _ (fun _ hn a => dmaHalt_closes a (boundRings_mem.1 hn).1) d

/-- Every ring of the session is off, and stands unless it waits for its last descriptor. -/
theorem haltBound_rings (d0 d : Device) {id n : Nat} (h : Closes d0 d) (hn : n ∈ d.boundRings id) :
    ((d.boundRings id).foldl dmaHalt d).rd O.RING_ENABLE n = 0 ∧
      ((d0.dmaOf n).taken = [] → ((d.boundRings id).foldl dmaHalt d).rd O.RING_STATE n = 0) :=
  Closes.foldl_all (P := fun n a => a.rd O.RING_ENABLE n = 0 ∧ ((d0.dmaOf n).taken = [] → a.rd O.RING_STATE n = 0)) (d.boundRings id)
    (fun _ hx a => dmaHalt_closes a (boundRings_mem.1 hx).1)
    (fun x hx a ha => ⟨dmaHalt_enable a x, fun ht => dmaHalt_state ((ha.frees.ring x (boundRings_mem.1 hx).1).taken ht)⟩)
    (fun x hx _ _ hab ha => ⟨(hab.frees.ring x (boundRings_mem.1 hx).1).enable ha.1,
      fun ht => (hab.frees.ring x (boundRings_mem.1 hx).1).stopped (ha.2 ht)⟩) d h n hn

/-- What the session of a row holds is let go before the row is cleared, and nothing comes back. -/
theorem closeRow_lets (d : Device) (row : Nat) : ∃ b, d.closeRow row = b.clearSession row ∧ Closes d b ∧ Released (d.rd O.SESSION_ID row) d b := by
  refine ⟨_, closeRow_eq d row, ?_⟩
  generalize d.rd O.SESSION_ID row = id
  have hlock := lockLetGo_closes d id
  have hgroups := groupsLetGo_closes (d.lockLetGo id) id
  have hrings := haltBound_closes ((d.lockLetGo id).groupsLetGo id) ((d.lockLetGo id).groupsLetGo id) id
  refine ⟨(hlock.trans hgroups).trans hrings, fun h => ?_, fun g hg hs ho => ?_, fun n hn hs hid => ?_⟩
  · have := lockLetGo_lock h
    exact (hgroups.trans hrings).frees.lock.elim (fun e => e.trans this) fun e => e
  · have howned := groupsLetGo_owned (d.lockLetGo id) id hg
    rcases ((hlock.trans hgroups).frees.group g hg).opened hs with ⟨hs', ho'⟩ | ⟨hs', he⟩
    · exact absurd ⟨hs', ho'.trans ho⟩ howned
    · obtain ⟨hs'', hx⟩ := (hrings.frees.group g hg).idle hs'
      exact ⟨hs'', hx.elim (fun e => e.trans he) fun e => e⟩
  · exact haltBound_rings d _ (hlock.trans hgroups)
      (boundRings_mem.2 ⟨hn, (((hlock.trans hgroups).frees.ring n hn).session).trans hs, hid⟩)

theorem closeRow_closes (d : Device) (row : Nat) : Closes d (d.closeRow row) := by
  obtain ⟨b, heq, hb, hr⟩ := closeRow_lets d row
  exact heq ▸ Closes_clearSession hb hr

theorem closeRow_released (d : Device) (row : Nat) : Released (d.rd O.SESSION_ID row) d (d.closeRow row) := by
  obtain ⟨b, heq, -, hr⟩ := closeRow_lets d row
  exact heq ▸ hr.after (clearSession_frees b row)

theorem closeRow_id (d : Device) (row : Nat) : (d.closeRow row).rd O.SESSION_ID row = 0 := clearSession_id _ _

/-! #### Records, messages and gun entries -/

theorem eventsExpire_closes (d : Device) (n : Nat) : Closes d (d.eventsExpire n) := by
  unfold eventsExpire
  dsimp only
  split
  · exact .refl d
  · exact Closes.trans (b := d.setDma n { d.dmaOf n with events := (d.dmaOf n).events.filter d.eventFresh }) (setDma_closes id)
      (.of_apart (add64_keeps (W := [O.FLT_EVENT_LOST]) (Or.inl List.mem_cons_self) (Keeps.refl _ _)) (by decide))

theorem eventRingQueue_closes (rcd : Bytes) (d : Device) (n : Nat) : Closes d (eventRingQueue rcd d n) := by
  unfold eventRingQueue
  split
  · dsimp only
    refine (eventsExpire_closes d n).trans ?_
    split
    · exact setDma_closes id
    · exact .of_apart (inc64_keeps (W := [O.FLT_EVENT_LOST]) (Or.inl List.mem_cons_self) (Keeps.refl _ _)) (by decide)
  · exact .refl d

theorem queueAll_closes (rcd : Bytes) (d : Device) : Closes d ((List.range 64).foldl (eventRingQueue rcd) d) :=
  .foldl _ (fun n _ a => eventRingQueue_closes rcd a n) d

theorem addEvent_closes (d : Device) (src : Nat) : Closes d (d.addEvent src) :=
  .of_apart (addEvent_keeps (fun _ h => h) (Keeps.refl Touch.addEvent d)) (by decide)

theorem logRecord_closes (d : Device) (src cls kind : Nat) (r64 : Bytes) : Closes d (d.logRecord src cls kind r64) :=
  .of_apart (logRecord_keeps (fun _ h => h) (Keeps.refl Touch.logRecord d)) (by decide)

theorem noteUnsent_closes (d : Device) (src code : Nat) (detail : Bytes) : Closes d (d.noteUnsent src code detail) := by
  unfold noteUnsent
  dsimp only
  split
  · exact .refl d
  · have hlog := (addEvent_closes d src).trans (logRecord_closes (d.addEvent src) src 0 0
      ((d.addEvent src).recordBytes src code 0 0 0 0 0 ((d.addEvent src).windowCount src) detail))
    split
    · exact hlog.trans (queueAll_closes _ _)
    · exact hlog

theorem gunDrop_closes (d : Device) (e : Nat) : Closes d (d.gunDrop e) :=
  .of_apart (gunDrop_keeps (fun _ h => h) (Keeps.refl Touch.gunDrop d)) (by decide)

theorem gunFree_closes (d : Device) (e : Nat) : Closes d (d.gunFree e) :=
  .of_apart (gunFree_keeps (fun _ h => h) (Keeps.refl Touch.gunFree d)) (by decide)

theorem gunAnnouncePeer_closes (d : Device) (op e : Nat) : Closes d (d.gunAnnouncePeer op e) :=
  .of_apart (gunAnnouncePeer_keeps (fun _ h => h) (Keeps.refl Touch.gunAnnouncePeer d)) (by decide)

theorem groupOverruledUnsent_closes (d : Device) (g : Nat) (hg : g ≤ 16) (harmed : 2 ≤ d.rd O.GROUP_STATE g) :
    Closes d (d.groupOverruledUnsent g) := by
  unfold groupOverruledUnsent
  dsimp only
  generalize hb : (d.groupOf g).entry.elim d (fun e => if d.gunStops e then ((d.gunDrop e).gunAnnouncePeer 3 e).gunFree e else d) = b
  have hgun : Closes d b := by
    rw [← hb]
    cases (d.groupOf g).entry with
    | none => exact .refl d
    | some e =>
      dsimp only [Option.elim]
      split
      · exact ((gunDrop_closes d e).trans (gunAnnouncePeer_closes _ 3 e)).trans (gunFree_closes _ e)
      · exact .refl d
  exact (hgun.trans (overrule_closes hg ((hgun.frees.group g hg).armed harmed) _)).trans (noteUnsent_closes _ _ _ _)

theorem groupsNaming_armed {d : Device} {o r g : Nat} (h : g ∈ d.groupsNaming o r) : g ≤ 16 ∧ 2 ≤ d.rd O.GROUP_STATE g := by
  obtain ⟨hg, harmed⟩ := List.mem_filter.1 h
  have := List.mem_range.1 hg
  unfold armedNames at harmed
  simp only [Bool.and_eq_true, beq_iff_eq] at harmed
  omega

theorem closeSpent_closes (d : Device) (row : Nat) : Closes d (d.closeSpent row) := by
  unfold closeSpent
  refine (Closes.foldl_armed groupOverruledUnsent_closes _ d fun g hg => ?_).trans (closeRow_closes _ row)
  obtain ⟨e, -, he⟩ := List.mem_flatMap.1 (List.mem_eraseDups.1 hg)
  exact groupsNaming_armed he

theorem ringEvent_closes (d : Device) (type : Nat) (payload : Bytes) : Closes d (d.ringEvent type payload) := by
  unfold ringEvent
  dsimp only
  split
  · exact .refl d
  split
  · exact .refl d
  split
  · exact closeSpent_closes d _
  · exact .of_apart (ringSend_keeps (W := [F.sess, F.ring]) (by unfold Sub; decide) (setSess_keeps (by unfold Sub; decide) (Keeps.refl _ _)))
      (by decide)

theorem deliver_closes (d : Device) (rcd : Bytes) : Closes d (d.deliver rcd) := by
  have hqueue := queueAll_closes rcd d
  unfold deliver
  dsimp only
  generalize (List.range 64).foldl (eventRingQueue rcd) d = b at hqueue ⊢
  exact hqueue.trans (ringEvent_closes _ _ _)

theorem note_closes (d : Device) (src code : Nat) (detail : Bytes) : Closes d (d.note src code detail) := by
  unfold note
  dsimp only
  split
  · exact .refl d
  · refine (addEvent_closes d src).trans ?_
    unfold writeRecord
    dsimp only
    split
    · exact (logRecord_closes _ _ _ _ _).trans (deliver_closes _ _)
    · exact logRecord_closes _ _ _ _ _

theorem peerSend_closes (d : Device) (type count : Nat) (payload : Bytes) : Closes d (d.peerSend type count payload) :=
  .of_apart (peerSend_keeps (fun _ h => h) (Keeps.refl Touch.peerSend d)) (by decide)

theorem gunAnnounce_closes (d : Device) (op e : Nat) : Closes d (d.gunAnnounce op e) := by
  unfold gunAnnounce
  dsimp only
  split
  · exact .refl d
  generalize hb : (if (d.rd O.GUN_ANNOUNCE).testBit 0 = true then d.ringEvent 8 (d.gunPayload op e) else d) = b
  have hring : Closes d b := by
    rw [← hb]
    split
    · exact ringEvent_closes d _ _
    · exact .refl d
  split
  · exact hring.trans (peerSend_closes _ _ _ _)
  · exact hring

theorem gunCancel_closes (d : Device) (e : Nat) : Closes d (d.gunCancel e) := by
  unfold gunCancel
  split
  · exact ((gunDrop_closes d e).trans (gunAnnounce_closes _ 3 e)).trans (gunFree_closes _ e)
  · exact .refl d

theorem groupOverruled_closes (d : Device) (g : Nat) (hg : g ≤ 16) (harmed : 2 ≤ d.rd O.GROUP_STATE g) : Closes d (d.groupOverruled g) := by
  have hcancelled : Closes d (d.groupCancelled g) := by
    unfold groupCancelled
    dsimp only
    split
    · rename_i e _
      have hgun := gunCancel_closes d e
      exact hgun.trans (overrule_closes hg ((hgun.frees.group g hg).armed harmed) _)
    · exact overrule_closes hg harmed _
  exact hcancelled.trans (note_closes _ _ _ _)

/-! #### Sessions and rings, with the groups that name what changes -/

theorem touch_closes (d : Device) (o r : Nat) : Closes d (d.touch o r) :=
  Closes.foldl_armed groupOverruled_closes _ d fun _ hg => groupsNaming_armed hg

theorem dmaStop_closes (d : Device) {n : Nat} (hn : n < 64) : Closes d (d.dmaStop n) := by
  unfold dmaStop
  split
  · exact (touch_closes d _ _).trans (dmaHalt_closes _ hn)
  · exact dmaHalt_closes d hn

/-- The device whose armed groups that the close of `row` would change are overruled. -/
def touchClosed (d : Device) (row : Nat) : Device := (d.closeChanges row).foldl (fun d e => d.touch e.1 e.2) d

theorem touchClosed_closes (d : Device) (row : Nat) : Closes d (d.touchClosed row) :=
  .foldl _ (fun e _ a => touch_closes a e.1 e.2) d

theorem closeSession_open {d : Device} {row : Nat} (h : d.rd O.SESSION_STATE row ≠ 0) : d.closeSession row = (d.touchClosed row).closeRow row :=
  if_neg h

theorem closeSession_closes (d : Device) (row : Nat) : Closes d (d.closeSession row) := by
  by_cases h : d.rd O.SESSION_STATE row = 0
  · unfold closeSession
    rw [if_pos h]
    exact .refl d
  · rw [closeSession_open h]
    exact (touchClosed_closes d row).trans (closeRow_closes _ row)

theorem closeSession_id {d : Device} {row : Nat} (h : d.rd O.SESSION_STATE row ≠ 0) : (d.closeSession row).rd O.SESSION_ID row = 0 := by
  rw [closeSession_open h, closeRow_id]

/-- A session closed has let go of its lock, its open groups and its rings (R67). -/
theorem closeSession_released {d : Device} {row : Nat} (h : d.rd O.SESSION_STATE row ≠ 0) :
    Released (d.rd O.SESSION_ID row) d (d.closeSession row) := by
  rw [closeSession_open h]
  have hclose := closeRow_closes (d.touchClosed row) row
  have htouch := touchClosed_closes d row
  rcases htouch.row row with hid | ⟨-, hreleased⟩
  · exact .before htouch.frees (hid ▸ closeRow_released (d.touchClosed row) row) hclose.frees
  · exact hreleased.after hclose.frees

theorem closeSessions_closes (d : Device) (lo hi : Nat) : Closes d (d.closeSessions lo hi) :=
  .foldl _ (fun row _ a => closeSession_closes a row) d

theorem closeSessions_state (d : Device) {lo hi row : Nat} (hlo : lo ≤ row) (hhi : row ≤ hi) : (d.closeSessions lo hi).rd O.SESSION_STATE row = 0 :=
  Closes.foldl_all (P := fun row a => a.rd O.SESSION_STATE row = 0) ((List.range (hi + 1 - lo)).map (· + lo))
    (fun row _ a => closeSession_closes a row) (fun row _ a _ => closeSession_state a row) (fun row _ _ _ hab ha => hab.frees.closed row ha)
    d (.refl d) row (List.mem_map.2 ⟨row - lo, List.mem_range.2 (by omega), by omega⟩)

end Device
end Sys2Proof.Machine
end

section
/-!
PROOF. The family 03_holloth_ring_and_host_port: the ways in which a session ends.
-/
set_option Elab.async false
namespace Sys2Proof.Machine

/-! ### The end of a session (R67) -/

namespace Device

theorem closeSession_only (d : Device) (row : Nat) (R : List (Nat × Nat)) {W : List Nat} (hW : Sub closing W) (hF : F.objects ∉ W) :
    Only R W d (d.closeSession row) :=
  (Only.refl _ _ d).keeps hF ((closeSession_keeps (W := closing) (by unfold Sub; decide) (Keeps.refl _ _)).mono hW)

theorem closeSession_keeps_all (d : Device) (row : Nat) : Keeps Touch.closeSession d (d.closeSession row) :=
  closeSession_keeps (fun _ h => h) (Keeps.refl _ _)

theorem winOf_keeps {V : List Nat} {a b : Device} (h : Keeps V a b) (hV : F.pcieWindows ∉ V) (w : Nat) : b.winOf w = a.winOf w := by
  have hwin : b.pcie.windows = a.pcie.windows := h.fields 15 hV
  unfold winOf
  rw [hwin]

theorem closeOn_open {d : Device} {t : Transport} {id row : Nat} (hboot : d.mode ≠ .boot) (hreset : d.mode ≠ .reset)
    (hrow : d.openRow id = some row) (ht : rowTransport row = t) : d.closeOn t id = (0, d.closeSession row) := by
  unfold closeOn
  rw [if_neg (by simp [hboot, hreset]), hrow]
  exact if_pos ht

/-- The answer to a master whose PROVE has not come (R65; log entry 27). -/
def lateAnswer (d : Device) : RingMsg :=
  ringSealCrc { dst := 0, src := d.rd O.RING_POSITION, type := 3, flags := 0, session := 0, counter := 0, reserved := 0,
                payload := leBytes 2 0xA405 ++ leBytes 2 0, tag := 0, crc := 0 }

/-- The row remembers the identifier whose PROVE has not come. -/
def lapse (d : Device) (row id : Nat) : Device := d.setSess row { d.sessOf row with timedOut := id }

/-- The row of an OPENING session whose second is over is freed as a failed proof frees it, and remembers its identifier. -/
theorem proveTimeout_opening {d p y : Device} {row : Nat} (h : d.rd O.SESSION_STATE row = 1) (hp : p = d.passTo (d.sessOf row).openBy)
    (hy : y = ((p.clearSession row).proofFailed (rowTransport row)).lapse row (p.rd O.SESSION_ID row)) :
    d.proveTimeout row = if rowTransport row = .ring then y.ringSend y.lateAnswer else y := by
  subst hp hy
  exact if_pos h

/-- An expiry lets time pass until it is due, and closes the session then. -/
theorem expiry_closes {d : Device} (hclock : d.clockOn = true) (c row : Nat) :
    ((d.passTo c).closeSession row).rd O.SESSION_STATE row = 0 ∧ ((d.passTo c).closeSession row).cyc = max d.cyc c ∧
      Only [] (closing ++ passing) d ((d.passTo c).closeSession row) :=
  ⟨closeSession_state _ _, ((closeSession_keeps_all _ row).fields 4 (by decide)).trans (passTo_cyc hclock c),
    (passTo_only d c [] (by unfold Sub; decide) (by decide)).trans (closeSession_only _ _ _ (by unfold Sub; decide) (by decide))⟩

end Device

/-- Settles O18: a close goes through what the session held before its row is cleared; the expiries are closes that time brings. -/
theorem sessionsEnd : Obligations.SessionsEnd := by
  unfold Obligations.SessionsEnd
  refine ⟨?command, ?window, ?debug, ?idle, ?certificate, ?late, ?lockout⟩
  case command =>
    intro r row s ⟨hreset, hcheck⟩ hstate
    obtain ⟨d, hd⟩ : ∃ d, d = (s.dev.accept r).startCmd O.SESSION_CLOSE row := ⟨_, rfl⟩
    have hrd : ∀ o r', o ≠ O.SESSION_CLOSE → d.rd o r' = s.dev.rd o r' := fun o r' ho => by
      rw [hd]
      exact (Device.rd_wr_obj _ _ _ _ (Ne.symm ho)).trans (Device.accept_rd _ _ _ _)
    have hdma : ∀ n, d.dmaOf n = s.dev.dmaOf n := fun n => by
      rw [hd]
      exact Device.accept_dmaOf _ _ _
    have hreleased := Device.closeSession_released (d := d) (row := row) (by rw [hrd _ _ (by decide)]; exact hstate)
    have hkeeps := Device.closeSession_keeps_all d row
    obtain ⟨t, ht, htkeeps, hresult, hans, honly⟩ := Device.command_done (W := closing ++ asked) (R := [(O.SESSION_CLOSE, row)]) hreset hcheck
      (f := Device.sessionCloseCore r row) rfl (by rw [Device.cmdCheck_accept]; exact hcheck) rfl
      (Device.closeSession_only _ row _ (by unfold Sub; decide) (by decide)) (hd ▸ hkeeps.objs (by decide) _ _ (by decide))
      (by rw [← hd]; exact (hkeeps.fields 0 (by decide)).trans (hd ▸ Device.accept_mode _ _)) List.mem_cons_self (by decide)
      (by unfold Sub; decide) (by decide)
    rw [← hd] at htkeeps
    have htrd : ∀ o r', o ∉ asked → o ≠ O.SESSION_CLOSE → t.dev.rd o r' = (d.closeSession row).rd o r' := fun o r' ho hne =>
      (htkeeps.objs (by decide) o r' ho).trans (Device.rd_wr_obj _ _ _ _ (Ne.symm hne))
    rw [hrd _ _ (by decide)] at hreleased
    obtain ⟨hlock, hgroup, hring⟩ := hreleased
    refine ⟨t, ht, ?_, ?_, fun h => ?_, fun g hg hs ho => ?_, fun n hn hs hid => ?_, hresult, hans, honly⟩
    · rw [htrd _ _ (by decide) (by decide), Device.closeSession_state]
    · rw [htrd _ _ (by decide) (by decide), Device.closeSession_id (by rw [hrd _ _ (by decide)]; exact hstate)]
    · rw [htrd _ _ (by decide) (by decide)]
      exact hlock ((hrd _ _ (by decide)).trans h)
    · obtain ⟨hidle, hempty⟩ := hgroup g hg ((hrd _ _ (by decide)).trans hs) ((hrd _ _ (by decide)).trans ho)
      rw [htrd _ _ (by decide) (by decide), Device.groupOf_keeps htkeeps (by decide)]
      exact ⟨hidle, hempty⟩
    · obtain ⟨hoff, hstop⟩ := hring n hn ((hrd _ _ (by decide)).trans hs) hid
      rw [htrd _ _ (by decide) (by decide), htrd _ _ (by decide) (by decide)]
      exact ⟨hoff, fun h => hstop (by rw [hdma]; exact h)⟩
  case window =>
    intro w id row s hready hboot hrow htransport
    obtain ⟨d, hd⟩ : ∃ d, d = s.dev.windowSubmit w 0 id 0 5 [] := ⟨_, rfl⟩
    have hmode : d.mode = s.dev.mode := hd ▸ Device.windowSubmit_mode _ _ _ _ _ _ _
    have hdict : d.dict = s.dev.dict := hd ▸ rfl
    have hreset : s.dev.mode ≠ .reset := by
      unfold Device.windowReady at hready
      simp only [Bool.and_eq_true, bne_iff_ne, ne_eq] at hready
      exact hready.1.1
    have hclose : d.closeOn .pcie id = (0, d.closeSession row) :=
      Device.closeOn_open (by rw [hmode]; exact hboot) (by rw [hmode]; exact hreset) ((Device.openRow_congr (Device.rd_congr hdict _) (Device.rd_congr hdict _) _).trans hrow) htransport
    have hrun : s.dev.pcieWindowClose w id = (d.closeSession row).windowDone w 0 [] := by
      unfold Device.pcieWindowClose
      rw [if_neg (by simp [hready])]
      dsimp only
      rw [← hd, hclose]
    have hwin : (d.closeSession row).winOf w = ⟨0, id, 0, 5, true, (s.dev.winOf w).abort, []⟩ :=
      (Device.winOf_keeps (Device.closeSession_keeps_all d row) (by decide) w).trans (hd ▸ Device.windowSubmit_winOf _ _ _ _ _ _ _)
    have hdone := Device.windowDone_keeps (w := w) (abort := 0) (value := []) (fun _ h => h) (Keeps.refl Touch.windowDone (d.closeSession row))
    have hsubmit : Only [] (F.pcieWindows :: closing) s.dev d := hd ▸ (Only.refl _ _ _).keeps (by decide)
      (Device.windowSubmit_keeps (by unfold Sub; decide) (Keeps.refl _ _))
    refine ⟨{ s with dev := s.dev.pcieWindowClose w id }, rfl, ?_⟩
    rw [hrun]
    refine ⟨?_, ?_, (hsubmit.trans (Device.closeSession_only d row _ (by unfold Sub; decide) (by decide))).keeps (by decide)
      (hdone.mono (by unfold Sub; decide))⟩
    · rw [hdone.objs (by decide) _ _ (by decide), Device.closeSession_state]
    · rw [Device.windowDone_winOf, hwin]
  case debug =>
    intro id row s hreset hboot hrow htransport
    obtain ⟨d, hd⟩ : ∃ d, d = s.dev.dapScan (Device.dapWord 0 id 8 0) := ⟨_, rfl⟩
    have hmode : d.mode = s.dev.mode := hd ▸ rfl
    have hdict : d.dict = s.dev.dict := hd ▸ rfl
    have hclose : d.closeOn .debug id = (0, d.closeSession row) :=
      Device.closeOn_open (by rw [hmode]; exact hboot) (by rw [hmode]; exact hreset) ((Device.openRow_congr (Device.rd_congr hdict _) (Device.rd_congr hdict _) _).trans hrow) htransport
    have hrun : s.dev.dapClose id = (d.closeSession row).setDapAbort 0 := by
      unfold Device.dapClose
      rw [if_neg hreset]
      dsimp only
      rw [← hd, hclose]
    refine ⟨{ s with dev := s.dev.dapClose id }, rfl, ?_⟩
    rw [hrun]
    have hscan : Only [] (F.jtag :: closing) s.dev d := hd ▸ (Device.dapScan_only _ _).mono (fun _ h => h) (by unfold Sub; decide)
    exact ⟨Device.closeSession_state d row, rfl, (hscan.trans (Device.closeSession_only d row _ (by unfold Sub; decide) (by decide))).keeps
      (by decide) (Device.setDapAbort_keeps (by unfold Sub; decide) (Keeps.refl _ _))⟩
  case idle =>
    intro row s hclock hstate hrow
    have heq : s.dev.sessionIdleExpiry row =
        (s.dev.passTo ((s.dev.sessOf row).lastAt + msCycles (1000 * s.dev.rd O.RING_SESSION_IDLE_S))).closeSession row :=
      if_pos ⟨hstate, hrow⟩
    exact ⟨{ s with dev := s.dev.sessionIdleExpiry row }, rfl, heq ▸ Device.expiry_closes hclock _ row⟩
  case certificate =>
    intro row s hclock hstate hexpires
    have heq : s.dev.debugSessionExpiry row = (s.dev.passTo (s.dev.reach (ticksOf (s.dev.rd O.DBG_CERT_EXPIRES row)))).closeSession row :=
      if_pos ⟨hstate, hexpires⟩
    exact ⟨{ s with dev := s.dev.debugSessionExpiry row }, rfl, heq ▸ Device.expiry_closes hclock _ row⟩
  case late =>
    intro row s hclock hstate hroom
    obtain ⟨p, hp⟩ : ∃ p, p = s.dev.passTo (s.dev.sessOf row).openBy := ⟨_, rfl⟩
    have hpass : Keeps Touch.passTo s.dev p := hp ▸ Device.passTo_keeps_all _ _
    have hproom : EventRoom p := hroom.keeps hpass (by decide)
    have hclear := p.clearSession_only row
    have hfail := Device.proofFailed_room (hproom.clearSession row) (rowTransport row)
    have hlocks : 3 ≤ (p.failsOf (rowTransport row)).length →
        ((p.clearSession row).proofFailed (rowTransport row)).lockedOut (rowTransport row) = true := fun h =>
      Device.proofFailed_locks (hproom.clearSession row) (by
        rw [Device.failsOf_congr (hclear.field 10 (by decide) (clearedRows_objects row))
          (hclear.field 4 (by decide) (clearedRows_objects row))]
        exact h)
    have hfree : ((p.clearSession row).proofFailed (rowTransport row)).rd O.SESSION_STATE row = 0 := by
      rw [hfail.objs (by decide) _ _ (by decide), Device.clearSession_state]
    have hcyc : ((p.clearSession row).proofFailed (rowTransport row)).cyc = max s.dev.cyc (s.dev.sessOf row).openBy :=
      ((hfail.fields 4 (by decide)).trans (hclear.field 4 (by decide) (clearedRows_objects row))).trans
        (hp ▸ Device.passTo_cyc hclock _)
    have hframe : Only (clearedRows row) (F.proofFails :: F.lockoutUntil :: noted ++ passing) s.dev
        ((p.clearSession row).proofFailed (rowTransport row)) :=
      (((hp ▸ Device.passTo_only _ _ _ (by unfold Sub; decide) (by decide) :
        Only (clearedRows row) (F.proofFails :: F.lockoutUntil :: noted ++ passing) s.dev p)).trans
        (hclear.mono (fun _ h => h) (by unfold Sub; decide))).keeps (by decide) (hfail.mono (by unfold Sub; decide))
    have hid : p.rd O.SESSION_ID row = s.dev.rd O.SESSION_ID row := hpass.objs (by decide) _ _ (by decide)
    have heq := Device.proveTimeout_opening hstate hp rfl
    refine ⟨{ s with dev := s.dev.proveTimeout row }, rfl, ?_⟩
    rw [heq, ← hp, hid]
    generalize (p.clearSession row).proofFailed (rowTransport row) = f at *
    obtain ⟨y, hy⟩ : ∃ y, y = f.lapse row (s.dev.rd O.SESSION_ID row) := ⟨_, rfl⟩
    have hmarked : Keeps [F.sess] f y := hy ▸ Device.setSess_keeps (by unfold Sub; decide) (Keeps.refl _ _)
    have hlate : (y.sessOf row).timedOut = s.dev.rd O.SESSION_ID row := by rw [hy, Device.lapse, Device.sessOf_setSess_self]
    have hlocked : 3 ≤ (p.failsOf (rowTransport row)).length → y.lockedOut (rowTransport row) = true := fun h => hy ▸ hlocks h
    have hframe' := hframe.keeps (by decide) (hmarked.mono (by unfold Sub; decide))
    have hfree' := (hmarked.objs (by decide) _ _ (by decide)).trans hfree
    have hcyc' := (hmarked.fields 4 (by decide)).trans hcyc
    rw [← hy]
    by_cases hring : rowTransport row = .ring
    · rw [if_pos hring]
      refine ⟨hfree', hcyc', hlocked, hlate, fun _ => ⟨y.lateAnswer, List.getLast?_concat, rfl, rfl, rfl, rfl⟩,
        hframe'.keeps (by decide) (Device.ringSend_keeps (by unfold Sub; decide) (Keeps.refl _ _))⟩
    · rw [if_neg hring]
      exact ⟨hfree', hcyc', hlocked, hlate, fun h => absurd h hring, hframe'⟩
  case lockout =>
    intro tr e s hclock hfind
    have heq : s.dev.proofLockoutEnd tr = (s.dev.passTo e.2).setLockouts (s.dev.lockoutUntil.filter (fun e => decide (e.1 ≠ tr))) := by
      unfold Device.proofLockoutEnd
      rw [hfind]
    refine ⟨{ s with dev := s.dev.proofLockoutEnd tr }, rfl, ?_⟩
    rw [heq]
    refine ⟨?_, Device.passTo_cyc hclock e.2, (Device.passTo_only _ _ _ (by unfold Sub; decide) (by decide)).keeps (by decide)
      (Device.setLockouts_keeps (by unfold Sub; decide) (Keeps.refl _ _))⟩
    unfold Device.lockedOut
    refine List.any_eq_false.2 fun x hx => ?_
    have hother := (List.mem_filter.1 hx).2
    simp only [decide_eq_true_eq] at hother
    simp [hother]

end Sys2Proof.Machine
end

section
/-!
PROOF. The family 03_holloth_ring_and_host_port: the link and the resets of the host port, and the interrupts that a write of the
host lets go.
-/
set_option Elab.async false
namespace Sys2Proof.Machine

/-! ### Pending interrupts (R75) -/

namespace Device

/-- The entry is pending, and may be sent. -/
def msixDue (d : Device) (e : Nat) : Bool := d.pcie.pendBits.testBit e && d.msixLive e

/-- The message of entry `e`. -/
def msixMessage (d : Device) (e : Nat) : Out := .msix e (d.vectorOf e % 2 ^ 64) (d.vectorOf e / 2 ^ 64 % 2 ^ 32)

/-- An entry that is due is sent and pends no longer; of another nothing changes. -/
theorem msixRelease_eq (d : Device) (e : Nat) : d.msixRelease e =
    if d.msixDue e then (d.setPcie { d.pcie with pendBits := setBit d.pcie.pendBits e false }).emit (d.msixMessage e) else d := rfl

/-- What the release of interrupts leaves as it was. -/
theorem msixRelease_keeps_pending (d : Device) (e : Nat) : Keeps [F.pciePending, F.out] d (d.msixRelease e) := by
  rw [msixRelease_eq]
  split
  · exact emit_keeps (by unfold Sub; decide) ((Keeps.refl _ d).same rfl rfl fun k hk => by
      unfold sameField
      split <;> first | rfl | trivial)
  · exact Keeps.refl _ _

theorem msixRelease_pending (d : Device) (e k : Nat) :
    (d.msixRelease e).pcie.pendBits.testBit k = (d.pcie.pendBits.testBit k && !(decide (k = e) && d.msixDue e)) := by
  rw [msixRelease_eq]
  split
  · rename_i hdue
    show (setBit d.pcie.pendBits e false).testBit k = _
    rw [testBit_setBit, hdue]
    by_cases hk : k = e
    · simp [hk]
    · simp [hk, Ne.symm hk]
  · rename_i hdue
    simp [hdue]

theorem msixRelease_out (d : Device) (e : Nat) : (d.msixRelease e).out = d.out ++ if d.msixDue e then [d.msixMessage e] else [] := by
  rw [msixRelease_eq]
  split <;> simp [emit, setPcie]

theorem msixLive_congr {a b : Device} (h : Keeps [F.pciePending, F.out] a b) (e : Nat) : b.msixLive e = a.msixLive e := by
  have hon : b.pcie.msixOn = a.pcie.msixOn := h.fields 58 (by decide)
  have hfunc : b.pcie.funcMask = a.pcie.funcMask := h.fields 59 (by decide)
  have hmask : b.pcie.masked = a.pcie.masked := h.fields 17 (by decide)
  unfold msixLive
  rw [hon, hfunc, hmask]

theorem vectorOf_congr {a b : Device} (h : Keeps [F.pciePending, F.out] a b) (e : Nat) : b.vectorOf e = a.vectorOf e := by
  have hvec : b.pcie.vectors = a.pcie.vectors := h.fields 57 (by decide)
  unfold vectorOf
  rw [hvec]

theorem msixMessage_congr {a b : Device} (h : Keeps [F.pciePending, F.out] a b) (e : Nat) : b.msixMessage e = a.msixMessage e := by
  unfold msixMessage
  rw [vectorOf_congr h]

/-- The release of one entry makes no other due. -/
theorem msixRelease_due_ne (d : Device) {e k : Nat} (h : k ≠ e) : (d.msixRelease e).msixDue k = d.msixDue k := by
  unfold msixDue
  rw [msixRelease_pending, msixLive_congr (msixRelease_keeps_pending d e)]
  simp [h]

theorem msixReleases_keeps : ∀ (l : List Nat) (d : Device), Keeps [F.pciePending, F.out] d (l.foldl msixRelease d)
  | [], d => Keeps.refl _ d
  | e :: l, d => (msixRelease_keeps_pending d e).trans (msixReleases_keeps l _)

/-- Of the entries of `l` those that are due pend no longer. -/
theorem msixReleases_pending : ∀ (l : List Nat) (_ : l.Nodup) (d : Device) (k : Nat),
    (l.foldl msixRelease d).pcie.pendBits.testBit k = (d.pcie.pendBits.testBit k && !(decide (k ∈ l) && d.msixDue k))
  | [], _, d, k => by simp
  | e :: l, hl, d, k => by
    obtain ⟨he, hnodup⟩ := List.nodup_cons.1 hl
    rw [List.foldl_cons, msixReleases_pending l hnodup, msixRelease_pending]
    by_cases hk : k = e
    · subst hk
      simp [he]
    · rw [msixRelease_due_ne d hk]
      simp [hk]

/-- They are sent in their order. -/
theorem msixReleases_out : ∀ (l : List Nat) (_ : l.Nodup) (d : Device),
    (l.foldl msixRelease d).out = d.out ++ (l.filter d.msixDue).map d.msixMessage
  | [], _, d => by simp
  | e :: l, hl, d => by
    obtain ⟨he, hnodup⟩ := List.nodup_cons.1 hl
    have hdue : l.filter (d.msixRelease e).msixDue = l.filter d.msixDue :=
      List.filter_congr fun k hk => msixRelease_due_ne d fun heq => he (heq ▸ hk)
    have hmsg : (d.msixRelease e).msixMessage = d.msixMessage := funext fun k => msixMessage_congr (msixRelease_keeps_pending d e) k
    rw [List.foldl_cons, msixReleases_out l hnodup, msixRelease_out, hdue, hmsg, List.filter_cons]
    split <;> simp

/-- A write of the host to the table or the capability lets every entry go that is due after it. -/
theorem msixUnmask_eq {d : Device} (h : d.mode ≠ .reset) (w : MsixWrite) : d.msixUnmask w = (List.range 64).foldl msixRelease (d.msixStore w) :=
  if_neg h

theorem range64_pending (d : Device) {k : Nat} (hk : k < 64) :
    ((List.range 64).foldl msixRelease d).pcie.pendBits.testBit k = (d.pcie.pendBits.testBit k && !d.msixLive k) := by
  rw [msixReleases_pending _ List.nodup_range]
  unfold msixDue
  cases d.pcie.pendBits.testBit k <;> simp [hk]

theorem range64_out (d : Device) :
    ((List.range 64).foldl msixRelease d).out = d.out ++ ((List.range 64).filter d.msixDue).map d.msixMessage :=
  msixReleases_out _ List.nodup_range d

/-- Where none is due, nothing happens. -/
theorem msixReleases_none : ∀ (l : List Nat) (d : Device), (∀ k ∈ l, d.msixDue k = false) → l.foldl msixRelease d = d
  | [], _, _ => rfl
  | e :: l, d, h => by
    have hone : d.msixRelease e = d := by
      rw [msixRelease_eq, h e List.mem_cons_self]
      rfl
    rw [List.foldl_cons, hone, msixReleases_none l d fun k hk => h k (List.mem_cons_of_mem _ hk)]

/-! #### A write of a table entry -/

/-- The device whose table entry `e` has been written. -/
def entryWritten (d : Device) (e address data : Nat) (masked : Bool) : Device :=
  d.setPcie { d.pcie with vectors := natPut d.pcie.vectors e (data % 2 ^ 32 * 2 ^ 64 + address % 2 ^ 64), masked := setBit d.pcie.masked e masked }

theorem msixStore_entry {d : Device} {e : Nat} (he : e < 64) (a v : Nat) (m : Bool) : d.msixStore (.entry e a v m) = d.entryWritten e a v m :=
  if_neg (by omega)

theorem entryWritten_keeps (d : Device) (e a v : Nat) (m : Bool) : Keeps [F.pcieMasked, F.pcieVectors] d (d.entryWritten e a v m) :=
  (Keeps.refl _ d).same rfl rfl fun k hk => by
    unfold sameField
    split <;> first | rfl | trivial

theorem entryWritten_live_ne (d : Device) {e k : Nat} (h : k ≠ e) (a v : Nat) (m : Bool) : (d.entryWritten e a v m).msixLive k = d.msixLive k := by
  show (d.pcie.msixOn && !d.pcie.funcMask && !(setBit d.pcie.masked e m).testBit k) = _
  rw [testBit_setBit, if_neg (Ne.symm h)]
  rfl

theorem entryWritten_live_self (d : Device) (e a v : Nat) (m : Bool) :
    (d.entryWritten e a v m).msixLive e = (d.pcie.msixOn && !d.pcie.funcMask && !m) := by
  show (d.pcie.msixOn && !d.pcie.funcMask && !(setBit d.pcie.masked e m).testBit e) = _
  rw [testBit_setBit, if_pos rfl]

/-- When nothing was due, only the entry written can become so. -/
theorem entryWritten_due {d : Device} (h : Settled d) (e a v : Nat) (m : Bool) {k : Nat} (hk : k < 64) :
    (d.entryWritten e a v m).msixDue k = (k == e && (d.pcie.pendBits.testBit e && (d.pcie.msixOn && !d.pcie.funcMask && !m))) := by
  have hpend : (d.entryWritten e a v m).pcie.pendBits = d.pcie.pendBits := rfl
  unfold msixDue
  rw [hpend]
  by_cases hke : k = e
  · rw [hke, entryWritten_live_self]
    simp
  · rw [entryWritten_live_ne d hke]
    cases hp : d.pcie.pendBits.testBit k
    · simp [hke]
    · rw [h k hk hp]
      simp [hke]

theorem filter_range_eq {n e : Nat} (he : e < n) : (List.range n).filter (fun k => k == e) = [e] := by
  rw [List.filter_beq, List.count_eq_one_of_mem List.nodup_range (List.mem_range.2 he)]
  rfl

/-! ### The resets of the host port (R68, R311) -/

theorem zeroReport_closes (d : Device) (e : Nat × Bool × List Nat) : Closes d (d.zeroReport e) := by
  have hwr : Closes d (d.wr O.VAULT_CMD e.1 (2 * 256 + d.rd O.VAULT_CMD e.1 % 256)) :=
    .of_apart ((Keeps.refl [O.VAULT_CMD] d).wr (Or.inl List.mem_cons_self)) (by decide)
  unfold zeroReport
  dsimp only
  split
  · exact hwr.trans (closeSessions_closes _ _ _)
  · exact hwr

theorem jobGone_closes (d : Device) (n : Nat) : Closes d (d.jobGone n) := by
  unfold jobGone
  dsimp only
  exact Closes.trans (.of_apart (setLa_keeps (W := [F.la]) (fun _ h => h) (Keeps.refl _ d)) (by decide)) (.foldl _ (fun e _ a => zeroReport_closes a e) _)

/-- The jobs themselves are ended by whoever reports their end. -/
theorem jobGone_jobs (d : Device) (n : Nat) : (d.jobGone n).la.jobs = d.la.jobs := by
  unfold jobGone
  dsimp only
  generalize d.la.zeroing.map (fun e => (e.1, e.2.1, e.2.2.filter (· != n))) = l
  have hfold := Keeps.foldl (f := zeroReport) (l := l.filter (fun e => e.2.2 == []))
    (Keeps.refl Touch.zeroReport (d.setLa { d.la with zeroing := l.filter (fun e => e.2.2 != []) })) (fun _ _ hb => zeroReport_keeps (fun _ h => h) hb)
  generalize hb : d.setLa { d.la with zeroing := l.filter (fun e => e.2.2 != []) } = b at hfold
  have hla : ((l.filter (fun e => e.2.2 == [])).foldl zeroReport b).la = b.la := hfold.fields 56 (by decide)
  rw [hla, ← hb]
  rfl

theorem dmaForget_closes (d : Device) (n : Nat) : Closes d (d.dmaForget n) := setDma_closes fun _ => rfl

/-- The host port forgets what its rings have taken, and ends its jobs. -/
def portForgets (d : Device) : Device := (List.range 64).foldl dmaForget (d.setLa { d.la with jobs := [] })
def jobsEnd (d : Device) : Device := (d.la.jobs.map LaJob.ring).foldl jobGone (d.portForgets.wr O.LA_CONTEXTS_BUSY 0 0)
def ringsStop (d : Device) : Device := (List.range 64).foldl (fun d n => d.dmaStop n) d

theorem hostPortReset_eq (d : Device) : d.hostPortReset =
    (d.jobsEnd.closeSessions 33 48).ringsStop.setPcie { (d.jobsEnd.closeSessions 33 48).ringsStop.pcie with
      windows := [], masked := 2 ^ 64 - 1, pendBits := 0, vectors := [], msixOn := false, funcMask := false } := by
  unfold hostPortReset jobsEnd portForgets ringsStop
  generalize List.range 64 = l
  rfl

theorem portForgets_keeps (d : Device) : Keeps [F.la, F.pcieDma] d d.portForgets :=
  Keeps.foldl (setLa_keeps (by unfold Sub; decide) (Keeps.refl _ _)) fun _ _ h => dmaForget_keeps (by unfold Sub; decide) h

theorem portForgets_taken (d : Device) {n : Nat} (hn : n < 64) : (d.portForgets.dmaOf n).taken = [] :=
  Closes.foldl_all (P := fun n a => (a.dmaOf n).taken = []) (List.range 64) (fun x _ a => dmaForget_closes a x)
    (fun x _ a _ => congrArg DmaX.taken (dmaOf_setDma_self a x _)) (fun x hx _ _ hab => (hab.frees.ring x (List.mem_range.1 hx)).taken) _
    (Closes.refl _) n (List.mem_range.2 hn)

theorem portForgets_jobs (d : Device) : d.portForgets.la.jobs = [] := by
  have hfold : Keeps Touch.dmaForget (d.setLa { d.la with jobs := [] }) d.portForgets :=
    Keeps.foldl (Keeps.refl _ _) fun _ _ h => dmaForget_keeps (fun _ h => h) h
  have hla : d.portForgets.la = (d.setLa { d.la with jobs := [] }).la := hfold.fields 56 (by decide)
  rw [hla]
  rfl

theorem jobsGone_jobs : ∀ (l : List Nat) (d : Device), (l.foldl jobGone d).la.jobs = d.la.jobs
  | [], _ => rfl
  | n :: l, d => (jobsGone_jobs l (d.jobGone n)).trans (jobGone_jobs d n)

theorem jobsGone_keeps (l : List Nat) (d : Device) : Keeps Touch.jobGone d (l.foldl jobGone d) :=
  Keeps.foldl (Keeps.refl _ _) fun _ _ h => jobGone_keeps (fun _ h => h) h

theorem jobsEnd_taken (d : Device) {n : Nat} (hn : n < 64) : (d.jobsEnd.dmaOf n).taken = [] := by
  have hforgets := portForgets_taken d hn
  rw [← dmaOf_wr d.portForgets O.LA_CONTEXTS_BUSY 0 0 n] at hforgets
  unfold jobsEnd
  generalize d.portForgets.wr O.LA_CONTEXTS_BUSY 0 0 = f at hforgets ⊢
  exact ((Closes.foldl (d.la.jobs.map LaJob.ring) (fun x _ a => jobGone_closes a x) f).frees.ring n hn).taken hforgets

theorem jobsEnd_jobs (d : Device) : d.jobsEnd.la.jobs = [] := by
  unfold jobsEnd
  rw [jobsGone_jobs, wr_la, portForgets_jobs]

theorem jobsEnd_busy (d : Device) : d.jobsEnd.rd O.LA_CONTEXTS_BUSY = 0 :=
  ((jobsGone_keeps (d.la.jobs.map LaJob.ring) (d.portForgets.wr O.LA_CONTEXTS_BUSY 0 0)).objs (by decide) _ _ (by decide)).trans
    (rd_wr_self _ _ _ _)

/-- What a reset of the host port changes beside the count of lookaside contexts. -/
def portResetPlaces : List Nat :=
  O.VAULT_CMD :: F.pcieWindows :: F.pcieMasked :: F.pcieVectors :: F.pcieMsixOn :: F.pcieFuncMask :: F.la :: closing

theorem jobsEnd_only (d : Device) (R : List (Nat × Nat)) (hR : (O.LA_CONTEXTS_BUSY, 0) ∈ R) : Only R portResetPlaces d d.jobsEnd :=
  (((Only.refl R _ d).keeps (by decide) ((portForgets_keeps d).mono (by unfold Sub; decide))).wr (Or.inr hR)).keeps (by decide)
    ((jobsGone_keeps _ _).mono (by unfold Sub; decide))

theorem ringsStop_closes (d : Device) : Closes d d.ringsStop := .foldl _ (fun _ hn a => dmaStop_closes a (List.mem_range.1 hn)) d

theorem ringsStop_keeps (d : Device) : Keeps Touch.dmaStop d d.ringsStop :=
  Keeps.foldl (Keeps.refl _ _) fun _ _ h => dmaStop_keeps (fun _ h => h) h

theorem dmaStop_stands {d : Device} {n : Nat} (hn : n < 64) (h : (d.dmaOf n).taken = []) :
    (d.dmaStop n).rd O.RING_STATE n = 0 ∧ (d.dmaStop n).rd O.RING_ENABLE n = 0 := by
  unfold dmaStop
  split
  · exact ⟨dmaHalt_state (((touch_closes d O.RING_ENABLE n).frees.ring n hn).taken h), dmaHalt_enable _ _⟩
  · exact ⟨dmaHalt_state h, dmaHalt_enable _ _⟩

/-- Rings with nothing in progress all stand, off. -/
theorem ringsStop_stand {d : Device} (h : ∀ n, n < 64 → (d.dmaOf n).taken = []) {n : Nat} (hn : n < 64) :
    d.ringsStop.rd O.RING_STATE n = 0 ∧ d.ringsStop.rd O.RING_ENABLE n = 0 :=
  Closes.foldl_all (P := fun n a => a.rd O.RING_STATE n = 0 ∧ a.rd O.RING_ENABLE n = 0) (List.range 64)
    (fun _ hx a => dmaStop_closes a (List.mem_range.1 hx))
    (fun x hx _ ha => dmaStop_stands (List.mem_range.1 hx) ((ha.frees.ring x (List.mem_range.1 hx)).taken (h x (List.mem_range.1 hx))))
    (fun x hx _ _ hab ha => ⟨(hab.frees.ring x (List.mem_range.1 hx)).stopped ha.1, (hab.frees.ring x (List.mem_range.1 hx)).enable ha.2⟩)
    d (.refl d) n (List.mem_range.2 hn)

/-- What every reset of the host port leaves (R68, R75, R311). -/
structure PortReset (a b : Device) : Prop where
  sessions : ∀ row, 33 ≤ row → row ≤ 48 → b.rd O.SESSION_STATE row = 0
  rings : ∀ n, n < 64 → b.rd O.RING_STATE n = 0 ∧ b.rd O.RING_ENABLE n = 0
  windows : ∀ w, b.winOf w = WinReg.empty
  vectors : ∀ e, e < 64 → b.pcie.masked.testBit e = true ∧ b.vectorOf e = 0
  pending : b.pcie.pendBits = 0
  off : b.pcie.msixOn = false
  jobs : b.la.jobs = []
  busy : b.rd O.LA_CONTEXTS_BUSY = 0
  frame : ∀ R, (O.LA_CONTEXTS_BUSY, 0) ∈ R → Only R portResetPlaces a b

theorem hostPortReset_done (d : Device) : PortReset d d.hostPortReset := by
  have hclosed : Keeps Touch.closeSessions d.jobsEnd (d.jobsEnd.closeSessions 33 48) := closeSessions_keeps (fun _ h => h) (Keeps.refl _ _)
  have htaken : ∀ n, n < 64 → ((d.jobsEnd.closeSessions 33 48).dmaOf n).taken = [] := fun n hn =>
    ((closeSessions_closes _ _ _).frees.ring n hn).taken (jobsEnd_taken d hn)
  have hstate : ∀ row, 33 ≤ row → row ≤ 48 → (d.jobsEnd.closeSessions 33 48).ringsStop.rd O.SESSION_STATE row = 0 := fun row hlo hhi =>
    (ringsStop_closes _).frees.closed row (closeSessions_state _ hlo hhi)
  have hrings := fun n hn => ringsStop_stand htaken (n := n) hn
  have hstop := ringsStop_keeps (d.jobsEnd.closeSessions 33 48)
  have hjobs : (d.jobsEnd.closeSessions 33 48).ringsStop.la.jobs = [] :=
    (congrArg LaX.jobs ((hstop.fields 56 (by decide)).trans (hclosed.fields 56 (by decide)))).trans (jobsEnd_jobs d)
  have hbusy : (d.jobsEnd.closeSessions 33 48).ringsStop.rd O.LA_CONTEXTS_BUSY = 0 :=
    ((hstop.objs (by decide) _ _ (by decide)).trans (hclosed.objs (by decide) _ _ (by decide))).trans (jobsEnd_busy d)
  have honly : ∀ R, (O.LA_CONTEXTS_BUSY, 0) ∈ R → Only R portResetPlaces d (d.jobsEnd.closeSessions 33 48).ringsStop := fun R hR =>
    ((jobsEnd_only d R hR).keeps (by decide) (hclosed.mono (by unfold Sub; decide))).keeps (by decide) (hstop.mono (by unfold Sub; decide))
  rw [hostPortReset_eq]
  generalize (d.jobsEnd.closeSessions 33 48).ringsStop = f at *
  exact
    { sessions := hstate, rings := hrings, windows := fun _ => rfl
      vectors := fun e he => ⟨(Nat.testBit_two_pow_sub_one 64 e).trans (decide_eq_true he), rfl⟩
      pending := rfl, off := rfl, jobs := hjobs, busy := hbusy
      frame := fun R hR => (honly R hR).keeps (by decide) (setPcie_keeps (by unfold Sub; decide) (Keeps.refl _ _) rfl rfl) }

end Device

/-- Settles O26: a reset lets go of everything the port held, and a write of the host releases exactly the entries due after it. -/
theorem hostPortLinksAndResets : Obligations.HostPortLinksAndResets := by
  unfold Obligations.HostPortLinksAndResets
  refine ⟨?up, ?reset, ?unmask, ?mask, ?control⟩
  case up =>
    intro w sp s hmode hw hw' hsp hsp'
    have heq : s.dev.pcieLinkUp w sp = (s.dev.wr O.PCIE_LINK_WIDTH 0 w).wr O.PCIE_LINK_SPEED 0 sp :=
      if_neg (by simp only [hmode, false_or]; omega)
    refine ⟨{ s with dev := s.dev.pcieLinkUp w sp }, rfl, ?_⟩
    rw [heq]
    exact ⟨(Device.rd_wr_obj _ _ _ _ (by decide)).trans (Device.rd_wr_self _ _ _ _), Device.rd_wr_self _ _ _ _,
      ((Only.refl _ _ _).wr (Or.inr (by simp))).wr (Or.inr (by simp))⟩
  case reset =>
    intro c s hmode
    have heq : s.dev.pciePortReset c = if c = .flr then s.dev.hostPortReset else
        (s.dev.hostPortReset.wr O.PCIE_LINK_WIDTH 0 0).wr O.PCIE_LINK_SPEED 0 0 := if_neg hmode
    obtain ⟨hsess, hrings, hwin, hvec, hpend, hoff, hjobs, hbusy, hframe⟩ := Device.hostPortReset_done s.dev
    have hframe := hframe [(O.LA_CONTEXTS_BUSY, 0), (O.PCIE_LINK_WIDTH, 0), (O.PCIE_LINK_SPEED, 0)] (by simp)
    have hlink : ∀ o ∈ [O.PCIE_LINK_WIDTH, O.PCIE_LINK_SPEED], s.dev.hostPortReset.rd o = s.dev.rd o := fun o ho =>
      (Device.hostPortReset_keeps (fun _ h => h) (Keeps.refl Touch.hostPortReset s.dev)).objs (by decide) o 0 (by revert o; decide)
    refine ⟨{ s with dev := s.dev.pciePortReset c }, rfl, ?_⟩
    rw [heq]
    generalize s.dev.hostPortReset = f at *
    by_cases hc : c = .flr
    · rw [if_pos hc, if_pos hc, if_pos hc]
      exact ⟨hsess, hrings, hwin, hvec, hpend, hoff, hjobs, hbusy, hlink _ (by decide), hlink _ (by decide), hframe⟩
    · rw [if_neg hc, if_neg hc, if_neg hc]
      have hrd : ∀ o row, o ∉ [O.PCIE_LINK_WIDTH, O.PCIE_LINK_SPEED] → ((f.wr O.PCIE_LINK_WIDTH 0 0).wr O.PCIE_LINK_SPEED 0 0).rd o row = f.rd o row :=
        fun o row ho => by
          simp only [List.mem_cons, List.not_mem_nil, or_false, not_or] at ho
          rw [Device.rd_wr_obj _ _ _ _ (Ne.symm ho.2), Device.rd_wr_obj _ _ _ _ (Ne.symm ho.1)]
      refine ⟨fun row hlo hhi => (hrd _ _ (by decide)).trans (hsess row hlo hhi), fun n hn => ?_, hwin, hvec, hpend, hoff, hjobs,
        (hrd _ _ (by decide)).trans hbusy, ?_, Device.rd_wr_self _ _ _ _, (hframe.wr (Or.inr (by simp))).wr (Or.inr (by simp))⟩
      · rw [hrd _ _ (by decide), hrd _ _ (by decide)]
        exact hrings n hn
      · rw [Device.rd_wr_obj _ _ _ _ (by decide), Device.rd_wr_self]
  case unmask =>
    intro e a v s hmode he ha hv hon hfunc hsettled
    have heq : s.dev.msixUnmask (.entry e a v false) = (List.range 64).foldl Device.msixRelease (s.dev.entryWritten e a v false) := by
      rw [Device.msixUnmask_eq hmode, Device.msixStore_entry he]
    have hdue : ∀ k ∈ List.range 64, (s.dev.entryWritten e a v false).msixDue k = (k == e && s.dev.pcie.pendBits.testBit e) := fun k hk => by
      rw [Device.entryWritten_due hsettled e a v false (List.mem_range.1 hk), hon, hfunc]
      simp
    have hwritten := Device.entryWritten_keeps s.dev e a v false
    have hmask : ∀ k, (s.dev.entryWritten e a v false).pcie.masked.testBit k = if e = k then false else s.dev.pcie.masked.testBit k :=
      fun k => testBit_setBit s.dev.pcie.masked e k false
    have hvecSelf : (s.dev.entryWritten e a v false).vectorOf e = v % 2 ^ 32 * 2 ^ 64 + a % 2 ^ 64 := Device.natAt_natPut_self _ _ _
    have hvecOther : ∀ k, k ≠ e → (s.dev.entryWritten e a v false).vectorOf k = s.dev.vectorOf k := fun k hk => Device.natAt_natPut_ne _ hk _
    have hpendWritten : (s.dev.entryWritten e a v false).pcie.pendBits = s.dev.pcie.pendBits := rfl
    have houtWritten : (s.dev.entryWritten e a v false).out = s.dev.out := rfl
    refine ⟨{ s with dev := s.dev.msixUnmask (.entry e a v false) }, rfl, ?_⟩
    rw [heq]
    generalize s.dev.entryWritten e a v false = x at *
    have hkeeps := Device.msixReleases_keeps (List.range 64) x
    have hmasked : ((List.range 64).foldl Device.msixRelease x).pcie.masked = x.pcie.masked := hkeeps.fields 17 (by decide)
    have hpending := Device.msixReleases_pending (List.range 64) List.nodup_range x
    have hout := Device.range64_out x
    generalize hy : (List.range 64).foldl Device.msixRelease x = y at *
    refine ⟨?_, ?_, fun k hk => ⟨?_, ?_, ?_⟩, ?_, ((Only.refl _ _ _).keeps (by decide) (hwritten.mono (by unfold Sub; decide))).keeps (by decide)
      (hkeeps.mono (by unfold Sub; decide))⟩
    · rw [hmasked, hmask, if_pos rfl]
    · rw [hpending, hdue e (List.mem_range.2 he), hpendWritten]
      simp [he]
    · rw [hmasked, hmask, if_neg (Ne.symm hk)]
    · rw [hpending, hpendWritten]
      by_cases hlt : k < 64
      · rw [hdue k (List.mem_range.2 hlt)]
        simp [hk]
      · simp [hlt]
    · rw [Device.vectorOf_congr hkeeps, hvecOther k hk]
    · have hmsg : x.msixMessage e = .msix e a v := by
        unfold Device.msixMessage
        rw [hvecSelf]
        congr 1 <;> omega
      rw [hout, houtWritten, List.filter_congr hdue]
      cases s.dev.pcie.pendBits.testBit e
      · simp
      · simp only [Bool.and_true]
        rw [Device.filter_range_eq he, List.map_singleton, hmsg]
        rfl
  case mask =>
    intro e a v s hmode he hsettled
    have heq : s.dev.msixUnmask (.entry e a v true) = s.dev.entryWritten e a v true := by
      rw [Device.msixUnmask_eq hmode, Device.msixStore_entry he]
      refine Device.msixReleases_none _ _ fun k hk => ?_
      rw [Device.entryWritten_due hsettled e a v true (List.mem_range.1 hk)]
      simp
    refine ⟨{ s with dev := s.dev.msixUnmask (.entry e a v true) }, rfl, ?_⟩
    rw [heq]
    exact ⟨(testBit_setBit s.dev.pcie.masked e e true).trans (if_pos rfl), rfl, (Only.refl _ _ _).keeps (by decide) (Device.entryWritten_keeps _ _ _ _ _)⟩
  case control =>
    intro on fm s hmode
    obtain ⟨x, hx⟩ : ∃ x, x = s.dev.msixStore (.control on fm) := ⟨_, rfl⟩
    have heq : s.dev.msixUnmask (.control on fm) = (List.range 64).foldl Device.msixRelease x := by rw [hx, Device.msixUnmask_eq hmode]
    have hlive : ∀ e, x.msixLive e = (on && !fm && !s.dev.pcie.masked.testBit e) := fun e => by
      rw [hx]
      rfl
    have hvec : ∀ e, x.vectorOf e = s.dev.vectorOf e := fun e => by
      rw [hx]
      rfl
    have hpend : x.pcie.pendBits = s.dev.pcie.pendBits := by rw [hx]; rfl
    have hon : x.pcie.msixOn = on := by rw [hx]; rfl
    have hfm : x.pcie.funcMask = fm := by rw [hx]; rfl
    have hstore : Keeps [F.pcieMsixOn, F.pcieFuncMask] s.dev x := hx ▸ (Keeps.refl _ _).same rfl rfl fun k hk => by
      unfold sameField
      split <;> first | rfl | trivial
    refine ⟨{ s with dev := s.dev.msixUnmask (.control on fm) }, rfl, ?_⟩
    rw [heq]
    have hkeeps := Device.msixReleases_keeps (List.range 64) x
    refine ⟨(hkeeps.fields 58 (by decide)).trans hon, (hkeeps.fields 59 (by decide)).trans hfm, fun e he => ?_, fun e he hp hon' hfm' hmask => ?_,
      ((Only.refl _ _ _).keeps (by decide) (hstore.mono (by unfold Sub; decide))).keeps (by decide) (hkeeps.mono (by unfold Sub; decide))⟩
    · rw [Device.range64_pending x he, hlive, hpend]
    · have hdue : x.msixDue e = true := by
        unfold Device.msixDue
        rw [hpend, hp, hlive, hon', hfm', hmask]
        rfl
      have hmsg : x.msixMessage e = .msix e (s.dev.vectorOf e % 2 ^ 64) (s.dev.vectorOf e / 2 ^ 64 % 2 ^ 32) := by
        unfold Device.msixMessage
        rw [hvec]
      show _ ∈ Device.out _
      rw [Device.range64_out x, ← hmsg]
      exact List.mem_append_right _ (List.mem_map.2 ⟨e, List.mem_filter.2 ⟨List.mem_range.2 he, hdue⟩, rfl⟩)

end Sys2Proof.Machine
end

section
/-!
PROOF. The family 03_holloth_ring_and_host_port: one access to sound external memory, of which only the tree cache and the counters
of node lines that leave it take notice.
-/
set_option Elab.async false
namespace Sys2Proof.Machine

/-! ### The tree cache (R321 to R323) -/

namespace Device

theorem mem_keeps {V : List Nat} {a b : Device} (h : Keeps V a b) (hV : F.memCells ∉ V ∧ F.memRest ∉ V) : b.mem = a.mem := by
  have hcells : b.mem.cells = a.mem.cells := h.fields 46 hV.1
  have hrest : b.mem.rest = a.mem.rest := h.fields 47 hV.2
  calc b.mem = { b.mem.rest with cells := b.mem.cells } := rfl
    _ = { a.mem.rest with cells := a.mem.cells } := by rw [hcells, hrest]
    _ = a.mem := rfl

/-- The device with another tree cache and other counters of node lines. -/
def recached (d : Device) (c : List (Nat × Bool)) (n : List (Nat × Nat)) : Device := d.setMem { d.mem with cached := c, nodeCtr := n }

/-- `b` is `a` but for the tree cache and the counters of node lines. -/
def Recached (a b : Device) : Prop := ∃ c n, b = a.recached c n

theorem Recached.refl (d : Device) : Recached d d := ⟨d.mem.cached, d.mem.nodeCtr, rfl⟩

theorem Recached.trans {a b c : Device} (h : Recached a b) (k : Recached b c) : Recached a c := by
  obtain ⟨l, n, rfl⟩ := h
  obtain ⟨l', n', rfl⟩ := k
  exact ⟨l', n', rfl⟩

theorem Recached.keeps {a b : Device} (h : Recached a b) : Keeps [F.memRest] a b := by
  obtain ⟨c, n, rfl⟩ := h
  exact (Keeps.refl _ a).same rfl rfl fun k hk => by
    unfold sameField
    split <;> first | rfl | trivial

/-- No node line is known to fail, the tree cache holds at most `L` of them, and no counter of one is above `N`. -/
structure TreeRoom (L N : Nat) (d : Device) : Prop where
  bad : d.mem.badNodes = []
  length : d.mem.cached.length ≤ L
  counter : ∀ k, natAt d.mem.nodeCtr k ≤ N

theorem TreeRoom.mono {L L' N N' : Nat} {d : Device} (h : TreeRoom L N d) (hL : L ≤ L') (hN : N ≤ N') : TreeRoom L' N' d :=
  ⟨h.bad, h.length.trans hL, fun k => (h.counter k).trans hN⟩

theorem setCached_recached (d : Device) (l : List (Nat × Bool)) : Recached d (d.setCached l) := ⟨l, d.mem.nodeCtr, rfl⟩

theorem TreeRoom.setCached {L L' N : Nat} {d : Device} (h : TreeRoom L N d) {l : List (Nat × Bool)} (hl : l.length ≤ L') :
    TreeRoom L' N (d.setCached l) := ⟨h.bad, hl, h.counter⟩

theorem cacheNode_recached (d : Device) (k : Nat) (dirty : Bool) : Recached d (d.cacheNode k dirty) := setCached_recached _ _

theorem TreeRoom.cacheNode {L N : Nat} {d : Device} (h : TreeRoom L N d) (k : Nat) (dirty : Bool) : TreeRoom (L + 1) N (d.cacheNode k dirty) :=
  h.setCached (by
    rw [List.length_append, List.length_singleton]
    exact Nat.succ_le_succ ((List.length_filter_le _ _).trans h.length))

/-- Fetching the ancestors of a node caches at most the height of the tree. -/
theorem fetchNodes_room {L N : Nat} : ∀ (k c n : Nat) {d : Device}, TreeRoom L N d → Recached d (fetchNodes k c n d) ∧ TreeRoom (L + k) N (fetchNodes k c n d)
  | 0, _, _, d, h => ⟨.refl d, h⟩
  | k + 1, c, n, d, h => by
    unfold fetchNodes
    split
    · exact ⟨.refl d, h.mono (by omega) le_rfl⟩
    · cases nodeParent n with
      | none => exact ⟨cacheNode_recached _ _ _, (h.cacheNode _ _).mono (by omega) le_rfl⟩
      | some m =>
        obtain ⟨hre, hroom⟩ := fetchNodes_room k c m h
        exact ⟨hre.trans (cacheNode_recached _ _ _), hroom.cacheNode _ _⟩

theorem natAt_natPut (l : List (Nat × Nat)) (k v j : Nat) : natAt (natPut l k v) j = if j = k then v else natAt l j := by
  split
  · rename_i h
    rw [h, natAt_natPut_self]
  · rename_i h
    exact natAt_natPut_ne l h v

/-- A node line written back counts once, and its ancestors are cached. -/
theorem nodeWriteBack_room {L N : Nat} {d : Device} (c n : Nat) (h : TreeRoom L N d) (hN : N < 2 ^ 64 - 1) :
    Recached d (d.nodeWriteBack c n) ∧ TreeRoom (L + 7) (N + 1) (d.nodeWriteBack c n) := by
  have hnot : natAt d.mem.nodeCtr (physKey c n) ≠ 2 ^ 64 - 1 := by
    have := h.counter (physKey c n)
    omega
  have hbad : d.mem.badNodes.filter (· != physKey c n) = d.mem.badNodes := by
    rw [h.bad]
    rfl
  have hcounted : d.setMem { d.mem with
        nodeCtr := natPut d.mem.nodeCtr (physKey c n) (natAt d.mem.nodeCtr (physKey c n) + 1)
        badNodes := d.mem.badNodes.filter (· != physKey c n) } =
      d.recached d.mem.cached (natPut d.mem.nodeCtr (physKey c n) (natAt d.mem.nodeCtr (physKey c n) + 1)) := by
    rw [hbad]
    rfl
  have hroom : TreeRoom L (N + 1) (d.recached d.mem.cached (natPut d.mem.nodeCtr (physKey c n) (natAt d.mem.nodeCtr (physKey c n) + 1))) := by
    refine ⟨h.bad, h.length, fun j => ?_⟩
    have hself := h.counter (physKey c n)
    have hother := h.counter j
    show natAt (natPut d.mem.nodeCtr (physKey c n) (natAt d.mem.nodeCtr (physKey c n) + 1)) j ≤ N + 1
    rw [natAt_natPut]
    split <;> omega
  unfold nodeWriteBack
  dsimp only
  rw [if_neg hnot, hcounted]
  cases nodeParent n with
  | none => exact ⟨⟨_, _, rfl⟩, hroom.mono (by omega) le_rfl⟩
  | some m =>
    obtain ⟨hre, hroom'⟩ := fetchNodes_room 6 c m hroom
    exact ⟨(Recached.trans ⟨_, _, rfl⟩ hre).trans (cacheNode_recached _ _ _), hroom'.cacheNode _ _⟩

theorem evictNode_room {L N : Nat} {d : Device} (c n : Nat) (h : TreeRoom L N d) (hN : N < 2 ^ 64 - 1) :
    Recached d (d.evictNode c n) ∧ TreeRoom (L + 7) (N + 1) (d.evictNode c n) := by
  have hre := setCached_recached d (d.mem.cached.filter (fun e => e.1 != physKey c n))
  have hroom := h.setCached ((List.length_filter_le (fun e => e.1 != physKey c n) d.mem.cached).trans h.length)
  unfold evictNode
  dsimp only
  split
  · obtain ⟨hre', hroom'⟩ := nodeWriteBack_room c n hroom hN
    exact ⟨hre.trans hre', hroom'⟩
  · exact ⟨hre, hroom.mono (by omega) (by omega)⟩

theorem trimTo_room : ∀ (k : Nat) {L N : Nat} {d : Device}, TreeRoom L N d → N + k < 2 ^ 64 →
    Recached d (trimTo k d) ∧ TreeRoom (L + 7 * k) (N + k) (trimTo k d)
  | 0, _, _, d, h, _ => ⟨.refl d, h⟩
  | k + 1, L, N, d, h, hN => by
    have hmono : TreeRoom (L + 7 * (k + 1)) (N + (k + 1)) d := h.mono (by omega) (by omega)
    unfold trimTo
    split
    · exact ⟨.refl d, hmono⟩
    · split
      · exact ⟨.refl d, hmono⟩
      · rename_i e l _
        obtain ⟨hre, hroom⟩ := evictNode_room (e.1 / 2 ^ 21) (e.1 % 2 ^ 21) h (by omega)
        obtain ⟨hre', hroom'⟩ := trimTo_room k hroom (by omega)
        exact ⟨hre.trans hre', hroom'.mono (by omega) (by omega)⟩

theorem trimCache_room {L N : Nat} {d : Device} (h : TreeRoom L N d) (hN : N + (16 + L) < 2 ^ 64) :
    Recached d d.trimCache ∧ TreeRoom (8 * L + 112) (N + (16 + L)) d.trimCache := by
  have hfuel : 16 + d.mem.cached.length - d.cacheLines ≤ 16 + L := by
    have := h.length
    omega
  obtain ⟨hre, hroom⟩ := trimTo_room (16 + d.mem.cached.length - d.cacheLines) h (by omega)
  exact ⟨hre, hroom.mono (by omega) (by omega)⟩

/-- One walk up the tree: each level multiplies what the cache may hold by at most 8. -/
theorem walkUp_room {X N : Nat} : ∀ (k c n : Nat) {L : Nat} {d : Device}, TreeRoom L N d → L + 18 ≤ X → N + 8 ^ k * X < 2 ^ 64 →
    Recached d (walkUp k c n d) ∧ TreeRoom (8 ^ k * X - 18) (N + 8 ^ k * X) (walkUp k c n d)
  | 0, _, _, _, d, h, hX, _ => ⟨.refl d, h.mono (by omega) (by omega)⟩
  | k + 1, c, n, L, d, h, hX, hN => by
    have hpow : 8 ^ (k + 1) * X = 8 * (8 ^ k * X) := by rw [Nat.pow_succ]; ring
    have hge : X ≤ 8 ^ k * X := Nat.le_mul_of_pos_left _ (by positivity)
    rw [hpow] at hN ⊢
    unfold walkUp
    split
    · exact ⟨.refl d, h.mono (by omega) (by omega)⟩
    · have habove : Recached d ((nodeParent n).elim d (fun m => walkUp k c m d)) ∧
          TreeRoom (8 ^ k * X - 18) (N + 8 ^ k * X) ((nodeParent n).elim d (fun m => walkUp k c m d)) := by
        cases nodeParent n with
        | none => exact ⟨.refl d, h.mono (by omega) (by omega)⟩
        | some m => exact walkUp_room k c m h hX (by omega)
      obtain ⟨hre, hroom⟩ := habove
      obtain ⟨hre', hroom'⟩ := trimCache_room (hroom.cacheNode (physKey c n) false) (by omega)
      exact ⟨(hre.trans (cacheNode_recached _ _ _)).trans hre', hroom'.mono (by omega) (by omega)⟩

/-! ### One access to sound memory -/

theorem treeRoom_of_sound {d : Device} (h : MemSound d) : TreeRoom (2 ^ 32) (2 ^ 63) d :=
  ⟨h.2.2.1, h.2.1.le, fun k => (h.2.2.2.2 k).2.le⟩

/-- The device that has counted the fetch of a counter, a hit or a miss of the tree cache (R322). -/
inductive FetchCounted (off : Nat) (d : Device) : Device → Prop
  | hit : FetchCounted off d (d.inc64 O.MEM_TREE_HITS)
  | miss : FetchCounted off d ((d.inc64 O.MEM_TREE_MISSES).pmcHub 0x44 1 (passAddr off))

theorem fetchCounter_sound {d : Device} (h : MemSound d) (c i off : Nat) : ∃ e, FetchCounted off d e ∧ Recached e (d.fetchCounter c i off) := by
  unfold fetchCounter
  dsimp only
  split
  · refine ⟨_, .hit, ?_⟩
    split
    · exact .refl _
    · exact cacheNode_recached _ _ _
  · refine ⟨_, .miss, ?_⟩
    have hmem : ((d.inc64 O.MEM_TREE_MISSES).pmcHub 0x44 1 (passAddr off)).mem = d.mem :=
      mem_keeps (V := O.MEM_TREE_MISSES :: Touch.pmcHub) (pmcHub_keeps (by unfold Sub; decide) (inc64_keeps (Or.inl List.mem_cons_self)
        (Keeps.refl _ d))) (by decide)
    obtain ⟨hbad, hlength, hcounter⟩ := treeRoom_of_sound h
    exact (walkUp_room (X := 2 ^ 33) 6 c (i / 8) (L := 2 ^ 32) (N := 2 ^ 63) ⟨by rw [hmem, hbad], by rw [hmem]; exact hlength,
      fun k => by rw [hmem]; exact hcounter k⟩ (by norm_num) (by norm_num)).1

/-- What a fetched counter leaves: the fetch is counted, and of memory itself only the tree cache differs. -/
structure Fetched (a b : Device) : Prop where
  frame : Keeps memUsed a b
  counted : b.rd O.MEM_TREE_HITS + b.rd O.MEM_TREE_MISSES ≠ a.rd O.MEM_TREE_HITS + a.rd O.MEM_TREE_MISSES
  mem : b.mem = { a.mem with cached := b.mem.cached, nodeCtr := b.mem.nodeCtr }

theorem inc64_ne (d : Device) (o : Nat) : (d.inc64 o).rd o ≠ d.rd o := by
  have hrd : (d.inc64 o).rd o = (d.rd o + 1) % 2 ^ 64 := rd_wr_self _ _ _ _
  have := Nat.mod_lt (d.rd o + 1) (show 0 < 2 ^ 64 by norm_num)
  rw [hrd]
  omega

theorem inc64_other (d : Device) {o o' : Nat} (h : o ≠ o') (r : Nat) : (d.inc64 o).rd o' r = d.rd o' r := rd_wr_obj _ _ _ _ h

theorem FetchCounted.fetched {off : Nat} {d e : Device} (h : FetchCounted off d e) : Fetched d e := by
  cases h with
  | hit =>
    refine ⟨inc64_keeps (Or.inl (by decide)) (Keeps.refl _ _), ?_, rfl⟩
    have hne := inc64_ne d O.MEM_TREE_HITS
    have hmisses := inc64_other d (show O.MEM_TREE_HITS ≠ O.MEM_TREE_MISSES by decide) 0
    omega
  | miss =>
    have hpmc := pmcHub_keeps (code := 0x44) (k := 1) (pass := passAddr off) (fun _ h => h) (Keeps.refl Touch.pmcHub (d.inc64 O.MEM_TREE_MISSES))
    have hinc : Keeps memUsed d (d.inc64 O.MEM_TREE_MISSES) := inc64_keeps (Or.inl (by decide)) (Keeps.refl _ _)
    refine ⟨hinc.trans (hpmc.mono (by unfold Sub; decide)), ?_, by rw [mem_keeps hpmc (by decide)]; rfl⟩
    have hne := inc64_ne d O.MEM_TREE_MISSES
    have hhits := inc64_other d (show O.MEM_TREE_MISSES ≠ O.MEM_TREE_HITS by decide) 0
    rw [hpmc.objs (by decide) _ _ (by decide), hpmc.objs (by decide) _ _ (by decide)]
    omega

theorem fetchCounter_fetched {d : Device} (h : MemSound d) (c i off : Nat) : Fetched d (d.fetchCounter c i off) := by
  obtain ⟨e, he, hre⟩ := fetchCounter_sound h c i off
  obtain ⟨hframe, hcounted, hmem⟩ := he.fetched
  obtain ⟨l, n, heq⟩ := hre
  rw [heq]
  refine ⟨hframe.trans ((Recached.keeps ⟨l, n, rfl⟩).mono (by unfold Sub; decide)), hcounted, ?_⟩
  show { e.mem with cached := l, nodeCtr := n } = { d.mem with cached := l, nodeCtr := n }
  rw [hmem]

theorem Fetched.fields {a b : Device} (h : Fetched a b) : b.mem.cells = a.mem.cells ∧ b.mem.ctr = a.mem.ctr ∧ b.mem.poisoned = a.mem.poisoned ∧
    b.mem.frozen = a.mem.frozen ∧ b.mem.badNodes = a.mem.badNodes ∧ b.mem.zeroed = a.mem.zeroed := by
  refine ⟨?_, ?_, ?_, ?_, ?_, ?_⟩ <;> rw [h.mem]

/-- With no node line known to fail, every counter can be verified. -/
theorem unverifiable_sound {d : Device} (h : d.mem.badNodes = []) (c i : Nat) : d.unverifiable c i = false := by
  unfold unverifiable
  rw [h]
  rfl

theorem poisonedLine_congr {a b : Device} (h : b.mem.poisoned = a.mem.poisoned) (p : Nat) : b.poisonedLine p = a.poisonedLine p := by
  unfold poisonedLine
  rw [h]

/-- A read of a sound line that is not poisoned is a fetch of its counter. -/
theorem readLine_sound {d : Device} (h : MemSound d) {p : Nat} (hp : d.poisonedLine p = false) : ∃ b, d.readLine p = (true, b) ∧ Fetched d b := by
  have hfetch := fetchCounter_fetched h (d.place p).1 (d.place p).2 (64 * p)
  obtain ⟨hzeroed, -, hbad, -⟩ := h
  refine ⟨_, ?_, hfetch⟩
  unfold readLine
  rw [if_neg (by simp [hzeroed]), if_neg (by simp [unverifiable_sound hbad])]
  dsimp only
  rw [if_neg (by rw [poisonedLine_congr hfetch.fields.2.2.1, hp]; exact Bool.false_ne_true)]

theorem verifyLine_sound {d : Device} (h : MemSound d) {p : Nat} (hp : d.poisonedLine p = false) (keep : Bool) :
    ∃ b, d.verifyLine p .ok keep = (true, b) ∧ Fetched d b := by
  have hfetch := fetchCounter_fetched h (d.place p).1 (d.place p).2 (64 * p)
  refine ⟨_, ?_, hfetch⟩
  unfold verifyLine lineFound
  dsimp only
  rw [if_neg (by simp [unverifiable_sound h.2.2.1]), if_neg (by rw [poisonedLine_congr hfetch.fields.2.2.1, hp]; exact Bool.false_ne_true)]

/-! ### Writes (R325, R326) -/

/-- A write counted of data line (c, i): the line's counter and the tree cache. -/
structure Bumped (a b : Device) : Prop where
  frame : Keeps [F.memRest] a b
  mem : b.mem = { a.mem with cached := b.mem.cached, ctr := b.mem.ctr }

/-- Where no line is read-only and no counter at its end, every write counts. -/
theorem bumpLine_sound {d : Device} (hfrozen : d.mem.frozen = []) {c i : Nat} (hctr : d.lineCtr c i < 2 ^ 64 - 1) :
    ∃ b, d.bumpLine c i = (true, b) ∧ Bumped d b := by
  have hset : ∀ l, Keeps [F.memRest] d (d.setMem { d.mem with ctr := l }) := fun l => (Keeps.refl _ d).same rfl rfl fun k hk => by
    unfold sameField
    split <;> first | rfl | trivial
  have hnot : d.frozenLine c i = false := by
    unfold frozenLine
    rw [hfrozen]
    simp
  unfold bumpLine
  rw [if_neg (by simp [hnot]), if_neg (by omega)]
  refine ⟨_, rfl, ?_⟩
  split
  · exact ⟨hset _, rfl⟩
  · exact ⟨(hset _).trans (cacheNode_recached _ _ _).keeps, rfl⟩

theorem Bumped.fields {a b : Device} (h : Bumped a b) : b.mem.cells = a.mem.cells ∧ b.mem.poisoned = a.mem.poisoned ∧
    b.mem.frozen = a.mem.frozen := by
  refine ⟨?_, ?_, ?_⟩ <;> rw [h.mem]

theorem lineCtr_congr {a b : Device} (h : b.mem.ctr = a.mem.ctr) (c i : Nat) : b.lineCtr c i = a.lineCtr c i := by
  unfold lineCtr
  rw [h]

/-- After a fetch from sound memory a write counts. -/
theorem Fetched.bump {a b : Device} (h : Fetched a b) (hs : MemSound a) (c i : Nat) : ∃ e, b.bumpLine c i = (true, e) ∧ Bumped b e := by
  obtain ⟨-, -, -, hfrozen, hctr⟩ := hs
  obtain ⟨-, hctr', -, hfrozen', -⟩ := h.fields
  have hlt := (hctr (physKey c i)).1
  refine bumpLine_sound (hfrozen'.trans hfrozen) ?_
  rw [lineCtr_congr hctr']
  unfold lineCtr
  omega

/-- A full-line write of sound memory: the line is good afterwards, whatever it was. -/
theorem fullLine_sound {d : Device} (h : MemSound d) (p : Nat) :
    ∃ b, d.fullLine p = (true, b) ∧ Keeps memUsed d b ∧ b.mem.cells = d.mem.cells ∧ b.poisonedLine p = false := by
  have hfetch := fetchCounter_fetched h (d.place p).1 (d.place p).2 (64 * p)
  obtain ⟨e, he, hbump⟩ := hfetch.bump h (d.place p).1 (d.place p).2
  have hclear : Keeps [F.memRest] e (e.setMem { e.mem with poisoned := e.mem.poisoned.filter (fun x => x.1 != p) }) :=
    (Keeps.refl _ e).same rfl rfl fun k hk => by
      unfold sameField
      split <;> first | rfl | trivial
  refine ⟨e.setMem { e.mem with poisoned := e.mem.poisoned.filter (fun x => x.1 != p) }, ?_, ?_, ?_, ?_⟩
  · unfold fullLine
    rw [if_neg (by simp [unverifiable_sound h.2.2.1]), he]
    rfl
  · exact (hfetch.frame.trans (hbump.frame.mono (by unfold Sub; decide))).trans (hclear.mono (by unfold Sub; decide))
  · exact hbump.fields.1.trans hfetch.fields.1
  · unfold poisonedLine setMem
    simp

/-- Bytes put from an offset on are there, and every other byte is as before. -/
theorem memByte_memPut (d : Device) (o x : Nat) (b : Byte) : (d.memPut o b).memByte x = if x = o then b else d.memByte x := by
  split
  · rename_i h
    rw [h]
    exact Sparse.get_put_self _ _ _ _
  · rename_i h
    exact Sparse.get_put_ne _ _ h _

theorem memByte_foldPut (o x : Nat) : ∀ (v : Bytes) (k : Nat) (d : Device),
    ((v.zipIdx k).foldl (fun d e => d.memPut (o + e.2) e.1) d).memByte x =
      if o + k ≤ x ∧ x < o + k + v.length then v.getD (x - (o + k)) 0#8 else d.memByte x
  | [], k, d => by
    rw [if_neg (by simp)]
    rfl
  | b :: v, k, d => by
    rw [List.zipIdx_cons, List.foldl_cons, memByte_foldPut o x v (k + 1), memByte_memPut]
    simp only [List.length_cons]
    by_cases hx : x = o + k
    · subst hx
      rw [if_neg (by omega), if_pos rfl, if_pos (by omega), Nat.sub_self]
      rfl
    · rw [if_neg hx]
      by_cases hin : o + (k + 1) ≤ x ∧ x < o + (k + 1) + v.length
      · obtain ⟨j, hj⟩ : ∃ j, x - (o + k) = j + 1 := ⟨x - (o + (k + 1)), by omega⟩
        rw [if_pos hin, if_pos (by omega), hj, List.getD_cons_succ]
        congr 1
        omega
      · rw [if_neg hin, if_neg (by omega)]

theorem memPutBytes_put (d : Device) (o : Nat) (v : Bytes) : BytesPut o v d (d.memPutBytes o v) := fun x => by
  unfold memPutBytes
  rw [memByte_foldPut]
  rfl

theorem bytesPut_of_cells {a b c : Device} {o : Nat} {v : Bytes} (h : BytesPut o v b c) (hcells : b.mem.cells = a.mem.cells) : BytesPut o v a c :=
  fun x => by
    rw [h x]
    unfold memByte
    rw [hcells]

/-- A partial write of good bytes to a sound line that is not poisoned. -/
theorem partialWrite_sound {d : Device} (h : MemSound d) {o : Nat} (hp : d.poisonedLine (o / 64) = false) (v : Bytes) :
    ∃ b, d.partialWrite o v .ok = (true, b) ∧ BytesPut o v d b ∧ Keeps (F.memCells :: memUsed) d b := by
  obtain ⟨f, hf, hfetch⟩ := verifyLine_sound h hp true
  obtain ⟨e, he, hbump⟩ := hfetch.bump h (f.place (o / 64)).1 (f.place (o / 64)).2
  refine ⟨e.memPutBytes o v, ?_, bytesPut_of_cells (memPutBytes_put e o v) (hbump.fields.1.trans hfetch.fields.1), ?_⟩
  · unfold partialWrite
    dsimp only
    rw [hf]
    dsimp only
    rw [he]
    rfl
  · exact memPutBytes_keeps (by unfold Sub; decide) ((hfetch.frame.mono (by unfold Sub; decide)).trans (hbump.frame.mono (by unfold Sub; decide)))

/-- A full-line write of host scratch (R314, R325). -/
theorem writeLine_scratch {d : Device} (h : MemSound d) {p : Nat} (hr : regionOf (64 * p) = .scratch) (v : Bytes) :
    ∃ b, d.writeLine p v = (true, b) ∧ BytesPut (64 * p) (fit 64 v) d b ∧ b.poisonedLine p = false ∧ Keeps (F.memCells :: memUsed) d b := by
  obtain ⟨e, he, hframe, hcells, hgood⟩ := fullLine_sound h p
  have hput := memPutBytes_keeps (o := 64 * p) (bs := fit 64 v) (fun _ h => h) (Keeps.refl Touch.memPutBytes e)
  have hrest : (e.memPutBytes (64 * p) (fit 64 v)).mem.rest = e.mem.rest := hput.fields 47 (by decide)
  refine ⟨e.memPutBytes (64 * p) (fit 64 v), ?_, bytesPut_of_cells (memPutBytes_put e _ _) hcells, ?_,
    (hframe.mono (by unfold Sub; decide)).trans (hput.mono (by unfold Sub; decide))⟩
  · unfold writeLine
    dsimp only
    rw [he]
    dsimp only
    unfold putLine
    rw [hr]
    rfl
  · have hpoisoned : (e.memPutBytes (64 * p) (fit 64 v)).mem.rest.poisoned = e.mem.rest.poisoned := by rw [hrest]
    rw [poisonedLine_congr hpoisoned, hgood]

end Device
end Sys2Proof.Machine
end

section
/-!
PROOF. The family 03_holloth_ring_and_host_port: a fault that keeps its base class (R369 to R371).
-/
set_option Elab.async false
namespace Sys2Proof.Machine

/-- What the count rule and the repeat rule look at. -/
def ruled : List Nat :=
  [F.objects, O.FLT_SRC_N, O.FLT_SRC_W_MS, O.MON_HEAT_N, O.MON_HEAT_W_MS, O.FLT_STATUS, F.faults]

/-- A calm source stays calm while time only goes on and nothing the rules look at changes. -/
theorem Calm.later {V : List Nat} {a b : Device} {src cls : Nat} (h : Calm src cls a) (k : Keeps V a b) (hV : ∀ x ∈ ruled, x ∉ V)
    (hcyc : a.cyc ≤ b.cyc) : Calm src cls b := by
  have hrd : ∀ o ∈ ruled, ∀ r, b.rd o r = a.rd o r := fun o ho r => k.objs (hV _ (by decide)) o r (hV o ho)
  have hfaults : b.faults = a.faults := k.fields 26 (hV _ (by decide))
  have hn : b.srcN src = a.srcN src := by
    unfold Device.srcN
    rw [hrd O.FLT_SRC_N (by decide), hrd O.MON_HEAT_N (by decide)]
  have hw : b.srcW src = a.srcW src := by
    unfold Device.srcW
    rw [hrd O.FLT_SRC_W_MS (by decide), hrd O.MON_HEAT_W_MS (by decide)]
  have hcount : b.windowCount src ≤ a.windowCount src := by
    unfold Device.windowCount
    rw [hw, hfaults, ← List.countP_eq_length_filter, ← List.countP_eq_length_filter]
    refine List.countP_mono_left fun e _ he => ?_
    simp only [Bool.and_eq_true, decide_eq_true_eq] at he ⊢
    exact ⟨he.1, by omega⟩
  obtain ⟨hun, hstatus⟩ := h
  refine ⟨?_, by rwa [hrd O.FLT_STATUS (by decide)]⟩
  unfold Uncounted at hun ⊢
  omega

theorem Calm.keeps {V : List Nat} {a b : Device} {src cls : Nat} (h : Calm src cls a) (k : Keeps V a b) (hV : ∀ x ∈ ruled, x ∉ V)
    (hcyc : F.cyc ∉ V) : Calm src cls b := h.later k hV (Nat.le_of_eq (k.fields 4 hcyc).symm)

theorem Seen.keeps {V : List Nat} {a b : Device} {src : Nat} (h : Seen src a) (k : Keeps V a b)
    (hV : F.objects ∉ V ∧ O.FLT_SRC_STATE ∉ V ∧ F.mode ∉ V) : Seen src b := by
  obtain ⟨hstate, hmode⟩ := h
  exact ⟨by rwa [k.objs hV.1 _ _ hV.2.1], by rwa [show b.mode = a.mode from k.fields 0 hV.2.2]⟩

namespace Device

theorem windowCount_addEvent (d : Device) (src : Nat) : (d.addEvent src).windowCount src ≤ d.windowCount src + 1 := by
  unfold windowCount
  show (List.filter _ ((src, d.cyc) :: d.faults.events)).length ≤ _
  rw [List.filter_cons]
  split
  · exact Nat.le_refl _
  · exact Nat.le_succ _

/-- A fault of a calm source that is seen keeps its base class. -/
theorem fault_calm {d : Device} {src base : Nat} (code : Nat) (detail : Bytes) (hseen : Seen src d) (hcalm : Calm src base d) (hbase : 2 ≤ base) :
    ∃ w c, d.fault src code base detail =
      (((d.addEvent src).writeRecord src code base base 0 0 c w detail).latch src base).react base := by
  obtain ⟨hstate, hmode⟩ := hseen
  obtain ⟨hun, hstatus⟩ := hcalm
  have hcount : (d.addEvent src).countRule src base = base := by
    have hn : (d.addEvent src).srcN src = d.srcN src := rfl
    have hle := windowCount_addEvent d src
    unfold countRule
    rw [if_neg]
    unfold Uncounted at hun
    rw [hn]
    omega
  have hrepeat : (d.addEvent src).repeatRule base = base := by
    unfold repeatRule
    rw [if_neg]
    rintro ⟨-, -, hbit⟩
    have hrd : (d.addEvent src).rd O.FLT_STATUS = d.rd O.FLT_STATUS := rfl
    rw [hrd, hstatus] at hbit
    exact Bool.false_ne_true hbit
  refine ⟨(d.addEvent src).windowCount src, (d.addEvent src).reactionCode base, ?_⟩
  unfold fault
  rw [if_neg (by simp [srcUnseen, hstate, hmode])]
  dsimp only
  rw [hcount, hrepeat, if_pos hbase]
  simp only [Nat.lt_irrefl, if_false, Nat.add_zero]

/-- A latched class shows in FLT_STATUS (R373). -/
theorem latch_status (d : Device) (src : Nat) {c : Nat} (hc : c = 2 ∨ c = 3) : ((d.latch src c).rd O.FLT_STATUS).testBit c = true := by
  have hheld : (natPut d.faults.held src (setBit (natAt d.faults.held src) c true)).any (fun e => e.2.testBit c) = true := by
    by_contra hno
    have hall : ∀ e ∈ natPut d.faults.held src (setBit (natAt d.faults.held src) c true), e.2.testBit c = false := by
      simpa using hno
    have hget := natAt_of_forall (q := fun v => v.testBit c = false) (Nat.zero_testBit c) hall src
    rw [natAt_natPut_self] at hget
    simp [testBit_setBit] at hget
  have hshown : ∀ x : Device, (x.refreshStatus.rd O.FLT_STATUS).testBit c = x.faults.held.any (fun e => e.2.testBit c) := by
    intro x
    have hf : ∀ (x : Device) (i : Nat) (b : Bool), (x.wrBit O.FLT_STATUS 0 i b).faults = x.faults := fun _ _ _ => rfl
    simp only [refreshStatus, List.foldl, hf]
    rcases hc with rfl | rfl <;> simp [wrBit, rd_wr_self, testBit_setBit]
  unfold latch holdClasses
  rw [hshown]
  exact hheld

theorem latch_only (d : Device) (src c : Nat) : Only [(O.FLT_SRC_CLASS, src)] [O.FLT_STATUS, F.faults] d (d.latch src c) := by
  have hheld : Keeps [O.FLT_STATUS, F.faults] d (d.setHeld src (setBit (natAt d.faults.held src) c true)) :=
    setHeld_keeps (by unfold Sub; decide) (Keeps.refl _ _)
  unfold latch holdClasses
  exact (((Only.refl _ _ d).keeps (by decide) hheld).wr (Or.inr List.mem_cons_self)).keeps (by decide)
    (refreshStatus_keeps (by unfold Sub; decide) (Keeps.refl _ _))

theorem addEvent_keeps_all (d : Device) (src : Nat) : Keeps Touch.addEvent d (d.addEvent src) := addEvent_keeps (fun _ h => h) (Keeps.refl _ _)

theorem react_degraded (d : Device) : d.react 2 = d := by
  unfold react
  simp

/-- A DEGRADED fault latches its class; it changes no more than a record and the class of its source, where the event session has room. -/
theorem fault_degraded {d : Device} {src : Nat} (code : Nat) (detail : Bytes) (hseen : Seen src d) (hcalm : Calm src 2 d) (hroom : EventRoom d) :
    ((d.fault src code 2 detail).rd O.FLT_STATUS).testBit 2 = true ∧
      Only [(O.FLT_SRC_CLASS, src)] (O.FLT_STATUS :: noted) d (d.fault src code 2 detail) := by
  obtain ⟨w, c, heq⟩ := fault_calm code detail hseen hcalm le_rfl
  have hadd := addEvent_keeps_all d src
  have hrecord := writeRecord_room (hroom.keeps hadd (by decide)) src code 2 2 0 0 c w detail
  rw [heq, react_degraded]
  exact ⟨latch_status _ _ (Or.inl rfl), (((Only.refl _ _ d).keeps (by decide) (hadd.mono (by unfold Sub; decide))).keeps (by decide)
    (hrecord.mono (by unfold Sub; decide))).trans ((latch_only _ _ _).mono (fun _ h => h) (by unfold Sub; decide))⟩

/-- The places of a DEGRADED fault whatever room the event session has. -/
def degradedPlaces : List Nat := O.FLT_SRC_CLASS :: O.FLT_STATUS :: Touch.writeRecord

theorem fault_degraded_keeps {d : Device} {src : Nat} (code : Nat) (detail : Bytes) (hcalm : Calm src 2 d) :
    Keeps degradedPlaces d (d.fault src code 2 detail) := by
  by_cases hseen : Seen src d
  · obtain ⟨w, c, heq⟩ := fault_calm code detail hseen hcalm le_rfl
    rw [heq, react_degraded]
    exact latch_keeps (by unfold Sub; decide) (writeRecord_keeps (by unfold Sub; decide)
      ((addEvent_keeps_all d src).mono (by unfold Sub; decide)))
  · have hnone : d.fault src code 2 detail = d := by
      unfold fault
      rw [if_pos]
      unfold Seen at hseen
      simp only [srcUnseen, beq_iff_eq]
      tauto
    rw [hnone]
    exact Keeps.refl _ _

theorem fault_degraded_status {d : Device} {src : Nat} (code : Nat) (detail : Bytes) (hseen : Seen src d) (hcalm : Calm src 2 d) :
    ((d.fault src code 2 detail).rd O.FLT_STATUS).testBit 2 = true := by
  obtain ⟨w, c, heq⟩ := fault_calm code detail hseen hcalm le_rfl
  rw [heq, react_degraded]
  exact latch_status _ _ (Or.inl rfl)

theorem enterMode_mode (d : Device) (m : Mode) (cause : Nat) : (d.enterMode m cause).mode = m := rfl

theorem enterSafe_mode (d : Device) : d.enterSafe.mode = .safe := by
  unfold enterSafe
  exact enterMode_mode _ _ _

/-- The reaction of SEVERE leaves a device that is neither in BOOT nor in RESET in SAFE. -/
theorem react_severe_mode {d : Device} (hboot : d.mode ≠ .boot) (hreset : d.mode ≠ .reset) : (d.react 3).mode = .safe := by
  unfold react
  rw [if_neg (by decide)]
  split
  · exact enterSafe_mode _
  · rename_i hnot
    by_contra hsafe
    exact hnot ⟨le_rfl, hsafe, hboot, hreset⟩

/-- A SEVERE fault outside BOOT latches its class and leaves the device in SAFE. -/
theorem fault_severe {d : Device} {src : Nat} (code : Nat) (detail : Bytes) (hseen : Seen src d) (hcalm : Calm src 3 d) (hboot : d.mode ≠ .boot) :
    ((d.fault src code 3 detail).rd O.FLT_STATUS).testBit 3 = true ∧ (d.fault src code 3 detail).mode = .safe := by
  obtain ⟨w, c, heq⟩ := fault_calm code detail hseen hcalm (by decide)
  rw [heq]
  have hkeeps : Keeps degradedPlaces d (((d.addEvent src).writeRecord src code 3 3 0 0 c w detail).latch src 3) :=
    latch_keeps (by unfold Sub; decide) (writeRecord_keeps (by unfold Sub; decide)
      ((addEvent_keeps_all d src).mono (by unfold Sub; decide)))
  have hstatus := latch_status ((d.addEvent src).writeRecord src code 3 3 0 0 c w detail) src (Or.inr rfl)
  generalize ((d.addEvent src).writeRecord src code 3 3 0 0 c w detail).latch src 3 = x at hkeeps hstatus
  have hmode : x.mode = d.mode := hkeeps.fields 0 (by decide)
  exact ⟨by rw [react_rd_fltStatus, hstatus], react_severe_mode (hmode ▸ hboot) (hmode ▸ hseen.2)⟩

end Device
end Sys2Proof.Machine
end

section
/-!
PROOF. The family 03_holloth_ring_and_host_port: the memory window and the BAR2 aperture on sound memory.
-/
set_option Elab.async false
namespace Sys2Proof.Machine

namespace Device

/-! ### Commands with conditions of their own, and how they end -/

/-- A part of the checks that holds off decides nothing. -/
theorem firstFail_skip (a b c : List (Bool × Nat)) (hb : ∀ e ∈ b, e.1 = false) : firstFail (a ++ (b ++ c)) = firstFail (a ++ c) := by
  induction a with
  | nil =>
    induction b with
    | nil => rfl
    | cons e b ih =>
      have hoff := hb e List.mem_cons_self
      simp only [List.nil_append, List.cons_append, firstFail, hoff, Bool.false_eq_true, if_false] at ih ⊢
      exact ih fun x hx => hb x (List.mem_cons_of_mem _ hx)
  | cons e a ih => simp only [List.cons_append, firstFail, ih]

/-- Parts that hold off, wherever they stand between the others, decide nothing. -/
theorem firstFail_skips {a b c e s t u : List (Bool × Nat)} (ha : ∀ x ∈ a, x.1 = false) (hb : ∀ x ∈ b, x.1 = false)
    (hc : ∀ x ∈ c, x.1 = false) (he : ∀ x ∈ e, x.1 = false) :
    firstFail (a ++ (b ++ (s ++ (c ++ (t ++ (e ++ u)))))) = firstFail (s ++ (t ++ u)) :=
  calc firstFail (a ++ (b ++ (s ++ (c ++ (t ++ (e ++ u))))))
      = firstFail (b ++ (s ++ (c ++ (t ++ (e ++ u))))) := firstFail_skip [] a _ ha
    _ = firstFail (s ++ (c ++ (t ++ (e ++ u)))) := firstFail_skip [] b _ hb
    _ = firstFail (s ++ (t ++ (e ++ u))) := firstFail_skip s c _ hc
    _ = firstFail ((s ++ t) ++ (e ++ u)) := by rw [List.append_assoc]
    _ = firstFail ((s ++ t) ++ u) := firstFail_skip (s ++ t) e u he
    _ = firstFail (s ++ (t ++ u)) := by rw [List.append_assoc]

/-- Where every general check passes, the command's own conditions decide, in the order of R40. -/
theorem cmdCheck_own {d : Device} {r : Req} {o row : Nat} (h : d.cmdCheck r o row Conds.none = 0) (s2 s4 s6 : List (Bool × Nat)) :
    d.cmdCheck r o row { Conds.none with s2 := s2, s4 := s4, s6 := s6 } = firstFail (s2 ++ (s4 ++ s6)) := by
  have hoff := firstFail_off _ (by
    intro e he
    simp only [Conds.none, List.append_nil, List.mem_append, List.mem_cons, List.not_mem_nil, or_false] at he
    intro ht
    rcases he with (((rfl | rfl) | rfl | rfl) | rfl) <;> simp_all) h
  simp only [Conds.none, List.append_nil, List.mem_append, List.mem_cons, List.not_mem_nil, or_false] at hoff
  unfold cmdCheck
  dsimp only [Conds.none]
  simp only [List.append_assoc, List.append_nil]
  refine firstFail_skips ?_ ?_ ?_ ?_ <;>
  · intro e he
    exact hoff e (by simp only [List.mem_cons, List.not_mem_nil, or_false] at he; tauto)

/-- A command that one of its own conditions refuses is answered with the code, and nothing happens. -/
theorem command_refused {s : State} {r : Req} {o row e : Nat} {f : Device → Nat × Device} {c : Conds} {body : Device → Option Nat × Device}
    (hasked : Asked r o row s.dev) (hf : f (s.dev.accept r) = runCmd r o row c body (s.dev.accept r))
    (hcheck : (s.dev.accept r).cmdCheck r o row c = e) (he : e ≠ 0) :
    ∃ t, s.on (fun d => d.direct r f) = .next t ∧ Answers r e t.dev ∧ Only [] asked s.dev t.dev := by
  obtain ⟨hreset, hpass⟩ := hasked
  have hran : f (s.dev.accept r) = (e, s.dev.accept r) := by
    rw [hf]
    unfold runCmd
    dsimp only
    rw [hcheck, if_pos he]
  obtain ⟨t, ht, -, hans, honly⟩ := direct_done (R := []) (W := asked) hreset (cmdCheck_mode hpass) hran (by rwa [accept_mode]) (Only.refl _ _ _)
    (fun _ h => h) (by decide)
  exact ⟨t, ht, hans, honly⟩

/-! ### What a line holds, elsewhere (R314) -/

/-- What the plaintext of a line is taken from. -/
def plainPlaces : List Nat :=
  [F.objects, O.SA_STAT_PKTS, O.SA_STAT_OCTETS, O.SA_STAT_PKTS_ENCRYPTED, O.SA_STAT_NOT_VALID, O.SA_STAT_COMMIT_LATE, O.SA_STAT_TX_LOST,
   F.clsx, F.laps, F.memCells]

theorem linePlain_keeps {V : List Nat} {a b : Device} (k : Keeps V a b) (hV : ∀ f ∈ plainPlaces, f ∉ V) (p : Nat) : b.linePlain p = a.linePlain p := by
  have hrd : ∀ o ∈ plainPlaces, ∀ r, b.rd o r = a.rd o r := fun o ho r => k.objs (hV _ (by decide)) o r (hV o ho)
  have hclsx : b.clsx = a.clsx := k.fields 39 (hV _ (by decide))
  have hlaps : b.laps = a.laps := k.fields 44 (hV _ (by decide))
  have hcells : b.mem.cells = a.mem.cells := k.fields 46 (hV _ (by decide))
  have hway : ∀ n, b.wayBytes n = a.wayBytes n := fun n => by
    unfold wayBytes way
    rw [hclsx]
  have hstat : ∀ n, b.statRecord n = a.statRecord n := fun n => by
    unfold statRecord
    simp only [List.map_cons, List.map_nil, hrd O.SA_STAT_PKTS (by decide), hrd O.SA_STAT_OCTETS (by decide),
      hrd O.SA_STAT_PKTS_ENCRYPTED (by decide), hrd O.SA_STAT_NOT_VALID (by decide), hrd O.SA_STAT_COMMIT_LATE (by decide),
      hrd O.SA_STAT_TX_LOST (by decide)]
  have hslot : ∀ n q, b.slotRecord n q = a.slotRecord n q := fun n q => by
    unfold slotRecord numQueues slices
    rw [hlaps, k.part]
  have hbyte : ∀ n, b.memByte n = a.memByte n := fun n => by
    unfold memByte
    rw [hcells]
  unfold linePlain
  simp only [hway, hstat, hslot, hbyte]

theorem memSound_congr {a b : Device} (h : MemSound a) (hm : b.mem = a.mem) : MemSound b := by
  unfold MemSound at h ⊢
  rwa [hm]

theorem scratch_range {o : Nat} (h : regionOf o = .scratch) : 0x0F200000 ≤ o ∧ o < 0x0F600000 := by
  by_contra hout
  unfold regionOf at h
  split_ifs at h
  omega

/-- Host scratch is mapped whatever channel is lost. -/
theorem mapped_scratch (d : Device) {o : Nat} (h : regionOf o = .scratch) : d.mapped o = true := by
  have hrange := scratch_range h
  unfold mapped
  have hhi : decide (o < if d.lostChannel.isNone then 0x18000000 else 0x13000000) = true := decide_eq_true (by split <;> omega)
  have hlo : decide (0x03000000 ≤ o ∧ o < 0x04000000) = false := decide_eq_false (by omega)
  rw [hhi, hlo, Bool.not_false, Bool.or_true, Bool.and_true]

theorem scratch_line {o : Nat} (h : regionOf o = .scratch) : regionOf (64 * (o / 64)) = .scratch := by
  have hrange := scratch_range h
  unfold regionOf
  rw [if_neg (by omega), if_neg (by omega), if_neg (by omega), if_neg (by omega), if_neg (by omega), if_pos (by omega)]

/-- The stored ciphertext of a line whose counter is known (R318, R319). -/
def lineStored (d : Device) (p : Nat) : Bytes :=
  ((List.range 4).map (d.cipherBlock (d.dataCtr p) (d.place p).1 (d.place p).2 (d.linePlain p))).flatten

theorem lineCipher_stored {d : Device} {p : Nat} (h : d.dataCtr p < 2 ^ 64) : d.lineCipher p = (d.lineStored p, d) := by
  unfold lineCipher
  rw [if_neg (by omega)]
  rfl

theorem place_keeps {V : List Nat} {a b : Device} (k : Keeps V a b) (hV : F.objects ∉ V ∧ O.MEM_CH_STATE ∉ V ∧ F.memCells ∉ V ∧ F.memRest ∉ V)
    (p : Nat) : b.place p = a.place p := by
  have hlost : b.lostChannel = a.lostChannel := by
    unfold lostChannel
    simp only [k.objs hV.1 _ _ hV.2.1]
  have htable : b.tableLost = a.tableLost := by
    unfold tableLost
    rw [hlost, mem_keeps k hV.2.2]
  unfold place
  rw [hlost, htable]

theorem lineStored_keeps {V : List Nat} {a b : Device} (k : Keeps V a b) (hplain : ∀ f ∈ plainPlaces, f ∉ V)
    (hV : O.MEM_CH_STATE ∉ V ∧ F.memRest ∉ V) (p : Nat) : b.lineStored p = a.lineStored p ∧ b.dataCtr p = a.dataCtr p := by
  have hplace := place_keeps k ⟨hplain _ (by decide), hV.1, hplain _ (by decide), hV.2⟩ p
  have hmem := mem_keeps k ⟨hplain _ (by decide), hV.2⟩
  have hctr : b.dataCtr p = a.dataCtr p := by
    unfold dataCtr lineCtr
    rw [hplace, hmem]
  refine ⟨?_, hctr⟩
  unfold lineStored
  rw [hctr, hplace, linePlain_keeps k hplain p]
  unfold cipherBlock
  rw [hmem]

/-! ### The memory window (R333) -/

/-- A window command that is accepted, with its line access counted. -/
def winStarted (d : Device) (r : Req) (w : Nat) : Device := ((d.accept r).startCmd O.MEM_WIN_CMD w).winCount r w

theorem startCmd_keeps_all (d : Device) (o row : Nat) : Keeps [o] d (d.startCmd o row) := startCmd_keeps (Or.inl List.mem_cons_self) (Keeps.refl _ _)

theorem winStarted_keeps (d : Device) (r : Req) (w : Nat) : Keeps (O.MEM_WIN_CMD :: asked) d (d.winStarted r w) :=
  winCount_keeps (by unfold Sub; decide) (((accept_keeps_all d r).mono (by unfold Sub; decide)).trans
    ((startCmd_keeps_all _ _ _).mono (by unfold Sub; decide)))

theorem winStarted_mem (d : Device) (r : Req) (w : Nat) : (d.winStarted r w).mem = d.mem := mem_keeps (winStarted_keeps d r w) (by decide)

/-- Offset and length of the window are those of its objects, once the command is accepted. -/
theorem startCmd_rd_window (d : Device) (r : Req) (w : Nat) {o : Nat} (h : o ≠ O.MEM_WIN_CMD) (row : Nat) :
    ((d.accept r).startCmd O.MEM_WIN_CMD w).rd o row = d.rd o row := by
  rw [(startCmd_keeps_all (d.accept r) O.MEM_WIN_CMD w).objs (by decide) _ _ (by simpa using h), accept_rd]

theorem started_winOffset (d : Device) (r : Req) (w : Nat) : ((d.accept r).startCmd O.MEM_WIN_CMD w).winOffset w = d.rd O.MEM_WIN_OFFSET w :=
  startCmd_rd_window d r w (by decide) w

theorem started_winLen (d : Device) (r : Req) (w : Nat) : ((d.accept r).startCmd O.MEM_WIN_CMD w).winLen w = d.rd O.MEM_WIN_LEN w :=
  startCmd_rd_window d r w (by decide) w

theorem started_winPlain (d : Device) (r : Req) (w : Nat) (line : Bytes) :
    ((d.accept r).startCmd O.MEM_WIN_CMD w).winPlain w line = leNat (slice (d.rd O.MEM_WIN_OFFSET w % 64) (d.rd O.MEM_WIN_LEN w) line) := by
  unfold winPlain
  rw [started_winOffset, started_winLen]

theorem winConds_accept (d : Device) (r : Req) (w : Nat) (right : Bool) : (d.accept r).winConds w right = d.winConds w right := by
  have hmapped : ∀ o, (d.accept r).mapped o = d.mapped o := fun o => by
    unfold mapped tableLost lostChannel
    simp only [accept_mem, accept_rd]
  unfold winConds winOffset winLen
  simp only [hmapped, accept_rd]

theorem memReadRight_accept (d : Device) (r : Req) (role : Nat) (g : Region) : (d.accept r).memReadRight role g = d.memReadRight role g := by
  unfold memReadRight
  simp only [accept_rd]

theorem memWriteRight_accept (d : Device) (r : Req) (role : Nat) (g : Region) : (d.accept r).memWriteRight role g = d.memWriteRight role g := by
  unfold memWriteRight
  rw [memReadRight_accept]

/-- What a window command checks of its own (R328, R333). -/
theorem winConds_check {d : Device} {r : Req} {w : Nat} (h : d.cmdCheck r O.MEM_WIN_CMD w Conds.none = 0) (right : Bool) :
    (d.accept r).cmdCheck r O.MEM_WIN_CMD w ((d.accept r).winConds w right) =
      if d.mapped (d.rd O.MEM_WIN_OFFSET w) = true then
        if right = false then 0xA003 else if inLine (d.rd O.MEM_WIN_OFFSET w) (d.rd O.MEM_WIN_LEN w) = false then 0xA101 else 0
      else 0xA101 := by
  rw [winConds_accept, cmdCheck_accept]
  rw [show d.winConds w right = { Conds.none with
    s2 := [(d.mapped (d.winOffset w) && !right, 0xA003)], s4 := [],
    s6 := [(!d.mapped (d.winOffset w) || !inLine (d.winOffset w) (d.winLen w), 0xA101)] } from rfl, cmdCheck_own h]
  unfold winOffset winLen
  cases d.mapped (d.rd O.MEM_WIN_OFFSET w) <;> cases right <;> cases inLine (d.rd O.MEM_WIN_OFFSET w) (d.rd O.MEM_WIN_LEN w) <;> rfl

/-- A window command on a mapped range within one line that its role has the right for, and that ends well: the result word, the
response, and what its body has left. -/
theorem window_done {s : State} {r : Req} {w : Nat} {f : Device → Nat × Device} {right : Bool} {body : Device → Option Nat × Device}
    {y : Device} {R : List (Nat × Nat)} {W : List Nat} (hasked : Asked r O.MEM_WIN_CMD w s.dev)
    (hf : f (s.dev.accept r) = runCmd r O.MEM_WIN_CMD w ((s.dev.accept r).winConds w right) body (s.dev.accept r)) (hright : right = true)
    (hmapped : s.dev.mapped (s.dev.rd O.MEM_WIN_OFFSET w) = true)
    (hin : inLine (s.dev.rd O.MEM_WIN_OFFSET w) (s.dev.rd O.MEM_WIN_LEN w) = true)
    (hbody : body ((s.dev.accept r).startCmd O.MEM_WIN_CMD w) = (some 0, y)) (hy : Only R W (s.dev.winStarted r w) y)
    (hR : ∀ e ∈ R, e.1 < 0x1000000 ∧ e.1 ≠ O.MEM_WIN_CMD) (hW : Sub asked W) (hF : F.objects ∉ W ∧ F.mode ∉ W ∧ O.MEM_WIN_CMD ∉ W) :
    ∃ t, s.on (fun d => d.direct r f) = .next t ∧ Keeps asked (y.endCmd O.MEM_WIN_CMD w 0) t.dev ∧ Result O.MEM_WIN_CMD w 0 2 s.dev t.dev ∧
      Answers r 0 t.dev ∧ Only ((O.MEM_WIN_CMD, w) :: R) W s.dev t.dev := by
  obtain ⟨hreset, hpass⟩ := hasked
  obtain ⟨hobjects, hmodeW, hcmdW⟩ := hF
  have hcount : Keeps Touch.winCount ((s.dev.accept r).startCmd O.MEM_WIN_CMD w) (s.dev.winStarted r w) :=
    winCount_keeps (fun _ h => h) (Keeps.refl _ _)
  have hcounted : Only R W ((s.dev.accept r).startCmd O.MEM_WIN_CMD w) (s.dev.winStarted r w) :=
    (Only.refl _ _ _).keeps hobjects (hcount.mono fun k hk => hW k (by revert hk; revert k; decide))
  have hall := hcounted.trans hy
  have hcheck : (s.dev.accept r).cmdCheck r O.MEM_WIN_CMD w ((s.dev.accept r).winConds w right) = 0 := by
    rw [winConds_check hpass, if_pos hmapped, hright, hin]
    rfl
  have hword : y.rd O.MEM_WIN_CMD w = ((s.dev.accept r).startCmd O.MEM_WIN_CMD w).rd O.MEM_WIN_CMD w :=
    hall.2 _ _ hcmdW fun e he heq => absurd heq (hR e he).2
  have hmode : y.mode = s.dev.mode := (hall.field 0 hmodeW fun e he => (hR e he).1).trans (accept_mode _ _)
  exact command_done hreset hpass hf hcheck hbody (hall.mono (List.subset_cons_self _ _) fun _ h => h) hword hmode List.mem_cons_self (by decide)
    hW hobjects

/-- What is elsewhere than the window's result word is as the body has left it. -/
theorem endCmd_asked_rd {y t : Device} {w : Nat} (h : Keeps asked (y.endCmd O.MEM_WIN_CMD w 0) t) {o : Nat} (ho : O.MEM_WIN_CMD ≠ o) (hasked : o ∉ asked)
    (row : Nat) : t.rd o row = y.rd o row := by
  rw [h.objs (by decide) _ _ hasked, endCmd_rd _ _ _ _ ho]

theorem endCmd_asked_mem {y t : Device} {w : Nat} (h : Keeps asked (y.endCmd O.MEM_WIN_CMD w 0) t) : t.mem = y.mem :=
  (mem_keeps h (by decide)).trans rfl

/-- The memory that a started window command finds. -/
theorem winStarted_sound {d : Device} (h : MemSound d) (r : Req) (w : Nat) : MemSound (d.winStarted r w) := memSound_congr h (winStarted_mem d r w)

theorem winStarted_poisoned (d : Device) (r : Req) (w p : Nat) : (d.winStarted r w).poisonedLine p = d.poisonedLine p :=
  poisonedLine_congr (by rw [winStarted_mem]) p

theorem winStarted_plain (d : Device) (r : Req) (w p : Nat) : (d.winStarted r w).linePlain p = d.linePlain p :=
  linePlain_keeps (winStarted_keeps d r w) (by decide) p

theorem unarmed_keeps {V : List Nat} {a b : Device} (h : Unarmed a) (k : Keeps V a b) (hV : F.objects ∉ V ∧ O.GROUP_STATE ∉ V) : Unarmed b := fun g => by
  rw [k.objs hV.1 _ _ hV.2]
  exact h g

theorem lineCipher_started {d : Device} (r : Req) (w : Nat) {p : Nat} (h : d.dataCtr p < 2 ^ 64) :
    (d.winStarted r w).lineCipher p = (d.lineStored p, d.winStarted r w) := by
  obtain ⟨hstored, hctr⟩ := lineStored_keeps (winStarted_keeps d r w) (by decide) (by decide) p
  rw [lineCipher_stored (by rw [hctr]; exact h), hstored]

/-- A device whose window data are written, where no group is armed. -/
theorem winData_only {R : List (Nat × Nat)} {W : List Nat} {a b : Device} (h : Unarmed b) (w v : Nat) (hab : Only R W a b) (hrow : (O.MEM_WIN_DATA, w) ∈ R) :
    (b.wrCmd O.MEM_WIN_DATA w v).rd O.MEM_WIN_DATA w = v ∧ Only R W a (b.wrCmd O.MEM_WIN_DATA w v) := by
  obtain ⟨hrd, -, -, honly⟩ := wrCmd_unarmed h O.MEM_WIN_DATA w v
  exact ⟨hrd, hab.trans ((honly W).mono (by simpa using hrow) fun _ h => h)⟩

theorem windowData_row (w : Nat) : ∀ e ∈ [(O.MEM_WIN_DATA, w)], e.1 < 0x1000000 ∧ e.1 ≠ O.MEM_WIN_CMD := by
  simp only [List.forall_mem_cons, List.not_mem_nil, false_imp_iff, implies_true, and_true]
  decide

/-- The window reads the plaintext of a good line (R333). -/
theorem memWinRead_plain {r : Req} {w o : Nat} {s : State} (hasked : Asked r O.MEM_WIN_CMD w s.dev) (ho : o = s.dev.rd O.MEM_WIN_OFFSET w)
    (hmapped : s.dev.mapped o = true) (hright : s.dev.memReadRight (s.dev.roleOf r) (regionOf o) = 2)
    (hin : inLine o (s.dev.rd O.MEM_WIN_LEN w) = true) (hsound : MemSound s.dev) (hgood : s.dev.poisonedLine (o / 64) = false)
    (hunarmed : Unarmed s.dev) :
    ∃ t, exec (.memWinRead r w) s = .next t ∧
      t.dev.rd O.MEM_WIN_DATA w = leNat (slice (o % 64) (s.dev.rd O.MEM_WIN_LEN w) (s.dev.linePlain (o / 64))) ∧
      Result O.MEM_WIN_CMD w 0 2 s.dev t.dev ∧ Answers r 0 t.dev ∧
      Only [(O.MEM_WIN_CMD, w), (O.MEM_WIN_DATA, w)] (memUsed ++ asked) s.dev t.dev := by
  subst ho
  obtain ⟨b, hb, hfetch⟩ := readLine_sound (winStarted_sound hsound r w)
    ((winStarted_poisoned s.dev r w (s.dev.rd O.MEM_WIN_OFFSET w / 64)).trans hgood)
  have hstarted : (((s.dev.accept r).startCmd O.MEM_WIN_CMD w).winCount r w).readLine (s.dev.rd O.MEM_WIN_OFFSET w / 64) = (true, b) := hb
  have hplain : b.linePlain (s.dev.rd O.MEM_WIN_OFFSET w / 64) = s.dev.linePlain (s.dev.rd O.MEM_WIN_OFFSET w / 64) :=
    (linePlain_keeps hfetch.frame (by decide) _).trans (winStarted_plain _ _ _ _)
  have hread : Only [(O.MEM_WIN_DATA, w)] (memUsed ++ asked) (s.dev.winStarted r w) b :=
    (Only.refl _ _ _).keeps (by decide) (hfetch.frame.mono (by unfold Sub; decide))
  obtain ⟨hdata, honly⟩ := winData_only (unarmed_keeps (unarmed_keeps hunarmed (winStarted_keeps s.dev r w) (by decide)) hfetch.frame (by decide)) w
    (leNat (slice (s.dev.rd O.MEM_WIN_OFFSET w % 64) (s.dev.rd O.MEM_WIN_LEN w) (s.dev.linePlain (s.dev.rd O.MEM_WIN_OFFSET w / 64)))) hread
    List.mem_cons_self
  obtain ⟨t, ht, hkeeps, hresult, hans, hframe⟩ := window_done (f := memWinReadCore r w) (y := b.wrCmd O.MEM_WIN_DATA w _) hasked rfl
    (by rw [memReadRight_accept, accept_roleOf, winOffset, accept_rd, hright]; rfl) hmapped hin
    (by
      dsimp only
      rw [started_winOffset, hstarted]
      dsimp only
      rw [if_pos rfl, started_winPlain, hplain])
    honly (windowData_row w) (fun _ h => List.mem_append_right _ h) (by decide)
  exact ⟨t, ht, (endCmd_asked_rd hkeeps (by decide) (by decide) _).trans hdata, hresult, hans, hframe⟩

/-- The window writes to host scratch (R333). -/
theorem memWinWrite_scratch {r : Req} {w o : Nat} {s : State} (hasked : Asked r O.MEM_WIN_CMD w s.dev) (ho : o = s.dev.rd O.MEM_WIN_OFFSET w)
    (hscratch : regionOf o = .scratch) (hright : s.dev.memWriteRight (s.dev.roleOf r) .scratch = true)
    (hin : inLine o (s.dev.rd O.MEM_WIN_LEN w) = true) (hsound : MemSound s.dev) (hgood : s.dev.poisonedLine (o / 64) = false) :
    ∃ t, exec (.memWinWrite r w) s = .next t ∧ BytesPut o (leBytes (s.dev.rd O.MEM_WIN_LEN w) (s.dev.rd O.MEM_WIN_DATA w)) s.dev t.dev ∧
      Result O.MEM_WIN_CMD w 0 2 s.dev t.dev ∧ Answers r 0 t.dev ∧ Only [(O.MEM_WIN_CMD, w)] (F.memCells :: memUsed ++ asked) s.dev t.dev := by
  subst ho
  obtain ⟨b, hb, hput, hframe⟩ := partialWrite_sound (winStarted_sound hsound r w)
    ((winStarted_poisoned s.dev r w (s.dev.rd O.MEM_WIN_OFFSET w / 64)).trans hgood)
    (leBytes (s.dev.rd O.MEM_WIN_LEN w) (s.dev.rd O.MEM_WIN_DATA w))
  have hstarted : (((s.dev.accept r).startCmd O.MEM_WIN_CMD w).winCount r w).partialWrite (s.dev.rd O.MEM_WIN_OFFSET w)
      (leBytes (s.dev.rd O.MEM_WIN_LEN w) (s.dev.rd O.MEM_WIN_DATA w)) .ok = (true, b) := hb
  obtain ⟨t, ht, hkeeps, hresult, hans, honly⟩ := window_done (f := memWinWriteCore r w) (y := b) (R := []) hasked rfl
    (by rw [memWriteRight_accept, accept_roleOf, winOffset, accept_rd, hscratch, hright]) (mapped_scratch _ hscratch) hin
    (by
      dsimp only
      rw [started_winOffset, started_winLen, startCmd_rd_window _ _ _ (by decide), hstarted]
      rfl)
    ((Only.refl [] (F.memCells :: memUsed ++ asked) _).keeps (by decide) (hframe.mono (by unfold Sub; decide))) (by simp)
    (fun _ h => List.mem_append_right _ h) (by decide)
  refine ⟨t, ht, fun x => ?_, hresult, hans, honly⟩
  have hcells : ∀ y, (s.dev.winStarted r w).memByte y = s.dev.memByte y := fun y => by
    unfold memByte
    rw [winStarted_mem]
  have hmem : t.dev.memByte x = b.memByte x := by
    unfold memByte
    rw [endCmd_asked_mem hkeeps]
  rw [hmem, hput x, hcells]

/-- The window reads the stored ciphertext (R328, R333). -/
theorem readCiphertext_stored {r : Req} {w o : Nat} {s : State} (hasked : Asked r O.MEM_WIN_CMD w s.dev) (ho : o = s.dev.rd O.MEM_WIN_OFFSET w)
    (hmapped : s.dev.mapped o = true) (hright : s.dev.memReadRight (s.dev.roleOf r) (regionOf o) ≠ 0)
    (hin : inLine o (s.dev.rd O.MEM_WIN_LEN w) = true) (hctr : s.dev.dataCtr (o / 64) < 2 ^ 64) (hunarmed : Unarmed s.dev) :
    ∃ t, exec (.readCiphertext r w) s = .next t ∧
      t.dev.rd O.MEM_WIN_DATA w = leNat (slice (o % 64) (s.dev.rd O.MEM_WIN_LEN w) (((List.range 4).map
        (s.dev.cipherBlock (s.dev.dataCtr (o / 64)) (s.dev.place (o / 64)).1 (s.dev.place (o / 64)).2 (s.dev.linePlain (o / 64)))).flatten)) ∧
      Result O.MEM_WIN_CMD w 0 2 s.dev t.dev ∧ Answers r 0 t.dev ∧ Only [(O.MEM_WIN_CMD, w), (O.MEM_WIN_DATA, w)] asked s.dev t.dev := by
  subst ho
  have hcipher := lineCipher_started r w hctr
  obtain ⟨hdata, honly⟩ := winData_only (R := [(O.MEM_WIN_DATA, w)]) (W := asked) (unarmed_keeps hunarmed (winStarted_keeps s.dev r w) (by decide)) w
    (leNat (slice (s.dev.rd O.MEM_WIN_OFFSET w % 64) (s.dev.rd O.MEM_WIN_LEN w) (s.dev.lineStored (s.dev.rd O.MEM_WIN_OFFSET w / 64))))
    (Only.refl _ _ _) List.mem_cons_self
  obtain ⟨t, ht, hkeeps, hresult, hans, hframe⟩ := window_done (f := readCiphertextCore r w) hasked rfl
    (by rw [memReadRight_accept, accept_roleOf, winOffset, accept_rd]; simpa using hright) hmapped hin
    (by
      dsimp only
      rw [started_winOffset]
      show (some 0, ((s.dev.winStarted r w).lineCipher (s.dev.rd O.MEM_WIN_OFFSET w / 64)).2.wrCmd O.MEM_WIN_DATA w
        (winPlain ((s.dev.accept r).startCmd O.MEM_WIN_CMD w) w ((s.dev.winStarted r w).lineCipher (s.dev.rd O.MEM_WIN_OFFSET w / 64)).1)) = _
      rw [hcipher, started_winPlain])
    honly (windowData_row w) (fun _ h => h) (by decide)
  exact ⟨t, ht, (endCmd_asked_rd hkeeps (by decide) (by decide) _).trans hdata, hresult, hans, hframe⟩

/-- REINIT rewrites a line of host scratch as zeros, and it is good again (R333). -/
theorem memReinit_zeros {r : Req} {w o : Nat} {s : State} (hasked : Asked r O.MEM_WIN_CMD w s.dev) (ho : o = s.dev.rd O.MEM_WIN_OFFSET w)
    (hscratch : regionOf o = .scratch) (hrole : s.dev.roleOf r = 1) (hin : inLine o (s.dev.rd O.MEM_WIN_LEN w) = true) (hsound : MemSound s.dev) :
    ∃ t, exec (.memReinit r w) s = .next t ∧ BytesPut (64 * (o / 64)) (leBytes 64 0) s.dev t.dev ∧
      t.dev.poisonedLine (o / 64) = false ∧ Result O.MEM_WIN_CMD w 0 2 s.dev t.dev ∧ Answers r 0 t.dev ∧
      Only [(O.MEM_WIN_CMD, w)] (F.memCells :: memUsed ++ asked) s.dev t.dev := by
  subst ho
  obtain ⟨b, hb, hput, hgood, hframe⟩ := writeLine_scratch (winStarted_sound hsound r w)
    (p := s.dev.rd O.MEM_WIN_OFFSET w / 64) (scratch_line hscratch) (leBytes 64 0)
  have hstarted : (((s.dev.accept r).startCmd O.MEM_WIN_CMD w).winCount r w).writeLine (s.dev.rd O.MEM_WIN_OFFSET w / 64) (leBytes 64 0) =
      (true, b) := hb
  obtain ⟨t, ht, hkeeps, hresult, hans, honly⟩ := window_done (f := memReinitCore r w) (y := b) (R := []) hasked rfl
    (by rw [accept_roleOf, winOffset, accept_rd, hscratch, hrole]; rfl) (mapped_scratch _ hscratch) hin
    (by
      dsimp only
      rw [started_winOffset, hstarted]
      rfl)
    ((Only.refl [] (F.memCells :: memUsed ++ asked) _).keeps (by decide) (hframe.mono (by unfold Sub; decide))) (by simp)
    (fun _ h => List.mem_append_right _ h) (by decide)
  refine ⟨t, ht, fun x => ?_, ?_, hresult, hans, honly⟩
  · have hcells : ∀ y, (s.dev.winStarted r w).memByte y = s.dev.memByte y := fun y => by
      unfold memByte
      rw [winStarted_mem]
    have hmem : t.dev.memByte x = b.memByte x := by
      unfold memByte
      rw [endCmd_asked_mem hkeeps]
    rw [hmem, hput x, hcells, show fit 64 (leBytes 64 0) = leBytes 64 0 from rfl]
  · exact (poisonedLine_congr (congrArg MemX.poisoned (endCmd_asked_mem hkeeps)) _).trans hgood

/-! ### A poisoned line (R324, R326) -/

/-- The rows of a statistics record. -/
def statPlaces : List Nat :=
  [O.SA_STAT_PKTS, O.SA_STAT_OCTETS, O.SA_STAT_PKTS_ENCRYPTED, O.SA_STAT_NOT_VALID, O.SA_STAT_COMMIT_LATE, O.SA_STAT_TX_LOST]

/-- The device that has noted line `p` as poisoned under counter `was`, if it was not so before. -/
def markPoisoned (d : Device) (p was : Nat) : Device :=
  if d.poisonedLine p then d else d.setMem { d.mem with poisoned := (p, was) :: d.mem.poisoned }

theorem setMem_rest_keeps (d : Device) (m : MemX) (h : m.cells = d.mem.cells) : Keeps [F.memRest] d (d.setMem m) :=
  (Keeps.refl _ d).same rfl rfl fun k hk => by
    unfold sameField
    split <;> first | rfl | exact h | trivial

theorem markPoisoned_keeps (d : Device) (p was : Nat) : Keeps [F.memRest] d (d.markPoisoned p was) := by
  unfold markPoisoned
  split
  · exact Keeps.refl _ _
  · exact setMem_rest_keeps _ _ rfl

/-- A poison write whose counter step counts marks the line and logs it, and loses the statistics it holds. -/
theorem poisonWrite_counted {d e : Device} {p : Nat} (cause : Nat) (h : d.bumpLine (d.place p).1 (d.place p).2 = (true, e)) :
    d.poisonWrite p cause = ((e.markPoisoned p (d.lineCtr (d.place p).1 (d.place p).2)).loseStats p).poisonLog (64 * p) cause := by
  unfold poisonWrite
  dsimp only
  rw [h]
  rfl

theorem loseStats_poisonLog_keeps (d : Device) (p cause : Nat) : Keeps (statPlaces ++ poisonRows) d ((d.loseStats p).poisonLog (64 * p) cause) :=
  poisonLog_keeps (by unfold Sub; decide) (loseStats_keeps (by unfold Sub; decide) (Keeps.refl _ _))

theorem poisonWrite_counted_keeps {d e : Device} {p : Nat} (cause : Nat) (h : d.bumpLine (d.place p).1 (d.place p).2 = (true, e)) (hb : Bumped d e) :
    Keeps (F.memRest :: statPlaces ++ poisonRows) d (d.poisonWrite p cause) := by
  rw [poisonWrite_counted cause h]
  exact ((hb.frame.mono (by unfold Sub; decide)).trans ((markPoisoned_keeps e p _).mono (by unfold Sub; decide))).trans
    ((loseStats_poisonLog_keeps _ p cause).mono (by unfold Sub; decide))

/-- A read of a poisoned line of sound memory poisons it again and fails; with a calm source the failure is DEGRADED. -/
theorem readLine_poisoned {d : Device} (h : MemSound d) {p : Nat} (hp : d.poisonedLine p = true) (hcalm : Calm 0x304 2 d) :
    ∃ b, d.readLine p = (false, b) ∧ Keeps (O.MEM_TAG_FAILS :: statPlaces ++ poisonRows ++ memUsed ++ degradedPlaces) d b := by
  have hfetch := fetchCounter_fetched h (d.place p).1 (d.place p).2 (64 * p)
  obtain ⟨hzeroed, -, hbad, -⟩ := id h
  generalize hf : d.fetchCounter (d.place p).1 (d.place p).2 (64 * p) = f at hfetch
  obtain ⟨e, he, hbump⟩ := hfetch.bump h (f.place p).1 (f.place p).2
  refine ⟨(f.poisonWrite p 1).tagFail p, ?_, ?_⟩
  · unfold readLine
    rw [if_neg (by simp [hzeroed]), if_neg (by simp [unverifiable_sound hbad]), hf]
    dsimp only
    rw [if_pos ((poisonedLine_congr hfetch.fields.2.2.1 p).trans hp)]
  · have hpoison : Keeps (O.MEM_TAG_FAILS :: statPlaces ++ poisonRows ++ memUsed) d ((f.poisonWrite p 1).inc64 O.MEM_TAG_FAILS) :=
      inc64_keeps (Or.inl (by decide)) ((hfetch.frame.mono (by unfold Sub; decide)).trans
        ((poisonWrite_counted_keeps 1 he hbump).mono (by unfold Sub; decide)))
    exact (hpoison.mono (by unfold Sub; decide)).trans
      ((fault_degraded_keeps _ _ (hcalm.keeps hpoison (by decide) (by decide))).mono (by unfold Sub; decide))

/-- The window's read of a poisoned line ends with 0xA404 (R333). -/
theorem memWinRead_poisoned {r : Req} {w o : Nat} {s : State} (hasked : Asked r O.MEM_WIN_CMD w s.dev) (ho : o = s.dev.rd O.MEM_WIN_OFFSET w)
    (hmapped : s.dev.mapped o = true) (hright : s.dev.memReadRight (s.dev.roleOf r) (regionOf o) = 2)
    (hin : inLine o (s.dev.rd O.MEM_WIN_LEN w) = true) (hsound : MemSound s.dev) (hbad : s.dev.poisonedLine (o / 64) = true)
    (hcalm : Calm 0x304 2 s.dev) :
    ∃ t, exec (.memWinRead r w) s = .next t ∧ t.dev.rd O.MEM_WIN_DATA w = s.dev.rd O.MEM_WIN_DATA w ∧
      Result O.MEM_WIN_CMD w 0xA404 3 s.dev t.dev ∧ Answers r 0 t.dev ∧
      Keeps (O.MEM_WIN_CMD :: O.MEM_TAG_FAILS :: poisonRows ++ memUsed ++ asked ++ faulting) s.dev t.dev := by
  subst ho
  obtain ⟨hreset, hpass⟩ := hasked
  have hstart := winStarted_keeps s.dev r w
  obtain ⟨b, hb, hframe⟩ := readLine_poisoned (winStarted_sound hsound r w)
    ((winStarted_poisoned s.dev r w (s.dev.rd O.MEM_WIN_OFFSET w / 64)).trans hbad) (hcalm.keeps hstart (by decide) (by decide))
  have hstarted : (((s.dev.accept r).startCmd O.MEM_WIN_CMD w).winCount r w).readLine (s.dev.rd O.MEM_WIN_OFFSET w / 64) = (false, b) := hb
  have hcheck : (s.dev.accept r).cmdCheck r O.MEM_WIN_CMD w ((s.dev.accept r).winConds w
      ((s.dev.accept r).memReadRight ((s.dev.accept r).roleOf r) (regionOf ((s.dev.accept r).winOffset w)) == 2)) = 0 := by
    rw [winConds_check hpass, if_pos hmapped, memReadRight_accept, accept_roleOf, winOffset, accept_rd, hright, hin]
    rfl
  have hran : memWinReadCore r w (s.dev.accept r) = (0, b.endCmd O.MEM_WIN_CMD w 0xA404) := by
    unfold memWinReadCore
    rw [runCmd_pass hcheck]
    dsimp only
    rw [started_winOffset, hstarted]
    rfl
  have hmode : b.mode = s.dev.mode := (hframe.fields 0 (by decide)).trans (hstart.fields 0 (by decide))
  have hword : b.rd O.MEM_WIN_CMD w = 256 + (s.dev.rd O.MEM_WIN_CMD w % 256 + 1) % 256 := by
    have hcount : Keeps Touch.winCount ((s.dev.accept r).startCmd O.MEM_WIN_CMD w) (s.dev.winStarted r w) :=
      winCount_keeps (fun _ h => h) (Keeps.refl _ _)
    rw [hframe.objs (by decide) _ _ (by decide), hcount.objs (by decide) _ _ (by decide), startCmd_rd_self, accept_rd]
  have hend : Keeps (O.MEM_WIN_CMD :: O.MEM_TAG_FAILS :: poisonRows ++ memUsed ++ asked ++ faulting) s.dev (b.endCmd O.MEM_WIN_CMD w 0xA404) :=
    endCmd_keeps (Or.inl (by decide)) ((hstart.mono (by unfold Sub; decide)).trans (hframe.mono (by unfold Sub; decide)))
  have hanswer := respond_keeps_all (b.endCmd O.MEM_WIN_CMD w 0xA404) r (s.dev.roleOf r) 0 []
  have heq : s.dev.direct r (memWinReadCore r w) = (b.endCmd O.MEM_WIN_CMD w 0xA404).respond r (s.dev.roleOf r) 0 [] := by
    rw [direct_eq hreset (cmdCheck_mode hpass) (by rw [hran]; show b.mode ≠ .reset; rw [hmode]; exact hreset), hran]
  have hresult : Result O.MEM_WIN_CMD w 0xA404 3 s.dev (b.endCmd O.MEM_WIN_CMD w 0xA404) := endCmd_result (by rw [hword]; omega)
  refine ⟨{ s with dev := s.dev.direct r (memWinReadCore r w) }, rfl, ?_, ?_, ?_, ?_⟩
  · show (s.dev.direct r (memWinReadCore r w)).rd O.MEM_WIN_DATA w = _
    rw [heq, hanswer.objs (by decide) _ _ (by decide), endCmd_rd _ _ _ _ (by decide), hframe.objs (by decide) _ _ (by decide),
      hstart.objs (by decide) _ _ (by decide)]
  · show Result O.MEM_WIN_CMD w 0xA404 3 s.dev (s.dev.direct r (memWinReadCore r w))
    unfold Result at hresult ⊢
    rw [heq, hanswer.objs (by decide) _ _ (by decide), hresult]
  · show Answers r 0 (s.dev.direct r (memWinReadCore r w))
    rw [heq]
    exact respond_answers _ _ _ _
  · show Keeps _ s.dev (s.dev.direct r (memWinReadCore r w))
    rw [heq]
    exact hend.trans (hanswer.mono (by unfold Sub; decide))

/-! ### Refusals of the window (R328, R333) -/

/-- Why a window command is refused: no right, an offset that is not mapped, or a range that leaves its line. -/
def WindowRefused (right : Bool) (w e : Nat) (d : Device) : Prop :=
  d.mapped (d.rd O.MEM_WIN_OFFSET w) = true ∧ right = false ∧ e = 0xA003 ∨ d.mapped (d.rd O.MEM_WIN_OFFSET w) = false ∧ e = 0xA101 ∨
    d.mapped (d.rd O.MEM_WIN_OFFSET w) = true ∧ right = true ∧ inLine (d.rd O.MEM_WIN_OFFSET w) (d.rd O.MEM_WIN_LEN w) = false ∧ e = 0xA101

theorem window_refused {s : State} {r : Req} {w e : Nat} {f : Device → Nat × Device} {right : Bool} {body : Device → Option Nat × Device}
    (hasked : Asked r O.MEM_WIN_CMD w s.dev)
    (hf : f (s.dev.accept r) = runCmd r O.MEM_WIN_CMD w ((s.dev.accept r).winConds w right) body (s.dev.accept r))
    (hwhy : WindowRefused right w e s.dev) :
    ∃ t, s.on (fun d => d.direct r f) = .next t ∧ Answers r e t.dev ∧ Only [] asked s.dev t.dev := by
  refine command_refused hasked hf (e := e) ?_ ?_
  · rw [winConds_check hasked.2]
    rcases hwhy with ⟨hmapped, hright, rfl⟩ | ⟨hmapped, rfl⟩ | ⟨hmapped, hright, hin, rfl⟩
    · rw [if_pos hmapped, if_pos hright]
    · rw [if_neg (by simp [hmapped])]
    · rw [if_pos hmapped, if_neg (by simp [hright]), if_pos hin]
  · rcases hwhy with ⟨-, -, rfl⟩ | ⟨-, rfl⟩ | ⟨-, -, -, rfl⟩ <;> decide

/-- Each window command and its right. -/
theorem windowCommand_refused {r : Req} {w e : Nat} {s : State} (hasked : Asked r O.MEM_WIN_CMD w s.dev) :
    (WindowRefused (s.dev.memReadRight (s.dev.roleOf r) (regionOf (s.dev.rd O.MEM_WIN_OFFSET w)) == 2) w e s.dev →
      ∃ t, exec (.memWinRead r w) s = .next t ∧ Answers r e t.dev ∧ Only [] asked s.dev t.dev) ∧
    (WindowRefused (s.dev.memWriteRight (s.dev.roleOf r) (regionOf (s.dev.rd O.MEM_WIN_OFFSET w))) w e s.dev →
      ∃ t, exec (.memWinWrite r w) s = .next t ∧ Answers r e t.dev ∧ Only [] asked s.dev t.dev) ∧
    (WindowRefused (s.dev.memReadRight (s.dev.roleOf r) (regionOf (s.dev.rd O.MEM_WIN_OFFSET w)) != 0) w e s.dev →
      ∃ t, exec (.readCiphertext r w) s = .next t ∧ Answers r e t.dev ∧ Only [] asked s.dev t.dev) ∧
    (WindowRefused (s.dev.roleOf r == 1 && regionOf (s.dev.rd O.MEM_WIN_OFFSET w) == .scratch) w e s.dev →
      ∃ t, exec (.memReinit r w) s = .next t ∧ Answers r e t.dev ∧ Only [] asked s.dev t.dev) := by
  have hoffset : (s.dev.accept r).winOffset w = s.dev.rd O.MEM_WIN_OFFSET w := accept_rd _ _ _ _
  refine ⟨fun h => window_refused (f := memWinReadCore r w) hasked rfl ?_, fun h => window_refused (f := memWinWriteCore r w) hasked rfl ?_,
    fun h => window_refused (f := readCiphertextCore r w) hasked rfl ?_, fun h => window_refused (f := memReinitCore r w) hasked rfl ?_⟩
  · rwa [memReadRight_accept, accept_roleOf, hoffset]
  · rwa [memWriteRight_accept, accept_roleOf, hoffset]
  · rwa [memReadRight_accept, accept_roleOf, hoffset]
  · rwa [accept_roleOf, hoffset]

end Device
end Sys2Proof.Machine
end

section
/-!
PROOF. The family 03_holloth_ring_and_host_port: the BAR2 aperture on sound memory (R71).
-/
set_option Elab.async false
namespace Sys2Proof.Machine
namespace Device

/-- What the rights of the aperture are taken from. -/
def apertureObjects : List Nat := [O.PCIE_APERTURE_SESSION, O.SESSION_STATE, O.SESSION_ID, O.SESSION_ROLE, O.LC_STATE, O.LC_RMA_UNLOCKED]

theorem apertureRole_keeps {V : List Nat} {a b : Device} (k : Keeps V a b) (hF : F.objects ∉ V) (hV : ∀ o ∈ apertureObjects, o ∉ V) :
    b.apertureRole = a.apertureRole ∧ ∀ role g, b.memReadRight role g = a.memReadRight role g := by
  have hrd : ∀ o ∈ apertureObjects, ∀ r, b.rd o r = a.rd o r := fun o ho r => k.objs hF o r (hV o ho)
  refine ⟨?_, fun role g => ?_⟩
  · unfold apertureRole openRow lcExcludes rdB
    simp only [hrd O.PCIE_APERTURE_SESSION (by decide), hrd O.SESSION_STATE (by decide), hrd O.SESSION_ID (by decide),
      hrd O.SESSION_ROLE (by decide), hrd O.LC_STATE (by decide), hrd O.LC_RMA_UNLOCKED (by decide)]
  · unfold memReadRight
    simp only [hrd O.LC_STATE (by decide)]

/-- A range within one line, if it is not empty, is of that line. -/
theorem rangeLines_inLine {o n : Nat} (hn : 0 < n) (h : inLine o n = true) : rangeLines o n = [o / 64] := by
  have hle : o % 64 + n ≤ 64 := by simpa [inLine] using h
  unfold rangeLines
  rw [if_neg (by omega), show (o % 64 + n + 63) / 64 = 1 by omega]
  rw [List.range_one, List.map_singleton, Nat.zero_add]

theorem rangeOpen_inLine {d : Device} {o n : Nat} {right : Region → Bool} (hready : d.memReady = true) (hn : 0 < n) (h : inLine o n = true)
    (hmapped : d.mapped (64 * (o / 64)) = true) (hright : right (regionOf (64 * (o / 64))) = true) : d.rangeOpen o n right = true := by
  unfold rangeOpen
  rw [rangeLines_inLine hn h, hready]
  simp [hmapped, hright]

theorem mode_of_memReady {d : Device} (h : d.memReady = true) : d.mode ≠ .reset ∧ d.mode ≠ .boot ∧ d.mem.zeroed = false := by
  simpa [memReady, and_assoc] using h

theorem countAccess_keeps_all (d : Device) (off role : Nat) (m : Master) : Keeps Touch.countAccess d (d.countAccess off role m) :=
  countAccess_keeps (fun _ h => h) (Keeps.refl _ _)

/-- An open read within one line puts out what that line gave. -/
theorem apertureRead_line {d b : Device} {o n : Nat} {v : Bytes} (hreset : d.mode ≠ .reset) (hn : 0 < n) (hin : inLine o n = true)
    (hopen : d.rangeOpen o n (fun g => d.memReadRight d.apertureRole g != 0) = true) (hline : apertureLine (some [], d) (o / 64) = (some v, b)) :
    d.apertureRead o n = b.emit (.aperture o false (slice (o % 64) n v)) := by
  unfold apertureRead
  rw [if_neg hreset, if_neg (not_not.2 hopen), rangeLines_inLine hn hin, List.foldl_cons, List.foldl_nil, hline]
  rfl

theorem emit_last (d : Device) (x : Out) : (d.emit x).out.getLast? = some x := List.getLast?_concat

/-- BAR2 reads the plaintext of a good line. -/
theorem apertureRead_plain {o n : Nat} {s : State} (hready : s.dev.memReady = true) (hn : 0 < n) (hin : inLine o n = true)
    (hmapped : s.dev.mapped (64 * (o / 64)) = true) (hright : s.dev.memReadRight s.dev.apertureRole (regionOf (64 * (o / 64))) = 2)
    (hsound : MemSound s.dev) (hgood : s.dev.poisonedLine (o / 64) = false) :
    ∃ t, exec (.apertureRead o n) s = .next t ∧
      t.dev.out.getLast? = some (.aperture o false (slice (o % 64) n (s.dev.linePlain (o / 64)))) ∧ Only [] (F.out :: memUsed) s.dev t.dev := by
  obtain ⟨hreset, -, -⟩ := mode_of_memReady hready
  have hcount := countAccess_keeps_all s.dev (64 * (o / 64)) s.dev.apertureRole .pcie
  obtain ⟨hrole, hrights⟩ := apertureRole_keeps hcount (by decide) (by decide)
  have hmem := mem_keeps hcount (by decide)
  have hplain := linePlain_keeps hcount (by decide) (o / 64)
  obtain ⟨b, hb, hfetch⟩ := readLine_sound (memSound_congr hsound hmem) ((poisonedLine_congr (congrArg MemX.poisoned hmem) (o / 64)).trans hgood)
  have hline : apertureLine (some [], s.dev) (o / 64) = (some (s.dev.linePlain (o / 64)), b) := by
    unfold apertureLine
    dsimp only
    rw [if_neg (by rw [hrights, hrole, hright]; decide), hb]
    dsimp only
    rw [if_pos rfl, linePlain_keeps hfetch.frame (by decide), hplain]
    rfl
  have hread := apertureRead_line hreset hn hin (rangeOpen_inLine hready hn hin hmapped (by rw [hright]; rfl)) hline
  refine ⟨{ s with dev := s.dev.apertureRead o n }, rfl, ?_, ?_⟩
  · show (s.dev.apertureRead o n).out.getLast? = _
    rw [hread]
    exact emit_last _ _
  · show Only _ _ s.dev (s.dev.apertureRead o n)
    rw [hread]
    exact (((Only.refl [] (F.out :: memUsed) _).keeps (by decide) (hcount.mono (by unfold Sub; decide))).keeps (by decide)
      (hfetch.frame.mono (by unfold Sub; decide))).keeps (by decide) (emit_keeps (by unfold Sub; decide) (Keeps.refl _ _))

/-- One line of a read whose role has no more than the right to ciphertext. -/
theorem apertureLine_stored {d x : Device} {p : Nat} {v : Bytes} (hx : d.countAccess (64 * p) d.apertureRole .pcie = x)
    (hright : x.memReadRight x.apertureRole (regionOf (64 * p)) = 1) (hline : x.lineCipher p = (v, x)) :
    apertureLine (some [], d) p = (some v, x) := by
  unfold apertureLine
  dsimp only
  rw [hx, if_pos hright, hline]
  rfl

/-- BAR2 reads the stored ciphertext where its role has no more than that right. -/
theorem apertureRead_stored {o n p : Nat} {s : State} (hready : s.dev.memReady = true) (hn : 0 < n) (hin : inLine o n = true) (hp : p = o / 64)
    (hmapped : s.dev.mapped (64 * p) = true) (hright : s.dev.memReadRight s.dev.apertureRole (regionOf (64 * p)) = 1)
    (hctr : s.dev.dataCtr p < 2 ^ 64) :
    ∃ t, exec (.apertureRead o n) s = .next t ∧ t.dev.out.getLast? = some (.aperture o false (slice (o % 64) n (s.dev.lineStored p))) ∧
      Only [] [O.PMC_VALUE, O.PMC_STATUS, F.out, F.pciePending, F.pmc] s.dev t.dev := by
  subst hp
  obtain ⟨hreset, -, -⟩ := mode_of_memReady hready
  have hcount := countAccess_keeps_all s.dev (64 * (o / 64)) s.dev.apertureRole .pcie
  obtain ⟨hrole, hrights⟩ := apertureRole_keeps hcount (by decide) (by decide)
  obtain ⟨hstored, hsame⟩ := lineStored_keeps hcount (by decide) (by decide) (o / 64)
  have hcipher : (s.dev.countAccess (64 * (o / 64)) s.dev.apertureRole .pcie).lineCipher (o / 64) =
      (s.dev.lineStored (o / 64), s.dev.countAccess (64 * (o / 64)) s.dev.apertureRole .pcie) := by
    rw [lineCipher_stored (hsame.trans_lt hctr), hstored]
  have hline := apertureLine_stored rfl (by rw [hrights, hrole, hright]) hcipher
  generalize s.dev.lineStored (o / 64) = stored at hline ⊢
  have hread := apertureRead_line hreset hn hin (rangeOpen_inLine hready hn hin hmapped (by rw [hright]; rfl)) hline
  refine ⟨{ s with dev := s.dev.apertureRead o n }, rfl, ?_, ?_⟩
  · show (s.dev.apertureRead o n).out.getLast? = _
    rw [hread]
    exact emit_last _ _
  · show Only _ _ s.dev (s.dev.apertureRead o n)
    rw [hread]
    exact ((Only.refl _ _ _).keeps (by decide) (hcount.mono (by unfold Sub; decide))).keeps (by decide)
      (emit_keeps (by unfold Sub; decide) (Keeps.refl _ _))

/-- A refusal is counted. -/
theorem apertureRefuse_counted (d : Device) (W : List Nat) :
    d.apertureRefuse.rd O.PCIE_APERTURE_REFUSED = (d.rd O.PCIE_APERTURE_REFUSED + 1) % 2 ^ 64 ∧
      Only [(O.PCIE_APERTURE_REFUSED, 0)] W d d.apertureRefuse :=
  ⟨rd_wr_self _ _ _ _, (Only.refl _ _ _).wr (Or.inr List.mem_cons_self)⟩

theorem apertureRead_refused {o n : Nat} {s : State} (hmode : s.dev.mode ≠ .reset)
    (hclosed : s.dev.rangeOpen o n (fun g => s.dev.memReadRight s.dev.apertureRole g != 0) = false) :
    ∃ t, exec (.apertureRead o n) s = .next t ∧ t.dev.out = s.dev.out ++ [.aperture o true []] ∧
      t.dev.rd O.PCIE_APERTURE_REFUSED = (s.dev.rd O.PCIE_APERTURE_REFUSED + 1) % 2 ^ 64 ∧
      Only [(O.PCIE_APERTURE_REFUSED, 0)] [F.out] s.dev t.dev := by
  have hread : s.dev.apertureRead o n = s.dev.apertureRefuse.emit (.aperture o true []) := by
    unfold apertureRead
    rw [if_neg hmode, if_pos (by simp [hclosed])]
  obtain ⟨hcount, honly⟩ := apertureRefuse_counted s.dev [F.out]
  refine ⟨{ s with dev := s.dev.apertureRead o n }, rfl, ?_⟩
  show (s.dev.apertureRead o n).out = _ ∧ (s.dev.apertureRead o n).rd _ = _ ∧ Only _ _ s.dev (s.dev.apertureRead o n)
  rw [hread]
  exact ⟨rfl, hcount, honly.keeps (by decide) (emit_keeps (by unfold Sub; decide) (Keeps.refl _ _))⟩

theorem apertureWrite_refused {o : Nat} {v : Bytes} {s : State} (hmode : s.dev.mode ≠ .reset)
    (hclosed : s.dev.rangeOpen o v.length (s.dev.memWriteRight s.dev.apertureRole) = false) :
    ∃ t, exec (.apertureWrite o v) s = .next t ∧
      t.dev.rd O.PCIE_APERTURE_REFUSED = (s.dev.rd O.PCIE_APERTURE_REFUSED + 1) % 2 ^ 64 ∧
      Only [(O.PCIE_APERTURE_REFUSED, 0)] [] s.dev t.dev := by
  have hwrite : s.dev.apertureWrite o v = s.dev.apertureRefuse := by
    unfold apertureWrite
    rw [if_neg hmode, if_pos (by simp [hclosed])]
  refine ⟨{ s with dev := s.dev.apertureWrite o v }, rfl, ?_⟩
  show (s.dev.apertureWrite o v).rd _ = _ ∧ Only _ _ s.dev (s.dev.apertureWrite o v)
  rw [hwrite]
  exact apertureRefuse_counted s.dev []

/-- BAR2 writes to host scratch. -/
theorem apertureWrite_scratch {o : Nat} {v : Bytes} {s : State} (hready : s.dev.memReady = true) (hv : v ≠ []) (hin : inLine o v.length = true)
    (hscratch : regionOf (64 * (o / 64)) = .scratch) (hright : s.dev.memWriteRight s.dev.apertureRole .scratch = true) (hsound : MemSound s.dev)
    (hgood : s.dev.poisonedLine (o / 64) = false) :
    ∃ t, exec (.apertureWrite o v) s = .next t ∧ BytesPut o v s.dev t.dev ∧ Only [] (F.memCells :: memUsed) s.dev t.dev := by
  obtain ⟨hreset, -, -⟩ := mode_of_memReady hready
  have hpos : 0 < v.length := List.length_pos_iff.2 hv
  have hle : o % 64 + v.length ≤ 64 := by simpa [inLine] using hin
  have hlo : max o (64 * (o / 64)) = o := by omega
  have hhi : min (o + v.length) (64 * (o / 64) + 64) = o + v.length := by omega
  have hcount := countAccess_keeps_all s.dev o s.dev.apertureRole .pcie
  have hmem := mem_keeps hcount (by decide)
  obtain ⟨b, hb, hput, hframe⟩ := partialWrite_sound (memSound_congr hsound hmem)
    ((poisonedLine_congr (congrArg MemX.poisoned hmem) (o / 64)).trans hgood) v
  have hpart : aperturePart o v (true, s.dev) (o / 64) = (true, b) := by
    have hslice : slice (o - o) (o + v.length - o) v = v := by
      unfold slice
      simp
    unfold aperturePart
    dsimp only
    rw [hlo, hhi, hslice, hb]
    rfl
  have hwrite : s.dev.apertureWrite o v = b := by
    unfold apertureWrite
    rw [if_neg hreset, if_neg (by
      rw [rangeOpen_inLine hready hpos hin (mapped_scratch _ hscratch) (by rw [hscratch, hright])]
      decide), rangeLines_inLine hpos hin, List.foldl_cons, List.foldl_nil, hpart]
    rfl
  refine ⟨{ s with dev := s.dev.apertureWrite o v }, rfl, ?_⟩
  show BytesPut o v s.dev (s.dev.apertureWrite o v) ∧ Only _ _ s.dev (s.dev.apertureWrite o v)
  rw [hwrite]
  exact ⟨bytesPut_of_cells hput (congrArg MemX.cells hmem) , ((Only.refl [] (F.memCells :: memUsed) _).keeps (by decide)
    (hcount.mono (by unfold Sub; decide))).keeps (by decide) hframe⟩

end Device
end Sys2Proof.Machine
end

section
/-!
PROOF. The family 03_holloth_ring_and_host_port: retirement of a memory channel, and its calibration lost and regained (R330).
-/
set_option Elab.async false
namespace Sys2Proof.Machine
namespace Device

/-! ### The start of a retirement -/

/-- Channel `c` is evacuating for `cause`, and its rehash has not begun. -/
def retireBegun (d : Device) (c cause : Nat) (forced : Bool) : Device :=
  (((d.wr O.MEM_CH_STATE c 1).wr O.MEM_CH_CAUSE c cause).wr O.MEM_REHASH_DONE 0 0).setRetiring (some (c, forced)) false

theorem retireTaken_none {d : Device} (h : ∀ k, k < 4 → d.rd O.MEM_CH_STATE k = 0) : d.retireTaken = false := by
  unfold retireTaken
  rw [List.any_eq_false]
  intro k hk
  simp [h k (List.mem_range.1 hk)]

theorem retireTaken_some {d : Device} {k : Nat} (hk : k < 4) (h : d.rd O.MEM_CH_STATE k ≠ 0) : d.retireTaken = true := by
  unfold retireTaken
  rw [List.any_eq_true]
  exact ⟨k, List.mem_range.2 hk, by simpa using h⟩

/-- The first retirement takes the channel, and raises DEGRADED. -/
theorem startRetire_first {d : Device} {c : Nat} (cause : Nat) (forced : Bool) (hfree : ∀ k, k < 4 → d.rd O.MEM_CH_STATE k = 0) (hc : c < 4) :
    d.startRetire c cause forced = (d.retireBegun c cause forced).fault (0x300 + c) (0x0300 + c) 2 (leBytes 4 c) := by
  unfold startRetire
  rw [if_neg (by simp [hfree c hc]), if_neg (by simp [retireTaken_none hfree])]
  rfl

/-- A second one raises SEVERE. -/
theorem startRetire_second {d : Device} {c k : Nat} (cause : Nat) (forced : Bool) (hc : d.rd O.MEM_CH_STATE c = 0) (hk : k < 4)
    (htaken : d.rd O.MEM_CH_STATE k ≠ 0) : d.startRetire c cause forced = d.fault (0x300 + c) (0x0300 + c) 3 (leBytes 4 c) := by
  unfold startRetire
  rw [if_neg (by simp [hc]), if_pos (retireTaken_some hk htaken)]

/-- The rows of a retirement. -/
def retireRows (c : Nat) : List (Nat × Nat) :=
  [(O.MEM_CH_STATE, c), (O.MEM_CH_CAUSE, c), (O.MEM_REHASH_DONE, 0), (O.FLT_SRC_CLASS, 0x300 + c)]

theorem retireBegun_only (d : Device) (c cause : Nat) (forced : Bool) : Only (retireRows c) [F.memRest] d (d.retireBegun c cause forced) := by
  have hstate := (Only.refl (retireRows c) [F.memRest] d).wr (o := O.MEM_CH_STATE) (r := c) (v := 1) (Or.inr (by simp [retireRows]))
  have hcause := hstate.wr (o := O.MEM_CH_CAUSE) (r := c) (v := cause) (Or.inr (by simp [retireRows]))
  have hdone := hcause.wr (o := O.MEM_REHASH_DONE) (r := 0) (v := 0) (Or.inr (by simp [retireRows]))
  exact hdone.keeps (by decide) (setRetiring_keeps (by unfold Sub; decide) (Keeps.refl _ _))

theorem retireBegun_keeps (d : Device) (c cause : Nat) (forced : Bool) :
    Keeps [O.MEM_CH_STATE, O.MEM_CH_CAUSE, O.MEM_REHASH_DONE, O.FLT_SRC_CLASS, F.memRest] d (d.retireBegun c cause forced) :=
  (retireBegun_only d c cause forced).1

/-- What a begun retirement shows. -/
theorem retireBegun_shows (d : Device) (c cause : Nat) (forced : Bool) :
    (d.retireBegun c cause forced).rd O.MEM_CH_STATE c = 1 ∧ (d.retireBegun c cause forced).rd O.MEM_CH_CAUSE c = cause ∧
      (d.retireBegun c cause forced).rd O.MEM_REHASH_DONE = 0 ∧ (d.retireBegun c cause forced).mem.retiring = some (c, forced) := by
  have hset : ∀ (x : Device) o row, (x.setRetiring (some (c, forced)) false).rd o row = x.rd o row := fun _ _ _ => rfl
  unfold retireBegun
  refine ⟨?_, ?_, ?_, rfl⟩
  · rw [hset, rd_wr_obj _ _ _ _ (by decide), rd_wr_obj _ _ _ _ (by decide), rd_wr_self]
  · rw [hset, rd_wr_obj _ _ _ _ (by decide), rd_wr_self]
  · rw [hset, rd_wr_self]

/-- What a retirement leaves: the channel evacuates for its cause, and DEGRADED is latched. -/
structure Retired (c cause : Nat) (forced : Bool) (b : Device) : Prop where
  state : b.rd O.MEM_CH_STATE c = 1
  cause : b.rd O.MEM_CH_CAUSE c = cause
  done : b.rd O.MEM_REHASH_DONE = 0
  retiring : b.mem.retiring = some (c, forced)
  latched : (b.rd O.FLT_STATUS).testBit 2 = true

theorem Retired.keeps {V : List Nat} {a b : Device} {c cause : Nat} {forced : Bool} (h : Retired c cause forced a) (k : Keeps V a b)
    (hV : ∀ o ∈ [F.objects, O.MEM_CH_STATE, O.MEM_CH_CAUSE, O.MEM_REHASH_DONE, O.FLT_STATUS, F.memCells, F.memRest], o ∉ V) :
    Retired c cause forced b := by
  have hF := hV F.objects (by decide)
  exact ⟨(k.objs hF _ _ (hV _ (by decide))).trans h.state, (k.objs hF _ _ (hV _ (by decide))).trans h.cause,
    (k.objs hF _ _ (hV _ (by decide))).trans h.done, by rw [mem_keeps k ⟨hV _ (by decide), hV _ (by decide)⟩, h.retiring],
    by rw [k.objs hF _ _ (hV O.FLT_STATUS (by decide)), h.latched]⟩

/-- The first retirement of a device whose channel source is calm. -/
theorem startRetire_retired {d : Device} {c : Nat} (cause : Nat) (forced : Bool) (hfree : ∀ k, k < 4 → d.rd O.MEM_CH_STATE k = 0) (hc : c < 4)
    (hcalm : Calm (0x300 + c) 2 d) (hseen : Seen (0x300 + c) d) :
    Retired c cause forced (d.startRetire c cause forced) ∧ (d.startRetire c cause forced).mem.waiting = d.mem.waiting ∧
      Keeps (O.MEM_CH_STATE :: O.MEM_CH_CAUSE :: O.MEM_REHASH_DONE :: F.memRest :: degradedPlaces) d (d.startRetire c cause forced) := by
  have hbegun := retireBegun_keeps d c cause forced
  have hcalm' := hcalm.keeps hbegun (by decide) (by decide)
  have hseen' := hseen.keeps hbegun (by decide)
  obtain ⟨hstate, hcause, hdone, hretiring⟩ := retireBegun_shows d c cause forced
  rw [startRetire_first cause forced hfree hc]
  have hfault := fault_degraded_keeps (0x0300 + c) (leBytes 4 c) hcalm'
  have hstatus := fault_degraded_status (0x0300 + c) (leBytes 4 c) hseen' hcalm'
  generalize (d.retireBegun c cause forced).fault (0x300 + c) (0x0300 + c) 2 (leBytes 4 c) = b at hfault hstatus ⊢
  exact ⟨⟨by rw [hfault.objs (by decide) _ _ (by decide), hstate], by rw [hfault.objs (by decide) _ _ (by decide), hcause],
    by rw [hfault.objs (by decide) _ _ (by decide), hdone], by rw [mem_keeps hfault (by decide), hretiring], hstatus⟩,
    by rw [mem_keeps hfault (by decide)]; rfl, (hbegun.mono (by unfold Sub; decide)).trans (hfault.mono (by unfold Sub; decide))⟩

/-- Where the event session has room, no more than the rows of the retirement change. -/
theorem startRetire_only {d : Device} {c : Nat} (cause : Nat) (forced : Bool) (hfree : ∀ k, k < 4 → d.rd O.MEM_CH_STATE k = 0) (hc : c < 4)
    (hcalm : Calm (0x300 + c) 2 d) (hseen : Seen (0x300 + c) d) (hroom : EventRoom d) :
    Only (retireRows c) (F.memRest :: O.FLT_STATUS :: noted) d (d.startRetire c cause forced) := by
  have hbegun := retireBegun_keeps d c cause forced
  obtain ⟨-, hfault⟩ := fault_degraded (0x0300 + c) (leBytes 4 c) (hseen.keeps hbegun (by decide)) (hcalm.keeps hbegun (by decide) (by decide))
    (hroom.keeps hbegun (by decide))
  rw [startRetire_first cause forced hfree hc]
  exact ((retireBegun_only d c cause forced).mono (fun _ h => h) (by unfold Sub; decide)).trans
    (hfault.mono (by simp [retireRows]) (by unfold Sub; decide))

/-! ### RETIRE -/

theorem channelRow_of_asked {d : Device} {r : Req} {c : Nat} (h : d.cmdCheck r O.MEM_CH_CMD c Conds.none = 0) : c < 4 := by
  by_contra hc
  have hrow : d.rowOk (O.MEM_CH_CMD / 256) c = false := (show d.rowOk (O.MEM_CH_CMD / 256) c = decide (c < 4) from rfl).trans (decide_eq_false hc)
  have haddr : d.addrCheck (directAddr O.MEM_CH_CMD c) false = 0xA105 := by
    unfold addrCheck directAddr
    rw [show (⟨0, c, false, indexTable (O.MEM_CH_CMD / 256), O.MEM_CH_CMD % 256, O.MEM_CH_CMD / 256⟩ : AddrBlock).row = c from rfl]
    dsimp only
    rw [hrow]
    rfl
  unfold cmdCheck at h
  dsimp only at h
  rw [haddr] at h
  exact absurd h (by simp [firstFail])

theorem memChRetire_taken {r : Req} {c k : Nat} {s : State} (hasked : Asked r O.MEM_CH_CMD c s.dev) (hk : k < 4)
    (htaken : s.dev.rd O.MEM_CH_STATE k ≠ 0) :
    ∃ t, exec (.memChRetire r c) s = .next t ∧ Answers r 0xA303 t.dev ∧ Only [] asked s.dev t.dev := by
  have htaken' : (s.dev.accept r).retireTaken = true := retireTaken_some hk (by rwa [accept_rd])
  refine command_refused (f := memChRetireCore r c) hasked rfl (e := 0xA303) ?_ (by decide)
  rw [cmdCheck_accept]
  refine (cmdCheck_own hasked.2 [] [((s.dev.accept r).retireTaken, 0xA303)] [((s.dev.accept r).rd O.MEM_CH_STATE c != 0, 0xA106)]).trans ?_
  rw [htaken']
  rfl

theorem memChRetire_first {r : Req} {c : Nat} {s : State} (hasked : Asked r O.MEM_CH_CMD c s.dev) (hfree : ∀ k, k < 4 → s.dev.rd O.MEM_CH_STATE k = 0)
    (hcalm : Calm (0x300 + c) 2 s.dev) (hseen : Seen (0x300 + c) s.dev) (hroom : EventRoom s.dev) :
    ∃ t, exec (.memChRetire r c) s = .next t ∧ Retired c 1 false t.dev ∧ Result O.MEM_CH_CMD c 0 2 s.dev t.dev ∧ Answers r 0 t.dev ∧
      Only ((O.MEM_CH_CMD, c) :: retireRows c) (F.memRest :: O.FLT_STATUS :: noted ++ asked) s.dev t.dev := by
  obtain ⟨hreset, hpass⟩ := hasked
  have hc := channelRow_of_asked hpass
  have hstart : Keeps (O.MEM_CH_CMD :: asked) s.dev ((s.dev.accept r).startCmd O.MEM_CH_CMD c) :=
    startCmd_keeps (Or.inl (by decide)) ((accept_keeps_all s.dev r).mono (by unfold Sub; decide))
  have hfree' : ∀ k, k < 4 → ((s.dev.accept r).startCmd O.MEM_CH_CMD c).rd O.MEM_CH_STATE k = 0 := fun k hk => by
    rw [hstart.objs (by decide) _ _ (by decide), hfree k hk]
  have hcalm' := hcalm.keeps hstart (by decide) (by decide)
  have hseen' := hseen.keeps hstart (by decide)
  have hroom' : EventRoom ((s.dev.accept r).startCmd O.MEM_CH_CMD c) := (hroom.accept r).keeps
    (startCmd_keeps (W := [O.MEM_CH_CMD]) (Or.inl List.mem_cons_self) (Keeps.refl _ _)) (by decide)
  obtain ⟨hretired, -, hkeeps⟩ := startRetire_retired 1 false hfree' hc hcalm' hseen'
  have honly := startRetire_only 1 false hfree' hc hcalm' hseen' hroom'
  have hcheck : (s.dev.accept r).cmdCheck r O.MEM_CH_CMD c
      { Conds.none with s4 := [((s.dev.accept r).retireTaken, 0xA303)], s6 := [((s.dev.accept r).rd O.MEM_CH_STATE c != 0, 0xA106)] } = 0 := by
    rw [cmdCheck_accept]
    refine (cmdCheck_own hpass [] [((s.dev.accept r).retireTaken, 0xA303)] [((s.dev.accept r).rd O.MEM_CH_STATE c != 0, 0xA106)]).trans ?_
    rw [retireTaken_none (d := s.dev.accept r) (fun k hk => by rw [accept_rd, hfree k hk]), accept_rd, hfree c hc]
    rfl
  obtain ⟨t, ht, hasked', hresult, hans, hframe⟩ := command_done (f := memChRetireCore r c) (R := (O.MEM_CH_CMD, c) :: retireRows c)
    (W := F.memRest :: O.FLT_STATUS :: noted ++ asked) (x := false) hreset hpass rfl hcheck rfl
    (honly.mono (List.subset_cons_self _ _) (by unfold Sub; decide))
    (hkeeps.objs (by decide) _ _ (by decide)) ((hkeeps.fields 0 (by decide)).trans (hstart.fields 0 (by decide))) List.mem_cons_self
    (by decide) (fun _ h => List.mem_append_right _ h) (by decide)
  exact ⟨t, ht, (hretired.keeps (endCmd_keeps (W := [O.MEM_CH_CMD]) (Or.inl List.mem_cons_self) (Keeps.refl _ _)) (by decide)).keeps hasked'
    (by decide), hresult, hans, hframe⟩

/-! ### Uncorrectable codewords -/

theorem memChUncorrRetire_eq {d : Device} {c : Nat} (hready : d.memReady = true) (hc : c < 4) (hstate : d.rd O.MEM_CH_STATE c ≠ 2)
    (hmany : d.rd O.MEM_CH_RETIRE_UNCORR c ≤ d.uncorrNow c) : d.memChUncorrRetire c = d.startRetire c 3 true := by
  unfold memChUncorrRetire
  rw [if_neg]
  rw [hready]
  simp only [not_true_eq_false, false_or, not_or, Nat.not_le, Nat.not_lt]
  exact ⟨hc, hstate, hmany⟩

/-! ### Calibration -/

theorem setSrcState_seen {d : Device} {src : Nat} (h : Seen src d) (v : Nat) : d.setSrcState src v = d.wr O.FLT_SRC_STATE src v := by
  unfold setSrcState srcUnseen
  rw [if_neg (by simpa using h.1)]

theorem setSrcState_shows {d : Device} {src : Nat} (h : Seen src d) (v : Nat) (W : List Nat) :
    (d.setSrcState src v).rd O.FLT_SRC_STATE src = v ∧ (d.setSrcState src v).mem = d.mem ∧
      Only [(O.FLT_SRC_STATE, src)] W d (d.setSrcState src v) := by
  rw [setSrcState_seen h]
  exact ⟨rd_wr_self _ _ _ _, rfl, (Only.refl _ _ _).wr (Or.inr List.mem_cons_self)⟩

theorem grants_idle {d : Device} (h : d.mem.waiting = []) : d.grants = d := by
  unfold grants
  rw [h]
  rfl

theorem memCalibrationLoss_shows {c : Nat} {s : State} (hready : s.dev.memReady = true) (hc : c < 4) (hstate : s.dev.rd O.MEM_CH_STATE c ≠ 2)
    (hnew : ∀ e ∈ s.dev.mem.calib, e.1 ≠ c) (hseen : Seen (0x300 + c) s.dev) :
    ∃ t, exec (.memCalibrationLoss c) s = .next t ∧ t.dev.mem.calib = s.dev.mem.calib ++ [(c, s.dev.cyc)] ∧
      t.dev.rd O.FLT_SRC_STATE (0x300 + c) = 1 ∧ Only [(O.FLT_SRC_STATE, 0x300 + c)] [F.memRest] s.dev t.dev := by
  have hset : Keeps [F.memRest] s.dev (s.dev.setMem { s.dev.mem with calib := s.dev.mem.calib ++ [(c, s.dev.cyc)] }) := setMem_rest_keeps _ _ rfl
  obtain ⟨hrd, hmem, honly⟩ := setSrcState_shows (hseen.keeps hset (by decide)) 1 [F.memRest]
  have hany : s.dev.mem.calib.any (fun e => e.1 == c) = false := by
    rw [List.any_eq_false]
    intro e he
    simpa using hnew e he
  have heq : s.dev.memCalibrationLoss c =
      (s.dev.setMem { s.dev.mem with calib := s.dev.mem.calib ++ [(c, s.dev.cyc)] }).setSrcState (0x300 + c) 1 := by
    unfold memCalibrationLoss
    rw [if_neg]
    rw [hready, hany]
    simp only [not_true_eq_false, false_or, not_or, Nat.not_le, Bool.false_eq_true, not_false_iff, and_true]
    exact ⟨hc, hstate⟩
  refine ⟨{ s with dev := s.dev.memCalibrationLoss c }, rfl, ?_⟩
  show (s.dev.memCalibrationLoss c).mem.calib = _ ∧ (s.dev.memCalibrationLoss c).rd _ _ = _ ∧ Only _ _ s.dev (s.dev.memCalibrationLoss c)
  rw [heq]
  exact ⟨by rw [hmem]; rfl, hrd, ((Only.refl _ _ _).keeps (by decide) hset).trans honly⟩

/-- Calibration regained ends the condition. -/
theorem endCalib_shows {d : Device} {c : Nat} (hseen : Seen (0x300 + c) d) :
    (d.endCalib c).mem = { d.mem with calib := d.mem.calib.filter (fun e => e.1 != c) } ∧ (d.endCalib c).rd O.FLT_SRC_STATE (0x300 + c) = 0 ∧
      Only [(O.FLT_SRC_STATE, 0x300 + c)] [F.memRest] d (d.endCalib c) := by
  have hset : Keeps [F.memRest] d (d.setMem { d.mem with calib := d.mem.calib.filter (fun e => e.1 != c) }) := setMem_rest_keeps _ _ rfl
  obtain ⟨hrd, hmem, honly⟩ := setSrcState_shows (hseen.keeps hset (by decide)) 0 [F.memRest]
  unfold endCalib
  exact ⟨hmem.trans rfl, hrd, ((Only.refl _ _ _).keeps (by decide) hset).trans honly⟩

theorem memCalibrationRegained_eq {d : Device} {c : Nat} {e : Nat × Nat} (he : e ∈ d.mem.calib) (hc : e.1 = c) :
    d.memCalibrationRegained c = (d.endCalib c).grants := by
  unfold memCalibrationRegained
  rw [if_pos]
  rw [List.any_eq_true]
  exact ⟨e, he, by simpa using hc⟩

theorem memCalibrationRegained_shows {c : Nat} {e : Nat × Nat} {s : State} (he : e ∈ s.dev.mem.calib) (hc : e.1 = c) (hidle : s.dev.mem.waiting = [])
    (hseen : Seen (0x300 + c) s.dev) :
    ∃ t, exec (.memCalibrationRegained c) s = .next t ∧ (∀ x ∈ t.dev.mem.calib, x.1 ≠ c) ∧ t.dev.rd O.FLT_SRC_STATE (0x300 + c) = 0 ∧
      Only [(O.FLT_SRC_STATE, 0x300 + c)] [F.memRest] s.dev t.dev := by
  obtain ⟨hmem, hrd, honly⟩ := endCalib_shows hseen
  refine ⟨{ s with dev := s.dev.memCalibrationRegained c }, rfl, ?_⟩
  show (∀ x ∈ (s.dev.memCalibrationRegained c).mem.calib, x.1 ≠ c) ∧ (s.dev.memCalibrationRegained c).rd _ _ = 0 ∧
    Only _ _ s.dev (s.dev.memCalibrationRegained c)
  rw [memCalibrationRegained_eq he hc, grants_idle (by rw [hmem]; exact hidle)]
  refine ⟨fun x hx => ?_, hrd, honly⟩
  rw [hmem] at hx
  simpa using (List.mem_filter.1 hx).2

/-- 10 ms without calibration retire the channel (R330). -/
theorem memCalibrationLost_retires {c at0 : Nat} {s : State} (hclock : s.dev.clockOn = true)
    (hlost : s.dev.mem.calib.find? (fun e => e.1 == c) = some (c, at0)) (hfree : ∀ k, k < 4 → s.dev.rd O.MEM_CH_STATE k = 0) (hc : c < 4)
    (hidle : s.dev.mem.waiting = []) (hcalm : Calm (0x300 + c) 2 s.dev) (hseen : Seen (0x300 + c) s.dev) :
    ∃ t, exec (.memCalibrationLost c) s = .next t ∧ t.dev.cyc = max s.dev.cyc (at0 + msCycles 10) ∧ Retired c 4 true t.dev ∧
      Keeps (O.MEM_CH_STATE :: O.MEM_CH_CAUSE :: O.MEM_REHASH_DONE :: F.memRest :: passing ++ faulting) s.dev t.dev := by
  have hpass : Keeps passing s.dev (s.dev.passTo (at0 + msCycles 10)) := passTo_keeps (by unfold Sub; decide) (Keeps.refl _ _)
  have hcyc := passTo_cyc hclock (at0 + msCycles 10)
  obtain ⟨hretired, hwait, hkeeps⟩ := startRetire_retired 4 true (d := s.dev.passTo (at0 + msCycles 10))
    (fun k hk => by rw [hpass.objs (by decide) _ _ (by decide), hfree k hk]) hc (hcalm.later hpass (by decide) (by omega)) (hseen.keeps hpass (by decide))
  have hwaiting : ((s.dev.passTo (at0 + msCycles 10)).startRetire c 4 true).mem.waiting = [] := by
    rw [hwait, mem_keeps hpass (by decide), hidle]
  have heq : s.dev.memCalibrationLost c = (s.dev.passTo (at0 + msCycles 10)).startRetire c 4 true := by
    unfold memCalibrationLost
    rw [hlost, Option.elim_some, grants_idle hwaiting]
  refine ⟨{ s with dev := s.dev.memCalibrationLost c }, rfl, ?_⟩
  show (s.dev.memCalibrationLost c).cyc = _ ∧ Retired c 4 true (s.dev.memCalibrationLost c) ∧ Keeps _ s.dev (s.dev.memCalibrationLost c)
  rw [heq]
  exact ⟨(hkeeps.fields 4 (by decide)).trans hcyc, hretired, (hpass.mono (by unfold Sub; decide)).trans (hkeeps.mono (by unfold Sub; decide))⟩

/-- With one request waiting whose channels give grants, that one is served. -/
theorem grants_single {d : Device} {r : MemReq} (hwait : d.mem.waiting = [r]) (hcalm : r.chans.any d.channelStalled = false) :
    d.grants = (d.setWaiting []).serveMem r.op := by
  have hrest : (d.mem.waiting.erase r).map (passOver r) = [] := by
    rw [hwait]
    exact congrArg _ (List.erase_cons_head _ _)
  unfold grants
  rw [show d.mem.waiting.length = 1 by rw [hwait]; rfl]
  unfold grantAll
  rw [nextGrant_of_single hwait hcalm, Option.elim_some, hrest]
  rfl

/-- A request that waited for the calibration of its channel is served when it is regained. -/
theorem memCalibrationRegained_serves {c p : Nat} {s : State} (hsound : MemSound s.dev) (hcalib : s.dev.mem.calib = [(c, s.dev.cyc)])
    (hgood : s.dev.poisonedLine p = false) (hwait : s.dev.mem.waiting = [⟨[c], classOf p, .lineRead p .ok, 0⟩])
    (hseen : Seen (0x300 + c) s.dev) :
    ∃ t, exec (.memCalibrationRegained c) s = .next t ∧ t.dev.mem.waiting = [] ∧ t.dev.mem.calib = [] ∧
      t.dev.rd O.MEM_TREE_HITS + t.dev.rd O.MEM_TREE_MISSES ≠ s.dev.rd O.MEM_TREE_HITS + s.dev.rd O.MEM_TREE_MISSES ∧
      Only [(O.FLT_SRC_STATE, 0x300 + c)] memUsed s.dev t.dev := by
  obtain ⟨hmem, -, honly⟩ := endCalib_shows hseen
  have hnone : (s.dev.endCalib c).mem = { s.dev.mem with calib := [] } := by
    rw [hmem, hcalib]
    simp
  have hcalm : ([c] : List Nat).any (s.dev.endCalib c).channelStalled = false := by
    simp [channelStalled, hnone]
  have hserved : s.dev.memCalibrationRegained c = (((s.dev.endCalib c).setWaiting []).verifyLine p .ok false).2 := by
    rw [memCalibrationRegained_eq (e := (c, s.dev.cyc)) (by rw [hcalib]; exact List.mem_cons_self) rfl,
      grants_single (r := ⟨[c], classOf p, .lineRead p .ok, 0⟩) (by rw [hnone]; exact hwait) hcalm]
    rfl
  have hset : Keeps [F.memRest] (s.dev.endCalib c) ((s.dev.endCalib c).setWaiting []) := setMem_rest_keeps _ _ rfl
  have hmem' : ((s.dev.endCalib c).setWaiting []).mem = { s.dev.mem with calib := [], waiting := [] } := by
    show { (s.dev.endCalib c).mem with waiting := [] } = _
    rw [hnone]
  have hsound' : MemSound ((s.dev.endCalib c).setWaiting []) := by
    unfold MemSound at hsound ⊢
    rwa [hmem']
  obtain ⟨b, hb, hfetch⟩ := verifyLine_sound hsound' (p := p)
    ((poisonedLine_congr (by rw [hmem']) p).trans hgood) false
  have hrd : ∀ o row, o ≠ O.FLT_SRC_STATE → o ≠ F.memRest → ((s.dev.endCalib c).setWaiting []).rd o row = s.dev.rd o row := fun o row ho hF => by
    rw [hset.objs (by decide) _ _ (by simpa using hF), honly.2 o row (by simpa using hF) fun e he heq => absurd (heq.symm.trans (congrArg Prod.fst (List.mem_singleton.1 he))) ho]
  refine ⟨{ s with dev := s.dev.memCalibrationRegained c }, rfl, ?_⟩
  show (s.dev.memCalibrationRegained c).mem.waiting = [] ∧ (s.dev.memCalibrationRegained c).mem.calib = [] ∧
    (s.dev.memCalibrationRegained c).rd _ + (s.dev.memCalibrationRegained c).rd _ ≠ _ ∧ Only _ _ s.dev (s.dev.memCalibrationRegained c)
  rw [hserved, hb]
  refine ⟨by rw [hfetch.mem, hmem'], by rw [hfetch.mem, hmem'], ?_, ?_⟩
  · have hcounted := hfetch.counted
    rwa [hrd _ _ (by decide) (by decide), hrd _ _ (by decide) (by decide)] at hcounted
  · exact ((honly.mono (fun _ h => h) (by unfold Sub; decide)).keeps (by decide) (hset.mono (by unfold Sub; decide))).keeps (by decide) hfetch.frame

end Device
end Sys2Proof.Machine
end

section
/-!
PROOF. The family 03_holloth_ring_and_host_port: evacuation of a retired channel ends (R325, R332).
-/
set_option Elab.async false
namespace Sys2Proof.Machine
namespace Device

/-- What a counted write of one line leaves: of memory, only the tree cache, the counters of lines and the poison marks differ. -/
structure LineMoved (a b : Device) : Prop where
  frame : Keeps (F.memRest :: statPlaces ++ poisonRows) a b
  mem : b.mem = { a.mem with cached := b.mem.cached, ctr := b.mem.ctr, poisoned := b.mem.poisoned }
  counters : ∀ k, natAt b.mem.ctr k ≤ natAt a.mem.ctr k + 1

theorem LineMoved.frozen {a b : Device} (h : LineMoved a b) : b.mem.frozen = a.mem.frozen := by rw [h.mem]

/-- Where no line is read-only and the line's counter is not at its end, its write counts once. -/
theorem bumpLine_moved {d : Device} (hfrozen : d.mem.frozen = []) {c i : Nat} (hctr : d.lineCtr c i < 2 ^ 64 - 1) :
    ∃ b, d.bumpLine c i = (true, b) ∧ Bumped d b ∧ LineMoved d b := by
  obtain ⟨b, hb, hbump⟩ := bumpLine_sound hfrozen hctr
  refine ⟨b, hb, hbump, hbump.frame.mono (by unfold Sub; decide), ?_, fun k => ?_⟩
  · rw [hbump.mem]
  · have hset : b.mem.ctr = natPut d.mem.ctr (physKey c i) (d.lineCtr c i + 1) := by
      unfold bumpLine at hb
      have hnot : d.frozenLine c i = false := by
        unfold frozenLine
        rw [hfrozen]
        simp
      rw [if_neg (by simp [hnot]), if_neg (by omega)] at hb
      have hsnd := congrArg Prod.snd hb
      dsimp only at hsnd
      rw [← hsnd]
      split <;> rfl
    rw [hset, natAt_natPut]
    split
    · rename_i hk
      rw [hk]
      rfl
    · omega

theorem markPoisoned_mem (d : Device) (p was : Nat) :
    (d.markPoisoned p was).mem = { d.mem with poisoned := (d.markPoisoned p was).mem.poisoned } := by
  unfold markPoisoned
  split <;> rfl

theorem poisonedLine_markPoisoned (d : Device) (p was x : Nat) : (d.markPoisoned p was).poisonedLine x = (d.poisonedLine x || x == p) := by
  unfold markPoisoned
  split
  · rename_i h
    by_cases hx : x = p
    · subst hx
      simp [h]
    · simp [hx]
  · show (((p, was) :: d.mem.poisoned).any fun e => e.1 == x) = _
    rw [List.any_cons, Bool.or_comm]
    congr 1
    exact Bool.beq_comm

/-- A poison write of a line whose counter is not at its end. -/
theorem poisonWrite_moved {d : Device} (p cause : Nat) (hfrozen : d.mem.frozen = [])
    (hctr : d.lineCtr (d.place p).1 (d.place p).2 < 2 ^ 64 - 1) :
    LineMoved d (d.poisonWrite p cause) ∧ ∀ x, (d.poisonWrite p cause).poisonedLine x = (d.poisonedLine x || x == p) := by
  obtain ⟨e, he, hbump, hmoved⟩ := bumpLine_moved hfrozen hctr
  have hlog := loseStats_poisonLog_keeps (e.markPoisoned p (d.lineCtr (d.place p).1 (d.place p).2)) p cause
  have hmark := markPoisoned_mem e p (d.lineCtr (d.place p).1 (d.place p).2)
  have hpoisoned := poisonedLine_markPoisoned e p (d.lineCtr (d.place p).1 (d.place p).2)
  have hframe := poisonWrite_counted_keeps cause he hbump
  rw [poisonWrite_counted cause he] at hframe ⊢
  have hmem := mem_keeps hlog (by decide)
  generalize ((e.markPoisoned p (d.lineCtr (d.place p).1 (d.place p).2)).loseStats p).poisonLog (64 * p) cause = b at hframe hmem ⊢
  refine ⟨⟨hframe, ?_, fun k => ?_⟩, fun x => ?_⟩
  · rw [hmem, hmark, hmoved.mem]
  · rw [hmem, hmark]
    exact hmoved.counters k
  · rw [poisonedLine_congr (congrArg MemX.poisoned hmem), hpoisoned, poisonedLine_congr hbump.fields.2.1]

/-- The device that has noted line `p` as lost with its channel. -/
def markLost (d : Device) (p : Nat) : Device :=
  d.setMem { d.mem with poisoned := (p, 2 ^ 64) :: d.mem.poisoned.filter (fun e => e.1 != p) }

theorem poisonedLine_markLost (d : Device) (p x : Nat) : (d.markLost p).poisonedLine x = (d.poisonedLine x || x == p) := by
  show (((p, 2 ^ 64) :: d.mem.poisoned.filter (fun e => e.1 != p)).any fun e => e.1 == x) = (d.mem.poisoned.any (fun e => e.1 == x) || x == p)
  by_cases hx : x = p
  · subst hx
    simp
  · rw [List.any_cons, List.any_filter, beq_eq_false_iff_ne.2 hx, beq_eq_false_iff_ne.2 (Ne.symm hx), Bool.false_or, Bool.or_false]
    congr 1
    funext e
    by_cases he : e.1 = x
    · simp [he, hx]
    · simp [he]

/-- The line of the stripe. -/
def stripeLine (c q : Nat) : Nat := 1048576 + 4 * q + c

/-- One line is in its new place: every poison mark stays, and a line lost with the channel gets one. -/
theorem evacuateLine_moved {d : Device} (c lostFrom q : Nat) (hfrozen : d.mem.frozen = []) (hctr : ∀ k, natAt d.mem.ctr k < 2 ^ 64 - 1) :
    LineMoved d (evacuateLine c lostFrom d q) ∧
      ∀ x, (evacuateLine c lostFrom d q).poisonedLine x = (d.poisonedLine x || (decide (lostFrom ≤ q) && x == stripeLine c q)) := by
  unfold evacuateLine
  dsimp only
  by_cases hq : q < lostFrom
  · rw [if_pos hq, decide_eq_false (Nat.not_le.2 hq)]
    simp only [Bool.false_and, Bool.or_false]
    split
    · rename_i hp
      obtain ⟨hmoved, hpoisoned⟩ := poisonWrite_moved (1048576 + 4 * q + c) 1 hfrozen (hctr _)
      refine ⟨hmoved, fun x => ?_⟩
      rw [hpoisoned]
      by_cases hx : x = 1048576 + 4 * q + c
      · subst hx
        simp [hp]
      · simp [hx]
    · obtain ⟨e, he, hbump, hmoved⟩ := bumpLine_moved hfrozen (hctr (physKey (d.place (1048576 + 4 * q + c)).1 (d.place (1048576 + 4 * q + c)).2))
      rw [he]
      exact ⟨hmoved, poisonedLine_congr hbump.fields.2.1⟩
  · rw [if_neg hq, decide_eq_true (Nat.not_lt.1 hq)]
    simp only [Bool.true_and]
    have hset : Keeps [F.memRest] d (d.markLost (stripeLine c q)) := setMem_rest_keeps _ _ rfl
    obtain ⟨hmoved, hpoisoned⟩ := poisonWrite_moved (d := d.markLost (stripeLine c q)) (stripeLine c q) 4 hfrozen (hctr _)
    refine ⟨⟨(hset.mono (by unfold Sub; decide)).trans hmoved.frame, hmoved.mem.trans rfl, hmoved.counters⟩, fun x => ?_⟩
    show ((d.markLost (stripeLine c q)).poisonWrite (stripeLine c q) 4).poisonedLine x = _
    rw [hpoisoned, poisonedLine_markLost, Bool.or_assoc, Bool.or_self]

/-- What evacuating the first `n` lines of the stripe leaves. -/
structure StripeMoved (c lostFrom n : Nat) (a b : Device) : Prop where
  frame : Keeps (F.memRest :: statPlaces ++ poisonRows) a b
  mem : b.mem = { a.mem with cached := b.mem.cached, ctr := b.mem.ctr, poisoned := b.mem.poisoned }
  counters : ∀ k, natAt b.mem.ctr k ≤ natAt a.mem.ctr k + n
  poisoned : ∀ x, b.poisonedLine x = true ↔ a.poisonedLine x = true ∨ ∃ q, lostFrom ≤ q ∧ q < n ∧ x = stripeLine c q

theorem stripe_moved {d : Device} (c lostFrom : Nat) (hfrozen : d.mem.frozen = []) (hctr : ∀ k, natAt d.mem.ctr k < 2 ^ 63) :
    ∀ n, n < 2 ^ 62 → StripeMoved c lostFrom n d ((List.range n).foldl (evacuateLine c lostFrom) d)
  | 0, _ => ⟨Keeps.refl _ _, rfl, fun _ => le_rfl, fun x => by simp⟩
  | n + 1, hn => by
    obtain ⟨hframe, hmem, hcounters, hpoisoned⟩ := stripe_moved c lostFrom hfrozen hctr n (by omega)
    rw [List.range_succ, List.foldl_append, List.foldl_cons, List.foldl_nil]
    generalize (List.range n).foldl (evacuateLine c lostFrom) d = e at hframe hmem hcounters hpoisoned ⊢
    obtain ⟨hmoved, hline⟩ := evacuateLine_moved (d := e) c lostFrom n (by rw [hmem]; exact hfrozen) fun k => by
      have := hcounters k
      have := hctr k
      omega
    refine ⟨hframe.trans hmoved.frame, ?_, fun k => ?_, fun x => ?_⟩
    · rw [hmoved.mem, hmem]
    · have := hcounters k
      have := hmoved.counters k
      omega
    · rw [hline, Bool.or_eq_true, hpoisoned, Bool.and_eq_true, decide_eq_true_eq, beq_iff_eq]
      constructor
      · rintro ((h | ⟨q, hlo, hhi, hx⟩) | ⟨hlo, hx⟩)
        · exact Or.inl h
        · exact Or.inr ⟨q, hlo, by omega, hx⟩
        · exact Or.inr ⟨n, hlo, by omega, hx⟩
      · rintro (h | ⟨q, hlo, hhi, hx⟩)
        · exact Or.inl (Or.inl h)
        · by_cases hq : q = n
          · subst hq
            exact Or.inr ⟨hlo, hx⟩
          · exact Or.inl (Or.inr ⟨q, hlo, by omega, hx⟩)

/-! ### The end of the evacuation -/

/-- The channel is RETIRED, its retirement over, and nothing of it in the tree cache. -/
def evacuationEnded (d : Device) (c : Nat) : Device :=
  ((d.wr O.MEM_CH_STATE c 2).setRetiring none false).setCached
    (((d.wr O.MEM_CH_STATE c 2).setRetiring none false).mem.cached.filter (fun e => e.1 / 2 ^ 21 != c))

theorem evacuationEnded_keeps (d : Device) (c : Nat) : Keeps [O.MEM_CH_STATE, F.memRest] d (d.evacuationEnded c) :=
  setCached_keeps (by unfold Sub; decide) (setRetiring_keeps (by unfold Sub; decide) (Keeps.wr (Or.inl (by decide)) (Keeps.refl _ _)))

theorem evacuationEnded_rd (d : Device) (c o row : Nat) : (d.evacuationEnded c).rd o row = (d.wr O.MEM_CH_STATE c 2).rd o row := rfl

theorem memEvacuationDone_eq {d : Device} {c : Nat} {forced : Bool} (hretiring : d.mem.retiring = some (c, forced)) (hswitched : d.mem.switched = true)
    (hfatal : d.rd O.FLT_FATAL_SINCE_BOOT = 0) {x : Device}
    (hx : (List.range stripeLines).foldl (evacuateLine c (if forced then d.mem.copied else stripeLines)) (d.evacuationEnded c) = x) :
    d.memEvacuationDone = if x.mem.calib.any (fun e => e.1 == c) then x.endCalib c else x := by
  unfold evacuationEnded at hx
  unfold memEvacuationDone
  generalize List.range stripeLines = l at hx ⊢
  rw [hretiring]
  dsimp only
  rw [if_neg (by simp [hswitched, rdB, hfatal]), hx]

/-- The end of the calibration condition leaves all of memory but that. -/
theorem endCalib_mem (d : Device) (c : Nat) : (d.endCalib c).mem = { d.mem with calib := (d.endCalib c).mem.calib } := by
  unfold endCalib setSrcState
  split <;> rfl

/-- The device after the evacuation, with the condition of the channel's calibration ended. -/
theorem calibEnded_keeps {x y : Device} {c : Nat} (hy : y = if x.mem.calib.any (fun e => e.1 == c) then x.endCalib c else x) :
    Keeps [O.FLT_SRC_STATE, F.memRest] x y ∧ y.mem = { x.mem with calib := y.mem.calib } := by
  subst hy
  split
  · exact ⟨endCalib_keeps (by unfold Sub; decide) (Keeps.refl _ _), endCalib_mem x c⟩
  · exact ⟨Keeps.refl _ _, rfl⟩

theorem lostChannel_only {d : Device} {c : Nat} (hc : c < 4) (hstate : d.rd O.MEM_CH_STATE c = 2)
    (hothers : ∀ k, k < 4 → k ≠ c → d.rd O.MEM_CH_STATE k = 0) : d.lostChannel = some c := by
  have hfound : ∀ k, k < 4 → (d.rd O.MEM_CH_STATE k == 2) = (k == c) := fun k hk => by
    by_cases hkc : k = c
    · rw [hkc, hstate]
      simp
    · rw [hothers k hk hkc]
      simpa using hkc
  unfold lostChannel
  rw [show List.range 4 = [0, 1, 2, 3] from rfl]
  simp only [List.find?_cons, hfound 0 (by decide), hfound 1 (by decide), hfound 2 (by decide), hfound 3 (by decide)]
  interval_cases c <;> rfl

/-- What the end of an evacuation leaves. -/
structure Evacuated (c : Nat) (forced : Bool) (a b : Device) : Prop where
  state : b.rd O.MEM_CH_STATE c = 2
  retiring : b.mem.retiring = none
  lost : b.lostChannel = some c
  cells : b.mem.cells = a.mem.cells
  forcedLines : forced = true → ∀ q, a.mem.copied ≤ q → q < 983040 → b.poisonedLine (1048576 + 4 * q + c) = true
  otherLines : forced = false → ∀ p, b.poisonedLine p = a.poisonedLine p
  frame : Keeps (O.FLT_SRC_STATE :: O.MEM_CH_STATE :: F.memRest :: statPlaces ++ poisonRows) a b

theorem evacuated_of_moved {c : Nat} {forced : Bool} {d x y : Device}
    (hmoved : StripeMoved c (if forced then d.mem.copied else stripeLines) stripeLines (d.evacuationEnded c) x)
    (hy : y = if x.mem.calib.any (fun e => e.1 == c) then x.endCalib c else x) (hc : c < 4)
    (hothers : ∀ k, k < 4 → k ≠ c → d.rd O.MEM_CH_STATE k = 0) : Evacuated c forced d y := by
  obtain ⟨hframe, hmem, -, hpoisoned⟩ := hmoved
  obtain ⟨hlast, hmemlast⟩ := calibEnded_keeps hy
  have hrd : ∀ k, y.rd O.MEM_CH_STATE k = (d.wr O.MEM_CH_STATE c 2).rd O.MEM_CH_STATE k := fun k => by
    rw [hlast.objs (by decide) _ _ (by decide), hframe.objs (by decide) _ _ (by decide), evacuationEnded_rd]
  have hpoisonedlast : ∀ p, y.poisonedLine p = x.poisonedLine p := poisonedLine_congr (by rw [hmemlast])
  have hstate : y.rd O.MEM_CH_STATE c = 2 := by rw [hrd, rd_wr_self]
  refine ⟨hstate, ?_, ?_, ?_, fun hforced q hlo hhi => ?_, fun hforced p => ?_, ?_⟩
  · rw [hmemlast, hmem]
    rfl
  · refine lostChannel_only hc hstate fun k hk hkc => ?_
    rw [hrd, rd_wr_row _ _ _ (by omega), hothers k hk hkc]
  · rw [hmemlast, hmem]
    rfl
  · rw [hpoisonedlast, hpoisoned]
    exact Or.inr ⟨q, by rw [hforced]; exact hlo, hhi, rfl⟩
  · rw [hpoisonedlast, Bool.eq_iff_iff, hpoisoned, hforced]
    constructor
    · rintro (h | ⟨q, hlo, hhi, -⟩)
      · exact h
      · exact absurd hhi (Nat.not_lt.2 hlo)
    · exact Or.inl
  · exact (((evacuationEnded_keeps d c).mono (by unfold Sub; decide)).trans (hframe.mono (by unfold Sub; decide))).trans
      (hlast.mono (by unfold Sub; decide))

theorem memEvacuationDone_ends {c : Nat} {forced : Bool} {s : State} (hretiring : s.dev.mem.retiring = some (c, forced))
    (hswitched : s.dev.mem.switched = true) (hfatal : s.dev.rd O.FLT_FATAL_SINCE_BOOT = 0) (hc : c < 4)
    (hothers : ∀ k, k < 4 → k ≠ c → s.dev.rd O.MEM_CH_STATE k = 0) (hsound : MemSound s.dev) :
    ∃ t, exec .memEvacuationDone s = .next t ∧ Evacuated c forced s.dev t.dev := by
  obtain ⟨-, -, -, hfrozen, hctr⟩ := hsound
  have hmoved := stripe_moved (d := s.dev.evacuationEnded c) c (if forced then s.dev.mem.copied else stripeLines) hfrozen (fun k => (hctr k).1)
    stripeLines (by decide)
  exact ⟨{ s with dev := s.dev.memEvacuationDone }, rfl,
    evacuated_of_moved hmoved (memEvacuationDone_eq hretiring hswitched hfatal rfl) hc hothers⟩

end Device
end Sys2Proof.Machine
end

section
/-!
PROOF. The family 03_holloth_ring_and_host_port: no fault, and no access to memory, changes the classification table or a retirement.
-/
set_option Elab.async false
namespace Sys2Proof.Machine

/-- The table, what its cached copy shows, and the retirement that runs are the same. -/
structure Tabled (a b : Device) : Prop where
  table : b.clsx.table = a.clsx.table
  shown : b.clsx.shown = a.clsx.shown
  retiring : b.mem.retiring = a.mem.retiring
  switched : b.mem.switched = a.mem.switched

namespace Tabled

theorem refl (a : Device) : Tabled a a := ⟨rfl, rfl, rfl, rfl⟩

theorem trans {a b c : Device} (h : Tabled a b) (k : Tabled b c) : Tabled a c :=
  ⟨k.table.trans h.table, k.shown.trans h.shown, k.retiring.trans h.retiring, k.switched.trans h.switched⟩

/-- An operation that leaves the classifier and memory's records alone. -/
theorem of_keeps {V : List Nat} {a b : Device} (k : Keeps V a b) (hV : F.clsx ∉ V ∧ F.memRest ∉ V) : Tabled a b := by
  have hclsx : b.clsx = a.clsx := k.fields 39 hV.1
  have hrest : b.mem.rest = a.mem.rest := k.fields 47 hV.2
  exact ⟨by rw [hclsx], by rw [hclsx], (congrArg MemX.retiring hrest : b.mem.rest.retiring = a.mem.rest.retiring),
    (congrArg MemX.switched hrest : b.mem.rest.switched = a.mem.rest.switched)⟩

theorem foldl {β : Type} {f : Device → β → Device} (h : ∀ a x, Tabled a (f a x)) : ∀ (l : List β) (d : Device), Tabled d (l.foldl f d)
  | [], d => .refl d
  | x :: l, d => (h d x).trans (foldl h l (f d x))

theorem ite {c : Prop} [Decidable c] {a b e : Device} (hb : Tabled a b) (he : Tabled a e) : Tabled a (if c then b else e) := by
  split
  · exact hb
  · exact he

theorem elim {β : Type} {o : Option β} {a b : Device} {f : β → Device} (hb : Tabled a b) (hf : ∀ x, Tabled a (f x)) : Tabled a (o.elim b f) := by
  cases o with
  | none => exact hb
  | some x => exact hf x

end Tabled

namespace Device

/-! ### Messages, records and gun entries -/

theorem wr_tabled (d : Device) (o r v : Nat) : Tabled d (d.wr o r v) := ⟨rfl, rfl, rfl, rfl⟩

theorem peerSend_tabled (d : Device) (type count : Nat) (payload : Bytes) : Tabled d (d.peerSend type count payload) := by
  unfold peerSend
  split
  · exact .refl d
  · refine .ite (.refl d) ?_
    dsimp only
    split <;> split <;> exact ⟨rfl, rfl, rfl, rfl⟩

theorem gunAnnouncePeer_tabled (d : Device) (op e : Nat) : Tabled d (d.gunAnnouncePeer op e) := by
  unfold gunAnnouncePeer
  exact .ite (peerSend_tabled _ _ _ _) (.refl d)

theorem gunDrop_tabled (d : Device) (e : Nat) : Tabled d (d.gunDrop e) := by
  unfold gunDrop
  exact (Tabled.ite (wr_tabled d _ _ _) (.refl d)).trans (wr_tabled _ _ _ _)

theorem setGroup_tabled (d : Device) (g : Nat) (x : GroupX) : Tabled d (d.setGroup g x) := ⟨rfl, rfl, rfl, rfl⟩

theorem groupOverruledUnsent_tabled (d : Device) (g : Nat) : Tabled d (d.groupOverruledUnsent g) := by
  unfold groupOverruledUnsent
  have hentry : Tabled d ((d.groupOf g).entry.elim d (fun e => if d.gunStops e then ((d.gunDrop e).gunAnnouncePeer 3 e).gunFree e else d)) :=
    .elim (.refl d) fun e => .ite (((gunDrop_tabled d e).trans (gunAnnouncePeer_tabled _ 3 e)).trans (wr_tabled _ _ _ _)) (.refl d)
  exact ((hentry.trans (setGroup_tabled _ _ _)).trans (wr_tabled _ _ _ _)).trans
    (.of_keeps (noteUnsent_keeps (fun _ h => h) (Keeps.refl Touch.noteUnsent _)) (by decide))

theorem closeRow_tabled (d : Device) (row : Nat) : Tabled d (d.closeRow row) :=
  .of_keeps (closeRow_keeps (fun _ h => h) (Keeps.refl Touch.closeRow _)) (by decide)

theorem closeSpent_tabled (d : Device) (row : Nat) : Tabled d (d.closeSpent row) :=
  (Tabled.foldl groupOverruledUnsent_tabled _ d).trans (closeRow_tabled _ _)

theorem ringEvent_tabled (d : Device) (type : Nat) (payload : Bytes) : Tabled d (d.ringEvent type payload) := by
  unfold ringEvent
  split
  · exact .refl d
  · exact .ite (.refl d) (.ite (closeSpent_tabled _ _) ⟨rfl, rfl, rfl, rfl⟩)

theorem eventRingQueue_tabled (rcd : Bytes) (d : Device) (n : Nat) : Tabled d (eventRingQueue rcd d n) :=
  .of_keeps (eventRingQueue_keeps (fun _ h => h) (Keeps.refl Touch.eventRingQueue _)) (by decide)

theorem deliver_tabled (d : Device) (rcd : Bytes) : Tabled d (d.deliver rcd) := by
  unfold deliver
  generalize List.range 64 = l
  exact (Tabled.foldl (eventRingQueue_tabled rcd) _ d).trans (ringEvent_tabled _ _ _)

theorem logRecord_tabled (d : Device) (src cls kind : Nat) (r64 : Bytes) : Tabled d (d.logRecord src cls kind r64) :=
  .of_keeps (logRecord_keeps (fun _ h => h) (Keeps.refl Touch.logRecord _)) (by decide)

theorem writeRecord_tabled (d : Device) (src code cls base kind flags reaction window : Nat) (detail : Bytes) :
    Tabled d (d.writeRecord src code cls base kind flags reaction window detail) := by
  unfold writeRecord
  exact (logRecord_tabled d src cls kind _).trans (.ite (deliver_tabled _ _) (.refl _))

theorem addEvent_tabled (d : Device) (src : Nat) : Tabled d (d.addEvent src) := ⟨rfl, rfl, rfl, rfl⟩

theorem note_tabled (d : Device) (src code : Nat) (detail : Bytes) : Tabled d (d.note src code detail) := by
  unfold note
  exact .ite (.refl d) ((addEvent_tabled d src).trans (writeRecord_tabled _ _ _ _ _ _ _ _ _ _))

theorem gunAnnounce_tabled (d : Device) (op e : Nat) : Tabled d (d.gunAnnounce op e) := by
  unfold gunAnnounce
  refine .ite (.refl d) ?_
  exact (Tabled.ite (ringEvent_tabled d _ _) (.refl d)).trans (.ite (peerSend_tabled _ _ _ _) (.refl _))

theorem gunCancel_tabled (d : Device) (e : Nat) : Tabled d (d.gunCancel e) := by
  unfold gunCancel gunCancelNow
  exact .ite (((gunDrop_tabled d e).trans (gunAnnounce_tabled _ _ _)).trans (wr_tabled _ _ _ _)) (.refl d)

theorem groupOverruled_tabled (d : Device) (g : Nat) : Tabled d (d.groupOverruled g) := by
  unfold groupOverruled groupCancelled
  have hentry : Tabled d (match (d.groupOf g).entry with | some e => d.gunCancel e | none => d) := by
    split
    · exact gunCancel_tabled _ _
    · exact .refl d
  exact ((hentry.trans (setGroup_tabled _ _ _)).trans (wr_tabled _ _ _ _)).trans (note_tabled _ _ _ _)

theorem touch_tabled (d : Device) (o r : Nat) : Tabled d (d.touch o r) := Tabled.foldl groupOverruled_tabled _ d

theorem wrCmd_tabled (d : Device) (o r v : Nat) : Tabled d (d.wrCmd o r v) := by
  unfold wrCmd
  exact .ite (.refl d) ((touch_tabled d o r).trans (wr_tabled _ _ _ _))

/-! ### Sessions and keys -/

theorem closeSession_tabled (d : Device) (row : Nat) : Tabled d (d.closeSession row) := by
  have htouch : Tabled d ((d.closeChanges row).foldl (fun d e => d.touch e.1 e.2) d) :=
    Tabled.foldl (fun a (e : Nat × Nat) => touch_tabled a e.1 e.2) _ d
  unfold closeSession
  split
  · exact .refl d
  · exact htouch.trans (closeRow_tabled _ row)

theorem closeSessions_tabled (d : Device) (lo hi : Nat) : Tabled d (d.closeSessions lo hi) := by
  unfold closeSessions
  exact Tabled.foldl closeSession_tabled _ d

theorem zeroSlot_tabled (d : Device) (k : Nat) : Tabled d (d.zeroSlot k) := by
  unfold zeroSlot
  have hrefs : Tabled d (d.clearRefs k) := Tabled.foldl (fun a e => wrCmd_tabled a _ _ _) _ d
  exact .ite (.refl d) ((hrefs.trans (.of_keeps (setVault_keeps (fun _ h => h) (Keeps.refl Touch.setVault _)) (by decide))).trans
    (.of_keeps (clearSlotObjs_keeps (fun _ h => h) (Keeps.refl Touch.clearSlotObjs _)) (by decide)))

theorem zeroSa_tabled (d : Device) (pr : Nat) : Tabled d (d.zeroSa pr) := by
  unfold zeroSa
  refine .ite (.refl d) ?_
  have hgun : Tabled d ((d.saGun pr).elim d (fun e => (d.gunCancel e).wrBit O.SA_FLAGS pr 4 true)) :=
    .elim (.refl d) fun e => (gunCancel_tabled d e).trans (wr_tabled _ _ _ _)
  have hframes := hgun.trans (Tabled.foldl (fun a f => .of_keeps (discardZeroed_keeps (f := f) (fun _ h => h) (Keeps.refl Touch.discardZeroed a))
    (by decide)) (List.filter (holdsSa ((d.saGun pr).elim d (fun e => (d.gunCancel e).wrBit O.SA_FLAGS pr 4 true)) pr)
    ((d.saGun pr).elim d (fun e => (d.gunCancel e).wrBit O.SA_FLAGS pr 4 true)).pipe.frames) _)
  dsimp only at hframes ⊢
  generalize List.foldl discardZeroed _ _ = x at hframes ⊢
  have hslots := hframes.trans (Tabled.foldl (f := freeSlotOf pr) (fun a s => .of_keeps (freeSlotOf_keeps (fun _ h => h) (Keeps.refl Touch.freeSlotOf a)) (by decide))
    (x.slotsOf pr) x)
  generalize List.foldl (freeSlotOf pr) x (x.slotsOf pr) = y at hslots ⊢
  have hstate : Tabled d (((y.setRec pr SaRec.empty).clearStats pr).setSaState pr 0) :=
    hslots.trans (.of_keeps (setSaState_keeps (by unfold Sub; decide) (clearStats_keeps (by unfold Sub; decide)
      (setRec_keeps (by unfold Sub; decide) (Keeps.refl (Touch.setSaState ++ Touch.clearStats ++ Touch.setRec) y)))) (by decide))
  exact (hstate.trans (.ite (wr_tabled _ _ _ _) (.refl _))).trans
    (.of_keeps (refreshSc_keeps (fun _ h => h) (Keeps.refl Touch.refreshSc _)) (by decide))

theorem zeroAll_tabled (d : Device) : Tabled d d.zeroAll :=
  ((Tabled.foldl zeroSa_tabled _ d).trans (Tabled.foldl zeroSlot_tabled _ _)).trans (closeSessions_tabled _ _ _)

/-! ### The reactions of a fault -/

theorem enterSafe_tabled (d : Device) : Tabled d d.enterSafe := by
  unfold enterSafe
  have hmode : Tabled d d.overruleMode := .of_keeps (overruleMode_keeps (fun _ h => h) (Keeps.refl Touch.overruleMode _)) (by decide)
  have hdrain : Tabled d.overruleMode (d.overruleMode.drainStops.elim d.overruleMode
      (fun e => (d.overruleMode.gunCancel e).note 0x0204 0x0B00 (leBytes 4 e))) :=
    .elim (.refl _) fun e => (gunCancel_tabled _ e).trans (note_tabled _ _ _ _)
  exact (hmode.trans hdrain).trans (.of_keeps (enterMode_keeps (by unfold Sub; decide) (stopFrames_keeps (by unfold Sub; decide)
    (muteWindows_keeps (by unfold Sub; decide) (Keeps.refl (Touch.enterMode ++ Touch.stopFrames ++ Touch.muteWindows) _)))) (by decide))

theorem zeroReport_tabled (d : Device) (e : Nat × Bool × List Nat) : Tabled d (d.zeroReport e) := by
  unfold zeroReport
  exact (wr_tabled d _ _ _).trans (.ite (closeSessions_tabled _ _ _) (.refl _))

theorem setLa_tabled (d : Device) (x : LaX) : Tabled d (d.setLa x) := ⟨rfl, rfl, rfl, rfl⟩

theorem jobGone_tabled (d : Device) (n : Nat) : Tabled d (d.jobGone n) :=
  (setLa_tabled d _).trans (Tabled.foldl zeroReport_tabled _ _)

theorem stopJobs_tabled (d : Device) : Tabled d d.stopJobs := by
  unfold stopJobs
  have hgone := ((setLa_tabled d { d.la with jobs := [] }).trans (wr_tabled _ O.LA_CONTEXTS_BUSY 0 0)).trans
    (Tabled.foldl jobGone_tabled (d.la.jobs.map LaJob.ring) _)
  exact hgone.trans (Tabled.foldl (fun a j => .of_keeps (dmaFinish_keeps (fun _ h => h) (Keeps.refl Touch.dmaFinish a)) (by decide)) _ _)

theorem fatalZeroize_tabled (d : Device) : Tabled d d.fatalZeroize := by
  unfold fatalZeroize
  have hrebuild : Tabled d d.noRebuild := ⟨rfl, rfl, rfl, rfl⟩
  have hkeys := (hrebuild.trans (stopJobs_tabled _)).trans (zeroAll_tabled _)
  have hboot : ∀ x : Device, Tabled x x.zeroPerBoot := fun _ => ⟨rfl, rfl, rfl, rfl⟩
  have hbanks : ∀ x : Device, Tabled x (x.clearBanks (fun _ => true)) := fun x =>
    .of_keeps (clearBanks_keeps (fun _ h => h) (Keeps.refl Touch.clearBanks _)) (by decide)
  exact ((hkeys.trans (hboot _)).trans (hbanks _)).trans (wr_tabled _ _ _ _)

theorem react_tabled (d : Device) (cls : Nat) : Tabled d (d.react cls) := by
  unfold react
  exact (Tabled.ite (enterSafe_tabled d) (.refl d)).trans (.ite (fatalZeroize_tabled _) (.refl _))

theorem latch_tabled (d : Device) (src cls : Nat) : Tabled d (d.latch src cls) :=
  .of_keeps (latch_keeps (fun _ h => h) (Keeps.refl Touch.latch _)) (by decide)

theorem fault_tabled (d : Device) (src code base : Nat) (detail : Bytes) : Tabled d (d.fault src code base detail) := by
  unfold fault
  refine .ite (.refl d) ?_
  exact ((addEvent_tabled d src).trans (writeRecord_tabled _ _ _ _ _ _ _ _ _ _)).trans (.ite ((latch_tabled _ _ _).trans (react_tabled _ _)) (.refl _))

/-! ### Accesses to memory -/

theorem inc_tabled (d : Device) (o r : Nat) : Tabled d (d.inc64 o r) ∧ Tabled d (d.inc32 o r) := ⟨⟨rfl, rfl, rfl, rfl⟩, ⟨rfl, rfl, rfl, rfl⟩⟩

theorem memNodeFail_tabled (d : Device) (c off : Nat) : Tabled d (d.memNodeFail c off) := (inc_tabled d _ _).2.trans (fault_tabled _ _ _ _ _)

theorem tagFail_tabled (d : Device) (p : Nat) : Tabled d (d.tagFail p) := (inc_tabled d _ _).1.trans (fault_tabled _ _ _ _ _)

theorem counterEnd_tabled (d : Device) (c k : Nat) : Tabled d (d.counterEnd c k) := by
  have hset : Tabled d (d.setMem { d.mem with frozen := k :: d.mem.frozen }) := ⟨rfl, rfl, rfl, rfl⟩
  exact (hset.trans (inc_tabled _ _ _).2).trans (fault_tabled _ _ _ _ _)

theorem cacheNode_tabled (d : Device) (k : Nat) (dirty : Bool) : Tabled d (d.cacheNode k dirty) := ⟨rfl, rfl, rfl, rfl⟩

theorem fetchNodes_tabled : ∀ (k c n : Nat) (d : Device), Tabled d (fetchNodes k c n d)
  | 0, _, _, d => .refl d
  | k + 1, c, n, d => by
    unfold fetchNodes
    refine .ite (.refl d) ?_
    exact (Tabled.elim (.refl d) fun m => fetchNodes_tabled k c m d).trans (cacheNode_tabled _ _ _)

theorem nodeWriteBack_tabled (d : Device) (c n : Nat) : Tabled d (d.nodeWriteBack c n) := by
  unfold nodeWriteBack
  refine .ite (counterEnd_tabled _ _ _) ?_
  have hset : Tabled d (d.setMem { d.mem with
        nodeCtr := natPut d.mem.nodeCtr (physKey c n) (natAt d.mem.nodeCtr (physKey c n) + 1)
        badNodes := d.mem.badNodes.filter (· != physKey c n) }) := ⟨rfl, rfl, rfl, rfl⟩
  exact hset.trans (.elim (.refl _) fun m => (fetchNodes_tabled 6 c m _).trans (cacheNode_tabled _ _ _))

theorem evictNode_tabled (d : Device) (c n : Nat) : Tabled d (d.evictNode c n) := by
  have hset : Tabled d (d.setCached (d.mem.cached.filter (fun e => e.1 != physKey c n))) := ⟨rfl, rfl, rfl, rfl⟩
  unfold evictNode
  exact hset.trans (.ite (nodeWriteBack_tabled _ _ _) (.refl _))

theorem trimTo_tabled : ∀ (k : Nat) (d : Device), Tabled d (trimTo k d)
  | 0, d => .refl d
  | k + 1, d => by
    unfold trimTo
    refine .ite (.refl d) ?_
    split
    · exact .refl d
    · exact (evictNode_tabled _ _ _).trans (trimTo_tabled k _)

theorem walkUp_tabled : ∀ (k c n : Nat) (d : Device), Tabled d (walkUp k c n d)
  | 0, _, _, d => .refl d
  | k + 1, c, n, d => by
    unfold walkUp
    refine .ite (.refl d) ?_
    exact ((Tabled.elim (.refl d) fun m => walkUp_tabled k c m d).trans (cacheNode_tabled _ _ _)).trans (trimTo_tabled _ _)

theorem pmcHub_tabled (d : Device) (code k : Nat) (pass : Device → Nat → Bool) : Tabled d (d.pmcHub code k pass) :=
  .of_keeps (pmcHub_keeps (fun _ h => h) (Keeps.refl Touch.pmcHub _)) (by decide)

theorem fetchCounter_tabled (d : Device) (c i off : Nat) : Tabled d (d.fetchCounter c i off) := by
  unfold fetchCounter
  refine .ite ((inc_tabled d _ _).1.trans (.ite (.refl _) (cacheNode_tabled _ _ _))) ?_
  exact ((inc_tabled d _ _).1.trans (pmcHub_tabled _ _ _ _)).trans (walkUp_tabled _ _ _ _)

theorem bumpLine_tabled (d : Device) (c i : Nat) : Tabled d (d.bumpLine c i).2 := by
  unfold bumpLine
  split
  · exact .refl d
  split
  · exact counterEnd_tabled _ _ _
  · exact .ite ⟨rfl, rfl, rfl, rfl⟩ ⟨rfl, rfl, rfl, rfl⟩

theorem poisonWrite_tabled (d : Device) (p cause : Nat) : Tabled d (d.poisonWrite p cause) := by
  have hlog : ∀ x : Device, Tabled x ((x.loseStats p).poisonLog (64 * p) cause) := fun x => .of_keeps (loseStats_poisonLog_keeps x p cause) (by decide)
  have hbump := bumpLine_tabled d (d.place p).1 (d.place p).2
  unfold poisonWrite
  refine .ite hbump ((hbump.trans (.ite (.refl _) ?_)).trans (hlog _))
  exact ⟨rfl, rfl, rfl, rfl⟩

theorem readLine_tabled (d : Device) (p : Nat) : Tabled d (d.readLine p).2 := by
  unfold readLine
  split
  · exact .refl d
  split
  · exact memNodeFail_tabled _ _ _
  dsimp only
  split
  · exact ((fetchCounter_tabled _ _ _ _).trans (poisonWrite_tabled _ _ _)).trans (tagFail_tabled _ _)
  · exact fetchCounter_tabled _ _ _ _

theorem fullLine_tabled (d : Device) (p : Nat) : Tabled d (d.fullLine p).2 := by
  have hbump := (fetchCounter_tabled d (d.place p).1 (d.place p).2 (64 * p)).trans (bumpLine_tabled _ (d.place p).1 (d.place p).2)
  unfold fullLine
  dsimp only
  split
  · exact memNodeFail_tabled _ _ _
  split
  · exact hbump.trans ⟨rfl, rfl, rfl, rfl⟩
  · exact hbump

end Device
end Sys2Proof.Machine
end

section
/-!
PROOF. The family 03_holloth_ring_and_host_port: the end of a rehash (R331). The new table holds what was inserted, and a learned entry
is inserted with the stamp of the present second.
-/
set_option Elab.async false
namespace Sys2Proof.Machine

/-! ### The fields of a result -/

theorem resStamp_withStamp (r : Nat) {n : Nat} (h : n < 65536) : resStamp (withStamp r n) = n := by
  unfold withStamp resStamp bits
  rw [Nat.shiftRight_zero, Nat.shiftRight_zero, show (2 : Nat) ^ 16 = 65536 from rfl]
  omega

theorem resKind_protectResult (kind cls egress sc ca stamp : Nat) : resKind (protectResult kind cls egress sc ca stamp) = kind % 4 := by
  unfold resKind protectResult bits
  rw [Nat.shiftRight_eq_div_pow]
  norm_num
  omega

theorem empty_not_learned : ClsEnt.empty.learned = false := by decide

namespace Device

/-- Every learned entry has stamp `n`, no cached copy shows anything else, and the table in force is the new one. -/
structure Dated (n : Nat) (r : Option (Nat × Bool)) (d : Device) : Prop where
  stamps : ∀ p, (d.way p).learned = true → resStamp (d.way p).result = n
  shown : ∀ p, natAt d.clsx.shown p = 0
  retiring : d.mem.retiring = r
  switched : d.mem.switched = true

/-- An entry that may stand in such a table. -/
def StampedBy (n : Nat) (e : ClsEnt) : Prop := e.learned = true → resStamp e.result = n

variable {n : Nat} {r : Option (Nat × Bool)}

theorem Dated.tabled {a b : Device} (h : Dated n r a) (k : Tabled a b) : Dated n r b := by
  have hway : ∀ p, b.way p = a.way p := fun p => by
    unfold way
    rw [k.table]
  exact ⟨fun p hp => by rw [hway] at hp ⊢; exact h.stamps p hp, fun p => by rw [k.shown, h.shown], k.retiring.trans h.retiring,
    k.switched.trans h.switched⟩

theorem Dated.wayNow {d : Device} (h : Dated n r d) (p : Nat) : d.wayNow p = d.way p := by
  unfold Device.wayNow shownResult
  rw [if_pos (h.shown p)]

theorem Dated.entry {d : Device} (h : Dated n r d) (p : Nat) : StampedBy n (d.wayNow p) := fun hl => by
  rw [h.wayNow] at hl ⊢
  exact h.stamps p hl

theorem Dated.foldl {β : Type} {f : Device → β → Device} (l : List β) (h : ∀ d, Dated n r d → ∀ x ∈ l, Dated n r (f d x)) :
    ∀ {d : Device}, Dated n r d → Dated n r (l.foldl f d) := by
  induction l with
  | nil => exact fun hd => hd
  | cons x l ih => exact fun hd => ih (fun d hd y hy => h d hd y (List.mem_cons_of_mem _ hy)) (h _ hd x List.mem_cons_self)

/-! ### One entry is written -/

theorem countEntry_tabled (e : ClsEnt) (d : Device) : Tabled d (countEntry e d) ∧ Tabled d (uncountEntry e d) := by
  unfold countEntry uncountEntry
  exact ⟨.ite (.refl d) (.ite ⟨rfl, rfl, rfl, rfl⟩ ⟨rfl, rfl, rfl, rfl⟩), .ite (.refl d) (.ite ⟨rfl, rfl, rfl, rfl⟩ ⟨rfl, rfl, rfl, rfl⟩)⟩

theorem way_setWay (d : Device) (pos : Nat) (e : ClsEnt) (p : Nat) : (d.setWay pos e).way p = if p = pos then e else d.way p := by
  have htable : (d.setWay pos e).clsx.table = Sparse.put (fun _ => ClsEnt.empty) d.clsx.table pos e := by
    have hcounted := (countEntry_tabled (d.way pos) d).2.trans (countEntry_tabled e (uncountEntry (d.way pos) d)).1
    unfold setWay
    rw [← hcounted.table]
    rfl
  unfold way
  rw [htable]
  split
  · rename_i h
    rw [h, Sparse.get_put_self]
  · rename_i h
    exact Sparse.get_put_ne _ _ h _

/-- Writing an entry changes the table alone of what a rehash looks at. -/
theorem setWay_rest (d : Device) (pos : Nat) (e : ClsEnt) :
    (d.setWay pos e).clsx.shown = d.clsx.shown ∧ (d.setWay pos e).mem.retiring = d.mem.retiring ∧ (d.setWay pos e).mem.switched = d.mem.switched := by
  obtain ⟨-, hshown, hretiring, hswitched⟩ :=
    (countEntry_tabled (d.way pos) d).2.trans (countEntry_tabled e (uncountEntry (d.way pos) d)).1
  exact ⟨hshown, hretiring, hswitched⟩

theorem Dated.setWay {d : Device} (h : Dated n r d) (pos : Nat) {e : ClsEnt} (he : StampedBy n e) : Dated n r (d.setWay pos e) := by
  obtain ⟨hshown, hretiring, hswitched⟩ := setWay_rest d pos e
  refine ⟨fun p hp => ?_, fun p => by rw [hshown, h.shown], hretiring.trans h.retiring, hswitched.trans h.switched⟩
  rw [way_setWay] at hp ⊢
  split at hp
  · rw [if_pos ‹_›]
    exact he hp
  · rw [if_neg ‹_›]
    exact h.stamps p hp

theorem Dated.syncWay {d : Device} (h : Dated n r d) (pos : Nat) : Dated n r (d.syncWay pos) := by
  unfold Device.syncWay
  rwa [if_pos (h.shown pos)]

theorem Dated.setShown {d : Device} (h : Dated n r d) (pos : Nat) : Dated n r (d.setShown pos 0) := by
  refine ⟨h.stamps, fun p => ?_, h.retiring, h.switched⟩
  show natAt (natPut d.clsx.shown pos 0) p = 0
  rw [natAt_natPut, h.shown]
  simp

theorem Dated.writeWay {d : Device} (h : Dated n r d) (pos : Nat) {e : ClsEnt} (he : StampedBy n e) : Dated n r (d.writeWay pos e).2 := by
  have hline := h.tabled (fullLine_tabled d (wayLine pos))
  have hstale : ∀ x : Device, Tabled x (x.staleReads (pos / 4)) := fun _ => ⟨rfl, rfl, rfl, rfl⟩
  unfold Device.writeWay
  dsimp only
  split
  · exact ((((hline.syncWay _).syncWay _).setWay pos he).setShown pos).tabled (hstale _)
  · exact hline

theorem stampedBy_empty : StampedBy n ClsEnt.empty := fun h => absurd (h.symm.trans empty_not_learned) (by decide)

/-! ### One entry is inserted -/

theorem engineRead_tabled (d : Device) (b : Nat) : Tabled d (d.engineRead b).2 := by
  unfold engineRead
  split
  · exact .refl d
  · exact (readLine_tabled _ _).trans (readLine_tabled _ _)

theorem draw_tabled (d : Device) : Tabled d d.draw.2 := ⟨rfl, rfl, rfl, rfl⟩

theorem walk_tabled : ∀ (k b : Nat) (prev : Option Nat) (path : List (Nat × Nat)) (d : Device), Tabled d (walk k b prev path d).2
  | 0, _, _, _, d => .refl d
  | k + 1, b, prev, path, d => by
    unfold walk
    split
    · exact .refl d
    · rename_i p _
      have hread := (draw_tabled d).trans (engineRead_tabled d.draw.2 (d.otherBucket (d.way p).key b))
      dsimp only
      split
      · exact hread
      split
      · exact hread
      · exact hread.trans (walk_tabled k _ _ _ _)

theorem victim_tabled (d : Device) (c : Nat × Nat) : Tabled d (d.victim c).2 := by
  unfold victim
  dsimp only
  split
  · exact draw_tabled d
  · exact .refl d

theorem plan_tabled (d : Device) (key : Nat) : Tabled d (d.plan key).2 := by
  have hreads : Tabled d (d.engineReads key).2 := (engineRead_tabled _ _).trans (engineRead_tabled _ _)
  unfold plan
  dsimp only
  split
  · exact hreads
  split
  · exact hreads
  have hwalk := hreads.trans (walk_tabled 8 (d.candidates key).1 none [] (d.engineReads key).2)
  split
  · exact hwalk
  · exact hwalk.trans (victim_tabled _ _)

theorem lookupUnits_tabled (d : Device) (b k : Nat) : Tabled d (d.lookupUnits b k) := pmcHub_tabled d 0x43 k (passAddr (128 * b))

theorem Dated.moveEntry {x : Bool × Device} (h : Dated n r x.2) (m : Nat × Nat) : Dated n r (moveEntry x m).2 := by
  unfold Device.moveEntry
  dsimp only
  split
  · exact h
  split
  · exact h
  rename_i q _
  have hcopied := h.writeWay q (h.entry m.1)
  split
  · exact hcopied
  · exact ((hcopied.tabled (inc_tabled _ O.CLS_MOVES 0).1).tabled (lookupUnits_tabled _ _ _)).writeWay m.1 stampedBy_empty

theorem Dated.moves : ∀ (l : List (Nat × Nat)) {x : Bool × Device}, Dated n r x.2 → Dated n r (l.foldl Device.moveEntry x).2
  | [], _, h => h
  | m :: l, _, h => Dated.moves l (h.moveEntry m)

theorem evictAt_tabled (d : Device) (pos key : Nat) : Tabled d (d.evictAt pos key) := by
  unfold evictAt
  exact .ite (inc_tabled _ _ _).1 (.refl d)

theorem Dated.insert {d : Device} (h : Dated n r d) {e : ClsEnt} (he : StampedBy n e) : Dated n r (d.insert e).2 := by
  have hplan := h.tabled (plan_tabled d e.key)
  unfold Device.insert
  dsimp only
  split
  · exact hplan
  rename_i t _
  have hmoved := Dated.moves t.1.reverse (x := (true, (d.plan e.key).2)) hplan
  generalize t.1.reverse.foldl Device.moveEntry (true, (d.plan e.key).2) = m at hmoved ⊢
  split
  · exact hmoved
  have hwritten := ((hmoved.tabled (evictAt_tabled _ t.2 e.key)).tabled (lookupUnits_tabled _ (m.2.candidates e.key).1 3)).writeWay t.2 he
  split
  · exact hwritten.tabled (inc_tabled _ _ _).1
  · exact hwritten

/-! ### Entries of the old table -/

theorem rehashLose_tabled (d : Device) (e : ClsEnt) : Tabled d (d.rehashLose e) := by
  unfold rehashLose
  exact .ite (inc_tabled _ _ _).2 (.ite (wr_tabled _ _ _ _) (.refl d))

theorem rehashEnt_stamped {d : Device} (h : d.now16 = n) (e : ClsEnt) : StampedBy n (d.rehashEnt e) := fun hl => by
  unfold rehashEnt at hl ⊢
  split at hl
  · rw [if_pos ‹_›]
    exact (resStamp_withStamp _ (by unfold now16; omega)).trans h
  · contradiction

theorem Dated.rehashPut {d : Device} (h : Dated n r d) (hnow : d.now16 = n) (e : ClsEnt) : Dated n r (d.rehashPut e) := by
  have hinsert := h.insert (rehashEnt_stamped hnow e)
  unfold Device.rehashPut
  dsimp only
  split
  · exact hinsert
  · exact hinsert.tabled (rehashLose_tabled _ _)

theorem rxscEnt_stamped (d : Device) (sc : Nat) : StampedBy n (d.rxscEnt sc) := fun hl => by
  have hkind : resKind (d.rxscEnt sc).result = 2 := resKind_protectResult _ _ _ _ _ _
  unfold ClsEnt.learned at hl
  rw [hkind] at hl
  simp at hl

theorem Dated.rehashAgain {d : Device} (h : Dated n r d) (e : ClsEnt) : Dated n r (d.rehashAgain e) := by
  unfold Device.rehashAgain
  dsimp only
  split
  · exact (h.insert (rxscEnt_stamped d _)).tabled (wr_tabled _ _ _ _)
  · exact h.tabled (rehashLose_tabled _ _)

/-! ### The switch -/

theorem rehashRead_tabled (lost : Option Nat) (acc : List Nat × Device) (b : Nat) : Tabled acc.2 (rehashRead lost acc b).2 := by
  unfold rehashRead
  split
  · exact .refl _
  · exact (readLine_tabled _ _).trans (readLine_tabled _ _)

theorem rehashReads_tabled (lost : Option Nat) : ∀ (l : List Nat) (acc : List Nat × Device), Tabled acc.2 (l.foldl (rehashRead lost) acc).2
  | [], acc => .refl acc.2
  | b :: l, acc => (rehashRead_tabled lost acc b).trans (rehashReads_tabled lost l _)

/-- Emptying ways one after another empties them, and no other. -/
theorem way_emptied (p : Nat) : ∀ (l : List Nat) (d : Device),
    (l.foldl (fun d q => d.setWay q ClsEnt.empty) d).way p = if p ∈ l then ClsEnt.empty else d.way p
  | [], d => by simp
  | q :: l, d => by
    rw [List.foldl_cons, way_emptied p l, way_setWay]
    by_cases hq : p = q
    · simp [hq]
    · simp [hq]

/-- A position that the table does not list is empty. -/
theorem way_unlisted {d : Device} {p : Nat} (h : p ∉ d.clsx.table.map (·.1)) : d.way p = ClsEnt.empty := by
  unfold way
  generalize d.clsx.table = l at h ⊢
  induction l with
  | nil => rfl
  | cons e l ih =>
    rw [List.map_cons, List.mem_cons, not_or] at h
    rw [Sparse.get_cons, if_neg (Ne.symm h.1)]
    exact ih h.2

theorem emptied_rest : ∀ (l : List Nat) (d : Device),
    (l.foldl (fun d q => d.setWay q ClsEnt.empty) d).mem.retiring = d.mem.retiring
  | [], _ => rfl
  | q :: l, d => (emptied_rest l _).trans (setWay_rest d q ClsEnt.empty).2.1

/-- The device with its aging scan at visit `k`, and every listed way emptied. -/
def withEmptyTable (d : Device) (k : Nat) : Device :=
  ((d.setScan k).clsx.table.map (·.1)).foldl (fun d p => d.setWay p ClsEnt.empty) (d.setScan k)

/-- The new table is in force, with nothing cached of it. -/
def newInForce (d : Device) : Device :=
  let d := (d.setCls { d.clsx with cache := [], shown := [] }).setMem { d.mem with switched := true }
  d.setPipe { d.pipe with frames := d.pipe.frames.map d.oldRead }

theorem switchTable_eq (d : Device) : ∃ k, d.switchTable = (d.withEmptyTable k).newInForce := ⟨_, rfl⟩

theorem way_withEmptyTable (d : Device) (k p : Nat) : (d.withEmptyTable k).way p = ClsEnt.empty := by
  unfold withEmptyTable
  rw [way_emptied]
  split
  · rfl
  · exact way_unlisted ‹_›

theorem newInForce_dated {e : Device} (hway : ∀ p, e.way p = ClsEnt.empty) (h : e.mem.retiring = r) : Dated n r e.newInForce := by
  have hsame : ∀ p, e.newInForce.way p = e.way p := fun _ => rfl
  refine ⟨fun p hp => ?_, fun p => rfl, h, rfl⟩
  rw [hsame, hway, empty_not_learned] at hp
  cases hp

/-- The table in force is the new one, and it is empty. -/
theorem switchTable_dated {d : Device} (h : d.mem.retiring = r) : Dated n r d.switchTable := by
  obtain ⟨k, hk⟩ := switchTable_eq d
  have hretiring : (d.withEmptyTable k).mem.retiring = r := (emptied_rest _ (d.setScan k)).trans h
  have hway := way_withEmptyTable d k
  rw [hk]
  generalize d.withEmptyTable k = e at hretiring hway
  exact newInForce_dated hway hretiring

/-- What a rehash leaves: the buckets read, the entries of the old table it could read and those it lost, and the inserts. -/
theorem memRehashSwitch_shape {d : Device} {c : Nat} {forced : Bool} (hretiring : d.mem.retiring = some (c, forced)) (hswitched : d.mem.switched = false)
    (hfatal : d.rd O.FLT_FATAL_SINCE_BOOT = 0) (hjobs : d.clsx.jobs = []) :
    ∃ (buckets : List Nat) (good lost : List ClsEnt), d.memRehashSwitch =
      lost.foldl (if forced then Device.rehashAgain else Device.rehashLose) (good.foldl Device.rehashPut
        (((buckets.foldl (rehashRead (if forced then some c else none)) ([], d.setInserts [])).2.switchTable).wr O.MEM_REHASH_DONE 0 524288)) := by
  have hdrain : d.drainJobs = d.setInserts [] := by
    unfold drainJobs
    rw [hjobs]
    rfl
  unfold memRehashSwitch
  generalize List.range 524288 = buckets
  rw [hretiring]
  dsimp only
  rw [if_neg (by simp [hswitched, rdB, hfatal]), hdrain]
  cases forced
  · simp only [Bool.false_eq_true, if_false]
    exact ⟨buckets, _, _, rfl⟩
  · simp only [if_true]
    exact ⟨buckets, _, _, rfl⟩

/-! ### The end of the rehash -/

/-- What the end of a rehash changes besides MEM_REHASH_DONE. -/
def rehashPlaces : List Nat :=
  O.CLS_ENTRIES :: O.CLS_EVICTIONS :: O.CLS_INSERTS :: O.CLS_MOVES :: O.LEARN_ENTRIES :: O.MEM_REHASH_LOST :: O.MEM_TAG_FAILS ::
    O.MEM_CTR_READONLY :: O.MEM_NODE_FAILS :: O.RXSC_ENTRY :: F.draws :: F.pipe :: poisonRows ++ memUsed ++ faulting

theorem now16_keeps {V : List Nat} {a b : Device} (k : Keeps V a b) (hV : F.clk ∉ V) : b.now16 = a.now16 := by
  have hclk : b.clk = a.clk := k.fields 5 hV
  unfold now16 phcSecond phc
  rw [hclk]

theorem rehashReads_keeps (lost : Option Nat) : ∀ (l : List Nat) (acc : List Nat × Device), Keeps rehashPlaces acc.2 (l.foldl (rehashRead lost) acc).2
  | [], acc => Keeps.refl _ acc.2
  | b :: l, acc => (rehashRead_keeps (by unfold Sub; decide +kernel) (Keeps.refl _ _)).trans (rehashReads_keeps lost l _)

theorem rehashPuts_dated : ∀ (l : List ClsEnt) {d : Device}, Dated n r d → d.now16 = n →
    Dated n r (l.foldl Device.rehashPut d) ∧ Keeps rehashPlaces d (l.foldl Device.rehashPut d)
  | [], d, h, _ => ⟨h, Keeps.refl _ d⟩
  | e :: l, d, h, hnow => by
    have hput : Keeps rehashPlaces d (d.rehashPut e) := rehashPut_keeps (by unfold Sub; decide +kernel) (Keeps.refl _ _)
    obtain ⟨hdated, hkeeps⟩ := rehashPuts_dated l (h.rehashPut hnow e) ((now16_keeps hput (by decide)).trans hnow)
    exact ⟨hdated, hput.trans hkeeps⟩

/-- The entries that lay on the lost channel: inserted again from their objects, or lost. -/
theorem rehashLost_dated (forced : Bool) (l : List ClsEnt) {d : Device} (h : Dated n r d) :
    Dated n r (l.foldl (if forced then Device.rehashAgain else Device.rehashLose) d) ∧
      Keeps rehashPlaces d (l.foldl (if forced then Device.rehashAgain else Device.rehashLose) d) := by
  cases forced
  · exact ⟨Dated.foldl l (fun x hx e _ => hx.tabled (rehashLose_tabled x e)) h,
      Keeps.foldl (Keeps.refl _ _) fun x e hx => rehashLose_keeps (by unfold Sub; decide +kernel) hx⟩
  · exact ⟨Dated.foldl l (fun x hx e _ => hx.rehashAgain e) h,
      Keeps.foldl (Keeps.refl _ _) fun x e hx => rehashAgain_keeps (by unfold Sub; decide +kernel) hx⟩

theorem memRehashSwitch_ends {c : Nat} {forced : Bool} {s : State} (hretiring : s.dev.mem.retiring = some (c, forced))
    (hswitched : s.dev.mem.switched = false) (hfatal : s.dev.rd O.FLT_FATAL_SINCE_BOOT = 0) (hjobs : s.dev.clsx.jobs = []) :
    ∃ t, exec .memRehashSwitch s = .next t ∧ t.dev.rd O.MEM_REHASH_DONE = 524288 ∧ t.dev.tableLost = some c ∧
      (∀ p, (t.dev.way p).learned = true → resStamp (t.dev.way p).result = s.dev.phcSecond % 65536) ∧
      Keeps (O.MEM_REHASH_DONE :: rehashPlaces) s.dev t.dev := by
  obtain ⟨buckets, good, lost, hshape⟩ := memRehashSwitch_shape hretiring hswitched hfatal hjobs
  have hinserts : Keeps rehashPlaces s.dev (s.dev.setInserts []) := setInserts_keeps (by unfold Sub; decide +kernel) (Keeps.refl _ _)
  have hreads := rehashReads_keeps (if forced then some c else none) buckets ([], s.dev.setInserts [])
  have htabled := rehashReads_tabled (if forced then some c else none) buckets ([], s.dev.setInserts [])
  generalize (buckets.foldl (rehashRead (if forced then some c else none)) ([], s.dev.setInserts [])).2 = x at hshape hreads htabled
  have hretiring' : x.mem.retiring = some (c, forced) := htabled.retiring.trans hretiring
  have hswitch : Keeps rehashPlaces x x.switchTable := switchTable_keeps (by unfold Sub; decide +kernel) (Keeps.refl _ _)
  have hbegun := (hinserts.trans hreads).trans hswitch
  have hdone : Keeps (O.MEM_REHASH_DONE :: rehashPlaces) s.dev (x.switchTable.wr O.MEM_REHASH_DONE 0 524288) :=
    Keeps.wr (Or.inl List.mem_cons_self) (hbegun.mono (by unfold Sub; decide +kernel))
  have hdated := (switchTable_dated (n := s.dev.now16) hretiring').tabled (wr_tabled x.switchTable O.MEM_REHASH_DONE 0 524288)
  have hword : (x.switchTable.wr O.MEM_REHASH_DONE 0 524288).rd O.MEM_REHASH_DONE = 524288 := rd_wr_self _ _ _ _
  generalize x.switchTable.wr O.MEM_REHASH_DONE 0 524288 = y at hshape hdone hdated hword
  obtain ⟨hputs, hkeepsPuts⟩ := rehashPuts_dated good hdated (now16_keeps hdone (by decide))
  obtain ⟨hlost, hkeepsLost⟩ := rehashLost_dated forced lost hputs
  rw [← hshape] at hlost hkeepsLost
  have hkeeps := hkeepsPuts.trans hkeepsLost
  refine ⟨{ s with dev := s.dev.memRehashSwitch }, rfl, ?_, ?_, hlost.stamps, hdone.trans (hkeeps.mono fun k hk => List.mem_cons_of_mem _ hk)⟩
  · exact (hkeeps.objs (by decide) _ _ (by decide)).trans hword
  · show s.dev.memRehashSwitch.tableLost = some c
    unfold tableLost
    rw [hlost.switched, hlost.retiring]
    rfl

end Device
end Sys2Proof.Machine
end

section
/-!
PROOF. The family 03_holloth_ring_and_host_port: memory channels retire, and the masters reach memory through the window and the BAR2
aperture (O55).
-/
set_option Elab.async false
namespace Sys2Proof.Machine

section
open Device

theorem memChUncorrRetire_first {c : Nat} {s : State} (hready : s.dev.memReady = true) (hc : c < 4)
    (hfree : ∀ k, k < 4 → s.dev.rd O.MEM_CH_STATE k = 0) (hmany : s.dev.rd O.MEM_CH_RETIRE_UNCORR c ≤ s.dev.uncorrNow c)
    (hcalm : Calm (0x300 + c) 2 s.dev) (hseen : Seen (0x300 + c) s.dev) (hroom : EventRoom s.dev) :
    ∃ t, exec (.memChUncorrRetire c) s = .next t ∧ Retired c 3 true t.dev ∧
      Only (retireRows c) (F.memRest :: O.FLT_STATUS :: noted) s.dev t.dev := by
  have heq := memChUncorrRetire_eq hready hc (by rw [hfree c hc]; decide) hmany
  obtain ⟨hretired, -, -⟩ := startRetire_retired 3 true hfree hc hcalm hseen
  have honly := startRetire_only 3 true hfree hc hcalm hseen hroom
  rw [← heq] at hretired honly
  exact ⟨{ s with dev := s.dev.memChUncorrRetire c }, rfl, hretired, honly⟩

theorem memChUncorrRetire_second {c k : Nat} {s : State} (hready : s.dev.memReady = true) (hc : c < 4) (hstate : s.dev.rd O.MEM_CH_STATE c = 0)
    (hk : k < 4) (htaken : s.dev.rd O.MEM_CH_STATE k ≠ 0) (hmany : s.dev.rd O.MEM_CH_RETIRE_UNCORR c ≤ s.dev.uncorrNow c)
    (hcalm : Calm (0x300 + c) 3 s.dev) (hseen : Seen (0x300 + c) s.dev) :
    ∃ t, exec (.memChUncorrRetire c) s = .next t ∧ t.dev.rd O.MEM_CH_STATE c = 0 ∧ (t.dev.rd O.FLT_STATUS).testBit 3 = true ∧
      t.dev.mode = .safe ∧ Keeps faulting s.dev t.dev := by
  have heq := (memChUncorrRetire_eq hready hc (by rw [hstate]; decide) hmany).trans (startRetire_second 3 true hstate hk htaken)
  obtain ⟨-, hboot, -⟩ := mode_of_memReady hready
  obtain ⟨hstatus, hmode⟩ := fault_severe (0x0300 + c) (leBytes 4 c) hseen hcalm hboot
  have hkeeps : Keeps faulting s.dev (s.dev.fault (0x300 + c) (0x0300 + c) 3 (leBytes 4 c)) :=
    fault_keeps (by unfold Sub; decide +kernel) (Keeps.refl _ _)
  rw [← heq] at hstatus hmode hkeeps
  exact ⟨{ s with dev := s.dev.memChUncorrRetire c }, rfl, (hkeeps.objs (by decide +kernel) _ _ (by decide +kernel)).trans hstate, hstatus, hmode, hkeeps⟩

/-- The refusals of R328 and R333, as the statement lists them. -/
theorem window_refusals {r : Req} {w e : Nat} {i : Instr} {o role : Nat} {g : Region} {s : State} (hasked : Asked r O.MEM_WIN_CMD w s.dev)
    (ho : o = s.dev.rd O.MEM_WIN_OFFSET w) (hrole : role = s.dev.roleOf r) (hg : g = regionOf o)
    (hwhy : s.dev.mapped o = true ∧ e = 0xA003 ∧ (i = Instr.memWinRead r w ∧ s.dev.memReadRight role g ≠ 2 ∨
        i = .memWinWrite r w ∧ s.dev.memWriteRight role g = false ∨ i = .readCiphertext r w ∧ s.dev.memReadRight role g = 0 ∨
        i = .memReinit r w ∧ (role ≠ 1 ∨ g ≠ .scratch)) ∨
      s.dev.mapped o = false ∧ e = 0xA101 ∧ i ∈ [Instr.memWinRead r w, .memWinWrite r w, .readCiphertext r w, .memReinit r w] ∨
      s.dev.mapped o = true ∧ e = 0xA101 ∧ inLine o (s.dev.rd O.MEM_WIN_LEN w) = false ∧
        (i = .memWinRead r w ∧ s.dev.memReadRight role g = 2 ∨ i = .memWinWrite r w ∧ s.dev.memWriteRight role g = true)) :
    ∃ t, exec i s = .next t ∧ Answers r e t.dev ∧ Only [] asked s.dev t.dev := by
  subst ho hrole hg
  obtain ⟨hread, hwrite, hcipher, hreinit⟩ := windowCommand_refused (e := e) hasked
  rcases hwhy with ⟨hmapped, he, hright⟩ | ⟨hmapped, he, hi⟩ | ⟨hmapped, he, hin, hright⟩
  · rcases hright with ⟨rfl, hright⟩ | ⟨rfl, hright⟩ | ⟨rfl, hright⟩ | ⟨rfl, hright⟩
    · exact hread (Or.inl ⟨hmapped, by simpa using hright, he⟩)
    · exact hwrite (Or.inl ⟨hmapped, hright, he⟩)
    · exact hcipher (Or.inl ⟨hmapped, by simp [hright], he⟩)
    · refine hreinit (Or.inl ⟨hmapped, ?_, he⟩)
      rcases hright with hright | hright <;> simp [hright]
  · simp only [List.mem_cons, List.not_mem_nil, or_false] at hi
    rcases hi with rfl | rfl | rfl | rfl
    · exact hread (Or.inr (Or.inl ⟨hmapped, he⟩))
    · exact hwrite (Or.inr (Or.inl ⟨hmapped, he⟩))
    · exact hcipher (Or.inr (Or.inl ⟨hmapped, he⟩))
    · exact hreinit (Or.inr (Or.inl ⟨hmapped, he⟩))
  · rcases hright with ⟨rfl, hright⟩ | ⟨rfl, hright⟩
    · exact hread (Or.inr (Or.inr ⟨hmapped, by simpa using hright, hin, he⟩))
    · exact hwrite (Or.inr (Or.inr ⟨hmapped, hright, hin, he⟩))

/-- Settles O55: a first retirement raises DEGRADED and a second SEVERE; the new table of a rehash holds only what is inserted with a
fresh stamp; evacuation is one counted write per line; the window and the aperture are single accesses to sound memory. -/
theorem channelsRetireAndMastersReachMemory : Obligations.ChannelsRetireAndMastersReachMemory := by
  unfold Obligations.ChannelsRetireAndMastersReachMemory
  refine ⟨?retire, ?taken, ?uncorrectable, ?second, ?calibrationLoss, ?regained, ?calibrationLost, ?served, ?rehash, ?evacuation,
    ?windowRead, ?windowPoisoned, ?windowWrite, ?ciphertext, ?reinit, ?windowRefused, ?apertureRead, ?apertureStored,
    ?apertureReadRefused, ?apertureWrite, ?apertureWriteRefused⟩
  case retire =>
    intro r c s hasked hfree hcalm hseen hroom
    obtain ⟨t, ht, ⟨hstate, hcause, hdone, hretiring, hlatched⟩, hresult, hans, honly⟩ := memChRetire_first hasked hfree hcalm hseen hroom
    exact ⟨t, ht, hstate, hcause, hdone, hretiring, hlatched, hresult, hans, honly⟩
  case taken =>
    intro r c k s hasked hk htaken
    exact memChRetire_taken hasked hk htaken
  case uncorrectable =>
    intro c s hready hc hfree hmany hcalm hseen hroom
    obtain ⟨t, ht, ⟨hstate, hcause, -, hretiring, hlatched⟩, honly⟩ := memChUncorrRetire_first hready hc hfree hmany hcalm hseen hroom
    exact ⟨t, ht, hstate, hcause, hretiring, hlatched, honly⟩
  case second =>
    intro c k s hready hc hstate hk htaken hmany hcalm hseen
    exact memChUncorrRetire_second hready hc hstate hk htaken hmany hcalm hseen
  case calibrationLoss =>
    intro c s hready hc hstate hnew hseen
    exact memCalibrationLoss_shows hready hc hstate hnew hseen
  case regained =>
    intro c e s he hc hidle hseen
    exact memCalibrationRegained_shows he hc hidle hseen
  case calibrationLost =>
    intro c at0 s hclock hlost hfree hc hidle hcalm hseen
    obtain ⟨t, ht, hcyc, ⟨hstate, hcause, -, hretiring, hlatched⟩, hkeeps⟩ := memCalibrationLost_retires hclock hlost hfree hc hidle hcalm hseen
    exact ⟨t, ht, hcyc, hstate, hcause, hretiring, hlatched, hkeeps⟩
  case served =>
    intro c p s hsound hcalib hplace hgood hwait hstate hseen
    exact memCalibrationRegained_serves hsound hcalib hgood hwait hseen
  case rehash =>
    intro c forced s hretiring hswitched hfatal hsound hgood hjobs
    obtain ⟨t, ht, hdone, hlost, hstamps, hkeeps⟩ := memRehashSwitch_ends hretiring hswitched hfatal hjobs
    exact ⟨t, ht, hdone, hlost, hstamps, hkeeps.mono (by unfold Sub; decide +kernel)⟩
  case evacuation =>
    intro c forced s hretiring hswitched hfatal hc hothers hsound
    obtain ⟨t, ht, hended⟩ := memEvacuationDone_ends hretiring hswitched hfatal hc hothers hsound
    exact ⟨t, ht, hended.state, hended.retiring, hended.lost, hended.cells, hended.forcedLines, hended.otherLines, hended.frame.mono (by unfold Sub; decide)⟩
  case windowRead =>
    intro r w o s hasked ho hmapped hright hin hsound hgood hunarmed
    exact memWinRead_plain hasked ho hmapped hright hin hsound hgood hunarmed
  case windowPoisoned =>
    intro r w o s hasked ho hmapped hright hin hsound hbad hcalm
    exact memWinRead_poisoned hasked ho hmapped hright hin hsound hbad hcalm
  case windowWrite =>
    intro r w o s hasked ho hscratch hright hin hsound hgood
    exact memWinWrite_scratch hasked ho hscratch hright hin hsound hgood
  case ciphertext =>
    intro r w o s hasked ho hmapped hright hin hctr hunarmed
    exact readCiphertext_stored hasked ho hmapped hright hin hctr hunarmed
  case reinit =>
    intro r w o s hasked ho hscratch hrole hin hsound
    exact memReinit_zeros hasked ho hscratch hrole hin hsound
  case windowRefused =>
    intro r w i e o role g s hasked ho hrole hg hwhy
    exact window_refusals hasked ho hrole hg hwhy
  case apertureRead =>
    intro o n s hready hn hin hmapped hright hsound hgood
    exact apertureRead_plain hready hn hin hmapped hright hsound hgood
  case apertureStored =>
    intro o n p s hready hn hin hp hmapped hright hctr
    exact apertureRead_stored hready hn hin hp hmapped hright hctr
  case apertureReadRefused =>
    intro o n s hmode hclosed
    exact apertureRead_refused hmode hclosed
  case apertureWrite =>
    intro o v s hready hv hin hscratch hright hsound hgood
    exact apertureWrite_scratch hready hv hin hscratch hright hsound hgood
  case apertureWriteRefused =>
    intro o v s hmode hclosed
    exact apertureWrite_refused hmode hclosed

end

end Sys2Proof.Machine
end
